-- ==== Sys2Proof/Word.lean ====
section
/-! DEFINITION. The words of the part and the plain containers of the state: bytes, 32-bit
words, binary32 bit patterns, endpoint identities, sparse tables and sets of four. -/

namespace Sys2Proof

/-- A byte. -/
abbrev Byte := BitVec 8

/-- A 32-bit register word. -/
abbrev Word := BitVec 32

/-- A binary32 value as its bit pattern (log 12). -/
abbrev F32 := BitVec 32

/-- An endpoint identity (01 R14). -/
abbrev Endpoint := BitVec 8

/-- A sparse table: entries by rising number, none listed twice. -/
abbrev Tab (α : Type) := List (Nat × α)

/-- One value per actuator, by actuator number. -/
structure Four (α : Type) where
  a0 : α
  a1 : α
  a2 : α
  a3 : α
  deriving DecidableEq, Repr

/-- The same value for every actuator. -/
def Four.all {α : Type} (x : α) : Four α := ⟨x, x, x, x⟩

end Sys2Proof
end

