-- ==== Sys2Proof/Syntax.lean ====
section
/-! DEFINITION. The commands: one constructor of `Instr` per row of spec/opcode_table.json, with
the operands the model gives each row, and the types of those operands. The table gives the rows no
fields; an operand is what reaches the part from outside as the step happens, a measured value, an
address or a request (log 4). -/

namespace Sys2Proof

/-- Whether a transaction reads, writes or modifies atomically (R22). -/
inductive AccKind where
  /-- A read. -/
  | read
  /-- A write. -/
  | write
  /-- A RISC-V atomic memory operation. -/
  | amo
  deriving DecidableEq, Repr

/-- The kinds of RISC-V atomic memory operation (PRESUMED from the RISC-V A extension, log 13). -/
inductive AmoOp where
  | swap | add | xor | and | or | min | max | minu | maxu
  deriving DecidableEq, Repr

/-- One access of an initiator (R22): what it does, where, how many bytes and the bytes written. -/
structure Access where
  kind : AccKind
  amo : AmoOp
  addr : Nat
  size : Nat
  data : List Byte
  deriving DecidableEq, Repr

/-- What a target answers (R24): its data and OK, OK with a byte its memory corrected (R399), data
uncorrectable at the target or in transit (kind 0x5), or a target error (kind 0x7). The target's own
fault source and kind are named, and which byte of the access failed. -/
inductive RespKind where
  | ok
  | okCorrected (source : BitVec 8) (kind : BitVec 4) (byte : Nat)
  | uncorrTransit
  | uncorrTarget (source : BitVec 8) (kind : BitVec 4) (byte : Nat)
  | targetError (source : BitVec 8) (kind : BitVec 4)
  deriving DecidableEq, Repr

/-- What a core's own memories find in an access (R399, R419): nothing, a byte of its tightly coupled
memory or of its L2 corrected, or one with two bad bits; `byte` is the byte's place in the access. -/
inductive CoreEcc where
  | clean
  | tcmCorrected (byte : Nat)
  | tcmBad (byte : Nat)
  | l2Corrected (byte : Nat)
  | l2Bad (byte : Nat)
  deriving DecidableEq, Repr

/-- The signals of R57 that declare power loss. -/
inductive PlCause where
  | comparator | v12 (mv : Nat) | v5 (mv : Nat) | pwrdis
  deriving DecidableEq, Repr

/-- An object's address (R66). -/
structure ObjKey where
  index : BitVec 16
  sub : BitVec 8
  deriving DecidableEq, Repr

/-- An object's value: a number as the bits of its type, or a string of bytes (R67). -/
inductive OdVal where
  | num (v : Nat)
  | oct (b : List Byte)
  deriving DecidableEq, Repr

/-- One item of a request: index, subindex, type and the value's bytes (R72, R80). -/
structure WriteItem where
  key : ObjKey
  ty : BitVec 8
  bytes : List Byte
  deriving DecidableEq, Repr

/-- A sender, identified as R84 gives for its transport. -/
inductive Sender where
  | t1s (mac : BitVec 48) (node : BitVec 16)
  | i3c (eid : BitVec 8)
  | nvme (ctrl : Fin 2)
  deriving DecidableEq, Repr

/-- A session: one sender (which names its transport) in one role (R74). -/
structure SessionId where
  sender : Sender
  role : BitVec 2
  deriving DecidableEq, Repr

/-- How a Buyth frame reaches the drive (R88 to R90): an Ethernet frame with its addresses, EtherType
and whether it carries a VLAN tag; an MCTP message, reassembled, with its source endpoint, message type
and enterprise number; or a Buyth Send of a controller. -/
inductive Link where
  | t1s (src dst : BitVec 48) (etherType : BitVec 16) (vlan : Bool)
  | i3c (eid : BitVec 8) (msgType : BitVec 8) (enterprise : BitVec 32)
  | nvme (ctrl : Fin 2)
  deriving DecidableEq, Repr

/-- A frame as it reaches the server: its bytes (R79), how many requests of its transport already wait
(R77), and which guests answer an access within 10 ms (R71). -/
structure Frame where
  link : Link
  bytes : List Byte
  queued : Nat
  guests : BitVec 4
  deriving DecidableEq, Repr

/-- A frame on its transport: the link it came by and its bytes. -/
structure Wire where
  link : Link
  bytes : List Byte
  deriving DecidableEq, Repr

/-- What a frame finds as it arrives: how many requests of its transport already wait (R77), and which
guests answer an access within 10 ms (R71). -/
structure Arrival where
  queued : Nat
  guests : BitVec 4
  deriving DecidableEq, Repr

/-- The frame that arrives on its transport. -/
def Frame.of (w : Wire) (x : Arrival) : Frame :=
  { link := w.link, bytes := w.bytes, queued := x.queued, guests := x.guests }

/-- A frame without what it finds. -/
def Frame.wire (f : Frame) : Wire := { link := f.link, bytes := f.bytes }

/-- What a frame finds as it arrives. -/
def Frame.here (f : Frame) : Arrival := { queued := f.queued, guests := f.guests }

/-- How the programming of a store copy ended (R75). -/
inductive SaveResult where
  | done | programFailed | verifyFailed
  deriving DecidableEq, Repr

/-- A guest object as its guest reports it (R71). -/
structure GuestObj where
  key : ObjKey
  ty : BitVec 8
  access : BitVec 2
  role : BitVec 2
  saved : Bool
  dflt : Option OdVal
  value : OdVal
  deriving DecidableEq, Repr


/-- One sector a read operation asks for (R211, R246): its place on the track, the tag it must
carry, where its data goes, the nominal sample indices of mark A and the Substitute mark, those of
its continuation marks, and the host command it serves, by fetch number. -/
structure SectorReq where
  sector : Nat
  tag : BitVec 64
  dest : Nat
  nomA : Nat
  nomB : Nat
  conts : List Nat
  cmd : Option Nat
  nsid : Nat
  lba : Nat
  deriving DecidableEq, Repr

/-- A read operation that resident firmware posts to an island (R205, R211). `ladder` names the
recovery ladder whose re-read it is. -/
structure ReadOp where
  opId : BitVec 32
  head : BitVec 5
  zone : BitVec 6
  track : BitVec 24
  sectors : List SectorReq
  ladder : Option Nat
  deriving DecidableEq, Repr

/-- What the ADCs deliver while one read gate is open (R205, R217, R242): both readers' codes from 16 bits
before the nominal preamble start to 16 bits after the pad, without those of servo gates, indexed after the
whole bits of RB_DELAY; and the index at which a servo gate opens that the read operation did not place. -/
structure GateInputs where
  samplesA : List (BitVec 7)
  samplesB : List (BitVec 7)
  servo : Option Nat
  deriving DecidableEq, Repr

/-- A defect region (R215, R218): the readers it flags, its kind, length and start. -/
structure Region where
  b : Bool
  a : Bool
  dropout : Bool
  length : BitVec 12
  start : BitVec 16
  deriving DecidableEq, Repr

/-- A replay request (R228). `ladder` names the recovery ladder that asks, for a resident one. -/
structure ReplayReq where
  resident : Bool
  ladder : Option Nat
  slot : BitVec 3
  anchor : BitVec 2
  index : BitVec 16
  offset : Int
  bank : Option (BitVec 3)
  weights : Option Word
  erase : BitVec 2
  extra : Word
  iter : Nat
  deriving DecidableEq, Repr

/-- What a row-parity rebuild has before it (R251, R254): the members missing, numbered 0 to k - 1
with P as k and Q as k + 1, and the data of the others, by number. -/
structure RebuildInputs where
  missing : List Nat
  present : List (Nat × List Byte)
  deriving DecidableEq, Repr

/-- A write operation (R271): per sector, its source address and tag. -/
structure WriteOp where
  opId : BitVec 32
  head : BitVec 5
  zone : BitVec 6
  track : BitVec 24
  first : Nat
  sectors : List (Nat × BitVec 64)
  deriving DecidableEq, Repr

/-- A chunk to destage (R313): the command, by fetch number, its map units, and per stripe, in the
order of the list of stripes, the predicted seek time to its write point, in microseconds; where its pages begin in the buffer, and where resident
firmware puts parity and fillers. -/
structure ChunkInputs where
  cmd : Nat
  gmu : Nat
  len : Nat
  seeks : List Nat
  src : Nat
  spare : Nat
  deriving DecidableEq, Repr

/-- A physical sector: actuator, head, track and sector index (R260). -/
structure PhysSector where
  act : Fin 4
  head : BitVec 5
  track : BitVec 24
  sector : Nat
  deriving DecidableEq, Repr

/-- A Homework job (R324): its code, the logical or pooled band it works on, its actuator and head,
the free slot it writes, and the sector it relocates. -/
structure JobReq where
  code : Nat
  band : Nat
  act : Fin 4
  head : BitVec 5
  toAct : Fin 4
  toHead : BitVec 5
  toZone : BitVec 6
  toTrack : BitVec 24
  sector : Option PhysSector
  deriving DecidableEq, Repr

/-- The operations a Timetable candidate can be (R344, R350). -/
inductive CandKind where
  | foreground (cmd : Nat) (write : Bool)
  | obligatory (kind job : Nat) (write : Bool)
  | optional (write : Bool)
  deriving DecidableEq, Repr

/-- One way to run a candidate (R344, R347): its seek class, its duration, and per 10 us slot from its
start the magnitude of the seek's acceleration in 10^6 tracks/s2 and its gates (bit 0 read gate, bit 1
write gate, bit 2 write heater); whether it loads or unloads heads, whether it is a calibration grant,
and the spindle acceleration in rpm/s. -/
structure Plan where
  cls : Nat
  us : Nat
  acc : List Nat
  gates : List (BitVec 3)
  load : Bool
  cal : Bool
  ramp : Nat
  deriving DecidableEq, Repr

/-- A candidate operation (R338, R350): its deadline in chip time, the predicted time until its
first sector, and its plans in rising order of class. -/
structure Cand where
  id : Nat
  act : Fin 4
  head : BitVec 5
  kind : CandKind
  due : BitVec 64
  tAcc : Nat
  seek : Bool
  plans : List Plan
  deriving DecidableEq, Repr

/-- What a period boundary brings (R338, R345): the candidates; the operations that ended, each with the
measured 12 V charge of its seek; and the measured charge of the last period for the spindle and for each
actuator's VCM, in uC. -/
structure BoundaryInputs where
  cands : List Cand
  ended : List (Nat × Nat)
  spindle : Nat
  vcm : List Nat
  deriving DecidableEq, Repr

/-- The head of an NVMe command as fetched (R370): its controller, submission queue and command
identifier. -/
structure NvmeHdr where
  ctrl : Fin 2
  sqid : Nat
  cid : Nat
  deriving DecidableEq, Repr

/-- The blocks an I/O command names (R302). -/
structure IoRange where
  nsid : Nat
  lba : Nat
  nlb : Nat
  deriving DecidableEq, Repr

/-- What the boot ROM's scan of the NOR flash finds bad (R75, R491): the SEQs of the ring records that fail
their CRC, and which store copies lost bits while the power was off. -/
structure NorScan where
  ring : List Nat
  store : BitVec 2
  deriving DecidableEq, Repr

/-- What the back-EMF measurement finds besides the speed (R112): its direction and electrical angle. -/
structure CatchFind where
  reverse : Bool
  angle : BitVec 16
  deriving DecidableEq, Repr

/-- A write pass that comes round again (R282): its actuator, and the channel bits from the first one
written to 16 bits before the next servo gate. -/
structure PassInputs where
  act : Fin 4
  room : Nat
  deriving DecidableEq, Repr

/-- What closing a row group has before it (R316): where resident firmware puts parity and fillers in the
buffer, and whether a member read again after a restore fails steps 1 and 2 of the ladder. -/
structure CloseInputs where
  spare : Nat
  lost : Bool
  deriving DecidableEq, Repr

/-- What CC and AQA ask for as a controller is enabled (R365, R368): the arbitration mechanism and the sizes
of the admin queues, counted from 0. -/
structure EnableSetup where
  ams : BitVec 3
  asqs : BitVec 12
  acqs : BitVec 12
  deriving DecidableEq, Repr

/-- How a page program ends, and the erase of the sector ahead where the program starts one (R483). -/
structure FlashOutcome where
  programmed : Bool
  erased : Bool
  deriving DecidableEq, Repr

/-- What the I3C bus shows of an ENTDAA (R89, R96): bits [11:0] of the provisional ID that won the
arbitration, the dynamic address and the endpoint ID then assigned (0: none), and whether the bus failed. -/
structure DaaInputs where
  pid : BitVec 12
  addr : BitVec 8
  eid : BitVec 8
  busFault : Bool
  deriving DecidableEq, Repr

/-- The PCIe errors of R392. -/
inductive PcieErr where
  | correctable | uncorrectable | hostAccess
  deriving DecidableEq, Repr


/-- What one PWM period shows (R99, R105): the codes of the nine ADC channels, the observer's estimates of
electrical angle and speed (rpm x 16), the phase currents it predicted in mA, its torque (as a current
in mA) and stator flux (mV per rpm times rpm), whether a 60-degree step boundary was passed, and the
deviation of a floating-phase zero crossing from the predicted angle, in 1 / 65,536 turn. -/
structure PwmInputs where
  adc : List (BitVec 12)
  angle : BitVec 16
  speed : BitVec 17
  pred : List F32
  torque : F32
  flux : F32
  boundary : Bool
  crossing : Option (BitVec 16)
  deriving DecidableEq, Repr

/-- What one actuator's sensors show at a sample instant (R136, R140): the ADC codes of the coil current and micro-actuator senses, the rotational vibration
senses, the shock sense and the 12 V sense. -/
structure SampleInputs where
  vcs : BitVec 12
  mas : BitVec 12
  rva : BitVec 12
  rvb : BitVec 12
  shk : BitVec 12
  v12 : BitVec 12
  deriving DecidableEq, Repr

/-- A servo field as both readers deliver it (R137 to R139): the 16 bits where the servo address mark
stands and the instant in sixteenths of a tick, the Gray-coded track, the wedge number, the signed
burst amplitudes of readers A and B and the RRO word. -/
structure WedgeInputs where
  sam : BitVec 16
  instant : Nat
  tid : BitVec 24
  wedge : BitVec 10
  n1A : F32
  n2A : F32
  n1B : F32
  n2B : F32
  rro : BitVec 20
  deriving DecidableEq, Repr

/-- What link ECC says of the burst of a request (R401), the byte errors that its cells have added to the
granule, and those that the link leaves in this burst (R396): position 0-4 folded, 5-68 data, 69-76 check
bytes, and value. -/
structure LinkEcc where
  corrected : Bool
  detected : Bool
  retryFailed : Bool
  errs : List (Nat × Byte)
  burst : List (Nat × Byte)
  deriving DecidableEq, Repr

/-- A cipher job (R420 to R422): a media job names a key slot, its data-unit size, the count of
units, its length and first LBA; a management job names a role key, its length, nonce, additional
data and, to decrypt, the tag. -/
structure CipherJob where
  id : Nat
  gcm : Bool
  encrypt : Bool
  slot : Nat
  unit : Nat
  count : Nat
  length : Nat
  lba : Nat
  src : Nat
  dst : Nat
  iv : List Byte
  aad : List Byte
  tag : List Byte
  deriving DecidableEq, Repr

/-- Whose bank of the Yearbook window is used (R488). -/
inductive YbWho where
  | principal (core : Fin 4)
  | housekeeping
  | actuator (a : Fin 4)
  deriving DecidableEq, Repr

/-- Who asks for a power domain to be switched (R498, R500). -/
inductive Requester where
  | sequencer | timetable | pcie | resident | monitor | dictionary | other
  deriving DecidableEq, Repr

/-- What a head measurement read (R509): the band whose slot it used, the photodiode readings (sensor 4)
of the eight LASER_BIAS steps, sensors 1 to 3, the readings of sensor 6 at the 16 heater steps, and the
change of RCH_MGN_SUM over the 1,024 sectors; `cut` says it was cut short. -/
structure Measurement where
  band : Nat
  photo : List Int
  ra : Nat
  rb : Nat
  writer : Nat
  touch : List Int
  margin : Nat
  cut : Bool
  deriving DecidableEq, Repr

/-- The instructions of the JTAG TAP (R557). -/
inductive JtagIr where
  | bypass | idcode | other
  deriving DecidableEq, Repr

/-- The commands of the part. -/
inductive Instr where
  /-- `POWER_ON_RESET` (R41). Power-on reset is released with valid supplies. The housekeeping
  core runs the boot ROM, and DRAM training, SRAM fill and spin-up begin. Operands: straps
  GPIO[5:0]; DUALPORTEN# level; 12 V and 5 V senses in mV; what the scan of the NOR flash finds
  bad. -/
  | powerOnReset (straps : BitVec 6) (dualPortN : Bool) (v12 v5 : Nat) (nor : NorScan)
  /-- `SUPPLY_RECHECK` (R42). Each 1 ms, out-of-range supplies are checked again, and the spindle
  starts at the first good check. Operands: the senses in mV at this 1 ms check. -/
  | supplyRecheck (v12 v5 : Nat)
  /-- `SUPPLY_CHECK_TIMEOUT` (R42). After 5 s without both supplies in range, fault 3 is raised,
  the spindle is not started and bring-up heads for LIMITED. -/
  | supplyCheckTimeout
  /-- `DRAM_TRAINING_DONE` (R405). DRAM training ends. On success, event 1 is raised and the fill
  starts; on failure, fault 2 is raised and the fill is skipped. Operands: channels that failed, 0
  is success; raw DRAM in GiB. -/
  | dramTrainingDone (failMask : BitVec 4) (raw : Nat)
  /-- `DRAM_FILL_COMPLETE` (R405). Every DRAM row is written with zeros, check bytes and its
  signature, and event 2 is raised. Operands: milliseconds taken. -/
  | dramFillComplete (ms : Nat)
  /-- `CORE_RELEASE` (R43). Once all fills are done, core 0 is released (event 3), PD30 switches
  on, GPIO edge detection starts and pending interrupts reach core 0. -/
  | coreRelease
  /-- `BOOT_IMAGE_VERIFY` (R44). The boot ROM verifies resident images in slot order and runs the
  first that verifies, or raises fault 1 and serves the UART download. Operands: bit s-1: the
  image in slot s verifies. -/
  | bootImageVerify (good : BitVec 3)
  /-- `RESIDENT_FIRMWARE_RUNNING` (R38). Resident firmware runs (event 4), and the mode moves from
  FILL to ORIENTATION or to LIMITED. Operands: heads of each actuator; channel bits of the
  smallest data area of each actuator and zone of the layout. -/
  | residentFirmwareRunning (heads : List Nat) (areas : List (Fin 4 × Nat × Nat))
  /-- `HOST_ISLAND_CONFIGURED` (R365). The host controller is configured, and configuration
  requests are answered normally from then on. -/
  | hostIslandConfigured
  /-- `ORIENTATION_HEAD_LOAD` (R46). Once the spindle holds rated speed, each present actuator
  loads its heads with starter parameters. -/
  | orientationHeadLoad
  /-- `MAPPING_RESTORE` (R322). The mapping is restored from the checkpoint and the journal
  groups, then open groups are closed and copies brought up to date, or fault 6 is raised and
  LIMITED entered. Operands: journal (false) or checkpoint (true) sequences that an actuator's
  copy cannot yield; duration. -/
  | mappingRestore (lost : List (Fin 4 × Bool × Nat)) (ms : Nat)
  /-- `CAL_DONE` (R47). A write of ISL_CTL.CAL_DONE reports calibration complete (event 10 + a),
  and the device enters SERVICE once every actuator has reported. Operands: head temperatures the
  preamp reported at CAL_DONE. -/
  | calDone (a : Fin 4) (temps : List Int)
  /-- `CAL_FAIL` (R47). A write of ISL_CTL.CAL_FAIL reports calibration failure: fault 4 is
  raised, the actuator becomes unsafe and the device enters LIMITED. -/
  | calFail (a : Fin 4)
  /-- `CAL_TIMEOUT` (R47). An actuator that reports nothing within CAL_LIMIT of its heads loading
  raises fault 5 and the device enters LIMITED. -/
  | calTimeout (a : Fin 4)
  /-- `LIMITED_ACTUATOR_LOAD` (R569). In LIMITED, once the spindle holds rated speed and the
  mapping is restored, each safe actuator not yet loaded loads its heads for reads. -/
  | limitedActuatorLoad (a : Fin 4)
  /-- `POWER_STATE_ENTRY` (R50). Entry to RECESS or DORMANT starts when the table has drained:
  background stops, the cache is flushed for DORMANT and pending changes are committed. -/
  | powerStateEntry
  /-- `ENTRY_DOMAINS_OFF` (R50). Once all heads are unloaded, the actuator, LDPC and placement
  domains switch off, then the spindle slews or brakes, or the entry is cut short by a command. -/
  | entryDomainsOff
  /-- `RECESS_SLEW_END` (R50). The spindle reference reaches RECESS_RPM, ending step 7 and marking
  the new mode with event 0. -/
  | recessSlewEnd
  /-- `RETURN_IDLE_EXPIRY` (R40). When no media command has been outstanding for RETURN_IDLE, the
  device heads for the effective target mode. -/
  | returnIdleExpiry
  /-- `POWER_STATE_EXIT` (R51). A command needing the media wakes RECESS or DORMANT: domains
  switch on, DRAM leaves self-refresh, the spindle starts and stored calibration is judged.
  Operands: present head temperatures read on exit. -/
  | powerStateExit (temps : List (Fin 4 × List Int))
  /-- `EXIT_HEAD_LOAD` (R51). Heads load once the spindle is at or above 4,800 rpm, and an
  actuator that fails every attempt becomes unsafe. -/
  | exitHeadLoad (a : Fin 4)
  /-- `MODE_TRANSITION_OVERRUN` (R65). A mode transition that runs 5 s past its expected
  completion raises fault 10. -/
  | modeTransitionOverrun
  /-- `SHUTDOWN_NORMAL` (R53). CC.SHN = 01b or OD 0x0203.01 stops fetching, completes commands,
  flushes the cache, commits the journal, appends a record, unloads the heads and brakes the
  spindle. Operands: requested through OD 0x0203.01 or by CC.SHN of a controller. -/
  | shutdownNormal (viaDict : Bool) (ctrl : Fin 2)
  /-- `SHUTDOWN_ABRUPT` (R54). CC.SHN = 10b runs the shutdown without the flush, reports
  completion within 1 s, then writes the cached data while power stays and brakes the spindle. -/
  | shutdownAbrupt (ctrl : Fin 2)
  /-- `SHUTDOWN_COMPLETE` (R53). After the spindle stops, completion is reported through
  CSTS.SHST, OD 0x0200.08 and event 16, and the device rests in DORMANT. -/
  | shutdownComplete
  /-- `CHIP_RESET` (R56). After the bounded retract of every loaded actuator, every island is
  reset, chip time restarts and bring-up runs again. -/
  | chipReset
  /-- `POWER_LOSS_DECLARED` (R57). A comparator, 12 V, 5 V or PWRDIS condition passes its filter:
  fault 8 or 9 is raised, write gates are inhibited, the preamps are made safe, the spindle goes
  to SYNC_RECT and domains switch off. -/
  | powerLossDeclared (cause : PlCause)
  /-- `EMERGENCY_RETRACT_START` (R58). At 20 µs + 1 ms × a, actuator a starts its back-EMF retract
  toward the ramp. -/
  | emergencyRetractStart (a : Fin 4)
  /-- `LAST_HEAD_PARKED` (R58). When the last head parks, the retract-outcome record is appended
  and the supplies are looked at. Operands: ms from declaration to last park. -/
  | lastHeadParked (ms : Nat)
  /-- `RETRACT_ENERGY_LOW` (R60). Retract energy falls below 6.0 V before every head is parked:
  RETRACT asserts and fault 7 is recorded. Operands: NOR can still be programmed. -/
  | retractEnergyLow (norOk : Bool)
  /-- `POWER_LOSS_END` (R61). Supplies in range for 10 ms after the last park trigger a chip reset
  and a fresh bring-up from FILL. -/
  | powerLossEnd
  /-- `PERST_ASSERT` (R45). PERST# asserted resets only the host island and withdraws host
  commands, leaving the mode unchanged. -/
  | perstAssert
  /-- `PERST_RELEASE` (R45). PERST# released lets the host island come up again, with a new
  identity applied if one was staged. -/
  | perstRelease
  /-- `CORE_MEMORY_ACCESS` (R22). A core load, store or AMO is issued; a misaligned one raises a
  RISC-V exception and nothing enters the fabric. Operands: what the core's own memories find in
  the access. -/
  | coreMemoryAccess (core : Endpoint) (acc : Access) (ecc : CoreEcc)
  /-- `FABRIC_TRANSACTION` (R24). A transaction enters Kyomos and is checked for no target, unit
  absent, denied and powered off, in that order, raising the matching fault source. Operands:
  initiator, DMA channel if any, the access. -/
  | fabricTransaction (src : Endpoint) (chan : Option (Fin 16)) (acc : Access)
  /-- `TRANSACTION_COMPLETE` (R25). A response completes the transaction, with its error kind
  delivered to the initiator, and a response arriving after timeout is discarded. Operands: the
  response of the target. -/
  | transactionComplete (txn : Nat) (resp : RespKind)
  /-- `TRANSACTION_TIMEOUT` (R23). A transaction without a response after 65,536 fabric cycles
  completes with kind 0x6 and fault 44. -/
  | transactionTimeout (txn : Nat)
  /-- `KYOMOS_FENCE` (R16). A fence stops an endpoint issuing until every earlier transaction and
  message has been acknowledged. -/
  | kyomosFence (src : Endpoint)
  /-- `FENCE_COMPLETE` (R16). The last earlier transaction or message is acknowledged, so the
  fence completes and issuing resumes. -/
  | fenceComplete (src : Endpoint)
  /-- `CHIP_TIME_BROADCAST` (R13). Every 1 µs the master sends chip time, and each replica
  corrects its increment or re-seeds with fault 46 beyond 8 ticks. Operands: payload; drift of
  each island replica in ticks as it meets the broadcast, index order of R501. -/
  | chipTimeBroadcast (time : BitVec 64) (drift : List Int)
  /-- `FEED_FORWARD_RECEIVE` (R31). A feed-forward message is received and scheduled for release
  into the sender's mailbox, or released at once if late, counting fault 47. -/
  | feedForwardReceive (src dst : Fin 4)
  /-- `MAILBOX_RELEASE` (R31). At the output instant plus T less 100 ns, the message value is
  released into the mailbox. -/
  | mailboxRelease (src dst : Fin 4)
  /-- `MAILBOX_STALE` (R32). Two receiver periods without a release make the mailbox read 0.0 with
  STALE set. -/
  | mailboxStale (src dst : Fin 4)
  /-- `WEDGE_TIMING_RECEIVE` (R119). Spindle control takes a wedge timing message and updates the
  wedge-measured speed unless the message is flagged. -/
  | wedgeTimingReceive (a : Fin 4)
  /-- `SLEW_NOTICE_RECEIVE` (R34). A demodulator takes a slew notice for its wedge prediction, and
  the island updates its spindle write hold. -/
  | slewNoticeReceive (a : Fin 4)
  /-- `DICT_READ` (R72). Op READ returns status, type and value for up to 64 objects, sampled one
  after another. Operands: a frame whose body spells a READ. -/
  | dictRead (w : Wire) (here : Arrival)
  /-- `DICT_WRITE` (R72). Op WRITE applies up to 64 items, each atomically and each checked for
  role, access, type, range and state, with shadow writes for powered-off fields. Operands: a
  frame whose body spells a WRITE. -/
  | dictWrite (w : Wire) (here : Arrival)
  /-- `STAGE` (R74). Op STAGE checks items and adds them to the session's staged set within 32
  objects and 1,024 bytes. -/
  | stage (w : Wire) (here : Arrival)
  /-- `COMMIT` (R74). Op COMMIT re-checks the staged set and applies it atomically in index order,
  rolling back on a forced state change. Operands: forced: a state change that no write requested
  makes this field refuse its committed value (R74). -/
  | commit (f : Frame) (forced : Option ObjKey)
  /-- `DISCARD` (R74). Op DISCARD empties the session's staged set. -/
  | discard (f : Frame)
  /-- `SAVE` (R75). Op SAVE writes every saved object, guest objects included, into the older
  store copy, verifies it and makes it current. -/
  | save (w : Wire) (here : Arrival)
  /-- `RESTORE` (R76). Op RESTORE sets the writable objects of a range to their defaults
  atomically, minus the exclusions. -/
  | restore (w : Wire) (queued : Nat) (guests : BitVec 4)
  /-- `ENUMERATE` (R72). Op ENUMERATE lists indices with their highest subindex and flags. -/
  | enumerate (w : Wire) (queued : Nat) (guests : BitVec 4)
  /-- `DESCRIBE` (R72). Op DESCRIBE returns type, access, role, Saved flag and default per item.
  -/
  | describe (w : Wire) (here : Arrival)
  /-- `DICT_IDENTIFY` (R72). Op IDENTIFY returns the node ID, identity objects and tier, and is
  also answered to a delayed broadcast. -/
  | dictIdentify (f : Frame)
  /-- `READ_LONG` (R72). Op READ_LONG returns up to 1,024 bytes of a STRING or OCTETS value from
  an offset. -/
  | readLong (link : Link) (bytes : List Byte) (queued : Nat) (guests : BitVec 4)
  /-- `UNKNOWN_DICT_OP` (R72). A request with an undefined op is answered with status 0x01 for the
  whole request. Operands: a frame whose body spells another operation. -/
  | unknownDictOp (w : Wire) (here : Arrival)
  /-- `BROADCAST_REPLY_DELAY` (R88). The answer to a broadcast IDENTIFY is sent after (node ID mod
  64) ms. -/
  | broadcastReplyDelay
  /-- `GUEST_OBJECT_TIMEOUT` (R71). A guest that does not answer a forwarded access within 10 ms
  leaves the access completed with status 0x09. -/
  | guestObjectTimeout (a : Fin 4)
  /-- `STAGED_SET_EXPIRY` (R74). A staged set is discarded after 30 s without a request from its
  session. -/
  | stagedSetExpiry (k : SessionId)
  /-- `SAVE_COMPLETE` (R75). The store copy has been programmed and verified or has failed, and
  SAVE is answered with event 315 or status 0x0D. Operands: done, program failed, verify failed.
  -/
  | saveComplete (result : SaveResult)
  /-- `SILENCE_END` (R84). 60 s after its eighth failure a silenced sender is heard again, its
  count reset, with event 313. -/
  | silenceEnd (k : Sender)
  /-- `KEY_GRACE_END` (R85). 2 s after a key change, frames under the old key stop being exempt
  from silencing. -/
  | keyGraceEnd
  /-- `MCTP_REASSEMBLY_TIMEOUT` (R89). An MCTP message still incomplete 100 ms after its first
  packet is dropped. -/
  | mctpReassemblyTimeout
  /-- `BUYTH_SEND` (R90). NVMe opcode 0xC1 takes in a Buyth frame for the server, or returns
  status 0xC1 when 16 frames wait. Operands: CDW10, and the bytes of the frame. -/
  | buythSend (h : NvmeHdr) (length : Nat) (frame : List Byte)
  /-- `BUYTH_RECEIVE` (R90). NVMe opcode 0xC2 returns the response frame with the awaited TAG_ID.
  -/
  | buythReceive (h : NvmeHdr) (tagId : BitVec 32) (buflen : Nat)
  /-- `BUYTH_RECEIVE_TIMEOUT` (R90). A Buyth Receive without a response after 3,500 ms completes
  with status 0xC0. -/
  | buythReceiveTimeout (ctrl : Fin 2) (tagId : BitVec 32)
  /-- `SPN_RUN` (R108). SPN_CTL.RUN starts the spindle with 1 ms of REST_CHECK, loading TARGET
  with rated speed if it is out of range. -/
  | spnRun
  /-- `SPN_STOP` (R113). SPN_CTL.STOP requests an orderly stop: deceleration in RUN down to 5 % of
  rated speed, then BRAKE. -/
  | spnStop
  /-- `SPN_TARGET_WRITE` (R123). A write of SPN_TARGET sets a new target or Cruise ramp, clamps it
  and sends slew notices, or is refused with CONFLICT. -/
  | spnTargetWrite (v : BitVec 32)
  /-- `SPN_DTC_WRITE` (R104). A write of SPN_CTL.DTC takes effect only in OFF or LOW_HOLD;
  otherwise it sets CONFLICT. -/
  | spnDtcWrite (dtc : Bool)
  /-- `SPN_PARAM_WRITE` (R129). A spindle parameter word write takes effect at the next step
  boundary, or only in OFF for the state-bound words. Operands: OD 0x2010 subindex and word. -/
  | spnParamWrite (sub : BitVec 8) (v : BitVec 32)
  /-- `REST_CHECK_END` (R108). After 1 ms of REST_CHECK, the spindle enters ALIGN if no back-EMF
  was seen, or CATCH otherwise. Operands: largest line-to-line voltage seen in mV. -/
  | restCheckEnd (peakMv : Nat)
  /-- `ALIGN_END` (R108). ALIGN_MS ends and RAMP starts, open loop under a current limit. -/
  | alignEnd
  /-- `PWM_PERIOD` (R99). Each PWM period, the senses are sampled and the observer, the speed loop
  and the commutation update. Operands: nine senses, observer estimate (angle, speed, predicted
  currents), step boundary, crossings. -/
  | pwmPeriod (p : PwmInputs)
  /-- `HANDOVER` (R109). After HANDOVER_STEPS consecutive confident boundaries the spindle enters
  RUN at the observer's angle (event 130). Operands: the observer's electrical angle. -/
  | handover (angle : BitVec 16)
  /-- `LOCKED_ROTOR` (R111). No commutation event in the allowed window: fault 72 at start, or
  fault 73 in RUN with a write hold, a retract and a restart. -/
  | lockedRotor
  /-- `START_RETRY` (R111). After 500 ms with all gates at 0, ALIGN runs again with a higher
  current, or fault 74 is raised after the last retry. -/
  | startRetry
  /-- `CATCH_END` (R112). The back-EMF measurement ends and the spindle enters BEMF_LOCK, or BRAKE
  then ALIGN (event 131). Operands: the measured speed, direction and electrical angle. -/
  | catchEnd (rpm : Nat) (x : CatchFind)
  /-- `BEMF_LOCK_HANDOVER` (R112). OBS_VALID holds for HANDOVER_STEPS, so RUN resumes from the
  measured speed with event 130 or 139. -/
  | bemfLockHandover
  /-- `BRAKE_STOPPED` (R113). 200 ms without a zero crossing means the rotor has stopped: gates go
  to 0 and event 143 is raised. -/
  | brakeStopped
  /-- `OBSERVER_LOSS` (R114). The residual stays high for OBS_LOSS_PER periods: fault 75 is
  raised, writes are held and the spindle enters FLYWHEEL. -/
  | observerLoss
  /-- `REACQUIRED` (R114). Twelve good floating-phase crossings re-seed the observer, and RUN
  resumes with event 139. -/
  | reacquired
  /-- `FLYWHEEL_EXPIRY` (R114). The flywheel ends without re-acquisition: fault 76 is raised, one
  period of COAST follows, then CATCH. -/
  | flywheelExpiry
  /-- `OV_WARN_CROSS` (R115). SP.VSUP crosses OV_WARN, which raises fault 78 and halves the
  deceleration current, or ends that halving and zero-vector braking on the way down. Operands:
  crossing of OV_WARN upward, or of OV_WARN - 300 mV downward (belowWarn: of OV_WARN downward). -/
  | ovWarnCross (up : Bool) (mv : Nat)
  /-- `CHOP_ON_CROSS` (R115). SP.VSUP crosses OV_CHOP_ON, so SP.CHD goes to 1 with event 140. -/
  | chopOnCross (mv : Nat)
  /-- `CHOP_OFF_CROSS` (R115). SP.VSUP falls below OV_CHOP_OFF, so SP.CHD returns to 0 with event
  141 and fault 79. -/
  | chopOffCross
  /-- `CHOP_SENSE_TIMEOUT` (R116). No chopper current 20 µs after SP.CHD went to 1: fault 80 is
  raised, writes are held and zero-vector braking starts. -/
  | chopSenseTimeout (mv : Nat)
  /-- `CHOP_WIN_EXPIRY` (R116). SP.VSUP is not back below OV_CHOP_ON within CHOP_WIN, so a chopper
  fault is declared. -/
  | chopWinExpiry (mv : Nat)
  /-- `OV_FATAL_CROSS` (R117). SP.VSUP crosses OV_FATAL: LOW_HOLD within 2 µs, fatal fault 81 and
  a retract of every loaded actuator. -/
  | ovFatalCross
  /-- `REF_MOVE` (R120). The wedge speed reference moves to the next good actuator or to the
  observer (event 133, fault 85). -/
  | refMove
  /-- `SPEED_DEVIATION` (R121). Wedge-measured speed beyond ±0.5 % for 64 wedges raises fault 77.
  -/
  | speedDeviation
  /-- `SLEW_RELEASE` (R122). Speed within RELEASE_TOL for RELEASE_WEDGES wedges sends the release
  notice (event 137). -/
  | slewRelease
  /-- `SLEW_START_INSTANT` (R122). At a notice's start instant, an island holds writes when the
  ramp rate exceeds CRUISE_WR_SLEW. -/
  | slewStartInstant (a : Fin 4)
  /-- `SLEW_RAMP_END` (R122). The ramp of the notice in force ends and the island's slew write
  hold is released. -/
  | slewRampEnd (a : Fin 4)
  /-- `SAMPLE_INSTANT` (R162). At wedge k's sample instant, the record is delivered, the previous
  output applied, the VCM frame and feed-forward message sent, and period k started. Operands:
  sensor samples and wedge period at the sample instant. -/
  | sampleInstant (a : Fin 4) (x : SampleInputs)
  /-- `DAMP_END` (R184). After DAMP_MS of holding zero velocity, the unload of R150 continues. -/
  | dampEnd (a : Fin 4)
  /-- `VCM_FRAME_REPEAT` (R135). Between output instants, the last VCM frame is repeated every 8
  µs. -/
  | vcmFrameRepeat (a : Fin 4)
  /-- `SERVO_WEDGE` (R138). A SAM is found in the window, the servo fields are decoded, positions
  computed and a wedge timing message sent. Operands: the servo field as read, SAM instant. -/
  | servoWedge (a : Fin 4) (w : WedgeInputs)
  /-- `MISSING_WEDGE` (R142). A window closes without a SAM: the wedge is missing, writes are
  inhibited and a predicted timing message is sent. -/
  | missingWedge (a : Fin 4)
  /-- `LOCK_ACQUIRED` (R143). LOCK_COUNT good wedges set LOCKED, and a loading actuator hands the
  VCM to the servo engine (event 6 + a). -/
  | lockAcquired (a : Fin 4)
  /-- `LOCK_LOST` (R143). The wedge after four missing, or three wedge-number mismatches, clears
  LOCKED and enters ACQUIRE. -/
  | lockLost (a : Fin 4)
  /-- `HEAD_SWITCH` (R143). A write of SVD_CTL.HEAD switches heads with the window shifted by
  SVD_SKEW. -/
  | headSwitch (a : Fin 4) (head : BitVec 5)
  /-- `FORCE_ACQUIRE` (R158). SVD_CTL.ACQUIRE forces the demodulator into acquisition. -/
  | forceAcquire (a : Fin 4)
  /-- `SVD_TARGET_WRITE` (R155). A core write of SVD_TARGET takes effect at the next sample. -/
  | svdTargetWrite (a : Fin 4) (track : BitVec 24)
  /-- `SHOCK_CROSSING` (R146). MS.SHK crosses SHK_THR: within 2 µs the island asserts write
  inhibit, sets SHOCK and raises event offset 4, or restarts a running hold. -/
  | shockCrossing (a : Fin 4) (peak : BitVec 12)
  /-- `SHOCK_HOLD_END` (R146). The signal stays inside the threshold for SHK_HOLD, so the shock
  inhibit is released (event offset 5). -/
  | shockHoldEnd (a : Fin 4)
  /-- `HEAD_LOAD` (R149). ISL_CTL.LOAD in PARKED starts a load, waiting in LOAD_PENDING while a
  0xFFFF notice holds. -/
  | headLoad (a : Fin 4)
  /-- `COIL_MEASURE_END` (R149). After 1 ms the coil resistance is taken and checked, and LOADING
  starts or the load fails. Operands: whether the resistance lies within its limits. -/
  | coilMeasureEnd (a : Fin 4) (good : Bool)
  /-- `LOAD_TIMEOUT` (R149). LOCKED not set within LOAD_TIMEOUT: the island unloads and retries,
  or raises fault offset 3 and stays PARKED. -/
  | loadTimeout (a : Fin 4)
  /-- `HEAD_UNLOAD` (R150). ISL_CTL.UNLOAD, a servo loss or a retract asserts inhibit, makes the
  preamp safe and drives the arm to the ramp in voltage mode. -/
  | headUnload (a : Fin 4) (retract : Bool)
  /-- `ARM_PARKED` (R150). Velocity below 0.05 rad/s for 20 ms: MODE off is sent, the island
  enters PARKED and event offset 6 is raised. -/
  | armParked (a : Fin 4)
  /-- `UNLOAD_TIMEOUT` (R150). Not parked within 200 ms: fault offset 3 kind 1, the coil is
  shorted and the island enters PARKED. -/
  | unloadTimeout (a : Fin 4)
  /-- `NOP` (R168). Engine instruction NOP does nothing. -/
  | nop (e : Fin 4)
  /-- `ADD` (R168). Engine instruction ADD computes fd = fa + fb. -/
  | add (e : Fin 4) (fd fa fb : BitVec 8)
  /-- `SUB` (R168). Engine instruction SUB computes fd = fa − fb. -/
  | sub (e : Fin 4) (fd fa fb : BitVec 8)
  /-- `MUL` (R168). Engine instruction MUL computes fd = fa × fb. -/
  | mul (e : Fin 4) (fd fa fb : BitVec 8)
  /-- `FMA` (R168). Engine instruction FMA computes fd = fd + fa × fb, rounded once. -/
  | fma (e : Fin 4) (fd fa fb : BitVec 8)
  /-- `FMS` (R168). Engine instruction FMS computes fd = fd − fa × fb, rounded once. -/
  | fms (e : Fin 4) (fd fa fb : BitVec 8)
  /-- `MIN` (R168). Engine instruction MIN gives the minimum with the NaN and signed-zero rules.
  -/
  | min (e : Fin 4) (fd fa fb : BitVec 8)
  /-- `MAX` (R168). Engine instruction MAX gives the maximum with the NaN and signed-zero rules.
  -/
  | max (e : Fin 4) (fd fa fb : BitVec 8)
  /-- `MOV` (R168). UNA function MOV copies fa to fd bit for bit. -/
  | mov (e : Fin 4) (fd fa : BitVec 8)
  /-- `ABS` (R168). UNA function ABS clears bit 31. -/
  | abs (e : Fin 4) (fd fa : BitVec 8)
  /-- `NEG` (R168). UNA function NEG inverts bit 31. -/
  | neg (e : Fin 4) (fd fa : BitVec 8)
  /-- `RCP` (R168). UNA function RCP computes the correctly rounded reciprocal. -/
  | rcp (e : Fin 4) (fd fa : BitVec 8)
  /-- `FTOI` (R168). UNA function FTOI converts to a saturating signed integer, nearest even. -/
  | ftoi (e : Fin 4) (fd fa : BitVec 8)
  /-- `ITOF` (R168). UNA function ITOF converts a signed integer to float. -/
  | itof (e : Fin 4) (fd fa : BitVec 8)
  /-- `CLAMP` (R168). Engine instruction CLAMP limits fd to the range from fa to fb. -/
  | clamp (e : Fin 4) (fd fa fb : BitVec 8)
  /-- `CMP` (R168). Engine instruction CMP sets P by the condition code. -/
  | cmp (e : Fin 4) (cond : BitVec 4) (fa fb : BitVec 8)
  /-- `TST` (R168). Engine instruction TST sets P from the upper bits of fd ANDed with imm16. -/
  | tst (e : Fin 4) (fd : BitVec 8) (imm : BitVec 16)
  /-- `SEL` (R168). Engine instruction SEL gives fd = P ? fa : fb. -/
  | sel (e : Fin 4) (fd fa fb : BitVec 8)
  /-- `LDI` (R168). Engine instruction LDI loads imm16 into the upper half of fd. -/
  | ldi (e : Fin 4) (fd : BitVec 8) (imm : BitVec 16)
  /-- `LD` (R168). Engine instruction LD loads a data word. -/
  | ld (e : Fin 4) (fd : BitVec 8) (addr : BitVec 11)
  /-- `ST` (R168). Engine instruction ST stores a data word. -/
  | st (e : Fin 4) (fd : BitVec 8) (addr : BitVec 11)
  /-- `LDX` (R168). Engine instruction LDX loads a data word at an indexed address. -/
  | ldx (e : Fin 4) (fd fa : BitVec 8)
  /-- `STX` (R168). Engine instruction STX stores a data word at an indexed address. -/
  | stx (e : Fin 4) (fd fa : BitVec 8)
  /-- `BIQ` (R169). Engine instruction BIQ computes a transposed direct-form II biquad section. -/
  | biq (e : Fin 4) (fd fa fb : BitVec 8)
  /-- `INTP` (R170). Engine instruction INTP interpolates a table through a descriptor, with or
  without wrap. -/
  | intp (e : Fin 4) (fd fa fb : BitVec 8)
  /-- `IN` (R171). Engine instruction IN reads an input port. -/
  | inPort (e : Fin 4) (fd port : BitVec 8)
  /-- `OUT` (R172). Engine instruction OUT stages a value on an output port. -/
  | outPort (e : Fin 4) (fa port : BitVec 8)
  /-- `BR` (R168). Engine instruction BR branches on its condition within the present segment. -/
  | br (e : Fin 4) (cond : BitVec 2) (target : BitVec 12)
  /-- `SEG_END_M` (R174). Marker END_M makes the staged outputs ready; in a late period it applies
  them at once. -/
  | segEndM (e : Fin 4)
  /-- `SEG_XC` (R175). Marker XC runs its segment only if it is enabled, not suspended and within
  its bound; otherwise the engine jumps to the end address. -/
  | segXc (e : Fin 4) (seg : BitVec 4) (endAddr : BitVec 12)
  /-- `SEG_END` (R173). Marker END idles the engine until the next sample instant. -/
  | segEnd (e : Fin 4)
  /-- `SIG` (R168). Engine instruction SIG raises event offset 13 with imm16. -/
  | sig (e : Fin 4) (imm : BitVec 16)
  /-- `ILLEGAL_INSTRUCTION` (R182). An illegal instruction or an address error halts the engine
  with fault offset 6, followed by servo lost if the actuator is loaded. -/
  | illegalInstruction (e : Fin 4) (addrErr : Bool)
  /-- `XC_BOUND_OVERRUN` (R175). A segment reaches its bound unfinished: it is stopped, its enable
  bit cleared and XC_OVER set. -/
  | xcBoundOverrun (e : Fin 4)
  /-- `ENGINE_RUN` (R176). SVE_CTL.RUN starts the engine at the next sample instant from
  SVE_ENTRY. -/
  | engineRun (a : Fin 4)
  /-- `ENGINE_STOP` (R176). SVE_CTL.STOP stops the engine at the next sample instant, or is
  refused in LOADED. -/
  | engineStop (a : Fin 4)
  /-- `SVE_ENTRY_WRITE` (R176). A new SVE_ENTRY takes effect at the start of the next period. -/
  | sveEntryWrite (a : Fin 4) (entry : BitVec 12)
  /-- `SVE_REGISTER_WRITE` (R176). A core write of SVE_Fn takes effect only while the engine is
  STOPPED or HALTED; otherwise it sets CONFLICT. -/
  | sveRegisterWrite (a : Fin 4) (n : BitVec 8) (v : BitVec 32)
  /-- `UPDATE_GO` (R176). SVE_UPD_CTL.GO applies the update entries at the next period start, or
  at once while stopped. Operands: SVE_UPD_CTL written with GO and COUNT. -/
  | updateGo (a : Fin 4) (count : BitVec 6)
  /-- `SEEK_START` (R186). A write of SVP_SEEK starts or re-plans a jerk-limited seek at the next
  sample instant, or is rejected. Operands: SVP_SEEK word; written by a principal core. -/
  | seekStart (a : Fin 4) (v : BitVec 32) (principal : Bool)
  /-- `INJECT_RUN` (R189). SVI_CTL.RUN starts test-signal injection while the actuator is loaded.
  Operands: SVI_CTL word. -/
  | injectRun (a : Fin 4) (v : BitVec 32)
  /-- `INJECT_STOP` (R189). SVI_CTL.STOP ends injection at the next sample instant. -/
  | injectStop (a : Fin 4)
  /-- `INJECTION_END` (R189). Injection ends after LEN periods. -/
  | injectionEnd (a : Fin 4)
  /-- `CORRELATION_RUN` (R191). SVC_CTL.RUN starts correlation while a sine injection runs.
  Operands: SVC_CTL word. -/
  | correlationRun (a : Fin 4) (v : BitVec 32)
  /-- `CORRELATION_DONE` (R191). After SVC_PERIODS periods, the results are written and event
  offset 12 is raised with qualifier 1. -/
  | correlationDone (a : Fin 4)
  /-- `CHALKBOARD_ARM` (R193). SVB_CTL.ARM starts recording. Operands: SVB_CTL word. -/
  | chalkboardArm (a : Fin 4) (v : BitVec 32)
  /-- `CHALKBOARD_FORCE` (R193). SVB_CTL.FORCE triggers the Chalkboard from software. -/
  | chalkboardForce (a : Fin 4)
  /-- `CHALKBOARD_FULL` (R193). The post-trigger records are written, so recording stops, TRIG_IDX
  is set and event offset 12 is raised. -/
  | chalkboardFull (a : Fin 4)
  /-- `READ_OPERATION_POST` (R211). An island accepts a read operation and raises event offset 16
  when no rule 1 bank matches. -/
  | readOperationPost (a : Fin 4) (op : ReadOp)
  /-- `READ_GATE_OPEN` (R211). A bank is chosen and latched and capture into a slot begins, or the
  sector gets outcome 0xA. Operands: both readers' ADC codes, servo gate position. -/
  | readGateOpen (a : Fin 4) (x : GateInputs)
  /-- `DEFECT_REGION` (R215). A thermal asperity or dropout region is detected on a reader,
  recorded, and its bits weighted or erased. -/
  | defectRegion (a : Fin 4) (r : Region)
  /-- `READ_GATE_CLOSE` (R219). At read gate close the slot header is completed and VALID set, or
  the sector is truncated by a servo gate. Operands: whether a servo gate the operation did not
  place closes it. -/
  | readGateClose (a : Fin 4) (truncated : Bool)
  /-- `REFILL_START` (R248). The replay detector re-detects D1 from sample RAM into the live
  staging buffer. -/
  | refillStart (a : Fin 4)
  /-- `STAGING_COMPLETE` (R226). The last LLR of a sector or replay is staged and the buffer
  requests a decoder, or the sector gets outcome 0x4. -/
  | stagingComplete (a : Fin 4) (replay : Bool)
  /-- `DECODER_GRANT` (R226). A free powered decoder is granted by priority and the replay
  reserve, and the load begins. -/
  | decoderGrant
  /-- `REPLAY_RESERVE_BYPASS` (R226). A replay that has waited 2 ms is granted the next free
  decoder regardless of the reserve (event 243). -/
  | replayReserveBypass (a : Fin 4)
  /-- `DECODE_COMPLETE` (R223). A decode ends with an outcome, data written only for 0x0, a
  completion record and its event. Operands: whether the decoder's memory failed. -/
  | decodeComplete (d : Fin 8) (memoryError : Bool)
  /-- `DECODER_STALL` (R227). A decoder that finishes no phase within 100 µs is taken offline with
  fault 137. -/
  | decoderStall (d : Fin 8)
  /-- `REPLAY_REQUEST` (R228). RCH_RPL.GO or a resident request queues a replay, refusing or
  displacing requests when four are queued. -/
  | replayRequest (a : Fin 4) (r : ReplayReq)
  /-- `SLOT_PIN` (R220). A pin of a sample RAM slot is taken, deferred to the end of its capture,
  or refused with CONFLICT. -/
  | slotPin (a : Fin 4) (slot : Fin 8) (resident : Bool)
  /-- `SLOT_UNPIN` (R220). RCH_PIN.UNPIN releases a guest pin. -/
  | slotUnpin (a : Fin 4) (slot : Fin 8) (resident : Bool)
  /-- `PIN_WAIT_TIMEOUT` (R253). No pin free within 1 ms, so ladder step 2 is skipped. -/
  | pinWaitTimeout (ladder : Nat)
  /-- `LADDER_TIME_LIMIT` (R257). LADDER_LIMIT passes, so the step in progress finishes and the
  rest are skipped. -/
  | ladderTimeLimit (ladder : Nat)
  /-- `ROW_REBUILD_COMPLETE` (R251). The buffer manager finishes a row-parity rebuild and checks
  the spare parity. -/
  | rowRebuildComplete (ladder : Nat) (x : RebuildInputs)
  /-- `DETENTION_EXPIRY` (R261). An entry below the threshold whose window has passed expires
  (event 259). -/
  | detentionExpiry (a : Fin 4) (head : BitVec 5) (track : BitVec 24) (sector : Nat)
  /-- `WRITE_OPERATION_ACCEPT` (R275). The island chooses and latches a write bank and trims, and
  sends the PSC setup frames, or holds the operation waiting for a bank. -/
  | writeOperationAccept (a : Fin 4) (op : WriteOp)
  /-- `NO_BANK_TIMEOUT` (R275). No bank has been loaded by the first write gate, so the operation
  is refused with fault offset 10 kind 0. -/
  | noBankTimeout (a : Fin 4)
  /-- `HEAT_LEAD_START` (R277). HEAT_LEAD before the first gate, MODE write-ready is sent. -/
  | heatLeadStart (a : Fin 4)
  /-- `WRITE_GATE_OPEN` (R277). A sector or continuation write starts: WGATE 1, laser to operating
  current and Aa.WRD active, or data late. Operands: the channel bits from the first one written
  to 16 bits before the next servo gate; whether the whole payload stood in a staging buffer 64
  bits before; whether it opens a continuation of a sector. -/
  | writeGateOpen (a : Fin 4) (room : Nat) (staged cont : Bool)
  /-- `WRITE_SERVO_GATE` (R277). 16 bits before a servo gate, Aa.WRD goes idle, WGATE 0 is sent
  and the laser returns to bias. Operands: whether the sector goes on after the wedge. -/
  | writeServoGate (a : Fin 4) (mid : Bool)
  /-- `WRITE_OPERATION_COMPLETE` (R299). The last sector is written and the completion record and
  event offset 20 are posted. -/
  | writeOperationComplete (a : Fin 4)
  /-- `WRITE_MODE_IDLE` (R277). 100 µs after the last sector with no new operation, MODE read is
  sent. -/
  | writeModeIdle (a : Fin 4)
  /-- `WRITE_HOLD` (R278). A write of WP_CTL.HOLD sets or releases write-inhibit cause 11. -/
  | writeHold (a : Fin 4) (set : Bool)
  /-- `SUPPLY_WINDOW_CROSS` (R281). A 12 V or 5 V sense leaves its window, setting cause 6 and
  fault offset 10 kind 3. -/
  | supplyWindowCross (a : Fin 4) (v12 v5 : Nat)
  /-- `SUPPLY_WINDOW_RELEASE` (R278). 100 µs in range releases cause 6. -/
  | supplyWindowRelease (a : Fin 4)
  /-- `RESUME_PASS` (R282). With every cause released, the interrupted sector's next pass resumes
  the operation. -/
  | resumePass (x : PassInputs)
  /-- `RESUME_WINDOW_EXPIRY` (R282). Causes not released within RES_WIN end the operation
  interrupted. -/
  | resumeWindowExpiry (a : Fin 4)
  /-- `PSC_NOP` (R286). Keep-alive command NOP is sent at least every 1 µs. -/
  | pscNop (a : Fin 4)
  /-- `PSC_HEAD_SEL` (R286). Preamp command HEAD_SEL selects a head. -/
  | pscHeadSel (a : Fin 4) (head : BitVec 5)
  /-- `PSC_MODE` (R286). Preamp command MODE sets sleep, idle, read or write-ready and ends any
  SAFE. -/
  | pscMode (a : Fin 4) (mode : BitVec 2)
  /-- `PSC_WGATE` (R286). Preamp command WGATE sets the write gate, refused outside write-ready.
  -/
  | pscWgate (a : Fin 4) (gate : Bool)
  /-- `PSC_READ_BIAS` (R286). Preamp command READ_BIAS sets the reader biases. -/
  | pscReadBias (a : Fin 4) (rb ra : BitVec 8)
  /-- `PSC_WRITE_CUR` (R286). Preamp command WRITE_CUR sets the steady and overshoot write
  current. -/
  | pscWriteCur (a : Fin 4) (overshoot steady : BitVec 8)
  /-- `PSC_OS_DUR` (R286). Preamp command OS_DUR sets the overshoot duration. -/
  | pscOsDur (a : Fin 4) (v : BitVec 8)
  /-- `PSC_LASER_BIAS` (R286). Preamp command LASER_BIAS sets the laser bias current. -/
  | pscLaserBias (a : Fin 4) (v : BitVec 12)
  /-- `PSC_LASER_OP` (R286). Preamp command LASER_OP sets the laser operating current. -/
  | pscLaserOp (a : Fin 4) (v : BitVec 12)
  /-- `PSC_HEAT_RD` (R286). Preamp command HEAT_RD sets the read heater power. -/
  | pscHeatRd (a : Fin 4) (v : BitVec 10)
  /-- `PSC_HEAT_WR` (R286). Preamp command HEAT_WR sets the write heater power. -/
  | pscHeatWr (a : Fin 4) (v : BitVec 10)
  /-- `PSC_SENSE_REQ` (R286). Preamp command SENSE_REQ asks for a sensor reading, refused in
  sleep. -/
  | pscSenseReq (a : Fin 4) (sensor : BitVec 4)
  /-- `PSC_FAULT_CLR` (R286). Preamp command FAULT_CLR clears the named fault bits whose condition
  has ended. Operands: bits named; bits whose condition still holds. -/
  | pscFaultClr (a : Fin 4) (bits held : BitVec 16)
  /-- `PSC_ID_REQ` (R286). Preamp command ID_REQ asks for the preamp's identity. -/
  | pscIdReq (a : Fin 4)
  /-- `PSC_SAFE` (R286). Preamp command SAFE turns off write current, heater or laser until the
  next MODE. -/
  | pscSafe (a : Fin 4) (bits : BitVec 3)
  /-- `PSC_ACK_FRAME` (R288). The device takes an ACK from the preamp, noting unknown or refused
  commands. Operands: the frame as received. -/
  | pscAckFrame (a : Fin 4) (w : BitVec 32)
  /-- `PSC_SENSE_FRAME` (R288). The device takes a SENSE reply into PSC_SENSE.VALUE. -/
  | pscSenseFrame (a : Fin 4) (w : BitVec 32)
  /-- `PSC_FAULT_FRAME` (R288). The device takes a FAULT frame naming the fault bits, which
  decides cause 7 or 8. -/
  | pscFaultFrame (a : Fin 4) (w : BitVec 32)
  /-- `PSC_ID_FRAME` (R292). The device takes an ID reply, calibrates DI sampling, checks the
  version and brings the link up. -/
  | pscIdFrame (a : Fin 4) (w : BitVec 32)
  /-- `PSC_ACK_TIMEOUT` (R289). No ACK within 400 ns resends the command, and after three resends
  the link is declared down with cause 9. -/
  | pscAckTimeout (a : Fin 4)
  /-- `LINK_DOWN_PROBE` (R289). While the link is down, SAFE and ID_REQ are sent every 10 µs. -/
  | linkDownProbe (a : Fin 4)
  /-- `PREAMP_LINK_TIMEOUT` (R287). A preamp outside sleep without a valid frame for 4 µs applies
  SAFE and reports fault bit 10. -/
  | preampLinkTimeout (a : Fin 4)
  /-- `PFL_ASSERT` (R291). Aa.PFL low sets cause 7 or 8 within 50 ns, raises fault offset 11 and
  event offset 22. Operands: the fault bits set in the preamp; whether its FAULT frame has arrived
  with them. -/
  | pflAssert (a : Fin 4) (bits : BitVec 16) (named : Bool)
  /-- `PFL_RELEASE` (R291). Aa.PFL high releases the preamp fault causes. -/
  | pflRelease (a : Fin 4)
  /-- `PFL_FRAME_TIMEOUT` (R291). No FAULT frame within 2 µs of Aa.PFL low raises kind 14. -/
  | pflFrameTimeout (a : Fin 4)
  /-- `SENSE_TIMEOUT` (R290). A SENSE_REQ unanswered in 2 µs sets PSC_SENSE.TIMEOUT. -/
  | senseTimeout (a : Fin 4)
  /-- `PSC_CTL_ID_REQ` (R296). PSC_CTL.ID_REQ queues an ID_REQ frame. -/
  | pscCtlIdReq (a : Fin 4)
  /-- `PSC_CTL_FCLR` (R296). PSC_CTL.FCLR sends FAULT_CLR with the PSC_FAULT bits. -/
  | pscCtlFclr (a : Fin 4)
  /-- `PSC_SENSE_REQUEST` (R296). PSC_SENSE.REQ queues a SENSE_REQ for SENSOR at lowest priority.
  -/
  | pscSenseRequest (a : Fin 4) (sensor : BitVec 4)
  /-- `PSC_RAW_SEND` (R297). PSC_RAW.SEND sends a raw command, refusing WGATE and write-ready. -/
  | pscRawSend (a : Fin 4) (code : BitVec 6) (data : BitVec 16)
  /-- `DESTAGE_CHUNK` (R313). A write cache chunk is placed on the lowest-score eligible stripe
  and written, or held with event 271. Operands: the chunk (command, units) and the Timetable's
  estimates E_a and seek times D per stripe. -/
  | destageChunk (c : ChunkInputs)
  /-- `GROUP_IDLE_CLOSE` (R316). A group with no new member for GROUP_IDLE is filled and closed
  with P and Q. Operands: the group, and what its closing has before it. -/
  | groupIdleClose (serial : Nat) (x : CloseInputs)
  /-- `COMMIT_START` (R319). A journal commit starts after COMMIT_GATHER or 1 s, writing pending
  sectors to the quorum copies. Operands: the actuators by when a journal write of theirs would
  complete, soonest first. -/
  | commitStart (order : List (Fin 4))
  /-- `COMMIT_DURABLE` (R319). Every quorum copy is written, so the groups become durable and
  waiting completions and frees proceed. Operands: the copy of actuator a is written (or found
  unwritable). -/
  | commitDurable (a : Fin 4) (ok : Bool)
  /-- `COMMIT_DEADLINE_MISS` (R319). A commit not durable within COMMIT_DEADLINE raises fault 28.
  -/
  | commitDeadlineMiss
  /-- `COPY_CATCHUP` (R319). Journal sectors reach the non-quorum copies within 1 s as obligatory
  Homework. -/
  | copyCatchup (a : Fin 4)
  /-- `CHECKPOINT` (R321). Every CKPT_EVERY journal sectors, a checkpoint of both maps is written.
  -/
  | checkpoint
  /-- `CHECKPOINT_DURABLE` (R321). A checkpoint becomes durable (event 267), allowing older
  journal sectors to be overwritten. -/
  | checkpointDurable
  /-- `HOMEWORK_JOB_START` (R324). A merge, re-home, compact, release, relocate, re-plan, migrate
  or system area copy job starts. -/
  | homeworkJobStart (j : JobReq)
  /-- `HOMEWORK_TRACK_STEP` (R326). One track of a Homework job is copied, ending at a safe point
  and completing the job with its group at the last track. Operands: map units whose source sector
  was unrecovered on this track. -/
  | homeworkTrackStep (job : Nat) (bad : List Nat)
  /-- `TEMP_WINDOW_RESTART` (R325). Every TEMP_WINDOW power-on hours, band WRITES counts restart.
  -/
  | tempWindowRestart
  /-- `PERIOD_BOUNDARY` (R338). At each Timetable period boundary, base load and allowance are
  recomputed and candidates admitted in order. Operands: candidates with their predicted profiles,
  measured charge. -/
  | periodBoundary (x : BoundaryInputs)
  /-- `ACTUATOR_FREE_ADMISSION` (R338). An actuator that becomes free between boundaries may
  receive an admission at once. -/
  | actuatorFreeAdmission (a : Fin 4) (x : BoundaryInputs)
  /-- `COMMAND_DEADLINE` (R352). A command passes its deadline and becomes late. Operands: the
  command by its place in fetch order. -/
  | commandDeadline (n : Nat)
  /-- `OBLIGATORY_DEADLINE_MISS` (R355). Obligatory work not started by its deadline raises fault
  150. -/
  | obligatoryDeadlineMiss (job : Nat)
  /-- `HEAD_TEMP_POLL` (R342). Every HEAD_POLL_MS each loaded head's temperature is read over PSC.
  Operands: 0.125 C units. -/
  | headTempPoll (a : Fin 4) (head : BitVec 5) (t : Int)
  /-- `CRUISE_DECISION` (R359). Every second, utilisation is computed and a Cruise target set by
  the first applicable rule. -/
  | cruiseDecision
  /-- `POOL_IDLE_TIMEOUT` (R351). POOL_IDLE_MS without a grant to decoders 4–7 switches PD29 off.
  -/
  | poolIdleTimeout
  /-- `POOL_REPLAY_WAIT` (R351). A replay that has waited 200 µs switches PD29 on. -/
  | poolReplayWait
  /-- `CAL_REQUEST` (R358). ISL_CALREQ.REQ asks for a calibration grant, or sets CONFLICT when
  DURATION is 0. Operands: ISL_CALREQ word. -/
  | calRequest (a : Fin 4) (v : BitVec 32)
  /-- `CAL_WITHDRAW` (R357). ISL_CALREQ.WITHDRAW withdraws a pending request. -/
  | calWithdraw (a : Fin 4)
  /-- `CAL_GRANT_START` (R358). A grant starts once its conditions hold and the running operation
  ends (event 279). -/
  | calGrantStart (a : Fin 4)
  /-- `CAL_GRANT_DONE` (R358). ISL_CALGRANT.DONE ends the grant early and resident operations
  resume. -/
  | calGrantDone (a : Fin 4)
  /-- `CAL_GRANT_EXPIRY` (R358). LEFT reaches 0 and the grant ends. -/
  | calGrantExpiry (a : Fin 4)
  /-- `DELETE_IO_SQ` (R373). Admin opcode 0x00 deletes a submission queue, withdrawing its
  commands. -/
  | deleteIoSq (h : NvmeHdr) (qid : Nat)
  /-- `CREATE_IO_SQ` (R369). Admin opcode 0x01 creates a submission queue with its priority class.
  -/
  | createIoSq (h : NvmeHdr) (qid size cqid prio : Nat) (contig : Bool)
  /-- `GET_LOG_PAGE` (R386). Admin opcode 0x02 returns a log page. -/
  | getLogPage (h : NvmeHdr) (lid : BitVec 8) (nsid offset length : Nat) (rae create : Bool)
  /-- `DELETE_IO_CQ` (R371). Admin opcode 0x04 deletes a completion queue, or fails with Invalid
  Queue Deletion while it is in use. -/
  | deleteIoCq (h : NvmeHdr) (qid : Nat)
  /-- `CREATE_IO_CQ` (R368). Admin opcode 0x05 creates a completion queue. -/
  | createIoCq (h : NvmeHdr) (qid size vector : Nat) (contig : Bool)
  /-- `NVME_IDENTIFY` (R371). Admin opcode 0x06 returns Identify data for the supported CNS
  values. -/
  | nvmeIdentify (h : NvmeHdr) (cns : BitVec 8) (nsid : Nat)
  /-- `ABORT` (R372). Admin opcode 0x08 completes within 1 ms as not aborted, withdrawing nothing.
  -/
  | abort (h : NvmeHdr) (sqid cid : Nat)
  /-- `SET_FEATURES` (R387). Admin opcode 0x09 sets a feature, passing mirrored features through
  the server and running a SAVE on SV. -/
  | setFeatures (h : NvmeHdr) (fid : BitVec 8) (sv : Bool) (nsid : Nat) (dw11 dw12 : BitVec 32) (data : List (BitVec 8))
  /-- `GET_FEATURES` (R387). Admin opcode 0x0A returns a feature. -/
  | getFeatures (h : NvmeHdr) (fid : BitVec 8) (nsid : Nat) (dw11 : BitVec 32)
  /-- `ASYNC_EVENT_REQUEST` (R371). Admin opcode 0x0C is held until a notice is posted, up to four
  outstanding. -/
  | asyncEventRequest (h : NvmeHdr)
  /-- `NAMESPACE_MANAGEMENT` (R328). Admin opcode 0x0D creates or deletes a tier A namespace in
  one journal group. -/
  | namespaceManagement (h : NvmeHdr) (create : Bool) (nsid nsze ncap lbaf : Nat) (shared : Bool)
  /-- `FIRMWARE_COMMIT` (R378). Admin opcode 0x10 verifies and commits an image, switches the
  active mark, or starts activation without reset. -/
  | firmwareCommit (h : NvmeHdr) (slot ca : Nat) (verifies : Bool)
  /-- `FIRMWARE_IMAGE_DOWNLOAD` (R371). Admin opcode 0x11 takes an image piece at 4 KiB
  granularity. -/
  | firmwareImageDownload (h : NvmeHdr) (offset length : Nat) (guests : Bool)
  /-- `NAMESPACE_ATTACHMENT` (R385). Admin opcode 0x15 attaches or detaches a tier A namespace. -/
  | namespaceAttachment (h : NvmeHdr) (attach : Bool) (nsid : Nat) (ctrls : BitVec 2)
  /-- `FORMAT_NVM` (R385). Admin opcode 0x1A releases a namespace's bands, or runs a crypto erase
  for SES 010b. -/
  | formatNvm (h : NvmeHdr) (nsid lbaf ses : Nat)
  /-- `SANITIZE` (R385). Admin opcode 0x84 runs a crypto erase of all namespaces in tiers A and B.
  -/
  | sanitize (h : NvmeHdr) (action : Nat)
  /-- `UNSUPPORTED_COMMAND` (R371). Any other opcode completes with Invalid Command Opcode. -/
  | unsupportedCommand (h : NvmeHdr) (opcode : BitVec 8)
  /-- `NVME_FLUSH` (R374). I/O opcode 0x00 completes once every covered write is on the media and
  durable. -/
  | nvmeFlush (h : NvmeHdr) (nsid : Nat)
  /-- `NVME_WRITE` (R323). I/O opcode 0x01 takes a generation, places data in cache pages and
  completes per the cache and FUA rules. Operands: the directive type (0 none, 2 Data Placement)
  and the directive-specific value. -/
  | nvmeWrite (h : NvmeHdr) (w : IoRange) (fua : Bool) (dtype : BitVec 4) (dspec : BitVec 16)
  /-- `NVME_READ` (R311). I/O opcode 0x02 resolves each map unit at fetch and reads from cache or
  media, waking the device if needed. -/
  | nvmeRead (h : NvmeHdr) (r : IoRange) (limitedRetry : Bool)
  /-- `WRITE_ZEROES` (R371). I/O opcode 0x08 records deallocated extents and completes when their
  group is durable. -/
  | writeZeroes (h : NvmeHdr) (r : IoRange) (deac : Bool)
  /-- `DATASET_MANAGEMENT` (R371). I/O opcode 0x09 deallocates ranges in one durable group. -/
  | datasetManagement (h : NvmeHdr) (nsid : Nat) (ranges : List (Nat × Nat)) (deallocate : Bool)
  /-- `VERIFY` (R371). I/O opcode 0x0C runs the full read and ladder without transferring data. -/
  | verify (h : NvmeHdr) (r : IoRange) (limitedRetry : Bool)
  /-- `RESERVATION_REGISTER` (R371). I/O opcode 0x0D registers a reservation key. -/
  | reservationRegister (h : NvmeHdr) (nsid : Nat) (action : Nat) (iekey : Bool) (crkey nrkey : BitVec 64) (cptpl : Nat)
  /-- `RESERVATION_REPORT` (R371). I/O opcode 0x0E reports reservation status. -/
  | reservationReport (h : NvmeHdr) (nsid : Nat)
  /-- `RESERVATION_ACQUIRE` (R371). I/O opcode 0x11 acquires a reservation. -/
  | reservationAcquire (h : NvmeHdr) (nsid action rtype : Nat) (iekey : Bool) (crkey prkey : BitVec 64)
  /-- `RESERVATION_RELEASE` (R371). I/O opcode 0x15 releases a reservation. -/
  | reservationRelease (h : NvmeHdr) (nsid action rtype : Nat) (iekey : Bool) (crkey : BitVec 64)
  /-- `IO_MANAGEMENT_RECEIVE` (R371). I/O opcode 0x12 returns FDP reclaim unit information. -/
  | ioManagementReceive (h : NvmeHdr) (nsid mo : Nat)
  /-- `IO_MANAGEMENT_SEND` (R371). I/O opcode 0x1D carries FDP management. -/
  | ioManagementSend (h : NvmeHdr) (nsid mo : Nat) (handles : List Nat)
  /-- `SQ_DOORBELL` (R370). A submission queue doorbell write makes commands available for fetch,
  or raises fault 52 when invalid. -/
  | sqDoorbell (ctrl : Fin 2) (qid tail : Nat)
  /-- `CQ_DOORBELL` (R368). A completion queue head doorbell write frees entries. -/
  | cqDoorbell (ctrl : Fin 2) (qid head : Nat)
  /-- `COMMAND_COMPLETION` (R323). A command's work is done, so its completion entry and MSI-X
  message are posted. Operands: the command by its place in fetch order. -/
  | commandCompletion (n : Nat)
  /-- `CC_ENABLE` (R375). CC.EN set to 1 brings the controller ready, no earlier than step 12 of
  bring-up. -/
  | ccEnable (ctrl : Fin 2) (x : EnableSetup)
  /-- `CONTROLLER_RESET` (R373). CC.EN from 1 to 0 withdraws the controller's commands and stops
  its host memory access. -/
  | controllerReset (ctrl : Fin 2)
  /-- `FUNCTION_LEVEL_RESET` (R365). A function-level reset withdraws the function's commands
  within 100 ms. -/
  | functionLevelReset (ctrl : Fin 2)
  /-- `PCIE_LINK_DOWN` (R373). A hot reset or link down of a port withdraws that port's commands.
  -/
  | pcieLinkDown (port : Fin 2)
  /-- `PCIE_LINK_UP` (R364). A port link trains up or changes speed or width (events 37, 38). -/
  | pcieLinkUp (port : Fin 2) (width gts : Nat)
  /-- `NVM_SUBSYSTEM_RESET` (R379). A write of NSSR.NSSRC with the magic value performs a chip
  reset. -/
  | nvmSubsystemReset (ctrl : Fin 2) (v : BitVec 32)
  /-- `ACTIVATION_SWITCH` (R379). All fetched commands are complete, so resident firmware switches
  and fetching resumes (event 42). Operands: the slot that takes its place. -/
  | activationSwitch (slot : Nat)
  /-- `ACTIVATION_DRAIN_TIMEOUT` (R379). Commands still in flight after 1,000 ms refuse the
  activation (event 43). -/
  | activationDrainTimeout
  /-- `ACTIVATION_OVERRUN` (R392). Activation step 3 running past 800 ms raises fault 53. -/
  | activationOverrun
  /-- `APST_TRANSITION` (R380). An APST idle timer requests a deeper power state as Set Features
  would. -/
  | apstTransition (ctrl : Fin 2) (ps : BitVec 5)
  /-- `DRAM_REQUEST` (R406). The memory controller takes a read, write, merge or AMO, applying
  hazard, queue and ECC rules. Operands: the map unit whose cache page holds the granule, if any.
  -/
  | dramRequest (src : Endpoint) (acc : Access) (link : LinkEcc) (page : Option Nat)
  /-- `MERGE_READ_RETURN` (R406). A merge read returns and is corrected, merged, re-encoded or
  poisoned, making its entry whole. -/
  | mergeReadReturn (granule : Nat)
  /-- `WRITE_QUEUE_DRAIN` (R406). A channel drains its write queue at 48 entries or when no read
  waits. -/
  | writeQueueDrain (ch : Fin 4)
  /-- `REFRESH_DUE` (R402). A per-bank refresh falls due, issued or postponed. -/
  | refreshDue (ch : Fin 4) (bank : Fin 16) (busy : Bool)
  /-- `REFRESH_FORCED` (R402). The eighth postponement is due, so refresh is issued ahead of all
  traffic. -/
  | refreshForced (ch : Fin 4) (bank : Fin 16)
  /-- `MR4_CHANGE` (R402). The MR4 refresh rate changes (event 70, fault 26). -/
  | mr4Change (ch : Fin 4) (code : BitVec 3)
  /-- `RETRAIN_CHECK` (R403). Each RETRAIN_CHECK, drift is measured and the channel retrained when
  beyond limit. -/
  | retrainCheck (ch : Fin 4) (driftPs : Nat)
  /-- `RETRAIN_COMPLETE` (R403). A retraining ends, failing three times in a row raising fault 22.
  -/
  | retrainComplete (ch : Fin 4) (ok : Bool)
  /-- `SCRUB_GO` (R409). SCR_CTL.GO starts a scrub of a range, or is refused with CONFLICT.
  Operands: SCR_CTL word. -/
  | scrubGo (v : BitVec 32)
  /-- `SCRUB_ABORT` (R410). SCR_CTL.ABORT stops the scrub at its next granule and writes the
  summary. -/
  | scrubAbort
  /-- `SCRUB_GRANULE` (R410). One granule is scrubbed at background priority, fixed or logged, and
  the summary written at the range end. Operands: the row signature as it is read with the last
  granule of a row; the map unit whose cache page holds the granule, if any. -/
  | scrubGranule (sig : List Byte) (page : Option Nat)
  /-- `SCRUB_STARVE` (R410). No slot for SCR_STARVE.LIMIT µs, so the next scrub read goes at
  normal priority with STARVED set. -/
  | scrubStarve (ch : Fin 4)
  /-- `SCRUB_PASS_START` (R411). Resident firmware starts the periodic full-DRAM scrub in 256 MiB
  ranges. -/
  | scrubPassStart
  /-- `CIPHER_JOB` (R422). An XTS or GCM job is accepted into the pipeline, or rejected by a
  length rule. -/
  | cipherJob (j : CipherJob)
  /-- `CIPHER_JOB_COMPLETE` (R423). A job finishes with a completion record, zeroing the
  destination on a GCM tag failure. Operands: the page the source of a media job lies in; units
  that had entered the pipeline before a slot change. -/
  | cipherJobComplete (job : Nat) (page : Option Nat) (before : Nat)
  /-- `SLOT_CHANGE_DONE` (R430). The pipeline has drained, so the slot takes its new key or is
  zeroized and held units run or fail. -/
  | slotChangeDone (slot : Fin 128)
  /-- `DRBG_RESEED` (R426). Every 2^20 requests the DRBG reseeds, or halts with fault 61 without
  healthy entropy. -/
  | drbgReseed (entropy : Bool)
  /-- `ENTROPY_HEALTH_FAIL` (R426). The entropy health test fails, raising fault 60 and refusing
  key generation. -/
  | entropyHealthFail
  /-- `CRYPTO_ERASE_RUN` (R433). A crypto erase drains commands, generates new keys, rebinds and
  releases in one group, erases old slots and saves twice. Operands: one step of the running
  erase. -/
  | cryptoEraseRun
  /-- `DMA_KICK` (R446). A write of DMA_KICK refetches a parked descriptor, starts an idle channel
  or sets KICK_PEND. -/
  | dmaKick (n : Fin 16)
  /-- `DMA_ABORT` (R450). DMA_CTL.ABORT stops a channel after its beats in flight. -/
  | dmaAbort (n : Fin 16)
  /-- `DMA_PTR_WRITE` (R453). A write of DMA_PTR is taken only in IDLE, PARKED or ERROR; otherwise
  it sets CONFLICT. -/
  | dmaPtrWrite (n : Fin 16) (v : BitVec 32)
  /-- `DESCRIPTOR_FETCH` (R441). The engine reads CONTROL then the rest, parks on OWN clear or
  checks the descriptor and awaits its trigger. Operands: the error kind the reads of the
  descriptor end in, if any; the write-back of a failed check that fails, if any: of CONTROL (else
  of STATUS), and its kind. -/
  | descriptorFetch (n : Fin 16) (fail : Option (BitVec 4)) (wb : Option (Bool × BitVec 4))
  /-- `MOVER_GRANT` (R443). The free mover goes to the lowest ready channel. -/
  | moverGrant
  /-- `DESCRIPTOR_COMPLETE` (R445). Once the last beat is acknowledged, the engine fences, writes
  back STATUS and CONTROL, raises events and fetches NEXT. Operands: the write of the write-back
  that fails, if any: of CONTROL (else of STATUS), and its kind. -/
  | descriptorComplete (n : Fin 16) (wb : Option (Bool × BitVec 4))
  /-- `DMA_BEAT_ERROR` (R449). A failed beat ends the descriptor in error and stops the chain in
  ERROR. Operands: the beat, by its offset, its error kind; the write-back as in
  DESCRIPTOR_COMPLETE. -/
  | dmaBeatError (n : Fin 16) (onWrite : Bool) (kind : BitVec 4) (offset : Nat) (wb : Option (Bool × BitVec 4))
  /-- `DMA_ABORT_COMPLETE` (R450). Beats in flight are acknowledged after an abort, so the
  descriptor is written back with KIND 0xF and the channel goes IDLE. Operands: bytes whose beats
  had been issued; the write-back as in DESCRIPTOR_COMPLETE. -/
  | dmaAbortComplete (n : Fin 16) (moved : Nat) (wb : Option (Bool × BitVec 4))
  /-- `FAULT_REPORT_INTAKE` (R457). The Hall Monitor takes fault reports, counts windows,
  escalates, records history and applies reactions in order. Operands: up to four reports of one 5
  ns cycle: oldest in flight from each named endpoint. -/
  | faultReportIntake (srcs : List Endpoint)
  /-- `WINDOW_BUCKET_ROLL` (R460). A bucket boundary passes and the oldest bucket leaves WCOUNT.
  -/
  | windowBucketRoll (k : Fin 160)
  /-- `FAULT_SUMMARY_MINUTE` (R466). Once a minute, a count record summarises a source exceeding
  16 history entries. -/
  | faultSummaryMinute
  /-- `HM_INJECT` (R472). HM_INJECT.GO creates a report as if from a source, or completes with
  kind 0x2 for an absent unit. -/
  | hmInject (src : Endpoint) (source kind : Nat)
  /-- `HISTORY_CLEAR` (R466). HM_HIST_CTL.CLEAR empties the history and unfreezes slot 0 (event
  284). -/
  | historyClear
  /-- `EO_FORCE` (R468). HM_EO.FORCE asserts ERROR_OUT as an EO reaction. -/
  | eoForce
  /-- `EO_HOLD_CLEAR` (R468). Clearing HM_EO.HOLD releases ERROR_OUT now or at timer expiry. -/
  | eoHoldClear
  /-- `EO_WIDTH_EXPIRY` (R468). The minimum-width timer expires, releasing ERROR_OUT if HOLD is
  clear. -/
  | eoWidthExpiry
  /-- `LASTING_CLEAR` (R460). Clearing LASTING returns the source to transient (event 282). -/
  | lastingClear (k : Fin 160)
  /-- `SRC_CFG_WRITE` (R464). A write of HM_SRC_CFG stores the fields, refusing forbidden BRST or
  CRST bits with CONFLICT. -/
  | srcCfgWrite (k : Fin 160) (v : BitVec 32)
  /-- `SRC_WIN_WRITE` (R460). A write of HM_SRC_WIN that changes WINDOW clears the source's
  buckets. -/
  | srcWinWrite (k : Fin 160) (v : BitVec 32)
  /-- `YB_APPEND` (R483). YB_APP_CTL.GO appends a record with the next SEQ, or refuses it for
  type, rate, length or full queue. Operands: payload from YB_APP0-7 of the bank. -/
  | ybAppend (bank : YbWho) (type : BitVec 16) (len : BitVec 6)
  /-- `YB_CURSOR_NEXT` (R495). YB_CTL.NEXT advances the cursor by one. -/
  | ybCursorNext (bank : YbWho)
  /-- `YB_CURSOR_PREV` (R495). YB_CTL.PREV moves the cursor back by one. -/
  | ybCursorPrev (bank : YbWho)
  /-- `YB_CURSOR_TO_FIRST` (R495). YB_CTL.TO_FIRST moves the cursor to FIRST_SEQ. -/
  | ybCursorToFirst (bank : YbWho)
  /-- `YB_CURSOR_TO_LAST` (R495). YB_CTL.TO_LAST moves the cursor to the last SEQ. -/
  | ybCursorToLast (bank : YbWho)
  /-- `YB_PROGRAM` (R483). A queued record is page-programmed into the NOR ring under a flash
  grant, erasing the next sector when needed. Operands: how the page program and an erase it
  starts end. -/
  | ybProgram (out : FlashOutcome)
  /-- `YB_FORCE_PROGRAM` (R483). A record queued for 10 s is programmed at once. Operands: how the
  page program and an erase it starts end. -/
  | ybForceProgram (out : FlashOutcome)
  /-- `YB_MIRROR_WRITE` (R490). A full mirror sector is written to the system areas. -/
  | ybMirrorWrite (a : Fin 4)
  /-- `DOMAIN_SWITCH_ON` (R499). A domain switch closes after its dependencies are ready, 20 µs
  apart (event 17). -/
  | domainSwitchOn (d : Fin 32) (who : Requester)
  /-- `POWER_GOOD_TIMEOUT` (R499). No power good within 50 µs raises fault 149 kind 0 and leaves
  the domain off. -/
  | powerGoodTimeout (d : Fin 32)
  /-- `DOMAIN_READY` (R37). A domain's fill completes, so it reports ready and its shadows and
  dependants proceed. Operands: for PD18: the known-answer test that failed, if any; slots whose
  blob fails its integrity check. -/
  | domainReady (d : Fin 32) (kat : Option (Fin 3)) (bad : List (Fin 128))
  /-- `DOMAIN_FILL_OVERRUN` (R499). Fill not complete within 2 ms raises fault 39. -/
  | domainFillOverrun (d : Fin 32)
  /-- `DOMAIN_SWITCH_OFF` (R27). A switch-off is committed: new transactions get kind 0x4 and the
  drain begins. -/
  | domainSwitchOff (d : Fin 32) (who : Requester)
  /-- `DOMAIN_DRAINED` (R499). After the drain, outputs isolate and the switch opens (event 18),
  or fault 149 kind 1 is raised. -/
  | domainDrained (d : Fin 32) (opened : Bool)
  /-- `SUPPLY_REGULATE` (R502). Every 100 µs, an island steps its supply 5 mV by least slack.
  Operands: least slack in ps over the last 100 us. -/
  | supplyRegulate (n : Fin 12) (slack : Int)
  /-- `DROOP_ALARM` (R503). A monitor below 10 ps steps the island up 25 mV with fault 144. -/
  | droopAlarm (n : Fin 12)
  /-- `HEADROOM_EXHAUSTED` (R504). 10 ms at 0.85 V below target raises fault 145. -/
  | headroomExhausted (n : Fin 12)
  /-- `TEMP_SAMPLE` (R505). A sensor is sampled, updating f_heat, thermal protection, hardware
  warning or trip and sensor faults. Operands: 0.125 C; none: diode open or shorted. -/
  | tempSample (k : Fin 8) (t : Option Int)
  /-- `HEAD_MEASUREMENT` (R509). A head's laser threshold, resistances, touchdown power and margin
  are measured as background work. -/
  | headMeasurement (a : Fin 4) (head : BitVec 5) (m : Measurement)
  /-- `SPINDLE_CURRENT_MEASURE` (R508). Once per power-on hour, spindle running current is
  measured at each held speed. Operands: the sum in mA of the samples of the phase current taken
  in 1 s, and how many there are. -/
  | spindleCurrentMeasure (sum n : Nat)
  /-- `REPLAN` (R513). The Report Card classifies heads, writes trims, sets offsets, publishes
  classes and appends records. Operands: the ring-oscillator frequencies at 0.75 V, kHz, by
  island. -/
  | replan (rings : List (Nat × Nat))
  /-- `EVENT_INTAKE` (R522). The event controller takes an event message, setting PEND, QUAL and
  OVR and asserting enabled targets. Operands: oldest event message in flight from that endpoint.
  -/
  | eventIntake (src : Endpoint)
  /-- `EVC_PEND_CLEAR` (R525). Writing 1 to a PEND bit acknowledges the event for every target. -/
  | evcPendClear (w : Fin 11) (bits : BitVec 32)
  /-- `TIM_RUN` (R528). TIM_CTL.RUN starts or arms a timer in its mode, or sets CONFLICT.
  Operands: TIM_CTL word. -/
  | timRun (t : Fin 16) (v : BitVec 32)
  /-- `TIM_STOP` (R528). TIM_CTL.STOP stops a timer. -/
  | timStop (t : Fin 16)
  /-- `TIMER_FIRE` (R528). A timer reaches zero or its time and fires event 320 + t. -/
  | timerFire (t : Fin 16)
  /-- `GPIO_EDGE` (R529). A filtered GPIO edge of the selected polarity raises event 336 + g. -/
  | gpioEdge (g : Fin 16) (level : Bool)
  /-- `UART_PROMPT` (R541). The device sends 0x43 once per second while awaiting a download block.
  -/
  | uartPrompt
  /-- `UART_BLOCK` (R541). A download block is taken and programmed (0x06) or refused (0x15). -/
  | uartBlock (seq : BitVec 8) (data : List (BitVec 8)) (crc : BitVec 32)
  /-- `UART_END` (R541). The end frame verifies the image, then resets the chip or restarts the
  download. -/
  | uartEnd (length : Nat) (crc : BitVec 32) (verifies : Bool)
  /-- `UART_IDLE_TIMEOUT` (R541). Ten seconds without a byte returns the download to its start. -/
  | uartIdleTimeout
  /-- `JTAG_INSTRUCTION` (R557). A JTAG instruction is taken, or forced to BYPASS unless debug is
  enabled with the spindle off. -/
  | jtagInstruction (r : JtagIr)
  /-- `REGISTER_WRITE` (R127). A write to a register without behaviour of its own stores RW fields
  and clears W1C flags, set winning over clear. -/
  | registerWrite (src : Endpoint) (addr : BitVec 36) (v : BitVec 32)
  /-- `TIMING_RECOVERY_LOCK_LOST` (R208). During a read gate, the mean absolute phase error over
  64 bits exceeds 0.25 bit, so TR_LOCK clears and fault offset 8 kind 2 is raised. -/
  | timingRecoveryLockLost (a : Fin 4)
  /-- `DRIVE_OR_SENSE_FAULT` (R154). A 1 MHz motion-sensing sample finds Aa.VCS or Aa.MAS at a
  rail for 10 ms, or MS.RVA, MS.RVB or MS.SHK at a rail for 100 ms, raising fault offset 4 and
  setting RV_CLIP. -/
  | driveOrSenseFault (a : Fin 4) (kind : Fin 4)
  /-- `T1S_LINK_STATE_CHANGE` (R95). The 10BASE-T1S link comes up or goes down, a PLCA beacon is
  seen or lost, or a duplicate PLCA ID is found, updating LINK_STATE with event 318 or fault 157.
  -/
  | t1sLinkStateChange (up beacon dup phyFault : Bool)
  /-- `ENTDAA` (R89). The I3C controller assigns the device a dynamic address by ENTDAA, updating
  I3C_ADDR and LINK_STATE bit 2. Operands: what the bus shows. -/
  | entdaa (x : DaaInputs)
  /-- `PCIE_ERROR` (R392). The host port sees correctable errors, an uncorrectable or poisoned
  TLP, or a host memory access that fails by completion timeout, UR or CA, raising faults 48 to
  50. -/
  | pcieError (port : Fin 2) (kind : PcieErr) (cid : Option Nat)
  /-- `ASPM_L1_2_TRANSITION` (R498). A port's link enters or leaves the L1.2 substate, with
  CLKREQ# and the partner involved, switching PD12 or PD13 off or on. -/
  | aspmL12Transition (port : Fin 2) (enter : Bool)
  /-- `GUEST_OBJECT_REPORT` (R71). A guest reports its objects through the island mailbox at
  start-up, and the server writes back the stored values of its Saved objects. -/
  | guestObjectReport (a : Fin 4) (objs : List GuestObj)
  /-- `LED_ACT_TIMEOUT` (R539). 50 ms after the last media operation start, LED_ACT turns off. -/
  | ledActTimeout
  deriving DecidableEq, Repr

end Sys2Proof
end

