-- ==== Sys2Proof/Machine/State.lean ====
section
/-! DEFINITION. The state of the machine as plain data: one record per chapter of the spec, with
the value each field has at reset, and the faults and refusals. A field's docstring names the
chapter and the rules that give it. -/

namespace Sys2Proof.Machine

open Sys2Proof

/-- What stops the machine. No command of this spec stops it: every happening the spec describes
has its effect on the state (safe: nothing is claimed of a stopped machine). -/
inductive Fault where
  /-- Raised by no meaning; kept so that the type has a member (safe). -/
  | stuck
  deriving DecidableEq, Repr

/-- What the model declines to run. -/
inductive Refusal where
  /-- Raised by an arm of `exec` that has no meaning yet (safe). -/
  | notModelled (mnemonic : String)
  deriving DecidableEq, Repr

/-- The capability tiers of R2 and the unfused part of R7. (00 R2). -/
inductive Tier where
  /-- TIER 0x00; behaves as tier C (R7). -/
  | unfused
  /-- Four actuators, cipher, dual port. -/
  | a
  /-- Two actuators, cipher, dual port. -/
  | b
  /-- Two actuators, no cipher, single port. -/
  | c
  deriving DecidableEq, Repr

/-- The part's fused and strapped identity. -/
structure Ident where
  /-- The tier the part behaves as, taken from the fuse at bring-up (00 R1,R5,R7). -/
  tier : Tier
  /-- The tier fuse: OD 0x0110.01; the part takes it up at its next bring-up (persistent) (00 R1).
  -/
  fuse : Tier
  /-- OD 0x0100.04, the part's serial number, fused (03 R92). -/
  serial : List Byte
  /-- OD 0x0300.06, six octets, fused (03 R93). -/
  mac : List Byte
  /-- The levels of GPIO0-GPIO15 sampled at step 2 of bring-up (20 R540). -/
  straps : BitVec 16
  /-- DUALPORTEN# sampled low at step 2 of bring-up (20 R540). -/
  dualPort : Bool
  deriving DecidableEq, Repr

/-- Ident at reset, as the rules named at its fields give it (values of log 5, 7 where the spec
gives none). -/
def Ident.reset : Ident where
  tier := .unfused
  fuse := .unfused
  serial := []
  mac := [0, 0, 0, 0, 0, 0]
  straps := 0
  dualPort := false

/-- A transaction in flight on Kyomos (R22). -/
structure Txn where
  /-- The number the model gives the transaction (01 R23). -/
  id : Nat
  /-- The initiator endpoint (01 R14). -/
  src : Endpoint
  /-- The DMA channel, for initiator 0x09 (01 R26). -/
  chan : Option (Fin 16)
  /-- Kind, address, size and data (01 R22). -/
  acc : Access
  /-- Messages of the same pair, issued before it, that no one has taken (01 R20). -/
  behind : Nat := 0
  deriving DecidableEq, Repr

/-- A completed transaction as the initiator sees it (R24, R25). -/
structure TxnResult where
  /-- The transaction's number (01 R23). -/
  id : Nat
  /-- The initiator (01 R25). -/
  src : Endpoint
  /-- The DMA channel, if any (01 R26). -/
  chan : Option (Fin 16)
  /-- The completion kind (01 R24). -/
  kind : BitVec 4
  /-- The bytes a read or AMO returns (01 R22). -/
  data : List Byte
  deriving DecidableEq, Repr

/-- The payloads of the message classes 0x1 to 0x5; class 0x6 is the row CHIP_TIME_BROADCAST
itself. (01 R21). -/
inductive Payload where
  /-- Class 0x1. -/
  | event (num : BitVec 9) (qual : BitVec 32)
  /-- Class 0x2. -/
  | fault (source : BitVec 8) (kind : BitVec 4) (addr : BitVec 48) (stamp : BitVec 64)
  /-- Class 0x3; the instant in sixteenths of a tick. -/
  | feedForward (accel : F32) (instant : Nat) (period : BitVec 16) (late hold unloaded : Bool)
  /-- Class 0x4; the instant in sixteenths of a tick. -/
  | wedgeTiming (wedge : BitVec 10) (instant : Nat) (locked missing frozen : Bool)
  /-- Class 0x5; the start instant in sixteenths of a tick. -/
  | slewNotice (target : BitVec 17) (rate : BitVec 16) (start : Nat)
  deriving DecidableEq, Repr

/-- A message in flight (R21). -/
structure Msg where
  /-- Header bits 27:20 (01 R21). -/
  src : Endpoint
  /-- Header bits 19:12 (01 R21). -/
  dst : Endpoint
  /-- Class and payload (01 R21). -/
  body : Payload
  deriving DecidableEq, Repr

/-- A fence that has not completed (R16). -/
structure Fence where
  /-- The endpoint that issued it (01 R16). -/
  src : Endpoint
  /-- Transactions issued before it and not yet acknowledged (01 R16). -/
  txns : List Nat
  /-- Messages issued before it and not yet taken (01 R16). -/
  msgs : List Msg
  deriving DecidableEq, Repr

/-- The RISC-V address-misaligned exceptions. (01 R22). -/
inductive Misalign where
  /-- Load address misaligned. -/
  | load
  /-- Store address misaligned. -/
  | store
  /-- AMO address misaligned. -/
  | amo
  deriving DecidableEq, Repr

/-- What the fabric signals to one core. -/
structure CorePort where
  /-- Local interrupt of an imprecise store error (01 R25). -/
  storeErrIrq : Bool
  /-- A precise load access fault was raised by the last completed access (01 R25). -/
  loadFault : Bool
  /-- The address-misaligned exception raised by the last access (01 R22). -/
  misaligned : Option Misalign
  deriving DecidableEq, Repr

/-- CorePort at reset, as the rules named at its fields give it. -/
def CorePort.reset : CorePort where
  storeErrIrq := false
  loadFault := false
  misaligned := none

/-- Kyomos: chip time, replicas, transactions, messages and the memory behind it. -/
structure Fab where
  /-- The master count of 5 ns ticks since power-on reset (01 R13). -/
  chipTime : BitVec 64
  /-- Each island's replica less the master, in ticks, moved towards it by a changed increment, in
  the index order of R501 (12 islands) (01 R13, 18 R501). -/
  replica : List Int
  /-- Transactions in flight, oldest first (01 R22,R23,R24). -/
  txns : List Txn
  /-- Completed transactions, oldest first (01 R24,R25). -/
  results : List TxnResult
  /-- The number of the next transaction (01 R23). -/
  nextTxn : Nat
  /-- Messages in flight and in the receive queues, oldest first (01 R15,R21). -/
  msgs : List Msg
  /-- Fences not yet complete (01 R16). -/
  fences : List Fence
  /-- Per core endpoint, the signals it has received (unlisted: none) (01 R22,R25). -/
  cores : Tab CorePort
  /-- Every byte of ROM, SRAM, TCM, engine memories, Chalkboard, sample RAM and DRAM; an unlisted
  byte reads 0x00 (01 R28,R29,R37). -/
  mem : List Host.Cell
  deriving DecidableEq, Repr

/-- Fab at reset, as the rules named at its fields give it. -/
def Fab.reset : Fab where
  chipTime := 0
  replica := [0,0,0,0,0,0,0,0,0,0,0,0]
  txns := []
  results := []
  nextTxn := 0
  msgs := []
  fences := []
  cores := []
  mem := []

/-- The feed-forward mailbox of one receiver for one sender (R31, R32). -/
structure Mailbox where
  /-- The latest released value; reads 0.0 while a flag stands (01 R32). -/
  value : F32
  /-- No message released since the domain last reported ready, or for two periods (01 R32). -/
  stale : Bool
  /-- The sender's latest message carried the unloaded flag (01 R32). -/
  unloaded : Bool
  /-- Messages received and not yet released: release instant in sixteenths of a tick, value,
  unloaded flag (01 R31). -/
  queue : List (Nat × F32 × Bool)
  /-- The chip time of the last release, in sixteenths of a tick (01 R32). -/
  released : Nat
  deriving DecidableEq, Repr

/-- Mailbox at reset, as the rules named at its fields give it. -/
def Mailbox.reset : Mailbox where
  value := 0
  stale := true
  unloaded := false
  queue := []
  released := 0

/-- The six modes with their codes. (02 R35). -/
inductive Mode where
  /-- 0x1 FILL. -/
  | fill
  /-- 0x2 ORIENTATION. -/
  | orientation
  /-- 0x3 SERVICE. -/
  | service
  /-- 0x4 RECESS. -/
  | recess
  /-- 0x5 DORMANT. -/
  | dormant
  /-- 0x6 LIMITED. -/
  | limited
  deriving DecidableEq, Repr

/-- Where DRAM training stands. (02 R41,R43). -/
inductive Training where
  /-- Before step 5 of bring-up. -/
  | notStarted
  /-- Training runs. -/
  | running
  /-- Every channel trained. -/
  | trained
  /-- Some channel failed. -/
  | failed
  deriving DecidableEq, Repr

/-- How far a power-state entry has come. (02 R50). -/
inductive EntryStage where
  /-- Steps 1 to 3. -/
  | flushing
  /-- Past the head-unload point, step 5. -/
  | unloading
  /-- Step 7, or step 6 for a cut-short entry. -/
  | slewing
  deriving DecidableEq, Repr

/-- The kinds of orderly shutdown. (02 R53,R54,R55). -/
inductive ShutKind where
  /-- CC.SHN = 01b or OD 0x0203.01. -/
  | normal
  /-- CC.SHN = 10b. -/
  | abrupt
  deriving DecidableEq, Repr

/-- How far an orderly shutdown has come. (02 R53,R54,R55). -/
inductive ShutStage where
  /-- Steps 1 to 4. -/
  | draining
  /-- The checkpoint of 10 R321. -/
  | checkpoint
  /-- Step 6. -/
  | unloading
  /-- After an abrupt shutdown, the cached data is written. -/
  | flushing
  /-- Step 7. -/
  | braking
  deriving DecidableEq, Repr

/-- OD 0x0200.08 SHUTDOWN_STATE. (02 R63). -/
inductive ShutState where
  /-- 0x00. -/
  | none
  /-- 0x01. -/
  | inProgress
  /-- 0x02. -/
  | complete
  deriving DecidableEq, Repr

/-- An entry to RECESS or DORMANT that is running (R50). -/
structure PowerEntry where
  /-- The mode entered (02 R50). -/
  target : Mode
  /-- Before or past the head-unload point, or in step 7 (02 R50). -/
  stage : EntryStage
  /-- A command arrived after the head-unload point (12 R381). -/
  cutShort : Bool
  deriving DecidableEq, Repr

/-- A power-loss sequence that is running (R57, R58). -/
structure PowerLoss where
  /-- 0 comparator, 1 12 V, 2 5 V, 3 PWRDIS (02 R65). -/
  cause : BitVec 4
  /-- Actuators whose retract has started (02 R58). -/
  retracting : BitVec 4
  /-- Actuators that were loaded at declaration and are not yet parked (02 R58). -/
  toRetract : BitVec 4
  /-- The last head has parked (02 R61). -/
  done : Bool
  /-- Chip time of declaration (02 R58). -/
  since : BitVec 64
  /-- NOR can still be programmed (02 R60). -/
  nor : Bool
  deriving DecidableEq, Repr

/-- Modes, bring-up, shutdown, chip reset and power loss. -/
structure Sys where
  /-- OD 0x0200.01 (02 R35,R38). -/
  mode : Mode
  /-- OD 0x0200.06 as chip time (02 R63). -/
  modeEntered : BitVec 64
  /-- Power-on reset has been released (step 1) (02 R41). -/
  porDone : Bool
  /-- Supplies out of range, checked again every 1 ms (02 R42). -/
  supplyWait : Bool
  /-- Chip time of the first check of step 3, from which the 5 s count (02 R42). -/
  supplySince : BitVec 64
  /-- Chip time of the last check (02 R42). -/
  supplyAt : BitVec 64
  /-- Spindle not started: fault 3 kind 0 supply, 1 parameters (02 R42,R65). -/
  spinRefused : Option (BitVec 4)
  /-- DRAM training (02 R41,R43). -/
  dram : Training
  /-- Channels whose training failed (02 R43). -/
  dramFailMask : BitVec 4
  /-- Step 7 is complete (event 2) (02 R41). -/
  dramFilled : Bool
  /-- Core 0 has been released (event 3) (02 R43). -/
  coreReleased : Bool
  /-- Cores 1-3 have been released by resident firmware (02 R43). -/
  cores13Released : Bool
  /-- The slot (1 to 3) of the resident image that runs (02 R44). -/
  imageSlot : Option (Fin 4)
  /-- No slot verified; the UART download is served (02 R44). -/
  bootFailed : Bool
  /-- Resident firmware runs (event 4) (02 R38). -/
  resident : Bool
  /-- The host controller is configured (step 10) (02 R41, 12 R365). -/
  hostConfigured : Bool
  /-- OD 0x0201.01-.07 as chip time (02 R63). -/
  milestones : List (BitVec 64)
  /-- OD 0x0200.03 (02 R52). -/
  limitedCause : BitVec 16
  /-- Cause named by an "enter LIMITED" reaction raised during FILL (02 R38,R462). -/
  limitedPending : Option (BitVec 16)
  /-- I/O is accepted (02 R46). -/
  ioAccepted : Bool
  /-- The mapping is restored (02 R46). -/
  mapRestored : Bool
  /-- The mapping restore failed (02 R46,R569). -/
  restoreFailed : Bool
  /-- The mode of the NVMe power state the host has set (02 R40). -/
  hostTarget : Mode
  /-- The power-state entry running (02 R50). -/
  entry : Option PowerEntry
  /-- An exit from RECESS or DORMANT is running (02 R51). -/
  exiting : Bool
  /-- A command that needs the media has woken or will wake the device (02 R40, 12 R382). -/
  wakeReq : Bool
  /-- A command woke the device; RETURN_IDLE runs (02 R40). -/
  returnArmed : Bool
  /-- Chip time at which a media command was last outstanding (02 R40). -/
  mediaAt : BitVec 64
  /-- Chip time at which the entry, exit or shutdown that runs began (02 R65). -/
  transAt : BitVec 64
  /-- Chip time at which a chip reset's retract began (02 R56). -/
  resetAt : BitVec 64
  /-- OD 0x0200.08 (02 R63). -/
  shutState : ShutState
  /-- The shutdown in progress or complete (02 R53,R54). -/
  shutKind : Option ShutKind
  /-- How far the shutdown has come; none when it has ended (02 R53,R54,R55). -/
  shutStage : Option ShutStage
  /-- Stays in DORMANT until a command or a new request (02 R53). -/
  shutHold : Bool
  /-- A request that arrived in FILL (02 R55). -/
  shutWaiting : Option ShutKind
  /-- A chip reset pending: 0 OD or NSSR, else 1 + the fault source (low bits) (02 R56, 16 R470).
  -/
  chipResetBy : Option (BitVec 8)
  /-- The power-loss sequence running (02 R57,R58). -/
  powerLoss : Option PowerLoss
  /-- RETRACT pin; stays until power-on reset (02 R60). -/
  retract : Bool
  /-- OD 0x0200.03 at the previous power-off (persistent) (17 R480). -/
  prevCause : BitVec 16
  /-- Actuators that run full touchdown calibration at the next ORIENTATION (02 R60). -/
  needTouchdown : BitVec 4
  /-- Unsafe actuators, until the next chip reset (02 R568). -/
  unsafeActs : BitVec 4
  /-- Actuators that have reported calibration complete (02 R38,R47). -/
  calReported : BitVec 4
  /-- Actuators in the order their heads loaded since bring-up (02 R46). -/
  loadOrder : List (Fin 4)
  /-- Actuators whose heads failed every load attempt (02 R51,R568). -/
  loadFailed : BitVec 4
  /-- Per actuator, head temperatures at CAL_DONE, in 0.125 C, empty when no calibration was taken
  this power cycle (02 R51). -/
  calTemps : List (List Int)
  /-- The 12 V sense, mV (input) (02 R42,R57). -/
  v12 : Nat
  /-- The 5 V sense, mV (input) (02 R42,R57). -/
  v5 : Nat
  /-- The last measured spin-up time, ms (02 R51). -/
  spinUpMs : Option Nat
  deriving DecidableEq, Repr

/-- Sys at reset, as the rules named at its fields give it (values of log 8 where the spec gives
none). -/
def Sys.reset : Sys where
  mode := .fill
  modeEntered := 0
  porDone := false
  supplyWait := false
  supplySince := 0
  supplyAt := 0
  spinRefused := none
  dram := .notStarted
  dramFailMask := 0
  dramFilled := false
  coreReleased := false
  cores13Released := false
  imageSlot := none
  bootFailed := false
  resident := false
  hostConfigured := false
  milestones := [0,0,0,0,0,0,0]
  limitedCause := 0
  limitedPending := none
  ioAccepted := false
  mapRestored := false
  restoreFailed := false
  hostTarget := .service
  entry := none
  exiting := false
  wakeReq := false
  returnArmed := false
  mediaAt := 0
  transAt := 0
  resetAt := 0
  shutState := .none
  shutKind := none
  shutStage := none
  shutHold := false
  shutWaiting := none
  chipResetBy := none
  powerLoss := none
  retract := false
  prevCause := 0
  needTouchdown := 0
  unsafeActs := 0
  calReported := 0
  loadOrder := []
  loadFailed := 0
  calTemps := [[],[],[],[]]
  v12 := 12000
  v5 := 5000
  spinUpMs := none

/-- One copy of the persistent store (R75). -/
structure StoreCopy where
  /-- Its sequence number (03 R75). -/
  seq : BitVec 32
  /-- Its CRC-32 (03 R75). -/
  crc : BitVec 32
  /-- The saved values, by object key (03 R75). -/
  vals : Tab OdVal
  /-- The saved values of guest objects, by object key (03 R75). -/
  guests : Tab OdVal
  /-- The role keys, by role code 1 to 3 (03 R85,R94). -/
  roleKeys : Tab (List Byte)
  /-- KEY_EPOCH by role code (03 R94). -/
  epochs : Tab Nat
  /-- The wrapped key of each loaded media key slot, held as the key it wraps (log 11) (14 R428).
  -/
  blobs : Tab (List Byte)
  deriving DecidableEq, Repr

/-- A session with a staged set (R74). -/
structure Session where
  /-- Transport, sender and role (03 R74). -/
  sid : SessionId
  /-- The staged set, in the order staged (03 R74). -/
  staged : List WriteItem
  /-- Chip time of the session's last request (03 R74). -/
  lastUse : BitVec 64
  deriving DecidableEq, Repr

/-- One response item (R80). -/
structure RespItem where
  /-- Index and subindex (03 R80). -/
  key : ObjKey
  /-- Access status (03 R78). -/
  status : BitVec 8
  /-- Type code (03 R67). -/
  ty : BitVec 8
  /-- The value, if any (03 R80). -/
  val : Option OdVal
  deriving DecidableEq, Repr

/-- A response frame the drive sends (R72, R79-R83). -/
structure Resp where
  /-- The sender it goes to (03 R84). -/
  sender : Sender
  /-- DST_NODE: the request's SRC_NODE (03 R79). -/
  dst : BitVec 16
  /-- TAG_ID echoed (03 R79). -/
  tagId : BitVec 32
  /-- The op with bit 7 set (03 R80). -/
  op : BitVec 8
  /-- Status of the whole request (03 R80). -/
  status : BitVec 8
  /-- Items served (03 R80). -/
  items : List RespItem
  /-- The numbers COMMIT, SAVE, RESTORE, ENUMERATE, DESCRIBE and IDENTIFY answer with, in the
  order of R72 (03 R72). -/
  extra : List Nat
  /-- Bytes of READ_LONG (03 R72). -/
  bytes : List Byte
  /-- COUNTER: boot count and the drive's sequence (03 R81). -/
  counter : BitVec 64
  /-- The role whose key authenticates it (03 R83). -/
  keyRole : BitVec 2
  /-- That role's key as the request found it (03 R81,R85). -/
  key : List Byte
  /-- KEY_EPOCH: the epoch of that key (03 R79). -/
  epoch : BitVec 32
  /-- SRC_NODE: the drive's own node ID as it answers (03 R79,R81). -/
  src : BitVec 16
  /-- The frame as it is sent: header, encrypted body and tag (03 R79,R81). -/
  frame : List Byte
  deriving DecidableEq, Repr

/-- A sender that is silenced (R84). -/
structure Silence where
  /-- The sender (03 R84). -/
  sender : Sender
  /-- Chip time of the eighth failure (03 R84). -/
  since : BitVec 64
  deriving DecidableEq, Repr

/-- A sender's recent status-0x0A failures (R84). -/
structure AuthFail where
  /-- The sender (03 R84). -/
  sender : Sender
  /-- Chip times of its failures within 60 s (03 R84). -/
  times : List (BitVec 64)
  deriving DecidableEq, Repr

/-- A key within its 2 s grace (R85). -/
structure OldKey where
  /-- The role (03 R85). -/
  role : BitVec 2
  /-- The old key (03 R85). -/
  key : List Byte
  /-- The one sender it held for, if not all (03 R85,R86). -/
  only : Option Sender
  /-- Chip time of the change (03 R85). -/
  since : BitVec 64
  deriving DecidableEq, Repr

/-- What waits for a SAVE (R75, R85, 12 R387, 14 R434). -/
structure SaveWant where
  /-- The response to give once it is done (03 R75,R85). -/
  answer : Option Resp
  /-- The host command to complete, by fetch number (12 R387). -/
  cmd : Option Nat
  /-- Further SAVEs to run before that (14 R434). -/
  more : Nat
  deriving DecidableEq, Repr

/-- A SAVE that is running (R75). -/
structure SaveRun where
  /-- What waits for it (03 R75). -/
  want : SaveWant
  /-- The image being written into the older copy (03 R75). -/
  copy : StoreCopy
  deriving DecidableEq, Repr

/-- A response held for a guest that has not answered (R71). -/
structure HeldResp where
  /-- Chip time of the access (03 R71). -/
  since : BitVec 64
  /-- The actuators whose guests have not answered (03 R71). -/
  acts : List (Fin 4)
  /-- The response, the item unanswered already carrying status 0x09 (03 R71). -/
  resp : Resp
  deriving DecidableEq, Repr

/-- A guest object as its guest reported it (R71). -/
structure GuestObjEntry where
  /-- The actuator (03 R71). -/
  act : Fin 4
  /-- Key, type, access, role, default, Saved flag and present value (03 R71). -/
  obj : GuestObj
  deriving DecidableEq, Repr

/-- The object dictionary server and the Buyth transports. -/
structure Dict where
  /-- Every object value that is not at its default and that no other field of State holds, by
  index * 256 + subindex (03 R66-R71). -/
  od : Tab OdVal
  /-- Store copy 0 (persistent) (03 R75). -/
  copy0 : StoreCopy
  /-- Store copy 1 (persistent) (03 R75). -/
  copy1 : StoreCopy
  /-- The current copy: false copy 0, true copy 1 (03 R75). -/
  current : Bool
  /-- A SAVE that is running (03 R75). -/
  saving : Option SaveRun
  /-- SAVEs the device itself has to run after it (03 R75). -/
  saveNext : List SaveWant
  /-- A COMMIT that waits for key slot changes to take effect (14 R430,R434). -/
  slotAnswer : Option SaveWant
  /-- Sessions with a staged set (03 R74). -/
  sessions : List Session
  /-- Last accepted counters, most recently used first, at most 64 (03 R82). -/
  counters : List (SessionId × BitVec 64)
  /-- Per role, the counter floor (unlisted 0) (03 R82). -/
  floors : Tab Nat
  /-- OD 0x0100.05 (persistent) (03 R92). -/
  bootCount : BitVec 32
  /-- The drive's own COUNTER sequence (03 R81). -/
  ownSeq : BitVec 32
  /-- The provisioned role keys by role code 1 to 3 (persistent) (03 R85,R94). -/
  keys : Tab (List Byte)
  /-- OD 0x0400.04 KEY_STATE (03 R86,R94). -/
  provisioned : BitVec 3
  /-- KEY_STATE as the last good SAVE stored it (persistent) (03 R86,R94). -/
  provStored : BitVec 3
  /-- KEY_EPOCH by role code (03 R94). -/
  epochs : Tab Nat
  /-- The old keys within their 2 s grace (03 R85). -/
  oldKeys : List OldKey
  /-- Senders silenced now (03 R84). -/
  silenced : List Silence
  /-- Recent failures per sender (03 R84). -/
  fails : List AuthFail
  /-- Failure answers sent in the present minute (03 R83). -/
  failAnswers : Nat
  /-- The minute of chip time failAnswers counts (03 R83). -/
  failMinute : BitVec 64
  /-- Buyth frames taken in and waiting, oldest first, by controller (03 R90). -/
  nvmeWaiting : List (Fin 2 × List Byte)
  /-- Responses to NVMe senders awaiting Buyth Receive, oldest first (03 R90). -/
  responses : List Resp
  /-- Frames sent on the other transports, oldest first (the part's output) (03 R72). -/
  answers : List Resp
  /-- What Buyth Receive commands returned: controller, command identifier, response, buffer
  length it is cut to (output) (03 R90). -/
  delivered : List (Fin 2 × Nat × Resp × Nat)
  /-- A response waiting for a guest (03 R71). -/
  held : Option HeldResp
  /-- Delayed answers to broadcast IDENTIFY, with the chip time of each request (03 R88). -/
  broadcasts : List (BitVec 64 × Resp)
  /-- The objects the guests have reported (03 R71,R75). -/
  guestObjs : List GuestObjEntry
  /-- OD 0x0300.07 (03 R93,R95). -/
  linkState : BitVec 3
  /-- OD 0x0300.0A (03 R89,R93). -/
  i3cAddr : BitVec 8
  /-- OD 0x0300.0B (03 R93). -/
  mctpEid : BitVec 8
  /-- OD 0x0300.08 (03 R93). -/
  framesOk : BitVec 32
  /-- OD 0x0300.09 (03 R93). -/
  framesDropped : BitVec 32
  deriving DecidableEq, Repr

/-- Dict at reset, as the rules named at its fields give it (values of log 9 where the spec gives
none). -/
def Dict.reset : Dict where
  od := []
  copy0 := { seq := 0, crc := 0x2144DF1C, vals := [], guests := [], roleKeys := [], epochs := [], blobs := [] }
  copy1 := { seq := 0, crc := 0x2144DF1C, vals := [], guests := [], roleKeys := [], epochs := [], blobs := [] }
  current := false
  saving := none
  saveNext := []
  slotAnswer := none
  sessions := []
  counters := []
  floors := []
  bootCount := 0
  ownSeq := 0
  keys := []
  provisioned := 0
  provStored := 0
  epochs := []
  oldKeys := []
  silenced := []
  fails := []
  failAnswers := 0
  failMinute := 0
  nvmeWaiting := []
  responses := []
  answers := []
  delivered := []
  held := none
  broadcasts := []
  guestObjs := []
  linkState := 0
  i3cAddr := 0
  mctpEid := 0
  framesOk := 0
  framesDropped := 0

/-- SPN_STATUS.STATE. (04 R106). -/
inductive SpnState where
  /-- 0x00 OFF. -/
  | off
  /-- 0x01 REST_CHECK. -/
  | restCheck
  /-- 0x02 ALIGN. -/
  | align
  /-- 0x03 RAMP. -/
  | ramp
  /-- 0x04 RUN. -/
  | run
  /-- 0x05 FLYWHEEL. -/
  | flywheel
  /-- 0x06 COAST. -/
  | coast
  /-- 0x07 CATCH. -/
  | catching
  /-- 0x08 BEMF_LOCK. -/
  | bemfLock
  /-- 0x09 BRAKE. -/
  | brake
  /-- 0x0A SYNC_RECT. -/
  | syncRect
  /-- 0x0B LOW_HOLD. -/
  | lowHold
  deriving DecidableEq, Repr

/-- One wedge timing message as spindle control keeps it (R119). -/
structure WedgeMsg where
  /-- The wedge number (04 R119). -/
  wedge : BitVec 10
  /-- The servo address mark's instant, sixteenths of a tick (04 R119). -/
  instant : Nat
  /-- Neither missing nor frozen (04 R119). -/
  good : Bool
  deriving DecidableEq, Repr

/-- What spindle control knows of one actuator's wedges (R119, R120). -/
structure WedgeSrc where
  /-- The latest wedges, newest first, at most W + 1 (04 R119). -/
  hist : List WedgeMsg
  /-- Consecutive wedges with the locked flag (04 R120). -/
  lockedRun : Nat
  /-- Consecutive missing, frozen or unlocked wedges (04 R120). -/
  badRun : Nat
  deriving DecidableEq, Repr

/-- WedgeSrc at reset, as the rules named at its fields give it. -/
def WedgeSrc.reset : WedgeSrc where
  hist := []
  lockedRun := 0
  badRun := 0

/-- A slew notice in force (R122, R34). -/
structure NoticeForce where
  /-- Target speed, rpm x 16 (04 R122). -/
  target : BitVec 17
  /-- Ramp rate, rpm/s; 0xFFFF speed not assured (04 R122). -/
  rate : BitVec 16
  /-- Start instant, sixteenths of a tick (04 R122). -/
  start : Nat
  deriving DecidableEq, Repr

/-- NoticeForce at reset, as the rules named at its fields give it. -/
def NoticeForce.reset : NoticeForce where
  target := 0
  rate := 0
  start := 0

/-- Spindle control. -/
structure Spn where
  /-- SPN_STATUS.STATE (04 R106,R126). -/
  state : SpnState
  /-- SPN_CTL.DTC (04 R125). -/
  dtc : Bool
  /-- SPN_CTL.REF_MODE (04 R125). -/
  refMode : BitVec 2
  /-- SPN_CTL.REF_ACT (04 R125). -/
  refAct : BitVec 2
  /-- SPN_CTL.STOP (04 R125). -/
  stopReq : Bool
  /-- SPN_CTL.RUN (04 R125). -/
  runReq : Bool
  /-- SPN_STATUS.OBS_CONF (04 R126). -/
  obsConf : BitVec 8
  /-- SPN_STATUS.REF_SRC (04 R126). -/
  refSrc : BitVec 4
  /-- SPN_STATUS.OBS_VALID (04 R126). -/
  obsValid : Bool
  /-- SPN_STATUS.WR_HOLD (04 R126). -/
  wrHold : Bool
  /-- SPN_STATUS.LOCKED (04 R126). -/
  locked : Bool
  /-- SP.CHD, SPN_STATUS.CHOP_ON (04 R126,R537). -/
  chopOn : Bool
  /-- SPN_STATUS.CHOP_FAULT (04 R126). -/
  chopFault : Bool
  /-- SPN_STATUS.ZERO_VECTOR (04 R126). -/
  zeroVector : Bool
  /-- SPN_STATUS.SLEWING (04 R126). -/
  slewing : Bool
  /-- A ramp to the present target has been announced and has not ended (04 R119,R122). -/
  rampDue : Bool
  /-- SPN_FLAGS, bit 8 CONFLICT down to bit 0 LOCKED_ROTOR (04 R127). -/
  flags : BitVec 9
  /-- SPN_SPEED (04 R128). -/
  speed : BitVec 17
  /-- The observer's speed, rpm x 16 (04 R105). -/
  obsSpeed : BitVec 17
  /-- The observer's speeds of the last six steps, newest first: their sum and how many (04 R119).
  -/
  obsSteps : List (Nat × Nat)
  /-- The observer's speeds of the present step: their sum and how many (04 R119). -/
  obsSum : Nat × Nat
  /-- The squared current differences of the present step, mA squared (04 R105). -/
  residSum : F32
  /-- How many of them (04 R105). -/
  residN : Nat
  /-- The residual over the last step (04 R105). -/
  resid : F32
  /-- SPN_TARGET.TARGET (04 R128). -/
  target : BitVec 17
  /-- SPN_TARGET.CRUISE (04 R128). -/
  cruise : Bool
  /-- SPN_ANGLE.SECTOR (04 R128). -/
  sector : BitVec 3
  /-- SPN_ANGLE.ANGLE (04 R128). -/
  angle : BitVec 16
  /-- SPN_GATE.GATES: UH, UL, VH, VL, WH, WL from bit 5 down (04 R97,R128). -/
  gates : BitVec 6
  /-- The gates commanded, which a dead time may still hold back (04 R98). -/
  gatesWant : BitVec 6
  /-- Per phase, whether the switch on last was the high-side one (04 R98). -/
  lastSide : BitVec 3
  /-- Per phase, the chip time at which that switch went off (04 R98). -/
  offAt : List (BitVec 64)
  /-- SPN_ADC0-SPN_ADC8 (04 R128). -/
  adc : List (BitVec 12)
  /-- The speed loop's reference, rpm x 200,000,000 (exact per 5 ns tick) (04 R119). -/
  reference : Nat
  /-- The rate the reference moves at, rpm/s (04 R119,R122). -/
  rampRate : Nat
  /-- The PI integrator, mA (04 R119). -/
  integ : F32
  /-- The current command, mA (04 R119). -/
  current : F32
  /-- The duties of phases U, V, W (04 R101). -/
  duty : List F32
  /-- The open-loop ramp, rpm x 200,000,000 (04 R108). -/
  openLoop : Nat
  /-- The electrical angle of RAMP, FLYWHEEL and BEMF_LOCK, in 1 / (60 x 200,000,000^2) turn (04
  R106). -/
  elec : Nat
  /-- Electrical periods since the state was entered (04 R114). -/
  turns : Nat
  /-- Chip time at which the state was entered (04 R108,R111). -/
  enteredAt : BitVec 64
  /-- Chip time of the last commutation event or zero crossing (04 R105,R111). -/
  eventAt : BitVec 64
  /-- The start attempt, 0 first (04 R111). -/
  attempt : Nat
  /-- All gates 0 for 500 ms before the next attempt (04 R111). -/
  waiting500 : Bool
  /-- Chip time of RUN (04 R131). -/
  startedAt : BitVec 64
  /-- Event 132 given since RUN (04 R131). -/
  ratedGiven : Bool
  /-- Event 135 given for the present target (04 R123). -/
  targetGiven : Bool
  /-- Consecutive confident boundaries (04 R109). -/
  confident : Nat
  /-- Consecutive electrical periods with the residual above the threshold (04 R114). -/
  residHigh : Nat
  /-- Consecutive good floating-phase zero crossings in FLYWHEEL (04 R114). -/
  goodCross : Nat
  /-- Steps OBS_VALID has held in BEMF_LOCK (04 R112). -/
  validSteps : Nat
  /-- The catch was entered from a failed flywheel (04 R112). -/
  catchFromRun : Bool
  /-- The speed CATCH measured, rpm (04 R112). -/
  catchSpeed : Nat
  /-- Chip time of the last change of target (18 R508). -/
  targetAt : BitVec 64
  /-- A target written in FLYWHEEL, COAST, CATCH or BEMF_LOCK (04 R107). -/
  storedTarget : Option (BitVec 17)
  /-- SP.VSUP is above OV_WARN: fault 78 given and deceleration current halved (04 R115). -/
  ovWarned : Bool
  /-- Chip time at which SP.CHD last went to 1 (04 R131). -/
  chopAt : BitVec 64
  /-- The last slew notice sent (04 R122). -/
  notice : NoticeForce
  /-- Consecutive wedges within RELEASE_TOL (04 R122). -/
  relCount : Nat
  /-- Consecutive wedges beyond 0.5 % (04 R121). -/
  devCount : Nat
  /-- The wedge history of each actuator (04 R119,R120). -/
  wedges : Four WedgeSrc
  /-- Parameter words written in use, taken at the next step boundary (04 R129). -/
  pendingParams : Tab Nat
  /-- A locked rotor in RUN: the start procedure runs once the last head is parked (04 R111). -/
  retryRun : Bool
  /-- Per sense channel, PWM periods at a rail (faults 84) and per phase 16 + p, periods of gate
  disagreement (fault 83) (04 R132). -/
  stuck : Tab Nat
  /-- The torque comparator: 0 hold, 1 up, 2 down (04 R103). -/
  dtcT : BitVec 2
  /-- The flux comparator says up (04 R103). -/
  dtcF : Bool
  /-- The vector applied in direct torque control: high sides of U, V, W from bit 2 (04 R103). -/
  vector : BitVec 3
  /-- The last valid electrical angle (04 R114). -/
  lastAngle : BitVec 16
  /-- The last valid speed, rpm x 16 (04 R114). -/
  lastSpeed : BitVec 17
  /-- A commutation event has come since the handover from RAMP (04 R111). -/
  ranFirst : Bool
  deriving DecidableEq, Repr

/-- Spn at reset, as the rules named at its fields give it. -/
def Spn.reset : Spn where
  state := .off
  dtc := false
  refMode := 0
  refAct := 0
  stopReq := false
  runReq := false
  obsConf := 0
  refSrc := 0xE
  obsValid := false
  wrHold := false
  locked := false
  chopOn := false
  chopFault := false
  zeroVector := false
  slewing := false
  rampDue := false
  flags := 0
  speed := 0
  obsSpeed := 0
  obsSteps := []
  obsSum := (0, 0)
  residSum := 0
  residN := 0
  resid := 0
  target := 0
  cruise := false
  sector := 0
  angle := 0
  gates := 0
  gatesWant := 0
  lastSide := 0
  offAt := [0,0,0]
  adc := [0,0,0,0,0,0,0,0,0]
  reference := 0
  rampRate := 0
  integ := 0
  current := 0
  duty := [0,0,0]
  openLoop := 0
  elec := 0
  turns := 0
  enteredAt := 0
  eventAt := 0
  attempt := 0
  waiting500 := false
  startedAt := 0
  ratedGiven := false
  targetGiven := false
  confident := 0
  residHigh := 0
  goodCross := 0
  validSteps := 0
  catchFromRun := false
  catchSpeed := 0
  targetAt := 0
  storedTarget := none
  ovWarned := false
  chopAt := 0
  notice := { target := 0, rate := 0, start := 0 }
  relCount := 0
  devCount := 0
  wedges := Four.all { hist := [], lockedRun := 0, badRun := 0 }
  pendingParams := []
  retryRun := false
  stuck := []
  dtcT := 0
  dtcF := false
  vector := 0
  lastAngle := 0
  lastSpeed := 0
  ranFirst := true

/-- ISL_STATUS.LOAD_STATE. (05 R148). -/
inductive LoadState where
  /-- 0x0. -/
  | parked
  /-- 0x1. -/
  | loadPending
  /-- 0x2. -/
  | loading
  /-- 0x3. -/
  | acquiring
  /-- 0x4. -/
  | loaded
  /-- 0x5. -/
  | unloading
  /-- 0x6. -/
  | retracting
  deriving DecidableEq, Repr

/-- ISL_CALREQ and ISL_CALGRANT of an island (11 R357, R358). -/
structure CalReg where
  /-- ISL_CALREQ.REQ (11 R357). -/
  req : Bool
  /-- ISL_CALREQ.SAFETY (11 R357). -/
  safety : Bool
  /-- ISL_CALREQ.DEADLINE (11 R357). -/
  deadline : BitVec 13
  /-- ISL_CALREQ.DURATION (11 R357). -/
  duration : BitVec 16
  /-- ISL_CALGRANT.ACTIVE (11 R357). -/
  active : Bool
  /-- ISL_CALGRANT.CONFLICT (11 R357). -/
  conflict : Bool
  /-- The duration of the grant in force, 10 us units (11 R358). -/
  given : BitVec 16
  /-- Chip time the grant started; ISL_CALGRANT.LEFT is what is left of it (11 R357). -/
  since : BitVec 64
  deriving DecidableEq, Repr

/-- CalReg at reset, as the rules named at its fields give it. -/
def CalReg.reset : CalReg where
  req := false
  safety := false
  deadline := 0
  duration := 0
  active := false
  conflict := false
  given := 0
  since := 0

/-- Island control of an actuator. -/
structure Isl where
  /-- ISL_STATUS.LOAD_STATE (05 R148,R157). -/
  load : LoadState
  /-- ISL_STATUS.ATTEMPT (05 R157). -/
  attempt : BitVec 4
  /-- ISL_STATUS.SYN_LOCKED and ISL_SYN.MODE (05 R157). -/
  synLocked : Bool
  /-- ISL_SYN.N; computed once from the servo format (05 R157, 01 R11). -/
  synN : BitVec 16
  /-- ISL_CTL.LOAD (05 R156). -/
  loadReq : Bool
  /-- ISL_CTL.UNLOAD (05 R156). -/
  unloadReq : Bool
  /-- ISL_CTL.CAL_FAIL (05 R156). -/
  calFail : Bool
  /-- ISL_CTL.CAL_DONE (05 R156). -/
  calDone : Bool
  /-- Step 2 of the load, the coil measurement, is running (05 R149). -/
  coilPhase : Bool
  /-- Chip time at which the present step of a load or unload began (05 R149,R150). -/
  stepAt : BitVec 64
  /-- Chip time since which the velocity estimate has stayed below 0.05 rad/s (05 R150). -/
  stillAt : BitVec 64
  /-- The back-EMF velocity estimate, rad/s (05 R150). -/
  vel : F32
  /-- The estimate at the last sample instant (05 R147). -/
  velSam : F32
  /-- The estimate at the sample instant before it (05 R147). -/
  velPrev : F32
  /-- The voltage the velocity loop commands, V (05 R150). -/
  cmdV : F32
  /-- The unload running is a retract (05 R150,R153). -/
  retract : Bool
  /-- Chip time at which the heads last became LOADED (02 R47). -/
  loadedAt : BitVec 64
  /-- The unload running ends a failed load attempt that is retried (05 R149). -/
  retryLoad : Bool
  /-- The unload running ends the last load attempt (05 R149). -/
  gaveUp : Bool
  /-- The slew notice in force (01 R34, 05 R141). -/
  notice : NoticeForce
  /-- The speed measured at the start instant of the notice in force, rpm x 16 (09 R280). -/
  startSpeed : Nat
  /-- Writes held by the notice in force (04 R122). -/
  slewHold : Bool
  /-- The calibration request and grant registers (11 R357). -/
  cal : CalReg
  deriving DecidableEq, Repr

/-- Isl at reset, as the rules named at its fields give it (values of log 5 where the spec gives
none). -/
def Isl.reset : Isl where
  load := .parked
  attempt := 0
  synLocked := false
  synN := 0
  loadReq := false
  unloadReq := false
  calFail := false
  calDone := false
  coilPhase := false
  stepAt := 0
  stillAt := 0
  vel := 0
  velSam := 0
  velPrev := 0
  cmdV := 0
  retract := false
  loadedAt := 0
  retryLoad := false
  gaveUp := false
  notice := { target := 0, rate := 0, start := 0 }
  startSpeed := 0
  slewHold := false
  cal := CalReg.reset

/-- The demodulator of an actuator. -/
structure Svd where
  /-- SVD_CTL.HEAD (05 R158). -/
  head : BitVec 5
  /-- SVD_CTL.ACQUIRE (05 R158). -/
  acquire : Bool
  /-- SVD_CFG.SAM_ERR (05 R158). -/
  samErr : BitVec 2
  /-- SVD_FLAGS: LOCK_LOST, ADDR_ERR, FROZEN, MISSING, SENSE_FAULT (05 R159). -/
  flags : BitVec 5
  /-- SVD_STATUS.FLAGS (05 R159). -/
  recFlags : BitVec 16
  /-- SVD_STATUS.WEDGE (05 R159). -/
  wedge : BitVec 10
  /-- SVD_TARGET (05 R155). -/
  target : BitVec 24
  /-- A core's write of SVD_TARGET, taken at the next sample (05 R155). -/
  targetNext : Option (BitVec 24)
  /-- SVD_SKEW (05 R155). -/
  skew : BitVec 16
  /-- SVD_RB_OFS (05 R155). -/
  rbOfs : F32
  /-- SVD_POS, the last delivered POS (05 R155). -/
  pos : F32
  /-- SVD_TRACK (05 R155). -/
  track : BitVec 24
  /-- SVD_RRO (05 R155). -/
  rro : F32
  /-- SVD_SAM, the last SAM instant in sixteenths of a tick (05 R155). -/
  sam : BitVec 52
  /-- The demodulator is in ACQUIRE (05 R143). -/
  acquiring : Bool
  /-- A SAM has been seen since ACQUIRE was entered (05 R144). -/
  samSeen : Bool
  /-- LOCKED (05 R143). -/
  locked : Bool
  /-- Consecutive wedges with SAM_FOUND and WEDGE_OK (05 R143). -/
  lockRun : Nat
  /-- Consecutive missing wedges (05 R140). -/
  missRun : Nat
  /-- Consecutive wedge-number mismatches (05 R143). -/
  mismatchRun : Nat
  /-- The previous wedge number; the next expected is one more modulo W (05 R138). -/
  expected : BitVec 10
  /-- In ACQUIRE, the wedge numbers of the 2-of-3 check, newest first (05 R143). -/
  candidates : List (BitVec 10)
  /-- The wedge count has been set (05 R143). -/
  counted : Bool
  /-- The last two valid tracks, newest first (05 R138). -/
  tracks : List (BitVec 24)
  /-- SAM instants or predictions, newest first, at most W + 1, sixteenths of a tick (05 R141). -/
  sams : List Nat
  /-- The previous delivered POS values, newest first, at most 3 (05 R142). -/
  lastPos : List F32
  /-- A wedge has followed a run of four missing ones: lock is lost (05 R143). -/
  lossDue : Bool
  /-- Every wedge of the present run of missing wedges was frozen (06 R184). -/
  frozenRun : Bool
  /-- A head switch: the next window is shifted by SVD_SKEW (05 R143). -/
  switching : Bool
  /-- Why lock was last lost: 0 missing, 1 every missing wedge frozen, 2 wedge number (06 R184).
  -/
  lossKind : BitVec 2
  /-- The record decoded and not yet delivered (05 R140). -/
  next : List Word
  /-- The last delivered record (05 R140). -/
  record : List Word
  /-- The missing or frozen write-inhibit request (05 R142). -/
  wrInh : Bool
  deriving DecidableEq, Repr

/-- Svd at reset, as the rules named at its fields give it (values of log 5 where the spec gives
none). -/
def Svd.reset : Svd where
  head := 0
  acquire := false
  samErr := 1
  flags := 0
  recFlags := 0x8000
  wedge := 0
  target := 0
  targetNext := none
  skew := 0
  rbOfs := 0
  pos := 0
  track := 0
  rro := 0
  sam := 0
  acquiring := true
  samSeen := false
  locked := false
  lockRun := 0
  missRun := 0
  mismatchRun := 0
  expected := 0
  candidates := []
  counted := false
  tracks := []
  sams := []
  lastPos := []
  lossDue := false
  frozenRun := false
  switching := false
  lossKind := 0
  next := [0,0,0,0,0,0,0,0,0,0,0,0]
  record := [0,0,0,0,0,0,0,0,0,0,0,0]
  wrInh := false

/-- Motion sensing of an actuator. -/
structure Msn where
  /-- MSN_FLAGS: SHOCK, RV_CLIP, MA_CLIP (05 R160). -/
  flags : BitVec 3
  /-- MSN_RVA, MSN_RVB, MSN_SHK, MSN_VSUP, MSN_VCS, MSN_MAS (05 R155). -/
  latest : List F32
  /-- The codes at the ADCs of MS.RVA, MS.RVB, MS.SHK, the 12 V sense, Aa.VCS and Aa.MAS (input)
  (05 R136,R145). -/
  codes : List (BitVec 12)
  /-- The low-pass filter of MS.RVA: the last two inputs and the last two outputs, newest first
  (05 R145). -/
  lpA : List F32
  /-- The low-pass filter of MS.RVB (05 R145). -/
  lpB : List F32
  /-- The senses at a rail, numbered as the codes, and the chip time since which they are (05
  R154). -/
  rails : Tab (BitVec 64)
  /-- MSN_MAD1: mid-scale once PD24 + a is ready (05 R133, 20 R536). -/
  mad1 : BitVec 14
  /-- MSN_MAD2: mid-scale once PD24 + a is ready (05 R133, 20 R536). -/
  mad2 : BitVec 14
  /-- The shock hold is in force (05 R146). -/
  shock : Bool
  /-- Chip time at which the hold began (05 R153). -/
  shockAt : BitVec 64
  /-- Chip time of the last crossing (05 R146). -/
  shockLast : BitVec 64
  deriving DecidableEq, Repr

/-- Msn at reset, as the rules named at its fields give it (values of log 5 where the spec gives
none). -/
def Msn.reset : Msn where
  flags := 0
  latest := [0,0,0,0,0,0]
  codes := [0x800,0x800,0x800,0,0x800,0x800]
  lpA := [0,0,0,0]
  lpB := [0,0,0,0]
  rails := []
  mad1 := 0x2000
  mad2 := 0x2000
  shock := false
  shockAt := 0
  shockLast := 0

/-- The VCM command link of an actuator: the last frame sent (R134). -/
structure Vcm where
  /-- MODE (05 R134). -/
  mode : BitVec 2
  /-- VALUE (05 R134). -/
  value : BitVec 16
  /-- SEQ (05 R134). -/
  seq : BitVec 2
  /-- The last frame sent on Aa.VCM; 0 while the line has been idle since reset (05 R134). -/
  frame : Word
  deriving DecidableEq, Repr

/-- Vcm at reset, as the rules named at its fields give it (values of log 5 where the spec gives
none). -/
def Vcm.reset : Vcm where
  mode := 0
  value := 0
  seq := 0
  frame := 0

/-- SVE_STATUS.STATE. (06 R195). -/
inductive SveState where
  /-- 0b00 STOPPED. -/
  | stopped
  /-- 0b01 RUNNING. -/
  | running
  /-- 0b10 HOLD. -/
  | hold
  /-- 0b11 HALTED. -/
  | halted
  deriving DecidableEq, Repr

/-- The segment the engine executes in. (06 R173). -/
inductive SegKind where
  /-- From SVE_ENTRY to END_M. -/
  | mandatory
  /-- An extra-credit segment. -/
  | extra
  /-- A stretch of other code. -/
  | other
  /-- Past the end marker. -/
  | idle
  deriving DecidableEq, Repr

/-- One output port of the engine (R172, R177). -/
structure OutPort where
  /-- The last staged value (06 R172). -/
  staged : F32
  /-- The value END_M made ready (06 R174). -/
  ready : F32
  /-- The last finite value (06 R177). -/
  finite : Option F32
  /-- The applied value (06 R177). -/
  applied : F32
  deriving DecidableEq, Repr

/-- OutPort at reset, as the rules named at its fields give it. -/
def OutPort.reset : OutPort where
  staged := 0
  ready := 0
  finite := none
  applied := 0

/-- The servo engine of an actuator. -/
structure Sve where
  /-- Registers f1-f255 that are not zero; f0 reads +0.0 (06 R165). -/
  f : Tab Word
  /-- The predicate bit (06 R165). -/
  p : Bool
  /-- SVE_STATUS.STATE (06 R195). -/
  state : SveState
  /-- SVE_CTL.RUN, start at the next sample instant (06 R195). -/
  runReq : Bool
  /-- SVE_CTL.STOP (06 R195). -/
  stopReq : Bool
  /-- SVE_STATUS.XC_ID (06 R195). -/
  xcId : BitVec 4
  /-- SVE_STATUS.RECOVER (06 R195). -/
  recover : BitVec 8
  /-- SVE_STATUS.XC_SUSP (06 R195). -/
  xcSusp : Bool
  /-- SVE_STATUS.LATE (06 R195). -/
  late : Bool
  /-- The write-inhibit request of R181 (06 R181,R195). -/
  compInh : Bool
  /-- SVE_STATUS.HOLD_RUN (06 R195). -/
  holdRun : BitVec 3
  /-- SVE_FLAGS, bit 8 XC_OVER down to bit 0 XC_SUSPENDED (06 R196). -/
  flags : BitVec 9
  /-- SVE_ENTRY (06 R197). -/
  entry : BitVec 12
  /-- SVE_PERF.MAND (06 R197). -/
  mand : BitVec 16
  /-- SVE_PERF.MIN_SLACK (06 R197). -/
  minSlack : BitVec 16
  /-- SVE_PERIOD.INDEX (06 R197). -/
  period : BitVec 16
  /-- SVE_XCB0-7 (unlisted 0) (06 R197). -/
  xcb : Tab Word
  /-- SVE_UPD_CTL.GO (06 R197). -/
  updGo : Bool
  /-- SVE_UPD_CTL.COUNT (06 R197). -/
  updCount : BitVec 6
  /-- SVE_UPD words: 2i word 0 and 2i + 1 word 1 of entry i (unlisted 0) (06 R197). -/
  upd : Tab Word
  /-- The address of the next instruction (06 R173). -/
  pc : BitVec 13
  /-- Engine cycles used in the present period (06 R163). -/
  cyc : Nat
  /-- The first address of the present segment (06 R173). -/
  mark : Nat
  /-- The segment the engine executes in (06 R173). -/
  seg : SegKind
  /-- In extra credit, the closing marker's address (06 R173). -/
  segEnd : BitVec 12
  /-- Cycles from the XC marker (06 R175). -/
  segCyc : Nat
  /-- The present period has reached END_M (06 R174). -/
  reachedM : Bool
  /-- Sample instants that have passed since the running period should have ended (06 R179,R181).
  -/
  overdue : Nat
  /-- Cycles since the missed sample instant (06 R179). -/
  overCyc : Nat
  /-- Slack of the finished period, cycles (06 R178). -/
  slack : Nat
  /-- Periods suspended so far (06 R201). -/
  suspended : Nat
  /-- Extra credit resumes from the next period (06 R180). -/
  xcResume : Bool
  /-- The record the period after a late one starts with (06 R179). -/
  after : Option (List Word)
  /-- SIG has raised its event in this period (06 R201). -/
  sigDone : Bool
  /-- Output ports 0-3 (06 R172,R177). -/
  outs : Four OutPort
  /-- The record as the plan sees it: shifted in a seek's first period, injection included (06
  R171,R186,R190). -/
  inRec : List Word
  /-- Servo is lost at the next output instant, kind 3 (06 R181,R182). -/
  lostNext : Bool
  /-- The velocity loop holds zero for DAMP_MS (06 R184). -/
  damping : Bool
  /-- IN port 30, the wedge period T of the last wedge, s (06 R171). -/
  period30 : F32
  deriving DecidableEq, Repr

/-- Sve at reset, as the rules named at its fields give it (values of log 5 where the spec gives
none). -/
def Sve.reset : Sve where
  f := []
  p := false
  state := .stopped
  runReq := false
  stopReq := false
  xcId := 0
  recover := 0
  xcSusp := false
  late := false
  compInh := false
  holdRun := 0
  flags := 0
  entry := 0
  mand := 0
  minSlack := 0xFFFF
  period := 0
  xcb := []
  updGo := false
  updCount := 0
  upd := []
  pc := 0
  cyc := 0
  mark := 0
  seg := .idle
  segEnd := 0
  segCyc := 0
  reachedM := false
  overdue := 0
  overCyc := 0
  slack := 0
  suspended := 0
  xcResume := false
  after := none
  sigDone := false
  outs := Four.all OutPort.reset
  inRec := [0,0,0,0,0,0,0,0,0,0,0,0]
  lostNext := false
  damping := false
  period30 := 0

/-- The profile generator. -/
structure Svp where
  /-- SVP_STATUS.REJECTED (06 R198). -/
  rejected : Bool
  /-- SVP_STATUS.DONE (06 R198). -/
  done : Bool
  /-- SVP_STATUS.ACTIVE (06 R198). -/
  active : Bool
  /-- SVP_SEEK.CLASS as last written (06 R198). -/
  regCls : BitVec 3
  /-- SVP_SEEK.TARGET as last written (06 R198). -/
  regTarget : BitVec 24
  /-- The class of the seek in progress (06 R187). -/
  cls : BitVec 3
  /-- The target of the seek in progress (06 R201). -/
  target : BitVec 24
  /-- The reference position in binary64; SVP_POS rounds it (06 R187,R194). -/
  pos : BitVec 64
  /-- The reference velocity in binary64; SVP_VEL rounds it (06 R187,R194). -/
  vel : BitVec 64
  /-- The reference acceleration in binary64; SVP_ACC rounds it (06 R187,R194). -/
  acc : BitVec 64
  /-- Port 27 FIRST (06 R171). -/
  first : Bool
  /-- Port 27 LAST (06 R171). -/
  last : Bool
  /-- A seek waiting for the next sample instant: class, target, written by a principal core (06
  R186). -/
  pending : Option (BitVec 3 × BitVec 24 × Bool)
  /-- Chip time of the pending write (06 R186). -/
  pendAt : BitVec 64
  deriving DecidableEq, Repr

/-- Svp at reset, as the rules named at its fields give it. -/
def Svp.reset : Svp where
  rejected := false
  done := false
  active := false
  regCls := 0
  regTarget := 0
  cls := 0
  target := 0
  pos := 0
  vel := 0
  acc := 0
  first := false
  last := false
  pending := none
  pendAt := 0

/-- The test-signal injector. -/
structure Svi where
  /-- SVI_CTL.RUN (06 R198). -/
  run : Bool
  /-- SVI_CTL.STOP (06 R198). -/
  stop : Bool
  /-- SVI_CTL.POINT (06 R198). -/
  point : BitVec 2
  /-- SVI_CTL.TYPE (06 R198). -/
  type : BitVec 2
  /-- SVI_CTL.TONES (06 R198). -/
  tones : BitVec 2
  /-- SVI_CTL.WR_OK (06 R198). -/
  wrOk : Bool
  /-- SVI_CTL.ORDER (06 R198). -/
  order : BitVec 4
  /-- SVI_CTL.HOLD (06 R198). -/
  hold : BitVec 12
  /-- SVI_INC0-3 (unlisted 0) (06 R194). -/
  inc : Tab Word
  /-- SVI_AMP0-3 (unlisted 0.0) (06 R194). -/
  amp : Tab F32
  /-- SVI_LEN (06 R194). -/
  len : BitVec 32
  /-- Injection is in force (from the sample instant after RUN) (06 R189). -/
  started : Bool
  /-- The present period carries an injected value (06 R181,R189). -/
  live : Bool
  /-- K - k0 (06 R189). -/
  k : Nat
  /-- The PRBS register, seeded with all ones (06 R189). -/
  lfsr : BitVec 15
  /-- The chirp phase, 2^-32 turns (06 R189). -/
  phase : BitVec 32
  /-- The injection signal of this period, IN port 28 (06 R171). -/
  s : F32
  deriving DecidableEq, Repr

/-- Svi at reset, as the rules named at its fields give it. -/
def Svi.reset : Svi where
  run := false
  stop := false
  point := 0
  type := 0
  tones := 0
  wrOk := false
  order := 7
  hold := 1
  inc := []
  amp := []
  len := 0
  started := false
  live := false
  k := 0
  lfsr := 0x7FFF
  phase := 0
  s := 0

/-- The correlation accumulators. -/
structure Svc where
  /-- SVC_CTL.RUN (06 R199). -/
  run : Bool
  /-- SVC_CTL.NODE0 (06 R199). -/
  node0 : BitVec 9
  /-- SVC_CTL.NODE1 (06 R199). -/
  node1 : BitVec 9
  /-- SVC_SETTLE (06 R194). -/
  settle : BitVec 32
  /-- SVC_PERIODS (06 R194). -/
  periods : BitVec 32
  /-- Periods passed since RUN (06 R191). -/
  taken : Nat
  /-- SVC_RES by word (unlisted 0.0) (06 R194). -/
  res : Tab F32
  /-- The accumulators in binary64: tone t, node n, Re at 4t + 2n and Im next (06 R191). -/
  acc : List (BitVec 64)
  deriving DecidableEq, Repr

/-- Svc at reset, as the rules named at its fields give it (values of log 5 where the spec gives
none). -/
def Svc.reset : Svc where
  run := false
  node0 := 0
  node1 := 0
  settle := 0
  periods := 0
  taken := 0
  res := []
  acc := []

/-- The Chalkboard. -/
structure Svb where
  /-- SVB_CTL.ARM (06 R199). -/
  arm : Bool
  /-- SVB_CTL.FORCE (06 R199). -/
  force : Bool
  /-- SVB_CTL.NODES (06 R199). -/
  nodes : BitVec 3
  /-- SVB_CTL.PRE (06 R199). -/
  pre : BitVec 3
  /-- SVB_CTL.TRIG_SRC (06 R199). -/
  trigSrc : BitVec 4
  /-- SVB_CTL.DECIM (06 R199). -/
  decim : BitVec 3
  /-- SVB_LEVEL (06 R194). -/
  level : F32
  /-- Node n of SVB_SEL (unlisted 0) (06 R199). -/
  sel : Tab (BitVec 9)
  /-- SVB_STATUS.STATE (06 R199). -/
  state : BitVec 2
  /-- SVB_STATUS.TRIG_IDX (06 R199). -/
  trigIdx : BitVec 14
  /-- SVB_STATUS.NEXT (06 R199). -/
  next : BitVec 14
  /-- Records written since ARM (06 R193). -/
  written : Nat
  /-- Records still to be written after the trigger (06 R193). -/
  after : Nat
  /-- Periods since the last record (06 R192). -/
  skip : Nat
  /-- Node 0 of the last record, for the level trigger (06 R199). -/
  last0 : F32
  /-- Registers as they stood at END_M or abandonment (06 R192). -/
  snap : Tab Word
  /-- The trigger sources, by SVB_CTL.TRIG_SRC, that came about since the last record (06 R193).
  -/
  seen : BitVec 9
  deriving DecidableEq, Repr

/-- Svb at reset, as the rules named at its fields give it. -/
def Svb.reset : Svb where
  arm := false
  force := false
  nodes := 4
  pre := 4
  trigSrc := 0
  decim := 0
  level := 0
  sel := []
  state := 0
  trigIdx := 0
  next := 0
  written := 0
  after := 0
  skip := 0
  last0 := 0
  snap := []
  seen := 0

/-- What the two mark findings say. (08 R247). -/
inductive Marks where
  /-- Both found, the Substitute mark at A + spacing. -/
  | consistent
  /-- Both found, the Substitute mark elsewhere in its window. -/
  | bWon
  /-- Mark A alone. -/
  | aOnly
  /-- The Substitute mark alone. -/
  | bOnly
  /-- No mark. -/
  | neither
  deriving DecidableEq, Repr

/-- One sector on its way through capture, staging and decode. -/
structure SectorJob where
  /-- OP_ID of the operation (07 R218). -/
  opId : BitVec 32
  /-- Its place in the operation (07 R211). -/
  index : Nat
  /-- Head (07 R218). -/
  head : BitVec 5
  /-- Zone (07 R218). -/
  zone : BitVec 6
  /-- Track (08 R263). -/
  track : BitVec 24
  /-- What the operation asks of it: sector, tag, destination and nominal mark positions (07
  R222). -/
  req : SectorReq
  /-- The ladder whose re-read it is (08 R255). -/
  ladder : Option Nat
  /-- The bank latched (07 R212). -/
  bank : BitVec 3
  /-- The words of that bank as latched (07 R212). -/
  words : List Word
  /-- Read with rule 3 or 4 (07 R211). -/
  miss : Bool
  /-- The bank's MULT is not the write path's for the head and zone (07 R206). -/
  offSpeed : Bool
  /-- The slot captured into (07 R217). -/
  slot : BitVec 3
  /-- SEQ of the capture (07 R218). -/
  seq : BitVec 32
  /-- Chip time the read gate opened (07 R218). -/
  gateAt : BitVec 64
  /-- Samples are captured (07 R219). -/
  captured : Bool
  /-- Defect regions, oldest first (07 R215,R218). -/
  regions : List Region
  /-- Code bits flagged on both readers (07 R216). -/
  erasures : Nat
  /-- Its LLRs stream into a staging buffer (07 R226). -/
  staged : Bool
  /-- Cut by a servo gate (07 R207). -/
  truncated : Bool
  /-- Sample index of mark A (08 R246). -/
  syncA : Option Nat
  /-- Sample index of the Substitute mark (08 R246). -/
  syncB : Option Nat
  /-- Per continuation, the index of its first data sample (08 R246). -/
  conts : List Nat
  /-- What the findings say (08 R247). -/
  marks : Marks
  /-- D1 is refilled from the Substitute mark (08 R248). -/
  refill : Bool
  deriving DecidableEq, Repr

/-- A replay request (R228). -/
structure ReplayJob where
  /-- From resident firmware (07 R229). -/
  resident : Bool
  /-- The request (07 R228). -/
  req : ReplayReq
  /-- The sector the slot holds, as its header recorded it (07 R218). -/
  job : SectorJob
  deriving DecidableEq, Repr

/-- What the samples of an open read gate hold (R204 to R217). -/
structure Capture where
  /-- Reader A's ADC codes (07 R217). -/
  samplesA : List (BitVec 7)
  /-- Reader B's ADC codes (07 R217). -/
  samplesB : List (BitVec 7)
  /-- A servo gate cuts the read gate (07 R207). -/
  truncated : Bool
  /-- The defect regions in the samples (07 R215). -/
  regions : List Region
  /-- Timing recovery loses lock (07 R208). -/
  lost : Bool
  /-- A gain stays at a limit for the whole sector (07 R204). -/
  atLimit : Bool
  /-- Reader A's gain at the end (07 R204). -/
  gainA : Nat
  /-- Reader B's gain at the end (07 R204). -/
  gainB : Nat
  /-- An LLR before scaling for each sample (07 R214). -/
  llrs : List Int
  /-- Reader A's taps at the end (07 R210). -/
  tapsA : List Word
  /-- Reader B's taps at the end (07 R210). -/
  tapsB : List Word
  deriving DecidableEq, Repr

/-- A staging buffer (R226). -/
structure StageBuf where
  /-- The sector (07 R226). -/
  job : SectorJob
  /-- D1 is in, live or refilled (08 R248). -/
  d1In : Bool
  /-- D2 is in (08 R248). -/
  d2In : Bool
  /-- Chip time the read gate closed, then of the request (07 R226). -/
  since : BitVec 64
  /-- The LLRs of the 36,864 code bits (07 R214,R226). -/
  llrs : List Int
  /-- Chip time a decoder was granted; the buffer is free once the load ends (07 R226). -/
  granted : Option (BitVec 64)
  deriving DecidableEq, Repr

/-- The replay buffer (R226, R228). -/
structure ReplayBuf where
  /-- The replay (07 R228). -/
  job : ReplayJob
  /-- The LLRs are in and the buffer requests a decoder (07 R226). -/
  full : Bool
  /-- Chip time the detection started, then of the request (07 R226). -/
  since : BitVec 64
  /-- The LLRs of the 36,864 code bits (07 R228). -/
  llrs : List Int
  /-- Erasures applied (07 R228). -/
  erased : Nat
  /-- Chip time a decoder was granted; the buffer is free once the load ends (07 R226). -/
  granted : Option (BitVec 64)
  /-- It has waited 2 ms (07 R226). -/
  past2ms : Bool
  deriving DecidableEq, Repr

/-- A decode that runs (R223). -/
structure DecJob where
  /-- The actuator (07 R226). -/
  act : Fin 4
  /-- The sector, on the fly (07 R226). -/
  live : Option SectorJob
  /-- The replay (07 R228). -/
  replay : Option ReplayJob
  /-- The LLRs loaded (07 R223). -/
  llrs : List Int
  /-- The iteration limit (07 R223). -/
  limit : Nat
  /-- A replay's erasures (07 R230). -/
  erased : Nat
  /-- Chip time the load started (07 R223). -/
  since : BitVec 64
  deriving DecidableEq, Repr

/-- A completion record to resident firmware (R224). -/
structure ReadDone where
  /-- The actuator (07 R224). -/
  act : Fin 4
  /-- The operation (07 R224). -/
  opId : BitVec 32
  /-- The sector's place in it (07 R224). -/
  index : Nat
  /-- The outcome (07 R225). -/
  outcome : BitVec 4
  /-- Iterations (07 R224). -/
  iters : Nat
  /-- Unsatisfied checks (07 R224). -/
  unsat : Nat
  /-- Erasures (07 R224). -/
  erasures : Nat
  /-- Corrected bits (07 R224). -/
  corrected : Nat
  deriving DecidableEq, Repr

/-- The read channel of an actuator. -/
structure Rch where
  /-- RCH_CTL.MU_A (07 R232). -/
  muA : BitVec 4
  /-- RCH_CTL.MU_B (07 R232). -/
  muB : BitVec 4
  /-- RCH_CTL.WB (07 R232). -/
  wb : Bool
  /-- RCH_CTL.ADAPT_B (07 R232). -/
  adaptB : Bool
  /-- RCH_CTL.ADAPT_A (07 R232). -/
  adaptA : Bool
  /-- RCH_STATUS.READING (07 R232). -/
  reading : Bool
  /-- RCH_STATUS.TR_LOCK (07 R232). -/
  trLock : Bool
  /-- RCH_STATUS.AGC_SETTLED (07 R232). -/
  agcSettled : Bool
  /-- RCH_STATUS.BANK (07 R232). -/
  bank : BitVec 3
  /-- RCH_STATUS.SLOT (07 R232). -/
  slot : BitVec 3
  /-- RCH_STATUS.HEAD (07 R232). -/
  head : BitVec 5
  /-- RCH_STATUS.ZONE (07 R232). -/
  zone : BitVec 6
  /-- Reader A's gain in 2^-20 of 0.25 dB; RCH_AFE.GAIN_A shows whole steps (07 R204,R232). -/
  gainA : Nat
  /-- Reader B's gain in 2^-20 of 0.25 dB; RCH_AFE.GAIN_B shows whole steps (07 R204,R232). -/
  gainB : Nat
  /-- The setting of reader A's continuous-time filter, CTF_A of the bank latched last (07 R204).
  -/
  ctfA : Word
  /-- The setting of reader B's continuous-time filter, CTF_B of the bank latched last (07 R204).
  -/
  ctfB : Word
  /-- RCH_FLAGS, bit 8 CONFLICT down to bit 0 DEFECT (07 R233). -/
  flags : BitVec 9
  /-- RCH_PIN.GUEST_PIN (07 R234). -/
  guestPin : BitVec 8
  /-- RCH_PIN.RES_PIN (07 R234). -/
  resPin : BitVec 8
  /-- Guest pins that take effect when the capture ends (07 R220). -/
  deferGuest : BitVec 8
  /-- Resident pins that take effect when the capture ends (07 R220). -/
  deferRes : BitVec 8
  /-- Bank words a core wrote since the present sector latched the bank (07 R210). -/
  tapHold : List Nat
  /-- RCH_SLOTS.NEXT (07 R234). -/
  next : BitVec 3
  /-- RCH_RPL as last written: ERASE 0b01 and ITER 60 at reset (07 R235). -/
  rpl : BitVec 32
  /-- RCH_RPL_IDX (07 R231). -/
  rplIdx : BitVec 16
  /-- RCH_RPL_ERS (07 R231). -/
  rplErs : BitVec 32
  /-- RCH_RPL_W (07 R231). -/
  rplW : BitVec 32
  /-- RCH_RPL_STATUS.OUTCOME (07 R235). -/
  rplOutcome : BitVec 4
  /-- RCH_RPL_STATUS.ITERS (07 R235). -/
  rplIters : BitVec 6
  /-- RCH_RPL_STAT2.CORRECTED (07 R235). -/
  rplCorr : BitVec 16
  /-- RCH_RPL_STAT2.UNSAT (07 R235). -/
  rplUnsat : BitVec 12
  /-- RCH_RPL_STAT3.ERASED (07 R235). -/
  rplErased : BitVec 16
  /-- RCH_SECTORS (07 R231). -/
  sectors : BitVec 32
  /-- RCH_OTF_FAIL (07 R231). -/
  otfFail : BitVec 32
  /-- RCH_ITER_SUM (07 R231). -/
  iterSum : BitVec 32
  /-- RCH_MGN_SUM (07 R231). -/
  mgnSum : BitVec 32
  /-- RCH_TAPA0-7 (07 R231). -/
  tapA : List Word
  /-- RCH_TAPB0-7 (07 R231). -/
  tapB : List Word
  /-- The capture sequence number last used (07 R218). -/
  capSeq : BitVec 32
  /-- Posted read operations, oldest first; the front one runs (07 R211). -/
  ops : List ReadOp
  /-- The sector of the front operation whose gate comes next (07 R211). -/
  opIndex : Nat
  /-- The sector whose read gate is open (07 R217). -/
  now : Option SectorJob
  /-- What the samples of that gate hold (07 R217). -/
  capture : Option Capture
  /-- Per slot, the sector captured last (07 R218). -/
  slotJobs : Tab SectorJob
  /-- The staging buffers in use, at most two (07 R226). -/
  stage : List StageBuf
  /-- Captured sectors that found no free staging buffer, until their outcome 0x4 (07 R226). -/
  unstaged : List SectorJob
  /-- Queued replay requests, at most four, in order of service (07 R229). -/
  replays : List ReplayJob
  /-- The replay being detected or waiting for a decoder (07 R226). -/
  replayBuf : Option ReplayBuf
  /-- Bank words not zero, by word number 64 * bank + offset / 4 (07 R213). -/
  banks : Tab Word
  deriving DecidableEq, Repr

/-- Rch at reset, as the rules named at its fields give it (values of log 5 where the spec gives
none). -/
def Rch.reset : Rch where
  muA := 4
  muB := 4
  wb := false
  adaptB := false
  adaptA := false
  reading := false
  trLock := false
  agcSettled := false
  bank := 0
  slot := 0
  head := 0
  zone := 0
  gainA := 0
  gainB := 0
  ctfA := 0
  ctfB := 0
  flags := 0
  guestPin := 0
  resPin := 0
  deferGuest := 0
  deferRes := 0
  tapHold := []
  next := 0
  rpl := 0x00043C00
  rplIdx := 0
  rplErs := 0
  rplW := 0x40004000
  rplOutcome := 0
  rplIters := 0
  rplCorr := 0
  rplUnsat := 0
  rplErased := 0
  sectors := 0
  otfFail := 0
  iterSum := 0
  mgnSum := 0
  tapA := [0,0,0,0,0,0,0,0]
  tapB := [0,0,0,0,0,0,0,0]
  capSeq := 0
  ops := []
  opIndex := 0
  now := none
  capture := none
  slotJobs := []
  stage := []
  unstaged := []
  replays := []
  replayBuf := none
  banks := []

/-- The LDPC decoder pool. -/
structure Pool where
  /-- OD 0x47F0.01 (07 R237). -/
  online : BitVec 8
  /-- OD 0x47F0.01 of the decoders whose half is off: what they take when it is ready (03 R71, 07
  R227). -/
  next : BitVec 8
  /-- The decodes that run, by decoder (07 R223). -/
  jobs : Tab DecJob
  /-- Decoders taken offline after their present decode (07 R237). -/
  offAfter : BitVec 8
  /-- Completion records, oldest first (07 R224). -/
  done : List ReadDone
  deriving DecidableEq, Repr

/-- Pool at reset, as the rules named at its fields give it. -/
def Pool.reset : Pool where
  online := 0xFF
  next := 0xFF
  jobs := []
  offAfter := 0
  done := []

/-- What a ladder waits for (08 R252,R253,R257). -/
inductive LadWait where
  /-- A pin for its slot (R253). -/
  | pin
  /-- Its replays of steps 2, 4 or 5 (R253, R255, R256). -/
  | replay
  /-- The row-parity rebuild of step 3 (R254). -/
  | parity
  /-- The capture of a re-read (R255, R256). -/
  | reread
  /-- Its actuator's calibration, after step 3 in ORIENTATION (R257). -/
  | calibration
  /-- Its actuator to be LOADED again (R257). -/
  | loaded
  deriving DecidableEq, Repr

/-- A recovery ladder, for one failed physical sector (R252 to R259). -/
structure Ladder where
  /-- The model's own number of the ladder, 1 up (08 R252). -/
  id : Nat
  /-- The actuator (08 R252). -/
  act : Fin 4
  /-- The sector and the marks of its newest capture (08 R252). -/
  job : SectorJob
  /-- The namespace of the first logical block it holds (08 R259). -/
  nsid : Nat
  /-- That logical block (08 R259). -/
  lba : Nat
  /-- The command's Limited Retry (08 R257). -/
  limitedRetry : Bool
  /-- Chip time of the step 1 outcome (08 R257). -/
  start : BitVec 64
  /-- The step in progress, 2 to 5 (08 R252). -/
  step : Nat
  /-- What it waits for (08 R252). -/
  wait : LadWait
  /-- Replays of the step not queued yet, in order (08 R253). -/
  todo : List ReplayReq
  /-- Its replays queued or running (08 R253). -/
  out : Nat
  /-- Track offsets of step 4 not read yet, in 1/256 track (08 R255). -/
  offsets : List Int
  /-- The offset of the present re-read (08 R255). -/
  offset : Int
  /-- Fewest unsatisfied checks of a step 4 replay, and its offset (08 R256). -/
  best : Option (Nat × Int)
  /-- Decodes of this ladder that converged (08 R259). -/
  converged : Nat
  /-- Those of them with outcome 0x3 (08 R259). -/
  wrongPlace : Nat
  /-- A refill was used (08 R263). -/
  refilled : Bool
  /-- OD 0x4410.06 has passed (08 R257). -/
  late : Bool
  deriving DecidableEq, Repr

/-- An entry of the Detention list (R263). -/
structure Detention where
  /-- ACTUATOR (08 R263). -/
  act : Fin 4
  /-- HEAD (08 R263). -/
  head : BitVec 5
  /-- ZONE (08 R263). -/
  zone : BitVec 6
  /-- COUNT (08 R263). -/
  count : Nat
  /-- TRACK (08 R263). -/
  track : BitVec 24
  /-- SECTOR (08 R263). -/
  sector : Nat
  /-- LAST_STEP (08 R263). -/
  lastStep : Nat
  /-- FLAGS bits 2:0 (08 R263). -/
  flags : BitVec 3
  /-- FIRST_POH (08 R263). -/
  firstPoh : Nat
  /-- LAST_POH (08 R263). -/
  lastPoh : Nat
  /-- LBA (08 R263). -/
  lba : Nat
  /-- NSID (08 R263). -/
  nsid : Nat
  deriving DecidableEq, Repr

/-- A zone whose layout is loaded (R245). -/
structure ZoneLayout where
  /-- Actuator (08 R245). -/
  act : Fin 4
  /-- Zone (08 R245). -/
  zone : Nat
  /-- Channel bits of its smallest data area (08 R245). -/
  minArea : Nat
  deriving DecidableEq, Repr

/-- The recovery ladders and the Detention list. -/
structure Rec where
  /-- The ladders that run (08 R252). -/
  ladders : List Ladder
  /-- The number last given to a ladder (08 R252). -/
  ladderId : Nat
  /-- The Detention list, oldest first failure first (08 R263). -/
  detention : List Detention
  /-- The list as journaled on the media (08 R262). -/
  detentionSaved : List Detention
  /-- Physical sectors retired (08 R264). -/
  retired : List PhysSector
  /-- Namespace and LBA marked unreadable (08 R264). -/
  unreadable : List (Nat × Nat)
  /-- Zones whose layout was refused (08 R245). -/
  refused : List (Fin 4 × Nat)
  /-- Zone layouts loaded (08 R245). -/
  layouts : List ZoneLayout
  deriving DecidableEq, Repr

/-- Rec at reset, as the rules named at its fields give it. -/
def Rec.reset : Rec where
  ladders := []
  ladderId := 0
  detention := []
  detentionSaved := []
  retired := []
  unreadable := []
  refused := []
  layouts := []

/-- An accepted write operation (R271, R276). -/
structure WpOp where
  /-- The operation (09 R271). -/
  op : WriteOp
  /-- The write bank latched at acceptance; none while it is held for one (R275) (09 R276). -/
  bank : Option (List Word)
  /-- The head's WP_TRIMh latched at acceptance (09 R276). -/
  trim : Word
  /-- Sectors written (09 R282). -/
  written : Nat
  /-- Resumptions used (09 R282). -/
  tries : Nat
  /-- Chip time at which MODE write-ready was sent for it (09 R277). -/
  heatAt : Option (BitVec 64)
  /-- Cause bit of the interruption it waits after, and its chip time (09 R282). -/
  cut : Option (Nat × BitVec 64)
  /-- SVD_TARGET when it became the front operation (09 R282). -/
  target : BitVec 24
  deriving DecidableEq, Repr

/-- A completion record of a write operation (R282). -/
structure WriteDone where
  /-- The actuator (09 R282). -/
  act : Fin 4
  /-- The operation (09 R271). -/
  opId : BitVec 32
  /-- Number of sectors written (09 R282). -/
  written : Nat
  /-- The cause bit, when it ended interrupted; 13 stands for no write bank (R275) (09 R282). -/
  cause : Option Nat
  deriving DecidableEq, Repr

/-- The write path of an actuator. -/
structure Wp where
  /-- WP_CTL.STRICT (09 R294). -/
  strict : Bool
  /-- WP_CTL.HOLD (09 R294). -/
  hold : Bool
  /-- WP_CTL.WOT_REL (09 R294). -/
  wotRel : BitVec 4
  /-- WP_STATUS.WRITING (09 R294). -/
  writing : Bool
  /-- A sector has begun and has not ended (09 R282). -/
  inSector : Bool
  /-- The payload of the sector begun last: data, tag and CRC-64 (09 R271). -/
  payload : List Byte
  /-- The bit of the sector begun last at which its next piece begins (08 R245). -/
  place : Nat
  /-- The levels of the piece on Aa.WRD, one per channel bit; none in electrical idle (09 R272).
  -/
  wrd : List Bool
  /-- The transitions of that piece, each with its shift in 1/64 bit (09 R273). -/
  shifts : List (Nat × Int)
  /-- WP_STATUS.CAUSE (09 R294). -/
  cause : BitVec 13
  /-- WP_STATUS.HEAD (09 R294). -/
  head : BitVec 5
  /-- WP_STATUS.ZONE (09 R294). -/
  zone : BitVec 6
  /-- WP_FLAGS, bit 8 CONFLICT down to bit 0 OFFTRACK (09 R295). -/
  flags : BitVec 9
  /-- Write bank words not zero, by word number 16 * bank + offset / 4 (09 R274). -/
  banks : Tab Word
  /-- Accepted write operations, oldest first; the front one runs (09 R271). -/
  ops : List WpOp
  /-- Completion records, oldest first (09 R282). -/
  done : List WriteDone
  /-- Good samples since the last off-track one (09 R278). -/
  wotGood : Nat
  /-- Consecutive wedges within the speed tolerance (09 R280). -/
  speedGood : Nat
  /-- Chip time the mask left zero (09 R299). -/
  inhSince : BitVec 64
  /-- Chip time the mask returned to zero (09 R282). -/
  freeAt : BitVec 64
  /-- Chip time a supply sense was last found outside its window (09 R278). -/
  supplyOut : BitVec 64
  /-- Chip time at which WGATE last opened, for the laser-on time (18 R514). -/
  laserAt : BitVec 64
  /-- Chip time of the last sector written (09 R277). -/
  lastEnd : BitVec 64
  deriving DecidableEq, Repr

/-- Wp at reset, as the rules named at its fields give it. -/
def Wp.reset : Wp where
  strict := false
  hold := false
  wotRel := 2
  writing := false
  inSector := false
  payload := []
  place := 0
  wrd := []
  shifts := []
  cause := 1
  head := 0
  zone := 0
  flags := 0
  banks := []
  ops := []
  done := []
  wotGood := 0
  speedGood := 0
  inhSince := 0
  freeAt := 0
  supplyOut := 0
  laserAt := 0
  lastEnd := 0

/-- A frame waiting for the link (R290). -/
structure PscTx where
  /-- CODE (09 R286). -/
  code : BitVec 6
  /-- DATA (09 R286). -/
  data : BitVec 16
  /-- From PSC_RAW (09 R297). -/
  raw : Bool
  deriving DecidableEq, Repr

/-- The command frame that waits for its ACK (R289). -/
structure PscWait where
  /-- CODE (09 R289). -/
  code : BitVec 6
  /-- DATA (09 R289). -/
  data : BitVec 16
  /-- From PSC_RAW (09 R297). -/
  raw : Bool
  /-- Times sent again (09 R289). -/
  again : Nat
  /-- Chip time it was sent last (09 R289). -/
  sent : BitVec 64
  deriving DecidableEq, Repr

/-- The PSC link of an actuator. -/
structure Psc where
  /-- PSC_STATUS.LINK_UP (09 R296). -/
  linkUp : Bool
  /-- PD20 + a has reported ready and ID_REQ was sent (09 R292). -/
  started : Bool
  /-- The protocol version was not 0x01 (09 R292). -/
  badVersion : Bool
  /-- The link was declared down (09 R289). -/
  declaredDown : Bool
  /-- PSC_STATUS.PFL, the level of Aa.PFL (09 R296). -/
  pfl : Bool
  /-- PSC_STATUS.MODE, the mode last acknowledged (09 R296). -/
  mode : BitVec 2
  /-- PSC_STATUS.RETRIES (09 R296). -/
  retries : BitVec 8
  /-- PSC_STATUS.PREAMP_ID (09 R296). -/
  preampId : BitVec 16
  /-- PSC_FAULT (09 R293). -/
  fault : BitVec 16
  /-- A FAULT frame has named the bits since Aa.PFL went low (09 R291). -/
  named : Bool
  /-- PSC_CTL.ID_REQ (09 R296). -/
  idReq : Bool
  /-- PSC_CTL.FCLR (09 R296). -/
  fclr : Bool
  /-- PSC_SENSE.REQ (09 R296). -/
  senseReq : Bool
  /-- PSC_SENSE.TIMEOUT (09 R296). -/
  senseTimeout : Bool
  /-- PSC_SENSE.SENSOR (09 R296). -/
  sensor : BitVec 4
  /-- PSC_SENSE.VALUE (09 R296). -/
  value : BitVec 12
  /-- PSC_RAW.SEND (09 R297). -/
  rawSend : Bool
  /-- PSC_RAW.ACKED (09 R297). -/
  rawAcked : Bool
  /-- PSC_RAW.CODE (09 R297). -/
  rawCode : BitVec 6
  /-- PSC_RAW.DATA (09 R297). -/
  rawData : BitVec 16
  /-- Frames waiting for the link, in order of request (09 R290). -/
  tx : List PscTx
  /-- Commands sent and not acknowledged, oldest first (09 R289). -/
  waits : List PscWait
  /-- Per CODE, the DATA the preamp last acknowledged (09 R277). -/
  acked : Tab (BitVec 16)
  /-- Chip time of the last SAFE and ID_REQ of a link that is down (09 R289). -/
  probeAt : BitVec 64
  /-- Chip time Aa.PFL went low (09 R291). -/
  pflAt : BitVec 64
  /-- Chip time the SENSE_REQ was sent; none while it is queued (09 R290). -/
  senseAt : Option (BitVec 64)
  /-- Chip times of DI frames whose CRC failed, newest first, at most 8 (09 R289). -/
  crcErrors : List (BitVec 64)
  deriving DecidableEq, Repr

/-- Psc at reset, as the rules named at its fields give it. -/
def Psc.reset : Psc where
  linkUp := false
  started := false
  badVersion := false
  declaredDown := false
  pfl := true
  mode := 0
  retries := 0
  preampId := 0
  fault := 0
  named := false
  idReq := false
  fclr := false
  senseReq := false
  senseTimeout := false
  sensor := 0
  value := 0
  rawSend := false
  rawAcked := false
  rawCode := 0
  rawData := 0
  tx := []
  waits := []
  acked := []
  probeAt := 0
  pflAt := 0
  senseAt := none
  crcErrors := []

/-- The compatible preamplifier on the PSC link (R284). -/
structure Preamp where
  /-- Head selected (09 R286). -/
  head : BitVec 5
  /-- 0 sleep, 1 idle, 2 read, 3 write-ready (09 R286). -/
  mode : BitVec 2
  /-- Write gate (09 R286). -/
  wgate : Bool
  /-- Reader biases (09 R286). -/
  readBias : BitVec 16
  /-- Write currents (09 R286). -/
  writeCur : BitVec 16
  /-- Overshoot duration (09 R286). -/
  osDur : BitVec 8
  /-- Laser bias (09 R286). -/
  laserBias : BitVec 12
  /-- Laser operating current (09 R286). -/
  laserOp : BitVec 12
  /-- Heater power in read mode (09 R286). -/
  heatRd : BitVec 10
  /-- Heater power in write-ready (09 R286). -/
  heatWr : BitVec 10
  /-- SAFE bits in force until the next MODE (09 R286). -/
  safe : BitVec 3
  /-- Fault bits set (09 R291). -/
  faults : BitVec 16
  /-- Chip time of the last valid frame (09 R287). -/
  heard : BitVec 64
  deriving DecidableEq, Repr

/-- Preamp at reset, as the rules named at its fields give it (values of log 5 where the spec
gives none). -/
def Preamp.reset : Preamp where
  head := 0
  mode := 0
  wgate := false
  readBias := 0
  writeCur := 0
  osDur := 0
  laserBias := 0
  laserOp := 0
  heatRd := 0
  heatWr := 0
  safe := 0
  faults := 0
  heard := 0

/-- The states of a logical band. (10 R308). -/
inductive BandState where
  /-- 0. -/
  | unwritten
  /-- 1. -/
  | home
  /-- 2. -/
  | pooled
  /-- 3. -/
  | released
  deriving DecidableEq, Repr

/-- KIND of an extent. (10 R309). -/
inductive ExtKind where
  /-- 0 media cache. -/
  | cache
  /-- 1 re-homed into a pooled band. -/
  | rehomed
  /-- 2 deallocated. -/
  | deallocated
  /-- 3 unreadable. -/
  | unreadable
  deriving DecidableEq, Repr

/-- A place on the media (LOC of R308). -/
structure Loc where
  /-- Bits 30:29 (10 R308). -/
  act : Fin 4
  /-- Bits 28:24 (10 R308). -/
  head : BitVec 5
  /-- Bits 23:0 (10 R308). -/
  track : BitVec 24
  deriving DecidableEq, Repr

/-- How a slot is written (R304, R316). -/
structure BandGeom where
  /-- Data members of its row groups (10 R316). -/
  k : Nat
  /-- Group serial number of its first group (10 R312). -/
  serial : Nat
  /-- Data sectors and fillers written, parity aside (10 R304). -/
  used : Nat
  deriving DecidableEq, Repr

/-- A band slot that no band has any more and that is not durably free yet (R320, R328). -/
structure HeldSlot where
  /-- The band that had it (10 R328). -/
  glb : Nat
  /-- Its first track (10 R308). -/
  loc : Loc
  /-- Its zone (10 R308). -/
  zone : BitVec 6
  deriving DecidableEq, Repr

/-- A band map entry (R308). -/
structure BandEntry where
  /-- The logical band, or the number of a pooled band after them (10 R308). -/
  glb : Nat
  /-- LOC; none reads zero (10 R308). -/
  loc : Option Loc
  /-- GEN (10 R308). -/
  gen : BitVec 12
  /-- State (10 R308). -/
  state : BandState
  /-- Temperature class (10 R308). -/
  temp : BitVec 2
  /-- ZONE (10 R308). -/
  zone : BitVec 6
  /-- FLAGS bit 0 (10 R308). -/
  replan : Bool
  /-- FLAGS bit 1 (10 R308). -/
  merging : Bool
  /-- CACHED (10 R308). -/
  cached : Nat
  /-- WRITES (10 R308). -/
  writes : Nat
  /-- How its slot is written (10 R304,R316). -/
  geom : BandGeom
  deriving DecidableEq, Repr

/-- An extent map entry (R309). -/
structure Extent where
  /-- GMU (10 R309). -/
  gmu : Nat
  /-- LEN (10 R309). -/
  len : Nat
  /-- LOC (10 R309). -/
  loc : Loc
  /-- SECTOR (10 R309). -/
  sector : Nat
  /-- ZONE (10 R309). -/
  zone : BitVec 6
  /-- KIND (10 R309). -/
  kind : ExtKind
  /-- GEN (10 R309). -/
  gen : Nat
  /-- TEMP (10 R309). -/
  temp : BitVec 2
  deriving DecidableEq, Repr

/-- A media cache stripe (R305). -/
structure Stripe where
  /-- Actuator (10 R305). -/
  act : Fin 4
  /-- Head (10 R305). -/
  head : BitVec 5
  /-- The USE 2 zone (10 R305). -/
  zone : BitVec 6
  /-- First track (10 R305). -/
  first : Nat
  /-- Sectors per track (10 R303). -/
  spt : Nat
  /-- Sectors in the ring (10 R305). -/
  size : Nat
  /-- Write point, counted from the first sector ever written (10 R305). -/
  write : Nat
  /-- Tail, counted the same way (10 R305). -/
  tail : Nat
  deriving DecidableEq, Repr

/-- A row-parity group (R249, R316). -/
structure RowGroup where
  /-- Group serial number (10 R312). -/
  serial : Nat
  /-- Track of the first member (10 R316). -/
  loc : Loc
  /-- Sector of the first member (10 R316). -/
  sector : Nat
  /-- Zone (10 R316). -/
  zone : BitVec 6
  /-- Data members (10 R249). -/
  k : Nat
  /-- Members written, fillers included (10 R316). -/
  members : Nat
  /-- P and Q are written (10 R316). -/
  closed : Bool
  /-- Closed with parity; while open, no member has failed to be written (10 R316). -/
  parity : Bool
  /-- Its stripe, by its place in the list of stripes (10 R316). -/
  stripe : Nat
  /-- Position of its first member in the stripe (10 R316). -/
  pos : Nat
  /-- The write operation of its P and Q (10 R316). -/
  qOp : Option (BitVec 32)
  /-- Chip time of the last member (10 R316). -/
  lastAt : BitVec 64
  deriving DecidableEq, Repr

/-- A chunk on its way to the media (R313). -/
structure Chunk where
  /-- Its write operation (09 R271). -/
  opId : BitVec 32
  /-- The command, by fetch number (10 R318). -/
  cmd : Nat
  /-- Its extent generation (10 R310). -/
  gen : Nat
  /-- First map unit (10 R309). -/
  gmu : Nat
  /-- Map units (10 R309). -/
  len : Nat
  /-- The stripe, by its place in the list of stripes (10 R313). -/
  stripe : Nat
  /-- Its first sector, counted as the write point is (10 R305). -/
  pos : Nat
  /-- Zone (10 R313). -/
  zone : BitVec 6
  /-- Temperature class (10 R325). -/
  temp : BitVec 2
  /-- Every sector of it is written (10 R318). -/
  written : Bool
  deriving DecidableEq, Repr

/-- A namespace (R302, R328). -/
structure Ns where
  /-- NSID (10 R302). -/
  nsid : Nat
  /-- Logical blocks (10 R302). -/
  blocks : Nat
  /-- LBA format: 0 512 bytes, 1 4,096 bytes (12 R385). -/
  lbaf : BitVec 1
  /-- Its logical bands, in order (10 R302). -/
  bands : List Nat
  /-- Controllers it is attached to (12 R385). -/
  attached : BitVec 2
  /-- It may be attached to both controllers (12 R385). -/
  shared : Bool
  /-- Its creation is durable (12 R383). -/
  settled : Bool
  deriving DecidableEq, Repr

/-- The journal entry types. (10 R317). -/
inductive JEntry where
  /-- 0x01. -/
  | extentAdded (e : Extent)
  /-- 0x02. -/
  | extentsRemoved (gmu len maxGen : Nat)
  /-- 0x03. -/
  | bandRemapped (glb : Nat) (loc : Loc) (zone : BitVec 6) (gen : BitVec 12) (maxGen : Nat) (geom : BandGeom)
  /-- 0x04. -/
  | bandState (glb : Nat) (state : BandState) (temp : BitVec 2)
  /-- 0x05. -/
  | freed (loc : Loc)
  /-- 0x06. -/
  | group (g : RowGroup)
  /-- 0x07. -/
  | nspace (n : Ns) (created : Bool)
  /-- 0x08. -/
  | detention (d : Detention) (removed : Bool)
  /-- 0x09. -/
  | genFloor (n : Nat)
  /-- 0x0A. -/
  | groupEnd (cmd : Nat)
  deriving DecidableEq, Repr

/-- A journal sector (R317). -/
structure JSector where
  /-- SEQ (10 R317). -/
  seq : Nat
  /-- CKPT (10 R317). -/
  ckpt : Nat
  /-- Its entries (10 R317). -/
  entries : List JEntry
  deriving DecidableEq, Repr

/-- A checkpoint (R321). -/
structure Ckpt where
  /-- Checkpoint sequence (10 R321). -/
  seq : Nat
  /-- The journal sequence it follows (10 R322). -/
  jseq : Nat
  /-- The band map (10 R321). -/
  bands : List BandEntry
  /-- The extent map (10 R321). -/
  extents : List Extent
  /-- The generation counter (10 R321). -/
  gen : Nat
  /-- The group records (10 R317). -/
  groups : List RowGroup
  /-- The namespace records (10 R317). -/
  nss : List Ns
  /-- The Detention list (10 R317). -/
  detention : List Detention
  /-- Slots not freed yet (10 R320). -/
  held : List HeldSlot
  deriving DecidableEq, Repr

/-- The system area of an actuator, on its media (R306). -/
structure SysCopy where
  /-- The journal ring, oldest first (10 R306). -/
  sectors : List JSector
  /-- The two checkpoint slots, older first (10 R306). -/
  ckpts : List Ckpt
  /-- A sector of it was found unwritable or unreadable (10 R336). -/
  bad : Bool
  deriving DecidableEq, Repr

/-- SysCopy at reset, as the rules named at its fields give it (values of log 9 where the spec
gives none). -/
def SysCopy.reset : SysCopy where
  sectors := []
  ckpts := []
  bad := false

/-- A commit in flight (R319). -/
structure Commit where
  /-- Its journal sectors (10 R319). -/
  sectors : List JSector
  /-- The quorum copies it is written to (10 R319). -/
  acts : BitVec 4
  /-- The copies written (10 R319). -/
  done : BitVec 4
  /-- Copies used (10 R319). -/
  used : Nat
  /-- Chip time of its first waiting entry; none where nothing waits (10 R319). -/
  since : Option (BitVec 64)
  /-- Fault source 28 has been raised for it (10 R319). -/
  missed : Bool
  deriving DecidableEq, Repr

/-- A Homework job (R324). -/
structure Job where
  /-- The model's number of the job (10 R324). -/
  id : Nat
  /-- What it does (10 R324). -/
  req : JobReq
  /-- Obligatory (10 R324). -/
  obligatory : Bool
  /-- The generation counter at its start (10 R327). -/
  gen : Nat
  /-- Tracks copied (10 R326). -/
  track : Nat
  /-- Tracks to copy (10 R326). -/
  tracks : Nat
  /-- Map units of source sectors unrecovered (10 R327). -/
  bad : List Nat
  /-- The extents it copies, as they stood at its start (10 R320). -/
  src : List Extent
  /-- The slot it copies from (10 R320). -/
  old : Option HeldSlot
  /-- How it writes its target slot (10 R304,R316). -/
  geom : BandGeom
  /-- The class of its pooled band (10 R324). -/
  cls : BitVec 2
  /-- Sectors it writes (10 R324). -/
  sectors : Nat
  /-- Stops at its next safe point (10 R327). -/
  stop : Bool
  /-- Chip time it was scheduled (11 R355). -/
  since : BitVec 64
  deriving DecidableEq, Repr

/-- OD 0x1470 of a head (R330, R334). -/
structure HeadState where
  /-- Health class (10 R334). -/
  cls : BitVec 2
  /-- Write-retired (10 R334). -/
  retired : Bool
  /-- Re-plan pending (10 R334). -/
  replan : Bool
  /-- The twin zone the Report Card ordered (10 R331). -/
  twin : Option (BitVec 6)
  deriving DecidableEq, Repr

/-- Placement. -/
structure Plc where
  /-- OD 0x1400.01 USER_BANDS (persistent) (10 R333). -/
  userBands : Nat
  /-- OD 0x1400.02 PHYS_SLOTS (persistent) (10 R333). -/
  physSlots : Nat
  /-- OD 0x1400.03 SPARE_INITIAL (persistent) (10 R333). -/
  spareInitial : Nat
  /-- OD 0x1400.04 SPARE_LEFT (persistent) (10 R333). -/
  spareLeft : Nat
  /-- A host write has been placed (persistent) (10 R303). -/
  placed : Bool
  /-- Heads of each actuator (the drive's build) (10 R303). -/
  headCount : List Nat
  /-- The band map; an unlisted band is unwritten (10 R308). -/
  bands : List BandEntry
  /-- The extent map (10 R309). -/
  extents : List Extent
  /-- OD 0x1400.0B as taken at power-on (10 R309). -/
  extentCap : Nat
  /-- The extent generation counter (10 R310). -/
  gen : Nat
  /-- The floor of the generation counter journaled last (10 R317). -/
  genFloor : Nat
  /-- Slots that no band has any more and that are not durably free (10 R320). -/
  held : List HeldSlot
  /-- Power-on hours at which the present temperature window started (persistent) (10 R325). -/
  tempSince : Nat
  /-- The group serial number last used (10 R312). -/
  serial : Nat
  /-- The media cache stripes (10 R305). -/
  stripes : List Stripe
  /-- The group records (10 R316). -/
  groups : List RowGroup
  /-- P and Q of the open groups so far, by serial number (08 R249). -/
  parity : Tab (List Byte × List Byte)
  /-- Spare consumed beyond whole slots, per mille of a slot (10 R331). -/
  spareUse : Nat
  /-- Chunks on their way to the media (10 R313). -/
  chunks : List Chunk
  /-- The identity last given to a media operation (09 R271). -/
  opSeq : BitVec 32
  /-- The namespaces (10 R302). -/
  nss : List Ns
  /-- The system areas (persistent) (10 R306). -/
  copies : Four SysCopy
  /-- Journal entries not yet in a commit (10 R317). -/
  pend : List JEntry
  /-- Chip time of the first pending entry (10 R319). -/
  pendAt : Option (BitVec 64)
  /-- Fault source 28 has been raised for the entries that wait (10 R319). -/
  pendMissed : Bool
  /-- Chip time of the first pending entry that a command waits for (10 R319). -/
  pendSince : Option (BitVec 64)
  /-- The commit in flight (10 R319). -/
  commit : Option Commit
  /-- The SEQ last given (10 R317). -/
  seq : Nat
  /-- OD 0x1410.05 JOURNAL_SEQ (10 R333). -/
  durable : Nat
  /-- OD 0x1410.06 CKPT_SEQ (10 R333). -/
  ckptSeq : Nat
  /-- A checkpoint being written (10 R321). -/
  ckptRun : Option Ckpt
  /-- Journal sectors since the last checkpoint (10 R321). -/
  sinceCkpt : Nat
  /-- OD 0x1410.07 COPY_STATE (10 R333). -/
  copyState : BitVec 4
  /-- OD 0x1410.09 RESTORE_MS (10 R333). -/
  restoreMs : Nat
  /-- OD 0x1410.0A RESTORE_PRIMARY (10 R333). -/
  restorePrimary : BitVec 2
  /-- Homework jobs that run, oldest first (10 R324). -/
  jobs : List Job
  /-- The number last given to a job (10 R324). -/
  jobId : Nat
  /-- HEAD_STATE by 32 * actuator + head (unlisted: class 0); persistent (10 R334). -/
  heads : Tab HeadState
  /-- Event 264 was given and event 265 not since (10 R335). -/
  high : Bool
  /-- Media cache Homework is obligatory (10 R324). -/
  obligCache : Bool
  /-- Event 270 was given (10 R332). -/
  lowSpare : Bool
  /-- Fault 31 was raised (10 R332). -/
  noSpare : Bool
  deriving DecidableEq, Repr

/-- Plc at reset, as the rules named at its fields give it (values of log 5, 9 where the spec
gives none). -/
def Plc.reset : Plc where
  userBands := 0
  physSlots := 0
  spareInitial := 0
  spareLeft := 0
  placed := false
  headCount := []
  bands := []
  extents := []
  extentCap := 16777216
  gen := 0
  genFloor := 0
  held := []
  tempSince := 0
  serial := 0
  stripes := []
  groups := []
  parity := []
  spareUse := 0
  chunks := []
  opSeq := 0
  nss := []
  copies := Four.all SysCopy.reset
  pend := []
  pendAt := none
  pendMissed := false
  pendSince := none
  commit := none
  seq := 0
  durable := 0
  ckptSeq := 0
  ckptRun := none
  sinceCkpt := 0
  copyState := 0
  restoreMs := 0
  restorePrimary := 0
  jobs := []
  jobId := 0
  heads := []
  high := false
  obligCache := false
  lowSpare := false
  noSpare := false

/-- An operation the Timetable admitted (R338). -/
structure Admitted where
  /-- The candidate's number (11 R338). -/
  id : Nat
  /-- Actuator (11 R338). -/
  act : Fin 4
  /-- The host command, by fetch number (11 R352). -/
  cmd : Option Nat
  /-- The kind of obligatory work (11 R355). -/
  kind : Option Nat
  /-- Seek class (11 R347). -/
  cls : Nat
  /-- It begins with a seek (11 R353). -/
  seek : Bool
  /-- Its first 10 us slot, counted in chip time (11 R346). -/
  start : Nat
  /-- Predicted current on 12 V per slot (11 R344). -/
  mA12 : List Nat
  /-- Predicted current on 5 V per slot (11 R344). -/
  mA5 : List Nat
  /-- Its predicted seek charge without K_SEEK's factor, uC (11 R345). -/
  raw : Nat
  /-- It has ended within the present period (11 R338). -/
  ended : Bool
  deriving DecidableEq, Repr

/-- Obligatory background waiting to start (R355). -/
structure Oblig where
  /-- Kind 1 to 7 (11 R355). -/
  kind : Nat
  /-- The job or actuator it is about (11 R355). -/
  job : Nat
  /-- Its unit's actuator (11 R355). -/
  act : Option (Fin 4)
  /-- Deadline, chip time (11 R355). -/
  due : BitVec 64
  /-- Fault source 150 was raised (11 R355). -/
  missed : Bool
  deriving DecidableEq, Repr

/-- The Timetable. -/
structure Tt where
  /-- The period length in force, in microseconds (11 R337). -/
  periodUs : Nat
  /-- Chip time of the last period boundary (11 R337). -/
  boundary : BitVec 64
  /-- A refused candidate blocks 12 V for the rest of the period (11 R350). -/
  block12 : Bool
  /-- The same on 5 V (11 R350). -/
  block5 : Bool
  /-- A budget lies below the base load (11 R360). -/
  underBase : Bool
  /-- Admitted operations, those that ended in the present period included (11 R338). -/
  admitted : List Admitted
  /-- Operations queued: the candidates last collected and not admitted (11 R349). -/
  queue : List Cand
  /-- An operation admitted alone (11 R346). -/
  alone : Option Nat
  /-- Per actuator, the chip time in ticks of its last seek start plus one (11 R348). -/
  seekAt : Tab Nat
  /-- OD 0x1850.03 A_op on 12 V, uC per period (11 R361). -/
  aop12 : Nat
  /-- A_op on 5 V (11 R341). -/
  aop5 : Nat
  /-- OD 0x1850.02 B on 12 V, mA (11 R361). -/
  base12 : Nat
  /-- B on 5 V, mA (11 R341). -/
  base5 : Nat
  /-- The factor on the spindle running-current term, per mille (11 R345). -/
  spinFix : Nat
  /-- The last 64 ratios of measured to predicted spindle current, per mille, newest first (11
  R345). -/
  spinHist : List Nat
  /-- Per actuator, the same for its last 64 seeks (11 R345). -/
  kHist : List (List Nat)
  /-- Per actuator, the factor on K_SEEK, per mille (11 R345). -/
  kFix : List Nat
  /-- Charge to take from the next period's allowance, uC (11 R345). -/
  excess : Nat
  /-- OD 0x1850.01 F_HEAT, per mille (11 R361). -/
  fHeat : Nat
  /-- F_heat at the last event 276 (11 R342). -/
  fHeatEv : Nat
  /-- Head temperatures polled, 0.125 C, by 32 * actuator + head (11 R342). -/
  headT : Tab Int
  /-- Chip time of the last poll of a head, by 32 * actuator + head (11 R342). -/
  polledAt : Tab (BitVec 64)
  /-- Thermal protection of the die group (11 R343). -/
  protDie : Bool
  /-- Thermal protection of the diode group (11 R343). -/
  protDiode : Bool
  /-- Heads under thermal protection (11 R343). -/
  protHeads : List (Fin 4 × BitVec 5)
  /-- OD 0x1850.04 RECOVERY (11 R361). -/
  recovery : Bool
  /-- Chip time recovery was entered (11 R362). -/
  recoverySince : BitVec 64
  /-- OD 0x1850.05 LATE_SCORE, in 1 / 65,536 us (11 R361). -/
  lateScore : Nat
  /-- Chip time the score was last brought up to date (11 R353). -/
  lateAt : BitVec 64
  /-- Chip time of the last late completion (11 R359). -/
  lastLate : Option (BitVec 64)
  /-- Per second, newest first, boundaries with a blocked candidate and boundaries; at most 10 (11
  R359). -/
  utilHist : List (Nat × Nat)
  /-- The same for the second in progress (11 R359). -/
  utilNow : Nat × Nat
  /-- OD 0x1830.06 UTIL (11 R361). -/
  util : Nat
  /-- Chip time since which f_heat is below 1 (11 R359). -/
  coolSince : Option (BitVec 64)
  /-- Chip time since which U is at most UTIL_DOWN (11 R359). -/
  lowSince : Option (BitVec 64)
  /-- Chip time U was computed last (11 R359). -/
  secondAt : BitVec 64
  /-- Chip time of the last Cruise target set (11 R359). -/
  decidedAt : Option (BitVec 64)
  /-- The Cruise target last set, rpm (11 R359). -/
  cruise : Option Nat
  /-- Consecutive boundaries with POOL_UP_BUSY decoders busy (11 R351). -/
  busyBounds : Nat
  /-- Chip time of the last grant to decoders 4 to 7 (11 R351). -/
  grantAt : BitVec 64
  /-- Obligatory media cache Homework that ended within the last second: actuator, and first and
  last tick (11 R355). -/
  served7 : List (Fin 4 × Nat × Nat)
  /-- Obligatory background waiting to start (11 R355). -/
  oblig : List Oblig
  deriving DecidableEq, Repr

/-- Tt at reset, as the rules named at its fields give it. -/
def Tt.reset : Tt where
  periodUs := 1000
  boundary := 0
  block12 := false
  block5 := false
  underBase := false
  admitted := []
  queue := []
  alone := none
  seekAt := []
  aop12 := 0
  aop5 := 0
  base12 := 0
  base5 := 0
  spinFix := 1000
  spinHist := []
  kHist := [[], [], [], []]
  kFix := [1000, 1000, 1000, 1000]
  excess := 0
  fHeat := 1000
  fHeatEv := 1000
  headT := []
  polledAt := []
  protDie := false
  protDiode := false
  protHeads := []
  recovery := false
  recoverySince := 0
  lateScore := 0
  lateAt := 0
  lastLate := none
  utilHist := []
  utilNow := (0, 0)
  util := 0
  coolSince := none
  lowSince := none
  secondAt := 0
  decidedAt := none
  cruise := none
  busyBounds := 0
  grantAt := 0
  served7 := []
  oblig := []

/-- The completion statuses the chapter names, by name. (12 R371-R392). -/
inductive NvCode where
  /-- Successful Completion. -/
  | success
  /-- Invalid Command Opcode. -/
  | invalidOpcode
  /-- Invalid Field in Command. -/
  | invalidField
  /-- Invalid Queue Deletion. -/
  | invalidQueueDeletion
  /-- Invalid Queue Identifier (NVMe 2.0). -/
  | invalidQueueId
  /-- Invalid Queue Size (NVMe 2.0). -/
  | invalidQueueSize
  /-- Completion Queue Invalid (NVMe 2.0). -/
  | cqInvalid
  /-- Abort Command Limit Exceeded. -/
  | abortLimit
  /-- Asynchronous Event Request Limit Exceeded (NVMe 2.0). -/
  | aerLimit
  /-- Invalid Firmware Slot. -/
  | invalidSlot
  /-- Invalid Firmware Image. -/
  | invalidImage
  /-- Command Sequence Error. -/
  | sequence
  /-- Firmware Activation Requires NVM Subsystem Reset. -/
  | needsSubsystemReset
  /-- Firmware Activation Requires Maximum Time Violation. -/
  | maxTime
  /-- Namespace Not Ready. -/
  | nsNotReady
  /-- Namespace is Write Protected. -/
  | writeProtected
  /-- Unrecovered Read Error. -/
  | unrecoveredRead
  /-- Feature Identifier Not Saveable. -/
  | notSaveable
  /-- Format In Progress. -/
  | formatInProgress
  /-- Sanitize In Progress. -/
  | sanitizeInProgress
  /-- Namespace Identifier Unavailable. -/
  | nsidUnavailable
  /-- Namespace Insufficient Capacity. -/
  | nsCapacity
  /-- Invalid Namespace or Format (NVMe 2.0). -/
  | invalidNs
  /-- Namespace Already Attached (NVMe 2.0). -/
  | nsAttached
  /-- Namespace Not Attached (NVMe 2.0). -/
  | nsNotAttached
  /-- Namespace Is Private (NVMe 2.0). -/
  | nsPrivate
  /-- Invalid Interrupt Vector (NVMe 2.0). -/
  | invalidVector
  /-- Invalid Log Page (NVMe 2.0). -/
  | invalidLog
  /-- LBA Out of Range (NVMe 2.0). -/
  | lbaRange
  /-- Invalid Placement Handle. -/
  | invalidHandle
  /-- Data Transfer Error. -/
  | dataTransfer
  /-- Reservation Conflict (NVMe 2.0). -/
  | reservationConflict
  /-- Status 0xC1: 16 frames of the controller already wait (03 R90). -/
  | framesWaiting
  /-- Status 0xC0: response not available (03 R90). -/
  | noResponse
  /-- Access Denied (14 R429). -/
  | accessDenied
  deriving DecidableEq, Repr

/-- A completion status. -/
structure NvStatus where
  /-- The status (12 R382). -/
  code : NvCode
  /-- Do Not Retry (12 R382). -/
  dnr : Bool
  /-- Command Retry Delay (12 R384). -/
  crd : BitVec 2
  deriving DecidableEq, Repr

/-- What a fetched command waits for before its completion is due. (10 R323). -/
inductive Need where
  /-- Its completion is due. -/
  | nothing
  /-- So many of its map units to be read. -/
  | media (left : Nat)
  /-- Its data on the media and its group durable. -/
  | data
  /-- Its group durable. -/
  | group
  /-- The groups of the writes a Flush covers. -/
  | flush (cmds : List Nat)
  /-- A SAVE of the persistent store. -/
  | save (left : Nat)
  /-- A key erase. -/
  | erase
  /-- The activation without reset. -/
  | activation
  /-- An asynchronous event. -/
  | aer
  /-- A response frame with this TAG_ID, awaited since a chip time (03 R90). -/
  | buyth (tag : BitVec 32) (buflen : Nat) (since : BitVec 64)
  deriving DecidableEq, Repr

/-- Where the mapping put a map unit when a read was fetched (R376). -/
structure Place where
  /-- The map unit (10 R311). -/
  unit : Nat
  /-- Its place (10 R311). -/
  loc : Loc
  /-- Its sector (10 R311). -/
  sector : Nat
  /-- Its tag (10 R312). -/
  tag : BitVec 64
  deriving DecidableEq, Repr

/-- A command fetched and not completed (R370). -/
structure Cmd where
  /-- Its place in fetch order (12 R370). -/
  n : Nat
  /-- Its controller (12 R370). -/
  ctrl : Fin 2
  /-- Its submission queue (12 R373). -/
  sqid : Nat
  /-- Its command identifier (12 R370). -/
  cid : Nat
  /-- Opcode (12 R371). -/
  opcode : BitVec 8
  /-- From the admin queue (12 R371). -/
  admin : Bool
  /-- Namespace (12 R302). -/
  nsid : Nat
  /-- First logical block (12 R302). -/
  lba : Nat
  /-- Logical blocks (12 R302). -/
  nlb : Nat
  /-- Limited Retry (08 R257). -/
  limitedRetry : Bool
  /-- For a read, its media units as the mapping gave them at fetch (12 R376, 08 R258). -/
  places : List Place
  /-- Its extent generation, for a write or deallocation (10 R310). -/
  gen : Nat
  /-- Completes once durable (10 R323). -/
  fua : Bool
  /-- FDP placement handle (10 R315). -/
  handle : Option Nat
  /-- Deadline, chip time (11 R352). -/
  due : BitVec 64
  /-- What it waits for (10 R323). -/
  need : Need
  /-- The status it will complete with (12 R382). -/
  status : NvStatus
  /-- Dword 0 of its completion (12 R372). -/
  dw0 : BitVec 32
  /-- Its deadline has passed (11 R352). -/
  lateSeen : Bool
  deriving DecidableEq, Repr

/-- A completion entry posted (R373). -/
structure Cqe where
  /-- Controller (12 R373). -/
  ctrl : Fin 2
  /-- Completion queue (12 R368). -/
  cqid : Nat
  /-- MSI-X vector of that queue (12 R368). -/
  vector : Nat
  /-- Submission queue (12 R373). -/
  sqid : Nat
  /-- Command identifier (12 R373). -/
  cid : Nat
  /-- Status (12 R373). -/
  status : NvStatus
  /-- Dword 0 (12 R372). -/
  dw0 : BitVec 32
  deriving DecidableEq, Repr

/-- An I/O submission queue (R368, R369). -/
structure Sq where
  /-- Queue identifier (12 R368). -/
  id : Nat
  /-- Entries (12 R368). -/
  size : Nat
  /-- Its completion queue (12 R368). -/
  cqid : Nat
  /-- QPRIO (12 R369). -/
  prio : BitVec 2
  /-- Tail doorbell (12 R369). -/
  tail : Nat
  /-- Head (12 R369). -/
  head : Nat
  deriving DecidableEq, Repr

/-- A completion queue (R368). -/
structure Cq where
  /-- Queue identifier (12 R368). -/
  id : Nat
  /-- Entries (12 R368). -/
  size : Nat
  /-- MSI-X vector (12 R368). -/
  vector : Nat
  /-- Tail (12 R368). -/
  tail : Nat
  /-- Head doorbell (12 R368). -/
  head : Nat
  deriving DecidableEq, Repr

/-- The value of a feature (R387). -/
structure Feat where
  /-- Feature identifier (12 R387). -/
  fid : BitVec 8
  /-- Namespace, for namespace scope; else 0 (12 R387). -/
  nsid : Nat
  /-- Dword 11 (12 R387). -/
  dw11 : BitVec 32
  /-- The data, for a feature that has some (12 R387). -/
  bytes : List Byte
  deriving DecidableEq, Repr

/-- An NVMe controller (R367 to R375). -/
structure Ctrl where
  /-- CC.EN (12 R375). -/
  en : Bool
  /-- CSTS.RDY (12 R375). -/
  rdy : Bool
  /-- CC.AMS (12 R369). -/
  ams : BitVec 3
  /-- CSTS.SHST (12 R375). -/
  shst : BitVec 2
  /-- Fetching is stopped (12 R375). -/
  fetchStopped : Bool
  /-- Submission queues; the admin submission queue is queue 0 (12 R368). -/
  sqs : List Sq
  /-- Completion queues; the admin completion queue is queue 0 (12 R368). -/
  cqs : List Cq
  /-- Controller-scope features that are not at their default (12 R387). -/
  feats : List Feat
  /-- Resets of this controller (output) (12 R373). -/
  resets : Nat
  deriving DecidableEq, Repr

/-- Ctrl at reset, as the rules named at its fields give it (values of log 5 where the spec gives
none). -/
def Ctrl.reset : Ctrl where
  en := false
  rdy := false
  ams := 0
  shst := 0
  fetchStopped := false
  sqs := []
  cqs := []
  feats := []
  resets := 0

/-- A PCIe port (R364). -/
structure Port where
  /-- Link up (12 R390). -/
  up : Bool
  /-- OD 0x1000.06 or .07, width (12 R390). -/
  width : Nat
  /-- The same, GT/s (12 R390). -/
  gts : Nat
  /-- The port is in L1.2 (18 R498). -/
  l12 : Bool
  /-- Chip times of its correctable errors in the last second (12 R392). -/
  corrAt : List (BitVec 64)
  deriving DecidableEq, Repr

/-- Port at reset, as the rules named at its fields give it. -/
def Port.reset : Port where
  up := false
  width := 0
  gts := 0
  l12 := false
  corrAt := []

/-- A reservation registrant. -/
structure Registrant where
  /-- The controller whose host registered (12 R371). -/
  host : Fin 2
  /-- The key (12 R371). -/
  key : BitVec 64
  deriving DecidableEq, Repr

/-- The reservation state of a namespace (R371, R387). -/
structure Reservation where
  /-- Namespace (12 R371). -/
  nsid : Nat
  /-- Registrants (12 R371). -/
  registrants : List Registrant
  /-- The holder (12 R371). -/
  holder : Option (Fin 2)
  /-- Reservation type (12 R371). -/
  rtype : Nat
  /-- Kept through power loss (12 R387). -/
  ptpl : Bool
  /-- Generation (12 R371). -/
  generation : Nat
  deriving DecidableEq, Repr

/-- An activation without reset (R379). -/
structure Activation where
  /-- The slot (12 R379). -/
  slot : Nat
  /-- The Firmware Commit, by fetch number (12 R379). -/
  cmd : Nat
  /-- Chip time of its fetch (12 R379). -/
  since : BitVec 64
  /-- Chip time at which every fetched command had completed, step 3's beginning (12 R379). -/
  drained : Option (BitVec 64)
  deriving DecidableEq, Repr

/-- A firmware image slot (R378, R44). -/
structure FwSlot where
  /-- The image changes guest images (12 R378). -/
  guests : Bool
  /-- The image verifies (12 R378). -/
  verifies : Bool
  /-- The number of the image (12 R386). -/
  rev : Nat
  deriving DecidableEq, Repr

/-- An asynchronous event (R388). -/
structure Aen where
  /-- Controller (12 R388). -/
  ctrl : Fin 2
  /-- Type (12 R391). -/
  type : BitVec 8
  /-- Information (12 R391). -/
  info : BitVec 8
  deriving DecidableEq, Repr

/-- A log page the device has sent (R386). -/
structure LogPage where
  /-- Controller (12 R386). -/
  ctrl : Fin 2
  /-- The command (12 R386). -/
  cid : Nat
  /-- The command's opcode (12 R371). -/
  opcode : BitVec 8
  /-- Log identifier, CNS or feature (12 R386). -/
  lid : BitVec 8
  /-- The bytes sent (12 R386). -/
  bytes : List Byte
  deriving DecidableEq, Repr

/-- The host interface. -/
structure Nvme where
  /-- Controllers 0 and 1 (12 R364). -/
  ctrls : List Ctrl
  /-- Ports 0 and 1 (12 R364). -/
  ports : List Port
  /-- The command table, in fetch order (12 R370). -/
  cmds : List Cmd
  /-- Commands fetched so far (12 R370). -/
  fetched : Nat
  /-- Completion entries posted, oldest first (output) (12 R373). -/
  posted : List Cqe
  /-- Data structures and log pages sent to the host, oldest first (output) (12 R386). -/
  data : List LogPage
  /-- Asynchronous events waiting for a request (12 R388). -/
  aens : List Aen
  /-- Subsystem, endurance group and namespace features not at their default (12 R387). -/
  features : List Feat
  /-- The Autonomous Power State Transition table as last saved (persistent) (12 R387). -/
  apstSaved : List Byte
  /-- The power state the host has set (12 R380). -/
  powerState : BitVec 2
  /-- Firmware slots 1 to 3 (persistent); slot 1 holds the factory image (12 R378). -/
  slots : Tab FwSlot
  /-- The active slot (persistent) (12 R378). -/
  activeSlot : Nat
  /-- The slot that becomes active at the next reset (12 R378). -/
  nextSlot : Option Nat
  /-- The number last given to an image (12 R386). -/
  imageRev : Nat
  /-- The image downloaded: bytes, and whether it changes guest images (12 R378). -/
  download : Option (Nat × Bool)
  /-- An activation without reset (12 R379). -/
  activation : Option Activation
  /-- Namespaces a Format NVM is in progress on (12 R383). -/
  format : List Nat
  /-- A Sanitize is in progress (12 R383). -/
  sanitize : Bool
  /-- Sanitize operations completed, for the Sanitize Status log (12 R386). -/
  sanitizeDone : Nat
  /-- Reservations (12 R371). -/
  reservations : List Reservation
  /-- Error Information entries, newest first, at most 64: number, NSID, LBA (12 R386). -/
  errLog : List (Nat × Nat × Nat)
  /-- Error Information entries, lifetime (12 R388). -/
  errCount : Nat
  /-- Changed Namespace List (12 R386). -/
  changedNs : List Nat
  /-- Critical Warning last reported (12 R388). -/
  warnings : BitVec 8
  /-- A fatal fault was recorded since power-on (12 R388). -/
  fatalSeen : Bool
  /-- FDP Statistics, host bytes written (12 R389). -/
  hostBytes : Nat
  /-- FDP Statistics, media bytes written (12 R389). -/
  mediaBytes : Nat
  /-- Telemetry Controller-Initiated Data Available (17 R493). -/
  teleAvail : Bool
  /-- Reservation notifications not yet read: controller, type, NSID (12 R386). -/
  resLog : List (Fin 2 × Nat × Nat)
  /-- Vendor ID as taken when the host island was configured (12 R366). -/
  idVid : Nat
  /-- Device ID as taken then (12 R366). -/
  idDid : Nat
  /-- MN as taken then (12 R366). -/
  idModel : List Byte
  /-- SN as taken then (12 R366). -/
  idSerial : List Byte
  /-- The image number FR shows (12 R366). -/
  idRev : Nat
  /-- Controller Busy Time, in ticks of chip time (12 R388). -/
  busyTicks : Nat
  /-- Power Cycles (persistent) (12 R388). -/
  powerCycles : Nat
  deriving DecidableEq, Repr

/-- Nvme at reset, as the rules named at its fields give it (values of log 9 where the spec gives
none). -/
def Nvme.reset : Nvme where
  ctrls := [Ctrl.reset, Ctrl.reset]
  ports := [Port.reset, Port.reset]
  cmds := []
  fetched := 0
  posted := []
  data := []
  aens := []
  features := []
  apstSaved := []
  powerState := 0
  slots := []
  activeSlot := 1
  nextSlot := none
  imageRev := 0
  download := none
  activation := none
  format := []
  sanitize := false
  sanitizeDone := 0
  reservations := []
  errLog := []
  errCount := 0
  changedNs := []
  warnings := 0
  fatalSeen := false
  hostBytes := 0
  mediaBytes := 0
  teleAvail := false
  resLog := []
  idVid := 0
  idDid := 0
  idModel := []
  idSerial := []
  idRev := 0
  busyTicks := 0
  powerCycles := 0

/-- A write queue entry (R406). -/
structure QEntry where
  /-- The granule, as usable address less the DRAM base, divided by 64 (13 R406). -/
  gran : Nat
  /-- The bytes it holds: offset in the granule and value, offsets rising; 64 of them make it
  whole (13 R406). -/
  bytes : List (Nat × Byte)
  /-- An atomic operation to perform at the merge: operation, offset, size, operand (13 R406). -/
  amo : Option (AmoOp × Nat × Nat × List Byte)
  /-- The initiator of the latest write, for fault source 20 (13 R406). -/
  src : Endpoint
  /-- The number of the atomic request (13 R406). -/
  id : Nat
  /-- Byte errors of its burst that write link ECC cannot correct (13 R401). -/
  link : List (Nat × Byte)
  deriving DecidableEq, Repr

/-- A check line in a channel's buffer (R398). -/
structure CheckLine where
  /-- Its row slot (13 R394,R398). -/
  slot : Nat
  /-- Its number in the row, 0 to 6 (13 R395). -/
  m : Nat
  /-- The granules whose check bytes it holds, written or read (13 R398). -/
  held : BitVec 4
  /-- Per granule of the four, the errors of its check bytes as they were read (13 R396,R398). -/
  bad : Tab (List (Nat × Byte))
  /-- Written since it was last written back (13 R398). -/
  dirty : Bool
  deriving DecidableEq, Repr

/-- One DRAM channel (R402-R406). -/
structure Chan where
  /-- The MR4 refresh-rate code (13 R402). -/
  mr4 : BitVec 3
  /-- The code at the last training (13 R403). -/
  mr4Trained : BitVec 3
  /-- The rate is above nominal (event 70 and fault 26 given for this episode) (13 R402). -/
  hot : Bool
  /-- The write queue, oldest first, at most 64 entries (13 R406). -/
  queue : List QEntry
  /-- The check lines buffered, least recently used first, at most 16 (13 R398). -/
  lines : List CheckLine
  /-- The row slot open in each bank, by 16 * rank + bank (13 R406). -/
  opened : Tab Nat
  /-- Chip time of the last oscillator check; none: one is due (13 R403). -/
  checkAt : Option (BitVec 64)
  /-- Chip time of the last slot given to the scrubber (13 R410). -/
  scrubAt : BitVec 64
  /-- Postponed refreshes per bank (13 R402). -/
  postponed : Tab Nat
  /-- A retraining blocks the channel (13 R403). -/
  retraining : Bool
  /-- Retrainings failed in a row (13 R403). -/
  retrainFails : Nat
  /-- The channel is in self-refresh (13 R404). -/
  selfRefresh : Bool
  /-- The next scrub read goes at normal priority (13 R410). -/
  starve : Bool
  /-- Chip time of the last event 66 of the channel (13 R417). -/
  ev66At : Option (BitVec 64)
  deriving DecidableEq, Repr

/-- Chan at reset, as the rules named at its fields give it (values of log 5 where the spec gives
none). -/
def Chan.reset : Chan where
  mr4 := 0
  mr4Trained := 0
  hot := false
  queue := []
  lines := []
  opened := []
  checkAt := none
  scrubAt := 0
  postponed := []
  retraining := false
  retrainFails := 0
  selfRefresh := false
  starve := false
  ev66At := none

/-- A memory error log entry (R408). -/
structure LogEntry where
  /-- Bytes 0-7 (13 R408). -/
  time : BitVec 64
  /-- Bytes 8-13 (13 R408). -/
  addr : BitVec 48
  /-- Byte 14 (13 R408). -/
  channel : BitVec 8
  /-- Byte 15 (13 R408). -/
  kind : BitVec 8
  /-- Byte 16 (13 R408). -/
  initiator : BitVec 8
  /-- Byte 17 (13 R408). -/
  bytes : BitVec 8
  /-- Byte 18 (13 R408). -/
  mode : BitVec 8
  /-- Bytes 20-23 (13 R408). -/
  seq : BitVec 32
  deriving DecidableEq, Repr

/-- The memory controller. -/
structure Dramc where
  /-- Raw DRAM in GiB as training read it (4, 8, 16 or 32); 0 until trained (13 R393). -/
  rawGiB : Nat
  /-- The ECC mode in force: C3D5 (1) or C4 (0) (13 R397). -/
  c3d5 : Bool
  /-- MT/s in use (13 R393,R416). -/
  rate : Nat
  /-- CH_A to CH_D (13 R393). -/
  ch : Four Chan
  /-- Per granule, the byte errors its code word holds: position 0-4 folded, 5-68 data, 69-76
  check bytes, and error value (13 R396,R406). -/
  errs : Tab (List (Nat × Byte))
  /-- The memory error log, oldest first, at most 16 entries (13 R408). -/
  log : List LogEntry
  /-- SEQ of the last entry (13 R408). -/
  logSeq : BitVec 32
  /-- Answers the controller has given, oldest first (output) (13 R406). -/
  results : List TxnResult
  /-- Reads and AMOs held for a drain or a merge (13 R406,R407). -/
  waiting : List Txn
  deriving DecidableEq, Repr

/-- Dramc at reset, as the rules named at its fields give it. -/
def Dramc.reset : Dramc where
  rawGiB := 0
  c3d5 := true
  rate := 8533
  ch := Four.all Chan.reset
  errs := []
  log := []
  logSeq := 0
  results := []
  waiting := []

/-- SCR_STATUS.STATE. (13 R413). -/
inductive ScrState where
  /-- 0b00. -/
  | idle
  /-- 0b01. -/
  | running
  /-- 0b10. -/
  | done
  /-- 0b11. -/
  | aborted
  deriving DecidableEq, Repr

/-- The scrubber. -/
structure Scr where
  /-- An ABORT waits for the next granule (13 R413). -/
  abort : Bool
  /-- SCR_CTL.FIX (13 R413). -/
  fix : Bool
  /-- SCR_CTL.SIG (13 R413). -/
  sig : Bool
  /-- SCR_CTL.RATE (13 R413). -/
  rate : BitVec 16
  /-- SCR_STATUS.STATE (13 R413). -/
  state : ScrState
  /-- SCR_FLAGS: CONFLICT, STARVED, UNCORR (13 R413). -/
  flags : BitVec 3
  /-- SCR_STARVE.LIMIT (13 R413). -/
  limit : BitVec 16
  /-- SCR_START (13 R412). -/
  start : BitVec 36
  /-- SCR_END (13 R412). -/
  stop : BitVec 36
  /-- SCR_READ (13 R412). -/
  read : BitVec 32
  /-- SCR_CORR (13 R412). -/
  corr : BitVec 32
  /-- SCR_UNCORR (13 R412). -/
  uncorr : BitVec 32
  /-- SCR_SIGERR (13 R412). -/
  sigErr : BitVec 32
  /-- SCR_FIRST (13 R412). -/
  first : BitVec 36
  /-- SCR_LAST (13 R412). -/
  last : BitVec 36
  /-- SCR_DUR (13 R412). -/
  dur : BitVec 64
  /-- The address of the next granule to read (13 R409). -/
  next : Nat
  /-- Chip time of GO (13 R412). -/
  startedAt : BitVec 64
  /-- Granules read so far, not yet in the summary (13 R411). -/
  sumRead : BitVec 32
  /-- Corrected so far (13 R411). -/
  sumCorr : BitVec 32
  /-- Uncorrectable so far (13 R411). -/
  sumUncorr : BitVec 32
  /-- Signature mismatches so far (13 R411). -/
  sumSig : BitVec 32
  /-- Power-on hours at the start of the last full pass (persistent) (13 R411). -/
  passAt : Nat
  /-- The start of the next 256 MiB range of a full pass that runs (13 R411). -/
  passNext : Option Nat
  /-- Uncorrectable granules in the pass so far (13 R416). -/
  passUncorr : BitVec 32
  deriving DecidableEq, Repr

/-- Scr at reset, as the rules named at its fields give it (values of log 5 where the spec gives
none). -/
def Scr.reset : Scr where
  abort := false
  fix := true
  sig := true
  rate := 0
  state := .idle
  flags := 0
  limit := 10000
  start := 0
  stop := 0
  read := 0
  corr := 0
  uncorr := 0
  sigErr := 0
  first := 0
  last := 0
  dur := 0
  next := 0
  startedAt := 0
  sumRead := 0
  sumCorr := 0
  sumUncorr := 0
  sumSig := 0
  passAt := 0
  passNext := none
  passUncorr := 0

/-- The states of a buffer cache page. (13 R414). -/
inductive PageState where
  /-- CLEAN. -/
  | clean
  /-- DIRTY. -/
  | dirty
  /-- DESTAGING. -/
  | destaging
  deriving DecidableEq, Repr

/-- A buffer cache page that is not FREE (R414). -/
structure Page where
  /-- The map unit it holds (13 R414). -/
  unit : Nat
  /-- CLEAN, DIRTY or DESTAGING (13 R414). -/
  state : PageState
  /-- The generation of its newest write (10 R310). -/
  gen : Nat
  /-- The commands whose write it holds (10 R323). -/
  cids : List Nat
  /-- For a page that is written and superseded, the command whose durable group frees it (13
  R414). -/
  frees : Option Nat
  deriving DecidableEq, Repr

/-- The buffer cache pages. -/
structure Buf where
  /-- The pages in use, least recently used first (13 R414). -/
  pages : List Page
  /-- Write fetching is stopped at the dirty limit (event 71 given) (13 R415). -/
  stopped : Bool
  deriving DecidableEq, Repr

/-- Buf at reset, as the rules named at its fields give it. -/
def Buf.reset : Buf where
  pages := []
  stopped := false

/-- OD 0x5100.04 ENGINE_STATE. (14 R435). -/
inductive CiphState where
  /-- 0. -/
  | off
  /-- 1. -/
  | reloading
  /-- 2. -/
  | ready
  /-- 3. -/
  | halted
  deriving DecidableEq, Repr

/-- The state of a media key slot. (14 R427,R435). -/
inductive SlotState where
  /-- 0. -/
  | empty
  /-- 1. -/
  | loaded
  /-- 2. -/
  | pending
  deriving DecidableEq, Repr

/-- A media key slot (R427). -/
structure KeySlot where
  /-- Empty, loaded or pending (14 R427,R435). -/
  state : SlotState
  /-- 64 bytes, key 1 then key 2, when loaded; in pending, the old key (14 R427). -/
  key : List Byte
  /-- In pending, the key the slot takes; none for an erase (14 R430). -/
  newKey : Option (List Byte)
  deriving DecidableEq, Repr

/-- KeySlot at reset, as the rules named at its fields give it. -/
def KeySlot.reset : KeySlot where
  state := .empty
  key := []
  newKey := none

/-- A job in the pipeline or held (R422, R430). -/
structure CJob where
  /-- The job (14 R422). -/
  job : CipherJob
  /-- The key when the job was accepted; none if its slot was empty, pending or not yet reloaded
  (14 R430,R431). -/
  key : Option (List Byte)
  /-- Its slot has changed since (14 R430). -/
  cut : Bool
  deriving DecidableEq, Repr

/-- A completion record (R423). -/
structure CRecord where
  /-- The job (14 R423). -/
  id : Nat
  /-- Status 0x0 to 0x5 (14 R423). -/
  status : BitVec 4
  /-- The release flag (14 R432). -/
  release : Bool
  /-- The tag of a GCM encryption (14 R421). -/
  tag : List Byte
  deriving DecidableEq, Repr

/-- A crypto erase that is running or waits (R433). -/
structure EraseRun where
  /-- The namespaces erased; empty for the old slots left by a power loss (R434) (14 R433). -/
  nsids : List Nat
  /-- Other commands complete with Sanitize In Progress, else with Format In Progress (14 R433).
  -/
  sanitize : Bool
  /-- The part to run next: 1 to 4, then 5 and 6 for the two SAVEs of step 5, 7 for step 6 (14
  R433). -/
  step : Nat
  /-- The slots erased in step 4 (14 R433). -/
  oldSlots : List Nat
  /-- Range and fresh slot of step 2 (14 R433). -/
  newSlots : List (Nat × Nat)
  /-- The journal group of step 3 (14 R433). -/
  group : Nat
  /-- The host command it completes, by fetch number, if one started it (14 R433). -/
  cmd : Option Nat
  deriving DecidableEq, Repr

/-- The cipher engine. -/
structure Ciph where
  /-- OD 0x5100.04 (14 R435). -/
  state : CiphState
  /-- OD 0x5100.05 (14 R426,R435). -/
  entropyOk : Bool
  /-- DRBG requests since the last reseed (14 R426). -/
  drbgCount : Nat
  /-- The slots that are not empty (14 R427). -/
  slots : Tab KeySlot
  /-- Accepted jobs, oldest first (14 R422,R430). -/
  jobs : List CJob
  /-- Completion records, oldest first (14 R423). -/
  records : List CRecord
  /-- The crypto erase running (14 R433). -/
  erase : Option EraseRun
  /-- Crypto erases requested behind it (14 R433). -/
  eraseQueue : List EraseRun
  /-- OD 0x5160.02 (persistent) (14 R435). -/
  eraseState : BitVec 8
  /-- Slots bound to nothing after a power loss, erased before SERVICE (14 R434). -/
  oldAfterLoss : List Nat
  deriving DecidableEq, Repr

/-- Ciph at reset, as the rules named at its fields give it (values of log 5 where the spec gives
none). -/
def Ciph.reset : Ciph where
  state := .off
  entropyOk := true
  drbgCount := 0
  slots := []
  jobs := []
  records := []
  erase := none
  eraseQueue := []
  eraseState := 0
  oldAfterLoss := []

/-- DMA_STATUS.STATE. (15 R453). -/
inductive DmaState where
  /-- 0 IDLE. -/
  | idle
  /-- 1 FETCH. -/
  | fetch
  /-- 2 READY. -/
  | ready
  /-- 3 ACTIVE. -/
  | active
  /-- 4 WAITING. -/
  | waiting
  /-- 5 PARKED. -/
  | parked
  /-- 6 ERROR. -/
  | error
  /-- 7 ABORTING. -/
  | aborting
  deriving DecidableEq, Repr

/-- A descriptor as the engine read it (R439, R440). -/
structure DmaDesc where
  /-- CONTROL (15 R440). -/
  control : BitVec 32
  /-- Source address (15 R439). -/
  src : BitVec 36
  /-- Destination address (15 R439). -/
  dst : BitVec 36
  /-- LENGTH (15 R439). -/
  len : BitVec 24
  /-- NEXT (15 R439). -/
  next : BitVec 32
  deriving DecidableEq, Repr

/-- One DMA channel (R446, R453). -/
structure DmaCh where
  /-- DMA_STATUS.STATE (15 R453). -/
  state : DmaState
  /-- DMA_STATUS.KICK_PEND (15 R453). -/
  kickPend : Bool
  /-- DMA_STATUS.LEFT (15 R453). -/
  left : BitVec 24
  /-- DMA_PTR.ADDR (15 R453). -/
  ptr : BitVec 27
  /-- DMA_FLAGS: CONFLICT, TRIG_OVR, ERROR, PARKED, DONE (15 R453). -/
  flags : BitVec 5
  /-- DMA_LAST (15 R452). -/
  last : BitVec 32
  /-- The descriptor fetched (15 R441). -/
  desc : Option DmaDesc
  /-- The trigger has occurred since the fetch (15 R442). -/
  trigSeen : Bool
  deriving DecidableEq, Repr

/-- DmaCh at reset, as the rules named at its fields give it. -/
def DmaCh.reset : DmaCh where
  state := .idle
  kickPend := false
  left := 0
  ptr := 0
  flags := 0
  last := 0
  desc := none
  trigSeen := false

/-- The DMA engine. -/
structure Dma where
  /-- The channels that are not at reset (15 R438,R453). -/
  ch : Tab DmaCh
  /-- DMA_ENGINE: the channel holding the mover (15 R443,R452). -/
  owner : Option (Fin 16)
  deriving DecidableEq, Repr

/-- Dma at reset, as the rules named at its fields give it. -/
def Dma.reset : Dma where
  ch := []
  owner := none

/-- One fault source of the Hall Monitor (R460, R475). -/
structure HmSrc where
  /-- HM_SRC_CFG; resets to the source's defaults (R461) (16 R475). -/
  cfg : BitVec 32
  /-- HM_SRC_WIN; resets to the source's defaults (R461) (16 R475). -/
  win : BitVec 32
  /-- HM_SRC_STAT.LASTING, reset 0 (16 R475). -/
  lasting : Bool
  /-- HM_SRC_STAT.IRQ, reset 0 (16 R475). -/
  irq : Bool
  /-- HM_SRC_STAT.PENDING, reset 0 (16 R475). -/
  pending : Bool
  /-- HM_SRC_STAT.KIND, reset 0 (16 R475). -/
  kind : BitVec 4
  /-- The non-empty buckets: bucket number in chip time and its count, newest first, reset empty
  (16 R460). -/
  buckets : List (Nat × Nat)
  /-- HM_SRC_CNT, reset 0 (16 R475). -/
  count : BitVec 32
  deriving DecidableEq, Repr

/-- A history entry (R467). -/
structure HistEntry where
  /-- Bytes 0-7 (16 R467). -/
  tSrc : BitVec 64
  /-- Bytes 8-15 (16 R467). -/
  tIn : BitVec 64
  /-- Bytes 16-21 (16 R467). -/
  addr : BitVec 48
  /-- Byte 22 (16 R467). -/
  source : BitVec 8
  /-- Byte 23 (16 R467). -/
  kindSev : BitVec 8
  /-- Bytes 24-27 (16 R467). -/
  seq : BitVec 32
  /-- Byte 28 (16 R467). -/
  react : BitVec 6
  /-- Byte 29 bit 0 (16 R467). -/
  simul : Bool
  /-- Byte 29 bit 1 (16 R467). -/
  injected : Bool
  deriving DecidableEq, Repr

/-- The Hall Monitor. -/
structure Hm where
  /-- HM_CFG.MODE (16 R459,R474). -/
  sevMode : Bool
  /-- HM_CFG.HIST_MIN (16 R474). -/
  histMin : BitVec 3
  /-- HM_CFG.CORE (16 R474). -/
  core : BitVec 2
  /-- HM_EO.HOLD (16 R468,R474). -/
  eoHold : Bool
  /-- The minimum-width timer runs (16 R468). -/
  eoTimer : Bool
  /-- Chip time at which ERROR_OUT was last asserted (16 R478). -/
  eoSince : BitVec 64
  /-- Chip time at which the minimum width ends (16 R468). -/
  eoEnds : BitVec 64
  /-- HM_EO.WIDTH, us (16 R474). -/
  eoWidth : BitVec 17
  /-- HM_SEQ (16 R473). -/
  seq : BitVec 32
  /-- HM_RESET_CAUSE.VALID (16 R470,R473). -/
  causeValid : Bool
  /-- HM_RESET_CAUSE source (16 R473). -/
  causeSource : BitVec 8
  /-- HM_RESET_CAUSE kind (16 R473). -/
  causeKind : BitVec 4
  /-- HM_INJECT.SOURCE (16 R473). -/
  injSource : BitVec 8
  /-- HM_INJECT.KIND (16 R473). -/
  injKind : BitVec 4
  /-- HM_FLAGS.CONFLICT (16 R474). -/
  conflict : Bool
  /-- HM_FLAGS.BAD_SOURCE (16 R474). -/
  badSource : Bool
  /-- The sources that are not at their reset values (16 R475). -/
  srcs : Tab HmSrc
  /-- The history by slot 0-15 (unlisted: empty) (16 R466). -/
  hist : Tab HistEntry
  /-- The ring slot (1 to 15) the next entry takes (16 R466). -/
  histNext : Nat
  /-- History entries per source within the present minute (16 R466). -/
  minute : Tab Nat
  /-- Chip time at which the present minute began (16 R466). -/
  minuteAt : BitVec 64
  /-- Non-maskable interrupts given: bits 3:0 principal cores, 7:4 actuator cores (16 R462). -/
  nmi : BitVec 8
  /-- HM_V_MASK of each view page (16 R476). -/
  vMask : Four (BitVec 12)
  /-- The last four reports of each actuator's sources, newest first (16 R471). -/
  vHist : Four (List HistEntry)
  /-- Units whose block reset is still running (unit codes of R463 in its row order, actuators 3 +
  a) (16 R465). -/
  brst : List Nat
  deriving DecidableEq, Repr

/-- Hm at reset, as the rules named at its fields give it. -/
def Hm.reset : Hm where
  sevMode := false
  histMin := 3
  core := 0
  eoHold := false
  eoTimer := false
  eoSince := 0
  eoEnds := 0
  eoWidth := 1000
  seq := 0
  causeValid := false
  causeSource := 0
  causeKind := 0
  injSource := 0
  injKind := 0
  conflict := false
  badSource := false
  srcs := []
  hist := []
  histNext := 1
  minute := []
  minuteAt := 0
  nmi := 0
  vMask := Four.all 0xFFF
  vHist := Four.all []
  brst := []

/-- A Yearbook record (R479). -/
structure YbRec where
  /-- Bytes 0-5 (17 R479). -/
  seq : BitVec 48
  /-- Bytes 6-13 (17 R479). -/
  pot : BitVec 64
  /-- Bytes 14-21 (17 R479). -/
  wall : BitVec 64
  /-- Bytes 22-23 (17 R479). -/
  ty : BitVec 16
  /-- Byte 24 (17 R479). -/
  len : BitVec 8
  /-- Byte 25 (17 R479). -/
  flags : BitVec 8
  /-- Bytes 26-57 (17 R479). -/
  payload : List Byte
  /-- Its ring slot (0 to 65,535) once programmed (17 R486). -/
  slot : Option Nat
  /-- Chip time at which it was appended (17 R483). -/
  queuedAt : BitVec 64
  deriving DecidableEq, Repr

/-- One initiator's bank of the Yearbook window (R488, R494, R495). -/
structure YbBank where
  /-- YB_CUR (17 R494). -/
  cur : BitVec 48
  /-- YB_FLAGS: CONFLICT, RATE_LIMIT, TYPE_DENIED, QUEUE_FULL, LEN (17 R495). -/
  flags : BitVec 5
  /-- YB_APP_CTL.OK (17 R495). -/
  ok : Bool
  /-- YB_APP_CTL.LEN (17 R495). -/
  len : BitVec 6
  /-- YB_APP_CTL.TYPE (17 R495). -/
  ty : BitVec 16
  /-- YB_APP_SEQ (17 R494). -/
  appSeq : BitVec 48
  /-- YB_APP0-7 (unlisted 0) (17 R494). -/
  app : Tab (BitVec 32)
  deriving DecidableEq, Repr

/-- YbBank at reset, as the rules named at its fields give it. -/
def YbBank.reset : YbBank where
  cur := 0
  flags := 0
  ok := false
  len := 0
  ty := 0
  appSeq := 0
  app := []

/-- A telemetry snapshot (R493). -/
structure Snapshot where
  /-- The Hall Monitor history (17 R493). -/
  hist : Tab HistEntry
  /-- The records the ring held, oldest first (17 R493). -/
  recs : List YbRec
  deriving DecidableEq, Repr

/-- The Yearbook engine, ring, mirrors and wall clock. -/
structure Yb where
  /-- FIRST_SEQ (persistent) (17 R486,R492). -/
  firstSeq : BitVec 48
  /-- The next SEQ to be assigned (17 R481). -/
  nextSeq : BitVec 48
  /-- The records, queued and programmed, in SEQ order (programmed ones persistent) (17
  R483,R486). -/
  recs : List YbRec
  /-- Ring records that failed their CRC in the scan at power-on, until the mapping is restored
  (persistent) (17 R491). -/
  failed : List YbRec
  /-- The ring slot the next program takes (17 R486). -/
  wp : Nat
  /-- Resident appends refused and not yet recorded (17 R484). -/
  dropped : Nat
  /-- The SEQ the first of them would have taken (17 R480). -/
  firstLost : BitVec 48
  /-- OD 0x6101.02 (17 R482,R496). -/
  wallSet : Bool
  /-- Wall time at the last setting, ns (17 R482). -/
  wallBase : BitVec 64
  /-- Chip time at the last setting (17 R482). -/
  wallAt : BitVec 64
  /-- OD 0x6101.03 (17 R496). -/
  wallSource : BitVec 8
  /-- The last setting was backward (17 R482). -/
  wallBack : Bool
  /-- Per actuator, the aligned 1 s span and the records appended in it (17 R485). -/
  guestRate : Four (Nat × Nat)
  /-- The banks not at reset: 0-3 principal cores, 4 housekeeping, 5 + a actuator cores (17 R488).
  -/
  banks : Tab YbBank
  /-- The dictionary cursors by session (17 R489). -/
  cursors : List (SessionId × Nat)
  /-- Per actuator, the first SEQs of the mirror sectors written (persistent) (17 R490). -/
  mirrored : Four (List Nat)
  /-- Ring sectors whose erase failed, which the write point passes over (17 R486,R497). -/
  skip : List Nat
  /-- Chip time of the last mirror write (17 R490). -/
  mirrorAt : BitVec 64
  /-- The host-initiated snapshot (17 R493). -/
  snapHost : Option Snapshot
  /-- The controller-initiated snapshot (17 R493). -/
  snapCtrl : Option Snapshot
  deriving DecidableEq, Repr

/-- Yb at reset, as the rules named at its fields give it (values of log 9 where the spec gives
none). -/
def Yb.reset : Yb where
  firstSeq := 0
  nextSeq := 0
  recs := []
  failed := []
  wp := 0
  dropped := 0
  firstLost := 0
  wallSet := false
  wallBase := 0
  wallAt := 0
  wallSource := 0
  wallBack := false
  guestRate := Four.all (0, 0)
  banks := []
  cursors := []
  mirrored := Four.all []
  skip := []
  mirrorAt := 0
  snapHost := none
  snapCtrl := none

/-- Where a power domain stands. (18 R499,R500). -/
inductive DomState where
  /-- Off; transactions to it complete with kind 0x4. -/
  | off
  /-- The switch is closed, power good awaited. -/
  | switchingOn
  /-- Power good, the fill runs. -/
  | filling
  /-- Ready. -/
  | on
  /-- Switch-off committed, the drain runs. -/
  | draining
  deriving DecidableEq, Repr

/-- One power domain (R498-R500). -/
structure Dom where
  /-- Where it stands (18 R499). -/
  state : DomState
  /-- A switch-on is requested and waits (18 R500). -/
  wantOn : Bool
  /-- A switch-off is requested and waits (18 R500). -/
  wantOff : Bool
  /-- Switch failures in a row (18 R500). -/
  fails : Nat
  /-- Switching is suspended until the next chip reset (OD 0x6300.02) (18 R500). -/
  suspended : Bool
  /-- The chip time at which its switch last closed, or is to close (18 R499). -/
  onAt : BitVec 64
  deriving DecidableEq, Repr

/-- Dom at reset, as the rules named at its fields give it. -/
def Dom.reset : Dom where
  state := .off
  wantOn := false
  wantOff := false
  fails := 0
  suspended := false
  onAt := 0

/-- One island's adaptive supply (R501-R504). -/
structure IslandSupply where
  /-- The set point, mV; 0 when off (18 R501). -/
  mv : Nat
  /-- The re-plan offset, ps (OD 0x6312, persistent) (18 R513). -/
  offset : Nat
  /-- The set point at the last event 19 (18 R519). -/
  mv19 : Nat
  /-- Droop alarms since the last re-plan (18 R513). -/
  droops : Nat
  /-- Chip time of the last event 20 (18 R503). -/
  ev20At : Option (BitVec 64)
  /-- Chip time of its switch-on, its last step or its last droop alarm, whichever was last: the
  next step comes 100 us later (18 R502,R503). -/
  regAt : BitVec 64
  /-- Chip time since which it sits at 850 mV with its least slack below target (18 R504). -/
  lowSince : Option (BitVec 64)
  /-- Fault 145 given for this episode (18 R504). -/
  exhausted : Bool
  /-- Sum of headroom samples since the last re-plan, mV (18 R508). -/
  headSum : Nat
  /-- Headroom samples since the last re-plan (18 R508). -/
  headN : Nat
  /-- The headroom measured since the last re-plan, or the last one, mV (18 R508). -/
  headroom : Option Nat
  /-- The headroom baseline, mV (persistent) (18 R510). -/
  headBase : Option Nat
  /-- The ring oscillator's first measurement, kHz (persistent) (18 R508,R510). -/
  ringBase : Option Nat
  /-- The ring oscillator's slowdown, per mille (18 R508). -/
  ringSlow : Int
  deriving DecidableEq, Repr

/-- IslandSupply at reset, as the rules named at its fields give it. -/
def IslandSupply.reset : IslandSupply where
  mv := 0
  offset := 0
  mv19 := 0
  droops := 0
  ev20At := none
  regAt := 0
  lowSince := none
  exhausted := false
  headSum := 0
  headN := 0
  headroom := none
  headBase := none
  ringBase := none
  ringSlow := 0

/-- Power domains, island supplies and temperature sensors. -/
structure Pwr where
  /-- The domains not at rest in off (18 R498,R499). -/
  doms : Tab Dom
  /-- Chip time of the latest switch-on start (18 R499). -/
  lastOn : Option (BitVec 64)
  /-- The island supplies not at reset, by index of R501 (18 R501). -/
  islands : Tab IslandSupply
  /-- The last samples of S0-S5, D1, D2 in 0.125 C (18 R505). -/
  temps : List Int
  /-- OD 0x6320.06 (18 R518). -/
  sensorOk : BitVec 8
  /-- Chip time of each sensor's last sample (18 R505). -/
  tempAt : List (BitVec 64)
  /-- The sensors with a sample since reset, which the next is compared with (18 R507). -/
  sampled : BitVec 8
  /-- A hardware thermal warning is in force: the principal cluster clock is halved and PD29 is
  held off (18 R506). -/
  hwWarn : Bool
  /-- OD 0x6320.05 (persistent) (18 R518). -/
  peakDie : Int
  deriving DecidableEq, Repr

/-- Pwr at reset, as the rules named at its fields give it (values of log 8, 9 where the spec
gives none). -/
def Pwr.reset : Pwr where
  doms := [(0, { state := .on, wantOn := false, wantOff := false, fails := 0, suspended := false, onAt := 0 }), (1, { state := .on, wantOn := false, wantOff := false, fails := 0, suspended := false, onAt := 0 })]
  lastOn := none
  islands := []
  temps := [200, 200, 200, 200, 200, 200, 200, 200]
  sensorOk := 0xFF
  tempAt := [0, 0, 0, 0, 0, 0, 0, 0]
  sampled := 0
  hwWarn := false
  peakDie := 0

/-- A complete head measurement (R508, R509). -/
structure HeadMeas where
  /-- Laser threshold current, 10 uA (18 R514). -/
  thr : Nat
  /-- Writer resistance, 0.01 ohm (18 R514). -/
  writer : Nat
  /-- Reader A resistance, 0.25 ohm (18 R514). -/
  ra : Nat
  /-- Reader B resistance, 0.25 ohm (18 R514). -/
  rb : Nat
  /-- Touchdown power, 0.1 mW (18 R514). -/
  td : Nat
  /-- No step reached the touchdown threshold (18 R509). -/
  above : Bool
  /-- Unsatisfied checks summed over the 1,024 sectors (18 R508). -/
  margin : Nat
  /-- Power-on hours at the measurement (18 R509). -/
  poh : Nat
  deriving DecidableEq, Repr

/-- One head's Report Card (R509-R514). -/
structure HeadCard where
  /-- The latest measurement (18 R509). -/
  latest : Option HeadMeas
  /-- The first complete measurement after fusing (persistent) (18 R510). -/
  baseline : Option HeadMeas
  /-- The health class (persistent) (18 R511). -/
  cls : BitVec 2
  /-- The metric that sets the class (18 R514). -/
  metric : BitVec 8
  /-- Ordered to twin density (persistent) (18 R511). -/
  twin : Bool
  /-- Write-retired by the Report Card (persistent) (18 R511). -/
  retired : Bool
  /-- Not measured within 48 power-on hours of its due time (18 R509). -/
  stale : Bool
  /-- Ticks of laser-on time, counted as laser-on hours (persistent) (18 R514). -/
  laserTicks : Nat
  /-- The measurement of the latest head record, which a reset keeps (persistent) (18 R516). -/
  recorded : Option HeadMeas
  /-- The latest head record (OD 0x6220.02) (18 R517). -/
  record : List Byte
  deriving DecidableEq, Repr

/-- HeadCard at reset, as the rules named at its fields give it. -/
def HeadCard.reset : HeadCard where
  latest := none
  baseline := none
  cls := 0
  metric := 0
  twin := false
  retired := false
  stale := false
  laserTicks := 0
  recorded := none
  record := []

/-- The Report Card. -/
structure Rc where
  /-- The heads' cards by actuator * 32 + head (18 R509). -/
  heads : Tab HeadCard
  /-- The latest spindle current at rated speed, mA (18 R508). -/
  spinRated : Option Nat
  /-- The latest spindle current at CRUISE_MIN, mA (18 R508). -/
  spinMin : Option Nat
  /-- The baseline of the current at rated speed, mA (persistent) (18 R512). -/
  spinBase : Option Nat
  /-- Power-on hours at the last measurement at rated speed (18 R508). -/
  ratedPoh : Option Nat
  /-- Power-on hours at the last measurement at CRUISE_MIN (18 R508). -/
  minPoh : Option Nat
  /-- The lowest 12 V since the last re-plan, mV (18 R508). -/
  min12 : Nat
  /-- The lowest 5 V since the last re-plan, mV (18 R508). -/
  min5 : Nat
  /-- OV_WARN episodes since the last re-plan (18 R508). -/
  ovEpisodes : Nat
  /-- A re-plan is due, with its trigger code (18 R512,R514). -/
  trigger : Option (BitVec 3)
  /-- Power-on hours at the last re-plan (persistent) (18 R517). -/
  lastReplan : Nat
  /-- OD 0x6200.07 (persistent) (18 R515). -/
  pctUsed : BitVec 8
  /-- Power-on hours of the drive's life (persistent) (18 R508,R512). -/
  poh : Nat
  /-- Chip time up to which poh is counted (18 R512). -/
  pohBase : BitVec 64
  /-- The latest summary record (OD 0x6230.01) (18 R517). -/
  summary : List Byte
  deriving DecidableEq, Repr

/-- Rc at reset, as the rules named at its fields give it (values of log 8, 9 where the spec gives
none). -/
def Rc.reset : Rc where
  heads := []
  spinRated := none
  spinMin := none
  spinBase := none
  ratedPoh := none
  minPoh := none
  min12 := 12000
  min5 := 5000
  ovEpisodes := 0
  trigger := none
  lastReplan := 0
  pctUsed := 0
  poh := 0
  pohBase := 0
  summary := []

/-- The event controller. -/
structure Evc where
  /-- EVC_PENDw, bit e for event e (19 R522,R531). -/
  pend : BitVec 352
  /-- EVC_OVRw, bit e for event e (19 R522,R531). -/
  ovr : BitVec 352
  /-- EVC_QUALe by event (unlisted 0) (19 R522,R531). -/
  qual : Tab (BitVec 32)
  /-- EVC_ENc,w by target c = 0-4 (unlisted 0) (19 R524,R531). -/
  en : Tab (BitVec 352)
  /-- EVC_V_EN of each actuator's view page (19 R526,R532). -/
  vEn : Four (BitVec 28)
  /-- EVC_FLAGS.BAD_EVENT (19 R522,R531). -/
  badEvent : Bool
  /-- EVC_GPIO_EDGE, two bits per GPIO (19 R529,R531). -/
  gpioEdge : BitVec 32
  /-- EVC_GPIO_LEVEL, the filtered levels (19 R529,R531). -/
  gpioLevel : BitVec 16
  deriving DecidableEq, Repr

/-- Evc at reset, as the rules named at its fields give it (values of log 5 where the spec gives
none). -/
def Evc.reset : Evc where
  pend := 0
  ovr := 0
  qual := []
  en := []
  vEn := Four.all 0
  badEvent := false
  gpioEdge := 0
  gpioLevel := 0

/-- One of TIM0-TIM15 (R527, R528, R533). -/
structure Timer where
  /-- TIM_CTL.RUN: running or armed (19 R533). -/
  run : Bool
  /-- TIM_CTL.MODE (19 R533). -/
  mode : BitVec 2
  /-- TIM_CTL.SRC (19 R533). -/
  src : BitVec 9
  /-- In relay mode, COUNT is loaded and runs (19 R528). -/
  counting : Bool
  /-- Chip time of the RUN, in relay mode of the load: the timer fires at the next tick at the
  earliest (19 R528). -/
  armedAt : BitVec 64
  /-- TIM_RELOAD (19 R533). -/
  reload : BitVec 32
  /-- TIM_COUNT (19 R533). -/
  count : BitVec 32
  /-- TIM_AT_HI and TIM_AT_LO (19 R533). -/
  atTime : BitVec 64
  /-- TIM_FIRES (19 R533). -/
  fires : BitVec 32
  /-- TIM_FLAGS: CONFLICT, MISSED, FIRED (19 R533). -/
  flags : BitVec 3
  deriving DecidableEq, Repr

/-- Timer at reset, as the rules named at its fields give it. -/
def Timer.reset : Timer where
  run := false
  mode := 0
  src := 0
  counting := false
  armedAt := 0
  reload := 0
  count := 0
  atTime := 0
  fires := 0
  flags := 0

/-- Where the UART download stands. (20 R541). -/
inductive UartState where
  /-- No download is served. -/
  | off
  /-- Step 1: 0x43 once per second. -/
  | prompting
  /-- Blocks are arriving. -/
  | receiving
  deriving DecidableEq, Repr

/-- Ports, straps, UART download and JTAG. -/
structure Ports where
  /-- The UART download (20 R541). -/
  uart : UartState
  /-- The sequence byte the next new block carries (20 R541). -/
  uartSeq : BitVec 8
  /-- The sequence byte of the last block taken (20 R541). -/
  uartLast : Option (BitVec 8)
  /-- Chip time of the last prompt sent or, once blocks arrive, of the last byte (20 R541). -/
  uartAt : Option (BitVec 64)
  /-- The image bytes taken so far (20 R541). -/
  uartImage : List Byte
  /-- The bytes the device has sent, oldest first (output) (20 R541). -/
  uartTx : List Byte
  /-- LED_ACT is on (20 R539). -/
  ledAct : Bool
  /-- Chip time at which the latest media operation started (20 R539). -/
  ledAt : BitVec 64
  /-- The instruction the TAP selects; Test-Logic-Reset selects IDCODE (IEEE 1149.1) (20
  R539,R557). -/
  jtag : JtagIr
  /-- PERST# is asserted (input) (12 R366). -/
  perst : Bool
  /-- PS.PFAIL, the power-loss comparator input (input) (02 R57). -/
  plComp : Bool
  /-- PWRDIS (input) (02 R57). -/
  pwrdis : Bool
  deriving DecidableEq, Repr

/-- Ports at reset, as the rules named at its fields give it (values of log 8 where the spec gives
none). -/
def Ports.reset : Ports where
  uart := .off
  uartSeq := 0
  uartLast := none
  uartAt := none
  uartImage := []
  uartTx := []
  ledAct := false
  ledAt := 0
  jtag := .idcode
  perst := true
  plComp := false
  pwrdis := false

/-- Everything that stands once per actuator (R2). -/
structure Act where
  /-- Island control (05 R148). -/
  isl : Isl
  /-- Demodulator (05 R138). -/
  svd : Svd
  /-- Motion sensing (05 R146). -/
  msn : Msn
  /-- VCM command link (05 R134). -/
  vcm : Vcm
  /-- Feed-forward mailboxes by sender (01 R32). -/
  mbx : Four Mailbox
  /-- Servo engine (06 R195). -/
  sve : Sve
  /-- Profile generator (06 R198). -/
  svp : Svp
  /-- Test-signal injector (06 R198). -/
  svi : Svi
  /-- Correlation accumulators (06 R199). -/
  svc : Svc
  /-- Chalkboard (06 R199). -/
  svb : Svb
  /-- Read channel (07 R231). -/
  rch : Rch
  /-- Write path (09 R293). -/
  wp : Wp
  /-- PSC link (09 R296). -/
  psc : Psc
  /-- The compatible preamplifier (09 R284). -/
  pre : Preamp
  deriving DecidableEq, Repr

/-- Act at reset, as the rules named at its fields give it. -/
def Act.reset : Act where
  isl := Isl.reset
  svd := Svd.reset
  msn := Msn.reset
  vcm := Vcm.reset
  mbx := Four.all Mailbox.reset
  sve := Sve.reset
  svp := Svp.reset
  svi := Svi.reset
  svc := Svc.reset
  svb := Svb.reset
  rch := Rch.reset
  wp := Wp.reset
  psc := Psc.reset
  pre := Preamp.reset

/-- The whole machine: everything the spec names, the counter of free values (log 15) and the
commands that wait (log 2). -/
structure State where
  /-- Fuses and straps. -/
  ident : Ident
  /-- Kyomos, chip time and memory (01). -/
  fab : Fab
  /-- Modes and bring-up (02). -/
  sys : Sys
  /-- The object dictionary (03). -/
  dict : Dict
  /-- Spindle control (04). -/
  spn : Spn
  /-- The four actuators (05 to 09). -/
  acts : Four Act
  /-- The decoder pool (07). -/
  pool : Pool
  /-- The recovery ladders and the Detention list (08). -/
  recov : Rec
  /-- Placement (10). -/
  plc : Plc
  /-- The Timetable (11). -/
  tt : Tt
  /-- The host interface (12). -/
  nvme : Nvme
  /-- The memory controller (13). -/
  dramc : Dramc
  /-- The scrubber (13). -/
  scr : Scr
  /-- The buffer cache (13). -/
  buf : Buf
  /-- The cipher engine (14). -/
  ciph : Ciph
  /-- The DMA engine (15). -/
  dma : Dma
  /-- The Hall Monitor (16). -/
  hm : Hm
  /-- The Yearbook (17). -/
  yb : Yb
  /-- Power domains, supplies and sensors (18). -/
  pwr : Pwr
  /-- The Report Card (18). -/
  rc : Rc
  /-- The event controller (19). -/
  evc : Evc
  /-- The timers that are not at reset, by number (19). -/
  tims : Tab Timer
  /-- Ports, UART and JTAG (20). -/
  ports : Ports
  /-- The model's own: the index of the next free value (log 15). -/
  free : Nat
  /-- The commands that wait, first in first out (log 2). -/
  pending : List Instr
  deriving DecidableEq, Repr

/-- The machine before its first power-on reset: every field at the value the spec states for
reset, memory with nothing listed, and the values of log 5 to 9 where the spec states none. -/
def State.reset : State where
  ident := Ident.reset
  fab := Fab.reset
  sys := Sys.reset
  dict := Dict.reset
  spn := Spn.reset
  acts := Four.all Act.reset
  pool := Pool.reset
  recov := Rec.reset
  plc := Plc.reset
  tt := Tt.reset
  nvme := Nvme.reset
  dramc := Dramc.reset
  scr := Scr.reset
  buf := Buf.reset
  ciph := Ciph.reset
  dma := Dma.reset
  hm := Hm.reset
  yb := Yb.reset
  pwr := Pwr.reset
  rc := Rc.reset
  evc := Evc.reset
  tims := []
  ports := Ports.reset
  free := 0
  pending := []

end Sys2Proof.Machine
end

