-- ==== Sys2Proof/Machine/Update.lean ====
section
/-! DEFINITION. One update function per field of `State` and per block of an actuator, through
which every meaning writes the state. -/

namespace Sys2Proof

/-- The member of a `Four` for an actuator. -/
def Four.get {α : Type} (v : Four α) (a : Fin 4) : α :=
  match a with
  | 0 => v.a0
  | 1 => v.a1
  | 2 => v.a2
  | 3 => v.a3

/-- A `Four` with one member replaced. -/
def Four.set {α : Type} (v : Four α) (a : Fin 4) (x : α) : Four α :=
  match a with
  | 0 => { v with a0 := x }
  | 1 => { v with a1 := x }
  | 2 => { v with a2 := x }
  | 3 => { v with a3 := x }

end Sys2Proof

namespace Sys2Proof.Machine

open Sys2Proof

/-- Update of `ident`. -/
def State.onIdent (f : Ident → Ident) (s : State) : State := { s with ident := f s.ident }

/-- Update of `fab`. -/
def State.onFab (f : Fab → Fab) (s : State) : State := { s with fab := f s.fab }

/-- Update of `sys`. -/
def State.onSys (f : Sys → Sys) (s : State) : State := { s with sys := f s.sys }

/-- Update of `dict`. -/
def State.onDict (f : Dict → Dict) (s : State) : State := { s with dict := f s.dict }

/-- Update of `spn`. -/
def State.onSpn (f : Spn → Spn) (s : State) : State := { s with spn := f s.spn }

/-- Update of `acts`. -/
def State.onActs (f : (Four Act) → (Four Act)) (s : State) : State := { s with acts := f s.acts }

/-- Update of `pool`. -/
def State.onPool (f : Pool → Pool) (s : State) : State := { s with pool := f s.pool }

/-- Update of `recov`. -/
def State.onRecov (f : Rec → Rec) (s : State) : State := { s with recov := f s.recov }

/-- Update of `plc`. -/
def State.onPlc (f : Plc → Plc) (s : State) : State := { s with plc := f s.plc }

/-- Update of `tt`. -/
def State.onTt (f : Tt → Tt) (s : State) : State := { s with tt := f s.tt }

/-- Update of `nvme`. -/
def State.onNvme (f : Nvme → Nvme) (s : State) : State := { s with nvme := f s.nvme }

/-- Update of `dramc`. -/
def State.onDramc (f : Dramc → Dramc) (s : State) : State := { s with dramc := f s.dramc }

/-- Update of `scr`. -/
def State.onScr (f : Scr → Scr) (s : State) : State := { s with scr := f s.scr }

/-- Update of `buf`. -/
def State.onBuf (f : Buf → Buf) (s : State) : State := { s with buf := f s.buf }

/-- Update of `ciph`. -/
def State.onCiph (f : Ciph → Ciph) (s : State) : State := { s with ciph := f s.ciph }

/-- Update of `dma`. -/
def State.onDma (f : Dma → Dma) (s : State) : State := { s with dma := f s.dma }

/-- Update of `hm`. -/
def State.onHm (f : Hm → Hm) (s : State) : State := { s with hm := f s.hm }

/-- Update of `yb`. -/
def State.onYb (f : Yb → Yb) (s : State) : State := { s with yb := f s.yb }

/-- Update of `pwr`. -/
def State.onPwr (f : Pwr → Pwr) (s : State) : State := { s with pwr := f s.pwr }

/-- Update of `rc`. -/
def State.onRc (f : Rc → Rc) (s : State) : State := { s with rc := f s.rc }

/-- Update of `evc`. -/
def State.onEvc (f : Evc → Evc) (s : State) : State := { s with evc := f s.evc }

/-- Update of `tims`. -/
def State.onTims (f : (Tab Timer) → (Tab Timer)) (s : State) : State := { s with tims := f s.tims }

/-- Update of `ports`. -/
def State.onPorts (f : Ports → Ports) (s : State) : State := { s with ports := f s.ports }

/-- Update of one actuator. -/
def State.onAct (a : Fin 4) (f : Act → Act) (s : State) : State :=
  { s with acts := s.acts.set a (f (s.acts.get a)) }

/-- One actuator. -/
def State.act (s : State) (a : Fin 4) : Act := s.acts.get a

/-- Update of `isl` of an actuator. -/
def State.onIsl (a : Fin 4) (f : Isl → Isl) (s : State) : State :=
  s.onAct a fun x => { x with isl := f x.isl }

/-- Update of `svd` of an actuator. -/
def State.onSvd (a : Fin 4) (f : Svd → Svd) (s : State) : State :=
  s.onAct a fun x => { x with svd := f x.svd }

/-- Update of `msn` of an actuator. -/
def State.onMsn (a : Fin 4) (f : Msn → Msn) (s : State) : State :=
  s.onAct a fun x => { x with msn := f x.msn }

/-- Update of `vcm` of an actuator. -/
def State.onVcm (a : Fin 4) (f : Vcm → Vcm) (s : State) : State :=
  s.onAct a fun x => { x with vcm := f x.vcm }

/-- Update of `mbx` of an actuator. -/
def State.onMbx (a : Fin 4) (f : (Four Mailbox) → (Four Mailbox)) (s : State) : State :=
  s.onAct a fun x => { x with mbx := f x.mbx }

/-- Update of `sve` of an actuator. -/
def State.onSve (a : Fin 4) (f : Sve → Sve) (s : State) : State :=
  s.onAct a fun x => { x with sve := f x.sve }

/-- Update of `svp` of an actuator. -/
def State.onSvp (a : Fin 4) (f : Svp → Svp) (s : State) : State :=
  s.onAct a fun x => { x with svp := f x.svp }

/-- Update of `svi` of an actuator. -/
def State.onSvi (a : Fin 4) (f : Svi → Svi) (s : State) : State :=
  s.onAct a fun x => { x with svi := f x.svi }

/-- Update of `svc` of an actuator. -/
def State.onSvc (a : Fin 4) (f : Svc → Svc) (s : State) : State :=
  s.onAct a fun x => { x with svc := f x.svc }

/-- Update of `svb` of an actuator. -/
def State.onSvb (a : Fin 4) (f : Svb → Svb) (s : State) : State :=
  s.onAct a fun x => { x with svb := f x.svb }

/-- Update of `rch` of an actuator. -/
def State.onRch (a : Fin 4) (f : Rch → Rch) (s : State) : State :=
  s.onAct a fun x => { x with rch := f x.rch }

/-- Update of `wp` of an actuator. -/
def State.onWp (a : Fin 4) (f : Wp → Wp) (s : State) : State :=
  s.onAct a fun x => { x with wp := f x.wp }

/-- Update of `psc` of an actuator. -/
def State.onPsc (a : Fin 4) (f : Psc → Psc) (s : State) : State :=
  s.onAct a fun x => { x with psc := f x.psc }

/-- Update of `pre` of an actuator. -/
def State.onPre (a : Fin 4) (f : Preamp → Preamp) (s : State) : State :=
  s.onAct a fun x => { x with pre := f x.pre }

end Sys2Proof.Machine
end

