-- ==== Sys2Proof/Machine/Tab.lean ====
section
/-! DEFINITION. Sparse tables, memory cells and the bit-field and byte-order helpers that every
meaning uses. A table and a memory are kept in rising order with no number twice; a memory lists no
byte equal to what an unlisted address reads as. -/

namespace Sys2Proof

/-- The entry of a table. -/
def Tab.get? {α : Type} : Tab α → Nat → Option α
  | [], _ => none
  | (j, v) :: r, k => if j = k then some v else Tab.get? r k

/-- The entry of a table, or what an unlisted entry stands for. -/
def Tab.getD {α : Type} (t : Tab α) (k : Nat) (d : α) : α := (Tab.get? t k).getD d

/-- A table with one entry set. -/
def Tab.set {α : Type} : Tab α → Nat → α → Tab α
  | [], k, v => [(k, v)]
  | (j, w) :: r, k, v =>
    if k < j then (k, v) :: (j, w) :: r
    else if k = j then (k, v) :: r
    else (j, w) :: Tab.set r k v

/-- A table without one entry. -/
def Tab.del {α : Type} : Tab α → Nat → Tab α
  | [], _ => []
  | (j, w) :: r, k => if j = k then r else (j, w) :: Tab.del r k

/-- A table with one entry set, where an entry equal to `d` is not listed. -/
def Tab.put {α : Type} [DecidableEq α] (t : Tab α) (k : Nat) (v d : α) : Tab α :=
  if v = d then Tab.del t k else Tab.set t k v

/-- Whether the numbers of a table rise strictly. -/
def Tab.rising {α : Type} : Tab α → Bool
  | [] => true
  | [_] => true
  | (j, _) :: (k, w) :: r => decide (j < k) && Tab.rising ((k, w) :: r)

/-- Replace each entry of a table. -/
def Tab.map {α β : Type} (f : Nat → α → β) : Tab α → Tab β
  | [] => []
  | (j, w) :: r => (j, f j w) :: Tab.map f r

/-- The element of a list at a place, or a value for a place outside it. -/
def nth {α : Type} (l : List α) (n : Nat) (d : α) : α := (l[n]?).getD d

/-- A list with the element at a place replaced; unchanged for a place outside it. -/
def setNth {α : Type} : List α → Nat → α → List α
  | [], _, _ => []
  | _ :: r, 0, v => v :: r
  | x :: r, n + 1, v => x :: setNth r n v

/-- The first element that meets a condition replaced. -/
def mapFirst {α : Type} (p : α → Bool) (f : α → α) : List α → List α
  | [] => []
  | x :: r => if p x then f x :: r else x :: mapFirst p f r

/-- A list without the first element that meets a condition. -/
def dropFirst {α : Type} (p : α → Bool) : List α → List α
  | [] => []
  | x :: r => if p x then r else x :: dropFirst p r

/-- The last so many elements of a list. -/
def lastN {α : Type} (n : Nat) (l : List α) : List α := l.drop (l.length - n)

/-- Fold a state through a list. -/
def foldS {α σ : Type} (f : α → σ → σ) : List α → σ → σ
  | [], s => s
  | x :: r, s => foldS f r (f x s)

/-- The field of a number with bit `lo` as its lowest bit and `w` bits. -/
def fld (v lo w : Nat) : Nat := (v / 2 ^ lo) % 2 ^ w

/-- A bit of a number. -/
def bitOf (v n : Nat) : Bool := fld v n 1 == 1

/-- A truth value as a number. -/
def b2n (b : Bool) : Nat := if b then 1 else 0

/-- A number with a bit set or cleared. -/
def withBit (v n : Nat) (b : Bool) : Nat := v - b2n (bitOf v n) * 2 ^ n + b2n b * 2 ^ n

/-- A bit vector with one bit set or cleared. -/
def setBit {w : Nat} (v : BitVec w) (n : Nat) (b : Bool) : BitVec w :=
  if b then v ||| BitVec.ofNat w (2 ^ n) else v &&& ~~~ (BitVec.ofNat w (2 ^ n))

/-- The mask of one bit. -/
def bitMask (w n : Nat) : BitVec w := BitVec.ofNat w (2 ^ n)

/-- The bytes of a number, least significant first. -/
def leBytes : Nat → Nat → List Byte
  | 0, _ => []
  | n + 1, v => BitVec.ofNat 8 v :: leBytes n (v / 256)

/-- The number that bytes give, least significant first. -/
def leNat : List Byte → Nat
  | [] => 0
  | b :: r => b.toNat + 256 * leNat r

/-- The bytes of a number, most significant first. -/
def beBytes (n v : Nat) : List Byte := (leBytes n v).reverse

/-- The number that bytes give, most significant first. -/
def beNat (l : List Byte) : Nat := leNat l.reverse

/-- A list cut or padded to a length. -/
def padTo {α : Type} (n : Nat) (d : α) (l : List α) : List α :=
  l.take n ++ List.replicate (n - l.length) d

/-- The characters of an ASCII string as bytes. -/
def asciiBytes (t : String) : List Byte := t.toList.map fun c => BitVec.ofNat 8 c.toNat

/-- Memory: one byte. -/
def memByte (m : List Host.Cell) (a : Nat) : Byte := Tab.getD m a 0

/-- Memory: so many bytes from an address upward. -/
def memRead (m : List Host.Cell) (a : Nat) : Nat → List Byte
  | 0 => []
  | n + 1 => memByte m a :: memRead m (a + 1) n

/-- Memory with one byte written, kept in its canonical form. -/
def memPut (m : List Host.Cell) (a : Nat) (b : Byte) : List Host.Cell := Tab.put m a b 0

/-- Memory with bytes written from an address upward. -/
def memWrite (m : List Host.Cell) (a : Nat) : List Byte → List Host.Cell
  | [] => m
  | b :: r => memWrite (memPut m a b) (a + 1) r

/-- Memory without the bytes of a range: they read as unlisted bytes do. -/
def memClear (m : List Host.Cell) (lo hi : Nat) : List Host.Cell :=
  m.filter fun c => decide (c.1 < lo) || decide (hi ≤ c.1)

/-- Whether no listed byte equals what an unlisted one reads as. -/
def noZero : List Host.Cell → Bool
  | [] => true
  | (_, b) :: r => decide (b ≠ 0) && noZero r

/-- The canonical form of a memory. -/
def Memory.wf (m : List Host.Cell) : Bool := Tab.rising m && noZero m

/-- The remainder of a byte string under a CRC of `w` bits, most significant bit first, neither
input nor output reflected: one bit. -/
def crcBit (w poly reg : Nat) (b : Bool) : Nat :=
  let top := bitOf reg (w - 1)
  let sh := (reg * 2) % 2 ^ w
  if top != b then sh ^^^ poly else sh

/-- The register of a CRC after the bits of a list. -/
def crcBits (w poly : Nat) : Nat → List Bool → Nat
  | reg, [] => reg
  | reg, b :: r => crcBits w poly (crcBit w poly reg b) r

/-- The bits of a number, most significant first. -/
def msbBits : Nat → Nat → List Bool
  | 0, _ => []
  | n + 1, v => bitOf v n :: msbBits n v

/-- The register of a CRC after bytes, each most significant bit first. -/
def crcBytes (w poly reg : Nat) (l : List Byte) : Nat :=
  crcBits w poly reg (l.flatMap fun b => msbBits 8 b.toNat)

/-- A signed field of a number. -/
def sfld (v lo w : Nat) : Int :=
  let x := fld v lo w
  if x < 2 ^ (w - 1) then (x : Int) else (x : Int) - (2 ^ w : Nat)

/-- An integer held within bounds. -/
def clampInt (lo hi x : Int) : Int := if x < lo then lo else if hi < x then hi else x

end Sys2Proof
end

