-- ==== Sys2Proof/Machine/Float.lean ====
section
/-! DEFINITION. Binary32 arithmetic on bit patterns, as the servo engine's rule gives it (06 R164):
round to nearest even, subnormal operands read as zero, subnormal results flushed, one quiet NaN.
The model uses it wherever the spec computes with F32 values (log 12). -/

namespace Sys2Proof

/-- The quiet NaN (R164). -/
def fNaN : F32 := 0x7FC00000

/-- Sign bit. -/
def fNeg (x : F32) : Bool := x.getLsbD 31

/-- Whether a pattern is a NaN. -/
def fIsNaN (x : F32) : Bool := decide (x.toNat % 2 ^ 31 > 0x7F800000)

/-- Whether a pattern is an infinity. -/
def fIsInf (x : F32) : Bool := decide (x.toNat % 2 ^ 31 = 0x7F800000)

/-- Whether a pattern is neither a NaN nor an infinity. -/
def fFinite (x : F32) : Bool := decide (x.toNat % 2 ^ 31 < 0x7F800000)

/-- Zero of a sign. -/
def fZero (neg : Bool) : F32 := if neg then 0x80000000 else 0

/-- Infinity of a sign. -/
def fInf (neg : Bool) : F32 := if neg then 0xFF800000 else 0x7F800000

/-- The significand of a finite normal pattern as a whole number. -/
def fSig (x : F32) : Nat := 2 ^ 23 + x.toNat % 2 ^ 23

/-- The exponent of the significand's lowest bit. -/
def fExp (x : F32) : Int := ((x.toNat / 2 ^ 23 % 256 : Nat) : Int) - 150

/-- The magnitude of a finite pattern as a whole number of 2^-150; zero for a subnormal (R164). -/
def fMag (x : F32) : Nat :=
  let v := x.toNat % 2 ^ 31
  let e := v / 2 ^ 23
  if e = 0 then 0 else (2 ^ 23 + v % 2 ^ 23) * 2 ^ e

/-- The value of a finite pattern in units of 2^-150. -/
def fVal (x : F32) : Int := if fNeg x then -(fMag x : Int) else (fMag x : Int)

/-- Whether a pattern is read as zero (R164). -/
def fIsZero (x : F32) : Bool := decide (x.toNat % 2 ^ 31 < 2 ^ 23)

/-- The pattern nearest to `m * 2^e`, ties to even; `sticky` says that the exact value lies above
`m * 2^e` by less than one unit of `m`. A result below 2^-126 after rounding is flushed. -/
def fRound (neg : Bool) (m : Nat) (e : Int) (sticky : Bool) : F32 :=
  if m = 0 then fZero neg
  else
    let l := Nat.log2 m
    let q :=
      if l ≤ 23 then m * 2 ^ (23 - l)
      else
        let sh := l - 23
        let lo := m % 2 ^ sh
        let half := 2 ^ (sh - 1)
        let base := m / 2 ^ sh
        if lo > half || (lo = half && (sticky || base % 2 = 1)) then base + 1 else base
    let ex : Int := e + l
    let carry := decide (q = 2 ^ 24)
    let ex' := if carry then ex + 1 else ex
    let frac := if carry then 0 else q - 2 ^ 23
    if ex' < -126 then fZero neg
    else if ex' > 127 then fInf neg
    else BitVec.ofNat 32 ((if neg then 2 ^ 31 else 0) + (ex' + 127).toNat * 2 ^ 23 + frac)

/-- The pattern nearest to a whole number of `2^e`; `negZero` is the sign of a zero result. -/
def fOfInt (v : Int) (e : Int) (negZero : Bool) : F32 :=
  if v = 0 then fZero negZero else fRound (decide (v < 0)) v.natAbs e false

/-- Sum. -/
def fAdd (x y : F32) : F32 :=
  if fIsNaN x || fIsNaN y then fNaN
  else if fIsInf x then (if fIsInf y && fNeg x != fNeg y then fNaN else x)
  else if fIsInf y then y
  else fOfInt (fVal x + fVal y) (-150) (fNeg x && fNeg y)

/-- A pattern with its sign inverted. -/
def fNegate (x : F32) : F32 := x ^^^ 0x80000000

/-- A pattern with its sign cleared. -/
def fAbs (x : F32) : F32 := x &&& 0x7FFFFFFF

/-- Difference. -/
def fSub (x y : F32) : F32 := fAdd x (fNegate y)

/-- Product. -/
def fMul (x y : F32) : F32 :=
  let neg := fNeg x != fNeg y
  if fIsNaN x || fIsNaN y then fNaN
  else if fIsInf x || fIsInf y then (if fIsZero x || fIsZero y then fNaN else fInf neg)
  else if fIsZero x || fIsZero y then fZero neg
  else fRound neg (fSig x * fSig y) (fExp x + fExp y) false

/-- `z + x * y`, rounded once. -/
def fFma (x y z : F32) : F32 :=
  let neg := fNeg x != fNeg y
  if fIsNaN x || fIsNaN y || fIsNaN z then fNaN
  else if fIsInf x || fIsInf y then
    if fIsZero x || fIsZero y then fNaN
    else if fIsInf z && fNeg z != neg then fNaN else fInf neg
  else if fIsInf z then z
  else
    let p : Int := fVal x * fVal y
    fOfInt (p + fVal z * 2 ^ 150) (-300) (neg && fNeg z)

/-- Quotient, correctly rounded. -/
def fDiv (x y : F32) : F32 :=
  let neg := fNeg x != fNeg y
  if fIsNaN x || fIsNaN y then fNaN
  else if fIsInf x then (if fIsInf y then fNaN else fInf neg)
  else if fIsInf y then fZero neg
  else if fIsZero y then (if fIsZero x then fNaN else fInf neg)
  else if fIsZero x then fZero neg
  else
    let n := fSig x * 2 ^ 30
    let d := fSig y
    fRound neg (n / d) (fExp x - fExp y - 30) (decide (n % d ≠ 0))

/-- Reciprocal, correctly rounded. -/
def fRcp (x : F32) : F32 := fDiv 0x3F800000 x

/-- The integer square root of a number, by so many halvings. -/
def isqrtGo (n : Nat) : Nat → Nat → Nat → Nat
  | 0, lo, _ => lo
  | k + 1, lo, hi =>
    let mid := (lo + hi) / 2
    if mid * mid ≤ n then isqrtGo n k mid hi else isqrtGo n k lo mid

/-- The largest number whose square is at most `n`. -/
def isqrt (n : Nat) : Nat := isqrtGo n (Nat.log2 n + 2) 0 (n + 1)

/-- Square root, correctly rounded. -/
def fSqrt (x : F32) : F32 :=
  if fIsNaN x then fNaN
  else if fIsZero x then fZero (fNeg x)
  else if fNeg x then fNaN
  else if fIsInf x then x
  else
    let odd := decide ((fExp x).toNat % 2 = 1 ∨ (-(fExp x)).toNat % 2 = 1)
    let n := fSig x * 2 ^ 40 * (if odd then 2 else 1)
    let e := (fExp x - (if odd then 1 else 0)) / 2 - 20
    let r := isqrt n
    fRound false r e (decide (r * r ≠ n))

/-- `x < y`; false with a NaN. -/
def fLt (x y : F32) : Bool :=
  if fIsNaN x || fIsNaN y then false
  else if fIsInf x then fNeg x && !(fIsInf y && fNeg y)
  else if fIsInf y then !fNeg y
  else decide (fVal x < fVal y)

/-- `x = y` as numbers; false with a NaN. -/
def fEq (x y : F32) : Bool :=
  !fIsNaN x && !fIsNaN y && !fLt x y && !fLt y x

/-- `x ≤ y`; false with a NaN. -/
def fLe (x y : F32) : Bool := fLt x y || fEq x y

/-- A pattern as an operand is read: a subnormal as zero of its sign (R164). -/
def fRead (x : F32) : F32 := if fIsZero x then fZero (fNeg x) else x

/-- Minimum: NaN if either is NaN, and -0.0 of two zeros with different signs (R164, R168). -/
def fMin (x y : F32) : F32 :=
  if fIsNaN x || fIsNaN y then fNaN
  else if fIsZero x && fIsZero y then fZero (fNeg x || fNeg y)
  else if fLt y x then fRead y else fRead x

/-- Maximum: NaN if either is NaN, and +0.0 of two zeros with different signs (R164, R168). -/
def fMax (x y : F32) : F32 :=
  if fIsNaN x || fIsNaN y then fNaN
  else if fIsZero x && fIsZero y then fZero (fNeg x && fNeg y)
  else if fLt x y then fRead y else fRead x

/-- A value held between bounds. -/
def fClamp (lo hi x : F32) : F32 := fMin (fMax x lo) hi

/-- A natural number as binary32. -/
def fOfNat (n : Nat) : F32 := fOfInt (n : Int) 0 false

/-- An integer as binary32. -/
def fOfZ (n : Int) : F32 := fOfInt n 0 false

/-- `n / d` as binary32, rounded once. -/
def fRat (n : Int) (d : Nat) : F32 :=
  if d = 0 then fNaN
  else if n = 0 then 0
  else
    let k := Nat.log2 d + 40
    fRound (decide (n < 0)) (n.natAbs * 2 ^ k / d) (-(k : Int))
      (decide (n.natAbs * 2 ^ k % d ≠ 0))

/-- The integer nearest to a finite value, ties to even. -/
def fNearest (x : F32) : Int :=
  let v : Nat := fMag x
  let q : Nat := v / 2 ^ 150
  let r : Nat := v % 2 ^ 150
  let n : Nat := if r > 2 ^ 149 || (r = 2 ^ 149 && q % 2 = 1) then q + 1 else q
  if fNeg x then -(Int.ofNat n) else Int.ofNat n

/-- The largest integer not above a finite value. -/
def fFloor (x : F32) : Int :=
  let v : Nat := fMag x
  let q : Nat := v / 2 ^ 150
  if fNeg x then (if v % 2 ^ 150 = 0 then -(Int.ofNat q) else -(Int.ofNat q) - 1) else Int.ofNat q

/-- `z + (u - i) * y`, the difference exact and the result rounded once, for a finite u (06 R170). -/
def fFmaFrac (u : F32) (i : Int) (y z : F32) : F32 :=
  let f : Int := fVal u - i * 2 ^ 150
  if fIsNaN y || fIsNaN z then fNaN
  else if fIsInf y then
    if f = 0 then fNaN
    else
      let neg := decide (f < 0) != fNeg y
      if fIsInf z && fNeg z != neg then fNaN else fInf neg
  else if fIsInf z then z
  else fOfInt (f * fVal y + fVal z * 2 ^ 150) (-300) ((decide (f < 0) != fNeg y) && fNeg z)

/-- A value to the nearest integer within bounds, as FTOI and the output stages round it: ties to
even, saturating, a NaN as zero. -/
def fToInt (lo hi : Int) (x : F32) : Int :=
  if fIsNaN x then 0
  else if fIsInf x then (if fNeg x then lo else hi)
  else clampInt lo hi (fNearest x)

/-- A finite value as a whole number of `1 / d`, rounded down in magnitude; infinities and NaN give
zero. -/
def fToNat (d : Nat) (x : F32) : Nat :=
  if fFinite x && !fNeg x then fMag x * d / 2 ^ 150 else 0

end Sys2Proof
end

