-- ==== Sys2Proof/Machine/Double.lean ====
section
/-! DEFINITION. Binary64 arithmetic on bit patterns, round to nearest even with subnormals: the profile
generator and the correlation accumulators compute in it (06 R187, R191). -/

namespace Sys2Proof

/-- A quiet NaN of binary64. -/
def dNaN : BitVec 64 := 0x7FF8000000000000

/-- Sign bit. -/
def dNeg (x : BitVec 64) : Bool := x.getLsbD 63

/-- Whether a pattern is a NaN. -/
def dIsNaN (x : BitVec 64) : Bool := decide (x.toNat % 2 ^ 63 > 0x7FF0000000000000)

/-- Whether a pattern is an infinity. -/
def dIsInf (x : BitVec 64) : Bool := decide (x.toNat % 2 ^ 63 = 0x7FF0000000000000)

/-- The magnitude of a finite pattern as a whole number of 2^-1074. -/
def dMag (x : BitVec 64) : Nat :=
  let v := x.toNat % 2 ^ 63
  let e := v / 2 ^ 52
  if e = 0 then v else (2 ^ 52 + v % 2 ^ 52) * 2 ^ (e - 1)

/-- The value of a finite pattern in units of 2^-1074. -/
def dVal (x : BitVec 64) : Int := if dNeg x then -(dMag x : Int) else (dMag x : Int)

/-- The pattern nearest to `m * 2^e`, ties to even; `sticky` says that the exact value lies above
`m * 2^e` by less than one unit of `m`. -/
def dRound (neg : Bool) (m : Nat) (e : Int) (sticky : Bool) : BitVec 64 :=
  let sign := if neg then 2 ^ 63 else 0
  if m = 0 then BitVec.ofNat 64 sign
  else
    let unit : Int := max (e + Nat.log2 m - 52) (-1074)
    let q :=
      if unit ≤ e then m * 2 ^ (e - unit).toNat
      else
        let sh := (unit - e).toNat
        let lo := m % 2 ^ sh
        let half := 2 ^ (sh - 1)
        let base := m / 2 ^ sh
        if lo > half || (lo = half && (sticky || base % 2 = 1)) then base + 1 else base
    BitVec.ofNat 64 (sign + min 0x7FF0000000000000 ((unit + 1074).toNat * 2 ^ 52 + q))

/-- The pattern nearest to a whole number of `2^e`; `negZero` is the sign of a zero result. -/
def dOfInt (v : Int) (e : Int) (negZero : Bool) : BitVec 64 :=
  if v = 0 then dRound negZero 0 0 false else dRound (decide (v < 0)) v.natAbs e false

/-- `n / d`, rounded once. -/
def dRat (n : Int) (d : Nat) : BitVec 64 :=
  if d = 0 then dNaN
  else
    let k := Nat.log2 d + 70
    dRound (decide (n < 0)) (n.natAbs * 2 ^ k / d) (-(k : Int)) (decide (n.natAbs * 2 ^ k % d ≠ 0))

/-- Sum. -/
def dAdd (x y : BitVec 64) : BitVec 64 :=
  if dIsNaN x || dIsNaN y then dNaN
  else if dIsInf x then (if dIsInf y && dNeg x != dNeg y then dNaN else x)
  else if dIsInf y then y
  else dOfInt (dVal x + dVal y) (-1074) (dNeg x && dNeg y)

/-- A pattern with its sign inverted. -/
def dNegate (x : BitVec 64) : BitVec 64 := x ^^^ 0x8000000000000000

/-- A pattern with its sign cleared. -/
def dAbs (x : BitVec 64) : BitVec 64 := x &&& 0x7FFFFFFFFFFFFFFF

/-- Difference. -/
def dSub (x y : BitVec 64) : BitVec 64 := dAdd x (dNegate y)

/-- Product. -/
def dMul (x y : BitVec 64) : BitVec 64 :=
  let neg := dNeg x != dNeg y
  if dIsNaN x || dIsNaN y then dNaN
  else if dIsInf x || dIsInf y then
    if dMag x = 0 || dMag y = 0 then dNaN
    else BitVec.ofNat 64 ((if neg then 2 ^ 63 else 0) + 0x7FF0000000000000)
  else dRound neg (dMag x * dMag y) (-2148) false

/-- `x < y`; false with a NaN. An infinity compares by its pattern's magnitude. -/
def dLt (x y : BitVec 64) : Bool :=
  !dIsNaN x && !dIsNaN y && decide (dVal x < dVal y)

/-- `x ≤ y`; false with a NaN. -/
def dLe (x y : BitVec 64) : Bool :=
  !dIsNaN x && !dIsNaN y && decide (dVal x ≤ dVal y)

/-- A binary32 value in binary64, exact; a subnormal is read as zero (R164). -/
def dOfF (x : F32) : BitVec 64 :=
  if fIsNaN x then dNaN
  else if fIsInf x then (if fNeg x then 0xFFF0000000000000 else 0x7FF0000000000000)
  else dOfInt (fVal x) (-150) (fNeg x)

/-- A binary64 value rounded to binary32, as at a port (R187). -/
def fOfD (x : BitVec 64) : F32 :=
  if dIsNaN x then fNaN
  else if dIsInf x then fInf (dNeg x)
  else fOfInt (dVal x) (-1074) (dNeg x)

/-- A value held in a range; a NaN gives the lower bound. -/
def dWithin (lo hi x : BitVec 64) : BitVec 64 :=
  if dIsNaN x || dLt x lo then lo else if dLt hi x then hi else x

end Sys2Proof
end

