-- ==== Sys2Proof/Config.lean ====
section
/-! DEFINITION. The free values: what the spec leaves open and each run may fill differently
(log 15). None has a body, so nothing can be proved of the value; each is applied to the counter
`State.free` or to the operands it depends on. -/

namespace Sys2Proof.Config

/-- The voltage, V, that the island's velocity loop commands for a reference and an estimate of the arm's
velocity, rad/s (05 R149, R150 give no control law). -/
opaque velocityVolts : Nat → F32 → F32 → F32

/-- The coil current, A, of a code of Aa.VCS (05 R140 gives no scale). -/
opaque vcsScale : F32

/-- The coefficients b0, b1, b2, a1, a2 of the vibration senses' low-pass at a corner in Hz (05 R145
gives order and corner only). -/
opaque lowPass : Nat → Nat → F32

/-- Whether a positive VALUE moves the arm toward the outer diameter (05 R149 gives no sign). -/
opaque vcmOuterPositive : Bool

/-- Whether a period of a seek is its last (06 R187 states no duration). -/
opaque seekLast : Nat → Bool

/-- The reference position of a period of a seek, binary64 (06 R187). -/
opaque seekPos : Nat → BitVec 64

/-- The reference velocity of a period of a seek, binary64 (06 R187). -/
opaque seekVel : Nat → BitVec 64

/-- The reference acceleration of a period of a seek, binary64 (06 R187). -/
opaque seekAcc : Nat → BitVec 64

/-- How far the AGC moves the gain, 2^-20 of 0.25 dB per sample and code of error, while it tracks (07 R204
gives the ratio of its two gains only). -/
opaque agcStep : Nat

/-- The decision-directed phase error of an ADC stream at a bit for a phase in 2^-64 bit, in 2^-32 bit (07
R208 gives no detector). -/
opaque phaseError : List Int → Nat → Int → Int

/-- The interpolator's value of an ADC stream at a place in 1/64 bit, in 2^-14 codes (07 R208 gives no
filter). -/
opaque interpolated : List Int → Int → Int

/-- The baseline of an ADC stream at a sample, low-pass filtered at 1/64 of the bit rate, in 2^-14 codes (07
R215 gives no filter). -/
opaque baseline : List Int → Nat → Int

/-- The decision on a bit that the LMS adaptation goes by, from the corrected samples (07 R210 names no
source). -/
opaque tentative : List Int → Nat → Bool

/-- For a payload column of the parity-check matrix, where its three circulants lie: the first layer and the
two steps to the next ones (07 R221 gives the weights and no places). -/
opaque ldpcPlace : Nat → Nat × Nat × Nat

/-- The shift of a circulant in a payload column (07 R221). -/
opaque ldpcShift : Nat → Nat → Nat

/-- The normalisation of a min-sum magnitude (07 R223 gives no factor). -/
opaque normalised : Nat → Nat

/-- The gate pattern of synchronous rectification (04 R106, R118 give none). -/
opaque freeGates : Nat → BitVec 6

/-- The deceleration, rpm/s, that coasting allows at a speed in rpm x 16 (04 R123 gives no value). -/
opaque coastRate : Nat → Nat

/-- The duty command the speed loop's current command gives (04 R101, R119 state no law). -/
opaque freeDuty : Nat → F32

/-- A byte of a key that the cipher engine's random source gives (14 R426, R427). -/
opaque drbgByte : Nat → Nat → BitVec 8

/-- Requests that the cipher engine makes of its random source for so many bytes (14 R425). -/
opaque drbgDraws : Nat → Nat

/-- A byte of the key that wraps the key slots, derived from the fused device secret (14 R428). -/
opaque kekByte : Nat → BitVec 8

/-- Whether a destination byte past the failing beat of a DMA descriptor holds new data (15 R449). -/
opaque dmaNew : Nat → Nat → Bool

/-- A destination byte of a DMA descriptor whose ranges overlap unequally (15 R444). -/
opaque dmaByte : Nat → Nat → BitVec 8

/-- The write cache pages that usable DRAM holds (13 R414 leaves out of account what the mapping and
resident firmware take). -/
opaque bufferPages : Nat → Nat

/-- A byte of an NVMe data structure that the spec does not state: structure, identifier, offset (12
R371, R386). -/
opaque hostByte : Nat → Nat → Nat → BitVec 8

/-- The laser threshold, 10 uA, of a head measurement whose four highest points lie on no rising line
(18 R509 states no intercept). -/
opaque laserThreshold : Nat → Nat

/-- Which guests answer within 10 ms as a SAVE that the device itself runs reads their objects (03 R75). -/
opaque guestAnswers : Nat → BitVec 4

/-- A head metric, in thousandths, whose baseline is zero: metric, latest value (18 R510 states no
change in per mille). -/
opaque metricAtZero : Nat → Nat → Int

/-- A headroom of a summary record with no sample since the tier was fused, by its byte (18 R508,
R514). -/
opaque unmeasured : Nat → Nat

/-- OD 0x0100.07 ENTERPRISE (03 R92 states no number). -/
opaque enterprise : BitVec 32

/-- Which object of the factory range is the tier fuse (00 R1 names no object): its index less 0xF000,
modulo 0x1000. -/
opaque tierFuse : Nat

/-- A mean per sector over no sector (07 R239): which mean, and a fresh number. -/
opaque meanOfNone : Nat → Nat → F32

/-- A byte of the boot ROM (01 R28; the spec gives no image). -/
opaque romByte : Nat → BitVec 8

/-- A word of a window whose register map the spec does not give (01 R28): address, a fresh number. -/
opaque deviceWord : Nat → Nat → BitVec 32

end Sys2Proof.Config
end

