-- ==== Sys2Proof/Machine/Detector.lean ====
section
/-! DEFINITION. The read channel's signal path from ADC codes to log-likelihood ratios: gain control
(07 R204), timing recovery (R208), correction, alignment and equalization (R209, R210), defect detection
(R215) and the detector (R214). The places where the spec names a circuit and not its law are constants of
Config (log 109). A sample's unit is 64 codes, the full scale of R209. -/

namespace Sys2Proof

/-- A bank word's half as a signed number. -/
def bankHalf (words : List Word) (i : Nat) (high : Bool) : Int :=
  let w := nth words i 0
  (if high then (w >>> 16).setWidth 16 else w.setWidth 16 : BitVec 16).toInt

/-- A field of a bank word. -/
def bankField (words : List Word) (i lo n : Nat) : Nat := fld (nth words i 0).toNat lo n

/-- The sixteen taps of a path's equalizer as its words hold them, Q1.14 (R209, R213). -/
def tapsOf (l : List Word) : List Int :=
  (l.take 8).flatMap fun (w : Word) =>
    [(w.setWidth 16 : BitVec 16).toInt, ((w >>> 16).setWidth 16 : BitVec 16).toInt]

/-- Taps as words. -/
def tapWords : List Int → List Word
  | x :: y :: r => (BitVec.ofInt 16 y ++ BitVec.ofInt 16 x) :: tapWords r
  | _ => []

/-- The five target taps of a reader, Q1.14 (R213). -/
def targetOf (words : List Word) (readerB : Bool) : List Int :=
  (List.range 5).map fun i => bankHalf words (24 + i) readerB

/-- Whether a place lies in one of some ranges. -/
def inSpans (l : List (Nat × Nat)) (x : Nat) : Bool :=
  l.any fun r => decide (r.1 ≤ x) && decide (x < r.2)

/-! Gain control (R204). -/

/-- Units of gain: 2^-20 of 0.25 dB. -/
def gainUnit : Nat := 1048576

/-- The top of the amplifier's range, 30 dB. -/
def gainTop : Nat := 120 * gainUnit

/-- One sample of the AGC: from the sixteenth on, fast for 64 bits and a sixteenth as fast after; held in a
defect region. The gain moves by the target less the sample's magnitude. -/
def agcStep (target : Nat) (held : Bool) (i : Nat) (c : Int) (g : Nat) : Nat :=
  if held || decide (i < 16) then g
  else
    let d : Int := ((target : Int) - c.natAbs) * (if i < 80 then 16 * Config.agcStep else Config.agcStep : Nat)
    min gainTop ((g : Int) + d).toNat

/-- The gain through a sector from the i-th sample on: where it ends, and whether it stayed at one limit
throughout. -/
def agcRun (target : Nat) (defects : List (Nat × Nat)) : List Int → Nat → Nat → Nat × Bool × Bool
  | [], _, g => (g, decide (g = 0), decide (g = gainTop))
  | c :: r, i, g =>
    let x := agcRun target defects r (i + 1) (agcStep target (inSpans defects i) i c g)
    (x.1, decide (g = 0) && x.2.1, decide (g = gainTop) && x.2.2)

/-! Timing recovery (R208). -/

/-- The state of a timing loop: the phase in 2^-64 bit and the frequency integrator per bit. -/
structure Timing where
  phase : Int
  freq : Int
  deriving DecidableEq, Repr

/-- The loop's step at a bit on a phase error in 2^-32 bit: the acquisition gains over the first 96 preamble
bits, the tracking gains after; in the first 32 bits of a continuation's resync field the phase alone, with
the acquisition gain, while the frequency holds (R207). -/
def timingStep (words : List Word) (resyncs : List Nat) (i : Nat) (e : Int) (t : Timing) : Timing :=
  let gain := fun (lo : Nat) => e * 2 ^ (32 - bankField words 6 lo 4)
  if i < 16 then t
  else if resyncs.any fun c => decide (c ≤ i) && decide (i < c + 32) then
    { t with phase := t.phase + t.freq + gain 12 }
  else
    let f := t.freq + (if i < 112 then gain 20 else gain 16)
    { freq := f, phase := t.phase + f + (if i < 112 then gain 12 else gain 8) }

/-- The phase at each bit and the error there, from the i-th bit on. -/
def timingRun (words : List Word) (resyncs : List Nat) (codes : List Int) :
    Nat → Nat → Timing → List (Int × Int)
  | 0, _, _ => []
  | n + 1, i, t =>
    let e := Config.phaseError codes i t.phase
    (t.phase, e) :: timingRun words resyncs codes n (i + 1) (timingStep words resyncs i e t)

/-- A reader's loop through a sector: each read gate starts it at zero. -/
def timingOf (words : List Word) (resyncs : List Nat) (codes : List Int) : List (Int × Int) :=
  timingRun words resyncs codes codes.length 0 { phase := 0, freq := 0 }

/-- Whether the mean magnitude of some errors exceeds 0.25 bit over 64 bits. -/
def errorsLost (sum : Nat) : Bool := decide (64 * 2 ^ 30 < sum)

/-- Whether lock is lost in some 64 bits: `old` are the last 64 errors, newest first, and `sum` their
magnitudes' sum. -/
def lossScan : List (Int × Int) → List Nat → Nat → Bool
  | [], _, _ => false
  | (_, e) :: r, old, sum =>
    let full := decide (64 ≤ old.length)
    let sum := sum + e.natAbs - (if full then nth old 63 0 else 0)
    let old := (e.natAbs :: old).take 64
    (decide (64 ≤ old.length) && errorsLost sum) || lossScan r old sum

/-- Whether a sector loses lock after acquisition (R208). -/
def lockLostIn (run : List (Int × Int)) : Bool := lossScan (run.drop 112) [] 0

/-! Correction, alignment and equalization (R209, R210). -/

/-- The corrected samples of a reader in 2^-54: resampled at quarter-bit phases, reader B's fraction of
RB_DELAY taken in the interpolator, and asymmetry taken out. -/
def correctedOf (words : List Word) (readerB : Bool) (codes : List Int) (run : List (Int × Int)) :
    List Int :=
  let asym := bankHalf words 5 readerB
  let frac : Int := if readerB then ((bankField words 7 0 6 : Nat) : Int) else 0
  run.zipIdx.map fun x =>
    let quarter : Int := x.1.1 / 2 ^ 62
    let y := Config.interpolated codes (64 * (x.2 : Int) + 16 * quarter - frac)
    y * 2 ^ 34 - asym * (y * y)

/-- A sum of products. -/
def dotInt : List Int → List Int → Int
  | x :: r, y :: t => x * y + dotInt r t
  | _, _ => 0

/-- A recorded level: bit 0 is +1. -/
def levelOf (bit : Bool) : Int := if bit then -1 else 1

/-- What an equalizer needs beside its samples: the target, the LMS step when it adapts, and the samples at
which adaptation is frozen. -/
structure Equalizer where
  target : List Int
  mu : Option Nat
  frozen : List (Nat × Nat)
  deriving DecidableEq, Repr

/-- The taps after one LMS step toward the target, in 2^-40 (R210). -/
def lmsStep (mu : Nat) (err : Int) (window taps : List Int) : List Int :=
  taps.zipIdx.map fun t =>
    clampInt (-(2 ^ 41)) (2 ^ 41 - 1) (t.1 + err * nth window t.2 0 / 2 ^ (90 + mu))

/-- The equalized samples in 2^-68 and the final taps in 2^-40; `window` are the last corrected samples and
`bits` the last tentative decisions, newest first. -/
def equalize (q : Equalizer) (all : List Int) :
    List Int → Nat → List Int → List Bool → List Int → List Int × List Int
  | [], _, _, _, taps => ([], taps)
  | y :: r, i, window, bits, taps =>
    let window := (y :: window).take 16
    let z := dotInt (taps.map fun t => t / 2 ^ 26) window
    let next := match q.mu with
      | none => equalize q all r (i + 1) window bits taps
      | some mu =>
        let bits := (Config.tentative all i :: bits).take 5
        let err := dotInt q.target (bits.map levelOf) * 2 ^ 54 - z
        let held := decide (i < 144) || inSpans q.frozen i
        equalize q all r (i + 1) window bits (if held then taps else lmsStep mu err window taps)
    (z :: next.1, next.2)

/-- A path's equalized samples and its taps after the sector, Q1.14. -/
def equalizedOf (q : Equalizer) (taps : List Int) (ys : List Int) : List Int × List Int :=
  let x := equalize q ys ys 0 [] [] (taps.map fun t => t * 2 ^ 26)
  (x.1, x.2.map fun t => t / 2 ^ 26)

/-! Defects (R215). -/

/-- The regions of one condition: it opens after `need` samples in a row that enter, `pre` samples before
the first of them, and closes `post` samples after the first that leaves; `act` is the start of an open
region. No region is longer than 4,095 bits. -/
def scanRegions (need pre post : Nat) :
    List (Bool × Bool) → Nat → Nat → Option Nat → List (Nat × Nat)
  | [], i, _, act => match act with
    | some st => [(st, min i (st + 4095))]
    | none => []
  | (en, lv) :: r, i, run, act =>
    match act with
    | some st =>
      if lv then (st, min (i + post) (st + 4095)) :: scanRegions need pre post r (i + 1) 0 none
      else scanRegions need pre post r (i + 1) 0 act
    | none =>
      let run := if en then run + 1 else 0
      if en && decide (max 1 need ≤ run) then
        scanRegions need pre post r (i + 1) 0 (some (i + 1 - run - pre))
      else scanRegions need pre post r (i + 1) run none

/-- The thermal asperities of a reader: the baseline above TA_THR for 2 samples, until it falls below half
of it. -/
def asperities (words : List Word) (codes : List Int) : List (Nat × Nat) :=
  let thr : Int := ((bankField words 31 0 8 : Nat) : Int)
  if thr = 0 then []
  else
    scanRegions 2 (bankField words 31 16 8) (bankField words 31 24 8)
      ((List.range codes.length).map fun i =>
        let b := Config.baseline codes i
        (decide (thr * 2 ^ 14 < b), decide (b < thr * 2 ^ 13))) 0 0 none

/-- The sums of the last 16 magnitudes, from 16 samples on. -/
def envelopes : List Int → List Nat → List (Option Nat)
  | [], _ => []
  | c :: r, old =>
    let old := (c.natAbs :: old).take 16
    (if old.length = 16 then some old.sum else none) :: envelopes r old

/-- The dropouts of a reader: the envelope below DO_THR / 256 of its AGC target for DO_LEN bits. -/
def dropouts (words : List Word) (readerB : Bool) (codes : List Int) : List (Nat × Nat) :=
  let thr := bankField words 32 0 8
  if thr = 0 then []
  else
    let target := bankField words 4 (if readerB then 8 else 0) 8
    scanRegions (bankField words 32 8 8) (bankField words 32 16 8) (bankField words 32 24 8)
      ((envelopes codes []).map fun e =>
        let low := match e with
          | some v => decide (16 * v < thr * target)
          | none => false
        (low, !low)) 0 0 none

/-- A region put into a list by its start. -/
def insertRegion (x : Region) : List Region → List Region
  | [] => [x]
  | y :: r => if x.start.toNat < y.start.toNat then x :: y :: r else y :: insertRegion x r

/-- The regions of both readers in order of their start; a reader that is off has none. -/
def regionsFound (words : List Word) (onA onB : Bool) (codesA codesB : List Int) : List Region :=
  let make (readerB dropout : Bool) (x : Nat × Nat) : Region :=
    { b := readerB, a := !readerB, dropout := dropout, length := BitVec.ofNat 12 (x.2 - x.1)
      start := BitVec.ofNat 16 x.1 }
  let of (readerB : Bool) (codes : List Int) : List Region :=
    (asperities words codes).map (make readerB false)
      ++ (dropouts words readerB codes).map (make readerB true)
  let l := (if onA then of false codesA else []) ++ (if onB then of true codesB else [])
  l.foldl (fun t x => insertRegion x t) []

/-- The samples a region flags. -/
def Region.span (r : Region) : Nat × Nat := (r.start.toNat, r.start.toNat + r.length.toNat)

/-- The samples flagged for a reader. -/
def flagged (l : List Region) (readerB : Bool) : List (Nat × Nat) :=
  (l.filter fun r => if readerB then r.b else r.a).map Region.span

/-! The detector (R214): 16 states, the last four bits with the newest lowest; a branch is five bits with
the present one lowest. -/

/-- The 32 branch metrics of a sample, in 2^-150: per reader its weight, target and equalized sample. -/
def branchMetrics (l : List (Nat × List Int × Int)) : List Int :=
  (List.range 32).map fun w =>
    (l.map fun x =>
      let ideal := dotInt x.2.1 ((List.range 5).map fun i => levelOf (bitOf w i)) * 2 ^ 54
      (x.1 : Int) * ((x.2.2 - ideal) * (x.2.2 - ideal))).sum

/-- The smaller of two metrics. -/
def minInt (x y : Int) : Int := if y < x then y else x

/-- The forward step of the trellis. -/
def trellisForward (al m : List Int) : List Int :=
  (List.range 16).map fun t =>
    minInt (nth al (t / 2) 0 + nth m t 0) (nth al (t / 2 + 8) 0 + nth m (t + 16) 0)

/-- The backward step. -/
def trellisBack (m bt : List Int) : List Int :=
  (List.range 16).map fun s =>
    minInt (nth m (2 * s) 0 + nth bt (2 * s % 16) 0) (nth m (2 * s + 1) 0 + nth bt ((2 * s + 1) % 16) 0)

/-- The least metric over the branches whose present bit has a value. -/
def bestBranch (al m bt : List Int) (bit : Nat) : Int :=
  let l := (List.range 16).map fun s =>
    let w := 2 * s + bit
    nth al s 0 + nth m w 0 + nth bt (w % 16) 0
  l.foldl minInt (l.headD 0)

/-- Each sample's forward metrics beside its branch metrics. -/
def trellisForwards : List (List Int) → List Int → List (List Int × List Int)
  | [], _ => []
  | m :: r, al => (al, m) :: trellisForwards r (trellisForward al m)

/-- The LLRs before scaling, ln(P(0) / P(1)), and the backward metrics. -/
def trellisLlrs : List (List Int × List Int) → List Int × List Int
  | [] => (List.replicate 16 0, [])
  | (al, m) :: r =>
    let x := trellisLlrs r
    (trellisBack m x.1, (bestBranch al m x.1 1 - bestBranch al m x.1 0) :: x.2)

/-- The nearest whole number to `n / 2^k`, ties to even. -/
def nearestShift (n : Int) (k : Nat) : Int :=
  let q := n / 2 ^ k
  let r := n % 2 ^ k
  if 2 ^ k < 2 * r || (2 * r = 2 ^ k && q % 2 ≠ 0) then q + 1 else q

/-- An LLR scaled by LLR_SCALE, rounded and saturated at ±31 (R214). -/
def scaledLlr (words : List Word) (x : Int) : Int :=
  clampInt (-31) 31 (nearestShift (x * (bankField words 30 0 16 : Nat)) 162)

/-- What a detection works with: the latched bank, the weights, which readers are on, the regions that flag
bits, where resync fields begin, the LMS steps of paths that adapt, and the taps at the start. -/
structure DetectSet where
  words : List Word
  weights : Word
  onA : Bool
  onB : Bool
  regions : List Region
  resyncs : List Nat
  muA : Option Nat
  muB : Option Nat
  tapsA : List Int
  tapsB : List Int
  deriving DecidableEq, Repr

/-- What a detection gives: an LLR before scaling for each sample, and the taps at the end. -/
structure Detected where
  llrs : List Int
  tapsA : List Int
  tapsB : List Int
  deriving DecidableEq, Repr

/-- The detection of a capture's samples (R208 to R210, R214, R215): a bit flagged on one reader is detected
from the other alone, and one that no reader gives is erased. -/
def detect (d : DetectSet) (codesA codesB : List Int) : Detected :=
  let path := fun (readerB : Bool) (codes : List Int) =>
    correctedOf d.words readerB codes (timingOf d.words d.resyncs codes)
  let eqz := fun (readerB : Bool) (mu : Option Nat) (taps codes : List Int) =>
    equalizedOf { target := targetOf d.words readerB, mu := mu, frozen := flagged d.regions readerB }
      taps (path readerB codes)
  let qa := eqz false d.muA d.tapsA codesA
  let qb := eqz true d.muB d.tapsB codesB
  let tA := targetOf d.words false
  let tB := targetOf d.words true
  let fA := flagged d.regions false
  let fB := flagged d.regions true
  let wA := if d.onA then fld d.weights.toNat 0 16 else 0
  let wB := if d.onB then fld d.weights.toNat 16 16 else 0
  let bits := (List.zip qa.1 qb.1).zipIdx.map fun x =>
    let a := inSpans fA x.2
    let b := inSpans fB x.2
    let m := branchMetrics [(if a then 0 else wA, tA, x.1.1), (if b then 0 else wB, tB, x.1.2)]
    (m, (a || b) && (a || decide (wA = 0)) && (b || decide (wB = 0)))
  let ls := (trellisLlrs (trellisForwards (bits.map fun x => x.1) (List.replicate 16 0))).2
  { llrs := (List.zip ls bits).map fun x => if x.2.2 then 0 else x.1, tapsA := qa.2, tapsB := qb.2 }

/-- The hard decision of an LLR (08 R246). -/
def hardBit (x : Int) : Bool := decide (x < 0)

/-- How many of a mark's bits differ at a place, most significant bit first; none where the samples end
before it does (08 R246). -/
def markDiff (bits : List Bool) (mark width i : Nat) : Option Nat :=
  let l := (bits.drop i).take width
  if l.length < width then none
  else some ((l.zipIdx.filter fun b => b.1 != bitOf mark (width - 1 - b.2)).length)

/-- The places of a window around a nominal index, and how many bits of a mark differ at each. -/
def markTries (bits : List Bool) (mark width nom win : Nat) : List (Nat × Nat) :=
  (List.range (2 * win + 1)).filterMap fun k =>
    if win ≤ nom + k then (markDiff bits mark width (nom + k - win)).map fun d => (nom + k - win, d)
    else none

/-- The LLRs of the samples in some ranges. -/
def pickSpans (l : List Int) (spans : List (Nat × Nat)) : List Int :=
  spans.flatMap fun r => (l.drop r.1).take (r.2 - r.1)

end Sys2Proof
end

