-- ==== Sys2Proof/Machine/Ldpc.lean ====
section
/-! DEFINITION. The quasi-cyclic LDPC code and its decoder (07 R221, R223): 31 layers of 288 circulants of
size 128, an encoder by the dual diagonal, and layered normalised min-sum. A word of the code, and the LLRs
of one, are 288 blocks of 128 values. The places and shifts of the payload circulants and the normalisation
are constants of Config (log 110). -/

namespace Sys2Proof

/-- A block rotated by a circulant's shift: its entry at check r is bit r plus the shift (R221). -/
def rotL {α : Type} (k : Nat) (l : List α) : List α := l.drop (k % 128) ++ l.take (k % 128)

/-- A block rotated back. -/
def rotR {α : Type} (k : Nat) (l : List α) : List α := rotL (128 - k % 128) l

/-- The three layers of a payload column's circulants: column weight 3 (R221). -/
def columnLayers (c : Nat) : List Nat :=
  let p := Config.ldpcPlace c
  let a := p.1 % 31
  let b := a + 1 + p.2.1 % 15
  [a, b % 31, (b + 1 + p.2.2 % 15) % 31]

/-- The payload circulants of a layer: column and shift (R221). -/
def layerPayload (l : Nat) : List (Nat × Nat) :=
  ((List.range 257).filter fun c => (columnLayers c).contains l).map fun c =>
    (c, Config.ldpcShift l c % 128)

/-- The parity circulants of a layer: the dual diagonal of identity circulants (R221). -/
def layerParity (l : Nat) : List (Nat × Nat) :=
  if l = 0 then [(257, 0)] else [(256 + l, 0), (257 + l, 0)]

/-- The circulants of a layer. -/
def layerEntries (l : Nat) : List (Nat × Nat) := layerPayload l ++ layerParity l

/-- Two blocks of bits added. -/
def xorBlock (x y : List Bool) : List Bool := List.zipWith (fun a b => a != b) x y

/-- A block of zeros. -/
def zeroBlock : List Bool := List.replicate 128 false

/-- The parity of a layer's checks over some circulants of a word. -/
def layerSum (word : List (List Bool)) (entries : List (Nat × Nat)) : List Bool :=
  entries.foldl (fun t e => xorBlock t (rotL e.2 (nth word e.1 zeroBlock))) zeroBlock

/-- The unsatisfied checks of a word, of 3,968 (R223). -/
def unsatisfied (word : List (List Bool)) : Nat :=
  ((List.range 31).map fun l => (layerSum word (layerEntries l)).countP fun b => b).sum

/-- A list cut into blocks of 128. -/
def blocksOf {α : Type} : Nat → List α → List (List α)
  | 0, _ => []
  | n + 1, l => l.take 128 :: blocksOf n (l.drop 128)

/-- The bits of bytes, each most significant bit first (R221). -/
def msbBitsOf (l : List Byte) : List Bool :=
  l.flatMap fun b => (List.range 8).map fun i => b.getLsbD (7 - i)

/-- Bytes from bits, most significant bit first. -/
def bytesOfBits : Nat → List Bool → List Byte
  | 0, _ => []
  | n + 1, l =>
    BitVec.ofNat 8 ((l.take 8).foldl (fun x b => 2 * x + b2n b) 0) :: bytesOfBits n (l.drop 8)

/-- The parity blocks from a layer on, the block before being `prev`: the dual diagonal accumulates. -/
def parityFrom (word : List (List Bool)) : Nat → Nat → List Bool → List (List Bool)
  | 0, _, _ => []
  | n + 1, l, prev =>
    let p := xorBlock (layerSum word (layerPayload l)) prev
    p :: parityFrom word n (l + 1) p

/-- The code word of a payload of 4,112 bytes: 32,896 payload bits, then 3,968 parity bits (R221). -/
def codeWord (payload : List Byte) : List Bool :=
  let bits := msbBitsOf payload
  let word := blocksOf 257 bits
  bits ++ (parityFrom word 31 0 zeroBlock).flatten

/-! The decoder (R223). -/

/-- What a check holds of its messages: the least and second least magnitudes and the sign. -/
structure CheckSum where
  min1 : Nat
  min2 : Nat
  neg : Bool
  deriving DecidableEq, Repr

/-- One message enters a check. -/
def CheckSum.add (k : CheckSum) (x : Int) : CheckSum :=
  let m := x.natAbs
  { min1 := min m k.min1, min2 := if m < k.min1 then k.min1 else min m k.min2
    neg := k.neg != decide (x < 0) }

/-- The message a check sends back where it received one: the product of the others' signs times the
normalised least of their magnitudes. -/
def CheckSum.reply (k : CheckSum) (x : Int) : Int :=
  let m : Int := ((Config.normalised (if x.natAbs = k.min1 then k.min2 else k.min1) : Nat) : Int)
  if k.neg != decide (x < 0) then -m else m

/-- A check before its messages. -/
def CheckSum.start : CheckSum := { min1 := 2 ^ 64, min2 := 2 ^ 64, neg := false }

/-- A decode that runs: the LLR of each bit, and the messages each layer sent last, one block per
circulant. -/
structure Decode where
  llrs : List (List Int)
  sent : List (List (List Int))
  deriving DecidableEq, Repr

/-- Blocks put back at their columns. -/
def putBlocks (word : List (List Int)) : List (Nat × List Int) → List (List Int)
  | [] => word
  | (c, b) :: r => putBlocks (setNth word c b) r

/-- One layer (R223). -/
def Decode.layer (d : Decode) (l : Nat) : Decode :=
  let entries := layerEntries l
  let old := nth d.sent l []
  let qs := entries.zipIdx.map fun e =>
    List.zipWith (fun x y => x - y) (rotL e.1.2 (nth d.llrs e.1.1 [])) (nth old e.2 (List.replicate 128 0))
  let checks := qs.foldl (fun t q => List.zipWith CheckSum.add t q) (List.replicate 128 CheckSum.start)
  let new := qs.map fun q => List.zipWith CheckSum.reply checks q
  let back := (List.zip entries (List.zip qs new)).map fun x =>
    (x.1.1, rotR x.1.2 (List.zipWith (fun q r => q + r) x.2.1 x.2.2))
  { llrs := putBlocks d.llrs back, sent := setNth d.sent l new }

/-- One iteration over the 31 layers. -/
def Decode.iterate (d : Decode) : Decode := (List.range 31).foldl (fun t l => t.layer l) d

/-- The hard decisions of a decode. -/
def Decode.word (d : Decode) : List (List Bool) := d.llrs.map fun b => b.map hardBit

/-- How a decode ends: whether it converged, its iterations, the unsatisfied checks at the end and after
iteration MGN_ITER, and the word. -/
structure Decoded where
  converged : Bool
  iters : Nat
  unsat : Nat
  atMgn : Nat
  word : List Bool
  deriving DecidableEq, Repr

/-- Iterations up to the limit, ending at the first that satisfies every check; `done` have run (R223). -/
def decodeLoop (mgn : Nat) : Nat → Nat → Nat → Decode → Decoded
  | 0, done, atMgn, d =>
    { converged := false, iters := done, unsat := unsatisfied d.word, atMgn := atMgn, word := d.word.flatten }
  | n + 1, done, atMgn, d =>
    let d := d.iterate
    let u := unsatisfied d.word
    let m := if done + 1 = mgn then u else atMgn
    if u = 0 then
      { converged := true, iters := done + 1, unsat := 0, atMgn := m, word := d.word.flatten }
    else decodeLoop mgn n (done + 1) m d

/-- The decode of 36,864 LLRs within a limit of iterations (R223). -/
def ldpcDecode (limit mgn : Nat) (llrs : List Int) : Decoded :=
  decodeLoop mgn limit 0 0
    { llrs := blocksOf 288 (padTo 36864 0 llrs), sent := List.replicate 31 [] }

/-- The hard decisions that a decode changed (R224). -/
def correctedBits (llrs : List Int) (d : Decoded) : Nat :=
  (List.zip (padTo 36864 0 llrs) d.word).countP fun x => hardBit x.1 != x.2

/-- The 4,112 payload bytes of a word (R221, R222). -/
def Decoded.payload (d : Decoded) : List Byte := bytesOfBits 4112 d.word

end Sys2Proof
end

