-- ==== Sys2Proof/Machine/Galois.lean ====
section
/-! DEFINITION. Arithmetic of GF(2^8) with the polynomial 0x11D and its generator 0x02, as row parity
(08 R249) and the code of the buffer memory (13 R396) use it, and that code's decoder. -/

namespace Sys2Proof.Machine

open Sys2Proof

/-- A product in GF(2^8) with the polynomial 0x11D, by so many bits of the second factor. -/
def gfMulGo : Nat → Nat → Nat → Nat
  | 0, _, _ => 0
  | n + 1, x, y =>
    let x2 := if 128 ≤ x then (x * 2) ^^^ 0x11D else x * 2
    (if y % 2 = 1 then x else 0) ^^^ gfMulGo n x2 (y / 2)

/-- A product in GF(2^8) (R249). -/
def gfMul (x y : Byte) : Byte := BitVec.ofNat 8 (gfMulGo 8 x.toNat y.toNat)

/-- A power in GF(2^8). -/
def gfPow (x : Byte) : Nat → Byte
  | 0 => 1
  | n + 1 => gfMul x (gfPow x n)

/-- The product of the first so many squarings of x, x itself left out. -/
def gfSquares (x : Byte) : Nat → Byte
  | 0 => 1
  | n + 1 => gfMul (gfMul x x) (gfSquares (gfMul x x) n)

/-- The inverse in GF(2^8): the 254th power, 2 + 4 + 8 + ... + 128. -/
def gfInv (x : Byte) : Byte := gfSquares x 7

/-- g^i with g = 0x02. -/
def gfG (i : Nat) : Byte := gfPow 2 i

/-! The Reed-Solomon code of a granule (13 R396): 77 bytes, the first at the highest power, the roots
of the generator the powers 0 to 7 of 0x02. An error is a byte's position and what was added to it. -/

/-- The locator of a byte: 0x02 to the power at which it stands. -/
def rsLocator (pos : Nat) : Byte := gfG (76 - pos)

/-- A syndrome of an error pattern. -/
def rsSyndrome (i : Nat) (errs : List (Nat × Byte)) : Byte :=
  errs.foldl (fun x e => x ^^^ gfMul e.2 (gfPow (rsLocator e.1) i)) 0

/-- A polynomial, lowest power first, at a point. -/
def rsEval (x : Byte) : List Byte → Byte
  | [] => 0
  | c :: r => c ^^^ gfMul x (rsEval x r)

/-- A polynomial plus a multiple of another. -/
def rsAdd (k : Byte) : List Byte → List Byte → List Byte
  | p, [] => p
  | [], q => q.map (gfMul k)
  | c :: p, d :: q => (c ^^^ gfMul k d) :: rsAdd k p q

/-- The search for the shortest recurrence of the syndromes (Berlekamp and Massey). -/
structure RsSearch where
  /-- The recurrence found. -/
  cur : List Byte
  /-- The recurrence before its last lengthening, with the powers passed since. -/
  prev : List Byte
  /-- The discrepancy at that lengthening. -/
  disc : Byte
  /-- The length of the recurrence found. -/
  len : Nat
  deriving DecidableEq, Repr

/-- What a recurrence misses at syndrome n, the syndromes before it newest first. -/
def rsMiss : List Byte → List Byte → Byte
  | c :: r, x :: y => gfMul c x ^^^ rsMiss r y
  | _, _ => 0

/-- One syndrome more; `seen` holds it and those before it, newest first. -/
def rsSearchStep (n : Nat) (seen : List Byte) (b : RsSearch) : RsSearch :=
  let d := rsMiss b.cur seen
  let shifted := (0 : Byte) :: b.prev
  if d = 0 then { b with prev := shifted }
  else
    let next := rsAdd (gfMul d (gfInv b.disc)) b.cur shifted
    if 2 * b.len ≤ n then { cur := next, prev := b.cur, disc := d, len := n + 1 - b.len }
    else { b with cur := next, prev := shifted }

/-- The search over the syndromes that are left. -/
def rsSearch (n : Nat) (seen : List Byte) (b : RsSearch) : List Byte → RsSearch
  | [] => b
  | x :: r => rsSearch (n + 1) (x :: seen) (rsSearchStep n (x :: seen) b) r

/-- The first coefficients of a product of two polynomials. -/
def rsProduct (n : Nat) (p q : List Byte) : List Byte :=
  (List.range n).map fun k =>
    (List.range (k + 1)).foldl (fun x i => x ^^^ gfMul (p.getD i 0) (q.getD (k - i) 0)) 0

/-- The derivative of a polynomial. -/
def rsDerivative (p : List Byte) : List Byte :=
  (p.drop 1).zipIdx.map fun c => if c.2 % 2 = 0 then c.1 else 0

/-- The generator's coefficients, lowest power first (13 R396): the product of x less each root. -/
def rsGenerator : List Byte :=
  (List.range 8).foldl (fun p i => rsAdd (gfG i) ((0 : Byte) :: p) p) [1]

/-- The check bytes of a message, highest power first (13 R396): the remainder of its division by the
generator, kept highest power first. -/
def rsCheck (msg : List Byte) : List Byte :=
  msg.foldl (fun r b =>
    let f := b ^^^ r.headD 0
    ((r.drop 1 ++ [0]).zip (rsGenerator.dropLast.reverse)).map fun (x : Byte × Byte) => x.1 ^^^ gfMul f x.2)
    (List.replicate 8 0)

/-- The pattern of at most `most` byte errors that explains an error pattern, as a decoder of that bound
locates it: none where there is none (13 R397). -/
def rsLocate (most : Nat) (errs : List (Nat × Byte)) : Option (List (Nat × Byte)) :=
  let syn := (List.range 8).map fun i => rsSyndrome i errs
  let b := rsSearch 0 [] { cur := [1], prev := [1], disc := 1, len := 0 } syn
  let at' := (List.range 77).filter fun pos => rsEval (gfInv (rsLocator pos)) b.cur == 0
  if most < b.len || at'.length ≠ b.len then none
  else
    let value (pos : Nat) : Byte :=
      let x := gfInv (rsLocator pos)
      gfMul (rsLocator pos) (gfMul (rsEval x (rsProduct 8 syn b.cur))
        (gfInv (rsEval x (rsDerivative b.cur))))
    some (at'.map fun pos => (pos, value pos))

end Sys2Proof.Machine
end

