-- ==== Sys2Proof/Machine/Channel.lean ====
section
/-! DEFINITION. What the write path puts on Aa.WRD: the channel bits of a sector and of its continuations
(08 R242, R244, R245; 09 R271, R272), and the shift of each transition (09 R273). -/

namespace Sys2Proof

/-- A mark of `n` bits, most significant bit first. -/
def markBits (n v : Nat) : List Bool := (List.range n).map fun i => v.testBit (n - 1 - i)

/-- The 2T pattern, 0b1100 repeated. -/
def twoT (n : Nat) : List Bool := (List.range n).map fun i => decide (i % 4 < 2)

/-- Channel bits of an unsplit sector (08 R242). -/
def sectorSpan : Nat := 37088

/-- The sector bit at which the pad begins (08 R242). -/
def padStart : Nat := 37064

/-- The channel bits of a sector (08 R242). -/
def sectorBits (payload : List Byte) : List Bool :=
  let code := codeWord payload
  twoT 128 ++ markBits 36 0xF3B0A5C92 ++ code.take 4096 ++ markBits 36 0x5A6C1E74B ++ code.drop 4096
    ++ twoT 24

/-- The resync field and continuation mark ahead of a continuation (08 R244). -/
def contLead : List Bool := twoT 48 ++ markBits 40 0x6DB2E41F38

/-- The sector bit at which a piece begun at `start` ends, with room for `room` bits before the wedge
(08 R245): in the Substitute mark the split moves back to the end of D1, and the pad is cut. -/
def pieceEnd (start room : Nat) : Nat :=
  let e := min sectorSpan (start + room)
  if 4260 < e && e < 4296 then 4260 else e

/-- The places where the level changes in a stream whose place `i` follows the level `prev`. -/
def flipsFrom : Nat → Bool → List Bool → List Nat
  | _, _, [] => []
  | i, prev, b :: r => if b = prev then flipsFrom (i + 1) b r else i :: flipsFrom (i + 1) b r

/-- The transitions of a stream that begins from electrical idle. -/
def flipsOf : List Bool → List Nat
  | [] => []
  | b :: r => flipsFrom 1 b r

/-- The shift of a transition in 1/64 bit: S1, S2 or S3 by the distance from the one before, with S1N where
the next follows after one bit, clamped (R273). `word` is the bank's PRECOMP. -/
def shiftOf (word : Nat) (before : Option Nat) (p : Nat) (after : Option Nat) : Int :=
  let base := match before with
    | none => sfld word 16 6
    | some q => if p = q + 1 then sfld word 0 6 else if p = q + 2 then sfld word 8 6 else sfld word 16 6
  clampInt (-32) 31 (base + if after = some (p + 1) then sfld word 24 6 else 0)

/-- Each transition with its shift. -/
def shiftsFrom (word : Nat) : Option Nat → List Nat → List (Nat × Int)
  | _, [] => []
  | before, p :: r => (p, shiftOf word before p r.head?) :: shiftsFrom word (some p) r

/-- The transitions of a piece and their shifts, at its own places; `before` are the levels that Aa.WRD
carried right before it, none from idle. -/
def pieceShifts (word : Nat) (before piece : List Bool) : List (Nat × Int) :=
  let n := before.length
  ((shiftsFrom word none (flipsOf (before ++ piece))).filter fun x => decide (n ≤ x.1)).map fun x =>
    (x.1 - n, x.2)

end Sys2Proof
end

