-- ==== Sys2Proof/Machine/Ops.lean ====
section
/-! DEFINITION. The named operations every chapter uses: what the tier has, chip time, messages to
the event controller and the Hall Monitor, dictionary values, power domains and memory. -/

namespace Sys2Proof.Machine

open Sys2Proof

/-- The effect of a command that always has one. -/
abbrev Eff := Host.Outcome State Fault Refusal

/-- Ticks of chip time in a microsecond (01 R13). -/
def usTicks : Nat := 200

/-- Ticks of chip time in a millisecond. -/
def msTicks : Nat := 200000

/-- Ticks of chip time in a second. -/
def secTicks : Nat := 200000000

/-- Chip time (01 R13). -/
def State.now (s : State) : BitVec 64 := s.fab.chipTime

/-- Chip time as a number of ticks. -/
def State.ticks (s : State) : Nat := s.fab.chipTime.toNat

/-- Ticks since a stamp. -/
def State.since (s : State) (t : BitVec 64) : Nat := (s.fab.chipTime - t).toNat

/-- Milliseconds since a stamp, rounded down. -/
def State.msSince (s : State) (t : BitVec 64) : Nat := s.since t / msTicks

/-- A chip time so many ticks from now. -/
def State.inTicks (s : State) (n : Nat) : BitVec 64 := s.fab.chipTime + BitVec.ofNat 64 n

/-- Chip time in microseconds, as objects and records give it. -/
def usOf (t : BitVec 64) : Nat := t.toNat / usTicks

/-- How many actuators the tier has (00 R2): four in tier A, two in the others. -/
def State.actCount (s : State) : Nat := if s.ident.tier = .a then 4 else 2

/-- Whether an actuator is present (00 R2, R3). -/
def State.present (s : State) (a : Fin 4) : Bool := decide (a.val < s.actCount)

/-- The four actuator numbers in order. -/
def allActs : List (Fin 4) := [0, 1, 2, 3]

/-- The actuators present, in order. -/
def State.presentActs (s : State) : List (Fin 4) := allActs.filter fun a => s.present a

/-- The mask of the actuators present (OD 0x0110.02). -/
def State.presentMask (s : State) : BitVec 4 := if s.ident.tier = .a then 0xF else 0x3

/-- Whether the tier has a cipher engine (00 R2). -/
def State.hasCipher (s : State) : Bool :=
  decide (s.ident.tier = .a) || decide (s.ident.tier = .b)

/-- Whether a bit of a mask of actuators is set. -/
def actIn (m : BitVec 4) (a : Fin 4) : Bool := m.getLsbD a.val

/-- A mask of actuators with one put in or taken out. -/
def actPut (m : BitVec 4) (a : Fin 4) (b : Bool) : BitVec 4 := setBit m a.val b

/-- The Hall Monitor's endpoint (01 R14). -/
def epMonitor : Endpoint := 0x05
/-- The event controller's endpoint. -/
def epEvents : Endpoint := 0x06
/-- The Yearbook engine's endpoint. -/
def epYearbook : Endpoint := 0x07
/-- Spindle control's endpoint. -/
def epSpindle : Endpoint := 0x08
/-- The DMA engine's endpoint. -/
def epDma : Endpoint := 0x09
/-- The buffer manager's and scrubber's endpoint. -/
def epBuffer : Endpoint := 0x0A
/-- The placement accelerator's endpoint. -/
def epPlacement : Endpoint := 0x0B
/-- The memory controller's endpoint. -/
def epMemory : Endpoint := 0x0C
/-- The host controller's endpoint, by port. -/
def epHost (p : Fin 2) : Endpoint := BitVec.ofNat 8 (0x0D + p.val)
/-- The cipher engine's endpoint. -/
def epCipher : Endpoint := 0x0F
/-- The field network's endpoint. -/
def epField : Endpoint := 0x10
/-- The Timetable's and power block's endpoint. -/
def epTimetable : Endpoint := 0x12
/-- The Report Card's endpoint. -/
def epReport : Endpoint := 0x13
/-- System control's endpoint. -/
def epSystem : Endpoint := 0x14
/-- The endpoint of resident firmware: principal core 0. -/
def epResident : Endpoint := 0x00
/-- A decoder's endpoint. -/
def epDecoder (d : Nat) : Endpoint := BitVec.ofNat 8 (0x18 + d)
/-- An endpoint of an actuator island: 0 core, 1 engine, 2 demodulator, 3 read channel, 4 write
path and PSC link, 5 island control and motion sensing. -/
def epAct (a : Fin 4) (k : Nat) : Endpoint := BitVec.ofNat 8 (0x20 + 8 * a.val + k)

/-- Put a message on Kyomos (01 R21). -/
def State.send (m : Msg) (s : State) : State :=
  s.onFab fun f => { f with msgs := f.msgs ++ [m] }

/-- The index of an endpoint's island in the order of 18 R501 (01 R10, R14). -/
def epIsland (e : Endpoint) : Nat :=
  let n := e.toNat
  if n < 4 then 1
  else if 0x20 ≤ n && n < 0x40 then 5 + (n - 0x20) / 8
  else if 0x18 ≤ n && n < 0x20 then 9
  else if n = 0x0C then 4
  else if n = 0x0D || n = 0x0E then 3
  else if n = 0x0F then 10
  else if n = 0x10 then 11
  else if [0x04, 0x05, 0x07, 0x08, 0x13, 0x14].contains n then 0
  else 2

/-- Chip time as an endpoint's island has it: its replica's count (01 R13). -/
def State.localTime (s : State) (e : Endpoint) : BitVec 64 :=
  s.fab.chipTime + BitVec.ofInt 64 (nth s.fab.replica (epIsland e) 0)

/-- The mtime of a core: its island's replica (01 R13). -/
def State.mtime (s : State) (core : Endpoint) : BitVec 64 := s.localTime core

/-- Send an event message: class 0x1, number and qualifier (01 R21). -/
def State.event (src : Endpoint) (num : Nat) (qual : Nat) (s : State) : State :=
  s.send { src := src, dst := epEvents,
           body := .event (BitVec.ofNat 9 num) (BitVec.ofNat 32 qual) }

/-- Send a fault report: class 0x2, source, kind, address and the chip time of the sender's replica
(01 R13, R21). -/
def State.faultAt (src : Endpoint) (source kind addr : Nat) (s : State) : State :=
  s.send { src := src, dst := epMonitor,
           body := .fault (BitVec.ofNat 8 source) (BitVec.ofNat 4 kind) (BitVec.ofNat 48 addr)
             (s.localTime src) }

/-- Send a fault report that concerns no address. -/
def State.fault (src : Endpoint) (source kind : Nat) (s : State) : State :=
  s.faultAt src source kind 0

/-- An event of an actuator: number 144 + 24a + offset; none from one the tier lacks (00 R3). -/
def State.actEvent (a : Fin 4) (k off qual : Nat) (s : State) : State :=
  if s.present a then s.event (epAct a k) (144 + 24 * a.val + off) qual else s

/-- A fault of an actuator: source 88 + 12a + offset; none from one the tier lacks (00 R3). -/
def State.actFault (a : Fin 4) (k off kind : Nat) (s : State) : State :=
  if s.present a then s.fault (epAct a k) (88 + 12 * a.val + off) kind else s

/-- The number of an object, index * 256 + subindex. -/
def odKey (index sub : Nat) : Nat := index * 256 + sub

/-- The value of a numeric object, or its default (03 R69). -/
def State.odNat (s : State) (key dflt : Nat) : Nat :=
  match Tab.get? s.dict.od key with
  | some (.num v) => v
  | _ => dflt

/-- The bytes of a string object, or its default. -/
def State.odBytes (s : State) (key : Nat) (dflt : List Byte) : List Byte :=
  match Tab.get? s.dict.od key with
  | some (.oct b) => b
  | _ => dflt

/-- A numeric object set. -/
def State.odSet (key v : Nat) (s : State) : State :=
  s.onDict fun d => { d with od := Tab.set d.od key (.num v) }

/-- A string object set. -/
def State.odSetBytes (key : Nat) (v : List Byte) (s : State) : State :=
  s.onDict fun d => { d with od := Tab.set d.od key (.oct v) }

/-- A counter object moved on; a read gives its low bits (log 18). -/
def State.count (key n : Nat) (s : State) : State := s.odSet key (s.odNat key 0 + n)

/-- A counter object of an actuator moved on. -/
def State.countA (key : Nat) (a : Fin 4) (n : Nat) (s : State) : State :=
  s.count (key + 0x10000 * a.val) n

/-- A power domain's state (18 R499). -/
def State.dom (s : State) (d : Nat) : Dom := Tab.getD s.pwr.doms d Dom.reset

/-- Whether a power domain takes new accesses: it reports ready and no switch-off of it is committed
(01 R27). -/
def State.domReady (s : State) (d : Nat) : Bool := decide ((s.dom d).state = .on)

/-- Whether a power domain runs: it is ready, or drains before it goes off. -/
def State.domOn (s : State) (d : Nat) : Bool :=
  decide ((s.dom d).state = .on) || decide ((s.dom d).state = .draining)

/-- A power domain replaced. -/
def State.onDom (d : Nat) (f : Dom → Dom) (s : State) : State :=
  s.onPwr fun p => { p with doms := Tab.put p.doms d (f (Tab.getD p.doms d Dom.reset)) Dom.reset }

/-- Bytes of memory. -/
def State.read (s : State) (a n : Nat) : List Byte := memRead s.fab.mem a n

/-- Bytes of memory written. -/
def State.write (a : Nat) (b : List Byte) (s : State) : State :=
  s.onFab fun f => { f with mem := memWrite f.mem a b }

/-- A 32-bit word of memory. -/
def State.word (s : State) (a : Nat) : Word := BitVec.ofNat 32 (leNat (s.read a 4))

/-- A 32-bit word of memory written. -/
def State.setWord (a : Nat) (v : Word) (s : State) : State := s.write a (leBytes 4 v.toNat)

/-- The base of an actuator's island in the physical map (01 R28). -/
def islandBase (a : Fin 4) : Nat := 0x21000000 + 0x100000 * a.val

/-- The tier's code (00 R5). -/
def Tier.code : Tier → Nat
  | .unfused => 0
  | .a => 1
  | .b => 2
  | .c => 3

/-- The index of the next free value, and the state after it is taken (log 15). -/
def State.takeFree (s : State) : State := { s with free := s.free + 1 }

/-- Whether an actuator core's guest firmware runs: the actuator is present, its digital domain on, and the
part fused (00 R7, R9). -/
def State.guestRuns (s : State) (a : Fin 4) : Bool :=
  s.present a && s.domOn (20 + a.val) && decide (s.ident.tier ≠ .unfused)

/-- Whether an actuator's heads are loaded (05 R148). -/
def State.loaded (s : State) (a : Fin 4) : Bool := decide ((s.act a).isl.load = .loaded)

/-- Whether an actuator is treated as unsafe: as 18 R568 gives, and while its PSC link is down
(09 R292). -/
def State.unsafeAct (s : State) (a : Fin 4) : Bool :=
  actIn s.sys.unsafeActs a || (s.act a).psc.declaredDown || (s.act a).psc.badVersion

/-- Whether an actuator is present, loaded and safe. -/
def State.usable (s : State) (a : Fin 4) : Bool := s.present a && s.loaded a && !s.unsafeAct a

/-- Power-on hours of the drive's life (18 R512). -/
def State.poh (s : State) : Nat := s.rc.poh + s.since s.rc.pohBase / (3600 * secTicks)

/-- A media operation starts: LED_ACT is on (20 R539). -/
def State.ledOn (s : State) : State := s.onPorts fun p => { p with ledAct := true, ledAt := s.now }

/-- Usable bytes of DRAM: seven eighths of raw (R393, R395). -/
def State.usableBytes (s : State) : Nat := s.dramc.rawGiB * 2 ^ 30 / 8 * 7

/-- A state changed only when a condition holds. -/
def State.doIf (c : Bool) (f : State → State) (s : State) : State := if c then f s else s

/-- The media operations in flight on an actuator: read operations posted to its island and write operations
accepted. -/
def State.mediaInFlight (s : State) (a : Fin 4) : Nat := (s.act a).rch.ops.length + (s.act a).wp.ops.length

/-- Another media operation may go to an actuator: in ORIENTATION at most four are in flight there (02 R48,
11 R339). -/
def State.mediaRoom (s : State) (a : Fin 4) : Bool :=
  decide (s.sys.mode ≠ .orientation) || decide (s.mediaInFlight a < 4)

end Sys2Proof.Machine
end

