-- ==== Sys2Proof/Machine/Bus.lean ====
section
/-! DEFINITION. The physical memory map (01 R28), and the order of transactions and messages of one pair
of endpoints (01 R15, R16, R20). -/

namespace Sys2Proof.Machine

open Sys2Proof

/-- The base of usable DRAM (01 R28). -/
def dramBase : Nat := 0x800000000

/-- Whether a range lies in installed usable DRAM. -/
def State.inDram (s : State) (a n : Nat) : Bool :=
  decide (dramBase ≤ a) && decide (a + n ≤ dramBase + s.usableBytes)

/-- What the physical memory map holds at an address (01 R28). -/
inductive BusWin where
  | rom
  | sram (bank : Nat)
  | sysctl
  | hall
  | events
  | yearbook
  | dma
  | memctl
  | buffer
  | cipher
  | spindle
  | timetable
  | report
  | island (a : Fin 4)
  | host
  | field
  | pool
  | debug
  | dram
  deriving DecidableEq, Repr

/-- The windows of 1 MiB from 0x2000_0000 on. -/
def winNumber (k : Nat) : Option BusWin :=
  match k with
  | 0 => some .sysctl
  | 1 => some .hall
  | 2 => some .events
  | 3 => some .yearbook
  | 4 => some .dma
  | 5 => some .memctl
  | 6 => some .buffer
  | 7 => some .cipher
  | 8 => some .spindle
  | 9 => some .timetable
  | 10 => some .report
  | 0x10 => some (.island 0)
  | 0x11 => some (.island 1)
  | 0x12 => some (.island 2)
  | 0x13 => some (.island 3)
  | 0x20 => some .host
  | 0x30 => some .field
  | 0x40 => some .pool
  | 0xF0 => some .debug
  | _ => none

/-- The place of an address; none where the map has no window or no installed DRAM (R28). -/
def State.winOf (s : State) (addr : Nat) : Option BusWin :=
  if addr < 0x40000 then some .rom
  else if 0x10000000 ≤ addr && addr < 0x11800000 then some (.sram ((addr - 0x10000000) / 0x600000))
  else if 0x20000000 ≤ addr && addr < 0x30000000 then winNumber ((addr - 0x20000000) / 0x100000)
  else if s.inDram addr 1 then some .dram
  else none

/-- The power domain of a place; none for the always-on island (R10). -/
def BusWin.domain : BusWin → Option Nat
  | .sram b => some (7 + b)
  | .events => some 6
  | .timetable => some 6
  | .dma => some 19
  | .memctl => some 14
  | .dram => some 14
  | .buffer => some 16
  | .cipher => some 18
  | .island a => some (20 + a.val)
  | .host => some 11
  | .field => some 30
  | .pool => some 28
  | .debug => some 31
  | _ => none

/-- Whether the tier has the unit of a place (00 R3). -/
def State.winPresent (s : State) (p : BusWin) : Bool :=
  match p with
  | .cipher => s.hasCipher
  | .island a => s.present a
  | _ => true

/-- The actuator whose core an endpoint is. -/
def coreAct (src : Endpoint) : Option (Fin 4) := allActs.find? fun a => epAct a 0 == src

/-- Whether an endpoint is a core. -/
def isCore (src : Endpoint) : Bool := decide (src.toNat ≤ 4) || (coreAct src).isSome

/-! Pairs of endpoints. -/

/-- The endpoint behind an offset of an actuator island's window (R14, R29). -/
def islandUnit (off : Nat) : Nat :=
  if 0x40000 ≤ off && off < 0x70000 then 0
  else if off / 0x1000 = 1 then 2
  else if off / 0x1000 = 2 || (0x10000 ≤ off && off < 0x30000) then 1
  else if off / 0x1000 = 3 || 0x80000 ≤ off then 3
  else if off / 0x1000 = 4 then 4
  else 5

/-- The endpoint of the unit behind a target, for order and for its own fault reports (R14). -/
def BusWin.endpoint (off : Nat) : BusWin → Endpoint
  | .sram _ => 0x15
  | .hall => epMonitor
  | .events => epEvents
  | .yearbook => epYearbook
  | .dma => epDma
  | .memctl => epMemory
  | .dram => epMemory
  | .buffer => epBuffer
  | .cipher => epCipher
  | .spindle => epSpindle
  | .timetable => epTimetable
  | .report => epReport
  | .island a => epAct a (islandUnit off)
  | .host => epHost 0
  | .field => epField
  | .pool => epDecoder 0
  | .debug => 0x11
  | _ => epSystem

/-- The endpoint an access of an initiator goes to. -/
def State.accEp (s : State) (src : Endpoint) (acc : Access) : Endpoint :=
  match s.winOf acc.addr with
  | some p => p.endpoint (acc.addr % 0x100000)
  | none => src

/-- The endpoint of a transaction's target. -/
def State.targetEp (s : State) (t : Txn) : Endpoint := s.accEp t.src t.acc

/-- Whether a transaction belongs to a pair of endpoints. -/
def State.ofPair (s : State) (src dst : Endpoint) (t : Txn) : Bool := t.src == src && s.targetEp t == dst

/-- Whether an earlier transaction of the same pair is still in flight, so that this one has not arrived
(R15). -/
def State.txnWaits (s : State) (t : Txn) : Bool :=
  (s.fab.txns.takeWhile fun x => x.id != t.id).any (s.ofPair t.src (s.targetEp t))

/-- Whether a pair has a transaction in flight. -/
def State.pairBusy (s : State) (src dst : Endpoint) : Bool := s.fab.txns.any (s.ofPair src dst)

/-- Whether an endpoint's writes have not all been acknowledged (R16, R17). -/
def State.writesOut (s : State) (src : Endpoint) : Bool :=
  s.fab.txns.any fun t => t.src == src && decide (t.acc.kind ≠ .read)

/-- Whether an endpoint has transactions not yet answered. -/
def State.unanswered (s : State) (src : Endpoint) : Bool := s.fab.txns.any fun t => t.src == src

/-- The hardware masters that report a finished job only once its writes are acknowledged (R17). -/
def reportsJobs (src : Endpoint) : Bool :=
  let n := src.toNat
  [0x0A, 0x0B, 0x0D, 0x0E, 0x0F].contains n || (0x18 ≤ n && n < 0x20)
    || (0x20 ≤ n && n < 0x40 && (n % 8 == 3 || n % 8 == 4))

/-- Whether a message can be in its receive queue: no transaction of its pair issued before it is in
flight (R20), no fence issued before it stands (R16), and a hardware master's writes are acknowledged
(R17). -/
def State.msgArrives (s : State) (m : Msg) : Bool :=
  (s.fab.txns.all fun t => !s.ofPair m.src m.dst t || decide (0 < t.behind))
    && (s.fab.fences.all fun f => f.src != m.src || f.msgs.contains m)
    && !(reportsJobs m.src && s.writesOut m.src)

/-- The oldest message that a test accepts, taken from its receive queue, and the state without it. -/
def State.takeMsg (p : Msg → Bool) (s : State) : Option Msg × State :=
  match s.fab.msgs.find? p with
  | some m =>
    if s.msgArrives m then
      (some m, s.onFab fun f => { f with
        msgs := dropFirst p f.msgs
        txns := f.txns.map fun t =>
          if s.ofPair m.src m.dst t then { t with behind := t.behind - 1 } else t
        fences := f.fences.map fun x => { x with msgs := dropFirst (fun y => y == m) x.msgs } })
    else (none, s)
  | none => (none, s)

/-- Messages of a pair of endpoints, in flight or in a receive queue. -/
def State.pairMsgs (s : State) (src dst : Endpoint) : Nat :=
  s.fab.msgs.countP fun m => m.src == src && m.dst == dst

/-- Whether an unanswered transaction goes to a power domain (R27). -/
def State.inFlightTo (s : State) (d : Nat) : Bool :=
  s.fab.txns.any fun t => ((s.winOf t.acc.addr).bind BusWin.domain) == some d

end Sys2Proof.Machine
end

