-- ==== Sys2Proof/Machine/Params.lean ====
section
/-! DEFINITION. The dictionary parameters that rules read, one definition per writable object: the
value written, or its default (03 R69). -/

namespace Sys2Proof.Machine

open Sys2Proof

/-- OD 0x0200.02 MODE_REQUEST (02 R63). -/
def State.p0200ModeRequest (s : State) : Nat := s.odNat 0x020002 3

/-- OD 0x0200.04 RETURN_IDLE (02 R63). -/
def State.p0200ReturnIdle (s : State) : Nat := s.odNat 0x020004 5000

/-- OD 0x0200.05 RECESS_RPM (02 R63). -/
def State.p0200RecessRpm (s : State) : Nat := s.odNat 0x020005 4800

/-- OD 0x0200.07 CAL_LIMIT (02 R63). -/
def State.p0200CalLimit (s : State) : Nat := s.odNat 0x020007 90

/-- OD 0x0202.04 PWRDIS_ENABLE (02 R63). -/
def State.p0202PwrdisEnable (s : State) : Bool := s.odNat 0x020204 1 != 0

/-- OD 0x0202.05 PL_12V_LEVEL (02 R63). -/
def State.p0202Pl12vLevel (s : State) : Nat := s.odNat 0x020205 10200

/-- OD 0x0300.01 NODE_ID (03 R93). -/
def State.p0300NodeId (s : State) : Nat := s.odNat 0x030001 (0x1000 + s.ident.straps.toNat % 64)

/-- OD 0x0300.03 PLCA_ID (03 R93). -/
def State.p0300PlcaId (s : State) : Nat := s.odNat 0x030003 (s.ident.straps.toNat % 64 + 1)

/-- OD 0x0300.04 PLCA_COUNT (03 R93). -/
def State.p0300PlcaCount (s : State) : Nat := s.odNat 0x030004 8

/-- OD 0x0300.05 PLCA_ENABLE (03 R93). -/
def State.p0300PlcaEnable (s : State) : Bool := s.odNat 0x030005 1 != 0

/-- OD 0x0300.0C TRANSPORTS (03 R93). -/
def State.p0300Transports (s : State) : Nat := s.odNat 0x03000C 7

/-- OD 0x0400.08 VISITOR_OPEN (03 R94). -/
def State.p0400VisitorOpen (s : State) : Bool := s.odNat 0x040008 0 != 0

/-- OD 0x2000.08 WAVEFORM (04 R130). -/
def State.p2000Waveform (s : State) : Nat := s.odNat 0x200008 0

/-- OD 0x2010.01 POLES (04 R130). -/
def State.p2010Poles (s : State) : Nat := s.odNat 0x201001 8

/-- OD 0x2010.02 RATED_RPM (04 R130). -/
def State.p2010RatedRpm (s : State) : Nat := s.odNat 0x201002 7200

/-- OD 0x2010.03 PWM_PERIOD (04 R130). -/
def State.p2010PwmPeriod (s : State) : Nat := s.odNat 0x201003 5000

/-- OD 0x2010.04 DEADTIME (04 R130). -/
def State.p2010Deadtime (s : State) : Nat := s.odNat 0x201004 40

/-- OD 0x2010.05 OVERLAP (04 R130). -/
def State.p2010Overlap (s : State) : Nat := s.odNat 0x201005 120

/-- OD 0x2010.06 ADVANCE (04 R130). -/
def State.p2010Advance (s : State) : F32 := BitVec.ofNat 32 (s.odNat 0x201006 0x40800000)

/-- OD 0x2010.07 ALIGN_MS (04 R130). -/
def State.p2010AlignMs (s : State) : Nat := s.odNat 0x201007 150

/-- OD 0x2010.08 ALIGN_I (04 R130). -/
def State.p2010AlignI (s : State) : Nat := s.odNat 0x201008 1200

/-- OD 0x2010.09 ALIGN_STEP (04 R130). -/
def State.p2010AlignStep (s : State) : Nat := s.odNat 0x201009 400

/-- OD 0x2010.0A RAMP_RATE (04 R130). -/
def State.p2010RampRate (s : State) : Nat := s.odNat 0x20100A 300

/-- OD 0x2010.0B RAMP_I (04 R130). -/
def State.p2010RampI (s : State) : Nat := s.odNat 0x20100B 1500

/-- OD 0x2010.0C HANDOVER_RPM (04 R130). -/
def State.p2010HandoverRpm (s : State) : Nat := s.odNat 0x20100C 600

/-- OD 0x2010.0D HANDOVER_STEPS (04 R130). -/
def State.p2010HandoverSteps (s : State) : Nat := s.odNat 0x20100D 16

/-- OD 0x2010.0E LOCK_WIN (04 R130). -/
def State.p2010LockWin (s : State) : Nat := s.odNat 0x20100E 25

/-- OD 0x2010.0F LOCK_INTERVALS (04 R130). -/
def State.p2010LockIntervals (s : State) : Nat := s.odNat 0x20100F 4

/-- OD 0x2010.10 START_RETRIES (04 R130). -/
def State.p2010StartRetries (s : State) : Nat := s.odNat 0x201010 3

/-- OD 0x2010.11 CATCH_RPM (04 R130). -/
def State.p2010CatchRpm (s : State) : Nat := s.odNat 0x201011 150

/-- OD 0x2010.12 OBS_RESID (04 R130). -/
def State.p2010ObsResid (s : State) : F32 := BitVec.ofNat 32 (s.odNat 0x201012 0x3E19999A)

/-- OD 0x2010.13 OBS_LOSS_PER (04 R130). -/
def State.p2010ObsLossPer (s : State) : Nat := s.odNat 0x201013 4

/-- OD 0x2010.14 FLYWHEEL_PER (04 R130). -/
def State.p2010FlywheelPer (s : State) : Nat := s.odNat 0x201014 8

/-- OD 0x2010.15 ACCEL (04 R130). -/
def State.p2010Accel (s : State) : Nat := s.odNat 0x201015 800

/-- OD 0x2010.16 DECEL (04 R130). -/
def State.p2010Decel (s : State) : Nat := s.odNat 0x201016 400

/-- OD 0x2010.17 KP (04 R130). -/
def State.p2010Kp (s : State) : F32 := BitVec.ofNat 32 (s.odNat 0x201017 0x3CA3D70A)

/-- OD 0x2010.18 KI (04 R130). -/
def State.p2010Ki (s : State) : F32 := BitVec.ofNat 32 (s.odNat 0x201018 0x3F000000)

/-- OD 0x2010.19 I_RUN_MAX (04 R130). -/
def State.p2010IRunMax (s : State) : Nat := s.odNat 0x201019 2500

/-- OD 0x2010.1A I_TRIP (04 R130). -/
def State.p2010ITrip (s : State) : Nat := s.odNat 0x20101A 4000

/-- OD 0x2010.1B OV_WARN (04 R130). -/
def State.p2010OvWarn (s : State) : Nat := s.odNat 0x20101B 13800

/-- OD 0x2010.1C OV_CHOP_ON (04 R130). -/
def State.p2010OvChopOn (s : State) : Nat := s.odNat 0x20101C 14500

/-- OD 0x2010.1D OV_CHOP_OFF (04 R130). -/
def State.p2010OvChopOff (s : State) : Nat := s.odNat 0x20101D 14000

/-- OD 0x2010.1E CHOP_WIN (04 R130). -/
def State.p2010ChopWin (s : State) : Nat := s.odNat 0x20101E 200

/-- OD 0x2010.1F OV_FATAL (04 R130). -/
def State.p2010OvFatal (s : State) : Nat := s.odNat 0x20101F 15500

/-- OD 0x2010.20 CHOP_SENSE_MIN (04 R130). -/
def State.p2010ChopSenseMin (s : State) : Nat := s.odNat 0x201020 500

/-- OD 0x2010.21 SYNC_RECT_MV (04 R130). -/
def State.p2010SyncRectMv (s : State) : Nat := s.odNat 0x201021 11600

/-- OD 0x2010.22 RELEASE_TOL (04 R130). -/
def State.p2010ReleaseTol (s : State) : Nat := s.odNat 0x201022 50

/-- OD 0x2010.23 RELEASE_WEDGES (04 R130). -/
def State.p2010ReleaseWedges (s : State) : Nat := s.odNat 0x201023 64

/-- OD 0x2010.24 DTC_BANDS (04 R130). -/
def State.p2010DtcBands (s : State) : Nat := s.odNat 0x201024 6553800

/-- OD 0x2010.25 DTC_SAMPLE (04 R130). -/
def State.p2010DtcSample (s : State) : Nat := s.odNat 0x201025 4000

/-- OD 0x2010.26 I_SCALE (04 R130). -/
def State.p2010IScale (s : State) : F32 := BitVec.ofNat 32 (s.odNat 0x201026 0x40000000)

/-- OD 0x2010.27 V_SCALE (04 R130). -/
def State.p2010VScale (s : State) : F32 := BitVec.ofNat 32 (s.odNat 0x201027 0x40A00000)

/-- OD 0x2010.28 PHASE_RES (04 R130). -/
def State.p2010PhaseRes (s : State) : F32 := BitVec.ofNat 32 (s.odNat 0x201028 0x3F8CCCCD)

/-- OD 0x2010.29 PHASE_IND (04 R130). -/
def State.p2010PhaseInd (s : State) : F32 := BitVec.ofNat 32 (s.odNat 0x201029 0x44160000)

/-- OD 0x2010.2A KE (04 R130). -/
def State.p2010Ke (s : State) : F32 := BitVec.ofNat 32 (s.odNat 0x20102A 0x3FACCCCD)

/-- OD 0x2010.2B WEDGES (04 R130). -/
def State.p2010Wedges (s : State) : Nat := s.odNat 0x20102B 600

/-- OD 0x2040.01 CRUISE_ENABLE (04 R130). -/
def State.p2040CruiseEnable (s : State) : Bool := s.odNat 0x204001 1 != 0

/-- OD 0x2040.02 CRUISE_MIN (04 R130). -/
def State.p2040CruiseMin (s : State) : Nat := s.odNat 0x204002 4800

/-- OD 0x2040.03 CRUISE_RATE (04 R130). -/
def State.p2040CruiseRate (s : State) : Nat := s.odNat 0x204003 20

/-- OD 0x2040.04 CRUISE_WR_SLEW (04 R130). -/
def State.p2040CruiseWrSlew (s : State) : Nat := s.odNat 0x204004 40

/-- OD 0x3400.04 SAM_WIN (05 R161). -/
def State.p3400SamWin (s : State) (a : Fin 4) : Nat := s.odNat (0x340004 + 0x10000 * a.val) 150

/-- OD 0x3400.05 READER_SEL (05 R161). -/
def State.p3400ReaderSel (s : State) (a : Fin 4) : Nat := s.odNat (0x340005 + 0x10000 * a.val) 2

/-- OD 0x3400.06 RRO_SUB (05 R161). -/
def State.p3400RroSub (s : State) (a : Fin 4) : Bool := s.odNat (0x340006 + 0x10000 * a.val) 1 != 0

/-- OD 0x3400.07 FROZEN_I (05 R161). -/
def State.p3400FrozenI (s : State) (a : Fin 4) : Nat := s.odNat (0x340007 + 0x10000 * a.val) 50

/-- OD 0x3400.08 LOCK_COUNT (05 R161). -/
def State.p3400LockCount (s : State) (a : Fin 4) : Nat := s.odNat (0x340008 + 0x10000 * a.val) 16

/-- OD 0x3400.09 LOAD_VEL (05 R161). -/
def State.p3400LoadVel (s : State) (a : Fin 4) : F32 := BitVec.ofNat 32 (s.odNat (0x340009 + 0x10000 * a.val) 0x40A00000)

/-- OD 0x3400.0A UNLOAD_VEL (05 R161). -/
def State.p3400UnloadVel (s : State) (a : Fin 4) : F32 := BitVec.ofNat 32 (s.odNat (0x34000A + 0x10000 * a.val) 0x41000000)

/-- OD 0x3400.0B LOAD_TIMEOUT (05 R161). -/
def State.p3400LoadTimeout (s : State) (a : Fin 4) : Nat := s.odNat (0x34000B + 0x10000 * a.val) 500

/-- OD 0x3400.0C LOAD_RETRIES (05 R161). -/
def State.p3400LoadRetries (s : State) (a : Fin 4) : Nat := s.odNat (0x34000C + 0x10000 * a.val) 2

/-- OD 0x3400.0D SHOCK_THR (05 R161). -/
def State.p3400ShockThr (s : State) (a : Fin 4) : Nat := s.odNat (0x34000D + 0x10000 * a.val) 1024

/-- OD 0x3400.0E SHOCK_HOLD (05 R161). -/
def State.p3400ShockHold (s : State) (a : Fin 4) : Nat := s.odNat (0x34000E + 0x10000 * a.val) 500

/-- OD 0x3400.0F RV_SCALE (05 R161). -/
def State.p3400RvScale (s : State) (a : Fin 4) : F32 := BitVec.ofNat 32 (s.odNat (0x34000F + 0x10000 * a.val) 0x3C23D70A)

/-- OD 0x3400.10 KB (05 R161). -/
def State.p3400Kb (s : State) (a : Fin 4) : F32 := BitVec.ofNat 32 (s.odNat (0x340010 + 0x10000 * a.val) 0x3C449BA6)

/-- OD 0x3400.15 VCM_I_FS (05 R161). -/
def State.p3400VcmIFs (s : State) (a : Fin 4) : Nat := s.odNat (0x340015 + 0x10000 * a.val) 2000

/-- OD 0x3400.16 VCM_V_FS (05 R161). -/
def State.p3400VcmVFs (s : State) (a : Fin 4) : Nat := s.odNat (0x340016 + 0x10000 * a.val) 12000

/-- OD 0x3400.17 MA_LIMIT (05 R161). -/
def State.p3400MaLimit (s : State) (a : Fin 4) : Nat := s.odNat (0x340017 + 0x10000 * a.val) 900

/-- OD 0x3400.18 SERVO_BITS (05 R161). -/
def State.p3400ServoBits (s : State) (a : Fin 4) : Nat := s.odNat (0x340018 + 0x10000 * a.val) 4096

/-- OD 0x3400.19 TID_TOL (05 R161). -/
def State.p3400TidTol (s : State) (a : Fin 4) : Nat := s.odNat (0x340019 + 0x10000 * a.val) 64

/-- OD 0x3400.1A BURST_GAIN (05 R161). -/
def State.p3400BurstGain (s : State) (a : Fin 4) : F32 := BitVec.ofNat 32 (s.odNat (0x34001A + 0x10000 * a.val) 0x3F800000)

/-- OD 0x3400.1B BURST_MIN (05 R161). -/
def State.p3400BurstMin (s : State) (a : Fin 4) : Nat := s.odNat (0x34001B + 0x10000 * a.val) 300

/-- OD 0x3400.1C RV_BW (05 R161). -/
def State.p3400RvBw (s : State) (a : Fin 4) : Nat := s.odNat (0x34001C + 0x10000 * a.val) 2000

/-- OD 0x3400.1D SHOCK_SCALE (05 R161). -/
def State.p3400ShockScale (s : State) (a : Fin 4) : F32 := BitVec.ofNat 32 (s.odNat (0x34001D + 0x10000 * a.val) 0x3D4CCCCD)

/-- OD 0x3400.1E RAMP_DIR (05 R161). -/
def State.p3400RampDir (s : State) (a : Fin 4) : Nat := s.odNat (0x34001E + 0x10000 * a.val) 0

/-- OD 0x3000.05 SLACK_THR (06 R200). -/
def State.p3000SlackThr (s : State) (a : Fin 4) : Nat := s.odNat (0x300005 + 0x10000 * a.val) 100

/-- OD 0x3000.06 RECOVER_N (06 R200). -/
def State.p3000RecoverN (s : State) (a : Fin 4) : Nat := s.odNat (0x300006 + 0x10000 * a.val) 32

/-- OD 0x3000.07 DECAY (06 R200). -/
def State.p3000Decay (s : State) (a : Fin 4) : F32 := BitVec.ofNat 32 (s.odNat (0x300007 + 0x10000 * a.val) 0x3F666666)

/-- OD 0x3000.08 DAMP_MS (06 R200). -/
def State.p3000DampMs (s : State) (a : Fin 4) : Nat := s.odNat (0x300008 + 0x10000 * a.val) 2

/-- OD 0x3000.09 VCOMP (06 R200). -/
def State.p3000Vcomp (s : State) (a : Fin 4) : Bool := s.odNat (0x300009 + 0x10000 * a.val) 0 != 0

/-- OD 0x3000.0A VNOM (06 R200). -/
def State.p3000Vnom (s : State) (a : Fin 4) : F32 := BitVec.ofNat 32 (s.odNat (0x30000A + 0x10000 * a.val) 0x41400000)

/-- OD 0x3000.0B VCM_MODE (06 R200). -/
def State.p3000VcmMode (s : State) (a : Fin 4) : Nat := s.odNat (0x30000B + 0x10000 * a.val) 0

/-- OD 0x3000.0C XC_ENABLE (06 R200). -/
def State.p3000XcEnable (s : State) (a : Fin 4) : Nat := s.odNat (0x30000C + 0x10000 * a.val) 65535

/-- OD 0x4000.09 MARGIN_ITER (07 R236). -/
def State.p4000MarginIter (s : State) (a : Fin 4) : Nat := s.odNat (0x400009 + 0x10000 * a.val) 2

/-- OD 0x4000.0B READER_ENABLE (07 R236). -/
def State.p4000ReaderEnable (s : State) (a : Fin 4) : Nat := s.odNat (0x40000B + 0x10000 * a.val) 3

/-- OD 0x47F0.01 ONLINE (07 R237). -/
def State.p47F0Online (s : State) : Nat := s.odNat 0x47F001 255

/-- OD 0x47F0.02 REPLAY_RESERVE (07 R237). -/
def State.p47F0ReplayReserve (s : State) : Nat := s.odNat 0x47F002 4

/-- OD 0x47F0.03 REPLAY_ITER_MAX (07 R237). -/
def State.p47F0ReplayIterMax (s : State) : Nat := s.odNat 0x47F003 60

/-- OD 0x4400.04 MARK_ERR (08 R265). -/
def State.p4400MarkErr (s : State) : Nat := s.odNat 0x440004 4

/-- OD 0x4400.05 MARK_WIN (08 R265). -/
def State.p4400MarkWin (s : State) : Nat := s.odNat 0x440005 24

/-- OD 0x4400.06 CONT_WIN (08 R265). -/
def State.p4400ContWin (s : State) : Nat := s.odNat 0x440006 8

/-- OD 0x4400.07 ROW_GROUP (08 R265). -/
def State.p4400RowGroup (s : State) : Nat := s.odNat 0x440007 32

/-- OD 0x4400.09 OFFSET_WORD (08 R265). -/
def State.p4400OffsetWord (s : State) : Nat := s.odNat 0x440009 65535

/-- OD 0x4400.0A RECOVERY_BANKS (08 R265). -/
def State.p4400RecoveryBanks (s : State) : Nat := s.odNat 0x44000A 0

/-- OD 0x4410.01 SLIP_ITER (08 R266). -/
def State.p4410SlipIter (s : State) : Nat := s.odNat 0x441001 20

/-- OD 0x4410.02 SLIP_RANGE (08 R266). -/
def State.p4410SlipRange (s : State) : Nat := s.odNat 0x441002 4

/-- OD 0x4410.03 OFS_STEP (08 R266). -/
def State.p4410OfsStep (s : State) : Nat := s.odNat 0x441003 13

/-- OD 0x4410.04 OFS_COUNT (08 R266). -/
def State.p4410OfsCount (s : State) : Nat := s.odNat 0x441004 2

/-- OD 0x4410.05 STEP_ENABLE (08 R266). -/
def State.p4410StepEnable (s : State) : Nat := s.odNat 0x441005 60

/-- OD 0x4410.06 LADDER_LIMIT (08 R266). -/
def State.p4410LadderLimit (s : State) : Nat := s.odNat 0x441006 3000

/-- OD 0x4420.01 WINDOW_POH (08 R267). -/
def State.p4420WindowPoh (s : State) : Nat := s.odNat 0x442001 720

/-- OD 0x4420.02 THRESHOLD (08 R267). -/
def State.p4420Threshold (s : State) : Nat := s.odNat 0x442002 2

/-- OD 0x4420.05 CURSOR (08 R267). -/
def State.p4420Cursor (s : State) : Nat := s.odNat 0x442005 0

/-- OD 0x4420.09 DETAIN_STEP (08 R267). -/
def State.p4420DetainStep (s : State) : Nat := s.odNat 0x442009 3

/-- OD 0x4800.04 SUP12_LO (09 R298). -/
def State.p4800Sup12Lo (s : State) (a : Fin 4) : Nat := s.odNat (0x480004 + 0x10000 * a.val) 11000

/-- OD 0x4800.05 SUP12_HI (09 R298). -/
def State.p4800Sup12Hi (s : State) (a : Fin 4) : Nat := s.odNat (0x480005 + 0x10000 * a.val) 13500

/-- OD 0x4800.06 SUP5_LO (09 R298). -/
def State.p4800Sup5Lo (s : State) (a : Fin 4) : Nat := s.odNat (0x480006 + 0x10000 * a.val) 4600

/-- OD 0x4800.07 SUP5_HI (09 R298). -/
def State.p4800Sup5Hi (s : State) (a : Fin 4) : Nat := s.odNat (0x480007 + 0x10000 * a.val) 5400

/-- OD 0x4800.08 RES_WIN (09 R298). -/
def State.p4800ResWin (s : State) (a : Fin 4) : Nat := s.odNat (0x480008 + 0x10000 * a.val) 50

/-- OD 0x4800.09 RES_TRIES (09 R298). -/
def State.p4800ResTries (s : State) (a : Fin 4) : Nat := s.odNat (0x480009 + 0x10000 * a.val) 3

/-- OD 0x1400.06 SPARE_WARN (10 R333). -/
def State.p1400SpareWarn (s : State) : Nat := s.odNat 0x140006 10

/-- OD 0x1400.0B EXTENT_CAP (10 R333). -/
def State.p1400ExtentCap (s : State) : Nat := s.odNat 0x14000B 16777216

/-- OD 0x1400.0C SPARE_FRACTION (10 R333). -/
def State.p1400SpareFraction (s : State) : Nat := s.odNat 0x14000C 300

/-- OD 0x1410.01 QUORUM (10 R333). -/
def State.p1410Quorum (s : State) : Nat := s.odNat 0x141001 2

/-- OD 0x1410.02 CKPT_EVERY (10 R333). -/
def State.p1410CkptEvery (s : State) : Nat := s.odNat 0x141002 65536

/-- OD 0x1410.03 COMMIT_GATHER (10 R333). -/
def State.p1410CommitGather (s : State) : Nat := s.odNat 0x141003 0

/-- OD 0x1410.04 COMMIT_DEADLINE (10 R333). -/
def State.p1410CommitDeadline (s : State) : Nat := s.odNat 0x141004 20

/-- OD 0x1420.01 CHUNK (10 R333). -/
def State.p1420Chunk (s : State) : Nat := s.odNat 0x142001 1048576

/-- OD 0x1420.02 HEALTH_PENALTY (10 R333). -/
def State.p1420HealthPenalty (s : State) : Nat := s.odNat 0x142002 2000

/-- OD 0x1420.03 HEAT_PENALTY (10 R333). -/
def State.p1420HeatPenalty (s : State) : Nat := s.odNat 0x142003 500

/-- OD 0x1420.04 HEAT_KNEE (10 R333). -/
def State.p1420HeatKnee (s : State) : Int := (BitVec.ofNat 8 (s.odNat 0x142004 55)).toInt

/-- OD 0x1420.05 FDP_AFFINITY (10 R333). -/
def State.p1420FdpAffinity (s : State) : Nat := s.odNat 0x142005 3000

/-- OD 0x1420.06 CACHE_HIGH (10 R333). -/
def State.p1420CacheHigh (s : State) : Nat := s.odNat 0x142006 90

/-- OD 0x1420.07 CACHE_LOW (10 R333). -/
def State.p1420CacheLow (s : State) : Nat := s.odNat 0x142007 70

/-- OD 0x1420.08 GROUP_IDLE (10 R333). -/
def State.p1420GroupIdle (s : State) : Nat := s.odNat 0x142008 2000

/-- OD 0x1430.01 HW_ENABLE (10 R334). -/
def State.p1430HwEnable (s : State) : Bool := s.odNat 0x143001 1 != 0

/-- OD 0x1430.02 MERGE_MIN (10 R334). -/
def State.p1430MergeMin (s : State) : Nat := s.odNat 0x143002 64

/-- OD 0x1430.03 COMPACT_VALID (10 R334). -/
def State.p1430CompactValid (s : State) : Nat := s.odNat 0x143003 250

/-- OD 0x1430.04 TEMP_WINDOW (10 R334). -/
def State.p1430TempWindow (s : State) : Nat := s.odNat 0x143004 24

/-- OD 0x1430.05 WARM_WRITES (10 R334). -/
def State.p1430WarmWrites (s : State) : Nat := s.odNat 0x143005 16

/-- OD 0x1430.06 HOT_WRITES (10 R334). -/
def State.p1430HotWrites (s : State) : Nat := s.odNat 0x143006 256

/-- OD 0x1450.01 BAND_CURSOR (10 R334). -/
def State.p1450BandCursor (s : State) : Nat := s.odNat 0x145001 0

/-- OD 0x1460.01 EXTENT_CURSOR (10 R334). -/
def State.p1460ExtentCursor (s : State) : Nat := s.odNat 0x146001 0

/-- OD 0x1800.01 PERIOD_US (11 R361). -/
def State.p1800PeriodUs (s : State) : Nat := s.odNat 0x180001 1000

/-- OD 0x1800.02 I12_AVG (11 R361). -/
def State.p1800I12Avg (s : State) : Nat := s.odNat 0x180002 1800

/-- OD 0x1800.03 I12_PK (11 R361). -/
def State.p1800I12Pk (s : State) : Nat := s.odNat 0x180003 2600

/-- OD 0x1800.04 I5_AVG (11 R361). -/
def State.p1800I5Avg (s : State) : Nat := s.odNat 0x180004 1200

/-- OD 0x1800.05 I5_PK (11 R361). -/
def State.p1800I5Pk (s : State) : Nat := s.odNat 0x180005 1800

/-- OD 0x1800.06 STAGGER_US (11 R361). -/
def State.p1800StaggerUs (s : State) : Nat := s.odNat 0x180006 200

/-- OD 0x1800.07 POOL_UP_BUSY (11 R361). -/
def State.p1800PoolUpBusy (s : State) : Nat := s.odNat 0x180007 3

/-- OD 0x1800.08 POOL_IDLE_MS (11 R361). -/
def State.p1800PoolIdleMs (s : State) : Nat := s.odNat 0x180008 100

/-- OD 0x1810.01 DL_URGENT (11 R361). -/
def State.p1810DlUrgent (s : State) : Nat := s.odNat 0x181001 50

/-- OD 0x1810.02 DL_HIGH (11 R361). -/
def State.p1810DlHigh (s : State) : Nat := s.odNat 0x181002 200

/-- OD 0x1810.03 DL_MEDIUM (11 R361). -/
def State.p1810DlMedium (s : State) : Nat := s.odNat 0x181003 500

/-- OD 0x1810.04 DL_LOW (11 R361). -/
def State.p1810DlLow (s : State) : Nat := s.odNat 0x181004 2000

/-- OD 0x1810.05 SLACK_GUARD (11 R361). -/
def State.p1810SlackGuard (s : State) : Nat := s.odNat 0x181005 5

/-- OD 0x1810.06 COST_WEIGHT (11 R361). -/
def State.p1810CostWeight (s : State) : F32 := BitVec.ofNat 32 (s.odNat 0x181006 0x40000000)

/-- OD 0x1810.07 LATE_HALF_LIFE (11 R361). -/
def State.p1810LateHalfLife (s : State) : Nat := s.odNat 0x181007 10

/-- OD 0x1810.08 LATE_EXIT (11 R361). -/
def State.p1810LateExit (s : State) : Nat := s.odNat 0x181008 1000

/-- OD 0x1820.01 K_SEEK (11 R361). -/
def State.p1820KSeek (s : State) : Nat := s.odNat 0x182001 200

/-- OD 0x1820.02 TRACK_FOLLOW (11 R361). -/
def State.p1820TrackFollow (s : State) : Nat := s.odNat 0x182002 40

/-- OD 0x1820.03 PREAMP_IDLE (11 R361). -/
def State.p1820PreampIdle (s : State) : Nat := s.odNat 0x182003 60

/-- OD 0x1820.04 PREAMP_READ (11 R361). -/
def State.p1820PreampRead (s : State) : Nat := s.odNat 0x182004 30

/-- OD 0x1820.05 WRITE (11 R361). -/
def State.p1820Write (s : State) : Nat := s.odNat 0x182005 220

/-- OD 0x1820.06 HEAT_WR (11 R361). -/
def State.p1820HeatWr (s : State) : Nat := s.odNat 0x182006 40

/-- OD 0x1820.07 CHIP_BASE (11 R361). -/
def State.p1820ChipBase (s : State) : Nat := s.odNat 0x182007 380

/-- OD 0x1820.08 POOL_HALF (11 R361). -/
def State.p1820PoolHalf (s : State) : Nat := s.odNat 0x182008 70

/-- OD 0x1820.09 CIPHER (11 R361). -/
def State.p1820Cipher (s : State) : Nat := s.odNat 0x182009 25

/-- OD 0x1820.0A LOAD_I (11 R361). -/
def State.p1820LoadI (s : State) : Nat := s.odNat 0x18200A 250

/-- OD 0x1820.0B SPIN_ACCEL (11 R361). -/
def State.p1820SpinAccel (s : State) : F32 := BitVec.ofNat 32 (s.odNat 0x18200B 0x40400000)

/-- OD 0x1820.0E CAL_I (11 R361). -/
def State.p1820CalI (s : State) : Nat := s.odNat 0x18200E 300

/-- OD 0x1830.01 UTIL_UP (11 R361). -/
def State.p1830UtilUp (s : State) : Nat := s.odNat 0x183001 60

/-- OD 0x1830.02 UTIL_DOWN (11 R361). -/
def State.p1830UtilDown (s : State) : Nat := s.odNat 0x183002 20

/-- OD 0x1830.03 DOWN_HOLD_S (11 R361). -/
def State.p1830DownHoldS (s : State) : Nat := s.odNat 0x183003 30

/-- OD 0x1830.04 STEP_RPM (11 R361). -/
def State.p1830StepRpm (s : State) : Nat := s.odNat 0x183004 600

/-- OD 0x1830.05 DECIDE_S (11 R361). -/
def State.p1830DecideS (s : State) : Nat := s.odNat 0x183005 5

/-- OD 0x1840.01 DIE_KNEE (11 R361). -/
def State.p1840DieKnee (s : State) : Int := (BitVec.ofNat 8 (s.odNat 0x184001 100)).toInt

/-- OD 0x1840.02 DIE_LIMIT (11 R361). -/
def State.p1840DieLimit (s : State) : Int := (BitVec.ofNat 8 (s.odNat 0x184002 110)).toInt

/-- OD 0x1840.03 DIODE_KNEE (11 R361). -/
def State.p1840DiodeKnee (s : State) : Int := (BitVec.ofNat 8 (s.odNat 0x184003 55)).toInt

/-- OD 0x1840.04 DIODE_LIMIT (11 R361). -/
def State.p1840DiodeLimit (s : State) : Int := (BitVec.ofNat 8 (s.odNat 0x184004 65)).toInt

/-- OD 0x1840.05 HEAD_KNEE (11 R361). -/
def State.p1840HeadKnee (s : State) : Int := (BitVec.ofNat 8 (s.odNat 0x184005 65)).toInt

/-- OD 0x1840.06 HEAD_LIMIT (11 R361). -/
def State.p1840HeadLimit (s : State) : Int := (BitVec.ofNat 8 (s.odNat 0x184006 80)).toInt

/-- OD 0x1840.07 F_MIN (11 R361). -/
def State.p1840FMin (s : State) : Nat := s.odNat 0x184007 200

/-- OD 0x1840.08 HEAD_POLL_MS (11 R361). -/
def State.p1840HeadPollMs (s : State) : Nat := s.odNat 0x184008 200

/-- OD 0x1840.09 HYST (11 R361). -/
def State.p1840Hyst (s : State) : Nat := s.odNat 0x184009 3

/-- OD 0x1860.01 OBLIG_SHARE (11 R361). -/
def State.p1860ObligShare (s : State) : Nat := s.odNat 0x186001 25

/-- OD 0x1860.02 RELOC_DEADLINE (11 R361). -/
def State.p1860RelocDeadline (s : State) : Nat := s.odNat 0x186002 60

/-- OD 0x1860.03 MAX_FG_OP (11 R361). -/
def State.p1860MaxFgOp (s : State) : Nat := s.odNat 0x186003 20

/-- OD 0x1860.04 CAL_MAX_MS (11 R361). -/
def State.p1860CalMaxMs (s : State) : Nat := s.odNat 0x186004 200

/-- OD 0x1000.01 PCI_VID (12 R390). -/
def State.p1000PciVid (s : State) : Nat := s.odNat 0x100001 0

/-- OD 0x1000.02 PCI_DID (12 R390). -/
def State.p1000PciDid (s : State) : Nat := s.odNat 0x100002 0

/-- OD 0x1011.01 WRITE_CACHE (12 R390). -/
def State.p1011WriteCache (s : State) : Bool := s.odNat 0x101101 1 != 0

/-- OD 0x1012.01 APST_ENABLE (12 R390). -/
def State.p1012ApstEnable (s : State) : Bool := s.odNat 0x101201 0 != 0

/-- OD 0x1020.05 PS1_I12_AVG (12 R390). -/
def State.p1020Ps1I12Avg (s : State) : Nat := s.odNat 0x102005 1300

/-- OD 0x5000.05 ECC_MODE (13 R416). -/
def State.p5000EccMode (s : State) : Nat := s.odNat 0x500005 1

/-- OD 0x5000.07 MAX_RATE (13 R416). -/
def State.p5000MaxRate (s : State) : Nat := s.odNat 0x500007 8533

/-- OD 0x5010.01 RETRAIN_CHECK (13 R416). -/
def State.p5010RetrainCheck (s : State) : Nat := s.odNat 0x501001 100

/-- OD 0x5010.02 RETRAIN_DRIFT (13 R416). -/
def State.p5010RetrainDrift (s : State) : Nat := s.odNat 0x501002 6

/-- OD 0x5021.03 LOG_CURSOR (13 R416). -/
def State.p5021LogCursor (s : State) : Nat := s.odNat 0x502103 0

/-- OD 0x5030.01 SCRUB_PASS_H (13 R416). -/
def State.p5030ScrubPassH (s : State) : Nat := s.odNat 0x503001 24

/-- OD 0x5030.02 SCRUB_RATE (13 R416). -/
def State.p5030ScrubRate (s : State) : Nat := s.odNat 0x503002 64

/-- OD 0x5040.02 DIRTY_LIMIT (13 R416). -/
def State.p5040DirtyLimit (s : State) : Nat := s.odNat 0x504002 750

/-- OD 0x5040.03 DIRTY_RESUME (13 R416). -/
def State.p5040DirtyResume (s : State) : Nat := s.odNat 0x504003 700

/-- OD 0x5040.05 CACHE_READS (13 R416). -/
def State.p5040CacheReads (s : State) : Bool := s.odNat 0x504005 1 != 0

/-- OD 0x5111.01 SLOT_SELECT (14 R435). -/
def State.p5111SlotSelect (s : State) : Nat := s.odNat 0x511101 0

/-- OD 0x6000.01 MODE (16 R477). -/
def State.p6000Mode (s : State) : Nat := s.odNat 0x600001 0

/-- OD 0x6000.02 HIST_MIN (16 R477). -/
def State.p6000HistMin (s : State) : Nat := s.odNat 0x600002 3

/-- OD 0x6000.03 EO_WIDTH (16 R477). -/
def State.p6000EoWidth (s : State) : Nat := s.odNat 0x600003 1000

/-- OD 0x6000.04 IRQ_CORE (16 R477). -/
def State.p6000IrqCore (s : State) : Nat := s.odNat 0x600004 0

/-- OD 0x6000.06 HIST_CURSOR (16 R477). -/
def State.p6000HistCursor (s : State) : Nat := s.odNat 0x600006 0

/-- OD 0x6100.03 CURSOR (17 R496). -/
def State.p6100Cursor (s : State) : Nat := s.odNat 0x610003 0

/-- OD 0x6100.0C GUEST_RATE (17 R496). -/
def State.p6100GuestRate (s : State) : Nat := s.odNat 0x61000C 64

/-- OD 0x6101.01 WALL_CLOCK (17 R496). -/
def State.p6101WallClock (s : State) : Nat := s.odNat 0x610101 0

/-- OD 0x6200.01 MEASURE_POH (18 R517). -/
def State.p6200MeasurePoh (s : State) : Nat := s.odNat 0x620001 100

/-- OD 0x6200.02 REPLAN_POH (18 R517). -/
def State.p6200ReplanPoh (s : State) : Nat := s.odNat 0x620002 200

/-- OD 0x6200.04 HEADROOM_MIN (18 R517). -/
def State.p6200HeadroomMin (s : State) : Nat := s.odNat 0x620004 25

/-- OD 0x6200.05 SPIN_DRIFT (18 R517). -/
def State.p6200SpinDrift (s : State) : Nat := s.odNat 0x620005 150

/-- OD 0x6200.06 SUP12_MIN (18 R517). -/
def State.p6200Sup12Min (s : State) : Nat := s.odNat 0x620006 11200

/-- OD 0x6200.08 TD_HEAT_MAX (18 R517). -/
def State.p6200TdHeatMax (s : State) : Nat := s.odNat 0x620008 900

/-- OD 0x6200.09 TD_SENSE_THR (18 R517). -/
def State.p6200TdSenseThr (s : State) : Nat := s.odNat 0x620009 400

/-- OD 0x6220.01 HEAD_CURSOR (18 R517). -/
def State.p6220HeadCursor (s : State) : Nat := s.odNat 0x622001 0

/-- OD 0x6300.03 DEBUG_ENABLE (18 R518). -/
def State.p6300DebugEnable (s : State) : Bool := s.odNat 0x630003 0 != 0

/-- OD 0x6310.01 SLACK_TARGET (18 R518). -/
def State.p6310SlackTarget (s : State) : Nat := s.odNat 0x631001 40

/-- OD 0x6320.01 HW_WARN (18 R518). -/
def State.p6320HwWarn (s : State) : Int := (BitVec.ofNat 16 (s.odNat 0x632001 115)).toInt

/-- OD 0x6320.02 HW_TRIP (18 R518). -/
def State.p6320HwTrip (s : State) : Int := (BitVec.ofNat 16 (s.odNat 0x632002 125)).toInt

/-- OD 0x6320.04 DIODE_IDEALITY (18 R518). -/
def State.p6320DiodeIdeality (s : State) : F32 := BitVec.ofNat 32 (s.odNat 0x632004 0x3F810625)

/-- OD 0x6400.01 EVENT_CURSOR (19 R534). -/
def State.p6400EventCursor (s : State) : Nat := s.odNat 0x640001 0

/-- OD 0x6400.05 GPIO_EDGE (19 R534). -/
def State.p6400GpioEdge (s : State) : Nat := s.odNat 0x640005 0

end Sys2Proof.Machine
end

