-- ==== Sys2Proof/Machine/Operands.lean ====
section
/-! DEFINITION. The operand forms several blocks share: the choice of a parameter bank by its KEY
word, the frames of the PSC link and the payload of a sector. -/

namespace Sys2Proof.Machine

open Sys2Proof

/-- MULT_MAX (07 R205). -/
def State.multMax (s : State) : Nat :=
  4200000000 * 60 / (max 1 (s.p2010RatedRpm * s.p2010Wedges))

/-- Whether a MULT may be used: 8,192 to MULT_MAX (07 R211, 09 R275). -/
def multOk (mx m : Nat) : Bool := decide (8192 ≤ m) && decide (m ≤ mx)

/-- Which rule of 07 R211 a bank's KEY word meets for a head and zone: 1, 2 or 3, or none. -/
def keyRule (key : Word) (head zone : Nat) : Option Nat :=
  let k := key.toNat
  let anyHead := bitOf k 30
  let anyZone := bitOf k 29
  if !bitOf k 31 then none
  else if fld k 8 5 = head && fld k 0 6 = zone then some 1
  else if anyZone && fld k 8 5 = head then some 2
  else if anyHead && anyZone then some 3
  else none

/-- The lowest-numbered bank that meets a rule, with a usable MULT. -/
def bankByRule (words : Tab Word) (banks stride mx head zone rule : Nat) : Option Nat :=
  (List.range banks).find? fun b =>
    keyRule (Tab.getD words (stride * b) 0) head zone == some rule
      && multOk mx (fld (Tab.getD words (stride * b + 1) 0).toNat 0 18)

/-- The bank rules 1 to 3 of 07 R211 choose, and the rule. -/
def chooseBank (words : Tab Word) (banks stride mx head zone : Nat) : Option (Nat × Nat) :=
  match bankByRule words banks stride mx head zone 1 with
  | some b => some (b, 1)
  | none =>
    match bankByRule words banks stride mx head zone 2 with
    | some b => some (b, 2)
    | none =>
      match bankByRule words banks stride mx head zone 3 with
      | some b => some (b, 3)
      | none => none

/-- The words of a bank. -/
def bankWords (words : Tab Word) (stride b : Nat) : List Word :=
  (List.range stride).map fun i => Tab.getD words (stride * b + i) 0

/-- CRC-8 of a PSC frame: polynomial x^8 + x^2 + x + 1, initial value 0xFF, over bits 31 to 8
(09 R285). -/
def pscCrc (hi24 : Nat) : Nat := crcBits 8 0x07 0xFF (msbBits 24 hi24)

/-- A PSC frame (09 R285). -/
def pscFrame (di : Bool) (code data : Nat) : Word :=
  let hi := 2 ^ 23 + b2n di * 2 ^ 22 + fld code 0 6 * 2 ^ 16 + fld data 0 16
  BitVec.ofNat 32 (hi * 256 + pscCrc hi)

/-- Whether a received frame's CRC is right. -/
def pscCrcOk (w : Word) : Bool := decide (fld w.toNat 0 8 = pscCrc (fld w.toNat 8 24))

/-- CODE and DATA of a frame from the preamp, when START and DIR are as they must be (09 R285). -/
def pscFields (w : Word) : Option (Nat × Nat) :=
  if bitOf w.toNat 31 && bitOf w.toNat 30 then some (fld w.toNat 24 6, fld w.toNat 8 16) else none

/-- CRC-64 of the first 4,104 bytes of a payload (07 R222). -/
def crc64 (l : List Byte) : Nat :=
  crcBytes 64 0x42F0E1EBA9EA3693 0xFFFFFFFFFFFFFFFF l ^^^ 0xFFFFFFFFFFFFFFFF

/-- The 4,112-byte payload of a sector: data, tag and CRC-64, each most significant byte first
(07 R222; the tag's byte order is log 19). -/
def sectorPayload (data : List Byte) (tag : BitVec 64) : List Byte :=
  let d := padTo 4096 0 data ++ beBytes 8 tag.toNat
  d ++ beBytes 8 (crc64 d)

/-- CRC-32 (IEEE 802.3) of bytes, least significant bit first, inverted in and out. -/
def crc32 (l : List Byte) : Nat :=
  (l.foldl (fun (r : Nat) (b : Byte) =>
    (List.range 8).foldl (fun (r i : Nat) =>
      let x := (r % 2 == 1) != bitOf b.toNat i
      if x then (r / 2) ^^^ 0xEDB88320 else r / 2) r) 0xFFFFFFFF) ^^^ 0xFFFFFFFF

/-- The rate of a timed object in ticks. -/
def msToTicks (ms : Nat) : Nat := ms * msTicks

/-! What the Report Card sees of the supplies and of each head (18 R508 to R512). -/

/-- The card of a head. -/
def State.card (s : State) (a : Fin 4) (h : Nat) : HeadCard :=
  Tab.getD s.rc.heads (32 * a.val + h) HeadCard.reset

/-- The card of a head replaced. -/
def State.onCard (a : Fin 4) (h : Nat) (f : HeadCard → HeadCard) (s : State) : State :=
  s.onRc fun r => { r with
    heads := Tab.put r.heads (32 * a.val + h) (f (s.card a h)) HeadCard.reset }

/-- A threshold of R512 is crossed: a re-plan is due, with event 306 when none was (18 R512, R520). -/
def State.replanTrigger (code : Nat) (s : State) : State :=
  if s.rc.trigger.isSome then s
  else (s.onRc fun r => { r with trigger := some (BitVec.ofNat 3 code) }).event epReport 306 code

/-- Both supply senses are read: the lowest of each re-plan interval are kept, and the lowest 12 V
falling below SUP12_MIN triggers a re-plan (18 R508, R512). -/
def State.sawSupply (v12 v5 : Nat) (s : State) : State :=
  let was := s.rc.min12
  let s := (s.onSys fun y => { y with v12 := v12, v5 := v5 }).onRc fun r => { r with
    min12 := min r.min12 v12, min5 := min r.min5 v5 }
  s.doIf (decide (v12 < s.p6200Sup12Min) && decide (s.p6200Sup12Min ≤ was)) (State.replanTrigger 4)

/-- Sixteenths of a tick in a second (01 R13, R33). -/
def sixteenths : Nat := 3200000000

/-- The speed prediction and R12 use: that of the spindle observer, or rated speed with the spindle
stopped, in rpm times 16. -/
def State.wedgeSpeed (s : State) : Nat :=
  if s.spn.obsSpeed = 0 then 16 * s.p2010RatedRpm else s.spn.obsSpeed.toNat

/-- The wedge period predicted from the spindle's speed, in sixteenths of a tick (01 R12). -/
def State.spindleWedge (s : State) : Nat :=
  16 * 60 * sixteenths / (max 1 (s.wedgeSpeed * s.p2010Wedges))

/-- The last revolution period of a demodulator, when its history holds one (R141). -/
def State.revolution (s : State) (a : Fin 4) : Option Nat :=
  let l := (s.act a).svd.sams
  match l[0]?, l[s.p2010Wedges]? with
  | some x, some y => some (x - y)
  | _, _ => none

/-- The wedge period a demodulator measured last, in sixteenths of a tick. -/
def State.wedgeT (s : State) (a : Fin 4) : Nat :=
  match s.revolution a with
  | some p => p / max 1 s.p2010Wedges
  | none =>
    match (s.act a).svd.sams with
    | x :: y :: _ => x - y
    | _ => s.spindleWedge

/-- ISL_CALGRANT.LEFT: what is left of the grant in force, in units of 10 us (11 R357). -/
def State.calLeft (s : State) (a : Fin 4) : Nat :=
  let c := (s.act a).isl.cal
  if c.active then c.given.toNat - s.since c.since / (10 * usTicks) else 0

end Sys2Proof.Machine
end

