-- ==== Sys2Proof/Machine/HostOps.lean ====
section
/-! DEFINITION. Operations on the table of fetched commands (12 R370) that placement, recovery and
the host rows share. -/

namespace Sys2Proof.Machine

open Sys2Proof

/-- Successful Completion. -/
def nvOk : NvStatus := { code := .success, dnr := false, crd := 0 }

/-- A status with Do Not Retry set and no retry delay. -/
def nvDnr (c : NvCode) : NvStatus := { code := c, dnr := true, crd := 0 }

/-- A status with Do Not Retry clear and no retry delay. -/
def nvRetry (c : NvCode) : NvStatus := { code := c, dnr := false, crd := 0 }

/-- A fetched command by its place in fetch order. -/
def State.cmd? (s : State) (n : Nat) : Option Cmd := s.nvme.cmds.find? fun c => c.n == n

/-- A fetched command replaced. -/
def State.onCmd (n : Nat) (f : Cmd → Cmd) (s : State) : State :=
  s.onNvme fun v => { v with cmds := v.cmds.map fun c => if c.n = n then f c else c }

/-- A command's completion is due with a status. -/
def State.cmdReady (n : Nat) (st : NvStatus) (s : State) : State :=
  s.onCmd n fun c => { c with need := .nothing, status := st }

/-- One map unit of a read has its result; a failed one fails the command (08 R259). -/
def Cmd.unitDone (st : NvStatus) (c : Cmd) : Cmd :=
  let c := if st.code = .success then c else { c with status := st }
  match c.need with
  | .media left => { c with need := if left ≤ 1 then .nothing else .media (left - 1) }
  | _ => c

/-- One map unit of a command has its result. -/
def State.cmdUnit (n : Option Nat) (st : NvStatus) (s : State) : State :=
  match n with
  | none => s
  | some n => s.onCmd n (Cmd.unitDone st)

/-- A command whose group became durable (10 R323). -/
def Cmd.groupDurable (n : Nat) (c : Cmd) : Cmd :=
  match c.need with
  | .data => if c.n = n then { c with need := .nothing } else c
  | .group => if c.n = n then { c with need := .nothing } else c
  | .flush l =>
    let l' := l.filter fun m => m != n
    { c with need := if l'.isEmpty then .nothing else .flush l' }
  | _ => c

/-- The commands that wait for a group which is now durable have their completion due, and the pages it
superseded are free (13 R414). -/
def State.groupDurable (n : Nat) (s : State) : State :=
  (s.onNvme fun v => { v with cmds := v.cmds.map (Cmd.groupDurable n) }).onBuf fun b => { b with
    pages := b.pages.filter fun p => decide (p.frees ≠ some n) }

/-- Add an Error Information entry (12 R386): 64 are kept. -/
def State.errEntry (nsid lba : Nat) (s : State) : State :=
  s.onNvme fun v => { v with
    errCount := v.errCount + 1
    errLog := ((v.errCount + 1, nsid, lba) :: v.errLog).take 64 }

/-- The deadline a command of a class gets (11 R352): 0 urgent, 1 high, 2 medium, 3 low. -/
def State.deadlineMs (s : State) (cls : Nat) : Nat :=
  match cls with
  | 0 => s.p1810DlUrgent
  | 1 => s.p1810DlHigh
  | 2 => s.p1810DlMedium
  | _ => s.p1810DlLow

/-- Obligatory background waits to start (11 R355). -/
def State.oblige (kind job : Nat) (act : Option (Fin 4)) (ms : Nat) (s : State) : State :=
  let o : Oblig := { kind := kind, job := job, act := act, due := s.inTicks (ms * msTicks)
                     missed := false }
  s.onTt fun t => { t with oblig := t.oblig ++ [o] }

/-- Obligatory background no longer waits. -/
def State.obligDone (kind job : Nat) (s : State) : State :=
  s.onTt fun t => { t with oblig := t.oblig.filter fun o => !(o.kind == kind && o.job == job) }

/-- Whether optional background is allowed (10 R324, 11 R343, R353, R360). -/
def State.optionalMay (s : State) : Bool :=
  s.p1430HwEnable && !s.tt.recovery && !s.tt.protDie && !s.tt.protDiode && s.sys.entry.isNone

end Sys2Proof.Machine
end

