-- ==== Sys2Proof/Machine/PlacementOps.lean ====
section
/-! DEFINITION. Operations of placement on its maps, the journal and the write cache (10 R301 to
R323, 13 R414): what other chapters' rows use. -/

namespace Sys2Proof.Machine

open Sys2Proof

/-- An entry of a zone layout (R303). -/
structure ZoneEnt where
  first : Nat
  last : Nat
  spt : Nat
  use : Nat
  twin : Nat
  derate : Nat
  deriving DecidableEq, Repr

/-- The entry of a zone in OD 0x1480 + a (R303); an entry never written is unused. -/
def State.zone (s : State) (a : Fin 4) (z : Nat) : ZoneEnt :=
  let b := padTo 16 0 (s.odBytes (odKey (0x1480 + a.val) (1 + z)) [])
  { first := leNat (b.take 3)
    last := leNat ((b.drop 4).take 3)
    spt := leNat ((b.drop 8).take 2)
    use := leNat ((b.drop 10).take 1)
    twin := leNat ((b.drop 11).take 1)
    derate := leNat ((b.drop 12).take 2) }

/-- Whether a zone's layout was refused (08 R245). -/
def State.zoneRefused (s : State) (a : Fin 4) (z : Nat) : Bool := s.recov.refused.contains (a, z)

/-- The heads of an actuator (log 4). -/
def State.headsOf (s : State) (a : Fin 4) : Nat := nth s.plc.headCount a.val 0

/-- HEAD_STATE of a head (R334). -/
def State.head (s : State) (a : Fin 4) (h : Nat) : HeadState :=
  Tab.getD s.plc.heads (32 * a.val + h) { cls := 0, retired := false, replan := false, twin := none }

/-- HEAD_STATE of a head replaced. -/
def State.onHead (a : Fin 4) (h : Nat) (f : HeadState → HeadState) (s : State) : State :=
  let k := 32 * a.val + h
  s.onPlc fun p => { p with heads := Tab.set p.heads k (f (s.head a h)) }

/-- The head of an actuator's system area: the lowest that is not write-retired (R306). -/
def State.sysHead (s : State) (a : Fin 4) : Option Nat :=
  (List.range (s.headsOf a)).find? fun h => !(s.head a h).retired

/-- The tracks of a band slot, guard track included (R304). -/
def slotTracks (spt : Nat) : Nat := (73728 + spt - 1) / (max 1 spt) + 1

/-- The band slots of one head in a zone (R304). -/
def zoneSlots (z : ZoneEnt) : Nat := (z.last + 1 - z.first) / slotTracks z.spt

/-- The place so many sectors on from a place, in write order (R305). -/
def State.advance (s : State) (loc : Loc) (zone : BitVec 6) (sector d : Nat) : Loc × Nat :=
  let spt := max 1 (s.zone loc.act zone.toNat).spt
  let p := sector + d
  ({ loc with track := loc.track + BitVec.ofNat 24 (p / spt) }, p % spt)

/-- Where a position of a stripe lies: track and sector (R305). -/
def stripePlace (t : Stripe) (pos : Nat) : Nat × Nat :=
  let p := pos % max 1 t.size
  (t.first + p / max 1 t.spt, p % max 1 t.spt)

/-- Sectors free in a stripe: from the write point round to the tail (R305). -/
def stripeFree (t : Stripe) : Nat := t.size - (t.write - t.tail)

/-- An extent without the units of a range, in at most two pieces (R310: the pieces carry its
generation). -/
def State.extCut (s : State) (lo hi maxGen : Nat) (e : Extent) : List Extent :=
  if e.gmu + e.len ≤ lo || hi ≤ e.gmu || maxGen < e.gen then [e]
  else
    let front := if e.gmu < lo then [{ e with len := lo - e.gmu }] else []
    let back :=
      if hi < e.gmu + e.len then
        let (l, sec) := s.advance e.loc e.zone e.sector (hi - e.gmu)
        [{ e with gmu := hi, len := e.gmu + e.len - hi, loc := l, sector := sec }]
      else []
    front ++ back

/-- Insert an extent in the order of its first unit. -/
def extInsert (e : Extent) : List Extent → List Extent
  | [] => [e]
  | x :: r => if e.gmu ≤ x.gmu then e :: x :: r else x :: extInsert e r

/-- The covering extent of a unit with the highest generation (R311). -/
def extAt (g : Nat) : List Extent → Option Extent
  | [] => none
  | e :: r =>
    let best := extAt g r
    if e.gmu ≤ g && decide (g < e.gmu + e.len) then
      match best with
      | some b => if b.gen < e.gen then some e else some b
      | none => some e
    else best

/-- The band map entry of a band; an unlisted band is unwritten (R308). -/
def State.band (s : State) (glb : Nat) : BandEntry :=
  ((s.plc.bands.find? fun b => b.glb == glb)).getD
    { glb := glb, loc := none, gen := 0, state := .unwritten, temp := 0, zone := 0,
      replan := false, merging := false, cached := 0, writes := 0
      geom := { k := 32, serial := 0, used := 0 } }

/-- The band map with one entry set. -/
def bandSet (b : BandEntry) : List BandEntry → List BandEntry
  | [] => [b]
  | x :: r => if x.glb = b.glb then b :: r else if b.glb < x.glb then b :: x :: r
    else x :: bandSet b r

/-- A band map entry replaced. -/
def State.onBand (glb : Nat) (f : BandEntry → BandEntry) (s : State) : State :=
  s.onPlc fun p => { p with bands := bandSet (f (s.band glb)) p.bands }

/-- The units of a band that extents hold (CACHED of R308). -/
def cachedUnits (glb : Nat) (l : List Extent) : Nat :=
  l.foldl (fun n e =>
    let lo := max e.gmu (glb * 65536)
    let hi := min (e.gmu + e.len) ((glb + 1) * 65536)
    n + (hi - lo)) 0

/-- The extents that lie in the slot of a pooled band (R309, R321). -/
def State.slotExtents (s : State) (b : BandEntry) (l : List Extent) : List Extent :=
  match b.loc with
  | none => []
  | some p =>
    let n := slotTracks (s.zone p.act b.zone.toNat).spt
    l.filter fun e => decide (e.kind = .rehomed) && decide (e.loc.act = p.act)
      && decide (e.loc.head = p.head) && decide (p.track.toNat ≤ e.loc.track.toNat)
      && decide (e.loc.track.toNat < p.track.toNat + n)

/-- CACHED of a band map entry: units held by extents, or for a pooled band its valid units (R308). -/
def State.cachedOf (s : State) (b : BandEntry) : Nat :=
  if b.state = .pooled then (s.slotExtents b s.plc.extents).foldl (fun n e => n + e.len) 0 else b.cached

/-- The bytes of sectors a band's slot holds when all its units are written, with the fillers of the last
group: data sectors (R304, R316). -/
def fullUse (k : Nat) : Nat := (65536 + max 1 k - 1) / max 1 k * max 1 k

/-- The last group serial number a slot can take; 0 while it has none. -/
def BandGeom.last (g : BandGeom) : Nat :=
  if g.used = 0 then 0 else g.serial + fullUse g.k / max 1 g.k - 1

/-- Slots a band no longer has wait until they are durably free (R320); a slot written further stays. -/
def State.holdSlot (b : BandEntry) (next : Option Loc) (s : State) : State :=
  match b.loc with
  | none => s
  | some l =>
    if next = some l then s
    else s.onPlc fun p => { p with held := p.held ++ [{ glb := b.glb, loc := l, zone := b.zone }] }

/-- Whether a row group's sectors are written anew by a later one of the same ring (R305). -/
def overwritten (size : Nat) (g x : RowGroup) : Bool :=
  x.stripe == g.stripe && decide (x.serial < g.serial) && decide (0 < size)
    && decide (x.pos + size < g.pos + g.k + 2)

/-- CACHED of a band brought up to date. -/
def State.recount (glb : Nat) (s : State) : State :=
  s.onBand glb fun b => { b with cached := min (cachedUnits glb s.plc.extents) (2 ^ 32 - 1) }

/-- What of an extent no newer extent of the map covers (R311). -/
def State.extNewer (s : State) (x : Extent) : List Extent :=
  (s.plc.extents.filter fun e => decide (x.gen < e.gen)).foldl
    (fun l e => l.flatMap (s.extCut e.gmu (e.gmu + e.len) x.gen)) [x]

/-- One journal entry's change to the maps, as it is made and as restore makes it again (R317,
R322). -/
def State.applyEntry (e : JEntry) (s : State) : State :=
  match e with
  | .extentAdded x =>
    (s.onPlc fun p => { p with
      gen := max p.gen x.gen
      extents := (s.extNewer x).foldl (fun l e => extInsert e l)
        (p.extents.flatMap (s.extCut x.gmu (x.gmu + x.len) x.gen)) })
      |>.recount (x.gmu / 65536) |>.recount ((x.gmu + x.len - 1) / 65536)
  | .extentsRemoved g l mg =>
    (s.onPlc fun p => { p with extents := p.extents.flatMap (s.extCut g (g + l) mg) })
      |>.recount (g / 65536)
  | .bandRemapped glb loc zone gen mg geom =>
    (((s.holdSlot (s.band glb) (some loc)).onBand glb fun b => { b with
        loc := some loc, zone := zone, gen := gen, state := .home, merging := false,
        replan := false, geom := geom })
      |>.onPlc fun p => { p with
        extents := p.extents.flatMap fun x =>
          if (x.temp = 0 && decide (x.kind ≠ .unreadable)) || decide (x.kind = .deallocated) then
            s.extCut (glb * 65536) ((glb + 1) * 65536) mg x
          else [x] })
      |>.onPlc (fun p => { p with serial := max p.serial geom.last })
      |>.recount glb
  | .bandState glb st t =>
    if st = .home || st = .pooled then s.onBand glb fun b => { b with state := st, temp := t }
    else (s.holdSlot (s.band glb) none).onBand glb fun b => { b with state := st, temp := t, loc := none }
  | .freed l => s.onPlc fun p => { p with held := p.held.filter fun h => h.loc != l }
  | .group g =>
    let size := ((s.plc.stripes[g.stripe]?).map fun t => t.size).getD 0
    s.onPlc fun p => { p with
      serial := max p.serial g.serial
      groups := g :: p.groups.filter fun x => x.serial != g.serial && !overwritten size g x }
  | .nspace n created =>
    s.onPlc fun p => { p with
      nss := if created then p.nss.filter (fun x => x.nsid != n.nsid) ++ [n]
             else p.nss.filter fun x => x.nsid != n.nsid }
  | .detention d removed =>
    s.onRecov fun r => { r with
      detention :=
        let l := r.detention.filter fun x =>
          !(x.act == d.act && x.head == d.head && x.track == d.track && x.sector == d.sector)
        if removed then l else l ++ [d] }
  | .genFloor n => s.onPlc fun p => { p with gen := max p.gen n, genFloor := max p.genFloor n }
  | .groupEnd _ => s

/-- Queue a journal entry; `waited` says that a command waits for it, which makes the commit
obligatory (R319, 11 R355). -/
def State.journal (waited : Bool) (e : JEntry) (s : State) : State :=
  let first := waited && s.plc.pendSince.isNone
  let s := s.onPlc fun p => { p with
    pend := p.pend ++ [e]
    pendAt := if p.pend.isEmpty then some s.now else p.pendAt
    pendSince := if first then some s.now else p.pendSince }
  s.doIf first fun t => t.oblige 3 0 none t.p1410CommitDeadline

/-- Make a change to the maps and journal it (R317). -/
def State.change (waited : Bool) (e : JEntry) (s : State) : State :=
  (s.applyEntry e).journal waited e

/-- How far the journaled floor of the generation counter is set ahead of the counter (R310, R317: log
61). -/
def genStride : Nat := 2 ^ 24

/-- The next extent generation (R310). A floor is journaled well ahead of the counter, so that no
generation comes again after a loss of power (R317). -/
def State.takeGen (s : State) : State :=
  let s := s.onPlc fun p => { p with gen := p.gen + 1 }
  if s.plc.genFloor < s.plc.gen + genStride / 2 then
    let n := s.plc.gen + genStride
    ((s.onPlc fun p => { p with genFloor := n }).journal false (.genFloor n)).journal false (.groupEnd 0)
  else s

/-- The namespace of an NSID. -/
def State.ns? (s : State) (nsid : Nat) : Option Ns := s.plc.nss.find? fun n => n.nsid == nsid

/-- The global map unit of a logical block (R301, R302). -/
def nsUnit (n : Ns) (lba : Nat) : Option Nat :=
  let per := if n.lbaf = 0 then 524288 else 65536
  let u := if n.lbaf = 0 then (lba / 8) % 65536 else lba % 65536
  (n.bands[lba / per]?).map fun g => g * 65536 + u

/-- The global map units of a run of logical blocks, each once, in order (R302). -/
def nsUnits (n : Ns) (lba nlb : Nat) : List Nat :=
  let step := if n.lbaf = 0 then 8 else 1
  let first := lba / step
  let last := (lba + nlb - 1) / step
  (List.range (last + 1 - first)).filterMap fun i => nsUnit n ((first + i) * step)

/-- Where a map unit's data stands (R311). -/
inductive Where where
  /-- A write cache page. -/
  | page
  /-- Zeros: deallocated, unwritten or released. -/
  | zeros
  /-- Marked unreadable. -/
  | unreadable
  /-- On the media: place, sector, zone and tag. -/
  | media (loc : Loc) (sector : Nat) (zone : BitVec 6) (tag : BitVec 64)
  deriving DecidableEq, Repr

/-- A tag: kind, GEN and identity (R312). -/
def mkTag (kind gen ident : Nat) : BitVec 64 :=
  BitVec.ofNat 64 (fld kind 0 4 * 2 ^ 60 + fld gen 0 12 * 2 ^ 48 + fld ident 0 48)

/-- The page that holds a unit. -/
def State.page? (s : State) (g : Nat) : Option Page := s.buf.pages.find? fun p => p.unit == g

/-- A data sector's place among its band's groups of k data sectors, P and Q (R316). -/
def bandSectorIndex (k u : Nat) : Nat := u / max 1 k * (k + 2) + u % max 1 k

/-- A free is checked against the maps (R320): a slot that a band has or an extent lies in is not freed,
with fatal fault source 30; a slot that is unreferenced is journaled as free. -/
def State.freeSlot (h : HeldSlot) (s : State) : State :=
  let n := slotTracks (s.zone h.loc.act h.zone.toNat).spt
  let used := (s.plc.bands.any fun b => b.loc == some h.loc)
    || (s.plc.extents.any fun e => decide (e.kind = .rehomed) && decide (e.loc.act = h.loc.act)
        && decide (e.loc.head = h.loc.head) && decide (h.loc.track.toNat ≤ e.loc.track.toNat)
        && decide (e.loc.track.toNat < h.loc.track.toNat + n))
  if used then s.fault epPlacement 30 0 else s.journal false (.freed h.loc)

/-- Where a map unit's data stands on the media or as zeros, the write cache aside (R311). -/
def State.resolveMedia (s : State) (g : Nat) : Where :=
  match extAt g s.plc.extents with
  | some e =>
    match e.kind with
    | .deallocated => .zeros
    | .unreadable => .unreadable
    | k =>
      let (l, sec) := s.advance e.loc e.zone e.sector (g - e.gmu)
      .media l sec e.zone (mkTag (if k = .cache then 2 else 3) e.gen g)
  | none =>
    let b := s.band (g / 65536)
    match b.state, b.loc with
    | .home, some l =>
      let (l', sec) := s.advance l b.zone 0 (bandSectorIndex b.geom.k (g % 65536))
      .media l' sec b.zone (mkTag 1 b.gen.toNat g)
    | _, _ => .zeros

/-- Where a map unit's data stands (R311). -/
def State.resolve (s : State) (g : Nat) : Where :=
  match s.page? g with
  | some _ => .page
  | none => s.resolveMedia g

/-- The dirty and destaging pages (13 R414). -/
def State.dirtyPages (s : State) : Nat :=
  s.buf.pages.countP fun p => decide (p.state ≠ .clean)

/-- Dirty pages per mille of usable DRAM (13 R415). -/
def State.dirtyMille (s : State) : Nat := 4096 * 1000 * s.dirtyPages / max 1 s.usableBytes

/-- Write fetching stops at the dirty limit, with event 71, and resumes below the resume level, with
event 72 (13 R415, 12 R370). -/
def State.dirtyCheck (s : State) : State :=
  let m := s.dirtyMille
  if !s.buf.stopped && decide (s.p5040DirtyLimit ≤ m) then
    (s.onBuf fun b => { b with stopped := true }).event epBuffer 71 m
  else if s.buf.stopped && decide (m < s.p5040DirtyResume) then
    (s.onBuf fun b => { b with stopped := false }).event epBuffer 72 m
  else s

/-- A page takes its place as the most recently used; with none FREE the least recently used CLEAN
page is reused (13 R414). -/
def State.pageIn (p : Page) (s : State) : State :=
  s.onBuf fun b => { b with
    pages := (if Config.bufferPages s.usableBytes ≤ b.pages.length then
        dropFirst (fun q => decide (q.state = .clean)) b.pages
      else b.pages) ++ [p] }

/-- Pages that serve a read become the most recently used ones (13 R414). -/
def State.touchPages (us : List Nat) (s : State) : State :=
  s.onBuf fun b => { b with
    pages := (b.pages.filter fun p => !us.contains p.unit) ++ b.pages.filter fun p => us.contains p.unit }

/-- A media read's data is kept as a CLEAN page when OD 0x5040.05 is set (13 R414); a unit that has a
page keeps it. -/
def State.keepRead (unit : Nat) (s : State) : State :=
  if s.p5040CacheReads && (s.page? unit).isNone then
    s.pageIn { unit := unit, state := .clean, gen := 0, cids := [], frees := none }
  else s

/-- A written extent enters the map (R309, R317); one that overlaps an extent of its own generation
violates the maps' invariant (R320, R336). -/
def State.mapWrite (waited : Bool) (e : Extent) (s : State) : State :=
  let twin := s.plc.extents.any fun x => x.gen == e.gen && decide (x.gmu < e.gmu + e.len)
    && decide (e.gmu < x.gmu + x.len)
  (s.doIf twin fun t => t.fault epPlacement 30 1).change waited (.extentAdded e)

/-- Form the group of a write command once none of its units is still to be written: its extents
enter the map and the journal (R318). -/
def State.formGroup (n : Nat) (waited : Bool) (s : State) : State :=
  let mine := s.plc.chunks.filter fun c => c.cmd == n
  let exts : List Extent := mine.filterMap fun c =>
    (s.plc.stripes[c.stripe]?).map fun t =>
      let (tr, sec) := stripePlace t c.pos
      { gmu := c.gmu, len := c.len,
        loc := { act := t.act, head := t.head, track := BitVec.ofNat 24 tr },
        sector := sec, zone := c.zone, kind := .cache, gen := c.gen, temp := c.temp }
  let s := foldS (State.mapWrite waited) exts s
  (s.journal waited (.groupEnd n)).onPlc fun p => { p with
    chunks := p.chunks.filter fun c => c.cmd != n }

/-- Whether a command's write is complete on the media: no page and no unwritten chunk holds part
of it (R318). -/
def State.writeDone (s : State) (n : Nat) : Bool :=
  !(s.buf.pages.any fun p => decide (p.state ≠ .clean) && p.cids.contains n)
    && !(s.plc.chunks.any fun c => c.cmd == n && !c.written)

/-- Whether a command waits for a group to be durable (R319). -/
def State.groupWaited (s : State) (n : Nat) : Bool :=
  s.nvme.cmds.any fun c =>
    match c.need with
    | .data => c.n == n
    | .group => c.n == n
    | .flush l => l.contains n
    | _ => false

/-- Form the groups of the commands of a list whose writes are complete. -/
def State.formDone (ns : List Nat) (s : State) : State :=
  foldS (fun n t => if t.writeDone n then t.formGroup n (t.groupWaited n) else t) ns s

/-- A chunk's write operation has ended: written, its pages become clean (13 R414) and the groups
that are complete are formed; interrupted, its pages are dirty again and it is placed anew. -/
def State.dataEnd (opId : BitVec 32) (ok : Bool) (s : State) : State :=
  match s.plc.chunks.find? fun c => c.opId == opId && !c.written with
  | none => s
  | some c =>
    if ok then
      let hit : Page → Bool := fun p =>
        decide (c.gmu ≤ p.unit) && decide (p.unit < c.gmu + c.len)
          && decide (p.state = .destaging) && decide (p.gen ≤ c.gen)
      let ns := ((s.buf.pages.filter hit).flatMap fun p => p.cids).eraseDups
      let newer (p : Page) : Bool := s.buf.pages.any fun q => q.unit == p.unit && decide (p.gen < q.gen)
      let s := s.onBuf fun b => { b with
        pages := b.pages.map fun p =>
          if hit p then
            if newer p then { p with cids := [], frees := some c.cmd }
            else { p with state := .clean, cids := [] }
          else p }
      let s := s.onPlc fun p => { p with
        chunks := p.chunks.map fun x => if x.opId = opId then { x with written := true } else x }
      (s.onNvme fun v => { v with mediaBytes := v.mediaBytes + 4096 * c.len })
        |>.formDone (if ns.contains c.cmd then ns else c.cmd :: ns)
    else
      let s := s.onBuf fun b => { b with
        pages := b.pages.map fun p =>
          if decide (c.gmu ≤ p.unit) && decide (p.unit < c.gmu + c.len)
              && decide (p.state = .destaging) then { p with state := .dirty } else p }
      s.onPlc fun p => { p with
        chunks := p.chunks.filter fun x => x.opId != opId
        groups := p.groups.map fun g =>
          if !g.closed && decide (g.stripe = c.stripe) && decide (g.pos ≤ c.pos) then
            { g with parity := false } else g }

/-- The write operation of a group's P and Q has ended: the group is closed, or its parity is
written again later (R250, R316). -/
def State.parityEnd (opId : BitVec 32) (ok : Bool) (s : State) : State :=
  match s.plc.groups.find? fun g => g.qOp == some opId with
  | none => s
  | some g =>
    if ok then
      (s.onPlc fun p => { p with parity := Tab.del p.parity g.serial })
        |>.change false (.group { g with closed := true, qOp := none })
    else
      s.onPlc fun p => { p with
        groups := p.groups.map fun x => if x.serial = g.serial then { x with qOp := none } else x }

/-- A write operation of placement has ended. -/
def State.chunkEnd (opId : BitVec 32) (ok : Bool) (s : State) : State :=
  ((s.dataEnd opId ok).parityEnd opId ok).dirtyCheck

/-- Available spare in per cent (R307). -/
def State.availableSpare (s : State) : Nat :=
  let reserve := 2 * s.actCount
  if s.plc.spareInitial ≤ reserve then 100
  else 100 * (s.plc.spareLeft - reserve) / (s.plc.spareInitial - reserve)

/-- Units of media cache capacity (R305). -/
def State.cacheUnits (s : State) : Nat := s.plc.stripes.foldl (fun n t => n + t.size) 0

/-- Per cent of the media cache between tails and write points (R333). -/
def State.cacheUsed (s : State) : Nat :=
  let u := s.plc.stripes.foldl (fun n t => n + (t.write - t.tail)) 0
  if s.cacheUnits = 0 then 0 else 100 * u / s.cacheUnits

/-- Events 264 and 265 and whether media cache Homework is obligatory (R324, R335). -/
def State.cacheMarks (s : State) : State :=
  let u := s.cacheUsed
  let full := decide (s.p1420CacheHigh < u)
  let ext := s.plc.extents.length
  let s := if full && !s.plc.high then
      (s.onPlc fun p => { p with high := true }).event epPlacement 264 u else s
  let s := if s.plc.high && decide (u < s.p1420CacheLow) then
      (s.onPlc fun p => { p with high := false }).event epPlacement 265 u else s
  let cap := s.plc.extentCap
  let o :=
    if full || decide (cap * 9 < ext * 10) then true
    else if decide (u < s.p1420CacheLow) && decide (ext * 10 < cap * 8) then false
    else s.plc.obligCache
  s.onPlc fun p => { p with obligCache := o }

/-- The place of a sector in the ring of a stripe, if it lies in the stripe (R305). -/
def ringOff (t : Stripe) (p : PhysSector) : Option Nat :=
  let off := (p.track.toNat - t.first) * t.spt + p.sector
  if p.act = t.act && p.head = t.head && decide (t.first ≤ p.track.toNat) && decide (off < t.size) then
    some off
  else none

/-- The position of a stripe that holds a sector, counted on from its tail (R305). -/
def stripePos (t : Stripe) (p : PhysSector) : Option Nat :=
  (ringOff t p).map fun off =>
    let lap := t.tail / max 1 t.size * t.size
    if off + lap < t.tail then off + lap + t.size else off + lap

/-- The first sector of an extent. -/
def Extent.first (e : Extent) : PhysSector :=
  { act := e.loc.act, head := e.loc.head, track := e.loc.track, sector := e.sector }

/-- Whether an extent has its data on the media (R309). -/
def Extent.onMedia (e : Extent) : Bool := decide (e.kind = .cache) || decide (e.kind = .rehomed)

/-- The sectors that reads and recovery ladders hold (R320): of operations posted and captured, of ladders,
and of the media units of reads as the mapping gave them at fetch (R258, R311). -/
def State.readPlaces (s : State) : List PhysSector :=
  let ofJob (a : Fin 4) (j : SectorJob) : PhysSector :=
    { act := a, head := j.head, track := j.track, sector := j.req.sector }
  let ofAct (a : Fin 4) : List PhysSector :=
    let r := (s.act a).rch
    (r.ops.flatMap fun o => o.sectors.map fun q =>
        { act := a, head := o.head, track := o.track, sector := q.sector })
      ++ (r.now.toList ++ r.unstaged ++ r.stage.map fun x => x.job).map (ofJob a)
  allActs.flatMap ofAct
    ++ (s.recov.ladders.map fun l => ofJob l.act l.job)
    ++ s.nvme.cmds.flatMap fun c => c.places.map fun p =>
        { act := p.loc.act, head := p.loc.head, track := p.loc.track, sector := p.sector }

/-- The tail of a stripe moves over sectors that no extent, chunk, read, ladder or Homework copy holds
(R305, R320). The journal's last durable mapping is respected because it runs only when no entry is pending (R320). -/
def State.moveTails (s : State) : State :=
  if s.plc.pend.isEmpty && s.plc.commit.isNone then
    let move : Nat → Stripe → Stripe := fun i t =>
      let held := s.plc.chunks.filterMap fun c => if c.stripe = i then some c.pos else none
      let places := ((s.plc.extents ++ s.plc.jobs.flatMap fun j => j.src).filter Extent.onMedia).map
        Extent.first
      { t with tail := ((places ++ s.readPlaces).filterMap (stripePos t) ++ held).foldl min t.write }
    s.onPlc fun p => { p with stripes := p.stripes.mapIdx move }
  else s

/-- The stripes after a restore (R316, R322): the write point follows the last group of each, and an open
group has the members that the restored mapping knows. -/
def State.restoreStripes (s : State) : State :=
  let span (i : Nat) : Nat := s.plc.groups.foldl (fun m g =>
    if g.stripe = i then max m (g.pos + g.k + 2) else m) 0
  let base := s.plc.stripes.mapIdx fun i t => { t with write := span i, tail := span i - t.size }
  let members (g : RowGroup) : Nat :=
    match base[g.stripe]? with
    | none => g.members
    | some t => (s.plc.extents.filter Extent.onMedia).foldl (fun m e =>
        match stripePos t e.first with
        | some p => if decide (g.pos ≤ p) && decide (p < g.pos + g.k) then max m (p + e.len - g.pos) else m
        | none => m) 0
  let groups := s.plc.groups.map fun g =>
    if g.closed then g else { g with members := min g.k (members g), qOp := none }
  let write (i : Nat) : Nat := groups.foldl (fun m g =>
    if g.stripe = i then max m (if g.closed then g.pos + g.k + 2 else g.pos + g.members) else m) 0
  (s.onPlc fun p => { p with
    groups := groups, stripes := base.mapIdx fun i t => { t with write := write i } }).moveTails

/-- A head takes no new writes any more (R330, R306): jobs that write to it stop, and its system
area moves when it was there. -/
def State.retireHead (a : Fin 4) (h : Nat) (s : State) : State :=
  if (s.head a h).retired then s
  else
    let sys := s.sysHead a
    let s := s.onHead a h fun x => { x with retired := true }
    if sys = some h then s.oblige 6 a.val (some a) 1000 else s

/-- A lasting escalation that means a failing head (R330, R336, 09 R300): of a laser, kind 4 or 5 of fault
offset 11, at the head its preamp has selected, and of fault source 29 at the head of that actuator's system
area. Placement treats the head as write-retired. -/
def State.escalated (source kind : Nat) (s : State) : State :=
  match allActs.find? fun a => source == 99 + 12 * a.val with
  | some a =>
    if kind = 4 || kind = 5 then s.retireHead a (s.act a).pre.head.toNat else s
  | none =>
    if source = 29 then
      match allActs.find? fun a => a.val == kind with
      | some a => ((s.sysHead a).map fun h => s.retireHead a h).getD s
      | none => s
    else s

end Sys2Proof.Machine
end

