-- ==== Sys2Proof/Machine/WritePath.lean ====
section
/-! DEFINITION. The write path and the PSC link of an actuator (09 R270 to R300): write operations,
write inhibit, the frames of the link and the compatible preamplifier at its other end. -/

namespace Sys2Proof.Machine

open Sys2Proof

/-! The link. -/

/-- Where a frame stands in the order of R290: SAFE, WGATE, settings, NOP, raw frames, SENSE_REQ. -/
def pscRank (t : PscTx) : Nat :=
  if t.raw then 4
  else if t.code = 0x10 then 0
  else if t.code = 0x03 then 1
  else if t.code = 0x00 then 3
  else if t.code = 0x0B then 5
  else 2

/-- Put a frame into the queue behind those of its rank and above (R290). -/
def pscInsert (t : PscTx) : List PscTx → List PscTx
  | [] => [t]
  | x :: r => if pscRank t < pscRank x then t :: x :: r else x :: pscInsert t r

/-- Queue a frame on the link. -/
def State.pscQueue (a : Fin 4) (code data : Nat) (s : State) : State :=
  s.onPsc a fun p => { p with
    tx := pscInsert { code := BitVec.ofNat 6 code, data := BitVec.ofNat 16 data, raw := false }
      p.tx }

/-- Queue a value in place of one of the same command that has not been sent. -/
def State.pscRenew (a : Fin 4) (code data : Nat) (s : State) : State :=
  (s.onPsc a fun p => { p with tx := p.tx.filter fun t => t.raw || t.code.toNat != code })
    |>.pscQueue a code data

/-- Queue a setting only when it differs from what the preamp last acknowledged (R277). A value of the same
command that has not been sent is withdrawn, and with one on its way the new value is sent. -/
def State.pscSetting (a : Fin 4) (code data : Nat) (s : State) : State :=
  let p := (s.act a).psc
  if Tab.get? p.acked code = some (BitVec.ofNat 16 data) && !p.waits.any fun x => x.code.toNat == code then
    s.onPsc a fun p => { p with tx := p.tx.filter fun t => t.raw || t.code.toNat != code }
  else s.pscRenew a code data

/-- What a compatible preamplifier does with a valid command (R286). `held` are the fault bits
whose condition still holds. -/
def preampApply (code : BitVec 6) (data held : BitVec 16) (p : Preamp) : Preamp :=
  let d := data.toNat
  if code = 0x01 then { p with head := BitVec.ofNat 5 d }
  else if code = 0x02 then { p with mode := BitVec.ofNat 2 d, safe := 0 }
  else if code = 0x03 then
    if bitOf d 0 && decide (p.mode ≠ 3) then p else { p with wgate := bitOf d 0 }
  else if code = 0x04 then { p with readBias := data }
  else if code = 0x05 then { p with writeCur := data }
  else if code = 0x06 then { p with osDur := BitVec.ofNat 8 d }
  else if code = 0x07 then { p with laserBias := BitVec.ofNat 12 d }
  else if code = 0x08 then { p with laserOp := BitVec.ofNat 12 d }
  else if code = 0x09 then { p with heatRd := BitVec.ofNat 10 d }
  else if code = 0x0A then { p with heatWr := BitVec.ofNat 10 d }
  else if code = 0x0C then { p with faults := p.faults &&& ~~~(data &&& ~~~held) }
  else if code = 0x10 then { p with safe := p.safe ||| BitVec.ofNat 3 d }
  else p

/-- Whether the link may carry a frame: while it is down only SAFE and ID_REQ are sent (R289,
R292). -/
def State.pscMay (s : State) (a : Fin 4) (code : BitVec 6) : Bool :=
  (s.act a).psc.linkUp || ((s.act a).psc.started && (decide (code = 0x10) || decide (code = 0x0D)))

/-- The queued frame that a command frame is, or the frame itself where none is queued. -/
def State.pscFrame (s : State) (a : Fin 4) (code : BitVec 6) (data : BitVec 16) : PscTx :=
  ((s.act a).psc.tx.find? fun t => t.code == code && t.data == data).getD
    { code := code, data := data, raw := false }

/-- A frame reaches the preamp, which applies it (R286, R287). -/
def State.preampTakes (a : Fin 4) (code : BitVec 6) (data held : BitVec 16) (s : State) : State :=
  s.onPre a fun p => { preampApply code data held p with heard := s.now }

/-- A command frame goes out: it leaves the queue, waits for its acknowledgement, and the preamp applies it
(R285, R286, R289). -/
def State.pscEmit (a : Fin 4) (code : BitVec 6) (data held : BitVec 16) (s : State) : State :=
  let x := s.pscFrame a code data
  (s.onPsc a fun p => { p with
      tx := dropFirst (fun t => t.code == code && t.data == data) p.tx
      senseAt := if code = 0x0B && !x.raw then some s.now else p.senseAt
      waits := p.waits ++ [{ code := code, data := data, raw := x.raw, again := 0, sent := s.now }] })
    |>.preampTakes a code data held

/-- No frame ahead of it in the order of R290 waits that the link may carry. -/
def State.pscTurn (s : State) (a : Fin 4) (x : PscTx) : Bool :=
  !(s.act a).psc.tx.any fun t => decide (pscRank t < pscRank x) && s.pscMay a t.code

/-- Send a command frame, in its turn and where the link may carry it. -/
def State.pscSend (a : Fin 4) (code : BitVec 6) (data held : BitVec 16) (s : State) : State :=
  if s.pscMay a code && s.pscTurn a (s.pscFrame a code data) then s.pscEmit a code data held else s

/-! Write inhibit. -/

/-- The lowest bit of a mask. -/
def lowestBit (m : Nat) : Nat := ((List.range 16).find? fun i => bitOf m i).getD 0

/-- WGATE closes: the time it was open counts as laser-on time of the head (18 R514). -/
def State.laserOff (a : Fin 4) (s : State) : State :=
  let w := (s.act a).wp
  match w.ops with
  | [] => s
  | o :: _ =>
    if w.writing then
      s.onCard a o.op.head.toNat fun c => { c with laserTicks := c.laserTicks + s.since w.laserAt }
    else s

/-- Aa.WRD goes idle (R272). -/
def State.wpIdle (a : Fin 4) (s : State) : State :=
  (s.laserOff a).onWp a fun w => { w with writing := false, wrd := [], shifts := [] }

/-- The sector in progress and the rest of the pass count as unwritten: the write path waits for
the sector's next pass (R282). -/
def State.wpCut (a : Fin 4) (bit : Nat) (s : State) : State :=
  match (s.act a).wp.ops with
  | [] => s
  | o :: r =>
    let s := (s.wpIdle a).onWp a fun w => { w with
      ops := { o with cut := some (bit, s.now), target := (s.act a).svd.target } :: r
      inSector := false, flags := setBit w.flags 5 true }
    ((s.pscRenew a 0x03 0).countA 0x480002 a 1).actEvent a 4 21 (bit * 65536 + o.written)

/-- A cause of write inhibit comes into force or is released (R278): events 18 and 19 mark the mask
leaving zero and returning to it, and a sector being written is cut (R282); within a servo gate the
decision falls at the continuation (R283). -/
def State.wpCause (a : Fin 4) (bit : Nat) (on : Bool) (s : State) : State :=
  let w := (s.act a).wp
  let new := setBit w.cause bit on
  if new = w.cause then s
  else
    let s := s.onWp a fun w => { w with cause := new }
    if on then
      let s := if w.cause = 0 then
          (s.onWp a fun w => { w with inhSince := s.now }).actEvent a 4 18 new.toNat else s
      if w.writing then s.wpCut a bit else s
    else if new = 0 then
      (s.onWp a fun w => { w with freeAt := s.now }).actEvent a 4 19 (s.since w.inhSince / usTicks)
    else s

/-- The front write operation ends: its completion record, and placement's part (R282, R299). -/
def State.wpEnd (a : Fin 4) (cause : Option Nat) (s : State) : State :=
  match (s.act a).wp.ops with
  | [] => s
  | o :: r =>
    let s := (s.wpIdle a).onWp a fun w => { w with
      ops := match r with
        | [] => []
        | n :: q => { n with target := (s.act a).svd.target } :: q
      inSector := false, lastEnd := s.now
      done := w.done ++ [{ act := a, opId := o.op.opId, written := o.written, cause := cause }] }
    let s := s.countA 0x480001 a o.written
    match cause with
    | none => (s.actEvent a 4 20 o.written).chunkEnd o.op.opId true
    | some _ => s.chunkEnd o.op.opId false

/-- A change of SVD_TARGET or head ends the operation at once, as an interruption with cause 0
(R282). -/
def State.wpMoved (a : Fin 4) (s : State) : State :=
  if (s.act a).wp.ops.isEmpty then s
  else (s.wpCut a 0).wpEnd a (some 0)

/-- Every accepted operation ends as power is lost (R283). -/
def State.wpPowerLoss (a : Fin 4) (s : State) : State :=
  let s := s.wpCause a 10 true
  foldS (fun _ t => t.wpEnd a (some 10)) (s.act a).wp.ops s

/-- The off-track comparison on a record (R279): `over` says that |POS| exceeds the threshold. -/
def State.wpTrack (a : Fin 4) (pos : F32) (missing : Bool) (s : State) : State :=
  let w := (s.act a).wp
  match w.ops with
  | [] => s
  | o :: _ =>
    match o.bank with
    | none => s
    | some b =>
      if missing then s
      else
        let wot := fld (nth b 8 0).toNat 0 16
        let thr := if w.strict then fMul 0x3F19999A (fRat wot 4096) else fRat wot 4096
        if fLt thr (fAbs pos) then
          (s.onWp a fun w => { w with wotGood := 0, flags := setBit w.flags 0 true })
            |>.wpCause a 2 true
        else
          let s := s.onWp a fun w => { w with wotGood := w.wotGood + 1 }
          if decide (max 1 w.wotRel.toNat ≤ w.wotGood + 1) then s.wpCause a 2 false else s

/-- The speed check at a wedge (R280): `bad` says that the revolution period is out of
tolerance. -/
def State.wpSpeed (a : Fin 4) (bad : Bool) (s : State) : State :=
  let w := (s.act a).wp
  if w.ops.isEmpty then s
  else if bad then
    let s := s.onWp a fun w => { w with speedGood := 0, flags := setBit w.flags 1 true }
    let s := if w.cause.getLsbD 5 then s else s.actFault a 4 10 4
    s.wpCause a 5 true
  else
    let s := s.onWp a fun w => { w with speedGood := w.speedGood + 1 }
    if decide (s.p2010ReleaseWedges ≤ w.speedGood + 1) then s.wpCause a 5 false else s

/-! Write operations. -/

/-- A trimmed value: `v * (1 + t / 1000)`, rounded to the nearest whole number and saturated to a
width (R276). -/
def trimmed (v : Nat) (t : Int) (bits : Nat) : Nat :=
  let x : Int := ((v : Int) * (1000 + t) + 500) / 1000
  min (2 ^ bits - 1) x.toNat

/-- WP_TRIMh of a head, held by OD 0x4810 and 0x4820 (R293, R298). -/
def State.wpTrim (s : State) (a : Fin 4) (h : Nat) : Word :=
  let l := s.odNat (odKey (0x4810 + 0x100 * a.val) (1 + h)) 0
  let t := s.odNat (odKey (0x4820 + 0x100 * a.val) (1 + h)) 0
  BitVec.ofNat 32 (fld t 0 16 * 65536 + fld l 0 16)

/-- Send the frames of step 1 of R277 for a latched bank and trim. -/
def State.wpSetup (a : Fin 4) (head : Nat) (bank : List Word) (trim : Word) (s : State) : State :=
  let word : Nat → Nat := fun i => (nth bank i 0).toNat
  let lt := clampInt (-500) 500 (sfld trim.toNat 0 16)
  let ht := clampInt (-500) 500 (sfld trim.toNat 16 16)
  (s.pscSetting a 0x01 head)
    |>.pscSetting a 0x05 (fld (word 2) 0 16)
    |>.pscSetting a 0x06 (fld (word 3) 0 8)
    |>.pscSetting a 0x07 (fld (word 4) 16 12)
    |>.pscSetting a 0x08 (trimmed (fld (word 4) 0 12) lt 12)
    |>.pscSetting a 0x0A (trimmed (fld (word 5) 0 10) ht 10)

/-- The write bank rules 1 to 3 choose now, as its words (R275). -/
def State.wpChoose (s : State) (a : Fin 4) (op : WriteOp) : Option (List Word) :=
  (chooseBank (s.act a).wp.banks 16 16 s.multMax op.head.toNat op.zone.toNat).map fun b =>
    bankWords (s.act a).wp.banks 16 b.1

/-- `WRITE_OPERATION_ACCEPT` (R271, R275, R276, R283): the bank and trim are latched and the setup
frames sent, or event offset 23 asks for a bank; with a cause in force the first sector waits. -/
def State.acceptWrite (a : Fin 4) (op : WriteOp) (s : State) : State :=
  let bank := s.wpChoose a op
  let trim := s.wpTrim a op.head.toNat
  let w := (s.act a).wp
  let o : WpOp :=
    { op := op, bank := bank, trim := trim, written := 0, tries := 0, heatAt := none
      cut := if w.cause = 0 then none else some (lowestBit w.cause.toNat, s.now)
      target := (s.act a).svd.target }
  let s := s.onWp a fun w => { w with ops := w.ops ++ [o], head := op.head, zone := op.zone }
  match bank with
  | some b => s.wpSetup a op.head.toNat b trim
  | none => s.actEvent a 4 23 (op.head.toNat * 256 + op.zone.toNat)

/-- A bank loaded since acceptance is latched by an operation held for one (R275). -/
def State.wpLateBank (a : Fin 4) (s : State) : State :=
  match (s.act a).wp.ops with
  | [] => s
  | o :: r =>
    match o.bank, s.wpChoose a o.op with
    | none, some b =>
      (s.onWp a fun w => { w with ops := { o with bank := some b } :: r })
        |>.wpSetup a o.op.head.toNat b o.trim
    | _, _ => s

/-- No bank by the first write gate: the operation is refused (R275). -/
def State.wpNoBank (a : Fin 4) (s : State) : State :=
  ((s.onWp a fun w => { w with flags := setBit w.flags 7 true }).actFault a 4 10 0)
    |>.wpEnd a (some 13)

/-- `WRITE_OPERATION_ACCEPT`, and no fifth operation in flight in ORIENTATION (02 R48). -/
def execWriteOperationAccept (a : Fin 4) (op : WriteOp) (s : State) : Eff :=
  .next (if s.present a && s.domOn (20 + a.val) && s.mediaRoom a then s.acceptWrite a op else s)

/-- `NO_BANK_TIMEOUT` (R275). -/
def execNoBankTimeout (a : Fin 4) (s : State) : Eff :=
  let s' := s.wpLateBank a
  .next (match (s'.act a).wp.ops with
    | [] => s
    | o :: _ => if o.bank.isNone then s'.wpNoBank a else s')

/-- `HEAT_LEAD_START` (R277): MODE write-ready, for an operation that has its bank. -/
def execHeatLeadStart (a : Fin 4) (s : State) : Eff :=
  let s' := s.wpLateBank a
  .next (match (s'.act a).wp.ops with
    | [] => s
    | o :: r =>
      if o.bank.isNone then s'
      else
        (s'.onWp a fun w => { w with
            ops := { o with heatAt := some (o.heatAt.getD s.now) } :: r }).pscSetting a 0x02 3)

/-- HEAT_LEAD has elapsed since the front operation's MODE write-ready (R277). -/
def State.heatReady (s : State) (o : WpOp) : Bool :=
  match o.bank, o.heatAt with
  | some b, some t => decide (fld (nth b 7 0).toNat 16 16 * usTicks ≤ s.since t)
  | _, _ => false

/-- A piece goes out on Aa.WRD: its levels, and its transitions shifted by the bank's PRECOMP (R272, R273).
`e` is the sector bit at which the next piece would begin; a sector whose wedge falls in the pad is whole
(08 R245). -/
def State.wpPiece (a : Fin 4) (o : WpOp) (bits : List Bool) (e : Nat) (s : State) : State :=
  let pre := (nth (o.bank.getD []) 6 0).toNat
  (s.onWp a fun w => { w with
      laserAt := if w.writing then w.laserAt else s.now
      wrd := bits
      shifts := pieceShifts pre w.wrd bits
      writing := true, inSector := true, place := if padStart ≤ e then sectorSpan else e })
    |>.pscSetting a 0x03 1

/-- A sector's write begins: the payload is formed and the gate opens (R271, R277). -/
def State.wpBegin (a : Fin 4) (o : WpOp) (r : List WpOp) (room : Nat) (s : State) : State :=
  let (src, tag) := nth o.op.sectors o.written (0, 0)
  let pay := sectorPayload (s.read src 4096) tag
  let e := pieceEnd 0 room
  let s := s.doIf (decide (o.written = 0)) State.ledOn
  (s.onWp a fun w => { w with ops := { o with cut := none } :: r, payload := pay })
    |>.wpPiece a o ((sectorBits pay).take e) e

/-- A continuation's write begins after its wedge: resync field, continuation mark, and the next bits
(08 R244). -/
def State.wpContinue (a : Fin 4) (o : WpOp) (room : Nat) (s : State) : State :=
  let w := (s.act a).wp
  let e := pieceEnd w.place (room - 88)
  s.wpPiece a o (contLead ++ ((sectorBits w.payload).drop w.place).take (e - w.place)) e

/-- The write gate closes. -/
def State.wpGateOff (a : Fin 4) (s : State) : State :=
  if (s.act a).wp.writing then (s.wpIdle a).pscSetting a 0x03 0 else s

/-- The sector in progress has ended when its last piece is out: it counts as written (R282). -/
def State.wpSectorEnd (a : Fin 4) (s : State) : State :=
  match (s.act a).wp.ops with
  | [] => s
  | o :: r =>
    if (s.act a).wp.inSector && decide (sectorSpan ≤ (s.act a).wp.place) then
      s.onWp a fun w => { w with
        ops := { o with written := o.written + 1 } :: r, inSector := false, lastEnd := s.now }
    else s

/-- The write gate of a continuation would open (R277, R283). -/
def State.gateContinue (a : Fin 4) (room : Nat) (s : State) : State :=
  let w := (s.act a).wp
  match w.ops with
  | [] => s
  | o :: _ =>
    if w.writing then s
    else if w.cause ≠ 0 then s.wpCut a (lowestBit w.cause.toNat)
    else s.wpContinue a o room

/-- The write gate of the front operation's next sector would open (R271, R275, R277, R283); where the wedge
falls in the preamble or mark A the sector starts after it (08 R245). -/
def State.gateSector (a : Fin 4) (room : Nat) (staged : Bool) (s : State) : State :=
  let s := ((s.wpSectorEnd a).wpLateBank a).wpCause a 12 false
  match (s.act a).wp.ops with
  | [] => s.wpGateOff a
  | o :: r =>
    if o.cut.isSome || decide (o.op.sectors.length ≤ o.written) || decide (room < 164) then s.wpGateOff a
    else if o.bank.isNone then s.wpNoBank a
    else if decide (o.written = 0) && !s.heatReady o then s.wpGateOff a
    else if !staged then
      (((s.wpGateOff a).onWp a fun w => { w with flags := setBit w.flags 6 true }).actFault a 4 10 1)
        |>.wpCause a 12 true
        |>.wpCut a 12
    else if (s.act a).wp.cause ≠ 0 then s.wpCut a (lowestBit (s.act a).wp.cause.toNat)
    else s.wpBegin a o r room

/-- Whether the present sector goes on after a wedge (R277). -/
def State.midSector (s : State) (a : Fin 4) : Bool :=
  (s.act a).wp.inSector && decide ((s.act a).wp.place < sectorSpan)

/-- `WRITE_GATE_OPEN`: the write gate of a sector, or of a continuation, would open. -/
def execWriteGateOpen (a : Fin 4) (room : Nat) (staged cont : Bool) (s : State) : Eff :=
  .next (
    if cont ≠ s.midSector a then s
    else if cont then s.gateContinue a room
    else s.gateSector a room staged)

/-- `WRITE_SERVO_GATE` (R277): Aa.WRD idle and WGATE 0, 16 bits before a servo gate; `mid` says whether the
sector goes on after it. -/
def execWriteServoGate (a : Fin 4) (mid : Bool) (s : State) : Eff :=
  .next (if mid ≠ s.midSector a then s else (s.wpSectorEnd a).wpGateOff a)

/-- `WRITE_OPERATION_COMPLETE` (R282, R299): the last sector is written. -/
def execWriteOperationComplete (a : Fin 4) (s : State) : Eff :=
  .next (
    let s' := s.wpSectorEnd a
    match (s'.act a).wp.ops with
    | [] => s
    | o :: _ =>
      if o.cut.isNone && decide (o.written = o.op.sectors.length) then
        (s'.wpEnd a none).pscSetting a 0x03 0
      else s)

/-- `WRITE_MODE_IDLE` (R277): MODE read, 100 us after the last sector, with no operation
accepted. -/
def execWriteModeIdle (a : Fin 4) (s : State) : Eff :=
  .next (if (s.act a).wp.ops.isEmpty && decide (100 * usTicks ≤ s.since (s.act a).wp.lastEnd) then
      s.pscSetting a 0x02 2 else s)

/-- `WRITE_HOLD` (R278, R294): WP_CTL.HOLD is cause 11. -/
def execWriteHold (a : Fin 4) (set : Bool) (s : State) : Eff :=
  .next ((s.onWp a fun w => { w with hold := set }).wpCause a 11 set)

/-- Whether both supply senses lie within the write window of an actuator (R281). -/
def State.supplyInWindow (s : State) (a : Fin 4) (v12 v5 : Nat) : Bool :=
  decide (s.p4800Sup12Lo a ≤ v12) && decide (v12 ≤ s.p4800Sup12Hi a)
    && decide (s.p4800Sup5Lo a ≤ v5) && decide (v5 ≤ s.p4800Sup5Hi a)

/-- `SUPPLY_WINDOW_CROSS` (R281): cause 6; each episode raises fault offset 10 kind 3. -/
def execSupplyWindowCross (a : Fin 4) (v12 v5 : Nat) (s : State) : Eff :=
  .next (
    let s := s.sawSupply v12 v5
    if s.supplyInWindow a v12 v5 then s
    else
      let first := !(s.act a).wp.cause.getLsbD 6
      let s := s.onWp a fun w => { w with flags := setBit w.flags 2 true, supplyOut := s.now }
      let s := if first then s.actFault a 4 10 3 else s
      s.wpCause a 6 true)

/-- `SUPPLY_WINDOW_RELEASE` (R278): 100 us in range. -/
def execSupplyWindowRelease (a : Fin 4) (s : State) : Eff :=
  .next (if 100 * usTicks ≤ s.since (s.act a).wp.supplyOut then s.wpCause a 6 false else s)

/-- Every cause is released, and was within RES_WIN of the interruption at `t` (R282). -/
def State.wpFreed (s : State) (a : Fin 4) (t : BitVec 64) : Bool :=
  let w := (s.act a).wp
  decide (w.cause = 0)
    && decide ((w.freeAt - t).toNat ≤ s.p4800ResWin a * msTicks || s.since t ≤ s.p4800ResWin a * msTicks)

/-- `RESUME_PASS` (R282): the first unwritten sector's next pass comes round. -/
def execResumePass (x : PassInputs) (s : State) : Eff :=
  let a := x.act
  let room := x.room
  .next (
    let s' := s.wpCause a 12 false
    match (s'.act a).wp.ops with
    | [] => s
    | o :: r =>
      match o.cut, o.bank with
      | some (_, t), some _ =>
        if s'.wpFreed a t then
          if (s.act a).svd.target ≠ o.target || (s.act a).svd.head ≠ o.op.head then s'.wpMoved a
          else if o.tries < s.p4800ResTries a then
            if room < 164 then s' else s'.wpBegin a { o with tries := o.tries + 1 } r room
          else (s'.actFault a 4 10 2).wpEnd a (some (o.cut.getD (0, 0)).1)
        else s'
      | _, _ => s)

/-- `RESUME_WINDOW_EXPIRY` (R282): the causes were not released in time. -/
def execResumeWindowExpiry (a : Fin 4) (s : State) : Eff :=
  .next (match (s.act a).wp.ops with
    | [] => s
    | o :: _ =>
      match o.cut with
      | some (bit, t) =>
        if decide (s.p4800ResWin a * msTicks < s.since t) && !s.wpFreed a t then s.wpEnd a (some bit) else s
      | none => s)

/-! Command frames on DO (R286), one row each. -/

/-- `PSC_NOP`. -/
def execPscNop (a : Fin 4) (s : State) : Eff := .next (s.pscSend a 0x00 0 0)

/-- `PSC_HEAD_SEL`. -/
def execPscHeadSel (a : Fin 4) (head : BitVec 5) (s : State) : Eff :=
  .next (s.pscSend a 0x01 (head.setWidth 16) 0)

/-- `PSC_MODE`. -/
def execPscMode (a : Fin 4) (mode : BitVec 2) (s : State) : Eff :=
  .next (s.pscSend a 0x02 (mode.setWidth 16) 0)

/-- `PSC_WGATE`. -/
def execPscWgate (a : Fin 4) (gate : Bool) (s : State) : Eff :=
  .next (s.pscSend a 0x03 (if gate then 1 else 0) 0)

/-- `PSC_READ_BIAS`: reader B in the high byte. -/
def execPscReadBias (a : Fin 4) (rb ra : BitVec 8) (s : State) : Eff :=
  .next (s.pscSend a 0x04 (rb ++ ra) 0)

/-- `PSC_WRITE_CUR`: overshoot in the high byte. -/
def execPscWriteCur (a : Fin 4) (overshoot steady : BitVec 8) (s : State) : Eff :=
  .next (s.pscSend a 0x05 (overshoot ++ steady) 0)

/-- `PSC_OS_DUR`. -/
def execPscOsDur (a : Fin 4) (v : BitVec 8) (s : State) : Eff :=
  .next (s.pscSend a 0x06 (v.setWidth 16) 0)

/-- `PSC_LASER_BIAS`. -/
def execPscLaserBias (a : Fin 4) (v : BitVec 12) (s : State) : Eff :=
  .next (s.pscSend a 0x07 (v.setWidth 16) 0)

/-- `PSC_LASER_OP`. -/
def execPscLaserOp (a : Fin 4) (v : BitVec 12) (s : State) : Eff :=
  .next (s.pscSend a 0x08 (v.setWidth 16) 0)

/-- `PSC_HEAT_RD`. -/
def execPscHeatRd (a : Fin 4) (v : BitVec 10) (s : State) : Eff :=
  .next (s.pscSend a 0x09 (v.setWidth 16) 0)

/-- `PSC_HEAT_WR`. -/
def execPscHeatWr (a : Fin 4) (v : BitVec 10) (s : State) : Eff :=
  .next (s.pscSend a 0x0A (v.setWidth 16) 0)

/-- `PSC_SENSE_REQ`. -/
def execPscSenseReq (a : Fin 4) (sensor : BitVec 4) (s : State) : Eff :=
  .next (s.pscSend a 0x0B (sensor.setWidth 16) 0)

/-- `PSC_FAULT_CLR`: `held` are the bits whose condition still holds. -/
def execPscFaultClr (a : Fin 4) (bits held : BitVec 16) (s : State) : Eff :=
  .next (s.pscSend a 0x0C bits held)

/-- `PSC_ID_REQ`. -/
def execPscIdReq (a : Fin 4) (s : State) : Eff := .next (s.pscSend a 0x0D 0 0)

/-- `PSC_SAFE`. -/
def execPscSafe (a : Fin 4) (bits : BitVec 3) (s : State) : Eff :=
  .next (s.pscSend a 0x10 (bits.setWidth 16) 0)

/-! Frames on DI (R288) and the link's timeouts. -/

/-- The link is declared down (R289): cause 9, fault offset 11, SAFE 0x0007 and ID_REQ. -/
def State.pscDown (a : Fin 4) (kind : Nat) (s : State) : State :=
  ((((s.onPsc a fun p => { p with
        linkUp := false, declaredDown := true, probeAt := s.now, rawSend := false, waits := [], tx := []
        crcErrors := [] })
      |>.onWp a fun w => { w with flags := setBit w.flags 4 true })
      |>.wpCause a 9 true).actFault a 4 11 kind)
    |>.countA 0x48000B a 1
    |>.pscQueue a 0x10 7
    |>.pscQueue a 0x0D 0

/-- A DI frame whose CRC fails: ignored, and the eighth within 1 ms declares the link down
(R289). -/
def State.pscCrcError (a : Fin 4) (s : State) : State :=
  let near := ((s.act a).psc.crcErrors.filter fun t => decide (s.since t < msTicks)).take 7
  let l := s.now :: near
  let s := s.onPsc a fun p => { p with crcErrors := l }
  if 8 ≤ l.length && (s.act a).psc.linkUp then s.pscDown a 13 else s

/-- Take a frame from DI: ignored with a wrong START, DIR or CRC (R285), else its effect. -/
def State.pscTake (a : Fin 4) (w : Word) (f : Nat → Nat → State → State) (s : State) : State :=
  match pscFields w with
  | none => s
  | some (code, data) => if pscCrcOk w then f code data s else s.pscCrcError a

/-- The ACK of a command (R286, R288): bit 15 code unknown, bit 14 refused. -/
def State.pscAck (a : Fin 4) (data : Nat) (s : State) : State :=
  let code : BitVec 6 := BitVec.ofNat 6 data
  let refused := bitOf data 14
  let took := !refused && !bitOf data 15
  match (s.act a).psc.waits.find? fun x => x.code == code with
  | none => s
  | some x =>
    s.onPsc a fun p => { p with
      waits := dropFirst (fun y => y.code == code) p.waits
      acked := if took then Tab.set p.acked code.toNat x.data else p.acked
      mode := if took && decide (code = 0x02) then BitVec.ofNat 2 x.data.toNat else p.mode
      fclr := if code = 0x0C then false else p.fclr
      rawSend := if x.raw then false else p.rawSend
      rawAcked := if x.raw then true else p.rawAcked
      senseReq := if refused && decide (code = 0x0B) then false else p.senseReq
      senseTimeout := if refused && decide (code = 0x0B) then true else p.senseTimeout
      value := if refused && decide (code = 0x0B) then 0 else p.value }

/-- `PSC_ACK_FRAME`. -/
def execPscAckFrame (a : Fin 4) (w : BitVec 32) (s : State) : Eff :=
  .next (s.pscTake a w fun code data t => if code = 0x30 then t.pscAck a data else t)

/-- `PSC_SENSE_FRAME` (R288, R296). -/
def execPscSenseFrame (a : Fin 4) (w : BitVec 32) (s : State) : Eff :=
  .next (s.pscTake a w fun code data t =>
    if code = 0x31 && (t.act a).psc.senseReq
        && decide (fld data 12 4 = (t.act a).psc.sensor.toNat) then
      t.onPsc a fun p => { p with senseReq := false, value := BitVec.ofNat 12 data }
    else t)

/-- The preamp's fault bits are named (R291): PSC_FAULT, cause 7 for bits 4 and 5, cause 8 for the
others, event offset 22 and fault offset 11 with the lowest bit. -/
def State.pscFaultBits (a : Fin 4) (bits : Nat) (s : State) : State :=
  let laser := bitOf bits 4 || bitOf bits 5
  let other := decide (bits &&& 0xFFCF ≠ 0)
  let s := s.onPsc a fun p => { p with fault := BitVec.ofNat 16 bits, named := true }
  if bits = 0 then s
  else
    let s := (s.wpCause a 7 laser).wpCause a 8 other
    (((s.actEvent a 4 22 bits).actFault a 4 11 (lowestBit bits))).countA 0x48000B a 1

/-- `PSC_FAULT_FRAME`. -/
def execPscFaultFrame (a : Fin 4) (w : BitVec 32) (s : State) : Eff :=
  .next (s.pscTake a w fun code data t =>
    if code = 0x32 then t.pscFaultBits a (fld data 0 12) else t)

/-- An ID reply (R292): the version is checked and the link comes up, or stays down. -/
def State.pscId (a : Fin 4) (data : Nat) (s : State) : State :=
  let s := s.onPsc a fun p => { p with preampId := BitVec.ofNat 16 data, idReq := false }
  if !(s.act a).psc.started then s
  else if fld data 0 8 = 1 then
    if (s.act a).psc.linkUp then s
    else
      ((s.onPsc a fun p => { p with
          linkUp := true, declaredDown := false, badVersion := false, acked := [], waits := [] })
        |>.wpCause a 9 false)
        |>.pscQueue a 0x02 1
  else
    ((s.onPsc a fun p => { p with linkUp := false, badVersion := true })
      |>.onWp a fun w => { w with flags := setBit w.flags 4 true })
      |>.wpCause a 9 true
      |>.actFault a 4 11 15
      |>.countA 0x48000B a 1

/-- `PSC_ID_FRAME`. -/
def execPscIdFrame (a : Fin 4) (w : BitVec 32) (s : State) : Eff :=
  .next (s.pscTake a w fun code data t => if code = 0x33 then t.pscId a data else t)

/-- The island sees Aa.PFL low (R291): cause 8. -/
def State.pflSeen (a : Fin 4) (s : State) : State :=
  ((s.onPsc a fun p => { p with
      pfl := false, named := false, pflAt := if p.pfl then s.now else p.pflAt })
    |>.onWp a fun w => { w with flags := setBit w.flags 3 true }).wpCause a 8 true

/-- PD20 + a reports ready: ID_REQ starts the link, and an Aa.PFL that is low is seen (R292, 20 R557). -/
def State.pscStart (a : Fin 4) (s : State) : State :=
  ((s.onPsc a fun _ => { Psc.reset with started := true, probeAt := s.now }).pscQueue a 0x0D 0)
    |>.doIf (decide ((s.act a).pre.faults ≠ 0)) (State.pflSeen a)

/-- Ticks from a frame's last bit to the end of its wait: 400 ns (R289). -/
def ackTicks : Nat := 80

/-- `PSC_ACK_TIMEOUT` (R289): sent again up to three times, then the link is down. -/
def execPscAckTimeout (a : Fin 4) (s : State) : Eff :=
  .next (match (s.act a).psc.waits with
    | [] => s
    | x :: r =>
      if s.since x.sent < ackTicks then s
      else if x.again < 3 then
        (s.onPsc a fun p => { p with
            waits := { x with again := x.again + 1, sent := s.now } :: r
            retries := if p.retries = 0xFF then 0xFF else p.retries + 1 })
          |>.preampTakes a x.code x.data 0xFFFF
      else if (s.act a).psc.declaredDown then s.onPsc a fun p => { p with waits := r }
      else s.pscDown a 12)

/-- `LINK_DOWN_PROBE` (R289): SAFE 0x0007 and ID_REQ every 10 us while the link is down. -/
def execLinkDownProbe (a : Fin 4) (s : State) : Eff :=
  let p := (s.act a).psc
  .next (if p.started && !p.linkUp && decide (10 * usTicks ≤ s.since p.probeAt) then
      ((s.onPsc a fun p => { p with probeAt := s.now }).pscEmit a 0x10 7 0).pscEmit a 0x0D 0 0 else s)

/-- `PREAMP_LINK_TIMEOUT` (R287): outside sleep, SAFE 0x0007 and fault bit 10. -/
def execPreampLinkTimeout (a : Fin 4) (s : State) : Eff :=
  .next (s.onPre a fun p =>
    if p.mode = 0 || decide (s.since p.heard < 4 * usTicks) then p else { p with safe := 7, faults := setBit p.faults 10 true })

/-- `PFL_ASSERT` (R287, R291): Aa.PFL goes low with fault bits set in the preamp; an island whose domain is
not ready sees it later (20 R557). -/
def execPflAssert (a : Fin 4) (bits : BitVec 16) (named : Bool) (s : State) : Eff :=
  .next (
    let b := bits &&& 0x0FFF
    if (s.act a).pre.faults ||| b = 0 then s
    else
      let s := s.onPre a fun p => { p with faults := p.faults ||| b }
      s.doIf (s.domOn (20 + a.val)) fun t =>
        t.pflSeen a |>.doIf named fun u => u.pscFaultBits a (u.act a).pre.faults.toNat)

/-- `PFL_RELEASE` (R287, R291): with no fault bit set, Aa.PFL goes high and the causes are released. -/
def execPflRelease (a : Fin 4) (s : State) : Eff :=
  .next (if (s.act a).pre.faults ≠ 0 then s
    else ((s.onPsc a fun p => { p with pfl := true }).wpCause a 7 false).wpCause a 8 false)

/-- `PFL_FRAME_TIMEOUT` (R291): no FAULT frame within 2 us; kind 14 and cause 8 stays. -/
def execPflFrameTimeout (a : Fin 4) (s : State) : Eff :=
  let p := (s.act a).psc
  .next (if !p.pfl && !p.named && decide (2 * usTicks ≤ s.since p.pflAt) then
      ((s.actFault a 4 11 14).countA 0x48000B a 1).wpCause a 8 true else s)

/-- `SENSE_TIMEOUT` (R290). -/
def execSenseTimeout (a : Fin 4) (s : State) : Eff :=
  .next (s.onPsc a fun p =>
    if p.senseReq && p.senseAt.any fun t => decide (2 * usTicks ≤ s.since t) then
      { p with senseReq := false, senseTimeout := true
               waits := p.waits.filter fun x => x.code != 0x0B }
    else p)

/-- `PSC_CTL_ID_REQ` (R296). -/
def execPscCtlIdReq (a : Fin 4) (s : State) : Eff :=
  .next ((s.onPsc a fun p => { p with idReq := true }).pscQueue a 0x0D 0)

/-- `PSC_CTL_FCLR` (R291, R296): FAULT_CLR with the PSC_FAULT bits. -/
def execPscCtlFclr (a : Fin 4) (s : State) : Eff :=
  .next ((s.onPsc a fun p => { p with fclr := true }).pscQueue a 0x0C (s.act a).psc.fault.toNat)

/-- `PSC_SENSE_REQUEST` (R296). -/
def execPscSenseRequest (a : Fin 4) (sensor : BitVec 4) (s : State) : Eff :=
  .next (if (s.act a).psc.senseReq then s
    else (s.onPsc a fun p => { p with senseReq := true, senseTimeout := false, senseAt := none, sensor := sensor })
      |>.pscQueue a 0x0B sensor.toNat)

/-- `PSC_RAW_SEND` (R297): WGATE and MODE write-ready are refused with CONFLICT. -/
def execPscRawSend (a : Fin 4) (code : BitVec 6) (data : BitVec 16) (s : State) : Eff :=
  .next (if code = 0x03 || (code = 0x02 && decide (fld data.toNat 0 2 = 3)) then
      s.onWp a fun w => { w with flags := setBit w.flags 8 true }
    else
      s.onPsc a fun p => { p with
        rawCode := code, rawData := data, rawSend := true, rawAcked := false
        tx := pscInsert { code := code, data := data, raw := true } p.tx })

end Sys2Proof.Machine
end

