-- ==== Sys2Proof/Machine/ReadOps.lean ====
section
/-! DEFINITION. Operations of the read channel that the recovery ladder also uses: slots of sample
RAM and their pins, the replay queue, read operations (07 R211 to R230). -/

namespace Sys2Proof.Machine

open Sys2Proof

/-- The address of a slot of sample RAM (07 R217). -/
def slotBase (a : Fin 4) (k : Nat) : Nat := islandBase a + 0x80000 + 0x10000 * k

/-- A header word of a slot (07 R218). -/
def State.slotWord (s : State) (a : Fin 4) (k off : Nat) : Nat := (s.word (slotBase a k + off)).toNat

/-- A header word of a slot written. -/
def State.setSlotWord (a : Fin 4) (k off v : Nat) (s : State) : State :=
  s.setWord (slotBase a k + off) (BitVec.ofNat 32 v)

/-- STATE.VALID of a slot. -/
def State.slotValid (s : State) (a : Fin 4) (k : Nat) : Bool := bitOf (s.slotWord a k 4) 31

/-- STATE.CAPTURING of a slot. -/
def State.slotCapturing (s : State) (a : Fin 4) (k : Nat) : Bool := bitOf (s.slotWord a k 4) 30

/-- The pins of a slot brought into its STATE word (07 R218). -/
def State.showPins (a : Fin 4) (k : Nat) (s : State) : State :=
  let r := (s.act a).rch
  let v := withBit (withBit (s.slotWord a k 4) 29 (r.resPin.getLsbD k)) 28 (r.guestPin.getLsbD k)
  s.setSlotWord a k 4 v

/-- The slots pinned by anyone. -/
def Rch.pinned (r : Rch) : BitVec 8 := r.guestPin ||| r.resPin

/-- How many slots a mask names. -/
def popCount8 (m : BitVec 8) : Nat := (List.range 8).countP fun i => m.getLsbD i

/-- Set a sticky flag of RCH_FLAGS (07 R233). -/
def State.rchFlag (a : Fin 4) (n : Nat) (s : State) : State :=
  s.onRch a fun r => { r with flags := setBit r.flags n true }

/-- Whether a pin of a slot would be taken (07 R220). -/
def State.pinOk (s : State) (a : Fin 4) (k : Nat) : Bool :=
  let r := (s.act a).rch
  let all := r.pinned ||| r.deferGuest ||| r.deferRes
  (s.slotValid a k || s.slotCapturing a k) && (all.getLsbD k || decide (popCount8 all < 4))

/-- A pin of a slot (07 R220): taken, deferred to the end of the capture, or refused. -/
def State.pinSlot (a : Fin 4) (k : Nat) (resident : Bool) (s : State) : State :=
  if !s.pinOk a k then s.rchFlag a 8
  else if s.slotCapturing a k then
    s.onRch a fun r =>
      if resident then { r with deferRes := setBit r.deferRes k true }
      else { r with deferGuest := setBit r.deferGuest k true }
  else
    (s.onRch a fun r =>
      if resident then { r with resPin := setBit r.resPin k true }
      else { r with guestPin := setBit r.guestPin k true }).showPins a k

/-- A pin released by its pinner (07 R220). -/
def State.unpinSlot (a : Fin 4) (k : Nat) (resident : Bool) (s : State) : State :=
  (s.onRch a fun r =>
    if resident then { r with resPin := setBit r.resPin k false,
                              deferRes := setBit r.deferRes k false }
    else { r with guestPin := setBit r.guestPin k false,
                  deferGuest := setBit r.deferGuest k false }).showPins a k

/-- A completion record to resident firmware (07 R224). -/
def State.readDone (d : ReadDone) (s : State) : State :=
  s.onPool fun p => { p with done := p.done ++ [d] }

/-- The number of a replay's outcome in RCH_RPL_STATUS and its statistics (07 R230, R235). -/
def State.guestReplayEnd (a : Fin 4) (outcome iters corr unsat erased : Nat) (s : State) : State :=
  s.onRch a fun r => { r with
    rplOutcome := BitVec.ofNat 4 outcome, rplIters := BitVec.ofNat 6 iters
    rplCorr := BitVec.ofNat 16 corr, rplUnsat := BitVec.ofNat 12 unsat
    rplErased := BitVec.ofNat 16 erased }

/-- Event offset 17: a replay is complete (07 R229, R238). -/
def State.replayEvent (a : Fin 4) (resident : Bool) (outcome slot : Nat) (s : State) : State :=
  (s.actEvent a 3 17 (b2n resident * 2 ^ 31 + outcome * 16 + slot)).count 0x47F005 1

/-- The iteration limit of a replay (07 R228). -/
def State.replayIters (s : State) (n : Nat) : Nat :=
  if n = 0 then 1 else min n s.p47F0ReplayIterMax

/-- What becomes at once of a replay request that reaches the replay detector: outcome 0x6 for a
slot not pinned, 0x5 for an anchor on a mark not found (07 R228). -/
def State.replayRefusal (s : State) (a : Fin 4) (r : ReplayReq) : Option Nat :=
  let k := r.slot.toNat
  if !((s.act a).rch.pinned.getLsbD k) then some 6
  else if r.anchor = 0 && decide (s.slotWord a k 0x18 = 0xFFFFFFFF) then some 5
  else if r.anchor = 1 && decide (s.slotWord a k 0x1C = 0xFFFFFFFF) then some 5
  else none

/-- Post a read operation to an island (07 R211): event offset 16 when no rule 1 bank matches. -/
def State.postRead (a : Fin 4) (op : ReadOp) (s : State) : State :=
  let b := bankByRule (s.act a).rch.banks 8 64 s.multMax op.head.toNat op.zone.toNat 1
  let s := s.onRch a fun r => { r with ops := r.ops ++ [op] }
  if b.isNone then s.actEvent a 3 16 (op.head.toNat * 256 + op.zone.toNat) else s

/-- The identity of the next media operation (07 R218, 09 R271). -/
def State.nextOp (s : State) : State := s.onPlc fun p => { p with opSeq := p.opSeq + 1 }

end Sys2Proof.Machine
end

