-- ==== Sys2Proof/Machine/Recovery.lean ====
section
/-! DEFINITION. The recovery ladder, row parity and the Detention list (08 R249 to R264). -/

namespace Sys2Proof.Machine

open Sys2Proof

/-! Row parity (R249, R251). -/

/-- The XOR of two sectors. -/
def xorBytes (x y : List Byte) : List Byte := List.zipWith (fun p q => p ^^^ q) x y

/-- A sector times a constant. -/
def scaleBytes (c : Byte) (x : List Byte) : List Byte := x.map (gfMul c)

/-- A sector of zeros. -/
def zeroSector : List Byte := List.replicate 4096 0

/-- P of data members: their XOR (R249). -/
def parityP (l : List (Nat × List Byte)) : List Byte :=
  l.foldl (fun x d => xorBytes x d.2) zeroSector

/-- Q of data members: the XOR of g^i times member i (R249). -/
def parityQ (l : List (Nat × List Byte)) : List Byte :=
  l.foldl (fun x d => xorBytes x (scaleBytes (gfG d.1) d.2)) zeroSector

/-- Rebuild the missing members of a group of k data members from the others (R251): none when more
than two are missing or the spare parity does not match. -/
def rebuild (k : Nat) (x : RebuildInputs) : Option (List (Nat × List Byte)) :=
  let data := x.present.filter fun d => decide (d.1 < k)
  let p := ((x.present.find? fun d => d.1 == k).map fun d => d.2).getD zeroSector
  let q := ((x.present.find? fun d => d.1 == k + 1).map fun d => d.2).getD zeroSector
  let miss := x.missing.filter fun i => decide (i < k)
  let noP := x.missing.contains k
  let noQ := x.missing.contains (k + 1)
  if 2 < x.missing.length then none
  else
    match miss with
    | [] =>
      let d := if noP then [(k, parityP data)] else []
      let e := if noQ then [(k + 1, parityQ data)] else []
      if (!noP && decide (parityP data ≠ p)) || (!noQ && decide (parityQ data ≠ q)) then none
      else some (d ++ e)
    | [i] =>
      if noP then
        some [(i, scaleBytes (gfInv (gfG i)) (xorBytes q (parityQ data)))]
      else
        let d := xorBytes p (parityP data)
        if noQ then some [(i, d)]
        else if parityQ ((i, d) :: data) = q then some [(i, d)] else none
    | i :: j :: _ =>
      let p' := xorBytes p (parityP data)
      let q' := xorBytes q (parityQ data)
      let di := scaleBytes (gfInv (gfG i ^^^ gfG j)) (xorBytes q' (scaleBytes (gfG j) p'))
      some [(i, di), (j, xorBytes p' di)]

/-- The group of a band slot that a physical sector belongs to, and its place in it (10 R316): a slot's groups
follow one another from its first sector. -/
def State.bandGroup (s : State) (a : Fin 4) (head : BitVec 5) (zone : BitVec 6) (track sector : Nat) :
    Option (RowGroup × Nat) :=
  s.plc.bands.findSome? fun b =>
    match b.loc with
    | none => none
    | some l =>
      let spt := max 1 (s.zone a zone.toNat).spt
      let i := (track - l.track.toNat) * spt + sector
      let k := max 1 b.geom.k
      if l.act = a && l.head = head && b.zone = zone && decide (l.track.toNat ≤ track)
          && decide (i / (k + 2) * k < b.geom.used) then
        let (p, sec) := s.advance l zone 0 (i / (k + 2) * (k + 2))
        some ({ serial := b.geom.serial + i / (k + 2), loc := p, sector := sec, zone := zone, k := k
                members := k, closed := true, parity := true, stripe := 0, pos := 0, qOp := none
                lastAt := 0 }, i % (k + 2))
      else none

/-- The closed group with parity that a physical sector belongs to, and its place in it (R249,
R250). -/
def State.groupOf (s : State) (a : Fin 4) (head : BitVec 5) (zone : BitVec 6) (track sector : Nat) :
    Option (RowGroup × Nat) :=
  let spt := max 1 (s.zone a zone.toNat).spt
  ((s.plc.groups.find? fun g =>
    g.closed && g.parity && decide (g.loc.act = a) && decide (g.loc.head = head)
      && decide (g.zone = zone)
      && decide (g.loc.track.toNat * spt + g.sector ≤ track * spt + sector)
      && decide (track * spt + sector < g.loc.track.toNat * spt + g.sector + g.k + 2)).map
    fun g => (g, track * spt + sector - (g.loc.track.toNat * spt + g.sector))).orElse
    fun _ => s.bandGroup a head zone track sector

/-! The Detention list (R260 to R264). -/

/-- Whether an entry is that of a sector. -/
def Detention.isAt (d : Detention) (a : Fin 4) (head : BitVec 5) (track : BitVec 24)
    (sector : Nat) : Bool :=
  d.act == a && d.head == head && d.track == track && d.sector == sector

/-- The list with one entry replaced. -/
def State.onDetention (a : Fin 4) (head : BitVec 5) (track : BitVec 24) (sector : Nat)
    (f : Detention → Detention) (s : State) : State :=
  s.onRecov fun r => { r with
    detention := r.detention.map fun d => if d.isAt a head track sector then f d else d }

/-- The oldest entry below the threshold, which a new entry replaces in a full list (R262). -/
def detentionVictim (thr : Nat) (l : List Detention) : Option Detention :=
  (l.filter fun d => decide (d.count < thr)).foldl (fun o d =>
    match o with
    | none => some d
    | some e => if d.firstPoh < e.firstPoh then some d else some e) none

/-- A relocation is done (R264): the Detention entry leaves the list, with event 258. -/
def State.relocated (d : Detention) (s : State) : State :=
  (((s.onRecov fun r => { r with
      detention := r.detention.filter fun x => !x.isAt d.act d.head d.track d.sector })
    |>.journal false (.detention d true)).count 0x442008 1).event epPlacement 258
      (d.act.val * 2 ^ 24 + d.track.toNat)

/-- The job number of a relocation among the obligations. -/
def relocJob (track : BitVec 24) (sector : Nat) : Nat := track.toNat * 65536 + sector

/-- The logical block of a sector is marked unreadable (R264) while the mapping has it there, with the
generation of the data lost, so that a write on its way wins. -/
def State.markUnreadable (a : Fin 4) (head : BitVec 5) (track : BitVec 24) (sector nsid lba : Nat)
    (s : State) : State :=
    let s := s.onRecov fun r => { r with unreadable := r.unreadable ++ [(nsid, lba)] }
    match s.ns? nsid with
    | none => s
    | some n =>
      match nsUnit n lba with
      | none => s
      | some g =>
        let mapped := match s.resolveMedia g with
          | .media l sec _ _ => l.act == a && l.head == head && l.track == track && sec == sector
          | _ => false
        let gen := ((extAt g s.plc.extents).map fun e => e.gen).getD 0
        if !mapped then s
        else
          (s.change false (.extentAdded
            { gmu := g, len := 1, loc := { act := a, head := head, track := track }
              sector := sector, zone := 0, kind := .unreadable, gen := gen, temp := 0 }))
            |>.journal false (.groupEnd 0)

/-- Relocation of a lasting-bad sector (R260, R264): event 257, and the sector is retired; recovered data
waits to be rewritten as obligatory Homework, and unrecovered data is marked unreadable, which ends the
relocation. In LIMITED all this waits, with FLAGS bit 0 set, for SERVICE. -/
def State.scheduleRelocation (d : Detention) (s : State) : State :=
  let s := s.onDetention d.act d.head d.track d.sector fun d => { d with flags := d.flags ||| 1 }
  if s.sys.mode = .limited then s
  else
    let s := s.event epResident 257 (d.act.val * 2 ^ 24 + d.track.toNat)
    let ps : PhysSector := { act := d.act, head := d.head, track := d.track, sector := d.sector }
    let s := s.onRecov fun r => { r with retired := r.retired.filter (fun x => x != ps) ++ [ps] }
    if d.flags.getLsbD 1 then
      (s.markUnreadable d.act d.head d.track d.sector d.nsid d.lba).relocated d
    else s.oblige 5 (relocJob d.track d.sector) (some d.act) (1000 * s.p1860RelocDeadline)

/-- A relocation is under way: it waits as an obligation or runs as a job. -/
def State.relocRuns (s : State) (d : Detention) : Bool :=
  (s.tt.oblig.any fun o => o.kind == 5 && o.job == relocJob d.track d.sector && o.act == some d.act)
    || s.plc.jobs.any fun j => j.req.code == 5
        && j.req.sector.any fun x => d.isAt x.act x.head x.track x.sector

/-- SERVICE takes up the relocations that wait (R264). -/
def State.dueRelocations (s : State) : State :=
  foldS (fun d t => if d.flags.getLsbD 0 && !t.relocRuns d then t.scheduleRelocation d else t)
    s.recov.detention s

/-- An entry below the threshold whose window has passed leaves the list: event 259 (R261). -/
def State.detentionExpire (d : Detention) (s : State) : State :=
  if decide (d.count < s.p4420Threshold) && decide (d.firstPoh + s.p4420WindowPoh < s.poh) then
    ((s.onRecov fun r => { r with
        detention := r.detention.filter fun x => !x.isAt d.act d.head d.track d.sector })
      |>.journal false (.detention d true)).event epResident 259 (d.act.val * 2 ^ 24 + d.track.toNat)
  else s

/-- A counted failure enters the Detention list (R260 to R262). -/
def State.detain (l : Ladder) (step : Nat) (recovered : Bool) (s : State) : State :=
  if s.sys.mode = .orientation then s
  else
    let h := l.job.head
    let tr := l.job.track
    let sec := l.job.req.sector
    let flags : BitVec 3 := BitVec.ofNat 3 (b2n (!recovered) * 2 + b2n l.refilled * 4)
    let thr := s.p4420Threshold
    let new : Detention :=
      { act := l.act, head := h, zone := l.job.zone, count := 1, track := tr, sector := sec
        lastStep := step, flags := flags, firstPoh := s.poh, lastPoh := s.poh
        lba := l.lba, nsid := l.nsid % 65536 }
    let reach : Detention → State → State := fun d t =>
      if thr ≤ d.count && decide (s.poh ≤ d.firstPoh + s.p4420WindowPoh) && !d.flags.getLsbD 0 then
        t.scheduleRelocation d else t
    let s := match s.recov.detention.find? fun d => d.isAt l.act h tr sec with
      | some d => s.detentionExpire d
      | none => s
    match s.recov.detention.find? fun d => d.isAt l.act h tr sec with
    | some d =>
      let d' : Detention := { d with
        count := d.count + 1, lastStep := step, lastPoh := s.poh
        flags := (d.flags &&& 1) ||| flags, lba := l.lba, nsid := l.nsid % 65536 }
      let s := s.onDetention l.act h tr sec fun _ => d'
      reach d' (s.journal false (.detention d' false))
    | none =>
      let add : State → State := fun t =>
        let t := t.onRecov fun r => { r with detention := r.detention ++ [new] }
        let t := t.journal false (.detention new false)
        reach new (t.event epResident 256 (l.act.val * 2 ^ 24 + tr.toNat))
      if s.recov.detention.length < 8192 then add s
      else
        match detentionVictim thr s.recov.detention with
        | some v =>
          add ((s.onRecov fun r => { r with
              detention := r.detention.filter fun d => !d.isAt v.act v.head v.track v.sector })
            |>.journal false (.detention v true))
        | none => (s.count 0x442007 1).fault epResident 142 0

/-- `DETENTION_EXPIRY` (R261): an entry below the threshold whose window has passed. -/
def execDetentionExpiry (a : Fin 4) (head : BitVec 5) (track : BitVec 24) (sector : Nat)
    (s : State) : Eff :=
  .next (match s.recov.detention.find? fun d => d.isAt a head track sector with
    | none => s
    | some d => s.detentionExpire d)

/-! The ladder (R252 to R259). -/

/-- A ladder by its number. -/
def State.ladder? (s : State) (id : Nat) : Option Ladder :=
  s.recov.ladders.find? fun l => l.id == id

/-- A ladder replaced. -/
def State.onLadder (id : Nat) (f : Ladder → Ladder) (s : State) : State :=
  s.onRecov fun r => { r with ladders := r.ladders.map fun l => if l.id = id then f l else l }

/-- The time limit of a ladder in ms: OD 0x4410.06, or less by the host's Error Recovery feature
(R257, 12 R387). -/
def State.ladderLimit (s : State) (nsid : Nat) : Nat :=
  let lim := s.p4410LadderLimit
  match s.nvme.features.find? fun f => f.fid == 0x05 && f.nsid == nsid with
  | some f =>
    let tler := fld f.dw11.toNat 0 16
    if tler = 0 then lim else min (tler * 100) lim
  | none => lim

/-- Whether a ladder's time has passed (R257). -/
def State.ladderLate (s : State) (l : Ladder) : Bool :=
  l.late || decide (s.ladderLimit l.nsid ≤ s.msSince l.start)

/-- A ladder leaves: its replays are withdrawn and its pin is released (R253). -/
def State.ladderDrop (l : Ladder) (s : State) : State :=
  let s := s.onRch l.act fun r => { r with
    replays := r.replays.filter fun j => j.req.ladder != some l.id }
  let s := s.onRecov fun r => { r with ladders := r.ladders.filter fun x => x.id != l.id }
  let k := l.job.slot.toNat
  let other := s.recov.ladders.any fun x => decide (x.act = l.act) && decide (x.job.slot = l.job.slot)
    && decide (x.wait = .replay)
  if l.wait = .replay && !other then s.unpinSlot l.act k true else s

/-- Write the offset of step 4 into the engine's data word (R255): tracks as F32. -/
def State.offsetWord (a : Fin 4) (ofs : Int) (s : State) : State :=
  let w := s.p4400OffsetWord
  if w = 0xFFFF then s
  else s.setWord (islandBase a + 0x14000 + 4 * w) (fRat ofs 256)

/-- The end of a ladder that recovered its sector at a step (R259). -/
def State.ladderWon (l : Ladder) (step : Nat) (s : State) : State :=
  let s := if l.step = 4 || l.step = 5 then s.offsetWord l.act 0 else s
  let s := (s.ladderDrop l).event epResident 249 (l.act.val * 2 ^ 24 + step)
  let s := ((s.count (0x441006 + step) 1).doIf l.job.req.cmd.isSome
    (State.keepRead (fld l.job.req.tag.toNat 0 48))).cmdUnit l.job.req.cmd nvOk
  if s.p4420DetainStep ≤ step then s.detain l step true else s

/-- The end of a ladder without the sector (R259). -/
def State.ladderLost (l : Ladder) (s : State) : State :=
  let s := if l.step = 4 || l.step = 5 then s.offsetWord l.act 0 else s
  let s := (s.ladderDrop l).event epResident 250 (l.act.val * 2 ^ 24 + l.job.track.toNat)
  let s := (s.count 0x44100C 1).cmdUnit l.job.req.cmd (nvRetry .unrecoveredRead)
  let s := s.errEntry l.nsid l.lba
  if l.limitedRetry && !s.ladderLate l then s
  else if 0 < l.converged && decide (l.wrongPlace = l.converged) then s.fault epResident 140 1
  else (s.fault epResident 140 0).detain l 6 false

/-- Queue as many of a ladder's replays as the island's queue of four has room for (R253, R229). -/
def State.ladderPump (id : Nat) (s : State) : State :=
  match s.ladder? id with
  | none => s
  | some l =>
    let room := 4 - (s.act l.act).rch.replays.length
    let now := l.todo.take room
    let jobs := now.map fun r => ({ resident := true, req := r, job := l.job } : ReplayJob)
    (s.onRch l.act fun r => { r with
        replays := (r.replays.filter fun j => j.resident) ++ jobs
          ++ r.replays.filter fun j => !j.resident })
      |>.onLadder id fun x => { x with todo := x.todo.drop room, out := x.out + now.length }

/-- A replay of a ladder: anchor and offset, iteration limit, bank and weights (R253, R255). -/
def ladderReplay (l : Ladder) (anchor index : Nat) (ofs : Int) (iter : Nat)
    (bank : Option (BitVec 3)) (weights : Option Word) : ReplayReq :=
  { resident := true, ladder := some l.id, slot := l.job.slot, anchor := BitVec.ofNat 2 anchor
    index := BitVec.ofNat 16 index, offset := ofs, bank := bank, weights := weights
    erase := 1, extra := 0, iter := iter }

/-- The offsets of a slip search: +1, -1, +2, -2, ... (R253). -/
def slipOffsets (range : Nat) : List Int :=
  (List.range range).flatMap fun (i : Nat) => [((i : Int) + 1), -((i : Int) + 1)]

/-- The anchors of R253 for the mark findings, and whether a slip search follows. -/
def ladderAnchors (j : SectorJob) : List (Nat × Nat) × Bool :=
  match j.marks with
  | .consistent => ([(0, 0)], false)
  | .bWon => ([(1, 0), (0, 0)], false)
  | .bOnly => ([(1, 0)], true)
  | .aOnly => ([(0, 0)], true)
  | .neither => ([(2, j.req.nomA + 36)], true)

/-- The replays of step 2 (R253). -/
def State.step2Replays (s : State) (l : Ladder) : List ReplayReq :=
  let (anchors, slip) := ladderAnchors l.job
  let full := anchors.map fun x => ladderReplay l x.1 x.2 0 s.p47F0ReplayIterMax none none
  let x := nth anchors 0 (0, 0)
  let tail := if slip then
      (slipOffsets s.p4410SlipRange).map fun o =>
        ladderReplay l x.1 x.2 o s.p4410SlipIter none none
    else []
  full ++ tail

/-- The replays of a re-read of step 4: single-reader weights (1.0, 0), then (0, 1.0) (R255). -/
def State.step4Replays (s : State) (l : Ladder) : List ReplayReq :=
  (ladderAnchors l.job).1.flatMap fun x =>
    [ladderReplay l x.1 x.2 0 s.p47F0ReplayIterMax none (some 0x00004000),
     ladderReplay l x.1 x.2 0 s.p47F0ReplayIterMax none (some 0x40000000)]

/-- The replays of step 5: one per recovery bank (R256). -/
def State.step5Replays (s : State) (l : Ladder) : List ReplayReq :=
  let x := nth (ladderAnchors l.job).1 0 (0, 0)
  ((List.range 8).filter fun b => bitOf s.p4400RecoveryBanks b).map fun b =>
    ladderReplay l x.1 x.2 0 s.p47F0ReplayIterMax (some (BitVec.ofNat 3 b)) none

/-- Post a ladder's re-read at an offset (R255, R256). -/
def State.reread (id : Nat) (ofs : Int) (s : State) : State :=
  match s.ladder? id with
  | none => s
  | some l =>
    let s := (s.offsetWord l.act ofs).nextOp
    let op : ReadOp :=
      { opId := s.plc.opSeq, head := l.job.head, zone := l.job.zone, track := l.job.track
        sectors := [l.job.req], ladder := some id }
    (s.onLadder id fun x => { x with wait := .reread, offset := ofs, todo := [], out := 0 })
      |>.postRead l.act op

/-- Whether a step is enabled (OD 0x4410.05). -/
def State.stepOn (s : State) (n : Nat) : Bool := bitOf s.p4410StepEnable n

/-- Step 5, or the end of the ladder (R256, R257). -/
def State.ladderTry5 (id : Nat) (s : State) : State :=
  match s.ladder? id with
  | none => s
  | some l =>
    if s.stepOn 5 && decide (s.p4400RecoveryBanks % 256 ≠ 0) && !s.ladderLate l
        && !l.limitedRetry then
      (s.onLadder id fun x => { x with step := 5 }).reread id
        (match l.best with | some b => b.2 | none => 0)
    else s.ladderLost l

/-- The track offsets of step 4 in 1/256 track: 0, +s, -s, +2s, ... (R255); on track only when no
offset word is named. -/
def State.step4Offsets (s : State) : List Int :=
  let st : Int := (s.p4410OfsStep : Int)
  let l : List Int := (0 : Int) ::
    (List.range s.p4410OfsCount).flatMap fun (i : Nat) => [((i : Int) + 1) * st, -(((i : Int) + 1) * st)]
  if s.p4400OffsetWord = 0xFFFF then l.map fun _ => 0 else l

/-- Step 4, or what follows (R255, R257). -/
def State.ladderTry4 (id : Nat) (s : State) : State :=
  match s.ladder? id with
  | none => s
  | some l =>
    if s.sys.mode = .orientation then
      s.onLadder id fun x => { x with wait := .calibration }
    else if l.limitedRetry || s.ladderLate l then s.ladderLost l
    else if s.stepOn 4 then
      match s.step4Offsets with
      | [] => s.ladderTry5 id
      | o :: r => (s.onLadder id fun x => { x with step := 4, offsets := r }).reread id o
    else s.ladderTry5 id

/-- The next re-read of step 4, or step 5 (R255). -/
def State.ladderNext4 (id : Nat) (s : State) : State :=
  match s.ladder? id with
  | none => s
  | some l =>
    match l.offsets with
    | [] => s.ladderTry5 id
    | o :: r =>
      if s.ladderLate l then s.ladderLost l
      else (s.onLadder id fun x => { x with offsets := r }).reread id o

/-- Step 3, or what follows (R254). -/
def State.ladderTry3 (id : Nat) (s : State) : State :=
  match s.ladder? id with
  | none => s
  | some l =>
    let g := s.groupOf l.act l.job.head l.job.zone l.job.track.toNat l.job.req.sector
    if s.ladderLate l then s.ladderTry4 id
    else if s.stepOn 3 && g.isSome then
      s.onLadder id fun x => { x with step := 3, wait := .parity, todo := [], out := 0 }
    else s.ladderTry4 id

/-- Step 2 begins with its slot pinned (R253). -/
def State.ladderReplays2 (id : Nat) (s : State) : State :=
  match s.ladder? id with
  | none => s
  | some l =>
    (s.onLadder id fun x => { x with wait := .replay, todo := s.step2Replays l }).ladderPump id

/-- Step 2, or what follows (R253): skipped without a slot, for a truncated sector, or when the
slot has been captured into again. -/
def State.ladderTry2 (id : Nat) (s : State) : State :=
  match s.ladder? id with
  | none => s
  | some l =>
    let k := l.job.slot.toNat
    if !s.stepOn 2 then s.ladderTry3 id
    else if !l.job.captured || l.job.truncated
        || decide (s.slotWord l.act k 0 ≠ l.job.seq.toNat) then
      (s.count 0x44100D 1).ladderTry3 id
    else if s.pinOk l.act k then
      (s.pinSlot l.act k true).ladderReplays2 id
    else s.onLadder id fun x => { x with wait := .pin }

/-- A failed sector starts its ladder (R252): event 248. -/
def State.ladderStart (a : Fin 4) (j : SectorJob) (outcome : Nat) (s : State) : State :=
  let id := s.recov.ladderId + 1
  let lim := match j.req.cmd with
    | none => false
    | some n => (s.cmd? n).any fun c => c.limitedRetry
  let conv := decide (outcome = 2) || decide (outcome = 3)
  let l : Ladder :=
    { id := id, act := a, job := j, nsid := j.req.nsid, lba := j.req.lba, limitedRetry := lim
      start := s.now, step := 2, wait := .pin, todo := [], out := 0, offsets := [], offset := 0
      best := none, converged := b2n conv, wrongPlace := b2n (decide (outcome = 3))
      refilled := j.refill, late := false }
  let s := s.onRecov fun r => { r with ladders := r.ladders ++ [l], ladderId := id }
  (s.event epResident 248 (a.val * 2 ^ 24 + j.track.toNat)).ladderTry2 id

/-- The on-the-fly result of a ladder's re-read (R255, R256). -/
def State.ladderReread (id : Nat) (j : SectorJob) (outcome : Nat) (s : State) : State :=
  match s.ladder? id with
  | none => s
  | some l =>
    if outcome = 0 then s.ladderWon l l.step
    else
      let conv := decide (outcome = 2) || decide (outcome = 3)
      let s := s.onLadder id fun x => { x with
        job := j, converged := x.converged + b2n conv
        wrongPlace := x.wrongPlace + b2n (decide (outcome = 3)) }
      let k := j.slot.toNat
      if j.captured && !j.truncated && s.pinOk l.act k then
        let s := s.pinSlot l.act k true
        match s.ladder? id with
        | none => s
        | some l =>
          let todo := if l.step = 5 then s.step5Replays l else s.step4Replays l
          (s.onLadder id fun x => { x with wait := .replay, todo := todo, out := 0 }).ladderPump id
      else if l.step = 5 then s.ladderLost l
      else s.ladderNext4 id

/-- A replay of a ladder has ended (R253, R255, R256). -/
def State.ladderReplayEnd (id outcome unsat : Nat) (s : State) : State :=
  match s.ladder? id with
  | none => s
  | some l =>
    if outcome = 0 then s.ladderWon l l.step
    else
      let conv := decide (outcome = 2) || decide (outcome = 3)
      let better := match l.best with
        | none => true
        | some b => decide (unsat < b.1)
      let s := s.onLadder id fun x => { x with
        out := x.out - 1, converged := x.converged + b2n conv
        wrongPlace := x.wrongPlace + b2n (decide (outcome = 3))
        best := if decide (x.step = 4) && better then some (unsat, x.offset) else x.best }
      if l.todo.isEmpty && decide (l.out ≤ 1) then
        let s := s.unpinSlot l.act l.job.slot.toNat true
        if l.step = 2 then s.ladderTry3 id
        else if l.step = 4 then s.ladderNext4 id
        else
          match s.ladder? id with
          | some x => s.ladderLost x
          | none => s
      else s.ladderPump id

/-- Ladders that wait for a pin try again after one is released (R253). -/
def State.ladderPins (s : State) : State :=
  foldS (fun l t => if l.wait = .pin then t.ladderTry2 l.id else t) s.recov.ladders s

/-- Ladders of an actuator that wait for its calibration read the sector again and start over at
step 1 (R257). -/
def State.ladderCalibrated (a : Fin 4) (s : State) : State :=
  foldS (fun l t =>
    if l.act = a && decide (l.wait = .calibration) then
      let t := (t.onRecov fun r => { r with
        ladders := r.ladders.filter fun x => x.id != l.id }).nextOp
      t.postRead a { opId := t.plc.opSeq, head := l.job.head, zone := l.job.zone
                     track := l.job.track, sectors := [l.job.req], ladder := none }
    else t) s.recov.ladders s

/-- An actuator's servo is lost or its heads unload: a re-read in progress is retried once it is
LOADED again (R257). -/
def State.ladderServoLost (a : Fin 4) (s : State) : State :=
  s.onRecov fun r => { r with
    ladders := r.ladders.map fun l =>
      if l.act = a && decide (l.wait = .reread) then { l with wait := .loaded } else l }

/-- An actuator is LOADED again: the steps it interrupted are retried (R257). -/
def State.ladderLoaded (a : Fin 4) (s : State) : State :=
  foldS (fun l t => if l.act = a && decide (l.wait = .loaded) then t.reread l.id l.offset else t)
    s.recov.ladders s

/-- `PIN_WAIT_TIMEOUT` (R253): no pin free within 1 ms; step 2 is skipped. -/
def execPinWaitTimeout (ladder : Nat) (s : State) : Eff :=
  .next (match s.ladder? ladder with
    | none => s
    | some l =>
      if decide (l.wait = .pin) && decide (msTicks ≤ s.since l.start) then (s.count 0x44100D 1).ladderTry3 ladder else s)

/-- `LADDER_TIME_LIMIT` (R257): the step in progress finishes and the rest are skipped. A sector that waits
for its actuator's calibration goes on waiting (02 R48). -/
def execLadderTimeLimit (ladder : Nat) (s : State) : Eff :=
  .next (match s.ladder? ladder with
    | none => s
    | some l =>
      if s.msSince l.start < s.ladderLimit l.nsid then s
      else
        let s := s.onLadder ladder fun x => { x with late := true }
        if l.wait = .pin || l.wait = .loaded then s.ladderTry4 ladder else s)

/-- The inputs of a rebuild name every member of a group of `k` data members once, the failed one among the
missing (R251). -/
def coversGroup (x : RebuildInputs) (k i : Nat) : Bool :=
  x.missing.contains i && ((List.range (k + 2)).all fun j =>
    x.missing.contains j != x.present.any fun d => d.1 == j && d.2.length == 4096)

/-- `ROW_REBUILD_COMPLETE` (R251, R254): the rebuilt data goes to the read's destination, or step 3
has failed; a mismatch of the spare parity raises fault source 141. -/
def execRowRebuildComplete (ladder : Nat) (x : RebuildInputs) (s : State) : Eff :=
  .next (match s.ladder? ladder with
    | none => s
    | some l =>
      if l.wait ≠ .parity then s
      else
        match s.groupOf l.act l.job.head l.job.zone l.job.track.toNat l.job.req.sector with
        | none => s.ladderTry4 ladder
        | some (g, i) =>
          if !coversGroup x g.k i then s
          else
          match rebuild g.k x with
          | some out =>
            let s := s.event epBuffer 255 (l.act.val * 2 ^ 24 + out.length)
            match out.find? fun d => d.1 == i with
            | some d =>
              ((s.write l.job.req.dest d.2).count 0x441010 1).ladderWon l 3
            | none => s.ladderTry4 ladder
          | none =>
            let s := if x.missing.length ≤ 2 then s.fault epBuffer 141 l.act.val else s
            s.ladderTry4 ladder)

end Sys2Proof.Machine
end

