-- ==== Sys2Proof/Machine/ReadChannel.lean ====
section
/-! DEFINITION. The read channel's commands: read operations, gates and captures, staging, the
decoder pool and replays (07 R203 to R241, 08 R242 to R248). -/

namespace Sys2Proof.Machine

open Sys2Proof

/-! The marks (08 R246, R247). -/

/-- The first place that matches. -/
def firstMatch (tol : Nat) (l : List (Nat × Nat)) : Option Nat :=
  (l.find? fun c => decide (c.2 ≤ tol)).map fun c => c.1

/-- The place with the fewest differing bits, the earliest on a tie. -/
def bestMatch (tol : Nat) (l : List (Nat × Nat)) : Option Nat :=
  ((l.filter fun c => decide (c.2 ≤ tol)).foldl (fun (o : Option (Nat × Nat)) c =>
    match o with
    | none => some c
    | some b => if c.2 < b.2 then some c else some b) none).map fun c => c.1

/-- The mark spacing (R243): 4,132 bits, and 88 for each continuation that begins between the
marks. -/
def markSpacing (r : SectorReq) : Nat :=
  4132 + 88 * (r.conts.filter fun c => decide (r.nomA ≤ c) && decide (c < r.nomB)).length

/-- Mark A of a sector in the hard decisions (R246). -/
def State.findA (s : State) (r : SectorReq) (bits : List Bool) : Option Nat :=
  firstMatch s.p4400MarkErr (markTries bits 0xF3B0A5C92 36 r.nomA s.p4400MarkWin)

/-- The Substitute mark of a sector (R246). -/
def State.findB (s : State) (r : SectorReq) (markA : Option Nat) (bits : List Bool) : Option Nat :=
  let exact := match markA with
    | none => none
    | some i => firstMatch s.p4400MarkErr (markTries bits 0x5A6C1E74B 36 (i + markSpacing r) 0)
  match exact with
  | some i => some i
  | none => bestMatch s.p4400MarkErr (markTries bits 0x5A6C1E74B 36 r.nomB s.p4400MarkWin)

/-- Where the data of each continuation fragment starts, and whether its mark was found (R246). -/
def State.findConts (s : State) (r : SectorReq) (bits : List Bool) : List (Nat × Bool) :=
  r.conts.map fun c =>
    match firstMatch s.p4400MarkErr (markTries bits 0x6DB2E41F38 40 c s.p4400ContWin) with
    | some i => (i + 40, true)
    | none => (c + 40, false)

/-- What the two findings say (R247). -/
def marksOf (r : SectorReq) (markA markB : Option Nat) : Marks :=
  match markA, markB with
  | some i, some j => if j = i + markSpacing r then .consistent else .bWon
  | some _, none => .aOnly
  | none, some _ => .bOnly
  | none, none => .neither

/-- The sample index where D1 starts (R247). -/
def SectorJob.d1 (j : SectorJob) : Nat :=
  match j.marks with
  | .consistent => j.syncA.getD 0 + 36
  | .aOnly => j.syncA.getD 0 + 36
  | .bWon => j.syncB.getD 0 - 4096
  | .bOnly => j.syncB.getD 0 - 4096
  | .neither => 0

/-- The sample index where D2 starts (R243, R247). -/
def SectorJob.d2 (j : SectorJob) : Nat :=
  match j.marks with
  | .aOnly => j.syncA.getD 0 + 36 + markSpacing j.req
  | .neither => 0
  | _ => j.syncB.getD 0 + 36

/-! Erasures (07 R215). -/

/-- The gaps that the FRAG words name: from after the last sample before a wedge to the first data
sample (07 R218). -/
def SectorJob.gaps (j : SectorJob) : List (Nat × Nat) :=
  (List.zip j.req.conts j.conts).map fun c => (c.1 - 48, c.2)

/-- The sample ranges of so many code bits from a start, around the gaps. -/
def codeSpans (start n : Nat) : List (Nat × Nat) → List (Nat × Nat)
  | [] => [(start, start + n)]
  | (lo, hi) :: r =>
    if start ≤ lo && decide (lo < start + n) then
      (start, lo) :: codeSpans hi (n - (lo - start)) r
    else codeSpans start n r

/-- A number put into a rising list. -/
def insertNat (x : Nat) : List Nat → List Nat
  | [] => [x]
  | y :: r => if x < y then x :: y :: r else if x = y then y :: r else y :: insertNat x r

/-- The places between neighbouring cuts that meet a condition at their start. -/
def cutSum (p : Nat → Bool) : List Nat → Nat
  | x :: y :: r => (if p x then y - x else 0) + cutSum p (y :: r)
  | _ => 0

/-- The sample ranges of so many code bits after the first so many. -/
def subSpans (skip n : Nat) : List (Nat × Nat) → List (Nat × Nat)
  | [] => []
  | (lo, hi) :: r =>
    let len := hi - lo
    if n = 0 then []
    else if len ≤ skip then subSpans (skip - len) n r
    else
      let lo' := lo + skip
      let hi' := min hi (lo' + n)
      (lo', hi') :: subSpans 0 (n - (hi' - lo')) r

/-- How many code bits are erased: flagged on one reader while the other is flagged, off or of
weight 0, or in the extra region of a replay (07 R215, R228). -/
def eraseCount (code : List (Nat × Nat)) (regions : List Region) (offA offB : Bool)
    (extra : List (Nat × Nat)) : Nat :=
  let ra := flagged regions false
  let rb := flagged regions true
  let hit (x : Nat) : Bool :=
    let fa := inSpans ra x
    let fb := inSpans rb x
    inSpans code x && (((fa || offA) && (fb || offB) && (fa || fb)) || inSpans extra x)
  let cuts := (code ++ ra ++ rb ++ extra).foldl (fun l r => insertNat r.1 (insertNat r.2 l)) []
  if regions.isEmpty && extra.isEmpty then 0 else cutSum hit cuts

/-- Whether a reader is off or has weight 0 (07 R215): by READER_ENABLE and a WEIGHT word. -/
def State.readerOff (s : State) (a : Fin 4) (readerB : Bool) (w : Nat) : Bool :=
  !bitOf (s.p4000ReaderEnable a) (b2n readerB) || decide (fld w (16 * b2n readerB) 16 = 0)

/-- The sample ranges of the code bits on the fly (07 R243, R247). -/
def SectorJob.code (j : SectorJob) : List (Nat × Nat) :=
  codeSpans j.d1 4096 j.gaps ++ codeSpans j.d2 32768 j.gaps

/-- How many code bits are erased on the fly (07 R215). -/
def State.erasuresOf (s : State) (a : Fin 4) (j : SectorJob) : Nat :=
  let w := (nth j.words 29 0).toNat
  eraseCount j.code j.regions (s.readerOff a false w) (s.readerOff a true w) []

/-- The sample ranges of the code bits a replay takes: D1 from the anchor plus the offset, around the gaps,
then 36 samples on from its end (07 R228). -/
def ReplayJob.code (r : ReplayJob) : List (Nat × Nat) :=
  let j := r.job
  let anchor : Int :=
    match r.req.anchor.toNat with
    | 0 => (j.syncA.getD 0 : Int) + 36
    | 1 => (j.syncB.getD 0 : Int) - 4096
    | _ => (r.req.index.toNat : Int)
  let d1 := codeSpans (anchor + r.req.offset).toNat 4096 j.gaps
  let d1End := ((d1.getLast?).map fun x => x.2).getD 0
  d1 ++ codeSpans (d1End + 36) 32768 j.gaps

/-- The bank a replay works with, taken whole as it starts: the named one or the one the slot's header
records (07 R228, log 109). -/
def State.replayWords (s : State) (a : Fin 4) (r : ReplayJob) : List Word :=
  bankWords (s.act a).rch.banks 64 (r.req.bank.getD r.job.bank).toNat

/-- The weights of a replay (07 R228). -/
def State.replayWeights (s : State) (a : Fin 4) (r : ReplayJob) : Word :=
  r.req.weights.getD (nth (s.replayWords a r) 29 0)

/-- The code bits of the extra region of a replay (07 R228). -/
def ReplayJob.extra (r : ReplayJob) : List (Nat × Nat) :=
  let e := r.req.extra.toNat
  if 2 ≤ r.req.erase.toNat then subSpans (fld e 0 16) (fld e 16 12) r.code else []

/-- The regions a replay flags (07 R228). -/
def ReplayJob.regions (r : ReplayJob) : List Region := if r.req.erase = 0 then [] else r.job.regions

/-- How many code bits a replay erases (07 R228). -/
def State.replayErased (s : State) (a : Fin 4) (r : ReplayJob) : Nat :=
  let w := (s.replayWeights a r).toNat
  eraseCount r.code r.regions (s.readerOff a false w) (s.readerOff a true w) r.extra

/-- Codes packed 7 bits each, least significant bit first: `acc` are the `n` bits left over (07 R217). -/
def unpack7 : List Byte → Nat → Nat → List (BitVec 7)
  | [], _, _ => []
  | b :: r, acc, n =>
    let acc := acc + b.toNat * 2 ^ n
    let n := n + 8
    if 14 ≤ n then
      BitVec.ofNat 7 acc :: BitVec.ofNat 7 (acc / 128) :: unpack7 r (acc / 16384) (n - 14)
    else BitVec.ofNat 7 acc :: unpack7 r (acc / 128) (n - 7)

/-- The samples a slot holds of a reader, as many as its header counts (07 R217, R218). -/
def State.slotSamples (s : State) (a : Fin 4) (k : Nat) (readerB : Bool) : List Int :=
  let n := fld (s.slotWord a k 0x14) (if readerB then 16 else 0) 16
  ((unpack7 (s.read (slotBase a k + if readerB then 0x8080 else 0x100) ((7 * n + 7) / 8)) 0 0).take n).map
    fun c => c.toInt

/-- Where the resync fields of a sector begin (08 R244). -/
def resyncsOf (r : SectorReq) : List Nat := r.conts.map fun c => c - 48

/-- The LLRs of a replay: the slot's samples detected again with the replay's own bank, weights, pointers and
anchor (07 R228). -/
def State.replayLlrs (s : State) (a : Fin 4) (r : ReplayJob) : List Int :=
  let words := s.replayWords a r
  let k := r.req.slot.toNat
  let d : DetectSet :=
    { words := words, weights := s.replayWeights a r, onA := bitOf (s.p4000ReaderEnable a) 0
      onB := bitOf (s.p4000ReaderEnable a) 1, regions := r.regions, resyncs := resyncsOf r.job.req
      muA := none, muB := none, tapsA := tapsOf (words.drop 8), tapsB := tapsOf (words.drop 16) }
  let ls := (detect d (s.slotSamples a k false) (s.slotSamples a k true)).llrs
  let erased := ls.zipIdx.map fun x => if inSpans r.extra x.2 then 0 else scaledLlr words x.1
  padTo 36864 0 (pickSpans erased r.code)

/-! The end of a sector on the fly (07 R224, R225). -/

/-- A saturating 32-bit counter. -/
def satAdd32 (v : BitVec 32) (n : Nat) : BitVec 32 :=
  BitVec.ofNat 32 (min (v.toNat + n) 0xFFFFFFFF)

/-- What the sector of a completion goes on to: its command, its ladder, or a new ladder (R225,
08 R252). -/
def State.readNext (a : Fin 4) (j : SectorJob) (outcome : Nat) (s : State) : State :=
  match j.ladder with
  | some id => s.ladderReread id j outcome
  | none =>
    if outcome = 0 then
      ((s.doIf j.refill fun t => t.count 0x441007 1).doIf j.req.cmd.isSome
        (State.keepRead (fld j.req.tag.toNat 0 48))).cmdUnit j.req.cmd nvOk
    else s.ladderStart a j outcome

/-- The end of a sector on the fly, streamed to a decoder or not (R216, R224, R225, R231). -/
def State.readEnd (a : Fin 4) (j : SectorJob) (outcome iters unsat corrected atMgn : Nat)
    (streamed : Bool) (s : State) : State :=
  let s := if j.captured && decide (s.slotWord a j.slot.toNat 0 = j.seq.toNat) then
      s.setSlotWord a j.slot.toNat 0x30
        (outcome * 2 ^ 28 + fld iters 0 6 * 2 ^ 16 + fld unsat 0 12)
    else s
  let s := if outcome = 0 then s else s.actEvent a 3 15 (outcome * 16 + j.slot.toNat)
  let s := s.readDone
    { act := a, opId := j.opId, index := j.index, outcome := BitVec.ofNat 4 outcome, iters := iters
      unsat := unsat, erasures := j.erasures, corrected := corrected }
  let s := s.onRch a fun r => { r with
    otfFail := if outcome = 0 then r.otfFail else satAdd32 r.otfFail 1
    sectors := if streamed then satAdd32 r.sectors 1 else r.sectors
    iterSum := if streamed then satAdd32 r.iterSum iters else r.iterSum
    mgnSum := if streamed then satAdd32 r.mgnSum atMgn else r.mgnSum }
  let s := s.doIf (decide (outcome ≠ 0)) fun t => t.countA 0x400002 a 1
  let s := s.doIf (decide (outcome = 4)) fun t => t.countA 0x400007 a 1
  let s := s.doIf streamed fun t => (t.countA 0x400001 a 1).countA 0x400004 a j.erasures
  s.readNext a j outcome

/-! Replays (07 R228 to R230). -/

/-- A replay has ended: statistics to a guest, a record and its ladder to resident firmware. -/
def State.replayEnd (a : Fin 4) (r : ReplayJob) (outcome iters corrected unsat erased : Nat)
    (s : State) : State :=
  let s := s.replayEvent a r.resident outcome r.req.slot.toNat
  if r.resident then
    let s := s.readDone
      { act := a, opId := r.job.opId, index := r.job.index, outcome := BitVec.ofNat 4 outcome
        iters := iters, unsat := unsat, erasures := erased, corrected := corrected }
    match r.req.ladder with
    | some id => s.ladderReplayEnd id outcome unsat
    | none => s
  else s.guestReplayEnd a outcome iters corrected unsat erased

/-- Whether a refill waits for the replay detector (08 R248). -/
def Rch.refillWaits (r : Rch) : Bool := r.stage.any fun b => b.job.refill && !b.d1In

/-- Whether a buffer that was granted a decoder is loaded, 1,152 pool cycles on: it is free again (R223,
R226). -/
def State.loadedAt (s : State) (granted : Option (BitVec 64)) : Bool :=
  match granted with
  | some t => decide (192 ≤ s.since t)
  | none => false

/-- The staging buffers filling, waiting or loading (R226). -/
def State.stageBusy (s : State) (a : Fin 4) : List StageBuf :=
  (s.act a).rch.stage.filter fun b => !s.loadedAt b.granted

/-- Whether the replay buffer is in use (R226). -/
def State.replayBusy (s : State) (a : Fin 4) : Bool :=
  (s.act a).rch.replayBuf.any fun b => !s.loadedAt b.granted

/-- The replay detector takes the next queued replay once it and the replay buffer are free; one
that cannot run ends at once (R226, R228). The number bounds how many end at once. -/
def State.replayPump : Nat → Fin 4 → State → State
  | 0, _, s => s
  | n + 1, a, s =>
    let r := (s.act a).rch
    if s.replayBusy a || r.refillWaits then s
    else
      match r.replays with
      | [] => s
      | j :: rest =>
        let s := s.onRch a fun x => { x with replays := rest }
        let old := decide (s.slotWord a j.req.slot.toNat 0 ≠ j.job.seq.toNat)
        match if old then some 6 else s.replayRefusal a j.req with
        | some o => (s.replayEnd a j o 0 0 0 0).replayPump n a
        | none =>
          s.onRch a fun x => { x with
            replayBuf := some { job := j, full := false, since := s.now, llrs := s.replayLlrs a j
                                erased := s.replayErased a j, granted := none, past2ms := false } }

/-- Every replay detector takes what it can. -/
def State.pumpReplays (s : State) : State := foldS (fun a t => t.replayPump 64 a) s.presentActs s

/-- A sector as a slot's header records it. -/
def State.slotJob? (s : State) (a : Fin 4) (k : Nat) : Option SectorJob :=
  Tab.get? (s.act a).rch.slotJobs k

/-- A resident replay request found four resident requests queued (R229). -/
def State.replayTurnedAway (a : Fin 4) (j : ReplayJob) (s : State) : State :=
  let s := (s.actFault a 3 9 3).readDone
    { act := a, opId := j.job.opId, index := j.job.index, outcome := 4, iters := 0, unsat := 0
      erasures := 0, corrected := 0 }
  match j.req.ladder with
  | some id => s.ladderReplayEnd id 4 0
  | none => s

/-- A request joins the queue: resident before guest, each in order of arrival; with four queued a
guest request is refused and a resident one displaces the last guest request (R229). -/
def State.replayQueue (a : Fin 4) (j : ReplayJob) (s : State) : State :=
  let q := (s.act a).rch.replays
  let res := q.filter fun x => x.resident
  let gst := q.filter fun x => !x.resident
  let refuse (t : State) : State := (t.rchFlag a 7).actFault a 3 9 3
  let put (l : List ReplayJob) (t : State) : State := t.onRch a fun r => { r with replays := l }
  if j.resident then
    if q.length < 4 then put (res ++ [j] ++ gst) s
    else if gst.isEmpty then s.replayTurnedAway a j
    else refuse (put (res ++ [j] ++ gst.dropLast) s)
  else if q.length < 4 then put (res ++ gst ++ [j]) s
  else refuse s
/-- A replay request (R228, R229, R235). -/
def State.replayAsk (a : Fin 4) (r : ReplayReq) (s : State) : State :=
  let bad := decide (r.anchor = 3) || decide (r.offset < -4) || decide (4 < r.offset)
  if bad then s.rchFlag a 8
  else
    match s.slotJob? a r.slot.toNat with
    | none =>
      if r.resident then
        let s := (s.replayEvent a true 6 r.slot.toNat).readDone
          { act := a, opId := 0, index := 0, outcome := 6, iters := 0, unsat := 0, erasures := 0
            corrected := 0 }
        match r.ladder with
        | some id => s.ladderReplayEnd id 6 0
        | none => s
      else (s.replayEvent a false 6 r.slot.toNat).guestReplayEnd a 6 0 0 0 0
    | some k =>
      let j : ReplayJob := { resident := r.resident, req := r, job := k }
      match s.replayRefusal a r with
      | some o => s.replayEnd a j o 0 0 0 0
      | none => s.replayQueue a j

/-- `REPLAY_REQUEST` (R228, R229). -/
def execReplayRequest (a : Fin 4) (r : ReplayReq) (s : State) : Eff :=
  .next (s.replayAsk a r).pumpReplays

/-- `SLOT_PIN` (R220). -/
def execSlotPin (a : Fin 4) (slot : Fin 8) (resident : Bool) (s : State) : Eff :=
  .next (s.pinSlot a slot.val resident)

/-- `SLOT_UNPIN` (R220): a ladder that waits for a pin tries again. -/
def execSlotUnpin (a : Fin 4) (slot : Fin 8) (resident : Bool) (s : State) : Eff :=
  .next ((s.unpinSlot a slot.val resident).ladderPins).pumpReplays

/-! Read operations, gates and captures. -/

/-- `READ_OPERATION_POST` (R211, 02 R48). -/
def execReadOperationPost (a : Fin 4) (op : ReadOp) (s : State) : Eff :=
  .next (if s.present a && s.mediaRoom a then s.postRead a op else s)

/-- The front operation moves on to its next sector. -/
def State.nextSector (a : Fin 4) (s : State) : State :=
  s.onRch a fun r =>
    match r.ops with
    | [] => r
    | op :: rest =>
      if op.sectors.length ≤ r.opIndex + 1 then { r with ops := rest, opIndex := 0 }
      else { r with opIndex := r.opIndex + 1 }

/-- The slot the next capture takes: from NEXT upward modulo 8, skipping pinned slots (R219). -/
def Rch.freeSlot (r : Rch) : Option Nat :=
  ((List.range 8).map fun i => (r.next.toNat + i) % 8).find? fun k => !r.pinned.getLsbD k

/-- The events of the mark search (08 R246, R247, R268). -/
def State.markEvents (a : Fin 4) (j : SectorJob) (found : List Bool) (s : State) : State :=
  let q := a.val * 2 ^ 24
  let s := match j.marks with
    | .bOnly => s.event (epAct a 3) 251 (q + j.syncB.getD 0)
    | .bWon =>
      (s.event (epAct a 3) 252
        (q + (BitVec.ofInt 16 ((j.syncA.getD 0 : Int) - (j.req.nomA : Int))).toNat)).count 0x44100F 1
    | .aOnly => s.event (epAct a 3) 253 q
    | _ => s
  foldS (fun f t => if f.1 then t else t.event (epAct a 3) 254 (q + f.2)) found.zipIdx s

/-- A sector before anything of it is known. -/
def sectorJob (op : ReadOp) (index : Nat) (r : SectorReq) (bank : Nat) (words : List Word)
    (miss offSpeed : Bool) (at_ : BitVec 64) : SectorJob :=
  { opId := op.opId, index := index, head := op.head, zone := op.zone, track := op.track, req := r
    ladder := op.ladder, bank := BitVec.ofNat 3 bank, words := words, miss := miss, offSpeed := offSpeed, slot := 0
    seq := 0, gateAt := at_, captured := false, regions := [], erasures := 0, staged := false
    truncated := false, syncA := none, syncB := none, conts := [], marks := .neither
    refill := false }

/-- Whether the bank's MULT is another than the write path's for the head and zone, so that the sector is
read at the wrong frequency (R206). -/
def State.wrongSpeed (s : State) (a : Fin 4) (head zone mult : Nat) : Bool :=
  match chooseBank (s.act a).wp.banks 16 16 s.multMax head zone with
  | some b => decide (fld (Tab.getD (s.act a).wp.banks (16 * b.1 + 1) 0).toNat 0 18 ≠ mult)
  | none => false

/-- What the samples of a read gate hold (R204 to R217): the gate closes 16 bits before a servo gate, and
takes 37,296 samples at most. A loop or a filter that is adjusted in the sector works with the settings the
gate opened with. -/
def State.captureOf (s : State) (a : Fin 4) (j : SectorJob) (x : GateInputs) : Capture :=
  let r := (s.act a).rch
  let onA := bitOf (s.p4000ReaderEnable a) 0
  let onB := bitOf (s.p4000ReaderEnable a) 1
  let len := max x.samplesA.length x.samplesB.length
  let cut := x.servo.any fun i => decide (i < len + 16)
  let n := min 37296 (if cut then x.servo.getD 0 - 16 else len)
  let sa := if onA then x.samplesA.take n else []
  let sb := if onB then x.samplesB.take n else []
  let ca := padTo n 0 (sa.map fun c => c.toInt)
  let cb := padTo n 0 (sb.map fun c => c.toInt)
  let regions := regionsFound j.words onA onB ca cb
  let d := detect
    { words := j.words, weights := nth j.words 29 0, onA := onA, onB := onB, regions := regions
      resyncs := resyncsOf j.req, muA := if r.adaptA then some r.muA.toNat else none
      muB := if r.adaptB then some r.muB.toNat else none, tapsA := tapsOf (j.words.drop 8)
      tapsB := tapsOf (j.words.drop 16) } ca cb
  let gain := fun (on readerB : Bool) (g : Nat) (codes : List Int) =>
    if on && !codes.isEmpty then
      agcRun (bankField j.words 4 (if readerB then 8 else 0) 8) (flagged regions readerB) codes 0 g
    else (g, false, false)
  let ga := gain onA false r.gainA ca
  let gb := gain onB true r.gainB cb
  let lost := fun (on : Bool) (codes : List Int) =>
    on && lockLostIn (timingOf j.words (resyncsOf j.req) codes)
  { samplesA := sa, samplesB := sb, truncated := cut, regions := regions
    lost := lost onA ca || lost onB cb
    atLimit := ga.2.1 || ga.2.2 || gb.2.1 || gb.2.2
    gainA := ga.1, gainB := gb.1, llrs := d.llrs
    tapsA := if r.adaptA then tapWords d.tapsA else (j.words.drop 8).take 8
    tapsB := if r.adaptB then tapWords d.tapsB else (j.words.drop 16).take 8 }

/-- The sector begins to be captured into a slot (R212, R219, 08 R246, R247). -/
def State.captureStart (a : Fin 4) (j : SectorJob) (k : Nat) (x : GateInputs) (s : State) : State :=
  let r := (s.act a).rch
  let seq : BitVec 32 := if r.capSeq + 1 = 0 then 1 else r.capSeq + 1
  let c := s.captureOf a j x
  let bits := c.llrs.map hardBit
  let markA := s.findA j.req bits
  let markB := s.findB j.req markA bits
  let conts := s.findConts j.req bits
  let m := marksOf j.req markA markB
  let busy := s.stageBusy a
  let room := decide (busy.length < 2)
  let j : SectorJob := { j with
    slot := BitVec.ofNat 3 k, seq := seq, captured := true, staged := room, syncA := markA
    syncB := markB, conts := conts.map fun c => c.1, marks := m
    refill := decide (m = .bOnly) || decide (m = .bWon) }
  let buf : StageBuf := { job := j, d1In := false, d2In := false, since := s.now, llrs := []
                          granted := none }
  let s := s.setSlotWord a k 4 0x40000000
  let s := s.onRch a fun r => { r with
    capSeq := seq, next := BitVec.ofNat 3 (k + 1), now := some j, capture := some c
    slotJobs := Tab.set r.slotJobs k j
    stage := if room then busy ++ [buf] else busy
    reading := true, trLock := true, agcSettled := true
    bank := j.bank, slot := BitVec.ofNat 3 k, head := j.head
    zone := j.zone, tapHold := [], ctfA := nth j.words 2 0, ctfB := nth j.words 3 0
    tapA := (j.words.drop 8).take 8, tapB := (j.words.drop 16).take 8 }
  s.markEvents a j (conts.map fun c => c.2)

/-- `READ_GATE_OPEN` (R211, R212, R219): a bank is chosen and latched and capture begins, or the
sector gets outcome 0xA (no bank) or 0x4 (every slot pinned). -/
def execReadGateOpen (a : Fin 4) (x : GateInputs) (s : State) : Eff :=
  .next (
    let r := (s.act a).rch
    match r.ops, r.now with
    | op :: _, none =>
      match op.sectors[r.opIndex]? with
      | none => s.nextSector a
      | some req =>
        if !(s.domOn (20 + a.val) && s.domOn (24 + a.val)) then s
        else
          let mx := s.multMax
          let b0 := (Tab.getD r.banks 1 0).toNat
          let pick := match chooseBank r.banks 8 64 mx op.head.toNat op.zone.toNat with
            | some p => some p
            | none => if multOk mx (fld b0 0 18) then some (0, 4) else none
          match pick with
          | none =>
            let j := sectorJob op r.opIndex req 0 [] true false s.now
            (((s.nextSector a).rchFlag a 5).actFault a 3 9 1).readEnd a j 0xA 0 0 0 0 false
              |>.pumpReplays
          | some (b, rule) =>
            let miss := decide (3 ≤ rule)
            let words := bankWords r.banks 64 b
            let off := s.wrongSpeed a op.head.toNat op.zone.toNat (bankField words 1 0 18)
            let j := sectorJob op r.opIndex req b words miss off s.now
            let s := (s.nextSector a).doIf miss fun t =>
              ((t.rchFlag a 5).actFault a 3 9 1).countA 0x400008 a 1
            match r.freeSlot with
            | none =>
              ((s.rchFlag a 4).actFault a 3 9 0).readEnd a j 4 0 0 0 0 false |>.pumpReplays
            | some k => (s.doIf (decide (r.opIndex = 0)) State.ledOn).captureStart a j k x
    | _, _ => s)

/-- Timing recovery loses lock: RCH_FLAGS.TR_LOST and fault offset 8, kind 2 (R208). -/
def State.timingLost (a : Fin 4) (s : State) : State :=
  (((s.onRch a fun r => { r with trLock := false }).rchFlag a 3).actFault a 3 8 2).countA 0x40000C a 1

/-- `TIMING_RECOVERY_LOCK_LOST` (R208): when the samples lose it. -/
def execTimingRecoveryLockLost (a : Fin 4) (s : State) : Eff :=
  let r := (s.act a).rch
  .next (if r.reading && r.trLock && r.capture.any fun c => c.lost then s.timingLost a else s)

/-- The word that records a region (R218, R238). -/
def regionWord (r : Region) : Nat :=
  b2n r.b * 2 ^ 31 + b2n r.a * 2 ^ 30 + (if r.dropout then 2 else 1) * 2 ^ 28
    + r.length.toNat * 2 ^ 16 + r.start.toNat

/-- A region is recorded and announced (R215). -/
def State.regionSeen (a : Fin 4) (x : Region) (s : State) : State :=
  let s := s.onRch a fun r => { r with
    now := r.now.map fun j => { j with regions := j.regions ++ [x] } }
  ((s.rchFlag a 0).actEvent a 3 14 (regionWord x)).countA (if x.dropout then 0x400006 else 0x400005) a 1

/-- `DEFECT_REGION` (R215): a region that the samples of the open gate hold, once. -/
def execDefectRegion (a : Fin 4) (x : Region) (s : State) : Eff :=
  .next (match (s.act a).rch.now, (s.act a).rch.capture with
    | some j, some c => if c.regions.contains x && !j.regions.contains x then s.regionSeen a x else s
    | _, _ => s)

/-- Samples packed 7 bits each, least significant bit first (R217). -/
def packSamples (l : List (BitVec 7)) : Nat :=
  l.foldr (fun x n => x.toNat + 128 * n) 0

/-- The bytes of a sample area (R217). -/
def sampleBytes (l : List (BitVec 7)) : List Byte := leBytes ((7 * l.length + 7) / 8) (packSamples l)

/-- Whether 5 % or more of a reader's samples stand at -64 or +63 (R233). -/
def adcSaturated (l : List (BitVec 7)) : Bool :=
  decide (0 < l.length) &&
    decide (l.length ≤ 20 * (l.filter fun x => x == 0x40#7 || x == 0x3F#7).length)

/-- The header words of a finished capture but SEQ and STATE (R218). -/
def SectorJob.header (j : SectorJob) (x : Capture) : List (Nat × Nat) :=
  let frag (i : Nat) : Nat := match j.gaps[i]? with
    | some g => (g.1 - 1) % 65536 * 65536 + g.2 % 65536
    | none => 0
  [(0x08, fld j.gateAt.toNat 0 32), (0x0C, fld j.gateAt.toNat 32 32),
   (0x10, j.bank.toNat * 2 ^ 29 + b2n j.miss * 2 ^ 28 + j.head.toNat * 256 + j.zone.toNat),
   (0x14, x.samplesB.length % 65536 * 65536 + x.samplesA.length % 65536),
   (0x18, j.syncA.getD 0xFFFFFFFF), (0x1C, j.syncB.getD 0xFFFFFFFF),
   (0x20, frag 0), (0x24, frag 1),
   (0x28, min j.regions.length 255 * 2 ^ 24 + min j.erasures 0xFFFF),
   (0x2C, j.opId.toNat), (0x30, 0xF0000000), (0x34, 0), (0x38, 0), (0x3C, 0)]
  ++ (List.range 16).map fun i =>
    (0x40 + 4 * i, ((j.regions[i]?).map regionWord).getD 0)

/-- The working taps go back to the latched bank, but for words a core wrote since (R210). -/
def State.tapWriteBack (a : Fin 4) (j : SectorJob) (s : State) : State :=
  s.onRch a fun r =>
    if r.wb then
      let put (t : Tab Word) (n : Nat) (w : Word) : Tab Word :=
        if r.tapHold.contains n then t else Tab.put t n w 0
      let base := 64 * j.bank.toNat
      let t := r.tapA.zipIdx.foldl (fun t w => put t (base + 8 + w.2) w.1) r.banks
      { r with banks := r.tapB.zipIdx.foldl (fun t w => put t (base + 16 + w.2) w.1) t }
    else r

/-- A staging buffer is given up. -/
def State.unstage (a : Fin 4) (j : SectorJob) (s : State) : State :=
  s.onRch a fun r => { r with stage := r.stage.filter fun b => b.job.seq != j.seq }

/-- Whether so many bits of a bank's rate have passed since a chip time (R205). -/
def State.bitsPast (s : State) (a : Fin 4) (words : List Word) (n : Nat) (t : BitVec 64) : Bool :=
  decide (n * s.wedgeT a ≤ (16 * s.since t + 16) * max 1 (bankField words 1 0 18))

/-- Whether a reader that is on gave no transition in the whole sector: its codes never change sign
(R240). -/
def stillPath (l : List (BitVec 7)) : Bool :=
  !l.isEmpty && (l.all (fun c => c.msb) || l.all fun c => !c.msb)

/-- The samples and the header of a capture go into its slot, VALID last (R217 to R219); the pins that
waited for it take effect (R220). -/
def State.captureStore (a : Fin 4) (j : SectorJob) (x : Capture) (s : State) : State :=
  let k := j.slot.toNat
  let base := slotBase a k
  let s := s.onFab fun f => { f with mem := memClear f.mem (base + 0x100) (base + 0x10000) }
  let s := (s.write (base + 0x100) (sampleBytes x.samplesA)).write (base + 0x8080)
    (sampleBytes x.samplesB)
  let s := foldS (fun w t => t.setSlotWord a k w.1 w.2) (j.header x) s
  let s := s.setSlotWord a k 0 j.seq.toNat
  let s := s.onRch a fun r => { r with
    resPin := if r.deferRes.getLsbD k then setBit r.resPin k true else r.resPin
    guestPin := if r.deferGuest.getLsbD k then setBit r.guestPin k true else r.guestPin
    deferRes := setBit r.deferRes k false, deferGuest := setBit r.deferGuest k false }
  (s.setSlotWord a k 4 0x80000000).showPins a k

/-- The read gate of a sector closes (R207, R216, R219). -/
def State.gateClose (a : Fin 4) (j : SectorJob) (x : Capture) (s : State) : State :=
  let s := foldS (fun r t => t.regionSeen a r) (x.regions.filter fun r => !j.regions.contains r) s
  let s := s.doIf (x.lost && (s.act a).rch.trLock) (State.timingLost a)
  let j : SectorJob := { j with regions := x.regions, truncated := x.truncated }
  let j : SectorJob := { j with erasures := s.erasuresOf a j }
  let llrs := padTo 36864 0 (pickSpans (x.llrs.map (scaledLlr j.words)) j.code)
  let s := s.onRch a fun r => { r with
    now := none, capture := none, reading := false, gainA := x.gainA, gainB := x.gainB
    tapA := x.tapsA, tapB := x.tapsB
    slotJobs := Tab.set r.slotJobs j.slot.toNat j
    stage := r.stage.map fun b =>
      if b.job.seq = j.seq then { b with job := j, llrs := llrs, since := s.now } else b }
  let s := (s.captureStore a j x).tapWriteBack a j
  let s := s.doIf (adcSaturated x.samplesA || adcSaturated x.samplesB) fun t =>
    (t.rchFlag a 1).actFault a 3 8 0
  let s := s.doIf x.atLimit fun t => (t.rchFlag a 2).actFault a 3 8 1
  let s := s.doIf (stillPath x.samplesA || stillPath x.samplesB) fun t => t.actFault a 3 8 3
  if x.truncated then
    (((s.unstage a j).rchFlag a 6).actFault a 3 9 2).readEnd a j 7 0 0 0 0 false |>.pumpReplays
  else if j.marks = .neither then
    ((s.unstage a j).readEnd a j 5 0 0 0 0 false).pumpReplays
  else if bankField j.words 33 0 16 < j.erasures then
    ((s.unstage a j).readEnd a j 1 0 0 0 0 false).pumpReplays
  else if j.staged then s
  else s.onRch a fun r => { r with unstaged := r.unstaged ++ [j] }

/-- `READ_GATE_CLOSE` (R207, R219): when the gate's bits have passed; `truncated` says whether the capture
ended at a servo gate the operation did not place. -/
def execReadGateClose (a : Fin 4) (truncated : Bool) (s : State) : Eff :=
  .next (match (s.act a).rch.now, (s.act a).rch.capture with
    | some j, some x =>
      if x.truncated = truncated
          && s.bitsPast a j.words (max x.samplesA.length x.samplesB.length) j.gateAt then s.gateClose a j x
      else s
    | _, _ => s)

/-! Staging, the pool and replays. -/

/-- `REFILL_START` (08 R248): D1 is detected again from sample RAM into the staging buffer. -/
def execRefillStart (a : Fin 4) (s : State) : Eff :=
  .next (
    let r := (s.act a).rch
    let busy := r.replayBuf.any fun b => !b.full
    if r.refillWaits && !busy then
      ((s.onRch a fun r => { r with
          stage := mapFirst (fun b => b.job.refill && !b.d1In)
            (fun b => { b with d1In := true, since := s.now }) r.stage }).count 0x44100E 1).pumpReplays
    else s)

/-- Whether a sector's last LLR is in: 640 bits after its read gate (R214). -/
def State.llrsIn (s : State) (a : Fin 4) (b : StageBuf) : Bool := s.bitsPast a b.job.words 640 b.since

/-- Whether a replay's last LLR is in: as long as the capture and 640 bits more (R228). -/
def State.replayIn (s : State) (a : Fin 4) (b : ReplayBuf) : Bool :=
  s.bitsPast a b.job.job.words (37120 + 88 * b.job.job.req.conts.length + 640) b.since

/-- `STAGING_COMPLETE` (R226): the last LLR of the oldest closed sector, or of the replay, is in its
buffer; a sector that found no buffer gets outcome 0x4. -/
def execStagingComplete (a : Fin 4) (replay : Bool) (s : State) : Eff :=
  .next (
    let r := (s.act a).rch
    if replay then
      match r.replayBuf with
      | some b =>
        if b.full || !s.replayIn a b then s
        else s.onRch a fun r => { r with replayBuf := some { b with full := true, since := s.now } }
      | none => s
    else
      let open' (j : SectorJob) : Bool := match r.now with
        | some n => n.seq == j.seq
        | none => false
      let st := r.stage.find? fun b => !b.d2In && !open' b.job
      let late := match st, r.unstaged with
        | _, [] => false
        | none, _ :: _ => true
        | some b, u :: _ => decide (u.gateAt.toNat < b.job.gateAt.toNat)
      match late, r.unstaged, st with
      | true, u :: rest, _ =>
        (((s.onRch a fun r => { r with unstaged := rest }).rchFlag a 4).actFault a 3 9 0).readEnd a u
          4 0 0 0 0 false |>.pumpReplays
      | _, _, some b =>
        if !s.llrsIn a b then s
        else s.onRch a fun r => { r with
          stage := mapFirst (fun y => y.job.seq == b.job.seq)
            (fun y => { y with d2In := true, d1In := y.d1In || !y.job.refill, since := s.now })
            r.stage }
      | _, _, none => s)

/-- Whether a decoder is free: powered, online and without a decode (R226, R227). -/
def State.decoderFree (s : State) (d : Nat) : Bool :=
  decide ((s.dom (if d < 4 then 28 else 29)).state = .on) && s.pool.online.getLsbD d
    && (Tab.get? s.pool.jobs d).isNone

/-- The free decoders, lowest first. -/
def State.freeDecoders (s : State) : List Nat := (List.range 8).filter fun d => s.decoderFree d

/-- The earliest of some requests: by chip time, then by actuator number (R226). -/
def earliest {α : Type} (l : List (Nat × Fin 4 × α)) : Option (Fin 4 × α) :=
  (l.foldl (fun (o : Option (Nat × Fin 4 × α)) c =>
    match o with
    | none => some c
    | some b => if c.1 < b.1 || (c.1 == b.1 && decide (c.2.1.val < b.2.1.val)) then some c
                else some b) none).map fun c => c.2

/-- The on-the-fly requests. -/
def State.otfRequests (s : State) : List (Nat × Fin 4 × StageBuf) :=
  s.presentActs.flatMap fun a =>
    ((s.act a).rch.stage.filter fun b => b.d1In && b.d2In && b.granted.isNone).map fun b => (b.since.toNat, a, b)

/-- The replay requests. -/
def State.replayRequests (s : State) : List (Nat × Fin 4 × ReplayBuf) :=
  s.presentActs.flatMap fun a =>
    match (s.act a).rch.replayBuf with
    | some b => if b.full && b.granted.isNone then [(b.since.toNat, a, b)] else []
    | none => []

/-- The iteration limit on the fly: ITER_OTF, 0 as 1 and above 12 as 12 (R213, R223). -/
def SectorJob.iterLimit (j : SectorJob) : Nat := max 1 (min 12 (bankField j.words 34 0 4))

/-- A decoder starts a decode; its buffer is free once the load ends (R223, R226). -/
def State.grantTo (d : Nat) (j : DecJob) (s : State) : State :=
  let s := s.onPool fun p => { p with jobs := Tab.set p.jobs d j }
  s.doIf (decide (4 ≤ d)) fun t => t.onTt fun x => { x with grantAt := t.now }

/-- A free decoder is granted to a replay (R226): event 243 when it goes past the reserve. -/
def State.grantReplay (a : Fin 4) (b : ReplayBuf) (s : State) : State :=
  let free := s.freeDecoders
  match free with
  | [] => s
  | d :: _ =>
    let within := decide (s.p47F0ReplayReserve < free.length)
    if within || b.past2ms then
      let s := s.doIf (!within) fun t => t.event (epDecoder d) 243 a.val
      (s.grantTo d { act := a, live := none, replay := some b.job, llrs := b.llrs
                     limit := s.replayIters b.job.req.iter, erased := b.erased, since := s.now }).onRch a
        fun r => { r with replayBuf := some { b with granted := some s.now } }
    else s

/-- `DECODER_GRANT` (R226): the lowest-numbered free decoder goes to the earliest on-the-fly
request, or to the earliest replay that the reserve admits. -/
def execDecoderGrant (s : State) : Eff :=
  .next (match s.freeDecoders with
    | [] => s
    | d :: _ =>
      match earliest s.otfRequests with
      | some (a, b) =>
        (s.grantTo d { act := a, live := some b.job, replay := none, llrs := b.llrs
                       limit := b.job.iterLimit, erased := 0, since := s.now }).onRch a fun r => { r with
          stage := mapFirst (fun y => y.job.seq == b.job.seq) (fun y => { y with granted := some s.now })
            r.stage }
      | none =>
        let reqs := s.replayRequests
        let late := reqs.filter fun r => r.2.2.past2ms
        match earliest (if late.isEmpty then reqs else late) with
        | some (a, b) => s.grantReplay a b
        | none => s)

/-- `REPLAY_RESERVE_BYPASS` (R226): a replay that has waited 2 ms takes the next free decoder, after
any on-the-fly request pending. -/
def execReplayReserveBypass (a : Fin 4) (s : State) : Eff :=
  .next (match (s.act a).rch.replayBuf with
    | none => s
    | some b =>
      if b.full && b.granted.isNone && decide (2 * msTicks ≤ s.since b.since) then
        let b : ReplayBuf := { b with past2ms := true }
        let s := s.onRch a fun r => { r with replayBuf := some b }
        if s.otfRequests.isEmpty then s.grantReplay a b else s
      else s)

/-- How a decode ended (R223 to R225): the memory failed, or the word it ended with, its counts and the
4,112 payload bytes. -/
structure DecodeResult where
  memoryError : Bool
  converged : Bool
  payload : List Byte
  iters : Nat
  unsat : Nat
  unsatAtMgn : Nat
  corrected : Nat
  deriving DecidableEq, Repr

/-- A decode that was ended by a fault of the decoder: nothing is known of its word (log 110). -/
def DecodeResult.none (memoryError : Bool) : DecodeResult :=
  { memoryError := memoryError, converged := false, payload := [], iters := 0, unsat := 0
    unsatAtMgn := 0, corrected := 0 }

/-- The sector of a decode. -/
def DecJob.job (j : DecJob) : Option SectorJob :=
  match j.live with
  | some k => some k
  | Option.none => j.replay.map fun p => p.job

/-- What a decode of its LLRs gives (R223); a sector read at the wrong frequency does not converge
(R206). -/
def State.decodeResult (s : State) (j : DecJob) : DecodeResult :=
  let mgn := max 1 (min 12 (s.p4000MarginIter j.act))
  let d := ldpcDecode j.limit mgn j.llrs
  let r : DecodeResult :=
    { memoryError := false, converged := d.converged, payload := d.payload, iters := d.iters
      unsat := d.unsat, unsatAtMgn := d.atMgn, corrected := correctedBits j.llrs d }
  if j.job.any fun k => k.offSpeed then
    { r with converged := false, iters := j.limit, unsat := max 1 d.unsat }
  else r

/-- Whether a decode of so many iterations has run its phases, at six pool cycles a tick (R223). -/
def State.decodePast (s : State) (j : DecJob) (iters : Nat) : Bool :=
  decide (192 * (iters + 1) + 16 ≤ s.since j.since)

/-- The outcome of a decode (R223 to R225). -/
def decodeOutcome (tag : BitVec 64) (r : DecodeResult) : Nat :=
  if r.memoryError then 8
  else if !r.converged then 1
  else if crc64 (r.payload.take 4104) ≠ beNat ((r.payload.drop 4104).take 8) then 2
  else if beNat ((r.payload.drop 4096).take 8) ≠ tag.toNat then 3
  else 0

/-- A decoder is taken offline (R227): event 240. -/
def State.decoderOff (d : Nat) (s : State) : State :=
  (s.onPool fun p => { p with online := setBit p.online d false
                              offAfter := setBit p.offAfter d false }).event (epDecoder d) 240 d

/-- The end of a decode with an outcome (R224, R225, R230). -/
def State.decodeEnd (d : Nat) (j : DecJob) (outcome : Nat) (r : DecodeResult) (s : State) : State :=
  let a := j.act
  let s := (s.onPool fun p => { p with jobs := Tab.del p.jobs d }).count 0x47F004 1
  let s := match outcome with
    | 2 => s.fault (epDecoder d) 139 a.val
    | 3 => s.fault (epDecoder d) 138 a.val
    | 8 => ((s.fault (epDecoder d) 136 d).decoderOff d).count 0x47F007 1
    | 9 => ((s.fault (epDecoder d) 137 d).decoderOff d).count 0x47F007 1
    | _ => if s.pool.offAfter.getLsbD d then s.decoderOff d else s
  let put (q : SectorReq) (t : State) : State :=
    if outcome = 0 then t.write q.dest (r.payload.take 4096) else t
  let s := match j.live, j.replay with
    | some k, _ =>
      (put k.req s).readEnd a k outcome r.iters r.unsat r.corrected r.unsatAtMgn true
    | none, some p =>
      (s.doIf p.resident (put p.job.req)).replayEnd a p outcome r.iters r.corrected r.unsat
        j.erased
    | none, none => s
  s.pumpReplays

/-- `DECODE_COMPLETE` (R223 to R225): when the iterations of the decode have run, or as its memory fails. -/
def execDecodeComplete (d : Fin 8) (memoryError : Bool) (s : State) : Eff :=
  .next (match Tab.get? s.pool.jobs d.val with
    | none => s
    | some j =>
      if memoryError then s.decodeEnd d.val j 8 (DecodeResult.none true)
      else
        let r := s.decodeResult j
        let tag := (j.job.map fun k => k.req.tag).getD 0
        if s.decodePast j r.iters then s.decodeEnd d.val j (decodeOutcome tag r) r else s)

/-- `DECODER_STALL` (R227): a decoder that finished no phase within 100 us. -/
def execDecoderStall (d : Fin 8) (s : State) : Eff :=
  .next (match Tab.get? s.pool.jobs d.val with
    | none => s
    | some j =>
      if 100 * usTicks ≤ s.since j.since then s.decodeEnd d.val j 9 (DecodeResult.none false) else s)

end Sys2Proof.Machine
end

