-- ==== Sys2Proof/Machine/TimetableOps.lean ====
section
/-! DEFINITION. What the Timetable predicts (11): budgets, profiles, the admission tests, slack, and the
estimate E_a that placement uses (11 R340 to R349). -/

namespace Sys2Proof.Machine

open Sys2Proof

/-! Base load and allowance (R340, R341, R345). -/

/-- OD 0x1820.0C SPIN_RATED and .0D SPIN_MIN, mA (R361). -/
def State.spinRated (s : State) : Nat := s.odNat 0x18200C 560

/-- OD 0x1820.0D SPIN_MIN (R361). -/
def State.spinMin (s : State) : Nat := s.odNat 0x18200D 300

/-- The spindle's running current at the present speed before its correction, mA: linear between the
measurement at CRUISE_MIN and that at rated speed, never below zero (R341). -/
def State.spinCurrent (s : State) : Nat :=
  let lo : Int := 16 * s.p2040CruiseMin
  let hi : Int := 16 * s.p2010RatedRpm
  let v : Int := s.spn.speed.toNat
  if hi ≤ lo then s.spinRated
  else ((s.spinMin : Int) + ((s.spinRated : Int) - s.spinMin) * (v - lo) / (hi - lo)).toNat

/-- The loaded actuators. -/
def State.loadedCount (s : State) : Nat := s.presentActs.countP fun a => s.loaded a

/-- B on 12 V, mA (R341). -/
def State.base12 (s : State) : Nat :=
  s.spinCurrent * s.tt.spinFix / 1000 + s.loadedCount * s.p1820TrackFollow + s.p1820ChipBase
    + s.p1820PoolHalf * (b2n (s.domOn 28) + b2n (s.domOn 29)) + b2n (s.domOn 18) * s.p1820Cipher

/-- B on 5 V, mA (R341). -/
def State.base5 (s : State) : Nat := s.loadedCount * s.p1820PreampIdle

/-- The average budget on 12 V: in PS1 that of OD 0x1020.05 (R340, 12 R380). -/
def State.avg12 (s : State) : Nat :=
  if s.nvme.powerState = 1 then min s.p1800I12Avg (s.odNat 0x102005 1300) else s.p1800I12Avg

/-- The operation allowance of a rail in uC per period (R341). -/
def State.allowance (s : State) (avg base : Nat) : Nat :=
  s.tt.fHeat * ((avg - base) * s.tt.periodUs) / 1000000

/-- Base loads and allowances at a boundary: the excess of the last period is taken from this one, and
a budget below the base load is fault source 151, kind 1, once (R341, R345, R360). -/
def State.ttBudget (s : State) : State :=
  let b12 := s.base12
  let b5 := s.base5
  let under := decide (s.avg12 < b12) || decide (s.p1800I5Avg < b5)
  let s := s.doIf (under && !s.tt.underBase) fun t => t.fault epTimetable 151 1
  s.onTt fun t => { t with
    base12 := b12, base5 := b5, underBase := under, excess := 0
    aop12 := s.allowance s.avg12 b12 - t.excess, aop5 := s.allowance s.p1800I5Avg b5 }

/-- Peak headroom on 12 V and on 5 V, mA (R341). -/
def State.headroom (s : State) : Nat × Nat :=
  (s.p1800I12Pk - s.tt.base12, s.p1800I5Pk - s.tt.base5)

/-! Profiles (R344). -/

/-- The 10 us slots a plan spans. -/
def planSlots (p : Plan) : Nat := (p.us + 9) / 10

/-- K_SEEK's factor for an actuator, per mille (R345). -/
def State.kFactor (s : State) (a : Fin 4) : Nat := nth s.tt.kFix a.val 1000

/-- A plan's predicted current on 12 V per slot, mA (R344). -/
def State.plan12 (s : State) (a : Fin 4) (p : Plan) : List Nat :=
  (List.range (planSlots p)).map fun i =>
    s.p1820KSeek * nth p.acc i 0 * s.kFactor a / 1000000 + b2n p.load * s.p1820LoadI
      + b2n p.cal * s.p1820CalI + fToNat p.ramp s.p1820SpinAccel

/-- A plan's predicted current on 5 V per slot, mA (R344). -/
def State.plan5 (s : State) (p : Plan) : List Nat :=
  (List.range (planSlots p)).map fun i =>
    let g : BitVec 3 := nth p.gates i 0
    b2n (g.getLsbD 0) * s.p1820PreampRead + b2n (g.getLsbD 1) * s.p1820Write
      + b2n (g.getLsbD 2) * s.p1820HeatWr

/-- The sum of a list. -/
def sumNat (l : List Nat) : Nat := l.foldl (fun n x => n + x) 0

/-- What a profile draws in a slot of chip time. -/
def drawAt (start : Nat) (l : List Nat) (k : Nat) : Nat := if k < start then 0 else nth l (k - start) 0

/-- The slot of a chip time. -/
def slotOf (ticks : Nat) : Nat := ticks / 2000

/-- What is committed on a rail in a slot. -/
def State.drawn (s : State) (five : Bool) (k : Nat) : Nat :=
  s.tt.admitted.foldl (fun n x => n + drawAt x.start (if five then x.mA5 else x.mA12) k) 0

/-! Admission (R346). -/

/-- Whether a profile keeps within peak headroom in every slot it spans. -/
def State.passPeak (s : State) (five : Bool) (head start : Nat) (l : List Nat) : Bool :=
  (List.range l.length).all fun i =>
    nth l i 0 = 0 || decide (s.drawn five (start + i) + nth l i 0 ≤ head)

/-- The charge, in mA slots, of profiles within one period, counted from the last boundary. -/
def State.periodSum (s : State) (start : Nat) (l : List Nat) (p : Nat) : Nat :=
  let n := max 1 (s.tt.periodUs / 10)
  let b := slotOf s.tt.boundary.toNat + p * n
  (List.range l.length).foldl (fun m i =>
    if b ≤ start + i && decide (start + i < b + n) then m + nth l i 0 else m) 0

/-- Whether a profile keeps within the allowance in every period it spans. -/
def State.passAvg (s : State) (five : Bool) (aop start : Nat) (l : List Nat) : Bool :=
  let n := max 1 (s.tt.periodUs / 10)
  let p0 := (start - slotOf s.tt.boundary.toNat) / n
  (List.range (l.length / n + 2)).all fun i =>
    let own := s.periodSum start l (p0 + i)
    let others := s.tt.admitted.foldl (fun m x =>
      m + s.periodSum x.start (if five then x.mA5 else x.mA12) (p0 + i)) 0
    own = 0 || decide (own + others ≤ 100 * aop)

/-- Whether a plan passes R346; `exempt` from the average test. -/
def State.passes (s : State) (a : Fin 4) (start : Nat) (exempt : Bool) (p : Plan) : Bool :=
  let l12 := s.plan12 a p
  let l5 := s.plan5 p
  let (h12, h5) := s.headroom
  s.passPeak false h12 start l12 && s.passPeak true h5 start l5
    && (exempt || (s.passAvg false s.tt.aop12 start l12 && s.passAvg true s.tt.aop5 start l5))

/-! Candidates (R347, R350, R355). -/

/-- The chip time of now in microseconds. -/
def State.usNow (s : State) : Int := (s.ticks / usTicks : Nat)

/-- Microseconds from now to a deadline. -/
def State.usTo (s : State) (due : BitVec 64) : Int := ((due.toNat : Int) - s.ticks) / usTicks

/-- A candidate's deadline: that of its command or of the obligatory work it is (R352, R355). -/
def State.candDue (s : State) (c : Cand) : BitVec 64 :=
  match c.kind with
  | .foreground n _ => ((s.cmd? n).map fun k => k.due).getD c.due
  | .obligatory k j _ =>
    ((s.tt.oblig.find? fun o => o.kind == k && o.job == j).map fun o => o.due).getD c.due
  | .optional _ => c.due

/-- Whether a candidate is work of a command past its deadline (R352). -/
def State.candLate (s : State) (c : Cand) : Bool :=
  match c.kind with
  | .foreground n _ =>
    decide ((s.candDue c).toNat ≤ s.ticks) || (match s.cmd? n with
      | some k => k.lateSeen
      | none => false)
  | _ => false

/-- The plans a candidate may use: class 0 only in ORIENTATION, and no foreground operation longer than
MAX_FG_OP (R339, R347, R354). -/
def State.plansOf (s : State) (c : Cand) : List Plan :=
  c.plans.filter fun p =>
    (decide (s.sys.mode ≠ .orientation) || !c.seek || p.cls == 0)
      && (match c.kind with
        | .foreground _ _ => decide (p.us ≤ 1000 * s.p1860MaxFgOp)
        | _ => true)

/-- Slack in us with a plan: the deadline less the completion if it starts now; for obligatory work
less MAX_FG_OP too (R350, R355). -/
def State.planSlack (s : State) (c : Cand) (p : Plan) : Int :=
  s.usTo (s.candDue c) - p.us - (match c.kind with
    | .obligatory _ _ _ => 1000 * (s.p1860MaxFgOp : Int)
    | _ => 0)

/-- SLACK_GUARD in us. -/
def State.guardUs (s : State) : Int := 1000 * (s.p1810SlackGuard : Int)

/-- The plan rule 1 of R347 names: the lowest class that leaves the slack. -/
def State.slackPlan (s : State) (c : Cand) : Option Plan :=
  (s.plansOf c).find? fun p => decide (s.guardUs ≤ s.planSlack c p)

/-- The plan a candidate is expected to run with: that of rule 1 of R347, else its fastest; background its
first (R350). -/
def State.expectPlan (s : State) (c : Cand) : Option Plan :=
  match c.kind with
  | .foreground _ _ => (match s.slackPlan c with
    | some p => some p
    | none => (s.plansOf c).getLast?)
  | _ => (s.plansOf c).head?

/-- The ticks of the last second that a span of ticks takes up. -/
def overlapLast (now first last : Nat) : Nat := last - max first (now - secTicks)

/-- Ticks that obligatory media cache Homework had of an actuator in the last second (R355). -/
def State.homeworkTicks (s : State) (a : Fin 4) : Nat :=
  let past := s.tt.served7.foldl (fun n x =>
    if x.1 = a then n + overlapLast s.ticks x.2.1 x.2.2 else n) 0
  s.tt.admitted.foldl (fun n x =>
    if decide (x.act = a) && x.kind == some 7 && !x.ended then n + overlapLast s.ticks (2000 * x.start) s.ticks
    else n) past

/-- Obligatory media cache Homework is due on an actuator: it has had less than OBLIG_SHARE % of its time
over the last second (R355). -/
def State.homeworkDue (s : State) (a : Fin 4) : Bool :=
  decide (100 * s.homeworkTicks a < s.p1860ObligShare * secTicks)

/-- A candidate's slack in us (R350, R355). -/
def State.slackOf (s : State) (c : Cand) : Int :=
  match c.kind, s.expectPlan c with
  | .obligatory 7 _ _, _ => if s.homeworkDue c.act then 0 else 1
  | _, some p => s.planSlack c p
  | _, none => 0

/-! The estimate of placement (R349). -/

/-- Microseconds until the last admitted operation of an actuator ends. -/
def State.admittedEnd (s : State) (a : Fin 4) : Nat :=
  s.tt.admitted.foldl (fun m x =>
    if decide (x.act = a) && !x.ended then max m (10 * (x.start + x.mA12.length) - s.ticks / usTicks) else m) 0

/-- The wait in us that an allowance implies for a charge in mA slots: the periods whose allowance it takes
up, less its own duration. Without an allowance there is no end to it, 2^32 (log 112). -/
def waitFor (charge us aop periodUs : Nat) : Nat :=
  if charge = 0 then 0
  else if aop = 0 then 2 ^ 32
  else charge * periodUs / (100 * aop) - us

/-- What one queued operation adds to the estimate: its duration and its wait, on the rail that makes it
longer. -/
def State.queuedUs (s : State) (c : Cand) : Nat :=
  match s.expectPlan c with
  | none => 0
  | some p =>
    p.us + max (waitFor (sumNat (s.plan12 c.act p)) p.us s.tt.aop12 s.tt.periodUs)
      (waitFor (sumNat (s.plan5 p)) p.us s.tt.aop5 s.tt.periodUs)

/-- E_a in us from now (R349): the end of the last admitted operation, and the duration and wait of each
operation queued for the actuator. -/
def State.estimate (s : State) (a : Fin 4) : Nat :=
  (s.tt.queue.filter fun c => decide (c.act = a)).foldl (fun n c => n + s.queuedUs c) (s.admittedEnd a)

end Sys2Proof.Machine
end

