-- ==== Sys2Proof/Machine/Placement.lean ====
section
/-! DEFINITION. Placement: destaging, row-parity groups, the journal and its checkpoints, restore,
Homework (10 R301 to R336). -/

namespace Sys2Proof.Machine

open Sys2Proof

/-! Where a write lands (R313, R316). -/

/-- The open row-parity group of a stripe. -/
def State.openGroup (s : State) (i : Nat) : Option RowGroup :=
  s.plc.groups.find? fun g => !g.closed && g.qOp.isNone && decide (g.stripe = i)
    && decide (g.members < g.k)

/-- Whether a group of a stripe must be closed before its next write: full and without its parity,
or open since before a restore (R316). -/
def State.groupHeld (s : State) (i : Nat) : Bool :=
  s.plc.groups.any fun g => !g.closed && g.qOp.isNone && decide (g.stripe = i)
    && (decide (g.k ≤ g.members) || (Tab.get? s.plc.parity g.serial).isNone)

/-- The retired sectors in the ring of a stripe, which placement never uses again (08 R264). -/
def State.retiredIn (s : State) (t : Stripe) : List Nat := s.recov.retired.filterMap (ringOff t)

/-- How far a run of n sectors from a position must move on to have the last retired sector in it behind
it; 0 with none in it. -/
def ringClear (t : Stripe) (bad : List Nat) (p n : Nat) : Nat :=
  bad.foldl (fun m b =>
    let d := (b + t.size - p % max 1 t.size) % max 1 t.size
    if d < n then max m (d + 1) else m) 0

/-- The first position from p on at which a run of n sectors holds no retired sector (log 61); the first
number bounds the tries. -/
def clearFrom (t : Stripe) (bad : List Nat) (n : Nat) : Nat → Nat → Nat
  | 0, p => p
  | f + 1, p =>
    let d := ringClear t bad p n
    if d = 0 then p else clearFrom t bad n f (p + d)

/-- The sectors a chunk takes in a stripe, with the parity and fillers of its groups (R313), and what its
groups may leave out before retired sectors. -/
def State.chunkNeed (s : State) (i : Nat) (t : Stripe) (len : Nat) : Nat :=
  let kn := max 1 s.p4400RowGroup
  let room := match s.openGroup i with
    | some g => g.k - g.members
    | none => 0
  let first := match s.openGroup i with
    | some _ => room + 2
    | none => 0
  first + (len - room + kn - 1) / kn * (kn + 2) + (s.retiredIn t).length * (kn + 2)

/-- Whether a stripe is eligible for a chunk (R313). -/
def State.eligible (s : State) (i : Nat) (t : Stripe) (len : Nat) : Bool :=
  s.usable t.act && !(s.head t.act t.head.toNat).retired && !s.groupHeld i
    && decide (s.chunkNeed i t len ≤ stripeFree t)

/-- The hottest head temperature of an actuator, 0.125 C (R313). -/
def State.hottest (s : State) (a : Fin 4) : Int :=
  ((List.range (s.headsOf a)).filterMap fun h => Tab.get? s.tt.headT (32 * a.val + h)).foldl
    (fun (m : Int) t => if m < t then t else m) 0

/-- The score S of a stripe, in eighths of a microsecond (R313). -/
def State.score (s : State) (t : Stripe) (seek : Nat) (handle : Option Nat) : Int :=
  let acts := s.presentActs
  let hot := max 0 (s.hottest t.act - 8 * s.p1420HeatKnee)
  let f := match handle with
    | some r => if acts[r % max 1 acts.length]? = some t.act then s.p1420FdpAffinity else 0
    | none => 0
  8 * ((s.estimate t.act : Nat) : Int) + 8 * (seek : Int)
    + 8 * ((s.p1420HealthPenalty * (s.head t.act t.head.toNat).cls.toNat : Nat) : Int)
    + (s.p1420HeatPenalty : Int) * hot - 8 * (f : Int)

/-- Whether one scored stripe goes before another: score, actuator, head, zone (R313). -/
def stripeBefore (x y : Int × Nat × Stripe) : Bool :=
  let kx := (x.2.2.act.val * 32 + x.2.2.head.toNat) * 64 + x.2.2.zone.toNat
  let ky := (y.2.2.act.val * 32 + y.2.2.head.toNat) * 64 + y.2.2.zone.toNat
  decide (x.1 < y.1) || (decide (x.1 = y.1) && decide (kx < ky))

/-- The stripe placement takes for a chunk (R313). -/
def State.pickStripe (s : State) (c : ChunkInputs) (handle : Option Nat) : Option Nat :=
  let cands := (s.plc.stripes.zipIdx.filter fun x => s.eligible x.2 x.1 c.len).map fun x =>
    (s.score x.1 (nth c.seeks x.2 0) handle, x.2, x.1)
  (cands.foldl (fun (o : Option (Int × Nat × Stripe)) x =>
    match o with
    | none => some x
    | some b => if stripeBefore x b then some x else some b) none).map fun x => x.2.1

/-- Post a write operation of placement to its island. -/
def State.postWrite (t : Stripe) (pos : Nat) (sectors : List (Nat × BitVec 64)) (s : State) :
    State :=
  let s := s.nextOp
  let (tr, sec) := stripePlace t pos
  let op : WriteOp :=
    { opId := s.plc.opSeq, head := t.head, zone := t.zone, track := BitVec.ofNat 24 tr
      first := sec, sectors := sectors }
  s.acceptWrite t.act op

/-- A stripe's write point moves on. -/
def State.stripeOn (i n : Nat) (s : State) : State :=
  s.onPlc fun p => { p with
    stripes := p.stripes.mapIdx fun j t => if j = i then { t with write := t.write + n } else t }

/-- A group record replaced, without a journal entry. -/
def State.onGroup (serial : Nat) (f : RowGroup → RowGroup) (s : State) : State :=
  s.onPlc fun p => { p with
    groups := p.groups.map fun g => if g.serial = serial then f g else g }

/-- P and Q are written after the k members (R249, R316): what the members gave so far goes into
the buffer at `spare`, or stays as resident firmware put it there. -/
def State.writeParity (g : RowGroup) (spare : Nat) (s : State) : State :=
  match s.plc.stripes[g.stripe]? with
  | none => s
  | some t =>
    let s := match Tab.get? s.plc.parity g.serial with
      | some (p, q) => (s.write spare p).write (spare + 4096) q
      | none => s
    let s := s.postWrite t (g.pos + g.k)
      [(spare, mkTag 4 0 g.serial), (spare + 4096, mkTag 5 0 g.serial)]
    s.onGroup g.serial fun x => { x with qOp := some s.plc.opSeq }

/-- Members join a group: P and Q so far take them in (R249). -/
def State.addMembers (g : RowGroup) (data : List (List Byte)) (s : State) : State :=
  let pq := data.zipIdx.foldl (fun (x : List Byte × List Byte) d =>
      (xorBytes x.1 d.1, xorBytes x.2 (scaleBytes (gfG (g.members + d.2)) d.1)))
    ((Tab.get? s.plc.parity g.serial).getD (zeroSector, zeroSector))
  (s.onPlc fun p => { p with parity := Tab.set p.parity g.serial pq })
    |>.onGroup g.serial fun x => { x with members := x.members + data.length, lastAt := s.now }

/-- The group a stripe's next member joins, opened and journaled if there is none (R316); it opens where
none of its sectors is retired (08 R264). -/
def State.groupFor (i : Nat) (t : Stripe) (s : State) : State × Option RowGroup :=
  match s.openGroup i with
  | some g => (s, some g)
  | none =>
    let k := max 1 s.p4400RowGroup
    let bad := s.retiredIn t
    let pos := clearFrom t bad (k + 2) bad.length t.write
    let (tr, sec) := stripePlace t pos
    let g : RowGroup :=
      { serial := s.plc.serial + 1
        loc := { act := t.act, head := t.head, track := BitVec.ofNat 24 tr }
        sector := sec, zone := t.zone, k := k, members := 0, closed := false
        parity := true, stripe := i, pos := pos, qOp := none, lastAt := s.now }
    let s := s.stripeOn i (pos - t.write)
    let s := (s.change false (.group g)).journal false (.groupEnd 0)
    (s.onPlc fun p => { p with parity := Tab.set p.parity g.serial (zeroSector, zeroSector) },
      some g)

/-- The data of sectors in the buffer. -/
def State.sectorData (s : State) (addrs : List Nat) : List (List Byte) :=
  addrs.map fun a => s.read a 4096

/-- Write the units of a chunk into a stripe, piece by piece: a piece ends with its group or at the
end of the ring (R309, R316). The first number bounds the pieces. -/
def State.placePieces : Nat → ChunkInputs → Nat → BitVec 2 → Nat → Nat → State → State
  | 0, _, _, _, _, _, s => s
  | n + 1, c, i, temp, gen, off, s =>
    if c.len ≤ off then s
    else
      match s.plc.stripes[i]? with
      | none => s
      | some t =>
        match s.groupFor i t with
        | (s, none) => s
        | (s, some g) =>
          let pos := g.pos + g.members
          let take := min (c.len - off) (min (g.k - g.members) (t.size - pos % max 1 t.size))
          let addrs := (List.range take).map fun j => c.src + 4096 * (off + j)
          let tags := (List.range take).map fun j => mkTag 2 gen (c.gmu + off + j)
          let data := s.sectorData addrs
          let s := s.postWrite t pos (List.zip addrs tags)
          let ch : Chunk :=
            { opId := s.plc.opSeq, cmd := c.cmd, gen := gen, gmu := c.gmu + off, len := take
              stripe := i, pos := pos, zone := t.zone, temp := temp, written := false }
          let s := (s.onPlc fun p => { p with chunks := p.chunks ++ [ch], placed := true })
            |>.stripeOn i take
          let s := s.addMembers g data
          let s := if g.k ≤ g.members + take then
              (s.writeParity { g with members := g.members + take } c.spare).stripeOn i 2
            else s
          s.placePieces n c i temp gen (off + take)

/-- `DESTAGE_CHUNK` (R313 to R316). A chunk waits in the write cache while the extent map, with what is on
its way to the media, is full (R309). -/
def execDestageChunk (c : ChunkInputs) (s : State) : Eff :=
  .next (
    let inChunk (p : Page) : Bool := decide (c.gmu ≤ p.unit) && decide (p.unit < c.gmu + c.len)
    let mine := s.buf.pages.filter fun p => inChunk p && decide (p.state = .dirty)
    if mine.length ≠ c.len || c.len = 0 || decide (s.p1420Chunk < 4096 * c.len)
        || decide (s.plc.extentCap ≤ s.plc.extents.length + s.plc.chunks.length) then s
    else
      let gen := mine.foldl (fun m p => max m p.gen) 0
      let handle := match s.cmd? c.cmd with
        | some k => k.handle
        | none => none
      match s.pickStripe c handle with
      | none =>
        (s.event epPlacement 271
            ((s.presentActs.filter fun a => s.loaded a).foldl (fun n a => n + 2 ^ a.val) 0)).onPlc
          fun p => { p with obligCache := true }
      | some i =>
        if !((s.plc.stripes[i]?).all fun t => s.mediaRoom t.act) then s
        else
        let meas := (s.band (c.gmu / 65536)).temp
        let temp := match handle with
          | some r =>
            let v := s.odNat (odKey 0x1440 (1 + r)) 0xFF
            if v = 0xFF then meas else BitVec.ofNat 2 v
          | none => meas
        let s := s.onBuf fun b => { b with
          pages := b.pages.map fun p =>
            if inChunk p && decide (p.state = .dirty) then { p with state := .destaging } else p }
        (s.placePieces (2 * c.len + 2) c i temp gen 0).cacheMarks)

/-- Fillers bring an open group to k members, and P and Q follow (R316). -/
def State.closeGroup (g : RowGroup) (spare : Nat) (s : State) : State :=
  match s.plc.stripes[g.stripe]? with
  | none => s
  | some t =>
    let fill := g.k - g.members
    if fill = 0 then s.writeParity g spare
    else
      let addr := spare + 8192
      let s := s.postWrite t (g.pos + g.members)
        (List.replicate fill (addr, mkTag 6 0 g.serial))
      let live := (Tab.get? s.plc.parity g.serial).isSome
      let s := if live then s.addMembers g (List.replicate fill (s.read addr 4096))
        else s.onGroup g.serial fun x => { x with members := x.k }
      (s.writeParity { g with members := g.k } spare).stripeOn g.stripe (fill + 2)

/-- Whether an open group closes now (R316): no new member for GROUP_IDLE, heads about to unload, or open
since before a restore or with all its members, its parity not written. -/
def State.groupDue (s : State) (g : RowGroup) : Bool :=
  decide (s.p1420GroupIdle * msTicks ≤ s.since g.lastAt) || s.sys.entry.isSome || s.sys.shutKind.isSome
    || (Tab.get? s.plc.parity g.serial).isNone || decide (g.k ≤ g.members)

/-- `GROUP_IDLE_CLOSE` (R316): `x.lost` says that a member of a group open since before a restore fails steps
1 and 2 of the ladder, which records the group as closed without parity. -/
def execGroupIdleClose (serial : Nat) (x : CloseInputs) (s : State) : Eff :=
  .next (match s.plc.groups.find? fun g => g.serial == serial with
    | none => s
    | some g =>
      if g.closed || g.qOp.isSome || !s.groupDue g then s
      else if x.lost && (Tab.get? s.plc.parity g.serial).isNone then
        (s.stripeOn g.stripe (g.k + 2 - g.members)).change false
          (.group { g with closed := true, parity := false, members := g.k })
      else s.closeGroup g x.spare)

/-! The journal (R317 to R321). -/

/-- Journal sectors of at most 127 entries, numbered from a sequence. -/
def jSectors : Nat → Nat → Nat → List JEntry → List JSector
  | 0, _, _, _ => []
  | n + 1, seq, ck, l =>
    if l.isEmpty then []
    else { seq := seq, ckpt := ck, entries := l.take 127 } :: jSectors n (seq + 1) ck (l.drop 127)

/-- COPY_STATE changed: event 268 (R335). -/
def State.setCopyState (m : BitVec 4) (used : Nat) (s : State) : State :=
  if m = s.plc.copyState then s
  else (s.onPlc fun p => { p with copyState := m }).event epPlacement 268 (m.toNat + used * 256)

/-- Start a commit of everything pending to the quorum (R319). -/
def State.startCommit (order : List (Fin 4)) (s : State) : State :=
  if s.plc.commit.isSome || s.plc.pend.isEmpty then s
  else
    let ok := (order.filter fun a => s.usable a).eraseDups
    let use := ok.take s.p1410Quorum
    if use.isEmpty then s
    else
      let secs := jSectors s.plc.pend.length (s.plc.seq + 1) s.plc.ckptSeq s.plc.pend
      let s := if use.length < s.p1410Quorum then
          s.event epPlacement 268 (s.plc.copyState.toNat + use.length * 256) else s
      let c : Commit :=
        { sectors := secs, acts := use.foldl (fun m a => actPut m a true) 0, done := 0
          used := use.length, since := s.plc.pendSince, missed := s.plc.pendMissed }
      (s.onPlc fun p => { p with
        pend := [], pendSince := none, pendAt := none, pendMissed := false, commit := some c, seq := p.seq + secs.length
        sinceCkpt := p.sinceCkpt + secs.length }).obligDone 3 0

/-- Whether a commit starts now (R319): COMMIT_GATHER after the first entry that a command waits for, 1 s
after the first of the others, or at once while host I/O ends (R50, R53). -/
def State.commitDue (s : State) : Bool :=
  (s.plc.pendSince.any fun t => decide (s.p1410CommitGather * usTicks ≤ s.since t))
    || (s.plc.pendAt.any fun t => decide (secTicks ≤ s.since t))
    || s.sys.entry.isSome || s.sys.shutKind.isSome

/-- `COMMIT_START`. -/
def execCommitStart (order : List (Fin 4)) (s : State) : Eff :=
  .next (if s.commitDue then s.startCommit order else s)

/-- The number of actuators in a mask. -/
def actCountIn (m : BitVec 4) : Nat := allActs.countP fun a => actIn m a

/-- A commit is durable: what waits for its groups goes on (R319, R320, R323). -/
def State.commitDurable (c : Commit) (s : State) : State :=
  let es := c.sectors.flatMap fun j => j.entries
  let s := s.onPlc fun p => { p with
    commit := none, durable := p.durable + c.sectors.length
    nss := p.nss.map fun n =>
      if es.any fun e => match e with
        | .nspace m true => m.nsid == n.nsid
        | _ => false
      then { n with settled := true } else n }
  let s := s.onRecov fun r => { r with detentionSaved := r.detention }
  let s := foldS (fun e t => match e with
    | .groupEnd n => if n = 0 then t else t.groupDurable n
    | .freed _ => t.applyEntry e
    | _ => t) es s
  let s := s.onNvme fun v => { v with
    reservations := v.reservations.filter fun r =>
      !(es.any fun e => match e with
        | .nspace m false => m.nsid == r.nsid
        | _ => false) }
  let lag := s.presentActs.filter fun a => !actIn c.done a
  let s := foldS (fun a t => (t.obligDone 6 a.val).oblige 6 a.val (some a) 1000) lag s
  ((s.count 0x141008 1).moveTails).dirtyCheck

/-- What COMMIT_DURABLE does (R319): one copy is written, or found unwritable (R336); the commit is durable
when every quorum copy has been written. -/
def State.copyWritten (a : Fin 4) (ok : Bool) (s : State) : State :=
  match s.plc.commit with
    | none => s
    | some c =>
      if !actIn c.acts a || actIn c.done a then s
      else
        let cp := s.plc.copies.get a
        let c := if ok then { c with done := actPut c.done a true }
          else { c with acts := actPut c.acts a false }
        let s := if ok then
            s.onPlc fun p => { p with
              copies := p.copies.set a { cp with sectors := cp.sectors ++ c.sectors } }
          else
            ((s.onPlc fun p => { p with copies := p.copies.set a { cp with bad := true } }).fault
              epPlacement 29 a.val).setCopyState (actPut s.plc.copyState a false)
                (actCountIn c.acts)
        if c.acts = 0 then
          s.onPlc fun p => { p with
            commit := none, seq := p.seq - c.sectors.length
            pend := (c.sectors.flatMap fun j => j.entries) ++ p.pend
            pendSince := c.since.orElse fun _ => p.pendSince
            pendAt := some s.now, pendMissed := c.missed }
        else if c.done = c.acts then s.commitDurable c
        else s.onPlc fun p => { p with commit := some c }

/-- Whether COMMIT_DEADLINE has passed since a first waiting entry (R319). -/
def State.deadlinePast (s : State) (since : Option (BitVec 64)) : Bool :=
  since.any fun t => decide (s.p1410CommitDeadline * msTicks ≤ s.since t)

/-- `COMMIT_DEADLINE_MISS` (R319): fault source 28 once, and the commit goes on. -/
def execCommitDeadlineMiss (s : State) : Eff :=
  .next (match s.plc.commit with
    | some c =>
      if c.missed || !s.deadlinePast c.since then s
      else
        (s.onPlc fun p => { p with commit := some { c with missed := true } }).fault epPlacement 28
          (actCountIn c.done)
    | none =>
      if s.plc.pendMissed || !s.deadlinePast s.plc.pendSince then s
      else (s.onPlc fun p => { p with pendMissed := true }).fault epPlacement 28 0)

/-- The journal sectors any copy holds, by sequence. -/
def State.allSectors (s : State) : List JSector :=
  let l := allActs.flatMap fun a => (s.plc.copies.get a).sectors
  l.foldl (fun acc j =>
    if acc.any fun x => x.seq == j.seq then acc
    else (acc.filter fun x => decide (x.seq < j.seq)) ++ [j]
      ++ acc.filter fun x => decide (j.seq < x.seq)) []

/-- A copy receives the durable sectors it lacks (R319, R322). -/
def State.catchUp (a : Fin 4) (s : State) : State :=
  let cp := s.plc.copies.get a
  let held : Nat := cp.sectors.foldl (fun (m : Nat) j => max m j.seq) 0
  let new := s.allSectors.filter fun j => decide (held < j.seq) && decide (j.seq ≤ s.plc.durable)
  let best := (allActs.map fun b => (s.plc.copies.get b).ckpts).foldl
    (fun (x : List Ckpt) l =>
      if x.foldl (fun m k => max m k.seq) 0 < l.foldl (fun m k => max m k.seq) 0 then l else x)
    cp.ckpts
  ((s.onPlc fun p => { p with
      copies := p.copies.set a { sectors := cp.sectors ++ new, ckpts := best, bad := false } })
    |>.setCopyState (actPut s.plc.copyState a true) 0).obligDone 6 a.val

/-- `COPY_CATCHUP` (R319). -/
def execCopyCatchup (a : Fin 4) (s : State) : Eff :=
  .next (if s.usable a then s.catchUp a else s)

/-- Begin a checkpoint of the maps (R321). -/
def State.startCheckpoint (s : State) : State :=
  if s.plc.ckptRun.isSome then s
  else
    let k : Ckpt :=
      { seq := s.plc.ckptSeq + 1, jseq := s.plc.seq, bands := s.plc.bands
        extents := s.plc.extents, gen := max s.plc.gen s.plc.genFloor, held := s.plc.held, groups := s.plc.groups, nss := s.plc.nss
        detention := s.recov.detention }
    s.onPlc fun p => { p with ckptRun := some k, sinceCkpt := 0 }

/-- `CHECKPOINT` (R321): every CKPT_EVERY journal sectors, and at orderly shutdown. -/
def execCheckpoint (s : State) : Eff :=
  .next (if s.p1410CkptEvery ≤ s.plc.sinceCkpt || s.sys.shutKind.isSome then s.startCheckpoint else s)

/-- What CHECKPOINT_DURABLE does (R321): it stands in the older slot of each copy, and the journal before
the older checkpoint may be overwritten. -/
def State.checkpointDurable (s : State) : State :=
  match s.plc.ckptRun with
    | none => s
    | some k =>
      let put (a : Fin 4) (t : State) : State :=
        let cp := t.plc.copies.get a
        let ks := lastN 2 (cp.ckpts ++ [k])
        let keep := ks.foldl (fun m x => min m x.jseq) k.jseq
        t.onPlc fun p => { p with
          copies := p.copies.set a { cp with
            ckpts := ks, sectors := cp.sectors.filter fun j => decide (keep < j.seq) } }
      let s := foldS put (s.presentActs.filter fun a => s.usable a) s
      (s.onPlc fun p => { p with ckptRun := none, ckptSeq := k.seq }).event epPlacement 267
        (k.seq % 2 ^ 32)

/-! Restore (R322). -/

/-- Entries up to the last group end: a group is applied whole or not at all (R318). -/
def wholeGroups (l : List JEntry) : List JEntry :=
  (l.reverse.dropWhile fun e => match e with
    | .groupEnd _ => false
    | _ => true).reverse

/-- Whether a sector ends a group. -/
def endsGroup (j : JSector) : Bool :=
  j.entries.any fun e => match e with
    | .groupEnd _ => true
    | _ => false

/-- The newest checkpoint that some copy yields, the copies in load order (R322). -/
def State.restorePoint (s : State) (order : List (Fin 4)) (lost : List (Fin 4 × Bool × Nat)) :
    Option Ckpt :=
  let l := order.flatMap fun a =>
    (s.plc.copies.get a).ckpts.filter fun k => !lost.contains (a, true, k.seq)
  l.foldl (fun (o : Option Ckpt) k =>
    match o with
    | none => some k
    | some b => if b.seq < k.seq then some k else some b) none

/-- A journal sector from the first copy that yields it (R322). -/
def State.restoreSector (s : State) (order : List (Fin 4)) (lost : List (Fin 4 × Bool × Nat))
    (q : Nat) : Option JSector :=
  order.findSome? fun a =>
    if lost.contains (a, false, q) then none
    else (s.plc.copies.get a).sectors.find? fun j => j.seq == q

/-- The end of the journal: the highest sequence that ends a complete group in any copy (R322). -/
def State.journalEnd (s : State) (order : List (Fin 4)) (from' : Nat) : Nat :=
  (order.flatMap fun a => (s.plc.copies.get a).sectors).foldl (fun m j =>
    if endsGroup j then max m j.seq else m) from'

/-- Restore of the mapping (R322): the state with the maps restored, or the copies that failed. -/
def State.restoreMap (order : List (Fin 4)) (lost : List (Fin 4 × Bool × Nat)) (ms : Nat)
    (s : State) : State × Option Nat :=
  let k := s.restorePoint order lost
  let from' := (k.map fun x => x.jseq).getD 0
  let last := s.journalEnd order from'
  let secs := (List.range (last - from')).map fun i => s.restoreSector order lost (from' + 1 + i)
  let failed := (lost.map fun x => x.1).eraseDups.foldl (fun n a => n + 2 ^ a.val) 0
  if secs.any fun x => x.isNone then (s, some failed)
  else
    let s := s.onPlc fun p => match k with
      | some x => { p with
          bands := x.bands, extents := x.extents, gen := x.gen, groups := x.groups, nss := x.nss
          ckptSeq := x.seq, held := x.held, genFloor := x.gen
          serial := x.bands.foldl (fun m b => max m b.geom.last)
            (x.groups.foldl (fun m g => max m g.serial) 0) }
      | none => { p with bands := [], extents := [], groups := [] }
    let s := s.onRecov fun r => { r with detention := (k.map fun x => x.detention).getD [] }
    let es := wholeGroups (secs.filterMap id |>.flatMap fun j => j.entries)
    let s := foldS State.applyEntry es s
    let s := s.onPlc fun p => { p with
      pend := [], pendSince := none, pendAt := none, pendMissed := false, commit := none, ckptRun := none, chunks := []
      seq := last, durable := last, sinceCkpt := last - from', restoreMs := ms
      restorePrimary := (order.head?.map fun a => BitVec.ofNat 2 a.val).getD 0
      parity := [] }
    let s := (s.restoreStripes).onRecov fun r => { r with detentionSaved := r.detention }
    let s := foldS State.catchUp order s
    (foldS (fun a t => t.oblige 6 a.val (some a) 1000)
      (s.presentActs.filter fun a => !order.contains a) s, none)

/-! Homework (R324 to R332). -/

/-- Whether a slot meets the target slot of a job. -/
def State.slotMeets (s : State) (j : JobReq) (l : Loc) (z : BitVec 6) : Bool :=
  let n := slotTracks (s.zone j.toAct j.toZone.toNat).spt
  let m := slotTracks (s.zone l.act z.toNat).spt
  decide (l.act = j.toAct) && decide (l.head = j.toHead)
    && decide (l.track.toNat < j.toTrack.toNat + n) && decide (j.toTrack.toNat < l.track.toNat + m)

/-- The first track of a job's target. -/
def jobDest (j : JobReq) : Loc := { act := j.toAct, head := j.toHead, track := j.toTrack }

/-- Whether a job writes a band slot (R324). -/
def jobWrites (j : JobReq) : Bool := decide (j.code ≠ 4) && decide (j.code ≠ 8)

/-- Whether nothing holds a target slot (R320): no band, no slot waiting to be free, no job's source or target,
no read or ladder; and no retired sector lies in it (08 R264). -/
def State.slotFree (s : State) (j : JobReq) : Bool :=
  let n := slotTracks (s.zone j.toAct j.toZone.toNat).spt
  let inside (p : PhysSector) : Bool := decide (p.act = j.toAct) && decide (p.head = j.toHead)
    && decide (j.toTrack.toNat ≤ p.track.toNat) && decide (p.track.toNat < j.toTrack.toNat + n)
  !(s.plc.bands.any fun b => b.loc.any fun l => s.slotMeets j l b.zone)
    && !(s.plc.held.any fun h => s.slotMeets j h.loc h.zone)
    && !(s.plc.jobs.any fun x => (x.old.any fun h => s.slotMeets j h.loc h.zone)
        || (jobWrites x.req && s.slotMeets j (jobDest x.req) x.req.toZone))
    && !((s.readPlaces ++ s.recov.retired).any inside)

/-- Whether a job's target is a band slot of its zone (R304), at the twin density where the Report Card has
ordered the head to it (R331). -/
def State.slotShaped (s : State) (j : JobReq) : Bool :=
  let e := s.zone j.toAct j.toZone.toNat
  let n := slotTracks e.spt
  let tr := j.toTrack.toNat
  (decide (e.use = 4) || (decide (e.use = 1)
      && ((s.head j.toAct j.toHead.toNat).twin.isNone || decide (e.twin = 0xFF))))
    && !s.zoneRefused j.toAct j.toZone.toNat
    && decide (e.first ≤ tr) && decide ((tr - e.first) % n = 0) && decide (tr + n ≤ e.last + 1)

/-- Free band slots of every head and USE 1 zone (R307). -/
def State.freeSlots (s : State) : Nat :=
  let all := s.presentActs.foldl (fun n a =>
    n + s.headsOf a * ((List.range 64).foldl (fun m z =>
      let e := s.zone a z
      if e.use = 1 then m + zoneSlots e else m) 0)) 0
  all - (s.plc.bands.countP fun b => b.loc.isSome) - s.plc.held.length

/-- Whether a job is obligatory now (R324). -/
def State.jobObligatory (s : State) (j : JobReq) : Bool :=
  match j.code with
  | 1 => s.plc.obligCache
  | 2 => s.plc.obligCache
  | 3 => decide (s.freeSlots < 2 * s.actCount)
  | 5 => true
  | 8 => true
  | _ => false

/-- An extent takes its place among extents in the order of generations, oldest first. -/
def genInsert (e : Extent) : List Extent → List Extent
  | [] => [e]
  | x :: r => if e.gen ≤ x.gen then e :: x :: r else x :: genInsert e r

/-- The extents from the front that fit into a number of sectors. -/
def takeRoom : Nat → List Extent → List Extent
  | _, [] => []
  | room, e :: r => if e.len ≤ room then e :: takeRoom (room - e.len) r else []

/-- The open pooled band at a job's target (R324): its slot has room left. -/
def State.openPool (s : State) (j : JobReq) : Option BandEntry :=
  s.plc.bands.find? fun b => decide (b.state = .pooled) && b.loc == some (jobDest j)
    && decide (b.zone = j.toZone) && decide (b.geom.used < 65536)

/-- Whether a job moves extents into a pooled band (R321, R324): re-home, compact and relocate, and re-plan
and migrate of a pooled band. -/
def State.movesPool (s : State) (j : JobReq) : Bool :=
  decide (j.code = 2) || decide (j.code = 3) || decide (j.code = 5)
    || ((decide (j.code = 6) || decide (j.code = 7)) && decide ((s.band j.band).state = .pooled))

/-- The warm and hot extents in the media cache of a surface, oldest first (R324, R325). -/
def State.warmOn (s : State) (j : JobReq) : List Extent :=
  (s.plc.extents.filter fun e => decide (e.kind = .cache) && decide (e.temp ≠ 0)
    && decide (e.loc.act = j.act) && decide (e.loc.head = j.head)).foldr genInsert []

/-- The unit that a relocation moves, as an extent at its present place (R264, R327): none where the mapping
has it elsewhere by now. Data of a home slot has no generation of its own: it goes below every extent. -/
def State.relocSource (s : State) (j : JobReq) : Option Extent :=
  match j.sector with
  | none => none
  | some x =>
    match s.recov.detention.find? fun d => d.isAt x.act x.head x.track x.sector with
    | none => none
    | some d =>
      match (s.ns? d.nsid).bind fun n => nsUnit n d.lba with
      | none => none
      | some g =>
        match s.resolveMedia g with
        | .media l sec z _ =>
          if l.act = x.act && l.head = x.head && l.track = x.track && sec = x.sector then
            let e := extAt g s.plc.extents
            some { gmu := g, len := 1, loc := l, sector := sec, zone := z, kind := .cache
                   gen := (e.map fun y => y.gen).getD 0
                   temp := (e.map fun y => y.temp).getD (s.band (g / 65536)).temp }
          else none
        | _ => none

/-- The temperature class of a job's pooled band (R324). -/
def State.jobClass (s : State) (j : JobReq) : BitVec 2 :=
  match j.code with
  | 2 => match s.openPool j with
    | some b => b.temp
    | none => ((s.warmOn j).head?.map fun e => e.temp).getD 1
  | 5 => ((s.relocSource j).map fun e => e.temp).getD 1
  | _ => (s.band j.band).temp

/-- The data sectors left in a job's target. -/
def State.jobRoom (s : State) (j : JobReq) : Nat :=
  65536 - ((s.openPool j).map fun b => b.geom.used).getD 0

/-- The extents a job copies (R324, R325): a merge its band's cold and deallocated ones, a re-home the oldest
of its class on a surface, and a move of a pooled band those of its slot. -/
def State.jobSource (s : State) (j : JobReq) : List Extent :=
  match j.code with
  | 1 => s.plc.extents.filter fun e => decide (e.gmu / 65536 = j.band)
      && ((decide (e.temp = 0) && decide (e.kind ≠ .unreadable)) || decide (e.kind = .deallocated))
  | 2 => takeRoom (s.jobRoom j) ((s.warmOn j).filter fun e => e.temp == s.jobClass j)
  | 5 => (s.relocSource j).toList
  | _ => if s.movesPool j then s.slotExtents (s.band j.band) s.plc.extents else []

/-- The units of a list of extents. -/
def extUnits (l : List Extent) : Nat := l.foldl (fun n e => n + e.len) 0

/-- How a job writes its target (R304, R316): groups of the present ROW_GROUP with serial numbers of their own,
or those of the open pooled band it adds to; fillers bring the last group to k members. -/
def State.jobGeom (s : State) (j : JobReq) : BandGeom :=
  let n := extUnits (s.jobSource j)
  match s.openPool j with
  | some b =>
    let k := max 1 b.geom.k
    { b.geom with used := b.geom.used + (n + k - 1) / k * k }
  | none =>
    let k := max 1 s.p4400RowGroup
    { k := k, serial := s.plc.serial + 1
      used := if s.movesPool j then (n + k - 1) / k * k else fullUse k }

/-- The sectors a job writes, parity included (R316, R324). -/
def State.jobSectors (s : State) (j : JobReq) : Nat :=
  let g := s.jobGeom j
  let off := ((s.openPool j).map fun b => b.geom.used).getD 0
  if jobWrites j then bandSectorIndex g.k g.used - bandSectorIndex g.k off else 0

/-- How many tracks a job copies (R326). -/
def State.jobTracks (s : State) (j : JobReq) : Nat :=
  let spt := max 1 (s.zone j.toAct j.toZone.toNat).spt
  match j.code with
  | 4 => 0
  | 8 => 1
  | _ => (s.jobSectors j + spt - 1) / spt

/-- Whether a stripe's oldest cold extent is of a band: what an obligatory merge takes (R325). -/
def State.tailBand (s : State) (glb : Nat) : Bool :=
  s.plc.stripes.any fun t =>
    let cold := (s.plc.extents.filter fun e => decide (e.kind = .cache) && decide (e.temp = 0)).filterMap
      fun e => (stripePos t e.first).map fun p => (p, e.gmu / 65536)
    match cold.foldl (fun (o : Option (Nat × Nat)) x => match o with
      | none => some x
      | some y => if x.1 < y.1 then some x else some y) none with
    | some x => x.2 == glb
    | none => false

/-- Whether a job is not one the rules choose (R324, R325, R330, R331): an optional merge takes the band with the
most cached units among those with MERGE_MIN and an obligatory one the band at a stripe's tail, compacting
takes a pooled band below COMPACT_VALID, moves go to the open pooled band of their class, re-planning takes
a band that waits for it, migrating a band of a write-retired head. -/
def State.badChoice (s : State) (j : JobReq) : Bool :=
  let b := s.band j.band
  let pool := s.movesPool j && (match s.openPool j with
    | some p => decide (p.temp ≠ s.jobClass j) || p.glb == j.band
        || decide (s.jobRoom j < extUnits (s.jobSource j))
    | none => decide (j.code = 2) && s.plc.bands.any fun p => decide (p.state = .pooled)
        && decide (p.temp = s.jobClass j) && decide (p.geom.used < 65536))
  pool || match j.code with
  | 1 => b.merging || decide (b.state = .pooled) || decide (b.state = .released)
      || (if s.jobObligatory j then !s.tailBand j.band
        else decide (1000 * b.cached < 65536 * s.p1430MergeMin)
          || s.plc.bands.any fun x => decide (x.state = .home) && !x.merging && decide (b.cached < x.cached))
  | 3 => decide (b.state ≠ .pooled) || decide (65536 * s.p1430CompactValid ≤ 1000 * s.cachedOf b)
  | 5 => b.merging && (match j.sector with
      | some x => b.loc.any fun l => l.act == x.act && l.head == x.head
          && decide (l.track.toNat ≤ x.track.toNat)
          && decide (x.track.toNat < l.track.toNat + slotTracks (s.zone l.act b.zone.toNat).spt)
      | none => false)
  | 6 => b.merging || !b.replan
  | 7 => b.merging || !(b.loc.any fun l => (s.head l.act l.head.toNat).retired)
  | _ => false

/-- Start a Homework job (R324): optional work only where it is allowed, nothing that writes onto a
write-retired head or into a slot in use. -/
def State.startJob (j : JobReq) (s : State) : State :=
  let o := s.jobObligatory j
  let badTarget := jobWrites j &&
    (!s.usable j.toAct || (s.head j.toAct j.toHead.toNat).retired
      || (match s.openPool j with
        | some _ => s.plc.jobs.any fun x => jobWrites x.req && (jobDest x.req) == (jobDest j)
        | none => !s.slotShaped j || !s.slotFree j))
  let badMode :=
    match s.sys.mode with
    | .service => false
    | .orientation => !o
    | _ => true
  let badSpare := s.plc.noSpare && (decide (j.code = 6) || decide (j.code = 7))
  if badMode || badTarget || badSpare || s.badChoice j || (!o && !s.optionalMay) then s
  else
    let job : Job :=
      { id := s.plc.jobId + 1, req := j, obligatory := o, gen := s.plc.gen, track := 0
        tracks := s.jobTracks j, bad := [], stop := false, since := s.now
        src := s.jobSource j, sectors := s.jobSectors j, geom := s.jobGeom j, cls := s.jobClass j
        old := if s.movesPool j && j.code ≠ 3 && j.code ≠ 6 && j.code ≠ 7 then none
          else (s.band j.band).loc.map fun l => { glb := j.band, loc := l, zone := (s.band j.band).zone } }
    let s := s.onPlc fun p => { p with
      jobs := p.jobs ++ [job], jobId := job.id
      serial := if jobWrites j then max p.serial job.geom.last else p.serial }
    let s := match j.sector with
      | some x => s.doIf (decide (j.code = 5)) fun t => t.obligDone 5 (relocJob x.track x.sector)
      | none => s
    s.doIf (decide (j.code = 1)) fun t => t.onBand j.band fun b => { b with merging := true }

/-- `HOMEWORK_JOB_START`. -/
def execHomeworkJobStart (j : JobReq) (s : State) : Eff := .next (s.startJob j)

/-- Spare consumed by a move, in thousandths of a nominal slot, and events 270 and fault source 31
at their thresholds (R331, R332). -/
def State.useSpare (n : Nat) (s : State) : State :=
  let u := s.plc.spareUse + n
  let s := s.onPlc fun p => { p with
    spareLeft := p.spareLeft - u / 1000, spareUse := u % 1000 }
  let av := s.availableSpare
  let s := if av ≤ s.p1400SpareWarn && !s.plc.lowSpare then
      (s.onPlc fun p => { p with lowSpare := true }).event epPlacement 270 av else s
  if s.plc.spareLeft ≤ 2 * s.actCount && !s.plc.noSpare then
    (s.onPlc fun p => { p with
        noSpare := true
        jobs := p.jobs.map fun j =>
          if j.req.code = 6 || j.req.code = 7 then { j with stop := true } else j }).fault
      epPlacement 31 0
  else s

/-- A job's extents laid out from a data sector of a slot on, P and Q of each group left free (R309, R316); the
first number bounds the pieces. -/
def State.layOut (s : State) (start : Loc) (zone : BitVec 6) (k : Nat) : Nat → Nat → List Extent → List Extent
  | 0, _, _ => []
  | _, _, [] => []
  | n + 1, off, e :: r =>
    let take := min e.len (k - off % max 1 k)
    let (l, sec) := s.advance start zone 0 (bandSectorIndex k off)
    let rest := if take < e.len then { e with gmu := e.gmu + take, len := e.len - take } :: r else r
    { e with len := take, loc := l, sector := sec, zone := zone, kind := .rehomed }
      :: s.layOut start zone k n (off + take) rest

/-- What of a copied extent the map still holds, at its new place (R318, R327): units written or deallocated
during the job keep their newer extents. -/
def State.movedPieces (s : State) (m : Extent) : List Extent :=
  s.plc.extents.filterMap fun x =>
    let lo := max x.gmu m.gmu
    let hi := min (x.gmu + x.len) (m.gmu + m.len)
    if decide (x.gen = m.gen) && x.onMedia && decide (lo < hi) then
      let (l, sec) := s.advance m.loc m.zone m.sector (lo - m.gmu)
      some { m with gmu := lo, len := hi - lo, loc := l, sector := sec }
    else none

/-- Event 269 when no band of a head is left at the old density (R331). -/
def State.replanDone (a : Fin 4) (h : BitVec 5) (s : State) : State :=
  let hs := s.head a h.toNat
  let left := s.plc.bands.any fun b => b.replan && match b.loc with
    | some l => decide (l.act = a) && decide (l.head = h)
    | none => false
  if hs.replan && !left then
    (s.onHead a h.toNat fun x => { x with replan := false }).event epPlacement 269
      (a.val * 2 ^ 24 + h.toNat * 256 + (hs.twin.getD 0).toNat)
  else s

/-- Units whose source sector was unrecovered are recorded KIND 3 with the generation of what was copied, where
nothing newer covers them (R327). -/
def State.markBad (j : Job) (s : State) : State :=
  foldS (fun g t =>
    let gen := ((extAt g j.src).map fun e => e.gen).getD 0
    if (extAt g t.plc.extents).any fun x => decide (gen < x.gen) then t
    else t.change false (.extentAdded
      { gmu := g, len := 1, loc := (jobDest j.req), sector := 0, zone := j.req.toZone, kind := .unreadable
        gen := gen, temp := 0 })) j.bad s

/-- Relocations of sectors in a slot complete with the merge that carries their data (R327). -/
def State.mergeRelocates (h : HeldSlot) (s : State) : State :=
  let n := slotTracks (s.zone h.loc.act h.zone.toNat).spt
  let mine := s.recov.detention.filter fun d => d.flags.getLsbD 0 && d.act == h.loc.act
    && d.head == h.loc.head && decide (h.loc.track.toNat ≤ d.track.toNat)
    && decide (d.track.toNat < h.loc.track.toNat + n)
  foldS (fun d t => ((t.onPlc fun p => { p with
      jobs := p.jobs.filter fun j => !(j.req.code == 5 && j.req.sector.any fun x =>
        d.isAt x.act x.head x.track x.sector) }).obligDone 5 (relocJob d.track d.sector)).relocated d) mine s

/-- The old slot of a band is freed, and its head's re-planning looked at (R320, R331). -/
def State.leaveSlot (j : Job) (s : State) : State :=
  match j.old with
  | none => s
  | some h => ((s.freeSlot h).doIf (decide (j.req.code = 1)) (State.mergeRelocates h)).replanDone h.loc.act h.loc.head

/-- Nominal tracks of a band slot in a zone: those of the zone that a twin derates (R303, R331). -/
def State.nominalTracks (s : State) (a : Fin 4) (z : BitVec 6) : Nat :=
  let e := s.zone a z.toNat
  slotTracks (if e.use = 4 then s.zone a e.twin else e).spt

/-- The spare that a band's move consumes, in thousandths of a nominal slot (R331): its slot's tracks at the
new density less those at the old; a slot left on a write-retired head is lost whole (log 61). -/
def State.moveSpare (s : State) (j : Job) : Nat :=
  let q := j.req
  let nom := s.nominalTracks q.toAct q.toZone
  let old := (j.old.map fun h => slotTracks (s.zone h.loc.act h.zone.toNat).spt).getD nom
  let new := slotTracks (s.zone q.toAct q.toZone.toNat).spt
  1000 * (new - old) / max 1 nom + if q.code = 7 then 1000 else 0

/-- A band's home data is in its new slot (R317, R324, R325): extents up to a generation are consumed. -/
def State.remap (j : Job) (maxGen : Nat) (s : State) : State :=
  let q := j.req
  ((s.change false (.bandRemapped q.band (jobDest q) q.toZone ((s.band q.band).gen + 1) maxGen j.geom)).markBad j
    |>.leaveSlot j).useSpare (s.moveSpare j)

/-- The number of a new pooled band: the first above the logical bands that is not in use (R308). -/
def State.newPool (s : State) : Nat :=
  ((List.range (s.plc.bands.length + 1)).find? fun i =>
    decide ((s.band (s.plc.userBands + i)).state ≠ .pooled)).getD 0 + s.plc.userBands

/-- Extents are in a pooled band (R321, R324): of the open one, which goes on, or of a new one. -/
def State.poolMove (j : Job) (s : State) : State :=
  let q := j.req
  let pool := s.openPool q
  let off := (pool.map fun b => b.geom.used).getD 0
  let laid := s.layOut (jobDest q) q.toZone j.geom.k (extUnits j.src) off j.src
  let pieces := if q.code = 5 then (if (s.relocSource q).toList = j.src then laid else [])
    else laid.flatMap s.movedPieces
  let s := foldS (fun e t => t.change false (.extentAdded e)) pieces s
  let s := s.markBad j
  let glb := match pool with
    | some b => b.glb
    | none => if q.code = 2 || q.code = 5 then s.newPool else q.band
  let s := (s.change false (.bandRemapped glb (jobDest q) q.toZone (s.band glb).gen 0 j.geom)).change false
    (.bandState glb .pooled j.cls)
  if j.old.isNone then s
  else
    let s := if glb = q.band then s else s.change false (.bandState q.band .unwritten 0)
    (s.leaveSlot j).doIf (decide (q.code = 6) || decide (q.code = 7)) fun t => t.useSpare (s.moveSpare j)

/-- Whether a band's units are all deallocated (R324). -/
def State.allDeallocated (s : State) (glb : Nat) : Bool :=
  let l := s.plc.extents.filter fun e => decide (e.gmu / 65536 = glb)
  (l.all fun e => decide (e.kind = .deallocated)) && decide (extUnits l = 65536)

/-- The release job (R324, R328): a released or wholly deallocated band becomes unwritten, its slots are
freed, and deallocations on a band without a slot are dropped, since it reads zeros without them. -/
def State.release (glb : Nat) (s : State) : State :=
  let b := s.band glb
  let s := if b.state = .released || (b.state = .home && !b.merging && s.allDeallocated glb) then
      s.change false (.bandState glb .unwritten 0) else s
  let s := foldS State.freeSlot (s.plc.held.filter fun h => h.glb == glb
    && !(s.plc.pend.any fun e => match e with
      | .freed l => l == h.loc
      | _ => false)) s
  if (s.band glb).state = .unwritten then
    foldS (fun (e : Extent) t => t.change false (.extentsRemoved e.gmu e.len e.gen))
      (s.plc.extents.filter fun e => decide (e.gmu / 65536 = glb) && decide (e.kind = .deallocated)) s
  else s

/-- The change of maps that a completed job makes, as one group (R318, R324). -/
def State.jobChange (j : Job) (s : State) : State :=
  let q := j.req
  match q.code with
  | 1 => s.remap j j.gen
  | 4 => s.release q.band
  | 5 =>
    let d := q.sector.bind fun x => s.recov.detention.find? fun d => d.isAt x.act x.head x.track x.sector
    match d with
    | none => s
    | some d => (if j.src.isEmpty then s else s.poolMove j).relocated d
  | 8 => s.catchUp q.act
  | _ => if s.movesPool q then s.poolMove j else s.remap j 0

/-- A job ends: its change is made as one group and announced with event 266 (R326, R335). -/
def State.jobEnd (j : Job) (s : State) : State :=
  let q := j.req
  let s := s.onPlc fun p => { p with jobs := p.jobs.filter fun x => x.id != j.id }
  let s := (s.jobChange j).journal false (.groupEnd 0)
  let mib := j.sectors * 4096 / 1048576
  ((s.count (0x143006 + q.code) 1).count 0x14300F mib).event epPlacement 266
      (q.code * 2 ^ 28 + q.act.val * 2 ^ 24 + q.band % 2 ^ 19)
    |>.cacheMarks

/-- Whether a job must stop at its safe point (R327, R330). -/
def State.jobStops (s : State) (j : Job) : Bool :=
  j.stop || (jobWrites j.req
      && (s.head j.req.toAct j.req.toHead.toNat).retired)
    || ((decide (j.req.code = 1) || decide (j.req.code = 6))
        && decide ((s.band j.req.band).state = .released))

/-- What HOMEWORK_TRACK_STEP does (R326, R327): one track is copied, or the job stops here. -/
def State.homeworkStep (job : Nat) (bad : List Nat) (s : State) : State :=
  match s.plc.jobs.find? fun j => j.id == job with
    | none => s
    | some j =>
      if s.jobStops j then
        (s.onPlc fun p => { p with jobs := p.jobs.filter fun x => x.id != job })
          |>.onBand j.req.band fun b => { b with merging := false }
      else
        let j := { j with track := j.track + 1, bad := j.bad ++ bad }
        if j.tracks ≤ j.track then s.jobEnd j
        else s.onPlc fun p => { p with jobs := p.jobs.map fun x => if x.id = job then j else x }

/-- The temperature class that a count of writes gives (R325). -/
def State.tempClass (s : State) (writes : Nat) : BitVec 2 :=
  if writes < s.p1430WarmWrites then 0 else if writes < s.p1430HotWrites then 1 else 2

/-- `TEMP_WINDOW_RESTART` (R325): every TEMP_WINDOW power-on hours each logical band takes the class of the
window that ends, which is journaled where it changes (R317), and WRITES starts again. -/
def execTempWindowRestart (s : State) : Eff :=
  .next (
    if s.poh < s.plc.tempSince + s.p1430TempWindow then s
    else
      let logical := s.plc.bands.filter fun b => decide (b.state ≠ .pooled)
      let moved := logical.filter fun b => decide (b.temp ≠ s.tempClass b.writes)
      let s := foldS (fun (b : BandEntry) t =>
        t.change false (.bandState b.glb b.state (s.tempClass b.writes))) moved s
      (s.onPlc fun p => { p with
        tempSince := s.poh, bands := p.bands.map fun b => { b with writes := 0 } }).doIf (!moved.isEmpty)
          (State.journal false (.groupEnd 0)))

/-- A head is ordered to a twin density (R331): re-plan pending on each of its bands. -/
def State.orderTwin (a : Fin 4) (h : Nat) (zone : BitVec 6) (s : State) : State :=
  (s.onHead a h fun x => { x with replan := true, twin := some zone }).onPlc fun p => { p with
    bands := p.bands.map fun b =>
      match b.loc with
      | some l => if l.act = a && decide (l.head.toNat = h) then { b with replan := true } else b
      | none => b }

end Sys2Proof.Machine
end

