-- ==== Sys2Proof/Machine/PowerOps.lean ====
section
/-! DEFINITION. Operations on the 32 power domains (18 R498 to R500, 02 R36, R37) that the mode
sequencer, the Timetable and others use. -/

namespace Sys2Proof.Machine

open Sys2Proof

/-- The domain a domain depends on (18 R498). -/
def domDep (d : Nat) : Option Nat :=
  if d = 0 || d = 1 || d = 6 || d = 7 then none
  else if d = 12 || d = 13 then some 11
  else if d = 15 then some 14
  else if 24 ≤ d && d ≤ 27 then some (d - 4)
  else some 6

/-- The domains that depend on one. -/
def domUsers (d : Nat) : List Nat := (List.range 32).filter fun e => domDep e == some d

/-- Whether a domain belongs to a unit the tier has (00 R3). -/
def State.domPresent (s : State) (d : Nat) : Bool :=
  let quad := decide (s.ident.tier = .a)
  if d = 22 || d = 23 || d = 26 || d = 27 then quad
  else if d = 18 || d = 13 then s.hasCipher
  else true

/-- Whether a requester may switch a domain (18 R498). -/
def domAllowed (d : Nat) (on : Bool) (who : Requester) : Bool :=
  if d = 0 || d = 1 then false
  else if d = 6 || d = 7 || d = 11 then on && decide (who = .sequencer)
  else if d = 12 || d = 13 then decide (who = .pcie)
  else if d = 18 then decide (who = .resident) || decide (who = .sequencer)
  else if 20 ≤ d && d ≤ 27 then decide (who = .sequencer) || decide (who = .monitor)
  else if d = 28 || d = 29 then
    decide (who = .sequencer) || decide (who = .timetable) || decide (who = .monitor)
  else if d = 31 then decide (who = .dictionary)
  else decide (who = .sequencer)

/-- Where a core's own tightly coupled memories stand in the model's memory: an actuator core's in
its island's window, another's above 2^40 (01 R28, R29). -/
def tcmBase (core : Nat) : Nat :=
  if core < 0x20 then 2 ^ 40 + 2 ^ 32 * core
  else 0x21000000 + 0x100000 * ((core - 0x20) / 8)

/-- The memories of a domain, as ranges (02 R37, 01 R28, R29). -/
def domMemory (d : Nat) : List (Nat × Nat) :=
  if 2 ≤ d && d ≤ 5 then [(tcmBase (d - 2), tcmBase (d - 2) + 2 ^ 32)]
  else if 7 ≤ d && d ≤ 10 then
    [(0x10000000 + 0x600000 * (d - 7), 0x10000000 + 0x600000 * (d - 6))]
  else if 20 ≤ d && d ≤ 23 then
    [(0x21000000 + 0x100000 * (d - 20) + 0x10000, 0x21000000 + 0x100000 * (d - 19))]
  else []

/-- The memories of a domain hold zeros (02 R37). -/
def State.fillDomain (d : Nat) (s : State) : State :=
  s.onFab fun f => { f with
    mem := (domMemory d).foldl (fun m r => memClear m r.1 r.2) f.mem }

/-- The pool halves that are powered: bit 0 PD28, bit 1 PD29 (07 R237). -/
def State.poweredHalves (s : State) : Nat := b2n (s.domOn 28) + 2 * b2n (s.domOn 29)

/-- The registers of the units in a domain that has lost its power, as they stand once it is on
again: their reset values. Values that objects shadow are kept by the objects (03 R71). -/
def State.resetUnits (d : Nat) (s : State) : State :=
  if h : 20 ≤ d ∧ d ≤ 23 then
    let a : Fin 4 := ⟨d - 20, by omega⟩
    s.onAct a fun x => { x with
      isl := { Isl.reset with load := x.isl.load, synN := x.isl.synN, notice := x.isl.notice }
      svd := Svd.reset, sve := Sve.reset, svp := Svp.reset, svi := Svi.reset, svc := Svc.reset
      svb := Svb.reset, mbx := Four.all Mailbox.reset
      rch := Rch.reset, wp := { Wp.reset with done := x.wp.done, cause := x.wp.cause &&& 0x400 }
      psc := Psc.reset }
  else if h : 24 ≤ d ∧ d ≤ 27 then
    s.onMsn ⟨d - 24, by omega⟩ fun _ => Msn.reset
  else if d = 16 then s.onScr fun x => { Scr.reset with
    passAt := x.passAt, passNext := x.passNext, passUncorr := x.passUncorr }
  else if d = 19 then ({ s with tims := [] } : State).onDma fun _ => Dma.reset
  else s

/-- The island supply a domain feeds, by the index of 18 R501. -/
def domIsland (d : Nat) : List Nat :=
  if d = 6 then [1, 2]
  else if d = 11 then [3]
  else if d = 14 then [4]
  else if 20 ≤ d && d ≤ 23 then [d - 15]
  else if d = 28 || d = 29 then [9]
  else if d = 18 then [10]
  else if d = 30 then [11]
  else []

/-- An island supply replaced. -/
def State.onSupply (i : Nat) (f : IslandSupply → IslandSupply) (s : State) : State :=
  s.onPwr fun p => { p with
    islands := Tab.put p.islands i (f (Tab.getD p.islands i IslandSupply.reset))
      IslandSupply.reset }

/-- An island supply. -/
def State.supply (s : State) (i : Nat) : IslandSupply := Tab.getD s.pwr.islands i IslandSupply.reset

/-- The chip time at which the next switch may close: now, or 20 us after the last start (R499). -/
def State.nextOn (s : State) : BitVec 64 :=
  match s.pwr.lastOn with
  | none => s.now
  | some t => if s.ticks < t.toNat + 20 * usTicks then t + BitVec.ofNat 64 (20 * usTicks) else s.now

/-- Step on 1 of R499: the switch closes, at least 20 us after the one before. -/
def State.closeSwitch (d : Nat) (s : State) : State :=
  let at' := s.nextOn
  let s := s.onDom d fun x => { x with state := .switchingOn, wantOn := false, onAt := at' }
  ((s.onPwr fun p => { p with lastOn := some at' }).event epTimetable 17 d).count 0x630004 1

/-- Whether so many ticks have passed since a domain's switch closed (R499). -/
def State.onFor (s : State) (d n : Nat) : Bool := decide ((s.dom d).onAt.toNat + n ≤ s.ticks)

/-- The other half of the pool, which feeds the same island (R501). -/
def otherHalf (d : Nat) : Nat := if d = 28 then 29 else 28

/-- A switch-on that nothing refuses (R498 to R500): started, or waiting for its dependency or for
a drain to end. -/
def State.switchOn (d : Nat) (s : State) : State :=
  let x := s.dom d
  if !s.domPresent d || x.suspended then s
  else
    match x.state with
    | .off =>
      let ready : Bool := match domDep d with
        | none => true
        | some e => decide ((s.dom e).state = .on)
      if ready then s.closeSwitch d else s.onDom d fun y => { y with wantOn := true, wantOff := false }
    | .draining => s.onDom d fun y => { y with wantOn := true }
    | _ => s.onDom d fun y => { y with wantOff := false }

/-- Step off 1 of R499: the switch-off is committed. -/
def State.commitOff (d : Nat) (s : State) : State :=
  s.onDom d fun x => { x with state := .draining, wantOff := false }

/-- Whether a pool half must stay on: a switch-off that would leave both halves off while any
actuator is LOADED is refused (07 R227); a half that is to switch off counts as off. -/
def State.poolRefuses (s : State) (d : Nat) : Bool :=
  let other := s.dom (otherHalf d)
  (decide (d = 28) || decide (d = 29)) && (s.presentActs.any fun a => s.loaded a)
    && (decide (other.state ≠ .on) || other.wantOff)

/-- Whether a decode runs in a half of the pool (07 R227). -/
def State.halfDecodes (s : State) (d : Nat) : Bool :=
  (decide (d = 28) || decide (d = 29)) && s.pool.jobs.any fun e => decide (e.1 / 4 + 28 = d)

/-- Whether a DMA channel is stopped (15 R451). -/
def DmaCh.stopped (c : DmaCh) : Bool :=
  decide (c.state = .idle) || decide (c.state = .parked) || decide (c.state = .error)

/-- Whether a domain may begin to drain: every domain that depends on it is off (R499), and for PD19
every DMA channel is stopped (15 R451). -/
def State.mayDrain (s : State) (d : Nat) : Bool :=
  ((domUsers d).all fun e => decide ((s.dom e).state = .off))
    && (decide (d ≠ 19) || s.dma.ch.all fun e => e.2.stopped)

/-- Every DMA channel that runs is aborted (15 R450, R451). -/
def State.dmaAbortAll (s : State) : State :=
  s.onDma fun x => { x with
    ch := Tab.map (fun _ c => if c.stopped then c else { c with state := .aborting }) x.ch }

/-- A switch-off that nothing refuses: committed, or waiting until the domain is ready or until every
domain that depends on it is off (R499, R500). -/
def State.switchOff (d : Nat) (s : State) : State :=
  let x := s.dom d
  if s.poolRefuses d then s
  else
    match x.state with
    | .off => s.onDom d fun y => { y with wantOn := false }
    | .draining => s.onDom d fun y => { y with wantOn := false }
    | .on =>
      let s := if d = 19 then s.dmaAbortAll else s
      if s.mayDrain d then s.commitOff d else s.onDom d fun y => { y with wantOff := true }
    | _ => s.onDom d fun y => { y with wantOff := true }

/-- Several domains switched on, in ascending number (R499). -/
def State.switchOnAll (ds : List Nat) (s : State) : State := foldS State.switchOn ds s

/-- Several domains switched off: those that depend on others first (R499). -/
def State.switchOffAll (ds : List Nat) (s : State) : State := foldS State.switchOff ds.reverse s

/-- The domains of an actuator. -/
def actDomains (a : Fin 4) : List Nat := [20 + a.val, 24 + a.val]

/-- The domains that wait for others to be ready are started (R499). -/
def State.startWaiting (s : State) : State :=
  foldS (fun d t =>
    let x := t.dom d
    let ready : Bool := match domDep d with
      | none => true
      | some e => decide ((t.dom e).state = .on)
    if x.wantOn && decide (x.state = .off) && ready && !x.suspended then t.closeSwitch d else t)
    (List.range 32) s

/-- The domains that wait for their dependants to be off begin to drain (R499). -/
def State.startOffs (s : State) : State :=
  foldS (fun d t =>
    let x := t.dom d
    if x.wantOff && decide (x.state = .on) && t.mayDrain d then t.commitOff d else t)
    (List.range 32).reverse s

/-- A domain is off at once and its pending requests are dropped, as at power loss (R500, 02
R58). -/
def State.cutDomain (d : Nat) (s : State) : State :=
  s.onDom d fun x => { x with state := .off, wantOn := false, wantOff := false }

end Sys2Proof.Machine
end

