-- ==== Sys2Proof/Machine/ActuatorOps.lean ====
section
/-! DEFINITION. Operations of the actuator islands (05): the VCM command link, the demodulator, the
velocity loop, load and unload, and the slew notice in force. -/

namespace Sys2Proof.Machine

open Sys2Proof

/-! The VCM command link. -/

/-- A frame of Aa.VCM: SYNC, MODE, VALUE, SEQ and CRC (R134). -/
def vcmFrame (mode : BitVec 2) (value : BitVec 16) (seq : BitVec 2) : Word :=
  let hi := 0xA00000 + mode.toNat * 2 ^ 18 + value.toNat * 4 + seq.toNat
  BitVec.ofNat 32 (hi * 256 + pscCrc hi)

/-- A new value on the link (R134, R135): SEQ moves on. -/
def State.vcmSend (a : Fin 4) (mode : BitVec 2) (value : BitVec 16) (s : State) : State :=
  s.onVcm a fun v => { v with
    mode := mode, value := value, seq := v.seq + 1, frame := vcmFrame mode value (v.seq + 1) }

/-- A VALUE in full-scale parts: `x * 32768 / full`, saturated to 32,767 either way (R134, 06
R172). -/
def vcmValue (x full : F32) : BitVec 16 :=
  BitVec.ofInt 16 (fToInt (-32767) 32767 (fDiv (fMul x 0x47000000) full))

/-- The measured coil resistance, in ohm (R149, OD 0x3400.11). -/
def State.coilRes (s : State) (a : Fin 4) : F32 :=
  BitVec.ofNat 32 (s.odNat (0x340011 + 0x10000 * a.val) 0x41000000)

/-- The sign of VALUE that drives the arm toward the ramp (OD 0x3400.1E). -/
def State.towardRamp (s : State) (a : Fin 4) (v : Int) : Int :=
  if Config.vcmOuterPositive = decide (s.p3400RampDir a = 0) then v else -v

/-- A voltage of the velocity loop as the stage applies VALUE (R134), in V. -/
def State.stageVolts (s : State) (a : Fin 4) (value : BitVec 16) : F32 :=
  fRat (value.toInt * (s.p3400VcmVFs a : Int)) 32768000

/-- The velocity the island's loop drives the arm at, rad/s and positive as VALUE is: toward the media in a
load, toward the ramp in an unload, zero while it damps (R149, R150, 06 R184). -/
def State.velocityRef (s : State) (a : Fin 4) : F32 :=
  let ramp := decide (s.towardRamp a 1 < 0)
  let signed := fun (neg : Bool) (v : F32) => if neg then fNegate v else v
  match (s.act a).isl.load with
  | .loading | .acquiring => signed (!ramp) (s.p3400LoadVel a)
  | .unloading | .retracting =>
    if (s.act a).sve.damping then 0 else signed ramp (s.p3400UnloadVel a)
  | _ => 0

/-- The voltage the velocity loop commands (R149, R150): the control law is free; the voltage is held so
that the coil current stays within OD 0x3400.15. -/
def State.velocityVolts (s : State) (a : Fin 4) : F32 :=
  let i := (s.act a).isl
  let emf := fMul (s.p3400Kb a) i.vel
  let drop := fMul (fRat (s.p3400VcmIFs a) 1000) (s.coilRes a)
  fClamp (fSub emf drop) (fAdd emf drop) (Config.velocityVolts s.free (s.velocityRef a) i.vel)

/-- The island's velocity loop sends its next voltage (R149, R150). -/
def State.velocityFrame (a : Fin 4) (s : State) : State :=
  let v := vcmValue (s.velocityVolts a) (fRat (s.p3400VcmVFs a) 1000)
  let s := s.takeFree.vcmSend a 2 v
  s.onIsl a fun i => { i with cmdV := s.stageVolts a v }

/-- The frame of an output instant at which neither the engine nor the velocity loop drives the coil (R135,
R148): the coil stays off or shorted, or the coil measurement goes on. -/
def State.restFrame (a : Fin 4) (s : State) : State :=
  let v := (s.act a).vcm
  if (s.act a).isl.coilPhase then s.vcmSend a v.mode v.value
  else s.vcmSend a (if v.mode = 3 then 3 else 0) 0

/-- The back-EMF velocity estimate from a coil current, and how long it has been that of an arm at rest
(R150). -/
def State.velocityEstimate (a : Fin 4) (vcmI : F32) (s : State) : State :=
  let w := fDiv (fSub (s.act a).isl.cmdV (fMul vcmI (s.coilRes a))) (s.p3400Kb a)
  s.onIsl a fun i => { i with
    vel := w, stillAt := if fLt (fAbs w) 0x3D4CCCCD then i.stillAt else s.now }

/-! Motion sensing (R136, R145). -/

/-- A 12-bit code less mid-scale (20 R551). -/
def fromMid (c : BitVec 12) : Int := (c.toNat : Int) - 2048

/-- One step of a second-order low-pass: its state after an input, newest output third (R145). -/
def lowPassStep (corner : Nat) (st : List F32) (x : F32) : List F32 :=
  let c := Config.lowPass corner
  let r := fun (i : Nat) => nth st i 0
  let y := fAdd (fAdd (fMul (c 0) x) (fMul (c 1) (r 0))) (fMul (c 2) (r 1))
  let y := fSub (fSub y (fMul (c 3) (r 2))) (fMul (c 4) (r 3))
  [x, r 0, y, r 2]

/-- Whether a code is at a rail of its ADC. -/
def atRail (c : BitVec 12) : Bool := c == 0 || c == 0xFFF

/-- One sample of the motion-sensing block and the coil and micro-actuator senses (R136, R145, R150, R154,
R155, R160): the filters, the latest values, the senses at a rail and the velocity estimate. -/
def State.motionSample (a : Fin 4) (s : State) : State :=
  let m := (s.act a).msn
  let c := fun (i : Nat) => nth m.codes i 0x800
  let mid := fun (i : Nat) => fOfZ (fromMid (c i))
  let lpA := lowPassStep (s.p3400RvBw a) m.lpA (mid 0)
  let lpB := lowPassStep (s.p3400RvBw a) m.lpB (mid 1)
  let vcmI := fMul (mid 4) Config.vcsScale
  let latest := [fMul (nth lpA 2 0) (s.p3400RvScale a), fMul (nth lpB 2 0) (s.p3400RvScale a),
    fMul (mid 2) (s.p3400ShockScale a), fRat (((c 3).toNat : Int) * 18) 4096, vcmI,
    fRat (fromMid (c 5)) 2048]
  let rails := ([0, 1, 2, 4, 5] : List Nat).foldl (fun (t : Tab (BitVec 64)) i =>
    if atRail (c i) then Tab.set t i (Tab.getD t i s.now) else Tab.del t i) m.rails
  (s.onMsn a fun m => { m with
      latest := latest, lpA := lpA, lpB := lpB, rails := rails
      flags := setBit m.flags 1 (m.flags.getLsbD 1 || atRail (c 0) || atRail (c 1)) })
    |>.velocityEstimate a vcmI

/-- Whether a sense has been at a rail for so many milliseconds (R154). -/
def State.railedFor (s : State) (a : Fin 4) (ms i : Nat) : Bool :=
  match Tab.get? (s.act a).msn.rails i with
  | some t => decide (ms * msTicks ≤ s.since t)
  | none => false

/-- Fault offset 4 with its flag (R154, R159). -/
def State.senseFault (a : Fin 4) (kind : Nat) (s : State) : State :=
  (s.actFault a 5 4 kind).onSvd a fun d => { d with flags := setBit d.flags 0 true }

/-! The demodulator. -/

/-- Chip time in sixteenths of a tick. -/
def State.now16 (s : State) : Nat := 16 * s.ticks

/-- The change of the wedge period the ramp of the notice in force brings over one wedge (R141): the
wedge comes so much later, negative when the speed rises. -/
def State.slewTerm (s : State) (a : Fin 4) (p : Nat) : Int :=
  let n := (s.act a).isl.notice
  let r := n.rate.toNat
  if r = 0 || r = 0xFFFF || n.target.toNat = 0 || decide (s.now16 < n.start) then 0
  else
    let d : Nat := p * p * r * 16 / (sixteenths * n.target.toNat * max 1 s.p2010Wedges)
    let slower := decide (n.target.toNat * p < 16 * 60 * sixteenths)
    if slower then (d : Int) else -(d : Int)

/-- Whether the ramp of the notice in force runs, so that windows are predicted with it (R140, R141). -/
def State.slewRuns (s : State) (a : Fin 4) : Bool :=
  let n := (s.act a).isl.notice
  decide (n.rate ≠ 0) && decide (n.rate ≠ 0xFFFF) && decide (n.start ≤ s.now16)
    && !(s.act a).svd.acquiring

/-- The predicted instant of the next wedge and whether a ramp's slew term entered it (R141). Before a full
revolution of history it is the last instant plus the last wedge period, and before any mark the present
instant plus the spindle's (DESIGN CHOICE, log 108). -/
def State.predict (s : State) (a : Fin 4) : Nat × Bool :=
  let l := (s.act a).svd.sams
  match s.revolution a, l[s.p2010Wedges - 1]? with
  | some p, some x =>
    let d := s.slewTerm a p
    (((x + p : Nat) + d).toNat, s.slewRuns a)
  | _, _ =>
    match l with
    | x :: _ => (x + s.wedgeT a, false)
    | [] => (s.now16 + s.spindleWedge, false)

/-- The shift of the window after a head switch, in sixteenths of a tick (R143). -/
def State.skew16 (s : State) (a : Fin 4) : Int :=
  if (s.act a).svd.switching then
    (s.act a).svd.skew.toInt * (s.wedgeT a : Int) / (max 1 (s.p3400ServoBits a) : Nat)
  else 0

/-- The half-width of the window in sixteenths of a tick: SVD_CFG.WIN held to 20 to 2,000 ns (R141,
R158). -/
def State.window16 (s : State) (a : Fin 4) : Nat :=
  max 20 (min 2000 (s.p3400SamWin a)) * 16 / 5

/-- Whether an instant lies in the window; the whole wedge period in ACQUIRE (R141, R143). -/
def State.inSamWindow (s : State) (a : Fin 4) (t : Nat) : Bool :=
  (s.act a).svd.acquiring
    || decide (((t : Int) - ((s.predict a).1 + s.skew16 a)).natAbs ≤ s.window16 a)

/-- Gray code to binary (R138). -/
def grayDecode (n g : Nat) : Nat := (List.range n).foldl (fun (x i : Nat) => x ^^^ (g >>> i)) 0

/-- The track predicted from the last two valid tracks (R138): as far on as between them, whatever wedges lie
between; the last one where only one is known (DESIGN CHOICE, log 108). -/
def Svd.predTrack (d : Svd) : BitVec 24 :=
  match d.tracks with
  | x :: y :: _ => x + (x - y)
  | [x] => x
  | [] => d.track

/-- Whether a decoded track is within tolerance of the predicted one (R138); any is while none is known
(DESIGN CHOICE, log 108). -/
def Svd.trackOk (d : Svd) (tol : Nat) (t : BitVec 24) : Bool :=
  d.tracks.isEmpty || decide (((t.toNat : Int) - (d.predTrack.toNat : Int)).natAbs ≤ tol)

/-- Odd parity of the four nibbles of the RRO value (R138). -/
def rroParity (v : Nat) : Nat :=
  ((List.range 4).map fun i =>
    b2n ((List.range 4).countP (fun j => bitOf v (4 * i + j)) % 2 == 0) * 2 ^ i).foldl (· + ·) 0

/-- The fraction a reader gives and whether its bursts are low (R139); amplitudes are in units of the
nominal burst sum. -/
def burstFraction (n1 n2 gain : F32) (minPm : Nat) : F32 × Bool :=
  let sum := fAdd (fAbs n1) (fAbs n2)
  (fMul (fDiv (fMul 0x3F000000 n1) sum) gain, fLt sum (fRat minPm 1000))

/-- Positions of a wedge (R139): POS_A, POS_B, POS and the two low-burst flags. With both readers flagged
bad the mean is still that of both (DESIGN CHOICE, log 108). -/
def State.positions (s : State) (a : Fin 4) (w : WedgeInputs) (track target : BitVec 24)
    (rroOk : Bool) (rro : F32) : F32 × F32 × F32 × Bool × Bool :=
  let d := (s.act a).svd
  let off := fOfZ ((track.toNat : Int) - (target.toNat : Int))
  let fa := burstFraction w.n1A w.n2A (s.p3400BurstGain a) (s.p3400BurstMin a)
  let fb := burstFraction w.n1B w.n2B (s.p3400BurstGain a) (s.p3400BurstMin a)
  let pa := fAdd off fa.1
  let pb := fSub (fAdd off fb.1) d.rbOfs
  let pos :=
    match s.p3400ReaderSel a with
    | 0 => pa
    | 1 => pb
    | _ =>
      if fa.2 && !fb.2 then pb
      else if fb.2 && !fa.2 then pa
      else fMul 0x3F000000 (fAdd pa pb)
  let pos := if s.p3400RroSub a && rroOk then fSub pos rro else pos
  (pa, pb, pos, fa.2, fb.2)

/-- The flags of word 5 of the record, bit 16 first (R140). -/
def recordFlags (l : List Bool) (missRun : Nat) (acq : Bool) : Nat :=
  ((List.range 11).foldl (fun (n i : Nat) => n + b2n (nth l i false) * 2 ^ i) 0)
    + min 15 missRun * 2 ^ 11 + b2n acq * 2 ^ 15

/-- Acquisition is entered (R143): the window spans the period and the count is unset. -/
def State.enterAcquire (a : Fin 4) (s : State) : State :=
  (s.onSvd a fun d => { d with
      acquiring := true, samSeen := false, locked := false, lockRun := 0, mismatchRun := 0
      candidates := [], counted := false, switching := false, lossDue := false })
    |>.onIsl a fun i => { i with synLocked := false }

/-- The LOCKED flag of the record not yet delivered follows the state (R140, R143). -/
def State.markLocked (a : Fin 4) (on acq : Bool) (s : State) : State :=
  s.onSvd a fun d => { d with
    next := setNth d.next 5 (setBit (setBit (nth d.next 5 0) 22 on) 31 acq) }

/-- LOCKED is cleared and ACQUIRE entered, with event offset 1 when it was set (R143). -/
def State.lockLost (a : Fin 4) (kind : BitVec 2) (s : State) : State :=
  let was := (s.act a).svd.locked
  let s := (((s.enterAcquire a).onSvd a fun d => { d with lossKind := kind }).markLocked a false true)
  s.doIf was fun t => (t.onSvd a fun d => { d with flags := setBit d.flags 4 true }).actEvent a 2 1
    (if kind = 2 then 1 else 0)

/-- Why lock is to be lost, if it is: after a run of four missing wedges as that run was, or after three
mismatches (R143, 06 R184). -/
def Svd.lossNow (d : Svd) : Option (BitVec 2) :=
  if d.acquiring then none
  else if d.lossDue then some d.lossKind
  else if 3 ≤ d.mismatchRun then some 2
  else none

/-- Whether the demodulator works: from the start of LOADING until the heads are parked (R149). -/
def State.demodRuns (s : State) (a : Fin 4) : Bool :=
  let i := (s.act a).isl
  !(decide (i.load = .parked) || decide (i.load = .loadPending))

/-- The island's write-inhibit request of this chapter (R142, R148): cause 0. -/
def State.islandRequest (a : Fin 4) (s : State) : State :=
  s.wpCause a 0 (!s.loaded a || (s.act a).svd.wrInh)

/-- A wedge number after another. -/
def nextWedge (w : Nat) (x : BitVec 10) : BitVec 10 :=
  BitVec.ofNat 10 ((x.toNat + 1) % max 1 w)

/-- The wedge count of acquisition (R143): the numbers of the last wedges, newest first, and whether
the first of three passes against the other two. -/
def acquireCount (w : Nat) (read : BitVec 10) (l : List (BitVec 10)) :
    List (BitVec 10) × Option (BitVec 10) :=
  match (read :: l).take 3 with
  | [c, b, a] =>
    let one := nextWedge w a
    let two := nextWedge w one
    if b = one || c = two then ([], some two) else ([c, b], none)
  | m => (m, none)

/-- The sample is delivered and leaves as a wedge timing message (R144). -/
def State.wedgeMessage (a : Fin 4) (wedge : BitVec 10) (t : Nat) (missing frozen : Bool)
    (s : State) : State :=
  s.send { src := epAct a 2, dst := epSpindle,
           body := .wedgeTiming wedge t ((s.act a).svd.locked && !(s.act a).svd.lossDue) missing frozen }

/-- A core's write of SVD_TARGET is taken (R155). -/
def State.takeTarget (a : Fin 4) (s : State) : State :=
  s.onSvd a fun d =>
    match d.targetNext with
    | some t => { d with target := t, targetNext := none }
    | none => d

/-- The instant of a wedge enters the history: W + 1 are kept (R141). -/
def State.pushSam (a : Fin 4) (t : Nat) (s : State) : State :=
  s.onSvd a fun d => { d with sams := (t :: d.sams).take (s.p2010Wedges + 1) }

/-- What every wedge does to the run of missing wedges before it is decoded: after a run of four, lock is
lost at this wedge, for the reason the run gives (R143, 06 R184). -/
def State.wedgeStart (a : Fin 4) (s : State) : State :=
  (s.takeTarget a).onSvd a fun d =>
    if d.lossDue || d.acquiring || d.missRun < 4 then d
    else { d with lossDue := true, lossKind := if d.frozenRun then 1 else 0 }

/-- The expected speed of R280, in rpm times 16: the target of the notice in force, or during a ramp
the speed at its start instant moved toward the target at its rate. -/
def State.expectedSpeed (s : State) (a : Fin 4) : Nat :=
  let i := (s.act a).isl
  let n := i.notice
  let tgt := n.target.toNat
  if n.rate = 0 || decide (s.now16 < n.start) then
    if i.startSpeed = 0 then tgt else i.startSpeed
  else
    let moved := n.rate.toNat * 16 * (s.now16 - n.start) / sixteenths
    if i.startSpeed ≤ tgt then min tgt (i.startSpeed + moved) else max tgt (i.startSpeed - moved)

/-- The speed check of a wedge (09 R280), suspended while 0xFFFF is in force. -/
def State.speedCheck (a : Fin 4) (s : State) : State :=
  match s.revolution a with
  | none => s
  | some p =>
    if (s.act a).isl.notice.rate = 0xFFFF then s
    else
      let one := 16 * 60 * sixteenths
      let diff := ((p * s.expectedSpeed a : Nat) : Int) - (one : Int)
      s.wpSpeed a (decide (one * s.p2010ReleaseTol < 10000 * diff.natAbs))

/-- A wedge without a servo address mark in its window (R142): the record repeats the last
positions, and faults and events follow unless the demodulator is in ACQUIRE. -/
def State.wedgeMissing (a : Fin 4) (s : State) : State :=
  let s := s.wedgeStart a
  let pr := s.predict a
  let due := ((pr.1 : Int) + s.skew16 a).toNat
  let d := (s.act a).svd
  let wn := nextWedge s.p2010Wedges d.expected
  let run := d.missRun + 1
  let flags := recordFlags [false, false, false, false, true, false, d.locked && !d.lossDue, false,
    false, false, pr.2] run d.acquiring
  let rcd := [d.pos, nth d.record 1 0, nth d.record 2 0, 0, d.predTrack.setWidth 32,
    BitVec.ofNat 32 (flags * 65536 + wn.toNat), 0, 0, 0, 0, 0, 0]
  let s := s.onSvd a fun d => { d with
    next := rcd, missRun := run, frozenRun := false, lockRun := 0, expected := wn
    candidates := [], wrInh := true, switching := false
    flags := if d.acquiring then d.flags else setBit d.flags 1 true }
  let s := (s.pushSam a due).islandRequest a
  let s := if d.acquiring then s
    else
      let s := (s.actFault a 2 0 (min 15 run)).countA 0x340012 a 1
      if run = 1 then s.actEvent a 2 2 wn.toNat else s
  let s := if d.acquiring && !d.samSeen then s else s.wedgeMessage a wn due true false
  s.speedCheck a

/-- A head switch whose first mark lies outside the shifted window (R143): the wedge is missing, and
ACQUIRE is entered. -/
def State.switchLost (a : Fin 4) (s : State) : State := (s.wedgeMissing a).lockLost a 0

/-- A wedge whose servo address mark was found in the window (R138 to R143). DESIGN CHOICE (log 108): the
frozen decision compares the latest value of VCM_I at 1 MHz; a frozen sample is counted as missing in the
run, in OD 0x3400.12 and by event offset 2, and has a flag of SVD_FLAGS and a fault of its own. -/
def State.wedgeFound (a : Fin 4) (w : WedgeInputs) (s : State) : State :=
  let s := s.wedgeStart a
  let pr := s.predict a
  let due := ((pr.1 : Int) + s.skew16 a).toNat
  let d := (s.act a).svd
  let cnt := s.p2010Wedges
  let tid := BitVec.ofNat 24 (grayDecode 24 w.tid.toNat)
  let tidOk := d.trackOk (s.p3400TidTol a) tid
  let track := if tidOk then tid else d.predTrack
  let acq := if d.acquiring then acquireCount cnt w.wedge d.candidates else ([], none)
  let counted := d.counted || acq.2.isSome
  let expd := match acq.2 with
    | some e => e
    | none => nextWedge cnt d.expected
  let wedgeOk := counted && decide (w.wedge = expd)
  let rv := w.rro.toNat / 16
  let rroOk := decide (rroParity rv = w.rro.toNat % 16)
  let rro := if rroOk then fRat (sfld rv 0 16) 16384 else 0
  let ps := s.positions a w track d.target rroOk rro
  let pos := ps.2.2.1
  let amps := fMul (fAbs (nth (s.act a).msn.latest 4 0)) 0x447A0000
  let frozen := decide (d.lastPos.length = 3) && d.lastPos.all (fun x => x == pos)
    && fLt (fOfNat (s.p3400FrozenI a)) amps
  let run := if frozen then d.missRun + 1 else 0
  let acquiring := d.acquiring && acq.2.isNone
  let flags := recordFlags [true, tidOk, wedgeOk, rroOk, frozen, frozen, d.locked && !d.lossDue,
    false, ps.2.2.2.1, ps.2.2.2.2, pr.2] run acquiring
  let rcd := [if frozen then d.pos else pos, ps.1, ps.2.1, rro, track.setWidth 32,
    BitVec.ofNat 32 (flags * 65536 + w.wedge.toNat), 0, 0, 0, 0, 0, 0]
  let mismatch := counted && !wedgeOk
  let s := s.onSvd a fun d => { d with
    next := rcd, missRun := run, frozenRun := frozen && (d.frozenRun || decide (d.missRun = 0))
    lockRun := if wedgeOk && !frozen then d.lockRun + 1 else 0
    mismatchRun := if mismatch then d.mismatchRun + 1 else 0
    expected := if counted then expd else w.wedge
    candidates := acq.1, counted := counted, acquiring := acquiring, samSeen := true
    acquire := false, switching := false, wrInh := d.wrInh || frozen
    tracks := if tidOk then (tid :: d.tracks).take 2 else d.tracks
    sam := BitVec.ofNat 52 w.instant
    flags := setBit (setBit d.flags 2 (d.flags.getLsbD 2 || frozen)) 3
      (d.flags.getLsbD 3 || !tidOk || mismatch) }
  let at' := if frozen then due else w.instant
  let s := (s.pushSam a at').islandRequest a
  let s := if tidOk then s else s.actFault a 2 2 0
  let s := if mismatch then s.actFault a 2 2 1 else s
  let s := if frozen then
      ((s.actFault a 2 1 0).actEvent a 2 3 w.wedge.toNat).countA 0x340012 a 1 else s
  let s := if frozen && decide (run = 1) then s.actEvent a 2 2 w.wedge.toNat else s
  let s := if (s.act a).isl.load = .loading then s.onIsl a fun i => { i with load := .acquiring } else s
  (s.wedgeMessage a (if counted then expd else w.wedge) at' frozen frozen).speedCheck a

/-! Load and unload. -/

/-- The demodulator starts in ACQUIRE with nothing seen (R149 step 3). -/
def State.demodStart (a : Fin 4) (s : State) : State :=
  (s.enterAcquire a).onSvd a fun d => { d with
    missRun := 0, frozenRun := false, tracks := [], sams := [], lastPos := [], wrInh := false }

/-- Step 2 of a load (R149): 300 mV toward the parking stop. LOAD_STATE stays LOAD_PENDING in it (DESIGN
CHOICE, log 108). -/
def State.startCoil (a : Fin 4) (s : State) : State :=
  let v := vcmValue (fRat (s.towardRamp a 300) 1000) (fRat (s.p3400VcmVFs a) 1000)
  (s.onIsl a fun i => { i with coilPhase := true, stepAt := s.now }).vcmSend a 2 v

/-- A load starts, or waits in LOAD_PENDING while the notice in force carries 0xFFFF (R149). -/
def State.startAttempt (a : Fin 4) (attempt : BitVec 4) (s : State) : State :=
  let s := s.onIsl a fun i => { i with
    load := .loadPending, attempt := attempt, loadReq := true, retryLoad := false
    coilPhase := false }
  if (s.act a).isl.notice.rate = 0xFFFF then
    (if (s.act a).vcm.mode = 0 then s else s.vcmSend a 0 0)
  else s.startCoil a

/-- ISL_CTL.LOAD written in PARKED (R149, R151, R156). -/
def State.startLoad (a : Fin 4) (s : State) : State :=
  if s.present a && decide ((s.act a).isl.load = .parked) && s.domOn (20 + a.val)
      && !s.unsafeAct a then
    (s.onIsl a fun i => { i with calDone := false, calFail := false }).startAttempt a 0
  else s

/-- Step 3 of a load (R149): the island drives toward the media. -/
def State.beginLoading (a : Fin 4) (s : State) : State :=
  ((s.onIsl a fun i => { i with load := .loading, coilPhase := false, stepAt := s.now }).demodStart a)
    |>.islandRequest a
    |>.velocityFrame a

/-- The laser and the heater go off over the PSC link (R150 step 1, 09 R287). -/
def State.makeSafe (a : Fin 4) (s : State) : State := s.pscQueue a 0x10 7

/-- An unload or a retract starts (R150, R151): a retract from any state but PARKED; an unload not
while another, a retract or nothing is to be ended. -/
def State.startUnload (a : Fin 4) (retract : Bool) (s : State) : State :=
  let i := (s.act a).isl
  let may := match i.load with
    | .parked => false
    | .unloading => retract
    | .retracting => false
    | _ => true
  if may then
    let s := s.onIsl a fun i => { i with
      load := if retract then .retracting else .unloading
      retract := retract, loadReq := false, retryLoad := false, coilPhase := false
      stepAt := s.now, stillAt := s.now }
    (s.islandRequest a).makeSafe a
  else s

/-- The arm is taken as parked (R150): MODE off or short, PARKED, and a failed load attempt that is
retried starts again. -/
def State.enterParked (a : Fin 4) (mode : BitVec 2) (s : State) : State :=
  let retry := (s.act a).isl.retryLoad
  let s := (s.vcmSend a mode 0).onIsl a fun i => { i with
    load := .parked, unloadReq := false, retract := false, retryLoad := false, gaveUp := false }
  let s := (s.demodStart a).islandRequest a
  if retry then s.startAttempt a ((s.act a).isl.attempt + 1) else s

/-! The slew notice in force. -/

/-- The island's own spindle write hold: cause 4 (04 R122, 09 R278). -/
def State.setSlewHold (a : Fin 4) (on : Bool) (s : State) : State :=
  (s.onIsl a fun i => { i with slewHold := on }).wpCause a 4 on

/-- A demodulator takes a slew notice (01 R34, 04 R122). -/
def State.takeNotice (a : Fin 4) (n : NoticeForce) (s : State) : State :=
  let old := (s.act a).isl.notice
  let s := s.onIsl a fun i => { i with
    notice := n
    startSpeed := if n.rate = 0 || n.rate = 0xFFFF then 0 else i.startSpeed }
  let s :=
    if n.rate = 0xFFFF then s.setSlewHold a true
    else if n.rate = 0 || decide (old.rate = 0xFFFF) then s.setSlewHold a false
    else s
  if n.rate ≠ 0xFFFF && decide ((s.act a).isl.load = .loadPending) && !(s.act a).isl.coilPhase then
    s.startCoil a
  else s

/-- The speed an island measured last, in rpm times 16, or the spindle's. -/
def State.islandSpeed (s : State) (a : Fin 4) : Nat :=
  match s.revolution a with
  | some p => 16 * 60 * sixteenths / max 1 p
  | none => s.spn.speed.toNat

/-- The start instant of the notice in force (04 R122, 09 R280). -/
def State.noticeStarts (a : Fin 4) (s : State) : State :=
  let n := (s.act a).isl.notice
  if n.rate = 0 || n.rate = 0xFFFF then s
  else
    let s := s.onIsl a fun i => { i with startSpeed := s.islandSpeed a }
    s.setSlewHold a (decide (s.odNat 0x204004 40 < n.rate.toNat))

/-- Whether the ramp of the notice in force has had the time it takes from the speed at its start (04
R122). -/
def State.rampOver (s : State) (a : Fin 4) : Bool :=
  let i := (s.act a).isl
  let n := i.notice
  decide (n.start ≤ s.now16) && decide (
    ((i.startSpeed : Int) - (n.target.toNat : Int)).natAbs * sixteenths
      ≤ 16 * n.rate.toNat * (s.now16 - n.start))

/-- The ramp of the notice in force ends (04 R122). -/
def State.noticeEnds (a : Fin 4) (s : State) : State :=
  let n := (s.act a).isl.notice
  if n.rate = 0 || n.rate = 0xFFFF then s
  else
    (s.onIsl a fun i => { i with notice := { i.notice with rate := 0 }, startSpeed := 0 })
      |>.setSlewHold a false

end Sys2Proof.Machine
end

