-- ==== Sys2Proof/Machine/Flags.lean ====
section
/-! DEFINITION. The flag computations of the servo engine: the predicate of CMP and TST (06 R168),
the segment bounds that a branch is checked against (R173) and the flags word of the mailboxes. -/

namespace Sys2Proof.Machine

open Sys2Proof

/-- A condition of CMP: with a NaN operand only NE and unordered hold. Codes above 7 are illegal
(R166, R168). -/
def cmpCond (c : BitVec 4) (x y : F32) : Option Bool :=
  let un := fIsNaN x || fIsNaN y
  match c.toNat with
  | 0 => some (fEq x y)
  | 1 => some (un || !fEq x y)
  | 2 => some (fLt x y)
  | 3 => some (fLe x y)
  | 4 => some (fLt y x)
  | 5 => some (fLe y x)
  | 6 => some un
  | 7 => some (!un)
  | _ => none

/-- The predicate of TST (R168). -/
def tstBits (v : Word) (imm : BitVec 16) : Bool :=
  decide ((v >>> 16).setWidth 16 &&& imm ≠ 0)

/-- The condition of BR: 0 always, 1 if P, 2 if not P; 3 is illegal (R167). -/
def brCond (c : BitVec 2) (p : Bool) : Option Bool :=
  match c.toNat with
  | 0 => some true
  | 1 => some p
  | 2 => some (!p)
  | _ => none

/-- A word of the engine's program memory (R165). -/
def State.progWord (s : State) (e : Fin 4) (i : Nat) : Nat :=
  (s.word (islandBase e + 0x10000 + 4 * i)).toNat

/-- A word of the engine's data memory (R165). -/
def State.dataWord (s : State) (e : Fin 4) (i : Nat) : Word :=
  s.word (islandBase e + 0x14000 + 4 * i)

/-- A data word written. -/
def State.setDataWord (e : Fin 4) (i : Nat) (v : Word) (s : State) : State :=
  s.setWord (islandBase e + 0x14000 + 4 * i) v

/-- Whether a program word is a segment marker; with `endm`, an END_M marker (R167, R173). -/
def isMarker (endm : Bool) (w : Nat) : Bool :=
  decide (fld w 24 8 = 0x17) && (!endm || decide (fld w 20 4 = 1))

/-- The first marker at or after an address; the last word of program memory when there is none. -/
def State.markerFrom (s : State) (e : Fin 4) (endm : Bool) : Nat → Nat → Nat
  | 0, _ => 4095
  | n + 1, i => if isMarker endm (s.progWord e i) then i else s.markerFrom e endm n (i + 1)

/-- Whether a branch target lies within the present segment (R173). -/
def State.inSegment (s : State) (e : Fin 4) (t : Nat) : Bool :=
  let v := (s.act e).sve
  let hi : Nat := match v.seg with
    | .mandatory => s.markerFrom e true (4095 - v.mark) v.mark
    | .extra => v.segEnd.toNat
    | _ => s.markerFrom e false (4095 - v.mark) v.mark
  decide (v.mark ≤ t) && decide (t ≤ hi)

/-- The mailbox flags word, bits 16 to 30: STALE, UNLOADED and ABSENT of each other actuator (R171,
01 R32). -/
def State.mailboxFlags (s : State) (e : Fin 4) : Word :=
  BitVec.ofNat 32 (allActs.foldl (fun (n : Nat) (x : Fin 4) =>
    if x = e then n
    else
      let m := (s.act e).mbx.get x
      n + (b2n m.stale + 2 * b2n m.unloaded + 4 * b2n (!s.present x)) * 2 ^ (16 + 4 * x.val)) 0)

/-- What a mailbox reads: 0.0 while a flag stands (01 R32), and for the engine's own actuator (R171). -/
def State.mailboxValue (s : State) (e x : Fin 4) : F32 :=
  let m := (s.act e).mbx.get x
  if x = e || m.stale || m.unloaded || !s.present x then 0 else m.value

end Sys2Proof.Machine
end

