-- ==== Sys2Proof/Machine/ServoOps.lean ====
section
/-! DEFINITION. Operations of the servo engine and its helpers (06): the period, the outputs, late
and lost computation, the profile generator, injection, correlation and the Chalkboard. -/

namespace Sys2Proof.Machine

open Sys2Proof

/-! Registers and cycles. -/

/-- A register; f0 reads +0.0 (R165). -/
def Sve.reg (v : Sve) (n : BitVec 8) : Word := if n = 0 then 0 else Tab.getD v.f n.toNat 0

/-- A register written; writes to f0 are ignored (R165). -/
def Sve.setReg (v : Sve) (n : BitVec 8) (x : Word) : Sve :=
  if n = 0 then v else { v with f := Tab.put v.f n.toNat x 0 }

/-- N, the engine cycles of a period (R163, 01 R11): as ISL_SYN.N holds it, or computed from the
servo format when it was not yet. -/
def State.periodCycles (s : State) (a : Fin 4) : Nat :=
  let n := (s.act a).isl.synN.toNat
  if n = 0 then
    let d := max 1 (s.p2010RatedRpm * s.p2010Wedges)
    (600000000 * 60 + d / 2) / d
  else n

/-- Whether the engine executes instructions: RUNNING or HOLD and not idle. -/
def Sve.executes (v : Sve) : Bool :=
  (decide (v.state = .running) || decide (v.state = .hold)) && decide (v.seg ≠ .idle)

/-- A sticky flag of SVE_FLAGS set (R196). -/
def State.sveFlag (a : Fin 4) (n : Nat) (s : State) : State :=
  s.onSve a fun v => { v with flags := setBit v.flags n true }

/-- The sample instant of the last wedge, in sixteenths of a tick: the 172 servo bits after its SAM or its
predicted SAM, and 120 engine cycles (R162, 05 R140). -/
def State.sampleAt (s : State) (a : Fin 4) : Option Nat :=
  ((s.act a).svd.sams[0]?).map fun (x : Nat) =>
    let t := s.wedgeT a
    x + 172 * t / max 1 (s.p3400ServoBits a) + 120 * t / max 1 (s.periodCycles a)

/-- Whether the sample instant of the last wedge has come; an actuator that has seen no wedge takes its
instants at the predicted rate (R163). -/
def State.sampleDue (s : State) (a : Fin 4) : Bool :=
  match s.sampleAt a with
  | some t => decide (t < s.now16 + 16)
  | none => true

/-- The instant of the sample now taken: the wedge's own while it is the present period's, else the
present (R162). -/
def State.sampleNow (s : State) (a : Fin 4) : Nat :=
  match s.sampleAt a with
  | some t => if s.now16 < t + s.wedgeT a then t else s.now16
  | none => s.now16

/-- A source of the Chalkboard's trigger came about (R193, R199). -/
def State.chalkSeen (a : Fin 4) (n : Nat) (s : State) : State :=
  s.onSvb a fun b => { b with seen := setBit b.seen n true }

/-- The engine's write-inhibit request (R181, R190): cause 3 of 09 R278. -/
def State.engineRequest (a : Fin 4) (s : State) : State :=
  s.wpCause a 3 ((s.act a).sve.compInh || ((s.act a).svi.started && !(s.act a).svi.wrOk))

/-- The update buffer's entries in order; an entry aimed at f0 is skipped (R176). -/
def State.applyUpdates (a : Fin 4) (s : State) : State :=
  let v := (s.act a).sve
  let s := foldS (fun i t =>
      let w := (Tab.getD v.upd (2 * i) 0).toNat
      let x := Tab.getD v.upd (2 * i + 1) 0
      let idx := fld w 0 11
      if bitOf w 31 then t.setDataWord a idx x
      else t.onSve a fun v => v.setReg (BitVec.ofNat 8 idx) x)
    (List.range v.updCount.toNat) s
  s.onSve a fun v => { v with updGo := false }

/-- An update that is pending when the engine stops is applied at once (R176). -/
def State.updatesNow (a : Fin 4) (s : State) : State :=
  if (s.act a).sve.updGo then s.applyUpdates a else s

/-- An illegal instruction (kind 1) or address error (kind 2) halts the engine (R182). -/
def State.engineHalt (a : Fin 4) (kind : Nat) (s : State) : State :=
  (((s.onSve a fun v => { v with
      state := .halted, seg := .idle, runReq := false, stopReq := false
      lostNext := true })
    |>.sveFlag a (if kind = 1 then 5 else 6)).actFault a 1 6 kind).updatesNow a

/-! The words of the program memory (R167, R168). -/

/-- Format R. -/
def encR (op d a b : BitVec 8) : Word := op ++ d ++ a ++ b

/-- Format I. -/
def encI (op d : BitVec 8) (imm : BitVec 16) : Word := op ++ d ++ imm

/-- Format M. -/
def encM (op d : BitVec 8) (addr : BitVec 11) : Word := op ++ d ++ (0 : BitVec 5) ++ addr

/-- Format C. -/
def encC (op : BitVec 8) (cond : BitVec 4) (a b : BitVec 8) : Word :=
  op ++ (0 : BitVec 4) ++ cond ++ a ++ b

/-- Format B. -/
def encB (op : BitVec 8) (cond : BitVec 2) (target : BitVec 12) : Word :=
  op ++ (0 : BitVec 6) ++ cond ++ (0 : BitVec 4) ++ target

/-- Format S. -/
def encS (op : BitVec 8) (type id : BitVec 4) (endAddr : BitVec 12) : Word :=
  op ++ type ++ id ++ (0 : BitVec 4) ++ endAddr

/-- Whether a program word is a legal instruction: a defined opcode, function, condition and marker
type, reserved fields of zero, and the b fields of BIQ and INTP in their ranges (R166 to R168). -/
def engineLegal (w : Word) : Bool :=
  let n := w.toNat
  let d := fld n 16 8
  let a := fld n 8 8
  let b := fld n 0 8
  match fld n 24 8 with
  | 0x00 => decide (n = 0)
  | 0x01 | 0x02 | 0x03 | 0x04 | 0x05 | 0x06 | 0x07 | 0x09 | 0x0B | 0x0C | 0x0D => true
  | 0x08 => decide (b ≤ 5)
  | 0x0A => decide (d ≤ 7)
  | 0x0E | 0x0F => decide (a ≤ 7)
  | 0x10 | 0x11 => decide (b = 0)
  | 0x12 => decide (1 ≤ b) && decide (b ≤ 249)
  | 0x13 => decide (b ≤ 31)
  | 0x14 => decide (a = 0)
  | 0x15 => decide (d = 0)
  | 0x16 => decide (d ≤ 2) && decide (a ≤ 15)
  | 0x17 =>
    (decide (d = 0x10) && decide (fld n 0 16 = 0)) || (decide (d / 16 = 2) && decide (a ≤ 15))
      || (decide (d = 0x30) && decide (fld n 0 16 = 0))
  | 0x18 => decide (d = 0)
  | _ => false

/-! Injection (R189, R190). -/

/-- Half a right angle's worth: pi / 2 times 2^64. -/
def halfPi64 : Int := 28976077832308491369

/-- A Taylor series of sine (from k = 1) or cosine (from k = 0) of an angle in units of 2^-64. -/
def taylor64 (t : Int) : Nat → Int → Nat → Int
  | 0, _, _ => 0
  | n + 1, term, k =>
    term + taylor64 t n (-(term * t / 2 ^ 64 * t / 2 ^ 64) / (((k + 1) * (k + 2) : Nat) : Int)) (k + 2)

/-- Sine of a phase in 2^-32 turns, in units of 2^-64. -/
def sin64 (phase : BitVec 32) : Int :=
  let p := phase.toNat
  let r : Nat := p % 2 ^ 30
  let t : Int := Int.ofNat r * halfPi64 / 2 ^ 30
  let sn := taylor64 t 16 t 1
  let cs := taylor64 t 16 (2 ^ 64) 0
  match p / 2 ^ 30 with
  | 0 => sn
  | 1 => cs
  | 2 => -sn
  | _ => -cs

/-- Cosine of a phase, in units of 2^-64. -/
def cos64 (phase : BitVec 32) : Int := sin64 (phase + 0x40000000)

/-- A tone's phase in period k - k0 (R189). -/
def Svi.tonePhase (i : Svi) (t : Nat) : BitVec 32 := BitVec.ofNat 32 i.k * Tab.getD i.inc t 0

/-- A tone's term: AMP times the sine, each rounded once. -/
def Svi.tone (i : Svi) (t : Nat) : F32 :=
  fMul (Tab.getD i.amp t 0) (fOfInt (sin64 (i.tonePhase t)) (-64) false)

/-- Taps of the PRBS register of an order (R189). -/
def prbsTaps (n : Nat) : List Nat :=
  match n with
  | 7 => [7, 6]
  | 8 => [8, 6, 5, 4]
  | 9 => [9, 5]
  | 10 => [10, 7]
  | 11 => [11, 9]
  | 12 => [12, 6, 4, 1]
  | 13 => [13, 4, 3, 1]
  | 14 => [14, 5, 3, 1]
  | 15 => [15, 14]
  | _ => []

/-- One advance of the Fibonacci register: the taps' parity enters at stage 1. -/
def prbsStep (n : Nat) (r : BitVec 15) : BitVec 15 :=
  let par := (prbsTaps n).countP (fun i => r.getLsbD (i - 1)) % 2
  BitVec.ofNat 15 ((r.toNat * 2 + par) % 2 ^ n)

/-- s(k) of the present period (R189). -/
def Svi.value (i : Svi) : F32 :=
  match i.type.toNat with
  | 1 => fMul (Tab.getD i.amp 0 0) (fOfInt (sin64 i.phase) (-64) false)
  | 2 =>
    let x := Tab.getD i.amp 0 0
    if i.lfsr.getLsbD (i.order.toNat - 1) then x else fNegate x
  | _ => (List.range (i.tones.toNat + 1)).foldl (fun (x : F32) (t : Nat) => fAdd x (i.tone t)) 0

/-- The generator moves to the next period: the chirp's phase by its increment, the PRBS register
every HOLD periods (R189). -/
def Svi.advance (i : Svi) : Svi :=
  let inc0 := (Tab.getD i.inc 0 0).toNat
  let inc1 := (Tab.getD i.inc 1 0).toNat
  let d : Int := ((inc1 : Int) - inc0) * (i.k : Int) / (max 1 i.len.toNat : Nat)
  let k := i.k + 1
  { i with
    k := k
    phase := i.phase + BitVec.ofInt 32 (inc0 + (if i.len = 0 then 0 else d))
    lfsr := if k % max 1 i.hold.toNat = 0 then prbsStep i.order.toNat i.lfsr else i.lfsr }


/-! Correlation (R191). -/

/-- The value a node holds: registers as they stood at END_M, the record as the plan saw it, applied
outputs, s(k), the profile and the slack (R192). -/
def State.node (s : State) (a : Fin 4) (code : BitVec 9) : Word :=
  let c := code.toNat
  let x := s.act a
  if c < 0x100 then Tab.getD x.svb.snap c 0
  else if c < 0x10C then nth x.sve.inRec (c - 0x100) 0
  else if h : 0x110 ≤ c ∧ c < 0x114 then (x.sve.outs.get ⟨c - 0x110, by omega⟩).applied
  else if c = 0x118 then x.svi.s
  else if c = 0x119 then fOfD x.svp.pos
  else if c = 0x11A then fOfD x.svp.vel
  else if c = 0x11B then fOfD x.svp.acc
  else if c = 0x11C then BitVec.ofNat 32 x.sve.slack
  else 0

/-- The results over the periods taken: 2 / M times each sum, rounded to binary32 (R191). -/
def Svc.results (c : Svc) (tones m : Nat) : Tab F32 :=
  (List.range (16 : Nat)).foldl (fun (t : Tab F32) (i : Nat) =>
    if i / 4 < tones then
      Tab.put t i (fOfD (dMul (dRat 2 (max 1 m)) (nth c.acc i 0))) 0
    else t) []

/-- Correlation ends with the sums of so many periods, and event offset 12 (R191). -/
def State.correlationEnd (a : Fin 4) (s : State) : State :=
  let c := (s.act a).svc
  let m := c.taken - c.settle.toNat
  (s.onSvc a fun c => { c with
      run := false, res := c.results ((s.act a).svi.tones.toNat + 1) m })
    |>.actEvent a 1 12 1

/-- Injection ends: the request it held is released, and correlation stops with what it has
(R189, R191). -/
def State.injectEnd (a : Fin 4) (s : State) : State :=
  let s := (s.onSvi a fun i => { i with
      run := false, stop := false, started := false, live := false, s := 0 }).engineRequest a
  if (s.act a).svc.run then s.correlationEnd a else s

/-- One period enters the accumulators once SVC_SETTLE periods have passed (R191); a period in which
injection was suspended counts in neither (DESIGN CHOICE, log 46). -/
def State.correlate (a : Fin 4) (s : State) : State :=
  let c := (s.act a).svc
  if !c.run || !(s.act a).svi.live then s
  else if c.settle.toNat ≤ c.taken && c.taken < c.settle.toNat + c.periods.toNat then
    let x0 := s.node a c.node0
    let x1 := s.node a c.node1
    let i := (s.act a).svi
    let one : Nat → BitVec 64 := fun (n : Nat) =>
      let ph := i.tonePhase (n / 4)
      let x := if n / 2 % 2 = 0 then x0 else x1
      dMul (dOfF x) (dOfInt (if n % 2 = 0 then cos64 ph else -sin64 ph) (-64) false)
    s.onSvc a fun c => { c with
      taken := c.taken + 1
      acc := (List.range 16).map fun (n : Nat) => dAdd (nth c.acc n 0) (one n) }
  else s.onSvc a fun c => { c with taken := c.taken + 1 }

/-! The Chalkboard (R192, R193). -/

/-- Records in the ring. -/
def Svb.ring (b : Svb) : Nat := 16384 / 2 ^ (min 4 b.nodes.toNat)

/-- Records written before triggers are accepted. -/
def Svb.preRecords (b : Svb) : Nat := b.pre.toNat * b.ring / 8

/-- Whether the selected source triggers on this record (R199). -/
def Svb.fires (b : Svb) (node0 : F32) : Bool :=
  b.force ||
    match b.trigSrc.toNat with
    | 1 => fLt b.last0 b.level && fLe b.level node0
    | 2 => fLt b.level b.last0 && fLe node0 b.level
    | n => decide (3 ≤ n) && decide (n ≤ 8) && b.seen.getLsbD n

/-- One record of a finished period is written (R192, R193). -/
def State.chalkRecord (a : Fin 4) (s : State) : State :=
  let b := (s.act a).svb
  if b.state = 0 || (b.state = 3 && b.after = 0) then s
  else if b.skip + 1 < 2 ^ b.decim.toNat then s.onSvb a fun b => { b with skip := b.skip + 1 }
  else
    let n := 2 ^ (min 4 b.nodes.toNat)
    let words : List Word := (List.range n).map fun (i : Nat) => s.node a (Tab.getD b.sel i 0)
    let base := islandBase a + 0x20000 + 4 * (n * b.next.toNat)
    let s := s.write base (words.flatMap fun w => leBytes 4 w.toNat)
    let x0 := nth words 0 0
    let written := b.written + 1
    let waiting := decide (b.state ≠ 3) && decide (b.preRecords < written)
    let fire := waiting && b.fires x0
    s.onSvb a fun b => { b with
      next := BitVec.ofNat 14 ((b.next.toNat + 1) % b.ring)
      written := written, skip := 0, seen := 0, last0 := x0
      force := b.force && !fire
      trigIdx := if fire then b.next else b.trigIdx
      state := if fire then 3 else if b.state = 3 then 3
        else if b.preRecords ≤ written then 2 else 1
      after := if fire then b.ring - b.preRecords - 1 else b.after - 1 }

/-! The profile generator (R186, R187). -/

/-- A limit of a seek class: 0 velocity, 1 acceleration, 2 jerk (R188). -/
def State.seekLimit (s : State) (a : Fin 4) (c : BitVec 3) (k : Nat) : F32 :=
  let dflt := fMul (fOfNat (c.toNat + 1))
    (match k with
     | 0 => 0x4A989680
     | 1 => 0x4E6E6B28
     | _ => 0x53E8D4A5)
  BitVec.ofNat 32 (s.odNat (0x301001 + 0x10000 * a.val + 3 * c.toNat + k) dflt.toNat)

/-- A value no further than `r` from `c`, and within `-top` to `top` where that can be met. -/
def dNear (c r top x : BitVec 64) : BitVec 64 :=
  dWithin (dSub c r) (dAdd c r) (dWithin (dNegate top) top x)

/-- The reference at a period's output instant, one wedge period T after the present one: whatever a
trajectory whose jerk never exceeds the class limit can have reached, velocity and acceleration within
theirs, free among these since the spec states the limits, the end and no course between; the last
period is one that can reach position, velocity and acceleration zero (R187). -/
def State.profileStep (a : Fin 4) (first : Bool) (s : State) : State :=
  let p := (s.act a).svp
  if !p.active then s
  else
    let k := s.free
    let s := s.takeFree
    let t := dRat (s.wedgeT a) 3200000000
    let jt := dMul (dOfF (s.seekLimit a p.cls 2)) t
    let jt2 := dMul (dMul jt t) (dRat 1 2)
    let jt3 := dMul (dMul (dMul jt t) t) (dRat 1 6)
    let vel := dAdd p.vel (dMul p.acc t)
    let pos := dAdd p.pos (dAdd (dMul p.vel t) (dMul (dMul (dMul p.acc t) t) (dRat 1 2)))
    if Config.seekLast k && dLe (dAbs p.acc) jt && dLe (dAbs vel) jt2 && dLe (dAbs pos) jt3 then
      s.onSvp a fun p => { p with pos := 0, vel := 0, acc := 0, first := first, last := true }
    else
      s.onSvp a fun q => { q with
        acc := dNear p.acc jt (dOfF (s.seekLimit a p.cls 1)) (Config.seekAcc k)
        vel := dNear vel jt2 (dOfF (s.seekLimit a p.cls 0)) (Config.seekVel k)
        pos := dWithin (dSub pos jt3) (dAdd pos jt3) (Config.seekPos k)
        first := first }

/-- A pending seek starts at a sample instant (R186, R187): SVD_TARGET is written, and the record's
positions are shifted. The change of target in tracks is returned. -/
def State.seekBegin (a : Fin 4) (s : State) : State × Option F32 :=
  let p := (s.act a).svp
  match p.pending with
  | none => (s, none)
  | some (cls, target, _) =>
    let old := (s.act a).svd.target
    let d : Int := (old.toNat : Int) - (target.toNat : Int)
    let from' := if p.active then p.pos else dOfF (nth (s.act a).svd.record 0 0)
    let start := dAdd from' (dOfInt d 0 false)
    let s := s.onSvd a fun d => { d with target := target }
    let s := s.onSvp a fun p => { p with
      pending := none, active := true, cls := cls, target := target, last := false
      pos := start, vel := if p.active then p.vel else 0, acc := if p.active then p.acc else 0 }
    ((s.profileStep a true).chalkSeen a 8, some (fOfZ d))

/-- The last period of a seek has reached its output instant (R187). -/
def State.seekEnd (a : Fin 4) (s : State) : State :=
  let p := (s.act a).svp
  if p.active && p.last then
    ((s.onSvp a fun p => { p with
        active := false, last := false, done := true, pos := 0, vel := 0, acc := 0 })
      |>.countA 0x300011 a 1).actEvent a 1 11 p.target.toNat
  else s

/-- An active seek is cancelled (R184). -/
def State.seekCancel (a : Fin 4) (s : State) : State :=
  s.onSvp a fun p => { p with
    active := false, first := false, last := false, pending := none, pos := 0, vel := 0, acc := 0 }

/-! Outputs (R172, R177). -/

/-- The feed-forward message of an output instant, to each other present engine whose domain is
ready (01 R31, 05 R147). -/
def State.feedForward (a : Fin 4) (instant : Nat) (late hold : Bool) (s : State) : State :=
  let i := (s.act a).isl
  let island : Bool := match i.load with
    | .loading | .unloading | .retracting => true
    | _ => false
  let acc :=
    if island then fDiv (fSub i.velSam i.velPrev) (s.act a).sve.period30
    else ((s.act a).sve.outs.get 3).applied
  let unloaded := decide (i.load = .parked) || decide (i.load = .loadPending)
  foldS (fun b t =>
      if b = a || !t.domOn (20 + b.val) then t
      else t.send { src := epAct a 1, dst := epAct b 1,
                    body := .feedForward acc instant (s.act a).sve.period late hold unloaded })
    s.presentActs s

/-- The limits of R172 on a port's value, and whether a DAC limit cut it (05 R136). -/
def State.portLimit (s : State) (a : Fin 4) (port : Nat) (x : F32) : F32 × Bool :=
  if port = 0 then
    let full := if s.p3000VcmMode a = 1 then fRat (s.p3400VcmVFs a) 1000
      else fRat (s.p3400VcmIFs a) 1000
    let top := fMul full 0x3F7FFE00
    (fClamp (fNegate top) top x, false)
  else if port = 3 then (x, false)
  else
    let lim := fRat (s.p3400MaLimit a) 1000
    (fClamp (fNegate lim) lim x, fLt lim (fAbs x))

/-- The 14-bit DAC code of a normalised value; mid-scale is zero (05 R133). -/
def dacCode (x : F32) : BitVec 14 :=
  BitVec.ofInt 14 (clampInt 0 16383 (8192 + fToInt (-8192) 8191 (fMul x 0x46000000)))

/-- The applied values drive the ports while the engine has the arm, and the feed-forward message
leaves (R172, R177, 05 R136, R147). -/
def State.driveOutputs (a : Fin 4) (instant : Nat) (late hold : Bool) (s : State) : State :=
  let o := (s.act a).sve.outs
  let s :=
    if s.loaded a then
      let volt := decide (s.p3000VcmMode a = 1)
      let full := if volt then fRat (s.p3400VcmVFs a) 1000 else fRat (s.p3400VcmIFs a) 1000
      (s.vcmSend a (if volt then 2 else 1) (vcmValue (o.get 0).applied full)).onMsn a fun m =>
        { m with mad1 := dacCode (o.get 1).applied, mad2 := dacCode (o.get 2).applied }
    else if (s.act a).isl.load = .parked || (s.act a).isl.load = .loadPending then s.restFrame a
    else s
  s.feedForward a instant late hold

/-- A port's value after step 1 of R177: a value that is not finite is replaced and reported. -/
def State.finitePort (a p : Fin 4) (s : State) : State × F32 :=
  let o := (s.act a).sve.outs.get p
  if fFinite o.ready then
    (s.onSve a fun v => { v with outs := v.outs.set p { o with finite := some o.ready } }, o.ready)
  else
    (((s.sveFlag a 4).actFault a 1 5 p.val).countA 0x300010 a 1, o.finite.getD 0)

/-- A port takes a value within its limits; a clamped DAC sets MA_CLIP (R172, R177 step 4, 05 R136). -/
def State.setApplied (a p : Fin 4) (x : F32) (s : State) : State :=
  let y := s.portLimit a p.val x
  let s := s.doIf y.2 fun t => t.onMsn a fun m => { m with flags := setBit m.flags 0 true }
  s.onSve a fun v => { v with outs := v.outs.set p { v.outs.get p with applied := y.1 } }

/-- One port taken through the steps of R177. -/
def State.applyPort (a : Fin 4) (p : Fin 4) (s : State) : State :=
  let r := s.finitePort a p
  let s := r.1
  let i := (s.act a).svi
  let inject := i.live
    && ((decide (i.point = 1) && decide (p = 0))
        || (decide (i.point = 2) && (decide (p = 1) || decide (p = 2))))
  let x := if inject then fAdd r.2 i.s else r.2
  let x :=
    if p = 0 && s.p3000Vcomp a then
      fMul x (fClamp 0x3F000000 0x40000000
        (fDiv (s.p3000Vnom a) (nth (s.act a).sve.inRec 11 0)))
    else x
  s.setApplied a p x

/-- The ready outputs are applied (R177). -/
def State.applyOutputs (a : Fin 4) (instant : Nat) (late : Bool) (s : State) : State :=
  (foldS (fun p t => t.applyPort a p) allActs s).driveOutputs a instant late false

/-- The decayed outputs of HOLD (R181 step 3). -/
def State.holdOutputs (a : Fin 4) (instant : Nat) (s : State) : State :=
  let s := s.onSve a fun v => { v with
    holdRun := if v.holdRun = 4 then 4 else v.holdRun + 1 }
  let s := foldS (fun p t =>
      t.setApplied a p (fMul ((t.act a).sve.outs.get p).applied (s.p3000Decay a))) allActs s
  s.driveOutputs a instant false true

/-! The period. -/

/-- Extra credit is suspended, with event offset 9 (R180). -/
def State.suspendXc (a : Fin 4) (slack : Nat) (s : State) : State :=
  if (s.act a).sve.xcSusp then s
  else
    ((s.onSve a fun v => { v with xcSusp := true, xcResume := false, suspended := 0 }).sveFlag a 0)
      |>.actEvent a 1 9 slack

/-- The slack of a finished mandatory segment (R180): below the threshold extra credit is suspended;
RECOVER_N periods above it resume it and end the request of R181. -/
def State.countSlack (a : Fin 4) (slack : Nat) (s : State) : State :=
  let thr := min 500 (s.p3000SlackThr a)
  let v := (s.act a).sve
  let s := s.onSve a fun v => { v with
    slack := slack
    minSlack := if slack < v.minSlack.toNat then BitVec.ofNat 16 slack else v.minSlack
    suspended := if v.xcSusp then v.suspended + 1 else v.suspended }
  if 1000 * slack < thr * s.periodCycles a then
    (s.onSve a fun v => { v with recover := 0 }).suspendXc a slack
  else
    let n := min 255 (v.recover.toNat + 1)
    let s := s.onSve a fun v => { v with recover := BitVec.ofNat 8 n }
    if n = max 1 (s.p3000RecoverN a) then
      let s := (s.onSve a fun v => { v with compInh := false }).engineRequest a
      if v.xcSusp then
        (s.onSve a fun v => { v with xcResume := true })
          |>.actEvent a 1 10 (s.act a).sve.suspended
      else s
    else s

/-- The injection of the period that starts: it begins at the sample instant after RUN, ends at STOP,
and gives s(k) (R189). In HOLD it is suspended (R181): the generator stands still and the signal is +0.0
(DESIGN CHOICE, log 46). -/
def State.injectPeriod (a : Fin 4) (s : State) : State :=
  let i := (s.act a).svi
  if i.stop then s.injectEnd a
  else if (s.act a).sve.state = .hold then s.onSvi a fun i => { i with live := false, s := 0 }
  else if i.run then
    if i.started then
      if decide (i.len ≠ 0) && decide (i.len.toNat ≤ i.k + 1) then
        s.onSvi a fun i => { i with k := i.len.toNat, live := false, s := 0 }
      else s.onSvi a fun i => let i := i.advance; { i with live := true, s := i.value }
    else
      (s.onSvi a fun i =>
        let i := { i with started := true, k := 0, lfsr := BitVec.ofNat 15 (2 ^ i.order.toNat - 1)
                          phase := 0 }
        { i with live := true, s := i.value })
        |>.engineRequest a
  else s

/-- The engine stops at a sample instant (R176). -/
def State.engineStopped (a : Fin 4) (s : State) : State :=
  (s.onSve a fun v => { v with
      state := .stopped, stopReq := false, runReq := false, seg := .idle, overdue := 0, after := none })
    |>.updatesNow a

/-- A period starts with a record (R162, R185 steps 6 and 7): the updates, the seek, the injection,
and the engine at SVE_ENTRY. `spent` are the cycles already gone of a period that follows a late
one. -/
def State.startPeriod (a : Fin 4) (rcd : List Word) (spent : Nat) (s : State) : State :=
  let v := (s.act a).sve
  let cost := if v.updGo then v.updCount.toNat else 0
  let s := s.updatesNow a
  let sk := s.seekBegin a
  let s := sk.1
  let s := if sk.2.isNone then s.profileStep a false else s
  let s := s.injectPeriod a
  let shifted := match sk.2 with
    | none => rcd
    | some d => (List.range 12).map fun (i : Nat) =>
        if i < 3 then fAdd (nth rcd i 0) d else nth rcd i 0
  let i := (s.act a).svi
  let seen := if i.live && decide (i.point = 0) then
      setNth shifted 0 (fAdd (nth shifted 0 0) i.s) else shifted
  s.onSve a fun v => { v with
    state := if v.state = .hold then .hold else .running
    runReq := false, p := false, inRec := seen
    pc := v.entry.setWidth 13, mark := v.entry.toNat, seg := .mandatory, cyc := spent + cost
    reachedM := false, overdue := 0, overCyc := 0, sigDone := false, segCyc := 0, after := none
    xcSusp := v.xcSusp && !v.xcResume, xcResume := false }

/-- The period a sample instant starts, unless STOP ends the engine there; a STOP that finds the heads
loaded meanwhile is refused like one written while they are (R176). -/
def State.nextPeriod (a : Fin 4) (rcd : List Word) (s : State) : State :=
  if (s.act a).sve.stopReq then
    if s.loaded a then
      ((s.onSve a fun v => { v with stopReq := false }).sveFlag a 7).startPeriod a rcd 0
    else s.engineStopped a
  else s.startPeriod a rcd 0

end Sys2Proof.Machine
end

