-- ==== Sys2Proof/Machine/SpindleOps.lean ====
section
/-! DEFINITION. Operations of spindle control (04): states and gates, slew notices, start and stop,
the chopper, the speed loop and the wedge reference. -/

namespace Sys2Proof.Machine

open Sys2Proof

/-- The code of a state (R106). -/
def SpnState.code : SpnState → Nat
  | .off => 0
  | .restCheck => 1
  | .align => 2
  | .ramp => 3
  | .run => 4
  | .flywheel => 5
  | .coast => 6
  | .catching => 7
  | .bemfLock => 8
  | .brake => 9
  | .syncRect => 10
  | .lowHold => 11

/-- Rotations per minute in the units of the reference: exact per 5 ns tick. -/
def rpmUnit : Nat := 200000000

/-- A speed in rpm times 16 in the units of the reference. -/
def spd16 (v : Nat) : Nat := v * 12500000

/-- A sticky flag of SPN_FLAGS set (R127). -/
def State.spnFlag (n : Nat) (s : State) : State :=
  s.onSpn fun p => { p with flags := setBit p.flags n true }

/-- The gates a state holds from its entry (R106); the commutated states keep theirs until the next
PWM period, and SYNC_RECT switches as the stage's rectification needs, never both of a phase. -/
def State.stateGates (s : State) (st : SpnState) : BitVec 6 :=
  match st with
  | .off | .restCheck | .coast | .catching => 0
  | .align => 0b100100
  | .brake | .lowHold => 0b010101
  | .syncRect =>
    let g := Config.freeGates s.free
    BitVec.ofNat 6 ((List.range 3).foldl (fun (n i : Nat) =>
      let hi := g.getLsbD (2 * i + 1)
      n + b2n hi * 2 ^ (2 * i + 1) + b2n (!hi && g.getLsbD (2 * i)) * 2 ^ (2 * i)) 0)
  | _ => s.spn.gatesWant

/-- One phase takes the gates commanded (R98): a switch goes off at once, and the other switch of the
phase comes on only when the dead time since then is over. -/
def Spn.drivePhase (now : BitVec 64) (dead i : Nat) (p : Spn) : Spn :=
  let h := 5 - 2 * i
  let l := 4 - 2 * i
  let wantH := p.gatesWant.getLsbD h
  let wantL := p.gatesWant.getLsbD l && !wantH
  let stops := (p.gates.getLsbD h && !wantH) || (p.gates.getLsbD l && !wantL)
  let high := p.gates.getLsbD h || (!p.gates.getLsbD l && p.lastSide.getLsbD i)
  let off := if stops then now else nth p.offAt i 0
  let clear := decide (dead ≤ (now - off).toNat)
  { p with
    gates := setBit (setBit p.gates h (wantH && (high || clear))) l (wantL && (!high || clear))
    lastSide := setBit p.lastSide i high
    offAt := setNth p.offAt i off }

/-- The gates commanded, and those that dead times let through (R98). -/
def State.driveGates (want : BitVec 6) (s : State) : State :=
  s.onSpn fun p =>
    [0, 1, 2].foldl (fun q i => q.drivePhase s.now s.p2010Deadtime i) { p with gatesWant := want }

/-- Whether the state counts as OFF for a rule that accepts a change only there (R104). -/
def State.spnIsOff (s : State) : Bool :=
  decide (s.spn.state = .off) || decide (s.spn.state = .lowHold)

/-- The states whose step or sector is known (R128). -/
def SpnState.commutates : SpnState → Bool
  | .ramp | .run | .flywheel | .bemfLock => true
  | _ => false

/-- Parameters written in use are taken at a step boundary, and where none is in use (R129). -/
def State.takeParams (s : State) : State :=
  (foldS (fun (e : Nat × Nat) t => t.odSet (0x201000 + e.1) e.2) s.spn.pendingParams s)
    |>.onSpn fun p => { p with pendingParams := [] }

/-- A parameter takes a value at once; a value that waited for a step boundary is dropped (R129). -/
def State.spnParamNow (k v : Nat) (s : State) : State :=
  (s.odSet (0x201000 + k) v).onSpn fun p => { p with pendingParams := Tab.del p.pendingParams k }

/-- A state is entered: event 128, and the gates it holds (R106, R131). -/
def State.spnEnter (st : SpnState) (s : State) : State :=
  let old := s.spn.state
  let g := s.stateGates st
  let s := s.doIf (decide (st = .syncRect)) State.takeFree
  let run := decide (st = .run)
  let s := (s.onSpn fun p => { p with
    state := st
    refSrc := if run then p.refSrc else 0xE
    runReq := p.runReq && !run
    stopReq := p.stopReq && decide (st ≠ .off)
    zeroVector := p.zeroVector && decide (st = .brake)
    locked := p.locked && run, slewing := p.slewing && run, rampDue := p.rampDue && run
    sector := if st.commutates then p.sector else 0
    turns := 0, enteredAt := s.now, eventAt := s.now }).driveGates g
  let s := s.doIf s.spnIsOff State.takeParams
  if old = st then s else s.event epSpindle 128 (old.code * 256 + st.code)

/-! Slew notices (R122). -/

/-- A notice to every present demodulator, which becomes the last one sent. -/
def State.sendNotice (n : NoticeForce) (s : State) : State :=
  let s := s.onSpn fun p => { p with notice := n, relCount := 0 }
  foldS (fun a t => t.send { src := epSpindle, dst := epAct a 2,
                             body := .slewNotice n.target n.rate n.start }) s.presentActs s

/-- Writes are held: the 0xFFFF notice and event 136, once (R122, R131). -/
def State.holdWrites (s : State) : State :=
  let s := s.sendNotice { target := s.spn.target, rate := 0xFFFF, start := s.now16 }
  if s.spn.wrHold then s
  else (s.onSpn fun p => { p with wrHold := true }).event epSpindle 136 0

/-- Whether the 0xFFFF notice is in force as spindle control sent it. -/
def State.notAssured (s : State) : Bool := decide (s.spn.notice.rate = 0xFFFF)

/-- The rate of a ramp from the present reference (R119, R123). -/
def State.rampRate (s : State) : Nat :=
  if s.spn.cruise then min 60 (s.odNat 0x204003 20)
  else if s.spn.reference < spd16 s.spn.target.toNat then s.p2010Accel
  else s.p2010Decel

/-- The notice of a new target or ramp, 200 us ahead; none while the 0xFFFF notice stays in force
(R122). -/
def State.announce (target : BitVec 17) (rate : Nat) (s : State) : State :=
  if s.notAssured then s
  else s.sendNotice { target := target, rate := BitVec.ofNat 16 rate
                      start := s.now16 + 16 * 200 * usTicks }

/-- The reference starts toward the present target, at the instant its notice names (R119, R122). -/
def State.startRamp (notify : Bool) (s : State) : State :=
  let r := s.rampRate
  (s.onSpn fun p => { p with
    rampRate := r, rampDue := true, slewing := false, targetGiven := !p.cruise && p.targetGiven })
    |>.doIf notify (State.announce s.spn.target r)

/-- Whether Cruise is off (R123, R48). -/
def State.cruiseOff (s : State) : Bool :=
  !s.p2040CruiseEnable || decide (s.sys.mode = .orientation)

/-- Whether Cruise is off for a target: after a chopper fault, for decelerations steeper than coasting
allows (R123). -/
def State.cruiseBars (s : State) (t : Nat) : Bool :=
  s.cruiseOff || (s.spn.chopFault && decide (spd16 t < s.spn.reference)
    && decide (Config.coastRate (s.spn.reference / 12500000) < min 60 (s.odNat 0x204003 20)))

/-- The states in which a target is stored until RUN resumes (R107). -/
def SpnState.stores : SpnState → Bool
  | .flywheel | .coast | .catching | .bemfLock => true
  | _ => false

/-- A write of SPN_TARGET (R107, R123, R128). -/
def State.writeTarget (v : BitVec 32) (s : State) : State :=
  let cruise := v.getLsbD 31
  let t := fld v.toNat 0 17
  if (cruise && s.cruiseBars t) || t < 16 * 3600 || 16 * 7500 < t then s.spnFlag 8
  else
    let u := if cruise then
        max (16 * s.p2040CruiseMin) (min (16 * s.p2010RatedRpm) t) else t
    let new := BitVec.ofNat 17 u
    let old := s.spn.target
    let s := s.onSpn fun p => { p with
      target := new, cruise := cruise, targetAt := if old = new then p.targetAt else s.now
      storedTarget := if p.state.stores then some new else none
      targetGiven := false }
    let s := if cruise then s.event epSpindle 134 (u + b2n (decide (u ≠ t)) * 2 ^ 31) else s
    if s.spn.state = .run then (if s.spn.stopReq then s else s.startRamp true)
    else if s.spn.state.stores || decide (old = new) then s
    else s.announce new s.rampRate

/-- Spindle control enters RUN with a reference speed (R109, R112, R114). -/
def State.enterRun (ref : Nat) (notify : Bool) (s : State) : State :=
  let s := (s.spnEnter .run).onSpn fun p => { p with
    reference := ref, refSrc := 0xF, storedTarget := none, residHigh := 0, confident := 0
    goodCross := 0, validSteps := 0, obsSteps := [], obsSum := (0, 0) }
  s.startRamp notify

/-! Start and stop. -/

/-- REST_CHECK begins: a start or catch (R108); LOW_HOLD ends (R117). A target out of range becomes
rated speed, which is announced as a new target (R122). -/
def State.spnStart (s : State) : State :=
  let rated := BitVec.ofNat 17 (16 * s.p2010RatedRpm)
  let t := s.spn.target.toNat
  let out := decide (t < 16 * 3600) || decide (16 * 7500 < t)
  let s := (s.spnEnter .restCheck).onSpn fun p => { p with
    runReq := true, startedAt := s.now, attempt := 0, waiting500 := false, ratedGiven := false
    retryRun := false, reference := 0, openLoop := 0, integ := 0, current := 0
    catchFromRun := false
    target := if out then rated else p.target
    targetAt := if out then s.now else p.targetAt
    cruise := p.cruise && !out }
  s.doIf out fun t => t.announce rated t.rampRate

/-- ALIGN begins (R108, R111): the current rises with the attempt, held to I_TRIP. -/
def State.spnAlign (s : State) : State :=
  let n := s.spn.attempt
  let i := min (s.p2010AlignI + n * s.p2010AlignStep) (if n = 0 then 65535 else s.p2010ITrip)
  let s := (s.spnEnter .align).onSpn fun p => { p with
    waiting500 := false, openLoop := 0, confident := 0, obsConf := 0, current := fOfNat i
    duty := [0, 0, 0] }
  (s.count 0x200005 1).event epSpindle 129 n

/-- A start attempt has failed (R111). -/
def State.startFailed (s : State) : State :=
  let n := s.spn.attempt
  let s := (s.fault epSpindle 72 n).spnFlag 0
  if n < s.p2010StartRetries then
    (s.spnEnter .coast).onSpn fun p => { p with attempt := n + 1, waiting500 := true }
  else
    ((s.fault epSpindle 74 0).spnEnter .off).onSpn fun p => { p with
      runReq := false, waiting500 := false }

/-- Every actuator that is not parked retracts, as the retract step of 02 R58 gives; a load or an unload is
replaced (05 R151). -/
def State.retractAll (s : State) : State := foldS (fun a t => t.startUnload a true) s.presentActs s

/-- CATCH begins: gates open, writes held (R112, R122). -/
def State.spnCatch (s : State) : State := (s.spnEnter .catching).holdWrites

/-- The start procedure runs once the last head is parked (R111 step 4). -/
def State.retryStart (s : State) : State :=
  if s.spn.retryRun && s.presentActs.all (fun a => decide ((s.act a).isl.load = .parked)) then
    s.spnStart
  else s

/-- Locked rotor (R111, R112): a failed attempt at start, or fault 73 in RUN with the retract and
the restart. -/
def State.lockedRotor (s : State) : State :=
  let running := decide (s.spn.state = .run) || (decide (s.spn.state = .bemfLock) && s.spn.catchFromRun)
  let s := s.spnFlag 0
  if running then
    let s := (s.fault epSpindle 73 0).spnEnter .coast
    ((s.holdWrites.retractAll).onSpn fun p => { p with
      retryRun := true, catchFromRun := false, waiting500 := false }).retryStart
  else s.startFailed

/-- The 60-degree step of a speed in rpm times 16, in ticks (R111). -/
def State.stepTicks (s : State) (v16 : Nat) : Nat :=
  160 * secTicks / max 1 (v16 * (s.p2010Poles / 2))

/-- Whether commutation events or zero crossings have been missing long enough for a locked rotor (R111,
R112): OD 0x2010.0E after the handover, OD 0x2010.0F steps at the present target in RUN, and as many
steps at the speed caught in BEMF_LOCK. -/
def State.rotorLocked (s : State) : Bool :=
  let p := s.spn
  match p.state with
  | .run =>
    if p.ranFirst then
      decide (s.p2010LockIntervals * s.stepTicks p.target.toNat ≤ s.since p.eventAt)
    else decide (s.p2010LockWin * msTicks ≤ s.since p.enteredAt)
  | .bemfLock =>
    decide (s.p2010LockIntervals * s.stepTicks (16 * p.catchSpeed) ≤ s.since p.eventAt)
  | _ => false

/-- An orderly stop is requested (R107, R113): from REST_CHECK and ALIGN the gates open, from RAMP
the rotor is braked, and RUN decelerates first. -/
def State.spnStop (s : State) : State :=
  match s.spn.state with
  | .off | .lowHold | .syncRect => s
  | .restCheck | .align =>
    ((s.onSpn fun p => { p with runReq := false, retryRun := false }).spnEnter .off)
      |>.event epSpindle 143 0
  | .ramp => (s.onSpn fun p => { p with stopReq := true, runReq := false }).spnEnter .brake
  | .coast =>
    let on := s.spn.catchFromRun && !s.spn.waiting500 && !s.spn.retryRun
    let s := s.onSpn fun p => { p with
      stopReq := true, runReq := false, retryRun := false, waiting500 := false }
    s.doIf (!on) (State.spnEnter .brake)
  | .run =>
    let again := s.spn.stopReq
    let s := s.onSpn fun p => { p with
      stopReq := true, runReq := false, rampDue := true, slewing := false
      rampRate := s.p2010Decel }
    s.doIf (!again) (State.announce (BitVec.ofNat 17 (16 * s.p2010RatedRpm / 20)) s.p2010Decel)
  | _ => s.onSpn fun p => { p with stopReq := true, runReq := false, retryRun := false }

/-- Every start and retry that waits is given up. -/
def State.spnGiveUp (s : State) : State :=
  s.onSpn fun p => { p with runReq := false, retryRun := false, waiting500 := false }

/-- Power loss reaches the spindle (R118). -/
def State.spnPowerLoss (s : State) : State :=
  match s.spn.state with
  | .off | .align | .restCheck => s.spnGiveUp.spnEnter .off
  | .lowHold => s
  | _ => s.spnGiveUp.spnEnter .syncRect

/-- A chip reset (R117, 02 R56): LOW_HOLD, its state code and FATAL_OV stay; otherwise the spindle
coasts with its registers at reset. -/
def State.spnReset (s : State) : State :=
  s.onSpn fun p =>
    if p.state = .lowHold then
      { Spn.reset with state := .lowHold, gates := p.gates, gatesWant := p.gatesWant
                       lastSide := p.lastSide, offAt := p.offAt
                       flags := p.flags &&& 0b000100000 }
    else Spn.reset

/-! The chopper and overvoltage. -/

/-- A chopper fault (R116): kind 0 no current, 1 rail not recovered. It ends the chopper's episode
(R115). -/
def State.chopperFault (kind mv : Nat) (s : State) : State :=
  let s := (s.fault epSpindle 79 0).onSpn fun p => { p with
    chopOn := false, chopFault := true, waiting500 := false }
  let s := ((s.fault epSpindle 80 kind).spnFlag 4).count 0x200007 1
  let s := s.holdWrites
  if s.spn.state = .syncRect || s.spn.state = .lowHold then s
  else
    ((s.spnEnter .brake).onSpn fun p => { p with zeroVector := true }).event epSpindle 142 mv

/-! Commutation (R101, R103). -/

/-- A 60-degree step of six-step commutation: the phase driven high, the one driven low (PRESUMED
order, log 20). -/
def stepPhases (k : Nat) : Nat × Nat :=
  match k % 6 with
  | 0 => (0, 1)
  | 1 => (0, 2)
  | 2 => (1, 2)
  | 3 => (1, 0)
  | 4 => (2, 0)
  | _ => (2, 1)

/-- The gates at the centre of a PWM period: per phase the switch that conducts, high or low, and its
duty; an on-pulse shorter than twice the dead time is suppressed (R98). UH, UL, VH, VL, WH, WL from
bit 5 down. -/
def pulseGates (period dead : Nat) (l : List (Option Bool × F32)) : BitVec 6 :=
  BitVec.ofNat 6 ((List.range 3).foldl (fun (n i : Nat) =>
    match nth l i (none, 0) with
    | (some hi, d) =>
      if fLe (fOfNat (2 * dead)) (fMul d (fOfNat period)) then
        n + 2 ^ (if hi then 5 - 2 * i else 4 - 2 * i)
      else n
    | (none, _) => n) 0)

/-- The weight of the overlap window at a share of it: (1 - cos(pi x)) / 2, for x in 1 / 65,536
(R101). -/
def overlapWeight (x : Nat) : F32 :=
  fOfInt (2 ^ 64 - cos64 (BitVec.ofNat 32 (x * 32768))) (-65) false

/-- The step of soft-step at an electrical angle, and of U, V and W the switch that conducts and its duty
(R101). `d` is the duty command. -/
def softStep (angle advance overlapPm : Nat) (d : F32) : Nat × List (Option Bool × F32) :=
  let p := (angle + advance) % 65536 * 6
  let k := p / 65536
  let x := p % 65536
  let half := overlapPm * 65536 / 2000
  let ph := stepPhases k
  let base : List (Option Bool × F32) := (List.range 3).map fun (i : Nat) =>
    if i = ph.1 then (some true, d) else if i = ph.2 then (some false, 0x3F800000) else (none, 0)
  if overlapPm = 0 then (k, base)
  else
    let hand : Nat → Nat → Nat → List (Option Bool × F32) := fun before after w =>
      let o := stepPhases before
      let n := stepPhases after
      let side := decide (o.1 ≠ n.1)
      let out := if side then o.1 else o.2
      let inn := if side then n.1 else n.2
      let wt := overlapWeight w
      setNth (setNth base inn (some side, fMul d wt)) out (some side, fMul d (fSub 0x3F800000 wt))
    if x < half then (k, hand (k + 5) k ((x + half) * 65536 / (2 * half)))
    else if 65536 - half < x then (k, hand k (k + 1) ((x + half - 65536) * 65536 / (2 * half)))
    else (k, base)

/-- Vector k of R103, k = 1 to 6. -/
def dtcVector (k : Nat) : BitVec 3 :=
  match k % 6 with
  | 1 => 0b100
  | 2 => 0b110
  | 3 => 0b010
  | 4 => 0b011
  | 5 => 0b001
  | _ => 0b101

/-- The zero vector that needs one switch change from a vector; a zero vector stays (R103). -/
def zeroFrom (v : BitVec 3) : BitVec 3 :=
  if v = 0 || v = 0b100 || v = 0b010 || v = 0b001 then 0 else 0b111

/-- The gates of a vector: each phase's high side or its low side. -/
def vectorGates (v : BitVec 3) : BitVec 6 :=
  BitVec.ofNat 6 ((List.range 3).foldl (fun (n i : Nat) =>
    n + (if v.getLsbD i then 2 ^ (2 * i + 1) else 2 ^ (2 * i))) 0)

/-- The measured speed in rpm. -/
def State.measuredRpm (s : State) : F32 := fRat s.spn.speed.toNat 16

/-- One sample of direct torque control (R103): the comparators and the vector. DESIGN CHOICE (log 107):
the spec says neither what the bands' 0.01 % are taken of nor which angle gives the sector; here the
torque band is of the torque reference's magnitude, the flux band of the flux reference, and the sector
is that of the observer's electrical angle. -/
def State.dtcStep (x : PwmInputs) (s : State) : State :=
  let p := s.spn
  let bands := s.p2010DtcBands
  let tb := fMul (fAbs p.current) (fRat (fld bands 0 16) 10000)
  let rpm := s.measuredRpm
  let fluxRef := fDiv (fMul s.p2010Ke rpm) 0x3FDDB3D7
  let fb := fMul fluxRef (fRat (fld bands 16 16) 10000)
  let te := fSub p.current x.torque
  let fe := fSub fluxRef x.flux
  let t : BitVec 2 :=
    if fLt tb te then 1 else if fLt te (fNegate tb) then 2
    else if (p.dtcT = 1 && fLt 0 te) || (p.dtcT = 2 && fLt te 0) then p.dtcT else 0
  let f := if fLt fb fe then true else if fLt fe (fNegate fb) then false else p.dtcF
  let k := ((x.angle.toNat * 6 + 32768) / 65536) % 6 + 1
  let v := if t = 0 then zeroFrom p.vector
    else if t = 1 then (if f then dtcVector (k + 1) else dtcVector (k + 2))
    else if f then dtcVector (k + 5) else dtcVector (k + 4)
  (s.onSpn fun p => { p with dtcT := t, dtcF := f, vector := v, sector := BitVec.ofNat 3 k })
    |>.driveGates (vectorGates v)

/-- The units of an electrical turn in `Spn.elec`. -/
def elecTurn : Nat := 60 * rpmUnit * rpmUnit

/-- The electrical angle that spindle control keeps itself, in 1 / 65,536 turn (R106). -/
def Spn.elecAngle (p : Spn) : Nat := p.elec * 65536 / elecTurn

/-- That angle put at an angle in 1 / 65,536 turn. -/
def State.setElec (angle : Nat) (s : State) : State :=
  s.onSpn fun p => { p with elec := angle % 65536 * (elecTurn / 65536) }

/-- That angle turns at a speed, in the units of the reference, for so many ticks; and whether it passed a
step boundary (R106, R108). -/
def State.turnElec (speed ticks : Nat) (s : State) : State × Bool :=
  let e := s.spn.elec + speed * (s.p2010Poles / 2) * ticks
  (s.onSpn fun p => { p with elec := e % elecTurn, turns := p.turns + e / elecTurn },
   decide (s.spn.elec * 6 / elecTurn < e * 6 / elecTurn))

/-- The commutation of a PWM period: soft-step, or DTC in RUN while the observer is valid (R101,
R103, R104). -/
def State.commutate (x : PwmInputs) (angle : Nat) (s : State) : State :=
  if s.spn.dtc && decide (s.spn.state = .run) && s.spn.obsValid then s.dtcStep x
  else
    let rated := max 1 (16 * s.p2010RatedRpm)
    let adv := fToNat 65536 (fDiv (fMul s.p2010Advance (fRat s.spn.speed.toNat rated)) 0x43B40000)
    let duty := fClamp 0 0x3F800000 (Config.freeDuty s.free)
    let r := softStep angle adv s.p2010Overlap duty
    (s.takeFree.onSpn fun p => { p with duty := r.2.map Prod.snd, sector := BitVec.ofNat 3 (r.1 + 1) })
      |>.driveGates (pulseGates s.p2010PwmPeriod s.p2010Deadtime r.2)

/-! The speed loop (R119). -/

/-- The PI loop of one PWM period: `ticks` its length (R119, R115, R116). -/
def State.speedLoop (ticks : Nat) (s : State) : State :=
  let p := s.spn
  let err := fSub (fRat p.reference rpmUnit) s.measuredRpm
  let top := fOfNat s.p2010IRunMax
  let low := if p.chopFault then 0
    else if p.ovWarned then fMul 0x3F000000 top else top
  let hold := fun (v : F32) => fClamp (fNegate low) top v
  let dt := fRat ticks rpmUnit
  let integ := fClamp (fNegate top) top
    (fAdd p.integ (fMul 0x447A0000 (fMul (fMul s.p2010Ki err) dt)))
  let out := hold (fAdd (fMul 0x447A0000 (fMul s.p2010Kp err)) integ)
  s.onSpn fun p => { p with integ := integ, current := out }

/-- The reference moves toward its end by the ramp's rate (R119). -/
def moveToward (ref goal step : Nat) : Nat :=
  if ref ≤ goal then min goal (ref + step) else max goal (ref - step)

/-- The hold that slewing causes starts or ends, with event 136 or 137; the hold of a speed that is not
assured stays (R122, R131). -/
def State.slewHold (on : Bool) (s : State) : State :=
  if s.notAssured || s.spn.wrHold = on then s
  else
    let s := s.onSpn fun p => { p with wrHold := on }
    if on then s.event epSpindle 136 1 else s.event epSpindle 137 0

/-- The target is reached: the ramp ends, its hold too, with events 135 and 137 (R122, R123). -/
def State.rampEnd (s : State) : State :=
  let s := s.onSpn fun p => { p with slewing := false, rampDue := false }
  let s := if s.spn.cruise && !s.spn.targetGiven && !s.spn.stopReq then
      (s.onSpn fun p => { p with targetGiven := true }).event epSpindle 135 s.spn.target.toNat
    else s
  s.slewHold false

/-- The reference in RUN over one PWM period: toward the target, or toward 5 % of rated speed for an
orderly stop (R113, R119). A ramp starts at the instant its notice names. -/
def State.referenceStep (ticks : Nat) (s : State) : State :=
  let p := s.spn
  if !p.rampDue || (!s.notAssured && decide (s.now16 < p.notice.start)) then s
  else
    let low := s.p2010RatedRpm * rpmUnit / 20
    let goal := if p.stopReq then min p.reference low else spd16 p.target.toNat
    let s := s.doIf (decide (p.reference ≠ goal)) (State.slewHold (decide (s.p2040CruiseWrSlew < p.rampRate)))
    let r := moveToward p.reference goal (p.rampRate * ticks)
    let s := s.onSpn fun p => { p with reference := r, slewing := decide (r ≠ goal) }
    s.doIf (decide (r = goal)) State.rampEnd

/-- Rated speed is reached for the first time since RUN: event 132 and the spin-up time (R130,
R131). -/
def State.ratedReached (s : State) : State :=
  let p := s.spn
  let rated := 16 * s.p2010RatedRpm
  let near := decide (200 * ((p.speed.toNat : Int) - (rated : Int)).natAbs ≤ rated)
  if p.ratedGiven || !near || decide (p.reference ≠ spd16 rated) then s
  else
    let ms := s.msSince p.startedAt
    let s := s.onSpn fun p => { p with ratedGiven := true }
    ((s.odSet 0x200006 ms).onSys fun y => { y with spinUpMs := some ms }).event epSpindle 132 ms

/-! The wedge reference (R119, R120). -/

/-- Whether an actuator's wedges are good enough to become the reference. -/
def State.refGood (s : State) (a : Fin 4) : Bool :=
  s.present a && decide (s.p2010Wedges ≤ (s.spn.wedges.get a).lockedRun)

/-- Whether the reference loses an actuator: eight bad wedges, or silence for two wedge periods. -/
def State.refLost (s : State) (a : Fin 4) : Bool :=
  let w := s.spn.wedges.get a
  decide (8 ≤ w.badRun) ||
    match w.hist with
    | m :: _ => decide (m.instant + 2 * s.spindleWedge < s.now16)
    | [] => true

/-- Whether an actuator holds as reference: it became good and has not been lost. -/
def State.refHolds (s : State) (a : Fin 4) : Bool := s.present a && !s.refLost a

/-- The source the reference should have (R119, R120). -/
def State.wantedRef (s : State) : BitVec 4 :=
  let p := s.spn
  if decide (p.state ≠ .run) || 20 * p.speed.toNat < 16 * s.p2010RatedRpm then 0xE
  else
    let lowest : BitVec 4 :=
      match allActs.find? (fun a => s.refGood a && !s.refLost a) with
      | some a => BitVec.ofNat 4 a.val
      | none => 0xF
    match p.refMode.toNat with
    | 1 => 0xF
    | 2 =>
      let a : Fin 4 := ⟨p.refAct.toNat, p.refAct.isLt⟩
      if s.refGood a && !s.refLost a then BitVec.ofNat 4 a.val else 0xF
    | _ =>
      if h : p.refSrc.toNat < 4 then
        if s.refHolds ⟨p.refSrc.toNat, h⟩ then p.refSrc else lowest
      else lowest

/-- One wedge timing message enters the history, and the speed is measured when it comes from the
reference (R119, R120, R121, R122). -/
def State.takeWedge (a : Fin 4) (wedge : BitVec 10) (t : Nat) (locked missing frozen : Bool)
    (s : State) : State :=
  let good := !missing && !frozen
  let w := s.p2010Wedges
  let src := s.spn.wedges.get a
  let m : WedgeMsg := { wedge := wedge, instant := t, good := good }
  let hist := (m :: src.hist).take (w + 1)
  let new : WedgeSrc := {
    hist := hist
    lockedRun := if locked then min (src.lockedRun + 1) (w + 1) else 0
    badRun := if good && locked then 0 else min 255 (src.badRun + 1) }
  let s := s.onSpn fun p => { p with wedges := p.wedges.set a new }
  if decide (s.spn.refSrc.toNat = a.val) && good then
    match hist[w]? with
    | some o =>
      if o.good && decide (o.instant < t) then
        let v := 16 * 60 * sixteenths / (t - o.instant)
        let tgt := s.spn.target.toNat
        let off := ((v : Int) - (tgt : Int)).natAbs
        let ref := s.spn.reference / 12500000
        let offRef := ((v : Int) - (ref : Int)).natAbs
        s.onSpn fun p => { p with
          speed := BitVec.ofNat 17 v
          locked := decide (10000 * offRef ≤ ref)
          relCount := if decide (10000 * off ≤ s.p2010ReleaseTol * tgt) && decide (p.state = .run) then
            p.relCount + 1 else 0
          devCount := if decide (200 * offRef ≤ ref) then 0 else p.devCount + 1 }
      else s
    | none => s
  else s

end Sys2Proof.Machine
end

