-- ==== Sys2Proof/Machine/Actuator.lean ====
section
/-! DEFINITION. The commands of the actuator islands (05 R133 to R161) and the messages islands send
each other and spindle control (01 R31 to R34). What ends a load or an unload is with the modes. -/

namespace Sys2Proof.Machine

open Sys2Proof

/-- The bits in which a read servo address mark differs from 0x0B3D (R137, R138). -/
def samMismatch (v : BitVec 16) : Nat := (List.range 16).countP fun i => (v ^^^ 0x0B3D).getLsbD i

/-- SERVO_WEDGE (R138 to R144): a servo address mark within SAM_ERR bits and within the window. A mark
that is neither leaves the window to close without one; after a head switch one outside the window
loses lock. -/
def execServoWedge (a : Fin 4) (w : WedgeInputs) (s : State) : Eff :=
  .next (
    if s.demodRuns a && decide (samMismatch w.sam ≤ (s.act a).svd.samErr.toNat) then
      if s.inSamWindow a w.instant then s.wedgeFound a w
      else if (s.act a).svd.switching then s.switchLost a
      else s
    else s)

/-- MISSING_WEDGE (R142). -/
def execMissingWedge (a : Fin 4) (s : State) : Eff :=
  .next (if s.demodRuns a then s.wedgeMissing a else s)

/-- LOCK_LOST (R143). -/
def execLockLost (a : Fin 4) (s : State) : Eff :=
  .next (
    match (s.act a).svd.lossNow with
    | some k => s.lockLost a k
    | none => s)

/-- HEAD_SWITCH (R143): the next window is shifted; a write operation in progress ends (09 R282). -/
def execHeadSwitch (a : Fin 4) (head : BitVec 5) (s : State) : Eff :=
  let moved := decide ((s.act a).svd.head ≠ head)
  let s := s.onSvd a fun d => { d with head := head, switching := true }
  .next (if moved then s.wpMoved a else s)

/-- FORCE_ACQUIRE (R158): reads 1 until the first mark. -/
def execForceAcquire (a : Fin 4) (s : State) : Eff :=
  let s := s.enterAcquire a
  .next ((s.onSvd a fun d => { d with acquire := true, lossKind := 0 }).markLocked a false true)

/-- SVD_TARGET_WRITE by a core: effect at the next sample (R155); a change ends a write operation
(09 R282). -/
def execSvdTargetWrite (a : Fin 4) (track : BitVec 24) (s : State) : Eff :=
  let moved := decide ((s.act a).svd.target ≠ track)
  let s := s.onSvd a fun d => { d with targetNext := some track }
  .next (if moved then s.wpMoved a else s)

/-- SHOCK_CROSSING (R146): the threshold is in codes from mid-scale; a crossing during the hold restarts
it, and raises the flag and the event again. -/
def execShockCrossing (a : Fin 4) (peak : BitVec 12) (s : State) : Eff :=
  let beyond := decide (s.p3400ShockThr a % 4096 < ((peak.toNat : Int) - 2048).natAbs)
  .next (
    if s.present a && s.domOn (24 + a.val) && beyond then
      let s := s.onMsn a fun m => { m with
        shock := true, shockAt := if m.shock then m.shockAt else s.now, shockLast := s.now
        flags := setBit m.flags 2 true }
      ((s.countA 0x340014 a 1).wpCause a 1 true).actEvent a 5 4 peak.toNat
    else s)

/-- SHOCK_HOLD_END (R146): MSN_CTL.SHK_HOLD has passed since the last crossing. -/
def execShockHoldEnd (a : Fin 4) (s : State) : Eff :=
  .next (
    if (s.act a).msn.shock
        && decide (s.p3400ShockHold a * usTicks ≤ s.since (s.act a).msn.shockLast) then
      let us := s.since (s.act a).msn.shockAt / usTicks
      ((s.onMsn a fun m => { m with shock := false }).wpCause a 1 false).actEvent a 5 5 us
    else s)

/-- HEAD_LOAD (R149, R151, R156). -/
def execHeadLoad (a : Fin 4) (s : State) : Eff := .next (s.startLoad a)

/-- HEAD_UNLOAD (R150, R151): UNLOAD written, or a retract. -/
def execHeadUnload (a : Fin 4) (retract : Bool) (s : State) : Eff :=
  let before := (s.act a).isl.load
  let t := s.startUnload a retract
  .next (if (t.act a).isl.load ≠ before && !retract then
    t.onIsl a fun i => { i with unloadReq := true } else t)

/-- VCM_FRAME_REPEAT (R135): the last frame is sent again, SEQ and all; nothing changes. -/
def execVcmFrameRepeat (a : Fin 4) (s : State) : Eff :=
  .next (s.onVcm a fun v => { v with frame := vcmFrame v.mode v.value v.seq })

/-- Whether the senses of a kind of fault offset 4 have been at a rail long enough (R154). -/
def State.sensesRailed (s : State) (a : Fin 4) (kind : Nat) : Bool :=
  match kind with
  | 1 => s.railedFor a 10 4
  | 2 => s.railedFor a 10 5
  | 3 => ([0, 1, 2] : List Nat).any (s.railedFor a 100)
  | _ => false

/-- DRIVE_OR_SENSE_FAULT (R154): kind 1 VCS, 2 MAS, 3 a vibration or shock input. Kind 0 is the
coil's own check (R149). -/
def execDriveOrSenseFault (a : Fin 4) (kind : Fin 4) (s : State) : Eff :=
  .next (
    if s.present a && s.domOn (24 + a.val) && s.sensesRailed a kind.val then s.senseFault a kind.val
    else s)

/-! Messages. -/

/-- A value is released into a mailbox (01 R31, R32). -/
def State.mailboxSet (src dst : Fin 4) (v : F32) (unloaded : Bool) (s : State) : State :=
  s.onMbx dst fun m => m.set src { m.get src with
    value := v, stale := false, unloaded := unloaded, released := s.now16 }

/-- FEED_FORWARD_RECEIVE (01 R31, R32): scheduled for its output instant plus the receiver's wedge
period less 100 ns, or released at once with fault 47 when that has passed. -/
def execFeedForwardReceive (src dst : Fin 4) (s : State) : Eff :=
  let hit : Msg → Bool := fun m =>
    m.src == epAct src 1 && m.dst == epAct dst 1 &&
      (match m.body with
       | .feedForward .. => true
       | _ => false)
  let r := s.takeMsg hit
  .next (
    match r.1 with
    | some { body := .feedForward acc t period _ _ unloaded, .. } =>
      let s := r.2
      if !s.domOn (20 + dst.val) then s
      else
        let rel := t + s.wedgeT dst - 320
        if rel < s.now16 then
          (s.mailboxSet src dst acc unloaded).faultAt (epAct dst 1) 47 src.val
            ((epAct dst 1).toNat * 2 ^ 40 + period.toNat)
        else
          s.onMbx dst fun m =>
            m.set src { m.get src with queue := (m.get src).queue ++ [(rel, acc, unloaded)] }
    | _ => r.2)

/-- MAILBOX_RELEASE (01 R31): the oldest message whose release instant has come. -/
def execMailboxRelease (src dst : Fin 4) (s : State) : Eff :=
  let due : Nat × F32 × Bool → Bool := fun e => decide (e.1 ≤ s.now16)
  .next (
    match ((s.act dst).mbx.get src).queue.find? due with
    | none => s
    | some (_, v, u) =>
      (s.mailboxSet src dst v u).onMbx dst fun m =>
        m.set src { m.get src with queue := dropFirst due (m.get src).queue })

/-- MAILBOX_STALE (01 R32): no message released for two receiver periods. -/
def execMailboxStale (src dst : Fin 4) (s : State) : Eff :=
  .next (
    if s.now16 < ((s.act dst).mbx.get src).released + 2 * s.wedgeT dst then s
    else s.onMbx dst fun m => m.set src { m.get src with stale := true })

/-- WEDGE_TIMING_RECEIVE (01 R33, 04 R119). -/
def execWedgeTimingReceive (a : Fin 4) (s : State) : Eff :=
  let r := s.takeMsg fun m => m.src == epAct a 2 && m.dst == epSpindle
  .next (
    match r.1 with
    | some { body := .wedgeTiming w t locked missing frozen, .. } =>
      r.2.takeWedge a w t locked missing frozen
    | _ => r.2)

/-- SLEW_NOTICE_RECEIVE (01 R34, 04 R122). -/
def execSlewNoticeReceive (a : Fin 4) (s : State) : Eff :=
  let r := s.takeMsg fun m => m.src == epSpindle && m.dst == epAct a 2
  .next (
    match r.1 with
    | some { body := .slewNotice target rate start, .. } =>
      if r.2.domOn (20 + a.val) then r.2.takeNotice a { target := target, rate := rate, start := start }
      else r.2
    | _ => r.2)

end Sys2Proof.Machine
end

