-- ==== Sys2Proof/Machine/Aes.lean ====
section
/-! DEFINITION. The block cipher and its modes that the cipher engine uses (14 R420, R421): AES-256,
XTS, GCM and key wrapping, as FIPS 197, IEEE 1619-2018, NIST SP 800-38D and SP 800-38F give (PRESUMED from those standards, log
11). -/

namespace Sys2Proof.Machine

open Sys2Proof

/-- Multiplication by x in GF(2^8) of FIPS 197. -/
def xtime (b : Byte) : Byte := (b <<< 1) ^^^ (if b.msb then 0x1B else 0)

/-- Multiplication in GF(2^8). -/
def aesMul (a b : Byte) : Byte :=
  ((List.range 8).foldl (fun (p : Byte × Byte) i =>
    (if b.getLsbD i then p.1 ^^^ p.2 else p.1, xtime p.2)) (0, a)).1

/-- The square in GF(2^8). -/
def aesSq (a : Byte) : Byte := aesMul a a

/-- The inverse in GF(2^8), and 0 for 0: the 254th power. -/
def aesInv (a : Byte) : Byte :=
  ((List.range 6).foldl (fun (p : Byte × Byte) _ =>
    let q := aesSq p.2
    (aesMul p.1 q, q)) (aesSq a, aesSq a)).1

/-- The S-box. -/
def sbox (a : Byte) : Byte :=
  let b := aesInv a
  b ^^^ b.rotateLeft 1 ^^^ b.rotateLeft 2 ^^^ b.rotateLeft 3 ^^^ b.rotateLeft 4 ^^^ 0x63

/-- The inverse S-box. -/
def sboxInv (a : Byte) : Byte :=
  aesInv (a.rotateLeft 1 ^^^ a.rotateLeft 3 ^^^ a.rotateLeft 6 ^^^ 0x05)

/-- The exclusive or of byte strings. -/
def aesXor (a b : List Byte) : List Byte := List.zipWith (fun x y => x ^^^ y) a b

/-- RotWord of a word of four bytes, with a round constant added to its first byte. -/
def rotWord (rcon : Byte) : List Byte → List Byte
  | [a, b, c, d] => [b ^^^ rcon, c, d, a]
  | l => l

/-- The next eight words of the key schedule of AES-256 from the last eight. -/
def keyRound (rcon : Byte) (k : List Byte) : List Byte :=
  let w (i : Nat) : List Byte := (k.drop (4 * i)).take 4
  let w0 := aesXor (w 0) (rotWord rcon ((w 7).map sbox))
  let w1 := aesXor (w 1) w0
  let w2 := aesXor (w 2) w1
  let w3 := aesXor (w 3) w2
  let w4 := aesXor (w 4) (w3.map sbox)
  let w5 := aesXor (w 5) w4
  let w6 := aesXor (w 6) w5
  let w7 := aesXor (w 7) w6
  w0 ++ w1 ++ w2 ++ w3 ++ w4 ++ w5 ++ w6 ++ w7

/-- The schedule of AES-256: 15 round keys in a row. -/
def keySchedule (key : List Byte) : List Byte :=
  ((List.range 7).foldl (fun (p : List Byte × List Byte × Byte) _ =>
    let k := keyRound p.2.2 p.2.1
    (p.1 ++ k, k, xtime p.2.2)) (key, key, 1)).1

/-- Round key i of a schedule. -/
def roundKey (ks : List Byte) (i : Nat) : List Byte := (ks.drop (16 * i)).take 16

/-- ShiftRows, or its inverse with a shift to the right. -/
def shiftRows (right : Bool) (b : List Byte) : List Byte :=
  (List.range 16).map fun i =>
    let r := i % 4
    let c := i / 4
    nth b (4 * ((if right then c + 4 - r else c + r) % 4) + r) 0

/-- MixColumns with the coefficients of a row. -/
def mixColumns (m0 m1 m2 m3 : Byte) (b : List Byte) : List Byte :=
  (List.range 16).map fun i =>
    let r := i % 4
    let c := 4 * (i / 4)
    let x (k : Nat) : Byte := nth b (c + (r + k) % 4) 0
    aesMul m0 (x 0) ^^^ aesMul m1 (x 1) ^^^ aesMul m2 (x 2) ^^^ aesMul m3 (x 3)

/-- AES-256 of one block under a schedule. -/
def aesEnc (ks block : List Byte) : List Byte :=
  let b := (List.range 13).foldl (fun b i =>
    aesXor (mixColumns 2 3 1 1 (shiftRows false (b.map sbox))) (roundKey ks (i + 1)))
    (aesXor block (roundKey ks 0))
  aesXor (shiftRows false (b.map sbox)) (roundKey ks 14)

/-- The inverse of AES-256 of one block under a schedule. -/
def aesDec (ks block : List Byte) : List Byte :=
  let b := (List.range 13).foldl (fun b i =>
    mixColumns 14 11 13 9 (aesXor ((shiftRows true b).map sboxInv) (roundKey ks (13 - i))))
    (aesXor block (roundKey ks 14))
  aesXor ((shiftRows true b).map sboxInv) (roundKey ks 0)

/-- The blocks of 16 bytes of a string; the last may be shorter. -/
def blocks16 : Nat → List Byte → List (List Byte)
  | 0, _ => []
  | n + 1, l => if l.isEmpty then [] else l.take 16 :: blocks16 n (l.drop 16)

/-- The next tweak of XTS: multiplication by alpha in GF(2^128), least significant byte first. -/
def xtsNext (t : List Byte) : List Byte :=
  let n := leNat t * 2
  leBytes 16 (if bitOf n 128 then (n % 2 ^ 128) ^^^ 0x87 else n)

/-- XTS over the blocks of a data unit. -/
def xtsBlocks (f : List Byte → List Byte) : List Byte → List (List Byte) → List Byte
  | _, [] => []
  | t, b :: r => aesXor (f (aesXor b t)) t ++ xtsBlocks f (xtsNext t) r

/-- AES-256-XTS of a data unit of whole blocks: key 1 on the data and key 2 on the tweak, which is the
LBA (R420). -/
def xtsUnit (encrypt : Bool) (key : List Byte) (lba : Nat) (data : List Byte) : List Byte :=
  let k1 := keySchedule (key.take 32)
  let k2 := keySchedule ((key.drop 32).take 32)
  xtsBlocks (if encrypt then aesEnc k1 else aesDec k1) (aesEnc k2 (leBytes 16 lba))
    (blocks16 data.length data)

/-- Multiplication in the field of GHASH, blocks as numbers with the first bit most significant. -/
def ghashMul (x y : Nat) : Nat :=
  ((List.range 128).foldl (fun (p : Nat × Nat) i =>
    let z := if bitOf x (127 - i) then p.1 ^^^ p.2 else p.1
    (z, if bitOf p.2 0 then (p.2 / 2) ^^^ (0xE1 * 2 ^ 120) else p.2 / 2)) (0, y)).1

/-- GHASH of blocks under H. -/
def ghash (h : Nat) (l : List (List Byte)) : Nat :=
  l.foldl (fun y b => ghashMul (y ^^^ beNat (padTo 16 0 b)) h) 0

/-- The key stream of GCM applied to blocks, the counter rising. -/
def gcmCtr (ks iv : List Byte) : Nat → List (List Byte) → List Byte
  | _, [] => []
  | c, b :: r => aesXor b (aesEnc ks (iv ++ beBytes 4 c)) ++ gcmCtr ks iv (c + 1) r

/-- The tag of GCM over additional data and ciphertext. -/
def gcmTag (key iv aad cipher : List Byte) : List Byte :=
  let ks := keySchedule key
  let h := beNat (aesEnc ks (List.replicate 16 0))
  let lens := beBytes 8 (8 * aad.length) ++ beBytes 8 (8 * cipher.length)
  let y := ghash h (blocks16 aad.length aad ++ blocks16 cipher.length cipher ++ [lens])
  aesXor (beBytes 16 y) (aesEnc ks (iv ++ beBytes 4 1))

/-- The message of GCM encrypted or decrypted. -/
def gcmText (key iv text : List Byte) : List Byte :=
  gcmCtr (keySchedule key) iv 2 (blocks16 text.length text)

/-- The first bytes that AES-KW wraps with a key and checks when it unwraps. -/
def kwStart : List Byte := List.replicate 8 0xA6

/-- Semi-blocks of 8 bytes. -/
def semiBlocks (l : List Byte) : List (List Byte) :=
  (List.range (l.length / 8)).map fun i => (l.drop (8 * i)).take 8

/-- Step t of AES-KW, counted from 0, on the integrity bytes and the semi-blocks. -/
def kwStep (ks : List Byte) (p : List Byte × List (List Byte)) (t : Nat) : List Byte × List (List Byte) :=
  let i := t % max 1 p.2.length
  let b := aesEnc ks (p.1 ++ nth p.2 i [])
  (aesXor (b.take 8) (beBytes 8 (t + 1)), setNth p.2 i (b.drop 8))

/-- Step t of AES-KW undone. -/
def kwBack (ks : List Byte) (p : List Byte × List (List Byte)) (t : Nat) : List Byte × List (List Byte) :=
  let i := t % max 1 p.2.length
  let b := aesDec ks (aesXor p.1 (beBytes 8 (t + 1)) ++ nth p.2 i [])
  (b.take 8, setNth p.2 i (b.drop 8))

/-- AES-KW: a key of whole semi-blocks wrapped, 8 bytes longer. -/
def kwWrap (kek key : List Byte) : List Byte :=
  let l := semiBlocks key
  let x := (List.range (6 * l.length)).foldl (kwStep (keySchedule kek)) (kwStart, l)
  x.1 ++ x.2.flatten

/-- AES-KW undone: the key, if its integrity check holds. -/
def kwUnwrap (kek blob : List Byte) : Option (List Byte) :=
  let l := semiBlocks (blob.drop 8)
  let x := (List.range (6 * l.length)).reverse.foldl (kwBack (keySchedule kek)) (blob.take 8, l)
  if x.1 = kwStart then some x.2.flatten else none

/-- The key-encryption key of the media slots, which the engine derives from its fused device secret (14
R428): free bytes. -/
def slotKek : List Byte := (List.range 32).map Config.kekByte

end Sys2Proof.Machine
end

