-- ==== Sys2Proof/Machine/Frames.lean ====
section
/-! DEFINITION. The Buyth frame (03 R79 to R81): its header fields, its seal under AES-256-GCM, and the
operation and items of its body. -/

namespace Sys2Proof

open Sys2Proof.Machine

/-! Bytes of a frame (R67, R79). -/

/-- A little-endian field of a byte string. -/
def leField (l : List Byte) (at_ n : Nat) : Nat := leNat ((l.drop at_).take n)

/-- The nonce of a header: ROLE_DIR, one zero byte, SRC_NODE and COUNTER (R81). -/
def frameNonce (h : List Byte) : List Byte :=
  (h.drop 1).take 1 ++ [0] ++ (h.drop 2).take 2 ++ (h.drop 8).take 8

/-- A frame: the header, the body encrypted and the tag over both (R79, R81). -/
def sealFrame (key header body : List Byte) : List Byte :=
  let text := gcmText key (frameNonce header) body
  header ++ text ++ gcmTag key (frameNonce header) header text

/-- VERSION. -/
def Frame.version (f : Frame) : Nat := leField f.bytes 0 1

/-- ROLE_DIR. -/
def Frame.roleDir (f : Frame) : BitVec 8 := BitVec.ofNat 8 (leField f.bytes 1 1)

/-- The role a frame names. -/
def Frame.role (f : Frame) : BitVec 2 := f.roleDir.extractLsb' 0 2

/-- SRC_NODE. -/
def Frame.srcNode (f : Frame) : BitVec 16 := BitVec.ofNat 16 (leField f.bytes 2 2)

/-- DST_NODE. -/
def Frame.dstNode (f : Frame) : Nat := leField f.bytes 4 2

/-- BODY_LEN. -/
def Frame.bodyLen (f : Frame) : Nat := leField f.bytes 6 2

/-- COUNTER. -/
def Frame.counter (f : Frame) : BitVec 64 := BitVec.ofNat 64 (leField f.bytes 8 8)

/-- TAG_ID. -/
def Frame.tagId (f : Frame) : BitVec 32 := BitVec.ofNat 32 (leField f.bytes 16 4)

/-- The 28 header bytes. -/
def Frame.header (f : Frame) : List Byte := f.bytes.take 28

/-- The encrypted body. -/
def Frame.sealed (f : Frame) : List Byte := (f.bytes.drop 28).take f.bodyLen

/-- The tag. -/
def Frame.tag (f : Frame) : List Byte := f.bytes.drop (28 + f.bodyLen)

/-- Whether the frame has the length its BODY_LEN, 4 to 1,456, gives (R79). -/
def Frame.whole (f : Frame) : Bool :=
  decide (4 ≤ f.bodyLen) && decide (f.bodyLen ≤ 1456) && f.bytes.length == 44 + f.bodyLen

/-- Whether the tag verifies under a key (R81). -/
def Frame.opens (f : Frame) (key : List Byte) : Bool :=
  f.whole && decide (gcmTag key (frameNonce f.header) f.header f.sealed = f.tag)

/-- The body under a key. -/
def Frame.body (f : Frame) (key : List Byte) : List Byte := gcmText key (frameNonce f.header) f.sealed

/-- Whether an Ethernet frame is a broadcast one. -/
def Link.broadcast : Link → Bool
  | .t1s _ dst _ _ => dst.toNat == 0xFFFFFFFFFFFF
  | _ => false

/-- The sender of a frame (R84). -/
def Frame.sender (f : Frame) : Sender :=
  match f.link with
  | .t1s src _ _ _ => .t1s src f.srcNode
  | .i3c eid _ _ => .i3c eid
  | .nvme c => .nvme c

/-- The value an item carries: a string of bytes, or a little-endian number (R67). -/
def WriteItem.val (w : WriteItem) : OdVal :=
  if w.ty = 12 ∨ w.ty = 13 then .oct w.bytes else .num (leNat w.bytes)

/-- The session of a frame (R74). -/
def Frame.session (f : Frame) : SessionId := { sender := f.sender, role := f.role }

end Sys2Proof

namespace Sys2Proof.Machine

open Sys2Proof

/-- The items of a request body, as many as it counts; none when they overrun it (R80). -/
def bodyItems : Nat → List Byte → Option (List WriteItem)
  | 0, _ => some []
  | n + 1, l =>
    let len := leField l 4 2
    if l.length < 6 + len then none
    else (bodyItems n (l.drop (6 + len))).map fun r =>
      { key := { index := BitVec.ofNat 16 (leField l 0 2), sub := BitVec.ofNat 8 (leField l 2 1) }
        ty := BitVec.ofNat 8 (leField l 3 1), bytes := (l.drop 6).take len } :: r

/-- A request: its operation and its items (R72, R80). -/
structure Req where
  op : Nat
  items : List WriteItem
  deriving DecidableEq, Repr

/-- The request a body spells; none when its items overrun it (R80). -/
def bodyReq (b : List Byte) : Option Req :=
  (bodyItems (leField b 2 1) (b.drop 4)).map fun l => { op := leField b 0 1, items := l }

/-- The addresses the items of a request name. -/
def Req.keys (r : Req) : List ObjKey := r.items.map fun w => w.key

end Sys2Proof.Machine
end

