-- ==== Sys2Proof/Machine/Memory.lean ====
section
/-! DEFINITION. The buffer memory (13): the inline code, the write queues and merges, refresh and
retraining, the memory error log and the scrubber, with their commands. What a write brings is in
memory from the moment it is acknowledged; a write queue says which granules still wait for their
drain, and the byte errors a granule's code word holds stand beside it. -/

namespace Sys2Proof.Machine

open Sys2Proof

/-- The granule of an address (R394). -/
def granOf (a : Nat) : Nat := (a - dramBase) / 64

/-- The address of a granule. -/
def granAddr (g : Nat) : Nat := dramBase + 64 * g

/-- The channel of a granule (R394). -/
def granChan (g : Nat) : Fin 4 := ⟨g / 28 % 4, by omega⟩

/-- The row slot of a granule (R394). -/
def rowSlot (g : Nat) : Nat := g / 28

/-- Ranks of each channel (R393). -/
def State.ranks (s : State) : Nat := if s.dramc.rawGiB = 32 then 2 else 1

/-- The bank of a row slot, with its rank (R394). -/
def State.bankKey (s : State) (x : Nat) : Nat := 16 * (x / 64 % s.ranks) + x / 4 % 16

/-- The identity of a place in a row, j = 31 the row signature (R394 to R396). -/
def State.identity (s : State) (x j : Nat) : BitVec 40 :=
  BitVec.ofNat 40 (x % 4 * 2 ^ 27 + x / 64 % s.ranks * 2 ^ 26 + x / 4 % 16 * 2 ^ 22
    + x / (64 * s.ranks) % 2 ^ 17 * 32 + j)

/-- The 32 bytes of a row's signature (R395). -/
def State.rowSignature (s : State) (x : Nat) : List Byte :=
  let h := beBytes 5 (s.identity x 31).toNat ++ List.replicate 23 0xA5
  h ++ beBytes 4 (crc32 h)

/-- The check bytes of a granule's data at its place (R396). -/
def State.checkBytes (s : State) (g : Nat) (data : List Byte) : List Byte :=
  rsCheck (beBytes 5 (s.identity (rowSlot g) (g % 28)).toNat ++ data)

/-- A channel. -/
def State.chan (s : State) (c : Fin 4) : Chan := s.dramc.ch.get c

/-- A channel replaced. -/
def State.onChan (c : Fin 4) (f : Chan → Chan) (s : State) : State :=
  s.onDramc fun d => { d with ch := d.ch.set c (f (d.ch.get c)) }

/-- The byte errors of a granule. -/
def State.errsOf (s : State) (g : Nat) : List (Nat × Byte) := Tab.getD s.dramc.errs g []

/-- The byte errors of a granule set. -/
def State.setErrs (g : Nat) (l : List (Nat × Byte)) (s : State) : State :=
  s.onDramc fun d => { d with errs := Tab.put d.errs g l [] }

/-- One more byte error: two at a place add up. -/
def addErr (e : Nat × Byte) (l : List (Nat × Byte)) : List (Nat × Byte) :=
  match l.find? fun x => x.1 == e.1 with
  | some o =>
    let v := o.2 ^^^ e.2
    let r := l.filter fun x => x.1 != e.1
    if v = 0 then r else (e.1, v) :: r
  | none => if e.2 = 0 then l else e :: l

/-! Check lines (R398). A granule's data is in memory, and the check bytes that belong to it follow from it by
`State.checkBytes`; what a line carries besides is which of them differ as they were read. -/

/-- A granule's row slot and check line. -/
def lineOf (g : Nat) : Nat × Nat := (g / 28, g % 28 / 4)

/-- A granule's place in its check line. -/
def lineBit (g : Nat) : Nat := g % 28 % 4

/-- The granules of a check line. -/
def CheckLine.gran (l : CheckLine) (i : Nat) : Nat := 28 * l.slot + 4 * l.m + i

/-- The buffered check line of a granule. -/
def State.checkLine (s : State) (g : Nat) : Option CheckLine :=
  (s.chan (granChan g)).lines.find? fun l => (l.slot, l.m) == lineOf g

/-- A line goes to DRAM, if it was written: the check bytes it holds take the place of those there. -/
def State.lineOut (l : CheckLine) (s : State) : State :=
  if !l.dirty then s
  else foldS (fun i t =>
    if l.held.getLsbD i then
      t.setErrs (l.gran i) ((t.errsOf (l.gran i)).filter (fun e => decide (e.1 < 69))
        ++ Tab.getD l.bad i [])
    else t) (List.range 4) s

/-- The check bytes a line does not hold yet are read in its open row. -/
def State.lineFill (s : State) (l : CheckLine) : CheckLine :=
  { l with
    held := 0xF
    bad := (List.range 4).foldl (fun b i =>
      if l.held.getLsbD i then b
      else Tab.put b i ((s.errsOf (l.gran i)).filter fun e => decide (69 ≤ e.1)) []) l.bad }

/-- A row closes: its lines are written back, and stay. -/
def State.closeRow (c : Fin 4) (x : Nat) (s : State) : State :=
  let mine := (s.chan c).lines.filter fun l => l.slot == x && l.dirty
  (foldS State.lineOut mine s).onChan c fun y => { y with
    lines := y.lines.map fun l => if l.slot = x && l.dirty then { s.lineFill l with dirty := false } else l }

/-- A bank's open row closes (R406: its refresh). -/
def State.closeBank (c : Fin 4) (bank : Nat) (s : State) : State :=
  foldS (fun k t => match Tab.get? (t.chan c).opened k with
    | none => t
    | some x => (t.closeRow c x).onChan c fun y => { y with opened := Tab.del y.opened k })
    [bank, 16 + bank] s

/-- The row of a granule is open: another row of its bank closes first (R406). -/
def State.openRow (g : Nat) (s : State) : State :=
  let c := granChan g
  let x := rowSlot g
  let k := s.bankKey x
  let s := match Tab.get? (s.chan c).opened k with
    | some y => if y = x then s else s.closeRow c y
    | none => s
  s.onChan c fun z => { z with opened := Tab.set z.opened k x }

/-- Room for one line more: the least recently used one is written back and leaves. -/
def State.lineRoom (c : Fin 4) (s : State) : State :=
  match (s.chan c).lines with
  | [] => s
  | l :: r => if r.length < 15 then s else (s.lineOut l).onChan c fun y => { y with lines := r }

/-- A line becomes the most recently used one of its channel. -/
def State.lineIn (l : CheckLine) (c : Fin 4) (s : State) : State :=
  s.onChan c fun y => { y with
    lines := (y.lines.filter fun z => !((z.slot, z.m) == (l.slot, l.m))) ++ [l] }

/-- A granule read takes its check line from the buffer, or from DRAM in the open row. -/
def State.lineRead (g : Nat) (s : State) : State :=
  let c := granChan g
  let s := s.openRow g
  match s.checkLine g with
  | some l => s.lineIn (if l.held.getLsbD (lineBit g) then l else s.lineFill l) c
  | none =>
    let s := s.lineRoom c
    s.lineIn (s.lineFill { slot := (lineOf g).1, m := (lineOf g).2, held := 0, bad := [], dirty := false }) c

/-- A whole-granule write updates its check line; what it does not hold is read when it is needed, so a line
whose four granules are all written is never read. -/
def State.lineWrite (g : Nat) (s : State) : State :=
  let c := granChan g
  let s := s.openRow g
  let i := lineBit g
  let mark (l : CheckLine) : CheckLine :=
    { l with held := setBit l.held i true, bad := Tab.del l.bad i, dirty := true }
  match s.checkLine g with
  | some l => s.lineIn (mark l) c
  | none => (s.lineRoom c).lineIn
      (mark { slot := (lineOf g).1, m := (lineOf g).2, held := 0, bad := [], dirty := false }) c

/-- Every check line is written back (R404). -/
def State.linesBack (s : State) : State :=
  foldS (fun c t => (foldS State.lineOut (t.chan c).lines t).onChan c fun y => { y with
    opened := [], lines := y.lines.map fun l => if l.dirty then { t.lineFill l with dirty := false } else l })
    allActs s

/-- The byte errors that a decoder meets: those of the cells, but the check bytes as its line holds them, and
those of the link in this burst. -/
def State.errsSeen (s : State) (g : Nat) (burst : List (Nat × Byte)) : List (Nat × Byte) :=
  let own := match s.checkLine g with
    | some l =>
      if l.held.getLsbD (lineBit g) then
        ((s.errsOf g).filter fun e => decide (e.1 < 69)) ++ Tab.getD l.bad (lineBit g) []
      else s.errsOf g
    | none => s.errsOf g
  burst.foldl (fun l e => addErr e l) own

/-- What decoding a granule finds (R397). -/
inductive Decoded where
  /-- No error. -/
  | clean
  /-- So many byte errors, corrected. -/
  | fixed (n : Nat)
  /-- Errors beyond the mode's reach that the decoder takes for these few, all outside the folded
  bytes. -/
  | wrong (p : List (Nat × Byte))
  /-- More errors than the mode corrects, not located. -/
  | data
  /-- So many errors located, one of them in a folded byte. -/
  | address (n : Nat)
  /-- A poisoned granule. -/
  | poison
  deriving DecidableEq, Repr

/-- A located error pattern with a folded position is never corrected (R397). -/
def decodedAs (l : List (Nat × Byte)) (other : Decoded) : Decoded :=
  if l.any fun e => decide (e.1 < 5) then
    if l = [(0, 0x80)] then .poison else .address l.length
  else other

/-- The byte errors the mode in force corrects (R397). -/
def State.eccReach (s : State) : Nat := if s.dramc.c3d5 then 3 else 4

/-- Decoding in the mode in force (R397). -/
def State.decodeGran (s : State) (g : Nat) (burst : List (Nat × Byte)) : Decoded :=
  let l := s.errsSeen g burst
  if l.isEmpty then .clean
  else if l.length ≤ s.eccReach then decodedAs l (.fixed l.length)
  else match rsLocate s.eccReach l with
    | none => .data
    | some p => decodedAs p (.wrong p)

/-- The byte errors a decode found: 0xFF when not located (R408). -/
def Decoded.bytes : Decoded → Nat
  | .clean => 0
  | .fixed n => n
  | .wrong p => p.length
  | .data => 0xFF
  | .address n => n
  | .poison => 1

/-- A memory error log entry (R408). -/
def State.memLog (addr : Nat) (ch : Fin 4) (kind : Nat) (src : Endpoint) (bytes : Nat) (s : State) :
    State :=
  let q := s.dramc.logSeq + 1
  let e : LogEntry :=
    { time := s.now, addr := BitVec.ofNat 48 addr, channel := BitVec.ofNat 8 ch.val
      kind := BitVec.ofNat 8 kind, initiator := src, bytes := BitVec.ofNat 8 bytes
      mode := BitVec.ofNat 8 (b2n s.dramc.c3d5), seq := q }
  let full := decide (16 ≤ s.dramc.log.length)
  let lost := s.odNat 0x502102 0
  let s := (s.onDramc fun d => { d with log := lastN 16 (d.log ++ [e]), logSeq := q })
  let s := if full then
      let s := s.count 0x502102 1
      if lost = 0 then s.fault epMemory 24 0 else s
    else s
  s.event epMemory 68 q.toNat

/-- A correctable error (R406, R417): fault source 16, the count and at most one event 66 a second. -/
def State.memCorrected (g : Nat) (s : State) : State :=
  let c := granChan g
  let s := (s.faultAt epMemory 16 c.val (granAddr g)).count (0x502001 + c.val) 1
  let quiet := match (s.chan c).ev66At with
    | some t => decide (s.since t < secTicks)
    | none => false
  if quiet then s
  else (s.onChan c fun x => { x with ev66At := some s.now }).event epMemory 66 c.val

/-- The dirty page of an uncorrectable granule is lost, a clean one discarded (R415). -/
def State.pageLost (u : Nat) (s : State) : State :=
  match s.page? u with
  | none => s
  | some p =>
    let s := s.onBuf fun b => { b with pages := dropFirst (fun x => x.unit == u) b.pages }
    if p.state = .clean then s
    else
      let e : Extent :=
        { gmu := u, len := 1, loc := { act := 0, head := 0, track := 0 }, sector := 0, zone := 0
          kind := .unreadable, gen := p.gen, temp := 0 }
      let s := (s.change false (.extentAdded e)).journal false (.groupEnd 0)
      (((s.fault epBuffer 25 0).event epBuffer 73 (u % 2 ^ 32)).count 0x504007 1
        |>.formDone p.cids).dirtyCheck

/-- An uncorrectable read (R406): its log entry, fault source and counts; a poisoned granule raises
nothing new. -/
def State.memBad (g : Nat) (d : Decoded) (src : Endpoint) (page : Option Nat) (s : State) : State :=
  let c := granChan g
  let n := d.bytes
  let a := granAddr g
  let s := s.count (0x502005 + c.val) 1
  let s := match d with
    | .poison => s.memLog a c 3 src n
    | .address _ => ((s.memLog a c 2 src n).faultAt epMemory 18 c.val a).count 0x502009 1
    | _ => (s.memLog a c 1 src n).faultAt epMemory 17 c.val a
  let k := match d with
    | .poison => 3
    | .address _ => 2
    | _ => 1
  let s := s.event epMemory 67 (c.val + k * 256)
  match page with
  | some u => s.pageLost u
  | none => s

/-- The granule a decoder took a bad one for is stored (R397, R406): the true errors and those it took
out both stay in its bytes, but for the bytes a queued write brings. -/
def State.storeWrong (g : Nat) (burst p : List (Nat × Byte)) (s : State) : State :=
  let held := match (s.chan (granChan g)).queue.find? fun q => q.gran == g with
    | some q => q.bytes
    | none => []
  (foldS (fun (e : Nat × Byte) t =>
    let o := e.1 - 5
    if 5 ≤ e.1 && o < 64 && (Tab.get? held o).isNone then
      t.write (granAddr g + o) [e.2 ^^^ memByte t.fab.mem (granAddr g + o)]
    else t) (s.errsSeen g burst ++ p) s).setErrs g []

/-- A corrected granule is written back as a whole-granule write (R406): none where the queue holds an entry for
it, whose write or merge carries the correction. -/
def State.writeBack (g : Nat) (src : Endpoint) (s : State) : State :=
  let c := granChan g
  if (s.chan c).queue.any fun q => q.gran == g then s
  else
    let e : QEntry :=
      { gran := g, bytes := (s.read (granAddr g) 64).zipIdx.map fun x => (x.2, x.1), amo := none, src := src
        id := 0, link := [] }
    if 64 ≤ (s.chan c).queue.length then (s.setErrs g []).lineWrite g
    else s.onChan c fun x => { x with queue := x.queue ++ [e] }

/-- A granule and its check line are read and decoded: whether the controller holds its data for good
(R398, R406). -/
def State.readGran (g : Nat) (src : Endpoint) (fix : Bool) (burst : List (Nat × Byte)) (page : Option Nat)
    (s : State) : Bool × State :=
  let s := s.lineRead g
  match s.decodeGran g burst with
  | .clean => (true, s)
  | .fixed _ =>
    let s := s.memCorrected g
    (true, if fix then s.writeBack g src else s)
  | .wrong [] => (true, s.storeWrong g burst [])
  | .wrong p =>
    let s := s.memCorrected g
    (true, if fix then (s.storeWrong g burst p).writeBack g src else s)
  | d => (false, s.memBad g d src page)

/-- An atomic operation on a number of `n` bytes (01 R22, log 13). -/
def amoApply (op : AmoOp) (n old x : Nat) : Nat :=
  let w := 8 * n
  let o := BitVec.ofNat w old
  let v := BitVec.ofNat w x
  let r : BitVec w := match op with
    | .swap => v
    | .add => o + v
    | .xor => o ^^^ v
    | .and => o &&& v
    | .or => o ||| v
    | .min => if o.toInt ≤ v.toInt then o else v
    | .max => if o.toInt ≤ v.toInt then v else o
    | .minu => if o.toNat ≤ v.toNat then o else v
    | .maxu => if o.toNat ≤ v.toNat then v else o
  r.toNat

/-! Write queues. -/

/-- The queue entry of a granule. -/
def State.qEntry (s : State) (g : Nat) : Option QEntry :=
  (s.chan (granChan g)).queue.find? fun q => q.gran == g

/-- Whether an entry holds the whole granule. -/
def QEntry.whole (q : QEntry) : Bool := decide (q.bytes.length = 64) && q.amo.isNone

/-- The bytes of a write join an entry's, offsets rising. -/
def joinBytes (l : List (Nat × Byte)) (off : Nat) : List Byte → List (Nat × Byte)
  | [] => l
  | b :: r => joinBytes (Tab.set l off b) (off + 1) r

/-- The controller answers a request (R406). -/
def State.memAnswer (id : Nat) (src : Endpoint) (kind : BitVec 4) (data : List Byte) (s : State) :
    State :=
  s.onDramc fun d => { d with
    results := d.results ++ [{ id := id, src := src, chan := none, kind := kind, data := data }] }

/-- A read is served: from a whole entry, or from DRAM (R406). -/
def State.serveRead (t : Txn) (burst : List (Nat × Byte)) (page : Option Nat) (s : State) : State :=
  let g := granOf t.acc.addr
  if (s.qEntry g).any QEntry.whole then
    s.memAnswer t.id t.src 0 (s.read t.acc.addr t.acc.size)
  else
    let r := s.readGran g t.src true burst page
    if r.1 then r.2.memAnswer t.id t.src 0 (r.2.read t.acc.addr t.acc.size)
    else r.2.memAnswer t.id t.src 5 []

/-- A write enters its channel's queue and is acknowledged (R406). -/
def State.queueWrite (t : Txn) (burst : List (Nat × Byte)) (s : State) : State :=
  let g := granOf t.acc.addr
  let off := (t.acc.addr - dramBase) % 64
  let data := padTo t.acc.size 0 t.acc.data
  let c := granChan g
  let s := s.write t.acc.addr data
  let s := s.onChan c fun x =>
    if x.queue.any fun q => q.gran == g then
      { x with queue := x.queue.map fun q =>
          if q.gran = g then { q with bytes := joinBytes q.bytes off data, src := t.src, link := burst }
          else q }
    else { x with queue := x.queue ++ [{ gran := g, bytes := joinBytes [] off data, amo := none
                                         src := t.src, id := t.id, link := burst }] }
  s.memAnswer t.id t.src 0 []

/-- An atomic operation enters the queue: it is performed at its merge (R406). -/
def State.queueAmo (t : Txn) (s : State) : State :=
  let g := granOf t.acc.addr
  let off := (t.acc.addr - dramBase) % 64
  let a : AmoOp × Nat × Nat × List Byte := (t.acc.amo, off, t.acc.size, t.acc.data)
  s.onChan (granChan g) fun x =>
    if x.queue.any fun q => q.gran == g then
      { x with queue := x.queue.map fun q =>
          if q.gran = g then { q with amo := some a, src := t.src, id := t.id } else q }
    else { x with queue := x.queue ++ [{ gran := g, bytes := [], amo := some a, src := t.src
                                         id := t.id, link := [] }] }

/-- A request waits for a drain, a merge or room in the queue. -/
def State.memWait (t : Txn) (s : State) : State :=
  s.onDramc fun d => { d with waiting := d.waiting ++ [t] }

/-- Whether a request must wait: an atomic operation stands on its granule, its channel retrains,
an earlier request to the granule waits, its queue is full, or a read meets a partial entry. -/
def State.memMustWait (s : State) (t : Txn) : Bool :=
  let g := granOf t.acc.addr
  let c := s.chan (granChan g)
  let q := s.qEntry g
  c.retraining || (q.any fun x => x.amo.isSome)
    || (s.dramc.waiting.any fun w => granOf w.acc.addr == g)
    || (match t.acc.kind with
      | .read => q.any fun x => !x.whole
      | _ => q.isNone && decide (64 ≤ c.queue.length))

/-- A request is taken (R406). -/
def State.memTake (t : Txn) (burst : List (Nat × Byte)) (page : Option Nat) (s : State) : State :=
  match t.acc.kind with
  | .read => s.serveRead t burst page
  | .write => s.queueWrite t burst
  | .amo => s.queueAmo t

/-- Requests that waited are taken, in order, as far as nothing holds them any more. -/
def State.memRetry (s : State) : State :=
  let held := s.dramc.waiting
  foldS (fun t u => if u.memMustWait t then u.memWait t else u.memTake t [] none) held
    (s.onDramc fun d => { d with waiting := [] })

/-- DRAM_REQUEST (R400, R401, R406, R407). -/
def execDramRequest (src : Endpoint) (acc : Access) (link : LinkEcc) (page : Option Nat)
    (s : State) : Eff :=
  let t : Txn := { id := s.fab.nextTxn, src := src, chan := none, acc := acc }
  let s := s.onFab fun f => { f with nextTxn := f.nextTxn + 1 }
  .next (
    if s.dramc.rawGiB = 0 || s.sys.dram = .failed || !s.inDram acc.addr acc.size then
      s.memAnswer t.id src 1 []
    else if !s.domOn 14 || (s.chan (granChan (granOf acc.addr))).selfRefresh then
      s.memAnswer t.id src 4 []
    else
      let g := granOf acc.addr
      let s := s.setErrs g (link.errs.foldl (fun l e => addErr e l) (s.errsOf g))
      let s := if link.corrected then s.count 0x50200A 1 else s
      let s := if link.detected && link.retryFailed then
          s.faultAt epMemory 19 (granChan g).val acc.addr else s
      if s.memMustWait t then s.memWait t else s.memTake t link.burst page)

/-- A merge on a good granule: the entry is whole once the read has returned; on a bad one the
granule is poisoned (R406). -/
def State.mergeEntry (q : QEntry) (s : State) : State :=
  let g := q.gran
  let a := granAddr g
  let errs := s.errsSeen g []
  let found := s.decodeGran g []
  let r := s.readGran g q.src true [] none
  let s := r.2
  let s := if r.1 then s
    else
      foldS (fun (e : Nat × Byte) t =>
        let o := e.1 - 5
        if 5 ≤ e.1 && o < 64 && (Tab.get? q.bytes o).isNone then
          t.write (a + o) [e.2 ^^^ memByte t.fab.mem (a + o)]
        else t) errs s
  let s := match q.amo with
    | none => s
    | some (op, off, n, x) =>
      let old := s.read (a + off) n
      let s := s.write (a + off) (leBytes n (amoApply op n (leNat old) (leNat x)))
      if r.1 then s.memAnswer q.id q.src 0 old else s.memAnswer q.id q.src 5 []
  let c := granChan g
  if r.1 then
    s.onChan c fun x => { x with queue := x.queue.map fun y =>
      if y.gran = g then { y with bytes := joinBytes [] 0 (s.read a 64), amo := none } else y }
  else
    let s := ((s.setErrs g [(0, 0x80)]).lineWrite g).onChan c fun x => { x with
      queue := x.queue.filter fun y => y.gran != g }
    (((s.memLog a c 4 q.src found.bytes).faultAt epMemory 20 c.val (q.src.toNat * 2 ^ 40)).count
      0x50200B 1)

/-- MERGE_READ_RETURN (R406). -/
def execMergeReadReturn (granule : Nat) (s : State) : Eff :=
  .next (match s.qEntry granule with
    | some q => if q.whole || (s.chan (granChan granule)).retraining then s
        else (s.mergeEntry q).memRetry
    | none => s)

/-- A channel's whole entries reach DRAM (R406). -/
def State.drainChan (c : Fin 4) (s : State) : State :=
  let q := (s.chan c).queue
  let s := foldS (fun x t => if QEntry.whole x then (t.setErrs x.gran x.link).lineWrite x.gran else t) q s
  s.onChan c fun x => { x with queue := x.queue.filter fun y => !y.whole }

/-! Engines at the memory controller. -/

/-- The last answer of the memory controller, taken from its answers. -/
def State.takeAnswer (s : State) : Nat × List Byte × State :=
  match s.dramc.results.getLast? with
  | some x => (x.kind.toNat, x.data,
      s.onDramc fun d => { d with results := d.results.dropLast })
  | none => (5, [], s)

/-- A granule is read for an engine: from a whole entry, or from DRAM (R406). -/
def State.granRead (src : Endpoint) (g : Nat) (page : Option Nat) (s : State) : Bool × State :=
  if (s.qEntry g).any QEntry.whole then (true, s) else s.readGran g src true [] page

/-- An engine's write to one granule, drained at once with its merge (R406). -/
def State.granWrite (src : Endpoint) (addr : Nat) (data : List Byte) (s : State) : State :=
  let acc : Access := { kind := .write, amo := .swap, addr := addr, size := data.length, data := data }
  let s := (s.queueWrite { id := 0, src := src, chan := none, acc := acc } []).takeAnswer.2.2
  let s : State := match s.qEntry (granOf addr) with
    | some q => if q.whole then s else s.mergeEntry q
    | none => s
  s.drainChan (granChan (granOf addr))

/-- The parts of a run of bytes in each granule, as address and size. -/
def granPieces (addr len : Nat) : List (Nat × Nat) :=
  (List.range ((addr % 64 + len + 63) / 64)).map fun i =>
    let a := max addr ((addr / 64 + i) * 64)
    (a, min (addr + len) ((addr / 64 + i + 1) * 64) - a)

/-- An engine reads a run of bytes: whether every granule was good; those of memory other than DRAM always
are (log 31). -/
def State.engineGet (src : Endpoint) (addr len : Nat) (page : Option Nat) (s : State) : Bool × State :=
  if s.inDram addr 1 then
    (granPieces addr len).foldl (fun x p =>
      let r := x.2.granRead src (granOf p.1) page
      (x.1 && r.1, r.2)) (true, s)
  else (true, s)

/-- An engine writes a run of bytes. -/
def State.enginePut (src : Endpoint) (addr : Nat) (data : List Byte) (s : State) : State :=
  if s.inDram addr 1 then
    foldS (fun p t => t.granWrite src p.1 ((data.drop (p.1 - addr)).take p.2)) (granPieces addr data.length) s
  else s.write addr data

/-- WRITE_QUEUE_DRAIN (R406). -/
def execWriteQueueDrain (ch : Fin 4) (s : State) : Eff :=
  .next (if (s.chan ch).retraining || (s.chan ch).selfRefresh then s else (s.drainChan ch).memRetry)

/-- Every channel's queue is drained, merges included (R404, R407). -/
def State.drainAll (s : State) : State :=
  foldS (fun c t =>
    ((foldS (fun q u => if QEntry.whole q then u else u.mergeEntry q) (t.chan c).queue t).drainChan c))
    allActs s

/-- Self-refresh is entered (R404). -/
def State.selfRefreshEnter (s : State) : State :=
  if s.sys.dram = .trained then
    let s := (s.drainAll.memRetry.drainAll).linesBack
    let s := foldS (fun c t => t.onChan c fun x => { x with selfRefresh := true }) allActs s
    s.event epMemory 74 1
  else s

/-- Self-refresh is left (R404). -/
def State.selfRefreshExit (s : State) : State :=
  if (s.chan 0).selfRefresh then
    let s := foldS (fun c t => t.onChan c fun x => { x with selfRefresh := false, checkAt := none }) allActs s
    s.event epMemory 74 0
  else s

/-! Refresh and retraining (R402, R403). -/

/-- REFRESH_DUE: a refresh closes its bank's row (R406); postponed while its bank is busy, at most 8 per bank. -/
def execRefreshDue (ch : Fin 4) (bank : Fin 16) (busy : Bool) (s : State) : Eff :=
  .next (
    if busy then s.onChan ch fun c =>
      { c with postponed := Tab.put c.postponed bank.val (min 8 (Tab.getD c.postponed bank.val 0 + 1)) 0 }
    else (s.closeBank ch bank.val).onChan ch fun c => { c with
      postponed := Tab.put c.postponed bank.val 0 0 })

/-- REFRESH_FORCED: at the eighth postponement the refresh goes ahead of all other traffic. -/
def execRefreshForced (ch : Fin 4) (bank : Fin 16) (s : State) : Eff :=
  .next (
    if 8 ≤ Tab.getD (s.chan ch).postponed bank.val 0 then
      ((s.closeBank ch bank.val).onChan ch fun c => { c with
        postponed := Tab.put c.postponed bank.val 0 0 }).fault epMemory 23 ch.val
    else s)

/-- The MR4 code of the nominal refresh rate (PRESUMED from JEDEC LPDDR, log 28). -/
def mr4Nominal : Nat := 3

/-- MR4_CHANGE (R402). -/
def execMr4Change (ch : Fin 4) (code : BitVec 3) (s : State) : Eff :=
  let hot := decide (mr4Nominal < code.toNat)
  let was := (s.chan ch).hot
  let s := s.onChan ch fun c => { c with mr4 := code, hot := hot }
  let q := ch.val + code.toNat * 256
  .next (
    if hot && !was then (s.event epMemory 70 q).fault epMemory 26 ch.val
    else if was && !hot then s.event epMemory 70 q
    else s)

/-- RETRAIN_CHECK (R403): every RETRAIN_CHECK ms, and at once after self-refresh (R404). -/
def execRetrainCheck (ch : Fin 4) (driftPs : Nat) (s : State) : Eff :=
  let c := s.chan ch
  let steps := ((c.mr4.toNat : Int) - (c.mr4Trained.toNat : Int)).natAbs
  .next (
    if s.sys.dram ≠ .trained || c.selfRefresh
        || (c.checkAt.any fun t => decide (s.since t < s.p5010RetrainCheck * msTicks)) then s
    else
      s.onChan ch fun c => { c with
        checkAt := some s.now
        retraining := c.retraining || decide (s.p5010RetrainDrift < driftPs) || decide (2 ≤ steps) })

/-- RETRAIN_COMPLETE (R403): three failures in a row raise fault source 22. -/
def execRetrainComplete (ch : Fin 4) (ok : Bool) (s : State) : Eff :=
  .next (
    if !(s.chan ch).retraining then s
    else if ok then
      (((s.onChan ch fun c => { c with
          retraining := false, retrainFails := 0, mr4Trained := c.mr4 }).count 0x501003 1).event
        epMemory 69 ch.val).memRetry
    else if (s.chan ch).retrainFails < 2 then
      s.onChan ch fun c => { c with retrainFails := c.retrainFails + 1 }
    else
      ((s.onChan ch fun c => { c with retraining := false, retrainFails := 0 }).fault epMemory 22
        ch.val).memRetry)

/-! The scrubber (R409 to R413). -/

/-- A scrub starts, or its GO is refused with CONFLICT (R409). -/
def State.scrubStart (s : State) : State :=
  let x := s.scr
  let lo := x.start.toNat
  let hi := x.stop.toNat
  if x.state = .running || hi < lo || !s.inDram lo (hi + 1 - lo) then
    s.onScr fun x => { x with flags := setBit x.flags 2 true }
  else
    (s.onScr fun x => { x with
      state := .running, abort := false, next := lo, startedAt := s.now
      read := 0, corr := 0, uncorr := 0, sigErr := 0, first := 0, last := 0, dur := 0
      sumRead := 0, sumCorr := 0, sumUncorr := 0, sumSig := 0 })
      |> foldS (fun c t => t.onChan c fun y => { y with scrubAt := s.now }) allActs
      |>.event epBuffer 64 ((hi + 1 - lo) / 2 ^ 20)

/-- SCRUB_GO: SCR_CTL written with GO (R409, R413). -/
def execScrubGo (v : BitVec 32) (s : State) : Eff :=
  .next (
    if !s.domOn 16 then s
    else
      (s.onScr fun x => { x with
        fix := v.getLsbD 17, sig := v.getLsbD 16, rate := v.setWidth 16 }).scrubStart)

/-- SCRUB_ABORT (R411). -/
def execScrubAbort (s : State) : Eff :=
  .next (if s.scr.state = .running then s.onScr fun x => { x with abort := true } else s)

/-- A scrub ends: the summary, the state and event 65 (R411); a pass counts its last range (R416)
and goes on where a range of it was aborted (R410). -/
def State.scrubEnd (how : ScrState) (s : State) : State :=
  let x := s.scr
  let s := (s.onScr fun x => { x with
      state := how, abort := false, read := x.sumRead, corr := x.sumCorr, uncorr := x.sumUncorr
      sigErr := x.sumSig, dur := BitVec.ofNat 64 (s.since x.startedAt / usTicks)
      passUncorr := if x.passNext.isSome then x.passUncorr + x.sumUncorr else x.passUncorr
      passNext := if how = .aborted then x.passNext.map fun _ => x.next - dramBase else x.passNext })
    |>.event epBuffer 65 x.sumUncorr.toNat
  match x.passNext with
  | none => s
  | some p =>
    if how = .done && decide (s.usableBytes ≤ p) then
      ((s.count 0x503003 1).odSet 0x503004 s.scr.passUncorr.toNat).onScr fun x => { x with
        passNext := none, passUncorr := 0 }
    else s

/-- Whether a granule is the last of a row that lies wholly within the range (R409). -/
def Scr.rowEnds (x : Scr) (g : Nat) : Bool :=
  decide (g % 28 = 27) && decide (x.start.toNat ≤ granAddr (g - 27))

/-- Whether the scrubber's next read may be issued now (R410): under SCR_CTL.RATE, and with no read waiting and
fewer than 48 writes queued on its channel unless it has been starved. -/
def State.scrubMay (s : State) : Bool :=
  let g := granOf s.scr.next
  let c := s.chan (granChan g)
  let waits := s.dramc.waiting.any fun t => decide (granChan (granOf t.acc.addr) = granChan g)
    && decide (t.acc.kind = .read)
  let paced := decide (s.scr.rate = 0)
    || decide (64 * s.scr.sumRead.toNat * usTicks ≤ s.scr.rate.toNat * s.since s.scr.startedAt)
  !c.retraining && paced && (c.starve || (!waits && decide (c.queue.length < 48)))

/-- SCRUB_GRANULE: the next granule of the range is read (R409 to R411), with the row's signature `sig` at the
row's last granule. -/
def execScrubGranule (sig : List Byte) (page : Option Nat) (s : State) : Eff :=
  .next (
    if s.scr.state ≠ .running || !s.domOn 16 then s
    else if s.scr.abort then s.scrubEnd .aborted
    else if !s.scrubMay then s
    else
      let a := s.scr.next
      let g := granOf a
      let c := granChan g
      let s := s.onChan c fun x => { x with starve := false, scrubAt := s.now }
      let before := s.decodeGran g []
      let queued := (s.qEntry g).any QEntry.whole
      let s := if queued then s else (s.readGran g epBuffer s.scr.fix [] page).2
      let fixed := !queued && (match before with
        | .fixed _ | .wrong (_ :: _) => true
        | _ => false)
      let bad := !queued && (match before with
        | .clean | .fixed _ | .wrong _ => false
        | _ => true)
      let s := s.onScr fun x => { x with
        sumRead := x.sumRead + 1
        sumCorr := x.sumCorr + BitVec.ofNat 32 (b2n fixed)
        sumUncorr := x.sumUncorr + BitVec.ofNat 32 (b2n bad)
        flags := setBit x.flags 0 (x.flags.getLsbD 0 || bad)
        first := if bad && decide (x.sumUncorr = 0) then BitVec.ofNat 36 a else x.first
        last := if bad then BitVec.ofNat 36 a else x.last
        next := a + 64 }
      let s := if s.scr.sig && s.scr.rowEnds g && decide (sig ≠ s.rowSignature (rowSlot g)) then
          ((s.onScr fun x => { x with sumSig := x.sumSig + 1 }).memLog (granAddr (g - 27)) c 5
            epBuffer 0xFF).faultAt epMemory 21 c.val (granAddr (g - 27))
        else s
      if s.scr.stop.toNat < a + 64 then s.scrubEnd .done else s)

/-- SCRUB_STARVE (R410): the channel has given no slot for SCR_STARVE.LIMIT us, 0 acting as 1. -/
def execScrubStarve (ch : Fin 4) (s : State) : Eff :=
  .next (
    if s.scr.state = .running
        && decide (max 1 s.scr.limit.toNat * usTicks ≤ s.since (s.chan ch).scrubAt) then
      (s.onChan ch fun x => { x with starve := true, scrubAt := s.now }).onScr fun x => { x with
        flags := setBit x.flags 1 true }
    else s)

/-- SCRUB_PASS_START: the next 256 MiB range of a full pass, unless thermal protection holds (R411,
21 R565). -/
def execScrubPassStart (s : State) : Eff :=
  let off := s.scr.passNext.getD 0
  .next (
    if s.p5030ScrubPassH = 0 || (s.scr.passNext.isNone && decide (s.poh < s.scr.passAt + s.p5030ScrubPassH))
        || s.scr.state = .running || !s.domOn 16 || s.dramc.rawGiB = 0
        || s.tt.protDie || s.tt.protDiode || s.usableBytes ≤ off then s
    else
      let next := min s.usableBytes (off + 2 ^ 28)
      (s.onScr fun x => { x with
        passNext := some next, passAt := if x.passNext.isNone then s.poh else x.passAt, start := BitVec.ofNat 36 (dramBase + off)
        stop := BitVec.ofNat 36 (dramBase + next - 1)
        rate := BitVec.ofNat 16 s.p5030ScrubRate }).scrubStart)

end Sys2Proof.Machine
end

