-- ==== Sys2Proof/Machine/NvmeOps.lean ====
section
/-! DEFINITION. Operations of the host interface (12) that the modes, the Hall Monitor and the power
block use: asynchronous events, critical warnings, Namespace Not Ready, withdrawal and shutdown
status. -/

namespace Sys2Proof.Machine

open Sys2Proof

/-! Controllers and features. -/

/-- A controller. -/
def State.ctrl (s : State) (c : Fin 2) : Ctrl := nth s.nvme.ctrls c.val Ctrl.reset

/-- A controller replaced. -/
def State.onCtrl (c : Fin 2) (f : Ctrl → Ctrl) (s : State) : State :=
  s.onNvme fun v => { v with ctrls := setNth v.ctrls c.val (f (nth v.ctrls c.val Ctrl.reset)) }

/-- A port. -/
def State.port (s : State) (p : Fin 2) : Port := nth s.nvme.ports p.val Port.reset

/-- A port replaced. -/
def State.onPort (p : Fin 2) (f : Port → Port) (s : State) : State :=
  s.onNvme fun v => { v with ports := setNth v.ports p.val (f (nth v.ports p.val Port.reset)) }

/-- Whether the part presents two ports (R364): the strap is ignored in tier C. -/
def State.twoPorts (s : State) : Bool := s.ident.dualPort && s.hasCipher

/-- The controllers the part presents. -/
def State.presentCtrls (s : State) : List (Fin 2) := if s.twoPorts then [0, 1] else [0]

/-- The feature entry of a scope list. -/
def featFind (fid : Nat) (nsid : Nat) (l : List Feat) : Option Feat :=
  l.find? fun f => f.fid.toNat == fid && f.nsid == nsid

/-- Dword 11 of a controller-scope feature, or its default. -/
def State.ctrlFeat (s : State) (c : Fin 2) (fid dflt : Nat) : Nat :=
  match featFind fid 0 (s.ctrl c).feats with
  | some f => f.dw11.toNat
  | none => dflt

/-- Whether the host has set ACRE through Host Behavior Support (R384). -/
def State.acre (s : State) (c : Fin 2) : Bool :=
  match featFind 0x16 0 (s.ctrl c).feats with
  | some f => nth f.bytes 0 0 ≠ 0
  | none => false

/-! Asynchronous events (R388, R391). The type, information and log codes and the enabling bits are
those of NVMe 2.0 (PRESUMED). -/

/-- The log page an event names. -/
def aenLog (type info : Nat) : Nat :=
  if type = 1 then 0x02
  else if type = 6 then 0x80
  else if info = 0 then 0x04
  else if info = 1 then 0x03
  else 0x08

/-- Dword 0 of an Asynchronous Event Request that completes. -/
def aenDw (type info : Nat) : Nat := type + info * 256 + aenLog type info * 65536

/-- An asynchronous event is posted to a controller: it completes a request that waits, or waits for
one. -/
def State.postAen (c : Fin 2) (type info : Nat) (s : State) : State :=
  let e : Aen := { ctrl := c, type := BitVec.ofNat 8 type, info := BitVec.ofNat 8 info }
  if s.nvme.aens.contains e then s
  else
    let s := s.event (epHost c) 47 (c.val + type * 256 + info * 65536)
    match s.nvme.cmds.find? fun k => decide (k.ctrl = c) && decide (k.need = .aer) with
    | some k =>
      s.onCmd k.n fun k => { k with
        need := .nothing, status := nvOk
        dw0 := BitVec.ofNat 32 (aenDw type info) }
    | none => s.onNvme fun v => { v with aens := v.aens ++ [e] }

/-- A notice posted to a controller when its bit of Asynchronous Event Configuration is set. -/
def State.notice (c : Fin 2) (info : Nat) (s : State) : State :=
  if bitOf (s.ctrlFeat c 0x0B 0) (8 + info) then s.postAen c 2 info else s

/-- A notice to every controller. -/
def State.noticeAll (info : Nat) (s : State) : State :=
  foldS (fun c t => t.notice c info) s.presentCtrls s

/-- Critical Warning of the SMART log (R388): the thresholds of bit 1 are the Temperature Threshold
feature's, WCTEMP for the first until the host sets it. -/
def State.critical (s : State) : BitVec 8 :=
  let kelvin : Int := 273 + (max (nth s.pwr.temps 6 200) (nth s.pwr.temps 7 200)) / 8
  let th (ns : Nat) (dflt : Int) : Int := match featFind 0x04 ns s.nvme.features with
    | some f => (fld f.dw11.toNat 0 16 : Nat)
    | none => dflt
  let b1 := decide (th 0 (273 + s.p1840DiodeKnee) ≤ kelvin) || decide (kelvin < th 1 0)
  let retired := s.plc.heads.any fun h => h.2.retired
  let b2 := s.plc.noSpare || retired || (s.presentActs.any fun a => s.unsafeAct a) || s.nvme.fatalSeen
  BitVec.ofNat 8 (b2n (decide (s.availableSpare < s.p1400SpareWarn)) + 2 * b2n b1 + 4 * b2n b2
    + 8 * b2n (decide (s.sys.mode = .limited)))

/-- A critical warning bit that rises posts a SMART / Health event where it is enabled (R388). -/
def State.updateWarnings (s : State) : State :=
  let w := s.critical
  let risen := w &&& ~~~ s.nvme.warnings
  let s := s.onNvme fun v => { v with warnings := w }
  if risen = 0 then s
  else
    let info := if risen.getLsbD 0 then 2 else if risen.getLsbD 1 then 1 else 0
    foldS (fun c t =>
      if BitVec.ofNat 8 (t.ctrlFeat c 0x0B 0) &&& risen = 0 then t else t.postAen c 1 info)
      s.presentCtrls s

/-! Completion. -/

/-- Namespace Not Ready with a retry delay where the host takes one (R384). -/
def State.notReady (s : State) (c : Fin 2) (crd : Nat) : NvStatus :=
  { code := .nsNotReady, dnr := false, crd := if s.acre c then BitVec.ofNat 2 crd else 0 }

/-- Whether a command needs the media (R382): reads and writes and what changes namespaces; a Flush
only while the cache holds data. -/
def Cmd.needsMedia (k : Cmd) : Bool :=
  match k.need with
  | .nothing => false
  | .media _ => true
  | .data => true
  | .group => true
  | .flush _ => true
  | .erase => true
  | _ => false

/-- Whether any media command is outstanding (R40). -/
def State.mediaBusy (s : State) : Bool := s.nvme.cmds.any Cmd.needsMedia

/-! Withdrawal (R373). -/

/-- The sectors of a read operation that serve other commands. -/
def keepSectors (ns : List Nat) (o : ReadOp) : ReadOp :=
  { o with sectors := o.sectors.filter fun q => match q.cmd with
    | some n => !ns.contains n
    | none => true }

/-- The reads of withdrawn commands end: operations not started lose their sectors, the running one
ends at its sector, and their ladders end. -/
def State.dropReads (ns : List Nat) (s : State) : State :=
  let s := foldS (fun l t => match l.job.req.cmd with
    | some n => if ns.contains n then t.ladderDrop l else t
    | none => t) s.recov.ladders s
  foldS (fun a t => t.onRch a fun r =>
    match r.ops with
    | [] => r
    | o :: rest =>
      let front := { o with
        sectors := o.sectors.take (r.opIndex + b2n r.now.isSome)
          ++ (keepSectors ns { o with
                sectors := o.sectors.drop (r.opIndex + b2n r.now.isSome) }).sectors }
      let rest := (rest.map (keepSectors ns)).filter fun o => !o.sectors.isEmpty
      if front.sectors.length ≤ r.opIndex then { r with ops := rest, opIndex := 0 }
      else { r with ops := front :: rest }) s.presentActs s

/-- The write operation of a chunk ends as an interruption, or leaves its queue (R373, 09 R282). -/
def State.dropWrite (opId : BitVec 32) (s : State) : State :=
  foldS (fun a t =>
    match (t.act a).wp.ops with
    | [] => t
    | o :: r =>
      if o.op.opId = opId then (t.wpCut a 0).wpEnd a (some 0)
      else if r.any fun x => x.op.opId == opId then
        (t.onWp a fun w => { w with ops := o :: r.filter fun x => x.op.opId != opId })
          |>.chunkEnd opId false
      else t) s.presentActs s

/-- The writes of withdrawn commands are undone: their groups are never formed and their data in the
buffer is discarded (R373). -/
def State.dropWrites (ns : List Nat) (s : State) : State :=
  let open' := s.plc.chunks.filter fun c => ns.contains c.cmd && !c.written
  let s := foldS (fun c t => t.dropWrite c.opId) open' s
  let s := s.onPlc fun p => { p with chunks := p.chunks.filter fun c => !ns.contains c.cmd }
  (s.onBuf fun b => { b with
    pages := b.pages.filterMap fun p =>
      if p.cids.any fun n => ns.contains n then
        let rest := p.cids.filter fun n => !ns.contains n
        if rest.isEmpty then none else some { p with cids := rest }
      else some p }).dirtyCheck

/-- Fetching resumes from the queues as they stand; a shutdown keeps it stopped (R375, R379). -/
def State.resumeFetch (s : State) : State :=
  foldS (fun c t => t.onCtrl c fun k => { k with fetchStopped := decide (k.shst ≠ 0) }) s.presentCtrls s

/-- An activation whose Firmware Commit is withdrawn ends: the slot stays marked (21 R559). -/
def State.activationLost (ns : List Nat) (s : State) : State :=
  match s.nvme.activation with
  | some a =>
    if ns.contains a.cmd then (s.onNvme fun v => { v with activation := none }).resumeFetch else s
  | none => s

/-- Whether a command is still to be completed; an Asynchronous Event Request is not. -/
def Cmd.open (k : Cmd) : Bool := decide (k.need ≠ .aer)

/-- The commands in flight during an activation: all but its Firmware Commit and Asynchronous Event
Requests. -/
def State.inFlight (s : State) (a : Activation) : Nat :=
  s.nvme.cmds.countP fun k => k.n != a.cmd && k.open

/-- Step 3 of R379 begins once every fetched command has completed within 1,000 ms of the fetch of the
Firmware Commit. -/
def State.activationPump (s : State) : State :=
  match s.nvme.activation with
  | some a =>
    if a.drained.isNone && s.inFlight a = 0 && decide (s.since a.since ≤ 1000 * msTicks) then
      s.onNvme fun v => { v with activation := some { a with drained := some s.now } }
    else s
  | none => s

/-- Commands are withdrawn (R373): no completion entry, event 49 of the controller with their count. -/
def State.withdraw (c : Fin 2) (p : Cmd → Bool) (s : State) : State :=
  let ns := (s.nvme.cmds.filter p).map fun k => k.n
  let s := s.onNvme fun v => { v with cmds := v.cmds.filter fun k => !p k }
  let s := (((s.dropReads ns).dropWrites ns).activationLost ns).activationPump
  (s.count 0x103002 ns.length).event (epHost c) 49 ns.length

/-- The commands of a controller are withdrawn, and its asynchronous events with them. -/
def State.withdrawCtrl (c : Fin 2) (s : State) : State :=
  let s := s.withdraw c fun k => decide (k.ctrl = c)
  s.onNvme fun v => { v with aens := v.aens.filter fun e => decide (e.ctrl ≠ c) }

/-- The image in a slot; slot 1 always holds the factory image (R378). -/
def State.fwSlot? (s : State) (n : Nat) : Option FwSlot :=
  match Tab.get? s.nvme.slots n with
  | some x => some x
  | none => if n = 1 then some { guests := false, verifies := true, rev := 0 } else none

/-- The slot that waits for the next reset becomes active (R378): one that changes guest images waits
for a chip reset, which boots from the mark (02 R44). -/
def State.activateNext (chip : Bool) (s : State) : State :=
  match s.nvme.nextSlot with
  | none => s
  | some n =>
    if chip then s.onNvme fun v => { v with nextSlot := none }
    else if (s.fwSlot? n).any fun x => x.guests then s
    else (s.onNvme fun v => { v with nextSlot := none }).onSys fun y => { y with
      imageSlot := some ⟨n % 4, by omega⟩ }

/-- The registers and queues of a controller as a reset leaves them (R373, R375). -/
def State.resetCtrl (c : Fin 2) (s : State) : State :=
  let s := (s.withdrawCtrl c).onCtrl c fun k => { Ctrl.reset with resets := k.resets + 1 }
  s.activateNext false

/-- CSTS.SHST of every controller. -/
def State.setShst (v : BitVec 2) (s : State) : State :=
  foldS (fun c t => t.onCtrl c fun k => { k with shst := v }) s.presentCtrls s

/-- Fetching stops on every controller. -/
def State.stopFetch (s : State) : State :=
  foldS (fun c t => t.onCtrl c fun k => { k with fetchStopped := true }) s.presentCtrls s

end Sys2Proof.Machine
end

