-- ==== Sys2Proof/Machine/Yearbook.lean ====
section
/-! DEFINITION. The Yearbook (17): records, the queue and the NOR ring, mirrors, clearing, the wall
clock and snapshots, and the commands of its window. -/

namespace Sys2Proof.Machine

open Sys2Proof

/-- The 64 bytes of a record (R479). -/
def YbRec.bytes (r : YbRec) : List Byte :=
  let b := leBytes 6 r.seq.toNat ++ leBytes 8 r.pot.toNat ++ leBytes 8 r.wall.toNat
    ++ leBytes 2 r.ty.toNat ++ [r.len, r.flags] ++ padTo 32 0 r.payload
  b ++ beBytes 4 (crc32 b) ++ [0x5A, 0xA5]

/-- The record with a SEQ, queued or programmed (R488). -/
def State.ybRec? (s : State) (n : BitVec 48) : Option YbRec := s.yb.recs.find? fun r => r.seq == n

/-- Records queued (YB_STATUS.DEPTH). -/
def State.ybDepth (s : State) : Nat := s.yb.recs.countP fun r => r.slot.isNone

/-- The time the wall clock shows, in ns; 0 when not set (R479, R482). -/
def State.wallNow (s : State) : BitVec 64 :=
  if s.yb.wallSet then s.yb.wallBase + (s.now - s.yb.wallAt) * 5 else 0

/-- A record as it is appended now (R479). -/
def State.ybMake (s : State) (ty : Nat) (payload : List Byte) (injected : Bool) : YbRec :=
  { seq := s.yb.nextSeq, pot := BitVec.ofNat 64 (usOf s.now), wall := s.wallNow
    ty := BitVec.ofNat 16 ty, len := BitVec.ofNat 8 (min 32 payload.length)
    flags := BitVec.ofNat 8 (b2n s.yb.wallSet + 2 * b2n injected + 4 * b2n s.yb.wallBack)
    payload := payload.take 32, slot := none, queuedAt := s.now }

/-- A record enters the queue with the next SEQ (R481, R483). -/
def State.ybPut (r : YbRec) (s : State) : State :=
  s.onYb fun y => { y with recs := y.recs ++ [r], nextSeq := y.nextSeq + 1 }

/-- A resident append: refused and counted when the queue is full (R484). -/
def State.ybAppendInj (ty : Nat) (payload : List Byte) (injected : Bool) (s : State) : State :=
  if 256 ≤ s.ybDepth then
    (s.onYb fun y => { y with
      dropped := y.dropped + 1, firstLost := if y.dropped = 0 then y.nextSeq else y.firstLost })
      |>.count 0x610008 1
  else s.ybPut (s.ybMake ty payload injected)

/-- A resident append of a record that no injected fault caused. -/
def State.ybAppend (ty : Nat) (payload : List Byte) (s : State) : State :=
  s.ybAppendInj ty payload false

/-- When the queue has fallen below 128, the refusals since are recorded (R484). -/
def State.ybDropped (s : State) : State :=
  if decide (0 < s.yb.dropped) && decide (s.ybDepth < 128) then
    let n := s.yb.dropped
    let s := s.ybAppend 0x000E (leBytes 4 n ++ leBytes 6 s.yb.firstLost.toNat)
    (s.onYb fun y => { y with dropped := 0 }).event epYearbook 297 n
  else s

/-- The write point enters a sector of the ring: the next sector is erased, and the records it held
are gone (R486). -/
def State.ybErase (sector : Nat) (s : State) : State :=
  let gone : YbRec → Bool := fun r =>
    match r.slot with
    | some k => k / 1024 == sector % 64
    | none => false
  if s.yb.recs.any gone then
    let rest := s.yb.recs.filter fun r => !gone r
    let first := match rest with
      | r :: _ => r.seq
      | [] => s.yb.nextSeq
    (s.onYb fun y => { y with recs := rest, firstSeq := first })
      |>.event epYearbook 296 (first.toNat % 2 ^ 32)
  else s

/-- The NOR offset of a ring slot, divided by 64 (R486, R497). -/
def ringOffset (slot : Nat) : Nat := 0xF0000 + slot

/-- The sector ahead of the write point is erased; where that fails, event 303, and the one after it takes its
place (R486, R497, log 78). -/
def State.ybAhead (erased : Bool) (s : State) : State :=
  let k := (s.yb.wp / 1024 + 1) % 64
  if erased then s.ybErase k
  else
    ((s.onYb fun y => { y with skip := k :: y.skip }).event epYearbook 303 (ringOffset (1024 * k)))
      |>.ybErase k |>.ybErase (k + 1)

/-- The slot after a slot: a sector whose erase failed is passed over. -/
def Yb.nextSlot (y : Yb) : Nat :=
  let n := (y.wp + 1) % 65536
  if n % 1024 = 0 && y.skip.contains (n / 1024) then (n + 1024) % 65536 else n

/-- The write point moves on one slot. -/
def State.ybAdvance (erased : Bool) (s : State) : State :=
  let s := if s.yb.wp % 1024 = 0 then s.ybAhead erased else s
  s.onYb fun y => { y with
    wp := y.nextSlot
    skip := if y.nextSlot % 1024 = 0 then y.skip.filter fun k => k != (y.wp / 1024 + 1) % 64 else y.skip }

/-- One record is programmed into the slot at the write point (R483, R486, R487). -/
def State.ybProgramSeq (erased : Bool) (n : BitVec 48) (s : State) : State :=
  let k := s.yb.wp
  let s := s.ybAdvance erased
  s.onYb fun y => { y with
    recs := y.recs.map fun r => if r.seq = n then { r with slot := some k } else r }

/-- The oldest queued record. -/
def State.ybOldest (s : State) : Option YbRec := s.yb.recs.find? fun r => r.slot.isNone

/-- The oldest queued record is programmed, or its program fails and the next slot is taken
(R483, R497). -/
def State.ybProgram (ok erased : Bool) (s : State) : State :=
  match s.ybOldest with
  | none => s
  | some r =>
    if ok then (s.ybProgramSeq erased r.seq).ybDropped
    else (s.ybAdvance erased).event epYearbook 303 (ringOffset s.yb.wp)

/-- A record is appended and programmed ahead of the queue (R487, R492). -/
def State.ybAppendNow (ty : Nat) (payload : List Byte) (s : State) : State :=
  let r := s.ybMake ty payload false
  (s.ybPut r).ybProgramSeq true r.seq

/-- The Yearbook is cleared (R492): the cleared record becomes the first. -/
def State.ybClear (role sender : Nat) (s : State) : State :=
  let n := s.yb.nextSeq
  let s := s.ybAppendNow 0x000A
    (leBytes 6 s.yb.firstSeq.toNat ++ leBytes 1 role ++ leBytes 2 sender)
  let s := s.onYb fun y => { y with
    firstSeq := n, recs := y.recs.filter fun r => decide (n ≤ r.seq)
    mirrored := Four.all [] }
  (s.count 0x61000A 1).event epYearbook 298 (n.toNat % 2 ^ 32)

/-- The wall clock is set (R482): source 1 NVMe Timestamp, 2 dictionary. -/
def State.setWall (t : BitVec 64) (source : Nat) (s : State) : State :=
  let old := s.wallNow
  let back := s.yb.wallSet && decide (t < old)
  let s := s.onYb fun y => { y with
    wallSet := true, wallBase := t, wallAt := s.now, wallSource := BitVec.ofNat 8 source
    wallBack := back }
  (s.ybAppend 0x0009 (leBytes 8 old.toNat ++ leBytes 8 t.toNat ++ leBytes 1 source))
    |>.event epYearbook 299 (b2n back + 2 * source)

/-- A telemetry snapshot is taken (R493). -/
def State.ybSnapshot (ctrl : Bool) (s : State) : State :=
  let x : Snapshot := { hist := s.hm.hist, recs := s.yb.recs }
  (s.onYb fun y => if ctrl then { y with snapCtrl := some x } else { y with snapHost := some x })
    |>.event epYearbook 302 (b2n ctrl)

/-! Mirrors (R490). -/

/-- Whether every SEQ of a mirror sector is programmed or was skipped. -/
def State.mirrorReady (s : State) (first : Nat) : Bool :=
  decide (first + 64 ≤ s.yb.nextSeq.toNat || s.sys.shutKind.isSome)
    && s.yb.recs.all fun r => r.slot.isSome || !(r.seq.toNat / 64 * 64 == first)

/-- The first mirror sector an actuator lacks. -/
def State.mirrorNext (s : State) (a : Fin 4) : Option Nat :=
  (s.yb.recs.map fun r => r.seq.toNat / 64 * 64).find? fun f =>
    !(s.yb.mirrored.get a).contains f && s.mirrorReady f

/-- Programmed records that some present mirror lacks (OD 0x6100.07). -/
def State.mirrorLag (s : State) : Nat :=
  s.yb.recs.countP fun r => r.slot.isSome
    && s.presentActs.any fun a => !(s.yb.mirrored.get a).contains (r.seq.toNat / 64 * 64)

/-- Copies that hold every sector that is ready. -/
def State.mirrorCurrent (s : State) : Nat := s.presentActs.countP fun a => (s.mirrorNext a).isNone

/-- Whether mirror writes are obligatory: more than 4,096 records wait for one, the last was 10 min ago, or
an orderly shutdown writes the last sector (R490, 02 R53). -/
def State.mirrorDue (s : State) : Bool :=
  decide (4096 < s.mirrorLag) || decide (600 * secTicks ≤ s.since s.yb.mirrorAt) || s.sys.shutKind.isSome

/-- YB_MIRROR_WRITE: one mirror sector of an actuator's system area; an optional one in SERVICE, where
optional background is allowed (R490). -/
def execYbMirrorWrite (a : Fin 4) (s : State) : Eff :=
  .next (
    if s.usable a && s.sys.mapRestored && decide (s.sys.mode ≠ .limited)
        && (s.mirrorDue || (s.optionalMay && decide (s.sys.mode = .service))) then
      match s.mirrorNext a with
      | none => s
      | some f =>
        let s := s.onYb fun y => { y with
          mirrored := y.mirrored.set a (y.mirrored.get a ++ [f]), mirrorAt := s.now }
        if (s.mirrorNext a).isNone then s.event epResident 300 s.mirrorCurrent else s
    else s)

/-! The window. -/

/-- The bank of an initiator (R488). -/
def bankOf : YbWho → Nat
  | .principal c => c.val
  | .housekeeping => 4
  | .actuator a => 5 + a.val

/-- A bank's registers. -/
def State.ybBank (s : State) (n : Nat) : YbBank := Tab.getD s.yb.banks n YbBank.reset

/-- A bank's registers replaced. -/
def State.onBank (n : Nat) (f : YbBank → YbBank) (s : State) : State :=
  s.onYb fun y => { y with banks := Tab.put y.banks n (f (Tab.getD y.banks n YbBank.reset)) YbBank.reset }

/-- Whether a type lies within an initiator's rights (01 R8, R480). -/
def ybMay (who : YbWho) (t : Nat) : Bool :=
  match who with
  | .actuator a => decide (0x8000 + 0x1000 * a.val ≤ t) && decide (t ≤ 0x8FFF + 0x1000 * a.val)
  | _ => (decide (1 ≤ t) && decide (t ≤ 0x0E)) || decide (t = 0xFE)
      || (decide (0x100 ≤ t) && decide (t ≤ 0xBFFF))

/-- A flag of YB_FLAGS set and the append refused. -/
def State.ybRefuse (n flag : Nat) (s : State) : State :=
  s.onBank n fun b => { b with flags := setBit b.flags flag true, ok := false }

/-- The guest rate of the present aligned second (R485): records appended in it. -/
def State.guestCount (s : State) (a : Fin 4) : Nat :=
  let g := s.yb.guestRate.get a
  if g.1 = s.ticks / secTicks then g.2 else 0

/-- YB_APPEND: YB_APP_CTL written with GO (R483 to R485, R495). -/
def execYbAppend (bank : YbWho) (type : BitVec 16) (len : BitVec 6) (s : State) : Eff :=
  let n := (bankOf bank)
  let s := s.onBank n fun b => { b with ty := type, len := len }
  let words := (s.ybBank n).app
  let pay := ((List.range 8).flatMap fun (i : Nat) => leBytes 4 (Tab.getD words i 0).toNat).take len.toNat
  .next (
    if 32 < len.toNat then s.ybRefuse n 0
    else if !ybMay bank type.toNat then s.ybRefuse n 2
    else
      let seq := s.yb.nextSeq
      let took : State → State := fun t => t.onBank n fun b => { b with ok := true, appSeq := seq }
      match bank with
      | .actuator a =>
        if s.odNat 0x61000C 64 ≤ s.guestCount a then s.ybRefuse n 3
        else if 256 ≤ s.ybDepth then s.ybRefuse n 1
        else
          let c := s.guestCount a
          let s := s.onYb fun y => { y with guestRate := y.guestRate.set a (s.ticks / secTicks, c + 1) }
          took (s.ybAppend type.toNat pay)
      | _ =>
        if 256 ≤ s.ybDepth then (s.ybAppend type.toNat pay).ybRefuse n 1
        else took (s.ybAppend type.toNat pay))

/-- The cursor moved (R495). -/
def State.moveCursor (who : YbWho) (f : BitVec 48 → BitVec 48) (s : State) : State :=
  s.onBank (bankOf who) fun b => { b with cur := f b.cur }

/-- YB_CURSOR_NEXT (R495). -/
def execYbCursorNext (bank : YbWho) (s : State) : Eff := .next (s.moveCursor bank fun c => c + 1)

/-- YB_CURSOR_PREV: not below 0 (R495). -/
def execYbCursorPrev (bank : YbWho) (s : State) : Eff :=
  .next (s.moveCursor bank fun c => if c = 0 then 0 else c - 1)

/-- YB_CURSOR_TO_FIRST (R495). -/
def execYbCursorToFirst (bank : YbWho) (s : State) : Eff :=
  .next (s.moveCursor bank fun _ => s.yb.firstSeq)

/-- YB_CURSOR_TO_LAST (R495). -/
def execYbCursorToLast (bank : YbWho) (s : State) : Eff :=
  .next (s.moveCursor bank fun _ => s.yb.nextSeq - 1)

/-- YB_PROGRAM (R483). -/
def execYbProgram (out : FlashOutcome) (s : State) : Eff :=
  .next (s.ybProgram out.programmed out.erased)

/-- YB_FORCE_PROGRAM: a record queued for 10 s is programmed whatever the grant (R483). -/
def execYbForceProgram (out : FlashOutcome) (s : State) : Eff :=
  .next (match s.ybOldest with
    | some r => if 10 * secTicks ≤ s.since r.queuedAt then s.ybProgram out.programmed out.erased else s
    | none => s)

end Sys2Proof.Machine
end

