-- ==== Sys2Proof/Machine/HallOps.lean ====
section
/-! DEFINITION. The registers of the Hall Monitor (16): the default class of every source, window
counters, the history, ERROR_OUT and the lasting flags. -/

namespace Sys2Proof.Machine

open Sys2Proof

/-- The sources whose default class is fatal, in the fault tables of the chapters. -/
def fatalSources : List Nat := [1, 2, 3, 4, 5, 6, 22, 30, 61, 63, 74, 81, 147]

/-- The sources whose default class is uncorrected-contained, actuators apart. -/
def containedSources : List Nat :=
  [7, 8, 9, 10, 17, 18, 20, 21, 25, 28, 31, 33, 35, 37, 39, 40, 41, 42, 43, 44, 45, 49, 50, 53, 59,
   60, 62, 64, 65]
  ++ [67, 68, 73, 76, 80, 83, 84, 136, 137, 140, 143, 145, 146, 148, 149, 150, 154, 155]

/-- The offsets of an actuator's sources whose default class is uncorrected-contained. -/
def containedOffsets : List Nat := [3, 4, 6, 7, 11]

/-- The default class of a source: 0 corrected, 1 uncorrected-contained, 2 fatal. A source no table
gives a class counts as corrected (log 44). -/
def defaultClass (n : Nat) : Nat :=
  if 88 ≤ n && n ≤ 135 then b2n (containedOffsets.contains ((n - 88) % 12))
  else if fatalSources.contains n then 2
  else b2n (containedSources.contains n)

/-- HM_SRC_CFG at reset (R461, R475). -/
def defaultCfg (n : Nat) : BitVec 32 :=
  match defaultClass n with
  | 0 => 0x20000100
  | 1 => 0x51000101
  | _ => 0x72003030

/-- HM_SRC_WIN at reset (R461, R475). -/
def defaultWin (n : Nat) : BitVec 32 :=
  match defaultClass n with
  | 0 => BitVec.ofNat 32 (16 * 2 ^ 24 + 360000)
  | 1 => BitVec.ofNat 32 (4 * 2 ^ 24 + 8640000)
  | _ => BitVec.ofNat 32 (2 ^ 24 + 1)

/-- A source's registers at reset. -/
def hmSrcReset (n : Nat) : HmSrc :=
  { cfg := defaultCfg n, win := defaultWin n, lasting := false, irq := false, pending := false
    kind := 0, buckets := [], count := 0 }

/-- A source's registers. -/
def State.hmSrc (s : State) (n : Nat) : HmSrc := Tab.getD s.hm.srcs n (hmSrcReset n)

/-- A source's registers replaced. -/
def State.onHmSrc (n : Nat) (f : HmSrc → HmSrc) (s : State) : State :=
  s.onHm fun h => { h with
    srcs := Tab.put h.srcs n (f (Tab.getD h.srcs n (hmSrcReset n))) (hmSrcReset n) }

/-- The actuator a source number is of, among 88 to 135 (R458). -/
def srcActuator (n : Nat) : Option (Fin 4) :=
  if 88 ≤ n && n ≤ 135 then some ⟨(n - 88) / 12 % 4, by omega⟩ else none

/-- The actuator a fault belongs to, by source and kind (02 R568). `addr` names the domain of source
149. -/
def faultActuator (n kind addr : Nat) : Option (Fin 4) :=
  let at' (k : Nat) : Option (Fin 4) := if h : k < 4 then some ⟨k, h⟩ else none
  match srcActuator n with
  | some a => some a
  | none =>
    if [4, 5, 7, 29, 138, 139, 141, 143, 156, 36, 37].contains n then at' kind
    else if n = 34 || n = 35 then (if 8 ≤ kind then at' (kind - 8) else none)
    else if n = 144 || n = 145 then (if 5 ≤ kind then at' (kind - 5) else none)
    else if n = 149 then
      if 20 ≤ addr && addr ≤ 27 then at' ((addr - 20) % 4) else none
    else none

/-- Whether a source belongs to a unit the tier lacks (00 R3). -/
def State.srcAbsent (s : State) (n : Nat) : Bool :=
  match srcActuator n with
  | some a => !s.present a
  | none => decide (56 ≤ n) && decide (n ≤ 63) && !s.hasCipher

/-- The sources that never become pending in stepping A1 (02 R65, 04 R132, 13 R418, 15 R456, 16 R458). -/
def srcNever (n : Nat) : Bool :=
  (decide (11 ≤ n) && decide (n ≤ 15)) || decide (n = 27) || (decide (69 ≤ n) && decide (n ≤ 71))
    || decide (n = 86) || decide (n = 87)

/-- Effective severity (R459). -/
def State.severity (s : State) (n : Nat) : Nat :=
  let c := (s.hmSrc n).cfg.toNat
  if s.hm.sevMode then fld c 28 3
  else match fld c 24 2 with
    | 0 => 2
    | 1 => 5
    | _ => 7

/-- The width of a bucket in ticks: an eighth of WINDOW, in 10 ms units; 0 acts as 1 (R460, R475). -/
def bucketTicks (win : BitVec 32) : Nat := max 1 (fld win.toNat 0 24) * 10 * msTicks / 8

/-- WCOUNT at a chip time: the present bucket and the seven before it (R460). -/
def HmSrc.wcount (x : HmSrc) (t : Nat) : Nat :=
  let b := t / bucketTicks x.win
  min 255 ((x.buckets.filter fun k => decide (b < k.1 + 8)).foldl (fun n k => n + k.2) 0)

/-- One more report in the present bucket (R460). -/
def HmSrc.countIn (x : HmSrc) (t : Nat) : HmSrc :=
  let b := t / bucketTicks x.win
  let live := x.buckets.filter fun k => decide (b < k.1 + 8)
  match live with
  | (k, n) :: r => if k = b then { x with buckets := (b, n + 1) :: r }
    else { x with buckets := (b, 1) :: live }
  | [] => { x with buckets := [(b, 1)] }

/-- The 32 bytes of a history entry (R467). -/
def HistEntry.bytes (e : HistEntry) : List Byte :=
  leBytes 8 e.tSrc.toNat ++ leBytes 8 e.tIn.toNat ++ leBytes 6 e.addr.toNat
    ++ [e.source, e.kindSev] ++ leBytes 4 e.seq.toNat
    ++ leBytes 1 e.react.toNat ++ leBytes 1 (b2n e.simul + 2 * b2n e.injected) ++ [0, 0]

/-- The fault record of the Yearbook for a history entry (17 R480). -/
def HistEntry.record (e : HistEntry) : List Byte := e.bytes

/-! ERROR_OUT (R468). -/

/-- Whether ERROR_OUT is asserted. -/
def State.errorOut (s : State) : Bool := s.hm.eoHold || s.hm.eoTimer

/-- ERROR_OUT is asserted by a source, 0xFF for FORCE: HOLD is set and the timer restarts at WIDTH. -/
def State.eoAssert (source : Nat) (s : State) : State :=
  let was := s.errorOut
  let s := s.onHm fun h => { h with
    eoHold := true, eoTimer := true, eoEnds := s.inTicks (h.eoWidth.toNat * usTicks)
    eoSince := if was then h.eoSince else s.now }
  if was then s else s.event epMonitor 285 source

/-- ERROR_OUT goes where neither HOLD nor the timer holds it any more: event 286. -/
def State.eoRelease (was : Bool) (s : State) : State :=
  if was && !s.errorOut then s.event epMonitor 286 (s.since s.hm.eoSince / usTicks) else s

/-- HOLD cleared by software. -/
def State.eoClearHold (s : State) : State :=
  let was := s.errorOut
  (s.onHm fun h => { h with eoHold := false }).eoRelease was

/-- LASTING of a source cleared by software: event 282 (R460). -/
def State.clearLasting (n : Nat) (s : State) : State :=
  if (s.hmSrc n).lasting then
    (s.onHmSrc n fun x => { x with lasting := false }).event epMonitor 282 n
  else s

/-! The history (R466). -/

/-- A report enters the history: slot 0 first and then the ring, and the Yearbook. -/
def State.histPut (e : HistEntry) (s : State) : State :=
  let first := (Tab.get? s.hm.hist 0).isNone
  let slot := if first then 0 else s.hm.histNext
  let n := e.source.toNat
  let c := Tab.getD s.hm.minute n 0 + 1
  let s := s.onHm fun h => { h with
    hist := Tab.set h.hist slot e
    histNext := if first then h.histNext else if h.histNext = 15 then 1 else h.histNext + 1
    minute := Tab.set h.minute n c }
  let s := s.event epMonitor 280 (n * 256 + fld e.kindSev.toNat 4 4)
  let s := if first then s.event epMonitor 283 n else s
  if c ≤ 16 then s.ybAppendInj 0x0006 e.record e.injected else s

/-- All slots emptied (R466): event 284. -/
def State.histClear (s : State) : State :=
  let n := s.hm.hist.length
  (s.onHm fun h => { h with hist := [], histNext := 1 }).event epMonitor 284 n

end Sys2Proof.Machine
end

