-- ==== Sys2Proof/Machine/OdTable.lean ====
section
/-! DEFINITION. The objects of the dictionary, row by row from the tables of the spec (03 R66 to
R70, R92 to R94 and the object tables of the other chapters): index, subindexes, type, access, least
role, Saved, default and the fixed bounds of the Meaning column. -/

namespace Sys2Proof.Machine

open Sys2Proof

/-- The object types (R67). -/
inductive OdTy where
  | bool | u8 | u16 | u32 | u64 | i8 | i16 | i32 | i64 | f32 | time64 | string | octets
  deriving DecidableEq, Repr

/-- The access modes (R68). -/
inductive OdAcc where
  | ro | rw | wo | const
  deriving DecidableEq, Repr

/-- Which indexes a row stands for: its own, one per actuator 0x100 apart, one per actuator in
succession (0x1480), or one per locking range in succession (0x5120). -/
inductive OdPer where
  | one | act | layout | range
  deriving DecidableEq, Repr

/-- A row of an object table: index, first subindex and how many follow on, type, size in bytes of
an octet string or the longest string, access, least role (1 Visitor, 2 Teacher, 3 Principal),
Saved, default as the bits of the type (none where the column gives no number), and the bounds its Meaning states without reference to
another object. -/
structure OdRow where
  idx : Nat
  sub : Nat
  n : Nat
  per : OdPer
  ty : OdTy
  size : Nat
  acc : OdAcc
  role : Nat
  saved : Bool
  dflt : Option Nat
  lo : Option Int
  hi : Option Int
  deriving DecidableEq, Repr

/-- Objects of 00_scope.md. -/
def odRows00a : List OdRow := [
  ⟨0x0110, 0x01, 1, .one, .u8, 1, .const, 1, false, none, none, none⟩,
  ⟨0x0110, 0x02, 1, .one, .u8, 1, .const, 1, false, none, none, none⟩,
  ⟨0x0110, 0x03, 1, .one, .bool, 1, .const, 1, false, none, some 0, some 1⟩,
  ⟨0x0110, 0x04, 1, .one, .u8, 1, .const, 1, false, none, none, none⟩,
  ⟨0x0110, 0x05, 1, .one, .u8, 1, .const, 1, false, none, none, none⟩]

/-- Objects of 02_modes_and_bringup.md. -/
def odRows02a : List OdRow := [
  ⟨0x0200, 0x01, 1, .one, .u8, 1, .ro, 1, false, none, none, none⟩,
  ⟨0x0200, 0x02, 1, .one, .u8, 1, .rw, 2, true, some 3, some 3, some 5⟩,
  ⟨0x0200, 0x03, 1, .one, .u16, 2, .ro, 1, false, some 0, none, none⟩,
  ⟨0x0200, 0x04, 1, .one, .u32, 4, .rw, 2, true, some 5000, some 100, some 3600000⟩,
  ⟨0x0200, 0x05, 1, .one, .u16, 2, .rw, 2, true, some 4800, some 3600, none⟩,
  ⟨0x0200, 0x06, 1, .one, .time64, 8, .ro, 1, false, none, none, none⟩,
  ⟨0x0200, 0x07, 1, .one, .u32, 4, .rw, 2, true, some 90, some 10, some 600⟩,
  ⟨0x0200, 0x08, 1, .one, .u8, 1, .ro, 1, false, some 0, none, none⟩,
  ⟨0x0201, 0x01, 7, .one, .time64, 8, .ro, 1, false, none, none, none⟩,
  ⟨0x0202, 0x01, 1, .one, .u32, 4, .ro, 1, true, some 0, none, none⟩,
  ⟨0x0202, 0x02, 1, .one, .u16, 2, .ro, 1, true, some 0, none, none⟩,
  ⟨0x0202, 0x03, 1, .one, .u8, 1, .ro, 1, true, some 0, none, none⟩,
  ⟨0x0202, 0x04, 1, .one, .bool, 1, .rw, 3, true, some 1, some 0, some 1⟩,
  ⟨0x0202, 0x05, 1, .one, .u16, 2, .rw, 3, true, some 10200, some 9600, some 11000⟩,
  ⟨0x0203, 0x01, 1, .one, .u8, 1, .wo, 2, false, none, some 1, some 1⟩,
  ⟨0x0203, 0x02, 1, .one, .u8, 1, .wo, 3, false, none, some 90, some 90⟩]

/-- Objects of 03_object_dictionary.md. -/
def odRows03a : List OdRow := [
  ⟨0x0100, 0x01, 1, .one, .string, 255, .const, 1, false, none, none, none⟩,
  ⟨0x0100, 0x02, 1, .one, .string, 255, .const, 1, false, none, none, none⟩,
  ⟨0x0100, 0x03, 1, .one, .string, 255, .const, 1, false, none, none, none⟩,
  ⟨0x0100, 0x04, 1, .one, .string, 20, .const, 1, false, none, none, none⟩,
  ⟨0x0100, 0x05, 1, .one, .u32, 4, .ro, 1, true, some 0, none, none⟩,
  ⟨0x0100, 0x06, 1, .one, .string, 255, .ro, 1, false, none, none, none⟩,
  ⟨0x0100, 0x07, 1, .one, .u32, 4, .const, 1, false, none, none, none⟩,
  ⟨0x0120, 0x01, 1, .one, .u16, 2, .const, 1, false, some 256, none, none⟩,
  ⟨0x0120, 0x02, 1, .one, .u8, 1, .const, 1, false, some 32, none, none⟩,
  ⟨0x0120, 0x03, 1, .one, .u16, 2, .const, 1, false, some 1024, none, none⟩,
  ⟨0x0120, 0x04, 1, .one, .u16, 2, .const, 1, false, some 1456, none, none⟩,
  ⟨0x0120, 0x05, 1, .one, .u8, 1, .ro, 1, false, none, none, none⟩,
  ⟨0x0210, 0x01, 1, .one, .u32, 4, .ro, 1, true, none, none, none⟩,
  ⟨0x0210, 0x02, 1, .one, .u8, 1, .ro, 1, false, none, none, none⟩,
  ⟨0x0210, 0x03, 1, .one, .time64, 8, .ro, 1, true, some 0, none, none⟩,
  ⟨0x0300, 0x01, 1, .one, .u16, 2, .rw, 3, true, none, some 1, some 65534⟩,
  ⟨0x0300, 0x02, 1, .one, .u8, 1, .ro, 1, false, none, none, none⟩,
  ⟨0x0300, 0x03, 1, .one, .u8, 1, .rw, 2, true, none, some 0, some 254⟩,
  ⟨0x0300, 0x04, 1, .one, .u8, 1, .rw, 2, true, some 8, some 1, some 255⟩,
  ⟨0x0300, 0x05, 1, .one, .bool, 1, .rw, 2, true, some 1, some 0, some 1⟩,
  ⟨0x0300, 0x06, 1, .one, .octets, 6, .const, 1, false, none, none, none⟩,
  ⟨0x0300, 0x07, 1, .one, .u8, 1, .ro, 1, false, none, none, none⟩,
  ⟨0x0300, 0x08, 1, .one, .u32, 4, .ro, 1, false, some 0, none, none⟩,
  ⟨0x0300, 0x09, 1, .one, .u32, 4, .ro, 1, false, some 0, none, none⟩,
  ⟨0x0300, 0x0A, 1, .one, .u8, 1, .ro, 1, false, none, none, none⟩,
  ⟨0x0300, 0x0B, 1, .one, .u8, 1, .ro, 1, false, none, none, none⟩,
  ⟨0x0300, 0x0C, 1, .one, .u8, 1, .rw, 3, true, some 7, some 4, some 7⟩,
  ⟨0x0400, 0x01, 1, .one, .octets, 32, .wo, 3, true, none, none, none⟩,
  ⟨0x0400, 0x02, 1, .one, .octets, 32, .wo, 3, true, none, none, none⟩,
  ⟨0x0400, 0x03, 1, .one, .octets, 32, .wo, 3, true, none, none, none⟩,
  ⟨0x0400, 0x04, 1, .one, .u8, 1, .ro, 1, true, some 0, none, none⟩,
  ⟨0x0400, 0x05, 3, .one, .u32, 4, .ro, 1, true, some 0, none, none⟩,
  ⟨0x0400, 0x08, 1, .one, .bool, 1, .rw, 3, true, some 0, some 0, some 1⟩,
  ⟨0x0400, 0x09, 1, .one, .u8, 1, .ro, 1, false, some 0, none, none⟩,
  ⟨0x0400, 0x0A, 1, .one, .u32, 4, .ro, 2, true, some 0, none, none⟩,
  ⟨0x0400, 0x0B, 1, .one, .u32, 4, .ro, 2, true, some 0, none, none⟩]

/-- Objects of 04_spindle.md. -/
def odRows04a : List OdRow := [
  ⟨0x2000, 0x01, 1, .one, .u8, 1, .ro, 1, false, none, none, none⟩,
  ⟨0x2000, 0x02, 1, .one, .u32, 4, .ro, 1, false, none, none, none⟩,
  ⟨0x2000, 0x03, 1, .one, .u8, 1, .ro, 1, false, none, none, none⟩,
  ⟨0x2000, 0x04, 1, .one, .u16, 2, .ro, 1, false, none, none, none⟩,
  ⟨0x2000, 0x05, 1, .one, .u32, 4, .ro, 1, true, some 0, none, none⟩,
  ⟨0x2000, 0x06, 1, .one, .u32, 4, .ro, 1, true, some 0, none, none⟩,
  ⟨0x2000, 0x07, 1, .one, .u32, 4, .ro, 1, true, some 0, none, none⟩,
  ⟨0x2000, 0x08, 1, .one, .u8, 1, .rw, 3, true, some 0, some 0, some 1⟩,
  ⟨0x2010, 0x01, 1, .one, .u8, 1, .rw, 3, true, some 8, some 4, some 16⟩,
  ⟨0x2010, 0x02, 1, .one, .u16, 2, .rw, 3, true, some 7200, some 3600, some 7500⟩,
  ⟨0x2010, 0x03, 1, .one, .u16, 2, .rw, 3, true, some 5000, some 2500, some 20000⟩,
  ⟨0x2010, 0x04, 1, .one, .u16, 2, .rw, 3, true, some 40, some 10, some 200⟩,
  ⟨0x2010, 0x05, 1, .one, .u16, 2, .rw, 2, true, some 120, some 0, some 300⟩,
  ⟨0x2010, 0x06, 1, .one, .f32, 4, .rw, 2, true, some 1082130432, some 0, some 1101004800⟩,
  ⟨0x2010, 0x07, 1, .one, .u16, 2, .rw, 2, true, some 150, some 20, some 2000⟩,
  ⟨0x2010, 0x08, 1, .one, .u16, 2, .rw, 2, true, some 1200, some 100, some 4000⟩,
  ⟨0x2010, 0x09, 1, .one, .u16, 2, .rw, 2, true, some 400, some 0, some 2000⟩,
  ⟨0x2010, 0x0A, 1, .one, .u16, 2, .rw, 2, true, some 300, some 50, some 2000⟩,
  ⟨0x2010, 0x0B, 1, .one, .u16, 2, .rw, 2, true, some 1500, some 100, some 4000⟩,
  ⟨0x2010, 0x0C, 1, .one, .u16, 2, .rw, 2, true, some 600, none, none⟩,
  ⟨0x2010, 0x0D, 1, .one, .u8, 1, .rw, 2, true, some 16, some 4, some 64⟩,
  ⟨0x2010, 0x0E, 1, .one, .u16, 2, .rw, 2, true, some 25, some 5, some 500⟩,
  ⟨0x2010, 0x0F, 1, .one, .u8, 1, .rw, 2, true, some 4, some 2, some 16⟩,
  ⟨0x2010, 0x10, 1, .one, .u8, 1, .rw, 2, true, some 3, some 0, some 7⟩,
  ⟨0x2010, 0x11, 1, .one, .u16, 2, .rw, 2, true, some 150, some 50, some 1000⟩,
  ⟨0x2010, 0x12, 1, .one, .f32, 4, .rw, 2, true, some 1041865114, some 1008981770, some 1065353216⟩,
  ⟨0x2010, 0x13, 1, .one, .u8, 1, .rw, 2, true, some 4, some 1, some 16⟩,
  ⟨0x2010, 0x14, 1, .one, .u8, 1, .rw, 2, true, some 8, some 0, some 32⟩,
  ⟨0x2010, 0x15, 1, .one, .u16, 2, .rw, 2, true, some 800, some 10, some 2000⟩,
  ⟨0x2010, 0x16, 1, .one, .u16, 2, .rw, 2, true, some 400, some 10, some 2000⟩,
  ⟨0x2010, 0x17, 1, .one, .f32, 4, .rw, 2, true, some 1017370378, none, none⟩,
  ⟨0x2010, 0x18, 1, .one, .f32, 4, .rw, 2, true, some 1056964608, none, none⟩,
  ⟨0x2010, 0x19, 1, .one, .u16, 2, .rw, 2, true, some 2500, some 500, some 4000⟩,
  ⟨0x2010, 0x1A, 1, .one, .u16, 2, .rw, 3, true, some 4000, some 1000, some 8000⟩,
  ⟨0x2010, 0x1B, 1, .one, .u16, 2, .rw, 3, true, some 13800, some 12800, some 14200⟩,
  ⟨0x2010, 0x1C, 1, .one, .u16, 2, .rw, 3, true, some 14500, none, some 15000⟩,
  ⟨0x2010, 0x1D, 1, .one, .u16, 2, .rw, 3, true, some 14000, none, none⟩,
  ⟨0x2010, 0x1E, 1, .one, .u16, 2, .rw, 3, true, some 200, some 50, some 1000⟩,
  ⟨0x2010, 0x1F, 1, .one, .u16, 2, .rw, 3, true, some 15500, none, some 16000⟩,
  ⟨0x2010, 0x20, 1, .one, .u16, 2, .rw, 3, true, some 500, none, none⟩]

/-- Objects of 04_spindle.md. -/
def odRows04b : List OdRow := [
  ⟨0x2010, 0x21, 1, .one, .u16, 2, .rw, 3, true, some 11600, some 10500, some 12000⟩,
  ⟨0x2010, 0x22, 1, .one, .u16, 2, .rw, 2, true, some 50, some 5, some 200⟩,
  ⟨0x2010, 0x23, 1, .one, .u16, 2, .rw, 2, true, some 64, some 16, some 4096⟩,
  ⟨0x2010, 0x24, 1, .one, .u32, 4, .rw, 2, true, some 6553800, none, none⟩,
  ⟨0x2010, 0x25, 1, .one, .u16, 2, .rw, 2, true, some 4000, some 2000, some 20000⟩,
  ⟨0x2010, 0x26, 1, .one, .f32, 4, .rw, 3, true, some 1073741824, none, none⟩,
  ⟨0x2010, 0x27, 1, .one, .f32, 4, .rw, 3, true, some 1084227584, none, none⟩,
  ⟨0x2010, 0x28, 1, .one, .f32, 4, .rw, 3, true, some 1066192077, none, none⟩,
  ⟨0x2010, 0x29, 1, .one, .f32, 4, .rw, 3, true, some 1142292480, none, none⟩,
  ⟨0x2010, 0x2A, 1, .one, .f32, 4, .rw, 3, true, some 1068289229, none, none⟩,
  ⟨0x2010, 0x2B, 1, .one, .u16, 2, .rw, 3, true, some 600, some 256, some 768⟩,
  ⟨0x2040, 0x01, 1, .one, .bool, 1, .rw, 2, true, some 1, some 0, some 1⟩,
  ⟨0x2040, 0x02, 1, .one, .u16, 2, .rw, 2, true, some 4800, some 4800, none⟩,
  ⟨0x2040, 0x03, 1, .one, .u16, 2, .rw, 2, true, some 20, some 1, some 60⟩,
  ⟨0x2040, 0x04, 1, .one, .u16, 2, .rw, 2, true, some 40, some 0, some 60⟩,
  ⟨0x2040, 0x05, 1, .one, .u16, 2, .ro, 1, false, none, none, none⟩]

/-- Objects of 05_actuators_and_position.md. -/
def odRows05a : List OdRow := [
  ⟨0x3400, 0x01, 1, .act, .u8, 1, .ro, 1, false, none, none, none⟩,
  ⟨0x3400, 0x02, 1, .act, .f32, 4, .ro, 1, false, none, none, none⟩,
  ⟨0x3400, 0x03, 1, .act, .u32, 4, .ro, 1, false, none, none, none⟩,
  ⟨0x3400, 0x04, 1, .act, .u16, 2, .rw, 2, true, some 150, none, none⟩,
  ⟨0x3400, 0x05, 1, .act, .u8, 1, .rw, 2, true, some 2, some 0, some 3⟩,
  ⟨0x3400, 0x06, 1, .act, .bool, 1, .rw, 2, true, some 1, some 0, some 1⟩,
  ⟨0x3400, 0x07, 1, .act, .u16, 2, .rw, 2, true, some 50, some 5, some 1000⟩,
  ⟨0x3400, 0x08, 1, .act, .u8, 1, .rw, 2, true, some 16, none, none⟩,
  ⟨0x3400, 0x09, 1, .act, .f32, 4, .rw, 2, true, some 1084227584, some 1056964608, some 1101004800⟩,
  ⟨0x3400, 0x0A, 1, .act, .f32, 4, .rw, 2, true, some 1090519040, some 1056964608, some 1106247680⟩,
  ⟨0x3400, 0x0B, 1, .act, .u16, 2, .rw, 2, true, some 500, some 100, some 5000⟩,
  ⟨0x3400, 0x0C, 1, .act, .u8, 1, .rw, 2, true, some 2, some 0, some 7⟩,
  ⟨0x3400, 0x0D, 1, .act, .u16, 2, .rw, 2, true, some 1024, none, some 4095⟩,
  ⟨0x3400, 0x0E, 1, .act, .u16, 2, .rw, 2, true, some 500, none, none⟩,
  ⟨0x3400, 0x0F, 1, .act, .f32, 4, .rw, 3, true, some 1008981770, none, none⟩,
  ⟨0x3400, 0x10, 1, .act, .f32, 4, .rw, 3, true, some 1011129254, none, none⟩,
  ⟨0x3400, 0x11, 1, .act, .f32, 4, .ro, 1, true, some 1090519040, none, none⟩,
  ⟨0x3400, 0x12, 1, .act, .u32, 4, .ro, 1, true, some 0, none, none⟩,
  ⟨0x3400, 0x13, 1, .act, .u32, 4, .ro, 1, true, some 0, none, none⟩,
  ⟨0x3400, 0x14, 1, .act, .u32, 4, .ro, 1, true, some 0, none, none⟩,
  ⟨0x3400, 0x15, 1, .act, .u16, 2, .rw, 3, true, some 2000, none, none⟩,
  ⟨0x3400, 0x16, 1, .act, .u16, 2, .rw, 3, true, some 12000, none, none⟩,
  ⟨0x3400, 0x17, 1, .act, .u16, 2, .rw, 2, true, some 900, none, none⟩,
  ⟨0x3400, 0x18, 1, .act, .u16, 2, .rw, 3, true, some 4096, some 2048, some 8192⟩,
  ⟨0x3400, 0x19, 1, .act, .u16, 2, .rw, 2, true, some 64, none, none⟩,
  ⟨0x3400, 0x1A, 1, .act, .f32, 4, .rw, 2, true, some 1065353216, some 1056964608, some 1073741824⟩,
  ⟨0x3400, 0x1B, 1, .act, .u16, 2, .rw, 2, true, some 300, none, none⟩,
  ⟨0x3400, 0x1C, 1, .act, .u16, 2, .rw, 2, true, some 2000, some 200, some 10000⟩,
  ⟨0x3400, 0x1D, 1, .act, .f32, 4, .rw, 3, true, some 1028443341, none, none⟩,
  ⟨0x3400, 0x1E, 1, .act, .u8, 1, .rw, 3, true, some 0, some 0, some 1⟩]

/-- Objects of 06_servo_engine.md. -/
def odRows06a : List OdRow := [
  ⟨0x3000, 0x01, 1, .act, .u8, 1, .ro, 1, false, none, none, none⟩,
  ⟨0x3000, 0x02, 1, .act, .u16, 2, .ro, 1, false, none, none, none⟩,
  ⟨0x3000, 0x03, 1, .act, .u16, 2, .ro, 1, false, none, none, none⟩,
  ⟨0x3000, 0x04, 1, .act, .u16, 2, .ro, 1, false, none, none, none⟩,
  ⟨0x3000, 0x05, 1, .act, .u16, 2, .rw, 2, true, some 100, some 0, some 500⟩,
  ⟨0x3000, 0x06, 1, .act, .u8, 1, .rw, 2, true, some 32, some 1, some 255⟩,
  ⟨0x3000, 0x07, 1, .act, .f32, 4, .rw, 2, true, some 1063675494, some 0, some 1065353216⟩,
  ⟨0x3000, 0x08, 1, .act, .u8, 1, .rw, 2, true, some 2, some 0, some 50⟩,
  ⟨0x3000, 0x09, 1, .act, .bool, 1, .rw, 2, true, some 0, some 0, some 1⟩,
  ⟨0x3000, 0x0A, 1, .act, .f32, 4, .rw, 3, true, some 1094713344, some 1086324736, some 1096810496⟩,
  ⟨0x3000, 0x0B, 1, .act, .u8, 1, .rw, 3, true, some 0, some 0, some 1⟩,
  ⟨0x3000, 0x0C, 1, .act, .u16, 2, .rw, 2, true, some 65535, none, none⟩,
  ⟨0x3000, 0x0D, 1, .act, .u32, 4, .ro, 1, true, some 0, none, none⟩,
  ⟨0x3000, 0x0E, 1, .act, .u32, 4, .ro, 1, true, some 0, none, none⟩,
  ⟨0x3000, 0x0F, 1, .act, .u32, 4, .ro, 1, true, some 0, none, none⟩,
  ⟨0x3000, 0x10, 1, .act, .u32, 4, .ro, 1, true, some 0, none, none⟩,
  ⟨0x3000, 0x11, 1, .act, .u32, 4, .ro, 1, true, some 0, none, none⟩,
  ⟨0x3010, 0x01, 1, .act, .f32, 4, .rw, 2, true, some 1251513984, none, none⟩,
  ⟨0x3010, 0x02, 1, .act, .f32, 4, .rw, 2, true, some 1315859240, none, none⟩,
  ⟨0x3010, 0x03, 1, .act, .f32, 4, .rw, 2, true, some 1407767717, none, none⟩,
  ⟨0x3010, 0x04, 1, .act, .f32, 4, .rw, 2, true, some 1259902592, none, none⟩,
  ⟨0x3010, 0x05, 1, .act, .f32, 4, .rw, 2, true, some 1324247848, none, none⟩,
  ⟨0x3010, 0x06, 1, .act, .f32, 4, .rw, 2, true, some 1416156325, none, none⟩,
  ⟨0x3010, 0x07, 1, .act, .f32, 4, .rw, 2, true, some 1264902592, none, none⟩,
  ⟨0x3010, 0x08, 1, .act, .f32, 4, .rw, 2, true, some 1328730206, none, none⟩,
  ⟨0x3010, 0x09, 1, .act, .f32, 4, .rw, 2, true, some 1420730236, none, none⟩,
  ⟨0x3010, 0x0A, 1, .act, .f32, 4, .rw, 2, true, some 1268291200, none, none⟩,
  ⟨0x3010, 0x0B, 1, .act, .f32, 4, .rw, 2, true, some 1332636456, none, none⟩,
  ⟨0x3010, 0x0C, 1, .act, .f32, 4, .rw, 2, true, some 1424544933, none, none⟩,
  ⟨0x3010, 0x0D, 1, .act, .f32, 4, .rw, 2, true, some 1270791200, none, none⟩,
  ⟨0x3010, 0x0E, 1, .act, .f32, 4, .rw, 2, true, some 1335165689, none, none⟩,
  ⟨0x3010, 0x0F, 1, .act, .f32, 4, .rw, 2, true, some 1427211495, none, none⟩,
  ⟨0x3010, 0x10, 1, .act, .f32, 4, .rw, 2, true, some 1273291200, none, none⟩,
  ⟨0x3010, 0x11, 1, .act, .f32, 4, .rw, 2, true, some 1337118814, none, none⟩,
  ⟨0x3010, 0x12, 1, .act, .f32, 4, .rw, 2, true, some 1429118844, none, none⟩,
  ⟨0x3010, 0x13, 1, .act, .f32, 4, .rw, 2, true, some 1275429808, none, none⟩,
  ⟨0x3010, 0x14, 1, .act, .f32, 4, .rw, 2, true, some 1339071939, none, none⟩,
  ⟨0x3010, 0x15, 1, .act, .f32, 4, .rw, 2, true, some 1431026192, none, none⟩,
  ⟨0x3010, 0x16, 1, .act, .f32, 4, .rw, 2, true, some 1276679808, none, none⟩,
  ⟨0x3010, 0x17, 1, .act, .f32, 4, .rw, 2, true, some 1341025064, none, none⟩]

/-- Objects of 06_servo_engine.md. -/
def odRows06b : List OdRow := [
  ⟨0x3010, 0x18, 1, .act, .f32, 4, .rw, 2, true, some 1432933541, none, none⟩,
  ⟨0x3020, 0x01, 1, .act, .u8, 1, .ro, 1, false, none, none, none⟩]

/-- Objects of 07_read_channel.md. -/
def odRows07a : List OdRow := [
  ⟨0x4000, 0x01, 1, .act, .u64, 8, .ro, 1, true, some 0, none, none⟩,
  ⟨0x4000, 0x02, 1, .act, .u64, 8, .ro, 1, true, some 0, none, none⟩,
  ⟨0x4000, 0x03, 1, .act, .f32, 4, .ro, 1, false, none, none, none⟩,
  ⟨0x4000, 0x04, 1, .act, .u64, 8, .ro, 1, true, some 0, none, none⟩,
  ⟨0x4000, 0x05, 1, .act, .u32, 4, .ro, 1, true, some 0, none, none⟩,
  ⟨0x4000, 0x06, 1, .act, .u32, 4, .ro, 1, true, some 0, none, none⟩,
  ⟨0x4000, 0x07, 1, .act, .u32, 4, .ro, 1, true, some 0, none, none⟩,
  ⟨0x4000, 0x08, 1, .act, .u32, 4, .ro, 1, true, some 0, none, none⟩,
  ⟨0x4000, 0x09, 1, .act, .u8, 1, .rw, 2, true, some 2, some 1, some 12⟩,
  ⟨0x4000, 0x0A, 1, .act, .f32, 4, .ro, 1, false, none, none, none⟩,
  ⟨0x4000, 0x0B, 1, .act, .u8, 1, .rw, 2, true, some 3, some 1, some 3⟩,
  ⟨0x4000, 0x0C, 1, .act, .u32, 4, .ro, 1, true, some 0, none, none⟩,
  ⟨0x47F0, 0x01, 1, .one, .u8, 1, .rw, 3, false, some 255, none, none⟩,
  ⟨0x47F0, 0x02, 1, .one, .u8, 1, .rw, 2, true, some 4, some 0, some 7⟩,
  ⟨0x47F0, 0x03, 1, .one, .u8, 1, .rw, 2, true, some 60, some 12, some 60⟩,
  ⟨0x47F0, 0x04, 1, .one, .u64, 8, .ro, 1, true, some 0, none, none⟩,
  ⟨0x47F0, 0x05, 1, .one, .u64, 8, .ro, 1, true, some 0, none, none⟩,
  ⟨0x47F0, 0x06, 1, .one, .u8, 1, .ro, 1, false, none, none, none⟩,
  ⟨0x47F0, 0x07, 1, .one, .u32, 4, .ro, 1, true, some 0, none, none⟩]

/-- Objects of 08_sector_format_and_recovery.md. -/
def odRows08a : List OdRow := [
  ⟨0x4400, 0x01, 1, .one, .u64, 8, .const, 1, false, some 65415044242, none, none⟩,
  ⟨0x4400, 0x02, 1, .one, .u64, 8, .const, 1, false, some 24272561995, none, none⟩,
  ⟨0x4400, 0x03, 1, .one, .u64, 8, .const, 1, false, some 471152729912, none, none⟩,
  ⟨0x4400, 0x04, 1, .one, .u8, 1, .rw, 2, true, some 4, some 0, some 8⟩,
  ⟨0x4400, 0x05, 1, .one, .u8, 1, .rw, 2, true, some 24, some 4, some 64⟩,
  ⟨0x4400, 0x06, 1, .one, .u8, 1, .rw, 2, true, some 8, some 2, some 16⟩,
  ⟨0x4400, 0x07, 1, .one, .u8, 1, .rw, 2, true, some 32, some 16, some 64⟩,
  ⟨0x4400, 0x08, 1, .one, .u16, 2, .const, 1, false, some 18632, none, none⟩,
  ⟨0x4400, 0x09, 1, .one, .u16, 2, .rw, 3, true, some 65535, none, none⟩,
  ⟨0x4400, 0x0A, 1, .one, .u8, 1, .rw, 2, true, some 0, none, none⟩,
  ⟨0x4410, 0x01, 1, .one, .u8, 1, .rw, 2, true, some 20, some 1, some 60⟩,
  ⟨0x4410, 0x02, 1, .one, .u8, 1, .rw, 2, true, some 4, some 0, some 4⟩,
  ⟨0x4410, 0x03, 1, .one, .u8, 1, .rw, 2, true, some 13, some 1, some 64⟩,
  ⟨0x4410, 0x04, 1, .one, .u8, 1, .rw, 2, true, some 2, some 0, some 8⟩,
  ⟨0x4410, 0x05, 1, .one, .u8, 1, .rw, 2, true, some 60, none, none⟩,
  ⟨0x4410, 0x06, 1, .one, .u32, 4, .rw, 2, true, some 3000, some 100, some 30000⟩,
  ⟨0x4410, 0x07, 6, .one, .u64, 8, .ro, 1, true, some 0, none, none⟩,
  ⟨0x4410, 0x0D, 1, .one, .u32, 4, .ro, 1, true, some 0, none, none⟩,
  ⟨0x4410, 0x0E, 1, .one, .u64, 8, .ro, 1, true, some 0, none, none⟩,
  ⟨0x4410, 0x0F, 1, .one, .u64, 8, .ro, 1, true, some 0, none, none⟩,
  ⟨0x4410, 0x10, 1, .one, .u32, 4, .ro, 1, true, some 0, none, none⟩,
  ⟨0x4420, 0x01, 1, .one, .u16, 2, .rw, 2, true, some 720, some 24, some 8760⟩,
  ⟨0x4420, 0x02, 1, .one, .u8, 1, .rw, 2, true, some 2, some 1, some 8⟩,
  ⟨0x4420, 0x03, 1, .one, .u16, 2, .ro, 1, true, some 0, none, none⟩,
  ⟨0x4420, 0x04, 1, .one, .u16, 2, .const, 1, false, some 8192, none, none⟩,
  ⟨0x4420, 0x05, 1, .one, .u16, 2, .rw, 1, false, some 0, none, none⟩,
  ⟨0x4420, 0x06, 1, .one, .octets, 32, .ro, 1, false, none, none, none⟩,
  ⟨0x4420, 0x07, 1, .one, .u32, 4, .ro, 1, true, some 0, none, none⟩,
  ⟨0x4420, 0x08, 1, .one, .u32, 4, .ro, 1, true, some 0, none, none⟩,
  ⟨0x4420, 0x09, 1, .one, .u8, 1, .rw, 2, true, some 3, some 2, some 6⟩]

/-- Objects of 09_write_path_and_preamp.md. -/
def odRows09a : List OdRow := [
  ⟨0x4800, 0x01, 1, .act, .u64, 8, .ro, 1, true, some 0, none, none⟩,
  ⟨0x4800, 0x02, 1, .act, .u32, 4, .ro, 1, true, some 0, none, none⟩,
  ⟨0x4800, 0x03, 1, .act, .u16, 2, .ro, 1, false, none, none, none⟩,
  ⟨0x4800, 0x04, 1, .act, .u16, 2, .rw, 3, true, some 11000, some 10500, some 11800⟩,
  ⟨0x4800, 0x05, 1, .act, .u16, 2, .rw, 3, true, some 13500, some 12400, some 13800⟩,
  ⟨0x4800, 0x06, 1, .act, .u16, 2, .rw, 3, true, some 4600, some 4400, some 4900⟩,
  ⟨0x4800, 0x07, 1, .act, .u16, 2, .rw, 3, true, some 5400, some 5100, some 5600⟩,
  ⟨0x4800, 0x08, 1, .act, .u16, 2, .rw, 2, true, some 50, some 1, some 1000⟩,
  ⟨0x4800, 0x09, 1, .act, .u8, 1, .rw, 2, true, some 3, some 0, some 15⟩,
  ⟨0x4800, 0x0A, 1, .act, .u16, 2, .ro, 1, false, none, none, none⟩,
  ⟨0x4800, 0x0B, 1, .act, .u32, 4, .ro, 1, true, some 0, none, none⟩,
  ⟨0x4800, 0x0C, 1, .act, .u64, 8, .ro, 1, true, some 0, none, none⟩,
  ⟨0x4810, 0x01, 32, .act, .i16, 2, .rw, 3, true, some 0, some (-500), some 500⟩,
  ⟨0x4820, 0x01, 32, .act, .i16, 2, .rw, 3, true, some 0, some (-500), some 500⟩]

/-- Objects of 10_placement.md. -/
def odRows10a : List OdRow := [
  ⟨0x1400, 0x01, 1, .one, .u32, 4, .ro, 1, true, none, none, none⟩,
  ⟨0x1400, 0x02, 1, .one, .u32, 4, .ro, 1, true, none, none, none⟩,
  ⟨0x1400, 0x03, 1, .one, .u32, 4, .ro, 1, true, none, none, none⟩,
  ⟨0x1400, 0x04, 1, .one, .u32, 4, .ro, 1, true, none, none, none⟩,
  ⟨0x1400, 0x05, 1, .one, .u8, 1, .ro, 1, false, some 100, none, none⟩,
  ⟨0x1400, 0x06, 1, .one, .u8, 1, .rw, 2, true, some 10, some 1, some 50⟩,
  ⟨0x1400, 0x07, 1, .one, .u8, 1, .const, 1, false, some 2, none, none⟩,
  ⟨0x1400, 0x08, 1, .one, .u64, 8, .ro, 1, false, none, none, none⟩,
  ⟨0x1400, 0x09, 1, .one, .u8, 1, .ro, 1, false, none, none, none⟩,
  ⟨0x1400, 0x0A, 1, .one, .u32, 4, .ro, 1, false, none, none, none⟩,
  ⟨0x1400, 0x0B, 1, .one, .u32, 4, .rw, 3, true, some 16777216, some 1048576, some 67108864⟩,
  ⟨0x1400, 0x0C, 1, .one, .u16, 2, .rw, 3, true, some 300, some 100, some 1000⟩,
  ⟨0x1410, 0x01, 1, .one, .u8, 1, .rw, 2, true, some 2, some 1, some 4⟩,
  ⟨0x1410, 0x02, 1, .one, .u32, 4, .rw, 2, true, some 65536, some 4096, some 1048576⟩,
  ⟨0x1410, 0x03, 1, .one, .u16, 2, .rw, 2, true, some 0, some 0, some 2000⟩,
  ⟨0x1410, 0x04, 1, .one, .u16, 2, .rw, 2, true, some 20, some 2, some 200⟩,
  ⟨0x1410, 0x05, 1, .one, .u64, 8, .ro, 1, false, none, none, none⟩,
  ⟨0x1410, 0x06, 1, .one, .u64, 8, .ro, 1, false, none, none, none⟩,
  ⟨0x1410, 0x07, 1, .one, .u8, 1, .ro, 1, false, none, none, none⟩,
  ⟨0x1410, 0x08, 1, .one, .u64, 8, .ro, 1, true, some 0, none, none⟩,
  ⟨0x1410, 0x09, 1, .one, .u32, 4, .ro, 1, false, none, none, none⟩,
  ⟨0x1410, 0x0A, 1, .one, .u8, 1, .ro, 1, false, none, none, none⟩,
  ⟨0x1420, 0x01, 1, .one, .u32, 4, .rw, 2, true, some 1048576, some 65536, some 16777216⟩,
  ⟨0x1420, 0x02, 1, .one, .u32, 4, .rw, 2, true, some 2000, none, none⟩,
  ⟨0x1420, 0x03, 1, .one, .u32, 4, .rw, 2, true, some 500, none, none⟩,
  ⟨0x1420, 0x04, 1, .one, .i8, 1, .rw, 2, true, some 55, some 20, some 80⟩,
  ⟨0x1420, 0x05, 1, .one, .u32, 4, .rw, 2, true, some 3000, none, none⟩,
  ⟨0x1420, 0x06, 1, .one, .u8, 1, .rw, 2, true, some 90, none, some 98⟩,
  ⟨0x1420, 0x07, 1, .one, .u8, 1, .rw, 2, true, some 70, some 10, none⟩,
  ⟨0x1420, 0x08, 1, .one, .u16, 2, .rw, 2, true, some 2000, some 100, some 60000⟩,
  ⟨0x1430, 0x01, 1, .one, .bool, 1, .rw, 2, true, some 1, some 0, some 1⟩,
  ⟨0x1430, 0x02, 1, .one, .u16, 2, .rw, 2, true, some 64, some 1, some 1000⟩,
  ⟨0x1430, 0x03, 1, .one, .u16, 2, .rw, 2, true, some 250, some 50, some 900⟩,
  ⟨0x1430, 0x04, 1, .one, .u16, 2, .rw, 2, true, some 24, some 1, some 720⟩,
  ⟨0x1430, 0x05, 1, .one, .u32, 4, .rw, 2, true, some 16, none, none⟩,
  ⟨0x1430, 0x06, 1, .one, .u32, 4, .rw, 2, true, some 256, none, none⟩,
  ⟨0x1430, 0x07, 8, .one, .u64, 8, .ro, 1, true, some 0, none, none⟩,
  ⟨0x1430, 0x0F, 1, .one, .u64, 8, .ro, 1, true, some 0, none, none⟩,
  ⟨0x1430, 0x10, 1, .one, .u8, 1, .ro, 1, false, none, none, none⟩,
  ⟨0x1440, 0x01, 8, .one, .u8, 1, .rw, 2, true, some 255, none, none⟩]

/-- Objects of 10_placement.md. -/
def odRows10b : List OdRow := [
  ⟨0x1470, 0x01, 128, .one, .u8, 1, .ro, 1, true, none, none, none⟩,
  ⟨0x1450, 0x01, 1, .one, .u32, 4, .rw, 1, false, some 0, none, none⟩,
  ⟨0x1450, 0x02, 1, .one, .octets, 16, .ro, 1, false, none, none, none⟩,
  ⟨0x1460, 0x01, 1, .one, .u32, 4, .rw, 1, false, some 0, none, none⟩,
  ⟨0x1460, 0x02, 1, .one, .octets, 32, .ro, 1, false, none, none, none⟩,
  ⟨0x1480, 0x01, 64, .layout, .octets, 16, .rw, 3, true, none, none, none⟩]

/-- Objects of 11_timetable.md. -/
def odRows11a : List OdRow := [
  ⟨0x1800, 0x01, 1, .one, .u16, 2, .rw, 2, true, some 1000, some 250, some 4000⟩,
  ⟨0x1800, 0x02, 1, .one, .u16, 2, .rw, 3, true, some 1800, some 200, some 5000⟩,
  ⟨0x1800, 0x03, 1, .one, .u16, 2, .rw, 3, true, some 2600, none, some 6000⟩,
  ⟨0x1800, 0x04, 1, .one, .u16, 2, .rw, 3, true, some 1200, some 200, some 3000⟩,
  ⟨0x1800, 0x05, 1, .one, .u16, 2, .rw, 3, true, some 1800, none, some 4000⟩,
  ⟨0x1800, 0x06, 1, .one, .u16, 2, .rw, 2, true, some 200, some 0, some 2000⟩,
  ⟨0x1800, 0x07, 1, .one, .u8, 1, .rw, 2, true, some 3, some 1, some 4⟩,
  ⟨0x1800, 0x08, 1, .one, .u16, 2, .rw, 2, true, some 100, some 10, some 10000⟩,
  ⟨0x1810, 0x01, 1, .one, .u32, 4, .rw, 2, true, some 50, some 1, some 60000⟩,
  ⟨0x1810, 0x02, 1, .one, .u32, 4, .rw, 2, true, some 200, none, some 60000⟩,
  ⟨0x1810, 0x03, 1, .one, .u32, 4, .rw, 2, true, some 500, none, some 60000⟩,
  ⟨0x1810, 0x04, 1, .one, .u32, 4, .rw, 2, true, some 2000, none, some 600000⟩,
  ⟨0x1810, 0x05, 1, .one, .u16, 2, .rw, 2, true, some 5, some 0, some 1000⟩,
  ⟨0x1810, 0x06, 1, .one, .f32, 4, .rw, 2, true, some 1073741824, some 0, some 1120403456⟩,
  ⟨0x1810, 0x07, 1, .one, .u16, 2, .rw, 2, true, some 10, some 1, some 1000⟩,
  ⟨0x1810, 0x08, 1, .one, .u32, 4, .rw, 2, true, some 1000, some 0, some 1000000⟩,
  ⟨0x1820, 0x01, 1, .one, .u16, 2, .rw, 3, true, some 200, none, none⟩,
  ⟨0x1820, 0x02, 1, .one, .u16, 2, .rw, 3, true, some 40, none, none⟩,
  ⟨0x1820, 0x03, 1, .one, .u16, 2, .rw, 3, true, some 60, none, none⟩,
  ⟨0x1820, 0x04, 1, .one, .u16, 2, .rw, 3, true, some 30, none, none⟩,
  ⟨0x1820, 0x05, 1, .one, .u16, 2, .rw, 3, true, some 220, none, none⟩,
  ⟨0x1820, 0x06, 1, .one, .u16, 2, .rw, 3, true, some 40, none, none⟩,
  ⟨0x1820, 0x07, 1, .one, .u16, 2, .rw, 3, true, some 380, none, none⟩,
  ⟨0x1820, 0x08, 1, .one, .u16, 2, .rw, 3, true, some 70, none, none⟩,
  ⟨0x1820, 0x09, 1, .one, .u16, 2, .rw, 3, true, some 25, none, none⟩,
  ⟨0x1820, 0x0A, 1, .one, .u16, 2, .rw, 3, true, some 250, none, none⟩,
  ⟨0x1820, 0x0B, 1, .one, .f32, 4, .rw, 3, true, some 1077936128, none, none⟩,
  ⟨0x1820, 0x0C, 1, .one, .u16, 2, .ro, 1, true, some 560, none, none⟩,
  ⟨0x1820, 0x0D, 1, .one, .u16, 2, .ro, 1, true, some 300, none, none⟩,
  ⟨0x1820, 0x0E, 1, .one, .u16, 2, .rw, 3, true, some 300, none, none⟩,
  ⟨0x1830, 0x01, 1, .one, .u8, 1, .rw, 2, true, some 60, none, none⟩,
  ⟨0x1830, 0x02, 1, .one, .u8, 1, .rw, 2, true, some 20, some 0, some 90⟩,
  ⟨0x1830, 0x03, 1, .one, .u16, 2, .rw, 2, true, some 30, some 5, some 3600⟩,
  ⟨0x1830, 0x04, 1, .one, .u16, 2, .rw, 2, true, some 600, some 60, some 2400⟩,
  ⟨0x1830, 0x05, 1, .one, .u16, 2, .rw, 2, true, some 5, some 1, some 600⟩,
  ⟨0x1830, 0x06, 1, .one, .u8, 1, .ro, 1, false, none, none, none⟩,
  ⟨0x1840, 0x01, 1, .one, .i8, 1, .rw, 3, true, some 100, none, none⟩,
  ⟨0x1840, 0x02, 1, .one, .i8, 1, .rw, 3, true, some 110, none, some 112⟩,
  ⟨0x1840, 0x03, 1, .one, .i8, 1, .rw, 2, true, some 55, none, none⟩,
  ⟨0x1840, 0x04, 1, .one, .i8, 1, .rw, 2, true, some 65, none, some 100⟩]

/-- Objects of 11_timetable.md. -/
def odRows11b : List OdRow := [
  ⟨0x1840, 0x05, 1, .one, .i8, 1, .rw, 2, true, some 65, none, none⟩,
  ⟨0x1840, 0x06, 1, .one, .i8, 1, .rw, 2, true, some 80, none, some 100⟩,
  ⟨0x1840, 0x07, 1, .one, .u16, 2, .rw, 2, true, some 200, some 0, some 1000⟩,
  ⟨0x1840, 0x08, 1, .one, .u16, 2, .rw, 2, true, some 200, some 10, some 10000⟩,
  ⟨0x1840, 0x09, 1, .one, .u8, 1, .rw, 2, true, some 3, some 1, some 10⟩,
  ⟨0x1850, 0x01, 1, .one, .u16, 2, .ro, 1, false, none, none, none⟩,
  ⟨0x1850, 0x02, 1, .one, .u16, 2, .ro, 1, false, none, none, none⟩,
  ⟨0x1850, 0x03, 1, .one, .u32, 4, .ro, 1, false, none, none, none⟩,
  ⟨0x1850, 0x04, 1, .one, .bool, 1, .ro, 1, false, none, some 0, some 1⟩,
  ⟨0x1850, 0x05, 1, .one, .u32, 4, .ro, 1, false, none, none, none⟩,
  ⟨0x1850, 0x06, 1, .one, .u64, 8, .ro, 1, true, some 0, none, none⟩,
  ⟨0x1850, 0x07, 1, .one, .u32, 4, .ro, 1, true, some 0, none, none⟩,
  ⟨0x1850, 0x08, 1, .one, .u8, 1, .ro, 1, false, some 0, none, none⟩,
  ⟨0x1860, 0x01, 1, .one, .u8, 1, .rw, 2, true, some 25, some 5, some 75⟩,
  ⟨0x1860, 0x02, 1, .one, .u16, 2, .rw, 2, true, some 60, some 1, some 3600⟩,
  ⟨0x1860, 0x03, 1, .one, .u16, 2, .rw, 2, true, some 20, some 5, some 200⟩,
  ⟨0x1860, 0x04, 1, .one, .u16, 2, .rw, 3, true, some 200, some 10, some 5000⟩,
  ⟨0x1860, 0x05, 1, .one, .u64, 8, .ro, 1, true, some 0, none, none⟩]

/-- Objects of 12_host_interface.md. -/
def odRows12a : List OdRow := [
  ⟨0x1000, 0x01, 1, .one, .u16, 2, .rw, 3, true, some 0, none, none⟩,
  ⟨0x1000, 0x02, 1, .one, .u16, 2, .rw, 3, true, some 0, none, none⟩,
  ⟨0x1000, 0x03, 1, .one, .string, 40, .rw, 3, true, none, none, none⟩,
  ⟨0x1000, 0x04, 1, .one, .string, 20, .rw, 3, true, none, none, none⟩,
  ⟨0x1000, 0x05, 1, .one, .u8, 1, .ro, 1, false, none, none, none⟩,
  ⟨0x1000, 0x06, 1, .one, .u16, 2, .ro, 1, false, none, none, none⟩,
  ⟨0x1000, 0x07, 1, .one, .u16, 2, .ro, 1, false, none, none, none⟩,
  ⟨0x1010, 0x01, 2, .one, .u32, 4, .rw, 2, true, some 50529026, none, none⟩,
  ⟨0x1011, 0x01, 1, .one, .bool, 1, .rw, 2, true, some 1, some 0, some 1⟩,
  ⟨0x1012, 0x01, 1, .one, .bool, 1, .rw, 2, true, some 0, some 0, some 1⟩,
  ⟨0x1020, 0x01, 1, .one, .u16, 2, .rw, 3, true, some 1200, none, none⟩,
  ⟨0x1020, 0x02, 1, .one, .u16, 2, .rw, 3, true, some 800, none, none⟩,
  ⟨0x1020, 0x03, 1, .one, .u16, 2, .rw, 3, true, some 450, none, none⟩,
  ⟨0x1020, 0x04, 1, .one, .u16, 2, .rw, 3, true, some 120, none, none⟩,
  ⟨0x1020, 0x05, 1, .one, .u16, 2, .rw, 3, true, some 1300, some 200, none⟩,
  ⟨0x1030, 0x01, 1, .one, .u64, 8, .ro, 1, true, some 0, none, none⟩,
  ⟨0x1030, 0x02, 1, .one, .u32, 4, .ro, 1, true, some 0, none, none⟩,
  ⟨0x1030, 0x03, 1, .one, .u32, 4, .ro, 1, true, some 0, none, none⟩,
  ⟨0x1030, 0x04, 1, .one, .u32, 4, .ro, 1, true, some 0, none, none⟩]

/-- Objects of 13_buffer_memory.md. -/
def odRows13a : List OdRow := [
  ⟨0x5000, 0x01, 1, .one, .u32, 4, .ro, 1, false, none, none, none⟩,
  ⟨0x5000, 0x02, 1, .one, .u64, 8, .ro, 1, false, none, none, none⟩,
  ⟨0x5000, 0x03, 1, .one, .u8, 1, .ro, 1, false, none, none, none⟩,
  ⟨0x5000, 0x04, 1, .one, .u16, 2, .ro, 1, false, none, none, none⟩,
  ⟨0x5000, 0x05, 1, .one, .u8, 1, .rw, 3, true, some 1, some 0, some 1⟩,
  ⟨0x5000, 0x06, 1, .one, .u8, 1, .ro, 1, false, none, none, none⟩,
  ⟨0x5000, 0x07, 1, .one, .u16, 2, .rw, 3, true, some 8533, some 3200, some 8533⟩,
  ⟨0x5010, 0x01, 1, .one, .u16, 2, .rw, 2, true, some 100, some 10, some 1000⟩,
  ⟨0x5010, 0x02, 1, .one, .u8, 1, .rw, 2, true, some 6, some 2, some 20⟩,
  ⟨0x5010, 0x03, 1, .one, .u32, 4, .ro, 1, true, some 0, none, none⟩,
  ⟨0x5010, 0x04, 1, .one, .u8, 1, .ro, 1, false, none, none, none⟩,
  ⟨0x5020, 0x01, 4, .one, .u64, 8, .ro, 1, true, some 0, none, none⟩,
  ⟨0x5020, 0x05, 4, .one, .u32, 4, .ro, 1, true, some 0, none, none⟩,
  ⟨0x5020, 0x09, 1, .one, .u32, 4, .ro, 1, true, some 0, none, none⟩,
  ⟨0x5020, 0x0A, 1, .one, .u64, 8, .ro, 1, true, some 0, none, none⟩,
  ⟨0x5020, 0x0B, 1, .one, .u32, 4, .ro, 1, true, some 0, none, none⟩,
  ⟨0x5021, 0x01, 1, .one, .u8, 1, .ro, 1, false, some 0, none, none⟩,
  ⟨0x5021, 0x02, 1, .one, .u32, 4, .ro, 1, false, some 0, none, none⟩,
  ⟨0x5021, 0x03, 1, .one, .u8, 1, .rw, 1, false, some 0, none, none⟩,
  ⟨0x5021, 0x04, 1, .one, .octets, 32, .ro, 1, false, none, none, none⟩,
  ⟨0x5021, 0x05, 1, .one, .u8, 1, .wo, 2, false, none, some 1, some 1⟩,
  ⟨0x5030, 0x01, 1, .one, .u16, 2, .rw, 2, true, some 24, some 0, some 8760⟩,
  ⟨0x5030, 0x02, 1, .one, .u16, 2, .rw, 2, true, some 64, some 1, some 4096⟩,
  ⟨0x5030, 0x03, 1, .one, .u32, 4, .ro, 1, true, some 0, none, none⟩,
  ⟨0x5030, 0x04, 1, .one, .u32, 4, .ro, 1, true, some 0, none, none⟩,
  ⟨0x5040, 0x01, 1, .one, .u32, 4, .ro, 1, false, none, none, none⟩,
  ⟨0x5040, 0x02, 1, .one, .u16, 2, .rw, 2, true, some 750, some 50, some 750⟩,
  ⟨0x5040, 0x03, 1, .one, .u16, 2, .rw, 2, true, some 700, some 0, none⟩,
  ⟨0x5040, 0x04, 1, .one, .u32, 4, .ro, 1, false, none, none, none⟩,
  ⟨0x5040, 0x05, 1, .one, .bool, 1, .rw, 2, true, some 1, some 0, some 1⟩,
  ⟨0x5040, 0x06, 1, .one, .u64, 8, .ro, 1, true, some 0, none, none⟩,
  ⟨0x5040, 0x07, 1, .one, .u32, 4, .ro, 1, true, some 0, none, none⟩]

/-- Objects of 14_cipher.md. -/
def odRows14a : List OdRow := [
  ⟨0x5100, 0x01, 1, .one, .u8, 1, .const, 1, false, some 128, none, none⟩,
  ⟨0x5100, 0x02, 1, .one, .u8, 1, .const, 1, false, some 64, none, none⟩,
  ⟨0x5100, 0x03, 1, .one, .u8, 1, .ro, 1, true, some 0, none, none⟩,
  ⟨0x5100, 0x04, 1, .one, .u8, 1, .ro, 1, false, none, none, none⟩,
  ⟨0x5100, 0x05, 1, .one, .bool, 1, .ro, 1, false, none, some 0, some 1⟩,
  ⟨0x5110, 0x01, 128, .one, .u8, 1, .ro, 1, true, some 0, none, none⟩,
  ⟨0x5111, 0x01, 1, .one, .u8, 1, .rw, 3, false, some 0, some 0, some 127⟩,
  ⟨0x5111, 0x02, 1, .one, .octets, 64, .wo, 3, true, none, none, none⟩,
  ⟨0x5111, 0x03, 1, .one, .u8, 1, .wo, 3, true, none, some 1, some 1⟩,
  ⟨0x5111, 0x04, 1, .one, .u8, 1, .wo, 3, true, none, some 1, some 1⟩,
  ⟨0x5120, 0x01, 1, .range, .u32, 4, .rw, 3, true, some 0, none, none⟩,
  ⟨0x5120, 0x02, 1, .range, .u64, 8, .rw, 3, true, some 0, none, none⟩,
  ⟨0x5120, 0x03, 1, .range, .u64, 8, .rw, 3, true, some 0, none, none⟩,
  ⟨0x5120, 0x04, 1, .range, .u8, 1, .rw, 3, true, some 255, none, none⟩,
  ⟨0x5120, 0x05, 1, .range, .bool, 1, .rw, 3, true, some 0, some 0, some 1⟩,
  ⟨0x5160, 0x01, 1, .one, .u32, 4, .wo, 3, false, none, none, none⟩,
  ⟨0x5160, 0x02, 1, .one, .u8, 1, .ro, 1, true, some 0, none, none⟩,
  ⟨0x5170, 0x01, 1, .one, .u64, 8, .ro, 1, true, some 0, none, none⟩,
  ⟨0x5170, 0x02, 1, .one, .u64, 8, .ro, 1, true, some 0, none, none⟩,
  ⟨0x5170, 0x03, 1, .one, .u32, 4, .ro, 2, true, some 0, none, none⟩,
  ⟨0x5170, 0x04, 1, .one, .u32, 4, .ro, 1, true, some 0, none, none⟩]

/-- Objects of 15_dma.md. -/
def odRows15a : List OdRow := [
  ⟨0x5200, 0x01, 16, .one, .u8, 1, .ro, 1, false, none, none, none⟩,
  ⟨0x5201, 0x01, 1, .one, .u64, 8, .ro, 1, true, some 0, none, none⟩,
  ⟨0x5201, 0x02, 1, .one, .u64, 8, .ro, 1, true, some 0, none, none⟩,
  ⟨0x5201, 0x03, 1, .one, .u32, 4, .ro, 1, true, some 0, none, none⟩]

/-- Objects of 16_hall_monitor.md. -/
def odRows16a : List OdRow := [
  ⟨0x6000, 0x01, 1, .one, .u8, 1, .rw, 3, true, some 0, some 0, some 1⟩,
  ⟨0x6000, 0x02, 1, .one, .u8, 1, .rw, 2, true, some 3, some 0, some 7⟩,
  ⟨0x6000, 0x03, 1, .one, .u32, 4, .rw, 2, true, some 1000, some 10, some 100000⟩,
  ⟨0x6000, 0x04, 1, .one, .u8, 1, .rw, 2, true, some 0, some 0, some 3⟩,
  ⟨0x6000, 0x05, 1, .one, .u8, 1, .ro, 1, false, none, none, none⟩,
  ⟨0x6000, 0x06, 1, .one, .u8, 1, .rw, 1, false, some 0, some 0, some 15⟩,
  ⟨0x6000, 0x07, 1, .one, .octets, 32, .ro, 1, false, none, none, none⟩,
  ⟨0x6000, 0x08, 1, .one, .u8, 1, .wo, 2, false, none, some 1, some 1⟩,
  ⟨0x6000, 0x09, 1, .one, .u8, 1, .wo, 2, false, none, some 1, some 1⟩,
  ⟨0x6000, 0x0A, 1, .one, .u16, 2, .ro, 1, false, none, none, none⟩,
  ⟨0x6000, 0x0B, 1, .one, .u64, 8, .ro, 1, true, some 0, none, none⟩,
  ⟨0x6010, 0x01, 160, .one, .u32, 4, .rw, 3, true, none, none, none⟩,
  ⟨0x6011, 0x01, 160, .one, .u32, 4, .rw, 2, true, none, none, none⟩,
  ⟨0x6012, 0x01, 160, .one, .u32, 4, .ro, 1, false, none, none, none⟩,
  ⟨0x6013, 0x01, 160, .one, .u32, 4, .ro, 1, true, some 0, none, none⟩,
  ⟨0x6014, 0x01, 1, .one, .u8, 1, .wo, 2, false, none, none, none⟩,
  ⟨0x6014, 0x02, 1, .one, .u16, 2, .wo, 3, false, none, none, none⟩]

/-- Objects of 17_yearbook.md. -/
def odRows17a : List OdRow := [
  ⟨0x6100, 0x01, 1, .one, .u64, 8, .ro, 1, false, none, none, none⟩,
  ⟨0x6100, 0x02, 1, .one, .u64, 8, .ro, 1, false, none, none, none⟩,
  ⟨0x6100, 0x03, 1, .one, .u64, 8, .rw, 1, false, some 0, none, none⟩,
  ⟨0x6100, 0x04, 1, .one, .octets, 64, .ro, 1, false, none, none, none⟩,
  ⟨0x6100, 0x05, 1, .one, .u32, 4, .const, 1, false, some 64512, none, none⟩,
  ⟨0x6100, 0x06, 1, .one, .u16, 2, .ro, 1, false, none, none, none⟩,
  ⟨0x6100, 0x07, 1, .one, .u32, 4, .ro, 1, false, none, none, none⟩,
  ⟨0x6100, 0x08, 1, .one, .u32, 4, .ro, 1, true, some 0, none, none⟩,
  ⟨0x6100, 0x09, 1, .one, .u8, 1, .wo, 3, false, none, some 1, some 1⟩,
  ⟨0x6100, 0x0A, 1, .one, .u32, 4, .ro, 1, true, some 0, none, none⟩,
  ⟨0x6100, 0x0B, 1, .one, .octets, 32, .wo, 2, false, none, none, none⟩,
  ⟨0x6100, 0x0C, 1, .one, .u16, 2, .rw, 3, true, some 64, some 1, some 1000⟩,
  ⟨0x6101, 0x01, 1, .one, .u64, 8, .rw, 2, false, some 0, some 1, none⟩,
  ⟨0x6101, 0x02, 1, .one, .bool, 1, .ro, 1, false, some 0, some 0, some 1⟩,
  ⟨0x6101, 0x03, 1, .one, .u8, 1, .ro, 1, false, some 0, none, none⟩]

/-- Objects of 18_ageing_power_thermal.md. -/
def odRows18a : List OdRow := [
  ⟨0x6200, 0x01, 1, .one, .u16, 2, .rw, 2, true, some 100, some 10, some 1000⟩,
  ⟨0x6200, 0x02, 1, .one, .u16, 2, .rw, 2, true, some 200, some 24, some 2000⟩,
  ⟨0x6200, 0x03, 1, .one, .u32, 4, .ro, 1, true, some 0, none, none⟩,
  ⟨0x6200, 0x04, 1, .one, .u8, 1, .rw, 2, true, some 25, some 5, some 100⟩,
  ⟨0x6200, 0x05, 1, .one, .u16, 2, .rw, 2, true, some 150, some 20, some 500⟩,
  ⟨0x6200, 0x06, 1, .one, .u16, 2, .rw, 2, true, some 11200, some 10500, some 11800⟩,
  ⟨0x6200, 0x07, 1, .one, .u8, 1, .ro, 1, true, some 0, none, none⟩,
  ⟨0x6200, 0x08, 1, .one, .u16, 2, .rw, 3, true, some 900, some 100, some 1023⟩,
  ⟨0x6200, 0x09, 1, .one, .u16, 2, .rw, 3, true, some 400, none, none⟩,
  ⟨0x6200, 0x0A, 1, .one, .u32, 4, .ro, 1, true, some 0, none, none⟩,
  ⟨0x6201, 0x01, 1, .one, .f32, 4, .rw, 3, true, some 1117782016, none, none⟩,
  ⟨0x6201, 0x02, 1, .one, .f32, 4, .rw, 3, true, some 1123024896, none, none⟩,
  ⟨0x6201, 0x03, 1, .one, .f32, 4, .rw, 3, true, some 1132068864, none, none⟩,
  ⟨0x6201, 0x04, 1, .one, .f32, 4, .rw, 3, true, some 1112014848, none, none⟩,
  ⟨0x6201, 0x05, 1, .one, .f32, 4, .rw, 3, true, some 1120403456, none, none⟩,
  ⟨0x6201, 0x06, 1, .one, .f32, 4, .rw, 3, true, some 1128792064, none, none⟩,
  ⟨0x6201, 0x07, 1, .one, .f32, 4, .rw, 3, true, some 1112014848, none, none⟩,
  ⟨0x6201, 0x08, 1, .one, .f32, 4, .rw, 3, true, some 1120403456, none, none⟩,
  ⟨0x6201, 0x09, 1, .one, .f32, 4, .rw, 3, true, some 1128792064, none, none⟩,
  ⟨0x6201, 0x0A, 1, .one, .f32, 4, .rw, 3, true, some 1120403456, none, none⟩,
  ⟨0x6201, 0x0B, 1, .one, .f32, 4, .rw, 3, true, some 1128792064, none, none⟩,
  ⟨0x6201, 0x0C, 1, .one, .f32, 4, .rw, 3, true, some 1135542272, none, none⟩,
  ⟨0x6201, 0x0D, 1, .one, .f32, 4, .rw, 3, true, some 1073741824, none, none⟩,
  ⟨0x6201, 0x0E, 1, .one, .f32, 4, .rw, 3, true, some 1082130432, none, none⟩,
  ⟨0x6201, 0x0F, 1, .one, .f32, 4, .rw, 3, true, some 1090519040, none, none⟩,
  ⟨0x6220, 0x01, 1, .one, .u16, 2, .rw, 1, false, some 0, none, none⟩,
  ⟨0x6220, 0x02, 1, .one, .octets, 32, .ro, 1, false, none, none, none⟩,
  ⟨0x6220, 0x03, 1, .one, .octets, 32, .ro, 1, true, none, none, none⟩,
  ⟨0x6230, 0x01, 1, .one, .octets, 32, .ro, 1, false, none, none, none⟩,
  ⟨0x6300, 0x01, 1, .one, .u32, 4, .ro, 1, false, none, none, none⟩,
  ⟨0x6300, 0x02, 1, .one, .u32, 4, .ro, 1, false, some 0, none, none⟩,
  ⟨0x6300, 0x03, 1, .one, .bool, 1, .rw, 3, false, some 0, some 0, some 1⟩,
  ⟨0x6300, 0x04, 1, .one, .u64, 8, .ro, 1, true, some 0, none, none⟩,
  ⟨0x6310, 0x01, 1, .one, .u8, 1, .rw, 3, true, some 40, some 20, some 80⟩,
  ⟨0x6311, 0x01, 12, .one, .u16, 2, .ro, 1, false, none, none, none⟩,
  ⟨0x6312, 0x01, 12, .one, .u8, 1, .ro, 1, true, some 0, none, none⟩,
  ⟨0x6313, 0x01, 12, .one, .u32, 4, .ro, 1, true, some 0, none, none⟩,
  ⟨0x6320, 0x01, 1, .one, .i16, 2, .rw, 3, true, some 115, none, some 118⟩,
  ⟨0x6320, 0x02, 1, .one, .i16, 2, .rw, 3, true, some 125, none, some 130⟩,
  ⟨0x6320, 0x03, 1, .one, .octets, 16, .ro, 1, false, none, none, none⟩]

/-- Objects of 18_ageing_power_thermal.md. -/
def odRows18b : List OdRow := [
  ⟨0x6320, 0x04, 1, .one, .f32, 4, .rw, 3, true, some 1065420325, some 1065353216, some 1065772646⟩,
  ⟨0x6320, 0x05, 1, .one, .i16, 2, .ro, 1, true, none, none, none⟩,
  ⟨0x6320, 0x06, 1, .one, .u8, 1, .ro, 1, false, some 255, none, none⟩]

/-- Objects of 19_events.md. -/
def odRows19a : List OdRow := [
  ⟨0x6400, 0x01, 1, .one, .u16, 2, .rw, 1, false, some 0, some 0, some 351⟩,
  ⟨0x6400, 0x02, 1, .one, .u64, 8, .ro, 1, false, none, none, none⟩,
  ⟨0x6400, 0x03, 1, .one, .u64, 8, .ro, 1, true, some 0, none, none⟩,
  ⟨0x6400, 0x04, 1, .one, .u32, 4, .ro, 1, false, some 0, none, none⟩,
  ⟨0x6400, 0x05, 1, .one, .u32, 4, .rw, 2, true, some 0, none, none⟩]

/-- Every object but subindex 0x00 of each index and the type objects of R67. -/
def odRows : List OdRow :=
  odRows00a ++ odRows02a ++ odRows03a ++ odRows04a ++ odRows04b ++ odRows05a ++ odRows06a ++
  odRows06b ++ odRows07a ++ odRows08a ++ odRows09a ++ odRows10a ++ odRows10b ++ odRows11a ++
  odRows11b ++ odRows12a ++ odRows13a ++ odRows14a ++ odRows15a ++ odRows16a ++ odRows17a ++
  odRows18a ++ odRows18b ++ odRows19a

end Sys2Proof.Machine
end

