-- ==== Sys2Proof/Machine/StoreOps.lean ====
section
/-! DEFINITION. The persistent store (03 R75): which object a number names, the image a SAVE
writes, and what bring-up takes back from it. -/

namespace Sys2Proof.Machine

open Sys2Proof

/-- The index of a row's instance (R70, R71). -/
def OdRow.indexes (r : OdRow) : List Nat :=
  match r.per with
  | .one => [r.idx]
  | .act => (List.range 4).map fun a => r.idx + 0x100 * a
  | .layout => (List.range 4).map fun a => r.idx + a
  | .range => (List.range 64).map fun k => r.idx + k

/-- Whether a row holds an object. -/
def OdRow.has (r : OdRow) (index sub : Nat) : Bool :=
  r.indexes.contains index && decide (r.sub ≤ sub) && decide (sub < r.sub + r.n)

/-- The row of an object. -/
def odRow? (index sub : Nat) : Option OdRow := odRows.find? fun r => r.has index sub

/-- Whether software may write a row's objects. -/
def OdRow.writable (r : OdRow) : Bool := decide (r.acc = .rw) || decide (r.acc = .wo)

/-- Whether an object is one a SAVE copies (R69, R75). -/
def savedRw (key : Nat) : Bool :=
  match odRow? (key / 256) (key % 256) with
  | some r => r.saved && r.writable
  | none => false

/-- Whether the device keeps an object persistent by itself (R69). -/
def savedRo (key : Nat) : Bool :=
  match odRow? (key / 256) (key % 256) with
  | some r => r.saved && !r.writable
  | none => false

/-! The Hall Monitor's objects are live views of its registers (16 R477). -/

/-- The saved objects that the Hall Monitor's registers hold, where they differ from their
defaults. -/
def State.hallSaved (s : State) : Tab OdVal :=
  let h := s.hm
  let put (k v d : Nat) (t : Tab OdVal) : Tab OdVal := if v = d then t else Tab.set t k (.num v)
  let t := put 0x600001 (b2n h.sevMode) 0 (put 0x600002 h.histMin.toNat 3
    (put 0x600003 h.eoWidth.toNat 1000 (put 0x600004 h.core.toNat 0 [])))
  h.srcs.foldl (fun t x =>
    put (0x601001 + x.1) x.2.cfg.toNat (defaultCfg x.1).toNat
      (put (0x601101 + x.1) x.2.win.toNat (defaultWin x.1).toNat t)) t

/-- A saved object of the Hall Monitor or the event controller taken into its register. -/
def State.hallLoad (key v : Nat) (s : State) : State :=
  if key = 0x600001 then s.onHm fun h => { h with sevMode := decide (v = 1) }
  else if key = 0x600002 then s.onHm fun h => { h with histMin := BitVec.ofNat 3 v }
  else if key = 0x600003 then s.onHm fun h => { h with eoWidth := BitVec.ofNat 17 v }
  else if key = 0x600004 then s.onHm fun h => { h with core := BitVec.ofNat 2 v }
  else if 0x601001 ≤ key && key ≤ 0x6010A0 then
    s.onHmSrc (key - 0x601001) fun x => { x with cfg := BitVec.ofNat 32 v }
  else if 0x601101 ≤ key && key ≤ 0x6011A0 then
    s.onHmSrc (key - 0x601101) fun x => { x with win := BitVec.ofNat 32 v }
  else if key = 0x640005 then s.onEvc fun e => { e with gpioEdge := BitVec.ofNat 32 v }
  else if key = 0x200008 then
    (s.odSet key v).onSpn fun p => { p with dtc := decide (v = 1) }
  else s.odSet key v

/-- The values a SAVE writes (R75): those the objects show, a spindle parameter that waits for OFF and the
waveform SPN_CTL.DTC has chosen among them (04 R129, R130). -/
def State.savedImage (s : State) : Tab OdVal :=
  let t := s.dict.od.filter fun e => savedRw e.1
  let t := s.hallSaved.foldl (fun t e => Tab.set t e.1 e.2) t
  let t := s.spn.pendingParams.foldl (fun t e => Tab.set t (odKey 0x2010 e.1) (.num e.2)) t
  let t := if s.spn.dtc || (Tab.get? t 0x200008).isSome then Tab.set t 0x200008 (.num (b2n s.spn.dtc))
    else t
  if s.evc.gpioEdge = 0 then t else Tab.set t 0x640005 (.num s.evc.gpioEdge.toNat)

/-- The bytes a copy's CRC-32 covers (log 106): its sequence number and each value, key and blob with its
number. -/
def StoreCopy.image (c : StoreCopy) : List Byte :=
  let val (e : Nat × OdVal) : List Byte := match e.2 with
    | .num v => leBytes 3 e.1 ++ leBytes 9 v
    | .oct b => leBytes 3 e.1 ++ leBytes 2 b.length ++ b
  let oct (e : Nat × List Byte) : List Byte := leBytes 1 e.1 ++ leBytes 2 e.2.length ++ e.2
  leBytes 4 c.seq.toNat ++ c.vals.flatMap val ++ c.guests.flatMap val ++ c.roleKeys.flatMap oct
    ++ (c.epochs.flatMap fun e => leBytes 1 e.1 ++ leBytes 4 e.2) ++ c.blobs.flatMap oct

/-- The CRC-32 of a copy's contents. -/
def StoreCopy.sum (c : StoreCopy) : BitVec 32 := BitVec.ofNat 32 (crc32 c.image)

/-- Whether a copy is valid: its CRC-32 is that of its contents (R75). -/
def StoreCopy.valid (c : StoreCopy) : Bool := c.crc == c.sum

/-- A copy with the CRC-32 of its contents. -/
def StoreCopy.withSum (c : StoreCopy) : StoreCopy := { c with crc := c.sum }

/-- A copy whose contents and CRC-32 no longer agree. -/
def StoreCopy.spoilt (c : StoreCopy) : StoreCopy := { c with crc := ~~~c.sum }

/-- The role keys among some, as KEY_STATE shows them (R94). -/
def keyMask (t : Tab (List Byte)) : BitVec 3 := t.foldl (fun m e => setBit m (e.1 - 1) true) 0

/-- A copy of the store. -/
def State.storeCopy (s : State) (one : Bool) : StoreCopy :=
  if one then s.dict.copy1 else s.dict.copy0

/-- The current copy. -/
def State.currentCopy (s : State) : StoreCopy := s.storeCopy s.dict.current

/-- The wrapped keys a copy holds (14 R428): those of the loaded slots and the old keys of pending
ones; while the engine does not run, those the current copy holds. -/
def State.keyBlobs (s : State) : Tab (List Byte) :=
  if s.ciph.state = .ready then
    s.ciph.slots.filterMap fun e =>
      if e.2.state = .empty || e.2.key.isEmpty then none
      else some (e.1, kwWrap slotKek e.2.key)
  else s.currentCopy.blobs

/-- A copy replaced. -/
def State.setCopy (one : Bool) (c : StoreCopy) (s : State) : State :=
  s.onDict fun d => if one then { d with copy1 := c } else { d with copy0 := c }

/-- A SAVE that power loss or a chip reset cuts short leaves the copy it was writing invalid, and the other
current (R75, log 106). -/
def State.saveCut (s : State) : State :=
  match s.dict.saving with
  | some r => (s.setCopy (!s.dict.current) r.copy.spoilt).onDict fun d => { d with saving := none }
  | none => s

/-- Copies lose bits in the NOR: bit i for copy i (R75). -/
def State.storeDecay (bad : BitVec 2) (s : State) : State :=
  let s := s.doIf (bad.getLsbD 0) fun t => t.setCopy false t.dict.copy0.spoilt
  s.doIf (bad.getLsbD 1) fun t => t.setCopy true t.dict.copy1.spoilt

/-- Whether the store yields valid spindle parameters (02 R42): some copy is valid. -/
def State.storeValid (s : State) : Bool := s.dict.copy0.valid || s.dict.copy1.valid

/-- OD 0x0210.02 STORE_STATE. -/
def State.storeState (s : State) : Nat :=
  2 - b2n s.dict.copy0.valid - b2n s.dict.copy1.valid

/-- The store is read at bring-up (R75): the valid copy with the higher sequence number, fault 153
with one copy invalid, fault 154 with none. -/
def State.loadStore (s : State) : State :=
  let c0 := s.dict.copy0
  let c1 := s.dict.copy1
  let take (one : Bool) (t : State) : State :=
    let c := t.storeCopy one
    let t := t.onDict fun d => { d with
      current := one, keys := c.roleKeys, epochs := c.epochs }
    c.vals.foldl (fun t e => match e.2 with
      | .num v => t.hallLoad e.1 v
      | .oct b => t.odSetBytes e.1 b) t
  if c0.valid && c1.valid then take (decide (c0.seq.toNat < c1.seq.toNat)) s
  else if c0.valid then take false ((s.fault epSystem 153 1).event epSystem 319 1)
  else if c1.valid then take true ((s.fault epSystem 153 0).event epSystem 319 0)
  else s.fault epSystem 154 0

/-! A crypto erase across a reset. -/

/-- Whether the end of a group is among journal entries. -/
def endsIn (n : Nat) (l : List JEntry) : Bool := l.contains (.groupEnd n)

/-- Whether some copy of the journal holds the end of a group (10 R322, 21 R561). -/
def State.groupKept (s : State) (n : Nat) : Bool :=
  allActs.any fun a => (s.plc.copies.get a).sectors.any fun j => endsIn n j.entries

/-- What a reset leaves of a running crypto erase (14 R434): nothing of one whose group of step 3 no copy
of the journal holds; else the new bindings and keys, and the old slots whose blobs survived. -/
def State.eraseAcross (s : State) : State :=
  match s.ciph.erase with
  | none => s
  | some e =>
    if e.nsids.isEmpty then s
    else if decide (4 ≤ e.step) && s.groupKept e.group then
      let key (n : Nat) : List Byte := kwWrap slotKek (Tab.getD s.ciph.slots n KeySlot.reset).key
      let patch (c : StoreCopy) : StoreCopy := StoreCopy.withSum { c with
        vals := e.newSlots.foldl (fun t x => Tab.set t (odKey (0x5120 + x.1) 4) (.num x.2)) c.vals
        blobs := e.newSlots.foldl (fun t x => Tab.set t x.2 (key x.2)) c.blobs }
      let old := e.oldSlots.filter fun n => (Tab.get? s.currentCopy.blobs n).isSome
      let s := s.onDict fun d => { d with copy0 := patch d.copy0, copy1 := patch d.copy1 }
      s.onCiph fun c => { c with eraseState := 3, oldAfterLoss := old, erase := none }
    else s.onCiph fun c => { c with eraseState := 0, erase := none }

end Sys2Proof.Machine
end

