-- ==== Sys2Proof/Machine/ModeOps.lean ====
section
/-! DEFINITION. Operations of the modes (02): mode changes and their domains, LIMITED and unsafe
actuators, head movement one at a time, power-state entry and exit, orderly shutdown and the
bring-up that power-on reset and a chip reset share. -/

namespace Sys2Proof.Machine

open Sys2Proof

/-- The code of a mode (R35). -/
def Mode.code : Mode → Nat
  | .fill => 1
  | .orientation => 2
  | .service => 3
  | .recess => 4
  | .dormant => 5
  | .limited => 6

/-- Whether a mode has the actuators' and media units' domains on (R36). -/
def Mode.active : Mode → Bool
  | .orientation | .service | .limited => true
  | _ => false

/-! Domains by mode (R36). -/

/-- The domains of the present and safe actuators. -/
def State.safeActDomains (s : State) : List Nat :=
  (s.presentActs.filter fun a => !actIn s.sys.unsafeActs a).flatMap actDomains

/-- The domains to be on in a mode, beside those on in every mode and those the PCIe links and debug
decide. -/
def State.modeOn (s : State) (m : Mode) : List Nat :=
  match m with
  | .fill => [2, 3, 4, 5, 6, 7, 8, 9, 10, 11, 14, 15, 16]
  | .recess => [3, 4, 5, 8, 9, 10, 14, 15, 16, 19]
  | .dormant => []
  | _ => [3, 4, 5, 8, 9, 10, 14, 15, 16, 17, 19]
      ++ (if s.hasCipher && !s.currentCopy.blobs.isEmpty then [18] else [])
      ++ s.safeActDomains ++ [28]

/-- The domains to be off in a mode; PD29 is left to the Timetable in the active ones. -/
def modeOff (m : Mode) : List Nat :=
  match m with
  | .recess => [17, 18, 20, 21, 22, 23, 24, 25, 26, 27, 28, 29]
  | .dormant => [3, 4, 5, 8, 9, 10, 14, 15, 16, 17, 18, 19, 20, 21, 22, 23, 24, 25, 26, 27, 28, 29]
  | _ => []

/-- The domains follow a mode (R36, 18 R499). -/
def State.applyDomains (m : Mode) (s : State) : State :=
  (s.switchOffAll (modeOff m)).switchOnAll (s.modeOn m)

/-- The mode is entered (R63, R64); a wake ends with the mode it asked for (R40): event 0 and a Yearbook record, from the old mode's code, 0 after
a reset. STRICT of the write paths is set in ORIENTATION (R48, 09 R279). -/
def State.setMode (old : Nat) (m : Mode) (s : State) : State :=
  let s := s.onSys fun y => { y with
    mode := m, modeEntered := s.now, entry := none, exiting := false
    wakeReq := y.wakeReq && (decide (m = .recess) || decide (m = .dormant)) }
  let s := (s.event epSystem 0 (old * 256 + m.code)).ybAppend 0x0005
    (leBytes 1 old ++ leBytes 1 m.code)
  let s := foldS (fun a t => t.onWp a fun w => { w with strict := decide (m = .orientation) }) allActs s
  s.doIf (decide (m = .service)) State.dueRelocations

/-- The mode changes to another. -/
def State.enterMode (m : Mode) (s : State) : State := s.setMode s.sys.mode.code m

/-- A milestone of OD 0x0201 is taken, once (R63). -/
def State.milestone (i : Nat) (s : State) : State :=
  if nth s.sys.milestones i 0 ≠ 0 then s
  else s.onSys fun y => { y with milestones := setNth y.milestones i s.now }

/-! The spindle as the modes see it. -/

/-- Whether the spindle holds rated speed: RUN, and within 0.5 % of it (R46, 04 R130). -/
def State.atRated (s : State) : Bool :=
  let rated := 16 * s.p2010RatedRpm
  decide (s.spn.state = .run)
    && decide (200 * ((s.spn.speed.toNat : Int) - (rated : Int)).natAbs ≤ rated)

/-- Rated speed is set as the target, or the spindle is started (R567, R569). -/
def State.bringToRated (s : State) : State :=
  let s := s.writeTarget (BitVec.ofNat 32 (16 * s.p2010RatedRpm))
  if s.spn.state = .off then s.spnStart else s

/-! Head movement: one actuator at a time (11 R348). -/

/-- Whether an actuator is loading or unloading. -/
def State.moving (s : State) (a : Fin 4) : Bool :=
  !(decide ((s.act a).isl.load = .parked) || s.loaded a)

/-- Whether some present actuator is loading or unloading. -/
def State.motionBusy (s : State) : Bool := s.presentActs.any fun a => s.moving a

/-- Whether every present actuator is parked. -/
def State.allParked (s : State) : Bool :=
  s.presentActs.all fun a => decide ((s.act a).isl.load = .parked)

/-- Whether heads are to be unloaded: an unsafe actuator's, and all in an entry past its unload point
or in the last steps of a shutdown (R50, R53, R568). -/
def State.wantsUnload (s : State) (a : Fin 4) : Bool :=
  s.loaded a &&
    (s.unsafeAct a
      || (match s.sys.entry with
          | some e => decide (e.stage ≠ .flushing)
          | none => false)
      || decide (s.sys.shutStage = some .unloading) || decide (s.sys.shutStage = some .braking))

/-- Whether heads are to be loaded without a command of their own: in ORIENTATION at rated speed
(R46), and to write what an abrupt shutdown left in the cache (R54). -/
def State.wantsLoad (s : State) (a : Fin 4) : Bool :=
  decide ((s.act a).isl.load = .parked) && s.domOn (20 + a.val) && !s.unsafeAct a
    && ((decide (s.sys.mode = .orientation) && s.sys.shutStage.isNone && s.atRated)
        || decide (s.sys.shutStage = some .flushing))

/-- The next head movement that is due starts, when none runs. -/
def State.pumpMotion (s : State) : State :=
  if s.motionBusy || s.sys.powerLoss.isSome then s
  else
    match s.presentActs.find? fun a => s.wantsUnload a with
    | some a => s.startUnload a false
    | none =>
      match s.presentActs.find? fun a => s.wantsLoad a with
      | some a => s.startLoad a
      | none => s

/-! Reads that cannot be served, and LIMITED. -/

/-- The reads that wait for an actuator end with Unrecovered Read Error, DNR set (R568, 12 R382). -/
def State.failReads (a : Fin 4) (s : State) : State :=
  let sectors := (s.act a).rch.ops.flatMap fun o => o.sectors
  let s := s.onRch a fun r => { r with ops := [], opIndex := 0 }
  let s := foldS (fun q t => t.cmdUnit q.cmd (nvDnr .unrecoveredRead)) sectors s
  foldS (fun l t =>
    if l.act = a then (t.ladderDrop l).cmdUnit l.job.req.cmd (nvDnr .unrecoveredRead) else t)
    s.recov.ladders s

/-- An actuator becomes unsafe (R568): its reads fail, its heads unload, and its domains go off once
it is parked. -/
def State.markUnsafe (a : Fin 4) (s : State) : State :=
  if actIn s.sys.unsafeActs a || !s.present a then s
  else
    let s := (s.onSys fun y => { y with unsafeActs := actPut y.unsafeActs a true }).failReads a
    let s := if (s.act a).isl.load = .parked then s.switchOffAll (actDomains a)
      else if s.loaded a && s.motionBusy then s
      else s.startUnload a false
    s.updateWarnings

/-- One final commit of every group formed, on the safe loaded actuators (R567 step 2). -/
def State.finalCommit (s : State) : State :=
  let s : State := match s.plc.commit with
    | some c => s.onPlc fun p => { p with
        commit := none, seq := p.seq - c.sectors.length
        pend := (c.sectors.flatMap fun (j : JSector) => j.entries) ++ p.pend }
    | none => s
  let s := s.startCommit s.presentActs
  match s.plc.commit with
  | none => s
  | some c =>
    let s := foldS (fun (a : Fin 4) (t : State) =>
      if actIn c.acts a then
        let cp := t.plc.copies.get a
        t.onPlc fun p => { p with
          copies := p.copies.set a { cp with sectors := cp.sectors ++ c.sectors } }
      else t) allActs s
    s.commitDurable { c with done := c.acts }

/-- Whether no actuator may load in LIMITED (R569). -/
def State.limitedNoLoad (s : State) : Bool :=
  let c := s.sys.limitedCause.toNat / 256
  c = 1 || c = 4 || c = 5 || c = 6 || s.sys.restoreFailed || decide (s.spn.state = .lowHold)

/-- How an uncompleted command ends at entry to LIMITED (R567 step 3). -/
def State.limitedEnd (s : State) (k : Cmd) : Cmd :=
  let wp (k : Cmd) : Cmd := { k with need := .nothing, status := nvRetry .writeProtected }
  match k.need with
  | .data => wp k
  | .group => wp k
  | .flush l =>
    if l.isEmpty then { k with need := .nothing } else wp k
  | .media _ =>
    if s.limitedNoLoad then { k with need := .nothing, status := nvDnr .unrecoveredRead }
    else if !s.sys.mapRestored then { k with need := .nothing, status := s.notReady k.ctrl 2 }
    else k
  | _ => k

/-- The commands that the entry ended as writes: their data is not kept (R567). -/
def writeCut (k : Cmd) : Bool :=
  match k.need with
  | .data => true
  | _ => false

/-- Whether an instant lies in the housekeeping tick of 10 us that runs (R39). -/
def State.sameTick (s : State) (t : BitVec 64) : Bool := decide (t.toNat / 2000 = s.ticks / 2000)

/-- An orderly shutdown goes on without its flush and commit once the mode is LIMITED (R55); one whose
request met the entry in the same housekeeping tick has lost to it and is discarded (R39). -/
def State.limitedShut (s : State) : State :=
  let s := if s.sys.shutStage.isSome && s.sameTick s.sys.transAt then
      (s.setShst 0).onSys fun y => { y with shutState := .none, shutKind := none, shutStage := none }
    else s
  match s.sys.shutStage with
  | some .checkpoint => s.onSys fun y => { y with shutStage := some .draining }
  | some .flushing => s.onSys fun y => { y with shutStage := some .braking }
  | _ => s

/-- Entry to LIMITED (R38, R52, R567): pending in FILL, where the first cause stands; nothing in
LIMITED, during a power loss, or while a chip reset is pending. `acts` become unsafe; fault source
30 skips the commit. -/
def State.enterLimited (cause : Nat) (acts : List (Fin 4)) (noCommit : Bool) (s : State) : State :=
  if s.sys.mode = .limited || s.sys.powerLoss.isSome || s.sys.chipResetBy.isSome then s
  else if s.sys.mode = .fill then
    s.onSys fun y => { y with
      limitedPending := match y.limitedPending with
        | some c => some c
        | none => some (BitVec.ofNat 16 cause)
      unsafeActs := acts.foldl (fun m a => actPut m a true) y.unsafeActs }
  else
    let s := s.onSys fun y => { y with
      limitedCause := BitVec.ofNat 16 cause, wakeReq := false, returnArmed := false
      shutHold := false }
    let s := foldS State.markUnsafe acts s
    let s := if noCommit then s else s.finalCommit
    let lost := (s.nvme.cmds.filter writeCut).map fun k => k.n
    let s := s.onNvme fun v => { v with cmds := v.cmds.map s.limitedEnd }
    let s := s.dropWrites lost
    let was := s.sys.mode
    let s := if was = .dormant then s.selfRefreshExit else s
    let s := (s.enterMode .limited).applyDomains .limited
    let s := if s.spn.state = .lowHold || cause / 256 = 1 || cause / 256 = 4 || cause / 256 = 5 then s
      else if s.sys.shutStage.isSome then s else s.bringToRated
    (s.limitedShut.pumpMotion).updateWarnings

/-- The mask of an actuator. -/
def actMask (a : Fin 4) : Nat := 2 ^ a.val

/-- An actuator becomes unsafe; in ORIENTATION it has failed calibration, which raises fault source 4
and enters LIMITED (R47, R568). -/
def State.makeUnsafe (a : Fin 4) (s : State) : State :=
  if s.sys.mode = .orientation && !actIn s.sys.unsafeActs a then
    (s.fault epResident 4 a.val).enterLimited (0x200 + actMask a) [a] false
  else s.markUnsafe a

/-! ORIENTATION and SERVICE. -/

/-- I/O is accepted once every present actuator has loaded and the mapping is restored (R46), and no
actuator has touchdown calibration to run first (R60). -/
def State.ioCheck (s : State) : State :=
  if s.sys.mode = .orientation && s.sys.mapRestored && !s.sys.ioAccepted
      && (s.presentActs.all fun a => s.loaded a) && decide (s.sys.needTouchdown &&& s.presentMask = 0) then
    (s.onSys fun y => { y with ioAccepted := true }).milestone 5
  else s

/-- SERVICE is entered once every present actuator has reported and the mapping is restored (R38), and
the old slots a power loss left of a crypto erase are erased (14 R434). -/
def State.serviceCheck (s : State) : State :=
  if s.sys.mode = .orientation && s.sys.mapRestored && s.sys.shutStage.isNone
      && s.ciph.oldAfterLoss.isEmpty
      && decide (s.sys.calReported &&& s.presentMask = s.presentMask) then
    (s.enterMode .service).milestone 6
  else s

/-! Exit from RECESS and DORMANT (R51). -/

/-- The exit ends when every safe actuator has loaded or failed: SERVICE, or LIMITED with none
loaded. -/
def State.exitCheck (s : State) : State :=
  let left := s.presentActs.filter fun a => !s.loaded a && !s.unsafeAct a
  if s.sys.exiting && left.isEmpty && !s.motionBusy then
    if s.presentActs.any fun a => s.loaded a then s.enterMode .service
    else s.enterLimited (0x200 + s.presentMask.toNat) [] false
  else s

/-- The mode the host's and the dictionary's requests ask for, the deeper of the two (R40). -/
def State.target (s : State) : Mode :=
  let d (m : Mode) : Nat := m.code
  let r : Mode := match s.p0200ModeRequest with
    | 4 => .recess
    | 5 => .dormant
    | _ => .service
  if d s.sys.hostTarget < d r then r else s.sys.hostTarget

/-- A command that needs the media has arrived (R40, R381); RETURN_IDLE counts from it anew. Before the head-unload point the entry is
abandoned with event 14; after it the entry is cut short; in RECESS and DORMANT the device wakes. -/
def State.mediaArrives (s : State) : State :=
  let s := s.onSys fun y => { y with mediaAt := s.now }
  match s.sys.entry with
  | some e =>
    if e.stage = .flushing then
      (s.onSys fun y => { y with
          entry := none, returnArmed := true
          wakeReq := decide (y.mode ≠ .service) }).event epSystem 14 e.target.code
    else s.onSys fun y => { y with
      entry := some { e with cutShort := e.cutShort || decide (e.stage = .unloading) }
      wakeReq := true, returnArmed := true }
  | none =>
    match s.sys.mode with
    | .recess | .dormant => s.onSys fun y => { y with
        wakeReq := !y.exiting, returnArmed := true, shutHold := false }
    | _ => s

/-- Whether the journal has nothing to write. -/
def State.journalClean (s : State) : Bool := s.plc.pend.isEmpty && s.plc.commit.isNone

/-- Steps 1 to 4 of an entry (R50, 10 R316): the cache is flushed for DORMANT, groups are closed and
changes committed; then the head-unload point with event 15. -/
def State.entryPump (s : State) : State :=
  match s.sys.entry with
  | some e =>
    if e.stage = .flushing && (decide (e.target ≠ .dormant) || s.dirtyPages = 0) && s.journalClean
        && s.plc.groups.all fun g => g.closed then
      ((s.onSys fun y => { y with entry := some { e with stage := .unloading } })
        |>.event epSystem 15 e.target.code).pumpMotion
    else s
  | none => s

/-! Orderly shutdown (R53 to R55). -/

/-- The shutdown record (17 R480). -/
def ShutKind.code : ShutKind → Nat
  | .normal => 1
  | .abrupt => 2

/-- Every loaded actuator retracts before a chip reset (R56 step 1). -/
def State.resetRetract (s : State) : State :=
  (s.onSys fun y => { y with shutStage := none, shutKind := none, resetAt := s.now }).retractAll

/-- Step 5 and the start of step 6 of R53; a chip reset asked of the dictionary or by NSSR has had
its shutdown steps and retracts instead (R56). -/
def State.shutRecord (k : ShutKind) (s : State) : State :=
  let s := s.ybAppend 0x0002 (leBytes 1 k.code)
  if s.sys.chipResetBy.isSome then s.resetRetract
  else (s.onSys fun y => { y with shutStage := some .unloading }).pumpMotion

/-- The steps of a shutdown that have become possible are taken (R53 to R55): one round. -/
def State.shutStep (s : State) : State :=
  match s.sys.shutStage, s.sys.shutKind with
  | some .draining, some k =>
    let lim := decide (s.sys.mode = .limited)
    let flushed := decide (k = .abrupt) || decide (s.dirtyPages = 0)
    if s.nvme.cmds.any Cmd.open then s
    else if lim then s.shutRecord k
    else if !flushed || !s.journalClean then s
    else if k = .normal && decide (0 < s.plc.sinceCkpt) && (s.presentActs.any fun a => s.usable a) then
      s.startCheckpoint.onSys fun y => { y with shutStage := some .checkpoint }
    else s.shutRecord k
  | some .checkpoint, some k =>
    if s.plc.ckptRun.isSome || !s.journalClean then s else s.shutRecord k
  | some .flushing, _ =>
    if s.dirtyPages = 0 && s.journalClean then
      (s.onSys fun y => { y with shutStage := some .braking }).pumpMotion
    else s.pumpMotion
  | some .braking, _ =>
    if s.allParked && !s.spnIsOff && !s.spn.stopReq && decide (s.spn.state ≠ .brake) then s.spnStop
    else s.pumpMotion
  | some .unloading, _ => s.pumpMotion
  | _, _ => s

/-- What waits in an entry or a shutdown goes on. -/
def State.modePump (s : State) : State := (s.entryPump).shutStep

/-- A shutdown is requested (R53 to R55): in FILL it waits; a power-state entry gives way to it. One that
loses to a chip reset, or in the same tick to LIMITED, is discarded (R39). A cache that still holds data or a journal that is not clean wakes the heads first. -/
def State.requestShutdown (k : ShutKind) (s : State) : State :=
  if s.sys.powerLoss.isSome || s.sys.chipResetBy.isSome then s
  else if s.sys.mode = .limited && s.sameTick s.sys.modeEntered then s
  else if s.sys.mode = .fill then
    s.onSys fun y => { y with
      shutWaiting := match y.shutWaiting with
        | some x => some x
        | none => some k }
  else if s.sys.shutStage.isSome then s
  else
    let asleep := decide (s.sys.mode = .recess) || decide (s.sys.mode = .dormant)
    let wake := asleep && (!s.journalClean || (decide (k = .normal) && decide (0 < s.dirtyPages)))
    let s := (s.stopFetch).setShst 1
    let s := s.onSys fun y => { y with
      shutState := .inProgress, shutKind := some k, shutStage := some .draining
      entry := none, exiting := y.exiting && wake, returnArmed := false, wakeReq := y.wakeReq || wake
      transAt := s.now }
    s.shutStep

/-- A shutdown is complete: CSTS.SHST, OD 0x0200.08 and event 16 (R53 step 8). -/
def State.reportShutdown (k : ShutKind) (s : State) : State :=
  ((s.setShst 2).onSys fun y => { y with shutState := .complete }).event epSystem 16 k.code

/-! Hooks of head movement. -/

/-- An actuator's heads are LOADED (R46, R51): event 6 + a and what waited for it. -/
def State.headsLoaded (a : Fin 4) (s : State) : State :=
  let s := (s.event (epAct a 5) (6 + a.val) 0).onIsl a fun i => { i with loadedAt := s.now }
  let s := s.onSys fun y => { y with
    loadOrder := if y.loadOrder.contains a then y.loadOrder else y.loadOrder ++ [a] }
  ((s.ioCheck).exitCheck).pumpMotion

/-- An actuator's heads failed every load attempt (R47, R51, R569). -/
def State.loadFailed (a : Fin 4) (s : State) : State :=
  let s := s.onSys fun y => { y with loadFailed := actPut y.loadFailed a true }
  match s.sys.mode with
  | .orientation => (s.makeUnsafe a).pumpMotion
  | .limited => (s.markUnsafe a).pumpMotion
  | _ => if s.sys.exiting then ((s.markUnsafe a).exitCheck).pumpMotion else s.pumpMotion

/-- An actuator's heads are parked (R50, R53, R58, R463, R568). -/
def State.headsParked (a : Fin 4) (s : State) : State :=
  let s := s.retryStart
  let s := s.onSys fun y => { y with
    powerLoss := y.powerLoss.map fun p => { p with toRetract := actPut p.toRetract a false } }
  let s := if actIn s.sys.unsafeActs a || s.hm.brst.contains (3 + a.val) then
      s.switchOffAll (actDomains a) else s
  ((s.exitCheck).modePump).pumpMotion

/-! Chip reset and bring-up (R38, R41, R56). -/

/-- A chip reset is asked for (R56, 16 R470): 0 by the dictionary or NSSR, which runs the shutdown
steps first, else 1 + the source, whose retract starts at once. In FILL no command is open, nothing is
cached and the journal is clean, so of those steps the end of fetching and the record remain. -/
def State.requestChipReset (by' : Nat) (s : State) : State :=
  if s.sys.powerLoss.isSome then s
  else
    match s.sys.chipResetBy with
    | some v =>
      if v = 0 && by' ≠ 0 && s.sys.shutStage.isSome then
        (s.onSys fun y => { y with chipResetBy := some (BitVec.ofNat 8 by') }).resetRetract
      else s
    | none =>
      if by' = 0 && s.sys.mode = .fill then
        (s.stopFetch.onSys fun y => { y with chipResetBy := some 0 }).shutRecord .normal
      else if by' ≠ 0 then
        (s.onSys fun y => { y with
          chipResetBy := some (BitVec.ofNat 8 by'), entry := none, exiting := false }).resetRetract
      else if s.sys.shutStage.isSome && decide (s.sys.shutStage ≠ some .draining)
          && decide (s.sys.shutStage ≠ some .checkpoint) then
        (s.onSys fun y => { y with chipResetBy := some 0 }).resetRetract
      else
        (s.requestShutdown .normal).onSys fun y => { y with
          chipResetBy := some 0, shutState := .none }

/-- Both 12 V and 5 V lie within the windows of R42. -/
def suppliesOk (v12 v5 : Nat) : Bool :=
  decide (11400 ≤ v12) && decide (v12 ≤ 12600) && decide (4750 ≤ v5) && decide (v5 ≤ 5250)

/-- Whether a power-loss record has no retract-outcome record after it (R60). -/
def outcomeMissing (l : List YbRec) : Bool :=
  l.foldl (fun (m : Bool) r => if r.ty = 3 then true else if r.ty = 4 then false else m) false

/-- Power-on hours and the part of an hour that a reset carries over (18 R512). -/
def State.carryPoh (s : State) : Nat × BitVec 64 :=
  let t := s.since s.rc.pohBase
  (s.rc.poh + t / (3600 * secTicks), 0 - BitVec.ofNat 64 (t % (3600 * secTicks)))

/-- The state that a power-on reset or a chip reset leaves before bring-up begins (R41, R56, R62, 16
R470): what the part keeps, and everything else at its reset value. -/
def State.keepAcross (por : Bool) (s : State) : State :=
  let r := State.reset
  let s := (s.saveCut).eraseAcross
  let act (a : Fin 4) (x : Act) : Act := { Act.reset with
    isl := { Isl.reset with synN := x.isl.synN }
    pre := if por then Preamp.reset else (s.act a).pre }
  let kept := s.yb.recs.filter fun x => x.slot.isSome
  let yb : Yb := { Yb.reset with
    firstSeq := s.yb.firstSeq, failed := s.yb.failed, wp := s.yb.wp, skip := s.yb.skip, mirrored := s.yb.mirrored
    recs := kept
    nextSeq := match (kept ++ s.yb.failed).foldl (fun m x => max m (x.seq.toNat + 257)) 0 with
      | 0 => s.yb.firstSeq
      | n => BitVec.ofNat 48 n }
  let hm : Hm := if por then Hm.reset else { Hm.reset with
    eoHold := s.hm.eoHold, eoTimer := s.hm.eoTimer
    eoSince := 0 - BitVec.ofNat 64 (s.since s.hm.eoSince)
    eoEnds := BitVec.ofNat 64 (s.hm.eoEnds.toNat - s.now.toNat)
    causeValid := s.hm.causeValid, causeSource := s.hm.causeSource, causeKind := s.hm.causeKind }
  let dict : Dict := { Dict.reset with
    copy0 := s.dict.copy0, copy1 := s.dict.copy1, current := s.dict.current
    provisioned := s.dict.provStored, provStored := s.dict.provStored, bootCount := s.dict.bootCount + 1
    od := s.dict.od.filter fun e => savedRo e.1 }
  let plc : Plc := { Plc.reset with
    userBands := s.plc.userBands, physSlots := s.plc.physSlots, spareInitial := s.plc.spareInitial
    spareLeft := s.plc.spareLeft, spareUse := s.plc.spareUse, placed := s.plc.placed
    headCount := s.plc.headCount, copies := s.plc.copies, heads := s.plc.heads
    tempSince := s.plc.tempSince, lowSpare := s.plc.lowSpare, noSpare := s.plc.noSpare }
  let nv := (s.activateNext true).nvme
  let nvme : Nvme := { Nvme.reset with
    slots := nv.slots, activeSlot := nv.activeSlot, imageRev := nv.imageRev, errCount := nv.errCount
    powerCycles := nv.powerCycles + b2n por, busyTicks := nv.busyTicks
    hostBytes := nv.hostBytes, mediaBytes := nv.mediaBytes, sanitizeDone := nv.sanitizeDone
    apstSaved := nv.apstSaved, reservations := nv.reservations.filter fun x => x.ptpl }
  let poh := s.carryPoh
  let rc : Rc := { Rc.reset with
    heads := Tab.map (fun _ c => { c with latest := c.recorded, stale := false }) s.rc.heads
    spinBase := s.rc.spinBase, lastReplan := s.rc.lastReplan, trigger := s.rc.trigger
    min12 := s.sys.v12, min5 := s.sys.v5
    pctUsed := s.rc.pctUsed, summary := s.rc.summary, poh := poh.1, pohBase := poh.2 }
  let pwr : Pwr := { Pwr.reset with
    temps := s.pwr.temps, peakDie := s.pwr.peakDie
    islands := Tab.map (fun _ i => { IslandSupply.reset with
      offset := i.offset, headBase := i.headBase, ringBase := i.ringBase }) s.pwr.islands }
  let sys : Sys := { Sys.reset with
    porDone := true, prevCause := s.sys.limitedCause, v12 := s.sys.v12, v5 := s.sys.v5
    retract := if por then false else s.sys.retract
    needTouchdown := s.sys.needTouchdown
    spinUpMs := if por then none else s.sys.spinUpMs }
  let evc : Evc := { Evc.reset with gpioLevel := s.evc.gpioLevel }
  let ports : Ports := { Ports.reset with
    perst := s.ports.perst, plComp := s.ports.plComp, pwrdis := s.ports.pwrdis
    jtag := s.ports.jtag, uartTx := s.ports.uartTx }
  let fab : Fab := { r.fab with mem := s.fab.mem.filter fun c => decide (c.1 < 0x40000) }
  let acts : Four Act :=
    ⟨act 0 s.acts.a0, act 1 s.acts.a1, act 2 s.acts.a2, act 3 s.acts.a3⟩
  let recov : Rec := { Rec.reset with retired := s.recov.retired, unreadable := s.recov.unreadable }
  let spn := if por then Spn.reset else (s.spnReset).spn
  { r with
    ident := { s.ident with tier := s.ident.fuse }, fab := fab, sys := sys, dict := dict, spn := spn, acts := acts
    recov := recov, plc := plc, nvme := nvme
    ciph := { Ciph.reset with eraseState := s.ciph.eraseState, oldAfterLoss := s.ciph.oldAfterLoss }
    hm := hm, yb := yb, pwr := pwr, rc := rc, evc := evc, ports := ports
    scr := { Scr.reset with passAt := s.scr.passAt }, pending := s.pending, free := s.free }

/-- The check of step 3 (R42): the store's spindle parameters and the supplies; the spindle starts
when all are good. -/
def State.supplyCheck (s : State) : State :=
  if !s.storeValid then
    ((s.onSys fun y => { y with spinRefused := some 1 }).fault epSystem 3 1)
      |>.enterLimited 0x500 [] false
  else if suppliesOk s.sys.v12 s.sys.v5 then (s.spnStart).milestone 1
  else s.onSys fun y => { y with supplyWait := true, supplySince := s.now, supplyAt := s.now }

/-- The ring scan of power-on (17 R491): the records that fail their CRC are not served until the mirrors
are read. -/
def State.ringScan (bad : List Nat) (s : State) : State :=
  let fails (x : YbRec) : Bool := x.slot.isSome && bad.contains x.seq.toNat
  s.onYb fun y => { y with
    recs := y.recs.filter fun x => !fails x
    failed := y.failed ++ y.recs.filter fails }

/-- A record takes its place among records by SEQ. -/
def insertRec (x : YbRec) : List YbRec → List YbRec
  | [] => [x]
  | y :: r => if x.seq < y.seq then x :: y :: r else y :: insertRec x r

/-- The scan is compared with the mirrors (17 R491): failed records the ring still covers and a present
actuator's mirror holds come back; the others are lost. -/
def State.ringCompare (s : State) : State :=
  let held (x : YbRec) : Bool := !decide (x.seq < s.yb.firstSeq)
    && s.presentActs.any fun a => (s.yb.mirrored.get a).contains (x.seq.toNat / 64 * 64)
  let back := s.yb.failed.filter held
  let s := s.onYb fun y => { y with failed := [], recs := back.foldl (fun l x => insertRec x l) y.recs }
  if back.isEmpty then s else s.event epResident 301 back.length

/-- Bring-up begins (R41): straps, the store, the supply check, the FILL domains and DRAM training.
A chip reset first programs the records that wait, and leaves its own record. -/
def State.bringUp (por : Bool) (s : State) : State :=
  let s := if por then s
    else foldS (fun _ t => t.ybProgram true true) (List.replicate s.ybDepth ()) s
  let unfused := decide (s.ident.fuse = .unfused)
  let missing := outcomeMissing s.yb.recs
  let s := s.keepAcross por
  let s := s.setMode 0 .fill
  let s := (s.loadStore).onPlc fun p => { p with extentCap := s.p1400ExtentCap }
  let s := s.milestone 0
  let s := if unfused then s.enterLimited 0x100 [] false else s
  let s := if missing then
      foldS (fun a t => t.fault epSystem 7 a.val) s.presentActs
        (s.onSys fun y => { y with needTouchdown := s.presentMask })
    else s
  let s := if por then s
    else s.ybAppend 0x000D (leBytes 4 (b2n s.hm.causeValid * 2 ^ 31
      + s.hm.causeSource.toNat * 256 + s.hm.causeKind.toNat * 16))
  ((s.supplyCheck.applyDomains .fill).switchOnAll (if s.twoPorts then [12, 13] else [12])).onSys fun y => { y with dram := .running }

end Sys2Proof.Machine
end

