-- ==== Sys2Proof/Machine/Modes.lean ====
section
/-! DEFINITION. The commands of the modes (02 R35 to R65), the ends of head movement and of braking
that the modes wait for (04 R113, 05 R143 to R150), and the durable ends of placement that let an
entry or a shutdown go on (10 R319, R321, R326). -/

namespace Sys2Proof.Machine

open Sys2Proof

/-! Bring-up (R41 to R44). -/

/-- POWER_ON_RESET: the straps and senses as step 2 and 3 find them; the other GPIO levels are the
ports' (20 R540); the scan names the ring records that fail their CRC (17 R491). -/
def execPowerOnReset (straps : BitVec 6) (dualPortN : Bool) (v12 v5 : Nat) (nor : NorScan)
    (s : State) : Eff :=
  let level := (s.evc.gpioLevel &&& 0xFFC0) ||| straps.setWidth 16
  let s := s.onIdent fun i => { i with straps := level, dualPort := !dualPortN }
  let s := (s.onSys fun y => { y with v12 := v12, v5 := v5 }).onEvc fun e => { e with gpioLevel := level }
  .next (((s.ringScan nor.ring).storeDecay nor.store).bringUp true)

/-- SUPPLY_RECHECK (R42): both senses once more, 1 ms after the last check. -/
def execSupplyRecheck (v12 v5 : Nat) (s : State) : Eff :=
  .next (
    if !s.sys.supplyWait || s.since s.sys.supplyAt < msTicks then s
    else
      let t := (s.sawSupply v12 v5).onSys fun y => { y with supplyAt := s.now }
      if suppliesOk v12 v5 then
        ((t.onSys fun y => { y with supplyWait := false }).spnStart).milestone 1
      else t)

/-- SUPPLY_CHECK_TIMEOUT (R42): 5 s without a good check. -/
def execSupplyCheckTimeout (s : State) : Eff :=
  .next (
    if s.sys.supplyWait && decide (5 * secTicks ≤ s.since s.sys.supplySince) then
      ((s.onSys fun y => { y with supplyWait := false, spinRefused := some 0 }).fault epSystem 3 0)
        |>.enterLimited 0x500 [] false
    else s)

/-- DRAM_TRAINING_DONE (R41, R43, 13 R393, R405): the raw size is what training reads. -/
def execDramTrainingDone (failMask : BitVec 4) (raw : Nat) (s : State) : Eff :=
  .next (
    if s.sys.dram ≠ .running then s
    else if failMask = 0 then
      let s := s.onSys fun y => { y with dram := .trained }
      let s := s.onDramc fun d => { d with
        rawGiB := raw, c3d5 := decide (s.p5000EccMode = 1), rate := min 8533 s.p5000MaxRate
        ch := ⟨{ d.ch.a0 with mr4Trained := d.ch.a0.mr4 }, { d.ch.a1 with mr4Trained := d.ch.a1.mr4 },
          { d.ch.a2 with mr4Trained := d.ch.a2.mr4 }, { d.ch.a3 with mr4Trained := d.ch.a3.mr4 }⟩ }
      (s.event epMemory 1 0xF).milestone 2
    else
      ((s.onSys fun y => { y with dram := .failed, dramFailMask := failMask }).fault epMemory 2
        failMask.toNat).enterLimited (0x400 + failMask.toNat) [] false)

/-- DRAM_FILL_COMPLETE (R41, 13 R405): every granule holds zeros and valid check bytes. -/
def execDramFillComplete (ms : Nat) (s : State) : Eff :=
  .next (
    if s.sys.dram = .trained && !s.sys.dramFilled then
      let s := s.onFab fun f => { f with mem := memClear f.mem dramBase (dramBase + s.usableBytes) }
      let s := s.onDramc fun d => { d with errs := [] }
      (s.onSys fun y => { y with dramFilled := true }).event epMemory 2 ms
    else s)

/-- Whether every domain's fill has ended (R43). -/
def State.fillsDone (s : State) : Bool :=
  (List.range 32).all fun d =>
    !(decide ((s.dom d).state = .switchingOn) || decide ((s.dom d).state = .filling))

/-- CORE_RELEASE (R43): after the DRAM fill, or without it when training failed, and the SRAM
fills. -/
def execCoreRelease (s : State) : Eff :=
  .next (
    if !s.sys.coreReleased && (s.sys.dramFilled || decide (s.sys.dram = .failed)) && s.fillsDone
        && s.domOn 2 then
      (((s.onSys fun y => { y with coreReleased := true }).event epSystem 3 0).milestone 3).switchOn 30
    else s)

/-- The order in which boot ROM tries the slots (R44). -/
def bootOrder (active : Nat) : List Nat :=
  if active = 2 then [2, 3, 1] else if active = 3 then [3, 2, 1] else [1, 2, 3]

/-- Whether the image in a slot verifies: bit k - 1 of the mask for slot k. -/
def slotGood (good : BitVec 3) (k : Nat) : Bool := good.getLsbD (k - 1)

/-- BOOT_IMAGE_VERIFY (R44): fault source 0 for each image that fails before one verifies; none at all
is fault source 1, ERROR_OUT and the UART download. -/
def execBootImageVerify (good : BitVec 3) (s : State) : Eff :=
  .next (
    if !s.sys.coreReleased || s.sys.imageSlot.isSome || s.sys.bootFailed then s
    else
      let order := bootOrder s.nvme.activeSlot
      let bad := order.takeWhile fun k => !slotGood good k
      let s := foldS (fun k t => t.fault epSystem 0 k) bad s
      match order.find? fun k => slotGood good k with
      | some k => s.onSys fun y => { y with
          imageSlot := some ⟨k % 4, by omega⟩, cores13Released := true }
      | none =>
        let s := (s.fault epSystem 1 0).eoAssert 0xFF
        (s.onSys fun y => { y with bootFailed := true }).onPorts fun p => { p with
          uart := .prompting })

/-- The zone layouts are loaded (08 R245): one whose smallest data area is below the least length is
refused with fault source 143. -/
def State.loadLayouts (areas : List (Fin 4 × Nat × Nat)) (s : State) : State :=
  foldS (fun x t =>
    if !t.present x.1 then t
    else if x.2.2 < 18632 then
      (t.onRecov fun r => { r with refused := r.refused ++ [(x.1, x.2.1)] }).fault epResident 143 x.1.val
    else t.onRecov fun r => { r with
      layouts := r.layouts ++ [{ act := x.1, zone := x.2.1, minArea := x.2.2 }] }) areas s

/-- The media cache stripes: every USE 2 zone of every head (10 R305). -/
def State.buildStripes (s : State) : List Stripe :=
  s.presentActs.flatMap fun a =>
    (List.range (s.headsOf a)).flatMap fun h =>
      (List.range 64).filterMap fun z =>
        let e := s.zone a z
        if e.use = 2 && !s.zoneRefused a z then
          some { act := a, head := BitVec.ofNat 5 h, zone := BitVec.ofNat 6 z, first := e.first
                 spt := e.spt, size := (e.last + 1 - e.first) * e.spt, write := 0, tail := 0 }
        else none

/-- The band slots of the USE 1 zones (10 R304, R307). -/
def State.physSlotCount (s : State) : Nat :=
  s.presentActs.foldl (fun n a =>
    n + s.headsOf a * ((List.range 64).foldl (fun m z =>
      let e := s.zone a z
      if e.use = 1 && !s.zoneRefused a z then m + zoneSlots e else m) 0)) 0

/-- The largest USER_BANDS whose spare share fits (10 R307), tried downward. -/
def userBandsFor (phys frac : Nat) : Nat → Nat
  | 0 => 0
  | u + 1 => if u + 1 + (frac * (u + 1) + 9999) / 10000 ≤ phys then u + 1 else userBandsFor phys frac u

/-- Placement as resident firmware starts it (10 R303 to R307): nothing changes once a host write has
been placed. -/
def State.startPlacement (heads : List Nat) (s : State) : State :=
  let s := s.onPlc fun p => { p with headCount := if p.placed then p.headCount else heads }
  let s := s.onPlc fun p => { p with stripes := s.buildStripes }
  if s.plc.placed then s
  else
    let phys := s.physSlotCount
    let u := phys * 10000 / (10000 + s.p1400SpareFraction)
    let user := userBandsFor phys s.p1400SpareFraction (u + 1)
    s.onPlc fun p => { p with
      physSlots := phys, userBands := user, spareInitial := phys - user, spareLeft := phys - user }

/-- Tiers B and C have one namespace, attached to every controller (12 R385). -/
def State.soleNamespace (s : State) : State :=
  if s.ident.tier = .a || !s.plc.nss.isEmpty then s
  else
    let n : Ns := { nsid := 1, blocks := s.plc.userBands * 65536, lbaf := 1
                    bands := List.range s.plc.userBands, attached := 3
                    shared := decide (s.ident.tier = .b), settled := true }
    s.onPlc fun p => { p with nss := [n] }

/-- RESIDENT_FIRMWARE_RUNNING (R38, R41): after step 10, which a PERST# still asserted does not hold up
(R45). The drive's heads and the smallest data area of each zone as the layouts give them; ORIENTATION, or
LIMITED for what FILL has seen. -/
def execResidentFirmwareRunning (heads : List Nat) (areas : List (Fin 4 × Nat × Nat)) (s : State) :
    Eff :=
  .next (match s.sys.imageSlot with
    | none => s
    | some k =>
      if s.sys.resident || !(s.sys.hostConfigured || s.ports.perst) then s
      else
        let s := s.onSys fun y => { y with resident := true }
        let s := ((s.loadLayouts areas).startPlacement heads).soleNamespace
        let s := (s.event epResident 4 k.val).ybAppend 0x0001
          (leBytes 4 s.dict.bootCount.toNat ++ leBytes 1 k.val ++ leBytes 2 s.sys.prevCause.toNat)
        let s := match s.sys.limitedPending with
          | some c =>
            let s := s.onSys fun y => { y with limitedPending := none, limitedCause := c }
            let s := (s.enterMode .limited).applyDomains .limited
            let n := c.toNat / 256
            (if n = 1 || n = 4 || n = 5 || decide (s.spn.state = SpnState.lowHold) then s
              else s.bringToRated).updateWarnings
          | none => (((s.enterMode .orientation).applyDomains .orientation).milestone 4)
        match s.sys.shutWaiting with
        | some x => (s.onSys fun y => { y with shutWaiting := none }).requestShutdown x
        | none => s)

/-- HOST_ISLAND_CONFIGURED (R41 step 10, 12 R365, R366): once the resident image is loaded; the identity strings are taken from their objects. -/
def execHostIslandConfigured (s : State) : Eff :=
  .next (
    if s.sys.imageSlot.isSome && !s.sys.hostConfigured && !s.ports.perst then
      (s.onSys fun y => { y with hostConfigured := true }).onNvme fun v => { v with
        idVid := s.p1000PciVid, idDid := s.p1000PciDid
        idModel := s.odBytes 0x100003 (asciiBytes "QY480 drive")
        idSerial := s.odBytes 0x100004 s.ident.serial
        idRev := match Tab.get? v.slots v.activeSlot with
          | some x => x.rev
          | none => 0 }
    else s)

/-! ORIENTATION (R46 to R49). -/

/-- ORIENTATION_HEAD_LOAD (R46): the spindle holds rated speed, and heads begin to load, one actuator
after the other (11 R348). -/
def execOrientationHeadLoad (s : State) : Eff :=
  .next (if s.sys.mode = .orientation && s.atRated then s.pumpMotion else s)

/-- The masks a failed restore names (R52). -/
def State.restoreFails (mask : Nat) (s : State) : State :=
  let s := (s.onSys fun y => { y with restoreFailed := true }).fault epPlacement 6 0
  s.enterLimited (0x600 + mask) [] false

/-- MAPPING_RESTORE (R46, 10 R322): `lost` lists the checkpoints and journal sectors of each copy that
could not be read. -/
def execMappingRestore (lost : List (Fin 4 × Bool × Nat)) (ms : Nat) (s : State) : Eff :=
  let may := decide (s.sys.mode = .orientation)
    || (decide (s.sys.mode = .limited) && !s.limitedNoLoad)
  .next (
    match s.sys.loadOrder with
    | [] => s
    | a :: r =>
      if !may || s.sys.mapRestored || s.sys.restoreFailed then s
      else
        match s.restoreMap (a :: r) lost ms with
        | (t, some m) => t.restoreFails m
        | (t, none) =>
          let t := (t.onSys fun y => { y with mapRestored := true }).event epPlacement 5 a.val
          let t := (if t.ident.tier = .a then t else t.soleNamespace).ringCompare
          ((t.ioCheck).serviceCheck).pumpMotion)

/-- CAL_DONE: ISL_CTL.CAL_DONE written by actuator core a (R47, 05 R156); `temps` are the head
temperatures its preamp reports, in 0.125 C (R51). -/
def execCalDone (a : Fin 4) (temps : List Int) (s : State) : Eff :=
  .next (
    if s.guestRuns a then
      let s := (s.onIsl a fun i => { i with calDone := true }).event (epAct a 0) (10 + a.val) 0
      let s := s.onSys fun y => { y with
        calReported := actPut y.calReported a true
        calTemps := setNth y.calTemps a.val temps
        needTouchdown := actPut y.needTouchdown a false }
      ((s.ladderCalibrated a).ioCheck).serviceCheck
    else s)

/-- An actuator's calibration has failed in ORIENTATION (R47). -/
def State.calFailed (a : Fin 4) (source : Nat) (s : State) : State :=
  (s.fault epResident source a.val).enterLimited (0x200 + actMask a) [a] false

/-- CAL_FAIL: ISL_CTL.CAL_FAIL written (R47). -/
def execCalFail (a : Fin 4) (s : State) : Eff :=
  .next (
    if s.guestRuns a then
      let s := s.onIsl a fun i => { i with calFail := true }
      if s.sys.mode = .orientation then s.calFailed a 4 else s
    else s)

/-- CAL_TIMEOUT (R47): OD 0x0200.07 has passed since the heads loaded. -/
def execCalTimeout (a : Fin 4) (s : State) : Eff :=
  .next (
    if s.sys.mode = .orientation && s.usable a && !actIn s.sys.calReported a
        && decide (s.p0200CalLimit * secTicks ≤ s.since (s.act a).isl.loadedAt) then s.calFailed a 5
    else s)

/-! LIMITED (R569). -/

/-- LIMITED_ACTUATOR_LOAD (R569): a safe actuator not yet loaded, at rated speed; a restore that is
not finished loads them as R46 gives. -/
def execLimitedActuatorLoad (a : Fin 4) (s : State) : Eff :=
  .next (
    if s.sys.mode = .limited && !s.limitedNoLoad && s.atRated && !s.motionBusy
        && s.sys.shutStage.isNone && decide (s.sys.shutState = .none) then s.startLoad a
    else s)

/-! RECESS and DORMANT (R40, R50, R51). -/

/-- Whether a deeper mode is to be entered (R38, R40, R49). -/
def State.entryDue (s : State) : Bool :=
  (decide (s.sys.mode = .service) || decide (s.sys.mode = .recess))
    && decide (s.sys.mode.code < s.target.code)
    && s.sys.entry.isNone && !s.sys.exiting && !s.sys.wakeReq && s.sys.shutStage.isNone
    && s.sys.powerLoss.isNone && s.sys.chipResetBy.isNone && !s.mediaBusy

/-- An entry starts (R50): from RECESS, data in the cache that DORMANT must flush wakes the heads
first. -/
def State.startEntry (s : State) : State :=
  if s.sys.mode = .recess && decide (s.target = .dormant) && (0 < s.dirtyPages || !s.journalClean) then
    s.onSys fun y => { y with wakeReq := true }
  else
    (s.onSys fun y => { y with
      entry := some { target := s.target, stage := .flushing, cutShort := false }
      transAt := s.now }).entryPump

/-- POWER_STATE_ENTRY (R38, R50, 21 R566): not while RETURN_IDLE runs. -/
def execPowerStateEntry (s : State) : Eff :=
  .next (if s.entryDue && !s.sys.returnArmed then s.startEntry else s)

/-- RETURN_IDLE_EXPIRY (R40): no media command for OD 0x0200.04. -/
def execReturnIdleExpiry (s : State) : Eff :=
  .next (
    if s.sys.returnArmed && !s.mediaBusy
        && decide (s.p0200ReturnIdle * msTicks ≤ s.since s.sys.mediaAt) then
      let s := s.onSys fun y => { y with returnArmed := false }
      if s.entryDue then s.startEntry else s
    else s)

/-- DORMANT is reached: DRAM enters self-refresh and the remaining domains switch off (R50 step 7, 13
R404). A scrub that runs ends with its domain. -/
def State.dormantReached (s : State) : State :=
  let s := if s.scr.state = .running then s.scrubEnd .aborted else s
  ((s.selfRefreshEnter).applyDomains .dormant).enterMode .dormant

/-- ENTRY_DOMAINS_OFF (R50 steps 6 and 7, 12 R381): once every head is parked; a command that cut the
entry short leaves the spindle at its present speed. -/
def execEntryDomainsOff (s : State) : Eff :=
  .next (match s.sys.entry with
    | none => s
    | some e =>
      if e.stage ≠ .unloading || !s.allParked then s
      else
        let s := s.applyDomains .recess
        if e.cutShort then
          let s := if s.spn.rampDue then
              s.writeTarget (BitVec.ofNat 32 (s.spn.reference / 12500000)) else s
          s.enterMode .recess
        else
          let s := s.onSys fun y => { y with entry := some { e with stage := .slewing } }
          if e.target = .recess then s.writeTarget (BitVec.ofNat 32 (16 * s.p0200RecessRpm))
          else
            let s := s.spnStop
            if s.spnIsOff then s.dormantReached else s)

/-- RECESS_SLEW_END (R50 step 7): the speed reference has reached OD 0x0200.05. -/
def execRecessSlewEnd (s : State) : Eff :=
  .next (match s.sys.entry with
    | none => s
    | some e =>
      if e.stage = .slewing && decide (e.target = .recess)
          && decide (s.spn.reference = spd16 s.spn.target.toNat) then s.enterMode .recess
      else s)

/-- Whether stored calibration is valid (R51): for every head of every present and safe actuator,
within 10 C of its value at calibration. -/
def State.calValid (s : State) (temps : List (Fin 4 × List Int)) : Bool :=
  s.presentActs.all fun a =>
    s.unsafeAct a ||
      let c := nth s.sys.calTemps a.val []
      match temps.find? fun x => decide (x.1 = a) with
      | some x => !c.isEmpty && decide (x.2.length = c.length)
          && (List.zip c x.2).all fun p => decide ((p.1 - p.2).natAbs ≤ 80)
      | none => false

/-- Whether the device leaves RECESS or DORMANT (R38, R40, R53). -/
def State.exitDue (s : State) : Bool :=
  (decide (s.sys.mode = .recess) || decide (s.sys.mode = .dormant))
    && !s.sys.exiting && s.sys.entry.isNone && s.sys.powerLoss.isNone
    && (s.sys.wakeReq || (decide (s.target = .service) && !s.sys.shutHold && s.sys.shutStage.isNone))

/-- POWER_STATE_EXIT (R51): `temps` are the head temperatures read once the domains are ready, which
judge stored calibration on an exit from DORMANT. -/
def execPowerStateExit (temps : List (Fin 4 × List Int)) (s : State) : Eff :=
  .next (
    if !s.exitDue then s
    else
      let dorm := decide (s.sys.mode = .dormant)
      let s := s.onSys fun y => { y with
        wakeReq := false, shutHold := false, loadFailed := 0, transAt := s.now
        shutState := if y.shutStage.isSome then y.shutState else .none }
      let s := s.applyDomains .service
      let rated := 16 * s.p2010RatedRpm
      if dorm then
        let s := (s.selfRefreshExit).bringToRated
        if s.calValid temps then s.onSys fun y => { y with exiting := true }
        else
          (s.onSys fun y => { y with
            calReported := 0, calTemps := [[], [], [], []], ioAccepted := false }).enterMode .orientation
      else
        let flag := if s.cruiseOff then 0 else 2 ^ 31
        (s.writeTarget (BitVec.ofNat 32 (rated + flag))).onSys fun y => { y with exiting := true })

/-- EXIT_HEAD_LOAD (R51): at 4,800 rpm and above, one actuator at a time. -/
def execExitHeadLoad (a : Fin 4) (s : State) : Eff :=
  .next (
    if s.sys.exiting && decide (16 * 4800 ≤ s.spn.speed.toNat) && !s.motionBusy then
      (s.startLoad a).exitCheck
    else s)

/-- The mode a transition leads to, if one runs, and when it began. -/
def State.transition (s : State) : Option (Mode × BitVec 64) :=
  match s.sys.entry with
  | some e => some (e.target, s.sys.transAt)
  | none =>
    if s.sys.exiting then some (.service, s.sys.transAt)
    else if s.sys.shutStage.isSome then some (.dormant, s.sys.transAt)
    else if s.sys.mode = .fill then some (.orientation, s.sys.modeEntered)
    else if s.sys.mode = .orientation then some (.service, s.sys.modeEntered)
    else none

/-- MODE_TRANSITION_OVERRUN (R65): fault source 10 with the target mode, 5 s and more after the transition
began (log 104). -/
def execModeTransitionOverrun (s : State) : Eff :=
  .next (
    match s.transition with
    | some (m, t) => if 5 * secTicks ≤ s.since t then s.fault epSystem 10 m.code else s
    | none => s)

/-! Orderly shutdown and chip reset (R53 to R56). -/

/-- SHUTDOWN_NORMAL: CC.SHN = 01b, or OD 0x0203.01 (R53). -/
def execShutdownNormal (viaDict : Bool) (ctrl : Fin 2) (s : State) : Eff :=
  let s := if viaDict then s else s.event (epHost ctrl) 34 (ctrl.val + 256)
  .next (s.requestShutdown .normal)

/-- SHUTDOWN_ABRUPT: CC.SHN = 10b (R54). -/
def execShutdownAbrupt (ctrl : Fin 2) (s : State) : Eff :=
  .next ((s.event (epHost ctrl) 34 (ctrl.val + 512)).requestShutdown .abrupt)

/-- SHUTDOWN_COMPLETE (R53 step 8, R54, R55). An abrupt shutdown reports once every head is parked and
goes on to write what the cache holds; a normal one reports once the spindle has stopped. -/
def execShutdownComplete (s : State) : Eff :=
  .next (match s.sys.shutStage, s.sys.shutKind with
    | some .unloading, some .abrupt =>
      if !s.allParked || decide (s.sys.shutState = .complete) then s
      else
        let more := decide (s.sys.mode ≠ .limited) && (0 < s.dirtyPages || !s.journalClean)
        let s := s.reportShutdown .abrupt
        (s.onSys fun y => { y with
          shutStage := some (if more then .flushing else .braking) }).shutStep
    | some .unloading, some .normal =>
      if s.allParked then (s.onSys fun y => { y with shutStage := some .braking }).shutStep else s
    | some .braking, some k =>
      if !s.allParked || !s.spnIsOff then s
      else
        let s := s.onSys fun y => { y with shutStage := none }
        let s := if s.sys.mode = .limited then s.switchOffAll (modeOff .recess |>.filter fun d => 20 ≤ d)
          else if s.sys.mode = .dormant then s
          else s.dormantReached
        let s := s.onSys fun y => { y with shutHold := decide (y.mode = .dormant) }
        if k = .normal then s.reportShutdown .normal else s
    | _, _ => s)

/-- CHIP_RESET (R56): once every head is parked, or 300 ms after the retract began, and after the shutdown steps of one asked for by the
dictionary or by NSSR. -/
def execChipReset (s : State) : Eff :=
  .next (
    if s.sys.chipResetBy.isSome && s.sys.shutStage.isNone && s.sys.powerLoss.isNone
        && (s.allParked || decide (300 * msTicks ≤ s.since s.sys.resetAt)) then
      (s.onIdent fun i => { i with straps := s.evc.gpioLevel }).bringUp false
    else s)

/-! Power loss (R57 to R61). -/

/-- The kind of a declaration (R65). -/
def plCode : PlCause → Nat
  | .comparator => 0
  | .v12 _ => 1
  | .v5 _ => 2
  | .pwrdis => 3

/-- A domain's switching stops where it stands: one not yet ready is off (R58, 18 R500). -/
def State.freezeDomain (d : Nat) (s : State) : State :=
  s.onDom d fun x => { x with
    wantOn := false, wantOff := false
    state := match x.state with
      | .switchingOn => .off
      | .filling => .off
      | y => y }

/-- Whether the condition of a cause holds (R57). -/
def State.plHolds (s : State) (cause : PlCause) : Bool :=
  match cause with
  | .comparator => true
  | .v12 mv => decide (mv < s.p0202Pl12vLevel)
  | .v5 mv => decide (mv < 4400)
  | .pwrdis => s.p0202PwrdisEnable

/-- The sense a cause names is read (18 R508). -/
def State.plSense (cause : PlCause) (s : State) : State :=
  match cause with
  | .v12 mv => s.sawSupply mv s.sys.v5
  | .v5 mv => s.sawSupply s.sys.v12 mv
  | _ => s

/-- POWER_LOSS_DECLARED (R57, R58). -/
def execPowerLossDeclared (cause : PlCause) (s : State) : Eff :=
  .next (
    if s.sys.powerLoss.isSome || !s.plHolds cause then s
    else
      let s := s.plSense cause
      let s := if cause = .pwrdis then s.fault epSystem 9 0 else s.fault epSystem 8 (plCode cause)
      let s := (s.count 0x020201 1).odSet 0x020203 (if cause = .pwrdis then 4 else 0)
      let s := foldS (fun a t => (t.wpPowerLoss a).makeSafe a) s.presentActs s
      let s := s.spnPowerLoss.stopFetch.onNvme fun v => { v with cmds := [], aens := [] }
      let s := foldS State.freezeDomain (List.range 32) s
      let s := foldS State.cutDomain [2, 3, 4, 5, 11, 12, 13, 17, 18, 28, 29] s
      let up := (s.presentActs.filter fun a => decide ((s.act a).isl.load ≠ .parked)).foldl
        (fun (m : BitVec 4) a => actPut m a true) 0
      let s := s.ybAppendNow 0x0003 (leBytes 1 (plCode cause) ++ leBytes 1 s.sys.mode.code)
      s.onSys fun y => { y with
        powerLoss := some { cause := BitVec.ofNat 4 (plCode cause), retracting := 0, toRetract := up
                            done := false, since := s.now, nor := true }
        entry := none, exiting := false, shutStage := none, chipResetBy := none, supplyWait := false })

/-- EMERGENCY_RETRACT_START (R58): 20 us after the declaration, and 1 ms apart from actuator to
actuator. -/
def execEmergencyRetractStart (a : Fin 4) (s : State) : Eff :=
  .next (match s.sys.powerLoss with
    | some p =>
      if actIn p.toRetract a && !actIn p.retracting a
          && decide (20 * usTicks + a.val * msTicks ≤ s.since p.since) then
        (s.onSys fun y => { y with
          powerLoss := some { p with retracting := actPut p.retracting a true } }).startUnload a true
      else s
    | none => s)

/-- LAST_HEAD_PARKED (R58, R60, R61): the retract-outcome record, and the spindle leaves
SYNC_RECT. -/
def execLastHeadParked (ms : Nat) (s : State) : Eff :=
  .next (match s.sys.powerLoss with
    | some p =>
      if p.toRetract ≠ 0 || p.done then s
      else
        let s := (s.odSet 0x020202 ms).onSys fun y => { y with powerLoss := some { p with done := true } }
        let s := if p.nor then
            s.ybAppendNow 0x0004 (leBytes 2 ms ++ leBytes 1 (s.odNat 0x020203 0)) else s
        if s.spn.state = .syncRect then s.spnEnter .coast else s
    | none => s)

/-- RETRACT_ENERGY_LOW (R60): RETRACT asserts; `norOk` says that NOR can still be programmed. -/
def execRetractEnergyLow (norOk : Bool) (s : State) : Eff :=
  .next (match s.sys.powerLoss with
    | some p =>
      if p.toRetract = 0 || s.sys.retract then s
      else
        let left := s.presentActs.filter fun a => actIn p.toRetract a
        let s := foldS (fun a t => t.fault epSystem 7 a.val) left s
        let s := s.odSet 0x020203 (fld (s.odNat 0x020203 0) 2 1 * 4 + 3)
        s.onSys fun y => { y with
          retract := true, needTouchdown := y.needTouchdown ||| p.toRetract
          powerLoss := some { p with nor := norOk } }
    | none => s)

/-- POWER_LOSS_END (R61): the supplies have been in range for 10 ms, at least since the declaration, once
the last head is parked. -/
def execPowerLossEnd (s : State) : Eff :=
  .next (match s.sys.powerLoss with
    | some p =>
      if (p.done || p.toRetract = 0) && decide (10 * msTicks ≤ s.since p.since) then
        ((s.onPorts fun x => { x with plComp := false, pwrdis := false }).onIdent fun i => { i with
          straps := s.evc.gpioLevel }).bringUp false
      else s
    | none => s)

/-! The ends of head movement (05) and of braking (04). -/

/-- BRAKE_STOPPED (04 R113): no zero crossing for 200 ms; a start that braked the rotor goes on with
ALIGN. -/
def execBrakeStopped (s : State) : Eff :=
  .next (
    if s.spn.state ≠ .brake || s.spn.zeroVector || decide (s.since s.spn.eventAt < 200 * msTicks) then s
    else
      let stop := s.spn.stopReq
      let again := s.spn.runReq
      let s := s.event epSpindle 143 0
      if stop then
        let s := s.spnEnter .off
        match s.sys.entry with
        | some e =>
          if e.stage = .slewing && decide (e.target = .dormant) then s.dormantReached else s
        | none => if s.sys.shutStage.isNone && again then s.spnStart else s.shutStep
      else s.spnAlign)

/-- LOCK_ACQUIRED (05 R143, R149): LOCK_COUNT good wedges; during a load the VCM passes to a running
engine and the heads are LOADED. -/
def execLockAcquired (a : Fin 4) (s : State) : Eff :=
  let d := (s.act a).svd
  .next (
    if d.locked || !d.counted || decide (d.lockRun < max 1 (s.p3400LockCount a)) then s
    else
      let s := (s.onSvd a fun d => { d with locked := true }).onIsl a fun i => { i with
        synLocked := true }
      let s := (s.markLocked a true false).actEvent a 2 0 d.head.toNat
      let l := (s.act a).isl.load
      let e := (s.act a).sve
      let runs := decide (e.state = .running) || decide (e.state = .hold) || e.runReq
      if (decide (l = .loading) || decide (l = .acquiring)) && runs then
        let s := s.onIsl a fun i => { i with load := .loaded, loadReq := false }
        (((s.islandRequest a).countA 0x340013 a 1).ladderLoaded a).headsLoaded a
      else s)

/-- Whether the present step of a load or unload has lasted so many milliseconds. -/
def State.stepLasted (s : State) (a : Fin 4) (ms : Nat) : Bool :=
  decide (ms * msTicks ≤ s.since (s.act a).isl.stepAt)

/-- A load has failed for good: PARKED, with fault offset `off` (05 R149). -/
def State.loadGaveUp (a : Fin 4) (off : Nat) (s : State) : State :=
  let s := (if off = 4 then s.senseFault a 0 else s.actFault a 5 off 0).onIsl a fun i => { i with
    load := .parked, loadReq := false, retryLoad := false, coilPhase := false }
  ((s.vcmSend a 0 0).islandRequest a).loadFailed a

/-- COIL_MEASURE_END (05 R149 step 2): after 1 ms R = 0.3 V / VCM_I, refused outside 0.5 to 2 times the
previous value; `good` says which it is. -/
def execCoilMeasureEnd (a : Fin 4) (good : Bool) (s : State) : Eff :=
  .next (
    if !(s.act a).isl.coilPhase || !s.stepLasted a 1 then s
    else
      let r := fDiv 0x3E99999A (fAbs (nth (s.act a).msn.latest 4 0))
      let key := 0x340011 + 0x10000 * a.val
      let prev := s.coilRes a
      let bad := fLt r (fMul 0x3F000000 prev) || fLt (fMul 0x40000000 prev) r || fIsNaN r
      if good = bad then s
      else
        let s := s.odSet key r.toNat
        if bad then s.loadGaveUp a 4 else s.beginLoading a)

/-- LOAD_TIMEOUT (05 R149): LOCKED has not set within OD 0x3400.0B; the island unloads, and retries or gives
up once the arm is parked. -/
def execLoadTimeout (a : Fin 4) (s : State) : Eff :=
  let i := (s.act a).isl
  .next (
    if (decide (i.load = .loading) || decide (i.load = .acquiring))
        && s.stepLasted a (s.p3400LoadTimeout a) then
      let s := (s.actEvent a 5 7 i.attempt.toNat).startUnload a false
      if i.attempt.toNat < s.p3400LoadRetries a then
        s.onIsl a fun i => { i with retryLoad := true, loadReq := true }
      else s.onIsl a fun i => { i with gaveUp := true }
    else s)

/-- The arm is taken as parked; a load given up is reported, and what waited for the arm goes on unless the
load is retried (05 R149). -/
def State.parkAfter (a : Fin 4) (mode : BitVec 2) (s : State) : State :=
  let lost := (s.act a).isl.gaveUp
  let s := (s.enterParked a mode).ladderServoLost a
  let s := s.doIf lost fun t => (t.actFault a 5 3 0).loadFailed a
  if (s.act a).isl.load ≠ .parked then s else s.headsParked a

/-- ARM_PARKED (05 R150): |w| below 0.05 rad/s for 20 ms; event offset 6, and a failed load attempt
that is retried starts again. -/
def execArmParked (a : Fin 4) (s : State) : Eff :=
  let i := (s.act a).isl
  .next (
    if (decide (i.load = .unloading) || decide (i.load = .retracting)) && !(s.act a).sve.damping
        && fLt (fAbs i.vel) 0x3D4CCCCD && decide (20 * msTicks ≤ s.since i.stillAt) then
      (s.actEvent a 5 6 (b2n i.retract)).parkAfter a 0
    else s)

/-- UNLOAD_TIMEOUT (05 R150): not parked within 200 ms; fault offset 3, kind 1. -/
def execUnloadTimeout (a : Fin 4) (s : State) : Eff :=
  let i := (s.act a).isl
  .next (
    if (decide (i.load = .unloading) || decide (i.load = .retracting)) && s.stepLasted a 200 then
      (s.actFault a 5 3 1).parkAfter a 3
    else s)

/-! Placement's durable ends. -/

/-- COMMIT_DURABLE (10 R319, R336): a copy is written or found unwritable; an entry or a shutdown that
waited for the journal goes on. -/
def execCommitDurable (a : Fin 4) (ok : Bool) (s : State) : Eff := .next (s.copyWritten a ok).modePump

/-- CHECKPOINT_DURABLE (10 R321). -/
def execCheckpointDurable (s : State) : Eff := .next (s.checkpointDurable).modePump

/-- HOMEWORK_TRACK_STEP (10 R326, R327): a move that uses spare may raise a critical warning (12
R388). -/
def execHomeworkTrackStep (job : Nat) (bad : List Nat) (s : State) : Eff :=
  .next (s.homeworkStep job bad).updateWarnings

end Sys2Proof.Machine
end

