-- ==== Sys2Proof/Machine/Events.lean ====
section
/-! DEFINITION. The event controller, the timers and the GPIO edges (19), and the DMA commands that
reach the engine without touching memory (15 R442, R443, R446, R450, R453). -/

namespace Sys2Proof.Machine

open Sys2Proof

/-! DMA channels. -/

/-- A DMA channel. -/
def State.dmaCh (s : State) (n : Fin 16) : DmaCh := Tab.getD s.dma.ch n.val DmaCh.reset

/-- A DMA channel replaced. -/
def State.onDmaCh (n : Fin 16) (f : DmaCh → DmaCh) (s : State) : State :=
  s.onDma fun d => { d with
    ch := Tab.put d.ch n.val (f (Tab.getD d.ch n.val DmaCh.reset)) DmaCh.reset }

/-- The actuator a guest channel belongs to (R438). -/
def dmaGuest (n : Fin 16) : Option (Fin 4) :=
  if h : 8 ≤ n.val then some ⟨(n.val - 8) / 2, by omega⟩ else none

/-- Whether a channel can run: its domain is on and its actuator present (R438, R451). -/
def State.dmaLive (s : State) (n : Fin 16) : Bool :=
  s.domOn 19 && (match dmaGuest n with
    | some a => s.present a
    | none => true)

/-- The address DMA_PTR names. -/
def DmaCh.addr (c : DmaCh) : Nat := c.ptr.toNat * 32

/-- A flag of DMA_FLAGS set: 0 DONE, 1 PARKED, 2 ERROR, 3 TRIG_OVR, 4 CONFLICT. -/
def DmaCh.flag (i : Nat) (c : DmaCh) : DmaCh := { c with flags := setBit c.flags i true }

/-- Event 97 + 2n: the channel stopped, with its reason (R455). -/
def State.dmaStopped (n : Fin 16) (reason : Nat) (s : State) : State :=
  s.event epDma (97 + 2 * n.val) ((s.dmaCh n).addr + reason)

/-- The mover is released by a channel that holds it (R443). -/
def State.dmaRelease (n : Fin 16) (s : State) : State :=
  if s.dma.owner = some n then s.onDma fun d => { d with owner := none } else s

/-- A descriptor whose trigger has occurred is ready; the holder of the mover goes on at once
(R443). -/
def State.dmaReady (n : Fin 16) (s : State) : State :=
  let st : DmaState := if s.dma.owner = some n then .active else .ready
  s.onDmaCh n fun c => { c with state := st, trigSeen := true }

/-- An occurrence of a trigger reaches one channel (R442). -/
def State.dmaTrigger1 (kind sel : Nat) (n : Fin 16) (s : State) : State :=
  let c := s.dmaCh n
  match c.desc with
  | some d =>
    let w := d.control.toNat
    if fld w 24 2 = kind && fld w 20 4 = sel && decide (c.state ≠ .error) then
      if c.trigSeen then s.onDmaCh n (DmaCh.flag 3)
      else if c.state = .waiting then s.dmaReady n
      else s
    else s
  | none => s

/-- An occurrence of a timer (1) or of a channel's completion (2) (R442). -/
def State.dmaTrigger (kind sel : Nat) (s : State) : State :=
  foldS (State.dmaTrigger1 kind sel) (List.finRange 16) s

/-- DMA_KICK (R446). -/
def execDmaKick (n : Fin 16) (s : State) : Eff :=
  .next (
    if !s.dmaLive n then s
    else
      match (s.dmaCh n).state with
      | .parked => s.onDmaCh n fun c => { c with state := .fetch, desc := none }
      | .idle => s.onDmaCh n fun c => { c with state := .fetch, desc := none }
      | .error => s.onDmaCh n fun c => { c with state := .fetch, desc := none }
      | .aborting => s
      | _ => s.onDmaCh n fun c => { c with kickPend := true })

/-- ABORT of a channel (R450). -/
def State.dmaAbort (n : Fin 16) (s : State) : State :=
  if !s.dmaLive n then s
  else
    match (s.dmaCh n).state with
    | .parked => s.onDmaCh n fun c => { c with state := .idle, desc := none, left := 0 }
    | .error => s.onDmaCh n fun c => { c with state := .idle, desc := none, left := 0 }
    | .idle => s
    | _ => s.onDmaCh n fun c => { c with state := .aborting }

/-- DMA_ABORT (R450). -/
def execDmaAbort (n : Fin 16) (s : State) : Eff := .next (s.dmaAbort n)

/-- DMA_PTR_WRITE (R450, R453). -/
def execDmaPtrWrite (n : Fin 16) (v : BitVec 32) (s : State) : Eff :=
  .next (
    if !s.dmaLive n then s
    else
      match (s.dmaCh n).state with
      | .idle => s.onDmaCh n fun c => { c with ptr := v.extractLsb' 5 27 }
      | .parked => s.onDmaCh n fun c => { c with ptr := v.extractLsb' 5 27 }
      | .error => s.onDmaCh n fun c => { c with ptr := v.extractLsb' 5 27 }
      | _ => s.onDmaCh n (DmaCh.flag 4))

/-- MOVER_GRANT (R443): the ready channel with the lowest number. -/
def execMoverGrant (s : State) : Eff :=
  .next (
    if s.dma.owner.isSome then s
    else
      match (List.finRange 16).find? fun n => decide ((s.dmaCh n).state = .ready) with
      | some n =>
        (s.onDma fun d => { d with owner := some n }).onDmaCh n fun c => { c with state := .active }
      | none => s)

/-! Timers (R527, R528, R533). -/

/-- A timer. -/
def State.timer (s : State) (t : Nat) : Timer := Tab.getD s.tims t Timer.reset

/-- A timer replaced. -/
def State.onTimer (t : Nat) (f : Timer → Timer) (s : State) : State :=
  { s with tims := Tab.put s.tims t (f (Tab.getD s.tims t Timer.reset)) Timer.reset }

/-- A flag of TIM_FLAGS set: 0 FIRED, 1 MISSED, 2 CONFLICT. -/
def Timer.flag (i : Nat) (t : Timer) : Timer := { t with flags := setBit t.flags i true }

/-- A write of TIM_CTL without RUN and STOP: MODE and SRC. -/
def Timer.ctl (v : BitVec 32) (t : Timer) : Timer :=
  { t with mode := v.extractLsb' 28 2, src := v.extractLsb' 0 9 }

/-- Whether RUN is refused: RELOAD 0 in modes 0b00 and 0b01, or a relay of the timer's own event. -/
def Timer.badRun (n : Nat) (t : Timer) : Bool :=
  match t.mode.toNat with
  | 0 => decide (t.reload = 0)
  | 1 => decide (t.reload = 0)
  | 2 => decide (t.src.toNat = 320 + n)
  | _ => false

/-- RUN: started or armed. -/
def Timer.start (now : BitVec 64) (x : Timer) : Timer :=
  let t := { x with armedAt := now }
  match t.mode.toNat with
  | 2 => { t with run := true, counting := false, fires := 0 }
  | 3 => { t with run := true, counting := false, fires := 0 }
  | _ => { t with run := true, counting := true, count := t.reload, fires := 0 }

/-- TIM_RUN. -/
def execTimRun (t : Fin 16) (v : BitVec 32) (s : State) : Eff :=
  .next (
    if !s.domOn 19 then s
    else s.onTimer t.val fun x =>
      let x := x.ctl v
      if x.badRun t.val then x.flag 2 else x.start s.now)

/-- STOP of a timer. -/
def Timer.stop (t : Timer) : Timer := { t with run := false, counting := false }

/-- TIM_STOP. -/
def execTimStop (t : Fin 16) (s : State) : Eff :=
  .next (if s.domOn 19 then s.onTimer t.val Timer.stop else s)

/-- A timer after it has fired. -/
def Timer.fired (t : Timer) : Timer :=
  let t := { (t.flag 0) with fires := t.fires + 1 }
  match t.mode.toNat with
  | 1 => { t with count := t.reload }
  | 2 => { t with count := 0, counting := false }
  | _ => { t with run := false, counting := false, count := 0 }

/-- Whether a timer is to fire now, a tick after it was started or loaded at the earliest: at zero, or at
the tick at which the fabric core's replica reaches TIM_AT (R527, R528). -/
def State.timerDue (s : State) (t : Nat) : Bool :=
  let x := s.timer t
  x.run && decide (x.armedAt ≠ s.now)
    && (if x.mode = 3 then decide (x.atTime.toNat ≤ (s.localTime epDma).toNat)
        else x.counting && decide (x.count = 0))

/-- TIMER_FIRE: event 320 + t with TIM_FIRES, and the DMA triggers (15 R442). -/
def execTimerFire (t : Fin 16) (s : State) : Eff :=
  .next (
    if s.timerDue t.val then
      let s := s.onTimer t.val Timer.fired
      (s.event epDma (320 + t.val) (s.timer t.val).fires.toNat).dmaTrigger 1 t.val
    else s)

/-- One tick of chip time: the count of 5 ns ticks and the timers that count, the instant of the last
outstanding media command (02 R40), gates whose dead time ends (04 R98), the 1 MHz
samples of the islands (05 R136, R145), the correction of the replicas, and
Controller Busy Time while I/O commands are outstanding (01 R13, 12 R388, R527). -/
def State.tick (s : State) : State :=
  let s := s.onFab fun f => { f with
    chipTime := f.chipTime + 1
    replica := f.replica.map fun d => if d < 0 then d + 1 else if 0 < d then d - 1 else 0 };
  let s := s.driveGates s.spn.gatesWant;
  let s := s.doIf (decide (s.ticks % usTicks = 0)) fun t =>
    foldS (fun a u => u.doIf (u.domOn (24 + a.val)) (State.motionSample a)) t.presentActs t;
  let s := s.doIf s.mediaBusy fun t => t.onSys fun y => { y with mediaAt := s.now };
  let s := s.doIf (s.nvme.cmds.any fun k => !k.admin) fun t => t.onNvme fun v => { v with
    busyTicks := v.busyTicks + 1 };
  { s with tims := s.tims |> Tab.map fun _ t =>
      if t.run && t.counting && decide (t.count ≠ 0) then { t with count := t.count - 1 } else t }

/-! Intake of events (R522, R528). -/

/-- A relay timer sees an occurrence of an event. -/
def Timer.relay (now : BitVec 64) (e : Nat) (t : Timer) : Timer :=
  if t.run && decide (t.mode = 2) && decide (t.src.toNat = e) then
    if t.counting then t.flag 1 else { t with count := t.reload, counting := true, armedAt := now }
  else t

/-- Whether the tier has the unit an event belongs to (R522, R530). -/
def State.evPresent (s : State) (e : Nat) : Bool :=
  if h : 144 ≤ e ∧ e ≤ 239 then s.present ⟨(e - 144) / 24, by omega⟩
  else if h : 112 ≤ e ∧ e ≤ 127 then s.present ⟨(e - 112) / 4, by omega⟩
  else if 80 ≤ e && e ≤ 95 then s.hasCipher
  else true

/-- The events that never become pending in stepping A1 (R530). -/
def evNever (e : Nat) : Bool :=
  [(23, 31), (48, 48), (50, 63), (75, 79), (92, 95), (244, 247), (260, 263), (290, 295)].any
    fun r => decide (r.1 ≤ e) && decide (e ≤ r.2)

/-- An occurrence of an event is taken; one of a unit the tier lacks, and one R530 marks so, never becomes
pending (00 R3). -/
def State.takeEvent (e : Nat) (q : BitVec 32) (s : State) : State :=
  if !s.evPresent e || evNever e then s
  else if 351 < e then
    (s.count 0x640004 1).onEvc fun v => { v with badEvent := true }
  else
    let s := (s.count 0x640003 1).onEvc fun v => { v with
      pend := setBit v.pend e true
      ovr := if v.pend.getLsbD e then setBit v.ovr e true else v.ovr
      qual := Tab.put v.qual e q 0 };
    { s with tims := Tab.map (fun _ t => t.relay s.now e) s.tims }

/-- Whether a message is an event from an endpoint. -/
def Msg.isEvent (src : Endpoint) (m : Msg) : Bool :=
  decide (m.src = src) && decide (m.dst = epEvents) && (match m.body with
    | .event _ _ => true
    | _ => false)

/-- EVENT_INTAKE: the oldest event message in flight from an endpoint. -/
def execEventIntake (src : Endpoint) (s : State) : Eff :=
  .next (
    let r := s.takeMsg (Msg.isEvent src)
    match r.1 with
    | some { body := .event num q, .. } => r.2.takeEvent num.toNat q
    | _ => r.2)

/-- The bits of an event flag word at their place among the 352. -/
def evcBits (w : Nat) (bits : BitVec 32) : BitVec 352 := (bits.setWidth 352) <<< (32 * w)

/-- EVC_PEND_CLEAR (R525). -/
def execEvcPendClear (w : Fin 11) (bits : BitVec 32) (s : State) : Eff :=
  .next (s.onEvc fun v => { v with pend := v.pend &&& ~~~ (evcBits w.val bits) })

/-- The lowest event of a mask (R525). -/
def lowestEvent (m : BitVec 352) : Option Nat := (List.range 352).find? fun e => m.getLsbD e

/-- The event a global target claims (R525). -/
def State.evcClaim (s : State) (c : Nat) : Option Nat :=
  lowestEvent (s.evc.pend &&& Tab.getD s.evc.en c 0)

/-- The interrupt line of a global target, 0 to 3 the principal cores and 4 the housekeeping core: the OR
of what is pending and enabled, which a target whose domain is off does not receive (R524). -/
def State.irqLine (s : State) (c : Nat) : Bool :=
  s.domOn (if c < 4 then 2 + c else 0) && (s.evcClaim c).isSome

/-- The event number of a bit of an actuator's view (R526). -/
def viewEvent (a : Fin 4) (i : Nat) : Nat :=
  if i < 24 then 144 + 24 * a.val + i else 112 + 4 * a.val + (i - 24)

/-- Flags of the 352 in the layout of an actuator's view. -/
def viewBits (a : Fin 4) (m : BitVec 352) : BitVec 28 :=
  (List.range 28).foldl (fun v i => setBit v i (m.getLsbD (viewEvent a i))) 0

/-- The interrupt line of an actuator core: the OR over its view (R524, R526). -/
def State.viewLine (s : State) (a : Fin 4) : Bool :=
  s.domOn (20 + a.val) && decide (viewBits a s.evc.pend &&& s.evc.vEn.get a ≠ 0)

/-- Bits of an actuator's view among the 352 flags. -/
def viewMask (a : Fin 4) (b : BitVec 28) : BitVec 352 :=
  (List.range 28).foldl (fun m i => if b.getLsbD i then setBit m (viewEvent a i) true else m) 0

/-- GPIO_EDGE (R529): the filtered level changes; from core release an edge that is selected is an
event. -/
def execGpioEdge (g : Fin 16) (level : Bool) (s : State) : Eff :=
  .next (
    if s.evc.gpioLevel.getLsbD g.val = level then s
    else
      let s := s.onEvc fun v => { v with gpioLevel := setBit v.gpioLevel g.val level }
      let sel := fld s.evc.gpioEdge.toNat (2 * g.val) 2
      let chosen := if level then bitOf sel 0 else bitOf sel 1
      if s.sys.coreReleased && chosen then
        s.event epSystem (336 + g.val) (2 * b2n level + b2n level)
      else s)

end Sys2Proof.Machine
end

