-- ==== Sys2Proof/Machine/Ports.lean ====
section
/-! DEFINITION. The commands of the ports (20): the UART download, JTAG and LED_ACT. -/

namespace Sys2Proof.Machine

open Sys2Proof

/-- The device sends a byte on the UART. -/
def State.uartSend (b : Byte) (s : State) : State :=
  s.onPorts fun p => { p with uartTx := p.uartTx ++ [b] }

/-- The download returns to step 1 of R541. -/
def State.uartRestart (s : State) : State :=
  s.onPorts fun p => { p with uart := .prompting, uartSeq := 0, uartLast := none, uartImage := [], uartAt := none }

/-- So many seconds have passed since the last prompt or byte, if any. -/
def State.uartQuiet (s : State) (secs : Nat) : Bool := s.ports.uartAt.all fun t => decide (secs * secTicks ≤ s.since t)

/-- UART_PROMPT (R541 step 1): once per second until a block arrives. -/
def execUartPrompt (s : State) : Eff :=
  .next (
    if s.ports.uart = .prompting && s.uartQuiet 1 then
      (s.uartSend 0x43).onPorts fun p => { p with uartAt := some s.now }
    else s)

/-- The bytes a block's CRC covers: sequence, length and data (R541 step 2). -/
def uartCovered (seq : BitVec 8) (data : List Byte) : List Byte :=
  seq :: (leBytes 2 data.length ++ data)

/-- A block is programmed in slot 2, which holds no whole image until the download ends (R541 step 5). -/
def State.slotPartial (s : State) : State :=
  s.onNvme fun v => { v with
    slots := Tab.set v.slots 2
      { guests := false, verifies := false, rev := ((Tab.get? v.slots 2).map (·.rev)).getD 0 } }

/-- UART_BLOCK (R541 steps 2, 3 and 5): a block is taken and programmed in slot 2, or refused. -/
def execUartBlock (seq : BitVec 8) (data : List (BitVec 8)) (crc : BitVec 32) (s : State) : Eff :=
  .next (
    if s.ports.uart = .off then s
    else
      let good := decide (1 ≤ data.length) && decide (data.length ≤ 1024)
        && decide (crc.toNat = crc32 (uartCovered seq data))
      let s := s.onPorts fun p => { p with uart := .receiving, uartAt := some s.now }
      if !good then s.uartSend 0x15
      else if s.ports.uartLast = some seq then s.uartSend 0x06
      else if seq ≠ s.ports.uartSeq || 0x1000000 < s.ports.uartImage.length + data.length then
        s.uartSend 0x15
      else
        (s.slotPartial.onPorts fun p => { p with
          uartSeq := p.uartSeq + 1, uartLast := some seq, uartImage := p.uartImage ++ data })
          |>.uartSend 0x06)

/-- UART_END (R541 steps 4 and 5): `verifies` says whether the image in slot 2 verifies as R44
gives. -/
def execUartEnd (length : Nat) (crc : BitVec 32) (verifies : Bool) (s : State) : Eff :=
  .next (
    if s.ports.uart = .off then s
    else
      let image := s.ports.uartImage
      if decide (length = image.length) && decide (crc.toNat = crc32 image) && verifies then
        let s := s.onNvme fun v => { v with
          imageRev := v.imageRev + 1
          slots := Tab.set v.slots 2 { guests := false, verifies := true, rev := v.imageRev + 1 } }
        (s.uartSend 0x06).requestChipReset 0
      else (s.uartSend 0x15).uartRestart)

/-- UART_IDLE_TIMEOUT (R541): 10 s without a byte. -/
def execUartIdleTimeout (s : State) : Eff :=
  .next (if s.ports.uart = .receiving && s.uartQuiet 10 then s.uartRestart else s)

/-- Whether a JTAG instruction other than BYPASS or IDCODE is taken (R557). -/
def State.jtagOpen (s : State) : Bool :=
  s.p6300DebugEnable && s.spnIsOff && !(s.presentActs.any fun a => s.loaded a)

/-- JTAG_INSTRUCTION (R557). -/
def execJtagInstruction (i : JtagIr) (s : State) : Eff :=
  .next (s.onPorts fun p => { p with
    jtag := match i with
      | .other => if s.jtagOpen then .other else .bypass
      | i => i })

/-- LED_ACT_TIMEOUT (R539): 50 ms after the last start of a media operation. -/
def execLedActTimeout (s : State) : Eff :=
  .next (s.doIf (s.ports.ledAct && decide (50 * msTicks ≤ s.since s.ports.ledAt)) fun t =>
    t.onPorts fun p => { p with ledAct := false })

/-- LED_FLT (R539): on, blinking at 1 Hz, or off. -/
inductive LedFlt where
  | on
  | blink
  | off
  deriving DecidableEq, Repr

/-- What LED_FLT shows (R539). -/
def State.ledFlt (s : State) : LedFlt :=
  if s.errorOut || decide (s.sys.mode = .limited) then .on
  else if s.critical.getLsbD 0 || s.critical.getLsbD 2 then .blink
  else .off

end Sys2Proof.Machine
end

