-- ==== Sys2Proof/Machine/SaveOps.lean ====
section
/-! DEFINITION. Answers of the dictionary server and the SAVE of the persistent store (03 R75, R79 to
R85, R90), which the dictionary, the cipher engine and the host features share. -/

namespace Sys2Proof.Machine

open Sys2Proof

/-! Answers. -/

/-- The bytes a value takes on the wire (R67). -/
def odSize (ty : BitVec 8) (v : OdVal) : Nat :=
  match v with
  | .oct b => b.length
  | .num _ =>
    match ty.toNat with
    | 1 | 2 | 6 => 1
    | 3 | 7 => 2
    | 4 | 8 | 10 => 4
    | _ => 8

/-- A value on the wire, little-endian (R67). -/
def wireBytes (ty : BitVec 8) (v : OdVal) : List Byte :=
  match v with
  | .oct b => b
  | .num n => leBytes (odSize ty v) n

/-- A response item on the wire (R80). -/
def RespItem.bytes (r : RespItem) : List Byte :=
  let v := match r.val with
    | some v => wireBytes r.ty v
    | none => []
  leBytes 2 r.key.index.toNat ++ [r.key.sub, r.status, r.ty, 0] ++ leBytes 2 v.length ++ v

/-- The bytes a response item takes (R80). -/
def RespItem.size (r : RespItem) : Nat :=
  8 + (match r.val with
    | some v => odSize r.ty v
    | none => 0)

/-- The body of a response (R80): op, status, item count and zero, then the items; each number of `extra`
takes 4 bytes (log 105). -/
def Resp.body (r : Resp) : List Byte :=
  [r.op, r.status, BitVec.ofNat 8 (r.items.length + (if r.op = 0x88 then r.extra.length else 0)), 0]
    ++ (r.items.flatMap RespItem.bytes) ++ (r.extra.flatMap (leBytes 4)) ++ r.bytes

/-- The header of a response (R79, R81): the drive's own node ID and counter. -/
def Resp.header (r : Resp) : List Byte :=
  [1, 0x80 ||| r.keyRole.setWidth 8] ++ leBytes 2 r.src.toNat ++ leBytes 2 r.dst.toNat
    ++ leBytes 2 r.body.length ++ leBytes 8 r.counter.toNat ++ leBytes 4 r.tagId.toNat
    ++ leBytes 4 r.epoch.toNat ++ [0, 0, 0, 0]

/-- A Buyth Receive gets its response (R90): Dword 0 is the frame's full length, and what does not fit
the buffer is cut off. -/
def State.handOver (k : Cmd) (buflen : Nat) (r : Resp) (s : State) : State :=
  (s.onDict fun d => { d with delivered := d.delivered ++ [(k.ctrl, k.cid, r, buflen)] }).onCmd k.n
    fun k => { k with need := .nothing, status := nvOk, dw0 := BitVec.ofNat 32 r.frame.length }

/-- The buffer length of a command that awaits a response frame. -/
def Cmd.awaits (c : Fin 2) (tag : BitVec 32) (k : Cmd) : Option Nat :=
  match k.need with
  | .buyth t n _ => if decide (k.ctrl = c) && t == tag then some n else none
  | _ => none

/-- Whether frames take the hardware path (R81): the engine is powered and its tests passed. -/
def State.gcmHw (s : State) : Bool :=
  s.hasCipher && s.domOn 18 && (decide (s.ciph.state = .ready) || decide (s.ciph.state = .reloading))

/-- A frame goes through the engine's management bank (R81, 14 R421, R432): counted in OD 0x5170.02; a tag
that fails is event 87 and fault source 58. -/
def State.gcmRun (verifies : Bool) (role : Nat) (s : State) : State :=
  if s.gcmHw then
    let s := s.count 0x517002 1
    if verifies then s
    else ((s.event epCipher 87 role).fault epCipher 58 role).count 0x517003 1
  else s

/-- A response as it leaves the drive: under its own node ID and counter, sealed (R79, R81). -/
def State.sealed (s : State) (r : Resp) : Resp :=
  let r := { r with counter := s.dict.bootCount ++ s.dict.ownSeq
                    src := BitVec.ofNat 16 s.p0300NodeId }
  { r with frame := sealFrame r.key r.header r.body }

/-- A response leaves the drive (R81, R90): under the drive's own counter; over NVMe it completes the
Buyth Receive that awaits it or waits for one. -/
def State.reply (r : Resp) (s : State) : State :=
  let s := (s.gcmRun true r.keyRole.toNat).onDict fun d => { d with ownSeq := d.ownSeq + 1 }
  let r := s.sealed r
  match r.sender with
  | .nvme c =>
    match s.nvme.cmds.find? fun k => (k.awaits c r.tagId).isSome with
    | some k => s.handOver k ((k.awaits c r.tagId).getD 0) r
    | none => s.onDict fun d => { d with responses := d.responses ++ [r] }
  | _ => s.onDict fun d => { d with answers := d.answers ++ [r] }

/-! SAVE (R75). -/

/-- The copy a SAVE writes: the one that is not current. -/
def State.olderCopy (s : State) : Bool := !s.dict.current

/-- Whether a guest has a Saved object to read. -/
def State.guestSaves (s : State) (a : Fin 4) : Bool :=
  s.dict.guestObjs.any fun g => decide (g.act = a) && g.obj.saved

/-- The guest whose range holds a guest object (R70). -/
def guestOf (key : Nat) : Option (Fin 4) :=
  let i := key / 256
  if 0x7000 ≤ i && i < 0x8000 then some ⟨(i - 0x7000) / 0x400 % 4, by omega⟩ else none

/-- The values of guest objects a SAVE stores: as each answering guest gives them; those of the others
stay as the previous copy holds them. -/
def State.guestImage (s : State) (answer : BitVec 4) : Tab OdVal :=
  let kept := s.currentCopy.guests.filter fun e => match guestOf e.1 with
    | some a => !(actIn answer a && s.guestSaves a)
    | none => false
  s.dict.guestObjs.foldl (fun t g =>
    if g.obj.saved && (g.obj.access == 1 || g.obj.access == 2) && actIn answer g.act then
      Tab.set t (odKey g.obj.key.index.toNat g.obj.key.sub.toNat) g.obj.value
    else t) kept

/-- A SAVE starts: the image of the present values, and fault source 156 for each guest that does not
answer within 10 ms. -/
def State.startSave (answer : BitVec 4) (want : SaveWant) (s : State) : State :=
  let silent := s.presentActs.filter fun a => s.guestSaves a && !actIn answer a
  let copy : StoreCopy := StoreCopy.withSum
    { seq := s.currentCopy.seq + 1, crc := 0, vals := s.savedImage
      guests := s.guestImage answer, roleKeys := s.dict.keys, epochs := s.dict.epochs
      blobs := s.keyBlobs }
  let s := s.onDict fun d => { d with saving := some { want := want, copy := copy } }
  foldS (fun a t => t.fault epResident 156 a.val) silent s

/-- A SAVE that the device runs itself starts; which guests answer is free (log 15). -/
def State.ownSave (want : SaveWant) (s : State) : State :=
  s.takeFree.startSave (Config.guestAnswers s.free) want

/-- A SAVE that the device runs itself: at once, or after the one that runs. -/
def State.wantSave (want : SaveWant) (s : State) : State :=
  if s.dict.saving.isSome then s.onDict fun d => { d with saveNext := d.saveNext ++ [want] }
  else s.ownSave want

/-- The next SAVE that waits starts. -/
def State.nextSave (s : State) : State :=
  match s.dict.saveNext with
  | [] => s
  | w :: r => (s.onDict fun d => { d with saveNext := r }).ownSave w

/-- What waited for a SAVE is given its end. -/
def State.saveAnswer (w : SaveWant) (status : BitVec 8) (s : State) : State :=
  let s : State := match w.answer with
    | some r => s.reply { r with
        status := if status = 0 then r.status else status
        extra := if r.op = 0x86 && status = 0 then [s.currentCopy.seq.toNat] else r.extra }
    | none => s
  match w.cmd with
  | some n => s.cmdReady n nvOk
  | none => s

/-- The older copy is written and verified and becomes current: event 315. -/
def State.saveDone (s : State) : State :=
  match s.dict.saving with
  | none => s
  | some r =>
    let s := (s.setCopy s.olderCopy r.copy).onDict fun d => { d with
      current := !d.current, saving := none, provStored := keyMask r.copy.roleKeys }
    let s := (s.odSet (odKey 0x0210 3) (usOf s.now)).event epSystem 315 r.copy.seq.toNat
    if 0 < r.want.more then s.wantSave { r.want with more := r.want.more - 1 }
    else (s.saveAnswer r.want 0).nextSave

/-- A failed program or verify: status 0x0D, fault source 155, and the current copy stays current. A
SAVE that a host command or the device itself asked for is run again (log 47). -/
def State.saveFailed (kind : Nat) (s : State) : State :=
  match s.dict.saving with
  | none => s
  | some r =>
    let s := (s.setCopy s.olderCopy r.copy.spoilt).onDict fun d => { d with
      saving := none }
    let s := s.fault epSystem 155 kind
    match r.want.answer with
    | some _ => (s.saveAnswer r.want 0x0D).nextSave
    | none => s.wantSave r.want

end Sys2Proof.Machine
end

