-- ==== Sys2Proof/Machine/NsOps.lean ====
section
/-! DEFINITION. Releasing the bands of a namespace (10 R328, 12 R385, 14 R433, 21 R562, R563) and the
locking ranges (14 R429), which the cipher engine, the dictionary and the host rows share. -/

namespace Sys2Proof.Machine

open Sys2Proof

/-! Locking ranges (14 R429). -/

/-- A locking range. -/
structure LockRange where
  nsid : Nat
  first : Nat
  count : Nat
  slot : Nat
  enable : Bool
  deriving DecidableEq, Repr

/-- Locking range r: OD 0x5120 + r. -/
def State.range (s : State) (r : Nat) : LockRange :=
  let k := odKey (0x5120 + r) 0
  { nsid := s.odNat (k + 1) 0, first := s.odNat (k + 2) 0, count := s.odNat (k + 3) 0
    slot := s.odNat (k + 4) 0xFF, enable := s.odNat (k + 5) 0 != 0 }

/-- The enabled range that holds an LBA. -/
def State.rangeAt (s : State) (nsid lba : Nat) : Option Nat :=
  if s.hasCipher then
    (List.range 64).find? fun r =>
      let x := s.range r
      x.enable && x.nsid == nsid && decide (x.first ≤ lba) && decide (lba < x.first + x.count)
  else none

/-- The enabled range that a slot is bound to. -/
def State.rangeOf (s : State) (slot : Nat) : Option Nat :=
  (List.range 64).find? fun r => (s.range r).enable && (s.range r).slot == slot

/-- A media key slot. -/
def State.slot (s : State) (n : Nat) : KeySlot := Tab.getD s.ciph.slots n KeySlot.reset

/-- A media key slot replaced. -/
def State.onSlot (n : Nat) (f : KeySlot → KeySlot) (s : State) : State :=
  s.onCiph fun c => { c with slots := Tab.put c.slots n (f (Tab.getD c.slots n KeySlot.reset)) KeySlot.reset }

/-- Whether some block of a run lies in an enabled range whose slot is empty (14 R429): each enabled
range that the run meets is looked at. -/
def State.rangeLocked (s : State) (nsid lba nlb : Nat) : Bool :=
  s.hasCipher && (List.range 64).any fun r =>
    let x := s.range r
    x.enable && x.nsid == nsid && decide (x.first < lba + nlb) && decide (lba < x.first + x.count)
      && decide ((s.slot x.slot).state = .empty)

/-! Groups of the journal. -/

/-- A number for a group of the device's own, from the order of fetch. -/
def State.takeNumber (s : State) : State := s.onNvme fun v => { v with fetched := v.fetched + 1 }

/-- Whether a group is not yet durable (10 R318, R319). -/
def State.groupOpen (s : State) (n : Nat) : Bool :=
  endsIn n s.plc.pend
    || (match s.plc.commit with
        | some c => c.sectors.any fun j => endsIn n j.entries
        | none => false)

/-! Releasing bands. -/

/-- The band of a map unit is among those released. -/
def inBands (bands : List Nat) (g : Nat) : Bool := bands.contains (g / 65536)

/-- The journal entries that release a band (10 R328): its extents removed and the band released. -/
def State.releaseBand (glb : Nat) (s : State) : State :=
  let s := s.change true (.extentsRemoved (glb * 65536) 65536 s.plc.gen)
  let b := s.band glb
  if b.state = .unwritten then s else s.change true (.bandState glb .released b.temp)

/-- A relocation of a sector in a released band is dropped, and its Detention entry removed as if
relocated (21 R562). -/
def State.dropRelocations (bands : List Nat) (s : State) : State :=
  let gone := s.plc.jobs.filter fun j => j.req.code == 5 && bands.contains j.req.band
  let s := s.onPlc fun p => { p with
    jobs := p.jobs.filter fun j => !(j.req.code == 5 && bands.contains j.req.band) }
  foldS (fun (j : Job) (t : State) =>
    match j.req.sector with
    | none => t
    | some x =>
      match t.recov.detention.find? fun d => d.act == x.act && d.head == x.head
          && d.track == x.track && d.sector == x.sector with
      | some d => t.change false (.detention d true)
      | none => t) gone s

/-- The bands of a namespace are released in one group: its pages and its chunks on their way to the
media go with it (21 R562, R563). -/
def State.releaseBands (bands : List Nat) (s : State) : State :=
  let open' := s.plc.chunks.filter fun c => inBands bands c.gmu
  let s := foldS (fun c t => t.dropWrite c.opId) open' s
  let s := s.onPlc fun p => { p with chunks := p.chunks.filter fun c => !inBands bands c.gmu }
  let s := s.onBuf fun b => { b with pages := b.pages.filter fun p => !inBands bands p.unit }
  ((foldS State.releaseBand bands s).dropRelocations bands).dirtyCheck

/-- The uncompleted writes to a namespace end with a status, and none of their data is kept (21
R563). -/
def State.endWrites (nsid : Nat) (st : NvStatus) (s : State) : State :=
  let hit (k : Cmd) : Bool := k.nsid == nsid && (match k.need with
    | .data => true
    | _ => false)
  let ns := (s.nvme.cmds.filter hit).map fun k => k.n
  let s := s.onNvme fun v => { v with
    cmds := v.cmds.map fun k => if hit k then { k with need := .nothing, status := st } else k }
  s.dropWrites ns

end Sys2Proof.Machine
end

