-- ==== Sys2Proof/Machine/Cipher.lean ====
section
/-! DEFINITION. The cipher engine (14): jobs, key slots, the random source and the crypto erase. -/

namespace Sys2Proof.Machine

open Sys2Proof

/-- Whether the engine is present and powered. -/
def State.ciphOn (s : State) : Bool := s.hasCipher && decide (s.ciph.state ≠ .off)

/-! Jobs (R420 to R424, R430 to R432). -/

/-- The length rule a job breaks, as the kind of fault source 56 (R422). -/
def ciphRule (j : CipherJob) : Option Nat :=
  if j.gcm then
    if 1472 < j.length then some 1 else if 64 < j.aad.length then some 2 else none
  else if (decide (j.unit = 512) || decide (j.unit = 4096)) && decide (1 ≤ j.count)
      && decide (j.count ≤ 256) && decide (j.length = j.unit * j.count) then none
  else some 0

/-- A completion record is posted (R423). -/
def State.ciphRecord (id status : Nat) (tag : List Byte) (s : State) : State :=
  s.onCiph fun c => { c with
    records := c.records ++
      [{ id := id, status := BitVec.ofNat 4 status, release := decide (status = 0), tag := tag }] }

/-- The role key of the management bank (R421, 03 R87). -/
def State.roleKey (s : State) (role : Nat) : Option (List Byte) :=
  if role = 1 && s.odNat (odKey 0x0400 8) 0 != 0 then some (List.replicate 32 0)
  else Tab.get? s.dict.keys role

/-- The key a media slot gives a unit now; none while it is empty or pending. -/
def State.slotKey (s : State) (n : Nat) : Option (List Byte) :=
  let k := s.slot n
  if k.state = .loaded && decide (n < 128) then some k.key else none

/-- CIPHER_JOB (R422, R430): a job is accepted, or rejected whole before any byte is read. -/
def execCipherJob (j : CipherJob) (s : State) : Eff :=
  .next (
    if !s.ciphOn then s
    else
      match ciphRule j with
      | some k =>
        ((s.ciphRecord j.id 1 []).fault epCipher 56 k).event epCipher 88 k
      | none =>
        if s.ciph.state = .halted then s.ciphRecord j.id 5 []
        else
          let key := if j.gcm then s.roleKey j.slot
            else if s.ciph.state = .ready then s.slotKey j.slot else none
          s.onCiph fun c => { c with jobs := c.jobs ++ [{ job := j, key := key, cut := false }] })

/-- A job's requests of the random source, for the draws of its blocks (R425). -/
def State.ciphDraws (bytes : Nat) (s : State) : State :=
  s.onCiph fun c => { c with drbgCount := c.drbgCount + Config.drbgDraws bytes }

/-- The data units of a media job that have a key are read, transformed and written, in order, up to one
whose source read fails: whether none did. -/
def State.ciphUnits (j : CipherJob) (page : Option Nat) (key : List Byte) : Nat → Nat → State →
    Bool × State
  | 0, _, s => (true, s)
  | n + 1, i, s =>
    let r := s.engineGet epCipher (j.src + j.unit * i) j.unit page
    if r.1 then
      let d := xtsUnit j.encrypt key (j.lba + i) (r.2.read (j.src + j.unit * i) j.unit)
      State.ciphUnits j page key n (i + 1)
        (((r.2.enginePut epCipher (j.dst + j.unit * i) d).count 0x517001 1).ciphDraws j.unit)
    else r

/-- A media job ends (R423, R430): units that had entered before a change of the slot have the old
key, later ones the slot's key now; a unit without a key fails the rest of the job, and so does one
whose source read failed, the page of which is handled as R415 gives. -/
def State.ciphMedia (x : CJob) (page : Option Nat) (before : Nat) (s : State) : State :=
  let j := x.job
  let now := s.slotKey j.slot
  let old := if x.key.isNone then 0 else if x.cut then min before j.count else j.count
  let keyed := if now.isSome then j.count else old
  let a := s.ciphUnits j page (x.key.getD []) (min old keyed) 0
  let r := if a.1 then a.2.ciphUnits j page (now.getD []) (keyed - old) old else a
  if !r.1 then (r.2.ciphRecord j.id 4 []).fault epCipher 59 0
  else if keyed < j.count then
    ((r.2.ciphRecord j.id 2 []).fault epCipher 57 0).event epCipher 89 j.slot
  else r.2.ciphRecord j.id 0 []

/-- A management job ends (R421, R423, R432). -/
def State.ciphGcm (x : CJob) (s : State) : State :=
  let j := x.job
  match x.key with
  | none => ((s.ciphRecord j.id 2 []).fault epCipher 57 0).event epCipher 89 j.slot
  | some key =>
    let r := s.engineGet epCipher j.src j.length none
    if !r.1 then (r.2.ciphRecord j.id 4 []).fault epCipher 59 1
    else
      let text := r.2.read j.src j.length
      let out := gcmText key j.iv text
      let s := (r.2.count 0x517002 1).ciphDraws j.length
      if j.encrypt then
        (s.enginePut epCipher j.dst out).ciphRecord j.id 0 (gcmTag key j.iv j.aad out)
      else if gcmTag key j.iv j.aad text = j.tag then (s.enginePut epCipher j.dst out).ciphRecord j.id 0 []
      else
        ((((s.enginePut epCipher j.dst (List.replicate j.length 0)).ciphRecord j.id 3 []).event epCipher 87 j.slot)
          |>.fault epCipher 58 j.slot).count 0x517003 1

/-- Whether a job is held: its slot is pending, or the slots are not yet reloaded (R428, R430). -/
def State.ciphHeld (s : State) (j : CipherJob) : Bool :=
  !j.gcm && (decide (s.ciph.state = .reloading) || decide ((s.slot j.slot).state = .pending))

/-- CIPHER_JOB_COMPLETE (R423, R430): the named job ends, unless it is held; `page` is the page its source
lies in, and `before` counts the units that had entered the pipeline before the slot changed. -/
def execCipherJobComplete (job : Nat) (page : Option Nat) (before : Nat) (s : State) : Eff :=
  .next (
    match s.ciph.jobs.find? fun x => x.job.id == job with
    | none => s
    | some x =>
      if s.ciphHeld x.job then s
      else
        let s := s.onCiph fun c => { c with jobs := dropFirst (fun y => y.job.id == job) c.jobs }
        if x.job.gcm then s.ciphGcm x else s.ciphMedia x page before)

/-- The jobs in flight end with status 0x5 (R423, 16 R463). -/
def State.ciphHalt (s : State) : State :=
  let l := s.ciph.jobs
  foldS (fun (x : CJob) (t : State) => t.ciphRecord x.job.id 5 []) l
    (s.onCiph fun c => { c with jobs := [] })

/-! Slot changes (R430). -/

/-- Step 4 of R430 for one slot: it takes its new key or is zeroized, and leaves pending. -/
def State.slotTakes (n : Nat) (s : State) : State :=
  let k := s.slot n
  if k.state ≠ .pending then s
  else
    let s := s.onCiph fun c => { c with
      jobs := c.jobs.map fun x =>
        if !x.job.gcm && x.job.slot == n then { x with cut := true } else x }
    match k.newKey with
    | some key =>
      ((s.onSlot n fun _ => { state := .loaded, key := key, newKey := none }).event epCipher 83 n)
        |>.event epCipher 80 n
    | none => ((s.onSlot n fun _ => KeySlot.reset).event epCipher 83 n).event epCipher 81 n

/-- Step 1 of R430: the slot enters pending; a change that finds it pending waits for the first. -/
def State.slotChange (n : Nat) (newKey : Option (List Byte)) (s : State) : State :=
  let s := s.slotTakes n
  (s.onSlot n fun k => { k with state := .pending, newKey := newKey }).event epCipher 82 n

/-- Whether any slot is pending. -/
def State.slotsPending (s : State) : Bool := s.ciph.slots.any fun e => decide (e.2.state = .pending)

/-- A COMMIT that waited for slot changes goes on to its SAVE (R430, R434, 03 R85). -/
def State.slotSaves (s : State) : State :=
  match s.dict.slotAnswer with
  | some w =>
    if s.slotsPending then s else (s.onDict fun d => { d with slotAnswer := none }).wantSave w
  | none => s

/-- The engine stops before pending changes took effect: the slots keep their old keys, and a COMMIT that
waited for them is answered with status 0x07. -/
def State.slotsLost (s : State) : State :=
  let s := s.onCiph fun c => { c with
    slots := Tab.map (fun _ k =>
      if k.state = .pending then
        { k with state := if k.key.isEmpty then .empty else .loaded, newKey := none }
      else k) c.slots }
  match s.dict.slotAnswer with
  | some w => (s.onDict fun d => { d with slotAnswer := none }).saveAnswer w 7
  | none => s

/-- SLOT_CHANGE_DONE (R430). -/
def execSlotChangeDone (slot : Fin 128) (s : State) : Eff :=
  .next (if s.ciph.state = .ready then (s.slotTakes slot.val).slotSaves else s)

/-! The random source (R426). -/

/-- Each request of the random source counts. -/
def State.drbgAsk (s : State) : State := s.onCiph fun c => { c with drbgCount := c.drbgCount + 1 }

/-- The key the random source gives at a counter: 64 free bytes. -/
def drbgKey (n : Nat) : List Byte := (List.range 64).map fun i => Config.drbgByte n i

/-- A slot is given a key of the random source (R427). -/
def State.slotGenerate (n : Nat) (s : State) : State :=
  (s.slotChange n (some (drbgKey s.free))).drbgAsk.takeFree

/-- DRBG_RESEED (R426): once 2^20 requests have been made, with healthy entropy or without. -/
def execDrbgReseed (entropy : Bool) (s : State) : Eff :=
  .next (
    if !s.ciphOn || decide (s.ciph.drbgCount < 2 ^ 20) then s
    else if entropy then
      (s.onCiph fun c => { c with drbgCount := 0, entropyOk := true }).event epCipher 91 0
    else
      ((s.onCiph fun c => { c with state := .halted, entropyOk := false }).fault epCipher 61 0).ciphHalt.slotsLost)

/-- ENTROPY_HEALTH_FAIL (R426). -/
def execEntropyHealthFail (s : State) : Eff :=
  .next (
    if !s.ciphOn then s
    else (s.onCiph fun c => { c with entropyOk := false }).fault epCipher 60 0)

/-! Power (R428, 16 R463). -/

/-- The slots take their keys back from the stored blobs, unwrapped; those that fail their integrity check,
and those in `bad`, whose bytes the store lost, stay empty (R428); a slot whose change waits stays pending. The engine is ready once the next idle tick has
passed (log 48). -/
def State.ciphReload (bad : List Nat) (s : State) : State :=
  let blobs := s.currentCopy.blobs
  let key (e : Nat × List Byte) : Option (List Byte) :=
    if bad.contains e.1 then none else kwUnwrap slotKek e.2
  let failed := (blobs.filter fun e => (key e).isNone).map fun e => e.1
  let slots := blobs.filterMap fun e => (key e).map fun k =>
    (e.1, ({ state := .loaded, key := k, newKey := none } : KeySlot))
  let waiting := s.ciph.slots.filter fun e => decide (e.2.state = .pending)
  let slots := waiting.foldl (fun t e =>
    Tab.set t e.1 { e.2 with key := (Tab.getD t e.1 KeySlot.reset).key }) slots
  let s := s.onCiph fun c => { c with state := .reloading, slots := slots }
  foldS (fun n t => t.faultAt epCipher 62 0 n) failed s

/-- PD18 reports ready (R428, R437): the known-answer tests run and the slots reload. -/
def State.ciphReady (kat : Option (Fin 3)) (bad : List Nat) (s : State) : State :=
  match kat with
  | some k => ((s.onCiph fun c => { c with state := .halted }).fault epCipher 63 k.val).slotsLost
  | none => s.ciphReload bad

/-- The reload ends: event 90 with the slots loaded. -/
def State.ciphReloaded (s : State) : State :=
  if s.ciph.state = .reloading then
    (s.onCiph fun c => { c with state := .ready }).event epCipher 90 s.ciph.slots.length
  else s

/-- PD18 switches off: everything in the island is lost (R428). A slot change that was not yet saved
is taken from the blobs at the next reload. -/
def State.ciphOff (s : State) : State :=
  (s.ciphHalt.slotsLost).onCiph fun c => { c with state := .off, slots := [], drbgCount := 0 }

/-- The cipher island's block reset (16 R463). -/
def State.ciphReset (s : State) : State :=
  if s.ciphOn then (s.ciphHalt.onCiph fun c => { c with drbgCount := 0 }).ciphReload [] else s

/-! Crypto erase (R433, R434, 21 R562, R563). -/

/-- The namespaces a crypto erase names: one, or all (0xFFFF_FFFF). -/
def State.eraseList (s : State) (nsid : Nat) : List Nat :=
  if nsid = 0xFFFFFFFF then s.plc.nss.map fun n => n.nsid
  else if (s.ns? nsid).isSome then [nsid] else []

/-- A crypto erase is asked for: it runs after those before it. -/
def State.askErase (nsid : Nat) (cmd : Option Nat) (sanitize : Bool) (s : State) : State :=
  let l := s.eraseList nsid
  let e : EraseRun := { nsids := l, sanitize := sanitize, step := 1, oldSlots := [], newSlots := []
                        group := 0, cmd := cmd }
  let s := if sanitize then s.onNvme fun v => { v with sanitize := true }
    else s.onNvme fun v => { v with format := v.format ++ l }
  if s.ciph.erase.isSome then s.onCiph fun c => { c with eraseQueue := c.eraseQueue ++ [e] }
  else s.onCiph fun c => { c with erase := some e, eraseState := 1 }

/-- The status of other commands while an erase runs (12 R383). -/
def eraseStatus (sanitize : Bool) : NvStatus :=
  nvRetry (if sanitize then .sanitizeInProgress else .formatInProgress)

/-- The running erase replaced. -/
def State.setErase (e : EraseRun) (s : State) : State := s.onCiph fun c => { c with erase := some e }

/-- The enabled ranges of the namespaces of an erase. -/
def State.eraseRanges (s : State) (e : EraseRun) : List Nat :=
  (List.range 64).filter fun r => (s.range r).enable && e.nsids.contains (s.range r).nsid

/-- Step 2 of R433: a fresh key in an empty slot for each range. -/
def State.eraseKeys : List Nat → EraseRun → State → State × EraseRun
  | [], e, s => (s, e)
  | r :: rest, e, s =>
    match (List.range 128).find? fun n => decide ((s.slot n).state = .empty) with
    | none => (s, e)
    | some n =>
      let s := (s.slotGenerate n).slotTakes n
      State.eraseKeys rest { e with
        newSlots := e.newSlots ++ [(r, n)]
        oldSlots := e.oldSlots ++ [(s.range r).slot] } s

/-- Step 3 of R433: the ranges are bound to their new slots and the bands released in one group. -/
def State.eraseGroup (e : EraseRun) (s : State) : State :=
  let s := foldS (fun n t => t.endWrites n (eraseStatus e.sanitize)) e.nsids s
  let bands := e.nsids.flatMap fun n => match s.ns? n with
    | some x => x.bands
    | none => []
  let s := s.releaseBands bands
  let s := foldS (fun (x : Nat × Nat) t =>
    (t.odSet (odKey (0x5120 + x.1) 4) x.2).event epCipher 84 x.1) e.newSlots s
  let s := s.takeNumber
  let n := s.nvme.fetched
  (s.journal true (.groupEnd n)).setErase { e with group := n, step := 4 }

/-- The end of a crypto erase (R433 step 6). -/
def State.eraseEnd (e : EraseRun) (s : State) : State :=
  let s := foldS (fun n t => t.event epCipher 86 n) e.nsids s
  let s : State := match e.cmd with
    | some n => s.cmdReady n nvOk
    | none => s
  let s := s.onNvme fun v => { v with
    format := v.format.filter fun n => e.sanitize || !e.nsids.contains n
    sanitize := v.sanitize && !e.sanitize
    sanitizeDone := v.sanitizeDone + b2n e.sanitize }
  let s := s.onCiph fun c => { c with
    eraseState := if e.nsids.isEmpty then 3 else 2
    oldAfterLoss := if e.nsids.isEmpty then [] else c.oldAfterLoss
    erase := c.eraseQueue.head?, eraseQueue := c.eraseQueue.tail }
  let s := s.onCiph fun c => { c with eraseState := if c.erase.isSome then 1 else c.eraseState }
  (s.count 0x517004 1).serviceCheck

/-- One step of the running crypto erase. -/
def State.eraseStep (e : EraseRun) (s : State) : State :=
  let nextStep (t : State) : State := t.setErase { e with step := e.step + 1 }
  match e.step with
  | 1 =>
    let reads := s.nvme.cmds.any fun k =>
      decide (some k.n ≠ e.cmd) && e.nsids.contains k.nsid && !k.admin && (match k.need with
        | .media _ => true
        | .flush _ => true
        | .group => true
        | _ => false)
    if reads then s
    else nextStep (foldS (fun n t => t.event epCipher 85 n) e.nsids s)
  | 2 =>
    let ranges := s.eraseRanges e
    if ranges.isEmpty then nextStep s
    else if !s.ciph.entropyOk || decide (s.ciph.state ≠ .ready) then s
    else
      let (t, e') := s.eraseKeys ranges e
      t.setErase { e' with step := 3 }
  | 3 => s.eraseGroup e
  | 4 =>
    if e.group ≠ 0 && s.groupOpen e.group then s
    else if e.oldSlots ≠ [] && decide (s.ciph.state ≠ .ready) then s
    else nextStep (foldS (fun n t =>
      if (t.slot n).state = .empty then t else t.slotChange n none) e.oldSlots s)
  | 5 =>
    if s.slotsPending || s.dict.saving.isSome then s
    else nextStep (s.wantSave { answer := none, cmd := none, more := 0 })
  | 6 =>
    if s.dict.saving.isSome then s
    else nextStep (s.wantSave { answer := none, cmd := none, more := 0 })
  | _ => if s.dict.saving.isSome then s else s.eraseEnd e

/-- CRYPTO_ERASE_RUN (R433, R434): the next step of the erase that runs, or the old slots that a power
loss left begin to be erased. -/
def execCryptoEraseRun (s : State) : Eff :=
  .next (
    match s.ciph.erase with
    | some e => s.eraseStep e
    | none =>
      if s.ciph.oldAfterLoss.isEmpty then s
      else s.setErase { nsids := [], sanitize := false, step := 4, oldSlots := s.ciph.oldAfterLoss
                        newSlots := [], group := 0, cmd := none })

end Sys2Proof.Machine
end

