-- ==== Sys2Proof/Machine/HallMonitor.lean ====
section
/-! DEFINITION. The commands of the Hall Monitor (16): intake, escalation, reactions and block
resets, the history, ERROR_OUT and the configuration of the sources. -/

namespace Sys2Proof.Machine

open Sys2Proof

/-! Block resets (R463). Units: 0 host, 1 cipher, 2 DMA, 3 + a actuator, 7 + d decoder, 15 field
network. -/

/-- The unit of the block reset of a source and kind; none outside R463. -/
def brstUnit (n kind : Nat) : Option Nat :=
  if 48 ≤ n && n ≤ 55 then some 0
  else if 56 ≤ n && n ≤ 63 then some 1
  else if 64 ≤ n && n ≤ 68 then some 2
  else if 88 ≤ n && n ≤ 135 then some (3 + (n - 88) / 12)
  else if n = 136 || n = 137 then some (7 + kind % 8)
  else if 152 ≤ n && n ≤ 159 then some 15
  else none

/-- A function-level reset (12 R365, R373): event 35. -/
def State.flr (c : Fin 2) (s : State) : State := (s.event (epHost c) 35 c.val).resetCtrl c

/-- The DMA engine is reset once no channel is still aborting (15 R450). -/
def State.dmaResetEnd (s : State) : State :=
  if s.hm.brst.contains 2 && s.dma.ch.all fun e => e.2.stopped then
    (s.onDma fun _ => Dma.reset).onHm fun h => { h with brst := h.brst.erase 2 }
  else s

/-- LINK_STATE takes a value; a change of its T1S bits is event 318 (03 R95). -/
def State.setLink (v : BitVec 3) (s : State) : State :=
  let t := s.onDict fun d => { d with linkState := v }
  if (v &&& 3) = (s.dict.linkState &&& 3) then t else t.event epField 318 v.toNat

/-- Whether a session came over the field network. -/
def Session.field (x : Session) : Bool :=
  match x.sid.sender with
  | .nvme _ => false
  | _ => true

/-- A block reset is carried out (R463). -/
def State.blockReset (u : Nat) (s : State) : State :=
  if u = 0 then foldS State.flr s.presentCtrls s
  else if u = 1 then s.ciphReset
  else if u = 2 then
    ((s.onHm fun h => { h with brst := h.brst ++ [2] }).dmaAbortAll).dmaResetEnd
  else if h : u < 7 then
    let a : Fin 4 := ⟨u - 3, by omega⟩
    let s := s.onHm fun h => { h with brst := h.brst ++ [u] }
    if (s.act a).isl.load = .parked then s.switchOffAll (actDomains a) else s.startUnload a false
  else if u < 15 then s.decoderOff (u - 7)
  else
    let s := s.onDict fun d => { d with
      sessions := d.sessions.filter fun x => !x.field, i3cAddr := 0 }
    s.setLink 0

/-! Intake (R457 to R467). -/

/-- A report taken. -/
structure Report where
  src : Endpoint
  source : Nat
  kind : BitVec 4
  addr : BitVec 48
  stamp : BitVec 64
  injected : Bool
  deriving DecidableEq, Repr

/-- Whether a message is a fault report from an endpoint. -/
def Msg.isFault (src : Endpoint) (m : Msg) : Bool :=
  decide (m.src = src) && decide (m.dst = epMonitor) && (match m.body with
    | .fault _ _ _ _ => true
    | _ => false)

/-- The oldest fault report from each listed endpoint leaves Kyomos; a source of a unit the tier lacks, and
one that never becomes pending, is dropped (00 R3, R458). -/
def State.takeReports : List Endpoint → State → State × List Report
  | [], s => (s, [])
  | e :: r, s =>
    let m := s.takeMsg (Msg.isFault e)
    let x := State.takeReports r m.2
    match m.1 with
    | some { body := .fault n k a t, .. } =>
      if s.srcAbsent n.toNat || srcNever n.toNat then x
      else (x.1, { src := e, source := n.toNat, kind := k, addr := a, stamp := t, injected := false } :: x.2)
    | _ => x

/-- Whether one report is recorded before another (R465): higher severity first, then lower source. -/
def State.reportBefore (s : State) (x y : Report) : Bool :=
  let a := s.severity x.source
  let b := s.severity y.source
  decide (b < a) || (a == b && decide (x.source ≤ y.source))

/-- A report inserted in the order of R465. -/
def State.reportInsert (s : State) (x : Report) : List Report → List Report
  | [] => [x]
  | y :: r => if s.reportBefore x y then x :: y :: r else y :: s.reportInsert x r

/-- Whether a report makes its source lasting (R460), once it is counted. -/
def HmSrc.escalates (x : HmSrc) (t : Nat) : Bool :=
  let th := fld x.win.toNat 24 8
  !x.lasting && decide (0 < th) && decide (th ≤ x.wcount t)

/-- The reactions a source names for a report (R462). -/
def HmSrc.reactions (x : HmSrc) : Nat := if x.lasting then fld x.cfg.toNat 8 6 else fld x.cfg.toNat 0 6

/-- The reactions a report would have: those of its source once the report is counted. -/
def State.wouldReact (s : State) (r : Report) : Nat :=
  let x := (s.hmSrc r.source).countIn s.ticks
  ({ x with lasting := x.lasting || x.escalates s.ticks } : HmSrc).reactions

/-- The cause of LIMITED for a source (02 R52). -/
def limitedCode (n kind : Nat) : Nat :=
  if n = 2 then 0x400 + kind
  else if n = 3 || n = 74 then 0x500
  else if n = 4 || n = 5 then 0x200 + 2 ^ (kind % 4)
  else if n = 6 then 0x600 + kind
  else 0x300 + n

/-- The interrupts of a report (R462): one NMI, and the IRQ flag. -/
def State.reportIrq (n : Nat) (nmi int : Bool) (s : State) : State :=
  let core := s.hm.core.toNat
  let s := s.doIf nmi fun t => t.onHm fun h => { h with
    nmi := match srcActuator n with
      | some a => setBit (setBit h.nmi core true) (4 + a.val) true
      | none => setBit h.nmi core true }
  s.doIf int fun t => t.onHmSrc n fun x => { x with irq := true }

/-- The unit that the block reset of a report resets (R463, R465): none without BRST, while power loss or a
chip reset of this cycle forbids it, while its block reset runs, and where this cycle has done it. -/
def State.reportUnit (s : State) (chip : Bool) (done : List Nat) (r : Report) : Option Nat :=
  match brstUnit r.source r.kind.toNat with
  | some u =>
    if bitOf (s.wouldReact r) 2 && s.sys.powerLoss.isNone && !chip && !s.hm.brst.contains u
        && !done.contains u then some u
    else none
  | none => none

/-- One report is counted, escalated, recorded and reacted to (R460 to R467). `chip` says that a chip
reset is carried out in this intake cycle, and `unit` is the unit its block reset resets. -/
def State.report (simul chip : Bool) (unit : Option Nat) (r : Report) (s : State) : State :=
  let n := r.source
  let s := s.onHm fun h => { h with seq := h.seq + 1 }
  let s := (s.count 0x60000B 1).count (odKey 0x6013 (1 + n)) 1
  let sev := s.severity n
  let x0 := (s.hmSrc n).countIn s.ticks
  let esc := x0.escalates s.ticks
  let s := s.onHmSrc n fun _ => { x0 with
    lasting := x0.lasting || esc, pending := true, kind := r.kind
    count := if x0.count = 0xFFFFFFFF then x0.count else x0.count + 1 }
  let set := (s.hmSrc n).reactions
  let free := s.sys.powerLoss.isNone
  let block := unit.isSome
  let reset := bitOf set 3 && free && s.sys.chipResetBy.isNone
  let lim := bitOf set 5 && free && !chip
  let done := set - b2n (bitOf set 2 && !block) * 4 - b2n (bitOf set 3 && !reset) * 8
    - b2n (bitOf set 5 && !lim) * 32
  let e : HistEntry :=
    { tSrc := r.stamp, tIn := s.now, addr := r.addr, source := BitVec.ofNat 8 n
      kindSev := BitVec.ofNat 8 (16 * r.kind.toNat + 8 * b2n (s.hmSrc n).lasting + sev)
      seq := s.hm.seq, react := BitVec.ofNat 6 done, simul := simul, injected := r.injected }
  let s := if s.hm.histMin.toNat ≤ sev then s.histPut e else s
  let s : State := match srcActuator n with
    | some a => s.onHm fun h => { h with vHist := h.vHist.set a ((e :: h.vHist.get a).take 4) }
    | none => s
  let s := if esc then
      (s.event epMonitor 281 n).ybAppend 0x0008
        [BitVec.ofNat 8 n, r.kind.setWidth 8, BitVec.ofNat 8 (x0.wcount s.ticks)]
        |>.escalated n r.kind.toNat
    else s
  let s := if sev = 7 then (s.onNvme fun v => { v with fatalSeen := true }).updateWarnings else s
  let s := s.doIf (decide (sev = 7) || esc) fun t =>
    (t.ybSnapshot true).onNvme (fun v => { v with teleAvail := true }) |>.noticeAll 2
  let s := s.doIf (bitOf set 4) (State.eoAssert n)
  let s := s.reportIrq n (bitOf set 1) (bitOf set 0)
  let s := match unit with
    | some u => (s.blockReset u).event epMonitor 287 n
    | none => s
  if reset then
    let s := (s.event epMonitor 288 n).onHm fun h => { h with
      causeValid := true, causeSource := BitVec.ofNat 8 n, causeKind := r.kind }
    s.requestChipReset (1 + n)
  else if lim then
    s.enterLimited (limitedCode n r.kind.toNat) (faultActuator n r.kind.toNat r.addr.toNat).toList
      (decide (n = 30))
  else s

/-- The reports of one intake cycle (R457, R465). -/
def State.intake (l : List Report) (s : State) : State :=
  let bad := l.filter fun r => decide (159 < r.source)
  let good := l.filter fun r => decide (r.source ≤ 159)
  let s := foldS (fun r t =>
    (t.onHm fun h => { h with badSource := true }).event epMonitor 289 (r.src.toNat * 2 ^ 20)) bad s
  let sorted := good.foldl (fun m r => s.reportInsert r m) []
  let chip := s.sys.powerLoss.isNone && s.sys.chipResetBy.isNone
    && good.any fun r => bitOf (s.wouldReact r) 3
  (sorted.foldl (fun (x : List Nat × State) r =>
    let u := x.2.reportUnit chip x.1 r
    (x.1 ++ u.toList, x.2.report (decide (2 ≤ good.length)) chip u r)) ([], s)).2

/-- FAULT_REPORT_INTAKE (R457): up to four reports of one intake cycle. -/
def execFaultReportIntake (srcs : List Endpoint) (s : State) : Eff :=
  let (t, l) := s.takeReports (srcs.take 4)
  .next (t.intake l)

/-- WINDOW_BUCKET_ROLL (R460): buckets before the seven last ones no longer count. -/
def execWindowBucketRoll (s' : Fin 160) (s : State) : Eff :=
  .next (
    let x := s.hmSrc s'.val
    let b := s.ticks / bucketTicks x.win
    if x.buckets.isEmpty then s
    else s.onHmSrc s'.val fun y => { y with
      buckets := y.buckets.filter fun k => decide (b < k.1 + 8) })

/-- FAULT_SUMMARY_MINUTE (R466): a count record for each source with more than 16 entries in the minute
that has passed since the last one ended. -/
def execFaultSummaryMinute (s : State) : Eff :=
  .next (if s.since s.hm.minuteAt < 60 * secTicks then s else
    let many := s.hm.minute.filter fun e => decide (16 < e.2)
    let s := foldS (fun (e : Nat × Nat) t =>
      t.ybAppend 0x0007 (leBytes 1 e.1 ++ leBytes 4 e.2)) many s
    s.onHm fun h => { h with minute := [], minuteAt := s.now })

/-- HM_INJECT (R472): only principal cores; a source of an absent unit, and one that never becomes
pending, makes no report. -/
def execHmInject (src : Endpoint) (source kind : Nat) (s : State) : Eff :=
  .next (
    if 3 < src.toNat then s
    else
      let s := s.onHm fun h => { h with
        injSource := BitVec.ofNat 8 source, injKind := BitVec.ofNat 4 kind }
      if s.srcAbsent source || srcNever (source % 256) then s
      else s.intake [{ src := epMonitor, source := source % 256, kind := BitVec.ofNat 4 kind, addr := 0
                       stamp := s.now, injected := true }])

/-- HISTORY_CLEAR (R466). -/
def execHistoryClear (s : State) : Eff := .next s.histClear

/-- EO_FORCE (R468). -/
def execEoForce (s : State) : Eff := .next (s.eoAssert 0xFF)

/-- EO_HOLD_CLEAR (R468). -/
def execEoHoldClear (s : State) : Eff := .next s.eoClearHold

/-- EO_WIDTH_EXPIRY (R468): the minimum width has passed. -/
def execEoWidthExpiry (s : State) : Eff :=
  let was := s.errorOut
  .next (
    if s.now.toNat < s.hm.eoEnds.toNat then s
    else (s.onHm fun h => { h with eoTimer := false }).eoRelease was)

/-- LASTING_CLEAR (R460). -/
def execLastingClear (s' : Fin 160) (s : State) : Eff := .next (s.clearLasting s'.val)

/-- HM_SRC_CFG as a write leaves it, and whether a bit was refused (R464, R475): reserved bits stay
zero, BRST only for the sources of R463, CRST not for sources 8 and 9. -/
def cfgStored (n : Nat) (v : BitVec 32) : BitVec 32 × Bool :=
  let v := v &&& 0x73003F3F
  let noB : BitVec 32 := if (brstUnit n 0).isNone then 0x00000404 else 0
  let noC : BitVec 32 := if n = 8 || n = 9 then 0x00000808 else 0
  let bad := v &&& (noB ||| noC)
  (v &&& ~~~ bad, decide (bad ≠ 0))

/-- SRC_CFG_WRITE (R464). -/
def execSrcCfgWrite (s' : Fin 160) (v : BitVec 32) (s : State) : Eff :=
  let (w, bad) := cfgStored s'.val v
  .next (
    let s := s.onHmSrc s'.val fun x => { x with cfg := w }
    if bad then s.onHm fun h => { h with conflict := true } else s)

/-- HM_SRC_WIN written: a change of WINDOW clears the buckets (R460). -/
def HmSrc.setWin (v : BitVec 32) (x : HmSrc) : HmSrc :=
  { x with win := v
           buckets := if v.setWidth 24 = x.win.setWidth 24 then x.buckets else [] }

/-- SRC_WIN_WRITE (R460). -/
def execSrcWinWrite (s' : Fin 160) (v : BitVec 32) (s : State) : Eff :=
  .next (s.onHmSrc s'.val (HmSrc.setWin v))

end Sys2Proof.Machine
end

