-- ==== Sys2Proof/Machine/HeatOps.lean ====
section
/-! DEFINITION. The heat allowance, thermal protection, lateness and the switching of the second pool
half (11 R342, R343, R351 to R353), which the power block and the host rows use too. -/

namespace Sys2Proof.Machine

open Sys2Proof

/-- Present temperature of a sensor, 0.125 C: 0 to 5 on-die, 6 and 7 remote diodes. -/
def State.temp (s : State) (i : Nat) : Int := nth s.pwr.temps i 200

/-- The heads whose temperature counts: those of loaded actuators that have been polled (R342). -/
def State.headTemps (s : State) : List (Fin 4 × Nat × Int) :=
  s.presentActs.flatMap fun a =>
    if s.loaded a then
      (List.range 32).filterMap fun h => (Tab.get? s.tt.headT (32 * a.val + h)).map fun t => (a, h, t)
    else []

/-- f_s of a sensor in per mille: knee and limit in C, temperature in 0.125 C (R342). -/
def fSensor (knee limit t : Int) : Nat :=
  if limit ≤ knee then (if 8 * limit ≤ t then 0 else 1000)
  else (clampInt 0 1000 ((8 * limit - t) * 1000 / (8 * (limit - knee)))).toNat

/-- Whether a sensor is healthy (18 R507). -/
def State.sensorGood (s : State) (i : Nat) : Bool := s.pwr.sensorOk.getLsbD i

/-- The healthy on-die sensors. -/
def State.dieSensors (s : State) : List Nat := (List.range 6).filter s.sensorGood

/-- The healthy remote diodes. -/
def State.diodes (s : State) : List Nat := [6, 7].filter s.sensorGood

/-- f_heat in per mille (R342); with both remote diodes faulty, that of the on-die group alone less
0.2 (18 R507). -/
def State.heatNow (s : State) : Nat :=
  let die := s.dieSensors.map fun i => fSensor s.p1840DieKnee s.p1840DieLimit (s.temp i)
  let diode := s.diodes.map fun i => fSensor s.p1840DiodeKnee s.p1840DiodeLimit (s.temp i)
  let heads := s.headTemps.map fun x => fSensor s.p1840HeadKnee s.p1840HeadLimit x.2.2
  if s.diodes.isEmpty then max s.p1840FMin (die.foldl min 1000 - 200)
  else max s.p1840FMin ((die ++ diode ++ heads).foldl min 1000)

/-- The heat allowance is brought up to date: event 276 when it has moved by 0.1 (R342). -/
def State.updateHeat (s : State) : State :=
  let f := s.heatNow
  let cool := if f < 1000 then
      (match s.tt.coolSince with
      | some t => some t
      | none => some s.now)
    else none
  let s := s.onTt fun t => { t with fHeat := f, coolSince := cool }
  if 100 ≤ max f s.tt.fHeatEv - min f s.tt.fHeatEv then
    (s.onTt fun t => { t with fHeatEv := f }).event epTimetable 276 f
  else s

/-- Whether a decoder of the second half decodes. -/
def State.upperBusy (s : State) : Bool := s.pool.jobs.any fun e => decide (4 ≤ e.1)

/-- Whether protection of a group with a limit holds after temperatures are seen (R343). -/
def State.protNow (s : State) (was : Bool) (limit : Int) (ts : List Int) : Bool :=
  if was then ts.any fun t => decide (8 * (limit - s.p1840Hyst) < t)
  else ts.any fun t => decide (8 * limit ≤ t)

/-- Event 277: protection starts or ends for a group, 0 die, 1 diode, 2 head (R343). -/
def State.protEvent (group head : Nat) (ended : Bool) (s : State) : State :=
  s.event epTimetable 277 (group + head * 256 + b2n ended * 2 ^ 31)

/-- Thermal protection is brought up to date (R343): a start of die protection takes the second pool
half off once its decoders are idle. -/
def State.updateProt (s : State) : State :=
  let die := s.protNow s.tt.protDie s.p1840DieLimit (s.dieSensors.map s.temp)
  let diode := s.protNow s.tt.protDiode s.p1840DiodeLimit (s.diodes.map s.temp)
  let s := s.doIf (die != s.tt.protDie) fun t => t.protEvent 0 0 s.tt.protDie
  let s := s.doIf (diode != s.tt.protDiode) fun t => t.protEvent 1 0 s.tt.protDiode
  let s := s.onTt fun t => { t with protDie := die, protDiode := diode }
  s.doIf (die && !s.upperBusy && s.domOn 29) (State.switchOff 29)

/-- Thermal protection of one head after a poll (R343). -/
def State.headProt (a : Fin 4) (h : BitVec 5) (t : Int) (s : State) : State :=
  let was := s.tt.protHeads.contains (a, h)
  let is := s.protNow was s.p1840HeadLimit [t]
  if is = was then s
  else
    let s := s.protEvent 2 h.toNat was
    s.onTt fun x => { x with
      protHeads := if was then x.protHeads.erase (a, h) else x.protHeads ++ [(a, h)] }

/-! Lateness (R353). -/

/-- 2^32 * 2^(-2^(-i)) rounded, for i from 1 to 16. -/
def halfPowers : List Nat :=
  [3037000500, 3611622603, 3938502376, 4112874773, 4202935003, 4248701965, 4271771996, 4283353945,
   4289156690, 4292061010, 4293513907, 4294240540, 4294603903, 4294785595, 4294876445, 4294921870]

/-- A score after a number of half lives in 1 / 65,536. -/
def decay (score halves : Nat) : Nat :=
  let whole := halves / 65536
  if 64 ≤ whole then 0
  else
    let p := (List.range 16).foldl (fun m i =>
      if bitOf halves (15 - i) then m * nth halfPowers i 0 / 2 ^ 32 else m) score
    p / 2 ^ whole

/-- The lateness score brought up to now: it halves every LATE_HALF_LIFE (R353). -/
def State.lateDecay (s : State) : State :=
  let us := s.since s.tt.lateAt / usTicks
  let halves := us * 65536 / (1000 * max 1 s.p1810LateHalfLife)
  s.onTt fun t => { t with lateScore := decay t.lateScore halves, lateAt := s.now }

/-- A command completes: one past its deadline raises the score by its lateness (R353). -/
def State.lateComplete (due : BitVec 64) (s : State) : State :=
  if s.ticks ≤ due.toNat then s
  else
    let s := s.lateDecay.count 0x185006 1
    s.onTt fun t => { t with
      lateScore := t.lateScore + (s.ticks - due.toNat) * 65536 / usTicks, lastLate := some s.now }

/-! The second pool half (R351). -/

/-- Whether the Timetable runs (R339). -/
def State.ttRuns (s : State) : Bool := s.sys.mode.active && s.sys.powerLoss.isNone

/-- The second half is switched on when the modes, protection and the hardware warning allow it
(R343, R351, 18 R506). -/
def State.upperOn (s : State) : State :=
  if s.ttRuns && !s.tt.protDie && !s.pwr.hwWarn && decide ((s.dom 29).state = .off) then
    (s.onTt fun t => { t with grantAt := s.now }).switchOn 29
  else s

end Sys2Proof.Machine
end

