-- ==== Sys2Proof/Machine/Timetable.lean ====
section
/-! DEFINITION. The Timetable (11): budgets, admission, ordering, recovery, calibration grants and
Cruise decisions. -/

namespace Sys2Proof.Machine

open Sys2Proof

/-! The order of candidates (R350). -/

/-- K of a candidate in 2^-20 us: the time to its first sector and the weighted 12 V charge of its
first plan (R350). -/
def State.candK (s : State) (c : Cand) : Nat :=
  let q := match (s.plansOf c).head? with
    | some p => sumNat (s.plan12 c.act p)
    | none => 0
  c.tAcc * 2 ^ 20 + fToNat (2 ^ 20) s.p1810CostWeight * q / 100

/-- The step of R350 that takes a candidate, 1 to 5. Obligatory work that has slack left is taken as
other background is (log 50). -/
def State.candStep (s : State) (c : Cand) : Nat :=
  match c.kind with
  | .foreground _ _ =>
    if s.candLate c then 2 else if s.slackOf c < s.guardUs then 3 else 4
  | .obligatory _ _ _ => if s.slackOf c ≤ 0 then 1 else 5
  | .optional _ => 5

/-- The order within a step (R350, R355): kinds at zero slack on one unit in kind order, then slack,
deadline or K; ties to the lower actuator. -/
def State.candKey (s : State) (c : Cand) : Nat × Int × Nat :=
  let st := s.candStep c
  let v : Int := match st with
    | 1 => s.slackOf c
    | 2 => ((s.candDue c).toNat : Int)
    | 3 => s.slackOf c
    | _ => (s.candK c : Int)
  (st, v, c.act.val)

/-- Whether one key comes before another. -/
def keyBefore (x y : Nat × Int × Nat) : Bool :=
  decide (x.1 < y.1) || (x.1 == y.1 &&
    (decide (x.2.1 < y.2.1) || (x.2.1 == y.2.1 && decide (x.2.2 ≤ y.2.2))))

/-- The obligatory kind of a candidate. -/
def candKind (c : Cand) : Option Nat :=
  match c.kind with
  | .obligatory k _ _ => some k
  | _ => none

/-- Whether one candidate is taken before another. -/
def State.candBefore (s : State) (x y : Cand) : Bool :=
  match candKind x, candKind y with
  | some i, some j =>
    if s.candStep x = 1 && s.candStep y = 1 && x.act = y.act && i ≠ j then decide (i < j)
    else keyBefore (s.candKey x) (s.candKey y)
  | _, _ => keyBefore (s.candKey x) (s.candKey y)

/-- A candidate inserted in the order of R350. -/
def State.candInsert (s : State) (c : Cand) : List Cand → List Cand
  | [] => [c]
  | d :: r => if s.candBefore d c then d :: s.candInsert c r else c :: d :: r

/-- Whether a candidate writes. -/
def candWrites (c : Cand) : Bool :=
  match c.kind with
  | .foreground _ w => w
  | .obligatory _ _ w => w
  | .optional w => w

/-- The media operations admitted on an actuator (R339). -/
def State.mediaAdmitted (s : State) (a : Fin 4) : Nat :=
  s.tt.admitted.countP (fun x => decide (x.act = a) && !x.ended)

/-- Whether a candidate may be considered at all: the mode, thermal protection, recovery, an entry to
RECESS or DORMANT, unsafe and granted actuators (R339, R343, R350, R353, R358, R360). -/
def State.candAllowed (s : State) (c : Cand) : Bool :=
  s.ttRuns && !s.unsafeAct c.act && s.present c.act && !(s.act c.act).isl.cal.active
    && !(decide (s.sys.mode = .limited) && candWrites c)
    && (decide (s.sys.mode ≠ .orientation) || decide (s.mediaAdmitted c.act < 4))
    && !(candWrites c && s.tt.protHeads.contains (c.act, c.head))
    && (match c.kind with
      | .foreground _ _ => true
      | .obligatory _ _ _ => s.sys.entry.isNone
      | .optional _ => s.sys.entry.isNone && !s.tt.recovery && !s.tt.protDie && !s.tt.protDiode)

/-- Whether an operation runs on an actuator. -/
def State.actBusy (s : State) (a : Fin 4) : Bool := s.tt.admitted.any fun x => decide (x.act = a) && !x.ended

/-- Whether any operation runs. -/
def State.anyRuns (s : State) : Bool := s.tt.admitted.any fun x => !x.ended

/-- The chip time, in ticks, at which a seek on an actuator may start (R348). -/
def State.seekStart (s : State) (a : Fin 4) : Nat :=
  s.tt.seekAt.foldl (fun n e =>
    if e.1 = a.val then n else max n (e.2 - 1 + s.p1800StaggerUs * usTicks)) s.ticks

/-- The plan a candidate is admitted with (R347); `share` is the part of the 12 V headroom a late seek
has. -/
def State.pickPlan (s : State) (c : Cand) (start share : Nat) : Option Plan :=
  let ps := s.plansOf c
  let fastest (exempt : Bool) : Option Plan := (ps.filter fun p => s.passes c.act start exempt p).getLast?
  let only (p : Option Plan) : Option Plan := match p with
    | some p => if s.passes c.act start false p then some p else none
    | none => none
  match c.kind with
  | .foreground _ _ =>
    if s.candLate c then
      (ps.filter fun p => s.passes c.act start true p
        && (s.plan12 c.act p).all fun m => decide (m ≤ share)).getLast?
    else
      match s.slackPlan c with
      | some p => only (some p)
      | none => fastest false
  | .obligatory _ _ _ => if s.candStep c = 1 then fastest true else only ps.head?
  | .optional _ => only ps.head?

/-- Whether the least plan of a candidate fails the peak test with nothing else committed (R346). -/
def State.tooBig (s : State) (c : Cand) : Bool :=
  let (h12, h5) := s.headroom
  let ps := s.plansOf c
  !ps.isEmpty && ps.all fun p =>
    ((s.plan12 c.act p).any fun m => decide (h12 < m)) || (s.plan5 p).any fun m => decide (h5 < m)

/-- The rails a candidate charges. -/
def State.charges (s : State) (c : Cand) : Bool × Bool :=
  match (s.plansOf c).head? with
  | some p => (decide (sumNat (s.plan12 c.act p) ≠ 0), decide (sumNat (s.plan5 p) ≠ 0))
  | none => (false, false)

/-- The predicted 12 V charge of a plan's seek without K_SEEK's factor, uC (R344, R345). -/
def State.seekCharge (s : State) (p : Plan) : Nat := s.p1820KSeek * sumNat p.acc / 100000

/-- An operation is admitted (R338). -/
def State.takeOn (c : Cand) (p : Plan) (startTick : Nat) (s : State) : State :=
  let x : Admitted :=
    { id := c.id, act := c.act
      cmd := match c.kind with
        | .foreground n _ => some n
        | _ => none
      kind := candKind c, cls := p.cls, seek := c.seek, start := slotOf startTick, mA12 := s.plan12 c.act p
      mA5 := s.plan5 p, raw := s.seekCharge p, ended := false }
  let s := s.onTt fun t => { t with
    admitted := t.admitted ++ [x]
    seekAt := if c.seek then Tab.set t.seekAt c.act.val (startTick + 1) else t.seekAt }
  match c.kind with
  | .obligatory k j _ => s.obligDone k j
  | _ => s

/-- An operation ends, or gives way to a new plan of it: what it had still to draw is free. -/
def State.cutShort (id : Nat) (s : State) : State :=
  let k := slotOf s.ticks
  let span := (s.tt.admitted.filter fun x => x.id = id && x.kind == some 7 && !x.ended).map fun x =>
    (x.act, 2000 * x.start, s.ticks)
  s.onTt fun t => { t with
    served7 := (t.served7 ++ span).filter fun x => decide (s.ticks < x.2.2 + secTicks)
    admitted := t.admitted.map fun x =>
      if x.id = id && !x.ended then
        { x with mA12 := x.mA12.take (k - x.start), mA5 := x.mA5.take (k - x.start), ended := true }
      else x
    alone := if t.alone = some id then none else t.alone }

/-- Obligatory work at zero slack takes its unit from foreground work (R355): event 275. -/
def State.obligWin (c : Cand) (all : List Cand) (s : State) : State :=
  match c.kind with
  | .obligatory k _ _ =>
    let waits := all.any fun d => decide (d.act = c.act) && (match d.kind with
      | .foreground _ _ => true
      | _ => false)
    if s.candStep c = 1 && waits then
      (s.event epTimetable 275 (k + c.act.val * 256)).count 0x186005 1
    else s
  | _ => s

/-- One candidate is considered. The second component says that it failed or waited (R350, R359); the
third lists the actuators that obligatory work at zero slack holds against foreground work (R355). -/
def State.consider (all : List Cand) (share : Nat) (c : Cand) (x : State × Bool × List (Fin 4)) :
    State × Bool × List (Fin 4) :=
  let (s, blocked, held) := x
  let step := s.candStep c
  let running := s.tt.admitted.any fun y => y.id == c.id && !y.ended
  let replan := running && step = 2 && c.seek
  if !s.candAllowed c then (s, blocked, held)
  else if running && !replan then (s, blocked, held)
  else
    let s0 := if replan then s.cutShort c.id else s
    let (c12, c5) := s.charges c
    let fore := decide (2 ≤ step) && decide (step ≤ 4)
    let wait := s0.actBusy c.act || (fore && held.contains c.act) || s0.tt.alone.isSome
      || (c12 && s.tt.block12) || (c5 && s.tt.block5)
    if wait then (s, true, if step = 1 then c.act :: held else held)
    else
      let start := if c.seek && !replan then s0.seekStart c.act else s.ticks
      match s0.pickPlan c (slotOf start) share with
      | some p => (((s0.obligWin c all).takeOn c p start), blocked, held)
      | none =>
        if s0.tooBig c && !s0.anyRuns then
          match (s.plansOf c).head? with
          | some p =>
            let t := ((s0.obligWin c all).takeOn c p start).fault epTimetable 151 0
            (t.onTt fun v => { v with alone := some c.id }, blocked, held)
          | none => (s, blocked, held)
        else
          let t := if step ≤ 3 then
              s.onTt fun v => { v with block12 := v.block12 || c12, block5 := v.block5 || c5 }
            else s
          (t, true, if step = 1 then c.act :: held else held)

/-- What was not admitted stays queued (R349). -/
def State.queueLeft (cands : List Cand) (s : State) : State :=
  s.onTt fun t => { t with
    queue := cands.filter fun c => !t.admitted.any fun x => x.id == c.id && !x.ended }

/-- The candidates are considered in order; whether any failed or waited. -/
def State.admitAll (cands : List Cand) (s : State) : State × Bool :=
  let sorted := cands.foldl (fun l c => s.candInsert c l) []
  let lateSeeks := sorted.countP fun c => s.candLate c && c.seek && s.candAllowed c
  let share := s.headroom.1 / max 1 lateSeeks
  let r := sorted.foldl (fun x c => State.consider sorted share c x) (s, false, [])
  (r.1.queueLeft sorted, r.2.1)

/-! Boundaries (R337, R338, R345, R351, R353). -/

/-- The mean of a list of ratios held within 0.5 to 2.0 (R345). -/
def ratioMean (l : List Nat) : Nat :=
  if l.isEmpty then 1000 else min 2000 (max 500 (sumNat l / l.length))

/-- A measured charge as a part of its prediction, per mille. -/
def chargeRatio (measured predicted : Nat) : Nat :=
  if predicted = 0 then 1000 else measured * 1000 / predicted

/-- One measured charge beside its prediction (R345): event 278 with the excess when it is more than
20 % above. -/
def State.overCharge (who measured predicted : Nat) (s : State) : State :=
  if 6 * predicted < 5 * measured then
    let e := measured - predicted
    (s.onTt fun t => { t with excess := t.excess + e }).event epTimetable 278 (e % 65536 + who * 65536)
  else s

/-- The corrections after a period (R345). -/
def State.correct (x : BoundaryInputs) (s : State) : State :=
  let us := s.tt.periodUs
  let vcm (a : Fin 4) : Nat := b2n (s.loaded a) * s.p1820TrackFollow * us / 1000
    + (s.tt.admitted.foldl (fun m y => if y.act = a then m + s.periodSum y.start y.mA12 0 else m) 0) / 100
  let s := s.overCharge 0 x.spindle (s.spinCurrent * s.tt.spinFix / 1000 * us / 1000)
  let s := foldS (fun a t => t.overCharge a.val (nth x.vcm a.val 0) (vcm a)) s.presentActs s
  let spin := (chargeRatio x.spindle (s.spinCurrent * us / 1000) :: s.tt.spinHist).take 64
  let s := s.onTt fun t => { t with spinHist := spin, spinFix := ratioMean spin }
  foldS (fun (y : Nat × Nat) (t : State) =>
    match t.tt.admitted.find? fun z => z.id == y.1 && z.seek with
    | none => t
    | some z =>
      let h := (chargeRatio y.2 z.raw :: nth t.tt.kHist z.act.val []).take 64
      t.onTt fun v => { v with
        kHist := setNth v.kHist z.act.val h, kFix := setNth v.kFix z.act.val (ratioMean h) }) x.ended s

/-- The admitted commands that are late (R353). -/
def State.lateAdmitted (s : State) : Nat :=
  (s.tt.admitted.filter fun x => !x.ended && (match x.cmd with
    | some n => (match s.cmd? n with
      | some k => k.lateSeen || decide (k.due.toNat ≤ s.ticks)
      | none => false)
    | none => false)).length

/-- Recovery is entered at the first boundary at which an admitted command is late, and left at the
first at which none is and L is below LATE_EXIT (R353). -/
def State.recoveryCheck (s : State) : State :=
  let late := s.lateAdmitted
  let s := s.lateDecay
  if !s.tt.recovery then
    if late = 0 then s
    else ((s.onTt fun t => { t with recovery := true, recoverySince := s.now }).event epTimetable 272 late)
      |>.count 0x185007 1
  else if late = 0 && decide (s.tt.lateScore < 65536 * s.p1810LateExit) then
    (s.event epTimetable 273 (s.msSince s.tt.recoverySince)).onTt fun t => { t with recovery := false }
  else s

/-- A multiple of a period length has come since the last boundary (R337). -/
def State.passedBoundary (s : State) (us : Nat) : Bool :=
  decide (s.tt.boundary.toNat / (us * usTicks) < s.ticks / (us * usTicks))

/-- The period length that OD 0x1800.01 and recovery ask for (R337, R353, R360). -/
def State.periodWanted (s : State) : Nat :=
  if s.tt.recovery then max 250 (s.p1800PeriodUs / 2) else s.p1800PeriodUs

/-- A period boundary has come: of the present length, or the first of a new one (R337). -/
def State.boundaryDue (s : State) : Bool :=
  s.passedBoundary s.tt.periodUs || s.passedBoundary s.periodWanted

/-- The period length from this boundary on (R337, R353): half in recovery; a new length begins at a
multiple of itself. The boundary is the last multiple of the length that has come. -/
def State.setPeriod (s : State) : State :=
  let n := if s.tt.recovery || s.passedBoundary s.periodWanted then s.periodWanted else s.tt.periodUs
  s.onTt fun t => { t with
    periodUs := n
    boundary := BitVec.ofNat 64 (s.ticks - s.ticks % (n * usTicks)), block12 := false, block5 := false }

/-- The busy decoders and the second pool half at a boundary (R343, R351). -/
def State.poolPolicy (s : State) : State :=
  let busy := s.pool.jobs.length
  let n := if s.p1800PoolUpBusy ≤ busy then s.tt.busyBounds + 1 else 0
  let s := s.onTt fun t => { t with busyBounds := n }
  if s.tt.protDie || s.pwr.hwWarn then s.doIf (!s.upperBusy && s.domOn 29) (State.switchOff 29)
  else if 2 ≤ n then s.upperOn
  else s

/-- PERIOD_BOUNDARY (R338): corrections, recovery, budgets, and the candidates in order. What waits in
an entry or a shutdown goes on. -/
def execPeriodBoundary (x : BoundaryInputs) (s : State) : Eff :=
  .next (
    if !s.ttRuns then s.modePump
    else if !s.boundaryDue then s
    else
      let s := (foldS (fun e t => t.cutShort e.1) x.ended s).correct x
      let s := s.onTt fun t => { t with admitted := t.admitted.filter fun y => !y.ended }
      let s := s.recoveryCheck.setPeriod
      let s := ((s.updateHeat).ttBudget).poolPolicy
      let (s, blocked) := s.admitAll x.cands
      let s := s.onTt fun t => { t with
        utilNow := (t.utilNow.1 + b2n blocked, t.utilNow.2 + 1) }
      s.modePump)

/-- ACTUATOR_FREE_ADMISSION (R338): an admission at once against the same period's budget. -/
def execActuatorFreeAdmission (a : Fin 4) (x : BoundaryInputs) (s : State) : Eff :=
  .next (
    if !s.ttRuns then s
    else
      let s := foldS (fun e t => t.cutShort e.1) x.ended s
      (s.admitAll (x.cands.filter fun c => decide (c.act = a))).1)

/-- COMMAND_DEADLINE (R352): the command is late, and its work goes on. -/
def execCommandDeadline (n : Nat) (s : State) : Eff :=
  .next (s.onCmd n fun k => { k with lateSeen := k.lateSeen || decide (k.due.toNat ≤ s.ticks) })

/-- OBLIGATORY_DEADLINE_MISS (R355): fault source 150, once. -/
def execObligatoryDeadlineMiss (job : Nat) (s : State) : Eff :=
  .next (
    match s.tt.oblig.find? fun o => o.job == job && !o.missed && decide (o.due.toNat ≤ s.ticks) with
    | none => s
    | some o =>
      (s.onTt fun t => { t with
        oblig := mapFirst (fun y => y.job == job && !y.missed && decide (y.due.toNat ≤ s.ticks)) (fun y => { y with missed := true })
          t.oblig }).fault epTimetable 150 o.kind)

/-- HEAD_TEMP_POLL (R342, R343). -/
def execHeadTempPoll (a : Fin 4) (head : BitVec 5) (t : Int) (s : State) : Eff :=
  .next (
    let k := 32 * a.val + head.toNat
    let early := (Tab.get? s.tt.polledAt k).any fun t => decide (s.msSince t < s.p1840HeadPollMs)
    if !s.usable a || early then s
    else
      let s := s.onTt fun x => { x with
        headT := Tab.set x.headT k t, polledAt := Tab.set x.polledAt k s.now }
      (s.headProt a head t).updateHeat)

/-! Cruise (R359). -/

/-- A Cruise target of the Timetable is set, with its rule: event 274. -/
def State.cruiseTo (rule rpm : Nat) (s : State) : State :=
  let v := max s.p2040CruiseMin (min s.p2010RatedRpm rpm)
  let present := (s.spn.target.toNat) / 16
  if v = present && s.spn.cruise then s
  else
    let s := s.writeTarget (BitVec.ofNat 32 (2 ^ 31 + 16 * v))
    (s.onTt fun t => { t with cruise := some v, decidedAt := some s.now })
      |>.event epTimetable 274 (16 * v + rule * 2 ^ 29)

/-- Whether a condition has held for some seconds. -/
def State.heldFor (s : State) (since : Option (BitVec 64)) (sec : Nat) : Bool :=
  match since with
  | some t => decide (sec * secTicks ≤ s.since t)
  | none => false

/-- The percentage of boundaries with a waiting candidate over the last ten seconds. -/
def utilOf (l : List (Nat × Nat)) : Nat :=
  let b := l.foldl (fun n x => n + x.1) 0
  let all := l.foldl (fun n x => n + x.2) 0
  if all = 0 then 0 else 100 * b / all

/-- Whether a ladder runs step 4 or 5 (21 R564). -/
def State.ladderSlow (s : State) : Bool := s.recov.ladders.any fun l => decide (4 ≤ l.step)

/-- CRUISE_DECISION (R359, 21 R564): every second; a target at most every DECIDE_S. -/
def execCruiseDecision (s : State) : Eff :=
  .next (
    if s.since s.tt.secondAt < secTicks then s
    else
    let hist := (s.tt.utilNow :: s.tt.utilHist).take 10
    let u := utilOf hist
    let low := if u ≤ s.p1830UtilDown then
        (match s.tt.lowSince with
        | some t => some t
        | none => some s.now)
      else none
    let s := s.onTt fun t => { t with
      utilHist := hist, utilNow := (0, 0), util := u, lowSince := low, secondAt := s.now }
    let wait := match s.tt.decidedAt with
      | some t => decide (s.since t < s.p1830DecideS * secTicks)
      | none => false
    if decide (s.sys.mode ≠ .service) || s.cruiseOff || s.sys.entry.isSome || s.sys.shutStage.isSome
        || wait then s
    else
      let rated := s.p2010RatedRpm
      let present := s.spn.target.toNat / 16
      let lower (rule rpm : Nat) : State :=
        if s.tt.recovery || s.ladderSlow then s else s.cruiseTo rule rpm
      let lateNow := match s.tt.lastLate with
        | some t => decide (s.since t < 10 * secTicks)
        | none => false
      if s.tt.protDie || s.tt.protDiode then lower 1 s.p2040CruiseMin
      else if lateNow || s.tt.recovery then s.cruiseTo 2 rated
      else if s.heldFor s.tt.coolSince 10 then lower 3 (present - s.p1830StepRpm)
      else if s.p1830UtilUp ≤ u then s.cruiseTo 4 rated
      else if !s.ladderSlow && s.heldFor s.tt.lowSince s.p1830DownHoldS then
        lower 5 (present - s.p1830StepRpm)
      else s)

/-- POOL_IDLE_TIMEOUT (R351): POOL_IDLE_MS without a grant to decoders 4 to 7. -/
def execPoolIdleTimeout (s : State) : Eff :=
  .next (if s.ttRuns && s.domOn 29 && !s.upperBusy
      && decide (s.p1800PoolIdleMs ≤ s.msSince s.tt.grantAt) then s.switchOff 29 else s)

/-- POOL_REPLAY_WAIT (R351): a replay has waited 200 us. -/
def execPoolReplayWait (s : State) : Eff :=
  .next (if s.replayRequests.any fun r => decide (200 * usTicks ≤ s.since r.2.2.since) then s.upperOn
    else s)

/-! Calibration grants (R357, R358). -/

/-- The request and grant registers of an island replaced. -/
def State.onCal (a : Fin 4) (f : CalReg → CalReg) (s : State) : State :=
  s.onIsl a fun i => { i with cal := f i.cal }

/-- CAL_REQUEST (R357): a write of ISL_CALREQ with REQ set. -/
def execCalRequest (a : Fin 4) (v : BitVec 32) (s : State) : Eff :=
  .next (
    if !s.domOn (20 + a.val) then s
    else
      let d := v.extractLsb' 0 16
      let s := s.onCal a fun c => { c with
        safety := v.getLsbD 29, deadline := v.extractLsb' 16 13, duration := d }
      if d = 0 then s.onCal a fun c => { c with conflict := true }
      else
        let s := s.onCal a fun c => { c with req := true }
        if v.getLsbD 29 then s.oblige 4 a.val (some a) (fld v.toNat 16 13) else s)

/-- CAL_WITHDRAW (R357). -/
def execCalWithdraw (a : Fin 4) (s : State) : Eff :=
  .next (
    if (s.act a).isl.cal.req then
      (s.onCal a fun c => { c with req := false }).obligDone 4 a.val
    else s)

/-- Whether foreground work waits for an actuator: a read or write operation, or a ladder there. -/
def State.foreWaits (s : State) (a : Fin 4) : Bool :=
  !(s.act a).rch.ops.isEmpty || !(s.act a).wp.ops.isEmpty
    || s.recov.ladders.any fun l => decide (l.act = a) && l.job.req.cmd.isSome

/-- CAL_GRANT_START (R358): after the running operation; without SAFETY only when no foreground work
waits, no recovery runs and no thermal protection holds. -/
def execCalGrantStart (a : Fin 4) (s : State) : Eff :=
  .next (
    let c := (s.act a).isl.cal
    let calm := !s.foreWaits a && !s.tt.recovery && !s.tt.protDie && !s.tt.protDiode
      && s.tt.protHeads.isEmpty
    if !c.req || c.active || !s.ttRuns || s.actBusy a || s.unsafeAct a || (!c.safety && !calm) then s
    else
      let d := min c.duration.toNat (100 * s.p1860CalMaxMs)
      let s := s.onCal a fun c => { c with
        req := false, active := true, given := BitVec.ofNat 16 d, since := s.now }
      let s := s.doIf (c.safety && s.foreWaits a) fun t =>
        (t.event epTimetable 275 (4 + a.val * 256)).count 0x186005 1
      (s.obligDone 4 a.val).event epTimetable 279 (d + a.val * 2 ^ 24))

/-- A grant ends: event 279 (R358). -/
def State.calEnd (a : Fin 4) (s : State) : State :=
  let c := (s.act a).isl.cal
  if c.active then
    (s.onCal a fun c => { c with active := false }).event epTimetable 279
      (c.given.toNat + a.val * 2 ^ 24 + 2 ^ 31)
  else s

/-- CAL_GRANT_DONE (R358): DONE written. -/
def execCalGrantDone (a : Fin 4) (s : State) : Eff := .next (s.calEnd a)

/-- CAL_GRANT_EXPIRY (R358): LEFT reaches zero. -/
def execCalGrantExpiry (a : Fin 4) (s : State) : Eff :=
  .next (if s.calLeft a = 0 then s.calEnd a else s)

end Sys2Proof.Machine
end

