-- ==== Sys2Proof/Machine/FetchOps.lean ====
section
/-! DEFINITION. Fetching NVMe commands, their status by mode, and their completion (12 R367 to R373,
R382 to R384, 10 R323). -/

namespace Sys2Proof.Machine

open Sys2Proof

/-! Queues and fetching. -/

/-- A submission queue. -/
def State.sq? (s : State) (c : Fin 2) (id : Nat) : Option Sq := (s.ctrl c).sqs.find? fun q => q.id == id

/-- A completion queue. -/
def State.cq? (s : State) (c : Fin 2) (id : Nat) : Option Cq := (s.ctrl c).cqs.find? fun q => q.id == id

/-- Whether the registers of a controller can be reached: its port is up and powered, outside
L1.2, and the host island is configured (R365). -/
def State.hostReach (s : State) (c : Fin 2) : Bool :=
  s.presentCtrls.contains c && s.sys.hostConfigured && (s.port c).up && !(s.port c).l12
    && !s.ports.perst && s.sys.powerLoss.isNone && s.domOn (12 + c.val)

/-- Whether a controller fetches the next command of a queue (R370, R375): not while fetching is
stopped or 2,048 commands are outstanding. Queue 0 is the admin queue. -/
def State.fetchOk (s : State) (h : NvmeHdr) (admin : Bool) : Bool :=
  let k := s.ctrl h.ctrl
  s.hostReach h.ctrl && k.en && k.rdy && !k.fetchStopped
    && decide (s.nvme.cmds.countP (fun x => decide (x.ctrl = h.ctrl)) < 2048)
    && admin == (h.sqid == 0)
    && (match s.sq? h.ctrl h.sqid with
      | some q => decide (q.head ≠ q.tail)
      | none => false)

/-- The arbitration class of a queue (R369): 0 urgent, 1 high, 2 medium, 3 low. -/
def State.sqClass (s : State) (c : Fin 2) (id : Nat) : Nat :=
  if id = 0 then 0
  else if (s.ctrl c).ams = 1 then
    match s.sq? c id with
    | some q => q.prio.toNat
    | none => 2
  else 2

/-- A command enters the command table (R370). -/
def State.fetch (h : NvmeHdr) (admin : Bool) (opcode : Nat) (r : IoRange) (s : State) : State :=
  let s := s.takeNumber
  let k : Cmd :=
    { n := s.nvme.fetched, ctrl := h.ctrl, sqid := h.sqid, cid := h.cid
      opcode := BitVec.ofNat 8 opcode, admin := admin, nsid := r.nsid, lba := r.lba, nlb := r.nlb
      limitedRetry := false, places := [], gen := 0, fua := false, handle := none
      due := s.inTicks (s.deadlineMs (s.sqClass h.ctrl h.sqid) * msTicks)
      need := .nothing, status := nvOk, dw0 := 0, lateSeen := false }
  (s.onNvme fun v => { v with cmds := v.cmds ++ [k] }).onCtrl h.ctrl fun c => { c with
    sqs := c.sqs.map fun q => if q.id = h.sqid then { q with head := (q.head + 1) % max 1 q.size } else q }

/-- An admin command: fetched, then carried out under its number. -/
def State.admin (h : NvmeHdr) (opcode nsid : Nat) (body : Nat → State → State) (s : State) : State :=
  if s.fetchOk h true then
    let s := s.fetch h true opcode { nsid := nsid, lba := 0, nlb := 0 }
    body s.nvme.fetched s
  else s

/-- An I/O command: fetched, then carried out under its number. -/
def State.io (h : NvmeHdr) (opcode : Nat) (r : IoRange) (body : Nat → State → State) (s : State) :
    State :=
  if s.fetchOk h false then
    let s := s.fetch h false opcode r
    body s.nvme.fetched s
  else s

/-- A status under a condition. -/
def failIf (c : Bool) (st : NvStatus) : Option NvStatus := if c then some st else none

/-- The first failing check decides the status; with none the command goes on. -/
def State.checked (n : Nat) (checks : List (Option NvStatus)) (go : State → State) (s : State) :
    State :=
  match checks.findSome? id with
  | some st => s.cmdReady n st
  | none => go s

/-- A command completes with Dword 0. -/
def State.readyDw0 (n dw0 : Nat) (s : State) : State :=
  (s.cmdReady n nvOk).onCmd n fun c => { c with dw0 := BitVec.ofNat 32 dw0 }

/-- A data structure or log page is sent to the host, and the command completes. -/
def State.sendData (n lid : Nat) (bytes : List Byte) (s : State) : State :=
  match s.cmd? n with
  | some k =>
    (s.onNvme fun v => { v with
      data := v.data ++ [{ ctrl := k.ctrl, cid := k.cid, opcode := k.opcode
                           lid := BitVec.ofNat 8 lid, bytes := bytes }] }).cmdReady n nvOk
  | none => s

/-- A command waits for a SAVE of the persistent store (R387). -/
def State.cmdSave (n : Nat) (s : State) : State :=
  (s.onCmd n fun c => { c with need := .save 1 }).wantSave { answer := none, cmd := some n, more := 0 }

/-! Status by mode (R382) and by what runs (R383). -/

/-- Whether I/O is not yet accepted (R46, R382). -/
def State.notYet (s : State) : Bool :=
  decide (s.sys.mode = .fill) || (decide (s.sys.mode = .orientation) && !s.sys.ioAccepted)

/-- Namespace Not Ready before I/O is accepted. -/
def State.earlyCheck (s : State) (c : Fin 2) : Option NvStatus := failIf s.notYet (s.notReady c 2)

/-- Namespace is Write Protected in LIMITED. -/
def State.limitedCheck (s : State) : Option NvStatus :=
  failIf (decide (s.sys.mode = .limited)) (nvRetry .writeProtected)

/-- A Format NVM or Sanitize in progress on a namespace (R383). -/
def State.busyCheck (s : State) (nsid : Nat) : Option NvStatus :=
  if s.nvme.sanitize then some (nvRetry .sanitizeInProgress)
  else failIf (s.nvme.format.contains nsid) (nvRetry .formatInProgress)

/-- The namespace is attached to the controller. -/
def State.nsCheck (s : State) (c : Fin 2) (nsid : Nat) : Option NvStatus :=
  match s.ns? nsid with
  | some x => failIf (!x.attached.getLsbD c.val) (nvDnr .invalidNs)
  | none => some (nvDnr .invalidNs)

/-- Bytes of a logical block. -/
def Ns.blockBytes (x : Ns) : Nat := if x.lbaf = 0 then 512 else 4096

/-- The blocks lie within the namespace; a command that transfers data moves at most 1 MiB (R371). -/
def State.rangeCheck (s : State) (r : IoRange) (moves : Bool) : Option NvStatus :=
  match s.ns? r.nsid with
  | some x =>
    if r.nlb = 0 then some (nvDnr .invalidField)
    else if moves && decide (2 ^ 20 < r.nlb * x.blockBytes) then some (nvDnr .invalidField)
    else failIf (decide (x.blocks < r.lba + r.nlb)) (nvDnr .lbaRange)
  | none => none

/-- A block in an enabled range whose slot is empty: Access Denied (14 R429). -/
def State.lockCheck (s : State) (r : IoRange) : Option NvStatus :=
  failIf (s.rangeLocked r.nsid r.lba r.nlb) (nvDnr .accessDenied)

/-! Reservations as they bear on other commands (NVMe 2.0, PRESUMED). -/

/-- The reservation of a namespace. -/
def State.resv (s : State) (nsid : Nat) : Reservation :=
  (s.nvme.reservations.find? fun r => r.nsid == nsid).getD
    { nsid := nsid, registrants := [], holder := none, rtype := 0, ptpl := false, generation := 0 }

/-- The host identifier a controller was given (R387). -/
def State.hostId (s : State) (c : Fin 2) : List Byte :=
  match featFind 0x81 0 (s.ctrl c).feats with
  | some f => f.bytes
  | none => []

/-- The host behind a controller: two controllers given one identifier have one host. -/
def State.hostOf (s : State) (c : Fin 2) : Fin 2 :=
  if c = 1 && s.hostId 1 ≠ [] && decide (s.hostId 0 = s.hostId 1) then 0 else c

/-- Whether a host is a registrant. -/
def Reservation.has (r : Reservation) (h : Fin 2) : Bool := r.registrants.any fun x => decide (x.host = h)

/-- Whether a host holds the reservation: every registrant does in types 5 and 6. -/
def Reservation.holds (r : Reservation) (h : Fin 2) : Bool :=
  r.holder.isSome && (decide (r.holder = some h) || (decide (5 ≤ r.rtype) && r.has h))

/-- Reservation Conflict for a read or a write. -/
def State.resvCheck (s : State) (c : Fin 2) (nsid : Nat) (write : Bool) : Option NvStatus :=
  let r := s.resv nsid
  let h := s.hostOf c
  let deny : Bool := match r.rtype with
    | 1 => write && !r.holds h
    | 2 => !r.holds h
    | 3 => write && !r.has h
    | 4 => !r.has h
    | 5 => write && !r.has h
    | 6 => !r.has h
    | _ => false
  failIf (r.holder.isSome && deny) (nvDnr .reservationConflict)

/-- The checks that every command on blocks of a namespace passes. -/
def State.blockChecks (s : State) (c : Fin 2) (r : IoRange) (write moves : Bool) :
    List (Option NvStatus) :=
  [s.nsCheck c r.nsid, s.earlyCheck c, s.busyCheck r.nsid, if write then s.limitedCheck else none,
   s.rangeCheck r moves, s.resvCheck c r.nsid write, s.lockCheck r]

/-! Completion (R323, R373, R390, R392). -/

/-- Whether a command has a deadline (R352): I/O commands, and admin commands that need the media. -/
def Cmd.timed (k : Cmd) : Bool :=
  !k.admin || [0x0D, 0x15, 0x1A, 0x84].contains k.opcode.toNat

/-- The completion queue entry is written on the link, with the vector of its queue (R368). -/
def State.postCqe (k : Cmd) (s : State) : State :=
  let cqid := match s.sq? k.ctrl k.sqid with
    | some q => q.cqid
    | none => 0
  let vector := match s.cq? k.ctrl cqid with
    | some q => q.vector
    | none => 0
  let e : Cqe := { ctrl := k.ctrl, cqid := cqid, vector := vector, sqid := k.sqid, cid := k.cid
                   status := k.status, dw0 := k.dw0 }
  (s.onNvme fun v => { v with
      posted := v.posted ++ [e], cmds := v.cmds.filter fun x => x.n != k.n }).onCtrl k.ctrl fun c =>
    { c with cqs := c.cqs.map fun q =>
        if q.id = cqid then { q with tail := (q.tail + 1) % max 1 q.size } else q }

/-- Whether the completion queue of a command has no room. -/
def State.cqFull (s : State) (k : Cmd) : Bool :=
  match s.sq? k.ctrl k.sqid with
  | some q => match s.cq? k.ctrl q.cqid with
    | some c => decide ((c.tail + 1) % max 1 c.size = c.head)
    | none => false
  | none => false

/-- A Format NVM that completes no longer marks its namespaces (R383); a crypto erase clears them
itself. -/
def State.formatEnds (k : Cmd) (s : State) : State :=
  if k.opcode = 0x1A then
    let l := if k.nsid = 0xFFFFFFFF then s.nvme.format else [k.nsid]
    let mine (n : Nat) : Bool := l.contains n && !(match s.ciph.erase with
      | some e => e.nsids.contains n
      | none => false)
    s.onNvme fun v => { v with format := v.format.filter fun n => !mine n }
  else s

/-- COMMAND_COMPLETION (R323, R373): a command whose work is done is posted; with its completion queue
full, fault source 54. What waited for the table goes on (02 R53). -/
def execCommandCompletion (n : Nat) (s : State) : Eff :=
  .next (
    match s.cmd? n with
    | none => s
    | some k =>
      if k.need ≠ .nothing || !s.hostReach k.ctrl then s
      else if s.cqFull k then s.fault (epHost k.ctrl) 54 k.ctrl.val
      else
        let s := (((s.postCqe k).count 0x103001 1).formatEnds k).activationPump
        let s := s.doIf (decide (k.status.code = .nsNotReady)) fun t => t.count 0x103004 1
        (s.doIf k.timed (State.lateComplete k.due)).modePump)

end Sys2Proof.Machine
end

