-- ==== Sys2Proof/Machine/HostIo.lean ====
section
/-! DEFINITION. The NVMe I/O commands (12 R371, R374, R376, R382 to R384, R389; 10 R309 to R323). -/

namespace Sys2Proof.Machine

open Sys2Proof

/-! Reads (10 R311, 12 R376, R382). -/

/-- A unit on the media as a place. -/
def placeOf (g : Nat) : Where → Option Place
  | .media l sec _ tag => some { unit := g, loc := l, sector := sec, tag := tag }
  | _ => none

/-- The first logical block of a run that lies in an unreadable unit. -/
def State.badBlock (s : State) (x : Ns) (r : IoRange) : Nat :=
  ((List.range r.nlb).find? fun i => match nsUnit x (r.lba + i) with
    | some g => decide (s.resolve g = .unreadable)
    | none => false).getD 0 + r.lba

/-- The bytes of a run that write cache pages serve. -/
def State.pageBytes (s : State) (x : Ns) (r : IoRange) : Nat :=
  x.blockBytes * (List.range r.nlb).countP fun i => match nsUnit x (r.lba + i) with
    | some g => (s.page? g).isSome
    | none => false

/-- Each map unit of a read or Verify resolves at fetch; what needs the media waits for it, and data on
an unsafe actuator is not to be had. -/
def State.readUnits (n : Nat) (x : Ns) (r : IoRange) (limitedRetry : Bool) (s : State) : State :=
  let ws := (nsUnits x r.lba r.nlb).map fun g => (g, s.resolve g)
  let media := ws.filterMap fun w => placeOf w.1 w.2
  let safe := media.filter fun p => !s.unsafeAct p.loc.act
  let unread := ws.any fun w => decide (w.2 = .unreadable)
  let lim := decide (s.sys.mode = .limited)
  if lim && !media.isEmpty && s.limitedNoLoad then s.cmdReady n (nvDnr .unrecoveredRead)
  else if lim && !media.isEmpty && !s.sys.mapRestored then
    match s.cmd? n with
    | some k => s.cmdReady n (s.notReady k.ctrl 2)
    | none => s
  else
    let st := if safe.length < media.length then nvDnr .unrecoveredRead
      else if unread then nvRetry .unrecoveredRead else nvOk
    let s := if unread then s.errEntry r.nsid (s.badBlock x r) else s
    let s := (s.count 0x504006 (s.pageBytes x r)).touchPages
      ((ws.filter fun w => decide (w.2 = .page)).map fun w => w.1)
    let s := s.onCmd n fun k => { k with
      limitedRetry := limitedRetry, places := safe, status := st
      need := if safe.isEmpty then .nothing else .media safe.length }
    if safe.isEmpty then s else s.mediaArrives

/-- A read or Verify under its checks. -/
def State.readCmd (c : Fin 2) (n : Nat) (r : IoRange) (limitedRetry moves : Bool) (s : State) : State :=
  s.checked n (s.blockChecks c r false moves) fun t =>
    match t.ns? r.nsid with
    | some x => t.readUnits n x r limitedRetry
    | none => t

/-- NVME_READ (10 R311, 12 R376). -/
def execNvmeRead (h : NvmeHdr) (r : IoRange) (limitedRetry : Bool) (s : State) : Eff :=
  .next (s.io h 0x02 r fun n => State.readCmd h.ctrl n r limitedRetry true)

/-- VERIFY (R371): the full read and ladder, and nothing is transferred. -/
def execVerify (h : NvmeHdr) (r : IoRange) (limitedRetry : Bool) (s : State) : Eff :=
  .next (s.io h 0x0C r fun n => State.readCmd h.ctrl n r limitedRetry false)

/-! Writes (10 R310, R323, 13 R414, R415). -/

/-- A write's unit enters a page (13 R414): it merges into a DIRTY page; a CLEAN page becomes DIRTY; a
unit whose page is DESTAGING takes a new one. -/
def State.putPage (n gen : Nat) (g : Nat) (s : State) : State :=
  let mine (st : PageState) (p : Page) : Bool := p.unit == g && decide (p.state = st)
  match s.buf.pages.find? (mine .dirty) with
  | some p =>
    s.onBuf fun b => { b with
      pages := dropFirst (mine .dirty) b.pages
        ++ [{ p with gen := gen, cids := if p.cids.contains n then p.cids else p.cids ++ [n] }] }
  | none =>
    (s.onBuf fun b => { b with pages := dropFirst (mine .clean) b.pages }).pageIn
      { unit := g, state := .dirty, gen := gen, cids := [n], frees := none }

/-- A write command touches its bands (10 R308 WRITES). -/
def State.touchBands (us : List Nat) (s : State) : State :=
  foldS (fun (b : Nat) (t : State) => t.onBand b fun x => { x with
    writes := min (x.writes + 1) 0xFFFFFFFF }) (us.map fun g => g / 65536).eraseDups s

/-- Whether a Cruise hold is in force that may produce Namespace Not Ready: not one of "speed not
assured" (R384, 04 R122). -/
def State.cruiseHold (s : State) : Bool := s.spn.wrHold && !s.notAssured

/-- Whether the Cruise hold is predicted to end within some ticks (R384): once the ramp that holds has
started and the reference, at the ramp's rate, has reached the target (log 116). -/
def State.holdWithin (ticks : Nat) (s : State) : Bool :=
  let p := s.spn
  let start := (p.notice.start - s.now16) / 16
  let diff := ((spd16 p.target.toNat : Int) - (p.reference : Int)).natAbs
  !p.stopReq && decide (diff ≤ p.rampRate * (ticks - start)) && decide (start ≤ ticks)

/-- The data of a write is in the write cache; the command completes, or waits for the media with FUA
or with the cache disabled (10 R323). -/
def State.writeUnits (n : Nat) (x : Ns) (r : IoRange) (through : Bool) (handle : Option Nat)
    (s : State) : State :=
  let s := s.takeGen
  let us := nsUnits x r.lba r.nlb
  let s := (foldS (State.putPage n s.plc.gen) us s).touchBands us
  let s := s.onNvme fun v => { v with hostBytes := v.hostBytes + r.nlb * x.blockBytes }
  let s := s.onCmd n fun k => { k with
    gen := s.plc.gen, fua := through, handle := handle
    need := if through then .data else .nothing }
  s.mediaArrives.dirtyCheck

/-- NVME_WRITE (10 R323, 12 R376, R384): DTYPE 2 gives a placement handle in DSPEC (R384), and another
directive is not supported; fetching of writes stops at the dirty limit (R370). -/
def execNvmeWrite (h : NvmeHdr) (w : IoRange) (fua : Bool) (dtype : BitVec 4) (dspec : BitVec 16)
    (s : State) : Eff :=
  let handle := if dtype = 2 then some dspec.toNat else none
  let through := fua || !s.p1011WriteCache
  .next (
    if s.buf.stopped then s
    else s.io h 0x01 w fun n t =>
      t.checked n (t.blockChecks h.ctrl w true true
          ++ [failIf (decide (dtype ≠ 0 ∧ dtype ≠ 2)) (nvDnr .invalidField),
              failIf (decide (8 ≤ handle.getD 0)) (nvDnr .invalidHandle),
              failIf (through && t.cruiseHold
                && !t.holdWithin (t.deadlineMs (t.sqClass h.ctrl h.sqid) * msTicks))
                (t.notReady h.ctrl 1)])
        fun t => match t.ns? w.nsid with
          | some x => t.writeUnits n x w through handle
          | none => t)

/-! Flush (R374). -/

/-- The numbers of groups that end in a list of journal entries. -/
def groupEnds (l : List JEntry) : List Nat := l.filterMap fun e => match e with
  | .groupEnd n => if n = 0 then none else some n
  | _ => none

/-- The commands whose completion is posted and whose group is not durable (R374). -/
def State.flushList (s : State) : List Nat :=
  let dirty := (s.buf.pages.filter fun p => decide (p.state ≠ .clean)).flatMap fun p => p.cids
  let commit := match s.plc.commit with
    | some c => c.sectors.flatMap fun j => groupEnds j.entries
    | none => []
  let all := dirty ++ (s.plc.chunks.map fun c => c.cmd) ++ groupEnds s.plc.pend ++ commit
  (all.filter fun n => (s.cmd? n).isNone).eraseDups

/-- A command comes to wait for entries that are pending: the commit becomes obligatory (10 R319). -/
def State.waitPend (ns : List Nat) (s : State) : State :=
  if s.plc.pendSince.isNone && (groupEnds s.plc.pend).any (fun n => ns.contains n) then
    (s.onPlc fun p => { p with pendSince := some s.now }).oblige 3 0 none s.p1410CommitDeadline
  else s

/-- NVME_FLUSH (R374): the namespace named does not narrow it. -/
def execNvmeFlush (h : NvmeHdr) (nsid : Nat) (s : State) : Eff :=
  .next (s.io h 0x00 { nsid := nsid, lba := 0, nlb := 0 } fun n t =>
    let l := t.flushList
    t.checked n
      [if nsid = 0xFFFFFFFF then none else t.nsCheck h.ctrl nsid, t.earlyCheck h.ctrl,
       if nsid = 0xFFFFFFFF then none else t.busyCheck nsid,
       if l.isEmpty then none else t.limitedCheck]
      fun t =>
        if l.isEmpty then t
        else ((t.onCmd n fun k => { k with need := .flush l }).waitPend l).mediaArrives)

/-! Deallocation (R371, 10 R309, R318). -/

/-- Runs of consecutive map units, at most 4,096 in each, none across a band. -/
def unitRuns : List Nat → List (Nat × Nat)
  | [] => []
  | g :: r =>
    match unitRuns r with
    | (g', k) :: rest =>
      if g' = g + 1 && decide (k < 4096) && decide (g' % 65536 ≠ 0) then (g, k + 1) :: rest
      else (g, 1) :: (g', k) :: rest
    | [] => [(g, 1)]

/-- The whole map units of a run of blocks, in order. -/
def wholeUnits (x : Ns) (lba nlb : Nat) : List Nat :=
  let step := if x.lbaf = 0 then 8 else 1
  let first := (lba + step - 1) / step
  let last := (lba + nlb) / step
  (List.range (last - first)).filterMap fun i => nsUnit x ((first + i) * step)

/-- The extents of deallocated units enter the map in one group, and their pages leave the cache. -/
def State.deallocate (n : Nat) (us : List Nat) (s : State) : State :=
  let s := s.takeGen
  let gen := s.plc.gen
  let gone := s.buf.pages.filter fun p => us.contains p.unit
  let s := s.onBuf fun b => { b with pages := b.pages.filter fun p => !us.contains p.unit }
  let s := foldS (fun (x : Nat × Nat) (t : State) => t.change true (.extentAdded
    { gmu := x.1, len := x.2, loc := { act := 0, head := 0, track := 0 }, sector := 0, zone := 0
      kind := .deallocated, gen := gen, temp := 0 })) (unitRuns us) s
  let s := (s.journal true (.groupEnd n)).formDone (gone.flatMap fun p => p.cids).eraseDups
  s.dirtyCheck

/-- WRITE_ZEROES (R371): whole units are deallocated in one group; blocks that share a unit with others
are merged into its page as zeros (10 R302). -/
def State.zeroUnits (n : Nat) (x : Ns) (r : IoRange) (s : State) : State :=
  let whole := wholeUnits x r.lba r.nlb
  let part := (nsUnits x r.lba r.nlb).filter fun g => !whole.contains g
  let s := s.takeNumber
  let m := s.nvme.fetched
  let s := if whole.isEmpty then s else s.deallocate m whole
  let s := s.takeGen
  let s := foldS (State.putPage n s.plc.gen) part s
  let l := (if whole.isEmpty then [] else [m]) ++ (if part.isEmpty then [] else [n])
  (s.onCmd n fun k => { k with gen := s.plc.gen, need := .flush l }).mediaArrives.dirtyCheck

/-- WRITE_ZEROES: DEAC changes nothing, since deallocated blocks read as zeros (R371). -/
def execWriteZeroes (h : NvmeHdr) (r : IoRange) (_deac : Bool) (s : State) : Eff :=
  .next (
    if s.buf.stopped then s
    else s.io h 0x08 r fun n t =>
      t.checked n (t.blockChecks h.ctrl r true false) fun t =>
        match t.ns? r.nsid with
        | some x => t.zeroUnits n x r
        | none => t)

/-- DATASET_MANAGEMENT (R371): deallocate records the whole units of its ranges in one group; its other
attributes have no effect. -/
def execDatasetManagement (h : NvmeHdr) (nsid : Nat) (ranges : List (Nat × Nat)) (deallocate : Bool)
    (s : State) : Eff :=
  .next (s.io h 0x09 { nsid := nsid, lba := 0, nlb := 0 } fun n t =>
    if !deallocate then t.checked n [t.nsCheck h.ctrl nsid] id
    else
      t.checked n
        ([t.nsCheck h.ctrl nsid, t.earlyCheck h.ctrl, t.busyCheck nsid, t.limitedCheck]
          ++ (ranges.map fun x =>
            if x.2 = 0 then none else t.rangeCheck { nsid := nsid, lba := x.1, nlb := x.2 } false)
          ++ [t.resvCheck h.ctrl nsid true]
          ++ ranges.map fun x => t.lockCheck { nsid := nsid, lba := x.1, nlb := x.2 })
        fun t => match t.ns? nsid with
          | some x =>
            let us := (ranges.flatMap fun y => wholeUnits x y.1 y.2).eraseDups
            if us.isEmpty then t
            else ((t.deallocate n us).onCmd n fun k => { k with need := .group }).mediaArrives
          | none => t)

/-! Reservations (R371, R387): the rules of NVMe 2.0 (PRESUMED). -/

/-- The reservation of a namespace replaced. -/
def State.setResv (r : Reservation) (s : State) : State :=
  s.onNvme fun v => { v with
    reservations := (v.reservations.filter fun x => x.nsid != r.nsid) ++ [r] }

/-- The key a host registered. -/
def Reservation.keyOf (r : Reservation) (h : Fin 2) : Option (BitVec 64) :=
  (r.registrants.find? fun x => decide (x.host = h)).map fun x => x.key

/-- A reservation notification to every other registrant's controllers that does not mask it:
1 registration preempted, 2 reservation released, 3 reservation preempted (R388). -/
def State.resvNotice (ty nsid : Nat) (by' : Fin 2) (hosts : List (Fin 2)) (s : State) : State :=
  foldS (fun (c : Fin 2) (t : State) =>
    let masked := match featFind 0x82 nsid t.nvme.features with
      | some f => bitOf f.dw11.toNat ty
      | none => false
    if hosts.contains (t.hostOf c) && decide (t.hostOf c ≠ by') && !masked then
      (t.onNvme fun v => { v with resLog := v.resLog ++ [(c, ty, nsid)] }).postAen c 6 0
    else t) s.presentCtrls s

/-- The hosts of a list of registrants. -/
def hostsOf (l : List Registrant) : List (Fin 2) := l.map fun x => x.host

/-- A reservation command ends: a change of what is kept through power loss waits for its SAVE (R387). -/
def State.resvDone (n : Nat) (r : Reservation) (s : State) : State :=
  let was := (s.resv r.nsid).ptpl
  let s := s.setResv r
  if r.ptpl || was then s.cmdSave n else s

/-- A registrant leaves: the reservation it held is released, for types 5 and 6 with the last one. -/
def Reservation.leave (h : Fin 2) (r : Reservation) : Reservation :=
  let l := r.registrants.filter fun x => decide (x.host ≠ h)
  let ends := decide (r.holder = some h) && (decide (r.rtype < 5) || l.isEmpty)
  { r with
    registrants := l, generation := r.generation + 1
    holder := if ends then none else if r.holder = some h then (hostsOf l).head? else r.holder
    rtype := if ends then 0 else r.rtype }

/-- RESERVATION_REGISTER: action 0 register, 1 unregister, 2 replace; CPTPL 2 clears and 3 sets
persistence. -/
def execReservationRegister (h : NvmeHdr) (nsid action : Nat) (iekey : Bool) (crkey nrkey : BitVec 64)
    (cptpl : Nat) (s : State) : Eff :=
  .next (s.io h 0x0D { nsid := nsid, lba := 0, nlb := 0 } fun n t =>
    let r := t.resv nsid
    let me := t.hostOf h.ctrl
    let key := r.keyOf me
    let r := { r with ptpl := if cptpl = 3 then true else if cptpl = 2 then false else r.ptpl }
    let keyed := iekey || decide (key = some crkey)
    let put (r : Reservation) : Reservation := { r with
      generation := r.generation + 1
      registrants := (r.registrants.filter fun x => decide (x.host ≠ me))
        ++ [{ host := me, key := nrkey }] }
    t.checked n
      [t.nsCheck h.ctrl nsid, failIf (decide (2 < action) || decide (cptpl = 1) || decide (3 < cptpl))
          (nvDnr .invalidField),
       failIf (decide (action = 0) && key.isSome && decide (key ≠ some nrkey)) (nvDnr .reservationConflict),
       failIf (decide (action ≠ 0) && !keyed) (nvDnr .reservationConflict),
       failIf (decide (action = 1) && key.isNone) (nvDnr .reservationConflict)]
      fun t =>
        if action = 1 then
          let r' := r.leave me
          let t := t.resvDone n r'
          if r.holder.isSome && r'.holder.isNone && decide (r.rtype ≠ 1) && decide (r.rtype ≠ 2) then
            t.resvNotice 2 nsid me (hostsOf r'.registrants)
          else t
        else t.resvDone n (put r))

/-- RESERVATION_ACQUIRE: action 0 acquire, 1 preempt, 2 preempt and abort, which withdraws nothing
(R372, R373). -/
def execReservationAcquire (h : NvmeHdr) (nsid action rtype : Nat) (iekey : Bool)
    (crkey prkey : BitVec 64) (s : State) : Eff :=
  .next (s.io h 0x11 { nsid := nsid, lba := 0, nlb := 0 } fun n t =>
    let r := t.resv nsid
    let me := t.hostOf h.ctrl
    let held := r.holder.isSome
    t.checked n
      [t.nsCheck h.ctrl nsid,
       failIf (iekey || decide (2 < action) || decide (rtype = 0) || decide (6 < rtype))
         (nvDnr .invalidField),
       failIf (decide (r.keyOf me ≠ some crkey)) (nvDnr .reservationConflict),
       failIf (decide (action = 0) && held && !(r.holds me && decide (r.rtype = rtype)))
         (nvDnr .reservationConflict)]
      fun t =>
        if action = 0 then
          if held then t
          else t.resvDone n { r with holder := some me, rtype := rtype }
        else
          let all := held && decide (5 ≤ r.rtype) && decide (prkey = 0)
          let takes := all || (match r.holder with
            | some o => decide (r.keyOf o = some prkey)
            | none => false)
          let gone := r.registrants.filter fun x =>
            (all || decide (x.key = prkey)) && decide (x.host ≠ me)
          let left := r.registrants.filter fun x => !gone.contains x
          let r' := { r with registrants := left, generation := r.generation + 1 }
          let t := t.resvDone n (if takes then { r' with holder := some me, rtype := rtype } else r')
          let t := t.resvNotice 1 nsid me (hostsOf gone)
          if takes && decide (r.rtype ≠ rtype) then t.resvNotice 3 nsid me (hostsOf left) else t)

/-- RESERVATION_RELEASE: action 0 release, 1 clear. -/
def execReservationRelease (h : NvmeHdr) (nsid action rtype : Nat) (iekey : Bool) (crkey : BitVec 64)
    (s : State) : Eff :=
  .next (s.io h 0x15 { nsid := nsid, lba := 0, nlb := 0 } fun n t =>
    let r := t.resv nsid
    let me := t.hostOf h.ctrl
    t.checked n
      [t.nsCheck h.ctrl nsid, failIf (iekey || decide (1 < action)) (nvDnr .invalidField),
       failIf (decide (r.keyOf me ≠ some crkey)) (nvDnr .reservationConflict),
       failIf (decide (action = 0) && r.holds me && decide (r.rtype ≠ rtype)) (nvDnr .invalidField)]
      fun t =>
        if action = 1 then
          (t.resvDone n { r with
              registrants := [], holder := none, rtype := 0, generation := r.generation + 1 })
            |>.resvNotice 3 nsid me (hostsOf r.registrants)
        else if !r.holds me then t
        else
          let t := t.resvDone n { r with holder := none, rtype := 0 }
          if r.rtype = 1 || r.rtype = 2 then t
          else t.resvNotice 2 nsid me (hostsOf r.registrants))

/-- RESERVATION_REPORT: generation, type, count of registrants and persistence, then one entry for each
registrant (the layout of NVMe 2.0, PRESUMED). -/
def execReservationReport (h : NvmeHdr) (nsid : Nat) (s : State) : Eff :=
  .next (s.io h 0x0E { nsid := nsid, lba := 0, nlb := 0 } fun n t =>
    let r := t.resv nsid
    let head := leBytes 4 r.generation ++ leBytes 1 r.rtype ++ leBytes 2 r.registrants.length
      ++ [0, 0] ++ leBytes 1 (b2n r.ptpl) ++ padTo 54 0 []
    let one (x : Registrant) : List Byte :=
      leBytes 2 x.host.val ++ leBytes 1 (b2n (r.holds x.host)) ++ padTo 5 0 [] ++ leBytes 8 x.key.toNat
        ++ padTo 16 0 (t.hostId x.host) ++ padTo 32 0 []
    t.checked n [t.nsCheck h.ctrl nsid] (State.sendData n 0 (head ++ r.registrants.flatMap one)))

/-! FDP management (R371, R389). -/

/-- IO_MANAGEMENT_RECEIVE: operation 0 does nothing, 1 gives Reclaim Unit Handle Status: eight handles,
each for its own placement identifier (the layout of NVMe 2.0, PRESUMED). -/
def execIoManagementReceive (h : NvmeHdr) (nsid mo : Nat) (s : State) : Eff :=
  .next (s.io h 0x12 { nsid := nsid, lba := 0, nlb := 0 } fun n t =>
    let one (i : Nat) : List Byte := leBytes 2 i ++ leBytes 2 i
      ++ (List.range 28).map fun j => Config.hostByte 0x12 i j
    t.checked n [t.nsCheck h.ctrl nsid, failIf (decide (1 < mo)) (nvDnr .invalidField)] fun t =>
      if mo = 0 then t
      else t.sendData n 1 (padTo 14 0 [] ++ leBytes 2 8 ++ (List.range 8).flatMap one))

/-- IO_MANAGEMENT_SEND: operation 1 updates the reclaim units of the handles named, which is bookkeeping
of no further effect (R389 oddity). -/
def execIoManagementSend (h : NvmeHdr) (nsid mo : Nat) (handles : List Nat) (s : State) : Eff :=
  .next (s.io h 0x1D { nsid := nsid, lba := 0, nlb := 0 } fun n t =>
    t.checked n
      [t.nsCheck h.ctrl nsid, failIf (decide (1 < mo)) (nvDnr .invalidField),
       failIf (decide (mo = 1) && handles.any fun x => decide (8 ≤ x)) (nvDnr .invalidHandle)] id)

end Sys2Proof.Machine
end

