-- ==== Sys2Proof/Machine/HostData.lean ====
section
/-! DEFINITION. The Identify data structures and log pages (12 R366, R367, R371, R377 to R380, R385 to
R389, 17 R493). Their layout is that of NVMe 2.0 (PRESUMED); a byte the spec gives no value is a free
value. -/

namespace Sys2Proof.Machine

open Sys2Proof

/-! Building. -/

/-- Free bytes of a structure from an offset on. -/
def freeBytes (src id off n : Nat) : List Byte :=
  (List.range n).map fun i => Config.hostByte src id (off + i)

/-- The bytes of a structure from an offset on: its fields, by rising offset, and free bytes between
them. -/
def layFrom (src id total : Nat) : List (Nat × List Byte) → Nat → List Byte
  | [], pos => freeBytes src id pos (total - pos)
  | (o, b) :: r, pos =>
    freeBytes src id pos (o - pos) ++ b ++ layFrom src id total r (o + b.length)

/-- A structure of a length. -/
def layout (src id total : Nat) (fields : List (Nat × List Byte)) : List Byte :=
  layFrom src id total fields 0

/-- Zeros. -/
def zeros (n : Nat) : List Byte := padTo n 0 []

/-- An ASCII field padded with spaces. -/
def spaced (n : Nat) (b : List Byte) : List Byte := padTo n 0x20 b

/-- The revision string of an image (R366). -/
def fwRev (rev : Nat) : List Byte := freeBytes 0xFE rev 0 8

/-! Power states (R380). -/

/-- PS_MAXPOWER of a power state, 0.01 W. -/
def State.psPower (s : State) (p : Nat) : Nat := s.odNat (0x102001 + p) (nth [1200, 800, 450, 120] p 0)

/-- The RTD3 entry latency in microseconds (02 R53). -/
def State.rtd3e (s : State) : Nat :=
  3000000 + s.p5040DirtyLimit * s.usableBytes / 1000 / 1200

/-- Exit latencies in microseconds (02 R51). -/
def State.exitLat (s : State) (p : Nat) : Nat :=
  let rpm := s.p0200RecessRpm
  match p with
  | 0 => 0
  | 1 => 1000
  | 2 => if 4800 ≤ rpm then 400000
    else 400000 + ((4800 - rpm) * 1000000 + s.p2010Accel - 1) / max 1 s.p2010Accel
  | _ => match s.sys.spinUpMs with
    | some ms => 1000 * ms + 1000000
    | none => 15000000

/-- Entry latencies in microseconds. -/
def State.entryLat (s : State) (p : Nat) : Nat :=
  match p with
  | 0 => 0
  | 1 => 1000
  | 2 => 1000000
  | _ => s.rtd3e

/-- A power state descriptor. -/
def State.psDesc (s : State) (p : Nat) : List Byte :=
  layout 0x32 p 32 [(0, leBytes 2 (s.psPower p)), (3, leBytes 1 (if 2 ≤ p then 2 else 0)),
    (4, leBytes 4 (s.entryLat p)), (8, leBytes 4 (s.exitLat p))]

/-! Identify (R371). -/

/-- The bytes of all namespaces. -/
def State.nsBytesAll (s : State) : Nat :=
  s.plc.nss.foldl (fun n x => n + x.bands.length * 2 ^ 28) 0

/-- Identify Controller (CNS 0x01). -/
def State.idCtrl (s : State) (c : Fin 2) : List Byte :=
  let a := decide (s.ident.tier = .a)
  let two := s.twoPorts
  layout 0x01 c.val 4096
    [(0, leBytes 2 s.nvme.idVid ++ leBytes 2 s.nvme.idVid ++ spaced 20 s.nvme.idSerial
        ++ spaced 40 s.nvme.idModel ++ fwRev s.nvme.idRev),
     (76, leBytes 1 (3 * b2n two)), (77, [8]), (78, leBytes 2 c.val), (80, leBytes 4 0x20000),
     (88, leBytes 4 s.rtd3e), (92, leBytes 4 0x300), (96, leBytes 4 (1 + 2 ^ 4 + 2 ^ 19)),
     (111, [1]), (128, leBytes 2 1 ++ leBytes 2 10 ++ leBytes 2 50),
     (256, leBytes 2 (6 + 8 * b2n a)), (258, [3]), (259, [3]), (260, [0x17]), (261, [0x2E]),
     (262, [63]), (263, [3]), (265, [1]),
     (266, leBytes 2 (273 + s.p1840DiodeKnee).toNat ++ leBytes 2 (273 + s.p1840DiodeLimit).toNat),
     (270, leBytes 2 20), (280, leBytes 16 (s.plc.userBands * 2 ^ 28)),
     (296, leBytes 16 (s.plc.userBands * 2 ^ 28 - s.nsBytesAll)), (319, [1]), (320, [0, 0]),
     (328, leBytes 4 (b2n s.hasCipher)), (338, leBytes 2 1 ++ leBytes 2 1), (512, [0x66, 0x44]),
     (516, leBytes 4 (if a then 64 else 1)), (520, leBytes 2 0xFC), (525, [7]), (526, [0, 0, 0, 0]),
     (2048, (List.range 4).flatMap s.psDesc), (3072, leBytes 1 s.ident.fuse.code)]

/-- MDTS in logical blocks less one (R377). -/
def Ns.atomic (x : Ns) : Nat := 2 ^ 20 / x.blockBytes - 1

/-- Identify Namespace (CNS 0x00, 0x11). -/
def idNs (x : Ns) : List Byte :=
  layout 0x00 x.nsid 4096
    [(0, leBytes 8 x.blocks ++ leBytes 8 x.blocks), (24, [2]), (25, [1]),
     (26, leBytes 1 x.lbaf.toNat), (27, [0, 0, 0]), (30, leBytes 1 (b2n x.shared)), (33, [9]),
     (36, leBytes 2 x.atomic), (100, leBytes 2 1 ++ leBytes 2 1),
     (128, leBytes 4 0x02090000 ++ leBytes 4 0x000C0000)]

/-- A list of identifiers of some width, in a structure of 4,096 bytes. -/
def idList (w : Nat) (l : List Nat) : List Byte := padTo 4096 0 (l.flatMap (leBytes w))

/-- The NSIDs in use that satisfy a condition, above a value, in rising order. -/
def State.nsids (s : State) (above : Nat) (p : Ns → Bool) : List Nat :=
  (List.range 65).filter fun i => decide (above < i) && match s.ns? i with
    | some x => p x
    | none => false

/-- A controller list: its length and its entries. -/
def ctrlList (l : List (Fin 2)) : List Byte :=
  padTo 4096 0 (leBytes 2 l.length ++ l.flatMap fun c => leBytes 2 c.val)

/-- The data of an Identify, or the status it completes with. -/
def State.identify (s : State) (c : Fin 2) (cns nsid : Nat) : Except NvStatus (List Byte) :=
  let max := if s.ident.tier = .a then 64 else 1
  let bad := nsid = 0 || (decide (max < nsid) && decide (nsid ≠ 0xFFFFFFFF))
  match cns with
  | 0x00 =>
    if bad then .error (nvDnr .invalidNs)
    else match s.ns? nsid with
      | some x => if x.attached.getLsbD c.val then .ok (idNs x) else .ok (zeros 4096)
      | none => .ok (if nsid = 0xFFFFFFFF then
          idNs { nsid := nsid, blocks := 0, lbaf := 1, bands := [], attached := 0, shared := false
                 settled := true }
        else zeros 4096)
  | 0x01 => .ok (s.idCtrl c)
  | 0x02 => .ok (idList 4 (s.nsids nsid fun x => x.attached.getLsbD c.val))
  | 0x03 =>
    if (s.ns? nsid).isNone then .error (nvDnr .invalidNs)
    else .ok (layout 0x03 nsid 4096 [(0, [4, 1, 0, 0, 0])])
  | 0x05 => if bad then .error (nvDnr .invalidNs) else .ok (layout 0x05 nsid 4096 [])
  | 0x06 => .ok (layout 0x06 0 4096 [])
  | 0x10 => .ok (idList 4 (s.nsids nsid fun _ => true))
  | 0x11 =>
    if bad then .error (nvDnr .invalidNs)
    else match s.ns? nsid with
      | some x => .ok (idNs x)
      | none => .ok (zeros 4096)
  | 0x12 => match s.ns? nsid with
    | some x => .ok (ctrlList (s.presentCtrls.filter fun d => x.attached.getLsbD d.val))
    | none => .error (nvDnr .invalidNs)
  | 0x13 => .ok (ctrlList s.presentCtrls)
  | 0x1C => .ok (padTo 4096 0 (leBytes 8 1))
  | _ => .error (nvDnr .invalidField)

/-! Log pages (R386). -/

/-- The log pages of a tier. -/
def State.logIds (s : State) : List Nat :=
  [0x00, 0x01, 0x02, 0x03] ++ (if s.ident.tier = .a then [0x04] else []) ++ [0x05, 0x07, 0x08, 0x20,
    0x21, 0x22, 0x23, 0x80] ++ (if s.hasCipher then [0x81] else []) ++ [0xC0, 0xC1]

/-- The admin opcodes a tier supports (R371, R385). -/
def State.adminOps (s : State) : List Nat :=
  [0x00, 0x01, 0x02, 0x04, 0x05, 0x06, 0x08, 0x09, 0x0A, 0x0C, 0x10, 0x11, 0x1A, 0xC1, 0xC2]
    ++ (if s.ident.tier = .a then [0x0D, 0x15] else []) ++ (if s.hasCipher then [0x84] else [])

/-- The I/O opcodes (R371). -/
def ioOps : List Nat := [0x00, 0x01, 0x02, 0x08, 0x09, 0x0C, 0x0D, 0x0E, 0x11, 0x12, 0x15, 0x1D]

/-- A Commands Supported and Effects entry: supported, its effects free; or zero. -/
def effects (src : Nat) (ops : List Nat) (op : Nat) : List Byte :=
  if ops.contains op then
    ((Config.hostByte src op 0 &&& 0xFE) ||| 1) :: (List.range 3).map fun i =>
      Config.hostByte src op (i + 1)
  else zeros 4

/-- A temperature in kelvin, from 0.125 C. -/
def kelvin (t : Int) : Nat := (273 + t / 8).toNat

/-- The greatest of some temperatures in kelvin; 0 of none. -/
def hotKelvin (l : List Int) : Nat := l.foldl (fun m t => max m (kelvin t)) 0

/-- The SMART / Health log (R388). -/
def State.smart (s : State) : List Byte :=
  let poh := s.poh
  layout 0xF2 0 512
    [(0, leBytes 1 s.critical.toNat ++ leBytes 2 (hotKelvin [s.temp 6, s.temp 7])
        ++ leBytes 1 s.availableSpare ++ leBytes 1 s.p1400SpareWarn ++ leBytes 1 s.rc.pctUsed.toNat),
     (96, leBytes 16 (s.nvme.busyTicks / (60 * secTicks)) ++ leBytes 16 s.nvme.powerCycles
        ++ leBytes 16 poh ++ leBytes 16 (s.odNat 0x020201 0) ++ leBytes 16 (s.odNat 0x44100C 0)
        ++ leBytes 16 s.nvme.errCount),
     (200, leBytes 2 (kelvin (s.temp 6)) ++ leBytes 2 (kelvin (s.temp 7))
        ++ leBytes 2 (hotKelvin ((List.range 6).map s.temp))
        ++ leBytes 2 (hotKelvin (s.headTemps.map fun x => x.2.2)))]

/-- The Error Information log: 64 entries, newest first (R386). -/
def State.errPage (s : State) : List Byte :=
  padTo 4096 0 (s.nvme.errLog.flatMap fun e =>
    layout 0xF1 e.1 64 [(0, leBytes 8 e.1), (16, leBytes 8 e.2.2 ++ leBytes 4 e.2.1)])

/-- The Firmware Slot log: the slot that runs and the one active at the next reset. -/
def State.fwPage (s : State) : List Byte :=
  let next := match s.nvme.nextSlot with
    | some n => n
    | none => 0
  let run := match s.sys.imageSlot with
    | some k => k.val
    | none => 0
  padTo 512 0 (leBytes 1 (run + 16 * next) ++ zeros 7 ++ [1, 2, 3].flatMap fun k =>
    match s.fwSlot? k with
    | some x => fwRev x.rev
    | none => zeros 8)

/-- Log 0xC1: the 16 history entries in slot order (17 R493). -/
def histPage (h : Tab HistEntry) : List Byte :=
  (List.range 16).flatMap fun i => match Tab.get? h i with
    | some e => padTo 32 0 e.bytes
    | none => zeros 32

/-- Records as bytes. -/
def recBytes (l : List YbRec) : List Byte := l.flatMap YbRec.bytes

/-- A telemetry log (17 R493): its header of one 512-byte block, then the three data areas. -/
def telemetry (id : Nat) (avail : Bool) (x : Option Snapshot) : List Byte :=
  let n := match x with
    | some y => y.recs
    | none => []
  let h := match x with
    | some y => y.hist
    | none => []
  let area1 := padTo 16384 0 (histPage h ++ recBytes (lastN 248 n))
  let blocks (b : List Byte) : List Byte := padTo ((b.length + 511) / 512 * 512) 0 b
  let area2 := blocks (recBytes (lastN 4096 n))
  let area3 := blocks (recBytes n)
  let e2 := 32 + area2.length / 512
  layout 0xF7 id 512
      [(0, leBytes 1 id), (8, leBytes 2 32 ++ leBytes 2 e2 ++ leBytes 2 (e2 + area3.length / 512)),
       (382, leBytes 1 (b2n avail))]
    ++ area1 ++ area2 ++ area3

/-- FDP Configurations (R389): one configuration, one reclaim group, eight Initially Isolated handles, 256
MiB. -/
def fdpConfig : List Byte :=
  leBytes 2 0 ++ leBytes 2 0 ++ leBytes 4 112 ++ zeros 8
    ++ layout 0xF0 0x20 64 [(0, leBytes 2 96), (4, leBytes 4 1 ++ leBytes 2 8), (24, leBytes 8 (2 ^ 28))]
    ++ (List.range 8).flatMap fun _ => [1, 0, 0, 0]

/-- FDP Reclaim Unit Handle Usage. -/
def fdpUsage : List Byte :=
  leBytes 2 8 ++ zeros 6 ++ (List.range 8).flatMap fun i => freeBytes 0xF0 (0x2100 + i) 0 8

/-- FDP Statistics (R389): host bytes and media bytes written. -/
def State.fdpStats (s : State) : List Byte :=
  layout 0xF0 0x22 64 [(0, leBytes 16 s.nvme.hostBytes ++ leBytes 16 s.nvme.mediaBytes)]

/-- The Reservation Notification log: the oldest notification of the controller (R386). -/
def State.resPage (s : State) (c : Fin 2) : List Byte :=
  match s.nvme.resLog.filter fun e => decide (e.1 = c) with
  | e :: r => layout 0xF0 0x80 64 [(8, leBytes 1 e.2.1 ++ leBytes 1 (min 255 (r.length + 1))),
      (12, leBytes 4 e.2.2)]
  | [] => layout 0xF0 0x80 64 [(8, [0, 0])]

/-- The Sanitize Status log. -/
def State.sanPage (s : State) : List Byte :=
  layout 0xF0 0x81 512 [(2, leBytes 2
    (if s.nvme.sanitize then 2 else if 0 < s.nvme.sanitizeDone then 1 else 0))]

/-- The bytes of a log page (R386). -/
def State.logBytes (s : State) (c : Fin 2) (lid : Nat) : List Byte :=
  match lid with
  | 0x00 => (List.range 256).flatMap fun i => if s.logIds.contains i then [1, 0, 0, 0] else zeros 4
  | 0x01 => s.errPage
  | 0x02 => s.smart
  | 0x03 => s.fwPage
  | 0x04 => idList 4 s.nvme.changedNs
  | 0x05 => (List.range 256).flatMap (effects 0xF5 s.adminOps)
      ++ (List.range 256).flatMap (effects 0xF6 ioOps) ++ zeros 2048
  | 0x07 => telemetry 7 s.nvme.teleAvail s.yb.snapHost
  | 0x08 => telemetry 8 s.nvme.teleAvail s.yb.snapCtrl
  | 0x20 => fdpConfig
  | 0x21 => fdpUsage
  | 0x22 => s.fdpStats
  | 0x23 => zeros 64
  | 0x80 => s.resPage c
  | 0x81 => s.sanPage
  | 0xC0 => recBytes s.yb.recs
  | 0xC1 => histPage s.hm.hist
  | _ => []

/-- What reading a log page changes: with RAE clear the Changed Namespace List is emptied and telemetry is
no longer marked; each read of the Reservation Notification log takes one. -/
def State.logRead (c : Fin 2) (lid : Nat) (rae : Bool) (s : State) : State :=
  match lid with
  | 0x04 => if rae then s else s.onNvme fun v => { v with changedNs := [] }
  | 0x08 => if rae then s else s.onNvme fun v => { v with teleAvail := false }
  | 0x80 => s.onNvme fun v => { v with resLog := dropFirst (fun e => decide (e.1 = c)) v.resLog }
  | _ => s

end Sys2Proof.Machine
end

