-- ==== Sys2Proof/Machine/HostAdmin.lean ====
section
/-! DEFINITION. The NVMe admin commands (12 R371 to R373, R378 to R389). -/

namespace Sys2Proof.Machine

open Sys2Proof

/-! Queues (R368, R369, R373). -/

/-- The number of I/O queues granted (R368). -/
def State.queuesGranted (s : State) (c : Fin 2) (completion : Bool) : Nat :=
  fld (s.ctrlFeat c 0x07 0x003F003F) (if completion then 16 else 0) 16 + 1

/-- Whether a queue size is one of 2 to 4,096 entries. -/
def sizeOk (n : Nat) : Bool := decide (2 ≤ n) && decide (n ≤ 4096)

/-- CREATE_IO_SQ (R368, R369): the size in entries. -/
def execCreateIoSq (h : NvmeHdr) (qid size cqid prio : Nat) (contig : Bool) (s : State) : Eff :=
  .next (s.admin h 0x01 0 fun n t =>
    t.checked n
      [failIf (qid = 0 || decide (t.queuesGranted h.ctrl false < qid) || (t.sq? h.ctrl qid).isSome)
          (nvDnr .invalidQueueId),
       failIf (!sizeOk size) (nvDnr .invalidQueueSize), failIf (!contig) (nvDnr .invalidField),
       failIf (cqid = 0 || (t.cq? h.ctrl cqid).isNone) (nvDnr .cqInvalid)]
      fun t => t.onCtrl h.ctrl fun c => { c with
        sqs := c.sqs ++ [{ id := qid, size := size, cqid := cqid, prio := BitVec.ofNat 2 prio
                           tail := 0, head := 0 }] })

/-- DELETE_IO_SQ (R373): the commands of the queue are withdrawn. -/
def execDeleteIoSq (h : NvmeHdr) (qid : Nat) (s : State) : Eff :=
  .next (s.admin h 0x00 0 fun n t =>
    t.checked n [failIf (qid = 0 || (t.sq? h.ctrl qid).isNone) (nvDnr .invalidQueueId)] fun t =>
      (t.withdraw h.ctrl fun k => decide (k.ctrl = h.ctrl) && k.sqid == qid).onCtrl h.ctrl fun c => { c with
        sqs := c.sqs.filter fun q => q.id != qid })

/-- CREATE_IO_CQ (R368): any of the 65 vectors. -/
def execCreateIoCq (h : NvmeHdr) (qid size vector : Nat) (contig : Bool) (s : State) : Eff :=
  .next (s.admin h 0x05 0 fun n t =>
    t.checked n
      [failIf (qid = 0 || decide (t.queuesGranted h.ctrl true < qid) || (t.cq? h.ctrl qid).isSome)
          (nvDnr .invalidQueueId),
       failIf (!sizeOk size) (nvDnr .invalidQueueSize), failIf (!contig) (nvDnr .invalidField),
       failIf (decide (64 < vector)) (nvDnr .invalidVector)]
      fun t => t.onCtrl h.ctrl fun c => { c with
        cqs := c.cqs ++ [{ id := qid, size := size, vector := vector, tail := 0, head := 0 }] })

/-- DELETE_IO_CQ (R371): not while a submission queue uses it. -/
def execDeleteIoCq (h : NvmeHdr) (qid : Nat) (s : State) : Eff :=
  .next (s.admin h 0x04 0 fun n t =>
    t.checked n
      [failIf (qid = 0 || (t.cq? h.ctrl qid).isNone) (nvDnr .invalidQueueId),
       failIf ((t.ctrl h.ctrl).sqs.any fun q => q.cqid == qid) (nvDnr .invalidQueueDeletion)]
      fun t => t.onCtrl h.ctrl fun c => { c with cqs := c.cqs.filter fun q => q.id != qid })

/-! Data structures. -/

/-- NVME_IDENTIFY (R371). -/
def execNvmeIdentify (h : NvmeHdr) (cns : BitVec 8) (nsid : Nat) (s : State) : Eff :=
  .next (s.admin h 0x06 nsid fun n t =>
    match t.identify h.ctrl cns.toNat nsid with
    | .ok b => t.sendData n cns.toNat b
    | .error st => t.cmdReady n st)

/-- GET_LOG_PAGE (R386): `create` takes a host-initiated snapshot for log 0x07 (17 R493). -/
def execGetLogPage (h : NvmeHdr) (lid : BitVec 8) (nsid offset length : Nat) (rae create : Bool)
    (s : State) : Eff :=
  .next (s.admin h 0x02 nsid fun n t =>
    let t := if lid = 0x07 && create then t.ybSnapshot false else t
    let b := t.logBytes h.ctrl lid.toNat
    t.checked n
      [failIf (!t.logIds.contains lid.toNat) (nvDnr .invalidLog),
       failIf (decide (b.length < offset)) (nvDnr .invalidField)]
      fun t => (t.sendData n lid.toNat ((b.drop offset).take length)).logRead h.ctrl lid.toNat rae)

/-! Abort and asynchronous events (R371, R372). -/

/-- Outstanding commands of an opcode on a controller, one left out. -/
def State.outstanding (s : State) (c : Fin 2) (opcode n : Nat) : Nat :=
  s.nvme.cmds.countP fun k =>
    decide (k.ctrl = c) && k.admin && decide (k.opcode.toNat = opcode) && k.n != n

/-- ABORT (R372): never withdraws anything; a fifth is refused. -/
def execAbort (h : NvmeHdr) (_sqid _cid : Nat) (s : State) : Eff :=
  .next (s.admin h 0x08 0 fun n t =>
    t.checked n [failIf (decide (4 ≤ t.outstanding h.ctrl 8 n)) (nvDnr .abortLimit)]
      (State.readyDw0 n 1))

/-- ASYNC_EVENT_REQUEST (R371): four may be outstanding; one completes with an event that waits. -/
def execAsyncEventRequest (h : NvmeHdr) (s : State) : Eff :=
  .next (s.admin h 0x0C 0 fun n t =>
    t.checked n [failIf (decide (4 ≤ t.outstanding h.ctrl 12 n)) (nvDnr .aerLimit)] fun t =>
      match t.nvme.aens.find? fun e => decide (e.ctrl = h.ctrl) with
      | some e =>
        (t.onNvme fun v => { v with aens := dropFirst (fun x => decide (x.ctrl = h.ctrl)) v.aens })
          |>.readyDw0 n (aenDw e.type.toNat e.info.toNat)
      | none => t.onCmd n fun k => { k with need := .aer })

/-- UNSUPPORTED_COMMAND (R371): any other opcode. -/
def execUnsupportedCommand (h : NvmeHdr) (opcode : BitVec 8) (s : State) : Eff :=
  .next (
    if h.sqid = 0 then
      s.admin h opcode.toNat 0 fun n t => t.cmdReady n (nvDnr .invalidOpcode)
    else
      s.io h opcode.toNat { nsid := 0, lba := 0, nlb := 0 } fun n t =>
        t.cmdReady n (nvDnr .invalidOpcode))

/-! Power states (R380, R381). -/

/-- The host's power state is set (R380, 02 R40, R53): event 46. -/
def State.setPowerState (c : Fin 2) (ps : BitVec 2) (apst : Bool) (s : State) : State :=
  let m : Mode := if ps = 2 then .recess else if ps = 3 then .dormant else .service
  ((s.onNvme fun v => { v with powerState := ps }).onSys fun y => { y with
      hostTarget := m, shutHold := false }).event (epHost c) 46 (ps.toNat + 2 ^ 31 * b2n apst)

/-- APST_TRANSITION (R380): requests a state exactly as Set Features does. -/
def execApstTransition (ctrl : Fin 2) (ps : BitVec 5) (s : State) : Eff :=
  .next (
    if s.p1012ApstEnable && (s.ctrl ctrl).en && decide (ps.toNat < 4) then
      s.setPowerState ctrl (BitVec.ofNat 2 ps.toNat) true
    else s)

/-! Features (R387). -/

/-- The features of the table. -/
def featIds : List Nat :=
  [0x01, 0x02, 0x04, 0x05, 0x06, 0x07, 0x08, 0x09, 0x0A, 0x0B, 0x0C, 0x0E, 0x16, 0x1D, 0x1E, 0x81,
   0x82, 0x83]

/-- The saveable features. -/
def featSaves (fid : Nat) : Bool := [0x01, 0x06, 0x0C].contains fid

/-- A feature put into a list in place of the one it replaces. -/
def putFeat (f : Feat) (l : List Feat) : List Feat :=
  (l.filter fun x => !(decide (x.fid = f.fid) && x.nsid == f.nsid)) ++ [f]

/-- A feature of a controller. -/
def State.setCtrlFeat (c : Fin 2) (f : Feat) (s : State) : State :=
  s.onCtrl c fun k => { k with feats := putFeat f k.feats }

/-- A feature of the subsystem, the endurance group or a namespace. -/
def State.setFeat (f : Feat) (s : State) : State :=
  s.onNvme fun v => { v with features := putFeat f v.features }

/-- The place of a Temperature Threshold: twice its sensor, and one for under-temperature. -/
def tempSel (dw11 : BitVec 32) : Nat := 2 * fld dw11.toNat 16 4 + fld dw11.toNat 20 2

/-- Whether FDP is enabled (R389). -/
def State.fdpOn (s : State) : Bool :=
  match featFind 0x1D 0 s.nvme.features with
  | some f => bitOf f.dw11.toNat 0
  | none => true

/-- The checks of a Set Features. -/
def State.featChecks (s : State) (c : Fin 2) (fid : Nat) (sv : Bool) (nsid : Nat)
    (dw11 dw12 : BitVec 32) (data : List Byte) : List (Option NvStatus) :=
  let d := dw11.toNat
  let one := fid = 0x05 || fid = 0x82 || fid = 0x83
  [failIf (!featIds.contains fid) (nvDnr .invalidField),
   failIf (sv && !featSaves fid) (nvDnr .notSaveable),
   if one && decide (nsid ≠ 0xFFFFFFFF) then s.nsCheck c nsid else none,
   failIf (fid = 0x02 && decide (3 < fld d 0 5)) (nvDnr .invalidField),
   failIf (fid = 0x04 && (decide (1 < fld d 20 2)
      || (decide (4 < fld d 16 4) && decide (fld d 16 4 ≠ 15)))) (nvDnr .invalidField),
   failIf (fid = 0x05 && bitOf d 16) (nvDnr .invalidField),
   failIf (fid = 0x07 && (fld d 0 16 = 0xFFFF || fld d 16 16 = 0xFFFF)) (nvDnr .invalidField),
   failIf (fid = 0x09 && decide (64 < fld d 0 16)) (nvDnr .invalidField),
   failIf (fid = 0x81 && (!bitOf d 0 || decide (data.length ≠ 16))) (nvDnr .invalidField),
   failIf (fid = 0x1D && (bitOf dw12.toNat 0 != s.fdpOn)
      && (decide (s.ident.tier ≠ .a) || !s.plc.nss.isEmpty)) (nvDnr .sequence),
   failIf (fid = 0x1E && bitOf dw12.toNat 0) (nvDnr .invalidField)]

/-- The namespaces a namespace-scope feature is set for. -/
def State.featNss (s : State) (nsid : Nat) : List Nat :=
  if nsid = 0xFFFFFFFF then s.plc.nss.map fun x => x.nsid else [nsid]

/-- The queues granted by Number of Queues: never more than 64 of each. -/
def grant (d : Nat) : Nat := min 63 (fld d 0 16) + 65536 * min 63 (fld d 16 16)

/-- What a Set Features changes. -/
def State.featSet (c : Fin 2) (fid nsid : Nat) (dw11 dw12 : BitVec 32) (data : List Byte) (s : State) :
    State :=
  let d := dw11.toNat
  let f (ns : Nat) : Feat := { fid := BitVec.ofNat 8 fid, nsid := ns, dw11 := dw11, bytes := data }
  match fid with
  | 0x01 => s.odSet (0x101001 + c.val) d
  | 0x02 => s.setPowerState c (BitVec.ofNat 2 (fld d 0 5)) false
  | 0x04 =>
    let sels := if fld d 16 4 = 15 then (List.range 5).map fun i => 2 * i + fld d 20 2
      else [tempSel dw11]
    (foldS (fun i (t : State) => t.setFeat (f i)) sels s).updateWarnings
  | 0x06 => s.odSet 0x101101 (fld d 0 1)
  | 0x07 => s.setCtrlFeat c { f 0 with dw11 := BitVec.ofNat 32 (grant d) }
  | 0x09 => s.setCtrlFeat c (f (fld d 0 16))
  | 0x0C => (s.odSet 0x101201 (fld d 0 1)).setFeat (f 0)
  | 0x0E => s.setWall (BitVec.ofNat 64 (leNat (data.take 6) * 1000000)) 1
  | 0x05 => foldS (fun i (t : State) => t.setFeat (f i)) (s.featNss nsid) s
  | 0x82 => foldS (fun i (t : State) => t.setFeat (f i)) (s.featNss nsid) s
  | 0x83 => foldS (fun i (t : State) => t.setResv { t.resv i with ptpl := bitOf d 0 }) (s.featNss nsid) s
  | 0x1D => s.setFeat { f 0 with dw11 := BitVec.ofNat 32 (fld dw12.toNat 0 1), bytes := [] }
  | 0x1E => s
  | _ => s.setCtrlFeat c (f 0)

/-- SET_FEATURES (R387): SV on a saveable feature, and a change of Reservation Persistence, complete
after a SAVE. -/
def execSetFeatures (h : NvmeHdr) (fid : BitVec 8) (sv : Bool) (nsid : Nat) (dw11 dw12 : BitVec 32)
    (data : List (BitVec 8)) (s : State) : Eff :=
  let i := fid.toNat
  .next (s.admin h 0x09 nsid fun n t =>
    t.checked n (t.featChecks h.ctrl i sv nsid dw11 dw12 data) fun t =>
      let changed := i = 0x83 && (t.featNss nsid).any fun x => (t.resv x).ptpl != bitOf dw11.toNat 0
      let t := t.featSet h.ctrl i nsid dw11 dw12 data
      let t := if i = 0x07 then t.readyDw0 n (grant dw11.toNat) else t
      let t := if sv && i = 0x0C then t.onNvme fun v => { v with apstSaved := data } else t
      if sv || changed then t.cmdSave n else t)

/-- Dword 0 of a Get Features, and the data it returns for a feature that has some. -/
def State.featGet (s : State) (c : Fin 2) (fid nsid : Nat) (dw11 : BitVec 32) : Nat × List Byte :=
  let sub (ns dflt : Nat) : Nat := match featFind fid ns s.nvme.features with
    | some f => f.dw11.toNat
    | none => dflt
  match fid with
  | 0x01 => (s.odNat (0x101001 + c.val) 0x03030302, [])
  | 0x02 => (s.nvme.powerState.toNat, [])
  | 0x04 => (sub (tempSel dw11)
      (if tempSel dw11 = 0 then (273 + s.p1840DiodeKnee).toNat
        else if fld dw11.toNat 20 2 = 0 then 0xFFFF else 0), [])
  | 0x05 => (sub nsid 0, [])
  | 0x06 => (b2n s.p1011WriteCache, [])
  | 0x07 => (s.ctrlFeat c 7 0x003F003F, [])
  | 0x09 => (match featFind 9 (fld dw11.toNat 0 16) (s.ctrl c).feats with
      | some f => f.dw11.toNat
      | none => fld dw11.toNat 0 16, [])
  | 0x0C => (b2n s.p1012ApstEnable, match featFind 0x0C 0 s.nvme.features with
      | some f => padTo 256 0 f.bytes
      | none => padTo 256 0 s.nvme.apstSaved)
  | 0x0E => (0, leBytes 6 (s.wallNow.toNat / 1000000) ++ [if s.yb.wallSet then 2 else 0, 0])
  | 0x16 => (0, match featFind 0x16 0 (s.ctrl c).feats with
      | some f => padTo 512 0 f.bytes
      | none => zeros 512)
  | 0x1D => (b2n s.fdpOn, [])
  | 0x1E => (0, [])
  | 0x81 => (1, padTo 16 0 (s.hostId c))
  | 0x82 => (sub nsid 0, [])
  | 0x83 => (b2n (s.resv nsid).ptpl, [])
  | _ => (s.ctrlFeat c fid 0, [])

/-- GET_FEATURES (R387). -/
def execGetFeatures (h : NvmeHdr) (fid : BitVec 8) (nsid : Nat) (dw11 : BitVec 32) (s : State) : Eff :=
  .next (s.admin h 0x0A nsid fun n t =>
    let g := t.featGet h.ctrl fid.toNat nsid dw11
    t.checked n [failIf (!featIds.contains fid.toNat) (nvDnr .invalidField)] fun t =>
      let t := if g.2.isEmpty then t else t.sendData n fid.toNat g.2
      t.readyDw0 n g.1)

/-! Firmware (R378, R379, 21 R559). -/

/-- Whether another Firmware Commit, of either controller, has not completed (R378). -/
def State.committing (s : State) (n : Nat) : Bool :=
  s.nvme.cmds.any fun k => k.admin && decide (k.opcode = 0x10) && k.n != n

/-- FIRMWARE_IMAGE_DOWNLOAD (R371, R378): pieces of whole 4 KiB, up to 16 MiB in all; a piece at offset 0
begins an image. -/
def execFirmwareImageDownload (h : NvmeHdr) (offset length : Nat) (guests : Bool) (s : State) : Eff :=
  .next (s.admin h 0x11 0 fun n t =>
    t.checked n
      [failIf (t.nvme.activation.isSome || t.committing n) (nvDnr .sequence),
       failIf (decide (offset % 4096 ≠ 0) || decide (length % 4096 ≠ 0) || length = 0
          || decide (2 ^ 24 < offset + length)) (nvDnr .invalidField)]
      fun t => t.onNvme fun v => { v with
        download := match v.download with
          | some d => if offset = 0 then some (length, guests)
            else some (max d.1 (offset + length), d.2 || guests)
          | none => some (offset + length, guests) })

/-- The slot a Firmware Commit writes: slot 0 leaves the choice to the controller, which takes the lower
writable slot that is not active (NVMe 2.0, PRESUMED). -/
def State.commitSlot (s : State) (slot ca : Nat) : Nat :=
  if slot = 0 && decide (ca < 2) then (if s.nvme.activeSlot = 2 then 3 else 2) else slot

/-- The active-slot mark is switched, and the slot runs from the next reset (R378, 21 R559). -/
def State.markSlot (slot : Nat) (s : State) : State :=
  s.onNvme fun v => { v with activeSlot := slot, nextSlot := some slot }

/-- Step 1 of R379. -/
def State.activationStart (n slot : Nat) (s : State) : State :=
  let s := s.stopFetch.onNvme fun v => { v with
    activation := some { slot := slot, cmd := n, since := s.now, drained := none } }
  (((s.onCmd n fun k => { k with need := .activation }).noticeAll 1).event (epHost 0) 41 slot).activationPump

/-- FIRMWARE_COMMIT (R378, R379): `verifies` says how the verification ends. -/
def execFirmwareCommit (h : NvmeHdr) (slot ca : Nat) (verifies : Bool) (s : State) : Eff :=
  .next (s.admin h 0x10 0 fun n t =>
    let k := t.commitSlot slot ca
    let store := decide (ca < 2)
    let old := t.fwSlot? k
    t.checked n
      [failIf (t.nvme.activation.isSome || t.committing n) (nvDnr .sequence),
       failIf (decide (3 < ca)) (nvDnr .invalidField),
       failIf (decide (3 < k) || k = 0 || (store && decide (k = 1))) (nvDnr .invalidSlot),
       failIf (if store then t.nvme.download.isNone || !verifies
          else !verifies || !old.any fun x => x.verifies) (nvDnr .invalidImage)]
      fun t =>
        let t : State := match store, t.nvme.download with
          | true, some d =>
            (t.event (epHost h.ctrl) 39 d.1).onNvme fun v => { v with
              imageRev := v.imageRev + 1, download := none
              slots := Tab.set v.slots k { guests := d.2, verifies := true, rev := v.imageRev + 1 } }
          | _, _ => t
        let t := t.event (epHost h.ctrl) 40 (k + 16 * ca)
        let guests := (t.fwSlot? k).any fun x => x.guests
        if ca = 0 then t
        else if ca = 1 then t.markSlot k
        else if guests then (t.markSlot k).cmdReady n (nvRetry .needsSubsystemReset)
        else if ca = 2 then t.markSlot k
        else (t.markSlot k).activationStart n k)

/-- An activation ends with an event and its Yearbook record (17 R480): fetching resumes. -/
def State.activationEnd (a : Activation) (event qual : Nat) (st : NvStatus) (s : State) : State :=
  let s := (s.onNvme fun v => { v with activation := none }).resumeFetch
  ((s.cmdReady a.cmd st).event (epHost 0) event qual).ybAppend 0x000C
    (leBytes 1 a.slot ++ leBytes 2 event)

/-- ACTIVATION_SWITCH (R379 steps 3 and 4): every fetched command has completed, and resident firmware
has switched to the activation's slot; event 42 carries the milliseconds from the fetch. -/
def execActivationSwitch (slot : Nat) (s : State) : Eff :=
  .next (
    match s.nvme.activation with
    | none => s
    | some a =>
      if a.drained.isNone || slot ≠ a.slot then s
      else
        let s := (s.onNvme fun v => { v with nextSlot := none }).onSys fun y => { y with
          imageSlot := some ⟨a.slot % 4, by omega⟩ }
        (s.count 0x103003 1).activationEnd a 42 (s.msSince a.since) nvOk)

/-- ACTIVATION_DRAIN_TIMEOUT (R379 step 6): commands were still in flight 1,000 ms after the fetch; the
slot activates at the next reset. -/
def execActivationDrainTimeout (s : State) : Eff :=
  .next (
    match s.nvme.activation with
    | none => s
    | some a =>
      if a.drained.isSome || decide (s.since a.since < 1000 * msTicks) then s
      else s.activationEnd a 43 (s.inFlight a) (nvRetry .maxTime))

/-- ACTIVATION_OVERRUN (R379, R392): step 3 overran 800 ms. -/
def execActivationOverrun (s : State) : Eff :=
  .next (
    match s.nvme.activation.bind fun a => a.drained with
    | some t => if 800 * msTicks < s.since t then s.fault (epHost 0) 53 0 else s
    | none => s)

/-! Namespaces (10 R328, R329, 12 R383, R385). -/

/-- The journal entries not yet durable. -/
def State.openEntries (s : State) : List JEntry :=
  s.plc.pend ++ (match s.plc.commit with
    | some c => c.sectors.flatMap fun j => j.entries
    | none => [])

/-- Whether the creation or deletion of a namespace is not yet durable (R383). -/
def State.nsOpen (s : State) (nsid : Nat) : Bool :=
  s.openEntries.any fun e => match e with
    | .nspace m _ => m.nsid == nsid
    | _ => false

/-- The Changed Namespace List and its notice (R386, R388). -/
def State.nsChanged (nsid : Nat) (s : State) : State :=
  (s.onNvme fun v => { v with
    changedNs := if v.changedNs.contains nsid then v.changedNs else v.changedNs ++ [nsid] }).noticeAll 0

/-- The lowest-numbered logical bands that are unwritten or released and belong to no namespace
(10 R328). -/
def State.freeBands (s : State) (n : Nat) : List Nat :=
  let used := s.plc.nss.flatMap fun x => x.bands
  ((List.range s.plc.userBands).filter fun b =>
    !used.contains b && (decide ((s.band b).state = .unwritten)
      || decide ((s.band b).state = .released))).take n

/-- The group of a namespace operation ends; the command waits for it (10 R323). -/
def State.nsGroup (n : Nat) (s : State) : State :=
  ((s.journal true (.groupEnd n)).onCmd n fun k => { k with need := .group }).mediaArrives

/-- A namespace is created. -/
def State.nsCreate (n nsid nsze lbaf : Nat) (bands : List Nat) (shared : Bool) (s : State) : State :=
  let x : Ns := { nsid := nsid, blocks := nsze, lbaf := BitVec.ofNat 1 lbaf, bands := bands
                  attached := 0, shared := shared, settled := false }
  let s := ((s.change true (.nspace x true)).nsGroup n).onCmd n fun k => { k with
    dw0 := BitVec.ofNat 32 nsid }
  (s.event (epHost 0) 44 nsid).nsChanged nsid

/-- The ranges of a namespace are disabled and their slots erased (14 R435). -/
def State.dropRanges (nsid : Nat) (s : State) : State :=
  let rs := (List.range 64).filter fun r => (s.range r).enable && decide ((s.range r).nsid = nsid)
  let s := foldS (fun r (t : State) =>
    let slot := (t.range r).slot
    let t := (t.odSet (odKey (0x5120 + r) 5) 0).event epCipher 84 r
    if (t.slot slot).state = .empty then t else t.slotChange slot none) rs s
  if rs.isEmpty then s
  else if s.dict.slotAnswer.isSome then s
  else (s.onDict fun d => { d with
    slotAnswer := some { answer := none, cmd := none, more := 1 } }).slotSaves

/-- A namespace is deleted: its bands released and its extents removed in the group (10 R328). -/
def State.nsDelete (x : Ns) (s : State) : State :=
  let s := (s.endWrites x.nsid (nvDnr .invalidNs)).releaseBands x.bands
  let s := (s.change true (.nspace x false)).dropRanges x.nsid
  let s := s.onNvme fun v => { v with
    features := v.features.filter fun f =>
      !(([0x05, 0x82] : List Nat).contains f.fid.toNat && f.nsid == x.nsid) }
  (s.event (epHost 0) 45 x.nsid).nsChanged x.nsid

/-- The checks of the namespace commands (R382, R383). -/
def State.nsCmdChecks (s : State) (c : Fin 2) (nsid : Nat) : List (Option NvStatus) :=
  [failIf (decide (s.ident.tier ≠ .a)) (nvDnr .invalidOpcode), s.earlyCheck c, s.limitedCheck,
   failIf (s.nsOpen nsid) (nvDnr .sequence), s.busyCheck nsid]

/-- NAMESPACE_MANAGEMENT (10 R328, R329, 12 R385). -/
def execNamespaceManagement (h : NvmeHdr) (create : Bool) (nsid nsze ncap lbaf : Nat) (shared : Bool)
    (s : State) : Eff :=
  .next (s.admin h 0x0D nsid fun n t =>
    if create then
      let per := if lbaf = 0 then 524288 else 65536
      let bands := t.freeBands ((nsze + per - 1) / per)
      match (List.range 64).find? fun i => (t.ns? (i + 1)).isNone && !t.nsOpen (i + 1) with
      | none => t.checked n
          (t.nsCmdChecks h.ctrl 0 ++ [some (nvDnr .nsidUnavailable)]) id
      | some i => t.checked n
          (t.nsCmdChecks h.ctrl 0 ++
            [failIf (decide (nsze ≠ ncap) || nsze = 0 || decide (1 < lbaf)) (nvDnr .invalidField),
             failIf (decide (bands.length * per < nsze)) (nvDnr .nsCapacity)])
          (State.nsCreate n (i + 1) nsze lbaf bands shared)
    else
      let l := if nsid = 0xFFFFFFFF then t.plc.nss else (t.ns? nsid).toList
      t.checked n
        (t.nsCmdChecks h.ctrl nsid
          ++ [failIf (l.any fun x => t.nsOpen x.nsid) (nvDnr .sequence),
              failIf (l.isEmpty && decide (nsid ≠ 0xFFFFFFFF)) (nvDnr .invalidNs)])
        fun t => if l.isEmpty then t else (foldS State.nsDelete l t).nsGroup n)

/-- NAMESPACE_ATTACHMENT (R385): the mask of controllers. -/
def execNamespaceAttachment (h : NvmeHdr) (attach : Bool) (nsid : Nat) (ctrls : BitVec 2) (s : State) :
    Eff :=
  .next (s.admin h 0x15 nsid fun n t =>
    match t.ns? nsid with
    | none => t.checked n (t.nsCmdChecks h.ctrl nsid ++ [some (nvDnr .invalidNs)]) id
    | some x =>
      let new := if attach then x.attached ||| ctrls else x.attached &&& ~~~ ctrls
      let absent := if t.twoPorts then ctrls = 0 else ctrls ≠ 1
      t.checked n
        (t.nsCmdChecks h.ctrl nsid ++
          [failIf absent (nvDnr .invalidField),
           failIf (attach && decide (x.attached &&& ctrls ≠ 0)) (nvDnr .nsAttached),
           failIf (attach && !x.shared && decide (new = 3)) (nvDnr .nsPrivate),
           failIf (!attach && decide (x.attached &&& ctrls ≠ ctrls)) (nvDnr .nsNotAttached)])
        fun t =>
          let t := ((t.change true (.nspace { x with attached := new } true)).nsGroup n).event
            (epHost 0) (if attach then 44 else 45) nsid
          t.nsChanged nsid)

/-! Format NVM and Sanitize (R383, R385, 14 R433). -/

/-- A namespace with another LBA format: the same bytes in blocks of the other size. -/
def Ns.reformat (lbaf : Nat) (x : Ns) : Ns :=
  { x with
    lbaf := BitVec.ofNat 1 lbaf
    blocks := x.blocks * x.blockBytes / (if lbaf = 0 then 512 else 4096) }

/-- A namespace is formatted (R385): its bands are released, and its LBA format is set. -/
def State.formatNs (lbaf : Nat) (x : Ns) (s : State) : State :=
  let s := (s.endWrites x.nsid (nvRetry .formatInProgress)).releaseBands x.bands
  s.change true (.nspace (x.reformat lbaf) true)

/-- FORMAT_NVM (R385). -/
def execFormatNvm (h : NvmeHdr) (nsid lbaf ses : Nat) (s : State) : Eff :=
  .next (s.admin h 0x1A nsid fun n t =>
    let l := if nsid = 0xFFFFFFFF then t.plc.nss else (t.ns? nsid).toList
    t.checked n
      ([t.earlyCheck h.ctrl, t.limitedCheck,
        failIf (t.nvme.activation.isSome || t.nvme.nextSlot.isSome) (nvDnr .sequence),
        failIf (decide (1 < lbaf) || !(ses = 0 || (ses = 2 && t.hasCipher))) (nvDnr .invalidField),
        failIf (l.isEmpty && decide (nsid ≠ 0xFFFFFFFF)) (nvDnr .invalidNs)]
        ++ l.map fun x => t.busyCheck x.nsid)
      fun t =>
        if l.isEmpty then t
        else if ses = 0 then
          let t := (foldS (State.formatNs lbaf) l t).nsGroup n
          t.onNvme fun v => { v with format := v.format ++ l.map fun x => x.nsid }
        else
          let t := foldS (fun x (t : State) => t.change true (.nspace (x.reformat lbaf) true))
            (l.filter fun x => decide (x.lbaf.toNat ≠ lbaf)) t
          ((t.onCmd n fun k => { k with need := .erase }).askErase nsid (some n) false).mediaArrives)

/-- SANITIZE (R385, 14 R433): crypto erase, action 4; action 1 leaves a failure mode and does nothing
more. -/
def execSanitize (h : NvmeHdr) (action : Nat) (s : State) : Eff :=
  .next (s.admin h 0x84 0xFFFFFFFF fun n t =>
    t.checked n
      [failIf (!t.hasCipher) (nvDnr .invalidOpcode), t.earlyCheck h.ctrl, t.limitedCheck,
       failIf (t.nvme.activation.isSome || t.nvme.nextSlot.isSome) (nvDnr .sequence),
       failIf (decide (action ≠ 1) && decide (action ≠ 4)) (nvDnr .invalidField),
       if action = 4 then (if t.nvme.sanitize then some (nvRetry .sanitizeInProgress)
         else failIf (!t.nvme.format.isEmpty) (nvRetry .formatInProgress)) else none]
      fun t =>
        if action = 1 then t
        else ((t.onCmd n fun k => { k with need := .erase }).askErase 0xFFFFFFFF (some n) true)
          |>.mediaArrives)

end Sys2Proof.Machine
end

