-- ==== Sys2Proof/Machine/HostPort.lean ====
section
/-! DEFINITION. The PCIe ports and the controller registers (12 R364, R365, R368, R370, R373, R375,
R379, R391, R392; 02 R45; 18 R498). -/

namespace Sys2Proof.Machine

open Sys2Proof

/-! Doorbells (R368, R370, R392). -/

/-- SQ_DOORBELL: the tail of a submission queue; a queue or a value that does not exist is fault source
52. -/
def execSqDoorbell (ctrl : Fin 2) (qid tail : Nat) (s : State) : Eff :=
  .next (
    if !s.hostReach ctrl || !(s.ctrl ctrl).en then s
    else
      match s.sq? ctrl qid with
      | some q =>
        if tail < q.size then
          s.onCtrl ctrl fun c => { c with
            sqs := c.sqs.map fun x => if x.id = qid then { x with tail := tail } else x }
        else s.fault (epHost ctrl) 52 ctrl.val
      | none => s.fault (epHost ctrl) 52 ctrl.val)

/-- CQ_DOORBELL: the head of a completion queue. -/
def execCqDoorbell (ctrl : Fin 2) (qid head : Nat) (s : State) : Eff :=
  .next (
    if !s.hostReach ctrl || !(s.ctrl ctrl).en then s
    else
      match s.cq? ctrl qid with
      | some q =>
        if head < q.size then
          s.onCtrl ctrl fun c => { c with
            cqs := c.cqs.map fun x => if x.id = qid then { x with head := head } else x }
        else s.fault (epHost ctrl) 52 ctrl.val
      | none => s.fault (epHost ctrl) 52 ctrl.val)

/-! Enable and reset (R365, R373, R375). -/

/-- CC_ENABLE: the admin queue pair has the sizes of AQA, which count from 0 (R368). CSTS.RDY rises at once, since the host island can be reached only once it is configured
(R365, 02 R41 step 12). -/
def execCcEnable (ctrl : Fin 2) (x : EnableSetup) (s : State) : Eff :=
  .next (
    if !s.hostReach ctrl || (s.ctrl ctrl).en then s
    else
      (s.onCtrl ctrl fun c => { c with
          en := true, rdy := true, ams := x.ams
          sqs := [{ id := 0, size := x.asqs.toNat + 1, cqid := 0, prio := 0, tail := 0, head := 0 }]
          cqs := [{ id := 0, size := x.acqs.toNat + 1, vector := 0, tail := 0, head := 0 }]
          fetchStopped := s.sys.shutStage.isSome || s.nvme.activation.isSome }).event
        (epHost ctrl) 32 ctrl.val)

/-- CONTROLLER_RESET: CC.EN from 1 to 0 (R373); fetching stopped by a shutdown ends with it (R375). -/
def execControllerReset (ctrl : Fin 2) (s : State) : Eff :=
  .next (
    if s.hostReach ctrl && (s.ctrl ctrl).en then
      (s.event (epHost ctrl) 33 ctrl.val).resetCtrl ctrl
    else s)

/-- FUNCTION_LEVEL_RESET (R365, R373). -/
def execFunctionLevelReset (ctrl : Fin 2) (s : State) : Eff :=
  .next (if s.hostReach ctrl then s.flr ctrl else s)

/-- NVM_SUBSYSTEM_RESET: NSSR.NSSRC written with its magic value performs the chip reset of 02 R56
(R379). -/
def execNvmSubsystemReset (ctrl : Fin 2) (v : BitVec 32) (s : State) : Eff :=
  .next (if s.hostReach ctrl && decide (v = 0x4E564D65) then s.requestChipReset 0 else s)

/-! Links (R364, R373, R391, R392). -/

/-- The link of a port goes down, without report: its width and speed read 0 (R390). -/
def State.portDown (p : Fin 2) (s : State) : State :=
  (s.doIf (s.port p).l12 (State.switchOn (12 + p.val))).onPort p fun x => { x with
    up := false, width := 0, gts := 0, l12 := false }

/-- PCIE_LINK_DOWN: a hot reset or link down of a port resets only its own controller. -/
def execPcieLinkDown (port : Fin 2) (s : State) : Eff :=
  .next (
    if !(s.port port).up then s
    else
      let s := (s.portDown port).event (epHost port) 37 port.val
      let s := s.doIf (s.ctrl port).en fun t => t.fault (epHost port) 51 port.val
      s.resetCtrl port)

/-- The lanes a port has (R364). -/
def State.lanes (s : State) : Nat := if s.twoPorts then 2 else 4

/-- PCIE_LINK_UP: a present port whose PHY is powered trains up, or changes its speed or width. -/
def execPcieLinkUp (port : Fin 2) (width gts : Nat) (s : State) : Eff :=
  .next (
    let p := s.port port
    if !s.presentCtrls.contains port || !s.domOn (12 + port.val) || s.ports.perst
        || s.sys.powerLoss.isSome || width = 0 || decide (s.lanes < width) || decide (32 < gts) then s
    else
      let t := s.onPort port fun x => { x with up := true, width := width, gts := gts, l12 := false }
      if !p.up then t.event (epHost port) 37 (port.val + 2 ^ 31)
      else if p.width ≠ width || p.gts ≠ gts then
        t.event (epHost port) 38 (port.val + width * 256 + gts * 65536)
      else s)

/-- ASPM_L1_2_TRANSITION (18 R498): the port's domain is off in L1.2. -/
def execAspmL12Transition (port : Fin 2) (enter : Bool) (s : State) : Eff :=
  .next (
    let p := s.port port
    if !p.up || p.l12 = enter then s
    else
      let s := s.onPort port fun x => { x with l12 := enter }
      if enter then s.switchOff (12 + port.val) else s.switchOn (12 + port.val))

/-! PERST# (02 R45, R365, R366). -/

/-- PERST_ASSERT: the host island is reset, and the commands of both controllers are withdrawn; the mode
stays. -/
def execPerstAssert (s : State) : Eff :=
  .next (
    if s.ports.perst then s
    else
      let s := (s.onPorts fun p => { p with perst := true }).event (epHost 0) 36 0
      let s := foldS (fun c (t : State) => (t.resetCtrl c).portDown c) s.presentCtrls s
      s.onSys fun y => { y with hostConfigured := false })

/-- PERST_RELEASE: the host island may be configured again, with its identity taken anew (R366). -/
def execPerstRelease (s : State) : Eff := .next (s.onPorts fun p => { p with perst := false })

/-! PCIe errors (R392). -/

/-- A command whose host memory access fails (R392): Data Transfer Error once its media work has
finished; a write's data is not kept. -/
def State.transferFails (n : Nat) (s : State) : State :=
  match s.cmd? n with
  | none => s
  | some k =>
    let st := nvRetry .dataTransfer
    if k.need = .data || (k.opcode = 0x01 && !k.admin) then (s.cmdReady n st).dropWrites [n]
    else s.onCmd n fun k => { k with status := st }

/-- PCIE_ERROR: sixteen correctable errors of a port within 1 s are fault source 48. -/
def execPcieError (port : Fin 2) (kind : PcieErr) (cid : Option Nat) (s : State) : Eff :=
  .next (
    match kind with
    | .correctable =>
      let l := ((s.port port).corrAt.filter fun t => decide (s.since t < secTicks)) ++ [s.now]
      if l.length < 16 then s.onPort port fun x => { x with corrAt := l }
      else (s.onPort port fun x => { x with corrAt := [] }).fault (epHost port) 48 port.val
    | .uncorrectable => s.fault (epHost port) 49 port.val
    | .hostAccess =>
      let s := s.fault (epHost port) 50 port.val
      match cid with
      | some n => s.transferFails n
      | none => s)

end Sys2Proof.Machine
end

