-- ==== Sys2Proof/Machine/PowerRows.lean ====
section
/-! DEFINITION. The commands of the power controller, the adaptive supplies and the temperature
sensors (18 R498 to R507, 02 R37). -/

namespace Sys2Proof.Machine

open Sys2Proof

/-! Requests (R498). -/

/-- Whether a requester may want a domain on now: the mode sequencer and the Timetable by the mode, the
PCIe link outside L1.2, resident firmware while a slot can be loaded, and the Hall Monitor for an
actuator (R498). -/
def State.wantsOn (s : State) (d : Nat) (who : Requester) : Bool :=
  match who with
  | .sequencer =>
    (s.modeOn s.sys.mode).contains d || d = 7 || d = 6 || d = 11 || (d = 30 && s.sys.coreReleased)
  | .timetable => s.sys.mode.active && (d != 29 || !s.pwr.hwWarn)
  | .pcie => !(s.port ⟨(d - 12) % 2, by omega⟩).l12
  | .resident => s.sys.mode.active
  | .monitor => if d < 28 then s.sys.mode.active && !actIn s.sys.unsafeActs ⟨d % 4, by omega⟩
    else s.sys.mode.active && !s.pwr.hwWarn
  | .dictionary => decide (s.odNat 0x630003 0 ≠ 0)
  | .other => false

/-- Whether a requester may want a domain off now (R498). -/
def State.wantsOff (s : State) (d : Nat) (who : Requester) : Bool :=
  match who with
  | .sequencer => (modeOff s.sys.mode).contains d
      || (20 ≤ d && d ≤ 27 && actIn s.sys.unsafeActs ⟨d % 4, by omega⟩)
  | .pcie => (s.port ⟨(d - 12) % 2, by omega⟩).l12
  | .resident => s.currentCopy.blobs.isEmpty || !s.sys.mode.active
  | .monitor => d < 28 || s.pwr.hwWarn
  | .timetable => true
  | .dictionary => decide (s.odNat 0x630003 0 = 0)
  | .other => false

/-- DOMAIN_SWITCH_ON (R498 to R500). -/
def execDomainSwitchOn (d : Fin 32) (who : Requester) (s : State) : Eff :=
  .next (
    if domAllowed d true who && s.wantsOn d who && s.sys.powerLoss.isNone then s.switchOn d else s)

/-- DOMAIN_SWITCH_OFF (R498 to R500, 01 R27). -/
def execDomainSwitchOff (d : Fin 32) (who : Requester) (s : State) : Eff :=
  .next (if domAllowed d false who && s.wantsOff d who then s.switchOff d else s)

/-! Ready, off and failures. -/

/-- An actuator of the domains PD20 to PD27. -/
def domAct (d : Nat) : Option (Fin 4) :=
  if 20 ≤ d && d ≤ 27 then some ⟨d % 4, by omega⟩ else none

/-- A switch failed: the third failure in a row suspends the domain (R500). -/
def State.switchFails (d : Nat) (s : State) : State :=
  let s := s.onDom d fun x => { x with fails := x.fails + 1, suspended := x.suspended || decide (2 ≤ x.fails) }
  if decide ((s.dom d).fails = 3) then
    match domAct d with
    | some a => s.makeUnsafe a
    | none => if d = 14 || d = 15 then s.enterLimited (0x300 + 149) [] false else s
  else s

/-- A domain is off: its supply is off, and what its units held is lost (02 R37, 14 R428). -/
def State.domLost (d : Nat) (s : State) : State :=
  let s := (s.onDom d fun x => { x with state := .off }).resetUnits d
  let s := if (d = 28 || d = 29) && (s.dom (otherHalf d)).state ≠ .off then s
    else foldS (fun i t => t.onSupply i fun x => { x with mv := 0, mv19 := 0 }) (domIsland d) s
  if d = 18 then s.ciphOff
  else if d = 28 || d = 29 then
    (s.onPool fun p => { p with
      next := (List.range 4).foldl (fun m i => setBit m (4 * (d - 28) + i) true) p.next })
      |>.event (epDecoder 0) 242 s.poweredHalves
  else s

/-- What waits on a domain that is off goes on: the domains it depends on, a switch-on that came during
the drain (R500), and both domains of a block reset (16 R463). -/
def State.afterOff (d : Nat) (s : State) : State :=
  let s := s.startOffs
  let s := if (s.dom d).wantOn then (s.onDom d fun x => { x with wantOn := false }).switchOn d else s
  match domAct d with
  | some a =>
    if s.hm.brst.contains (3 + a.val) && ((actDomains a).all fun e => decide ((s.dom e).state = .off)) then
      if actIn s.sys.unsafeActs a then s else s.switchOnAll (actDomains a)
    else s
  | none => s

/-- POWER_GOOD_TIMEOUT (R499, R500): no power good 50 us after the switch closed: fault source 149 kind 0;
the domain is left off. -/
def execPowerGoodTimeout (d : Fin 32) (s : State) : Eff :=
  .next (
    if (s.dom d).state = .switchingOn && s.onFor d (50 * usTicks) then
      let s := s.faultAt epTimetable 149 0 d
      let s := s.onDom d fun x => { x with state := .off, wantOff := false }
      (s.switchFails d).startOffs
    else s)

/-- DOMAIN_FILL_OVERRUN (R499, 13 R419): not filled 2 ms after power good, which comes after the switch
closes: fault source 39; the fill goes on. -/
def execDomainFillOverrun (d : Fin 32) (s : State) : Eff :=
  .next (
    if (s.dom d).state = .switchingOn && s.onFor d (2 * msTicks) then
      (s.onDom d fun x => { x with state := .filling }).faultAt epTimetable 39 0 d
    else s)

/-- The decoders of a half that is ready take the bits OD 0x47F0.01 holds for them, all ones unless it was
written while the half was off (03 R71, 07 R227): event 241 for each that returns to service, 240 for
each taken offline. -/
def State.decodersBack (d : Nat) (s : State) : State :=
  let lo := 4 * (d - 28)
  foldS (fun i (t : State) =>
    let b := t.pool.next.getLsbD i
    if b = t.pool.online.getLsbD i then t
    else (t.onPool fun p => { p with online := setBit p.online i b }).event (epDecoder i)
      (if b then 241 else 240) i)
    [lo, lo + 1, lo + 2, lo + 3] s

/-- The units of a domain that is ready start (09 R292, 14 R428, 07 R227). -/
def State.unitsStart (d : Nat) (kat : Option (Fin 3)) (bad : List (Fin 128)) (s : State) : State :=
  let s := s.doIf (d = 28 || d = 29) (State.decodersBack d)
  let s := (s.fillDomain d).resetUnits d
  let s := foldS (fun i t => t.onSupply i fun x =>
    if x.mv = 0 then { x with mv := 750, mv19 := 750, regAt := s.now, lowSince := none, exhausted := false }
    else x) (domIsland d) s
  if h : 20 ≤ d ∧ d ≤ 23 then
    let a : Fin 4 := ⟨d - 20, by omega⟩
    (s.onIsl a fun i => { i with synN := BitVec.ofNat 16 (s.periodCycles a) }).pscStart a
  else if d = 18 then s.ciphReady kat (bad.map fun n => n.val)
  else if d = 28 || d = 29 then s.event (epDecoder 0) 242 s.poweredHalves
  else s

/-- A block reset of an actuator ends: resident firmware reloads the guest image and loads the heads
again (16 R463). -/
def State.blockResetEnd (d : Nat) (s : State) : State :=
  match domAct d with
  | some a =>
    if s.hm.brst.contains (3 + a.val) && ((actDomains a).all fun e => s.domOn e) then
      (s.onHm fun h => { h with brst := h.brst.erase (3 + a.val) }).startLoad a
    else s
  | none => s

/-- DOMAIN_READY (02 R37, R499, R500): the fill is complete. -/
def execDomainReady (d : Fin 32) (kat : Option (Fin 3)) (bad : List (Fin 128)) (s : State) : Eff :=
  .next (
    let x := s.dom d
    if (x.state = .switchingOn || x.state = .filling) && s.onFor d 0 then
      let s := s.onDom d fun y => { y with state := .on, fails := 0 }
      let s := ((s.unitsStart d kat bad).blockResetEnd d).startWaiting
      let s := if x.wantOff && s.mayDrain d then s.commitOff d else s
      s.pumpMotion
    else s)

/-- DOMAIN_DRAINED (R499, R500): the switch opened, or not within 10 us. -/
def execDomainDrained (d : Fin 32) (opened : Bool) (s : State) : Eff :=
  .next (
    if (s.dom d).state = .draining && !s.inFlightTo d && !s.halfDecodes d then
      let s := s.domLost d
      let s := if opened then (s.onDom d fun x => { x with fails := 0 }).event epTimetable 18 d
        else (s.faultAt epTimetable 149 1 d).switchFails d
      ((s.afterOff d).modePump).pumpMotion
    else s)

/-! Adaptive supply (R501 to R504). -/

/-- The sensor of an island (R505). -/
def islandSensor (i : Nat) : Nat :=
  if i = 1 then 0
  else if i = 4 then 3
  else if i = 5 || i = 6 then 4
  else if i = 7 || i = 8 then 5
  else if i = 9 || i = 10 then 2
  else 1

/-- Event 19 when a set point has moved 25 mV from its value at the last (R519). -/
def State.supplyMoved (i : Nat) (s : State) : State :=
  let x := s.supply i
  if 25 ≤ max x.mv x.mv19 - min x.mv x.mv19 then
    (s.onSupply i fun y => { y with mv19 := y.mv }).event epTimetable 19 (i * 256 + (x.mv - 600) / 5)
  else s

/-- A headroom sample, taken with the island's sensor between 60 and 80 C (R508); an average that falls
below HEADROOM_MIN triggers a re-plan (R512). -/
def State.headroomSample (i : Nat) (s : State) : State :=
  let k := islandSensor i
  let t := s.temp k
  if s.sensorGood k && decide (480 ≤ t) && decide (t ≤ 640) then
    let was := (s.supply i).headroom
    let s := s.onSupply i fun x =>
      let n := x.headN + 1
      let m := x.headSum + (850 - x.mv)
      { x with headN := n, headSum := m, headroom := some (m / n) }
    let low (h : Option Nat) : Bool := match h with
      | some v => decide (v < s.p6200HeadroomMin)
      | none => false
    s.doIf (low (s.supply i).headroom && !low was) (State.replanTrigger 2)
  else s

/-- The slack an island is to keep, ps (R502, R514). -/
def State.slackTarget (s : State) (i : Nat) : Int := (s.p6310SlackTarget + (s.supply i).offset : Nat)

/-- The set point after a step of the regulator (R502). -/
def regulated (mv : Nat) (slack target : Int) : Nat :=
  if slack < target then min 850 (mv + 5)
  else if target + 20 < slack then max 650 (mv - 5) else mv

/-- Whether an island takes part in the adaptive supply now: powered, and not island 0, which is fixed
(R501). -/
def State.supplied (s : State) (i : Nat) : Bool := decide (i ≠ 0) && decide ((s.supply i).mv ≠ 0)

/-- Whether an island's regulator is due for a step: 100 us after the last, or after a droop alarm (R502,
R503). -/
def State.regulateDue (s : State) (i : Nat) : Bool :=
  s.supplied i && decide (100 * usTicks ≤ s.since (s.supply i).regAt)

/-- SUPPLY_REGULATE (R502): 5 mV up below the target, 5 mV down above it by 20 ps. An island that sat at
850 mV below its target is counted from here (R504). -/
def execSupplyRegulate (i : Fin 12) (slack : Int) (s : State) : Eff :=
  .next (
    if !s.regulateDue i then s
    else
      let target := s.slackTarget i
      let s := s.onSupply i fun y =>
        let low := decide (y.mv = 850) && decide (slack < target)
        { y with mv := regulated y.mv slack target, regAt := s.now
                 lowSince := if low then some (y.lowSince.getD s.now) else none
                 exhausted := y.exhausted && low }
      (s.supplyMoved i).headroomSample i)

/-- DROOP_ALARM (R503): 25 mV up at once, fault source 144, and event 20 at most once per second. -/
def execDroopAlarm (i : Fin 12) (s : State) : Eff :=
  .next (
    let x := s.supply i
    if !s.supplied i then s
    else
      let due : Bool := match x.ev20At with
        | some t => decide (secTicks ≤ s.since t)
        | none => true
      let s := s.onSupply i fun y => { y with
        mv := min 850 (y.mv + 25), regAt := s.now, droops := y.droops + 1
        ev20At := if due then some s.now else y.ev20At }
      let s := (s.supplyMoved i).fault epTimetable 144 i
      let s := s.count (0x631301 + i.val) 1
      s.doIf due fun t => t.event epTimetable 20 i)

/-- HEADROOM_EXHAUSTED (R504): 10 ms at 0.85 V below target, once in an episode. -/
def execHeadroomExhausted (i : Fin 12) (s : State) : Eff :=
  .next (
    let x := s.supply i
    let long : Bool := match x.lowSince with
      | some t => decide (10 * msTicks ≤ s.since t)
      | none => false
    if s.supplied i && long && !x.exhausted then
      (s.onSupply i fun y => { y with exhausted := true }).fault epTimetable 145 i
    else s)

/-! Temperature (R505 to R507). -/

/-- Whether a sample shows a faulty sensor (R507): none is a diode open or shorted. -/
def State.sampleBad (s : State) (k : Nat) (t : Option Int) : Bool :=
  match t with
  | none => true
  | some v =>
    decide (k < 6) && (decide (v < -320) || decide (1200 < v)
      || (s.pwr.sampled.getLsbD k && decide (160 < (v - s.temp k).natAbs)))

/-- HW_WARN (R506), after a sample of sensor k: the warning starts with an on-die sensor at the level, which
the report and the event name, and ends when all are 3 C below, with the sensor sampled. -/
def State.hwWarning (k : Nat) (s : State) : State :=
  let warn := 8 * s.p6320HwWarn
  let high := s.dieSensors.filter fun i => decide (warn ≤ s.temp i)
  if s.pwr.hwWarn then
    s.doIf (s.dieSensors.all fun i => decide (s.temp i ≤ warn - 24)) fun t =>
      (t.onPwr fun p => { p with hwWarn := false }).event epTimetable 21 (2 * k)
  else
    match high with
    | [] => s
    | i :: _ =>
      let j := if high.contains k then k else i
      let s := (s.onPwr fun p => { p with hwWarn := true }).fault epTimetable 146 j
      let s := s.event epTimetable 21 (1 + 2 * j)
      s.doIf (!s.upperBusy && s.domOn 29) (State.switchOff 29)

/-- Whether a sensor's next sample is due: every 1 ms, a remote diode's every 10 ms (R505). -/
def State.tempDue (s : State) (k : Nat) : Bool :=
  !s.pwr.sampled.getLsbD k
    || decide ((if k < 6 then msTicks else 10 * msTicks) ≤ s.since (nth s.pwr.tempAt k 0))

/-- TEMP_SAMPLE (R505 to R507, 11 R342, R343). -/
def execTempSample (s' : Fin 8) (t : Option Int) (s : State) : Eff :=
  let k := s'.val
  .next (
    if !s.sensorGood k || !s.tempDue k then s
    else
      let s : State := if s.sampleBad k t then
          ((s.onPwr fun p => { p with sensorOk := setBit p.sensorOk k false }).fault epTimetable 148 k)
            |>.event epTimetable 22 k
        else
          let v := t.getD 0
          let was := s.temp k
          let s := s.onPwr fun p => { p with
            temps := setNth p.temps k v, tempAt := setNth p.tempAt k s.now, sampled := setBit p.sampled k true
            peakDie := if k < 6 then max p.peakDie v else p.peakDie }
          s.doIf (decide (k < 6) && decide (was < 8 * s.p6320HwTrip) && decide (8 * s.p6320HwTrip ≤ v))
            fun u => u.fault epTimetable 147 k
      (((s.hwWarning k).updateHeat).updateProt).updateWarnings)

end Sys2Proof.Machine
end

