-- ==== Sys2Proof/Machine/ReportCard.lean ====
section
/-! DEFINITION. The Report Card (18 R508 to R516): head and spindle measurements, and the re-plan. -/

namespace Sys2Proof.Machine

open Sys2Proof

/-! Head metrics (R510, R511). -/

/-- An exact value as a fraction; the denominator is positive. -/
structure Frac where
  num : Int
  den : Nat
  deriving DecidableEq, Repr

/-- A change from a baseline in per mille (R510). -/
def perMille (metric latest base : Nat) : Frac :=
  if base = 0 then { num := Config.metricAtZero metric latest, den := 1000 }
  else { num := 1000 * ((latest : Int) - base), den := base }

/-- The larger of two. -/
def Frac.max (x y : Frac) : Frac := if x.num * y.den < y.num * x.den then y else x

/-- The magnitude. -/
def Frac.abs (x : Frac) : Frac := { x with num := x.num.natAbs }

/-- The nearest integer, halves away from zero. -/
def Frac.round (x : Frac) : Int :=
  let m := (2 * x.num.natAbs + x.den) / (2 * Nat.max 1 x.den)
  if x.num < 0 then -(m : Int) else m

/-- The ratio of the margins (R510). -/
def marginRatio (latest base : Nat) : Frac :=
  if base = 0 then { num := Config.metricAtZero 4 latest, den := 1000 }
  else { num := latest, den := base }

/-- The signed change of the touchdown power (R510). -/
def tdChange (b m : HeadMeas) : Frac := perMille 3 m.td b.td

/-- The metrics of a measurement against its baseline, in the order of R511. -/
def metrics (b m : HeadMeas) : List Frac :=
  [perMille 0 m.thr b.thr, perMille 1 m.writer b.writer,
   (perMille 2 m.ra b.ra).max (perMille 2 m.rb b.rb), (tdChange b m).abs,
   marginRatio m.margin b.margin]

/-- CLASS_THR of a metric and class (R511, R517). -/
def State.classThr (s : State) (m c : Nat) : F32 :=
  let dflt : List Nat := [0x42A00000, 0x42F00000, 0x437A0000, 0x42480000, 0x42C80000, 0x43480000,
    0x42480000, 0x42C80000, 0x43480000, 0x42C80000, 0x43480000, 0x43AF0000,
    0x40000000, 0x40800000, 0x41000000]
  BitVec.ofNat 32 (s.odNat (0x620101 + 3 * m + c - 1) (nth dflt (3 * m + c - 1) 0))

/-- Whether a metric reaches a threshold, compared exactly; binary32 values count 2^-149. -/
def Frac.reaches (x : Frac) (t : F32) : Bool := decide (x.den * fVal t ≤ x.num * 2 ^ 149)

/-- The class of a metric (R511). -/
def State.metricClass (s : State) (m : Nat) (x : Frac) : Nat :=
  if x.reaches (s.classThr m 3) then 3
  else if x.reaches (s.classThr m 2) then 2
  else if x.reaches (s.classThr m 1) then 1
  else 0

/-- The health class of a measurement, and the first metric that has it (R511). -/
def State.healthClass (s : State) (b m : HeadMeas) : Nat × Nat :=
  let cs := (List.range 5).map fun i => (s.metricClass i (nth (metrics b m) i ⟨0, 1⟩), i)
  cs.foldl (fun best x => if best.1 < x.1 then x else best) (0, 0)

/-- Percentage Used of a head (R515): the largest of 100 * metric / class 3 threshold, rounded down; for
M it is M - 1.0 against 7.0. -/
def State.headPct (s : State) (b m : HeadMeas) : Nat :=
  let pct (i : Nat) : Nat :=
    let x := nth (metrics b m) i ⟨0, 1⟩
    if i = 4 then (100 * (x.num - x.den) / (7 * x.den)).toNat
    else
      let t := fVal (s.classThr i 3)
      if t ≤ 0 then 255 else (100 * x.num * 2 ^ 149 / (x.den * t)).toNat
  min 255 ((List.range 5).foldl (fun n i => Nat.max n (pct i)) 0)

/-! Head measurement (R509). -/

/-- The points of a measurement with the largest photodiode readings, at most so many. -/
def topPoints (l : List (Nat × Int)) (n : Nat) : List (Nat × Int) :=
  let put (x : Nat × Int) (m : List (Nat × Int)) : List (Nat × Int) :=
    m.takeWhile (fun y => decide (x.2 ≤ y.2)) ++ x :: m.dropWhile fun y => decide (x.2 ≤ y.2)
  (l.foldl (fun m x => put x m) []).take n

/-- The bias at which a straight line fitted to points by least squares reaches zero; none for a line
that does not rise. -/
def fitIntercept (l : List (Nat × Int)) : Option Int :=
  let n : Int := l.length
  let sx : Int := l.foldl (fun m p => m + p.1) 0
  let sy : Int := l.foldl (fun m p => m + p.2) 0
  let sxx : Int := l.foldl (fun m p => m + (p.1 : Int) * p.1) 0
  let sxy : Int := l.foldl (fun m p => m + (p.1 : Int) * p.2) 0
  let slope := n * sxy - sx * sy
  if slope ≤ 0 || n * sxx - sx * sx ≤ 0 then none
  else
    let num := sx * sxy - sxx * sy
    some ((2 * (num + 0) + slope) / (2 * slope))

/-- The zone of the closed band slot a measurement uses: the named band is written and lies on the head
(R509, 10 R304). -/
def State.measureZone (s : State) (a : Fin 4) (head : BitVec 5) (band : Nat) : Option (BitVec 6) :=
  (s.plc.bands.find? fun b => decide (b.glb = band) && (decide (b.state = .home) || decide (b.state = .pooled))
    && (match b.loc with
        | some l => decide (l.act = a) && decide (l.head = head)
        | none => false)).map (·.zone)

/-- The write bank of a head and zone, as its words; all zero where none matches (09 R275). -/
def State.headBank (s : State) (a : Fin 4) (head zone : Nat) : List Word :=
  match chooseBank (s.act a).wp.banks 16 16 s.multMax head zone with
  | some b => bankWords (s.act a).wp.banks 16 b.1
  | none => []

/-- The laser operating current of a head in a zone, 10 uA (09 R274, R276). -/
def State.laserCurrent (s : State) (a : Fin 4) (head zone : Nat) : Nat :=
  trimmed (fld (nth (s.headBank a head zone) 4 0).toNat 0 12)
    (clampInt (-500) 500 (sfld (s.wpTrim a head).toNat 0 16)) 12

/-- The eight values of LASER_BIAS from 0.6 to 1.3 times the operating current (R509). -/
def biasSteps (op : Nat) : List Nat := (List.range 8).map fun i => (op * (6 + i) + 5) / 10

/-- The 16 heater steps from the bank's HEAT_RD up to TD_HEAT_MAX, 0.1 mW (R509). -/
def State.heatSteps (s : State) (a : Fin 4) (head zone : Nat) : List Nat :=
  let rd : Int := fld (nth (s.headBank a head zone) 5 0).toNat 16 10
  (List.range 16).map fun (i : Nat) => (rd + (((s.p6200TdHeatMax : Int) - rd) * ((i : Int) + 1) + 8) / 16).toNat

/-- The touchdown power, the first step whose reading exceeds TD_SENSE_THR, and whether none did (R509). -/
def State.touchdown (s : State) (a : Fin 4) (head zone : Nat) (touch : List Int) : Nat × Bool :=
  let steps := s.heatSteps a head zone
  match (steps.zip touch).find? fun p => decide ((s.p6200TdSenseThr : Int) < p.2) with
  | some p => (p.1, false)
  | none => (s.p6200TdHeatMax, true)

/-- The laser threshold current: the zero-current intercept of the line through the four highest points;
a free value where the line does not rise (R509). -/
def State.laserFit (s : State) (a : Fin 4) (head zone : Nat) (photo : List Int) : Nat :=
  match fitIntercept (topPoints ((biasSteps (s.laserCurrent a head zone)).zip photo) 4) with
  | some v => v.toNat
  | none => Config.laserThreshold s.free

/-- Whether a head is due for its measurement: once per MEASURE_POH power-on hours (R509). -/
def State.measureDue (s : State) (a : Fin 4) (head : Nat) : Bool :=
  match (s.card a head).latest with
  | none => true
  | some m => decide (m.poh + s.p6200MeasurePoh ≤ s.poh)

/-- Whether a measurement of a head is taken: it is due, complete and not cut, in SERVICE, of a usable
actuator's head that thermal protection does not hold (R509, R516). -/
def State.mayMeasure (s : State) (a : Fin 4) (head : BitVec 5) (m : Measurement) : Bool :=
  s.usable a && decide (head.toNat < s.headsOf a) && decide (s.sys.mode = .service) && !m.cut
    && !s.tt.protHeads.contains (a, head) && (s.measureZone a head m.band).isSome
    && s.measureDue a head.toNat

/-- A measurement as it is kept (R508, R509). -/
def State.measured (s : State) (a : Fin 4) (head : BitVec 5) (m : Measurement) : HeadMeas :=
  let z := ((s.measureZone a head m.band).getD 0).toNat
  let td := s.touchdown a head.toNat z m.touch
  { thr := s.laserFit a head.toNat z m.photo, writer := m.writer, ra := m.ra, rb := m.rb, td := td.1
    above := td.2, margin := m.margin, poh := s.poh }

/-- The class a head would have by a measurement. -/
def State.classOf (s : State) (c : HeadCard) : Nat :=
  match c.latest, c.baseline with
  | some m, some b => max c.cls.toNat (s.healthClass b m).1
  | _, _ => c.cls.toNat

/-- HEAD_MEASUREMENT (R509, R510, R512): event 304; a metric that crosses into a higher class triggers a
re-plan. -/
def execHeadMeasurement (a : Fin 4) (head : BitVec 5) (m : Measurement) (s : State) : Eff :=
  .next (
    if !s.mayMeasure a head m then s
    else
      let x := s.measured a head m
      let was := s.classOf (s.card a head.toNat)
      let s := s.takeFree.onCard a head.toNat fun c => { c with
        latest := some x, stale := false
        baseline := if c.baseline.isNone && s.ident.tier ≠ .unfused then some x else c.baseline }
      let s := s.event epReport 304 (a.val * 2 ^ 24 + head.toNat)
      s.doIf (decide (was < s.classOf (s.card a head.toNat))) (State.replanTrigger 1))

/-! Spindle current (R508, R512). -/

/-- The drift of the current at rated speed from its baseline, per mille. -/
def State.spinDriftNow (s : State) : Nat :=
  match s.rc.spinRated, s.rc.spinBase with
  | some v, some b => 1000 * (max v b - min v b) / max 1 b
  | _, _ => 0

/-- Whether a mean over 1 s that begins 1 s after any change of target has ended in RUN, wedge-locked
(R508). -/
def State.spinSteady (s : State) : Bool :=
  decide (s.spn.state = .run) && !s.spn.rampDue && s.spn.locked
    && decide (2 * secTicks ≤ s.since s.spn.targetAt) && decide (secTicks ≤ s.since s.spn.enteredAt)

/-- Whether the drive holds a speed whose measurement of this power-on hour is still to come (R508). -/
def State.spinDue (s : State) (rpm : Nat) (last : Option Nat) : Bool :=
  decide (s.spn.target.toNat = 16 * rpm) && (match last with
    | some p => decide (p < s.poh)
    | none => true)

/-- SPINDLE_CURRENT_MEASURE (R508, R512): the mean over 1 s (rounded down, log 80), at rated speed or at CRUISE_MIN, once per power-on hour; the
first at rated speed is the baseline, and a drift beyond SPIN_DRIFT is event 311 and triggers a
re-plan. -/
def execSpindleCurrentMeasure (sum n : Nat) (s : State) : Eff :=
  let ma := sum / n
  .next (
    if !s.spinSteady then s
    else if !s.spinDue s.p2010RatedRpm s.rc.ratedPoh then
      s.doIf (s.spinDue s.p2040CruiseMin s.rc.minPoh) fun t =>
        t.onRc fun r => { r with spinMin := some ma, minPoh := some s.poh }
    else
      let was := s.spinDriftNow
      let s := s.onRc fun r => { r with
        spinRated := some ma, spinBase := some (r.spinBase.getD ma), ratedPoh := some s.poh }
      let d := s.spinDriftNow
      if s.p6200SpinDrift < d && was ≤ s.p6200SpinDrift then
        (s.event epReport 311 d).replanTrigger 3
      else s)

/-! The re-plan (R512 to R515). -/

/-- Whether a re-plan is due and may run (R512): in ORIENTATION it waits for SERVICE. -/
def State.replanDue (s : State) : Bool :=
  (s.rc.trigger.isSome || decide (s.rc.lastReplan + s.p6200ReplanPoh ≤ s.poh))
    && decide (s.sys.mode ≠ .fill) && decide (s.sys.mode ≠ .orientation) && s.sys.powerLoss.isNone

/-- The heads present. -/
def State.allHeads (s : State) : List (Fin 4 × Nat) :=
  s.presentActs.flatMap fun a => (List.range (s.headsOf a)).map fun h => (a, h)

/-- Head state as the records hold it, before and after a re-plan: class and both trims. -/
def State.headPlan (s : State) (x : Fin 4 × Nat) : BitVec 2 × Word :=
  ((s.card x.1 x.2).cls, s.wpTrim x.1 x.2)

/-- Step 2 for one head (R511, R513): its class never falls; event 307. A head not measured within 48
power-on hours of its due time is stale (R509). -/
def State.classStep (x : Fin 4 × Nat) (s : State) : State :=
  let c := s.card x.1 x.2
  match c.latest, c.baseline with
  | some m, some b =>
    let (k, i) := s.healthClass b m
    let s := s.onCard x.1 x.2 fun c => { c with
      cls := BitVec.ofNat 2 (max c.cls.toNat k)
      metric := if c.cls.toNat ≤ k then BitVec.ofNat 8 i else c.metric
      stale := decide (m.poh + s.p6200MeasurePoh + 48 < s.poh) }
    if c.cls.toNat < k then
      s.event epReport 307 (x.1.val * 2 ^ 24 + x.2 * 256 + k)
    else s
  | _, _ => s

/-- Step 3 for one head (R513): LASER_TRIM and HEAT_TRIM. -/
def State.trimStep (x : Fin 4 × Nat) (s : State) : State :=
  let c := s.card x.1 x.2
  match c.latest, c.baseline with
  | some m, some b =>
    let put (idx : Nat) (v : Int) (s : State) : State :=
      s.odSet (odKey (idx + 0x100 * x.1.val) (1 + x.2)) (BitVec.ofInt 16 (clampInt (-500) 500 v)).toNat
    (s |> put 0x4810 (perMille 0 m.thr b.thr).round) |> put 0x4820 (tdChange b m).round
  | _, _ => s

/-- Step 4 (R513): an island's supply offset rises by 5 ps for each 16 droop alarms, up to 40 ps. -/
def IslandSupply.offsetStep (x : IslandSupply) : IslandSupply :=
  { x with offset := max x.offset (min 40 (x.offset + 5 * (x.droops / 16))) }

/-- The twin zone of the first zone of an actuator that has one (R303, R511). -/
def State.twinOf (s : State) (a : Fin 4) : Option (BitVec 6) :=
  ((List.range 64).find? fun z =>
    let e := s.zone a z
    e.use = 1 && decide (e.twin < 64)).map fun z => BitVec.ofNat 6 (s.zone a z).twin

/-- Step 5 for one head (R511, R513): classes are published; class 3 is write-retired, and class 2 with a
twin is ordered to it once. -/
def State.publishStep (x : Fin 4 × Nat) (s : State) : State :=
  let (a, h) := x
  let c := s.card a h
  let q := a.val * 2 ^ 24 + h * 256
  let s := s.onHead a h fun y => { y with cls := c.cls }
  if c.cls = 3 && !c.retired then
    let s := s.onCard a h fun c => { c with retired := true }
    if (s.head a h).retired then s
    else ((s.retireHead a h).event epReport 308 q).updateWarnings
  else if c.cls = 2 && !c.twin then
    match s.twinOf a with
    | some z =>
      ((s.onCard a h fun c => { c with twin := true }).orderTwin a h z).event epReport 309 q
    | none => s
  else s

/-- An unsigned value of two bytes, saturating. -/
def le16 (n : Nat) : List Byte := leBytes 2 (min n 0xFFFF)

/-- The head record of R514. -/
def State.headRecord (s : State) (x : Fin 4 × Nat) (b m : HeadMeas) : List Byte :=
  let (a, h) := x
  let c := s.card a h
  let r := marginRatio m.margin b.margin
  let trim := (s.wpTrim a h).toNat
  padTo 32 0 (
    leBytes 1 1 ++ leBytes 1 a.val ++ leBytes 1 h
      ++ leBytes 1 (c.cls.toNat + 4 * b2n (s.head a h).retired + 8 * b2n c.twin
          + 16 * b2n (c.stale || m.above))
      ++ le16 m.thr ++ le16 m.writer ++ le16 m.ra ++ le16 m.rb ++ le16 m.td
      ++ leBytes 2 (fld trim 0 16) ++ leBytes 2 (fld trim 16 16)
      ++ leBytes 4 (fRat r.num r.den).toNat
      ++ leBytes 4 (min (c.laserTicks / (3600 * secTicks)) 0xFFFFFFFF)
      ++ leBytes 1 c.metric.toNat ++ leBytes 1 (s.headPct b m))

/-- The headroom byte of an island in the summary: 0xFF where it is absent (R3, R514). -/
def State.islandPresent (s : State) (i : Nat) : Bool :=
  if i = 7 || i = 8 then decide (s.ident.tier = .a) else if i = 10 then s.hasCipher else true

/-- The headroom of an island, mV: its measurement, or the free value of R508. Island 0 is fixed at 0.80 V
(R501). -/
def State.islandHeadroom (s : State) (i : Nat) : Nat :=
  if i = 0 then 50 else ((s.supply i).headroom).getD (Config.unmeasured (18 + i))

/-- The summary record of R514. -/
def State.summaryRecord (s : State) (trigger measured changed : Nat) : List Byte :=
  let isl := (List.range 12).filter s.islandPresent
  let lowest := isl.foldl (fun n i => min n (s.islandHeadroom i)) 0xFFFF
  padTo 32 0 (
    leBytes 1 0 ++ leBytes 1 trigger ++ leBytes 1 (min measured 255) ++ leBytes 1 (min changed 255)
      ++ leBytes 2 s.rc.pctUsed.toNat ++ le16 lowest
      ++ le16 s.spinRated ++ le16 s.spinMin ++ le16 s.rc.min12 ++ le16 s.rc.min5
      ++ le16 s.rc.ovEpisodes
      ++ ((List.range 12).map fun i =>
            if s.islandPresent i then BitVec.ofNat 8 (min 255 (s.islandHeadroom i)) else 0xFF))

/-- Percentage Used (R515); a change is event 310. -/
def State.pctStep (s : State) : State :=
  let p := s.allHeads.foldl (fun n x =>
    let c := s.card x.1 x.2
    match c.latest, c.baseline with
    | some m, some b => max n (s.headPct b m)
    | _, _ => n) 0
  if p = s.rc.pctUsed.toNat then s
  else (s.onRc fun r => { r with pctUsed := BitVec.ofNat 8 p }).event epReport 310 p

/-- The ring-oscillator readings of a re-plan (R508, R510): the first is the baseline. -/
def State.ringStep (rings : List (Nat × Nat)) (s : State) : State :=
  foldS (fun (x : Nat × Nat) t =>
    if (t.supply x.1).mv = 0 then t
    else t.onSupply x.1 fun y =>
      let b := y.ringBase.getD x.2
      { y with ringBase := if t.ident.tier = .unfused then y.ringBase else some b
               ringSlow := 1000 * ((b : Int) - x.2) / (max 1 b : Nat) }) rings s

/-- The measurements of an interval are taken and the next interval begins (R508, R513). -/
def State.intervalStart (s : State) : State :=
  let fused := decide (s.ident.tier ≠ .unfused)
  let s := s.onPwr fun p => { p with islands := Tab.map (fun _ x => { x with
    headBase := if x.headBase.isNone && fused then x.headroom else x.headBase
    headSum := 0, headN := 0, droops := 0 }) p.islands }
  s.onRc fun r => { r with
    min12 := s.sys.v12, min5 := s.sys.v5, ovEpisodes := 0, trigger := none, lastReplan := s.poh }

/-- REPLAN (R512 to R515). In LIMITED steps 3 and 4 are left out. -/
def execReplan (rings : List (Nat × Nat)) (s : State) : Eff :=
  .next (
    if !s.replanDue then s
    else
      let trigger := match s.rc.trigger with
        | some t => t.toNat
        | none => 0
      let since := s.rc.lastReplan
      let heads := s.allHeads
      let was := heads.map fun x => (x, s.headPlan x)
      let measured := heads.countP fun x => match (s.card x.1 x.2).latest with
        | some m => decide (since ≤ m.poh)
        | none => false
      let s := s.ringStep rings
      let s := foldS State.classStep heads s
      let s := if s.sys.mode = .limited then s
        else (foldS State.trimStep heads s).onPwr fun p => { p with
          islands := Tab.map (fun _ x => x.offsetStep) p.islands }
      let s := foldS State.publishStep heads s
      let s : State := match s.rc.spinRated with
        | some v => s.odSet 0x18200C v
        | none => s
      let s : State := match s.rc.spinMin with
        | some v => s.odSet 0x18200D v
        | none => s
      let s := s.pctStep
      let changed := was.filter fun x => decide (s.headPlan x.1 ≠ x.2)
      let risen := was.countP fun x => decide ((s.headPlan x.1).1 ≠ x.2.1)
      let sum := s.summaryRecord trigger measured risen
      let s := (s.onRc fun r => { r with summary := sum }).ybAppend 0x000B sum
      let s := foldS (fun (x : (Fin 4 × Nat) × (BitVec 2 × Word)) t =>
        let c := t.card x.1.1 x.1.2
        match c.latest, c.baseline with
        | some m, some b =>
          let r := t.headRecord x.1 b m
          (t.onCard x.1.1 x.1.2 fun c => { c with record := r, recorded := some m }).ybAppend 0x000B r
        | _, _ => t) changed s
      ((s.count 0x62000A 1).intervalStart).event epReport 305 changed.length)

end Sys2Proof.Machine
end

