-- ==== Sys2Proof/Machine/DictViews.lean ====
section
/-! DEFINITION. What a read of an RO or CONST object shows where State holds the value elsewhere than
among the object values: the views of the object tables (00 R5, 02 R63, 03 R92 to R94 and the object
tables of the other chapters). -/

namespace Sys2Proof.Machine

open Sys2Proof

/-- A numeric view. -/
def vNum (n : Nat) : Option OdVal := some (.num n)

/-- A truth value as a view. -/
def vBool (b : Bool) : Option OdVal := some (.num (b2n b))

/-- A string of bytes as a view. -/
def vOct (b : List Byte) : Option OdVal := some (.oct b)

/-- A string of characters as a view. -/
def vStr (t : String) : Option OdVal := some (.oct (asciiBytes t))

/-- A signed value as the bits of an I16. -/
def i16Bits (v : Int) : Nat := (BitVec.ofInt 16 v).toNat

/-- The actuator of an index in a per-actuator range (R70). -/
def rangeAct (index : Nat) : Fin 4 := ⟨index / 0x100 % 4, by omega⟩

/-- Whether the pool half of a decoder is on (07 R227). -/
def State.halfOn (s : State) (d : Nat) : Bool := s.domOn (if d < 4 then 28 else 29)

/-- OD 0x47F0.01 as it reads: the decoders of a half that is on as they are, those of the others as they will
be (R71). -/
def State.onlineNow (s : State) : BitVec 8 :=
  (List.range 8).foldl (fun m d =>
    setBit m d (if s.halfOn d then s.pool.online.getLsbD d else s.pool.next.getLsbD d)) 0

/-! Identity, modes, links and keys. -/

/-- OD 0x0100 to 0x0120 (00 R5, 03 R92): the fuse decides OD 0x0110. -/
def State.viewIdent (s : State) (index sub : Nat) : Option OdVal :=
  let t := s.ident.fuse
  match index, sub with
  | 0x0100, 1 => vStr "Qoraris Semiconductor"
  | 0x0100, 2 => vStr "QY480"
  | 0x0100, 3 => vStr "A1"
  | 0x0100, 4 => vOct s.ident.serial
  | 0x0100, 5 => vNum s.dict.bootCount.toNat
  | 0x0100, 6 => vOct (fwRev s.nvme.idRev)
  | 0x0100, 7 => vNum Config.enterprise.toNat
  | 0x0110, 1 => vNum t.code
  | 0x0110, 2 => vNum (if t = .a then 0xF else 0x3)
  | 0x0110, 3 => vBool (decide (t = .a) || decide (t = .b))
  | 0x0110, 4 => vNum (if t = .a || t = .b then 2 else 1)
  | 0x0110, 5 => vNum (if t = .a then 64 else 1)
  | 0x0120, 1 => vNum 0x0100
  | 0x0120, 2 => vNum 32
  | 0x0120, 3 => vNum 1024
  | 0x0120, 4 => vNum 1456
  | 0x0120, 5 => vBool (s.gcmHw)
  | _, _ => none

/-- OD 0x0200 to 0x0210 (02 R63, 03 R92). -/
def State.viewModes (s : State) (index sub : Nat) : Option OdVal :=
  match index, sub with
  | 0x0200, 1 => vNum s.sys.mode.code
  | 0x0200, 3 => vNum s.sys.limitedCause.toNat
  | 0x0200, 6 => vNum (usOf s.sys.modeEntered)
  | 0x0200, 8 => vNum (match s.sys.shutState with
      | .none => 0
      | .inProgress => 1
      | .complete => 2)
  | 0x0201, k => vNum (usOf (nth s.sys.milestones (k - 1) 0))
  | 0x0210, 1 => vNum s.currentCopy.seq.toNat
  | 0x0210, 2 => vNum s.storeState
  | _, _ => none

/-- OD 0x0300 and 0x0400 (03 R93, R94). -/
def State.viewLinks (s : State) (index sub : Nat) : Option OdVal :=
  match index, sub with
  | 0x0300, 2 => vNum (s.ident.straps.toNat % 64)
  | 0x0300, 6 => vOct s.ident.mac
  | 0x0300, 7 => vNum s.dict.linkState.toNat
  | 0x0300, 8 => vNum s.dict.framesOk.toNat
  | 0x0300, 9 => vNum s.dict.framesDropped.toNat
  | 0x0300, 0x0A => vNum s.dict.i3cAddr.toNat
  | 0x0300, 0x0B => vNum s.dict.mctpEid.toNat
  | 0x0400, 4 => vNum s.dict.provisioned.toNat
  | 0x0400, 5 => vNum (Tab.getD s.dict.epochs 1 0)
  | 0x0400, 6 => vNum (Tab.getD s.dict.epochs 2 0)
  | 0x0400, 7 => vNum (Tab.getD s.dict.epochs 3 0)
  | 0x0400, 9 => vNum s.dict.silenced.length
  | _, _ => none

/-! Spindle and actuators. -/

/-- OD 0x2000 and 0x2040 (04 R130). -/
def State.viewSpindle (s : State) (index sub : Nat) : Option OdVal :=
  match index, sub with
  | 0x2000, 1 => vNum s.spn.state.code
  | 0x2000, 2 => vNum s.spn.speed.toNat
  | 0x2000, 3 => vNum s.spn.refSrc.toNat
  | 0x2000, 4 => vNum (fToNat 1 (fMul (fOfNat (nth s.spn.adc 7 0).toNat) s.p2010VScale))
  | 0x2040, 5 => vNum (s.spn.target.toNat / 16)
  | _, _ => none

/-- ISL_STATUS.LOAD_STATE (05 R148). -/
def LoadState.code : LoadState → Nat
  | .parked => 0
  | .loadPending => 1
  | .loading => 2
  | .acquiring => 3
  | .loaded => 4
  | .unloading => 5
  | .retracting => 6

/-- SVE_STATUS.STATE (06 R195). -/
def SveState.code : SveState → Nat
  | .stopped => 0
  | .running => 1
  | .hold => 2
  | .halted => 3

/-- The seconds an actuator's laser has run (09 R298). -/
def State.laserSeconds (s : State) (a : Fin 4) : Nat :=
  ((List.range 32).foldl (fun n h => n + (s.card a h).laserTicks) 0) / secTicks

/-- The objects of an actuator: OD 0x3000, 0x3020, 0x3400, 0x4000, 0x4800 + 0x100 a (05 R161, 06 R200,
07 R239, 09 R298). A mean over no sector is a free value. -/
def State.viewActuator (s : State) (a : Fin 4) (base sub : Nat) : Option OdVal :=
  let x := s.act a
  let mean (k n d : Nat) : Option OdVal :=
    if d = 0 then vNum (Config.meanOfNone k s.free).toNat
    else vNum (fDiv (fOfNat n) (fOfNat d)).toNat
  match base, sub with
  | 0x3400, 1 => vNum x.isl.load.code
  | 0x3400, 2 => vNum x.svd.pos.toNat
  | 0x3400, 3 => vNum x.svd.track.toNat
  | 0x3000, 1 => vNum x.sve.state.code
  | 0x3000, 2 => vNum (s.periodCycles a)
  | 0x3000, 3 => vNum x.sve.mand.toNat
  | 0x3000, 4 => vNum x.sve.minSlack.toNat
  | 0x3020, 1 => vNum x.svb.state.toNat
  | 0x4000, 3 => mean 0 x.rch.iterSum.toNat x.rch.sectors.toNat
  | 0x4000, 0x0A => mean 1 x.rch.mgnSum.toNat x.rch.sectors.toNat
  | 0x4800, 3 => vNum x.wp.cause.toNat
  | 0x4800, 0x0A => vNum x.psc.preampId.toNat
  | 0x4800, 0x0C => vNum (s.laserSeconds a)
  | _, _ => none

/-! Media. -/

/-- The 32 bytes of an entry of the Detention list (08 R263). -/
def Detention.bytes (d : Detention) : List Byte :=
  leBytes 1 d.act.val ++ leBytes 1 d.head.toNat ++ leBytes 1 d.zone.toNat ++ leBytes 1 (min 255 d.count)
    ++ leBytes 4 d.track.toNat ++ leBytes 2 d.sector ++ leBytes 1 d.lastStep ++ leBytes 1 d.flags.toNat
    ++ leBytes 4 d.firstPoh ++ leBytes 4 d.lastPoh ++ leBytes 8 d.lba ++ leBytes 2 d.nsid ++ [0, 0]

/-- A LOC of the maps (10 R308). -/
def Loc.word (l : Loc) : Nat := l.act.val * 2 ^ 29 + l.head.toNat * 2 ^ 24 + l.track.toNat

/-- The code of a band's state (10 R308). -/
def BandState.code : BandState → Nat
  | .unwritten => 0
  | .home => 1
  | .pooled => 2
  | .released => 3

/-- The 16 bytes of a band map entry (10 R308). -/
def BandEntry.bytes (b : BandEntry) (cached : Nat) : List Byte :=
  leBytes 4 (match b.loc with
      | some l => l.word
      | none => 0)
    ++ leBytes 2 (b.gen.toNat * 16 + b.state.code * 4 + b.temp.toNat)
    ++ leBytes 1 b.zone.toNat ++ leBytes 1 (b2n b.replan + 2 * b2n b.merging)
    ++ leBytes 4 (min cached 0xFFFFFFFF) ++ leBytes 4 (min b.writes 0xFFFFFFFF)

/-- The code of an extent's kind (10 R309). -/
def ExtKind.code : ExtKind → Nat
  | .cache => 0
  | .rehomed => 1
  | .deallocated => 2
  | .unreadable => 3

/-- The 32 bytes of an extent map entry (10 R309). -/
def Extent.bytes (e : Extent) : List Byte :=
  leBytes 6 e.gmu ++ leBytes 2 e.len ++ leBytes 4 e.loc.word ++ leBytes 2 e.sector
    ++ leBytes 1 e.zone.toNat ++ leBytes 1 e.kind.code ++ leBytes 8 e.gen ++ leBytes 1 e.temp.toNat
    ++ padTo 7 0 []

/-- The band map entry a cursor names: the logical bands, then the pooled ones (10 R308). -/
def State.bandEntry (s : State) (n : Nat) : Option BandEntry :=
  if n < s.plc.userBands then some (s.band n)
  else (s.plc.bands.filter fun b => decide (s.plc.userBands ≤ b.glb) && decide (b.state = .pooled))[n - s.plc.userBands]?

/-- HEAD_STATE of a head as a byte (10 R334). -/
def HeadState.byte (h : HeadState) : Nat := h.cls.toNat + 4 * b2n h.retired + 8 * b2n h.replan

/-- What Homework does (10 R335). -/
def State.hwState (s : State) : Nat :=
  if s.plc.jobs.any fun j => j.obligatory then 2 else if s.plc.jobs.isEmpty then 0 else 1

/-- OD 0x4400 to 0x47F0 (08 R242 to R264, 07 R237). -/
def State.viewRecovery (s : State) (index sub : Nat) : Option OdVal :=
  match index, sub with
  | 0x4400, 1 => vNum 0xF3B0A5C92
  | 0x4400, 2 => vNum 0x5A6C1E74B
  | 0x4400, 3 => vNum 0x6DB2E41F38
  | 0x4400, 8 => vNum 18632
  | 0x4420, 3 => vNum s.recov.detention.length
  | 0x4420, 4 => vNum 8192
  | 0x4420, 6 => (s.recov.detention[s.p4420Cursor]?).map fun d => .oct d.bytes
  | 0x47F0, 6 => vNum s.poweredHalves
  | _, _ => none

/-- OD 0x1400 to 0x1470 (10 R332 to R334). -/
def State.viewPlacement (s : State) (index sub : Nat) : Option OdVal :=
  match index, sub with
  | 0x1400, 1 => vNum s.plc.userBands
  | 0x1400, 2 => vNum s.plc.physSlots
  | 0x1400, 3 => vNum s.plc.spareInitial
  | 0x1400, 4 => vNum s.plc.spareLeft
  | 0x1400, 5 => vNum s.availableSpare
  | 0x1400, 7 => vNum 2
  | 0x1400, 8 => vNum s.cacheUnits
  | 0x1400, 9 => vNum s.cacheUsed
  | 0x1400, 0x0A => vNum s.plc.extents.length
  | 0x1410, 5 => vNum s.plc.durable
  | 0x1410, 6 => vNum s.plc.ckptSeq
  | 0x1410, 7 => vNum s.plc.copyState.toNat
  | 0x1410, 9 => vNum s.plc.restoreMs
  | 0x1410, 0x0A => vNum s.plc.restorePrimary.toNat
  | 0x1430, 0x10 => vNum s.hwState
  | 0x1450, 2 => (s.bandEntry s.p1450BandCursor).map fun b => .oct (b.bytes (s.cachedOf b))
  | 0x1460, 2 => (s.plc.extents[s.p1460ExtentCursor]?).map fun e => .oct e.bytes
  | 0x1470, k => vNum (s.head ⟨(k - 1) / 32 % 4, by omega⟩ ((k - 1) % 32)).byte
  | _, _ => none

/-- OD 0x1820 to 0x1850 (11 R361). -/
def State.viewTimetable (s : State) (index sub : Nat) : Option OdVal :=
  match index, sub with
  | 0x1830, 6 => vNum s.tt.util
  | 0x1850, 1 => vNum s.tt.fHeat
  | 0x1850, 2 => vNum s.tt.base12
  | 0x1850, 3 => vNum s.tt.aop12
  | 0x1850, 4 => vBool s.tt.recovery
  | 0x1850, 5 => vNum (s.lateDecay.tt.lateScore / 65536)
  | 0x1850, 8 => vNum (b2n s.tt.protDie + 2 * b2n s.tt.protDiode + 4 * b2n (!s.tt.protHeads.isEmpty))
  | _, _ => none

/-! Host, memory, cipher and DMA. -/

/-- A link's width and speed (12 R389); 0 when down. -/
def Port.link (p : Port) : Nat := if p.up then 256 * p.width + p.gts else 0

/-- The 32 bytes of a memory error log entry (13 R408). -/
def LogEntry.image (e : LogEntry) : List Byte :=
  leBytes 8 e.time.toNat ++ leBytes 6 e.addr.toNat ++ [e.channel, e.kind, e.initiator, e.bytes, e.mode, 0]
    ++ leBytes 4 e.seq.toNat ++ padTo 8 0 []

/-- The highest MR4 refresh-rate code over the channels (13 R416). -/
def State.mr4Max (s : State) : Nat :=
  let m (c : Fin 4) : Nat := (s.chan c).mr4.toNat
  max (max (m 0) (m 1)) (max (m 2) (m 3))

/-- OD 0x1000, 0x5000 to 0x5040 (12 R389, 13 R416). -/
def State.viewMemory (s : State) (index sub : Nat) : Option OdVal :=
  match index, sub with
  | 0x1000, 5 => vNum (if s.twoPorts then 2 else 1)
  | 0x1000, 6 => vNum (s.port 0).link
  | 0x1000, 7 => vNum (s.port 1).link
  | 0x5000, 1 => vNum (1024 * s.dramc.rawGiB)
  | 0x5000, 2 => vNum s.usableBytes
  | 0x5000, 3 => vNum s.ranks
  | 0x5000, 4 => vNum s.dramc.rate
  | 0x5000, 6 => vBool s.dramc.c3d5
  | 0x5010, 4 => vNum s.mr4Max
  | 0x5021, 1 => vNum s.dramc.log.length
  | 0x5021, 4 => (s.dramc.log[s.p5021LogCursor]?).map fun e => .oct e.image
  | 0x5040, 1 => vNum (Config.bufferPages s.usableBytes)
  | 0x5040, 4 => vNum s.dirtyPages
  | _, _ => none

/-- Whether a slot is bound to a locking range (14 R429, R435). -/
def State.slotBound (s : State) (n : Nat) : Bool :=
  (List.range 64).any fun k => s.odNat (odKey (0x5120 + k) 4) 0xFF == n

/-- The state of a key slot: while the engine is off, its stored blob's (14 R428). -/
def State.slotStateOf (s : State) (n : Nat) : SlotState :=
  if s.ciph.state = .ready || s.ciph.state = .halted then (s.slot n).state
  else if (Tab.get? s.currentCopy.blobs n).isSome then .loaded else (s.slot n).state

/-- OD 0x5110 of a slot (14 R435). -/
def State.slotByte (s : State) (n : Nat) : Nat :=
  (match s.slotStateOf n with
    | .empty => 0
    | .loaded => 1
    | .pending => 2) + 128 * b2n (s.slotBound n)

/-- The code of the engine's state (14 R435). -/
def CiphState.code : CiphState → Nat
  | .off => 0
  | .reloading => 1
  | .ready => 2
  | .halted => 3

/-- OD 0x5100 to 0x5170 (14 R435). -/
def State.viewCipher (s : State) (index sub : Nat) : Option OdVal :=
  match index, sub with
  | 0x5100, 1 => vNum 128
  | 0x5100, 2 => vNum 64
  | 0x5100, 3 => vNum ((List.range 128).countP fun n => decide (s.slotStateOf n = .loaded))
  | 0x5100, 4 => vNum s.ciph.state.code
  | 0x5100, 5 => vBool s.ciph.entropyOk
  | 0x5110, k => vNum (s.slotByte (k - 1))
  | 0x5160, 2 => vNum s.ciph.eraseState.toNat
  | _, _ => none

/-- DMA_STATUS.STATE (15 R453). -/
def DmaState.code : DmaState → Nat
  | .idle => 0
  | .fetch => 1
  | .ready => 2
  | .active => 3
  | .waiting => 4
  | .parked => 5
  | .error => 6
  | .aborting => 7

/-! Hall Monitor, Yearbook, Report Card, power and events. -/

/-- HM_SRC_STAT of a source (16 R475). -/
def State.srcStat (s : State) (n : Nat) : Nat :=
  let x := s.hmSrc n
  2 ^ 31 * b2n x.lasting + 2 ^ 30 * b2n x.irq + 2 ^ 29 * b2n x.pending + 2 ^ 16 * x.kind.toNat
    + x.wcount s.ticks

/-- HM_RESET_CAUSE [15:0] (16 R473). -/
def State.causeWord (s : State) : Nat := s.hm.causeSource.toNat * 256 + s.hm.causeKind.toNat * 16

/-- A history slot as it reads: zeros when empty (16 R467). -/
def State.histBytes (s : State) (k : Nat) : List Byte :=
  match Tab.get? s.hm.hist k with
  | some e => e.bytes
  | none => padTo 32 0 []

/-- OD 0x6000 to 0x6014 (16 R477). -/
def State.viewMonitor (s : State) (index sub : Nat) : Option OdVal :=
  match index, sub with
  | 0x6000, 5 => vNum (b2n s.errorOut + 2 * b2n s.hm.eoHold + 4 * b2n s.hm.eoTimer)
  | 0x6000, 7 => vOct (s.histBytes s.p6000HistCursor)
  | 0x6000, 0x0A => vNum (if s.hm.causeValid then s.causeWord else 0)
  | 0x6012, k => vNum (s.srcStat (k - 1))
  | _, _ => none

/-- The cursor a session reads the Yearbook at (17 R489). -/
def State.sessionCursor (s : State) (sid : SessionId) : Nat :=
  match s.yb.cursors.find? fun c => decide (c.1 = sid) with
  | some c => c.2
  | none => 0

/-- OD 0x6100 and 0x6101 as a session reads them (17 R489, R496). -/
def State.viewYearbook (s : State) (sid : SessionId) (index sub : Nat) : Option OdVal :=
  match index, sub with
  | 0x6100, 1 => vNum s.yb.firstSeq.toNat
  | 0x6100, 2 => vNum s.yb.nextSeq.toNat
  | 0x6100, 3 => vNum (s.sessionCursor sid)
  | 0x6100, 4 => (s.ybRec? (BitVec.ofNat 48 (s.sessionCursor sid))).map fun r => .oct r.bytes
  | 0x6100, 5 => vNum 64512
  | 0x6100, 6 => vNum s.ybDepth
  | 0x6100, 7 => vNum s.mirrorLag
  | 0x6101, 1 => vNum (s.wallNow).toNat
  | 0x6101, 2 => vBool s.yb.wallSet
  | 0x6101, 3 => vNum s.yb.wallSource.toNat
  | _, _ => none

/-- The card HEAD_CURSOR names (18 R517). -/
def State.cursorCard (s : State) : HeadCard :=
  let c := s.p6220HeadCursor
  s.card ⟨fld c 8 2 % 4, by omega⟩ (fld c 0 5)

/-- The baseline of the head HEAD_CURSOR names, in the layout of a head record (18 R517). -/
def State.baselineRecord (s : State) : Option (List Byte) :=
  let c := s.p6220HeadCursor
  s.cursorCard.baseline.map fun b => s.headRecord (⟨fld c 8 2 % 4, by omega⟩, fld c 0 5) b b

/-- OD 0x6200 to 0x6230 (18 R517). -/
def State.viewReport (s : State) (index sub : Nat) : Option OdVal :=
  match index, sub with
  | 0x6200, 3 => vNum s.rc.lastReplan
  | 0x6200, 7 => vNum s.rc.pctUsed.toNat
  | 0x6220, 2 => if s.cursorCard.record.isEmpty then none else vOct s.cursorCard.record
  | 0x6220, 3 => s.baselineRecord.map OdVal.oct
  | 0x6230, 1 => if s.rc.summary.isEmpty then none else vOct s.rc.summary
  | _, _ => none

/-- A bit per domain that meets a condition. -/
def domMask (p : Nat → Bool) : Nat := (List.range 32).foldl (fun m d => m + b2n (p d) * 2 ^ d) 0

/-- EVENT_STATE of an event (19 R530). -/
def State.eventState (s : State) (e : Nat) : Nat :=
  let en (c : Nat) : Nat := b2n ((Tab.getD s.evc.en c 0).getLsbD e) * 2 ^ (2 + c)
  (Tab.getD s.evc.qual e 0).toNat * 2 ^ 32 + b2n (!s.evPresent e) * 128
    + ((List.range 5).foldl (fun n c => n + en c) 0)
    + 2 * b2n (s.evc.ovr.getLsbD e) + b2n (s.evc.pend.getLsbD e)

/-- OD 0x6300 to 0x6400 (18 R518, 19 R530). -/
def State.viewPower (s : State) (index sub : Nat) : Option OdVal :=
  match index, sub with
  | 0x6300, 1 => vNum (domMask s.domOn)
  | 0x6300, 2 => vNum (domMask fun d => (s.dom d).suspended)
  | 0x6311, k => vNum (s.supply (k - 1)).mv
  | 0x6312, k => vNum (s.supply (k - 1)).offset
  | 0x6320, 3 => vOct ((List.range 8).flatMap fun i => leBytes 2 (i16Bits (nth s.pwr.temps i 200)))
  | 0x6320, 5 => vNum (i16Bits s.pwr.peakDie)
  | 0x6320, 6 => vNum s.pwr.sensorOk.toNat
  | 0x6400, 2 => vNum (s.eventState s.p6400EventCursor)
  | _, _ => none

/-- The registers an object shows that a register of another block holds although software may write
the object (16 R477, 19 R530, 04 R130). -/
def State.viewRw (s : State) (index sub : Nat) : Option OdVal :=
  match index, sub with
  | 0x6000, 1 => vBool s.hm.sevMode
  | 0x6000, 2 => vNum s.hm.histMin.toNat
  | 0x6000, 3 => vNum s.hm.eoWidth.toNat
  | 0x6000, 4 => vNum s.hm.core.toNat
  | 0x6010, k => vNum (s.hmSrc (k - 1)).cfg.toNat
  | 0x6011, k => vNum (s.hmSrc (k - 1)).win.toNat
  | 0x6400, 5 => vNum s.evc.gpioEdge.toNat
  | 0x2000, 8 => vBool s.spn.dtc
  | 0x1000, 4 => vOct (s.odBytes 0x100004 s.ident.serial)
  | 0x1000, 3 => vOct (s.odBytes 0x100003 (asciiBytes "QY480 drive"))
  | 0x47F0, 1 => vNum s.onlineNow.toNat
  | 0x2010, k => (Tab.get? s.spn.pendingParams k).map OdVal.num
  | 0x0300, 1 => vNum s.p0300NodeId
  | 0x0300, 3 => vNum s.p0300PlcaId
  | _, _ => none

/-- The view of an object, if it has one: an object the tables give no view holds a value of its
own. -/
def State.view (s : State) (sid : SessionId) (index sub : Nat) : Option OdVal :=
  if sub = 0 then none
  else
    (s.viewRw index sub).orElse fun _ =>
      if index < 0x0200 then s.viewIdent index sub
      else if index < 0x0300 then s.viewModes index sub
      else if index < 0x1000 then s.viewLinks index sub
      else if index < 0x1400 then s.viewMemory index sub
      else if index < 0x1800 then s.viewPlacement index sub
      else if index < 0x2000 then s.viewTimetable index sub
      else if index < 0x3000 then s.viewSpindle index sub
      else if index < 0x4400 then
        s.viewActuator (rangeAct index) (index - 0x100 * (rangeAct index).val) sub
      else if index < 0x4800 then s.viewRecovery index sub
      else if index < 0x5000 then
        s.viewActuator (rangeAct index) (index - 0x100 * (rangeAct index).val) sub
      else if index < 0x5100 then s.viewMemory index sub
      else if index < 0x5200 then s.viewCipher index sub
      else if index = 0x5200 then vNum (s.dmaCh ⟨(sub - 1) % 16, by omega⟩).state.code
      else if index < 0x6100 then s.viewMonitor index sub
      else if index < 0x6200 then s.viewYearbook sid index sub
      else if index < 0x6300 then s.viewReport index sub
      else s.viewPower index sub

end Sys2Proof.Machine
end

