-- ==== Sys2Proof/Machine/DictObjects.lean ====
section
/-! DEFINITION. The objects as the dictionary server knows them (03 R66 to R71, R78): which exist, what
a read answers, and the checks of a value before it is taken. -/

namespace Sys2Proof.Machine

open Sys2Proof

/-! Status codes (R78). -/

/-- The access status codes that items get. -/
abbrev AccStatus := BitVec 8

/-! Types (R67). -/

/-- The code of a type. -/
def OdTy.code : OdTy → Nat
  | .bool => 1
  | .u8 => 2
  | .u16 => 3
  | .u32 => 4
  | .u64 => 5
  | .i8 => 6
  | .i16 => 7
  | .i32 => 8
  | .i64 => 9
  | .f32 => 10
  | .time64 => 11
  | .string => 12
  | .octets => 13

/-- The name and size of each type, by code less one; 0xFFFF is a variable size. -/
def typeTable : List (String × Nat) :=
  [("BOOL", 1), ("U8", 1), ("U16", 2), ("U32", 4), ("U64", 8), ("I8", 1), ("I16", 2), ("I32", 4),
   ("I64", 8), ("F32", 4), ("TIME64", 8), ("STRING", 0xFFFF), ("OCTETS", 0xFFFF)]

/-- The size of a type, 0xFFFF where it varies. -/
def typeSize (ty : Nat) : Nat := (nth typeTable (ty - 1) ("", 0)).2

/-! Existence (R66, R70, R71, 00 R3). -/

/-- The index of the tier fuse in the factory range (00 R1). -/
def fuseIndex : Nat := 0xF000 + Config.tierFuse % 0x1000

/-- Whether an index is the tier fuse's. -/
def isFuse (i : Nat) : Bool := decide (0xF000 ≤ i) && i == fuseIndex

/-- What the server knows of an object: type code, access, least role, Saved, default, its row of the
object tables, and the guest object it is. -/
structure ObjInfo where
  ty : Nat
  acc : OdAcc
  role : Nat
  saved : Bool
  dflt : Option OdVal
  row : Option OdRow
  guest : Option GuestObjEntry
  deriving DecidableEq, Repr

/-- Whether an index is in use. -/
def State.indexKnown (s : State) (i : Nat) : Bool :=
  (decide (1 ≤ i) && decide (i ≤ 13)) || isFuse i || (odRows.any fun r => r.indexes.contains i)
    || s.dict.guestObjs.any fun g => g.obj.key.index.toNat == i

/-- The highest subindex in use at an index. -/
def State.highestSub (s : State) (i : Nat) : Nat :=
  if 1 ≤ i && i ≤ 13 then 2
  else if isFuse i then 1
  else
    let n := odRows.foldl (fun m r => if r.indexes.contains i then max m (r.sub + r.n - 1) else m) 0
    s.dict.guestObjs.foldl (fun m g =>
      if g.obj.key.index.toNat = i then max m g.obj.key.sub.toNat else m) n

/-- Whether an object belongs to a unit absent in this tier (00 R3): an actuator's, the cipher's, an
absent island's or the second port's. -/
def State.objAbsent (s : State) (i n : Nat) : Bool :=
  let act (k : Nat) : Bool := !s.present ⟨k % 4, by omega⟩
  if (0x3000 ≤ i && i < 0x4400) || (0x4800 ≤ i && i < 0x4C00) then !s.present (rangeAct i)
  else if 0x1480 ≤ i && i < 0x1484 then act (i - 0x1480)
  else if i = 0x1470 then decide (0 < n) && act ((n - 1) / 32)
  else if 0x5100 ≤ i && i < 0x5200 then !s.hasCipher
  else if 0x6311 ≤ i && i ≤ 0x6313 then decide (0 < n) && !s.islandPresent (n - 1)
  else ((i == 0x1000 && n == 7) || (i == 0x1010 && n == 2)) && !s.hasCipher

/-- A row as the server knows it. -/
def OdRow.info (r : OdRow) : ObjInfo :=
  { ty := r.ty.code, acc := r.acc, role := r.role, saved := r.saved, dflt := r.dflt.map OdVal.num
    row := some r, guest := none }

/-- A CONST object that every Visitor reads. -/
def constInfo (ty : Nat) (v : OdVal) : ObjInfo :=
  { ty := ty, acc := .const, role := 1, saved := false, dflt := some v, row := none, guest := none }

/-- The access mode a guest reports. -/
def guestAcc (a : BitVec 2) : OdAcc :=
  match a.toNat with
  | 0 => .ro
  | 1 => .rw
  | 2 => .wo
  | _ => .const

/-- A guest object as the server knows it. -/
def GuestObjEntry.info (g : GuestObjEntry) : ObjInfo :=
  { ty := g.obj.ty.toNat, acc := guestAcc g.obj.access, role := g.obj.role.toNat, saved := g.obj.saved
    dflt := g.obj.dflt, row := none, guest := some g }

/-- The default of an object whose Default column is not a number (R69, R92, R93, 12 R389, 16 R475). -/
def State.textDefault (s : State) (i n : Nat) : Option OdVal :=
  match i, n with
  | 0x0100, 1 => vStr "Qoraris Semiconductor"
  | 0x0100, 2 => vStr "QY480"
  | 0x0100, 3 => vStr "A1"
  | 0x0300, 1 => vNum (0x1000 + s.ident.straps.toNat % 64)
  | 0x0300, 3 => vNum (s.ident.straps.toNat % 64 + 1)
  | 0x1000, 3 => vStr "QY480 drive"
  | 0x1000, 4 => vOct s.ident.serial
  | 0x6010, k => vNum (defaultCfg (k - 1)).toNat
  | 0x6011, k => vNum (defaultWin (k - 1)).toNat
  | _, _ => none

/-- An object, or the status it answers with (R78): no such object, no such subindex, unit absent. -/
def State.objInfo (s : State) (k : ObjKey) : Except AccStatus ObjInfo :=
  let i := k.index.toNat
  let n := k.sub.toNat
  if !s.indexKnown i then .error 1
  else if n = 0 then
    if s.objAbsent i 0 then .error 8 else .ok (constInfo 2 (.num (s.highestSub i)))
  else if i ≤ 13 then
    let t := nth typeTable (i - 1) ("", 0)
    match n with
    | 1 => .ok (constInfo 3 (.num t.2))
    | 2 => .ok (constInfo 12 (.oct (asciiBytes t.1)))
    | _ => .error 2
  else if isFuse i then
    if n ≠ 1 then .error 2
    else .ok { ty := 2, acc := if s.ident.fuse = .unfused then .rw else .const, role := 3
               saved := false, dflt := none, row := none, guest := none }
  else
    match odRow? i n with
    | some r =>
      if s.objAbsent i n then .error 8
      else .ok { r.info with dflt := (r.info.dflt).orElse fun _ => s.textDefault i n }
    | none =>
      match s.dict.guestObjs.find? fun g => decide (g.obj.key = k) with
      | some g => .ok g.info
      | none => .error 2

/-! Reading (R68, R71). -/

/-- Whether an index holds live views of a domain that is off (R71): an actuator's, the DMA engine's or
the memory controller's, or the cipher engine's. -/
def State.viewOff (s : State) (i n : Nat) : Bool :=
  if (0x3000 ≤ i && i < 0x4400) || (0x4800 ≤ i && i < 0x4C00) then !s.domOn (20 + (rangeAct i).val)
  else if i = 0x5200 then !s.domOn 19
  else if i = 0x5021 || (i = 0x5010 && n = 4) then !s.domOn 14
  else if i = 0x5100 && n = 5 then !s.domOn 18
  else false

/-- The number of bytes of a numeric type. -/
def numBytes (ty : Nat) : Nat := odSize (BitVec.ofNat 8 ty) (.num 0)

/-- The value of an object that exists: its view, else the value it holds, else its default; a number
as the bits of its type. -/
def State.objValue (s : State) (sid : SessionId) (k : ObjKey) (x : ObjInfo) : Option OdVal :=
  match x.guest with
  | some g => some g.obj.value
  | none =>
    let i := k.index.toNat
    let n := k.sub.toNat
    let v : Option OdVal :=
      if i ≤ 13 || n = 0 then x.dflt
      else if isFuse i then vNum s.ident.fuse.code
      else
        match s.view sid i n with
        | some v => some v
        | none =>
          match x.row with
          | some r =>
            if r.ty = .octets || r.ty = .string then
              if r.acc = .ro then none else vOct (padTo r.size 0 (s.odBytes (odKey i n) []))
            else vNum (s.odNat (odKey i n) (r.dflt.getD 0))
          | none => none
    v.map fun v => match v with
      | .num m => .num (m % 2 ^ (8 * numBytes x.ty))
      | .oct b => .oct b

/-- What a read of an object answers: its value, or a status (R68, R71, R78). A guest answers or does
not (R71). -/
def State.readObj (s : State) (sid : SessionId) (answers : BitVec 4) (k : ObjKey) :
    Except AccStatus (ObjInfo × OdVal) :=
  match s.objInfo k with
  | .error e => .error e
  | .ok x =>
    let ro := decide (x.acc = .ro) || decide (x.acc = .const)
    if ro && decide (sid.role.toNat < x.role) then .error 3
    else if x.acc = .wo then .error 4
    else if x.guest.any fun g => !actIn answers g.act then .error 9
    else if decide (x.acc = .ro) && !x.saved && s.viewOff k.index.toNat k.sub.toNat then .error 7
    else
      match s.objValue sid k x with
      | some v => .ok (x, v)
      | none => .error 6

/-! Checking a value (R67, R68, R78). -/

/-- Whether bytes are UTF-8: `more` continuation bytes are still to come, the next one from `lo` to `hi`
(PRESUMED from RFC 3629, log 106). -/
def utf8 : List Byte → Nat → Nat → Nat → Bool
  | [], more, _, _ => more == 0
  | b :: r, more, lo, hi =>
    let n := b.toNat
    if more = 0 then
      if n < 0x80 then utf8 r 0 0 0
      else if 0xC2 ≤ n && n < 0xE0 then utf8 r 1 0x80 0xBF
      else if 0xE0 ≤ n && n < 0xF0 then
        utf8 r 2 (if n = 0xE0 then 0xA0 else 0x80) (if n = 0xED then 0x9F else 0xBF)
      else if 0xF0 ≤ n && n < 0xF5 then
        utf8 r 3 (if n = 0xF0 then 0x90 else 0x80) (if n = 0xF4 then 0x8F else 0xBF)
      else false
    else decide (lo ≤ n) && decide (n ≤ hi) && utf8 r (more - 1) 0x80 0xBF

/-- Whether a value is one of a type, of the right length (R67, R80). -/
def typeFits (x : ObjInfo) (w : WriteItem) : Bool :=
  let len := w.bytes.length
  decide (w.ty.toNat = x.ty)
    && (if x.ty = 12 then
        decide (len ≤ 255) && utf8 w.bytes 0 0 0 && (match x.row with
          | some r => decide (len ≤ r.size)
          | none => true)
      else if x.ty = 13 then
        decide (len ≤ 4096) && (match x.row with
          | some r => if r.idx = 0x6100 then decide (len ≤ 32) else decide (len = r.size)
          | none => true)
      else len == numBytes x.ty)

/-- A number as the type's signed or unsigned value. -/
def typedInt (ty : OdTy) (v : Nat) : Int :=
  match ty with
  | .i8 => (BitVec.ofNat 8 v).toInt
  | .i16 => (BitVec.ofNat 16 v).toInt
  | .i32 => (BitVec.ofNat 32 v).toInt
  | .i64 => (BitVec.ofNat 64 v).toInt
  | _ => v

/-- Whether a number lies within the bounds its row states: an F32 within bounds of its type, and
neither NaN nor infinite. -/
def OdRow.inBounds (r : OdRow) (v : Nat) : Bool :=
  if r.ty = .f32 then
    let x : F32 := BitVec.ofNat 32 v
    let f (i : Int) : F32 := BitVec.ofInt 32 i
    fFinite x && (match r.lo with
      | some l => fLe (f l) x
      | none => true) && (match r.hi with
      | some h => fLe x (f h)
      | none => true)
  else
    let x := typedInt r.ty v
    (match r.lo with
      | some l => decide (l ≤ x)
      | none => true) && (match r.hi with
      | some h => decide (x ≤ h)
      | none => true)

/-- A status where a condition holds. -/
def bad (c : Bool) (st : AccStatus) : Option AccStatus := if c then some st else none

/-- A power of two. -/
def isPow2 (n : Nat) : Bool := decide (n ≠ 0) && decide (n &&& (n - 1) = 0)

/-- Bounds of the spindle's objects that name another object (04 R130). `p` holds the value. -/
def rangeSpindle (p : State) (i n v : Nat) : Option AccStatus :=
  match i, n with
  | 0x0200, 5 => bad (decide (p.p2010RatedRpm < v)) 6
  | 0x2010, 1 => bad (decide (v % 2 ≠ 0)) 6
  | 0x2010, 0x0C => bad (decide (100 * v < 6 * p.p2010RatedRpm) || decide (1500 < v)) 6
  | 0x2010, 0x1C => bad (decide (v ≤ p.p2010OvWarn)) 6
  | 0x2010, 0x1D => bad (decide (p.p2010OvChopOn ≤ v)) 6
  | 0x2010, 0x1F => bad (decide (v ≤ p.p2010OvChopOn)) 6
  | 0x2040, 2 => bad (decide (p.p2010RatedRpm < v)) 6
  | _, _ => none

/-- Bounds of placement's and recovery's objects (08 R264, 10 R332 to R335). -/
def rangeMedia (p : State) (i n v : Nat) : Option AccStatus :=
  match i, n with
  | 0x4400, 9 => bad (decide (2047 < v) && decide (v ≠ 0xFFFF)) 6
  | 0x4420, 5 => bad (decide (p.recov.detention.length ≤ v)) 6
  | 0x1420, 1 => bad (!isPow2 v) 6
  | 0x1420, 6 => bad (decide (v ≤ p.p1420CacheLow)) 6
  | 0x1420, 7 => bad (decide (p.p1420CacheHigh < v + 5)) 6
  | 0x1430, 6 => bad (decide (v ≤ p.p1430WarmWrites)) 6
  | 0x1440, _ => bad (decide (2 < v) && decide (v ≠ 255)) 6
  | 0x1450, 1 => bad (p.bandEntry v).isNone 6
  | _, _ => none

/-- Bounds of the Timetable's objects (11 R361). -/
def rangeTimetable (p : State) (i n v : Nat) : Option AccStatus :=
  let x8 : Int := (BitVec.ofNat 8 v).toInt
  match i, n with
  | 0x1800, 3 => bad (decide (v < p.p1800I12Avg)) 6
  | 0x1800, 5 => bad (decide (v < p.p1800I5Avg)) 6
  | 0x1810, 2 => bad (decide (v < p.p1810DlUrgent)) 6
  | 0x1810, 3 => bad (decide (v < p.p1810DlHigh)) 6
  | 0x1810, 4 => bad (decide (v < p.p1810DlMedium)) 6
  | 0x1830, 1 => bad (decide (v ≤ p.p1830UtilDown)) 6
  | 0x1840, 1 => bad (decide (p.p1840DieLimit ≤ x8)) 6
  | 0x1840, 3 => bad (decide (p.p1840DiodeLimit ≤ x8)) 6
  | 0x1840, 5 => bad (decide (p.p1840HeadLimit ≤ x8)) 6
  | 0x1020, 5 => bad (decide (p.p1800I12Avg < v)) 6
  | _, _ => none

/-- Bounds of the memory's and the cipher's objects (13 R416, 14 R427, R435). -/
def rangeCipher (p : State) (i n v : Nat) : Option AccStatus :=
  if 0x5120 ≤ i && i < 0x5160 then
    let r := p.range (i - 0x5120)
    match n with
    | 1 => bad (decide (v ≠ 0) && (p.ns? v).isNone) 6
    | 3 => bad (match p.ns? r.nsid with
        | some x => decide (x.blocks < r.first + v)
        | none => decide (v ≠ 0)) 6
    | 4 => bad (decide (127 < v) && decide (v ≠ 255)) 6
    | _ => none
  else
    match i, n with
    | 0x5021, 3 => bad (decide (p.dramc.log.length ≤ v)) 6
    | 0x5040, 3 => bad (decide (p.p5040DirtyLimit < v + 10)) 6
    | 0x5160, 1 => bad (decide (v ≠ 0xFFFFFFFF) && (p.ns? v).isNone) 6
    | _, _ => none

/-- Bounds of the objects of the Hall Monitor, the Report Card and the power block (16 R464, R477, 18
R517, R518). -/
def rangeWatch (p : State) (i n v : Nat) : Option AccStatus :=
  match i, n with
  | 0x6010, k => bad (cfgStored (k - 1) (BitVec.ofNat 32 v)).2 6
  | 0x6014, 1 => bad (decide (159 < v)) 6
  | 0x6014, 2 =>
    if 159 < v % 256 || 15 < v / 256 then some 6 else bad (p.srcAbsent (v % 256)) 8
  | 0x6201, k =>
    bad (decide ((k - 1) % 3 ≠ 0)
      && fLe (BitVec.ofNat 32 v) (p.classThr ((k - 1) / 3) ((k - 1) % 3))) 6
  | 0x6220, 1 => bad (!p.present ⟨fld v 8 2 % 4, by omega⟩) 8
  | 0x6320, 1 => bad (decide ((BitVec.ofNat 16 v).toInt ≤ p.p1840DieLimit)) 6
  | 0x6320, 2 => bad (decide ((BitVec.ofNat 16 v).toInt < p.p6320HwWarn + 5)) 6
  | _, _ => none

/-- What a value breaks of the bounds its object's Meaning states (R67, R78); `p` is the state with the
value, and every other one that goes with it, in place. -/
def State.rangeStatus (p : State) (k : ObjKey) (x : ObjInfo) (val : OdVal) : Option AccStatus :=
  let i := k.index.toNat
  let n := k.sub.toNat
  match val with
  | .oct b =>
    if i = 0x0400 then bad (decide (b = List.replicate 32 0)) 6
    else if i = 0x5111 then
      bad (decide (b.take 32 = b.drop 32) || decide (b = List.replicate 64 0)) 6
    else none
  | .num v =>
    if isFuse i then bad (decide (v = 0) || decide (3 < v)) 6
    else
      match x.row with
      | none => bad (decide (x.ty = 1) && decide (1 < v)
          || decide (x.ty = 10) && !fFinite (BitVec.ofNat 32 v)) 6
      | some r =>
        let b := r.idx
        if (r.ty = .bool && decide (1 < v)) || !r.inBounds v then some 6
        else if b = 0x3010 then bad (!fLt 0 (BitVec.ofNat 32 v)) 6
        else
          (rangeSpindle p b n v).orElse fun _ => (rangeMedia p b n v).orElse fun _ =>
            (rangeTimetable p b n v).orElse fun _ => (rangeCipher p i n v).orElse fun _ =>
              rangeWatch p b n v

/-- The checks of an item before its state: existence, role, access, type and range (R74, R78). -/
def State.itemStatus (s p : State) (role : BitVec 2) (w : WriteItem) : Except AccStatus ObjInfo :=
  match s.objInfo w.key with
  | .error e => .error e
  | .ok x =>
    let rw := decide (x.acc = .rw) || decide (x.acc = .wo)
    if rw && decide (role.toNat < x.role) then .error 3
    else if !rw then .error 4
    else if !typeFits x w then .error 5
    else
      match p.rangeStatus w.key x w.val with
      | some e => .error e
      | none => .ok x

end Sys2Proof.Machine
end

