-- ==== Sys2Proof/Machine/DictServer.lean ====
section
/-! DEFINITION. The dictionary server (03 R72 to R87): the intake of a frame, sessions, what a write
does, its state conflicts and the answers. -/

namespace Sys2Proof

open Sys2Proof.Machine

/-! Senders (R84). -/

/-- The transport's number (R93, R95): 0 T1S, 1 I3C, 2 NVMe. -/
def Sender.transport : Sender → Nat
  | .t1s _ _ => 0
  | .i3c _ => 1
  | .nvme _ => 2

/-- The number events and records give a sender: its node ID, endpoint ID or controller. -/
def Sender.number : Sender → Nat
  | .t1s _ node => node.toNat
  | .i3c eid => eid.toNat
  | .nvme c => c.val

/-- The qualifier of events 312 and 313 (R95). -/
def Sender.qual (x : Sender) : Nat := x.number + 2 ^ 16 * x.transport

end Sys2Proof

namespace Sys2Proof.Machine

open Sys2Proof

/-- The key of a role for a sender (R85 to R87): 32 zero bytes for Visitors while VISITOR_OPEN, and for
a Principal on host port 0 until a Principal key is provisioned. -/
def State.keyFor (s : State) (x : Sender) (role : Nat) : Option (List Byte) :=
  if role = 3 && !s.dict.provisioned.getLsbD 2 && decide (x = .nvme 0) then
    some (List.replicate 32 0)
  else s.roleKey role

/-! Answers (R72, R79, R80, R83). -/

/-- A response to a frame, under the key of its role as it stands. -/
def State.resp (s : State) (f : Frame) (op : Nat) (status : AccStatus) (items : List RespItem)
    (extra : List Nat) : Resp :=
  { sender := f.sender, dst := f.srcNode, tagId := f.tagId, op := BitVec.ofNat 8 op ||| 0x80
    status := status, items := items, extra := extra, bytes := [], counter := 0, keyRole := f.role
    key := (s.keyFor f.sender f.role.toNat).getD []
    epoch := BitVec.ofNat 32 (Tab.getD s.dict.epochs f.role.toNat 0), src := 0, frame := [] }

/-- The held response is released: its guests did not answer, fault source 156 (R71). -/
def State.releaseHeld (s : State) : State :=
  match s.dict.held with
  | none => s
  | some h =>
    let s := foldS (fun (a : Fin 4) t => t.fault epResident 156 a.val) h.acts s
    (s.onDict fun d => { d with held := none }).reply h.resp

/-- A response is given, or held for the guests that have not answered. -/
def State.answer (acts : List (Fin 4)) (r : Resp) (s : State) : State :=
  if acts.isEmpty then s.reply r
  else s.onDict fun d => { d with held := some { since := s.now, acts := acts, resp := r } }

/-- One failure answer more this minute, if it may be sent (R83). The minutes follow one another from
chip time 0 (DESIGN CHOICE, log 105). -/
def State.failureAnswer (r : Resp) (s : State) : State :=
  let minute := s.ticks / (60 * secTicks)
  let s : State := if s.dict.failMinute.toNat = minute then s
    else s.onDict fun d => { d with failMinute := BitVec.ofNat 64 minute, failAnswers := 0 }
  if s.dict.failAnswers < 64 then
    (s.onDict fun d => { d with failAnswers := d.failAnswers + 1 }).reply r
  else s

/-- Whether a sender is silenced (R84). -/
def State.isSilenced (s : State) (x : Sender) : Bool := s.dict.silenced.any fun y => decide (y.sender = x)

/-- A status-0x0A failure counts toward silencing (R84): the eighth within 60 s silences the sender. -/
def State.failureSeen (x : Sender) (s : State) : State :=
  let old := match s.dict.fails.find? fun e => decide (e.sender = x) with
    | some e => e.times.filter fun t => decide (s.since t < 60 * secTicks)
    | none => []
  let rest := s.dict.fails.filter fun e => decide (e.sender ≠ x)
  if 7 ≤ old.length then
    ((s.onDict fun d => { d with
        fails := rest, silenced := d.silenced ++ [{ sender := x, since := s.now }] }).fault epResident
      152 x.transport).event epField 312 x.qual
  else s.onDict fun d => { d with fails := rest ++ [{ sender := x, times := old ++ [s.now] }] }

/-- A frame is refused or dropped. -/
def State.frameDropped (s : State) : State :=
  s.onDict fun d => { d with framesDropped := d.framesDropped + 1 }

/-- Whether a frame verifies under the key its role had less than 2 s ago (R85). -/
def State.inGrace (s : State) (f : Frame) : Bool :=
  s.dict.oldKeys.any fun k => decide (k.role = f.role) && (k.only.all fun x => decide (x = f.sender))
    && decide (s.since k.since < 2 * secTicks) && f.opens k.key

/-- Authentication failed (R83 to R85): answered under the Visitor key where there is one; a frame under
a key within its grace does not count toward silencing. -/
def State.authFailed (f : Frame) (s : State) : State :=
  let grace := s.inGrace f
  let s := (s.frameDropped).count 0x40000A 1
  let s := if grace then s else s.failureSeen f.sender
  match s.roleKey 1 with
  | some k => s.failureAnswer { s.resp f 0 0x0A [] [] with
      keyRole := 1, key := k, epoch := BitVec.ofNat 32 (Tab.getD s.dict.epochs 1 0) }
  | none => s

/-! Intake (R77, R79 to R84, R88 to R90). -/

/-- The last counter accepted from a session. -/
def State.lastCounter (s : State) (x : SessionId) : Option (BitVec 64) :=
  (s.dict.counters.find? fun c => decide (c.1 = x)).map fun c => c.2

/-- Whether a counter is new (R82). -/
def State.counterNew (s : State) (x : SessionId) (c : BitVec 64) : Bool :=
  decide (c.toNat / 2 ^ 32 = s.dict.bootCount.toNat)
    && decide (Tab.getD s.dict.floors x.role.toNat 0 < c.toNat)
    && (match s.lastCounter x with
      | some l => decide (l.toNat < c.toNat)
      | none => true)

/-- A counter is accepted: 64 sessions are kept, most recently used first, and the counter of one that
is evicted raises its role's floor (R82). -/
def State.keepCounter (x : SessionId) (c : BitVec 64) (s : State) : State :=
  let l := (x, c) :: s.dict.counters.filter fun e => decide (e.1 ≠ x)
  let out := l.drop 64
  s.onDict fun d => { d with
    counters := l.take 64
    floors := out.foldl (fun t e =>
      Tab.set t e.1.role.toNat (max (Tab.getD t e.1.role.toNat 0) e.2.toNat)) d.floors }

/-- The device's MAC address as a number, first byte most significant (R88, R93). -/
def State.macNat (s : State) : Nat := beNat s.ident.mac

/-- Whether a frame reaches the server: after core release, on an enabled transport that is powered; on
the backplane of EtherType 0x88B5 to the device's address or broadcast (R88), over MCTP of message type
0x7F with the enterprise number (R89), and over NVMe the oldest that a Buyth Send took in (R90). -/
def State.frameReaches (s : State) (f : Frame) : Bool :=
  s.sys.coreReleased && bitOf s.p0300Transports f.sender.transport && (match f.link with
    | .t1s _ dst ty _ =>
      s.domOn 30 && ty == 0x88B5 && (f.link.broadcast || decide (dst.toNat = s.macNat))
    | .i3c _ ty ent => s.domOn 30 && ty == 0x7F && ent == Config.enterprise
    | .nvme c => match s.dict.nvmeWaiting.find? fun w => decide (w.1 = c) with
      | some w => decide (w.2 = f.bytes)
      | none => false)

/-- A Buyth frame over NVMe leaves its controller's queue. -/
def State.unqueue (f : Frame) (s : State) : State :=
  match f.link with
  | .nvme c => s.onDict fun d => { d with
      nvmeWaiting := dropFirst (fun w => decide (w.1 = c)) d.nvmeWaiting }
  | _ => s

/-- Whether a frame is for this drive (R79, R88): untagged, a request of version 0x01, to its node ID, or
a broadcast one of a Visitor to node 0xFFFF. -/
def State.frameForUs (s : State) (f : Frame) : Bool :=
  decide (28 ≤ f.bytes.length) && f.version == 1 && !f.roleDir.getLsbD 7
    && (match f.link with
      | .t1s _ _ _ vlan => !vlan
      | _ => true)
    && (if f.link.broadcast then f.dstNode == 0xFFFF && f.role == 1
      else decide (f.dstNode = s.p0300NodeId))

/-- The request a frame carries: its tag verifies under the key of its sender and role, and its items do
not overrun its body (R80, R81). -/
def State.reqOf (s : State) (f : Frame) : Option Req :=
  match s.keyFor f.sender f.role.toNat with
  | some k => if f.opens k then bodyReq (f.body k) else none
  | none => none

/-- A request is accepted. -/
def State.acceptFrame (f : Frame) (s : State) : State :=
  let s := (s.releaseHeld).keepCounter f.session f.counter
  s.onDict fun d => { d with
    framesOk := d.framesOk + 1
    sessions := d.sessions.map fun x => if x.sid = f.session then { x with lastUse := s.now } else x }

/-- Whether a frame's tag verifies under the key of its sender and role (R81). -/
def State.tagGood (s : State) (f : Frame) : Bool :=
  (s.keyFor f.sender f.role.toNat).any fun k => f.opens k

/-- A verified request: dropped where it is a broadcast of another operation than IDENTIFY (R88), refused
as a replay (R82) or for the queue (R77), else taken up. -/
def State.takeReq (f : Frame) (r : Req) (s : State) : State × Option Req :=
  if f.link.broadcast && r.op != 0x0A then (s.frameDropped, none)
  else if !s.counterNew f.session f.counter then
    (((s.frameDropped).count 0x40000B 1).failureAnswer (s.resp f r.op 0x0B [] []), none)
  else if 16 ≤ f.queued then
    (((s.frameDropped).fault epResident 159 f.sender.transport).reply (s.resp f r.op 0x09 [] []), none)
  else (s.acceptFrame f, some r)

/-- The intake of a frame: the state after it, and the request if it is taken up. -/
def State.takeFrame (f : Frame) (s : State) : State × Option Req :=
  if !s.frameReaches f then (s, none)
  else
    let s := s.unqueue f
    if s.isSilenced f.sender then (s, none)
    else if !s.frameForUs f then (s.frameDropped, none)
    else
      let t := if (s.keyFor f.sender f.role.toNat).isSome then s.gcmRun (s.tagGood f) f.role.toNat else s
      match s.reqOf f with
      | none => (t.authFailed f, none)
      | some r => t.takeReq f r

/-- Whether a frame's body spells another operation than a row's: the frame is then that row's. -/
def State.otherOp (s : State) (own : Nat → Bool) (f : Frame) : Bool :=
  match s.reqOf f with
  | some r => !own r.op
  | none => false

/-- A request taken up is carried out. -/
def State.served (own : Nat → Bool) (f : Frame) (body : Req → State → State) (s : State) : State :=
  if s.otherOp own f then s
  else
    match s.takeFrame f with
    | (t, some r) => body r t
    | (t, none) => t

/-! What a write does. -/

/-- The tier a code names (00 R5). -/
def tierOf (v : Nat) : Tier := if v = 1 then .a else if v = 2 then .b else if v = 3 then .c else .unfused

/-- OD 0x47F0.01 written (07 R227): a bit set returns a decoder to service, event 241; a bit cleared
takes it offline, event 240. A decoder whose half is off takes its bit once the half is ready (R71). -/
def State.setOnline (v : Nat) (s : State) : State :=
  foldS (fun d t =>
    if !t.halfOn d then t.onPool fun p => { p with next := setBit p.next d (bitOf v d) }
    else if bitOf v d = t.pool.online.getLsbD d then t
    else if bitOf v d then
      (t.onPool fun p => { p with online := setBit p.online d true
                                  offAfter := setBit p.offAfter d false }).event (epDecoder d) 241 d
    else t.decoderOff d) (List.range 8) s

/-- A role key is changed (R85): its epoch rises, event 317, the staged sets of its sessions are
discarded and the old key stays known for the grace. -/
def State.setRoleKey (role : Nat) (key : List Byte) (s : State) : State :=
  let entry (k : List Byte) (only : Option Sender) : OldKey :=
    { role := BitVec.ofNat 2 role, key := k, only := only, since := s.now }
  let old : List OldKey := match Tab.get? s.dict.keys role with
    | some k => [entry k none]
    | none =>
      if role = 3 && !s.dict.provisioned.getLsbD 2 then
        [entry (List.replicate 32 0) (some (.nvme 0))]
      else []
  let e := Tab.getD s.dict.epochs role 0 + 1
  (s.onDict fun d => { d with
      keys := Tab.set d.keys role key
      epochs := Tab.set d.epochs role e
      provisioned := setBit d.provisioned (role - 1) true
      sessions := d.sessions.filter fun x => decide (x.sid.role.toNat ≠ role)
      oldKeys := d.oldKeys ++ old }).event epField 317 (role + 256 * (e % 2 ^ 24))

/-- The media key slots are to change: PD18 switches on for it (14 R430, 18 R498). -/
def State.slotWrite (key : Option (Option (List Byte))) (s : State) : State :=
  let n := s.odNat 0x511101 0
  let s := s.switchOn 18
  match key with
  | some k => s.slotChange n k
  | none => s.slotGenerate n

/-- A numeric object is written: what its Meaning says the write does, else the value is held. -/
def State.writeNum (sid : SessionId) (i n v : Nat) (s : State) : State :=
  if isFuse i then s.onIdent fun x => { x with fuse := tierOf v }
  else if 0x5120 ≤ i && i < 0x5160 then (s.odSet (odKey i n) v).event epCipher 84 (i - 0x5120)
  else if 0x3400 ≤ i && i < 0x3800 && i % 0x100 = 0 && n = 4 then
    s.odSet (odKey i n) (max 20 (min 2000 v))
  else
    match i, n with
    | 0x0200, 2 => ((s.odSet (odKey i n) v).onSys fun y => { y with shutHold := false }).modePump
    | 0x0203, 1 => s.requestShutdown .normal
    | 0x0203, 2 => s.requestChipReset 0
    | 0x2010, k =>
      if s.spnIsOff || k = 1 || k = 2 then s.spnParamNow k v
      else s.onSpn fun p => { p with pendingParams := Tab.set p.pendingParams k v }
    | 0x47F0, 1 => s.setOnline v
    | 0x5021, 5 => s.onDramc fun d => { d with log := [] }
    | 0x5111, 3 => s.slotWrite none
    | 0x5111, 4 => s.slotWrite (some none)
    | 0x5160, 1 => s.askErase v none false
    | 0x6000, 8 => s.histClear
    | 0x6000, 9 => s.eoClearHold
    | 0x6010, k => s.onHmSrc (k - 1) fun x => { x with cfg := (cfgStored (k - 1) (BitVec.ofNat 32 v)).1 }
    | 0x6011, k => s.onHmSrc (k - 1) (HmSrc.setWin (BitVec.ofNat 32 v))
    | 0x6014, 1 => s.clearLasting v
    | 0x6014, 2 =>
      let r : Report := { src := epMonitor, source := v % 256, kind := BitVec.ofNat 4 (v / 256)
                          addr := 0, stamp := s.now, injected := true };
      s.doIf (!srcNever r.source) fun t => t.intake [r]
    | 0x6100, 3 => s.onYb fun y => { y with
        cursors := (sid, v) :: y.cursors.filter fun c => decide (c.1 ≠ sid) }
    | 0x6100, 9 => s.ybClear sid.role.toNat sid.sender.number
    | 0x6101, 1 => s.setWall (BitVec.ofNat 64 v) 2
    | 0x6300, 3 =>
      let s := s.odSet (odKey i n) v
      if v = 1 then s.switchOn 31 else s.switchOff 31
    | _, _ => s.hallLoad (odKey i n) v

/-- A string object is written. -/
def State.writeOct (i n : Nat) (b : List Byte) (s : State) : State :=
  if i = 0x0400 then s.setRoleKey n b
  else if i = 0x5111 then s.slotWrite (some (some b))
  else if i = 0x6100 then s.ybAppend 0x00FE b
  else s.odSetBytes (odKey i n) b

/-- A checked write is applied; a guest object's reaches its guest (R71). -/
def State.writeObj (sid : SessionId) (x : ObjInfo) (w : WriteItem) (s : State) : State :=
  match x.guest with
  | some _ => s.onDict fun d => { d with
      guestObjs := d.guestObjs.map fun g =>
        if g.obj.key = w.key then { g with obj := { g.obj with value := w.val } } else g }
  | none =>
    match w.val with
    | .num v => s.writeNum sid w.key.index.toNat w.key.sub.toNat v
    | .oct b => s.writeOct w.key.index.toNat w.key.sub.toNat b

/-! State conflicts (R71, R74, R78). -/

/-- Whether an object may be written only while its block is at rest (04 R104, R129, 05 R161). -/
def guardedObj (k : ObjKey) : Bool :=
  let i := k.index.toNat
  let n := k.sub.toNat
  (i == 0x2000 && n == 8) || (i == 0x2010 && [0x01, 0x02, 0x28, 0x29, 0x2A].contains n)
    || (0x3400 ≤ i && i < 0x3800 && i % 0x100 == 0 && n == 0x18)

/-- Whether any logical block of a locking range is mapped (14 R429). -/
def State.rangeMapped (s : State) (r : LockRange) : Bool :=
  match s.ns? r.nsid with
  | some x => (nsUnits x r.first r.count).any fun g => match s.resolveMedia g with
    | .zeros => false
    | _ => true
  | none => false

/-- Whether two enabled ranges overlap or bind one slot (14 R429). -/
def State.rangesClash (p : State) : Bool :=
  (List.range 64).any fun a => (List.range a).any fun b =>
    let x := p.range a
    let y := p.range b
    x.enable && y.enable && ((x.slot == y.slot && x.slot != 0xFF)
      || (x.nsid == y.nsid && decide (x.first < y.first + y.count)
        && decide (y.first < x.first + x.count)))

/-- Whether a key may not be loaded into the selected slot (14 R426, R427, R429); `p` has the other
values of the commit in place. -/
def State.slotRefused (s p : State) (generated : Bool) : Bool :=
  let n := p.odNat 0x511101 0
  let bound := (List.range 64).filter fun r => (p.range r).enable && (p.range r).slot == n
  let empties := (List.range 128).countP fun k => decide (k ≠ n) && decide (s.slotStateOf k = .empty)
  let enabled := (List.range 64).countP fun r => (p.range r).enable
  (generated && !s.ciph.entropyOk) || (bound.any fun r => s.rangeMapped (p.range r))
    || (bound.isEmpty && decide (empties < enabled))

/-- Whether a write conflicts with the present state (status 0x07): `p` is the state with every value
that goes with it in place. -/
def State.stateBad (s p : State) (w : WriteItem) : Bool :=
  let i := w.key.index.toNat
  let n := w.key.sub.toNat
  let num := match w.val with
    | .num v => v
    | .oct _ => 0
  if i = 0x0200 && n = 2 then decide (s.sys.mode = .limited)
  else if i = 0x2000 && n = 8 then decide (num ≠ b2n s.spn.dtc) && !s.spnIsOff
  else if i = 0x2010 then guardedObj w.key && !s.spnIsOff
  else if guardedObj w.key then decide ((s.act (rangeAct i)).isl.load ≠ .parked)
  else if i = 0x1400 && n = 0x0C then s.plc.placed
  else if 0x1480 ≤ i && i < 0x1484 then
    let a : Fin 4 := ⟨(i - 0x1480) % 4, by omega⟩
    s.plc.placed && !(decide ((s.zone a (n - 1)).use = 0) && decide ((p.zone a (n - 1)).use = 4))
  else if i = 0x5111 && decide (1 < n) then
    !s.sys.mode.active || (n != 4 && s.slotRefused p (n == 3))
  else if 0x5120 ≤ i && i < 0x5160 then p.rangesClash
  else false

/-- Whether an object changes only through a staged commit (R85, 14 R435). -/
def commitOnly (k : ObjKey) : Bool :=
  let i := k.index.toNat
  let n := k.sub.toNat
  (i == 0x0400 && 1 ≤ n && n ≤ 3) || (0x5111 ≤ i && i < 0x5200)

/-- The values of items put in place, without what their writes do. -/
def State.probe (items : List WriteItem) (s : State) : State :=
  foldS (fun (w : WriteItem) t => match w.val with
    | .num v => t.odSet (odKey w.key.index.toNat w.key.sub.toNat) v
    | .oct b => t.odSetBytes (odKey w.key.index.toNat w.key.sub.toNat) b) items s

/-- The guest of an object that does not answer. -/
def silentGuest (answers : BitVec 4) (x : ObjInfo) : Option (Fin 4) :=
  match x.guest with
  | some g => if actIn answers g.act then none else some g.act
  | none => none

/-! Sessions (R74). -/

/-- The staged set of a session. -/
def State.stagedOf (s : State) (sid : SessionId) : List WriteItem :=
  match s.dict.sessions.find? fun x => decide (x.sid = sid) with
  | some x => x.staged
  | none => []

/-- The staged set of a session replaced; an empty one is forgotten. -/
def State.setStaged (sid : SessionId) (l : List WriteItem) (s : State) : State :=
  let rest := s.dict.sessions.filter fun x => decide (x.sid ≠ sid)
  s.onDict fun d => { d with
    sessions := if l.isEmpty then rest else rest ++ [{ sid := sid, staged := l, lastUse := s.now }] }

/-- The value bytes of a staged set. -/
def stagedBytes (l : List WriteItem) : Nat := l.foldl (fun n w => n + w.bytes.length) 0

/-- A staged set with an item added, or with its value replaced. -/
def stagePut (w : WriteItem) (l : List WriteItem) : List WriteItem :=
  if l.any fun x => decide (x.key = w.key) then l.map fun x => if x.key = w.key then w else x
  else l ++ [w]

/-- An item inserted in the order of its index and subindex. -/
def itemInsert (w : WriteItem) : List WriteItem → List WriteItem
  | [] => [w]
  | x :: r =>
    if odKey w.key.index.toNat w.key.sub.toNat < odKey x.key.index.toNat x.key.sub.toNat then w :: x :: r
    else x :: itemInsert w r

/-- Items in ascending index and subindex order. -/
def itemSort (l : List WriteItem) : List WriteItem := l.foldl (fun m w => itemInsert w m) []

/-- The length a response body may still take (R80). -/
def bodyRoom (items : List RespItem) : Nat := 1452 - items.foldl (fun n i => n + i.size) 0

end Sys2Proof.Machine
end

