-- ==== Sys2Proof/Machine/DictRows.lean ====
section
/-! DEFINITION. The commands of the object dictionary, its transports and the persistent store (03 R71
to R96). -/

namespace Sys2Proof.Machine

open Sys2Proof

/-! READ, DESCRIBE, READ_LONG (R72). -/

/-- A response item. -/
def itemResp (k : ObjKey) (st : AccStatus) : RespItem := { key := k, status := st, ty := 0, val := none }

/-- The answer to each item of a READ, sampled one after another, until the body is full; and the guests
that have not answered. -/
def State.readItems (sid : SessionId) (answers : BitVec 4) :
    List ObjKey → List RespItem → List (Fin 4) → State → State × List RespItem × List (Fin 4)
  | [], done, acts, s => (s, done, acts)
  | k :: r, done, acts, s =>
    let item : RespItem := match s.readObj sid answers k with
      | .ok (x, v) => { key := k, status := 0, ty := BitVec.ofNat 8 x.ty, val := some v }
      | .error e => itemResp k e
    if bodyRoom done < item.size then (s, done, acts)
    else
      let acts := match s.objInfo k with
        | .ok x => match silentGuest answers x with
          | some a => if item.status = 9 && !acts.contains a then acts ++ [a] else acts
          | none => acts
        | .error _ => acts
      State.readItems sid answers r (done ++ [item]) acts s.takeFree

/-- DICT_READ (R72): up to 64 items. -/
def execDictRead (w : Wire) (here : Arrival) (s : State) : Eff :=
  let f := Frame.of w here
  .next (s.served (· == 1) f fun r t =>
    let x := t.readItems f.session f.guests (r.keys.take 64) [] []
    x.1.answer x.2.2 (t.resp f 1 0 x.2.1 []))

/-- What DESCRIBE says of one item: type, default, and in one number the access mode (0 RO, 1 RW, 2 WO,
3 CONST), from bit 8 the role and in bit 16 Saved (DESIGN CHOICE, log 105). -/
def State.describe (s : State) (k : ObjKey) : RespItem × Nat :=
  match s.objInfo k with
  | .error e => (itemResp k e, 0)
  | .ok x =>
    let acc : Nat := match x.acc with
      | .ro => 0
      | .rw => 1
      | .wo => 2
      | .const => 3
    ({ key := k, status := 0, ty := BitVec.ofNat 8 x.ty, val := x.dflt },
      acc + 256 * x.role + 65536 * b2n x.saved)

/-- The answers to the items of a DESCRIBE, until the body is full (R72, R80). -/
def State.describeAll (s : State) : List ObjKey → List (RespItem × Nat) → List (RespItem × Nat)
  | [], done => done
  | k :: r, done =>
    let x := s.describe k
    if 1452 < (done.foldl (fun n y => n + y.1.size + 4) 0) + x.1.size + 4 then done
    else State.describeAll s r (done ++ [x])

/-- DESCRIBE (R72). -/
def execDescribe (w : Wire) (here : Arrival) (s : State) : Eff :=
  let f := Frame.of w here
  .next (s.served (· == 9) f fun r t =>
    let l := t.describeAll (r.keys.take 64) []
    t.reply (t.resp f 9 0 (l.map fun x => x.1) (l.map fun x => x.2)))

/-- What READ_LONG asks for (log 105): the object its item names, and from the item's value the offset and
the length, two bytes each. -/
def Req.span (r : Req) : Option (ObjKey × Nat × Nat) :=
  match r.items with
  | w :: _ => if w.bytes.length = 4 then some (w.key, leField w.bytes 0 2, leField w.bytes 2 2) else none
  | [] => none

/-- READ_LONG (R72): up to 1,024 bytes of a STRING or OCTETS value from an offset. -/
def execReadLong (link : Link) (bytes : List Byte) (queued : Nat) (guests : BitVec 4) (s : State) : Eff :=
  let f : Frame := { link := link, bytes := bytes, queued := queued, guests := guests }
  .next (s.served (· == 0x0B) f fun r t =>
    match r.span with
    | none => t.reply (t.resp f 0x0B 5 [] [])
    | some (key, offset, length) =>
      match t.readObj f.session f.guests key with
      | .error e =>
        let acts := match t.objInfo key with
          | .ok x => if e = 9 then (silentGuest f.guests x).toList else []
          | .error _ => []
        t.answer acts (t.resp f 0x0B e [] [])
      | .ok (_, .num _) => t.reply (t.resp f 0x0B 5 [] [])
      | .ok (_, .oct b) =>
        if 1024 < length then t.reply (t.resp f 0x0B 6 [] [])
        else t.reply { t.resp f 0x0B 0 [] [] with bytes := (b.drop offset).take length })

/-! ENUMERATE, IDENTIFY (R72). -/

/-- A number inserted in a rising list without repeats. -/
def natInsert (n : Nat) : List Nat → List Nat
  | [] => [n]
  | x :: r => if n < x then n :: x :: r else if n = x then x :: r else x :: natInsert n r

/-- The indexes in use, in rising order. -/
def State.indexes (s : State) : List Nat :=
  let l := (List.range 14).tail ++ [fuseIndex] ++ (odRows.flatMap OdRow.indexes)
    ++ s.dict.guestObjs.map fun g => g.obj.key.index.toNat
  l.foldl (fun m n => natInsert n m) []

/-- What ENUMERATE answers for an index: the index, the highest subindex and the flags, 4 bytes. -/
def State.enumEntry (s : State) (i : Nat) : Nat :=
  let guest := s.dict.guestObjs.any fun g => g.obj.key.index.toNat == i
  i + 2 ^ 16 * s.highestSub i + 2 ^ 24 * (b2n (s.objAbsent i 0) + 2 * b2n guest)

/-- What ENUMERATE asks for (log 105): the index of its item, and the item's value as the maximum
count. -/
def Req.listing (r : Req) : Nat × Nat :=
  match r.items with
  | w :: _ => (w.key.index.toNat, leNat w.bytes)
  | [] => (0, 0)

/-- ENUMERATE (R72). -/
def execEnumerate (w : Wire) (queued : Nat) (guests : BitVec 4) (s : State) : Eff :=
  let f := Frame.of w { queued := queued, guests := guests }
  .next (s.served (· == 8) f fun r t =>
    let count := r.listing.2
    if count = 0 || 200 < count then t.reply (t.resp f 8 6 [] [])
    else
      let l := (t.indexes.filter fun i => decide (r.listing.1 ≤ i)).take count
      t.reply (t.resp f 8 0 [] (l.map t.enumEntry)))

/-- What IDENTIFY answers: the node ID and the identity objects. -/
def State.identityItems (s : State) (sid : SessionId) : List RespItem :=
  let item (i n : Nat) : RespItem :=
    let k : ObjKey := { index := BitVec.ofNat 16 i, sub := BitVec.ofNat 8 n }
    match s.readObj sid 0 k with
    | .ok (x, v) => { key := k, status := 0, ty := BitVec.ofNat 8 x.ty, val := some v }
    | .error e => itemResp k e
  [item 0x0100 1, item 0x0100 2, item 0x0100 3, item 0x0100 4, item 0x0100 5, item 0x0110 1]

/-- DICT_IDENTIFY (R72, R88): the answer to a broadcast waits for its delay. -/
def execDictIdentify (f : Frame) (s : State) : Eff :=
  .next (s.served (· == 0x0A) f fun _ t =>
    let r := t.resp f 0x0A 0 (t.identityItems f.session) [t.p0300NodeId]
    if f.link.broadcast then
      t.onDict fun d => { d with broadcasts := d.broadcasts ++ [(t.now, r)] }
    else t.reply r)

/-- BROADCAST_REPLY_DELAY (R88): the oldest delayed answer is sent (node ID mod 64) ms after its
request. -/
def execBroadcastReplyDelay (s : State) : Eff :=
  .next (
    match s.dict.broadcasts with
    | [] => s
    | (at_, r) :: l =>
      if s.since at_ < s.p0300NodeId % 64 * msTicks then s
      else (s.onDict fun d => { d with broadcasts := l }).reply r)

/-- UNKNOWN_DICT_OP (R72): status 0x01 for the whole request. -/
def execUnknownDictOp (w : Wire) (here : Arrival) (s : State) : Eff :=
  let f := Frame.of w here
  .next (s.served (fun op => op == 0 || decide (0x0B < op)) f fun r t =>
    t.reply (t.resp f r.op 1 [] []))

/-! WRITE (R72, R73). -/

/-- One item of a WRITE: its status, applied when that is 0x00. -/
def State.writeItem (sid : SessionId) (answers : BitVec 4) (w : WriteItem) (s : State) :
    State × AccStatus × Option (Fin 4) :=
  let p := s.probe [w]
  match s.itemStatus p sid.role w with
  | .error e => (s, e, none)
  | .ok x =>
    match silentGuest answers x with
    | some a => (s, 9, some a)
    | none =>
      if commitOnly w.key || s.stateBad p w then (s, 7, none) else (s.writeObj sid x w, 0, none)

/-- The items of a WRITE, each on its own. -/
def State.writeItems (sid : SessionId) (answers : BitVec 4) :
    List WriteItem → List RespItem → List (Fin 4) → State → State × List RespItem × List (Fin 4)
  | [], done, acts, s => (s, done, acts)
  | w :: r, done, acts, s =>
    let x := s.writeItem sid answers w
    let acts := match x.2.2 with
      | some a => if acts.contains a then acts else acts ++ [a]
      | none => acts
    State.writeItems sid answers r (done ++ [itemResp w.key x.2.1]) acts x.1

/-- DICT_WRITE (R72). -/
def execDictWrite (w : Wire) (here : Arrival) (s : State) : Eff :=
  let f := Frame.of w here
  .next (s.served (· == 2) f fun r t =>
    let x := t.writeItems f.session f.guests (r.items.take 64) [] []
    x.1.answer x.2.2 (t.resp f 2 0 x.2.1 []))

/-! STAGE, COMMIT, DISCARD (R74). -/

/-- One item of a STAGE: its status, added when that is 0x00. -/
def State.stageItem (sid : SessionId) (w : WriteItem) (s : State) : State × AccStatus :=
  let l := stagePut w (s.stagedOf sid)
  match s.itemStatus (s.probe l) sid.role w with
  | .error e => (s, e)
  | .ok _ =>
    if 32 < l.length || 1024 < stagedBytes l then (s, 0x0C) else (s.setStaged sid l, 0)

/-- The items of a STAGE. -/
def State.stageItems (sid : SessionId) : List WriteItem → List RespItem → State → State × List RespItem
  | [], done, s => (s, done)
  | w :: r, done, s =>
    let x := s.stageItem sid w
    State.stageItems sid r (done ++ [itemResp w.key x.2]) x.1

/-- STAGE (R74). -/
def execStage (w : Wire) (here : Arrival) (s : State) : Eff :=
  let f := Frame.of w here
  .next (s.served (· == 3) f fun r t =>
    let x := t.stageItems f.session (r.items.take 64) []
    x.1.reply (t.resp f 3 0 x.2 []))

/-- The status of one staged item at a COMMIT, the others in place in `p`. -/
def State.commitStatus (s p : State) (sid : SessionId) (answers : BitVec 4) (w : WriteItem) :
    AccStatus :=
  match s.itemStatus p sid.role w with
  | .error e => e
  | .ok x => if (silentGuest answers x).isSome then 9 else if s.stateBad p w then 7 else 0

/-- The first failing item of a staged set: its position and status. -/
def State.firstFailing (s p : State) (sid : SessionId) (answers : BitVec 4) :
    List WriteItem → Nat → Option (Nat × AccStatus)
  | [], _ => none
  | w :: r, n =>
    let st := s.commitStatus p sid answers w
    if st = 0 then State.firstFailing s p sid answers r (n + 1) else some (n, st)

/-- Items written in order. -/
def State.writeAll (sid : SessionId) (l : List WriteItem) (s : State) : State :=
  foldS (fun w (t : State) => match t.objInfo w.key with
    | .ok x => t.writeObj sid x w
    | .error _ => t) l s

/-- The items a forced state change leaves at their committed value (R74): those of the refusing field's
block that were applied before it and whose field refuses to be written back. -/
def keptItems (k : ObjKey) (l : List WriteItem) : List WriteItem :=
  l.filter fun w => guardedObj w.key
    && decide (w.key.index.toNat / 0x100 = k.index.toNat / 0x100)
    && decide (odKey w.key.index.toNat w.key.sub.toNat < odKey k.index.toNat k.sub.toNat)

/-- Whether an item changes a role key. -/
def isRoleKey (w : WriteItem) : Bool := decide (w.key.index = 0x0400) && decide (w.key.sub.toNat ≤ 3)

/-- Whether an item changes a key slot (14 R430). -/
def isSlotChange (w : WriteItem) : Bool := decide (w.key.index = 0x5111) && decide (1 < w.key.sub.toNat)

/-- Whether an item erases a key slot (14 R434). -/
def isSlotErase (w : WriteItem) : Bool := decide (w.key.index = 0x5111) && decide (w.key.sub = 4)

/-- A COMMIT that passed: all items are applied and the set is emptied, event 314. One with key objects
answers once they are saved (R85), one with slot changes once those have taken effect and been saved
(14 R430, R434); a slot change of an earlier commit is finished first. Saving a role key is a whole SAVE
(DESIGN CHOICE, log 105), and the answer goes under the key as it was before. -/
def State.commitAll (f : Frame) (l : List WriteItem) (s : State) : State :=
  let sid := f.session
  let keys := l.filter isRoleKey
  let slots := l.any isSlotChange
  let r := s.resp f 4 0 [] []
  let s : State := if slots then
      (foldS (fun (e : Nat × KeySlot) t => t.slotTakes e.1) s.ciph.slots s).slotSaves
    else s
  let s := (s.writeAll sid (itemSort l)).setStaged sid []
  let s := s.event epField 314 (l.length % 256 + 256 * sid.role.toNat)
  if slots then
    (s.onDict fun d => { d with
      slotAnswer := some { answer := some r, cmd := none, more := b2n (l.any isSlotErase) } }).slotSaves
  else if keys.isEmpty then s.reply r
  else
    let w : SaveWant := { answer := some r, cmd := none, more := 0 }
    if s.dict.saving.isSome then s.wantSave w else s.startSave f.guests w

/-- The guests of some items that do not answer. -/
def State.silentIn (s : State) (answers : BitVec 4) (l : List (Option WriteItem)) : List (Fin 4) :=
  (l.filterMap fun w => w.bind fun w => match s.objInfo w.key with
    | .ok x => silentGuest answers x
    | .error _ => none).eraseDups

/-- COMMIT (R74, R85): `forced` is the field that refuses its committed value because a state change
that no write requested meets the apply. -/
def execCommit (f : Frame) (forced : Option ObjKey) (s : State) : Eff :=
  .next (s.served (· == 4) f fun _ t =>
    let sid := f.session
    let l := t.stagedOf sid
    match t.firstFailing (t.probe l) sid f.guests l 0 with
    | some (n, st) => t.answer (t.silentIn f.guests [l[n]?]) (t.resp f 4 st [] [n, st.toNat])
    | none =>
      if l.isEmpty then t.reply (t.resp f 4 0 [] [])
      else
        match forced.bind fun k => l.findIdx? fun w => decide (w.key = k) && guardedObj k with
        | some n =>
          let kept := match forced with
            | some k => keptItems k l
            | none => []
          (t.writeAll sid (itemSort kept)).reply (t.resp f 4 7 [] [n, 7])
        | none => t.commitAll f l)

/-- DISCARD (R74). -/
def execDiscard (f : Frame) (s : State) : Eff :=
  .next (s.served (· == 5) f fun _ t =>
    (t.setStaged f.session []).reply (t.resp f 5 0 [] []))

/-- STAGED_SET_EXPIRY (R74): 30 s without a request from the session. -/
def execStagedSetExpiry (x : SessionId) (s : State) : Eff :=
  .next (
    match s.dict.sessions.find? fun y => decide (y.sid = x) with
    | some y => if s.since y.lastUse < 30 * secTicks then s else s.setStaged x []
    | none => s)

/-! SAVE, RESTORE (R75, R76). -/

/-- SAVE (R75): status 0x09 while another runs. -/
def execSave (w : Wire) (here : Arrival) (s : State) : Eff :=
  let f := Frame.of w here
  .next (s.served (· == 6) f fun _ t =>
    if t.dict.saving.isSome then t.reply (t.resp f 6 9 [] [])
    else t.startSave f.guests { answer := some (t.resp f 6 0 [] []), cmd := none, more := 0 })

/-- SAVE_COMPLETE (R75). -/
def execSaveComplete (result : SaveResult) (s : State) : Eff :=
  .next (
    match result with
    | .done => s.saveDone
    | .programFailed => s.saveFailed 0
    | .verifyFailed => s.saveFailed 1)

/-- Whether an index is left out of a RESTORE (R76). -/
def restoreSkips (i : Nat) : Bool :=
  (0x0400 ≤ i && i < 0x0500) || decide (0xF000 ≤ i) || i == 0x0110

/-- The objects a row's RESTORE sets, with their defaults. -/
def State.rowDefaults (s : State) (first last role : Nat) (r : OdRow) : List WriteItem :=
  if r.acc ≠ .rw || role < r.role then []
  else
    (r.indexes.filter fun i => decide (first ≤ i) && decide (i ≤ last) && !restoreSkips i).flatMap fun i =>
      (List.range r.n).filterMap fun k =>
        let n := r.sub + k
        if s.objAbsent i n then none
        else ((r.dflt.map OdVal.num).orElse fun _ => s.textDefault i n).map fun v =>
          { key := { index := BitVec.ofNat 16 i, sub := BitVec.ofNat 8 n }
            ty := BitVec.ofNat 8 r.ty.code, bytes := wireBytes (BitVec.ofNat 8 r.ty.code) v }

/-- The guest objects a RESTORE sets: those whose guest reports a default. -/
def State.guestDefaults (s : State) (first last role : Nat) : List WriteItem :=
  s.dict.guestObjs.filterMap fun g =>
    let i := g.obj.key.index.toNat
    if g.obj.access = 1 && decide (g.obj.role.toNat ≤ role) && decide (first ≤ i) && decide (i ≤ last) then
      g.obj.dflt.map fun v => { key := g.obj.key, ty := g.obj.ty, bytes := wireBytes g.obj.ty v }
    else none

/-- Whether an object stands away from a value. -/
def State.differs (s : State) (sid : SessionId) (w : WriteItem) : Bool :=
  match s.objInfo w.key with
  | .ok x => decide (s.objValue sid w.key x ≠ some w.val)
  | .error _ => false

/-- An object set to its default: the wall clock is then not set. -/
def State.restoreObj (sid : SessionId) (w : WriteItem) (s : State) : State :=
  if w.key.index = 0x6101 then s.onYb fun y => { y with wallSet := false, wallSource := 0 }
  else
    match s.objInfo w.key with
    | .ok x => s.writeObj sid x w
    | .error _ => s

/-- RESTORE (R76): every RW object of the range whose write role the caller holds takes its default, or
none does when one conflicts with the present state. The indexes of its first two items bound the range
(log 105). -/
def execRestore (w : Wire) (queued : Nat) (guests : BitVec 4) (s : State) : Eff :=
  let f := Frame.of w { queued := queued, guests := guests }
  .next (s.served (· == 7) f fun r t =>
    let sid := f.session
    let role := sid.role.toNat
    match r.keys with
    | first :: last :: _ =>
     if role < 2 then t.reply (t.resp f 7 3 [] [])
     else
      let l := odRows.flatMap (t.rowDefaults first.index.toNat last.index.toNat role)
        ++ t.guestDefaults first.index.toNat last.index.toNat role
      let change := l.filter (t.differs sid)
      let silent := t.silentIn f.guests (change.map some)
      let p := t.probe change
      if !silent.isEmpty then t.answer silent (t.resp f 7 9 [] [])
      else if change.any fun w => t.stateBad p w then t.reply (t.resp f 7 7 [] [])
      else
        ((foldS (State.restoreObj sid) (itemSort change) t).event epField 316 l.length).reply
          (t.resp f 7 0 [] [l.length])
    | _ => t.reply (t.resp f 7 5 [] []))

/-! Guest objects (R71, R75). -/

/-- GUEST_OBJECT_TIMEOUT (R71): a guest has not answered within 10 ms; the response it held is given. -/
def execGuestObjectTimeout (a : Fin 4) (s : State) : Eff :=
  .next (
    match s.dict.held with
    | none => s
    | some h =>
      let rest := h.acts.filter fun b => decide (b ≠ a)
      if !h.acts.contains a || decide (s.since h.since < 10 * msTicks) then s
      else if rest.isEmpty then s.releaseHeld
      else (s.onDict fun d => { d with held := some { h with acts := rest } }).fault epResident 156 a.val)

/-- Whether an index is in an actuator's guest range (R70). -/
def inGuestRange (a : Fin 4) (i : Nat) : Bool :=
  decide (0x7000 + 0x400 * a.val ≤ i) && decide (i < 0x7400 + 0x400 * a.val)

/-- A guest object as it is taken in: a Saved one gets its stored value back (R75). -/
def State.guestEntry (s : State) (a : Fin 4) (o : GuestObj) : GuestObjEntry :=
  let stored := Tab.get? s.currentCopy.guests (odKey o.key.index.toNat o.key.sub.toNat)
  { act := a
    obj := if o.saved && (o.access == 1 || o.access == 2) then { o with value := stored.getD o.value }
      else o }

/-- GUEST_OBJECT_REPORT (R71, R75): a guest, which runs, reports its objects. -/
def execGuestObjectReport (a : Fin 4) (objs : List GuestObj) (s : State) : Eff :=
  .next (
    if !s.guestRuns a then s
    else
      let l := (objs.filter fun o => inGuestRange a o.key.index.toNat && decide (o.key.sub ≠ 0)).map
        (s.guestEntry a)
      s.onDict fun d => { d with
        guestObjs := d.guestObjs.filter (fun g => decide (g.act ≠ a)) ++ l })

/-! Ends of timers (R84, R85, R89). -/

/-- SILENCE_END (R84): event 313. -/
def execSilenceEnd (x : Sender) (s : State) : Eff :=
  .next (
    if s.dict.silenced.any fun y => decide (y.sender = x) && decide (60 * secTicks ≤ s.since y.since) then
      (s.onDict fun d => { d with
        silenced := d.silenced.filter fun y => decide (y.sender ≠ x)
        fails := d.fails.filter fun e => decide (e.sender ≠ x) }).event epField 313 x.qual
    else s)

/-- KEY_GRACE_END (R85): the keys that were changed 2 s ago or more are forgotten. -/
def execKeyGraceEnd (s : State) : Eff :=
  .next (s.onDict fun d => { d with
    oldKeys := d.oldKeys.filter fun k => decide (s.since k.since < 2 * secTicks) })

/-- MCTP_REASSEMBLY_TIMEOUT (R89, R96): the incomplete message is dropped. -/
def execMctpReassemblyTimeout (s : State) : Eff :=
  .next (
    if s.sys.coreReleased && s.domOn 30 && bitOf s.p0300Transports 1 then
      (s.frameDropped).fault epField 158 1
    else s)

/-! NVMe carriage (R90). -/

/-- BUYTH_SEND (R90): the frame, as long as CDW10 says, is taken in for the server, or 16 of the controller already wait. -/
def execBuythSend (h : NvmeHdr) (length : Nat) (frame : List Byte) (s : State) : Eff :=
  .next (s.admin h 0xC1 0 fun n t =>
    if 16 ≤ t.dict.nvmeWaiting.countP fun w => decide (w.1 = h.ctrl) then
      t.cmdReady n (nvRetry .framesWaiting)
    else (t.onDict fun d => { d with
      nvmeWaiting := d.nvmeWaiting ++ [(h.ctrl, frame.take length)] }).cmdReady n nvOk)

/-- BUYTH_RECEIVE (R90): the response with the awaited tag, at once or when it comes. -/
def execBuythReceive (h : NvmeHdr) (tagId : BitVec 32) (buflen : Nat) (s : State) : Eff :=
  .next (s.admin h 0xC2 0 fun n t =>
    let mine (r : Resp) : Bool := decide (r.sender = .nvme h.ctrl) && r.tagId == tagId
    match t.dict.responses.find? mine, t.cmd? n with
    | some r, some k =>
      (t.onDict fun d => { d with responses := dropFirst mine d.responses }).handOver k buflen r
    | _, _ => t.onCmd n fun k => { k with need := .buyth tagId buflen t.now })

/-- BUYTH_RECEIVE_TIMEOUT (R90): 3,500 ms without the response. -/
def execBuythReceiveTimeout (ctrl : Fin 2) (tagId : BitVec 32) (s : State) : Eff :=
  .next (
    match s.nvme.cmds.find? fun k => (k.awaits ctrl tagId).isSome with
    | some k =>
      match k.need with
      | .buyth _ _ since =>
        if s.since since < 3500 * msTicks then s else s.cmdReady k.n (nvRetry .noResponse)
      | _ => s
    | none => s)

/-! Links (R89, R93 to R96). -/

/-- T1S_LINK_STATE_CHANGE (R93, R95, R96): event 318 on a change of its bits, and the faults of source
157. -/
def execT1sLinkStateChange (up beacon dup phyFault : Bool) (s : State) : Eff :=
  .next (
    if !s.sys.coreReleased || !s.domOn 30 then s
    else
      let lost := s.dict.linkState.getLsbD 1 && !beacon
      let v := setBit (setBit s.dict.linkState 0 up) 1 beacon
      let s := s.setLink v
      let s := s.doIf phyFault fun t => t.fault epField 157 0
      let s := s.doIf lost fun t => t.fault epField 157 1
      s.doIf dup fun t => t.fault epField 157 2)

/-- Bits [11:0] of the provisional ID (R89): 0xA00 + s. -/
def State.provisionalId (s : State) : Nat := 0xA00 + s.ident.straps.toNat % 64

/-- ENTDAA (R89, R96): the dynamic address, when the arbitration was won with this drive's provisional ID,
and the endpoint ID then assigned over it, if any; a bus that fails is fault source 158 kind 0. -/
def execEntdaa (x : DaaInputs) (s : State) : Eff :=
  .next (
    if !s.sys.coreReleased || !s.domOn 30 || !bitOf s.p0300Transports 1 then s
    else if x.busFault then s.fault epField 158 0
    else if x.pid.toNat ≠ s.provisionalId then s
    else (s.onDict fun d => { d with
      i3cAddr := x.addr, mctpEid := if x.eid = 0 then d.mctpEid else x.eid }).setLink
        (setBit s.dict.linkState 2 true))

end Sys2Proof.Machine
end

