-- ==== Sys2Proof/Machine/RegRead.lean ====
section
/-! DEFINITION. What a read of a register gives: the register maps of spindle control (04), the actuator
islands (05, 06, 07, 09, 11), the scrubber (13), the DMA engine and the timers (15, 19), the Hall Monitor
(16), the Yearbook window (17) and the event controller (19). `none` is an offset no register is at. No
read has an effect. -/

namespace Sys2Proof.Machine

open Sys2Proof

/-- A flag at its place in a word. -/
def flagAt (b : Bool) (n : Nat) : Nat := b2n b * 2 ^ n

/-- A field at its place in a word. -/
def fieldAt {w : Nat} (v : BitVec w) (n : Nat) : Nat := v.toNat * 2 ^ n

/-- A word of a list of bytes. -/
def wordOf (l : List Byte) (i : Nat) : Nat := leNat ((l.drop (4 * i)).take 4)

/-! Spindle control (04 R124 to R129). -/

/-- The value of OD 0x2010.k as its parameter word shows it (04 R129). -/
def State.spnParam (s : State) (k : Nat) : Nat :=
  let row := odRows.find? fun r => r.idx == 0x2010 && r.sub == k
  match Tab.get? s.spn.pendingParams k with
  | some v => v
  | none => s.odNat (0x201000 + k) ((row.bind OdRow.dflt).getD 0)

/-- SPN_STATUS (04 R126). -/
def Spn.status (p : Spn) : Nat :=
  fieldAt p.obsConf 24 + fieldAt p.refSrc 20 + flagAt p.obsValid 16 + flagAt p.wrHold 15
    + flagAt p.locked 14 + flagAt p.chopOn 13 + flagAt p.chopFault 12 + flagAt p.zeroVector 11
    + flagAt p.slewing 10 + p.state.code

/-- A register of spindle control. -/
def State.readSpindle (s : State) (off : Nat) : Option Nat :=
  let p := s.spn
  match off with
  | 0x000 => some (flagAt p.dtc 8 + fieldAt p.refMode 4 + fieldAt p.refAct 2 + flagAt p.stopReq 1
      + flagAt p.runReq 0)
  | 0x004 => some p.status
  | 0x008 => some p.flags.toNat
  | 0x00C => some p.speed.toNat
  | 0x010 => some (flagAt p.cruise 31 + p.target.toNat)
  | 0x014 => some (fieldAt p.sector 16 + p.angle.toNat)
  | 0x018 => some (flagAt p.chopOn 6 + p.gates.toNat)
  | _ =>
    if 0x020 ≤ off && off ≤ 0x040 then some (nth p.adc ((off - 0x020) / 4) 0).toNat
    else if 0x100 ≤ off && off ≤ 0x1A8 then some (s.spnParam ((off - 0x100) / 4 + 1))
    else none

/-! Actuator islands. -/

/-- Island control: ISL_CTL, ISL_STATUS, ISL_SYN, ISL_CALREQ and ISL_CALGRANT (05 R156, R157,
11 R357). -/
def State.readIsl (s : State) (a : Fin 4) (off : Nat) : Option Nat :=
  let i := (s.act a).isl
  match off with
  | 0x00 => some (flagAt i.unloadReq 3 + flagAt i.loadReq 2 + flagAt i.calFail 1 + flagAt i.calDone 0)
  | 0x04 => some (fieldAt i.attempt 8 + flagAt ((s.act a).wp.cause.getLsbD 0 || (s.act a).wp.cause.getLsbD 1) 5 + flagAt i.synLocked 4
      + i.load.code)
  | 0x08 => some (flagAt i.synLocked 16 + s.periodCycles a)
  | 0x10 => some (flagAt i.cal.req 31 + flagAt i.cal.safety 29 + fieldAt i.cal.deadline 16
      + i.cal.duration.toNat)
  | 0x14 => some (flagAt i.cal.active 31 + flagAt i.cal.conflict 29 + s.calLeft a)
  | _ => none

/-- The demodulator (05 R155, R158, R159). -/
def State.readSvd (s : State) (a : Fin 4) (off : Nat) : Option Nat :=
  let d := (s.act a).svd
  match off with
  | 0x00 => some (fieldAt d.head 8 + s.p3400ReaderSel a % 4 * 16 + flagAt (s.p3400RroSub a) 3
      + flagAt d.acquire 2)
  | 0x04 => some (fieldAt d.samErr 24 + s.p3400LockCount a % 256 * 2 ^ 16 + s.p3400SamWin a % 2 ^ 16)
  | 0x08 => some (fieldAt d.recFlags 16 + d.wedge.toNat)
  | 0x0C => some d.flags.toNat
  | 0x10 => some (d.targetNext.getD d.target).toNat
  | 0x14 => some d.pos.toNat
  | 0x18 => some d.track.toNat
  | 0x1C => some d.rro.toNat
  | 0x20 => some (d.sam.toNat % 2 ^ 32)
  | 0x24 => some (d.sam.toNat / 2 ^ 32)
  | 0x28 => some d.skew.toNat
  | 0x2C => some d.rbOfs.toNat
  | _ => none

/-- Motion sensing (05 R155, R160). -/
def State.readMsn (s : State) (a : Fin 4) (off : Nat) : Option Nat :=
  let m := (s.act a).msn
  match off with
  | 0x00 => some (s.p3400ShockHold a % 2 ^ 16 * 2 ^ 16 + s.p3400ShockThr a % 2 ^ 12)
  | 0x04 => some m.flags.toNat
  | 0x20 => some m.mad1.toNat
  | 0x24 => some m.mad2.toNat
  | _ => if 0x08 ≤ off && off ≤ 0x1C then some (nth m.latest ((off - 0x08) / 4) 0).toNat else none

/-- SVE_STATUS (06 R195). -/
def State.sveStatus (s : State) (a : Fin 4) : Nat :=
  let v := (s.act a).sve
  fieldAt v.xcId 28 + fieldAt v.recover 16 + flagAt v.xcSusp 15 + flagAt v.late 14
    + flagAt ((s.act a).wp.cause.getLsbD 3) 13 + fieldAt v.holdRun 8 + v.state.code

/-- SVE_CFG (06 R197). -/
def State.sveCfg (s : State) (a : Fin 4) : Nat :=
  s.p3000DampMs a % 256 * 2 ^ 24 + s.p3000RecoverN a % 256 * 2 ^ 16 + s.p3000SlackThr a % 1024 * 2 ^ 6
    + s.p3000VcmMode a % 2 * 2 + flagAt (s.p3000Vcomp a) 0

/-- SVI_CTL (06 R198). -/
def Svi.ctl (i : Svi) : Nat :=
  flagAt i.run 31 + flagAt i.stop 30 + fieldAt i.point 28 + fieldAt i.type 26 + fieldAt i.tones 24
    + flagAt i.wrOk 23 + fieldAt i.order 12 + i.hold.toNat

/-- SVB_CTL (06 R199). -/
def Svb.ctl (b : Svb) : Nat :=
  flagAt b.arm 31 + flagAt b.force 30 + fieldAt b.nodes 27 + fieldAt b.pre 24 + fieldAt b.trigSrc 20
    + fieldAt b.decim 16

/-- The servo engine, the profile generator, the injector, the correlation accumulators and the
Chalkboard (06 R194 to R199). -/
def State.readSve (s : State) (a : Fin 4) (off : Nat) : Option Nat :=
  let x := s.act a
  let v := x.sve
  match off with
  | 0x000 => some (flagAt v.stopReq 1
      + flagAt (v.runReq || decide (v.state = .running) || decide (v.state = .hold)) 0)
  | 0x004 => some (s.sveStatus a)
  | 0x008 => some v.flags.toNat
  | 0x00C => some (s.sveCfg a)
  | 0x010 => some v.entry.toNat
  | 0x014 => some (s.p3000XcEnable a % 2 ^ 16)
  | 0x018 => some (fieldAt v.mand 16 + v.minSlack.toNat)
  | 0x01C => some v.period.toNat
  | 0x040 => some (flagAt v.updGo 31 + v.updCount.toNat)
  | 0x044 => some (s.p3000Decay a).toNat
  | 0x048 => some (s.p3000Vnom a).toNat
  | 0x060 => some (s.mailboxFlags a).toNat
  | 0x200 => some (fieldAt x.svp.regCls 29 + x.svp.regTarget.toNat)
  | 0x204 => some (flagAt x.svp.rejected 2 + flagAt x.svp.done 1 + flagAt x.svp.active 0)
  | 0x208 => some (fOfD x.svp.pos).toNat
  | 0x20C => some (fOfD x.svp.vel).toNat
  | 0x210 => some (fOfD x.svp.acc).toNat
  | 0x300 => some x.svi.ctl
  | 0x324 => some x.svi.len.toNat
  | 0x380 => some (flagAt x.svc.run 31 + fieldAt x.svc.node1 9 + x.svc.node0.toNat)
  | 0x384 => some x.svc.settle.toNat
  | 0x388 => some x.svc.periods.toNat
  | 0x800 => some x.svb.ctl
  | 0x804 => some (fieldAt x.svb.state 30 + fieldAt x.svb.trigIdx 16 + x.svb.next.toNat)
  | 0x808 => some x.svb.level.toNat
  | _ =>
    if 0x020 ≤ off && off ≤ 0x03C then some (Tab.getD v.xcb ((off - 0x020) / 4) 0).toNat
    else if h : 0x050 ≤ off ∧ off ≤ 0x05C then
      some (s.mailboxValue a ⟨(off - 0x050) / 4, by omega⟩).toNat
    else if 0x100 ≤ off && off ≤ 0x1FC then some (Tab.getD v.upd ((off - 0x100) / 4) 0).toNat
    else if 0x220 ≤ off && off ≤ 0x27C then
      let k := (off - 0x220) / 4
      some (s.seekLimit a (BitVec.ofNat 3 (k / 3)) (k % 3)).toNat
    else if 0x304 ≤ off && off ≤ 0x310 then some (Tab.getD x.svi.inc ((off - 0x304) / 4) 0).toNat
    else if 0x314 ≤ off && off ≤ 0x320 then some (Tab.getD x.svi.amp ((off - 0x314) / 4) 0).toNat
    else if 0x3C0 ≤ off && off ≤ 0x3FC then some (Tab.getD x.svc.res ((off - 0x3C0) / 4) 0).toNat
    else if 0x400 ≤ off && off ≤ 0x7FC then
      some (v.reg (BitVec.ofNat 8 ((off - 0x400) / 4))).toNat
    else if 0x810 ≤ off && off ≤ 0x82C then
      let k := (off - 0x810) / 4
      some ((Tab.getD x.svb.sel (2 * k + 1) 0).toNat * 2 ^ 16 + (Tab.getD x.svb.sel (2 * k) 0).toNat)
    else none

/-- RCH_STATUS (07 R232). -/
def Rch.status (r : Rch) : Nat :=
  flagAt r.reading 31 + flagAt r.trLock 30 + flagAt r.agcSettled 29 + fieldAt r.bank 24
    + fieldAt r.slot 16 + fieldAt r.head 8 + r.zone.toNat

/-- The slots with VALID set (07 R234). -/
def State.validSlots (s : State) (a : Fin 4) : Nat :=
  (List.range 8).foldl (fun m k => m + flagAt (s.slotValid a k) k) 0

/-- Whether a guest replay is queued or running (07 R235). -/
def State.guestReplayBusy (s : State) (a : Fin 4) : Bool :=
  let r := (s.act a).rch
  (r.replays.any fun j => !j.resident)
    || (r.replayBuf.any fun b => b.granted.isNone && !b.job.resident)
    || s.pool.jobs.any fun e => decide (e.2.act = a) && (match e.2.replay with
      | some j => !j.resident
      | none => false)

/-- RCH_RPL_STATUS (07 R235). -/
def State.rplStatus (s : State) (a : Fin 4) : Nat :=
  let r := (s.act a).rch
  flagAt (s.guestReplayBusy a) 31 + fieldAt r.rplOutcome 24 + min 4 r.replays.length * 2 ^ 16
    + r.rplIters.toNat

/-- The read channel and its banks (07 R213, R231 to R235). -/
def State.readRch (s : State) (a : Fin 4) (off : Nat) : Option Nat :=
  let r := (s.act a).rch
  match off with
  | 0x00 => some (fieldAt r.muA 20 + fieldAt r.muB 16 + flagAt r.wb 11 + flagAt r.adaptB 10
      + flagAt r.adaptA 9 + s.p4000ReaderEnable a % 4)
  | 0x04 => some r.status
  | 0x08 => some r.flags.toNat
  | 0x0C => some (r.gainB / gainUnit * 256 + r.gainA / gainUnit)
  | 0x10 => some (fieldAt r.resPin 16 + r.guestPin.toNat)
  | 0x14 => some (s.validSlots a * 2 ^ 24 + fieldAt r.pinned 16 + r.next.toNat)
  | 0x20 => some (r.rpl &&& 0x7FFFBF00).toNat
  | 0x24 => some (s.rplStatus a)
  | 0x28 => some (fieldAt r.rplCorr 16 + r.rplUnsat.toNat)
  | 0x2C => some r.rplErased.toNat
  | 0x30 => some r.rplIdx.toNat
  | 0x34 => some r.rplErs.toNat
  | 0x38 => some r.rplW.toNat
  | 0x40 => some r.sectors.toNat
  | 0x44 => some r.otfFail.toNat
  | 0x48 => some r.iterSum.toNat
  | 0x4C => some r.mgnSum.toNat
  | 0x50 => some (s.p4000MarginIter a % 16)
  | _ =>
    if 0x80 ≤ off && off ≤ 0x9C then some (nth r.tapA ((off - 0x80) / 4) 0).toNat
    else if 0xA0 ≤ off && off ≤ 0xBC then some (nth r.tapB ((off - 0xA0) / 4) 0).toNat
    else if 0x800 ≤ off && off ≤ 0xFFC then some (Tab.getD r.banks ((off - 0x800) / 4) 0).toNat
    else none

/-- WP_STATUS (09 R294). -/
def Wp.status (w : Wp) : Nat :=
  let wait : Bool := match w.ops with
    | [] => false
    | o :: _ => o.cut.isSome
  flagAt w.writing 31 + flagAt (!w.ops.isEmpty) 30 + flagAt wait 29 + fieldAt w.cause 16
    + fieldAt w.head 8 + w.zone.toNat

/-- The write path, its banks and the PSC link (09 R274, R293 to R297). -/
def State.readWp (s : State) (a : Fin 4) (off : Nat) : Option Nat :=
  let w := (s.act a).wp
  let p := (s.act a).psc
  match off with
  | 0x00 => some (s.p4800ResWin a % 2 ^ 16 * 2 ^ 16 + s.p4800ResTries a % 16 * 2 ^ 12
      + fieldAt w.wotRel 8 + flagAt w.strict 2 + flagAt w.hold 1)
  | 0x04 => some w.status
  | 0x08 => some w.flags.toNat
  | 0x0C => some (s.p4800Sup12Hi a % 2 ^ 16 * 2 ^ 16 + s.p4800Sup12Lo a % 2 ^ 16)
  | 0x10 => some (s.p4800Sup5Hi a % 2 ^ 16 * 2 ^ 16 + s.p4800Sup5Lo a % 2 ^ 16)
  | 0x100 => some (flagAt p.idReq 31 + flagAt p.fclr 30)
  | 0x104 => some (flagAt p.linkUp 31 + flagAt p.pfl 30 + fieldAt p.mode 28 + fieldAt p.retries 16
      + p.preampId.toNat)
  | 0x108 => some p.fault.toNat
  | 0x10C => some (flagAt p.senseReq 31 + flagAt p.senseTimeout 30 + fieldAt p.sensor 24
      + p.value.toNat)
  | 0x110 => some (flagAt p.rawSend 31 + flagAt p.rawAcked 30 + fieldAt p.rawCode 24
      + fieldAt p.rawData 8)
  | _ =>
    if 0x80 ≤ off && off ≤ 0xFC then some (s.wpTrim a ((off - 0x80) / 4)).toNat
    else if 0xC00 ≤ off && off ≤ 0xFFC then some (Tab.getD w.banks ((off - 0xC00) / 4) 0).toNat
    else none

/-- A register of an actuator island, by its offset below 0x10000 (01 R29). -/
def State.readIsland (s : State) (a : Fin 4) (off : Nat) : Option Nat :=
  match off / 0x1000 with
  | 0 => s.readIsl a (off % 0x1000)
  | 1 => s.readSvd a (off % 0x1000)
  | 2 => s.readSve a (off % 0x1000)
  | 3 => s.readRch a (off % 0x1000)
  | 4 => s.readWp a (off % 0x1000)
  | 5 => s.readMsn a (off % 0x1000)
  | _ => none

/-! The scrubber (13 R412, R413). -/

/-- The state of the scrubber as its code. -/
def ScrState.code : ScrState → Nat
  | .idle => 0
  | .running => 1
  | .done => 2
  | .aborted => 3

/-- SCR_STATUS.PROGRESS: per mille of the range read. -/
def Scr.progress (x : Scr) : Nat :=
  let size := x.stop.toNat + 1 - x.start.toNat
  match x.state with
  | .idle => 0
  | .done => 1000
  | _ => if size = 0 then 0 else min 1000 ((x.next - x.start.toNat) * 1000 / size)

/-- A register of the scrubber; the rest of the window is the buffer manager's. -/
def State.readScrubber (s : State) (off : Nat) : Option Nat :=
  let x := s.scr
  match off with
  | 0x00 => some (flagAt (decide (x.state = .running)) 31 + flagAt x.fix 17 + flagAt x.sig 16
      + x.rate.toNat)
  | 0x04 => some (x.state.code * 2 ^ 30 + x.progress)
  | 0x08 => some x.flags.toNat
  | 0x0C => some x.limit.toNat
  | 0x10 => some (x.start.toNat % 2 ^ 32)
  | 0x14 => some (x.start.toNat / 2 ^ 32)
  | 0x18 => some (x.stop.toNat % 2 ^ 32)
  | 0x1C => some (x.stop.toNat / 2 ^ 32)
  | 0x20 => some x.read.toNat
  | 0x24 => some x.corr.toNat
  | 0x28 => some x.uncorr.toNat
  | 0x2C => some x.sigErr.toNat
  | 0x30 => some (x.first.toNat % 2 ^ 32)
  | 0x34 => some (x.first.toNat / 2 ^ 32)
  | 0x38 => some (x.last.toNat % 2 ^ 32)
  | 0x3C => some (x.last.toNat / 2 ^ 32)
  | 0x40 => some (x.dur.toNat % 2 ^ 32)
  | 0x44 => some (x.dur.toNat / 2 ^ 32)
  | _ => none

/-! DMA and timers (15 R452, R453, 19 R533). -/

/-- DMA_ENGINE (15 R452): BUSY while a channel holds the mover. -/
def State.dmaEngine (s : State) : Nat :=
  match s.dma.owner with
  | some n => 2 ^ 31 + n.val
  | none => 0

/-- A register of a DMA channel. -/
def State.readChannel (s : State) (n : Fin 16) (off : Nat) : Option Nat :=
  let c := s.dmaCh n
  match off with
  | 0x00 => some (flagAt (decide (c.state = .aborting)) 0)
  | 0x04 => some (c.state.code * 2 ^ 29 + flagAt c.kickPend 28 + c.left.toNat)
  | 0x08 => some c.addr
  | 0x0C => some 0
  | 0x10 => some c.flags.toNat
  | 0x14 => some c.last.toNat
  | _ => none

/-- A register of a timer. -/
def Timer.reg (t : Timer) (off : Nat) : Option Nat :=
  match off with
  | 0x00 => some (flagAt t.run 31 + fieldAt t.mode 28 + t.src.toNat)
  | 0x04 => some t.reload.toNat
  | 0x08 => some t.count.toNat
  | 0x0C => some (t.atTime.toNat % 2 ^ 32)
  | 0x10 => some (t.atTime.toNat / 2 ^ 32)
  | 0x14 => some t.fires.toNat
  | 0x18 => some t.flags.toNat
  | _ => none

/-- A register of the DMA window (15 R452, 19 R527). -/
def State.readDma (s : State) (off : Nat) : Option Nat :=
  if h : off < 0x10000 then s.readChannel ⟨off / 0x1000, by omega⟩ (off % 0x1000)
  else if off = 0x10000 then some s.dmaEngine
  else if 0x80000 ≤ off && off < 0x81000 then (s.timer ((off - 0x80000) / 0x100)).reg (off % 0x100)
  else none

/-! Hall Monitor (16 R471 to R476). -/

/-- One of a source's four registers. -/
def State.srcReg (s : State) (n off : Nat) : Nat :=
  let x := s.hmSrc n
  match off / 4 with
  | 0 => x.cfg.toNat
  | 1 => x.win.toNat
  | 2 => s.srcStat n
  | _ => x.count.toNat

/-- Flags of 32 sources from one upward. -/
def State.srcBits (s : State) (w : Nat) (f : HmSrc → Bool) : Nat :=
  (List.range 32).foldl (fun m b => m + flagAt (f (s.hmSrc (32 * w + b))) b) 0

/-- The view page of an actuator (16 R471, R476). -/
def State.readHallView (s : State) (a : Fin 4) (off : Nat) : Option Nat :=
  if off < 0x0C0 then some (s.srcReg (88 + 12 * a.val + off / 16) (off % 16))
  else if off = 0x100 then some (s.hm.vMask.get a).toNat
  else if 0x200 ≤ off && off < 0x280 then
    let i := (off - 0x200) / 0x20
    match (s.hm.vHist.get a)[i]? with
    | some e => some (wordOf e.bytes ((off - 0x200) % 0x20 / 4))
    | none => some 0
  else none

/-- A register of the Hall Monitor (16 R473 to R475). -/
def State.readHall (s : State) (off : Nat) : Option Nat :=
  let h := s.hm
  match off with
  | 0x000 => some (flagAt h.sevMode 31 + fieldAt h.histMin 8 + h.core.toNat)
  | 0x004 => some (flagAt s.errorOut 31 + flagAt h.eoTimer 30 + h.hist.length % 32 * 2 ^ 8
      + min 255 ((List.range 160).countP fun n => (s.hmSrc n).lasting))
  | 0x008 => some (flagAt h.eoHold 31 + h.eoWidth.toNat)
  | 0x00C => some 0
  | 0x010 => some h.seq.toNat
  | 0x014 => some (flagAt h.causeValid 31 + s.causeWord)
  | 0x018 => some (fieldAt h.injKind 8 + h.injSource.toNat)
  | 0x01C => some (flagAt h.conflict 1 + flagAt h.badSource 0)
  | _ =>
    if 0x020 ≤ off && off ≤ 0x030 then some (s.srcBits ((off - 0x020) / 4) fun x => x.irq)
    else if 0x040 ≤ off && off ≤ 0x050 then some (s.srcBits ((off - 0x040) / 4) fun x => x.lasting)
    else if 0x400 ≤ off && off < 0x600 then
      some (wordOf (s.histBytes ((off - 0x400) / 0x20)) (off % 0x20 / 4))
    else if 0x1000 ≤ off && off < 0x1A00 then some (s.srcReg ((off - 0x1000) / 16) (off % 16))
    else if h : 0x80000 ≤ off ∧ off < 0xC0000 then
      s.readHallView ⟨(off - 0x80000) / 0x10000, by omega⟩ (off % 0x10000)
    else none

/-! Yearbook window (17 R488, R494, R495). -/

/-- YB_STATUS of a bank. -/
def State.ybStatus (s : State) (b : YbBank) : Nat :=
  (match s.ybRec? b.cur with
    | some r => 2 ^ 31 + flagAt r.slot.isNone 30
    | none => 0) + s.ybDepth

/-- A register of the Yearbook window, in an initiator's bank. -/
def State.readYearbook (s : State) (who : YbWho) (off : Nat) : Option Nat :=
  let b := s.ybBank (bankOf who)
  match off with
  | 0x000 => some 0
  | 0x004 => some (s.ybStatus b)
  | 0x008 => some (b.cur.toNat % 2 ^ 32)
  | 0x00C => some (b.cur.toNat / 2 ^ 32)
  | 0x010 => some (s.yb.firstSeq.toNat % 2 ^ 32)
  | 0x014 => some (s.yb.firstSeq.toNat / 2 ^ 32)
  | 0x018 => some (s.yb.nextSeq.toNat % 2 ^ 32)
  | 0x01C => some (s.yb.nextSeq.toNat / 2 ^ 32)
  | 0x020 => some b.flags.toNat
  | 0x080 => some (flagAt b.ok 30 + fieldAt b.len 16 + b.ty.toNat)
  | 0x084 => some (b.appSeq.toNat % 2 ^ 32)
  | 0x088 => some (b.appSeq.toNat / 2 ^ 32)
  | _ =>
    if 0x040 ≤ off && off ≤ 0x07C then
      match s.ybRec? b.cur with
      | some r => some (wordOf r.bytes ((off - 0x040) / 4))
      | none => some 0
    else if 0x0A0 ≤ off && off ≤ 0x0BC then some (Tab.getD b.app ((off - 0x0A0) / 4) 0).toNat
    else none

/-! Event controller (19 R531, R532). -/

/-- A word of the 352 flags. -/
def evcWord (m : BitVec 352) (w : Nat) : Nat := m.toNat / 2 ^ (32 * w) % 2 ^ 32

/-- A claim register: VALID and the event. -/
def claimWord : Option Nat → Nat
  | some e => 2 ^ 31 + e
  | none => 0

/-- EVC_V_CLAIM: the lowest event pending and enabled in a view (19 R526, R532). -/
def State.viewClaim (s : State) (a : Fin 4) : Option Nat :=
  lowestEvent (s.evc.pend &&& viewMask a (s.evc.vEn.get a))

/-- The view page of an actuator. -/
def State.readEventView (s : State) (a : Fin 4) (off : Nat) : Option Nat :=
  match off with
  | 0x000 => some (viewBits a s.evc.pend).toNat
  | 0x004 => some (s.evc.vEn.get a).toNat
  | 0x008 => some (viewBits a s.evc.ovr).toNat
  | 0x00C => some (claimWord (s.viewClaim a))
  | _ =>
    if 0x100 ≤ off && off < 0x170 then
      some (Tab.getD s.evc.qual (viewEvent a ((off - 0x100) / 4)) 0).toNat
    else none

/-- A register of the event controller. -/
def State.readEvents (s : State) (off : Nat) : Option Nat :=
  let v := s.evc
  if off = 0 then some (flagAt v.badEvent 0)
  else if 0x100 ≤ off && off ≤ 0x128 then some (evcWord v.pend ((off - 0x100) / 4))
  else if 0x180 ≤ off && off ≤ 0x1A8 then some (evcWord v.ovr ((off - 0x180) / 4))
  else if 0x200 ≤ off && off < 0x340 then
    if off % 0x40 ≤ 0x28 then some (evcWord (Tab.getD v.en ((off - 0x200) / 0x40) 0) (off % 0x40 / 4))
    else none
  else if 0x400 ≤ off && off ≤ 0x410 then some (claimWord (s.evcClaim ((off - 0x400) / 4)))
  else if 0x800 ≤ off && off < 0xD80 then some (Tab.getD v.qual ((off - 0x800) / 4) 0).toNat
  else if off = 0x1000 then some v.gpioEdge.toNat
  else if off = 0x1004 then some v.gpioLevel.toNat
  else if h : 0x80000 ≤ off ∧ off < 0xC0000 then
    s.readEventView ⟨(off - 0x80000) / 0x10000, by omega⟩ (off % 0x10000)
  else none

end Sys2Proof.Machine
end

