-- ==== Sys2Proof/Machine/Servo.lean ====
section
/-! DEFINITION. The servo engine's instructions (06 R168), the sample instant (R162, R185) and the
commands to the engine and its helpers (R176, R186 to R193). -/

namespace Sys2Proof.Machine

open Sys2Proof

/-! Instructions. -/

/-- One engine cycle (R166). -/
def Sve.tick (v : Sve) : Sve :=
  { v with pc := v.pc + 1, cyc := v.cyc + 1
           overCyc := if v.overdue = 0 then v.overCyc else v.overCyc + 1
           segCyc := if v.seg = .extra then v.segCyc + 1 else v.segCyc }

/-- The bound of an extra-credit segment in SVE_XCB (R175, R197). -/
def Sve.bound (v : Sve) (seg : Nat) : Nat :=
  fld (Tab.getD v.xcb (seg / 2) 0).toNat (16 * (seg % 2)) 16

/-- Whether an extra-credit segment has used up its bound unfinished (R175). -/
def Sve.xcSpent (v : Sve) : Bool :=
  decide (v.seg = .extra) && decide (v.bound v.xcId.toNat ≤ v.segCyc)

/-- An extra-credit segment that has used up its bound is stopped at the instruction boundary: it is
disabled, XC_OVER is set, and the engine goes on at its end address (R175). -/
def State.xcStop (e : Fin 4) (s : State) : State :=
  let v := (s.act e).sve
  if v.xcSpent then
    ((s.onSve e fun v => { v with
        pc := v.segEnd.setWidth 13, seg := .other, mark := v.segEnd.toNat }).sveFlag e 8)
      |>.odSet (0x30000C + 0x10000 * e.val) (withBit (s.p3000XcEnable e) v.xcId.toNat false)
  else s

/-- An instruction: where the engine executes and its program memory holds the instruction's word at the
next address, it is carried out in one cycle; a fetch beyond address 4,095 is an address error; a row
that names another instruction than the memory holds, or an engine that does not execute, does nothing
(R166, R182, log 103). -/
def State.engineDo (e : Fin 4) (w : Word) (f : State → State) (s : State) : State :=
  if s.present e && (s.act e).sve.executes then
    let s := s.xcStop e
    let pc := (s.act e).sve.pc.toNat
    if 4096 ≤ pc then s.engineHalt e 2
    else if s.progWord e pc = w.toNat then f (s.onSve e Sve.tick)
    else s
  else s

/-- An instruction that writes one register from the engine's registers. -/
def State.engineReg (e : Fin 4) (w : Word) (fd : BitVec 8) (f : Sve → Word) (s : State) : State :=
  s.engineDo e w fun t => t.onSve e fun v => v.setReg fd (f v)

/-- NOP (R168). -/
def execNop (e : Fin 4) (s : State) : Eff := .next (s.engineDo e 0 fun t => t)

/-- ADD (R168). -/
def execAdd (e : Fin 4) (fd fa fb : BitVec 8) (s : State) : Eff :=
  .next (s.engineReg e (encR 0x01 fd fa fb) fd fun v => fAdd (v.reg fa) (v.reg fb))

/-- SUB (R168). -/
def execSub (e : Fin 4) (fd fa fb : BitVec 8) (s : State) : Eff :=
  .next (s.engineReg e (encR 0x02 fd fa fb) fd fun v => fSub (v.reg fa) (v.reg fb))

/-- MUL (R168). -/
def execMul (e : Fin 4) (fd fa fb : BitVec 8) (s : State) : Eff :=
  .next (s.engineReg e (encR 0x03 fd fa fb) fd fun v => fMul (v.reg fa) (v.reg fb))

/-- FMA: fd + fa * fb, rounded once (R168). -/
def execFma (e : Fin 4) (fd fa fb : BitVec 8) (s : State) : Eff :=
  .next (s.engineReg e (encR 0x04 fd fa fb) fd fun v => fFma (v.reg fa) (v.reg fb) (v.reg fd))

/-- FMS: fd - fa * fb, rounded once (R168). -/
def execFms (e : Fin 4) (fd fa fb : BitVec 8) (s : State) : Eff :=
  .next (s.engineReg e (encR 0x05 fd fa fb) fd fun v => fFma (fNegate (v.reg fa)) (v.reg fb) (v.reg fd))

/-- MIN (R168). -/
def execMin (e : Fin 4) (fd fa fb : BitVec 8) (s : State) : Eff :=
  .next (s.engineReg e (encR 0x06 fd fa fb) fd fun v => fMin (v.reg fa) (v.reg fb))

/-- MAX (R168). -/
def execMax (e : Fin 4) (fd fa fb : BitVec 8) (s : State) : Eff :=
  .next (s.engineReg e (encR 0x07 fd fa fb) fd fun v => fMax (v.reg fa) (v.reg fb))

/-- MOV, bit for bit (R164, R168). -/
def execMov (e : Fin 4) (fd fa : BitVec 8) (s : State) : Eff :=
  .next (s.engineReg e (encR 0x08 fd fa 0) fd fun v => v.reg fa)

/-- ABS clears bit 31 (R164). -/
def execAbs (e : Fin 4) (fd fa : BitVec 8) (s : State) : Eff :=
  .next (s.engineReg e (encR 0x08 fd fa 1) fd fun v => fAbs (v.reg fa))

/-- NEG inverts bit 31 (R164). -/
def execNeg (e : Fin 4) (fd fa : BitVec 8) (s : State) : Eff :=
  .next (s.engineReg e (encR 0x08 fd fa 2) fd fun v => fNegate (v.reg fa))

/-- RCP (R168). -/
def execRcp (e : Fin 4) (fd fa : BitVec 8) (s : State) : Eff :=
  .next (s.engineReg e (encR 0x08 fd fa 3) fd fun v => fRcp (v.reg fa))

/-- FTOI: nearest-even, saturating, NaN gives 0 (R168). -/
def execFtoi (e : Fin 4) (fd fa : BitVec 8) (s : State) : Eff :=
  .next (s.engineReg e (encR 0x08 fd fa 4) fd fun v =>
    BitVec.ofInt 32 (fToInt (-2147483648) 2147483647 (v.reg fa)))

/-- ITOF (R168). -/
def execItof (e : Fin 4) (fd fa : BitVec 8) (s : State) : Eff :=
  .next (s.engineReg e (encR 0x08 fd fa 5) fd fun v => fOfZ (v.reg fa).toInt)

/-- CLAMP: min(max(fd, fa), fb) (R168). -/
def execClamp (e : Fin 4) (fd fa fb : BitVec 8) (s : State) : Eff :=
  .next (s.engineReg e (encR 0x09 fd fa fb) fd fun v => fMin (fMax (v.reg fd) (v.reg fa)) (v.reg fb))

/-- CMP sets P; a condition above 7 is illegal (R166, R168). -/
def execCmp (e : Fin 4) (cond : BitVec 4) (fa fb : BitVec 8) (s : State) : Eff :=
  .next (s.engineDo e (encC 0x0A cond fa fb) fun t =>
    match cmpCond cond ((t.act e).sve.reg fa) ((t.act e).sve.reg fb) with
    | some b => t.onSve e fun v => { v with p := b }
    | none => t.engineHalt e 1)

/-- TST sets P (R168). -/
def execTst (e : Fin 4) (fd : BitVec 8) (imm : BitVec 16) (s : State) : Eff :=
  .next (s.engineDo e (encI 0x0B fd imm) fun t => t.onSve e fun v => { v with p := tstBits (v.reg fd) imm })

/-- SEL (R168). -/
def execSel (e : Fin 4) (fd fa fb : BitVec 8) (s : State) : Eff :=
  .next (s.engineReg e (encR 0x0C fd fa fb) fd fun v => if v.p then v.reg fa else v.reg fb)

/-- LDI loads the upper half (R168). -/
def execLdi (e : Fin 4) (fd : BitVec 8) (imm : BitVec 16) (s : State) : Eff :=
  .next (s.engineReg e (encI 0x0D fd imm) fd fun _ => imm.setWidth 32 <<< 16)

/-- LD (R168). -/
def execLd (e : Fin 4) (fd : BitVec 8) (addr : BitVec 11) (s : State) : Eff :=
  .next (s.engineReg e (encM 0x0E fd addr) fd fun _ => s.dataWord e addr.toNat)

/-- ST (R168). -/
def execSt (e : Fin 4) (fd : BitVec 8) (addr : BitVec 11) (s : State) : Eff :=
  .next (s.engineDo e (encM 0x0F fd addr) fun t => t.setDataWord e addr.toNat ((t.act e).sve.reg fd))

/-- LDX: the address is bits 10 to 0 of fa (R168). -/
def execLdx (e : Fin 4) (fd fa : BitVec 8) (s : State) : Eff :=
  .next (s.engineReg e (encR 0x10 fd fa 0) fd fun v => s.dataWord e (fld (v.reg fa).toNat 0 11))

/-- STX (R168). -/
def execStx (e : Fin 4) (fd fa : BitVec 8) (s : State) : Eff :=
  .next (s.engineDo e (encR 0x11 fd fa 0) fun t =>
    t.setDataWord e (fld ((t.act e).sve.reg fa).toNat 0 11) ((t.act e).sve.reg fd))

/-- The steps of BIQ on the registers (R169). -/
def Sve.biquad (v : Sve) (fd fa fb : BitVec 8) : Sve :=
  let r := fun (n : BitVec 8) => v.reg (fb + n)
  let x := v.reg fa
  let y := fFma (r 0) x (r 5)
  let t := fFma (r 1) x (r 6)
  let v := v.setReg (fb + 5) (fFma (fNegate (r 3)) y t)
  let v := v.setReg (fb + 6) (fFma (fNegate (r 4)) y (fMul (r 2) x))
  v.setReg fd y

/-- BIQ; a block outside f1 to f255 is illegal (R166, R169). -/
def execBiq (e : Fin 4) (fd fa fb : BitVec 8) (s : State) : Eff :=
  .next (s.engineDo e (encR 0x12 fd fa fb) fun t =>
    if 1 ≤ fb.toNat && fb.toNat ≤ 249 then t.onSve e fun v => v.biquad fd fa fb
    else t.engineHalt e 1)

/-- What INTP gives: an illegal descriptor (1), a table beyond the data memory (2) or a value
(R170). -/
def State.interpolate (s : State) (e : Fin 4) (x : F32) (b : Nat) : Nat ⊕ F32 :=
  let d := fun (i : Nat) => s.dataWord e (4 * b + i)
  let n := fld (d 2).toNat 16 16
  let base := fld (d 2).toNat 0 16
  let wrap := bitOf (d 3).toNat 0
  if n < 2 || 1024 < n then .inl 1
  else if 2048 < base + n then .inl 2
  else
    let u := fMul (fSub x (d 0)) (d 1)
    let tab := fun (j : Nat) => s.dataWord e (base + j)
    if fIsNaN u then .inr fNaN
    else if wrap then
      if fIsInf u then .inr fNaN
      else
        let i := fFloor u
        let lo := tab ((i % (n : Int)).toNat)
        let hi := tab (((i + 1) % (n : Int)).toNat)
        .inr (fFmaFrac u i (fSub hi lo) lo)
    else
      let u := fClamp 0 (fOfNat (n - 1)) u
      let i := (fFloor u).toNat
      if n - 1 ≤ i then .inr (tab (n - 1))
      else .inr (fFmaFrac u (i : Int) (fSub (tab (i + 1)) (tab i)) (tab i))

/-- INTP (R166, R170). -/
def execIntp (e : Fin 4) (fd fa fb : BitVec 8) (s : State) : Eff :=
  .next (s.engineDo e (encR 0x13 fd fa fb) fun t =>
    if 31 < fb.toNat then t.engineHalt e 1
    else
      match t.interpolate e ((t.act e).sve.reg fa) fb.toNat with
      | .inl k => t.engineHalt e k
      | .inr y => t.onSve e fun v => v.setReg fd y)

/-- What an input port reads (R171). -/
def State.inPort (s : State) (e : Fin 4) (port : BitVec 8) : Word :=
  let n := port.toNat
  let x := s.act e
  if n < 12 then nth x.sve.inRec n 0
  else if h : 16 ≤ n ∧ n < 20 then s.mailboxValue e ⟨n - 16, by omega⟩
  else if n = 20 then s.mailboxFlags e
  else if n = 24 then fOfD x.svp.pos
  else if n = 25 then fOfD x.svp.vel
  else if n = 26 then fOfD x.svp.acc
  else if n = 27 then
    BitVec.ofNat 32 (b2n x.svp.active * 2 ^ 16 + b2n x.svp.first * 2 ^ 17 + b2n x.svp.last * 2 ^ 18)
  else if n = 28 then x.svi.s
  else if n = 29 then x.sve.period.setWidth 32
  else if n = 30 then x.sve.period30
  else 0

/-- IN (R171). -/
def execInPort (e : Fin 4) (fd port : BitVec 8) (s : State) : Eff :=
  .next (s.engineReg e (encR 0x14 fd 0 port) fd fun _ => s.inPort e port)

/-- OUT stages a value; ports 4 to 255 ignore it (R172). -/
def execOutPort (e : Fin 4) (fa port : BitVec 8) (s : State) : Eff :=
  .next (s.engineDo e (encR 0x15 0 fa port) fun t =>
    if h : port.toNat < 4 then
      t.onSve e fun v =>
        let o : OutPort := { v.outs.get ⟨port.toNat, h⟩ with staged := v.reg fa }
        { v with outs := v.outs.set ⟨port.toNat, h⟩ o }
    else t)

/-- BR: an illegal condition and a branch outside the present segment halt the engine (R166,
R173). -/
def execBr (e : Fin 4) (cond : BitVec 2) (target : BitVec 12) (s : State) : Eff :=
  .next (s.engineDo e (encB 0x16 cond target) fun t =>
    match brCond cond (t.act e).sve.p with
    | none => t.engineHalt e 1
    | some false => t
    | some true =>
      if t.inSegment e target.toNat then t.onSve e fun v => { v with pc := target.setWidth 13 }
      else t.engineHalt e 2)

/-- The record of a finished period enters the Chalkboard and the accumulators, and a seek's last
period ends it (R185 steps 4 and 5, R187, R191). -/
def State.periodDone (a : Fin 4) (s : State) : State :=
  (((s.correlate a).chalkRecord a).seekEnd a).onSve a fun v => { v with period := v.period + 1 }

/-- END_M of a late period: its outputs are applied at once unless the engine is in HOLD, and the
next period starts with its record (R179, R181 step 4). -/
def State.lateEnd (e : Fin 4) (s : State) : State :=
  let v := (s.act e).sve
  let hold := decide (v.state = .hold)
  let s := ((s.onSve e fun v => { v with late := true }).sveFlag e 1).countA 0x30000D e 1
  let s := (s.actEvent e 1 8 v.overCyc).chalkSeen e 3
  let s := if hold then s else s.applyOutputs e s.now16 true
  (s.periodDone e).startPeriod e (v.after.getD v.inRec) v.overCyc

/-- SEG_END_M (R174, R178 to R180): the staged values become ready; a second END_M is END. -/
def execSegEndM (e : Fin 4) (s : State) : Eff :=
  .next (s.engineDo e (encS 0x17 1 0 0) fun t =>
    let v := (t.act e).sve
    if v.reachedM then t.onSve e fun v => { v with seg := .idle }
    else
      let ready : OutPort → OutPort := fun o => { o with ready := o.staged }
      let outs := allActs.foldl (fun (o : Four OutPort) (p : Fin 4) => o.set p (ready (o.get p))) v.outs
      let t := t.onSve e fun v => { v with
        outs := outs, reachedM := true, mand := BitVec.ofNat 16 (min 65535 v.cyc)
        seg := .other, mark := v.pc.toNat }
      let t := t.onSvb e fun b => { b with snap := v.f }
      let t := t.countSlack e (if v.overdue = 0 then t.periodCycles e - v.cyc else 0)
      if v.overdue = 0 then t else t.lateEnd e)

/-- SEG_XC (R175). -/
def execSegXc (e : Fin 4) (seg : BitVec 4) (endAddr : BitVec 12) (s : State) : Eff :=
  .next (s.engineDo e (encS 0x17 2 seg endAddr) fun t =>
    let v := (t.act e).sve
    let left := t.periodCycles e - (v.cyc - 1)
    if bitOf (t.p3000XcEnable e) seg.toNat && !v.xcSusp && decide (v.bound seg.toNat ≤ left) then
      t.onSve e fun v => { v with
        xcId := seg, seg := .extra, mark := v.pc.toNat - 1, segEnd := endAddr, segCyc := 1 }
    else
      t.onSve e fun v => { v with
        pc := endAddr.setWidth 13, seg := .other, mark := endAddr.toNat })

/-- SEG_END: the engine idles until the next sample instant (R173). -/
def execSegEnd (e : Fin 4) (s : State) : Eff :=
  .next (s.engineDo e (encS 0x17 3 0 0) fun t => t.onSve e fun v => { v with seg := .idle })

/-- SIG: event offset 13, once per period (R168, R201). -/
def execSig (e : Fin 4) (imm : BitVec 16) (s : State) : Eff :=
  .next (s.engineDo e (encI 0x18 0 imm) fun t =>
    if (t.act e).sve.sigDone then t
    else ((t.onSve e fun v => { v with sigDone := true }).chalkSeen e 7).actEvent e 1 13 imm.toNat)

/-- The fetch of a word that is no legal instruction (kind 1), or from beyond address 4,095 (kind 2),
halts the engine (R166, R182). -/
def execIllegalInstruction (e : Fin 4) (addrErr : Bool) (s : State) : Eff :=
  .next (
    if s.present e && (s.act e).sve.executes then
      let s := s.xcStop e
      let pc := (s.act e).sve.pc.toNat
      if addrErr then (if 4096 ≤ pc then s.engineHalt e 2 else s)
      else if decide (pc < 4096) && !engineLegal (BitVec.ofNat 32 (s.progWord e pc)) then
        s.engineHalt e 1
      else s
    else s)

/-- An extra-credit segment reaches its bound unfinished (R175). -/
def execXcBoundOverrun (e : Fin 4) (s : State) : Eff :=
  .next (if (s.act e).sve.executes then s.xcStop e else s)

/-! The sample instant. -/

/-- The record of the wedge is completed with the motion senses and delivered (05 R136, R140, R142,
R145); the sample instant counts as one of the samples at 1 MHz. -/
def State.deliver (a : Fin 4) (x : SampleInputs) (s : State) : State :=
  let s := (s.onMsn a fun m => { m with
    codes := [x.rva, x.rvb, x.shk, x.v12, x.vcs, x.mas] }).motionSample a
  let d := (s.act a).svd
  let now := fun (i : Nat) => nth (s.act a).msn.latest i 0
  let w5 := setBit (nth d.next 5 0) 23 (s.act a).msn.shock
  let rcd := d.next.take 5 ++ [w5, now 4, now 5, now 0, now 1, now 2, now 3]
  let missing := w5.getLsbD 20
  let s := s.onSvd a fun d => { d with
    record := rcd, recFlags := (w5 >>> 16).setWidth 16, wedge := w5.setWidth 10
    pos := nth rcd 0 0, track := (nth rcd 4 0).setWidth 24, rro := nth rcd 3 0
    lastPos := (nth rcd 0 0 :: d.lastPos).take 3, wrInh := d.wrInh && missing }
  let s := s.onIsl a fun i => { i with velPrev := i.velSam, velSam := i.vel }
  let s := s.onSve a fun v => { v with period30 := fRat (s.wedgeT a) 3200000000 }
  let s := (if missing then s.chalkSeen a 4 else s).sawSupply (x.v12.toNat * 18000 / 4096) s.sys.v5
  (s.islandRequest a).wpTrack a (nth rcd 0 0) missing

/-- Servo is lost (R184): the velocity loop takes the VCM and holds zero, the microactuators go to
mid-scale and the unload begins; a seek is cancelled and injection stops. -/
def State.servoLost (a : Fin 4) (kind : Nat) (report : Bool) (s : State) : State :=
  let s := s.onIsl a fun i => { i with
    load := .unloading, retract := false, loadReq := false, stepAt := s.now, stillAt := s.now }
  let s := s.onMsn a fun m => { m with mad1 := 0x2000, mad2 := 0x2000 }
  let s := (s.onSve a fun v => { v with damping := true, lostNext := false }).sveFlag a 3
  let s := (if report then s.actFault a 1 7 kind else s).countA 0x30000F a 1
  let s := (((s.islandRequest a).seekCancel a).injectEnd a).chalkSeen a 6
  (s.ladderServoLost a).velocityFrame a

/-- Computation is lost (R181 steps 1, 2, 3 and 5). -/
def State.computationLost (a : Fin 4) (s : State) : State :=
  let v := (s.act a).sve
  let s := s.onSve a fun v => { v with
    state := .hold, holdRun := if v.state = .hold then v.holdRun else 0
    compInh := true, recover := 0, after := none, period := v.period + 1 }
  let s := s.onSvb a fun b => { b with snap := v.f }
  let s := (((s.actFault a 1 7 3).sveFlag a 2).countA 0x30000E a 1).chalkSeen a 5
  (s.engineRequest a).suspendXc a 0

/-- The output of HOLD at an output instant; the fourth without an on-time period loses servo
instead (R181 steps 3 and 6). -/
def State.holdInstant (a : Fin 4) (instant : Nat) (lost : Bool) (s : State) : State :=
  if lost then s
  else if (s.act a).sve.holdRun = 3 && s.loaded a then
    (s.onSve a fun v => { v with holdRun := 4 }).servoLost a 3 false
  else s.holdOutputs a instant

/-- Why servo is lost at this sample instant, if it is, and whether it is reported (R182, R184). -/
def State.lostKind (s : State) (a : Fin 4) : Option (Nat × Bool) :=
  let w5 := nth (s.act a).svd.record 5 0
  if !s.loaded a then none
  else if (s.act a).sve.lostNext && decide ((s.act a).sve.state = .halted) then some (3, false)
  else if !w5.getLsbD 22 || decide (5 ≤ fld w5.toNat 27 4) then
    some ((s.act a).svd.lossKind.toNat, true)
  else none

/-- What the engine does at a sample instant once servo loss is settled (R185 steps 2 to 7). -/
def State.engineInstant (a : Fin 4) (instant : Nat) (lost : Bool) (s : State) : State :=
  let v := (s.act a).sve
  let rcd := (s.act a).svd.record
  if v.state = .running || v.state = .hold then
    if v.reachedM then
      let s := s.onSve a fun v => { v with
        state := .running, late := false
        holdRun := 0 }
      let s := if lost then s.feedForward a instant false false else s.applyOutputs a instant false
      (s.periodDone a).nextPeriod a rcd
    else if v.stopReq && !s.loaded a then s.engineStopped a
    else if v.overdue = 0 then
      let s := s.onSve a fun v => { v with overdue := 1, overCyc := 0, after := some rcd }
      if v.state = .hold then s.holdInstant a instant lost else s
    else
      ((s.computationLost a).holdInstant a instant lost).periodDone a |>.nextPeriod a rcd
  else if v.runReq then
    (s.onSve a fun v => { v with state := .running, holdRun := 0, lostNext := false })
      |>.startPeriod a rcd 0
  else s

/-- SAMPLE_INSTANT (R162, R185): the record is delivered; servo lost, computation lost, the late
check, the outputs and the start of the period follow in this order. While the island drives the
arm its velocity loop sends the frame (05 R148). -/
def State.sampleInstant (a : Fin 4) (x : SampleInputs) (s : State) : State :=
  let s := s.deliver a x
  let lk := s.lostKind a
  let s := match lk with
    | some (k, rep) => s.servoLost a k rep
    | none => s
  let island : Bool := match (s.act a).isl.load with
    | .loading | .acquiring | .unloading | .retracting => true
    | _ => false
  let s := if island && lk.isNone then s.velocityFrame a else s
  s.engineInstant a (s.sampleNow a) lk.isSome

/-- SAMPLE_INSTANT: not before the instant the wedge's SAM gives (R162). -/
def execSampleInstant (a : Fin 4) (x : SampleInputs) (s : State) : Eff :=
  .next (if s.present a && s.domOn (20 + a.val) && s.sampleDue a then s.sampleInstant a x else s)

/-- DAMP_END: SVE_CFG.DAMP_MS is over, and steps 1 and 3 of 05 R150 follow (R184, R197). -/
def execDampEnd (a : Fin 4) (s : State) : Eff :=
  .next (
    if (s.act a).sve.damping
        && decide (min 50 (s.p3000DampMs a) * msTicks ≤ s.since (s.act a).isl.stepAt) then
      (((s.onSve a fun v => { v with damping := false }).islandRequest a).makeSafe a).velocityFrame a
    else s)

/-! Commands to the engine and its helpers. -/

/-- ENGINE_RUN: RUN starts the engine at the next sample instant (R176). -/
def execEngineRun (a : Fin 4) (s : State) : Eff :=
  let v := (s.act a).sve
  .next (if s.present a && (decide (v.state = .stopped) || decide (v.state = .halted)) then
    s.onSve a fun v => { v with runReq := true } else s)

/-- ENGINE_STOP: refused while LOADED (R176). -/
def execEngineStop (a : Fin 4) (s : State) : Eff :=
  let v := (s.act a).sve
  .next (if s.loaded a then s.sveFlag a 7
    else if v.state = .running || v.state = .hold then s.onSve a fun v => { v with stopReq := true }
    else s)

/-- SVE_ENTRY_WRITE: effect at the start of the next period (R176). -/
def execSveEntryWrite (a : Fin 4) (entry : BitVec 12) (s : State) : Eff :=
  .next (s.onSve a fun v => { v with entry := entry })

/-- SVE_REGISTER_WRITE (R176). -/
def execSveRegisterWrite (a : Fin 4) (n : BitVec 8) (v : BitVec 32) (s : State) : Eff :=
  let st := (s.act a).sve.state
  .next (if st = .stopped || st = .halted then s.onSve a fun e => e.setReg n v
    else s.sveFlag a 7)

/-- UPDATE_GO (R176, R197). -/
def execUpdateGo (a : Fin 4) (count : BitVec 6) (s : State) : Eff :=
  let v := (s.act a).sve
  .next (
    if v.updGo then s.sveFlag a 7
    else
      let s := s.onSve a fun v => { v with updCount := count }
      if count.toNat = 0 || 32 < count.toNat then s.sveFlag a 7
      else if v.state = .stopped || v.state = .halted then s.applyUpdates a
      else s.onSve a fun v => { v with updGo := true })

/-- SEEK_START (R186): a write of SVP_SEEK. -/
def execSeekStart (a : Fin 4) (v : BitVec 32) (principal : Bool) (s : State) : Eff :=
  .next (
    if !s.loaded a then s.onSvp a fun p => { p with
      rejected := true, regCls := (v >>> 29).setWidth 3, regTarget := v.setWidth 24 }
    else
      let held := match (s.act a).svp.pending with
        | some (_, _, pr) => pr && !principal && decide ((s.act a).svp.pendAt = s.now)
        | none => false
      if held then s
      else
        let s := s.onSvp a fun p => { p with
          pending := some ((v >>> 29).setWidth 3, v.setWidth 24, principal), pendAt := s.now
          regCls := (v >>> 29).setWidth 3, regTarget := v.setWidth 24 }
        if v.setWidth 24 = (s.act a).svd.target then s else s.wpMoved a)

/-- INJECT_RUN (R189, R198): SVI_CTL written with RUN. -/
def execInjectRun (a : Fin 4) (v : BitVec 32) (s : State) : Eff :=
  let n := v.toNat
  let s := s.onSvi a fun i => { i with
    point := BitVec.ofNat 2 (fld n 28 2), type := BitVec.ofNat 2 (fld n 26 2)
    tones := BitVec.ofNat 2 (fld n 24 2), wrOk := bitOf n 23
    order := BitVec.ofNat 4 (fld n 12 4), hold := BitVec.ofNat 12 (fld n 0 12) }
  let bad := !s.loaded a || decide (fld n 26 2 = 3) || decide (fld n 12 4 < 7)
  .next (
    if bad then s.sveFlag a 7
    else (s.onSvi a fun i => { i with run := true, stop := bitOf n 30 }).engineRequest a)

/-- INJECT_STOP: ends at the next sample instant (R189, R198). -/
def execInjectStop (a : Fin 4) (s : State) : Eff :=
  .next (if (s.act a).svi.run then s.onSvi a fun i => { i with stop := true } else s)

/-- INJECTION_END: LEN periods have passed (R189); correlation stops over the periods taken
(R191). -/
def execInjectionEnd (a : Fin 4) (s : State) : Eff :=
  let i := (s.act a).svi
  .next (
    if i.started && decide (i.len ≠ 0) && decide (i.len.toNat ≤ i.k) then s.injectEnd a else s)

/-- CORRELATION_RUN (R191, R199): SVC_CTL written with RUN. -/
def execCorrelationRun (a : Fin 4) (v : BitVec 32) (s : State) : Eff :=
  let s := s.onSvc a fun c => { c with node1 := BitVec.ofNat 9 (fld v.toNat 9 9)
                                       node0 := BitVec.ofNat 9 (fld v.toNat 0 9) }
  .next (
    if (s.act a).svi.run && decide ((s.act a).svi.type = 0) then
      s.onSvc a fun c => { c with run := true, taken := 0, acc := [] }
    else s.sveFlag a 7)

/-- CORRELATION_DONE (R191). -/
def execCorrelationDone (a : Fin 4) (s : State) : Eff :=
  let c := (s.act a).svc
  .next (if c.run && decide (c.settle.toNat + c.periods.toNat ≤ c.taken) then
    let s := s.onSvc a fun c => { c with taken := c.settle.toNat + c.periods.toNat }
    s.correlationEnd a
  else s)

/-- CHALKBOARD_ARM (R193, R199): SVB_CTL written with ARM. -/
def execChalkboardArm (a : Fin 4) (v : BitVec 32) (s : State) : Eff :=
  let n := v.toNat
  .next (
    let s := s.onSvb a fun b => { b with
      nodes := BitVec.ofNat 3 (fld n 27 3)
      pre := BitVec.ofNat 3 (fld n 24 3), trigSrc := BitVec.ofNat 4 (fld n 20 4)
      decim := BitVec.ofNat 3 (fld n 16 3) }
    if (s.act a).svb.arm then s
    else s.onSvb a fun b => { b with
      arm := true, force := bitOf n 30, state := if fld n 24 3 = 0 then 2 else 1
      next := 0, written := 0, after := 0, skip := 0, seen := 0, last0 := 0, trigIdx := 0 })

/-- CHALKBOARD_FORCE: the software trigger (R193, R199). -/
def execChalkboardForce (a : Fin 4) (s : State) : Eff :=
  .next (if (s.act a).svb.arm then s.onSvb a fun b => { b with force := true } else s)

/-- CHALKBOARD_FULL: the records after the trigger are written (R193). -/
def execChalkboardFull (a : Fin 4) (s : State) : Eff :=
  let b := (s.act a).svb
  .next (if decide (b.state = 3) && decide (b.after = 0) then
    (s.onSvb a fun b => { b with arm := false, force := false, state := 0 }).actEvent a 1 12 0
  else s)

end Sys2Proof.Machine
end

