-- ==== Sys2Proof/Machine/Spindle.lean ====
section
/-! DEFINITION. The commands of spindle control (04 R97 to R132). What ends a power-state entry or a
shutdown (BRAKE_STOPPED) is with the modes. -/

namespace Sys2Proof.Machine

open Sys2Proof

/-- SPN_RUN (R108, R117): from OFF and LOW_HOLD the start begins; otherwise RUN reads 1 until RUN. -/
def execSpnRun (s : State) : Eff :=
  .next (
    match s.spn.state with
    | .off | .lowHold => s.spnStart
    | .run | .syncRect => s
    | _ => s.onSpn fun p => { p with runReq := true })

/-- SPN_STOP (R113). -/
def execSpnStop (s : State) : Eff := .next s.spnStop

/-- SPN_TARGET_WRITE (R107, R123, R128). -/
def execSpnTargetWrite (v : BitVec 32) (s : State) : Eff := .next (s.writeTarget v)

/-- SPN_DTC_WRITE (R104). -/
def execSpnDtcWrite (dtc : Bool) (s : State) : Eff :=
  .next (
    if dtc = s.spn.dtc then s
    else if s.spnIsOff then s.onSpn fun p => { p with dtc := dtc }
    else s.spnFlag 8)

/-- The bytes a spindle parameter's type has (R129). -/
def paramSize (sub : Nat) : Nat :=
  match odRows.find? fun r => r.idx == 0x2010 && r.sub == sub with
  | some r => r.size
  | none => 0

/-- SPN_PARAM_WRITE (R129): the state-bound words only in OFF or LOW_HOLD, the others at the next step
boundary while the spindle runs. -/
def execSpnParamWrite (sub : BitVec 8) (v : BitVec 32) (s : State) : Eff :=
  let n := sub.toNat
  let size := paramSize n
  let x := v.toNat % 2 ^ (8 * size)
  let bound := [0x01, 0x02, 0x28, 0x29, 0x2A].contains n
  .next (
    if size = 0 then s
    else if s.spnIsOff then s.spnParamNow n x
    else if bound then s.spnFlag 8
    else s.onSpn fun p => { p with pendingParams := Tab.set p.pendingParams n x })

/-- Whether spindle control has been in its state for so many ticks. -/
def State.spnStayed (s : State) (ticks : Nat) : Bool := decide (ticks ≤ s.since s.spn.enteredAt)

/-- REST_CHECK_END (R108): 1 ms of REST_CHECK is over. -/
def execRestCheckEnd (peakMv : Nat) (s : State) : Eff :=
  .next (
    if s.spn.state = .restCheck && s.spnStayed msTicks then
      (if peakMv ≤ 20 then s.spnAlign else s.spnCatch)
    else s)

/-- ALIGN_END (R108): the current has flowed for OD 0x2010.07; the ramp starts at the angle aligned. -/
def execAlignEnd (s : State) : Eff :=
  .next (if s.spn.state = .align && s.spnStayed (s.p2010AlignMs * msTicks) then
    ((s.spnEnter .ramp).setElec 0).onSpn fun p => { p with
      openLoop := 0, confident := 0, current := fOfNat s.p2010RampI }
  else s)

/-- A phase current as its sense gives it, in mA (R99). -/
def State.phaseMa (s : State) (i : Nat) : F32 :=
  fMul (fOfZ (((nth s.spn.adc i 0).toNat : Int) - 2048)) s.p2010IScale

/-- The observer's figures of one PWM period (R105, R119): the squared differences of measured and
predicted currents and the speeds of the present step are summed; at a step boundary the residual is
their RMS over OD 0x2010.19. -/
def State.observe (x : PwmInputs) (s : State) : State :=
  let sum := [0, 1, 2].foldl (fun (n : F32) (i : Nat) =>
    let d := fSub (s.phaseMa i) (nth x.pred i 0)
    fAdd n (fMul d d)) s.spn.residSum
  let n := s.spn.residN + 3
  let v := (s.spn.obsSum.1 + x.speed.toNat, s.spn.obsSum.2 + 1)
  s.onSpn fun p =>
    if x.boundary then { p with
      resid := fDiv (fSqrt (fDiv sum (fOfNat n))) (fOfNat s.p2010IRunMax)
      residSum := 0, residN := 0, obsSum := (0, 0), obsSteps := (v :: p.obsSteps).take 6 }
    else { p with residSum := sum, residN := n, obsSum := v }

/-- The observer's speed filtered over one electrical period: the mean of its last six steps, and before
the first step the speed itself (R119; log 107). -/
def Spn.filtered (p : Spn) : BitVec 17 :=
  let sum := p.obsSteps.foldl (fun (n : Nat) e => n + e.1) 0
  let cnt := p.obsSteps.foldl (fun (n : Nat) e => n + e.2) 0
  if cnt = 0 then p.obsSpeed else BitVec.ofNat 17 (sum / cnt)

/-- The senses of a PWM period (R99, R105): SPN_ADC, the observer, I_TRIP, and channels stuck or in
disagreement with the gates (R132). -/
def State.pwmSenses (ticks : Nat) (x : PwmInputs) (s : State) : State :=
  let adc : List (BitVec 12) := (List.range 9).map fun (i : Nat) => nth x.adc i 0
  let s := (s.onSpn fun p => { p with adc := adc, angle := x.angle, obsSpeed := x.speed }).observe x
  let valid := decide (16 * s.p2010RatedRpm < 20 * x.speed.toNat) && fLt s.spn.resid s.p2010ObsResid
  let s := s.onSpn fun p => { p with
    obsValid := valid
    speed := if p.refSrc.toNat < 4 then p.speed else if p.refSrc = 0xF then p.filtered else x.speed
    lastAngle := if valid then x.angle else p.lastAngle
    lastSpeed := if valid then x.speed else p.lastSpeed }
  let s := foldS (fun (i : Nat) t =>
    if fLe (fOfNat t.p2010ITrip) (fAbs (t.phaseMa i)) then (t.fault epSpindle 82 i).spnFlag 6 else t) [0, 1, 2] s
  let s := foldS (fun (i : Nat) t =>
    let c := nth adc i 0
    let n := if c = 0 || c = 0xFFF then Tab.getD t.spn.stuck i 0 + 1 else 0
    let t' := t.onSpn fun p => { p with stuck := Tab.put p.stuck i n 0 }
    if n * ticks ≥ 100 * msTicks && (n - 1) * ticks < 100 * msTicks then t'.fault epSpindle 84 i
    else t') (List.range 9) s
  foldS (fun (i : Nat) t =>
    let hi := t.spn.gates.getLsbD (5 - 2 * i)
    let lo := t.spn.gates.getLsbD (4 - 2 * i)
    let up := decide ((nth adc 7 0).toNat < 2 * (nth adc (3 + i) 0).toNat)
    let n := if (hi && !up) || (lo && up) then Tab.getD t.spn.stuck (16 + i) 0 + 1 else 0
    let t' := t.onSpn fun p => { p with stuck := Tab.put p.stuck (16 + i) n 0 }
    if n = 3 then t'.fault epSpindle 83 i else t') [0, 1, 2] s

/-- RAMP over one PWM period (R106, R108, R109): the commanded frequency rises and commutates at its own
angle, the boundaries of that angle are judged, and at 1.5 times the handover speed the attempt has
failed. -/
def State.rampPeriod (ticks : Nat) (x : PwmInputs) (s : State) : State :=
  let ol := s.spn.openLoop + s.p2010RampRate * ticks
  let (s, step) := s.turnElec ol ticks
  let ho := s.p2010HandoverRpm * rpmUnit
  let diff := ((spd16 x.speed.toNat : Int) - (ol : Int)).natAbs
  let conf := s.spn.obsValid && decide (10 * diff ≤ ol)
  let s := s.onSpn fun p => { p with openLoop := ol, current := fOfNat s.p2010RampI }
  let s := if step && decide (ho ≤ ol) then
      s.onSpn fun p => { p with
        confident := if conf then p.confident + 1 else 0
        obsConf := if conf then (if p.obsConf = 255 then 255 else p.obsConf + 1) else 0 }
    else s
  let s := s.commutate x s.spn.elecAngle
  if 3 * ho ≤ 2 * ol && s.spn.confident < s.p2010HandoverSteps then s.startFailed else s

/-- RUN over one PWM period (R113, R114, R119). -/
def State.runPeriod (ticks : Nat) (x : PwmInputs) (s : State) : State :=
  let above := fLt s.p2010ObsResid s.spn.resid
  let s := s.doIf x.boundary fun t => t.onSpn fun p => { p with
    residHigh := if above then p.residHigh + 1 else 0
    eventAt := s.now, ranFirst := true }
  let s := (s.referenceStep ticks).speedLoop ticks
  let s := (s.ratedReached).commutate x x.angle.toNat
  if s.spn.stopReq && decide (s.spn.reference ≤ s.p2010RatedRpm * rpmUnit / 20) then
    s.spnEnter .brake
  else s

/-- FLYWHEEL over one PWM period (R106, R114): commutation at the last valid speed and angle; good crossings
of the floating phase are counted. -/
def State.flywheelPeriod (ticks : Nat) (x : PwmInputs) (s : State) : State :=
  let (s, _) := s.turnElec (spd16 s.spn.lastSpeed.toNat) ticks
  let s := match x.crossing with
    | none => s
    | some d => s.onSpn fun p => { p with
        eventAt := s.now
        goodCross := if 48 * d.toInt.natAbs ≤ 65536 then p.goodCross + 1 else 0 }
  s.commutate x s.spn.elecAngle

/-- BEMF_LOCK over one PWM period (R106, R112): commutation at the speed and angle caught, corrected at
each crossing of the floating phase; steps on which OBS_VALID has held are counted. -/
def State.bemfPeriod (ticks : Nat) (x : PwmInputs) (s : State) : State :=
  let (s, _) := s.turnElec (s.spn.catchSpeed * rpmUnit) ticks
  let s := s.onSpn fun p => { p with validSteps := if p.obsValid then p.validSteps else 0 }
  let s := match x.crossing with
    | none => s
    | some d =>
      (s.setElec (s.spn.elecAngle + (65536 - d.toNat))).onSpn fun p => { p with
        eventAt := s.now, validSteps := if p.obsValid then p.validSteps + 1 else 0 }
  s.commutate x s.spn.elecAngle

/-- The low sides that BRAKE pulses on: of the phases whose current is below OD 0x2010.1A (R113). -/
def State.brakeGates (s : State) : BitVec 6 :=
  BitVec.ofNat 6 (([0, 1, 2] : List Nat).foldl (fun n i =>
    if fLt (fAbs (s.phaseMa i)) (fOfNat s.p2010ITrip) then n + 2 ^ (4 - 2 * i) else n) 0)

/-- BRAKE over one PWM period (R113, R116): zero crossings are seen; zero-vector braking keeps every low
side on. -/
def State.brakePeriod (x : PwmInputs) (s : State) : State :=
  let s := s.doIf (x.boundary || x.crossing.isSome) fun t => t.onSpn fun p => { p with eventAt := t.now }
  s.doIf (!s.spn.zeroVector) fun t => t.driveGates t.brakeGates

/-- PWM_PERIOD (R99, R105). -/
def State.pwmPeriod (x : PwmInputs) (s : State) : State :=
  let ticks := if s.spn.dtc then s.p2010DtcSample else s.p2010PwmPeriod
  let s := s.pwmSenses ticks x
  let s := if x.boundary || s.spnIsOff then s.takeParams else s
  match s.spn.state with
  | .ramp => s.rampPeriod ticks x
  | .run => s.runPeriod ticks x
  | .flywheel => s.flywheelPeriod ticks x
  | .coast =>
    if s.spn.catchFromRun && !s.spn.waiting500 && !s.spn.retryRun then s.spnCatch else s
  | .bemfLock => s.bemfPeriod ticks x
  | .brake => s.brakePeriod x
  | .syncRect => s.takeFree.driveGates (s.stateGates .syncRect)
  | _ => s

/-- PWM_PERIOD. -/
def execPwmPeriod (p : PwmInputs) (s : State) : Eff := .next (s.pwmPeriod p)

/-- HANDOVER (R109): RUN at the observer's angle, from the ramp's duty. -/
def execHandover (angle : BitVec 16) (s : State) : Eff :=
  .next (
    if s.spn.state = .ramp && decide (s.p2010HandoverSteps ≤ s.spn.confident)
        && decide (s.p2010HandoverRpm * rpmUnit ≤ s.spn.openLoop) then
      let ol := s.spn.openLoop
      let s := (s.enterRun ol true).onSpn fun p => { p with
        angle := angle, lastAngle := angle, lastSpeed := p.obsSpeed, integ := fOfNat s.p2010RampI
        ranFirst := false }
      s.event epSpindle 130 (ol / rpmUnit)
    else s)

/-- LOCKED_ROTOR (R111, R112). Before the first commutation event after a handover it counts as a
failed attempt. -/
def execLockedRotor (s : State) : Eff :=
  .next (
    if !s.rotorLocked then s
    else if s.spn.state = .run && !s.spn.ranFirst then s.startFailed
    else s.lockedRotor)

/-- START_RETRY (R111): the 500 ms with all gates 0 are over. -/
def execStartRetry (s : State) : Eff :=
  .next (
    if s.spn.waiting500 && decide (s.spn.state = .coast) && s.spnStayed (500 * msTicks) then s.spnAlign
    else s)

/-- How long CATCH measures, in ticks: two electrical periods at the speed measured, or at OD 0x2010.11
where no crossing appears (R112). -/
def State.catchTicks (s : State) (rpm : Nat) : Nat :=
  12 * s.stepTicks (16 * if rpm = 0 then s.p2010CatchRpm else rpm)

/-- CATCH_END (R112). -/
def execCatchEnd (rpm : Nat) (x : CatchFind) (s : State) : Eff :=
  .next (
    if s.spn.state = .catching && s.spnStayed (s.catchTicks rpm) then
      let s := s.event epSpindle 131 (rpm % 2 ^ 31 + b2n x.reverse * 2 ^ 31)
      if s.p2010CatchRpm ≤ rpm && !x.reverse then
        (((s.spnEnter .bemfLock).holdWrites).setElec x.angle.toNat).onSpn fun p => { p with
          catchSpeed := rpm, validSteps := 0 }
      else (s.spnEnter .brake).onSpn fun p => { p with catchFromRun := false }
    else s)

/-- BEMF_LOCK_HANDOVER (R112): RUN from the measured speed, bumplessly. -/
def execBemfLockHandover (s : State) : Eff :=
  .next (
    if s.spn.state = .bemfLock && decide (s.p2010HandoverSteps ≤ s.spn.validSteps) then
      let again := s.spn.catchFromRun
      let v := s.spn.speed.toNat
      let s := (s.enterRun (spd16 v) false).onSpn fun p => { p with
        catchFromRun := false, ranFirst := true }
      if again then s.event epSpindle 139 1 else s.event epSpindle 130 (v / 16)
    else s)

/-- OBSERVER_LOSS (R114). -/
def execObserverLoss (s : State) : Eff :=
  .next (
    if s.spn.state = .run && decide (6 * s.p2010ObsLossPer ≤ s.spn.residHigh) then
      let v := s.spn.speed.toNat / 16
      let s := ((s.fault epSpindle 75 0).event epSpindle 138 v).spnFlag 1
      ((s.holdWrites.spnEnter .flywheel).setElec s.spn.lastAngle.toNat).onSpn fun p => { p with
        goodCross := 0 }
    else s)

/-- REACQUIRED (R107, R114): RUN resumes; a target written meanwhile takes effect from the measured
speed. -/
def execReacquired (s : State) : Eff :=
  .next (
    if s.spn.state = .flywheel && decide (12 ≤ s.spn.goodCross) then
      let ref := if s.spn.storedTarget.isSome then spd16 s.spn.speed.toNat else s.spn.reference
      (s.enterRun ref false).event epSpindle 139 0
    else s)

/-- FLYWHEEL_EXPIRY (R114): OD 0x2010.14 electrical periods have passed; COAST for one PWM period, then
CATCH. -/
def execFlywheelExpiry (s : State) : Eff :=
  .next (
    if s.spn.state = .flywheel && decide (s.p2010FlywheelPer ≤ s.spn.turns) then
      ((s.fault epSpindle 76 0).spnEnter .coast).onSpn fun p => { p with catchFromRun := true }
    else s)

/-- OV_WARN_CROSS (R115, R116): upward the warning; downward, 300 mV below, the halving ends, and below
the level itself zero-vector braking ends through CATCH. -/
def execOvWarnCross (up : Bool) (mv : Nat) (s : State) : Eff :=
  .next (
    if up then
      if mv < s.p2010OvWarn then s
      else
        let s := ((s.fault epSpindle 78 0).spnFlag 2).doIf (!s.spn.ovWarned) fun t =>
          t.onRc fun r => { r with ovEpisodes := r.ovEpisodes + 1 }
        s.onSpn fun p => { p with ovWarned := true }
    else
      let s := if mv + 300 ≤ s.p2010OvWarn then s.onSpn fun p => { p with ovWarned := false } else s
      if s.spn.zeroVector && decide (mv < s.p2010OvWarn) then s.spnCatch else s)

/-- CHOP_ON_CROSS (R115): after a chopper fault SP.CHD is never driven (R116). -/
def execChopOnCross (mv : Nat) (s : State) : Eff :=
  .next (
    if s.spn.chopFault || s.spn.chopOn || decide (mv < s.p2010OvChopOn) then s
    else
      ((s.onSpn fun p => { p with chopOn := true, chopAt := s.now }).spnFlag 3)
        |>.event epSpindle 140 mv)

/-- CHOP_OFF_CROSS (R115). -/
def execChopOffCross (s : State) : Eff :=
  .next (
    if s.spn.chopOn then
      let us := s.since s.spn.chopAt / usTicks
      ((s.onSpn fun p => { p with chopOn := false }).event epSpindle 141 us).fault epSpindle 79 0
    else s)

/-- Whether SP.CHD has been 1 for so many microseconds. -/
def State.choppedFor (s : State) (us : Nat) : Bool :=
  s.spn.chopOn && decide (us * usTicks ≤ s.since s.spn.chopAt)

/-- CHOP_SENSE_TIMEOUT (R116): 20 us without chopper current. -/
def execChopSenseTimeout (mv : Nat) (s : State) : Eff :=
  .next (if s.choppedFor 20 then s.chopperFault 0 mv else s)

/-- CHOP_WIN_EXPIRY (R116): SP.VSUP is not back below OV_CHOP_ON within OD 0x2010.1E. -/
def execChopWinExpiry (mv : Nat) (s : State) : Eff :=
  .next (
    if s.choppedFor s.p2010ChopWin && decide (s.p2010OvChopOn ≤ mv) then s.chopperFault 1 mv else s)

/-- OV_FATAL_CROSS (R117). -/
def execOvFatalCross (s : State) : Eff :=
  let s := s.spnGiveUp.onSpn fun p => { p with stopReq := false }
  .next ((((s.spnEnter .lowHold).fault epSpindle 81 0).spnFlag 5).retractAll)

/-- REF_MOVE (R119, R120). -/
def execRefMove (s : State) : Eff :=
  let w := s.wantedRef
  .next (
    if w = s.spn.refSrc then s
    else
      let s := (s.onSpn fun p => { p with
        refSrc := w, devCount := 0, locked := false }).spnFlag 7
      let s := s.event epSpindle 133 w.toNat
      if w = 0xF && s.presentActs.any (fun a => s.loaded a) then s.fault epSpindle 85 0 else s)

/-- SPEED_DEVIATION (R121). -/
def execSpeedDeviation (s : State) : Eff :=
  .next (if 64 ≤ s.spn.devCount then
    (s.fault epSpindle 77 s.spn.refSrc.toNat).onSpn fun p => { p with devCount := 0 } else s)

/-- SLEW_RELEASE (R122): the release notice. -/
def execSlewRelease (s : State) : Eff :=
  .next (
    if s.notAssured && decide (s.spn.state = .run)
        && decide (s.p2010ReleaseWedges ≤ s.spn.relCount) then
      let s := s.sendNotice { target := s.spn.target, rate := 0, start := s.now16 }
      (s.onSpn fun p => { p with wrHold := false }).event epSpindle 137 0
    else s)

/-- SLEW_START_INSTANT (R122): an island's notice in force names an instant that has come. -/
def execSlewStartInstant (a : Fin 4) (s : State) : Eff :=
  .next (
    if s.present a && s.domOn (20 + a.val) && decide ((s.act a).isl.notice.start ≤ s.now16) then
      s.noticeStarts a
    else s)

/-- SLEW_RAMP_END (R122): the ramp of an island's notice in force has had its time. -/
def execSlewRampEnd (a : Fin 4) (s : State) : Eff :=
  .next (if s.present a && s.domOn (20 + a.val) && s.rampOver a then s.noticeEnds a else s)

end Sys2Proof.Machine
end

