-- ==== Sys2Proof/Machine/RegWrite.lean ====
section
/-! DEFINITION. What a write of a register does: RW fields are stored and W1C flags cleared (04 R127 and
the register tables of the other chapters); a field with behaviour of its own does what the command of
that name does. Offsets no register is at, and read-only registers, take nothing. -/

namespace Sys2Proof.Machine

open Sys2Proof

/-- The state a command leaves. -/
def runEff (e : State → Eff) (s : State) : State :=
  match e s with
  | .next t => t
  | _ => s

/-- A command carried out when a bit is written 1. -/
def onBit (v : BitVec 32) (n : Nat) (e : State → Eff) (s : State) : State :=
  if v.getLsbD n then runEff e s else s

/-- A field of a written word. -/
def wf (v : BitVec 32) (lo n : Nat) : Nat := fld v.toNat lo n

/-- Flags cleared by a write of 1 (04 R127). -/
def w1c {w : Nat} (f : BitVec w) (v : BitVec 32) : BitVec w := f &&& ~~~ (v.setWidth w)

/-- The low word of a register pair replaced. -/
def putLo {w : Nat} (x : BitVec w) (v : BitVec 32) : BitVec w :=
  BitVec.ofNat w (x.toNat / 2 ^ 32 * 2 ^ 32 + v.toNat)

/-- The high word of a register pair replaced. -/
def putHi {w : Nat} (x : BitVec w) (v : BitVec 32) : BitVec w :=
  BitVec.ofNat w (v.toNat * 2 ^ 32 + x.toNat % 2 ^ 32)

/-- An object of an actuator, set through its register (03 R71). -/
def State.odSetA (key : Nat) (a : Fin 4) (v : Nat) (s : State) : State :=
  s.odSet (key + 0x10000 * a.val) v

/-! Spindle control (04 R125, R127 to R129). -/

/-- SPN_CTL: DTC and the reference fields, then RUN, then STOP. -/
def State.writeSpnCtl (v : BitVec 32) (s : State) : State :=
  let s := (runEff (execSpnDtcWrite (v.getLsbD 8)) s).onSpn fun p => { p with
    refMode := v.extractLsb' 4 2, refAct := v.extractLsb' 2 2 }
  (s |> onBit v 0 execSpnRun) |> onBit v 1 execSpnStop

/-- A register of spindle control. -/
def State.writeSpindle (off : Nat) (v : BitVec 32) (s : State) : State :=
  match off with
  | 0x000 => s.writeSpnCtl v
  | 0x008 => s.onSpn fun p => { p with flags := w1c p.flags v }
  | 0x010 => runEff (execSpnTargetWrite v) s
  | _ =>
    if 0x100 ≤ off && off ≤ 0x1A8 then
      runEff (execSpnParamWrite (BitVec.ofNat 8 ((off - 0x100) / 4 + 1)) v) s
    else s

/-! Actuator islands. -/

/-- ISL_CTL (05 R151, R156): each bit written 1 acts; UNLOAD discards a LOAD written with it. -/
def State.writeIslCtl (a : Fin 4) (v : BitVec 32) (s : State) : State :=
  let s := (s |> onBit v 0 (execCalDone a (nth s.sys.calTemps a.val []))) |> onBit v 1 (execCalFail a)
  if v.getLsbD 3 then runEff (execHeadUnload a false) s else s |> onBit v 2 (execHeadLoad a)

/-- ISL_CALREQ (11 R357): its fields, REQ, WITHDRAW. -/
def State.writeCalReq (a : Fin 4) (v : BitVec 32) (s : State) : State :=
  let s := if v.getLsbD 31 then runEff (execCalRequest a v) s
    else s.onCal a fun c => { c with
      safety := v.getLsbD 29, deadline := v.extractLsb' 16 13, duration := v.extractLsb' 0 16 }
  s |> onBit v 30 (execCalWithdraw a)

/-- Island control (05 R156, 11 R357). -/
def State.writeIsl (a : Fin 4) (off : Nat) (v : BitVec 32) (s : State) : State :=
  match off with
  | 0x00 => s.writeIslCtl a v
  | 0x10 => s.writeCalReq a v
  | 0x14 =>
    (s.onCal a fun c => { c with conflict := c.conflict && !v.getLsbD 29 })
      |> onBit v 30 (execCalGrantDone a)
  | _ => s

/-- SVD_CTL (05 R158): a new HEAD is a head switch. -/
def State.writeSvdCtl (a : Fin 4) (v : BitVec 32) (s : State) : State :=
  let s := (s.odSetA 0x340005 a (wf v 4 2)).odSetA 0x340006 a (wf v 3 1)
  let s := if v.extractLsb' 8 5 = (s.act a).svd.head then s
    else runEff (execHeadSwitch a (v.extractLsb' 8 5)) s
  s |> onBit v 2 (execForceAcquire a)

/-- The demodulator (05 R155, R158, R159). -/
def State.writeSvd (a : Fin 4) (off : Nat) (v : BitVec 32) (s : State) : State :=
  match off with
  | 0x00 => s.writeSvdCtl a v
  | 0x04 =>
    ((s.onSvd a fun d => { d with samErr := v.extractLsb' 24 2 }).odSetA 0x340008 a (wf v 16 8)).odSetA
      0x340004 a (max 20 (min 2000 (wf v 0 16)))
  | 0x0C => s.onSvd a fun d => { d with flags := w1c d.flags v }
  | 0x10 => runEff (execSvdTargetWrite a (v.setWidth 24)) s
  | 0x28 => s.onSvd a fun d => { d with skew := v.setWidth 16 }
  | 0x2C => s.onSvd a fun d => { d with rbOfs := v }
  | _ => s

/-- Motion sensing (05 R160). -/
def State.writeMsn (a : Fin 4) (off : Nat) (v : BitVec 32) (s : State) : State :=
  match off with
  | 0x00 => (s.odSetA 0x34000E a (wf v 16 16)).odSetA 0x34000D a (wf v 0 12)
  | 0x04 => s.onMsn a fun m => { m with flags := w1c m.flags v }
  | _ => s

/-- SVE_CFG (06 R197). -/
def State.writeSveCfg (a : Fin 4) (v : BitVec 32) (s : State) : State :=
  ((((s.odSetA 0x300008 a (wf v 24 8)).odSetA 0x300006 a (wf v 16 8)).odSetA 0x300005 a (wf v 6 10)).odSetA
    0x30000B a (wf v 1 1)).odSetA 0x300009 a (wf v 0 1)

/-- SVE_UPD_CTL (06 R176, R197). -/
def State.writeUpdCtl (a : Fin 4) (v : BitVec 32) (s : State) : State :=
  if v.getLsbD 31 then runEff (execUpdateGo a (v.setWidth 6)) s
  else if (s.act a).sve.updGo then s.sveFlag a 7
  else s.onSve a fun x => { x with updCount := v.setWidth 6 }

/-- A word of SVE_UPD (06 R176, R197). -/
def State.writeUpd (a : Fin 4) (k : Nat) (v : BitVec 32) (s : State) : State :=
  if (s.act a).sve.updGo then s.sveFlag a 7
  else s.onSve a fun x => { x with
    upd := Tab.put x.upd k (if k % 2 = 0 then v &&& 0x800007FF else v) 0 }

/-- SVE_DECAY (06 R194): clamped to 0.0 to 1.0; a NaN is ignored. -/
def State.writeDecay (a : Fin 4) (v : BitVec 32) (s : State) : State :=
  if fIsNaN v then s else s.odSetA 0x300007 a (fClamp 0 0x3F800000 v).toNat

/-- SVI_CTL (06 R198): RUN takes the fields and starts; STOP ends an injection. -/
def State.writeSviCtl (a : Fin 4) (v : BitVec 32) (s : State) : State :=
  if v.getLsbD 31 then runEff (execInjectRun a v) s
  else
    (s.onSvi a fun i => { i with
      point := v.extractLsb' 28 2, type := v.extractLsb' 26 2, tones := v.extractLsb' 24 2
      wrOk := v.getLsbD 23, order := v.extractLsb' 12 4, hold := v.extractLsb' 0 12 }).engineRequest a
      |> onBit v 30 (execInjectStop a)

/-- SVC_CTL (06 R199). -/
def State.writeSvcCtl (a : Fin 4) (v : BitVec 32) (s : State) : State :=
  if v.getLsbD 31 then runEff (execCorrelationRun a v) s
  else s.onSvc a fun c => { c with node1 := v.extractLsb' 9 9, node0 := v.extractLsb' 0 9 }

/-- SVB_CTL (06 R199). -/
def State.writeSvbCtl (a : Fin 4) (v : BitVec 32) (s : State) : State :=
  let s := if v.getLsbD 31 then runEff (execChalkboardArm a v) s
    else s.onSvb a fun b => { b with
      nodes := v.extractLsb' 27 3, pre := v.extractLsb' 24 3, trigSrc := v.extractLsb' 20 4
      decim := v.extractLsb' 16 3 }
  s |> onBit v 30 (execChalkboardForce a)

/-- The engine's ranges of registers (06 R194). -/
def State.writeSveRange (a : Fin 4) (off : Nat) (v : BitVec 32) (s : State) : State :=
  if 0x020 ≤ off && off ≤ 0x03C then
    s.onSve a fun x => { x with xcb := Tab.put x.xcb ((off - 0x020) / 4) v 0 }
  else if 0x100 ≤ off && off ≤ 0x1FC then s.writeUpd a ((off - 0x100) / 4) v
  else if 0x220 ≤ off && off ≤ 0x27C then s.odSetA (0x301001 + (off - 0x220) / 4) a v.toNat
  else if 0x304 ≤ off && off ≤ 0x310 then
    s.onSvi a fun i => { i with inc := Tab.put i.inc ((off - 0x304) / 4) v 0 }
  else if 0x314 ≤ off && off ≤ 0x320 then
    s.onSvi a fun i => { i with amp := Tab.put i.amp ((off - 0x314) / 4) v 0 }
  else if 0x400 ≤ off && off ≤ 0x7FC then
    runEff (execSveRegisterWrite a (BitVec.ofNat 8 ((off - 0x400) / 4)) v) s
  else if 0x810 ≤ off && off ≤ 0x82C then
    let k := (off - 0x810) / 4
    s.onSvb a fun b => { b with
      sel := Tab.put (Tab.put b.sel (2 * k) (v.extractLsb' 0 9) 0) (2 * k + 1) (v.extractLsb' 16 9) 0 }
  else s

/-- The servo engine, the profile generator, the injector, the correlation accumulators and the
Chalkboard (06 R194 to R199). `principal`: written with a principal core's rights (R186). -/
def State.writeSve (a : Fin 4) (principal : Bool) (off : Nat) (v : BitVec 32) (s : State) : State :=
  match off with
  | 0x000 => (s |> onBit v 0 (execEngineRun a)) |> onBit v 1 (execEngineStop a)
  | 0x008 => s.onSve a fun x => { x with flags := w1c x.flags v }
  | 0x00C => s.writeSveCfg a v
  | 0x010 => runEff (execSveEntryWrite a (v.setWidth 12)) s
  | 0x014 => s.odSetA 0x30000C a (wf v 0 16)
  | 0x018 => s.onSve a fun x => { x with minSlack := v.setWidth 16 }
  | 0x040 => s.writeUpdCtl a v
  | 0x044 => s.writeDecay a v
  | 0x048 => s.odSetA 0x30000A a v.toNat
  | 0x200 => runEff (execSeekStart a v principal) s
  | 0x204 => s.onSvp a fun p => { p with
      rejected := p.rejected && !v.getLsbD 2, done := p.done && !v.getLsbD 1 }
  | 0x300 => s.writeSviCtl a v
  | 0x324 => s.onSvi a fun i => { i with len := v }
  | 0x380 => s.writeSvcCtl a v
  | 0x384 => s.onSvc a fun c => { c with settle := v }
  | 0x388 => s.onSvc a fun c => { c with periods := v }
  | 0x800 => s.writeSvbCtl a v
  | 0x808 => s.onSvb a fun b => { b with level := v }
  | _ => s.writeSveRange a off v

/-- RCH_CTL (07 R232): clearing both readers sets CONFLICT and leaves both set. -/
def State.writeRchCtl (a : Fin 4) (v : BitVec 32) (s : State) : State :=
  let s := s.onRch a fun r => { r with
    muA := v.extractLsb' 20 4, muB := v.extractLsb' 16 4, wb := v.getLsbD 11
    adaptB := v.getLsbD 10, adaptA := v.getLsbD 9 }
  if wf v 0 2 = 0 then (s.odSetA 0x40000B a 3).rchFlag a 8 else s.odSetA 0x40000B a (wf v 0 2)

/-- RCH_PIN (07 R234): the unpins, then the pins. -/
def State.writeRchPin (a : Fin 4) (v : BitVec 32) (s : State) : State :=
  let s := foldS (fun (k : Fin 8) t => t |> onBit v (8 + k.val) (execSlotUnpin a k false))
    (List.finRange 8) s
  foldS (fun (k : Fin 8) t => t |> onBit v k.val (execSlotPin a k false)) (List.finRange 8) s

/-- The request RCH_RPL and its companions name (07 R228, R235). -/
def Rch.request (r : Rch) : ReplayReq :=
  let w := r.rpl
  { resident := false, ladder := none, slot := w.extractLsb' 15 3, anchor := w.extractLsb' 24 2
    index := r.rplIdx, offset := (w.extractLsb' 20 4).toInt
    bank := if w.getLsbD 29 then some (w.extractLsb' 26 3) else none
    weights := if w.getLsbD 30 then some r.rplW else none
    erase := w.extractLsb' 18 2, extra := r.rplErs, iter := wf w 8 6 }

/-- RCH_RPL (07 R235). -/
def State.writeRpl (a : Fin 4) (v : BitVec 32) (s : State) : State :=
  let s := s.onRch a fun r => { r with rpl := v &&& 0x7FFFBF00 }
  s |> onBit v 31 (execReplayRequest a (s.act a).rch.request)

/-- The bits a word of a read bank holds, by its number in the bank (07 R213). -/
def rchBankMask (k : Nat) : BitVec 32 :=
  match k with
  | 0 => 0xE0001F3F
  | 1 => 0x0003FFFF
  | 2 => 0x00FFFFFF
  | 3 => 0x00FFFFFF
  | 4 => 0x0000FFFF
  | 6 => 0x00FFFF00
  | 7 => 0x0000FFFF
  | 30 => 0x0000FFFF
  | 31 => 0xFFFF00FF
  | 33 => 0x0000FFFF
  | 34 => 0x0000000F
  | _ => if k < 35 then 0xFFFFFFFF else 0

/-- A word of a read bank (07 R210, R213). -/
def State.writeRchBank (a : Fin 4) (n : Nat) (v : BitVec 32) (s : State) : State :=
  s.onRch a fun r => { r with
    banks := Tab.put r.banks n (v &&& rchBankMask (n % 64)) 0, tapHold := n :: r.tapHold }

/-- The read channel and its banks (07 R213, R231 to R235). -/
def State.writeRch (a : Fin 4) (off : Nat) (v : BitVec 32) (s : State) : State :=
  match off with
  | 0x00 => s.writeRchCtl a v
  | 0x08 => s.onRch a fun r => { r with flags := w1c r.flags v }
  | 0x10 => s.writeRchPin a v
  | 0x20 => s.writeRpl a v
  | 0x30 => s.onRch a fun r => { r with rplIdx := v.setWidth 16 }
  | 0x34 => s.onRch a fun r => { r with rplErs := v &&& 0x0FFFFFFF }
  | 0x38 => s.onRch a fun r => { r with rplW := v }
  | 0x40 => s.onRch a fun r => { r with sectors := v }
  | 0x44 => s.onRch a fun r => { r with otfFail := v }
  | 0x48 => s.onRch a fun r => { r with iterSum := v }
  | 0x4C => s.onRch a fun r => { r with mgnSum := v }
  | 0x50 => s.odSetA 0x400009 a (wf v 0 4)
  | _ => if 0x800 ≤ off && off ≤ 0xFFC then s.writeRchBank a ((off - 0x800) / 4) v else s

/-- The bits a word of a write bank holds, by its number in the bank (09 R274). -/
def wpBankMask (k : Nat) : BitVec 32 :=
  match k with
  | 0 => 0xE0001F3F
  | 1 => 0x0003FFFF
  | 2 => 0x0000FFFF
  | 3 => 0x000000FF
  | 4 => 0x0FFF0FFF
  | 5 => 0x03FF03FF
  | 6 => 0x3F3F3F3F
  | 7 => 0xFFFFFFFF
  | 8 => 0x0000FFFF
  | _ => 0

/-- WP_FLAGS.CONFLICT. -/
def State.wpConflict (a : Fin 4) (s : State) : State :=
  s.onWp a fun w => { w with flags := setBit w.flags 8 true }

/-- WP_CTL (09 R293, R294): the actuator core does not change STRICT. -/
def State.writeWpCtl (a : Fin 4) (guest : Bool) (v : BitVec 32) (s : State) : State :=
  let s := (s.odSetA 0x480008 a (wf v 16 16)).odSetA 0x480009 a (wf v 12 4)
  let s := s.onWp a fun w => { w with
    wotRel := v.extractLsb' 8 4, strict := if guest then w.strict else v.getLsbD 2 }
  let s := if guest && (v.getLsbD 2 != (s.act a).wp.strict) then s.wpConflict a else s
  runEff (execWriteHold a (v.getLsbD 1)) s

/-- A trim as the register keeps it: clamped to 500 per mille either way (09 R293). -/
def trimOf (v : BitVec 32) (lo : Nat) : Nat :=
  (BitVec.ofInt 16 (clampInt (-500) 500 (sfld v.toNat lo 16))).toNat

/-- The registers of the write path the actuator core does not write (09 R293). -/
def State.writeWpResident (a : Fin 4) (off : Nat) (v : BitVec 32) (s : State) : State :=
  match off with
  | 0x0C => (s.odSetA 0x480005 a (wf v 16 16)).odSetA 0x480004 a (wf v 0 16)
  | 0x10 => (s.odSetA 0x480007 a (wf v 16 16)).odSetA 0x480006 a (wf v 0 16)
  | _ =>
    let h := (off - 0x80) / 4
    (s.odSetA (0x482001 + h) a (trimOf v 16)).odSetA (0x481001 + h) a (trimOf v 0)

/-- PSC_SENSE and PSC_RAW without REQ and SEND keep their fields (09 R296, R297). -/
def State.writePsc (a : Fin 4) (off : Nat) (v : BitVec 32) (s : State) : State :=
  match off with
  | 0x100 => (s |> onBit v 31 (execPscCtlIdReq a)) |> onBit v 30 (execPscCtlFclr a)
  | 0x10C =>
    if v.getLsbD 31 then runEff (execPscSenseRequest a (v.extractLsb' 24 4)) s
    else s.onPsc a fun p => { p with sensor := v.extractLsb' 24 4 }
  | 0x110 =>
    if v.getLsbD 31 then runEff (execPscRawSend a (v.extractLsb' 24 6) (v.extractLsb' 8 16)) s
    else s.onPsc a fun p => { p with rawCode := v.extractLsb' 24 6, rawData := v.extractLsb' 8 16 }
  | _ => s

/-- The write path, its banks and the PSC link (09 R274, R293 to R297). -/
def State.writeWp (a : Fin 4) (guest : Bool) (off : Nat) (v : BitVec 32) (s : State) : State :=
  if off = 0x00 then s.writeWpCtl a guest v
  else if off = 0x08 then s.onWp a fun w => { w with flags := w1c w.flags v }
  else if off = 0x0C || off = 0x10 || (0x80 ≤ off && off ≤ 0xFC) then
    if guest then s.wpConflict a else s.writeWpResident a off v
  else if 0xC00 ≤ off && off ≤ 0xFFC then
    s.onWp a fun w => { w with
      banks := Tab.put w.banks ((off - 0xC00) / 4) (v &&& wpBankMask ((off - 0xC00) / 4 % 16)) 0 }
  else s.writePsc a off v

/-- A register of an actuator island, by its offset below 0x10000 (01 R29). -/
def State.writeIsland (a : Fin 4) (guest principal : Bool) (off : Nat) (v : BitVec 32) (s : State) :
    State :=
  match off / 0x1000 with
  | 0 => s.writeIsl a (off % 0x1000) v
  | 1 => s.writeSvd a (off % 0x1000) v
  | 2 => s.writeSve a principal (off % 0x1000) v
  | 3 => s.writeRch a (off % 0x1000) v
  | 4 => s.writeWp a guest (off % 0x1000) v
  | 5 => s.writeMsn a (off % 0x1000) v
  | _ => s

/-! The scrubber (13 R412, R413). -/

/-- A range register of the scrubber: SCR_START rounded down to 64, SCR_END up to its granule's last
byte; refused while a scrub runs. -/
def State.writeScrubRange (off : Nat) (v : BitVec 32) (s : State) : State :=
  if s.scr.state = .running then s.onScr fun x => { x with flags := setBit x.flags 2 true }
  else s.onScr fun x =>
    match off with
    | 0x10 => { x with start := putLo x.start (v &&& 0xFFFFFFC0) }
    | 0x14 => { x with start := putHi x.start v }
    | 0x18 => { x with stop := putLo x.stop (v ||| 0x3F) }
    | _ => { x with stop := putHi x.stop v }

/-- A register of the scrubber. -/
def State.writeScrubber (off : Nat) (v : BitVec 32) (s : State) : State :=
  match off with
  | 0x00 =>
    let s := if v.getLsbD 31 then runEff (execScrubGo v) s
      else s.onScr fun x => { x with
        fix := v.getLsbD 17, sig := v.getLsbD 16, rate := v.setWidth 16 }
    s |> onBit v 30 execScrubAbort
  | 0x08 => s.onScr fun x => { x with flags := w1c x.flags v }
  | 0x0C => s.onScr fun x => { x with limit := v.setWidth 16 }
  | _ => if 0x10 ≤ off && off ≤ 0x1C then s.writeScrubRange off v else s

/-! DMA and timers (15 R452, R453, 19 R533). -/

/-- A register of a DMA channel. -/
def State.writeChannel (n : Fin 16) (off : Nat) (v : BitVec 32) (s : State) : State :=
  match off with
  | 0x00 => s |> onBit v 0 (execDmaAbort n)
  | 0x08 => runEff (execDmaPtrWrite n v) s
  | 0x0C => runEff (execDmaKick n) s
  | 0x10 => s.onDmaCh n fun c => { c with flags := w1c c.flags v }
  | _ => s

/-- A register of a timer. -/
def State.writeTimer (t : Fin 16) (off : Nat) (v : BitVec 32) (s : State) : State :=
  match off with
  | 0x00 =>
    let s := if v.getLsbD 31 then runEff (execTimRun t v) s else s.onTimer t.val (Timer.ctl v)
    s |> onBit v 30 (execTimStop t)
  | 0x04 => s.onTimer t.val fun x => { x with reload := v }
  | 0x0C => s.onTimer t.val fun x => { x with atTime := putLo x.atTime v }
  | 0x10 => s.onTimer t.val fun x => { x with atTime := putHi x.atTime v }
  | 0x18 => s.onTimer t.val fun x => { x with flags := w1c x.flags v }
  | _ => s

/-- A register of the DMA window. -/
def State.writeDma (off : Nat) (v : BitVec 32) (s : State) : State :=
  if h : off < 0x10000 then s.writeChannel ⟨off / 0x1000, by omega⟩ (off % 0x1000) v
  else if h : 0x80000 ≤ off ∧ off < 0x81000 then
    s.writeTimer ⟨(off - 0x80000) / 0x100, by omega⟩ (off % 0x100) v
  else s

/-! Hall Monitor (16 R471 to R476). -/

/-- HM_SRC_STAT written: LASTING, IRQ and PENDING cleared (16 R475). -/
def State.writeSrcStat (n : Nat) (v : BitVec 32) (s : State) : State :=
  let s := if v.getLsbD 31 then s.clearLasting n else s
  s.onHmSrc n fun x => { x with
    irq := x.irq && !v.getLsbD 30, pending := x.pending && !v.getLsbD 29 }

/-- One of a source's four registers; a view shows CFG and WIN read-only (16 R471). -/
def State.writeSrc (n : Fin 160) (view : Bool) (off : Nat) (v : BitVec 32) (s : State) : State :=
  match off / 4 with
  | 0 => if view then s else runEff (execSrcCfgWrite n v) s
  | 1 => if view then s else runEff (execSrcWinWrite n v) s
  | 2 => s.writeSrcStat n.val v
  | _ => s.onHmSrc n.val fun x => { x with count := v }

/-- A write of 1 to a bit of a word of 32 sources does something to the source. -/
def eachSource (w : Nat) (v : BitVec 32) (f : Nat → State → State) (s : State) : State :=
  foldS (fun b t => if v.getLsbD b then f (32 * w + b) t else t) (List.range 32) s

/-- The view page of an actuator (16 R471, R476). -/
def State.writeHallView (a : Fin 4) (off : Nat) (v : BitVec 32) (s : State) : State :=
  if h : off < 0x0C0 then
    s.writeSrc ⟨88 + 12 * a.val + off / 16, by omega⟩ true (off % 16) v
  else if off = 0x100 then s.onHm fun h => { h with vMask := h.vMask.set a (v.setWidth 12) }
  else s

/-- HM_EO (16 R468, R474): WIDTH, then the clear of HOLD, then FORCE. -/
def State.writeEo (v : BitVec 32) (s : State) : State :=
  let s := s.onHm fun h => { h with eoWidth := BitVec.ofNat 17 (max 10 (min 100000 (wf v 0 17))) }
  (s |> onBit v 31 execEoHoldClear) |> onBit v 30 execEoForce

/-- HM_INJECT (16 R472, R473). -/
def State.writeInject (src : Endpoint) (v : BitVec 32) (s : State) : State :=
  let s := s.onHm fun h => { h with injKind := v.extractLsb' 8 4, injSource := v.extractLsb' 0 8 }
  s |> onBit v 31 (execHmInject src (wf v 0 8) (wf v 8 4))

/-- A register of the Hall Monitor. -/
def State.writeHall (src : Endpoint) (off : Nat) (v : BitVec 32) (s : State) : State :=
  match off with
  | 0x000 => s.onHm fun h => { h with
      sevMode := v.getLsbD 31, histMin := v.extractLsb' 8 3, core := v.extractLsb' 0 2 }
  | 0x008 => s.writeEo v
  | 0x00C => s |> onBit v 31 execHistoryClear
  | 0x018 => s.writeInject src v
  | 0x01C => s.onHm fun h => { h with
      conflict := h.conflict && !v.getLsbD 1, badSource := h.badSource && !v.getLsbD 0 }
  | _ =>
    if 0x020 ≤ off && off ≤ 0x030 then
      s |> eachSource ((off - 0x020) / 4) v fun n t => t.onHmSrc n fun x => { x with irq := false }
    else if 0x040 ≤ off && off ≤ 0x050 then
      s |> eachSource ((off - 0x040) / 4) v State.clearLasting
    else if h : 0x1000 ≤ off ∧ off < 0x1A00 then
      s.writeSrc ⟨(off - 0x1000) / 16, by omega⟩ false (off % 16) v
    else if h : 0x80000 ≤ off ∧ off < 0xC0000 then
      s.writeHallView ⟨(off - 0x80000) / 0x10000, by omega⟩ (off % 0x10000) v
    else s

/-! Yearbook window (17 R488, R494, R495). -/

/-- YB_CTL: each move of the cursor whose bit is written 1. -/
def State.writeYbCtl (who : YbWho) (v : BitVec 32) (s : State) : State :=
  (((s |> onBit v 31 (execYbCursorNext who)) |> onBit v 30 (execYbCursorPrev who))
    |> onBit v 29 (execYbCursorToFirst who)) |> onBit v 28 (execYbCursorToLast who)

/-- A register of the Yearbook window, in an initiator's bank. -/
def State.writeYearbook (who : YbWho) (off : Nat) (v : BitVec 32) (s : State) : State :=
  let n := bankOf who
  match off with
  | 0x000 => s.writeYbCtl who v
  | 0x008 => s.onBank n fun b => { b with cur := putLo b.cur v }
  | 0x00C => s.onBank n fun b => { b with cur := putHi b.cur v }
  | 0x020 => s.onBank n fun b => { b with flags := w1c b.flags v }
  | 0x080 =>
    if v.getLsbD 31 then runEff (execYbAppend who (v.extractLsb' 0 16) (v.extractLsb' 16 6)) s
    else s.onBank n fun b => { b with len := v.extractLsb' 16 6, ty := v.extractLsb' 0 16 }
  | _ =>
    if 0x0A0 ≤ off && off ≤ 0x0BC then
      s.onBank n fun b => { b with app := Tab.put b.app ((off - 0x0A0) / 4) v 0 }
    else s

/-! Event controller (19 R531, R532). -/

/-- The events the tier has: enables of the others read 0 (19 R531). -/
def State.evcPresentMask (s : State) : BitVec 352 :=
  (List.range 352).foldl (fun m e => if s.evPresent e then setBit m e true else m) 0

/-- A word of enables replaced among the 352. -/
def putWord (m : BitVec 352) (w : Nat) (v : BitVec 32) : BitVec 352 :=
  (m &&& ~~~ (evcBits w 0xFFFFFFFF)) ||| evcBits w v

/-- The view page of an actuator. -/
def State.writeEventView (a : Fin 4) (off : Nat) (v : BitVec 32) (s : State) : State :=
  let bits := viewMask a (v.setWidth 28)
  match off with
  | 0x000 => s.onEvc fun e => { e with pend := e.pend &&& ~~~ bits }
  | 0x004 => s.onEvc fun e => { e with vEn := e.vEn.set a (v.setWidth 28) }
  | 0x008 => s.onEvc fun e => { e with ovr := e.ovr &&& ~~~ bits }
  | _ => s

/-- A register of the event controller. -/
def State.writeEvents (off : Nat) (v : BitVec 32) (s : State) : State :=
  if off = 0 then s.onEvc fun e => { e with badEvent := e.badEvent && !v.getLsbD 0 }
  else if h : 0x100 ≤ off ∧ off ≤ 0x128 then
    runEff (execEvcPendClear ⟨(off - 0x100) / 4, by omega⟩ v) s
  else if 0x180 ≤ off && off ≤ 0x1A8 then
    s.onEvc fun e => { e with ovr := e.ovr &&& ~~~ (evcBits ((off - 0x180) / 4) v) }
  else if 0x200 ≤ off && off < 0x340 then
    let c := (off - 0x200) / 0x40
    if off % 0x40 ≤ 0x28 then
      s.onEvc fun e => { e with
        en := Tab.put e.en c (putWord (Tab.getD e.en c 0) (off % 0x40 / 4) v &&& s.evcPresentMask) 0 }
    else s
  else if off = 0x1000 then s.onEvc fun e => { e with gpioEdge := v }
  else if h : 0x80000 ≤ off ∧ off < 0xC0000 then
    s.writeEventView ⟨(off - 0x80000) / 0x10000, by omega⟩ (off % 0x10000) v
  else s

end Sys2Proof.Machine
end

