-- ==== Sys2Proof/Machine/FabricOps.lean ====
section
/-! DEFINITION. What stands at an address, who may reach it, and what an access there does (01 R22 to
R30): the checks of R24 in their order, the fault reports of R26, reads and writes of memory and of
registers. -/

namespace Sys2Proof.Machine

open Sys2Proof

/-- Whether an offset of an actuator island's window is memory (R29). -/
def islandMemory (off : Nat) : Bool :=
  (decide (0x10000 ≤ off) && decide (off < 0x16000))
    || (decide (0x20000 ≤ off) && decide (off < 0x30000))
    || (decide (0x40000 ≤ off) && decide (off < 0x70000))
    || decide (0x80000 ≤ off)

/-- Whether an address of a place is memory. -/
def BusWin.isMemory (p : BusWin) (addr : Nat) : Bool :=
  match p with
  | .rom => true
  | .sram _ => true
  | .dram => true
  | .island _ => islandMemory (addr % 0x100000)
  | _ => false

/-! Initiators (R14, R26, R30). -/

/-- Whose rights an initiator carries (R30). -/
inductive Rights where
  | principal (core : Fin 4)
  | housekeeping
  | guest (a : Fin 4)
  | master
  deriving DecidableEq, Repr

/-- The rights of an initiator: a DMA channel carries those of R438. -/
def rightsOf (src : Endpoint) (chan : Option (Fin 16)) : Rights :=
  if src = epDma then
    match chan with
    | some n => match dmaGuest n with
      | some a => .guest a
      | none => .principal 0
    | none => .master
  else if h : src.toNat < 4 then .principal ⟨src.toNat, h⟩
  else if src.toNat = 4 then .housekeeping
  else match coreAct src with
    | some a => .guest a
    | none => .master

/-- The Yearbook bank an initiator sees (17 R488); DMA channels 0 to 7 see core 0's. -/
def Rights.bank : Rights → YbWho
  | .principal c => .principal c
  | .housekeeping => .housekeeping
  | .guest a => .actuator a
  | .master => .principal 0

/-- The initiator group of a fault report (R26). -/
def initGroup (src : Endpoint) : Nat :=
  if src = epDma then 3
  else if src.toNat < 4 then 0
  else if src.toNat = 4 then 1
  else if (coreAct src).isSome then 2
  else if src = epHost 0 || src = epHost 1 then 4
  else 5

/-- A fault report of the fabric: initiator group, target address, channel and endpoint (R26). -/
def State.fabricFault (source : Nat) (src : Endpoint) (chan : Option (Fin 16)) (addr : Nat) (s : State) :
    State :=
  let n : Nat := match chan with
    | some k => if src = epDma then k.val else 0
    | none => 0
  s.faultAt src source (initGroup src) (addr % 2 ^ 36 + n * 2 ^ 36 + src.toNat * 2 ^ 40)

/-! Registers. -/

/-- What a word offset of a window is: no register, a register that reads so, or part of a map the spec
does not give. -/
inductive RegHere where
  | absent
  | word (v : Nat)
  | unstated
  deriving DecidableEq, Repr

/-- A register map's answer. -/
def regHere : Option Nat → RegHere
  | some v => .word v
  | none => .absent

/-- The register at a word offset of a place. -/
def State.regAt (s : State) (r : Rights) (p : BusWin) (off : Nat) : RegHere :=
  match p with
  | .hall => regHere (s.readHall off)
  | .events => regHere (s.readEvents off)
  | .yearbook => regHere (s.readYearbook r.bank off)
  | .dma => regHere (s.readDma off)
  | .spindle => regHere (s.readSpindle off)
  | .island a => regHere (s.readIsland a off)
  | .buffer =>
    match s.readScrubber (off - 0x10000) with
    | some v => if 0x10000 ≤ off then .word v else .unstated
    | none => .unstated
  | _ => .unstated

/-- A word written to a place's register. -/
def State.regPut (src : Endpoint) (r : Rights) (p : BusWin) (off : Nat) (v : BitVec 32) (s : State) :
    State :=
  let guest : Bool := match r with
    | .guest _ => true
    | _ => false
  let principal : Bool := match r with
    | .principal _ => true
    | _ => false
  match p with
  | .hall => s.writeHall src off v
  | .events => s.writeEvents off v
  | .yearbook => s.writeYearbook r.bank off v
  | .dma => s.writeDma off v
  | .spindle => s.writeSpindle off v
  | .island a => s.writeIsland a guest principal off v
  | .buffer => if 0x10000 ≤ off then s.writeScrubber (off - 0x10000) v else s
  | _ => s

/-- The bits of a register that act or clear when written 1: a write of some of its bytes leaves these
bits of the others alone. -/
def actionBits (p : BusWin) (off : Nat) : BitVec 32 :=
  match p with
  | .spindle => if off = 0 then 0x3 else if off = 8 then 0xFFFFFFFF else 0
  | .island _ =>
    if [0x00, 0x14, 0x100C, 0x5004, 0x2000, 0x2008, 0x2204, 0x3008, 0x3010, 0x4008, 0x4100].contains off then
      0xFFFFFFFF
    else if [0x10, 0x2300, 0x2800].contains off then 0xC0000000
    else if [0x2040, 0x2380, 0x3020, 0x410C, 0x4110].contains off then 0x80000000
    else if off = 0x1000 then 0x4
    else 0
  | .buffer => if off = 0x10000 then 0xC0000000 else if off = 0x10008 then 0xFFFFFFFF else 0
  | .dma =>
    if off < 0x10000 then (if off % 0x1000 = 0 || off % 0x1000 = 0x10 then 0xFFFFFFFF else 0)
    else if off % 0x100 = 0 then 0xC0000000
    else if off % 0x100 = 0x18 then 0xFFFFFFFF
    else 0
  | .hall =>
    if off = 0x008 then 0xC0000000
    else if off = 0x018 then 0x80000000
    else if off < 0x400 then (if off = 0 then 0 else 0xFFFFFFFF)
    else if off % 16 = 8 then 0xE0000000
    else 0
  | .events => if off < 0x200 || off % 0x10000 = 0 || off % 0x10000 = 8 then 0xFFFFFFFF else 0
  | .yearbook => if off = 0 || off = 0x20 then 0xFFFFFFFF else if off = 0x80 then 0x80000000 else 0
  | _ => 0

/-- A word of a place read: a free value where the spec gives the window no map. -/
def State.readWordAt (r : Rights) (p : BusWin) (addr : Nat) (s : State) : Nat × State :=
  match s.regAt r p (addr % 0x100000) with
  | .word v => (v, s)
  | .absent => (0, s)
  | .unstated => ((Config.deviceWord addr s.free).toNat, s.takeFree)

/-- So many words from an address upward. -/
def State.readWords (r : Rights) (p : BusWin) (addr : Nat) : Nat → State → List Byte × State
  | 0, s => ([], s)
  | n + 1, s =>
    let w := s.readWordAt r p addr
    let rest := w.2.readWords r p (addr + 4) n
    (leBytes 4 w.1 ++ rest.1, rest.2)

/-- Bytes of an address range as registers or memory hold them. -/
def State.busRead (r : Rights) (p : BusWin) (addr n : Nat) (s : State) : List Byte × State :=
  if p = .rom then ((List.range n).map fun i => Config.romByte (addr + i), s)
  else if p.isMemory addr then (s.read addr n, s)
  else
    let lo := addr / 4 * 4
    let w := s.readWords r p lo ((addr + n + 3) / 4 - addr / 4)
    ((w.1.drop (addr - lo)).take n, w.2)

/-- The word a write of some bytes brings: the other bytes as they read, without their action bits. -/
def mergeWord (old : Nat) (act : BitVec 32) (at' : Nat) (data : List Byte) : BitVec 32 :=
  let mask := BitVec.ofNat 32 ((2 ^ (8 * data.length) - 1) * 2 ^ (8 * at'))
  let new := BitVec.ofNat 32 (leNat data * 2 ^ (8 * at'))
  (BitVec.ofNat 32 old &&& ~~~ act &&& ~~~ mask) ||| (new &&& mask)

/-- Bytes that lie in one word, written to a register. -/
def State.writeWordAt (src : Endpoint) (r : Rights) (p : BusWin) (addr : Nat) (data : List Byte)
    (s : State) : State :=
  let off := addr / 4 * 4 % 0x100000
  let old : Nat := match s.regAt r p off with
    | .word v => v
    | _ => 0
  s.regPut src r p off (mergeWord old (actionBits p off) (addr % 4) data)

/-- Bytes written to registers, word by word. -/
def State.writeWords (src : Endpoint) (r : Rights) (p : BusWin) :
    Nat → Nat → List Byte → State → State
  | 0, _, _, s => s
  | n + 1, addr, data, s =>
    let k := 4 - addr % 4
    if data.isEmpty then s
    else (s.writeWordAt src r p addr (data.take k)).writeWords src r p n (addr + k) (data.drop k)

/-- Bytes written to registers or on-chip memory. -/
def State.busWrite (src : Endpoint) (r : Rights) (p : BusWin) (addr : Nat) (data : List Byte) (s : State) :
    State :=
  if p = .rom then s
  else if p.isMemory addr then s.write addr data
  else s.writeWords src r p (data.length + 1) addr data

/-! The checks of R24. -/

/-- Whether a target stands at every word of an access. -/
def State.offsetsOk (s : State) (r : Rights) (p : BusWin) (addr n : Nat) : Bool :=
  p.isMemory addr
    || (List.range ((addr + n + 3) / 4 - addr / 4)).all fun i =>
      s.regAt r p ((addr / 4 * 4 + 4 * i) % 0x100000) ≠ .absent

/-- Whether a write names a page of the initiator's own, and within the Hall Monitor's view a register
it may write (16 R471, 19 R526). -/
def viewAllows (p : BusWin) (a : Fin 4) (write : Bool) (off : Nat) : Bool :=
  let page := 0x80000 + 0x10000 * a.val
  let o := off - page
  decide (page ≤ off) && decide (off < page + 0x10000)
    && (decide (p ≠ .hall) || !write || decide (o = 0x100) || (decide (o < 0xC0) && decide (8 ≤ o % 16)))

/-- R30. -/
def mayReach (r : Rights) (p : BusWin) (write : Bool) (off : Nat) : Bool :=
  match r with
  | .principal _ => decide (p ≠ .rom) || !write
  | .housekeeping =>
    match p with
    | .rom => !write
    | .sram b => decide (b = 0)
    | .hall => !write || decide (off / 4 * 4 ≠ 0x018)
    | .sysctl | .timetable | .report | .spindle | .field | .events | .yearbook => true
    | _ => false
  | .guest a =>
    match p with
    | .island b => decide (a = b)
    | .yearbook => true
    | .hall => viewAllows p a write off
    | .events => viewAllows p a write off
    | .dma => decide (off / 0x1000 = 8 + 2 * a.val) || decide (off / 0x1000 = 9 + 2 * a.val)
    | _ => false
  | .master =>
    match p with
    | .sram _ => true
    | .dram => true
    | _ => false

/-- Whether a guest channel's access leaves its own island (15 R438). -/
def strays (src : Endpoint) (r : Rights) (p : BusWin) : Bool :=
  match r with
  | .guest a => decide (src = epDma) && decide (p ≠ .island a)
  | _ => false

/-- Whether a write asks HM_INJECT for a report of an absent unit (16 R472). -/
def State.injectsAbsent (s : State) (p : BusWin) (off : Nat) (write : Bool) (data : List Byte) : Bool :=
  let v := leNat data
  decide (p = .hall) && write && decide (off = 0x018) && bitOf v 31 && s.srcAbsent (fld v 0 8)

/-- The first of kinds 1 to 4 that applies to an access (R24); every offset of an absent unit's window is
absent (00 R3). -/
def State.refusal (s : State) (src : Endpoint) (chan : Option (Fin 16)) (acc : Access) : Option Nat :=
  let r := rightsOf src chan
  let write := decide (acc.kind ≠ .read)
  let off := acc.addr % 0x100000
  match s.winOf acc.addr with
  | none => some 1
  | some p =>
    if !s.winPresent p then some 2
    else if !s.offsetsOk r p acc.addr acc.size then some 1
    else if s.injectsAbsent p off write acc.data then some 2
    else if !mayReach r p write off || strays src r p then some 3
    else
      match p.domain with
      | some d => if s.domReady d then none else some 4
      | none => none

/-! DRAM behind a transaction (13 R406). -/

/-- A request at the memory controller, with its answer: an atomic operation at once with its merge. -/
def State.dramAccess (t : Txn) (s : State) : Nat × List Byte × State :=
  let s := s.memTake t [] none
  let s : State := match t.acc.kind, s.qEntry (granOf t.acc.addr) with
    | .amo, some q => s.mergeEntry q
    | _, _ => s
  s.takeAnswer

/-! What an access does at its target (R22). -/

/-- An atomic operation on on-chip memory: the old value returned. -/
def State.sramAmo (acc : Access) (s : State) : List Byte × State :=
  let old := s.read acc.addr acc.size
  (old, s.write acc.addr (leBytes acc.size (amoApply acc.amo acc.size (leNat old) (leNat acc.data))))

/-- An access that passed its checks is carried out: kind, data, state. -/
def State.perform (t : Txn) (s : State) : Nat × List Byte × State :=
  let r := rightsOf t.src t.chan
  match s.winOf t.acc.addr with
  | none => (1, [], s)
  | some .dram => s.dramAccess t
  | some p =>
    match t.acc.kind with
    | .read =>
      let x := s.busRead r p t.acc.addr t.acc.size
      (0, x.1, x.2)
    | .write => (0, [], s.busWrite t.src r p t.acc.addr (padTo t.acc.size 0 t.acc.data))
    | .amo =>
      let x := s.sramAmo t.acc
      (0, x.1, x.2)

/-! Results (R25). -/

/-- A core's signals. -/
def State.onCore (src : Endpoint) (f : CorePort → CorePort) (s : State) : State :=
  s.onFab fun x => { x with
    cores := Tab.put x.cores src.toNat (f (Tab.getD x.cores src.toNat CorePort.reset)) CorePort.reset }

/-- A completed transaction reaches its initiator (R25): a load's error is a precise fault, a store's an
interrupt. -/
def State.giveResult (t : Txn) (kind : Nat) (data : List Byte) (s : State) : State :=
  let s := s.onFab fun f => { f with
    results := f.results ++ [{ id := t.id, src := t.src, chan := t.chan, kind := BitVec.ofNat 4 kind
                               data := if kind = 0 then data else [] }] }
  if isCore t.src then
    s.onCore t.src fun c =>
      match t.acc.kind with
      | .write => { c with storeErrIrq := c.storeErrIrq || decide (kind ≠ 0) }
      | _ => { c with loadFault := decide (kind ≠ 0) }
  else s

/-- The fault source of kinds 1 to 4 (R24). -/
def kindSource (k : Nat) : Nat := 39 + k

/-- An access is refused with one of kinds 1 to 4. -/
def State.refuse (t : Txn) (k : Nat) (s : State) : State :=
  (s.fabricFault (kindSource k) t.src t.chan t.acc.addr).giveResult t k []

/-- Whether an access has a shape of R22; a core's has at most 8 bytes. -/
def accShaped (acc : Access) (core : Bool) : Bool :=
  match acc.kind with
  | .amo => decide (acc.size = 4) || decide (acc.size = 8)
  | _ => [1, 2, 4, 8].contains acc.size || (!core && decide (acc.size = 64))

/-- Whether an access is naturally aligned (R22). -/
def accAligned (acc : Access) : Bool := decide (acc.addr % acc.size = 0)

/-- Whether an atomic operation has a target that performs one (R22): shared SRAM or DRAM. -/
def State.amoTarget (s : State) (acc : Access) : Bool :=
  match acc.kind, s.winOf acc.addr with
  | .amo, some (.sram _) => true
  | .amo, some .dram => true
  | .amo, _ => false
  | _, _ => true

/-- A new transaction number. -/
def State.newTxn (src : Endpoint) (chan : Option (Fin 16)) (acc : Access) (s : State) : Txn × State :=
  ({ id := s.fab.nextTxn, src := src, chan := chan, acc := acc }
    , s.onFab fun f => { f with nextTxn := f.nextTxn + 1 })

/-- A transaction enters Kyomos (R24): refused at once, or in flight behind what its pair has issued (R15,
R20). One of a shape its target does not perform enters nothing (log 25). -/
def State.issue (src : Endpoint) (chan : Option (Fin 16)) (acc : Access) (s : State) : State :=
  let x := s.newTxn src chan acc
  match s.refusal src chan acc with
  | some k => x.2.refuse x.1 k
  | none =>
    if !s.amoTarget acc then s
    else x.2.onFab fun f => { f with
      txns := f.txns ++ [{ x.1 with behind := s.pairMsgs src (s.accEp src acc) }] }

/-- Whether a fence holds an endpoint (R16). -/
def State.fenced (s : State) (src : Endpoint) : Bool := s.fab.fences.any fun f => f.src == src

/-- The address of a core's own tightly coupled memory in the model's memory (R28). -/
def ownTcm (src : Endpoint) (acc : Access) : Option Nat :=
  let big := (coreAct src).isSome
  let a := acc.addr
  let itcm := if big then 0x20000 else 0x10000
  let dtcm := if src.toNat = 4 then 0x8000 else 0x10000
  if 0x04000000 ≤ a && a < 0x04000000 + itcm then
    some (tcmBase src.toNat + (if big then 0x40000 else 0) + (a - 0x04000000))
  else if 0x04400000 ≤ a && a < 0x04400000 + dtcm then
    some (tcmBase src.toNat + (if big then 0x60000 else 0x400000) + (a - 0x04400000))
  else none

/-- Whether an access stays on its core's island, on the local bus (R10). -/
def State.local (s : State) (src : Endpoint) (acc : Access) : Bool :=
  match s.winOf acc.addr with
  | some (.island a) => decide (coreAct src = some a)
  | some .rom | some .sysctl | some .hall | some .yearbook | some .spindle | some .report =>
    decide (src.toNat = 4)
  | _ => false

/-- Whether a core can issue: it is present, its domain on, an actuator core's firmware started, which an
unfused part's does not (00 R7), and a principal core released (02 R41 steps 8 and 9). -/
def State.coreRuns (s : State) (src : Endpoint) : Bool :=
  match coreAct src with
  | some a => s.guestRuns a
  | none => decide (src.toNat = 4) || (decide (src.toNat < 4) && s.domOn (2 + src.toNat)
    && (if src.toNat = 0 then s.sys.coreReleased else s.sys.cores13Released))

end Sys2Proof.Machine
end

