-- ==== Sys2Proof/Machine/FabricRows.lean ====
section
/-! DEFINITION. The commands of Kyomos (01) and of REGISTER_WRITE (04 R127): core accesses, transactions,
fences and the chip time broadcast. -/

namespace Sys2Proof.Machine

open Sys2Proof

/-- The exception of a misaligned access (R22). -/
def misalignOf : AccKind → Misalign
  | .read => .load
  | .write => .store
  | .amo => .amo

/-- An access that stays on its core's island: carried out, or refused, at once (R10). -/
def State.localAccess (src : Endpoint) (acc : Access) (s : State) : State :=
  let x := s.newTxn src none acc
  match s.refusal src none acc with
  | some k => x.2.refuse x.1 k
  | none =>
    if !s.amoTarget acc then s
    else
      let y := x.2.perform x.1
      y.2.2.giveResult x.1 y.1 y.2.1

/-- An access of a core's own tightly coupled memory, which never enters Kyomos (R28). -/
def State.tcmAccess (src : Endpoint) (acc : Access) (at' : Nat) (s : State) : State :=
  let x := s.newTxn src none acc
  let s := x.2
  match acc.kind with
  | .write => (s.write at' (padTo acc.size 0 acc.data)).giveResult x.1 0 []
  | _ => s.giveResult x.1 0 (s.read at' acc.size)

/-- The address of a byte of an access. -/
def byteAddr (acc : Access) (byte : Nat) : Nat := acc.addr + byte % acc.size

/-- A report of the core's own memories (16 R419). -/
def State.coreFault (core : Endpoint) (source kind : Nat) (acc : Access) (byte : Nat) (s : State) :
    State :=
  s.faultAt core source kind (byteAddr acc byte)

/-- The kind of sources 34 and 35: the principal core, 4 for the housekeeping core, 8 + a for actuator
core a (16 R419). -/
def tcmKind (core : Endpoint) : Nat :=
  match coreAct core with
  | some a => 8 + a.val
  | none => core.toNat

/-- An access of a core's own tightly coupled memory with what its check bits find (13 R399). -/
def State.tcmChecked (core : Endpoint) (acc : Access) (at' : Nat) (ecc : CoreEcc) (s : State) : State :=
  match ecc with
  | .tcmCorrected b => (s.coreFault core 34 (tcmKind core) acc b).tcmAccess core acc at'
  | .tcmBad b =>
    let x := s.newTxn core none acc
    (x.2.coreFault core 35 (tcmKind core) acc b).giveResult x.1 5 []
  | _ => s.tcmAccess core acc at'

/-- An access that leaves the core. -/
def State.coreIssue (core : Endpoint) (acc : Access) (s : State) : State :=
  if s.local core acc then s.localAccess core acc
  else s.issue core none acc

/-- CORE_MEMORY_ACCESS (R22, R25, R28): nothing while a fence holds the core, or from a core that does not
run. Only the principal cores have an L2 (13 R399); one that is uncorrectable there ends with kind 5. -/
def execCoreMemoryAccess (core : Endpoint) (acc : Access) (ecc : CoreEcc) (s : State) : Eff :=
  .next (
    if !isCore core || !s.coreRuns core || s.fenced core || !accShaped acc true then s
    else if 4 ≤ core.toNat && 2 ^ 32 ≤ acc.addr then s
    else if !accAligned acc then
      s.onCore core fun c => { c with misaligned := some (misalignOf acc.kind) }
    else
      let s := s.onCore core fun c => { c with misaligned := none }
      match ownTcm core acc with
      | some a => if acc.kind = .amo then s else s.tcmChecked core acc a ecc
      | none =>
        match ecc with
        | .l2Corrected b =>
          if core.toNat < 4 then (s.coreFault core 38 0 acc b).coreIssue core acc
          else s.coreIssue core acc
        | .l2Bad b =>
          if core.toNat < 4 then
            let x := s.newTxn core none acc
            (x.2.coreFault core 38 1 acc b).giveResult x.1 5 []
          else s.coreIssue core acc
        | _ => s.coreIssue core acc)

/-- FABRIC_TRANSACTION (R22 to R27): `chan` is the DMA channel of initiator 0x09. -/
def execFabricTransaction (src : Endpoint) (chan : Option (Fin 16)) (acc : Access) (s : State) : Eff :=
  .next (
    if s.fenced src || !accShaped acc (isCore src) || !accAligned acc then s
    else s.issue src (if src = epDma then chan else none) acc)

/-- A transaction in flight. -/
def State.txn? (s : State) (id : Nat) : Option Txn := s.fab.txns.find? fun t => t.id == id

/-- A transaction is no longer in flight. -/
def State.dropTxn (id : Nat) (s : State) : State :=
  s.onFab fun f => { f with txns := dropFirst (fun t => t.id == id) f.txns }

/-- Whether a transaction is not answered yet: an earlier one of its pair is in flight (R15), or the memory
controller holds it for a drain, a merge or a retraining (13 R403, R406). -/
def State.txnHeld (s : State) (t : Txn) : Bool :=
  s.txnWaits t || (decide (s.winOf t.acc.addr = some .dram) && s.memMustWait t)

/-- A transaction is carried out at its target and answered, unless it is held. -/
def State.txnDone (t : Txn) (s : State) : State :=
  if s.txnHeld t then s
  else
    let y := (s.dropTxn t.id).perform t
    y.2.2.giveResult t y.1 y.2.1

/-- TRANSACTION_COMPLETE (R15, R23 to R26): the target's response; one for a transaction no longer in
flight is discarded, and a target has none for one behind an earlier one of its pair. -/
def execTransactionComplete (txn : Nat) (resp : RespKind) (s : State) : Eff :=
  .next (
    match s.txn? txn with
    | none => s
    | some t =>
      match resp with
      | .ok => s.txnDone t
      | .okCorrected source kind byte =>
        if s.txnHeld t then s
        else (s.faultAt (s.targetEp t) source.toNat kind.toNat (byteAddr t.acc byte)).txnDone t
      | .uncorrTransit =>
        if s.txnWaits t then s
        else ((s.dropTxn txn).fabricFault 45 t.src t.chan t.acc.addr).giveResult t 5 []
      | .uncorrTarget source kind byte =>
        if s.txnWaits t then s
        else ((s.dropTxn txn).faultAt (s.targetEp t) source.toNat kind.toNat
          (byteAddr t.acc byte)).giveResult t 5 []
      | .targetError source kind =>
        if s.txnWaits t then s
        else ((s.dropTxn txn).faultAt (s.targetEp t) source.toNat kind.toNat t.acc.addr).giveResult t 7 [])

/-- TRANSACTION_TIMEOUT (R23): kind 0x6 and fault source 44. -/
def execTransactionTimeout (txn : Nat) (s : State) : Eff :=
  .next (
    match s.txn? txn with
    | none => s
    | some t => ((s.dropTxn txn).fabricFault 44 t.src t.chan t.acc.addr).giveResult t 6 [])

/-- KYOMOS_FENCE (R16, R17): what the endpoint issued before it and is not yet acknowledged. -/
def execKyomosFence (src : Endpoint) (s : State) : Eff :=
  .next (
    if s.fenced src then s
    else s.onFab fun f => { f with
      fences := f.fences ++ [{
        src := src
        txns := (f.txns.filter fun t => decide (t.src = src)).map Txn.id
        msgs := f.msgs.filter fun m => decide (m.src = src) }] })

/-- Whether everything before a fence has been acknowledged (R16): its transactions are answered, and with
them its messages stand in their receive queues (log 30). -/
def State.fenceMet (s : State) (f : Fence) : Bool := f.txns.all fun i => (s.txn? i).isNone

/-- FENCE_COMPLETE (R16). -/
def execFenceComplete (src : Endpoint) (s : State) : Eff :=
  .next (s.onFab fun f => { f with
    fences := f.fences.filter fun x => !(decide (x.src = src) && s.fenceMet x) })

/-! Chip time (R13). -/

/-- The endpoint that reports for an island, by the index of 18 R501. -/
def islandEp (i : Nat) : Endpoint :=
  match i with
  | 0 => epSystem
  | 1 => epResident
  | 2 => epEvents
  | 3 => epHost 0
  | 4 => epMemory
  | 5 => epAct 0 5
  | 6 => epAct 1 5
  | 7 => epAct 2 5
  | 8 => epAct 3 5
  | 9 => epDecoder 0
  | 10 => epCipher
  | _ => epField

/-- Whether an island keeps a replica now: it is not the master's, and its domain is on. -/
def State.replicaRuns (s : State) (i : Nat) : Bool :=
  decide (0 < i) && (List.range 32).any fun d => (domIsland d).contains i && s.domOn d

/-- One island's replica meets the broadcast: beyond 8 ticks it reports fault source 46 and re-seeds;
within, it has drifted so far and never back (R13, log 29). -/
def State.replicaMeets (i : Nat) (d : Int) (s : State) : State :=
  if !s.replicaRuns i then s
  else if 8 < d.natAbs then
    (s.fault (islandEp i) 46 i).onFab fun f => { f with replica := setNth f.replica i 0 }
  else s.onFab fun f => { f with replica := setNth f.replica i (max d (nth f.replica i 0 - 1)) }

/-- CHIP_TIME_BROADCAST (R13): `time` is the payload, never ahead of the master's count; `drift` gives each
island's replica less the broadcast, in the order of 18 R501. -/
def execChipTimeBroadcast (time : BitVec 64) (drift : List Int) (s : State) : Eff :=
  .next (
    if s.fab.chipTime < time then s
    else foldS (fun (x : Int × Nat) t => t.replicaMeets x.2 x.1) (drift.take 12).zipIdx s)

/-! Register writes. -/

/-- A register write that passed its checks: at its target at once, or in flight behind the earlier
transactions of its pair (R15). -/
def State.putRegister (src : Endpoint) (acc : Access) (v : BitVec 32) (s : State) : State :=
  if !s.local src acc && s.pairBusy src (s.accEp src acc) then s.issue src none acc
  else
    match s.winOf acc.addr with
    | some p =>
      if p.isMemory acc.addr then s else s.regPut src (rightsOf src none) p (acc.addr % 0x100000) v
    | none => s

/-- REGISTER_WRITE (04 R127 and the register tables): a 32-bit write of a register by an initiator, with
the checks of R24. A core's misaligned one raises its exception and sends nothing (R22). -/
def execRegisterWrite (src : Endpoint) (addr : BitVec 36) (v : BitVec 32) (s : State) : Eff :=
  let acc : Access :=
    { kind := .write, amo := .swap, addr := addr.toNat, size := 4, data := leBytes 4 v.toNat }
  .next (
    if s.fenced src || (isCore src && !s.coreRuns src) then s
    else if isCore src && 4 ≤ src.toNat && 2 ^ 32 ≤ addr.toNat then s
    else if !accAligned acc then
      if isCore src then s.onCore src fun c => { c with misaligned := some .store } else s
    else
      match s.refusal src none acc with
      | some k => (s.newTxn src none acc).2.refuse (s.newTxn src none acc).1 k
      | none => s.putRegister src acc v)

end Sys2Proof.Machine
end

