-- ==== Sys2Proof/Machine/Dma.lean ====
section
/-! DEFINITION. The DMA commands that reach memory (15): the descriptor fetch and its check, the beats, the
write-back, errors and aborts. -/

namespace Sys2Proof.Machine

open Sys2Proof

/-! Reads and writes with a channel's rights (R438). -/

/-- An access of a channel. -/
def dmaAcc (kind : AccKind) (addr size : Nat) (data : List Byte) : Access :=
  { kind := kind, amo := .swap, addr := addr, size := size, data := data }

/-- Bytes read with a channel's rights, or the error kind (R449). -/
def State.dmaGet (n : Fin 16) (addr size : Nat) (s : State) : Except Nat (List Byte) × State :=
  let acc := dmaAcc .read addr size []
  match s.refusal epDma (some n) acc with
  | some k => (.error k, s.fabricFault (kindSource k) epDma (some n) addr)
  | none =>
    match s.winOf addr with
    | some .dram =>
      let x := s.granRead epDma (granOf addr) none
      if x.1 then (.ok (x.2.read addr size), x.2) else (.error 5, x.2)
    | some p =>
      let x := s.busRead (rightsOf epDma (some n)) p addr size
      (.ok x.1, x.2)
    | none => (.error 1, s)

/-- Bytes written with a channel's rights, or the error kind (R449). -/
def State.dmaPut (n : Fin 16) (addr : Nat) (data : List Byte) (s : State) : Except Nat Unit × State :=
  let acc := dmaAcc .write addr data.length data
  match s.refusal epDma (some n) acc with
  | some k => (.error k, s.fabricFault (kindSource k) epDma (some n) addr)
  | none =>
    match s.winOf addr with
    | some .dram => (.ok (), s.granWrite epDma addr data)
    | some p => (.ok (), s.busWrite epDma (rightsOf epDma (some n)) p addr data)
    | none => (.error 1, s)

/-! Beats (R444). -/

/-- The size of a beat: a 64-byte burst where both addresses allow it, else the largest naturally aligned
transaction both allow. -/
def beatSize (src dst left : Nat) : Nat :=
  let fits (k : Nat) : Bool := decide (src % k = 0) && decide (dst % k = 0) && decide (k ≤ left)
  if fits 64 then 64 else if fits 8 then 8 else if fits 4 then 4 else if fits 2 then 2 else 1

/-- The beats of so many bytes, as offset and size, in ascending order. -/
def dmaBeats : Nat → Nat → Nat → Nat → Nat → List (Nat × Nat)
  | 0, _, _, _, _ => []
  | fuel + 1, src, dst, off, left =>
    if left = 0 then []
    else
      let k := beatSize (src + off) (dst + off) left
      (off, k) :: dmaBeats fuel src dst (off + k) (left - k)

/-- The bytes of a beat as the swap passes them (R440, R444). -/
def swapped (mode : Nat) (l : List Byte) : List Byte :=
  let m := match mode with
    | 0 => 0
    | 1 => 1
    | 2 => 3
    | _ => 2
  (List.range l.length).map fun i => nth l (i ^^^ m) 0

/-- A beat that failed: its offset, whether on the write, and its kind. -/
structure BeatFail where
  off : Nat
  onWrite : Bool
  kind : Nat
  deriving DecidableEq, Repr

/-- One beat. -/
def State.dmaBeat (n : Fin 16) (d : DmaDesc) (b : Nat × Nat) (s : State) : Option BeatFail × State :=
  match s.dmaGet n (d.src.toNat + b.1) b.2 with
  | (.error k, s) => (some { off := b.1, onWrite := false, kind := k }, s)
  | (.ok l, s) =>
    match s.dmaPut n (d.dst.toNat + b.1) (swapped (fld d.control.toNat 26 2) l) with
    | (.error k, s) => (some { off := b.1, onWrite := true, kind := k }, s)
    | (.ok _, s) => (none, s)

/-- Beats in order, up to the first that fails. -/
def State.dmaMove (n : Fin 16) (d : DmaDesc) : List (Nat × Nat) → State → Option BeatFail × State
  | [], s => (none, s)
  | b :: r, s =>
    match s.dmaBeat n d b with
    | (some f, s) => (some f, s)
    | (none, s) => s.dmaMove n d r

/-- A descriptor's beats. -/
def DmaDesc.beats (d : DmaDesc) : List (Nat × Nat) :=
  dmaBeats d.len.toNat d.src.toNat d.dst.toNat 0 d.len.toNat

/-- Whether source and destination overlap without being equal (R444). -/
def DmaDesc.overlaps (d : DmaDesc) : Bool :=
  let a := d.src.toNat
  let b := d.dst.toNat
  decide (a ≠ b) && decide (a < b + d.len.toNat) && decide (b < a + d.len.toNat)

/-- Whether an address is memory that a model of bytes holds. -/
def State.plainMemory (s : State) (addr : Nat) : Bool :=
  match s.winOf addr with
  | some p => p.isMemory addr && decide (p ≠ .rom)
  | none => false

/-- Overlapping unequal ranges leave the destination undefined: its bytes are free values (R444). -/
def State.dmaOverlap (d : DmaDesc) (s : State) : State :=
  if d.overlaps && s.plainMemory d.dst.toNat then
    (s.write d.dst.toNat ((List.range d.len.toNat).map (Config.dmaByte s.free))).takeFree
  else s

/-- Destination bytes from the first failing beat to 511 beyond it may hold new data (R449). -/
def State.dmaTail (d : DmaDesc) (off : Nat) (s : State) : State :=
  let one (i : Nat) (t : State) : State :=
    let a := d.dst.toNat + off + i
    if Config.dmaNew s.free i && t.plainMemory a && t.plainMemory (d.src.toNat + off + i) then
      t.write a (t.read (d.src.toNat + off + i) 1)
    else t
  (foldS one (List.range (min 512 (d.len.toNat - off))) s).takeFree

/-! Write-back and the end of a descriptor (R445, R448, R449). -/

/-- A STATUS word. -/
def dmaStatus (error : Bool) (kind phase bytes : Nat) : Nat :=
  2 ^ 31 + flagAt error 30 + kind % 16 * 2 ^ 26 + phase * 2 ^ 24 + bytes % 2 ^ 24

/-- STATUS and then CONTROL are written, OWN clear: whether both landed. `wb` is the write that fails. -/
def State.dmaBack (n : Fin 16) (control : Word) (status : Nat) (wb : Option (Bool × BitVec 4))
    (s : State) : Bool × State :=
  let base := (s.dmaCh n).addr
  let s := s.onDmaCh n fun c => { c with last := BitVec.ofNat 32 status }
  match wb with
  | some (false, _) => (false, s)
  | _ =>
    match s.dmaPut n (base + 0x1C) (leBytes 4 status) with
    | (.error _, s) => (false, s)
    | (.ok _, s) =>
      match wb with
      | some _ => (false, s)
      | none =>
        match s.dmaPut n base (leBytes 4 (control &&& 0x7FFFFFFF).toNat) with
        | (.error _, s) => (false, s)
        | (.ok _, s) => (true, s)

/-- Event 96 + 2n, when the descriptor asks for it (R455). -/
def State.dmaIrq (n : Fin 16) (control : Word) (s : State) : State :=
  if control.getLsbD 29 then s.event epDma (96 + 2 * n.val) (s.dmaCh n).addr else s

/-- The channel leaves its descriptor for a state of rest. -/
def State.dmaRest (n : Fin 16) (st : DmaState) (s : State) : State :=
  (s.onDmaCh n fun c => { c with state := st, desc := none, left := 0 }).dmaRelease n

/-- The chain stops in ERROR: event 97 + 2n with reason 2 (R449). -/
def State.dmaFails (n : Fin 16) (s : State) : State :=
  (((s.onDmaCh n (DmaCh.flag 2)).dmaRest n .error).count 0x520103 1).dmaStopped n 2

/-- The fault source of a failed beat (R456). -/
def beatSource (n : Fin 16) : Nat := if n.val < 8 then 64 else 65

/-- A descriptor ends in error, with a fault source of its own and 68 if its write-back fails. -/
def State.dmaError (n : Fin 16) (control : Word) (status source : Nat) (wb : Option (Bool × BitVec 4))
    (s : State) : State :=
  let x := (s.fault epDma source n.val).dmaBack n control status wb
  let s := if x.1 then x.2 else x.2.fault epDma 68 n.val
  (s.dmaIrq n control).dmaFails n

/-- A beat's failure ends the descriptor (R449). -/
def State.dmaBeatFails (n : Fin 16) (d : DmaDesc) (f : BeatFail) (wb : Option (Bool × BitVec 4))
    (s : State) : State :=
  (s.dmaTail d f.off).dmaError n d.control
    (dmaStatus true f.kind (if f.onWrite then 2 else 1) f.off) (beatSource n) wb

/-- The channel goes on to NEXT; with YIELD, and always for a guest, it gives up the mover (R438, R443). -/
def State.dmaNext (n : Fin 16) (d : DmaDesc) (s : State) : State :=
  let s := s.onDmaCh n fun c => { c with
    state := .fetch, desc := none, left := 0, trigSeen := false, ptr := d.next.extractLsb' 5 27 }
  if d.control.getLsbD 30 || (dmaGuest n).isSome then s.dmaRelease n else s

/-- What follows a descriptor that completed (R445 step 5, R450): `aborting` says that an abort met its
last beat. -/
def State.dmaAfter (n : Fin 16) (d : DmaDesc) (aborting : Bool) (s : State) : State :=
  if aborting then ((s.dmaRest n .idle).dmaStopped n 3)
  else if d.next = 0 then ((s.dmaRest n .idle).dmaStopped n 0)
  else s.dmaNext n d

/-- Channels that waited for an abort: a block reset of the engine ends, and PD19 may drain (16 R463,
R451). -/
def State.dmaSettled (s : State) : State := s.dmaResetEnd.startOffs

/-- A descriptor whose beats have all been acknowledged (R445). -/
def State.dmaDone (n : Fin 16) (d : DmaDesc) (aborting : Bool) (wb : Option (Bool × BitVec 4))
    (s : State) : State :=
  let x := s.dmaBack n d.control (dmaStatus false 0 0 d.len.toNat) wb
  if !x.1 then (((x.2.fault epDma 68 n.val).dmaIrq n d.control).dmaFails n).dmaSettled
  else
    let s := ((x.2.onDmaCh n (DmaCh.flag 0)).count 0x520101 1).count 0x520102 d.len.toNat
    (((s.dmaIrq n d.control).dmaTrigger 2 n.val).dmaAfter n d aborting).dmaSettled

/-- DESCRIPTOR_COMPLETE (R444, R445): the beats, then the write-back behind the engine's fence, which
waits for every transaction of 0x09 (01 R17); a beat the fabric refuses ends the
descriptor in error. -/
def execDescriptorComplete (n : Fin 16) (wb : Option (Bool × BitVec 4)) (s : State) : Eff :=
  let c := s.dmaCh n
  .next (
    match c.desc with
    | none => s
    | some d =>
      if !s.dmaLive n || s.dma.owner ≠ some n || (c.state ≠ .active && c.state ≠ .aborting)
          || s.unanswered epDma then s
      else
        match s.dmaMove n d d.beats with
        | (some f, t) => (t.dmaBeatFails n d f wb).dmaSettled
        | (none, t) => (t.dmaOverlap d).dmaDone n d (decide (c.state = .aborting)) wb)

/-- DMA_BEAT_ERROR (R449): the beats before the failing one have moved. -/
def execDmaBeatError (n : Fin 16) (onWrite : Bool) (kind : BitVec 4) (offset : Nat)
    (wb : Option (Bool × BitVec 4)) (s : State) : Eff :=
  let c := s.dmaCh n
  .next (
    match c.desc with
    | none => s
    | some d =>
      if !s.dmaLive n || s.dma.owner ≠ some n || (c.state ≠ .active && c.state ≠ .aborting)
          || d.len.toNat ≤ offset || s.unanswered epDma then s
      else
        match s.dmaMove n d (d.beats.filter fun b => decide (b.1 < offset)) with
        | (some f, t) => (t.dmaBeatFails n d f wb).dmaSettled
        | (none, t) => (t.dmaBeatFails n d { off := offset, onWrite := onWrite, kind := kind.toNat }
            wb).dmaSettled)

/-- DMA_ABORT_COMPLETE (R450): the beats in flight have been acknowledged, `moved` bytes in all; the
descriptor is written back with KIND 0xF, PHASE 0b11. -/
def execDmaAbortComplete (n : Fin 16) (moved : Nat) (wb : Option (Bool × BitVec 4)) (s : State) : Eff :=
  let c := s.dmaCh n
  .next (
    if !s.dmaLive n || c.state ≠ .aborting || s.unanswered epDma then s
    else
      let t : State := match c.desc with
        | some d =>
          if s.dma.owner = some n then
            (s.dmaMove n d (d.beats.filter fun b => decide (b.1 < moved))).2
          else s
        | none => s
      let got : Except Nat (List Byte) × State := match c.desc with
        | some d => (.ok (leBytes 4 d.control.toNat), t)
        | none => t.dmaGet n c.addr 4
      match got with
      | (.error k, t) =>
        ((((t.onDmaCh n fun c => { c with last := BitVec.ofNat 32 (dmaStatus true k 0 0) }).fault epDma
          67 n.val).dmaFails n)).dmaSettled
      | (.ok l, t) =>
        let x := t.dmaBack n (BitVec.ofNat 32 (leNat l)) (dmaStatus true 0xF 3 0) wb
        if x.1 then ((x.2.dmaRest n .idle).dmaStopped n 3).dmaSettled
        else ((x.2.fault epDma 68 n.val).dmaFails n).dmaSettled)

/-! The fetch (R439 to R442, R446, R448). -/

/-- The fetch of a descriptor ends in an error kind: no write-back (R449). -/
def State.dmaFetchFails (n : Fin 16) (k : Nat) (s : State) : State :=
  (((s.onDmaCh n fun c => { c with last := BitVec.ofNat 32 (dmaStatus true k 0 0) }).fault epDma 67
    n.val).dmaFails n)

/-- A descriptor of eight words. -/
def descOf (w : Nat → Nat) : DmaDesc :=
  { control := BitVec.ofNat 32 (w 0), src := BitVec.ofNat 36 (w 1 + fld (w 2) 0 4 * 2 ^ 32)
    dst := BitVec.ofNat 36 (w 3 + fld (w 4) 0 4 * 2 ^ 32), len := BitVec.ofNat 24 (w 5)
    next := BitVec.ofNat 32 (w 6) }

/-- What the check of a descriptor finds (R438, R442, R444, R448): its KIND, or 0. -/
def descCheck (n : Fin 16) (w : Nat → Nat) : Nat :=
  let c := w 0
  let trig := fld c 24 2
  let sel := fld c 20 4
  let unit := match fld c 26 2 with
    | 0 => 1
    | 1 => 2
    | _ => 4
  let own : Bool := match dmaGuest n with
    | some a => decide (sel = 8 + 2 * a.val) || decide (sel = 9 + 2 * a.val)
    | none => true
  if bitOf c 28 || fld c 0 20 ≠ 0 || fld (w 2) 4 28 ≠ 0 || fld (w 4) 4 28 ≠ 0 || fld (w 5) 24 8 ≠ 0 then 1
  else if trig = 3 || (trig = 2 && !own) then 2
  else if w 5 % unit ≠ 0 || w 1 % unit ≠ 0 || w 3 % unit ≠ 0 then 3
  else if w 6 % 32 ≠ 0 || ((dmaGuest n).isSome && 65536 < fld (w 5) 0 24) then 4
  else 0

/-- A channel parks where OWN is clear (R446): with KICK_PEND it reads again, without the event. -/
def State.dmaPark (n : Fin 16) (s : State) : State :=
  let s := s.dmaRelease n
  if (s.dmaCh n).kickPend then s.onDmaCh n fun c => { c with kickPend := false }
  else ((s.onDmaCh n fun c => { c with state := .parked, left := 0 }).onDmaCh n (DmaCh.flag 1)).dmaStopped
    n 1

/-- A descriptor that passed its check waits for its trigger or is ready (R442, R443). -/
def State.dmaArm (n : Fin 16) (d : DmaDesc) (s : State) : State :=
  let s := s.onDmaCh n fun c => { c with desc := some d, left := d.len, trigSeen := false }
  if fld d.control.toNat 24 2 = 0 then s.dmaReady n
  else (s.onDmaCh n fun c => { c with state := .waiting }).dmaRelease n

/-- DESCRIPTOR_FETCH (R441): CONTROL first, then the other words. -/
def execDescriptorFetch (n : Fin 16) (fail : Option (BitVec 4)) (wb : Option (Bool × BitVec 4))
    (s : State) : Eff :=
  let c := s.dmaCh n
  .next (
    if !s.dmaLive n || c.state ≠ .fetch then s
    else
      match fail with
      | some k => s.dmaFetchFails n k.toNat
      | none =>
        match s.dmaGet n c.addr 4 with
        | (.error k, s) => s.dmaFetchFails n k
        | (.ok l, s) =>
          if !bitOf (leNat l) 31 then s.dmaPark n
          else
            match s.dmaGet n (c.addr + 4) 28 with
            | (.error k, s) => s.dmaFetchFails n k
            | (.ok r, s) =>
              let w := wordOf (l ++ r)
              match descCheck n w with
              | 0 => s.dmaArm n (descOf w)
              | k => s.dmaError n (descOf w).control (dmaStatus true k 3 0) 66 wb)

end Sys2Proof.Machine
end

