-- ==== Sys2Proof/Machine/Dispatch.lean ====
section
/-! DEFINITION. What each command does: one arm per constructor of `Instr`, each one call of its
meaning. -/

namespace Sys2Proof.Machine

open Sys2Proof

/-- The effect of a command on everything but the queue. -/
def exec (i : Instr) (s : State) : Host.Outcome State Fault Refusal :=
  match i with
  | .powerOnReset straps dualPortN v12 v5 nor => Sys2Proof.Machine.execPowerOnReset straps dualPortN v12 v5 nor s
  | .supplyRecheck v12 v5 => Sys2Proof.Machine.execSupplyRecheck v12 v5 s
  | .supplyCheckTimeout => Sys2Proof.Machine.execSupplyCheckTimeout s
  | .dramTrainingDone failMask raw => Sys2Proof.Machine.execDramTrainingDone failMask raw s
  | .dramFillComplete ms => Sys2Proof.Machine.execDramFillComplete ms s
  | .coreRelease => Sys2Proof.Machine.execCoreRelease s
  | .bootImageVerify good => Sys2Proof.Machine.execBootImageVerify good s
  | .residentFirmwareRunning heads areas => Sys2Proof.Machine.execResidentFirmwareRunning heads areas s
  | .hostIslandConfigured => Sys2Proof.Machine.execHostIslandConfigured s
  | .orientationHeadLoad => Sys2Proof.Machine.execOrientationHeadLoad s
  | .mappingRestore lost ms => Sys2Proof.Machine.execMappingRestore lost ms s
  | .calDone a temps => Sys2Proof.Machine.execCalDone a temps s
  | .calFail a => Sys2Proof.Machine.execCalFail a s
  | .calTimeout a => Sys2Proof.Machine.execCalTimeout a s
  | .limitedActuatorLoad a => Sys2Proof.Machine.execLimitedActuatorLoad a s
  | .powerStateEntry => Sys2Proof.Machine.execPowerStateEntry s
  | .entryDomainsOff => Sys2Proof.Machine.execEntryDomainsOff s
  | .recessSlewEnd => Sys2Proof.Machine.execRecessSlewEnd s
  | .returnIdleExpiry => Sys2Proof.Machine.execReturnIdleExpiry s
  | .powerStateExit temps => Sys2Proof.Machine.execPowerStateExit temps s
  | .exitHeadLoad a => Sys2Proof.Machine.execExitHeadLoad a s
  | .modeTransitionOverrun => Sys2Proof.Machine.execModeTransitionOverrun s
  | .shutdownNormal viaDict ctrl => Sys2Proof.Machine.execShutdownNormal viaDict ctrl s
  | .shutdownAbrupt ctrl => Sys2Proof.Machine.execShutdownAbrupt ctrl s
  | .shutdownComplete => Sys2Proof.Machine.execShutdownComplete s
  | .chipReset => Sys2Proof.Machine.execChipReset s
  | .powerLossDeclared cause => Sys2Proof.Machine.execPowerLossDeclared cause s
  | .emergencyRetractStart a => Sys2Proof.Machine.execEmergencyRetractStart a s
  | .lastHeadParked ms => Sys2Proof.Machine.execLastHeadParked ms s
  | .retractEnergyLow norOk => Sys2Proof.Machine.execRetractEnergyLow norOk s
  | .powerLossEnd => Sys2Proof.Machine.execPowerLossEnd s
  | .perstAssert => Sys2Proof.Machine.execPerstAssert s
  | .perstRelease => Sys2Proof.Machine.execPerstRelease s
  | .coreMemoryAccess core acc ecc => Sys2Proof.Machine.execCoreMemoryAccess core acc ecc s
  | .fabricTransaction src chan acc => Sys2Proof.Machine.execFabricTransaction src chan acc s
  | .transactionComplete txn resp => Sys2Proof.Machine.execTransactionComplete txn resp s
  | .transactionTimeout txn => Sys2Proof.Machine.execTransactionTimeout txn s
  | .kyomosFence src => Sys2Proof.Machine.execKyomosFence src s
  | .fenceComplete src => Sys2Proof.Machine.execFenceComplete src s
  | .chipTimeBroadcast time drift => Sys2Proof.Machine.execChipTimeBroadcast time drift s
  | .feedForwardReceive src dst => Sys2Proof.Machine.execFeedForwardReceive src dst s
  | .mailboxRelease src dst => Sys2Proof.Machine.execMailboxRelease src dst s
  | .mailboxStale src dst => Sys2Proof.Machine.execMailboxStale src dst s
  | .wedgeTimingReceive a => Sys2Proof.Machine.execWedgeTimingReceive a s
  | .slewNoticeReceive a => Sys2Proof.Machine.execSlewNoticeReceive a s
  | .dictRead w here => Sys2Proof.Machine.execDictRead w here s
  | .dictWrite w here => Sys2Proof.Machine.execDictWrite w here s
  | .stage w here => Sys2Proof.Machine.execStage w here s
  | .commit f forced => Sys2Proof.Machine.execCommit f forced s
  | .discard f => Sys2Proof.Machine.execDiscard f s
  | .save w here => Sys2Proof.Machine.execSave w here s
  | .restore w queued guests => Sys2Proof.Machine.execRestore w queued guests s
  | .enumerate w queued guests => Sys2Proof.Machine.execEnumerate w queued guests s
  | .describe w here => Sys2Proof.Machine.execDescribe w here s
  | .dictIdentify f => Sys2Proof.Machine.execDictIdentify f s
  | .readLong link bytes queued guests => Sys2Proof.Machine.execReadLong link bytes queued guests s
  | .unknownDictOp w here => Sys2Proof.Machine.execUnknownDictOp w here s
  | .broadcastReplyDelay => Sys2Proof.Machine.execBroadcastReplyDelay s
  | .guestObjectTimeout a => Sys2Proof.Machine.execGuestObjectTimeout a s
  | .stagedSetExpiry k => Sys2Proof.Machine.execStagedSetExpiry k s
  | .saveComplete result => Sys2Proof.Machine.execSaveComplete result s
  | .silenceEnd k => Sys2Proof.Machine.execSilenceEnd k s
  | .keyGraceEnd => Sys2Proof.Machine.execKeyGraceEnd s
  | .mctpReassemblyTimeout => Sys2Proof.Machine.execMctpReassemblyTimeout s
  | .buythSend h length frame => Sys2Proof.Machine.execBuythSend h length frame s
  | .buythReceive h tagId buflen => Sys2Proof.Machine.execBuythReceive h tagId buflen s
  | .buythReceiveTimeout ctrl tagId => Sys2Proof.Machine.execBuythReceiveTimeout ctrl tagId s
  | .spnRun => Sys2Proof.Machine.execSpnRun s
  | .spnStop => Sys2Proof.Machine.execSpnStop s
  | .spnTargetWrite v => Sys2Proof.Machine.execSpnTargetWrite v s
  | .spnDtcWrite dtc => Sys2Proof.Machine.execSpnDtcWrite dtc s
  | .spnParamWrite sub v => Sys2Proof.Machine.execSpnParamWrite sub v s
  | .restCheckEnd peakMv => Sys2Proof.Machine.execRestCheckEnd peakMv s
  | .alignEnd => Sys2Proof.Machine.execAlignEnd s
  | .pwmPeriod p => Sys2Proof.Machine.execPwmPeriod p s
  | .handover angle => Sys2Proof.Machine.execHandover angle s
  | .lockedRotor => Sys2Proof.Machine.execLockedRotor s
  | .startRetry => Sys2Proof.Machine.execStartRetry s
  | .catchEnd rpm x => Sys2Proof.Machine.execCatchEnd rpm x s
  | .bemfLockHandover => Sys2Proof.Machine.execBemfLockHandover s
  | .brakeStopped => Sys2Proof.Machine.execBrakeStopped s
  | .observerLoss => Sys2Proof.Machine.execObserverLoss s
  | .reacquired => Sys2Proof.Machine.execReacquired s
  | .flywheelExpiry => Sys2Proof.Machine.execFlywheelExpiry s
  | .ovWarnCross up mv => Sys2Proof.Machine.execOvWarnCross up mv s
  | .chopOnCross mv => Sys2Proof.Machine.execChopOnCross mv s
  | .chopOffCross => Sys2Proof.Machine.execChopOffCross s
  | .chopSenseTimeout mv => Sys2Proof.Machine.execChopSenseTimeout mv s
  | .chopWinExpiry mv => Sys2Proof.Machine.execChopWinExpiry mv s
  | .ovFatalCross => Sys2Proof.Machine.execOvFatalCross s
  | .refMove => Sys2Proof.Machine.execRefMove s
  | .speedDeviation => Sys2Proof.Machine.execSpeedDeviation s
  | .slewRelease => Sys2Proof.Machine.execSlewRelease s
  | .slewStartInstant a => Sys2Proof.Machine.execSlewStartInstant a s
  | .slewRampEnd a => Sys2Proof.Machine.execSlewRampEnd a s
  | .sampleInstant a x => Sys2Proof.Machine.execSampleInstant a x s
  | .dampEnd a => Sys2Proof.Machine.execDampEnd a s
  | .vcmFrameRepeat a => Sys2Proof.Machine.execVcmFrameRepeat a s
  | .servoWedge a w => Sys2Proof.Machine.execServoWedge a w s
  | .missingWedge a => Sys2Proof.Machine.execMissingWedge a s
  | .lockAcquired a => Sys2Proof.Machine.execLockAcquired a s
  | .lockLost a => Sys2Proof.Machine.execLockLost a s
  | .headSwitch a head => Sys2Proof.Machine.execHeadSwitch a head s
  | .forceAcquire a => Sys2Proof.Machine.execForceAcquire a s
  | .svdTargetWrite a track => Sys2Proof.Machine.execSvdTargetWrite a track s
  | .shockCrossing a peak => Sys2Proof.Machine.execShockCrossing a peak s
  | .shockHoldEnd a => Sys2Proof.Machine.execShockHoldEnd a s
  | .headLoad a => Sys2Proof.Machine.execHeadLoad a s
  | .coilMeasureEnd a good => Sys2Proof.Machine.execCoilMeasureEnd a good s
  | .loadTimeout a => Sys2Proof.Machine.execLoadTimeout a s
  | .headUnload a retract => Sys2Proof.Machine.execHeadUnload a retract s
  | .armParked a => Sys2Proof.Machine.execArmParked a s
  | .unloadTimeout a => Sys2Proof.Machine.execUnloadTimeout a s
  | .nop e => Sys2Proof.Machine.execNop e s
  | .add e fd fa fb => Sys2Proof.Machine.execAdd e fd fa fb s
  | .sub e fd fa fb => Sys2Proof.Machine.execSub e fd fa fb s
  | .mul e fd fa fb => Sys2Proof.Machine.execMul e fd fa fb s
  | .fma e fd fa fb => Sys2Proof.Machine.execFma e fd fa fb s
  | .fms e fd fa fb => Sys2Proof.Machine.execFms e fd fa fb s
  | .min e fd fa fb => Sys2Proof.Machine.execMin e fd fa fb s
  | .max e fd fa fb => Sys2Proof.Machine.execMax e fd fa fb s
  | .mov e fd fa => Sys2Proof.Machine.execMov e fd fa s
  | .abs e fd fa => Sys2Proof.Machine.execAbs e fd fa s
  | .neg e fd fa => Sys2Proof.Machine.execNeg e fd fa s
  | .rcp e fd fa => Sys2Proof.Machine.execRcp e fd fa s
  | .ftoi e fd fa => Sys2Proof.Machine.execFtoi e fd fa s
  | .itof e fd fa => Sys2Proof.Machine.execItof e fd fa s
  | .clamp e fd fa fb => Sys2Proof.Machine.execClamp e fd fa fb s
  | .cmp e cond fa fb => Sys2Proof.Machine.execCmp e cond fa fb s
  | .tst e fd imm => Sys2Proof.Machine.execTst e fd imm s
  | .sel e fd fa fb => Sys2Proof.Machine.execSel e fd fa fb s
  | .ldi e fd imm => Sys2Proof.Machine.execLdi e fd imm s
  | .ld e fd addr => Sys2Proof.Machine.execLd e fd addr s
  | .st e fd addr => Sys2Proof.Machine.execSt e fd addr s
  | .ldx e fd fa => Sys2Proof.Machine.execLdx e fd fa s
  | .stx e fd fa => Sys2Proof.Machine.execStx e fd fa s
  | .biq e fd fa fb => Sys2Proof.Machine.execBiq e fd fa fb s
  | .intp e fd fa fb => Sys2Proof.Machine.execIntp e fd fa fb s
  | .inPort e fd port => Sys2Proof.Machine.execInPort e fd port s
  | .outPort e fa port => Sys2Proof.Machine.execOutPort e fa port s
  | .br e cond target => Sys2Proof.Machine.execBr e cond target s
  | .segEndM e => Sys2Proof.Machine.execSegEndM e s
  | .segXc e seg endAddr => Sys2Proof.Machine.execSegXc e seg endAddr s
  | .segEnd e => Sys2Proof.Machine.execSegEnd e s
  | .sig e imm => Sys2Proof.Machine.execSig e imm s
  | .illegalInstruction e addrErr => Sys2Proof.Machine.execIllegalInstruction e addrErr s
  | .xcBoundOverrun e => Sys2Proof.Machine.execXcBoundOverrun e s
  | .engineRun a => Sys2Proof.Machine.execEngineRun a s
  | .engineStop a => Sys2Proof.Machine.execEngineStop a s
  | .sveEntryWrite a entry => Sys2Proof.Machine.execSveEntryWrite a entry s
  | .sveRegisterWrite a n v => Sys2Proof.Machine.execSveRegisterWrite a n v s
  | .updateGo a count => Sys2Proof.Machine.execUpdateGo a count s
  | .seekStart a v principal => Sys2Proof.Machine.execSeekStart a v principal s
  | .injectRun a v => Sys2Proof.Machine.execInjectRun a v s
  | .injectStop a => Sys2Proof.Machine.execInjectStop a s
  | .injectionEnd a => Sys2Proof.Machine.execInjectionEnd a s
  | .correlationRun a v => Sys2Proof.Machine.execCorrelationRun a v s
  | .correlationDone a => Sys2Proof.Machine.execCorrelationDone a s
  | .chalkboardArm a v => Sys2Proof.Machine.execChalkboardArm a v s
  | .chalkboardForce a => Sys2Proof.Machine.execChalkboardForce a s
  | .chalkboardFull a => Sys2Proof.Machine.execChalkboardFull a s
  | .readOperationPost a op => Sys2Proof.Machine.execReadOperationPost a op s
  | .readGateOpen a x => Sys2Proof.Machine.execReadGateOpen a x s
  | .defectRegion a r => Sys2Proof.Machine.execDefectRegion a r s
  | .readGateClose a truncated => Sys2Proof.Machine.execReadGateClose a truncated s
  | .refillStart a => Sys2Proof.Machine.execRefillStart a s
  | .stagingComplete a replay => Sys2Proof.Machine.execStagingComplete a replay s
  | .decoderGrant => Sys2Proof.Machine.execDecoderGrant s
  | .replayReserveBypass a => Sys2Proof.Machine.execReplayReserveBypass a s
  | .decodeComplete d memoryError => Sys2Proof.Machine.execDecodeComplete d memoryError s
  | .decoderStall d => Sys2Proof.Machine.execDecoderStall d s
  | .replayRequest a r => Sys2Proof.Machine.execReplayRequest a r s
  | .slotPin a slot resident => Sys2Proof.Machine.execSlotPin a slot resident s
  | .slotUnpin a slot resident => Sys2Proof.Machine.execSlotUnpin a slot resident s
  | .pinWaitTimeout ladder => Sys2Proof.Machine.execPinWaitTimeout ladder s
  | .ladderTimeLimit ladder => Sys2Proof.Machine.execLadderTimeLimit ladder s
  | .rowRebuildComplete ladder x => Sys2Proof.Machine.execRowRebuildComplete ladder x s
  | .detentionExpiry a head track sector => Sys2Proof.Machine.execDetentionExpiry a head track sector s
  | .writeOperationAccept a op => Sys2Proof.Machine.execWriteOperationAccept a op s
  | .noBankTimeout a => Sys2Proof.Machine.execNoBankTimeout a s
  | .heatLeadStart a => Sys2Proof.Machine.execHeatLeadStart a s
  | .writeGateOpen a room staged cont => Sys2Proof.Machine.execWriteGateOpen a room staged cont s
  | .writeServoGate a mid => Sys2Proof.Machine.execWriteServoGate a mid s
  | .writeOperationComplete a => Sys2Proof.Machine.execWriteOperationComplete a s
  | .writeModeIdle a => Sys2Proof.Machine.execWriteModeIdle a s
  | .writeHold a set => Sys2Proof.Machine.execWriteHold a set s
  | .supplyWindowCross a v12 v5 => Sys2Proof.Machine.execSupplyWindowCross a v12 v5 s
  | .supplyWindowRelease a => Sys2Proof.Machine.execSupplyWindowRelease a s
  | .resumePass x => Sys2Proof.Machine.execResumePass x s
  | .resumeWindowExpiry a => Sys2Proof.Machine.execResumeWindowExpiry a s
  | .pscNop a => Sys2Proof.Machine.execPscNop a s
  | .pscHeadSel a head => Sys2Proof.Machine.execPscHeadSel a head s
  | .pscMode a mode => Sys2Proof.Machine.execPscMode a mode s
  | .pscWgate a gate => Sys2Proof.Machine.execPscWgate a gate s
  | .pscReadBias a rb ra => Sys2Proof.Machine.execPscReadBias a rb ra s
  | .pscWriteCur a overshoot steady => Sys2Proof.Machine.execPscWriteCur a overshoot steady s
  | .pscOsDur a v => Sys2Proof.Machine.execPscOsDur a v s
  | .pscLaserBias a v => Sys2Proof.Machine.execPscLaserBias a v s
  | .pscLaserOp a v => Sys2Proof.Machine.execPscLaserOp a v s
  | .pscHeatRd a v => Sys2Proof.Machine.execPscHeatRd a v s
  | .pscHeatWr a v => Sys2Proof.Machine.execPscHeatWr a v s
  | .pscSenseReq a sensor => Sys2Proof.Machine.execPscSenseReq a sensor s
  | .pscFaultClr a bits held => Sys2Proof.Machine.execPscFaultClr a bits held s
  | .pscIdReq a => Sys2Proof.Machine.execPscIdReq a s
  | .pscSafe a bits => Sys2Proof.Machine.execPscSafe a bits s
  | .pscAckFrame a w => Sys2Proof.Machine.execPscAckFrame a w s
  | .pscSenseFrame a w => Sys2Proof.Machine.execPscSenseFrame a w s
  | .pscFaultFrame a w => Sys2Proof.Machine.execPscFaultFrame a w s
  | .pscIdFrame a w => Sys2Proof.Machine.execPscIdFrame a w s
  | .pscAckTimeout a => Sys2Proof.Machine.execPscAckTimeout a s
  | .linkDownProbe a => Sys2Proof.Machine.execLinkDownProbe a s
  | .preampLinkTimeout a => Sys2Proof.Machine.execPreampLinkTimeout a s
  | .pflAssert a bits named => Sys2Proof.Machine.execPflAssert a bits named s
  | .pflRelease a => Sys2Proof.Machine.execPflRelease a s
  | .pflFrameTimeout a => Sys2Proof.Machine.execPflFrameTimeout a s
  | .senseTimeout a => Sys2Proof.Machine.execSenseTimeout a s
  | .pscCtlIdReq a => Sys2Proof.Machine.execPscCtlIdReq a s
  | .pscCtlFclr a => Sys2Proof.Machine.execPscCtlFclr a s
  | .pscSenseRequest a sensor => Sys2Proof.Machine.execPscSenseRequest a sensor s
  | .pscRawSend a code data => Sys2Proof.Machine.execPscRawSend a code data s
  | .destageChunk c => Sys2Proof.Machine.execDestageChunk c s
  | .groupIdleClose serial x => Sys2Proof.Machine.execGroupIdleClose serial x s
  | .commitStart order => Sys2Proof.Machine.execCommitStart order s
  | .commitDurable a ok => Sys2Proof.Machine.execCommitDurable a ok s
  | .commitDeadlineMiss => Sys2Proof.Machine.execCommitDeadlineMiss s
  | .copyCatchup a => Sys2Proof.Machine.execCopyCatchup a s
  | .checkpoint => Sys2Proof.Machine.execCheckpoint s
  | .checkpointDurable => Sys2Proof.Machine.execCheckpointDurable s
  | .homeworkJobStart j => Sys2Proof.Machine.execHomeworkJobStart j s
  | .homeworkTrackStep job bad => Sys2Proof.Machine.execHomeworkTrackStep job bad s
  | .tempWindowRestart => Sys2Proof.Machine.execTempWindowRestart s
  | .periodBoundary x => Sys2Proof.Machine.execPeriodBoundary x s
  | .actuatorFreeAdmission a x => Sys2Proof.Machine.execActuatorFreeAdmission a x s
  | .commandDeadline n => Sys2Proof.Machine.execCommandDeadline n s
  | .obligatoryDeadlineMiss job => Sys2Proof.Machine.execObligatoryDeadlineMiss job s
  | .headTempPoll a head t => Sys2Proof.Machine.execHeadTempPoll a head t s
  | .cruiseDecision => Sys2Proof.Machine.execCruiseDecision s
  | .poolIdleTimeout => Sys2Proof.Machine.execPoolIdleTimeout s
  | .poolReplayWait => Sys2Proof.Machine.execPoolReplayWait s
  | .calRequest a v => Sys2Proof.Machine.execCalRequest a v s
  | .calWithdraw a => Sys2Proof.Machine.execCalWithdraw a s
  | .calGrantStart a => Sys2Proof.Machine.execCalGrantStart a s
  | .calGrantDone a => Sys2Proof.Machine.execCalGrantDone a s
  | .calGrantExpiry a => Sys2Proof.Machine.execCalGrantExpiry a s
  | .deleteIoSq h qid => Sys2Proof.Machine.execDeleteIoSq h qid s
  | .createIoSq h qid size cqid prio contig => Sys2Proof.Machine.execCreateIoSq h qid size cqid prio contig s
  | .getLogPage h lid nsid offset length rae create => Sys2Proof.Machine.execGetLogPage h lid nsid offset length rae create s
  | .deleteIoCq h qid => Sys2Proof.Machine.execDeleteIoCq h qid s
  | .createIoCq h qid size vector contig => Sys2Proof.Machine.execCreateIoCq h qid size vector contig s
  | .nvmeIdentify h cns nsid => Sys2Proof.Machine.execNvmeIdentify h cns nsid s
  | .abort h sqid cid => Sys2Proof.Machine.execAbort h sqid cid s
  | .setFeatures h fid sv nsid dw11 dw12 data => Sys2Proof.Machine.execSetFeatures h fid sv nsid dw11 dw12 data s
  | .getFeatures h fid nsid dw11 => Sys2Proof.Machine.execGetFeatures h fid nsid dw11 s
  | .asyncEventRequest h => Sys2Proof.Machine.execAsyncEventRequest h s
  | .namespaceManagement h create nsid nsze ncap lbaf shared => Sys2Proof.Machine.execNamespaceManagement h create nsid nsze ncap lbaf shared s
  | .firmwareCommit h slot ca verifies => Sys2Proof.Machine.execFirmwareCommit h slot ca verifies s
  | .firmwareImageDownload h offset length guests => Sys2Proof.Machine.execFirmwareImageDownload h offset length guests s
  | .namespaceAttachment h attach nsid ctrls => Sys2Proof.Machine.execNamespaceAttachment h attach nsid ctrls s
  | .formatNvm h nsid lbaf ses => Sys2Proof.Machine.execFormatNvm h nsid lbaf ses s
  | .sanitize h action => Sys2Proof.Machine.execSanitize h action s
  | .unsupportedCommand h opcode => Sys2Proof.Machine.execUnsupportedCommand h opcode s
  | .nvmeFlush h nsid => Sys2Proof.Machine.execNvmeFlush h nsid s
  | .nvmeWrite h w fua dtype dspec => Sys2Proof.Machine.execNvmeWrite h w fua dtype dspec s
  | .nvmeRead h r limitedRetry => Sys2Proof.Machine.execNvmeRead h r limitedRetry s
  | .writeZeroes h r deac => Sys2Proof.Machine.execWriteZeroes h r deac s
  | .datasetManagement h nsid ranges deallocate => Sys2Proof.Machine.execDatasetManagement h nsid ranges deallocate s
  | .verify h r limitedRetry => Sys2Proof.Machine.execVerify h r limitedRetry s
  | .reservationRegister h nsid action iekey crkey nrkey cptpl => Sys2Proof.Machine.execReservationRegister h nsid action iekey crkey nrkey cptpl s
  | .reservationReport h nsid => Sys2Proof.Machine.execReservationReport h nsid s
  | .reservationAcquire h nsid action rtype iekey crkey prkey => Sys2Proof.Machine.execReservationAcquire h nsid action rtype iekey crkey prkey s
  | .reservationRelease h nsid action rtype iekey crkey => Sys2Proof.Machine.execReservationRelease h nsid action rtype iekey crkey s
  | .ioManagementReceive h nsid mo => Sys2Proof.Machine.execIoManagementReceive h nsid mo s
  | .ioManagementSend h nsid mo handles => Sys2Proof.Machine.execIoManagementSend h nsid mo handles s
  | .sqDoorbell ctrl qid tail => Sys2Proof.Machine.execSqDoorbell ctrl qid tail s
  | .cqDoorbell ctrl qid head => Sys2Proof.Machine.execCqDoorbell ctrl qid head s
  | .commandCompletion n => Sys2Proof.Machine.execCommandCompletion n s
  | .ccEnable ctrl x => Sys2Proof.Machine.execCcEnable ctrl x s
  | .controllerReset ctrl => Sys2Proof.Machine.execControllerReset ctrl s
  | .functionLevelReset ctrl => Sys2Proof.Machine.execFunctionLevelReset ctrl s
  | .pcieLinkDown port => Sys2Proof.Machine.execPcieLinkDown port s
  | .pcieLinkUp port width gts => Sys2Proof.Machine.execPcieLinkUp port width gts s
  | .nvmSubsystemReset ctrl v => Sys2Proof.Machine.execNvmSubsystemReset ctrl v s
  | .activationSwitch slot => Sys2Proof.Machine.execActivationSwitch slot s
  | .activationDrainTimeout => Sys2Proof.Machine.execActivationDrainTimeout s
  | .activationOverrun => Sys2Proof.Machine.execActivationOverrun s
  | .apstTransition ctrl ps => Sys2Proof.Machine.execApstTransition ctrl ps s
  | .dramRequest src acc link page => Sys2Proof.Machine.execDramRequest src acc link page s
  | .mergeReadReturn granule => Sys2Proof.Machine.execMergeReadReturn granule s
  | .writeQueueDrain ch => Sys2Proof.Machine.execWriteQueueDrain ch s
  | .refreshDue ch bank busy => Sys2Proof.Machine.execRefreshDue ch bank busy s
  | .refreshForced ch bank => Sys2Proof.Machine.execRefreshForced ch bank s
  | .mr4Change ch code => Sys2Proof.Machine.execMr4Change ch code s
  | .retrainCheck ch driftPs => Sys2Proof.Machine.execRetrainCheck ch driftPs s
  | .retrainComplete ch ok => Sys2Proof.Machine.execRetrainComplete ch ok s
  | .scrubGo v => Sys2Proof.Machine.execScrubGo v s
  | .scrubAbort => Sys2Proof.Machine.execScrubAbort s
  | .scrubGranule sig page => Sys2Proof.Machine.execScrubGranule sig page s
  | .scrubStarve ch => Sys2Proof.Machine.execScrubStarve ch s
  | .scrubPassStart => Sys2Proof.Machine.execScrubPassStart s
  | .cipherJob j => Sys2Proof.Machine.execCipherJob j s
  | .cipherJobComplete job page before => Sys2Proof.Machine.execCipherJobComplete job page before s
  | .slotChangeDone slot => Sys2Proof.Machine.execSlotChangeDone slot s
  | .drbgReseed entropy => Sys2Proof.Machine.execDrbgReseed entropy s
  | .entropyHealthFail => Sys2Proof.Machine.execEntropyHealthFail s
  | .cryptoEraseRun => Sys2Proof.Machine.execCryptoEraseRun s
  | .dmaKick n => Sys2Proof.Machine.execDmaKick n s
  | .dmaAbort n => Sys2Proof.Machine.execDmaAbort n s
  | .dmaPtrWrite n v => Sys2Proof.Machine.execDmaPtrWrite n v s
  | .descriptorFetch n fail wb => Sys2Proof.Machine.execDescriptorFetch n fail wb s
  | .moverGrant => Sys2Proof.Machine.execMoverGrant s
  | .descriptorComplete n wb => Sys2Proof.Machine.execDescriptorComplete n wb s
  | .dmaBeatError n onWrite kind offset wb => Sys2Proof.Machine.execDmaBeatError n onWrite kind offset wb s
  | .dmaAbortComplete n moved wb => Sys2Proof.Machine.execDmaAbortComplete n moved wb s
  | .faultReportIntake srcs => Sys2Proof.Machine.execFaultReportIntake srcs s
  | .windowBucketRoll k => Sys2Proof.Machine.execWindowBucketRoll k s
  | .faultSummaryMinute => Sys2Proof.Machine.execFaultSummaryMinute s
  | .hmInject src source kind => Sys2Proof.Machine.execHmInject src source kind s
  | .historyClear => Sys2Proof.Machine.execHistoryClear s
  | .eoForce => Sys2Proof.Machine.execEoForce s
  | .eoHoldClear => Sys2Proof.Machine.execEoHoldClear s
  | .eoWidthExpiry => Sys2Proof.Machine.execEoWidthExpiry s
  | .lastingClear k => Sys2Proof.Machine.execLastingClear k s
  | .srcCfgWrite k v => Sys2Proof.Machine.execSrcCfgWrite k v s
  | .srcWinWrite k v => Sys2Proof.Machine.execSrcWinWrite k v s
  | .ybAppend bank type len => Sys2Proof.Machine.execYbAppend bank type len s
  | .ybCursorNext bank => Sys2Proof.Machine.execYbCursorNext bank s
  | .ybCursorPrev bank => Sys2Proof.Machine.execYbCursorPrev bank s
  | .ybCursorToFirst bank => Sys2Proof.Machine.execYbCursorToFirst bank s
  | .ybCursorToLast bank => Sys2Proof.Machine.execYbCursorToLast bank s
  | .ybProgram out => Sys2Proof.Machine.execYbProgram out s
  | .ybForceProgram out => Sys2Proof.Machine.execYbForceProgram out s
  | .ybMirrorWrite a => Sys2Proof.Machine.execYbMirrorWrite a s
  | .domainSwitchOn d who => Sys2Proof.Machine.execDomainSwitchOn d who s
  | .powerGoodTimeout d => Sys2Proof.Machine.execPowerGoodTimeout d s
  | .domainReady d kat bad => Sys2Proof.Machine.execDomainReady d kat bad s
  | .domainFillOverrun d => Sys2Proof.Machine.execDomainFillOverrun d s
  | .domainSwitchOff d who => Sys2Proof.Machine.execDomainSwitchOff d who s
  | .domainDrained d opened => Sys2Proof.Machine.execDomainDrained d opened s
  | .supplyRegulate n slack => Sys2Proof.Machine.execSupplyRegulate n slack s
  | .droopAlarm n => Sys2Proof.Machine.execDroopAlarm n s
  | .headroomExhausted n => Sys2Proof.Machine.execHeadroomExhausted n s
  | .tempSample k t => Sys2Proof.Machine.execTempSample k t s
  | .headMeasurement a head m => Sys2Proof.Machine.execHeadMeasurement a head m s
  | .spindleCurrentMeasure sum n => Sys2Proof.Machine.execSpindleCurrentMeasure sum n s
  | .replan rings => Sys2Proof.Machine.execReplan rings s
  | .eventIntake src => Sys2Proof.Machine.execEventIntake src s
  | .evcPendClear w bits => Sys2Proof.Machine.execEvcPendClear w bits s
  | .timRun t v => Sys2Proof.Machine.execTimRun t v s
  | .timStop t => Sys2Proof.Machine.execTimStop t s
  | .timerFire t => Sys2Proof.Machine.execTimerFire t s
  | .gpioEdge g level => Sys2Proof.Machine.execGpioEdge g level s
  | .uartPrompt => Sys2Proof.Machine.execUartPrompt s
  | .uartBlock seq data crc => Sys2Proof.Machine.execUartBlock seq data crc s
  | .uartEnd length crc verifies => Sys2Proof.Machine.execUartEnd length crc verifies s
  | .uartIdleTimeout => Sys2Proof.Machine.execUartIdleTimeout s
  | .jtagInstruction r => Sys2Proof.Machine.execJtagInstruction r s
  | .registerWrite src addr v => Sys2Proof.Machine.execRegisterWrite src addr v s
  | .timingRecoveryLockLost a => Sys2Proof.Machine.execTimingRecoveryLockLost a s
  | .driveOrSenseFault a kind => Sys2Proof.Machine.execDriveOrSenseFault a kind s
  | .t1sLinkStateChange up beacon dup phyFault => Sys2Proof.Machine.execT1sLinkStateChange up beacon dup phyFault s
  | .entdaa x => Sys2Proof.Machine.execEntdaa x s
  | .pcieError port kind cid => Sys2Proof.Machine.execPcieError port kind cid s
  | .aspmL12Transition port enter => Sys2Proof.Machine.execAspmL12Transition port enter s
  | .guestObjectReport a objs => Sys2Proof.Machine.execGuestObjectReport a objs s
  | .ledActTimeout => Sys2Proof.Machine.execLedActTimeout s

end Sys2Proof.Machine
end

