-- ==== Sys2Proof/Machine/Step.lean ====
section
/-! DEFINITION. One step: the command at the front of the queue is carried out on the machine with
the rest of the queue. On an empty queue one tick of chip time passes (log 2). -/

namespace Sys2Proof.Machine

open Sys2Proof

/-- One tick of 5 ns with no command waiting: chip time and the timers that count move on, and a
reload of the cipher's slots and the load of a replay buffer end (log 2, log 48, 07 R226). -/
def State.idle (s : State) : State := s.tick.ciphReloaded.pumpReplays

/-- One step of the machine. -/
def step (s : State) : Host.Outcome State Fault Refusal :=
  match s.pending with
  | [] => .next s.idle
  | c :: rest => exec c { s with pending := rest }

/-- The state with the command that a word spells at the front of its queue; unchanged where the
word spells none (log 14). -/
def State.withFetchWord (s : State) (nbits w : Nat) : State :=
  match decodeTableWord nbits w with
  | some c => { s with pending := c :: s.pending }
  | none => s

end Sys2Proof.Machine
end

