-- ==== Sys2Proof/WellFormed.lean ====
section
/-! DEFINITION. Which commands are well formed: the bounds the spec sets on the operands of a command
where the operand's type does not hold them. -/

namespace Sys2Proof

/-- An access carries its bytes exactly when it writes (R22). -/
def Access.wf (x : Access) : Bool :=
  match x.kind with
  | .read => x.data.isEmpty
  | _ => decide (x.data.length = x.size)

/-- A frame holds at most a header, a body of 1,456 bytes and a tag (R79). -/
def Wire.wf (w : Wire) : Bool := decide (w.bytes.length ≤ 1500)

/-- A frame that arrives is well formed as it is on its transport. -/
def Frame.wf (f : Frame) : Bool := f.wire.wf

/-- Whether a command is well formed. An island has at most four actuators (R2); a DMA channel is
named exactly for the DMA engine (R14); there are twelve replicas (R501); a frame holds at most 1,500
bytes (R79), and a Buyth Send carries at most 4,096 (log 105); spindle control has nine senses (R99); row
parity rebuilds up to two members (R251); a head measurement takes eight and sixteen steps (R509); a
port trains at one, two or four lanes and GTS 1 to 5 (R364); an error kind is not 0 (R25); the Hall Monitor
takes up to four reports a cycle (R457); a kind has four bits (R21); a download block holds up to 1,024
bytes (R541); a mean is taken over at least one sample (R508). -/
def Instr.wf : Instr → Bool
  | .powerOnReset _ _ _ _ _ => true
  | .supplyRecheck _ _ => true
  | .supplyCheckTimeout => true
  | .dramTrainingDone _ _ => true
  | .dramFillComplete _ => true
  | .coreRelease => true
  | .bootImageVerify _ => true
  | .residentFirmwareRunning heads _ => decide (heads.length ≤ 4)
  | .hostIslandConfigured => true
  | .orientationHeadLoad => true
  | .mappingRestore _ _ => true
  | .calDone _ _ => true
  | .calFail _ => true
  | .calTimeout _ => true
  | .limitedActuatorLoad _ => true
  | .powerStateEntry => true
  | .entryDomainsOff => true
  | .recessSlewEnd => true
  | .returnIdleExpiry => true
  | .powerStateExit _ => true
  | .exitHeadLoad _ => true
  | .modeTransitionOverrun => true
  | .shutdownNormal _ _ => true
  | .shutdownAbrupt _ => true
  | .shutdownComplete => true
  | .chipReset => true
  | .powerLossDeclared _ => true
  | .emergencyRetractStart _ => true
  | .lastHeadParked _ => true
  | .retractEnergyLow _ => true
  | .powerLossEnd => true
  | .perstAssert => true
  | .perstRelease => true
  | .coreMemoryAccess _ acc _ => acc.wf
  | .fabricTransaction src chan acc => acc.wf && (chan.isSome == decide (src = 9))
  | .transactionComplete _ _ => true
  | .transactionTimeout _ => true
  | .kyomosFence _ => true
  | .fenceComplete _ => true
  | .chipTimeBroadcast _ drift => decide (drift.length = 12)
  | .feedForwardReceive _ _ => true
  | .mailboxRelease _ _ => true
  | .mailboxStale _ _ => true
  | .wedgeTimingReceive _ => true
  | .slewNoticeReceive _ => true
  | .dictRead w _ => w.wf
  | .dictWrite w _ => w.wf
  | .stage w _ => w.wf
  | .commit f _ => f.wf
  | .discard f => f.wf
  | .save w _ => w.wf
  | .restore w _ _ => w.wf
  | .enumerate w _ _ => w.wf
  | .describe w _ => w.wf
  | .dictIdentify f => f.wf
  | .readLong _ bytes _ _ => decide (bytes.length ≤ 1500)
  | .unknownDictOp w _ => w.wf
  | .broadcastReplyDelay => true
  | .guestObjectTimeout _ => true
  | .stagedSetExpiry _ => true
  | .saveComplete _ => true
  | .silenceEnd _ => true
  | .keyGraceEnd => true
  | .mctpReassemblyTimeout => true
  | .buythSend _ length frame => decide (length ≤ 4096) && decide (frame.length = length)
  | .buythReceive _ _ _ => true
  | .buythReceiveTimeout _ _ => true
  | .spnRun => true
  | .spnStop => true
  | .spnTargetWrite _ => true
  | .spnDtcWrite _ => true
  | .spnParamWrite _ _ => true
  | .restCheckEnd _ => true
  | .alignEnd => true
  | .pwmPeriod p => decide (p.adc.length = 9) && decide (p.pred.length = 3)
  | .handover _ => true
  | .lockedRotor => true
  | .startRetry => true
  | .catchEnd _ _ => true
  | .bemfLockHandover => true
  | .brakeStopped => true
  | .observerLoss => true
  | .reacquired => true
  | .flywheelExpiry => true
  | .ovWarnCross _ _ => true
  | .chopOnCross _ => true
  | .chopOffCross => true
  | .chopSenseTimeout _ => true
  | .chopWinExpiry _ => true
  | .ovFatalCross => true
  | .refMove => true
  | .speedDeviation => true
  | .slewRelease => true
  | .slewStartInstant _ => true
  | .slewRampEnd _ => true
  | .sampleInstant _ _ => true
  | .dampEnd _ => true
  | .vcmFrameRepeat _ => true
  | .servoWedge _ _ => true
  | .missingWedge _ => true
  | .lockAcquired _ => true
  | .lockLost _ => true
  | .headSwitch _ _ => true
  | .forceAcquire _ => true
  | .svdTargetWrite _ _ => true
  | .shockCrossing _ _ => true
  | .shockHoldEnd _ => true
  | .headLoad _ => true
  | .coilMeasureEnd _ _ => true
  | .loadTimeout _ => true
  | .headUnload _ _ => true
  | .armParked _ => true
  | .unloadTimeout _ => true
  | .nop _ => true
  | .add _ _ _ _ => true
  | .sub _ _ _ _ => true
  | .mul _ _ _ _ => true
  | .fma _ _ _ _ => true
  | .fms _ _ _ _ => true
  | .min _ _ _ _ => true
  | .max _ _ _ _ => true
  | .mov _ _ _ => true
  | .abs _ _ _ => true
  | .neg _ _ _ => true
  | .rcp _ _ _ => true
  | .ftoi _ _ _ => true
  | .itof _ _ _ => true
  | .clamp _ _ _ _ => true
  | .cmp _ _ _ _ => true
  | .tst _ _ _ => true
  | .sel _ _ _ _ => true
  | .ldi _ _ _ => true
  | .ld _ _ _ => true
  | .st _ _ _ => true
  | .ldx _ _ _ => true
  | .stx _ _ _ => true
  | .biq _ _ _ _ => true
  | .intp _ _ _ _ => true
  | .inPort _ _ _ => true
  | .outPort _ _ _ => true
  | .br _ _ _ => true
  | .segEndM _ => true
  | .segXc _ _ _ => true
  | .segEnd _ => true
  | .sig _ _ => true
  | .illegalInstruction _ _ => true
  | .xcBoundOverrun _ => true
  | .engineRun _ => true
  | .engineStop _ => true
  | .sveEntryWrite _ _ => true
  | .sveRegisterWrite _ _ _ => true
  | .updateGo _ _ => true
  | .seekStart _ _ _ => true
  | .injectRun _ _ => true
  | .injectStop _ => true
  | .injectionEnd _ => true
  | .correlationRun _ _ => true
  | .correlationDone _ => true
  | .chalkboardArm _ _ => true
  | .chalkboardForce _ => true
  | .chalkboardFull _ => true
  | .readOperationPost _ _ => true
  | .readGateOpen _ _ => true
  | .defectRegion _ _ => true
  | .readGateClose _ _ => true
  | .refillStart _ => true
  | .stagingComplete _ _ => true
  | .decoderGrant => true
  | .replayReserveBypass _ => true
  | .decodeComplete _ _ => true
  | .decoderStall _ => true
  | .replayRequest _ _ => true
  | .slotPin _ _ _ => true
  | .slotUnpin _ _ _ => true
  | .pinWaitTimeout _ => true
  | .ladderTimeLimit _ => true
  | .rowRebuildComplete _ x => decide (x.missing.length ≤ 2)
  | .detentionExpiry _ _ _ _ => true
  | .writeOperationAccept _ _ => true
  | .noBankTimeout _ => true
  | .heatLeadStart _ => true
  | .writeGateOpen _ _ _ _ => true
  | .writeServoGate _ _ => true
  | .writeOperationComplete _ => true
  | .writeModeIdle _ => true
  | .writeHold _ _ => true
  | .supplyWindowCross _ _ _ => true
  | .supplyWindowRelease _ => true
  | .resumePass _ => true
  | .resumeWindowExpiry _ => true
  | .pscNop _ => true
  | .pscHeadSel _ _ => true
  | .pscMode _ _ => true
  | .pscWgate _ _ => true
  | .pscReadBias _ _ _ => true
  | .pscWriteCur _ _ _ => true
  | .pscOsDur _ _ => true
  | .pscLaserBias _ _ => true
  | .pscLaserOp _ _ => true
  | .pscHeatRd _ _ => true
  | .pscHeatWr _ _ => true
  | .pscSenseReq _ _ => true
  | .pscFaultClr _ _ _ => true
  | .pscIdReq _ => true
  | .pscSafe _ _ => true
  | .pscAckFrame _ _ => true
  | .pscSenseFrame _ _ => true
  | .pscFaultFrame _ _ => true
  | .pscIdFrame _ _ => true
  | .pscAckTimeout _ => true
  | .linkDownProbe _ => true
  | .preampLinkTimeout _ => true
  | .pflAssert _ _ _ => true
  | .pflRelease _ => true
  | .pflFrameTimeout _ => true
  | .senseTimeout _ => true
  | .pscCtlIdReq _ => true
  | .pscCtlFclr _ => true
  | .pscSenseRequest _ _ => true
  | .pscRawSend _ _ _ => true
  | .destageChunk _ => true
  | .groupIdleClose _ _ => true
  | .commitStart _ => true
  | .commitDurable _ _ => true
  | .commitDeadlineMiss => true
  | .copyCatchup _ => true
  | .checkpoint => true
  | .checkpointDurable => true
  | .homeworkJobStart _ => true
  | .homeworkTrackStep _ _ => true
  | .tempWindowRestart => true
  | .periodBoundary _ => true
  | .actuatorFreeAdmission _ _ => true
  | .commandDeadline _ => true
  | .obligatoryDeadlineMiss _ => true
  | .headTempPoll _ _ _ => true
  | .cruiseDecision => true
  | .poolIdleTimeout => true
  | .poolReplayWait => true
  | .calRequest _ _ => true
  | .calWithdraw _ => true
  | .calGrantStart _ => true
  | .calGrantDone _ => true
  | .calGrantExpiry _ => true
  | .deleteIoSq _ _ => true
  | .createIoSq _ _ _ _ _ _ => true
  | .getLogPage _ _ _ _ _ _ _ => true
  | .deleteIoCq _ _ => true
  | .createIoCq _ _ _ _ _ => true
  | .nvmeIdentify _ _ _ => true
  | .abort _ _ _ => true
  | .setFeatures _ _ _ _ _ _ _ => true
  | .getFeatures _ _ _ _ => true
  | .asyncEventRequest _ => true
  | .namespaceManagement _ _ _ _ _ _ _ => true
  | .firmwareCommit _ _ _ _ => true
  | .firmwareImageDownload _ _ _ _ => true
  | .namespaceAttachment _ _ _ _ => true
  | .formatNvm _ _ _ _ => true
  | .sanitize _ _ => true
  | .unsupportedCommand _ _ => true
  | .nvmeFlush _ _ => true
  | .nvmeWrite _ _ _ _ _ => true
  | .nvmeRead _ _ _ => true
  | .writeZeroes _ _ _ => true
  | .datasetManagement _ _ _ _ => true
  | .verify _ _ _ => true
  | .reservationRegister _ _ _ _ _ _ _ => true
  | .reservationReport _ _ => true
  | .reservationAcquire _ _ _ _ _ _ _ => true
  | .reservationRelease _ _ _ _ _ _ => true
  | .ioManagementReceive _ _ _ => true
  | .ioManagementSend _ _ _ _ => true
  | .sqDoorbell _ _ _ => true
  | .cqDoorbell _ _ _ => true
  | .commandCompletion _ => true
  | .ccEnable _ _ => true
  | .controllerReset _ => true
  | .functionLevelReset _ => true
  | .pcieLinkDown _ => true
  | .pcieLinkUp _ width gts => decide (width ∈ [1, 2, 4]) && decide (1 ≤ gts) && decide (gts ≤ 5)
  | .nvmSubsystemReset _ _ => true
  | .activationSwitch _ => true
  | .activationDrainTimeout => true
  | .activationOverrun => true
  | .apstTransition _ _ => true
  | .dramRequest _ acc _ _ => acc.wf
  | .mergeReadReturn _ => true
  | .writeQueueDrain _ => true
  | .refreshDue _ _ _ => true
  | .refreshForced _ _ => true
  | .mr4Change _ _ => true
  | .retrainCheck _ _ => true
  | .retrainComplete _ _ => true
  | .scrubGo _ => true
  | .scrubAbort => true
  | .scrubGranule _ _ => true
  | .scrubStarve _ => true
  | .scrubPassStart => true
  | .cipherJob _ => true
  | .cipherJobComplete _ _ _ => true
  | .slotChangeDone _ => true
  | .drbgReseed _ => true
  | .entropyHealthFail => true
  | .cryptoEraseRun => true
  | .dmaKick _ => true
  | .dmaAbort _ => true
  | .dmaPtrWrite _ _ => true
  | .descriptorFetch _ _ _ => true
  | .moverGrant => true
  | .descriptorComplete _ _ => true
  | .dmaBeatError _ _ kind _ _ => decide (kind ≠ 0)
  | .dmaAbortComplete _ _ _ => true
  | .faultReportIntake srcs => decide (srcs.length ≤ 4)
  | .windowBucketRoll _ => true
  | .faultSummaryMinute => true
  | .hmInject _ _ kind => decide (kind < 16)
  | .historyClear => true
  | .eoForce => true
  | .eoHoldClear => true
  | .eoWidthExpiry => true
  | .lastingClear _ => true
  | .srcCfgWrite _ _ => true
  | .srcWinWrite _ _ => true
  | .ybAppend _ _ _ => true
  | .ybCursorNext _ => true
  | .ybCursorPrev _ => true
  | .ybCursorToFirst _ => true
  | .ybCursorToLast _ => true
  | .ybProgram _ => true
  | .ybForceProgram _ => true
  | .ybMirrorWrite _ => true
  | .domainSwitchOn _ _ => true
  | .powerGoodTimeout _ => true
  | .domainReady _ _ _ => true
  | .domainFillOverrun _ => true
  | .domainSwitchOff _ _ => true
  | .domainDrained _ _ => true
  | .supplyRegulate _ _ => true
  | .droopAlarm _ => true
  | .headroomExhausted _ => true
  | .tempSample _ _ => true
  | .headMeasurement _ _ m => m.cut || (decide (m.photo.length = 8) && decide (m.touch.length ≤ 16))
  | .spindleCurrentMeasure _ n => decide (n ≠ 0)
  | .replan _ => true
  | .eventIntake _ => true
  | .evcPendClear _ _ => true
  | .timRun _ _ => true
  | .timStop _ => true
  | .timerFire _ => true
  | .gpioEdge _ _ => true
  | .uartPrompt => true
  | .uartBlock _ data _ => decide (data.length ≤ 1024)
  | .uartEnd _ _ _ => true
  | .uartIdleTimeout => true
  | .jtagInstruction _ => true
  | .registerWrite _ _ _ => true
  | .timingRecoveryLockLost _ => true
  | .driveOrSenseFault _ _ => true
  | .t1sLinkStateChange _ _ _ _ => true
  | .entdaa _ => true
  | .pcieError _ _ _ => true
  | .aspmL12Transition _ _ => true
  | .guestObjectReport _ _ => true
  | .ledActTimeout => true

end Sys2Proof
end

