-- ==== Sys2Proof/Safety.lean ====
section
/-! DEFINITION. The terms the statements use: completion of a command, the messages it sends, what
it leaves as it was, and the invariants of a state. -/

namespace Sys2Proof.Machine

open Sys2Proof

/-- A command is carried out: it answers a next state, of which `P` holds. -/
def Completes (c : Instr) (s : State) (P : State → Prop) : Prop :=
  ∃ t, exec c s = .next t ∧ P t

/-- An event message (01 R21). -/
def eventMsg (src : Endpoint) (num qual : Nat) : Msg :=
  { src := src, dst := epEvents, body := .event (BitVec.ofNat 9 num) (BitVec.ofNat 32 qual) }

/-- A fault report that concerns no address, at a chip time (01 R21). -/
def faultMsg (src : Endpoint) (source kind : Nat) (time : BitVec 64) : Msg :=
  { src := src, dst := epMonitor,
    body := .fault (BitVec.ofNat 8 source) (BitVec.ofNat 4 kind) 0 time }

/-- A fault report that concerns an address, at a chip time (01 R21). -/
def faultAtMsg (src : Endpoint) (source kind addr : Nat) (time : BitVec 64) : Msg :=
  { src := src, dst := epMonitor,
    body := .fault (BitVec.ofNat 8 source) (BitVec.ofNat 4 kind) (BitVec.ofNat 48 addr) time }

/-- A message is among those sent between two states. -/
def Sent (m : Msg) (s t : State) : Prop := m ∈ t.fab.msgs.drop s.fab.msgs.length

/-- Exactly these messages were sent between two states. -/
def SentOnly (l : List Msg) (s t : State) : Prop := t.fab.msgs = s.fab.msgs ++ l

/-- Every byte of memory reads as before. -/
def MemorySame (s t : State) : Prop := ∀ a, memByte t.fab.mem a = memByte s.fab.mem a

/-- Every byte of memory outside so many bytes from an address reads as before. -/
def MemoryOutside (lo n : Nat) (s t : State) : Prop :=
  ∀ a, a < lo ∨ lo + n ≤ a → memByte t.fab.mem a = memByte s.fab.mem a

/-- So many bytes stand in memory at an address. -/
def BytesAt (a : Nat) (b : List Byte) (t : State) : Prop :=
  ∀ i x, b[i]? = some x → memByte t.fab.mem (a + i) = x

/-- Only spindle control changed, and messages were sent. -/
def SpindleOnly (s t : State) : Prop :=
  t = { s with spn := t.spn, fab := { s.fab with msgs := t.fab.msgs } }

/-- Only the actuators changed, and messages were sent. -/
def ActuatorsOnly (s t : State) : Prop :=
  t = { s with acts := t.acts, fab := { s.fab with msgs := t.fab.msgs } }

/-- Only one actuator changed, and messages were sent. -/
def ActuatorOnly (a : Fin 4) (s t : State) : Prop :=
  ActuatorsOnly s t ∧ ∀ b, b ≠ a → t.act b = s.act b

/-- A command frame went out on the PSC link of an actuator: it waits for its acknowledgement, the
preamplifier became `p`, and nothing else changed (09 R285, R286, R289). -/
def PscSent (a : Fin 4) (code : BitVec 6) (data : BitVec 16) (p : Preamp) (s t : State) : Prop :=
  (t.act a).pre = p
    ∧ (t.act a).psc.waits.map (fun x => (x.code, x.data))
        = (s.act a).psc.waits.map (fun x => (x.code, x.data)) ++ [(code, data)]
    ∧ (t.act a).psc.acked = (s.act a).psc.acked
    ∧ ActuatorOnly a s t ∧ t.fab = s.fab

/-- A servo engine executes: its actuator is present, it is RUNNING or in HOLD and not idle, the next
instruction lies in program memory, and its register table is in order (06 R165, R166). -/
abbrev EngineReady (e : Fin 4) (w : Word) (s : State) : Prop :=
  s.present e = true ∧ (s.act e).sve.executes = true ∧ (s.act e).sve.xcSpent = false
    ∧ (s.act e).sve.pc.toNat < 4096 ∧ s.progWord e (s.act e).sve.pc.toNat = w.toNat
    ∧ Tab.rising (s.act e).sve.f = true

/-- One instruction wrote one register and nothing else: the engine has gone on by one address and
one cycle, f0 stays +0.0, and every other register, P, the outputs, memory and the rest of the machine
are as before (06 R165, R166). -/
def EngineWrites (e : Fin 4) (fd : BitVec 8) (x : Word) (s t : State) : Prop :=
  t = s.onSve e (fun v => { v.tick with f := (t.act e).sve.f })
    ∧ ∀ n, (t.act e).sve.reg n = if n = fd ∧ n ≠ 0 then x else (s.act e).sve.reg n

/-- One instruction wrote P and nothing else. -/
def EngineSetsP (e : Fin 4) (b : Bool) (s t : State) : Prop :=
  t = s.onSve e (fun v => { v.tick with p := b })

/-- An instruction halted the engine (06 R182): HALTED and idle, RUN reads 0, the flag of the kind is
set and fault offset 6 carries it. -/
def EngineHalted (e : Fin 4) (kind : Nat) (s t : State) : Prop :=
  (t.act e).sve.state = .halted ∧ (t.act e).sve.seg = .idle ∧ (t.act e).sve.runReq = false
    ∧ (t.act e).sve.flags = setBit (s.act e).sve.flags (if kind = 1 then 5 else 6) true
    ∧ SentOnly [faultMsg (epAct e 1) (88 + 12 * e.val + 6) kind (s.localTime (epAct e 1))] s t
    ∧ ActuatorOnly e s t

/-- The status an access to an object fails with, if it does. -/
def failure {α : Type} : Except AccStatus α → Option AccStatus
  | .error e => some e
  | .ok _ => none

/-- No fetched command has a number beyond the count of those fetched, so that the next one fetched has a
number of its own (12 R370). -/
abbrev FreshNumbers (s : State) : Prop := ∀ k ∈ s.nvme.cmds, k.n ≤ s.nvme.fetched

/-- Memory is in its canonical form, and the fetched commands have numbers of their own: none beyond the
count of those fetched, and no two the same (12 R370). -/
abbrev MemoryAndNumbersOk (s : State) : Prop :=
  Memory.wf s.fab.mem = true ∧ FreshNumbers s ∧ (s.nvme.cmds.map fun k => k.n).Nodup

/-- The tables are in order and the lists with one entry for each unit of a kind keep their length. -/
abbrev TablesOk (s : State) : Prop :=
  Tab.rising s.dict.od = true ∧ Tab.rising s.dramc.errs = true ∧ Tab.rising s.ciph.slots = true
    ∧ Tab.rising s.evc.qual = true ∧ Tab.rising s.hm.srcs = true ∧ Tab.rising s.hm.hist = true
    ∧ Tab.rising s.hm.minute = true ∧ Tab.rising s.pool.jobs = true ∧ Tab.rising s.pwr.doms = true
    ∧ Tab.rising s.pwr.islands = true ∧ Tab.rising s.rc.heads = true ∧ Tab.rising s.tims = true
    ∧ Tab.rising s.yb.banks = true ∧ Tab.rising s.dma.ch = true
    ∧ (∀ a, Tab.rising (s.act a).sve.f = true) ∧ (∀ a, (s.act a).svd.next.length = 12)
    ∧ (∀ c, Tab.rising (s.chan c).postponed = true)
    ∧ s.fab.replica.length = 12 ∧ s.pwr.temps.length = 8 ∧ s.nvme.ctrls.length = 2
    ∧ s.nvme.ports.length = 2

/-- A fetched command has nothing left to wait for and will complete with a status (12 R323, R382). -/
def Ready (n : Nat) (st : NvStatus) (t : State) : Prop :=
  ((t.cmd? n).map fun k => (k.need, k.status)) = some (.nothing, st)

/-- A controller fetches the command named next from its admin queue, under a number of its own (12
R370). -/
abbrev FetchesAdmin (h : NvmeHdr) (s : State) : Prop := s.fetchOk h true = true ∧ FreshNumbers s

/-- A controller fetches the command named next from an I/O queue. -/
abbrev FetchesIo (h : NvmeHdr) (s : State) : Prop := s.fetchOk h false = true ∧ FreshNumbers s

/-- No check refuses a command. -/
abbrev NoneRefuse (l : List (Option NvStatus)) : Prop := l.findSome? id = none

/-- A request frame passes every check of its intake (03 R77, R79 to R84, R88): it reaches the server, its
sender is not silenced, it is for this drive, its tag verifies and its body spells the request, its counter
is new and the transport's queue has room. -/
abbrev Accepted (op : Nat) (f : Frame) (r : Req) (s : State) : Prop :=
  s.frameReaches f = true ∧ s.isSilenced f.sender = false ∧ s.frameForUs f = true
    ∧ s.reqOf f = some r ∧ r.op = op ∧ (f.link.broadcast = false ∨ op = 0x0A)
    ∧ s.counterNew f.session f.counter = true ∧ f.queued < 16

/-- Every object keeps the value it holds, but for the count of the frames that took the hardware path (03
R81, 14 R421). -/
abbrev ObjectsSame (s t : State) : Prop :=
  (t.dict.od.filter fun e => decide (e.1 ≠ 0x517002)) = s.dict.od.filter fun e => decide (e.1 ≠ 0x517002)

/-- The memory controller takes a request at once (13 R400, R404, R406): DRAM is installed and did not
fail, the address lies in it, its channel is powered and out of self-refresh, and nothing makes the
request wait. -/
abbrev MemoryTakes (t : Txn) (s : State) : Prop :=
  s.dramc.rawGiB ≠ 0 ∧ s.sys.dram ≠ .failed ∧ s.inDram t.acc.addr t.acc.size = true
    ∧ s.domOn 14 = true ∧ (s.chan (granChan (granOf t.acc.addr))).selfRefresh = false
    ∧ s.memMustWait t = false ∧ Tab.rising s.dramc.errs = true

/-- The memory controller answered one request, and nothing was sent (13 R406). -/
def MemoryAnswered (id : Nat) (src : Endpoint) (kind : BitVec 4) (data : List Byte) (s t : State) :
    Prop :=
  t.dramc.results
    = s.dramc.results ++ [{ id := id, src := src, chan := none, kind := kind, data := data }]

/-- The last frame sent to a requester is this response, sealed under the drive's own counter (03 R81): on
the field network at once, over NVMe kept for a Buyth Receive or returned by the one that awaits it (R90). -/
def Answered (r : Resp) (t : State) : Prop :=
  match r.sender with
  | .nvme c => t.dict.responses.getLast? = some (t.sealed r)
      ∨ (t.dict.delivered.getLast?.map fun d => (d.1, d.2.2.1)) = some (c, t.sealed r)
  | _ => t.dict.answers.getLast? = some (t.sealed r)

end Sys2Proof.Machine
end

