-- ==== Sys2Proof/Certificates/Slice0/Obligations.lean ====
section
/-! DEFINITION. The statements for the provers. -/

open Sys2Proof Sys2Proof.Machine

/-- A transaction in flight, the only one with its number, that has no response within 65,536 fabric
cycles is completed by the fabric: its initiator's result carries kind 0x6 and no data, and it is in
flight no more. A response that arrives after that changes nothing at all. (R23) -/
def Obligations.LateTransactionsEndWithKindSix : Prop :=
  ∀ (n : Nat) (x : Txn) (s : State), (s.txn? n = some x ∧ s.fab.txns.countP (fun y => y.id == n) = 1) →
   Completes (.transactionTimeout n) s fun t => t.fab.results = s.fab.results ++ [{ id := x.id, src := x.src, chan := x.chan, kind := 6, data := [] }] ∧ t.txn? n = none ∧ ∀ resp, Completes (.transactionComplete n resp) t fun u => u = t

/-- A transaction of an endpoint that no fence holds, of a legal shape, aligned and with a target
for its kind, is refused at once with the first of the kinds 1 to 4 that applies: its result carries
that kind, and a fault report of source 39 + kind names its initiator, channel and address. Where
none applies it goes into flight and nothing else changes. OK from a target in on-chip memory gives
a read its bytes and writes a write's bytes; a response uncorrectable in transit gives kind 5 with
fault 45; a target's own error gives kind 7 with the target's fault report.
(01_islands_and_fabric.md) -/
def Obligations.KyomosChecksTransactionsInOrder : Prop :=
  (∀ (src : Endpoint) (acc : Access) (k : Nat) (s : State), (s.fenced src = false ∧ isCore src = false ∧ accShaped acc false = true ∧ accAligned acc = true ∧ s.refusal src none acc = some k) →
   Completes (.fabricTransaction src none acc) s fun t => t.fab.results = s.fab.results ++ [{ id := s.fab.nextTxn, src := src, chan := none, kind := BitVec.ofNat 4 k, data := [] }] ∧ t.fab.txns = s.fab.txns ∧ t.fab.msgs.length = s.fab.msgs.length + 1 ∧ t.fab.mem = s.fab.mem ∧ t.acts = s.acts) ∧
  (∀ (src : Endpoint) (acc : Access) (s : State), (s.fenced src = false ∧ accShaped acc (isCore src) = true ∧ accAligned acc = true ∧ s.amoTarget acc = true ∧ s.refusal src none acc = none) →
   Completes (.fabricTransaction src none acc) s fun t => t = s.onFab fun f => { f with nextTxn := f.nextTxn + 1, txns := f.txns ++ [{ id := f.nextTxn, src := src, chan := none, acc := acc, behind := s.pairMsgs src (s.accEp src acc) }] }) ∧
  (∀ (n : Nat) (x : Txn) (s : State), (s.txn? n = some x ∧ s.txnWaits x = false ∧ x.acc.kind = .read ∧ isCore x.src = false ∧ 0x10000000 ≤ x.acc.addr ∧ x.acc.addr < 0x11800000) →
   Completes (.transactionComplete n .ok) s fun t => t.fab.results = s.fab.results ++ [{ id := x.id, src := x.src, chan := x.chan, kind := 0, data := memRead s.fab.mem x.acc.addr x.acc.size }] ∧ t.fab.mem = s.fab.mem ∧ t.fab.msgs = s.fab.msgs) ∧
  (∀ (n : Nat) (x : Txn) (s : State), (Memory.wf s.fab.mem = true ∧ s.txn? n = some x ∧ s.txnWaits x = false ∧ x.acc.kind = .write ∧ x.acc.data.length = x.acc.size ∧ 0x10000000 ≤ x.acc.addr ∧ x.acc.addr + x.acc.size ≤ 0x11800000 ∧ 0 < x.acc.size) →
   Completes (.transactionComplete n .ok) s fun t => memRead t.fab.mem x.acc.addr x.acc.size = x.acc.data ∧ t.fab.msgs = s.fab.msgs ∧ t.acts = s.acts ∧ ∀ b, (b < x.acc.addr ∨ x.acc.addr + x.acc.size ≤ b) → memByte t.fab.mem b = memByte s.fab.mem b) ∧
  (∀ (n : Nat) (x : Txn) (s : State), (s.txn? n = some x ∧ s.txnWaits x = false) →
   Completes (.transactionComplete n .uncorrTransit) s fun t => t.fab.results = s.fab.results ++ [{ id := x.id, src := x.src, chan := x.chan, kind := 5, data := [] }] ∧ t.fab.msgs.length = s.fab.msgs.length + 1 ∧ t.fab.mem = s.fab.mem) ∧
  (∀ (n : Nat) (x : Txn) (src : BitVec 8) (kind : BitVec 4) (s : State), (s.txn? n = some x ∧ s.txnWaits x = false) →
   Completes (.transactionComplete n (.targetError src kind)) s fun t => t.fab.results = s.fab.results ++ [{ id := x.id, src := x.src, chan := x.chan, kind := 7, data := [] }] ∧ Sent { src := s.targetEp x, dst := epMonitor, body := .fault src kind (BitVec.ofNat 48 x.acc.addr) (s.localTime (s.targetEp x)) } s t ∧ t.fab.mem = s.fab.mem)

/-- A misaligned access of a running core raises the core's address-misaligned exception and nothing
enters Kyomos. A core's aligned write of its own tightly coupled memory stores its bytes and gives
kind 0. An aligned access to a unit elsewhere that no check refuses goes into flight. A fence names
what its endpoint has in flight, and the endpoint issues nothing until FENCE_COMPLETE finds all of
it acknowledged. A write of SPN_FLAGS by a principal core clears the bits written 1 and leaves the
rest of the machine as it was. (01_islands_and_fabric.md; 04_spindle.md) -/
def Obligations.CoreAccessesFencesAndRegisterWrites : Prop :=
  (∀ (core : Endpoint) (acc : Access) (ecc : CoreEcc) (s : State), (isCore core = true ∧ s.coreRuns core = true ∧ s.fenced core = false ∧ accShaped acc true = true ∧ acc.addr < 2 ^ 32 ∧ accAligned acc = false) →
   Completes (.coreMemoryAccess core acc ecc) s fun t => (Tab.getD t.fab.cores core.toNat CorePort.reset).misaligned = some (misalignOf acc.kind) ∧ t.fab.txns = s.fab.txns ∧ t.fab.results = s.fab.results ∧ t.fab.mem = s.fab.mem ∧ t.fab.msgs = s.fab.msgs) ∧
  (∀ (core : Endpoint) (acc : Access) (at' : Nat) (s : State), (isCore core = true ∧ s.coreRuns core = true ∧ s.fenced core = false ∧ accShaped acc true = true ∧ acc.addr < 2 ^ 32 ∧ accAligned acc = true ∧ acc.kind = .write ∧ acc.data.length = acc.size ∧ ownTcm core acc = some at') →
   Completes (.coreMemoryAccess core acc .clean) s fun t => t.fab.mem = memWrite s.fab.mem at' acc.data ∧ t.fab.txns = s.fab.txns ∧ t.fab.msgs = s.fab.msgs ∧ t.acts = s.acts) ∧
  (∀ (core : Endpoint) (acc : Access) (at' b : Nat) (s : State), (isCore core = true ∧ s.coreRuns core = true ∧ s.fenced core = false ∧ accShaped acc true = true ∧ acc.addr < 2 ^ 32 ∧ accAligned acc = true ∧ acc.kind ≠ .amo ∧ ownTcm core acc = some at') →
   Completes (.coreMemoryAccess core acc (.tcmBad b)) s fun t => t.fab.results = s.fab.results ++ [{ id := s.fab.nextTxn, src := core, chan := none, kind := 5, data := [] }] ∧ SentOnly [faultAtMsg core 35 (tcmKind core) (byteAddr acc b) (s.localTime core)] s t ∧ MemorySame s t ∧ t.acts = s.acts) ∧
  (∀ (core : Endpoint) (acc : Access) (s : State), (isCore core = true ∧ s.coreRuns core = true ∧ s.fenced core = false ∧ accShaped acc true = true ∧ acc.addr < 2 ^ 32 ∧ accAligned acc = true ∧ ownTcm core acc = none ∧ s.amoTarget acc = true ∧ s.local core acc = false ∧ s.refusal core none acc = none) →
   Completes (.coreMemoryAccess core acc .clean) s fun t => t.fab.txns = s.fab.txns ++ [{ id := s.fab.nextTxn, src := core, chan := none, acc := acc, behind := s.pairMsgs core (s.accEp core acc) }] ∧ t.fab.results = s.fab.results ∧ t.fab.mem = s.fab.mem ∧ t.fab.msgs = s.fab.msgs) ∧
  (∀ (src : Endpoint) (s : State), (s.fenced src = false) →
   Completes (.kyomosFence src) s fun t => t.fenced src = true ∧ t.fab.txns = s.fab.txns ∧ t.fab.msgs = s.fab.msgs ∧ ∀ acc, Completes (.fabricTransaction src none acc) t fun u => u = t) ∧
  (∀ (src : Endpoint) (s : State), (∀ f ∈ s.fab.fences, f.src = src → s.fenceMet f = true) →
   Completes (.fenceComplete src) s fun t => t.fenced src = false ∧ t.fab.txns = s.fab.txns ∧ t.fab.msgs = s.fab.msgs ∧ t = { s with fab := t.fab }) ∧
  (∀ (src : Endpoint) (v : BitVec 32) (s : State), (src.toNat < 4 ∧ s.coreRuns src = true ∧ s.fenced src = false ∧ s.pairBusy src epSpindle = false) →
   Completes (.registerWrite src 0x20800008 v) s fun t => t = s.onSpn fun p => { p with flags := p.flags &&& ~~~ v.setWidth 9 })

/-- A replica within 8 ticks of the broadcast keeps its drift; one beyond re-seeds with fault 46, in
an island whose domain is on. A feed-forward message still in time waits in the receiver's mailbox
for its release; the release shows its value and clears STALE; a stale mailbox reads STALE. A wedge
timing message leaves the queue and enters spindle control's history of that actuator. A slew notice
becomes the notice in force of the demodulator it reaches, and a 0xFFFF notice holds its writes.
(01_islands_and_fabric.md; 04_spindle.md) -/
def Obligations.MessagesReachTheirReceivers : Prop :=
  (∀ (time : BitVec 64) (drift : List Int) (s : State), (time ≤ s.fab.chipTime ∧ drift.length = 12 ∧ s.fab.replica.length = 12 ∧ s.domOn 6 = true ∧ (nth drift 1 0).natAbs ≤ 8) →
   Completes (.chipTimeBroadcast time drift) s fun t => nth t.fab.replica 1 0 = max (nth drift 1 0) (nth s.fab.replica 1 0 - 1) ∧ nth t.fab.replica 0 0 = nth s.fab.replica 0 0 ∧ t.acts = s.acts ∧ t.fab.mem = s.fab.mem) ∧
  (∀ (time : BitVec 64) (drift : List Int) (s : State), (time ≤ s.fab.chipTime ∧ drift.length = 12 ∧ s.fab.replica.length = 12 ∧ s.domOn 6 = true ∧ 8 < (nth drift 1 0).natAbs) →
   Completes (.chipTimeBroadcast time drift) s fun t => nth t.fab.replica 1 0 = 0 ∧ Sent (faultMsg epResident 46 1 (s.localTime epResident)) s t ∧ t.acts = s.acts) ∧
  (∀ (src dst : Fin 4) (acc : F32) (at' : Nat) (period : BitVec 16) (late hold unl : Bool) (s : State), (s.fab.msgs = [{ src := epAct src 1, dst := epAct dst 1, body := .feedForward acc at' period late hold unl }] ∧ s.domOn (20 + dst.val) = true ∧ s.now16 ≤ at' + s.wedgeT dst - 320 ∧ s.msgArrives { src := epAct src 1, dst := epAct dst 1, body := .feedForward acc at' period late hold unl } = true) →
   Completes (.feedForwardReceive src dst) s fun t => ((t.act dst).mbx.get src).queue = ((s.act dst).mbx.get src).queue ++ [(at' + s.wedgeT dst - 320, acc, unl)] ∧ t.fab.msgs = [] ∧ t.fab.mem = s.fab.mem) ∧
  (∀ (src dst : Fin 4) (r : Nat) (v : F32) (u : Bool) (q : List (Nat × F32 × Bool)) (s : State), (((s.act dst).mbx.get src).queue = (r, v, u) :: q ∧ r ≤ s.now16) →
   Completes (.mailboxRelease src dst) s fun t => (t.act dst).mbx.get src = { value := v, stale := false, unloaded := u, queue := q, released := s.now16 } ∧ ActuatorOnly dst s t ∧ t.fab = s.fab) ∧
  (∀ (src dst : Fin 4) (s : State), (((s.act dst).mbx.get src).released + 2 * s.wedgeT dst ≤ s.now16) →
   Completes (.mailboxStale src dst) s fun t => ((t.act dst).mbx.get src).stale = true ∧ ActuatorOnly dst s t ∧ t.fab = s.fab) ∧
  (∀ (a : Fin 4) (w : BitVec 10) (at' : Nat) (locked missing frozen : Bool) (s : State), (s.fab.msgs = [{ src := epAct a 2, dst := epSpindle, body := .wedgeTiming w at' locked missing frozen }] ∧ s.msgArrives { src := epAct a 2, dst := epSpindle, body := .wedgeTiming w at' locked missing frozen } = true) →
   Completes (.wedgeTimingReceive a) s fun t => t.fab.msgs = [] ∧ ((t.spn.wedges.get a).hist.head?) = some { wedge := w, instant := at', good := !missing && !frozen } ∧ t.acts = s.acts ∧ t.fab.mem = s.fab.mem) ∧
  (∀ (a : Fin 4) (n : NoticeForce) (s : State), (s.fab.msgs = [{ src := epSpindle, dst := epAct a 2, body := .slewNotice n.target n.rate n.start }] ∧ s.msgArrives { src := epSpindle, dst := epAct a 2, body := .slewNotice n.target n.rate n.start } = true ∧ s.domOn (20 + a.val) = true) →
   Completes (.slewNoticeReceive a) s fun t => (t.act a).isl.notice = n ∧ (n.rate = 0xFFFF → (t.act a).isl.slewHold = true) ∧ (n.rate = 0 → (t.act a).isl.slewHold = false) ∧ (∀ b, b ≠ a → t.act b = s.act b) ∧ t.spn = s.spn) ∧
  (∀ (a : Fin 4) (s : State), (s.present a = true ∧ (s.act a).isl.notice.rate ≠ 0 ∧ (s.act a).isl.notice.rate ≠ 0xFFFF ∧ s.domOn (20 + a.val) = true ∧ (s.act a).isl.notice.start ≤ s.now16 ∧ s.odNat (odKey 0x2040 4) 40 < (s.act a).isl.notice.rate.toNat) →
   Completes (.slewStartInstant a) s fun t => (t.act a).isl.slewHold = true ∧ (t.act a).isl.notice = (s.act a).isl.notice ∧ (∀ b, b ≠ a → t.act b = s.act b) ∧ t.spn = s.spn ∧ MemorySame s t) ∧
  (∀ (a : Fin 4) (s : State), (s.present a = true ∧ (s.act a).isl.notice.rate ≠ 0 ∧ (s.act a).isl.notice.rate ≠ 0xFFFF ∧ s.domOn (20 + a.val) = true ∧ s.rampOver a = true) →
   Completes (.slewRampEnd a) s fun t => (t.act a).isl.slewHold = false ∧ (t.act a).isl.notice.rate = 0 ∧ (∀ b, b ≠ a → t.act b = s.act b) ∧ t.spn = s.spn ∧ MemorySame s t)

/-- Power-on reset leaves the mode FILL, DRAM training running and the straps of GPIO[5:0] sampled.
While the spindle waits for the supplies, a good check ends the wait and starts the spindle in
REST_CHECK, and the 5 s limit raises fault 3 and keeps cause 0x05 for LIMITED. A DRAM training that
succeeds gives the raw size and event 1; one that fails raises fault 2 with the failed channels. The
fill leaves every byte of usable DRAM zero, with event 2. With the fills done core 0 is released
with event 3. The boot ROM runs the first image that verifies, and with none raises fault 1 and
serves the UART download. (02_modes_and_bringup.md) -/
def Obligations.PowerUpBringsFillAndCoreZero : Prop :=
  (∀ (straps : BitVec 6) (dual : Bool) (v12 v5 : Nat) (nor : NorScan) (s : State),
   Completes (.powerOnReset straps dual v12 v5 nor) s fun t => t.sys.mode = .fill ∧ t.sys.dram = .running ∧ t.sys.coreReleased = false ∧ t.ident.straps.setWidth 6 = straps ∧ t.sys.v12 = v12 ∧ t.sys.v5 = v5 ∧ ∀ x ∈ t.yb.recs, x.slot.isSome = true → x.seq.toNat ∉ nor.ring) ∧
  (∀ (v12 v5 : Nat) (s : State), (s.sys.supplyWait = true ∧ msTicks ≤ s.since s.sys.supplyAt ∧ s.spn.state = .off ∧ 11400 ≤ v12 ∧ v12 ≤ 12600 ∧ 4750 ≤ v5 ∧ v5 ≤ 5250) →
   Completes (.supplyRecheck v12 v5) s fun t => t.sys.supplyWait = false ∧ t.spn.state = .restCheck ∧ t.spn.runReq = true ∧ t.acts = s.acts ∧ MemorySame s t) ∧
  (∀ (s : State), (s.sys.supplyWait = true ∧ 5 * secTicks ≤ s.since s.sys.supplySince ∧ s.sys.mode = .fill ∧ s.sys.powerLoss = none ∧ s.sys.chipResetBy = none ∧ s.sys.limitedPending = none) →
   Completes (.supplyCheckTimeout) s fun t => t.sys.supplyWait = false ∧ t.sys.limitedPending = some 0x500 ∧ SentOnly [faultMsg epSystem 3 0 (s.localTime epSystem)] s t ∧ t.spn = s.spn ∧ t.acts = s.acts) ∧
  (∀ (raw : Nat) (s : State), (s.sys.dram = .running) →
   Completes (.dramTrainingDone 0 raw) s fun t => t.sys.dram = .trained ∧ t.dramc.rawGiB = raw ∧ SentOnly [eventMsg epMemory 1 0xF] s t ∧ t.fab.mem = s.fab.mem ∧ t.acts = s.acts) ∧
  (∀ (mask : BitVec 4) (raw : Nat) (s : State), (s.sys.dram = .running ∧ mask ≠ 0 ∧ s.sys.mode = .fill ∧ s.sys.powerLoss = none ∧ s.sys.chipResetBy = none ∧ s.sys.limitedPending = none) →
   Completes (.dramTrainingDone mask raw) s fun t => t.sys.dram = .failed ∧ t.sys.limitedPending = some (BitVec.ofNat 16 (0x400 + mask.toNat)) ∧ SentOnly [faultMsg epMemory 2 mask.toNat (s.localTime epMemory)] s t ∧ t.dramc = s.dramc) ∧
  (∀ (ms : Nat) (s : State), (s.sys.dram = .trained ∧ s.sys.dramFilled = false) →
   Completes (.dramFillComplete ms) s fun t => t.sys.dramFilled = true ∧ t.dramc.errs = [] ∧ SentOnly [eventMsg epMemory 2 ms] s t ∧ ∀ x, memByte t.fab.mem x = (if dramBase ≤ x ∧ x < dramBase + s.usableBytes then 0 else memByte s.fab.mem x)) ∧
  (∀ (s : State), (s.sys.coreReleased = false ∧ s.sys.dramFilled = true ∧ s.fillsDone = true ∧ s.domOn 2 = true) →
   Completes (.coreRelease) s fun t => t.sys.coreReleased = true ∧ Sent (eventMsg epSystem 3 0) s t ∧ t.spn = s.spn ∧ t.acts = s.acts ∧ MemorySame s t) ∧
  (∀ (good : BitVec 3) (s : State), (s.sys.coreReleased = true ∧ s.sys.imageSlot = none ∧ s.sys.bootFailed = false ∧ s.nvme.activeSlot = 2 ∧ good.getLsbD 1 = false ∧ good.getLsbD 2 = true) →
   Completes (.bootImageVerify good) s fun t => t.sys.imageSlot = some 3 ∧ SentOnly [faultMsg epSystem 0 2 (s.localTime epSystem)] s t ∧ t.ports = s.ports ∧ t.dict = s.dict) ∧
  (∀ (s : State), (s.sys.coreReleased = true ∧ s.sys.imageSlot = none ∧ s.sys.bootFailed = false) →
   Completes (.bootImageVerify 0) s fun t => t.sys.bootFailed = true ∧ t.ports.uart = .prompting ∧ Sent (faultMsg epSystem 1 0 (s.localTime epSystem)) s t ∧ t.sys.imageSlot = none) ∧
  (∀ (heads : List Nat) (areas : List (Fin 4 × Nat × Nat)) (k : BitVec 2) (s : State), (s.sys.imageSlot = some k.toFin ∧ s.sys.resident = false ∧ s.sys.hostConfigured = true ∧ s.sys.limitedPending = none ∧ s.sys.shutWaiting = none) →
   Completes (.residentFirmwareRunning heads areas) s fun t => t.sys.mode = .orientation ∧ t.sys.resident = true ∧ Sent (eventMsg epResident 4 k.toNat) s t) ∧
  (∀ (s : State), (s.sys.imageSlot ≠ none ∧ s.sys.hostConfigured = false ∧ s.ports.perst = false) →
   Completes (.hostIslandConfigured) s fun t => t.sys.hostConfigured = true ∧ t.nvme.idVid = s.p1000PciVid ∧ t.nvme.idDid = s.p1000PciDid ∧ t = { s with sys := t.sys, nvme := t.nvme })

/-- In ORIENTATION at rated speed with no head in motion and none unsafe, loading starts with the
first actuator. A mapping restored from copies without a loss sets the milestone event 5, and a ring
record that failed its CRC comes back from a mirror with event 301. CAL_DONE of a present actuator
whose island is on records its report and event 10 + a; CAL_FAIL and CAL_TIMEOUT in ORIENTATION
raise faults 4 and 5 with the actuator and enter LIMITED with cause 0x02 and the actuator's mask.
LIMITED loads a safe parked actuator at rated speed. (02_modes_and_bringup.md; 10_placement.md;
17_yearbook.md; 21_collisions.md) -/
def Obligations.OrientationLoadsRestoresAndCalibrates : Prop :=
  (∀ (s : State), (s.sys.mode = .orientation ∧ s.atRated = true ∧ s.sys.powerLoss = none ∧ s.sys.entry = none ∧ s.sys.shutStage = none ∧ (∀ a, (s.act a).isl.load = .parked) ∧ s.domOn 20 = true ∧ s.unsafeAct 0 = false ∧ (s.act 0).isl.notice.rate ≠ 0xFFFF) →
   Completes (.orientationHeadLoad) s fun t => (t.act 0).isl.load = .loadPending ∧ (t.act 0).isl.coilPhase = true ∧ (t.act 0).vcm.mode = 2 ∧ ActuatorOnly 0 s t) ∧
  (∀ (a : Fin 4) (temps : List Int) (s : State), (s.guestRuns a = true ∧ s.sys.mode = .limited) →
   Completes (.calDone a temps) s fun t => (t.act a).isl.calDone = true ∧ actIn t.sys.calReported a = true ∧ t.sys.mode = .limited ∧ Sent (eventMsg (epAct a 0) (10 + a.val) 0) s t) ∧
  (∀ (a : Fin 4) (s : State), (s.guestRuns a = true ∧ s.sys.mode = .orientation ∧ s.sys.powerLoss = none ∧ s.sys.chipResetBy = none) →
   Completes (.calFail a) s fun t => t.sys.mode = .limited ∧ t.sys.limitedCause = BitVec.ofNat 16 (0x200 + 2 ^ a.val) ∧ actIn t.sys.unsafeActs a = true ∧ (t.act a).isl.calFail = true ∧ Sent (faultMsg epResident 4 a.val (s.localTime epResident)) s t) ∧
  (∀ (a : Fin 4) (s : State), (s.sys.mode = .orientation ∧ s.usable a = true ∧ actIn s.sys.calReported a = false ∧ s.p0200CalLimit * secTicks ≤ s.since (s.act a).isl.loadedAt ∧ s.sys.powerLoss = none ∧ s.sys.chipResetBy = none) →
   Completes (.calTimeout a) s fun t => t.sys.mode = .limited ∧ t.sys.limitedCause = BitVec.ofNat 16 (0x200 + 2 ^ a.val) ∧ actIn t.sys.unsafeActs a = true ∧ Sent (faultMsg epResident 5 a.val (s.localTime epResident)) s t) ∧
  (∀ (a : Fin 4) (s : State), (s.sys.mode = .limited ∧ s.limitedNoLoad = false ∧ s.atRated = true ∧ s.motionBusy = false ∧ s.sys.shutStage = none ∧ s.sys.shutState = .none ∧ s.present a = true ∧ (s.act a).isl.load = .parked ∧ s.domOn (20 + a.val) = true ∧ s.unsafeAct a = false ∧ (s.act a).isl.notice.rate ≠ 0xFFFF) →
   Completes (.limitedActuatorLoad a) s fun t => (t.act a).isl.load = .loadPending ∧ (t.act a).isl.coilPhase = true ∧ ActuatorOnly a s t) ∧
  (∀ (a : Fin 4) (ms : Nat) (s : State), (s.sys.mode = .orientation ∧ s.sys.mapRestored = false ∧ s.sys.restoreFailed = false ∧ s.sys.loadOrder = [a] ∧ s.plc.copies.get a = SysCopy.reset) →
   Completes (.mappingRestore [] ms) s fun t => t.sys.mapRestored = true ∧ t.plc.bands = [] ∧ t.plc.extents = [] ∧ t.plc.pend = [] ∧ Sent (eventMsg epPlacement 5 a.val) s t) ∧
  (∀ (a : Fin 4) (ms : Nat) (r : YbRec) (s : State), (s.sys.mode = .orientation ∧ s.sys.mapRestored = false ∧ s.sys.restoreFailed = false ∧ s.sys.loadOrder = [a] ∧ s.plc.copies.get a = SysCopy.reset ∧ s.present a = true ∧ s.yb.failed = [r] ∧ s.yb.recs = [] ∧ s.yb.firstSeq ≤ r.seq ∧ r.seq.toNat / 64 * 64 ∈ s.yb.mirrored.get a) →
   Completes (.mappingRestore [] ms) s fun t => t.yb.recs = [r] ∧ t.yb.failed = [] ∧ Sent (eventMsg epResident 301 1) s t)

/-- Once the table has drained, an entry to RECESS with nothing to commit passes the head-unload
point with event 15; RETURN_IDLE lets it start in the same way. With every head parked the RECESS
domains follow and the spindle slews to OD 0x0200.05; when its reference is there the mode is
RECESS, event 0. A wake in RECESS sets rated speed as the target and the exit runs; at 4,800 rpm the
heads load. A transition past its time raises fault 10 with the target mode.
(02_modes_and_bringup.md; 21_collisions.md) -/
def Obligations.PowerStatesAreEnteredAndLeft : Prop :=
  (∀ (s : State), (s.entryDue = true ∧ s.sys.returnArmed = false ∧ s.sys.mode = .service ∧ s.target = .recess ∧ s.journalClean = true ∧ s.plc.groups = [] ∧ (∀ a, (s.act a).isl.load = .parked)) →
   Completes (.powerStateEntry) s fun t => t.sys.entry = some { target := .recess, stage := .unloading, cutShort := false } ∧ Sent (eventMsg epSystem 15 4) s t ∧ t.spn = s.spn ∧ MemorySame s t) ∧
  (∀ (s : State), (s.entryDue = true ∧ s.sys.returnArmed = true ∧ s.p0200ReturnIdle * msTicks ≤ s.since s.sys.mediaAt ∧ s.sys.mode = .service ∧ s.target = .recess ∧ s.journalClean = true ∧ s.plc.groups = [] ∧ (∀ a, (s.act a).isl.load = .parked)) →
   Completes (.returnIdleExpiry) s fun t => t.sys.entry = some { target := .recess, stage := .unloading, cutShort := false } ∧ t.sys.returnArmed = false ∧ Sent (eventMsg epSystem 15 4) s t) ∧
  (∀ (s : State), (s.sys.entry = some { target := .recess, stage := .unloading, cutShort := false } ∧ s.allParked = true ∧ 3600 ≤ s.p0200RecessRpm ∧ s.p0200RecessRpm ≤ 7500) →
   Completes (.entryDomainsOff) s fun t => t.sys.entry = some { target := .recess, stage := .slewing, cutShort := false } ∧ t.spn.target = BitVec.ofNat 17 (16 * s.p0200RecessRpm) ∧ t.acts = s.acts ∧ MemorySame s t) ∧
  (∀ (s : State), (s.sys.entry = some { target := .recess, stage := .slewing, cutShort := false } ∧ s.spn.reference = spd16 s.spn.target.toNat) →
   Completes (.recessSlewEnd) s fun t => t.sys.mode = .recess ∧ t.sys.entry = none ∧ Sent (eventMsg epSystem 0 (s.sys.mode.code * 256 + 4)) s t ∧ MemorySame s t) ∧
  (∀ (temps : List (Fin 4 × List Int)) (s : State), (s.exitDue = true ∧ s.sys.mode = .recess ∧ 3600 ≤ s.p2010RatedRpm ∧ s.p2010RatedRpm ≤ 7500 ∧ s.cruiseOff = true) →
   Completes (.powerStateExit temps) s fun t => t.sys.exiting = true ∧ t.sys.wakeReq = false ∧ t.spn.target = BitVec.ofNat 17 (16 * s.p2010RatedRpm) ∧ t.acts = s.acts ∧ MemorySame s t) ∧
  (∀ (a : Fin 4) (s : State), (s.sys.exiting = true ∧ 16 * 4800 ≤ s.spn.speed.toNat ∧ s.motionBusy = false ∧ s.present a = true ∧ (s.act a).isl.load = .parked ∧ s.domOn (20 + a.val) = true ∧ s.unsafeAct a = false ∧ (s.act a).isl.notice.rate ≠ 0xFFFF) →
   Completes (.exitHeadLoad a) s fun t => (t.act a).isl.load = .loadPending ∧ (t.act a).isl.coilPhase = true ∧ ActuatorOnly a s t) ∧
  (∀ (m : Mode) (b : BitVec 64) (s : State), (s.transition = some (m, b) ∧ 5 * secTicks ≤ s.since b) →
   Completes (.modeTransitionOverrun) s fun t => t = s.fault epSystem 10 m.code)

/-- In SERVICE with no command open, an empty cache, a clean journal and no journal sector since the
checkpoint, a normal shutdown appends its record and unloads, and an abrupt one likewise; CC.SHN
gives event 34. With heads parked and the spindle stopped the shutdown completes with event 16 in
DORMANT. A chip reset asked for and not waiting for a shutdown runs bring-up in FILL. Power loss is
declared once, with fault 8 or 9, stops fetching and records what must retract; each retract starts
once; the last park closes it with the time; low energy before that raises RETRACT; its end runs
bring-up. (02_modes_and_bringup.md) -/
def Obligations.ShutdownResetAndPowerLossTakeTheirSteps : Prop :=
  (∀ (ctrl : Fin 2) (s : State), (s.sys.mode = .service ∧ s.sys.powerLoss = none ∧ s.sys.shutStage = none ∧ s.nvme.cmds = [] ∧ s.dirtyPages = 0 ∧ s.journalClean = true ∧ s.plc.sinceCkpt = 0 ∧ s.sys.chipResetBy = none ∧ (∀ a, (s.act a).isl.load = .parked)) →
   Completes (.shutdownNormal false ctrl) s fun t => t.sys.shutStage = some .unloading ∧ t.sys.shutKind = some .normal ∧ t.sys.shutState = .inProgress ∧ Sent (eventMsg (epHost ctrl) 34 (ctrl.val + 256)) s t ∧ t.spn = s.spn ∧ MemorySame s t) ∧
  (∀ (ctrl : Fin 2) (s : State), (s.sys.mode = .service ∧ s.sys.powerLoss = none ∧ s.sys.shutStage = none ∧ s.nvme.cmds = [] ∧ s.journalClean = true ∧ s.sys.chipResetBy = none ∧ (∀ a, (s.act a).isl.load = .parked)) →
   Completes (.shutdownAbrupt ctrl) s fun t => t.sys.shutStage = some .unloading ∧ t.sys.shutKind = some .abrupt ∧ t.sys.shutState = .inProgress ∧ Sent (eventMsg (epHost ctrl) 34 (ctrl.val + 512)) s t ∧ t.spn = s.spn ∧ MemorySame s t) ∧
  (∀ (s : State), (s.sys.shutStage = some .braking ∧ s.sys.shutKind = some .normal ∧ s.sys.mode = .service ∧ s.allParked = true ∧ s.spn.state = .off ∧ s.scr.state ≠ .running) →
   Completes (.shutdownComplete) s fun t => t.sys.shutStage = none ∧ t.sys.shutState = .complete ∧ t.sys.mode = .dormant ∧ t.sys.shutHold = true ∧ Sent (eventMsg epSystem 16 1) s t) ∧
  (∀ (s : State), (s.sys.chipResetBy ≠ none ∧ s.sys.shutStage = none ∧ s.sys.powerLoss = none ∧ (s.allParked = true ∨ 300 * msTicks ≤ s.since s.sys.resetAt)) →
   Completes (.chipReset) s fun t => t.sys.mode = .fill ∧ t.sys.dram = .running ∧ t.sys.chipResetBy = none ∧ t.ident.straps = s.evc.gpioLevel) ∧
  (∀ (cause : PlCause) (s : State), (s.sys.powerLoss = none ∧ cause ≠ .pwrdis ∧ s.plHolds cause = true) →
   Completes (.powerLossDeclared cause) s fun t => t.sys.powerLoss.any (fun p => p.retracting == 0 && !p.done && allActs.all fun a => actIn p.toRetract a == (s.present a && decide ((s.act a).isl.load ≠ .parked))) = true ∧ t.sys.entry = none ∧ t.nvme.cmds = [] ∧ Sent (faultMsg epSystem 8 (plCode cause) (s.localTime epSystem)) s t) ∧
  (∀ (a : Fin 4) (p : PowerLoss) (s : State), (s.sys.powerLoss = some p ∧ actIn p.toRetract a = true ∧ actIn p.retracting a = false ∧ 20 * usTicks + a.val * msTicks ≤ s.since p.since ∧ (s.act a).isl.load = .loaded) →
   Completes (.emergencyRetractStart a) s fun t => (t.act a).isl.load = .retracting ∧ (t.act a).isl.retract = true ∧ t.sys.powerLoss = some { p with retracting := actPut p.retracting a true } ∧ (∀ b, b ≠ a → t.act b = s.act b) ∧ MemorySame s t) ∧
  (∀ (ms : Nat) (p : PowerLoss) (s : State), (s.sys.powerLoss = some p ∧ p.toRetract = 0 ∧ p.done = false ∧ p.nor = false ∧ s.spn.state = .syncRect) →
   Completes (.lastHeadParked ms) s fun t => t.sys.powerLoss = some { p with done := true } ∧ t.odNat 0x020202 0 = ms ∧ t.spn.state = .coast ∧ t.spn.gates = 0 ∧ t.acts = s.acts) ∧
  (∀ (ok : Bool) (p : PowerLoss) (s : State), (s.sys.powerLoss = some p ∧ p.toRetract ≠ 0 ∧ s.sys.retract = false) →
   Completes (.retractEnergyLow ok) s fun t => t.sys.retract = true ∧ t.sys.powerLoss = some { p with nor := ok } ∧ t.sys.needTouchdown = s.sys.needTouchdown ||| p.toRetract ∧ t.acts = s.acts ∧ MemorySame s t ∧ ∀ a, s.present a = true → actIn p.toRetract a = true → Sent (faultMsg epSystem 7 a.val (s.localTime epSystem)) s t) ∧
  (∀ (p : PowerLoss) (s : State), (s.sys.powerLoss = some p ∧ p.done = true ∧ 10 * msTicks ≤ s.since p.since) →
   Completes (.powerLossEnd) s fun t => t.sys.mode = .fill ∧ t.sys.powerLoss = none ∧ t.sys.dram = .running ∧ t.ports.plComp = false ∧ t.ports.pwrdis = false)

/-- A frame that passes every check is counted in FRAMES_OK, its counter becomes the session's last
accepted counter, and it is answered under its tag. A frame of a silenced sender of the field
network changes nothing. A frame that is not for this drive is only counted in FRAMES_DROPPED. A
frame whose tag does not verify under its role's key, or whose items overrun its body, is counted in
OD 0x0400.0A, and the request is not carried out. A stale counter of a verified frame is counted in
OD 0x0400.0B and answered 0x0B while fewer than 64 failure answers went out this minute (fixed
minutes of chip time: the model's choice, log 105). A frame that finds 16 of its transport waiting
is answered 0x09 with fault 159. An unlisted operation is answered 0x01. (03_object_dictionary.md;
14_cipher.md) -/
def Obligations.BuythFramesAreCheckedBeforeTheyAreServed : Prop :=
  (∀ (f : Frame) (r : Req) (s : State), (Accepted 1 f r s ∧ r.keys = [{ index := 3, sub := 1 }]) →
   Completes (.dictRead f.wire f.here) s fun t => t.dict.framesOk = s.dict.framesOk + 1 ∧ t.lastCounter f.session = some f.counter ∧ t.dict.framesDropped = s.dict.framesDropped ∧ Answered (s.resp f 1 0 [{ key := { index := 3, sub := 1 }, status := 0, ty := 3, val := some (.num 2) }] []) t ∧ ObjectsSame s t ∧ MemorySame s t) ∧
  (∀ (f : Frame) (s : State), (s.isSilenced f.sender = true ∧ f.sender.transport ≠ 2) →
   Completes (.dictRead f.wire f.here) s fun t => t = s) ∧
  (∀ (f : Frame) (s : State), (s.frameReaches f = true ∧ s.isSilenced f.sender = false ∧ s.frameForUs f = false ∧ f.sender.transport ≠ 2 ∧ ((s.reqOf f).all fun r => r.op == 1) = true) →
   Completes (.dictRead f.wire f.here) s fun t => t = s.onDict (fun d => { d with framesDropped := d.framesDropped + 1 })) ∧
  (∀ (f : Frame) (s : State), (s.frameReaches f = true ∧ s.isSilenced f.sender = false ∧ s.frameForUs f = true ∧ s.reqOf f = none) →
   Completes (.dictWrite f.wire f.here) s fun t => t.odNat 0x40000A 0 = s.odNat 0x40000A 0 + 1 ∧ t.dict.framesDropped = s.dict.framesDropped + 1 ∧ t.dict.framesOk = s.dict.framesOk ∧ (∀ k, k ≠ 0x40000A → k ≠ 0x517002 → k ≠ 0x517003 → Tab.get? t.dict.od k = Tab.get? s.dict.od k) ∧ t.dict.counters = s.dict.counters ∧ t.acts = s.acts ∧ MemorySame s t) ∧
  (∀ (f : Frame) (r : Req) (s : State), (s.frameReaches f = true ∧ s.isSilenced f.sender = false ∧ s.frameForUs f = true ∧ s.reqOf f = some r ∧ r.op = 2 ∧ f.link.broadcast = false ∧ s.counterNew f.session f.counter = false ∧ s.dict.failMinute.toNat = s.ticks / (60 * secTicks) ∧ s.dict.failAnswers < 64) →
   Completes (.dictWrite f.wire f.here) s fun t => t.odNat 0x40000B 0 = s.odNat 0x40000B 0 + 1 ∧ t.dict.framesDropped = s.dict.framesDropped + 1 ∧ Answered (s.resp f 2 0x0B [] []) t ∧ t.dict.failAnswers = s.dict.failAnswers + 1 ∧ t.dict.fails = s.dict.fails ∧ (∀ k, k ≠ 0x40000B → k ≠ 0x517002 → Tab.get? t.dict.od k = Tab.get? s.dict.od k) ∧ t.acts = s.acts ∧ MemorySame s t) ∧
  (∀ (f : Frame) (r : Req) (s : State), (Accepted 2 { f with queued := 0 } r s ∧ s.reqOf f = some r ∧ 16 ≤ f.queued) →
   Completes (.dictWrite f.wire f.here) s fun t => t.dict.framesDropped = s.dict.framesDropped + 1 ∧ t.dict.counters = s.dict.counters ∧ SentOnly [faultMsg epResident 159 f.sender.transport (s.localTime epResident)] s t ∧ Answered (s.resp f 2 0x09 [] []) t ∧ ObjectsSame s t ∧ t.acts = s.acts ∧ MemorySame s t) ∧
  (∀ (f : Frame) (r : Req) (s : State), (Accepted r.op f r s ∧ (r.op = 0 ∨ 0x0B < r.op) ∧ f.link.broadcast = false) →
   Completes (.unknownDictOp f.wire f.here) s fun t => Answered (s.resp f r.op 1 [] []) t ∧ t.dict.framesOk = s.dict.framesOk + 1 ∧ ObjectsSame s t ∧ t.acts = s.acts ∧ MemorySame s t)

/-- An accepted READ of an object answers its type and value, or the status of an access that fails
(0x01 for an index nothing uses). READ_LONG answers the bytes from the offset, at most 1,024.
DESCRIBE answers access, role and Saved, packed as log 105 chooses. ENUMERATE of no or more than 200
entries answers 0x06, and otherwise one entry per index from the first asked for. IDENTIFY answers
the node ID and the identity objects, at once or, to a broadcast, once (node ID mod 64) ms have
passed. None of them changes an object, an actuator or memory. (03_object_dictionary.md) -/
def Obligations.DictionaryReadsAndListings : Prop :=
  (∀ (f : Frame) (r : Req) (k : ObjKey) (e : BitVec 8) (s : State), (Accepted 1 f r s ∧ r.keys = [k] ∧ failure (s.objInfo k) = some e) →
   Completes (.dictRead f.wire f.here) s fun t => Answered (s.resp f 1 0 [{ key := k, status := e, ty := 0, val := none }] []) t ∧ ObjectsSame s t ∧ t.acts = s.acts ∧ MemorySame s t) ∧
  (∀ (f : Frame) (r : Req) (k : ObjKey) (x : ObjInfo) (v : OdVal) (s : State), (Accepted 1 f r s ∧ r.keys = [k] ∧ (s.objInfo k).toOption = some x ∧ x.acc = .const ∧ x.role = 1 ∧ f.role ≠ 0 ∧ x.guest = none ∧ s.objValue f.session k x = some v ∧ odSize (BitVec.ofNat 8 x.ty) v ≤ 1444) →
   Completes (.dictRead f.wire f.here) s fun t => Answered (s.resp f 1 0 [{ key := k, status := 0, ty := BitVec.ofNat 8 x.ty, val := some v }] []) t ∧ ObjectsSame s t ∧ t.acts = s.acts ∧ MemorySame s t) ∧
  (∀ (f : Frame) (r : Req) (k : ObjKey) (x : ObjInfo) (b : List Byte) (o n : Nat) (s : State), (Accepted 0x0B f r s ∧ r.span = some (k, o, n) ∧ (s.objInfo k).toOption = some x ∧ x.acc = .const ∧ x.role = 1 ∧ f.role ≠ 0 ∧ x.guest = none ∧ s.objValue f.session k x = some (.oct b) ∧ n ≤ 1024) →
   Completes (.readLong f.link f.bytes f.queued f.guests) s fun t => Answered { s.resp f 0x0B 0 [] [] with bytes := (b.drop o).take n } t ∧ ObjectsSame s t ∧ t.acts = s.acts ∧ MemorySame s t) ∧
  (∀ (f : Frame) (r : Req) (k : ObjKey) (x : ObjInfo) (s : State), (Accepted 9 f r s ∧ r.keys = [k] ∧ (s.objInfo k).toOption = some x ∧ (x.dflt.all fun v => decide (odSize (BitVec.ofNat 8 x.ty) v ≤ 1440)) = true) →
   Completes (.describe f.wire f.here) s fun t => Answered (s.resp f 9 0 [{ key := k, status := 0, ty := BitVec.ofNat 8 x.ty, val := x.dflt }] [(match x.acc with | .ro => 0 | .rw => 1 | .wo => 2 | .const => 3) + 256 * x.role + 65536 * b2n x.saved]) t ∧ ObjectsSame s t ∧ t.acts = s.acts ∧ MemorySame s t) ∧
  (∀ (f : Frame) (r : Req) (s : State), (Accepted 8 f r s ∧ (r.listing.2 = 0 ∨ 200 < r.listing.2)) →
   Completes (.enumerate f.wire f.queued f.guests) s fun t => Answered (s.resp f 8 6 [] []) t ∧ ObjectsSame s t ∧ t.acts = s.acts) ∧
  (∀ (f : Frame) (r : Req) (s : State), (Accepted 8 f r s ∧ 1 ≤ r.listing.2 ∧ r.listing.2 ≤ 200) →
   Completes (.enumerate f.wire f.queued f.guests) s fun t => (∃ l, Answered (s.resp f 8 0 [] l) t ∧ l.length ≤ r.listing.2 ∧ ∀ x ∈ l, r.listing.1 ≤ x % 2 ^ 16 ∧ s.indexKnown (x % 2 ^ 16) = true) ∧ ObjectsSame s t ∧ t.acts = s.acts ∧ MemorySame s t) ∧
  (∀ (f : Frame) (r : Req) (s : State), (Accepted 0x0A f r s ∧ f.link.broadcast = false) →
   Completes (.dictIdentify f) s fun t => (∃ l, l.map (fun x => x.key.index) = [0x0100, 0x0100, 0x0100, 0x0100, 0x0100, 0x0110] ∧ Answered (s.resp f 0x0A 0 l [s.p0300NodeId]) t) ∧ ObjectsSame s t ∧ t.acts = s.acts ∧ MemorySame s t) ∧
  (∀ (f : Frame) (r : Req) (s : State), (Accepted 0x0A f r s ∧ f.link.broadcast = true ∧ s.dict.held = none) →
   Completes (.dictIdentify f) s fun t => t.dict.answers = s.dict.answers ∧ t.dict.broadcasts.length = s.dict.broadcasts.length + 1 ∧ (t.dict.broadcasts.getLast?.map fun b => b.1) = some s.now ∧ ObjectsSame s t ∧ t.acts = s.acts) ∧
  (∀ (b : BitVec 64) (r : Resp) (l : List (BitVec 64 × Resp)) (s : State), (s.dict.broadcasts = (b, r) :: l ∧ s.p0300NodeId % 64 * msTicks ≤ s.since b) →
   Completes (.broadcastReplyDelay) s fun t => Answered r t ∧ t.dict.broadcasts = l ∧ ObjectsSame s t ∧ t.acts = s.acts ∧ t.fab = s.fab)

/-- An accepted WRITE of an item that fails its checks answers the item's status and leaves it; one
whose item is a plain value holds it. STAGE adds a checked item to its session's set. DISCARD, and
30 s without a request, forget the set. COMMIT of an empty set answers 0x00; of one whose item
fails, the position and status, the set kept. SAVE while one runs answers 0x09; otherwise it takes
an image with the next sequence number and its CRC-32, which a good program makes the current copy
with event 315, while a failed one raises fault 155 and keeps the current copy. RESTORE below the
Teacher role answers 0x03. (03_object_dictionary.md) -/
def Obligations.DictionaryWritesStagesAndSaves : Prop :=
  (∀ (f : Frame) (r : Req) (w : WriteItem) (e : BitVec 8) (s : State), (Accepted 2 f r s ∧ r.items = [w] ∧ failure (s.itemStatus (s.probe [w]) f.role w) = some e) →
   Completes (.dictWrite f.wire f.here) s fun t => Answered (s.resp f 2 0 [{ key := w.key, status := e, ty := 0, val := none }] []) t ∧ ObjectsSame s t ∧ t.acts = s.acts ∧ MemorySame s t) ∧
  (∀ (f : Frame) (r : Req) (w : WriteItem) (s : State), (Accepted 2 f r s ∧ r.items = [w] ∧ w.key = { index := 0x0200, sub := 4 } ∧ w.ty = 4 ∧ w.bytes.length = 4 ∧ 2 ≤ f.role.toNat ∧ 100 ≤ leNat w.bytes ∧ leNat w.bytes ≤ 3600000) →
   Completes (.dictWrite f.wire f.here) s fun t => t.odNat 0x020004 5000 = leNat w.bytes ∧ (∀ k, k ≠ 0x020004 → k ≠ 0x517002 → Tab.get? t.dict.od k = Tab.get? s.dict.od k) ∧ Answered (s.resp f 2 0 [{ key := { index := 0x0200, sub := 4 }, status := 0, ty := 0, val := none }] []) t ∧ t.acts = s.acts ∧ t.sys = s.sys ∧ MemorySame s t) ∧
  (∀ (f : Frame) (r : Req) (w : WriteItem) (x : ObjInfo) (s : State), (Accepted 3 f r s ∧ r.items = [w] ∧ s.stagedOf f.session = [] ∧ (s.itemStatus (s.probe [w]) f.role w).toOption = some x ∧ w.bytes.length ≤ 1024) →
   Completes (.stage f.wire f.here) s fun t => t.stagedOf f.session = [w] ∧ (∀ y, y ≠ f.session → t.stagedOf y = s.stagedOf y) ∧ Answered (s.resp f 3 0 [{ key := w.key, status := 0, ty := 0, val := none }] []) t ∧ ObjectsSame s t ∧ t.acts = s.acts) ∧
  (∀ (f : Frame) (r : Req) (s : State), (Accepted 5 f r s) →
   Completes (.discard f) s fun t => t.stagedOf f.session = [] ∧ (∀ y, y ≠ f.session → t.stagedOf y = s.stagedOf y) ∧ Answered (s.resp f 5 0 [] []) t ∧ ObjectsSame s t ∧ t.acts = s.acts) ∧
  (∀ (x : SessionId) (y : Session) (s : State), ((s.dict.sessions.find? fun z => decide (z.sid = x)) = some y ∧ 30 * secTicks ≤ s.since y.lastUse) →
   Completes (.stagedSetExpiry x) s fun t => t.stagedOf x = [] ∧ (∀ y, y ≠ x → t.stagedOf y = s.stagedOf y) ∧ t.dict.od = s.dict.od ∧ t.acts = s.acts ∧ t.fab = s.fab) ∧
  (∀ (f : Frame) (r : Req) (s : State), (Accepted 4 f r s ∧ s.stagedOf f.session = []) →
   Completes (.commit f none) s fun t => Answered (s.resp f 4 0 [] []) t ∧ ObjectsSame s t ∧ t.acts = s.acts ∧ MemorySame s t) ∧
  (∀ (f : Frame) (r : Req) (w : WriteItem) (e : BitVec 8) (s : State), (Accepted 4 f r s ∧ s.stagedOf f.session = [w] ∧ failure (s.itemStatus (s.probe [w]) f.role w) = some e ∧ e ≠ 0 ∧ ((s.objInfo w.key).toOption.any fun x => x.guest.isSome) = false) →
   Completes (.commit f none) s fun t => Answered (s.resp f 4 e [] [0, e.toNat]) t ∧ t.stagedOf f.session = [w] ∧ ObjectsSame s t ∧ t.acts = s.acts ∧ MemorySame s t) ∧
  (∀ (f : Frame) (r : Req) (s : State), (Accepted 6 f r s ∧ s.dict.saving.isSome = true) →
   Completes (.save f.wire f.here) s fun t => Answered (s.resp f 6 9 [] []) t ∧ t.dict.saving = s.dict.saving ∧ t.dict.current = s.dict.current ∧ ObjectsSame s t ∧ t.acts = s.acts) ∧
  (∀ (f : Frame) (r : Req) (s : State), (Accepted 6 f r s ∧ s.dict.saving = none) →
   Completes (.save f.wire f.here) s fun t => (t.dict.saving.map fun r => (r.copy.seq, r.copy.valid, r.copy.roleKeys)) = some (s.currentCopy.seq + 1, true, s.dict.keys) ∧ t.dict.current = s.dict.current ∧ t.dict.copy0 = s.dict.copy0 ∧ t.dict.copy1 = s.dict.copy1 ∧ ObjectsSame s t ∧ t.acts = s.acts) ∧
  (∀ (r : SaveRun) (s : State), (s.dict.saving = some r ∧ r.want = { answer := none, cmd := none, more := 0 } ∧ s.dict.saveNext = []) →
   Completes (.saveComplete .done) s fun t => t.currentCopy = r.copy ∧ t.dict.current = !s.dict.current ∧ t.dict.saving = none ∧ SentOnly [eventMsg epSystem 315 r.copy.seq.toNat] s t ∧ t.acts = s.acts ∧ MemorySame s t) ∧
  (∀ (r : SaveRun) (a : Resp) (s : State), (s.dict.saving = some r ∧ r.want = { answer := some a, cmd := none, more := 0 } ∧ s.dict.saveNext = []) →
   Completes (.saveComplete .programFailed) s fun t => t.currentCopy = s.currentCopy ∧ t.dict.current = s.dict.current ∧ t.dict.saving = none ∧ Answered { a with status := 0x0D } t ∧ SentOnly [faultMsg epSystem 155 0 (s.localTime epSystem)] s t ∧ t.acts = s.acts ∧ MemorySame s t) ∧
  (∀ (f : Frame) (r : Req) (a b : ObjKey) (s : State), (Accepted 7 f r s ∧ r.keys = [a, b] ∧ f.role.toNat < 2) →
   Completes (.restore f.wire f.queued f.guests) s fun t => Answered (s.resp f 7 3 [] []) t ∧ ObjectsSame s t ∧ t.acts = s.acts) ∧
  (∀ (f : Frame) (r : Req) (i j : ObjKey) (s : State), (Accepted 7 f r s ∧ r.keys = [i, j] ∧ j.index = i.index ∧ 2 ≤ f.role.toNat ∧ s.dict.guestObjs = [] ∧ 1 ≤ i.index.toNat ∧ i.index.toNat ≤ 13) →
   Completes (.restore f.wire f.queued f.guests) s fun t => Answered (s.resp f 7 0 [] [0]) t ∧ Sent (eventMsg epField 316 0) s t ∧ ObjectsSame s t ∧ t.acts = s.acts ∧ MemorySame s t)

/-- A fetched Buyth Send completes and one more frame of its controller waits, or, with 16 waiting,
it completes with status 0xC1 and none is taken in. A fetched Buyth Receive takes the response that
holds its tag, or awaits it; after 3,500 ms without it, it completes with status 0xC0. The end of a
silence, 60 s after it began, forgets the sender's failures with event 313. The end of the key grace
forgets the keys changed 2 s ago or more. A message left incomplete is dropped with fault 158. A
guest that has not answered its access for 10 ms releases the held response with fault 156. An
arbitration won with this drive's provisional ID assigns its dynamic address; a bus that fails is
fault 158 kind 0. (03_object_dictionary.md) -/
def Obligations.BuythCarriageTimersAndGuests : Prop :=
  (∀ (h : NvmeHdr) (frame : List Byte) (s : State), (s.fetchOk h true = true ∧ FreshNumbers s ∧ (s.dict.nvmeWaiting.countP fun w => decide (w.1 = h.ctrl)) < 16) →
   Completes (.buythSend h frame.length frame) s fun t => t.dict.nvmeWaiting = s.dict.nvmeWaiting ++ [(h.ctrl, frame)] ∧ ((t.cmd? (s.nvme.fetched + 1)).map fun k => (k.need, k.status)) = some (.nothing, nvOk) ∧ t.acts = s.acts ∧ MemorySame s t) ∧
  (∀ (h : NvmeHdr) (frame : List Byte) (s : State), (s.fetchOk h true = true ∧ FreshNumbers s ∧ 16 ≤ (s.dict.nvmeWaiting.countP fun w => decide (w.1 = h.ctrl))) →
   Completes (.buythSend h frame.length frame) s fun t => t.dict.nvmeWaiting = s.dict.nvmeWaiting ∧ ((t.cmd? (s.nvme.fetched + 1)).map fun k => (k.need, k.status)) = some (.nothing, nvRetry .framesWaiting) ∧ t.acts = s.acts ∧ MemorySame s t) ∧
  (∀ (h : NvmeHdr) (tag : BitVec 32) (len : Nat) (s : State), (s.fetchOk h true = true ∧ FreshNumbers s ∧ s.dict.responses = []) →
   Completes (.buythReceive h tag len) s fun t => ((t.cmd? (s.nvme.fetched + 1)).map fun k => k.need) = some (.buyth tag len s.now) ∧ t.dict.responses = [] ∧ t.dict.delivered = s.dict.delivered ∧ t.acts = s.acts ∧ MemorySame s t) ∧
  (∀ (h : NvmeHdr) (r : Resp) (len : Nat) (s : State), (s.fetchOk h true = true ∧ FreshNumbers s ∧ s.dict.responses = [r] ∧ r.sender = .nvme h.ctrl) →
   Completes (.buythReceive h r.tagId len) s fun t => ((t.cmd? (s.nvme.fetched + 1)).map fun k => (k.need, k.status, k.dw0)) = some (.nothing, nvOk, BitVec.ofNat 32 r.frame.length) ∧ t.dict.responses = [] ∧ t.dict.delivered.length = s.dict.delivered.length + 1 ∧ t.acts = s.acts ∧ MemorySame s t) ∧
  (∀ (c : Fin 2) (tag : BitVec 32) (k : Cmd) (n : Nat) (b : BitVec 64) (s : State), (s.nvme.cmds = [k] ∧ k.ctrl = c ∧ k.need = .buyth tag n b ∧ 3500 * msTicks ≤ s.since b) →
   Completes (.buythReceiveTimeout c tag) s fun t => ((t.cmd? k.n).map fun x => (x.need, x.status)) = some (.nothing, nvRetry .noResponse) ∧ t.dict = s.dict ∧ t.acts = s.acts ∧ t.fab = s.fab) ∧
  (∀ (x : Sender) (y : Silence) (s : State), (s.dict.silenced = [y] ∧ y.sender = x ∧ 60 * secTicks ≤ s.since y.since) →
   Completes (.silenceEnd x) s fun t => t.dict.silenced = [] ∧ (∀ e ∈ t.dict.fails, e.sender ≠ x) ∧ SentOnly [eventMsg epField 313 x.qual] s t ∧ t.dict.od = s.dict.od ∧ t.acts = s.acts) ∧
  (∀ (s : State),
   Completes (.keyGraceEnd) s fun t => t = s.onDict fun d => { d with oldKeys := d.oldKeys.filter fun k => decide (s.since k.since < 2 * secTicks) }) ∧
  (∀ (s : State), (s.sys.coreReleased = true ∧ s.domOn 30 = true ∧ bitOf s.p0300Transports 1 = true) →
   Completes (.mctpReassemblyTimeout) s fun t => t.dict.framesDropped = s.dict.framesDropped + 1 ∧ SentOnly [faultMsg epField 158 1 (s.localTime epField)] s t ∧ t.dict.od = s.dict.od ∧ t.acts = s.acts) ∧
  (∀ (a : Fin 4) (r : Resp) (b : BitVec 64) (s : State), (s.dict.held = some { since := b, acts := [a], resp := r } ∧ 10 * msTicks ≤ s.since b) →
   Completes (.guestObjectTimeout a) s fun t => t.dict.held = none ∧ Answered r t ∧ Sent (faultMsg epResident 156 a.val (s.localTime epResident)) s t ∧ t.dict.od = s.dict.od ∧ t.acts = s.acts ∧ MemorySame s t) ∧
  (∀ (up beacon dup phy : Bool) (s : State), (s.sys.coreReleased = true ∧ s.domOn 30 = true ∧ s.dict.linkState.getLsbD 1 = false) →
   Completes (.t1sLinkStateChange up beacon dup phy) s fun t => t.dict.linkState.getLsbD 0 = up ∧ t.dict.linkState.getLsbD 1 = beacon ∧ t.dict.linkState.getLsbD 2 = s.dict.linkState.getLsbD 2 ∧ (phy = true → Sent (faultMsg epField 157 0 (s.localTime epField)) s t) ∧ (dup = true → Sent (faultMsg epField 157 2 (s.localTime epField)) s t) ∧ (up ≠ s.dict.linkState.getLsbD 0 → Sent (eventMsg epField 318 t.dict.linkState.toNat) s t) ∧ t.dict.od = s.dict.od ∧ t.acts = s.acts ∧ MemorySame s t) ∧
  (∀ (up : Bool) (s : State), (s.sys.coreReleased = true ∧ s.domOn 30 = true ∧ s.dict.linkState.getLsbD 1 = true) →
   Completes (.t1sLinkStateChange up false false false) s fun t => t.dict.linkState.getLsbD 1 = false ∧ SentOnly [eventMsg epField 318 t.dict.linkState.toNat, faultMsg epField 157 1 (s.localTime epField)] s t ∧ t.dict.od = s.dict.od ∧ t.acts = s.acts ∧ MemorySame s t) ∧
  (∀ (x : DaaInputs) (s : State), (s.sys.coreReleased = true ∧ s.domOn 30 = true ∧ bitOf s.p0300Transports 1 = true ∧ x.busFault = false ∧ x.pid.toNat = 0xA00 + s.ident.straps.toNat % 64 ∧ x.eid ≠ 0) →
   Completes (.entdaa x) s fun t => t.dict = { s.dict with i3cAddr := x.addr, mctpEid := x.eid, linkState := setBit s.dict.linkState 2 true } ∧ t.acts = s.acts ∧ MemorySame s t) ∧
  (∀ (x : DaaInputs) (s : State), (s.sys.coreReleased = true ∧ s.domOn 30 = true ∧ bitOf s.p0300Transports 1 = true ∧ x.busFault = true) →
   Completes (.entdaa x) s fun t => SentOnly [faultMsg epField 158 0 (s.localTime epField)] s t ∧ t.dict = s.dict ∧ t.acts = s.acts ∧ MemorySame s t) ∧
  (∀ (a : Fin 4) (o : GuestObj) (s : State), (s.guestRuns a = true ∧ inGuestRange a o.key.index.toNat = true ∧ o.key.sub ≠ 0) →
   Completes (.guestObjectReport a [o]) s fun t => t = s.onDict fun d => { d with guestObjs := d.guestObjs.filter (fun g => decide (g.act ≠ a)) ++ [s.guestEntry a o] })

/-- SPN_RUN in OFF or LOW_HOLD enters REST_CHECK with every gate at 0. SPN_STOP in RAMP brakes; in
RUN it decelerates at OD 0x2010.16 with STOP held, and a slew notice to 5 % of rated speed goes out
unless the 0xFFFF notice stands. REST_CHECK ends after 1 ms in ALIGN when at most 20 mV were seen
and in CATCH otherwise, with writes held. ALIGN ends after OD 0x2010.07 in RAMP. A handover with
enough confident boundaries at handover speed enters RUN with event 130. START_RETRY after 500 ms of
COAST runs ALIGN with event 129. A catch at or above the catch speed and forward enters BEMF_LOCK
once two electrical periods are measured, a reverse one brakes, with event 131. BEMF_LOCK_HANDOVER
after enough valid steps resumes RUN at the measured speed. With no zero crossing for 200 ms an
orderly stop outside an entry or a shutdown, without a new RUN, leaves every gate at 0 in OFF. Gates
are those commanded; a dead time may delay the ports (see the frame statement). Nothing but spindle
control and the messages sent changes, where the statement says SpindleOnly. (04_spindle.md) -/
def Obligations.SpindleStartsAndStops : Prop :=
  (∀ (s : State), (s.spn.state = .off ∨ s.spn.state = .lowHold) →
   Completes (.spnRun) s fun t => t.spn.state = .restCheck ∧ t.spn.runReq = true ∧ t.spn.gates = 0 ∧ SpindleOnly s t) ∧
  (∀ (s : State), (s.spn.state = .ramp) →
   Completes (.spnStop) s fun t => t.spn.state = .brake ∧ t.spn.stopReq = true ∧ t.spn.gatesWant = 0b010101 ∧ SpindleOnly s t) ∧
  (∀ (s : State), (s.spn.state = .run ∧ s.spn.stopReq = false) →
   Completes (.spnStop) s fun t => t.spn.state = .run ∧ t.spn.stopReq = true ∧ t.spn.rampRate = s.p2010Decel ∧ (s.spn.notice.rate ≠ 0xFFFF → t.spn.notice = { target := BitVec.ofNat 17 (16 * s.p2010RatedRpm / 20), rate := BitVec.ofNat 16 s.p2010Decel, start := s.now16 + 16 * 200 * usTicks }) ∧ SpindleOnly s t) ∧
  (∀ (peakMv : Nat) (s : State), (s.spn.state = .restCheck ∧ msTicks ≤ s.since s.spn.enteredAt ∧ peakMv ≤ 20) →
   Completes (.restCheckEnd peakMv) s fun t => t.spn.state = .align ∧ t.spn.gatesWant = 0b100100 ∧ Sent (eventMsg epSpindle 129 s.spn.attempt) s t ∧ t.acts = s.acts ∧ MemorySame s t) ∧
  (∀ (peakMv : Nat) (s : State), (s.spn.state = .restCheck ∧ msTicks ≤ s.since s.spn.enteredAt ∧ 20 < peakMv) →
   Completes (.restCheckEnd peakMv) s fun t => t.spn.state = .catching ∧ t.spn.gates = 0 ∧ t.spn.wrHold = true ∧ t.acts = s.acts ∧ MemorySame s t) ∧
  (∀ (s : State), (s.spn.state = .align ∧ s.p2010AlignMs * msTicks ≤ s.since s.spn.enteredAt) →
   Completes (.alignEnd) s fun t => t.spn.state = .ramp ∧ t.spn.openLoop = 0 ∧ t.spn.elec = 0 ∧ t.spn.current = fOfNat s.p2010RampI ∧ SpindleOnly s t) ∧
  (∀ (angle : BitVec 16) (s : State), (s.spn.state = .ramp ∧ s.p2010HandoverSteps ≤ s.spn.confident ∧ s.p2010HandoverRpm * rpmUnit ≤ s.spn.openLoop) →
   Completes (.handover angle) s fun t => t.spn.state = .run ∧ t.spn.angle = angle ∧ t.spn.reference = s.spn.openLoop ∧ Sent (eventMsg epSpindle 130 (s.spn.openLoop / rpmUnit)) s t ∧ t.acts = s.acts ∧ MemorySame s t) ∧
  (∀ (s : State), (s.spn.waiting500 = true ∧ s.spn.state = .coast ∧ 500 * msTicks ≤ s.since s.spn.enteredAt) →
   Completes (.startRetry) s fun t => t.spn.state = .align ∧ t.spn.waiting500 = false ∧ Sent (eventMsg epSpindle 129 s.spn.attempt) s t ∧ t.acts = s.acts ∧ MemorySame s t) ∧
  (∀ (rpm : Nat) (x : CatchFind) (s : State), (s.spn.state = .catching ∧ s.catchTicks rpm ≤ s.since s.spn.enteredAt ∧ s.p2010CatchRpm ≤ rpm ∧ rpm < 2 ^ 31 ∧ x.reverse = false) →
   Completes (.catchEnd rpm x) s fun t => t.spn.state = .bemfLock ∧ t.spn.catchSpeed = rpm ∧ t.spn.wrHold = true ∧ Sent (eventMsg epSpindle 131 rpm) s t ∧ t.acts = s.acts) ∧
  (∀ (rpm : Nat) (x : CatchFind) (s : State), (s.spn.state = .catching ∧ s.catchTicks rpm ≤ s.since s.spn.enteredAt ∧ rpm < 2 ^ 31 ∧ x.reverse = true) →
   Completes (.catchEnd rpm x) s fun t => t.spn.state = .brake ∧ Sent (eventMsg epSpindle 131 (2 ^ 31 + rpm)) s t ∧ t.acts = s.acts) ∧
  (∀ (s : State), (s.spn.state = .bemfLock ∧ s.p2010HandoverSteps ≤ s.spn.validSteps ∧ s.spn.catchFromRun = false) →
   Completes (.bemfLockHandover) s fun t => t.spn.state = .run ∧ t.spn.reference = spd16 s.spn.speed.toNat ∧ Sent (eventMsg epSpindle 130 (s.spn.speed.toNat / 16)) s t ∧ t.acts = s.acts ∧ MemorySame s t) ∧
  (∀ (s : State), (s.spn.state = .brake ∧ s.spn.zeroVector = false ∧ s.spn.stopReq = true ∧ s.spn.runReq = false ∧ 200 * msTicks ≤ s.since s.spn.eventAt ∧ s.sys.entry = none ∧ s.sys.shutStage = none) →
   Completes (.brakeStopped) s fun t => t.spn.state = .off ∧ t.spn.gates = 0 ∧ t.spn.stopReq = false ∧ SentOnly [eventMsg epSpindle 143 0, eventMsg epSpindle 128 (9 * 256)] s t ∧ (s.spn.pendingParams = [] → SpindleOnly s t) ∧ t.acts = s.acts ∧ t.nvme = s.nvme ∧ t.hm = s.hm ∧ MemorySame s t)

/-- A write of SPN_TARGET with CRUISE clear and a value of 3,600 to 7,500 rpm sets the target and
clears CRUISE, and in RUN without a stop request announces it 200 us ahead unless the 0xFFFF notice
stands; a value outside only sets CONFLICT (bit 8 of SPN_FLAGS). A change of DTC takes effect in OFF
and LOW_HOLD and only sets CONFLICT in any other state. A parameter word written in OFF or LOW_HOLD
is stored at once, cut to the size of its object; while the spindle is in use it waits for the next
step boundary, except that a state-bound word (subindex 1, 2, 0x28, 0x29, 0x2A) only sets CONFLICT.
(04_spindle.md) -/
def Obligations.SpindleTargetDtcAndParameterWrites : Prop :=
  (∀ (v : BitVec 32) (s : State), (v.getLsbD 31 = false ∧ 16 * 3600 ≤ fld v.toNat 0 17 ∧ fld v.toNat 0 17 ≤ 16 * 7500) →
   Completes (.spnTargetWrite v) s fun t => t.spn.target = BitVec.ofNat 17 (fld v.toNat 0 17) ∧ t.spn.cruise = false ∧ t.spn.state = s.spn.state ∧ (s.spn.state = .run → s.spn.stopReq = false → s.spn.notice.rate ≠ 0xFFFF → t.spn.notice.target = t.spn.target ∧ t.spn.notice.start = s.now16 + 16 * 200 * usTicks) ∧ SpindleOnly s t) ∧
  (∀ (v : BitVec 32) (s : State), (fld v.toNat 0 17 < 16 * 3600 ∨ 16 * 7500 < fld v.toNat 0 17) →
   Completes (.spnTargetWrite v) s fun t => t = s.onSpn fun p => { p with flags := setBit p.flags 8 true }) ∧
  (∀ (dtc : Bool) (s : State), (dtc ≠ s.spn.dtc ∧ (s.spn.state = .off ∨ s.spn.state = .lowHold)) →
   Completes (.spnDtcWrite dtc) s fun t => t = s.onSpn fun p => { p with dtc := dtc }) ∧
  (∀ (dtc : Bool) (s : State), (dtc ≠ s.spn.dtc ∧ s.spn.state ≠ .off ∧ s.spn.state ≠ .lowHold) →
   Completes (.spnDtcWrite dtc) s fun t => t = s.onSpn fun p => { p with flags := setBit p.flags 8 true }) ∧
  (∀ (sub : BitVec 8) (v : BitVec 32) (s : State), (paramSize sub.toNat ≠ 0 ∧ (s.spn.state = .off ∨ s.spn.state = .lowHold)) →
   Completes (.spnParamWrite sub v) s fun t => t = (s.odSet (odKey 0x2010 sub.toNat) (v.toNat % 2 ^ (8 * paramSize sub.toNat))).onSpn fun p => { p with pendingParams := Tab.del p.pendingParams sub.toNat }) ∧
  (∀ (sub : BitVec 8) (v : BitVec 32) (s : State), (paramSize sub.toNat ≠ 0 ∧ s.spn.state = .run ∧ sub.toNat ∈ [0x01, 0x02, 0x28, 0x29, 0x2A]) →
   Completes (.spnParamWrite sub v) s fun t => t = s.onSpn fun p => { p with flags := setBit p.flags 8 true }) ∧
  (∀ (sub : BitVec 8) (v : BitVec 32) (s : State), (paramSize sub.toNat ≠ 0 ∧ s.spn.state = .run ∧ sub.toNat ∉ [0x01, 0x02, 0x28, 0x29, 0x2A]) →
   Completes (.spnParamWrite sub v) s fun t => Tab.get? t.spn.pendingParams sub.toNat = some (v.toNat % 2 ^ (8 * paramSize sub.toNat)) ∧ t.dict = s.dict ∧ SpindleOnly s t)

/-- A locked rotor in RUN after a first commutation event (none for OD 0x2010.0F steps at the
target) raises fault 73, opens every gate, holds writes and begins the restart at once when every
head is parked; at start (none for OD 0x2010.0E after the handover) it raises fault 72 with the
attempt. An observer loss raises fault 75 and events 138 and 128 and enters FLYWHEEL with writes
held. Twelve good crossings in FLYWHEEL resume RUN with event 139, at the reference held where no
target was written meanwhile. The flywheel's expiry raises fault 76 and opens every gate in COAST,
from which CATCH follows. 64 wedges beyond the band raise fault 77 with the reference. A PWM period
puts the nine ADC codes and the observer's angle into the registers, in every state. The wedge
reference moves to the wanted source with event 133 and REF_LOST set in SPN_FLAGS, and to the
observer while no heads are loaded without fault 85. With speed within tolerance for RELEASE_WEDGES
wedges while the 0xFFFF notice stands, the release notice goes out and event 137 ends the hold.
(04_spindle.md) -/
def Obligations.SpindleLossesMeasurementAndReference : Prop :=
  (∀ (s : State), (s.spn.state = .run ∧ s.spn.ranFirst = true ∧ s.p2010LockIntervals * s.stepTicks s.spn.target.toNat ≤ s.since s.spn.eventAt ∧ (∀ a, (s.act a).isl.load = .parked)) →
   Completes (.lockedRotor) s fun t => t.spn.state = .restCheck ∧ t.spn.gates = 0 ∧ t.spn.wrHold = true ∧ t.spn.attempt = 0 ∧ Sent (faultMsg epSpindle 73 0 (s.localTime epSpindle)) s t ∧ t.acts = s.acts ∧ MemorySame s t) ∧
  (∀ (s : State), (s.spn.state = .run ∧ s.spn.ranFirst = false ∧ s.p2010LockWin * msTicks ≤ s.since s.spn.enteredAt ∧ s.spn.attempt < s.p2010StartRetries) →
   Completes (.lockedRotor) s fun t => t.spn.state = .coast ∧ t.spn.gates = 0 ∧ t.spn.waiting500 = true ∧ t.spn.attempt = s.spn.attempt + 1 ∧ Sent (faultMsg epSpindle 72 s.spn.attempt (s.localTime epSpindle)) s t ∧ SpindleOnly s t) ∧
  (∀ (s : State), (s.spn.state = .run ∧ 6 * s.p2010ObsLossPer ≤ s.spn.residHigh) →
   Completes (.observerLoss) s fun t => t.spn.state = .flywheel ∧ t.spn.wrHold = true ∧ t.spn.flags.getLsbD 1 = true ∧ Sent (faultMsg epSpindle 75 0 (s.localTime epSpindle)) s t ∧ Sent (eventMsg epSpindle 138 (s.spn.speed.toNat / 16)) s t ∧ SpindleOnly s t) ∧
  (∀ (s : State), (s.spn.state = .flywheel ∧ 12 ≤ s.spn.goodCross ∧ s.spn.storedTarget = none) →
   Completes (.reacquired) s fun t => t.spn.state = .run ∧ t.spn.reference = s.spn.reference ∧ Sent (eventMsg epSpindle 139 0) s t ∧ SpindleOnly s t) ∧
  (∀ (s : State), (s.spn.state = .flywheel ∧ s.p2010FlywheelPer ≤ s.spn.turns) →
   Completes (.flywheelExpiry) s fun t => t.spn.state = .coast ∧ t.spn.gates = 0 ∧ t.spn.catchFromRun = true ∧ Sent (faultMsg epSpindle 76 0 (s.localTime epSpindle)) s t ∧ SpindleOnly s t) ∧
  (∀ (s : State), (64 ≤ s.spn.devCount) →
   Completes (.speedDeviation) s fun t => t.spn.devCount = 0 ∧ SentOnly [faultMsg epSpindle 77 s.spn.refSrc.toNat (s.localTime epSpindle)] s t ∧ SpindleOnly s t) ∧
  (∀ (p : PwmInputs) (s : State),
   Completes (.pwmPeriod p) s fun t => t.spn.adc = (List.range 9).map (fun i => nth p.adc i 0) ∧ t.spn.angle = p.angle) ∧
  (∀ (s : State), (s.wantedRef ≠ s.spn.refSrc ∧ (∀ a, s.loaded a = false)) →
   Completes (.refMove) s fun t => t.spn.refSrc = s.wantedRef ∧ t.spn.devCount = 0 ∧ t.spn.flags.getLsbD 7 = true ∧ SentOnly [eventMsg epSpindle 133 s.wantedRef.toNat] s t ∧ SpindleOnly s t) ∧
  (∀ (s : State), (s.spn.notice.rate = 0xFFFF ∧ s.spn.state = .run ∧ s.p2010ReleaseWedges ≤ s.spn.relCount) →
   Completes (.slewRelease) s fun t => t.spn.wrHold = false ∧ t.spn.notice.rate = 0 ∧ t.spn.relCount = 0 ∧ Sent (eventMsg epSpindle 137 0) s t ∧ SpindleOnly s t)

/-- Every upward crossing of OV_WARN raises fault 78, and the first of an episode is counted; a fall
of 300 mV below it ends the halving. SP.CHD goes to 1 with event 140 unless a chopper fault stands,
and returns to 0 with event 141 and fault 79. A chopper fault, of kind 0 after 20 us without current
and of kind 1 when the rail stays high for OD 0x2010.1E, raises faults 79 and 80, never drives
SP.CHD again and, outside SYNC_RECT and LOW_HOLD, brakes by the zero vector with event 142. A
crossing of OV_FATAL enters LOW_HOLD with fault 81 and keeps FATAL_OV. (04_spindle.md) -/
def Obligations.SpindleOvervoltageProtection : Prop :=
  (∀ (mv : Nat) (s : State), (s.p2010OvWarn ≤ mv) →
   Completes (.ovWarnCross true mv) s fun t => t.spn.ovWarned = true ∧ t.rc.ovEpisodes = s.rc.ovEpisodes + b2n (!s.spn.ovWarned) ∧ SentOnly [faultMsg epSpindle 78 0 (s.localTime epSpindle)] s t ∧ t.acts = s.acts ∧ MemorySame s t) ∧
  (∀ (mv : Nat) (s : State), (mv + 300 ≤ s.p2010OvWarn ∧ s.spn.zeroVector = false) →
   Completes (.ovWarnCross false mv) s fun t => t = s.onSpn fun p => { p with ovWarned := false }) ∧
  (∀ (mv : Nat) (s : State), (s.spn.chopFault = false ∧ s.spn.chopOn = false ∧ s.p2010OvChopOn ≤ mv) →
   Completes (.chopOnCross mv) s fun t => t.spn.chopOn = true ∧ SentOnly [eventMsg epSpindle 140 mv] s t ∧ SpindleOnly s t) ∧
  (∀ (s : State), (s.spn.chopOn = true) →
   Completes (.chopOffCross) s fun t => t.spn.chopOn = false ∧ Sent (faultMsg epSpindle 79 0 (s.localTime epSpindle)) s t ∧ Sent (eventMsg epSpindle 141 (s.since s.spn.chopAt / usTicks)) s t ∧ SpindleOnly s t) ∧
  (∀ (mv : Nat) (s : State), (s.spn.chopOn = true ∧ 20 * usTicks ≤ s.since s.spn.chopAt ∧ s.spn.state = .run) →
   Completes (.chopSenseTimeout mv) s fun t => t.spn.chopOn = false ∧ t.spn.chopFault = true ∧ t.spn.state = .brake ∧ t.spn.gatesWant = 0b010101 ∧ t.spn.zeroVector = true ∧ t.spn.wrHold = true ∧ Sent (faultMsg epSpindle 80 0 (s.localTime epSpindle)) s t ∧ Sent (eventMsg epSpindle 142 mv) s t ∧ t.acts = s.acts) ∧
  (∀ (mv : Nat) (s : State), (s.spn.chopOn = true ∧ s.p2010ChopWin * usTicks ≤ s.since s.spn.chopAt ∧ s.p2010OvChopOn ≤ mv ∧ s.spn.state = .run) →
   Completes (.chopWinExpiry mv) s fun t => t.spn.chopFault = true ∧ t.spn.state = .brake ∧ t.spn.zeroVector = true ∧ Sent (faultMsg epSpindle 80 1 (s.localTime epSpindle)) s t ∧ Sent (eventMsg epSpindle 142 mv) s t ∧ t.acts = s.acts) ∧
  (∀ (s : State), ((∀ a, (s.act a).isl.load = .parked)) →
   Completes (.ovFatalCross) s fun t => t.spn.state = .lowHold ∧ t.spn.gatesWant = 0b010101 ∧ t.spn.flags.getLsbD 5 = true ∧ Sent (faultMsg epSpindle 81 0 (s.localTime epSpindle)) s t ∧ (s.spn.pendingParams = [] → SpindleOnly s t) ∧ t.acts = s.acts ∧ t.nvme = s.nvme ∧ MemorySame s t)

/-- A servo address mark that differs from 0x0B3D in at most SAM_ERR bits, in its window, puts its
instant into SVD_SAM, clears the run of missing wedges unless the position is frozen, and sends a
wedge timing message. A missing wedge lengthens the run, asserts the demodulator's write inhibit,
clears the run of good wedges and, outside ACQUIRE, sets MISSING with fault offset 0. Enough good
wedges set LOCKED with event offset 2. A lock that is to be lost clears LOCKED and enters ACQUIRE
with event offset 1. A head switch takes the new head and shifts the window; a forced acquisition
enters ACQUIRE; a new SVD_TARGET waits for the next sample. A repeated VCM frame is the last one.
(05_actuators_and_position.md) -/
def Obligations.DemodulatorFollowsItsWedges : Prop :=
  (∀ (a : Fin 4) (w : WedgeInputs) (s : State), (s.demodRuns a = true ∧ samMismatch w.sam ≤ (s.act a).svd.samErr.toNat ∧ (s.act a).svd.acquiring = true ∧ (s.act a).svd.lastPos = []) →
   Completes (.servoWedge a w) s fun t => (t.act a).svd.sam = BitVec.ofNat 52 w.instant ∧ (t.act a).svd.samSeen = true ∧ (t.act a).svd.acquire = false ∧ (t.act a).isl.load ≠ .loading ∧ (∀ b, b ≠ a → t.act b = s.act b) ∧ t.spn = s.spn ∧ MemorySame s t) ∧
  (∀ (a : Fin 4) (s : State), (s.present a = true ∧ s.demodRuns a = true ∧ (s.act a).svd.acquiring = false) →
   Completes (.missingWedge a) s fun t => (t.act a).svd.missRun = (s.act a).svd.missRun + 1 ∧ (t.act a).svd.lockRun = 0 ∧ (t.act a).svd.wrInh = true ∧ (t.act a).svd.flags.getLsbD 1 = true ∧ Sent (faultMsg (epAct a 2) (88 + 12 * a.val) (min 15 ((s.act a).svd.missRun + 1)) (s.localTime (epAct a 2))) s t ∧ (∀ b, b ≠ a → t.act b = s.act b) ∧ t.spn = s.spn ∧ MemorySame s t) ∧
  (∀ (a : Fin 4) (s : State), (s.present a = true ∧ (s.act a).svd.locked = false ∧ (s.act a).svd.counted = true ∧ s.p3400LockCount a ≤ (s.act a).svd.lockRun ∧ 1 ≤ (s.act a).svd.lockRun ∧ (s.act a).isl.load = .loaded) →
   Completes (.lockAcquired a) s fun t => (t.act a).svd.locked = true ∧ (t.act a).isl.synLocked = true ∧ SentOnly [eventMsg (epAct a 2) (144 + 24 * a.val) (s.act a).svd.head.toNat] s t ∧ ActuatorOnly a s t) ∧
  (∀ (a : Fin 4) (s : State), (s.present a = true ∧ (s.act a).svd.locked = true ∧ (s.act a).svd.acquiring = false ∧ (s.act a).svd.lossDue = true ∧ (s.act a).svd.lossKind ≠ 2) →
   Completes (.lockLost a) s fun t => (t.act a).svd.locked = false ∧ (t.act a).svd.acquiring = true ∧ (t.act a).isl.synLocked = false ∧ SentOnly [eventMsg (epAct a 2) (144 + 24 * a.val + 1) 0] s t ∧ ActuatorOnly a s t) ∧
  (∀ (a : Fin 4) (head : BitVec 5) (s : State), ((s.act a).wp.ops = []) →
   Completes (.headSwitch a head) s fun t => t = s.onSvd a fun d => { d with head := head, switching := true }) ∧
  (∀ (a : Fin 4) (s : State),
   Completes (.forceAcquire a) s fun t => (t.act a).svd.acquiring = true ∧ (t.act a).svd.acquire = true ∧ (t.act a).svd.locked = false ∧ (t.act a).svd.lockRun = 0 ∧ ActuatorOnly a s t ∧ t.fab = s.fab) ∧
  (∀ (a : Fin 4) (track : BitVec 24) (s : State), ((s.act a).wp.ops = []) →
   Completes (.svdTargetWrite a track) s fun t => (t.act a).svd.targetNext = some track ∧ (t.act a).svd.target = (s.act a).svd.target ∧ ActuatorOnly a s t ∧ t.fab = s.fab) ∧
  (∀ (a : Fin 4) (s : State),
   Completes (.vcmFrameRepeat a) s fun t => (t.act a).vcm.frame = vcmFrame (s.act a).vcm.mode (s.act a).vcm.value (s.act a).vcm.seq ∧ (t.act a).vcm.seq = (s.act a).vcm.seq ∧ ActuatorOnly a s t ∧ t.fab = s.fab)

/-- LOAD on a parked, present, safe actuator whose island is on waits in LOAD_PENDING while the
notice carries 0xFFFF, and otherwise measures the coil at once. A coil resistance within 0.5 to 2
times the previous one, after 1 ms, begins LOADING in ACQUIRE. A load not locked within OD 0x3400.0B
unloads; with attempts left it is marked for a retry. UNLOAD and a retract leave LOADED for
UNLOADING and RETRACTING. An arm whose velocity estimate has stayed below 0.05 rad/s for 20 ms is
PARKED with MODE off and event offset 6; an unload past 200 ms is PARKED with the coil shorted and
fault offset 3, kind 1. A shock past the threshold on a present actuator whose motion sensing is on
sets SHOCK, write-inhibit cause 1 and event offset 4 with the peak, and counts in OD 0x3400.14; the
end of its hold, SHK_HOLD after the last crossing, clears both with event offset 5. Senses at a rail
for 10 ms (kinds 1 and 2) or 100 ms (kind 3) raise fault offset 4 with that kind.
(05_actuators_and_position.md; 09_write_path_and_preamp.md) -/
def Obligations.HeadsLoadUnloadAndShocks : Prop :=
  (∀ (a : Fin 4) (s : State), (s.present a = true ∧ (s.act a).isl.load = .parked ∧ s.domOn (20 + a.val) = true ∧ s.unsafeAct a = false ∧ (s.act a).isl.notice.rate = 0xFFFF) →
   Completes (.headLoad a) s fun t => (t.act a).isl.load = .loadPending ∧ (t.act a).isl.loadReq = true ∧ (t.act a).isl.coilPhase = false ∧ (t.act a).isl.calDone = false ∧ (t.act a).isl.calFail = false ∧ ActuatorOnly a s t ∧ t.fab = s.fab) ∧
  (∀ (a : Fin 4) (s : State), (s.present a = true ∧ (s.act a).isl.load = .parked ∧ s.domOn (20 + a.val) = true ∧ s.unsafeAct a = false ∧ (s.act a).isl.notice.rate ≠ 0xFFFF) →
   Completes (.headLoad a) s fun t => (t.act a).isl.load = .loadPending ∧ (t.act a).isl.coilPhase = true ∧ (t.act a).vcm.mode = 2 ∧ ActuatorOnly a s t ∧ t.fab = s.fab) ∧
  (∀ (a : Fin 4) (s : State), ((s.act a).isl.coilPhase = true ∧ msTicks ≤ s.since (s.act a).isl.stepAt ∧ s.coilRes a = 0x41000000 ∧ nth (s.act a).msn.latest 4 0 = 0x3D19999A ∧ (s.act a).wp.writing = false) →
   Completes (.coilMeasureEnd a true) s fun t => (t.act a).isl.load = .loading ∧ (t.act a).isl.coilPhase = false ∧ (t.act a).svd.acquiring = true ∧ (t.act a).vcm.mode = 2 ∧ (∀ b, b ≠ a → t.act b = s.act b) ∧ t.spn = s.spn ∧ MemorySame s t) ∧
  (∀ (a : Fin 4) (s : State), (s.present a = true ∧ (s.act a).isl.load = .acquiring ∧ s.p3400LoadTimeout a * msTicks ≤ s.since (s.act a).isl.stepAt ∧ (s.act a).isl.attempt.toNat < s.p3400LoadRetries a ∧ (s.act a).wp.writing = false) →
   Completes (.loadTimeout a) s fun t => (t.act a).isl.load = .unloading ∧ (t.act a).isl.retryLoad = true ∧ (t.act a).isl.loadReq = true ∧ Sent (eventMsg (epAct a 5) (144 + 24 * a.val + 7) (s.act a).isl.attempt.toNat) s t ∧ ActuatorOnly a s t) ∧
  (∀ (a : Fin 4) (s : State), ((s.act a).isl.load = .loaded ∧ (s.act a).wp.writing = false) →
   Completes (.headUnload a false) s fun t => (t.act a).isl.load = .unloading ∧ (t.act a).isl.unloadReq = true ∧ (t.act a).isl.retract = false ∧ ActuatorOnly a s t) ∧
  (∀ (a : Fin 4) (s : State), ((s.act a).isl.load ≠ .parked ∧ (s.act a).isl.load ≠ .retracting ∧ (s.act a).wp.writing = false) →
   Completes (.headUnload a true) s fun t => (t.act a).isl.load = .retracting ∧ (t.act a).isl.retract = true ∧ ActuatorOnly a s t) ∧
  (∀ (a : Fin 4) (s : State), (s.present a = true ∧ (s.act a).isl.load = .unloading ∧ (s.act a).sve.damping = false ∧ (s.act a).isl.gaveUp = false ∧ fLt (fAbs (s.act a).isl.vel) 0x3D4CCCCD = true ∧ 20 * msTicks ≤ s.since (s.act a).isl.stillAt ∧ (s.act a).isl.retryLoad = true ∧ (s.act a).isl.notice.rate = 0xFFFF ∧ (s.act a).isl.attempt = 1 ∧ (s.act a).wp.writing = false ∧ s.recov.ladders = []) →
   Completes (.armParked a) s fun t => (t.act a).isl.load = .loadPending ∧ (t.act a).isl.attempt = 2 ∧ (t.act a).vcm.mode = 0 ∧ Sent (eventMsg (epAct a 5) (144 + 24 * a.val + 6) (b2n (s.act a).isl.retract)) s t ∧ (∀ b, b ≠ a → t.act b = s.act b)) ∧
  (∀ (a : Fin 4) (s : State), (s.present a = true ∧ (s.act a).isl.load = .retracting ∧ 200 * msTicks ≤ s.since (s.act a).isl.stepAt ∧ (s.act a).isl.gaveUp = false ∧ (s.act a).isl.retryLoad = false ∧ (s.act a).wp.writing = false ∧ s.recov.ladders = [] ∧ s.sys.mode = .service ∧ s.spn.retryRun = false ∧ s.sys.exiting = false ∧ s.sys.entry = none ∧ s.sys.shutStage = none ∧ actIn s.sys.unsafeActs a = false ∧ s.hm.brst = [] ∧ s.sys.powerLoss = none ∧ (∀ b, b ≠ a → (s.act b).isl.load = .parked)) →
   Completes (.unloadTimeout a) s fun t => (t.act a).isl.load = .parked ∧ (t.act a).vcm.mode = 3 ∧ (t.act a).isl.retract = false ∧ Sent (faultMsg (epAct a 5) (88 + 12 * a.val + 3) 1 (s.localTime (epAct a 5))) s t ∧ (∀ b, b ≠ a → t.act b = s.act b) ∧ MemorySame s t) ∧
  (∀ (a : Fin 4) (peak : BitVec 12) (s : State), (s.present a = true ∧ s.domOn (24 + a.val) = true ∧ s.p3400ShockThr a % 4096 < ((peak.toNat : Int) - 2048).natAbs ∧ (s.act a).msn.shock = false ∧ (s.act a).wp.writing = false) →
   Completes (.shockCrossing a peak) s fun t => (t.act a).msn.shock = true ∧ (t.act a).wp.cause = setBit (s.act a).wp.cause 1 true ∧ Sent (eventMsg (epAct a 5) (144 + 24 * a.val + 4) peak.toNat) s t ∧ t.odNat (0x340014 + 0x10000 * a.val) 0 = s.odNat (0x340014 + 0x10000 * a.val) 0 + 1 ∧ (∀ b, b ≠ a → t.act b = s.act b) ∧ t.spn = s.spn ∧ MemorySame s t) ∧
  (∀ (a : Fin 4) (s : State), (s.present a = true ∧ (s.act a).msn.shock = true ∧ s.p3400ShockHold a * usTicks ≤ s.since (s.act a).msn.shockLast) →
   Completes (.shockHoldEnd a) s fun t => (t.act a).msn.shock = false ∧ (t.act a).wp.cause = setBit (s.act a).wp.cause 1 false ∧ Sent (eventMsg (epAct a 5) (144 + 24 * a.val + 5) (s.since (s.act a).msn.shockAt / usTicks)) s t ∧ ActuatorOnly a s t) ∧
  (∀ (a : Fin 4) (kind : Fin 4) (s : State), (s.present a = true ∧ s.domOn (24 + a.val) = true ∧ s.sensesRailed a kind.val = true) →
   Completes (.driveOrSenseFault a kind) s fun t => SentOnly [faultMsg (epAct a 5) (88 + 12 * a.val + 4) kind.val (s.localTime (epAct a 5))] s t ∧ (t.act a).svd.flags.getLsbD 0 = true ∧ ActuatorOnly a s t)

/-- On a servo engine whose program memory holds the word of the instruction at its program counter
(log 103), each of ADD, SUB, MUL, FMA, FMS, MIN, MAX, MOV, ABS, NEG, RCP, FTOI, ITOF, CLAMP, SEL,
LDI, LD, LDX and IN writes to fd the value of its operation on the registers as they stood, for
every fd, fa and fb: a write to f0 is ignored, every other register, P, the outputs, memory and the
rest of the machine stay, and the engine goes on by one address and one cycle. NOP only goes on. A
result of ADD, SUB, MUL, FMA, MIN, MAX or RCP that is a NaN is 0x7FC00000 and none is subnormal; a
NaN operand of ADD, SUB, MUL, MIN or MAX gives a NaN. (06_servo_engine.md) -/
def Obligations.EngineArithmeticWritesOneRegister : Prop :=
  (∀ (e : Fin 4) (s : State), (EngineReady e 0 s) →
   Completes (.nop e) s fun t => t = s.onSve e Sve.tick) ∧
  (∀ (e : Fin 4) (fd fa fb : BitVec 8) (s : State), (EngineReady e (encR 0x01 fd fa fb) s) →
   Completes (.add e fd fa fb) s fun t => EngineWrites e fd (fAdd ((s.act e).sve.reg fa) ((s.act e).sve.reg fb)) s t) ∧
  (∀ (e : Fin 4) (fd fa fb : BitVec 8) (s : State), (EngineReady e (encR 0x02 fd fa fb) s) →
   Completes (.sub e fd fa fb) s fun t => EngineWrites e fd (fSub ((s.act e).sve.reg fa) ((s.act e).sve.reg fb)) s t) ∧
  (∀ (e : Fin 4) (fd fa fb : BitVec 8) (s : State), (EngineReady e (encR 0x03 fd fa fb) s) →
   Completes (.mul e fd fa fb) s fun t => EngineWrites e fd (fMul ((s.act e).sve.reg fa) ((s.act e).sve.reg fb)) s t) ∧
  (∀ (e : Fin 4) (fd fa fb : BitVec 8) (s : State), (EngineReady e (encR 0x06 fd fa fb) s) →
   Completes (.min e fd fa fb) s fun t => EngineWrites e fd (fMin ((s.act e).sve.reg fa) ((s.act e).sve.reg fb)) s t) ∧
  (∀ (e : Fin 4) (fd fa fb : BitVec 8) (s : State), (EngineReady e (encR 0x07 fd fa fb) s) →
   Completes (.max e fd fa fb) s fun t => EngineWrites e fd (fMax ((s.act e).sve.reg fa) ((s.act e).sve.reg fb)) s t) ∧
  (∀ (e : Fin 4) (fd fa fb : BitVec 8) (s : State), (EngineReady e (encR 0x04 fd fa fb) s) →
   Completes (.fma e fd fa fb) s fun t => EngineWrites e fd (fFma ((s.act e).sve.reg fa) ((s.act e).sve.reg fb) ((s.act e).sve.reg fd)) s t) ∧
  (∀ (e : Fin 4) (fd fa fb : BitVec 8) (s : State), (EngineReady e (encR 0x05 fd fa fb) s) →
   Completes (.fms e fd fa fb) s fun t => EngineWrites e fd (fFma (fNegate ((s.act e).sve.reg fa)) ((s.act e).sve.reg fb) ((s.act e).sve.reg fd)) s t) ∧
  (∀ (e : Fin 4) (fd fa fb : BitVec 8) (s : State), (EngineReady e (encR 0x09 fd fa fb) s) →
   Completes (.clamp e fd fa fb) s fun t => EngineWrites e fd (fMin (fMax ((s.act e).sve.reg fd) ((s.act e).sve.reg fa)) ((s.act e).sve.reg fb)) s t) ∧
  (∀ (e : Fin 4) (fd fa fb : BitVec 8) (s : State), (EngineReady e (encR 0x0C fd fa fb) s) →
   Completes (.sel e fd fa fb) s fun t => EngineWrites e fd (if (s.act e).sve.p then (s.act e).sve.reg fa else (s.act e).sve.reg fb) s t) ∧
  (∀ (e : Fin 4) (fd fa : BitVec 8) (s : State), (EngineReady e (encR 0x08 fd fa 0) s) →
   Completes (.mov e fd fa) s fun t => EngineWrites e fd ((s.act e).sve.reg fa) s t) ∧
  (∀ (e : Fin 4) (fd fa : BitVec 8) (s : State), (EngineReady e (encR 0x08 fd fa 1) s) →
   Completes (.abs e fd fa) s fun t => EngineWrites e fd ((s.act e).sve.reg fa &&& 0x7FFFFFFF) s t) ∧
  (∀ (e : Fin 4) (fd fa : BitVec 8) (s : State), (EngineReady e (encR 0x08 fd fa 2) s) →
   Completes (.neg e fd fa) s fun t => EngineWrites e fd ((s.act e).sve.reg fa ^^^ 0x80000000) s t) ∧
  (∀ (e : Fin 4) (fd fa : BitVec 8) (s : State), (EngineReady e (encR 0x08 fd fa 3) s) →
   Completes (.rcp e fd fa) s fun t => EngineWrites e fd (fDiv 0x3F800000 ((s.act e).sve.reg fa)) s t) ∧
  (∀ (e : Fin 4) (fd fa : BitVec 8) (s : State), (EngineReady e (encR 0x08 fd fa 4) s) →
   Completes (.ftoi e fd fa) s fun t => EngineWrites e fd (BitVec.ofInt 32 (fToInt (-2147483648) 2147483647 ((s.act e).sve.reg fa))) s t) ∧
  (∀ (e : Fin 4) (fd fa : BitVec 8) (s : State), (EngineReady e (encR 0x08 fd fa 5) s) →
   Completes (.itof e fd fa) s fun t => EngineWrites e fd (fOfZ ((s.act e).sve.reg fa).toInt) s t) ∧
  (∀ (e : Fin 4) (fd : BitVec 8) (imm : BitVec 16) (s : State), (EngineReady e (encI 0x0D fd imm) s) →
   Completes (.ldi e fd imm) s fun t => EngineWrites e fd (imm ++ (0 : BitVec 16)) s t) ∧
  (∀ (e : Fin 4) (fd : BitVec 8) (addr : BitVec 11) (s : State), (EngineReady e (encM 0x0E fd addr) s) →
   Completes (.ld e fd addr) s fun t => EngineWrites e fd (s.word (islandBase e + 0x14000 + 4 * addr.toNat)) s t) ∧
  (∀ (e : Fin 4) (fd fa : BitVec 8) (s : State), (EngineReady e (encR 0x10 fd fa 0) s) →
   Completes (.ldx e fd fa) s fun t => EngineWrites e fd (s.word (islandBase e + 0x14000 + 4 * (((s.act e).sve.reg fa).toNat % 2048))) s t) ∧
  (∀ (e : Fin 4) (fd port : BitVec 8) (s : State), (EngineReady e (encR 0x14 fd 0 port) s) →
   Completes (.inPort e fd port) s fun t => EngineWrites e fd (s.inPort e port) s t) ∧
  (∀ x y z r : F32, r = fAdd x y ∨ r = fSub x y ∨ r = fMul x y ∨ r = fFma x y z ∨ r = fMin x y ∨ r = fMax x y ∨ r = fRcp x → (fIsNaN r = true → r = 0x7FC00000) ∧ (r.toNat % 2 ^ 31 = 0 ∨ 2 ^ 23 ≤ r.toNat % 2 ^ 31)) ∧
  (∀ x y : F32, fIsNaN x = true ∨ fIsNaN y = true → fAdd x y = 0x7FC00000 ∧ fSub x y = 0x7FC00000 ∧ fMul x y = 0x7FC00000 ∧ fMin x y = 0x7FC00000 ∧ fMax x y = 0x7FC00000)

/-- ST and STX write the four bytes of the data word they name, computed as the engine computes the
address, and no other byte. CMP and TST set P alone; a condition above 7 halts the engine with kind
1. OUT stages fa on ports 0 to 3 and on no other port has an effect. BIQ computes y = b0 x + s1, the
next s1 = (b1 x + s2) - a1 y and s2 = b2 x - a2 y, each rounded once, for a destination outside its
block; a block beyond f255 is illegal. INTP writes the interpolated value, or halts with the kind
its descriptor gives. BR goes to its target when its condition holds and the target lies in the
segment, goes on when it does not hold, and halts with kind 2 outside the segment.
(06_servo_engine.md) -/
def Obligations.EngineStoresBranchesAndTables : Prop :=
  (∀ (e : Fin 4) (fd : BitVec 8) (addr : BitVec 11) (s : State), (EngineReady e (encM 0x0F fd addr) s ∧ Memory.wf s.fab.mem = true) →
   Completes (.st e fd addr) s fun t => t.word (islandBase e + 0x14000 + 4 * addr.toNat) = (s.act e).sve.reg fd ∧ t = { s.onSve e Sve.tick with fab := { s.fab with mem := t.fab.mem } } ∧ ∀ b, (b < islandBase e + 0x14000 + 4 * addr.toNat ∨ islandBase e + 0x14000 + 4 * addr.toNat + 4 ≤ b) → memByte t.fab.mem b = memByte s.fab.mem b) ∧
  (∀ (e : Fin 4) (fd fa : BitVec 8) (s : State), (EngineReady e (encR 0x11 fd fa 0) s ∧ Memory.wf s.fab.mem = true) →
   Completes (.stx e fd fa) s fun t => t.word (islandBase e + 0x14000 + 4 * (((s.act e).sve.reg fa).toNat % 2048)) = (s.act e).sve.reg fd ∧ t = { s.onSve e Sve.tick with fab := { s.fab with mem := t.fab.mem } } ∧ ∀ b, (b < islandBase e + 0x14000 + 4 * (((s.act e).sve.reg fa).toNat % 2048) ∨ islandBase e + 0x14000 + 4 * (((s.act e).sve.reg fa).toNat % 2048) + 4 ≤ b) → memByte t.fab.mem b = memByte s.fab.mem b) ∧
  (∀ (e : Fin 4) (c : BitVec 4) (fa fb : BitVec 8) (b : Bool) (s : State), (EngineReady e (encC 0x0A c fa fb) s ∧ cmpCond c ((s.act e).sve.reg fa) ((s.act e).sve.reg fb) = some b) →
   Completes (.cmp e c fa fb) s fun t => EngineSetsP e b s t) ∧
  (∀ (e : Fin 4) (c : BitVec 4) (fa fb : BitVec 8) (s : State), (EngineReady e (encC 0x0A c fa fb) s ∧ 7 < c.toNat ∧ (s.act e).sve.updGo = false) →
   Completes (.cmp e c fa fb) s fun t => EngineHalted e 1 s t) ∧
  (∀ (e : Fin 4) (fd : BitVec 8) (imm : BitVec 16) (s : State), (EngineReady e (encI 0x0B fd imm) s) →
   Completes (.tst e fd imm) s fun t => EngineSetsP e (decide (((s.act e).sve.reg fd).extractLsb' 16 16 &&& imm ≠ 0)) s t) ∧
  (∀ (e : Fin 4) (fa : BitVec 8) (p : Fin 4) (s : State), (EngineReady e (encR 0x15 0 fa (BitVec.ofNat 8 p.val)) s) →
   Completes (.outPort e fa (BitVec.ofNat 8 p.val)) s fun t => ((t.act e).sve.outs.get p).staged = (s.act e).sve.reg fa ∧ ((t.act e).sve.outs.get p).ready = ((s.act e).sve.outs.get p).ready ∧ (∀ q, q ≠ p → (t.act e).sve.outs.get q = (s.act e).sve.outs.get q) ∧ ActuatorOnly e s t ∧ t.fab = s.fab) ∧
  (∀ (e : Fin 4) (fa port : BitVec 8) (s : State), (EngineReady e (encR 0x15 0 fa port) s ∧ 4 ≤ port.toNat) →
   Completes (.outPort e fa port) s fun t => t = s.onSve e Sve.tick) ∧
  (∀ (e : Fin 4) (fd fa fb : BitVec 8) (s : State), (EngineReady e (encR 0x12 fd fa fb) s ∧ 1 ≤ fb.toNat ∧ fb.toNat ≤ 249 ∧ fd ≠ 0 ∧ (fd.toNat < fb.toNat ∨ fb.toNat + 6 < fd.toNat)) →
   Completes (.biq e fd fa fb) s fun t => (t.act e).sve.reg fd = fFma ((s.act e).sve.reg fb) ((s.act e).sve.reg fa) ((s.act e).sve.reg (fb + 5)) ∧ (t.act e).sve.reg (fb + 5) = fFma (fNegate ((s.act e).sve.reg (fb + 3))) ((t.act e).sve.reg fd) (fFma ((s.act e).sve.reg (fb + 1)) ((s.act e).sve.reg fa) ((s.act e).sve.reg (fb + 6))) ∧ (t.act e).sve.reg (fb + 6) = fFma (fNegate ((s.act e).sve.reg (fb + 4))) ((t.act e).sve.reg fd) (fMul ((s.act e).sve.reg (fb + 2)) ((s.act e).sve.reg fa)) ∧ t = s.onSve e (fun v => { v.tick with f := (t.act e).sve.f })) ∧
  (∀ (e : Fin 4) (fd fa fb : BitVec 8) (s : State), (EngineReady e (encR 0x12 fd fa fb) s ∧ (fb = 0 ∨ 249 < fb.toNat) ∧ (s.act e).sve.updGo = false) →
   Completes (.biq e fd fa fb) s fun t => EngineHalted e 1 s t) ∧
  (∀ (e : Fin 4) (fd fa fb : BitVec 8) (y : F32) (s : State), (EngineReady e (encR 0x13 fd fa fb) s ∧ fb.toNat ≤ 31 ∧ s.interpolate e ((s.act e).sve.reg fa) fb.toNat = .inr y) →
   Completes (.intp e fd fa fb) s fun t => EngineWrites e fd y s t) ∧
  (∀ (e : Fin 4) (fd fa fb : BitVec 8) (k : Nat) (s : State), (EngineReady e (encR 0x13 fd fa fb) s ∧ fb.toNat ≤ 31 ∧ s.interpolate e ((s.act e).sve.reg fa) fb.toNat = .inl k ∧ (s.act e).sve.updGo = false) →
   Completes (.intp e fd fa fb) s fun t => EngineHalted e k s t) ∧
  (∀ (e : Fin 4) (c : BitVec 2) (target : BitVec 12) (s : State), (EngineReady e (encB 0x16 c target) s ∧ brCond c (s.act e).sve.p = some true ∧ s.inSegment e target.toNat = true) →
   Completes (.br e c target) s fun t => t = s.onSve e (fun v => { v.tick with pc := target.setWidth 13 })) ∧
  (∀ (e : Fin 4) (c : BitVec 2) (target : BitVec 12) (s : State), (EngineReady e (encB 0x16 c target) s ∧ brCond c (s.act e).sve.p = some false) →
   Completes (.br e c target) s fun t => t = s.onSve e Sve.tick) ∧
  (∀ (e : Fin 4) (c : BitVec 2) (target : BitVec 12) (s : State), (EngineReady e (encB 0x16 c target) s ∧ brCond c (s.act e).sve.p = some true ∧ s.inSegment e target.toNat = false ∧ (s.act e).sve.updGo = false) →
   Completes (.br e c target) s fun t => EngineHalted e 2 s t)

/-- At the first END_M of a period the value staged on each of the four output ports is the ready
one, in a period on time and in a late one. In a period on time the engine then goes on outside the
mandatory segment and not idle, and END_M is marked reached. A second END_M in the same period gives
exactly the state that END gives. (R174) -/
def Obligations.EndMMakesStagedValuesReady : Prop :=
  (∀ (e : Fin 4) (s : State), (EngineReady e (encS 0x17 1 0 0) s ∧ (s.act e).sve.reachedM = false) →
   Completes (.segEndM e) s fun t => ∀ p, ((t.act e).sve.outs.get p).ready = ((s.act e).sve.outs.get p).staged) ∧
  (∀ (e : Fin 4) (s : State), (EngineReady e (encS 0x17 1 0 0) s ∧ (s.act e).sve.reachedM = false ∧ (s.act e).sve.overdue = 0) →
   Completes (.segEndM e) s fun t => (t.act e).sve.reachedM = true ∧ (t.act e).sve.seg = .other ∧ (t.act e).sve.pc = (s.act e).sve.pc + 1) ∧
  (∀ (e : Fin 4) (s : State), (EngineReady e (encS 0x17 1 0 0) s ∧ (s.act e).sve.reachedM = true) →
   Completes (.segEndM e) s fun t => Completes (.segEnd e) s fun u => u = t)

/-- END idles the engine. An XC marker whose segment is enabled, not suspended and whose bound fits
the cycles left enters the segment; otherwise the engine goes on at the end address. A segment that
reaches its bound is stopped at its end address, its enable bit is cleared and XC_OVER is set. SIG
raises event offset 13 once in a period. An illegal instruction halts the engine with kind 1 and an
address error with kind 2. (06_servo_engine.md) -/
def Obligations.EngineSegmentsSignalsAndHalts : Prop :=
  (∀ (e : Fin 4) (s : State), (EngineReady e (encS 0x17 3 0 0) s) →
   Completes (.segEnd e) s fun t => t = s.onSve e (fun v => { v.tick with seg := .idle })) ∧
  (∀ (e : Fin 4) (seg : BitVec 4) (endA : BitVec 12) (s : State), (EngineReady e (encS 0x17 2 seg endA) s ∧ (bitOf (s.p3000XcEnable e) seg.toNat = false ∨ (s.act e).sve.xcSusp = true)) →
   Completes (.segXc e seg endA) s fun t => (t.act e).sve.pc = endA.setWidth 13 ∧ (t.act e).sve.seg = .other ∧ ActuatorOnly e s t ∧ t.fab = s.fab) ∧
  (∀ (e : Fin 4) (seg : BitVec 4) (endA : BitVec 12) (s : State), (EngineReady e (encS 0x17 2 seg endA) s ∧ bitOf (s.p3000XcEnable e) seg.toNat = true ∧ (s.act e).sve.xcSusp = false ∧ (s.act e).sve.bound seg.toNat ≤ s.periodCycles e - (s.act e).sve.cyc) →
   Completes (.segXc e seg endA) s fun t => (t.act e).sve.seg = .extra ∧ (t.act e).sve.xcId = seg ∧ (t.act e).sve.segEnd = endA ∧ (t.act e).sve.pc = (s.act e).sve.pc + 1 ∧ ActuatorOnly e s t ∧ t.fab = s.fab) ∧
  (∀ (e : Fin 4) (s : State), ((s.act e).sve.executes = true ∧ (s.act e).sve.xcSpent = true) →
   Completes (.xcBoundOverrun e) s fun t => (t.act e).sve.pc = (s.act e).sve.segEnd.setWidth 13 ∧ (t.act e).sve.seg = .other ∧ (t.act e).sve.flags = setBit (s.act e).sve.flags 8 true ∧ bitOf (t.p3000XcEnable e) (s.act e).sve.xcId.toNat = false ∧ (∀ b, b ≠ e → t.act b = s.act b) ∧ t.fab = s.fab) ∧
  (∀ (e : Fin 4) (imm : BitVec 16) (s : State), (EngineReady e (encI 0x18 0 imm) s ∧ (s.act e).sve.sigDone = false) →
   Completes (.sig e imm) s fun t => (t.act e).sve.sigDone = true ∧ SentOnly [eventMsg (epAct e 1) (144 + 24 * e.val + 13) imm.toNat] s t ∧ ActuatorOnly e s t) ∧
  (∀ (e : Fin 4) (imm : BitVec 16) (s : State), (EngineReady e (encI 0x18 0 imm) s ∧ (s.act e).sve.sigDone = true) →
   Completes (.sig e imm) s fun t => t = s.onSve e Sve.tick) ∧
  (∀ (e : Fin 4) (s : State), (s.present e = true ∧ (s.act e).sve.executes = true ∧ (s.act e).sve.xcSpent = false ∧ (s.act e).sve.updGo = false ∧ 4096 ≤ (s.act e).sve.pc.toNat) →
   Completes (.illegalInstruction e true) s fun t => EngineHalted e 2 s t) ∧
  (∀ (e : Fin 4) (s : State), (s.present e = true ∧ (s.act e).sve.executes = true ∧ (s.act e).sve.xcSpent = false ∧ (s.act e).sve.updGo = false ∧ (s.act e).sve.pc.toNat < 4096 ∧ engineLegal (BitVec.ofNat 32 (s.progWord e (s.act e).sve.pc.toNat)) = false) →
   Completes (.illegalInstruction e false) s fun t => EngineHalted e 1 s t) ∧
  (∀ (e : Fin 4) (addr : Bool) (s : State), (s.present e = true ∧ (s.act e).sve.executes = true ∧ (s.act e).sve.xcSpent = false ∧ (s.act e).sve.updGo = true ∧ (if addr then 4096 ≤ (s.act e).sve.pc.toNat else (s.act e).sve.pc.toNat < 4096 ∧ engineLegal (BitVec.ofNat 32 (s.progWord e (s.act e).sve.pc.toNat)) = false)) →
   Completes (.illegalInstruction e addr) s fun t => (t.act e).sve.state = .halted ∧ (t.act e).sve.updGo = false)

/-- RUN on a stopped or halted engine asks for a start, and the next sample instant starts it at
SVE_ENTRY in the mandatory segment and delivers the wedge's record. STOP is asked for while not
loaded; while LOADED it only sets CONFLICT. A new SVE_ENTRY is stored. A register write of a stopped
engine writes the register, f0 apart, and of a running one only sets CONFLICT. GO while one is
pending only sets CONFLICT; with a legal count on a running engine it waits for the next period. A
seek of a loaded actuator is pending until its sample instant; one of an actuator not loaded is
rejected. The end of damping takes the unload on. (05_actuators_and_position.md; 06_servo_engine.md)
-/
def Obligations.EngineIsStartedStoppedAndUpdated : Prop :=
  (∀ (a : Fin 4) (s : State), (s.present a = true ∧ ((s.act a).sve.state = .stopped ∨ (s.act a).sve.state = .halted)) →
   Completes (.engineRun a) s fun t => t = s.onSve a (fun v => { v with runReq := true })) ∧
  (∀ (a : Fin 4) (x : SampleInputs) (s : State), (s.present a = true ∧ s.domOn (20 + a.val) = true ∧ s.sampleDue a = true ∧ (s.act a).sve.state = .stopped ∧ (s.act a).sve.runReq = true ∧ (s.act a).sve.stopReq = false ∧ (s.act a).isl.load = .parked ∧ (s.act a).svd.next.length = 12) →
   Completes (.sampleInstant a x) s fun t => (t.act a).sve.state = .running ∧ (t.act a).sve.pc = (s.act a).sve.entry.setWidth 13 ∧ (t.act a).sve.seg = .mandatory ∧ (t.act a).sve.runReq = false ∧ (t.act a).svd.record.take 5 = (s.act a).svd.next.take 5 ∧ nth (t.act a).svd.record 6 0 = fMul (fOfZ (fromMid x.vcs)) Config.vcsScale ∧ t.spn = s.spn) ∧
  (∀ (a : Fin 4) (s : State), ((s.act a).sve.state = .running ∧ s.loaded a = false) →
   Completes (.engineStop a) s fun t => t = s.onSve a (fun v => { v with stopReq := true })) ∧
  (∀ (a : Fin 4) (s : State), (s.loaded a = true) →
   Completes (.engineStop a) s fun t => t = s.onSve a (fun v => { v with flags := setBit v.flags 7 true })) ∧
  (∀ (a : Fin 4) (e : BitVec 12) (s : State),
   Completes (.sveEntryWrite a e) s fun t => t = s.onSve a (fun v => { v with entry := e })) ∧
  (∀ (a : Fin 4) (n : BitVec 8) (v : BitVec 32) (s : State), (((s.act a).sve.state = .stopped ∨ (s.act a).sve.state = .halted) ∧ Tab.rising (s.act a).sve.f = true) →
   Completes (.sveRegisterWrite a n v) s fun t => (∀ m, (t.act a).sve.reg m = if m = n ∧ m ≠ 0 then v else (s.act a).sve.reg m) ∧ t = s.onSve a (fun x => { x with f := (t.act a).sve.f })) ∧
  (∀ (a : Fin 4) (n : BitVec 8) (v : BitVec 32) (s : State), ((s.act a).sve.state = .running ∨ (s.act a).sve.state = .hold) →
   Completes (.sveRegisterWrite a n v) s fun t => t = s.onSve a (fun x => { x with flags := setBit x.flags 7 true })) ∧
  (∀ (a : Fin 4) (n : BitVec 6) (s : State), ((s.act a).sve.updGo = true) →
   Completes (.updateGo a n) s fun t => t = s.onSve a (fun x => { x with flags := setBit x.flags 7 true })) ∧
  (∀ (a : Fin 4) (n : BitVec 6) (s : State), ((s.act a).sve.updGo = false ∧ 1 ≤ n.toNat ∧ n.toNat ≤ 32 ∧ (s.act a).sve.state = .running) →
   Completes (.updateGo a n) s fun t => t = s.onSve a (fun x => { x with updGo := true, updCount := n })) ∧
  (∀ (a : Fin 4) (v : BitVec 32) (pr : Bool) (s : State), (s.loaded a = true ∧ (s.act a).svp.pending = none ∧ (s.act a).wp.ops = []) →
   Completes (.seekStart a v pr) s fun t => (t.act a).svp.pending = some ((v >>> 29).setWidth 3, v.setWidth 24, pr) ∧ (t.act a).svd = (s.act a).svd ∧ ActuatorOnly a s t ∧ t.fab = s.fab) ∧
  (∀ (a : Fin 4) (v : BitVec 32) (pr : Bool) (s : State), (s.loaded a = false) →
   Completes (.seekStart a v pr) s fun t => t = s.onSvp a (fun p => { p with rejected := true, regCls := (v >>> 29).setWidth 3, regTarget := v.setWidth 24 })) ∧
  (∀ (a : Fin 4) (s : State), ((s.act a).sve.damping = true ∧ (s.act a).wp.writing = false ∧ min 50 (s.p3000DampMs a) * msTicks ≤ s.since (s.act a).isl.stepAt) →
   Completes (.dampEnd a) s fun t => (t.act a).sve.damping = false ∧ (t.act a).vcm.mode = 2 ∧ (∀ b, b ≠ a → t.act b = s.act b) ∧ t.spn = s.spn ∧ MemorySame s t)

/-- RUN of SVI_CTL on a loaded actuator with a legal type and order runs the injection with the
word's fields; on one not loaded it only sets CONFLICT beside the fields. STOP waits for the next
sample instant, and after LEN periods injection ends. Correlation runs only while a sine injection
runs, and is done once its settle and measurement periods have been taken, with event offset 12,
qualifier 1. ARM starts the Chalkboard afresh, FORCE triggers it, and the last record after the
trigger stops it with event offset 12, qualifier 0. (06_servo_engine.md) -/
def Obligations.InjectionCorrelationAndChalkboard : Prop :=
  (∀ (a : Fin 4) (v : BitVec 32) (s : State), (s.loaded a = true ∧ fld v.toNat 26 2 ≠ 3 ∧ 7 ≤ fld v.toNat 12 4 ∧ (s.act a).wp.writing = false) →
   Completes (.injectRun a v) s fun t => (t.act a).svi.run = true ∧ (t.act a).svi.type = BitVec.ofNat 2 (fld v.toNat 26 2) ∧ (t.act a).svi.order = BitVec.ofNat 4 (fld v.toNat 12 4) ∧ ActuatorOnly a s t) ∧
  (∀ (a : Fin 4) (v : BitVec 32) (s : State), (s.loaded a = false) →
   Completes (.injectRun a v) s fun t => (t.act a).sve.flags = setBit (s.act a).sve.flags 7 true ∧ (t.act a).svi.run = (s.act a).svi.run ∧ ActuatorOnly a s t ∧ t.fab = s.fab) ∧
  (∀ (a : Fin 4) (s : State), ((s.act a).svi.run = true) →
   Completes (.injectStop a) s fun t => t = s.onSvi a (fun i => { i with stop := true })) ∧
  (∀ (a : Fin 4) (s : State), ((s.act a).svi.started = true ∧ (s.act a).svi.len ≠ 0 ∧ (s.act a).svi.len.toNat ≤ (s.act a).svi.k ∧ (s.act a).svc.run = false ∧ (s.act a).wp.writing = false) →
   Completes (.injectionEnd a) s fun t => (t.act a).svi.run = false ∧ (t.act a).svi.started = false ∧ (t.act a).svi.s = 0 ∧ ActuatorOnly a s t) ∧
  (∀ (a : Fin 4) (v : BitVec 32) (s : State), ((s.act a).svi.run = true ∧ (s.act a).svi.type = 0) →
   Completes (.correlationRun a v) s fun t => (t.act a).svc.run = true ∧ (t.act a).svc.taken = 0 ∧ (t.act a).svc.node0 = BitVec.ofNat 9 (fld v.toNat 0 9) ∧ (t.act a).svc.node1 = BitVec.ofNat 9 (fld v.toNat 9 9) ∧ ActuatorOnly a s t ∧ t.fab = s.fab) ∧
  (∀ (a : Fin 4) (s : State), (s.present a = true ∧ (s.act a).svc.run = true ∧ (s.act a).svc.settle.toNat + (s.act a).svc.periods.toNat ≤ (s.act a).svc.taken) →
   Completes (.correlationDone a) s fun t => (t.act a).svc.run = false ∧ SentOnly [eventMsg (epAct a 1) (144 + 24 * a.val + 12) 1] s t ∧ ActuatorOnly a s t) ∧
  (∀ (a : Fin 4) (v : BitVec 32) (s : State), ((s.act a).svb.arm = false) →
   Completes (.chalkboardArm a v) s fun t => (t.act a).svb.arm = true ∧ (t.act a).svb.nodes = BitVec.ofNat 3 (fld v.toNat 27 3) ∧ (t.act a).svb.trigSrc = BitVec.ofNat 4 (fld v.toNat 20 4) ∧ (t.act a).svb.written = 0 ∧ (t.act a).svb.trigIdx = 0 ∧ ActuatorOnly a s t ∧ t.fab = s.fab) ∧
  (∀ (a : Fin 4) (s : State), ((s.act a).svb.arm = true) →
   Completes (.chalkboardForce a) s fun t => t = s.onSvb a (fun b => { b with force := true })) ∧
  (∀ (a : Fin 4) (s : State), (s.present a = true ∧ (s.act a).svb.state = 3 ∧ (s.act a).svb.after = 0) →
   Completes (.chalkboardFull a) s fun t => (t.act a).svb.arm = false ∧ (t.act a).svb.state = 0 ∧ (t.act a).svb.trigIdx = (s.act a).svb.trigIdx ∧ SentOnly [eventMsg (epAct a 1) (144 + 24 * a.val + 12) 0] s t ∧ ActuatorOnly a s t)

/-- A read posted to a present actuator joins its operations; without a matching rule 1 bank, event
offset 16 tells it. When the gate opens on a sector for which a bank and an unpinned slot exist, the
capture takes the first unpinned slot from NEXT on and the next nonzero sequence number, marks the
slot CAPTURING and touches no other memory. With every slot pinned the sector ends with outcome 0x4
and fault offset 9, kind 0. A region found by an enabled detector is recorded with event offset 14.
A lost timing lock clears TR_LOCK with fault offset 8, kind 2. The gate's close ends the capture,
writes the slot's header and sets VALID, touching no memory outside the slot. (07_read_channel.md)
-/
def Obligations.ReadOperationsChooseBanksAndCapture : Prop :=
  (∀ (a : Fin 4) (op : ReadOp) (b : Nat) (s : State), (s.present a = true ∧ s.mediaRoom a = true ∧ bankByRule (s.act a).rch.banks 8 64 s.multMax op.head.toNat op.zone.toNat 1 = some b) →
   Completes (.readOperationPost a op) s fun t => (t.act a).rch.ops = (s.act a).rch.ops ++ [op] ∧ ActuatorOnly a s t ∧ t.fab = s.fab) ∧
  (∀ (a : Fin 4) (op : ReadOp) (s : State), (s.present a = true ∧ s.mediaRoom a = true ∧ bankByRule (s.act a).rch.banks 8 64 s.multMax op.head.toNat op.zone.toNat 1 = none) →
   Completes (.readOperationPost a op) s fun t => (t.act a).rch.ops = (s.act a).rch.ops ++ [op] ∧ SentOnly [eventMsg (epAct a 3) (144 + 24 * a.val + 16) (op.head.toNat * 256 + op.zone.toNat)] s t ∧ ActuatorOnly a s t) ∧
  (∀ (a : Fin 4) (x : GateInputs) (op : ReadOp) (rest : List ReadOp) (req : SectorReq) (b k : Nat) (s : State), ((s.act a).rch.ops = op :: rest ∧ op.sectors = [req] ∧ (s.act a).rch.opIndex = 0 ∧ (s.act a).rch.now = none ∧ s.domOn (20 + a.val) = true ∧ s.domOn (24 + a.val) = true ∧ chooseBank (s.act a).rch.banks 8 64 s.multMax op.head.toNat op.zone.toNat = some (b, 1) ∧ (s.act a).rch.freeSlot = some k ∧ Memory.wf s.fab.mem = true) →
   Completes (.readGateOpen a x) s fun t => (t.act a).rch.ops = rest ∧ (t.act a).rch.reading = true ∧ (t.act a).rch.capSeq = (if (s.act a).rch.capSeq + 1 = 0 then 1 else (s.act a).rch.capSeq + 1) ∧ (t.act a).rch.next = BitVec.ofNat 3 (k + 1) ∧ ((t.act a).rch.now.map fun j => (j.req, j.slot, j.seq)) = some (req, BitVec.ofNat 3 k, (t.act a).rch.capSeq) ∧ ((t.act a).rch.now.map fun j => (j.bank, j.miss, j.gateAt)) = some (BitVec.ofNat 3 b, false, s.now) ∧ (t.act a).rch.capture.isSome = true ∧ ((t.act a).rch.now.map fun j => j.syncA) = ((t.act a).rch.capture.map fun c => s.findA req (c.llrs.map hardBit)) ∧ t.word (slotBase a k + 4) = 0x40000000 ∧ MemoryOutside (slotBase a k + 4) 4 s t ∧ (∀ c, c ≠ a → t.act c = s.act c)) ∧
  (∀ (a : Fin 4) (x : GateInputs) (op : ReadOp) (rest : List ReadOp) (req : SectorReq) (b : Nat) (s : State), (s.present a = true ∧ (s.act a).rch.ops = op :: rest ∧ op.sectors = [req] ∧ op.ladder = none ∧ req.cmd = none ∧ (s.act a).rch.opIndex = 0 ∧ (s.act a).rch.now = none ∧ s.domOn (20 + a.val) = true ∧ s.domOn (24 + a.val) = true ∧ chooseBank (s.act a).rch.banks 8 64 s.multMax op.head.toNat op.zone.toNat = some (b, 1) ∧ (s.act a).rch.freeSlot = none) →
   Completes (.readGateOpen a x) s fun t => (t.act a).rch.now = none ∧ (t.act a).rch.flags.getLsbD 4 = true ∧ Sent (faultMsg (epAct a 3) (88 + 12 * a.val + 9) 0 (s.localTime (epAct a 3))) s t ∧ t.pool.done[s.pool.done.length]? = some { act := a, opId := op.opId, index := 0, outcome := 4, iters := 0, unsat := 0, erasures := 0, corrected := 0 }) ∧
  (∀ (a : Fin 4) (x : Region) (j : SectorJob) (c : Capture) (s : State), (s.present a = true ∧ (s.act a).rch.now = some j ∧ (s.act a).rch.capture = some c ∧ c.regions.contains x = true ∧ j.regions.contains x = false) →
   Completes (.defectRegion a x) s fun t => (t.act a).rch.now = some { j with regions := j.regions ++ [x] } ∧ (t.act a).rch.flags.getLsbD 0 = true ∧ SentOnly [eventMsg (epAct a 3) (144 + 24 * a.val + 14) (b2n x.b * 2 ^ 31 + b2n x.a * 2 ^ 30 + (if x.dropout then 2 else 1) * 2 ^ 28 + x.length.toNat * 2 ^ 16 + x.start.toNat)] s t ∧ (∀ c, c ≠ a → t.act c = s.act c) ∧ MemorySame s t) ∧
  (∀ (a : Fin 4) (c : Capture) (s : State), (s.present a = true ∧ (s.act a).rch.reading = true ∧ (s.act a).rch.trLock = true ∧ (s.act a).rch.capture = some c ∧ c.lost = true) →
   Completes (.timingRecoveryLockLost a) s fun t => (t.act a).rch.trLock = false ∧ (t.act a).rch.flags.getLsbD 3 = true ∧ SentOnly [faultMsg (epAct a 3) (88 + 12 * a.val + 8) 2 (s.localTime (epAct a 3))] s t ∧ t.odNat (0x40000C + 0x10000 * a.val) 0 = s.odNat (0x40000C + 0x10000 * a.val) 0 + 1 ∧ (∀ c, c ≠ a → t.act c = s.act c) ∧ MemorySame s t) ∧
  (∀ (a : Fin 4) (x : Capture) (j : SectorJob) (s : State), ((s.act a).rch.now = some j ∧ (s.act a).rch.capture = some x ∧ j.staged = true ∧ j.marks ≠ .neither ∧ x.truncated = false ∧ s.erasuresOf a { j with regions := x.regions, truncated := false } ≤ bankField j.words 33 0 16 ∧ s.bitsPast a j.words (max x.samplesA.length x.samplesB.length) j.gateAt = true ∧ x.samplesA.length ≤ 37296 ∧ x.samplesB.length ≤ 37296 ∧ Memory.wf s.fab.mem = true) →
   Completes (.readGateClose a false) s fun t => (t.act a).rch.now = none ∧ (t.act a).rch.capture = none ∧ (t.act a).rch.reading = false ∧ t.slotWord a j.slot.toNat 0 = j.seq.toNat ∧ t.slotValid a j.slot.toNat = true ∧ t.slotCapturing a j.slot.toNat = false ∧ MemoryOutside (slotBase a j.slot.toNat) 0x10000 s t ∧ t.pool = s.pool ∧ (∀ c, c ≠ a → t.act c = s.act c))

/-- The last LLR of the oldest closed sector, or of a replay, fills its buffer. A refill that waits
stages its D1. A free decoder takes the earliest full buffer, which is then free. A replay that has
waited 2 ms takes a free decoder. A decode of a sector read on the fly that converges with a good
CRC and tag ends with outcome 0 and its 4,096 bytes at the destination; one that does not ends with
its outcome. A stalled decoder ends its decode with outcome 9, raises fault 137 and goes offline
with event 240. (07_read_channel.md; 08_sector_format_and_recovery.md) -/
def Obligations.DecodersTakeSectorsAndEndThem : Prop :=
  (∀ (a : Fin 4) (b : StageBuf) (s : State), ((s.act a).rch.stage = [b] ∧ b.d2In = false ∧ b.job.refill = false ∧ (s.act a).rch.now = none ∧ (s.act a).rch.unstaged = [] ∧ s.llrsIn a b = true) →
   Completes (.stagingComplete a false) s fun t => (t.act a).rch.stage = [{ b with d1In := true, d2In := true, since := s.now }] ∧ ActuatorOnly a s t ∧ t.fab = s.fab) ∧
  (∀ (a : Fin 4) (b : ReplayBuf) (s : State), ((s.act a).rch.replayBuf = some b ∧ b.full = false ∧ s.replayIn a b = true) →
   Completes (.stagingComplete a true) s fun t => (t.act a).rch.replayBuf = some { b with full := true, since := s.now } ∧ ActuatorOnly a s t ∧ t.fab = s.fab) ∧
  (∀ (a : Fin 4) (b : StageBuf) (s : State), ((s.act a).rch.stage = [b] ∧ b.job.refill = true ∧ b.d1In = false ∧ (s.act a).rch.replayBuf = none) →
   Completes (.refillStart a) s fun t => (t.act a).rch.stage = [{ b with d1In := true, since := s.now }] ∧ t.odNat 0x44100E 0 = s.odNat 0x44100E 0 + 1 ∧ MemorySame s t) ∧
  (∀ (a : Fin 4) (b : StageBuf) (d : Nat) (l : List Nat) (s : State), (s.freeDecoders = d :: l ∧ d < 4 ∧ earliest s.otfRequests = some (a, b) ∧ (s.act a).rch.stage = [b]) →
   Completes (.decoderGrant) s fun t => Tab.get? t.pool.jobs d = some { act := a, live := some b.job, replay := none, llrs := b.llrs, limit := b.job.iterLimit, erased := 0, since := s.now } ∧ (∀ e, e ≠ d → Tab.get? t.pool.jobs e = Tab.get? s.pool.jobs e) ∧ (t.act a).rch.stage = [{ b with granted := some s.now }] ∧ t.fab = s.fab ∧ t.dict = s.dict ∧ (∀ c, c ≠ a → t.act c = s.act c)) ∧
  (∀ (a : Fin 4) (b : ReplayBuf) (d : Nat) (l : List Nat) (s : State), (s.freeDecoders = d :: l ∧ s.otfRequests = [] ∧ (s.act a).rch.replayBuf = some b ∧ b.full = true ∧ b.granted = none ∧ 2 * msTicks ≤ s.since b.since ∧ (s.act a).rch.replays = []) →
   Completes (.replayReserveBypass a) s fun t => Tab.get? t.pool.jobs d = some { act := a, live := none, replay := some b.job, llrs := b.llrs, limit := s.replayIters b.job.req.iter, erased := b.erased, since := s.now } ∧ (t.act a).rch.replayBuf.map (fun x => (x.job, x.granted)) = some (b.job, some s.now) ∧ MemorySame s t) ∧
  (∀ (d : Fin 8) (j : DecJob) (k : SectorJob) (r : DecodeResult) (o : Nat) (s : State), (Tab.get? s.pool.jobs d.val = some j ∧ Tab.rising s.pool.jobs = true ∧ Memory.wf s.fab.mem = true ∧ j.live = some k ∧ k.captured = false ∧ k.ladder = none ∧ k.req.cmd = none ∧ k.refill = false ∧ r = s.decodeResult j ∧ o = decodeOutcome k.req.tag r ∧ s.decodePast j r.iters = true) →
   Completes (.decodeComplete d false) s fun t => Tab.get? t.pool.jobs d.val = none ∧ t.pool.done[s.pool.done.length]? = some { act := j.act, opId := k.opId, index := k.index, outcome := BitVec.ofNat 4 o, iters := r.iters, unsat := r.unsat, erasures := k.erasures, corrected := r.corrected } ∧ (o = 0 → BytesAt k.req.dest (r.payload.take 4096) t ∧ MemoryOutside k.req.dest 4096 s t) ∧ (o ≠ 0 → t.recov.ladderId = s.recov.ladderId + 1)) ∧
  (∀ (d : Fin 8) (j : DecJob) (k : SectorJob) (s : State), (Tab.get? s.pool.jobs d.val = some j ∧ Tab.rising s.pool.jobs = true ∧ j.live = some k ∧ k.ladder = none) →
   Completes (.decodeComplete d true) s fun t => Tab.get? t.pool.jobs d.val = none ∧ t.pool.online.getLsbD d.val = false ∧ Sent (faultMsg (epDecoder d.val) 136 d.val (s.localTime (epDecoder d.val))) s t ∧ Sent (eventMsg (epDecoder d.val) 240 d.val) s t ∧ t.odNat 0x47F007 0 = s.odNat 0x47F007 0 + 1 ∧ t.pool.done[s.pool.done.length]? = some { act := j.act, opId := k.opId, index := k.index, outcome := 8, iters := 0, unsat := 0, erasures := k.erasures, corrected := 0 }) ∧
  (∀ (d : Fin 8) (j : DecJob) (k : SectorJob) (s : State), (Tab.get? s.pool.jobs d.val = some j ∧ Tab.rising s.pool.jobs = true ∧ j.live = some k ∧ k.ladder = none ∧ 100 * usTicks ≤ s.since j.since) →
   Completes (.decoderStall d) s fun t => Tab.get? t.pool.jobs d.val = none ∧ t.pool.online.getLsbD d.val = false ∧ Sent (faultMsg (epDecoder d.val) 137 d.val (s.localTime (epDecoder d.val))) s t ∧ Sent (eventMsg (epDecoder d.val) 240 d.val) s t ∧ t.odNat 0x47F007 0 = s.odNat 0x47F007 0 + 1 ∧ t.pool.done[s.pool.done.length]? = some { act := j.act, opId := k.opId, index := k.index, outcome := 9, iters := 0, unsat := 0, erasures := k.erasures, corrected := 0 })

/-- A pin of a captured slot within the limit is taken and shown in the slot's STATE word; a pin
released leaves it. A replay of a slot not pinned ends at once with outcome 0x6 and event offset 17;
one with a reserved anchor sets the flag of a refused command. A ladder whose pin wait ends skips
step 2 and is counted in OD 0x4410.0D. A ladder past its time while it waits ends with event 250 and
an unrecovered read; in ORIENTATION it waits for its actuator's calibration. A rebuild that yields
the sector puts it at the read's destination, with event 255 and the ladder won at step 3. An
expired Detention entry leaves with event 259. (07_read_channel.md;
08_sector_format_and_recovery.md) -/
def Obligations.ReplaysPinsAndLadders : Prop :=
  (∀ (a : Fin 4) (k : Fin 8) (s : State), (s.slotValid a k.val = true ∧ s.slotCapturing a k.val = false ∧ s.pinOk a k.val = true ∧ Memory.wf s.fab.mem = true) →
   Completes (.slotPin a k true) s fun t => (t.act a).rch.resPin = setBit (s.act a).rch.resPin k.val true ∧ (t.act a).rch.guestPin = (s.act a).rch.guestPin ∧ bitOf (t.slotWord a k.val 4) 29 = true ∧ MemoryOutside (slotBase a k.val + 4) 4 s t ∧ t.dict = s.dict ∧ (∀ c, c ≠ a → t.act c = s.act c)) ∧
  (∀ (a : Fin 4) (k : Fin 8) (p : Bool) (s : State), (s.pinOk a k.val = false) →
   Completes (.slotPin a k p) s fun t => t = s.onRch a (fun r => { r with flags := setBit r.flags 8 true })) ∧
  (∀ (a : Fin 4) (k : Fin 8) (s : State), (s.recov.ladders = [] ∧ Memory.wf s.fab.mem = true) →
   Completes (.slotUnpin a k false) s fun t => (t.act a).rch.guestPin = setBit (s.act a).rch.guestPin k.val false ∧ (t.act a).rch.resPin = (s.act a).rch.resPin ∧ bitOf (t.slotWord a k.val 4) 28 = false ∧ MemoryOutside (slotBase a k.val + 4) 4 s t) ∧
  (∀ (a : Fin 4) (r : ReplayReq) (j : SectorJob) (s : State), (s.present a = true ∧ s.slotJob? a r.slot.toNat = some j ∧ r.resident = false ∧ r.anchor ≠ 3 ∧ -4 ≤ r.offset ∧ r.offset ≤ 4 ∧ (s.act a).rch.pinned.getLsbD r.slot.toNat = false ∧ (∀ b, (s.act b).rch.replays = [])) →
   Completes (.replayRequest a r) s fun t => (t.act a).rch.rplOutcome = 6 ∧ SentOnly [eventMsg (epAct a 3) (144 + 24 * a.val + 17) (6 * 16 + r.slot.toNat)] s t ∧ (t.act a).rch.replays = [] ∧ MemorySame s t) ∧
  (∀ (a : Fin 4) (r : ReplayReq) (j : SectorJob) (s : State), (s.slotJob? a r.slot.toNat = some j ∧ r.resident = false ∧ r.anchor ≠ 3 ∧ -4 ≤ r.offset ∧ r.offset ≤ 4 ∧ s.replayRefusal a r = none ∧ (∀ b, (s.act b).rch.replays = []) ∧ s.replayBusy a = true) →
   Completes (.replayRequest a r) s fun t => (t.act a).rch.replays = [{ resident := false, req := r, job := j }] ∧ t.fab = s.fab ∧ t.dict = s.dict ∧ (∀ c, c ≠ a → t.act c = s.act c)) ∧
  (∀ (a : Fin 4) (r : ReplayReq) (s : State), (r.anchor = 3 ∧ (∀ b, (s.act b).rch.replays = [])) →
   Completes (.replayRequest a r) s fun t => (t.act a).rch.flags = setBit (s.act a).rch.flags 8 true ∧ (t.act a).rch.replays = [] ∧ t.fab = s.fab) ∧
  (∀ (l : Ladder) (s : State), (s.recov.ladders = [l] ∧ l.wait = .pin ∧ msTicks ≤ s.since l.start ∧ s.sys.mode = .orientation ∧ s.ladderLate l = false ∧ s.plc.groups = []) →
   Completes (.pinWaitTimeout l.id) s fun t => t.recov.ladders = [{ l with wait := .calibration }] ∧ t.odNat 0x44100D 0 = s.odNat 0x44100D 0 + 1 ∧ t.acts = s.acts ∧ t.fab = s.fab) ∧
  (∀ (l : Ladder) (s : State), (s.recov.ladders = [l] ∧ l.wait = .pin ∧ l.step = 2 ∧ l.job.req.cmd = none ∧ l.converged = 0 ∧ l.limitedRetry = false ∧ s.sys.mode ≠ .orientation ∧ s.ladderLimit l.nsid ≤ s.msSince l.start) →
   Completes (.ladderTimeLimit l.id) s fun t => t.recov.ladders = [] ∧ Sent (eventMsg epResident 250 (l.act.val * 2 ^ 24 + l.job.track.toNat)) s t ∧ t.odNat 0x44100C 0 = s.odNat 0x44100C 0 + 1 ∧ Sent (faultMsg epResident 140 0 (s.localTime epResident)) s t ∧ MemorySame s t) ∧
  (∀ (l : Ladder) (s : State), (s.recov.ladders = [l] ∧ l.wait = .pin ∧ s.sys.mode = .orientation ∧ s.ladderLimit l.nsid ≤ s.msSince l.start) →
   Completes (.ladderTimeLimit l.id) s fun t => t = s.onRecov fun r => { r with ladders := [{ l with late := true, wait := .calibration }] }) ∧
  (∀ (l : Ladder) (g : RowGroup) (i : Nat) (x : RebuildInputs) (s : State), (s.recov.ladders = [l] ∧ l.wait = .parity ∧ l.step = 3 ∧ l.job.req.cmd = none ∧ s.sys.mode = .orientation ∧ s.groupOf l.act l.job.head l.job.zone l.job.track.toNat l.job.req.sector = some (g, i) ∧ x.missing = [i, g.k] ∧ i < g.k ∧ x.present = [(2, List.replicate 4096 0)] ∧ g.k = 1 ∧ Memory.wf s.fab.mem = true) →
   Completes (.rowRebuildComplete l.id x) s fun t => BytesAt l.job.req.dest (List.replicate 4096 0) t ∧ MemoryOutside l.job.req.dest 4096 s t ∧ t.recov.ladders = [] ∧ Sent (eventMsg epBuffer 255 (l.act.val * 2 ^ 24 + 1)) s t ∧ Sent (eventMsg epResident 249 (l.act.val * 2 ^ 24 + 3)) s t ∧ t.odNat 0x441010 0 = s.odNat 0x441010 0 + 1) ∧
  (∀ (d : Detention) (s : State), (s.recov.detention = [d] ∧ d.count < s.p4420Threshold ∧ d.firstPoh + s.p4420WindowPoh < s.poh) →
   Completes (.detentionExpiry d.act d.head d.track d.sector) s fun t => t.recov.detention = [] ∧ SentOnly [eventMsg epResident 259 (d.act.val * 2 ^ 24 + d.track.toNat)] s t ∧ t.plc.pend = s.plc.pend ++ [.detention d true] ∧ t.acts = s.acts ∧ MemorySame s t)

/-- An accepted operation joins the queue with the bank its head and zone choose; with no bank,
event offset 23 asks for one, and the first gate then ends it with cause 13 and fault offset 10,
kind 0. With no cause in force, a staged sector's gate forms its payload from memory (data, tag,
CRC-64), opens the write gate, and sets out the channel bits up to the wedge with the shift of each
transition; a continuation goes on after it; a sector not staged sets cause 12 with kind 1 and cuts
it. A servo gate closes the write gate. A finished operation leaves a record of the sectors written
and event offset 20; with none left and 100 microseconds past, the preamplifier is set to read mode.
(09_write_path_and_preamp.md) -/
def Obligations.WritesAreAcceptedGatedAndCompleted : Prop :=
  (∀ (a : Fin 4) (op : WriteOp) (b : List Word) (s : State), (s.present a = true ∧ s.domOn (20 + a.val) = true ∧ s.wpChoose a op = some b ∧ (s.act a).wp.cause = 0) →
   Completes (.writeOperationAccept a op) s fun t => (t.act a).wp.ops = (s.act a).wp.ops ++ [{ op := op, bank := some b, trim := s.wpTrim a op.head.toNat, written := 0, tries := 0, heatAt := none, cut := none, target := (s.act a).svd.target }] ∧ (t.act a).wp.head = op.head ∧ (t.act a).wp.zone = op.zone ∧ ActuatorOnly a s t ∧ t.fab = s.fab) ∧
  (∀ (a : Fin 4) (op : WriteOp) (s : State), (s.present a = true ∧ s.domOn (20 + a.val) = true ∧ s.wpChoose a op = none) →
   Completes (.writeOperationAccept a op) s fun t => (t.act a).wp.ops.map (fun o => (o.op, o.bank, o.written)) = (s.act a).wp.ops.map (fun o => (o.op, o.bank, o.written)) ++ [(op, none, 0)] ∧ SentOnly [eventMsg (epAct a 4) (144 + 24 * a.val + 23) (op.head.toNat * 256 + op.zone.toNat)] s t ∧ ActuatorOnly a s t) ∧
  (∀ (a : Fin 4) (o : WpOp) (s : State), (s.present a = true ∧ (s.act a).wp.ops = [o] ∧ o.bank = none ∧ s.wpChoose a o.op = none ∧ s.plc.chunks = [] ∧ s.plc.groups = []) →
   Completes (.noBankTimeout a) s fun t => (t.act a).wp.ops = [] ∧ (t.act a).wp.flags.getLsbD 7 = true ∧ (t.act a).wp.done = (s.act a).wp.done ++ [{ act := a, opId := o.op.opId, written := o.written, cause := some 13 }] ∧ Sent (faultMsg (epAct a 4) (88 + 12 * a.val + 10) 0 (s.localTime (epAct a 4))) s t ∧ (∀ c, c ≠ a → t.act c = s.act c) ∧ MemorySame s t) ∧
  (∀ (a : Fin 4) (o : WpOp) (r : List WpOp) (s : State), ((s.act a).wp.ops = o :: r ∧ o.bank.isSome = true) →
   Completes (.heatLeadStart a) s fun t => (t.act a).wp.ops = { o with heatAt := some (o.heatAt.getD s.now) } :: r ∧ (Tab.get? (s.act a).psc.acked 2 ≠ some 3 → (t.act a).psc.tx.any (fun x => x.code == 2 && x.data == 3) = true) ∧ ActuatorOnly a s t ∧ t.fab = s.fab) ∧
  (∀ (a : Fin 4) (o : WpOp) (b : List Word) (src : Nat) (tag : BitVec 64) (room : Nat) (s : State), ((s.act a).wp.ops = [o] ∧ (s.act a).wp.inSector = false ∧ (s.act a).wp.cause = 0 ∧ o.cut = none ∧ o.bank = some b ∧ 1 ≤ o.written ∧ o.op.sectors[o.written]? = some (src, tag) ∧ 164 ≤ room) →
   Completes (.writeGateOpen a room true false) s fun t => (t.act a).wp.writing = true ∧ (t.act a).wp.inSector = true ∧ (t.act a).wp.payload = sectorPayload (s.read src 4096) tag ∧ (t.act a).wp.wrd = (sectorBits (sectorPayload (s.read src 4096) tag)).take (pieceEnd 0 room) ∧ (t.act a).wp.shifts = pieceShifts (nth b 6 0).toNat (s.act a).wp.wrd (t.act a).wp.wrd ∧ (t.act a).wp.place = (if padStart ≤ pieceEnd 0 room then sectorSpan else pieceEnd 0 room) ∧ (t.act a).wp.ops = [o] ∧ ActuatorOnly a s t ∧ t.fab = s.fab) ∧
  (∀ (a : Fin 4) (o : WpOp) (b : List Word) (room : Nat) (s : State), (s.present a = true ∧ (s.act a).wp.ops = [o] ∧ (s.act a).wp.inSector = false ∧ (s.act a).wp.cause = 0 ∧ o.cut = none ∧ o.bank = some b ∧ o.written < o.op.sectors.length ∧ 164 ≤ room ∧ (o.written = 0 → s.heatReady o = true)) →
   Completes (.writeGateOpen a room false false) s fun t => (t.act a).wp.writing = false ∧ (t.act a).wp.cause = 0x1000 ∧ (t.act a).wp.flags.getLsbD 6 = true ∧ (t.act a).wp.flags.getLsbD 5 = true ∧ Sent (faultMsg (epAct a 4) (88 + 12 * a.val + 10) 1 (s.localTime (epAct a 4))) s t ∧ Sent (eventMsg (epAct a 4) (144 + 24 * a.val + 21) (12 * 65536 + o.written)) s t ∧ (t.act a).wp.ops = [{ o with cut := some (12, s.now), target := (s.act a).svd.target }] ∧ (∀ c, c ≠ a → t.act c = s.act c) ∧ MemorySame s t) ∧
  (∀ (a : Fin 4) (o : WpOp) (s : State), ((s.act a).wp.ops = [o] ∧ (s.act a).wp.writing = true ∧ (s.act a).wp.inSector = true ∧ sectorSpan ≤ (s.act a).wp.place) →
   Completes (.writeServoGate a false) s fun t => (t.act a).wp.writing = false ∧ (t.act a).wp.inSector = false ∧ (t.act a).wp.ops = [{ o with written := o.written + 1 }] ∧ (∀ c, c ≠ a → t.act c = s.act c) ∧ t.fab = s.fab) ∧
  (∀ (a : Fin 4) (o : WpOp) (s : State), ((s.act a).wp.ops = [o] ∧ (s.act a).wp.writing = true ∧ (s.act a).wp.inSector = true ∧ (s.act a).wp.place < sectorSpan) →
   Completes (.writeServoGate a true) s fun t => (t.act a).wp.writing = false ∧ (t.act a).wp.wrd = [] ∧ (t.act a).wp.place = (s.act a).wp.place ∧ (t.act a).wp.inSector = true ∧ (t.act a).wp.ops = [o] ∧ (∀ c, c ≠ a → t.act c = s.act c) ∧ t.fab = s.fab) ∧
  (∀ (a : Fin 4) (o : WpOp) (room : Nat) (s : State), ((s.act a).wp.ops = [o] ∧ (s.act a).wp.inSector = true ∧ (s.act a).wp.place < sectorSpan ∧ (s.act a).wp.writing = false ∧ (s.act a).wp.wrd = [] ∧ (s.act a).wp.cause = 0) →
   Completes (.writeGateOpen a room true true) s fun t => (t.act a).wp.writing = true ∧ (t.act a).wp.wrd = contLead ++ ((sectorBits (s.act a).wp.payload).drop (s.act a).wp.place).take (pieceEnd (s.act a).wp.place (room - 88) - (s.act a).wp.place) ∧ (t.act a).wp.shifts = pieceShifts (nth (o.bank.getD []) 6 0).toNat [] (t.act a).wp.wrd ∧ (t.act a).wp.ops = [o] ∧ ActuatorOnly a s t ∧ t.fab = s.fab) ∧
  (∀ (a : Fin 4) (o : WpOp) (s : State), (s.present a = true ∧ (s.act a).wp.ops = [o] ∧ (s.act a).wp.inSector = true ∧ sectorSpan ≤ (s.act a).wp.place ∧ o.cut = none ∧ o.written + 1 = o.op.sectors.length ∧ s.plc.chunks = [] ∧ s.plc.groups = []) →
   Completes (.writeOperationComplete a) s fun t => (t.act a).wp.ops = [] ∧ (t.act a).wp.done = (s.act a).wp.done ++ [{ act := a, opId := o.op.opId, written := o.op.sectors.length, cause := none }] ∧ t.odNat (0x480001 + 0x10000 * a.val) 0 = s.odNat (0x480001 + 0x10000 * a.val) 0 + o.op.sectors.length ∧ Sent (eventMsg (epAct a 4) (144 + 24 * a.val + 20) o.op.sectors.length) s t ∧ (∀ c, c ≠ a → t.act c = s.act c) ∧ MemorySame s t) ∧
  (∀ (a : Fin 4) (s : State), ((s.act a).wp.ops = [] ∧ Tab.get? (s.act a).psc.acked 2 ≠ some 2 ∧ 100 * usTicks ≤ s.since (s.act a).wp.lastEnd) →
   Completes (.writeModeIdle a) s fun t => (t.act a).psc.tx.any (fun x => x.code == 2 && x.data == 2) = true ∧ (t.act a).psc.tx.countP (fun x => !x.raw && x.code == 2) = 1 ∧ ActuatorOnly a s t ∧ t.fab = s.fab)

/-- Writing the hold bit sets or clears cause 11. A supply sense outside its window sets cause 6
with its flag, and raises fault offset 10, kind 3, once an episode; 100 microseconds in range
release it. A cause that comes into force on a clear mask raises event offset 18 with the mask, and
the last one released raises event offset 19. Within the window of resumption, with every cause
released, the head and target unchanged and tries left, the first unwritten sector is written again;
without tries left the operation ends with kind 2. When the causes are not released in time the
operation ends with its cause bit. (09_write_path_and_preamp.md) -/
def Obligations.WriteInhibitCausesCutSectors : Prop :=
  (∀ (a : Fin 4) (s : State), (s.present a = true ∧ (s.act a).wp.cause = 0 ∧ (s.act a).wp.writing = false) →
   Completes (.writeHold a true) s fun t => (t.act a).wp.hold = true ∧ (t.act a).wp.cause = 0x800 ∧ SentOnly [eventMsg (epAct a 4) (144 + 24 * a.val + 18) 0x800] s t ∧ ActuatorOnly a s t) ∧
  (∀ (a : Fin 4) (s : State), (s.present a = true ∧ (s.act a).wp.cause = 0x800) →
   Completes (.writeHold a false) s fun t => (t.act a).wp.hold = false ∧ (t.act a).wp.cause = 0 ∧ SentOnly [eventMsg (epAct a 4) (144 + 24 * a.val + 19) (s.since (s.act a).wp.inhSince / usTicks)] s t ∧ ActuatorOnly a s t) ∧
  (∀ (a : Fin 4) (v12 v5 : Nat) (s : State), (s.present a = true ∧ s.supplyInWindow a v12 v5 = false ∧ (s.act a).wp.cause.getLsbD 6 = false) →
   Completes (.supplyWindowCross a v12 v5) s fun t => (t.act a).wp.cause = setBit (s.act a).wp.cause 6 true ∧ (t.act a).wp.flags.getLsbD 2 = true ∧ Sent (faultMsg (epAct a 4) (88 + 12 * a.val + 10) 3 (s.localTime (epAct a 4))) s t ∧ t.sys.v12 = v12 ∧ t.sys.v5 = v5 ∧ (∀ c, c ≠ a → t.act c = s.act c) ∧ MemorySame s t) ∧
  (∀ (a : Fin 4) (v12 v5 : Nat) (s : State), (s.supplyInWindow a v12 v5 = false ∧ (s.act a).wp.cause.getLsbD 6 = true) →
   Completes (.supplyWindowCross a v12 v5) s fun t => (t.act a).wp.cause = (s.act a).wp.cause ∧ ¬ Sent (faultMsg (epAct a 4) (88 + 12 * a.val + 10) 3 (s.localTime (epAct a 4))) s t ∧ t.sys.v12 = v12 ∧ t.sys.v5 = v5 ∧ (∀ c, c ≠ a → t.act c = s.act c)) ∧
  (∀ (a : Fin 4) (v12 v5 : Nat) (s : State), (s.supplyInWindow a v12 v5 = true) →
   Completes (.supplyWindowCross a v12 v5) s fun t => t.acts = s.acts ∧ MemorySame s t ∧ t.sys.v12 = v12 ∧ t.sys.v5 = v5) ∧
  (∀ (a : Fin 4) (s : State), (100 * usTicks ≤ s.since (s.act a).wp.supplyOut) →
   Completes (.supplyWindowRelease a) s fun t => (t.act a).wp.cause = setBit (s.act a).wp.cause 6 false ∧ ActuatorOnly a s t) ∧
  (∀ (a : Fin 4) (o : WpOp) (c : Nat × BitVec 64) (b : List Word) (room : Nat) (s : State), ((s.act a).wp.ops = [o] ∧ (s.act a).wp.cause = 0 ∧ o.cut = some c ∧ o.bank = some b ∧ s.since c.2 ≤ s.p4800ResWin a * msTicks ∧ (s.act a).svd.target = o.target ∧ (s.act a).svd.head = o.op.head ∧ o.tries < s.p4800ResTries a ∧ 1 ≤ o.written ∧ 164 ≤ room) →
   Completes (.resumePass { act := a, room := room }) s fun t => (t.act a).wp.ops = [{ o with tries := o.tries + 1, cut := none }] ∧ (t.act a).wp.writing = true ∧ (t.act a).wp.inSector = true ∧ (t.act a).wp.payload = sectorPayload (s.read (nth o.op.sectors o.written (0, 0)).1 4096) (nth o.op.sectors o.written (0, 0)).2 ∧ ActuatorOnly a s t ∧ t.fab = s.fab) ∧
  (∀ (a : Fin 4) (o : WpOp) (c : Nat × BitVec 64) (b : List Word) (room : Nat) (s : State), (s.present a = true ∧ (s.act a).wp.ops = [o] ∧ (s.act a).wp.cause = 0 ∧ o.cut = some c ∧ o.bank = some b ∧ s.since c.2 ≤ s.p4800ResWin a * msTicks ∧ (s.act a).svd.target = o.target ∧ (s.act a).svd.head = o.op.head ∧ s.p4800ResTries a ≤ o.tries ∧ s.plc.chunks = [] ∧ s.plc.groups = []) →
   Completes (.resumePass { act := a, room := room }) s fun t => (t.act a).wp.ops = [] ∧ (t.act a).wp.done = (s.act a).wp.done ++ [{ act := a, opId := o.op.opId, written := o.written, cause := some c.1 }] ∧ Sent (faultMsg (epAct a 4) (88 + 12 * a.val + 10) 2 (s.localTime (epAct a 4))) s t ∧ (∀ c, c ≠ a → t.act c = s.act c) ∧ MemorySame s t) ∧
  (∀ (a : Fin 4) (o : WpOp) (c : Nat × BitVec 64) (s : State), ((s.act a).wp.ops = [o] ∧ o.cut = some c ∧ s.p4800ResWin a * msTicks < s.since c.2 ∧ (s.act a).wp.cause ≠ 0 ∧ s.plc.chunks = [] ∧ s.plc.groups = []) →
   Completes (.resumeWindowExpiry a) s fun t => (t.act a).wp.ops = [] ∧ (t.act a).wp.done = (s.act a).wp.done ++ [{ act := a, opId := o.op.opId, written := o.written, cause := some c.1 }] ∧ (∀ c, c ≠ a → t.act c = s.act c) ∧ MemorySame s t)

/-- While the link is up, each command frame waits for its acknowledgement and the preamplifier
takes over its value: head, mode (which ends the SAFE bits), write gate (1 only in write-ready
mode), reader bias, write current, overshoot duration, laser bias and power, heater read and write
powers, SAFE bits; FAULT_CLR clears the named fault bits whose condition does not hold; NOP,
SENSE_REQ and ID_REQ change no setting. SAFE and ID_REQ also go out while a started link is down;
then no other frame changes anything. (09_write_path_and_preamp.md) -/
def Obligations.PreampFramesSetThePreamp : Prop :=
  (∀ (a : Fin 4) (s : State), ((s.act a).psc.linkUp = true ∧ s.pscTurn a (s.pscFrame a 0 0) = true) →
   Completes (.pscNop a) s fun t => PscSent a 0 0 { (s.act a).pre with heard := s.now } s t) ∧
  (∀ (a : Fin 4) (h : BitVec 5) (s : State), ((s.act a).psc.linkUp = true ∧ s.pscTurn a (s.pscFrame a 1 (h.setWidth 16)) = true) →
   Completes (.pscHeadSel a h) s fun t => PscSent a 1 (h.setWidth 16) { (s.act a).pre with heard := s.now, head := h } s t) ∧
  (∀ (a : Fin 4) (m : BitVec 2) (s : State), ((s.act a).psc.linkUp = true ∧ s.pscTurn a (s.pscFrame a 2 (m.setWidth 16)) = true) →
   Completes (.pscMode a m) s fun t => PscSent a 2 (m.setWidth 16) { (s.act a).pre with heard := s.now, mode := m, safe := 0 } s t) ∧
  (∀ (a : Fin 4) (g : Bool) (s : State), ((s.act a).psc.linkUp = true ∧ s.pscTurn a (s.pscFrame a 3 (if g then 1 else 0)) = true) →
   Completes (.pscWgate a g) s fun t => PscSent a 3 (if g then 1 else 0) (if g && decide ((s.act a).pre.mode ≠ 3) then { (s.act a).pre with heard := s.now } else { (s.act a).pre with heard := s.now, wgate := g }) s t) ∧
  (∀ (a : Fin 4) (rb ra : BitVec 8) (s : State), ((s.act a).psc.linkUp = true ∧ s.pscTurn a (s.pscFrame a 4 (rb ++ ra)) = true) →
   Completes (.pscReadBias a rb ra) s fun t => PscSent a 4 (rb ++ ra) { (s.act a).pre with heard := s.now, readBias := rb ++ ra } s t) ∧
  (∀ (a : Fin 4) (o c : BitVec 8) (s : State), ((s.act a).psc.linkUp = true ∧ s.pscTurn a (s.pscFrame a 5 (o ++ c)) = true) →
   Completes (.pscWriteCur a o c) s fun t => PscSent a 5 (o ++ c) { (s.act a).pre with heard := s.now, writeCur := o ++ c } s t) ∧
  (∀ (a : Fin 4) (v : BitVec 8) (s : State), ((s.act a).psc.linkUp = true ∧ s.pscTurn a (s.pscFrame a 6 (v.setWidth 16)) = true) →
   Completes (.pscOsDur a v) s fun t => PscSent a 6 (v.setWidth 16) { (s.act a).pre with heard := s.now, osDur := v } s t) ∧
  (∀ (a : Fin 4) (v : BitVec 12) (s : State), ((s.act a).psc.linkUp = true ∧ s.pscTurn a (s.pscFrame a 7 (v.setWidth 16)) = true) →
   Completes (.pscLaserBias a v) s fun t => PscSent a 7 (v.setWidth 16) { (s.act a).pre with heard := s.now, laserBias := v } s t) ∧
  (∀ (a : Fin 4) (v : BitVec 12) (s : State), ((s.act a).psc.linkUp = true ∧ s.pscTurn a (s.pscFrame a 8 (v.setWidth 16)) = true) →
   Completes (.pscLaserOp a v) s fun t => PscSent a 8 (v.setWidth 16) { (s.act a).pre with heard := s.now, laserOp := v } s t) ∧
  (∀ (a : Fin 4) (v : BitVec 10) (s : State), ((s.act a).psc.linkUp = true ∧ s.pscTurn a (s.pscFrame a 9 (v.setWidth 16)) = true) →
   Completes (.pscHeatRd a v) s fun t => PscSent a 9 (v.setWidth 16) { (s.act a).pre with heard := s.now, heatRd := v } s t) ∧
  (∀ (a : Fin 4) (v : BitVec 10) (s : State), ((s.act a).psc.linkUp = true ∧ s.pscTurn a (s.pscFrame a 0xA (v.setWidth 16)) = true) →
   Completes (.pscHeatWr a v) s fun t => PscSent a 0xA (v.setWidth 16) { (s.act a).pre with heard := s.now, heatWr := v } s t) ∧
  (∀ (a : Fin 4) (n : BitVec 4) (s : State), ((s.act a).psc.linkUp = true ∧ s.pscTurn a (s.pscFrame a 0xB (n.setWidth 16)) = true) →
   Completes (.pscSenseReq a n) s fun t => PscSent a 0xB (n.setWidth 16) { (s.act a).pre with heard := s.now } s t) ∧
  (∀ (a : Fin 4) (b h : BitVec 16) (s : State), ((s.act a).psc.linkUp = true ∧ s.pscTurn a (s.pscFrame a 0xC b) = true) →
   Completes (.pscFaultClr a b h) s fun t => PscSent a 0xC b { (s.act a).pre with heard := s.now, faults := (s.act a).pre.faults &&& ~~~(b &&& ~~~h) } s t) ∧
  (∀ (a : Fin 4) (s : State), (((s.act a).psc.linkUp = true ∨ (s.act a).psc.started = true) ∧ s.pscTurn a (s.pscFrame a 0xD 0) = true) →
   Completes (.pscIdReq a) s fun t => PscSent a 0xD 0 { (s.act a).pre with heard := s.now } s t) ∧
  (∀ (a : Fin 4) (b : BitVec 3) (s : State), (((s.act a).psc.linkUp = true ∨ (s.act a).psc.started = true) ∧ s.pscTurn a (s.pscFrame a 0x10 (b.setWidth 16)) = true) →
   Completes (.pscSafe a b) s fun t => PscSent a 0x10 (b.setWidth 16) { (s.act a).pre with heard := s.now, safe := (s.act a).pre.safe ||| b } s t) ∧
  (∀ (a : Fin 4) (h : BitVec 5) (s : State), ((s.act a).psc.linkUp = false) →
   Completes (.pscHeadSel a h) s fun t => t = s)

/-- A good ACK that is neither refused nor unknown ends the wait of its code and records the value
acknowledged. A SENSE frame of the sensor asked for ends the request with its value. A FAULT frame
is copied to PSC_FAULT with causes 7 and 8, event offset 22 and fault offset 11 of the lowest bit.
An ID frame of version 1 brings a started link up and releases cause 9; another version raises kind
15. The fourth missing acknowledgement declares the link down with kind 12. PFL sets cause 8, its
rise releases 7 and 8, and a missing FAULT frame raises kind 14. Raw frames of the write gate are
refused with CONFLICT; others and the requests of PSC_CTL are queued. (09_write_path_and_preamp.md)
-/
def Obligations.PscRepliesFaultsAndLinkState : Prop :=
  (∀ (a : Fin 4) (x : PscWait) (s : State), ((s.act a).psc.waits = [x] ∧ x.code = 5 ∧ x.raw = false) →
   Completes (.pscAckFrame a 4026533212) s fun t => (t.act a).psc.waits = [] ∧ Tab.get? (t.act a).psc.acked 5 = some x.data ∧ (t.act a).pre = (s.act a).pre ∧ ActuatorOnly a s t ∧ t.fab = s.fab) ∧
  (∀ (a : Fin 4) (x : PscWait) (s : State), ((s.act a).psc.waits = [x] ∧ x.code = 5 ∧ (s.act a).psc.linkUp = false) →
   Completes (.pscAckFrame a 4026533213) s fun t => (t.act a).psc.waits = [x] ∧ (t.act a).psc.crcErrors.head? = some s.now ∧ ActuatorOnly a s t ∧ t.fab = s.fab) ∧
  (∀ (a : Fin 4) (s : State), ((s.act a).psc.senseReq = true ∧ (s.act a).psc.sensor = 2) →
   Completes (.pscSenseFrame a 4046109757) s fun t => (t.act a).psc.senseReq = false ∧ (t.act a).psc.value = 0xABC ∧ ActuatorOnly a s t ∧ t.fab = s.fab) ∧
  (∀ (a : Fin 4) (s : State), (s.present a = true ∧ (s.act a).wp.writing = false) →
   Completes (.pscFaultFrame a 4060090593) s fun t => (t.act a).psc.fault = 0x10 ∧ (t.act a).wp.cause = setBit (setBit (s.act a).wp.cause 7 true) 8 false ∧ Sent (eventMsg (epAct a 4) (144 + 24 * a.val + 22) 0x10) s t ∧ Sent (faultMsg (epAct a 4) (88 + 12 * a.val + 11) 4 (s.localTime (epAct a 4))) s t ∧ (∀ c, c ≠ a → t.act c = s.act c) ∧ MemorySame s t) ∧
  (∀ (a : Fin 4) (s : State), ((s.act a).psc.started = true ∧ (s.act a).psc.linkUp = false) →
   Completes (.pscIdFrame a 4088070514) s fun t => (t.act a).psc.linkUp = true ∧ (t.act a).psc.preampId = 0xAB01 ∧ (t.act a).wp.cause = setBit (s.act a).wp.cause 9 false ∧ (t.act a).psc.tx.any (fun x => x.code == 2 && x.data == 1) = true ∧ ActuatorOnly a s t) ∧
  (∀ (a : Fin 4) (s : State), (s.present a = true ∧ (s.act a).psc.started = true ∧ (s.act a).wp.writing = false) →
   Completes (.pscIdFrame a 4088070779) s fun t => (t.act a).psc.linkUp = false ∧ (t.act a).psc.badVersion = true ∧ (t.act a).wp.cause = setBit (s.act a).wp.cause 9 true ∧ Sent (faultMsg (epAct a 4) (88 + 12 * a.val + 11) 15 (s.localTime (epAct a 4))) s t ∧ (∀ c, c ≠ a → t.act c = s.act c) ∧ MemorySame s t) ∧
  (∀ (a : Fin 4) (x : PscWait) (s : State), ((s.act a).psc.waits = [x] ∧ x.again < 3 ∧ x.code = 7 ∧ ackTicks ≤ s.since x.sent) →
   Completes (.pscAckTimeout a) s fun t => (t.act a).psc.waits = [{ x with again := x.again + 1, sent := s.now }] ∧ (t.act a).pre = { (s.act a).pre with heard := s.now, laserBias := x.data.setWidth 12 } ∧ ActuatorOnly a s t ∧ t.fab = s.fab) ∧
  (∀ (a : Fin 4) (x : PscWait) (s : State), (s.present a = true ∧ (s.act a).psc.waits = [x] ∧ 3 ≤ x.again ∧ ackTicks ≤ s.since x.sent ∧ (s.act a).psc.declaredDown = false ∧ (s.act a).wp.writing = false) →
   Completes (.pscAckTimeout a) s fun t => (t.act a).psc.linkUp = false ∧ (t.act a).psc.declaredDown = true ∧ (t.act a).psc.waits = [] ∧ (t.act a).psc.tx.map (fun x => (x.code, x.data)) = [(0x10, 7), (0x0D, 0)] ∧ (t.act a).wp.cause = setBit (s.act a).wp.cause 9 true ∧ Sent (faultMsg (epAct a 4) (88 + 12 * a.val + 11) 12 (s.localTime (epAct a 4))) s t ∧ (∀ c, c ≠ a → t.act c = s.act c) ∧ MemorySame s t) ∧
  (∀ (a : Fin 4) (s : State), ((s.act a).psc.started = true ∧ (s.act a).psc.linkUp = false ∧ 10 * usTicks ≤ s.since (s.act a).psc.probeAt) →
   Completes (.linkDownProbe a) s fun t => (t.act a).pre = { (s.act a).pre with safe := 7, heard := s.now } ∧ (t.act a).psc.probeAt = s.now ∧ (t.act a).psc.waits.map (fun x => (x.code, x.data)) = (s.act a).psc.waits.map (fun x => (x.code, x.data)) ++ [(0x10, 7), (0x0D, 0)] ∧ ActuatorOnly a s t ∧ t.fab = s.fab) ∧
  (∀ (a : Fin 4) (s : State), ((s.act a).pre.mode ≠ 0 ∧ 4 * usTicks ≤ s.since (s.act a).pre.heard) →
   Completes (.preampLinkTimeout a) s fun t => (t.act a).pre = { (s.act a).pre with safe := 7, faults := setBit (s.act a).pre.faults 10 true } ∧ ActuatorOnly a s t ∧ t.fab = s.fab) ∧
  (∀ (a : Fin 4) (b : BitVec 16) (s : State), (s.domOn (20 + a.val) = true ∧ (s.act a).wp.writing = false ∧ (s.act a).pre.faults ||| (b &&& 0x0FFF) ≠ 0) →
   Completes (.pflAssert a b false) s fun t => (t.act a).psc.pfl = false ∧ (t.act a).wp.cause = setBit (s.act a).wp.cause 8 true ∧ (t.act a).wp.flags.getLsbD 3 = true ∧ (t.act a).pre.faults = (s.act a).pre.faults ||| (b &&& 0x0FFF) ∧ (t.act a).psc.fault = (s.act a).psc.fault ∧ ActuatorOnly a s t) ∧
  (∀ (a : Fin 4) (s : State), ((s.act a).pre.faults = 0) →
   Completes (.pflRelease a) s fun t => (t.act a).psc.pfl = true ∧ (t.act a).wp.cause = setBit (setBit (s.act a).wp.cause 7 false) 8 false ∧ ActuatorOnly a s t) ∧
  (∀ (a : Fin 4) (s : State), ((s.act a).pre.faults ≠ 0) →
   Completes (.pflRelease a) s fun t => t = s) ∧
  (∀ (a : Fin 4) (s : State), (s.present a = true ∧ (s.act a).psc.pfl = false ∧ (s.act a).psc.named = false ∧ 2 * usTicks ≤ s.since (s.act a).psc.pflAt ∧ (s.act a).wp.writing = false) →
   Completes (.pflFrameTimeout a) s fun t => Sent (faultMsg (epAct a 4) (88 + 12 * a.val + 11) 14 (s.localTime (epAct a 4))) s t ∧ (t.act a).wp.cause = setBit (s.act a).wp.cause 8 true ∧ (∀ c, c ≠ a → t.act c = s.act c) ∧ MemorySame s t) ∧
  (∀ (a : Fin 4) (u : BitVec 64) (s : State), ((s.act a).psc.senseReq = true ∧ (s.act a).psc.senseAt = some u ∧ 2 * usTicks ≤ s.since u) →
   Completes (.senseTimeout a) s fun t => (t.act a).psc.senseReq = false ∧ (t.act a).psc.senseTimeout = true ∧ (t.act a).psc.waits = (s.act a).psc.waits.filter (fun x => x.code != 0x0B) ∧ ActuatorOnly a s t ∧ t.fab = s.fab) ∧
  (∀ (a : Fin 4) (s : State),
   Completes (.pscCtlIdReq a) s fun t => (t.act a).psc.idReq = true ∧ (t.act a).psc.tx.length = (s.act a).psc.tx.length + 1 ∧ (t.act a).psc.tx.any (fun x => x.code == 0x0D && x.data == 0) = true ∧ ActuatorOnly a s t ∧ t.fab = s.fab) ∧
  (∀ (a : Fin 4) (s : State),
   Completes (.pscCtlFclr a) s fun t => (t.act a).psc.fclr = true ∧ (t.act a).psc.tx.length = (s.act a).psc.tx.length + 1 ∧ (t.act a).psc.tx.any (fun x => x.code == 0x0C && x.data == (s.act a).psc.fault) = true ∧ ActuatorOnly a s t ∧ t.fab = s.fab) ∧
  (∀ (a : Fin 4) (n : BitVec 4) (s : State), ((s.act a).psc.senseReq = false) →
   Completes (.pscSenseRequest a n) s fun t => (t.act a).psc.senseReq = true ∧ (t.act a).psc.senseTimeout = false ∧ (t.act a).psc.sensor = n ∧ (t.act a).psc.tx.any (fun x => x.code == 0x0B && x.data == n.setWidth 16) = true ∧ ActuatorOnly a s t ∧ t.fab = s.fab) ∧
  (∀ (a : Fin 4) (code : BitVec 6) (d : BitVec 16) (s : State), (code = 3 ∨ (code = 2 ∧ d.toNat % 4 = 3)) →
   Completes (.pscRawSend a code d) s fun t => t = s.onWp a (fun w => { w with flags := setBit w.flags 8 true })) ∧
  (∀ (a : Fin 4) (code : BitVec 6) (d : BitVec 16) (s : State), (code ≠ 3 ∧ ¬ (code = 2 ∧ d.toNat % 4 = 3)) →
   Completes (.pscRawSend a code d) s fun t => (t.act a).psc.rawSend = true ∧ (t.act a).psc.rawAcked = false ∧ (t.act a).psc.rawCode = code ∧ (t.act a).psc.rawData = d ∧ (t.act a).psc.tx.any (fun x => x.code == code && x.data == d && x.raw) = true ∧ (t.act a).psc.tx.length = (s.act a).psc.tx.length + 1 ∧ ActuatorOnly a s t ∧ t.fab = s.fab)

/-- A dirty unit for which a stripe is picked becomes destaging; it is written at the stripe's write
point by a new operation of that actuator, joins the stripe's open group, and a chunk records it
unwritten. With no eligible stripe nothing is written, event 271 tells it and media cache Homework
becomes obligatory. An idle group is filled up to k members and its P and Q are written. A restarted
temperature window gives each band the class of its writes and counts them anew. (10_placement.md)
-/
def Obligations.PlacementDestagesAndClosesGroups : Prop :=
  (∀ (c : ChunkInputs) (p : Page) (i : Nat) (st : Stripe) (g : RowGroup) (s : State), (s.buf.pages = [p] ∧ p.unit = c.gmu ∧ p.state = .dirty ∧ c.len = 1 ∧ 4096 ≤ s.p1420Chunk ∧ s.cmd? c.cmd = none ∧ s.pickStripe c none = some i ∧ s.plc.stripes[i]? = some st ∧ s.openGroup i = some g ∧ g.members + 1 < g.k ∧ st.write = g.pos + g.members ∧ st.write % max 1 st.size < st.size ∧ s.plc.extents.length + s.plc.chunks.length < s.plc.extentCap) →
   Completes (.destageChunk c) s fun t => t.buf.pages = [{ p with state := .destaging }] ∧ t.plc.opSeq = s.plc.opSeq + 1 ∧ t.plc.chunks = s.plc.chunks ++ [{ opId := t.plc.opSeq, cmd := c.cmd, gen := p.gen, gmu := c.gmu, len := 1, stripe := i, pos := st.write, zone := st.zone, temp := (s.band (c.gmu / 65536)).temp, written := false }] ∧ ((t.act st.act).wp.ops.drop (s.act st.act).wp.ops.length).map (fun o => (o.op.opId, o.op.head, o.op.zone)) = [(t.plc.opSeq, st.head, st.zone)] ∧ ((t.act st.act).wp.ops.drop (s.act st.act).wp.ops.length).map (fun o => o.op.sectors) = [[(c.src, mkTag 2 p.gen c.gmu)]] ∧ (t.plc.stripes[i]?.map fun x => x.write) = some (st.write + 1) ∧ (∀ b, b ≠ st.act → t.act b = s.act b) ∧ MemorySame s t) ∧
  (∀ (c : ChunkInputs) (p : Page) (s : State), (s.buf.pages = [p] ∧ p.unit = c.gmu ∧ p.state = .dirty ∧ c.len = 1 ∧ 4096 ≤ s.p1420Chunk ∧ s.cmd? c.cmd = none ∧ s.pickStripe c none = none ∧ s.plc.extents.length + s.plc.chunks.length < s.plc.extentCap) →
   Completes (.destageChunk c) s fun t => t.plc.obligCache = true ∧ t.buf = s.buf ∧ t.acts = s.acts ∧ SentOnly [eventMsg epPlacement 271 ((s.presentActs.filter fun a => s.loaded a).foldl (fun n a => n + 2 ^ a.val) 0)] s t ∧ MemorySame s t) ∧
  (∀ (g : RowGroup) (st : Stripe) (spare : Nat) (s : State), (s.plc.groups = [g] ∧ g.closed = false ∧ g.qOp = none ∧ s.plc.stripes[g.stripe]? = some st ∧ g.members < g.k ∧ s.groupDue g = true) →
   Completes (.groupIdleClose g.serial { spare := spare, lost := false }) s fun t => (t.plc.groups.map fun x => (x.serial, x.members, x.qOp)) = [(g.serial, g.k, some t.plc.opSeq)] ∧ t.plc.opSeq = s.plc.opSeq + 2 ∧ ((t.act st.act).wp.ops.drop (s.act st.act).wp.ops.length).map (fun o => o.op.sectors) = [List.replicate (g.k - g.members) (spare + 8192, mkTag 6 0 g.serial), [(spare, mkTag 4 0 g.serial), (spare + 4096, mkTag 5 0 g.serial)]] ∧ MemoryOutside spare 8192 s t ∧ (∀ b, b ≠ st.act → t.act b = s.act b)) ∧
  (∀ (g : RowGroup) (spare : Nat) (s : State), (s.plc.groups = [g] ∧ g.closed = false ∧ g.qOp = none ∧ g.members < g.k ∧ s.p1420GroupIdle * msTicks > s.since g.lastAt ∧ s.sys.entry = none ∧ s.sys.shutKind = none ∧ (Tab.get? s.plc.parity g.serial).isSome = true) →
   Completes (.groupIdleClose g.serial { spare := spare, lost := false }) s fun t => t = s) ∧
  (∀ (b : BandEntry) (s : State), (s.plc.bands = [b] ∧ b.state = .home ∧ s.plc.tempSince + s.p1430TempWindow ≤ s.poh) →
   Completes (.tempWindowRestart) s fun t => t.plc.bands = [{ b with temp := if b.writes < s.p1430WarmWrites then 0 else if b.writes < s.p1430HotWrites then 1 else 2, writes := 0 }] ∧ t.plc.tempSince = s.poh ∧ t.plc.extents = s.plc.extents ∧ t.acts = s.acts ∧ MemorySame s t) ∧
  (∀ (s : State), (s.poh < s.plc.tempSince + s.p1430TempWindow) →
   Completes (.tempWindowRestart) s fun t => t = s)

/-- A commit starts when entries are pending and none runs: the journal sectors hold exactly the
pending entries in order, numbered on from the last, and nothing is pending. A copy written is
appended to its actuator's journal, and with the quorum complete the commit is durable; with no copy
writable the entries are pending again, with fault 29. A missed deadline raises fault 28 once with
the copies done. A checkpoint holds the maps as they stand and, once durable, becomes the restore
point with event 267. (10_placement.md) -/
def Obligations.JournalCommitsAndCheckpoints : Prop :=
  (∀ (order : List (Fin 4)) (s : State), (s.plc.commit = none ∧ s.plc.pend ≠ [] ∧ s.p1410Quorum ≤ ((order.filter fun a => s.usable a).eraseDups).length ∧ 1 ≤ s.p1410Quorum ∧ s.commitDue = true) →
   Completes (.commitStart order) s fun t => t.plc.pend = [] ∧ t.plc.pendSince = none ∧ (t.plc.commit.map fun c => c.sectors.flatMap fun j => j.entries) = some s.plc.pend ∧ (t.plc.commit.map fun c => (c.used, c.done, c.missed)) = some (s.p1410Quorum, 0, s.plc.pendMissed) ∧ (t.plc.commit.map fun c => c.sectors.map fun j => j.seq) = some ((List.range (t.plc.seq - s.plc.seq)).map fun i => s.plc.seq + 1 + i) ∧ t.fab = s.fab ∧ t.acts = s.acts) ∧
  (∀ (order : List (Fin 4)) (s : State), ((s.plc.commit.isSome = true ∨ s.plc.pend = [] ∨ s.commitDue = false)) →
   Completes (.commitStart order) s fun t => t = s) ∧
  (∀ (a : Fin 4) (c : Commit) (s : State), (s.plc.commit = some c ∧ c.acts = actPut 0 a true ∧ c.done = 0) →
   Completes (.commitDurable a true) s fun t => t.plc.durable = s.plc.durable + c.sectors.length ∧ (t.plc.copies.get a).sectors = (s.plc.copies.get a).sectors ++ c.sectors ∧ t.recov.detentionSaved = s.recov.detention ∧ MemorySame s t) ∧
  (∀ (a : Fin 4) (c : Commit) (s : State), (s.plc.commit = some c ∧ c.acts = actPut 0 a true ∧ c.done = 0 ∧ s.sys.mode = .service ∧ s.sys.entry = none ∧ s.sys.exiting = false ∧ s.sys.shutStage = none) →
   Completes (.commitDurable a false) s fun t => t.plc.commit = none ∧ t.plc.pend = (c.sectors.flatMap fun j => j.entries) ++ s.plc.pend ∧ t.plc.durable = s.plc.durable ∧ t.plc.copyState = actPut s.plc.copyState a false ∧ (t.plc.copies.get a).bad = true ∧ Sent (faultMsg epPlacement 29 a.val (s.localTime epPlacement)) s t ∧ MemorySame s t) ∧
  (∀ (c : Commit) (s : State), (s.plc.commit = some c ∧ c.missed = false ∧ s.deadlinePast c.since = true) →
   Completes (.commitDeadlineMiss) s fun t => t.plc = { s.plc with commit := some { c with missed := true } } ∧ SentOnly [faultMsg epPlacement 28 (actCountIn c.done) (s.localTime epPlacement)] s t ∧ t.acts = s.acts) ∧
  (∀ (s : State), ((∀ c, s.plc.commit = some c → s.deadlinePast c.since = false) ∧ s.deadlinePast s.plc.pendSince = false) →
   Completes (.commitDeadlineMiss) s fun t => t = s) ∧
  (∀ (a : Fin 4) (s : State), (s.usable a = true) →
   Completes (.copyCatchup a) s fun t => t.plc.copyState = actPut s.plc.copyState a true ∧ (t.plc.copies.get a).bad = false ∧ (∀ j ∈ (s.plc.copies.get a).sectors, j ∈ (t.plc.copies.get a).sectors) ∧ (∀ j ∈ s.allSectors, (s.plc.copies.get a).sectors.all (fun x => decide (x.seq < j.seq)) = true ∧ j.seq ≤ s.plc.durable ∧ 1 ≤ j.seq → j ∈ (t.plc.copies.get a).sectors) ∧ t.acts = s.acts ∧ MemorySame s t) ∧
  (∀ (s : State), (s.p1410CkptEvery ≤ s.plc.sinceCkpt ∧ s.plc.ckptRun = none) →
   Completes (.checkpoint) s fun t => t = s.onPlc fun p => { p with sinceCkpt := 0, ckptRun := some { seq := p.ckptSeq + 1, jseq := p.seq, bands := p.bands, extents := p.extents, gen := max p.gen p.genFloor, groups := p.groups, nss := p.nss, detention := s.recov.detention, held := p.held } }) ∧
  (∀ (k : Ckpt) (s : State), (s.plc.ckptRun = some k) →
   Completes (.checkpointDurable) s fun t => t.plc.ckptSeq = k.seq ∧ (∀ a, s.usable a = true → (t.plc.copies.get a).ckpts = lastN 2 ((s.plc.copies.get a).ckpts ++ [k])) ∧ Sent (eventMsg epPlacement 267 (k.seq % 2 ^ 32)) s t ∧ MemorySame s t)

/-- A job is started in SERVICE on a usable actuator when it is obligatory or optional work is
allowed; it is numbered on from the last and has its own count of tracks. Each track copied moves it
on; a job that must stop ends at the safe point without a change of maps; the last track ends it
with event 266, its own count and the group end of its changes. (10_placement.md) -/
def Obligations.HomeworkJobsCopyAndEnd : Prop :=
  (∀ (j : JobReq) (s : State), (s.sys.mode = .service ∧ j.code = 4 ∧ s.p1430HwEnable = true ∧ s.tt.recovery = false ∧ s.tt.protDie = false ∧ s.tt.protDiode = false ∧ s.sys.entry = none ∧ j.sector = none) →
   Completes (.homeworkJobStart j) s fun t => t = s.onPlc fun p => { p with jobId := p.jobId + 1, jobs := p.jobs ++ [{ id := p.jobId + 1, req := j, obligatory := false, gen := p.gen, track := 0, tracks := 0, bad := [], src := [], old := (s.band j.band).loc.map (fun l => { glb := j.band, loc := l, zone := (s.band j.band).zone }), geom := s.jobGeom j, cls := (s.band j.band).temp, sectors := 0, stop := false, since := s.now }] }) ∧
  (∀ (j : JobReq) (s : State), (s.sys.mode ≠ .service ∧ s.sys.mode ≠ .orientation) →
   Completes (.homeworkJobStart j) s fun t => t = s) ∧
  (∀ (j : Job) (bad : List Nat) (s : State), (s.plc.jobs = [j] ∧ s.jobStops j = false ∧ j.track + 1 < j.tracks) →
   Completes (.homeworkTrackStep j.id bad) s fun t => t.plc.jobs = [{ j with track := j.track + 1, bad := j.bad ++ bad }] ∧ t.plc.pend = s.plc.pend ∧ t.plc.bands = s.plc.bands ∧ t.acts = s.acts ∧ MemorySame s t) ∧
  (∀ (j : Job) (bad : List Nat) (s : State), (s.plc.jobs = [j] ∧ s.jobStops j = true) →
   Completes (.homeworkTrackStep j.id bad) s fun t => t.plc.jobs = [] ∧ t.plc.pend = s.plc.pend ∧ t.plc.extents = s.plc.extents ∧ t.acts = s.acts ∧ MemorySame s t) ∧
  (∀ (j : Job) (bad : List Nat) (s : State), (s.plc.jobs = [j] ∧ s.jobStops j = false ∧ j.tracks ≤ j.track + 1 ∧ j.req.code = 4 ∧ s.plc.held = []) →
   Completes (.homeworkTrackStep j.id bad) s fun t => t.plc.jobs = [] ∧ t.plc.pend.getLast? = some (.groupEnd 0) ∧ t.odNat 0x14300A 0 = s.odNat 0x14300A 0 + 1 ∧ Sent (eventMsg epPlacement 266 (4 * 2 ^ 28 + j.req.act.val * 2 ^ 24 + j.req.band % 2 ^ 19)) s t ∧ t.acts = s.acts ∧ MemorySame s t)

/-- At a boundary the operations that have ended leave the budget, the boundary is the last multiple
of the period length and what blocks the rails is forgotten. A boundary at which an admitted command
is late enters recovery with event 272, counted in OD 0x1850.07. A candidate on a free actuator
whose one plan passes the peak and average tests is admitted with that plan's currents; one that
does not pass is not, and charges nothing. A command past its deadline is late, and changes in
nothing else. Obligatory work past its deadline raises fault 150 with its kind once.
(11_timetable.md) -/
def Obligations.TimetablePeriodsAndAdmission : Prop :=
  (∀ (s : State), (s.ttRuns = true ∧ s.boundaryDue = true ∧ s.sys.entry = none ∧ s.sys.shutStage = none ∧ s.tt.recovery = false ∧ s.lateAdmitted = 0) →
   Completes (.periodBoundary ({ cands := [], ended := [], spindle := 0, vcm := [] } : BoundaryInputs)) s fun t => t.tt.admitted = s.tt.admitted.filter (fun x => !x.ended) ∧ t.tt.boundary.toNat % (t.tt.periodUs * usTicks) = 0 ∧ t.tt.queue = [] ∧ t.tt.block12 = false ∧ t.tt.block5 = false ∧ t.tt.recovery = false ∧ t.tt.utilNow = (s.tt.utilNow.1, s.tt.utilNow.2 + 1) ∧ t.acts = s.acts ∧ MemorySame s t) ∧
  (∀ (x : Admitted) (k : Cmd) (s : State), (s.ttRuns = true ∧ s.boundaryDue = true ∧ s.sys.entry = none ∧ s.sys.shutStage = none ∧ s.tt.recovery = false ∧ s.tt.admitted = [x] ∧ x.ended = false ∧ s.nvme.cmds = [k] ∧ x.cmd = some k.n ∧ k.lateSeen = true) →
   Completes (.periodBoundary ({ cands := [], ended := [], spindle := 0, vcm := [] } : BoundaryInputs)) s fun t => t.tt.recovery = true ∧ t.tt.recoverySince = s.now ∧ Sent (eventMsg epTimetable 272 1) s t ∧ t.odNat 0x185007 0 = s.odNat 0x185007 0 + 1 ∧ t.acts = s.acts ∧ MemorySame s t) ∧
  (∀ (a : Fin 4) (c : Cand) (p : Plan) (s : State), (s.ttRuns = true ∧ c.act = a ∧ c.seek = false ∧ c.plans = [p] ∧ c.kind = .optional false ∧ s.candAllowed c = true ∧ s.tt.admitted = [] ∧ s.tt.alone = none ∧ s.tt.block12 = false ∧ s.tt.block5 = false ∧ s.passes a (slotOf s.ticks) false p = true) →
   Completes (.actuatorFreeAdmission a { cands := [c], ended := [], spindle := 0, vcm := [] }) s fun t => t = s.onTt fun v => { v with queue := [], admitted := [{ id := c.id, act := a, cmd := none, kind := none, cls := p.cls, seek := false, start := slotOf s.ticks, mA12 := s.plan12 a p, mA5 := s.plan5 p, raw := s.seekCharge p, ended := false }] }) ∧
  (∀ (a : Fin 4) (c : Cand) (p : Plan) (s : State), (s.ttRuns = true ∧ c.act = a ∧ c.seek = false ∧ c.plans = [p] ∧ c.kind = .optional false ∧ s.passes a (slotOf s.ticks) false p = false ∧ s.tooBig c = false) →
   Completes (.actuatorFreeAdmission a { cands := [c], ended := [], spindle := 0, vcm := [] }) s fun t => t.tt.admitted = s.tt.admitted ∧ (s.tt.admitted.any (fun x => x.id == c.id && !x.ended) = false → t.tt.queue = [c]) ∧ t.tt.seekAt = s.tt.seekAt ∧ t.fab = s.fab ∧ t.acts = s.acts) ∧
  (∀ (n : Nat) (k : Cmd) (s : State), (s.nvme.cmds = [k] ∧ k.n = n ∧ k.due.toNat ≤ s.ticks) →
   Completes (.commandDeadline n) s fun t => t.nvme.cmds = [{ k with lateSeen := true }] ∧ t.fab = s.fab ∧ t.tt = s.tt ∧ t.acts = s.acts) ∧
  (∀ (o : Oblig) (s : State), (s.tt.oblig = [o] ∧ o.missed = false ∧ o.due.toNat ≤ s.ticks) →
   Completes (.obligatoryDeadlineMiss o.job) s fun t => t.tt.oblig = [{ o with missed := true }] ∧ SentOnly [faultMsg epTimetable 150 o.kind (s.localTime epTimetable)] s t ∧ t.acts = s.acts)

/-- A polled temperature of a usable actuator's head is kept, and at its limit protection of that
head starts with event 277. With die protection in force a Cruise decision goes to the lowest Cruise
speed with event 274, rule 1. Outside SERVICE a Cruise decision sends nothing. The second pool half,
idle, begins to switch off; a replay that waits switches it on. A request with a duration sets REQ,
and one with SAFETY becomes obligatory work with its deadline; a duration of zero is refused with
CONFLICT. A withdrawn request is forgotten. On an idle, safe actuator with nothing waiting, a
request is granted: REQ clears, ACTIVE is set with the duration, bounded by OD 0x1860 CAL_MAX, and
event 279 tells it. DONE or the end of the time clears ACTIVE with event 279 and bit 31.
(11_timetable.md) -/
def Obligations.TimetableHeatCruisePoolAndCalibration : Prop :=
  (∀ (a : Fin 4) (h : BitVec 5) (v : Int) (s : State), (s.usable a = true ∧ Tab.get? s.tt.polledAt (32 * a.val + h.toNat) = none ∧ s.tt.protHeads = [] ∧ v < 8 * s.p1840HeadLimit) →
   Completes (.headTempPoll a h v) s fun t => Tab.get? t.tt.headT (32 * a.val + h.toNat) = some v ∧ t.tt.protHeads = [] ∧ t.acts = s.acts ∧ MemorySame s t) ∧
  (∀ (a : Fin 4) (h : BitVec 5) (v : Int) (s : State), (s.usable a = true ∧ Tab.get? s.tt.polledAt (32 * a.val + h.toNat) = none ∧ s.tt.protHeads = [] ∧ 8 * s.p1840HeadLimit ≤ v) →
   Completes (.headTempPoll a h v) s fun t => Tab.get? t.tt.headT (32 * a.val + h.toNat) = some v ∧ t.tt.protHeads = [(a, h)] ∧ Sent (eventMsg epTimetable 277 (2 + h.toNat * 256)) s t ∧ t.acts = s.acts ∧ MemorySame s t) ∧
  (∀ (s : State), (s.sys.mode = .service ∧ secTicks ≤ s.since s.tt.secondAt ∧ s.p2040CruiseEnable = true ∧ s.sys.entry = none ∧ s.sys.shutStage = none ∧ s.tt.decidedAt = none ∧ s.tt.protDie = true ∧ s.tt.recovery = false ∧ s.recov.ladders = [] ∧ s.spn.cruise = false ∧ s.p2040CruiseMin ≤ s.p2010RatedRpm) →
   Completes (.cruiseDecision) s fun t => t.tt.cruise = some s.p2040CruiseMin ∧ t.tt.decidedAt = some s.now ∧ Sent (eventMsg epTimetable 274 (16 * s.p2040CruiseMin + 2 ^ 29)) s t ∧ t.acts = s.acts ∧ MemorySame s t) ∧
  (∀ (s : State), (s.sys.mode ≠ .service ∧ secTicks ≤ s.since s.tt.secondAt) →
   Completes (.cruiseDecision) s fun t => t.fab = s.fab ∧ t.spn = s.spn ∧ t.tt.cruise = s.tt.cruise ∧ t.tt.utilNow = (0, 0)) ∧
  (∀ (s : State), (s.ttRuns = true ∧ (s.dom 29).state = .on ∧ s.upperBusy = false ∧ (s.dom 28).state = .on ∧ s.p1800PoolIdleMs ≤ s.msSince s.tt.grantAt) →
   Completes (.poolIdleTimeout) s fun t => (t.dom 29).state = .draining ∧ (∀ d, d ≠ 29 → t.dom d = s.dom d) ∧ t.fab = s.fab ∧ t.acts = s.acts) ∧
  (∀ (s : State), (s.replayRequests.any (fun r => decide (200 * usTicks ≤ s.since r.2.2.since)) = true ∧ s.ttRuns = true ∧ s.tt.protDie = false ∧ s.pwr.hwWarn = false ∧ (s.dom 29).state = .off ∧ (s.dom 29).suspended = false ∧ s.domPresent 29 = true ∧ (s.dom 6).state = .on) →
   Completes (.poolReplayWait) s fun t => (t.dom 29).state = .switchingOn ∧ (∀ d, d ≠ 29 → t.dom d = s.dom d) ∧ SentOnly [eventMsg epTimetable 17 29] s t ∧ t.acts = s.acts) ∧
  (∀ (a : Fin 4) (v : BitVec 32) (s : State), (s.domOn (20 + a.val) = true ∧ v.extractLsb' 0 16 ≠ 0 ∧ v.getLsbD 29 = true) →
   Completes (.calRequest a v) s fun t => (t.act a).isl.cal.req = true ∧ (t.act a).isl.cal.safety = true ∧ (t.act a).isl.cal.duration = v.extractLsb' 0 16 ∧ (t.act a).isl.cal.deadline = v.extractLsb' 16 13 ∧ t.tt.oblig = s.tt.oblig ++ [{ kind := 4, job := a.val, act := some a, due := s.inTicks (fld v.toNat 16 13 * msTicks), missed := false }] ∧ (∀ b, b ≠ a → t.act b = s.act b) ∧ t.fab = s.fab) ∧
  (∀ (a : Fin 4) (v : BitVec 32) (s : State), (s.domOn (20 + a.val) = true ∧ v.extractLsb' 0 16 = 0) →
   Completes (.calRequest a v) s fun t => (t.act a).isl.cal.req = (s.act a).isl.cal.req ∧ (t.act a).isl.cal.conflict = true ∧ ActuatorOnly a s t ∧ t.fab = s.fab) ∧
  (∀ (a : Fin 4) (s : State), ((s.act a).isl.cal.req = true) →
   Completes (.calWithdraw a) s fun t => (t.act a).isl.cal.req = false ∧ t.tt.oblig = s.tt.oblig.filter (fun o => !(o.kind == 4 && o.job == a.val)) ∧ (∀ b, b ≠ a → t.act b = s.act b) ∧ t.fab = s.fab) ∧
  (∀ (a : Fin 4) (s : State), ((s.act a).isl.cal.req = true ∧ (s.act a).isl.cal.active = false ∧ s.ttRuns = true ∧ s.actBusy a = false ∧ s.unsafeAct a = false ∧ s.foreWaits a = false ∧ s.tt.recovery = false ∧ s.tt.protDie = false ∧ s.tt.protDiode = false ∧ s.tt.protHeads = [] ∧ (s.act a).isl.cal.duration.toNat ≤ 100 * s.p1860CalMaxMs) →
   Completes (.calGrantStart a) s fun t => (t.act a).isl.cal.req = false ∧ (t.act a).isl.cal.active = true ∧ t.calLeft a = (s.act a).isl.cal.duration.toNat ∧ SentOnly [eventMsg epTimetable 279 ((s.act a).isl.cal.duration.toNat + a.val * 2 ^ 24)] s t ∧ (∀ b, b ≠ a → t.act b = s.act b)) ∧
  (∀ (a : Fin 4) (s : State), ((s.act a).isl.cal.active = true) →
   Completes (.calGrantDone a) s fun t => (t.act a).isl.cal.active = false ∧ t.calLeft a = 0 ∧ SentOnly [eventMsg epTimetable 279 ((s.act a).isl.cal.given.toNat + a.val * 2 ^ 24 + 2 ^ 31)] s t ∧ ActuatorOnly a s t) ∧
  (∀ (a : Fin 4) (s : State), ((s.act a).isl.cal.active = true ∧ s.calLeft a = 0) →
   Completes (.calGrantExpiry a) s fun t => (t.act a).isl.cal.active = false ∧ t.calLeft a = 0 ∧ SentOnly [eventMsg epTimetable 279 ((s.act a).isl.cal.given.toNat + a.val * 2 ^ 24 + 2 ^ 31)] s t ∧ ActuatorOnly a s t)

/-- A fetched Create takes a free queue identifier within the queues granted, a size of 2 to 4,096
and contiguous memory; a size outside gives Invalid Queue Size. Delete removes the queue; a
completion queue in use stays. Identify and Get Log Page send their data and complete; an
unsupported log gives Invalid Log Page. Abort completes with Dword 0 of 1 and withdraws nothing; a
fifth gives Abort Command Limit Exceeded. An asynchronous event request waits, or completes with an
event that waits. Any other opcode gives Invalid Command Opcode. (12_host_interface.md) -/
def Obligations.AdminQueueAndDataCommands : Prop :=
  (∀ (h : NvmeHdr) (q z v : Nat) (s : State), (FetchesAdmin h s ∧ 1 ≤ q ∧ q ≤ s.queuesGranted h.ctrl true ∧ s.cq? h.ctrl q = none ∧ 2 ≤ z ∧ z ≤ 4096 ∧ v ≤ 64) →
   Completes (.createIoCq h q z v true) s fun t => Ready (s.nvme.fetched + 1) nvOk t ∧ (t.ctrl h.ctrl).cqs = (s.ctrl h.ctrl).cqs ++ [{ id := q, size := z, vector := v, tail := 0, head := 0 }] ∧ (∀ c, c ≠ h.ctrl → t.ctrl c = s.ctrl c) ∧ t.acts = s.acts ∧ t.fab = s.fab) ∧
  (∀ (h : NvmeHdr) (q z c p : Nat) (s : State), (FetchesAdmin h s ∧ 1 ≤ q ∧ q ≤ s.queuesGranted h.ctrl false ∧ s.sq? h.ctrl q = none ∧ 2 ≤ z ∧ z ≤ 4096 ∧ 1 ≤ c ∧ (s.cq? h.ctrl c).isSome = true) →
   Completes (.createIoSq h q z c p true) s fun t => Ready (s.nvme.fetched + 1) nvOk t ∧ (t.sq? h.ctrl q) = some { id := q, size := z, cqid := c, prio := BitVec.ofNat 2 p, tail := 0, head := 0 } ∧ (t.ctrl h.ctrl).cqs = (s.ctrl h.ctrl).cqs ∧ (∀ c, c ≠ h.ctrl → t.ctrl c = s.ctrl c) ∧ t.acts = s.acts ∧ t.fab = s.fab) ∧
  (∀ (h : NvmeHdr) (q z c p : Nat) (s : State), (FetchesAdmin h s ∧ 1 ≤ q ∧ q ≤ s.queuesGranted h.ctrl false ∧ s.sq? h.ctrl q = none ∧ (z < 2 ∨ 4096 < z)) →
   Completes (.createIoSq h q z c p true) s fun t => Ready (s.nvme.fetched + 1) (nvDnr .invalidQueueSize) t ∧ t.sq? h.ctrl q = none) ∧
  (∀ (h : NvmeHdr) (q : Nat) (s : State), (FetchesAdmin h s ∧ 1 ≤ q ∧ (s.sq? h.ctrl q).isSome = true) →
   Completes (.deleteIoSq h q) s fun t => t.sq? h.ctrl q = none ∧ (∀ k ∈ t.nvme.cmds, ¬ (k.ctrl = h.ctrl ∧ k.sqid = q)) ∧ Sent (eventMsg (epHost h.ctrl) 49 (s.nvme.cmds.countP fun k => decide (k.ctrl = h.ctrl) && k.sqid == q)) s t) ∧
  (∀ (h : NvmeHdr) (q : Nat) (s : State), (FetchesAdmin h s ∧ 1 ≤ q ∧ (s.cq? h.ctrl q).isSome = true ∧ (s.ctrl h.ctrl).sqs.all (fun x => x.cqid != q) = true) →
   Completes (.deleteIoCq h q) s fun t => Ready (s.nvme.fetched + 1) nvOk t ∧ t.cq? h.ctrl q = none ∧ (∀ c, c ≠ h.ctrl → t.ctrl c = s.ctrl c) ∧ t.acts = s.acts ∧ t.fab = s.fab) ∧
  (∀ (h : NvmeHdr) (q : Nat) (s : State), (FetchesAdmin h s ∧ 1 ≤ q ∧ (s.cq? h.ctrl q).isSome = true ∧ (s.ctrl h.ctrl).sqs.any (fun x => x.cqid == q) = true) →
   Completes (.deleteIoCq h q) s fun t => Ready (s.nvme.fetched + 1) (nvDnr .invalidQueueDeletion) t ∧ (t.ctrl h.ctrl).cqs = (s.ctrl h.ctrl).cqs) ∧
  (∀ (h : NvmeHdr) (x : Ns) (s : State), (FetchesAdmin h s ∧ s.ns? 1 = some x ∧ x.attached.getLsbD h.ctrl.val = true) →
   Completes (.nvmeIdentify h 0 1) s fun t => Ready (s.nvme.fetched + 1) nvOk t ∧ t.nvme.data = s.nvme.data ++ [{ ctrl := h.ctrl, cid := h.cid, opcode := 6, lid := 0, bytes := idNs x }] ∧ t.acts = s.acts ∧ t.fab = s.fab) ∧
  (∀ (h : NvmeHdr) (nsid off len : Nat) (rae : Bool) (s : State), (FetchesAdmin h s) →
   Completes (.getLogPage h 0x06 nsid off len rae false) s fun t => Ready (s.nvme.fetched + 1) (nvDnr .invalidLog) t ∧ t.nvme.data = s.nvme.data ∧ t.acts = s.acts ∧ t.fab = s.fab) ∧
  (∀ (h : NvmeHdr) (nsid len : Nat) (rae : Bool) (s : State), (FetchesAdmin h s) →
   Completes (.getLogPage h 0x03 nsid 0 len rae false) s fun t => Ready (s.nvme.fetched + 1) nvOk t ∧ (∃ d, t.nvme.data = s.nvme.data ++ [d] ∧ d.cid = h.cid ∧ d.lid = 3 ∧ d.bytes.length ≤ len) ∧ t.acts = s.acts ∧ t.fab = s.fab) ∧
  (∀ (h : NvmeHdr) (q i : Nat) (s : State), (FetchesAdmin h s ∧ s.outstanding h.ctrl 8 (s.nvme.fetched + 1) < 4) →
   Completes (.abort h q i) s fun t => Ready (s.nvme.fetched + 1) nvOk t ∧ ((t.cmd? (s.nvme.fetched + 1)).map fun k => k.dw0) = some 1 ∧ (∀ k ∈ s.nvme.cmds, k ∈ t.nvme.cmds) ∧ t.acts = s.acts ∧ t.fab = s.fab) ∧
  (∀ (h : NvmeHdr) (q i : Nat) (s : State), (FetchesAdmin h s ∧ 4 ≤ s.outstanding h.ctrl 8 (s.nvme.fetched + 1)) →
   Completes (.abort h q i) s fun t => Ready (s.nvme.fetched + 1) (nvDnr .abortLimit) t ∧ (∀ k ∈ s.nvme.cmds, k ∈ t.nvme.cmds)) ∧
  (∀ (h : NvmeHdr) (s : State), (FetchesAdmin h s ∧ s.outstanding h.ctrl 12 (s.nvme.fetched + 1) < 4 ∧ s.nvme.aens = []) →
   Completes (.asyncEventRequest h) s fun t => ((t.cmd? (s.nvme.fetched + 1)).map fun k => k.need) = some .aer ∧ t.acts = s.acts ∧ t.fab = s.fab) ∧
  (∀ (h : NvmeHdr) (e : Aen) (s : State), (FetchesAdmin h s ∧ s.outstanding h.ctrl 12 (s.nvme.fetched + 1) < 4 ∧ s.nvme.aens = [e] ∧ e.ctrl = h.ctrl) →
   Completes (.asyncEventRequest h) s fun t => Ready (s.nvme.fetched + 1) nvOk t ∧ t.nvme.aens = [] ∧ t.acts = s.acts ∧ t.fab = s.fab) ∧
  (∀ (h : NvmeHdr) (op : BitVec 8) (s : State), (FetchesAdmin h s) →
   Completes (.unsupportedCommand h op) s fun t => Ready (s.nvme.fetched + 1) (nvDnr .invalidOpcode) t ∧ t.acts = s.acts ∧ t.fab = s.fab) ∧
  (∀ (h : NvmeHdr) (op : BitVec 8) (s : State), (FetchesIo h s) →
   Completes (.unsupportedCommand h op) s fun t => Ready (s.nvme.fetched + 1) (nvDnr .invalidOpcode) t ∧ t.acts = s.acts ∧ t.fab = s.fab)

/-- Set Features of the write cache sets OD 0x1011.01, of power management the power state with
event 46 and the mode it asks for; an unknown feature gives Invalid Field, and SV on one that cannot
be saved gives Feature Not Saveable. Get Features of power management answers the power state. An
autonomous transition requests its state as Set Features does. A download of whole 4 KiB pieces
grows the image; a Commit that stores it writes the slot with events 39 and 40. Once every fetched
command has completed an activation runs the slot with event 42; a drain that takes too long ends it
with event 43, to run from the next reset, and an overrun raises fault 53. (12_host_interface.md) -/
def Obligations.FeaturesPowerStatesAndFirmware : Prop :=
  (∀ (h : NvmeHdr) (d12 : BitVec 32) (v : Bool) (nsid : Nat) (s : State), (FetchesAdmin h s) →
   Completes (.setFeatures h 0x06 false nsid (if v then 1 else 0) d12 []) s fun t => Ready (s.nvme.fetched + 1) nvOk t ∧ t.p1011WriteCache = v ∧ (∀ k, k ≠ 0x101101 → Tab.get? t.dict.od k = Tab.get? s.dict.od k) ∧ t.acts = s.acts ∧ t.fab = s.fab) ∧
  (∀ (h : NvmeHdr) (d12 : BitVec 32) (ps : Fin 4) (nsid : Nat) (s : State), (FetchesAdmin h s) →
   Completes (.setFeatures h 0x02 false nsid (BitVec.ofNat 32 ps.val) d12 []) s fun t => Ready (s.nvme.fetched + 1) nvOk t ∧ t.nvme.powerState.toNat = ps.val ∧ t.sys.hostTarget = (if ps = 2 then .recess else if ps = 3 then .dormant else .service) ∧ SentOnly [eventMsg (epHost h.ctrl) 46 ps.val] s t ∧ t.acts = s.acts) ∧
  (∀ (h : NvmeHdr) (f : BitVec 8) (d11 d12 : BitVec 32) (sv : Bool) (nsid : Nat) (s : State), (FetchesAdmin h s ∧ featIds.contains f.toNat = false) →
   Completes (.setFeatures h f sv nsid d11 d12 []) s fun t => Ready (s.nvme.fetched + 1) (nvDnr .invalidField) t ∧ t.dict = s.dict ∧ t.acts = s.acts ∧ t.fab = s.fab) ∧
  (∀ (h : NvmeHdr) (d11 d12 : BitVec 32) (nsid : Nat) (s : State), (FetchesAdmin h s) →
   Completes (.setFeatures h 0x02 true nsid d11 d12 []) s fun t => Ready (s.nvme.fetched + 1) (nvDnr .notSaveable) t ∧ t.nvme.powerState = s.nvme.powerState ∧ t.fab = s.fab) ∧
  (∀ (h : NvmeHdr) (d11 : BitVec 32) (nsid : Nat) (s : State), (FetchesAdmin h s) →
   Completes (.getFeatures h 0x02 nsid d11) s fun t => Ready (s.nvme.fetched + 1) nvOk t ∧ ((t.cmd? (s.nvme.fetched + 1)).map fun k => k.dw0.toNat) = some s.nvme.powerState.toNat ∧ t.nvme.data = s.nvme.data ∧ t.acts = s.acts ∧ t.fab = s.fab) ∧
  (∀ (c : Fin 2) (ps : Fin 4) (s : State), (s.p1012ApstEnable = true ∧ (s.ctrl c).en = true) →
   Completes (.apstTransition c (BitVec.ofNat 5 ps.val)) s fun t => t.nvme.powerState.toNat = ps.val ∧ t.sys.hostTarget = (if ps = 2 then .recess else if ps = 3 then .dormant else .service) ∧ SentOnly [eventMsg (epHost c) 46 (ps.val + 2 ^ 31)] s t ∧ t.acts = s.acts) ∧
  (∀ (h : NvmeHdr) (off len : Nat) (g : Bool) (s : State), (FetchesAdmin h s ∧ s.nvme.activation = none ∧ s.nvme.cmds = [] ∧ s.nvme.download = none ∧ off % 4096 = 0 ∧ len % 4096 = 0 ∧ 1 ≤ len ∧ off + len ≤ 2 ^ 24) →
   Completes (.firmwareImageDownload h off len g) s fun t => Ready (s.nvme.fetched + 1) nvOk t ∧ t.nvme.download = some (off + len, g) ∧ t.acts = s.acts ∧ t.fab = s.fab) ∧
  (∀ (h : NvmeHdr) (slot : Nat) (d : Nat × Bool) (s : State), (FetchesAdmin h s ∧ s.nvme.activation = none ∧ s.nvme.cmds = [] ∧ s.nvme.download = some d ∧ (slot = 2 ∨ slot = 3)) →
   Completes (.firmwareCommit h slot 0 true) s fun t => Ready (s.nvme.fetched + 1) nvOk t ∧ Tab.get? t.nvme.slots slot = some { guests := d.2, verifies := true, rev := s.nvme.imageRev + 1 } ∧ t.nvme.download = none ∧ t.nvme.activeSlot = s.nvme.activeSlot ∧ SentOnly [eventMsg (epHost h.ctrl) 39 d.1, eventMsg (epHost h.ctrl) 40 slot] s t ∧ t.acts = s.acts) ∧
  (∀ (h : NvmeHdr) (slot : Nat) (s : State), (FetchesAdmin h s ∧ s.nvme.activation = none ∧ s.nvme.cmds = [] ∧ (slot = 2 ∨ slot = 3)) →
   Completes (.firmwareCommit h slot 0 false) s fun t => Ready (s.nvme.fetched + 1) (nvDnr .invalidImage) t ∧ t.nvme.slots = s.nvme.slots ∧ t.fab = s.fab) ∧
  (∀ (a : Activation) (k : Cmd) (s : State), (s.nvme.activation = some a ∧ a.drained.isSome = true ∧ s.nvme.cmds = [k] ∧ k.n = a.cmd) →
   Completes (.activationSwitch a.slot) s fun t => t.nvme.activation = none ∧ t.nvme.nextSlot = none ∧ (t.sys.imageSlot.map fun x => x.val) = some (a.slot % 4) ∧ Ready a.cmd nvOk t ∧ Sent (eventMsg (epHost 0) 42 (s.msSince a.since)) s t ∧ t.odNat 0x103003 0 = s.odNat 0x103003 0 + 1 ∧ t.acts = s.acts ∧ MemorySame s t) ∧
  (∀ (a : Activation) (k j : Cmd) (s : State), (s.nvme.activation = some a ∧ a.drained = none ∧ 1000 * msTicks ≤ s.since a.since ∧ s.nvme.cmds = [k, j] ∧ k.n = a.cmd ∧ j.n ≠ a.cmd ∧ j.open = true) →
   Completes (.activationDrainTimeout) s fun t => t.nvme.activation = none ∧ t.nvme.nextSlot = s.nvme.nextSlot ∧ t.sys.imageSlot = s.sys.imageSlot ∧ Ready a.cmd (nvRetry .maxTime) t ∧ Sent (eventMsg (epHost 0) 43 1) s t ∧ t.acts = s.acts ∧ MemorySame s t) ∧
  (∀ (b : BitVec 64) (s : State), ((s.nvme.activation.bind fun a => a.drained) = some b ∧ 800 * msTicks < s.since b) →
   Completes (.activationOverrun) s fun t => SentOnly [faultMsg (epHost 0) 53 0 (s.localTime (epHost 0))] s t ∧ t.nvme = s.nvme ∧ t.acts = s.acts)

/-- In tier A a creation that the checks pass takes the lowest free NSID and bands, answers the
NSID, sends event 44 and completes once its group is durable. Deletion removes the namespace with
event 45. Attachment adds its controllers to the mask. In another tier these opcodes give Invalid
Command Opcode. A plain Format of a namespace sets its LBA format and marks it until it completes.
Sanitize with crypto erase begins an erase of every namespace; its action 1 completes at once.
(10_placement.md; 12_host_interface.md; 14_cipher.md) -/
def Obligations.NamespacesFormatAndSanitize : Prop :=
  (∀ (h : NvmeHdr) (sh : Bool) (s : State), (FetchesAdmin h s ∧ s.ident.tier = .a ∧ s.plc.nss = [] ∧ s.plc.pend = [] ∧ s.plc.commit = none ∧ s.notYet = false ∧ s.sys.mode = .service ∧ s.nvme.sanitize = false ∧ s.nvme.format = [] ∧ s.freeBands 1 = [0]) →
   Completes (.namespaceManagement h true 0 65536 65536 1 sh) s fun t => t.plc.nss = [{ nsid := 1, blocks := 65536, lbaf := 1, bands := [0], attached := 0, shared := sh, settled := false }] ∧ ((t.cmd? (s.nvme.fetched + 1)).map fun k => (k.need, k.dw0)) = some (.group, 1) ∧ Sent (eventMsg (epHost 0) 44 1) s t ∧ t.acts = s.acts ∧ MemorySame s t) ∧
  (∀ (h : NvmeHdr) (n z : Nat) (c sh : Bool) (s : State), (FetchesAdmin h s ∧ s.ident.tier ≠ .a ∧ s.plc.nss = [] ∧ s.plc.pend = [] ∧ s.plc.commit = none) →
   Completes (.namespaceManagement h c n z z 1 sh) s fun t => Ready (s.nvme.fetched + 1) (nvDnr .invalidOpcode) t ∧ t.plc.nss = [] ∧ t.fab = s.fab) ∧
  (∀ (h : NvmeHdr) (x : Ns) (s : State), (FetchesAdmin h s ∧ s.ident.tier = .a ∧ s.plc.nss = [x] ∧ x.nsid = 1 ∧ s.plc.pend = [] ∧ s.plc.commit = none ∧ s.plc.chunks = [] ∧ s.buf.pages = [] ∧ s.nvme.cmds = [] ∧ s.notYet = false ∧ s.sys.mode = .service ∧ s.nvme.sanitize = false ∧ s.nvme.format = []) →
   Completes (.namespaceManagement h false 1 0 0 0 false) s fun t => t.plc.nss = [] ∧ ((t.cmd? (s.nvme.fetched + 1)).map fun k => k.need) = some .group ∧ Sent (eventMsg (epHost 0) 45 1) s t ∧ t.acts = s.acts ∧ MemorySame s t) ∧
  (∀ (h : NvmeHdr) (x : Ns) (s : State), (FetchesAdmin h s ∧ s.ident.tier = .a ∧ s.twoPorts = true ∧ s.plc.nss = [x] ∧ x.nsid = 1 ∧ x.attached = 1 ∧ x.shared = true ∧ s.plc.pend = [] ∧ s.plc.commit = none ∧ s.notYet = false ∧ s.sys.mode = .service ∧ s.nvme.sanitize = false ∧ s.nvme.format = []) →
   Completes (.namespaceAttachment h true 1 2) s fun t => t.plc.nss = [{ x with attached := 3 }] ∧ ((t.cmd? (s.nvme.fetched + 1)).map fun k => k.need) = some .group ∧ Sent (eventMsg (epHost 0) 44 1) s t ∧ t.acts = s.acts ∧ MemorySame s t) ∧
  (∀ (h : NvmeHdr) (x : Ns) (s : State), (FetchesAdmin h s ∧ s.plc.nss = [x] ∧ x.nsid = 1 ∧ x.lbaf = 1 ∧ s.buf.pages = [] ∧ s.plc.chunks = [] ∧ s.nvme.cmds = [] ∧ s.notYet = false ∧ s.sys.mode = .service ∧ s.nvme.sanitize = false ∧ s.nvme.format = [] ∧ s.nvme.activation = none ∧ s.nvme.nextSlot = none) →
   Completes (.formatNvm h 1 0 0) s fun t => (t.plc.nss.map fun y => (y.nsid, y.lbaf, y.blocks)) = [(1, 0, 8 * x.blocks)] ∧ t.nvme.format = [1] ∧ ((t.cmd? (s.nvme.fetched + 1)).map fun k => k.need) = some .group ∧ t.acts = s.acts ∧ MemorySame s t) ∧
  (∀ (h : NvmeHdr) (s : State), (FetchesAdmin h s ∧ s.hasCipher = true ∧ s.notYet = false ∧ s.sys.mode = .service ∧ s.nvme.activation = none ∧ s.nvme.nextSlot = none ∧ s.nvme.sanitize = false ∧ s.nvme.format = [] ∧ s.ciph.erase = none) →
   Completes (.sanitize h 4) s fun t => (t.ciph.erase.map fun e => (e.sanitize, e.step, e.cmd)) = some (true, 1, some (s.nvme.fetched + 1)) ∧ t.nvme.sanitize = true ∧ ((t.cmd? (s.nvme.fetched + 1)).map fun k => k.need) = some .erase ∧ t.acts = s.acts ∧ MemorySame s t) ∧
  (∀ (h : NvmeHdr) (s : State), (FetchesAdmin h s ∧ s.hasCipher = true ∧ s.notYet = false ∧ s.sys.mode = .service ∧ s.nvme.activation = none ∧ s.nvme.nextSlot = none) →
   Completes (.sanitize h 1) s fun t => Ready (s.nvme.fetched + 1) nvOk t ∧ t.ciph = s.ciph ∧ t.nvme.sanitize = s.nvme.sanitize ∧ t.acts = s.acts ∧ t.fab = s.fab)

/-- A fetched read or Verify that no check refuses waits for its units on the media, at the places
the maps give at fetch, and completes at once when all its units are zeros. A write with the cache
on makes its unit's page dirty under a new generation and completes at once; with FUA it waits for
the media. A Flush with nothing to wait for completes at once. Write Zeroes and a deallocation enter
a deallocated extent for the whole units in one group and wait for it. A block range past the
namespace gives LBA Out of Range. FDP management commands complete without further effect.
(10_placement.md; 12_host_interface.md; 13_buffer_memory.md) -/
def Obligations.IoCommandsOnBlocks : Prop :=
  (∀ (h : NvmeHdr) (r : IoRange) (lr : Bool) (x : Ns) (g : Nat) (l : Loc) (sec : Nat) (z : BitVec 6) (tag : BitVec 64) (s : State), (FetchesIo h s ∧ s.sys.mode = .service ∧ NoneRefuse (s.blockChecks h.ctrl r false true) ∧ s.ns? r.nsid = some x ∧ nsUnits x r.lba r.nlb = [g] ∧ s.resolve g = .media l sec z tag ∧ s.unsafeAct l.act = false) →
   Completes (.nvmeRead h r lr) s fun t => ((t.cmd? (s.nvme.fetched + 1)).map fun k => (k.need, k.status)) = some (.media 1, nvOk) ∧ ((t.cmd? (s.nvme.fetched + 1)).map fun k => (k.places, k.limitedRetry)) = some ([{ unit := g, loc := l, sector := sec, tag := tag }], lr) ∧ t.acts = s.acts ∧ t.plc = s.plc ∧ MemorySame s t) ∧
  (∀ (h : NvmeHdr) (r : IoRange) (lr : Bool) (x : Ns) (g : Nat) (s : State), (FetchesIo h s ∧ s.sys.mode = .service ∧ NoneRefuse (s.blockChecks h.ctrl r false true) ∧ s.ns? r.nsid = some x ∧ nsUnits x r.lba r.nlb = [g] ∧ s.resolve g = .zeros) →
   Completes (.nvmeRead h r lr) s fun t => Ready (s.nvme.fetched + 1) nvOk t ∧ t.acts = s.acts ∧ t.plc = s.plc ∧ t.fab = s.fab) ∧
  (∀ (h : NvmeHdr) (r : IoRange) (lr : Bool) (x : Ns) (g : Nat) (l : Loc) (sec : Nat) (z : BitVec 6) (tag : BitVec 64) (s : State), (FetchesIo h s ∧ s.sys.mode = .service ∧ NoneRefuse (s.blockChecks h.ctrl r false false) ∧ s.ns? r.nsid = some x ∧ nsUnits x r.lba r.nlb = [g] ∧ s.resolve g = .media l sec z tag ∧ s.unsafeAct l.act = false) →
   Completes (.verify h r lr) s fun t => ((t.cmd? (s.nvme.fetched + 1)).map fun k => (k.need, k.status)) = some (.media 1, nvOk) ∧ t.acts = s.acts ∧ t.plc = s.plc ∧ MemorySame s t) ∧
  (∀ (h : NvmeHdr) (r : IoRange) (lr : Bool) (x : Ns) (s : State), (FetchesIo h s ∧ s.sys.mode = .service ∧ s.plc.nss = [x] ∧ r.nsid = x.nsid ∧ x.attached.getLsbD h.ctrl.val = true ∧ s.nvme.sanitize = false ∧ s.nvme.format = [] ∧ 1 ≤ r.nlb ∧ r.nlb * x.blockBytes ≤ 2 ^ 20 ∧ x.blocks < r.lba + r.nlb) →
   Completes (.nvmeRead h r lr) s fun t => Ready (s.nvme.fetched + 1) (nvDnr .lbaRange) t ∧ t.acts = s.acts ∧ t.fab = s.fab) ∧
  (∀ (h : NvmeHdr) (r : IoRange) (x : Ns) (g : Nat) (s : State), (FetchesIo h s ∧ s.buf.stopped = false ∧ s.p1011WriteCache = true ∧ NoneRefuse (s.blockChecks h.ctrl r true true) ∧ s.ns? r.nsid = some x ∧ nsUnits x r.lba r.nlb = [g]) →
   Completes (.nvmeWrite h r false 0 0) s fun t => Ready (s.nvme.fetched + 1) nvOk t ∧ ((t.buf.pages.getLast?).map fun p => (p.unit, p.state, p.gen)) = some (g, .dirty, s.plc.gen + 1) ∧ ((t.buf.pages.getLast?).map fun p => p.cids.contains (s.nvme.fetched + 1)) = some true ∧ t.nvme.hostBytes = s.nvme.hostBytes + r.nlb * x.blockBytes ∧ t.plc.extents = s.plc.extents ∧ t.acts = s.acts ∧ MemorySame s t) ∧
  (∀ (h : NvmeHdr) (r : IoRange) (x : Ns) (g : Nat) (s : State), (FetchesIo h s ∧ s.buf.stopped = false ∧ s.cruiseHold = false ∧ NoneRefuse (s.blockChecks h.ctrl r true true) ∧ s.ns? r.nsid = some x ∧ nsUnits x r.lba r.nlb = [g]) →
   Completes (.nvmeWrite h r true 0 0) s fun t => ((t.cmd? (s.nvme.fetched + 1)).map fun k => (k.need, k.fua)) = some (.data, true) ∧ ((t.buf.pages.getLast?).map fun p => (p.unit, p.state)) = some (g, .dirty) ∧ t.acts = s.acts ∧ MemorySame s t) ∧
  (∀ (h : NvmeHdr) (s : State), (FetchesIo h s ∧ s.notYet = false ∧ s.flushList = []) →
   Completes (.nvmeFlush h 0xFFFFFFFF) s fun t => Ready (s.nvme.fetched + 1) nvOk t ∧ t.acts = s.acts ∧ t.plc = s.plc ∧ t.fab = s.fab) ∧
  (∀ (h : NvmeHdr) (n : Nat) (s : State), (FetchesIo h s ∧ s.sys.mode = .service ∧ s.flushList = [n]) →
   Completes (.nvmeFlush h 0xFFFFFFFF) s fun t => ((t.cmd? (s.nvme.fetched + 1)).map fun k => k.need) = some (.flush [n]) ∧ t.acts = s.acts ∧ MemorySame s t) ∧
  (∀ (h : NvmeHdr) (r : IoRange) (x : Ns) (g : Nat) (de : Bool) (s : State), (FetchesIo h s ∧ s.buf.stopped = false ∧ NoneRefuse (s.blockChecks h.ctrl r true false) ∧ s.ns? r.nsid = some x ∧ nsUnits x r.lba r.nlb = [g] ∧ wholeUnits x r.lba r.nlb = [g] ∧ s.buf.pages = [] ∧ (∀ e ∈ s.plc.extents, e.gen ≤ s.plc.gen)) →
   Completes (.writeZeroes h r de) s fun t => ((t.cmd? (s.nvme.fetched + 1)).map fun k => k.need) = some (.flush [s.nvme.fetched + 2]) ∧ t.resolveMedia g = .zeros ∧ t.plc.pend.getLast? = some (.groupEnd (s.nvme.fetched + 2)) ∧ t.buf.pages = [] ∧ t.acts = s.acts ∧ MemorySame s t) ∧
  (∀ (h : NvmeHdr) (lba nlb : Nat) (x : Ns) (g : Nat) (s : State), (FetchesIo h s ∧ NoneRefuse (s.blockChecks h.ctrl { nsid := x.nsid, lba := lba, nlb := nlb } true false) ∧ s.plc.nss = [x] ∧ wholeUnits x lba nlb = [g] ∧ s.buf.pages = [] ∧ (∀ e ∈ s.plc.extents, e.gen ≤ s.plc.gen)) →
   Completes (.datasetManagement h x.nsid [(lba, nlb)] true) s fun t => ((t.cmd? (s.nvme.fetched + 1)).map fun k => k.need) = some .group ∧ t.resolveMedia g = .zeros ∧ t.plc.pend.getLast? = some (.groupEnd (s.nvme.fetched + 1)) ∧ t.acts = s.acts ∧ MemorySame s t) ∧
  (∀ (h : NvmeHdr) (x : Ns) (l : List (Nat × Nat)) (s : State), (FetchesIo h s ∧ s.plc.nss = [x] ∧ x.attached.getLsbD h.ctrl.val = true) →
   Completes (.datasetManagement h x.nsid l false) s fun t => Ready (s.nvme.fetched + 1) nvOk t ∧ t.plc = s.plc ∧ t.acts = s.acts ∧ t.fab = s.fab) ∧
  (∀ (h : NvmeHdr) (x : Ns) (s : State), (FetchesIo h s ∧ s.plc.nss = [x] ∧ x.attached.getLsbD h.ctrl.val = true) →
   Completes (.ioManagementReceive h x.nsid 1) s fun t => Ready (s.nvme.fetched + 1) nvOk t ∧ t.nvme.data.length = s.nvme.data.length + 1 ∧ t.plc = s.plc ∧ t.acts = s.acts ∧ t.fab = s.fab) ∧
  (∀ (h : NvmeHdr) (x : Ns) (s : State), (FetchesIo h s ∧ s.plc.nss = [x] ∧ x.attached.getLsbD h.ctrl.val = true) →
   Completes (.ioManagementSend h x.nsid 1 [0, 7]) s fun t => Ready (s.nvme.fetched + 1) nvOk t ∧ t.plc = s.plc ∧ t.acts = s.acts ∧ t.fab = s.fab)

/-- The rules are those of NVMe 2.0, which the spec names (the model's log says which it takes from
there). On an attached namespace, a host that is no registrant registers its key. A registrant with
its key acquires a free namespace; one that gives another key gets Reservation Conflict. The holder
releases it with the same type, and nobody holds it then. A report sends the data structure. Where
the reservation does not persist through power loss, each completes at once. (12_host_interface.md)
-/
def Obligations.ReservationsOfNamespaces : Prop :=
  (∀ (h : NvmeHdr) (x : Ns) (k : BitVec 64) (s : State), (FetchesIo h s ∧ s.plc.nss = [x] ∧ x.attached.getLsbD h.ctrl.val = true ∧ s.nvme.reservations = []) →
   Completes (.reservationRegister h x.nsid 0 false 0 k 0) s fun t => Ready (s.nvme.fetched + 1) nvOk t ∧ (t.resv x.nsid).registrants = [{ host := s.hostOf h.ctrl, key := k }] ∧ (t.resv x.nsid).holder = none ∧ t.plc = s.plc ∧ t.acts = s.acts ∧ t.fab = s.fab) ∧
  (∀ (h : NvmeHdr) (x : Ns) (r : Reservation) (ty : Nat) (k : BitVec 64) (s : State), (FetchesIo h s ∧ s.plc.nss = [x] ∧ x.attached.getLsbD h.ctrl.val = true ∧ s.nvme.reservations = [r] ∧ r.nsid = x.nsid ∧ r.registrants = [{ host := s.hostOf h.ctrl, key := k }] ∧ r.holder = none ∧ r.ptpl = false ∧ 1 ≤ ty ∧ ty ≤ 6) →
   Completes (.reservationAcquire h x.nsid 0 ty false k 0) s fun t => Ready (s.nvme.fetched + 1) nvOk t ∧ t.nvme.reservations = [{ r with holder := some (s.hostOf h.ctrl), rtype := ty }] ∧ t.plc = s.plc ∧ t.acts = s.acts ∧ t.fab = s.fab) ∧
  (∀ (h : NvmeHdr) (x : Ns) (r : Reservation) (ty act : Nat) (k j : BitVec 64) (s : State), (FetchesIo h s ∧ s.plc.nss = [x] ∧ x.attached.getLsbD h.ctrl.val = true ∧ s.nvme.reservations = [r] ∧ r.nsid = x.nsid ∧ r.registrants = [{ host := s.hostOf h.ctrl, key := k }] ∧ j ≠ k ∧ 1 ≤ ty ∧ ty ≤ 6 ∧ act ≤ 2) →
   Completes (.reservationAcquire h x.nsid act ty false j 0) s fun t => Ready (s.nvme.fetched + 1) (nvDnr .reservationConflict) t ∧ t.nvme.reservations = [r] ∧ t.fab = s.fab) ∧
  (∀ (h : NvmeHdr) (x : Ns) (r : Reservation) (k : BitVec 64) (s : State), (FetchesIo h s ∧ s.plc.nss = [x] ∧ x.attached.getLsbD h.ctrl.val = true ∧ s.nvme.reservations = [r] ∧ r.nsid = x.nsid ∧ r.registrants = [{ host := s.hostOf h.ctrl, key := k }] ∧ r.holder = some (s.hostOf h.ctrl) ∧ r.ptpl = false) →
   Completes (.reservationRelease h x.nsid 0 r.rtype false k) s fun t => Ready (s.nvme.fetched + 1) nvOk t ∧ t.nvme.reservations = [{ r with holder := none, rtype := 0 }] ∧ t.plc = s.plc ∧ t.acts = s.acts) ∧
  (∀ (h : NvmeHdr) (x : Ns) (s : State), (FetchesIo h s ∧ s.plc.nss = [x] ∧ x.attached.getLsbD h.ctrl.val = true) →
   Completes (.reservationReport h x.nsid) s fun t => Ready (s.nvme.fetched + 1) nvOk t ∧ t.nvme.data.length = s.nvme.data.length + 1 ∧ t.nvme.reservations = s.nvme.reservations ∧ t.plc = s.plc ∧ t.acts = s.acts ∧ t.fab = s.fab)

/-- A doorbell of a queue that exists takes a value below its size; otherwise fault 52 is raised and
no pointer moves. A command with nothing left to wait for is posted and leaves the table; with its
completion queue full, fault 54 is raised and it stays. CC.EN enables a reachable controller with
event 32 and the admin queue pair of AQA's sizes. A controller reset (event 33), a function level
reset (event 35) and a lost link (event 37, with fault 51 of an enabled controller) withdraw its
commands and reset its registers. A link trains with event 37 and bit 31. PERST# resets the host
island with event 36, and its release lets it be configured. L1.2 switches the port's domain off.
Uncorrectable PCIe errors raise fault 49. (02_modes_and_bringup.md; 10_placement.md;
12_host_interface.md) -/
def Obligations.PortsControllersAndDoorbells : Prop :=
  (∀ (c : Fin 2) (q : Sq) (tail : Nat) (s : State), (s.hostReach c = true ∧ (s.ctrl c).en = true ∧ (s.ctrl c).sqs = [q] ∧ tail < q.size) →
   Completes (.sqDoorbell c q.id tail) s fun t => (t.ctrl c).sqs = [{ q with tail := tail }] ∧ (∀ d, d ≠ c → t.ctrl d = s.ctrl d) ∧ t.fab = s.fab ∧ t.acts = s.acts) ∧
  (∀ (c : Fin 2) (q tail : Nat) (s : State), (s.hostReach c = true ∧ (s.ctrl c).en = true ∧ s.sq? c q = none) →
   Completes (.sqDoorbell c q tail) s fun t => SentOnly [faultMsg (epHost c) 52 c.val (s.localTime (epHost c))] s t ∧ t.nvme = s.nvme ∧ t.acts = s.acts) ∧
  (∀ (c : Fin 2) (q : Cq) (head : Nat) (s : State), (s.hostReach c = true ∧ (s.ctrl c).en = true ∧ (s.ctrl c).cqs = [q] ∧ head < q.size) →
   Completes (.cqDoorbell c q.id head) s fun t => (t.ctrl c).cqs = [{ q with head := head }] ∧ (∀ d, d ≠ c → t.ctrl d = s.ctrl d) ∧ t.fab = s.fab ∧ t.acts = s.acts) ∧
  (∀ (c : Fin 2) (q : Cq) (head : Nat) (s : State), (s.hostReach c = true ∧ (s.ctrl c).en = true ∧ (s.ctrl c).cqs = [q] ∧ q.size ≤ head) →
   Completes (.cqDoorbell c q.id head) s fun t => SentOnly [faultMsg (epHost c) 52 c.val (s.localTime (epHost c))] s t ∧ t.nvme = s.nvme ∧ t.acts = s.acts) ∧
  (∀ (k : Cmd) (c : Fin 2) (s : State), (s.nvme.cmds = [k] ∧ k.ctrl = c ∧ k.need = .nothing ∧ s.hostReach c = true ∧ s.cqFull k = false ∧ s.nvme.activation = none ∧ s.sys.entry = none ∧ s.sys.shutStage = none) →
   Completes (.commandCompletion k.n) s fun t => t.nvme.cmds = [] ∧ (t.nvme.posted.drop s.nvme.posted.length).map (fun e => (e.ctrl, e.cid, e.status)) = [(c, k.cid, k.status)] ∧ t.odNat 0x103001 0 = s.odNat 0x103001 0 + 1 ∧ t.acts = s.acts ∧ MemorySame s t) ∧
  (∀ (k : Cmd) (c : Fin 2) (s : State), (s.nvme.cmds = [k] ∧ k.ctrl = c ∧ k.need = .nothing ∧ s.hostReach c = true ∧ s.cqFull k = true) →
   Completes (.commandCompletion k.n) s fun t => t.nvme = s.nvme ∧ SentOnly [faultMsg (epHost c) 54 c.val (s.localTime (epHost c))] s t ∧ t.acts = s.acts) ∧
  (∀ (c : Fin 2) (x : EnableSetup) (s : State), (s.hostReach c = true ∧ (s.ctrl c).en = false ∧ c.val < s.nvme.ctrls.length ∧ s.sys.shutStage = none ∧ s.nvme.activation = none) →
   Completes (.ccEnable c x) s fun t => t.ctrl c = { s.ctrl c with en := true, rdy := true, ams := x.ams, fetchStopped := false, sqs := [{ id := 0, size := x.asqs.toNat + 1, cqid := 0, prio := 0, tail := 0, head := 0 }], cqs := [{ id := 0, size := x.acqs.toNat + 1, vector := 0, tail := 0, head := 0 }] } ∧ (∀ d, d ≠ c → t.ctrl d = s.ctrl d) ∧ SentOnly [eventMsg (epHost c) 32 c.val] s t ∧ t.acts = s.acts) ∧
  (∀ (c : Fin 2) (s : State), (s.hostReach c = true ∧ (s.ctrl c).en = true ∧ s.plc.chunks = []) →
   Completes (.controllerReset c) s fun t => t.ctrl c = { Ctrl.reset with resets := (s.ctrl c).resets + 1 } ∧ (∀ k ∈ t.nvme.cmds, k.ctrl ≠ c) ∧ (∀ k ∈ s.nvme.cmds, k.ctrl ≠ c → k ∈ t.nvme.cmds) ∧ Sent (eventMsg (epHost c) 33 c.val) s t) ∧
  (∀ (c : Fin 2) (s : State), (s.hostReach c = true ∧ c.val < s.nvme.ctrls.length ∧ s.plc.chunks = []) →
   Completes (.functionLevelReset c) s fun t => t.ctrl c = { Ctrl.reset with resets := (s.ctrl c).resets + 1 } ∧ (∀ k ∈ t.nvme.cmds, k.ctrl ≠ c) ∧ Sent (eventMsg (epHost c) 35 c.val) s t) ∧
  (∀ (p : Fin 2) (s : State), ((s.port p).up = true ∧ (s.port p).l12 = false ∧ (s.ctrl p).en = true ∧ s.plc.chunks = []) →
   Completes (.pcieLinkDown p) s fun t => (t.port p).up = false ∧ (t.port p).width = 0 ∧ t.ctrl p = { Ctrl.reset with resets := (s.ctrl p).resets + 1 } ∧ (∀ k ∈ t.nvme.cmds, k.ctrl ≠ p) ∧ Sent (eventMsg (epHost p) 37 p.val) s t ∧ Sent (faultMsg (epHost p) 51 p.val (s.localTime (epHost p))) s t) ∧
  (∀ (p : Fin 2) (w g : Nat) (s : State), (s.presentCtrls.contains p = true ∧ s.domOn (12 + p.val) = true ∧ s.ports.perst = false ∧ s.sys.powerLoss = none ∧ p.val < s.nvme.ports.length ∧ (s.port p).up = false ∧ 1 ≤ w ∧ w ≤ s.lanes ∧ g ≤ 32) →
   Completes (.pcieLinkUp p w g) s fun t => t.port p = { s.port p with up := true, width := w, gts := g, l12 := false } ∧ (∀ d, d ≠ p → t.port d = s.port d) ∧ SentOnly [eventMsg (epHost p) 37 (p.val + 2 ^ 31)] s t ∧ t.acts = s.acts) ∧
  (∀ (c : Fin 2) (s : State), (s.hostReach c = true ∧ s.sys.chipResetBy = none ∧ s.sys.mode = .service ∧ s.sys.shutStage = none) →
   Completes (.nvmSubsystemReset c 0x4E564D65) s fun t => t.sys.chipResetBy = some 0 ∧ t.sys.shutStage.isSome = true) ∧
  (∀ (c : Fin 2) (v : BitVec 32) (s : State), (v ≠ 0x4E564D65) →
   Completes (.nvmSubsystemReset c v) s fun t => t = s) ∧
  (∀ (s : State), (s.ports.perst = false ∧ s.nvme.cmds = [] ∧ s.plc.chunks = []) →
   Completes (.perstAssert) s fun t => t.ports.perst = true ∧ t.sys.hostConfigured = false ∧ t.sys.mode = s.sys.mode ∧ t.nvme.cmds = [] ∧ (∀ c, s.presentCtrls.contains c = true → (t.ctrl c).en = false ∧ (t.port c).up = false) ∧ Sent (eventMsg (epHost 0) 36 0) s t) ∧
  (∀ (s : State),
   Completes (.perstRelease) s fun t => t = s.onPorts fun p => { p with perst := false }) ∧
  (∀ (p : Fin 2) (cid : Option Nat) (s : State),
   Completes (.pcieError p .uncorrectable cid) s fun t => SentOnly [faultMsg (epHost p) 49 p.val (s.localTime (epHost p))] s t ∧ t.nvme = s.nvme ∧ t.acts = s.acts) ∧
  (∀ (p : Fin 2) (k : Cmd) (s : State), (s.nvme.cmds = [k] ∧ k.opcode = 2 ∧ k.need = .media 1) →
   Completes (.pcieError p .hostAccess (some k.n)) s fun t => t.nvme.cmds = [{ k with status := nvRetry .dataTransfer }] ∧ SentOnly [faultMsg (epHost p) 50 p.val (s.localTime (epHost p))] s t ∧ t.acts = s.acts) ∧
  (∀ (p : Fin 2) (s : State), ((s.port p).up = true ∧ (s.port p).l12 = false ∧ (s.dom (12 + p.val)).state = .on) →
   Completes (.aspmL12Transition p true) s fun t => (t.port p).l12 = true ∧ (t.dom (12 + p.val)).state = .draining ∧ (∀ d, d ≠ 12 + p.val → t.dom d = s.dom d) ∧ t.acts = s.acts ∧ t.fab = s.fab) ∧
  (∀ (p : Fin 2) (s : State), ((s.port p).up = true ∧ (s.port p).l12 = true ∧ (s.dom (12 + p.val)).state = .draining ∧ (s.dom (12 + p.val)).suspended = false ∧ s.domPresent (12 + p.val) = true) →
   Completes (.aspmL12Transition p false) s fun t => (t.port p).l12 = false ∧ (t.dom (12 + p.val)).wantOn = true ∧ t.acts = s.acts ∧ t.fab = s.fab)

/-- A read of a granule without error answers its bytes with kind 0; one whose granule has more byte
errors than the mode corrects answers kind 5, with its log entry, fault source 17 and events 68 and
67. A write is acknowledged at once, its bytes stand in memory and its granule waits in its
channel's queue; an atomic operation waits for its merge. A request that must wait is kept. No DRAM
at the address answers kind 1 and a channel without power or in self-refresh kind 4. A merge makes
an entry whole; a drain sends whole entries to DRAM and leaves their granules without error.
(13_buffer_memory.md) -/
def Obligations.DramServesReadsWritesAndAtomics : Prop :=
  (∀ (src : Endpoint) (acc : Access) (s : State), (MemoryTakes ({ id := s.fab.nextTxn, src := src, chan := none, acc := acc } : Txn) s ∧ acc.kind = .read ∧ (s.qEntry (granOf acc.addr) = none → s.dramc.errs = [] ∧ ∀ c, (s.chan c).lines = [])) →
   Completes (.dramRequest src acc ({ corrected := false, detected := false, retryFailed := false, errs := [], burst := [] } : LinkEcc) none) s fun t => MemoryAnswered s.fab.nextTxn src 0 (s.read acc.addr acc.size) s t ∧ t.fab = { s.fab with nextTxn := s.fab.nextTxn + 1 } ∧ (∀ c, (t.chan c).queue = (s.chan c).queue) ∧ (s.qEntry (granOf acc.addr) = none → (t.chan (granChan (granOf acc.addr))).lines.map (fun l => (l.slot, l.m, l.held, l.dirty)) = [(granOf acc.addr / 28, granOf acc.addr % 28 / 4, 0xF, false)]) ∧ t.acts = s.acts ∧ t.dict = s.dict) ∧
  (∀ (src : Endpoint) (acc : Access) (s : State), (MemoryTakes ({ id := s.fab.nextTxn, src := src, chan := none, acc := acc } : Txn) s ∧ acc.kind = .read ∧ (s.lineRead (granOf acc.addr)).decodeGran (granOf acc.addr) [] = .data ∧ (s.qEntry (granOf acc.addr)) = none ∧ s.dramc.log.length < 16) →
   Completes (.dramRequest src acc ({ corrected := false, detected := false, retryFailed := false, errs := [], burst := [] } : LinkEcc) none) s fun t => MemoryAnswered s.fab.nextTxn src 5 [] s t ∧ t.dramc.log = s.dramc.log ++ [{ time := s.now, addr := BitVec.ofNat 48 (granAddr (granOf acc.addr)), channel := BitVec.ofNat 8 (granChan (granOf acc.addr)).val, kind := 1, initiator := src, bytes := 0xFF, mode := if s.dramc.c3d5 then 1 else 0, seq := s.dramc.logSeq + 1 }] ∧ SentOnly [eventMsg epMemory 68 (s.dramc.logSeq + 1).toNat, faultAtMsg epMemory 17 (granChan (granOf acc.addr)).val (granAddr (granOf acc.addr)) s.now, eventMsg epMemory 67 ((granChan (granOf acc.addr)).val + 256)] s t ∧ t.odNat (0x502005 + (granChan (granOf acc.addr)).val) 0 = s.odNat (0x502005 + (granChan (granOf acc.addr)).val) 0 + 1 ∧ MemorySame s t ∧ t.acts = s.acts) ∧
  (∀ (src : Endpoint) (acc : Access) (s : State), (MemoryTakes ({ id := s.fab.nextTxn, src := src, chan := none, acc := acc } : Txn) s ∧ acc.kind = .write ∧ Memory.wf s.fab.mem = true) →
   Completes (.dramRequest src acc ({ corrected := false, detected := false, retryFailed := false, errs := [], burst := [] } : LinkEcc) none) s fun t => MemoryAnswered s.fab.nextTxn src 0 [] s t ∧ BytesAt acc.addr (padTo acc.size 0 acc.data) t ∧ MemoryOutside acc.addr acc.size s t ∧ (t.qEntry (granOf acc.addr)).isSome = true ∧ t.fab.msgs = s.fab.msgs ∧ t.acts = s.acts ∧ t.dict = s.dict) ∧
  (∀ (src : Endpoint) (acc : Access) (s : State), (MemoryTakes ({ id := s.fab.nextTxn, src := src, chan := none, acc := acc } : Txn) s ∧ acc.kind = .amo) →
   Completes (.dramRequest src acc ({ corrected := false, detected := false, retryFailed := false, errs := [], burst := [] } : LinkEcc) none) s fun t => t.dramc.results = s.dramc.results ∧ ((t.qEntry (granOf acc.addr)).map fun q => q.amo) = some (some (acc.amo, (acc.addr - dramBase) % 64, acc.size, acc.data)) ∧ MemorySame s t ∧ t.fab.msgs = s.fab.msgs ∧ t.acts = s.acts ∧ t.dict = s.dict) ∧
  (∀ (src : Endpoint) (acc : Access) (s : State), (s.dramc.rawGiB ≠ 0 ∧ s.sys.dram ≠ .failed ∧ s.inDram acc.addr acc.size = true ∧ s.domOn 14 = true ∧ (s.chan (granChan (granOf acc.addr))).selfRefresh = false ∧ s.memMustWait ({ id := s.fab.nextTxn, src := src, chan := none, acc := acc } : Txn) = true) →
   Completes (.dramRequest src acc ({ corrected := false, detected := false, retryFailed := false, errs := [], burst := [] } : LinkEcc) none) s fun t => t.dramc.waiting = s.dramc.waiting ++ [({ id := s.fab.nextTxn, src := src, chan := none, acc := acc } : Txn)] ∧ t.dramc.results = s.dramc.results ∧ t.dramc.ch = s.dramc.ch ∧ t.fab.mem = s.fab.mem ∧ t.fab.msgs = s.fab.msgs ∧ t.acts = s.acts ∧ t.dict = s.dict) ∧
  (∀ (src : Endpoint) (acc : Access) (link : LinkEcc) (page : Option Nat) (s : State), (s.inDram acc.addr acc.size = false) →
   Completes (.dramRequest src acc link page) s fun t => MemoryAnswered s.fab.nextTxn src 1 [] s t ∧ t.dramc.ch = s.dramc.ch ∧ t.fab.mem = s.fab.mem ∧ t.fab.msgs = s.fab.msgs ∧ t.acts = s.acts ∧ t.dict = s.dict) ∧
  (∀ (src : Endpoint) (acc : Access) (link : LinkEcc) (page : Option Nat) (s : State), (s.dramc.rawGiB ≠ 0 ∧ s.sys.dram ≠ .failed ∧ s.inDram acc.addr acc.size = true ∧ (s.domOn 14 = false ∨ (s.chan (granChan (granOf acc.addr))).selfRefresh = true)) →
   Completes (.dramRequest src acc link page) s fun t => MemoryAnswered s.fab.nextTxn src 4 [] s t ∧ t.dramc.ch = s.dramc.ch ∧ t.fab.mem = s.fab.mem ∧ t.fab.msgs = s.fab.msgs ∧ t.acts = s.acts ∧ t.dict = s.dict) ∧
  (∀ (g : Nat) (q : QEntry) (s : State), ((s.chan (granChan g)).queue = [q] ∧ q.gran = g ∧ q.whole = false ∧ q.amo = none ∧ (s.chan (granChan g)).retraining = false ∧ s.dramc.errs = [] ∧ (s.chan (granChan g)).lines = [] ∧ s.dramc.waiting = []) →
   Completes (.mergeReadReturn g) s fun t => t.qEntry g = some { q with bytes := joinBytes [] 0 (s.read (granAddr g) 64) } ∧ t.dramc.results = s.dramc.results ∧ t.fab = s.fab ∧ t.acts = s.acts ∧ t.dict = s.dict) ∧
  (∀ (g : Nat) (q : QEntry) (op : AmoOp) (off n : Nat) (x : List Byte) (s : State), ((s.chan (granChan g)).queue = [q] ∧ q.gran = g ∧ q.amo = some (op, off, n, x) ∧ (s.chan (granChan g)).retraining = false ∧ s.dramc.errs = [] ∧ (s.chan (granChan g)).lines = [] ∧ s.dramc.waiting = [] ∧ Memory.wf s.fab.mem = true) →
   Completes (.mergeReadReturn g) s fun t => MemoryAnswered q.id q.src 0 (s.read (granAddr g + off) n) s t ∧ BytesAt (granAddr g + off) (leBytes n (amoApply op n (leNat (s.read (granAddr g + off) n)) (leNat x))) t ∧ MemoryOutside (granAddr g + off) n s t ∧ ((t.qEntry g).map fun y => y.amo) = some none ∧ t.fab.msgs = s.fab.msgs ∧ t.acts = s.acts ∧ t.dict = s.dict) ∧
  (∀ (c : Fin 4) (q : QEntry) (s : State), ((s.chan c).queue = [q] ∧ q.whole = true ∧ (s.chan c).retraining = false ∧ (s.chan c).selfRefresh = false ∧ s.dramc.waiting = [] ∧ Tab.rising s.dramc.errs = true ∧ granChan q.gran = c ∧ (s.chan c).lines = []) →
   Completes (.writeQueueDrain c) s fun t => (t.chan c).queue = [] ∧ t.errsOf q.gran = q.link ∧ ((t.chan c).lines.map fun l => (l.slot, l.m, l.dirty)) = [(q.gran / 28, q.gran % 28 / 4, true)] ∧ (∀ g, g ≠ q.gran → t.errsOf g = s.errsOf g) ∧ (∀ d, d ≠ c → t.chan d = s.chan d) ∧ t.fab = s.fab ∧ t.acts = s.acts ∧ t.dict = s.dict)

/-- A refresh on a busy bank is postponed, at most 8 times; at the eighth it is forced with fault
23. A code of MR4 above the nominal one raises event 70 and fault 26 once. A drift beyond
RETRAIN_DRIFT or two codes of MR4 starts a retraining, whose success counts with event 69 and whose
third failure in a row raises fault 22. GO starts a scrub of its range with event 64, or sets
CONFLICT; ABORT ends it at its next granule with event 65; a granule without error is counted and
the next one follows, and the last granule ends the scrub. A starved scrub sets its flag. A full
pass takes the DRAM in ranges of 256 MiB. (13_buffer_memory.md) -/
def Obligations.DramRefreshesRetrainsAndScrubs : Prop :=
  (∀ (c : Fin 4) (b : Fin 16) (s : State), (Tab.rising (s.chan c).postponed = true) →
   Completes (.refreshDue c b true) s fun t => Tab.getD (t.chan c).postponed b.val 0 = min 8 (Tab.getD (s.chan c).postponed b.val 0 + 1) ∧ (∀ d, d ≠ c → t.chan d = s.chan d) ∧ t.fab = s.fab ∧ t.acts = s.acts ∧ t.dict = s.dict) ∧
  (∀ (c : Fin 4) (b : Fin 16) (s : State), (Tab.rising (s.chan c).postponed = true ∧ Tab.rising (s.chan c).opened = true ∧ (s.chan c).lines = []) →
   Completes (.refreshDue c b false) s fun t => Tab.getD (t.chan c).postponed b.val 0 = 0 ∧ Tab.get? (t.chan c).opened b.val = none ∧ (∀ d, d ≠ c → t.chan d = s.chan d) ∧ t.fab = s.fab ∧ t.acts = s.acts ∧ t.dict = s.dict) ∧
  (∀ (c : Fin 4) (b : Fin 16) (s : State), (Tab.getD (s.chan c).postponed b.val 0 = 8 ∧ Tab.rising (s.chan c).postponed = true ∧ (s.chan c).lines = []) →
   Completes (.refreshForced c b) s fun t => Tab.getD (t.chan c).postponed b.val 0 = 0 ∧ SentOnly [faultMsg epMemory 23 c.val (s.localTime epMemory)] s t ∧ (∀ d, d ≠ c → t.chan d = s.chan d) ∧ t.acts = s.acts ∧ t.dict = s.dict ∧ MemorySame s t) ∧
  (∀ (c : Fin 4) (code : BitVec 3) (s : State), ((s.chan c).hot = false ∧ mr4Nominal < code.toNat) →
   Completes (.mr4Change c code) s fun t => (t.chan c).mr4 = code ∧ (t.chan c).hot = true ∧ SentOnly [eventMsg epMemory 70 (c.val + code.toNat * 256), faultMsg epMemory 26 c.val (s.localTime epMemory)] s t ∧ (∀ d, d ≠ c → t.chan d = s.chan d) ∧ t.acts = s.acts ∧ t.dict = s.dict ∧ MemorySame s t) ∧
  (∀ (c : Fin 4) (code : BitVec 3) (s : State), ((s.chan c).hot = false ∧ code.toNat ≤ mr4Nominal) →
   Completes (.mr4Change c code) s fun t => t = s.onChan c (fun x => { x with mr4 := code })) ∧
  (∀ (c : Fin 4) (ps : Nat) (s : State), (s.sys.dram = .trained ∧ (s.chan c).selfRefresh = false ∧ (s.chan c).checkAt = none ∧ s.p5010RetrainDrift < ps) →
   Completes (.retrainCheck c ps) s fun t => t = s.onChan c (fun x => { x with retraining := true, checkAt := some s.now })) ∧
  (∀ (c : Fin 4) (ps : Nat) (s : State), (s.sys.dram = .trained ∧ (s.chan c).selfRefresh = false ∧ (s.chan c).checkAt = none ∧ (s.chan c).mr4 = 5 ∧ (s.chan c).mr4Trained = 3) →
   Completes (.retrainCheck c ps) s fun t => t = s.onChan c (fun x => { x with retraining := true, checkAt := some s.now })) ∧
  (∀ (c : Fin 4) (ps : Nat) (at' : BitVec 64) (s : State), ((s.chan c).checkAt = some at' ∧ s.since at' < s.p5010RetrainCheck * msTicks) →
   Completes (.retrainCheck c ps) s fun t => t = s) ∧
  (∀ (c : Fin 4) (s : State), ((s.chan c).retraining = true ∧ s.dramc.waiting = []) →
   Completes (.retrainComplete c true) s fun t => (t.chan c).retraining = false ∧ (t.chan c).retrainFails = 0 ∧ (t.chan c).mr4Trained = (s.chan c).mr4 ∧ (t.chan c).queue = (s.chan c).queue ∧ t.odNat 0x501003 0 = s.odNat 0x501003 0 + 1 ∧ SentOnly [eventMsg epMemory 69 c.val] s t ∧ (∀ d, d ≠ c → t.chan d = s.chan d) ∧ t.acts = s.acts ∧ MemorySame s t) ∧
  (∀ (c : Fin 4) (s : State), ((s.chan c).retraining = true ∧ (s.chan c).retrainFails < 2) →
   Completes (.retrainComplete c false) s fun t => t = s.onChan c (fun x => { x with retrainFails := x.retrainFails + 1 })) ∧
  (∀ (c : Fin 4) (s : State), ((s.chan c).retraining = true ∧ (s.chan c).retrainFails = 2 ∧ s.dramc.waiting = []) →
   Completes (.retrainComplete c false) s fun t => (t.chan c).retraining = false ∧ (t.chan c).retrainFails = 0 ∧ (t.chan c).mr4Trained = (s.chan c).mr4Trained ∧ SentOnly [faultMsg epMemory 22 c.val (s.localTime epMemory)] s t ∧ (∀ d, d ≠ c → t.chan d = s.chan d) ∧ t.acts = s.acts ∧ t.dict = s.dict ∧ MemorySame s t) ∧
  (∀ (v : BitVec 32) (s : State), (s.domOn 16 = true ∧ s.scr.state ≠ .running ∧ s.scr.start.toNat ≤ s.scr.stop.toNat ∧ s.inDram s.scr.start.toNat (s.scr.stop.toNat + 1 - s.scr.start.toNat) = true) →
   Completes (.scrubGo v) s fun t => t.scr.state = .running ∧ t.scr.next = s.scr.start.toNat ∧ t.scr.fix = v.getLsbD 17 ∧ t.scr.sig = v.getLsbD 16 ∧ t.scr.rate = v.setWidth 16 ∧ t.scr.sumRead = 0 ∧ t.scr.flags = s.scr.flags ∧ SentOnly [eventMsg epBuffer 64 ((s.scr.stop.toNat + 1 - s.scr.start.toNat) / 2 ^ 20)] s t ∧ t.dramc.errs = s.dramc.errs ∧ t.acts = s.acts ∧ t.dict = s.dict ∧ MemorySame s t) ∧
  (∀ (v : BitVec 32) (s : State), (s.domOn 16 = true ∧ (s.scr.state = .running ∨ s.scr.stop.toNat < s.scr.start.toNat)) →
   Completes (.scrubGo v) s fun t => t.scr.state = s.scr.state ∧ t.scr.next = s.scr.next ∧ t.scr.flags = setBit s.scr.flags 2 true ∧ t.dramc = s.dramc ∧ t.fab = s.fab ∧ t.acts = s.acts ∧ t.dict = s.dict) ∧
  (∀ (s : State), (s.scr.state = .running) →
   Completes (.scrubAbort) s fun t => t = s.onScr (fun x => { x with abort := true })) ∧
  (∀ (b : List Byte) (p : Option Nat) (s : State), (s.scr.state = .running ∧ s.domOn 16 = true ∧ s.scr.abort = true ∧ s.scr.passNext = none) →
   Completes (.scrubGranule b p) s fun t => t.scr.state = .aborted ∧ t.scr.abort = false ∧ t.scr.read = s.scr.sumRead ∧ t.scr.uncorr = s.scr.sumUncorr ∧ SentOnly [eventMsg epBuffer 65 s.scr.sumUncorr.toNat] s t ∧ t.dramc = s.dramc ∧ t.acts = s.acts ∧ t.dict = s.dict ∧ MemorySame s t) ∧
  (∀ (b : List Byte) (s : State), (s.scr.state = .running ∧ s.domOn 16 = true ∧ s.scr.abort = false ∧ s.scrubMay = true ∧ s.dramc.errs = [] ∧ (s.chan (granChan (granOf s.scr.next))).lines = [] ∧ s.qEntry (granOf s.scr.next) = none ∧ s.scr.sig = false ∧ s.scr.next + 64 ≤ s.scr.stop.toNat) →
   Completes (.scrubGranule b none) s fun t => t.scr = { s.scr with sumRead := s.scr.sumRead + 1, next := s.scr.next + 64 } ∧ (t.chan (granChan (granOf s.scr.next))).starve = false ∧ (t.chan (granChan (granOf s.scr.next))).scrubAt = s.now ∧ t.dramc.errs = s.dramc.errs ∧ t.fab = s.fab ∧ t.acts = s.acts ∧ t.dict = s.dict) ∧
  (∀ (b : List Byte) (s : State), (s.scr.state = .running ∧ s.domOn 16 = true ∧ s.scr.abort = false ∧ s.scrubMay = true ∧ s.dramc.errs = [] ∧ (s.chan (granChan (granOf s.scr.next))).lines = [] ∧ s.scr.sig = false ∧ s.scr.stop.toNat < s.scr.next + 64 ∧ s.scr.passNext = none) →
   Completes (.scrubGranule b none) s fun t => t.scr.state = .done ∧ t.scr.read = s.scr.sumRead + 1 ∧ t.scr.uncorr = s.scr.sumUncorr ∧ SentOnly [eventMsg epBuffer 65 s.scr.sumUncorr.toNat] s t ∧ t.dramc.errs = s.dramc.errs ∧ t.acts = s.acts ∧ t.dict = s.dict ∧ MemorySame s t) ∧
  (∀ (c : Fin 4) (s : State), (s.scr.state = .running ∧ max 1 s.scr.limit.toNat * usTicks ≤ s.since (s.chan c).scrubAt) →
   Completes (.scrubStarve c) s fun t => t = (s.onChan c fun x => { x with starve := true, scrubAt := s.now }).onScr (fun x => { x with flags := setBit x.flags 1 true })) ∧
  (∀ (c : Fin 4) (s : State), (s.since (s.chan c).scrubAt < max 1 s.scr.limit.toNat * usTicks) →
   Completes (.scrubStarve c) s fun t => t = s) ∧
  (∀ (sig : List Byte) (p : Option Nat) (s : State), (s.scr.state = .running ∧ s.scr.abort = false ∧ s.scrubMay = false) →
   Completes (.scrubGranule sig p) s fun t => t = s) ∧
  (∀ (s : State), (s.p5030ScrubPassH ≠ 0 ∧ s.scr.passAt + s.p5030ScrubPassH ≤ s.poh ∧ s.scr.state ≠ .running ∧ s.domOn 16 = true ∧ s.dramc.rawGiB = 8 ∧ s.tt.protDie = false ∧ s.tt.protDiode = false ∧ s.scr.passNext = none) →
   Completes (.scrubPassStart) s fun t => t.scr.state = .running ∧ t.scr.start.toNat = 0x800000000 ∧ t.scr.stop.toNat = 0x80FFFFFFF ∧ t.scr.passNext = some 0x10000000 ∧ SentOnly [eventMsg epBuffer 64 256] s t ∧ t.dramc.errs = s.dramc.errs ∧ t.scr.passAt = s.poh ∧ t.acts = s.acts ∧ t.dict = s.dict ∧ MemorySame s t)

/-- A media job of 1 to 256 units of 512 or 4,096 bytes, and a management job of at most 1,472 bytes
with at most 64 of additional data, is accepted with the key its slot or role has; any other is
rejected with status 0x1, fault source 56 and event 88, and a halted engine ends it with status 0x5.
A data unit whose source reads well is transformed by XTS with the LBA as tweak and written; one
whose source read fails ends its job with status 0x4 and fault source 59; without a key the job ends
with status 0x2, fault source 57 and event 89. A job whose slot is pending is held. An AES-GCM job
writes its text and gives or checks its tag; a tag that does not match writes zeros and ends with
status 0x3, event 87 and fault source 58. (14_cipher.md) -/
def Obligations.CipherJobsAreJudgedAndCarriedOut : Prop :=
  (∀ (j : CipherJob) (s : State), (s.ciphOn = true ∧ s.ciph.state = .ready ∧ j.gcm = false ∧ (j.unit = 512 ∨ j.unit = 4096) ∧ 1 ≤ j.count ∧ j.count ≤ 256 ∧ j.length = j.unit * j.count) →
   Completes (.cipherJob j) s fun t => t = s.onCiph (fun c => { c with jobs := c.jobs ++ [{ job := j, key := s.slotKey j.slot, cut := false }] })) ∧
  (∀ (j : CipherJob) (s : State), (s.ciphOn = true ∧ s.ciph.state ≠ .halted ∧ j.gcm = true ∧ j.length ≤ 1472 ∧ j.aad.length ≤ 64) →
   Completes (.cipherJob j) s fun t => t = s.onCiph (fun c => { c with jobs := c.jobs ++ [{ job := j, key := s.roleKey j.slot, cut := false }] })) ∧
  (∀ (j : CipherJob) (s : State), (s.ciphOn = true ∧ j.gcm = true ∧ 1472 < j.length) →
   Completes (.cipherJob j) s fun t => t.ciph.jobs = s.ciph.jobs ∧ t.ciph.records = s.ciph.records ++ [{ id := j.id, status := 1, release := false, tag := [] }] ∧ SentOnly [faultMsg epCipher 56 1 (s.localTime epCipher), eventMsg epCipher 88 1] s t ∧ MemorySame s t ∧ t.acts = s.acts ∧ t.dict = s.dict) ∧
  (∀ (j : CipherJob) (s : State), (s.ciphOn = true ∧ j.gcm = false ∧ j.length ≠ j.unit * j.count) →
   Completes (.cipherJob j) s fun t => t.ciph.jobs = s.ciph.jobs ∧ t.ciph.records = s.ciph.records ++ [{ id := j.id, status := 1, release := false, tag := [] }] ∧ SentOnly [faultMsg epCipher 56 0 (s.localTime epCipher), eventMsg epCipher 88 0] s t ∧ MemorySame s t ∧ t.acts = s.acts ∧ t.dict = s.dict) ∧
  (∀ (j : CipherJob) (s : State), (s.ciphOn = true ∧ s.ciph.state = .halted ∧ ciphRule j = none) →
   Completes (.cipherJob j) s fun t => t = s.onCiph (fun c => { c with records := c.records ++ [{ id := j.id, status := 5, release := false, tag := [] }] })) ∧
  (∀ (x : CJob) (key : List Byte) (pg : Option Nat) (n : Nat) (s : State), (s.ciph.jobs = [x] ∧ x.job.gcm = false ∧ x.job.count = 1 ∧ (x.job.unit = 512 ∨ x.job.unit = 4096) ∧ x.job.dst % 64 = 0 ∧ x.cut = false ∧ x.key = some key ∧ s.ciph.state ≠ .reloading ∧ (s.slot x.job.slot).state ≠ .pending ∧ Memory.wf s.fab.mem = true ∧ (s.engineGet epCipher x.job.src x.job.unit pg).1 = true) →
   Completes (.cipherJobComplete x.job.id pg n) s fun t => t.ciph.jobs = [] ∧ t.ciph.records = s.ciph.records ++ [{ id := x.job.id, status := 0, release := true, tag := [] }] ∧ BytesAt x.job.dst (xtsUnit x.job.encrypt key x.job.lba ((s.engineGet epCipher x.job.src x.job.unit pg).2.read x.job.src x.job.unit)) t ∧ MemoryOutside x.job.dst x.job.unit (s.engineGet epCipher x.job.src x.job.unit pg).2 t ∧ t.odNat 0x517001 0 = s.odNat 0x517001 0 + 1 ∧ t.fab.msgs = (s.engineGet epCipher x.job.src x.job.unit pg).2.fab.msgs ∧ t.acts = s.acts) ∧
  (∀ (x : CJob) (pg : Option Nat) (n : Nat) (s : State), (s.ciph.jobs = [x] ∧ x.job.gcm = false ∧ x.job.count = 1 ∧ x.key = none ∧ s.slotKey x.job.slot = none ∧ s.ciph.state ≠ .reloading ∧ (s.slot x.job.slot).state ≠ .pending) →
   Completes (.cipherJobComplete x.job.id pg n) s fun t => t.ciph.jobs = [] ∧ t.ciph.records = s.ciph.records ++ [{ id := x.job.id, status := 2, release := false, tag := [] }] ∧ SentOnly [faultMsg epCipher 57 0 (s.localTime epCipher), eventMsg epCipher 89 x.job.slot] s t ∧ MemorySame s t ∧ t.acts = s.acts ∧ t.dict = s.dict) ∧
  (∀ (x : CJob) (b : Option Nat) (n : Nat) (s : State), (s.ciph.jobs = [x] ∧ x.job.gcm = false ∧ (s.slot x.job.slot).state = .pending) →
   Completes (.cipherJobComplete x.job.id b n) s fun t => t = s) ∧
  (∀ (x : CJob) (pg : Option Nat) (n : Nat) (s : State), (s.ciph.jobs = [x] ∧ x.job.gcm = false ∧ x.job.count = 1 ∧ x.key.isSome = true ∧ x.cut = false ∧ s.ciph.state ≠ .reloading ∧ (s.slot x.job.slot).state ≠ .pending ∧ (s.engineGet epCipher x.job.src x.job.unit pg).1 = false) →
   Completes (.cipherJobComplete x.job.id pg n) s fun t => t.ciph.jobs = [] ∧ t.ciph.records = s.ciph.records ++ [{ id := x.job.id, status := 4, release := false, tag := [] }] ∧ Sent (faultMsg epCipher 59 0 ((s.engineGet epCipher x.job.src x.job.unit pg).2.localTime epCipher)) s t ∧ MemorySame (s.engineGet epCipher x.job.src x.job.unit pg).2 t ∧ t.acts = s.acts) ∧
  (∀ (x : CJob) (key : List Byte) (n : Nat) (s : State), (s.ciph.jobs = [x] ∧ x.job.gcm = true ∧ x.job.encrypt = true ∧ x.key = some key ∧ Memory.wf s.fab.mem = true ∧ (s.engineGet epCipher x.job.src x.job.length none).1 = true) →
   Completes (.cipherJobComplete x.job.id none n) s fun t => t.ciph.jobs = [] ∧ t.ciph.records = s.ciph.records ++ [{ id := x.job.id, status := 0, release := true, tag := gcmTag key x.job.iv x.job.aad (gcmText key x.job.iv ((s.engineGet epCipher x.job.src x.job.length none).2.read x.job.src x.job.length)) }] ∧ BytesAt x.job.dst (gcmText key x.job.iv ((s.engineGet epCipher x.job.src x.job.length none).2.read x.job.src x.job.length)) t ∧ MemoryOutside x.job.dst x.job.length (s.engineGet epCipher x.job.src x.job.length none).2 t ∧ t.odNat 0x517002 0 = s.odNat 0x517002 0 + 1 ∧ t.acts = s.acts) ∧
  (∀ (x : CJob) (key : List Byte) (n : Nat) (s : State), (s.ciph.jobs = [x] ∧ x.job.gcm = true ∧ x.job.encrypt = false ∧ x.key = some key ∧ gcmTag key x.job.iv x.job.aad ((s.engineGet epCipher x.job.src x.job.length none).2.read x.job.src x.job.length) = x.job.tag ∧ Memory.wf s.fab.mem = true ∧ (s.engineGet epCipher x.job.src x.job.length none).1 = true) →
   Completes (.cipherJobComplete x.job.id none n) s fun t => t.ciph.jobs = [] ∧ t.ciph.records = s.ciph.records ++ [{ id := x.job.id, status := 0, release := true, tag := [] }] ∧ BytesAt x.job.dst (gcmText key x.job.iv ((s.engineGet epCipher x.job.src x.job.length none).2.read x.job.src x.job.length)) t ∧ MemoryOutside x.job.dst x.job.length (s.engineGet epCipher x.job.src x.job.length none).2 t ∧ t.acts = s.acts) ∧
  (∀ (x : CJob) (key : List Byte) (n : Nat) (s : State), (s.ciph.jobs = [x] ∧ x.job.gcm = true ∧ x.job.encrypt = false ∧ x.key = some key ∧ gcmTag key x.job.iv x.job.aad ((s.engineGet epCipher x.job.src x.job.length none).2.read x.job.src x.job.length) ≠ x.job.tag ∧ Memory.wf s.fab.mem = true ∧ (s.engineGet epCipher x.job.src x.job.length none).1 = true) →
   Completes (.cipherJobComplete x.job.id none n) s fun t => t.ciph.jobs = [] ∧ t.ciph.records = s.ciph.records ++ [{ id := x.job.id, status := 3, release := false, tag := [] }] ∧ BytesAt x.job.dst (List.replicate x.job.length 0) t ∧ MemoryOutside x.job.dst x.job.length (s.engineGet epCipher x.job.src x.job.length none).2 t ∧ Sent (eventMsg epCipher 87 x.job.slot) s t ∧ Sent (faultMsg epCipher 58 x.job.slot (s.localTime epCipher)) s t ∧ t.odNat 0x517003 0 = s.odNat 0x517003 0 + 1 ∧ t.acts = s.acts)

/-- A pending slot takes its new key with events 83 and 80, or is emptied with events 83 and 81.
After 2^20 requests a reseed with healthy entropy starts the count of requests anew with event 91;
without, the engine halts with fault source 61, and its jobs end with status 0x5. Failed entropy
health raises fault source 60. A crypto erase tells its namespaces with event 85 once their commands
have ended, waiting while one reads media, draws a key of the random source into an empty slot for
each of their ranges, and at its end completes its command with event 86. (14_cipher.md) -/
def Obligations.KeySlotsRandomSourceAndCryptoErase : Prop :=
  (∀ (n : Fin 128) (k : List Byte) (s : State), (s.ciph.state = .ready ∧ (s.slot n.val).state = .pending ∧ (s.slot n.val).newKey = some k ∧ s.dict.slotAnswer = none ∧ Tab.rising s.ciph.slots = true) →
   Completes (.slotChangeDone n) s fun t => t.slot n.val = { state := .loaded, key := k, newKey := none } ∧ (∀ m, m ≠ n.val → t.slot m = s.slot m) ∧ SentOnly [eventMsg epCipher 83 n.val, eventMsg epCipher 80 n.val] s t ∧ MemorySame s t ∧ t.acts = s.acts ∧ t.dict = s.dict) ∧
  (∀ (n : Fin 128) (s : State), (s.ciph.state = .ready ∧ (s.slot n.val).state = .pending ∧ (s.slot n.val).newKey = none ∧ s.dict.slotAnswer = none ∧ Tab.rising s.ciph.slots = true) →
   Completes (.slotChangeDone n) s fun t => t.slot n.val = KeySlot.reset ∧ (∀ m, m ≠ n.val → t.slot m = s.slot m) ∧ SentOnly [eventMsg epCipher 83 n.val, eventMsg epCipher 81 n.val] s t ∧ MemorySame s t ∧ t.acts = s.acts ∧ t.dict = s.dict) ∧
  (∀ (s : State), (s.ciphOn = true ∧ 2 ^ 20 ≤ s.ciph.drbgCount) →
   Completes (.drbgReseed true) s fun t => t.ciph = { s.ciph with drbgCount := 0, entropyOk := true } ∧ SentOnly [eventMsg epCipher 91 0] s t ∧ MemorySame s t ∧ t.acts = s.acts ∧ t.dict = s.dict) ∧
  (∀ (s : State), (s.ciphOn = true ∧ 2 ^ 20 ≤ s.ciph.drbgCount ∧ s.dict.slotAnswer = none) →
   Completes (.drbgReseed false) s fun t => t.ciph.state = .halted ∧ t.ciph.entropyOk = false ∧ t.ciph.jobs = [] ∧ t.ciph.records = s.ciph.records ++ s.ciph.jobs.map (fun x => ({ id := x.job.id, status := 5, release := false, tag := [] } : CRecord)) ∧ SentOnly [faultMsg epCipher 61 0 (s.localTime epCipher)] s t ∧ MemorySame s t ∧ t.acts = s.acts ∧ t.dict = s.dict) ∧
  (∀ (s : State), (s.ciphOn = true ∧ s.ciph.drbgCount < 2 ^ 20) →
   Completes (.drbgReseed true) s fun t => t = s) ∧
  (∀ (s : State), (s.ciphOn = true) →
   Completes (.entropyHealthFail) s fun t => t.ciph = { s.ciph with entropyOk := false } ∧ SentOnly [faultMsg epCipher 60 0 (s.localTime epCipher)] s t ∧ MemorySame s t ∧ t.acts = s.acts ∧ t.dict = s.dict) ∧
  (∀ (e : EraseRun) (s : State), (s.ciph.erase = some e ∧ e.step = 1 ∧ s.nvme.cmds = []) →
   Completes (.cryptoEraseRun) s fun t => t.ciph = { s.ciph with erase := some { e with step := 2 } } ∧ SentOnly (e.nsids.map fun n => eventMsg epCipher 85 n) s t ∧ MemorySame s t ∧ t.acts = s.acts ∧ t.dict = s.dict) ∧
  (∀ (e : EraseRun) (k : Cmd) (s : State), (s.ciph.erase = some e ∧ e.step = 1 ∧ s.nvme.cmds = [k] ∧ e.cmd ≠ some k.n ∧ e.nsids = [k.nsid] ∧ k.admin = false ∧ k.need = .media 1) →
   Completes (.cryptoEraseRun) s fun t => t = s) ∧
  (∀ (e : EraseRun) (r n : Nat) (s : State), (s.ciph.erase = some e ∧ e.step = 2 ∧ s.eraseRanges e = [r] ∧ s.ciph.entropyOk = true ∧ s.ciph.state = .ready ∧ (List.range 128).find? (fun n => decide ((s.slot n).state = .empty)) = some n ∧ Tab.rising s.ciph.slots = true) →
   Completes (.cryptoEraseRun) s fun t => t.slot n = { state := .loaded, key := drbgKey s.free, newKey := none } ∧ (∀ m, m ≠ n → t.slot m = s.slot m) ∧ t.ciph.erase = some { e with step := 3, newSlots := e.newSlots ++ [(r, n)], oldSlots := e.oldSlots ++ [(s.range r).slot] } ∧ t.free = s.free + 1 ∧ t.ciph.drbgCount = s.ciph.drbgCount + 1 ∧ MemorySame s t ∧ t.acts = s.acts ∧ t.dict = s.dict) ∧
  (∀ (e : EraseRun) (k : Cmd) (s : State), (s.ciph.erase = some e ∧ 7 ≤ e.step ∧ s.dict.saving = none ∧ e.nsids ≠ [] ∧ e.cmd = some k.n ∧ s.nvme.cmds = [k] ∧ s.ciph.eraseQueue = [] ∧ s.sys.mode = .service) →
   Completes (.cryptoEraseRun) s fun t => t.ciph.erase = none ∧ t.ciph.eraseState = 2 ∧ t.nvme.cmds = [{ k with need := .nothing, status := nvOk }] ∧ SentOnly (e.nsids.map fun n => eventMsg epCipher 86 n) s t ∧ t.odNat 0x517004 0 = s.odNat 0x517004 0 + 1 ∧ t.ciph.slots = s.ciph.slots ∧ MemorySame s t ∧ t.acts = s.acts) ∧
  (∀ (s : State), (s.ciph.erase = none ∧ s.ciph.oldAfterLoss = []) →
   Completes (.cryptoEraseRun) s fun t => t = s)

/-- A kick makes a channel at rest fetch, and one at work note KICK_PEND; a channel that aborts
ignores it. An abort puts a parked or failed channel to idle and a working one to aborting. DMA_PTR
is written at rest only, else CONFLICT is set. A free mover goes to the ready channel with the
lowest number. A fetched descriptor without OWN parks its channel with event 97 + 2n, reason 1; one
that passes its check is armed: ready, or active if the channel holds the mover, and waiting if it
names a trigger; one with a reserved bit set ends in ERROR with fault source 66. (15_dma.md) -/
def Obligations.DmaChannelsStartStopAndQueue : Prop :=
  (∀ (n : Fin 16) (s : State), (s.dmaLive n = true ∧ ((s.dmaCh n).state = .parked ∨ (s.dmaCh n).state = .idle ∨ (s.dmaCh n).state = .error)) →
   Completes (.dmaKick n) s fun t => t = s.onDmaCh n (fun c => { c with state := .fetch, desc := none })) ∧
  (∀ (n : Fin 16) (s : State), (s.dmaLive n = true ∧ ((s.dmaCh n).state = .fetch ∨ (s.dmaCh n).state = .ready ∨ (s.dmaCh n).state = .active ∨ (s.dmaCh n).state = .waiting)) →
   Completes (.dmaKick n) s fun t => t = s.onDmaCh n (fun c => { c with kickPend := true })) ∧
  (∀ (n : Fin 16) (s : State), ((s.dmaCh n).state = .aborting ∨ s.dmaLive n = false) →
   Completes (.dmaKick n) s fun t => t = s) ∧
  (∀ (n : Fin 16) (s : State), (s.dmaLive n = true ∧ ((s.dmaCh n).state = .parked ∨ (s.dmaCh n).state = .error)) →
   Completes (.dmaAbort n) s fun t => t = s.onDmaCh n (fun c => { c with state := .idle, desc := none, left := 0 })) ∧
  (∀ (n : Fin 16) (s : State), (s.dmaLive n = true ∧ ((s.dmaCh n).state = .fetch ∨ (s.dmaCh n).state = .ready ∨ (s.dmaCh n).state = .active ∨ (s.dmaCh n).state = .waiting)) →
   Completes (.dmaAbort n) s fun t => t = s.onDmaCh n (fun c => { c with state := .aborting })) ∧
  (∀ (n : Fin 16) (v : BitVec 32) (s : State), (s.dmaLive n = true ∧ ((s.dmaCh n).state = .parked ∨ (s.dmaCh n).state = .idle ∨ (s.dmaCh n).state = .error)) →
   Completes (.dmaPtrWrite n v) s fun t => t = s.onDmaCh n (fun c => { c with ptr := v.extractLsb' 5 27 })) ∧
  (∀ (n : Fin 16) (v : BitVec 32) (s : State), (s.dmaLive n = true ∧ (s.dmaCh n).state = .active) →
   Completes (.dmaPtrWrite n v) s fun t => t = s.onDmaCh n (fun c => { c with flags := setBit c.flags 4 true })) ∧
  (∀ (n m : Fin 16) (c e : DmaCh) (s : State), (s.dma.owner = none ∧ n < m ∧ s.dma.ch = [(n.val, c), (m.val, e)] ∧ c.state = .ready ∧ e.state = .ready) →
   Completes (.moverGrant) s fun t => t.dma.owner = some n ∧ t.dmaCh n = { c with state := .active } ∧ t.dmaCh m = e ∧ t.fab = s.fab ∧ t.acts = s.acts) ∧
  (∀ (n : Fin 16) (s : State), (s.dma.owner = some n) →
   Completes (.moverGrant) s fun t => t = s) ∧
  (∀ (n : Fin 16) (c : DmaCh) (wb : Option (Bool × BitVec 4)) (s : State), (s.dmaLive n = true ∧ s.dma.ch = [(n.val, c)] ∧ c.state = .fetch ∧ c.kickPend = false ∧ 0x10000000 ≤ c.addr ∧ c.addr + 32 ≤ 0x11800000 ∧ s.refusal epDma (some n) (dmaAcc .read c.addr 4 []) = none ∧ bitOf (leNat (s.read c.addr 4)) 31 = false) →
   Completes (.descriptorFetch n none wb) s fun t => t.dmaCh n = { c with state := .parked, left := 0, flags := setBit c.flags 1 true } ∧ t.dma.owner = (if s.dma.owner = some n then none else s.dma.owner) ∧ SentOnly [eventMsg epDma (97 + 2 * n.val) (c.addr + 1)] s t ∧ MemorySame s t ∧ t.acts = s.acts ∧ t.dict = s.dict) ∧
  (∀ (n : Fin 16) (c : DmaCh) (wb : Option (Bool × BitVec 4)) (s : State), (s.dmaLive n = true ∧ s.dma.ch = [(n.val, c)] ∧ c.state = .fetch ∧ 0x10000000 ≤ c.addr ∧ c.addr + 32 ≤ 0x11800000 ∧ s.refusal epDma (some n) (dmaAcc .read c.addr 4 []) = none ∧ s.refusal epDma (some n) (dmaAcc .read (c.addr + 4) 28 []) = none ∧ bitOf (leNat (s.read c.addr 4)) 31 = true ∧ descCheck n (wordOf (s.read c.addr 32)) = 0 ∧ fld (leNat (s.read c.addr 4)) 24 2 = 0) →
   Completes (.descriptorFetch n none wb) s fun t => t.dmaCh n = { c with state := (if s.dma.owner = some n then .active else .ready), desc := some (descOf (wordOf (s.read c.addr 32))), left := (descOf (wordOf (s.read c.addr 32))).len, trigSeen := true } ∧ t.dma.owner = s.dma.owner ∧ t.fab = s.fab ∧ t.acts = s.acts ∧ t.dict = s.dict) ∧
  (∀ (n : Fin 16) (c : DmaCh) (wb : Option (Bool × BitVec 4)) (s : State), (s.dmaLive n = true ∧ s.dma.ch = [(n.val, c)] ∧ c.state = .fetch ∧ 0x10000000 ≤ c.addr ∧ c.addr + 32 ≤ 0x11800000 ∧ s.refusal epDma (some n) (dmaAcc .read c.addr 4 []) = none ∧ s.refusal epDma (some n) (dmaAcc .read (c.addr + 4) 28 []) = none ∧ bitOf (leNat (s.read c.addr 4)) 31 = true ∧ bitOf (leNat (s.read c.addr 4)) 28 = true) →
   Completes (.descriptorFetch n none wb) s fun t => (t.dmaCh n).state = .error ∧ (t.dmaCh n).desc = none ∧ (t.dmaCh n).flags.getLsbD 2 = true ∧ Sent (faultMsg epDma 66 n.val (s.localTime epDma)) s t ∧ Sent (eventMsg epDma (97 + 2 * n.val) (c.addr + 2)) s t ∧ MemoryOutside c.addr 32 s t ∧ t.acts = s.acts)

/-- For a descriptor of 64 bytes with source, destination and descriptor in shared SRAM, ranges
apart, no trigger and no other channel: completion copies the bytes as the swap passes them, writes
STATUS and CONTROL without OWN, sets DONE, and the chain ends with event 97 + 2n, reason 0. A failed
beat writes the error, sets ERROR, raises fault source 64 or 65 and ends with reason 2. The end of
an abort writes KIND 0xF and ends with reason 3. Memory elsewhere is as before. (15_dma.md) -/
def Obligations.DmaDescriptorsMoveBytesAndEnd : Prop :=
  (∀ (n : Fin 16) (c : DmaCh) (d : DmaDesc) (s : State), (s.dmaLive n = true ∧ s.dma.owner = some n ∧ s.dma.ch = [(n.val, c)] ∧ c.state = .active ∧ c.desc = some d ∧ d.len = 64 ∧ d.next = 0 ∧ fld d.control.toNat 24 2 = 0 ∧ d.control.getLsbD 29 = false ∧ (d.src = d.dst ∨ d.overlaps = false) ∧ 0x10000000 ≤ d.src.toNat ∧ d.src.toNat + 64 ≤ 0x11800000 ∧ 0x10000000 ≤ d.dst.toNat ∧ d.dst.toNat + 64 ≤ 0x11800000 ∧ d.src.toNat % 64 = 0 ∧ d.dst.toNat % 64 = 0 ∧ 0x10000000 ≤ c.addr ∧ c.addr + 32 ≤ 0x11800000 ∧ (d.dst.toNat + 64 ≤ c.addr ∨ c.addr + 32 ≤ d.dst.toNat) ∧ s.refusal epDma (some n) (dmaAcc .read d.src.toNat 64 []) = none ∧ s.refusal epDma (some n) (dmaAcc .write d.dst.toNat 64 (List.replicate 64 0)) = none ∧ s.refusal epDma (some n) (dmaAcc .write c.addr 4 [0, 0, 0, 0]) = none ∧ s.refusal epDma (some n) (dmaAcc .write (c.addr + 0x1C) 4 [0, 0, 0, 0]) = none ∧ s.hm.brst = [] ∧ s.pwr.doms.all (fun e => !e.2.wantOff) = true ∧ Memory.wf s.fab.mem = true) →
   Completes (.descriptorComplete n none) s fun t => BytesAt d.dst.toNat (swapped (fld d.control.toNat 26 2) (s.read d.src.toNat 64)) t ∧ BytesAt (c.addr + 0x1C) (leBytes 4 0x80000040) t ∧ BytesAt c.addr (leBytes 4 (d.control &&& 0x7FFFFFFF).toNat) t ∧ (∀ a, (a < d.dst.toNat ∨ d.dst.toNat + 64 ≤ a) → (a < c.addr ∨ c.addr + 32 ≤ a) → memByte t.fab.mem a = memByte s.fab.mem a) ∧ t.dma.owner = none ∧ (t.dmaCh n).state = .idle ∧ (t.dmaCh n).flags = setBit c.flags 0 true ∧ (t.dmaCh n).last = 0x80000040 ∧ (t.dmaCh n).desc = none ∧ SentOnly [eventMsg epDma (97 + 2 * n.val) c.addr] s t ∧ t.odNat 0x520101 0 = s.odNat 0x520101 0 + 1 ∧ t.odNat 0x520102 0 = s.odNat 0x520102 0 + 64 ∧ t.acts = s.acts) ∧
  (∀ (n : Fin 16) (c : DmaCh) (d : DmaDesc) (s : State), (s.dmaLive n = true ∧ s.dma.owner = some n ∧ s.dma.ch = [(n.val, c)] ∧ c.state = .active ∧ c.desc = some d ∧ d.len = 64 ∧ d.next ≠ 0 ∧ d.control.getLsbD 29 = true ∧ d.control.getLsbD 30 = true ∧ (d.src = d.dst ∨ d.overlaps = false) ∧ 0x10000000 ≤ d.src.toNat ∧ d.src.toNat + 64 ≤ 0x11800000 ∧ 0x10000000 ≤ d.dst.toNat ∧ d.dst.toNat + 64 ≤ 0x11800000 ∧ d.src.toNat % 64 = 0 ∧ d.dst.toNat % 64 = 0 ∧ 0x10000000 ≤ c.addr ∧ c.addr + 32 ≤ 0x11800000 ∧ (d.dst.toNat + 64 ≤ c.addr ∨ c.addr + 32 ≤ d.dst.toNat) ∧ s.refusal epDma (some n) (dmaAcc .read d.src.toNat 64 []) = none ∧ s.refusal epDma (some n) (dmaAcc .write d.dst.toNat 64 (List.replicate 64 0)) = none ∧ s.refusal epDma (some n) (dmaAcc .write c.addr 4 [0, 0, 0, 0]) = none ∧ s.refusal epDma (some n) (dmaAcc .write (c.addr + 0x1C) 4 [0, 0, 0, 0]) = none ∧ s.hm.brst = [] ∧ s.pwr.doms.all (fun e => !e.2.wantOff) = true ∧ Memory.wf s.fab.mem = true) →
   Completes (.descriptorComplete n none) s fun t => t.dma.owner = none ∧ (t.dmaCh n).state = .fetch ∧ (t.dmaCh n).ptr = d.next.extractLsb' 5 27 ∧ SentOnly [eventMsg epDma (96 + 2 * n.val) c.addr] s t ∧ (∀ a, (a < d.dst.toNat ∨ d.dst.toNat + 64 ≤ a) → (a < c.addr ∨ c.addr + 32 ≤ a) → memByte t.fab.mem a = memByte s.fab.mem a) ∧ t.acts = s.acts) ∧
  (∀ (n : Fin 16) (c : DmaCh) (d : DmaDesc) (w : Bool) (k : BitVec 4) (s : State), (s.dmaLive n = true ∧ s.dma.owner = some n ∧ s.dma.ch = [(n.val, c)] ∧ c.state = .active ∧ c.desc = some d ∧ d.len = 64 ∧ d.control.getLsbD 29 = false ∧ 0x10000000 ≤ d.src.toNat ∧ d.src.toNat + 64 ≤ 0x11800000 ∧ 0x10000000 ≤ d.dst.toNat ∧ d.dst.toNat + 64 ≤ 0x11800000 ∧ d.src.toNat % 64 = 0 ∧ d.dst.toNat % 64 = 0 ∧ 0x10000000 ≤ c.addr ∧ c.addr + 32 ≤ 0x11800000 ∧ (d.dst.toNat + 64 ≤ c.addr ∨ c.addr + 32 ≤ d.dst.toNat) ∧ s.refusal epDma (some n) (dmaAcc .read d.src.toNat 64 []) = none ∧ s.refusal epDma (some n) (dmaAcc .write d.dst.toNat 64 (List.replicate 64 0)) = none ∧ s.refusal epDma (some n) (dmaAcc .write c.addr 4 [0, 0, 0, 0]) = none ∧ s.refusal epDma (some n) (dmaAcc .write (c.addr + 0x1C) 4 [0, 0, 0, 0]) = none ∧ s.hm.brst = [] ∧ s.pwr.doms.all (fun e => !e.2.wantOff) = true ∧ Memory.wf s.fab.mem = true) →
   Completes (.dmaBeatError n w k 0 none) s fun t => BytesAt (c.addr + 0x1C) (leBytes 4 (2 ^ 31 + 2 ^ 30 + k.toNat * 2 ^ 26 + (if w then 2 else 1) * 2 ^ 24)) t ∧ BytesAt c.addr (leBytes 4 (d.control &&& 0x7FFFFFFF).toNat) t ∧ (∀ a, (a < d.dst.toNat ∨ d.dst.toNat + 64 ≤ a) → (a < c.addr ∨ c.addr + 32 ≤ a) → memByte t.fab.mem a = memByte s.fab.mem a) ∧ t.dma.owner = none ∧ (t.dmaCh n).state = .error ∧ (t.dmaCh n).flags = setBit c.flags 2 true ∧ SentOnly [faultMsg epDma (if n.val < 8 then 64 else 65) n.val (s.localTime epDma), eventMsg epDma (97 + 2 * n.val) (c.addr + 2)] s t ∧ t.odNat 0x520103 0 = s.odNat 0x520103 0 + 1 ∧ t.acts = s.acts) ∧
  (∀ (n : Fin 16) (c : DmaCh) (d : DmaDesc) (s : State), (s.dmaLive n = true ∧ s.dma.owner = some n ∧ s.dma.ch = [(n.val, c)] ∧ c.state = .aborting ∧ c.desc = some d ∧ d.len = 64 ∧ 0x10000000 ≤ d.src.toNat ∧ d.src.toNat + 64 ≤ 0x11800000 ∧ 0x10000000 ≤ d.dst.toNat ∧ d.dst.toNat + 64 ≤ 0x11800000 ∧ d.src.toNat % 64 = 0 ∧ d.dst.toNat % 64 = 0 ∧ 0x10000000 ≤ c.addr ∧ c.addr + 32 ≤ 0x11800000 ∧ (d.dst.toNat + 64 ≤ c.addr ∨ c.addr + 32 ≤ d.dst.toNat) ∧ s.refusal epDma (some n) (dmaAcc .read d.src.toNat 64 []) = none ∧ s.refusal epDma (some n) (dmaAcc .write d.dst.toNat 64 (List.replicate 64 0)) = none ∧ s.refusal epDma (some n) (dmaAcc .write c.addr 4 [0, 0, 0, 0]) = none ∧ s.refusal epDma (some n) (dmaAcc .write (c.addr + 0x1C) 4 [0, 0, 0, 0]) = none ∧ s.hm.brst = [] ∧ s.pwr.doms.all (fun e => !e.2.wantOff) = true ∧ Memory.wf s.fab.mem = true) →
   Completes (.dmaAbortComplete n 0 none) s fun t => BytesAt (c.addr + 0x1C) (leBytes 4 (2 ^ 31 + 2 ^ 30 + 15 * 2 ^ 26 + 3 * 2 ^ 24)) t ∧ BytesAt c.addr (leBytes 4 (d.control &&& 0x7FFFFFFF).toNat) t ∧ MemoryOutside c.addr 32 s t ∧ t.dma.owner = none ∧ (t.dmaCh n).state = .idle ∧ (t.dmaCh n).flags = c.flags ∧ SentOnly [eventMsg epDma (97 + 2 * n.val) (c.addr + 3)] s t ∧ t.acts = s.acts ∧ t.dict = s.dict)

/-- A report of a source whose reaction is the interrupt is counted, sets the source's IRQ and
PENDING with its kind, and enters the history with event 280 in the next slot once slot 0 is taken.
A report that brings WCOUNT to THRESH makes its source lasting, with event 281. One whose reaction
is a chip reset sets the cause and raises event 288. An injected report is taken as any other,
marked injected; only a principal core injects, and an absent source reports nothing. Buckets older
than the seven before the present one leave; a minute's summary starts the counts anew, with one
count record for a source with more than 16 entries. (16_hall_monitor.md) -/
def Obligations.FaultReportsAreRecordedAndEscalated : Prop :=
  (∀ (src : Endpoint) (n : Nat) (k : BitVec 4) (addr : BitVec 48) (time : BitVec 64) (x : HmSrc) (s : State), (s.fab.msgs = [{ src := src, dst := epMonitor, body := .fault (BitVec.ofNat 8 n) k addr time }] ∧ n < 160 ∧ srcActuator n = none ∧ s.hmSrc n = x ∧ x.lasting = false ∧ fld x.win.toNat 24 8 = 0 ∧ fld x.cfg.toNat 0 6 = 1 ∧ s.hm.histMin.toNat ≤ s.severity n ∧ s.severity n < 7 ∧ (Tab.get? s.hm.hist 0).isSome = true ∧ (Tab.rising s.hm.srcs = true ∧ Tab.rising s.hm.hist = true ∧ Tab.rising s.hm.minute = true)) →
   Completes (.faultReportIntake [src]) s fun t => t.fab.msgs = [eventMsg epMonitor 280 (n * 256 + k.toNat)] ∧ t.hm.seq = s.hm.seq + 1 ∧ (t.hmSrc n).irq = true ∧ (t.hmSrc n).pending = true ∧ (t.hmSrc n).kind = k ∧ (t.hmSrc n).lasting = false ∧ (t.hmSrc n).count = (if x.count = 0xFFFFFFFF then x.count else x.count + 1) ∧ (∀ m, m ≠ n → t.hmSrc m = s.hmSrc m) ∧ Tab.get? t.hm.hist s.hm.histNext = some { tSrc := time, tIn := s.now, addr := addr, source := BitVec.ofNat 8 n, kindSev := BitVec.ofNat 8 (16 * k.toNat + s.severity n), seq := s.hm.seq + 1, react := 1, simul := false, injected := false } ∧ t.hm.nmi = s.hm.nmi ∧ t.acts = s.acts ∧ MemorySame s t) ∧
  (∀ (src : Endpoint) (n : Nat) (k : BitVec 4) (addr : BitVec 48) (time : BitVec 64) (x : HmSrc) (s : State), (s.fab.msgs = [{ src := src, dst := epMonitor, body := .fault (BitVec.ofNat 8 n) k addr time }] ∧ n < 160 ∧ s.hmSrc n = x ∧ x.lasting = false ∧ fld x.win.toNat 24 8 = 1 ∧ fld x.cfg.toNat 0 6 = 0 ∧ fld x.cfg.toNat 8 6 = 1 ∧ s.severity n < s.hm.histMin.toNat ∧ s.severity n < 7 ∧ (Tab.rising s.hm.srcs = true ∧ Tab.rising s.hm.hist = true ∧ Tab.rising s.hm.minute = true)) →
   Completes (.faultReportIntake [src]) s fun t => (t.hmSrc n).lasting = true ∧ (t.hmSrc n).irq = true ∧ eventMsg epMonitor 281 n ∈ t.fab.msgs ∧ t.hm.hist = s.hm.hist ∧ (∀ m, m ≠ n → t.hmSrc m = s.hmSrc m) ∧ t.acts = s.acts ∧ MemorySame s t) ∧
  (∀ (src : Endpoint) (n : Nat) (k : BitVec 4) (addr : BitVec 48) (time : BitVec 64) (x : HmSrc) (s : State), (s.fab.msgs = [{ src := src, dst := epMonitor, body := .fault (BitVec.ofNat 8 n) k addr time }] ∧ n < 160 ∧ s.hmSrc n = x ∧ x.lasting = false ∧ fld x.win.toNat 24 8 = 0 ∧ fld x.cfg.toNat 0 6 = 8 ∧ s.severity n < 7 ∧ s.sys.powerLoss = none ∧ s.sys.chipResetBy = none ∧ (Tab.rising s.hm.srcs = true ∧ Tab.rising s.hm.hist = true ∧ Tab.rising s.hm.minute = true)) →
   Completes (.faultReportIntake [src]) s fun t => t.sys.chipResetBy = some (BitVec.ofNat 8 (1 + n)) ∧ t.hm.causeValid = true ∧ t.hm.causeSource = BitVec.ofNat 8 n ∧ t.hm.causeKind = k ∧ eventMsg epMonitor 288 n ∈ t.fab.msgs ∧ MemorySame s t) ∧
  (∀ (src : Endpoint) (s : State), (s.fab.msgs = []) →
   Completes (.faultReportIntake [src, src]) s fun t => t = s) ∧
  (∀ (n : Fin 160) (s : State), (Tab.rising s.hm.srcs = true) →
   Completes (.windowBucketRoll n) s fun t => (t.hmSrc n.val) = { (s.hmSrc n.val) with buckets := (s.hmSrc n.val).buckets.filter fun k => decide (s.ticks / bucketTicks (s.hmSrc n.val).win < k.1 + 8) } ∧ (∀ m, m ≠ n.val → t.hmSrc m = s.hmSrc m) ∧ t.fab = s.fab ∧ t.acts = s.acts ∧ t.dict = s.dict) ∧
  (∀ (s : State), (60 * secTicks ≤ s.since s.hm.minuteAt ∧ s.hm.minute.all (fun e => decide (e.2 ≤ 16)) = true) →
   Completes (.faultSummaryMinute) s fun t => t = s.onHm (fun h => { h with minute := [], minuteAt := s.now })) ∧
  (∀ (e : Nat × Nat) (s : State), (60 * secTicks ≤ s.since s.hm.minuteAt ∧ s.hm.minute = [e] ∧ 16 < e.2 ∧ s.ybDepth < 256) →
   Completes (.faultSummaryMinute) s fun t => t.hm.minute = [] ∧ t.yb.recs = s.yb.recs ++ [s.ybMake 7 (leBytes 1 e.1 ++ leBytes 4 e.2) false] ∧ t.fab = s.fab ∧ t.acts = s.acts ∧ t.dict = s.dict) ∧
  (∀ (src : Endpoint) (n k : Nat) (s : State), (3 < src.toNat) →
   Completes (.hmInject src n k) s fun t => t = s) ∧
  (∀ (src : Endpoint) (n k : Nat) (s : State), (src.toNat ≤ 3 ∧ s.srcAbsent n = true) →
   Completes (.hmInject src n k) s fun t => t = s.onHm (fun h => { h with injSource := BitVec.ofNat 8 n, injKind := BitVec.ofNat 4 k })) ∧
  (∀ (src : Endpoint) (n : Nat) (k : BitVec 4) (x : HmSrc) (s : State), (src.toNat ≤ 3 ∧ s.srcAbsent n = false ∧ n < 160 ∧ srcActuator n = none ∧ s.hmSrc n = x ∧ x.lasting = false ∧ fld x.win.toNat 24 8 = 0 ∧ fld x.cfg.toNat 0 6 = 1 ∧ s.hm.histMin.toNat ≤ s.severity n ∧ s.severity n < 7 ∧ (Tab.get? s.hm.hist 0).isSome = true ∧ (Tab.rising s.hm.srcs = true ∧ Tab.rising s.hm.hist = true ∧ Tab.rising s.hm.minute = true)) →
   Completes (.hmInject src n k.toNat) s fun t => (t.hmSrc n).irq = true ∧ (t.hmSrc n).pending = true ∧ (t.hmSrc n).kind = k ∧ (∀ m, m ≠ n → t.hmSrc m = s.hmSrc m) ∧ SentOnly [eventMsg epMonitor 280 (n * 256 + k.toNat)] s t ∧ ((Tab.get? t.hm.hist s.hm.histNext).map fun e => (e.source, e.injected, e.seq)) = some (BitVec.ofNat 8 n, true, s.hm.seq + 1) ∧ t.hm.injSource = BitVec.ofNat 8 n ∧ t.hm.injKind = k ∧ t.acts = s.acts ∧ MemorySame s t)

/-- CLEAR empties the history with event 284 and the next entry is the first error. FORCE sets HOLD
and restarts the timer, with event 285 if ERROR_OUT was not asserted. ERROR_OUT goes, with event 286
and how long it was asserted, when HOLD is clear and the timer has expired, whichever comes last;
the timer expires when its width has passed. Clearing LASTING raises event 282. A configuration with
BRST outside R463, or CRST for source 8 or 9, stores every other field and sets CONFLICT. A write
that changes WINDOW clears the buckets. (16_hall_monitor.md) -/
def Obligations.ErrorOutHistoryAndSourceRegisters : Prop :=
  (∀ (s : State),
   Completes (.historyClear) s fun t => t.hm = { s.hm with hist := [], histNext := 1 } ∧ SentOnly [eventMsg epMonitor 284 s.hm.hist.length] s t ∧ t.acts = s.acts ∧ t.dict = s.dict ∧ t.yb = s.yb ∧ MemorySame s t) ∧
  (∀ (s : State), (s.hm.eoHold = false ∧ s.hm.eoTimer = false) →
   Completes (.eoForce) s fun t => t.hm = { s.hm with eoHold := true, eoTimer := true, eoSince := s.now, eoEnds := s.inTicks (s.hm.eoWidth.toNat * usTicks) } ∧ SentOnly [eventMsg epMonitor 285 0xFF] s t ∧ t.acts = s.acts ∧ t.dict = s.dict ∧ MemorySame s t) ∧
  (∀ (s : State), (s.hm.eoHold = true ∨ s.hm.eoTimer = true) →
   Completes (.eoForce) s fun t => t = s.onHm (fun h => { h with eoHold := true, eoTimer := true, eoEnds := s.inTicks (s.hm.eoWidth.toNat * usTicks) })) ∧
  (∀ (s : State), (s.hm.eoTimer = true) →
   Completes (.eoHoldClear) s fun t => t = s.onHm (fun h => { h with eoHold := false })) ∧
  (∀ (s : State), (s.hm.eoTimer = false ∧ s.hm.eoHold = true) →
   Completes (.eoHoldClear) s fun t => t.hm = { s.hm with eoHold := false } ∧ SentOnly [eventMsg epMonitor 286 (s.since s.hm.eoSince / usTicks)] s t ∧ t.acts = s.acts ∧ t.dict = s.dict ∧ MemorySame s t) ∧
  (∀ (s : State), (s.now.toNat < s.hm.eoEnds.toNat) →
   Completes (.eoWidthExpiry) s fun t => t = s) ∧
  (∀ (s : State), (s.hm.eoHold = true ∧ s.hm.eoEnds.toNat ≤ s.now.toNat) →
   Completes (.eoWidthExpiry) s fun t => t = s.onHm (fun h => { h with eoTimer := false })) ∧
  (∀ (s : State), (s.hm.eoTimer = true ∧ s.hm.eoHold = false ∧ s.hm.eoEnds.toNat ≤ s.now.toNat) →
   Completes (.eoWidthExpiry) s fun t => t.hm = { s.hm with eoTimer := false } ∧ SentOnly [eventMsg epMonitor 286 (s.since s.hm.eoSince / usTicks)] s t ∧ t.acts = s.acts ∧ t.dict = s.dict ∧ MemorySame s t) ∧
  (∀ (n : Fin 160) (s : State), ((s.hmSrc n.val).lasting = true ∧ Tab.rising s.hm.srcs = true) →
   Completes (.lastingClear n) s fun t => t.hmSrc n.val = { s.hmSrc n.val with lasting := false } ∧ (∀ m, m ≠ n.val → t.hmSrc m = s.hmSrc m) ∧ SentOnly [eventMsg epMonitor 282 n.val] s t ∧ t.acts = s.acts ∧ t.dict = s.dict ∧ MemorySame s t) ∧
  (∀ (n : Fin 160) (s : State), ((s.hmSrc n.val).lasting = false) →
   Completes (.lastingClear n) s fun t => t = s) ∧
  (∀ (n : Fin 160) (v : BitVec 32) (s : State), ((n.val = 8 ∨ n.val = 9) ∧ v.getLsbD 3 = true ∧ Tab.rising s.hm.srcs = true) →
   Completes (.srcCfgWrite n v) s fun t => t.hmSrc n.val = { s.hmSrc n.val with cfg := v &&& 0x73003333 } ∧ t.hm.conflict = true ∧ (∀ m, m ≠ n.val → t.hmSrc m = s.hmSrc m) ∧ t.fab = s.fab ∧ t.acts = s.acts ∧ t.dict = s.dict) ∧
  (∀ (n : Fin 160) (v : BitVec 32) (s : State), ((brstUnit n.val 0).isSome = true ∧ Tab.rising s.hm.srcs = true) →
   Completes (.srcCfgWrite n v) s fun t => t.hmSrc n.val = { s.hmSrc n.val with cfg := v &&& 0x73003F3F } ∧ t.hm.conflict = s.hm.conflict ∧ (∀ m, m ≠ n.val → t.hmSrc m = s.hmSrc m) ∧ t.fab = s.fab ∧ t.acts = s.acts ∧ t.dict = s.dict) ∧
  (∀ (n : Fin 160) (v : BitVec 32) (s : State), (v.setWidth 24 = (s.hmSrc n.val).win.setWidth 24 ∧ Tab.rising s.hm.srcs = true) →
   Completes (.srcWinWrite n v) s fun t => t.hmSrc n.val = { s.hmSrc n.val with win := v } ∧ (∀ m, m ≠ n.val → t.hmSrc m = s.hmSrc m) ∧ t.fab = s.fab ∧ t.acts = s.acts ∧ t.dict = s.dict) ∧
  (∀ (n : Fin 160) (v : BitVec 32) (s : State), (v.setWidth 24 ≠ (s.hmSrc n.val).win.setWidth 24 ∧ Tab.rising s.hm.srcs = true) →
   Completes (.srcWinWrite n v) s fun t => t.hmSrc n.val = { s.hmSrc n.val with win := v, buckets := [] } ∧ (∀ m, m ≠ n.val → t.hmSrc m = s.hmSrc m) ∧ t.fab = s.fab ∧ t.acts = s.acts ∧ t.dict = s.dict)

/-- An append of a type within the rights of its bank enters the queue with the next SEQ; the bank
shows OK and that SEQ. A length above 32, a type outside the rights, a guest's rate exceeded and a
full queue are refused, each with its flag, and a refused guest append is not counted. The cursor
moves by one, not below 0, to the first record and to the last. Programming puts the oldest queued
record at the write point; a failed program takes the next slot with event 303; with nothing queued
nothing happens. A mirror receives the first sector it lacks. (17_yearbook.md) -/
def Obligations.YearbookAppendsMovesAndPrograms : Prop :=
  (∀ (w : YbWho) (ty : BitVec 16) (len : BitVec 6) (s : State), ((∀ a, w ≠ .actuator a) ∧ len.toNat ≤ 32 ∧ ybMay w ty.toNat = true ∧ s.ybDepth < 256 ∧ (Tab.rising s.yb.banks = true)) →
   Completes (.ybAppend w ty len) s fun t => t.yb.recs = s.yb.recs ++ [s.ybMake ty.toNat (((List.range 8).flatMap fun (i : Nat) => leBytes 4 (Tab.getD (s.ybBank (bankOf w)).app i 0).toNat).take len.toNat) false] ∧ t.yb.nextSeq = s.yb.nextSeq + 1 ∧ t.ybBank (bankOf w) = { s.ybBank (bankOf w) with ty := ty, len := len, ok := true, appSeq := s.yb.nextSeq } ∧ (∀ b, b ≠ bankOf w → t.ybBank b = s.ybBank b) ∧ t.yb.wp = s.yb.wp ∧ t.fab = s.fab ∧ t.acts = s.acts ∧ t.dict = s.dict) ∧
  (∀ (a : Fin 4) (ty : BitVec 16) (len : BitVec 6) (s : State), (len.toNat ≤ 32 ∧ 0x8000 + 0x1000 * a.val ≤ ty.toNat ∧ ty.toNat ≤ 0x8FFF + 0x1000 * a.val ∧ s.guestCount a < s.odNat 0x61000C 64 ∧ s.ybDepth < 256 ∧ (Tab.rising s.yb.banks = true)) →
   Completes (.ybAppend (.actuator a) ty len) s fun t => t.yb.recs.length = s.yb.recs.length + 1 ∧ (t.yb.recs.getLast?.map fun r => (r.seq, r.ty)) = some (s.yb.nextSeq, ty) ∧ t.yb.nextSeq = s.yb.nextSeq + 1 ∧ t.guestCount a = s.guestCount a + 1 ∧ (t.ybBank (5 + a.val)).ok = true ∧ (t.ybBank (5 + a.val)).appSeq = s.yb.nextSeq ∧ (∀ b, b ≠ 5 + a.val → t.ybBank b = s.ybBank b) ∧ t.fab = s.fab ∧ t.acts = s.acts ∧ t.dict = s.dict) ∧
  (∀ (w : YbWho) (ty : BitVec 16) (len : BitVec 6) (s : State), (32 < len.toNat ∧ (Tab.rising s.yb.banks = true)) →
   Completes (.ybAppend w ty len) s fun t => (t.ybBank (bankOf w)).ok = false ∧ (t.ybBank (bankOf w)).flags = setBit (s.ybBank (bankOf w)).flags 0 true ∧ (∀ b, b ≠ bankOf w → t.ybBank b = s.ybBank b) ∧ t.yb.recs = s.yb.recs ∧ t.yb.dropped = s.yb.dropped ∧ t.fab = s.fab ∧ t.acts = s.acts ∧ t.dict = s.dict) ∧
  (∀ (w : YbWho) (ty : BitVec 16) (len : BitVec 6) (s : State), (len.toNat ≤ 32 ∧ ybMay w ty.toNat = false ∧ (Tab.rising s.yb.banks = true)) →
   Completes (.ybAppend w ty len) s fun t => (t.ybBank (bankOf w)).ok = false ∧ (t.ybBank (bankOf w)).flags = setBit (s.ybBank (bankOf w)).flags 2 true ∧ (∀ b, b ≠ bankOf w → t.ybBank b = s.ybBank b) ∧ t.yb.recs = s.yb.recs ∧ t.yb.dropped = s.yb.dropped ∧ t.fab = s.fab ∧ t.acts = s.acts ∧ t.dict = s.dict) ∧
  (∀ (a : Fin 4) (ty : BitVec 16) (len : BitVec 6) (s : State), (len.toNat ≤ 32 ∧ ybMay (.actuator a) ty.toNat = true ∧ s.odNat 0x61000C 64 ≤ s.guestCount a ∧ (Tab.rising s.yb.banks = true)) →
   Completes (.ybAppend (.actuator a) ty len) s fun t => (t.ybBank (5 + a.val)).ok = false ∧ (t.ybBank (5 + a.val)).flags = setBit (s.ybBank (5 + a.val)).flags 3 true ∧ t.yb.recs = s.yb.recs ∧ t.yb.dropped = s.yb.dropped ∧ t.guestCount a = s.guestCount a ∧ t.fab = s.fab ∧ t.acts = s.acts ∧ t.dict = s.dict) ∧
  (∀ (a : Fin 4) (ty : BitVec 16) (len : BitVec 6) (s : State), (len.toNat ≤ 32 ∧ ybMay (.actuator a) ty.toNat = true ∧ s.guestCount a < s.odNat 0x61000C 64 ∧ 256 ≤ s.ybDepth ∧ (Tab.rising s.yb.banks = true)) →
   Completes (.ybAppend (.actuator a) ty len) s fun t => (t.ybBank (5 + a.val)).ok = false ∧ (t.ybBank (5 + a.val)).flags = setBit (s.ybBank (5 + a.val)).flags 1 true ∧ t.yb.recs = s.yb.recs ∧ t.yb.dropped = s.yb.dropped ∧ t.fab = s.fab ∧ t.acts = s.acts ∧ t.dict = s.dict) ∧
  (∀ (w : YbWho) (ty : BitVec 16) (len : BitVec 6) (s : State), ((∀ a, w ≠ .actuator a) ∧ len.toNat ≤ 32 ∧ ybMay w ty.toNat = true ∧ 256 ≤ s.ybDepth ∧ (Tab.rising s.yb.banks = true)) →
   Completes (.ybAppend w ty len) s fun t => (t.ybBank (bankOf w)).ok = false ∧ (t.ybBank (bankOf w)).flags = setBit (s.ybBank (bankOf w)).flags 1 true ∧ t.yb.recs = s.yb.recs ∧ t.yb.dropped = s.yb.dropped + 1 ∧ t.odNat 0x610008 0 = s.odNat 0x610008 0 + 1 ∧ t.fab = s.fab ∧ t.acts = s.acts) ∧
  (∀ (w : YbWho) (s : State), ((Tab.rising s.yb.banks = true)) →
   Completes (.ybCursorNext w) s fun t => t.ybBank (bankOf w) = { s.ybBank (bankOf w) with cur := (s.ybBank (bankOf w)).cur + 1 } ∧ (∀ b, b ≠ bankOf w → t.ybBank b = s.ybBank b) ∧ t.yb.recs = s.yb.recs ∧ t.fab = s.fab ∧ t.acts = s.acts ∧ t.dict = s.dict) ∧
  (∀ (w : YbWho) (s : State), ((Tab.rising s.yb.banks = true)) →
   Completes (.ybCursorPrev w) s fun t => t.ybBank (bankOf w) = { s.ybBank (bankOf w) with cur := (if (s.ybBank (bankOf w)).cur = 0 then 0 else (s.ybBank (bankOf w)).cur - 1) } ∧ (∀ b, b ≠ bankOf w → t.ybBank b = s.ybBank b) ∧ t.yb.recs = s.yb.recs ∧ t.fab = s.fab ∧ t.acts = s.acts ∧ t.dict = s.dict) ∧
  (∀ (w : YbWho) (s : State), ((Tab.rising s.yb.banks = true)) →
   Completes (.ybCursorToFirst w) s fun t => t.ybBank (bankOf w) = { s.ybBank (bankOf w) with cur := s.yb.firstSeq } ∧ (∀ b, b ≠ bankOf w → t.ybBank b = s.ybBank b) ∧ t.yb.recs = s.yb.recs ∧ t.fab = s.fab ∧ t.acts = s.acts ∧ t.dict = s.dict) ∧
  (∀ (w : YbWho) (s : State), ((Tab.rising s.yb.banks = true)) →
   Completes (.ybCursorToLast w) s fun t => t.ybBank (bankOf w) = { s.ybBank (bankOf w) with cur := s.yb.nextSeq - 1 } ∧ (∀ b, b ≠ bankOf w → t.ybBank b = s.ybBank b) ∧ t.yb.recs = s.yb.recs ∧ t.fab = s.fab ∧ t.acts = s.acts ∧ t.dict = s.dict) ∧
  (∀ (r : YbRec) (e : Bool) (s : State), (s.yb.recs = [r] ∧ r.slot = none ∧ s.yb.wp % 1024 ≠ 0 ∧ s.yb.skip = [] ∧ s.yb.dropped = 0) →
   Completes (.ybProgram { programmed := true, erased := e }) s fun t => t = s.onYb (fun y => { y with recs := [{ r with slot := some s.yb.wp }], wp := (s.yb.wp + 1) % 65536 })) ∧
  (∀ (r : YbRec) (e : Bool) (s : State), (s.yb.recs = [r] ∧ r.slot = none ∧ s.yb.wp % 1024 ≠ 0 ∧ s.yb.skip = []) →
   Completes (.ybProgram { programmed := false, erased := e }) s fun t => t.yb = { s.yb with wp := (s.yb.wp + 1) % 65536 } ∧ SentOnly [eventMsg epYearbook 303 (0xF0000 + s.yb.wp)] s t ∧ MemorySame s t ∧ t.acts = s.acts ∧ t.dict = s.dict) ∧
  (∀ (ok e : Bool) (s : State), (s.ybOldest = none) →
   Completes (.ybProgram { programmed := ok, erased := e }) s fun t => t = s) ∧
  (∀ (r : YbRec) (e : Bool) (s : State), (s.yb.recs = [r] ∧ r.slot = none ∧ 10 * secTicks ≤ s.since r.queuedAt ∧ s.yb.wp % 1024 ≠ 0 ∧ s.yb.skip = [] ∧ s.yb.dropped = 0) →
   Completes (.ybForceProgram { programmed := true, erased := e }) s fun t => t = s.onYb (fun y => { y with recs := [{ r with slot := some s.yb.wp }], wp := (s.yb.wp + 1) % 65536 })) ∧
  (∀ (r : YbRec) (ok e : Bool) (s : State), (s.yb.recs = [r] ∧ s.since r.queuedAt < 10 * secTicks) →
   Completes (.ybForceProgram { programmed := ok, erased := e }) s fun t => t = s) ∧
  (∀ (a : Fin 4) (f : Nat) (s : State), (s.usable a = true ∧ s.sys.mapRestored = true ∧ s.sys.mode ≠ .limited ∧ s.mirrorDue = true ∧ s.mirrorNext a = some f) →
   Completes (.ybMirrorWrite a) s fun t => t.yb.mirrored.get a = s.yb.mirrored.get a ++ [f] ∧ (∀ b, b ≠ a → t.yb.mirrored.get b = s.yb.mirrored.get b) ∧ t.yb.recs = s.yb.recs ∧ t.yb.mirrorAt = s.now ∧ MemorySame s t ∧ t.acts = s.acts ∧ t.dict = s.dict) ∧
  (∀ (a : Fin 4) (s : State), (s.mirrorNext a = none) →
   Completes (.ybMirrorWrite a) s fun t => t = s)

/-- A requester that may want a domain on closes its switch, 20 us after the last at the earliest,
with event 17, or has it wait for the domain it depends on; any other request does nothing. A domain
whose dependants are off begins to drain and, once its switch is open, is off with event 18. Power
good missed is fault source 149 and the third failure in a row suspends the domain; an overrun of
the fill is source 39. A domain that becomes ready is on, its memories hold zeros. Every 100 us an
island below its target slack steps 5 mV up, above it by 20 ps 5 mV down; a droop alarm adds 25 mV
with fault source 144 and puts the next step 100 us off; 10 ms at 0.85 V below the target is source
145 once. A bad sample makes its sensor faulty with source 148 and event 22; a good one is the
temperature, and at HW_WARN source 146. (02_modes_and_bringup.md; 18_ageing_power_thermal.md) -/
def Obligations.DomainsSuppliesAndTemperatures : Prop :=
  (∀ (d : Fin 32) (w : Requester) (s : State), (domAllowed d.val true w = true ∧ s.wantsOn d.val w = true ∧ s.sys.powerLoss = none ∧ s.domPresent d.val = true ∧ (s.dom d.val).suspended = false ∧ (s.dom d.val).state = .off ∧ (match domDep d.val with | none => true | some e => decide ((s.dom e).state = .on)) = true ∧ Tab.rising s.pwr.doms = true) →
   Completes (.domainSwitchOn d w) s fun t => t.dom d.val = { s.dom d.val with state := .switchingOn, wantOn := false, onAt := s.nextOn } ∧ (∀ e, e ≠ d.val → t.dom e = s.dom e) ∧ SentOnly [eventMsg epTimetable 17 d.val] s t ∧ t.odNat 0x630004 0 = s.odNat 0x630004 0 + 1 ∧ t.acts = s.acts ∧ MemorySame s t) ∧
  (∀ (d : Fin 32) (w : Requester) (e : Nat) (s : State), (domAllowed d.val true w = true ∧ s.wantsOn d.val w = true ∧ s.sys.powerLoss = none ∧ s.domPresent d.val = true ∧ (s.dom d.val).suspended = false ∧ (s.dom d.val).state = .off ∧ domDep d.val = some e ∧ (s.dom e).state ≠ .on ∧ Tab.rising s.pwr.doms = true) →
   Completes (.domainSwitchOn d w) s fun t => t.dom d.val = { s.dom d.val with wantOn := true, wantOff := false } ∧ (∀ e, e ≠ d.val → t.dom e = s.dom e) ∧ t.fab = s.fab ∧ t.acts = s.acts ∧ t.dict = s.dict) ∧
  (∀ (d : Fin 32) (w : Requester) (s : State), (domAllowed d.val true w = false ∨ s.wantsOn d.val w = false ∨ s.sys.powerLoss.isSome = true) →
   Completes (.domainSwitchOn d w) s fun t => t = s) ∧
  (∀ (d : Fin 32) (w : Requester) (s : State), (domAllowed d.val false w = true ∧ s.wantsOff d.val w = true ∧ s.poolRefuses d.val = false ∧ (s.dom d.val).state = .on ∧ d.val ≠ 19 ∧ (domUsers d.val).all (fun e => decide ((s.dom e).state = .off)) = true ∧ Tab.rising s.pwr.doms = true) →
   Completes (.domainSwitchOff d w) s fun t => t.dom d.val = { s.dom d.val with state := .draining, wantOff := false } ∧ (∀ e, e ≠ d.val → t.dom e = s.dom e) ∧ t.fab = s.fab ∧ t.acts = s.acts ∧ t.dict = s.dict) ∧
  (∀ (d : Fin 32) (w : Requester) (s : State), (domAllowed d.val false w = false ∨ s.wantsOff d.val w = false) →
   Completes (.domainSwitchOff d w) s fun t => t = s) ∧
  (∀ (d : Fin 32) (s : State), ((s.dom d.val).state = .switchingOn ∧ (s.dom d.val).fails < 2 ∧ s.onFor d.val (50 * usTicks) = true ∧ s.pwr.doms.all (fun e => !e.2.wantOff) = true ∧ Tab.rising s.pwr.doms = true) →
   Completes (.powerGoodTimeout d) s fun t => t.dom d.val = { s.dom d.val with state := .off, fails := (s.dom d.val).fails + 1 } ∧ (∀ e, e ≠ d.val → t.dom e = s.dom e) ∧ SentOnly [faultAtMsg epTimetable 149 0 d.val (s.localTime epTimetable)] s t ∧ t.acts = s.acts ∧ t.dict = s.dict ∧ MemorySame s t) ∧
  (∀ (d : Fin 32) (s : State), ((s.dom d.val).state = .switchingOn ∧ (s.dom d.val).fails = 2 ∧ s.onFor d.val (50 * usTicks) = true ∧ s.sys.mode ≠ .orientation ∧ Tab.rising s.pwr.doms = true) →
   Completes (.powerGoodTimeout d) s fun t => (t.dom d.val).suspended = true ∧ (t.dom d.val).fails = 3 ∧ (∀ a, domAct d.val = some a → actIn t.sys.unsafeActs a = true) ∧ Sent (faultAtMsg epTimetable 149 0 d.val (s.localTime epTimetable)) s t ∧ MemorySame s t) ∧
  (∀ (d : Fin 32) (s : State), ((s.dom d.val).state = .switchingOn ∧ s.onFor d.val (2 * msTicks) = true ∧ Tab.rising s.pwr.doms = true) →
   Completes (.domainFillOverrun d) s fun t => t.dom d.val = { s.dom d.val with state := .filling } ∧ (∀ e, e ≠ d.val → t.dom e = s.dom e) ∧ SentOnly [faultAtMsg epTimetable 39 0 d.val (s.localTime epTimetable)] s t ∧ t.acts = s.acts ∧ t.dict = s.dict ∧ MemorySame s t) ∧
  (∀ (d : Fin 32) (k : Option (Fin 3)) (bad : List (Fin 128)) (s : State), (((s.dom d.val).state = .switchingOn ∨ (s.dom d.val).state = .filling) ∧ s.onFor d.val 0 = true ∧ s.sys.entry = none ∧ s.sys.exiting = false ∧ s.sys.shutStage = none ∧ s.pwr.doms.all (fun e => !e.2.wantOff && !e.2.wantOn) = true ∧ Tab.rising s.pwr.doms = true) →
   Completes (.domainReady d k bad) s fun t => (t.dom d.val).state = .on ∧ (t.dom d.val).fails = 0 ∧ (∀ r ∈ domMemory d.val, ∀ a, r.1 ≤ a → a < r.2 → memByte t.fab.mem a = 0) ∧ (∀ a, (∀ r ∈ domMemory d.val, ¬ (r.1 ≤ a ∧ a < r.2)) → memByte t.fab.mem a = memByte s.fab.mem a)) ∧
  (∀ (d : Fin 32) (s : State), ((s.dom d.val).state = .draining ∧ s.sys.entry = none ∧ s.sys.exiting = false ∧ s.sys.shutStage = none ∧ s.pwr.doms.all (fun e => !e.2.wantOff && !e.2.wantOn) = true ∧ Tab.rising s.pwr.doms = true) →
   Completes (.domainDrained d true) s fun t => (t.dom d.val).state = .off ∧ (t.dom d.val).fails = 0 ∧ Sent (eventMsg epTimetable 18 d.val) s t ∧ MemorySame s t) ∧
  (∀ (d : Fin 32) (s : State), ((s.dom d.val).state = .draining ∧ (s.dom d.val).fails = 0 ∧ s.sys.entry = none ∧ s.sys.exiting = false ∧ s.sys.shutStage = none ∧ s.pwr.doms.all (fun e => !e.2.wantOff && !e.2.wantOn) = true ∧ Tab.rising s.pwr.doms = true) →
   Completes (.domainDrained d false) s fun t => (t.dom d.val).state = .off ∧ (t.dom d.val).fails = 1 ∧ Sent (faultAtMsg epTimetable 149 1 d.val (s.localTime epTimetable)) s t ∧ MemorySame s t) ∧
  (∀ (i : Fin 12) (x : Int) (s : State), (s.regulateDue i.val = true ∧ x < s.slackTarget i.val ∧ Tab.rising s.pwr.islands = true) →
   Completes (.supplyRegulate i x) s fun t => (t.supply i.val).mv = min 850 ((s.supply i.val).mv + 5) ∧ (t.supply i.val).regAt = s.now ∧ ((s.supply i.val).mv = 850 → (s.supply i.val).lowSince = none → (t.supply i.val).lowSince = some s.now) ∧ (∀ j, j ≠ i.val → t.supply j = s.supply j) ∧ t.pwr.doms = s.pwr.doms ∧ t.acts = s.acts ∧ t.dict = s.dict ∧ MemorySame s t) ∧
  (∀ (i : Fin 12) (x : Int) (s : State), (s.regulateDue i.val = true ∧ s.slackTarget i.val + 20 < x ∧ Tab.rising s.pwr.islands = true) →
   Completes (.supplyRegulate i x) s fun t => (t.supply i.val).mv = max 650 ((s.supply i.val).mv - 5) ∧ (∀ j, j ≠ i.val → t.supply j = s.supply j) ∧ t.pwr.doms = s.pwr.doms ∧ t.acts = s.acts ∧ t.dict = s.dict ∧ MemorySame s t) ∧
  (∀ (i : Fin 12) (x : Int) (s : State), (s.regulateDue i.val = true ∧ s.slackTarget i.val ≤ x ∧ x ≤ s.slackTarget i.val + 20 ∧ Tab.rising s.pwr.islands = true) →
   Completes (.supplyRegulate i x) s fun t => (t.supply i.val).mv = (s.supply i.val).mv ∧ (∀ j, j ≠ i.val → t.supply j = s.supply j) ∧ t.pwr.doms = s.pwr.doms ∧ t.acts = s.acts ∧ t.dict = s.dict ∧ MemorySame s t) ∧
  (∀ (i : Fin 12) (x : Int) (s : State), (s.regulateDue i.val = false) →
   Completes (.supplyRegulate i x) s fun t => t = s) ∧
  (∀ (x : Int) (s : State),
   Completes (.supplyRegulate 0 x) s fun t => t = s) ∧
  (∀ (i : Fin 12) (s : State), (s.supplied i.val = true ∧ (s.supply i.val).ev20At = none ∧ Tab.rising s.pwr.islands = true) →
   Completes (.droopAlarm i) s fun t => (t.supply i.val).mv = min 850 ((s.supply i.val).mv + 25) ∧ (t.supply i.val).regAt = s.now ∧ (t.supply i.val).droops = (s.supply i.val).droops + 1 ∧ (∀ j, j ≠ i.val → t.supply j = s.supply j) ∧ Sent (faultMsg epTimetable 144 i.val (s.localTime epTimetable)) s t ∧ Sent (eventMsg epTimetable 20 i.val) s t ∧ t.odNat (0x631301 + i.val) 0 = s.odNat (0x631301 + i.val) 0 + 1 ∧ t.acts = s.acts ∧ MemorySame s t) ∧
  (∀ (i : Fin 12) (u : BitVec 64) (s : State), (s.supplied i.val = true ∧ (s.supply i.val).lowSince = some u ∧ 10 * msTicks ≤ s.since u ∧ (s.supply i.val).exhausted = false ∧ Tab.rising s.pwr.islands = true) →
   Completes (.headroomExhausted i) s fun t => t.supply i.val = { s.supply i.val with exhausted := true } ∧ (∀ j, j ≠ i.val → t.supply j = s.supply j) ∧ SentOnly [faultMsg epTimetable 145 i.val (s.localTime epTimetable)] s t ∧ t.acts = s.acts ∧ t.dict = s.dict ∧ MemorySame s t) ∧
  (∀ (k : Fin 8) (s : State), (s.sensorGood k.val = true ∧ s.tempDue k.val = true) →
   Completes (.tempSample k none) s fun t => t.sensorGood k.val = false ∧ (∀ j, j ≠ k.val → t.sensorGood j = s.sensorGood j) ∧ t.pwr.temps = s.pwr.temps ∧ Sent (faultMsg epTimetable 148 k.val (s.localTime epTimetable)) s t ∧ Sent (eventMsg epTimetable 22 k.val) s t ∧ t.acts = s.acts ∧ MemorySame s t) ∧
  (∀ (k : Fin 8) (v : Int) (s : State), (s.sensorGood k.val = true ∧ s.tempDue k.val = true ∧ s.sampleBad k.val (some v) = false ∧ s.pwr.temps.length = 8) →
   Completes (.tempSample k (some v)) s fun t => t.temp k.val = v ∧ (∀ j, j < 8 → j ≠ k.val → t.temp j = s.temp j) ∧ t.pwr.sensorOk = s.pwr.sensorOk ∧ t.acts = s.acts ∧ MemorySame s t) ∧
  (∀ (k : Fin 8) (v : Int) (s : State), (k.val < 6 ∧ s.sensorGood k.val = true ∧ s.tempDue k.val = true ∧ s.sampleBad k.val (some v) = false ∧ s.pwr.temps.length = 8 ∧ s.pwr.hwWarn = false ∧ 8 * s.p6320HwWarn ≤ v) →
   Completes (.tempSample k (some v)) s fun t => t.pwr.hwWarn = true ∧ Sent (faultMsg epTimetable 146 k.val (s.localTime epTimetable)) s t ∧ Sent (eventMsg epTimetable 21 (1 + 2 * k.val)) s t ∧ t.acts = s.acts ∧ MemorySame s t)

/-- A due head of a usable actuator in SERVICE that protection does not hold takes its measurement,
with event 304; its first in a fused chip is the baseline, and a metric that crosses into a higher
class triggers a re-plan with event 306. The spindle current is taken in RUN, locked, at rated speed
or CRUISE_MIN, 1 s after a change of target, once per power-on hour; the first at rated speed is the
baseline, and a drift beyond SPIN_DRIFT is event 311 and a trigger. A re-plan that is not due does
nothing; one that is counts, starts the next interval with event 305 and never lowers a head's
class. (18_ageing_power_thermal.md) -/
def Obligations.ReportCardMeasuresAndReplans : Prop :=
  (∀ (a : Fin 4) (h : BitVec 5) (m : Measurement) (s : State), (s.mayMeasure a h m = true ∧ Tab.rising s.rc.heads = true) →
   Completes (.headMeasurement a h m) s fun t => (t.card a h.toNat).latest = some (s.measured a h m) ∧ (t.card a h.toNat).cls = (s.card a h.toNat).cls ∧ (s.ident.tier ≠ .unfused → (s.card a h.toNat).baseline = none → (t.card a h.toNat).baseline = (t.card a h.toNat).latest) ∧ ((s.card a h.toNat).baseline.isSome = true → (t.card a h.toNat).baseline = (s.card a h.toNat).baseline) ∧ Sent (eventMsg epReport 304 (a.val * 2 ^ 24 + h.toNat)) s t ∧ t.acts = s.acts ∧ t.dict = s.dict ∧ MemorySame s t) ∧
  (∀ (a : Fin 4) (h : BitVec 5) (m : Measurement) (s : State), (s.mayMeasure a h m = false) →
   Completes (.headMeasurement a h m) s fun t => t = s) ∧
  (∀ (q k n : Nat) (s : State), (q / k = n ∧ s.spn.state = .run ∧ s.spn.rampDue = false ∧ s.spn.locked = true ∧ 2 * secTicks ≤ s.since s.spn.targetAt ∧ secTicks ≤ s.since s.spn.enteredAt ∧ s.spinDue s.p2010RatedRpm s.rc.ratedPoh = false ∧ s.spinDue s.p2040CruiseMin s.rc.minPoh = true) →
   Completes (.spindleCurrentMeasure q k) s fun t => t = s.onRc (fun r => { r with spinMin := some n, minPoh := some s.poh })) ∧
  (∀ (q k n : Nat) (s : State), (q / k = n ∧ s.spn.state = .run ∧ s.spn.rampDue = false ∧ s.spn.locked = true ∧ 2 * secTicks ≤ s.since s.spn.targetAt ∧ secTicks ≤ s.since s.spn.enteredAt ∧ s.spinDue s.p2010RatedRpm s.rc.ratedPoh = true ∧ s.rc.spinRated = none ∧ s.rc.spinBase = none) →
   Completes (.spindleCurrentMeasure q k) s fun t => t = s.onRc (fun r => { r with spinRated := some n, spinBase := some n, ratedPoh := some s.poh })) ∧
  (∀ (q k n b : Nat) (s : State), (q / k = n ∧ s.spn.state = .run ∧ s.spn.rampDue = false ∧ s.spn.locked = true ∧ 2 * secTicks ≤ s.since s.spn.targetAt ∧ secTicks ≤ s.since s.spn.enteredAt ∧ s.spinDue s.p2010RatedRpm s.rc.ratedPoh = true ∧ s.rc.spinRated = none ∧ s.rc.spinBase = some b ∧ s.p6200SpinDrift < 1000 * (max n b - min n b) / max 1 b ∧ s.rc.trigger = none) →
   Completes (.spindleCurrentMeasure q k) s fun t => t.rc.spinRated = some n ∧ t.rc.spinBase = some b ∧ t.rc.trigger = some 3 ∧ SentOnly [eventMsg epReport 311 (1000 * (max n b - min n b) / max 1 b), eventMsg epReport 306 3] s t ∧ t.acts = s.acts ∧ t.dict = s.dict ∧ MemorySame s t) ∧
  (∀ (q k n : Nat) (s : State), (q / k = n ∧ s.spinSteady = false) →
   Completes (.spindleCurrentMeasure q k) s fun t => t = s) ∧
  (∀ (r : List (Nat × Nat)) (s : State), (s.replanDue = false) →
   Completes (.replan r) s fun t => t = s) ∧
  (∀ (r : List (Nat × Nat)) (s : State), (s.replanDue = true ∧ Tab.rising s.rc.heads = true) →
   Completes (.replan r) s fun t => t.rc.trigger = none ∧ t.rc.lastReplan = s.poh ∧ t.rc.min12 = s.sys.v12 ∧ t.rc.min5 = s.sys.v5 ∧ (∀ a k, (s.card a k).cls.toNat ≤ (t.card a k).cls.toNat) ∧ t.odNat 0x62000A 0 = s.odNat 0x62000A 0 + 1 ∧ MemorySame s t)

/-- An event message sets its PEND and its qualifier, and OVR if it was pending; a number above 351
sets BAD_EVENT. A clear takes exactly its bits out of PEND, and a target's interrupt line stays up
only with an event both pending and enabled. RUN starts a timer, or is refused with CONFLICT for a
reload of 0; STOP ends it; a fire sends event 320 + t with the count of fires and reloads a periodic
timer. A selected edge of a filtered pin is event 336 + g from core release on. A prompt is 0x43; a
block in sequence with a right CRC is taken with 0x06, a repeated one is acknowledged, and any other
refused with 0x15; the end stores the image in slot 2 and asks for a chip reset, or starts anew.
JTAG takes an instruction other than BYPASS and IDCODE while it is open. LED_ACT goes out 50 ms
after the last media operation. (19_events.md; 20_ports_and_electrical.md) -/
def Obligations.EventsTimersGpioAndPorts : Prop :=
  (∀ (src : Endpoint) (e : BitVec 9) (q : BitVec 32) (s : State), (s.fab.msgs = [{ src := src, dst := epEvents, body := .event e q }] ∧ e.toNat ≤ 351 ∧ s.tims = [] ∧ Tab.rising s.evc.qual = true) →
   Completes (.eventIntake src) s fun t => t.fab.msgs = [] ∧ (∀ k, k < 352 → t.evc.pend.getLsbD k = (s.evc.pend.getLsbD k || k == e.toNat)) ∧ (∀ k, k < 352 → t.evc.ovr.getLsbD k = (s.evc.ovr.getLsbD k || (k == e.toNat && s.evc.pend.getLsbD k))) ∧ Tab.getD t.evc.qual e.toNat 0 = q ∧ (∀ k, k ≠ e.toNat → Tab.getD t.evc.qual k 0 = Tab.getD s.evc.qual k 0) ∧ t.odNat 0x640003 0 = s.odNat 0x640003 0 + 1 ∧ t.acts = s.acts ∧ MemorySame s t) ∧
  (∀ (src : Endpoint) (e : BitVec 9) (q : BitVec 32) (s : State), (s.fab.msgs = [{ src := src, dst := epEvents, body := .event e q }] ∧ 351 < e.toNat) →
   Completes (.eventIntake src) s fun t => t.fab.msgs = [] ∧ t.evc = { s.evc with badEvent := true } ∧ t.odNat 0x640004 0 = s.odNat 0x640004 0 + 1 ∧ t.acts = s.acts ∧ MemorySame s t) ∧
  (∀ (src : Endpoint) (s : State), (s.fab.msgs = []) →
   Completes (.eventIntake src) s fun t => t = s) ∧
  (∀ (w : Fin 11) (b : BitVec 32) (s : State),
   Completes (.evcPendClear w b) s fun t => (∀ k, k < 352 → t.evc.pend.getLsbD k = (s.evc.pend.getLsbD k && !(k / 32 == w.val && b.getLsbD (k % 32)))) ∧ t = s.onEvc (fun v => { v with pend := t.evc.pend }) ∧ (∀ c : Fin 5, t.irqLine c.val = true → ∃ e : Fin 352, t.evc.pend.getLsbD e.val = true ∧ (Tab.getD t.evc.en c.val 0).getLsbD e.val = true)) ∧
  (∀ (n : Fin 16) (v : BitVec 32) (s : State), (s.domOn 19 = true ∧ (v.extractLsb' 28 2 = 0 ∨ v.extractLsb' 28 2 = 1) ∧ (s.timer n.val).reload ≠ 0 ∧ Tab.rising s.tims = true) →
   Completes (.timRun n v) s fun t => t.timer n.val = { s.timer n.val with mode := v.extractLsb' 28 2, src := v.extractLsb' 0 9, run := true, counting := true, armedAt := s.now, count := (s.timer n.val).reload, fires := 0 } ∧ (∀ j, j ≠ n.val → t.timer j = s.timer j) ∧ t.fab = s.fab ∧ t.acts = s.acts ∧ t.dict = s.dict) ∧
  (∀ (n : Fin 16) (v : BitVec 32) (s : State), (s.domOn 19 = true ∧ v.extractLsb' 28 2 = 2 ∧ (v.extractLsb' 0 9).toNat ≠ 320 + n.val ∧ Tab.rising s.tims = true) →
   Completes (.timRun n v) s fun t => t.timer n.val = { s.timer n.val with mode := 2, src := v.extractLsb' 0 9, run := true, counting := false, armedAt := s.now, fires := 0 } ∧ (∀ j, j ≠ n.val → t.timer j = s.timer j) ∧ t.fab = s.fab ∧ t.acts = s.acts ∧ t.dict = s.dict) ∧
  (∀ (n : Fin 16) (v : BitVec 32) (s : State), (s.domOn 19 = true ∧ (v.extractLsb' 28 2 = 0 ∨ v.extractLsb' 28 2 = 1) ∧ (s.timer n.val).reload = 0 ∧ Tab.rising s.tims = true) →
   Completes (.timRun n v) s fun t => t.timer n.val = { s.timer n.val with mode := v.extractLsb' 28 2, src := v.extractLsb' 0 9, flags := setBit (s.timer n.val).flags 2 true } ∧ (∀ j, j ≠ n.val → t.timer j = s.timer j) ∧ t.fab = s.fab ∧ t.acts = s.acts ∧ t.dict = s.dict) ∧
  (∀ (n : Fin 16) (s : State), (s.domOn 19 = true ∧ Tab.rising s.tims = true) →
   Completes (.timStop n) s fun t => t.timer n.val = { s.timer n.val with run := false, counting := false } ∧ (∀ j, j ≠ n.val → t.timer j = s.timer j) ∧ t.fab = s.fab ∧ t.acts = s.acts ∧ t.dict = s.dict) ∧
  (∀ (n : Fin 16) (s : State), (s.timerDue n.val = true ∧ (s.timer n.val).mode = 0 ∧ s.dma.ch = [] ∧ Tab.rising s.tims = true) →
   Completes (.timerFire n) s fun t => t.timer n.val = { s.timer n.val with run := false, counting := false, count := 0, fires := (s.timer n.val).fires + 1, flags := setBit (s.timer n.val).flags 0 true } ∧ SentOnly [eventMsg epDma (320 + n.val) ((s.timer n.val).fires + 1).toNat] s t ∧ (∀ j, j ≠ n.val → t.timer j = s.timer j) ∧ t.dma = s.dma ∧ t.acts = s.acts ∧ t.dict = s.dict ∧ MemorySame s t) ∧
  (∀ (n : Fin 16) (s : State), (s.timerDue n.val = true ∧ (s.timer n.val).mode = 1 ∧ s.dma.ch = [] ∧ Tab.rising s.tims = true) →
   Completes (.timerFire n) s fun t => t.timer n.val = { s.timer n.val with count := (s.timer n.val).reload, fires := (s.timer n.val).fires + 1, flags := setBit (s.timer n.val).flags 0 true } ∧ SentOnly [eventMsg epDma (320 + n.val) ((s.timer n.val).fires + 1).toNat] s t ∧ (∀ j, j ≠ n.val → t.timer j = s.timer j) ∧ t.dma = s.dma ∧ t.acts = s.acts ∧ t.dict = s.dict ∧ MemorySame s t) ∧
  (∀ (g : Fin 16) (l : Bool) (s : State), (s.evc.gpioLevel.getLsbD g.val ≠ l ∧ s.sys.coreReleased = true ∧ s.evc.gpioEdge.getLsbD (2 * g.val + (if l then 0 else 1)) = true) →
   Completes (.gpioEdge g l) s fun t => t.evc.gpioLevel.getLsbD g.val = l ∧ (∀ j, j ≠ g.val → t.evc.gpioLevel.getLsbD j = s.evc.gpioLevel.getLsbD j) ∧ SentOnly [eventMsg epSystem (336 + g.val) (if l then 3 else 0)] s t ∧ t.acts = s.acts ∧ t.dict = s.dict ∧ MemorySame s t) ∧
  (∀ (g : Fin 16) (l : Bool) (s : State), (s.evc.gpioLevel.getLsbD g.val ≠ l ∧ s.sys.coreReleased = false) →
   Completes (.gpioEdge g l) s fun t => t.evc.gpioLevel.getLsbD g.val = l ∧ t.evc.pend = s.evc.pend ∧ t.fab = s.fab ∧ t.acts = s.acts ∧ t.dict = s.dict) ∧
  (∀ (s : State), (s.ports.uart = .prompting ∧ s.uartQuiet 1 = true) →
   Completes (.uartPrompt) s fun t => t = s.onPorts (fun p => { p with uartTx := p.uartTx ++ [0x43], uartAt := some s.now })) ∧
  (∀ (q : BitVec 8) (d : List (BitVec 8)) (c : BitVec 32) (s : State), (s.ports.uart ≠ .off ∧ 1 ≤ d.length ∧ d.length ≤ 1024 ∧ c.toNat = crc32 (uartCovered q d) ∧ s.ports.uartSeq = q ∧ s.ports.uartLast ≠ some q ∧ s.ports.uartImage.length + d.length ≤ 2 ^ 24) →
   Completes (.uartBlock q d c) s fun t => t.ports = { s.ports with uart := .receiving, uartAt := some s.now, uartSeq := s.ports.uartSeq + 1, uartLast := some q, uartImage := s.ports.uartImage ++ d, uartTx := s.ports.uartTx ++ [0x06] } ∧ (∀ x, Tab.get? t.nvme.slots 2 = some x → x.verifies = false) ∧ t.fab = s.fab ∧ t.acts = s.acts ∧ t.dict = s.dict ∧ t.pwr = s.pwr) ∧
  (∀ (q : BitVec 8) (d : List (BitVec 8)) (c : BitVec 32) (s : State), (s.ports.uart ≠ .off ∧ 1 ≤ d.length ∧ d.length ≤ 1024 ∧ c.toNat = crc32 (uartCovered q d) ∧ s.ports.uartLast = some q) →
   Completes (.uartBlock q d c) s fun t => t = s.onPorts (fun p => { p with uart := .receiving, uartAt := some s.now, uartTx := p.uartTx ++ [0x06] })) ∧
  (∀ (q : BitVec 8) (d : List (BitVec 8)) (c : BitVec 32) (s : State), (s.ports.uart ≠ .off ∧ (d.length = 0 ∨ 1024 < d.length ∨ c.toNat ≠ crc32 (uartCovered q d))) →
   Completes (.uartBlock q d c) s fun t => t = s.onPorts (fun p => { p with uart := .receiving, uartAt := some s.now, uartTx := p.uartTx ++ [0x15] })) ∧
  (∀ (c : BitVec 32) (s : State), (s.ports.uart ≠ .off ∧ c.toNat = crc32 s.ports.uartImage) →
   Completes (.uartEnd s.ports.uartImage.length c true) s fun t => Tab.get? t.nvme.slots 2 = some { guests := false, verifies := true, rev := s.nvme.imageRev + 1 } ∧ t.nvme.imageRev = s.nvme.imageRev + 1 ∧ t.ports.uartTx = s.ports.uartTx ++ [0x06] ∧ t.ports.uartImage = s.ports.uartImage ∧ MemorySame s t) ∧
  (∀ (n : Nat) (c : BitVec 32) (s : State), (s.ports.uart ≠ .off) →
   Completes (.uartEnd n c false) s fun t => t = s.onPorts (fun p => { p with uart := .prompting, uartSeq := 0, uartLast := none, uartImage := [], uartAt := none, uartTx := p.uartTx ++ [0x15] })) ∧
  (∀ (s : State), (s.ports.uart = .receiving ∧ s.uartQuiet 10 = true) →
   Completes (.uartIdleTimeout) s fun t => t = s.onPorts (fun p => { p with uart := .prompting, uartSeq := 0, uartLast := none, uartImage := [], uartAt := none })) ∧
  (∀ (s : State), (s.ports.uart ≠ .receiving ∨ s.uartQuiet 10 = false) →
   Completes (.uartIdleTimeout) s fun t => t = s) ∧
  (∀ (i : JtagIr) (s : State), (i ≠ .other) →
   Completes (.jtagInstruction i) s fun t => t = s.onPorts (fun p => { p with jtag := i })) ∧
  (∀ (s : State),
   Completes (.jtagInstruction .other) s fun t => t = s.onPorts (fun p => { p with jtag := if s.p6300DebugEnable = true ∧ s.spnIsOff = true ∧ (s.presentActs.any fun a => s.loaded a) = false then .other else .bypass })) ∧
  (∀ (s : State), (50 * msTicks ≤ s.since s.ports.ledAt) →
   Completes (.ledActTimeout) s fun t => t = s.onPorts (fun p => { p with ledAct := false })) ∧
  (∀ (s : State), (s.since s.ports.ledAt < 50 * msTicks) →
   Completes (.ledActTimeout) s fun t => t = s)

/-- For every command, every rest of a queue and every state, a step with that command at the front
of the queue is the command carried out on the state with the rest of the queue. (The queue is the
model's own: log 1.) (95_what_each_step_holds.md) -/
def Obligations.StepRunsTheCommandAtTheFront : Prop :=
  ∀ (c : Instr) (r : List Instr) (s : State), step { s with pending := c :: r } = exec c { s with pending := r }

/-- A step on an empty queue moves chip time on by one tick of 5 ns and leaves the queue empty, the
actuators, the dictionary and memory as they are; the reload of the cipher's slots, if one runs,
ends with event 90 (log 48). The table of operations gives no row any bits, so no word spells a
command and withFetchWord changes nothing. The tick on an empty queue is a design choice of the
model. (01_islands_and_fabric.md) -/
def Obligations.IdleStepsTickAndNoWordSpellsACommand : Prop :=
  (∀ s : State, s.pending = [] → ∃ t, step s = .next t ∧ t.fab.chipTime = s.fab.chipTime + 1 ∧ t.pending = [] ∧ t.acts = s.acts ∧ t.dict = s.dict ∧ t.fab.mem = s.fab.mem ∧ t.fab.msgs = s.fab.msgs ++ (if s.ciph.state = .reloading then [eventMsg epCipher 90 s.ciph.slots.length] else [])) ∧
  (∀ (s : State) (nbits w : Nat), decodeTableWord nbits w = none ∧ s.withFetchWord nbits w = s)

/-- After reset chip time is 0, only the always-on domains PD0 and PD1 are on, no command,
transaction or message is in flight, no fault source is lasting, and every source has the threshold,
window and reactions of its class; HM_CFG.HIST_MIN is 3 and HM_EO.WIDTH 1,000; SCR_CTL has FIX and
SIG set; the Yearbook is empty. Memory, the numbers of fetched commands and the tables are in order.
(Values that the spec does not give are left out of this statement.) (01_islands_and_fabric.md;
05_actuators_and_position.md; 13_buffer_memory.md; 16_hall_monitor.md; 17_yearbook.md) -/
def Obligations.ResetLeavesTheDocumentedValues : Prop :=
  (State.reset.fab.chipTime = 0 ∧ State.reset.pending = [] ∧ State.reset.fab.msgs = [] ∧ State.reset.fab.txns = [] ∧ (∀ d : Fin 32, State.reset.domOn d.val = decide (d.val < 2)) ∧ State.reset.hm.histMin = 3 ∧ State.reset.hm.eoWidth = 1000 ∧ State.reset.scr.fix = true ∧ State.reset.scr.sig = true ∧ State.reset.yb.recs = []) ∧
  (∀ n : Fin 160, (State.reset.hmSrc n.val).lasting = false ∧ (State.reset.hmSrc n.val).count = 0 ∧ (defaultClass n.val = 0 → fld (State.reset.hmSrc n.val).win.toNat 24 8 = 16 ∧ fld (State.reset.hmSrc n.val).win.toNat 0 24 = 360000 ∧ fld (State.reset.hmSrc n.val).cfg.toNat 0 6 = 0 ∧ fld (State.reset.hmSrc n.val).cfg.toNat 8 6 = 1) ∧ (defaultClass n.val = 1 → fld (State.reset.hmSrc n.val).win.toNat 24 8 = 4 ∧ fld (State.reset.hmSrc n.val).win.toNat 0 24 = 8640000 ∧ fld (State.reset.hmSrc n.val).cfg.toNat 0 6 = 1 ∧ fld (State.reset.hmSrc n.val).cfg.toNat 8 6 = 1) ∧ (defaultClass n.val = 2 → fld (State.reset.hmSrc n.val).win.toNat 24 8 = 1 ∧ fld (State.reset.hmSrc n.val).win.toNat 0 24 = 1 ∧ fld (State.reset.hmSrc n.val).cfg.toNat 0 6 = 48 ∧ fld (State.reset.hmSrc n.val).cfg.toNat 8 6 = 48)) ∧
  (MemoryAndNumbersOk State.reset ∧ TablesOk State.reset)

/-- From every state a step answers a next state, whose queue is the old one without its front. If
memory lists its addresses in strictly rising order with no byte of zero, no fetched command has a
number beyond the count of those fetched and no two have the same number, then so it is after the
step. (01_islands_and_fabric.md; 12_host_interface.md) -/
def Obligations.EveryStepKeepsMemoryAndNumbersInOrder : Prop :=
  ∀ s : State, ∃ t, step s = .next t ∧ t.pending = s.pending.tail ∧ (MemoryAndNumbersOk s → MemoryAndNumbersOk t)

/-- If the objects of the dictionary, the errors of DRAM, the key slots, the event qualifiers, the
fault sources, the history, the decoder jobs, the power domains and supplies, the head cards, the
timers, the Yearbook's banks, the DMA channels, the engines' registers and the postponed refreshes
are listed in strictly rising order, and there are 12 island replicas, 8 sensors, 2 controllers, 2
ports and 12 values of each POS frame, then so it is after every step. (03_object_dictionary.md;
13_buffer_memory.md; 14_cipher.md; 16_hall_monitor.md; 18_ageing_power_thermal.md; 19_events.md) -/
def Obligations.EveryStepKeepsTablesInOrder : Prop :=
  ∀ s t : State, step s = .next t → TablesOk s → TablesOk t

/-- Bytes written to a memory in canonical form read back as written, and every other byte as
before. The payload of a sector of 4,096 bytes, once decoded without error, has outcome 0 under the
tag it was written with and gives back the data; under any other tag its outcome is 3; a payload
whose CRC-64 does not match has outcome 2. (The order of the tag's bytes in the payload is the
model's choice, log 19.) (01_islands_and_fabric.md; 07_read_channel.md) -/
def Obligations.MemoryAndSectorsReadBack : Prop :=
  (∀ (m : List Host.Cell) (a : Nat) (b : List Byte), Memory.wf m = true → memRead (memWrite m a b) a b.length = b ∧ (∀ x, (x < a ∨ a + b.length ≤ x) → memByte (memWrite m a b) x = memByte m x) ∧ Memory.wf (memWrite m a b) = true) ∧
  (∀ (data : List Byte) (tag u : BitVec 64) (r : DecodeResult), data.length = 4096 → r.memoryError = false → r.converged = true → r.payload = sectorPayload data tag → decodeOutcome tag r = 0 ∧ r.payload.take 4096 = data ∧ (u ≠ tag → decodeOutcome u r = 3)) ∧
  (∀ (tag : BitVec 64) (r : DecodeResult), r.memoryError = false → r.converged = true → crc64 (r.payload.take 4104) ≠ beNat ((r.payload.drop 4104).take 8) → decodeOutcome tag r = 2)
end

