-- ==== Sys2Proof/Laws/Frames.lean ====
section
/-! SUPPORT. What sealing a frame and opening it do: a frame sealed under a key opens under that key, and
gives the body that was sealed (03 R79 to R81). -/

namespace Sys2Proof.Machine

open Sys2Proof

theorem length_aesXor (a b : List Byte) : (aesXor a b).length = min a.length b.length := by
  simp [aesXor]

theorem aesXor_aesXor (a b : List Byte) (h : a.length ≤ b.length) : aesXor (aesXor a b) b = a := by
  induction a generalizing b with
  | nil => simp [aesXor]
  | cons x a ih =>
    cases b with
    | nil => simp at h
    | cons y b =>
      have := ih b (by simpa using h)
      simp only [aesXor, List.zipWith_cons_cons] at this ⊢
      rw [this, BitVec.xor_assoc, BitVec.xor_self, BitVec.xor_zero]

theorem length_rotWord (rcon : Byte) (l : List Byte) : (rotWord rcon l).length = l.length := by
  unfold rotWord; split <;> rfl

theorem length_keyRound (rcon : Byte) (k : List Byte) (h : k.length = 32) :
    (keyRound rcon k).length = 32 := by
  have hw : ∀ i, i < 8 → ((k.drop (4 * i)).take 4).length = 4 := by
    intro i hi; simp [h]; omega
  simp only [keyRound, List.length_append, length_aesXor, List.length_map, hw 0 (by omega),
    hw 1 (by omega), hw 2 (by omega), hw 3 (by omega), hw 4 (by omega), hw 5 (by omega), hw 6 (by omega),
    hw 7 (by omega), length_rotWord]
  rfl

theorem length_keySchedule (key : List Byte) (h : key.length = 32) : (keySchedule key).length = 256 := by
  have go : ∀ (l : List Nat) (p : List Byte × List Byte × Byte), p.2.1.length = 32 →
      ((l.foldl (fun (p : List Byte × List Byte × Byte) _ =>
        let k := keyRound p.2.2 p.2.1
        (p.1 ++ k, k, xtime p.2.2)) p).1).length = p.1.length + 32 * l.length := by
    intro l
    induction l with
    | nil => intro p _; simp
    | cons _ l ih =>
      intro p hp
      rw [List.foldl_cons, ih _ (length_keyRound _ _ hp)]
      simp [length_keyRound _ _ hp]
      omega
  rw [keySchedule, go _ _ h]
  simp [h]

theorem length_roundKey (ks : List Byte) (i : Nat) (h : ks.length = 256) (hi : i < 16) :
    (roundKey ks i).length = 16 := by
  simp [roundKey, h]; omega

theorem length_aesEnc (ks b : List Byte) (h : ks.length = 256) : (aesEnc ks b).length = 16 := by
  have h14 := length_roundKey ks 14 h (by omega)
  simp [aesEnc, length_aesXor, h14, shiftRows]

theorem blocks16_flatten (n : Nat) (l : List Byte) (h : l.length ≤ n) : (blocks16 n l).flatten = l := by
  induction n generalizing l with
  | zero => cases l with
    | nil => rfl
    | cons => simp at h
  | succ n ih =>
    cases l with
    | nil => simp [blocks16]
    | cons x l =>
      have : ((x :: l).drop 16).length ≤ n := by simp at h ⊢; omega
      rw [blocks16]
      simp only [List.isEmpty_cons, Bool.false_eq_true, if_false, List.flatten_cons, ih _ this]
      exact List.take_append_drop 16 (x :: l)

/-- Cutting a text into blocks after its key stream was applied gives the blocks with the key stream
applied; applied twice, it gives the text. -/
theorem gcmCtr_gcmCtr (ks iv : List Byte) (h : ks.length = 256) (n : Nat) (c : Nat) (l : List Byte)
    (hl : l.length ≤ n) :
    (gcmCtr ks iv c (blocks16 n l)).length = l.length
      ∧ gcmCtr ks iv c (blocks16 n (gcmCtr ks iv c (blocks16 n l))) = l := by
  induction n generalizing c l with
  | zero => cases l with
    | nil => exact ⟨rfl, rfl⟩
    | cons => simp at hl
  | succ n ih =>
    cases l with
    | nil => exact ⟨rfl, rfl⟩
    | cons x l =>
      have hr : ((x :: l).drop 16).length ≤ n := by simp at hl ⊢; omega
      obtain ⟨hlen, hinv⟩ := ih (c + 1) ((x :: l).drop 16) hr
      have hk : ((x :: l).take 16).length ≤ (aesEnc ks (iv ++ beBytes 4 c)).length := by
        rw [length_aesEnc _ _ h]; exact List.length_take_le _ _
      have hx : (aesXor ((x :: l).take 16) (aesEnc ks (iv ++ beBytes 4 c))).length
          = ((x :: l).take 16).length := by
        rw [length_aesXor]; omega
      have hb : blocks16 (n + 1) (x :: l) = (x :: l).take 16 :: blocks16 n ((x :: l).drop 16) := rfl
      have htd : ((x :: l).take 16).length + ((x :: l).drop 16).length = (x :: l).length := by
        rw [← List.length_append, List.take_append_drop]
      generalize hA : aesXor ((x :: l).take 16) (aesEnc ks (iv ++ beBytes 4 c)) = a at hx
      generalize hB : gcmCtr ks iv (c + 1) (blocks16 n ((x :: l).drop 16)) = b at hlen hinv
      have hab : gcmCtr ks iv c (blocks16 (n + 1) (x :: l)) = a ++ b := by
        rw [hb, gcmCtr, hA, hB]
      refine ⟨by rw [hab, List.length_append, hx, hlen, htd], ?_⟩
      have htake : (a ++ b).take 16 = a ∧ (a ++ b).drop 16 = b := by
        rcases Nat.lt_or_ge (x :: l).length 16 with hs | hs
        · have : b = [] := by
            have : ((x :: l).drop 16).length = 0 := by simp at hs ⊢; omega
            rw [this] at hlen
            exact List.eq_nil_of_length_eq_zero hlen
          have ha : a.length ≤ 16 := by rw [hx]; exact List.length_take_le _ _
          subst this
          exact ⟨by rw [List.append_nil]; exact List.take_of_length_le ha,
            by rw [List.append_nil]; exact List.drop_of_length_le ha⟩
        · have ha : a.length = 16 := by rw [hx, List.length_take]; omega
          exact ⟨by rw [← ha]; simp, by rw [← ha]; simp⟩
      have hne : (a ++ b).isEmpty = false := by
        cases a with
        | nil => simp at hx
        | cons => rfl
      rw [hab]
      have : blocks16 (n + 1) (a ++ b) = a :: blocks16 n b := by
        rw [blocks16, hne, htake.1, htake.2]; rfl
      rw [this, gcmCtr, hinv, ← hA, aesXor_aesXor _ _ hk, List.take_append_drop]

theorem length_gcmText (key iv text : List Byte) (h : key.length = 32) :
    (gcmText key iv text).length = text.length :=
  (gcmCtr_gcmCtr _ iv (length_keySchedule key h) _ 2 text (Nat.le_refl _)).1

theorem gcmText_gcmText (key iv text : List Byte) (h : key.length = 32) :
    gcmText key iv (gcmText key iv text) = text := by
  have := (gcmCtr_gcmCtr _ iv (length_keySchedule key h) text.length 2 text (Nat.le_refl _)).2
  have hl := length_gcmText key iv text h
  rw [gcmText, hl]
  exact this

/-- The bytes of a number, as many as asked for. -/
theorem length_leBytes (n v : Nat) : (leBytes n v).length = n := by
  induction n generalizing v with
  | zero => rfl
  | succ n ih => simp [leBytes, ih]

theorem length_gcmTag (key iv aad c : List Byte) (h : key.length = 32) :
    (gcmTag key iv aad c).length = 16 := by
  simp [gcmTag, length_aesXor, length_aesEnc _ _ (length_keySchedule key h), beBytes, length_leBytes]

/-- A frame sealed under a key opens under that key and gives the body that was sealed, when its header has
28 bytes and its BODY_LEN is the body's length, 4 to 1,456. -/
theorem opens_sealFrame (link : Link) (q : Nat) (g : BitVec 4) (key h b : List Byte)
    (hk : key.length = 32) (hh : h.length = 28) (hb : leField h 6 2 = b.length) (h4 : 4 ≤ b.length)
    (h1456 : b.length ≤ 1456) :
    let f : Frame := { link := link, bytes := sealFrame key h b, queued := q, guests := g }
    f.opens key = true ∧ f.body key = b ∧ f.header = h := by
  intro f
  have hbytes : f.bytes = h ++ (gcmText key (frameNonce h) b
      ++ gcmTag key (frameNonce h) h (gcmText key (frameNonce h) b)) := by
    simp only [f, sealFrame, List.append_assoc]
  have hlen := length_gcmText key (frameNonce h) b hk
  have htag := length_gcmTag key (frameNonce h) h (gcmText key (frameNonce h) b) hk
  have hhead : f.header = h := by
    rw [Frame.header, hbytes, ← hh]; simp
  have hbl : f.bodyLen = b.length := by
    rw [← hb, Frame.bodyLen, leField, leField, hbytes,
      List.drop_append_of_le_length (by omega), List.take_append_of_le_length (by simp [hh])]
  have hdrop : f.bytes.drop 28 = gcmText key (frameNonce h) b
      ++ gcmTag key (frameNonce h) h (gcmText key (frameNonce h) b) := by
    rw [hbytes, ← hh]; simp
  have hsealed : f.sealed = gcmText key (frameNonce h) b := by
    rw [Frame.sealed, hdrop, hbl, ← hlen]; simp
  have htagf : f.tag = gcmTag key (frameNonce h) h (gcmText key (frameNonce h) b) := by
    rw [Frame.tag, ← List.drop_drop, hdrop, hbl, ← hlen]; simp
  refine ⟨?_, by rw [Frame.body, hhead, hsealed, gcmText_gcmText _ _ _ hk], hhead⟩
  have hw : f.bytes.length = 44 + b.length := by
    rw [hbytes]; simp [hh, hlen, htag]; omega
  simp [Frame.opens, Frame.whole, hbl, hw, hhead, hsealed, htagf, h4, h1456]

/-- The request a sealed frame carries is the one its body spells (R80, R81). -/
theorem State.reqOf_sealFrame (s : State) (link : Link) (q : Nat) (g : BitVec 4) (key h b : List Byte)
    (hk : key.length = 32) (hh : h.length = 28) (hb : leField h 6 2 = b.length) (h4 : 4 ≤ b.length)
    (h1456 : b.length ≤ 1456) (f : Frame)
    (hf : f = { link := link, bytes := sealFrame key h b, queued := q, guests := g })
    (hkey : s.keyFor f.sender f.role.toNat = some key) : s.reqOf f = bodyReq b := by
  subst hf
  obtain ⟨ho, hbody, _⟩ := opens_sealFrame link q g key h b hk hh hb h4 h1456
  simp only [State.reqOf, hkey]
  rw [ho, hbody]
  rfl

end Sys2Proof.Machine
end

