-- ==== Sys2Proof/Laws/Memory.lean ====
section
/-! SUPPORT. Tables keep their order under every operation on them; memory keeps its canonical form,
and reads back what was written. -/

namespace Sys2Proof

variable {α : Type}

/-! Tables. -/

theorem Tab.rising_cons (j : Nat) (w : α) (r : Tab α) :
    Tab.rising ((j, w) :: r) = true ↔ (∀ e ∈ r, j < e.1) ∧ Tab.rising r = true := by
  induction r generalizing j w with
  | nil => simp [Tab.rising]
  | cons x r ih =>
    obtain ⟨k, v⟩ := x
    have hk := ih k v
    simp only [Tab.rising, Bool.and_eq_true, decide_eq_true_eq, List.mem_cons, forall_eq_or_imp]
    constructor
    · rintro ⟨h1, h2⟩
      exact ⟨⟨h1, fun e he => Nat.lt_trans h1 ((hk.1 h2).1 e he)⟩, h2⟩
    · rintro ⟨⟨h1, _⟩, h2⟩
      exact ⟨h1, h2⟩

theorem Tab.mem_set {t : Tab α} {k : Nat} {v : α} {e : Nat × α} (h : e ∈ Tab.set t k v) :
    e = (k, v) ∨ e ∈ t := by
  induction t with
  | nil => simpa [Tab.set] using h
  | cons x r ih =>
    obtain ⟨j, w⟩ := x
    simp only [Tab.set] at h
    split at h
    · simpa using h
    · split at h
      · rcases List.mem_cons.1 h with h | h
        · exact .inl h
        · exact .inr (List.mem_cons_of_mem _ h)
      · rcases List.mem_cons.1 h with h | h
        · exact .inr (h ▸ List.mem_cons_self)
        · exact (ih h).imp_right (List.mem_cons_of_mem _)

theorem Tab.mem_del {t : Tab α} {k : Nat} {e : Nat × α} (h : e ∈ Tab.del t k) : e ∈ t := by
  induction t with
  | nil => simp [Tab.del] at h
  | cons x r ih =>
    obtain ⟨j, w⟩ := x
    simp only [Tab.del] at h
    split at h
    · exact List.mem_cons_of_mem _ h
    · rcases List.mem_cons.1 h with h | h
      · exact h ▸ List.mem_cons_self
      · exact List.mem_cons_of_mem _ (ih h)

theorem Tab.rising_set {t : Tab α} (h : Tab.rising t = true) (k : Nat) (v : α) :
    Tab.rising (Tab.set t k v) = true := by
  induction t with
  | nil => rfl
  | cons x r ih =>
    obtain ⟨j, w⟩ := x
    obtain ⟨h1, h2⟩ := (Tab.rising_cons j w r).1 h
    simp only [Tab.set]
    split
    · next hk =>
      refine (Tab.rising_cons _ _ _).2 ⟨fun e he => ?_, h⟩
      rcases List.mem_cons.1 he with he | he
      · exact he ▸ hk
      · exact Nat.lt_trans hk (h1 e he)
    · split
      · next hk => exact (Tab.rising_cons _ _ _).2 ⟨fun e he => hk ▸ h1 e he, h2⟩
      · next hk hj =>
        refine (Tab.rising_cons _ _ _).2 ⟨fun e he => ?_, ih h2⟩
        rcases Tab.mem_set he with he | he
        · rw [he]; show j < k; omega
        · exact h1 e he

theorem Tab.rising_del {t : Tab α} (h : Tab.rising t = true) (k : Nat) :
    Tab.rising (Tab.del t k) = true := by
  induction t with
  | nil => rfl
  | cons x r ih =>
    obtain ⟨j, w⟩ := x
    obtain ⟨h1, h2⟩ := (Tab.rising_cons j w r).1 h
    simp only [Tab.del]
    split
    · exact h2
    · exact (Tab.rising_cons _ _ _).2 ⟨fun e he => h1 e (Tab.mem_del he), ih h2⟩

theorem Tab.rising_put [DecidableEq α] {t : Tab α} (h : Tab.rising t = true) (k : Nat) (v d : α) :
    Tab.rising (Tab.put t k v d) = true := by
  simp only [Tab.put]
  split
  · exact Tab.rising_del h k
  · exact Tab.rising_set h k v

theorem Tab.rising_map {β : Type} (f : Nat → α → β) (t : Tab α) :
    Tab.rising (Tab.map f t) = Tab.rising t := by
  induction t with
  | nil => rfl
  | cons x r ih =>
    obtain ⟨j, w⟩ := x
    cases r with
    | nil => rfl
    | cons y r =>
      obtain ⟨k, v⟩ := y
      simp only [Tab.map, Tab.rising] at ih ⊢
      rw [ih]

theorem Tab.rising_filter (p : Nat × α → Bool) {t : Tab α} (h : Tab.rising t = true) :
    Tab.rising (t.filter p) = true := by
  induction t with
  | nil => rfl
  | cons x r ih =>
    obtain ⟨j, w⟩ := x
    obtain ⟨h1, h2⟩ := (Tab.rising_cons j w r).1 h
    rw [List.filter_cons]
    split
    · exact (Tab.rising_cons _ _ _).2 ⟨fun e he => h1 e ((List.mem_filter.1 he).1), ih h2⟩
    · exact ih h2

theorem Tab.get?_eq_none {t : Tab α} {k : Nat} (h : ∀ e ∈ t, e.1 ≠ k) : Tab.get? t k = none := by
  induction t with
  | nil => rfl
  | cons x r ih =>
    obtain ⟨j, w⟩ := x
    simp only [Tab.get?]
    rw [if_neg (h (j, w) List.mem_cons_self)]
    exact ih fun e he => h e (List.mem_cons_of_mem _ he)

/-- An entry that was set reads back, and every other entry reads as before. -/
theorem Tab.get?_set {t : Tab α} (h : Tab.rising t = true) (k : Nat) (v : α) (n : Nat) :
    Tab.get? (Tab.set t k v) n = if n = k then some v else Tab.get? t n := by
  induction t with
  | nil =>
    simp only [Tab.set, Tab.get?]
    split <;> split <;> simp_all
  | cons x r ih =>
    obtain ⟨j, w⟩ := x
    obtain ⟨h1, h2⟩ := (Tab.rising_cons j w r).1 h
    simp only [Tab.set]
    split
    · simp only [Tab.get?]
      by_cases hn : n = k
      · simp [hn]
      · simp [hn, Ne.symm hn]
    · split
      · next hj =>
        subst hj
        simp only [Tab.get?]
        by_cases hn : n = k
        · simp [hn]
        · simp [hn, Ne.symm hn]
      · next hk hj =>
        simp only [Tab.get?, ih h2]
        by_cases hn : j = n
        · subst hn; simp [Ne.symm hj]
        · simp [hn]

/-- An entry that was set reads back, in any table. -/
theorem Tab.get?_set_same (t : Tab α) (k : Nat) (v : α) : Tab.get? (Tab.set t k v) k = some v := by
  induction t with
  | nil => simp [Tab.set, Tab.get?]
  | cons x r ih =>
    obtain ⟨j, w⟩ := x
    simp only [Tab.set]
    split
    · simp [Tab.get?]
    · split
      · simp [Tab.get?]
      · next h1 h2 => simp only [Tab.get?]; rw [if_neg (Ne.symm h2)]; exact ih

/-- An entry that was taken away is not there, and every other entry reads as before. -/
theorem Tab.get?_del {t : Tab α} (h : Tab.rising t = true) (k n : Nat) :
    Tab.get? (Tab.del t k) n = if n = k then none else Tab.get? t n := by
  induction t with
  | nil => simp [Tab.del, Tab.get?]
  | cons x r ih =>
    obtain ⟨j, w⟩ := x
    obtain ⟨h1, h2⟩ := (Tab.rising_cons j w r).1 h
    simp only [Tab.del]
    split
    · next hj =>
      subst hj
      by_cases hn : n = j
      · subst hn
        simp only [if_pos]
        exact Tab.get?_eq_none fun e he => Nat.ne_of_gt (h1 e he)
      · simp [Tab.get?, hn, Ne.symm hn]
    · next hj =>
      simp only [Tab.get?, ih h2]
      by_cases hn : j = n
      · subst hn; simp [hj]
      · simp [hn]

/-- What a table reads as after an entry is put: the entry's value there, and as before elsewhere. -/
theorem Tab.getD_put [DecidableEq α] {t : Tab α} (h : Tab.rising t = true) (k : Nat) (v d : α)
    (n : Nat) : Tab.getD (Tab.put t k v d) n d = if n = k then v else Tab.getD t n d := by
  simp only [Tab.put, Tab.getD]
  split
  · next hv =>
    rw [Tab.get?_del h]
    split <;> simp_all
  · rw [Tab.get?_set h]
    split <;> simp_all

/-! Memory. -/

theorem noZero_iff (m : List Host.Cell) : noZero m = true ↔ ∀ e ∈ m, e.2 ≠ 0 := by
  induction m with
  | nil => simp [noZero]
  | cons x r ih =>
    obtain ⟨j, b⟩ := x
    simp [noZero, ih]

theorem Memory.wf_iff (m : List Host.Cell) :
    Memory.wf m = true ↔ Tab.rising m = true ∧ ∀ e ∈ m, e.2 ≠ 0 := by
  simp [Memory.wf, noZero_iff]

theorem memPut_wf {m : List Host.Cell} (h : Memory.wf m = true) (a : Nat) (b : Byte) :
    Memory.wf (memPut m a b) = true := by
  obtain ⟨h1, h2⟩ := (Memory.wf_iff m).1 h
  refine (Memory.wf_iff _).2 ⟨Tab.rising_put h1 a b 0, fun e he => ?_⟩
  simp only [memPut, Tab.put] at he
  split at he
  · exact h2 e (Tab.mem_del he)
  · next hb =>
    rcases Tab.mem_set he with he | he
    · exact he ▸ hb
    · exact h2 e he

theorem memWrite_wf {m : List Host.Cell} (h : Memory.wf m = true) (a : Nat) (l : List Byte) :
    Memory.wf (memWrite m a l) = true := by
  induction l generalizing m a with
  | nil => exact h
  | cons b r ih => exact ih (memPut_wf h a b) (a + 1)

theorem memClear_wf {m : List Host.Cell} (h : Memory.wf m = true) (lo hi : Nat) :
    Memory.wf (memClear m lo hi) = true := by
  obtain ⟨h1, h2⟩ := (Memory.wf_iff m).1 h
  exact (Memory.wf_iff _).2
    ⟨Tab.rising_filter _ h1, fun e he => h2 e ((List.mem_filter.1 he).1)⟩

/-- A byte after one byte was written. -/
theorem memByte_memPut {m : List Host.Cell} (h : Memory.wf m = true) (a : Nat) (b : Byte) (n : Nat) :
    memByte (memPut m a b) n = if n = a then b else memByte m n :=
  Tab.getD_put ((Memory.wf_iff m).1 h).1 a b 0 n

/-- A byte outside those written reads as before. -/
theorem memByte_memWrite_outside {m : List Host.Cell} (h : Memory.wf m = true) (a : Nat)
    (l : List Byte) {n : Nat} (hn : n < a ∨ a + l.length ≤ n) :
    memByte (memWrite m a l) n = memByte m n := by
  induction l generalizing m a with
  | nil => rfl
  | cons b r ih =>
    simp only [List.length_cons] at hn
    simp only [memWrite]
    rw [ih (memPut_wf h a b) (a + 1) (by omega), memByte_memPut h, if_neg (by omega)]

end Sys2Proof
end

