-- ==== Sys2Proof/Laws/State.lean ====
section
/-! SUPPORT. One lemma per field and update: what an update of one field leaves in every field. -/

namespace Sys2Proof

@[simp] theorem Four.get_set_same {α : Type} (v : Four α) (a : Fin 4) (x : α) :
    (v.set a x).get a = x := by
  match a with
  | 0 => rfl
  | 1 => rfl
  | 2 => rfl
  | 3 => rfl

theorem Four.get_set_ne {α : Type} (v : Four α) {a b : Fin 4} (x : α) (h : b ≠ a) :
    (v.set a x).get b = v.get b := by
  revert h
  match a, b with
  | 0, 0 => intro h; exact absurd rfl h
  | 1, 1 => intro h; exact absurd rfl h
  | 2, 2 => intro h; exact absurd rfl h
  | 3, 3 => intro h; exact absurd rfl h
  | 0, 1 => intro; rfl
  | 0, 2 => intro; rfl
  | 0, 3 => intro; rfl
  | 1, 0 => intro; rfl
  | 1, 2 => intro; rfl
  | 1, 3 => intro; rfl
  | 2, 0 => intro; rfl
  | 2, 1 => intro; rfl
  | 2, 3 => intro; rfl
  | 3, 0 => intro; rfl
  | 3, 1 => intro; rfl
  | 3, 2 => intro; rfl

end Sys2Proof

namespace Sys2Proof.Machine

open Sys2Proof

@[simp] theorem State.act_onAct_same (s : State) (a : Fin 4) (f : Act → Act) :
    (s.onAct a f).act a = f (s.act a) := by simp [State.act, State.onAct]

theorem State.act_onAct_ne (s : State) {a b : Fin 4} (f : Act → Act) (h : b ≠ a) :
    (s.onAct a f).act b = s.act b := by simp [State.act, State.onAct, Four.get_set_ne _ _ h]

@[simp] theorem State.onIdent_ident (f : Ident → Ident) (s : State) :
    (s.onIdent f).ident = f s.ident := rfl
@[simp] theorem State.onIdent_fab (f : Ident → Ident) (s : State) :
    (s.onIdent f).fab = s.fab := rfl
@[simp] theorem State.onIdent_sys (f : Ident → Ident) (s : State) :
    (s.onIdent f).sys = s.sys := rfl
@[simp] theorem State.onIdent_dict (f : Ident → Ident) (s : State) :
    (s.onIdent f).dict = s.dict := rfl
@[simp] theorem State.onIdent_spn (f : Ident → Ident) (s : State) :
    (s.onIdent f).spn = s.spn := rfl
@[simp] theorem State.onIdent_acts (f : Ident → Ident) (s : State) :
    (s.onIdent f).acts = s.acts := rfl
@[simp] theorem State.onIdent_pool (f : Ident → Ident) (s : State) :
    (s.onIdent f).pool = s.pool := rfl
@[simp] theorem State.onIdent_recov (f : Ident → Ident) (s : State) :
    (s.onIdent f).recov = s.recov := rfl
@[simp] theorem State.onIdent_plc (f : Ident → Ident) (s : State) :
    (s.onIdent f).plc = s.plc := rfl
@[simp] theorem State.onIdent_tt (f : Ident → Ident) (s : State) :
    (s.onIdent f).tt = s.tt := rfl
@[simp] theorem State.onIdent_nvme (f : Ident → Ident) (s : State) :
    (s.onIdent f).nvme = s.nvme := rfl
@[simp] theorem State.onIdent_dramc (f : Ident → Ident) (s : State) :
    (s.onIdent f).dramc = s.dramc := rfl
@[simp] theorem State.onIdent_scr (f : Ident → Ident) (s : State) :
    (s.onIdent f).scr = s.scr := rfl
@[simp] theorem State.onIdent_buf (f : Ident → Ident) (s : State) :
    (s.onIdent f).buf = s.buf := rfl
@[simp] theorem State.onIdent_ciph (f : Ident → Ident) (s : State) :
    (s.onIdent f).ciph = s.ciph := rfl
@[simp] theorem State.onIdent_dma (f : Ident → Ident) (s : State) :
    (s.onIdent f).dma = s.dma := rfl
@[simp] theorem State.onIdent_hm (f : Ident → Ident) (s : State) :
    (s.onIdent f).hm = s.hm := rfl
@[simp] theorem State.onIdent_yb (f : Ident → Ident) (s : State) :
    (s.onIdent f).yb = s.yb := rfl
@[simp] theorem State.onIdent_pwr (f : Ident → Ident) (s : State) :
    (s.onIdent f).pwr = s.pwr := rfl
@[simp] theorem State.onIdent_rc (f : Ident → Ident) (s : State) :
    (s.onIdent f).rc = s.rc := rfl
@[simp] theorem State.onIdent_evc (f : Ident → Ident) (s : State) :
    (s.onIdent f).evc = s.evc := rfl
@[simp] theorem State.onIdent_tims (f : Ident → Ident) (s : State) :
    (s.onIdent f).tims = s.tims := rfl
@[simp] theorem State.onIdent_ports (f : Ident → Ident) (s : State) :
    (s.onIdent f).ports = s.ports := rfl
@[simp] theorem State.onIdent_free (f : Ident → Ident) (s : State) :
    (s.onIdent f).free = s.free := rfl
@[simp] theorem State.onIdent_pending (f : Ident → Ident) (s : State) :
    (s.onIdent f).pending = s.pending := rfl
@[simp] theorem State.onFab_ident (f : Fab → Fab) (s : State) :
    (s.onFab f).ident = s.ident := rfl
@[simp] theorem State.onFab_fab (f : Fab → Fab) (s : State) :
    (s.onFab f).fab = f s.fab := rfl
@[simp] theorem State.onFab_sys (f : Fab → Fab) (s : State) :
    (s.onFab f).sys = s.sys := rfl
@[simp] theorem State.onFab_dict (f : Fab → Fab) (s : State) :
    (s.onFab f).dict = s.dict := rfl
@[simp] theorem State.onFab_spn (f : Fab → Fab) (s : State) :
    (s.onFab f).spn = s.spn := rfl
@[simp] theorem State.onFab_acts (f : Fab → Fab) (s : State) :
    (s.onFab f).acts = s.acts := rfl
@[simp] theorem State.onFab_pool (f : Fab → Fab) (s : State) :
    (s.onFab f).pool = s.pool := rfl
@[simp] theorem State.onFab_recov (f : Fab → Fab) (s : State) :
    (s.onFab f).recov = s.recov := rfl
@[simp] theorem State.onFab_plc (f : Fab → Fab) (s : State) :
    (s.onFab f).plc = s.plc := rfl
@[simp] theorem State.onFab_tt (f : Fab → Fab) (s : State) :
    (s.onFab f).tt = s.tt := rfl
@[simp] theorem State.onFab_nvme (f : Fab → Fab) (s : State) :
    (s.onFab f).nvme = s.nvme := rfl
@[simp] theorem State.onFab_dramc (f : Fab → Fab) (s : State) :
    (s.onFab f).dramc = s.dramc := rfl
@[simp] theorem State.onFab_scr (f : Fab → Fab) (s : State) :
    (s.onFab f).scr = s.scr := rfl
@[simp] theorem State.onFab_buf (f : Fab → Fab) (s : State) :
    (s.onFab f).buf = s.buf := rfl
@[simp] theorem State.onFab_ciph (f : Fab → Fab) (s : State) :
    (s.onFab f).ciph = s.ciph := rfl
@[simp] theorem State.onFab_dma (f : Fab → Fab) (s : State) :
    (s.onFab f).dma = s.dma := rfl
@[simp] theorem State.onFab_hm (f : Fab → Fab) (s : State) :
    (s.onFab f).hm = s.hm := rfl
@[simp] theorem State.onFab_yb (f : Fab → Fab) (s : State) :
    (s.onFab f).yb = s.yb := rfl
@[simp] theorem State.onFab_pwr (f : Fab → Fab) (s : State) :
    (s.onFab f).pwr = s.pwr := rfl
@[simp] theorem State.onFab_rc (f : Fab → Fab) (s : State) :
    (s.onFab f).rc = s.rc := rfl
@[simp] theorem State.onFab_evc (f : Fab → Fab) (s : State) :
    (s.onFab f).evc = s.evc := rfl
@[simp] theorem State.onFab_tims (f : Fab → Fab) (s : State) :
    (s.onFab f).tims = s.tims := rfl
@[simp] theorem State.onFab_ports (f : Fab → Fab) (s : State) :
    (s.onFab f).ports = s.ports := rfl
@[simp] theorem State.onFab_free (f : Fab → Fab) (s : State) :
    (s.onFab f).free = s.free := rfl
@[simp] theorem State.onFab_pending (f : Fab → Fab) (s : State) :
    (s.onFab f).pending = s.pending := rfl
@[simp] theorem State.onSys_ident (f : Sys → Sys) (s : State) :
    (s.onSys f).ident = s.ident := rfl
@[simp] theorem State.onSys_fab (f : Sys → Sys) (s : State) :
    (s.onSys f).fab = s.fab := rfl
@[simp] theorem State.onSys_sys (f : Sys → Sys) (s : State) :
    (s.onSys f).sys = f s.sys := rfl
@[simp] theorem State.onSys_dict (f : Sys → Sys) (s : State) :
    (s.onSys f).dict = s.dict := rfl
@[simp] theorem State.onSys_spn (f : Sys → Sys) (s : State) :
    (s.onSys f).spn = s.spn := rfl
@[simp] theorem State.onSys_acts (f : Sys → Sys) (s : State) :
    (s.onSys f).acts = s.acts := rfl
@[simp] theorem State.onSys_pool (f : Sys → Sys) (s : State) :
    (s.onSys f).pool = s.pool := rfl
@[simp] theorem State.onSys_recov (f : Sys → Sys) (s : State) :
    (s.onSys f).recov = s.recov := rfl
@[simp] theorem State.onSys_plc (f : Sys → Sys) (s : State) :
    (s.onSys f).plc = s.plc := rfl
@[simp] theorem State.onSys_tt (f : Sys → Sys) (s : State) :
    (s.onSys f).tt = s.tt := rfl
@[simp] theorem State.onSys_nvme (f : Sys → Sys) (s : State) :
    (s.onSys f).nvme = s.nvme := rfl
@[simp] theorem State.onSys_dramc (f : Sys → Sys) (s : State) :
    (s.onSys f).dramc = s.dramc := rfl
@[simp] theorem State.onSys_scr (f : Sys → Sys) (s : State) :
    (s.onSys f).scr = s.scr := rfl
@[simp] theorem State.onSys_buf (f : Sys → Sys) (s : State) :
    (s.onSys f).buf = s.buf := rfl
@[simp] theorem State.onSys_ciph (f : Sys → Sys) (s : State) :
    (s.onSys f).ciph = s.ciph := rfl
@[simp] theorem State.onSys_dma (f : Sys → Sys) (s : State) :
    (s.onSys f).dma = s.dma := rfl
@[simp] theorem State.onSys_hm (f : Sys → Sys) (s : State) :
    (s.onSys f).hm = s.hm := rfl
@[simp] theorem State.onSys_yb (f : Sys → Sys) (s : State) :
    (s.onSys f).yb = s.yb := rfl
@[simp] theorem State.onSys_pwr (f : Sys → Sys) (s : State) :
    (s.onSys f).pwr = s.pwr := rfl
@[simp] theorem State.onSys_rc (f : Sys → Sys) (s : State) :
    (s.onSys f).rc = s.rc := rfl
@[simp] theorem State.onSys_evc (f : Sys → Sys) (s : State) :
    (s.onSys f).evc = s.evc := rfl
@[simp] theorem State.onSys_tims (f : Sys → Sys) (s : State) :
    (s.onSys f).tims = s.tims := rfl
@[simp] theorem State.onSys_ports (f : Sys → Sys) (s : State) :
    (s.onSys f).ports = s.ports := rfl
@[simp] theorem State.onSys_free (f : Sys → Sys) (s : State) :
    (s.onSys f).free = s.free := rfl
@[simp] theorem State.onSys_pending (f : Sys → Sys) (s : State) :
    (s.onSys f).pending = s.pending := rfl
@[simp] theorem State.onDict_ident (f : Dict → Dict) (s : State) :
    (s.onDict f).ident = s.ident := rfl
@[simp] theorem State.onDict_fab (f : Dict → Dict) (s : State) :
    (s.onDict f).fab = s.fab := rfl
@[simp] theorem State.onDict_sys (f : Dict → Dict) (s : State) :
    (s.onDict f).sys = s.sys := rfl
@[simp] theorem State.onDict_dict (f : Dict → Dict) (s : State) :
    (s.onDict f).dict = f s.dict := rfl
@[simp] theorem State.onDict_spn (f : Dict → Dict) (s : State) :
    (s.onDict f).spn = s.spn := rfl
@[simp] theorem State.onDict_acts (f : Dict → Dict) (s : State) :
    (s.onDict f).acts = s.acts := rfl
@[simp] theorem State.onDict_pool (f : Dict → Dict) (s : State) :
    (s.onDict f).pool = s.pool := rfl
@[simp] theorem State.onDict_recov (f : Dict → Dict) (s : State) :
    (s.onDict f).recov = s.recov := rfl
@[simp] theorem State.onDict_plc (f : Dict → Dict) (s : State) :
    (s.onDict f).plc = s.plc := rfl
@[simp] theorem State.onDict_tt (f : Dict → Dict) (s : State) :
    (s.onDict f).tt = s.tt := rfl
@[simp] theorem State.onDict_nvme (f : Dict → Dict) (s : State) :
    (s.onDict f).nvme = s.nvme := rfl
@[simp] theorem State.onDict_dramc (f : Dict → Dict) (s : State) :
    (s.onDict f).dramc = s.dramc := rfl
@[simp] theorem State.onDict_scr (f : Dict → Dict) (s : State) :
    (s.onDict f).scr = s.scr := rfl
@[simp] theorem State.onDict_buf (f : Dict → Dict) (s : State) :
    (s.onDict f).buf = s.buf := rfl
@[simp] theorem State.onDict_ciph (f : Dict → Dict) (s : State) :
    (s.onDict f).ciph = s.ciph := rfl
@[simp] theorem State.onDict_dma (f : Dict → Dict) (s : State) :
    (s.onDict f).dma = s.dma := rfl
@[simp] theorem State.onDict_hm (f : Dict → Dict) (s : State) :
    (s.onDict f).hm = s.hm := rfl
@[simp] theorem State.onDict_yb (f : Dict → Dict) (s : State) :
    (s.onDict f).yb = s.yb := rfl
@[simp] theorem State.onDict_pwr (f : Dict → Dict) (s : State) :
    (s.onDict f).pwr = s.pwr := rfl
@[simp] theorem State.onDict_rc (f : Dict → Dict) (s : State) :
    (s.onDict f).rc = s.rc := rfl
@[simp] theorem State.onDict_evc (f : Dict → Dict) (s : State) :
    (s.onDict f).evc = s.evc := rfl
@[simp] theorem State.onDict_tims (f : Dict → Dict) (s : State) :
    (s.onDict f).tims = s.tims := rfl
@[simp] theorem State.onDict_ports (f : Dict → Dict) (s : State) :
    (s.onDict f).ports = s.ports := rfl
@[simp] theorem State.onDict_free (f : Dict → Dict) (s : State) :
    (s.onDict f).free = s.free := rfl
@[simp] theorem State.onDict_pending (f : Dict → Dict) (s : State) :
    (s.onDict f).pending = s.pending := rfl
@[simp] theorem State.onSpn_ident (f : Spn → Spn) (s : State) :
    (s.onSpn f).ident = s.ident := rfl
@[simp] theorem State.onSpn_fab (f : Spn → Spn) (s : State) :
    (s.onSpn f).fab = s.fab := rfl
@[simp] theorem State.onSpn_sys (f : Spn → Spn) (s : State) :
    (s.onSpn f).sys = s.sys := rfl
@[simp] theorem State.onSpn_dict (f : Spn → Spn) (s : State) :
    (s.onSpn f).dict = s.dict := rfl
@[simp] theorem State.onSpn_spn (f : Spn → Spn) (s : State) :
    (s.onSpn f).spn = f s.spn := rfl
@[simp] theorem State.onSpn_acts (f : Spn → Spn) (s : State) :
    (s.onSpn f).acts = s.acts := rfl
@[simp] theorem State.onSpn_pool (f : Spn → Spn) (s : State) :
    (s.onSpn f).pool = s.pool := rfl
@[simp] theorem State.onSpn_recov (f : Spn → Spn) (s : State) :
    (s.onSpn f).recov = s.recov := rfl
@[simp] theorem State.onSpn_plc (f : Spn → Spn) (s : State) :
    (s.onSpn f).plc = s.plc := rfl
@[simp] theorem State.onSpn_tt (f : Spn → Spn) (s : State) :
    (s.onSpn f).tt = s.tt := rfl
@[simp] theorem State.onSpn_nvme (f : Spn → Spn) (s : State) :
    (s.onSpn f).nvme = s.nvme := rfl
@[simp] theorem State.onSpn_dramc (f : Spn → Spn) (s : State) :
    (s.onSpn f).dramc = s.dramc := rfl
@[simp] theorem State.onSpn_scr (f : Spn → Spn) (s : State) :
    (s.onSpn f).scr = s.scr := rfl
@[simp] theorem State.onSpn_buf (f : Spn → Spn) (s : State) :
    (s.onSpn f).buf = s.buf := rfl
@[simp] theorem State.onSpn_ciph (f : Spn → Spn) (s : State) :
    (s.onSpn f).ciph = s.ciph := rfl
@[simp] theorem State.onSpn_dma (f : Spn → Spn) (s : State) :
    (s.onSpn f).dma = s.dma := rfl
@[simp] theorem State.onSpn_hm (f : Spn → Spn) (s : State) :
    (s.onSpn f).hm = s.hm := rfl
@[simp] theorem State.onSpn_yb (f : Spn → Spn) (s : State) :
    (s.onSpn f).yb = s.yb := rfl
@[simp] theorem State.onSpn_pwr (f : Spn → Spn) (s : State) :
    (s.onSpn f).pwr = s.pwr := rfl
@[simp] theorem State.onSpn_rc (f : Spn → Spn) (s : State) :
    (s.onSpn f).rc = s.rc := rfl
@[simp] theorem State.onSpn_evc (f : Spn → Spn) (s : State) :
    (s.onSpn f).evc = s.evc := rfl
@[simp] theorem State.onSpn_tims (f : Spn → Spn) (s : State) :
    (s.onSpn f).tims = s.tims := rfl
@[simp] theorem State.onSpn_ports (f : Spn → Spn) (s : State) :
    (s.onSpn f).ports = s.ports := rfl
@[simp] theorem State.onSpn_free (f : Spn → Spn) (s : State) :
    (s.onSpn f).free = s.free := rfl
@[simp] theorem State.onSpn_pending (f : Spn → Spn) (s : State) :
    (s.onSpn f).pending = s.pending := rfl
@[simp] theorem State.onActs_ident (f : (Four Act) → (Four Act)) (s : State) :
    (s.onActs f).ident = s.ident := rfl
@[simp] theorem State.onActs_fab (f : (Four Act) → (Four Act)) (s : State) :
    (s.onActs f).fab = s.fab := rfl
@[simp] theorem State.onActs_sys (f : (Four Act) → (Four Act)) (s : State) :
    (s.onActs f).sys = s.sys := rfl
@[simp] theorem State.onActs_dict (f : (Four Act) → (Four Act)) (s : State) :
    (s.onActs f).dict = s.dict := rfl
@[simp] theorem State.onActs_spn (f : (Four Act) → (Four Act)) (s : State) :
    (s.onActs f).spn = s.spn := rfl
@[simp] theorem State.onActs_acts (f : (Four Act) → (Four Act)) (s : State) :
    (s.onActs f).acts = f s.acts := rfl
@[simp] theorem State.onActs_pool (f : (Four Act) → (Four Act)) (s : State) :
    (s.onActs f).pool = s.pool := rfl
@[simp] theorem State.onActs_recov (f : (Four Act) → (Four Act)) (s : State) :
    (s.onActs f).recov = s.recov := rfl
@[simp] theorem State.onActs_plc (f : (Four Act) → (Four Act)) (s : State) :
    (s.onActs f).plc = s.plc := rfl
@[simp] theorem State.onActs_tt (f : (Four Act) → (Four Act)) (s : State) :
    (s.onActs f).tt = s.tt := rfl
@[simp] theorem State.onActs_nvme (f : (Four Act) → (Four Act)) (s : State) :
    (s.onActs f).nvme = s.nvme := rfl
@[simp] theorem State.onActs_dramc (f : (Four Act) → (Four Act)) (s : State) :
    (s.onActs f).dramc = s.dramc := rfl
@[simp] theorem State.onActs_scr (f : (Four Act) → (Four Act)) (s : State) :
    (s.onActs f).scr = s.scr := rfl
@[simp] theorem State.onActs_buf (f : (Four Act) → (Four Act)) (s : State) :
    (s.onActs f).buf = s.buf := rfl
@[simp] theorem State.onActs_ciph (f : (Four Act) → (Four Act)) (s : State) :
    (s.onActs f).ciph = s.ciph := rfl
@[simp] theorem State.onActs_dma (f : (Four Act) → (Four Act)) (s : State) :
    (s.onActs f).dma = s.dma := rfl
@[simp] theorem State.onActs_hm (f : (Four Act) → (Four Act)) (s : State) :
    (s.onActs f).hm = s.hm := rfl
@[simp] theorem State.onActs_yb (f : (Four Act) → (Four Act)) (s : State) :
    (s.onActs f).yb = s.yb := rfl
@[simp] theorem State.onActs_pwr (f : (Four Act) → (Four Act)) (s : State) :
    (s.onActs f).pwr = s.pwr := rfl
@[simp] theorem State.onActs_rc (f : (Four Act) → (Four Act)) (s : State) :
    (s.onActs f).rc = s.rc := rfl
@[simp] theorem State.onActs_evc (f : (Four Act) → (Four Act)) (s : State) :
    (s.onActs f).evc = s.evc := rfl
@[simp] theorem State.onActs_tims (f : (Four Act) → (Four Act)) (s : State) :
    (s.onActs f).tims = s.tims := rfl
@[simp] theorem State.onActs_ports (f : (Four Act) → (Four Act)) (s : State) :
    (s.onActs f).ports = s.ports := rfl
@[simp] theorem State.onActs_free (f : (Four Act) → (Four Act)) (s : State) :
    (s.onActs f).free = s.free := rfl
@[simp] theorem State.onActs_pending (f : (Four Act) → (Four Act)) (s : State) :
    (s.onActs f).pending = s.pending := rfl
@[simp] theorem State.onPool_ident (f : Pool → Pool) (s : State) :
    (s.onPool f).ident = s.ident := rfl
@[simp] theorem State.onPool_fab (f : Pool → Pool) (s : State) :
    (s.onPool f).fab = s.fab := rfl
@[simp] theorem State.onPool_sys (f : Pool → Pool) (s : State) :
    (s.onPool f).sys = s.sys := rfl
@[simp] theorem State.onPool_dict (f : Pool → Pool) (s : State) :
    (s.onPool f).dict = s.dict := rfl
@[simp] theorem State.onPool_spn (f : Pool → Pool) (s : State) :
    (s.onPool f).spn = s.spn := rfl
@[simp] theorem State.onPool_acts (f : Pool → Pool) (s : State) :
    (s.onPool f).acts = s.acts := rfl
@[simp] theorem State.onPool_pool (f : Pool → Pool) (s : State) :
    (s.onPool f).pool = f s.pool := rfl
@[simp] theorem State.onPool_recov (f : Pool → Pool) (s : State) :
    (s.onPool f).recov = s.recov := rfl
@[simp] theorem State.onPool_plc (f : Pool → Pool) (s : State) :
    (s.onPool f).plc = s.plc := rfl
@[simp] theorem State.onPool_tt (f : Pool → Pool) (s : State) :
    (s.onPool f).tt = s.tt := rfl
@[simp] theorem State.onPool_nvme (f : Pool → Pool) (s : State) :
    (s.onPool f).nvme = s.nvme := rfl
@[simp] theorem State.onPool_dramc (f : Pool → Pool) (s : State) :
    (s.onPool f).dramc = s.dramc := rfl
@[simp] theorem State.onPool_scr (f : Pool → Pool) (s : State) :
    (s.onPool f).scr = s.scr := rfl
@[simp] theorem State.onPool_buf (f : Pool → Pool) (s : State) :
    (s.onPool f).buf = s.buf := rfl
@[simp] theorem State.onPool_ciph (f : Pool → Pool) (s : State) :
    (s.onPool f).ciph = s.ciph := rfl
@[simp] theorem State.onPool_dma (f : Pool → Pool) (s : State) :
    (s.onPool f).dma = s.dma := rfl
@[simp] theorem State.onPool_hm (f : Pool → Pool) (s : State) :
    (s.onPool f).hm = s.hm := rfl
@[simp] theorem State.onPool_yb (f : Pool → Pool) (s : State) :
    (s.onPool f).yb = s.yb := rfl
@[simp] theorem State.onPool_pwr (f : Pool → Pool) (s : State) :
    (s.onPool f).pwr = s.pwr := rfl
@[simp] theorem State.onPool_rc (f : Pool → Pool) (s : State) :
    (s.onPool f).rc = s.rc := rfl
@[simp] theorem State.onPool_evc (f : Pool → Pool) (s : State) :
    (s.onPool f).evc = s.evc := rfl
@[simp] theorem State.onPool_tims (f : Pool → Pool) (s : State) :
    (s.onPool f).tims = s.tims := rfl
@[simp] theorem State.onPool_ports (f : Pool → Pool) (s : State) :
    (s.onPool f).ports = s.ports := rfl
@[simp] theorem State.onPool_free (f : Pool → Pool) (s : State) :
    (s.onPool f).free = s.free := rfl
@[simp] theorem State.onPool_pending (f : Pool → Pool) (s : State) :
    (s.onPool f).pending = s.pending := rfl
@[simp] theorem State.onRecov_ident (f : Rec → Rec) (s : State) :
    (s.onRecov f).ident = s.ident := rfl
@[simp] theorem State.onRecov_fab (f : Rec → Rec) (s : State) :
    (s.onRecov f).fab = s.fab := rfl
@[simp] theorem State.onRecov_sys (f : Rec → Rec) (s : State) :
    (s.onRecov f).sys = s.sys := rfl
@[simp] theorem State.onRecov_dict (f : Rec → Rec) (s : State) :
    (s.onRecov f).dict = s.dict := rfl
@[simp] theorem State.onRecov_spn (f : Rec → Rec) (s : State) :
    (s.onRecov f).spn = s.spn := rfl
@[simp] theorem State.onRecov_acts (f : Rec → Rec) (s : State) :
    (s.onRecov f).acts = s.acts := rfl
@[simp] theorem State.onRecov_pool (f : Rec → Rec) (s : State) :
    (s.onRecov f).pool = s.pool := rfl
@[simp] theorem State.onRecov_recov (f : Rec → Rec) (s : State) :
    (s.onRecov f).recov = f s.recov := rfl
@[simp] theorem State.onRecov_plc (f : Rec → Rec) (s : State) :
    (s.onRecov f).plc = s.plc := rfl
@[simp] theorem State.onRecov_tt (f : Rec → Rec) (s : State) :
    (s.onRecov f).tt = s.tt := rfl
@[simp] theorem State.onRecov_nvme (f : Rec → Rec) (s : State) :
    (s.onRecov f).nvme = s.nvme := rfl
@[simp] theorem State.onRecov_dramc (f : Rec → Rec) (s : State) :
    (s.onRecov f).dramc = s.dramc := rfl
@[simp] theorem State.onRecov_scr (f : Rec → Rec) (s : State) :
    (s.onRecov f).scr = s.scr := rfl
@[simp] theorem State.onRecov_buf (f : Rec → Rec) (s : State) :
    (s.onRecov f).buf = s.buf := rfl
@[simp] theorem State.onRecov_ciph (f : Rec → Rec) (s : State) :
    (s.onRecov f).ciph = s.ciph := rfl
@[simp] theorem State.onRecov_dma (f : Rec → Rec) (s : State) :
    (s.onRecov f).dma = s.dma := rfl
@[simp] theorem State.onRecov_hm (f : Rec → Rec) (s : State) :
    (s.onRecov f).hm = s.hm := rfl
@[simp] theorem State.onRecov_yb (f : Rec → Rec) (s : State) :
    (s.onRecov f).yb = s.yb := rfl
@[simp] theorem State.onRecov_pwr (f : Rec → Rec) (s : State) :
    (s.onRecov f).pwr = s.pwr := rfl
@[simp] theorem State.onRecov_rc (f : Rec → Rec) (s : State) :
    (s.onRecov f).rc = s.rc := rfl
@[simp] theorem State.onRecov_evc (f : Rec → Rec) (s : State) :
    (s.onRecov f).evc = s.evc := rfl
@[simp] theorem State.onRecov_tims (f : Rec → Rec) (s : State) :
    (s.onRecov f).tims = s.tims := rfl
@[simp] theorem State.onRecov_ports (f : Rec → Rec) (s : State) :
    (s.onRecov f).ports = s.ports := rfl
@[simp] theorem State.onRecov_free (f : Rec → Rec) (s : State) :
    (s.onRecov f).free = s.free := rfl
@[simp] theorem State.onRecov_pending (f : Rec → Rec) (s : State) :
    (s.onRecov f).pending = s.pending := rfl
@[simp] theorem State.onPlc_ident (f : Plc → Plc) (s : State) :
    (s.onPlc f).ident = s.ident := rfl
@[simp] theorem State.onPlc_fab (f : Plc → Plc) (s : State) :
    (s.onPlc f).fab = s.fab := rfl
@[simp] theorem State.onPlc_sys (f : Plc → Plc) (s : State) :
    (s.onPlc f).sys = s.sys := rfl
@[simp] theorem State.onPlc_dict (f : Plc → Plc) (s : State) :
    (s.onPlc f).dict = s.dict := rfl
@[simp] theorem State.onPlc_spn (f : Plc → Plc) (s : State) :
    (s.onPlc f).spn = s.spn := rfl
@[simp] theorem State.onPlc_acts (f : Plc → Plc) (s : State) :
    (s.onPlc f).acts = s.acts := rfl
@[simp] theorem State.onPlc_pool (f : Plc → Plc) (s : State) :
    (s.onPlc f).pool = s.pool := rfl
@[simp] theorem State.onPlc_recov (f : Plc → Plc) (s : State) :
    (s.onPlc f).recov = s.recov := rfl
@[simp] theorem State.onPlc_plc (f : Plc → Plc) (s : State) :
    (s.onPlc f).plc = f s.plc := rfl
@[simp] theorem State.onPlc_tt (f : Plc → Plc) (s : State) :
    (s.onPlc f).tt = s.tt := rfl
@[simp] theorem State.onPlc_nvme (f : Plc → Plc) (s : State) :
    (s.onPlc f).nvme = s.nvme := rfl
@[simp] theorem State.onPlc_dramc (f : Plc → Plc) (s : State) :
    (s.onPlc f).dramc = s.dramc := rfl
@[simp] theorem State.onPlc_scr (f : Plc → Plc) (s : State) :
    (s.onPlc f).scr = s.scr := rfl
@[simp] theorem State.onPlc_buf (f : Plc → Plc) (s : State) :
    (s.onPlc f).buf = s.buf := rfl
@[simp] theorem State.onPlc_ciph (f : Plc → Plc) (s : State) :
    (s.onPlc f).ciph = s.ciph := rfl
@[simp] theorem State.onPlc_dma (f : Plc → Plc) (s : State) :
    (s.onPlc f).dma = s.dma := rfl
@[simp] theorem State.onPlc_hm (f : Plc → Plc) (s : State) :
    (s.onPlc f).hm = s.hm := rfl
@[simp] theorem State.onPlc_yb (f : Plc → Plc) (s : State) :
    (s.onPlc f).yb = s.yb := rfl
@[simp] theorem State.onPlc_pwr (f : Plc → Plc) (s : State) :
    (s.onPlc f).pwr = s.pwr := rfl
@[simp] theorem State.onPlc_rc (f : Plc → Plc) (s : State) :
    (s.onPlc f).rc = s.rc := rfl
@[simp] theorem State.onPlc_evc (f : Plc → Plc) (s : State) :
    (s.onPlc f).evc = s.evc := rfl
@[simp] theorem State.onPlc_tims (f : Plc → Plc) (s : State) :
    (s.onPlc f).tims = s.tims := rfl
@[simp] theorem State.onPlc_ports (f : Plc → Plc) (s : State) :
    (s.onPlc f).ports = s.ports := rfl
@[simp] theorem State.onPlc_free (f : Plc → Plc) (s : State) :
    (s.onPlc f).free = s.free := rfl
@[simp] theorem State.onPlc_pending (f : Plc → Plc) (s : State) :
    (s.onPlc f).pending = s.pending := rfl
@[simp] theorem State.onTt_ident (f : Tt → Tt) (s : State) :
    (s.onTt f).ident = s.ident := rfl
@[simp] theorem State.onTt_fab (f : Tt → Tt) (s : State) :
    (s.onTt f).fab = s.fab := rfl
@[simp] theorem State.onTt_sys (f : Tt → Tt) (s : State) :
    (s.onTt f).sys = s.sys := rfl
@[simp] theorem State.onTt_dict (f : Tt → Tt) (s : State) :
    (s.onTt f).dict = s.dict := rfl
@[simp] theorem State.onTt_spn (f : Tt → Tt) (s : State) :
    (s.onTt f).spn = s.spn := rfl
@[simp] theorem State.onTt_acts (f : Tt → Tt) (s : State) :
    (s.onTt f).acts = s.acts := rfl
@[simp] theorem State.onTt_pool (f : Tt → Tt) (s : State) :
    (s.onTt f).pool = s.pool := rfl
@[simp] theorem State.onTt_recov (f : Tt → Tt) (s : State) :
    (s.onTt f).recov = s.recov := rfl
@[simp] theorem State.onTt_plc (f : Tt → Tt) (s : State) :
    (s.onTt f).plc = s.plc := rfl
@[simp] theorem State.onTt_tt (f : Tt → Tt) (s : State) :
    (s.onTt f).tt = f s.tt := rfl
@[simp] theorem State.onTt_nvme (f : Tt → Tt) (s : State) :
    (s.onTt f).nvme = s.nvme := rfl
@[simp] theorem State.onTt_dramc (f : Tt → Tt) (s : State) :
    (s.onTt f).dramc = s.dramc := rfl
@[simp] theorem State.onTt_scr (f : Tt → Tt) (s : State) :
    (s.onTt f).scr = s.scr := rfl
@[simp] theorem State.onTt_buf (f : Tt → Tt) (s : State) :
    (s.onTt f).buf = s.buf := rfl
@[simp] theorem State.onTt_ciph (f : Tt → Tt) (s : State) :
    (s.onTt f).ciph = s.ciph := rfl
@[simp] theorem State.onTt_dma (f : Tt → Tt) (s : State) :
    (s.onTt f).dma = s.dma := rfl
@[simp] theorem State.onTt_hm (f : Tt → Tt) (s : State) :
    (s.onTt f).hm = s.hm := rfl
@[simp] theorem State.onTt_yb (f : Tt → Tt) (s : State) :
    (s.onTt f).yb = s.yb := rfl
@[simp] theorem State.onTt_pwr (f : Tt → Tt) (s : State) :
    (s.onTt f).pwr = s.pwr := rfl
@[simp] theorem State.onTt_rc (f : Tt → Tt) (s : State) :
    (s.onTt f).rc = s.rc := rfl
@[simp] theorem State.onTt_evc (f : Tt → Tt) (s : State) :
    (s.onTt f).evc = s.evc := rfl
@[simp] theorem State.onTt_tims (f : Tt → Tt) (s : State) :
    (s.onTt f).tims = s.tims := rfl
@[simp] theorem State.onTt_ports (f : Tt → Tt) (s : State) :
    (s.onTt f).ports = s.ports := rfl
@[simp] theorem State.onTt_free (f : Tt → Tt) (s : State) :
    (s.onTt f).free = s.free := rfl
@[simp] theorem State.onTt_pending (f : Tt → Tt) (s : State) :
    (s.onTt f).pending = s.pending := rfl
@[simp] theorem State.onNvme_ident (f : Nvme → Nvme) (s : State) :
    (s.onNvme f).ident = s.ident := rfl
@[simp] theorem State.onNvme_fab (f : Nvme → Nvme) (s : State) :
    (s.onNvme f).fab = s.fab := rfl
@[simp] theorem State.onNvme_sys (f : Nvme → Nvme) (s : State) :
    (s.onNvme f).sys = s.sys := rfl
@[simp] theorem State.onNvme_dict (f : Nvme → Nvme) (s : State) :
    (s.onNvme f).dict = s.dict := rfl
@[simp] theorem State.onNvme_spn (f : Nvme → Nvme) (s : State) :
    (s.onNvme f).spn = s.spn := rfl
@[simp] theorem State.onNvme_acts (f : Nvme → Nvme) (s : State) :
    (s.onNvme f).acts = s.acts := rfl
@[simp] theorem State.onNvme_pool (f : Nvme → Nvme) (s : State) :
    (s.onNvme f).pool = s.pool := rfl
@[simp] theorem State.onNvme_recov (f : Nvme → Nvme) (s : State) :
    (s.onNvme f).recov = s.recov := rfl
@[simp] theorem State.onNvme_plc (f : Nvme → Nvme) (s : State) :
    (s.onNvme f).plc = s.plc := rfl
@[simp] theorem State.onNvme_tt (f : Nvme → Nvme) (s : State) :
    (s.onNvme f).tt = s.tt := rfl
@[simp] theorem State.onNvme_nvme (f : Nvme → Nvme) (s : State) :
    (s.onNvme f).nvme = f s.nvme := rfl
@[simp] theorem State.onNvme_dramc (f : Nvme → Nvme) (s : State) :
    (s.onNvme f).dramc = s.dramc := rfl
@[simp] theorem State.onNvme_scr (f : Nvme → Nvme) (s : State) :
    (s.onNvme f).scr = s.scr := rfl
@[simp] theorem State.onNvme_buf (f : Nvme → Nvme) (s : State) :
    (s.onNvme f).buf = s.buf := rfl
@[simp] theorem State.onNvme_ciph (f : Nvme → Nvme) (s : State) :
    (s.onNvme f).ciph = s.ciph := rfl
@[simp] theorem State.onNvme_dma (f : Nvme → Nvme) (s : State) :
    (s.onNvme f).dma = s.dma := rfl
@[simp] theorem State.onNvme_hm (f : Nvme → Nvme) (s : State) :
    (s.onNvme f).hm = s.hm := rfl
@[simp] theorem State.onNvme_yb (f : Nvme → Nvme) (s : State) :
    (s.onNvme f).yb = s.yb := rfl
@[simp] theorem State.onNvme_pwr (f : Nvme → Nvme) (s : State) :
    (s.onNvme f).pwr = s.pwr := rfl
@[simp] theorem State.onNvme_rc (f : Nvme → Nvme) (s : State) :
    (s.onNvme f).rc = s.rc := rfl
@[simp] theorem State.onNvme_evc (f : Nvme → Nvme) (s : State) :
    (s.onNvme f).evc = s.evc := rfl
@[simp] theorem State.onNvme_tims (f : Nvme → Nvme) (s : State) :
    (s.onNvme f).tims = s.tims := rfl
@[simp] theorem State.onNvme_ports (f : Nvme → Nvme) (s : State) :
    (s.onNvme f).ports = s.ports := rfl
@[simp] theorem State.onNvme_free (f : Nvme → Nvme) (s : State) :
    (s.onNvme f).free = s.free := rfl
@[simp] theorem State.onNvme_pending (f : Nvme → Nvme) (s : State) :
    (s.onNvme f).pending = s.pending := rfl
@[simp] theorem State.onDramc_ident (f : Dramc → Dramc) (s : State) :
    (s.onDramc f).ident = s.ident := rfl
@[simp] theorem State.onDramc_fab (f : Dramc → Dramc) (s : State) :
    (s.onDramc f).fab = s.fab := rfl
@[simp] theorem State.onDramc_sys (f : Dramc → Dramc) (s : State) :
    (s.onDramc f).sys = s.sys := rfl
@[simp] theorem State.onDramc_dict (f : Dramc → Dramc) (s : State) :
    (s.onDramc f).dict = s.dict := rfl
@[simp] theorem State.onDramc_spn (f : Dramc → Dramc) (s : State) :
    (s.onDramc f).spn = s.spn := rfl
@[simp] theorem State.onDramc_acts (f : Dramc → Dramc) (s : State) :
    (s.onDramc f).acts = s.acts := rfl
@[simp] theorem State.onDramc_pool (f : Dramc → Dramc) (s : State) :
    (s.onDramc f).pool = s.pool := rfl
@[simp] theorem State.onDramc_recov (f : Dramc → Dramc) (s : State) :
    (s.onDramc f).recov = s.recov := rfl
@[simp] theorem State.onDramc_plc (f : Dramc → Dramc) (s : State) :
    (s.onDramc f).plc = s.plc := rfl
@[simp] theorem State.onDramc_tt (f : Dramc → Dramc) (s : State) :
    (s.onDramc f).tt = s.tt := rfl
@[simp] theorem State.onDramc_nvme (f : Dramc → Dramc) (s : State) :
    (s.onDramc f).nvme = s.nvme := rfl
@[simp] theorem State.onDramc_dramc (f : Dramc → Dramc) (s : State) :
    (s.onDramc f).dramc = f s.dramc := rfl
@[simp] theorem State.onDramc_scr (f : Dramc → Dramc) (s : State) :
    (s.onDramc f).scr = s.scr := rfl
@[simp] theorem State.onDramc_buf (f : Dramc → Dramc) (s : State) :
    (s.onDramc f).buf = s.buf := rfl
@[simp] theorem State.onDramc_ciph (f : Dramc → Dramc) (s : State) :
    (s.onDramc f).ciph = s.ciph := rfl
@[simp] theorem State.onDramc_dma (f : Dramc → Dramc) (s : State) :
    (s.onDramc f).dma = s.dma := rfl
@[simp] theorem State.onDramc_hm (f : Dramc → Dramc) (s : State) :
    (s.onDramc f).hm = s.hm := rfl
@[simp] theorem State.onDramc_yb (f : Dramc → Dramc) (s : State) :
    (s.onDramc f).yb = s.yb := rfl
@[simp] theorem State.onDramc_pwr (f : Dramc → Dramc) (s : State) :
    (s.onDramc f).pwr = s.pwr := rfl
@[simp] theorem State.onDramc_rc (f : Dramc → Dramc) (s : State) :
    (s.onDramc f).rc = s.rc := rfl
@[simp] theorem State.onDramc_evc (f : Dramc → Dramc) (s : State) :
    (s.onDramc f).evc = s.evc := rfl
@[simp] theorem State.onDramc_tims (f : Dramc → Dramc) (s : State) :
    (s.onDramc f).tims = s.tims := rfl
@[simp] theorem State.onDramc_ports (f : Dramc → Dramc) (s : State) :
    (s.onDramc f).ports = s.ports := rfl
@[simp] theorem State.onDramc_free (f : Dramc → Dramc) (s : State) :
    (s.onDramc f).free = s.free := rfl
@[simp] theorem State.onDramc_pending (f : Dramc → Dramc) (s : State) :
    (s.onDramc f).pending = s.pending := rfl
@[simp] theorem State.onScr_ident (f : Scr → Scr) (s : State) :
    (s.onScr f).ident = s.ident := rfl
@[simp] theorem State.onScr_fab (f : Scr → Scr) (s : State) :
    (s.onScr f).fab = s.fab := rfl
@[simp] theorem State.onScr_sys (f : Scr → Scr) (s : State) :
    (s.onScr f).sys = s.sys := rfl
@[simp] theorem State.onScr_dict (f : Scr → Scr) (s : State) :
    (s.onScr f).dict = s.dict := rfl
@[simp] theorem State.onScr_spn (f : Scr → Scr) (s : State) :
    (s.onScr f).spn = s.spn := rfl
@[simp] theorem State.onScr_acts (f : Scr → Scr) (s : State) :
    (s.onScr f).acts = s.acts := rfl
@[simp] theorem State.onScr_pool (f : Scr → Scr) (s : State) :
    (s.onScr f).pool = s.pool := rfl
@[simp] theorem State.onScr_recov (f : Scr → Scr) (s : State) :
    (s.onScr f).recov = s.recov := rfl
@[simp] theorem State.onScr_plc (f : Scr → Scr) (s : State) :
    (s.onScr f).plc = s.plc := rfl
@[simp] theorem State.onScr_tt (f : Scr → Scr) (s : State) :
    (s.onScr f).tt = s.tt := rfl
@[simp] theorem State.onScr_nvme (f : Scr → Scr) (s : State) :
    (s.onScr f).nvme = s.nvme := rfl
@[simp] theorem State.onScr_dramc (f : Scr → Scr) (s : State) :
    (s.onScr f).dramc = s.dramc := rfl
@[simp] theorem State.onScr_scr (f : Scr → Scr) (s : State) :
    (s.onScr f).scr = f s.scr := rfl
@[simp] theorem State.onScr_buf (f : Scr → Scr) (s : State) :
    (s.onScr f).buf = s.buf := rfl
@[simp] theorem State.onScr_ciph (f : Scr → Scr) (s : State) :
    (s.onScr f).ciph = s.ciph := rfl
@[simp] theorem State.onScr_dma (f : Scr → Scr) (s : State) :
    (s.onScr f).dma = s.dma := rfl
@[simp] theorem State.onScr_hm (f : Scr → Scr) (s : State) :
    (s.onScr f).hm = s.hm := rfl
@[simp] theorem State.onScr_yb (f : Scr → Scr) (s : State) :
    (s.onScr f).yb = s.yb := rfl
@[simp] theorem State.onScr_pwr (f : Scr → Scr) (s : State) :
    (s.onScr f).pwr = s.pwr := rfl
@[simp] theorem State.onScr_rc (f : Scr → Scr) (s : State) :
    (s.onScr f).rc = s.rc := rfl
@[simp] theorem State.onScr_evc (f : Scr → Scr) (s : State) :
    (s.onScr f).evc = s.evc := rfl
@[simp] theorem State.onScr_tims (f : Scr → Scr) (s : State) :
    (s.onScr f).tims = s.tims := rfl
@[simp] theorem State.onScr_ports (f : Scr → Scr) (s : State) :
    (s.onScr f).ports = s.ports := rfl
@[simp] theorem State.onScr_free (f : Scr → Scr) (s : State) :
    (s.onScr f).free = s.free := rfl
@[simp] theorem State.onScr_pending (f : Scr → Scr) (s : State) :
    (s.onScr f).pending = s.pending := rfl
@[simp] theorem State.onBuf_ident (f : Buf → Buf) (s : State) :
    (s.onBuf f).ident = s.ident := rfl
@[simp] theorem State.onBuf_fab (f : Buf → Buf) (s : State) :
    (s.onBuf f).fab = s.fab := rfl
@[simp] theorem State.onBuf_sys (f : Buf → Buf) (s : State) :
    (s.onBuf f).sys = s.sys := rfl
@[simp] theorem State.onBuf_dict (f : Buf → Buf) (s : State) :
    (s.onBuf f).dict = s.dict := rfl
@[simp] theorem State.onBuf_spn (f : Buf → Buf) (s : State) :
    (s.onBuf f).spn = s.spn := rfl
@[simp] theorem State.onBuf_acts (f : Buf → Buf) (s : State) :
    (s.onBuf f).acts = s.acts := rfl
@[simp] theorem State.onBuf_pool (f : Buf → Buf) (s : State) :
    (s.onBuf f).pool = s.pool := rfl
@[simp] theorem State.onBuf_recov (f : Buf → Buf) (s : State) :
    (s.onBuf f).recov = s.recov := rfl
@[simp] theorem State.onBuf_plc (f : Buf → Buf) (s : State) :
    (s.onBuf f).plc = s.plc := rfl
@[simp] theorem State.onBuf_tt (f : Buf → Buf) (s : State) :
    (s.onBuf f).tt = s.tt := rfl
@[simp] theorem State.onBuf_nvme (f : Buf → Buf) (s : State) :
    (s.onBuf f).nvme = s.nvme := rfl
@[simp] theorem State.onBuf_dramc (f : Buf → Buf) (s : State) :
    (s.onBuf f).dramc = s.dramc := rfl
@[simp] theorem State.onBuf_scr (f : Buf → Buf) (s : State) :
    (s.onBuf f).scr = s.scr := rfl
@[simp] theorem State.onBuf_buf (f : Buf → Buf) (s : State) :
    (s.onBuf f).buf = f s.buf := rfl
@[simp] theorem State.onBuf_ciph (f : Buf → Buf) (s : State) :
    (s.onBuf f).ciph = s.ciph := rfl
@[simp] theorem State.onBuf_dma (f : Buf → Buf) (s : State) :
    (s.onBuf f).dma = s.dma := rfl
@[simp] theorem State.onBuf_hm (f : Buf → Buf) (s : State) :
    (s.onBuf f).hm = s.hm := rfl
@[simp] theorem State.onBuf_yb (f : Buf → Buf) (s : State) :
    (s.onBuf f).yb = s.yb := rfl
@[simp] theorem State.onBuf_pwr (f : Buf → Buf) (s : State) :
    (s.onBuf f).pwr = s.pwr := rfl
@[simp] theorem State.onBuf_rc (f : Buf → Buf) (s : State) :
    (s.onBuf f).rc = s.rc := rfl
@[simp] theorem State.onBuf_evc (f : Buf → Buf) (s : State) :
    (s.onBuf f).evc = s.evc := rfl
@[simp] theorem State.onBuf_tims (f : Buf → Buf) (s : State) :
    (s.onBuf f).tims = s.tims := rfl
@[simp] theorem State.onBuf_ports (f : Buf → Buf) (s : State) :
    (s.onBuf f).ports = s.ports := rfl
@[simp] theorem State.onBuf_free (f : Buf → Buf) (s : State) :
    (s.onBuf f).free = s.free := rfl
@[simp] theorem State.onBuf_pending (f : Buf → Buf) (s : State) :
    (s.onBuf f).pending = s.pending := rfl
@[simp] theorem State.onCiph_ident (f : Ciph → Ciph) (s : State) :
    (s.onCiph f).ident = s.ident := rfl
@[simp] theorem State.onCiph_fab (f : Ciph → Ciph) (s : State) :
    (s.onCiph f).fab = s.fab := rfl
@[simp] theorem State.onCiph_sys (f : Ciph → Ciph) (s : State) :
    (s.onCiph f).sys = s.sys := rfl
@[simp] theorem State.onCiph_dict (f : Ciph → Ciph) (s : State) :
    (s.onCiph f).dict = s.dict := rfl
@[simp] theorem State.onCiph_spn (f : Ciph → Ciph) (s : State) :
    (s.onCiph f).spn = s.spn := rfl
@[simp] theorem State.onCiph_acts (f : Ciph → Ciph) (s : State) :
    (s.onCiph f).acts = s.acts := rfl
@[simp] theorem State.onCiph_pool (f : Ciph → Ciph) (s : State) :
    (s.onCiph f).pool = s.pool := rfl
@[simp] theorem State.onCiph_recov (f : Ciph → Ciph) (s : State) :
    (s.onCiph f).recov = s.recov := rfl
@[simp] theorem State.onCiph_plc (f : Ciph → Ciph) (s : State) :
    (s.onCiph f).plc = s.plc := rfl
@[simp] theorem State.onCiph_tt (f : Ciph → Ciph) (s : State) :
    (s.onCiph f).tt = s.tt := rfl
@[simp] theorem State.onCiph_nvme (f : Ciph → Ciph) (s : State) :
    (s.onCiph f).nvme = s.nvme := rfl
@[simp] theorem State.onCiph_dramc (f : Ciph → Ciph) (s : State) :
    (s.onCiph f).dramc = s.dramc := rfl
@[simp] theorem State.onCiph_scr (f : Ciph → Ciph) (s : State) :
    (s.onCiph f).scr = s.scr := rfl
@[simp] theorem State.onCiph_buf (f : Ciph → Ciph) (s : State) :
    (s.onCiph f).buf = s.buf := rfl
@[simp] theorem State.onCiph_ciph (f : Ciph → Ciph) (s : State) :
    (s.onCiph f).ciph = f s.ciph := rfl
@[simp] theorem State.onCiph_dma (f : Ciph → Ciph) (s : State) :
    (s.onCiph f).dma = s.dma := rfl
@[simp] theorem State.onCiph_hm (f : Ciph → Ciph) (s : State) :
    (s.onCiph f).hm = s.hm := rfl
@[simp] theorem State.onCiph_yb (f : Ciph → Ciph) (s : State) :
    (s.onCiph f).yb = s.yb := rfl
@[simp] theorem State.onCiph_pwr (f : Ciph → Ciph) (s : State) :
    (s.onCiph f).pwr = s.pwr := rfl
@[simp] theorem State.onCiph_rc (f : Ciph → Ciph) (s : State) :
    (s.onCiph f).rc = s.rc := rfl
@[simp] theorem State.onCiph_evc (f : Ciph → Ciph) (s : State) :
    (s.onCiph f).evc = s.evc := rfl
@[simp] theorem State.onCiph_tims (f : Ciph → Ciph) (s : State) :
    (s.onCiph f).tims = s.tims := rfl
@[simp] theorem State.onCiph_ports (f : Ciph → Ciph) (s : State) :
    (s.onCiph f).ports = s.ports := rfl
@[simp] theorem State.onCiph_free (f : Ciph → Ciph) (s : State) :
    (s.onCiph f).free = s.free := rfl
@[simp] theorem State.onCiph_pending (f : Ciph → Ciph) (s : State) :
    (s.onCiph f).pending = s.pending := rfl
@[simp] theorem State.onDma_ident (f : Dma → Dma) (s : State) :
    (s.onDma f).ident = s.ident := rfl
@[simp] theorem State.onDma_fab (f : Dma → Dma) (s : State) :
    (s.onDma f).fab = s.fab := rfl
@[simp] theorem State.onDma_sys (f : Dma → Dma) (s : State) :
    (s.onDma f).sys = s.sys := rfl
@[simp] theorem State.onDma_dict (f : Dma → Dma) (s : State) :
    (s.onDma f).dict = s.dict := rfl
@[simp] theorem State.onDma_spn (f : Dma → Dma) (s : State) :
    (s.onDma f).spn = s.spn := rfl
@[simp] theorem State.onDma_acts (f : Dma → Dma) (s : State) :
    (s.onDma f).acts = s.acts := rfl
@[simp] theorem State.onDma_pool (f : Dma → Dma) (s : State) :
    (s.onDma f).pool = s.pool := rfl
@[simp] theorem State.onDma_recov (f : Dma → Dma) (s : State) :
    (s.onDma f).recov = s.recov := rfl
@[simp] theorem State.onDma_plc (f : Dma → Dma) (s : State) :
    (s.onDma f).plc = s.plc := rfl
@[simp] theorem State.onDma_tt (f : Dma → Dma) (s : State) :
    (s.onDma f).tt = s.tt := rfl
@[simp] theorem State.onDma_nvme (f : Dma → Dma) (s : State) :
    (s.onDma f).nvme = s.nvme := rfl
@[simp] theorem State.onDma_dramc (f : Dma → Dma) (s : State) :
    (s.onDma f).dramc = s.dramc := rfl
@[simp] theorem State.onDma_scr (f : Dma → Dma) (s : State) :
    (s.onDma f).scr = s.scr := rfl
@[simp] theorem State.onDma_buf (f : Dma → Dma) (s : State) :
    (s.onDma f).buf = s.buf := rfl
@[simp] theorem State.onDma_ciph (f : Dma → Dma) (s : State) :
    (s.onDma f).ciph = s.ciph := rfl
@[simp] theorem State.onDma_dma (f : Dma → Dma) (s : State) :
    (s.onDma f).dma = f s.dma := rfl
@[simp] theorem State.onDma_hm (f : Dma → Dma) (s : State) :
    (s.onDma f).hm = s.hm := rfl
@[simp] theorem State.onDma_yb (f : Dma → Dma) (s : State) :
    (s.onDma f).yb = s.yb := rfl
@[simp] theorem State.onDma_pwr (f : Dma → Dma) (s : State) :
    (s.onDma f).pwr = s.pwr := rfl
@[simp] theorem State.onDma_rc (f : Dma → Dma) (s : State) :
    (s.onDma f).rc = s.rc := rfl
@[simp] theorem State.onDma_evc (f : Dma → Dma) (s : State) :
    (s.onDma f).evc = s.evc := rfl
@[simp] theorem State.onDma_tims (f : Dma → Dma) (s : State) :
    (s.onDma f).tims = s.tims := rfl
@[simp] theorem State.onDma_ports (f : Dma → Dma) (s : State) :
    (s.onDma f).ports = s.ports := rfl
@[simp] theorem State.onDma_free (f : Dma → Dma) (s : State) :
    (s.onDma f).free = s.free := rfl
@[simp] theorem State.onDma_pending (f : Dma → Dma) (s : State) :
    (s.onDma f).pending = s.pending := rfl
@[simp] theorem State.onHm_ident (f : Hm → Hm) (s : State) :
    (s.onHm f).ident = s.ident := rfl
@[simp] theorem State.onHm_fab (f : Hm → Hm) (s : State) :
    (s.onHm f).fab = s.fab := rfl
@[simp] theorem State.onHm_sys (f : Hm → Hm) (s : State) :
    (s.onHm f).sys = s.sys := rfl
@[simp] theorem State.onHm_dict (f : Hm → Hm) (s : State) :
    (s.onHm f).dict = s.dict := rfl
@[simp] theorem State.onHm_spn (f : Hm → Hm) (s : State) :
    (s.onHm f).spn = s.spn := rfl
@[simp] theorem State.onHm_acts (f : Hm → Hm) (s : State) :
    (s.onHm f).acts = s.acts := rfl
@[simp] theorem State.onHm_pool (f : Hm → Hm) (s : State) :
    (s.onHm f).pool = s.pool := rfl
@[simp] theorem State.onHm_recov (f : Hm → Hm) (s : State) :
    (s.onHm f).recov = s.recov := rfl
@[simp] theorem State.onHm_plc (f : Hm → Hm) (s : State) :
    (s.onHm f).plc = s.plc := rfl
@[simp] theorem State.onHm_tt (f : Hm → Hm) (s : State) :
    (s.onHm f).tt = s.tt := rfl
@[simp] theorem State.onHm_nvme (f : Hm → Hm) (s : State) :
    (s.onHm f).nvme = s.nvme := rfl
@[simp] theorem State.onHm_dramc (f : Hm → Hm) (s : State) :
    (s.onHm f).dramc = s.dramc := rfl
@[simp] theorem State.onHm_scr (f : Hm → Hm) (s : State) :
    (s.onHm f).scr = s.scr := rfl
@[simp] theorem State.onHm_buf (f : Hm → Hm) (s : State) :
    (s.onHm f).buf = s.buf := rfl
@[simp] theorem State.onHm_ciph (f : Hm → Hm) (s : State) :
    (s.onHm f).ciph = s.ciph := rfl
@[simp] theorem State.onHm_dma (f : Hm → Hm) (s : State) :
    (s.onHm f).dma = s.dma := rfl
@[simp] theorem State.onHm_hm (f : Hm → Hm) (s : State) :
    (s.onHm f).hm = f s.hm := rfl
@[simp] theorem State.onHm_yb (f : Hm → Hm) (s : State) :
    (s.onHm f).yb = s.yb := rfl
@[simp] theorem State.onHm_pwr (f : Hm → Hm) (s : State) :
    (s.onHm f).pwr = s.pwr := rfl
@[simp] theorem State.onHm_rc (f : Hm → Hm) (s : State) :
    (s.onHm f).rc = s.rc := rfl
@[simp] theorem State.onHm_evc (f : Hm → Hm) (s : State) :
    (s.onHm f).evc = s.evc := rfl
@[simp] theorem State.onHm_tims (f : Hm → Hm) (s : State) :
    (s.onHm f).tims = s.tims := rfl
@[simp] theorem State.onHm_ports (f : Hm → Hm) (s : State) :
    (s.onHm f).ports = s.ports := rfl
@[simp] theorem State.onHm_free (f : Hm → Hm) (s : State) :
    (s.onHm f).free = s.free := rfl
@[simp] theorem State.onHm_pending (f : Hm → Hm) (s : State) :
    (s.onHm f).pending = s.pending := rfl
@[simp] theorem State.onYb_ident (f : Yb → Yb) (s : State) :
    (s.onYb f).ident = s.ident := rfl
@[simp] theorem State.onYb_fab (f : Yb → Yb) (s : State) :
    (s.onYb f).fab = s.fab := rfl
@[simp] theorem State.onYb_sys (f : Yb → Yb) (s : State) :
    (s.onYb f).sys = s.sys := rfl
@[simp] theorem State.onYb_dict (f : Yb → Yb) (s : State) :
    (s.onYb f).dict = s.dict := rfl
@[simp] theorem State.onYb_spn (f : Yb → Yb) (s : State) :
    (s.onYb f).spn = s.spn := rfl
@[simp] theorem State.onYb_acts (f : Yb → Yb) (s : State) :
    (s.onYb f).acts = s.acts := rfl
@[simp] theorem State.onYb_pool (f : Yb → Yb) (s : State) :
    (s.onYb f).pool = s.pool := rfl
@[simp] theorem State.onYb_recov (f : Yb → Yb) (s : State) :
    (s.onYb f).recov = s.recov := rfl
@[simp] theorem State.onYb_plc (f : Yb → Yb) (s : State) :
    (s.onYb f).plc = s.plc := rfl
@[simp] theorem State.onYb_tt (f : Yb → Yb) (s : State) :
    (s.onYb f).tt = s.tt := rfl
@[simp] theorem State.onYb_nvme (f : Yb → Yb) (s : State) :
    (s.onYb f).nvme = s.nvme := rfl
@[simp] theorem State.onYb_dramc (f : Yb → Yb) (s : State) :
    (s.onYb f).dramc = s.dramc := rfl
@[simp] theorem State.onYb_scr (f : Yb → Yb) (s : State) :
    (s.onYb f).scr = s.scr := rfl
@[simp] theorem State.onYb_buf (f : Yb → Yb) (s : State) :
    (s.onYb f).buf = s.buf := rfl
@[simp] theorem State.onYb_ciph (f : Yb → Yb) (s : State) :
    (s.onYb f).ciph = s.ciph := rfl
@[simp] theorem State.onYb_dma (f : Yb → Yb) (s : State) :
    (s.onYb f).dma = s.dma := rfl
@[simp] theorem State.onYb_hm (f : Yb → Yb) (s : State) :
    (s.onYb f).hm = s.hm := rfl
@[simp] theorem State.onYb_yb (f : Yb → Yb) (s : State) :
    (s.onYb f).yb = f s.yb := rfl
@[simp] theorem State.onYb_pwr (f : Yb → Yb) (s : State) :
    (s.onYb f).pwr = s.pwr := rfl
@[simp] theorem State.onYb_rc (f : Yb → Yb) (s : State) :
    (s.onYb f).rc = s.rc := rfl
@[simp] theorem State.onYb_evc (f : Yb → Yb) (s : State) :
    (s.onYb f).evc = s.evc := rfl
@[simp] theorem State.onYb_tims (f : Yb → Yb) (s : State) :
    (s.onYb f).tims = s.tims := rfl
@[simp] theorem State.onYb_ports (f : Yb → Yb) (s : State) :
    (s.onYb f).ports = s.ports := rfl
@[simp] theorem State.onYb_free (f : Yb → Yb) (s : State) :
    (s.onYb f).free = s.free := rfl
@[simp] theorem State.onYb_pending (f : Yb → Yb) (s : State) :
    (s.onYb f).pending = s.pending := rfl
@[simp] theorem State.onPwr_ident (f : Pwr → Pwr) (s : State) :
    (s.onPwr f).ident = s.ident := rfl
@[simp] theorem State.onPwr_fab (f : Pwr → Pwr) (s : State) :
    (s.onPwr f).fab = s.fab := rfl
@[simp] theorem State.onPwr_sys (f : Pwr → Pwr) (s : State) :
    (s.onPwr f).sys = s.sys := rfl
@[simp] theorem State.onPwr_dict (f : Pwr → Pwr) (s : State) :
    (s.onPwr f).dict = s.dict := rfl
@[simp] theorem State.onPwr_spn (f : Pwr → Pwr) (s : State) :
    (s.onPwr f).spn = s.spn := rfl
@[simp] theorem State.onPwr_acts (f : Pwr → Pwr) (s : State) :
    (s.onPwr f).acts = s.acts := rfl
@[simp] theorem State.onPwr_pool (f : Pwr → Pwr) (s : State) :
    (s.onPwr f).pool = s.pool := rfl
@[simp] theorem State.onPwr_recov (f : Pwr → Pwr) (s : State) :
    (s.onPwr f).recov = s.recov := rfl
@[simp] theorem State.onPwr_plc (f : Pwr → Pwr) (s : State) :
    (s.onPwr f).plc = s.plc := rfl
@[simp] theorem State.onPwr_tt (f : Pwr → Pwr) (s : State) :
    (s.onPwr f).tt = s.tt := rfl
@[simp] theorem State.onPwr_nvme (f : Pwr → Pwr) (s : State) :
    (s.onPwr f).nvme = s.nvme := rfl
@[simp] theorem State.onPwr_dramc (f : Pwr → Pwr) (s : State) :
    (s.onPwr f).dramc = s.dramc := rfl
@[simp] theorem State.onPwr_scr (f : Pwr → Pwr) (s : State) :
    (s.onPwr f).scr = s.scr := rfl
@[simp] theorem State.onPwr_buf (f : Pwr → Pwr) (s : State) :
    (s.onPwr f).buf = s.buf := rfl
@[simp] theorem State.onPwr_ciph (f : Pwr → Pwr) (s : State) :
    (s.onPwr f).ciph = s.ciph := rfl
@[simp] theorem State.onPwr_dma (f : Pwr → Pwr) (s : State) :
    (s.onPwr f).dma = s.dma := rfl
@[simp] theorem State.onPwr_hm (f : Pwr → Pwr) (s : State) :
    (s.onPwr f).hm = s.hm := rfl
@[simp] theorem State.onPwr_yb (f : Pwr → Pwr) (s : State) :
    (s.onPwr f).yb = s.yb := rfl
@[simp] theorem State.onPwr_pwr (f : Pwr → Pwr) (s : State) :
    (s.onPwr f).pwr = f s.pwr := rfl
@[simp] theorem State.onPwr_rc (f : Pwr → Pwr) (s : State) :
    (s.onPwr f).rc = s.rc := rfl
@[simp] theorem State.onPwr_evc (f : Pwr → Pwr) (s : State) :
    (s.onPwr f).evc = s.evc := rfl
@[simp] theorem State.onPwr_tims (f : Pwr → Pwr) (s : State) :
    (s.onPwr f).tims = s.tims := rfl
@[simp] theorem State.onPwr_ports (f : Pwr → Pwr) (s : State) :
    (s.onPwr f).ports = s.ports := rfl
@[simp] theorem State.onPwr_free (f : Pwr → Pwr) (s : State) :
    (s.onPwr f).free = s.free := rfl
@[simp] theorem State.onPwr_pending (f : Pwr → Pwr) (s : State) :
    (s.onPwr f).pending = s.pending := rfl
@[simp] theorem State.onRc_ident (f : Rc → Rc) (s : State) :
    (s.onRc f).ident = s.ident := rfl
@[simp] theorem State.onRc_fab (f : Rc → Rc) (s : State) :
    (s.onRc f).fab = s.fab := rfl
@[simp] theorem State.onRc_sys (f : Rc → Rc) (s : State) :
    (s.onRc f).sys = s.sys := rfl
@[simp] theorem State.onRc_dict (f : Rc → Rc) (s : State) :
    (s.onRc f).dict = s.dict := rfl
@[simp] theorem State.onRc_spn (f : Rc → Rc) (s : State) :
    (s.onRc f).spn = s.spn := rfl
@[simp] theorem State.onRc_acts (f : Rc → Rc) (s : State) :
    (s.onRc f).acts = s.acts := rfl
@[simp] theorem State.onRc_pool (f : Rc → Rc) (s : State) :
    (s.onRc f).pool = s.pool := rfl
@[simp] theorem State.onRc_recov (f : Rc → Rc) (s : State) :
    (s.onRc f).recov = s.recov := rfl
@[simp] theorem State.onRc_plc (f : Rc → Rc) (s : State) :
    (s.onRc f).plc = s.plc := rfl
@[simp] theorem State.onRc_tt (f : Rc → Rc) (s : State) :
    (s.onRc f).tt = s.tt := rfl
@[simp] theorem State.onRc_nvme (f : Rc → Rc) (s : State) :
    (s.onRc f).nvme = s.nvme := rfl
@[simp] theorem State.onRc_dramc (f : Rc → Rc) (s : State) :
    (s.onRc f).dramc = s.dramc := rfl
@[simp] theorem State.onRc_scr (f : Rc → Rc) (s : State) :
    (s.onRc f).scr = s.scr := rfl
@[simp] theorem State.onRc_buf (f : Rc → Rc) (s : State) :
    (s.onRc f).buf = s.buf := rfl
@[simp] theorem State.onRc_ciph (f : Rc → Rc) (s : State) :
    (s.onRc f).ciph = s.ciph := rfl
@[simp] theorem State.onRc_dma (f : Rc → Rc) (s : State) :
    (s.onRc f).dma = s.dma := rfl
@[simp] theorem State.onRc_hm (f : Rc → Rc) (s : State) :
    (s.onRc f).hm = s.hm := rfl
@[simp] theorem State.onRc_yb (f : Rc → Rc) (s : State) :
    (s.onRc f).yb = s.yb := rfl
@[simp] theorem State.onRc_pwr (f : Rc → Rc) (s : State) :
    (s.onRc f).pwr = s.pwr := rfl
@[simp] theorem State.onRc_rc (f : Rc → Rc) (s : State) :
    (s.onRc f).rc = f s.rc := rfl
@[simp] theorem State.onRc_evc (f : Rc → Rc) (s : State) :
    (s.onRc f).evc = s.evc := rfl
@[simp] theorem State.onRc_tims (f : Rc → Rc) (s : State) :
    (s.onRc f).tims = s.tims := rfl
@[simp] theorem State.onRc_ports (f : Rc → Rc) (s : State) :
    (s.onRc f).ports = s.ports := rfl
@[simp] theorem State.onRc_free (f : Rc → Rc) (s : State) :
    (s.onRc f).free = s.free := rfl
@[simp] theorem State.onRc_pending (f : Rc → Rc) (s : State) :
    (s.onRc f).pending = s.pending := rfl
@[simp] theorem State.onEvc_ident (f : Evc → Evc) (s : State) :
    (s.onEvc f).ident = s.ident := rfl
@[simp] theorem State.onEvc_fab (f : Evc → Evc) (s : State) :
    (s.onEvc f).fab = s.fab := rfl
@[simp] theorem State.onEvc_sys (f : Evc → Evc) (s : State) :
    (s.onEvc f).sys = s.sys := rfl
@[simp] theorem State.onEvc_dict (f : Evc → Evc) (s : State) :
    (s.onEvc f).dict = s.dict := rfl
@[simp] theorem State.onEvc_spn (f : Evc → Evc) (s : State) :
    (s.onEvc f).spn = s.spn := rfl
@[simp] theorem State.onEvc_acts (f : Evc → Evc) (s : State) :
    (s.onEvc f).acts = s.acts := rfl
@[simp] theorem State.onEvc_pool (f : Evc → Evc) (s : State) :
    (s.onEvc f).pool = s.pool := rfl
@[simp] theorem State.onEvc_recov (f : Evc → Evc) (s : State) :
    (s.onEvc f).recov = s.recov := rfl
@[simp] theorem State.onEvc_plc (f : Evc → Evc) (s : State) :
    (s.onEvc f).plc = s.plc := rfl
@[simp] theorem State.onEvc_tt (f : Evc → Evc) (s : State) :
    (s.onEvc f).tt = s.tt := rfl
@[simp] theorem State.onEvc_nvme (f : Evc → Evc) (s : State) :
    (s.onEvc f).nvme = s.nvme := rfl
@[simp] theorem State.onEvc_dramc (f : Evc → Evc) (s : State) :
    (s.onEvc f).dramc = s.dramc := rfl
@[simp] theorem State.onEvc_scr (f : Evc → Evc) (s : State) :
    (s.onEvc f).scr = s.scr := rfl
@[simp] theorem State.onEvc_buf (f : Evc → Evc) (s : State) :
    (s.onEvc f).buf = s.buf := rfl
@[simp] theorem State.onEvc_ciph (f : Evc → Evc) (s : State) :
    (s.onEvc f).ciph = s.ciph := rfl
@[simp] theorem State.onEvc_dma (f : Evc → Evc) (s : State) :
    (s.onEvc f).dma = s.dma := rfl
@[simp] theorem State.onEvc_hm (f : Evc → Evc) (s : State) :
    (s.onEvc f).hm = s.hm := rfl
@[simp] theorem State.onEvc_yb (f : Evc → Evc) (s : State) :
    (s.onEvc f).yb = s.yb := rfl
@[simp] theorem State.onEvc_pwr (f : Evc → Evc) (s : State) :
    (s.onEvc f).pwr = s.pwr := rfl
@[simp] theorem State.onEvc_rc (f : Evc → Evc) (s : State) :
    (s.onEvc f).rc = s.rc := rfl
@[simp] theorem State.onEvc_evc (f : Evc → Evc) (s : State) :
    (s.onEvc f).evc = f s.evc := rfl
@[simp] theorem State.onEvc_tims (f : Evc → Evc) (s : State) :
    (s.onEvc f).tims = s.tims := rfl
@[simp] theorem State.onEvc_ports (f : Evc → Evc) (s : State) :
    (s.onEvc f).ports = s.ports := rfl
@[simp] theorem State.onEvc_free (f : Evc → Evc) (s : State) :
    (s.onEvc f).free = s.free := rfl
@[simp] theorem State.onEvc_pending (f : Evc → Evc) (s : State) :
    (s.onEvc f).pending = s.pending := rfl
@[simp] theorem State.onTims_ident (f : (Tab Timer) → (Tab Timer)) (s : State) :
    (s.onTims f).ident = s.ident := rfl
@[simp] theorem State.onTims_fab (f : (Tab Timer) → (Tab Timer)) (s : State) :
    (s.onTims f).fab = s.fab := rfl
@[simp] theorem State.onTims_sys (f : (Tab Timer) → (Tab Timer)) (s : State) :
    (s.onTims f).sys = s.sys := rfl
@[simp] theorem State.onTims_dict (f : (Tab Timer) → (Tab Timer)) (s : State) :
    (s.onTims f).dict = s.dict := rfl
@[simp] theorem State.onTims_spn (f : (Tab Timer) → (Tab Timer)) (s : State) :
    (s.onTims f).spn = s.spn := rfl
@[simp] theorem State.onTims_acts (f : (Tab Timer) → (Tab Timer)) (s : State) :
    (s.onTims f).acts = s.acts := rfl
@[simp] theorem State.onTims_pool (f : (Tab Timer) → (Tab Timer)) (s : State) :
    (s.onTims f).pool = s.pool := rfl
@[simp] theorem State.onTims_recov (f : (Tab Timer) → (Tab Timer)) (s : State) :
    (s.onTims f).recov = s.recov := rfl
@[simp] theorem State.onTims_plc (f : (Tab Timer) → (Tab Timer)) (s : State) :
    (s.onTims f).plc = s.plc := rfl
@[simp] theorem State.onTims_tt (f : (Tab Timer) → (Tab Timer)) (s : State) :
    (s.onTims f).tt = s.tt := rfl
@[simp] theorem State.onTims_nvme (f : (Tab Timer) → (Tab Timer)) (s : State) :
    (s.onTims f).nvme = s.nvme := rfl
@[simp] theorem State.onTims_dramc (f : (Tab Timer) → (Tab Timer)) (s : State) :
    (s.onTims f).dramc = s.dramc := rfl
@[simp] theorem State.onTims_scr (f : (Tab Timer) → (Tab Timer)) (s : State) :
    (s.onTims f).scr = s.scr := rfl
@[simp] theorem State.onTims_buf (f : (Tab Timer) → (Tab Timer)) (s : State) :
    (s.onTims f).buf = s.buf := rfl
@[simp] theorem State.onTims_ciph (f : (Tab Timer) → (Tab Timer)) (s : State) :
    (s.onTims f).ciph = s.ciph := rfl
@[simp] theorem State.onTims_dma (f : (Tab Timer) → (Tab Timer)) (s : State) :
    (s.onTims f).dma = s.dma := rfl
@[simp] theorem State.onTims_hm (f : (Tab Timer) → (Tab Timer)) (s : State) :
    (s.onTims f).hm = s.hm := rfl
@[simp] theorem State.onTims_yb (f : (Tab Timer) → (Tab Timer)) (s : State) :
    (s.onTims f).yb = s.yb := rfl
@[simp] theorem State.onTims_pwr (f : (Tab Timer) → (Tab Timer)) (s : State) :
    (s.onTims f).pwr = s.pwr := rfl
@[simp] theorem State.onTims_rc (f : (Tab Timer) → (Tab Timer)) (s : State) :
    (s.onTims f).rc = s.rc := rfl
@[simp] theorem State.onTims_evc (f : (Tab Timer) → (Tab Timer)) (s : State) :
    (s.onTims f).evc = s.evc := rfl
@[simp] theorem State.onTims_tims (f : (Tab Timer) → (Tab Timer)) (s : State) :
    (s.onTims f).tims = f s.tims := rfl
@[simp] theorem State.onTims_ports (f : (Tab Timer) → (Tab Timer)) (s : State) :
    (s.onTims f).ports = s.ports := rfl
@[simp] theorem State.onTims_free (f : (Tab Timer) → (Tab Timer)) (s : State) :
    (s.onTims f).free = s.free := rfl
@[simp] theorem State.onTims_pending (f : (Tab Timer) → (Tab Timer)) (s : State) :
    (s.onTims f).pending = s.pending := rfl
@[simp] theorem State.onPorts_ident (f : Ports → Ports) (s : State) :
    (s.onPorts f).ident = s.ident := rfl
@[simp] theorem State.onPorts_fab (f : Ports → Ports) (s : State) :
    (s.onPorts f).fab = s.fab := rfl
@[simp] theorem State.onPorts_sys (f : Ports → Ports) (s : State) :
    (s.onPorts f).sys = s.sys := rfl
@[simp] theorem State.onPorts_dict (f : Ports → Ports) (s : State) :
    (s.onPorts f).dict = s.dict := rfl
@[simp] theorem State.onPorts_spn (f : Ports → Ports) (s : State) :
    (s.onPorts f).spn = s.spn := rfl
@[simp] theorem State.onPorts_acts (f : Ports → Ports) (s : State) :
    (s.onPorts f).acts = s.acts := rfl
@[simp] theorem State.onPorts_pool (f : Ports → Ports) (s : State) :
    (s.onPorts f).pool = s.pool := rfl
@[simp] theorem State.onPorts_recov (f : Ports → Ports) (s : State) :
    (s.onPorts f).recov = s.recov := rfl
@[simp] theorem State.onPorts_plc (f : Ports → Ports) (s : State) :
    (s.onPorts f).plc = s.plc := rfl
@[simp] theorem State.onPorts_tt (f : Ports → Ports) (s : State) :
    (s.onPorts f).tt = s.tt := rfl
@[simp] theorem State.onPorts_nvme (f : Ports → Ports) (s : State) :
    (s.onPorts f).nvme = s.nvme := rfl
@[simp] theorem State.onPorts_dramc (f : Ports → Ports) (s : State) :
    (s.onPorts f).dramc = s.dramc := rfl
@[simp] theorem State.onPorts_scr (f : Ports → Ports) (s : State) :
    (s.onPorts f).scr = s.scr := rfl
@[simp] theorem State.onPorts_buf (f : Ports → Ports) (s : State) :
    (s.onPorts f).buf = s.buf := rfl
@[simp] theorem State.onPorts_ciph (f : Ports → Ports) (s : State) :
    (s.onPorts f).ciph = s.ciph := rfl
@[simp] theorem State.onPorts_dma (f : Ports → Ports) (s : State) :
    (s.onPorts f).dma = s.dma := rfl
@[simp] theorem State.onPorts_hm (f : Ports → Ports) (s : State) :
    (s.onPorts f).hm = s.hm := rfl
@[simp] theorem State.onPorts_yb (f : Ports → Ports) (s : State) :
    (s.onPorts f).yb = s.yb := rfl
@[simp] theorem State.onPorts_pwr (f : Ports → Ports) (s : State) :
    (s.onPorts f).pwr = s.pwr := rfl
@[simp] theorem State.onPorts_rc (f : Ports → Ports) (s : State) :
    (s.onPorts f).rc = s.rc := rfl
@[simp] theorem State.onPorts_evc (f : Ports → Ports) (s : State) :
    (s.onPorts f).evc = s.evc := rfl
@[simp] theorem State.onPorts_tims (f : Ports → Ports) (s : State) :
    (s.onPorts f).tims = s.tims := rfl
@[simp] theorem State.onPorts_ports (f : Ports → Ports) (s : State) :
    (s.onPorts f).ports = f s.ports := rfl
@[simp] theorem State.onPorts_free (f : Ports → Ports) (s : State) :
    (s.onPorts f).free = s.free := rfl
@[simp] theorem State.onPorts_pending (f : Ports → Ports) (s : State) :
    (s.onPorts f).pending = s.pending := rfl
@[simp] theorem State.onAct_ident (a : Fin 4) (f : Act → Act) (s : State) :
    (s.onAct a f).ident = s.ident := rfl
@[simp] theorem State.onAct_fab (a : Fin 4) (f : Act → Act) (s : State) :
    (s.onAct a f).fab = s.fab := rfl
@[simp] theorem State.onAct_sys (a : Fin 4) (f : Act → Act) (s : State) :
    (s.onAct a f).sys = s.sys := rfl
@[simp] theorem State.onAct_dict (a : Fin 4) (f : Act → Act) (s : State) :
    (s.onAct a f).dict = s.dict := rfl
@[simp] theorem State.onAct_spn (a : Fin 4) (f : Act → Act) (s : State) :
    (s.onAct a f).spn = s.spn := rfl
@[simp] theorem State.onAct_pool (a : Fin 4) (f : Act → Act) (s : State) :
    (s.onAct a f).pool = s.pool := rfl
@[simp] theorem State.onAct_recov (a : Fin 4) (f : Act → Act) (s : State) :
    (s.onAct a f).recov = s.recov := rfl
@[simp] theorem State.onAct_plc (a : Fin 4) (f : Act → Act) (s : State) :
    (s.onAct a f).plc = s.plc := rfl
@[simp] theorem State.onAct_tt (a : Fin 4) (f : Act → Act) (s : State) :
    (s.onAct a f).tt = s.tt := rfl
@[simp] theorem State.onAct_nvme (a : Fin 4) (f : Act → Act) (s : State) :
    (s.onAct a f).nvme = s.nvme := rfl
@[simp] theorem State.onAct_dramc (a : Fin 4) (f : Act → Act) (s : State) :
    (s.onAct a f).dramc = s.dramc := rfl
@[simp] theorem State.onAct_scr (a : Fin 4) (f : Act → Act) (s : State) :
    (s.onAct a f).scr = s.scr := rfl
@[simp] theorem State.onAct_buf (a : Fin 4) (f : Act → Act) (s : State) :
    (s.onAct a f).buf = s.buf := rfl
@[simp] theorem State.onAct_ciph (a : Fin 4) (f : Act → Act) (s : State) :
    (s.onAct a f).ciph = s.ciph := rfl
@[simp] theorem State.onAct_dma (a : Fin 4) (f : Act → Act) (s : State) :
    (s.onAct a f).dma = s.dma := rfl
@[simp] theorem State.onAct_hm (a : Fin 4) (f : Act → Act) (s : State) :
    (s.onAct a f).hm = s.hm := rfl
@[simp] theorem State.onAct_yb (a : Fin 4) (f : Act → Act) (s : State) :
    (s.onAct a f).yb = s.yb := rfl
@[simp] theorem State.onAct_pwr (a : Fin 4) (f : Act → Act) (s : State) :
    (s.onAct a f).pwr = s.pwr := rfl
@[simp] theorem State.onAct_rc (a : Fin 4) (f : Act → Act) (s : State) :
    (s.onAct a f).rc = s.rc := rfl
@[simp] theorem State.onAct_evc (a : Fin 4) (f : Act → Act) (s : State) :
    (s.onAct a f).evc = s.evc := rfl
@[simp] theorem State.onAct_tims (a : Fin 4) (f : Act → Act) (s : State) :
    (s.onAct a f).tims = s.tims := rfl
@[simp] theorem State.onAct_ports (a : Fin 4) (f : Act → Act) (s : State) :
    (s.onAct a f).ports = s.ports := rfl
@[simp] theorem State.onAct_free (a : Fin 4) (f : Act → Act) (s : State) :
    (s.onAct a f).free = s.free := rfl
@[simp] theorem State.onAct_pending (a : Fin 4) (f : Act → Act) (s : State) :
    (s.onAct a f).pending = s.pending := rfl
@[simp] theorem State.onIsl_ident (a : Fin 4) (f : Isl → Isl) (s : State) :
    (s.onIsl a f).ident = s.ident := rfl
@[simp] theorem State.onIsl_fab (a : Fin 4) (f : Isl → Isl) (s : State) :
    (s.onIsl a f).fab = s.fab := rfl
@[simp] theorem State.onIsl_sys (a : Fin 4) (f : Isl → Isl) (s : State) :
    (s.onIsl a f).sys = s.sys := rfl
@[simp] theorem State.onIsl_dict (a : Fin 4) (f : Isl → Isl) (s : State) :
    (s.onIsl a f).dict = s.dict := rfl
@[simp] theorem State.onIsl_spn (a : Fin 4) (f : Isl → Isl) (s : State) :
    (s.onIsl a f).spn = s.spn := rfl
@[simp] theorem State.onIsl_pool (a : Fin 4) (f : Isl → Isl) (s : State) :
    (s.onIsl a f).pool = s.pool := rfl
@[simp] theorem State.onIsl_recov (a : Fin 4) (f : Isl → Isl) (s : State) :
    (s.onIsl a f).recov = s.recov := rfl
@[simp] theorem State.onIsl_plc (a : Fin 4) (f : Isl → Isl) (s : State) :
    (s.onIsl a f).plc = s.plc := rfl
@[simp] theorem State.onIsl_tt (a : Fin 4) (f : Isl → Isl) (s : State) :
    (s.onIsl a f).tt = s.tt := rfl
@[simp] theorem State.onIsl_nvme (a : Fin 4) (f : Isl → Isl) (s : State) :
    (s.onIsl a f).nvme = s.nvme := rfl
@[simp] theorem State.onIsl_dramc (a : Fin 4) (f : Isl → Isl) (s : State) :
    (s.onIsl a f).dramc = s.dramc := rfl
@[simp] theorem State.onIsl_scr (a : Fin 4) (f : Isl → Isl) (s : State) :
    (s.onIsl a f).scr = s.scr := rfl
@[simp] theorem State.onIsl_buf (a : Fin 4) (f : Isl → Isl) (s : State) :
    (s.onIsl a f).buf = s.buf := rfl
@[simp] theorem State.onIsl_ciph (a : Fin 4) (f : Isl → Isl) (s : State) :
    (s.onIsl a f).ciph = s.ciph := rfl
@[simp] theorem State.onIsl_dma (a : Fin 4) (f : Isl → Isl) (s : State) :
    (s.onIsl a f).dma = s.dma := rfl
@[simp] theorem State.onIsl_hm (a : Fin 4) (f : Isl → Isl) (s : State) :
    (s.onIsl a f).hm = s.hm := rfl
@[simp] theorem State.onIsl_yb (a : Fin 4) (f : Isl → Isl) (s : State) :
    (s.onIsl a f).yb = s.yb := rfl
@[simp] theorem State.onIsl_pwr (a : Fin 4) (f : Isl → Isl) (s : State) :
    (s.onIsl a f).pwr = s.pwr := rfl
@[simp] theorem State.onIsl_rc (a : Fin 4) (f : Isl → Isl) (s : State) :
    (s.onIsl a f).rc = s.rc := rfl
@[simp] theorem State.onIsl_evc (a : Fin 4) (f : Isl → Isl) (s : State) :
    (s.onIsl a f).evc = s.evc := rfl
@[simp] theorem State.onIsl_tims (a : Fin 4) (f : Isl → Isl) (s : State) :
    (s.onIsl a f).tims = s.tims := rfl
@[simp] theorem State.onIsl_ports (a : Fin 4) (f : Isl → Isl) (s : State) :
    (s.onIsl a f).ports = s.ports := rfl
@[simp] theorem State.onIsl_free (a : Fin 4) (f : Isl → Isl) (s : State) :
    (s.onIsl a f).free = s.free := rfl
@[simp] theorem State.onIsl_pending (a : Fin 4) (f : Isl → Isl) (s : State) :
    (s.onIsl a f).pending = s.pending := rfl
@[simp] theorem State.onSvd_ident (a : Fin 4) (f : Svd → Svd) (s : State) :
    (s.onSvd a f).ident = s.ident := rfl
@[simp] theorem State.onSvd_fab (a : Fin 4) (f : Svd → Svd) (s : State) :
    (s.onSvd a f).fab = s.fab := rfl
@[simp] theorem State.onSvd_sys (a : Fin 4) (f : Svd → Svd) (s : State) :
    (s.onSvd a f).sys = s.sys := rfl
@[simp] theorem State.onSvd_dict (a : Fin 4) (f : Svd → Svd) (s : State) :
    (s.onSvd a f).dict = s.dict := rfl
@[simp] theorem State.onSvd_spn (a : Fin 4) (f : Svd → Svd) (s : State) :
    (s.onSvd a f).spn = s.spn := rfl
@[simp] theorem State.onSvd_pool (a : Fin 4) (f : Svd → Svd) (s : State) :
    (s.onSvd a f).pool = s.pool := rfl
@[simp] theorem State.onSvd_recov (a : Fin 4) (f : Svd → Svd) (s : State) :
    (s.onSvd a f).recov = s.recov := rfl
@[simp] theorem State.onSvd_plc (a : Fin 4) (f : Svd → Svd) (s : State) :
    (s.onSvd a f).plc = s.plc := rfl
@[simp] theorem State.onSvd_tt (a : Fin 4) (f : Svd → Svd) (s : State) :
    (s.onSvd a f).tt = s.tt := rfl
@[simp] theorem State.onSvd_nvme (a : Fin 4) (f : Svd → Svd) (s : State) :
    (s.onSvd a f).nvme = s.nvme := rfl
@[simp] theorem State.onSvd_dramc (a : Fin 4) (f : Svd → Svd) (s : State) :
    (s.onSvd a f).dramc = s.dramc := rfl
@[simp] theorem State.onSvd_scr (a : Fin 4) (f : Svd → Svd) (s : State) :
    (s.onSvd a f).scr = s.scr := rfl
@[simp] theorem State.onSvd_buf (a : Fin 4) (f : Svd → Svd) (s : State) :
    (s.onSvd a f).buf = s.buf := rfl
@[simp] theorem State.onSvd_ciph (a : Fin 4) (f : Svd → Svd) (s : State) :
    (s.onSvd a f).ciph = s.ciph := rfl
@[simp] theorem State.onSvd_dma (a : Fin 4) (f : Svd → Svd) (s : State) :
    (s.onSvd a f).dma = s.dma := rfl
@[simp] theorem State.onSvd_hm (a : Fin 4) (f : Svd → Svd) (s : State) :
    (s.onSvd a f).hm = s.hm := rfl
@[simp] theorem State.onSvd_yb (a : Fin 4) (f : Svd → Svd) (s : State) :
    (s.onSvd a f).yb = s.yb := rfl
@[simp] theorem State.onSvd_pwr (a : Fin 4) (f : Svd → Svd) (s : State) :
    (s.onSvd a f).pwr = s.pwr := rfl
@[simp] theorem State.onSvd_rc (a : Fin 4) (f : Svd → Svd) (s : State) :
    (s.onSvd a f).rc = s.rc := rfl
@[simp] theorem State.onSvd_evc (a : Fin 4) (f : Svd → Svd) (s : State) :
    (s.onSvd a f).evc = s.evc := rfl
@[simp] theorem State.onSvd_tims (a : Fin 4) (f : Svd → Svd) (s : State) :
    (s.onSvd a f).tims = s.tims := rfl
@[simp] theorem State.onSvd_ports (a : Fin 4) (f : Svd → Svd) (s : State) :
    (s.onSvd a f).ports = s.ports := rfl
@[simp] theorem State.onSvd_free (a : Fin 4) (f : Svd → Svd) (s : State) :
    (s.onSvd a f).free = s.free := rfl
@[simp] theorem State.onSvd_pending (a : Fin 4) (f : Svd → Svd) (s : State) :
    (s.onSvd a f).pending = s.pending := rfl
@[simp] theorem State.onMsn_ident (a : Fin 4) (f : Msn → Msn) (s : State) :
    (s.onMsn a f).ident = s.ident := rfl
@[simp] theorem State.onMsn_fab (a : Fin 4) (f : Msn → Msn) (s : State) :
    (s.onMsn a f).fab = s.fab := rfl
@[simp] theorem State.onMsn_sys (a : Fin 4) (f : Msn → Msn) (s : State) :
    (s.onMsn a f).sys = s.sys := rfl
@[simp] theorem State.onMsn_dict (a : Fin 4) (f : Msn → Msn) (s : State) :
    (s.onMsn a f).dict = s.dict := rfl
@[simp] theorem State.onMsn_spn (a : Fin 4) (f : Msn → Msn) (s : State) :
    (s.onMsn a f).spn = s.spn := rfl
@[simp] theorem State.onMsn_pool (a : Fin 4) (f : Msn → Msn) (s : State) :
    (s.onMsn a f).pool = s.pool := rfl
@[simp] theorem State.onMsn_recov (a : Fin 4) (f : Msn → Msn) (s : State) :
    (s.onMsn a f).recov = s.recov := rfl
@[simp] theorem State.onMsn_plc (a : Fin 4) (f : Msn → Msn) (s : State) :
    (s.onMsn a f).plc = s.plc := rfl
@[simp] theorem State.onMsn_tt (a : Fin 4) (f : Msn → Msn) (s : State) :
    (s.onMsn a f).tt = s.tt := rfl
@[simp] theorem State.onMsn_nvme (a : Fin 4) (f : Msn → Msn) (s : State) :
    (s.onMsn a f).nvme = s.nvme := rfl
@[simp] theorem State.onMsn_dramc (a : Fin 4) (f : Msn → Msn) (s : State) :
    (s.onMsn a f).dramc = s.dramc := rfl
@[simp] theorem State.onMsn_scr (a : Fin 4) (f : Msn → Msn) (s : State) :
    (s.onMsn a f).scr = s.scr := rfl
@[simp] theorem State.onMsn_buf (a : Fin 4) (f : Msn → Msn) (s : State) :
    (s.onMsn a f).buf = s.buf := rfl
@[simp] theorem State.onMsn_ciph (a : Fin 4) (f : Msn → Msn) (s : State) :
    (s.onMsn a f).ciph = s.ciph := rfl
@[simp] theorem State.onMsn_dma (a : Fin 4) (f : Msn → Msn) (s : State) :
    (s.onMsn a f).dma = s.dma := rfl
@[simp] theorem State.onMsn_hm (a : Fin 4) (f : Msn → Msn) (s : State) :
    (s.onMsn a f).hm = s.hm := rfl
@[simp] theorem State.onMsn_yb (a : Fin 4) (f : Msn → Msn) (s : State) :
    (s.onMsn a f).yb = s.yb := rfl
@[simp] theorem State.onMsn_pwr (a : Fin 4) (f : Msn → Msn) (s : State) :
    (s.onMsn a f).pwr = s.pwr := rfl
@[simp] theorem State.onMsn_rc (a : Fin 4) (f : Msn → Msn) (s : State) :
    (s.onMsn a f).rc = s.rc := rfl
@[simp] theorem State.onMsn_evc (a : Fin 4) (f : Msn → Msn) (s : State) :
    (s.onMsn a f).evc = s.evc := rfl
@[simp] theorem State.onMsn_tims (a : Fin 4) (f : Msn → Msn) (s : State) :
    (s.onMsn a f).tims = s.tims := rfl
@[simp] theorem State.onMsn_ports (a : Fin 4) (f : Msn → Msn) (s : State) :
    (s.onMsn a f).ports = s.ports := rfl
@[simp] theorem State.onMsn_free (a : Fin 4) (f : Msn → Msn) (s : State) :
    (s.onMsn a f).free = s.free := rfl
@[simp] theorem State.onMsn_pending (a : Fin 4) (f : Msn → Msn) (s : State) :
    (s.onMsn a f).pending = s.pending := rfl
@[simp] theorem State.onVcm_ident (a : Fin 4) (f : Vcm → Vcm) (s : State) :
    (s.onVcm a f).ident = s.ident := rfl
@[simp] theorem State.onVcm_fab (a : Fin 4) (f : Vcm → Vcm) (s : State) :
    (s.onVcm a f).fab = s.fab := rfl
@[simp] theorem State.onVcm_sys (a : Fin 4) (f : Vcm → Vcm) (s : State) :
    (s.onVcm a f).sys = s.sys := rfl
@[simp] theorem State.onVcm_dict (a : Fin 4) (f : Vcm → Vcm) (s : State) :
    (s.onVcm a f).dict = s.dict := rfl
@[simp] theorem State.onVcm_spn (a : Fin 4) (f : Vcm → Vcm) (s : State) :
    (s.onVcm a f).spn = s.spn := rfl
@[simp] theorem State.onVcm_pool (a : Fin 4) (f : Vcm → Vcm) (s : State) :
    (s.onVcm a f).pool = s.pool := rfl
@[simp] theorem State.onVcm_recov (a : Fin 4) (f : Vcm → Vcm) (s : State) :
    (s.onVcm a f).recov = s.recov := rfl
@[simp] theorem State.onVcm_plc (a : Fin 4) (f : Vcm → Vcm) (s : State) :
    (s.onVcm a f).plc = s.plc := rfl
@[simp] theorem State.onVcm_tt (a : Fin 4) (f : Vcm → Vcm) (s : State) :
    (s.onVcm a f).tt = s.tt := rfl
@[simp] theorem State.onVcm_nvme (a : Fin 4) (f : Vcm → Vcm) (s : State) :
    (s.onVcm a f).nvme = s.nvme := rfl
@[simp] theorem State.onVcm_dramc (a : Fin 4) (f : Vcm → Vcm) (s : State) :
    (s.onVcm a f).dramc = s.dramc := rfl
@[simp] theorem State.onVcm_scr (a : Fin 4) (f : Vcm → Vcm) (s : State) :
    (s.onVcm a f).scr = s.scr := rfl
@[simp] theorem State.onVcm_buf (a : Fin 4) (f : Vcm → Vcm) (s : State) :
    (s.onVcm a f).buf = s.buf := rfl
@[simp] theorem State.onVcm_ciph (a : Fin 4) (f : Vcm → Vcm) (s : State) :
    (s.onVcm a f).ciph = s.ciph := rfl
@[simp] theorem State.onVcm_dma (a : Fin 4) (f : Vcm → Vcm) (s : State) :
    (s.onVcm a f).dma = s.dma := rfl
@[simp] theorem State.onVcm_hm (a : Fin 4) (f : Vcm → Vcm) (s : State) :
    (s.onVcm a f).hm = s.hm := rfl
@[simp] theorem State.onVcm_yb (a : Fin 4) (f : Vcm → Vcm) (s : State) :
    (s.onVcm a f).yb = s.yb := rfl
@[simp] theorem State.onVcm_pwr (a : Fin 4) (f : Vcm → Vcm) (s : State) :
    (s.onVcm a f).pwr = s.pwr := rfl
@[simp] theorem State.onVcm_rc (a : Fin 4) (f : Vcm → Vcm) (s : State) :
    (s.onVcm a f).rc = s.rc := rfl
@[simp] theorem State.onVcm_evc (a : Fin 4) (f : Vcm → Vcm) (s : State) :
    (s.onVcm a f).evc = s.evc := rfl
@[simp] theorem State.onVcm_tims (a : Fin 4) (f : Vcm → Vcm) (s : State) :
    (s.onVcm a f).tims = s.tims := rfl
@[simp] theorem State.onVcm_ports (a : Fin 4) (f : Vcm → Vcm) (s : State) :
    (s.onVcm a f).ports = s.ports := rfl
@[simp] theorem State.onVcm_free (a : Fin 4) (f : Vcm → Vcm) (s : State) :
    (s.onVcm a f).free = s.free := rfl
@[simp] theorem State.onVcm_pending (a : Fin 4) (f : Vcm → Vcm) (s : State) :
    (s.onVcm a f).pending = s.pending := rfl
@[simp] theorem State.onMbx_ident (a : Fin 4) (f : (Four Mailbox) → (Four Mailbox)) (s : State) :
    (s.onMbx a f).ident = s.ident := rfl
@[simp] theorem State.onMbx_fab (a : Fin 4) (f : (Four Mailbox) → (Four Mailbox)) (s : State) :
    (s.onMbx a f).fab = s.fab := rfl
@[simp] theorem State.onMbx_sys (a : Fin 4) (f : (Four Mailbox) → (Four Mailbox)) (s : State) :
    (s.onMbx a f).sys = s.sys := rfl
@[simp] theorem State.onMbx_dict (a : Fin 4) (f : (Four Mailbox) → (Four Mailbox)) (s : State) :
    (s.onMbx a f).dict = s.dict := rfl
@[simp] theorem State.onMbx_spn (a : Fin 4) (f : (Four Mailbox) → (Four Mailbox)) (s : State) :
    (s.onMbx a f).spn = s.spn := rfl
@[simp] theorem State.onMbx_pool (a : Fin 4) (f : (Four Mailbox) → (Four Mailbox)) (s : State) :
    (s.onMbx a f).pool = s.pool := rfl
@[simp] theorem State.onMbx_recov (a : Fin 4) (f : (Four Mailbox) → (Four Mailbox)) (s : State) :
    (s.onMbx a f).recov = s.recov := rfl
@[simp] theorem State.onMbx_plc (a : Fin 4) (f : (Four Mailbox) → (Four Mailbox)) (s : State) :
    (s.onMbx a f).plc = s.plc := rfl
@[simp] theorem State.onMbx_tt (a : Fin 4) (f : (Four Mailbox) → (Four Mailbox)) (s : State) :
    (s.onMbx a f).tt = s.tt := rfl
@[simp] theorem State.onMbx_nvme (a : Fin 4) (f : (Four Mailbox) → (Four Mailbox)) (s : State) :
    (s.onMbx a f).nvme = s.nvme := rfl
@[simp] theorem State.onMbx_dramc (a : Fin 4) (f : (Four Mailbox) → (Four Mailbox)) (s : State) :
    (s.onMbx a f).dramc = s.dramc := rfl
@[simp] theorem State.onMbx_scr (a : Fin 4) (f : (Four Mailbox) → (Four Mailbox)) (s : State) :
    (s.onMbx a f).scr = s.scr := rfl
@[simp] theorem State.onMbx_buf (a : Fin 4) (f : (Four Mailbox) → (Four Mailbox)) (s : State) :
    (s.onMbx a f).buf = s.buf := rfl
@[simp] theorem State.onMbx_ciph (a : Fin 4) (f : (Four Mailbox) → (Four Mailbox)) (s : State) :
    (s.onMbx a f).ciph = s.ciph := rfl
@[simp] theorem State.onMbx_dma (a : Fin 4) (f : (Four Mailbox) → (Four Mailbox)) (s : State) :
    (s.onMbx a f).dma = s.dma := rfl
@[simp] theorem State.onMbx_hm (a : Fin 4) (f : (Four Mailbox) → (Four Mailbox)) (s : State) :
    (s.onMbx a f).hm = s.hm := rfl
@[simp] theorem State.onMbx_yb (a : Fin 4) (f : (Four Mailbox) → (Four Mailbox)) (s : State) :
    (s.onMbx a f).yb = s.yb := rfl
@[simp] theorem State.onMbx_pwr (a : Fin 4) (f : (Four Mailbox) → (Four Mailbox)) (s : State) :
    (s.onMbx a f).pwr = s.pwr := rfl
@[simp] theorem State.onMbx_rc (a : Fin 4) (f : (Four Mailbox) → (Four Mailbox)) (s : State) :
    (s.onMbx a f).rc = s.rc := rfl
@[simp] theorem State.onMbx_evc (a : Fin 4) (f : (Four Mailbox) → (Four Mailbox)) (s : State) :
    (s.onMbx a f).evc = s.evc := rfl
@[simp] theorem State.onMbx_tims (a : Fin 4) (f : (Four Mailbox) → (Four Mailbox)) (s : State) :
    (s.onMbx a f).tims = s.tims := rfl
@[simp] theorem State.onMbx_ports (a : Fin 4) (f : (Four Mailbox) → (Four Mailbox)) (s : State) :
    (s.onMbx a f).ports = s.ports := rfl
@[simp] theorem State.onMbx_free (a : Fin 4) (f : (Four Mailbox) → (Four Mailbox)) (s : State) :
    (s.onMbx a f).free = s.free := rfl
@[simp] theorem State.onMbx_pending (a : Fin 4) (f : (Four Mailbox) → (Four Mailbox)) (s : State) :
    (s.onMbx a f).pending = s.pending := rfl
@[simp] theorem State.onSve_ident (a : Fin 4) (f : Sve → Sve) (s : State) :
    (s.onSve a f).ident = s.ident := rfl
@[simp] theorem State.onSve_fab (a : Fin 4) (f : Sve → Sve) (s : State) :
    (s.onSve a f).fab = s.fab := rfl
@[simp] theorem State.onSve_sys (a : Fin 4) (f : Sve → Sve) (s : State) :
    (s.onSve a f).sys = s.sys := rfl
@[simp] theorem State.onSve_dict (a : Fin 4) (f : Sve → Sve) (s : State) :
    (s.onSve a f).dict = s.dict := rfl
@[simp] theorem State.onSve_spn (a : Fin 4) (f : Sve → Sve) (s : State) :
    (s.onSve a f).spn = s.spn := rfl
@[simp] theorem State.onSve_pool (a : Fin 4) (f : Sve → Sve) (s : State) :
    (s.onSve a f).pool = s.pool := rfl
@[simp] theorem State.onSve_recov (a : Fin 4) (f : Sve → Sve) (s : State) :
    (s.onSve a f).recov = s.recov := rfl
@[simp] theorem State.onSve_plc (a : Fin 4) (f : Sve → Sve) (s : State) :
    (s.onSve a f).plc = s.plc := rfl
@[simp] theorem State.onSve_tt (a : Fin 4) (f : Sve → Sve) (s : State) :
    (s.onSve a f).tt = s.tt := rfl
@[simp] theorem State.onSve_nvme (a : Fin 4) (f : Sve → Sve) (s : State) :
    (s.onSve a f).nvme = s.nvme := rfl
@[simp] theorem State.onSve_dramc (a : Fin 4) (f : Sve → Sve) (s : State) :
    (s.onSve a f).dramc = s.dramc := rfl
@[simp] theorem State.onSve_scr (a : Fin 4) (f : Sve → Sve) (s : State) :
    (s.onSve a f).scr = s.scr := rfl
@[simp] theorem State.onSve_buf (a : Fin 4) (f : Sve → Sve) (s : State) :
    (s.onSve a f).buf = s.buf := rfl
@[simp] theorem State.onSve_ciph (a : Fin 4) (f : Sve → Sve) (s : State) :
    (s.onSve a f).ciph = s.ciph := rfl
@[simp] theorem State.onSve_dma (a : Fin 4) (f : Sve → Sve) (s : State) :
    (s.onSve a f).dma = s.dma := rfl
@[simp] theorem State.onSve_hm (a : Fin 4) (f : Sve → Sve) (s : State) :
    (s.onSve a f).hm = s.hm := rfl
@[simp] theorem State.onSve_yb (a : Fin 4) (f : Sve → Sve) (s : State) :
    (s.onSve a f).yb = s.yb := rfl
@[simp] theorem State.onSve_pwr (a : Fin 4) (f : Sve → Sve) (s : State) :
    (s.onSve a f).pwr = s.pwr := rfl
@[simp] theorem State.onSve_rc (a : Fin 4) (f : Sve → Sve) (s : State) :
    (s.onSve a f).rc = s.rc := rfl
@[simp] theorem State.onSve_evc (a : Fin 4) (f : Sve → Sve) (s : State) :
    (s.onSve a f).evc = s.evc := rfl
@[simp] theorem State.onSve_tims (a : Fin 4) (f : Sve → Sve) (s : State) :
    (s.onSve a f).tims = s.tims := rfl
@[simp] theorem State.onSve_ports (a : Fin 4) (f : Sve → Sve) (s : State) :
    (s.onSve a f).ports = s.ports := rfl
@[simp] theorem State.onSve_free (a : Fin 4) (f : Sve → Sve) (s : State) :
    (s.onSve a f).free = s.free := rfl
@[simp] theorem State.onSve_pending (a : Fin 4) (f : Sve → Sve) (s : State) :
    (s.onSve a f).pending = s.pending := rfl
@[simp] theorem State.onSvp_ident (a : Fin 4) (f : Svp → Svp) (s : State) :
    (s.onSvp a f).ident = s.ident := rfl
@[simp] theorem State.onSvp_fab (a : Fin 4) (f : Svp → Svp) (s : State) :
    (s.onSvp a f).fab = s.fab := rfl
@[simp] theorem State.onSvp_sys (a : Fin 4) (f : Svp → Svp) (s : State) :
    (s.onSvp a f).sys = s.sys := rfl
@[simp] theorem State.onSvp_dict (a : Fin 4) (f : Svp → Svp) (s : State) :
    (s.onSvp a f).dict = s.dict := rfl
@[simp] theorem State.onSvp_spn (a : Fin 4) (f : Svp → Svp) (s : State) :
    (s.onSvp a f).spn = s.spn := rfl
@[simp] theorem State.onSvp_pool (a : Fin 4) (f : Svp → Svp) (s : State) :
    (s.onSvp a f).pool = s.pool := rfl
@[simp] theorem State.onSvp_recov (a : Fin 4) (f : Svp → Svp) (s : State) :
    (s.onSvp a f).recov = s.recov := rfl
@[simp] theorem State.onSvp_plc (a : Fin 4) (f : Svp → Svp) (s : State) :
    (s.onSvp a f).plc = s.plc := rfl
@[simp] theorem State.onSvp_tt (a : Fin 4) (f : Svp → Svp) (s : State) :
    (s.onSvp a f).tt = s.tt := rfl
@[simp] theorem State.onSvp_nvme (a : Fin 4) (f : Svp → Svp) (s : State) :
    (s.onSvp a f).nvme = s.nvme := rfl
@[simp] theorem State.onSvp_dramc (a : Fin 4) (f : Svp → Svp) (s : State) :
    (s.onSvp a f).dramc = s.dramc := rfl
@[simp] theorem State.onSvp_scr (a : Fin 4) (f : Svp → Svp) (s : State) :
    (s.onSvp a f).scr = s.scr := rfl
@[simp] theorem State.onSvp_buf (a : Fin 4) (f : Svp → Svp) (s : State) :
    (s.onSvp a f).buf = s.buf := rfl
@[simp] theorem State.onSvp_ciph (a : Fin 4) (f : Svp → Svp) (s : State) :
    (s.onSvp a f).ciph = s.ciph := rfl
@[simp] theorem State.onSvp_dma (a : Fin 4) (f : Svp → Svp) (s : State) :
    (s.onSvp a f).dma = s.dma := rfl
@[simp] theorem State.onSvp_hm (a : Fin 4) (f : Svp → Svp) (s : State) :
    (s.onSvp a f).hm = s.hm := rfl
@[simp] theorem State.onSvp_yb (a : Fin 4) (f : Svp → Svp) (s : State) :
    (s.onSvp a f).yb = s.yb := rfl
@[simp] theorem State.onSvp_pwr (a : Fin 4) (f : Svp → Svp) (s : State) :
    (s.onSvp a f).pwr = s.pwr := rfl
@[simp] theorem State.onSvp_rc (a : Fin 4) (f : Svp → Svp) (s : State) :
    (s.onSvp a f).rc = s.rc := rfl
@[simp] theorem State.onSvp_evc (a : Fin 4) (f : Svp → Svp) (s : State) :
    (s.onSvp a f).evc = s.evc := rfl
@[simp] theorem State.onSvp_tims (a : Fin 4) (f : Svp → Svp) (s : State) :
    (s.onSvp a f).tims = s.tims := rfl
@[simp] theorem State.onSvp_ports (a : Fin 4) (f : Svp → Svp) (s : State) :
    (s.onSvp a f).ports = s.ports := rfl
@[simp] theorem State.onSvp_free (a : Fin 4) (f : Svp → Svp) (s : State) :
    (s.onSvp a f).free = s.free := rfl
@[simp] theorem State.onSvp_pending (a : Fin 4) (f : Svp → Svp) (s : State) :
    (s.onSvp a f).pending = s.pending := rfl
@[simp] theorem State.onSvi_ident (a : Fin 4) (f : Svi → Svi) (s : State) :
    (s.onSvi a f).ident = s.ident := rfl
@[simp] theorem State.onSvi_fab (a : Fin 4) (f : Svi → Svi) (s : State) :
    (s.onSvi a f).fab = s.fab := rfl
@[simp] theorem State.onSvi_sys (a : Fin 4) (f : Svi → Svi) (s : State) :
    (s.onSvi a f).sys = s.sys := rfl
@[simp] theorem State.onSvi_dict (a : Fin 4) (f : Svi → Svi) (s : State) :
    (s.onSvi a f).dict = s.dict := rfl
@[simp] theorem State.onSvi_spn (a : Fin 4) (f : Svi → Svi) (s : State) :
    (s.onSvi a f).spn = s.spn := rfl
@[simp] theorem State.onSvi_pool (a : Fin 4) (f : Svi → Svi) (s : State) :
    (s.onSvi a f).pool = s.pool := rfl
@[simp] theorem State.onSvi_recov (a : Fin 4) (f : Svi → Svi) (s : State) :
    (s.onSvi a f).recov = s.recov := rfl
@[simp] theorem State.onSvi_plc (a : Fin 4) (f : Svi → Svi) (s : State) :
    (s.onSvi a f).plc = s.plc := rfl
@[simp] theorem State.onSvi_tt (a : Fin 4) (f : Svi → Svi) (s : State) :
    (s.onSvi a f).tt = s.tt := rfl
@[simp] theorem State.onSvi_nvme (a : Fin 4) (f : Svi → Svi) (s : State) :
    (s.onSvi a f).nvme = s.nvme := rfl
@[simp] theorem State.onSvi_dramc (a : Fin 4) (f : Svi → Svi) (s : State) :
    (s.onSvi a f).dramc = s.dramc := rfl
@[simp] theorem State.onSvi_scr (a : Fin 4) (f : Svi → Svi) (s : State) :
    (s.onSvi a f).scr = s.scr := rfl
@[simp] theorem State.onSvi_buf (a : Fin 4) (f : Svi → Svi) (s : State) :
    (s.onSvi a f).buf = s.buf := rfl
@[simp] theorem State.onSvi_ciph (a : Fin 4) (f : Svi → Svi) (s : State) :
    (s.onSvi a f).ciph = s.ciph := rfl
@[simp] theorem State.onSvi_dma (a : Fin 4) (f : Svi → Svi) (s : State) :
    (s.onSvi a f).dma = s.dma := rfl
@[simp] theorem State.onSvi_hm (a : Fin 4) (f : Svi → Svi) (s : State) :
    (s.onSvi a f).hm = s.hm := rfl
@[simp] theorem State.onSvi_yb (a : Fin 4) (f : Svi → Svi) (s : State) :
    (s.onSvi a f).yb = s.yb := rfl
@[simp] theorem State.onSvi_pwr (a : Fin 4) (f : Svi → Svi) (s : State) :
    (s.onSvi a f).pwr = s.pwr := rfl
@[simp] theorem State.onSvi_rc (a : Fin 4) (f : Svi → Svi) (s : State) :
    (s.onSvi a f).rc = s.rc := rfl
@[simp] theorem State.onSvi_evc (a : Fin 4) (f : Svi → Svi) (s : State) :
    (s.onSvi a f).evc = s.evc := rfl
@[simp] theorem State.onSvi_tims (a : Fin 4) (f : Svi → Svi) (s : State) :
    (s.onSvi a f).tims = s.tims := rfl
@[simp] theorem State.onSvi_ports (a : Fin 4) (f : Svi → Svi) (s : State) :
    (s.onSvi a f).ports = s.ports := rfl
@[simp] theorem State.onSvi_free (a : Fin 4) (f : Svi → Svi) (s : State) :
    (s.onSvi a f).free = s.free := rfl
@[simp] theorem State.onSvi_pending (a : Fin 4) (f : Svi → Svi) (s : State) :
    (s.onSvi a f).pending = s.pending := rfl
@[simp] theorem State.onSvc_ident (a : Fin 4) (f : Svc → Svc) (s : State) :
    (s.onSvc a f).ident = s.ident := rfl
@[simp] theorem State.onSvc_fab (a : Fin 4) (f : Svc → Svc) (s : State) :
    (s.onSvc a f).fab = s.fab := rfl
@[simp] theorem State.onSvc_sys (a : Fin 4) (f : Svc → Svc) (s : State) :
    (s.onSvc a f).sys = s.sys := rfl
@[simp] theorem State.onSvc_dict (a : Fin 4) (f : Svc → Svc) (s : State) :
    (s.onSvc a f).dict = s.dict := rfl
@[simp] theorem State.onSvc_spn (a : Fin 4) (f : Svc → Svc) (s : State) :
    (s.onSvc a f).spn = s.spn := rfl
@[simp] theorem State.onSvc_pool (a : Fin 4) (f : Svc → Svc) (s : State) :
    (s.onSvc a f).pool = s.pool := rfl
@[simp] theorem State.onSvc_recov (a : Fin 4) (f : Svc → Svc) (s : State) :
    (s.onSvc a f).recov = s.recov := rfl
@[simp] theorem State.onSvc_plc (a : Fin 4) (f : Svc → Svc) (s : State) :
    (s.onSvc a f).plc = s.plc := rfl
@[simp] theorem State.onSvc_tt (a : Fin 4) (f : Svc → Svc) (s : State) :
    (s.onSvc a f).tt = s.tt := rfl
@[simp] theorem State.onSvc_nvme (a : Fin 4) (f : Svc → Svc) (s : State) :
    (s.onSvc a f).nvme = s.nvme := rfl
@[simp] theorem State.onSvc_dramc (a : Fin 4) (f : Svc → Svc) (s : State) :
    (s.onSvc a f).dramc = s.dramc := rfl
@[simp] theorem State.onSvc_scr (a : Fin 4) (f : Svc → Svc) (s : State) :
    (s.onSvc a f).scr = s.scr := rfl
@[simp] theorem State.onSvc_buf (a : Fin 4) (f : Svc → Svc) (s : State) :
    (s.onSvc a f).buf = s.buf := rfl
@[simp] theorem State.onSvc_ciph (a : Fin 4) (f : Svc → Svc) (s : State) :
    (s.onSvc a f).ciph = s.ciph := rfl
@[simp] theorem State.onSvc_dma (a : Fin 4) (f : Svc → Svc) (s : State) :
    (s.onSvc a f).dma = s.dma := rfl
@[simp] theorem State.onSvc_hm (a : Fin 4) (f : Svc → Svc) (s : State) :
    (s.onSvc a f).hm = s.hm := rfl
@[simp] theorem State.onSvc_yb (a : Fin 4) (f : Svc → Svc) (s : State) :
    (s.onSvc a f).yb = s.yb := rfl
@[simp] theorem State.onSvc_pwr (a : Fin 4) (f : Svc → Svc) (s : State) :
    (s.onSvc a f).pwr = s.pwr := rfl
@[simp] theorem State.onSvc_rc (a : Fin 4) (f : Svc → Svc) (s : State) :
    (s.onSvc a f).rc = s.rc := rfl
@[simp] theorem State.onSvc_evc (a : Fin 4) (f : Svc → Svc) (s : State) :
    (s.onSvc a f).evc = s.evc := rfl
@[simp] theorem State.onSvc_tims (a : Fin 4) (f : Svc → Svc) (s : State) :
    (s.onSvc a f).tims = s.tims := rfl
@[simp] theorem State.onSvc_ports (a : Fin 4) (f : Svc → Svc) (s : State) :
    (s.onSvc a f).ports = s.ports := rfl
@[simp] theorem State.onSvc_free (a : Fin 4) (f : Svc → Svc) (s : State) :
    (s.onSvc a f).free = s.free := rfl
@[simp] theorem State.onSvc_pending (a : Fin 4) (f : Svc → Svc) (s : State) :
    (s.onSvc a f).pending = s.pending := rfl
@[simp] theorem State.onSvb_ident (a : Fin 4) (f : Svb → Svb) (s : State) :
    (s.onSvb a f).ident = s.ident := rfl
@[simp] theorem State.onSvb_fab (a : Fin 4) (f : Svb → Svb) (s : State) :
    (s.onSvb a f).fab = s.fab := rfl
@[simp] theorem State.onSvb_sys (a : Fin 4) (f : Svb → Svb) (s : State) :
    (s.onSvb a f).sys = s.sys := rfl
@[simp] theorem State.onSvb_dict (a : Fin 4) (f : Svb → Svb) (s : State) :
    (s.onSvb a f).dict = s.dict := rfl
@[simp] theorem State.onSvb_spn (a : Fin 4) (f : Svb → Svb) (s : State) :
    (s.onSvb a f).spn = s.spn := rfl
@[simp] theorem State.onSvb_pool (a : Fin 4) (f : Svb → Svb) (s : State) :
    (s.onSvb a f).pool = s.pool := rfl
@[simp] theorem State.onSvb_recov (a : Fin 4) (f : Svb → Svb) (s : State) :
    (s.onSvb a f).recov = s.recov := rfl
@[simp] theorem State.onSvb_plc (a : Fin 4) (f : Svb → Svb) (s : State) :
    (s.onSvb a f).plc = s.plc := rfl
@[simp] theorem State.onSvb_tt (a : Fin 4) (f : Svb → Svb) (s : State) :
    (s.onSvb a f).tt = s.tt := rfl
@[simp] theorem State.onSvb_nvme (a : Fin 4) (f : Svb → Svb) (s : State) :
    (s.onSvb a f).nvme = s.nvme := rfl
@[simp] theorem State.onSvb_dramc (a : Fin 4) (f : Svb → Svb) (s : State) :
    (s.onSvb a f).dramc = s.dramc := rfl
@[simp] theorem State.onSvb_scr (a : Fin 4) (f : Svb → Svb) (s : State) :
    (s.onSvb a f).scr = s.scr := rfl
@[simp] theorem State.onSvb_buf (a : Fin 4) (f : Svb → Svb) (s : State) :
    (s.onSvb a f).buf = s.buf := rfl
@[simp] theorem State.onSvb_ciph (a : Fin 4) (f : Svb → Svb) (s : State) :
    (s.onSvb a f).ciph = s.ciph := rfl
@[simp] theorem State.onSvb_dma (a : Fin 4) (f : Svb → Svb) (s : State) :
    (s.onSvb a f).dma = s.dma := rfl
@[simp] theorem State.onSvb_hm (a : Fin 4) (f : Svb → Svb) (s : State) :
    (s.onSvb a f).hm = s.hm := rfl
@[simp] theorem State.onSvb_yb (a : Fin 4) (f : Svb → Svb) (s : State) :
    (s.onSvb a f).yb = s.yb := rfl
@[simp] theorem State.onSvb_pwr (a : Fin 4) (f : Svb → Svb) (s : State) :
    (s.onSvb a f).pwr = s.pwr := rfl
@[simp] theorem State.onSvb_rc (a : Fin 4) (f : Svb → Svb) (s : State) :
    (s.onSvb a f).rc = s.rc := rfl
@[simp] theorem State.onSvb_evc (a : Fin 4) (f : Svb → Svb) (s : State) :
    (s.onSvb a f).evc = s.evc := rfl
@[simp] theorem State.onSvb_tims (a : Fin 4) (f : Svb → Svb) (s : State) :
    (s.onSvb a f).tims = s.tims := rfl
@[simp] theorem State.onSvb_ports (a : Fin 4) (f : Svb → Svb) (s : State) :
    (s.onSvb a f).ports = s.ports := rfl
@[simp] theorem State.onSvb_free (a : Fin 4) (f : Svb → Svb) (s : State) :
    (s.onSvb a f).free = s.free := rfl
@[simp] theorem State.onSvb_pending (a : Fin 4) (f : Svb → Svb) (s : State) :
    (s.onSvb a f).pending = s.pending := rfl
@[simp] theorem State.onRch_ident (a : Fin 4) (f : Rch → Rch) (s : State) :
    (s.onRch a f).ident = s.ident := rfl
@[simp] theorem State.onRch_fab (a : Fin 4) (f : Rch → Rch) (s : State) :
    (s.onRch a f).fab = s.fab := rfl
@[simp] theorem State.onRch_sys (a : Fin 4) (f : Rch → Rch) (s : State) :
    (s.onRch a f).sys = s.sys := rfl
@[simp] theorem State.onRch_dict (a : Fin 4) (f : Rch → Rch) (s : State) :
    (s.onRch a f).dict = s.dict := rfl
@[simp] theorem State.onRch_spn (a : Fin 4) (f : Rch → Rch) (s : State) :
    (s.onRch a f).spn = s.spn := rfl
@[simp] theorem State.onRch_pool (a : Fin 4) (f : Rch → Rch) (s : State) :
    (s.onRch a f).pool = s.pool := rfl
@[simp] theorem State.onRch_recov (a : Fin 4) (f : Rch → Rch) (s : State) :
    (s.onRch a f).recov = s.recov := rfl
@[simp] theorem State.onRch_plc (a : Fin 4) (f : Rch → Rch) (s : State) :
    (s.onRch a f).plc = s.plc := rfl
@[simp] theorem State.onRch_tt (a : Fin 4) (f : Rch → Rch) (s : State) :
    (s.onRch a f).tt = s.tt := rfl
@[simp] theorem State.onRch_nvme (a : Fin 4) (f : Rch → Rch) (s : State) :
    (s.onRch a f).nvme = s.nvme := rfl
@[simp] theorem State.onRch_dramc (a : Fin 4) (f : Rch → Rch) (s : State) :
    (s.onRch a f).dramc = s.dramc := rfl
@[simp] theorem State.onRch_scr (a : Fin 4) (f : Rch → Rch) (s : State) :
    (s.onRch a f).scr = s.scr := rfl
@[simp] theorem State.onRch_buf (a : Fin 4) (f : Rch → Rch) (s : State) :
    (s.onRch a f).buf = s.buf := rfl
@[simp] theorem State.onRch_ciph (a : Fin 4) (f : Rch → Rch) (s : State) :
    (s.onRch a f).ciph = s.ciph := rfl
@[simp] theorem State.onRch_dma (a : Fin 4) (f : Rch → Rch) (s : State) :
    (s.onRch a f).dma = s.dma := rfl
@[simp] theorem State.onRch_hm (a : Fin 4) (f : Rch → Rch) (s : State) :
    (s.onRch a f).hm = s.hm := rfl
@[simp] theorem State.onRch_yb (a : Fin 4) (f : Rch → Rch) (s : State) :
    (s.onRch a f).yb = s.yb := rfl
@[simp] theorem State.onRch_pwr (a : Fin 4) (f : Rch → Rch) (s : State) :
    (s.onRch a f).pwr = s.pwr := rfl
@[simp] theorem State.onRch_rc (a : Fin 4) (f : Rch → Rch) (s : State) :
    (s.onRch a f).rc = s.rc := rfl
@[simp] theorem State.onRch_evc (a : Fin 4) (f : Rch → Rch) (s : State) :
    (s.onRch a f).evc = s.evc := rfl
@[simp] theorem State.onRch_tims (a : Fin 4) (f : Rch → Rch) (s : State) :
    (s.onRch a f).tims = s.tims := rfl
@[simp] theorem State.onRch_ports (a : Fin 4) (f : Rch → Rch) (s : State) :
    (s.onRch a f).ports = s.ports := rfl
@[simp] theorem State.onRch_free (a : Fin 4) (f : Rch → Rch) (s : State) :
    (s.onRch a f).free = s.free := rfl
@[simp] theorem State.onRch_pending (a : Fin 4) (f : Rch → Rch) (s : State) :
    (s.onRch a f).pending = s.pending := rfl
@[simp] theorem State.onWp_ident (a : Fin 4) (f : Wp → Wp) (s : State) :
    (s.onWp a f).ident = s.ident := rfl
@[simp] theorem State.onWp_fab (a : Fin 4) (f : Wp → Wp) (s : State) :
    (s.onWp a f).fab = s.fab := rfl
@[simp] theorem State.onWp_sys (a : Fin 4) (f : Wp → Wp) (s : State) :
    (s.onWp a f).sys = s.sys := rfl
@[simp] theorem State.onWp_dict (a : Fin 4) (f : Wp → Wp) (s : State) :
    (s.onWp a f).dict = s.dict := rfl
@[simp] theorem State.onWp_spn (a : Fin 4) (f : Wp → Wp) (s : State) :
    (s.onWp a f).spn = s.spn := rfl
@[simp] theorem State.onWp_pool (a : Fin 4) (f : Wp → Wp) (s : State) :
    (s.onWp a f).pool = s.pool := rfl
@[simp] theorem State.onWp_recov (a : Fin 4) (f : Wp → Wp) (s : State) :
    (s.onWp a f).recov = s.recov := rfl
@[simp] theorem State.onWp_plc (a : Fin 4) (f : Wp → Wp) (s : State) :
    (s.onWp a f).plc = s.plc := rfl
@[simp] theorem State.onWp_tt (a : Fin 4) (f : Wp → Wp) (s : State) :
    (s.onWp a f).tt = s.tt := rfl
@[simp] theorem State.onWp_nvme (a : Fin 4) (f : Wp → Wp) (s : State) :
    (s.onWp a f).nvme = s.nvme := rfl
@[simp] theorem State.onWp_dramc (a : Fin 4) (f : Wp → Wp) (s : State) :
    (s.onWp a f).dramc = s.dramc := rfl
@[simp] theorem State.onWp_scr (a : Fin 4) (f : Wp → Wp) (s : State) :
    (s.onWp a f).scr = s.scr := rfl
@[simp] theorem State.onWp_buf (a : Fin 4) (f : Wp → Wp) (s : State) :
    (s.onWp a f).buf = s.buf := rfl
@[simp] theorem State.onWp_ciph (a : Fin 4) (f : Wp → Wp) (s : State) :
    (s.onWp a f).ciph = s.ciph := rfl
@[simp] theorem State.onWp_dma (a : Fin 4) (f : Wp → Wp) (s : State) :
    (s.onWp a f).dma = s.dma := rfl
@[simp] theorem State.onWp_hm (a : Fin 4) (f : Wp → Wp) (s : State) :
    (s.onWp a f).hm = s.hm := rfl
@[simp] theorem State.onWp_yb (a : Fin 4) (f : Wp → Wp) (s : State) :
    (s.onWp a f).yb = s.yb := rfl
@[simp] theorem State.onWp_pwr (a : Fin 4) (f : Wp → Wp) (s : State) :
    (s.onWp a f).pwr = s.pwr := rfl
@[simp] theorem State.onWp_rc (a : Fin 4) (f : Wp → Wp) (s : State) :
    (s.onWp a f).rc = s.rc := rfl
@[simp] theorem State.onWp_evc (a : Fin 4) (f : Wp → Wp) (s : State) :
    (s.onWp a f).evc = s.evc := rfl
@[simp] theorem State.onWp_tims (a : Fin 4) (f : Wp → Wp) (s : State) :
    (s.onWp a f).tims = s.tims := rfl
@[simp] theorem State.onWp_ports (a : Fin 4) (f : Wp → Wp) (s : State) :
    (s.onWp a f).ports = s.ports := rfl
@[simp] theorem State.onWp_free (a : Fin 4) (f : Wp → Wp) (s : State) :
    (s.onWp a f).free = s.free := rfl
@[simp] theorem State.onWp_pending (a : Fin 4) (f : Wp → Wp) (s : State) :
    (s.onWp a f).pending = s.pending := rfl
@[simp] theorem State.onPsc_ident (a : Fin 4) (f : Psc → Psc) (s : State) :
    (s.onPsc a f).ident = s.ident := rfl
@[simp] theorem State.onPsc_fab (a : Fin 4) (f : Psc → Psc) (s : State) :
    (s.onPsc a f).fab = s.fab := rfl
@[simp] theorem State.onPsc_sys (a : Fin 4) (f : Psc → Psc) (s : State) :
    (s.onPsc a f).sys = s.sys := rfl
@[simp] theorem State.onPsc_dict (a : Fin 4) (f : Psc → Psc) (s : State) :
    (s.onPsc a f).dict = s.dict := rfl
@[simp] theorem State.onPsc_spn (a : Fin 4) (f : Psc → Psc) (s : State) :
    (s.onPsc a f).spn = s.spn := rfl
@[simp] theorem State.onPsc_pool (a : Fin 4) (f : Psc → Psc) (s : State) :
    (s.onPsc a f).pool = s.pool := rfl
@[simp] theorem State.onPsc_recov (a : Fin 4) (f : Psc → Psc) (s : State) :
    (s.onPsc a f).recov = s.recov := rfl
@[simp] theorem State.onPsc_plc (a : Fin 4) (f : Psc → Psc) (s : State) :
    (s.onPsc a f).plc = s.plc := rfl
@[simp] theorem State.onPsc_tt (a : Fin 4) (f : Psc → Psc) (s : State) :
    (s.onPsc a f).tt = s.tt := rfl
@[simp] theorem State.onPsc_nvme (a : Fin 4) (f : Psc → Psc) (s : State) :
    (s.onPsc a f).nvme = s.nvme := rfl
@[simp] theorem State.onPsc_dramc (a : Fin 4) (f : Psc → Psc) (s : State) :
    (s.onPsc a f).dramc = s.dramc := rfl
@[simp] theorem State.onPsc_scr (a : Fin 4) (f : Psc → Psc) (s : State) :
    (s.onPsc a f).scr = s.scr := rfl
@[simp] theorem State.onPsc_buf (a : Fin 4) (f : Psc → Psc) (s : State) :
    (s.onPsc a f).buf = s.buf := rfl
@[simp] theorem State.onPsc_ciph (a : Fin 4) (f : Psc → Psc) (s : State) :
    (s.onPsc a f).ciph = s.ciph := rfl
@[simp] theorem State.onPsc_dma (a : Fin 4) (f : Psc → Psc) (s : State) :
    (s.onPsc a f).dma = s.dma := rfl
@[simp] theorem State.onPsc_hm (a : Fin 4) (f : Psc → Psc) (s : State) :
    (s.onPsc a f).hm = s.hm := rfl
@[simp] theorem State.onPsc_yb (a : Fin 4) (f : Psc → Psc) (s : State) :
    (s.onPsc a f).yb = s.yb := rfl
@[simp] theorem State.onPsc_pwr (a : Fin 4) (f : Psc → Psc) (s : State) :
    (s.onPsc a f).pwr = s.pwr := rfl
@[simp] theorem State.onPsc_rc (a : Fin 4) (f : Psc → Psc) (s : State) :
    (s.onPsc a f).rc = s.rc := rfl
@[simp] theorem State.onPsc_evc (a : Fin 4) (f : Psc → Psc) (s : State) :
    (s.onPsc a f).evc = s.evc := rfl
@[simp] theorem State.onPsc_tims (a : Fin 4) (f : Psc → Psc) (s : State) :
    (s.onPsc a f).tims = s.tims := rfl
@[simp] theorem State.onPsc_ports (a : Fin 4) (f : Psc → Psc) (s : State) :
    (s.onPsc a f).ports = s.ports := rfl
@[simp] theorem State.onPsc_free (a : Fin 4) (f : Psc → Psc) (s : State) :
    (s.onPsc a f).free = s.free := rfl
@[simp] theorem State.onPsc_pending (a : Fin 4) (f : Psc → Psc) (s : State) :
    (s.onPsc a f).pending = s.pending := rfl
@[simp] theorem State.onPre_ident (a : Fin 4) (f : Preamp → Preamp) (s : State) :
    (s.onPre a f).ident = s.ident := rfl
@[simp] theorem State.onPre_fab (a : Fin 4) (f : Preamp → Preamp) (s : State) :
    (s.onPre a f).fab = s.fab := rfl
@[simp] theorem State.onPre_sys (a : Fin 4) (f : Preamp → Preamp) (s : State) :
    (s.onPre a f).sys = s.sys := rfl
@[simp] theorem State.onPre_dict (a : Fin 4) (f : Preamp → Preamp) (s : State) :
    (s.onPre a f).dict = s.dict := rfl
@[simp] theorem State.onPre_spn (a : Fin 4) (f : Preamp → Preamp) (s : State) :
    (s.onPre a f).spn = s.spn := rfl
@[simp] theorem State.onPre_pool (a : Fin 4) (f : Preamp → Preamp) (s : State) :
    (s.onPre a f).pool = s.pool := rfl
@[simp] theorem State.onPre_recov (a : Fin 4) (f : Preamp → Preamp) (s : State) :
    (s.onPre a f).recov = s.recov := rfl
@[simp] theorem State.onPre_plc (a : Fin 4) (f : Preamp → Preamp) (s : State) :
    (s.onPre a f).plc = s.plc := rfl
@[simp] theorem State.onPre_tt (a : Fin 4) (f : Preamp → Preamp) (s : State) :
    (s.onPre a f).tt = s.tt := rfl
@[simp] theorem State.onPre_nvme (a : Fin 4) (f : Preamp → Preamp) (s : State) :
    (s.onPre a f).nvme = s.nvme := rfl
@[simp] theorem State.onPre_dramc (a : Fin 4) (f : Preamp → Preamp) (s : State) :
    (s.onPre a f).dramc = s.dramc := rfl
@[simp] theorem State.onPre_scr (a : Fin 4) (f : Preamp → Preamp) (s : State) :
    (s.onPre a f).scr = s.scr := rfl
@[simp] theorem State.onPre_buf (a : Fin 4) (f : Preamp → Preamp) (s : State) :
    (s.onPre a f).buf = s.buf := rfl
@[simp] theorem State.onPre_ciph (a : Fin 4) (f : Preamp → Preamp) (s : State) :
    (s.onPre a f).ciph = s.ciph := rfl
@[simp] theorem State.onPre_dma (a : Fin 4) (f : Preamp → Preamp) (s : State) :
    (s.onPre a f).dma = s.dma := rfl
@[simp] theorem State.onPre_hm (a : Fin 4) (f : Preamp → Preamp) (s : State) :
    (s.onPre a f).hm = s.hm := rfl
@[simp] theorem State.onPre_yb (a : Fin 4) (f : Preamp → Preamp) (s : State) :
    (s.onPre a f).yb = s.yb := rfl
@[simp] theorem State.onPre_pwr (a : Fin 4) (f : Preamp → Preamp) (s : State) :
    (s.onPre a f).pwr = s.pwr := rfl
@[simp] theorem State.onPre_rc (a : Fin 4) (f : Preamp → Preamp) (s : State) :
    (s.onPre a f).rc = s.rc := rfl
@[simp] theorem State.onPre_evc (a : Fin 4) (f : Preamp → Preamp) (s : State) :
    (s.onPre a f).evc = s.evc := rfl
@[simp] theorem State.onPre_tims (a : Fin 4) (f : Preamp → Preamp) (s : State) :
    (s.onPre a f).tims = s.tims := rfl
@[simp] theorem State.onPre_ports (a : Fin 4) (f : Preamp → Preamp) (s : State) :
    (s.onPre a f).ports = s.ports := rfl
@[simp] theorem State.onPre_free (a : Fin 4) (f : Preamp → Preamp) (s : State) :
    (s.onPre a f).free = s.free := rfl
@[simp] theorem State.onPre_pending (a : Fin 4) (f : Preamp → Preamp) (s : State) :
    (s.onPre a f).pending = s.pending := rfl

end Sys2Proof.Machine
end

