-- ==== Sys2Proof/Laws/Ops.lean ====
section
/-! SUPPORT. What the shared operations do: the one state each gives, and what it leaves. -/

namespace Sys2Proof.Machine

open Sys2Proof

/-! Messages. -/

theorem State.send_eq (m : Msg) (s : State) :
    s.send m = { s with fab := { s.fab with msgs := s.fab.msgs ++ [m] } } := rfl

theorem State.event_eq (src : Endpoint) (num qual : Nat) (s : State) :
    s.event src num qual
      = { s with fab := { s.fab with msgs := s.fab.msgs ++ [eventMsg src num qual] } } := rfl

theorem State.fault_eq (src : Endpoint) (source kind : Nat) (s : State) :
    s.fault src source kind
      = { s with fab := { s.fab with msgs := s.fab.msgs ++ [faultMsg src source kind (s.localTime src)] } } :=
  rfl

theorem State.faultAt_eq (src : Endpoint) (source kind addr : Nat) (s : State) :
    s.faultAt src source kind addr
      = { s with fab := { s.fab with msgs :=
          s.fab.msgs ++ [faultAtMsg src source kind addr (s.localTime src)] } } := rfl

theorem SentOnly.sent {l : List Msg} {s t : State} (h : SentOnly l s t) {m : Msg} (hm : m ∈ l) :
    Sent m s t := by
  unfold Sent
  rw [h, List.drop_left]
  exact hm

/-! Dictionary values. -/

theorem State.odSet_eq (key v : Nat) (s : State) :
    s.odSet key v = { s with dict := { s.dict with od := Tab.set s.dict.od key (.num v) } } := rfl

theorem State.count_eq (key n : Nat) (s : State) : s.count key n = s.odSet key (s.odNat key 0 + n) :=
  rfl

/-- An object that was set reads back. -/
theorem State.odNat_odSet (key v d : Nat) (s : State) : (s.odSet key v).odNat key d = v := by
  show (match Tab.get? (Tab.set s.dict.od key (.num v)) key with
    | some (.num v) => v
    | _ => d) = v
  rw [Tab.get?_set_same]

/-- A counter has moved on by so much. -/
theorem State.odNat_count (key n : Nat) (s : State) :
    (s.count key n).odNat key 0 = s.odNat key 0 + n := State.odNat_odSet key _ 0 s

/-! Power domains, DMA channels, sources, timers: put and read. -/

theorem State.dom_onDom {s : State} (h : Tab.rising s.pwr.doms = true) (d : Nat) (f : Dom → Dom)
    (e : Nat) : (s.onDom d f).dom e = if e = d then f (s.dom d) else s.dom e :=
  Tab.getD_put h d _ Dom.reset e

theorem State.supply_onSupply {s : State} (h : Tab.rising s.pwr.islands = true) (i : Nat)
    (f : IslandSupply → IslandSupply) (j : Nat) :
    (s.onSupply i f).supply j = if j = i then f (s.supply i) else s.supply j :=
  Tab.getD_put h i _ IslandSupply.reset j

theorem State.slot_onSlot {s : State} (h : Tab.rising s.ciph.slots = true) (n : Nat)
    (f : KeySlot → KeySlot) (m : Nat) :
    (s.onSlot n f).slot m = if m = n then f (s.slot n) else s.slot m :=
  Tab.getD_put h n _ KeySlot.reset m

theorem State.timer_onTimer {s : State} (h : Tab.rising s.tims = true) (n : Nat) (f : Timer → Timer)
    (m : Nat) : (s.onTimer n f).timer m = if m = n then f (s.timer n) else s.timer m :=
  Tab.getD_put h n _ Timer.reset m

theorem State.ybBank_onBank {s : State} (h : Tab.rising s.yb.banks = true) (n : Nat)
    (f : YbBank → YbBank) (m : Nat) :
    (s.onBank n f).ybBank m = if m = n then f (s.ybBank n) else s.ybBank m :=
  Tab.getD_put h n _ YbBank.reset m

/-! Memory. -/

theorem State.write_eq (a : Nat) (b : List Byte) (s : State) :
    s.write a b = { s with fab := { s.fab with mem := memWrite s.fab.mem a b } } := rfl

theorem State.write_wf {s : State} (h : Memory.wf s.fab.mem = true) (a : Nat) (b : List Byte) :
    Memory.wf (s.write a b).fab.mem = true := memWrite_wf h a b

/-- A write leaves every byte outside it. -/
theorem State.write_outside {s : State} (h : Memory.wf s.fab.mem = true) (a : Nat) (b : List Byte) :
    MemoryOutside a b.length s (s.write a b) := fun _ hn => memByte_memWrite_outside h a b hn

/-- The memories of a domain are cleared, and memory keeps its form. -/
theorem State.fillDomain_wf {s : State} (h : Memory.wf s.fab.mem = true) (d : Nat) :
    Memory.wf (s.fillDomain d).fab.mem = true := by
  show Memory.wf ((domMemory d).foldl (fun m r => memClear m r.1 r.2) s.fab.mem) = true
  generalize domMemory d = l
  generalize hm : s.fab.mem = m at h
  clear hm
  induction l generalizing m with
  | nil => exact h
  | cons x r ih => exact ih _ (memClear_wf h _ _)

/-! Folds and conditions. -/

/-- What every member of a fold keeps, the fold keeps. -/
theorem foldS_keeps {α σ : Type} (P : σ → Prop) (f : α → σ → σ) (h : ∀ x s, P s → P (f x s))
    (l : List α) {s : σ} (hs : P s) : P (foldS f l s) := by
  induction l generalizing s with
  | nil => exact hs
  | cons x r ih => exact ih (h x s hs)

/-- What an operation keeps, it keeps under a condition. -/
theorem State.doIf_keeps (P : State → Prop) (c : Bool) (f : State → State) {s : State}
    (h : P s → P (f s)) (hs : P s) : P (s.doIf c f) := by
  unfold State.doIf
  split
  · exact h hs
  · exact hs

/-- A part of the state that every member of a fold leaves, the fold leaves. -/
theorem foldS_same {α σ β : Type} (g : σ → β) (f : α → σ → σ) (h : ∀ x s, g (f x s) = g s)
    (l : List α) (s : σ) : g (foldS f l s) = g s := by
  induction l generalizing s with
  | nil => rfl
  | cons x r ih => exact (ih (f x s)).trans (h x s)

end Sys2Proof.Machine
end

