-- ==== Sys2Proof/Tests/Slice0.lean ====
section
/-! SUPPORT. Tests: ill-formed commands are refused, small steps give what the spec says, and the
hypotheses of the statements can be met. -/

set_option linter.unusedVariables false

namespace Sys2Proof.Tests

open Sys2Proof Sys2Proof.Machine

/-! Ill-formed commands: one for each check of `Instr.wf`. -/

/-- A frame too long for a body of 1,456 bytes. -/
def longFrame : Frame := { link := .nvme 0, bytes := List.replicate 1501 0, queued := 0, guests := 15 }

/-- A read that carries bytes. -/
def badRead : Access := { kind := .read, amo := .swap, addr := 0x10000000, size := 4, data := [1] }

/-- A write of four bytes that carries three. -/
def badWrite : Access := { kind := .write, amo := .swap, addr := 0x10000000, size := 4, data := [1, 2, 3] }

/-- A read of four bytes. -/
def goodRead : Access := { badRead with data := [] }

/-- No error on the link to DRAM. -/
def noEcc : LinkEcc := { corrected := false, detected := false, retryFailed := false, errs := [], burst := [] }

/-- A measurement with no step. -/
def noSteps : Measurement :=
  { band := 0, photo := [], ra := 0, rb := 0, writer := 0, touch := [], margin := 0
    cut := false }

theorem test_wf_heads : (Instr.residentFirmwareRunning [1, 2, 3, 4, 5] []).wf = false := by decide

theorem test_wf_read : (Instr.coreMemoryAccess 0 badRead .clean).wf = false := by decide

theorem test_wf_write : (Instr.coreMemoryAccess 0 badWrite .clean).wf = false := by decide

theorem test_wf_dram : (Instr.dramRequest 0 badWrite noEcc none).wf = false := by decide

theorem test_wf_channel : (Instr.fabricTransaction 8 (some 3) goodRead).wf = false
    ∧ (Instr.fabricTransaction 9 none goodRead).wf = false
    ∧ (Instr.fabricTransaction 8 none badRead).wf = false := by decide

theorem test_wf_replicas : (Instr.chipTimeBroadcast 0 [0]).wf = false := by decide

theorem test_wf_frame : (Instr.dictRead longFrame.wire longFrame.here).wf = false ∧ (Instr.commit longFrame none).wf = false := by
  decide +kernel

/-- The head of a command of controller 0's admin queue. -/
def adminHdr : NvmeHdr := { ctrl := 0, sqid := 0, cid := 0 }

theorem test_wf_send : (Instr.buythSend adminHdr 4097 []).wf = false
    ∧ (Instr.buythSend adminHdr 2 [1]).wf = false := by decide

theorem test_wf_mean : (Instr.spindleCurrentMeasure 0 0).wf = false := by decide

/-- A PWM period without its nine ADC codes. -/
def noSenses : PwmInputs :=
  { adc := [], angle := 0, speed := 0, pred := [], torque := 0, flux := 0, boundary := false
    crossing := none }

theorem test_wf_senses : (Instr.pwmPeriod noSenses).wf = false := by decide

theorem test_wf_rebuild : (Instr.rowRebuildComplete 0 { missing := [1, 2, 3], present := [] }).wf = false := by
  decide

theorem test_wf_lanes : (Instr.pcieLinkUp 0 3 1).wf = false ∧ (Instr.pcieLinkUp 0 4 0).wf = false
    ∧ (Instr.pcieLinkUp 0 4 6).wf = false := by decide

theorem test_wf_error_kind : (Instr.dmaBeatError 0 true 0 0 none).wf = false := by decide

theorem test_wf_reports : (Instr.faultReportIntake [0, 1, 2, 3, 4]).wf = false := by decide

theorem test_wf_kind : (Instr.hmInject 0 40 16).wf = false := by decide

theorem test_wf_steps : (Instr.headMeasurement 0 0 noSteps).wf = false := by decide

theorem test_wf_block : (Instr.uartBlock 0 (List.replicate 1025 0) 0).wf = false := by
  decide +kernel

/-- A command within its bounds is well formed. -/
theorem test_wf_good : (Instr.coreMemoryAccess 0 goodRead .clean).wf = true
    ∧ (Instr.fabricTransaction 9 (some 15) goodRead).wf = true
    ∧ (Instr.pcieLinkUp 1 4 5).wf = true ∧ (Instr.hmInject 0 159 15).wf = true := by decide

/-! Numbers (06 R164, R168): expected values by hand from binary32. -/

theorem test_add_one_one : fAdd 0x3F800000 0x3F800000 = 0x40000000 := by decide

theorem test_third_rounds_to_even : fDiv 0x3F800000 0x40400000 = 0x3EAAAAAB := by decide

theorem test_overflow_is_infinity : fMul 0x7F7FFFFF 0x40000000 = 0x7F800000 := by decide

theorem test_subnormal_result_is_zero : fMul 0x00800000 0xBF000000 = 0x80000000 := by decide

theorem test_nan_is_quiet : fAdd 0x7F800000 0xFF800000 = 0x7FC00000 := by decide

theorem test_min_reads_subnormal_as_zero : fMin 0x00000001 0x3F800000 = 0
    ∧ fMin 0 0x80000000 = 0x80000000 ∧ fMax 0 0x80000000 = 0 := by decide

/-- CRC-32 of IEEE 802.3 over the characters 1 to 9 is 0xCBF43926 (the check value of that CRC). -/
theorem test_crc32 : crc32 (asciiBytes "123456789") = 0xCBF43926 := by decide +kernel

/-! Frames (03 R79 to R81). -/

/-- A role key of 32 zero bytes. -/
def tKey : List Byte := List.replicate 32 0

/-- A request header from node 2, counter 1, tag 7. -/
def tHeader (role : Byte) (dst len : Nat) : List Byte :=
  [1, role, 2, 0] ++ leBytes 2 dst ++ leBytes 2 len ++ leBytes 8 1 ++ leBytes 4 7 ++ [0, 0, 0, 0, 0, 0, 0, 0]

/-- A sealed request over the backplane. -/
def tFrame (role : Byte) (mac : BitVec 48) (dst : Nat) (b : List Byte) : Frame :=
  { link := .t1s 1 mac 0x88B5 false, bytes := sealFrame tKey (tHeader role dst b.length) b, queued := 0
    guests := 15 }

/-- A sealed request to the drive. -/
def tReq (role : Byte) (b : List Byte) : Frame := tFrame role 0 0x1000 b

/-- The drive after core release with the three role keys provisioned. -/
def tState : State :=
  ((State.reset.onSys fun y => { y with coreReleased := true }).onDom 30 fun x => { x with state := .on }).onDict
    fun d => { d with keys := [(1, tKey), (2, tKey), (3, tKey)], provisioned := 7 }

/-- The request a sealed frame carries. -/
theorem tReqOf {role : Byte} {mac : BitVec 48} {dst : Nat} {b : List Byte} {r : Req} {s : State}
    (hb : bodyReq b = some r)
    (hl : leField (tHeader role dst b.length) 6 2 = b.length ∧ 4 ≤ b.length ∧ b.length ≤ 1456)
    (hk : s.keyFor (tFrame role mac dst b).sender (tFrame role mac dst b).role.toNat = some tKey) :
    s.reqOf (tFrame role mac dst b) = some r :=
  (s.reqOf_sealFrame _ _ _ _ _ _ (by decide) (by simp [tHeader, length_leBytes]) hl.1 hl.2.1 hl.2.2 _
    rfl hk).trans hb

/-- What the intake of a sealed request needs. -/
theorem tAccepted {op : Nat} {role : Byte} {mac : BitVec 48} {dst : Nat} {b : List Byte} {r : Req}
    {s : State} (hb : bodyReq b = some r) (ho : r.op = op)
    (hl : leField (tHeader role dst b.length) 6 2 = b.length ∧ 4 ≤ b.length ∧ b.length ≤ 1456)
    (hk : s.keyFor (tFrame role mac dst b).sender (tFrame role mac dst b).role.toNat = some tKey)
    (hr : s.frameReaches (tFrame role mac dst b) = true
      ∧ s.isSilenced (tFrame role mac dst b).sender = false ∧ s.frameForUs (tFrame role mac dst b) = true
      ∧ ((tFrame role mac dst b).link.broadcast = false ∨ op = 0x0A)
      ∧ s.counterNew (tFrame role mac dst b).session (tFrame role mac dst b).counter = true) :
    Accepted op (tFrame role mac dst b) r s :=
  ⟨hr.1, hr.2.1, hr.2.2.1,
    tReqOf hb hl hk, ho, hr.2.2.2.1, hr.2.2.2.2, Nat.zero_lt_succ _⟩

/-! Steps. -/

/-- An engine that executes on actuator 3 of tier A, with 1.0 in f1 and this word at its last address. -/
def engine (w : Word) : State :=
  ((State.reset.onIdent fun i => { i with tier := .a }).onSve 3 fun v => { v with
    state := .running, seg := .mandatory, pc := 4095, f := [(1, 0x3F800000)] }).setWord
      (islandBase 3 + 0x13FFC) w

/-- A field of the state a command gives, or a default where it gives none. -/
def after {α : Type} (c : Instr) (s : State) (d : α) (f : State → α) : α :=
  match exec c s with
  | .next t => f t
  | _ => d

/-- ADD (06 R168): 1.0 + 1.0 into f1, a source too. -/
theorem test_add_onto_source : after (.add 3 1 1 1) (engine (encR 0x01 1 1 1)) 0
    (fun t => (t.act 3).sve.reg 1) = 0x40000000 := by decide +kernel

/-- A write of f0 is ignored (06 R165). -/
theorem test_f0_stays_zero : after (.add 3 0 1 1) (engine (encR 0x01 0 1 1)) 1
    (fun t => (t.act 3).sve.reg 0) = 0 := by decide +kernel

/-- The kind of an illegal instruction is 1, of actuator 3's fault offset 6: source 130 (06 R182). -/
theorem test_illegal_source : after (.illegalInstruction 3 false) (engine 0xFF000000) [] (fun t => t.fab.msgs)
    = [faultMsg 0x39 130 1 0] := by decide +kernel

/-- RUN in OFF enters REST_CHECK (04 R106). -/
theorem test_spn_run : after .spnRun State.reset .off (fun t => t.spn.state) = .restCheck := by decide

/-- The prompt of the UART is 0x43 (20 R541). -/
theorem test_prompt : after .uartPrompt (State.reset.onPorts fun p => { p with uart := .prompting }) []
    (fun t => t.ports.uartTx) = [0x43] := by decide

/-- The cursor does not go below 0 (17 R495). -/
theorem test_cursor_floor : after (.ybCursorPrev .housekeeping) State.reset 1 (fun t => (t.ybBank 4).cur) = 0 := by
  decide

/-- CRST of source 9 stays 0 and sets CONFLICT (16 R464). -/
theorem test_crst_refused : after (.srcCfgWrite 9 0x00000008) State.reset (1, false)
    (fun t => ((t.hmSrc 9).cfg, t.hm.conflict)) = (0, true) := by decide

/-- A write below RPM_MIN, 3,600, sets CONFLICT alone (04 R107, R129): bit 8 of SPN_FLAGS. -/
theorem test_target_too_low : after (.spnTargetWrite 3599) State.reset 0 (fun t => t.spn.flags)
    = setBit State.reset.spn.flags 8 true := by decide

/-- No DRAM below 0x8_0000_0000: kind 1 (01 R28, 13 R406). -/
theorem test_no_dram : after (.dramRequest 0 { goodRead with addr := 0x7FFFFFFFC } noEcc none)
    (State.reset.onDramc fun d => { d with rawGiB := 4 }) [] (fun t => t.dramc.results.map fun r => r.kind) = [1] := by
  decide

/-- Bytes are least significant first (01 R22). -/
theorem test_word_order : (State.reset.write 0x10000000 [0x78, 0x56, 0x34, 0x12]).word 0x10000000 = 0x12345678 := by
  decide

/-- One tick of an empty queue. -/
theorem test_idle_tick : (match step State.reset with
    | .next t => t.fab.chipTime
    | _ => 0) = 1 := by decide

/-- The command at the front runs first. -/
theorem test_front_first : (match step { State.reset with pending := [.gpioEdge 3 true, .gpioEdge 4 true] } with
    | .next t => (t.evc.gpioLevel, t.pending.length)
    | _ => (0, 0)) = (8, 1) := by decide

/-! The hypotheses of the statements. -/

/-- The hypotheses of `Obligations.LateTransactionsEndWithKindSix` can be met. -/
theorem test_late_transactions_end_with_kind_six_hyps :
    (∃ (n : Nat) (x : Txn) (s : State), (s.txn? n = some x ∧ s.fab.txns.countP (fun y => y.id == n) = 1)) :=
  ⟨3, { id := 3, src := 0, chan := none, acc := { kind := .read, amo := .swap, addr := 0x10000000, size := 4, data := [] } }, State.reset.onFab fun f => { f with txns := [{ id := 3, src := 0, chan := none, acc := { kind := .read, amo := .swap, addr := 0x10000000, size := 4, data := [] } }] }, by decide⟩

/-- The hypotheses of `Obligations.KyomosChecksTransactionsInOrder` can be met. -/
theorem test_kyomos_checks_transactions_in_order_hyps :
    (∃ (src : Endpoint) (acc : Access) (k : Nat) (s : State), (s.fenced src = false ∧ isCore src = false ∧ accShaped acc false = true ∧ accAligned acc = true ∧ s.refusal src none acc = some k)) ∧
    (∃ (src : Endpoint) (acc : Access) (s : State), (s.fenced src = false ∧ accShaped acc (isCore src) = true ∧ accAligned acc = true ∧ s.amoTarget acc = true ∧ s.refusal src none acc = none)) ∧
    (∃ (n : Nat) (x : Txn) (s : State), (s.txn? n = some x ∧ s.txnWaits x = false ∧ x.acc.kind = .read ∧ isCore x.src = false ∧ 0x10000000 ≤ x.acc.addr ∧ x.acc.addr < 0x11800000)) ∧
    (∃ (n : Nat) (x : Txn) (s : State), (Memory.wf s.fab.mem = true ∧ s.txn? n = some x ∧ s.txnWaits x = false ∧ x.acc.kind = .write ∧ x.acc.data.length = x.acc.size ∧ 0x10000000 ≤ x.acc.addr ∧ x.acc.addr + x.acc.size ≤ 0x11800000 ∧ 0 < x.acc.size)) ∧
    (∃ (n : Nat) (x : Txn) (s : State), (s.txn? n = some x ∧ s.txnWaits x = false)) ∧
    (∃ (n : Nat) (x : Txn) (src : BitVec 8) (kind : BitVec 4) (s : State), (s.txn? n = some x ∧ s.txnWaits x = false)) :=
  ⟨⟨0x0D, { kind := .read, amo := .swap, addr := 0x20B00000, size := 64, data := [] }, 1, State.reset, by decide⟩,
   ⟨0x0D, { kind := .read, amo := .swap, addr := 0x10000000, size := 64, data := [] }, State.reset.onDom 7 fun x => { x with state := .on }, by decide⟩,
   ⟨3, { id := 3, src := 0x0D, chan := none, acc := { kind := .read, amo := .swap, addr := 0x10000000, size := 4, data := [] } }, State.reset.onFab fun f => { f with txns := [{ id := 3, src := 0x0D, chan := none, acc := { kind := .read, amo := .swap, addr := 0x10000000, size := 4, data := [] } }] }, by decide⟩,
   ⟨3, { id := 3, src := 0x0D, chan := none, acc := { kind := .write, amo := .swap, addr := 0x117FFFFC, size := 4, data := [1, 2, 3, 4] } }, State.reset.onFab fun f => { f with txns := [{ id := 3, src := 0x0D, chan := none, acc := { kind := .write, amo := .swap, addr := 0x117FFFFC, size := 4, data := [1, 2, 3, 4] } }] }, by decide⟩,
   ⟨3, { id := 3, src := 0x0D, chan := none, acc := { kind := .read, amo := .swap, addr := 0x10000000, size := 4, data := [] } }, State.reset.onFab fun f => { f with txns := [{ id := 3, src := 0x0D, chan := none, acc := { kind := .read, amo := .swap, addr := 0x10000000, size := 4, data := [] } }] }, by decide⟩,
   ⟨3, { id := 3, src := 0x0D, chan := none, acc := { kind := .read, amo := .swap, addr := 0x10000000, size := 4, data := [] } }, 12, 1, State.reset.onFab fun f => { f with txns := [{ id := 3, src := 0x0D, chan := none, acc := { kind := .read, amo := .swap, addr := 0x10000000, size := 4, data := [] } }] }, by decide⟩⟩

/-- The hypotheses of `Obligations.CoreAccessesFencesAndRegisterWrites` can be met. -/
theorem test_core_accesses_fences_and_register_writes_hyps :
    (∃ (core : Endpoint) (acc : Access) (ecc : CoreEcc) (s : State), (isCore core = true ∧ s.coreRuns core = true ∧ s.fenced core = false ∧ accShaped acc true = true ∧ acc.addr < 2 ^ 32 ∧ accAligned acc = false)) ∧
    (∃ (core : Endpoint) (acc : Access) (at' : Nat) (s : State), (isCore core = true ∧ s.coreRuns core = true ∧ s.fenced core = false ∧ accShaped acc true = true ∧ acc.addr < 2 ^ 32 ∧ accAligned acc = true ∧ acc.kind = .write ∧ acc.data.length = acc.size ∧ ownTcm core acc = some at')) ∧
    (∃ (core : Endpoint) (acc : Access) (at' b : Nat) (s : State), (isCore core = true ∧ s.coreRuns core = true ∧ s.fenced core = false ∧ accShaped acc true = true ∧ acc.addr < 2 ^ 32 ∧ accAligned acc = true ∧ acc.kind ≠ .amo ∧ ownTcm core acc = some at')) ∧
    (∃ (core : Endpoint) (acc : Access) (s : State), (isCore core = true ∧ s.coreRuns core = true ∧ s.fenced core = false ∧ accShaped acc true = true ∧ acc.addr < 2 ^ 32 ∧ accAligned acc = true ∧ ownTcm core acc = none ∧ s.amoTarget acc = true ∧ s.local core acc = false ∧ s.refusal core none acc = none)) ∧
    (∃ (src : Endpoint) (s : State), (s.fenced src = false)) ∧
    (∃ (src : Endpoint) (s : State), (∀ f ∈ s.fab.fences, f.src = src → s.fenceMet f = true)) ∧
    (∃ (src : Endpoint) (v : BitVec 32) (s : State), (src.toNat < 4 ∧ s.coreRuns src = true ∧ s.fenced src = false ∧ s.pairBusy src epSpindle = false)) :=
  ⟨⟨4, { kind := .write, amo := .swap, addr := 0x10000001, size := 2, data := [1, 2] }, .l2Bad 3, State.reset, by decide⟩,
   ⟨4, { kind := .write, amo := .swap, addr := 0x04000000, size := 2, data := [1, 2] }, 2 ^ 40 + 2 ^ 32 * 4, State.reset, by decide⟩,
   ⟨4, { kind := .read, amo := .swap, addr := 0x04000000, size := 2, data := [] }, 2 ^ 40 + 2 ^ 32 * 4, 1, State.reset, by decide⟩,
   ⟨4, { kind := .read, amo := .swap, addr := 0x10000000, size := 4, data := [] }, State.reset.onDom 7 fun x => { x with state := .on }, by decide⟩,
   ⟨0, State.reset, by decide⟩,
   ⟨0, State.reset.onFab fun f => { f with fences := [{ src := 0, txns := [7], msgs := [] }] }, by decide⟩,
   ⟨0, 0x1FF, (State.reset.onSys fun y => { y with coreReleased := true }).onDom 2 fun x => { x with state := .on }, by decide⟩⟩

/-- The hypotheses of `Obligations.MessagesReachTheirReceivers` can be met. -/
theorem test_messages_reach_their_receivers_hyps :
    (∃ (time : BitVec 64) (drift : List Int) (s : State), (time ≤ s.fab.chipTime ∧ drift.length = 12 ∧ s.fab.replica.length = 12 ∧ s.domOn 6 = true ∧ (nth drift 1 0).natAbs ≤ 8)) ∧
    (∃ (time : BitVec 64) (drift : List Int) (s : State), (time ≤ s.fab.chipTime ∧ drift.length = 12 ∧ s.fab.replica.length = 12 ∧ s.domOn 6 = true ∧ 8 < (nth drift 1 0).natAbs)) ∧
    (∃ (src dst : Fin 4) (acc : F32) (at' : Nat) (period : BitVec 16) (late hold unl : Bool) (s : State), (s.fab.msgs = [{ src := epAct src 1, dst := epAct dst 1, body := .feedForward acc at' period late hold unl }] ∧ s.domOn (20 + dst.val) = true ∧ s.now16 ≤ at' + s.wedgeT dst - 320 ∧ s.msgArrives { src := epAct src 1, dst := epAct dst 1, body := .feedForward acc at' period late hold unl } = true)) ∧
    (∃ (src dst : Fin 4) (r : Nat) (v : F32) (u : Bool) (q : List (Nat × F32 × Bool)) (s : State), (((s.act dst).mbx.get src).queue = (r, v, u) :: q ∧ r ≤ s.now16)) ∧
    (∃ (src dst : Fin 4) (s : State), (((s.act dst).mbx.get src).released + 2 * s.wedgeT dst ≤ s.now16)) ∧
    (∃ (a : Fin 4) (w : BitVec 10) (at' : Nat) (locked missing frozen : Bool) (s : State), (s.fab.msgs = [{ src := epAct a 2, dst := epSpindle, body := .wedgeTiming w at' locked missing frozen }] ∧ s.msgArrives { src := epAct a 2, dst := epSpindle, body := .wedgeTiming w at' locked missing frozen } = true)) ∧
    (∃ (a : Fin 4) (n : NoticeForce) (s : State), (s.fab.msgs = [{ src := epSpindle, dst := epAct a 2, body := .slewNotice n.target n.rate n.start }] ∧ s.msgArrives { src := epSpindle, dst := epAct a 2, body := .slewNotice n.target n.rate n.start } = true ∧ s.domOn (20 + a.val) = true)) ∧
    (∃ (a : Fin 4) (s : State), (s.present a = true ∧ (s.act a).isl.notice.rate ≠ 0 ∧ (s.act a).isl.notice.rate ≠ 0xFFFF ∧ s.domOn (20 + a.val) = true ∧ (s.act a).isl.notice.start ≤ s.now16 ∧ s.odNat (odKey 0x2040 4) 40 < (s.act a).isl.notice.rate.toNat)) ∧
    (∃ (a : Fin 4) (s : State), (s.present a = true ∧ (s.act a).isl.notice.rate ≠ 0 ∧ (s.act a).isl.notice.rate ≠ 0xFFFF ∧ s.domOn (20 + a.val) = true ∧ s.rampOver a = true)) :=
  ⟨⟨0, [0, 8, 0, 0, 0, 0, 0, 0, 0, 0, 0, 0], State.reset.onDom 6 fun x => { x with state := .on }, by decide⟩,
   ⟨0, [0, -9, 0, 0, 0, 0, 0, 0, 0, 0, 0, 0], State.reset.onDom 6 fun x => { x with state := .on }, by decide⟩,
   ⟨1, 0, 0x3F800000, 1000000, 5, false, false, false, (State.reset.onFab fun f => { f with msgs := [{ src := epAct 1 1, dst := epAct 0 1, body := .feedForward 0x3F800000 1000000 5 false false false }] }).onDom 20 fun x => { x with state := .on }, by decide⟩,
   ⟨1, 0, 5, 0x3F800000, false, [], (State.reset.onMbx 0 fun m => m.set 1 { m.get 1 with queue := [(5, 0x3F800000, false)] }).onFab fun f => { f with chipTime := 1 }, by decide⟩,
   ⟨0, 1, State.reset.onFab fun f => { f with chipTime := 1000000 }, by decide⟩,
   ⟨2, 7, 1000, true, false, false, State.reset.onFab fun f => { f with msgs := [{ src := epAct 2 2, dst := epSpindle, body := .wedgeTiming 7 1000 true false false }] }, by decide⟩,
   ⟨0, { target := 115200, rate := 0xFFFF, start := 0 }, (State.reset.onFab fun f => { f with msgs := [{ src := epSpindle, dst := epAct 0 2, body := .slewNotice 115200 0xFFFF 0 }] }).onDom 20 fun x => { x with state := .on }, by decide⟩,
   ⟨0, ((State.reset.onFab fun f => { f with chipTime := 2000000000000 }).onDom 20 fun x => { x with state := .on }).onIsl 0 fun i => { i with notice := { i.notice with rate := 60 } }, by decide⟩,
   ⟨0, ((State.reset.onFab fun f => { f with chipTime := 2000000000000 }).onDom 20 fun x => { x with state := .on }).onIsl 0 fun i => { i with notice := { i.notice with rate := 60 } }, by decide⟩⟩

/-- The hypotheses of `Obligations.PowerUpBringsFillAndCoreZero` can be met. -/
theorem test_power_up_brings_fill_and_core_zero_hyps :
    (∃ (v12 v5 : Nat) (s : State), (s.sys.supplyWait = true ∧ msTicks ≤ s.since s.sys.supplyAt ∧ s.spn.state = .off ∧ 11400 ≤ v12 ∧ v12 ≤ 12600 ∧ 4750 ≤ v5 ∧ v5 ≤ 5250)) ∧
    (∃ (s : State), (s.sys.supplyWait = true ∧ 5 * secTicks ≤ s.since s.sys.supplySince ∧ s.sys.mode = .fill ∧ s.sys.powerLoss = none ∧ s.sys.chipResetBy = none ∧ s.sys.limitedPending = none)) ∧
    (∃ (raw : Nat) (s : State), (s.sys.dram = .running)) ∧
    (∃ (mask : BitVec 4) (raw : Nat) (s : State), (s.sys.dram = .running ∧ mask ≠ 0 ∧ s.sys.mode = .fill ∧ s.sys.powerLoss = none ∧ s.sys.chipResetBy = none ∧ s.sys.limitedPending = none)) ∧
    (∃ (ms : Nat) (s : State), (s.sys.dram = .trained ∧ s.sys.dramFilled = false)) ∧
    (∃ (s : State), (s.sys.coreReleased = false ∧ s.sys.dramFilled = true ∧ s.fillsDone = true ∧ s.domOn 2 = true)) ∧
    (∃ (good : BitVec 3) (s : State), (s.sys.coreReleased = true ∧ s.sys.imageSlot = none ∧ s.sys.bootFailed = false ∧ s.nvme.activeSlot = 2 ∧ good.getLsbD 1 = false ∧ good.getLsbD 2 = true)) ∧
    (∃ (s : State), (s.sys.coreReleased = true ∧ s.sys.imageSlot = none ∧ s.sys.bootFailed = false)) ∧
    (∃ (heads : List Nat) (areas : List (Fin 4 × Nat × Nat)) (k : BitVec 2) (s : State), (s.sys.imageSlot = some k.toFin ∧ s.sys.resident = false ∧ s.sys.hostConfigured = true ∧ s.sys.limitedPending = none ∧ s.sys.shutWaiting = none)) ∧
    (∃ (s : State), (s.sys.imageSlot ≠ none ∧ s.sys.hostConfigured = false ∧ s.ports.perst = false)) :=
  ⟨⟨11400, 5250, (State.reset.onSys fun y => { y with supplyWait := true }).onFab fun f => { f with chipTime := 1000000000000 }, by decide⟩,
   ⟨(State.reset.onSys fun y => { y with supplyWait := true }).onFab fun f => { f with chipTime := 1000000000000 }, by decide⟩,
   ⟨16, State.reset.onSys fun y => { y with dram := .running }, by decide⟩,
   ⟨5, 0, State.reset.onSys fun y => { y with dram := .running }, by decide⟩,
   ⟨1, State.reset.onSys fun y => { y with dram := .trained }, by decide⟩,
   ⟨(State.reset.onSys fun y => { y with dramFilled := true }).onDom 2 fun x => { x with state := .on }, by decide⟩,
   ⟨5, (State.reset.onSys fun y => { y with coreReleased := true }).onNvme fun v => { v with activeSlot := 2 }, by decide⟩,
   ⟨State.reset.onSys fun y => { y with coreReleased := true }, by decide⟩,
   ⟨[2, 2], [], 1, State.reset.onSys fun y => { y with imageSlot := some 1, hostConfigured := true }, by decide⟩,
   ⟨(State.reset.onSys fun y => { y with imageSlot := some 1 }).onPorts fun p => { p with perst := false }, by decide⟩⟩

/-- The hypotheses of `Obligations.OrientationLoadsRestoresAndCalibrates` can be met. -/
theorem test_orientation_loads_restores_and_calibrates_hyps :
    (∃ (s : State), (s.sys.mode = .orientation ∧ s.atRated = true ∧ s.sys.powerLoss = none ∧ s.sys.entry = none ∧ s.sys.shutStage = none ∧ (∀ a, (s.act a).isl.load = .parked) ∧ s.domOn 20 = true ∧ s.unsafeAct 0 = false ∧ (s.act 0).isl.notice.rate ≠ 0xFFFF)) ∧
    (∃ (a : Fin 4) (temps : List Int) (s : State), (s.guestRuns a = true ∧ s.sys.mode = .limited)) ∧
    (∃ (a : Fin 4) (s : State), (s.guestRuns a = true ∧ s.sys.mode = .orientation ∧ s.sys.powerLoss = none ∧ s.sys.chipResetBy = none)) ∧
    (∃ (a : Fin 4) (s : State), (s.sys.mode = .orientation ∧ s.usable a = true ∧ actIn s.sys.calReported a = false ∧ s.p0200CalLimit * secTicks ≤ s.since (s.act a).isl.loadedAt ∧ s.sys.powerLoss = none ∧ s.sys.chipResetBy = none)) ∧
    (∃ (a : Fin 4) (s : State), (s.sys.mode = .limited ∧ s.limitedNoLoad = false ∧ s.atRated = true ∧ s.motionBusy = false ∧ s.sys.shutStage = none ∧ s.sys.shutState = .none ∧ s.present a = true ∧ (s.act a).isl.load = .parked ∧ s.domOn (20 + a.val) = true ∧ s.unsafeAct a = false ∧ (s.act a).isl.notice.rate ≠ 0xFFFF)) ∧
    (∃ (a : Fin 4) (ms : Nat) (s : State), (s.sys.mode = .orientation ∧ s.sys.mapRestored = false ∧ s.sys.restoreFailed = false ∧ s.sys.loadOrder = [a] ∧ s.plc.copies.get a = SysCopy.reset)) ∧
    (∃ (a : Fin 4) (ms : Nat) (r : YbRec) (s : State), (s.sys.mode = .orientation ∧ s.sys.mapRestored = false ∧ s.sys.restoreFailed = false ∧ s.sys.loadOrder = [a] ∧ s.plc.copies.get a = SysCopy.reset ∧ s.present a = true ∧ s.yb.failed = [r] ∧ s.yb.recs = [] ∧ s.yb.firstSeq ≤ r.seq ∧ r.seq.toNat / 64 * 64 ∈ s.yb.mirrored.get a)) :=
  ⟨⟨(((State.reset.onSys fun y => { y with mode := .orientation }).onSpn fun p => { p with state := .run, speed := 115200 }).onDom 20 fun x => { x with state := .on }).onIsl 0 fun i => { i with notice := { i.notice with rate := 0 } }, by decide⟩,
   ⟨1, [], ((State.reset.onIdent fun i => { i with tier := .b }).onSys fun y => { y with mode := .limited }).onDom 21 fun x => { x with state := .on }, by decide⟩,
   ⟨1, ((State.reset.onIdent fun i => { i with tier := .b }).onSys fun y => { y with mode := .orientation }).onDom 21 fun x => { x with state := .on }, by decide⟩,
   ⟨0, ((State.reset.onSys fun y => { y with mode := .orientation }).onAct 0 fun x => { x with isl := { x.isl with load := .loaded }, psc := { x.psc with declaredDown := false, badVersion := false } }).onFab fun f => { f with chipTime := 1000000000000 }, by decide⟩,
   ⟨1, (((State.reset.onSys fun y => { y with mode := .limited, limitedCause := 0x300 }).onSpn fun p => { p with state := .run, speed := 115200 }).onDom 21 fun x => { x with state := .on }).onIsl 1 fun i => { i with notice := { i.notice with rate := 0 } }, by decide⟩,
   ⟨0, 10, State.reset.onSys fun y => { y with mode := .orientation, loadOrder := [0] }, by decide⟩,
   ⟨0, 10, { seq := 70, pot := 0, wall := 0, ty := 0x8001, len := 0, flags := 0, payload := [], slot := some 3, queuedAt := 0 }, (State.reset.onSys fun y => { y with mode := .orientation, loadOrder := [0] }).onYb fun y => { y with failed := [{ seq := 70, pot := 0, wall := 0, ty := 0x8001, len := 0, flags := 0, payload := [], slot := some 3, queuedAt := 0 }], mirrored := y.mirrored.set 0 [64] }, by decide⟩⟩

/-- The hypotheses of `Obligations.PowerStatesAreEnteredAndLeft` can be met. -/
theorem test_power_states_are_entered_and_left_hyps :
    (∃ (s : State), (s.entryDue = true ∧ s.sys.returnArmed = false ∧ s.sys.mode = .service ∧ s.target = .recess ∧ s.journalClean = true ∧ s.plc.groups = [] ∧ (∀ a, (s.act a).isl.load = .parked))) ∧
    (∃ (s : State), (s.entryDue = true ∧ s.sys.returnArmed = true ∧ s.p0200ReturnIdle * msTicks ≤ s.since s.sys.mediaAt ∧ s.sys.mode = .service ∧ s.target = .recess ∧ s.journalClean = true ∧ s.plc.groups = [] ∧ (∀ a, (s.act a).isl.load = .parked))) ∧
    (∃ (s : State), (s.sys.entry = some { target := .recess, stage := .unloading, cutShort := false } ∧ s.allParked = true ∧ 3600 ≤ s.p0200RecessRpm ∧ s.p0200RecessRpm ≤ 7500)) ∧
    (∃ (s : State), (s.sys.entry = some { target := .recess, stage := .slewing, cutShort := false } ∧ s.spn.reference = spd16 s.spn.target.toNat)) ∧
    (∃ (temps : List (Fin 4 × List Int)) (s : State), (s.exitDue = true ∧ s.sys.mode = .recess ∧ 3600 ≤ s.p2010RatedRpm ∧ s.p2010RatedRpm ≤ 7500 ∧ s.cruiseOff = true)) ∧
    (∃ (a : Fin 4) (s : State), (s.sys.exiting = true ∧ 16 * 4800 ≤ s.spn.speed.toNat ∧ s.motionBusy = false ∧ s.present a = true ∧ (s.act a).isl.load = .parked ∧ s.domOn (20 + a.val) = true ∧ s.unsafeAct a = false ∧ (s.act a).isl.notice.rate ≠ 0xFFFF)) ∧
    (∃ (m : Mode) (b : BitVec 64) (s : State), (s.transition = some (m, b) ∧ 5 * secTicks ≤ s.since b)) :=
  ⟨⟨State.reset.onSys fun y => { y with mode := .service, hostTarget := .recess }, by decide⟩,
   ⟨(State.reset.onSys fun y => { y with mode := .service, hostTarget := .recess, returnArmed := true }).onFab fun f => { f with chipTime := 1000000000000 }, by decide⟩,
   ⟨State.reset.onSys fun y => { y with mode := .service, entry := some { target := .recess, stage := .unloading, cutShort := false } }, by decide⟩,
   ⟨(State.reset.onSys fun y => { y with mode := .service, entry := some { target := .recess, stage := .slewing, cutShort := false } }).onSpn fun p => { p with target := 57600, reference := spd16 57600 }, by decide⟩,
   ⟨[], (State.reset.onSys fun y => { y with mode := .recess, wakeReq := true }).odSet 0x204001 0, by decide⟩,
   ⟨0, (((State.reset.onSys fun y => { y with exiting := true }).onSpn fun p => { p with speed := 76800 }).onDom 20 fun x => { x with state := .on }).onIsl 0 fun i => { i with notice := { i.notice with rate := 0 } }, by decide⟩,
   ⟨.service, 0, (State.reset.onSys fun y => { y with exiting := true }).onFab fun f => { f with chipTime := 1000000000000 }, by decide⟩⟩

/-- The hypotheses of `Obligations.ShutdownResetAndPowerLossTakeTheirSteps` can be met. -/
theorem test_shutdown_reset_and_power_loss_take_their_steps_hyps :
    (∃ (ctrl : Fin 2) (s : State), (s.sys.mode = .service ∧ s.sys.powerLoss = none ∧ s.sys.shutStage = none ∧ s.nvme.cmds = [] ∧ s.dirtyPages = 0 ∧ s.journalClean = true ∧ s.plc.sinceCkpt = 0 ∧ s.sys.chipResetBy = none ∧ (∀ a, (s.act a).isl.load = .parked))) ∧
    (∃ (ctrl : Fin 2) (s : State), (s.sys.mode = .service ∧ s.sys.powerLoss = none ∧ s.sys.shutStage = none ∧ s.nvme.cmds = [] ∧ s.journalClean = true ∧ s.sys.chipResetBy = none ∧ (∀ a, (s.act a).isl.load = .parked))) ∧
    (∃ (s : State), (s.sys.shutStage = some .braking ∧ s.sys.shutKind = some .normal ∧ s.sys.mode = .service ∧ s.allParked = true ∧ s.spn.state = .off ∧ s.scr.state ≠ .running)) ∧
    (∃ (s : State), (s.sys.chipResetBy ≠ none ∧ s.sys.shutStage = none ∧ s.sys.powerLoss = none ∧ (s.allParked = true ∨ 300 * msTicks ≤ s.since s.sys.resetAt))) ∧
    (∃ (cause : PlCause) (s : State), (s.sys.powerLoss = none ∧ cause ≠ .pwrdis ∧ s.plHolds cause = true)) ∧
    (∃ (a : Fin 4) (p : PowerLoss) (s : State), (s.sys.powerLoss = some p ∧ actIn p.toRetract a = true ∧ actIn p.retracting a = false ∧ 20 * usTicks + a.val * msTicks ≤ s.since p.since ∧ (s.act a).isl.load = .loaded)) ∧
    (∃ (ms : Nat) (p : PowerLoss) (s : State), (s.sys.powerLoss = some p ∧ p.toRetract = 0 ∧ p.done = false ∧ p.nor = false ∧ s.spn.state = .syncRect)) ∧
    (∃ (ok : Bool) (p : PowerLoss) (s : State), (s.sys.powerLoss = some p ∧ p.toRetract ≠ 0 ∧ s.sys.retract = false)) ∧
    (∃ (p : PowerLoss) (s : State), (s.sys.powerLoss = some p ∧ p.done = true ∧ 10 * msTicks ≤ s.since p.since)) :=
  ⟨⟨0, State.reset.onSys fun y => { y with mode := .service }, by decide⟩,
   ⟨1, State.reset.onSys fun y => { y with mode := .service }, by decide⟩,
   ⟨State.reset.onSys fun y => { y with mode := .service, shutStage := some .braking, shutKind := some .normal }, by decide⟩,
   ⟨State.reset.onSys fun y => { y with chipResetBy := some 0 }, by decide⟩,
   ⟨.v12 10199, State.reset, by decide⟩,
   ⟨0, { cause := 0, retracting := 0, toRetract := 1, done := false, since := 0, nor := true }, ((State.reset.onSys fun y => { y with powerLoss := some { cause := 0, retracting := 0, toRetract := 1, done := false, since := 0, nor := true } }).onIsl 0 fun i => { i with load := .loaded }).onFab fun f => { f with chipTime := 1000000000000 }, by decide⟩,
   ⟨50, { cause := 0, retracting := 1, toRetract := 0, done := false, since := 0, nor := false }, (State.reset.onSys fun y => { y with powerLoss := some { cause := 0, retracting := 1, toRetract := 0, done := false, since := 0, nor := false } }).onSpn fun p => { p with state := .syncRect }, by decide⟩,
   ⟨false, { cause := 0, retracting := 1, toRetract := 1, done := false, since := 0, nor := true }, State.reset.onSys fun y => { y with powerLoss := some { cause := 0, retracting := 1, toRetract := 1, done := false, since := 0, nor := true } }, by decide⟩,
   ⟨{ cause := 0, retracting := 1, toRetract := 0, done := true, since := 0, nor := true }, (State.reset.onSys fun y => { y with powerLoss := some { cause := 0, retracting := 1, toRetract := 0, done := true, since := 0, nor := true } }).onFab fun f => { f with chipTime := 1000000000000 }, by decide⟩⟩

/-- The hypotheses of `Obligations.BuythFramesAreCheckedBeforeTheyAreServed` can be met. -/
theorem test_buyth_frames_are_checked_before_they_are_served_hyps :
    (∃ (f : Frame) (r : Req) (s : State), (Accepted 1 f r s ∧ r.keys = [{ index := 3, sub := 1 }])) ∧
    (∃ (f : Frame) (s : State), (s.isSilenced f.sender = true ∧ f.sender.transport ≠ 2)) ∧
    (∃ (f : Frame) (s : State), (s.frameReaches f = true ∧ s.isSilenced f.sender = false ∧ s.frameForUs f = false ∧ f.sender.transport ≠ 2 ∧ ((s.reqOf f).all fun r => r.op == 1) = true)) ∧
    (∃ (f : Frame) (s : State), (s.frameReaches f = true ∧ s.isSilenced f.sender = false ∧ s.frameForUs f = true ∧ s.reqOf f = none)) ∧
    (∃ (f : Frame) (r : Req) (s : State), (s.frameReaches f = true ∧ s.isSilenced f.sender = false ∧ s.frameForUs f = true ∧ s.reqOf f = some r ∧ r.op = 2 ∧ f.link.broadcast = false ∧ s.counterNew f.session f.counter = false ∧ s.dict.failMinute.toNat = s.ticks / (60 * secTicks) ∧ s.dict.failAnswers < 64)) ∧
    (∃ (f : Frame) (r : Req) (s : State), (Accepted 2 { f with queued := 0 } r s ∧ s.reqOf f = some r ∧ 16 ≤ f.queued)) ∧
    (∃ (f : Frame) (r : Req) (s : State), (Accepted r.op f r s ∧ (r.op = 0 ∨ 0x0B < r.op) ∧ f.link.broadcast = false)) :=
  ⟨⟨tReq 3 [1, 0, 1, 0, 3, 0, 1, 0, 0, 0], { op := 1, items := [{ key := { index := 3, sub := 1 }, ty := 0, bytes := [] }] }, tState, tAccepted (by decide +kernel) rfl (by decide +kernel) (by decide +kernel) (by decide +kernel), by decide⟩,
   ⟨{ link := .i3c 9 0 0, bytes := [], queued := 0, guests := 0 }, tState.onDict fun d => { d with silenced := [{ sender := .i3c 9, since := 0 }] }, by decide⟩,
   ⟨{ link := .t1s 1 0 0x88B5 true, bytes := [], queued := 0, guests := 0 }, tState, by decide⟩,
   ⟨{ link := .t1s 1 0 0x88B5 false, bytes := [1, 3, 2, 0, 0, 0x10] ++ List.replicate 22 0, queued := 0, guests := 0 }, tState, by decide⟩,
   ⟨tReq 3 [2, 0, 0, 0], { op := 2, items := [] }, tState.onDict fun d => { d with bootCount := 1 }, by decide +kernel, by decide +kernel, by decide +kernel, tReqOf (by decide +kernel) (by decide +kernel) (by decide +kernel), rfl, by decide, by decide +kernel, by decide +kernel, by decide⟩,
   ⟨{ tReq 3 [2, 0, 0, 0] with queued := 16 }, { op := 2, items := [] }, tState, (fun h => ⟨h, h.2.2.2.1, by decide⟩) (tAccepted (role := 3) (mac := 0) (dst := 0x1000) (b := [2, 0, 0, 0]) (by decide +kernel) rfl (by decide +kernel) (by decide +kernel) (by decide +kernel))⟩,
   ⟨tReq 3 [0x0C, 0, 0, 0], { op := 12, items := [] }, tState, tAccepted (by decide +kernel) rfl (by decide +kernel) (by decide +kernel) (by decide +kernel), by decide, by decide⟩⟩

/-- The hypotheses of `Obligations.DictionaryReadsAndListings` can be met. -/
theorem test_dictionary_reads_and_listings_hyps :
    (∃ (f : Frame) (r : Req) (k : ObjKey) (e : BitVec 8) (s : State), (Accepted 1 f r s ∧ r.keys = [k] ∧ failure (s.objInfo k) = some e)) ∧
    (∃ (f : Frame) (r : Req) (k : ObjKey) (x : ObjInfo) (v : OdVal) (s : State), (Accepted 1 f r s ∧ r.keys = [k] ∧ (s.objInfo k).toOption = some x ∧ x.acc = .const ∧ x.role = 1 ∧ f.role ≠ 0 ∧ x.guest = none ∧ s.objValue f.session k x = some v ∧ odSize (BitVec.ofNat 8 x.ty) v ≤ 1444)) ∧
    (∃ (f : Frame) (r : Req) (k : ObjKey) (x : ObjInfo) (b : List Byte) (o n : Nat) (s : State), (Accepted 0x0B f r s ∧ r.span = some (k, o, n) ∧ (s.objInfo k).toOption = some x ∧ x.acc = .const ∧ x.role = 1 ∧ f.role ≠ 0 ∧ x.guest = none ∧ s.objValue f.session k x = some (.oct b) ∧ n ≤ 1024)) ∧
    (∃ (f : Frame) (r : Req) (k : ObjKey) (x : ObjInfo) (s : State), (Accepted 9 f r s ∧ r.keys = [k] ∧ (s.objInfo k).toOption = some x ∧ (x.dflt.all fun v => decide (odSize (BitVec.ofNat 8 x.ty) v ≤ 1440)) = true)) ∧
    (∃ (f : Frame) (r : Req) (s : State), (Accepted 8 f r s ∧ (r.listing.2 = 0 ∨ 200 < r.listing.2))) ∧
    (∃ (f : Frame) (r : Req) (s : State), (Accepted 8 f r s ∧ 1 ≤ r.listing.2 ∧ r.listing.2 ≤ 200)) ∧
    (∃ (f : Frame) (r : Req) (s : State), (Accepted 0x0A f r s ∧ f.link.broadcast = false)) ∧
    (∃ (f : Frame) (r : Req) (s : State), (Accepted 0x0A f r s ∧ f.link.broadcast = true ∧ s.dict.held = none)) ∧
    (∃ (b : BitVec 64) (r : Resp) (l : List (BitVec 64 × Resp)) (s : State), (s.dict.broadcasts = (b, r) :: l ∧ s.p0300NodeId % 64 * msTicks ≤ s.since b)) :=
  ⟨⟨tReq 3 [1, 0, 1, 0, 1, 0, 9, 0, 0, 0], { op := 1, items := [{ key := { index := 1, sub := 9 }, ty := 0, bytes := [] }] }, { index := 1, sub := 9 }, 2, tState, tAccepted (by decide +kernel) rfl (by decide +kernel) (by decide +kernel) (by decide +kernel), by decide, by decide⟩,
   ⟨tReq 3 [1, 0, 1, 0, 4, 0, 1, 0, 0, 0], { op := 1, items := [{ key := { index := 4, sub := 1 }, ty := 0, bytes := [] }] }, { index := 4, sub := 1 }, constInfo 3 (.num 4), .num 4, tState, tAccepted (by decide +kernel) rfl (by decide +kernel) (by decide +kernel) (by decide +kernel), by decide, by decide, rfl, rfl, by decide +kernel, rfl, by decide +kernel, by decide⟩,
   ⟨tReq 3 [0x0B, 0, 1, 0, 4, 0, 2, 0, 4, 0, 1, 0, 0, 4], { op := 11, items := [{ key := { index := 4, sub := 2 }, ty := 0, bytes := [1, 0, 0, 4] }] }, { index := 4, sub := 2 }, constInfo 12 (.oct (asciiBytes "U32")), asciiBytes "U32", 1, 1024, tState, tAccepted (by decide +kernel) rfl (by decide +kernel) (by decide +kernel) (by decide +kernel), by decide, by decide, rfl, rfl, by decide +kernel, rfl, by decide +kernel, by decide⟩,
   ⟨tReq 3 [9, 0, 1, 0, 4, 0, 1, 0, 0, 0], { op := 9, items := [{ key := { index := 4, sub := 1 }, ty := 0, bytes := [] }] }, { index := 4, sub := 1 }, constInfo 3 (.num 4), tState, tAccepted (by decide +kernel) rfl (by decide +kernel) (by decide +kernel) (by decide +kernel), by decide, by decide, by decide⟩,
   ⟨tReq 3 [8, 0, 1, 0, 0, 0, 0, 0, 1, 0, 201], { op := 8, items := [{ key := { index := 0, sub := 0 }, ty := 0, bytes := [201] }] }, tState, tAccepted (by decide +kernel) rfl (by decide +kernel) (by decide +kernel) (by decide +kernel), by decide⟩,
   ⟨tReq 3 [8, 0, 1, 0, 0, 0, 0, 0, 1, 0, 200], { op := 8, items := [{ key := { index := 0, sub := 0 }, ty := 0, bytes := [200] }] }, tState, tAccepted (by decide +kernel) rfl (by decide +kernel) (by decide +kernel) (by decide +kernel), by decide, by decide⟩,
   ⟨tReq 3 [0x0A, 0, 0, 0], { op := 10, items := [] }, tState, tAccepted (by decide +kernel) rfl (by decide +kernel) (by decide +kernel) (by decide +kernel), rfl⟩,
   ⟨tFrame 1 0xFFFFFFFFFFFF 0xFFFF [0x0A, 0, 0, 0], { op := 10, items := [] }, tState, tAccepted (by decide +kernel) rfl (by decide +kernel) (by decide +kernel) (by decide +kernel), rfl, rfl⟩,
   ⟨0, tState.resp (tReq 3 [1, 0, 0, 0]) 0x0A 0 [] [], [], tState.onDict fun d => { d with broadcasts := [(0, tState.resp (tReq 3 [1, 0, 0, 0]) 0x0A 0 [] [])] }, by decide⟩⟩

/-- The hypotheses of `Obligations.DictionaryWritesStagesAndSaves` can be met. -/
theorem test_dictionary_writes_stages_and_saves_hyps :
    (∃ (f : Frame) (r : Req) (w : WriteItem) (e : BitVec 8) (s : State), (Accepted 2 f r s ∧ r.items = [w] ∧ failure (s.itemStatus (s.probe [w]) f.role w) = some e)) ∧
    (∃ (f : Frame) (r : Req) (w : WriteItem) (s : State), (Accepted 2 f r s ∧ r.items = [w] ∧ w.key = { index := 0x0200, sub := 4 } ∧ w.ty = 4 ∧ w.bytes.length = 4 ∧ 2 ≤ f.role.toNat ∧ 100 ≤ leNat w.bytes ∧ leNat w.bytes ≤ 3600000)) ∧
    (∃ (f : Frame) (r : Req) (w : WriteItem) (x : ObjInfo) (s : State), (Accepted 3 f r s ∧ r.items = [w] ∧ s.stagedOf f.session = [] ∧ (s.itemStatus (s.probe [w]) f.role w).toOption = some x ∧ w.bytes.length ≤ 1024)) ∧
    (∃ (f : Frame) (r : Req) (s : State), (Accepted 5 f r s)) ∧
    (∃ (x : SessionId) (y : Session) (s : State), ((s.dict.sessions.find? fun z => decide (z.sid = x)) = some y ∧ 30 * secTicks ≤ s.since y.lastUse)) ∧
    (∃ (f : Frame) (r : Req) (s : State), (Accepted 4 f r s ∧ s.stagedOf f.session = [])) ∧
    (∃ (f : Frame) (r : Req) (w : WriteItem) (e : BitVec 8) (s : State), (Accepted 4 f r s ∧ s.stagedOf f.session = [w] ∧ failure (s.itemStatus (s.probe [w]) f.role w) = some e ∧ e ≠ 0 ∧ ((s.objInfo w.key).toOption.any fun x => x.guest.isSome) = false)) ∧
    (∃ (f : Frame) (r : Req) (s : State), (Accepted 6 f r s ∧ s.dict.saving.isSome = true)) ∧
    (∃ (f : Frame) (r : Req) (s : State), (Accepted 6 f r s ∧ s.dict.saving = none)) ∧
    (∃ (r : SaveRun) (s : State), (s.dict.saving = some r ∧ r.want = { answer := none, cmd := none, more := 0 } ∧ s.dict.saveNext = [])) ∧
    (∃ (r : SaveRun) (a : Resp) (s : State), (s.dict.saving = some r ∧ r.want = { answer := some a, cmd := none, more := 0 } ∧ s.dict.saveNext = [])) ∧
    (∃ (f : Frame) (r : Req) (a b : ObjKey) (s : State), (Accepted 7 f r s ∧ r.keys = [a, b] ∧ f.role.toNat < 2)) ∧
    (∃ (f : Frame) (r : Req) (i j : ObjKey) (s : State), (Accepted 7 f r s ∧ r.keys = [i, j] ∧ j.index = i.index ∧ 2 ≤ f.role.toNat ∧ s.dict.guestObjs = [] ∧ 1 ≤ i.index.toNat ∧ i.index.toNat ≤ 13)) :=
  ⟨⟨tReq 3 [2, 0, 1, 0, 4, 0, 1, 3, 2, 0, 1, 0], { op := 2, items := [{ key := { index := 4, sub := 1 }, ty := 3, bytes := [1, 0] }] }, { key := { index := 4, sub := 1 }, ty := 3, bytes := [1, 0] }, 4, tState, tAccepted (by decide +kernel) rfl (by decide +kernel) (by decide +kernel) (by decide +kernel), rfl, by decide +kernel⟩,
   ⟨tReq 3 [2, 0, 1, 0, 0, 2, 4, 4, 4, 0, 100, 0, 0, 0], { op := 2, items := [{ key := { index := 0x0200, sub := 4 }, ty := 4, bytes := [100, 0, 0, 0] }] }, { key := { index := 0x0200, sub := 4 }, ty := 4, bytes := [100, 0, 0, 0] }, tState, tAccepted (by decide +kernel) rfl (by decide +kernel) (by decide +kernel) (by decide +kernel), rfl, by decide, by decide, by decide, by decide +kernel, by decide, by decide⟩,
   ⟨tReq 3 [3, 0, 1, 0, 0, 2, 4, 4, 4, 0, 100, 0, 0, 0], { op := 3, items := [{ key := { index := 0x0200, sub := 4 }, ty := 4, bytes := [100, 0, 0, 0] }] }, { key := { index := 0x0200, sub := 4 }, ty := 4, bytes := [100, 0, 0, 0] }, { ty := 4, acc := .rw, role := 2, saved := true, dflt := some (.num 5000), row := (odRow? 0x0200 4), guest := none }, tState, tAccepted (by decide +kernel) rfl (by decide +kernel) (by decide +kernel) (by decide +kernel), rfl, by decide +kernel, by decide +kernel, by decide⟩,
   ⟨tReq 3 [5, 0, 0, 0], { op := 5, items := [] }, tState, tAccepted (by decide +kernel) rfl (by decide +kernel) (by decide +kernel) (by decide +kernel)⟩,
   ⟨{ sender := .nvme 0, role := 3 }, { sid := { sender := .nvme 0, role := 3 }, staged := [{ key := { index := 0x0200, sub := 4 }, ty := 4, bytes := [100, 0, 0, 0] }], lastUse := 0 }, (tState.onDict fun d => { d with sessions := [{ sid := { sender := .nvme 0, role := 3 }, staged := [{ key := { index := 0x0200, sub := 4 }, ty := 4, bytes := [100, 0, 0, 0] }], lastUse := 0 }] }).onFab fun f => { f with chipTime := 1000000000000 }, by decide⟩,
   ⟨tReq 3 [4, 0, 0, 0], { op := 4, items := [] }, tState, tAccepted (by decide +kernel) rfl (by decide +kernel) (by decide +kernel) (by decide +kernel), by decide +kernel⟩,
   ⟨tReq 3 [4, 0, 0, 0], { op := 4, items := [] }, { key := { index := 4, sub := 1 }, ty := 3, bytes := [1, 0] }, 4, tState.onDict fun d => { d with sessions := [{ sid := { sender := .t1s 1 2, role := 3 }, staged := [{ key := { index := 4, sub := 1 }, ty := 3, bytes := [1, 0] }], lastUse := 0 }] }, tAccepted (by decide +kernel) rfl (by decide +kernel) (by decide +kernel) (by decide +kernel), by decide +kernel, by decide +kernel, by decide, by decide⟩,
   ⟨tReq 3 [6, 0, 0, 0], { op := 6, items := [] }, tState.onDict fun d => { d with saving := some { want := { answer := none, cmd := none, more := 0 }, copy := d.copy0 } }, tAccepted (by decide +kernel) rfl (by decide +kernel) (by decide +kernel) (by decide +kernel), rfl⟩,
   ⟨tReq 3 [6, 0, 0, 0], { op := 6, items := [] }, tState, tAccepted (by decide +kernel) rfl (by decide +kernel) (by decide +kernel) (by decide +kernel), rfl⟩,
   ⟨{ want := { answer := none, cmd := none, more := 0 }, copy := State.reset.dict.copy0 }, tState.onDict fun d => { d with saving := some { want := { answer := none, cmd := none, more := 0 }, copy := State.reset.dict.copy0 } }, by decide⟩,
   ⟨{ want := { answer := some (tState.resp (tReq 3 [1, 0, 0, 0]) 6 0 [] []), cmd := none, more := 0 }, copy := State.reset.dict.copy0 }, tState.resp (tReq 3 [1, 0, 0, 0]) 6 0 [] [], tState.onDict fun d => { d with saving := some { want := { answer := some (tState.resp (tReq 3 [1, 0, 0, 0]) 6 0 [] []), cmd := none, more := 0 }, copy := State.reset.dict.copy0 } }, by decide⟩,
   ⟨tReq 1 [7, 0, 2, 0, 0, 0, 0, 0, 0, 0, 0xFF, 0xFF, 0, 0, 0, 0], { op := 7, items := [{ key := { index := 0, sub := 0 }, ty := 0, bytes := [] }, { key := { index := 0xFFFF, sub := 0 }, ty := 0, bytes := [] }] }, { index := 0, sub := 0 }, { index := 0xFFFF, sub := 0 }, tState, tAccepted (by decide +kernel) rfl (by decide +kernel) (by decide +kernel) (by decide +kernel), rfl, by decide +kernel⟩,
   ⟨tReq 3 [7, 0, 2, 0, 5, 0, 0, 0, 0, 0, 5, 0, 0, 0, 0, 0], { op := 7, items := [{ key := { index := 5, sub := 0 }, ty := 0, bytes := [] }, { key := { index := 5, sub := 0 }, ty := 0, bytes := [] }] }, { index := 5, sub := 0 }, { index := 5, sub := 0 }, tState, tAccepted (by decide +kernel) rfl (by decide +kernel) (by decide +kernel) (by decide +kernel), rfl, rfl, by decide +kernel, rfl, by decide, by decide⟩⟩

/-- The hypotheses of `Obligations.BuythCarriageTimersAndGuests` can be met. -/
theorem test_buyth_carriage_timers_and_guests_hyps :
    (∃ (h : NvmeHdr) (frame : List Byte) (s : State), (s.fetchOk h true = true ∧ FreshNumbers s ∧ (s.dict.nvmeWaiting.countP fun w => decide (w.1 = h.ctrl)) < 16)) ∧
    (∃ (h : NvmeHdr) (frame : List Byte) (s : State), (s.fetchOk h true = true ∧ FreshNumbers s ∧ 16 ≤ (s.dict.nvmeWaiting.countP fun w => decide (w.1 = h.ctrl)))) ∧
    (∃ (h : NvmeHdr) (tag : BitVec 32) (len : Nat) (s : State), (s.fetchOk h true = true ∧ FreshNumbers s ∧ s.dict.responses = [])) ∧
    (∃ (h : NvmeHdr) (r : Resp) (len : Nat) (s : State), (s.fetchOk h true = true ∧ FreshNumbers s ∧ s.dict.responses = [r] ∧ r.sender = .nvme h.ctrl)) ∧
    (∃ (c : Fin 2) (tag : BitVec 32) (k : Cmd) (n : Nat) (b : BitVec 64) (s : State), (s.nvme.cmds = [k] ∧ k.ctrl = c ∧ k.need = .buyth tag n b ∧ 3500 * msTicks ≤ s.since b)) ∧
    (∃ (x : Sender) (y : Silence) (s : State), (s.dict.silenced = [y] ∧ y.sender = x ∧ 60 * secTicks ≤ s.since y.since)) ∧
    (∃ (s : State), (s.sys.coreReleased = true ∧ s.domOn 30 = true ∧ bitOf s.p0300Transports 1 = true)) ∧
    (∃ (a : Fin 4) (r : Resp) (b : BitVec 64) (s : State), (s.dict.held = some { since := b, acts := [a], resp := r } ∧ 10 * msTicks ≤ s.since b)) ∧
    (∃ (up beacon dup phy : Bool) (s : State), (s.sys.coreReleased = true ∧ s.domOn 30 = true ∧ s.dict.linkState.getLsbD 1 = false)) ∧
    (∃ (up : Bool) (s : State), (s.sys.coreReleased = true ∧ s.domOn 30 = true ∧ s.dict.linkState.getLsbD 1 = true)) ∧
    (∃ (x : DaaInputs) (s : State), (s.sys.coreReleased = true ∧ s.domOn 30 = true ∧ bitOf s.p0300Transports 1 = true ∧ x.busFault = false ∧ x.pid.toNat = 0xA00 + s.ident.straps.toNat % 64 ∧ x.eid ≠ 0)) ∧
    (∃ (x : DaaInputs) (s : State), (s.sys.coreReleased = true ∧ s.domOn 30 = true ∧ bitOf s.p0300Transports 1 = true ∧ x.busFault = true)) ∧
    (∃ (a : Fin 4) (o : GuestObj) (s : State), (s.guestRuns a = true ∧ inGuestRange a o.key.index.toNat = true ∧ o.key.sub ≠ 0)) :=
  ⟨⟨{ ctrl := 0, sqid := 0, cid := 5 }, [1], (((((State.reset.onPorts fun p => { p with perst := false }).onSys fun y => { y with hostConfigured := true }).onDom 12 fun x => { x with state := .on }).onPort 0 fun p => { p with up := true, l12 := false }).onCtrl 0 fun c => { c with en := true, rdy := true, fetchStopped := false, sqs := [{ id := 0, size := 32, cqid := 0, prio := 0, tail := 1, head := 0 }], cqs := [{ id := 0, size := 32, vector := 0, tail := 0, head := 0 }] }), by decide⟩,
   ⟨{ ctrl := 0, sqid := 0, cid := 5 }, [1], ((((((State.reset.onPorts fun p => { p with perst := false }).onSys fun y => { y with hostConfigured := true }).onDom 12 fun x => { x with state := .on }).onPort 0 fun p => { p with up := true, l12 := false }).onCtrl 0 fun c => { c with en := true, rdy := true, fetchStopped := false, sqs := [{ id := 0, size := 32, cqid := 0, prio := 0, tail := 1, head := 0 }], cqs := [{ id := 0, size := 32, vector := 0, tail := 0, head := 0 }] })).onDict fun d => { d with nvmeWaiting := List.replicate 16 (0, []) }, by decide⟩,
   ⟨{ ctrl := 0, sqid := 0, cid := 5 }, 0, 4, (((((State.reset.onPorts fun p => { p with perst := false }).onSys fun y => { y with hostConfigured := true }).onDom 12 fun x => { x with state := .on }).onPort 0 fun p => { p with up := true, l12 := false }).onCtrl 0 fun c => { c with en := true, rdy := true, fetchStopped := false, sqs := [{ id := 0, size := 32, cqid := 0, prio := 0, tail := 1, head := 0 }], cqs := [{ id := 0, size := 32, vector := 0, tail := 0, head := 0 }] }), by decide⟩,
   ⟨{ ctrl := 0, sqid := 0, cid := 5 }, { tState.resp (tReq 3 [1, 0, 0, 0]) 0 0 [] [] with sender := .nvme 0, tagId := 7 }, 4, ((((((State.reset.onPorts fun p => { p with perst := false }).onSys fun y => { y with hostConfigured := true }).onDom 12 fun x => { x with state := .on }).onPort 0 fun p => { p with up := true, l12 := false }).onCtrl 0 fun c => { c with en := true, rdy := true, fetchStopped := false, sqs := [{ id := 0, size := 32, cqid := 0, prio := 0, tail := 1, head := 0 }], cqs := [{ id := 0, size := 32, vector := 0, tail := 0, head := 0 }] })).onDict fun d => { d with responses := [{ tState.resp (tReq 3 [1, 0, 0, 0]) 0 0 [] [] with sender := .nvme 0, tagId := 7 }] }, by decide⟩,
   ⟨0, 0, { n := 1, ctrl := 0, sqid := 0, cid := 0, opcode := 0xC2, admin := true, nsid := 0, lba := 0, nlb := 0, limitedRetry := false, places := [], gen := 0, fua := false, handle := none, due := 0, need := .buyth 0 4 0, status := nvOk, dw0 := 0, lateSeen := false }, 4, 0, (State.reset.onNvme fun v => { v with cmds := [{ n := 1, ctrl := 0, sqid := 0, cid := 0, opcode := 0xC2, admin := true, nsid := 0, lba := 0, nlb := 0, limitedRetry := false, places := [], gen := 0, fua := false, handle := none, due := 0, need := .buyth 0 4 0, status := nvOk, dw0 := 0, lateSeen := false }] }).onFab fun f => { f with chipTime := 1000000000000 }, by decide⟩,
   ⟨.i3c 9, { sender := .i3c 9, since := 0 }, (State.reset.onDict fun d => { d with silenced := [{ sender := .i3c 9, since := 0 }] }).onFab fun f => { f with chipTime := 1000000000000 }, by decide⟩,
   ⟨tState.onDom 30 fun x => { x with state := .on }, by decide⟩,
   ⟨2, tState.resp (tReq 3 [1, 0, 0, 0]) 1 0 [] [], 0, (tState.onDict fun d => { d with held := some { since := 0, acts := [2], resp := tState.resp (tReq 3 [1, 0, 0, 0]) 1 0 [] [] } }).onFab fun f => { f with chipTime := 1000000000000 }, by decide⟩,
   ⟨true, false, true, true, tState.onDom 30 fun x => { x with state := .on }, by decide⟩,
   ⟨true, (tState.onDom 30 fun x => { x with state := .on }).onDict fun d => { d with linkState := 3 }, by decide⟩,
   ⟨{ pid := 0xA00, addr := 0x30, eid := 9, busFault := false }, tState, by decide⟩,
   ⟨{ pid := 0xA00, addr := 0x30, eid := 9, busFault := true }, tState, by decide⟩,
   ⟨1, { key := { index := 0x7400, sub := 1 }, ty := 0, access := 0, saved := false, dflt := none, role := 0, value := .num 0 }, (tState.onIdent fun i => { i with tier := .a }).onDom 21 fun x => { x with state := .on }, by decide⟩⟩

/-- The hypotheses of `Obligations.SpindleStartsAndStops` can be met. -/
theorem test_spindle_starts_and_stops_hyps :
    (∃ (s : State), (s.spn.state = .off ∨ s.spn.state = .lowHold)) ∧
    (∃ (s : State), (s.spn.state = .ramp)) ∧
    (∃ (s : State), (s.spn.state = .run ∧ s.spn.stopReq = false)) ∧
    (∃ (peakMv : Nat) (s : State), (s.spn.state = .restCheck ∧ msTicks ≤ s.since s.spn.enteredAt ∧ peakMv ≤ 20)) ∧
    (∃ (peakMv : Nat) (s : State), (s.spn.state = .restCheck ∧ msTicks ≤ s.since s.spn.enteredAt ∧ 20 < peakMv)) ∧
    (∃ (s : State), (s.spn.state = .align ∧ s.p2010AlignMs * msTicks ≤ s.since s.spn.enteredAt)) ∧
    (∃ (angle : BitVec 16) (s : State), (s.spn.state = .ramp ∧ s.p2010HandoverSteps ≤ s.spn.confident ∧ s.p2010HandoverRpm * rpmUnit ≤ s.spn.openLoop)) ∧
    (∃ (s : State), (s.spn.waiting500 = true ∧ s.spn.state = .coast ∧ 500 * msTicks ≤ s.since s.spn.enteredAt)) ∧
    (∃ (rpm : Nat) (x : CatchFind) (s : State), (s.spn.state = .catching ∧ s.catchTicks rpm ≤ s.since s.spn.enteredAt ∧ s.p2010CatchRpm ≤ rpm ∧ rpm < 2 ^ 31 ∧ x.reverse = false)) ∧
    (∃ (rpm : Nat) (x : CatchFind) (s : State), (s.spn.state = .catching ∧ s.catchTicks rpm ≤ s.since s.spn.enteredAt ∧ rpm < 2 ^ 31 ∧ x.reverse = true)) ∧
    (∃ (s : State), (s.spn.state = .bemfLock ∧ s.p2010HandoverSteps ≤ s.spn.validSteps ∧ s.spn.catchFromRun = false)) ∧
    (∃ (s : State), (s.spn.state = .brake ∧ s.spn.zeroVector = false ∧ s.spn.stopReq = true ∧ s.spn.runReq = false ∧ 200 * msTicks ≤ s.since s.spn.eventAt ∧ s.sys.entry = none ∧ s.sys.shutStage = none)) :=
  ⟨⟨State.reset, by decide⟩,
   ⟨State.reset.onSpn fun p => { p with state := .ramp }, by decide⟩,
   ⟨State.reset.onSpn fun p => { p with state := .run }, by decide⟩,
   ⟨20, (State.reset.onFab fun f => { f with chipTime := 2000000000000 }).onSpn fun p => { p with state := .restCheck }, by decide⟩,
   ⟨21, (State.reset.onFab fun f => { f with chipTime := 2000000000000 }).onSpn fun p => { p with state := .restCheck }, by decide⟩,
   ⟨(State.reset.onFab fun f => { f with chipTime := 2000000000000 }).onSpn fun p => { p with state := .align }, by decide⟩,
   ⟨0x4000, State.reset.onSpn fun p => { p with state := .ramp, confident := 1000, openLoop := 2000 * rpmUnit }, by decide⟩,
   ⟨(State.reset.onFab fun f => { f with chipTime := 2000000000000 }).onSpn fun p => { p with waiting500 := true, state := .coast }, by decide⟩,
   ⟨7200, { reverse := false, angle := 0 }, (State.reset.onFab fun f => { f with chipTime := 2000000000000 }).onSpn fun p => { p with state := .catching }, by decide⟩,
   ⟨0, { reverse := true, angle := 0 }, (State.reset.onFab fun f => { f with chipTime := 2000000000000 }).onSpn fun p => { p with state := .catching }, by decide⟩,
   ⟨State.reset.onSpn fun p => { p with state := .bemfLock, validSteps := 1000 }, by decide⟩,
   ⟨(State.reset.onFab fun f => { f with chipTime := 2000000000000 }).onSpn fun p => { p with state := .brake, stopReq := true }, by decide⟩⟩

/-- The hypotheses of `Obligations.SpindleTargetDtcAndParameterWrites` can be met. -/
theorem test_spindle_target_dtc_and_parameter_writes_hyps :
    (∃ (v : BitVec 32) (s : State), (v.getLsbD 31 = false ∧ 16 * 3600 ≤ fld v.toNat 0 17 ∧ fld v.toNat 0 17 ≤ 16 * 7500)) ∧
    (∃ (v : BitVec 32) (s : State), (fld v.toNat 0 17 < 16 * 3600 ∨ 16 * 7500 < fld v.toNat 0 17)) ∧
    (∃ (dtc : Bool) (s : State), (dtc ≠ s.spn.dtc ∧ (s.spn.state = .off ∨ s.spn.state = .lowHold))) ∧
    (∃ (dtc : Bool) (s : State), (dtc ≠ s.spn.dtc ∧ s.spn.state ≠ .off ∧ s.spn.state ≠ .lowHold)) ∧
    (∃ (sub : BitVec 8) (v : BitVec 32) (s : State), (paramSize sub.toNat ≠ 0 ∧ (s.spn.state = .off ∨ s.spn.state = .lowHold))) ∧
    (∃ (sub : BitVec 8) (v : BitVec 32) (s : State), (paramSize sub.toNat ≠ 0 ∧ s.spn.state = .run ∧ sub.toNat ∈ [0x01, 0x02, 0x28, 0x29, 0x2A])) ∧
    (∃ (sub : BitVec 8) (v : BitVec 32) (s : State), (paramSize sub.toNat ≠ 0 ∧ s.spn.state = .run ∧ sub.toNat ∉ [0x01, 0x02, 0x28, 0x29, 0x2A])) :=
  ⟨⟨115200, State.reset, by decide⟩,
   ⟨57599, State.reset, by decide⟩,
   ⟨true, State.reset, by decide⟩,
   ⟨true, State.reset.onSpn fun p => { p with state := .run }, by decide⟩,
   ⟨3, 4000, State.reset, by decide⟩,
   ⟨2, 7200, State.reset.onSpn fun p => { p with state := .run }, by decide⟩,
   ⟨3, 4000, State.reset.onSpn fun p => { p with state := .run }, by decide⟩⟩

/-- The hypotheses of `Obligations.SpindleLossesMeasurementAndReference` can be met. -/
theorem test_spindle_losses_measurement_and_reference_hyps :
    (∃ (s : State), (s.spn.state = .run ∧ s.spn.ranFirst = true ∧ s.p2010LockIntervals * s.stepTicks s.spn.target.toNat ≤ s.since s.spn.eventAt ∧ (∀ a, (s.act a).isl.load = .parked))) ∧
    (∃ (s : State), (s.spn.state = .run ∧ s.spn.ranFirst = false ∧ s.p2010LockWin * msTicks ≤ s.since s.spn.enteredAt ∧ s.spn.attempt < s.p2010StartRetries)) ∧
    (∃ (s : State), (s.spn.state = .run ∧ 6 * s.p2010ObsLossPer ≤ s.spn.residHigh)) ∧
    (∃ (s : State), (s.spn.state = .flywheel ∧ 12 ≤ s.spn.goodCross ∧ s.spn.storedTarget = none)) ∧
    (∃ (s : State), (s.spn.state = .flywheel ∧ s.p2010FlywheelPer ≤ s.spn.turns)) ∧
    (∃ (s : State), (64 ≤ s.spn.devCount)) ∧
    (∃ (s : State), (s.wantedRef ≠ s.spn.refSrc ∧ (∀ a, s.loaded a = false))) ∧
    (∃ (s : State), (s.spn.notice.rate = 0xFFFF ∧ s.spn.state = .run ∧ s.p2010ReleaseWedges ≤ s.spn.relCount)) :=
  ⟨⟨(State.reset.onFab fun f => { f with chipTime := 2000000000000 }).onSpn fun p => { p with state := .run, ranFirst := true, target := 115200 }, by decide⟩,
   ⟨(State.reset.onFab fun f => { f with chipTime := 2000000000000 }).onSpn fun p => { p with state := .run, ranFirst := false }, by decide⟩,
   ⟨State.reset.onSpn fun p => { p with state := .run, residHigh := 10000 }, by decide⟩,
   ⟨State.reset.onSpn fun p => { p with state := .flywheel, goodCross := 12 }, by decide⟩,
   ⟨State.reset.onSpn fun p => { p with state := .flywheel, turns := 100 }, by decide⟩,
   ⟨State.reset.onSpn fun p => { p with devCount := 64 }, by decide⟩,
   ⟨State.reset.onSpn fun p => { p with refSrc := 0 }, by decide⟩,
   ⟨State.reset.onSpn fun p => { p with state := .run, relCount := 100000, notice := { p.notice with rate := 0xFFFF } }, by decide⟩⟩

/-- The hypotheses of `Obligations.SpindleOvervoltageProtection` can be met. -/
theorem test_spindle_overvoltage_protection_hyps :
    (∃ (mv : Nat) (s : State), (s.p2010OvWarn ≤ mv)) ∧
    (∃ (mv : Nat) (s : State), (mv + 300 ≤ s.p2010OvWarn ∧ s.spn.zeroVector = false)) ∧
    (∃ (mv : Nat) (s : State), (s.spn.chopFault = false ∧ s.spn.chopOn = false ∧ s.p2010OvChopOn ≤ mv)) ∧
    (∃ (s : State), (s.spn.chopOn = true)) ∧
    (∃ (mv : Nat) (s : State), (s.spn.chopOn = true ∧ 20 * usTicks ≤ s.since s.spn.chopAt ∧ s.spn.state = .run)) ∧
    (∃ (mv : Nat) (s : State), (s.spn.chopOn = true ∧ s.p2010ChopWin * usTicks ≤ s.since s.spn.chopAt ∧ s.p2010OvChopOn ≤ mv ∧ s.spn.state = .run)) ∧
    (∃ (s : State), ((∀ a, (s.act a).isl.load = .parked))) :=
  ⟨⟨14000, State.reset, by decide⟩,
   ⟨13500, State.reset, by decide⟩,
   ⟨14500, State.reset, by decide⟩,
   ⟨State.reset.onSpn fun p => { p with chopOn := true }, by decide⟩,
   ⟨15000, (State.reset.onFab fun f => { f with chipTime := 2000000000000 }).onSpn fun p => { p with chopOn := true, state := .run }, by decide⟩,
   ⟨15000, (State.reset.onFab fun f => { f with chipTime := 2000000000000 }).onSpn fun p => { p with chopOn := true, state := .run }, by decide⟩,
   ⟨State.reset, by decide⟩⟩

/-- The hypotheses of `Obligations.DemodulatorFollowsItsWedges` can be met. -/
theorem test_demodulator_follows_its_wedges_hyps :
    (∃ (a : Fin 4) (w : WedgeInputs) (s : State), (s.demodRuns a = true ∧ samMismatch w.sam ≤ (s.act a).svd.samErr.toNat ∧ (s.act a).svd.acquiring = true ∧ (s.act a).svd.lastPos = [])) ∧
    (∃ (a : Fin 4) (s : State), (s.present a = true ∧ s.demodRuns a = true ∧ (s.act a).svd.acquiring = false)) ∧
    (∃ (a : Fin 4) (s : State), (s.present a = true ∧ (s.act a).svd.locked = false ∧ (s.act a).svd.counted = true ∧ s.p3400LockCount a ≤ (s.act a).svd.lockRun ∧ 1 ≤ (s.act a).svd.lockRun ∧ (s.act a).isl.load = .loaded)) ∧
    (∃ (a : Fin 4) (s : State), (s.present a = true ∧ (s.act a).svd.locked = true ∧ (s.act a).svd.acquiring = false ∧ (s.act a).svd.lossDue = true ∧ (s.act a).svd.lossKind ≠ 2)) ∧
    (∃ (a : Fin 4) (head : BitVec 5) (s : State), ((s.act a).wp.ops = [])) ∧
    (∃ (a : Fin 4) (track : BitVec 24) (s : State), ((s.act a).wp.ops = [])) :=
  ⟨⟨0, { sam := 0x0B3D, instant := 1000, tid := 0, wedge := 0, n1A := 0, n2A := 0, n1B := 0, n2B := 0, rro := 0 }, (State.reset.onIsl 0 fun i => { i with load := .acquiring }).onSvd 0 fun d => { d with acquiring := true, switching := false }, by decide⟩,
   ⟨1, (State.reset.onIsl 1 fun i => { i with load := .loaded }).onSvd 1 fun d => { d with acquiring := false, switching := false }, by decide⟩,
   ⟨0, (State.reset.onIsl 0 fun i => { i with load := .loaded }).onSvd 0 fun d => { d with locked := false, counted := true, lockRun := 1000 }, by decide⟩,
   ⟨0, State.reset.onSvd 0 fun d => { d with locked := true, acquiring := false, lossDue := true }, by decide⟩,
   ⟨0, 1, State.reset, by decide⟩,
   ⟨0, 0xFFFFFF, State.reset, by decide⟩⟩

/-- The hypotheses of `Obligations.HeadsLoadUnloadAndShocks` can be met. -/
theorem test_heads_load_unload_and_shocks_hyps :
    (∃ (a : Fin 4) (s : State), (s.present a = true ∧ (s.act a).isl.load = .parked ∧ s.domOn (20 + a.val) = true ∧ s.unsafeAct a = false ∧ (s.act a).isl.notice.rate = 0xFFFF)) ∧
    (∃ (a : Fin 4) (s : State), (s.present a = true ∧ (s.act a).isl.load = .parked ∧ s.domOn (20 + a.val) = true ∧ s.unsafeAct a = false ∧ (s.act a).isl.notice.rate ≠ 0xFFFF)) ∧
    (∃ (a : Fin 4) (s : State), ((s.act a).isl.coilPhase = true ∧ msTicks ≤ s.since (s.act a).isl.stepAt ∧ s.coilRes a = 0x41000000 ∧ nth (s.act a).msn.latest 4 0 = 0x3D19999A ∧ (s.act a).wp.writing = false)) ∧
    (∃ (a : Fin 4) (s : State), (s.present a = true ∧ (s.act a).isl.load = .acquiring ∧ s.p3400LoadTimeout a * msTicks ≤ s.since (s.act a).isl.stepAt ∧ (s.act a).isl.attempt.toNat < s.p3400LoadRetries a ∧ (s.act a).wp.writing = false)) ∧
    (∃ (a : Fin 4) (s : State), ((s.act a).isl.load = .loaded ∧ (s.act a).wp.writing = false)) ∧
    (∃ (a : Fin 4) (s : State), ((s.act a).isl.load ≠ .parked ∧ (s.act a).isl.load ≠ .retracting ∧ (s.act a).wp.writing = false)) ∧
    (∃ (a : Fin 4) (s : State), (s.present a = true ∧ (s.act a).isl.load = .unloading ∧ (s.act a).sve.damping = false ∧ (s.act a).isl.gaveUp = false ∧ fLt (fAbs (s.act a).isl.vel) 0x3D4CCCCD = true ∧ 20 * msTicks ≤ s.since (s.act a).isl.stillAt ∧ (s.act a).isl.retryLoad = true ∧ (s.act a).isl.notice.rate = 0xFFFF ∧ (s.act a).isl.attempt = 1 ∧ (s.act a).wp.writing = false ∧ s.recov.ladders = [])) ∧
    (∃ (a : Fin 4) (s : State), (s.present a = true ∧ (s.act a).isl.load = .retracting ∧ 200 * msTicks ≤ s.since (s.act a).isl.stepAt ∧ (s.act a).isl.gaveUp = false ∧ (s.act a).isl.retryLoad = false ∧ (s.act a).wp.writing = false ∧ s.recov.ladders = [] ∧ s.sys.mode = .service ∧ s.spn.retryRun = false ∧ s.sys.exiting = false ∧ s.sys.entry = none ∧ s.sys.shutStage = none ∧ actIn s.sys.unsafeActs a = false ∧ s.hm.brst = [] ∧ s.sys.powerLoss = none ∧ (∀ b, b ≠ a → (s.act b).isl.load = .parked))) ∧
    (∃ (a : Fin 4) (peak : BitVec 12) (s : State), (s.present a = true ∧ s.domOn (24 + a.val) = true ∧ s.p3400ShockThr a % 4096 < ((peak.toNat : Int) - 2048).natAbs ∧ (s.act a).msn.shock = false ∧ (s.act a).wp.writing = false)) ∧
    (∃ (a : Fin 4) (s : State), (s.present a = true ∧ (s.act a).msn.shock = true ∧ s.p3400ShockHold a * usTicks ≤ s.since (s.act a).msn.shockLast)) ∧
    (∃ (a : Fin 4) (kind : Fin 4) (s : State), (s.present a = true ∧ s.domOn (24 + a.val) = true ∧ s.sensesRailed a kind.val = true)) :=
  ⟨⟨0, (State.reset.onDom 20 fun x => { x with state := .on }).onIsl 0 fun i => { i with notice := { i.notice with rate := 0xFFFF } }, by decide⟩,
   ⟨1, (State.reset.onDom 21 fun x => { x with state := .on }).onIsl 1 fun i => { i with notice := { i.notice with rate := 0 } }, by decide⟩,
   ⟨0, ((State.reset.onFab fun f => { f with chipTime := 2000000000000 }).onIsl 0 fun i => { i with load := .loadPending, coilPhase := true }).onMsn 0 fun m => { m with latest := [0, 0, 0, 0, 0x3D19999A, 0] }, by decide⟩,
   ⟨0, (State.reset.onFab fun f => { f with chipTime := 2000000000000 }).onIsl 0 fun i => { i with load := .acquiring, attempt := 0 }, by decide⟩,
   ⟨0, State.reset.onIsl 0 fun i => { i with load := .loaded }, by decide⟩,
   ⟨2, State.reset.onIsl 2 fun i => { i with load := .unloading }, by decide⟩,
   ⟨0, (State.reset.onFab fun f => { f with chipTime := 2000000000000 }).onIsl 0 fun i => { i with load := .unloading, retryLoad := true, attempt := 1, notice := { i.notice with rate := 0xFFFF } }, by decide⟩,
   ⟨0, ((State.reset.onFab fun f => { f with chipTime := 2000000000000 }).onSys fun y => { y with mode := .service }).onIsl 0 fun i => { i with load := .retracting }, by decide⟩,
   ⟨0, 0xFFF, State.reset.onDom 24 fun x => { x with state := .on }, by decide⟩,
   ⟨0, (State.reset.onFab fun f => { f with chipTime := 2000000000000 }).onMsn 0 fun m => { m with shock := true }, by decide⟩,
   ⟨1, 3, ((State.reset.onFab fun f => { f with chipTime := 2000000000000 }).onDom 25 fun x => { x with state := .on }).onMsn 1 fun m => { m with rails := [(2, 0)] }, by decide⟩⟩

/-- The hypotheses of `Obligations.EngineArithmeticWritesOneRegister` can be met. -/
theorem test_engine_arithmetic_writes_one_register_hyps :
    (∃ (e : Fin 4) (s : State), (EngineReady e 0 s)) ∧
    (∃ (e : Fin 4) (fd fa fb : BitVec 8) (s : State), (EngineReady e (encR 0x01 fd fa fb) s)) ∧
    (∃ (e : Fin 4) (fd fa fb : BitVec 8) (s : State), (EngineReady e (encR 0x02 fd fa fb) s)) ∧
    (∃ (e : Fin 4) (fd fa fb : BitVec 8) (s : State), (EngineReady e (encR 0x03 fd fa fb) s)) ∧
    (∃ (e : Fin 4) (fd fa fb : BitVec 8) (s : State), (EngineReady e (encR 0x06 fd fa fb) s)) ∧
    (∃ (e : Fin 4) (fd fa fb : BitVec 8) (s : State), (EngineReady e (encR 0x07 fd fa fb) s)) ∧
    (∃ (e : Fin 4) (fd fa fb : BitVec 8) (s : State), (EngineReady e (encR 0x04 fd fa fb) s)) ∧
    (∃ (e : Fin 4) (fd fa fb : BitVec 8) (s : State), (EngineReady e (encR 0x05 fd fa fb) s)) ∧
    (∃ (e : Fin 4) (fd fa fb : BitVec 8) (s : State), (EngineReady e (encR 0x09 fd fa fb) s)) ∧
    (∃ (e : Fin 4) (fd fa fb : BitVec 8) (s : State), (EngineReady e (encR 0x0C fd fa fb) s)) ∧
    (∃ (e : Fin 4) (fd fa : BitVec 8) (s : State), (EngineReady e (encR 0x08 fd fa 0) s)) ∧
    (∃ (e : Fin 4) (fd fa : BitVec 8) (s : State), (EngineReady e (encR 0x08 fd fa 1) s)) ∧
    (∃ (e : Fin 4) (fd fa : BitVec 8) (s : State), (EngineReady e (encR 0x08 fd fa 2) s)) ∧
    (∃ (e : Fin 4) (fd fa : BitVec 8) (s : State), (EngineReady e (encR 0x08 fd fa 3) s)) ∧
    (∃ (e : Fin 4) (fd fa : BitVec 8) (s : State), (EngineReady e (encR 0x08 fd fa 4) s)) ∧
    (∃ (e : Fin 4) (fd fa : BitVec 8) (s : State), (EngineReady e (encR 0x08 fd fa 5) s)) ∧
    (∃ (e : Fin 4) (fd : BitVec 8) (imm : BitVec 16) (s : State), (EngineReady e (encI 0x0D fd imm) s)) ∧
    (∃ (e : Fin 4) (fd : BitVec 8) (addr : BitVec 11) (s : State), (EngineReady e (encM 0x0E fd addr) s)) ∧
    (∃ (e : Fin 4) (fd fa : BitVec 8) (s : State), (EngineReady e (encR 0x10 fd fa 0) s)) ∧
    (∃ (e : Fin 4) (fd port : BitVec 8) (s : State), (EngineReady e (encR 0x14 fd 0 port) s)) ∧
    (∃ x y z r : F32, r = fAdd x y ∨ r = fSub x y ∨ r = fMul x y ∨ r = fFma x y z ∨ r = fMin x y ∨ r = fMax x y ∨ r = fRcp x) ∧
    (∃ x y : F32, fIsNaN x = true ∨ fIsNaN y = true) :=
  ⟨⟨3, ((State.reset.onIdent fun i => { i with tier := .a }).onSve 3 fun v => { v with state := .running, seg := .mandatory, pc := 4095 }), by decide⟩,
   ⟨3, 255, 0, 1, ((((State.reset.onIdent fun i => { i with tier := .a }).onSve 3 fun v => { v with state := .running, seg := .mandatory, pc := 4095 })).setWord (islandBase 3 + 0x13FFC) (encR 0x01 255 0 1)), by decide⟩,
   ⟨3, 255, 0, 1, ((((State.reset.onIdent fun i => { i with tier := .a }).onSve 3 fun v => { v with state := .running, seg := .mandatory, pc := 4095 })).setWord (islandBase 3 + 0x13FFC) (encR 0x02 255 0 1)), by decide⟩,
   ⟨3, 255, 0, 1, ((((State.reset.onIdent fun i => { i with tier := .a }).onSve 3 fun v => { v with state := .running, seg := .mandatory, pc := 4095 })).setWord (islandBase 3 + 0x13FFC) (encR 0x03 255 0 1)), by decide⟩,
   ⟨3, 255, 0, 1, ((((State.reset.onIdent fun i => { i with tier := .a }).onSve 3 fun v => { v with state := .running, seg := .mandatory, pc := 4095 })).setWord (islandBase 3 + 0x13FFC) (encR 0x06 255 0 1)), by decide⟩,
   ⟨3, 255, 0, 1, ((((State.reset.onIdent fun i => { i with tier := .a }).onSve 3 fun v => { v with state := .running, seg := .mandatory, pc := 4095 })).setWord (islandBase 3 + 0x13FFC) (encR 0x07 255 0 1)), by decide⟩,
   ⟨3, 255, 0, 1, ((((State.reset.onIdent fun i => { i with tier := .a }).onSve 3 fun v => { v with state := .running, seg := .mandatory, pc := 4095 })).setWord (islandBase 3 + 0x13FFC) (encR 0x04 255 0 1)), by decide⟩,
   ⟨3, 255, 0, 1, ((((State.reset.onIdent fun i => { i with tier := .a }).onSve 3 fun v => { v with state := .running, seg := .mandatory, pc := 4095 })).setWord (islandBase 3 + 0x13FFC) (encR 0x05 255 0 1)), by decide⟩,
   ⟨3, 255, 0, 1, ((((State.reset.onIdent fun i => { i with tier := .a }).onSve 3 fun v => { v with state := .running, seg := .mandatory, pc := 4095 })).setWord (islandBase 3 + 0x13FFC) (encR 0x09 255 0 1)), by decide⟩,
   ⟨3, 255, 0, 1, ((((State.reset.onIdent fun i => { i with tier := .a }).onSve 3 fun v => { v with state := .running, seg := .mandatory, pc := 4095 })).setWord (islandBase 3 + 0x13FFC) (encR 0x0C 255 0 1)), by decide⟩,
   ⟨3, 255, 0, ((((State.reset.onIdent fun i => { i with tier := .a }).onSve 3 fun v => { v with state := .running, seg := .mandatory, pc := 4095 })).setWord (islandBase 3 + 0x13FFC) (encR 0x08 255 0 0)), by decide⟩,
   ⟨3, 255, 0, ((((State.reset.onIdent fun i => { i with tier := .a }).onSve 3 fun v => { v with state := .running, seg := .mandatory, pc := 4095 })).setWord (islandBase 3 + 0x13FFC) (encR 0x08 255 0 1)), by decide⟩,
   ⟨3, 255, 0, ((((State.reset.onIdent fun i => { i with tier := .a }).onSve 3 fun v => { v with state := .running, seg := .mandatory, pc := 4095 })).setWord (islandBase 3 + 0x13FFC) (encR 0x08 255 0 2)), by decide⟩,
   ⟨3, 255, 0, ((((State.reset.onIdent fun i => { i with tier := .a }).onSve 3 fun v => { v with state := .running, seg := .mandatory, pc := 4095 })).setWord (islandBase 3 + 0x13FFC) (encR 0x08 255 0 3)), by decide⟩,
   ⟨3, 255, 0, ((((State.reset.onIdent fun i => { i with tier := .a }).onSve 3 fun v => { v with state := .running, seg := .mandatory, pc := 4095 })).setWord (islandBase 3 + 0x13FFC) (encR 0x08 255 0 4)), by decide⟩,
   ⟨3, 255, 0, ((((State.reset.onIdent fun i => { i with tier := .a }).onSve 3 fun v => { v with state := .running, seg := .mandatory, pc := 4095 })).setWord (islandBase 3 + 0x13FFC) (encR 0x08 255 0 5)), by decide⟩,
   ⟨3, 255, 0x3DCC, ((((State.reset.onIdent fun i => { i with tier := .a }).onSve 3 fun v => { v with state := .running, seg := .mandatory, pc := 4095 })).setWord (islandBase 3 + 0x13FFC) (encI 0x0D 255 0x3DCC)), by decide⟩,
   ⟨3, 255, 0x7FF, ((((State.reset.onIdent fun i => { i with tier := .a }).onSve 3 fun v => { v with state := .running, seg := .mandatory, pc := 4095 })).setWord (islandBase 3 + 0x13FFC) (encM 0x0E 255 0x7FF)), by decide⟩,
   ⟨3, 255, 0, ((((State.reset.onIdent fun i => { i with tier := .a }).onSve 3 fun v => { v with state := .running, seg := .mandatory, pc := 4095 })).setWord (islandBase 3 + 0x13FFC) (encR 0x10 255 0 0)), by decide⟩,
   ⟨3, 255, 0, ((((State.reset.onIdent fun i => { i with tier := .a }).onSve 3 fun v => { v with state := .running, seg := .mandatory, pc := 4095 })).setWord (islandBase 3 + 0x13FFC) (encR 0x14 255 0 0)), by decide⟩,
   ⟨0, 0, 0, _, Or.inl rfl⟩,
   ⟨0x7F800001, 0, by decide⟩⟩

/-- The hypotheses of `Obligations.EngineStoresBranchesAndTables` can be met. -/
theorem test_engine_stores_branches_and_tables_hyps :
    (∃ (e : Fin 4) (fd : BitVec 8) (addr : BitVec 11) (s : State), (EngineReady e (encM 0x0F fd addr) s ∧ Memory.wf s.fab.mem = true)) ∧
    (∃ (e : Fin 4) (fd fa : BitVec 8) (s : State), (EngineReady e (encR 0x11 fd fa 0) s ∧ Memory.wf s.fab.mem = true)) ∧
    (∃ (e : Fin 4) (c : BitVec 4) (fa fb : BitVec 8) (b : Bool) (s : State), (EngineReady e (encC 0x0A c fa fb) s ∧ cmpCond c ((s.act e).sve.reg fa) ((s.act e).sve.reg fb) = some b)) ∧
    (∃ (e : Fin 4) (c : BitVec 4) (fa fb : BitVec 8) (s : State), (EngineReady e (encC 0x0A c fa fb) s ∧ 7 < c.toNat ∧ (s.act e).sve.updGo = false)) ∧
    (∃ (e : Fin 4) (fd : BitVec 8) (imm : BitVec 16) (s : State), (EngineReady e (encI 0x0B fd imm) s)) ∧
    (∃ (e : Fin 4) (fa : BitVec 8) (p : Fin 4) (s : State), (EngineReady e (encR 0x15 0 fa (BitVec.ofNat 8 p.val)) s)) ∧
    (∃ (e : Fin 4) (fa port : BitVec 8) (s : State), (EngineReady e (encR 0x15 0 fa port) s ∧ 4 ≤ port.toNat)) ∧
    (∃ (e : Fin 4) (fd fa fb : BitVec 8) (s : State), (EngineReady e (encR 0x12 fd fa fb) s ∧ 1 ≤ fb.toNat ∧ fb.toNat ≤ 249 ∧ fd ≠ 0 ∧ (fd.toNat < fb.toNat ∨ fb.toNat + 6 < fd.toNat))) ∧
    (∃ (e : Fin 4) (fd fa fb : BitVec 8) (s : State), (EngineReady e (encR 0x12 fd fa fb) s ∧ (fb = 0 ∨ 249 < fb.toNat) ∧ (s.act e).sve.updGo = false)) ∧
    (∃ (e : Fin 4) (fd fa fb : BitVec 8) (y : F32) (s : State), (EngineReady e (encR 0x13 fd fa fb) s ∧ fb.toNat ≤ 31 ∧ s.interpolate e ((s.act e).sve.reg fa) fb.toNat = .inr y)) ∧
    (∃ (e : Fin 4) (fd fa fb : BitVec 8) (k : Nat) (s : State), (EngineReady e (encR 0x13 fd fa fb) s ∧ fb.toNat ≤ 31 ∧ s.interpolate e ((s.act e).sve.reg fa) fb.toNat = .inl k ∧ (s.act e).sve.updGo = false)) ∧
    (∃ (e : Fin 4) (c : BitVec 2) (target : BitVec 12) (s : State), (EngineReady e (encB 0x16 c target) s ∧ brCond c (s.act e).sve.p = some true ∧ s.inSegment e target.toNat = true)) ∧
    (∃ (e : Fin 4) (c : BitVec 2) (target : BitVec 12) (s : State), (EngineReady e (encB 0x16 c target) s ∧ brCond c (s.act e).sve.p = some false)) ∧
    (∃ (e : Fin 4) (c : BitVec 2) (target : BitVec 12) (s : State), (EngineReady e (encB 0x16 c target) s ∧ brCond c (s.act e).sve.p = some true ∧ s.inSegment e target.toNat = false ∧ (s.act e).sve.updGo = false)) :=
  ⟨⟨3, 1, 0x7FF, ((((State.reset.onIdent fun i => { i with tier := .a }).onSve 3 fun v => { v with state := .running, seg := .mandatory, pc := 4095 })).setWord (islandBase 3 + 0x13FFC) (encM 0x0F 1 0x7FF)), by decide⟩,
   ⟨3, 1, 2, ((((State.reset.onIdent fun i => { i with tier := .a }).onSve 3 fun v => { v with state := .running, seg := .mandatory, pc := 4095 })).setWord (islandBase 3 + 0x13FFC) (encR 0x11 1 2 0)), by decide⟩,
   ⟨3, 7, 1, 2, true, ((((State.reset.onIdent fun i => { i with tier := .a }).onSve 3 fun v => { v with state := .running, seg := .mandatory, pc := 4095 })).setWord (islandBase 3 + 0x13FFC) (encC 0x0A 7 1 2)), by decide⟩,
   ⟨3, 8, 1, 2, ((((State.reset.onIdent fun i => { i with tier := .a }).onSve 3 fun v => { v with state := .running, seg := .mandatory, pc := 4095 })).setWord (islandBase 3 + 0x13FFC) (encC 0x0A 8 1 2)), by decide⟩,
   ⟨3, 1, 0xFFFF, ((((State.reset.onIdent fun i => { i with tier := .a }).onSve 3 fun v => { v with state := .running, seg := .mandatory, pc := 4095 })).setWord (islandBase 3 + 0x13FFC) (encI 0x0B 1 0xFFFF)), by decide⟩,
   ⟨3, 1, 3, ((((State.reset.onIdent fun i => { i with tier := .a }).onSve 3 fun v => { v with state := .running, seg := .mandatory, pc := 4095 })).setWord (islandBase 3 + 0x13FFC) (encR 0x15 0 1 (BitVec.ofNat 8 3))), by decide⟩,
   ⟨3, 1, 4, ((((State.reset.onIdent fun i => { i with tier := .a }).onSve 3 fun v => { v with state := .running, seg := .mandatory, pc := 4095 })).setWord (islandBase 3 + 0x13FFC) (encR 0x15 0 1 4)), by decide⟩,
   ⟨3, 248, 1, 249, ((((State.reset.onIdent fun i => { i with tier := .a }).onSve 3 fun v => { v with state := .running, seg := .mandatory, pc := 4095 })).setWord (islandBase 3 + 0x13FFC) (encR 0x12 248 1 249)), by decide⟩,
   ⟨3, 1, 1, 250, ((((State.reset.onIdent fun i => { i with tier := .a }).onSve 3 fun v => { v with state := .running, seg := .mandatory, pc := 4095 })).setWord (islandBase 3 + 0x13FFC) (encR 0x12 1 1 250)), by decide⟩,
   ⟨3, 1, 1, 0, 0, ((((State.reset.onIdent fun i => { i with tier := .a }).onSve 3 fun v => { v with state := .running, seg := .mandatory, pc := 4095 })).setWord (islandBase 3 + 0x13FFC) (encR 0x13 1 1 0)).setWord (islandBase 3 + 0x14008) 0x00020000, by decide⟩,
   ⟨3, 1, 1, 0, 1, ((((State.reset.onIdent fun i => { i with tier := .a }).onSve 3 fun v => { v with state := .running, seg := .mandatory, pc := 4095 })).setWord (islandBase 3 + 0x13FFC) (encR 0x13 1 1 0)), by decide⟩,
   ⟨3, 0, 0xFFF, ((((State.reset.onIdent fun i => { i with tier := .a }).onSve 3 fun v => { v with state := .running, seg := .mandatory, pc := 4095 })).setWord (islandBase 3 + 0x13FFC) (encB 0x16 0 0xFFF)).onSve 3 fun v => { v with mark := 4095 }, by decide⟩,
   ⟨3, 1, 0, ((((State.reset.onIdent fun i => { i with tier := .a }).onSve 3 fun v => { v with state := .running, seg := .mandatory, pc := 4095 })).setWord (islandBase 3 + 0x13FFC) (encB 0x16 1 0)).onSve 3 fun v => { v with p := false }, by decide⟩,
   ⟨3, 0, 0, ((((State.reset.onIdent fun i => { i with tier := .a }).onSve 3 fun v => { v with state := .running, seg := .mandatory, pc := 4095 })).setWord (islandBase 3 + 0x13FFC) (encB 0x16 0 0)).onSve 3 fun v => { v with mark := 1 }, by decide⟩⟩

/-- The hypotheses of `Obligations.EndMMakesStagedValuesReady` can be met. -/
theorem test_end_m_makes_staged_values_ready_hyps :
    (∃ (e : Fin 4) (s : State), (EngineReady e (encS 0x17 1 0 0) s ∧ (s.act e).sve.reachedM = false)) ∧
    (∃ (e : Fin 4) (s : State), (EngineReady e (encS 0x17 1 0 0) s ∧ (s.act e).sve.reachedM = false ∧ (s.act e).sve.overdue = 0)) ∧
    (∃ (e : Fin 4) (s : State), (EngineReady e (encS 0x17 1 0 0) s ∧ (s.act e).sve.reachedM = true)) :=
  ⟨⟨3, ((((State.reset.onIdent fun i => { i with tier := .a }).onSve 3 fun v => { v with state := .running, seg := .mandatory, pc := 4095 })).setWord (islandBase 3 + 0x13FFC) (encS 0x17 1 0 0)), by decide⟩,
   ⟨3, ((((State.reset.onIdent fun i => { i with tier := .a }).onSve 3 fun v => { v with state := .running, seg := .mandatory, pc := 4095 })).setWord (islandBase 3 + 0x13FFC) (encS 0x17 1 0 0)), by decide⟩,
   ⟨3, ((((State.reset.onIdent fun i => { i with tier := .a }).onSve 3 fun v => { v with state := .running, seg := .mandatory, pc := 4095 })).setWord (islandBase 3 + 0x13FFC) (encS 0x17 1 0 0)).onSve 3 fun v => { v with reachedM := true }, by decide⟩⟩

/-- The hypotheses of `Obligations.EngineSegmentsSignalsAndHalts` can be met. -/
theorem test_engine_segments_signals_and_halts_hyps :
    (∃ (e : Fin 4) (s : State), (EngineReady e (encS 0x17 3 0 0) s)) ∧
    (∃ (e : Fin 4) (seg : BitVec 4) (endA : BitVec 12) (s : State), (EngineReady e (encS 0x17 2 seg endA) s ∧ (bitOf (s.p3000XcEnable e) seg.toNat = false ∨ (s.act e).sve.xcSusp = true))) ∧
    (∃ (e : Fin 4) (seg : BitVec 4) (endA : BitVec 12) (s : State), (EngineReady e (encS 0x17 2 seg endA) s ∧ bitOf (s.p3000XcEnable e) seg.toNat = true ∧ (s.act e).sve.xcSusp = false ∧ (s.act e).sve.bound seg.toNat ≤ s.periodCycles e - (s.act e).sve.cyc)) ∧
    (∃ (e : Fin 4) (s : State), ((s.act e).sve.executes = true ∧ (s.act e).sve.xcSpent = true)) ∧
    (∃ (e : Fin 4) (imm : BitVec 16) (s : State), (EngineReady e (encI 0x18 0 imm) s ∧ (s.act e).sve.sigDone = false)) ∧
    (∃ (e : Fin 4) (imm : BitVec 16) (s : State), (EngineReady e (encI 0x18 0 imm) s ∧ (s.act e).sve.sigDone = true)) ∧
    (∃ (e : Fin 4) (s : State), (s.present e = true ∧ (s.act e).sve.executes = true ∧ (s.act e).sve.xcSpent = false ∧ (s.act e).sve.updGo = false ∧ 4096 ≤ (s.act e).sve.pc.toNat)) ∧
    (∃ (e : Fin 4) (s : State), (s.present e = true ∧ (s.act e).sve.executes = true ∧ (s.act e).sve.xcSpent = false ∧ (s.act e).sve.updGo = false ∧ (s.act e).sve.pc.toNat < 4096 ∧ engineLegal (BitVec.ofNat 32 (s.progWord e (s.act e).sve.pc.toNat)) = false)) ∧
    (∃ (e : Fin 4) (addr : Bool) (s : State), (s.present e = true ∧ (s.act e).sve.executes = true ∧ (s.act e).sve.xcSpent = false ∧ (s.act e).sve.updGo = true ∧ (if addr then 4096 ≤ (s.act e).sve.pc.toNat else (s.act e).sve.pc.toNat < 4096 ∧ engineLegal (BitVec.ofNat 32 (s.progWord e (s.act e).sve.pc.toNat)) = false))) :=
  ⟨⟨3, ((((State.reset.onIdent fun i => { i with tier := .a }).onSve 3 fun v => { v with state := .running, seg := .mandatory, pc := 4095 })).setWord (islandBase 3 + 0x13FFC) (encS 0x17 3 0 0)), by decide⟩,
   ⟨3, 15, 0xFFF, ((((State.reset.onIdent fun i => { i with tier := .a }).onSve 3 fun v => { v with state := .running, seg := .mandatory, pc := 4095 })).setWord (islandBase 3 + 0x13FFC) (encS 0x17 2 15 0xFFF)).onSve 3 fun v => { v with xcSusp := true }, by decide⟩,
   ⟨3, 0, 5, ((((State.reset.onIdent fun i => { i with tier := .a }).onSve 3 fun v => { v with state := .running, seg := .mandatory, pc := 4095 })).setWord (islandBase 3 + 0x13FFC) (encS 0x17 2 0 5)).odSet 0x33000C 1, by decide⟩,
   ⟨3, ((State.reset.onIdent fun i => { i with tier := .a }).onSve 3 fun v => { v with state := .running, seg := .mandatory, pc := 4095 }).onSve 3 fun v => { v with seg := .extra, segCyc := 10 }, by decide⟩,
   ⟨3, 0xFFFF, ((((State.reset.onIdent fun i => { i with tier := .a }).onSve 3 fun v => { v with state := .running, seg := .mandatory, pc := 4095 })).setWord (islandBase 3 + 0x13FFC) (encI 0x18 0 0xFFFF)), by decide⟩,
   ⟨3, 0xFFFF, ((((State.reset.onIdent fun i => { i with tier := .a }).onSve 3 fun v => { v with state := .running, seg := .mandatory, pc := 4095 })).setWord (islandBase 3 + 0x13FFC) (encI 0x18 0 0xFFFF)).onSve 3 fun v => { v with sigDone := true }, by decide⟩,
   ⟨3, ((State.reset.onIdent fun i => { i with tier := .a }).onSve 3 fun v => { v with state := .running, seg := .mandatory, pc := 4095 }).onSve 3 fun v => { v with pc := 4096 }, by decide⟩,
   ⟨3, ((State.reset.onIdent fun i => { i with tier := .a }).onSve 3 fun v => { v with state := .running, seg := .mandatory, pc := 4095 }).setWord (islandBase 3 + 0x13FFC) 0x19000000, by decide⟩,
   ⟨3, false, (((State.reset.onIdent fun i => { i with tier := .a }).onSve 3 fun v => { v with state := .running, seg := .mandatory, pc := 4095 }).setWord (islandBase 3 + 0x13FFC) 0x19000000).onSve 3 fun v => { v with updGo := true, updCount := 1 }, by decide⟩⟩

/-- The hypotheses of `Obligations.EngineIsStartedStoppedAndUpdated` can be met. -/
theorem test_engine_is_started_stopped_and_updated_hyps :
    (∃ (a : Fin 4) (s : State), (s.present a = true ∧ ((s.act a).sve.state = .stopped ∨ (s.act a).sve.state = .halted))) ∧
    (∃ (a : Fin 4) (x : SampleInputs) (s : State), (s.present a = true ∧ s.domOn (20 + a.val) = true ∧ s.sampleDue a = true ∧ (s.act a).sve.state = .stopped ∧ (s.act a).sve.runReq = true ∧ (s.act a).sve.stopReq = false ∧ (s.act a).isl.load = .parked ∧ (s.act a).svd.next.length = 12)) ∧
    (∃ (a : Fin 4) (s : State), ((s.act a).sve.state = .running ∧ s.loaded a = false)) ∧
    (∃ (a : Fin 4) (s : State), (s.loaded a = true)) ∧
    (∃ (a : Fin 4) (n : BitVec 8) (v : BitVec 32) (s : State), (((s.act a).sve.state = .stopped ∨ (s.act a).sve.state = .halted) ∧ Tab.rising (s.act a).sve.f = true)) ∧
    (∃ (a : Fin 4) (n : BitVec 8) (v : BitVec 32) (s : State), ((s.act a).sve.state = .running ∨ (s.act a).sve.state = .hold)) ∧
    (∃ (a : Fin 4) (n : BitVec 6) (s : State), ((s.act a).sve.updGo = true)) ∧
    (∃ (a : Fin 4) (n : BitVec 6) (s : State), ((s.act a).sve.updGo = false ∧ 1 ≤ n.toNat ∧ n.toNat ≤ 32 ∧ (s.act a).sve.state = .running)) ∧
    (∃ (a : Fin 4) (v : BitVec 32) (pr : Bool) (s : State), (s.loaded a = true ∧ (s.act a).svp.pending = none ∧ (s.act a).wp.ops = [])) ∧
    (∃ (a : Fin 4) (v : BitVec 32) (pr : Bool) (s : State), (s.loaded a = false)) ∧
    (∃ (a : Fin 4) (s : State), ((s.act a).sve.damping = true ∧ (s.act a).wp.writing = false ∧ min 50 (s.p3000DampMs a) * msTicks ≤ s.since (s.act a).isl.stepAt)) :=
  ⟨⟨1, State.reset, by decide⟩,
   ⟨0, { vcs := 0x900, mas := 0x800, rva := 0x800, rvb := 0x800, shk := 0x800, v12 := 0xA00 }, ((State.reset.onDom 20 fun x => { x with state := .on }).onSve 0 fun v => { v with runReq := true }).onSvd 0 fun d => { d with next := [1, 2, 3, 4, 5, 6, 7, 8, 9, 10, 11, 12] }, by decide⟩,
   ⟨0, State.reset.onSve 0 fun v => { v with state := .running }, by decide⟩,
   ⟨0, State.reset.onIsl 0 fun i => { i with load := .loaded }, by decide⟩,
   ⟨0, 0, 7, State.reset, by decide⟩,
   ⟨0, 1, 7, State.reset.onSve 0 fun v => { v with state := .running }, by decide⟩,
   ⟨0, 1, State.reset.onSve 0 fun v => { v with updGo := true }, by decide⟩,
   ⟨0, 32, State.reset.onSve 0 fun v => { v with state := .running }, by decide⟩,
   ⟨0, 0xE0000001, true, State.reset.onIsl 0 fun i => { i with load := .loaded }, by decide⟩,
   ⟨0, 1, true, State.reset, by decide⟩,
   ⟨0, (State.reset.onFab fun f => { f with chipTime := 400000 }).onSve 0 fun v => { v with damping := true }, by decide⟩⟩

/-- The hypotheses of `Obligations.InjectionCorrelationAndChalkboard` can be met. -/
theorem test_injection_correlation_and_chalkboard_hyps :
    (∃ (a : Fin 4) (v : BitVec 32) (s : State), (s.loaded a = true ∧ fld v.toNat 26 2 ≠ 3 ∧ 7 ≤ fld v.toNat 12 4 ∧ (s.act a).wp.writing = false)) ∧
    (∃ (a : Fin 4) (v : BitVec 32) (s : State), (s.loaded a = false)) ∧
    (∃ (a : Fin 4) (s : State), ((s.act a).svi.run = true)) ∧
    (∃ (a : Fin 4) (s : State), ((s.act a).svi.started = true ∧ (s.act a).svi.len ≠ 0 ∧ (s.act a).svi.len.toNat ≤ (s.act a).svi.k ∧ (s.act a).svc.run = false ∧ (s.act a).wp.writing = false)) ∧
    (∃ (a : Fin 4) (v : BitVec 32) (s : State), ((s.act a).svi.run = true ∧ (s.act a).svi.type = 0)) ∧
    (∃ (a : Fin 4) (s : State), (s.present a = true ∧ (s.act a).svc.run = true ∧ (s.act a).svc.settle.toNat + (s.act a).svc.periods.toNat ≤ (s.act a).svc.taken)) ∧
    (∃ (a : Fin 4) (v : BitVec 32) (s : State), ((s.act a).svb.arm = false)) ∧
    (∃ (a : Fin 4) (s : State), ((s.act a).svb.arm = true)) ∧
    (∃ (a : Fin 4) (s : State), (s.present a = true ∧ (s.act a).svb.state = 3 ∧ (s.act a).svb.after = 0)) :=
  ⟨⟨0, 0x80007000, State.reset.onIsl 0 fun i => { i with load := .loaded }, by decide⟩,
   ⟨0, 0x80007000, State.reset, by decide⟩,
   ⟨0, State.reset.onSvi 0 fun i => { i with run := true }, by decide⟩,
   ⟨0, State.reset.onSvi 0 fun i => { i with run := true, started := true, len := 1, k := 1 }, by decide⟩,
   ⟨0, 0x80000001, State.reset.onSvi 0 fun i => { i with run := true, type := 0 }, by decide⟩,
   ⟨0, State.reset.onSvc 0 fun c => { c with run := true, settle := 1, periods := 1, taken := 2 }, by decide⟩,
   ⟨0, 0x80000000, State.reset, by decide⟩,
   ⟨0, State.reset.onSvb 0 fun b => { b with arm := true }, by decide⟩,
   ⟨0, State.reset.onSvb 0 fun b => { b with arm := true, state := 3, after := 0 }, by decide⟩⟩

/-- The hypotheses of `Obligations.ReadOperationsChooseBanksAndCapture` can be met. -/
theorem test_read_operations_choose_banks_and_capture_hyps :
    (∃ (a : Fin 4) (op : ReadOp) (b : Nat) (s : State), (s.present a = true ∧ s.mediaRoom a = true ∧ bankByRule (s.act a).rch.banks 8 64 s.multMax op.head.toNat op.zone.toNat 1 = some b)) ∧
    (∃ (a : Fin 4) (op : ReadOp) (s : State), (s.present a = true ∧ s.mediaRoom a = true ∧ bankByRule (s.act a).rch.banks 8 64 s.multMax op.head.toNat op.zone.toNat 1 = none)) ∧
    (∃ (a : Fin 4) (x : GateInputs) (op : ReadOp) (rest : List ReadOp) (req : SectorReq) (b k : Nat) (s : State), ((s.act a).rch.ops = op :: rest ∧ op.sectors = [req] ∧ (s.act a).rch.opIndex = 0 ∧ (s.act a).rch.now = none ∧ s.domOn (20 + a.val) = true ∧ s.domOn (24 + a.val) = true ∧ chooseBank (s.act a).rch.banks 8 64 s.multMax op.head.toNat op.zone.toNat = some (b, 1) ∧ (s.act a).rch.freeSlot = some k ∧ Memory.wf s.fab.mem = true)) ∧
    (∃ (a : Fin 4) (x : GateInputs) (op : ReadOp) (rest : List ReadOp) (req : SectorReq) (b : Nat) (s : State), (s.present a = true ∧ (s.act a).rch.ops = op :: rest ∧ op.sectors = [req] ∧ op.ladder = none ∧ req.cmd = none ∧ (s.act a).rch.opIndex = 0 ∧ (s.act a).rch.now = none ∧ s.domOn (20 + a.val) = true ∧ s.domOn (24 + a.val) = true ∧ chooseBank (s.act a).rch.banks 8 64 s.multMax op.head.toNat op.zone.toNat = some (b, 1) ∧ (s.act a).rch.freeSlot = none)) ∧
    (∃ (a : Fin 4) (x : Region) (j : SectorJob) (c : Capture) (s : State), (s.present a = true ∧ (s.act a).rch.now = some j ∧ (s.act a).rch.capture = some c ∧ c.regions.contains x = true ∧ j.regions.contains x = false)) ∧
    (∃ (a : Fin 4) (c : Capture) (s : State), (s.present a = true ∧ (s.act a).rch.reading = true ∧ (s.act a).rch.trLock = true ∧ (s.act a).rch.capture = some c ∧ c.lost = true)) ∧
    (∃ (a : Fin 4) (x : Capture) (j : SectorJob) (s : State), ((s.act a).rch.now = some j ∧ (s.act a).rch.capture = some x ∧ j.staged = true ∧ j.marks ≠ .neither ∧ x.truncated = false ∧ s.erasuresOf a { j with regions := x.regions, truncated := false } ≤ bankField j.words 33 0 16 ∧ s.bitsPast a j.words (max x.samplesA.length x.samplesB.length) j.gateAt = true ∧ x.samplesA.length ≤ 37296 ∧ x.samplesB.length ≤ 37296 ∧ Memory.wf s.fab.mem = true)) :=
  ⟨⟨0, ({ opId := 7, head := 1, zone := 2, track := 40, sectors := [({ sector := 3, tag := 9, dest := 0x80000000, nomA := 100, nomB := 4232, conts := [], cmd := none, nsid := 1, lba := 0 } : SectorReq)], ladder := none } : ReadOp), 0, State.reset.onRch 0 fun r => { r with banks := [(0, 0x80000102), (1, 8192)] }, by decide⟩,
   ⟨1, ({ opId := 7, head := 1, zone := 2, track := 40, sectors := [({ sector := 3, tag := 9, dest := 0x80000000, nomA := 100, nomB := 4232, conts := [], cmd := none, nsid := 1, lba := 0 } : SectorReq)], ladder := none } : ReadOp), State.reset, by decide⟩,
   ⟨0, ({ samplesA := [3, 0x7D], samplesB := [1, 0x7F], servo := none } : GateInputs), ({ opId := 7, head := 1, zone := 2, track := 40, sectors := [({ sector := 3, tag := 9, dest := 0x80000000, nomA := 100, nomB := 4232, conts := [], cmd := none, nsid := 1, lba := 0 } : SectorReq)], ladder := none } : ReadOp), [], ({ sector := 3, tag := 9, dest := 0x80000000, nomA := 100, nomB := 4232, conts := [], cmd := none, nsid := 1, lba := 0 } : SectorReq), 0, 1, ((State.reset.onDom 20 fun x => { x with state := .on }).onDom 24 fun x => { x with state := .on }).onRch 0 fun r => { r with banks := [(0, 0x80000102), (1, 8192)], ops := [({ opId := 7, head := 1, zone := 2, track := 40, sectors := [({ sector := 3, tag := 9, dest := 0x80000000, nomA := 100, nomB := 4232, conts := [], cmd := none, nsid := 1, lba := 0 } : SectorReq)], ladder := none } : ReadOp)], next := 0, resPin := 1 }, by decide⟩,
   ⟨0, ({ samplesA := [3, 0x7D], samplesB := [1, 0x7F], servo := none } : GateInputs), ({ opId := 7, head := 1, zone := 2, track := 40, sectors := [({ sector := 3, tag := 9, dest := 0x80000000, nomA := 100, nomB := 4232, conts := [], cmd := none, nsid := 1, lba := 0 } : SectorReq)], ladder := none } : ReadOp), [], ({ sector := 3, tag := 9, dest := 0x80000000, nomA := 100, nomB := 4232, conts := [], cmd := none, nsid := 1, lba := 0 } : SectorReq), 0, ((State.reset.onDom 20 fun x => { x with state := .on }).onDom 24 fun x => { x with state := .on }).onRch 0 fun r => { r with banks := [(0, 0x80000102), (1, 8192)], ops := [({ opId := 7, head := 1, zone := 2, track := 40, sectors := [({ sector := 3, tag := 9, dest := 0x80000000, nomA := 100, nomB := 4232, conts := [], cmd := none, nsid := 1, lba := 0 } : SectorReq)], ladder := none } : ReadOp)], next := 0, resPin := 0xF, guestPin := 0xF0 }, by decide⟩,
   ⟨0, { b := true, a := false, dropout := true, length := 0xFFF, start := 0xFFFF }, ({ opId := 7, index := 0, head := 1, zone := 2, track := 40, req := ({ sector := 3, tag := 9, dest := 0x80000000, nomA := 100, nomB := 4232, conts := [], cmd := none, nsid := 1, lba := 0 } : SectorReq), ladder := none, bank := 0, words := [], miss := false, offSpeed := false, slot := 2, seq := 5, gateAt := 0, captured := false, regions := [], erasures := 0, staged := true, truncated := false, syncA := some 100, syncB := some 4232, conts := [], marks := .consistent, refill := false } : SectorJob), ({ samplesA := [3, 0x7D], samplesB := [1, 0x7F], truncated := false, regions := [{ b := true, a := false, dropout := true, length := 0xFFF, start := 0xFFFF }], lost := true, atLimit := true, gainA := 1, gainB := 2, llrs := [5], tapsA := [], tapsB := [] } : Capture), State.reset.onRch 0 fun r => { r with now := some ({ opId := 7, index := 0, head := 1, zone := 2, track := 40, req := ({ sector := 3, tag := 9, dest := 0x80000000, nomA := 100, nomB := 4232, conts := [], cmd := none, nsid := 1, lba := 0 } : SectorReq), ladder := none, bank := 0, words := [], miss := false, offSpeed := false, slot := 2, seq := 5, gateAt := 0, captured := false, regions := [], erasures := 0, staged := true, truncated := false, syncA := some 100, syncB := some 4232, conts := [], marks := .consistent, refill := false } : SectorJob), capture := some ({ samplesA := [3, 0x7D], samplesB := [1, 0x7F], truncated := false, regions := [{ b := true, a := false, dropout := true, length := 0xFFF, start := 0xFFFF }], lost := true, atLimit := true, gainA := 1, gainB := 2, llrs := [5], tapsA := [], tapsB := [] } : Capture) }, by decide⟩,
   ⟨1, ({ samplesA := [3, 0x7D], samplesB := [1, 0x7F], truncated := false, regions := [{ b := true, a := false, dropout := true, length := 0xFFF, start := 0xFFFF }], lost := true, atLimit := true, gainA := 1, gainB := 2, llrs := [5], tapsA := [], tapsB := [] } : Capture), State.reset.onRch 1 fun r => { r with reading := true, trLock := true, capture := some ({ samplesA := [3, 0x7D], samplesB := [1, 0x7F], truncated := false, regions := [{ b := true, a := false, dropout := true, length := 0xFFF, start := 0xFFFF }], lost := true, atLimit := true, gainA := 1, gainB := 2, llrs := [5], tapsA := [], tapsB := [] } : Capture) }, by decide⟩,
   ⟨0, ({ samplesA := [3, 0x7D], samplesB := [1, 0x7F], truncated := false, regions := [{ b := true, a := false, dropout := true, length := 0xFFF, start := 0xFFFF }], lost := true, atLimit := true, gainA := 1, gainB := 2, llrs := [5], tapsA := [], tapsB := [] } : Capture), ({ opId := 7, index := 0, head := 1, zone := 2, track := 40, req := ({ sector := 3, tag := 9, dest := 0x80000000, nomA := 100, nomB := 4232, conts := [], cmd := none, nsid := 1, lba := 0 } : SectorReq), ladder := none, bank := 0, words := [], miss := false, offSpeed := false, slot := 2, seq := 5, gateAt := 0, captured := false, regions := [], erasures := 0, staged := true, truncated := false, syncA := some 100, syncB := some 4232, conts := [], marks := .consistent, refill := false } : SectorJob), (State.reset.onFab fun f => { f with chipTime := 0x10000000 }).onRch 0 fun r => { r with now := some ({ opId := 7, index := 0, head := 1, zone := 2, track := 40, req := ({ sector := 3, tag := 9, dest := 0x80000000, nomA := 100, nomB := 4232, conts := [], cmd := none, nsid := 1, lba := 0 } : SectorReq), ladder := none, bank := 0, words := [], miss := false, offSpeed := false, slot := 2, seq := 5, gateAt := 0, captured := false, regions := [], erasures := 0, staged := true, truncated := false, syncA := some 100, syncB := some 4232, conts := [], marks := .consistent, refill := false } : SectorJob), capture := some ({ samplesA := [3, 0x7D], samplesB := [1, 0x7F], truncated := false, regions := [{ b := true, a := false, dropout := true, length := 0xFFF, start := 0xFFFF }], lost := true, atLimit := true, gainA := 1, gainB := 2, llrs := [5], tapsA := [], tapsB := [] } : Capture), reading := true }, by decide⟩⟩

/-- The hypotheses of `Obligations.DecodersTakeSectorsAndEndThem` can be met. -/
theorem test_decoders_take_sectors_and_end_them_hyps :
    (∃ (a : Fin 4) (b : StageBuf) (s : State), ((s.act a).rch.stage = [b] ∧ b.d2In = false ∧ b.job.refill = false ∧ (s.act a).rch.now = none ∧ (s.act a).rch.unstaged = [] ∧ s.llrsIn a b = true)) ∧
    (∃ (a : Fin 4) (b : ReplayBuf) (s : State), ((s.act a).rch.replayBuf = some b ∧ b.full = false ∧ s.replayIn a b = true)) ∧
    (∃ (a : Fin 4) (b : StageBuf) (s : State), ((s.act a).rch.stage = [b] ∧ b.job.refill = true ∧ b.d1In = false ∧ (s.act a).rch.replayBuf = none)) ∧
    (∃ (a : Fin 4) (b : StageBuf) (d : Nat) (l : List Nat) (s : State), (s.freeDecoders = d :: l ∧ d < 4 ∧ earliest s.otfRequests = some (a, b) ∧ (s.act a).rch.stage = [b])) ∧
    (∃ (a : Fin 4) (b : ReplayBuf) (d : Nat) (l : List Nat) (s : State), (s.freeDecoders = d :: l ∧ s.otfRequests = [] ∧ (s.act a).rch.replayBuf = some b ∧ b.full = true ∧ b.granted = none ∧ 2 * msTicks ≤ s.since b.since ∧ (s.act a).rch.replays = [])) ∧
    (∃ (d : Fin 8) (j : DecJob) (k : SectorJob) (r : DecodeResult) (o : Nat) (s : State), (Tab.get? s.pool.jobs d.val = some j ∧ Tab.rising s.pool.jobs = true ∧ Memory.wf s.fab.mem = true ∧ j.live = some k ∧ k.captured = false ∧ k.ladder = none ∧ k.req.cmd = none ∧ k.refill = false ∧ r = s.decodeResult j ∧ o = decodeOutcome k.req.tag r ∧ s.decodePast j r.iters = true)) ∧
    (∃ (d : Fin 8) (j : DecJob) (k : SectorJob) (s : State), (Tab.get? s.pool.jobs d.val = some j ∧ Tab.rising s.pool.jobs = true ∧ j.live = some k ∧ k.ladder = none)) ∧
    (∃ (d : Fin 8) (j : DecJob) (k : SectorJob) (s : State), (Tab.get? s.pool.jobs d.val = some j ∧ Tab.rising s.pool.jobs = true ∧ j.live = some k ∧ k.ladder = none ∧ 100 * usTicks ≤ s.since j.since)) :=
  ⟨⟨0, ({ job := ({ opId := 7, index := 0, head := 1, zone := 2, track := 40, req := ({ sector := 3, tag := 9, dest := 0x80000000, nomA := 100, nomB := 4232, conts := [], cmd := none, nsid := 1, lba := 0 } : SectorReq), ladder := none, bank := 0, words := [], miss := false, offSpeed := false, slot := 2, seq := 5, gateAt := 0, captured := false, regions := [], erasures := 0, staged := true, truncated := false, syncA := some 100, syncB := some 4232, conts := [], marks := .consistent, refill := false } : SectorJob), d1In := false, d2In := false, since := 0, llrs := [], granted := none } : StageBuf), (State.reset.onFab fun f => { f with chipTime := 0x10000000 }).onRch 0 fun r => { r with stage := [({ job := ({ opId := 7, index := 0, head := 1, zone := 2, track := 40, req := ({ sector := 3, tag := 9, dest := 0x80000000, nomA := 100, nomB := 4232, conts := [], cmd := none, nsid := 1, lba := 0 } : SectorReq), ladder := none, bank := 0, words := [], miss := false, offSpeed := false, slot := 2, seq := 5, gateAt := 0, captured := false, regions := [], erasures := 0, staged := true, truncated := false, syncA := some 100, syncB := some 4232, conts := [], marks := .consistent, refill := false } : SectorJob), d1In := false, d2In := false, since := 0, llrs := [], granted := none } : StageBuf)] }, by decide⟩,
   ⟨0, { ({ job := { resident := false, req := ({ resident := false, ladder := none, slot := 2, anchor := 0, index := 0, offset := 0, bank := none, weights := none, erase := 0, extra := 0, iter := 4 } : ReplayReq), job := ({ opId := 7, index := 0, head := 1, zone := 2, track := 40, req := ({ sector := 3, tag := 9, dest := 0x80000000, nomA := 100, nomB := 4232, conts := [], cmd := none, nsid := 1, lba := 0 } : SectorReq), ladder := none, bank := 0, words := [], miss := false, offSpeed := false, slot := 2, seq := 5, gateAt := 0, captured := false, regions := [], erasures := 0, staged := true, truncated := false, syncA := some 100, syncB := some 4232, conts := [], marks := .consistent, refill := false } : SectorJob) }, full := true, since := 0, llrs := [], erased := 0, granted := none, past2ms := false } : ReplayBuf) with full := false }, (State.reset.onFab fun f => { f with chipTime := 0x1000000000 }).onRch 0 fun r => { r with replayBuf := some { ({ job := { resident := false, req := ({ resident := false, ladder := none, slot := 2, anchor := 0, index := 0, offset := 0, bank := none, weights := none, erase := 0, extra := 0, iter := 4 } : ReplayReq), job := ({ opId := 7, index := 0, head := 1, zone := 2, track := 40, req := ({ sector := 3, tag := 9, dest := 0x80000000, nomA := 100, nomB := 4232, conts := [], cmd := none, nsid := 1, lba := 0 } : SectorReq), ladder := none, bank := 0, words := [], miss := false, offSpeed := false, slot := 2, seq := 5, gateAt := 0, captured := false, regions := [], erasures := 0, staged := true, truncated := false, syncA := some 100, syncB := some 4232, conts := [], marks := .consistent, refill := false } : SectorJob) }, full := true, since := 0, llrs := [], erased := 0, granted := none, past2ms := false } : ReplayBuf) with full := false } }, by decide⟩,
   ⟨0, { ({ job := ({ opId := 7, index := 0, head := 1, zone := 2, track := 40, req := ({ sector := 3, tag := 9, dest := 0x80000000, nomA := 100, nomB := 4232, conts := [], cmd := none, nsid := 1, lba := 0 } : SectorReq), ladder := none, bank := 0, words := [], miss := false, offSpeed := false, slot := 2, seq := 5, gateAt := 0, captured := false, regions := [], erasures := 0, staged := true, truncated := false, syncA := some 100, syncB := some 4232, conts := [], marks := .consistent, refill := false } : SectorJob), d1In := false, d2In := false, since := 0, llrs := [], granted := none } : StageBuf) with job := { ({ opId := 7, index := 0, head := 1, zone := 2, track := 40, req := ({ sector := 3, tag := 9, dest := 0x80000000, nomA := 100, nomB := 4232, conts := [], cmd := none, nsid := 1, lba := 0 } : SectorReq), ladder := none, bank := 0, words := [], miss := false, offSpeed := false, slot := 2, seq := 5, gateAt := 0, captured := false, regions := [], erasures := 0, staged := true, truncated := false, syncA := some 100, syncB := some 4232, conts := [], marks := .consistent, refill := false } : SectorJob) with refill := true } }, State.reset.onRch 0 fun r => { r with stage := [{ ({ job := ({ opId := 7, index := 0, head := 1, zone := 2, track := 40, req := ({ sector := 3, tag := 9, dest := 0x80000000, nomA := 100, nomB := 4232, conts := [], cmd := none, nsid := 1, lba := 0 } : SectorReq), ladder := none, bank := 0, words := [], miss := false, offSpeed := false, slot := 2, seq := 5, gateAt := 0, captured := false, regions := [], erasures := 0, staged := true, truncated := false, syncA := some 100, syncB := some 4232, conts := [], marks := .consistent, refill := false } : SectorJob), d1In := false, d2In := false, since := 0, llrs := [], granted := none } : StageBuf) with job := { ({ opId := 7, index := 0, head := 1, zone := 2, track := 40, req := ({ sector := 3, tag := 9, dest := 0x80000000, nomA := 100, nomB := 4232, conts := [], cmd := none, nsid := 1, lba := 0 } : SectorReq), ladder := none, bank := 0, words := [], miss := false, offSpeed := false, slot := 2, seq := 5, gateAt := 0, captured := false, regions := [], erasures := 0, staged := true, truncated := false, syncA := some 100, syncB := some 4232, conts := [], marks := .consistent, refill := false } : SectorJob) with refill := true } }] }, by decide⟩,
   ⟨0, { ({ job := ({ opId := 7, index := 0, head := 1, zone := 2, track := 40, req := ({ sector := 3, tag := 9, dest := 0x80000000, nomA := 100, nomB := 4232, conts := [], cmd := none, nsid := 1, lba := 0 } : SectorReq), ladder := none, bank := 0, words := [], miss := false, offSpeed := false, slot := 2, seq := 5, gateAt := 0, captured := false, regions := [], erasures := 0, staged := true, truncated := false, syncA := some 100, syncB := some 4232, conts := [], marks := .consistent, refill := false } : SectorJob), d1In := false, d2In := false, since := 0, llrs := [], granted := none } : StageBuf) with d1In := true, d2In := true }, 0, [1, 2, 3], ((State.reset.onDom 28 fun x => { x with state := .on }).onPool fun p => { p with online := 0xF }).onRch 0 fun r => { r with stage := [{ ({ job := ({ opId := 7, index := 0, head := 1, zone := 2, track := 40, req := ({ sector := 3, tag := 9, dest := 0x80000000, nomA := 100, nomB := 4232, conts := [], cmd := none, nsid := 1, lba := 0 } : SectorReq), ladder := none, bank := 0, words := [], miss := false, offSpeed := false, slot := 2, seq := 5, gateAt := 0, captured := false, regions := [], erasures := 0, staged := true, truncated := false, syncA := some 100, syncB := some 4232, conts := [], marks := .consistent, refill := false } : SectorJob), d1In := false, d2In := false, since := 0, llrs := [], granted := none } : StageBuf) with d1In := true, d2In := true }] }, by decide⟩,
   ⟨0, ({ job := { resident := false, req := ({ resident := false, ladder := none, slot := 2, anchor := 0, index := 0, offset := 0, bank := none, weights := none, erase := 0, extra := 0, iter := 4 } : ReplayReq), job := ({ opId := 7, index := 0, head := 1, zone := 2, track := 40, req := ({ sector := 3, tag := 9, dest := 0x80000000, nomA := 100, nomB := 4232, conts := [], cmd := none, nsid := 1, lba := 0 } : SectorReq), ladder := none, bank := 0, words := [], miss := false, offSpeed := false, slot := 2, seq := 5, gateAt := 0, captured := false, regions := [], erasures := 0, staged := true, truncated := false, syncA := some 100, syncB := some 4232, conts := [], marks := .consistent, refill := false } : SectorJob) }, full := true, since := 0, llrs := [], erased := 0, granted := none, past2ms := false } : ReplayBuf), 0, [1, 2, 3], (((State.reset.onFab fun f => { f with chipTime := 0x10000000 }).onDom 28 fun x => { x with state := .on }).onPool fun p => { p with online := 0xF }).onRch 0 fun r => { r with replayBuf := some ({ job := { resident := false, req := ({ resident := false, ladder := none, slot := 2, anchor := 0, index := 0, offset := 0, bank := none, weights := none, erase := 0, extra := 0, iter := 4 } : ReplayReq), job := ({ opId := 7, index := 0, head := 1, zone := 2, track := 40, req := ({ sector := 3, tag := 9, dest := 0x80000000, nomA := 100, nomB := 4232, conts := [], cmd := none, nsid := 1, lba := 0 } : SectorReq), ladder := none, bank := 0, words := [], miss := false, offSpeed := false, slot := 2, seq := 5, gateAt := 0, captured := false, regions := [], erasures := 0, staged := true, truncated := false, syncA := some 100, syncB := some 4232, conts := [], marks := .consistent, refill := false } : SectorJob) }, full := true, since := 0, llrs := [], erased := 0, granted := none, past2ms := false } : ReplayBuf) }, by decide⟩,
   ⟨0, ({ act := 1, live := some { ({ opId := 7, index := 0, head := 1, zone := 2, track := 40, req := ({ sector := 3, tag := 9, dest := 0x80000000, nomA := 100, nomB := 4232, conts := [], cmd := none, nsid := 1, lba := 0 } : SectorReq), ladder := none, bank := 0, words := [], miss := false, offSpeed := false, slot := 2, seq := 5, gateAt := 0, captured := false, regions := [], erasures := 0, staged := true, truncated := false, syncA := some 100, syncB := some 4232, conts := [], marks := .consistent, refill := false } : SectorJob) with captured := false }, replay := none, llrs := [], limit := 0, erased := 0, since := 0 } : DecJob), { ({ opId := 7, index := 0, head := 1, zone := 2, track := 40, req := ({ sector := 3, tag := 9, dest := 0x80000000, nomA := 100, nomB := 4232, conts := [], cmd := none, nsid := 1, lba := 0 } : SectorReq), ladder := none, bank := 0, words := [], miss := false, offSpeed := false, slot := 2, seq := 5, gateAt := 0, captured := false, regions := [], erasures := 0, staged := true, truncated := false, syncA := some 100, syncB := some 4232, conts := [], marks := .consistent, refill := false } : SectorJob) with captured := false }, _, _, (State.reset.onFab fun f => { f with chipTime := 1000 }).onPool fun p => { p with jobs := [(0, ({ act := 1, live := some { ({ opId := 7, index := 0, head := 1, zone := 2, track := 40, req := ({ sector := 3, tag := 9, dest := 0x80000000, nomA := 100, nomB := 4232, conts := [], cmd := none, nsid := 1, lba := 0 } : SectorReq), ladder := none, bank := 0, words := [], miss := false, offSpeed := false, slot := 2, seq := 5, gateAt := 0, captured := false, regions := [], erasures := 0, staged := true, truncated := false, syncA := some 100, syncB := some 4232, conts := [], marks := .consistent, refill := false } : SectorJob) with captured := false }, replay := none, llrs := [], limit := 0, erased := 0, since := 0 } : DecJob))] }, ⟨by decide, by decide, by decide, rfl, rfl, rfl, rfl, rfl, rfl, rfl, by decide +kernel⟩⟩,
   ⟨7, ({ act := 1, live := some { ({ opId := 7, index := 0, head := 1, zone := 2, track := 40, req := ({ sector := 3, tag := 9, dest := 0x80000000, nomA := 100, nomB := 4232, conts := [], cmd := none, nsid := 1, lba := 0 } : SectorReq), ladder := none, bank := 0, words := [], miss := false, offSpeed := false, slot := 2, seq := 5, gateAt := 0, captured := false, regions := [], erasures := 0, staged := true, truncated := false, syncA := some 100, syncB := some 4232, conts := [], marks := .consistent, refill := false } : SectorJob) with captured := false }, replay := none, llrs := [], limit := 0, erased := 0, since := 0 } : DecJob), { ({ opId := 7, index := 0, head := 1, zone := 2, track := 40, req := ({ sector := 3, tag := 9, dest := 0x80000000, nomA := 100, nomB := 4232, conts := [], cmd := none, nsid := 1, lba := 0 } : SectorReq), ladder := none, bank := 0, words := [], miss := false, offSpeed := false, slot := 2, seq := 5, gateAt := 0, captured := false, regions := [], erasures := 0, staged := true, truncated := false, syncA := some 100, syncB := some 4232, conts := [], marks := .consistent, refill := false } : SectorJob) with captured := false }, State.reset.onPool fun p => { p with online := 0xFF, jobs := [(7, ({ act := 1, live := some { ({ opId := 7, index := 0, head := 1, zone := 2, track := 40, req := ({ sector := 3, tag := 9, dest := 0x80000000, nomA := 100, nomB := 4232, conts := [], cmd := none, nsid := 1, lba := 0 } : SectorReq), ladder := none, bank := 0, words := [], miss := false, offSpeed := false, slot := 2, seq := 5, gateAt := 0, captured := false, regions := [], erasures := 0, staged := true, truncated := false, syncA := some 100, syncB := some 4232, conts := [], marks := .consistent, refill := false } : SectorJob) with captured := false }, replay := none, llrs := [], limit := 0, erased := 0, since := 0 } : DecJob))] }, by decide⟩,
   ⟨7, ({ act := 1, live := some { ({ opId := 7, index := 0, head := 1, zone := 2, track := 40, req := ({ sector := 3, tag := 9, dest := 0x80000000, nomA := 100, nomB := 4232, conts := [], cmd := none, nsid := 1, lba := 0 } : SectorReq), ladder := none, bank := 0, words := [], miss := false, offSpeed := false, slot := 2, seq := 5, gateAt := 0, captured := false, regions := [], erasures := 0, staged := true, truncated := false, syncA := some 100, syncB := some 4232, conts := [], marks := .consistent, refill := false } : SectorJob) with captured := false }, replay := none, llrs := [], limit := 0, erased := 0, since := 0 } : DecJob), { ({ opId := 7, index := 0, head := 1, zone := 2, track := 40, req := ({ sector := 3, tag := 9, dest := 0x80000000, nomA := 100, nomB := 4232, conts := [], cmd := none, nsid := 1, lba := 0 } : SectorReq), ladder := none, bank := 0, words := [], miss := false, offSpeed := false, slot := 2, seq := 5, gateAt := 0, captured := false, regions := [], erasures := 0, staged := true, truncated := false, syncA := some 100, syncB := some 4232, conts := [], marks := .consistent, refill := false } : SectorJob) with captured := false }, (State.reset.onFab fun f => { f with chipTime := 20000 }).onPool fun p => { p with online := 0xFF, jobs := [(7, ({ act := 1, live := some { ({ opId := 7, index := 0, head := 1, zone := 2, track := 40, req := ({ sector := 3, tag := 9, dest := 0x80000000, nomA := 100, nomB := 4232, conts := [], cmd := none, nsid := 1, lba := 0 } : SectorReq), ladder := none, bank := 0, words := [], miss := false, offSpeed := false, slot := 2, seq := 5, gateAt := 0, captured := false, regions := [], erasures := 0, staged := true, truncated := false, syncA := some 100, syncB := some 4232, conts := [], marks := .consistent, refill := false } : SectorJob) with captured := false }, replay := none, llrs := [], limit := 0, erased := 0, since := 0 } : DecJob))] }, by decide⟩⟩

/-- The hypotheses of `Obligations.ReplaysPinsAndLadders` can be met. -/
theorem test_replays_pins_and_ladders_hyps :
    (∃ (a : Fin 4) (k : Fin 8) (s : State), (s.slotValid a k.val = true ∧ s.slotCapturing a k.val = false ∧ s.pinOk a k.val = true ∧ Memory.wf s.fab.mem = true)) ∧
    (∃ (a : Fin 4) (k : Fin 8) (p : Bool) (s : State), (s.pinOk a k.val = false)) ∧
    (∃ (a : Fin 4) (k : Fin 8) (s : State), (s.recov.ladders = [] ∧ Memory.wf s.fab.mem = true)) ∧
    (∃ (a : Fin 4) (r : ReplayReq) (j : SectorJob) (s : State), (s.present a = true ∧ s.slotJob? a r.slot.toNat = some j ∧ r.resident = false ∧ r.anchor ≠ 3 ∧ -4 ≤ r.offset ∧ r.offset ≤ 4 ∧ (s.act a).rch.pinned.getLsbD r.slot.toNat = false ∧ (∀ b, (s.act b).rch.replays = []))) ∧
    (∃ (a : Fin 4) (r : ReplayReq) (j : SectorJob) (s : State), (s.slotJob? a r.slot.toNat = some j ∧ r.resident = false ∧ r.anchor ≠ 3 ∧ -4 ≤ r.offset ∧ r.offset ≤ 4 ∧ s.replayRefusal a r = none ∧ (∀ b, (s.act b).rch.replays = []) ∧ s.replayBusy a = true)) ∧
    (∃ (a : Fin 4) (r : ReplayReq) (s : State), (r.anchor = 3 ∧ (∀ b, (s.act b).rch.replays = []))) ∧
    (∃ (l : Ladder) (s : State), (s.recov.ladders = [l] ∧ l.wait = .pin ∧ msTicks ≤ s.since l.start ∧ s.sys.mode = .orientation ∧ s.ladderLate l = false ∧ s.plc.groups = [])) ∧
    (∃ (l : Ladder) (s : State), (s.recov.ladders = [l] ∧ l.wait = .pin ∧ l.step = 2 ∧ l.job.req.cmd = none ∧ l.converged = 0 ∧ l.limitedRetry = false ∧ s.sys.mode ≠ .orientation ∧ s.ladderLimit l.nsid ≤ s.msSince l.start)) ∧
    (∃ (l : Ladder) (s : State), (s.recov.ladders = [l] ∧ l.wait = .pin ∧ s.sys.mode = .orientation ∧ s.ladderLimit l.nsid ≤ s.msSince l.start)) ∧
    (∃ (l : Ladder) (g : RowGroup) (i : Nat) (x : RebuildInputs) (s : State), (s.recov.ladders = [l] ∧ l.wait = .parity ∧ l.step = 3 ∧ l.job.req.cmd = none ∧ s.sys.mode = .orientation ∧ s.groupOf l.act l.job.head l.job.zone l.job.track.toNat l.job.req.sector = some (g, i) ∧ x.missing = [i, g.k] ∧ i < g.k ∧ x.present = [(2, List.replicate 4096 0)] ∧ g.k = 1 ∧ Memory.wf s.fab.mem = true)) ∧
    (∃ (d : Detention) (s : State), (s.recov.detention = [d] ∧ d.count < s.p4420Threshold ∧ d.firstPoh + s.p4420WindowPoh < s.poh)) :=
  ⟨⟨0, 2, State.reset.setSlotWord 0 2 4 0x80000000, by decide⟩,
   ⟨0, 2, true, State.reset, by decide⟩,
   ⟨0, 7, State.reset.setSlotWord 0 2 4 0x80000000, by decide⟩,
   ⟨0, ({ resident := false, ladder := none, slot := 2, anchor := 0, index := 0, offset := 0, bank := none, weights := none, erase := 0, extra := 0, iter := 4 } : ReplayReq), ({ opId := 7, index := 0, head := 1, zone := 2, track := 40, req := ({ sector := 3, tag := 9, dest := 0x80000000, nomA := 100, nomB := 4232, conts := [], cmd := none, nsid := 1, lba := 0 } : SectorReq), ladder := none, bank := 0, words := [], miss := false, offSpeed := false, slot := 2, seq := 5, gateAt := 0, captured := false, regions := [], erasures := 0, staged := true, truncated := false, syncA := some 100, syncB := some 4232, conts := [], marks := .consistent, refill := false } : SectorJob), State.reset.onRch 0 fun r => { r with slotJobs := [(2, ({ opId := 7, index := 0, head := 1, zone := 2, track := 40, req := ({ sector := 3, tag := 9, dest := 0x80000000, nomA := 100, nomB := 4232, conts := [], cmd := none, nsid := 1, lba := 0 } : SectorReq), ladder := none, bank := 0, words := [], miss := false, offSpeed := false, slot := 2, seq := 5, gateAt := 0, captured := false, regions := [], erasures := 0, staged := true, truncated := false, syncA := some 100, syncB := some 4232, conts := [], marks := .consistent, refill := false } : SectorJob))] }, by decide⟩,
   ⟨0, ({ resident := false, ladder := none, slot := 2, anchor := 0, index := 0, offset := 0, bank := none, weights := none, erase := 0, extra := 0, iter := 4 } : ReplayReq), ({ opId := 7, index := 0, head := 1, zone := 2, track := 40, req := ({ sector := 3, tag := 9, dest := 0x80000000, nomA := 100, nomB := 4232, conts := [], cmd := none, nsid := 1, lba := 0 } : SectorReq), ladder := none, bank := 0, words := [], miss := false, offSpeed := false, slot := 2, seq := 5, gateAt := 0, captured := false, regions := [], erasures := 0, staged := true, truncated := false, syncA := some 100, syncB := some 4232, conts := [], marks := .consistent, refill := false } : SectorJob), State.reset.onRch 0 fun r => { r with slotJobs := [(2, ({ opId := 7, index := 0, head := 1, zone := 2, track := 40, req := ({ sector := 3, tag := 9, dest := 0x80000000, nomA := 100, nomB := 4232, conts := [], cmd := none, nsid := 1, lba := 0 } : SectorReq), ladder := none, bank := 0, words := [], miss := false, offSpeed := false, slot := 2, seq := 5, gateAt := 0, captured := false, regions := [], erasures := 0, staged := true, truncated := false, syncA := some 100, syncB := some 4232, conts := [], marks := .consistent, refill := false } : SectorJob))], guestPin := 4, replayBuf := some ({ job := { resident := false, req := ({ resident := false, ladder := none, slot := 2, anchor := 0, index := 0, offset := 0, bank := none, weights := none, erase := 0, extra := 0, iter := 4 } : ReplayReq), job := ({ opId := 7, index := 0, head := 1, zone := 2, track := 40, req := ({ sector := 3, tag := 9, dest := 0x80000000, nomA := 100, nomB := 4232, conts := [], cmd := none, nsid := 1, lba := 0 } : SectorReq), ladder := none, bank := 0, words := [], miss := false, offSpeed := false, slot := 2, seq := 5, gateAt := 0, captured := false, regions := [], erasures := 0, staged := true, truncated := false, syncA := some 100, syncB := some 4232, conts := [], marks := .consistent, refill := false } : SectorJob) }, full := true, since := 0, llrs := [], erased := 0, granted := none, past2ms := false } : ReplayBuf) }, by decide⟩,
   ⟨0, { ({ resident := false, ladder := none, slot := 2, anchor := 0, index := 0, offset := 0, bank := none, weights := none, erase := 0, extra := 0, iter := 4 } : ReplayReq) with anchor := 3 }, State.reset, by decide⟩,
   ⟨({ id := 4, act := 0, job := ({ opId := 7, index := 0, head := 1, zone := 2, track := 40, req := ({ sector := 3, tag := 9, dest := 0x80000000, nomA := 100, nomB := 4232, conts := [], cmd := none, nsid := 1, lba := 0 } : SectorReq), ladder := none, bank := 0, words := [], miss := false, offSpeed := false, slot := 2, seq := 5, gateAt := 0, captured := false, regions := [], erasures := 0, staged := true, truncated := false, syncA := some 100, syncB := some 4232, conts := [], marks := .consistent, refill := false } : SectorJob), nsid := 1, lba := 0, limitedRetry := false, start := 0, step := 2, wait := .pin, todo := [], out := 0, offsets := [], offset := 0, best := none, converged := 0, wrongPlace := 0, refilled := false, late := false } : Ladder), ({ State.reset with fab := { State.reset.fab with chipTime := 400000 } }.onSys fun y => { y with mode := .orientation }).onRecov fun r => { r with ladders := [({ id := 4, act := 0, job := ({ opId := 7, index := 0, head := 1, zone := 2, track := 40, req := ({ sector := 3, tag := 9, dest := 0x80000000, nomA := 100, nomB := 4232, conts := [], cmd := none, nsid := 1, lba := 0 } : SectorReq), ladder := none, bank := 0, words := [], miss := false, offSpeed := false, slot := 2, seq := 5, gateAt := 0, captured := false, regions := [], erasures := 0, staged := true, truncated := false, syncA := some 100, syncB := some 4232, conts := [], marks := .consistent, refill := false } : SectorJob), nsid := 1, lba := 0, limitedRetry := false, start := 0, step := 2, wait := .pin, todo := [], out := 0, offsets := [], offset := 0, best := none, converged := 0, wrongPlace := 0, refilled := false, late := false } : Ladder)] }, by decide⟩,
   ⟨({ id := 4, act := 0, job := ({ opId := 7, index := 0, head := 1, zone := 2, track := 40, req := ({ sector := 3, tag := 9, dest := 0x80000000, nomA := 100, nomB := 4232, conts := [], cmd := none, nsid := 1, lba := 0 } : SectorReq), ladder := none, bank := 0, words := [], miss := false, offSpeed := false, slot := 2, seq := 5, gateAt := 0, captured := false, regions := [], erasures := 0, staged := true, truncated := false, syncA := some 100, syncB := some 4232, conts := [], marks := .consistent, refill := false } : SectorJob), nsid := 1, lba := 0, limitedRetry := false, start := 0, step := 2, wait := .pin, todo := [], out := 0, offsets := [], offset := 0, best := none, converged := 0, wrongPlace := 0, refilled := false, late := false } : Ladder), ({ State.reset with fab := { State.reset.fab with chipTime := 1000000000 } }.onSys fun y => { y with mode := .service }).onRecov fun r => { r with ladders := [({ id := 4, act := 0, job := ({ opId := 7, index := 0, head := 1, zone := 2, track := 40, req := ({ sector := 3, tag := 9, dest := 0x80000000, nomA := 100, nomB := 4232, conts := [], cmd := none, nsid := 1, lba := 0 } : SectorReq), ladder := none, bank := 0, words := [], miss := false, offSpeed := false, slot := 2, seq := 5, gateAt := 0, captured := false, regions := [], erasures := 0, staged := true, truncated := false, syncA := some 100, syncB := some 4232, conts := [], marks := .consistent, refill := false } : SectorJob), nsid := 1, lba := 0, limitedRetry := false, start := 0, step := 2, wait := .pin, todo := [], out := 0, offsets := [], offset := 0, best := none, converged := 0, wrongPlace := 0, refilled := false, late := false } : Ladder)] }, by decide⟩,
   ⟨({ id := 4, act := 0, job := ({ opId := 7, index := 0, head := 1, zone := 2, track := 40, req := ({ sector := 3, tag := 9, dest := 0x80000000, nomA := 100, nomB := 4232, conts := [], cmd := none, nsid := 1, lba := 0 } : SectorReq), ladder := none, bank := 0, words := [], miss := false, offSpeed := false, slot := 2, seq := 5, gateAt := 0, captured := false, regions := [], erasures := 0, staged := true, truncated := false, syncA := some 100, syncB := some 4232, conts := [], marks := .consistent, refill := false } : SectorJob), nsid := 1, lba := 0, limitedRetry := false, start := 0, step := 2, wait := .pin, todo := [], out := 0, offsets := [], offset := 0, best := none, converged := 0, wrongPlace := 0, refilled := false, late := false } : Ladder), ({ State.reset with fab := { State.reset.fab with chipTime := 1000000000 } }.onSys fun y => { y with mode := .orientation }).onRecov fun r => { r with ladders := [({ id := 4, act := 0, job := ({ opId := 7, index := 0, head := 1, zone := 2, track := 40, req := ({ sector := 3, tag := 9, dest := 0x80000000, nomA := 100, nomB := 4232, conts := [], cmd := none, nsid := 1, lba := 0 } : SectorReq), ladder := none, bank := 0, words := [], miss := false, offSpeed := false, slot := 2, seq := 5, gateAt := 0, captured := false, regions := [], erasures := 0, staged := true, truncated := false, syncA := some 100, syncB := some 4232, conts := [], marks := .consistent, refill := false } : SectorJob), nsid := 1, lba := 0, limitedRetry := false, start := 0, step := 2, wait := .pin, todo := [], out := 0, offsets := [], offset := 0, best := none, converged := 0, wrongPlace := 0, refilled := false, late := false } : Ladder)] }, by decide⟩,
   ⟨{ ({ id := 4, act := 0, job := ({ opId := 7, index := 0, head := 1, zone := 2, track := 40, req := ({ sector := 3, tag := 9, dest := 0x80000000, nomA := 100, nomB := 4232, conts := [], cmd := none, nsid := 1, lba := 0 } : SectorReq), ladder := none, bank := 0, words := [], miss := false, offSpeed := false, slot := 2, seq := 5, gateAt := 0, captured := false, regions := [], erasures := 0, staged := true, truncated := false, syncA := some 100, syncB := some 4232, conts := [], marks := .consistent, refill := false } : SectorJob), nsid := 1, lba := 0, limitedRetry := false, start := 0, step := 2, wait := .pin, todo := [], out := 0, offsets := [], offset := 0, best := none, converged := 0, wrongPlace := 0, refilled := false, late := false } : Ladder) with wait := .parity, step := 3 }, { serial := 1, loc := { act := 0, head := 1, track := 40 }, sector := 3, zone := 2, k := 1, members := 1, closed := true, parity := true, stripe := 0, pos := 0, qOp := none, lastAt := 0 }, 0, { missing := [0, 1], present := [(2, List.replicate 4096 0)] }, ((State.reset.onSys fun y => { y with mode := .orientation }).onRecov fun r => { r with ladders := [{ ({ id := 4, act := 0, job := ({ opId := 7, index := 0, head := 1, zone := 2, track := 40, req := ({ sector := 3, tag := 9, dest := 0x80000000, nomA := 100, nomB := 4232, conts := [], cmd := none, nsid := 1, lba := 0 } : SectorReq), ladder := none, bank := 0, words := [], miss := false, offSpeed := false, slot := 2, seq := 5, gateAt := 0, captured := false, regions := [], erasures := 0, staged := true, truncated := false, syncA := some 100, syncB := some 4232, conts := [], marks := .consistent, refill := false } : SectorJob), nsid := 1, lba := 0, limitedRetry := false, start := 0, step := 2, wait := .pin, todo := [], out := 0, offsets := [], offset := 0, best := none, converged := 0, wrongPlace := 0, refilled := false, late := false } : Ladder) with wait := .parity, step := 3 }] }).onPlc fun p => { p with groups := [{ serial := 1, loc := { act := 0, head := 1, track := 40 }, sector := 3, zone := 2, k := 1, members := 1, closed := true, parity := true, stripe := 0, pos := 0, qOp := none, lastAt := 0 }] }, by refine ⟨rfl, rfl, rfl, rfl, rfl, by decide +kernel, rfl, by decide, rfl, rfl, by decide +kernel⟩⟩,
   ⟨{ act := 0, head := 0, zone := 0, count := 0, track := 0xFFFFFF, sector := 0, lastStep := 2, flags := 0, firstPoh := 0, lastPoh := 0, lba := 0, nsid := 0 }, (State.reset.onRc fun r => { r with poh := 1000000 }).onRecov fun r => { r with detention := [{ act := 0, head := 0, zone := 0, count := 0, track := 0xFFFFFF, sector := 0, lastStep := 2, flags := 0, firstPoh := 0, lastPoh := 0, lba := 0, nsid := 0 }] }, by decide⟩⟩

/-- The hypotheses of `Obligations.WritesAreAcceptedGatedAndCompleted` can be met. -/
theorem test_writes_are_accepted_gated_and_completed_hyps :
    (∃ (a : Fin 4) (op : WriteOp) (b : List Word) (s : State), (s.present a = true ∧ s.domOn (20 + a.val) = true ∧ s.wpChoose a op = some b ∧ (s.act a).wp.cause = 0)) ∧
    (∃ (a : Fin 4) (op : WriteOp) (s : State), (s.present a = true ∧ s.domOn (20 + a.val) = true ∧ s.wpChoose a op = none)) ∧
    (∃ (a : Fin 4) (o : WpOp) (s : State), (s.present a = true ∧ (s.act a).wp.ops = [o] ∧ o.bank = none ∧ s.wpChoose a o.op = none ∧ s.plc.chunks = [] ∧ s.plc.groups = [])) ∧
    (∃ (a : Fin 4) (o : WpOp) (r : List WpOp) (s : State), ((s.act a).wp.ops = o :: r ∧ o.bank.isSome = true)) ∧
    (∃ (a : Fin 4) (o : WpOp) (b : List Word) (src : Nat) (tag : BitVec 64) (room : Nat) (s : State), ((s.act a).wp.ops = [o] ∧ (s.act a).wp.inSector = false ∧ (s.act a).wp.cause = 0 ∧ o.cut = none ∧ o.bank = some b ∧ 1 ≤ o.written ∧ o.op.sectors[o.written]? = some (src, tag) ∧ 164 ≤ room)) ∧
    (∃ (a : Fin 4) (o : WpOp) (b : List Word) (room : Nat) (s : State), (s.present a = true ∧ (s.act a).wp.ops = [o] ∧ (s.act a).wp.inSector = false ∧ (s.act a).wp.cause = 0 ∧ o.cut = none ∧ o.bank = some b ∧ o.written < o.op.sectors.length ∧ 164 ≤ room ∧ (o.written = 0 → s.heatReady o = true))) ∧
    (∃ (a : Fin 4) (o : WpOp) (s : State), ((s.act a).wp.ops = [o] ∧ (s.act a).wp.writing = true ∧ (s.act a).wp.inSector = true ∧ sectorSpan ≤ (s.act a).wp.place)) ∧
    (∃ (a : Fin 4) (o : WpOp) (s : State), ((s.act a).wp.ops = [o] ∧ (s.act a).wp.writing = true ∧ (s.act a).wp.inSector = true ∧ (s.act a).wp.place < sectorSpan)) ∧
    (∃ (a : Fin 4) (o : WpOp) (room : Nat) (s : State), ((s.act a).wp.ops = [o] ∧ (s.act a).wp.inSector = true ∧ (s.act a).wp.place < sectorSpan ∧ (s.act a).wp.writing = false ∧ (s.act a).wp.wrd = [] ∧ (s.act a).wp.cause = 0)) ∧
    (∃ (a : Fin 4) (o : WpOp) (s : State), (s.present a = true ∧ (s.act a).wp.ops = [o] ∧ (s.act a).wp.inSector = true ∧ sectorSpan ≤ (s.act a).wp.place ∧ o.cut = none ∧ o.written + 1 = o.op.sectors.length ∧ s.plc.chunks = [] ∧ s.plc.groups = [])) ∧
    (∃ (a : Fin 4) (s : State), ((s.act a).wp.ops = [] ∧ Tab.get? (s.act a).psc.acked 2 ≠ some 2 ∧ 100 * usTicks ≤ s.since (s.act a).wp.lastEnd)) :=
  ⟨⟨0, ({ opId := 7, head := 1, zone := 2, track := 40, first := 0, sectors := [(0x80000000, 1), (0x80001000, 2)] } : WriteOp), (0x80000102 :: 8192 :: List.replicate 14 0), (State.reset.onDom 20 fun x => { x with state := .on }).onWp 0 fun w => { w with cause := 0, banks := [(0, 0x80000102), (1, 8192)] }, by decide⟩,
   ⟨0, ({ opId := 7, head := 1, zone := 2, track := 40, first := 0, sectors := [(0x80000000, 1), (0x80001000, 2)] } : WriteOp), State.reset.onDom 20 fun x => { x with state := .on }, by decide⟩,
   ⟨0, { ({ op := ({ opId := 7, head := 1, zone := 2, track := 40, first := 0, sectors := [(0x80000000, 1), (0x80001000, 2)] } : WriteOp), bank := some [], trim := 0, written := 0, tries := 0, heatAt := none, cut := none, target := 0 } : WpOp) with bank := none }, State.reset.onWp 0 fun w => { w with ops := [{ ({ op := ({ opId := 7, head := 1, zone := 2, track := 40, first := 0, sectors := [(0x80000000, 1), (0x80001000, 2)] } : WriteOp), bank := some [], trim := 0, written := 0, tries := 0, heatAt := none, cut := none, target := 0 } : WpOp) with bank := none }] }, by decide⟩,
   ⟨0, ({ op := ({ opId := 7, head := 1, zone := 2, track := 40, first := 0, sectors := [(0x80000000, 1), (0x80001000, 2)] } : WriteOp), bank := some [], trim := 0, written := 0, tries := 0, heatAt := none, cut := none, target := 0 } : WpOp), [], State.reset.onWp 0 fun w => { w with ops := [({ op := ({ opId := 7, head := 1, zone := 2, track := 40, first := 0, sectors := [(0x80000000, 1), (0x80001000, 2)] } : WriteOp), bank := some [], trim := 0, written := 0, tries := 0, heatAt := none, cut := none, target := 0 } : WpOp)] }, by decide⟩,
   ⟨0, { ({ op := ({ opId := 7, head := 1, zone := 2, track := 40, first := 0, sectors := [(0x80000000, 1), (0x80001000, 2)] } : WriteOp), bank := some [], trim := 0, written := 0, tries := 0, heatAt := none, cut := none, target := 0 } : WpOp) with written := 1 }, [], 0x80001000, 2, 20000, State.reset.onWp 0 fun w => { w with ops := [{ ({ op := ({ opId := 7, head := 1, zone := 2, track := 40, first := 0, sectors := [(0x80000000, 1), (0x80001000, 2)] } : WriteOp), bank := some [], trim := 0, written := 0, tries := 0, heatAt := none, cut := none, target := 0 } : WpOp) with written := 1 }], cause := 0, inSector := false }, by decide⟩,
   ⟨0, { ({ op := ({ opId := 7, head := 1, zone := 2, track := 40, first := 0, sectors := [(0x80000000, 1), (0x80001000, 2)] } : WriteOp), bank := some [], trim := 0, written := 0, tries := 0, heatAt := none, cut := none, target := 0 } : WpOp) with written := 1 }, [], 37088, State.reset.onWp 0 fun w => { w with ops := [{ ({ op := ({ opId := 7, head := 1, zone := 2, track := 40, first := 0, sectors := [(0x80000000, 1), (0x80001000, 2)] } : WriteOp), bank := some [], trim := 0, written := 0, tries := 0, heatAt := none, cut := none, target := 0 } : WpOp) with written := 1 }], cause := 0, inSector := false }, by decide⟩,
   ⟨0, ({ op := ({ opId := 7, head := 1, zone := 2, track := 40, first := 0, sectors := [(0x80000000, 1), (0x80001000, 2)] } : WriteOp), bank := some [], trim := 0, written := 0, tries := 0, heatAt := none, cut := none, target := 0 } : WpOp), State.reset.onWp 0 fun w => { w with ops := [({ op := ({ opId := 7, head := 1, zone := 2, track := 40, first := 0, sectors := [(0x80000000, 1), (0x80001000, 2)] } : WriteOp), bank := some [], trim := 0, written := 0, tries := 0, heatAt := none, cut := none, target := 0 } : WpOp)], writing := true, inSector := true, place := 37088 }, by decide⟩,
   ⟨0, ({ op := ({ opId := 7, head := 1, zone := 2, track := 40, first := 0, sectors := [(0x80000000, 1), (0x80001000, 2)] } : WriteOp), bank := some [], trim := 0, written := 0, tries := 0, heatAt := none, cut := none, target := 0 } : WpOp), State.reset.onWp 0 fun w => { w with ops := [({ op := ({ opId := 7, head := 1, zone := 2, track := 40, first := 0, sectors := [(0x80000000, 1), (0x80001000, 2)] } : WriteOp), bank := some [], trim := 0, written := 0, tries := 0, heatAt := none, cut := none, target := 0 } : WpOp)], writing := true, inSector := true }, by decide⟩,
   ⟨0, ({ op := ({ opId := 7, head := 1, zone := 2, track := 40, first := 0, sectors := [(0x80000000, 1), (0x80001000, 2)] } : WriteOp), bank := some [], trim := 0, written := 0, tries := 0, heatAt := none, cut := none, target := 0 } : WpOp), 20000, State.reset.onWp 0 fun w => { w with ops := [({ op := ({ opId := 7, head := 1, zone := 2, track := 40, first := 0, sectors := [(0x80000000, 1), (0x80001000, 2)] } : WriteOp), bank := some [], trim := 0, written := 0, tries := 0, heatAt := none, cut := none, target := 0 } : WpOp)], inSector := true, place := 20000, writing := false, cause := 0 }, by decide⟩,
   ⟨0, { ({ op := ({ opId := 7, head := 1, zone := 2, track := 40, first := 0, sectors := [(0x80000000, 1), (0x80001000, 2)] } : WriteOp), bank := some [], trim := 0, written := 0, tries := 0, heatAt := none, cut := none, target := 0 } : WpOp) with written := 1 }, State.reset.onWp 0 fun w => { w with ops := [{ ({ op := ({ opId := 7, head := 1, zone := 2, track := 40, first := 0, sectors := [(0x80000000, 1), (0x80001000, 2)] } : WriteOp), bank := some [], trim := 0, written := 0, tries := 0, heatAt := none, cut := none, target := 0 } : WpOp) with written := 1 }], inSector := true, place := 37088 }, by decide⟩,
   ⟨0, ({ State.reset with fab := { State.reset.fab with chipTime := 20000 } } : State), by decide⟩⟩

/-- The hypotheses of `Obligations.WriteInhibitCausesCutSectors` can be met. -/
theorem test_write_inhibit_causes_cut_sectors_hyps :
    (∃ (a : Fin 4) (s : State), (s.present a = true ∧ (s.act a).wp.cause = 0 ∧ (s.act a).wp.writing = false)) ∧
    (∃ (a : Fin 4) (s : State), (s.present a = true ∧ (s.act a).wp.cause = 0x800)) ∧
    (∃ (a : Fin 4) (v12 v5 : Nat) (s : State), (s.present a = true ∧ s.supplyInWindow a v12 v5 = false ∧ (s.act a).wp.cause.getLsbD 6 = false)) ∧
    (∃ (a : Fin 4) (v12 v5 : Nat) (s : State), (s.supplyInWindow a v12 v5 = false ∧ (s.act a).wp.cause.getLsbD 6 = true)) ∧
    (∃ (a : Fin 4) (v12 v5 : Nat) (s : State), (s.supplyInWindow a v12 v5 = true)) ∧
    (∃ (a : Fin 4) (s : State), (100 * usTicks ≤ s.since (s.act a).wp.supplyOut)) ∧
    (∃ (a : Fin 4) (o : WpOp) (c : Nat × BitVec 64) (b : List Word) (room : Nat) (s : State), ((s.act a).wp.ops = [o] ∧ (s.act a).wp.cause = 0 ∧ o.cut = some c ∧ o.bank = some b ∧ s.since c.2 ≤ s.p4800ResWin a * msTicks ∧ (s.act a).svd.target = o.target ∧ (s.act a).svd.head = o.op.head ∧ o.tries < s.p4800ResTries a ∧ 1 ≤ o.written ∧ 164 ≤ room)) ∧
    (∃ (a : Fin 4) (o : WpOp) (c : Nat × BitVec 64) (b : List Word) (room : Nat) (s : State), (s.present a = true ∧ (s.act a).wp.ops = [o] ∧ (s.act a).wp.cause = 0 ∧ o.cut = some c ∧ o.bank = some b ∧ s.since c.2 ≤ s.p4800ResWin a * msTicks ∧ (s.act a).svd.target = o.target ∧ (s.act a).svd.head = o.op.head ∧ s.p4800ResTries a ≤ o.tries ∧ s.plc.chunks = [] ∧ s.plc.groups = [])) ∧
    (∃ (a : Fin 4) (o : WpOp) (c : Nat × BitVec 64) (s : State), ((s.act a).wp.ops = [o] ∧ o.cut = some c ∧ s.p4800ResWin a * msTicks < s.since c.2 ∧ (s.act a).wp.cause ≠ 0 ∧ s.plc.chunks = [] ∧ s.plc.groups = [])) :=
  ⟨⟨0, State.reset.onWp 0 fun w => { w with cause := 0 }, by decide⟩,
   ⟨0, State.reset.onWp 0 fun w => { w with cause := 0x800 }, by decide⟩,
   ⟨0, 0, 5000, State.reset, by decide⟩,
   ⟨0, 0, 5000, State.reset.onWp 0 fun w => { w with cause := 0x40 }, by decide⟩,
   ⟨0, 12000, 5000, State.reset, by decide⟩,
   ⟨0, ({ State.reset with fab := { State.reset.fab with chipTime := 20000 } } : State), by decide⟩,
   ⟨0, { ({ op := ({ opId := 7, head := 1, zone := 2, track := 40, first := 0, sectors := [(0x80000000, 1), (0x80001000, 2)] } : WriteOp), bank := some [], trim := 0, written := 0, tries := 0, heatAt := none, cut := none, target := 0 } : WpOp) with written := 1, cut := some (5, 0) }, (5, 0), [], 20000, (State.reset.onSvd 0 fun d => { d with head := 1, target := 0 }).onWp 0 fun w => { w with ops := [{ ({ op := ({ opId := 7, head := 1, zone := 2, track := 40, first := 0, sectors := [(0x80000000, 1), (0x80001000, 2)] } : WriteOp), bank := some [], trim := 0, written := 0, tries := 0, heatAt := none, cut := none, target := 0 } : WpOp) with written := 1, cut := some (5, 0) }], cause := 0 }, by decide⟩,
   ⟨0, { ({ op := ({ opId := 7, head := 1, zone := 2, track := 40, first := 0, sectors := [(0x80000000, 1), (0x80001000, 2)] } : WriteOp), bank := some [], trim := 0, written := 0, tries := 0, heatAt := none, cut := none, target := 0 } : WpOp) with tries := 100, cut := some (5, 0) }, (5, 0), [], 20000, (State.reset.onSvd 0 fun d => { d with head := 1, target := 0 }).onWp 0 fun w => { w with ops := [{ ({ op := ({ opId := 7, head := 1, zone := 2, track := 40, first := 0, sectors := [(0x80000000, 1), (0x80001000, 2)] } : WriteOp), bank := some [], trim := 0, written := 0, tries := 0, heatAt := none, cut := none, target := 0 } : WpOp) with tries := 100, cut := some (5, 0) }], cause := 0 }, by decide⟩,
   ⟨0, { ({ op := ({ opId := 7, head := 1, zone := 2, track := 40, first := 0, sectors := [(0x80000000, 1), (0x80001000, 2)] } : WriteOp), bank := some [], trim := 0, written := 0, tries := 0, heatAt := none, cut := none, target := 0 } : WpOp) with cut := some (5, 0) }, (5, 0), { State.reset with fab := { State.reset.fab with chipTime := 400000000 } }.onWp 0 fun w => { w with ops := [{ ({ op := ({ opId := 7, head := 1, zone := 2, track := 40, first := 0, sectors := [(0x80000000, 1), (0x80001000, 2)] } : WriteOp), bank := some [], trim := 0, written := 0, tries := 0, heatAt := none, cut := none, target := 0 } : WpOp) with cut := some (5, 0) }] }, by decide⟩⟩

/-- The hypotheses of `Obligations.PreampFramesSetThePreamp` can be met. -/
theorem test_preamp_frames_set_the_preamp_hyps :
    (∃ (a : Fin 4) (s : State), ((s.act a).psc.linkUp = true ∧ s.pscTurn a (s.pscFrame a 0 0) = true)) ∧
    (∃ (a : Fin 4) (h : BitVec 5) (s : State), ((s.act a).psc.linkUp = true ∧ s.pscTurn a (s.pscFrame a 1 (h.setWidth 16)) = true)) ∧
    (∃ (a : Fin 4) (m : BitVec 2) (s : State), ((s.act a).psc.linkUp = true ∧ s.pscTurn a (s.pscFrame a 2 (m.setWidth 16)) = true)) ∧
    (∃ (a : Fin 4) (g : Bool) (s : State), ((s.act a).psc.linkUp = true ∧ s.pscTurn a (s.pscFrame a 3 (if g then 1 else 0)) = true)) ∧
    (∃ (a : Fin 4) (rb ra : BitVec 8) (s : State), ((s.act a).psc.linkUp = true ∧ s.pscTurn a (s.pscFrame a 4 (rb ++ ra)) = true)) ∧
    (∃ (a : Fin 4) (o c : BitVec 8) (s : State), ((s.act a).psc.linkUp = true ∧ s.pscTurn a (s.pscFrame a 5 (o ++ c)) = true)) ∧
    (∃ (a : Fin 4) (v : BitVec 8) (s : State), ((s.act a).psc.linkUp = true ∧ s.pscTurn a (s.pscFrame a 6 (v.setWidth 16)) = true)) ∧
    (∃ (a : Fin 4) (v : BitVec 12) (s : State), ((s.act a).psc.linkUp = true ∧ s.pscTurn a (s.pscFrame a 7 (v.setWidth 16)) = true)) ∧
    (∃ (a : Fin 4) (v : BitVec 12) (s : State), ((s.act a).psc.linkUp = true ∧ s.pscTurn a (s.pscFrame a 8 (v.setWidth 16)) = true)) ∧
    (∃ (a : Fin 4) (v : BitVec 10) (s : State), ((s.act a).psc.linkUp = true ∧ s.pscTurn a (s.pscFrame a 9 (v.setWidth 16)) = true)) ∧
    (∃ (a : Fin 4) (v : BitVec 10) (s : State), ((s.act a).psc.linkUp = true ∧ s.pscTurn a (s.pscFrame a 0xA (v.setWidth 16)) = true)) ∧
    (∃ (a : Fin 4) (n : BitVec 4) (s : State), ((s.act a).psc.linkUp = true ∧ s.pscTurn a (s.pscFrame a 0xB (n.setWidth 16)) = true)) ∧
    (∃ (a : Fin 4) (b h : BitVec 16) (s : State), ((s.act a).psc.linkUp = true ∧ s.pscTurn a (s.pscFrame a 0xC b) = true)) ∧
    (∃ (a : Fin 4) (s : State), (((s.act a).psc.linkUp = true ∨ (s.act a).psc.started = true) ∧ s.pscTurn a (s.pscFrame a 0xD 0) = true)) ∧
    (∃ (a : Fin 4) (b : BitVec 3) (s : State), (((s.act a).psc.linkUp = true ∨ (s.act a).psc.started = true) ∧ s.pscTurn a (s.pscFrame a 0x10 (b.setWidth 16)) = true)) ∧
    (∃ (a : Fin 4) (h : BitVec 5) (s : State), ((s.act a).psc.linkUp = false)) :=
  ⟨⟨0, (State.reset.onPsc 0 fun p => { p with linkUp := true, started := true }), by decide⟩,
   ⟨0, 31, (State.reset.onPsc 0 fun p => { p with linkUp := true, started := true }), by decide⟩,
   ⟨0, 3, (State.reset.onPsc 0 fun p => { p with linkUp := true, started := true }), by decide⟩,
   ⟨0, true, (State.reset.onPsc 0 fun p => { p with linkUp := true, started := true }), by decide⟩,
   ⟨0, 1, 2, (State.reset.onPsc 0 fun p => { p with linkUp := true, started := true }), by decide⟩,
   ⟨0, 1, 2, (State.reset.onPsc 0 fun p => { p with linkUp := true, started := true }), by decide⟩,
   ⟨0, 255, (State.reset.onPsc 0 fun p => { p with linkUp := true, started := true }), by decide⟩,
   ⟨0, 0xFFF, (State.reset.onPsc 0 fun p => { p with linkUp := true, started := true }), by decide⟩,
   ⟨0, 0xFFF, (State.reset.onPsc 0 fun p => { p with linkUp := true, started := true }), by decide⟩,
   ⟨0, 0x3FF, (State.reset.onPsc 0 fun p => { p with linkUp := true, started := true }), by decide⟩,
   ⟨0, 0x3FF, (State.reset.onPsc 0 fun p => { p with linkUp := true, started := true }), by decide⟩,
   ⟨0, 15, (State.reset.onPsc 0 fun p => { p with linkUp := true, started := true }), by decide⟩,
   ⟨0, 0xFFF, 1, (State.reset.onPsc 0 fun p => { p with linkUp := true, started := true }), by decide⟩,
   ⟨0, State.reset.onPsc 0 fun p => { p with linkUp := false, started := true }, by decide⟩,
   ⟨0, 7, State.reset.onPsc 0 fun p => { p with linkUp := false, started := true }, by decide⟩,
   ⟨0, 1, State.reset.onPsc 0 fun p => { p with linkUp := false }, by decide⟩⟩

/-- The hypotheses of `Obligations.PscRepliesFaultsAndLinkState` can be met. -/
theorem test_psc_replies_faults_and_link_state_hyps :
    (∃ (a : Fin 4) (x : PscWait) (s : State), ((s.act a).psc.waits = [x] ∧ x.code = 5 ∧ x.raw = false)) ∧
    (∃ (a : Fin 4) (x : PscWait) (s : State), ((s.act a).psc.waits = [x] ∧ x.code = 5 ∧ (s.act a).psc.linkUp = false)) ∧
    (∃ (a : Fin 4) (s : State), ((s.act a).psc.senseReq = true ∧ (s.act a).psc.sensor = 2)) ∧
    (∃ (a : Fin 4) (s : State), (s.present a = true ∧ (s.act a).wp.writing = false)) ∧
    (∃ (a : Fin 4) (s : State), ((s.act a).psc.started = true ∧ (s.act a).psc.linkUp = false)) ∧
    (∃ (a : Fin 4) (s : State), (s.present a = true ∧ (s.act a).psc.started = true ∧ (s.act a).wp.writing = false)) ∧
    (∃ (a : Fin 4) (x : PscWait) (s : State), ((s.act a).psc.waits = [x] ∧ x.again < 3 ∧ x.code = 7 ∧ ackTicks ≤ s.since x.sent)) ∧
    (∃ (a : Fin 4) (x : PscWait) (s : State), (s.present a = true ∧ (s.act a).psc.waits = [x] ∧ 3 ≤ x.again ∧ ackTicks ≤ s.since x.sent ∧ (s.act a).psc.declaredDown = false ∧ (s.act a).wp.writing = false)) ∧
    (∃ (a : Fin 4) (s : State), ((s.act a).psc.started = true ∧ (s.act a).psc.linkUp = false ∧ 10 * usTicks ≤ s.since (s.act a).psc.probeAt)) ∧
    (∃ (a : Fin 4) (s : State), ((s.act a).pre.mode ≠ 0 ∧ 4 * usTicks ≤ s.since (s.act a).pre.heard)) ∧
    (∃ (a : Fin 4) (b : BitVec 16) (s : State), (s.domOn (20 + a.val) = true ∧ (s.act a).wp.writing = false ∧ (s.act a).pre.faults ||| (b &&& 0x0FFF) ≠ 0)) ∧
    (∃ (a : Fin 4) (s : State), ((s.act a).pre.faults = 0)) ∧
    (∃ (a : Fin 4) (s : State), ((s.act a).pre.faults ≠ 0)) ∧
    (∃ (a : Fin 4) (s : State), (s.present a = true ∧ (s.act a).psc.pfl = false ∧ (s.act a).psc.named = false ∧ 2 * usTicks ≤ s.since (s.act a).psc.pflAt ∧ (s.act a).wp.writing = false)) ∧
    (∃ (a : Fin 4) (u : BitVec 64) (s : State), ((s.act a).psc.senseReq = true ∧ (s.act a).psc.senseAt = some u ∧ 2 * usTicks ≤ s.since u)) ∧
    (∃ (a : Fin 4) (n : BitVec 4) (s : State), ((s.act a).psc.senseReq = false)) ∧
    (∃ (a : Fin 4) (code : BitVec 6) (d : BitVec 16) (s : State), (code = 3 ∨ (code = 2 ∧ d.toNat % 4 = 3))) ∧
    (∃ (a : Fin 4) (code : BitVec 6) (d : BitVec 16) (s : State), (code ≠ 3 ∧ ¬ (code = 2 ∧ d.toNat % 4 = 3))) :=
  ⟨⟨0, { code := 5, data := 9, raw := false, again := 0, sent := 0 }, State.reset.onPsc 0 fun p => { p with waits := [{ code := 5, data := 9, raw := false, again := 0, sent := 0 }] }, by decide⟩,
   ⟨0, { code := 5, data := 9, raw := false, again := 0, sent := 0 }, State.reset.onPsc 0 fun p => { p with waits := [{ code := 5, data := 9, raw := false, again := 0, sent := 0 }] }, by decide⟩,
   ⟨0, State.reset.onPsc 0 fun p => { p with senseReq := true, sensor := 2 }, by decide⟩,
   ⟨0, State.reset.onWp 0 fun w => { w with writing := false }, by decide⟩,
   ⟨0, State.reset.onPsc 0 fun p => { p with started := true, linkUp := false }, by decide⟩,
   ⟨0, (State.reset.onWp 0 fun w => { w with writing := false }).onPsc 0 fun p => { p with started := true, linkUp := true }, by decide⟩,
   ⟨0, { code := 7, data := 9, raw := false, again := 0, sent := 0 }, ({ State.reset with fab := { State.reset.fab with chipTime := 20000 } } : State).onPsc 0 fun p => { p with waits := [{ code := 7, data := 9, raw := false, again := 0, sent := 0 }] }, by decide⟩,
   ⟨0, { code := 7, data := 9, raw := false, again := 3, sent := 0 }, ({ State.reset with fab := { State.reset.fab with chipTime := 20000 } } : State).onPsc 0 fun p => { p with waits := [{ code := 7, data := 9, raw := false, again := 3, sent := 0 }] }, by decide⟩,
   ⟨0, (({ State.reset with fab := { State.reset.fab with chipTime := 20000 } } : State)).onPsc 0 fun p => { p with started := true, linkUp := false }, by decide⟩,
   ⟨0, (({ State.reset with fab := { State.reset.fab with chipTime := 20000 } } : State)).onPre 0 fun p => { p with mode := 2 }, by decide⟩,
   ⟨0, 0x400, State.reset.onDom 20 fun x => { x with state := .on }, by decide⟩,
   ⟨0, State.reset, by decide⟩,
   ⟨0, State.reset.onPre 0 fun p => { p with faults := 4 }, by decide⟩,
   ⟨0, ((({ State.reset with fab := { State.reset.fab with chipTime := 20000 } } : State)).onWp 0 fun w => { w with writing := false }).onPsc 0 fun p => { p with pfl := false, named := false }, by decide⟩,
   ⟨0, 0, (({ State.reset with fab := { State.reset.fab with chipTime := 20000 } } : State)).onPsc 0 fun p => { p with senseReq := true, senseAt := some 0 }, by decide⟩,
   ⟨0, 15, State.reset.onPsc 0 fun p => { p with senseReq := false }, by decide⟩,
   ⟨0, 2, 0xFFFF, State.reset, by decide⟩,
   ⟨0, 2, 0xFFFE, State.reset, by decide⟩⟩

/-- The hypotheses of `Obligations.PlacementDestagesAndClosesGroups` can be met. -/
theorem test_placement_destages_and_closes_groups_hyps :
    (∃ (c : ChunkInputs) (p : Page) (i : Nat) (st : Stripe) (g : RowGroup) (s : State), (s.buf.pages = [p] ∧ p.unit = c.gmu ∧ p.state = .dirty ∧ c.len = 1 ∧ 4096 ≤ s.p1420Chunk ∧ s.cmd? c.cmd = none ∧ s.pickStripe c none = some i ∧ s.plc.stripes[i]? = some st ∧ s.openGroup i = some g ∧ g.members + 1 < g.k ∧ st.write = g.pos + g.members ∧ st.write % max 1 st.size < st.size ∧ s.plc.extents.length + s.plc.chunks.length < s.plc.extentCap)) ∧
    (∃ (c : ChunkInputs) (p : Page) (s : State), (s.buf.pages = [p] ∧ p.unit = c.gmu ∧ p.state = .dirty ∧ c.len = 1 ∧ 4096 ≤ s.p1420Chunk ∧ s.cmd? c.cmd = none ∧ s.pickStripe c none = none ∧ s.plc.extents.length + s.plc.chunks.length < s.plc.extentCap)) ∧
    (∃ (g : RowGroup) (st : Stripe) (spare : Nat) (s : State), (s.plc.groups = [g] ∧ g.closed = false ∧ g.qOp = none ∧ s.plc.stripes[g.stripe]? = some st ∧ g.members < g.k ∧ s.groupDue g = true)) ∧
    (∃ (g : RowGroup) (spare : Nat) (s : State), (s.plc.groups = [g] ∧ g.closed = false ∧ g.qOp = none ∧ g.members < g.k ∧ s.p1420GroupIdle * msTicks > s.since g.lastAt ∧ s.sys.entry = none ∧ s.sys.shutKind = none ∧ (Tab.get? s.plc.parity g.serial).isSome = true)) ∧
    (∃ (b : BandEntry) (s : State), (s.plc.bands = [b] ∧ b.state = .home ∧ s.plc.tempSince + s.p1430TempWindow ≤ s.poh)) ∧
    (∃ (s : State), (s.poh < s.plc.tempSince + s.p1430TempWindow)) :=
  ⟨⟨({ cmd := 5, gmu := 70, len := 1, seeks := [], src := 0x80000000, spare := 0x80010000 } : ChunkInputs), ({ unit := 70, state := .dirty, gen := 3, cids := [5], frees := none } : Page), 0, ({ act := 0, head := 1, zone := 2, first := 100, spt := 400, size := 40000, write := 10, tail := 0 } : Stripe), ({ serial := 1, loc := { act := 0, head := 1, track := 100 }, sector := 0, zone := 2, k := 8, members := 3, closed := false, parity := true, stripe := 0, pos := 7, qOp := none, lastAt := 0 } : RowGroup), ((State.reset.onIsl 0 fun i => { i with load := .loaded }).onBuf fun b => { b with pages := [({ unit := 70, state := .dirty, gen := 3, cids := [5], frees := none } : Page)] }).onPlc fun p => { p with stripes := [({ act := 0, head := 1, zone := 2, first := 100, spt := 400, size := 40000, write := 10, tail := 0 } : Stripe)], groups := [({ serial := 1, loc := { act := 0, head := 1, track := 100 }, sector := 0, zone := 2, k := 8, members := 3, closed := false, parity := true, stripe := 0, pos := 7, qOp := none, lastAt := 0 } : RowGroup)], heads := [], parity := [(1, ([], []))] }, by decide⟩,
   ⟨({ cmd := 5, gmu := 70, len := 1, seeks := [], src := 0x80000000, spare := 0x80010000 } : ChunkInputs), ({ unit := 70, state := .dirty, gen := 3, cids := [5], frees := none } : Page), State.reset.onBuf fun b => { b with pages := [({ unit := 70, state := .dirty, gen := 3, cids := [5], frees := none } : Page)] }, by decide⟩,
   ⟨({ serial := 1, loc := { act := 0, head := 1, track := 100 }, sector := 0, zone := 2, k := 8, members := 3, closed := false, parity := true, stripe := 0, pos := 7, qOp := none, lastAt := 0 } : RowGroup), ({ act := 0, head := 1, zone := 2, first := 100, spt := 400, size := 40000, write := 10, tail := 0 } : Stripe), 0x80010000, State.reset.onPlc fun p => { p with stripes := [({ act := 0, head := 1, zone := 2, first := 100, spt := 400, size := 40000, write := 10, tail := 0 } : Stripe)], groups := [({ serial := 1, loc := { act := 0, head := 1, track := 100 }, sector := 0, zone := 2, k := 8, members := 3, closed := false, parity := true, stripe := 0, pos := 7, qOp := none, lastAt := 0 } : RowGroup)], parity := [] }, by decide⟩,
   ⟨({ serial := 1, loc := { act := 0, head := 1, track := 100 }, sector := 0, zone := 2, k := 8, members := 3, closed := false, parity := true, stripe := 0, pos := 7, qOp := none, lastAt := 0 } : RowGroup), 0x80010000, State.reset.onPlc fun p => { p with groups := [({ serial := 1, loc := { act := 0, head := 1, track := 100 }, sector := 0, zone := 2, k := 8, members := 3, closed := false, parity := true, stripe := 0, pos := 7, qOp := none, lastAt := 0 } : RowGroup)], parity := [(1, ([], []))] }, by decide⟩,
   ⟨({ glb := 0, loc := some { act := 0, head := 1, track := 100 }, gen := 1, state := .home, temp := 0, zone := 1, replan := false, merging := false, cached := 0, writes := 300, geom := ({ k := 32, serial := 0, used := 0 } : BandGeom) } : BandEntry), (State.reset.onRc fun r => { r with poh := 30 }).onPlc fun p => { p with bands := [({ glb := 0, loc := some { act := 0, head := 1, track := 100 }, gen := 1, state := .home, temp := 0, zone := 1, replan := false, merging := false, cached := 0, writes := 300, geom := ({ k := 32, serial := 0, used := 0 } : BandGeom) } : BandEntry)] }, by decide⟩,
   ⟨State.reset, by decide⟩⟩

/-- The hypotheses of `Obligations.JournalCommitsAndCheckpoints` can be met. -/
theorem test_journal_commits_and_checkpoints_hyps :
    (∃ (order : List (Fin 4)) (s : State), (s.plc.commit = none ∧ s.plc.pend ≠ [] ∧ s.p1410Quorum ≤ ((order.filter fun a => s.usable a).eraseDups).length ∧ 1 ≤ s.p1410Quorum ∧ s.commitDue = true)) ∧
    (∃ (order : List (Fin 4)) (s : State), ((s.plc.commit.isSome = true ∨ s.plc.pend = [] ∨ s.commitDue = false))) ∧
    (∃ (a : Fin 4) (c : Commit) (s : State), (s.plc.commit = some c ∧ c.acts = actPut 0 a true ∧ c.done = 0)) ∧
    (∃ (a : Fin 4) (c : Commit) (s : State), (s.plc.commit = some c ∧ c.acts = actPut 0 a true ∧ c.done = 0 ∧ s.sys.mode = .service ∧ s.sys.entry = none ∧ s.sys.exiting = false ∧ s.sys.shutStage = none)) ∧
    (∃ (c : Commit) (s : State), (s.plc.commit = some c ∧ c.missed = false ∧ s.deadlinePast c.since = true)) ∧
    (∃ (s : State), ((∀ c, s.plc.commit = some c → s.deadlinePast c.since = false) ∧ s.deadlinePast s.plc.pendSince = false)) ∧
    (∃ (a : Fin 4) (s : State), (s.usable a = true)) ∧
    (∃ (s : State), (s.p1410CkptEvery ≤ s.plc.sinceCkpt ∧ s.plc.ckptRun = none)) ∧
    (∃ (k : Ckpt) (s : State), (s.plc.ckptRun = some k)) :=
  ⟨⟨[0, 1], ((State.reset.onIsl 0 fun i => { i with load := .loaded }).onIdent fun i => { i with tier := .a }).onIsl 1 (fun i => { i with load := .loaded }) |>.onPlc fun p => { p with pend := [.groupEnd 3, .genFloor 2], pendSince := some 0 }, by decide⟩,
   ⟨[0], State.reset.onPlc fun p => { p with pend := [] }, by decide⟩,
   ⟨0, ({ sectors := [{ seq := 1, ckpt := 0, entries := [.groupEnd 0] }], acts := 1, done := 0, used := 1, since := some 0, missed := false } : Commit), State.reset.onPlc fun p => { p with commit := some ({ sectors := [{ seq := 1, ckpt := 0, entries := [.groupEnd 0] }], acts := 1, done := 0, used := 1, since := some 0, missed := false } : Commit) }, by decide⟩,
   ⟨0, ({ sectors := [{ seq := 1, ckpt := 0, entries := [.groupEnd 0] }], acts := 1, done := 0, used := 1, since := some 0, missed := false } : Commit), (State.reset.onSys fun y => { y with mode := .service }).onPlc fun p => { p with commit := some ({ sectors := [{ seq := 1, ckpt := 0, entries := [.groupEnd 0] }], acts := 1, done := 0, used := 1, since := some 0, missed := false } : Commit) }, by decide⟩,
   ⟨({ sectors := [{ seq := 1, ckpt := 0, entries := [.groupEnd 0] }], acts := 1, done := 0, used := 1, since := some 0, missed := false } : Commit), (State.reset.onFab fun f => { f with chipTime := 100000000 }).onPlc fun p => { p with commit := some ({ sectors := [{ seq := 1, ckpt := 0, entries := [.groupEnd 0] }], acts := 1, done := 0, used := 1, since := some 0, missed := false } : Commit) }, by decide⟩,
   ⟨State.reset, by decide⟩,
   ⟨0, (State.reset.onIsl 0 fun i => { i with load := .loaded }), by decide⟩,
   ⟨State.reset.onPlc fun p => { p with sinceCkpt := 1000000 }, by decide⟩,
   ⟨({ seq := 2, jseq := 5, bands := [], extents := [], gen := 0, groups := [], nss := [], detention := [], held := [] } : Ckpt), State.reset.onPlc fun p => { p with ckptRun := some ({ seq := 2, jseq := 5, bands := [], extents := [], gen := 0, groups := [], nss := [], detention := [], held := [] } : Ckpt) }, by decide⟩⟩

/-- The hypotheses of `Obligations.HomeworkJobsCopyAndEnd` can be met. -/
theorem test_homework_jobs_copy_and_end_hyps :
    (∃ (j : JobReq) (s : State), (s.sys.mode = .service ∧ j.code = 4 ∧ s.p1430HwEnable = true ∧ s.tt.recovery = false ∧ s.tt.protDie = false ∧ s.tt.protDiode = false ∧ s.sys.entry = none ∧ j.sector = none)) ∧
    (∃ (j : JobReq) (s : State), (s.sys.mode ≠ .service ∧ s.sys.mode ≠ .orientation)) ∧
    (∃ (j : Job) (bad : List Nat) (s : State), (s.plc.jobs = [j] ∧ s.jobStops j = false ∧ j.track + 1 < j.tracks)) ∧
    (∃ (j : Job) (bad : List Nat) (s : State), (s.plc.jobs = [j] ∧ s.jobStops j = true)) ∧
    (∃ (j : Job) (bad : List Nat) (s : State), (s.plc.jobs = [j] ∧ s.jobStops j = false ∧ j.tracks ≤ j.track + 1 ∧ j.req.code = 4 ∧ s.plc.held = [])) :=
  ⟨⟨({ code := 4, band := 0, act := 0, head := 0, toAct := 0, toHead := 0, toZone := 0, toTrack := 0, sector := none } : JobReq), State.reset.onSys fun y => { y with mode := .service }, by decide⟩,
   ⟨({ code := 4, band := 0, act := 0, head := 0, toAct := 0, toHead := 0, toZone := 0, toTrack := 0, sector := none } : JobReq), State.reset, by decide⟩,
   ⟨({ id := 3, req := ({ code := 4, band := 0, act := 0, head := 0, toAct := 0, toHead := 0, toZone := 0, toTrack := 0, sector := none } : JobReq), obligatory := false, gen := 0, track := 0, tracks := 5, bad := [], src := [], old := none, geom := ({ k := 32, serial := 0, used := 0 } : BandGeom), cls := 0, sectors := 0, stop := false, since := 0 } : Job), [], State.reset.onPlc fun p => { p with jobs := [({ id := 3, req := ({ code := 4, band := 0, act := 0, head := 0, toAct := 0, toHead := 0, toZone := 0, toTrack := 0, sector := none } : JobReq), obligatory := false, gen := 0, track := 0, tracks := 5, bad := [], src := [], old := none, geom := ({ k := 32, serial := 0, used := 0 } : BandGeom), cls := 0, sectors := 0, stop := false, since := 0 } : Job)] }, by decide⟩,
   ⟨{ ({ id := 3, req := ({ code := 4, band := 0, act := 0, head := 0, toAct := 0, toHead := 0, toZone := 0, toTrack := 0, sector := none } : JobReq), obligatory := false, gen := 0, track := 0, tracks := 5, bad := [], src := [], old := none, geom := ({ k := 32, serial := 0, used := 0 } : BandGeom), cls := 0, sectors := 0, stop := false, since := 0 } : Job) with stop := true }, [], State.reset.onPlc fun p => { p with jobs := [{ ({ id := 3, req := ({ code := 4, band := 0, act := 0, head := 0, toAct := 0, toHead := 0, toZone := 0, toTrack := 0, sector := none } : JobReq), obligatory := false, gen := 0, track := 0, tracks := 5, bad := [], src := [], old := none, geom := ({ k := 32, serial := 0, used := 0 } : BandGeom), cls := 0, sectors := 0, stop := false, since := 0 } : Job) with stop := true }] }, by decide⟩,
   ⟨{ ({ id := 3, req := ({ code := 4, band := 0, act := 0, head := 0, toAct := 0, toHead := 0, toZone := 0, toTrack := 0, sector := none } : JobReq), obligatory := false, gen := 0, track := 0, tracks := 5, bad := [], src := [], old := none, geom := ({ k := 32, serial := 0, used := 0 } : BandGeom), cls := 0, sectors := 0, stop := false, since := 0 } : Job) with tracks := 0 }, [], State.reset.onPlc fun p => { p with jobs := [{ ({ id := 3, req := ({ code := 4, band := 0, act := 0, head := 0, toAct := 0, toHead := 0, toZone := 0, toTrack := 0, sector := none } : JobReq), obligatory := false, gen := 0, track := 0, tracks := 5, bad := [], src := [], old := none, geom := ({ k := 32, serial := 0, used := 0 } : BandGeom), cls := 0, sectors := 0, stop := false, since := 0 } : Job) with tracks := 0 }] }, by decide⟩⟩

/-- The hypotheses of `Obligations.TimetablePeriodsAndAdmission` can be met. -/
theorem test_timetable_periods_and_admission_hyps :
    (∃ (s : State), (s.ttRuns = true ∧ s.boundaryDue = true ∧ s.sys.entry = none ∧ s.sys.shutStage = none ∧ s.tt.recovery = false ∧ s.lateAdmitted = 0)) ∧
    (∃ (x : Admitted) (k : Cmd) (s : State), (s.ttRuns = true ∧ s.boundaryDue = true ∧ s.sys.entry = none ∧ s.sys.shutStage = none ∧ s.tt.recovery = false ∧ s.tt.admitted = [x] ∧ x.ended = false ∧ s.nvme.cmds = [k] ∧ x.cmd = some k.n ∧ k.lateSeen = true)) ∧
    (∃ (a : Fin 4) (c : Cand) (p : Plan) (s : State), (s.ttRuns = true ∧ c.act = a ∧ c.seek = false ∧ c.plans = [p] ∧ c.kind = .optional false ∧ s.candAllowed c = true ∧ s.tt.admitted = [] ∧ s.tt.alone = none ∧ s.tt.block12 = false ∧ s.tt.block5 = false ∧ s.passes a (slotOf s.ticks) false p = true)) ∧
    (∃ (a : Fin 4) (c : Cand) (p : Plan) (s : State), (s.ttRuns = true ∧ c.act = a ∧ c.seek = false ∧ c.plans = [p] ∧ c.kind = .optional false ∧ s.passes a (slotOf s.ticks) false p = false ∧ s.tooBig c = false)) ∧
    (∃ (n : Nat) (k : Cmd) (s : State), (s.nvme.cmds = [k] ∧ k.n = n ∧ k.due.toNat ≤ s.ticks)) ∧
    (∃ (o : Oblig) (s : State), (s.tt.oblig = [o] ∧ o.missed = false ∧ o.due.toNat ≤ s.ticks)) :=
  ⟨⟨(({ State.reset with fab := { State.reset.fab with chipTime := 200000000000 } } : State).onSys fun y => { y with mode := .service }).onTt fun v => { v with admitted := [({ id := 9, act := 0, cmd := none, kind := none, raw := 0, cls := 1, seek := true, start := 0, mA12 := [10], mA5 := [], ended := false } : Admitted)] }, by decide⟩,
   ⟨{ ({ id := 9, act := 0, cmd := none, kind := none, raw := 0, cls := 1, seek := true, start := 0, mA12 := [10], mA5 := [], ended := false } : Admitted) with cmd := some 3 }, { ({ n := 3, ctrl := 0, sqid := 1, cid := 0, opcode := 2, admin := false, nsid := 1, lba := 0, nlb := 1, limitedRetry := false, places := [], gen := 0, fua := false, handle := none, due := 0, need := .nothing, status := nvOk, dw0 := 0, lateSeen := false } : Cmd) with lateSeen := true }, ((({ State.reset with fab := { State.reset.fab with chipTime := 200000000000 } } : State).onSys fun y => { y with mode := .service }).onTt fun v => { v with admitted := [{ ({ id := 9, act := 0, cmd := none, kind := none, raw := 0, cls := 1, seek := true, start := 0, mA12 := [10], mA5 := [], ended := false } : Admitted) with cmd := some 3 }] }).onNvme fun v => { v with cmds := [{ ({ n := 3, ctrl := 0, sqid := 1, cid := 0, opcode := 2, admin := false, nsid := 1, lba := 0, nlb := 1, limitedRetry := false, places := [], gen := 0, fua := false, handle := none, due := 0, need := .nothing, status := nvOk, dw0 := 0, lateSeen := false } : Cmd) with lateSeen := true }] }, by decide⟩,
   ⟨0, ({ id := 4, act := 0, head := 1, kind := .optional false, due := 0xFFFFFFFF, tAcc := 3, seek := false, plans := [({ cls := 1, us := 20, acc := [0, 0], gates := [], load := false, cal := false, ramp := 0 } : Plan)] } : Cand), ({ cls := 1, us := 20, acc := [0, 0], gates := [], load := false, cal := false, ramp := 0 } : Plan), (({ State.reset with fab := { State.reset.fab with chipTime := 200000000000 } } : State).onSys fun y => { y with mode := .service }).onTt fun v => { v with admitted := [], alone := none, block12 := false, block5 := false }, by decide⟩,
   ⟨0, { ({ id := 4, act := 0, head := 1, kind := .optional false, due := 0xFFFFFFFF, tAcc := 3, seek := false, plans := [({ cls := 1, us := 20, acc := [0, 0], gates := [], load := false, cal := false, ramp := 0 } : Plan)] } : Cand) with plans := [{ ({ cls := 1, us := 20, acc := [0, 0], gates := [], load := false, cal := false, ramp := 0 } : Plan) with gates := [2, 2] }] }, { ({ cls := 1, us := 20, acc := [0, 0], gates := [], load := false, cal := false, ramp := 0 } : Plan) with gates := [2, 2] }, (({ State.reset with fab := { State.reset.fab with chipTime := 200000000000 } } : State).onSys fun y => { y with mode := .service }).onTt fun v => { v with admitted := [{ ({ id := 9, act := 0, cmd := none, kind := none, raw := 0, cls := 1, seek := true, start := 0, mA12 := [10], mA5 := [], ended := false } : Admitted) with act := 1, mA5 := [1000000] }] }, by decide⟩,
   ⟨3, ({ n := 3, ctrl := 0, sqid := 1, cid := 0, opcode := 2, admin := false, nsid := 1, lba := 0, nlb := 1, limitedRetry := false, places := [], gen := 0, fua := false, handle := none, due := 0, need := .nothing, status := nvOk, dw0 := 0, lateSeen := false } : Cmd), (({ State.reset with fab := { State.reset.fab with chipTime := 200000000000 } } : State).onSys fun y => { y with mode := .service }).onNvme fun v => { v with cmds := [({ n := 3, ctrl := 0, sqid := 1, cid := 0, opcode := 2, admin := false, nsid := 1, lba := 0, nlb := 1, limitedRetry := false, places := [], gen := 0, fua := false, handle := none, due := 0, need := .nothing, status := nvOk, dw0 := 0, lateSeen := false } : Cmd)] }, by decide⟩,
   ⟨({ kind := 3, job := 6, act := none, due := 0, missed := false } : Oblig), (({ State.reset with fab := { State.reset.fab with chipTime := 200000000000 } } : State).onSys fun y => { y with mode := .service }).onTt fun v => { v with oblig := [({ kind := 3, job := 6, act := none, due := 0, missed := false } : Oblig)] }, by decide⟩⟩

/-- The hypotheses of `Obligations.TimetableHeatCruisePoolAndCalibration` can be met. -/
theorem test_timetable_heat_cruise_pool_and_calibration_hyps :
    (∃ (a : Fin 4) (h : BitVec 5) (v : Int) (s : State), (s.usable a = true ∧ Tab.get? s.tt.polledAt (32 * a.val + h.toNat) = none ∧ s.tt.protHeads = [] ∧ v < 8 * s.p1840HeadLimit)) ∧
    (∃ (a : Fin 4) (h : BitVec 5) (v : Int) (s : State), (s.usable a = true ∧ Tab.get? s.tt.polledAt (32 * a.val + h.toNat) = none ∧ s.tt.protHeads = [] ∧ 8 * s.p1840HeadLimit ≤ v)) ∧
    (∃ (s : State), (s.sys.mode = .service ∧ secTicks ≤ s.since s.tt.secondAt ∧ s.p2040CruiseEnable = true ∧ s.sys.entry = none ∧ s.sys.shutStage = none ∧ s.tt.decidedAt = none ∧ s.tt.protDie = true ∧ s.tt.recovery = false ∧ s.recov.ladders = [] ∧ s.spn.cruise = false ∧ s.p2040CruiseMin ≤ s.p2010RatedRpm)) ∧
    (∃ (s : State), (s.sys.mode ≠ .service ∧ secTicks ≤ s.since s.tt.secondAt)) ∧
    (∃ (s : State), (s.ttRuns = true ∧ (s.dom 29).state = .on ∧ s.upperBusy = false ∧ (s.dom 28).state = .on ∧ s.p1800PoolIdleMs ≤ s.msSince s.tt.grantAt)) ∧
    (∃ (s : State), (s.replayRequests.any (fun r => decide (200 * usTicks ≤ s.since r.2.2.since)) = true ∧ s.ttRuns = true ∧ s.tt.protDie = false ∧ s.pwr.hwWarn = false ∧ (s.dom 29).state = .off ∧ (s.dom 29).suspended = false ∧ s.domPresent 29 = true ∧ (s.dom 6).state = .on)) ∧
    (∃ (a : Fin 4) (v : BitVec 32) (s : State), (s.domOn (20 + a.val) = true ∧ v.extractLsb' 0 16 ≠ 0 ∧ v.getLsbD 29 = true)) ∧
    (∃ (a : Fin 4) (v : BitVec 32) (s : State), (s.domOn (20 + a.val) = true ∧ v.extractLsb' 0 16 = 0)) ∧
    (∃ (a : Fin 4) (s : State), ((s.act a).isl.cal.req = true)) ∧
    (∃ (a : Fin 4) (s : State), ((s.act a).isl.cal.req = true ∧ (s.act a).isl.cal.active = false ∧ s.ttRuns = true ∧ s.actBusy a = false ∧ s.unsafeAct a = false ∧ s.foreWaits a = false ∧ s.tt.recovery = false ∧ s.tt.protDie = false ∧ s.tt.protDiode = false ∧ s.tt.protHeads = [] ∧ (s.act a).isl.cal.duration.toNat ≤ 100 * s.p1860CalMaxMs)) ∧
    (∃ (a : Fin 4) (s : State), ((s.act a).isl.cal.active = true)) ∧
    (∃ (a : Fin 4) (s : State), ((s.act a).isl.cal.active = true ∧ s.calLeft a = 0)) :=
  ⟨⟨0, 3, 0, State.reset.onIsl 0 fun i => { i with load := .loaded }, by decide⟩,
   ⟨0, 3, 10000, State.reset.onIsl 0 fun i => { i with load := .loaded }, by decide⟩,
   ⟨((({ State.reset with fab := { State.reset.fab with chipTime := 200000000000 } } : State).onSys fun y => { y with mode := .service }).onSpn fun p => { p with cruise := false }).onTt fun v => { v with protDie := true }, by decide⟩,
   ⟨{ State.reset with fab := { State.reset.fab with chipTime := 200000000 } }, by decide⟩,
   ⟨((({ State.reset with fab := { State.reset.fab with chipTime := 200000000000 } } : State).onSys fun y => { y with mode := .service }).onDom 28 fun x => { x with state := .on }).onDom 29 fun x => { x with state := .on }, by decide⟩,
   ⟨((({ State.reset with fab := { State.reset.fab with chipTime := 200000000000 } } : State).onSys fun y => { y with mode := .service }).onDom 6 fun x => { x with state := .on }).onRch 0 fun r => { r with replayBuf := some { job := { resident := true, req := ({ resident := false, ladder := none, slot := 2, anchor := 0, index := 0, offset := 0, bank := none, weights := none, erase := 0, extra := 0, iter := 4 } : ReplayReq), job := ({ opId := 7, index := 0, head := 1, zone := 2, track := 40, req := ({ sector := 3, tag := 9, dest := 0x80000000, nomA := 100, nomB := 4232, conts := [], cmd := none, nsid := 1, lba := 0 } : SectorReq), ladder := none, bank := 0, words := [], miss := false, offSpeed := false, slot := 2, seq := 5, gateAt := 0, captured := false, regions := [], erasures := 0, staged := true, truncated := false, syncA := some 100, syncB := some 4232, conts := [], marks := .consistent, refill := false } : SectorJob) }, full := true, since := 0, llrs := [], erased := 0, granted := none, past2ms := false } }, by decide⟩,
   ⟨0, 0x20010001, State.reset.onDom 20 fun x => { x with state := .on }, by decide⟩,
   ⟨0, 0x20010000, State.reset.onDom 20 fun x => { x with state := .on }, by decide⟩,
   ⟨0, State.reset.onIsl 0 fun i => { i with cal := { i.cal with req := true } }, by decide⟩,
   ⟨0, (({ State.reset with fab := { State.reset.fab with chipTime := 200000000000 } } : State).onSys fun y => { y with mode := .service }).onIsl 0 fun i => { i with cal := { i.cal with req := true, active := false, duration := 1 } }, by decide⟩,
   ⟨0, State.reset.onIsl 0 fun i => { i with cal := { i.cal with active := true, given := 0 } }, by decide⟩,
   ⟨0, State.reset.onIsl 0 fun i => { i with cal := { i.cal with active := true, given := 0 } }, by decide⟩⟩

/-- The hypotheses of `Obligations.AdminQueueAndDataCommands` can be met. -/
theorem test_admin_queue_and_data_commands_hyps :
    (∃ (h : NvmeHdr) (q z v : Nat) (s : State), (FetchesAdmin h s ∧ 1 ≤ q ∧ q ≤ s.queuesGranted h.ctrl true ∧ s.cq? h.ctrl q = none ∧ 2 ≤ z ∧ z ≤ 4096 ∧ v ≤ 64)) ∧
    (∃ (h : NvmeHdr) (q z c p : Nat) (s : State), (FetchesAdmin h s ∧ 1 ≤ q ∧ q ≤ s.queuesGranted h.ctrl false ∧ s.sq? h.ctrl q = none ∧ 2 ≤ z ∧ z ≤ 4096 ∧ 1 ≤ c ∧ (s.cq? h.ctrl c).isSome = true)) ∧
    (∃ (h : NvmeHdr) (q z c p : Nat) (s : State), (FetchesAdmin h s ∧ 1 ≤ q ∧ q ≤ s.queuesGranted h.ctrl false ∧ s.sq? h.ctrl q = none ∧ (z < 2 ∨ 4096 < z))) ∧
    (∃ (h : NvmeHdr) (q : Nat) (s : State), (FetchesAdmin h s ∧ 1 ≤ q ∧ (s.sq? h.ctrl q).isSome = true)) ∧
    (∃ (h : NvmeHdr) (q : Nat) (s : State), (FetchesAdmin h s ∧ 1 ≤ q ∧ (s.cq? h.ctrl q).isSome = true ∧ (s.ctrl h.ctrl).sqs.all (fun x => x.cqid != q) = true)) ∧
    (∃ (h : NvmeHdr) (q : Nat) (s : State), (FetchesAdmin h s ∧ 1 ≤ q ∧ (s.cq? h.ctrl q).isSome = true ∧ (s.ctrl h.ctrl).sqs.any (fun x => x.cqid == q) = true)) ∧
    (∃ (h : NvmeHdr) (x : Ns) (s : State), (FetchesAdmin h s ∧ s.ns? 1 = some x ∧ x.attached.getLsbD h.ctrl.val = true)) ∧
    (∃ (h : NvmeHdr) (nsid off len : Nat) (rae : Bool) (s : State), (FetchesAdmin h s)) ∧
    (∃ (h : NvmeHdr) (nsid len : Nat) (rae : Bool) (s : State), (FetchesAdmin h s)) ∧
    (∃ (h : NvmeHdr) (q i : Nat) (s : State), (FetchesAdmin h s ∧ s.outstanding h.ctrl 8 (s.nvme.fetched + 1) < 4)) ∧
    (∃ (h : NvmeHdr) (q i : Nat) (s : State), (FetchesAdmin h s ∧ 4 ≤ s.outstanding h.ctrl 8 (s.nvme.fetched + 1))) ∧
    (∃ (h : NvmeHdr) (s : State), (FetchesAdmin h s ∧ s.outstanding h.ctrl 12 (s.nvme.fetched + 1) < 4 ∧ s.nvme.aens = [])) ∧
    (∃ (h : NvmeHdr) (e : Aen) (s : State), (FetchesAdmin h s ∧ s.outstanding h.ctrl 12 (s.nvme.fetched + 1) < 4 ∧ s.nvme.aens = [e] ∧ e.ctrl = h.ctrl)) ∧
    (∃ (h : NvmeHdr) (op : BitVec 8) (s : State), (FetchesAdmin h s)) ∧
    (∃ (h : NvmeHdr) (op : BitVec 8) (s : State), (FetchesIo h s)) :=
  ⟨⟨({ ctrl := 0, sqid := 0, cid := 5 } : NvmeHdr), 64, 4096, 64, (((((State.reset.onPorts fun p => { p with perst := false }).onSys fun y => { y with hostConfigured := true, mode := .service }).onDom 12 fun x => { x with state := .on }).onPort 0 fun p => { p with up := true, l12 := false }).onCtrl 0 fun c => { c with en := true, rdy := true, fetchStopped := false, sqs := [({ id := 0, size := 32, cqid := 0, prio := 0, tail := 1, head := 0 } : Sq)], cqs := [({ id := 0, size := 32, vector := 0, tail := 0, head := 0 } : Cq)] }), by decide⟩,
   ⟨({ ctrl := 0, sqid := 0, cid := 5 } : NvmeHdr), 2, 2, 1, 3, (((((((State.reset.onPorts fun p => { p with perst := false }).onSys fun y => { y with hostConfigured := true, mode := .service }).onDom 12 fun x => { x with state := .on }).onPort 0 fun p => { p with up := true, l12 := false }).onCtrl 0 fun c => { c with en := true, rdy := true, fetchStopped := false, sqs := [({ id := 0, size := 32, cqid := 0, prio := 0, tail := 1, head := 0 } : Sq)], cqs := [({ id := 0, size := 32, vector := 0, tail := 0, head := 0 } : Cq)] }).onCtrl 0 fun c => { c with sqs := [({ id := 0, size := 32, cqid := 0, prio := 0, tail := 1, head := 0 } : Sq), ({ id := 1, size := 4, cqid := 1, prio := 0, tail := 1, head := 0 } : Sq)], cqs := [({ id := 0, size := 32, vector := 0, tail := 0, head := 0 } : Cq), ({ id := 1, size := 4, vector := 1, tail := 0, head := 0 } : Cq)] }).onPlc fun p => { p with nss := [({ nsid := 1, blocks := 1000, lbaf := 1, bands := [0], attached := 1, shared := false, settled := true } : Ns)] }), by decide⟩,
   ⟨({ ctrl := 0, sqid := 0, cid := 5 } : NvmeHdr), 2, 4097, 1, 3, (((((((State.reset.onPorts fun p => { p with perst := false }).onSys fun y => { y with hostConfigured := true, mode := .service }).onDom 12 fun x => { x with state := .on }).onPort 0 fun p => { p with up := true, l12 := false }).onCtrl 0 fun c => { c with en := true, rdy := true, fetchStopped := false, sqs := [({ id := 0, size := 32, cqid := 0, prio := 0, tail := 1, head := 0 } : Sq)], cqs := [({ id := 0, size := 32, vector := 0, tail := 0, head := 0 } : Cq)] }).onCtrl 0 fun c => { c with sqs := [({ id := 0, size := 32, cqid := 0, prio := 0, tail := 1, head := 0 } : Sq), ({ id := 1, size := 4, cqid := 1, prio := 0, tail := 1, head := 0 } : Sq)], cqs := [({ id := 0, size := 32, vector := 0, tail := 0, head := 0 } : Cq), ({ id := 1, size := 4, vector := 1, tail := 0, head := 0 } : Cq)] }).onPlc fun p => { p with nss := [({ nsid := 1, blocks := 1000, lbaf := 1, bands := [0], attached := 1, shared := false, settled := true } : Ns)] }), by decide⟩,
   ⟨({ ctrl := 0, sqid := 0, cid := 5 } : NvmeHdr), 1, (((((((State.reset.onPorts fun p => { p with perst := false }).onSys fun y => { y with hostConfigured := true, mode := .service }).onDom 12 fun x => { x with state := .on }).onPort 0 fun p => { p with up := true, l12 := false }).onCtrl 0 fun c => { c with en := true, rdy := true, fetchStopped := false, sqs := [({ id := 0, size := 32, cqid := 0, prio := 0, tail := 1, head := 0 } : Sq)], cqs := [({ id := 0, size := 32, vector := 0, tail := 0, head := 0 } : Cq)] }).onCtrl 0 fun c => { c with sqs := [({ id := 0, size := 32, cqid := 0, prio := 0, tail := 1, head := 0 } : Sq), ({ id := 1, size := 4, cqid := 1, prio := 0, tail := 1, head := 0 } : Sq)], cqs := [({ id := 0, size := 32, vector := 0, tail := 0, head := 0 } : Cq), ({ id := 1, size := 4, vector := 1, tail := 0, head := 0 } : Cq)] }).onPlc fun p => { p with nss := [({ nsid := 1, blocks := 1000, lbaf := 1, bands := [0], attached := 1, shared := false, settled := true } : Ns)] }), by decide⟩,
   ⟨({ ctrl := 0, sqid := 0, cid := 5 } : NvmeHdr), 1, (((((State.reset.onPorts fun p => { p with perst := false }).onSys fun y => { y with hostConfigured := true, mode := .service }).onDom 12 fun x => { x with state := .on }).onPort 0 fun p => { p with up := true, l12 := false }).onCtrl 0 fun c => { c with en := true, rdy := true, fetchStopped := false, sqs := [({ id := 0, size := 32, cqid := 0, prio := 0, tail := 1, head := 0 } : Sq)], cqs := [({ id := 0, size := 32, vector := 0, tail := 0, head := 0 } : Cq)] }).onCtrl 0 fun c => { c with cqs := [({ id := 0, size := 32, vector := 0, tail := 0, head := 0 } : Cq), ({ id := 1, size := 4, vector := 1, tail := 0, head := 0 } : Cq)] }, by decide⟩,
   ⟨({ ctrl := 0, sqid := 0, cid := 5 } : NvmeHdr), 1, (((((((State.reset.onPorts fun p => { p with perst := false }).onSys fun y => { y with hostConfigured := true, mode := .service }).onDom 12 fun x => { x with state := .on }).onPort 0 fun p => { p with up := true, l12 := false }).onCtrl 0 fun c => { c with en := true, rdy := true, fetchStopped := false, sqs := [({ id := 0, size := 32, cqid := 0, prio := 0, tail := 1, head := 0 } : Sq)], cqs := [({ id := 0, size := 32, vector := 0, tail := 0, head := 0 } : Cq)] }).onCtrl 0 fun c => { c with sqs := [({ id := 0, size := 32, cqid := 0, prio := 0, tail := 1, head := 0 } : Sq), ({ id := 1, size := 4, cqid := 1, prio := 0, tail := 1, head := 0 } : Sq)], cqs := [({ id := 0, size := 32, vector := 0, tail := 0, head := 0 } : Cq), ({ id := 1, size := 4, vector := 1, tail := 0, head := 0 } : Cq)] }).onPlc fun p => { p with nss := [({ nsid := 1, blocks := 1000, lbaf := 1, bands := [0], attached := 1, shared := false, settled := true } : Ns)] }), by decide⟩,
   ⟨({ ctrl := 0, sqid := 0, cid := 5 } : NvmeHdr), ({ nsid := 1, blocks := 1000, lbaf := 1, bands := [0], attached := 1, shared := false, settled := true } : Ns), (((((((State.reset.onPorts fun p => { p with perst := false }).onSys fun y => { y with hostConfigured := true, mode := .service }).onDom 12 fun x => { x with state := .on }).onPort 0 fun p => { p with up := true, l12 := false }).onCtrl 0 fun c => { c with en := true, rdy := true, fetchStopped := false, sqs := [({ id := 0, size := 32, cqid := 0, prio := 0, tail := 1, head := 0 } : Sq)], cqs := [({ id := 0, size := 32, vector := 0, tail := 0, head := 0 } : Cq)] }).onCtrl 0 fun c => { c with sqs := [({ id := 0, size := 32, cqid := 0, prio := 0, tail := 1, head := 0 } : Sq), ({ id := 1, size := 4, cqid := 1, prio := 0, tail := 1, head := 0 } : Sq)], cqs := [({ id := 0, size := 32, vector := 0, tail := 0, head := 0 } : Cq), ({ id := 1, size := 4, vector := 1, tail := 0, head := 0 } : Cq)] }).onPlc fun p => { p with nss := [({ nsid := 1, blocks := 1000, lbaf := 1, bands := [0], attached := 1, shared := false, settled := true } : Ns)] }), by decide⟩,
   ⟨({ ctrl := 0, sqid := 0, cid := 5 } : NvmeHdr), 0, 0, 4, true, (((((State.reset.onPorts fun p => { p with perst := false }).onSys fun y => { y with hostConfigured := true, mode := .service }).onDom 12 fun x => { x with state := .on }).onPort 0 fun p => { p with up := true, l12 := false }).onCtrl 0 fun c => { c with en := true, rdy := true, fetchStopped := false, sqs := [({ id := 0, size := 32, cqid := 0, prio := 0, tail := 1, head := 0 } : Sq)], cqs := [({ id := 0, size := 32, vector := 0, tail := 0, head := 0 } : Cq)] }), by decide⟩,
   ⟨({ ctrl := 0, sqid := 0, cid := 5 } : NvmeHdr), 0, 512, true, (((((State.reset.onPorts fun p => { p with perst := false }).onSys fun y => { y with hostConfigured := true, mode := .service }).onDom 12 fun x => { x with state := .on }).onPort 0 fun p => { p with up := true, l12 := false }).onCtrl 0 fun c => { c with en := true, rdy := true, fetchStopped := false, sqs := [({ id := 0, size := 32, cqid := 0, prio := 0, tail := 1, head := 0 } : Sq)], cqs := [({ id := 0, size := 32, vector := 0, tail := 0, head := 0 } : Cq)] }), by decide⟩,
   ⟨({ ctrl := 0, sqid := 0, cid := 5 } : NvmeHdr), 1, 2, (((((State.reset.onPorts fun p => { p with perst := false }).onSys fun y => { y with hostConfigured := true, mode := .service }).onDom 12 fun x => { x with state := .on }).onPort 0 fun p => { p with up := true, l12 := false }).onCtrl 0 fun c => { c with en := true, rdy := true, fetchStopped := false, sqs := [({ id := 0, size := 32, cqid := 0, prio := 0, tail := 1, head := 0 } : Sq)], cqs := [({ id := 0, size := 32, vector := 0, tail := 0, head := 0 } : Cq)] }), by decide⟩,
   ⟨({ ctrl := 0, sqid := 0, cid := 5 } : NvmeHdr), 1, 2, (((((State.reset.onPorts fun p => { p with perst := false }).onSys fun y => { y with hostConfigured := true, mode := .service }).onDom 12 fun x => { x with state := .on }).onPort 0 fun p => { p with up := true, l12 := false }).onCtrl 0 fun c => { c with en := true, rdy := true, fetchStopped := false, sqs := [({ id := 0, size := 32, cqid := 0, prio := 0, tail := 1, head := 0 } : Sq)], cqs := [({ id := 0, size := 32, vector := 0, tail := 0, head := 0 } : Cq)] }).onNvme fun v => { v with fetched := 9, cmds := List.replicate 4 { ({ n := 0, ctrl := 0, sqid := 1, cid := 0, opcode := 2, admin := false, nsid := 1, lba := 0, nlb := 1, limitedRetry := false, places := [], gen := 0, fua := false, handle := none, due := 0xFFFFFFFF, need := .nothing, status := nvOk, dw0 := 0, lateSeen := false } : Cmd) with opcode := 8, admin := true } }, by decide⟩,
   ⟨({ ctrl := 0, sqid := 0, cid := 5 } : NvmeHdr), (((((State.reset.onPorts fun p => { p with perst := false }).onSys fun y => { y with hostConfigured := true, mode := .service }).onDom 12 fun x => { x with state := .on }).onPort 0 fun p => { p with up := true, l12 := false }).onCtrl 0 fun c => { c with en := true, rdy := true, fetchStopped := false, sqs := [({ id := 0, size := 32, cqid := 0, prio := 0, tail := 1, head := 0 } : Sq)], cqs := [({ id := 0, size := 32, vector := 0, tail := 0, head := 0 } : Cq)] }), by decide⟩,
   ⟨({ ctrl := 0, sqid := 0, cid := 5 } : NvmeHdr), { ctrl := 0, type := 1, info := 2 }, (((((State.reset.onPorts fun p => { p with perst := false }).onSys fun y => { y with hostConfigured := true, mode := .service }).onDom 12 fun x => { x with state := .on }).onPort 0 fun p => { p with up := true, l12 := false }).onCtrl 0 fun c => { c with en := true, rdy := true, fetchStopped := false, sqs := [({ id := 0, size := 32, cqid := 0, prio := 0, tail := 1, head := 0 } : Sq)], cqs := [({ id := 0, size := 32, vector := 0, tail := 0, head := 0 } : Cq)] }).onNvme fun v => { v with aens := [{ ctrl := 0, type := 1, info := 2 }] }, by decide⟩,
   ⟨({ ctrl := 0, sqid := 0, cid := 5 } : NvmeHdr), 0x7F, (((((State.reset.onPorts fun p => { p with perst := false }).onSys fun y => { y with hostConfigured := true, mode := .service }).onDom 12 fun x => { x with state := .on }).onPort 0 fun p => { p with up := true, l12 := false }).onCtrl 0 fun c => { c with en := true, rdy := true, fetchStopped := false, sqs := [({ id := 0, size := 32, cqid := 0, prio := 0, tail := 1, head := 0 } : Sq)], cqs := [({ id := 0, size := 32, vector := 0, tail := 0, head := 0 } : Cq)] }), by decide⟩,
   ⟨({ ctrl := 0, sqid := 1, cid := 5 } : NvmeHdr), 0x7F, (((((((State.reset.onPorts fun p => { p with perst := false }).onSys fun y => { y with hostConfigured := true, mode := .service }).onDom 12 fun x => { x with state := .on }).onPort 0 fun p => { p with up := true, l12 := false }).onCtrl 0 fun c => { c with en := true, rdy := true, fetchStopped := false, sqs := [({ id := 0, size := 32, cqid := 0, prio := 0, tail := 1, head := 0 } : Sq)], cqs := [({ id := 0, size := 32, vector := 0, tail := 0, head := 0 } : Cq)] }).onCtrl 0 fun c => { c with sqs := [({ id := 0, size := 32, cqid := 0, prio := 0, tail := 1, head := 0 } : Sq), ({ id := 1, size := 4, cqid := 1, prio := 0, tail := 1, head := 0 } : Sq)], cqs := [({ id := 0, size := 32, vector := 0, tail := 0, head := 0 } : Cq), ({ id := 1, size := 4, vector := 1, tail := 0, head := 0 } : Cq)] }).onPlc fun p => { p with nss := [({ nsid := 1, blocks := 1000, lbaf := 1, bands := [0], attached := 1, shared := false, settled := true } : Ns)] }), by decide⟩⟩

/-- The hypotheses of `Obligations.FeaturesPowerStatesAndFirmware` can be met. -/
theorem test_features_power_states_and_firmware_hyps :
    (∃ (h : NvmeHdr) (d12 : BitVec 32) (v : Bool) (nsid : Nat) (s : State), (FetchesAdmin h s)) ∧
    (∃ (h : NvmeHdr) (d12 : BitVec 32) (ps : Fin 4) (nsid : Nat) (s : State), (FetchesAdmin h s)) ∧
    (∃ (h : NvmeHdr) (f : BitVec 8) (d11 d12 : BitVec 32) (sv : Bool) (nsid : Nat) (s : State), (FetchesAdmin h s ∧ featIds.contains f.toNat = false)) ∧
    (∃ (h : NvmeHdr) (d11 d12 : BitVec 32) (nsid : Nat) (s : State), (FetchesAdmin h s)) ∧
    (∃ (h : NvmeHdr) (d11 : BitVec 32) (nsid : Nat) (s : State), (FetchesAdmin h s)) ∧
    (∃ (c : Fin 2) (ps : Fin 4) (s : State), (s.p1012ApstEnable = true ∧ (s.ctrl c).en = true)) ∧
    (∃ (h : NvmeHdr) (off len : Nat) (g : Bool) (s : State), (FetchesAdmin h s ∧ s.nvme.activation = none ∧ s.nvme.cmds = [] ∧ s.nvme.download = none ∧ off % 4096 = 0 ∧ len % 4096 = 0 ∧ 1 ≤ len ∧ off + len ≤ 2 ^ 24)) ∧
    (∃ (h : NvmeHdr) (slot : Nat) (d : Nat × Bool) (s : State), (FetchesAdmin h s ∧ s.nvme.activation = none ∧ s.nvme.cmds = [] ∧ s.nvme.download = some d ∧ (slot = 2 ∨ slot = 3))) ∧
    (∃ (h : NvmeHdr) (slot : Nat) (s : State), (FetchesAdmin h s ∧ s.nvme.activation = none ∧ s.nvme.cmds = [] ∧ (slot = 2 ∨ slot = 3))) ∧
    (∃ (a : Activation) (k : Cmd) (s : State), (s.nvme.activation = some a ∧ a.drained.isSome = true ∧ s.nvme.cmds = [k] ∧ k.n = a.cmd)) ∧
    (∃ (a : Activation) (k j : Cmd) (s : State), (s.nvme.activation = some a ∧ a.drained = none ∧ 1000 * msTicks ≤ s.since a.since ∧ s.nvme.cmds = [k, j] ∧ k.n = a.cmd ∧ j.n ≠ a.cmd ∧ j.open = true)) ∧
    (∃ (b : BitVec 64) (s : State), ((s.nvme.activation.bind fun a => a.drained) = some b ∧ 800 * msTicks < s.since b)) :=
  ⟨⟨({ ctrl := 0, sqid := 0, cid := 5 } : NvmeHdr), 0, true, 0, (((((State.reset.onPorts fun p => { p with perst := false }).onSys fun y => { y with hostConfigured := true, mode := .service }).onDom 12 fun x => { x with state := .on }).onPort 0 fun p => { p with up := true, l12 := false }).onCtrl 0 fun c => { c with en := true, rdy := true, fetchStopped := false, sqs := [({ id := 0, size := 32, cqid := 0, prio := 0, tail := 1, head := 0 } : Sq)], cqs := [({ id := 0, size := 32, vector := 0, tail := 0, head := 0 } : Cq)] }), by decide⟩,
   ⟨({ ctrl := 0, sqid := 0, cid := 5 } : NvmeHdr), 0, 3, 0, (((((State.reset.onPorts fun p => { p with perst := false }).onSys fun y => { y with hostConfigured := true, mode := .service }).onDom 12 fun x => { x with state := .on }).onPort 0 fun p => { p with up := true, l12 := false }).onCtrl 0 fun c => { c with en := true, rdy := true, fetchStopped := false, sqs := [({ id := 0, size := 32, cqid := 0, prio := 0, tail := 1, head := 0 } : Sq)], cqs := [({ id := 0, size := 32, vector := 0, tail := 0, head := 0 } : Cq)] }), by decide⟩,
   ⟨({ ctrl := 0, sqid := 0, cid := 5 } : NvmeHdr), 0x03, 0, 0, false, 0, (((((State.reset.onPorts fun p => { p with perst := false }).onSys fun y => { y with hostConfigured := true, mode := .service }).onDom 12 fun x => { x with state := .on }).onPort 0 fun p => { p with up := true, l12 := false }).onCtrl 0 fun c => { c with en := true, rdy := true, fetchStopped := false, sqs := [({ id := 0, size := 32, cqid := 0, prio := 0, tail := 1, head := 0 } : Sq)], cqs := [({ id := 0, size := 32, vector := 0, tail := 0, head := 0 } : Cq)] }), by decide⟩,
   ⟨({ ctrl := 0, sqid := 0, cid := 5 } : NvmeHdr), 0, 0, 0, (((((State.reset.onPorts fun p => { p with perst := false }).onSys fun y => { y with hostConfigured := true, mode := .service }).onDom 12 fun x => { x with state := .on }).onPort 0 fun p => { p with up := true, l12 := false }).onCtrl 0 fun c => { c with en := true, rdy := true, fetchStopped := false, sqs := [({ id := 0, size := 32, cqid := 0, prio := 0, tail := 1, head := 0 } : Sq)], cqs := [({ id := 0, size := 32, vector := 0, tail := 0, head := 0 } : Cq)] }), by decide⟩,
   ⟨({ ctrl := 0, sqid := 0, cid := 5 } : NvmeHdr), 0, 0, (((((State.reset.onPorts fun p => { p with perst := false }).onSys fun y => { y with hostConfigured := true, mode := .service }).onDom 12 fun x => { x with state := .on }).onPort 0 fun p => { p with up := true, l12 := false }).onCtrl 0 fun c => { c with en := true, rdy := true, fetchStopped := false, sqs := [({ id := 0, size := 32, cqid := 0, prio := 0, tail := 1, head := 0 } : Sq)], cqs := [({ id := 0, size := 32, vector := 0, tail := 0, head := 0 } : Cq)] }), by decide⟩,
   ⟨0, 3, (((((State.reset.onPorts fun p => { p with perst := false }).onSys fun y => { y with hostConfigured := true, mode := .service }).onDom 12 fun x => { x with state := .on }).onPort 0 fun p => { p with up := true, l12 := false }).onCtrl 0 fun c => { c with en := true, rdy := true, fetchStopped := false, sqs := [({ id := 0, size := 32, cqid := 0, prio := 0, tail := 1, head := 0 } : Sq)], cqs := [({ id := 0, size := 32, vector := 0, tail := 0, head := 0 } : Cq)] }).odSet 0x101201 1, by decide⟩,
   ⟨({ ctrl := 0, sqid := 0, cid := 5 } : NvmeHdr), 4096, 4096, true, (((((State.reset.onPorts fun p => { p with perst := false }).onSys fun y => { y with hostConfigured := true, mode := .service }).onDom 12 fun x => { x with state := .on }).onPort 0 fun p => { p with up := true, l12 := false }).onCtrl 0 fun c => { c with en := true, rdy := true, fetchStopped := false, sqs := [({ id := 0, size := 32, cqid := 0, prio := 0, tail := 1, head := 0 } : Sq)], cqs := [({ id := 0, size := 32, vector := 0, tail := 0, head := 0 } : Cq)] }), by decide⟩,
   ⟨({ ctrl := 0, sqid := 0, cid := 5 } : NvmeHdr), 3, (4096, false), (((((State.reset.onPorts fun p => { p with perst := false }).onSys fun y => { y with hostConfigured := true, mode := .service }).onDom 12 fun x => { x with state := .on }).onPort 0 fun p => { p with up := true, l12 := false }).onCtrl 0 fun c => { c with en := true, rdy := true, fetchStopped := false, sqs := [({ id := 0, size := 32, cqid := 0, prio := 0, tail := 1, head := 0 } : Sq)], cqs := [({ id := 0, size := 32, vector := 0, tail := 0, head := 0 } : Cq)] }).onNvme fun v => { v with download := some (4096, false) }, by decide⟩,
   ⟨({ ctrl := 0, sqid := 0, cid := 5 } : NvmeHdr), 2, (((((State.reset.onPorts fun p => { p with perst := false }).onSys fun y => { y with hostConfigured := true, mode := .service }).onDom 12 fun x => { x with state := .on }).onPort 0 fun p => { p with up := true, l12 := false }).onCtrl 0 fun c => { c with en := true, rdy := true, fetchStopped := false, sqs := [({ id := 0, size := 32, cqid := 0, prio := 0, tail := 1, head := 0 } : Sq)], cqs := [({ id := 0, size := 32, vector := 0, tail := 0, head := 0 } : Cq)] }), by decide⟩,
   ⟨{ slot := 3, cmd := 0, since := 0, drained := some 0 }, ({ n := 0, ctrl := 0, sqid := 1, cid := 0, opcode := 2, admin := false, nsid := 1, lba := 0, nlb := 1, limitedRetry := false, places := [], gen := 0, fua := false, handle := none, due := 0xFFFFFFFF, need := .nothing, status := nvOk, dw0 := 0, lateSeen := false } : Cmd), (((((State.reset.onPorts fun p => { p with perst := false }).onSys fun y => { y with hostConfigured := true, mode := .service }).onDom 12 fun x => { x with state := .on }).onPort 0 fun p => { p with up := true, l12 := false }).onCtrl 0 fun c => { c with en := true, rdy := true, fetchStopped := false, sqs := [({ id := 0, size := 32, cqid := 0, prio := 0, tail := 1, head := 0 } : Sq)], cqs := [({ id := 0, size := 32, vector := 0, tail := 0, head := 0 } : Cq)] }).onNvme fun v => { v with activation := some { slot := 3, cmd := 0, since := 0, drained := some 0 }, cmds := [({ n := 0, ctrl := 0, sqid := 1, cid := 0, opcode := 2, admin := false, nsid := 1, lba := 0, nlb := 1, limitedRetry := false, places := [], gen := 0, fua := false, handle := none, due := 0xFFFFFFFF, need := .nothing, status := nvOk, dw0 := 0, lateSeen := false } : Cmd)] }, by decide⟩,
   ⟨{ slot := 3, cmd := 0, since := 0, drained := none }, ({ n := 0, ctrl := 0, sqid := 1, cid := 0, opcode := 2, admin := false, nsid := 1, lba := 0, nlb := 1, limitedRetry := false, places := [], gen := 0, fua := false, handle := none, due := 0xFFFFFFFF, need := .nothing, status := nvOk, dw0 := 0, lateSeen := false } : Cmd), { ({ n := 0, ctrl := 0, sqid := 1, cid := 0, opcode := 2, admin := false, nsid := 1, lba := 0, nlb := 1, limitedRetry := false, places := [], gen := 0, fua := false, handle := none, due := 0xFFFFFFFF, need := .nothing, status := nvOk, dw0 := 0, lateSeen := false } : Cmd) with n := 1, need := .group }, ((((((State.reset.onPorts fun p => { p with perst := false }).onSys fun y => { y with hostConfigured := true, mode := .service }).onDom 12 fun x => { x with state := .on }).onPort 0 fun p => { p with up := true, l12 := false }).onCtrl 0 fun c => { c with en := true, rdy := true, fetchStopped := false, sqs := [({ id := 0, size := 32, cqid := 0, prio := 0, tail := 1, head := 0 } : Sq)], cqs := [({ id := 0, size := 32, vector := 0, tail := 0, head := 0 } : Cq)] }).onFab fun f => { f with chipTime := 300000000 }).onNvme fun v => { v with activation := some { slot := 3, cmd := 0, since := 0, drained := none }, cmds := [({ n := 0, ctrl := 0, sqid := 1, cid := 0, opcode := 2, admin := false, nsid := 1, lba := 0, nlb := 1, limitedRetry := false, places := [], gen := 0, fua := false, handle := none, due := 0xFFFFFFFF, need := .nothing, status := nvOk, dw0 := 0, lateSeen := false } : Cmd), { ({ n := 0, ctrl := 0, sqid := 1, cid := 0, opcode := 2, admin := false, nsid := 1, lba := 0, nlb := 1, limitedRetry := false, places := [], gen := 0, fua := false, handle := none, due := 0xFFFFFFFF, need := .nothing, status := nvOk, dw0 := 0, lateSeen := false } : Cmd) with n := 1, need := .group }] }, by decide⟩,
   ⟨0, ((((((State.reset.onPorts fun p => { p with perst := false }).onSys fun y => { y with hostConfigured := true, mode := .service }).onDom 12 fun x => { x with state := .on }).onPort 0 fun p => { p with up := true, l12 := false }).onCtrl 0 fun c => { c with en := true, rdy := true, fetchStopped := false, sqs := [({ id := 0, size := 32, cqid := 0, prio := 0, tail := 1, head := 0 } : Sq)], cqs := [({ id := 0, size := 32, vector := 0, tail := 0, head := 0 } : Cq)] }).onFab fun f => { f with chipTime := 300000000 }).onNvme fun v => { v with activation := some { slot := 3, cmd := 0, since := 0, drained := some 0 } }, by decide⟩⟩

/-- The hypotheses of `Obligations.NamespacesFormatAndSanitize` can be met. -/
theorem test_namespaces_format_and_sanitize_hyps :
    (∃ (h : NvmeHdr) (sh : Bool) (s : State), (FetchesAdmin h s ∧ s.ident.tier = .a ∧ s.plc.nss = [] ∧ s.plc.pend = [] ∧ s.plc.commit = none ∧ s.notYet = false ∧ s.sys.mode = .service ∧ s.nvme.sanitize = false ∧ s.nvme.format = [] ∧ s.freeBands 1 = [0])) ∧
    (∃ (h : NvmeHdr) (n z : Nat) (c sh : Bool) (s : State), (FetchesAdmin h s ∧ s.ident.tier ≠ .a ∧ s.plc.nss = [] ∧ s.plc.pend = [] ∧ s.plc.commit = none)) ∧
    (∃ (h : NvmeHdr) (x : Ns) (s : State), (FetchesAdmin h s ∧ s.ident.tier = .a ∧ s.plc.nss = [x] ∧ x.nsid = 1 ∧ s.plc.pend = [] ∧ s.plc.commit = none ∧ s.plc.chunks = [] ∧ s.buf.pages = [] ∧ s.nvme.cmds = [] ∧ s.notYet = false ∧ s.sys.mode = .service ∧ s.nvme.sanitize = false ∧ s.nvme.format = [])) ∧
    (∃ (h : NvmeHdr) (x : Ns) (s : State), (FetchesAdmin h s ∧ s.ident.tier = .a ∧ s.twoPorts = true ∧ s.plc.nss = [x] ∧ x.nsid = 1 ∧ x.attached = 1 ∧ x.shared = true ∧ s.plc.pend = [] ∧ s.plc.commit = none ∧ s.notYet = false ∧ s.sys.mode = .service ∧ s.nvme.sanitize = false ∧ s.nvme.format = [])) ∧
    (∃ (h : NvmeHdr) (x : Ns) (s : State), (FetchesAdmin h s ∧ s.plc.nss = [x] ∧ x.nsid = 1 ∧ x.lbaf = 1 ∧ s.buf.pages = [] ∧ s.plc.chunks = [] ∧ s.nvme.cmds = [] ∧ s.notYet = false ∧ s.sys.mode = .service ∧ s.nvme.sanitize = false ∧ s.nvme.format = [] ∧ s.nvme.activation = none ∧ s.nvme.nextSlot = none)) ∧
    (∃ (h : NvmeHdr) (s : State), (FetchesAdmin h s ∧ s.hasCipher = true ∧ s.notYet = false ∧ s.sys.mode = .service ∧ s.nvme.activation = none ∧ s.nvme.nextSlot = none ∧ s.nvme.sanitize = false ∧ s.nvme.format = [] ∧ s.ciph.erase = none)) ∧
    (∃ (h : NvmeHdr) (s : State), (FetchesAdmin h s ∧ s.hasCipher = true ∧ s.notYet = false ∧ s.sys.mode = .service ∧ s.nvme.activation = none ∧ s.nvme.nextSlot = none)) :=
  ⟨⟨({ ctrl := 0, sqid := 0, cid := 5 } : NvmeHdr), true, ((((((State.reset.onPorts fun p => { p with perst := false }).onSys fun y => { y with hostConfigured := true, mode := .service }).onDom 12 fun x => { x with state := .on }).onPort 0 fun p => { p with up := true, l12 := false }).onCtrl 0 fun c => { c with en := true, rdy := true, fetchStopped := false, sqs := [({ id := 0, size := 32, cqid := 0, prio := 0, tail := 1, head := 0 } : Sq)], cqs := [({ id := 0, size := 32, vector := 0, tail := 0, head := 0 } : Cq)] }).onIdent fun i => { i with tier := .a, dualPort := true }).onPlc fun p => { p with userBands := 1, bands := [] }, by decide⟩,
   ⟨({ ctrl := 0, sqid := 0, cid := 5 } : NvmeHdr), 1, 65536, false, true, (((((State.reset.onPorts fun p => { p with perst := false }).onSys fun y => { y with hostConfigured := true, mode := .service }).onDom 12 fun x => { x with state := .on }).onPort 0 fun p => { p with up := true, l12 := false }).onCtrl 0 fun c => { c with en := true, rdy := true, fetchStopped := false, sqs := [({ id := 0, size := 32, cqid := 0, prio := 0, tail := 1, head := 0 } : Sq)], cqs := [({ id := 0, size := 32, vector := 0, tail := 0, head := 0 } : Cq)] }).onPlc fun p => { p with nss := [] }, by decide⟩,
   ⟨({ ctrl := 0, sqid := 0, cid := 5 } : NvmeHdr), ({ nsid := 1, blocks := 1000, lbaf := 1, bands := [0], attached := 1, shared := false, settled := true } : Ns), ((((((State.reset.onPorts fun p => { p with perst := false }).onSys fun y => { y with hostConfigured := true, mode := .service }).onDom 12 fun x => { x with state := .on }).onPort 0 fun p => { p with up := true, l12 := false }).onCtrl 0 fun c => { c with en := true, rdy := true, fetchStopped := false, sqs := [({ id := 0, size := 32, cqid := 0, prio := 0, tail := 1, head := 0 } : Sq)], cqs := [({ id := 0, size := 32, vector := 0, tail := 0, head := 0 } : Cq)] }).onIdent fun i => { i with tier := .a, dualPort := true }).onPlc fun p => { p with nss := [({ nsid := 1, blocks := 1000, lbaf := 1, bands := [0], attached := 1, shared := false, settled := true } : Ns)] }, by decide⟩,
   ⟨({ ctrl := 0, sqid := 0, cid := 5 } : NvmeHdr), { ({ nsid := 1, blocks := 1000, lbaf := 1, bands := [0], attached := 1, shared := false, settled := true } : Ns) with shared := true }, ((((((State.reset.onPorts fun p => { p with perst := false }).onSys fun y => { y with hostConfigured := true, mode := .service }).onDom 12 fun x => { x with state := .on }).onPort 0 fun p => { p with up := true, l12 := false }).onCtrl 0 fun c => { c with en := true, rdy := true, fetchStopped := false, sqs := [({ id := 0, size := 32, cqid := 0, prio := 0, tail := 1, head := 0 } : Sq)], cqs := [({ id := 0, size := 32, vector := 0, tail := 0, head := 0 } : Cq)] }).onIdent fun i => { i with tier := .a, dualPort := true }).onPlc fun p => { p with nss := [{ ({ nsid := 1, blocks := 1000, lbaf := 1, bands := [0], attached := 1, shared := false, settled := true } : Ns) with shared := true }] }, by decide⟩,
   ⟨({ ctrl := 0, sqid := 0, cid := 5 } : NvmeHdr), ({ nsid := 1, blocks := 1000, lbaf := 1, bands := [0], attached := 1, shared := false, settled := true } : Ns), (((((((State.reset.onPorts fun p => { p with perst := false }).onSys fun y => { y with hostConfigured := true, mode := .service }).onDom 12 fun x => { x with state := .on }).onPort 0 fun p => { p with up := true, l12 := false }).onCtrl 0 fun c => { c with en := true, rdy := true, fetchStopped := false, sqs := [({ id := 0, size := 32, cqid := 0, prio := 0, tail := 1, head := 0 } : Sq)], cqs := [({ id := 0, size := 32, vector := 0, tail := 0, head := 0 } : Cq)] }).onCtrl 0 fun c => { c with sqs := [({ id := 0, size := 32, cqid := 0, prio := 0, tail := 1, head := 0 } : Sq), ({ id := 1, size := 4, cqid := 1, prio := 0, tail := 1, head := 0 } : Sq)], cqs := [({ id := 0, size := 32, vector := 0, tail := 0, head := 0 } : Cq), ({ id := 1, size := 4, vector := 1, tail := 0, head := 0 } : Cq)] }).onPlc fun p => { p with nss := [({ nsid := 1, blocks := 1000, lbaf := 1, bands := [0], attached := 1, shared := false, settled := true } : Ns)] }), by decide⟩,
   ⟨({ ctrl := 0, sqid := 0, cid := 5 } : NvmeHdr), ((((((State.reset.onPorts fun p => { p with perst := false }).onSys fun y => { y with hostConfigured := true, mode := .service }).onDom 12 fun x => { x with state := .on }).onPort 0 fun p => { p with up := true, l12 := false }).onCtrl 0 fun c => { c with en := true, rdy := true, fetchStopped := false, sqs := [({ id := 0, size := 32, cqid := 0, prio := 0, tail := 1, head := 0 } : Sq)], cqs := [({ id := 0, size := 32, vector := 0, tail := 0, head := 0 } : Cq)] }).onIdent fun i => { i with tier := .a, dualPort := true }), by decide⟩,
   ⟨({ ctrl := 0, sqid := 0, cid := 5 } : NvmeHdr), ((((((State.reset.onPorts fun p => { p with perst := false }).onSys fun y => { y with hostConfigured := true, mode := .service }).onDom 12 fun x => { x with state := .on }).onPort 0 fun p => { p with up := true, l12 := false }).onCtrl 0 fun c => { c with en := true, rdy := true, fetchStopped := false, sqs := [({ id := 0, size := 32, cqid := 0, prio := 0, tail := 1, head := 0 } : Sq)], cqs := [({ id := 0, size := 32, vector := 0, tail := 0, head := 0 } : Cq)] }).onIdent fun i => { i with tier := .a, dualPort := true }), by decide⟩⟩

/-- The hypotheses of `Obligations.IoCommandsOnBlocks` can be met. -/
theorem test_io_commands_on_blocks_hyps :
    (∃ (h : NvmeHdr) (r : IoRange) (lr : Bool) (x : Ns) (g : Nat) (l : Loc) (sec : Nat) (z : BitVec 6) (tag : BitVec 64) (s : State), (FetchesIo h s ∧ s.sys.mode = .service ∧ NoneRefuse (s.blockChecks h.ctrl r false true) ∧ s.ns? r.nsid = some x ∧ nsUnits x r.lba r.nlb = [g] ∧ s.resolve g = .media l sec z tag ∧ s.unsafeAct l.act = false)) ∧
    (∃ (h : NvmeHdr) (r : IoRange) (lr : Bool) (x : Ns) (g : Nat) (s : State), (FetchesIo h s ∧ s.sys.mode = .service ∧ NoneRefuse (s.blockChecks h.ctrl r false true) ∧ s.ns? r.nsid = some x ∧ nsUnits x r.lba r.nlb = [g] ∧ s.resolve g = .zeros)) ∧
    (∃ (h : NvmeHdr) (r : IoRange) (lr : Bool) (x : Ns) (g : Nat) (l : Loc) (sec : Nat) (z : BitVec 6) (tag : BitVec 64) (s : State), (FetchesIo h s ∧ s.sys.mode = .service ∧ NoneRefuse (s.blockChecks h.ctrl r false false) ∧ s.ns? r.nsid = some x ∧ nsUnits x r.lba r.nlb = [g] ∧ s.resolve g = .media l sec z tag ∧ s.unsafeAct l.act = false)) ∧
    (∃ (h : NvmeHdr) (r : IoRange) (lr : Bool) (x : Ns) (s : State), (FetchesIo h s ∧ s.sys.mode = .service ∧ s.plc.nss = [x] ∧ r.nsid = x.nsid ∧ x.attached.getLsbD h.ctrl.val = true ∧ s.nvme.sanitize = false ∧ s.nvme.format = [] ∧ 1 ≤ r.nlb ∧ r.nlb * x.blockBytes ≤ 2 ^ 20 ∧ x.blocks < r.lba + r.nlb)) ∧
    (∃ (h : NvmeHdr) (r : IoRange) (x : Ns) (g : Nat) (s : State), (FetchesIo h s ∧ s.buf.stopped = false ∧ s.p1011WriteCache = true ∧ NoneRefuse (s.blockChecks h.ctrl r true true) ∧ s.ns? r.nsid = some x ∧ nsUnits x r.lba r.nlb = [g])) ∧
    (∃ (h : NvmeHdr) (r : IoRange) (x : Ns) (g : Nat) (s : State), (FetchesIo h s ∧ s.buf.stopped = false ∧ s.cruiseHold = false ∧ NoneRefuse (s.blockChecks h.ctrl r true true) ∧ s.ns? r.nsid = some x ∧ nsUnits x r.lba r.nlb = [g])) ∧
    (∃ (h : NvmeHdr) (s : State), (FetchesIo h s ∧ s.notYet = false ∧ s.flushList = [])) ∧
    (∃ (h : NvmeHdr) (n : Nat) (s : State), (FetchesIo h s ∧ s.sys.mode = .service ∧ s.flushList = [n])) ∧
    (∃ (h : NvmeHdr) (r : IoRange) (x : Ns) (g : Nat) (de : Bool) (s : State), (FetchesIo h s ∧ s.buf.stopped = false ∧ NoneRefuse (s.blockChecks h.ctrl r true false) ∧ s.ns? r.nsid = some x ∧ nsUnits x r.lba r.nlb = [g] ∧ wholeUnits x r.lba r.nlb = [g] ∧ s.buf.pages = [] ∧ (∀ e ∈ s.plc.extents, e.gen ≤ s.plc.gen))) ∧
    (∃ (h : NvmeHdr) (lba nlb : Nat) (x : Ns) (g : Nat) (s : State), (FetchesIo h s ∧ NoneRefuse (s.blockChecks h.ctrl { nsid := x.nsid, lba := lba, nlb := nlb } true false) ∧ s.plc.nss = [x] ∧ wholeUnits x lba nlb = [g] ∧ s.buf.pages = [] ∧ (∀ e ∈ s.plc.extents, e.gen ≤ s.plc.gen))) ∧
    (∃ (h : NvmeHdr) (x : Ns) (l : List (Nat × Nat)) (s : State), (FetchesIo h s ∧ s.plc.nss = [x] ∧ x.attached.getLsbD h.ctrl.val = true)) ∧
    (∃ (h : NvmeHdr) (x : Ns) (s : State), (FetchesIo h s ∧ s.plc.nss = [x] ∧ x.attached.getLsbD h.ctrl.val = true)) ∧
    (∃ (h : NvmeHdr) (x : Ns) (s : State), (FetchesIo h s ∧ s.plc.nss = [x] ∧ x.attached.getLsbD h.ctrl.val = true)) :=
  ⟨⟨({ ctrl := 0, sqid := 1, cid := 5 } : NvmeHdr), { nsid := 1, lba := 2, nlb := 1 }, true, ({ nsid := 1, blocks := 1000, lbaf := 1, bands := [0], attached := 1, shared := false, settled := true } : Ns), 2, { act := 0, head := 1, track := 5 }, 0, 0, mkTag 2 3 2, (((((((State.reset.onPorts fun p => { p with perst := false }).onSys fun y => { y with hostConfigured := true, mode := .service }).onDom 12 fun x => { x with state := .on }).onPort 0 fun p => { p with up := true, l12 := false }).onCtrl 0 fun c => { c with en := true, rdy := true, fetchStopped := false, sqs := [({ id := 0, size := 32, cqid := 0, prio := 0, tail := 1, head := 0 } : Sq)], cqs := [({ id := 0, size := 32, vector := 0, tail := 0, head := 0 } : Cq)] }).onCtrl 0 fun c => { c with sqs := [({ id := 0, size := 32, cqid := 0, prio := 0, tail := 1, head := 0 } : Sq), ({ id := 1, size := 4, cqid := 1, prio := 0, tail := 1, head := 0 } : Sq)], cqs := [({ id := 0, size := 32, vector := 0, tail := 0, head := 0 } : Cq), ({ id := 1, size := 4, vector := 1, tail := 0, head := 0 } : Cq)] }).onPlc fun p => { p with nss := [({ nsid := 1, blocks := 1000, lbaf := 1, bands := [0], attached := 1, shared := false, settled := true } : Ns)] }).onPlc fun p => { p with extents := [{ gmu := 2, len := 1, loc := { act := 0, head := 1, track := 5 }, sector := 0, zone := 0, kind := .cache, gen := 3, temp := 0 }] }, by decide⟩,
   ⟨({ ctrl := 0, sqid := 1, cid := 5 } : NvmeHdr), { nsid := 1, lba := 2, nlb := 1 }, true, ({ nsid := 1, blocks := 1000, lbaf := 1, bands := [0], attached := 1, shared := false, settled := true } : Ns), 2, (((((((State.reset.onPorts fun p => { p with perst := false }).onSys fun y => { y with hostConfigured := true, mode := .service }).onDom 12 fun x => { x with state := .on }).onPort 0 fun p => { p with up := true, l12 := false }).onCtrl 0 fun c => { c with en := true, rdy := true, fetchStopped := false, sqs := [({ id := 0, size := 32, cqid := 0, prio := 0, tail := 1, head := 0 } : Sq)], cqs := [({ id := 0, size := 32, vector := 0, tail := 0, head := 0 } : Cq)] }).onCtrl 0 fun c => { c with sqs := [({ id := 0, size := 32, cqid := 0, prio := 0, tail := 1, head := 0 } : Sq), ({ id := 1, size := 4, cqid := 1, prio := 0, tail := 1, head := 0 } : Sq)], cqs := [({ id := 0, size := 32, vector := 0, tail := 0, head := 0 } : Cq), ({ id := 1, size := 4, vector := 1, tail := 0, head := 0 } : Cq)] }).onPlc fun p => { p with nss := [({ nsid := 1, blocks := 1000, lbaf := 1, bands := [0], attached := 1, shared := false, settled := true } : Ns)] }), by decide⟩,
   ⟨({ ctrl := 0, sqid := 1, cid := 5 } : NvmeHdr), { nsid := 1, lba := 2, nlb := 1 }, true, ({ nsid := 1, blocks := 1000, lbaf := 1, bands := [0], attached := 1, shared := false, settled := true } : Ns), 2, { act := 0, head := 1, track := 5 }, 0, 0, mkTag 2 3 2, (((((((State.reset.onPorts fun p => { p with perst := false }).onSys fun y => { y with hostConfigured := true, mode := .service }).onDom 12 fun x => { x with state := .on }).onPort 0 fun p => { p with up := true, l12 := false }).onCtrl 0 fun c => { c with en := true, rdy := true, fetchStopped := false, sqs := [({ id := 0, size := 32, cqid := 0, prio := 0, tail := 1, head := 0 } : Sq)], cqs := [({ id := 0, size := 32, vector := 0, tail := 0, head := 0 } : Cq)] }).onCtrl 0 fun c => { c with sqs := [({ id := 0, size := 32, cqid := 0, prio := 0, tail := 1, head := 0 } : Sq), ({ id := 1, size := 4, cqid := 1, prio := 0, tail := 1, head := 0 } : Sq)], cqs := [({ id := 0, size := 32, vector := 0, tail := 0, head := 0 } : Cq), ({ id := 1, size := 4, vector := 1, tail := 0, head := 0 } : Cq)] }).onPlc fun p => { p with nss := [({ nsid := 1, blocks := 1000, lbaf := 1, bands := [0], attached := 1, shared := false, settled := true } : Ns)] }).onPlc fun p => { p with extents := [{ gmu := 2, len := 1, loc := { act := 0, head := 1, track := 5 }, sector := 0, zone := 0, kind := .cache, gen := 3, temp := 0 }] }, by decide⟩,
   ⟨({ ctrl := 0, sqid := 1, cid := 5 } : NvmeHdr), { nsid := 1, lba := 1000, nlb := 1 }, true, ({ nsid := 1, blocks := 1000, lbaf := 1, bands := [0], attached := 1, shared := false, settled := true } : Ns), (((((((State.reset.onPorts fun p => { p with perst := false }).onSys fun y => { y with hostConfigured := true, mode := .service }).onDom 12 fun x => { x with state := .on }).onPort 0 fun p => { p with up := true, l12 := false }).onCtrl 0 fun c => { c with en := true, rdy := true, fetchStopped := false, sqs := [({ id := 0, size := 32, cqid := 0, prio := 0, tail := 1, head := 0 } : Sq)], cqs := [({ id := 0, size := 32, vector := 0, tail := 0, head := 0 } : Cq)] }).onCtrl 0 fun c => { c with sqs := [({ id := 0, size := 32, cqid := 0, prio := 0, tail := 1, head := 0 } : Sq), ({ id := 1, size := 4, cqid := 1, prio := 0, tail := 1, head := 0 } : Sq)], cqs := [({ id := 0, size := 32, vector := 0, tail := 0, head := 0 } : Cq), ({ id := 1, size := 4, vector := 1, tail := 0, head := 0 } : Cq)] }).onPlc fun p => { p with nss := [({ nsid := 1, blocks := 1000, lbaf := 1, bands := [0], attached := 1, shared := false, settled := true } : Ns)] }), by decide⟩,
   ⟨({ ctrl := 0, sqid := 1, cid := 5 } : NvmeHdr), { nsid := 1, lba := 2, nlb := 1 }, ({ nsid := 1, blocks := 1000, lbaf := 1, bands := [0], attached := 1, shared := false, settled := true } : Ns), 2, (((((((State.reset.onPorts fun p => { p with perst := false }).onSys fun y => { y with hostConfigured := true, mode := .service }).onDom 12 fun x => { x with state := .on }).onPort 0 fun p => { p with up := true, l12 := false }).onCtrl 0 fun c => { c with en := true, rdy := true, fetchStopped := false, sqs := [({ id := 0, size := 32, cqid := 0, prio := 0, tail := 1, head := 0 } : Sq)], cqs := [({ id := 0, size := 32, vector := 0, tail := 0, head := 0 } : Cq)] }).onCtrl 0 fun c => { c with sqs := [({ id := 0, size := 32, cqid := 0, prio := 0, tail := 1, head := 0 } : Sq), ({ id := 1, size := 4, cqid := 1, prio := 0, tail := 1, head := 0 } : Sq)], cqs := [({ id := 0, size := 32, vector := 0, tail := 0, head := 0 } : Cq), ({ id := 1, size := 4, vector := 1, tail := 0, head := 0 } : Cq)] }).onPlc fun p => { p with nss := [({ nsid := 1, blocks := 1000, lbaf := 1, bands := [0], attached := 1, shared := false, settled := true } : Ns)] }), by decide⟩,
   ⟨({ ctrl := 0, sqid := 1, cid := 5 } : NvmeHdr), { nsid := 1, lba := 2, nlb := 1 }, ({ nsid := 1, blocks := 1000, lbaf := 1, bands := [0], attached := 1, shared := false, settled := true } : Ns), 2, (((((((State.reset.onPorts fun p => { p with perst := false }).onSys fun y => { y with hostConfigured := true, mode := .service }).onDom 12 fun x => { x with state := .on }).onPort 0 fun p => { p with up := true, l12 := false }).onCtrl 0 fun c => { c with en := true, rdy := true, fetchStopped := false, sqs := [({ id := 0, size := 32, cqid := 0, prio := 0, tail := 1, head := 0 } : Sq)], cqs := [({ id := 0, size := 32, vector := 0, tail := 0, head := 0 } : Cq)] }).onCtrl 0 fun c => { c with sqs := [({ id := 0, size := 32, cqid := 0, prio := 0, tail := 1, head := 0 } : Sq), ({ id := 1, size := 4, cqid := 1, prio := 0, tail := 1, head := 0 } : Sq)], cqs := [({ id := 0, size := 32, vector := 0, tail := 0, head := 0 } : Cq), ({ id := 1, size := 4, vector := 1, tail := 0, head := 0 } : Cq)] }).onPlc fun p => { p with nss := [({ nsid := 1, blocks := 1000, lbaf := 1, bands := [0], attached := 1, shared := false, settled := true } : Ns)] }), by decide⟩,
   ⟨({ ctrl := 0, sqid := 1, cid := 5 } : NvmeHdr), (((((((State.reset.onPorts fun p => { p with perst := false }).onSys fun y => { y with hostConfigured := true, mode := .service }).onDom 12 fun x => { x with state := .on }).onPort 0 fun p => { p with up := true, l12 := false }).onCtrl 0 fun c => { c with en := true, rdy := true, fetchStopped := false, sqs := [({ id := 0, size := 32, cqid := 0, prio := 0, tail := 1, head := 0 } : Sq)], cqs := [({ id := 0, size := 32, vector := 0, tail := 0, head := 0 } : Cq)] }).onCtrl 0 fun c => { c with sqs := [({ id := 0, size := 32, cqid := 0, prio := 0, tail := 1, head := 0 } : Sq), ({ id := 1, size := 4, cqid := 1, prio := 0, tail := 1, head := 0 } : Sq)], cqs := [({ id := 0, size := 32, vector := 0, tail := 0, head := 0 } : Cq), ({ id := 1, size := 4, vector := 1, tail := 0, head := 0 } : Cq)] }).onPlc fun p => { p with nss := [({ nsid := 1, blocks := 1000, lbaf := 1, bands := [0], attached := 1, shared := false, settled := true } : Ns)] }), by decide⟩,
   ⟨({ ctrl := 0, sqid := 1, cid := 5 } : NvmeHdr), 9, (((((((State.reset.onPorts fun p => { p with perst := false }).onSys fun y => { y with hostConfigured := true, mode := .service }).onDom 12 fun x => { x with state := .on }).onPort 0 fun p => { p with up := true, l12 := false }).onCtrl 0 fun c => { c with en := true, rdy := true, fetchStopped := false, sqs := [({ id := 0, size := 32, cqid := 0, prio := 0, tail := 1, head := 0 } : Sq)], cqs := [({ id := 0, size := 32, vector := 0, tail := 0, head := 0 } : Cq)] }).onCtrl 0 fun c => { c with sqs := [({ id := 0, size := 32, cqid := 0, prio := 0, tail := 1, head := 0 } : Sq), ({ id := 1, size := 4, cqid := 1, prio := 0, tail := 1, head := 0 } : Sq)], cqs := [({ id := 0, size := 32, vector := 0, tail := 0, head := 0 } : Cq), ({ id := 1, size := 4, vector := 1, tail := 0, head := 0 } : Cq)] }).onPlc fun p => { p with nss := [({ nsid := 1, blocks := 1000, lbaf := 1, bands := [0], attached := 1, shared := false, settled := true } : Ns)] }).onPlc fun p => { p with pend := [.groupEnd 9] }, by decide⟩,
   ⟨({ ctrl := 0, sqid := 1, cid := 5 } : NvmeHdr), { nsid := 1, lba := 2, nlb := 1 }, ({ nsid := 1, blocks := 1000, lbaf := 1, bands := [0], attached := 1, shared := false, settled := true } : Ns), 2, true, (((((((State.reset.onPorts fun p => { p with perst := false }).onSys fun y => { y with hostConfigured := true, mode := .service }).onDom 12 fun x => { x with state := .on }).onPort 0 fun p => { p with up := true, l12 := false }).onCtrl 0 fun c => { c with en := true, rdy := true, fetchStopped := false, sqs := [({ id := 0, size := 32, cqid := 0, prio := 0, tail := 1, head := 0 } : Sq)], cqs := [({ id := 0, size := 32, vector := 0, tail := 0, head := 0 } : Cq)] }).onCtrl 0 fun c => { c with sqs := [({ id := 0, size := 32, cqid := 0, prio := 0, tail := 1, head := 0 } : Sq), ({ id := 1, size := 4, cqid := 1, prio := 0, tail := 1, head := 0 } : Sq)], cqs := [({ id := 0, size := 32, vector := 0, tail := 0, head := 0 } : Cq), ({ id := 1, size := 4, vector := 1, tail := 0, head := 0 } : Cq)] }).onPlc fun p => { p with nss := [({ nsid := 1, blocks := 1000, lbaf := 1, bands := [0], attached := 1, shared := false, settled := true } : Ns)] }), by decide⟩,
   ⟨({ ctrl := 0, sqid := 1, cid := 5 } : NvmeHdr), 2, 1, ({ nsid := 1, blocks := 1000, lbaf := 1, bands := [0], attached := 1, shared := false, settled := true } : Ns), 2, (((((((State.reset.onPorts fun p => { p with perst := false }).onSys fun y => { y with hostConfigured := true, mode := .service }).onDom 12 fun x => { x with state := .on }).onPort 0 fun p => { p with up := true, l12 := false }).onCtrl 0 fun c => { c with en := true, rdy := true, fetchStopped := false, sqs := [({ id := 0, size := 32, cqid := 0, prio := 0, tail := 1, head := 0 } : Sq)], cqs := [({ id := 0, size := 32, vector := 0, tail := 0, head := 0 } : Cq)] }).onCtrl 0 fun c => { c with sqs := [({ id := 0, size := 32, cqid := 0, prio := 0, tail := 1, head := 0 } : Sq), ({ id := 1, size := 4, cqid := 1, prio := 0, tail := 1, head := 0 } : Sq)], cqs := [({ id := 0, size := 32, vector := 0, tail := 0, head := 0 } : Cq), ({ id := 1, size := 4, vector := 1, tail := 0, head := 0 } : Cq)] }).onPlc fun p => { p with nss := [({ nsid := 1, blocks := 1000, lbaf := 1, bands := [0], attached := 1, shared := false, settled := true } : Ns)] }), by decide⟩,
   ⟨({ ctrl := 0, sqid := 1, cid := 5 } : NvmeHdr), ({ nsid := 1, blocks := 1000, lbaf := 1, bands := [0], attached := 1, shared := false, settled := true } : Ns), [(0, 1)], (((((((State.reset.onPorts fun p => { p with perst := false }).onSys fun y => { y with hostConfigured := true, mode := .service }).onDom 12 fun x => { x with state := .on }).onPort 0 fun p => { p with up := true, l12 := false }).onCtrl 0 fun c => { c with en := true, rdy := true, fetchStopped := false, sqs := [({ id := 0, size := 32, cqid := 0, prio := 0, tail := 1, head := 0 } : Sq)], cqs := [({ id := 0, size := 32, vector := 0, tail := 0, head := 0 } : Cq)] }).onCtrl 0 fun c => { c with sqs := [({ id := 0, size := 32, cqid := 0, prio := 0, tail := 1, head := 0 } : Sq), ({ id := 1, size := 4, cqid := 1, prio := 0, tail := 1, head := 0 } : Sq)], cqs := [({ id := 0, size := 32, vector := 0, tail := 0, head := 0 } : Cq), ({ id := 1, size := 4, vector := 1, tail := 0, head := 0 } : Cq)] }).onPlc fun p => { p with nss := [({ nsid := 1, blocks := 1000, lbaf := 1, bands := [0], attached := 1, shared := false, settled := true } : Ns)] }), by decide⟩,
   ⟨({ ctrl := 0, sqid := 1, cid := 5 } : NvmeHdr), ({ nsid := 1, blocks := 1000, lbaf := 1, bands := [0], attached := 1, shared := false, settled := true } : Ns), (((((((State.reset.onPorts fun p => { p with perst := false }).onSys fun y => { y with hostConfigured := true, mode := .service }).onDom 12 fun x => { x with state := .on }).onPort 0 fun p => { p with up := true, l12 := false }).onCtrl 0 fun c => { c with en := true, rdy := true, fetchStopped := false, sqs := [({ id := 0, size := 32, cqid := 0, prio := 0, tail := 1, head := 0 } : Sq)], cqs := [({ id := 0, size := 32, vector := 0, tail := 0, head := 0 } : Cq)] }).onCtrl 0 fun c => { c with sqs := [({ id := 0, size := 32, cqid := 0, prio := 0, tail := 1, head := 0 } : Sq), ({ id := 1, size := 4, cqid := 1, prio := 0, tail := 1, head := 0 } : Sq)], cqs := [({ id := 0, size := 32, vector := 0, tail := 0, head := 0 } : Cq), ({ id := 1, size := 4, vector := 1, tail := 0, head := 0 } : Cq)] }).onPlc fun p => { p with nss := [({ nsid := 1, blocks := 1000, lbaf := 1, bands := [0], attached := 1, shared := false, settled := true } : Ns)] }), by decide⟩,
   ⟨({ ctrl := 0, sqid := 1, cid := 5 } : NvmeHdr), ({ nsid := 1, blocks := 1000, lbaf := 1, bands := [0], attached := 1, shared := false, settled := true } : Ns), (((((((State.reset.onPorts fun p => { p with perst := false }).onSys fun y => { y with hostConfigured := true, mode := .service }).onDom 12 fun x => { x with state := .on }).onPort 0 fun p => { p with up := true, l12 := false }).onCtrl 0 fun c => { c with en := true, rdy := true, fetchStopped := false, sqs := [({ id := 0, size := 32, cqid := 0, prio := 0, tail := 1, head := 0 } : Sq)], cqs := [({ id := 0, size := 32, vector := 0, tail := 0, head := 0 } : Cq)] }).onCtrl 0 fun c => { c with sqs := [({ id := 0, size := 32, cqid := 0, prio := 0, tail := 1, head := 0 } : Sq), ({ id := 1, size := 4, cqid := 1, prio := 0, tail := 1, head := 0 } : Sq)], cqs := [({ id := 0, size := 32, vector := 0, tail := 0, head := 0 } : Cq), ({ id := 1, size := 4, vector := 1, tail := 0, head := 0 } : Cq)] }).onPlc fun p => { p with nss := [({ nsid := 1, blocks := 1000, lbaf := 1, bands := [0], attached := 1, shared := false, settled := true } : Ns)] }), by decide⟩⟩

/-- The hypotheses of `Obligations.ReservationsOfNamespaces` can be met. -/
theorem test_reservations_of_namespaces_hyps :
    (∃ (h : NvmeHdr) (x : Ns) (k : BitVec 64) (s : State), (FetchesIo h s ∧ s.plc.nss = [x] ∧ x.attached.getLsbD h.ctrl.val = true ∧ s.nvme.reservations = [])) ∧
    (∃ (h : NvmeHdr) (x : Ns) (r : Reservation) (ty : Nat) (k : BitVec 64) (s : State), (FetchesIo h s ∧ s.plc.nss = [x] ∧ x.attached.getLsbD h.ctrl.val = true ∧ s.nvme.reservations = [r] ∧ r.nsid = x.nsid ∧ r.registrants = [{ host := s.hostOf h.ctrl, key := k }] ∧ r.holder = none ∧ r.ptpl = false ∧ 1 ≤ ty ∧ ty ≤ 6)) ∧
    (∃ (h : NvmeHdr) (x : Ns) (r : Reservation) (ty act : Nat) (k j : BitVec 64) (s : State), (FetchesIo h s ∧ s.plc.nss = [x] ∧ x.attached.getLsbD h.ctrl.val = true ∧ s.nvme.reservations = [r] ∧ r.nsid = x.nsid ∧ r.registrants = [{ host := s.hostOf h.ctrl, key := k }] ∧ j ≠ k ∧ 1 ≤ ty ∧ ty ≤ 6 ∧ act ≤ 2)) ∧
    (∃ (h : NvmeHdr) (x : Ns) (r : Reservation) (k : BitVec 64) (s : State), (FetchesIo h s ∧ s.plc.nss = [x] ∧ x.attached.getLsbD h.ctrl.val = true ∧ s.nvme.reservations = [r] ∧ r.nsid = x.nsid ∧ r.registrants = [{ host := s.hostOf h.ctrl, key := k }] ∧ r.holder = some (s.hostOf h.ctrl) ∧ r.ptpl = false)) ∧
    (∃ (h : NvmeHdr) (x : Ns) (s : State), (FetchesIo h s ∧ s.plc.nss = [x] ∧ x.attached.getLsbD h.ctrl.val = true)) :=
  ⟨⟨({ ctrl := 0, sqid := 1, cid := 5 } : NvmeHdr), ({ nsid := 1, blocks := 1000, lbaf := 1, bands := [0], attached := 1, shared := false, settled := true } : Ns), 7, (((((((State.reset.onPorts fun p => { p with perst := false }).onSys fun y => { y with hostConfigured := true, mode := .service }).onDom 12 fun x => { x with state := .on }).onPort 0 fun p => { p with up := true, l12 := false }).onCtrl 0 fun c => { c with en := true, rdy := true, fetchStopped := false, sqs := [({ id := 0, size := 32, cqid := 0, prio := 0, tail := 1, head := 0 } : Sq)], cqs := [({ id := 0, size := 32, vector := 0, tail := 0, head := 0 } : Cq)] }).onCtrl 0 fun c => { c with sqs := [({ id := 0, size := 32, cqid := 0, prio := 0, tail := 1, head := 0 } : Sq), ({ id := 1, size := 4, cqid := 1, prio := 0, tail := 1, head := 0 } : Sq)], cqs := [({ id := 0, size := 32, vector := 0, tail := 0, head := 0 } : Cq), ({ id := 1, size := 4, vector := 1, tail := 0, head := 0 } : Cq)] }).onPlc fun p => { p with nss := [({ nsid := 1, blocks := 1000, lbaf := 1, bands := [0], attached := 1, shared := false, settled := true } : Ns)] }), by decide⟩,
   ⟨({ ctrl := 0, sqid := 1, cid := 5 } : NvmeHdr), ({ nsid := 1, blocks := 1000, lbaf := 1, bands := [0], attached := 1, shared := false, settled := true } : Ns), { nsid := 1, registrants := [{ host := 0, key := 7 }], holder := none, rtype := 0, ptpl := false, generation := 1 }, 6, 7, (((((((State.reset.onPorts fun p => { p with perst := false }).onSys fun y => { y with hostConfigured := true, mode := .service }).onDom 12 fun x => { x with state := .on }).onPort 0 fun p => { p with up := true, l12 := false }).onCtrl 0 fun c => { c with en := true, rdy := true, fetchStopped := false, sqs := [({ id := 0, size := 32, cqid := 0, prio := 0, tail := 1, head := 0 } : Sq)], cqs := [({ id := 0, size := 32, vector := 0, tail := 0, head := 0 } : Cq)] }).onCtrl 0 fun c => { c with sqs := [({ id := 0, size := 32, cqid := 0, prio := 0, tail := 1, head := 0 } : Sq), ({ id := 1, size := 4, cqid := 1, prio := 0, tail := 1, head := 0 } : Sq)], cqs := [({ id := 0, size := 32, vector := 0, tail := 0, head := 0 } : Cq), ({ id := 1, size := 4, vector := 1, tail := 0, head := 0 } : Cq)] }).onPlc fun p => { p with nss := [({ nsid := 1, blocks := 1000, lbaf := 1, bands := [0], attached := 1, shared := false, settled := true } : Ns)] }).onNvme fun v => { v with reservations := [{ nsid := 1, registrants := [{ host := 0, key := 7 }], holder := none, rtype := 0, ptpl := false, generation := 1 }] }, by decide⟩,
   ⟨({ ctrl := 0, sqid := 1, cid := 5 } : NvmeHdr), ({ nsid := 1, blocks := 1000, lbaf := 1, bands := [0], attached := 1, shared := false, settled := true } : Ns), { nsid := 1, registrants := [{ host := 0, key := 7 }], holder := none, rtype := 0, ptpl := false, generation := 1 }, 6, 2, 7, 8, (((((((State.reset.onPorts fun p => { p with perst := false }).onSys fun y => { y with hostConfigured := true, mode := .service }).onDom 12 fun x => { x with state := .on }).onPort 0 fun p => { p with up := true, l12 := false }).onCtrl 0 fun c => { c with en := true, rdy := true, fetchStopped := false, sqs := [({ id := 0, size := 32, cqid := 0, prio := 0, tail := 1, head := 0 } : Sq)], cqs := [({ id := 0, size := 32, vector := 0, tail := 0, head := 0 } : Cq)] }).onCtrl 0 fun c => { c with sqs := [({ id := 0, size := 32, cqid := 0, prio := 0, tail := 1, head := 0 } : Sq), ({ id := 1, size := 4, cqid := 1, prio := 0, tail := 1, head := 0 } : Sq)], cqs := [({ id := 0, size := 32, vector := 0, tail := 0, head := 0 } : Cq), ({ id := 1, size := 4, vector := 1, tail := 0, head := 0 } : Cq)] }).onPlc fun p => { p with nss := [({ nsid := 1, blocks := 1000, lbaf := 1, bands := [0], attached := 1, shared := false, settled := true } : Ns)] }).onNvme fun v => { v with reservations := [{ nsid := 1, registrants := [{ host := 0, key := 7 }], holder := none, rtype := 0, ptpl := false, generation := 1 }] }, by decide⟩,
   ⟨({ ctrl := 0, sqid := 1, cid := 5 } : NvmeHdr), ({ nsid := 1, blocks := 1000, lbaf := 1, bands := [0], attached := 1, shared := false, settled := true } : Ns), { nsid := 1, registrants := [{ host := 0, key := 7 }], holder := some 0, rtype := 3, ptpl := false, generation := 1 }, 7, (((((((State.reset.onPorts fun p => { p with perst := false }).onSys fun y => { y with hostConfigured := true, mode := .service }).onDom 12 fun x => { x with state := .on }).onPort 0 fun p => { p with up := true, l12 := false }).onCtrl 0 fun c => { c with en := true, rdy := true, fetchStopped := false, sqs := [({ id := 0, size := 32, cqid := 0, prio := 0, tail := 1, head := 0 } : Sq)], cqs := [({ id := 0, size := 32, vector := 0, tail := 0, head := 0 } : Cq)] }).onCtrl 0 fun c => { c with sqs := [({ id := 0, size := 32, cqid := 0, prio := 0, tail := 1, head := 0 } : Sq), ({ id := 1, size := 4, cqid := 1, prio := 0, tail := 1, head := 0 } : Sq)], cqs := [({ id := 0, size := 32, vector := 0, tail := 0, head := 0 } : Cq), ({ id := 1, size := 4, vector := 1, tail := 0, head := 0 } : Cq)] }).onPlc fun p => { p with nss := [({ nsid := 1, blocks := 1000, lbaf := 1, bands := [0], attached := 1, shared := false, settled := true } : Ns)] }).onNvme fun v => { v with reservations := [{ nsid := 1, registrants := [{ host := 0, key := 7 }], holder := some 0, rtype := 3, ptpl := false, generation := 1 }] }, by decide⟩,
   ⟨({ ctrl := 0, sqid := 1, cid := 5 } : NvmeHdr), ({ nsid := 1, blocks := 1000, lbaf := 1, bands := [0], attached := 1, shared := false, settled := true } : Ns), (((((((State.reset.onPorts fun p => { p with perst := false }).onSys fun y => { y with hostConfigured := true, mode := .service }).onDom 12 fun x => { x with state := .on }).onPort 0 fun p => { p with up := true, l12 := false }).onCtrl 0 fun c => { c with en := true, rdy := true, fetchStopped := false, sqs := [({ id := 0, size := 32, cqid := 0, prio := 0, tail := 1, head := 0 } : Sq)], cqs := [({ id := 0, size := 32, vector := 0, tail := 0, head := 0 } : Cq)] }).onCtrl 0 fun c => { c with sqs := [({ id := 0, size := 32, cqid := 0, prio := 0, tail := 1, head := 0 } : Sq), ({ id := 1, size := 4, cqid := 1, prio := 0, tail := 1, head := 0 } : Sq)], cqs := [({ id := 0, size := 32, vector := 0, tail := 0, head := 0 } : Cq), ({ id := 1, size := 4, vector := 1, tail := 0, head := 0 } : Cq)] }).onPlc fun p => { p with nss := [({ nsid := 1, blocks := 1000, lbaf := 1, bands := [0], attached := 1, shared := false, settled := true } : Ns)] }), by decide⟩⟩

/-- The hypotheses of `Obligations.PortsControllersAndDoorbells` can be met. -/
theorem test_ports_controllers_and_doorbells_hyps :
    (∃ (c : Fin 2) (q : Sq) (tail : Nat) (s : State), (s.hostReach c = true ∧ (s.ctrl c).en = true ∧ (s.ctrl c).sqs = [q] ∧ tail < q.size)) ∧
    (∃ (c : Fin 2) (q tail : Nat) (s : State), (s.hostReach c = true ∧ (s.ctrl c).en = true ∧ s.sq? c q = none)) ∧
    (∃ (c : Fin 2) (q : Cq) (head : Nat) (s : State), (s.hostReach c = true ∧ (s.ctrl c).en = true ∧ (s.ctrl c).cqs = [q] ∧ head < q.size)) ∧
    (∃ (c : Fin 2) (q : Cq) (head : Nat) (s : State), (s.hostReach c = true ∧ (s.ctrl c).en = true ∧ (s.ctrl c).cqs = [q] ∧ q.size ≤ head)) ∧
    (∃ (k : Cmd) (c : Fin 2) (s : State), (s.nvme.cmds = [k] ∧ k.ctrl = c ∧ k.need = .nothing ∧ s.hostReach c = true ∧ s.cqFull k = false ∧ s.nvme.activation = none ∧ s.sys.entry = none ∧ s.sys.shutStage = none)) ∧
    (∃ (k : Cmd) (c : Fin 2) (s : State), (s.nvme.cmds = [k] ∧ k.ctrl = c ∧ k.need = .nothing ∧ s.hostReach c = true ∧ s.cqFull k = true)) ∧
    (∃ (c : Fin 2) (x : EnableSetup) (s : State), (s.hostReach c = true ∧ (s.ctrl c).en = false ∧ c.val < s.nvme.ctrls.length ∧ s.sys.shutStage = none ∧ s.nvme.activation = none)) ∧
    (∃ (c : Fin 2) (s : State), (s.hostReach c = true ∧ (s.ctrl c).en = true ∧ s.plc.chunks = [])) ∧
    (∃ (c : Fin 2) (s : State), (s.hostReach c = true ∧ c.val < s.nvme.ctrls.length ∧ s.plc.chunks = [])) ∧
    (∃ (p : Fin 2) (s : State), ((s.port p).up = true ∧ (s.port p).l12 = false ∧ (s.ctrl p).en = true ∧ s.plc.chunks = [])) ∧
    (∃ (p : Fin 2) (w g : Nat) (s : State), (s.presentCtrls.contains p = true ∧ s.domOn (12 + p.val) = true ∧ s.ports.perst = false ∧ s.sys.powerLoss = none ∧ p.val < s.nvme.ports.length ∧ (s.port p).up = false ∧ 1 ≤ w ∧ w ≤ s.lanes ∧ g ≤ 32)) ∧
    (∃ (c : Fin 2) (s : State), (s.hostReach c = true ∧ s.sys.chipResetBy = none ∧ s.sys.mode = .service ∧ s.sys.shutStage = none)) ∧
    (∃ (c : Fin 2) (v : BitVec 32) (s : State), (v ≠ 0x4E564D65)) ∧
    (∃ (s : State), (s.ports.perst = false ∧ s.nvme.cmds = [] ∧ s.plc.chunks = [])) ∧
    (∃ (p : Fin 2) (k : Cmd) (s : State), (s.nvme.cmds = [k] ∧ k.opcode = 2 ∧ k.need = .media 1)) ∧
    (∃ (p : Fin 2) (s : State), ((s.port p).up = true ∧ (s.port p).l12 = false ∧ (s.dom (12 + p.val)).state = .on)) ∧
    (∃ (p : Fin 2) (s : State), ((s.port p).up = true ∧ (s.port p).l12 = true ∧ (s.dom (12 + p.val)).state = .draining ∧ (s.dom (12 + p.val)).suspended = false ∧ s.domPresent (12 + p.val) = true)) :=
  ⟨⟨0, ({ id := 1, size := 4, cqid := 1, prio := 0, tail := 1, head := 0 } : Sq), 3, ((((((State.reset.onPorts fun p => { p with perst := false }).onSys fun y => { y with hostConfigured := true, mode := .service }).onDom 12 fun x => { x with state := .on }).onPort 0 fun p => { p with up := true, l12 := false }).onCtrl 0 fun c => { c with en := true, rdy := true, fetchStopped := false, sqs := [({ id := 0, size := 32, cqid := 0, prio := 0, tail := 1, head := 0 } : Sq)], cqs := [({ id := 0, size := 32, vector := 0, tail := 0, head := 0 } : Cq)] }).onCtrl 0 fun c => { c with sqs := [({ id := 1, size := 4, cqid := 1, prio := 0, tail := 1, head := 0 } : Sq)], cqs := [({ id := 1, size := 4, vector := 1, tail := 0, head := 0 } : Cq)] }), by decide⟩,
   ⟨0, 2, 0, (((((((State.reset.onPorts fun p => { p with perst := false }).onSys fun y => { y with hostConfigured := true, mode := .service }).onDom 12 fun x => { x with state := .on }).onPort 0 fun p => { p with up := true, l12 := false }).onCtrl 0 fun c => { c with en := true, rdy := true, fetchStopped := false, sqs := [({ id := 0, size := 32, cqid := 0, prio := 0, tail := 1, head := 0 } : Sq)], cqs := [({ id := 0, size := 32, vector := 0, tail := 0, head := 0 } : Cq)] }).onCtrl 0 fun c => { c with sqs := [({ id := 0, size := 32, cqid := 0, prio := 0, tail := 1, head := 0 } : Sq), ({ id := 1, size := 4, cqid := 1, prio := 0, tail := 1, head := 0 } : Sq)], cqs := [({ id := 0, size := 32, vector := 0, tail := 0, head := 0 } : Cq), ({ id := 1, size := 4, vector := 1, tail := 0, head := 0 } : Cq)] }).onPlc fun p => { p with nss := [({ nsid := 1, blocks := 1000, lbaf := 1, bands := [0], attached := 1, shared := false, settled := true } : Ns)] }), by decide⟩,
   ⟨0, ({ id := 1, size := 4, vector := 1, tail := 0, head := 0 } : Cq), 3, ((((((State.reset.onPorts fun p => { p with perst := false }).onSys fun y => { y with hostConfigured := true, mode := .service }).onDom 12 fun x => { x with state := .on }).onPort 0 fun p => { p with up := true, l12 := false }).onCtrl 0 fun c => { c with en := true, rdy := true, fetchStopped := false, sqs := [({ id := 0, size := 32, cqid := 0, prio := 0, tail := 1, head := 0 } : Sq)], cqs := [({ id := 0, size := 32, vector := 0, tail := 0, head := 0 } : Cq)] }).onCtrl 0 fun c => { c with sqs := [({ id := 1, size := 4, cqid := 1, prio := 0, tail := 1, head := 0 } : Sq)], cqs := [({ id := 1, size := 4, vector := 1, tail := 0, head := 0 } : Cq)] }), by decide⟩,
   ⟨0, ({ id := 1, size := 4, vector := 1, tail := 0, head := 0 } : Cq), 4, ((((((State.reset.onPorts fun p => { p with perst := false }).onSys fun y => { y with hostConfigured := true, mode := .service }).onDom 12 fun x => { x with state := .on }).onPort 0 fun p => { p with up := true, l12 := false }).onCtrl 0 fun c => { c with en := true, rdy := true, fetchStopped := false, sqs := [({ id := 0, size := 32, cqid := 0, prio := 0, tail := 1, head := 0 } : Sq)], cqs := [({ id := 0, size := 32, vector := 0, tail := 0, head := 0 } : Cq)] }).onCtrl 0 fun c => { c with sqs := [({ id := 1, size := 4, cqid := 1, prio := 0, tail := 1, head := 0 } : Sq)], cqs := [({ id := 1, size := 4, vector := 1, tail := 0, head := 0 } : Cq)] }), by decide⟩,
   ⟨({ n := 0, ctrl := 0, sqid := 1, cid := 0, opcode := 2, admin := false, nsid := 1, lba := 0, nlb := 1, limitedRetry := false, places := [], gen := 0, fua := false, handle := none, due := 0xFFFFFFFF, need := .nothing, status := nvOk, dw0 := 0, lateSeen := false } : Cmd), 0, (((((((State.reset.onPorts fun p => { p with perst := false }).onSys fun y => { y with hostConfigured := true, mode := .service }).onDom 12 fun x => { x with state := .on }).onPort 0 fun p => { p with up := true, l12 := false }).onCtrl 0 fun c => { c with en := true, rdy := true, fetchStopped := false, sqs := [({ id := 0, size := 32, cqid := 0, prio := 0, tail := 1, head := 0 } : Sq)], cqs := [({ id := 0, size := 32, vector := 0, tail := 0, head := 0 } : Cq)] }).onCtrl 0 fun c => { c with sqs := [({ id := 0, size := 32, cqid := 0, prio := 0, tail := 1, head := 0 } : Sq), ({ id := 1, size := 4, cqid := 1, prio := 0, tail := 1, head := 0 } : Sq)], cqs := [({ id := 0, size := 32, vector := 0, tail := 0, head := 0 } : Cq), ({ id := 1, size := 4, vector := 1, tail := 0, head := 0 } : Cq)] }).onPlc fun p => { p with nss := [({ nsid := 1, blocks := 1000, lbaf := 1, bands := [0], attached := 1, shared := false, settled := true } : Ns)] }).onNvme fun v => { v with cmds := [({ n := 0, ctrl := 0, sqid := 1, cid := 0, opcode := 2, admin := false, nsid := 1, lba := 0, nlb := 1, limitedRetry := false, places := [], gen := 0, fua := false, handle := none, due := 0xFFFFFFFF, need := .nothing, status := nvOk, dw0 := 0, lateSeen := false } : Cmd)] }, by decide⟩,
   ⟨({ n := 0, ctrl := 0, sqid := 1, cid := 0, opcode := 2, admin := false, nsid := 1, lba := 0, nlb := 1, limitedRetry := false, places := [], gen := 0, fua := false, handle := none, due := 0xFFFFFFFF, need := .nothing, status := nvOk, dw0 := 0, lateSeen := false } : Cmd), 0, ((((((((State.reset.onPorts fun p => { p with perst := false }).onSys fun y => { y with hostConfigured := true, mode := .service }).onDom 12 fun x => { x with state := .on }).onPort 0 fun p => { p with up := true, l12 := false }).onCtrl 0 fun c => { c with en := true, rdy := true, fetchStopped := false, sqs := [({ id := 0, size := 32, cqid := 0, prio := 0, tail := 1, head := 0 } : Sq)], cqs := [({ id := 0, size := 32, vector := 0, tail := 0, head := 0 } : Cq)] }).onCtrl 0 fun c => { c with sqs := [({ id := 0, size := 32, cqid := 0, prio := 0, tail := 1, head := 0 } : Sq), ({ id := 1, size := 4, cqid := 1, prio := 0, tail := 1, head := 0 } : Sq)], cqs := [({ id := 0, size := 32, vector := 0, tail := 0, head := 0 } : Cq), ({ id := 1, size := 4, vector := 1, tail := 0, head := 0 } : Cq)] }).onPlc fun p => { p with nss := [({ nsid := 1, blocks := 1000, lbaf := 1, bands := [0], attached := 1, shared := false, settled := true } : Ns)] }).onCtrl 0 fun c => { c with cqs := [({ id := 0, size := 32, vector := 0, tail := 0, head := 0 } : Cq), { ({ id := 1, size := 4, vector := 1, tail := 0, head := 0 } : Cq) with tail := 3 }] }).onNvme fun v => { v with cmds := [({ n := 0, ctrl := 0, sqid := 1, cid := 0, opcode := 2, admin := false, nsid := 1, lba := 0, nlb := 1, limitedRetry := false, places := [], gen := 0, fua := false, handle := none, due := 0xFFFFFFFF, need := .nothing, status := nvOk, dw0 := 0, lateSeen := false } : Cmd)] }, by decide⟩,
   ⟨0, { ams := 1, asqs := 31, acqs := 31 }, (((((State.reset.onPorts fun p => { p with perst := false }).onSys fun y => { y with hostConfigured := true, mode := .service }).onDom 12 fun x => { x with state := .on }).onPort 0 fun p => { p with up := true, l12 := false }).onCtrl 0 fun c => { c with en := true, rdy := true, fetchStopped := false, sqs := [({ id := 0, size := 32, cqid := 0, prio := 0, tail := 1, head := 0 } : Sq)], cqs := [({ id := 0, size := 32, vector := 0, tail := 0, head := 0 } : Cq)] }).onCtrl 0 fun c => { c with en := false }, by decide⟩,
   ⟨0, (((((((State.reset.onPorts fun p => { p with perst := false }).onSys fun y => { y with hostConfigured := true, mode := .service }).onDom 12 fun x => { x with state := .on }).onPort 0 fun p => { p with up := true, l12 := false }).onCtrl 0 fun c => { c with en := true, rdy := true, fetchStopped := false, sqs := [({ id := 0, size := 32, cqid := 0, prio := 0, tail := 1, head := 0 } : Sq)], cqs := [({ id := 0, size := 32, vector := 0, tail := 0, head := 0 } : Cq)] }).onCtrl 0 fun c => { c with sqs := [({ id := 0, size := 32, cqid := 0, prio := 0, tail := 1, head := 0 } : Sq), ({ id := 1, size := 4, cqid := 1, prio := 0, tail := 1, head := 0 } : Sq)], cqs := [({ id := 0, size := 32, vector := 0, tail := 0, head := 0 } : Cq), ({ id := 1, size := 4, vector := 1, tail := 0, head := 0 } : Cq)] }).onPlc fun p => { p with nss := [({ nsid := 1, blocks := 1000, lbaf := 1, bands := [0], attached := 1, shared := false, settled := true } : Ns)] }).onNvme fun v => { v with cmds := [({ n := 0, ctrl := 0, sqid := 1, cid := 0, opcode := 2, admin := false, nsid := 1, lba := 0, nlb := 1, limitedRetry := false, places := [], gen := 0, fua := false, handle := none, due := 0xFFFFFFFF, need := .nothing, status := nvOk, dw0 := 0, lateSeen := false } : Cmd)] }, by decide⟩,
   ⟨0, (((((((State.reset.onPorts fun p => { p with perst := false }).onSys fun y => { y with hostConfigured := true, mode := .service }).onDom 12 fun x => { x with state := .on }).onPort 0 fun p => { p with up := true, l12 := false }).onCtrl 0 fun c => { c with en := true, rdy := true, fetchStopped := false, sqs := [({ id := 0, size := 32, cqid := 0, prio := 0, tail := 1, head := 0 } : Sq)], cqs := [({ id := 0, size := 32, vector := 0, tail := 0, head := 0 } : Cq)] }).onCtrl 0 fun c => { c with sqs := [({ id := 0, size := 32, cqid := 0, prio := 0, tail := 1, head := 0 } : Sq), ({ id := 1, size := 4, cqid := 1, prio := 0, tail := 1, head := 0 } : Sq)], cqs := [({ id := 0, size := 32, vector := 0, tail := 0, head := 0 } : Cq), ({ id := 1, size := 4, vector := 1, tail := 0, head := 0 } : Cq)] }).onPlc fun p => { p with nss := [({ nsid := 1, blocks := 1000, lbaf := 1, bands := [0], attached := 1, shared := false, settled := true } : Ns)] }).onNvme fun v => { v with cmds := [({ n := 0, ctrl := 0, sqid := 1, cid := 0, opcode := 2, admin := false, nsid := 1, lba := 0, nlb := 1, limitedRetry := false, places := [], gen := 0, fua := false, handle := none, due := 0xFFFFFFFF, need := .nothing, status := nvOk, dw0 := 0, lateSeen := false } : Cmd)] }, by decide⟩,
   ⟨0, (((((((State.reset.onPorts fun p => { p with perst := false }).onSys fun y => { y with hostConfigured := true, mode := .service }).onDom 12 fun x => { x with state := .on }).onPort 0 fun p => { p with up := true, l12 := false }).onCtrl 0 fun c => { c with en := true, rdy := true, fetchStopped := false, sqs := [({ id := 0, size := 32, cqid := 0, prio := 0, tail := 1, head := 0 } : Sq)], cqs := [({ id := 0, size := 32, vector := 0, tail := 0, head := 0 } : Cq)] }).onCtrl 0 fun c => { c with sqs := [({ id := 0, size := 32, cqid := 0, prio := 0, tail := 1, head := 0 } : Sq), ({ id := 1, size := 4, cqid := 1, prio := 0, tail := 1, head := 0 } : Sq)], cqs := [({ id := 0, size := 32, vector := 0, tail := 0, head := 0 } : Cq), ({ id := 1, size := 4, vector := 1, tail := 0, head := 0 } : Cq)] }).onPlc fun p => { p with nss := [({ nsid := 1, blocks := 1000, lbaf := 1, bands := [0], attached := 1, shared := false, settled := true } : Ns)] }).onNvme fun v => { v with cmds := [({ n := 0, ctrl := 0, sqid := 1, cid := 0, opcode := 2, admin := false, nsid := 1, lba := 0, nlb := 1, limitedRetry := false, places := [], gen := 0, fua := false, handle := none, due := 0xFFFFFFFF, need := .nothing, status := nvOk, dw0 := 0, lateSeen := false } : Cmd)] }, by decide⟩,
   ⟨0, 2, 32, (((((State.reset.onPorts fun p => { p with perst := false }).onSys fun y => { y with hostConfigured := true, mode := .service }).onDom 12 fun x => { x with state := .on }).onPort 0 fun p => { p with up := true, l12 := false }).onCtrl 0 fun c => { c with en := true, rdy := true, fetchStopped := false, sqs := [({ id := 0, size := 32, cqid := 0, prio := 0, tail := 1, head := 0 } : Sq)], cqs := [({ id := 0, size := 32, vector := 0, tail := 0, head := 0 } : Cq)] }).onPort 0 fun p => { p with up := false }, by decide⟩,
   ⟨0, (((((State.reset.onPorts fun p => { p with perst := false }).onSys fun y => { y with hostConfigured := true, mode := .service }).onDom 12 fun x => { x with state := .on }).onPort 0 fun p => { p with up := true, l12 := false }).onCtrl 0 fun c => { c with en := true, rdy := true, fetchStopped := false, sqs := [({ id := 0, size := 32, cqid := 0, prio := 0, tail := 1, head := 0 } : Sq)], cqs := [({ id := 0, size := 32, vector := 0, tail := 0, head := 0 } : Cq)] }), by decide⟩,
   ⟨0, 0, State.reset, by decide⟩,
   ⟨(((((State.reset.onPorts fun p => { p with perst := false }).onSys fun y => { y with hostConfigured := true, mode := .service }).onDom 12 fun x => { x with state := .on }).onPort 0 fun p => { p with up := true, l12 := false }).onCtrl 0 fun c => { c with en := true, rdy := true, fetchStopped := false, sqs := [({ id := 0, size := 32, cqid := 0, prio := 0, tail := 1, head := 0 } : Sq)], cqs := [({ id := 0, size := 32, vector := 0, tail := 0, head := 0 } : Cq)] }), by decide⟩,
   ⟨0, { ({ n := 0, ctrl := 0, sqid := 1, cid := 0, opcode := 2, admin := false, nsid := 1, lba := 0, nlb := 1, limitedRetry := false, places := [], gen := 0, fua := false, handle := none, due := 0xFFFFFFFF, need := .nothing, status := nvOk, dw0 := 0, lateSeen := false } : Cmd) with need := .media 1 }, (((((State.reset.onPorts fun p => { p with perst := false }).onSys fun y => { y with hostConfigured := true, mode := .service }).onDom 12 fun x => { x with state := .on }).onPort 0 fun p => { p with up := true, l12 := false }).onCtrl 0 fun c => { c with en := true, rdy := true, fetchStopped := false, sqs := [({ id := 0, size := 32, cqid := 0, prio := 0, tail := 1, head := 0 } : Sq)], cqs := [({ id := 0, size := 32, vector := 0, tail := 0, head := 0 } : Cq)] }).onNvme fun v => { v with cmds := [{ ({ n := 0, ctrl := 0, sqid := 1, cid := 0, opcode := 2, admin := false, nsid := 1, lba := 0, nlb := 1, limitedRetry := false, places := [], gen := 0, fua := false, handle := none, due := 0xFFFFFFFF, need := .nothing, status := nvOk, dw0 := 0, lateSeen := false } : Cmd) with need := .media 1 }] }, by decide⟩,
   ⟨0, (((((State.reset.onPorts fun p => { p with perst := false }).onSys fun y => { y with hostConfigured := true, mode := .service }).onDom 12 fun x => { x with state := .on }).onPort 0 fun p => { p with up := true, l12 := false }).onCtrl 0 fun c => { c with en := true, rdy := true, fetchStopped := false, sqs := [({ id := 0, size := 32, cqid := 0, prio := 0, tail := 1, head := 0 } : Sq)], cqs := [({ id := 0, size := 32, vector := 0, tail := 0, head := 0 } : Cq)] }), by decide⟩,
   ⟨0, ((((((State.reset.onPorts fun p => { p with perst := false }).onSys fun y => { y with hostConfigured := true, mode := .service }).onDom 12 fun x => { x with state := .on }).onPort 0 fun p => { p with up := true, l12 := false }).onCtrl 0 fun c => { c with en := true, rdy := true, fetchStopped := false, sqs := [({ id := 0, size := 32, cqid := 0, prio := 0, tail := 1, head := 0 } : Sq)], cqs := [({ id := 0, size := 32, vector := 0, tail := 0, head := 0 } : Cq)] }).onDom 12 fun x => { x with state := .draining }).onPort 0 fun p => { p with l12 := true }, by decide⟩⟩

/-- The hypotheses of `Obligations.DramServesReadsWritesAndAtomics` can be met. -/
theorem test_dram_serves_reads_writes_and_atomics_hyps :
    (∃ (src : Endpoint) (acc : Access) (s : State), (MemoryTakes ({ id := s.fab.nextTxn, src := src, chan := none, acc := acc } : Txn) s ∧ acc.kind = .read ∧ (s.qEntry (granOf acc.addr) = none → s.dramc.errs = [] ∧ ∀ c, (s.chan c).lines = []))) ∧
    (∃ (src : Endpoint) (acc : Access) (s : State), (MemoryTakes ({ id := s.fab.nextTxn, src := src, chan := none, acc := acc } : Txn) s ∧ acc.kind = .read ∧ (s.lineRead (granOf acc.addr)).decodeGran (granOf acc.addr) [] = .data ∧ (s.qEntry (granOf acc.addr)) = none ∧ s.dramc.log.length < 16)) ∧
    (∃ (src : Endpoint) (acc : Access) (s : State), (MemoryTakes ({ id := s.fab.nextTxn, src := src, chan := none, acc := acc } : Txn) s ∧ acc.kind = .write ∧ Memory.wf s.fab.mem = true)) ∧
    (∃ (src : Endpoint) (acc : Access) (s : State), (MemoryTakes ({ id := s.fab.nextTxn, src := src, chan := none, acc := acc } : Txn) s ∧ acc.kind = .amo)) ∧
    (∃ (src : Endpoint) (acc : Access) (s : State), (s.dramc.rawGiB ≠ 0 ∧ s.sys.dram ≠ .failed ∧ s.inDram acc.addr acc.size = true ∧ s.domOn 14 = true ∧ (s.chan (granChan (granOf acc.addr))).selfRefresh = false ∧ s.memMustWait ({ id := s.fab.nextTxn, src := src, chan := none, acc := acc } : Txn) = true)) ∧
    (∃ (src : Endpoint) (acc : Access) (link : LinkEcc) (page : Option Nat) (s : State), (s.inDram acc.addr acc.size = false)) ∧
    (∃ (src : Endpoint) (acc : Access) (link : LinkEcc) (page : Option Nat) (s : State), (s.dramc.rawGiB ≠ 0 ∧ s.sys.dram ≠ .failed ∧ s.inDram acc.addr acc.size = true ∧ (s.domOn 14 = false ∨ (s.chan (granChan (granOf acc.addr))).selfRefresh = true))) ∧
    (∃ (g : Nat) (q : QEntry) (s : State), ((s.chan (granChan g)).queue = [q] ∧ q.gran = g ∧ q.whole = false ∧ q.amo = none ∧ (s.chan (granChan g)).retraining = false ∧ s.dramc.errs = [] ∧ (s.chan (granChan g)).lines = [] ∧ s.dramc.waiting = [])) ∧
    (∃ (g : Nat) (q : QEntry) (op : AmoOp) (off n : Nat) (x : List Byte) (s : State), ((s.chan (granChan g)).queue = [q] ∧ q.gran = g ∧ q.amo = some (op, off, n, x) ∧ (s.chan (granChan g)).retraining = false ∧ s.dramc.errs = [] ∧ (s.chan (granChan g)).lines = [] ∧ s.dramc.waiting = [] ∧ Memory.wf s.fab.mem = true)) ∧
    (∃ (c : Fin 4) (q : QEntry) (s : State), ((s.chan c).queue = [q] ∧ q.whole = true ∧ (s.chan c).retraining = false ∧ (s.chan c).selfRefresh = false ∧ s.dramc.waiting = [] ∧ Tab.rising s.dramc.errs = true ∧ granChan q.gran = c ∧ (s.chan c).lines = [])) :=
  ⟨⟨3, ({ kind := .read, amo := .swap, addr := 0x800000040, size := 8, data := [] } : Access), (((State.reset.onDramc fun d => { d with rawGiB := 8 }).onSys fun y => { y with dram := .trained }).onDom 14 fun x => { x with state := .on }), by decide⟩,
   ⟨3, ({ kind := .read, amo := .swap, addr := 0x800000040, size := 8, data := [] } : Access), (((State.reset.onDramc fun d => { d with rawGiB := 8 }).onSys fun y => { y with dram := .trained }).onDom 14 fun x => { x with state := .on }).setErrs 1 [(9, 1), (10, 1), (11, 1), (12, 1), (13, 1)], by decide +kernel⟩,
   ⟨3, ({ kind := .write, amo := .swap, addr := 0x800000044, size := 4, data := [1, 2, 3, 4] } : Access), (((State.reset.onDramc fun d => { d with rawGiB := 8 }).onSys fun y => { y with dram := .trained }).onDom 14 fun x => { x with state := .on }), by decide⟩,
   ⟨3, ({ kind := .amo, amo := .add, addr := 0x800000048, size := 4, data := [1, 0, 0, 0] } : Access), (((State.reset.onDramc fun d => { d with rawGiB := 8 }).onSys fun y => { y with dram := .trained }).onDom 14 fun x => { x with state := .on }), by decide⟩,
   ⟨3, ({ kind := .read, amo := .swap, addr := 0x800000040, size := 8, data := [] } : Access), (((State.reset.onDramc fun d => { d with rawGiB := 8 }).onSys fun y => { y with dram := .trained }).onDom 14 fun x => { x with state := .on }).onChan 0 fun c => { c with queue := [({ gran := 1, bytes := [(4, 1)], amo := none, src := 3, id := 2, link := [] } : QEntry)] }, by decide⟩,
   ⟨3, { ({ kind := .read, amo := .swap, addr := 0x800000040, size := 8, data := [] } : Access) with addr := 0x7FFFFFFF8 }, ({ corrected := false, detected := false, retryFailed := false, errs := [], burst := [] } : LinkEcc), none, (((State.reset.onDramc fun d => { d with rawGiB := 8 }).onSys fun y => { y with dram := .trained }).onDom 14 fun x => { x with state := .on }), by decide⟩,
   ⟨3, ({ kind := .read, amo := .swap, addr := 0x800000040, size := 8, data := [] } : Access), ({ corrected := false, detected := false, retryFailed := false, errs := [], burst := [] } : LinkEcc), none, (((State.reset.onDramc fun d => { d with rawGiB := 8 }).onSys fun y => { y with dram := .trained }).onDom 14 fun x => { x with state := .on }).onChan 0 fun c => { c with selfRefresh := true }, by decide⟩,
   ⟨1, ({ gran := 1, bytes := [(4, 1)], amo := none, src := 3, id := 2, link := [] } : QEntry), (((State.reset.onDramc fun d => { d with rawGiB := 8 }).onSys fun y => { y with dram := .trained }).onDom 14 fun x => { x with state := .on }).onChan 0 fun c => { c with queue := [({ gran := 1, bytes := [(4, 1)], amo := none, src := 3, id := 2, link := [] } : QEntry)] }, by decide⟩,
   ⟨1, { ({ gran := 1, bytes := [(4, 1)], amo := none, src := 3, id := 2, link := [] } : QEntry) with amo := some (.add, 8, 4, [1]) }, .add, 8, 4, [1], (((State.reset.onDramc fun d => { d with rawGiB := 8 }).onSys fun y => { y with dram := .trained }).onDom 14 fun x => { x with state := .on }).onChan 0 fun c => { c with queue := [{ ({ gran := 1, bytes := [(4, 1)], amo := none, src := 3, id := 2, link := [] } : QEntry) with amo := some (.add, 8, 4, [1]) }] }, by decide⟩,
   ⟨0, ({ gran := 1, bytes := (List.range 64).map fun i => (i, 7), amo := none, src := 3, id := 2, link := [] } : QEntry), ((((State.reset.onDramc fun d => { d with rawGiB := 8 }).onSys fun y => { y with dram := .trained }).onDom 14 fun x => { x with state := .on }).setErrs 1 [(4, 2)]).onChan 0 fun c => { c with queue := [({ gran := 1, bytes := (List.range 64).map fun i => (i, 7), amo := none, src := 3, id := 2, link := [] } : QEntry)] }, by decide⟩⟩

/-- The hypotheses of `Obligations.DramRefreshesRetrainsAndScrubs` can be met. -/
theorem test_dram_refreshes_retrains_and_scrubs_hyps :
    (∃ (c : Fin 4) (b : Fin 16) (s : State), (Tab.rising (s.chan c).postponed = true)) ∧
    (∃ (c : Fin 4) (b : Fin 16) (s : State), (Tab.rising (s.chan c).postponed = true ∧ Tab.rising (s.chan c).opened = true ∧ (s.chan c).lines = [])) ∧
    (∃ (c : Fin 4) (b : Fin 16) (s : State), (Tab.getD (s.chan c).postponed b.val 0 = 8 ∧ Tab.rising (s.chan c).postponed = true ∧ (s.chan c).lines = [])) ∧
    (∃ (c : Fin 4) (code : BitVec 3) (s : State), ((s.chan c).hot = false ∧ mr4Nominal < code.toNat)) ∧
    (∃ (c : Fin 4) (code : BitVec 3) (s : State), ((s.chan c).hot = false ∧ code.toNat ≤ mr4Nominal)) ∧
    (∃ (c : Fin 4) (ps : Nat) (s : State), (s.sys.dram = .trained ∧ (s.chan c).selfRefresh = false ∧ (s.chan c).checkAt = none ∧ s.p5010RetrainDrift < ps)) ∧
    (∃ (c : Fin 4) (ps : Nat) (s : State), (s.sys.dram = .trained ∧ (s.chan c).selfRefresh = false ∧ (s.chan c).checkAt = none ∧ (s.chan c).mr4 = 5 ∧ (s.chan c).mr4Trained = 3)) ∧
    (∃ (c : Fin 4) (ps : Nat) (at' : BitVec 64) (s : State), ((s.chan c).checkAt = some at' ∧ s.since at' < s.p5010RetrainCheck * msTicks)) ∧
    (∃ (c : Fin 4) (s : State), ((s.chan c).retraining = true ∧ s.dramc.waiting = [])) ∧
    (∃ (c : Fin 4) (s : State), ((s.chan c).retraining = true ∧ (s.chan c).retrainFails < 2)) ∧
    (∃ (c : Fin 4) (s : State), ((s.chan c).retraining = true ∧ (s.chan c).retrainFails = 2 ∧ s.dramc.waiting = [])) ∧
    (∃ (v : BitVec 32) (s : State), (s.domOn 16 = true ∧ s.scr.state ≠ .running ∧ s.scr.start.toNat ≤ s.scr.stop.toNat ∧ s.inDram s.scr.start.toNat (s.scr.stop.toNat + 1 - s.scr.start.toNat) = true)) ∧
    (∃ (v : BitVec 32) (s : State), (s.domOn 16 = true ∧ (s.scr.state = .running ∨ s.scr.stop.toNat < s.scr.start.toNat))) ∧
    (∃ (s : State), (s.scr.state = .running)) ∧
    (∃ (b : List Byte) (p : Option Nat) (s : State), (s.scr.state = .running ∧ s.domOn 16 = true ∧ s.scr.abort = true ∧ s.scr.passNext = none)) ∧
    (∃ (b : List Byte) (s : State), (s.scr.state = .running ∧ s.domOn 16 = true ∧ s.scr.abort = false ∧ s.scrubMay = true ∧ s.dramc.errs = [] ∧ (s.chan (granChan (granOf s.scr.next))).lines = [] ∧ s.qEntry (granOf s.scr.next) = none ∧ s.scr.sig = false ∧ s.scr.next + 64 ≤ s.scr.stop.toNat)) ∧
    (∃ (b : List Byte) (s : State), (s.scr.state = .running ∧ s.domOn 16 = true ∧ s.scr.abort = false ∧ s.scrubMay = true ∧ s.dramc.errs = [] ∧ (s.chan (granChan (granOf s.scr.next))).lines = [] ∧ s.scr.sig = false ∧ s.scr.stop.toNat < s.scr.next + 64 ∧ s.scr.passNext = none)) ∧
    (∃ (c : Fin 4) (s : State), (s.scr.state = .running ∧ max 1 s.scr.limit.toNat * usTicks ≤ s.since (s.chan c).scrubAt)) ∧
    (∃ (c : Fin 4) (s : State), (s.since (s.chan c).scrubAt < max 1 s.scr.limit.toNat * usTicks)) ∧
    (∃ (sig : List Byte) (p : Option Nat) (s : State), (s.scr.state = .running ∧ s.scr.abort = false ∧ s.scrubMay = false)) ∧
    (∃ (s : State), (s.p5030ScrubPassH ≠ 0 ∧ s.scr.passAt + s.p5030ScrubPassH ≤ s.poh ∧ s.scr.state ≠ .running ∧ s.domOn 16 = true ∧ s.dramc.rawGiB = 8 ∧ s.tt.protDie = false ∧ s.tt.protDiode = false ∧ s.scr.passNext = none)) :=
  ⟨⟨0, 15, (((State.reset.onDramc fun d => { d with rawGiB := 8 }).onSys fun y => { y with dram := .trained }).onDom 14 fun x => { x with state := .on }), by decide⟩,
   ⟨3, 0, (((State.reset.onDramc fun d => { d with rawGiB := 8 }).onSys fun y => { y with dram := .trained }).onDom 14 fun x => { x with state := .on }).onChan 3 fun c => { c with postponed := [(0, 8)] }, by decide⟩,
   ⟨3, 0, (((State.reset.onDramc fun d => { d with rawGiB := 8 }).onSys fun y => { y with dram := .trained }).onDom 14 fun x => { x with state := .on }).onChan 3 fun c => { c with postponed := [(0, 8)] }, by decide⟩,
   ⟨3, 4, (((State.reset.onDramc fun d => { d with rawGiB := 8 }).onSys fun y => { y with dram := .trained }).onDom 14 fun x => { x with state := .on }), by decide⟩,
   ⟨3, 3, (((State.reset.onDramc fun d => { d with rawGiB := 8 }).onSys fun y => { y with dram := .trained }).onDom 14 fun x => { x with state := .on }), by decide⟩,
   ⟨2, 1000000, (((State.reset.onDramc fun d => { d with rawGiB := 8 }).onSys fun y => { y with dram := .trained }).onDom 14 fun x => { x with state := .on }), by decide⟩,
   ⟨2, 0, (((State.reset.onDramc fun d => { d with rawGiB := 8 }).onSys fun y => { y with dram := .trained }).onDom 14 fun x => { x with state := .on }).onChan 2 fun c => { c with mr4 := 5, mr4Trained := 3 }, by decide⟩,
   ⟨2, 1000, 0, (((State.reset.onDramc fun d => { d with rawGiB := 8 }).onSys fun y => { y with dram := .trained }).onDom 14 fun x => { x with state := .on }).onChan 2 fun c => { c with checkAt := some 0 }, by decide⟩,
   ⟨1, (((State.reset.onDramc fun d => { d with rawGiB := 8 }).onSys fun y => { y with dram := .trained }).onDom 14 fun x => { x with state := .on }).onChan 1 fun c => { c with retraining := true }, by decide⟩,
   ⟨1, (((State.reset.onDramc fun d => { d with rawGiB := 8 }).onSys fun y => { y with dram := .trained }).onDom 14 fun x => { x with state := .on }).onChan 1 fun c => { c with retraining := true, retrainFails := 1 }, by decide⟩,
   ⟨1, (((State.reset.onDramc fun d => { d with rawGiB := 8 }).onSys fun y => { y with dram := .trained }).onDom 14 fun x => { x with state := .on }).onChan 1 fun c => { c with retraining := true, retrainFails := 2 }, by decide⟩,
   ⟨0x30040, ((((State.reset.onDramc fun d => { d with rawGiB := 8 }).onSys fun y => { y with dram := .trained }).onDom 14 fun x => { x with state := .on }).onDom 16 fun x => { x with state := .on }).onScr fun x => { x with start := 0x800000000, stop := 0x80FFFFFFF }, by decide⟩,
   ⟨0x30040, ((((((State.reset.onDramc fun d => { d with rawGiB := 8 }).onSys fun y => { y with dram := .trained }).onDom 14 fun x => { x with state := .on }).onDom 16 fun x => { x with state := .on }).onScr fun x => { x with state := .running, start := 0x800000000, stop := 0x8000007FF, next := 0x800000040 })), by decide⟩,
   ⟨((((((State.reset.onDramc fun d => { d with rawGiB := 8 }).onSys fun y => { y with dram := .trained }).onDom 14 fun x => { x with state := .on }).onDom 16 fun x => { x with state := .on }).onScr fun x => { x with state := .running, start := 0x800000000, stop := 0x8000007FF, next := 0x800000040 })), by decide⟩,
   ⟨[], none, ((((((State.reset.onDramc fun d => { d with rawGiB := 8 }).onSys fun y => { y with dram := .trained }).onDom 14 fun x => { x with state := .on }).onDom 16 fun x => { x with state := .on }).onScr fun x => { x with state := .running, start := 0x800000000, stop := 0x8000007FF, next := 0x800000040 })).onScr fun x => { x with abort := true }, by decide⟩,
   ⟨[], ((((((State.reset.onDramc fun d => { d with rawGiB := 8 }).onSys fun y => { y with dram := .trained }).onDom 14 fun x => { x with state := .on }).onDom 16 fun x => { x with state := .on }).onScr fun x => { x with state := .running, start := 0x800000000, stop := 0x8000007FF, next := 0x800000040 })).onScr fun x => { x with sig := false }, by decide⟩,
   ⟨[], ((((((State.reset.onDramc fun d => { d with rawGiB := 8 }).onSys fun y => { y with dram := .trained }).onDom 14 fun x => { x with state := .on }).onDom 16 fun x => { x with state := .on }).onScr fun x => { x with state := .running, start := 0x800000000, stop := 0x8000007FF, next := 0x800000040 })).onScr fun x => { x with sig := false, next := 0x8000007C0 }, by decide⟩,
   ⟨3, ((((((State.reset.onDramc fun d => { d with rawGiB := 8 }).onSys fun y => { y with dram := .trained }).onDom 14 fun x => { x with state := .on }).onDom 16 fun x => { x with state := .on }).onScr fun x => { x with state := .running, start := 0x800000000, stop := 0x8000007FF, next := 0x800000040 })).onFab fun f => { f with chipTime := 2000000 }, by decide⟩,
   ⟨3, ((((((State.reset.onDramc fun d => { d with rawGiB := 8 }).onSys fun y => { y with dram := .trained }).onDom 14 fun x => { x with state := .on }).onDom 16 fun x => { x with state := .on }).onScr fun x => { x with state := .running, start := 0x800000000, stop := 0x8000007FF, next := 0x800000040 })), by decide⟩,
   ⟨[], none, ((((((State.reset.onDramc fun d => { d with rawGiB := 8 }).onSys fun y => { y with dram := .trained }).onDom 14 fun x => { x with state := .on }).onDom 16 fun x => { x with state := .on }).onScr fun x => { x with state := .running, start := 0x800000000, stop := 0x8000007FF, next := 0x800000040 })).onScr fun x => { x with rate := 1, sumRead := 1 }, by decide⟩,
   ⟨((((State.reset.onDramc fun d => { d with rawGiB := 8 }).onSys fun y => { y with dram := .trained }).onDom 14 fun x => { x with state := .on }).onDom 16 fun x => { x with state := .on }).onRc fun r => { r with poh := 24 }, by decide⟩⟩

/-- The hypotheses of `Obligations.CipherJobsAreJudgedAndCarriedOut` can be met. -/
theorem test_cipher_jobs_are_judged_and_carried_out_hyps :
    (∃ (j : CipherJob) (s : State), (s.ciphOn = true ∧ s.ciph.state = .ready ∧ j.gcm = false ∧ (j.unit = 512 ∨ j.unit = 4096) ∧ 1 ≤ j.count ∧ j.count ≤ 256 ∧ j.length = j.unit * j.count)) ∧
    (∃ (j : CipherJob) (s : State), (s.ciphOn = true ∧ s.ciph.state ≠ .halted ∧ j.gcm = true ∧ j.length ≤ 1472 ∧ j.aad.length ≤ 64)) ∧
    (∃ (j : CipherJob) (s : State), (s.ciphOn = true ∧ j.gcm = true ∧ 1472 < j.length)) ∧
    (∃ (j : CipherJob) (s : State), (s.ciphOn = true ∧ j.gcm = false ∧ j.length ≠ j.unit * j.count)) ∧
    (∃ (j : CipherJob) (s : State), (s.ciphOn = true ∧ s.ciph.state = .halted ∧ ciphRule j = none)) ∧
    (∃ (x : CJob) (key : List Byte) (pg : Option Nat) (n : Nat) (s : State), (s.ciph.jobs = [x] ∧ x.job.gcm = false ∧ x.job.count = 1 ∧ (x.job.unit = 512 ∨ x.job.unit = 4096) ∧ x.job.dst % 64 = 0 ∧ x.cut = false ∧ x.key = some key ∧ s.ciph.state ≠ .reloading ∧ (s.slot x.job.slot).state ≠ .pending ∧ Memory.wf s.fab.mem = true ∧ (s.engineGet epCipher x.job.src x.job.unit pg).1 = true)) ∧
    (∃ (x : CJob) (pg : Option Nat) (n : Nat) (s : State), (s.ciph.jobs = [x] ∧ x.job.gcm = false ∧ x.job.count = 1 ∧ x.key = none ∧ s.slotKey x.job.slot = none ∧ s.ciph.state ≠ .reloading ∧ (s.slot x.job.slot).state ≠ .pending)) ∧
    (∃ (x : CJob) (b : Option Nat) (n : Nat) (s : State), (s.ciph.jobs = [x] ∧ x.job.gcm = false ∧ (s.slot x.job.slot).state = .pending)) ∧
    (∃ (x : CJob) (pg : Option Nat) (n : Nat) (s : State), (s.ciph.jobs = [x] ∧ x.job.gcm = false ∧ x.job.count = 1 ∧ x.key.isSome = true ∧ x.cut = false ∧ s.ciph.state ≠ .reloading ∧ (s.slot x.job.slot).state ≠ .pending ∧ (s.engineGet epCipher x.job.src x.job.unit pg).1 = false)) ∧
    (∃ (x : CJob) (key : List Byte) (n : Nat) (s : State), (s.ciph.jobs = [x] ∧ x.job.gcm = true ∧ x.job.encrypt = true ∧ x.key = some key ∧ Memory.wf s.fab.mem = true ∧ (s.engineGet epCipher x.job.src x.job.length none).1 = true)) ∧
    (∃ (x : CJob) (key : List Byte) (n : Nat) (s : State), (s.ciph.jobs = [x] ∧ x.job.gcm = true ∧ x.job.encrypt = false ∧ x.key = some key ∧ gcmTag key x.job.iv x.job.aad ((s.engineGet epCipher x.job.src x.job.length none).2.read x.job.src x.job.length) = x.job.tag ∧ Memory.wf s.fab.mem = true ∧ (s.engineGet epCipher x.job.src x.job.length none).1 = true)) ∧
    (∃ (x : CJob) (key : List Byte) (n : Nat) (s : State), (s.ciph.jobs = [x] ∧ x.job.gcm = true ∧ x.job.encrypt = false ∧ x.key = some key ∧ gcmTag key x.job.iv x.job.aad ((s.engineGet epCipher x.job.src x.job.length none).2.read x.job.src x.job.length) ≠ x.job.tag ∧ Memory.wf s.fab.mem = true ∧ (s.engineGet epCipher x.job.src x.job.length none).1 = true)) :=
  ⟨⟨{ ({ id := 9, gcm := false, encrypt := true, slot := 3, unit := 512, count := 1, length := 512, lba := 70, src := 0x80000000, dst := 0x80002000, iv := [], aad := [], tag := [] } : CipherJob) with count := 256, length := 131072 }, ((State.reset.onIdent fun i => { i with tier := .a }).onCiph fun c => { c with state := .ready }), by decide⟩,
   ⟨{ ({ id := 9, gcm := true, encrypt := true, slot := 2, unit := 0, count := 0, length := 16, lba := 0, src := 0x80000000, dst := 0x80002000, iv := List.replicate 12 1, aad := [5], tag := [] } : CipherJob) with length := 1472, aad := List.replicate 64 3 }, ((State.reset.onIdent fun i => { i with tier := .a }).onCiph fun c => { c with state := .ready }), by decide⟩,
   ⟨{ ({ id := 9, gcm := true, encrypt := true, slot := 2, unit := 0, count := 0, length := 16, lba := 0, src := 0x80000000, dst := 0x80002000, iv := List.replicate 12 1, aad := [5], tag := [] } : CipherJob) with length := 1473 }, ((State.reset.onIdent fun i => { i with tier := .a }).onCiph fun c => { c with state := .ready }), by decide⟩,
   ⟨{ ({ id := 9, gcm := false, encrypt := true, slot := 3, unit := 512, count := 1, length := 512, lba := 70, src := 0x80000000, dst := 0x80002000, iv := [], aad := [], tag := [] } : CipherJob) with length := 513 }, ((State.reset.onIdent fun i => { i with tier := .a }).onCiph fun c => { c with state := .ready }), by decide⟩,
   ⟨({ id := 9, gcm := false, encrypt := true, slot := 3, unit := 512, count := 1, length := 512, lba := 70, src := 0x80000000, dst := 0x80002000, iv := [], aad := [], tag := [] } : CipherJob), ((State.reset.onIdent fun i => { i with tier := .a }).onCiph fun c => { c with state := .ready }).onCiph fun c => { c with state := .halted }, by decide⟩,
   ⟨({ job := ({ id := 9, gcm := false, encrypt := true, slot := 3, unit := 512, count := 1, length := 512, lba := 70, src := 0x80000000, dst := 0x80002000, iv := [], aad := [], tag := [] } : CipherJob), key := some (List.replicate 64 7), cut := false } : CJob), (List.replicate 64 7), none, 0, ((State.reset.onIdent fun i => { i with tier := .a }).onCiph fun c => { c with state := .ready }).onCiph fun c => { c with jobs := [({ job := ({ id := 9, gcm := false, encrypt := true, slot := 3, unit := 512, count := 1, length := 512, lba := 70, src := 0x80000000, dst := 0x80002000, iv := [], aad := [], tag := [] } : CipherJob), key := some (List.replicate 64 7), cut := false } : CJob)] }, by decide⟩,
   ⟨{ ({ job := ({ id := 9, gcm := false, encrypt := true, slot := 3, unit := 512, count := 1, length := 512, lba := 70, src := 0x80000000, dst := 0x80002000, iv := [], aad := [], tag := [] } : CipherJob), key := some (List.replicate 64 7), cut := false } : CJob) with key := none }, none, 0, ((State.reset.onIdent fun i => { i with tier := .a }).onCiph fun c => { c with state := .ready }).onCiph fun c => { c with jobs := [{ ({ job := ({ id := 9, gcm := false, encrypt := true, slot := 3, unit := 512, count := 1, length := 512, lba := 70, src := 0x80000000, dst := 0x80002000, iv := [], aad := [], tag := [] } : CipherJob), key := some (List.replicate 64 7), cut := false } : CJob) with key := none }] }, by decide⟩,
   ⟨({ job := ({ id := 9, gcm := false, encrypt := true, slot := 3, unit := 512, count := 1, length := 512, lba := 70, src := 0x80000000, dst := 0x80002000, iv := [], aad := [], tag := [] } : CipherJob), key := some (List.replicate 64 7), cut := false } : CJob), none, 0, ((State.reset.onIdent fun i => { i with tier := .a }).onCiph fun c => { c with state := .ready }).onCiph fun c => { c with jobs := [({ job := ({ id := 9, gcm := false, encrypt := true, slot := 3, unit := 512, count := 1, length := 512, lba := 70, src := 0x80000000, dst := 0x80002000, iv := [], aad := [], tag := [] } : CipherJob), key := some (List.replicate 64 7), cut := false } : CJob)], slots := [(3, { state := .pending, key := (List.replicate 64 7), newKey := none })] }, by decide⟩,
   ⟨({ job := { ({ id := 9, gcm := false, encrypt := true, slot := 3, unit := 512, count := 1, length := 512, lba := 70, src := 0x80000000, dst := 0x80002000, iv := [], aad := [], tag := [] } : CipherJob) with src := 0x800000000 }, key := some (List.replicate 64 7), cut := false } : CJob), none, 0, ((((State.reset.onIdent fun i => { i with tier := .a }).onCiph fun c => { c with state := .ready }).onDramc fun d => { d with rawGiB := 4, errs := [(0, [(0, 0x80)])] }).onCiph fun c => { c with jobs := [({ job := { ({ id := 9, gcm := false, encrypt := true, slot := 3, unit := 512, count := 1, length := 512, lba := 70, src := 0x80000000, dst := 0x80002000, iv := [], aad := [], tag := [] } : CipherJob) with src := 0x800000000 }, key := some (List.replicate 64 7), cut := false } : CJob)] }), by decide +kernel⟩,
   ⟨({ job := ({ id := 9, gcm := true, encrypt := true, slot := 2, unit := 0, count := 0, length := 16, lba := 0, src := 0x80000000, dst := 0x80002000, iv := List.replicate 12 1, aad := [5], tag := [] } : CipherJob), key := some (List.replicate 32 7), cut := false } : CJob), List.replicate 32 7, 0, ((State.reset.onIdent fun i => { i with tier := .a }).onCiph fun c => { c with state := .ready }).onCiph fun c => { c with jobs := [({ job := ({ id := 9, gcm := true, encrypt := true, slot := 2, unit := 0, count := 0, length := 16, lba := 0, src := 0x80000000, dst := 0x80002000, iv := List.replicate 12 1, aad := [5], tag := [] } : CipherJob), key := some (List.replicate 32 7), cut := false } : CJob)] }, by decide⟩,
   ⟨{ ({ job := ({ id := 9, gcm := true, encrypt := true, slot := 2, unit := 0, count := 0, length := 16, lba := 0, src := 0x80000000, dst := 0x80002000, iv := List.replicate 12 1, aad := [5], tag := [] } : CipherJob), key := some (List.replicate 32 7), cut := false } : CJob) with job := { ({ id := 9, gcm := true, encrypt := true, slot := 2, unit := 0, count := 0, length := 16, lba := 0, src := 0x80000000, dst := 0x80002000, iv := List.replicate 12 1, aad := [5], tag := [] } : CipherJob) with encrypt := false, length := 0, tag := gcmTag (List.replicate 32 7) (List.replicate 12 1) [5] [] } }, List.replicate 32 7, 0, ((State.reset.onIdent fun i => { i with tier := .a }).onCiph fun c => { c with state := .ready }).onCiph fun c => { c with jobs := [{ ({ job := ({ id := 9, gcm := true, encrypt := true, slot := 2, unit := 0, count := 0, length := 16, lba := 0, src := 0x80000000, dst := 0x80002000, iv := List.replicate 12 1, aad := [5], tag := [] } : CipherJob), key := some (List.replicate 32 7), cut := false } : CJob) with job := { ({ id := 9, gcm := true, encrypt := true, slot := 2, unit := 0, count := 0, length := 16, lba := 0, src := 0x80000000, dst := 0x80002000, iv := List.replicate 12 1, aad := [5], tag := [] } : CipherJob) with encrypt := false, length := 0, tag := gcmTag (List.replicate 32 7) (List.replicate 12 1) [5] [] } }] }, ⟨rfl, rfl, rfl, rfl, congrArg (gcmTag (List.replicate 32 7) (List.replicate 12 1) [5]) rfl, by decide⟩⟩,
   ⟨{ ({ job := ({ id := 9, gcm := true, encrypt := true, slot := 2, unit := 0, count := 0, length := 16, lba := 0, src := 0x80000000, dst := 0x80002000, iv := List.replicate 12 1, aad := [5], tag := [] } : CipherJob), key := some (List.replicate 32 7), cut := false } : CJob) with job := { ({ id := 9, gcm := true, encrypt := true, slot := 2, unit := 0, count := 0, length := 16, lba := 0, src := 0x80000000, dst := 0x80002000, iv := List.replicate 12 1, aad := [5], tag := [] } : CipherJob) with encrypt := false } }, List.replicate 32 7, 0, ((State.reset.onIdent fun i => { i with tier := .a }).onCiph fun c => { c with state := .ready }).onCiph fun c => { c with jobs := [{ ({ job := ({ id := 9, gcm := true, encrypt := true, slot := 2, unit := 0, count := 0, length := 16, lba := 0, src := 0x80000000, dst := 0x80002000, iv := List.replicate 12 1, aad := [5], tag := [] } : CipherJob), key := some (List.replicate 32 7), cut := false } : CJob) with job := { ({ id := 9, gcm := true, encrypt := true, slot := 2, unit := 0, count := 0, length := 16, lba := 0, src := 0x80000000, dst := 0x80002000, iv := List.replicate 12 1, aad := [5], tag := [] } : CipherJob) with encrypt := false } }] }, by decide⟩⟩

/-- The hypotheses of `Obligations.KeySlotsRandomSourceAndCryptoErase` can be met. -/
theorem test_key_slots_random_source_and_crypto_erase_hyps :
    (∃ (n : Fin 128) (k : List Byte) (s : State), (s.ciph.state = .ready ∧ (s.slot n.val).state = .pending ∧ (s.slot n.val).newKey = some k ∧ s.dict.slotAnswer = none ∧ Tab.rising s.ciph.slots = true)) ∧
    (∃ (n : Fin 128) (s : State), (s.ciph.state = .ready ∧ (s.slot n.val).state = .pending ∧ (s.slot n.val).newKey = none ∧ s.dict.slotAnswer = none ∧ Tab.rising s.ciph.slots = true)) ∧
    (∃ (s : State), (s.ciphOn = true ∧ 2 ^ 20 ≤ s.ciph.drbgCount)) ∧
    (∃ (s : State), (s.ciphOn = true ∧ 2 ^ 20 ≤ s.ciph.drbgCount ∧ s.dict.slotAnswer = none)) ∧
    (∃ (s : State), (s.ciphOn = true ∧ s.ciph.drbgCount < 2 ^ 20)) ∧
    (∃ (s : State), (s.ciphOn = true)) ∧
    (∃ (e : EraseRun) (s : State), (s.ciph.erase = some e ∧ e.step = 1 ∧ s.nvme.cmds = [])) ∧
    (∃ (e : EraseRun) (k : Cmd) (s : State), (s.ciph.erase = some e ∧ e.step = 1 ∧ s.nvme.cmds = [k] ∧ e.cmd ≠ some k.n ∧ e.nsids = [k.nsid] ∧ k.admin = false ∧ k.need = .media 1)) ∧
    (∃ (e : EraseRun) (r n : Nat) (s : State), (s.ciph.erase = some e ∧ e.step = 2 ∧ s.eraseRanges e = [r] ∧ s.ciph.entropyOk = true ∧ s.ciph.state = .ready ∧ (List.range 128).find? (fun n => decide ((s.slot n).state = .empty)) = some n ∧ Tab.rising s.ciph.slots = true)) ∧
    (∃ (e : EraseRun) (k : Cmd) (s : State), (s.ciph.erase = some e ∧ 7 ≤ e.step ∧ s.dict.saving = none ∧ e.nsids ≠ [] ∧ e.cmd = some k.n ∧ s.nvme.cmds = [k] ∧ s.ciph.eraseQueue = [] ∧ s.sys.mode = .service)) ∧
    (∃ (s : State), (s.ciph.erase = none ∧ s.ciph.oldAfterLoss = [])) :=
  ⟨⟨127, (List.replicate 64 7), ((State.reset.onIdent fun i => { i with tier := .a }).onCiph fun c => { c with state := .ready }).onCiph fun c => { c with slots := [(127, { state := .pending, key := [], newKey := some (List.replicate 64 7) })] }, by decide⟩,
   ⟨0, ((State.reset.onIdent fun i => { i with tier := .a }).onCiph fun c => { c with state := .ready }).onCiph fun c => { c with slots := [(0, { state := .pending, key := (List.replicate 64 7), newKey := none })] }, by decide⟩,
   ⟨((State.reset.onIdent fun i => { i with tier := .a }).onCiph fun c => { c with state := .ready }).onCiph fun c => { c with drbgCount := 1048576 }, by decide⟩,
   ⟨((State.reset.onIdent fun i => { i with tier := .a }).onCiph fun c => { c with state := .ready }).onCiph fun c => { c with jobs := [({ job := ({ id := 9, gcm := false, encrypt := true, slot := 3, unit := 512, count := 1, length := 512, lba := 70, src := 0x80000000, dst := 0x80002000, iv := [], aad := [], tag := [] } : CipherJob), key := some (List.replicate 64 7), cut := false } : CJob)], drbgCount := 1048576 }, by decide⟩,
   ⟨((State.reset.onIdent fun i => { i with tier := .a }).onCiph fun c => { c with state := .ready }), by decide⟩,
   ⟨((State.reset.onIdent fun i => { i with tier := .a }).onCiph fun c => { c with state := .ready }), by decide⟩,
   ⟨({ nsids := [1], sanitize := false, step := 1, oldSlots := [], newSlots := [], group := 0, cmd := none } : EraseRun), ((State.reset.onIdent fun i => { i with tier := .a }).onCiph fun c => { c with state := .ready }).onCiph fun c => { c with erase := some ({ nsids := [1], sanitize := false, step := 1, oldSlots := [], newSlots := [], group := 0, cmd := none } : EraseRun) }, by decide⟩,
   ⟨({ nsids := [1], sanitize := false, step := 1, oldSlots := [], newSlots := [], group := 0, cmd := none } : EraseRun), ({ n := 3, ctrl := 0, sqid := 1, cid := 0, opcode := 2, admin := false, nsid := 1, lba := 0, nlb := 1, limitedRetry := false, places := [], gen := 0, fua := false, handle := none, due := 0, need := .media 1, status := nvOk, dw0 := 0, lateSeen := false } : Cmd), (((State.reset.onIdent fun i => { i with tier := .a }).onCiph fun c => { c with state := .ready }).onCiph fun c => { c with erase := some ({ nsids := [1], sanitize := false, step := 1, oldSlots := [], newSlots := [], group := 0, cmd := none } : EraseRun) }).onNvme fun v => { v with cmds := [({ n := 3, ctrl := 0, sqid := 1, cid := 0, opcode := 2, admin := false, nsid := 1, lba := 0, nlb := 1, limitedRetry := false, places := [], gen := 0, fua := false, handle := none, due := 0, need := .media 1, status := nvOk, dw0 := 0, lateSeen := false } : Cmd)] }, by decide⟩,
   ⟨{ ({ nsids := [1], sanitize := false, step := 1, oldSlots := [], newSlots := [], group := 0, cmd := none } : EraseRun) with step := 2 }, 0, 0, (((State.reset.onIdent fun i => { i with tier := .a }).onCiph fun c => { c with state := .ready }).onCiph fun c => { c with erase := some { ({ nsids := [1], sanitize := false, step := 1, oldSlots := [], newSlots := [], group := 0, cmd := none } : EraseRun) with step := 2 } }).odSet 0x512005 1 |>.odSet 0x512001 1, by decide⟩,
   ⟨{ ({ nsids := [1], sanitize := false, step := 1, oldSlots := [], newSlots := [], group := 0, cmd := none } : EraseRun) with step := 7, cmd := some 3 }, ({ n := 3, ctrl := 0, sqid := 1, cid := 0, opcode := 2, admin := false, nsid := 1, lba := 0, nlb := 1, limitedRetry := false, places := [], gen := 0, fua := false, handle := none, due := 0, need := .media 1, status := nvOk, dw0 := 0, lateSeen := false } : Cmd), (((State.reset.onIdent fun i => { i with tier := .a }).onCiph fun c => { c with state := .ready }).onCiph fun c => { c with erase := some { ({ nsids := [1], sanitize := false, step := 1, oldSlots := [], newSlots := [], group := 0, cmd := none } : EraseRun) with step := 7, cmd := some 3 } }).onNvme (fun v => { v with cmds := [({ n := 3, ctrl := 0, sqid := 1, cid := 0, opcode := 2, admin := false, nsid := 1, lba := 0, nlb := 1, limitedRetry := false, places := [], gen := 0, fua := false, handle := none, due := 0, need := .media 1, status := nvOk, dw0 := 0, lateSeen := false } : Cmd)] }) |>.onSys fun y => { y with mode := .service }, by decide⟩,
   ⟨((State.reset.onIdent fun i => { i with tier := .a }).onCiph fun c => { c with state := .ready }), by decide⟩⟩

/-- The hypotheses of `Obligations.DmaChannelsStartStopAndQueue` can be met. -/
theorem test_dma_channels_start_stop_and_queue_hyps :
    (∃ (n : Fin 16) (s : State), (s.dmaLive n = true ∧ ((s.dmaCh n).state = .parked ∨ (s.dmaCh n).state = .idle ∨ (s.dmaCh n).state = .error))) ∧
    (∃ (n : Fin 16) (s : State), (s.dmaLive n = true ∧ ((s.dmaCh n).state = .fetch ∨ (s.dmaCh n).state = .ready ∨ (s.dmaCh n).state = .active ∨ (s.dmaCh n).state = .waiting))) ∧
    (∃ (n : Fin 16) (s : State), ((s.dmaCh n).state = .aborting ∨ s.dmaLive n = false)) ∧
    (∃ (n : Fin 16) (s : State), (s.dmaLive n = true ∧ ((s.dmaCh n).state = .parked ∨ (s.dmaCh n).state = .error))) ∧
    (∃ (n : Fin 16) (s : State), (s.dmaLive n = true ∧ ((s.dmaCh n).state = .fetch ∨ (s.dmaCh n).state = .ready ∨ (s.dmaCh n).state = .active ∨ (s.dmaCh n).state = .waiting))) ∧
    (∃ (n : Fin 16) (v : BitVec 32) (s : State), (s.dmaLive n = true ∧ ((s.dmaCh n).state = .parked ∨ (s.dmaCh n).state = .idle ∨ (s.dmaCh n).state = .error))) ∧
    (∃ (n : Fin 16) (v : BitVec 32) (s : State), (s.dmaLive n = true ∧ (s.dmaCh n).state = .active)) ∧
    (∃ (n m : Fin 16) (c e : DmaCh) (s : State), (s.dma.owner = none ∧ n < m ∧ s.dma.ch = [(n.val, c), (m.val, e)] ∧ c.state = .ready ∧ e.state = .ready)) ∧
    (∃ (n : Fin 16) (s : State), (s.dma.owner = some n)) ∧
    (∃ (n : Fin 16) (c : DmaCh) (wb : Option (Bool × BitVec 4)) (s : State), (s.dmaLive n = true ∧ s.dma.ch = [(n.val, c)] ∧ c.state = .fetch ∧ c.kickPend = false ∧ 0x10000000 ≤ c.addr ∧ c.addr + 32 ≤ 0x11800000 ∧ s.refusal epDma (some n) (dmaAcc .read c.addr 4 []) = none ∧ bitOf (leNat (s.read c.addr 4)) 31 = false)) ∧
    (∃ (n : Fin 16) (c : DmaCh) (wb : Option (Bool × BitVec 4)) (s : State), (s.dmaLive n = true ∧ s.dma.ch = [(n.val, c)] ∧ c.state = .fetch ∧ 0x10000000 ≤ c.addr ∧ c.addr + 32 ≤ 0x11800000 ∧ s.refusal epDma (some n) (dmaAcc .read c.addr 4 []) = none ∧ s.refusal epDma (some n) (dmaAcc .read (c.addr + 4) 28 []) = none ∧ bitOf (leNat (s.read c.addr 4)) 31 = true ∧ descCheck n (wordOf (s.read c.addr 32)) = 0 ∧ fld (leNat (s.read c.addr 4)) 24 2 = 0)) ∧
    (∃ (n : Fin 16) (c : DmaCh) (wb : Option (Bool × BitVec 4)) (s : State), (s.dmaLive n = true ∧ s.dma.ch = [(n.val, c)] ∧ c.state = .fetch ∧ 0x10000000 ≤ c.addr ∧ c.addr + 32 ≤ 0x11800000 ∧ s.refusal epDma (some n) (dmaAcc .read c.addr 4 []) = none ∧ s.refusal epDma (some n) (dmaAcc .read (c.addr + 4) 28 []) = none ∧ bitOf (leNat (s.read c.addr 4)) 31 = true ∧ bitOf (leNat (s.read c.addr 4)) 28 = true)) :=
  ⟨⟨3, ((State.reset.onDom 19 fun x => { x with state := .on }).onDom 7 fun x => { x with state := .on }), by decide⟩,
   ⟨3, (((State.reset.onDom 19 fun x => { x with state := .on }).onDom 7 fun x => { x with state := .on }).onDma fun d => { d with owner := some 3, ch := [(3, ({ DmaCh.reset with state := .active, ptr := 0x800180, desc := some ({ control := 0x80000000, src := 0x10001000, dst := 0x10002000, len := 64, next := 0 } : DmaDesc), left := 64 } : DmaCh))] }), by decide⟩,
   ⟨15, State.reset, by decide⟩,
   ⟨3, ((State.reset.onDom 19 fun x => { x with state := .on }).onDom 7 fun x => { x with state := .on }).onDmaCh 3 fun c => { c with state := .parked }, by decide⟩,
   ⟨3, (((State.reset.onDom 19 fun x => { x with state := .on }).onDom 7 fun x => { x with state := .on }).onDma fun d => { d with owner := some 3, ch := [(3, ({ DmaCh.reset with state := .active, ptr := 0x800180, desc := some ({ control := 0x80000000, src := 0x10001000, dst := 0x10002000, len := 64, next := 0 } : DmaDesc), left := 64 } : DmaCh))] }), by decide⟩,
   ⟨3, 0x10003000, ((State.reset.onDom 19 fun x => { x with state := .on }).onDom 7 fun x => { x with state := .on }), by decide⟩,
   ⟨3, 0x10003000, (((State.reset.onDom 19 fun x => { x with state := .on }).onDom 7 fun x => { x with state := .on }).onDma fun d => { d with owner := some 3, ch := [(3, ({ DmaCh.reset with state := .active, ptr := 0x800180, desc := some ({ control := 0x80000000, src := 0x10001000, dst := 0x10002000, len := 64, next := 0 } : DmaDesc), left := 64 } : DmaCh))] }), by decide⟩,
   ⟨2, 3, { ({ DmaCh.reset with state := .active, ptr := 0x800180, desc := some ({ control := 0x80000000, src := 0x10001000, dst := 0x10002000, len := 64, next := 0 } : DmaDesc), left := 64 } : DmaCh) with state := .ready }, { ({ DmaCh.reset with state := .active, ptr := 0x800180, desc := some ({ control := 0x80000000, src := 0x10001000, dst := 0x10002000, len := 64, next := 0 } : DmaDesc), left := 64 } : DmaCh) with state := .ready }, ((State.reset.onDom 19 fun x => { x with state := .on }).onDom 7 fun x => { x with state := .on }).onDma fun d => { d with ch := [(2, { ({ DmaCh.reset with state := .active, ptr := 0x800180, desc := some ({ control := 0x80000000, src := 0x10001000, dst := 0x10002000, len := 64, next := 0 } : DmaDesc), left := 64 } : DmaCh) with state := .ready }), (3, { ({ DmaCh.reset with state := .active, ptr := 0x800180, desc := some ({ control := 0x80000000, src := 0x10001000, dst := 0x10002000, len := 64, next := 0 } : DmaDesc), left := 64 } : DmaCh) with state := .ready })] }, by decide⟩,
   ⟨3, (((State.reset.onDom 19 fun x => { x with state := .on }).onDom 7 fun x => { x with state := .on }).onDma fun d => { d with owner := some 3, ch := [(3, ({ DmaCh.reset with state := .active, ptr := 0x800180, desc := some ({ control := 0x80000000, src := 0x10001000, dst := 0x10002000, len := 64, next := 0 } : DmaDesc), left := 64 } : DmaCh))] }), by decide⟩,
   ⟨3, { ({ DmaCh.reset with state := .active, ptr := 0x800180, desc := some ({ control := 0x80000000, src := 0x10001000, dst := 0x10002000, len := 64, next := 0 } : DmaDesc), left := 64 } : DmaCh) with state := .fetch, desc := none }, none, ((State.reset.onDom 19 fun x => { x with state := .on }).onDom 7 fun x => { x with state := .on }).onDma fun d => { d with ch := [(3, { ({ DmaCh.reset with state := .active, ptr := 0x800180, desc := some ({ control := 0x80000000, src := 0x10001000, dst := 0x10002000, len := 64, next := 0 } : DmaDesc), left := 64 } : DmaCh) with state := .fetch, desc := none })] }, by decide⟩,
   ⟨3, { ({ DmaCh.reset with state := .active, ptr := 0x800180, desc := some ({ control := 0x80000000, src := 0x10001000, dst := 0x10002000, len := 64, next := 0 } : DmaDesc), left := 64 } : DmaCh) with state := .fetch, desc := none }, none, (((State.reset.onDom 19 fun x => { x with state := .on }).onDom 7 fun x => { x with state := .on }).onDma fun d => { d with ch := [(3, { ({ DmaCh.reset with state := .active, ptr := 0x800180, desc := some ({ control := 0x80000000, src := 0x10001000, dst := 0x10002000, len := 64, next := 0 } : DmaDesc), left := 64 } : DmaCh) with state := .fetch, desc := none })] }).write 0x10003000 ([0, 0, 0, 0x80] ++ [0, 0x10, 0, 0x10, 0, 0, 0, 0, 0, 0x20, 0, 0x10, 0, 0, 0, 0, 64, 0, 0, 0]), by decide⟩,
   ⟨3, { ({ DmaCh.reset with state := .active, ptr := 0x800180, desc := some ({ control := 0x80000000, src := 0x10001000, dst := 0x10002000, len := 64, next := 0 } : DmaDesc), left := 64 } : DmaCh) with state := .fetch, desc := none }, none, (((State.reset.onDom 19 fun x => { x with state := .on }).onDom 7 fun x => { x with state := .on }).onDma fun d => { d with ch := [(3, { ({ DmaCh.reset with state := .active, ptr := 0x800180, desc := some ({ control := 0x80000000, src := 0x10001000, dst := 0x10002000, len := 64, next := 0 } : DmaDesc), left := 64 } : DmaCh) with state := .fetch, desc := none })] }).write 0x10003000 [0, 0, 0, 0x90], by decide⟩⟩

/-- The hypotheses of `Obligations.DmaDescriptorsMoveBytesAndEnd` can be met. -/
theorem test_dma_descriptors_move_bytes_and_end_hyps :
    (∃ (n : Fin 16) (c : DmaCh) (d : DmaDesc) (s : State), (s.dmaLive n = true ∧ s.dma.owner = some n ∧ s.dma.ch = [(n.val, c)] ∧ c.state = .active ∧ c.desc = some d ∧ d.len = 64 ∧ d.next = 0 ∧ fld d.control.toNat 24 2 = 0 ∧ d.control.getLsbD 29 = false ∧ (d.src = d.dst ∨ d.overlaps = false) ∧ 0x10000000 ≤ d.src.toNat ∧ d.src.toNat + 64 ≤ 0x11800000 ∧ 0x10000000 ≤ d.dst.toNat ∧ d.dst.toNat + 64 ≤ 0x11800000 ∧ d.src.toNat % 64 = 0 ∧ d.dst.toNat % 64 = 0 ∧ 0x10000000 ≤ c.addr ∧ c.addr + 32 ≤ 0x11800000 ∧ (d.dst.toNat + 64 ≤ c.addr ∨ c.addr + 32 ≤ d.dst.toNat) ∧ s.refusal epDma (some n) (dmaAcc .read d.src.toNat 64 []) = none ∧ s.refusal epDma (some n) (dmaAcc .write d.dst.toNat 64 (List.replicate 64 0)) = none ∧ s.refusal epDma (some n) (dmaAcc .write c.addr 4 [0, 0, 0, 0]) = none ∧ s.refusal epDma (some n) (dmaAcc .write (c.addr + 0x1C) 4 [0, 0, 0, 0]) = none ∧ s.hm.brst = [] ∧ s.pwr.doms.all (fun e => !e.2.wantOff) = true ∧ Memory.wf s.fab.mem = true)) ∧
    (∃ (n : Fin 16) (c : DmaCh) (d : DmaDesc) (s : State), (s.dmaLive n = true ∧ s.dma.owner = some n ∧ s.dma.ch = [(n.val, c)] ∧ c.state = .active ∧ c.desc = some d ∧ d.len = 64 ∧ d.next ≠ 0 ∧ d.control.getLsbD 29 = true ∧ d.control.getLsbD 30 = true ∧ (d.src = d.dst ∨ d.overlaps = false) ∧ 0x10000000 ≤ d.src.toNat ∧ d.src.toNat + 64 ≤ 0x11800000 ∧ 0x10000000 ≤ d.dst.toNat ∧ d.dst.toNat + 64 ≤ 0x11800000 ∧ d.src.toNat % 64 = 0 ∧ d.dst.toNat % 64 = 0 ∧ 0x10000000 ≤ c.addr ∧ c.addr + 32 ≤ 0x11800000 ∧ (d.dst.toNat + 64 ≤ c.addr ∨ c.addr + 32 ≤ d.dst.toNat) ∧ s.refusal epDma (some n) (dmaAcc .read d.src.toNat 64 []) = none ∧ s.refusal epDma (some n) (dmaAcc .write d.dst.toNat 64 (List.replicate 64 0)) = none ∧ s.refusal epDma (some n) (dmaAcc .write c.addr 4 [0, 0, 0, 0]) = none ∧ s.refusal epDma (some n) (dmaAcc .write (c.addr + 0x1C) 4 [0, 0, 0, 0]) = none ∧ s.hm.brst = [] ∧ s.pwr.doms.all (fun e => !e.2.wantOff) = true ∧ Memory.wf s.fab.mem = true)) ∧
    (∃ (n : Fin 16) (c : DmaCh) (d : DmaDesc) (w : Bool) (k : BitVec 4) (s : State), (s.dmaLive n = true ∧ s.dma.owner = some n ∧ s.dma.ch = [(n.val, c)] ∧ c.state = .active ∧ c.desc = some d ∧ d.len = 64 ∧ d.control.getLsbD 29 = false ∧ 0x10000000 ≤ d.src.toNat ∧ d.src.toNat + 64 ≤ 0x11800000 ∧ 0x10000000 ≤ d.dst.toNat ∧ d.dst.toNat + 64 ≤ 0x11800000 ∧ d.src.toNat % 64 = 0 ∧ d.dst.toNat % 64 = 0 ∧ 0x10000000 ≤ c.addr ∧ c.addr + 32 ≤ 0x11800000 ∧ (d.dst.toNat + 64 ≤ c.addr ∨ c.addr + 32 ≤ d.dst.toNat) ∧ s.refusal epDma (some n) (dmaAcc .read d.src.toNat 64 []) = none ∧ s.refusal epDma (some n) (dmaAcc .write d.dst.toNat 64 (List.replicate 64 0)) = none ∧ s.refusal epDma (some n) (dmaAcc .write c.addr 4 [0, 0, 0, 0]) = none ∧ s.refusal epDma (some n) (dmaAcc .write (c.addr + 0x1C) 4 [0, 0, 0, 0]) = none ∧ s.hm.brst = [] ∧ s.pwr.doms.all (fun e => !e.2.wantOff) = true ∧ Memory.wf s.fab.mem = true)) ∧
    (∃ (n : Fin 16) (c : DmaCh) (d : DmaDesc) (s : State), (s.dmaLive n = true ∧ s.dma.owner = some n ∧ s.dma.ch = [(n.val, c)] ∧ c.state = .aborting ∧ c.desc = some d ∧ d.len = 64 ∧ 0x10000000 ≤ d.src.toNat ∧ d.src.toNat + 64 ≤ 0x11800000 ∧ 0x10000000 ≤ d.dst.toNat ∧ d.dst.toNat + 64 ≤ 0x11800000 ∧ d.src.toNat % 64 = 0 ∧ d.dst.toNat % 64 = 0 ∧ 0x10000000 ≤ c.addr ∧ c.addr + 32 ≤ 0x11800000 ∧ (d.dst.toNat + 64 ≤ c.addr ∨ c.addr + 32 ≤ d.dst.toNat) ∧ s.refusal epDma (some n) (dmaAcc .read d.src.toNat 64 []) = none ∧ s.refusal epDma (some n) (dmaAcc .write d.dst.toNat 64 (List.replicate 64 0)) = none ∧ s.refusal epDma (some n) (dmaAcc .write c.addr 4 [0, 0, 0, 0]) = none ∧ s.refusal epDma (some n) (dmaAcc .write (c.addr + 0x1C) 4 [0, 0, 0, 0]) = none ∧ s.hm.brst = [] ∧ s.pwr.doms.all (fun e => !e.2.wantOff) = true ∧ Memory.wf s.fab.mem = true)) :=
  ⟨⟨3, ({ DmaCh.reset with state := .active, ptr := 0x800180, desc := some ({ control := 0x80000000, src := 0x10001000, dst := 0x10002000, len := 64, next := 0 } : DmaDesc), left := 64 } : DmaCh), ({ control := 0x80000000, src := 0x10001000, dst := 0x10002000, len := 64, next := 0 } : DmaDesc), (((State.reset.onDom 19 fun x => { x with state := .on }).onDom 7 fun x => { x with state := .on }).onDma fun d => { d with owner := some 3, ch := [(3, ({ DmaCh.reset with state := .active, ptr := 0x800180, desc := some ({ control := 0x80000000, src := 0x10001000, dst := 0x10002000, len := 64, next := 0 } : DmaDesc), left := 64 } : DmaCh))] }), by decide⟩,
   ⟨3, { ({ DmaCh.reset with state := .active, ptr := 0x800180, desc := some ({ control := 0x80000000, src := 0x10001000, dst := 0x10002000, len := 64, next := 0 } : DmaDesc), left := 64 } : DmaCh) with desc := some { ({ control := 0x80000000, src := 0x10001000, dst := 0x10002000, len := 64, next := 0 } : DmaDesc) with next := 0x10004000, control := 0xE0000000 } }, { ({ control := 0x80000000, src := 0x10001000, dst := 0x10002000, len := 64, next := 0 } : DmaDesc) with next := 0x10004000, control := 0xE0000000 }, ((State.reset.onDom 19 fun x => { x with state := .on }).onDom 7 fun x => { x with state := .on }).onDma fun d => { d with owner := some 3, ch := [(3, { ({ DmaCh.reset with state := .active, ptr := 0x800180, desc := some ({ control := 0x80000000, src := 0x10001000, dst := 0x10002000, len := 64, next := 0 } : DmaDesc), left := 64 } : DmaCh) with desc := some { ({ control := 0x80000000, src := 0x10001000, dst := 0x10002000, len := 64, next := 0 } : DmaDesc) with next := 0x10004000, control := 0xE0000000 } })] }, by decide⟩,
   ⟨3, ({ DmaCh.reset with state := .active, ptr := 0x800180, desc := some ({ control := 0x80000000, src := 0x10001000, dst := 0x10002000, len := 64, next := 0 } : DmaDesc), left := 64 } : DmaCh), ({ control := 0x80000000, src := 0x10001000, dst := 0x10002000, len := 64, next := 0 } : DmaDesc), true, 7, (((State.reset.onDom 19 fun x => { x with state := .on }).onDom 7 fun x => { x with state := .on }).onDma fun d => { d with owner := some 3, ch := [(3, ({ DmaCh.reset with state := .active, ptr := 0x800180, desc := some ({ control := 0x80000000, src := 0x10001000, dst := 0x10002000, len := 64, next := 0 } : DmaDesc), left := 64 } : DmaCh))] }), by decide⟩,
   ⟨3, { ({ DmaCh.reset with state := .active, ptr := 0x800180, desc := some ({ control := 0x80000000, src := 0x10001000, dst := 0x10002000, len := 64, next := 0 } : DmaDesc), left := 64 } : DmaCh) with state := .aborting }, ({ control := 0x80000000, src := 0x10001000, dst := 0x10002000, len := 64, next := 0 } : DmaDesc), ((State.reset.onDom 19 fun x => { x with state := .on }).onDom 7 fun x => { x with state := .on }).onDma fun d => { d with owner := some 3, ch := [(3, { ({ DmaCh.reset with state := .active, ptr := 0x800180, desc := some ({ control := 0x80000000, src := 0x10001000, dst := 0x10002000, len := 64, next := 0 } : DmaDesc), left := 64 } : DmaCh) with state := .aborting })] }, by decide⟩⟩

/-- The hypotheses of `Obligations.FaultReportsAreRecordedAndEscalated` can be met. -/
theorem test_fault_reports_are_recorded_and_escalated_hyps :
    (∃ (src : Endpoint) (n : Nat) (k : BitVec 4) (addr : BitVec 48) (time : BitVec 64) (x : HmSrc) (s : State), (s.fab.msgs = [{ src := src, dst := epMonitor, body := .fault (BitVec.ofNat 8 n) k addr time }] ∧ n < 160 ∧ srcActuator n = none ∧ s.hmSrc n = x ∧ x.lasting = false ∧ fld x.win.toNat 24 8 = 0 ∧ fld x.cfg.toNat 0 6 = 1 ∧ s.hm.histMin.toNat ≤ s.severity n ∧ s.severity n < 7 ∧ (Tab.get? s.hm.hist 0).isSome = true ∧ (Tab.rising s.hm.srcs = true ∧ Tab.rising s.hm.hist = true ∧ Tab.rising s.hm.minute = true))) ∧
    (∃ (src : Endpoint) (n : Nat) (k : BitVec 4) (addr : BitVec 48) (time : BitVec 64) (x : HmSrc) (s : State), (s.fab.msgs = [{ src := src, dst := epMonitor, body := .fault (BitVec.ofNat 8 n) k addr time }] ∧ n < 160 ∧ s.hmSrc n = x ∧ x.lasting = false ∧ fld x.win.toNat 24 8 = 1 ∧ fld x.cfg.toNat 0 6 = 0 ∧ fld x.cfg.toNat 8 6 = 1 ∧ s.severity n < s.hm.histMin.toNat ∧ s.severity n < 7 ∧ (Tab.rising s.hm.srcs = true ∧ Tab.rising s.hm.hist = true ∧ Tab.rising s.hm.minute = true))) ∧
    (∃ (src : Endpoint) (n : Nat) (k : BitVec 4) (addr : BitVec 48) (time : BitVec 64) (x : HmSrc) (s : State), (s.fab.msgs = [{ src := src, dst := epMonitor, body := .fault (BitVec.ofNat 8 n) k addr time }] ∧ n < 160 ∧ s.hmSrc n = x ∧ x.lasting = false ∧ fld x.win.toNat 24 8 = 0 ∧ fld x.cfg.toNat 0 6 = 8 ∧ s.severity n < 7 ∧ s.sys.powerLoss = none ∧ s.sys.chipResetBy = none ∧ (Tab.rising s.hm.srcs = true ∧ Tab.rising s.hm.hist = true ∧ Tab.rising s.hm.minute = true))) ∧
    (∃ (src : Endpoint) (s : State), (s.fab.msgs = [])) ∧
    (∃ (n : Fin 160) (s : State), (Tab.rising s.hm.srcs = true)) ∧
    (∃ (s : State), (60 * secTicks ≤ s.since s.hm.minuteAt ∧ s.hm.minute.all (fun e => decide (e.2 ≤ 16)) = true)) ∧
    (∃ (e : Nat × Nat) (s : State), (60 * secTicks ≤ s.since s.hm.minuteAt ∧ s.hm.minute = [e] ∧ 16 < e.2 ∧ s.ybDepth < 256)) ∧
    (∃ (src : Endpoint) (n k : Nat) (s : State), (3 < src.toNat)) ∧
    (∃ (src : Endpoint) (n k : Nat) (s : State), (src.toNat ≤ 3 ∧ s.srcAbsent n = true)) ∧
    (∃ (src : Endpoint) (n : Nat) (k : BitVec 4) (x : HmSrc) (s : State), (src.toNat ≤ 3 ∧ s.srcAbsent n = false ∧ n < 160 ∧ srcActuator n = none ∧ s.hmSrc n = x ∧ x.lasting = false ∧ fld x.win.toNat 24 8 = 0 ∧ fld x.cfg.toNat 0 6 = 1 ∧ s.hm.histMin.toNat ≤ s.severity n ∧ s.severity n < 7 ∧ (Tab.get? s.hm.hist 0).isSome = true ∧ (Tab.rising s.hm.srcs = true ∧ Tab.rising s.hm.hist = true ∧ Tab.rising s.hm.minute = true))) :=
  ⟨⟨6, 40, 2, 77, 5, ({ cfg := 0x51000001, win := 0x00000100, lasting := false, irq := false, pending := false, kind := 0, buckets := [], count := 7 } : HmSrc), ((State.reset).onFab fun f => { f with msgs := [({ src := 6, dst := epMonitor, body := .fault 40 2 77 5 } : Msg)] }).onHm fun h => { h with srcs := [(40, ({ cfg := 0x51000001, win := 0x00000100, lasting := false, irq := false, pending := false, kind := 0, buckets := [], count := 7 } : HmSrc))], hist := [(0, ({ tSrc := 1, tIn := 2, addr := 3, source := 40, kindSev := 0x25, seq := 1, react := 1, simul := false, injected := false } : HistEntry))] }, by decide⟩,
   ⟨6, 40, 2, 77, 5, { ({ cfg := 0x51000001, win := 0x00000100, lasting := false, irq := false, pending := false, kind := 0, buckets := [], count := 7 } : HmSrc) with cfg := 0x00000100, win := 0x01000100 }, ((State.reset).onFab fun f => { f with msgs := [({ src := 6, dst := epMonitor, body := .fault 40 2 77 5 } : Msg)] }).onHm fun h => { h with srcs := [(40, { ({ cfg := 0x51000001, win := 0x00000100, lasting := false, irq := false, pending := false, kind := 0, buckets := [], count := 7 } : HmSrc) with cfg := 0x00000100, win := 0x01000100 })] }, by decide⟩,
   ⟨6, 40, 2, 77, 5, { ({ cfg := 0x51000001, win := 0x00000100, lasting := false, irq := false, pending := false, kind := 0, buckets := [], count := 7 } : HmSrc) with cfg := 0x51000008 }, ((State.reset).onFab fun f => { f with msgs := [({ src := 6, dst := epMonitor, body := .fault 40 2 77 5 } : Msg)] }).onHm fun h => { h with srcs := [(40, { ({ cfg := 0x51000001, win := 0x00000100, lasting := false, irq := false, pending := false, kind := 0, buckets := [], count := 7 } : HmSrc) with cfg := 0x51000008 })] }, by decide⟩,
   ⟨6, State.reset.onFab fun f => { f with msgs := [] }, by decide⟩,
   ⟨40, (State.reset).onHm fun h => { h with srcs := [(40, { ({ cfg := 0x51000001, win := 0x00000100, lasting := false, irq := false, pending := false, kind := 0, buckets := [], count := 7 } : HmSrc) with buckets := [(3, 1)] })] }, by decide⟩,
   ⟨((State.reset).onFab fun f => { f with chipTime := 12000000000 }).onHm fun h => { h with minute := [(40, 16)] }, by decide⟩,
   ⟨(40, 17), ((State.reset).onFab fun f => { f with chipTime := 12000000000 }).onHm fun h => { h with minute := [(40, 17)] }, by decide⟩,
   ⟨4, 40, 2, State.reset, by decide⟩,
   ⟨3, 135, 2, State.reset, by decide⟩,
   ⟨0, 40, 2, ({ cfg := 0x51000001, win := 0x00000100, lasting := false, irq := false, pending := false, kind := 0, buckets := [], count := 7 } : HmSrc), (State.reset).onHm fun h => { h with srcs := [(40, ({ cfg := 0x51000001, win := 0x00000100, lasting := false, irq := false, pending := false, kind := 0, buckets := [], count := 7 } : HmSrc))], hist := [(0, ({ tSrc := 1, tIn := 2, addr := 3, source := 40, kindSev := 0x25, seq := 1, react := 1, simul := false, injected := false } : HistEntry))] }, by decide⟩⟩

/-- The hypotheses of `Obligations.ErrorOutHistoryAndSourceRegisters` can be met. -/
theorem test_error_out_history_and_source_registers_hyps :
    (∃ (s : State), (s.hm.eoHold = false ∧ s.hm.eoTimer = false)) ∧
    (∃ (s : State), (s.hm.eoHold = true ∨ s.hm.eoTimer = true)) ∧
    (∃ (s : State), (s.hm.eoTimer = true)) ∧
    (∃ (s : State), (s.hm.eoTimer = false ∧ s.hm.eoHold = true)) ∧
    (∃ (s : State), (s.now.toNat < s.hm.eoEnds.toNat)) ∧
    (∃ (s : State), (s.hm.eoHold = true ∧ s.hm.eoEnds.toNat ≤ s.now.toNat)) ∧
    (∃ (s : State), (s.hm.eoTimer = true ∧ s.hm.eoHold = false ∧ s.hm.eoEnds.toNat ≤ s.now.toNat)) ∧
    (∃ (n : Fin 160) (s : State), ((s.hmSrc n.val).lasting = true ∧ Tab.rising s.hm.srcs = true)) ∧
    (∃ (n : Fin 160) (s : State), ((s.hmSrc n.val).lasting = false)) ∧
    (∃ (n : Fin 160) (v : BitVec 32) (s : State), ((n.val = 8 ∨ n.val = 9) ∧ v.getLsbD 3 = true ∧ Tab.rising s.hm.srcs = true)) ∧
    (∃ (n : Fin 160) (v : BitVec 32) (s : State), ((brstUnit n.val 0).isSome = true ∧ Tab.rising s.hm.srcs = true)) ∧
    (∃ (n : Fin 160) (v : BitVec 32) (s : State), (v.setWidth 24 = (s.hmSrc n.val).win.setWidth 24 ∧ Tab.rising s.hm.srcs = true)) ∧
    (∃ (n : Fin 160) (v : BitVec 32) (s : State), (v.setWidth 24 ≠ (s.hmSrc n.val).win.setWidth 24 ∧ Tab.rising s.hm.srcs = true)) :=
  ⟨⟨State.reset, by decide⟩,
   ⟨State.reset.onHm fun h => { h with eoHold := true }, by decide⟩,
   ⟨State.reset.onHm fun h => { h with eoTimer := true }, by decide⟩,
   ⟨State.reset.onHm fun h => { h with eoHold := true }, by decide⟩,
   ⟨State.reset.onHm fun h => { h with eoTimer := true, eoEnds := 9 }, by decide⟩,
   ⟨State.reset.onHm fun h => { h with eoHold := true, eoTimer := true }, by decide⟩,
   ⟨State.reset.onHm fun h => { h with eoTimer := true }, by decide⟩,
   ⟨40, (State.reset).onHm fun h => { h with srcs := [(40, { ({ cfg := 0x51000001, win := 0x00000100, lasting := false, irq := false, pending := false, kind := 0, buckets := [], count := 7 } : HmSrc) with lasting := true })] }, by decide⟩,
   ⟨159, State.reset, by decide⟩,
   ⟨9, 0xFFFFFFFF, State.reset, by decide⟩,
   ⟨48, 0xFFFFFFFF, State.reset, by decide⟩,
   ⟨40, 0x05000100, (State.reset).onHm fun h => { h with srcs := [(40, { ({ cfg := 0x51000001, win := 0x00000100, lasting := false, irq := false, pending := false, kind := 0, buckets := [], count := 7 } : HmSrc) with buckets := [(3, 1)] })] }, by decide⟩,
   ⟨40, 0x05000101, (State.reset).onHm fun h => { h with srcs := [(40, { ({ cfg := 0x51000001, win := 0x00000100, lasting := false, irq := false, pending := false, kind := 0, buckets := [], count := 7 } : HmSrc) with buckets := [(3, 1)] })] }, by decide⟩⟩

/-- The hypotheses of `Obligations.YearbookAppendsMovesAndPrograms` can be met. -/
theorem test_yearbook_appends_moves_and_programs_hyps :
    (∃ (w : YbWho) (ty : BitVec 16) (len : BitVec 6) (s : State), ((∀ a, w ≠ .actuator a) ∧ len.toNat ≤ 32 ∧ ybMay w ty.toNat = true ∧ s.ybDepth < 256 ∧ (Tab.rising s.yb.banks = true))) ∧
    (∃ (a : Fin 4) (ty : BitVec 16) (len : BitVec 6) (s : State), (len.toNat ≤ 32 ∧ 0x8000 + 0x1000 * a.val ≤ ty.toNat ∧ ty.toNat ≤ 0x8FFF + 0x1000 * a.val ∧ s.guestCount a < s.odNat 0x61000C 64 ∧ s.ybDepth < 256 ∧ (Tab.rising s.yb.banks = true))) ∧
    (∃ (w : YbWho) (ty : BitVec 16) (len : BitVec 6) (s : State), (32 < len.toNat ∧ (Tab.rising s.yb.banks = true))) ∧
    (∃ (w : YbWho) (ty : BitVec 16) (len : BitVec 6) (s : State), (len.toNat ≤ 32 ∧ ybMay w ty.toNat = false ∧ (Tab.rising s.yb.banks = true))) ∧
    (∃ (a : Fin 4) (ty : BitVec 16) (len : BitVec 6) (s : State), (len.toNat ≤ 32 ∧ ybMay (.actuator a) ty.toNat = true ∧ s.odNat 0x61000C 64 ≤ s.guestCount a ∧ (Tab.rising s.yb.banks = true))) ∧
    (∃ (a : Fin 4) (ty : BitVec 16) (len : BitVec 6) (s : State), (len.toNat ≤ 32 ∧ ybMay (.actuator a) ty.toNat = true ∧ s.guestCount a < s.odNat 0x61000C 64 ∧ 256 ≤ s.ybDepth ∧ (Tab.rising s.yb.banks = true))) ∧
    (∃ (w : YbWho) (ty : BitVec 16) (len : BitVec 6) (s : State), ((∀ a, w ≠ .actuator a) ∧ len.toNat ≤ 32 ∧ ybMay w ty.toNat = true ∧ 256 ≤ s.ybDepth ∧ (Tab.rising s.yb.banks = true))) ∧
    (∃ (w : YbWho) (s : State), ((Tab.rising s.yb.banks = true))) ∧
    (∃ (w : YbWho) (s : State), ((Tab.rising s.yb.banks = true))) ∧
    (∃ (w : YbWho) (s : State), ((Tab.rising s.yb.banks = true))) ∧
    (∃ (w : YbWho) (s : State), ((Tab.rising s.yb.banks = true))) ∧
    (∃ (r : YbRec) (e : Bool) (s : State), (s.yb.recs = [r] ∧ r.slot = none ∧ s.yb.wp % 1024 ≠ 0 ∧ s.yb.skip = [] ∧ s.yb.dropped = 0)) ∧
    (∃ (r : YbRec) (e : Bool) (s : State), (s.yb.recs = [r] ∧ r.slot = none ∧ s.yb.wp % 1024 ≠ 0 ∧ s.yb.skip = [])) ∧
    (∃ (ok e : Bool) (s : State), (s.ybOldest = none)) ∧
    (∃ (r : YbRec) (e : Bool) (s : State), (s.yb.recs = [r] ∧ r.slot = none ∧ 10 * secTicks ≤ s.since r.queuedAt ∧ s.yb.wp % 1024 ≠ 0 ∧ s.yb.skip = [] ∧ s.yb.dropped = 0)) ∧
    (∃ (r : YbRec) (ok e : Bool) (s : State), (s.yb.recs = [r] ∧ s.since r.queuedAt < 10 * secTicks)) ∧
    (∃ (a : Fin 4) (f : Nat) (s : State), (s.usable a = true ∧ s.sys.mapRestored = true ∧ s.sys.mode ≠ .limited ∧ s.mirrorDue = true ∧ s.mirrorNext a = some f)) ∧
    (∃ (a : Fin 4) (s : State), (s.mirrorNext a = none)) :=
  ⟨⟨.principal 3, 0x7FFF, 32, State.reset, by decide⟩,
   ⟨3, 0xBFFF, 32, State.reset, by decide⟩,
   ⟨.housekeeping, 1, 33, State.reset, by decide⟩,
   ⟨.actuator 1, 0xA000, 0, State.reset, by decide⟩,
   ⟨1, 0x9000, 0, State.reset.onYb fun y => { y with guestRate := Four.all (0, 64) }, by decide⟩,
   ⟨1, 0x9000, 0, State.reset.onYb fun y => { y with recs := List.replicate 256 ({ seq := 5, pot := 0, wall := 0, ty := 0x8001, len := 0, flags := 0, payload := [], slot := none, queuedAt := 0 } : YbRec) }, by decide +kernel⟩,
   ⟨.housekeeping, 0x100, 0, State.reset.onYb fun y => { y with recs := List.replicate 256 ({ seq := 5, pot := 0, wall := 0, ty := 0x8001, len := 0, flags := 0, payload := [], slot := none, queuedAt := 0 } : YbRec) }, by decide +kernel⟩,
   ⟨.actuator 3, State.reset, by decide⟩,
   ⟨.actuator 3, State.reset, by decide⟩,
   ⟨.principal 0, State.reset, by decide⟩,
   ⟨.housekeeping, State.reset, by decide⟩,
   ⟨({ seq := 5, pot := 0, wall := 0, ty := 0x8001, len := 0, flags := 0, payload := [], slot := none, queuedAt := 0 } : YbRec), true, State.reset.onYb fun y => { y with recs := [({ seq := 5, pot := 0, wall := 0, ty := 0x8001, len := 0, flags := 0, payload := [], slot := none, queuedAt := 0 } : YbRec)], wp := 65535 }, by decide⟩,
   ⟨({ seq := 5, pot := 0, wall := 0, ty := 0x8001, len := 0, flags := 0, payload := [], slot := none, queuedAt := 0 } : YbRec), true, State.reset.onYb fun y => { y with recs := [({ seq := 5, pot := 0, wall := 0, ty := 0x8001, len := 0, flags := 0, payload := [], slot := none, queuedAt := 0 } : YbRec)], wp := 1 }, by decide⟩,
   ⟨true, false, State.reset, by decide⟩,
   ⟨({ seq := 5, pot := 0, wall := 0, ty := 0x8001, len := 0, flags := 0, payload := [], slot := none, queuedAt := 0 } : YbRec), true, (State.reset.onFab fun f => { f with chipTime := 2000000000 }).onYb fun y => { y with recs := [({ seq := 5, pot := 0, wall := 0, ty := 0x8001, len := 0, flags := 0, payload := [], slot := none, queuedAt := 0 } : YbRec)], wp := 65535 }, by decide⟩,
   ⟨({ seq := 5, pot := 0, wall := 0, ty := 0x8001, len := 0, flags := 0, payload := [], slot := none, queuedAt := 0 } : YbRec), true, true, State.reset.onYb fun y => { y with recs := [({ seq := 5, pot := 0, wall := 0, ty := 0x8001, len := 0, flags := 0, payload := [], slot := none, queuedAt := 0 } : YbRec)] }, by decide⟩,
   ⟨0, 0, ((State.reset.onSys fun y => { y with mapRestored := true }).onFab fun f => { f with chipTime := 120000000000 }).onIsl 0 (fun i => { i with load := .loaded }) |>.onYb fun y => { y with recs := [{ ({ seq := 5, pot := 0, wall := 0, ty := 0x8001, len := 0, flags := 0, payload := [], slot := none, queuedAt := 0 } : YbRec) with slot := some 3 }], nextSeq := 64 }, by decide⟩,
   ⟨0, State.reset, by decide⟩⟩

/-- The hypotheses of `Obligations.DomainsSuppliesAndTemperatures` can be met. -/
theorem test_domains_supplies_and_temperatures_hyps :
    (∃ (d : Fin 32) (w : Requester) (s : State), (domAllowed d.val true w = true ∧ s.wantsOn d.val w = true ∧ s.sys.powerLoss = none ∧ s.domPresent d.val = true ∧ (s.dom d.val).suspended = false ∧ (s.dom d.val).state = .off ∧ (match domDep d.val with | none => true | some e => decide ((s.dom e).state = .on)) = true ∧ Tab.rising s.pwr.doms = true)) ∧
    (∃ (d : Fin 32) (w : Requester) (e : Nat) (s : State), (domAllowed d.val true w = true ∧ s.wantsOn d.val w = true ∧ s.sys.powerLoss = none ∧ s.domPresent d.val = true ∧ (s.dom d.val).suspended = false ∧ (s.dom d.val).state = .off ∧ domDep d.val = some e ∧ (s.dom e).state ≠ .on ∧ Tab.rising s.pwr.doms = true)) ∧
    (∃ (d : Fin 32) (w : Requester) (s : State), (domAllowed d.val true w = false ∨ s.wantsOn d.val w = false ∨ s.sys.powerLoss.isSome = true)) ∧
    (∃ (d : Fin 32) (w : Requester) (s : State), (domAllowed d.val false w = true ∧ s.wantsOff d.val w = true ∧ s.poolRefuses d.val = false ∧ (s.dom d.val).state = .on ∧ d.val ≠ 19 ∧ (domUsers d.val).all (fun e => decide ((s.dom e).state = .off)) = true ∧ Tab.rising s.pwr.doms = true)) ∧
    (∃ (d : Fin 32) (w : Requester) (s : State), (domAllowed d.val false w = false ∨ s.wantsOff d.val w = false)) ∧
    (∃ (d : Fin 32) (s : State), ((s.dom d.val).state = .switchingOn ∧ (s.dom d.val).fails < 2 ∧ s.onFor d.val (50 * usTicks) = true ∧ s.pwr.doms.all (fun e => !e.2.wantOff) = true ∧ Tab.rising s.pwr.doms = true)) ∧
    (∃ (d : Fin 32) (s : State), ((s.dom d.val).state = .switchingOn ∧ (s.dom d.val).fails = 2 ∧ s.onFor d.val (50 * usTicks) = true ∧ s.sys.mode ≠ .orientation ∧ Tab.rising s.pwr.doms = true)) ∧
    (∃ (d : Fin 32) (s : State), ((s.dom d.val).state = .switchingOn ∧ s.onFor d.val (2 * msTicks) = true ∧ Tab.rising s.pwr.doms = true)) ∧
    (∃ (d : Fin 32) (k : Option (Fin 3)) (bad : List (Fin 128)) (s : State), (((s.dom d.val).state = .switchingOn ∨ (s.dom d.val).state = .filling) ∧ s.onFor d.val 0 = true ∧ s.sys.entry = none ∧ s.sys.exiting = false ∧ s.sys.shutStage = none ∧ s.pwr.doms.all (fun e => !e.2.wantOff && !e.2.wantOn) = true ∧ Tab.rising s.pwr.doms = true)) ∧
    (∃ (d : Fin 32) (s : State), ((s.dom d.val).state = .draining ∧ s.sys.entry = none ∧ s.sys.exiting = false ∧ s.sys.shutStage = none ∧ s.pwr.doms.all (fun e => !e.2.wantOff && !e.2.wantOn) = true ∧ Tab.rising s.pwr.doms = true)) ∧
    (∃ (d : Fin 32) (s : State), ((s.dom d.val).state = .draining ∧ (s.dom d.val).fails = 0 ∧ s.sys.entry = none ∧ s.sys.exiting = false ∧ s.sys.shutStage = none ∧ s.pwr.doms.all (fun e => !e.2.wantOff && !e.2.wantOn) = true ∧ Tab.rising s.pwr.doms = true)) ∧
    (∃ (i : Fin 12) (x : Int) (s : State), (s.regulateDue i.val = true ∧ x < s.slackTarget i.val ∧ Tab.rising s.pwr.islands = true)) ∧
    (∃ (i : Fin 12) (x : Int) (s : State), (s.regulateDue i.val = true ∧ s.slackTarget i.val + 20 < x ∧ Tab.rising s.pwr.islands = true)) ∧
    (∃ (i : Fin 12) (x : Int) (s : State), (s.regulateDue i.val = true ∧ s.slackTarget i.val ≤ x ∧ x ≤ s.slackTarget i.val + 20 ∧ Tab.rising s.pwr.islands = true)) ∧
    (∃ (i : Fin 12) (x : Int) (s : State), (s.regulateDue i.val = false)) ∧
    (∃ (i : Fin 12) (s : State), (s.supplied i.val = true ∧ (s.supply i.val).ev20At = none ∧ Tab.rising s.pwr.islands = true)) ∧
    (∃ (i : Fin 12) (u : BitVec 64) (s : State), (s.supplied i.val = true ∧ (s.supply i.val).lowSince = some u ∧ 10 * msTicks ≤ s.since u ∧ (s.supply i.val).exhausted = false ∧ Tab.rising s.pwr.islands = true)) ∧
    (∃ (k : Fin 8) (s : State), (s.sensorGood k.val = true ∧ s.tempDue k.val = true)) ∧
    (∃ (k : Fin 8) (v : Int) (s : State), (s.sensorGood k.val = true ∧ s.tempDue k.val = true ∧ s.sampleBad k.val (some v) = false ∧ s.pwr.temps.length = 8)) ∧
    (∃ (k : Fin 8) (v : Int) (s : State), (k.val < 6 ∧ s.sensorGood k.val = true ∧ s.tempDue k.val = true ∧ s.sampleBad k.val (some v) = false ∧ s.pwr.temps.length = 8 ∧ s.pwr.hwWarn = false ∧ 8 * s.p6320HwWarn ≤ v)) :=
  ⟨⟨28, .timetable, ((State.reset.onDom 6 fun x => { x with state := .on }).onSys fun y => { y with mode := .service }), by decide⟩,
   ⟨24, .sequencer, 20, ((State.reset.onDom 6 fun x => { x with state := .on }).onSys fun y => { y with mode := .service }), by decide⟩,
   ⟨0, .sequencer, State.reset, by decide⟩,
   ⟨31, .dictionary, State.reset.onDom 31 fun x => { x with state := .on }, by decide⟩,
   ⟨6, .sequencer, State.reset, by decide⟩,
   ⟨28, (State.reset.onFab fun f => { f with chipTime := 4000000 }).onDom 28 fun x => { x with state := .switchingOn, fails := 1 }, by decide⟩,
   ⟨20, (State.reset.onFab fun f => { f with chipTime := 4000000 }).onDom 20 fun x => { x with state := .switchingOn, fails := 2 }, by decide⟩,
   ⟨8, (State.reset.onFab fun f => { f with chipTime := 4000000 }).onDom 8 fun x => { x with state := .switchingOn }, by decide⟩,
   ⟨8, none, [], ((State.reset.onDom 6 fun x => { x with state := .on }).onDom 8 fun x => { x with state := .switchingOn }).write 0x10600010 [5, 6], by decide⟩,
   ⟨31, State.reset.onDom 31 fun x => { x with state := .draining }, by decide⟩,
   ⟨31, State.reset.onDom 31 fun x => { x with state := .draining }, by decide⟩,
   ⟨5, 0, (((State.reset.onDom 6 fun x => { x with state := .on }).onFab fun f => { f with chipTime := 4000000 }).onSupply 5 fun x => { x with mv := 750, mv19 := 750 }), by decide⟩,
   ⟨5, 1000, (((State.reset.onDom 6 fun x => { x with state := .on }).onFab fun f => { f with chipTime := 4000000 }).onSupply 5 fun x => { x with mv := 750, mv19 := 750 }), by decide⟩,
   ⟨5, 60, (((State.reset.onDom 6 fun x => { x with state := .on }).onFab fun f => { f with chipTime := 4000000 }).onSupply 5 fun x => { x with mv := 750, mv19 := 750 }), by decide⟩,
   ⟨5, 60, (((State.reset.onDom 6 fun x => { x with state := .on }).onFab fun f => { f with chipTime := 4000000 }).onSupply 5 fun x => { x with mv := 750, mv19 := 750 }).onSupply 5 fun x => { x with regAt := 4000000 }, by decide⟩,
   ⟨5, (((State.reset.onDom 6 fun x => { x with state := .on }).onFab fun f => { f with chipTime := 4000000 }).onSupply 5 fun x => { x with mv := 750, mv19 := 750 }), by decide⟩,
   ⟨5, 1000, (((State.reset.onDom 6 fun x => { x with state := .on }).onFab fun f => { f with chipTime := 4000000 }).onSupply 5 fun x => { x with mv := 750, mv19 := 750 }).onSupply 5 fun x => { x with mv := 850, lowSince := some 1000 }, by decide⟩,
   ⟨7, State.reset, by decide⟩,
   ⟨0, 240, State.reset, by decide⟩,
   ⟨0, 960, State.reset, by decide⟩⟩

/-- The hypotheses of `Obligations.ReportCardMeasuresAndReplans` can be met. -/
theorem test_report_card_measures_and_replans_hyps :
    (∃ (a : Fin 4) (h : BitVec 5) (m : Measurement) (s : State), (s.mayMeasure a h m = true ∧ Tab.rising s.rc.heads = true)) ∧
    (∃ (a : Fin 4) (h : BitVec 5) (m : Measurement) (s : State), (s.mayMeasure a h m = false)) ∧
    (∃ (q k n : Nat) (s : State), (q / k = n ∧ s.spn.state = .run ∧ s.spn.rampDue = false ∧ s.spn.locked = true ∧ 2 * secTicks ≤ s.since s.spn.targetAt ∧ secTicks ≤ s.since s.spn.enteredAt ∧ s.spinDue s.p2010RatedRpm s.rc.ratedPoh = false ∧ s.spinDue s.p2040CruiseMin s.rc.minPoh = true)) ∧
    (∃ (q k n : Nat) (s : State), (q / k = n ∧ s.spn.state = .run ∧ s.spn.rampDue = false ∧ s.spn.locked = true ∧ 2 * secTicks ≤ s.since s.spn.targetAt ∧ secTicks ≤ s.since s.spn.enteredAt ∧ s.spinDue s.p2010RatedRpm s.rc.ratedPoh = true ∧ s.rc.spinRated = none ∧ s.rc.spinBase = none)) ∧
    (∃ (q k n b : Nat) (s : State), (q / k = n ∧ s.spn.state = .run ∧ s.spn.rampDue = false ∧ s.spn.locked = true ∧ 2 * secTicks ≤ s.since s.spn.targetAt ∧ secTicks ≤ s.since s.spn.enteredAt ∧ s.spinDue s.p2010RatedRpm s.rc.ratedPoh = true ∧ s.rc.spinRated = none ∧ s.rc.spinBase = some b ∧ s.p6200SpinDrift < 1000 * (max n b - min n b) / max 1 b ∧ s.rc.trigger = none)) ∧
    (∃ (q k n : Nat) (s : State), (q / k = n ∧ s.spinSteady = false)) ∧
    (∃ (r : List (Nat × Nat)) (s : State), (s.replanDue = false)) ∧
    (∃ (r : List (Nat × Nat)) (s : State), (s.replanDue = true ∧ Tab.rising s.rc.heads = true)) :=
  ⟨⟨0, 3, ({ band := 5, photo := [1, 2, 3, 4, 5, 6, 7, 8], ra := 100, rb := 100, writer := 50, touch := [0, 401], margin := 4, cut := false } : Measurement), (((State.reset.onPlc fun p => { p with headCount := [24], bands := [({ glb := 5, loc := some { act := 0, head := 3, track := 100 }, gen := 1, state := .home, temp := 0, zone := 2, replan := false, merging := false, cached := 0, writes := 1, geom := { k := 16, serial := 1, used := 0 } } : BandEntry)] }).onSys fun y => { y with mode := .service }).onIsl 0 fun i => { i with load := .loaded }), by decide⟩,
   ⟨0, 3, ({ band := 5, photo := [1, 2, 3, 4, 5, 6, 7, 8], ra := 100, rb := 100, writer := 50, touch := [0, 401], margin := 4, cut := false } : Measurement), State.reset, by decide⟩,
   ⟨1203, 4, 300, ((State.reset.onFab fun f => { f with chipTime := 500000000 }).onSpn fun p => { p with state := .run, locked := true, target := 115200 }).onSpn fun p => { p with target := 76800 }, by decide⟩,
   ⟨2243, 4, 560, ((State.reset.onFab fun f => { f with chipTime := 500000000 }).onSpn fun p => { p with state := .run, locked := true, target := 115200 }), by decide⟩,
   ⟨3603, 4, 900, 560, ((State.reset.onFab fun f => { f with chipTime := 500000000 }).onSpn fun p => { p with state := .run, locked := true, target := 115200 }).onRc fun r => { r with spinBase := some 560 }, by decide⟩,
   ⟨2243, 4, 560, State.reset, by decide⟩,
   ⟨[], State.reset, by decide⟩,
   ⟨[], (((State.reset.onPlc fun p => { p with headCount := [24], bands := [({ glb := 5, loc := some { act := 0, head := 3, track := 100 }, gen := 1, state := .home, temp := 0, zone := 2, replan := false, merging := false, cached := 0, writes := 1, geom := { k := 16, serial := 1, used := 0 } } : BandEntry)] }).onSys fun y => { y with mode := .service }).onIsl 0 fun i => { i with load := .loaded }).onRc fun r => { r with trigger := some 1 }, by decide⟩⟩

/-- The hypotheses of `Obligations.EventsTimersGpioAndPorts` can be met. -/
theorem test_events_timers_gpio_and_ports_hyps :
    (∃ (src : Endpoint) (e : BitVec 9) (q : BitVec 32) (s : State), (s.fab.msgs = [{ src := src, dst := epEvents, body := .event e q }] ∧ e.toNat ≤ 351 ∧ s.tims = [] ∧ Tab.rising s.evc.qual = true)) ∧
    (∃ (src : Endpoint) (e : BitVec 9) (q : BitVec 32) (s : State), (s.fab.msgs = [{ src := src, dst := epEvents, body := .event e q }] ∧ 351 < e.toNat)) ∧
    (∃ (src : Endpoint) (s : State), (s.fab.msgs = [])) ∧
    (∃ (n : Fin 16) (v : BitVec 32) (s : State), (s.domOn 19 = true ∧ (v.extractLsb' 28 2 = 0 ∨ v.extractLsb' 28 2 = 1) ∧ (s.timer n.val).reload ≠ 0 ∧ Tab.rising s.tims = true)) ∧
    (∃ (n : Fin 16) (v : BitVec 32) (s : State), (s.domOn 19 = true ∧ v.extractLsb' 28 2 = 2 ∧ (v.extractLsb' 0 9).toNat ≠ 320 + n.val ∧ Tab.rising s.tims = true)) ∧
    (∃ (n : Fin 16) (v : BitVec 32) (s : State), (s.domOn 19 = true ∧ (v.extractLsb' 28 2 = 0 ∨ v.extractLsb' 28 2 = 1) ∧ (s.timer n.val).reload = 0 ∧ Tab.rising s.tims = true)) ∧
    (∃ (n : Fin 16) (s : State), (s.domOn 19 = true ∧ Tab.rising s.tims = true)) ∧
    (∃ (n : Fin 16) (s : State), (s.timerDue n.val = true ∧ (s.timer n.val).mode = 0 ∧ s.dma.ch = [] ∧ Tab.rising s.tims = true)) ∧
    (∃ (n : Fin 16) (s : State), (s.timerDue n.val = true ∧ (s.timer n.val).mode = 1 ∧ s.dma.ch = [] ∧ Tab.rising s.tims = true)) ∧
    (∃ (g : Fin 16) (l : Bool) (s : State), (s.evc.gpioLevel.getLsbD g.val ≠ l ∧ s.sys.coreReleased = true ∧ s.evc.gpioEdge.getLsbD (2 * g.val + (if l then 0 else 1)) = true)) ∧
    (∃ (g : Fin 16) (l : Bool) (s : State), (s.evc.gpioLevel.getLsbD g.val ≠ l ∧ s.sys.coreReleased = false)) ∧
    (∃ (s : State), (s.ports.uart = .prompting ∧ s.uartQuiet 1 = true)) ∧
    (∃ (q : BitVec 8) (d : List (BitVec 8)) (c : BitVec 32) (s : State), (s.ports.uart ≠ .off ∧ 1 ≤ d.length ∧ d.length ≤ 1024 ∧ c.toNat = crc32 (uartCovered q d) ∧ s.ports.uartSeq = q ∧ s.ports.uartLast ≠ some q ∧ s.ports.uartImage.length + d.length ≤ 2 ^ 24)) ∧
    (∃ (q : BitVec 8) (d : List (BitVec 8)) (c : BitVec 32) (s : State), (s.ports.uart ≠ .off ∧ 1 ≤ d.length ∧ d.length ≤ 1024 ∧ c.toNat = crc32 (uartCovered q d) ∧ s.ports.uartLast = some q)) ∧
    (∃ (q : BitVec 8) (d : List (BitVec 8)) (c : BitVec 32) (s : State), (s.ports.uart ≠ .off ∧ (d.length = 0 ∨ 1024 < d.length ∨ c.toNat ≠ crc32 (uartCovered q d)))) ∧
    (∃ (c : BitVec 32) (s : State), (s.ports.uart ≠ .off ∧ c.toNat = crc32 s.ports.uartImage)) ∧
    (∃ (n : Nat) (c : BitVec 32) (s : State), (s.ports.uart ≠ .off)) ∧
    (∃ (s : State), (s.ports.uart = .receiving ∧ s.uartQuiet 10 = true)) ∧
    (∃ (s : State), (s.ports.uart ≠ .receiving ∨ s.uartQuiet 10 = false)) ∧
    (∃ (i : JtagIr) (s : State), (i ≠ .other)) ∧
    (∃ (s : State), (50 * msTicks ≤ s.since s.ports.ledAt)) ∧
    (∃ (s : State), (s.since s.ports.ledAt < 50 * msTicks)) :=
  ⟨⟨6, 351, 9, State.reset.onFab fun f => { f with msgs := [{ src := 6, dst := epEvents, body := .event 351 9 }] }, by decide⟩,
   ⟨6, 352, 9, State.reset.onFab fun f => { f with msgs := [{ src := 6, dst := epEvents, body := .event 352 9 }] }, by decide⟩,
   ⟨6, State.reset.onFab fun f => { f with msgs := [] }, by decide⟩,
   ⟨15, 0x90000000, { (State.reset.onDom 19 fun x => { x with state := .on }) with tims := [(15, ({ Timer.reset with run := true, counting := true, reload := 7, count := 0, fires := 2, armedAt := 5 } : Timer))] }, by decide⟩,
   ⟨15, 0xA0000007, { (State.reset.onDom 19 fun x => { x with state := .on }) with tims := [(15, ({ Timer.reset with run := true, counting := true, reload := 7, count := 0, fires := 2, armedAt := 5 } : Timer))] }, by decide⟩,
   ⟨0, 0x80000000, (State.reset.onDom 19 fun x => { x with state := .on }), by decide⟩,
   ⟨15, { (State.reset.onDom 19 fun x => { x with state := .on }) with tims := [(15, ({ Timer.reset with run := true, counting := true, reload := 7, count := 0, fires := 2, armedAt := 5 } : Timer))] }, by decide⟩,
   ⟨15, { (State.reset.onDom 19 fun x => { x with state := .on }) with tims := [(15, ({ Timer.reset with run := true, counting := true, reload := 7, count := 0, fires := 2, armedAt := 5 } : Timer))] }, by decide⟩,
   ⟨15, { (State.reset.onDom 19 fun x => { x with state := .on }) with tims := [(15, { ({ Timer.reset with run := true, counting := true, reload := 7, count := 0, fires := 2, armedAt := 5 } : Timer) with mode := 1 })] }, by decide⟩,
   ⟨15, true, (State.reset.onSys fun y => { y with coreReleased := true }).onEvc fun v => { v with gpioEdge := 0xFFFFFFFF }, by decide⟩,
   ⟨15, true, State.reset, by decide⟩,
   ⟨(State.reset.onPorts fun p => { p with uart := .prompting }), by decide⟩,
   ⟨0, [7], BitVec.ofNat 32 (crc32 (uartCovered 0 [7])), (State.reset.onPorts fun p => { p with uart := .prompting }), by decide +kernel⟩,
   ⟨0, [7], BitVec.ofNat 32 (crc32 (uartCovered 0 [7])), (State.reset.onPorts fun p => { p with uart := .prompting }).onPorts fun p => { p with uartLast := some 0 }, by decide +kernel⟩,
   ⟨0, [7], 0, (State.reset.onPorts fun p => { p with uart := .prompting }), by decide +kernel⟩,
   ⟨BitVec.ofNat 32 (crc32 []), (State.reset.onPorts fun p => { p with uart := .prompting }), by decide⟩,
   ⟨1, 0, (State.reset.onPorts fun p => { p with uart := .prompting }), by decide⟩,
   ⟨(State.reset.onPorts fun p => { p with uart := .prompting }).onPorts fun p => { p with uart := .receiving }, by decide⟩,
   ⟨State.reset, by decide⟩,
   ⟨.idcode, State.reset, by decide⟩,
   ⟨State.reset.onFab fun f => { f with chipTime := 10000000 }, by decide⟩,
   ⟨State.reset, by decide⟩⟩

/-- The hypotheses of `Obligations.IdleStepsTickAndNoWordSpellsACommand` can be met. -/
theorem test_idle_steps_tick_and_no_word_spells_a_command_hyps :
    (∃ s : State, s.pending = []) :=
  ⟨State.reset, rfl⟩

/-- The hypotheses of `Obligations.ResetLeavesTheDocumentedValues` can be met. -/
theorem test_reset_leaves_the_documented_values_hyps :
    (∃ n m k : Fin 160, defaultClass n.val = 0 ∧ defaultClass m.val = 1 ∧ defaultClass k.val = 2) :=
  ⟨0, 7, 1, by decide⟩

/-- The hypotheses of `Obligations.EveryStepKeepsMemoryAndNumbersInOrder` can be met. -/
theorem test_every_step_keeps_memory_and_numbers_in_order_hyps :
    (∃ s : State, MemoryAndNumbersOk s ∧ s.pending ≠ []) :=
  ⟨{ State.reset with pending := [.uartPrompt] }, by decide⟩

/-- The hypotheses of `Obligations.EveryStepKeepsTablesInOrder` can be met. -/
theorem test_every_step_keeps_tables_in_order_hyps :
    (∃ s t : State, step s = .next t ∧ TablesOk s) :=
  ⟨State.reset, _, rfl, by decide⟩

/-- The hypotheses of `Obligations.MemoryAndSectorsReadBack` can be met. -/
theorem test_memory_and_sectors_read_back_hyps :
    (∃ m : List Host.Cell, Memory.wf m = true ∧ m ≠ []) ∧
    (∃ (data : List Byte) (tag : BitVec 64) (r : DecodeResult), data.length = 4096 ∧ r.memoryError = false ∧ r.converged = true ∧ r.payload = sectorPayload data tag) ∧
    (∃ r : DecodeResult, r.memoryError = false ∧ r.converged = true ∧ crc64 (r.payload.take 4104) ≠ beNat ((r.payload.drop 4104).take 8)) :=
  ⟨⟨[(3, 7)], by decide⟩,
   ⟨List.replicate 4096 0, 7, { converged := true, payload := sectorPayload (List.replicate 4096 0) 7, iters := 0, unsat := 0, unsatAtMgn := 0, corrected := 0, memoryError := false }, List.length_replicate, rfl, rfl, rfl⟩,
   ⟨{ converged := true, payload := [1], iters := 0, unsat := 0, unsatAtMgn := 0, corrected := 0, memoryError := false }, rfl, rfl, by decide⟩⟩

end Sys2Proof.Tests
end

/-! SUPPORT. A transaction that the fabric completes for want of a response (01 R23): what dropping it
leaves in flight, what its initiator is given, and what a response that comes later does. -/

namespace Sys2Proof.Machine

open Sys2Proof

/-! The list of transactions in flight. -/

theorem countP_dropFirst {α : Type} (p : α → Bool) (l : List α) :
    (dropFirst p l).countP p = l.countP p - 1 := by
  induction l with
  | nil => rfl
  | cons x r ih =>
    by_cases hx : p x
    · simp [dropFirst, hx]
    · simp [dropFirst, hx, ih]

theorem State.txn?_eq_none_iff (n : Nat) (s : State) :
    s.txn? n = none ↔ s.fab.txns.countP (fun y => y.id == n) = 0 := by
  simp [State.txn?, List.countP_eq_zero]

/-- Dropping the only transaction with a number leaves none with it. -/
theorem State.txn?_dropTxn_of_countP_le_one {n : Nat} {s : State}
    (h : s.fab.txns.countP (fun y => y.id == n) ≤ 1) : (s.dropTxn n).txn? n = none := by
  rw [State.txn?_eq_none_iff]
  show (dropFirst _ s.fab.txns).countP _ = 0
  rw [countP_dropFirst]
  omega

@[simp] theorem State.dropTxn_results (n : Nat) (s : State) :
    (s.dropTxn n).fab.results = s.fab.results := rfl

/-! A fault report of the fabric sends a message and leaves the transactions and their results. -/

@[simp] theorem State.fabricFault_txn? (source : Nat) (src : Endpoint) (chan : Option (Fin 16))
    (addr n : Nat) (s : State) : (s.fabricFault source src chan addr).txn? n = s.txn? n := rfl

@[simp] theorem State.fabricFault_results (source : Nat) (src : Endpoint) (chan : Option (Fin 16))
    (addr : Nat) (s : State) : (s.fabricFault source src chan addr).fab.results = s.fab.results := rfl

/-! A result reaches its initiator (R25): one entry, and nothing in flight changes. -/

@[simp] theorem State.giveResult_txn? (x : Txn) (kind : Nat) (data : List Byte) (n : Nat) (s : State) :
    (s.giveResult x kind data).txn? n = s.txn? n := by
  by_cases hc : isCore x.src <;> simp [State.giveResult, hc, State.onCore, State.txn?]

theorem State.giveResult_results (x : Txn) (kind : Nat) (data : List Byte) (s : State) :
    (s.giveResult x kind data).fab.results = s.fab.results ++
      [{ id := x.id, src := x.src, chan := x.chan, kind := BitVec.ofNat 4 kind,
         data := if kind = 0 then data else [] }] := by
  by_cases hc : isCore x.src <;> simp [State.giveResult, hc, State.onCore]

/-! The two commands. -/

/-- A timeout of a transaction in flight drops it, reports fault source 44 and gives kind 6 (R23, R24). -/
theorem exec_transactionTimeout_of_inFlight {n : Nat} {x : Txn} {s : State} (h : s.txn? n = some x) :
    exec (.transactionTimeout n) s
      = .next (((s.dropTxn n).fabricFault 44 x.src x.chan x.acc.addr).giveResult x 6 []) := by
  show execTransactionTimeout n s = _
  rw [execTransactionTimeout, h]

/-- A response for a number that is not in flight is discarded (R23). -/
theorem exec_transactionComplete_of_not_inFlight {n : Nat} {s : State} (h : s.txn? n = none)
    (resp : RespKind) : exec (.transactionComplete n resp) s = .next s := by
  show execTransactionComplete n resp s = _
  rw [execTransactionComplete, h]

/-- Settles O1: the timeout drops the only transaction with its number, so that the number is no longer in
flight, and a response for it is then discarded. -/
theorem lateTransactionsEndWithKindSix : Obligations.LateTransactionsEndWithKindSix := by
  rintro n x s ⟨hx, hone⟩
  have hgone : (((s.dropTxn n).fabricFault 44 x.src x.chan x.acc.addr).giveResult x 6 []).txn? n
      = none := by
    rw [State.giveResult_txn?, State.fabricFault_txn?]
    exact State.txn?_dropTxn_of_countP_le_one (Nat.le_of_eq hone)
  refine ⟨_, exec_transactionTimeout_of_inFlight hx, ?_, hgone, fun resp =>
    ⟨_, exec_transactionComplete_of_not_inFlight hgone resp, rfl⟩⟩
  rw [State.giveResult_results, State.fabricFault_results, State.dropTxn_results]
  rfl

end Sys2Proof.Machine

/-! SUPPORT. The step function, the state after reset, and what memory and sectors read back as. -/

namespace Sys2Proof

/-- Bytes written to a memory in canonical form read back as written. -/
theorem memRead_memWrite {m : List Host.Cell} (h : Memory.wf m = true) (a : Nat) (l : List Byte) :
    memRead (memWrite m a l) a l.length = l := by
  induction l generalizing m a with
  | nil => rfl
  | cons b r ih =>
    have hb : memByte (memWrite (memPut m a b) (a + 1) r) a = b := by
      rw [memByte_memWrite_outside (memPut_wf h a b) (a + 1) r (.inl (Nat.lt_succ_self a)),
        memByte_memPut h, if_pos rfl]
    simp only [List.length_cons, memRead, memWrite]
    rw [hb, ih (memPut_wf h a b) (a + 1)]

/-! The bytes of a number. -/

@[simp] theorem leBytes_length (n v : Nat) : (leBytes n v).length = n := by
  induction n generalizing v with
  | zero => rfl
  | succ n ih => simp [leBytes, ih]

@[simp] theorem beBytes_length (n v : Nat) : (beBytes n v).length = n := by simp [beBytes]

theorem leNat_leBytes (n v : Nat) : leNat (leBytes n v) = v % 256 ^ n := by
  induction n generalizing v with
  | zero => simp [leBytes, leNat, Nat.mod_one]
  | succ n ih =>
    have hb : (BitVec.ofNat 8 v).toNat = v % 256 := by simp
    rw [leBytes, leNat, ih, hb, Nat.pow_succ', Nat.mod_mul]

theorem beNat_beBytes (n v : Nat) : beNat (beBytes n v) = v % 256 ^ n := by
  simp [beNat, beBytes, leNat_leBytes]

/-- A number of eight bytes gives the 64-bit word it came from. -/
theorem beNat_beBytes_of_lt {v : Nat} (h : v < 2 ^ 64) : beNat (beBytes 8 v) = v := by
  rw [beNat_beBytes, Nat.mod_eq_of_lt (by omega)]

/-! The CRC of a sector is a 64-bit number. -/

theorem crcBit_lt {w poly reg : Nat} (hp : poly < 2 ^ w) (b : Bool) :
    crcBit w poly reg b < 2 ^ w := by
  have hs : reg * 2 % 2 ^ w < 2 ^ w := Nat.mod_lt _ (Nat.two_pow_pos w)
  simp only [crcBit]
  split
  · exact Nat.xor_lt_two_pow hs hp
  · exact hs

theorem crcBits_lt {w poly reg : Nat} (hp : poly < 2 ^ w) (hr : reg < 2 ^ w) (l : List Bool) :
    crcBits w poly reg l < 2 ^ w := by
  induction l generalizing reg with
  | nil => exact hr
  | cons b r ih => exact ih (crcBit_lt hp b)

theorem padTo_of_length {α : Type} {n : Nat} {l : List α} (h : l.length = n) (d : α) :
    padTo n d l = l := by
  subst h
  simp [padTo]

end Sys2Proof

namespace Sys2Proof.Machine

open Sys2Proof

set_option Elab.async false

theorem crc64_lt (l : List Byte) : crc64 l < 2 ^ 64 :=
  Nat.xor_lt_two_pow (crcBits_lt (by decide) (by decide) _) (by decide)

/-! The parts of a sector's payload (07 R222). -/

theorem sectorPayload_eq {data : List Byte} (h : data.length = 4096) (tag : BitVec 64) :
    sectorPayload data tag
      = data ++ (beBytes 8 tag.toNat ++ beBytes 8 (crc64 (data ++ beBytes 8 tag.toNat))) := by
  simp [sectorPayload, padTo_of_length h]

theorem sectorPayload_data {data : List Byte} (h : data.length = 4096) (tag : BitVec 64) :
    (sectorPayload data tag).take 4096 = data := by
  rw [sectorPayload_eq h, List.take_left' h]

theorem sectorPayload_tag {data : List Byte} (h : data.length = 4096) (tag : BitVec 64) :
    ((sectorPayload data tag).drop 4096).take 8 = beBytes 8 tag.toNat := by
  rw [sectorPayload_eq h, List.drop_left' h, List.take_left' (beBytes_length 8 _)]

theorem sectorPayload_covered {data : List Byte} (h : data.length = 4096) (tag : BitVec 64) :
    (sectorPayload data tag).take 4104 = data ++ beBytes 8 tag.toNat := by
  rw [sectorPayload_eq h, ← List.append_assoc, List.take_left' (by simp [h])]

theorem sectorPayload_crc {data : List Byte} (h : data.length = 4096) (tag : BitVec 64) :
    ((sectorPayload data tag).drop 4104).take 8
      = beBytes 8 (crc64 (data ++ beBytes 8 tag.toNat)) := by
  rw [sectorPayload_eq h, ← List.append_assoc, List.drop_left' (by simp [h]),
    List.take_of_length_le (by simp)]

/-- A payload that is a sector's passes its CRC, so that its tag alone decides the outcome (07 R224). -/
theorem decodeOutcome_sectorPayload {data : List Byte} {tag : BitVec 64} {r : DecodeResult}
    (hlen : data.length = 4096) (hmem : r.memoryError = false) (hconv : r.converged = true)
    (hpay : r.payload = sectorPayload data tag) (u : BitVec 64) :
    decodeOutcome u r = if u = tag then 0 else 3 := by
  simp only [decodeOutcome, hmem, hconv, hpay, sectorPayload_covered hlen, sectorPayload_crc hlen,
    sectorPayload_tag hlen, beNat_beBytes_of_lt (crc64_lt _), beNat_beBytes_of_lt tag.isLt]
  by_cases hu : u = tag
  · simp [hu]
  · have hne : tag.toNat ≠ u.toNat := fun h => hu (BitVec.eq_of_toNat_eq h.symm)
    simp [hu, hne]

theorem decodeOutcome_of_crc_ne {r : DecodeResult} (hmem : r.memoryError = false)
    (hconv : r.converged = true)
    (hcrc : crc64 (r.payload.take 4104) ≠ beNat ((r.payload.drop 4104).take 8)) (tag : BitVec 64) :
    decodeOutcome tag r = 2 := by
  simp [decodeOutcome, hmem, hconv, hcrc]

/-- Settles O60: a write reads back byte by byte, and a payload's CRC and tag are the numbers their bytes
give. -/
theorem memoryAndSectorsReadBack : Obligations.MemoryAndSectorsReadBack := by
  refine ⟨fun m a b hm => ⟨memRead_memWrite hm a b, fun x hx => memByte_memWrite_outside hm a b hx,
    memWrite_wf hm a b⟩, fun data tag u r hlen hmem hconv hpay => ?_,
    fun tag r hmem hconv hcrc => decodeOutcome_of_crc_ne hmem hconv hcrc tag⟩
  have hout := decodeOutcome_sectorPayload hlen hmem hconv hpay
  refine ⟨by simp [hout], ?_, fun hu => by simp [hout, hu]⟩
  rw [hpay, sectorPayload_data hlen]

/-- Settles O55: a step on a queue that is not empty is its front carried out on the rest. -/
theorem stepRunsTheCommandAtTheFront : Obligations.StepRunsTheCommandAtTheFront :=
  fun _ _ _ => rfl

/-- Settles O57: the state after reset is a closed value. -/
theorem resetLeavesTheDocumentedValues : Obligations.ResetLeavesTheDocumentedValues := by
  refine ⟨by decide +kernel, by decide +kernel, by decide +kernel⟩

end Sys2Proof.Machine

/-! SUPPORT. Two updates of one actuator make one; what other updates leave of an actuator; and the
frames the statements name, as relations that compose. -/

namespace Sys2Proof

@[simp] theorem Four.set_set {α : Type} (v : Four α) (a : Fin 4) (x y : α) :
    (v.set a x).set a y = v.set a y := by
  match a with
  | 0 => rfl
  | 1 => rfl
  | 2 => rfl
  | 3 => rfl

@[simp] theorem Four.set_get {α : Type} (v : Four α) (a : Fin 4) : v.set a (v.get a) = v := by
  match a with
  | 0 => rfl
  | 1 => rfl
  | 2 => rfl
  | 3 => rfl

end Sys2Proof

namespace Sys2Proof.Machine

open Sys2Proof

set_option Elab.async false

/-! Updates of one actuator. -/

theorem State.onAct_onAct (s : State) (a : Fin 4) (f g : Act → Act) :
    (s.onAct a f).onAct a g = s.onAct a fun x => g (f x) := by simp [State.onAct]

theorem State.onAct_congr {s : State} {a : Fin 4} {f g : Act → Act} (h : f (s.act a) = g (s.act a)) :
    s.onAct a f = s.onAct a g := by
  simp only [State.onAct]
  rw [show f (s.acts.get a) = g (s.acts.get a) from h]

theorem State.onAct_self {s : State} {a : Fin 4} {f : Act → Act} (h : f (s.act a) = s.act a) :
    s.onAct a f = s := by
  simp only [State.onAct]
  rw [show f (s.acts.get a) = s.acts.get a from h, Four.set_get]

theorem State.onSve_onSve (s : State) (a : Fin 4) (f g : Sve → Sve) :
    (s.onSve a f).onSve a g = s.onSve a fun v => g (f v) := State.onAct_onAct s a _ _

theorem State.onSve_congr {s : State} {a : Fin 4} {f g : Sve → Sve}
    (h : f (s.act a).sve = g (s.act a).sve) : s.onSve a f = s.onSve a g :=
  State.onAct_congr (by rw [h])

@[simp] theorem State.act_onIsl_same (s : State) (a : Fin 4) (f : Isl → Isl) :
    (s.onIsl a f).act a = { s.act a with isl := f (s.act a).isl } := State.act_onAct_same s a _
@[simp] theorem State.act_onSvd_same (s : State) (a : Fin 4) (f : Svd → Svd) :
    (s.onSvd a f).act a = { s.act a with svd := f (s.act a).svd } := State.act_onAct_same s a _
@[simp] theorem State.act_onMsn_same (s : State) (a : Fin 4) (f : Msn → Msn) :
    (s.onMsn a f).act a = { s.act a with msn := f (s.act a).msn } := State.act_onAct_same s a _
@[simp] theorem State.act_onVcm_same (s : State) (a : Fin 4) (f : Vcm → Vcm) :
    (s.onVcm a f).act a = { s.act a with vcm := f (s.act a).vcm } := State.act_onAct_same s a _
@[simp] theorem State.act_onMbx_same (s : State) (a : Fin 4) (f : Four Mailbox → Four Mailbox) :
    (s.onMbx a f).act a = { s.act a with mbx := f (s.act a).mbx } := State.act_onAct_same s a _
@[simp] theorem State.act_onSve_same (s : State) (a : Fin 4) (f : Sve → Sve) :
    (s.onSve a f).act a = { s.act a with sve := f (s.act a).sve } := State.act_onAct_same s a _
@[simp] theorem State.act_onSvp_same (s : State) (a : Fin 4) (f : Svp → Svp) :
    (s.onSvp a f).act a = { s.act a with svp := f (s.act a).svp } := State.act_onAct_same s a _
@[simp] theorem State.act_onSvi_same (s : State) (a : Fin 4) (f : Svi → Svi) :
    (s.onSvi a f).act a = { s.act a with svi := f (s.act a).svi } := State.act_onAct_same s a _
@[simp] theorem State.act_onSvc_same (s : State) (a : Fin 4) (f : Svc → Svc) :
    (s.onSvc a f).act a = { s.act a with svc := f (s.act a).svc } := State.act_onAct_same s a _
@[simp] theorem State.act_onSvb_same (s : State) (a : Fin 4) (f : Svb → Svb) :
    (s.onSvb a f).act a = { s.act a with svb := f (s.act a).svb } := State.act_onAct_same s a _
@[simp] theorem State.act_onRch_same (s : State) (a : Fin 4) (f : Rch → Rch) :
    (s.onRch a f).act a = { s.act a with rch := f (s.act a).rch } := State.act_onAct_same s a _
@[simp] theorem State.act_onWp_same (s : State) (a : Fin 4) (f : Wp → Wp) :
    (s.onWp a f).act a = { s.act a with wp := f (s.act a).wp } := State.act_onAct_same s a _
@[simp] theorem State.act_onPsc_same (s : State) (a : Fin 4) (f : Psc → Psc) :
    (s.onPsc a f).act a = { s.act a with psc := f (s.act a).psc } := State.act_onAct_same s a _
@[simp] theorem State.act_onPre_same (s : State) (a : Fin 4) (f : Preamp → Preamp) :
    (s.onPre a f).act a = { s.act a with pre := f (s.act a).pre } := State.act_onAct_same s a _

/-! What an update of another field leaves of an actuator. -/

@[simp] theorem State.act_onFab (f : Fab → Fab) (s : State) (a : Fin 4) :
    (s.onFab f).act a = s.act a := rfl
@[simp] theorem State.act_onSys (f : Sys → Sys) (s : State) (a : Fin 4) :
    (s.onSys f).act a = s.act a := rfl
@[simp] theorem State.act_onDict (f : Dict → Dict) (s : State) (a : Fin 4) :
    (s.onDict f).act a = s.act a := rfl
@[simp] theorem State.act_onSpn (f : Spn → Spn) (s : State) (a : Fin 4) :
    (s.onSpn f).act a = s.act a := rfl
@[simp] theorem State.act_onPool (f : Pool → Pool) (s : State) (a : Fin 4) :
    (s.onPool f).act a = s.act a := rfl
@[simp] theorem State.act_onRecov (f : Rec → Rec) (s : State) (a : Fin 4) :
    (s.onRecov f).act a = s.act a := rfl
@[simp] theorem State.act_onPlc (f : Plc → Plc) (s : State) (a : Fin 4) :
    (s.onPlc f).act a = s.act a := rfl
@[simp] theorem State.act_onTt (f : Tt → Tt) (s : State) (a : Fin 4) :
    (s.onTt f).act a = s.act a := rfl
@[simp] theorem State.act_onNvme (f : Nvme → Nvme) (s : State) (a : Fin 4) :
    (s.onNvme f).act a = s.act a := rfl
@[simp] theorem State.act_onDramc (f : Dramc → Dramc) (s : State) (a : Fin 4) :
    (s.onDramc f).act a = s.act a := rfl
@[simp] theorem State.act_onPwr (f : Pwr → Pwr) (s : State) (a : Fin 4) :
    (s.onPwr f).act a = s.act a := rfl
@[simp] theorem State.act_onRc (f : Rc → Rc) (s : State) (a : Fin 4) :
    (s.onRc f).act a = s.act a := rfl
@[simp] theorem State.act_onPorts (f : Ports → Ports) (s : State) (a : Fin 4) :
    (s.onPorts f).act a = s.act a := rfl
@[simp] theorem State.act_takeFree (s : State) (a : Fin 4) : s.takeFree.act a = s.act a := rfl
@[simp] theorem State.act_odSet (key v : Nat) (s : State) (a : Fin 4) :
    (s.odSet key v).act a = s.act a := rfl
@[simp] theorem State.act_count (key n : Nat) (s : State) (a : Fin 4) :
    (s.count key n).act a = s.act a := rfl
@[simp] theorem State.act_countA (key : Nat) (b : Fin 4) (n : Nat) (s : State) (a : Fin 4) :
    (s.countA key b n).act a = s.act a := rfl
@[simp] theorem State.act_send (m : Msg) (s : State) (a : Fin 4) : (s.send m).act a = s.act a := rfl
@[simp] theorem State.act_event (src : Endpoint) (num qual : Nat) (s : State) (a : Fin 4) :
    (s.event src num qual).act a = s.act a := rfl
@[simp] theorem State.act_faultAt (src : Endpoint) (source kind addr : Nat) (s : State) (a : Fin 4) :
    (s.faultAt src source kind addr).act a = s.act a := rfl
@[simp] theorem State.act_fault (src : Endpoint) (source kind : Nat) (s : State) (a : Fin 4) :
    (s.fault src source kind).act a = s.act a := rfl
@[simp] theorem State.act_actEvent (b : Fin 4) (k off qual : Nat) (s : State) (a : Fin 4) :
    (s.actEvent b k off qual).act a = s.act a := by unfold State.actEvent; split <;> rfl
@[simp] theorem State.act_actFault (b : Fin 4) (k off kind : Nat) (s : State) (a : Fin 4) :
    (s.actFault b k off kind).act a = s.act a := by unfold State.actFault; split <;> rfl

/-! Events and faults of an actuator that is present. -/

theorem State.actEvent_of_present {s : State} {a : Fin 4} (h : s.present a = true) (k off qual : Nat) :
    s.actEvent a k off qual = s.event (epAct a k) (144 + 24 * a.val + off) qual := by
  simp [State.actEvent, h]

theorem State.actFault_of_present {s : State} {a : Fin 4} (h : s.present a = true) (k off kind : Nat) :
    s.actFault a k off kind = s.fault (epAct a k) (88 + 12 * a.val + off) kind := by
  simp [State.actFault, h]

@[simp] theorem State.present_onAct (s : State) (a b : Fin 4) (f : Act → Act) :
    (s.onAct a f).present b = s.present b := rfl

/-! Frames. -/

theorem ActuatorOnly.refl (a : Fin 4) (s : State) : ActuatorOnly a s s := ⟨rfl, fun _ _ => rfl⟩

theorem ActuatorsOnly.trans {s t u : State} (h : ActuatorsOnly s t) (k : ActuatorsOnly t u) :
    ActuatorsOnly s u := by
  unfold ActuatorsOnly at *
  rw [k, h]

theorem ActuatorOnly.trans {a : Fin 4} {s t u : State} (h : ActuatorOnly a s t)
    (k : ActuatorOnly a t u) : ActuatorOnly a s u :=
  ⟨h.1.trans k.1, fun b hb => (k.2 b hb).trans (h.2 b hb)⟩

theorem ActuatorOnly.onAct (a : Fin 4) (f : Act → Act) (s : State) :
    ActuatorOnly a s (s.onAct a f) := ⟨rfl, fun _ hb => State.act_onAct_ne s f hb⟩

theorem ActuatorOnly.send (a : Fin 4) (m : Msg) (s : State) : ActuatorOnly a s (s.send m) :=
  ⟨rfl, fun _ _ => rfl⟩

theorem ActuatorOnly.actEvent (a b : Fin 4) (k off qual : Nat) (s : State) :
    ActuatorOnly a s (s.actEvent b k off qual) := by
  unfold State.actEvent
  split
  · exact .send a _ s
  · exact .refl a s

theorem ActuatorOnly.actFault (a b : Fin 4) (k off kind : Nat) (s : State) :
    ActuatorOnly a s (s.actFault b k off kind) := by
  unfold State.actFault
  split
  · exact .send a _ s
  · exact .refl a s

theorem ActuatorOnly.spn {a : Fin 4} {s t : State} (h : ActuatorOnly a s t) : t.spn = s.spn := by
  rw [h.1]

theorem ActuatorOnly.dict {a : Fin 4} {s t : State} (h : ActuatorOnly a s t) : t.dict = s.dict := by
  rw [h.1]

theorem ActuatorOnly.mem {a : Fin 4} {s t : State} (h : ActuatorOnly a s t) :
    t.fab.mem = s.fab.mem := by rw [h.1]

theorem MemorySame.of_mem {s t : State} (h : t.fab.mem = s.fab.mem) : MemorySame s t :=
  fun x => by rw [h]

theorem ActuatorOnly.acts_ne {a b : Fin 4} {s t : State} (h : ActuatorOnly a s t) (hb : b ≠ a) :
    t.act b = s.act b := h.2 b hb

end Sys2Proof.Machine

/-! SUPPORT. The servo engine's instructions (06 R164 to R168): what one instruction does to an engine that is
ready, and the values of binary32 arithmetic. -/

namespace Sys2Proof

/-! Binary32 results (06 R164): one quiet NaN, and no subnormal. -/

/-- A pattern that is the quiet NaN or no NaN, and not subnormal. -/
def FClean (r : F32) : Prop :=
  (fIsNaN r = true → r = 0x7FC00000) ∧ (r.toNat % 2 ^ 31 = 0 ∨ 2 ^ 23 ≤ r.toNat % 2 ^ 31)

theorem fClean_of_magnitude {r : F32} (h : r.toNat % 2 ^ 31 ≤ 0x7F800000)
    (h' : r.toNat % 2 ^ 31 = 0 ∨ 2 ^ 23 ≤ r.toNat % 2 ^ 31) : FClean r := by
  refine ⟨fun hn => ?_, h'⟩
  simp only [fIsNaN, decide_eq_true_eq] at hn
  omega

theorem fClean_fNaN : FClean fNaN := by unfold FClean; decide

theorem fClean_fZero (neg : Bool) : FClean (fZero neg) := by
  cases neg <;> (unfold FClean; decide)

theorem fClean_fInf (neg : Bool) : FClean (fInf neg) := by
  cases neg <;> (unfold FClean; decide)

/-- An infinity is clean. -/
theorem fClean_of_isInf {x : F32} (h : fIsInf x = true) : FClean x := by
  simp only [fIsInf, decide_eq_true_eq] at h
  exact fClean_of_magnitude (by omega) (.inr (by omega))

/-- The pattern of a sign, a normal exponent and a fraction is clean. -/
theorem fClean_ofNat {sg ex fr : Nat} (hs : sg = 0 ∨ sg = 2 ^ 31) (h1 : 1 ≤ ex) (h2 : ex ≤ 254)
    (hf : fr < 2 ^ 23) : FClean (BitVec.ofNat 32 (sg + ex * 2 ^ 23 + fr)) := by
  have hv : (BitVec.ofNat 32 (sg + ex * 2 ^ 23 + fr)).toNat % 2 ^ 31 = ex * 2 ^ 23 + fr := by
    simp only [BitVec.toNat_ofNat]
    omega
  exact fClean_of_magnitude (by omega) (.inr (by omega))

/-- The significand a rounding keeps: the leading 24 bits of `m`, ties to even. -/
def roundSig (m : Nat) (sticky : Bool) : Nat :=
  let l := Nat.log2 m
  if l ≤ 23 then m * 2 ^ (23 - l)
  else
    let sh := l - 23
    let lo := m % 2 ^ sh
    let half := 2 ^ (sh - 1)
    let base := m / 2 ^ sh
    if lo > half || (lo = half && (sticky || base % 2 = 1)) then base + 1 else base

theorem roundSig_le (m : Nat) (hm : m ≠ 0) (sticky : Bool) : roundSig m sticky ≤ 2 ^ 24 := by
  have hlt : m < 2 ^ (Nat.log2 m + 1) := Nat.lt_log2_self
  simp only [roundSig]
  split
  · next hl =>
    calc m * 2 ^ (23 - m.log2) ≤ 2 ^ (m.log2 + 1) * 2 ^ (23 - m.log2) :=
          Nat.mul_le_mul_right _ (Nat.le_of_lt hlt)
      _ = 2 ^ 24 := by rw [← Nat.pow_add]; congr 1; omega
  · next hl =>
    have hbase : m / 2 ^ (m.log2 - 23) < 2 ^ 24 := by
      rw [Nat.div_lt_iff_lt_mul (Nat.two_pow_pos _), ← Nat.pow_add]
      have hexp : 24 + (m.log2 - 23) = m.log2 + 1 := by omega
      rw [hexp]
      exact hlt
    split <;> omega

/-- What an exponent and a fraction round to is clean: zero below the normal range, infinity above it. -/
theorem fClean_packed (neg : Bool) (ex : Int) {fr : Nat} (hf : fr < 2 ^ 23) :
    FClean (if ex < -126 then fZero neg
      else if ex > 127 then fInf neg
      else BitVec.ofNat 32 ((if neg then 2 ^ 31 else 0) + (ex + 127).toNat * 2 ^ 23 + fr)) := by
  split
  · exact fClean_fZero neg
  · split
    · exact fClean_fInf neg
    · exact fClean_ofNat (by cases neg <;> decide) (by omega) (by omega) hf

theorem fClean_fRound (neg : Bool) (m : Nat) (e : Int) (sticky : Bool) :
    FClean (fRound neg m e sticky) := by
  by_cases hm : m = 0
  · simp only [fRound, hm, if_true]
    exact fClean_fZero neg
  · have hq := roundSig_le m hm sticky
    simp only [fRound, hm, if_false]
    exact fClean_packed neg _ (by
      show (if decide (roundSig m sticky = 2 ^ 24) then 0 else roundSig m sticky - 2 ^ 23) < 2 ^ 23
      by_cases hc : roundSig m sticky = 2 ^ 24
      · simp [hc]
      · simp only [hc, decide_false, Bool.false_eq_true, if_false]
        omega)

theorem fClean_fOfInt (v e : Int) (negZero : Bool) : FClean (fOfInt v e negZero) := by
  unfold fOfInt
  split
  · exact fClean_fZero _
  · exact fClean_fRound _ _ _ _

theorem fClean_fAdd (x y : F32) : FClean (fAdd x y) := by
  unfold fAdd
  split
  · exact fClean_fNaN
  split
  · next hx =>
    split
    · exact fClean_fNaN
    · exact fClean_of_isInf hx
  split
  · next hy => exact fClean_of_isInf hy
  · exact fClean_fOfInt _ _ _

theorem fClean_fMul (x y : F32) : FClean (fMul x y) := by
  simp only [fMul]
  split
  · exact fClean_fNaN
  split
  · split
    · exact fClean_fNaN
    · exact fClean_fInf _
  split
  · exact fClean_fZero _
  · exact fClean_fRound _ _ _ _

theorem fClean_fFma (x y z : F32) : FClean (fFma x y z) := by
  simp only [fFma]
  split
  · exact fClean_fNaN
  split
  · split
    · exact fClean_fNaN
    split
    · exact fClean_fNaN
    · exact fClean_fInf _
  split
  · next hz => exact fClean_of_isInf hz
  · exact fClean_fOfInt _ _ _

theorem fClean_fDiv (x y : F32) : FClean (fDiv x y) := by
  simp only [fDiv]
  split
  · exact fClean_fNaN
  split
  · split
    · exact fClean_fNaN
    · exact fClean_fInf _
  split
  · exact fClean_fZero _
  split
  · split
    · exact fClean_fNaN
    · exact fClean_fInf _
  split
  · exact fClean_fZero _
  · exact fClean_fRound _ _ _ _

/-- An operand that is no NaN reads clean: a subnormal as a zero. -/
theorem fClean_fRead {x : F32} (h : fIsNaN x = false) : FClean (fRead x) := by
  simp only [fIsNaN, decide_eq_false_iff_not] at h
  unfold fRead
  split
  · exact fClean_fZero _
  · next hz =>
    simp only [fIsZero, decide_eq_true_eq] at hz
    exact fClean_of_magnitude (by omega) (.inr (by omega))

theorem fClean_fMin (x y : F32) : FClean (fMin x y) := by
  unfold fMin
  split
  · exact fClean_fNaN
  · next hn =>
    simp only [Bool.or_eq_true, not_or, Bool.not_eq_true] at hn
    split
    · exact fClean_fZero _
    split
    · exact fClean_fRead hn.2
    · exact fClean_fRead hn.1

theorem fClean_fMax (x y : F32) : FClean (fMax x y) := by
  unfold fMax
  split
  · exact fClean_fNaN
  · next hn =>
    simp only [Bool.or_eq_true, not_or, Bool.not_eq_true] at hn
    split
    · exact fClean_fZero _
    split
    · exact fClean_fRead hn.2
    · exact fClean_fRead hn.1

/-- A sign inverted keeps a NaN a NaN. -/
theorem fIsNaN_fNegate (x : F32) : fIsNaN (fNegate x) = fIsNaN x := by
  have h : (fNegate x).toNat % 2 ^ 31 = x.toNat % 2 ^ 31 := by
    rw [fNegate, BitVec.toNat_xor, Nat.xor_mod_two_pow]
    simp
  simp only [fIsNaN, h]

theorem fNaN_of_nan {x y : F32} (h : fIsNaN x = true ∨ fIsNaN y = true) :
    fAdd x y = fNaN ∧ fSub x y = fNaN ∧ fMul x y = fNaN ∧ fMin x y = fNaN ∧ fMax x y = fNaN := by
  have h1 : (fIsNaN x || fIsNaN y) = true := by simpa using h
  have h2 : (fIsNaN x || fIsNaN (fNegate y)) = true := by rw [fIsNaN_fNegate]; exact h1
  exact ⟨if_pos h1, if_pos h2, if_pos h1, if_pos h1, if_pos h1⟩

end Sys2Proof

namespace Sys2Proof.Machine

open Sys2Proof

set_option Elab.async false

/-! Registers (06 R165). -/

theorem Sve.reg_setReg {v : Sve} (h : Tab.rising v.f = true) (fd : BitVec 8) (x : Word)
    (n : BitVec 8) : (v.setReg fd x).reg n = if n = fd ∧ n ≠ 0 then x else v.reg n := by
  unfold Sve.setReg
  by_cases hd : fd = 0
  · rw [if_pos hd, if_neg fun hn => hn.2 (hn.1.trans hd)]
  · rw [if_neg hd]
    by_cases hn : n = 0
    · simp [Sve.reg, hn]
    · simp only [Sve.reg, hn, if_false, Tab.getD_put h, ← BitVec.toNat_inj, ne_eq, not_false_eq_true,
        and_true]

/-- A register write touches the registers alone. -/
theorem Sve.setReg_eq (v : Sve) (fd : BitVec 8) (x : Word) :
    v.setReg fd x = { v with f := (v.setReg fd x).f } := by
  unfold Sve.setReg
  split <;> rfl

theorem Sve.setReg_rising {v : Sve} (h : Tab.rising v.f = true) (fd : BitVec 8) (x : Word) :
    Tab.rising (v.setReg fd x).f = true := by
  unfold Sve.setReg
  split
  · exact h
  · exact Tab.rising_put h _ _ _

@[simp] theorem Sve.tick_reg (v : Sve) (n : BitVec 8) : v.tick.reg n = v.reg n := rfl

/-! One instruction of a ready engine. -/

theorem State.xcStop_of_not_spent {e : Fin 4} {s : State} (h : (s.act e).sve.xcSpent = false) :
    s.xcStop e = s := by simp [State.xcStop, h]

/-- A ready engine carries out the instruction its program memory holds, after one tick (06 R166). -/
theorem State.engineDo_of_ready {e : Fin 4} {w : Word} {s : State} (h : EngineReady e w s)
    (f : State → State) : s.engineDo e w f = f (s.onSve e Sve.tick) := by
  obtain ⟨hp, hx, hs, hpc, hw, _⟩ := h
  simp [State.engineDo, hp, hx, State.xcStop_of_not_spent hs, Nat.not_le.2 hpc, hw]

/-- An instruction that writes one register from the engine's registers writes that register alone. -/
theorem State.engineReg_writes {e : Fin 4} {w : Word} {s : State} (h : EngineReady e w s)
    (fd : BitVec 8) (f : Sve → Word) :
    EngineWrites e fd (f (s.act e).sve.tick) s (s.engineReg e w fd f) := by
  have hf : Tab.rising (s.act e).sve.tick.f = true := h.2.2.2.2.2
  rw [State.engineReg, State.engineDo_of_ready h, State.onSve_onSve]
  refine ⟨State.onSve_congr ?_, fun n => ?_⟩
  · rw [State.act_onSve_same]
    exact Sve.setReg_eq _ _ _
  · rw [State.act_onSve_same]
    exact Sve.reg_setReg hf _ _ _

theorem EngineWrites.of_eq {e : Fin 4} {fd : BitVec 8} {x y : Word} {s t : State}
    (h : EngineWrites e fd x s t) (hxy : x = y) : EngineWrites e fd y s t := hxy ▸ h

theorem shiftLeft_setWidth_eq_append (imm : BitVec 16) :
    imm.setWidth 32 <<< 16 = imm ++ (0 : BitVec 16) := by
  apply BitVec.eq_of_toNat_eq
  have h : (imm ++ (0 : BitVec 16)).toNat = imm.toNat <<< 16 :=
    (BitVec.toNat_append imm (0 : BitVec 16)).trans (by simp)
  rw [h]
  simp [Nat.shiftLeft_eq]
  omega

/-- Settles O19: each instruction is one write of a register by a ready engine, and each operation's result
is clean. -/
theorem engineArithmeticWritesOneRegister : Obligations.EngineArithmeticWritesOneRegister := by
  refine ⟨fun e s h => ⟨_, rfl, State.engineDo_of_ready h _⟩,
    fun e fd fa fb s h => ⟨_, rfl, State.engineReg_writes h fd _⟩,
    fun e fd fa fb s h => ⟨_, rfl, State.engineReg_writes h fd _⟩,
    fun e fd fa fb s h => ⟨_, rfl, State.engineReg_writes h fd _⟩,
    fun e fd fa fb s h => ⟨_, rfl, State.engineReg_writes h fd _⟩,
    fun e fd fa fb s h => ⟨_, rfl, State.engineReg_writes h fd _⟩,
    fun e fd fa fb s h => ⟨_, rfl, State.engineReg_writes h fd _⟩,
    fun e fd fa fb s h => ⟨_, rfl, State.engineReg_writes h fd _⟩,
    fun e fd fa fb s h => ⟨_, rfl, State.engineReg_writes h fd _⟩,
    fun e fd fa fb s h => ⟨_, rfl, State.engineReg_writes h fd _⟩,
    fun e fd fa s h => ⟨_, rfl, State.engineReg_writes h fd _⟩,
    fun e fd fa s h => ⟨_, rfl, State.engineReg_writes h fd _⟩,
    fun e fd fa s h => ⟨_, rfl, State.engineReg_writes h fd _⟩,
    fun e fd fa s h => ⟨_, rfl, State.engineReg_writes h fd _⟩,
    fun e fd fa s h => ⟨_, rfl, State.engineReg_writes h fd _⟩,
    fun e fd fa s h => ⟨_, rfl, State.engineReg_writes h fd _⟩,
    fun e fd imm s h => ⟨_, rfl, (State.engineReg_writes h fd _).of_eq (shiftLeft_setWidth_eq_append imm)⟩,
    fun e fd addr s h => ⟨_, rfl, State.engineReg_writes h fd _⟩,
    fun e fd fa s h => ⟨_, rfl, (State.engineReg_writes h fd _).of_eq ?_⟩,
    fun e fd port s h => ⟨_, rfl, State.engineReg_writes h fd _⟩, ?_,
    fun x y h => fNaN_of_nan h⟩
  · simp [State.dataWord, fld]
  · rintro x y z r (h | h | h | h | h | h | h) <;> subst h
    · exact fClean_fAdd x y
    · exact fClean_fAdd x _
    · exact fClean_fMul x y
    · exact fClean_fFma x y z
    · exact fClean_fMin x y
    · exact fClean_fMax x y
    · exact fClean_fDiv _ x

end Sys2Proof.Machine

/-! SUPPORT. The servo engine's stores, predicate, outputs, biquad, tables, branches and halts (06 R167 to
R173, R182). -/

namespace Sys2Proof.Machine

open Sys2Proof

set_option Elab.async false

/-! Words of memory. -/

theorem State.word_setWord {s : State} (h : Memory.wf s.fab.mem = true) (a : Nat) (v : Word) :
    (s.setWord a v).word a = v := by
  have hr : (s.setWord a v).read a 4 = leBytes 4 v.toNat := by
    have hrw := memRead_memWrite h a (leBytes 4 v.toNat)
    rw [leBytes_length] at hrw
    exact hrw
  have hv : v.toNat < 256 ^ 4 := Nat.lt_of_lt_of_eq v.isLt (by decide)
  rw [State.word, hr, leNat_leBytes, Nat.mod_eq_of_lt hv, BitVec.ofNat_toNat, BitVec.setWidth_eq]

theorem State.setWord_outside {s : State} (h : Memory.wf s.fab.mem = true) (a : Nat) (v : Word) :
    MemoryOutside a 4 s (s.setWord a v) := by
  have hw := State.write_outside h a (leBytes 4 v.toNat)
  rwa [leBytes_length] at hw

/-! Halts (06 R182). -/

theorem State.updatesNow_of_not_updGo {a : Fin 4} {s : State} (h : (s.act a).sve.updGo = false) :
    s.updatesNow a = s := by simp [State.updatesNow, h]

/-- An engine with no update pending halts: its state, its flag and one fault report. -/
theorem State.engineHalt_halted {e : Fin 4} {s : State} (hp : s.present e = true)
    (hu : (s.act e).sve.updGo = false) (kind : Nat) : EngineHalted e kind s (s.engineHalt e kind) := by
  have hnow : s.engineHalt e kind = (((s.onSve e fun v => { v with
      state := .halted, seg := .idle, runReq := false, stopReq := false
      lostNext := true }).sveFlag e (if kind = 1 then 5 else 6)).actFault e 1 6 kind) := by
    rw [State.engineHalt, State.updatesNow_of_not_updGo]
    simp [State.sveFlag, hu]
  rw [hnow]
  refine ⟨?_, ?_, ?_, ?_, ?_, ?_⟩
  · simp [State.sveFlag]
  · simp [State.sveFlag]
  · simp [State.sveFlag]
  · simp [State.sveFlag]
  · rw [State.actFault_of_present (by exact hp)]
    rfl
  · exact ((ActuatorOnly.onAct e _ s).trans (.onAct e _ _)).trans (.actFault e e 1 6 kind _)

/-- A halt after the tick of the instruction is a halt. -/
theorem EngineHalted.of_tick {e : Fin 4} {kind : Nat} {s t : State}
    (h : EngineHalted e kind (s.onSve e Sve.tick) t) : EngineHalted e kind s t := by
  obtain ⟨h1, h2, h3, h4, h5, h6⟩ := h
  refine ⟨h1, h2, h3, ?_, h5, (ActuatorOnly.onAct e _ s).trans h6⟩
  rw [h4, State.act_onSve_same]
  rfl

/-- An instruction of a ready engine that halts it. -/
theorem State.engineDo_halted {e : Fin 4} {w : Word} {s : State} {f : State → State} {kind : Nat}
    (h : EngineReady e w s) (hu : (s.act e).sve.updGo = false)
    (hf : f (s.onSve e Sve.tick) = (s.onSve e Sve.tick).engineHalt e kind) :
    EngineHalted e kind s (s.engineDo e w f) := by
  rw [State.engineDo_of_ready h, hf]
  have ht : ((s.onSve e Sve.tick).act e).sve.updGo = false := by rw [State.act_onSve_same]; exact hu
  exact (State.engineHalt_halted (s := s.onSve e Sve.tick) h.1 ht kind).of_tick

/-- An instruction of a ready engine that updates the engine alone. -/
theorem State.engineDo_onSve {e : Fin 4} {w : Word} {s : State} {f : State → State} {g : Sve → Sve}
    (h : EngineReady e w s) (hf : f (s.onSve e Sve.tick) = (s.onSve e Sve.tick).onSve e g) :
    s.engineDo e w f = s.onSve e fun v => g v.tick := by
  rw [State.engineDo_of_ready h, hf, State.onSve_onSve]

/-- A data word stored: it reads back, and no other byte and nothing else of the machine changes. -/
theorem State.store_spec {e : Fin 4} {s : State} (hm : Memory.wf s.fab.mem = true) (i : Nat) (v : Word) :
    let t := (s.onSve e Sve.tick).setDataWord e i v
    t.word (islandBase e + 0x14000 + 4 * i) = v
      ∧ t = { s.onSve e Sve.tick with fab := { s.fab with mem := t.fab.mem } }
      ∧ ∀ b, (b < islandBase e + 0x14000 + 4 * i ∨ islandBase e + 0x14000 + 4 * i + 4 ≤ b) →
          memByte t.fab.mem b = memByte s.fab.mem b :=
  ⟨State.word_setWord hm _ v, rfl, State.setWord_outside hm _ v⟩

/-- A value staged on an output port (06 R172). -/
def Sve.stageOut (v : Sve) (p : Fin 4) (x : Word) : Sve :=
  { v with outs := v.outs.set p { v.outs.get p with staged := x } }

/-! The biquad (06 R169). -/

/-- The registers a biquad leaves, for a destination outside its block. -/
theorem Sve.biquad_reg {v : Sve} (hv : Tab.rising v.f = true) {fd fa fb : BitVec 8}
    (h1 : 1 ≤ fb.toNat) (h2 : fb.toNat ≤ 249) (hd : fd ≠ 0)
    (hout : fd.toNat < fb.toNat ∨ fb.toNat + 6 < fd.toNat) :
    let y := fFma (v.reg fb) (v.reg fa) (v.reg (fb + 5))
    (v.biquad fd fa fb).reg fd = y
      ∧ (v.biquad fd fa fb).reg (fb + 5)
          = fFma (fNegate (v.reg (fb + 3))) y (fFma (v.reg (fb + 1)) (v.reg fa) (v.reg (fb + 6)))
      ∧ (v.biquad fd fa fb).reg (fb + 6)
          = fFma (fNegate (v.reg (fb + 4))) y (fMul (v.reg (fb + 2)) (v.reg fa)) := by
  have n5 : fb + 5 ≠ 0 := by bv_omega
  have n6 : fb + 6 ≠ 0 := by bv_omega
  have d5 : fb + 5 ≠ fd := by bv_omega
  have d6 : fb + 6 ≠ fd := by bv_omega
  have n56 : fb + 5 ≠ fb + 6 := by bv_omega
  have h0 : fb + 0 = fb := by bv_omega
  have h5 := Sve.setReg_rising hv
  simp only [Sve.biquad, Sve.reg_setReg (Sve.setReg_rising (h5 _ _) _ _), Sve.reg_setReg (h5 _ _),
    Sve.reg_setReg hv, n5, n6, d5, d6, n56, hd, h0, ne_eq, not_false_eq_true, and_true,
    and_self, if_true, if_false, false_and, true_and]

/-- A biquad touches the registers alone. -/
theorem Sve.biquad_eq (v : Sve) (fd fa fb : BitVec 8) :
    v.biquad fd fa fb = { v with f := (v.biquad fd fa fb).f } := by
  unfold Sve.biquad Sve.setReg
  simp only
  split <;> split <;> split <;> rfl

/-- Looking for a marker reads memory alone. -/
theorem State.markerFrom_onSve (e a : Fin 4) (endm : Bool) (n i : Nat) (f : Sve → Sve) (s : State) :
    (s.onSve a f).markerFrom e endm n i = s.markerFrom e endm n i := by
  induction n generalizing i with
  | zero => rfl
  | succ n ih =>
    simp only [State.markerFrom, ih]
    rfl

theorem State.inSegment_tick (e : Fin 4) (t : Nat) (s : State) :
    (s.onSve e Sve.tick).inSegment e t = s.inSegment e t := by
  simp [State.inSegment, Sve.tick, State.markerFrom_onSve]

theorem tstBits_eq (v : Word) (imm : BitVec 16) :
    tstBits v imm = decide (v.extractLsb' 16 16 &&& imm ≠ 0) := by
  have h : (v >>> 16).setWidth 16 = v.extractLsb' 16 16 := by
    apply BitVec.eq_of_toNat_eq
    simp
  rw [tstBits, h]

theorem cmpCond_none {c : BitVec 4} (h : 7 < c.toNat) (x y : F32) : cmpCond c x y = none := by
  unfold cmpCond
  split
  case h_9 => rfl
  all_goals omega

/-- Settles O20: each instruction is one step of a ready engine, and a halt follows its tick. -/
theorem engineStoresBranchesAndTables : Obligations.EngineStoresBranchesAndTables := by
  refine ⟨?_, ?_, ?_, ?_, ?_, ?_, ?_, ?_, ?_, ?_, ?_, ?_, ?_, ?_⟩
  · rintro e fd addr s ⟨h, hm⟩
    refine ⟨_, rfl, ?_⟩
    rw [State.engineDo_of_ready h, State.act_onSve_same]
    exact State.store_spec hm addr.toNat _
  · rintro e fd fa s ⟨h, hm⟩
    refine ⟨_, rfl, ?_⟩
    rw [State.engineDo_of_ready h, State.act_onSve_same]
    have ha : fld ((s.act e).sve.reg fa).toNat 0 11 = ((s.act e).sve.reg fa).toNat % 2048 := by
      simp [fld]
    rw [← ha]
    exact State.store_spec hm _ _
  · rintro e c fa fb b s ⟨h, hc⟩
    refine ⟨_, rfl, State.engineDo_onSve (g := fun v => { v with p := b }) h ?_⟩
    simp [hc]
  · rintro e c fa fb s ⟨h, hc, hu⟩
    refine ⟨_, rfl, State.engineDo_halted h hu ?_⟩
    rw [cmpCond_none hc]
  · rintro e fd imm s h
    refine ⟨_, rfl, ?_⟩
    rw [State.engineDo_onSve (g := fun v => { v with p := tstBits (v.reg fd) imm }) h rfl]
    refine State.onSve_congr ?_
    rw [tstBits_eq]
    rfl
  · rintro e fa p s h
    have hp : (BitVec.ofNat 8 p.val).toNat = p.val := by
      rw [BitVec.toNat_ofNat, Nat.mod_eq_of_lt (by omega)]
    refine ⟨_, rfl, ?_⟩
    rw [State.engineDo_onSve (g := fun v => v.stageOut p (v.reg fa)) h (by simp [hp, Sve.stageOut])]
    refine ⟨?_, ?_, fun q hq => ?_, .onAct e _ s, rfl⟩
    · simp [Sve.stageOut]
    · simp [Sve.stageOut, Sve.tick]
    · simp [Sve.stageOut, Sve.tick, Four.get_set_ne _ _ hq]
  · rintro e fa port s ⟨h, hp⟩
    refine ⟨_, rfl, ?_⟩
    rw [State.engineDo_of_ready h, dif_neg (Nat.not_lt.2 hp)]
  · rintro e fd fa fb s ⟨h, h1, h2, hd, hout⟩
    have hb := Sve.biquad_reg (v := (s.act e).sve.tick) (fa := fa) h.2.2.2.2.2 h1 h2 hd hout
    obtain ⟨hy, hs1, hs2⟩ := hb
    refine ⟨_, rfl, ?_⟩
    rw [State.engineDo_onSve (g := fun v => v.biquad fd fa fb) h (by simp [h1, h2])]
    simp only [State.act_onSve_same, hy, hs1, hs2, Sve.tick_reg, true_and]
    exact State.onSve_congr (Sve.biquad_eq _ _ _ _)
  · rintro e fd fa fb s ⟨h, hb, hu⟩
    refine ⟨_, rfl, State.engineDo_halted h hu ?_⟩
    have hno : ¬ (1 ≤ fb.toNat ∧ fb.toNat ≤ 249) := by
      rcases hb with hb | hb
      · simp [hb]
      · omega
    simp only [Bool.and_eq_true, decide_eq_true_eq, hno, if_false]
  · rintro e fd fa fb y s ⟨h, hb, hy⟩
    refine ⟨_, rfl, ?_⟩
    have hw := State.engineReg_writes h fd (fun _ => y)
    have hi : (s.onSve e Sve.tick).interpolate e ((s.act e).sve.reg fa) fb.toNat = .inr y := hy
    rw [State.engineReg, State.engineDo_of_ready h] at hw
    rw [State.engineDo_of_ready h, if_neg (by omega)]
    simp only [State.act_onSve_same, Sve.tick_reg, hi]
    exact hw
  · rintro e fd fa fb k s ⟨h, hb, hk, hu⟩
    have hi : (s.onSve e Sve.tick).interpolate e ((s.act e).sve.reg fa) fb.toNat = .inl k := hk
    refine ⟨_, rfl, State.engineDo_halted h hu ?_⟩
    rw [if_neg (by omega)]
    simp only [State.act_onSve_same, Sve.tick_reg, hi]
  · rintro e c target s ⟨h, hc, hin⟩
    have hc' : brCond c ((s.onSve e Sve.tick).act e).sve.p = some true := by
      rw [State.act_onSve_same]; exact hc
    have hin' : (s.onSve e Sve.tick).inSegment e target.toNat = true := by
      rw [State.inSegment_tick]; exact hin
    refine ⟨_, rfl, ?_⟩
    rw [State.engineDo_onSve (g := fun v => { v with pc := target.setWidth 13 }) h
      (by simp only [hc', hin', if_true])]
  · rintro e c target s ⟨h, hc⟩
    have hc' : brCond c ((s.onSve e Sve.tick).act e).sve.p = some false := by
      rw [State.act_onSve_same]; exact hc
    refine ⟨_, rfl, ?_⟩
    rw [State.engineDo_of_ready h]
    simp only [hc']
  · rintro e c target s ⟨h, hc, hin, hu⟩
    have hc' : brCond c ((s.onSve e Sve.tick).act e).sve.p = some true := by
      rw [State.act_onSve_same]; exact hc
    have hin' : (s.onSve e Sve.tick).inSegment e target.toNat = false := by
      rw [State.inSegment_tick]; exact hin
    refine ⟨_, rfl, State.engineDo_halted h hu ?_⟩
    simp only [hc', hin', Bool.false_eq_true, if_false]

end Sys2Proof.Machine

/-! SUPPORT. The servo engine's segments, its signal and its halts (06 R173 to R175, R182). -/

namespace Sys2Proof.Machine

open Sys2Proof

set_option Elab.async false

theorem Sve.xcSpent_tick_bound (v : Sve) (n : Nat) : v.tick.bound n = v.bound n := rfl

/-! Single bits of a number. -/

theorem bitOf_eq_testBit (v n : Nat) : bitOf v n = v.testBit n := by
  simp [bitOf, fld, Nat.testBit, Nat.shiftRight_eq_div_pow, Nat.and_comm, Nat.and_one_is_mod]

theorem fld_one_le (v n : Nat) : b2n (bitOf v n) * 2 ^ n ≤ v := by
  unfold b2n
  split
  · next h =>
    simp only [bitOf, fld, beq_iff_eq] at h
    have hd : 1 ≤ v / 2 ^ n := by
      rcases Nat.eq_zero_or_pos (v / 2 ^ n) with h0 | h0
      · rw [h0] at h; simp at h
      · exact h0
    have := (Nat.le_div_iff_mul_le (Nat.two_pow_pos n)).1 hd
    omega
  · omega

/-- A bit that was cleared reads 0. -/
theorem bitOf_withBit_false (v n : Nat) : bitOf (withBit v n false) n = false := by
  have hpos := Nat.two_pow_pos n
  have hv := Nat.div_add_mod v (2 ^ n)
  have hlt := Nat.mod_lt v hpos
  have hd : (withBit v n false) / 2 ^ n = v / 2 ^ n - v / 2 ^ n % 2 := by
    have hb : b2n (bitOf v n) = v / 2 ^ n % 2 := by
      rcases Nat.mod_two_eq_zero_or_one (v / 2 ^ n) with h | h <;> simp [b2n, bitOf, fld, h]
    have hle : v / 2 ^ n % 2 ≤ v / 2 ^ n := Nat.mod_le _ _
    have hw : withBit v n false = (v / 2 ^ n - v / 2 ^ n % 2) * 2 ^ n + v % 2 ^ n := by
      simp only [withBit, hb]
      rw [Nat.sub_mul]
      have hm : v / 2 ^ n % 2 * 2 ^ n ≤ v / 2 ^ n * 2 ^ n := Nat.mul_le_mul_right _ hle
      have hc : v / 2 ^ n * 2 ^ n = 2 ^ n * (v / 2 ^ n) := Nat.mul_comm _ _
      simp only [b2n, Bool.false_eq_true, if_false]
      omega
    rw [hw, Nat.add_comm, Nat.add_mul_div_right _ _ hpos, Nat.div_eq_of_lt hlt, Nat.zero_add]
  simp only [bitOf, fld, hd, Nat.pow_one]
  have : (v / 2 ^ n - v / 2 ^ n % 2) % 2 = 0 := by omega
  simp [this]

/-! Updates at a halt (06 R176). -/

/-- The updates write registers and data words alone, and end the request. -/
theorem State.applyUpdates_engine (a : Fin 4) (s : State) :
    ((s.applyUpdates a).act a).sve.state = (s.act a).sve.state
      ∧ ((s.applyUpdates a).act a).sve.updGo = false := by
  refine ⟨?_, by simp [State.applyUpdates]⟩
  simp only [State.applyUpdates, State.act_onSve_same]
  refine foldS_same (fun t : State => (t.act a).sve.state) _ (fun i t => ?_) _ s
  split
  · rfl
  · rw [State.act_onSve_same, Sve.setReg_eq]

theorem State.engineHalt_updated {e : Fin 4} {s : State} (hu : (s.act e).sve.updGo = true)
    (kind : Nat) : ((s.engineHalt e kind).act e).sve.state = .halted
      ∧ ((s.engineHalt e kind).act e).sve.updGo = false := by
  have hx := State.applyUpdates_engine e (((s.onSve e fun v => { v with
      state := .halted, seg := .idle, runReq := false, stopReq := false
      lostNext := true }).sveFlag e (if kind = 1 then 5 else 6)).actFault e 1 6 kind)
  rw [State.engineHalt, State.updatesNow, if_pos (by simp [State.sveFlag, hu])]
  refine ⟨hx.1.trans ?_, hx.2⟩
  simp [State.sveFlag]

/-- Settles O22: each marker is one step of a ready engine; a spent segment stops at its end address. -/
theorem engineSegmentsSignalsAndHalts : Obligations.EngineSegmentsSignalsAndHalts := by
  refine ⟨?_, ?_, ?_, ?_, ?_, ?_, ?_, ?_, ?_⟩
  · rintro e s h
    exact ⟨_, rfl, State.engineDo_onSve (g := fun v => { v with seg := .idle }) h rfl⟩
  · rintro e seg endA s ⟨h, hoff⟩
    refine ⟨_, rfl, ?_⟩
    have hf : (bitOf ((s.onSve e Sve.tick).p3000XcEnable e) seg.toNat
        && !((s.onSve e Sve.tick).act e).sve.xcSusp) = false := by
      rw [State.act_onSve_same]
      show (bitOf (s.p3000XcEnable e) seg.toNat && !(s.act e).sve.xcSusp) = false
      rcases hoff with h | h <;> simp [h]
    rw [State.engineDo_of_ready h]
    simp only [hf, Bool.false_and, Bool.false_eq_true, if_false]
    refine ⟨?_, ?_, (ActuatorOnly.onAct e _ s).trans (.onAct e _ _), rfl⟩
    · simp
    · simp
  · rintro e seg endA s ⟨h, hon, hsu, hb⟩
    refine ⟨_, rfl, ?_⟩
    have hon' : bitOf ((s.onSve e Sve.tick).p3000XcEnable e) seg.toNat = true := hon
    have hn : (s.onSve e Sve.tick).periodCycles e = s.periodCycles e := by
      simp only [State.periodCycles, State.onSve, State.act_onAct_same]
      rfl
    rw [State.engineDo_of_ready h]
    have hsu' : (Sve.tick (s.act e).sve).xcSusp = false := hsu
    have hcyc : (Sve.tick (s.act e).sve).cyc - 1 = (s.act e).sve.cyc := rfl
    simp only [State.act_onSve_same, hon', hsu', hn, hcyc, Sve.xcSpent_tick_bound, hb, decide_true,
      Bool.not_false, Bool.and_self, if_true]
    exact ⟨trivial, trivial, trivial, rfl, (ActuatorOnly.onAct e _ s).trans (.onAct e _ _), rfl⟩
  · rintro e s ⟨hx, hs⟩
    refine ⟨_, rfl, ?_⟩
    simp only [hx, if_true, State.xcStop, hs]
    refine ⟨by simp [State.sveFlag], by simp [State.sveFlag], by simp [State.sveFlag], ?_,
      fun b hb => ?_, rfl⟩
    · rw [State.p3000XcEnable, State.odNat_odSet]
      exact bitOf_withBit_false _ _
    · rw [State.act_odSet, State.sveFlag]
      exact (State.act_onAct_ne _ _ hb).trans (State.act_onAct_ne _ _ hb)
  · rintro e imm s ⟨h, hd⟩
    refine ⟨_, rfl, ?_⟩
    have hd' : ((s.onSve e Sve.tick).act e).sve.sigDone = false := by
      rw [State.act_onSve_same]; exact hd
    rw [State.engineDo_of_ready h]
    simp only [hd', Bool.false_eq_true, if_false]
    rw [State.actEvent_of_present (by exact h.1)]
    refine ⟨?_, rfl, (((ActuatorOnly.onAct e _ s).trans (.onAct e _ _)).trans (.onAct e _ _)).trans
      (.send e _ _)⟩
    simp [State.chalkSeen]
  · rintro e imm s ⟨h, hd⟩
    refine ⟨_, rfl, ?_⟩
    have hd' : ((s.onSve e Sve.tick).act e).sve.sigDone = true := by
      rw [State.act_onSve_same]; exact hd
    rw [State.engineDo_of_ready h]
    simp only [hd', if_true]
  · rintro e s ⟨hp, hx, hs, hu, hpc⟩
    refine ⟨_, rfl, ?_⟩
    simp only [hp, hx, Bool.and_self, if_true, State.xcStop_of_not_spent hs, hpc]
    exact State.engineHalt_halted hp hu 2
  · rintro e s ⟨hp, hx, hs, hu, hpc, hl⟩
    refine ⟨_, rfl, ?_⟩
    simp only [hp, hx, Bool.and_self, if_true, State.xcStop_of_not_spent hs, hpc, hl, decide_true,
      Bool.not_false, Bool.false_eq_true, if_false]
    exact State.engineHalt_halted hp hu 1
  · rintro e addr s ⟨hp, hx, hs, hu, hw⟩
    have hh := State.engineHalt_updated hu
    refine ⟨_, rfl, ?_⟩
    simp only [hp, hx, Bool.and_self, if_true, State.xcStop_of_not_spent hs]
    cases addr with
    | true =>
      have hpc : 4096 ≤ (s.act e).sve.pc.toNat := by simpa using hw
      simp only [if_true, hpc]
      exact hh 2
    | false =>
      obtain ⟨hpc, hl⟩ : (s.act e).sve.pc.toNat < 4096
          ∧ engineLegal (BitVec.ofNat 32 (s.progWord e (s.act e).sve.pc.toNat)) = false := by
        simpa using hw
      simp only [hpc, hl, decide_true, Bool.not_false, Bool.and_self, Bool.false_eq_true, if_false,
        if_true]
      exact hh 1

end Sys2Proof.Machine

/-! SUPPORT. What the helpers of an actuator island leave of its servo engine and of spindle control, and what
a change of write inhibit does outside a sector (05 R140, R148, 06 R181 to R191, 09 R278). -/

namespace Sys2Proof.Machine

open Sys2Proof

set_option Elab.async false

/-- What an actuator's helpers leave: the engine's state, requests and entry, the wedge's record and the load
state. -/
structure Act.EngineSame (x y : Act) : Prop where
  state : y.sve.state = x.sve.state
  entry : y.sve.entry = x.sve.entry
  runReq : y.sve.runReq = x.sve.runReq
  stopReq : y.sve.stopReq = x.sve.stopReq
  record : y.svd.record = x.svd.record
  load : y.isl.load = x.isl.load

theorem Act.EngineSame.trans {x y z : Act} (h : x.EngineSame y) (k : y.EngineSame z) :
    x.EngineSame z :=
  ⟨k.state.trans h.state, k.entry.trans h.entry, k.runReq.trans h.runReq, k.stopReq.trans h.stopReq,
    k.record.trans h.record, k.load.trans h.load⟩

/-- An actuator's helpers leave its engine and spindle control. -/
def KeepsEngine (a : Fin 4) (s t : State) : Prop := t.spn = s.spn ∧ (s.act a).EngineSame (t.act a)

theorem KeepsEngine.of_same {a : Fin 4} {s t : State} (h : t.spn = s.spn) (h' : t.act a = s.act a) :
    KeepsEngine a s t := ⟨h, by rw [h']; exact ⟨rfl, rfl, rfl, rfl, rfl, rfl⟩⟩

theorem KeepsEngine.refl (a : Fin 4) (s : State) : KeepsEngine a s s := .of_same rfl rfl

theorem KeepsEngine.trans {a : Fin 4} {s t u : State} (h : KeepsEngine a s t) (k : KeepsEngine a t u) :
    KeepsEngine a s u := ⟨k.1.trans h.1, h.2.trans k.2⟩

theorem KeepsEngine.onAct {a : Fin 4} {f : Act → Act} (s : State)
    (h : (s.act a).EngineSame (f (s.act a))) : KeepsEngine a s (s.onAct a f) :=
  ⟨rfl, by rw [State.act_onAct_same]; exact h⟩

theorem KeepsEngine.onWp (a : Fin 4) (f : Wp → Wp) (s : State) : KeepsEngine a s (s.onWp a f) :=
  .onAct s ⟨rfl, rfl, rfl, rfl, rfl, rfl⟩
theorem KeepsEngine.onPsc (a : Fin 4) (f : Psc → Psc) (s : State) : KeepsEngine a s (s.onPsc a f) :=
  .onAct s ⟨rfl, rfl, rfl, rfl, rfl, rfl⟩
theorem KeepsEngine.onMsn (a : Fin 4) (f : Msn → Msn) (s : State) : KeepsEngine a s (s.onMsn a f) :=
  .onAct s ⟨rfl, rfl, rfl, rfl, rfl, rfl⟩
theorem KeepsEngine.onSvp (a : Fin 4) (f : Svp → Svp) (s : State) : KeepsEngine a s (s.onSvp a f) :=
  .onAct s ⟨rfl, rfl, rfl, rfl, rfl, rfl⟩
theorem KeepsEngine.onSvi (a : Fin 4) (f : Svi → Svi) (s : State) : KeepsEngine a s (s.onSvi a f) :=
  .onAct s ⟨rfl, rfl, rfl, rfl, rfl, rfl⟩
theorem KeepsEngine.onSvc (a : Fin 4) (f : Svc → Svc) (s : State) : KeepsEngine a s (s.onSvc a f) :=
  .onAct s ⟨rfl, rfl, rfl, rfl, rfl, rfl⟩
theorem KeepsEngine.onSvb (a : Fin 4) (f : Svb → Svb) (s : State) : KeepsEngine a s (s.onSvb a f) :=
  .onAct s ⟨rfl, rfl, rfl, rfl, rfl, rfl⟩

theorem KeepsEngine.actEvent (a b : Fin 4) (k off qual : Nat) (s : State) :
    KeepsEngine a s (s.actEvent b k off qual) :=
  .of_same (by unfold State.actEvent; split <;> rfl) (State.act_actEvent b k off qual s a)

theorem KeepsEngine.laserOff (a : Fin 4) (s : State) : KeepsEngine a s (s.laserOff a) := by
  unfold State.laserOff
  simp only
  split
  · exact .refl a s
  · split
    · exact .of_same rfl rfl
    · exact .refl a s

theorem KeepsEngine.pscRenew (a : Fin 4) (code data : Nat) (s : State) :
    KeepsEngine a s (s.pscRenew a code data) := .trans (.onPsc a _ s) (.onPsc a _ _)

theorem KeepsEngine.countA (a : Fin 4) (key n : Nat) (s : State) : KeepsEngine a s (s.countA key a n) :=
  .of_same rfl rfl

theorem KeepsEngine.ite {a : Fin 4} {s t u : State} {c : Prop} [Decidable c] (h : KeepsEngine a s t)
    (k : KeepsEngine a s u) : KeepsEngine a s (if c then t else u) := by
  split
  · exact h
  · exact k

theorem KeepsEngine.wpCut (a : Fin 4) (bit : Nat) (s : State) : KeepsEngine a s (s.wpCut a bit) := by
  unfold State.wpCut
  split
  · exact .refl a s
  · refine .trans (.trans (.trans ?_ (.pscRenew a 3 0 _)) (.countA a _ 1 _)) (.actEvent a a 4 21 _ _)
    exact .trans (.trans (.laserOff a s) (.onWp a _ _)) (.onWp a _ _)

theorem KeepsEngine.wpCause (a : Fin 4) (bit : Nat) (on : Bool) (s : State) :
    KeepsEngine a s (s.wpCause a bit on) := by
  unfold State.wpCause
  simp only
  split
  · exact .refl a s
  split
  · have h1 := KeepsEngine.onWp a (fun w => { w with cause := setBit (s.act a).wp.cause bit on }) s
    split
    · split
      · exact .trans h1 (.trans (.trans (.onWp a _ _) (.actEvent a a 4 18 _ _)) (.wpCut a bit _))
      · exact .trans h1 (.wpCut a bit _)
    · split
      · exact .trans h1 (.trans (.onWp a _ _) (.actEvent a a 4 18 _ _))
      · exact h1
  split
  · exact .trans (.onWp a _ s) (.trans (.onWp a _ _) (.actEvent a a 4 19 _ _))
  · exact .onWp a _ s

theorem KeepsEngine.islandRequest (a : Fin 4) (s : State) : KeepsEngine a s (s.islandRequest a) :=
  .wpCause a 0 _ s

theorem KeepsEngine.engineRequest (a : Fin 4) (s : State) : KeepsEngine a s (s.engineRequest a) :=
  .wpCause a 3 _ s

theorem KeepsEngine.wpTrack (a : Fin 4) (pos : F32) (missing : Bool) (s : State) :
    KeepsEngine a s (s.wpTrack a pos missing) := by
  unfold State.wpTrack
  simp only
  split
  · exact .refl a s
  split
  · exact .refl a s
  exact .ite (.refl a s) (.ite (.trans (.onWp a _ s) (.wpCause a 2 true _))
    (.ite (.trans (.onWp a _ s) (.wpCause a 2 false _)) (.onWp a _ s)))

theorem KeepsEngine.replanTrigger (a : Fin 4) (code : Nat) (s : State) :
    KeepsEngine a s (s.replanTrigger code) := by
  unfold State.replanTrigger
  split
  · exact .refl a s
  · exact .of_same rfl rfl

theorem KeepsEngine.sawSupply (a : Fin 4) (v12 v5 : Nat) (s : State) :
    KeepsEngine a s (s.sawSupply v12 v5) := by
  unfold State.sawSupply State.doIf
  simp only
  split
  · exact .trans (.of_same rfl rfl) (.replanTrigger a 4 _)
  · exact .of_same rfl rfl

theorem KeepsEngine.motionSample (a : Fin 4) (s : State) : KeepsEngine a s (s.motionSample a) :=
  .trans (.onMsn a _ s) (.onAct _ ⟨rfl, rfl, rfl, rfl, rfl, rfl⟩)

theorem KeepsEngine.correlationEnd (a : Fin 4) (s : State) : KeepsEngine a s (s.correlationEnd a) :=
  .trans (.onSvc a _ s) (.actEvent a a 1 12 1 _)

theorem KeepsEngine.injectEnd (a : Fin 4) (s : State) : KeepsEngine a s (s.injectEnd a) := by
  unfold State.injectEnd
  simp only
  split
  · exact .trans (.trans (.onSvi a _ s) (.engineRequest a _)) (.correlationEnd a _)
  · exact .trans (.onSvi a _ s) (.engineRequest a _)

theorem KeepsEngine.injectPeriod (a : Fin 4) (s : State) : KeepsEngine a s (s.injectPeriod a) := by
  unfold State.injectPeriod
  simp only
  split
  · exact .injectEnd a s
  split
  · exact .onSvi a _ s
  split
  · split
    · split
      · exact .onSvi a _ s
      · exact .onSvi a _ s
    · exact .trans (.onSvi a _ s) (.engineRequest a _)
  · exact .refl a s

theorem KeepsEngine.profileStep (a : Fin 4) (first : Bool) (s : State) :
    KeepsEngine a s (s.profileStep a first) := by
  unfold State.profileStep
  simp only
  split
  · exact .refl a s
  split
  · exact .trans (t := s.takeFree) (.of_same rfl rfl) (.onSvp a _ _)
  · exact .trans (t := s.takeFree) (.of_same rfl rfl) (.onSvp a _ _)

theorem KeepsEngine.seekBegin (a : Fin 4) (s : State) : KeepsEngine a s (s.seekBegin a).1 := by
  unfold State.seekBegin
  simp only
  split
  · exact .refl a s
  · refine .trans (.trans (.trans ?_ (.onSvp a _ _)) (.profileStep a true _)) (.onSvb a _ _)
    exact .onAct s ⟨rfl, rfl, rfl, rfl, rfl, rfl⟩

theorem KeepsEngine.applyUpdates (a : Fin 4) (s : State) : KeepsEngine a s (s.applyUpdates a) := by
  have hset : ∀ (t : State) (n : BitVec 8) (x : Word),
      KeepsEngine a t (t.onSve a fun v => v.setReg n x) := fun t n x =>
    .onAct t (by
      show (t.act a).EngineSame { t.act a with sve := (t.act a).sve.setReg n x }
      rw [Sve.setReg_eq]
      exact ⟨rfl, rfl, rfl, rfl, rfl, rfl⟩)
  refine .trans (foldS_keeps (KeepsEngine a s) _ (fun i t h => h.trans ?_) _ (.refl a s))
    (.onAct _ ⟨rfl, rfl, rfl, rfl, rfl, rfl⟩)
  exact .ite (.of_same rfl rfl) (hset t _ _)

theorem KeepsEngine.updatesNow (a : Fin 4) (s : State) : KeepsEngine a s (s.updatesNow a) := by
  unfold State.updatesNow
  split
  · exact .applyUpdates a s
  · exact .refl a s

/-! Write inhibit while no sector is being written (09 R278). -/

/-- Only the write path of an actuator changed, messages were sent, and WGATE stays closed. -/
def WritePathOnly (a : Fin 4) (s t : State) : Prop :=
  ActuatorOnly a s t ∧ t.act a = { s.act a with wp := (t.act a).wp } ∧ (t.act a).wp.writing = false

theorem State.wpCause_of_not_writing {a : Fin 4} {s : State} (h : (s.act a).wp.writing = false)
    (bit : Nat) (on : Bool) : WritePathOnly a s (s.wpCause a bit on) := by
  have hwp : ∀ (f : Wp → Wp) (t : State), WritePathOnly a s t → (f (t.act a).wp).writing = false →
      WritePathOnly a s (t.onWp a f) := fun f t ht hf =>
    ⟨ht.1.trans (.onAct a _ t), by rw [State.act_onWp_same, ht.2.1], by rw [State.act_onWp_same]; exact hf⟩
  have hev : ∀ (off q : Nat) (t : State), WritePathOnly a s t →
      WritePathOnly a s (t.actEvent a 4 off q) := fun off q t ht =>
    ⟨ht.1.trans (.actEvent a a 4 off q t), by rw [State.act_actEvent]; exact ht.2.1,
      by rw [State.act_actEvent]; exact ht.2.2⟩
  have h0 : WritePathOnly a s s := ⟨.refl a s, rfl, h⟩
  have h1 := hwp (fun w => { w with cause := setBit (s.act a).wp.cause bit on }) s h0 h
  unfold State.wpCause
  simp only [h, Bool.false_eq_true, if_false]
  split
  · exact h0
  split
  · split
    · exact hev 18 _ _ (hwp _ _ h1 h1.2.2)
    · exact h1
  split
  · exact hev 19 _ _ (hwp _ _ h1 h1.2.2)
  · exact h1

end Sys2Proof.Machine

/-! SUPPORT. Commands to the servo engine and its helpers (06 R162, R176, R185 to R193). -/

namespace Sys2Proof.Machine

open Sys2Proof

set_option Elab.async false

/-! The sample instant of a parked, stopped engine (06 R162, R185). -/

/-- What delivering a wedge's record does (05 R136, R140, R142): the engine and the load state stay, and the record
holds the first five words decoded and, sixth, the coil current. -/
structure Delivered (a : Fin 4) (x : SampleInputs) (s t : State) : Prop where
  spn : t.spn = s.spn
  state : (t.act a).sve.state = (s.act a).sve.state
  entry : (t.act a).sve.entry = (s.act a).sve.entry
  runReq : (t.act a).sve.runReq = (s.act a).sve.runReq
  stopReq : (t.act a).sve.stopReq = (s.act a).sve.stopReq
  load : (t.act a).isl.load = (s.act a).isl.load
  head : (t.act a).svd.record.take 5 = (s.act a).svd.next.take 5
  current : nth (t.act a).svd.record 6 0 = fMul (fOfZ (fromMid x.vcs)) Config.vcsScale

theorem Delivered.trans {a : Fin 4} {x : SampleInputs} {s t u : State} (h : Delivered a x s t)
    (k : KeepsEngine a t u) : Delivered a x s u :=
  ⟨k.1.trans h.spn, k.2.state.trans h.state, k.2.entry.trans h.entry, k.2.runReq.trans h.runReq,
    k.2.stopReq.trans h.stopReq, k.2.load.trans h.load, by rw [k.2.record]; exact h.head,
    by rw [k.2.record]; exact h.current⟩

theorem take_five_append {α : Type} {l : List α} (h : l.length = 12) (r : List α) :
    (l.take 5 ++ r).take 5 = l.take 5 := by
  rw [List.take_left' (by simp [h])]

theorem nth_six_append {α : Type} {l : List α} (h : l.length = 12) (x y z d : α) (r : List α) :
    nth (l.take 5 ++ x :: y :: z :: r) 6 d = y := by
  rw [nth, List.getElem?_append_right (by simp [h])]
  simp [h]

theorem State.deliver_delivered {a : Fin 4} {x : SampleInputs} {s : State}
    (hn : (s.act a).svd.next.length = 12) : Delivered a x s (s.deliver a x) := by
  refine Delivered.trans ?_ (.trans (.trans (.ite (.onSvb a _ _) (.refl a _)) (.sawSupply a _ _ _))
    (.trans (.islandRequest a _) (.wpTrack a _ _ _)))
  constructor
  case head =>
    simp [State.motionSample, State.velocityEstimate, take_five_append hn]
  case current =>
    simp [State.motionSample, State.velocityEstimate, nth_six_append hn]
    rfl
  all_goals simp [State.motionSample, State.velocityEstimate]

/-- The updates, the seek and the injection at the start of a period (06 R176, R186, R189). -/
def State.periodHelpers (a : Fin 4) (s : State) : State :=
  let sk := (s.updatesNow a).seekBegin a
  (if sk.2.isNone then sk.1.profileStep a false else sk.1).injectPeriod a

theorem KeepsEngine.periodHelpers (a : Fin 4) (s : State) : KeepsEngine a s (s.periodHelpers a) :=
  .trans (.trans (.trans (.updatesNow a s) (.seekBegin a _)) (.ite (.profileStep a false _) (.refl a _)))
    (.injectPeriod a _)

/-- The period that starts at SVE_ENTRY in the mandatory segment (06 R162). -/
theorem State.startPeriod_spec {a : Fin 4} {rcd : List Word} {n : Nat} {s : State}
    (hs : (s.act a).sve.state = .running) :
    (s.startPeriod a rcd n).spn = s.spn
      ∧ ((s.startPeriod a rcd n).act a).sve.state = .running
      ∧ ((s.startPeriod a rcd n).act a).sve.pc = (s.act a).sve.entry.setWidth 13
      ∧ ((s.startPeriod a rcd n).act a).sve.seg = .mandatory
      ∧ ((s.startPeriod a rcd n).act a).sve.runReq = false
      ∧ ((s.startPeriod a rcd n).act a).svd.record = (s.act a).svd.record := by
  have hk := KeepsEngine.periodHelpers a s
  refine ⟨hk.1, ?_, ?_, ?_, ?_, ?_⟩
  · calc _ = (if ((s.periodHelpers a).act a).sve.state = .hold then .hold else .running : SveState) := by
          simp [State.startPeriod, State.periodHelpers]
      _ = .running := by simp [hk.2.state, hs]
  · rw [← hk.2.entry]
    simp [State.startPeriod, State.periodHelpers]
  · simp [State.startPeriod]
  · simp [State.startPeriod]
  · rw [← hk.2.record]
    simp [State.startPeriod, State.periodHelpers]

/-- The sample instant of a parked engine that is to start delivers the record and starts the period. -/
theorem State.sampleInstant_starts {a : Fin 4} {x : SampleInputs} {s : State}
    (hst : (s.act a).sve.state = .stopped) (hrun : (s.act a).sve.runReq = true)
    (hload : (s.act a).isl.load = .parked) (hn : (s.act a).svd.next.length = 12) :
    s.sampleInstant a x = (((s.deliver a x).onSve a fun v => { v with
      state := .running, holdRun := 0, lostNext := false }).startPeriod a
        ((s.deliver a x).act a).svd.record 0) := by
  have hd := State.deliver_delivered (x := x) hn
  have hl : (s.deliver a x).loaded a = false := by simp [State.loaded, hd.load, hload]
  have hk : (s.deliver a x).lostKind a = none := by simp [State.lostKind, hl]
  simp only [State.sampleInstant, hk, hd.load, hload]
  simp [State.engineInstant, hd.state, hst, hd.runReq, hrun]

/-! Damping (06 R184). -/

theorem State.islandRequest_of_not_writing {a : Fin 4} {s : State} (h : (s.act a).wp.writing = false) :
    WritePathOnly a s (s.islandRequest a) := State.wpCause_of_not_writing h 0 _

/-- The velocity loop's frame is on the link in mode 2, and the engine stays. -/
theorem State.velocityFrame_act (a : Fin 4) (s : State) :
    ((s.velocityFrame a).act a).vcm.mode = 2
      ∧ ((s.velocityFrame a).act a).sve = (s.act a).sve := by
  constructor <;> simp [State.velocityFrame, State.vcmSend]

theorem State.velocityFrame_act_ne {a b : Fin 4} (h : b ≠ a) (s : State) :
    (s.velocityFrame a).act b = s.act b :=
  (State.act_onAct_ne _ _ h).trans (State.act_onAct_ne _ _ h)

@[simp] theorem State.velocityFrame_spn (a : Fin 4) (s : State) : (s.velocityFrame a).spn = s.spn := rfl
@[simp] theorem State.velocityFrame_fab (a : Fin 4) (s : State) : (s.velocityFrame a).fab = s.fab := rfl
@[simp] theorem State.makeSafe_spn (a : Fin 4) (s : State) : (s.makeSafe a).spn = s.spn := rfl
@[simp] theorem State.makeSafe_fab (a : Fin 4) (s : State) : (s.makeSafe a).fab = s.fab := rfl

/-- Settles O23: each command is one update of the engine or its generator; a sample instant starts the engine, and
the end of damping hands the arm to the velocity loop. -/
theorem engineIsStartedStoppedAndUpdated : Obligations.EngineIsStartedStoppedAndUpdated := by
  refine ⟨?_, ?_, ?_, ?_, ?_, ?_, ?_, ?_, ?_, ?_, ?_, ?_⟩
  · rintro a s ⟨hp, hst⟩
    refine ⟨_, rfl, ?_⟩
    rcases hst with h | h <;> simp [hp, h]
  · rintro a x s ⟨hp, hdom, hdue, hst, hrun, -, hload, hn⟩
    have hd := State.deliver_delivered (x := x) hn
    refine ⟨_, rfl, ?_⟩
    simp only [hp, hdom, hdue, Bool.and_self, if_true, State.sampleInstant_starts hst hrun hload hn]
    obtain ⟨h1, h2, h3, h4, h5, h6⟩ := State.startPeriod_spec (a := a)
      (rcd := ((s.deliver a x).act a).svd.record) (n := 0)
      (s := (s.deliver a x).onSve a fun v => { v with
        state := .running, holdRun := 0, lostNext := false }) (by simp)
    refine ⟨h2, ?_, h4, h5, ?_, ?_, h1.trans hd.spn⟩
    · rw [h3, State.act_onSve_same, ← hd.entry]
    · rw [h6, State.act_onSve_same]; exact hd.head
    · rw [h6, State.act_onSve_same]; exact hd.current
  · rintro a s ⟨hst, hl⟩
    refine ⟨_, rfl, ?_⟩
    simp [hst, hl]
  · rintro a s hl
    refine ⟨_, rfl, ?_⟩
    simp [hl, State.sveFlag]
  · exact fun a e s => ⟨_, rfl, rfl⟩
  · rintro a n v s ⟨hst, hf⟩
    refine ⟨_, rfl, ?_⟩
    have hst' : (s.act a).sve.state = .stopped ∨ (s.act a).sve.state = .halted := hst
    simp only [hst', Bool.decide_or, Bool.or_eq_true, decide_eq_true_eq, if_true, State.act_onSve_same]
    exact ⟨Sve.reg_setReg hf n v, State.onSve_congr (Sve.setReg_eq _ _ _)⟩
  · rintro a n v s hst
    refine ⟨_, rfl, ?_⟩
    rcases hst with h | h <;> simp [h, State.sveFlag]
  · rintro a n s hu
    refine ⟨_, rfl, ?_⟩
    simp [hu, State.sveFlag]
  · rintro a n s ⟨hu, h1, h2, hst⟩
    refine ⟨_, rfl, ?_⟩
    have hn : ¬ (n.toNat = 0 ∨ 32 < n.toNat) := by omega
    simp [hu, hn, hst, State.onSve_onSve]
  · rintro a v pr s ⟨hl, hpend, hops⟩
    refine ⟨_, rfl, ?_⟩
    simp only [hl, hpend, State.wpMoved, State.act_onSvp_same, hops, Bool.not_true, Bool.false_eq_true,
      if_false, List.isEmpty_nil, if_true, ite_self]
    exact ⟨trivial, trivial, .onAct a _ s, rfl⟩
  · rintro a v pr s hl
    refine ⟨_, rfl, ?_⟩
    simp [hl]
  · rintro a s ⟨hd, hw, ht⟩
    refine ⟨_, rfl, ?_⟩
    simp only [hd, ht, decide_true, Bool.and_self, if_true]
    obtain ⟨hd1, hact, -⟩ := State.islandRequest_of_not_writing (a := a)
      (s := s.onSve a fun v => { v with damping := false }) (by simpa using hw)
    have hframe := (ActuatorOnly.onAct a _ s).trans hd1
    refine ⟨?_, ?_, fun b hb => ?_, ?_, fun x => ?_⟩
    · have hsve := congrArg Act.sve hact
      rw [(State.velocityFrame_act a _).2, State.makeSafe, State.pscQueue, State.act_onPsc_same]
      exact (congrArg Sve.damping hsve).trans (by rw [State.act_onSve_same])
    · exact (State.velocityFrame_act a _).1
    · rw [State.velocityFrame_act_ne hb]
      exact (State.act_onAct_ne _ _ hb).trans (hframe.2 b hb)
    · rw [State.velocityFrame_spn, State.makeSafe_spn, hframe.spn]
    · rw [State.velocityFrame_fab, State.makeSafe_fab, hframe.mem]

end Sys2Proof.Machine

/-! SUPPORT. Injection, correlation and the Chalkboard (06 R189 to R193, R198, R199). -/

namespace Sys2Proof.Machine

open Sys2Proof

set_option Elab.async false

/-- The engine's request while no sector is being written: only the write path of its actuator changes. -/
theorem State.engineRequest_of_not_writing {a : Fin 4} {s : State} (h : (s.act a).wp.writing = false) :
    WritePathOnly a s (s.engineRequest a) := State.wpCause_of_not_writing h 3 _

/-- Settles O24: each command is an update of the generator, the correlator or the Chalkboard of its actuator. -/
theorem injectionCorrelationAndChalkboard : Obligations.InjectionCorrelationAndChalkboard := by
  refine ⟨?_, ?_, ?_, ?_, ?_, ?_, ?_, ?_, ?_⟩
  · rintro a v s ⟨hl, ht, ho, hw⟩
    refine ⟨_, rfl, ?_⟩
    have hl' : ∀ f, (s.onSvi a f).loaded a = true := fun f => by
      simpa [State.loaded] using hl
    simp only [hl', ht, Nat.not_lt.2 ho, Bool.not_true, decide_false, Bool.or_self, Bool.false_eq_true,
      if_false]
    obtain ⟨hf, hact, -⟩ := State.engineRequest_of_not_writing (a := a)
      (s := (s.onSvi a fun i => { i with
        point := BitVec.ofNat 2 (fld v.toNat 28 2), type := BitVec.ofNat 2 (fld v.toNat 26 2)
        tones := BitVec.ofNat 2 (fld v.toNat 24 2), wrOk := bitOf v.toNat 23
        order := BitVec.ofNat 4 (fld v.toNat 12 4), hold := BitVec.ofNat 12 (fld v.toNat 0 12) }).onSvi a
          fun i => { i with run := true, stop := bitOf v.toNat 30 }) (by simpa using hw)
    have hsvi := congrArg Act.svi hact
    refine ⟨?_, ?_, ?_, ((ActuatorOnly.onAct a _ s).trans (.onAct a _ _)).trans hf⟩ <;>
      rw [hsvi] <;> simp
  · rintro a v s hl
    refine ⟨_, rfl, ?_⟩
    have hl' : ∀ f, (s.onSvi a f).loaded a = false := fun f => by
      simpa [State.loaded] using hl
    simp only [hl', Bool.not_false, Bool.true_or, if_true, State.sveFlag]
    exact ⟨by simp, by simp,
      (ActuatorOnly.onAct a _ s).trans (.onAct a _ _), rfl⟩
  · rintro a s hr
    refine ⟨_, rfl, ?_⟩
    simp [hr]
  · rintro a s ⟨hst, hlen, hk, hc, hw⟩
    refine ⟨_, rfl, ?_⟩
    simp only [hst, hlen, hk, ne_eq, not_false_eq_true, decide_true, Bool.and_self, if_true,
      State.injectEnd]
    obtain ⟨hf, hact, -⟩ := State.engineRequest_of_not_writing (a := a)
      (s := s.onSvi a fun i => { i with
        run := false, stop := false, started := false, live := false, s := 0 }) (by simpa using hw)
    have hsvi := congrArg Act.svi hact
    have hsvc : (((s.onSvi a fun i => { i with
        run := false, stop := false, started := false, live := false, s := 0 }).engineRequest a).act
          a).svc.run = false := by rw [congrArg Act.svc hact]; simpa using hc
    simp only [hsvc, Bool.false_eq_true, if_false]
    refine ⟨?_, ?_, ?_, (ActuatorOnly.onAct a _ s).trans hf⟩ <;> rw [hsvi] <;> simp
  · rintro a v s ⟨hr, ht⟩
    refine ⟨_, rfl, ?_⟩
    simp only [State.act_onSvc_same, hr, ht, decide_true, Bool.and_self, if_true]
    exact ⟨trivial, trivial, trivial, trivial, (ActuatorOnly.onAct a _ s).trans (.onAct a _ _), rfl⟩
  · rintro a s ⟨hp, hr, ht⟩
    refine ⟨_, rfl, ?_⟩
    simp only [hr, ht, decide_true, Bool.and_self, if_true, State.correlationEnd]
    rw [State.actEvent_of_present (by exact hp)]
    exact ⟨by simp, rfl, ((ActuatorOnly.onAct a _ s).trans (.onAct a _ _)).trans (.send a _ _)⟩
  · rintro a v s harm
    refine ⟨_, rfl, ?_⟩
    simp only [State.act_onSvb_same, harm, Bool.false_eq_true, if_false]
    exact ⟨trivial, trivial, trivial, trivial, trivial, (ActuatorOnly.onAct a _ s).trans (.onAct a _ _),
      rfl⟩
  · rintro a s harm
    refine ⟨_, rfl, ?_⟩
    simp [harm]
  · rintro a s ⟨hp, hst, haft⟩
    refine ⟨_, rfl, ?_⟩
    simp only [hst, haft, decide_true, Bool.and_self, if_true]
    rw [State.actEvent_of_present (by exact hp)]
    exact ⟨by simp, by simp, by simp, rfl, (ActuatorOnly.onAct a _ s).trans (.send a _ _)⟩

end Sys2Proof.Machine

/-! SUPPORT. Command frames of the PSC link and what the preamplifier does with them (09 R285 to R287). -/

namespace Sys2Proof.Machine

open Sys2Proof

set_option Elab.async false

/-- A frame the link may carry, in its turn, goes out and the preamplifier takes it (09 R285 to R287). -/
theorem State.pscSend_sent {a : Fin 4} {code : BitVec 6} {data held : BitVec 16} {s : State}
    (hmay : s.pscMay a code = true) (hturn : s.pscTurn a (s.pscFrame a code data) = true) :
    PscSent a code data { preampApply code data held (s.act a).pre with heard := s.now } s
      (s.pscSend a code data held) := by
  simp only [State.pscSend, hmay, hturn, Bool.and_self, if_true, State.pscEmit, State.preampTakes]
  exact ⟨by simp [State.now], by simp, by simp, (ActuatorOnly.onAct a _ s).trans (.onAct a _ _), rfl⟩

theorem PscSent.of_eq {a : Fin 4} {code : BitVec 6} {data : BitVec 16} {p q : Preamp} {s t : State}
    (h : PscSent a code data p s t) (hpq : p = q) : PscSent a code data q s t := hpq ▸ h

theorem State.pscMay_of_up {a : Fin 4} {s : State} (h : (s.act a).psc.linkUp = true) (code : BitVec 6) :
    s.pscMay a code = true := by simp [State.pscMay, h]

/-- A field put into a frame's 16 bits is taken out of them again. -/
theorem ofNat_toNat_setWidth {w : Nat} (hw : w ≤ 16) (v : BitVec w) :
    BitVec.ofNat w (v.setWidth 16).toNat = v := by
  have hlt : v.toNat < 2 ^ 16 := Nat.lt_of_lt_of_le v.isLt (Nat.pow_le_pow_right (by decide) hw)
  simp only [BitVec.toNat_setWidth, Nat.mod_eq_of_lt hlt, BitVec.ofNat_toNat, BitVec.setWidth_eq]

/-- A frame of WGATE opens the write gate in write-ready mode alone (09 R286). -/
theorem preampApply_wgate (g : Bool) (p : Preamp) :
    preampApply 3 (if g then 1 else 0) 0 p
      = if g && decide (p.mode ≠ 3) then p else { p with wgate := g } := by
  cases g <;> rfl

/-- Settles O30: every row is one frame sent, and the preamplifier's rule for its code. -/
theorem preampFramesSetThePreamp : Obligations.PreampFramesSetThePreamp := by
  have hsend : ∀ {a : Fin 4} {code : BitVec 6} {data held : BitVec 16} {s : State},
      (s.act a).psc.linkUp = true ∧ s.pscTurn a (s.pscFrame a code data) = true →
      PscSent a code data { preampApply code data held (s.act a).pre with heard := s.now } s
        (s.pscSend a code data held) := fun h => State.pscSend_sent (State.pscMay_of_up h.1 _) h.2
  refine ⟨?_, ?_, ?_, ?_, ?_, ?_, ?_, ?_, ?_, ?_, ?_, ?_, ?_, ?_, ?_, ?_⟩
  · exact fun a s h => ⟨_, rfl, hsend h⟩
  · exact fun a v s h => ⟨_, rfl, (hsend h).of_eq
      (by simp [preampApply, ofNat_toNat_setWidth (by omega) v, -BitVec.toNat_setWidth])⟩
  · exact fun a v s h => ⟨_, rfl, (hsend h).of_eq
      (by simp [preampApply, ofNat_toNat_setWidth (by omega) v, -BitVec.toNat_setWidth])⟩
  · refine fun a g s h => ⟨_, rfl, (hsend h).of_eq ?_⟩
    rw [preampApply_wgate]
    split <;> rfl
  · exact fun a rb ra s h => ⟨_, rfl, hsend h⟩
  · exact fun a o c s h => ⟨_, rfl, hsend h⟩
  · exact fun a v s h => ⟨_, rfl, (hsend h).of_eq
      (by simp [preampApply, ofNat_toNat_setWidth (by omega) v, -BitVec.toNat_setWidth])⟩
  · exact fun a v s h => ⟨_, rfl, (hsend h).of_eq
      (by simp [preampApply, ofNat_toNat_setWidth (by omega) v, -BitVec.toNat_setWidth])⟩
  · exact fun a v s h => ⟨_, rfl, (hsend h).of_eq
      (by simp [preampApply, ofNat_toNat_setWidth (by omega) v, -BitVec.toNat_setWidth])⟩
  · exact fun a v s h => ⟨_, rfl, (hsend h).of_eq
      (by simp [preampApply, ofNat_toNat_setWidth (by omega) v, -BitVec.toNat_setWidth])⟩
  · exact fun a v s h => ⟨_, rfl, (hsend h).of_eq
      (by simp [preampApply, ofNat_toNat_setWidth (by omega) v, -BitVec.toNat_setWidth])⟩
  · exact fun a n s h => ⟨_, rfl, hsend h⟩
  · exact fun a b h s hs => ⟨_, rfl, hsend hs⟩
  · rintro a s ⟨hup, hturn⟩
    exact ⟨_, rfl, State.pscSend_sent (by rcases hup with h | h <;> simp [State.pscMay, h]) hturn⟩
  · rintro a b s ⟨hup, hturn⟩
    exact ⟨_, rfl, (State.pscSend_sent (by rcases hup with h | h <;> simp [State.pscMay, h]) hturn).of_eq
      (by simp [preampApply, ofNat_toNat_setWidth (by omega) b, -BitVec.toNat_setWidth])⟩
  · rintro a h s hl
    refine ⟨_, rfl, ?_⟩
    simp [State.pscSend, State.pscMay, hl]

end Sys2Proof.Machine

/-! SUPPORT. What the operations of spindle control leave, what they send, and what entering a state does (04 R98,
R106, R122). -/

namespace Sys2Proof.Machine

open Sys2Proof

set_option Elab.async false

/-! Messages only grow. -/

/-- Between two states messages were sent, and none was taken. -/
def Grows (s t : State) : Prop := ∃ l, t.fab.msgs = s.fab.msgs ++ l

theorem Grows.of_eq {s t : State} (h : t.fab.msgs = s.fab.msgs) : Grows s t := ⟨[], by simp [h]⟩

theorem Grows.refl (s : State) : Grows s s := .of_eq rfl

theorem Grows.trans {s t u : State} (h : Grows s t) (k : Grows t u) : Grows s u := by
  obtain ⟨l, hl⟩ := h
  obtain ⟨m, hm⟩ := k
  exact ⟨l ++ m, by rw [hm, hl, List.append_assoc]⟩

theorem Grows.send (m : Msg) (s : State) : Grows s (s.send m) := ⟨[m], rfl⟩

theorem Grows.ite {s t u : State} {c : Prop} [Decidable c] (h : Grows s t) (k : Grows s u) :
    Grows s (if c then t else u) := by
  split
  · exact h
  · exact k

theorem Sent.send (m : Msg) (s : State) : Sent m s (s.send m) := by
  simp [Sent, State.send]

/-- What was sent stays sent. -/
theorem Sent.grows {m : Msg} {s t u : State} (h : Sent m s t) (k : Grows t u) : Sent m s u := by
  obtain ⟨l, hl⟩ := k
  unfold Sent at *
  rw [hl]
  rw [List.drop_append]
  exact List.mem_append_left _ h

/-- What is sent after other messages is sent. -/
theorem Sent.after {m : Msg} {s t u : State} (h : Grows s t) (k : Sent m t u) : Sent m s u := by
  obtain ⟨l, hl⟩ := h
  unfold Sent at *
  rw [hl, List.length_append, ← List.drop_drop] at k
  exact List.mem_of_mem_drop k

/-! Steps of spindle control: spindle control changes, and messages are sent. -/

/-- Only spindle control changed, and messages were sent. -/
def SpindleStep (s t : State) : Prop := SpindleOnly s t ∧ Grows s t

theorem SpindleStep.refl (s : State) : SpindleStep s s := ⟨rfl, .refl s⟩

theorem SpindleStep.trans {s t u : State} (h : SpindleStep s t) (k : SpindleStep t u) :
    SpindleStep s u := by
  refine ⟨?_, h.2.trans k.2⟩
  have h1 := h.1
  have k1 := k.1
  unfold SpindleOnly at *
  rw [k1, h1]

theorem SpindleStep.onSpn (f : Spn → Spn) (s : State) : SpindleStep s (s.onSpn f) :=
  ⟨rfl, .of_eq rfl⟩

theorem SpindleStep.send (m : Msg) (s : State) : SpindleStep s (s.send m) := ⟨rfl, .send m s⟩

theorem SpindleStep.event (src : Endpoint) (num qual : Nat) (s : State) :
    SpindleStep s (s.event src num qual) := .send _ s

theorem SpindleStep.fault (src : Endpoint) (source kind : Nat) (s : State) :
    SpindleStep s (s.fault src source kind) := .send _ s

theorem SpindleStep.ite {s t u : State} {c : Prop} [Decidable c] (h : SpindleStep s t)
    (k : SpindleStep s u) : SpindleStep s (if c then t else u) := by
  split
  · exact h
  · exact k

theorem SpindleStep.doIf {s : State} {f : State → State} (c : Bool) (h : SpindleStep s (f s)) :
    SpindleStep s (s.doIf c f) := .ite h (.refl s)

theorem SpindleStep.acts {s t : State} (h : SpindleStep s t) : t.acts = s.acts := by rw [h.1]
theorem SpindleStep.dict {s t : State} (h : SpindleStep s t) : t.dict = s.dict := by rw [h.1]
theorem SpindleStep.sys {s t : State} (h : SpindleStep s t) : t.sys = s.sys := by rw [h.1]
theorem SpindleStep.chipTime {s t : State} (h : SpindleStep s t) : t.fab.chipTime = s.fab.chipTime := by
  rw [h.1]
theorem SpindleStep.mem {s t : State} (h : SpindleStep s t) : MemorySame s t :=
  .of_mem (by rw [h.1])

theorem SpindleStep.sendNotice (n : NoticeForce) (s : State) : SpindleStep s (s.sendNotice n) :=
  .trans (.onSpn _ s) (foldS_keeps (SpindleStep _) _ (fun _ _ h => h.trans (.send _ _)) _ (.refl _))

theorem SpindleStep.holdWrites (s : State) : SpindleStep s s.holdWrites :=
  .trans (.sendNotice _ s) (.ite (.refl _) (.trans (.onSpn _ _) (.event _ _ _ _)))

theorem SpindleStep.announce (target : BitVec 17) (rate : Nat) (s : State) :
    SpindleStep s (s.announce target rate) := .ite (.refl s) (.sendNotice _ s)

theorem SpindleStep.startRamp (notify : Bool) (s : State) : SpindleStep s (s.startRamp notify) :=
  .trans (.onSpn _ s) (.doIf notify (.announce _ _ _))

theorem SpindleStep.driveGates (want : BitVec 6) (s : State) : SpindleStep s (s.driveGates want) :=
  .onSpn _ s

/-! What a notice leaves of spindle control. -/

theorem State.sendNotice_spn (n : NoticeForce) (s : State) :
    (s.sendNotice n).spn = { s.spn with notice := n, relCount := 0 } := by
  simp only [State.sendNotice]
  rw [foldS_same State.spn]
  · rfl
  · exact fun _ _ => rfl

/-- The notice of a target and rate, 200 us ahead (04 R122). -/
def State.noticeAhead (s : State) (target : BitVec 17) (rate : Nat) : NoticeForce :=
  { target := target, rate := BitVec.ofNat 16 rate, start := s.now16 + 16 * 200 * usTicks }

theorem State.announce_eq (target : BitVec 17) (rate : Nat) (s : State) :
    s.announce target rate = if s.notAssured then s else s.sendNotice (s.noticeAhead target rate) := rfl

theorem State.announce_spn (target : BitVec 17) (rate : Nat) (s : State) :
    (s.announce target rate).spn = if s.notAssured then s.spn else { s.spn with
      notice := s.noticeAhead target rate, relCount := 0 } := by
  rw [State.announce_eq]
  split
  · rfl
  · rw [State.sendNotice_spn]

/-- Writes are held: the notice in force is 0xFFFF, and nothing else of spindle control changes. -/
theorem State.holdWrites_spn (s : State) : ∃ n, s.holdWrites.spn =
    { s.spn with notice := n, relCount := 0, wrHold := true } ∧ n.rate = 0xFFFF := by
  refine ⟨{ target := s.spn.target, rate := 0xFFFF, start := s.now16 }, ?_, rfl⟩
  unfold State.holdWrites
  simp only [State.sendNotice_spn]
  split
  · next h => rw [State.sendNotice_spn, ← h]
  · simp only [State.event_eq, State.onSpn_spn, State.sendNotice_spn]

/-! Gates (04 R98). -/

/-- Driving gates touches the gates, what is wanted of them and their dead times alone. -/
theorem State.driveGates_spn (want : BitVec 6) (s : State) : ∃ g side off, (s.driveGates want).spn =
    { s.spn with gatesWant := want, gates := g, lastSide := side, offAt := off } := ⟨_, _, _, rfl⟩

theorem Spn.drivePhase_off (now : BitVec 64) (dead i : Nat) (p : Spn) (h : p.gatesWant = 0) :
    (p.drivePhase now dead i).gates = setBit (setBit p.gates (5 - 2 * i) false) (4 - 2 * i) false
      ∧ (p.drivePhase now dead i).gatesWant = 0 := by
  simp [Spn.drivePhase, h]

/-- Open gates open at once. -/
theorem State.driveGates_zero (s : State) : (s.driveGates 0).spn.gates = 0 := by
  have h0 := Spn.drivePhase_off s.now s.p2010Deadtime 0 { s.spn with gatesWant := 0 } rfl
  have h1 := Spn.drivePhase_off s.now s.p2010Deadtime 1 _ h0.2
  have h2 := Spn.drivePhase_off s.now s.p2010Deadtime 2 _ h1.2
  show (([0, 1, 2] : List Nat).foldl (fun (q : Spn) i => q.drivePhase s.now s.p2010Deadtime i)
    { s.spn with gatesWant := 0 }).gates = 0
  simp only [List.foldl_cons, List.foldl_nil]
  rw [h2.1, h1.1, h0.1]
  generalize s.spn.gates = g
  revert g
  decide

/-! Entering a state (04 R106). -/

/-- Spindle control as it enters a state, before its gates are driven. -/
def Spn.entered (st : SpnState) (now : BitVec 64) (p : Spn) : Spn :=
  let run := decide (st = .run)
  { p with
    state := st
    refSrc := if run then p.refSrc else 0xE
    runReq := p.runReq && !run
    stopReq := p.stopReq && decide (st ≠ .off)
    zeroVector := p.zeroVector && decide (st = .brake)
    locked := p.locked && run, slewing := p.slewing && run, rampDue := p.rampDue && run
    sector := if st.commutates then p.sector else 0
    turns := 0, enteredAt := now, eventAt := now }

/-- The states whose entry takes no parameters and no free value. -/
def SpnState.plain (st : SpnState) : Bool :=
  decide (st ≠ .off) && decide (st ≠ .lowHold) && decide (st ≠ .syncRect)

theorem State.spnEnter_eq {st : SpnState} (h : st.plain = true) (s : State) :
    s.spnEnter st = (let t := (s.onSpn (Spn.entered st s.now)).driveGates (s.stateGates st)
      if s.spn.state = st then t else t.event epSpindle 128 (s.spn.state.code * 256 + st.code)) := by
  simp only [SpnState.plain, Bool.and_eq_true, decide_eq_true_eq] at h
  obtain ⟨⟨h1, h2⟩, h3⟩ := h
  have hoff : ((s.onSpn (Spn.entered st s.now)).driveGates (s.stateGates st)).spnIsOff = false := by
    obtain ⟨g, side, off, hd⟩ := State.driveGates_spn (s.stateGates st) (s.onSpn (Spn.entered st s.now))
    simp [State.spnIsOff, hd, Spn.entered, h1, h2]
  have hfree : s.doIf (decide (st = .syncRect)) State.takeFree = s := by simp [State.doIf, h3]
  unfold State.spnEnter
  rw [hfree]
  show (let t := (s.onSpn (Spn.entered st s.now)).driveGates (s.stateGates st)
    let u := State.doIf t.spnIsOff State.takeParams t
    if s.spn.state = st then u else u.event epSpindle 128 (s.spn.state.code * 256 + st.code)) = _
  simp only [hoff, State.doIf, Bool.false_eq_true, if_false]

theorem SpindleStep.spnEnter {st : SpnState} (h : st.plain = true) (s : State) :
    SpindleStep s (s.spnEnter st) := by
  rw [State.spnEnter_eq h]
  exact .ite (.trans (.onSpn _ s) (.driveGates _ _))
    (.trans (.trans (.onSpn _ s) (.driveGates _ _)) (.event _ _ _ _))

theorem State.spnEnter_spn {st : SpnState} (h : st.plain = true) (s : State) :
    (s.spnEnter st).spn = ((s.onSpn (Spn.entered st s.now)).driveGates (s.stateGates st)).spn := by
  rw [State.spnEnter_eq h]
  simp only
  split <;> rfl

/-- What entering a state leaves spindle control as: its registers, and the gates commanded. -/
theorem State.spnEnter_fields {st : SpnState} (h : st.plain = true) (s : State) : ∃ g side off,
    (s.spnEnter st).spn = { Spn.entered st s.now s.spn with
      gatesWant := s.stateGates st, gates := g, lastSide := side, offAt := off } := by
  rw [State.spnEnter_spn h]
  exact State.driveGates_spn _ _

/-- A state of open gates has them open. -/
theorem State.spnEnter_gates {st : SpnState} (h : st.plain = true) {s : State}
    (hg : s.stateGates st = 0) : (s.spnEnter st).spn.gates = 0 := by
  rw [State.spnEnter_spn h, hg]
  exact State.driveGates_zero _

end Sys2Proof.Machine

/-! SUPPORT. Writes of SPN_TARGET, of SPN_CTL.DTC and of the parameter words (04 R104, R107, R128, R129). -/

namespace Sys2Proof.Machine

open Sys2Proof

set_option Elab.async false

theorem State.spnIsOff_of {s : State} (h : s.spn.state = .off ∨ s.spn.state = .lowHold) :
    s.spnIsOff = true := by
  rcases h with h | h <;> simp [State.spnIsOff, h]

theorem State.spnIsOff_of_not {s : State} (h1 : s.spn.state ≠ .off) (h2 : s.spn.state ≠ .lowHold) :
    s.spnIsOff = false := by simp [State.spnIsOff, h1, h2]

/-- Spindle control once a target is written with CRUISE clear, before it is announced (04 R107). -/
def Spn.targeted (v : BitVec 32) (now : BitVec 64) (p : Spn) : Spn :=
  { p with
    target := BitVec.ofNat 17 (fld v.toNat 0 17), cruise := false
    targetAt := if p.target = BitVec.ofNat 17 (fld v.toNat 0 17) then p.targetAt else now
    storedTarget := if p.state.stores then some (BitVec.ofNat 17 (fld v.toNat 0 17)) else none
    targetGiven := false }

/-- A target in range with CRUISE clear is taken, and announced by what the state gives (04 R107, R122). -/
theorem State.writeTarget_of_legal {v : BitVec 32} {s : State} (hc : v.getLsbD 31 = false)
    (hlo : 16 * 3600 ≤ fld v.toNat 0 17) (hhi : fld v.toNat 0 17 ≤ 16 * 7500) :
    s.writeTarget v = (let t := s.onSpn (Spn.targeted v s.now)
      if s.spn.state = .run then (if s.spn.stopReq then t else t.startRamp true)
      else if s.spn.state.stores || decide (s.spn.target = BitVec.ofNat 17 (fld v.toNat 0 17)) then t
      else t.announce (BitVec.ofNat 17 (fld v.toNat 0 17)) t.rampRate) := by
  simp only [State.writeTarget, hc, Bool.false_and, Bool.false_eq_true, Nat.not_lt.2 hlo, Nat.not_lt.2 hhi,
    or_self, if_false]
  rfl

theorem State.writeTarget_of_illegal {v : BitVec 32} {s : State}
    (h : fld v.toNat 0 17 < 16 * 3600 ∨ 16 * 7500 < fld v.toNat 0 17) :
    s.writeTarget v = s.spnFlag 8 := by
  rw [State.writeTarget]
  refine if_pos ?_
  rcases h with h | h <;> simp [h]

/-- A ramp that is announced while the speed is assured: its notice names the target, 200 us ahead (04 R122). -/
theorem State.startRamp_notice {s : State} (h : s.spn.notice.rate ≠ 0xFFFF) :
    (s.startRamp true).spn.notice.target = s.spn.target
      ∧ (s.startRamp true).spn.notice.start = s.now16 + 16 * 200 * usTicks := by
  simp only [State.startRamp, State.doIf, if_true, State.announce_spn]
  rw [if_neg (by simp only [State.notAssured, decide_eq_true_eq]; exact h)]
  exact ⟨rfl, rfl⟩

/-- An announcement changes the notice alone. -/
theorem State.announce_keeps (target : BitVec 17) (rate : Nat) (s : State) :
    (s.announce target rate).spn.target = s.spn.target ∧ (s.announce target rate).spn.cruise = s.spn.cruise
      ∧ (s.announce target rate).spn.state = s.spn.state := by
  rw [State.announce_spn]
  split <;> exact ⟨rfl, rfl, rfl⟩

/-- Starting a ramp keeps the target and the state. -/
theorem State.startRamp_keeps (notify : Bool) (s : State) :
    (s.startRamp notify).spn.target = s.spn.target ∧ (s.startRamp notify).spn.cruise = s.spn.cruise
      ∧ (s.startRamp notify).spn.state = s.spn.state := by
  unfold State.startRamp State.doIf
  simp only
  split
  · exact State.announce_keeps _ _ _
  · exact ⟨rfl, rfl, rfl⟩

/-- Settles O14: a target is judged and announced by the state, and a word is stored, waits or conflicts. -/
theorem spindleTargetDtcAndParameterWrites : Obligations.SpindleTargetDtcAndParameterWrites := by
  refine ⟨?_, ?_, ?_, ?_, ?_, ?_, ?_⟩
  · rintro v s ⟨hc, hlo, hhi⟩
    refine ⟨_, rfl, ?_⟩
    rw [State.writeTarget_of_legal hc hlo hhi]
    have ht : SpindleStep s (s.onSpn (Spn.targeted v s.now)) := .onSpn _ s
    simp only
    split
    · next hrun =>
      split
      · next hs => exact ⟨rfl, rfl, rfl, fun _ h => absurd (hs.symm.trans h) (by decide), ht.1⟩
      · next hs =>
        obtain ⟨h1, h2, h3⟩ := State.startRamp_keeps true (s.onSpn (Spn.targeted v s.now))
        refine ⟨h1, h2, h3, fun _ _ hn => ?_, (ht.trans (.startRamp _ _)).1⟩
        obtain ⟨n1, n2⟩ := State.startRamp_notice (s := s.onSpn (Spn.targeted v s.now)) hn
        exact ⟨n1.trans h1.symm, n2⟩
    · next hrun =>
      split
      · exact ⟨rfl, rfl, rfl, fun h => absurd h hrun, ht.1⟩
      · obtain ⟨h1, h2, h3⟩ := State.announce_keeps (BitVec.ofNat 17 (fld v.toNat 0 17))
          (s.onSpn (Spn.targeted v s.now)).rampRate (s.onSpn (Spn.targeted v s.now))
        exact ⟨h1, h2, h3, fun h => absurd h hrun, (ht.trans (.announce _ _ _)).1⟩
  · exact fun v s h => ⟨_, rfl, State.writeTarget_of_illegal h⟩
  · rintro dtc s ⟨hd, hst⟩
    refine ⟨_, rfl, ?_⟩
    simp [hd, State.spnIsOff_of hst]
  · rintro dtc s ⟨hd, h1, h2⟩
    refine ⟨_, rfl, ?_⟩
    simp [hd, State.spnIsOff_of_not h1 h2, State.spnFlag]
  · rintro sub v s ⟨hz, hst⟩
    refine ⟨_, rfl, ?_⟩
    simp only [hz, if_false, State.spnIsOff_of hst, if_true]
    rfl
  · rintro sub v s ⟨hz, hst, hb⟩
    have hoff : s.spnIsOff = false := State.spnIsOff_of_not (by simp [hst]) (by simp [hst])
    refine ⟨_, rfl, ?_⟩
    simp only [hz, if_false, hoff, Bool.false_eq_true, List.contains_iff_mem.2 hb, if_true]
    rfl
  · rintro sub v s ⟨hz, hst, hb⟩
    have hoff : s.spnIsOff = false := State.spnIsOff_of_not (by simp [hst]) (by simp [hst])
    refine ⟨_, rfl, ?_⟩
    simp only [hz, if_false, hoff, Bool.false_eq_true, List.contains_iff_mem, hb]
    exact ⟨Tab.get?_set_same _ _ _, rfl, rfl⟩

end Sys2Proof.Machine

/-! SUPPORT. Start, alignment, catch, handover and stop of the spindle (04 R106 to R113). -/

namespace Sys2Proof.Machine

open Sys2Proof

set_option Elab.async false

/-- An announcement changes the notice and its release count alone. -/
theorem State.announce_fields (target : BitVec 17) (rate : Nat) (s : State) : ∃ n k,
    (s.announce target rate).spn = { s.spn with notice := n, relCount := k } := by
  by_cases h : s.notAssured
  · exact ⟨s.spn.notice, s.spn.relCount, by rw [State.announce, if_pos h]⟩
  · exact ⟨s.noticeAhead target rate, 0, by rw [State.announce_spn, if_neg h]⟩

/-- An announcement leaves a stop request and the ramp's rate. -/
theorem State.announce_stop (target : BitVec 17) (rate : Nat) (s : State) :
    (s.announce target rate).spn.stopReq = s.spn.stopReq
      ∧ (s.announce target rate).spn.rampRate = s.spn.rampRate := by
  obtain ⟨n, k, hn⟩ := State.announce_fields target rate s
  rw [hn]
  exact ⟨rfl, rfl⟩

theorem SpindleStep.spnStart (s : State) : SpindleStep s s.spnStart := by
  unfold State.spnStart
  exact .trans (.trans (.spnEnter rfl s) (.onSpn _ _)) (.doIf _ (.announce _ _ _))

/-- A start begins in REST_CHECK with every gate open and no attempt made (04 R108). -/
theorem State.spnStart_spec (s : State) :
    s.spnStart.spn.state = .restCheck ∧ s.spnStart.spn.runReq = true ∧ s.spnStart.spn.gates = 0
      ∧ s.spnStart.spn.attempt = 0 ∧ s.spnStart.spn.wrHold = s.spn.wrHold := by
  obtain ⟨g, side, off, hsp⟩ := State.spnEnter_fields (st := .restCheck) rfl s
  have hg : (s.spnEnter .restCheck).spn.gates = 0 := State.spnEnter_gates rfl rfl
  unfold State.spnStart State.doIf
  simp only
  split
  · obtain ⟨n, k, hn⟩ := State.announce_fields (BitVec.ofNat 17 (16 * s.p2010RatedRpm)) (State.rampRate _) _
    rw [hn]
    refine ⟨?_, rfl, hg, rfl, ?_⟩ <;> simp [hsp, Spn.entered]
  · refine ⟨?_, rfl, hg, rfl, ?_⟩ <;> simp [hsp, Spn.entered]

/-- ALIGN begins: its gates, event 129 with the attempt, and the counter of OD 0x2000.05 (04 R108, R111). -/
theorem State.spnAlign_spec (s : State) :
    s.spnAlign.spn.state = .align ∧ s.spnAlign.spn.gatesWant = 0b100100
      ∧ s.spnAlign.spn.waiting500 = false ∧ Sent (eventMsg epSpindle 129 s.spn.attempt) s s.spnAlign
      ∧ s.spnAlign.acts = s.acts ∧ MemorySame s s.spnAlign := by
  obtain ⟨g, side, off, hsp⟩ := State.spnEnter_fields (st := .align) rfl s
  have he : SpindleStep s (s.spnEnter .align) := .spnEnter rfl s
  refine ⟨?_, ?_, rfl, ?_, he.acts, he.mem⟩
  · exact (congrArg Spn.state hsp).trans rfl
  · exact (congrArg Spn.gatesWant hsp).trans rfl
  · refine Sent.after ?_ (.send _ _)
    exact he.2.trans (.of_eq rfl)

/-- Writes are held as a state is left: the hold, and the registers it leaves. -/
theorem State.spnCatch_spec (s : State) :
    s.spnCatch.spn.state = .catching ∧ s.spnCatch.spn.gates = 0 ∧ s.spnCatch.spn.wrHold = true
      ∧ SpindleStep s s.spnCatch := by
  obtain ⟨g, side, off, hsp⟩ := State.spnEnter_fields (st := .catching) rfl s
  have hg : (s.spnEnter .catching).spn.gates = 0 := State.spnEnter_gates rfl rfl
  obtain ⟨n, hn, -⟩ := State.holdWrites_spn (s.spnEnter .catching)
  refine ⟨?_, ?_, ?_, .trans (.spnEnter rfl s) (.holdWrites _)⟩ <;> rw [State.spnCatch, hn]
  · rw [hsp]; rfl
  · exact hg

theorem SpindleStep.enterRun (ref : Nat) (notify : Bool) (s : State) :
    SpindleStep s (s.enterRun ref notify) :=
  .trans (.trans (.spnEnter rfl s) (.onSpn _ _)) (.startRamp _ _)

/-- RUN is entered at a reference speed (04 R109). -/
theorem State.enterRun_spec (ref : Nat) (notify : Bool) (s : State) :
    (s.enterRun ref notify).spn.state = .run ∧ (s.enterRun ref notify).spn.reference = ref := by
  obtain ⟨g, side, off, hsp⟩ := State.spnEnter_fields (st := .run) rfl s
  unfold State.enterRun State.startRamp State.doIf
  simp only
  split
  · obtain ⟨n, k, hn⟩ := State.announce_fields (State.spn _).target (State.rampRate _) (State.onSpn _ _)
    rw [hn]
    exact ⟨(congrArg Spn.state hsp).trans rfl, rfl⟩
  · exact ⟨(congrArg Spn.state hsp).trans rfl, rfl⟩

@[simp] theorem State.now16_onSpn (f : Spn → Spn) (s : State) : (s.onSpn f).now16 = s.now16 := rfl
@[simp] theorem State.p2010Decel_onSpn (f : Spn → Spn) (s : State) :
    (s.onSpn f).p2010Decel = s.p2010Decel := rfl
@[simp] theorem State.p2010RatedRpm_onSpn (f : Spn → Spn) (s : State) :
    (s.onSpn f).p2010RatedRpm = s.p2010RatedRpm := rfl

theorem State.setElec_zero (s : State) : (State.setElec 0 s).spn.elec = 0 := by
  show 0 % 65536 * _ = 0
  exact Nat.zero_mul _

theorem State.setElec_state (angle : Nat) (s : State) :
    (State.setElec angle s).spn.state = s.spn.state ∧ (State.setElec angle s).spn.wrHold = s.spn.wrHold
      ∧ (State.setElec angle s).p2010RampI = s.p2010RampI := ⟨rfl, rfl, rfl⟩

/-! Entering OFF takes the parameters that wait (04 R129). -/

/-- The objects changed, and nothing else. -/
def DictOnly (s t : State) : Prop := t = { s with dict := t.dict }

theorem DictOnly.refl (s : State) : DictOnly s s := rfl

theorem DictOnly.trans {s t u : State} (h : DictOnly s t) (k : DictOnly t u) : DictOnly s u := by
  unfold DictOnly at *
  rw [k, h]

theorem DictOnly.odSet (key v : Nat) (s : State) : DictOnly s (s.odSet key v) := rfl

/-- Taking the parameters sets their objects and leaves none waiting. -/
theorem State.takeParams_spec (s : State) : ∃ d, s.takeParams =
    { s with dict := d, spn := { s.spn with pendingParams := [] } } := by
  have h : DictOnly s (foldS (fun (e : Nat × Nat) t => t.odSet (0x201000 + e.1) e.2) s.spn.pendingParams s) :=
    foldS_keeps (DictOnly s) _ (fun e t h => h.trans (.odSet (0x201000 + e.1) e.2 t)) _ (.refl s)
  rw [State.takeParams, h]
  exact ⟨_, rfl⟩

/-- With none waiting, taking the parameters touches spindle control alone. -/
theorem SpindleStep.takeParams {s : State} (h : s.spn.pendingParams = []) : SpindleStep s s.takeParams := by
  rw [State.takeParams, h]
  exact .onSpn _ s

/-- Spindle control as it enters OFF, before it takes parameters. -/
def State.offGates (s : State) : State :=
  (s.onSpn (Spn.entered .off s.now)).driveGates (s.stateGates .off)

theorem State.offGates_fields (s : State) : s.offGates.spn.state = .off ∧ s.offGates.spn.gates = 0
    ∧ s.offGates.spn.stopReq = false ∧ s.offGates.spn.pendingParams = s.spn.pendingParams := by
  have h0 : s.stateGates .off = 0 := rfl
  have hg : s.offGates.spn.gates = 0 := by
    rw [State.offGates, h0]
    exact State.driveGates_zero _
  obtain ⟨g, side, off, hd⟩ := State.driveGates_spn (s.stateGates .off) (s.onSpn (Spn.entered .off s.now))
  refine ⟨?_, hg, ?_, ?_⟩ <;> rw [State.offGates, hd] <;> simp [Spn.entered]

theorem State.spnEnter_off {s : State} (h : s.spn.state ≠ .off) :
    s.spnEnter .off = s.offGates.takeParams.event epSpindle 128 (s.spn.state.code * 256 + SpnState.off.code) := by
  have hoff : s.offGates.spnIsOff = true := by simp [State.spnIsOff, s.offGates_fields.1]
  have hfree : s.doIf (decide (SpnState.off = .syncRect)) State.takeFree = s := rfl
  unfold State.spnEnter
  rw [hfree]
  show (let u := State.doIf s.offGates.spnIsOff State.takeParams s.offGates
    if s.spn.state = .off then u else u.event epSpindle 128 (s.spn.state.code * 256 + SpnState.off.code)) = _
  simp only [hoff, State.doIf, h, if_true, if_false]

/-- Nothing of a shutdown goes on where none runs. -/
theorem State.shutStep_none {s : State} (h : s.sys.shutStage = none) : s.shutStep = s := by
  simp [State.shutStep, h]

theorem State.spnStayed_of {s : State} {n : Nat} (h : n ≤ s.since s.spn.enteredAt) :
    s.spnStayed n = true := by simp [State.spnStayed, h]

/-- Settles O13: each command is one change of state of spindle control. -/
theorem spindleStartsAndStops : Obligations.SpindleStartsAndStops := by
  refine ⟨?_, ?_, ?_, ?_, ?_, ?_, ?_, ?_, ?_, ?_, ?_, ?_⟩
  · rintro s hst
    refine ⟨s.spnStart, ?_, ?_⟩
    · show Host.Outcome.next _ = _
      rcases hst with h | h <;> simp [h]
    · obtain ⟨h1, h2, h3, -, -⟩ := State.spnStart_spec s
      exact ⟨h1, h2, h3, (SpindleStep.spnStart s).1⟩
  · rintro s hst
    refine ⟨_, rfl, ?_⟩
    simp only [State.spnStop, hst]
    obtain ⟨g, side, off, hsp⟩ := State.spnEnter_fields (st := .brake) rfl
      (s.onSpn fun p => { p with stopReq := true, runReq := false })
    refine ⟨?_, ?_, ?_, (SpindleStep.trans (.onSpn _ s) (.spnEnter rfl _)).1⟩
    · exact (congrArg Spn.state hsp).trans rfl
    · exact (congrArg Spn.stopReq hsp).trans rfl
    · exact (congrArg Spn.gatesWant hsp).trans rfl
  · rintro s ⟨hst, hs⟩
    refine ⟨_, rfl, ?_⟩
    simp only [State.spnStop, hst, hs, Bool.not_false, State.doIf, if_true]
    refine ⟨?_, ?_, ?_, fun hn => ?_, (SpindleStep.trans (.onSpn _ s) (.announce _ _ _)).1⟩
    · rw [(State.announce_keeps _ _ _).2.2]; exact hst
    · rw [(State.announce_stop _ _ _).1]
      rfl
    · rw [(State.announce_stop _ _ _).2]
      rfl
    · rw [State.announce_spn, if_neg (by simp only [State.notAssured, decide_eq_true_eq]; exact hn)]
      simp only [State.noticeAhead, State.now16_onSpn, State.p2010Decel_onSpn, State.p2010RatedRpm_onSpn]
  · rintro peak s ⟨hst, ht, hp⟩
    refine ⟨_, rfl, ?_⟩
    simp only [hst, State.spnStayed_of ht, hp, decide_true, Bool.and_self, if_true]
    obtain ⟨h1, h2, -, h4, h5, h6⟩ := State.spnAlign_spec s
    exact ⟨h1, h2, h4, h5, h6⟩
  · rintro peak s ⟨hst, ht, hp⟩
    refine ⟨_, rfl, ?_⟩
    simp only [hst, State.spnStayed_of ht, Nat.not_le.2 hp, decide_true, Bool.and_self, if_true, if_false]
    obtain ⟨h1, h2, h3, h4⟩ := State.spnCatch_spec s
    exact ⟨h1, h2, h3, h4.acts, h4.mem⟩
  · rintro s ⟨hst, ht⟩
    refine ⟨_, rfl, ?_⟩
    simp only [hst, State.spnStayed_of ht, decide_true, Bool.and_self, if_true]
    obtain ⟨g, side, off, hsp⟩ := State.spnEnter_fields (st := .ramp) rfl s
    have he : SpindleStep s (s.spnEnter .ramp) := .spnEnter rfl s
    refine ⟨?_, ?_, ?_, ?_, (he.trans (.trans (.onSpn _ _) (.onSpn _ _))).1⟩
    · rw [State.onSpn_spn, (State.setElec_state _ _).1, hsp]
      rfl
    · rw [State.onSpn_spn]
    · rw [State.onSpn_spn]
      exact State.setElec_zero (s.spnEnter .ramp)
    · rw [State.onSpn_spn]
  · rintro angle s ⟨hst, hc, ho⟩
    refine ⟨_, rfl, ?_⟩
    simp only [hst, hc, ho, decide_true, Bool.and_self, if_true]
    obtain ⟨h1, h2⟩ := State.enterRun_spec s.spn.openLoop true s
    have he : SpindleStep s (s.enterRun s.spn.openLoop true) := .enterRun _ _ s
    exact ⟨h1, rfl, h2, .after (he.2.trans (.of_eq rfl)) (.send _ _), he.acts, he.mem⟩
  · rintro s ⟨hw, hst, ht⟩
    refine ⟨_, rfl, ?_⟩
    simp only [hw, hst, State.spnStayed_of ht, decide_true, Bool.and_self, if_true]
    obtain ⟨h1, -, h3, h4, h5, h6⟩ := State.spnAlign_spec s
    exact ⟨h1, h3, h4, h5, h6⟩
  · rintro rpm x s ⟨hst, ht, hc, hr, hx⟩
    refine ⟨_, rfl, ?_⟩
    have hc' : (s.event epSpindle 131 (rpm % 2 ^ 31 + b2n x.reverse * 2 ^ 31)).p2010CatchRpm ≤ rpm := hc
    have hq : rpm % 2 ^ 31 + b2n false * 2 ^ 31 = rpm := by
      rw [Nat.mod_eq_of_lt hr]; simp [b2n]
    rw [hx, hq] at hc'
    simp only [hst, State.spnStayed_of ht, hx, decide_true, Bool.not_false, Bool.and_self, if_true, hq, hc']
    obtain ⟨g, side, off, hsp⟩ := State.spnEnter_fields (st := .bemfLock) rfl (s.event epSpindle 131 rpm)
    obtain ⟨n, hn, -⟩ := State.holdWrites_spn ((s.event epSpindle 131 rpm).spnEnter .bemfLock)
    have he : SpindleStep (s.event epSpindle 131 rpm)
      ((s.event epSpindle 131 rpm).spnEnter .bemfLock).holdWrites :=
      .trans (.spnEnter rfl _) (.holdWrites _)
    have ht := he.trans (.trans (.onSpn _ _) (.onSpn (fun p => { p with
      catchSpeed := rpm, validSteps := 0 }) (State.setElec x.angle.toNat _)))
    refine ⟨?_, ?_, ?_, .grows (.send _ s) ht.2, ((SpindleStep.event epSpindle 131 rpm s).trans ht).acts⟩
    · rw [State.onSpn_spn, (State.setElec_state _ _).1, hn, hsp]
      rfl
    · rw [State.onSpn_spn]
    · rw [State.onSpn_spn, (State.setElec_state _ _).2.1, hn]
  · rintro rpm x s ⟨hst, ht, hr, hx⟩
    refine ⟨_, rfl, ?_⟩
    have hq : rpm % 2 ^ 31 + b2n true * 2 ^ 31 = 2 ^ 31 + rpm := by
      rw [Nat.mod_eq_of_lt hr]; simp [b2n, Nat.add_comm]
    simp only [hst, State.spnStayed_of ht, hx, decide_true, Bool.not_true, Bool.and_false, Bool.and_self,
      if_true, Bool.false_eq_true, if_false, hq]
    obtain ⟨g, side, off, hsp⟩ := State.spnEnter_fields (st := .brake) rfl
      (s.event epSpindle 131 (2 ^ 31 + rpm))
    have he : SpindleStep (s.event epSpindle 131 (2 ^ 31 + rpm))
      ((s.event epSpindle 131 (2 ^ 31 + rpm)).spnEnter .brake) := .spnEnter rfl _
    have ht := he.trans (.onSpn (fun p => { p with catchFromRun := false }) _)
    refine ⟨?_, .grows (.send _ s) ht.2, ((SpindleStep.event epSpindle 131 _ s).trans ht).acts⟩
    rw [State.onSpn_spn, hsp]
    rfl
  · rintro s ⟨hst, hv, hc⟩
    refine ⟨_, rfl, ?_⟩
    simp only [hst, hv, hc, decide_true, Bool.and_self, if_true, Bool.false_eq_true, if_false]
    obtain ⟨h1, h2⟩ := State.enterRun_spec (spd16 s.spn.speed.toNat) false s
    have he : SpindleStep s (s.enterRun (spd16 s.spn.speed.toNat) false) := .enterRun _ _ s
    exact ⟨h1, h2, .after (he.2.trans (.of_eq rfl)) (.send _ _), he.acts, he.mem⟩
  · rintro s ⟨hst, hz, hs, hr, ht, he, hsh⟩
    have hnot : ¬ s.since s.spn.eventAt < 200 * msTicks := Nat.not_lt.2 ht
    obtain ⟨h1, h2, h3, h4⟩ := (s.event epSpindle 143 0).offGates_fields
    obtain ⟨d, hd⟩ := (s.event epSpindle 143 0).offGates.takeParams_spec
    have hoff : (s.event epSpindle 143 0).spnEnter .off
        = (s.event epSpindle 143 0).offGates.takeParams.event epSpindle 128 (9 * 256) := by
      have hb : (s.event epSpindle 143 0).spn.state = .brake := hst
      rw [State.spnEnter_off (by rw [hb]; decide), hb]
      rfl
    have hexec : exec .brakeStopped s = .next ((s.event epSpindle 143 0).spnEnter .off) := by
      show execBrakeStopped s = _
      have he' : ((s.event epSpindle 143 0).spnEnter .off).sys.entry = none := by rw [hoff, hd]; exact he
      have hs' : ((s.event epSpindle 143 0).spnEnter .off).sys.shutStage = none := by rw [hoff, hd]; exact hsh
      simp only [execBrakeStopped, hst, hz, hnot, hs, hr, he', ne_eq, not_true_eq_false, decide_false,
        Bool.or_self, Bool.false_eq_true, if_false, if_true, Bool.and_false, State.shutStep_none hs']
    refine ⟨_, hexec, ?_⟩
    rw [hoff]
    refine ⟨?_, ?_, ?_, ?_, fun hp => ?_, ?_⟩
    · rw [hd]; exact h1
    · rw [hd]; exact h2
    · rw [hd]; exact h3
    · rw [SentOnly, hd]
      exact List.append_assoc _ _ _
    · exact (((SpindleStep.event epSpindle 143 0 s).trans (.trans (.onSpn _ _) (.driveGates _ _))).trans
        ((SpindleStep.takeParams (h4.trans hp)).trans (.event _ _ _ _))).1
    · rw [hd]
      exact ⟨rfl, rfl, rfl, .of_mem rfl⟩

end Sys2Proof.Machine

/-! SUPPORT. Locked rotor, observer losses, the PWM period, and the wedge reference (04 R111 to R122). -/

namespace Sys2Proof.Machine

open Sys2Proof

set_option Elab.async false

/-- The bit that `setBit` sets, and the others, which stay. -/
theorem getLsbD_setBit {w : Nat} (v : BitVec w) {n : Nat} (h : n < w) (b : Bool) (m : Nat) :
    (setBit v n b).getLsbD m = if m = n then b else v.getLsbD m := by
  have hm : (BitVec.ofNat w (2 ^ n)).getLsbD m = (decide (m < w) && decide (n = m)) := by
    rw [BitVec.getLsbD_ofNat, Nat.testBit_two_pow]
  cases b
  · simp only [setBit, Bool.false_eq_true, if_false, BitVec.getLsbD_and, BitVec.getLsbD_not, hm]
    by_cases hn : m = n
    · simp [hn, h]
    · have hn' : ¬ n = m := fun h => hn h.symm
      simp only [hn', hn, decide_false, Bool.and_false, Bool.not_false, Bool.and_true, if_false]
      by_cases hw : m < w
      · simp [hw]
      · simp [hw, BitVec.getLsbD_of_ge v m (Nat.not_lt.1 hw)]
  · simp only [setBit, if_true, BitVec.getLsbD_or, hm]
    by_cases hn : m = n
    · simp [hn, h]
    · have hn' : ¬ n = m := fun h => hn h.symm
      simp [hn, hn']

/-! Locked rotor (04 R111). -/

/-- A parked arm has nothing to unload (05 R151). -/
theorem State.startUnload_parked {a : Fin 4} {s : State} (h : (s.act a).isl.load = .parked) (retract : Bool) :
    s.startUnload a retract = s := by
  simp [State.startUnload, h]

/-- With every arm parked, nothing retracts. -/
theorem State.retractAll_parked {s : State} (h : ∀ a, (s.act a).isl.load = .parked) : s.retractAll = s := by
  unfold State.retractAll
  refine foldS_keeps (· = s) _ (fun a t ht => ?_) _ rfl
  rw [ht]
  exact State.startUnload_parked (h a) true

/-- With every arm parked the start procedure runs at once (04 R111). -/
theorem State.retryStart_parked {s : State} (h : ∀ a, (s.act a).isl.load = .parked)
    (hr : s.spn.retryRun = true) : s.retryStart = s.spnStart := by
  rw [State.retryStart, if_pos]
  simp [hr, h]

theorem SpindleStep.spnFlag (n : Nat) (s : State) : SpindleStep s (s.spnFlag n) := .onSpn _ s

/-- A failed attempt that is not the last waits in COAST (04 R111). -/
theorem State.startFailed_spec {s : State} (h : s.spn.attempt < s.p2010StartRetries) :
    s.startFailed.spn.state = .coast ∧ s.startFailed.spn.gates = 0 ∧ s.startFailed.spn.waiting500 = true
      ∧ s.startFailed.spn.attempt = s.spn.attempt + 1
      ∧ Sent (faultMsg epSpindle 72 s.spn.attempt (s.localTime epSpindle)) s s.startFailed
      ∧ SpindleOnly s s.startFailed := by
  have hs : s.startFailed = (((s.fault epSpindle 72 s.spn.attempt).spnFlag 0).spnEnter .coast).onSpn
      fun p => { p with attempt := s.spn.attempt + 1, waiting500 := true } := by
    unfold State.startFailed
    exact if_pos h
  obtain ⟨g, side, off, hsp⟩ := State.spnEnter_fields (st := .coast) rfl
    ((s.fault epSpindle 72 s.spn.attempt).spnFlag 0)
  have hg : (((s.fault epSpindle 72 s.spn.attempt).spnFlag 0).spnEnter .coast).spn.gates = 0 :=
    State.spnEnter_gates rfl rfl
  have he : SpindleStep (s.fault epSpindle 72 s.spn.attempt)
      ((((s.fault epSpindle 72 s.spn.attempt).spnFlag 0).spnEnter .coast).onSpn
      fun p => { p with attempt := s.spn.attempt + 1, waiting500 := true }) :=
    .trans (.trans (.spnFlag 0 _) (.spnEnter rfl _)) (.onSpn _ _)
  rw [hs]
  refine ⟨?_, hg, rfl, rfl, .grows (.send _ s) he.2, ((SpindleStep.fault epSpindle 72 _ s).trans he).1⟩
  rw [State.onSpn_spn, hsp]
  rfl

/-! What a PWM period measures stays through the rest of it (04 R99, R105). -/

/-- The ADC codes and the observer's angle are as before. -/
def KeepsSenses (s t : State) : Prop := t.spn.adc = s.spn.adc ∧ t.spn.angle = s.spn.angle

theorem KeepsSenses.of_spn {s t : State} (h : t.spn = s.spn) : KeepsSenses s t := by
  simp [KeepsSenses, h]

theorem KeepsSenses.refl (s : State) : KeepsSenses s s := ⟨rfl, rfl⟩

theorem KeepsSenses.trans {s t u : State} (h : KeepsSenses s t) (k : KeepsSenses t u) : KeepsSenses s u :=
  ⟨k.1.trans h.1, k.2.trans h.2⟩

theorem KeepsSenses.ite {s t u : State} {c : Prop} [Decidable c] (h : KeepsSenses s t)
    (k : KeepsSenses s u) : KeepsSenses s (if c then t else u) := by
  split
  · exact h
  · exact k

theorem KeepsSenses.doIf {s : State} {f : State → State} (c : Bool) (h : KeepsSenses s (f s)) :
    KeepsSenses s (s.doIf c f) := .ite h (.refl s)

theorem KeepsSenses.onSpn {f : Spn → Spn} (s : State)
    (h : ∀ p, (f p).adc = p.adc ∧ (f p).angle = p.angle) : KeepsSenses s (s.onSpn f) := h s.spn

theorem KeepsSenses.event (src : Endpoint) (num qual : Nat) (s : State) :
    KeepsSenses s (s.event src num qual) := .of_spn rfl

theorem KeepsSenses.fault (src : Endpoint) (source kind : Nat) (s : State) :
    KeepsSenses s (s.fault src source kind) := .of_spn rfl

theorem KeepsSenses.driveGates (want : BitVec 6) (s : State) : KeepsSenses s (s.driveGates want) := by
  obtain ⟨g, side, off, h⟩ := State.driveGates_spn want s
  rw [KeepsSenses, h]
  exact ⟨rfl, rfl⟩

theorem KeepsSenses.announce (target : BitVec 17) (rate : Nat) (s : State) :
    KeepsSenses s (s.announce target rate) := by
  obtain ⟨n, k, h⟩ := State.announce_fields target rate s
  rw [KeepsSenses, h]
  exact ⟨rfl, rfl⟩

theorem KeepsSenses.holdWrites (s : State) : KeepsSenses s s.holdWrites := by
  obtain ⟨n, h, -⟩ := State.holdWrites_spn s
  rw [KeepsSenses, h]
  exact ⟨rfl, rfl⟩

theorem KeepsSenses.takeParams (s : State) : KeepsSenses s s.takeParams := by
  obtain ⟨d, h⟩ := State.takeParams_spec s
  rw [h]
  exact ⟨rfl, rfl⟩

theorem KeepsSenses.spnEnter (st : SpnState) (s : State) : KeepsSenses s (s.spnEnter st) := by
  have h : ∀ u : State, KeepsSenses u (State.doIf u.spnIsOff State.takeParams u) :=
    fun u => .doIf _ (.takeParams u)
  unfold State.spnEnter
  dsimp only
  refine .ite (.trans ?_ (h _)) (.trans (.trans ?_ (h _)) (.event _ _ _ _)) <;>
    exact .trans (.trans (.doIf _ (.of_spn rfl)) (.onSpn _ fun _ => ⟨rfl, rfl⟩)) (.driveGates _ _)

theorem KeepsSenses.startFailed (s : State) : KeepsSenses s s.startFailed := by
  have h : KeepsSenses s ((s.fault epSpindle 72 s.spn.attempt).spnFlag 0) :=
    .trans (.fault _ _ _ _) (.onSpn _ fun _ => ⟨rfl, rfl⟩)
  unfold State.startFailed
  dsimp only
  refine .ite (.trans (.trans h (.spnEnter _ _)) (.onSpn _ fun _ => ⟨rfl, rfl⟩)) ?_
  exact .trans (.trans (h.trans (.fault _ _ _ _)) (.spnEnter _ _)) (.onSpn _ fun _ => ⟨rfl, rfl⟩)

theorem KeepsSenses.commutate (x : PwmInputs) (angle : Nat) (s : State) :
    KeepsSenses s (s.commutate x angle) := by
  unfold State.commutate State.dtcStep
  dsimp only
  have hf : KeepsSenses s s.takeFree := .of_spn rfl
  refine .ite (.trans ?_ (.driveGates _ _)) (.trans (.trans hf ?_) (.driveGates _ _)) <;>
    exact .onSpn _ fun _ => ⟨rfl, rfl⟩

theorem KeepsSenses.slewHold (on : Bool) (s : State) : KeepsSenses s (s.slewHold on) := by
  have h (b : Bool) (n q : Nat) :
      KeepsSenses s ((s.onSpn fun p => { p with wrHold := b }).event epSpindle n q) :=
    KeepsSenses.trans (t := s.onSpn fun p => { p with wrHold := b }) (.onSpn _ fun _ => ⟨rfl, rfl⟩)
      (.event _ _ _ _)
  unfold State.slewHold
  dsimp only
  exact .ite (.refl s) (.ite (h _ _ _) (h _ _ _))

theorem KeepsSenses.rampEnd (s : State) : KeepsSenses s s.rampEnd := by
  have h : KeepsSenses s (s.onSpn fun p => { p with slewing := false, rampDue := false }) :=
    .onSpn _ fun _ => ⟨rfl, rfl⟩
  unfold State.rampEnd
  dsimp only
  refine .trans (.ite (.trans (.trans h ?_) (.event _ _ _ _)) h) (.slewHold _ _)
  exact .onSpn _ fun _ => ⟨rfl, rfl⟩

theorem KeepsSenses.referenceStep (ticks : Nat) (s : State) : KeepsSenses s (s.referenceStep ticks) := by
  unfold State.referenceStep
  dsimp only
  refine .ite (.refl s) (.trans (.trans ?_ (.onSpn _ ?_)) (.doIf _ (.rampEnd _)))
  · exact .doIf _ (.slewHold _ _)
  · exact fun _ => ⟨rfl, rfl⟩

theorem KeepsSenses.speedLoop (ticks : Nat) (s : State) : KeepsSenses s (s.speedLoop ticks) :=
  .onSpn _ fun _ => ⟨rfl, rfl⟩

theorem KeepsSenses.ratedReached (s : State) : KeepsSenses s s.ratedReached := by
  unfold State.ratedReached
  dsimp only
  refine .ite (.refl s) (.trans ?_ (.event _ _ _ _))
  exact .onSpn s fun _ => ⟨rfl, rfl⟩

theorem KeepsSenses.turnElec (speed ticks : Nat) (s : State) : KeepsSenses s (s.turnElec speed ticks).1 :=
  .onSpn _ fun _ => ⟨rfl, rfl⟩

theorem KeepsSenses.setElec (angle : Nat) (s : State) : KeepsSenses s (s.setElec angle) :=
  .onSpn _ fun _ => ⟨rfl, rfl⟩

theorem KeepsSenses.rampPeriod (ticks : Nat) (x : PwmInputs) (s : State) :
    KeepsSenses s (s.rampPeriod ticks x) := by
  unfold State.rampPeriod
  dsimp only
  have h (f : Spn → Spn) (hf : ∀ p, (f p).adc = p.adc ∧ (f p).angle = p.angle) :
      KeepsSenses s ((s.turnElec (s.spn.openLoop + s.p2010RampRate * ticks) ticks).1.onSpn f) :=
    .trans (.turnElec _ _ _) (.onSpn _ hf)
  refine .ite (.trans (.trans ?_ (.commutate x _ _)) (.startFailed _)) (.trans ?_ (.commutate x _ _)) <;>
    exact .ite (.trans (h _ fun _ => ⟨rfl, rfl⟩) (.onSpn _ fun _ => ⟨rfl, rfl⟩)) (h _ fun _ => ⟨rfl, rfl⟩)

theorem KeepsSenses.runPeriod (ticks : Nat) (x : PwmInputs) (s : State) :
    KeepsSenses s (s.runPeriod ticks x) := by
  have h (u : State) : KeepsSenses u (((u.referenceStep ticks).speedLoop ticks).ratedReached.commutate x
      x.angle.toNat) :=
    .trans (.trans (.trans (.referenceStep ticks u) (.speedLoop ticks _)) (.ratedReached _))
      (.commutate x _ _)
  unfold State.runPeriod
  dsimp only
  refine .ite (.trans (.trans ?_ (h _)) (.spnEnter .brake _)) (.trans ?_ (h _)) <;>
    exact .doIf _ (.onSpn _ fun _ => ⟨rfl, rfl⟩)

theorem KeepsSenses.flywheelPeriod (ticks : Nat) (x : PwmInputs) (s : State) :
    KeepsSenses s (s.flywheelPeriod ticks x) := by
  unfold State.flywheelPeriod
  dsimp only
  refine .trans ?_ (.commutate x _ _)
  cases x.crossing
  · exact .turnElec _ _ _
  · exact .trans (.turnElec _ _ _) (.onSpn _ fun _ => ⟨rfl, rfl⟩)

theorem KeepsSenses.bemfPeriod (ticks : Nat) (x : PwmInputs) (s : State) :
    KeepsSenses s (s.bemfPeriod ticks x) := by
  have h : KeepsSenses s ((s.turnElec (s.spn.catchSpeed * rpmUnit) ticks).1.onSpn fun p => { p with
      validSteps := if p.obsValid then p.validSteps else 0 }) :=
    .trans (.turnElec _ _ _) (.onSpn _ fun _ => ⟨rfl, rfl⟩)
  unfold State.bemfPeriod
  dsimp only
  refine .trans ?_ (.commutate x _ _)
  cases x.crossing
  · exact h
  · exact .trans (h.trans (.setElec _ _)) (.onSpn _ fun _ => ⟨rfl, rfl⟩)

theorem KeepsSenses.brakePeriod (x : PwmInputs) (s : State) : KeepsSenses s (s.brakePeriod x) := by
  unfold State.brakePeriod
  refine .trans ?_ (.doIf _ (.driveGates _ _))
  exact .doIf _ (.onSpn _ fun _ => ⟨rfl, rfl⟩)

/-- The senses hold what the period measured (04 R99, R105). -/
theorem State.pwmSenses_senses (ticks : Nat) (x : PwmInputs) (s : State) :
    (s.pwmSenses ticks x).spn.adc = (List.range 9).map (fun i => nth x.adc i 0)
      ∧ (s.pwmSenses ticks x).spn.angle = x.angle := by
  have hf (c : Prop) [Decidable c] {t : State} {f : Spn → Spn} {n i : Nat} (h : (t.onSpn f).spn.adc
      = (List.range 9).map (fun i => nth x.adc i 0) ∧ (t.onSpn f).spn.angle = x.angle) :
      (if c then (t.onSpn f).fault epSpindle n i else t.onSpn f).spn.adc
        = (List.range 9).map (fun i => nth x.adc i 0)
      ∧ (if c then (t.onSpn f).fault epSpindle n i else t.onSpn f).spn.angle = x.angle := by
    split <;> exact h
  unfold State.pwmSenses
  refine foldS_keeps (fun t : State => t.spn.adc = (List.range 9).map (fun i => nth x.adc i 0)
      ∧ t.spn.angle = x.angle) _ (fun i t h => ?_) _
    (foldS_keeps (fun t : State => t.spn.adc = (List.range 9).map (fun i => nth x.adc i 0)
      ∧ t.spn.angle = x.angle) _ (fun i t h => ?_) _
    (foldS_keeps (fun t : State => t.spn.adc = (List.range 9).map (fun i => nth x.adc i 0)
      ∧ t.spn.angle = x.angle) _ (fun i t h => ?_) _ ?_))
  · exact hf _ h
  · exact hf _ h
  · split
    · exact h
    · exact h
  · unfold State.observe
    cases x.boundary <;> exact ⟨rfl, rfl⟩

/-- What a state does in a PWM period leaves the senses. -/
theorem KeepsSenses.byState (ticks : Nat) (x : PwmInputs) (s : State) : KeepsSenses s
    (match s.spn.state with
    | .ramp => s.rampPeriod ticks x
    | .run => s.runPeriod ticks x
    | .flywheel => s.flywheelPeriod ticks x
    | .coast => if s.spn.catchFromRun && !s.spn.waiting500 && !s.spn.retryRun then s.spnCatch else s
    | .bemfLock => s.bemfPeriod ticks x
    | .brake => s.brakePeriod x
    | .syncRect => s.takeFree.driveGates (s.stateGates .syncRect)
    | _ => s) := by
  cases s.spn.state
  case ramp => exact .rampPeriod ticks x s
  case run => exact .runPeriod ticks x s
  case flywheel => exact .flywheelPeriod ticks x s
  case coast => exact .ite (.trans (.spnEnter .catching s) (.holdWrites _)) (.refl s)
  case bemfLock => exact .bemfPeriod ticks x s
  case brake => exact .brakePeriod x s
  case syncRect => exact .trans (t := s.takeFree) (.of_spn rfl) (.driveGates _ _)
  all_goals exact .refl s

/-- After its senses, a PWM period leaves them as they are. -/
theorem State.pwmPeriod_senses (x : PwmInputs) (s : State) :
    ∃ ticks, KeepsSenses (s.pwmSenses ticks x) (s.pwmPeriod x) :=
  ⟨_, .trans (.ite (.takeParams _) (.refl _)) (.byState _ x _)⟩

theorem State.notAssured_of {s : State} (h : s.spn.notice.rate = 0xFFFF) : s.notAssured = true := by
  simp [State.notAssured, h]

/-- A locked rotor in RUN restarts at once when every head is parked (04 R111, R119). -/
theorem State.lockedRotor_restarts {s : State} (hst : s.spn.state = .run) (hf : s.spn.ranFirst = true)
    (ht : s.p2010LockIntervals * s.stepTicks s.spn.target.toNat ≤ s.since s.spn.eventAt)
    (hp : ∀ a, (s.act a).isl.load = .parked) :
    Completes .lockedRotor s fun t => t.spn.state = .restCheck ∧ t.spn.gates = 0 ∧ t.spn.wrHold = true ∧
      t.spn.attempt = 0 ∧ Sent (faultMsg epSpindle 73 0 (s.localTime epSpindle)) s t ∧ t.acts = s.acts ∧
      MemorySame s t := by
  have hl : s.rotorLocked = true := by simp [State.rotorLocked, hst, hf, ht]
  obtain ⟨u, hu⟩ : ∃ u, u = (((s.spnFlag 0).fault epSpindle 73 0).spnEnter .coast).holdWrites := ⟨_, rfl⟩
  have h1 : SpindleStep ((s.spnFlag 0).fault epSpindle 73 0) u :=
    hu ▸ .trans (.spnEnter rfl _) (.holdWrites _)
  have hua : u.acts = s.acts := h1.acts
  have hpu : ∀ a, (u.act a).isl.load = .parked := fun a => by rw [State.act, hua]; exact hp a
  obtain ⟨v, hv⟩ : ∃ v, v = u.onSpn fun p => { p with retryRun := true, catchFromRun := false, waiting500 := false } :=
    ⟨_, rfl⟩
  have hpv : ∀ a, (v.act a).isl.load = .parked := hv ▸ hpu
  have hrun : s.lockedRotor = v.spnStart := by
    have h0 : s.lockedRotor = (u.retractAll.onSpn fun p => { p with
        retryRun := true, catchFromRun := false, waiting500 := false }).retryStart := by
      simp only [State.lockedRotor, hst, decide_true, Bool.true_or, if_true]
      rw [hu]
    rw [h0, State.retractAll_parked hpu, ← hv, State.retryStart_parked hpv (hv ▸ rfl)]
  have hexec : exec .lockedRotor s = .next v.spnStart := by
    rw [← hrun]
    show execLockedRotor s = _
    simp [execLockedRotor, hl, hst, hf]
  obtain ⟨n, hn, -⟩ := State.holdWrites_spn (((s.spnFlag 0).fault epSpindle 73 0).spnEnter .coast)
  obtain ⟨s1, -, s3, s4, s5⟩ := State.spnStart_spec v
  have h2 : SpindleStep ((s.spnFlag 0).fault epSpindle 73 0) v.spnStart :=
    .trans (.trans h1 (hv ▸ .onSpn _ _)) (.spnStart v)
  refine ⟨_, hexec, s1, s3, s5.trans ?_, s4, ?_, h2.acts, h2.mem⟩
  · rw [hv, State.onSpn_spn, hu, hn]
  · exact .grows (s := s) (.send (faultMsg epSpindle 73 0 (s.localTime epSpindle)) (s.spnFlag 0)) h2.2

/-- An observer loss enters FLYWHEEL with writes held (04 R114). -/
theorem State.observerLoss_flywheel {s : State} (hst : s.spn.state = .run)
    (hr : 6 * s.p2010ObsLossPer ≤ s.spn.residHigh) :
    Completes .observerLoss s fun t => t.spn.state = .flywheel ∧ t.spn.wrHold = true ∧
      t.spn.flags.getLsbD 1 = true ∧ Sent (faultMsg epSpindle 75 0 (s.localTime epSpindle)) s t ∧
      Sent (eventMsg epSpindle 138 (s.spn.speed.toNat / 16)) s t ∧ SpindleOnly s t := by
  refine ⟨_, rfl, ?_⟩
  simp only [hst, hr, decide_true, Bool.and_self, if_true]
  let u := ((s.fault epSpindle 75 0).event epSpindle 138 (s.spn.speed.toNat / 16)).spnFlag 1
  have hu : u = ((s.fault epSpindle 75 0).event epSpindle 138 (s.spn.speed.toNat / 16)).spnFlag 1 := rfl
  rw [← hu]
  obtain ⟨n, hn, -⟩ := State.holdWrites_spn u
  obtain ⟨g, side, off, hsp⟩ := State.spnEnter_fields (st := .flywheel) rfl u.holdWrites
  have h1 : SpindleStep u (((u.holdWrites.spnEnter .flywheel).setElec s.spn.lastAngle.toNat).onSpn
      fun p => { p with goodCross := 0 }) :=
    .trans (.trans (.trans (.holdWrites u) (.spnEnter rfl _)) (.onSpn _ _)) (.onSpn _ _)
  have h0 : SpindleStep (s.fault epSpindle 75 0) u := .trans (.event _ _ _ _) (.spnFlag _ _)
  refine ⟨?_, ?_, ?_, .grows (.send _ s) (h0.trans h1).2, ?_,
    ((SpindleStep.fault epSpindle 75 0 s).trans (h0.trans h1)).1⟩
  · rw [State.onSpn_spn, (State.setElec_state _ _).1, hsp]
    rfl
  · rw [State.onSpn_spn, (State.setElec_state _ _).2.1, hsp]
    show u.holdWrites.spn.wrHold = true
    rw [hn]
  · have hflag : ∀ (k : Nat) (t : State), (t.setElec k).spn.flags = t.spn.flags := fun _ _ => rfl
    rw [State.onSpn_spn, hflag, hsp]
    show u.holdWrites.spn.flags.getLsbD 1 = true
    rw [hn, hu]
    exact getLsbD_setBit _ (by decide) true 1
  · exact .after (.send _ s) (.grows (.send _ (s.fault epSpindle 75 0)) (.trans (.of_eq rfl) h1.2))

/-- Settles O15: losses open the gates or hold writes, and what a period measures stands in the registers. -/
theorem spindleLossesMeasurementAndReference : Obligations.SpindleLossesMeasurementAndReference := by
  refine ⟨?_, ?_, ?_, ?_, ?_, ?_, ?_, ?_, ?_⟩
  · rintro s ⟨hst, hf, ht, hp⟩
    exact State.lockedRotor_restarts hst hf ht hp
  · rintro s ⟨hst, hf, ht, ha⟩
    have hl : s.rotorLocked = true := by simp [State.rotorLocked, hst, hf, ht]
    have hexec : exec .lockedRotor s = .next s.startFailed := by
      show execLockedRotor s = _
      simp [execLockedRotor, hl, hst, hf]
    exact ⟨_, hexec, State.startFailed_spec ha⟩
  · rintro s ⟨hst, hr⟩
    exact State.observerLoss_flywheel hst hr
  · rintro s ⟨hst, hg, ht⟩
    refine ⟨_, rfl, ?_⟩
    simp only [hst, hg, ht, decide_true, Bool.and_self, if_true, Option.isSome_none, Bool.false_eq_true, if_false]
    obtain ⟨h1, h2⟩ := State.enterRun_spec s.spn.reference false s
    have he : SpindleStep s (s.enterRun s.spn.reference false) := .enterRun _ _ s
    exact ⟨h1, h2, .after he.2 (.send _ _), (he.trans (.event _ _ _ _)).1⟩
  · rintro s ⟨hst, ht⟩
    refine ⟨_, rfl, ?_⟩
    simp only [hst, ht, decide_true, Bool.and_self, if_true]
    obtain ⟨g, side, off, hsp⟩ := State.spnEnter_fields (st := .coast) rfl (s.fault epSpindle 76 0)
    have hg : ((s.fault epSpindle 76 0).spnEnter .coast).spn.gates = 0 := State.spnEnter_gates rfl rfl
    have he : SpindleStep (s.fault epSpindle 76 0) (((s.fault epSpindle 76 0).spnEnter .coast).onSpn
      fun p => { p with catchFromRun := true }) := .trans (.spnEnter rfl _) (.onSpn _ _)
    refine ⟨?_, hg, rfl, .grows (.send _ s) he.2, ((SpindleStep.fault epSpindle 76 0 s).trans he).1⟩
    rw [State.onSpn_spn, hsp]
    rfl
  · rintro s hd
    refine ⟨_, rfl, ?_⟩
    rw [if_pos hd]
    exact ⟨rfl, rfl, ((SpindleStep.fault epSpindle 77 _ s).trans (.onSpn _ _)).1⟩
  · rintro p s
    obtain ⟨ticks, ha, hg⟩ := State.pwmPeriod_senses p s
    obtain ⟨ha', hg'⟩ := State.pwmSenses_senses ticks p s
    exact ⟨_, rfl, ha.trans ha', hg.trans hg'⟩
  · rintro s ⟨hw, hl⟩
    let u := ((s.onSpn fun p => { p with refSrc := s.wantedRef, devCount := 0, locked := false }).spnFlag 7).event
      epSpindle 133 s.wantedRef.toNat
    have hu : u = ((s.onSpn fun p => { p with refSrc := s.wantedRef, devCount := 0, locked := false }).spnFlag 7).event
      epSpindle 133 s.wantedRef.toNat := rfl
    have hnone : (u.presentActs.any fun a => u.loaded a) = false := by
      rw [List.any_eq_false]
      intro a _
      rw [show u.loaded a = s.loaded a from rfl, hl a]
      decide
    have hexec : exec .refMove s = .next u := by
      show execRefMove s = _
      simp only [execRefMove]
      rw [if_neg hw, ← hu, hnone, Bool.and_false]
      rfl
    refine ⟨u, hexec, rfl, rfl, ?_, rfl, (SpindleStep.trans (.trans (.onSpn _ s) (.spnFlag 7 _)) (.event _ _ _ _)).1⟩
    exact getLsbD_setBit _ (by decide) true 7
  · rintro s ⟨hn, hst, hc⟩
    refine ⟨_, rfl, ?_⟩
    simp only [State.notAssured_of hn, hst, hc, decide_true, Bool.and_self, if_true]
    have h1 := State.sendNotice_spn { target := s.spn.target, rate := 0, start := s.now16 } s
    have he := SpindleStep.sendNotice { target := s.spn.target, rate := 0, start := s.now16 } s
    generalize State.sendNotice _ s = u at h1 he ⊢
    have hw := he.trans (.onSpn (fun p => { p with wrHold := false }) u)
    have hsp : ((u.onSpn fun p => { p with wrHold := false }).event epSpindle 137 0).spn
        = { s.spn with
            notice := { target := s.spn.target, rate := 0, start := s.now16 }, relCount := 0, wrHold := false } := by
      show { u.spn with wrHold := false } = _
      rw [h1]
    refine ⟨?_, ?_, ?_, .after hw.2 (.send _ _), (hw.trans (.event _ _ _ _)).1⟩ <;> rw [hsp]

end Sys2Proof.Machine

/-! SUPPORT. Chip time, mailboxes, wedge timing and slew notices: what their receipt changes (01 R13, R21, 04
R121, R122, 05 R148). -/

namespace Sys2Proof.Machine

open Sys2Proof

set_option Elab.async false

theorem setNth_length {α : Type} (l : List α) (n : Nat) (v : α) : (setNth l n v).length = l.length := by
  induction l generalizing n with
  | nil => rfl
  | cons x r ih =>
    cases n with
    | zero => rfl
    | succ n => simp [setNth, ih]

theorem getElem?_setNth {α : Type} (l : List α) (n : Nat) (v : α) (m : Nat) :
    (setNth l n v)[m]? = if m = n ∧ n < l.length then some v else l[m]? := by
  induction l generalizing n m with
  | nil => simp [setNth]
  | cons x r ih =>
    cases n with
    | zero => cases m <;> simp [setNth]
    | succ n => cases m <;> simp [setNth, ih]

theorem nth_setNth_same {α : Type} {l : List α} {n : Nat} (h : n < l.length) (v d : α) :
    nth (setNth l n v) n d = v := by simp [nth, getElem?_setNth, h]

theorem nth_setNth_other {α : Type} {l : List α} {n m : Nat} (h : m ≠ n) (v d : α) :
    nth (setNth l n v) m d = nth l m d := by simp [nth, getElem?_setNth, h]

/-! Chip time (01 R13). -/

/-- A broadcast changes the replicas, and sends reports. -/
def ReplicaStep (s t : State) : Prop :=
  t = { s with fab := { s.fab with replica := t.fab.replica, msgs := t.fab.msgs } } ∧ Grows s t

theorem ReplicaStep.refl (s : State) : ReplicaStep s s := ⟨rfl, .refl s⟩

theorem ReplicaStep.trans {s t u : State} (h : ReplicaStep s t) (k : ReplicaStep t u) : ReplicaStep s u := by
  refine ⟨?_, h.2.trans k.2⟩
  rw [k.1, h.1]

theorem ReplicaStep.replicaMeets (i : Nat) (d : Int) (s : State) : ReplicaStep s (s.replicaMeets i d) := by
  unfold State.replicaMeets
  split
  · exact .refl s
  · split
    · exact ⟨rfl, .send _ s⟩
    · exact ⟨rfl, .of_eq rfl⟩

/-- Another replica keeps its drift. -/
theorem State.replicaMeets_other {i j : Nat} (h : j ≠ i) (d : Int) (s : State) :
    nth (s.replicaMeets i d).fab.replica j 0 = nth s.fab.replica j 0 := by
  unfold State.replicaMeets
  split
  · rfl
  · split
    · exact nth_setNth_other h _ _
    · exact nth_setNth_other h _ _

/-- The broadcast of the replicas from one on leaves those before it. -/
theorem foldS_replicaMeets_below (l : List Int) (k : Nat) {j : Nat} (h : j < k) (s : State) :
    nth (foldS (fun (x : Int × Nat) t => t.replicaMeets x.2 x.1) (l.zipIdx k) s).fab.replica j 0
        = nth s.fab.replica j 0
      ∧ ReplicaStep s (foldS (fun (x : Int × Nat) t => t.replicaMeets x.2 x.1) (l.zipIdx k) s) := by
  induction l generalizing k s with
  | nil => exact ⟨rfl, .refl s⟩
  | cons d r ih =>
    obtain ⟨h1, h2⟩ := ih (k + 1) (by omega) (s.replicaMeets k d)
    exact ⟨h1.trans (State.replicaMeets_other (by omega) d s), .trans (.replicaMeets k d s) h2⟩

/-- The first two replicas of a broadcast: replica 0 is the master's, replica 1 that of island 1. -/
theorem State.broadcast_one {time : BitVec 64} {drift : List Int} {s : State}
    (ht : time ≤ s.fab.chipTime) (hd : drift.length = 12) : ∃ t,
    exec (.chipTimeBroadcast time drift) s = .next t ∧ ReplicaStep (s.replicaMeets 1 (nth drift 1 0)) t
      ∧ nth t.fab.replica 0 0 = nth s.fab.replica 0 0
      ∧ nth t.fab.replica 1 0 = nth (s.replicaMeets 1 (nth drift 1 0)).fab.replica 1 0 := by
  match drift, hd with
  | d0 :: d1 :: r, hr =>
    have h0 : s.replicaMeets 0 d0 = s := by simp [State.replicaMeets, State.replicaRuns]
    have hx : exec (.chipTimeBroadcast time (d0 :: d1 :: r)) s
        = .next (foldS (fun (x : Int × Nat) t => t.replicaMeets x.2 x.1) ((r.take 10).zipIdx 2)
          (s.replicaMeets 1 d1)) := by
      show execChipTimeBroadcast time (d0 :: d1 :: r) s = _
      rw [execChipTimeBroadcast, if_neg (BitVec.not_lt.2 ht)]
      show Host.Outcome.next (foldS _ ((r.take 10).zipIdx 2) ((s.replicaMeets 0 d0).replicaMeets 1 d1)) = _
      rw [h0]
    obtain ⟨b1, b2⟩ := foldS_replicaMeets_below (r.take 10) 2 (j := 1) (by omega) (s.replicaMeets 1 d1)
    obtain ⟨c1, -⟩ := foldS_replicaMeets_below (r.take 10) 2 (j := 0) (by omega) (s.replicaMeets 1 d1)
    exact ⟨_, hx, b2, c1.trans (State.replicaMeets_other (by omega) d1 s), b1⟩

theorem State.replicaRuns_one {s : State} (h : s.domOn 6 = true) : s.replicaRuns 1 = true := by
  simp only [State.replicaRuns, Bool.and_eq_true, List.any_eq_true]
  exact ⟨rfl, 6, by decide, by decide, h⟩

/-! A message taken from the queue (01 R21). -/

/-- The state once the only message that waits has been delivered. -/
def State.delivered (m : Msg) (s : State) : State :=
  s.onFab fun f => { f with
    msgs := []
    txns := f.txns.map fun t => if s.ofPair m.src m.dst t then { t with behind := t.behind - 1 } else t
    fences := f.fences.map fun x => { x with msgs := dropFirst (fun y => y == m) x.msgs } }

/-- The only message that waits is taken. -/
theorem State.takeMsg_only {p : Msg → Bool} {m : Msg} {s : State} (hm : s.fab.msgs = [m])
    (ha : s.msgArrives m = true) (hp : p m = true) : s.takeMsg p = (some m, s.delivered m) := by
  simp only [State.takeMsg, hm, List.find?_cons, hp, ha, if_true, State.delivered, State.onFab, dropFirst]

/-! Wedge timing (04 R121). -/

/-- Only spindle control changed, and the history of an actuator begins with a message. -/
def HeadsHistory (a : Fin 4) (m : WedgeMsg) (s t : State) : Prop :=
  (t.spn.wedges.get a).hist.head? = some m ∧ t = { s with spn := t.spn }

theorem HeadsHistory.onSpn {a : Fin 4} {m : WedgeMsg} {s t : State} (h : HeadsHistory a m s t) {f : Spn → Spn}
    (hf : (f t.spn).wedges = t.spn.wedges) : HeadsHistory a m s (t.onSpn f) := by
  obtain ⟨h1, h2⟩ := h
  refine ⟨by rw [State.onSpn_spn, hf]; exact h1, ?_⟩
  rw [h2]
  rfl

/-- A wedge timing message heads the history of its actuator. -/
theorem State.takeWedge_heads (a : Fin 4) (w : BitVec 10) (t : Nat) (locked missing frozen : Bool)
    (s : State) : HeadsHistory a { wedge := w, instant := t, good := !missing && !frozen } s
      (s.takeWedge a w t locked missing frozen) := by
  have h (new : WedgeSrc) (hn : new.hist.head? = some { wedge := w, instant := t, good := !missing && !frozen }) :
      HeadsHistory a { wedge := w, instant := t, good := !missing && !frozen } s
        (s.onSpn fun p => { p with wedges := p.wedges.set a new }) := by
    refine ⟨?_, rfl⟩
    rw [State.onSpn_spn]
    dsimp only
    rw [Four.get_set_same]
    exact hn
  unfold State.takeWedge
  dsimp only
  generalize hnew : ({ hist := _, lockedRun := _, badRun := _ } : WedgeSrc) = new
  have h1 := h new (by rw [← hnew]; rfl)
  split
  · split
    · split
      · exact h1.onSpn rfl
      · exact h1
    · exact h1
  · exact h1

/-! Slew notices (04 R122, 05 R148). -/

/-- Around an actuator's write path everything stays: its island's state, the other actuators, spindle control
and memory. -/
structure KeepsIsl (a : Fin 4) (s t : State) : Prop where
  isl : (t.act a).isl = (s.act a).isl
  other : ∀ b, b ≠ a → t.act b = s.act b
  spn : t.spn = s.spn
  mem : t.fab.mem = s.fab.mem

theorem KeepsIsl.refl (a : Fin 4) (s : State) : KeepsIsl a s s := ⟨rfl, fun _ _ => rfl, rfl, rfl⟩

theorem KeepsIsl.trans {a : Fin 4} {s t u : State} (h : KeepsIsl a s t) (k : KeepsIsl a t u) :
    KeepsIsl a s u :=
  ⟨k.isl.trans h.isl, fun b hb => (k.other b hb).trans (h.other b hb), k.spn.trans h.spn, k.mem.trans h.mem⟩

theorem KeepsIsl.ite {a : Fin 4} {s t u : State} {c : Prop} [Decidable c] (h : KeepsIsl a s t)
    (k : KeepsIsl a s u) : KeepsIsl a s (if c then t else u) := by
  split
  · exact h
  · exact k

theorem KeepsIsl.onAct {a : Fin 4} {f : Act → Act} (s : State)
    (h : (f (s.act a)).isl = (s.act a).isl) : KeepsIsl a s (s.onAct a f) :=
  ⟨by rw [State.act_onAct_same]; exact h, fun b hb => State.act_onAct_ne _ _ hb, rfl, rfl⟩

theorem KeepsIsl.actEvent (a : Fin 4) (k off qual : Nat) (s : State) :
    KeepsIsl a s (s.actEvent a k off qual) := by
  unfold State.actEvent
  exact .ite ⟨rfl, fun _ _ => rfl, rfl, rfl⟩ (.refl a s)

theorem KeepsIsl.countA (a : Fin 4) (key n : Nat) (s : State) : KeepsIsl a s (s.countA key a n) :=
  ⟨rfl, fun _ _ => rfl, rfl, rfl⟩

theorem KeepsIsl.laserOff (a : Fin 4) (s : State) : KeepsIsl a s (s.laserOff a) := by
  unfold State.laserOff
  dsimp only
  split
  · exact .refl a s
  · exact .ite ⟨rfl, fun _ _ => rfl, rfl, rfl⟩ (.refl a s)

theorem KeepsIsl.wpIdle (a : Fin 4) (s : State) : KeepsIsl a s (s.wpIdle a) := by
  unfold State.wpIdle
  exact .trans (.laserOff a s) (.onAct _ rfl)

theorem KeepsIsl.pscRenew (a : Fin 4) (code data : Nat) (s : State) :
    KeepsIsl a s (s.pscRenew a code data) := by
  unfold State.pscRenew State.pscQueue
  refine .trans (t := s.onPsc a _) (.onAct s ?_) (.onAct _ ?_) <;> rfl

theorem KeepsIsl.wpCut (a : Fin 4) (bit : Nat) (s : State) : KeepsIsl a s (s.wpCut a bit) := by
  unfold State.wpCut
  split
  · exact .refl a s
  · refine .trans (.trans (.trans (.trans (.wpIdle a s) ?_) (.pscRenew a _ _ _)) (.countA a _ 1 _))
      (.actEvent a _ _ _ _)
    exact .onAct _ rfl

theorem KeepsIsl.wpCause (a : Fin 4) (bit : Nat) (on : Bool) (s : State) :
    KeepsIsl a s (s.wpCause a bit on) := by
  have hon (new : BitVec 13) (u : State) (hu : KeepsIsl a s u) :
      KeepsIsl a s ((u.onWp a fun w => { w with inhSince := s.now }).actEvent a 4 18 new.toNat) :=
    .trans (.trans hu (.onAct _ rfl)) (.actEvent a _ _ _ _)
  unfold State.wpCause
  dsimp only
  have h0 := KeepsIsl.onAct (a := a) (f := fun x => { x with wp := { x.wp with
    cause := setBit (s.act a).wp.cause bit on } }) s rfl
  refine .ite (.refl a s) (.ite ?_ (.ite (.trans (.trans h0 (.onAct _ rfl)) (.actEvent a _ _ _ _)) h0))
  exact .ite (.trans (.ite (.trans (.trans h0 (.onAct _ rfl)) (.actEvent a _ _ _ _)) h0) (.wpCut a bit _))
    (.ite (.trans (.trans h0 (.onAct _ rfl)) (.actEvent a _ _ _ _)) h0)

/-- A change of the hold for slewing sets it, and leaves the rest of the island's state (05 R148). -/
theorem State.setSlewHold_spec (a : Fin 4) (on : Bool) (s : State) :
    ((s.setSlewHold a on).act a).isl = { (s.act a).isl with slewHold := on }
      ∧ (∀ b, b ≠ a → (s.setSlewHold a on).act b = s.act b) ∧ (s.setSlewHold a on).spn = s.spn
      ∧ (s.setSlewHold a on).fab.mem = s.fab.mem := by
  obtain ⟨h1, h2, h3, h4⟩ := KeepsIsl.wpCause a 4 on (s.onIsl a fun i => { i with slewHold := on })
  refine ⟨?_, fun b hb => (h2 b hb).trans (State.act_onAct_ne _ _ hb), h3, h4⟩
  rw [State.setSlewHold, h1, State.act_onIsl_same]

/-- An actuator's island has a notice in force and may hold for it, and the other actuators and spindle control
are as before. -/
structure NoticeTaken (a : Fin 4) (n : NoticeForce) (s t : State) : Prop where
  notice : (t.act a).isl.notice = n
  holds : n.rate = 0xFFFF → (t.act a).isl.slewHold = true
  frees : n.rate = 0 → (t.act a).isl.slewHold = false
  other : ∀ b, b ≠ a → t.act b = s.act b
  spn : t.spn = s.spn

/-- Starting the coil leaves the notice (05 R150). -/
theorem NoticeTaken.startCoil {a : Fin 4} {n : NoticeForce} {s t : State} (h : NoticeTaken a n s t) :
    NoticeTaken a n s (t.startCoil a) := by
  obtain ⟨h1, h2, h3, h4, h5⟩ := h
  unfold State.startCoil State.vcmSend
  refine ⟨?_, fun hn => ?_, fun hn => ?_, fun b hb => ?_, h5⟩
  · simpa using h1
  · simpa using h2 hn
  · simpa using h3 hn
  · rw [State.onVcm, State.act_onAct_ne _ _ hb, State.onIsl, State.act_onAct_ne _ _ hb]
    exact h4 b hb

/-- A notice that arrives is in force, and holds or frees the writes of its actuator (05 R148). -/
theorem State.takeNotice_taken (a : Fin 4) (n : NoticeForce) (s : State) :
    NoticeTaken a n s (s.takeNotice a n) := by
  unfold State.takeNotice
  dsimp only
  generalize hu : (s.onIsl a fun i => { i with
    notice := n
    startSpeed := if n.rate = 0 || n.rate = 0xFFFF then 0 else i.startSpeed }) = u
  have hisl : (u.act a).isl.notice = n := by rw [← hu, State.act_onIsl_same]
  have hoth : ∀ b, b ≠ a → u.act b = s.act b := fun b hb => by
    rw [← hu]
    exact State.act_onAct_ne _ _ hb
  have hspn : u.spn = s.spn := by rw [← hu]; rfl
  have hset (on : Bool) (k1 : n.rate = 0xFFFF → on = true) (k0 : n.rate = 0 → on = false) :
      NoticeTaken a n s (u.setSlewHold a on) := by
    obtain ⟨e1, e2, e3, -⟩ := State.setSlewHold_spec a on u
    exact ⟨by rw [e1]; exact hisl, fun h => by rw [e1]; exact k1 h, fun h => by rw [e1]; exact k0 h,
      fun b hb => (e2 b hb).trans (hoth b hb), e3.trans hspn⟩
  have hv : NoticeTaken a n s (if n.rate = 0xFFFF then u.setSlewHold a true
      else if n.rate = 0 || decide ((s.act a).isl.notice.rate = 0xFFFF) then u.setSlewHold a false else u) := by
    split
    · next h => exact hset true (fun _ => rfl) (fun h0 => absurd (h.symm.trans h0) (by decide))
    · next h =>
      split
      · exact hset false (fun hf => absurd hf h) (fun _ => rfl)
      · next h' =>
        simp only [Bool.or_eq_true, decide_eq_true_eq, not_or] at h'
        exact ⟨hisl, fun hf => absurd hf h, fun h0 => absurd h0 h'.1, hoth, hspn⟩
  generalize (if n.rate = 0xFFFF then u.setSlewHold a true
      else if n.rate = 0 || decide ((s.act a).isl.notice.rate = 0xFFFF) then u.setSlewHold a false else u) = v
    at hv ⊢
  split
  · exact hv.startCoil
  · exact hv

/-- Settles O4: what each receiver does with its message. -/
theorem messagesReachTheirReceivers : Obligations.MessagesReachTheirReceivers := by
  refine ⟨?_, ?_, ?_, ?_, ?_, ?_, ?_, ?_, ?_⟩
  · rintro time drift s ⟨ht, hd, hr, hp, h8⟩
    obtain ⟨t, hx, hstep, h0, h1⟩ := State.broadcast_one ht hd
    have hm : s.replicaMeets 1 (nth drift 1 0) = s.onFab fun f => { f with
        replica := setNth f.replica 1 (max (nth drift 1 0) (nth f.replica 1 0 - 1)) } := by
      simp [State.replicaMeets, State.replicaRuns_one hp, Nat.not_lt.2 h8]
    rw [hm] at hstep h1
    refine ⟨t, hx, h1.trans ?_, h0, ?_, ?_⟩
    · exact nth_setNth_same (by omega) _ _
    · rw [hstep.1]; rfl
    · rw [hstep.1]; rfl
  · rintro time drift s ⟨ht, hd, hr, hp, h8⟩
    obtain ⟨t, hx, hstep, -, h1⟩ := State.broadcast_one ht hd
    have hm : s.replicaMeets 1 (nth drift 1 0) = (s.fault epResident 46 1).onFab fun f => { f with
        replica := setNth f.replica 1 0 } := by
      simp [State.replicaMeets, State.replicaRuns_one hp, h8, islandEp]
    rw [hm] at hstep h1
    refine ⟨t, hx, h1.trans (nth_setNth_same (by show 1 < s.fab.replica.length; omega) _ _), ?_, ?_⟩
    · exact .grows (.send _ s) (.trans (.of_eq rfl) hstep.2)
    · rw [hstep.1]; rfl
  · rintro src dst acc at' period late hold unl s ⟨hm, hp, hr, ha⟩
    refine ⟨_, rfl, ?_⟩
    rw [State.takeMsg_only hm ha (by simp)]
    dsimp only
    generalize hm' : ({ src := _, dst := _, body := _ } : Msg) = m at *
    have hpw : (s.delivered m).domOn (20 + dst.val) = true := hp
    rw [hpw]
    have hn : ¬ at' + s.wedgeT dst - 320 < s.now16 := Nat.not_lt.2 hr
    simp only [Bool.not_true, Bool.false_eq_true, if_false]
    rw [if_neg (show ¬ at' + (s.delivered m).wedgeT dst - 320 < (s.delivered m).now16 from hn)]
    refine ⟨?_, rfl, rfl⟩
    rw [State.act_onMbx_same, Four.get_set_same]
    rfl
  · rintro src dst r v u q s ⟨hq, hr⟩
    refine ⟨_, rfl, ?_⟩
    simp only [hq, List.find?_cons, hr, decide_true, State.mailboxSet]
    rw [State.onMbx, State.onMbx, State.onAct_onAct]
    refine ⟨?_, .onAct _ _ _, rfl⟩
    rw [State.act_onAct_same]
    simp [hq, hr, dropFirst]
  · rintro src dst s hr
    refine ⟨_, rfl, ?_⟩
    rw [if_neg (Nat.not_lt.2 hr)]
    refine ⟨?_, .onAct _ _ _, rfl⟩
    rw [State.act_onMbx_same, Four.get_set_same]
  · rintro a w at' locked missing frozen s ⟨hm, ha⟩
    refine ⟨_, rfl, ?_⟩
    rw [State.takeMsg_only hm ha (by simp)]
    dsimp only
    generalize ({ src := _, dst := _, body := _ } : Msg) = m
    obtain ⟨h1, h2⟩ := State.takeWedge_heads a w at' locked missing frozen (s.delivered m)
    refine ⟨?_, h1, ?_, ?_⟩ <;> rw [h2] <;> rfl
  · rintro a n s ⟨hm, ha, hp⟩
    refine ⟨_, rfl, ?_⟩
    rw [State.takeMsg_only hm ha (by simp)]
    dsimp only
    generalize ({ src := _, dst := _, body := _ } : Msg) = m
    rw [if_pos (show (s.delivered m).domOn (20 + a.val) = true from hp)]
    obtain ⟨h1, h2, h3, h4, h5⟩ := State.takeNotice_taken a n (s.delivered m)
    exact ⟨h1, h2, h3, h4, h5⟩
  · rintro a s ⟨hpr, h0, hF, hp, hst, hlt⟩
    refine ⟨_, rfl, ?_⟩
    simp only [hpr, hp, hst, decide_true, Bool.and_self, if_true, State.noticeStarts, h0, hF, decide_false,
      Bool.or_self, Bool.false_eq_true, if_false]
    obtain ⟨e1, e2, e3, e4⟩ := State.setSlewHold_spec a (decide (s.odNat 0x204004 40 < (s.act a).isl.notice.rate.toNat))
      (s.onIsl a fun i => { i with startSpeed := s.islandSpeed a })
    refine ⟨?_, ?_, fun b hb => (e2 b hb).trans (State.act_onAct_ne _ _ hb), e3, .of_mem e4⟩
    · have hlt' : s.odNat 0x204004 40 < (s.act a).isl.notice.rate.toNat := hlt
      exact (congrArg Isl.slewHold e1).trans (decide_eq_true hlt')
    · exact (congrArg Isl.notice e1).trans (by rw [State.act_onIsl_same])
  · rintro a s ⟨hpr, h0, hF, hp, hov⟩
    refine ⟨_, rfl, ?_⟩
    simp only [hpr, hp, hov, Bool.and_self, if_true, State.noticeEnds, h0, hF, decide_false,
      Bool.or_self, Bool.false_eq_true, if_false]
    obtain ⟨e1, e2, e3, e4⟩ := State.setSlewHold_spec a false
      (s.onIsl a fun i => { i with notice := { i.notice with rate := 0 }, startSpeed := 0 })
    refine ⟨congrArg Isl.slewHold e1, ?_, fun b hb => (e2 b hb).trans (State.act_onAct_ne _ _ hb), e3, .of_mem e4⟩
    exact (congrArg (fun i => i.notice.rate) e1).trans (by rw [State.act_onIsl_same])

end Sys2Proof.Machine

/-! SUPPORT. Core accesses, fences and register writes: what a core's port changes, and what the checks of an
access read (01 R14, R15, R24, 04 R127). -/

namespace Sys2Proof.Machine

open Sys2Proof

set_option Elab.async false

/-! A core's port holds no part of what the checks of an access read: readers of the registers are the same with
it changed. -/

section Readers

variable (s : State) (c : Endpoint) (f : CorePort → CorePort)

theorem State.hm_onCore : (s.onCore c f).hm = s.hm := id rfl
theorem State.errorOut_onCore : (s.onCore c f).errorOut = s.errorOut := id rfl
theorem State.hmSrc_onCore (n : Nat) : (s.onCore c f).hmSrc n = s.hmSrc n := id rfl
theorem State.causeWord_onCore : (s.onCore c f).causeWord = s.causeWord := id rfl
theorem State.srcBits_onCore (n : Nat) (g : HmSrc → Bool) : (s.onCore c f).srcBits n g = s.srcBits n g := id rfl
theorem State.histBytes_onCore (n : Nat) : (s.onCore c f).histBytes n = s.histBytes n := id rfl
theorem State.srcReg_onCore (n m : Nat) : (s.onCore c f).srcReg n m = s.srcReg n m := id rfl
theorem State.readHallView_onCore (a : Fin 4) (off : Nat) :
    (s.onCore c f).readHallView a off = s.readHallView a off := id rfl
theorem State.srcAbsent_onCore (n : Nat) : (s.onCore c f).srcAbsent n = s.srcAbsent n := id rfl
theorem State.domReady_onCore (n : Nat) : (s.onCore c f).domReady n = s.domReady n := id rfl
theorem State.winOf_onCore (n : Nat) : (s.onCore c f).winOf n = s.winOf n := id rfl
theorem State.winPresent_onCore (p : BusWin) : (s.onCore c f).winPresent p = s.winPresent p := id rfl

theorem State.readHall_onCore (off : Nat) : (s.onCore c f).readHall off = s.readHall off := by
  unfold State.readHall
  simp only [State.hm_onCore, State.errorOut_onCore, State.hmSrc_onCore, State.causeWord_onCore,
    State.srcBits_onCore, State.histBytes_onCore, State.srcReg_onCore, State.readHallView_onCore]

theorem State.readEvents_onCore (off : Nat) : (s.onCore c f).readEvents off = s.readEvents off := id rfl
theorem State.readYearbook_onCore (w : YbWho) (off : Nat) :
    (s.onCore c f).readYearbook w off = s.readYearbook w off := id rfl
theorem State.readDma_onCore (off : Nat) : (s.onCore c f).readDma off = s.readDma off := id rfl
theorem State.readSpindle_onCore (off : Nat) : (s.onCore c f).readSpindle off = s.readSpindle off := id rfl
theorem State.readIsland_onCore (a : Fin 4) (off : Nat) :
    (s.onCore c f).readIsland a off = s.readIsland a off := id rfl
theorem State.readScrubber_onCore (off : Nat) : (s.onCore c f).readScrubber off = s.readScrubber off := id rfl

theorem State.regAt_onCore (r : Rights) (p : BusWin) (off : Nat) :
    (s.onCore c f).regAt r p off = s.regAt r p off := by
  delta State.regAt
  simp only [State.readHall_onCore, State.readEvents_onCore, State.readYearbook_onCore, State.readDma_onCore,
    State.readSpindle_onCore, State.readIsland_onCore, State.readScrubber_onCore]

/-- A core's port does not decide whether an access is refused. -/
theorem State.refusal_onCore (src : Endpoint) (ch : Option (Fin 16)) (acc : Access) :
    (s.onCore c f).refusal src ch acc = s.refusal src ch acc := by
  unfold State.refusal
  rw [State.winOf_onCore]
  cases s.winOf acc.addr with
  | none => rfl
  | some p =>
    simp only [State.offsetsOk, State.injectsAbsent, State.regAt_onCore, State.srcAbsent_onCore,
      State.winPresent_onCore]
    cases p.domain with
    | none => rfl
    | some d => simp only [State.domReady_onCore]

end Readers

/-! A core's port. -/

theorem Tab.getD_put_of_ne {α : Type} [DecidableEq α] (t : Tab α) (k : Nat) {v d : α} (h : v ≠ d) (e : α) :
    Tab.getD (Tab.put t k v d) k e = v := by
  rw [Tab.put, if_neg h, Tab.getD, Tab.get?_set_same]
  rfl

/-- What one address leaves of a write of others. -/
theorem State.onCore_fab (s : State) (c : Endpoint) (f : CorePort → CorePort) :
    (s.onCore c f).fab.txns = s.fab.txns ∧ (s.onCore c f).fab.results = s.fab.results
      ∧ (s.onCore c f).fab.mem = s.fab.mem ∧ (s.onCore c f).fab.msgs = s.fab.msgs
      ∧ (s.onCore c f).acts = s.acts ∧ (s.onCore c f).fab.nextTxn = s.fab.nextTxn := ⟨rfl, rfl, rfl, rfl, rfl, rfl⟩

/-- A result given adds itself to the results, and may change the port of the core that asked (01 R16). -/
theorem State.giveResult_fab (t : Txn) (kind : Nat) (data : List Byte) (s : State) :
    (s.giveResult t kind data).fab.results = s.fab.results ++ [{
        id := t.id, src := t.src, chan := t.chan, kind := BitVec.ofNat 4 kind
        data := if kind = 0 then data else [] }]
      ∧ (s.giveResult t kind data).fab.txns = s.fab.txns ∧ (s.giveResult t kind data).fab.mem = s.fab.mem
      ∧ (s.giveResult t kind data).fab.msgs = s.fab.msgs ∧ (s.giveResult t kind data).acts = s.acts := by
  unfold State.giveResult
  dsimp only
  split <;> exact ⟨rfl, rfl, rfl, rfl, rfl⟩

/-- An access that no check refuses and whose target takes it goes into flight (01 R14, R15). -/
theorem State.issue_flies {src : Endpoint} {chan : Option (Fin 16)} {acc : Access} {s : State}
    (hr : s.refusal src chan acc = none) (ha : s.amoTarget acc = true) :
    s.issue src chan acc = s.onFab fun f => { f with
      nextTxn := f.nextTxn + 1
      txns := f.txns ++ [{ id := f.nextTxn, src := src, chan := chan, acc := acc
                           behind := s.pairMsgs src (s.accEp src acc) }] } := by
  unfold State.issue
  simp only [hr, ha, Bool.not_true, Bool.false_eq_true, if_false]
  rfl

/-- A running core's access of 36 bits reaches its own memory, its own registers or Kyomos, unless it is
misaligned (01 R14). -/
theorem execCoreMemoryAccess_eq {core : Endpoint} {acc : Access} {s : State} (hc : isCore core = true)
    (hr : s.coreRuns core = true) (hf : s.fenced core = false) (hs : accShaped acc true = true)
    (ha : acc.addr < 2 ^ 32) (ecc : CoreEcc) :
    exec (.coreMemoryAccess core acc ecc) s = .next (
      if !accAligned acc then s.onCore core fun c => { c with misaligned := some (misalignOf acc.kind) }
      else
        let s := s.onCore core fun c => { c with misaligned := none }
        match ownTcm core acc with
        | some a => if acc.kind = .amo then s else s.tcmChecked core acc a ecc
        | none =>
          match ecc with
          | .l2Corrected b =>
            if core.toNat < 4 then (s.coreFault core 38 0 acc b).coreIssue core acc
            else s.coreIssue core acc
          | .l2Bad b =>
            if core.toNat < 4 then
              let x := s.newTxn core none acc
              (x.2.coreFault core 38 1 acc b).giveResult x.1 5 []
            else s.coreIssue core acc
          | _ => s.coreIssue core acc) := by
  show execCoreMemoryAccess core acc ecc s = _
  unfold execCoreMemoryAccess
  have h32 : decide (2 ^ 32 ≤ acc.addr) = false := decide_eq_false (Nat.not_le.2 ha)
  simp only [hc, hr, hf, hs, h32, Bool.not_true, Bool.or_self, Bool.and_false, Bool.false_eq_true, if_false] <;>
    rfl

/-- A fenced endpoint issues nothing (01 R15). -/
theorem fabricTransaction_fenced {src : Endpoint} {s : State} (h : s.fenced src = true)
    (chan : Option (Fin 16)) (acc : Access) : exec (.fabricTransaction src chan acc) s = .next s := by
  show execFabricTransaction src chan acc s = _
  rw [execFabricTransaction, h]
  rfl

/-- SPN_FLAGS stands in the window of the spindle (01 R28). -/
theorem State.winOf_spnFlags (s : State) : s.winOf 0x20800008 = some .spindle := rfl

/-- A principal core's word write of SPN_FLAGS passes every check (01 R24, 04 R127). -/
theorem refusal_spnFlags {src : Endpoint} (h : src.toNat < 4) (b : List Byte) (s : State) :
    s.refusal src none { kind := .write, amo := .swap, addr := 0x20800008, size := 4, data := b } = none := by
  have hd : src ≠ epDma := by
    rintro rfl
    exact absurd h (by decide)
  have hr : rightsOf src none = .principal ⟨src.toNat, h⟩ := by
    rw [rightsOf, if_neg hd, dif_pos h]
  have hw := s.winOf_spnFlags
  have ho : s.offsetsOk (.principal ⟨src.toNat, h⟩) .spindle 0x20800008 4 = true := by
    have h1 : ((0x20800008 + 4 + 3) / 4 - 0x20800008 / 4 : Nat) = 1 := rfl
    have h2 : s.regAt (.principal ⟨src.toNat, h⟩) .spindle 8 ≠ .absent := by
      show RegHere.word _ ≠ _
      simp
    have h3 : (0x20800008 / 4 * 4 + 4 * 0) % 0x100000 = 8 := rfl
    simp only [State.offsetsOk, h1, List.range_one, List.all_cons, h3, List.all_nil, Bool.and_true, h2, ne_eq,
      not_false_eq_true, decide_true, Bool.or_true]
  unfold State.refusal
  rw [hr]
  simp only [hw, ho, State.winPresent, State.injectsAbsent, mayReach, strays, BusWin.domain, Bool.not_true,
    Bool.false_eq_true, if_false, reduceCtorEq, decide_false, Bool.false_and, Bool.or_self, ne_eq,
    not_false_eq_true, decide_true, Bool.true_or]

/-- Settles O3: what a core's port, a fence and a write of SPN_FLAGS change. -/
theorem coreAccessesFencesAndRegisterWrites : Obligations.CoreAccessesFencesAndRegisterWrites := by
  refine ⟨?_, ?_, ?_, ?_, ?_, ?_, ?_⟩
  · rintro core acc ecc s ⟨hc, hr, hf, hs, h32, ha⟩
    refine ⟨_, execCoreMemoryAccess_eq hc hr hf hs h32 ecc, ?_⟩
    simp only [ha, Bool.not_false, if_true]
    refine ⟨?_, rfl, rfl, rfl, rfl⟩
    have hne (x : CorePort) : { x with misaligned := some (misalignOf acc.kind) } ≠ CorePort.reset := by
      intro h
      exact absurd (congrArg CorePort.misaligned h) (by simp [CorePort.reset])
    exact congrArg CorePort.misaligned (Tab.getD_put_of_ne s.fab.cores core.toNat (hne _) CorePort.reset)
  · rintro core acc at' s ⟨hc, hr, hf, hs, h32, ha, hk, hl, ho⟩
    refine ⟨_, execCoreMemoryAccess_eq hc hr hf hs h32 .clean, ?_⟩
    simp only [ha, ho, hk, Bool.not_true, Bool.false_eq_true, if_false, State.tcmChecked, State.tcmAccess,
      reduceCtorEq]
    rw [padTo_of_length hl]
    obtain ⟨-, h2, h3, h4, h5⟩ := State.giveResult_fab
      ((s.onCore core fun c => { c with misaligned := none }).newTxn core none acc).1 0 []
      (((s.onCore core fun c => { c with misaligned := none }).newTxn core none acc).2.write at' acc.data)
    exact ⟨h3.trans rfl, h2, h4, h5⟩
  · rintro core acc at' b s ⟨hc, hr, hf, hs, h32, ha, hk, ho⟩
    refine ⟨_, execCoreMemoryAccess_eq hc hr hf hs h32 (.tcmBad b), ?_⟩
    simp only [ha, ho, hk, Bool.not_true, Bool.false_eq_true, if_false, State.tcmChecked]
    obtain ⟨h1, -, h3, h4, h5⟩ := State.giveResult_fab
      ((s.onCore core fun c => { c with misaligned := none }).newTxn core none acc).1 5 []
      (((s.onCore core fun c => { c with misaligned := none }).newTxn core none acc).2.coreFault core 35
        (tcmKind core) acc b)
    exact ⟨h1, h4, .of_mem h3, h5⟩
  · rintro core acc s ⟨hc, hr, hf, hs, h32, ha, ho, hm, hl, hn⟩
    refine ⟨_, execCoreMemoryAccess_eq hc hr hf hs h32 .clean, ?_⟩
    have hl' : (s.onCore core fun c => { c with misaligned := none }).local core acc = false := hl
    have hn' := (State.refusal_onCore s core (fun c => { c with misaligned := none }) core none acc).trans hn
    have hm' : (s.onCore core fun c => { c with misaligned := none }).amoTarget acc = true := hm
    simp only [ha, ho, Bool.not_true, Bool.false_eq_true, if_false, State.coreIssue, hl']
    rw [State.issue_flies hn' hm']
    exact ⟨rfl, rfl, rfl, rfl⟩
  · rintro src s hf
    refine ⟨_, rfl, ?_⟩
    simp only [hf, Bool.false_eq_true, if_false]
    have hfen : (s.onFab fun f => { f with fences := f.fences ++ [{
        src := src
        txns := (f.txns.filter fun t => decide (t.src = src)).map Txn.id
        msgs := f.msgs.filter fun m => decide (m.src = src) }] }).fenced src = true := by
      simp [State.fenced]
    exact ⟨hfen, rfl, rfl, fun acc => ⟨_, fabricTransaction_fenced hfen none acc, rfl⟩⟩
  · rintro src s hmet
    refine ⟨_, rfl, ?_, rfl, rfl, rfl⟩
    simp only [State.fenced, State.onFab_fab, List.any_eq_false, List.mem_filter]
    rintro x ⟨hx, hk⟩ hsrc
    rw [beq_iff_eq] at hsrc
    rw [hsrc, hmet x hx hsrc] at hk
    simp at hk
  · rintro src v s ⟨h4, hr, hf, hp⟩
    have hc : isCore src = true := by simp [isCore, Nat.le_of_lt h4]
    refine ⟨_, ?_, rfl⟩
    show execRegisterWrite src 0x20800008 v s = _
    unfold execRegisterWrite
    have hlo : decide (4 ≤ src.toNat) = false := decide_eq_false (Nat.not_le.2 h4)
    have haddr : (0x20800008 : BitVec 36).toNat = 0x20800008 := by simp
    have hal (b : List Byte) : accAligned { kind := .write, amo := .swap, addr := 0x20800008, size := 4, data := b }
        = true := by
      exact decide_eq_true (show 0x20800008 % 4 = 0 by decide)
    simp only [haddr, hf, hc, hr, hlo, hal, refusal_spnFlags h4, Bool.not_true, Bool.and_false, Bool.or_self,
      Bool.false_and, Bool.false_eq_true, if_false]
    have hloc (b : List Byte) : s.local src { kind := .write, amo := .swap, addr := 0x20800008, size := 4, data := b }
        = false := by
      simp only [State.local, s.winOf_spnFlags]
      exact decide_eq_false (by omega)
    have hep (b : List Byte) : s.accEp src { kind := .write, amo := .swap, addr := 0x20800008, size := 4, data := b }
        = epSpindle := by
      simp only [State.accEp, s.winOf_spnFlags]
      rfl
    have hoff : 0x20800008 % 0x100000 = 8 := rfl
    simp only [State.putRegister, hloc, hep, hp, s.winOf_spnFlags, hoff, Bool.and_false, Bool.false_eq_true, if_false]
    rfl

end Sys2Proof.Machine

/-! SUPPORT. Frames: which parts of the machine an operation may touch. -/

namespace Sys2Proof.Machine

open Sys2Proof

set_option Elab.async false

theorem Four.ext_get {α : Type} {v w : Four α} (h : ∀ a, v.get a = w.get a) : v = w := by
  obtain ⟨v0, v1, v2, v3⟩ := v
  obtain ⟨w0, w1, w2, w3⟩ := w
  have e0 : v0 = w0 := h 0
  have e1 : v1 = w1 := h 1
  have e2 : v2 = w2 := h 2
  have e3 : v3 = w3 := h 3
  rw [e0, e1, e2, e3]

/-- The parts of the machine that a frame speaks of. -/
inductive Part where
  | ident | time | msgs | mem | txns | sys | dict | spn | act (a : Fin 4) | acts | pool | recov | plc | tt
  | nvme | dramc | scr | buf | ciph | dma | hm | yb | pwr | rc | evc | tims | ports | free | pending
  deriving DecidableEq

/-- Only the parts listed changed between two states. -/
structure Only (l : List Part) (s t : State) : Prop where
  ident : .ident ∉ l → t.ident = s.ident
  time : .time ∉ l → t.fab.chipTime = s.fab.chipTime ∧ t.fab.replica = s.fab.replica
  msgs : .msgs ∉ l → t.fab.msgs = s.fab.msgs
  mem : .mem ∉ l → t.fab.mem = s.fab.mem
  txns : .txns ∉ l → t.fab.txns = s.fab.txns ∧ t.fab.results = s.fab.results ∧ t.fab.nextTxn = s.fab.nextTxn
    ∧ t.fab.fences = s.fab.fences ∧ t.fab.cores = s.fab.cores
  sys : .sys ∉ l → t.sys = s.sys
  dict : .dict ∉ l → t.dict = s.dict
  spn : .spn ∉ l → t.spn = s.spn
  act : ∀ a, ¬ (.act a ∈ l ∨ .acts ∈ l) → t.act a = s.act a
  pool : .pool ∉ l → t.pool = s.pool
  recov : .recov ∉ l → t.recov = s.recov
  plc : .plc ∉ l → t.plc = s.plc
  tt : .tt ∉ l → t.tt = s.tt
  nvme : .nvme ∉ l → t.nvme = s.nvme
  dramc : .dramc ∉ l → t.dramc = s.dramc
  scr : .scr ∉ l → t.scr = s.scr
  buf : .buf ∉ l → t.buf = s.buf
  ciph : .ciph ∉ l → t.ciph = s.ciph
  dma : .dma ∉ l → t.dma = s.dma
  hm : .hm ∉ l → t.hm = s.hm
  yb : .yb ∉ l → t.yb = s.yb
  pwr : .pwr ∉ l → t.pwr = s.pwr
  rc : .rc ∉ l → t.rc = s.rc
  evc : .evc ∉ l → t.evc = s.evc
  tims : .tims ∉ l → t.tims = s.tims
  ports : .ports ∉ l → t.ports = s.ports
  free : .free ∉ l → t.free = s.free
  pending : .pending ∉ l → t.pending = s.pending

namespace Only

variable {l : List Part} {z s t u : State}

theorem refl (l : List Part) (s : State) : Only l s s where
  ident _ := rfl
  time _ := ⟨rfl, rfl⟩
  msgs _ := rfl
  mem _ := rfl
  txns _ := ⟨rfl, rfl, rfl, rfl, rfl⟩
  sys _ := rfl
  dict _ := rfl
  spn _ := rfl
  act _ _ := rfl
  pool _ := rfl
  recov _ := rfl
  plc _ := rfl
  tt _ := rfl
  nvme _ := rfl
  dramc _ := rfl
  scr _ := rfl
  buf _ := rfl
  ciph _ := rfl
  dma _ := rfl
  hm _ := rfl
  yb _ := rfl
  pwr _ := rfl
  rc _ := rfl
  evc _ := rfl
  tims _ := rfl
  ports _ := rfl
  free _ := rfl
  pending _ := rfl

theorem trans (h : Only l s t) (k : Only l t u) : Only l s u where
  ident n := (k.ident n).trans (h.ident n)
  time n := ⟨(k.time n).1.trans (h.time n).1, (k.time n).2.trans (h.time n).2⟩
  msgs n := (k.msgs n).trans (h.msgs n)
  mem n := (k.mem n).trans (h.mem n)
  txns n := by
    obtain ⟨h1, h2, h3, h4, h5⟩ := h.txns n
    obtain ⟨k1, k2, k3, k4, k5⟩ := k.txns n
    exact ⟨k1.trans h1, k2.trans h2, k3.trans h3, k4.trans h4, k5.trans h5⟩
  sys n := (k.sys n).trans (h.sys n)
  dict n := (k.dict n).trans (h.dict n)
  spn n := (k.spn n).trans (h.spn n)
  act a n := (k.act a n).trans (h.act a n)
  pool n := (k.pool n).trans (h.pool n)
  recov n := (k.recov n).trans (h.recov n)
  plc n := (k.plc n).trans (h.plc n)
  tt n := (k.tt n).trans (h.tt n)
  nvme n := (k.nvme n).trans (h.nvme n)
  dramc n := (k.dramc n).trans (h.dramc n)
  scr n := (k.scr n).trans (h.scr n)
  buf n := (k.buf n).trans (h.buf n)
  ciph n := (k.ciph n).trans (h.ciph n)
  dma n := (k.dma n).trans (h.dma n)
  hm n := (k.hm n).trans (h.hm n)
  yb n := (k.yb n).trans (h.yb n)
  pwr n := (k.pwr n).trans (h.pwr n)
  rc n := (k.rc n).trans (h.rc n)
  evc n := (k.evc n).trans (h.evc n)
  tims n := (k.tims n).trans (h.tims n)
  ports n := (k.ports n).trans (h.ports n)
  free n := (k.free n).trans (h.free n)
  pending n := (k.pending n).trans (h.pending n)

theorem symm (h : Only l s t) : Only l t s where
  ident n := (h.ident n).symm
  time n := ⟨(h.time n).1.symm, (h.time n).2.symm⟩
  msgs n := (h.msgs n).symm
  mem n := (h.mem n).symm
  txns n := by
    obtain ⟨h1, h2, h3, h4, h5⟩ := h.txns n
    exact ⟨h1.symm, h2.symm, h3.symm, h4.symm, h5.symm⟩
  sys n := (h.sys n).symm
  dict n := (h.dict n).symm
  spn n := (h.spn n).symm
  act a n := (h.act a n).symm
  pool n := (h.pool n).symm
  recov n := (h.recov n).symm
  plc n := (h.plc n).symm
  tt n := (h.tt n).symm
  nvme n := (h.nvme n).symm
  dramc n := (h.dramc n).symm
  scr n := (h.scr n).symm
  buf n := (h.buf n).symm
  ciph n := (h.ciph n).symm
  dma n := (h.dma n).symm
  hm n := (h.hm n).symm
  yb n := (h.yb n).symm
  pwr n := (h.pwr n).symm
  rc n := (h.rc n).symm
  evc n := (h.evc n).symm
  tims n := (h.tims n).symm
  ports n := (h.ports n).symm
  free n := (h.free n).symm
  pending n := (h.pending n).symm

/-- What a step within the parts leads to agrees outside them with the same states as what it starts from. -/
theorem after (h : Only l s t) : Only l z t ↔ Only l z s := ⟨fun k => k.trans h.symm, fun k => k.trans h⟩

theorem ite {c : Prop} [Decidable c] :
    Only l z (if c then s else t) ↔ if c then Only l z s else Only l z t := by
  split <;> rfl

theorem doIf {f : State → State} {c : Bool} (h : Only l s (f s)) :
    Only l z (s.doIf c f) ↔ Only l z s := by
  cases c
  · rfl
  · exact h.after

theorem foldS {α : Type} {f : α → State → State} {xs : List α} (h : ∀ x t, Only l t (f x t)) :
    Only l z (foldS f xs s) ↔ Only l z s :=
  (foldS_keeps (Only l s) f (fun x t ht => ht.trans (h x t)) xs (.refl l s)).after

theorem foldl {α : Type} {f : State → α → State} {xs : List α} (h : ∀ x t, Only l t (f t x)) :
    Only l z (xs.foldl f s) ↔ Only l z s := by
  induction xs generalizing s with
  | nil => rfl
  | cons x r ih => exact ih.trans (h x s).after

/-- A frame that lists more parts says less. -/
theorem mono {m : List Part} (h : Only l s t) (hm : l ⊆ m) : Only m s t where
  ident n := h.ident fun c => n (hm c)
  time n := h.time fun c => n (hm c)
  msgs n := h.msgs fun c => n (hm c)
  mem n := h.mem fun c => n (hm c)
  txns n := h.txns fun c => n (hm c)
  sys n := h.sys fun c => n (hm c)
  dict n := h.dict fun c => n (hm c)
  spn n := h.spn fun c => n (hm c)
  act a n := h.act a fun c => n (c.imp (fun x => hm x) fun x => hm x)
  pool n := h.pool fun c => n (hm c)
  recov n := h.recov fun c => n (hm c)
  plc n := h.plc fun c => n (hm c)
  tt n := h.tt fun c => n (hm c)
  nvme n := h.nvme fun c => n (hm c)
  dramc n := h.dramc fun c => n (hm c)
  scr n := h.scr fun c => n (hm c)
  buf n := h.buf fun c => n (hm c)
  ciph n := h.ciph fun c => n (hm c)
  dma n := h.dma fun c => n (hm c)
  hm n := h.hm fun c => n (hm c)
  yb n := h.yb fun c => n (hm c)
  pwr n := h.pwr fun c => n (hm c)
  rc n := h.rc fun c => n (hm c)
  evc n := h.evc fun c => n (hm c)
  tims n := h.tims fun c => n (hm c)
  ports n := h.ports fun c => n (hm c)
  free n := h.free fun c => n (hm c)
  pending n := h.pending fun c => n (hm c)

/-- All four actuators are as before. -/
theorem allActs (h : Only l s t) (n : ∀ a, ¬ (.act a ∈ l ∨ .acts ∈ l)) : t.acts = s.acts :=
  Four.ext_get fun a => h.act a (n a)

/-- Memory reads as before. -/
theorem memorySame (h : Only l s t) (n : .mem ∉ l) : MemorySame s t := .of_mem (h.mem n)

end Only

end Sys2Proof.Machine

/-! SUPPORT. Frames of the State's own operations. -/

namespace Sys2Proof.Machine

open Sys2Proof

set_option Elab.async false

variable {l : List Part}

theorem State.onIdent_only (h_ident : .ident ∈ l) (f : Ident → Ident) (z s : State) :
    Only l z (s.onIdent f) ↔ Only l z s :=
  Only.after { Only.refl l s with ident := fun n => absurd h_ident n }

theorem State.onSys_only (h_sys : .sys ∈ l) (f : Sys → Sys) (z s : State) :
    Only l z (s.onSys f) ↔ Only l z s :=
  Only.after { Only.refl l s with sys := fun n => absurd h_sys n }

theorem State.onDict_only (h_dict : .dict ∈ l) (f : Dict → Dict) (z s : State) :
    Only l z (s.onDict f) ↔ Only l z s :=
  Only.after { Only.refl l s with dict := fun n => absurd h_dict n }

theorem State.onSpn_only (h_spn : .spn ∈ l) (f : Spn → Spn) (z s : State) :
    Only l z (s.onSpn f) ↔ Only l z s :=
  Only.after { Only.refl l s with spn := fun n => absurd h_spn n }

theorem State.onPool_only (h_pool : .pool ∈ l) (f : Pool → Pool) (z s : State) :
    Only l z (s.onPool f) ↔ Only l z s :=
  Only.after { Only.refl l s with pool := fun n => absurd h_pool n }

theorem State.onRecov_only (h_recov : .recov ∈ l) (f : Rec → Rec) (z s : State) :
    Only l z (s.onRecov f) ↔ Only l z s :=
  Only.after { Only.refl l s with recov := fun n => absurd h_recov n }

theorem State.onPlc_only (h_plc : .plc ∈ l) (f : Plc → Plc) (z s : State) :
    Only l z (s.onPlc f) ↔ Only l z s :=
  Only.after { Only.refl l s with plc := fun n => absurd h_plc n }

theorem State.onTt_only (h_tt : .tt ∈ l) (f : Tt → Tt) (z s : State) :
    Only l z (s.onTt f) ↔ Only l z s :=
  Only.after { Only.refl l s with tt := fun n => absurd h_tt n }

theorem State.onNvme_only (h_nvme : .nvme ∈ l) (f : Nvme → Nvme) (z s : State) :
    Only l z (s.onNvme f) ↔ Only l z s :=
  Only.after { Only.refl l s with nvme := fun n => absurd h_nvme n }

theorem State.onDramc_only (h_dramc : .dramc ∈ l) (f : Dramc → Dramc) (z s : State) :
    Only l z (s.onDramc f) ↔ Only l z s :=
  Only.after { Only.refl l s with dramc := fun n => absurd h_dramc n }

theorem State.onScr_only (h_scr : .scr ∈ l) (f : Scr → Scr) (z s : State) :
    Only l z (s.onScr f) ↔ Only l z s :=
  Only.after { Only.refl l s with scr := fun n => absurd h_scr n }

theorem State.onBuf_only (h_buf : .buf ∈ l) (f : Buf → Buf) (z s : State) :
    Only l z (s.onBuf f) ↔ Only l z s :=
  Only.after { Only.refl l s with buf := fun n => absurd h_buf n }

theorem State.onCiph_only (h_ciph : .ciph ∈ l) (f : Ciph → Ciph) (z s : State) :
    Only l z (s.onCiph f) ↔ Only l z s :=
  Only.after { Only.refl l s with ciph := fun n => absurd h_ciph n }

theorem State.onDma_only (h_dma : .dma ∈ l) (f : Dma → Dma) (z s : State) :
    Only l z (s.onDma f) ↔ Only l z s :=
  Only.after { Only.refl l s with dma := fun n => absurd h_dma n }

theorem State.onHm_only (h_hm : .hm ∈ l) (f : Hm → Hm) (z s : State) :
    Only l z (s.onHm f) ↔ Only l z s :=
  Only.after { Only.refl l s with hm := fun n => absurd h_hm n }

theorem State.onYb_only (h_yb : .yb ∈ l) (f : Yb → Yb) (z s : State) :
    Only l z (s.onYb f) ↔ Only l z s :=
  Only.after { Only.refl l s with yb := fun n => absurd h_yb n }

theorem State.onPwr_only (h_pwr : .pwr ∈ l) (f : Pwr → Pwr) (z s : State) :
    Only l z (s.onPwr f) ↔ Only l z s :=
  Only.after { Only.refl l s with pwr := fun n => absurd h_pwr n }

theorem State.onRc_only (h_rc : .rc ∈ l) (f : Rc → Rc) (z s : State) :
    Only l z (s.onRc f) ↔ Only l z s :=
  Only.after { Only.refl l s with rc := fun n => absurd h_rc n }

theorem State.onEvc_only (h_evc : .evc ∈ l) (f : Evc → Evc) (z s : State) :
    Only l z (s.onEvc f) ↔ Only l z s :=
  Only.after { Only.refl l s with evc := fun n => absurd h_evc n }

theorem State.onTims_only (h_tims : .tims ∈ l) (f : Tab Timer → Tab Timer) (z s : State) :
    Only l z (s.onTims f) ↔ Only l z s :=
  Only.after { Only.refl l s with tims := fun n => absurd h_tims n }

theorem State.onPorts_only (h_ports : .ports ∈ l) (f : Ports → Ports) (z s : State) :
    Only l z (s.onPorts f) ↔ Only l z s :=
  Only.after { Only.refl l s with ports := fun n => absurd h_ports n }

theorem State.onAct_only (a : Fin 4) (h_act : .act a ∈ l ∨ .acts ∈ l) (f : Act → Act) (z s : State) :
    Only l z (s.onAct a f) ↔ Only l z s :=
  Only.after { Only.refl l s with
    act := fun b n => State.act_onAct_ne s f fun e => n (e ▸ h_act) }

theorem State.onActs_only (h_acts : .acts ∈ l) (f : Four Act → Four Act) (z s : State) :
    Only l z (s.onActs f) ↔ Only l z s :=
  Only.after { Only.refl l s with act := fun b n => absurd (.inr h_acts) n }

theorem State.onIsl_only (a : Fin 4) (h_act : .act a ∈ l ∨ .acts ∈ l) (f : Isl → Isl) (z s : State) :
    Only l z (s.onIsl a f) ↔ Only l z s := State.onAct_only a h_act _ z s

theorem State.onSvd_only (a : Fin 4) (h_act : .act a ∈ l ∨ .acts ∈ l) (f : Svd → Svd) (z s : State) :
    Only l z (s.onSvd a f) ↔ Only l z s := State.onAct_only a h_act _ z s

theorem State.onMsn_only (a : Fin 4) (h_act : .act a ∈ l ∨ .acts ∈ l) (f : Msn → Msn) (z s : State) :
    Only l z (s.onMsn a f) ↔ Only l z s := State.onAct_only a h_act _ z s

theorem State.onVcm_only (a : Fin 4) (h_act : .act a ∈ l ∨ .acts ∈ l) (f : Vcm → Vcm) (z s : State) :
    Only l z (s.onVcm a f) ↔ Only l z s := State.onAct_only a h_act _ z s

theorem State.onMbx_only (a : Fin 4) (h_act : .act a ∈ l ∨ .acts ∈ l) (f : Four Mailbox → Four Mailbox) (z s : State) :
    Only l z (s.onMbx a f) ↔ Only l z s := State.onAct_only a h_act _ z s

theorem State.onSve_only (a : Fin 4) (h_act : .act a ∈ l ∨ .acts ∈ l) (f : Sve → Sve) (z s : State) :
    Only l z (s.onSve a f) ↔ Only l z s := State.onAct_only a h_act _ z s

theorem State.onSvp_only (a : Fin 4) (h_act : .act a ∈ l ∨ .acts ∈ l) (f : Svp → Svp) (z s : State) :
    Only l z (s.onSvp a f) ↔ Only l z s := State.onAct_only a h_act _ z s

theorem State.onSvi_only (a : Fin 4) (h_act : .act a ∈ l ∨ .acts ∈ l) (f : Svi → Svi) (z s : State) :
    Only l z (s.onSvi a f) ↔ Only l z s := State.onAct_only a h_act _ z s

theorem State.onSvc_only (a : Fin 4) (h_act : .act a ∈ l ∨ .acts ∈ l) (f : Svc → Svc) (z s : State) :
    Only l z (s.onSvc a f) ↔ Only l z s := State.onAct_only a h_act _ z s

theorem State.onSvb_only (a : Fin 4) (h_act : .act a ∈ l ∨ .acts ∈ l) (f : Svb → Svb) (z s : State) :
    Only l z (s.onSvb a f) ↔ Only l z s := State.onAct_only a h_act _ z s

theorem State.onRch_only (a : Fin 4) (h_act : .act a ∈ l ∨ .acts ∈ l) (f : Rch → Rch) (z s : State) :
    Only l z (s.onRch a f) ↔ Only l z s := State.onAct_only a h_act _ z s

theorem State.onWp_only (a : Fin 4) (h_act : .act a ∈ l ∨ .acts ∈ l) (f : Wp → Wp) (z s : State) :
    Only l z (s.onWp a f) ↔ Only l z s := State.onAct_only a h_act _ z s

theorem State.onPsc_only (a : Fin 4) (h_act : .act a ∈ l ∨ .acts ∈ l) (f : Psc → Psc) (z s : State) :
    Only l z (s.onPsc a f) ↔ Only l z s := State.onAct_only a h_act _ z s

theorem State.onPre_only (a : Fin 4) (h_act : .act a ∈ l ∨ .acts ∈ l) (f : Preamp → Preamp) (z s : State) :
    Only l z (s.onPre a f) ↔ Only l z s := State.onAct_only a h_act _ z s

theorem State.send_only (h_msgs : .msgs ∈ l) (m : Msg) (z s : State) : Only l z (s.send m) ↔ Only l z s :=
  Only.after { Only.refl l s with msgs := fun n => absurd h_msgs n }

theorem State.takeFree_only (h_free : .free ∈ l) (z s : State) : Only l z s.takeFree ↔ Only l z s :=
  Only.after { Only.refl l s with free := fun n => absurd h_free n }

theorem State.write_only (h_mem : .mem ∈ l) (a : Nat) (b : List Byte) (z s : State) :
    Only l z (s.write a b) ↔ Only l z s :=
  Only.after { Only.refl l s with mem := fun n => absurd h_mem n }


theorem State.onIdent_grows {z : State} (f : Ident → Ident) (s : State) (h : Grows z s) :
    Grows z (s.onIdent f) := h

theorem State.onSys_grows {z : State} (f : Sys → Sys) (s : State) (h : Grows z s) :
    Grows z (s.onSys f) := h

theorem State.onDict_grows {z : State} (f : Dict → Dict) (s : State) (h : Grows z s) :
    Grows z (s.onDict f) := h

theorem State.onSpn_grows {z : State} (f : Spn → Spn) (s : State) (h : Grows z s) :
    Grows z (s.onSpn f) := h

theorem State.onPool_grows {z : State} (f : Pool → Pool) (s : State) (h : Grows z s) :
    Grows z (s.onPool f) := h

theorem State.onRecov_grows {z : State} (f : Rec → Rec) (s : State) (h : Grows z s) :
    Grows z (s.onRecov f) := h

theorem State.onPlc_grows {z : State} (f : Plc → Plc) (s : State) (h : Grows z s) :
    Grows z (s.onPlc f) := h

theorem State.onTt_grows {z : State} (f : Tt → Tt) (s : State) (h : Grows z s) :
    Grows z (s.onTt f) := h

theorem State.onNvme_grows {z : State} (f : Nvme → Nvme) (s : State) (h : Grows z s) :
    Grows z (s.onNvme f) := h

theorem State.onDramc_grows {z : State} (f : Dramc → Dramc) (s : State) (h : Grows z s) :
    Grows z (s.onDramc f) := h

theorem State.onScr_grows {z : State} (f : Scr → Scr) (s : State) (h : Grows z s) :
    Grows z (s.onScr f) := h

theorem State.onBuf_grows {z : State} (f : Buf → Buf) (s : State) (h : Grows z s) :
    Grows z (s.onBuf f) := h

theorem State.onCiph_grows {z : State} (f : Ciph → Ciph) (s : State) (h : Grows z s) :
    Grows z (s.onCiph f) := h

theorem State.onDma_grows {z : State} (f : Dma → Dma) (s : State) (h : Grows z s) :
    Grows z (s.onDma f) := h

theorem State.onHm_grows {z : State} (f : Hm → Hm) (s : State) (h : Grows z s) :
    Grows z (s.onHm f) := h

theorem State.onYb_grows {z : State} (f : Yb → Yb) (s : State) (h : Grows z s) :
    Grows z (s.onYb f) := h

theorem State.onPwr_grows {z : State} (f : Pwr → Pwr) (s : State) (h : Grows z s) :
    Grows z (s.onPwr f) := h

theorem State.onRc_grows {z : State} (f : Rc → Rc) (s : State) (h : Grows z s) :
    Grows z (s.onRc f) := h

theorem State.onEvc_grows {z : State} (f : Evc → Evc) (s : State) (h : Grows z s) :
    Grows z (s.onEvc f) := h

theorem State.onTims_grows {z : State} (f : Tab Timer → Tab Timer) (s : State) (h : Grows z s) :
    Grows z (s.onTims f) := h

theorem State.onPorts_grows {z : State} (f : Ports → Ports) (s : State) (h : Grows z s) :
    Grows z (s.onPorts f) := h

theorem State.onActs_grows {z : State} (f : Four Act → Four Act) (s : State) (h : Grows z s) :
    Grows z (s.onActs f) := h

theorem State.onAct_grows {z : State} (a : Fin 4) (f : Act → Act) (s : State) (h : Grows z s) :
    Grows z (s.onAct a f) := h

theorem State.onIsl_grows {z : State} (a : Fin 4) (f : Isl → Isl) (s : State) (h : Grows z s) :
    Grows z (s.onIsl a f) := h

theorem State.onSvd_grows {z : State} (a : Fin 4) (f : Svd → Svd) (s : State) (h : Grows z s) :
    Grows z (s.onSvd a f) := h

theorem State.onMsn_grows {z : State} (a : Fin 4) (f : Msn → Msn) (s : State) (h : Grows z s) :
    Grows z (s.onMsn a f) := h

theorem State.onVcm_grows {z : State} (a : Fin 4) (f : Vcm → Vcm) (s : State) (h : Grows z s) :
    Grows z (s.onVcm a f) := h

theorem State.onMbx_grows {z : State} (a : Fin 4) (f : Four Mailbox → Four Mailbox) (s : State) (h : Grows z s) :
    Grows z (s.onMbx a f) := h

theorem State.onSve_grows {z : State} (a : Fin 4) (f : Sve → Sve) (s : State) (h : Grows z s) :
    Grows z (s.onSve a f) := h

theorem State.onSvp_grows {z : State} (a : Fin 4) (f : Svp → Svp) (s : State) (h : Grows z s) :
    Grows z (s.onSvp a f) := h

theorem State.onSvi_grows {z : State} (a : Fin 4) (f : Svi → Svi) (s : State) (h : Grows z s) :
    Grows z (s.onSvi a f) := h

theorem State.onSvc_grows {z : State} (a : Fin 4) (f : Svc → Svc) (s : State) (h : Grows z s) :
    Grows z (s.onSvc a f) := h

theorem State.onSvb_grows {z : State} (a : Fin 4) (f : Svb → Svb) (s : State) (h : Grows z s) :
    Grows z (s.onSvb a f) := h

theorem State.onRch_grows {z : State} (a : Fin 4) (f : Rch → Rch) (s : State) (h : Grows z s) :
    Grows z (s.onRch a f) := h

theorem State.onWp_grows {z : State} (a : Fin 4) (f : Wp → Wp) (s : State) (h : Grows z s) :
    Grows z (s.onWp a f) := h

theorem State.onPsc_grows {z : State} (a : Fin 4) (f : Psc → Psc) (s : State) (h : Grows z s) :
    Grows z (s.onPsc a f) := h

theorem State.onPre_grows {z : State} (a : Fin 4) (f : Preamp → Preamp) (s : State) (h : Grows z s) :
    Grows z (s.onPre a f) := h

theorem State.send_grows {z : State} (m : Msg) (s : State) (h : Grows z s) : Grows z (s.send m) :=
  h.trans (.send m s)

theorem State.takeFree_grows {z : State} (s : State) (h : Grows z s) : Grows z s.takeFree := h

theorem State.write_grows {z : State} (a : Nat) (b : List Byte) (s : State) (h : Grows z s) :
    Grows z (s.write a b) := h

theorem Grows.doIf {z s : State} {f : State → State} {c : Bool} (h : Grows z s)
    (k : ∀ t, Grows z t → Grows z (f t)) : Grows z (s.doIf c f) := by
  cases c
  · exact h
  · exact k s h

theorem Grows.foldS {α : Type} {z s : State} {f : α → State → State} {xs : List α} (h : Grows z s)
    (k : ∀ x t, Grows z t → Grows z (f x t)) : Grows z (foldS f xs s) := foldS_keeps (Grows z) f k xs h

end Sys2Proof.Machine

/-! SUPPORT. Frames of bring-up. -/

namespace Sys2Proof.Machine

open Sys2Proof

set_option Elab.async false

theorem State.onDom_only {ps : List Part} (d : Nat) (f : Dom → Dom) (s : State)
    (h_pwr : .pwr ∈ ps) (z : State) : Only ps z (State.onDom d f s) ↔ Only ps z s := by
  unfold State.onDom
  simp only [Only.ite, Only.refl, ite_self, State.onPwr_only, h_pwr, or_true, implies_true]


theorem State.dmaAbortAll_only {ps : List Part} (s : State)
    (h_dma : .dma ∈ ps) (z : State) : Only ps z (State.dmaAbortAll s) ↔ Only ps z s := by
  unfold State.dmaAbortAll
  simp only [Only.ite, Only.refl, ite_self, State.onDma_only, h_dma, or_true, implies_true]


theorem State.commitOff_only {ps : List Part} (d : Nat) (s : State)
    (h_pwr : .pwr ∈ ps) (z : State) : Only ps z (State.commitOff d s) ↔ Only ps z s := by
  unfold State.commitOff
  simp only [Only.ite, Only.refl, ite_self, State.onDom_only, h_pwr, or_true, implies_true]


theorem State.switchOff_only {ps : List Part} (d : Nat) (s : State)
    (h_dma : .dma ∈ ps) (h_pwr : .pwr ∈ ps) (z : State) : Only ps z (State.switchOff d s) ↔ Only ps z s := by
  unfold State.switchOff
  dsimp only
  (repeat' split) <;> simp only [Only.ite, Only.refl, ite_self, State.commitOff_only, State.dmaAbortAll_only,
      State.onDom_only, h_dma, h_pwr, or_true, implies_true]


theorem State.switchOffAll_only {ps : List Part} (ds : List Nat) (s : State)
    (h_dma : .dma ∈ ps) (h_pwr : .pwr ∈ ps) (z : State) : Only ps z (State.switchOffAll ds s) ↔ Only ps z s := by
  unfold State.switchOffAll
  simp only [Only.ite, Only.refl, ite_self, Only.foldS, State.switchOff_only, h_dma, h_pwr, or_true, implies_true]


theorem State.event_only {ps : List Part} (src : Endpoint) (num : Nat) (qual : Nat) (s : State)
    (h_msgs : .msgs ∈ ps) (z : State) : Only ps z (State.event src num qual s) ↔ Only ps z s := by
  unfold State.event
  simp only [Only.ite, Only.refl, ite_self, State.send_only, h_msgs, or_true, implies_true]


theorem State.odSet_only {ps : List Part} (key v : Nat) (s : State)
    (h_dict : .dict ∈ ps) (z : State) : Only ps z (State.odSet key v s) ↔ Only ps z s := by
  unfold State.odSet
  simp only [Only.ite, Only.refl, ite_self, State.onDict_only, h_dict, or_true, implies_true]


theorem State.count_only {ps : List Part} (key n : Nat) (s : State)
    (h_dict : .dict ∈ ps) (z : State) : Only ps z (State.count key n s) ↔ Only ps z s := by
  unfold State.count
  simp only [Only.ite, Only.refl, ite_self, State.odSet_only, h_dict, or_true, implies_true]


theorem State.closeSwitch_only {ps : List Part} (d : Nat) (s : State)
    (h_dict : .dict ∈ ps) (h_msgs : .msgs ∈ ps) (h_pwr : .pwr ∈ ps) (z : State) :
        Only ps z (State.closeSwitch d s) ↔ Only ps z s := by
  unfold State.closeSwitch
  dsimp only
  simp only [Only.ite, Only.refl, ite_self, State.count_only, State.event_only, State.onDom_only, State.onPwr_only,
    h_dict, h_msgs, h_pwr, or_true, implies_true]


theorem State.switchOn_only {ps : List Part} (d : Nat) (s : State)
    (h_dict : .dict ∈ ps) (h_msgs : .msgs ∈ ps) (h_pwr : .pwr ∈ ps) (z : State) :
        Only ps z (State.switchOn d s) ↔ Only ps z s := by
  unfold State.switchOn
  dsimp only
  (repeat' split) <;> simp only [Only.ite, Only.refl, ite_self, State.closeSwitch_only, State.onDom_only, h_dict,
      h_msgs, h_pwr, or_true, implies_true]


theorem State.switchOnAll_only {ps : List Part} (ds : List Nat) (s : State)
    (h_dict : .dict ∈ ps) (h_msgs : .msgs ∈ ps) (h_pwr : .pwr ∈ ps) (z : State) :
        Only ps z (State.switchOnAll ds s) ↔ Only ps z s := by
  unfold State.switchOnAll
  simp only [Only.ite, Only.refl, ite_self, Only.foldS, State.switchOn_only, h_dict, h_msgs, h_pwr, or_true,
    implies_true]


theorem State.applyDomains_only {ps : List Part} (m : Mode) (s : State)
    (h_dict : .dict ∈ ps) (h_dma : .dma ∈ ps) (h_msgs : .msgs ∈ ps) (h_pwr : .pwr ∈ ps) (z : State) :
        Only ps z (State.applyDomains m s) ↔ Only ps z s := by
  unfold State.applyDomains
  simp only [Only.ite, Only.refl, ite_self, State.switchOffAll_only, State.switchOnAll_only, h_dict, h_dma, h_msgs,
    h_pwr, or_true, implies_true]


theorem State.onHmSrc_only {ps : List Part} (n : Nat) (f : HmSrc → HmSrc) (s : State)
    (h_hm : .hm ∈ ps) (z : State) : Only ps z (State.onHmSrc n f s) ↔ Only ps z s := by
  unfold State.onHmSrc
  simp only [Only.ite, Only.refl, ite_self, State.onHm_only, h_hm, or_true, implies_true]


theorem State.hallLoad_only {ps : List Part} (key v : Nat) (s : State)
    (h_dict : .dict ∈ ps) (h_evc : .evc ∈ ps) (h_hm : .hm ∈ ps) (h_spn : .spn ∈ ps) (z : State) :
        Only ps z (State.hallLoad key v s) ↔ Only ps z s := by
  unfold State.hallLoad
  simp only [Only.ite, Only.refl, ite_self, State.odSet_only, State.onEvc_only, State.onHmSrc_only,
    State.onHm_only, State.onSpn_only, h_dict, h_evc, h_hm, h_spn, or_true, implies_true]


theorem State.odSetBytes_only {ps : List Part} (key : Nat) (v : List Byte) (s : State)
    (h_dict : .dict ∈ ps) (z : State) : Only ps z (State.odSetBytes key v s) ↔ Only ps z s := by
  unfold State.odSetBytes
  simp only [Only.ite, Only.refl, ite_self, State.onDict_only, h_dict, or_true, implies_true]


theorem State.faultAt_only {ps : List Part} (src : Endpoint) (source kind addr : Nat) (s : State)
    (h_msgs : .msgs ∈ ps) (z : State) : Only ps z (State.faultAt src source kind addr s) ↔ Only ps z s := by
  unfold State.faultAt
  simp only [Only.ite, Only.refl, ite_self, State.send_only, h_msgs, or_true, implies_true]


theorem State.fault_only {ps : List Part} (src : Endpoint) (source kind : Nat) (s : State)
    (h_msgs : .msgs ∈ ps) (z : State) : Only ps z (State.fault src source kind s) ↔ Only ps z s := by
  unfold State.fault
  simp only [Only.ite, Only.refl, ite_self, State.faultAt_only, h_msgs, or_true, implies_true]


theorem State.loadStore_only {ps : List Part} (s : State)
    (h_dict : .dict ∈ ps) (h_evc : .evc ∈ ps) (h_hm : .hm ∈ ps) (h_msgs : .msgs ∈ ps) (h_spn : .spn ∈ ps)
        (z : State) :
    Only ps z (State.loadStore s) ↔ Only ps z s := by
  have take (t : State) (f : Dict → Dict) (vals : List (Nat × OdVal)) :
      Only ps t (vals.foldl (fun t e => match e.2 with
        | .num v => t.hallLoad e.1 v
        | .oct b => t.odSetBytes e.1 b) (t.onDict f)) := by
    refine (Only.foldl fun e u => ?_).2 ?_
    · split <;> simp only [State.hallLoad_only, State.odSetBytes_only, h_dict, h_evc, h_hm, h_spn, Only.refl]
    · simp only [State.onDict_only, h_dict, Only.refl]
  unfold State.loadStore
  dsimp only
  split
  · exact Only.after (take _ _ _)
  · split
    · exact (Only.after (take _ _ _)).trans (by simp only [State.event_only, State.fault_only, h_msgs])
    · split
      · exact (Only.after (take _ _ _)).trans (by simp only [State.event_only, State.fault_only, h_msgs])
      · simp only [State.fault_only, h_msgs]

theorem State.driveGates_only {ps : List Part} (want : BitVec 6) (s : State)
    (h_spn : .spn ∈ ps) (z : State) : Only ps z (State.driveGates want s) ↔ Only ps z s := by
  unfold State.driveGates
  simp only [Only.ite, Only.refl, ite_self, State.onSpn_only, h_spn, or_true, implies_true]


theorem State.takeParams_only {ps : List Part} (s : State)
    (h_dict : .dict ∈ ps) (h_spn : .spn ∈ ps) (z : State) : Only ps z (State.takeParams s) ↔ Only ps z s := by
  unfold State.takeParams
  simp only [Only.ite, Only.refl, ite_self, Only.foldS, State.odSet_only, State.onSpn_only, h_dict, h_spn, or_true,
    implies_true]


theorem State.spnEnter_only {ps : List Part} (st : SpnState) (s : State)
    (h_dict : .dict ∈ ps) (h_free : .free ∈ ps) (h_msgs : .msgs ∈ ps) (h_spn : .spn ∈ ps) (z : State) :
        Only ps z (State.spnEnter st s) ↔ Only ps z s := by
  unfold State.spnEnter
  dsimp only
  simp only [Only.ite, Only.refl, ite_self, Only.doIf, State.driveGates_only, State.event_only, State.onSpn_only,
    State.takeFree_only, State.takeParams_only, h_dict, h_free, h_msgs, h_spn, or_true, implies_true]


theorem State.sendNotice_only {ps : List Part} (n : NoticeForce) (s : State)
    (h_msgs : .msgs ∈ ps) (h_spn : .spn ∈ ps) (z : State) : Only ps z (State.sendNotice n s) ↔ Only ps z s := by
  unfold State.sendNotice
  dsimp only
  simp only [Only.ite, Only.refl, ite_self, Only.foldS, State.onSpn_only, State.send_only, h_msgs, h_spn, or_true,
    implies_true]


theorem State.announce_only {ps : List Part} (target : BitVec 17) (rate : Nat) (s : State)
    (h_msgs : .msgs ∈ ps) (h_spn : .spn ∈ ps) (z : State) :
        Only ps z (State.announce target rate s) ↔ Only ps z s := by
  unfold State.announce
  simp only [Only.ite, Only.refl, ite_self, State.sendNotice_only, h_msgs, h_spn, or_true, implies_true]


theorem State.spnStart_only {ps : List Part} (s : State)
    (h_dict : .dict ∈ ps) (h_free : .free ∈ ps) (h_msgs : .msgs ∈ ps) (h_spn : .spn ∈ ps) (z : State) :
        Only ps z (State.spnStart s) ↔ Only ps z s := by
  unfold State.spnStart
  dsimp only
  simp only [Only.ite, Only.refl, ite_self, Only.doIf, State.announce_only, State.onSpn_only, State.spnEnter_only,
    h_dict, h_free, h_msgs, h_spn, or_true, implies_true]


theorem State.ybPut_only {ps : List Part} (r : YbRec) (s : State)
    (h_yb : .yb ∈ ps) (z : State) : Only ps z (State.ybPut r s) ↔ Only ps z s := by
  unfold State.ybPut
  simp only [Only.ite, Only.refl, ite_self, State.onYb_only, h_yb, or_true, implies_true]


theorem State.ybAppendInj_only {ps : List Part} (ty : Nat) (payload : List Byte) (injected : Bool) (s : State)
    (h_dict : .dict ∈ ps) (h_yb : .yb ∈ ps) (z : State) : Only ps z (State.ybAppendInj ty payload injected s) ↔
        Only ps z s := by
  unfold State.ybAppendInj
  simp only [Only.ite, Only.refl, ite_self, State.count_only, State.onYb_only, State.ybPut_only, h_dict, h_yb,
    or_true, implies_true]


theorem State.ybAppend_only {ps : List Part} (ty : Nat) (payload : List Byte) (s : State)
    (h_dict : .dict ∈ ps) (h_yb : .yb ∈ ps) (z : State) : Only ps z (State.ybAppend ty payload s) ↔ Only ps z s := by
  unfold State.ybAppend
  simp only [Only.ite, Only.refl, ite_self, State.ybAppendInj_only, h_dict, h_yb, or_true, implies_true]


theorem State.onDetention_only {ps : List Part} (a : Fin 4) (head : BitVec 5) (track : BitVec 24) (sector : Nat)
    (f : Detention → Detention) (s : State)
    (h_recov : .recov ∈ ps) (z : State) : Only ps z (State.onDetention a head track sector f s) ↔ Only ps z s := by
  unfold State.onDetention
  simp only [Only.ite, Only.refl, ite_self, State.onRecov_only, h_recov, or_true, implies_true]


theorem State.onBand_only {ps : List Part} (glb : Nat) (f : BandEntry → BandEntry) (s : State)
    (h_plc : .plc ∈ ps) (z : State) : Only ps z (State.onBand glb f s) ↔ Only ps z s := by
  unfold State.onBand
  simp only [Only.ite, Only.refl, ite_self, State.onPlc_only, h_plc, or_true, implies_true]


theorem State.recount_only {ps : List Part} (glb : Nat) (s : State)
    (h_plc : .plc ∈ ps) (z : State) : Only ps z (State.recount glb s) ↔ Only ps z s := by
  unfold State.recount
  simp only [Only.ite, Only.refl, ite_self, State.onBand_only, h_plc, or_true, implies_true]


theorem State.holdSlot_only {ps : List Part} (b : BandEntry) (next : Option Loc) (s : State)
    (h_plc : .plc ∈ ps) (z : State) : Only ps z (State.holdSlot b next s) ↔ Only ps z s := by
  unfold State.holdSlot
  (repeat' split) <;> simp only [Only.ite, Only.refl, ite_self, State.onPlc_only, h_plc, or_true, implies_true]


theorem State.applyEntry_only {ps : List Part} (e : JEntry) (s : State)
    (h_plc : .plc ∈ ps) (h_recov : .recov ∈ ps) (z : State) : Only ps z (State.applyEntry e s) ↔ Only ps z s := by
  unfold State.applyEntry
  dsimp only
  (repeat' split) <;> simp only [Only.ite, Only.refl, ite_self, State.holdSlot_only, State.onBand_only,
      State.onPlc_only, State.onRecov_only, State.recount_only, h_plc, h_recov, or_true, implies_true]


theorem State.oblige_only {ps : List Part} (kind job : Nat) (act : Option (Fin 4)) (ms : Nat) (s : State)
    (h_tt : .tt ∈ ps) (z : State) : Only ps z (State.oblige kind job act ms s) ↔ Only ps z s := by
  unfold State.oblige
  dsimp only
  simp only [Only.ite, Only.refl, ite_self, State.onTt_only, h_tt, or_true, implies_true]


theorem State.journal_only {ps : List Part} (waited : Bool) (e : JEntry) (s : State)
    (h_plc : .plc ∈ ps) (h_tt : .tt ∈ ps) (z : State) : Only ps z (State.journal waited e s) ↔ Only ps z s := by
  unfold State.journal
  dsimp only
  simp only [Only.ite, Only.refl, ite_self, Only.doIf, State.oblige_only, State.onPlc_only, h_plc, h_tt, or_true,
    implies_true]


theorem State.change_only {ps : List Part} (waited : Bool) (e : JEntry) (s : State)
    (h_plc : .plc ∈ ps) (h_recov : .recov ∈ ps) (h_tt : .tt ∈ ps) (z : State) :
        Only ps z (State.change waited e s) ↔ Only ps z s := by
  unfold State.change
  simp only [Only.ite, Only.refl, ite_self, State.applyEntry_only, State.journal_only, h_plc, h_recov, h_tt,
    or_true, implies_true]


theorem State.markUnreadable_only {ps : List Part} (a : Fin 4) (head : BitVec 5) (track : BitVec 24)
    (sector nsid lba : Nat) (s : State)
    (h_plc : .plc ∈ ps) (h_recov : .recov ∈ ps) (h_tt : .tt ∈ ps) (z : State) :
        Only ps z (State.markUnreadable a head track sector nsid lba s) ↔ Only ps z s := by
  unfold State.markUnreadable
  dsimp only
  (repeat' split) <;> simp only [Only.ite, Only.refl, ite_self, State.change_only, State.journal_only,
      State.onRecov_only, h_plc, h_recov, h_tt, or_true, implies_true]


theorem State.relocated_only {ps : List Part} (d : Detention) (s : State)
    (h_dict : .dict ∈ ps) (h_msgs : .msgs ∈ ps) (h_plc : .plc ∈ ps) (h_recov : .recov ∈ ps) (h_tt : .tt ∈ ps)
        (z : State) : Only ps z (State.relocated d s) ↔ Only ps z s := by
  unfold State.relocated
  simp only [Only.ite, Only.refl, ite_self, State.count_only, State.event_only, State.journal_only,
    State.onRecov_only, h_dict, h_msgs, h_plc, h_recov, h_tt, or_true, implies_true]


theorem State.scheduleRelocation_only {ps : List Part} (d : Detention) (s : State)
    (h_dict : .dict ∈ ps) (h_msgs : .msgs ∈ ps) (h_plc : .plc ∈ ps) (h_recov : .recov ∈ ps) (h_tt : .tt ∈ ps)
        (z : State) : Only ps z (State.scheduleRelocation d s) ↔ Only ps z s := by
  unfold State.scheduleRelocation
  dsimp only
  simp only [Only.ite, Only.refl, ite_self, State.event_only, State.markUnreadable_only, State.oblige_only,
    State.onDetention_only, State.onRecov_only, State.relocated_only, h_dict, h_msgs, h_plc, h_recov, h_tt,
    or_true, implies_true]


theorem State.dueRelocations_only {ps : List Part} (s : State)
    (h_dict : .dict ∈ ps) (h_msgs : .msgs ∈ ps) (h_plc : .plc ∈ ps) (h_recov : .recov ∈ ps) (h_tt : .tt ∈ ps)
        (z : State) : Only ps z (State.dueRelocations s) ↔ Only ps z s := by
  unfold State.dueRelocations
  simp only [Only.ite, Only.refl, ite_self, Only.foldS, State.scheduleRelocation_only, h_dict, h_msgs, h_plc,
    h_recov, h_tt, or_true, implies_true]


theorem State.setMode_only {ps : List Part} (old : Nat) (m : Mode) (s : State)
    (h_acts : .acts ∈ ps) (h_dict : .dict ∈ ps) (h_msgs : .msgs ∈ ps) (h_plc : .plc ∈ ps) (h_recov : .recov ∈ ps)
        (h_sys : .sys ∈ ps) (h_tt : .tt ∈ ps) (h_yb : .yb ∈ ps) (z : State) :
        Only ps z (State.setMode old m s) ↔ Only ps z s := by
  unfold State.setMode
  dsimp only
  simp only [Only.ite, Only.refl, ite_self, Only.doIf, Only.foldS, State.dueRelocations_only, State.event_only,
    State.onSys_only, State.onWp_only, State.ybAppend_only, h_acts, h_dict, h_msgs, h_plc, h_recov, h_sys, h_tt,
    h_yb, or_true, implies_true]


theorem State.milestone_only {ps : List Part} (i : Nat) (s : State)
    (h_sys : .sys ∈ ps) (z : State) : Only ps z (State.milestone i s) ↔ Only ps z s := by
  unfold State.milestone
  simp only [Only.ite, Only.refl, ite_self, State.onSys_only, h_sys, or_true, implies_true]


theorem State.replanTrigger_only {ps : List Part} (code : Nat) (s : State)
    (h_msgs : .msgs ∈ ps) (h_rc : .rc ∈ ps) (z : State) : Only ps z (State.replanTrigger code s) ↔ Only ps z s := by
  unfold State.replanTrigger
  simp only [Only.ite, Only.refl, ite_self, State.event_only, State.onRc_only, h_msgs, h_rc, or_true, implies_true]


theorem State.sawSupply_only {ps : List Part} (v12 v5 : Nat) (s : State)
    (h_msgs : .msgs ∈ ps) (h_rc : .rc ∈ ps) (h_sys : .sys ∈ ps) (z : State) :
        Only ps z (State.sawSupply v12 v5 s) ↔ Only ps z s := by
  unfold State.sawSupply
  dsimp only
  simp only [Only.ite, Only.refl, ite_self, Only.doIf, State.onRc_only, State.onSys_only, State.replanTrigger_only,
    h_msgs, h_rc, h_sys, or_true, implies_true]


theorem State.eoAssert_only {ps : List Part} (source : Nat) (s : State)
    (h_hm : .hm ∈ ps) (h_msgs : .msgs ∈ ps) (z : State) : Only ps z (State.eoAssert source s) ↔ Only ps z s := by
  unfold State.eoAssert
  dsimp only
  simp only [Only.ite, Only.refl, ite_self, State.event_only, State.onHm_only, h_hm, h_msgs, or_true, implies_true]


theorem State.loadLayouts_only {ps : List Part} (areas : List (Fin 4 × Nat × Nat)) (s : State)
    (h_msgs : .msgs ∈ ps) (h_recov : .recov ∈ ps) (z : State) :
        Only ps z (State.loadLayouts areas s) ↔ Only ps z s := by
  unfold State.loadLayouts
  simp only [Only.ite, Only.refl, ite_self, Only.foldS, State.fault_only, State.onRecov_only, h_msgs, h_recov,
    or_true, implies_true]


theorem State.startPlacement_only {ps : List Part} (heads : List Nat) (s : State)
    (h_plc : .plc ∈ ps) (z : State) : Only ps z (State.startPlacement heads s) ↔ Only ps z s := by
  unfold State.startPlacement
  dsimp only
  simp only [Only.ite, Only.refl, ite_self, State.onPlc_only, h_plc, or_true, implies_true]


theorem State.soleNamespace_only {ps : List Part} (s : State)
    (h_plc : .plc ∈ ps) (z : State) : Only ps z (State.soleNamespace s) ↔ Only ps z s := by
  unfold State.soleNamespace
  dsimp only
  simp only [Only.ite, Only.refl, ite_self, State.onPlc_only, h_plc, or_true, implies_true]


theorem State.onCmd_only {ps : List Part} (n : Nat) (f : Cmd → Cmd) (s : State)
    (h_nvme : .nvme ∈ ps) (z : State) : Only ps z (State.onCmd n f s) ↔ Only ps z s := by
  unfold State.onCmd
  simp only [Only.ite, Only.refl, ite_self, State.onNvme_only, h_nvme, or_true, implies_true]


theorem State.postAen_only {ps : List Part} (c : Fin 2) (type info : Nat) (s : State)
    (h_msgs : .msgs ∈ ps) (h_nvme : .nvme ∈ ps) (z : State) :
        Only ps z (State.postAen c type info s) ↔ Only ps z s := by
  unfold State.postAen
  dsimp only
  (repeat' split) <;> simp only [Only.ite, Only.refl, ite_self, State.event_only, State.onCmd_only,
      State.onNvme_only, h_msgs, h_nvme, or_true, implies_true]


theorem State.updateWarnings_only {ps : List Part} (s : State)
    (h_msgs : .msgs ∈ ps) (h_nvme : .nvme ∈ ps) (z : State) : Only ps z (State.updateWarnings s) ↔ Only ps z s := by
  unfold State.updateWarnings
  dsimp only
  simp only [Only.ite, Only.refl, ite_self, Only.foldS, State.onNvme_only, State.postAen_only, h_msgs, h_nvme,
    or_true, implies_true]


theorem State.setCopy_only {ps : List Part} (one : Bool) (c : StoreCopy) (s : State)
    (h_dict : .dict ∈ ps) (z : State) : Only ps z (State.setCopy one c s) ↔ Only ps z s := by
  unfold State.setCopy
  simp only [Only.ite, Only.refl, ite_self, State.onDict_only, h_dict, or_true, implies_true]


theorem State.saveCut_only {ps : List Part} (s : State)
    (h_dict : .dict ∈ ps) (z : State) : Only ps z (State.saveCut s) ↔ Only ps z s := by
  unfold State.saveCut
  (repeat' split) <;> simp only [Only.ite, Only.refl, ite_self, State.onDict_only, State.setCopy_only, h_dict,
      or_true, implies_true]


theorem State.eraseAcross_only {ps : List Part} (s : State)
    (h_ciph : .ciph ∈ ps) (h_dict : .dict ∈ ps) (z : State) : Only ps z (State.eraseAcross s) ↔ Only ps z s := by
  unfold State.eraseAcross
  dsimp only
  (repeat' split) <;> simp only [Only.ite, Only.refl, ite_self, State.onCiph_only, State.onDict_only, h_ciph,
      h_dict, or_true, implies_true]


theorem State.storeDecay_only {ps : List Part} (bad : BitVec 2) (s : State)
    (h_dict : .dict ∈ ps) (z : State) : Only ps z (State.storeDecay bad s) ↔ Only ps z s := by
  unfold State.storeDecay
  dsimp only
  simp only [Only.ite, Only.refl, ite_self, Only.doIf, State.setCopy_only, h_dict, or_true, implies_true]


theorem State.onDom_grows {z : State} (d : Nat) (f : Dom → Dom) (s : State) (h : Grows z s) :
    Grows z (State.onDom d f s) :=
  h.trans (.of_eq (((State.onDom_only (ps := [.pwr]) d f s (h_pwr := by simp) s).2 (.refl _ _)).msgs (by simp)))

theorem State.switchOffAll_grows {z : State} (ds : List Nat) (s : State) (h : Grows z s) :
    Grows z (State.switchOffAll ds s) :=
  h.trans (.of_eq (((State.switchOffAll_only (ps := [.dma, .pwr]) ds s (h_dma := by simp) (h_pwr := by simp) s).2
    (.refl _ _)).msgs (by simp)))

theorem State.count_grows {z : State} (key n : Nat) (s : State) (h : Grows z s) : Grows z (State.count key n s) :=
  h.trans (.of_eq (((State.count_only (ps := [.dict]) key n s (h_dict := by simp) s).2 (.refl _ _)).msgs (by simp)))

theorem State.ybAppend_grows {z : State} (ty : Nat) (payload : List Byte) (s : State) (h : Grows z s) :
    Grows z (State.ybAppend ty payload s) :=
  h.trans (.of_eq (((State.ybAppend_only (ps := [.dict, .yb]) ty payload s (h_dict := by simp)
    (h_yb := by simp) s).2 (.refl _ _)).msgs (by simp)))

theorem State.onDetention_grows {z : State} (a : Fin 4) (head : BitVec 5) (track : BitVec 24) (sector : Nat)
    (f : Detention → Detention) (s : State) (h : Grows z s) : Grows z (State.onDetention a head track sector f s) :=
  h.trans (.of_eq (((State.onDetention_only (ps := [.recov]) a head track sector f s (h_recov := by simp) s).2
    (.refl _ _)).msgs (by simp)))

theorem State.oblige_grows {z : State} (kind job : Nat) (act : Option (Fin 4)) (ms : Nat) (s : State)
    (h : Grows z s) : Grows z (State.oblige kind job act ms s) :=
  h.trans (.of_eq (((State.oblige_only (ps := [.tt]) kind job act ms s (h_tt := by simp) s).2 (.refl _ _)).msgs
    (by simp)))

theorem State.journal_grows {z : State} (waited : Bool) (e : JEntry) (s : State) (h : Grows z s) :
    Grows z (State.journal waited e s) :=
  h.trans (.of_eq (((State.journal_only (ps := [.plc, .tt]) waited e s (h_plc := by simp) (h_tt := by simp) s).2
    (.refl _ _)).msgs (by simp)))

theorem State.markUnreadable_grows {z : State} (a : Fin 4) (head : BitVec 5) (track : BitVec 24)
    (sector nsid lba : Nat) (s : State) (h : Grows z s) : Grows z
    (State.markUnreadable a head track sector nsid lba s) :=
  h.trans (.of_eq (((State.markUnreadable_only (ps := [.plc, .recov, .tt]) a head track sector nsid lba s
    (h_plc := by simp) (h_recov := by simp) (h_tt := by simp) s).2 (.refl _ _)).msgs (by simp)))

theorem State.event_grows {z : State} (src : Endpoint) (num : Nat) (qual : Nat) (s : State) (h : Grows z s) :
    Grows z (State.event src num qual s) := by
  unfold State.event
  repeat' first
    | with_reducible exact h
    | intro _ _ h
    | with_reducible apply State.send_grows


theorem State.closeSwitch_grows {z : State} (d : Nat) (s : State) (h : Grows z s) :
    Grows z (State.closeSwitch d s) := by
  unfold State.closeSwitch
  dsimp only
  repeat' first
    | with_reducible exact h
    | intro _ _ h
    | with_reducible apply State.count_grows
    | with_reducible apply State.event_grows
    | with_reducible apply State.onDom_grows
    | with_reducible apply State.onPwr_grows


theorem State.switchOn_grows {z : State} (d : Nat) (s : State) (h : Grows z s) : Grows z (State.switchOn d s) := by
  unfold State.switchOn
  dsimp only
  repeat' split
  all_goals repeat' first
    | with_reducible exact h
    | intro _ _ h
    | with_reducible apply Grows.ite
    | with_reducible apply State.closeSwitch_grows
    | with_reducible apply State.onDom_grows


theorem State.switchOnAll_grows {z : State} (ds : List Nat) (s : State) (h : Grows z s) :
    Grows z (State.switchOnAll ds s) := by
  unfold State.switchOnAll
  repeat' first
    | with_reducible exact h
    | intro _ _ h
    | with_reducible apply Grows.foldS
    | with_reducible apply State.switchOn_grows


theorem State.applyDomains_grows {z : State} (m : Mode) (s : State) (h : Grows z s) :
    Grows z (State.applyDomains m s) := by
  unfold State.applyDomains
  repeat' first
    | with_reducible exact h
    | intro _ _ h
    | with_reducible apply State.switchOffAll_grows
    | with_reducible apply State.switchOnAll_grows


theorem State.relocated_grows {z : State} (d : Detention) (s : State) (h : Grows z s) :
    Grows z (State.relocated d s) := by
  unfold State.relocated
  repeat' first
    | with_reducible exact h
    | intro _ _ h
    | with_reducible apply State.count_grows
    | with_reducible apply State.event_grows
    | with_reducible apply State.journal_grows
    | with_reducible apply State.onRecov_grows


theorem State.scheduleRelocation_grows {z : State} (d : Detention) (s : State) (h : Grows z s) :
    Grows z (State.scheduleRelocation d s) := by
  unfold State.scheduleRelocation
  dsimp only
  repeat' first
    | with_reducible exact h
    | intro _ _ h
    | with_reducible apply Grows.ite
    | with_reducible apply State.event_grows
    | with_reducible apply State.markUnreadable_grows
    | with_reducible apply State.oblige_grows
    | with_reducible apply State.onDetention_grows
    | with_reducible apply State.onRecov_grows
    | with_reducible apply State.relocated_grows


theorem State.dueRelocations_grows {z : State} (s : State) (h : Grows z s) : Grows z (State.dueRelocations s) := by
  unfold State.dueRelocations
  repeat' first
    | with_reducible exact h
    | intro _ _ h
    | with_reducible apply Grows.foldS
    | with_reducible apply Grows.ite
    | with_reducible apply State.scheduleRelocation_grows


theorem State.setMode_grows {z : State} (old : Nat) (m : Mode) (s : State) (h : Grows z s) :
    Grows z (State.setMode old m s) := by
  unfold State.setMode
  dsimp only
  repeat' first
    | with_reducible exact h
    | intro _ _ h
    | with_reducible apply Grows.doIf
    | with_reducible apply Grows.foldS
    | with_reducible apply State.dueRelocations_grows
    | with_reducible apply State.event_grows
    | with_reducible apply State.onSys_grows
    | with_reducible apply State.onWp_grows
    | with_reducible apply State.ybAppend_grows


theorem State.eoAssert_grows {z : State} (source : Nat) (s : State) (h : Grows z s) :
    Grows z (State.eoAssert source s) := by
  unfold State.eoAssert
  dsimp only
  repeat' first
    | with_reducible exact h
    | intro _ _ h
    | with_reducible apply Grows.ite
    | with_reducible apply State.event_grows
    | with_reducible apply State.onHm_grows


theorem State.faultAt_grows {z : State} (src : Endpoint) (source kind addr : Nat) (s : State) (h : Grows z s) :
    Grows z (State.faultAt src source kind addr s) := by
  unfold State.faultAt
  repeat' first
    | with_reducible exact h
    | intro _ _ h
    | with_reducible apply State.send_grows


theorem State.fault_grows {z : State} (src : Endpoint) (source kind : Nat) (s : State) (h : Grows z s) :
    Grows z (State.fault src source kind s) := by
  unfold State.fault
  repeat' first
    | with_reducible exact h
    | intro _ _ h
    | with_reducible apply State.faultAt_grows


theorem State.loadLayouts_grows {z : State} (areas : List (Fin 4 × Nat × Nat)) (s : State) (h : Grows z s) :
    Grows z (State.loadLayouts areas s) := by
  unfold State.loadLayouts
  repeat' first
    | with_reducible exact h
    | intro _ _ h
    | with_reducible apply Grows.foldS
    | with_reducible apply Grows.ite
    | with_reducible apply State.fault_grows
    | with_reducible apply State.onRecov_grows


end Sys2Proof.Machine

/-! SUPPORT. Power-on reset, supply checks, DRAM training and fill, core release, and the boot images (02 R36 to
R45). -/

namespace Sys2Proof.Machine

open Sys2Proof

set_option Elab.async false

/-! The Yearbook in shared memory: a record appended has no slot in flash yet (17 R480). -/

/-- Records of the second that stand in flash are records of the first. -/
def KeepsFlash (s t : State) : Prop := ∀ x ∈ t.yb.recs, x.slot.isSome = true → x ∈ s.yb.recs

theorem KeepsFlash.of_yb {s t : State} (h : t.yb = s.yb) : KeepsFlash s t := fun x hx _ => h ▸ hx

theorem KeepsFlash.trans {s t u : State} (h : KeepsFlash s t) (k : KeepsFlash t u) : KeepsFlash s u :=
  fun x hx hs => h x (k x hx hs) hs

theorem KeepsFlash.ybAppend (ty : Nat) (payload : List Byte) (s : State) : KeepsFlash s (s.ybAppend ty payload) := by
  intro x hx hs
  unfold State.ybAppend State.ybAppendInj at hx
  split at hx
  · exact hx
  · rcases List.mem_append.1 hx with h | h
    · exact h
    · rw [List.mem_singleton.1 h] at hs
      exact absurd hs (by simp [State.ybMake])

/-! The mode FILL. -/

/-- The system's registers while they stay as power-on reset leaves them: mode FILL, core 0 held, and the supplies
as sampled (02 R36, R37). -/
def Sys.filling (v12 v5 : Nat) (y : Sys) : Prop :=
  y.mode = .fill ∧ y.coreReleased = false ∧ y.v12 = v12 ∧ y.v5 = v5

/-- A state in FILL with an identity and the flash records of another. -/
structure Filling (v12 v5 : Nat) (s t : State) : Prop where
  sys : t.sys.filling v12 v5
  straps : t.ident.straps = s.ident.straps
  flash : KeepsFlash s t

theorem Filling.only {v12 v5 : Nat} {s t u : State} {l : List Part} (h : Filling v12 v5 s t) (k : Only l t u)
    (hl : .sys ∉ l ∧ .ident ∉ l ∧ .yb ∉ l) : Filling v12 v5 s u :=
  ⟨by rw [k.sys hl.1]; exact h.sys, by rw [k.ident hl.2.1]; exact h.straps, h.flash.trans (.of_yb (k.yb hl.2.2))⟩

theorem Filling.onSys {v12 v5 : Nat} {s t : State} (h : Filling v12 v5 s t) {f : Sys → Sys}
    (hf : (f t.sys).filling v12 v5) : Filling v12 v5 s (t.onSys f) := ⟨hf, h.straps, h.flash⟩

theorem Filling.milestone {v12 v5 : Nat} {s t : State} (h : Filling v12 v5 s t) (i : Nat) :
    Filling v12 v5 s (t.milestone i) := by
  unfold State.milestone
  split
  · exact h
  · exact h.onSys h.sys

/-- In FILL an entry to LIMITED waits (02 R57). -/
theorem Filling.enterLimited {v12 v5 : Nat} {s t : State} (h : Filling v12 v5 s t) (cause : Nat)
    (acts : List (Fin 4)) (noCommit : Bool) : Filling v12 v5 s (t.enterLimited cause acts noCommit) := by
  have hm : t.sys.mode = .fill := h.sys.1
  unfold State.enterLimited
  split
  · exact h
  · exact h.onSys h.sys

/-- FILL is entered: its record waits in shared memory (02 R35, 17 R487). -/
theorem Filling.setMode {v12 v5 : Nat} {s t : State} (hc : t.sys.coreReleased = false) (h12 : t.sys.v12 = v12)
    (h5 : t.sys.v5 = v5) (hi : t.ident.straps = s.ident.straps) (hk : KeepsFlash s t) :
    Filling v12 v5 s (t.setMode 0 .fill) := by
  unfold State.setMode
  dsimp only
  have hserv : decide (Mode.fill = Mode.service) = false := rfl
  rw [hserv]
  generalize hu : t.onSys _ = u
  have hus : u.sys.filling v12 v5 := by rw [← hu]; exact ⟨rfl, hc, h12, h5⟩
  have huf : Filling v12 v5 s u := ⟨hus, by rw [← hu]; exact hi, by rw [← hu]; exact hk⟩
  refine Filling.only (l := [.acts]) (t := (u.event epSystem 0 (0 * 256 + Mode.fill.code)).ybAppend 0x0005
    (leBytes 1 0 ++ leBytes 1 Mode.fill.code)) ?_ ?_ (by simp)
  · have ho : Only [.yb, .dict, .msgs] u ((u.event epSystem 0 (0 * 256 + Mode.fill.code)).ybAppend 0x0005
        (leBytes 1 0 ++ leBytes 1 Mode.fill.code)) := by
      simp [State.ybAppend_only, State.event_only, Only.refl]
    exact ⟨by rw [ho.sys (by simp)]; exact hus, by rw [ho.ident (by simp)]; exact huf.straps,
      huf.flash.trans (.trans (.of_yb rfl) (.ybAppend _ _ _))⟩
  · exact (Only.foldS fun a v => by simp [State.onWp_only, Only.refl]).2 (.refl _ _)

/-- What stays over a power-on reset of what it reads: the sampled straps and supplies, and the records in flash
(02 R36, 17 R480). -/
theorem State.keepAcross_spec (s : State) : (s.keepAcross true).sys.coreReleased = false
    ∧ (s.keepAcross true).sys.v12 = s.sys.v12 ∧ (s.keepAcross true).sys.v5 = s.sys.v5
    ∧ (s.keepAcross true).ident.straps = s.ident.straps
    ∧ (s.keepAcross true).yb.recs = s.yb.recs.filter fun x => x.slot.isSome := by
  have h : Only [.ciph, .dict] s (s.saveCut).eraseAcross := by
    simp [State.saveCut_only, State.eraseAcross_only, Only.refl]
  have hs := h.sys (by simp)
  have hi := h.ident (by simp)
  have hy := h.yb (by simp)
  unfold State.keepAcross
  dsimp only
  rw [hs, hi, hy]
  exact ⟨rfl, rfl, rfl, rfl, rfl⟩

/-- The supply check starts the spindle, has it wait, or refuses it, all within FILL (02 R41). -/
theorem Filling.supplyCheck {v12 v5 : Nat} {s t : State} (h : Filling v12 v5 s t) :
    Filling v12 v5 s t.supplyCheck := by
  unfold State.supplyCheck
  split
  · refine Filling.enterLimited ?_ _ _ _
    refine Filling.only (l := [.msgs]) (t := t.onSys fun y => { y with spinRefused := some 1 }) ?_ ?_ (by simp)
    · exact h.onSys h.sys
    · simp [State.fault_only, Only.refl]
  · split
    · refine (h.only (l := [.dict, .free, .msgs, .spn]) ?_ (by simp)).milestone 1
      simp [State.spnStart_only, Only.refl]
    · exact h.onSys h.sys

/-- Bring-up from power-on reset ends in FILL, with DRAM training under way (02 R36). -/
theorem State.bringUp_filling (s : State) : Filling s.sys.v12 s.sys.v5 s (s.bringUp true)
    ∧ (s.bringUp true).sys.dram = .running := by
  obtain ⟨h1, h2, h3, h4, h5⟩ := s.keepAcross_spec
  have hk : KeepsFlash s (s.keepAcross true) := fun x hx _ => by
    rw [h5] at hx
    exact (List.mem_filter.1 hx).1
  have h0 := Filling.setMode (s := s) (t := s.keepAcross true) h1 h2 h3 h4 hk
  unfold State.bringUp
  dsimp only
  rw [if_pos rfl, if_pos rfl]
  generalize (s.keepAcross true).setMode 0 .fill = a at h0
  have hb : Filling s.sys.v12 s.sys.v5 s
      ((a.loadStore.onPlc fun p => { p with extentCap := a.p1400ExtentCap }).milestone 0) := by
    refine (h0.only (l := [.dict, .evc, .hm, .msgs, .spn, .plc]) ?_ (by simp)).milestone 0
    simp [State.onPlc_only, State.loadStore_only, Only.refl]
  generalize State.milestone 0 _ = b at hb ⊢
  have hc : Filling s.sys.v12 s.sys.v5 s
      (if decide (s.ident.fuse = .unfused) then b.enterLimited 0x100 [] false else b) := by
    split
    · exact hb.enterLimited _ _ _
    · exact hb
  generalize (if decide (s.ident.fuse = .unfused) then b.enterLimited 0x100 [] false else b) = c at hc ⊢
  have hd : Filling s.sys.v12 s.sys.v5 s (if outcomeMissing s.yb.recs then
      foldS (fun a t => t.fault epSystem 7 a.val) c.presentActs
        (c.onSys fun y => { y with needTouchdown := c.presentMask }) else c) := by
    split
    · have hn : Filling s.sys.v12 s.sys.v5 s (c.onSys fun y => { y with needTouchdown := c.presentMask }) :=
        hc.onSys hc.sys
      refine hn.only (l := [.msgs]) ?_ (by simp)
      exact (Only.foldS fun a t => by simp [State.fault_only, Only.refl]).2 (.refl _ _)
    · exact hc
  generalize (if outcomeMissing s.yb.recs then _ else c) = d at hd ⊢
  have he := hd.supplyCheck
  have hf : Filling s.sys.v12 s.sys.v5 s ((d.supplyCheck.applyDomains .fill).switchOnAll
      (if d.twoPorts then [12, 13] else [12])) := by
    refine he.only (l := [.dict, .dma, .msgs, .pwr]) ?_ (by simp)
    simp [State.switchOnAll_only, State.applyDomains_only, Only.refl]
  exact ⟨hf.onSys hf.sys, rfl⟩

/-! Memory cleared (02 R39). -/

/-- Clearing a range leaves the bytes outside it, and those inside read zero. -/
theorem memByte_memClear (m : List Host.Cell) (lo hi x : Nat) :
    memByte (memClear m lo hi) x = if lo ≤ x ∧ x < hi then 0 else memByte m x := by
  have h : ∀ m : List Host.Cell, Tab.get? (memClear m lo hi) x = if lo ≤ x ∧ x < hi then none
      else Tab.get? m x := by
    intro m
    induction m with
    | nil => simp [memClear, Tab.get?]
    | cons c r ih =>
      obtain ⟨k, b⟩ := c
      have hc : memClear ((k, b) :: r) lo hi
          = if k < lo ∨ hi ≤ k then (k, b) :: memClear r lo hi else memClear r lo hi := by
        simp only [memClear, List.filter_cons, Bool.or_eq_true, decide_eq_true_eq]
      rw [hc]
      by_cases hk : k = x
      · subst hk
        by_cases hin : lo ≤ k ∧ k < hi
        · rw [if_neg (by omega), ih, if_pos hin, if_pos hin]
        · rw [if_pos (by omega), if_neg hin]
          simp [Tab.get?]
      · have hg : Tab.get? ((k, b) :: r) x = Tab.get? r x := by simp [Tab.get?, hk]
        rw [hg, ← ih]
        split
        · simp [Tab.get?, hk]
        · rfl
  unfold memByte Tab.getD
  rw [h m]
  split <;> rfl

/-- The straps sampled at GPIO[5:0]. -/
theorem straps_setWidth (level : BitVec 16) (straps : BitVec 6) :
    ((level &&& 0xFFC0) ||| straps.setWidth 16).setWidth 6 = straps := by
  apply BitVec.eq_of_getLsbD_eq
  intro i hi
  have hz : (0xFFC0 : BitVec 16).getLsbD i = false := by
    have hlow : ∀ j : Fin 6, (0xFFC0 : BitVec 16).getLsbD j = false := by decide
    exact hlow ⟨i, hi⟩
  simp [hi, hz]

/-- An entry to LIMITED in FILL waits with the first cause (02 R57). -/
theorem State.enterLimited_fill {s : State} (hm : s.sys.mode = .fill) (hp : s.sys.powerLoss = none)
    (hr : s.sys.chipResetBy = none) (hl : s.sys.limitedPending = none) (cause : Nat) (noCommit : Bool) :
    s.enterLimited cause [] noCommit = s.onSys fun y => { y with
      limitedPending := some (BitVec.ofNat 16 cause) } := by
  simp only [State.enterLimited, hm, hp, hr, reduceCtorEq, decide_false, Option.isSome_none, Bool.or_self,
    Bool.false_eq_true, if_false, if_true]
  unfold State.onSys
  dsimp only
  rw [hl]
  rfl

/-- What a milestone leaves of the system's registers. -/
theorem State.milestone_sys (i : Nat) (s : State) : ∃ m, (s.milestone i).sys = { s.sys with milestones := m } := by
  unfold State.milestone
  split
  · exact ⟨s.sys.milestones, rfl⟩
  · exact ⟨_, rfl⟩

/-- A mode entered is the mode, and a shutdown that waits goes on waiting (02 R35). -/
theorem State.setMode_sys (old : Nat) (m : Mode) (s : State) : (s.setMode old m).sys = { s.sys with
    mode := m, modeEntered := s.now, entry := none, exiting := false
    wakeReq := s.sys.wakeReq && (decide (m = .recess) || decide (m = .dormant)) } := by
  unfold State.setMode
  dsimp only
  generalize hu : State.onSys _ s = u
  have h : Only [.acts, .dict, .msgs, .plc, .recov, .tt, .yb] u (State.doIf (decide (m = .service)) State.dueRelocations
      (foldS (fun a t => t.onWp a fun w => { w with strict := decide (m = .orientation) }) allActs
        ((u.event epSystem 0 (old * 256 + m.code)).ybAppend 0x0005 (leBytes 1 old ++ leBytes 1 m.code)))) := by
    rw [Only.doIf (by simp [State.dueRelocations_only, Only.refl]),
      Only.foldS (fun a t => by simp [State.onWp_only, Only.refl])]
    simp [State.ybAppend_only, State.event_only, Only.refl]
  rw [h.sys (by simp), ← hu]
  rfl

/-- Settles O5: power-on reset ends in FILL, and each step of the bring-up leads on. -/
theorem powerUpBringsFillAndCoreZero : Obligations.PowerUpBringsFillAndCoreZero := by
  refine ⟨?_, ?_, ?_, ?_, ?_, ?_, ?_, ?_, ?_, ?_, ?_⟩
  · rintro straps dual v12 v5 nor s
    refine ⟨_, rfl, ?_⟩
    dsimp only
    generalize hu : State.ringScan nor.ring _ = u
    have hus : u.sys.v12 = v12 ∧ u.sys.v5 = v5 := by rw [← hu]; exact ⟨rfl, rfl⟩
    have hui : u.ident.straps.setWidth 6 = straps := by rw [← hu]; exact straps_setWidth _ _
    have huy : ∀ x ∈ u.yb.recs, x.slot.isSome = true → x.seq.toNat ∉ nor.ring := by
      rw [← hu]
      intro x hx hs
      simp only [State.ringScan, State.onYb_yb, List.mem_filter, Bool.not_eq_true', Bool.and_eq_false_iff, hs,
        Bool.true_eq_false, false_or] at hx
      simpa using hx.2
    have hd : Only [.dict] u (u.storeDecay nor.store) := by simp [State.storeDecay_only, Only.refl]
    obtain ⟨h, hdram⟩ := (u.storeDecay nor.store).bringUp_filling
    rw [hd.sys (by simp)] at h
    obtain ⟨hm, hc, h12, h5⟩ := h.sys
    refine ⟨hm, hdram, hc, ?_, h12.trans hus.1, h5.trans hus.2, fun x hx hs => huy x ?_ hs⟩
    · rw [h.straps, hd.ident (by simp)]
      exact hui
    · rw [← hd.yb (by simp)]
      exact h.flash x hx hs
  · rintro v12 v5 s ⟨hw, ht, hst, h1, h2, h3, h4⟩
    refine ⟨_, rfl, ?_⟩
    have hok : suppliesOk v12 v5 = true := by simp [suppliesOk, h1, h2, h3, h4]
    simp only [hw, Nat.not_lt.2 ht, hok, Bool.not_true, Bool.false_or, decide_false, Bool.false_eq_true, if_false,
      if_true]
    generalize hu : State.onSys _ (State.onSys _ (s.sawSupply v12 v5)) = u
    have ho : Only [.msgs, .rc, .sys] s u := by
      rw [← hu]
      simp [State.sawSupply_only, State.onSys_only, Only.refl]
    have hwait : u.sys.supplyWait = false := by rw [← hu]; rfl
    have h5 : Only [.msgs, .rc, .sys, .dict, .free, .spn] s (u.spnStart.milestone 1) := by
      simp [State.milestone_only, State.spnStart_only, ← hu, State.sawSupply_only, State.onSys_only, Only.refl]
    have h6 : Only [.sys] u.spnStart (u.spnStart.milestone 1) := by simp [State.milestone_only, Only.refl]
    have h7 : Only [.msgs, .dict, .free, .spn] u u.spnStart := by simp [State.spnStart_only, Only.refl]
    obtain ⟨k1, k2, -, -, -⟩ := State.spnStart_spec u
    obtain ⟨m, hm⟩ := State.milestone_sys 1 u.spnStart
    refine ⟨?_, ?_, ?_, h5.allActs (by simp), h5.memorySame (by simp)⟩
    · rw [hm, h7.sys (by simp)]; exact hwait
    · rw [h6.spn (by simp)]; exact k1
    · rw [h6.spn (by simp)]; exact k2
  · rintro s ⟨hw, ht, hm, hp, hr, hl⟩
    refine ⟨_, rfl, ?_⟩
    simp only [hw, ht, decide_true, Bool.and_self, if_true]
    rw [State.enterLimited_fill]
    · exact ⟨rfl, rfl, rfl, rfl, rfl⟩
    · exact hm
    · exact hp
    · exact hr
    · exact hl
  · rintro raw s hd
    refine ⟨_, rfl, ?_⟩
    simp only [hd, ne_eq, not_true_eq_false, if_false, if_true]
    generalize hu : State.event epMemory 1 0xF _ = u
    have ho : Only [.sys] u (u.milestone 2) := by simp [State.milestone_only, Only.refl]
    obtain ⟨m, hm⟩ := State.milestone_sys 2 u
    refine ⟨?_, ?_, ?_, ?_, ?_⟩
    · rw [hm, ← hu]; rfl
    · rw [ho.dramc (by simp), ← hu]; rfl
    · rw [SentOnly, ho.msgs (by simp), ← hu]; rfl
    · rw [ho.mem (by simp), ← hu]; rfl
    · rw [ho.allActs (by simp), ← hu]; rfl
  · rintro mask raw s ⟨hd, hmask, hm, hp, hr, hl⟩
    refine ⟨_, rfl, ?_⟩
    simp only [hd, hmask, ne_eq, not_true_eq_false, if_false]
    rw [State.enterLimited_fill]
    · exact ⟨rfl, rfl, rfl, rfl⟩
    · exact hm
    · exact hp
    · exact hr
    · exact hl
  · rintro ms s ⟨hd, hf⟩
    refine ⟨_, rfl, ?_⟩
    simp only [hd, hf, decide_true, Bool.not_false, Bool.and_self, if_true]
    refine ⟨rfl, rfl, rfl, fun x => ?_⟩
    exact memByte_memClear s.fab.mem dramBase (dramBase + s.usableBytes) x
  · rintro s ⟨hc, hd, hf, hp⟩
    refine ⟨_, rfl, ?_⟩
    simp only [hc, hd, hf, hp, Bool.not_false, Bool.true_or, Bool.and_self, if_true]
    generalize hu : State.event epSystem 3 0 _ = u
    have h1 : Only [.sys] u (u.milestone 3) := by simp [State.milestone_only, Only.refl]
    have h2 : Only [.dict, .msgs, .pwr] (u.milestone 3) ((u.milestone 3).switchOn 30) := by
      simp [State.switchOn_only, Only.refl]
    have h3 : Only [.sys, .dict, .msgs, .pwr] s ((u.milestone 3).switchOn 30) := by
      simp [State.switchOn_only, State.milestone_only, ← hu, State.event_only, State.onSys_only, Only.refl]
    obtain ⟨m, hm⟩ := State.milestone_sys 3 u
    refine ⟨?_, ?_, h3.spn (by simp), h3.allActs (by simp), h3.memorySame (by simp)⟩
    · rw [h2.sys (by simp), hm, ← hu]; rfl
    · refine Sent.grows (t := u) ?_ (State.switchOn_grows 30 _ (.of_eq (h1.msgs (by simp))))
      rw [← hu]
      exact .send _ (s.onSys fun y => { y with coreReleased := true })
  · rintro good s ⟨hc, hi, hb, ha, h1, h2⟩
    refine ⟨_, rfl, ?_⟩
    simp only [hc, hi, hb, ha, bootOrder, if_true, List.takeWhile, List.find?, slotGood, Nat.reduceSub, h1, h2,
      Bool.not_true, Bool.not_false, Option.isSome_none, Bool.or_self, Bool.false_eq_true, if_false, foldS]
    exact ⟨rfl, rfl, rfl, rfl⟩
  · rintro s ⟨hc, hi, hb⟩
    refine ⟨_, rfl, ?_⟩
    have hfind : (bootOrder s.nvme.activeSlot).find? (fun k => slotGood 0 k) = none :=
      List.find?_eq_none.2 fun k _ => by simp [slotGood]
    simp only [hc, hi, hb, hfind, Bool.not_true, Option.isSome_none, Bool.or_self, Bool.false_eq_true, if_false]
    generalize hl : List.takeWhile _ _ = l
    generalize hu : foldS _ l s = u
    have ho : Only [.msgs] s u := by
      rw [← hu]
      exact (Only.foldS fun k t => by simp [State.fault_only, Only.refl]).2 (.refl _ _)
    have hg : Grows s u := by
      rw [← hu]
      exact foldS_keeps (Grows s) _ (fun k t h => h.trans (.send _ t)) _ (.refl s)
    have h2 : Only [.hm, .msgs] (u.fault epSystem 1 0) ((u.fault epSystem 1 0).eoAssert 0xFF) := by
      simp [State.eoAssert_only, Only.refl]
    refine ⟨rfl, rfl, ?_, ?_⟩
    · have ht : s.localTime epSystem = u.localTime epSystem := by
        rw [State.localTime, State.localTime, (ho.time (by simp)).1, (ho.time (by simp)).2]
      rw [ht]
      refine .after hg (.grows (.send _ u) ?_)
      exact State.eoAssert_grows 0xFF _ (.refl _)
    · show ((u.fault epSystem 1 0).eoAssert 0xFF).sys.imageSlot = none
      rw [h2.sys (by simp)]
      show u.sys.imageSlot = none
      rw [ho.sys (by simp), hi]
  · rintro heads areas k s ⟨hi, hr, hh, hl, hw⟩
    refine ⟨_, rfl, ?_⟩
    simp only [hi, hr, hh, Bool.false_or, Bool.true_or, Bool.not_true, Bool.false_eq_true, if_false]
    generalize hu : State.onSys _ s = u
    have hus : u.sys = { s.sys with resident := true } := by rw [← hu]; rfl
    generalize hv : State.soleNamespace _ = v
    have hov : Only [.msgs, .recov, .plc] u v := by
      rw [← hv]
      simp [State.soleNamespace_only, State.startPlacement_only, State.loadLayouts_only, Only.refl]
    have hgv : Grows s v := by
      have hl : Grows s (u.loadLayouts areas) := State.loadLayouts_grows _ _ (by rw [← hu]; exact .of_eq rfl)
      have ho : Only [.plc] (u.loadLayouts areas) v := by
        rw [← hv]
        simp [State.soleNamespace_only, State.startPlacement_only, Only.refl]
      exact hl.trans (.of_eq (ho.msgs (by simp)))
    generalize hw' : State.ybAppend 0x0001 _ _ = w
    have how : Only [.yb, .dict, .msgs] v w := by
      rw [← hw']
      simp [State.ybAppend_only, State.event_only, Only.refl]
    have hsw : Sent (eventMsg epResident 4 k.toNat) s w := by
      rw [← hw']
      refine .after hgv (.grows (.send _ v) (State.ybAppend_grows _ _ _ (.refl _)))
    have hws : w.sys = { s.sys with resident := true } := by
      rw [how.sys (by simp), hov.sys (by simp), hus]
    have hwl : w.sys.limitedPending = none := by rw [hws]; exact hl
    simp only [hwl]
    have hm : (w.enterMode .orientation).sys = _ := State.setMode_sys w.sys.mode.code .orientation w
    have hx : Only [.sys, .dict, .dma, .msgs, .pwr] (w.enterMode .orientation)
        (((w.enterMode .orientation).applyDomains .orientation).milestone 4) := by
      simp [State.milestone_only, State.applyDomains_only, Only.refl]
    have hy : Only [.dict, .dma, .msgs, .pwr] (w.enterMode .orientation)
        ((w.enterMode .orientation).applyDomains .orientation) := by
      simp [State.applyDomains_only, Only.refl]
    obtain ⟨ms, hms⟩ := State.milestone_sys 4 ((w.enterMode .orientation).applyDomains .orientation)
    rw [hy.sys (by simp), hm] at hms
    have hg : Grows w (((w.enterMode .orientation).applyDomains .orientation).milestone 4) := by
      have h1 : Grows w ((w.enterMode .orientation).applyDomains .orientation) :=
        State.applyDomains_grows .orientation _ (State.setMode_grows w.sys.mode.code .orientation w (.refl w))
      have hz : Only [.sys] ((w.enterMode .orientation).applyDomains .orientation)
          (((w.enterMode .orientation).applyDomains .orientation).milestone 4) := by
        simp [State.milestone_only, Only.refl]
      exact h1.trans (.of_eq (hz.msgs (by simp)))
    generalize State.milestone 4 _ = x at hms hg ⊢
    have hshut : x.sys.shutWaiting = none := by rw [hms, hws]; exact hw
    simp only [hshut]
    exact ⟨by rw [hms], by rw [hms, hws], hsw.grows hg⟩
  · rintro s ⟨hi, hh, hp⟩
    refine ⟨_, rfl, ?_⟩
    have hi' : s.sys.imageSlot.isSome = true := Option.isSome_iff_ne_none.2 hi
    simp only [hi', hh, hp, Bool.not_false, Bool.and_self, if_true]
    exact ⟨rfl, rfl, rfl, rfl⟩

end Sys2Proof.Machine

/-! SUPPORT. Entries to RECESS and DORMANT, their exits, and a transition that overruns (02 R40, R50, R51, R65). -/

namespace Sys2Proof.Machine

open Sys2Proof

set_option Elab.async false

/-- A legal target without CRUISE is taken as it is, and nothing but spindle control and the messages sent changes
(04 R104). -/
theorem State.writeTarget_rpm {r : Nat} (h1 : 3600 ≤ r) (h2 : r ≤ 7500) (s : State) :
    (s.writeTarget (BitVec.ofNat 32 (16 * r))).spn.target = BitVec.ofNat 17 (16 * r)
      ∧ SpindleOnly s (s.writeTarget (BitVec.ofNat 32 (16 * r))) := by
  have hc : (BitVec.ofNat 32 (16 * r)).getLsbD 31 = false := by
    simp only [BitVec.getLsbD_ofNat, Nat.testBit_eq_decide_div_mod_eq]
    simp only [Nat.reduceLT, decide_true, Bool.true_and, decide_eq_false_iff_not]
    rw [Nat.div_eq_of_lt (by omega)]
    omega
  have hf : fld (BitVec.ofNat 32 (16 * r)).toNat 0 17 = 16 * r := by
    simp only [fld, BitVec.toNat_ofNat, Nat.pow_zero, Nat.div_one]
    omega
  have ht : SpindleStep s (s.onSpn (Spn.targeted (BitVec.ofNat 32 (16 * r)) s.now)) := .onSpn _ s
  rw [State.writeTarget_of_legal hc (by omega) (by omega), hf]
  have hn : (s.onSpn (Spn.targeted (BitVec.ofNat 32 (16 * r)) s.now)).spn.target = BitVec.ofNat 17 (16 * r) := by
    show BitVec.ofNat 17 (fld (BitVec.ofNat 32 (16 * r)).toNat 0 17) = _
    rw [hf]
  dsimp only
  split
  · split
    · exact ⟨hn, ht.1⟩
    · exact ⟨(State.startRamp_keeps true _).1.trans hn, (ht.trans (.startRamp _ _)).1⟩
  · split
    · exact ⟨hn, ht.1⟩
    · exact ⟨(State.announce_keeps _ _ _).1.trans hn, (ht.trans (.announce _ _ _)).1⟩

/-- A table's other entries are read as before. -/
theorem Tab.get?_set_other {α : Type} (t : Tab α) {k n : Nat} (v : α) (h : n ≠ k) :
    Tab.get? (Tab.set t k v) n = Tab.get? t n := by
  induction t with
  | nil => simp [Tab.set, Tab.get?, h.symm]
  | cons e r ih =>
    obtain ⟨j, w⟩ := e
    rw [Tab.set]
    split
    · simp [Tab.get?, h.symm]
    · split
      · next hj => simp [Tab.get?, ← hj, h.symm]
      · simp only [Tab.get?, ih]

/-- Spindle control's frame as a frame of parts. -/
theorem SpindleOnly.only {s t : State} (h : SpindleOnly s t) : Only [.spn, .msgs] s t := by
  rw [h]
  exact { Only.refl _ s with spn := fun n => absurd (by simp) n, msgs := fun n => absurd (by simp) n }

/-! Switching domains counts them, and leaves every other object of the dictionary. -/

/-- The objects of the dictionary are as before but for one. -/
def KeepsObjects (key : Nat) (s t : State) : Prop := ∀ k, k ≠ key → ∀ d, t.odNat k d = s.odNat k d

theorem KeepsObjects.refl (key : Nat) (s : State) : KeepsObjects key s s := fun _ _ _ => rfl

theorem KeepsObjects.trans {key : Nat} {s t u : State} (h : KeepsObjects key s t) (k : KeepsObjects key t u) :
    KeepsObjects key s u := fun x hx d => (k x hx d).trans (h x hx d)

theorem KeepsObjects.of_dict {key : Nat} {s t : State} (h : t.dict = s.dict) : KeepsObjects key s t :=
  fun _ _ _ => by rw [State.odNat, State.odNat, h]

theorem KeepsObjects.ite {key : Nat} {s t u : State} {c : Prop} [Decidable c] (h : KeepsObjects key s t)
    (k : KeepsObjects key s u) : KeepsObjects key s (if c then t else u) := by
  split
  · exact h
  · exact k

theorem KeepsObjects.count (key n : Nat) (s : State) : KeepsObjects key s (s.count key n) := fun k hk d => by
  show (match Tab.get? (Tab.set s.dict.od key (.num (s.odNat key 0 + n))) k with
    | some (.num v) => v
    | _ => d) = _
  rw [Tab.get?_set_other _ _ hk]
  rfl

theorem KeepsObjects.switchOn (d : Nat) (s : State) : KeepsObjects 0x630004 s (s.switchOn d) := by
  have hc : KeepsObjects 0x630004 s (s.closeSwitch d) :=
    .trans (t := (((s.onDom d _).onPwr _).event epTimetable 17 d)) (.of_dict rfl) (.count 0x630004 1 _)
  unfold State.switchOn
  dsimp only
  split
  · exact .refl _ s
  · split
    · exact .ite hc (.of_dict rfl)
    · exact .of_dict rfl
    · exact .of_dict rfl

theorem KeepsObjects.applyDomains (m : Mode) (s : State) : KeepsObjects 0x630004 s (s.applyDomains m) := by
  have h1 : Only [.dma, .pwr] s (s.switchOffAll (modeOff m)) := by simp [State.switchOffAll_only, Only.refl]
  refine .trans (.of_dict (h1.dict (by simp))) ?_
  exact foldS_keeps (KeepsObjects 0x630004 _) State.switchOn (fun d t h => h.trans (.switchOn d t)) _ (.refl _ _)

theorem mem_allActs (a : Fin 4) : a ∈ allActs := by
  revert a
  decide

/-! Head movement with every head parked (11 R348). -/

theorem State.not_motionBusy_of_parked {s : State} (h : ∀ a, (s.act a).isl.load = .parked) :
    s.motionBusy = false := by
  simp [State.motionBusy, State.moving, h]

/-- With every head parked, and none to load, nothing moves. -/
theorem State.pumpMotion_parked {s : State} (h : ∀ a, (s.act a).isl.load = .parked)
    (hm : s.sys.mode ≠ .orientation) (hs : s.sys.shutStage = none) : s.pumpMotion = s := by
  have hu : (s.presentActs.find? fun a => s.wantsUnload a) = none :=
    List.find?_eq_none.2 fun a _ => by simp [State.wantsUnload, State.loaded, h]
  have hl : (s.presentActs.find? fun a => s.wantsLoad a) = none :=
    List.find?_eq_none.2 fun a _ => by simp [State.wantsLoad, hm, hs]
  unfold State.pumpMotion
  rw [hu, hl]
  split <;> rfl

/-- An entry to RECESS with nothing to commit passes the head-unload point (02 R50). -/
theorem State.startEntry_recess {s : State} (hm : s.sys.mode = .service) (ht : s.target = .recess)
    (hj : s.journalClean = true) (hg : s.plc.groups = []) (hp : ∀ a, (s.act a).isl.load = .parked)
    (hs : s.sys.shutStage = none) :
    s.startEntry = (s.onSys fun y => { y with
      entry := some { target := .recess, stage := .unloading, cutShort := false }, transAt := s.now }).event
      epSystem 15 4 := by
  have hj' : ∀ f, (s.onSys f).journalClean = true := fun _ => hj
  have hg' : ∀ f, (s.onSys f).plc.groups = [] := fun _ => hg
  unfold State.startEntry
  rw [if_neg (by simp [hm]), ht]
  unfold State.entryPump
  simp only [State.onSys_sys, hj', hg', List.all_nil, ne_eq, reduceCtorEq, not_false_eq_true, decide_true,
    Bool.true_or, Bool.and_self, if_true]
  refine State.pumpMotion_parked (s := State.event _ _ _ _) hp ?_ hs
  show s.sys.mode ≠ .orientation
  rw [hm]
  decide

/-- A mode entered tells itself with event 0 (02 R35). -/
theorem State.setMode_sent (old : Nat) (m : Mode) (s : State) :
    Sent (eventMsg epSystem 0 (old * 256 + m.code)) s (s.setMode old m) := by
  unfold State.setMode
  dsimp only
  generalize hu : State.onSys _ s = u
  have h : Sent (eventMsg epSystem 0 (old * 256 + m.code)) s (u.event epSystem 0 (old * 256 + m.code)) := by
    rw [← hu]
    exact .send _ (s.onSys _)
  refine h.grows ?_
  refine Grows.doIf ?_ fun t k => State.dueRelocations_grows t k
  refine Grows.foldS ?_ fun _ t k => State.onWp_grows _ _ t k
  exact State.ybAppend_grows _ _ _ (.refl _)

/-- A safe actuator parked in a domain that is on, with no notice that holds its island, begins to load with its
coil's measurement (05 R150). -/
theorem State.startLoad_spec {a : Fin 4} {s : State} (hp : s.present a = true)
    (hl : (s.act a).isl.load = .parked) (hd : s.domOn (20 + a.val) = true) (hu : s.unsafeAct a = false)
    (hn : (s.act a).isl.notice.rate ≠ 0xFFFF) : ((s.startLoad a).act a).isl.load = .loadPending
      ∧ ((s.startLoad a).act a).isl.coilPhase = true ∧ ActuatorOnly a s (s.startLoad a) := by
  rw [State.startLoad, if_pos (by simp [hp, hl, hd, hu])]
  unfold State.startAttempt
  dsimp only
  rw [if_neg (by simpa using hn)]
  refine ⟨?_, ?_, ?_⟩
  · simp [State.startCoil, State.vcmSend]
  · simp [State.startCoil, State.vcmSend]
  · have hc : ∀ t : State, ActuatorOnly a t (t.startCoil a) := fun t => by
      unfold State.startCoil State.vcmSend
      exact .trans (.onAct a _ _) (.onAct a _ _)
    exact ((ActuatorOnly.onAct a _ s).trans (.onAct a _ _)).trans (hc _)

/-- Settles O7: an entry passes its steps, an exit takes them back, and one past its time is a fault. -/
theorem powerStatesAreEnteredAndLeft : Obligations.PowerStatesAreEnteredAndLeft := by
  refine ⟨?_, ?_, ?_, ?_, ?_, ?_, ?_⟩
  · rintro s ⟨hd, hr, hm, ht, hj, hg, hp⟩
    have hs : s.sys.shutStage = none := by
      simp only [State.entryDue, Bool.and_eq_true, Option.isNone_iff_eq_none] at hd
      exact hd.1.1.1.2
    refine ⟨_, rfl, ?_⟩
    rw [hd, hr, Bool.not_false, Bool.and_self, if_pos rfl, State.startEntry_recess hm ht hj hg hp hs]
    exact ⟨rfl, .send _ (s.onSys _), rfl, .of_mem rfl⟩
  · rintro s ⟨hd, hr, hi, hm, ht, hj, hg, hp⟩
    have hd' := hd
    simp only [State.entryDue, Bool.and_eq_true, Option.isNone_iff_eq_none] at hd'
    obtain ⟨⟨⟨⟨-, hs⟩, -⟩, -⟩, hb⟩ := hd'
    refine ⟨_, rfl, ?_⟩
    rw [hr, hb, if_pos (by simp [hi])]
    dsimp only
    have hd2 : (s.onSys fun y => { y with returnArmed := false }).entryDue = true := hd
    rw [if_pos hd2, State.startEntry_recess (s := s.onSys fun y => { y with returnArmed := false }) hm ht hj hg hp hs]
    exact ⟨rfl, rfl, .send _ ((s.onSys _).onSys _)⟩
  · rintro s ⟨he, hp, h1, h2⟩
    refine ⟨_, rfl, ?_⟩
    simp only [he, hp, ne_eq, not_true_eq_false, decide_false, Bool.not_true, Bool.or_self, Bool.false_eq_true,
      if_false, if_true]
    have hod : (s.applyDomains .recess).p0200RecessRpm = s.p0200RecessRpm :=
      KeepsObjects.applyDomains .recess s 0x020005 (by decide) 4800
    have ho : Only [.dict, .dma, .msgs, .pwr] s (s.applyDomains .recess) := by
      simp [State.applyDomains_only, Only.refl]
    generalize s.applyDomains .recess = u at hod ho
    generalize hv : u.onSys _ = v
    have hov : Only [.dict, .dma, .msgs, .pwr, .sys] s v := by
      rw [← hv]
      exact Only.trans (ho.mono (m := [.dict, .dma, .msgs, .pwr, .sys]) (by simp)) (by simp [State.onSys_only, Only.refl])
    have hr : v.p0200RecessRpm = s.p0200RecessRpm := by rw [← hv]; exact hod
    obtain ⟨k1, k2⟩ := State.writeTarget_rpm h1 h2 v
    rw [hr]
    generalize v.writeTarget _ = w at k1 k2
    refine ⟨?_, k1, ?_, ?_⟩
    · rw [k2, ← hv]; rfl
    · rw [k2]; exact hov.allActs (by simp)
    · refine .of_mem ?_
      rw [k2]; exact hov.mem (by simp)
  · rintro s ⟨he, hr⟩
    refine ⟨_, rfl, ?_⟩
    simp only [he, hr, decide_true, Bool.and_self, if_true]
    have ho : Only [.sys, .dict, .msgs, .plc, .recov, .tt, .yb, .acts] s (s.enterMode .recess) := by
      simp [State.enterMode, State.setMode_only, Only.refl]
    refine ⟨?_, ?_, ?_, ho.memorySame (by simp)⟩
    · rw [State.enterMode, State.setMode_sys]
    · rw [State.enterMode, State.setMode_sys]
    · exact State.setMode_sent _ .recess s
  · rintro temps s ⟨hd, hm, h1, h2, hc⟩
    refine ⟨_, rfl, ?_⟩
    simp only [hd, hm, Bool.not_true, Bool.false_eq_true, if_false, reduceCtorEq, decide_false]
    generalize hu : State.onSys _ s = u
    have hur : u.p2010RatedRpm = s.p2010RatedRpm := by rw [← hu]; rfl
    have huc : u.cruiseOff = true := by rw [← hu]; exact hc
    have hod := KeepsObjects.applyDomains .service u
    have hr : (u.applyDomains .service).p2010RatedRpm = s.p2010RatedRpm :=
      (hod 0x201002 (by decide) 7200).trans hur
    have ho : Only [.dict, .dma, .msgs, .pwr] u (u.applyDomains .service) := by
      simp [State.applyDomains_only, Only.refl]
    have hcr : (u.applyDomains .service).cruiseOff = true := by
      rw [State.cruiseOff, State.p2040CruiseEnable, hod 0x204001 (by decide) 1, ho.sys (by simp)]
      exact huc
    generalize u.applyDomains .service = v at hr ho hcr
    rw [hcr, hr, if_pos rfl, Nat.add_zero]
    obtain ⟨k1, k2⟩ := State.writeTarget_rpm h1 h2 v
    generalize v.writeTarget _ = w at k1 k2
    have hw : Only [.dict, .dma, .msgs, .pwr, .spn] u w := by
      exact (ho.mono (by simp)).trans (k2.only.mono (by simp))
    refine ⟨rfl, ?_, k1, ?_, .of_mem ?_⟩
    · show w.sys.wakeReq = false
      rw [hw.sys (by simp), ← hu]
      rfl
    · show w.acts = s.acts
      rw [hw.allActs (by simp), ← hu]
      rfl
    · show w.fab.mem = s.fab.mem
      rw [hw.mem (by simp), ← hu]
      rfl
  · rintro a s ⟨he, hsp, hb, hp, hl, hd, hu, hn⟩
    refine ⟨_, rfl, ?_⟩
    rw [he, hb, if_pos (by simp [hsp])]
    obtain ⟨k1, k2, k3⟩ := State.startLoad_spec hp hl hd hu hn
    have hpa : a ∈ (s.startLoad a).presentActs := by
      have hid : (s.startLoad a).ident = s.ident := by rw [k3.1]
      rw [State.presentActs, List.mem_filter]
      refine ⟨mem_allActs a, ?_⟩
      rw [State.present, State.actCount, hid]
      exact hp
    have hbusy : (s.startLoad a).motionBusy = true :=
      List.any_eq_true.2 ⟨a, hpa, by simp [State.moving, State.loaded, k1]⟩
    rw [State.exitCheck, hbusy]
    simpa using ⟨k1, k2, k3⟩
  · rintro m b s ⟨ht, hb⟩
    refine ⟨_, rfl, ?_⟩
    simp only [ht, hb, if_true]

end Sys2Proof.Machine

/-! SUPPORT. Frames of a domain that becomes ready. -/

namespace Sys2Proof.Machine

open Sys2Proof

set_option Elab.async false

theorem State.startWaiting_only {ps : List Part} (s : State)
    (h_dict : .dict ∈ ps) (h_msgs : .msgs ∈ ps) (h_pwr : .pwr ∈ ps) (z : State) :
        Only ps z (State.startWaiting s) ↔ Only ps z s := by
  unfold State.startWaiting
  dsimp only
  (repeat' split) <;> simp only [Only.ite, Only.refl, ite_self, Only.foldS, State.closeSwitch_only, h_dict, h_msgs,
      h_pwr, or_true, implies_true]


theorem State.ciphReload_only {ps : List Part} (bad : List Nat) (s : State)
    (h_ciph : .ciph ∈ ps) (h_msgs : .msgs ∈ ps) (z : State) : Only ps z (State.ciphReload bad s) ↔ Only ps z s := by
  unfold State.ciphReload
  dsimp only
  simp only [Only.ite, Only.refl, ite_self, Only.foldS, State.faultAt_only, State.onCiph_only, h_ciph, h_msgs,
    or_true, implies_true]


theorem State.onSupply_only {ps : List Part} (i : Nat) (f : IslandSupply → IslandSupply) (s : State)
    (h_pwr : .pwr ∈ ps) (z : State) : Only ps z (State.onSupply i f s) ↔ Only ps z s := by
  unfold State.onSupply
  simp only [Only.ite, Only.refl, ite_self, State.onPwr_only, h_pwr, or_true, implies_true]


end Sys2Proof.Machine

/-! SUPPORT. A step that does not keep the tables in order: the cipher takes its slots back from the blobs of the
store's current copy as they are listed there (14 R428), and the order of a copy's blobs is none of the tables that
the statement asks to be in order. -/

namespace Sys2Proof.Machine

open Sys2Proof

set_option Elab.async false

/-- A machine whose current copy of the store lists two blobs for slot 0, with the cipher's domain filled. -/
def storedTwice : State :=
  (State.reset.onDict fun d => { d with
    copy0 := { d.copy0 with blobs := [(0, kwStart), (0, kwStart)] } }).onDom 18 fun d => { d with state := .filling }

/-- The cipher's domain reports ready next. -/
noncomputable def storedTwiceReady : State := { storedTwice with pending := [.domainReady 18 none []] }

theorem tablesOk_storedTwiceReady : TablesOk storedTwiceReady := by decide

/-- The cipher's slots after the reload: both blobs, under one number. -/
theorem State.ciphReload_slots {s : State} (hc : s.ciph.slots = [])
    (hb : s.currentCopy.blobs = [(0, kwStart), (0, kwStart)]) :
    Tab.rising (s.ciphReload []).ciph.slots = false := by
  have hk : kwUnwrap slotKek kwStart = some [] := rfl
  unfold State.ciphReload
  dsimp only
  rw [hb, hc]
  simp only [List.contains_nil, Bool.false_eq_true, if_false, hk, Option.map_some, List.filterMap_cons,
    List.filterMap_nil, List.filter_nil, List.filter_cons, Option.isNone_some, List.map_nil, foldS, List.foldl_nil]
  rfl

/-- The units of the cipher's domain start with the reload of its slots. -/
theorem State.unitsStart_cipher (s : State) :
    ∃ u, Only [.mem, .pwr] s u ∧ s.unitsStart 18 none [] = u.ciphReload [] := by
  refine ⟨_, ?_, rfl⟩
  have hf : Only [.mem, .pwr] s (s.fillDomain 18) :=
    { Only.refl _ s with mem := fun n => absurd (by simp) n }
  exact (Only.foldS fun i t => by simp [State.onSupply_only, Only.refl]).2 hf

/-- The machine after the command: the cipher's slots stand as the copy lists them. -/
theorem storedTwice_slots {t : State} (h : step storedTwiceReady = .next t) :
    Tab.rising t.ciph.slots = false := by
  obtain ⟨u, hu, hstart⟩ := State.unitsStart_cipher (storedTwice.onDom 18 fun y => { y with state := .on, fails := 0 })
  have hslots : Tab.rising (u.ciphReload []).ciph.slots = false := by
    refine State.ciphReload_slots ?_ ?_
    · rw [hu.ciph (by simp)]
      rfl
    · rw [State.currentCopy, State.storeCopy, hu.dict (by simp)]
      rfl
  have hw : Only [.msgs, .dict, .pwr] (u.ciphReload []) (u.ciphReload []).startWaiting := by
    simp [State.startWaiting_only, Only.refl]
  have hr : Only [.ciph, .msgs, .mem, .pwr] storedTwice (u.ciphReload []) := by
    refine (State.ciphReload_only [] u (by simp) (by simp) _).2 (.trans ?_ (hu.mono (by simp)))
    simp [State.onDom_only, Only.refl]
  have hstep : step storedTwiceReady = .next ((u.ciphReload []).startWaiting.pumpMotion) := by
    have hrun : step storedTwiceReady = execDomainReady 18 none [] storedTwice := rfl
    have hdom : storedTwice.dom 18 = { Dom.reset with state := .filling } := rfl
    have hfor : storedTwice.onFor 18 0 = true := rfl
    rw [hrun, execDomainReady]
    have hval : ((18 : Fin 32) : Nat) = 18 := rfl
    have hend (v : State) : v.blockResetEnd 18 = v := rfl
    have hoff : Dom.reset.wantOff = false := rfl
    simp only [hval, hdom, hfor, hstart, hend, hoff, List.map_nil, Bool.false_and, Bool.false_eq_true, if_false,
      decide_true, Bool.or_true, Bool.and_self, if_true]
  rw [hstep] at h
  obtain rfl := Host.Outcome.next.inj h
  rw [State.pumpMotion_parked, hw.ciph (by simp)]
  · exact hslots
  · intro a
    rw [hw.act a (by simp), hr.act a (by simp)]
    revert a
    decide
  · rw [hw.sys (by simp), hr.sys (by simp)]
    decide
  · rw [hw.sys (by simp), hr.sys (by simp)]
    rfl

/-- Refutes O59: a copy of the store may list two blobs for one slot; the reload of the slots takes both. -/
theorem not_everyStepKeepsTablesInOrder : ¬ Obligations.EveryStepKeepsTablesInOrder := by
  intro h
  obtain ⟨t, ht⟩ : ∃ t, step storedTwiceReady = .next t := ⟨_, rfl⟩
  obtain ⟨-, -, hslots, -⟩ := h storedTwiceReady t ht tablesOk_storedTwiceReady
  rw [storedTwice_slots ht] at hslots
  exact absurd hslots (by decide)

end Sys2Proof.Machine

/-! SUPPORT. What every operation keeps: the queue, and memory in canonical form with the numbers of commands in
order. -/

namespace Sys2Proof.Machine

open Sys2Proof

set_option Elab.async false

/-- The numbers of fetched commands: none beyond their count, none twice. -/
abbrev Nvme.NumbersOk (v : Nvme) : Prop := (∀ k ∈ v.cmds, k.n ≤ v.fetched) ∧ (v.cmds.map fun k => k.n).Nodup

/-- Commands changed under their numbers keep the numbers in order. -/
theorem Nvme.NumbersOk.map {v w : Nvme} {f : Cmd → Cmd} (hf : ∀ k, (f k).n = k.n) (hc : w.cmds = v.cmds.map f)
    (hn : w.fetched = v.fetched) (k : v.NumbersOk) : w.NumbersOk := by
  obtain ⟨k1, k2⟩ := k
  refine ⟨fun c hc' => ?_, ?_⟩
  · rw [hc] at hc'
    obtain ⟨d, hd, rfl⟩ := List.mem_map.1 hc'
    rw [hf, hn]
    exact k1 d hd
  · rw [hc, List.map_map]
    rwa [show (fun k : Cmd => k.n) ∘ f = fun k => k.n from funext hf]

/-- Commands that leave keep the numbers of the others in order. -/
theorem Nvme.NumbersOk.filter {v w : Nvme} {p : Cmd → Bool} (hc : w.cmds = v.cmds.filter p)
    (hn : w.fetched = v.fetched) (k : v.NumbersOk) : w.NumbersOk := by
  obtain ⟨k1, k2⟩ := k
  refine ⟨fun c hc' => ?_, ?_⟩
  · rw [hc] at hc'
    rw [hn]
    exact k1 c (List.mem_filter.1 hc').1
  · rw [hc]
    exact k2.sublist (List.filter_sublist.map _)

/-- The queue is as it was, and memory and the numbers of commands are in order if they were. -/
structure Ordered (s t : State) : Prop where
  pending : t.pending = s.pending
  numbers : MemoryAndNumbersOk s → MemoryAndNumbersOk t

theorem Ordered.refl (s : State) : Ordered s s := ⟨rfl, id⟩

theorem Ordered.of_fst {α : Type} {z t : State} {p : State × α} {x : α} (e : p = (t, x)) (h : Ordered z p.1) :
    Ordered z t := by rwa [e] at h

theorem Ordered.of_snd {α : Type} {z t : State} {p : α × State} {x : α} (e : p = (x, t)) (h : Ordered z p.2) :
    Ordered z t := by rwa [e] at h

/-- A fold over a list that carries a state beside a value. -/
theorem Ordered.foldl_snd {α β : Type} {z : State} {f : β × State → α → β × State} {xs : List α} {p : β × State}
    (h : Ordered z p.2) (k : ∀ x q, Ordered z q.2 → Ordered z (f q x).2) : Ordered z (xs.foldl f p).2 := by
  induction xs generalizing p with
  | nil => exact h
  | cons x r ih => exact ih (k x p h)

theorem Ordered.foldl_fst {α β : Type} {z : State} {f : State × β → α → State × β} {xs : List α} {p : State × β}
    (h : Ordered z p.1) (k : ∀ x q, Ordered z q.1 → Ordered z (f q x).1) : Ordered z (xs.foldl f p).1 := by
  induction xs generalizing p with
  | nil => exact h
  | cons x r ih => exact ih (k x p h)

/-- The command completes, and keeps memory and the numbers in order. -/
def Answers (s : State) (e : Eff) : Prop := ∃ t, e = .next t ∧ Ordered s t

theorem Answers.next {s t : State} (h : Ordered s t) : Answers s (.next t) := ⟨t, rfl, h⟩

theorem Answers.ite {s : State} {c : Prop} [Decidable c] {e f : Eff} (h : Answers s e) (k : Answers s f) :
    Answers s (if c then e else f) := by
  split
  · exact h
  · exact k

section
variable {z s : State} (h : Ordered z s)
include h

theorem Ordered.trans {t : State} (k : Ordered s t) : Ordered z t :=
  ⟨k.pending.trans h.pending, k.numbers ∘ h.numbers⟩

/-- An operation on what the invariants do not speak of. -/
theorem Ordered.same {t : State} (hp : t.pending = s.pending) (hm : t.fab.mem = s.fab.mem) (hn : t.nvme = s.nvme) :
    Ordered z t where
  pending := hp.trans h.pending
  numbers k := by
    have hs := h.numbers k
    rw [MemoryAndNumbersOk, FreshNumbers] at hs ⊢
    rwa [hm, hn]

/-- A command carried out within another. -/
theorem Ordered.runEff {e : State → Eff} (k : Answers s (e s)) : Ordered z (runEff e s) := by
  obtain ⟨t, ht, hk⟩ := k
  rw [Machine.runEff, ht]
  exact h.trans hk

theorem State.tims_ordered (t : Tab Timer) : Ordered z { s with tims := t } := h.same rfl rfl rfl

theorem Ordered.ite {t : State} {c : Prop} [Decidable c] (k : Ordered z t) : Ordered z (if c then s else t) := by
  split
  · exact h
  · exact k

theorem Ordered.doIf {f : State → State} {c : Bool} (k : ∀ t, Ordered z t → Ordered z (f t)) :
    Ordered z (s.doIf c f) := by
  cases c
  · exact h
  · exact k s h

theorem Ordered.foldS {α : Type} {f : α → State → State} {xs : List α}
    (k : ∀ x t, Ordered z t → Ordered z (f x t)) : Ordered z (foldS f xs s) := foldS_keeps (Ordered z) f k xs h

theorem Ordered.foldl {α : Type} {f : State → α → State} {xs : List α}
    (k : ∀ x t, Ordered z t → Ordered z (f t x)) : Ordered z (xs.foldl f s) := by
  induction xs generalizing s with
  | nil => exact h
  | cons x r ih => exact ih (k x s h)

/-! Parts that the invariants do not speak of. -/

theorem State.onIdent_ordered (f : Ident → Ident) : Ordered z (s.onIdent f) := h.same rfl rfl rfl

theorem State.onSys_ordered (f : Sys → Sys) : Ordered z (s.onSys f) := h.same rfl rfl rfl

theorem State.onDict_ordered (f : Dict → Dict) : Ordered z (s.onDict f) := h.same rfl rfl rfl

theorem State.onSpn_ordered (f : Spn → Spn) : Ordered z (s.onSpn f) := h.same rfl rfl rfl

theorem State.onPool_ordered (f : Pool → Pool) : Ordered z (s.onPool f) := h.same rfl rfl rfl

theorem State.onRecov_ordered (f : Rec → Rec) : Ordered z (s.onRecov f) := h.same rfl rfl rfl

theorem State.onPlc_ordered (f : Plc → Plc) : Ordered z (s.onPlc f) := h.same rfl rfl rfl

theorem State.onTt_ordered (f : Tt → Tt) : Ordered z (s.onTt f) := h.same rfl rfl rfl

theorem State.onDramc_ordered (f : Dramc → Dramc) : Ordered z (s.onDramc f) := h.same rfl rfl rfl

theorem State.onScr_ordered (f : Scr → Scr) : Ordered z (s.onScr f) := h.same rfl rfl rfl

theorem State.onBuf_ordered (f : Buf → Buf) : Ordered z (s.onBuf f) := h.same rfl rfl rfl

theorem State.onCiph_ordered (f : Ciph → Ciph) : Ordered z (s.onCiph f) := h.same rfl rfl rfl

theorem State.onDma_ordered (f : Dma → Dma) : Ordered z (s.onDma f) := h.same rfl rfl rfl

theorem State.onHm_ordered (f : Hm → Hm) : Ordered z (s.onHm f) := h.same rfl rfl rfl

theorem State.onYb_ordered (f : Yb → Yb) : Ordered z (s.onYb f) := h.same rfl rfl rfl

theorem State.onPwr_ordered (f : Pwr → Pwr) : Ordered z (s.onPwr f) := h.same rfl rfl rfl

theorem State.onRc_ordered (f : Rc → Rc) : Ordered z (s.onRc f) := h.same rfl rfl rfl

theorem State.onEvc_ordered (f : Evc → Evc) : Ordered z (s.onEvc f) := h.same rfl rfl rfl

theorem State.onTims_ordered (f : Tab Timer → Tab Timer) : Ordered z (s.onTims f) := h.same rfl rfl rfl

theorem State.onPorts_ordered (f : Ports → Ports) : Ordered z (s.onPorts f) := h.same rfl rfl rfl

theorem State.onAct_ordered (a : Fin 4) (f : Act → Act) : Ordered z (s.onAct a f) := h.same rfl rfl rfl

theorem State.onIsl_ordered (a : Fin 4) (f : Isl → Isl) : Ordered z (s.onIsl a f) := h.same rfl rfl rfl

theorem State.onSvd_ordered (a : Fin 4) (f : Svd → Svd) : Ordered z (s.onSvd a f) := h.same rfl rfl rfl

theorem State.onMsn_ordered (a : Fin 4) (f : Msn → Msn) : Ordered z (s.onMsn a f) := h.same rfl rfl rfl

theorem State.onVcm_ordered (a : Fin 4) (f : Vcm → Vcm) : Ordered z (s.onVcm a f) := h.same rfl rfl rfl

theorem State.onMbx_ordered (a : Fin 4) (f : Four Mailbox → Four Mailbox) : Ordered z (s.onMbx a f) :=
    h.same rfl rfl rfl

theorem State.onSve_ordered (a : Fin 4) (f : Sve → Sve) : Ordered z (s.onSve a f) := h.same rfl rfl rfl

theorem State.onSvp_ordered (a : Fin 4) (f : Svp → Svp) : Ordered z (s.onSvp a f) := h.same rfl rfl rfl

theorem State.onSvi_ordered (a : Fin 4) (f : Svi → Svi) : Ordered z (s.onSvi a f) := h.same rfl rfl rfl

theorem State.onSvc_ordered (a : Fin 4) (f : Svc → Svc) : Ordered z (s.onSvc a f) := h.same rfl rfl rfl

theorem State.onSvb_ordered (a : Fin 4) (f : Svb → Svb) : Ordered z (s.onSvb a f) := h.same rfl rfl rfl

theorem State.onRch_ordered (a : Fin 4) (f : Rch → Rch) : Ordered z (s.onRch a f) := h.same rfl rfl rfl

theorem State.onWp_ordered (a : Fin 4) (f : Wp → Wp) : Ordered z (s.onWp a f) := h.same rfl rfl rfl

theorem State.onPsc_ordered (a : Fin 4) (f : Psc → Psc) : Ordered z (s.onPsc a f) := h.same rfl rfl rfl

theorem State.onPre_ordered (a : Fin 4) (f : Preamp → Preamp) : Ordered z (s.onPre a f) := h.same rfl rfl rfl

theorem State.takeFree_ordered : Ordered z s.takeFree := h.same rfl rfl rfl

theorem State.send_ordered (m : Msg) : Ordered z (s.send m) := h.same rfl rfl rfl

/-! Memory and the commands: an update that keeps their order. -/

theorem State.onFab_ordered {f : Fab → Fab} (hm : Memory.wf s.fab.mem = true → Memory.wf (f s.fab).mem = true) :
    Ordered z (s.onFab f) where
  pending := h.pending
  numbers k := by
    obtain ⟨km, kn⟩ := h.numbers k
    exact ⟨hm km, kn⟩

theorem State.write_ordered (a : Nat) (b : List Byte) : Ordered z (s.write a b) :=
  State.onFab_ordered h fun k => memWrite_wf k a b

theorem State.onNvme_ordered {f : Nvme → Nvme} (hn : s.nvme.NumbersOk → (f s.nvme).NumbersOk) :
    Ordered z (s.onNvme f) where
  pending := h.pending
  numbers k := by
    obtain ⟨km, kf, kn⟩ := h.numbers k
    exact ⟨km, hn ⟨kf, kn⟩⟩

end

end Sys2Proof.Machine

/-! SUPPORT. Each operation of the machine keeps the queue, and memory and the numbers of commands in order: it is
made of operations that do, or it is one of the few that change a command or memory itself. -/

namespace Sys2Proof.Machine

open Sys2Proof

set_option Elab.async false

-- One proof after another: each further thread of the elaborator would reserve a stack of its own, and the text as a
-- whole has to fit the memory it is checked in.
set_option Elab.async false

theorem State.pscQueue_ordered {z : State} (a : Fin 4) (code data : Nat) (s : State) (hk : Ordered z s) :
    Ordered z (State.pscQueue a code data s) := by
  unfold State.pscQueue
  with_reducible repeat' first | assumption | apply State.onPsc_ordered

theorem State.pscRenew_ordered {z : State} (a : Fin 4) (code data : Nat) (s : State) (hk : Ordered z s) :
    Ordered z (State.pscRenew a code data s) := by
  unfold State.pscRenew
  with_reducible repeat' first | assumption | apply State.onPsc_ordered | apply State.pscQueue_ordered

theorem State.pscSetting_ordered {z : State} (a : Fin 4) (code data : Nat) (s : State) (hk : Ordered z s) :
    Ordered z (State.pscSetting a code data s) := by
  unfold State.pscSetting
  dsimp only
  with_reducible repeat' first
    | assumption | apply Ordered.ite | apply State.onPsc_ordered | apply State.pscRenew_ordered

theorem State.wpSetup_ordered {z : State} (a : Fin 4) (head : Nat) (bank : List Word) (trim : Word) (s : State) (hk : Ordered z s) :
    Ordered z (State.wpSetup a head bank trim s) := by
  unfold State.wpSetup
  dsimp only
  with_reducible repeat' first | assumption | apply State.pscSetting_ordered

theorem State.event_ordered {z : State} (src : Endpoint) (num : Nat) (qual : Nat) (s : State) (hk : Ordered z s) :
    Ordered z (State.event src num qual s) := by
  unfold State.event
  with_reducible repeat' first | assumption | apply State.send_ordered

theorem State.actEvent_ordered {z : State} (a : Fin 4) (k off qual : Nat) (s : State) (hk : Ordered z s) :
    Ordered z (State.actEvent a k off qual s) := by
  unfold State.actEvent
  with_reducible repeat' first | assumption | apply Ordered.ite | apply State.event_ordered

theorem State.acceptWrite_ordered {z : State} (a : Fin 4) (op : WriteOp) (s : State) (hk : Ordered z s) :
    Ordered z (State.acceptWrite a op s) := by
  unfold State.acceptWrite
  dsimp only
  with_reducible repeat' first
    | assumption | apply Ordered.ite | apply State.actEvent_ordered | apply State.onWp_ordered
    | apply State.wpSetup_ordered | split

theorem State.wpLateBank_ordered {z : State} (a : Fin 4) (s : State) (hk : Ordered z s) :
    Ordered z (State.wpLateBank a s) := by
  unfold State.wpLateBank
  with_reducible repeat' first | assumption | apply State.onWp_ordered | apply State.wpSetup_ordered | split

theorem State.faultAt_ordered {z : State} (src : Endpoint) (source kind addr : Nat) (s : State) (hk : Ordered z s) :
    Ordered z (State.faultAt src source kind addr s) := by
  unfold State.faultAt
  with_reducible repeat' first | assumption | apply State.send_ordered

theorem State.fault_ordered {z : State} (src : Endpoint) (source kind : Nat) (s : State) (hk : Ordered z s) :
    Ordered z (State.fault src source kind s) := by
  unfold State.fault
  with_reducible repeat' first | assumption | apply State.faultAt_ordered

theorem State.actFault_ordered {z : State} (a : Fin 4) (k off kind : Nat) (s : State) (hk : Ordered z s) :
    Ordered z (State.actFault a k off kind s) := by
  unfold State.actFault
  with_reducible repeat' first | assumption | apply Ordered.ite | apply State.fault_ordered

theorem State.onCard_ordered {z : State} (a : Fin 4) (h : Nat) (f : HeadCard → HeadCard) (s : State) (hk : Ordered z s) :
    Ordered z (State.onCard a h f s) := by
  unfold State.onCard
  with_reducible repeat' first | assumption | apply State.onRc_ordered

theorem State.laserOff_ordered {z : State} (a : Fin 4) (s : State) (hk : Ordered z s) :
    Ordered z (State.laserOff a s) := by
  unfold State.laserOff
  dsimp only
  with_reducible repeat' first | assumption | apply Ordered.ite | apply State.onCard_ordered | split

theorem State.wpIdle_ordered {z : State} (a : Fin 4) (s : State) (hk : Ordered z s) :
    Ordered z (State.wpIdle a s) := by
  unfold State.wpIdle
  with_reducible repeat' first | assumption | apply State.laserOff_ordered | apply State.onWp_ordered

theorem State.odSet_ordered {z : State} (key v : Nat) (s : State) (hk : Ordered z s) :
    Ordered z (State.odSet key v s) := by
  unfold State.odSet
  with_reducible repeat' first | assumption | apply State.onDict_ordered

theorem State.count_ordered {z : State} (key n : Nat) (s : State) (hk : Ordered z s) :
    Ordered z (State.count key n s) := by
  unfold State.count
  with_reducible repeat' first | assumption | apply State.odSet_ordered

theorem State.countA_ordered {z : State} (key : Nat) (a : Fin 4) (n : Nat) (s : State) (hk : Ordered z s) :
    Ordered z (State.countA key a n s) := by
  unfold State.countA
  with_reducible repeat' first | assumption | apply State.count_ordered

theorem State.onBand_ordered {z : State} (glb : Nat) (f : BandEntry → BandEntry) (s : State) (hk : Ordered z s) :
    Ordered z (State.onBand glb f s) := by
  unfold State.onBand
  with_reducible repeat' first | assumption | apply State.onPlc_ordered

theorem State.recount_ordered {z : State} (glb : Nat) (s : State) (hk : Ordered z s) :
    Ordered z (State.recount glb s) := by
  unfold State.recount
  with_reducible repeat' first | assumption | apply State.onBand_ordered

theorem State.holdSlot_ordered {z : State} (b : BandEntry) (next : Option Loc) (s : State) (hk : Ordered z s) :
    Ordered z (State.holdSlot b next s) := by
  unfold State.holdSlot
  with_reducible repeat' first | assumption | apply Ordered.ite | apply State.onPlc_ordered | split

theorem State.applyEntry_ordered {z : State} (e : JEntry) (s : State) (hk : Ordered z s) :
    Ordered z (State.applyEntry e s) := by
  unfold State.applyEntry
  dsimp only
  with_reducible repeat' first
    | assumption | intro _ _ _ | apply Ordered.foldl | apply Ordered.ite | apply State.holdSlot_ordered
    | apply State.onBand_ordered | apply State.onPlc_ordered | apply State.onRecov_ordered
    | apply State.recount_ordered | split

theorem State.oblige_ordered {z : State} (kind job : Nat) (act : Option (Fin 4)) (ms : Nat) (s : State) (hk : Ordered z s) :
    Ordered z (State.oblige kind job act ms s) := by
  unfold State.oblige
  dsimp only
  with_reducible repeat' first | assumption | apply State.onTt_ordered

theorem State.journal_ordered {z : State} (waited : Bool) (e : JEntry) (s : State) (hk : Ordered z s) :
    Ordered z (State.journal waited e s) := by
  unfold State.journal
  dsimp only
  with_reducible repeat' first
    | assumption | intro _ _ | apply Ordered.doIf | apply Ordered.ite | apply State.oblige_ordered
    | apply State.onPlc_ordered

theorem State.change_ordered {z : State} (waited : Bool) (e : JEntry) (s : State) (hk : Ordered z s) :
    Ordered z (State.change waited e s) := by
  unfold State.change
  with_reducible repeat' first | assumption | apply State.applyEntry_ordered | apply State.journal_ordered

theorem State.mapWrite_ordered {z : State} (waited : Bool) (e : Extent) (s : State) (hk : Ordered z s) :
    Ordered z (State.mapWrite waited e s) := by
  unfold State.mapWrite
  dsimp only
  with_reducible repeat' first
    | assumption | intro _ _ | apply Ordered.doIf | apply State.change_ordered | apply State.fault_ordered

theorem State.formGroup_ordered {z : State} (n : Nat) (waited : Bool) (s : State) (hk : Ordered z s) :
    Ordered z (State.formGroup n waited s) := by
  unfold State.formGroup
  dsimp only
  with_reducible repeat' first
    | assumption | intro _ _ _ | apply Ordered.foldS | apply State.journal_ordered | apply State.mapWrite_ordered
    | apply State.onPlc_ordered

theorem State.formDone_ordered {z : State} (ns : List Nat) (s : State) (hk : Ordered z s) :
    Ordered z (State.formDone ns s) := by
  unfold State.formDone
  with_reducible repeat' first
    | assumption | intro _ _ _ | apply Ordered.foldS | apply Ordered.ite | apply State.formGroup_ordered

theorem State.dataEnd_ordered {z : State} (opId : BitVec 32) (ok : Bool) (s : State) (hk : Ordered z s) :
    Ordered z (State.dataEnd opId ok s) := by
  unfold State.dataEnd
  dsimp only
  with_reducible repeat' first
    | assumption | exact fun k => k | apply Ordered.ite | apply State.formDone_ordered | apply State.onBuf_ordered
    | apply State.onNvme_ordered | apply State.onPlc_ordered | split

theorem State.parityEnd_ordered {z : State} (opId : BitVec 32) (ok : Bool) (s : State) (hk : Ordered z s) :
    Ordered z (State.parityEnd opId ok s) := by
  unfold State.parityEnd
  with_reducible repeat' first
    | assumption | apply Ordered.ite | apply State.change_ordered | apply State.onPlc_ordered | split

theorem State.dirtyCheck_ordered {z : State} (s : State) (hk : Ordered z s) :
    Ordered z (State.dirtyCheck s) := by
  unfold State.dirtyCheck
  dsimp only
  with_reducible repeat' first
    | assumption | apply Ordered.ite | apply State.event_ordered | apply State.onBuf_ordered

theorem State.chunkEnd_ordered {z : State} (opId : BitVec 32) (ok : Bool) (s : State) (hk : Ordered z s) :
    Ordered z (State.chunkEnd opId ok s) := by
  unfold State.chunkEnd
  with_reducible repeat' first
    | assumption | apply State.dataEnd_ordered | apply State.dirtyCheck_ordered | apply State.parityEnd_ordered

theorem State.wpEnd_ordered {z : State} (a : Fin 4) (cause : Option Nat) (s : State) (hk : Ordered z s) :
    Ordered z (State.wpEnd a cause s) := by
  unfold State.wpEnd
  dsimp only
  with_reducible repeat' first
    | assumption | apply State.actEvent_ordered | apply State.chunkEnd_ordered | apply State.countA_ordered
    | apply State.onWp_ordered | apply State.wpIdle_ordered | split

theorem State.wpNoBank_ordered {z : State} (a : Fin 4) (s : State) (hk : Ordered z s) :
    Ordered z (State.wpNoBank a s) := by
  unfold State.wpNoBank
  with_reducible repeat' first
    | assumption | apply State.actFault_ordered | apply State.onWp_ordered | apply State.wpEnd_ordered

theorem State.wpCut_ordered {z : State} (a : Fin 4) (bit : Nat) (s : State) (hk : Ordered z s) :
    Ordered z (State.wpCut a bit s) := by
  unfold State.wpCut
  dsimp only
  with_reducible repeat' first
    | assumption | apply State.actEvent_ordered | apply State.countA_ordered | apply State.onWp_ordered
    | apply State.pscRenew_ordered | apply State.wpIdle_ordered | split

theorem State.wpPiece_ordered {z : State} (a : Fin 4) (o : WpOp) (bits : List Bool) (e : Nat) (s : State) (hk : Ordered z s) :
    Ordered z (State.wpPiece a o bits e s) := by
  unfold State.wpPiece
  dsimp only
  with_reducible repeat' first
    | assumption | apply Ordered.ite | apply State.onWp_ordered | apply State.pscSetting_ordered

theorem State.wpContinue_ordered {z : State} (a : Fin 4) (o : WpOp) (room : Nat) (s : State) (hk : Ordered z s) :
    Ordered z (State.wpContinue a o room s) := by
  unfold State.wpContinue
  dsimp only
  with_reducible repeat' first | assumption | apply State.wpPiece_ordered

theorem State.gateContinue_ordered {z : State} (a : Fin 4) (room : Nat) (s : State) (hk : Ordered z s) :
    Ordered z (State.gateContinue a room s) := by
  unfold State.gateContinue
  dsimp only
  with_reducible repeat' first
    | assumption | apply Ordered.ite | apply State.wpContinue_ordered | apply State.wpCut_ordered | split

theorem State.wpSectorEnd_ordered {z : State} (a : Fin 4) (s : State) (hk : Ordered z s) :
    Ordered z (State.wpSectorEnd a s) := by
  unfold State.wpSectorEnd
  with_reducible repeat' first | assumption | apply Ordered.ite | apply State.onWp_ordered | split

theorem State.wpCause_ordered {z : State} (a : Fin 4) (bit : Nat) (on : Bool) (s : State) (hk : Ordered z s) :
    Ordered z (State.wpCause a bit on s) := by
  unfold State.wpCause
  dsimp only
  with_reducible repeat' first
    | assumption | apply Ordered.ite | apply State.actEvent_ordered | apply State.onWp_ordered
    | apply State.wpCut_ordered

theorem State.wpGateOff_ordered {z : State} (a : Fin 4) (s : State) (hk : Ordered z s) :
    Ordered z (State.wpGateOff a s) := by
  unfold State.wpGateOff
  with_reducible repeat' first
    | assumption | apply Ordered.ite | apply State.pscSetting_ordered | apply State.wpIdle_ordered

theorem State.ledOn_ordered {z : State} (s : State) (hk : Ordered z s) :
    Ordered z (State.ledOn s) := by
  unfold State.ledOn
  with_reducible repeat' first | assumption | apply State.onPorts_ordered

theorem State.wpBegin_ordered {z : State} (a : Fin 4) (o : WpOp) (r : List WpOp) (room : Nat) (s : State) (hk : Ordered z s) :
    Ordered z (State.wpBegin a o r room s) := by
  unfold State.wpBegin
  dsimp only
  with_reducible repeat' first
    | assumption | intro _ _ | apply Ordered.doIf | apply State.ledOn_ordered | apply State.onWp_ordered
    | apply State.wpPiece_ordered

theorem State.gateSector_ordered {z : State} (a : Fin 4) (room : Nat) (staged : Bool) (s : State) (hk : Ordered z s) :
    Ordered z (State.gateSector a room staged s) := by
  unfold State.gateSector
  dsimp only
  with_reducible repeat' first
    | assumption | apply Ordered.ite | apply State.actFault_ordered | apply State.onWp_ordered
    | apply State.wpBegin_ordered | apply State.wpCause_ordered | apply State.wpCut_ordered
    | apply State.wpGateOff_ordered | apply State.wpLateBank_ordered | apply State.wpNoBank_ordered
    | apply State.wpSectorEnd_ordered | split

theorem State.replanTrigger_ordered {z : State} (code : Nat) (s : State) (hk : Ordered z s) :
    Ordered z (State.replanTrigger code s) := by
  unfold State.replanTrigger
  with_reducible repeat' first
    | assumption | apply Ordered.ite | apply State.event_ordered | apply State.onRc_ordered

theorem State.sawSupply_ordered {z : State} (v12 v5 : Nat) (s : State) (hk : Ordered z s) :
    Ordered z (State.sawSupply v12 v5 s) := by
  unfold State.sawSupply
  dsimp only
  with_reducible repeat' first
    | assumption | intro _ _ | apply Ordered.doIf | apply State.onRc_ordered | apply State.onSys_ordered
    | apply State.replanTrigger_ordered

theorem State.wpMoved_ordered {z : State} (a : Fin 4) (s : State) (hk : Ordered z s) :
    Ordered z (State.wpMoved a s) := by
  unfold State.wpMoved
  with_reducible repeat' first
    | assumption | apply Ordered.ite | apply State.wpCut_ordered | apply State.wpEnd_ordered

theorem State.preampTakes_ordered {z : State} (a : Fin 4) (code : BitVec 6) (data held : BitVec 16) (s : State) (hk : Ordered z s) :
    Ordered z (State.preampTakes a code data held s) := by
  unfold State.preampTakes
  with_reducible repeat' first | assumption | apply State.onPre_ordered

theorem State.pscEmit_ordered {z : State} (a : Fin 4) (code : BitVec 6) (data held : BitVec 16) (s : State) (hk : Ordered z s) :
    Ordered z (State.pscEmit a code data held s) := by
  unfold State.pscEmit
  dsimp only
  with_reducible repeat' first
    | assumption | apply Ordered.ite | apply State.onPsc_ordered | apply State.preampTakes_ordered

theorem State.pscSend_ordered {z : State} (a : Fin 4) (code : BitVec 6) (data held : BitVec 16) (s : State) (hk : Ordered z s) :
    Ordered z (State.pscSend a code data held s) := by
  unfold State.pscSend
  with_reducible repeat' first | assumption | apply Ordered.ite | apply State.pscEmit_ordered

theorem State.pscDown_ordered {z : State} (a : Fin 4) (kind : Nat) (s : State) (hk : Ordered z s) :
    Ordered z (State.pscDown a kind s) := by
  unfold State.pscDown
  with_reducible repeat' first
    | assumption | apply State.actFault_ordered | apply State.countA_ordered | apply State.onPsc_ordered
    | apply State.onWp_ordered | apply State.pscQueue_ordered | apply State.wpCause_ordered

theorem State.pscCrcError_ordered {z : State} (a : Fin 4) (s : State) (hk : Ordered z s) :
    Ordered z (State.pscCrcError a s) := by
  unfold State.pscCrcError
  dsimp only
  with_reducible repeat' first
    | assumption | apply Ordered.ite | apply State.onPsc_ordered | apply State.pscDown_ordered

theorem State.pscTake_ordered {z : State} (a : Fin 4) (w : Word) (f : Nat → Nat → State → State) (s : State) (hk : Ordered z s) (hf : ∀ c d t, Ordered z t → Ordered z (f c d t)) :
    Ordered z (State.pscTake a w f s) := by
  unfold State.pscTake
  with_reducible repeat' first
    | assumption | apply hf | apply Ordered.ite | apply State.pscCrcError_ordered | split

theorem State.pscAck_ordered {z : State} (a : Fin 4) (data : Nat) (s : State) (hk : Ordered z s) :
    Ordered z (State.pscAck a data s) := by
  unfold State.pscAck
  dsimp only
  with_reducible repeat' first | assumption | apply Ordered.ite | apply State.onPsc_ordered | split

theorem State.pscFaultBits_ordered {z : State} (a : Fin 4) (bits : Nat) (s : State) (hk : Ordered z s) :
    Ordered z (State.pscFaultBits a bits s) := by
  unfold State.pscFaultBits
  dsimp only
  with_reducible repeat' first
    | assumption | apply Ordered.ite | apply State.actEvent_ordered | apply State.actFault_ordered
    | apply State.countA_ordered | apply State.onPsc_ordered | apply State.wpCause_ordered

theorem State.pscId_ordered {z : State} (a : Fin 4) (data : Nat) (s : State) (hk : Ordered z s) :
    Ordered z (State.pscId a data s) := by
  unfold State.pscId
  dsimp only
  with_reducible repeat' first
    | assumption | apply Ordered.ite | apply State.actFault_ordered | apply State.countA_ordered
    | apply State.onPsc_ordered | apply State.onWp_ordered | apply State.pscQueue_ordered
    | apply State.wpCause_ordered

theorem State.pflSeen_ordered {z : State} (a : Fin 4) (s : State) (hk : Ordered z s) :
    Ordered z (State.pflSeen a s) := by
  unfold State.pflSeen
  with_reducible repeat' first
    | assumption | apply Ordered.ite | apply State.onPsc_ordered | apply State.onWp_ordered
    | apply State.wpCause_ordered

theorem State.detentionExpire_ordered {z : State} (d : Detention) (s : State) (hk : Ordered z s) :
    Ordered z (State.detentionExpire d s) := by
  unfold State.detentionExpire
  with_reducible repeat' first
    | assumption | apply Ordered.ite | apply State.count_ordered | apply State.event_ordered
    | apply State.journal_ordered | apply State.onRecov_ordered

theorem State.onLadder_ordered {z : State} (id : Nat) (f : Ladder → Ladder) (s : State) (hk : Ordered z s) :
    Ordered z (State.onLadder id f s) := by
  unfold State.onLadder
  with_reducible repeat' first | assumption | apply Ordered.ite | apply State.onRecov_ordered

theorem State.setWord_ordered {z : State} (a : Nat) (v : Word) (s : State) (hk : Ordered z s) :
    Ordered z (State.setWord a v s) := by
  unfold State.setWord
  with_reducible repeat' first | assumption | apply State.write_ordered

theorem State.offsetWord_ordered {z : State} (a : Fin 4) (ofs : Int) (s : State) (hk : Ordered z s) :
    Ordered z (State.offsetWord a ofs s) := by
  unfold State.offsetWord
  dsimp only
  with_reducible repeat' first | assumption | apply Ordered.ite | apply State.setWord_ordered

theorem State.setSlotWord_ordered {z : State} (a : Fin 4) (k off v : Nat) (s : State) (hk : Ordered z s) :
    Ordered z (State.setSlotWord a k off v s) := by
  unfold State.setSlotWord
  with_reducible repeat' first | assumption | apply State.setWord_ordered

theorem State.showPins_ordered {z : State} (a : Fin 4) (k : Nat) (s : State) (hk : Ordered z s) :
    Ordered z (State.showPins a k s) := by
  unfold State.showPins
  dsimp only
  with_reducible repeat' first | assumption | apply State.setSlotWord_ordered

theorem State.unpinSlot_ordered {z : State} (a : Fin 4) (k : Nat) (resident : Bool) (s : State) (hk : Ordered z s) :
    Ordered z (State.unpinSlot a k resident s) := by
  unfold State.unpinSlot
  with_reducible repeat' first
    | assumption | apply Ordered.ite | apply State.onRch_ordered | apply State.showPins_ordered

theorem State.ladderDrop_ordered {z : State} (l : Ladder) (s : State) (hk : Ordered z s) :
    Ordered z (State.ladderDrop l s) := by
  unfold State.ladderDrop
  dsimp only
  with_reducible repeat' first
    | assumption | apply Ordered.ite | apply State.onRch_ordered | apply State.onRecov_ordered
    | apply State.unpinSlot_ordered

/-- A fetched command changed keeps its number. -/
theorem State.onCmd_ordered {z : State} (n : Nat) (f : Cmd → Cmd) (s : State) (hk : Ordered z s)
    (hf : ∀ k, (f k).n = k.n) : Ordered z (State.onCmd n f s) := by
  refine State.onNvme_ordered hk (.map (fun c => ?_) rfl rfl)
  split
  · exact hf c
  · rfl

theorem State.cmdUnit_ordered {z : State} (n : Option Nat) (st : NvStatus) (s : State) (hk : Ordered z s) :
    Ordered z (State.cmdUnit n st s) := by
  unfold State.cmdUnit
  split
  · exact hk
  · refine State.onCmd_ordered _ _ _ hk fun c => ?_
    unfold Cmd.unitDone
    dsimp only
    split <;> split <;> rfl


theorem State.errEntry_ordered {z : State} (nsid lba : Nat) (s : State) (hk : Ordered z s) :
    Ordered z (State.errEntry nsid lba s) := by
  unfold State.errEntry
  with_reducible repeat' first | assumption | exact fun k => k | apply State.onNvme_ordered

theorem State.onDetention_ordered {z : State} (a : Fin 4) (head : BitVec 5) (track : BitVec 24) (sector : Nat) (f : Detention → Detention) (s : State) (hk : Ordered z s) :
    Ordered z (State.onDetention a head track sector f s) := by
  unfold State.onDetention
  with_reducible repeat' first | assumption | apply Ordered.ite | apply State.onRecov_ordered

theorem State.markUnreadable_ordered {z : State} (a : Fin 4) (head : BitVec 5) (track : BitVec 24) (sector nsid lba : Nat) (s : State) (hk : Ordered z s) :
    Ordered z (State.markUnreadable a head track sector nsid lba s) := by
  unfold State.markUnreadable
  dsimp only
  with_reducible repeat' first
    | assumption | apply Ordered.ite | apply State.change_ordered | apply State.journal_ordered
    | apply State.onRecov_ordered | split

theorem State.relocated_ordered {z : State} (d : Detention) (s : State) (hk : Ordered z s) :
    Ordered z (State.relocated d s) := by
  unfold State.relocated
  with_reducible repeat' first
    | assumption | apply State.count_ordered | apply State.event_ordered | apply State.journal_ordered
    | apply State.onRecov_ordered

theorem State.scheduleRelocation_ordered {z : State} (d : Detention) (s : State) (hk : Ordered z s) :
    Ordered z (State.scheduleRelocation d s) := by
  unfold State.scheduleRelocation
  dsimp only
  with_reducible repeat' first
    | assumption | apply Ordered.ite | apply State.event_ordered | apply State.markUnreadable_ordered
    | apply State.oblige_ordered | apply State.onDetention_ordered | apply State.onRecov_ordered
    | apply State.relocated_ordered

theorem State.detain_ordered {z : State} (l : Ladder) (step : Nat) (recovered : Bool) (s : State) (hk : Ordered z s) :
    Ordered z (State.detain l step recovered s) := by
  unfold State.detain
  dsimp only
  with_reducible repeat' first
    | assumption | apply Ordered.ite | apply State.count_ordered | apply State.detentionExpire_ordered
    | apply State.event_ordered | apply State.fault_ordered | apply State.journal_ordered
    | apply State.onDetention_ordered | apply State.onRecov_ordered | apply State.scheduleRelocation_ordered | split

theorem State.ladderLost_ordered {z : State} (l : Ladder) (s : State) (hk : Ordered z s) :
    Ordered z (State.ladderLost l s) := by
  unfold State.ladderLost
  dsimp only
  with_reducible repeat' first
    | assumption | apply Ordered.ite | apply State.cmdUnit_ordered | apply State.count_ordered
    | apply State.detain_ordered | apply State.errEntry_ordered | apply State.event_ordered
    | apply State.fault_ordered | apply State.ladderDrop_ordered | apply State.offsetWord_ordered

theorem State.nextOp_ordered {z : State} (s : State) (hk : Ordered z s) :
    Ordered z (State.nextOp s) := by
  unfold State.nextOp
  with_reducible repeat' first | assumption | apply State.onPlc_ordered

theorem State.postRead_ordered {z : State} (a : Fin 4) (op : ReadOp) (s : State) (hk : Ordered z s) :
    Ordered z (State.postRead a op s) := by
  unfold State.postRead
  dsimp only
  with_reducible repeat' first
    | assumption | apply Ordered.ite | apply State.actEvent_ordered | apply State.onRch_ordered

theorem State.reread_ordered {z : State} (id : Nat) (ofs : Int) (s : State) (hk : Ordered z s) :
    Ordered z (State.reread id ofs s) := by
  unfold State.reread
  dsimp only
  with_reducible repeat' first
    | assumption | apply State.nextOp_ordered | apply State.offsetWord_ordered | apply State.onLadder_ordered
    | apply State.postRead_ordered | split

theorem State.ladderTry5_ordered {z : State} (id : Nat) (s : State) (hk : Ordered z s) :
    Ordered z (State.ladderTry5 id s) := by
  unfold State.ladderTry5
  with_reducible repeat' first
    | assumption | apply Ordered.ite | apply State.ladderLost_ordered | apply State.onLadder_ordered
    | apply State.reread_ordered | split

theorem State.ladderTry4_ordered {z : State} (id : Nat) (s : State) (hk : Ordered z s) :
    Ordered z (State.ladderTry4 id s) := by
  unfold State.ladderTry4
  with_reducible repeat' first
    | assumption | apply Ordered.ite | apply State.ladderLost_ordered | apply State.ladderTry5_ordered
    | apply State.onLadder_ordered | apply State.reread_ordered | split

theorem State.ladderTry3_ordered {z : State} (id : Nat) (s : State) (hk : Ordered z s) :
    Ordered z (State.ladderTry3 id s) := by
  unfold State.ladderTry3
  dsimp only
  with_reducible repeat' first
    | assumption | apply Ordered.ite | apply State.ladderTry4_ordered | apply State.onLadder_ordered | split

theorem State.pageIn_ordered {z : State} (p : Page) (s : State) (hk : Ordered z s) :
    Ordered z (State.pageIn p s) := by
  unfold State.pageIn
  with_reducible repeat' first | assumption | apply Ordered.ite | apply State.onBuf_ordered

theorem State.keepRead_ordered {z : State} (unit : Nat) (s : State) (hk : Ordered z s) :
    Ordered z (State.keepRead unit s) := by
  unfold State.keepRead
  with_reducible repeat' first | assumption | apply Ordered.ite | apply State.pageIn_ordered

theorem State.ladderWon_ordered {z : State} (l : Ladder) (step : Nat) (s : State) (hk : Ordered z s) :
    Ordered z (State.ladderWon l step s) := by
  unfold State.ladderWon
  dsimp only
  with_reducible repeat' first
    | assumption | intro _ _ | apply Ordered.doIf | apply Ordered.ite | apply State.cmdUnit_ordered
    | apply State.count_ordered | apply State.detain_ordered | apply State.event_ordered
    | apply State.keepRead_ordered | apply State.ladderDrop_ordered | apply State.offsetWord_ordered

theorem State.rchFlag_ordered {z : State} (a : Fin 4) (n : Nat) (s : State) (hk : Ordered z s) :
    Ordered z (State.rchFlag a n s) := by
  unfold State.rchFlag
  with_reducible repeat' first | assumption | apply State.onRch_ordered

theorem State.replayEvent_ordered {z : State} (a : Fin 4) (resident : Bool) (outcome slot : Nat) (s : State) (hk : Ordered z s) :
    Ordered z (State.replayEvent a resident outcome slot s) := by
  unfold State.replayEvent
  with_reducible repeat' first | assumption | apply State.actEvent_ordered | apply State.count_ordered

theorem State.readDone_ordered {z : State} (d : ReadDone) (s : State) (hk : Ordered z s) :
    Ordered z (State.readDone d s) := by
  unfold State.readDone
  with_reducible repeat' first | assumption | apply State.onPool_ordered

theorem State.ladderNext4_ordered {z : State} (id : Nat) (s : State) (hk : Ordered z s) :
    Ordered z (State.ladderNext4 id s) := by
  unfold State.ladderNext4
  with_reducible repeat' first
    | assumption | apply Ordered.ite | apply State.ladderLost_ordered | apply State.ladderTry5_ordered
    | apply State.onLadder_ordered | apply State.reread_ordered | split

theorem State.ladderPump_ordered {z : State} (id : Nat) (s : State) (hk : Ordered z s) :
    Ordered z (State.ladderPump id s) := by
  unfold State.ladderPump
  dsimp only
  with_reducible repeat' first | assumption | apply State.onLadder_ordered | apply State.onRch_ordered | split

theorem State.ladderReplayEnd_ordered {z : State} (id outcome unsat : Nat) (s : State) (hk : Ordered z s) :
    Ordered z (State.ladderReplayEnd id outcome unsat s) := by
  unfold State.ladderReplayEnd
  dsimp only
  with_reducible repeat' first
    | assumption | apply Ordered.ite | apply State.ladderLost_ordered | apply State.ladderNext4_ordered
    | apply State.ladderPump_ordered | apply State.ladderTry3_ordered | apply State.ladderWon_ordered
    | apply State.onLadder_ordered | apply State.unpinSlot_ordered | split

theorem State.guestReplayEnd_ordered {z : State} (a : Fin 4) (outcome iters corr unsat erased : Nat) (s : State) (hk : Ordered z s) :
    Ordered z (State.guestReplayEnd a outcome iters corr unsat erased s) := by
  unfold State.guestReplayEnd
  with_reducible repeat' first | assumption | apply State.onRch_ordered

theorem State.replayEnd_ordered {z : State} (a : Fin 4) (r : ReplayJob) (outcome iters corrected unsat erased : Nat) (s : State) (hk : Ordered z s) :
    Ordered z (State.replayEnd a r outcome iters corrected unsat erased s) := by
  unfold State.replayEnd
  dsimp only
  with_reducible repeat' first
    | assumption | apply Ordered.ite | apply State.guestReplayEnd_ordered | apply State.ladderReplayEnd_ordered
    | apply State.readDone_ordered | apply State.replayEvent_ordered | split

theorem State.replayTurnedAway_ordered {z : State} (a : Fin 4) (j : ReplayJob) (s : State) (hk : Ordered z s) :
    Ordered z (State.replayTurnedAway a j s) := by
  unfold State.replayTurnedAway
  dsimp only
  with_reducible repeat' first
    | assumption | apply State.actFault_ordered | apply State.ladderReplayEnd_ordered | apply State.readDone_ordered
    | split

theorem State.replayQueue_ordered {z : State} (a : Fin 4) (j : ReplayJob) (s : State) (hk : Ordered z s) :
    Ordered z (State.replayQueue a j s) := by
  unfold State.replayQueue
  dsimp only
  with_reducible repeat' first
    | assumption | apply Ordered.ite | apply State.actFault_ordered | apply State.onRch_ordered
    | apply State.rchFlag_ordered | apply State.replayTurnedAway_ordered

theorem State.replayAsk_ordered {z : State} (a : Fin 4) (r : ReplayReq) (s : State) (hk : Ordered z s) :
    Ordered z (State.replayAsk a r s) := by
  unfold State.replayAsk
  dsimp only
  with_reducible repeat' first
    | assumption | apply Ordered.ite | apply State.guestReplayEnd_ordered | apply State.ladderReplayEnd_ordered
    | apply State.rchFlag_ordered | apply State.readDone_ordered | apply State.replayEnd_ordered
    | apply State.replayEvent_ordered | apply State.replayQueue_ordered | split

theorem State.replayPump_ordered {z : State} (n : Nat) (a : Fin 4) (s : State) (hk : Ordered z s) :
    Ordered z (State.replayPump n a s) := by
  induction n generalizing s with
  | zero => exact hk
  | succ n ih =>
    unfold State.replayPump
    dsimp only
    repeat' first
      | with_reducible assumption | with_reducible apply ih | with_reducible apply Ordered.ite
      | with_reducible apply State.replayEnd_ordered | with_reducible apply State.onRch_ordered | split

theorem State.pumpReplays_ordered {z : State} (s : State) (hk : Ordered z s) :
    Ordered z (State.pumpReplays s) := by
  unfold State.pumpReplays
  with_reducible repeat' first | assumption | intro _ _ _ | apply Ordered.foldS | apply State.replayPump_ordered

theorem State.pinSlot_ordered {z : State} (a : Fin 4) (k : Nat) (resident : Bool) (s : State) (hk : Ordered z s) :
    Ordered z (State.pinSlot a k resident s) := by
  unfold State.pinSlot
  with_reducible repeat' first
    | assumption | apply Ordered.ite | apply State.onRch_ordered | apply State.rchFlag_ordered
    | apply State.showPins_ordered

theorem State.ladderReplays2_ordered {z : State} (id : Nat) (s : State) (hk : Ordered z s) :
    Ordered z (State.ladderReplays2 id s) := by
  unfold State.ladderReplays2
  with_reducible repeat' first
    | assumption | apply State.ladderPump_ordered | apply State.onLadder_ordered | split

theorem State.ladderTry2_ordered {z : State} (id : Nat) (s : State) (hk : Ordered z s) :
    Ordered z (State.ladderTry2 id s) := by
  unfold State.ladderTry2
  dsimp only
  with_reducible repeat' first
    | assumption | apply Ordered.ite | apply State.count_ordered | apply State.ladderReplays2_ordered
    | apply State.ladderTry3_ordered | apply State.onLadder_ordered | apply State.pinSlot_ordered | split

theorem State.ladderPins_ordered {z : State} (s : State) (hk : Ordered z s) :
    Ordered z (State.ladderPins s) := by
  unfold State.ladderPins
  with_reducible repeat' first
    | assumption | intro _ _ _ | apply Ordered.foldS | apply Ordered.ite | apply State.ladderTry2_ordered

theorem State.nextSector_ordered {z : State} (a : Fin 4) (s : State) (hk : Ordered z s) :
    Ordered z (State.nextSector a s) := by
  unfold State.nextSector
  with_reducible repeat' first | assumption | apply Ordered.ite | apply State.onRch_ordered | split

theorem State.ladderReread_ordered {z : State} (id : Nat) (j : SectorJob) (outcome : Nat) (s : State) (hk : Ordered z s) :
    Ordered z (State.ladderReread id j outcome s) := by
  unfold State.ladderReread
  dsimp only
  with_reducible repeat' first
    | assumption | apply Ordered.ite | apply State.ladderLost_ordered | apply State.ladderNext4_ordered
    | apply State.ladderPump_ordered | apply State.ladderWon_ordered | apply State.onLadder_ordered
    | apply State.pinSlot_ordered | split

theorem State.ladderStart_ordered {z : State} (a : Fin 4) (j : SectorJob) (outcome : Nat) (s : State) (hk : Ordered z s) :
    Ordered z (State.ladderStart a j outcome s) := by
  unfold State.ladderStart
  dsimp only
  with_reducible repeat' first
    | assumption | apply State.event_ordered | apply State.ladderTry2_ordered | apply State.onRecov_ordered | split

theorem State.readNext_ordered {z : State} (a : Fin 4) (j : SectorJob) (outcome : Nat) (s : State) (hk : Ordered z s) :
    Ordered z (State.readNext a j outcome s) := by
  unfold State.readNext
  with_reducible repeat' first
    | assumption | intro _ _ | apply Ordered.doIf | apply Ordered.ite | apply State.cmdUnit_ordered
    | apply State.count_ordered | apply State.keepRead_ordered | apply State.ladderReread_ordered
    | apply State.ladderStart_ordered | split

theorem State.readEnd_ordered {z : State} (a : Fin 4) (j : SectorJob) (outcome iters unsat corrected atMgn : Nat) (streamed : Bool) (s : State) (hk : Ordered z s) :
    Ordered z (State.readEnd a j outcome iters unsat corrected atMgn streamed s) := by
  unfold State.readEnd
  dsimp only
  with_reducible repeat' first
    | assumption | intro _ _ | apply Ordered.doIf | apply Ordered.ite | apply State.actEvent_ordered
    | apply State.countA_ordered | apply State.onRch_ordered | apply State.readDone_ordered
    | apply State.readNext_ordered | apply State.setSlotWord_ordered

theorem State.freeSlot_ordered {z : State} (h : HeldSlot) (s : State) (hk : Ordered z s) :
    Ordered z (State.freeSlot h s) := by
  unfold State.freeSlot
  dsimp only
  with_reducible repeat' first
    | assumption | apply Ordered.ite | apply State.fault_ordered | apply State.journal_ordered

theorem State.markEvents_ordered {z : State} (a : Fin 4) (j : SectorJob) (found : List Bool) (s : State) (hk : Ordered z s) :
    Ordered z (State.markEvents a j found s) := by
  unfold State.markEvents
  dsimp only
  with_reducible repeat' first
    | assumption | intro _ _ _ | apply Ordered.foldS | apply Ordered.ite | apply State.count_ordered
    | apply State.event_ordered | split

theorem State.captureStart_ordered {z : State} (a : Fin 4) (j : SectorJob) (k : Nat) (x : GateInputs) (s : State) (hk : Ordered z s) :
    Ordered z (State.captureStart a j k x s) := by
  unfold State.captureStart
  dsimp only
  with_reducible repeat' first
    | assumption | apply Ordered.ite | apply State.markEvents_ordered | apply State.onRch_ordered
    | apply State.setSlotWord_ordered

theorem State.timingLost_ordered {z : State} (a : Fin 4) (s : State) (hk : Ordered z s) :
    Ordered z (State.timingLost a s) := by
  unfold State.timingLost
  with_reducible repeat' first
    | assumption | apply State.actFault_ordered | apply State.countA_ordered | apply State.onRch_ordered
    | apply State.rchFlag_ordered

theorem State.regionSeen_ordered {z : State} (a : Fin 4) (x : Region) (s : State) (hk : Ordered z s) :
    Ordered z (State.regionSeen a x s) := by
  unfold State.regionSeen
  dsimp only
  with_reducible repeat' first
    | assumption | apply Ordered.ite | apply State.actEvent_ordered | apply State.countA_ordered
    | apply State.onRch_ordered | apply State.rchFlag_ordered

theorem State.captureStore_ordered {z : State} (a : Fin 4) (j : SectorJob) (x : Capture) (s : State) (hk : Ordered z s) :
    Ordered z (State.captureStore a j x s) := by
  unfold State.captureStore
  dsimp only
  with_reducible repeat' first
    | assumption | exact fun k => k | exact fun k => memClear_wf k _ _ | intro _ _ _ | apply Ordered.foldS
    | apply Ordered.ite | apply State.onFab_ordered | apply State.onRch_ordered | apply State.setSlotWord_ordered
    | apply State.showPins_ordered | apply State.write_ordered

theorem State.tapWriteBack_ordered {z : State} (a : Fin 4) (j : SectorJob) (s : State) (hk : Ordered z s) :
    Ordered z (State.tapWriteBack a j s) := by
  unfold State.tapWriteBack
  dsimp only
  with_reducible repeat' first
    | assumption | intro _ _ _ | apply Ordered.foldl | apply Ordered.ite | apply State.onRch_ordered

theorem State.unstage_ordered {z : State} (a : Fin 4) (j : SectorJob) (s : State) (hk : Ordered z s) :
    Ordered z (State.unstage a j s) := by
  unfold State.unstage
  with_reducible repeat' first | assumption | apply State.onRch_ordered

theorem State.gateClose_ordered {z : State} (a : Fin 4) (j : SectorJob) (x : Capture) (s : State) (hk : Ordered z s) :
    Ordered z (State.gateClose a j x s) := by
  unfold State.gateClose
  dsimp only
  with_reducible repeat' first
    | assumption | intro _ _ _ | intro _ _ | apply Ordered.doIf | apply Ordered.foldS | apply Ordered.ite
    | apply State.actFault_ordered | apply State.captureStore_ordered | apply State.onRch_ordered
    | apply State.pumpReplays_ordered | apply State.rchFlag_ordered | apply State.readEnd_ordered
    | apply State.regionSeen_ordered | apply State.tapWriteBack_ordered | apply State.timingLost_ordered
    | apply State.unstage_ordered

theorem State.grantTo_ordered {z : State} (d : Nat) (j : DecJob) (s : State) (hk : Ordered z s) :
    Ordered z (State.grantTo d j s) := by
  unfold State.grantTo
  dsimp only
  with_reducible repeat' first
    | assumption | intro _ _ | apply Ordered.doIf | apply State.onPool_ordered | apply State.onTt_ordered

theorem State.grantReplay_ordered {z : State} (a : Fin 4) (b : ReplayBuf) (s : State) (hk : Ordered z s) :
    Ordered z (State.grantReplay a b s) := by
  unfold State.grantReplay
  dsimp only
  with_reducible repeat' first
    | assumption | intro _ _ | apply Ordered.doIf | apply Ordered.ite | apply State.event_ordered
    | apply State.grantTo_ordered | apply State.onRch_ordered | split

theorem State.decoderOff_ordered {z : State} (d : Nat) (s : State) (hk : Ordered z s) :
    Ordered z (State.decoderOff d s) := by
  unfold State.decoderOff
  with_reducible repeat' first | assumption | apply State.event_ordered | apply State.onPool_ordered

theorem State.decodeEnd_ordered {z : State} (d : Nat) (j : DecJob) (outcome : Nat) (r : DecodeResult) (s : State) (hk : Ordered z s) :
    Ordered z (State.decodeEnd d j outcome r s) := by
  unfold State.decodeEnd
  dsimp only
  with_reducible repeat' first
    | assumption | intro _ _ | apply Ordered.doIf | apply Ordered.ite | apply State.count_ordered
    | apply State.decoderOff_ordered | apply State.fault_ordered | apply State.onPool_ordered
    | apply State.pumpReplays_ordered | apply State.readEnd_ordered | apply State.replayEnd_ordered
    | apply State.write_ordered | split

theorem State.stripeOn_ordered {z : State} (i n : Nat) (s : State) (hk : Ordered z s) :
    Ordered z (State.stripeOn i n s) := by
  unfold State.stripeOn
  with_reducible repeat' first
    | assumption | apply Ordered.ite | apply State.onPlc_ordered | apply State.write_ordered

theorem State.groupFor_ordered {z : State} (i : Nat) (t : Stripe) (s : State) (hk : Ordered z s) :
    Ordered z (State.groupFor i t s).1 := by
  unfold State.groupFor
  dsimp only
  with_reducible repeat' first
    | assumption | apply State.change_ordered | apply State.journal_ordered | apply State.onPlc_ordered
    | apply State.stripeOn_ordered | apply State.write_ordered | split

theorem State.postWrite_ordered {z : State} (t : Stripe) (pos : Nat) (sectors : List (Nat × BitVec 64)) (s : State) (hk : Ordered z s) :
    Ordered z (State.postWrite t pos sectors s) := by
  unfold State.postWrite
  dsimp only
  with_reducible repeat' first | assumption | apply State.acceptWrite_ordered | apply State.nextOp_ordered

theorem State.onGroup_ordered {z : State} (serial : Nat) (f : RowGroup → RowGroup) (s : State) (hk : Ordered z s) :
    Ordered z (State.onGroup serial f s) := by
  unfold State.onGroup
  with_reducible repeat' first | assumption | apply Ordered.ite | apply State.onPlc_ordered

theorem State.addMembers_ordered {z : State} (g : RowGroup) (data : List (List Byte)) (s : State) (hk : Ordered z s) :
    Ordered z (State.addMembers g data s) := by
  unfold State.addMembers
  dsimp only
  with_reducible repeat' first
    | assumption | intro _ _ _ | apply Ordered.foldl | apply State.onGroup_ordered | apply State.onPlc_ordered

theorem State.writeParity_ordered {z : State} (g : RowGroup) (spare : Nat) (s : State) (hk : Ordered z s) :
    Ordered z (State.writeParity g spare s) := by
  unfold State.writeParity
  dsimp only
  with_reducible repeat' first
    | assumption | apply State.onGroup_ordered | apply State.postWrite_ordered | apply State.write_ordered | split

theorem State.placePieces_ordered {z : State} (n : Nat) (c : ChunkInputs) (i : Nat) (temp : BitVec 2) (gen off : Nat)
    (s : State) (hk : Ordered z s) : Ordered z (State.placePieces n c i temp gen off s) := by
  induction n generalizing off s with
  | zero => exact hk
  | succ n ih =>
    unfold State.placePieces
    dsimp only
    repeat' first
      | with_reducible assumption | with_reducible apply ih | with_reducible apply Ordered.ite
      | with_reducible apply State.stripeOn_ordered | with_reducible apply State.writeParity_ordered
      | with_reducible apply State.addMembers_ordered | with_reducible apply State.onPlc_ordered
      | with_reducible apply State.postWrite_ordered | with_reducible apply State.groupFor_ordered
      | refine Ordered.of_fst (by assumption) ?_ | split

theorem State.cacheMarks_ordered {z : State} (s : State) (hk : Ordered z s) :
    Ordered z (State.cacheMarks s) := by
  unfold State.cacheMarks
  dsimp only
  with_reducible repeat' first
    | assumption | apply Ordered.ite | apply State.event_ordered | apply State.onPlc_ordered

theorem State.closeGroup_ordered {z : State} (g : RowGroup) (spare : Nat) (s : State) (hk : Ordered z s) :
    Ordered z (State.closeGroup g spare s) := by
  unfold State.closeGroup
  dsimp only
  with_reducible repeat' first
    | assumption | apply Ordered.ite | apply State.addMembers_ordered | apply State.onGroup_ordered
    | apply State.postWrite_ordered | apply State.stripeOn_ordered | apply State.writeParity_ordered | split

theorem State.obligDone_ordered {z : State} (kind job : Nat) (s : State) (hk : Ordered z s) :
    Ordered z (State.obligDone kind job s) := by
  unfold State.obligDone
  with_reducible repeat' first | assumption | apply State.onTt_ordered

theorem State.startCommit_ordered {z : State} (order : List (Fin 4)) (s : State) (hk : Ordered z s) :
    Ordered z (State.startCommit order s) := by
  unfold State.startCommit
  dsimp only
  with_reducible repeat' first
    | assumption | intro _ _ _ | apply Ordered.foldl | apply Ordered.ite | apply State.event_ordered
    | apply State.obligDone_ordered | apply State.onPlc_ordered

theorem State.setCopyState_ordered {z : State} (m : BitVec 4) (used : Nat) (s : State) (hk : Ordered z s) :
    Ordered z (State.setCopyState m used s) := by
  unfold State.setCopyState
  with_reducible repeat' first
    | assumption | apply Ordered.ite | apply State.event_ordered | apply State.onPlc_ordered

theorem State.catchUp_ordered {z : State} (a : Fin 4) (s : State) (hk : Ordered z s) :
    Ordered z (State.catchUp a s) := by
  unfold State.catchUp
  dsimp only
  with_reducible repeat' first
    | assumption | intro _ _ _ | apply Ordered.foldl | apply Ordered.ite | apply State.obligDone_ordered
    | apply State.onPlc_ordered | apply State.setCopyState_ordered

theorem State.startCheckpoint_ordered {z : State} (s : State) (hk : Ordered z s) :
    Ordered z (State.startCheckpoint s) := by
  unfold State.startCheckpoint
  dsimp only
  with_reducible repeat' first | assumption | apply Ordered.ite | apply State.onPlc_ordered

theorem State.startJob_ordered {z : State} (j : JobReq) (s : State) (hk : Ordered z s) :
    Ordered z (State.startJob j s) := by
  unfold State.startJob
  dsimp only
  with_reducible repeat' first
    | assumption | intro _ _ | apply Ordered.doIf | apply Ordered.ite | apply State.obligDone_ordered
    | apply State.onBand_ordered | apply State.onPlc_ordered | split

theorem State.takeTarget_ordered {z : State} (a : Fin 4) (s : State) (hk : Ordered z s) :
    Ordered z (State.takeTarget a s) := by
  unfold State.takeTarget
  with_reducible repeat' first | assumption | apply State.onSvd_ordered | split

theorem State.wedgeStart_ordered {z : State} (a : Fin 4) (s : State) (hk : Ordered z s) :
    Ordered z (State.wedgeStart a s) := by
  unfold State.wedgeStart
  with_reducible repeat' first
    | assumption | apply Ordered.ite | apply State.onSvd_ordered | apply State.takeTarget_ordered

theorem State.pushSam_ordered {z : State} (a : Fin 4) (t : Nat) (s : State) (hk : Ordered z s) :
    Ordered z (State.pushSam a t s) := by
  unfold State.pushSam
  with_reducible repeat' first | assumption | apply State.onSvd_ordered

theorem State.islandRequest_ordered {z : State} (a : Fin 4) (s : State) (hk : Ordered z s) :
    Ordered z (State.islandRequest a s) := by
  unfold State.islandRequest
  with_reducible repeat' first | assumption | apply State.wpCause_ordered

theorem State.wedgeMessage_ordered {z : State} (a : Fin 4) (wedge : BitVec 10) (t : Nat) (missing frozen : Bool) (s : State) (hk : Ordered z s) :
    Ordered z (State.wedgeMessage a wedge t missing frozen s) := by
  unfold State.wedgeMessage
  with_reducible repeat' first | assumption | apply State.send_ordered

theorem State.postAen_ordered {z : State} (c : Fin 2) (type info : Nat) (s : State) (hk : Ordered z s) :
    Ordered z (State.postAen c type info s) := by
  unfold State.postAen
  dsimp only
  with_reducible repeat' first
    | assumption | exact fun _ => rfl | exact fun k => k | apply Ordered.ite | apply State.event_ordered
    | apply State.onCmd_ordered | apply State.onNvme_ordered | split

theorem State.notice_ordered {z : State} (c : Fin 2) (info : Nat) (s : State) (hk : Ordered z s) :
    Ordered z (State.notice c info s) := by
  unfold State.notice
  with_reducible repeat' first | assumption | apply Ordered.ite | apply State.postAen_ordered

theorem State.wpSpeed_ordered {z : State} (a : Fin 4) (bad : Bool) (s : State) (hk : Ordered z s) :
    Ordered z (State.wpSpeed a bad s) := by
  unfold State.wpSpeed
  dsimp only
  with_reducible repeat' first
    | assumption | apply Ordered.ite | apply State.actFault_ordered | apply State.onWp_ordered
    | apply State.wpCause_ordered

theorem State.speedCheck_ordered {z : State} (a : Fin 4) (s : State) (hk : Ordered z s) :
    Ordered z (State.speedCheck a s) := by
  unfold State.speedCheck
  dsimp only
  with_reducible repeat' first
    | assumption | apply Ordered.ite | apply State.notice_ordered | apply State.wpSpeed_ordered | split

theorem State.wedgeFound_ordered {z : State} (a : Fin 4) (w : WedgeInputs) (s : State) (hk : Ordered z s) :
    Ordered z (State.wedgeFound a w s) := by
  unfold State.wedgeFound
  dsimp only
  with_reducible repeat' first
    | assumption | apply Ordered.ite | apply State.actEvent_ordered | apply State.actFault_ordered
    | apply State.countA_ordered | apply State.islandRequest_ordered | apply State.onIsl_ordered
    | apply State.onSvd_ordered | apply State.pushSam_ordered | apply State.speedCheck_ordered
    | apply State.wedgeMessage_ordered | apply State.wedgeStart_ordered | split

theorem State.wedgeMissing_ordered {z : State} (a : Fin 4) (s : State) (hk : Ordered z s) :
    Ordered z (State.wedgeMissing a s) := by
  unfold State.wedgeMissing
  dsimp only
  with_reducible repeat' first
    | assumption | apply Ordered.ite | apply State.actEvent_ordered | apply State.actFault_ordered
    | apply State.countA_ordered | apply State.islandRequest_ordered | apply State.onSvd_ordered
    | apply State.pushSam_ordered | apply State.speedCheck_ordered | apply State.wedgeMessage_ordered
    | apply State.wedgeStart_ordered

theorem State.enterAcquire_ordered {z : State} (a : Fin 4) (s : State) (hk : Ordered z s) :
    Ordered z (State.enterAcquire a s) := by
  unfold State.enterAcquire
  with_reducible repeat' first | assumption | apply State.onIsl_ordered | apply State.onSvd_ordered | split

theorem State.markLocked_ordered {z : State} (a : Fin 4) (on acq : Bool) (s : State) (hk : Ordered z s) :
    Ordered z (State.markLocked a on acq s) := by
  unfold State.markLocked
  with_reducible repeat' first | assumption | apply State.onSvd_ordered

theorem State.lockLost_ordered {z : State} (a : Fin 4) (kind : BitVec 2) (s : State) (hk : Ordered z s) :
    Ordered z (State.lockLost a kind s) := by
  unfold State.lockLost
  dsimp only
  with_reducible repeat' first
    | assumption | intro _ _ | apply Ordered.doIf | apply Ordered.ite | apply State.actEvent_ordered
    | apply State.enterAcquire_ordered | apply State.markLocked_ordered | apply State.onSvd_ordered

theorem State.switchLost_ordered {z : State} (a : Fin 4) (s : State) (hk : Ordered z s) :
    Ordered z (State.switchLost a s) := by
  unfold State.switchLost
  with_reducible repeat' first | assumption | apply State.lockLost_ordered | apply State.wedgeMissing_ordered

theorem State.vcmSend_ordered {z : State} (a : Fin 4) (mode : BitVec 2) (value : BitVec 16) (s : State) (hk : Ordered z s) :
    Ordered z (State.vcmSend a mode value s) := by
  unfold State.vcmSend
  with_reducible repeat' first | assumption | apply State.onVcm_ordered

theorem State.startCoil_ordered {z : State} (a : Fin 4) (s : State) (hk : Ordered z s) :
    Ordered z (State.startCoil a s) := by
  unfold State.startCoil
  dsimp only
  with_reducible repeat' first | assumption | apply State.onIsl_ordered | apply State.vcmSend_ordered

theorem State.startAttempt_ordered {z : State} (a : Fin 4) (attempt : BitVec 4) (s : State) (hk : Ordered z s) :
    Ordered z (State.startAttempt a attempt s) := by
  unfold State.startAttempt
  dsimp only
  with_reducible repeat' first
    | assumption | apply Ordered.ite | apply State.notice_ordered | apply State.onIsl_ordered
    | apply State.startCoil_ordered | apply State.vcmSend_ordered

theorem State.startLoad_ordered {z : State} (a : Fin 4) (s : State) (hk : Ordered z s) :
    Ordered z (State.startLoad a s) := by
  unfold State.startLoad
  with_reducible repeat' first
    | assumption | apply Ordered.ite | apply State.onIsl_ordered | apply State.startAttempt_ordered

theorem State.makeSafe_ordered {z : State} (a : Fin 4) (s : State) (hk : Ordered z s) :
    Ordered z (State.makeSafe a s) := by
  unfold State.makeSafe
  with_reducible repeat' first | assumption | apply State.pscQueue_ordered

theorem State.startUnload_ordered {z : State} (a : Fin 4) (retract : Bool) (s : State) (hk : Ordered z s) :
    Ordered z (State.startUnload a retract s) := by
  unfold State.startUnload
  dsimp only
  with_reducible repeat' first
    | assumption | apply Ordered.ite | apply State.islandRequest_ordered | apply State.makeSafe_ordered
    | apply State.onIsl_ordered | split

theorem State.senseFault_ordered {z : State} (a : Fin 4) (kind : Nat) (s : State) (hk : Ordered z s) :
    Ordered z (State.senseFault a kind s) := by
  unfold State.senseFault
  with_reducible repeat' first | assumption | apply State.actFault_ordered | apply State.onSvd_ordered

theorem State.takeMsg_ordered {z : State} (p : Msg → Bool) (s : State) (hk : Ordered z s) :
    Ordered z (State.takeMsg p s).2 := by
  unfold State.takeMsg
  with_reducible repeat' first
    | assumption | exact fun k => k | apply Ordered.ite | apply State.onFab_ordered | split

theorem State.mailboxSet_ordered {z : State} (src dst : Fin 4) (v : F32) (unloaded : Bool) (s : State) (hk : Ordered z s) :
    Ordered z (State.mailboxSet src dst v unloaded s) := by
  unfold State.mailboxSet
  with_reducible repeat' first | assumption | apply State.onMbx_ordered

theorem State.takeWedge_ordered {z : State} (a : Fin 4) (wedge : BitVec 10) (t : Nat) (locked missing frozen : Bool) (s : State) (hk : Ordered z s) :
    Ordered z (State.takeWedge a wedge t locked missing frozen s) := by
  unfold State.takeWedge
  dsimp only
  with_reducible repeat' first | assumption | apply Ordered.ite | apply State.onSpn_ordered | split

theorem State.setSlewHold_ordered {z : State} (a : Fin 4) (on : Bool) (s : State) (hk : Ordered z s) :
    Ordered z (State.setSlewHold a on s) := by
  unfold State.setSlewHold
  with_reducible repeat' first | assumption | apply State.onIsl_ordered | apply State.wpCause_ordered

theorem State.takeNotice_ordered {z : State} (a : Fin 4) (n : NoticeForce) (s : State) (hk : Ordered z s) :
    Ordered z (State.takeNotice a n s) := by
  unfold State.takeNotice
  dsimp only
  with_reducible repeat' first
    | assumption | apply Ordered.ite | apply State.notice_ordered | apply State.onIsl_ordered
    | apply State.setSlewHold_ordered | apply State.startCoil_ordered

theorem State.memAnswer_ordered {z : State} (id : Nat) (src : Endpoint) (kind : BitVec 4) (data : List Byte) (s : State) (hk : Ordered z s) :
    Ordered z (State.memAnswer id src kind data s) := by
  unfold State.memAnswer
  with_reducible repeat' first | assumption | apply State.onDramc_ordered

theorem State.setErrs_ordered {z : State} (g : Nat) (l : List (Nat × Byte)) (s : State) (hk : Ordered z s) :
    Ordered z (State.setErrs g l s) := by
  unfold State.setErrs
  with_reducible repeat' first | assumption | apply State.onDramc_ordered

theorem State.memWait_ordered {z : State} (t : Txn) (s : State) (hk : Ordered z s) :
    Ordered z (State.memWait t s) := by
  unfold State.memWait
  with_reducible repeat' first | assumption | apply State.onDramc_ordered

theorem State.lineOut_ordered {z : State} (l : CheckLine) (s : State) (hk : Ordered z s) :
    Ordered z (State.lineOut l s) := by
  unfold State.lineOut
  with_reducible repeat' first
    | assumption | intro _ _ _ | apply Ordered.foldS | apply Ordered.ite | apply State.setErrs_ordered

theorem State.onChan_ordered {z : State} (c : Fin 4) (f : Chan → Chan) (s : State) (hk : Ordered z s) :
    Ordered z (State.onChan c f s) := by
  unfold State.onChan
  with_reducible repeat' first | assumption | apply State.onDramc_ordered

theorem State.closeRow_ordered {z : State} (c : Fin 4) (x : Nat) (s : State) (hk : Ordered z s) :
    Ordered z (State.closeRow c x s) := by
  unfold State.closeRow
  dsimp only
  with_reducible repeat' first
    | assumption | intro _ _ _ | apply Ordered.foldS | apply Ordered.ite | apply State.lineOut_ordered
    | apply State.onChan_ordered

theorem State.openRow_ordered {z : State} (g : Nat) (s : State) (hk : Ordered z s) :
    Ordered z (State.openRow g s) := by
  unfold State.openRow
  dsimp only
  with_reducible repeat' first
    | assumption | apply Ordered.ite | apply State.closeRow_ordered | apply State.onChan_ordered | split

theorem State.lineIn_ordered {z : State} (l : CheckLine) (c : Fin 4) (s : State) (hk : Ordered z s) :
    Ordered z (State.lineIn l c s) := by
  unfold State.lineIn
  with_reducible repeat' first | assumption | apply State.onChan_ordered

theorem State.lineRoom_ordered {z : State} (c : Fin 4) (s : State) (hk : Ordered z s) :
    Ordered z (State.lineRoom c s) := by
  unfold State.lineRoom
  with_reducible repeat' first
    | assumption | apply Ordered.ite | apply State.lineOut_ordered | apply State.onChan_ordered | split

theorem State.lineRead_ordered {z : State} (g : Nat) (s : State) (hk : Ordered z s) :
    Ordered z (State.lineRead g s) := by
  unfold State.lineRead
  dsimp only
  with_reducible repeat' first
    | assumption | apply Ordered.ite | apply State.lineIn_ordered | apply State.lineRoom_ordered
    | apply State.openRow_ordered | split

theorem State.memCorrected_ordered {z : State} (g : Nat) (s : State) (hk : Ordered z s) :
    Ordered z (State.memCorrected g s) := by
  unfold State.memCorrected
  dsimp only
  with_reducible repeat' first
    | assumption | apply Ordered.ite | apply State.count_ordered | apply State.event_ordered
    | apply State.faultAt_ordered | apply State.onChan_ordered | split

theorem State.lineWrite_ordered {z : State} (g : Nat) (s : State) (hk : Ordered z s) :
    Ordered z (State.lineWrite g s) := by
  unfold State.lineWrite
  dsimp only
  with_reducible repeat' first
    | assumption | apply State.lineIn_ordered | apply State.lineRoom_ordered | apply State.openRow_ordered | split

theorem State.writeBack_ordered {z : State} (g : Nat) (src : Endpoint) (s : State) (hk : Ordered z s) :
    Ordered z (State.writeBack g src s) := by
  unfold State.writeBack
  dsimp only
  with_reducible repeat' first
    | assumption | apply Ordered.ite | apply State.lineWrite_ordered | apply State.onChan_ordered
    | apply State.setErrs_ordered

theorem State.storeWrong_ordered {z : State} (g : Nat) (burst p : List (Nat × Byte)) (s : State) (hk : Ordered z s) :
    Ordered z (State.storeWrong g burst p s) := by
  unfold State.storeWrong
  dsimp only
  with_reducible repeat' first
    | assumption | intro _ _ _ | apply Ordered.foldS | apply Ordered.ite | apply State.setErrs_ordered
    | apply State.write_ordered | split

theorem State.memLog_ordered {z : State} (addr : Nat) (ch : Fin 4) (kind : Nat) (src : Endpoint) (bytes : Nat) (s : State) (hk : Ordered z s) :
    Ordered z (State.memLog addr ch kind src bytes s) := by
  unfold State.memLog
  dsimp only
  with_reducible repeat' first
    | assumption | apply Ordered.ite | apply State.count_ordered | apply State.event_ordered
    | apply State.fault_ordered | apply State.onDramc_ordered

theorem State.pageLost_ordered {z : State} (u : Nat) (s : State) (hk : Ordered z s) :
    Ordered z (State.pageLost u s) := by
  unfold State.pageLost
  dsimp only
  with_reducible repeat' first
    | assumption | apply Ordered.ite | apply State.change_ordered | apply State.count_ordered
    | apply State.dirtyCheck_ordered | apply State.event_ordered | apply State.fault_ordered
    | apply State.formDone_ordered | apply State.journal_ordered | apply State.onBuf_ordered | split

theorem State.memBad_ordered {z : State} (g : Nat) (d : Decoded) (src : Endpoint) (page : Option Nat) (s : State) (hk : Ordered z s) :
    Ordered z (State.memBad g d src page s) := by
  unfold State.memBad
  dsimp only
  with_reducible repeat' first
    | assumption | apply State.count_ordered | apply State.event_ordered | apply State.faultAt_ordered
    | apply State.memLog_ordered | apply State.pageLost_ordered | split

theorem State.readGran_ordered {z : State} (g : Nat) (src : Endpoint) (fix : Bool) (burst : List (Nat × Byte)) (page : Option Nat) (s : State) (hk : Ordered z s) :
    Ordered z (State.readGran g src fix burst page s).2 := by
  unfold State.readGran
  dsimp only
  with_reducible repeat' first
    | assumption | apply Ordered.ite | apply State.lineRead_ordered | apply State.memBad_ordered
    | apply State.memCorrected_ordered | apply State.storeWrong_ordered | apply State.writeBack_ordered | split

theorem State.serveRead_ordered {z : State} (t : Txn) (burst : List (Nat × Byte)) (page : Option Nat) (s : State) (hk : Ordered z s) :
    Ordered z (State.serveRead t burst page s) := by
  unfold State.serveRead
  dsimp only
  with_reducible repeat' first
    | assumption | apply Ordered.ite | apply State.memAnswer_ordered | apply State.readGran_ordered
    | refine Ordered.of_snd (by assumption) ?_ | split

theorem State.queueWrite_ordered {z : State} (t : Txn) (burst : List (Nat × Byte)) (s : State) (hk : Ordered z s) :
    Ordered z (State.queueWrite t burst s) := by
  unfold State.queueWrite
  dsimp only
  with_reducible repeat' first
    | assumption | apply Ordered.ite | apply State.memAnswer_ordered | apply State.onChan_ordered
    | apply State.write_ordered

theorem State.queueAmo_ordered {z : State} (t : Txn) (s : State) (hk : Ordered z s) :
    Ordered z (State.queueAmo t s) := by
  unfold State.queueAmo
  dsimp only
  with_reducible repeat' first | assumption | apply Ordered.ite | apply State.onChan_ordered

theorem State.memTake_ordered {z : State} (t : Txn) (burst : List (Nat × Byte)) (page : Option Nat) (s : State) (hk : Ordered z s) :
    Ordered z (State.memTake t burst page s) := by
  unfold State.memTake
  with_reducible repeat' first
    | assumption | apply State.queueAmo_ordered | apply State.queueWrite_ordered | apply State.serveRead_ordered
    | split

theorem State.mergeEntry_ordered {z : State} (q : QEntry) (s : State) (hk : Ordered z s) :
    Ordered z (State.mergeEntry q s) := by
  unfold State.mergeEntry
  dsimp only
  with_reducible repeat' first
    | assumption | intro _ _ _ | apply Ordered.foldS | apply Ordered.ite | apply State.count_ordered
    | apply State.faultAt_ordered | apply State.lineWrite_ordered | apply State.memAnswer_ordered
    | apply State.memLog_ordered | apply State.onChan_ordered | apply State.readGran_ordered
    | apply State.setErrs_ordered | apply State.write_ordered | refine Ordered.of_snd (by assumption) ?_ | split

theorem State.memRetry_ordered {z : State} (s : State) (hk : Ordered z s) :
    Ordered z (State.memRetry s) := by
  unfold State.memRetry
  dsimp only
  with_reducible repeat' first
    | assumption | intro _ _ _ | apply Ordered.foldS | apply Ordered.ite | apply State.memTake_ordered
    | apply State.memWait_ordered | apply State.onDramc_ordered

theorem State.drainChan_ordered {z : State} (c : Fin 4) (s : State) (hk : Ordered z s) :
    Ordered z (State.drainChan c s) := by
  unfold State.drainChan
  dsimp only
  with_reducible repeat' first
    | assumption | intro _ _ _ | apply Ordered.foldS | apply Ordered.ite | apply State.lineWrite_ordered
    | apply State.onChan_ordered | apply State.setErrs_ordered

theorem State.closeBank_ordered {z : State} (c : Fin 4) (bank : Nat) (s : State) (hk : Ordered z s) :
    Ordered z (State.closeBank c bank s) := by
  unfold State.closeBank
  with_reducible repeat' first
    | assumption | intro _ _ _ | apply Ordered.foldS | apply State.closeRow_ordered | apply State.onChan_ordered
    | split

theorem State.scrubStart_ordered {z : State} (s : State) (hk : Ordered z s) :
    Ordered z (State.scrubStart s) := by
  unfold State.scrubStart
  dsimp only
  with_reducible repeat' first
    | assumption | intro _ _ _ | apply Ordered.foldS | apply Ordered.ite | apply State.event_ordered
    | apply State.onChan_ordered | apply State.onScr_ordered

theorem State.scrubEnd_ordered {z : State} (how : ScrState) (s : State) (hk : Ordered z s) :
    Ordered z (State.scrubEnd how s) := by
  unfold State.scrubEnd
  dsimp only
  with_reducible repeat' first
    | assumption | apply Ordered.ite | apply State.count_ordered | apply State.event_ordered
    | apply State.odSet_ordered | apply State.onScr_ordered | split

theorem State.onBank_ordered {z : State} (n : Nat) (f : YbBank → YbBank) (s : State) (hk : Ordered z s) :
    Ordered z (State.onBank n f s) := by
  unfold State.onBank
  with_reducible repeat' first | assumption | apply State.onYb_ordered

theorem State.ybRefuse_ordered {z : State} (n flag : Nat) (s : State) (hk : Ordered z s) :
    Ordered z (State.ybRefuse n flag s) := by
  unfold State.ybRefuse
  with_reducible repeat' first | assumption | apply State.onBank_ordered

theorem State.ybPut_ordered {z : State} (r : YbRec) (s : State) (hk : Ordered z s) :
    Ordered z (State.ybPut r s) := by
  unfold State.ybPut
  with_reducible repeat' first | assumption | apply State.onYb_ordered

theorem State.ybAppendInj_ordered {z : State} (ty : Nat) (payload : List Byte) (injected : Bool) (s : State) (hk : Ordered z s) :
    Ordered z (State.ybAppendInj ty payload injected s) := by
  unfold State.ybAppendInj
  with_reducible repeat' first
    | assumption | apply Ordered.ite | apply State.count_ordered | apply State.onYb_ordered
    | apply State.ybPut_ordered

theorem State.ybAppend_ordered {z : State} (ty : Nat) (payload : List Byte) (s : State) (hk : Ordered z s) :
    Ordered z (State.ybAppend ty payload s) := by
  unfold State.ybAppend
  with_reducible repeat' first | assumption | apply State.ybAppendInj_ordered

theorem State.moveCursor_ordered {z : State} (who : YbWho) (f : BitVec 48 → BitVec 48) (s : State) (hk : Ordered z s) :
    Ordered z (State.moveCursor who f s) := by
  unfold State.moveCursor
  with_reducible repeat' first | assumption | apply State.onBank_ordered

theorem State.ybErase_ordered {z : State} (sector : Nat) (s : State) (hk : Ordered z s) :
    Ordered z (State.ybErase sector s) := by
  unfold State.ybErase
  dsimp only
  with_reducible repeat' first
    | assumption | apply Ordered.ite | apply State.event_ordered | apply State.onYb_ordered | split

theorem State.ybAhead_ordered {z : State} (erased : Bool) (s : State) (hk : Ordered z s) :
    Ordered z (State.ybAhead erased s) := by
  unfold State.ybAhead
  dsimp only
  with_reducible repeat' first
    | assumption | apply Ordered.ite | apply State.event_ordered | apply State.onYb_ordered
    | apply State.ybErase_ordered

theorem State.ybAdvance_ordered {z : State} (erased : Bool) (s : State) (hk : Ordered z s) :
    Ordered z (State.ybAdvance erased s) := by
  unfold State.ybAdvance
  dsimp only
  with_reducible repeat' first
    | assumption | apply Ordered.ite | apply State.onYb_ordered | apply State.ybAhead_ordered

theorem State.ybProgramSeq_ordered {z : State} (erased : Bool) (n : BitVec 48) (s : State) (hk : Ordered z s) :
    Ordered z (State.ybProgramSeq erased n s) := by
  unfold State.ybProgramSeq
  dsimp only
  with_reducible repeat' first
    | assumption | apply Ordered.ite | apply State.onYb_ordered | apply State.ybAdvance_ordered

theorem State.ybDropped_ordered {z : State} (s : State) (hk : Ordered z s) :
    Ordered z (State.ybDropped s) := by
  unfold State.ybDropped
  dsimp only
  with_reducible repeat' first
    | assumption | apply Ordered.ite | apply State.event_ordered | apply State.onYb_ordered
    | apply State.ybAppend_ordered

theorem State.ybProgram_ordered {z : State} (ok erased : Bool) (s : State) (hk : Ordered z s) :
    Ordered z (State.ybProgram ok erased s) := by
  unfold State.ybProgram
  with_reducible repeat' first
    | assumption | apply Ordered.ite | apply State.event_ordered | apply State.ybAdvance_ordered
    | apply State.ybDropped_ordered | apply State.ybProgramSeq_ordered | split

theorem State.ringScan_ordered {z : State} (bad : List Nat) (s : State) (hk : Ordered z s) :
    Ordered z (State.ringScan bad s) := by
  unfold State.ringScan
  dsimp only
  with_reducible repeat' first | assumption | apply State.onYb_ordered

theorem State.setCopy_ordered {z : State} (one : Bool) (c : StoreCopy) (s : State) (hk : Ordered z s) :
    Ordered z (State.setCopy one c s) := by
  unfold State.setCopy
  with_reducible repeat' first | assumption | apply Ordered.ite | apply State.onDict_ordered

theorem State.storeDecay_ordered {z : State} (bad : BitVec 2) (s : State) (hk : Ordered z s) :
    Ordered z (State.storeDecay bad s) := by
  unfold State.storeDecay
  dsimp only
  with_reducible repeat' first | assumption | intro _ _ | apply Ordered.doIf | apply State.setCopy_ordered

theorem State.saveCut_ordered {z : State} (s : State) (hk : Ordered z s) :
    Ordered z (State.saveCut s) := by
  unfold State.saveCut
  with_reducible repeat' first | assumption | apply State.onDict_ordered | apply State.setCopy_ordered | split

theorem State.eraseAcross_ordered {z : State} (s : State) (hk : Ordered z s) :
    Ordered z (State.eraseAcross s) := by
  unfold State.eraseAcross
  dsimp only
  with_reducible repeat' first
    | assumption | intro _ _ _ | apply Ordered.foldl | apply Ordered.ite | apply State.onCiph_ordered
    | apply State.onDict_ordered | split

theorem State.activateNext_ordered {z : State} (chip : Bool) (s : State) (hk : Ordered z s) :
    Ordered z (State.activateNext chip s) := by
  unfold State.activateNext
  with_reducible repeat' first
    | assumption | exact fun k => k | apply Ordered.ite | apply State.onNvme_ordered | apply State.onSys_ordered
    | split

theorem State.spnReset_ordered {z : State} (s : State) (hk : Ordered z s) :
    Ordered z (State.spnReset s) := by
  unfold State.spnReset
  with_reducible repeat' first | assumption | apply Ordered.ite | apply State.onSpn_ordered

theorem State.keepAcross_ordered {z : State} (por : Bool) (s : State) (hk : Ordered z s) :
    Ordered z (State.keepAcross por s) := by
  have he : Ordered z s.saveCut.eraseAcross := State.eraseAcross_ordered _ (State.saveCut_ordered _ hk)
  refine ⟨he.pending, fun k => ⟨?_, ?_, List.nodup_nil⟩⟩
  · obtain ⟨km, -⟩ := he.numbers k
    rw [Memory.wf_iff] at km ⊢
    exact ⟨Tab.rising_filter _ km.1, fun e h => km.2 e (List.mem_filter.1 h).1⟩
  · exact fun c hc => absurd hc List.not_mem_nil


theorem State.dueRelocations_ordered {z : State} (s : State) (hk : Ordered z s) :
    Ordered z (State.dueRelocations s) := by
  unfold State.dueRelocations
  with_reducible repeat' first
    | assumption | intro _ _ _ | apply Ordered.foldS | apply Ordered.ite | apply State.scheduleRelocation_ordered

theorem State.setMode_ordered {z : State} (old : Nat) (m : Mode) (s : State) (hk : Ordered z s) :
    Ordered z (State.setMode old m s) := by
  unfold State.setMode
  dsimp only
  with_reducible repeat' first
    | assumption | intro _ _ _ | intro _ _ | apply Ordered.doIf | apply Ordered.foldS
    | apply State.dueRelocations_ordered | apply State.event_ordered | apply State.onSys_ordered
    | apply State.onWp_ordered | apply State.ybAppend_ordered

theorem State.onHmSrc_ordered {z : State} (n : Nat) (f : HmSrc → HmSrc) (s : State) (hk : Ordered z s) :
    Ordered z (State.onHmSrc n f s) := by
  unfold State.onHmSrc
  with_reducible repeat' first | assumption | apply State.onHm_ordered

theorem State.hallLoad_ordered {z : State} (key v : Nat) (s : State) (hk : Ordered z s) :
    Ordered z (State.hallLoad key v s) := by
  unfold State.hallLoad
  with_reducible repeat' first
    | assumption | apply Ordered.ite | apply State.odSet_ordered | apply State.onEvc_ordered
    | apply State.onHmSrc_ordered | apply State.onHm_ordered | apply State.onSpn_ordered

theorem State.odSetBytes_ordered {z : State} (key : Nat) (v : List Byte) (s : State) (hk : Ordered z s) :
    Ordered z (State.odSetBytes key v s) := by
  unfold State.odSetBytes
  with_reducible repeat' first | assumption | apply State.onDict_ordered

theorem State.loadStore_ordered {z : State} (s : State) (hk : Ordered z s) :
    Ordered z (State.loadStore s) := by
  unfold State.loadStore
  dsimp only
  with_reducible repeat' first
    | assumption | intro _ _ _ | apply Ordered.foldl | apply Ordered.ite | apply State.event_ordered
    | apply State.fault_ordered | apply State.hallLoad_ordered | apply State.odSetBytes_ordered
    | apply State.onDict_ordered | split

theorem State.milestone_ordered {z : State} (i : Nat) (s : State) (hk : Ordered z s) :
    Ordered z (State.milestone i s) := by
  unfold State.milestone
  with_reducible repeat' first | assumption | apply Ordered.ite | apply State.onSys_ordered

theorem State.failReads_ordered {z : State} (a : Fin 4) (s : State) (hk : Ordered z s) :
    Ordered z (State.failReads a s) := by
  unfold State.failReads
  dsimp only
  with_reducible repeat' first
    | assumption | intro _ _ _ | apply Ordered.foldS | apply Ordered.ite | apply State.cmdUnit_ordered
    | apply State.ladderDrop_ordered | apply State.onRch_ordered

theorem State.onDom_ordered {z : State} (d : Nat) (f : Dom → Dom) (s : State) (hk : Ordered z s) :
    Ordered z (State.onDom d f s) := by
  unfold State.onDom
  with_reducible repeat' first | assumption | apply State.onPwr_ordered

theorem State.dmaAbortAll_ordered {z : State} (s : State) (hk : Ordered z s) :
    Ordered z (State.dmaAbortAll s) := by
  unfold State.dmaAbortAll
  with_reducible repeat' first | assumption | apply Ordered.ite | apply State.onDma_ordered

theorem State.commitOff_ordered {z : State} (d : Nat) (s : State) (hk : Ordered z s) :
    Ordered z (State.commitOff d s) := by
  unfold State.commitOff
  with_reducible repeat' first | assumption | apply State.onDom_ordered

theorem State.switchOff_ordered {z : State} (d : Nat) (s : State) (hk : Ordered z s) :
    Ordered z (State.switchOff d s) := by
  unfold State.switchOff
  dsimp only
  with_reducible repeat' first
    | assumption | apply Ordered.ite | apply State.commitOff_ordered | apply State.dmaAbortAll_ordered
    | apply State.onDom_ordered | split

theorem State.switchOffAll_ordered {z : State} (ds : List Nat) (s : State) (hk : Ordered z s) :
    Ordered z (State.switchOffAll ds s) := by
  unfold State.switchOffAll
  with_reducible repeat' first | assumption | intro _ _ _ | apply Ordered.foldS | apply State.switchOff_ordered

theorem State.updateWarnings_ordered {z : State} (s : State) (hk : Ordered z s) :
    Ordered z (State.updateWarnings s) := by
  unfold State.updateWarnings
  dsimp only
  with_reducible repeat' first
    | assumption | exact fun k => k | intro _ _ _ | apply Ordered.foldS | apply Ordered.ite
    | apply State.onNvme_ordered | apply State.postAen_ordered

theorem State.markUnsafe_ordered {z : State} (a : Fin 4) (s : State) (hk : Ordered z s) :
    Ordered z (State.markUnsafe a s) := by
  unfold State.markUnsafe
  dsimp only
  with_reducible repeat' first
    | assumption | apply Ordered.ite | apply State.failReads_ordered | apply State.onSys_ordered
    | apply State.startUnload_ordered | apply State.switchOffAll_ordered | apply State.updateWarnings_ordered

theorem State.groupDurable_ordered {z : State} (n : Nat) (s : State) (hk : Ordered z s) :
    Ordered z (State.groupDurable n s) := by
  refine State.onBuf_ordered (State.onNvme_ordered hk (.map (fun c => ?_) rfl rfl)) _
  unfold Cmd.groupDurable
  dsimp only
  repeat' first | rfl | split


theorem State.moveTails_ordered {z : State} (s : State) (hk : Ordered z s) :
    Ordered z (State.moveTails s) := by
  unfold State.moveTails
  dsimp only
  with_reducible repeat' first
    | assumption | intro _ _ _ | apply Ordered.foldl | apply Ordered.ite | apply State.onPlc_ordered
    | apply State.write_ordered

theorem State.commitDurable_ordered {z : State} (c : Commit) (s : State) (hk : Ordered z s) :
    Ordered z (State.commitDurable c s) := by
  unfold State.commitDurable
  dsimp only
  with_reducible repeat' first
    | assumption | exact fun k => k | intro _ _ _ | apply Ordered.foldS | apply Ordered.ite
    | apply State.applyEntry_ordered | apply State.count_ordered | apply State.dirtyCheck_ordered
    | apply State.groupDurable_ordered | apply State.moveTails_ordered | apply State.obligDone_ordered
    | apply State.oblige_ordered | apply State.onNvme_ordered | apply State.onPlc_ordered
    | apply State.onRecov_ordered | split

theorem State.finalCommit_ordered {z : State} (s : State) (hk : Ordered z s) :
    Ordered z (State.finalCommit s) := by
  unfold State.finalCommit
  dsimp only
  with_reducible repeat' first
    | assumption | intro _ _ _ | apply Ordered.foldS | apply Ordered.ite | apply State.commitDurable_ordered
    | apply State.onPlc_ordered | apply State.startCommit_ordered | split

theorem State.dropWrite_ordered {z : State} (opId : BitVec 32) (s : State) (hk : Ordered z s) :
    Ordered z (State.dropWrite opId s) := by
  unfold State.dropWrite
  with_reducible repeat' first
    | assumption | intro _ _ _ | apply Ordered.foldS | apply Ordered.ite | apply State.chunkEnd_ordered
    | apply State.onWp_ordered | apply State.wpCut_ordered | apply State.wpEnd_ordered | split

theorem State.dropWrites_ordered {z : State} (ns : List Nat) (s : State) (hk : Ordered z s) :
    Ordered z (State.dropWrites ns s) := by
  unfold State.dropWrites
  dsimp only
  with_reducible repeat' first
    | assumption | intro _ _ _ | apply Ordered.foldS | apply Ordered.ite | apply State.dirtyCheck_ordered
    | apply State.dropWrite_ordered | apply State.onBuf_ordered | apply State.onPlc_ordered

theorem State.selfRefreshExit_ordered {z : State} (s : State) (hk : Ordered z s) :
    Ordered z (State.selfRefreshExit s) := by
  unfold State.selfRefreshExit
  dsimp only
  with_reducible repeat' first
    | assumption | intro _ _ _ | apply Ordered.foldS | apply Ordered.ite | apply State.event_ordered
    | apply State.onChan_ordered

theorem State.enterMode_ordered {z : State} (m : Mode) (s : State) (hk : Ordered z s) :
    Ordered z (State.enterMode m s) := by
  unfold State.enterMode
  with_reducible repeat' first | assumption | apply State.setMode_ordered

theorem State.closeSwitch_ordered {z : State} (d : Nat) (s : State) (hk : Ordered z s) :
    Ordered z (State.closeSwitch d s) := by
  unfold State.closeSwitch
  dsimp only
  with_reducible repeat' first
    | assumption | apply State.count_ordered | apply State.event_ordered | apply State.onDom_ordered
    | apply State.onPwr_ordered

theorem State.switchOn_ordered {z : State} (d : Nat) (s : State) (hk : Ordered z s) :
    Ordered z (State.switchOn d s) := by
  unfold State.switchOn
  dsimp only
  with_reducible repeat' first
    | assumption | apply Ordered.ite | apply State.closeSwitch_ordered | apply State.onDom_ordered | split

theorem State.switchOnAll_ordered {z : State} (ds : List Nat) (s : State) (hk : Ordered z s) :
    Ordered z (State.switchOnAll ds s) := by
  unfold State.switchOnAll
  with_reducible repeat' first | assumption | intro _ _ _ | apply Ordered.foldS | apply State.switchOn_ordered

theorem State.applyDomains_ordered {z : State} (m : Mode) (s : State) (hk : Ordered z s) :
    Ordered z (State.applyDomains m s) := by
  unfold State.applyDomains
  with_reducible repeat' first | assumption | apply State.switchOffAll_ordered | apply State.switchOnAll_ordered

theorem State.spnFlag_ordered {z : State} (n : Nat) (s : State) (hk : Ordered z s) :
    Ordered z (State.spnFlag n s) := by
  unfold State.spnFlag
  with_reducible repeat' first | assumption | apply State.onSpn_ordered

theorem State.sendNotice_ordered {z : State} (n : NoticeForce) (s : State) (hk : Ordered z s) :
    Ordered z (State.sendNotice n s) := by
  unfold State.sendNotice
  dsimp only
  with_reducible repeat' first
    | assumption | intro _ _ _ | apply Ordered.foldS | apply State.onSpn_ordered | apply State.send_ordered

theorem State.announce_ordered {z : State} (target : BitVec 17) (rate : Nat) (s : State) (hk : Ordered z s) :
    Ordered z (State.announce target rate s) := by
  unfold State.announce
  with_reducible repeat' first | assumption | apply Ordered.ite | apply State.sendNotice_ordered

theorem State.startRamp_ordered {z : State} (notify : Bool) (s : State) (hk : Ordered z s) :
    Ordered z (State.startRamp notify s) := by
  unfold State.startRamp
  dsimp only
  with_reducible repeat' first
    | assumption | intro _ _ | apply Ordered.doIf | apply State.announce_ordered | apply State.onSpn_ordered

theorem State.writeTarget_ordered {z : State} (v : BitVec 32) (s : State) (hk : Ordered z s) :
    Ordered z (State.writeTarget v s) := by
  unfold State.writeTarget
  dsimp only
  with_reducible repeat' first
    | assumption | apply Ordered.ite | apply State.announce_ordered | apply State.event_ordered
    | apply State.onSpn_ordered | apply State.spnFlag_ordered | apply State.startRamp_ordered

theorem State.driveGates_ordered {z : State} (want : BitVec 6) (s : State) (hk : Ordered z s) :
    Ordered z (State.driveGates want s) := by
  unfold State.driveGates
  with_reducible repeat' first | assumption | intro _ _ _ | apply Ordered.foldl | apply State.onSpn_ordered

theorem State.takeParams_ordered {z : State} (s : State) (hk : Ordered z s) :
    Ordered z (State.takeParams s) := by
  unfold State.takeParams
  with_reducible repeat' first
    | assumption | intro _ _ _ | apply Ordered.foldS | apply State.odSet_ordered | apply State.onSpn_ordered

theorem State.spnEnter_ordered {z : State} (st : SpnState) (s : State) (hk : Ordered z s) :
    Ordered z (State.spnEnter st s) := by
  unfold State.spnEnter
  dsimp only
  with_reducible repeat' first
    | assumption | intro _ _ | apply Ordered.doIf | apply Ordered.ite | apply State.driveGates_ordered
    | apply State.event_ordered | apply State.onSpn_ordered | apply State.takeFree_ordered
    | apply State.takeParams_ordered

theorem State.spnStart_ordered {z : State} (s : State) (hk : Ordered z s) :
    Ordered z (State.spnStart s) := by
  unfold State.spnStart
  dsimp only
  with_reducible repeat' first
    | assumption | intro _ _ | apply Ordered.doIf | apply Ordered.ite | apply State.announce_ordered
    | apply State.onSpn_ordered | apply State.spnEnter_ordered

theorem State.bringToRated_ordered {z : State} (s : State) (hk : Ordered z s) :
    Ordered z (State.bringToRated s) := by
  unfold State.bringToRated
  dsimp only
  with_reducible repeat' first
    | assumption | apply Ordered.ite | apply State.spnStart_ordered | apply State.writeTarget_ordered

theorem State.onCtrl_ordered {z : State} (c : Fin 2) (f : Ctrl → Ctrl) (s : State) (hk : Ordered z s) :
    Ordered z (State.onCtrl c f s) := by
  unfold State.onCtrl
  with_reducible repeat' first | assumption | exact fun k => k | apply State.onNvme_ordered

theorem State.setShst_ordered {z : State} (v : BitVec 2) (s : State) (hk : Ordered z s) :
    Ordered z (State.setShst v s) := by
  unfold State.setShst
  with_reducible repeat' first | assumption | intro _ _ _ | apply Ordered.foldS | apply State.onCtrl_ordered

theorem State.limitedShut_ordered {z : State} (s : State) (hk : Ordered z s) :
    Ordered z (State.limitedShut s) := by
  unfold State.limitedShut
  dsimp only
  with_reducible repeat' first
    | assumption | apply Ordered.ite | apply State.onSys_ordered | apply State.setShst_ordered | split

theorem State.pumpMotion_ordered {z : State} (s : State) (hk : Ordered z s) :
    Ordered z (State.pumpMotion s) := by
  unfold State.pumpMotion
  with_reducible repeat' first
    | assumption | apply Ordered.ite | apply State.startLoad_ordered | apply State.startUnload_ordered | split

theorem State.limitedEnd_n (s : State) (k : Cmd) : (s.limitedEnd k).n = k.n := by
  unfold State.limitedEnd
  dsimp only
  repeat' first | rfl | split

theorem State.enterLimited_ordered {z : State} (cause : Nat) (acts : List (Fin 4)) (noCommit : Bool) (s : State) (hk : Ordered z s) :
    Ordered z (State.enterLimited cause acts noCommit s) := by
  unfold State.enterLimited
  dsimp only
  with_reducible repeat' first
    | assumption | exact fun k => k | exact .map (State.limitedEnd_n _) rfl rfl | intro _ _ _ | apply Ordered.foldS
    | apply Ordered.foldl | apply Ordered.ite | apply State.applyDomains_ordered | apply State.bringToRated_ordered
    | apply State.dropWrites_ordered | apply State.enterMode_ordered | apply State.finalCommit_ordered
    | apply State.limitedShut_ordered | apply State.markUnsafe_ordered | apply State.onNvme_ordered
    | apply State.onSys_ordered | apply State.pumpMotion_ordered | apply State.selfRefreshExit_ordered
    | apply State.updateWarnings_ordered | split

theorem State.supplyCheck_ordered {z : State} (s : State) (hk : Ordered z s) :
    Ordered z (State.supplyCheck s) := by
  unfold State.supplyCheck
  with_reducible repeat' first
    | assumption | apply Ordered.ite | apply State.enterLimited_ordered | apply State.fault_ordered
    | apply State.milestone_ordered | apply State.onSys_ordered | apply State.spnStart_ordered

theorem State.bringUp_ordered {z : State} (por : Bool) (s : State) (hk : Ordered z s) :
    Ordered z (State.bringUp por s) := by
  unfold State.bringUp
  dsimp only
  with_reducible repeat' first
    | assumption | intro _ _ _ | apply Ordered.foldS | apply Ordered.ite | apply State.applyDomains_ordered
    | apply State.enterLimited_ordered | apply State.fault_ordered | apply State.keepAcross_ordered
    | apply State.loadStore_ordered | apply State.milestone_ordered | apply State.onPlc_ordered
    | apply State.onSys_ordered | apply State.setMode_ordered | apply State.supplyCheck_ordered
    | apply State.switchOnAll_ordered | apply State.ybAppend_ordered | apply State.ybProgram_ordered

theorem State.eoAssert_ordered {z : State} (source : Nat) (s : State) (hk : Ordered z s) :
    Ordered z (State.eoAssert source s) := by
  unfold State.eoAssert
  dsimp only
  with_reducible repeat' first
    | assumption | apply Ordered.ite | apply State.event_ordered | apply State.onHm_ordered

theorem State.loadLayouts_ordered {z : State} (areas : List (Fin 4 × Nat × Nat)) (s : State) (hk : Ordered z s) :
    Ordered z (State.loadLayouts areas s) := by
  unfold State.loadLayouts
  with_reducible repeat' first
    | assumption | intro _ _ _ | apply Ordered.foldS | apply Ordered.ite | apply State.fault_ordered
    | apply State.onRecov_ordered

theorem State.startPlacement_ordered {z : State} (heads : List Nat) (s : State) (hk : Ordered z s) :
    Ordered z (State.startPlacement heads s) := by
  unfold State.startPlacement
  dsimp only
  with_reducible repeat' first | assumption | apply Ordered.ite | apply State.onPlc_ordered

theorem State.soleNamespace_ordered {z : State} (s : State) (hk : Ordered z s) :
    Ordered z (State.soleNamespace s) := by
  unfold State.soleNamespace
  dsimp only
  with_reducible repeat' first | assumption | apply Ordered.ite | apply State.onPlc_ordered

theorem State.stopFetch_ordered {z : State} (s : State) (hk : Ordered z s) :
    Ordered z (State.stopFetch s) := by
  unfold State.stopFetch
  with_reducible repeat' first | assumption | intro _ _ _ | apply Ordered.foldS | apply State.onCtrl_ordered

theorem State.retractAll_ordered {z : State} (s : State) (hk : Ordered z s) :
    Ordered z (State.retractAll s) := by
  unfold State.retractAll
  with_reducible repeat' first | assumption | intro _ _ _ | apply Ordered.foldS | apply State.startUnload_ordered

theorem State.resetRetract_ordered {z : State} (s : State) (hk : Ordered z s) :
    Ordered z (State.resetRetract s) := by
  unfold State.resetRetract
  with_reducible repeat' first | assumption | apply State.onSys_ordered | apply State.retractAll_ordered

theorem State.shutRecord_ordered {z : State} (k : ShutKind) (s : State) (hk : Ordered z s) :
    Ordered z (State.shutRecord k s) := by
  unfold State.shutRecord
  dsimp only
  with_reducible repeat' first
    | assumption | apply Ordered.ite | apply State.onSys_ordered | apply State.pumpMotion_ordered
    | apply State.resetRetract_ordered | apply State.ybAppend_ordered

theorem State.spnStop_ordered {z : State} (s : State) (hk : Ordered z s) :
    Ordered z (State.spnStop s) := by
  unfold State.spnStop
  dsimp only
  with_reducible repeat' first
    | assumption | intro _ _ | apply Ordered.doIf | apply State.announce_ordered | apply State.event_ordered
    | apply State.onSpn_ordered | apply State.spnEnter_ordered | split

theorem State.shutStep_ordered {z : State} (s : State) (hk : Ordered z s) :
    Ordered z (State.shutStep s) := by
  unfold State.shutStep
  dsimp only
  with_reducible repeat' first
    | assumption | apply Ordered.ite | apply State.onSys_ordered | apply State.pumpMotion_ordered
    | apply State.shutRecord_ordered | apply State.spnStop_ordered | apply State.startCheckpoint_ordered | split

theorem State.requestShutdown_ordered {z : State} (k : ShutKind) (s : State) (hk : Ordered z s) :
    Ordered z (State.requestShutdown k s) := by
  unfold State.requestShutdown
  dsimp only
  with_reducible repeat' first
    | assumption | apply Ordered.ite | apply State.onSys_ordered | apply State.setShst_ordered
    | apply State.shutStep_ordered | apply State.stopFetch_ordered | split

theorem State.restoreStripes_ordered {z : State} (s : State) (hk : Ordered z s) :
    Ordered z (State.restoreStripes s) := by
  unfold State.restoreStripes
  dsimp only
  with_reducible repeat' first
    | assumption | intro _ _ _ | apply Ordered.foldl | apply Ordered.ite | apply State.moveTails_ordered
    | apply State.onPlc_ordered | split

theorem State.restoreMap_ordered {z : State} (order : List (Fin 4)) (lost : List (Fin 4 × Bool × Nat)) (ms : Nat) (s : State) (hk : Ordered z s) :
    Ordered z (State.restoreMap order lost ms s).1 := by
  unfold State.restoreMap
  dsimp only
  with_reducible repeat' first
    | assumption | intro _ _ _ | apply Ordered.foldS | apply Ordered.foldl | apply Ordered.ite
    | apply State.applyEntry_ordered | apply State.catchUp_ordered | apply State.oblige_ordered
    | apply State.onPlc_ordered | apply State.onRecov_ordered | apply State.restoreStripes_ordered | split

theorem State.restoreFails_ordered {z : State} (mask : Nat) (s : State) (hk : Ordered z s) :
    Ordered z (State.restoreFails mask s) := by
  unfold State.restoreFails
  dsimp only
  with_reducible repeat' first
    | assumption | apply State.enterLimited_ordered | apply State.fault_ordered | apply State.onSys_ordered

theorem State.ringCompare_ordered {z : State} (s : State) (hk : Ordered z s) :
    Ordered z (State.ringCompare s) := by
  unfold State.ringCompare
  dsimp only
  with_reducible repeat' first
    | assumption | intro _ _ _ | apply Ordered.foldl | apply Ordered.ite | apply State.event_ordered
    | apply State.onYb_ordered

theorem State.ioCheck_ordered {z : State} (s : State) (hk : Ordered z s) :
    Ordered z (State.ioCheck s) := by
  unfold State.ioCheck
  with_reducible repeat' first
    | assumption | apply Ordered.ite | apply State.milestone_ordered | apply State.onSys_ordered

theorem State.serviceCheck_ordered {z : State} (s : State) (hk : Ordered z s) :
    Ordered z (State.serviceCheck s) := by
  unfold State.serviceCheck
  with_reducible repeat' first
    | assumption | apply Ordered.ite | apply State.enterMode_ordered | apply State.milestone_ordered

theorem State.ladderCalibrated_ordered {z : State} (a : Fin 4) (s : State) (hk : Ordered z s) :
    Ordered z (State.ladderCalibrated a s) := by
  unfold State.ladderCalibrated
  dsimp only
  with_reducible repeat' first
    | assumption | intro _ _ _ | apply Ordered.foldS | apply Ordered.ite | apply State.nextOp_ordered
    | apply State.onRecov_ordered | apply State.postRead_ordered

theorem State.calFailed_ordered {z : State} (a : Fin 4) (source : Nat) (s : State) (hk : Ordered z s) :
    Ordered z (State.calFailed a source s) := by
  unfold State.calFailed
  with_reducible repeat' first | assumption | apply State.enterLimited_ordered | apply State.fault_ordered

theorem State.entryPump_ordered {z : State} (s : State) (hk : Ordered z s) :
    Ordered z (State.entryPump s) := by
  unfold State.entryPump
  with_reducible repeat' first
    | assumption | apply Ordered.ite | apply State.event_ordered | apply State.onSys_ordered
    | apply State.pumpMotion_ordered | split

theorem State.startEntry_ordered {z : State} (s : State) (hk : Ordered z s) :
    Ordered z (State.startEntry s) := by
  unfold State.startEntry
  with_reducible repeat' first
    | assumption | apply Ordered.ite | apply State.entryPump_ordered | apply State.onSys_ordered

theorem State.cutShort_ordered {z : State} (id : Nat) (s : State) (hk : Ordered z s) :
    Ordered z (State.cutShort id s) := by
  unfold State.cutShort
  dsimp only
  with_reducible repeat' first | assumption | apply Ordered.ite | apply State.onTt_ordered

theorem State.drainAll_ordered {z : State} (s : State) (hk : Ordered z s) :
    Ordered z (State.drainAll s) := by
  unfold State.drainAll
  with_reducible repeat' first
    | assumption | intro _ _ _ | apply Ordered.foldS | apply Ordered.ite | apply State.drainChan_ordered
    | apply State.mergeEntry_ordered

theorem State.linesBack_ordered {z : State} (s : State) (hk : Ordered z s) :
    Ordered z (State.linesBack s) := by
  unfold State.linesBack
  with_reducible repeat' first
    | assumption | intro _ _ _ | apply Ordered.foldS | apply Ordered.ite | apply State.lineOut_ordered
    | apply State.onChan_ordered

theorem State.selfRefreshEnter_ordered {z : State} (s : State) (hk : Ordered z s) :
    Ordered z (State.selfRefreshEnter s) := by
  unfold State.selfRefreshEnter
  dsimp only
  with_reducible repeat' first
    | assumption | intro _ _ _ | apply Ordered.foldS | apply Ordered.ite | apply State.drainAll_ordered
    | apply State.event_ordered | apply State.linesBack_ordered | apply State.memRetry_ordered
    | apply State.onChan_ordered

theorem State.dormantReached_ordered {z : State} (s : State) (hk : Ordered z s) :
    Ordered z (State.dormantReached s) := by
  unfold State.dormantReached
  dsimp only
  with_reducible repeat' first
    | assumption | apply Ordered.ite | apply State.applyDomains_ordered | apply State.enterMode_ordered
    | apply State.scrubEnd_ordered | apply State.selfRefreshEnter_ordered

theorem State.exitCheck_ordered {z : State} (s : State) (hk : Ordered z s) :
    Ordered z (State.exitCheck s) := by
  unfold State.exitCheck
  dsimp only
  with_reducible repeat' first
    | assumption | apply Ordered.ite | apply State.enterLimited_ordered | apply State.enterMode_ordered

theorem State.reportShutdown_ordered {z : State} (k : ShutKind) (s : State) (hk : Ordered z s) :
    Ordered z (State.reportShutdown k s) := by
  unfold State.reportShutdown
  with_reducible repeat' first
    | assumption | apply State.event_ordered | apply State.onSys_ordered | apply State.setShst_ordered

theorem State.plSense_ordered {z : State} (cause : PlCause) (s : State) (hk : Ordered z s) :
    Ordered z (State.plSense cause s) := by
  unfold State.plSense
  with_reducible repeat' first | assumption | apply State.sawSupply_ordered | split

theorem State.wpPowerLoss_ordered {z : State} (a : Fin 4) (s : State) (hk : Ordered z s) :
    Ordered z (State.wpPowerLoss a s) := by
  unfold State.wpPowerLoss
  dsimp only
  with_reducible repeat' first
    | assumption | intro _ _ _ | apply Ordered.foldS | apply State.wpCause_ordered | apply State.wpEnd_ordered

theorem State.spnGiveUp_ordered {z : State} (s : State) (hk : Ordered z s) :
    Ordered z (State.spnGiveUp s) := by
  unfold State.spnGiveUp
  with_reducible repeat' first | assumption | apply State.onSpn_ordered

theorem State.spnPowerLoss_ordered {z : State} (s : State) (hk : Ordered z s) :
    Ordered z (State.spnPowerLoss s) := by
  unfold State.spnPowerLoss
  with_reducible repeat' first | assumption | apply State.spnEnter_ordered | apply State.spnGiveUp_ordered | split

theorem State.freezeDomain_ordered {z : State} (d : Nat) (s : State) (hk : Ordered z s) :
    Ordered z (State.freezeDomain d s) := by
  unfold State.freezeDomain
  with_reducible repeat' first | assumption | apply State.onDom_ordered | split

theorem State.cutDomain_ordered {z : State} (d : Nat) (s : State) (hk : Ordered z s) :
    Ordered z (State.cutDomain d s) := by
  unfold State.cutDomain
  with_reducible repeat' first | assumption | apply State.onDom_ordered

theorem State.ybAppendNow_ordered {z : State} (ty : Nat) (payload : List Byte) (s : State) (hk : Ordered z s) :
    Ordered z (State.ybAppendNow ty payload s) := by
  unfold State.ybAppendNow
  dsimp only
  with_reducible repeat' first | assumption | apply State.ybProgramSeq_ordered | apply State.ybPut_ordered

theorem State.spnAlign_ordered {z : State} (s : State) (hk : Ordered z s) :
    Ordered z (State.spnAlign s) := by
  unfold State.spnAlign
  dsimp only
  with_reducible repeat' first
    | assumption | apply Ordered.ite | apply State.count_ordered | apply State.event_ordered
    | apply State.onSpn_ordered | apply State.spnEnter_ordered

theorem State.ladderLoaded_ordered {z : State} (a : Fin 4) (s : State) (hk : Ordered z s) :
    Ordered z (State.ladderLoaded a s) := by
  unfold State.ladderLoaded
  with_reducible repeat' first
    | assumption | intro _ _ _ | apply Ordered.foldS | apply Ordered.ite | apply State.reread_ordered

theorem State.headsLoaded_ordered {z : State} (a : Fin 4) (s : State) (hk : Ordered z s) :
    Ordered z (State.headsLoaded a s) := by
  unfold State.headsLoaded
  dsimp only
  with_reducible repeat' first
    | assumption | apply Ordered.ite | apply State.event_ordered | apply State.exitCheck_ordered
    | apply State.ioCheck_ordered | apply State.onIsl_ordered | apply State.onSys_ordered
    | apply State.pumpMotion_ordered

theorem State.makeUnsafe_ordered {z : State} (a : Fin 4) (s : State) (hk : Ordered z s) :
    Ordered z (State.makeUnsafe a s) := by
  unfold State.makeUnsafe
  with_reducible repeat' first
    | assumption | apply Ordered.ite | apply State.enterLimited_ordered | apply State.fault_ordered
    | apply State.markUnsafe_ordered

theorem State.loadFailed_ordered {z : State} (a : Fin 4) (s : State) (hk : Ordered z s) :
    Ordered z (State.loadFailed a s) := by
  unfold State.loadFailed
  dsimp only
  with_reducible repeat' first
    | assumption | apply Ordered.ite | apply State.exitCheck_ordered | apply State.makeUnsafe_ordered
    | apply State.markUnsafe_ordered | apply State.onSys_ordered | apply State.pumpMotion_ordered | split

theorem State.loadGaveUp_ordered {z : State} (a : Fin 4) (off : Nat) (s : State) (hk : Ordered z s) :
    Ordered z (State.loadGaveUp a off s) := by
  unfold State.loadGaveUp
  dsimp only
  with_reducible repeat' first
    | assumption | apply Ordered.ite | apply State.actFault_ordered | apply State.islandRequest_ordered
    | apply State.loadFailed_ordered | apply State.onIsl_ordered | apply State.senseFault_ordered
    | apply State.vcmSend_ordered

theorem State.demodStart_ordered {z : State} (a : Fin 4) (s : State) (hk : Ordered z s) :
    Ordered z (State.demodStart a s) := by
  unfold State.demodStart
  with_reducible repeat' first | assumption | apply State.enterAcquire_ordered | apply State.onSvd_ordered

theorem State.velocityFrame_ordered {z : State} (a : Fin 4) (s : State) (hk : Ordered z s) :
    Ordered z (State.velocityFrame a s) := by
  unfold State.velocityFrame
  dsimp only
  with_reducible repeat' first
    | assumption | apply State.onIsl_ordered | apply State.takeFree_ordered | apply State.vcmSend_ordered

theorem State.beginLoading_ordered {z : State} (a : Fin 4) (s : State) (hk : Ordered z s) :
    Ordered z (State.beginLoading a s) := by
  unfold State.beginLoading
  with_reducible repeat' first
    | assumption | apply State.demodStart_ordered | apply State.islandRequest_ordered | apply State.onIsl_ordered
    | apply State.velocityFrame_ordered

theorem State.enterParked_ordered {z : State} (a : Fin 4) (mode : BitVec 2) (s : State) (hk : Ordered z s) :
    Ordered z (State.enterParked a mode s) := by
  unfold State.enterParked
  dsimp only
  with_reducible repeat' first
    | assumption | apply Ordered.ite | apply State.demodStart_ordered | apply State.islandRequest_ordered
    | apply State.onIsl_ordered | apply State.startAttempt_ordered | apply State.vcmSend_ordered

theorem State.ladderServoLost_ordered {z : State} (a : Fin 4) (s : State) (hk : Ordered z s) :
    Ordered z (State.ladderServoLost a s) := by
  unfold State.ladderServoLost
  with_reducible repeat' first | assumption | apply Ordered.ite | apply State.onRecov_ordered

theorem State.retryStart_ordered {z : State} (s : State) (hk : Ordered z s) :
    Ordered z (State.retryStart s) := by
  unfold State.retryStart
  with_reducible repeat' first | assumption | apply Ordered.ite | apply State.spnStart_ordered

theorem State.modePump_ordered {z : State} (s : State) (hk : Ordered z s) :
    Ordered z (State.modePump s) := by
  unfold State.modePump
  with_reducible repeat' first | assumption | apply State.entryPump_ordered | apply State.shutStep_ordered

theorem State.headsParked_ordered {z : State} (a : Fin 4) (s : State) (hk : Ordered z s) :
    Ordered z (State.headsParked a s) := by
  unfold State.headsParked
  dsimp only
  with_reducible repeat' first
    | assumption | apply Ordered.ite | apply State.exitCheck_ordered | apply State.modePump_ordered
    | apply State.onSys_ordered | apply State.pumpMotion_ordered | apply State.retryStart_ordered
    | apply State.switchOffAll_ordered

theorem State.parkAfter_ordered {z : State} (a : Fin 4) (mode : BitVec 2) (s : State) (hk : Ordered z s) :
    Ordered z (State.parkAfter a mode s) := by
  unfold State.parkAfter
  dsimp only
  with_reducible repeat' first
    | assumption | intro _ _ | apply Ordered.doIf | apply Ordered.ite | apply State.actFault_ordered
    | apply State.enterParked_ordered | apply State.headsParked_ordered | apply State.ladderServoLost_ordered
    | apply State.loadFailed_ordered

theorem State.copyWritten_ordered {z : State} (a : Fin 4) (ok : Bool) (s : State) (hk : Ordered z s) :
    Ordered z (State.copyWritten a ok s) := by
  unfold State.copyWritten
  dsimp only
  with_reducible repeat' first
    | assumption | apply Ordered.ite | apply State.commitDurable_ordered | apply State.fault_ordered
    | apply State.onPlc_ordered | apply State.setCopyState_ordered | split

theorem State.checkpointDurable_ordered {z : State} (s : State) (hk : Ordered z s) :
    Ordered z (State.checkpointDurable s) := by
  unfold State.checkpointDurable
  dsimp only
  with_reducible repeat' first
    | assumption | intro _ _ _ | apply Ordered.foldS | apply Ordered.foldl | apply State.event_ordered
    | apply State.onPlc_ordered | split

theorem State.markBad_ordered {z : State} (j : Job) (s : State) (hk : Ordered z s) :
    Ordered z (State.markBad j s) := by
  unfold State.markBad
  dsimp only
  with_reducible repeat' first
    | assumption | intro _ _ _ | apply Ordered.foldS | apply Ordered.ite | apply State.change_ordered

theorem State.mergeRelocates_ordered {z : State} (h : HeldSlot) (s : State) (hk : Ordered z s) :
    Ordered z (State.mergeRelocates h s) := by
  unfold State.mergeRelocates
  dsimp only
  with_reducible repeat' first
    | assumption | intro _ _ _ | apply Ordered.foldS | apply State.obligDone_ordered | apply State.onPlc_ordered
    | apply State.relocated_ordered

theorem State.onHead_ordered {z : State} (a : Fin 4) (h : Nat) (f : HeadState → HeadState) (s : State) (hk : Ordered z s) :
    Ordered z (State.onHead a h f s) := by
  unfold State.onHead
  dsimp only
  with_reducible repeat' first | assumption | apply State.onPlc_ordered

theorem State.replanDone_ordered {z : State} (a : Fin 4) (h : BitVec 5) (s : State) (hk : Ordered z s) :
    Ordered z (State.replanDone a h s) := by
  unfold State.replanDone
  dsimp only
  with_reducible repeat' first
    | assumption | apply Ordered.ite | apply State.event_ordered | apply State.onHead_ordered | split

theorem State.leaveSlot_ordered {z : State} (j : Job) (s : State) (hk : Ordered z s) :
    Ordered z (State.leaveSlot j s) := by
  unfold State.leaveSlot
  with_reducible repeat' first
    | assumption | intro _ _ | apply Ordered.doIf | apply State.freeSlot_ordered
    | apply State.mergeRelocates_ordered | apply State.replanDone_ordered | split

theorem State.useSpare_ordered {z : State} (n : Nat) (s : State) (hk : Ordered z s) :
    Ordered z (State.useSpare n s) := by
  unfold State.useSpare
  dsimp only
  with_reducible repeat' first
    | assumption | apply Ordered.ite | apply State.event_ordered | apply State.fault_ordered
    | apply State.onPlc_ordered

theorem State.remap_ordered {z : State} (j : Job) (maxGen : Nat) (s : State) (hk : Ordered z s) :
    Ordered z (State.remap j maxGen s) := by
  unfold State.remap
  dsimp only
  with_reducible repeat' first
    | assumption | apply State.change_ordered | apply State.leaveSlot_ordered | apply State.markBad_ordered
    | apply State.useSpare_ordered

theorem State.release_ordered {z : State} (glb : Nat) (s : State) (hk : Ordered z s) :
    Ordered z (State.release glb s) := by
  unfold State.release
  dsimp only
  with_reducible repeat' first
    | assumption | intro _ _ _ | apply Ordered.foldS | apply Ordered.ite | apply State.change_ordered
    | apply State.freeSlot_ordered | split

theorem State.poolMove_ordered {z : State} (j : Job) (s : State) (hk : Ordered z s) :
    Ordered z (State.poolMove j s) := by
  unfold State.poolMove
  dsimp only
  with_reducible repeat' first
    | assumption | intro _ _ _ | intro _ _ | apply Ordered.doIf | apply Ordered.foldS | apply Ordered.ite
    | apply State.change_ordered | apply State.leaveSlot_ordered | apply State.markBad_ordered
    | apply State.useSpare_ordered | split

theorem State.jobChange_ordered {z : State} (j : Job) (s : State) (hk : Ordered z s) :
    Ordered z (State.jobChange j s) := by
  unfold State.jobChange
  dsimp only
  with_reducible repeat' first
    | assumption | apply Ordered.ite | apply State.catchUp_ordered | apply State.poolMove_ordered
    | apply State.release_ordered | apply State.relocated_ordered | apply State.remap_ordered | split

theorem State.jobEnd_ordered {z : State} (j : Job) (s : State) (hk : Ordered z s) :
    Ordered z (State.jobEnd j s) := by
  unfold State.jobEnd
  dsimp only
  with_reducible repeat' first
    | assumption | apply State.cacheMarks_ordered | apply State.count_ordered | apply State.event_ordered
    | apply State.jobChange_ordered | apply State.journal_ordered | apply State.onPlc_ordered

theorem State.homeworkStep_ordered {z : State} (job : Nat) (bad : List Nat) (s : State) (hk : Ordered z s) :
    Ordered z (State.homeworkStep job bad s) := by
  unfold State.homeworkStep
  dsimp only
  with_reducible repeat' first
    | assumption | apply Ordered.ite | apply State.jobEnd_ordered | apply State.onBand_ordered
    | apply State.onPlc_ordered | split

theorem State.onDmaCh_ordered {z : State} (n : Fin 16) (f : DmaCh → DmaCh) (s : State) (hk : Ordered z s) :
    Ordered z (State.onDmaCh n f s) := by
  unfold State.onDmaCh
  with_reducible repeat' first | assumption | apply State.onDma_ordered

theorem State.dmaAbort_ordered {z : State} (n : Fin 16) (s : State) (hk : Ordered z s) :
    Ordered z (State.dmaAbort n s) := by
  unfold State.dmaAbort
  with_reducible repeat' first | assumption | apply Ordered.ite | apply State.onDmaCh_ordered | split

theorem State.onTimer_ordered {z : State} (t : Nat) (f : Timer → Timer) (s : State) (hk : Ordered z s) :
    Ordered z (State.onTimer t f s) := by
  unfold State.onTimer
  with_reducible repeat' first | assumption | apply State.tims_ordered

theorem State.dmaReady_ordered {z : State} (n : Fin 16) (s : State) (hk : Ordered z s) :
    Ordered z (State.dmaReady n s) := by
  unfold State.dmaReady
  dsimp only
  with_reducible repeat' first | assumption | apply Ordered.ite | apply State.onDmaCh_ordered

theorem State.dmaTrigger1_ordered {z : State} (kind sel : Nat) (n : Fin 16) (s : State) (hk : Ordered z s) :
    Ordered z (State.dmaTrigger1 kind sel n s) := by
  unfold State.dmaTrigger1
  dsimp only
  with_reducible repeat' first
    | assumption | apply Ordered.ite | apply State.dmaReady_ordered | apply State.onDmaCh_ordered | split

theorem State.dmaTrigger_ordered {z : State} (kind sel : Nat) (s : State) (hk : Ordered z s) :
    Ordered z (State.dmaTrigger kind sel s) := by
  unfold State.dmaTrigger
  with_reducible repeat' first | assumption | intro _ _ _ | apply Ordered.foldS | apply State.dmaTrigger1_ordered

theorem State.takeEvent_ordered {z : State} (e : Nat) (q : BitVec 32) (s : State) (hk : Ordered z s) :
    Ordered z (State.takeEvent e q s) := by
  unfold State.takeEvent
  dsimp only
  with_reducible repeat' first
    | assumption | apply Ordered.ite | apply State.count_ordered | apply State.onEvc_ordered
    | apply State.tims_ordered

theorem State.uartSend_ordered {z : State} (b : Byte) (s : State) (hk : Ordered z s) :
    Ordered z (State.uartSend b s) := by
  unfold State.uartSend
  with_reducible repeat' first | assumption | apply State.onPorts_ordered

theorem State.slotPartial_ordered {z : State} (s : State) (hk : Ordered z s) :
    Ordered z (State.slotPartial s) := by
  unfold State.slotPartial
  with_reducible repeat' first | assumption | exact fun k => k | apply State.onNvme_ordered

theorem State.requestChipReset_ordered {z : State} (by' : Nat) (s : State) (hk : Ordered z s) :
    Ordered z (State.requestChipReset by' s) := by
  unfold State.requestChipReset
  with_reducible repeat' first
    | assumption | apply Ordered.ite | apply State.onSys_ordered | apply State.requestShutdown_ordered
    | apply State.resetRetract_ordered | apply State.shutRecord_ordered | apply State.stopFetch_ordered | split

theorem State.uartRestart_ordered {z : State} (s : State) (hk : Ordered z s) :
    Ordered z (State.uartRestart s) := by
  unfold State.uartRestart
  with_reducible repeat' first | assumption | apply State.onPorts_ordered

theorem State.ciphRecord_ordered {z : State} (id status : Nat) (tag : List Byte) (s : State) (hk : Ordered z s) :
    Ordered z (State.ciphRecord id status tag s) := by
  unfold State.ciphRecord
  with_reducible repeat' first | assumption | apply State.onCiph_ordered

theorem State.granRead_ordered {z : State} (src : Endpoint) (g : Nat) (page : Option Nat) (s : State) (hk : Ordered z s) :
    Ordered z (State.granRead src g page s).2 := by
  unfold State.granRead
  with_reducible repeat' first
    | assumption | apply Ordered.ite | apply State.readGran_ordered | refine Ordered.of_snd (by assumption) ?_
    | split

theorem State.engineGet_ordered {z : State} (src : Endpoint) (addr len : Nat) (page : Option Nat) (s : State) (hk : Ordered z s) :
    Ordered z (State.engineGet src addr len page s).2 := by
  have hsnd : ∀ (b : Bool) (t : State), (b, t).2 = t := fun _ _ => rfl
  unfold State.engineGet
  split
  · refine Ordered.foldl_snd hk fun p q k => ?_
    dsimp -proj only
    rw [hsnd]
    exact State.granRead_ordered src (granOf p.1) page q.2 k
  · exact hk


theorem State.ciphDraws_ordered {z : State} (bytes : Nat) (s : State) (hk : Ordered z s) :
    Ordered z (State.ciphDraws bytes s) := by
  unfold State.ciphDraws
  with_reducible repeat' first | assumption | apply State.onCiph_ordered

theorem State.takeAnswer_ordered {z : State} (s : State) (hk : Ordered z s) :
    Ordered z (State.takeAnswer s).2.2 := by
  unfold State.takeAnswer
  with_reducible repeat' first | assumption | apply State.onDramc_ordered | split

theorem State.granWrite_ordered {z : State} (src : Endpoint) (addr : Nat) (data : List Byte) (s : State) (hk : Ordered z s) :
    Ordered z (State.granWrite src addr data s) := by
  unfold State.granWrite
  dsimp only
  with_reducible repeat' first
    | assumption | apply Ordered.ite | apply State.drainChan_ordered | apply State.mergeEntry_ordered
    | apply State.queueWrite_ordered | apply State.takeAnswer_ordered | refine Ordered.of_snd (by assumption) ?_
    | split

theorem State.enginePut_ordered {z : State} (src : Endpoint) (addr : Nat) (data : List Byte) (s : State) (hk : Ordered z s) :
    Ordered z (State.enginePut src addr data s) := by
  unfold State.enginePut
  with_reducible repeat' first
    | assumption | intro _ _ _ | apply Ordered.foldS | apply Ordered.ite | apply State.granWrite_ordered
    | apply State.write_ordered

theorem State.ciphGcm_ordered {z : State} (x : CJob) (s : State) (hk : Ordered z s) :
    Ordered z (State.ciphGcm x s) := by
  unfold State.ciphGcm
  dsimp only
  with_reducible repeat' first
    | assumption | apply Ordered.ite | apply State.ciphDraws_ordered | apply State.ciphRecord_ordered
    | apply State.count_ordered | apply State.engineGet_ordered | apply State.enginePut_ordered
    | apply State.event_ordered | apply State.fault_ordered | refine Ordered.of_snd (by assumption) ?_ | split

theorem State.ciphUnits_ordered {z : State} (j : CipherJob) (page : Option Nat) (key : List Byte) (n i : Nat)
    (s : State) (hk : Ordered z s) : Ordered z (State.ciphUnits j page key n i s).2 := by
  induction n generalizing i s with
  | zero => exact hk
  | succ n ih =>
    unfold State.ciphUnits
    dsimp only
    have hr := State.engineGet_ordered epCipher (j.src + j.unit * i) j.unit page s hk
    split
    · exact ih _ _ (State.ciphDraws_ordered _ _ (State.count_ordered _ _ _ (State.enginePut_ordered _ _ _ _ hr)))
    · exact hr

theorem State.ciphMedia_ordered {z : State} (x : CJob) (page : Option Nat) (before : Nat) (s : State) (hk : Ordered z s) :
    Ordered z (State.ciphMedia x page before s) := by
  unfold State.ciphMedia
  dsimp only
  with_reducible repeat' first
    | assumption | apply Ordered.ite | apply State.ciphRecord_ordered | apply State.ciphUnits_ordered
    | apply State.count_ordered | apply State.event_ordered | apply State.fault_ordered
    | refine Ordered.of_snd (by assumption) ?_ | split

theorem State.onSlot_ordered {z : State} (n : Nat) (f : KeySlot → KeySlot) (s : State) (hk : Ordered z s) :
    Ordered z (State.onSlot n f s) := by
  unfold State.onSlot
  with_reducible repeat' first | assumption | apply State.onCiph_ordered

theorem State.slotTakes_ordered {z : State} (n : Nat) (s : State) (hk : Ordered z s) :
    Ordered z (State.slotTakes n s) := by
  unfold State.slotTakes
  dsimp only
  with_reducible repeat' first
    | assumption | apply Ordered.ite | apply State.event_ordered | apply State.onCiph_ordered
    | apply State.onSlot_ordered | split

theorem State.startSave_ordered {z : State} (answer : BitVec 4) (want : SaveWant) (s : State) (hk : Ordered z s) :
    Ordered z (State.startSave answer want s) := by
  unfold State.startSave
  dsimp only
  with_reducible repeat' first
    | assumption | intro _ _ _ | apply Ordered.foldS | apply State.fault_ordered | apply State.onDict_ordered

theorem State.ownSave_ordered {z : State} (want : SaveWant) (s : State) (hk : Ordered z s) :
    Ordered z (State.ownSave want s) := by
  unfold State.ownSave
  with_reducible repeat' first | assumption | apply State.startSave_ordered | apply State.takeFree_ordered

theorem State.wantSave_ordered {z : State} (want : SaveWant) (s : State) (hk : Ordered z s) :
    Ordered z (State.wantSave want s) := by
  unfold State.wantSave
  with_reducible repeat' first
    | assumption | apply Ordered.ite | apply State.onDict_ordered | apply State.ownSave_ordered

theorem State.slotSaves_ordered {z : State} (s : State) (hk : Ordered z s) :
    Ordered z (State.slotSaves s) := by
  unfold State.slotSaves
  with_reducible repeat' first
    | assumption | apply Ordered.ite | apply State.onDict_ordered | apply State.wantSave_ordered | split

theorem State.ciphHalt_ordered {z : State} (s : State) (hk : Ordered z s) :
    Ordered z (State.ciphHalt s) := by
  unfold State.ciphHalt
  dsimp only
  with_reducible repeat' first
    | assumption | intro _ _ _ | apply Ordered.foldS | apply State.ciphRecord_ordered | apply State.onCiph_ordered

theorem State.gcmRun_ordered {z : State} (verifies : Bool) (role : Nat) (s : State) (hk : Ordered z s) :
    Ordered z (State.gcmRun verifies role s) := by
  unfold State.gcmRun
  dsimp only
  with_reducible repeat' first
    | assumption | apply Ordered.ite | apply State.count_ordered | apply State.event_ordered
    | apply State.fault_ordered

theorem State.handOver_ordered {z : State} (k : Cmd) (buflen : Nat) (r : Resp) (s : State) (hk : Ordered z s) :
    Ordered z (State.handOver k buflen r s) := by
  unfold State.handOver
  with_reducible repeat' first
    | assumption | exact fun _ => rfl | apply State.onCmd_ordered | apply State.onDict_ordered

theorem State.reply_ordered {z : State} (r : Resp) (s : State) (hk : Ordered z s) :
    Ordered z (State.reply r s) := by
  unfold State.reply
  dsimp only
  with_reducible repeat' first
    | assumption | apply State.gcmRun_ordered | apply State.handOver_ordered | apply State.onDict_ordered | split

theorem State.answer_ordered {z : State} (acts : List (Fin 4)) (r : Resp) (s : State) (hk : Ordered z s) :
    Ordered z (State.answer acts r s) := by
  unfold State.answer
  with_reducible repeat' first
    | assumption | apply Ordered.ite | apply State.onDict_ordered | apply State.reply_ordered

theorem State.cmdReady_ordered {z : State} (n : Nat) (st : NvStatus) (s : State) (hk : Ordered z s) :
    Ordered z (State.cmdReady n st s) := by
  unfold State.cmdReady
  with_reducible repeat' first | assumption | exact fun _ => rfl | apply State.onCmd_ordered

theorem State.saveAnswer_ordered {z : State} (w : SaveWant) (status : BitVec 8) (s : State) (hk : Ordered z s) :
    Ordered z (State.saveAnswer w status s) := by
  unfold State.saveAnswer
  dsimp only
  with_reducible repeat' first
    | assumption | apply Ordered.ite | apply State.answer_ordered | apply State.cmdReady_ordered
    | apply State.reply_ordered | split

theorem State.slotsLost_ordered {z : State} (s : State) (hk : Ordered z s) :
    Ordered z (State.slotsLost s) := by
  unfold State.slotsLost
  dsimp only
  with_reducible repeat' first
    | assumption | apply Ordered.ite | apply State.onCiph_ordered | apply State.onDict_ordered
    | apply State.saveAnswer_ordered | split

theorem State.setErase_ordered {z : State} (e : EraseRun) (s : State) (hk : Ordered z s) :
    Ordered z (State.setErase e s) := by
  unfold State.setErase
  with_reducible repeat' first | assumption | apply State.onCiph_ordered

theorem State.takeNumber_ordered {z : State} (s : State) (hk : Ordered z s) :
    Ordered z (State.takeNumber s) :=
  State.onNvme_ordered hk fun ⟨k1, k2⟩ => ⟨fun c hc => Nat.le_succ_of_le (k1 c hc), k2⟩


/-- A fetched command takes the next number. -/
theorem State.fetch_ordered {z : State} (h : NvmeHdr) (admin : Bool) (opcode : Nat) (r : IoRange) (s : State)
    (hk : Ordered z s) : Ordered z (State.fetch h admin opcode r s) := by
  unfold State.fetch
  refine State.onCtrl_ordered _ _ _ ?_
  refine ⟨hk.pending, fun k => ?_⟩
  obtain ⟨km, kf, kn⟩ := hk.numbers k
  refine ⟨km, fun c hc => ?_, ?_⟩
  · rcases List.mem_append.1 hc with hc | hc
    · exact Nat.le_succ_of_le (kf c hc)
    · rw [List.mem_singleton.1 hc]
      exact Nat.le_refl _
  · show ((s.nvme.cmds ++ [_]).map fun (c : Cmd) => c.n).Nodup
    rw [List.map_append, List.nodup_append]
    refine ⟨kn, List.pairwise_singleton _ _, fun n hn m hm => ?_⟩
    obtain ⟨c, hc, rfl⟩ := List.mem_map.1 hn
    obtain rfl := List.mem_singleton.1 hm
    exact Nat.ne_of_lt (Nat.lt_succ_of_le (kf c hc))

theorem State.admin_ordered {z : State} (h : NvmeHdr) (opcode nsid : Nat) (body : Nat → State → State) (s : State) (hk : Ordered z s) (hf : ∀ n t, Ordered z t → Ordered z (body n t)) :
    Ordered z (State.admin h opcode nsid body s) := by
  unfold State.admin
  dsimp only
  with_reducible repeat' first | assumption | apply hf | apply Ordered.ite | apply State.fetch_ordered

theorem State.slotChange_ordered {z : State} (n : Nat) (newKey : Option (List Byte)) (s : State) (hk : Ordered z s) :
    Ordered z (State.slotChange n newKey s) := by
  unfold State.slotChange
  dsimp only
  with_reducible repeat' first
    | assumption | apply State.event_ordered | apply State.onSlot_ordered | apply State.slotTakes_ordered

theorem State.drbgAsk_ordered {z : State} (s : State) (hk : Ordered z s) :
    Ordered z (State.drbgAsk s) := by
  unfold State.drbgAsk
  with_reducible repeat' first | assumption | apply State.onCiph_ordered

theorem State.slotGenerate_ordered {z : State} (n : Nat) (s : State) (hk : Ordered z s) :
    Ordered z (State.slotGenerate n s) := by
  unfold State.slotGenerate
  with_reducible repeat' first
    | assumption | apply State.drbgAsk_ordered | apply State.slotChange_ordered | apply State.takeFree_ordered

theorem State.eraseKeys_ordered {z : State} (l : List Nat) (e : EraseRun) (s : State) (hk : Ordered z s) :
    Ordered z (State.eraseKeys l e s).1 := by
  induction l generalizing e s with
  | nil => exact hk
  | cons r rest ih =>
    unfold State.eraseKeys
    split
    · exact hk
    · exact ih _ _ (State.slotTakes_ordered _ _ (State.slotGenerate_ordered _ _ hk))

theorem State.endWrites_ordered {z : State} (nsid : Nat) (st : NvStatus) (s : State) (hk : Ordered z s) :
    Ordered z (State.endWrites nsid st s) := by
  unfold State.endWrites
  dsimp only
  with_reducible repeat' first
    | assumption | exact fun k => k | refine Nvme.NumbersOk.map (fun k => ?_) rfl rfl | rfl | apply Ordered.ite
    | apply State.dropWrites_ordered | apply State.onNvme_ordered | split

theorem State.releaseBand_ordered {z : State} (glb : Nat) (s : State) (hk : Ordered z s) :
    Ordered z (State.releaseBand glb s) := by
  unfold State.releaseBand
  dsimp only
  with_reducible repeat' first | assumption | apply Ordered.ite | apply State.change_ordered

theorem State.dropRelocations_ordered {z : State} (bands : List Nat) (s : State) (hk : Ordered z s) :
    Ordered z (State.dropRelocations bands s) := by
  unfold State.dropRelocations
  dsimp only
  with_reducible repeat' first
    | assumption | intro _ _ _ | apply Ordered.foldS | apply State.change_ordered | apply State.onPlc_ordered
    | split

theorem State.releaseBands_ordered {z : State} (bands : List Nat) (s : State) (hk : Ordered z s) :
    Ordered z (State.releaseBands bands s) := by
  unfold State.releaseBands
  dsimp only
  with_reducible repeat' first
    | assumption | intro _ _ _ | apply Ordered.foldS | apply State.dirtyCheck_ordered
    | apply State.dropRelocations_ordered | apply State.dropWrite_ordered | apply State.onBuf_ordered
    | apply State.onPlc_ordered | apply State.releaseBand_ordered

theorem State.eraseGroup_ordered {z : State} (e : EraseRun) (s : State) (hk : Ordered z s) :
    Ordered z (State.eraseGroup e s) := by
  unfold State.eraseGroup
  dsimp only
  with_reducible repeat' first
    | assumption | intro _ _ _ | apply Ordered.foldS | apply State.endWrites_ordered | apply State.event_ordered
    | apply State.journal_ordered | apply State.odSet_ordered | apply State.releaseBands_ordered
    | apply State.setErase_ordered | apply State.takeNumber_ordered | split

theorem State.eraseEnd_ordered {z : State} (e : EraseRun) (s : State) (hk : Ordered z s) :
    Ordered z (State.eraseEnd e s) := by
  unfold State.eraseEnd
  dsimp only
  with_reducible repeat' first
    | assumption | exact fun k => k | intro _ _ _ | apply Ordered.foldS | apply Ordered.ite
    | apply State.cmdReady_ordered | apply State.count_ordered | apply State.event_ordered
    | apply State.onCiph_ordered | apply State.onNvme_ordered | apply State.serviceCheck_ordered | split

theorem State.eraseStep_ordered {z : State} (e : EraseRun) (s : State) (hk : Ordered z s) :
    Ordered z (State.eraseStep e s) := by
  unfold State.eraseStep
  dsimp only
  with_reducible repeat' first
    | assumption | intro _ _ _ | intro _ _ | apply Ordered.foldS | apply Ordered.ite | apply State.admin_ordered
    | apply State.eraseEnd_ordered | apply State.eraseGroup_ordered | apply State.eraseKeys_ordered
    | apply State.event_ordered | apply State.setErase_ordered | apply State.slotChange_ordered
    | apply State.wantSave_ordered | refine Ordered.of_fst (by assumption) ?_ | split

theorem State.takeReports_ordered {z : State} (l : List Endpoint) (s : State) (hk : Ordered z s) :
    Ordered z (State.takeReports l s).1 := by
  induction l generalizing s with
  | nil => exact hk
  | cons e r ih =>
    have hm := ih _ (State.takeMsg_ordered (Msg.isFault e) s hk)
    unfold State.takeReports
    dsimp only
    repeat' first | exact hm | split

theorem State.histPut_ordered {z : State} (e : HistEntry) (s : State) (hk : Ordered z s) :
    Ordered z (State.histPut e s) := by
  unfold State.histPut
  dsimp only
  with_reducible repeat' first
    | assumption | apply Ordered.ite | apply State.event_ordered | apply State.onHm_ordered
    | apply State.ybAppendInj_ordered

theorem State.retireHead_ordered {z : State} (a : Fin 4) (h : Nat) (s : State) (hk : Ordered z s) :
    Ordered z (State.retireHead a h s) := by
  unfold State.retireHead
  dsimp only
  with_reducible repeat' first
    | assumption | apply Ordered.ite | apply State.oblige_ordered | apply State.onHead_ordered

theorem State.escalated_ordered {z : State} (source kind : Nat) (s : State) (hk : Ordered z s) :
    Ordered z (State.escalated source kind s) := by
  unfold State.escalated
  split
  · split
    · exact State.retireHead_ordered _ _ _ hk
    · exact hk
  · split
    · split
      · cases s.sysHead _ with
        | none => exact hk
        | some h => exact State.retireHead_ordered _ _ _ hk
      · exact hk
    · exact hk


theorem State.ybSnapshot_ordered {z : State} (ctrl : Bool) (s : State) (hk : Ordered z s) :
    Ordered z (State.ybSnapshot ctrl s) := by
  unfold State.ybSnapshot
  dsimp only
  with_reducible repeat' first
    | assumption | apply Ordered.ite | apply State.event_ordered | apply State.onYb_ordered

theorem State.noticeAll_ordered {z : State} (info : Nat) (s : State) (hk : Ordered z s) :
    Ordered z (State.noticeAll info s) := by
  unfold State.noticeAll
  with_reducible repeat' first | assumption | intro _ _ _ | apply Ordered.foldS | apply State.notice_ordered

theorem State.reportIrq_ordered {z : State} (n : Nat) (nmi int : Bool) (s : State) (hk : Ordered z s) :
    Ordered z (State.reportIrq n nmi int s) := by
  unfold State.reportIrq
  dsimp only
  with_reducible repeat' first
    | assumption | intro _ _ | apply Ordered.doIf | apply State.onHmSrc_ordered | apply State.onHm_ordered | split

theorem State.dropReads_ordered {z : State} (ns : List Nat) (s : State) (hk : Ordered z s) :
    Ordered z (State.dropReads ns s) := by
  unfold State.dropReads
  dsimp only
  with_reducible repeat' first
    | assumption | intro _ _ _ | apply Ordered.foldS | apply Ordered.ite | apply State.ladderDrop_ordered
    | apply State.onRch_ordered | split

theorem State.resumeFetch_ordered {z : State} (s : State) (hk : Ordered z s) :
    Ordered z (State.resumeFetch s) := by
  unfold State.resumeFetch
  with_reducible repeat' first | assumption | intro _ _ _ | apply Ordered.foldS | apply State.onCtrl_ordered

theorem State.activationLost_ordered {z : State} (ns : List Nat) (s : State) (hk : Ordered z s) :
    Ordered z (State.activationLost ns s) := by
  unfold State.activationLost
  with_reducible repeat' first
    | assumption | exact fun k => k | apply Ordered.ite | apply State.onNvme_ordered
    | apply State.resumeFetch_ordered | split

theorem State.activationPump_ordered {z : State} (s : State) (hk : Ordered z s) :
    Ordered z (State.activationPump s) := by
  unfold State.activationPump
  with_reducible repeat' first
    | assumption | exact fun k => k | apply Ordered.ite | apply State.onNvme_ordered | split

theorem State.withdraw_ordered {z : State} (c : Fin 2) (p : Cmd → Bool) (s : State) (hk : Ordered z s) :
    Ordered z (State.withdraw c p s) := by
  unfold State.withdraw
  dsimp only
  with_reducible repeat' first
    | assumption | exact fun k => k | exact .filter rfl rfl | apply State.activationLost_ordered
    | apply State.activationPump_ordered | apply State.count_ordered | apply State.dropReads_ordered
    | apply State.dropWrites_ordered | apply State.event_ordered | apply State.onNvme_ordered

theorem State.withdrawCtrl_ordered {z : State} (c : Fin 2) (s : State) (hk : Ordered z s) :
    Ordered z (State.withdrawCtrl c s) := by
  unfold State.withdrawCtrl
  dsimp only
  with_reducible repeat' first
    | assumption | exact fun k => k | apply State.onNvme_ordered | apply State.withdraw_ordered

theorem State.resetCtrl_ordered {z : State} (c : Fin 2) (s : State) (hk : Ordered z s) :
    Ordered z (State.resetCtrl c s) := by
  unfold State.resetCtrl
  dsimp only
  with_reducible repeat' first
    | assumption | apply State.activateNext_ordered | apply State.onCtrl_ordered | apply State.withdrawCtrl_ordered

theorem State.flr_ordered {z : State} (c : Fin 2) (s : State) (hk : Ordered z s) :
    Ordered z (State.flr c s) := by
  unfold State.flr
  with_reducible repeat' first | assumption | apply State.event_ordered | apply State.resetCtrl_ordered

theorem State.ciphReload_ordered {z : State} (bad : List Nat) (s : State) (hk : Ordered z s) :
    Ordered z (State.ciphReload bad s) := by
  unfold State.ciphReload
  dsimp only
  with_reducible repeat' first
    | assumption | intro _ _ _ | apply Ordered.foldS | apply Ordered.foldl | apply Ordered.ite
    | apply State.faultAt_ordered | apply State.onCiph_ordered

theorem State.ciphReset_ordered {z : State} (s : State) (hk : Ordered z s) :
    Ordered z (State.ciphReset s) := by
  unfold State.ciphReset
  with_reducible repeat' first
    | assumption | apply Ordered.ite | apply State.ciphHalt_ordered | apply State.ciphReload_ordered
    | apply State.onCiph_ordered

theorem State.dmaResetEnd_ordered {z : State} (s : State) (hk : Ordered z s) :
    Ordered z (State.dmaResetEnd s) := by
  unfold State.dmaResetEnd
  with_reducible repeat' first
    | assumption | apply Ordered.ite | apply State.onDma_ordered | apply State.onHm_ordered

theorem State.setLink_ordered {z : State} (v : BitVec 3) (s : State) (hk : Ordered z s) :
    Ordered z (State.setLink v s) := by
  unfold State.setLink
  dsimp only
  with_reducible repeat' first
    | assumption | apply Ordered.ite | apply State.event_ordered | apply State.onDict_ordered

theorem State.blockReset_ordered {z : State} (u : Nat) (s : State) (hk : Ordered z s) :
    Ordered z (State.blockReset u s) := by
  unfold State.blockReset
  dsimp only
  with_reducible repeat' first
    | assumption | intro _ _ _ | apply Ordered.foldS | apply Ordered.ite | apply State.ciphReset_ordered
    | apply State.decoderOff_ordered | apply State.dmaAbortAll_ordered | apply State.dmaResetEnd_ordered
    | apply State.flr_ordered | apply State.onDict_ordered | apply State.onHm_ordered | apply State.setLink_ordered
    | apply State.startUnload_ordered | apply State.switchOffAll_ordered | split

theorem State.report_ordered {z : State} (simul chip : Bool) (unit : Option Nat) (r : Report) (s : State) (hk : Ordered z s) :
    Ordered z (State.report simul chip unit r s) := by
  unfold State.report
  dsimp only
  with_reducible repeat' first
    | assumption | exact fun k => k | intro _ _ | apply Ordered.doIf | apply Ordered.ite
    | apply State.blockReset_ordered | apply State.count_ordered | apply State.enterLimited_ordered
    | apply State.eoAssert_ordered | apply State.escalated_ordered | apply State.event_ordered
    | apply State.histPut_ordered | apply State.noticeAll_ordered | apply State.onHmSrc_ordered
    | apply State.onHm_ordered | apply State.onNvme_ordered | apply State.reportIrq_ordered
    | apply State.requestChipReset_ordered | apply State.updateWarnings_ordered | apply State.ybAppend_ordered
    | apply State.ybSnapshot_ordered | split

theorem State.intake_ordered {z : State} (l : List Report) (s : State) (hk : Ordered z s) :
    Ordered z (State.intake l s) := by
  unfold State.intake
  dsimp only
  with_reducible repeat' first
    | assumption | intro _ _ _ | apply Ordered.foldS | apply Ordered.foldl | apply Ordered.foldl_snd
    | apply State.event_ordered | apply State.onHm_ordered | apply State.report_ordered

theorem State.histClear_ordered {z : State} (s : State) (hk : Ordered z s) :
    Ordered z (State.histClear s) := by
  unfold State.histClear
  dsimp only
  with_reducible repeat' first | assumption | apply State.event_ordered | apply State.onHm_ordered

theorem State.eoRelease_ordered {z : State} (was : Bool) (s : State) (hk : Ordered z s) :
    Ordered z (State.eoRelease was s) := by
  unfold State.eoRelease
  with_reducible repeat' first | assumption | apply Ordered.ite | apply State.event_ordered

theorem State.eoClearHold_ordered {z : State} (s : State) (hk : Ordered z s) :
    Ordered z (State.eoClearHold s) := by
  unfold State.eoClearHold
  dsimp only
  with_reducible repeat' first | assumption | apply State.eoRelease_ordered | apply State.onHm_ordered

theorem State.clearLasting_ordered {z : State} (n : Nat) (s : State) (hk : Ordered z s) :
    Ordered z (State.clearLasting n s) := by
  unfold State.clearLasting
  with_reducible repeat' first
    | assumption | apply Ordered.ite | apply State.event_ordered | apply State.onHmSrc_ordered

theorem State.overCharge_ordered {z : State} (who measured predicted : Nat) (s : State) (hk : Ordered z s) :
    Ordered z (State.overCharge who measured predicted s) := by
  unfold State.overCharge
  dsimp only
  with_reducible repeat' first
    | assumption | apply Ordered.ite | apply State.event_ordered | apply State.onTt_ordered

theorem State.correct_ordered {z : State} (x : BoundaryInputs) (s : State) (hk : Ordered z s) :
    Ordered z (State.correct x s) := by
  unfold State.correct
  dsimp only
  with_reducible repeat' first
    | assumption | intro _ _ _ | apply Ordered.foldS | apply Ordered.foldl | apply Ordered.ite
    | apply State.onTt_ordered | apply State.overCharge_ordered | split

theorem State.lateDecay_ordered {z : State} (s : State) (hk : Ordered z s) :
    Ordered z (State.lateDecay s) := by
  unfold State.lateDecay
  dsimp only
  with_reducible repeat' first | assumption | apply State.onTt_ordered

theorem State.recoveryCheck_ordered {z : State} (s : State) (hk : Ordered z s) :
    Ordered z (State.recoveryCheck s) := by
  unfold State.recoveryCheck
  dsimp only
  with_reducible repeat' first
    | assumption | apply Ordered.ite | apply State.count_ordered | apply State.event_ordered
    | apply State.lateDecay_ordered | apply State.onTt_ordered

theorem State.setPeriod_ordered {z : State} (s : State) (hk : Ordered z s) :
    Ordered z (State.setPeriod s) := by
  unfold State.setPeriod
  dsimp only
  with_reducible repeat' first | assumption | apply Ordered.ite | apply State.onTt_ordered

theorem State.updateHeat_ordered {z : State} (s : State) (hk : Ordered z s) :
    Ordered z (State.updateHeat s) := by
  unfold State.updateHeat
  dsimp only
  with_reducible repeat' first
    | assumption | apply Ordered.ite | apply State.event_ordered | apply State.onTt_ordered | split

theorem State.ttBudget_ordered {z : State} (s : State) (hk : Ordered z s) :
    Ordered z (State.ttBudget s) := by
  unfold State.ttBudget
  dsimp only
  with_reducible repeat' first
    | assumption | intro _ _ | apply Ordered.doIf | apply State.fault_ordered | apply State.onTt_ordered

theorem State.upperOn_ordered {z : State} (s : State) (hk : Ordered z s) :
    Ordered z (State.upperOn s) := by
  unfold State.upperOn
  with_reducible repeat' first
    | assumption | apply Ordered.ite | apply State.onTt_ordered | apply State.switchOn_ordered

theorem State.poolPolicy_ordered {z : State} (s : State) (hk : Ordered z s) :
    Ordered z (State.poolPolicy s) := by
  unfold State.poolPolicy
  dsimp only
  with_reducible repeat' first
    | assumption | intro _ _ | apply Ordered.doIf | apply Ordered.ite | apply State.onTt_ordered
    | apply State.switchOff_ordered | apply State.upperOn_ordered

theorem State.obligWin_ordered {z : State} (c : Cand) (all : List Cand) (s : State) (hk : Ordered z s) :
    Ordered z (State.obligWin c all s) := by
  unfold State.obligWin
  dsimp only
  with_reducible repeat' first
    | assumption | apply Ordered.ite | apply State.count_ordered | apply State.event_ordered | split

theorem State.takeOn_ordered {z : State} (c : Cand) (p : Plan) (startTick : Nat) (s : State) (hk : Ordered z s) :
    Ordered z (State.takeOn c p startTick s) := by
  unfold State.takeOn
  dsimp only
  with_reducible repeat' first
    | assumption | apply Ordered.ite | apply State.obligDone_ordered | apply State.onTt_ordered | split

/-- A candidate considered: what the boundary carries beside the state does not matter. -/
theorem State.consider_ordered {z : State} (all : List Cand) (share : Nat) (c : Cand)
    (x : State × Bool × List (Fin 4)) (hk : Ordered z x.1) : Ordered z (State.consider all share c x).1 := by
  obtain ⟨s, blocked, held⟩ := x
  unfold State.consider
  dsimp only
  repeat' first
    | with_reducible assumption | with_reducible apply Ordered.ite | with_reducible apply State.cutShort_ordered
    | with_reducible apply State.obligWin_ordered | with_reducible apply State.takeOn_ordered
    | with_reducible apply State.fault_ordered | with_reducible apply State.onTt_ordered | split

theorem State.queueLeft_ordered {z : State} (cands : List Cand) (s : State) (hk : Ordered z s) :
    Ordered z (State.queueLeft cands s) := by
  unfold State.queueLeft
  with_reducible repeat' first | assumption | apply State.onTt_ordered

theorem State.admitAll_ordered {z : State} (cands : List Cand) (s : State) (hk : Ordered z s) :
    Ordered z (State.admitAll cands s).1 := by
  unfold State.admitAll
  dsimp only
  exact State.queueLeft_ordered _ _ (Ordered.foldl_fst hk fun c q k => State.consider_ordered _ _ c q k)


theorem State.protEvent_ordered {z : State} (group head : Nat) (ended : Bool) (s : State) (hk : Ordered z s) :
    Ordered z (State.protEvent group head ended s) := by
  unfold State.protEvent
  with_reducible repeat' first | assumption | apply State.event_ordered

theorem State.headProt_ordered {z : State} (a : Fin 4) (h : BitVec 5) (t : Int) (s : State) (hk : Ordered z s) :
    Ordered z (State.headProt a h t s) := by
  unfold State.headProt
  dsimp only
  with_reducible repeat' first
    | assumption | apply Ordered.ite | apply State.onTt_ordered | apply State.protEvent_ordered

theorem State.cruiseTo_ordered {z : State} (rule rpm : Nat) (s : State) (hk : Ordered z s) :
    Ordered z (State.cruiseTo rule rpm s) := by
  unfold State.cruiseTo
  dsimp only
  with_reducible repeat' first
    | assumption | apply Ordered.ite | apply State.event_ordered | apply State.onTt_ordered
    | apply State.writeTarget_ordered

theorem State.onCal_ordered {z : State} (a : Fin 4) (f : CalReg → CalReg) (s : State) (hk : Ordered z s) :
    Ordered z (State.onCal a f s) := by
  unfold State.onCal
  with_reducible repeat' first | assumption | apply State.onIsl_ordered

theorem State.calEnd_ordered {z : State} (a : Fin 4) (s : State) (hk : Ordered z s) :
    Ordered z (State.calEnd a s) := by
  unfold State.calEnd
  dsimp only
  with_reducible repeat' first
    | assumption | apply Ordered.ite | apply State.event_ordered | apply State.onCal_ordered

theorem State.postCqe_ordered {z : State} (k : Cmd) (s : State) (hk : Ordered z s) :
    Ordered z (State.postCqe k s) := by
  unfold State.postCqe
  dsimp only
  with_reducible repeat' first
    | assumption | exact fun k => k | exact .filter rfl rfl | apply Ordered.ite | apply State.onCtrl_ordered
    | apply State.onNvme_ordered | split

theorem State.formatEnds_ordered {z : State} (k : Cmd) (s : State) (hk : Ordered z s) :
    Ordered z (State.formatEnds k s) := by
  unfold State.formatEnds
  dsimp only
  with_reducible repeat' first
    | assumption | exact fun k => k | apply Ordered.ite | apply State.onNvme_ordered | split

theorem State.lateComplete_ordered {z : State} (due : BitVec 64) (s : State) (hk : Ordered z s) :
    Ordered z (State.lateComplete due s) := by
  unfold State.lateComplete
  dsimp only
  with_reducible repeat' first
    | assumption | apply Ordered.ite | apply State.count_ordered | apply State.lateDecay_ordered
    | apply State.onTt_ordered

theorem State.io_ordered {z : State} (h : NvmeHdr) (opcode : Nat) (r : IoRange) (body : Nat → State → State) (s : State) (hk : Ordered z s) (hf : ∀ n t, Ordered z t → Ordered z (body n t)) :
    Ordered z (State.io h opcode r body s) := by
  unfold State.io
  dsimp only
  with_reducible repeat' first | assumption | apply hf | apply Ordered.ite | apply State.fetch_ordered

theorem State.checked_ordered {z : State} (n : Nat) (checks : List (Option NvStatus)) (go : State → State) (s : State) (hk : Ordered z s) (hf : ∀ t, Ordered z t → Ordered z (go t)) :
    Ordered z (State.checked n checks go s) := by
  unfold State.checked
  with_reducible repeat' first | assumption | apply hf | apply State.cmdReady_ordered | split

theorem State.touchPages_ordered {z : State} (us : List Nat) (s : State) (hk : Ordered z s) :
    Ordered z (State.touchPages us s) := by
  unfold State.touchPages
  with_reducible repeat' first | assumption | apply State.onBuf_ordered

theorem State.mediaArrives_ordered {z : State} (s : State) (hk : Ordered z s) :
    Ordered z (State.mediaArrives s) := by
  unfold State.mediaArrives
  dsimp only
  with_reducible repeat' first
    | assumption | apply Ordered.ite | apply State.cutShort_ordered | apply State.event_ordered
    | apply State.onSys_ordered | split

theorem State.readUnits_ordered {z : State} (n : Nat) (x : Ns) (r : IoRange) (limitedRetry : Bool) (s : State) (hk : Ordered z s) :
    Ordered z (State.readUnits n x r limitedRetry s) := by
  unfold State.readUnits
  dsimp only
  with_reducible repeat' first
    | assumption | exact fun _ => rfl | apply Ordered.ite | apply State.cmdReady_ordered | apply State.count_ordered
    | apply State.errEntry_ordered | apply State.mediaArrives_ordered | apply State.onCmd_ordered
    | apply State.touchPages_ordered | split

theorem State.readCmd_ordered {z : State} (c : Fin 2) (n : Nat) (r : IoRange) (limitedRetry moves : Bool) (s : State) (hk : Ordered z s) :
    Ordered z (State.readCmd c n r limitedRetry moves s) := by
  unfold State.readCmd
  with_reducible repeat' first
    | assumption | intro _ _ _ | intro _ _ | apply State.checked_ordered | apply State.readUnits_ordered | split

theorem State.takeGen_ordered {z : State} (s : State) (hk : Ordered z s) :
    Ordered z (State.takeGen s) := by
  unfold State.takeGen
  dsimp only
  with_reducible repeat' first
    | assumption | apply Ordered.ite | apply State.journal_ordered | apply State.onPlc_ordered

theorem State.putPage_ordered {z : State} (n gen : Nat) (g : Nat) (s : State) (hk : Ordered z s) :
    Ordered z (State.putPage n gen g s) := by
  unfold State.putPage
  dsimp only
  with_reducible repeat' first
    | assumption | apply Ordered.ite | apply State.onBuf_ordered | apply State.pageIn_ordered | split

theorem State.touchBands_ordered {z : State} (us : List Nat) (s : State) (hk : Ordered z s) :
    Ordered z (State.touchBands us s) := by
  unfold State.touchBands
  with_reducible repeat' first | assumption | intro _ _ _ | apply Ordered.foldS | apply State.onBand_ordered

theorem State.writeUnits_ordered {z : State} (n : Nat) (x : Ns) (r : IoRange) (through : Bool) (handle : Option Nat) (s : State) (hk : Ordered z s) :
    Ordered z (State.writeUnits n x r through handle s) := by
  unfold State.writeUnits
  dsimp only
  with_reducible repeat' first
    | assumption | exact fun _ => rfl | exact fun k => k | intro _ _ _ | apply Ordered.foldS | apply Ordered.ite
    | apply State.dirtyCheck_ordered | apply State.mediaArrives_ordered | apply State.onCmd_ordered
    | apply State.onNvme_ordered | apply State.putPage_ordered | apply State.takeGen_ordered
    | apply State.touchBands_ordered

theorem State.waitPend_ordered {z : State} (ns : List Nat) (s : State) (hk : Ordered z s) :
    Ordered z (State.waitPend ns s) := by
  unfold State.waitPend
  with_reducible repeat' first
    | assumption | apply Ordered.ite | apply State.oblige_ordered | apply State.onPlc_ordered

theorem State.deallocate_ordered {z : State} (n : Nat) (us : List Nat) (s : State) (hk : Ordered z s) :
    Ordered z (State.deallocate n us s) := by
  unfold State.deallocate
  dsimp only
  with_reducible repeat' first
    | assumption | intro _ _ _ | apply Ordered.foldS | apply State.change_ordered | apply State.dirtyCheck_ordered
    | apply State.formDone_ordered | apply State.journal_ordered | apply State.onBuf_ordered
    | apply State.takeGen_ordered

theorem State.zeroUnits_ordered {z : State} (n : Nat) (x : Ns) (r : IoRange) (s : State) (hk : Ordered z s) :
    Ordered z (State.zeroUnits n x r s) := by
  unfold State.zeroUnits
  dsimp only
  with_reducible repeat' first
    | assumption | exact fun _ => rfl | intro _ _ _ | apply Ordered.foldS | apply Ordered.ite
    | apply State.deallocate_ordered | apply State.dirtyCheck_ordered | apply State.mediaArrives_ordered
    | apply State.onCmd_ordered | apply State.putPage_ordered | apply State.takeGen_ordered
    | apply State.takeNumber_ordered

theorem State.setResv_ordered {z : State} (r : Reservation) (s : State) (hk : Ordered z s) :
    Ordered z (State.setResv r s) := by
  unfold State.setResv
  with_reducible repeat' first | assumption | exact fun k => k | apply State.onNvme_ordered

theorem State.cmdSave_ordered {z : State} (n : Nat) (s : State) (hk : Ordered z s) :
    Ordered z (State.cmdSave n s) := by
  unfold State.cmdSave
  with_reducible repeat' first
    | assumption | exact fun _ => rfl | apply State.onCmd_ordered | apply State.wantSave_ordered

theorem State.resvDone_ordered {z : State} (n : Nat) (r : Reservation) (s : State) (hk : Ordered z s) :
    Ordered z (State.resvDone n r s) := by
  unfold State.resvDone
  dsimp only
  with_reducible repeat' first
    | assumption | apply Ordered.ite | apply State.cmdSave_ordered | apply State.setResv_ordered

theorem State.resvNotice_ordered {z : State} (ty nsid : Nat) (by' : Fin 2) (hosts : List (Fin 2)) (s : State) (hk : Ordered z s) :
    Ordered z (State.resvNotice ty nsid by' hosts s) := by
  unfold State.resvNotice
  dsimp only
  with_reducible repeat' first
    | assumption | exact fun k => k | intro _ _ _ | apply Ordered.foldS | apply Ordered.ite
    | apply State.onNvme_ordered | apply State.postAen_ordered | split

theorem State.sendData_ordered {z : State} (n lid : Nat) (bytes : List Byte) (s : State) (hk : Ordered z s) :
    Ordered z (State.sendData n lid bytes s) := by
  unfold State.sendData
  with_reducible repeat' first
    | assumption | exact fun k => k | apply State.cmdReady_ordered | apply State.onNvme_ordered | split

theorem State.logRead_ordered {z : State} (c : Fin 2) (lid : Nat) (rae : Bool) (s : State) (hk : Ordered z s) :
    Ordered z (State.logRead c lid rae s) := by
  unfold State.logRead
  with_reducible repeat' first
    | assumption | exact fun k => k | apply Ordered.ite | apply State.onNvme_ordered | split

theorem State.readyDw0_ordered {z : State} (n dw0 : Nat) (s : State) (hk : Ordered z s) :
    Ordered z (State.readyDw0 n dw0 s) := by
  unfold State.readyDw0
  with_reducible repeat' first
    | assumption | exact fun _ => rfl | apply State.cmdReady_ordered | apply State.onCmd_ordered

theorem State.setPowerState_ordered {z : State} (c : Fin 2) (ps : BitVec 2) (apst : Bool) (s : State) (hk : Ordered z s) :
    Ordered z (State.setPowerState c ps apst s) := by
  unfold State.setPowerState
  dsimp only
  with_reducible repeat' first
    | assumption | exact fun k => k | apply Ordered.ite | apply State.event_ordered | apply State.onNvme_ordered
    | apply State.onSys_ordered

theorem State.setFeat_ordered {z : State} (f : Feat) (s : State) (hk : Ordered z s) :
    Ordered z (State.setFeat f s) := by
  unfold State.setFeat
  with_reducible repeat' first | assumption | exact fun k => k | apply State.onNvme_ordered

theorem State.setCtrlFeat_ordered {z : State} (c : Fin 2) (f : Feat) (s : State) (hk : Ordered z s) :
    Ordered z (State.setCtrlFeat c f s) := by
  unfold State.setCtrlFeat
  with_reducible repeat' first | assumption | apply State.onCtrl_ordered

theorem State.setWall_ordered {z : State} (t : BitVec 64) (source : Nat) (s : State) (hk : Ordered z s) :
    Ordered z (State.setWall t source s) := by
  unfold State.setWall
  dsimp only
  with_reducible repeat' first
    | assumption | apply State.event_ordered | apply State.onYb_ordered | apply State.ybAppend_ordered

theorem State.featSet_ordered {z : State} (c : Fin 2) (fid nsid : Nat) (dw11 dw12 : BitVec 32) (data : List Byte) (s : State) (hk : Ordered z s) :
    Ordered z (State.featSet c fid nsid dw11 dw12 data s) := by
  unfold State.featSet
  dsimp only
  with_reducible repeat' first
    | assumption | intro _ _ _ | apply Ordered.foldS | apply Ordered.ite | apply State.odSet_ordered
    | apply State.setCtrlFeat_ordered | apply State.setFeat_ordered | apply State.setPowerState_ordered
    | apply State.setResv_ordered | apply State.setWall_ordered | apply State.updateWarnings_ordered | split

theorem State.markSlot_ordered {z : State} (slot : Nat) (s : State) (hk : Ordered z s) :
    Ordered z (State.markSlot slot s) := by
  unfold State.markSlot
  with_reducible repeat' first | assumption | exact fun k => k | apply State.onNvme_ordered

theorem State.activationStart_ordered {z : State} (n slot : Nat) (s : State) (hk : Ordered z s) :
    Ordered z (State.activationStart n slot s) := by
  unfold State.activationStart
  dsimp only
  with_reducible repeat' first
    | assumption | exact fun _ => rfl | exact fun k => k | apply State.activationPump_ordered
    | apply State.event_ordered | apply State.noticeAll_ordered | apply State.onCmd_ordered
    | apply State.onNvme_ordered | apply State.stopFetch_ordered

theorem State.activationEnd_ordered {z : State} (a : Activation) (event qual : Nat) (st : NvStatus) (s : State) (hk : Ordered z s) :
    Ordered z (State.activationEnd a event qual st s) := by
  unfold State.activationEnd
  dsimp only
  with_reducible repeat' first
    | assumption | exact fun k => k | apply State.cmdReady_ordered | apply State.event_ordered
    | apply State.onNvme_ordered | apply State.resumeFetch_ordered | apply State.ybAppend_ordered

theorem State.nsGroup_ordered {z : State} (n : Nat) (s : State) (hk : Ordered z s) :
    Ordered z (State.nsGroup n s) := by
  unfold State.nsGroup
  with_reducible repeat' first
    | assumption | exact fun _ => rfl | apply State.journal_ordered | apply State.mediaArrives_ordered
    | apply State.onCmd_ordered

theorem State.nsChanged_ordered {z : State} (nsid : Nat) (s : State) (hk : Ordered z s) :
    Ordered z (State.nsChanged nsid s) := by
  unfold State.nsChanged
  with_reducible repeat' first
    | assumption | exact fun k => k | apply Ordered.ite | apply State.noticeAll_ordered | apply State.onNvme_ordered

theorem State.nsCreate_ordered {z : State} (n nsid nsze lbaf : Nat) (bands : List Nat) (shared : Bool) (s : State) (hk : Ordered z s) :
    Ordered z (State.nsCreate n nsid nsze lbaf bands shared s) := by
  unfold State.nsCreate
  dsimp only
  with_reducible repeat' first
    | assumption | exact fun _ => rfl | apply State.change_ordered | apply State.event_ordered
    | apply State.nsChanged_ordered | apply State.nsGroup_ordered | apply State.onCmd_ordered

theorem State.dropRanges_ordered {z : State} (nsid : Nat) (s : State) (hk : Ordered z s) :
    Ordered z (State.dropRanges nsid s) := by
  unfold State.dropRanges
  dsimp only
  with_reducible repeat' first
    | assumption | intro _ _ _ | apply Ordered.foldS | apply Ordered.ite | apply State.event_ordered
    | apply State.odSet_ordered | apply State.onDict_ordered | apply State.slotChange_ordered
    | apply State.slotSaves_ordered

theorem State.nsDelete_ordered {z : State} (x : Ns) (s : State) (hk : Ordered z s) :
    Ordered z (State.nsDelete x s) := by
  unfold State.nsDelete
  dsimp only
  with_reducible repeat' first
    | assumption | exact fun k => k | apply State.change_ordered | apply State.dropRanges_ordered
    | apply State.endWrites_ordered | apply State.event_ordered | apply State.nsChanged_ordered
    | apply State.onNvme_ordered | apply State.releaseBands_ordered

theorem State.formatNs_ordered {z : State} (lbaf : Nat) (x : Ns) (s : State) (hk : Ordered z s) :
    Ordered z (State.formatNs lbaf x s) := by
  unfold State.formatNs
  dsimp only
  with_reducible repeat' first
    | assumption | apply State.change_ordered | apply State.endWrites_ordered | apply State.releaseBands_ordered

theorem State.askErase_ordered {z : State} (nsid : Nat) (cmd : Option Nat) (sanitize : Bool) (s : State) (hk : Ordered z s) :
    Ordered z (State.askErase nsid cmd sanitize s) := by
  unfold State.askErase
  dsimp only
  with_reducible repeat' first
    | assumption | exact fun k => k | apply Ordered.ite | apply State.onCiph_ordered | apply State.onNvme_ordered

theorem State.onPort_ordered {z : State} (p : Fin 2) (f : Port → Port) (s : State) (hk : Ordered z s) :
    Ordered z (State.onPort p f s) := by
  unfold State.onPort
  with_reducible repeat' first | assumption | exact fun k => k | apply State.onNvme_ordered

theorem State.portDown_ordered {z : State} (p : Fin 2) (s : State) (hk : Ordered z s) :
    Ordered z (State.portDown p s) := by
  unfold State.portDown
  with_reducible repeat' first
    | assumption | intro _ _ | apply Ordered.doIf | apply State.onPort_ordered | apply State.switchOn_ordered

theorem State.transferFails_ordered {z : State} (n : Nat) (s : State) (hk : Ordered z s) :
    Ordered z (State.transferFails n s) := by
  unfold State.transferFails
  dsimp only
  with_reducible repeat' first
    | assumption | exact fun _ => rfl | intro _ _ _ | intro _ _ | apply Ordered.ite | apply State.admin_ordered
    | apply State.cmdReady_ordered | apply State.dropWrites_ordered | apply State.onCmd_ordered | split

theorem State.switchFails_ordered {z : State} (d : Nat) (s : State) (hk : Ordered z s) :
    Ordered z (State.switchFails d s) := by
  unfold State.switchFails
  dsimp only
  with_reducible repeat' first
    | assumption | apply Ordered.ite | apply State.enterLimited_ordered | apply State.makeUnsafe_ordered
    | apply State.onDom_ordered | split

theorem State.startOffs_ordered {z : State} (s : State) (hk : Ordered z s) :
    Ordered z (State.startOffs s) := by
  unfold State.startOffs
  dsimp only
  with_reducible repeat' first
    | assumption | intro _ _ _ | apply Ordered.foldS | apply Ordered.ite | apply State.commitOff_ordered

theorem State.decodersBack_ordered {z : State} (d : Nat) (s : State) (hk : Ordered z s) :
    Ordered z (State.decodersBack d s) := by
  unfold State.decodersBack
  dsimp only
  with_reducible repeat' first
    | assumption | intro _ _ _ | apply Ordered.foldS | apply Ordered.ite | apply State.event_ordered
    | apply State.onPool_ordered

theorem State.fillDomain_ordered {z : State} (d : Nat) (s : State) (hk : Ordered z s) :
    Ordered z (State.fillDomain d s) :=
  State.onFab_ordered hk fun k => State.fillDomain_wf (s := s) k d


theorem State.resetUnits_ordered {z : State} (d : Nat) (s : State) (hk : Ordered z s) :
    Ordered z (State.resetUnits d s) := by
  unfold State.resetUnits
  split
  · exact State.onAct_ordered hk _ _
  · split
    · exact State.onMsn_ordered hk _ _
    · split
      · exact State.onScr_ordered hk _
      · split
        · exact State.onDma_ordered (State.tims_ordered hk []) _
        · exact hk


theorem State.onSupply_ordered {z : State} (i : Nat) (f : IslandSupply → IslandSupply) (s : State) (hk : Ordered z s) :
    Ordered z (State.onSupply i f s) := by
  unfold State.onSupply
  with_reducible repeat' first | assumption | apply State.onPwr_ordered

theorem State.pscStart_ordered {z : State} (a : Fin 4) (s : State) (hk : Ordered z s) :
    Ordered z (State.pscStart a s) := by
  unfold State.pscStart
  with_reducible repeat' first
    | assumption | intro _ _ | apply Ordered.doIf | apply State.onPsc_ordered | apply State.pflSeen_ordered
    | apply State.pscQueue_ordered

theorem State.ciphReady_ordered {z : State} (kat : Option (Fin 3)) (bad : List Nat) (s : State) (hk : Ordered z s) :
    Ordered z (State.ciphReady kat bad s) := by
  unfold State.ciphReady
  with_reducible repeat' first
    | assumption | apply State.ciphReload_ordered | apply State.fault_ordered | apply State.onCiph_ordered
    | apply State.slotsLost_ordered | split

theorem State.unitsStart_ordered {z : State} (d : Nat) (kat : Option (Fin 3)) (bad : List (Fin 128)) (s : State) (hk : Ordered z s) :
    Ordered z (State.unitsStart d kat bad s) := by
  unfold State.unitsStart
  dsimp only
  with_reducible repeat' first
    | assumption | intro _ _ _ | intro _ _ | apply Ordered.doIf | apply Ordered.foldS | apply Ordered.ite
    | apply State.ciphReady_ordered | apply State.decodersBack_ordered | apply State.event_ordered
    | apply State.fillDomain_ordered | apply State.onIsl_ordered | apply State.onSupply_ordered
    | apply State.pscStart_ordered | apply State.resetUnits_ordered | split

theorem State.blockResetEnd_ordered {z : State} (d : Nat) (s : State) (hk : Ordered z s) :
    Ordered z (State.blockResetEnd d s) := by
  unfold State.blockResetEnd
  with_reducible repeat' first
    | assumption | apply Ordered.ite | apply State.onHm_ordered | apply State.startLoad_ordered | split

theorem State.startWaiting_ordered {z : State} (s : State) (hk : Ordered z s) :
    Ordered z (State.startWaiting s) := by
  unfold State.startWaiting
  dsimp only
  with_reducible repeat' first
    | assumption | intro _ _ _ | apply Ordered.foldS | apply Ordered.ite | apply State.closeSwitch_ordered | split

theorem State.ciphOff_ordered {z : State} (s : State) (hk : Ordered z s) :
    Ordered z (State.ciphOff s) := by
  unfold State.ciphOff
  with_reducible repeat' first
    | assumption | apply State.ciphHalt_ordered | apply State.onCiph_ordered | apply State.slotsLost_ordered

theorem State.domLost_ordered {z : State} (d : Nat) (s : State) (hk : Ordered z s) :
    Ordered z (State.domLost d s) := by
  unfold State.domLost
  dsimp only
  with_reducible repeat' first
    | assumption | intro _ _ _ | apply Ordered.foldS | apply Ordered.foldl | apply Ordered.ite
    | apply State.ciphOff_ordered | apply State.event_ordered | apply State.onDom_ordered
    | apply State.onPool_ordered | apply State.onSupply_ordered | apply State.resetUnits_ordered

theorem State.afterOff_ordered {z : State} (d : Nat) (s : State) (hk : Ordered z s) :
    Ordered z (State.afterOff d s) := by
  unfold State.afterOff
  dsimp only
  with_reducible repeat' first
    | assumption | apply Ordered.ite | apply State.onDom_ordered | apply State.startOffs_ordered
    | apply State.switchOnAll_ordered | apply State.switchOn_ordered | split

theorem State.supplyMoved_ordered {z : State} (i : Nat) (s : State) (hk : Ordered z s) :
    Ordered z (State.supplyMoved i s) := by
  unfold State.supplyMoved
  dsimp only
  with_reducible repeat' first
    | assumption | apply Ordered.ite | apply State.event_ordered | apply State.onSupply_ordered

theorem State.headroomSample_ordered {z : State} (i : Nat) (s : State) (hk : Ordered z s) :
    Ordered z (State.headroomSample i s) := by
  unfold State.headroomSample
  dsimp only
  with_reducible repeat' first
    | assumption | intro _ _ | apply Ordered.doIf | apply Ordered.ite | apply State.onSupply_ordered
    | apply State.replanTrigger_ordered | split

theorem State.hwWarning_ordered {z : State} (k : Nat) (s : State) (hk : Ordered z s) :
    Ordered z (State.hwWarning k s) := by
  unfold State.hwWarning
  dsimp only
  with_reducible repeat' first
    | assumption | intro _ _ | apply Ordered.doIf | apply Ordered.ite | apply State.event_ordered
    | apply State.fault_ordered | apply State.onPwr_ordered | apply State.switchOff_ordered | split

theorem State.updateProt_ordered {z : State} (s : State) (hk : Ordered z s) :
    Ordered z (State.updateProt s) := by
  unfold State.updateProt
  dsimp only
  with_reducible repeat' first
    | assumption | intro _ _ | apply Ordered.doIf | apply State.onTt_ordered | apply State.protEvent_ordered
    | apply State.switchOff_ordered

theorem State.ringStep_ordered {z : State} (rings : List (Nat × Nat)) (s : State) (hk : Ordered z s) :
    Ordered z (State.ringStep rings s) := by
  unfold State.ringStep
  dsimp only
  with_reducible repeat' first
    | assumption | intro _ _ _ | apply Ordered.foldS | apply Ordered.ite | apply State.onSupply_ordered

theorem State.classStep_ordered {z : State} (x : Fin 4 × Nat) (s : State) (hk : Ordered z s) :
    Ordered z (State.classStep x s) := by
  unfold State.classStep
  dsimp only
  with_reducible repeat' first
    | assumption | apply Ordered.ite | apply State.event_ordered | apply State.onCard_ordered | split

theorem State.trimStep_ordered {z : State} (x : Fin 4 × Nat) (s : State) (hk : Ordered z s) :
    Ordered z (State.trimStep x s) := by
  unfold State.trimStep
  dsimp only
  with_reducible repeat' first | assumption | apply State.odSet_ordered | split

theorem State.orderTwin_ordered {z : State} (a : Fin 4) (h : Nat) (zone : BitVec 6) (s : State) (hk : Ordered z s) :
    Ordered z (State.orderTwin a h zone s) := by
  unfold State.orderTwin
  with_reducible repeat' first
    | assumption | apply Ordered.ite | apply State.onHead_ordered | apply State.onPlc_ordered | split

theorem State.publishStep_ordered {z : State} (x : Fin 4 × Nat) (s : State) (hk : Ordered z s) :
    Ordered z (State.publishStep x s) := by
  unfold State.publishStep
  dsimp only
  with_reducible repeat' first
    | assumption | apply Ordered.ite | apply State.event_ordered | apply State.onCard_ordered
    | apply State.onHead_ordered | apply State.orderTwin_ordered | apply State.retireHead_ordered
    | apply State.updateWarnings_ordered | split

theorem State.pctStep_ordered {z : State} (s : State) (hk : Ordered z s) :
    Ordered z (State.pctStep s) := by
  unfold State.pctStep
  dsimp only
  with_reducible repeat' first
    | assumption | intro _ _ _ | apply Ordered.foldl | apply Ordered.ite | apply State.event_ordered
    | apply State.onRc_ordered | split

theorem State.intervalStart_ordered {z : State} (s : State) (hk : Ordered z s) :
    Ordered z (State.intervalStart s) := by
  unfold State.intervalStart
  dsimp only
  with_reducible repeat' first
    | assumption | apply Ordered.ite | apply State.onPwr_ordered | apply State.onRc_ordered

theorem State.unqueue_ordered {z : State} (f : Frame) (s : State) (hk : Ordered z s) :
    Ordered z (State.unqueue f s) := by
  unfold State.unqueue
  with_reducible repeat' first | assumption | apply State.onDict_ordered | split

theorem State.frameDropped_ordered {z : State} (s : State) (hk : Ordered z s) :
    Ordered z (State.frameDropped s) := by
  unfold State.frameDropped
  with_reducible repeat' first | assumption | apply State.onDict_ordered

theorem State.failureSeen_ordered {z : State} (x : Sender) (s : State) (hk : Ordered z s) :
    Ordered z (State.failureSeen x s) := by
  unfold State.failureSeen
  dsimp only
  with_reducible repeat' first
    | assumption | apply Ordered.ite | apply State.event_ordered | apply State.fault_ordered
    | apply State.onDict_ordered | split

theorem State.failureAnswer_ordered {z : State} (r : Resp) (s : State) (hk : Ordered z s) :
    Ordered z (State.failureAnswer r s) := by
  unfold State.failureAnswer
  dsimp only
  with_reducible repeat' first
    | assumption | apply Ordered.ite | apply State.onDict_ordered | apply State.reply_ordered

theorem State.authFailed_ordered {z : State} (f : Frame) (s : State) (hk : Ordered z s) :
    Ordered z (State.authFailed f s) := by
  unfold State.authFailed
  dsimp only
  with_reducible repeat' first
    | assumption | apply Ordered.ite | apply State.count_ordered | apply State.failureAnswer_ordered
    | apply State.failureSeen_ordered | apply State.frameDropped_ordered | split

theorem State.releaseHeld_ordered {z : State} (s : State) (hk : Ordered z s) :
    Ordered z (State.releaseHeld s) := by
  unfold State.releaseHeld
  dsimp only
  with_reducible repeat' first
    | assumption | intro _ _ _ | apply Ordered.foldS | apply State.fault_ordered | apply State.onDict_ordered
    | apply State.reply_ordered | split

theorem State.keepCounter_ordered {z : State} (x : SessionId) (c : BitVec 64) (s : State) (hk : Ordered z s) :
    Ordered z (State.keepCounter x c s) := by
  unfold State.keepCounter
  dsimp only
  with_reducible repeat' first | assumption | intro _ _ _ | apply Ordered.foldl | apply State.onDict_ordered

theorem State.acceptFrame_ordered {z : State} (f : Frame) (s : State) (hk : Ordered z s) :
    Ordered z (State.acceptFrame f s) := by
  unfold State.acceptFrame
  dsimp only
  with_reducible repeat' first
    | assumption | apply Ordered.ite | apply State.keepCounter_ordered | apply State.onDict_ordered
    | apply State.releaseHeld_ordered

theorem State.takeReq_ordered {z : State} (f : Frame) (r : Req) (s : State) (hk : Ordered z s) :
    Ordered z (State.takeReq f r s).1 := by
  unfold State.takeReq
  with_reducible repeat' first
    | assumption | apply Ordered.ite | apply State.acceptFrame_ordered | apply State.count_ordered
    | apply State.failureAnswer_ordered | apply State.fault_ordered | apply State.frameDropped_ordered
    | apply State.reply_ordered | split

theorem State.takeFrame_ordered {z : State} (f : Frame) (s : State) (hk : Ordered z s) :
    Ordered z (State.takeFrame f s).1 := by
  unfold State.takeFrame
  dsimp only
  with_reducible repeat' first
    | assumption | apply Ordered.ite | apply State.authFailed_ordered | apply State.frameDropped_ordered
    | apply State.gcmRun_ordered | apply State.takeReq_ordered | apply State.unqueue_ordered
    | refine Ordered.of_fst (by assumption) ?_ | split

theorem State.served_ordered {z : State} (own : Nat → Bool) (f : Frame) (body : Req → State → State) (s : State) (hk : Ordered z s) (hf : ∀ r t, Ordered z t → Ordered z (body r t)) :
    Ordered z (State.served own f body s) := by
  unfold State.served
  with_reducible repeat' first
    | assumption | apply hf | apply Ordered.ite | apply State.takeFrame_ordered
    | refine Ordered.of_fst (by assumption) ?_ | split

theorem State.readItems_ordered {z : State} (sid : SessionId) (answers : BitVec 4) (l : List ObjKey)
    (done : List RespItem) (acts : List (Fin 4)) (s : State) (hk : Ordered z s) :
    Ordered z (State.readItems sid answers l done acts s).1 := by
  induction l generalizing done acts s with
  | nil => exact hk
  | cons k r ih =>
    unfold State.readItems
    dsimp only
    repeat' first | exact hk | exact ih _ _ _ (State.takeFree_ordered hk) | split

theorem State.probe_ordered {z : State} (items : List WriteItem) (s : State) (hk : Ordered z s) :
    Ordered z (State.probe items s) := by
  unfold State.probe
  with_reducible repeat' first
    | assumption | intro _ _ _ | apply Ordered.foldS | apply State.odSetBytes_ordered | apply State.odSet_ordered
    | split

theorem State.spnParamNow_ordered {z : State} (k v : Nat) (s : State) (hk : Ordered z s) :
    Ordered z (State.spnParamNow k v s) := by
  unfold State.spnParamNow
  with_reducible repeat' first | assumption | apply State.odSet_ordered | apply State.onSpn_ordered

theorem State.setOnline_ordered {z : State} (v : Nat) (s : State) (hk : Ordered z s) :
    Ordered z (State.setOnline v s) := by
  unfold State.setOnline
  with_reducible repeat' first
    | assumption | intro _ _ _ | apply Ordered.foldS | apply Ordered.ite | apply State.decoderOff_ordered
    | apply State.event_ordered | apply State.onPool_ordered

theorem State.slotWrite_ordered {z : State} (key : Option (Option (List Byte))) (s : State) (hk : Ordered z s) :
    Ordered z (State.slotWrite key s) := by
  unfold State.slotWrite
  dsimp only
  with_reducible repeat' first
    | assumption | apply State.slotChange_ordered | apply State.slotGenerate_ordered | apply State.switchOn_ordered
    | split

theorem State.ybClear_ordered {z : State} (role sender : Nat) (s : State) (hk : Ordered z s) :
    Ordered z (State.ybClear role sender s) := by
  unfold State.ybClear
  dsimp only
  with_reducible repeat' first
    | assumption | apply State.count_ordered | apply State.event_ordered | apply State.onYb_ordered
    | apply State.ybAppendNow_ordered

theorem State.writeNum_ordered {z : State} (sid : SessionId) (i n v : Nat) (s : State) (hk : Ordered z s) :
    Ordered z (State.writeNum sid i n v s) := by
  unfold State.writeNum
  dsimp only
  with_reducible repeat' first
    | assumption | intro _ _ | apply Ordered.doIf | apply Ordered.ite | apply State.askErase_ordered
    | apply State.clearLasting_ordered | apply State.eoClearHold_ordered | apply State.event_ordered
    | apply State.hallLoad_ordered | apply State.histClear_ordered | apply State.intake_ordered
    | apply State.modePump_ordered | apply State.odSet_ordered | apply State.onDramc_ordered
    | apply State.onHmSrc_ordered | apply State.onIdent_ordered | apply State.onSpn_ordered
    | apply State.onSys_ordered | apply State.onYb_ordered | apply State.requestChipReset_ordered
    | apply State.requestShutdown_ordered | apply State.setOnline_ordered | apply State.setWall_ordered
    | apply State.slotWrite_ordered | apply State.spnParamNow_ordered | apply State.switchOff_ordered
    | apply State.switchOn_ordered | apply State.ybClear_ordered | split

theorem State.setRoleKey_ordered {z : State} (role : Nat) (key : List Byte) (s : State) (hk : Ordered z s) :
    Ordered z (State.setRoleKey role key s) := by
  unfold State.setRoleKey
  dsimp only
  with_reducible repeat' first
    | assumption | apply Ordered.ite | apply State.event_ordered | apply State.onDict_ordered | split

theorem State.writeOct_ordered {z : State} (i n : Nat) (b : List Byte) (s : State) (hk : Ordered z s) :
    Ordered z (State.writeOct i n b s) := by
  unfold State.writeOct
  with_reducible repeat' first
    | assumption | apply Ordered.ite | apply State.odSetBytes_ordered | apply State.setRoleKey_ordered
    | apply State.slotWrite_ordered | apply State.ybAppend_ordered

theorem State.writeObj_ordered {z : State} (sid : SessionId) (x : ObjInfo) (w : WriteItem) (s : State) (hk : Ordered z s) :
    Ordered z (State.writeObj sid x w s) := by
  unfold State.writeObj
  with_reducible repeat' first
    | assumption | apply Ordered.ite | apply State.onDict_ordered | apply State.writeNum_ordered
    | apply State.writeOct_ordered | split

theorem State.writeItem_ordered {z : State} (sid : SessionId) (answers : BitVec 4) (w : WriteItem) (s : State) (hk : Ordered z s) :
    Ordered z (State.writeItem sid answers w s).1 := by
  unfold State.writeItem
  dsimp only
  with_reducible repeat' first
    | assumption | apply Ordered.ite | apply State.probe_ordered | apply State.writeObj_ordered | split

theorem State.writeItems_ordered {z : State} (sid : SessionId) (answers : BitVec 4) (l : List WriteItem)
    (done : List RespItem) (acts : List (Fin 4)) (s : State) (hk : Ordered z s) :
    Ordered z (State.writeItems sid answers l done acts s).1 := by
  induction l generalizing done acts s with
  | nil => exact hk
  | cons w r ih => exact ih _ _ _ (State.writeItem_ordered _ _ _ _ hk)

theorem State.setStaged_ordered {z : State} (sid : SessionId) (l : List WriteItem) (s : State) (hk : Ordered z s) :
    Ordered z (State.setStaged sid l s) := by
  unfold State.setStaged
  dsimp only
  with_reducible repeat' first | assumption | apply Ordered.ite | apply State.onDict_ordered

theorem State.stageItem_ordered {z : State} (sid : SessionId) (w : WriteItem) (s : State) (hk : Ordered z s) :
    Ordered z (State.stageItem sid w s).1 := by
  unfold State.stageItem
  dsimp only
  with_reducible repeat' first
    | assumption | apply Ordered.ite | apply State.probe_ordered | apply State.setStaged_ordered | split

theorem State.stageItems_ordered {z : State} (sid : SessionId) (l : List WriteItem) (done : List RespItem) (s : State)
    (hk : Ordered z s) : Ordered z (State.stageItems sid l done s).1 := by
  induction l generalizing done s with
  | nil => exact hk
  | cons w r ih => exact ih _ _ (State.stageItem_ordered _ _ _ hk)

theorem State.writeAll_ordered {z : State} (sid : SessionId) (l : List WriteItem) (s : State) (hk : Ordered z s) :
    Ordered z (State.writeAll sid l s) := by
  unfold State.writeAll
  with_reducible repeat' first
    | assumption | intro _ _ _ | apply Ordered.foldS | apply State.writeObj_ordered | split

theorem State.commitAll_ordered {z : State} (f : Frame) (l : List WriteItem) (s : State) (hk : Ordered z s) :
    Ordered z (State.commitAll f l s) := by
  unfold State.commitAll
  dsimp only
  with_reducible repeat' first
    | assumption | intro _ _ _ | apply Ordered.foldS | apply Ordered.ite | apply State.event_ordered
    | apply State.onDict_ordered | apply State.reply_ordered | apply State.setStaged_ordered
    | apply State.slotSaves_ordered | apply State.slotTakes_ordered | apply State.startSave_ordered
    | apply State.wantSave_ordered | apply State.writeAll_ordered

theorem State.nextSave_ordered {z : State} (s : State) (hk : Ordered z s) :
    Ordered z (State.nextSave s) := by
  unfold State.nextSave
  with_reducible repeat' first | assumption | apply State.onDict_ordered | apply State.ownSave_ordered | split

theorem State.saveDone_ordered {z : State} (s : State) (hk : Ordered z s) :
    Ordered z (State.saveDone s) := by
  unfold State.saveDone
  dsimp only
  with_reducible repeat' first
    | assumption | apply Ordered.ite | apply State.event_ordered | apply State.nextSave_ordered
    | apply State.odSet_ordered | apply State.onDict_ordered | apply State.saveAnswer_ordered
    | apply State.setCopy_ordered | apply State.wantSave_ordered | split

theorem State.saveFailed_ordered {z : State} (kind : Nat) (s : State) (hk : Ordered z s) :
    Ordered z (State.saveFailed kind s) := by
  unfold State.saveFailed
  dsimp only
  with_reducible repeat' first
    | assumption | apply State.answer_ordered | apply State.fault_ordered | apply State.nextSave_ordered
    | apply State.onDict_ordered | apply State.saveAnswer_ordered | apply State.setCopy_ordered
    | apply State.wantSave_ordered | split

theorem State.restoreObj_ordered {z : State} (sid : SessionId) (w : WriteItem) (s : State) (hk : Ordered z s) :
    Ordered z (State.restoreObj sid w s) := by
  unfold State.restoreObj
  with_reducible repeat' first
    | assumption | apply Ordered.ite | apply State.onYb_ordered | apply State.writeObj_ordered | split

theorem State.sveFlag_ordered {z : State} (a : Fin 4) (n : Nat) (s : State) (hk : Ordered z s) :
    Ordered z (State.sveFlag a n s) := by
  unfold State.sveFlag
  with_reducible repeat' first | assumption | apply State.onSve_ordered

theorem State.xcStop_ordered {z : State} (e : Fin 4) (s : State) (hk : Ordered z s) :
    Ordered z (State.xcStop e s) := by
  unfold State.xcStop
  dsimp only
  with_reducible repeat' first
    | assumption | apply Ordered.ite | apply State.odSet_ordered | apply State.onSve_ordered
    | apply State.sveFlag_ordered

theorem State.setDataWord_ordered {z : State} (e : Fin 4) (i : Nat) (v : Word) (s : State) (hk : Ordered z s) :
    Ordered z (State.setDataWord e i v s) := by
  unfold State.setDataWord
  with_reducible repeat' first | assumption | apply State.setWord_ordered

theorem State.applyUpdates_ordered {z : State} (a : Fin 4) (s : State) (hk : Ordered z s) :
    Ordered z (State.applyUpdates a s) := by
  unfold State.applyUpdates
  dsimp only
  with_reducible repeat' first
    | assumption | intro _ _ _ | apply Ordered.foldS | apply Ordered.ite | apply State.onSve_ordered
    | apply State.setDataWord_ordered

theorem State.updatesNow_ordered {z : State} (a : Fin 4) (s : State) (hk : Ordered z s) :
    Ordered z (State.updatesNow a s) := by
  unfold State.updatesNow
  with_reducible repeat' first | assumption | apply Ordered.ite | apply State.applyUpdates_ordered

theorem State.engineHalt_ordered {z : State} (a : Fin 4) (kind : Nat) (s : State) (hk : Ordered z s) :
    Ordered z (State.engineHalt a kind s) := by
  unfold State.engineHalt
  with_reducible repeat' first
    | assumption | apply Ordered.ite | apply State.actFault_ordered | apply State.onSve_ordered
    | apply State.sveFlag_ordered | apply State.updatesNow_ordered

theorem State.velocityEstimate_ordered {z : State} (a : Fin 4) (vcmI : F32) (s : State) (hk : Ordered z s) :
    Ordered z (State.velocityEstimate a vcmI s) := by
  unfold State.velocityEstimate
  dsimp only
  with_reducible repeat' first | assumption | apply Ordered.ite | apply State.onIsl_ordered

theorem State.motionSample_ordered {z : State} (a : Fin 4) (s : State) (hk : Ordered z s) :
    Ordered z (State.motionSample a s) := by
  unfold State.motionSample
  dsimp only
  with_reducible repeat' first
    | assumption | intro _ _ _ | apply Ordered.foldl | apply Ordered.ite | apply State.onMsn_ordered
    | apply State.velocityEstimate_ordered

theorem State.tick_ordered {z : State} (s : State) (hk : Ordered z s) :
    Ordered z (State.tick s) := by
  unfold State.tick
  dsimp only
  with_reducible repeat' first
    | assumption | exact fun k => k | intro _ _ _ | intro _ _ | apply Ordered.doIf | apply Ordered.foldS
    | apply Ordered.ite | apply State.admin_ordered | apply State.count_ordered | apply State.driveGates_ordered
    | apply State.motionSample_ordered | apply State.onFab_ordered | apply State.onNvme_ordered
    | apply State.onSys_ordered | apply State.tims_ordered

theorem State.engineDo_ordered {z : State} (e : Fin 4) (w : Word) (f : State → State) (s : State) (hk : Ordered z s) (hf : ∀ t, Ordered z t → Ordered z (f t)) :
    Ordered z (State.engineDo e w f s) := by
  unfold State.engineDo
  dsimp only
  with_reducible repeat' first
    | assumption | apply hf | apply Ordered.ite | apply State.engineHalt_ordered | apply State.onSve_ordered
    | apply State.tick_ordered | apply State.xcStop_ordered

theorem State.engineReg_ordered {z : State} (e : Fin 4) (w : Word) (fd : BitVec 8) (f : Sve → Word) (s : State) (hk : Ordered z s) :
    Ordered z (State.engineReg e w fd f s) := by
  unfold State.engineReg
  with_reducible repeat' first
    | assumption | intro _ _ _ | intro _ _ | apply State.engineDo_ordered | apply State.onSve_ordered

theorem State.suspendXc_ordered {z : State} (a : Fin 4) (slack : Nat) (s : State) (hk : Ordered z s) :
    Ordered z (State.suspendXc a slack s) := by
  unfold State.suspendXc
  with_reducible repeat' first
    | assumption | apply Ordered.ite | apply State.actEvent_ordered | apply State.onSve_ordered
    | apply State.sveFlag_ordered

theorem State.engineRequest_ordered {z : State} (a : Fin 4) (s : State) (hk : Ordered z s) :
    Ordered z (State.engineRequest a s) := by
  unfold State.engineRequest
  with_reducible repeat' first | assumption | apply State.wpCause_ordered

theorem State.countSlack_ordered {z : State} (a : Fin 4) (slack : Nat) (s : State) (hk : Ordered z s) :
    Ordered z (State.countSlack a slack s) := by
  unfold State.countSlack
  dsimp only
  with_reducible repeat' first
    | assumption | apply Ordered.ite | apply State.actEvent_ordered | apply State.engineRequest_ordered
    | apply State.onSve_ordered | apply State.suspendXc_ordered

theorem State.chalkSeen_ordered {z : State} (a : Fin 4) (n : Nat) (s : State) (hk : Ordered z s) :
    Ordered z (State.chalkSeen a n s) := by
  unfold State.chalkSeen
  with_reducible repeat' first | assumption | apply State.onSvb_ordered

theorem State.finitePort_ordered {z : State} (a p : Fin 4) (s : State) (hk : Ordered z s) :
    Ordered z (State.finitePort a p s).1 := by
  unfold State.finitePort
  dsimp only
  with_reducible repeat' first
    | assumption | apply Ordered.ite | apply State.actFault_ordered | apply State.countA_ordered
    | apply State.onSve_ordered | apply State.sveFlag_ordered | split

theorem State.setApplied_ordered {z : State} (a p : Fin 4) (x : F32) (s : State) (hk : Ordered z s) :
    Ordered z (State.setApplied a p x s) := by
  unfold State.setApplied
  dsimp only
  with_reducible repeat' first
    | assumption | intro _ _ | apply Ordered.doIf | apply State.onMsn_ordered | apply State.onSve_ordered

theorem State.applyPort_ordered {z : State} (a : Fin 4) (p : Fin 4) (s : State) (hk : Ordered z s) :
    Ordered z (State.applyPort a p s) := by
  unfold State.applyPort
  dsimp only
  with_reducible repeat' first
    | assumption | apply Ordered.ite | apply State.finitePort_ordered | apply State.setApplied_ordered
    | refine Ordered.of_fst (by assumption) ?_ | split

theorem State.restFrame_ordered {z : State} (a : Fin 4) (s : State) (hk : Ordered z s) :
    Ordered z (State.restFrame a s) := by
  unfold State.restFrame
  dsimp only
  with_reducible repeat' first | assumption | apply Ordered.ite | apply State.vcmSend_ordered

theorem State.feedForward_ordered {z : State} (a : Fin 4) (instant : Nat) (late hold : Bool) (s : State) (hk : Ordered z s) :
    Ordered z (State.feedForward a instant late hold s) := by
  unfold State.feedForward
  dsimp only
  with_reducible repeat' first
    | assumption | intro _ _ _ | apply Ordered.foldS | apply Ordered.ite | apply State.send_ordered | split

theorem State.driveOutputs_ordered {z : State} (a : Fin 4) (instant : Nat) (late hold : Bool) (s : State) (hk : Ordered z s) :
    Ordered z (State.driveOutputs a instant late hold s) := by
  unfold State.driveOutputs
  dsimp only
  with_reducible repeat' first
    | assumption | apply Ordered.ite | apply State.feedForward_ordered | apply State.onMsn_ordered
    | apply State.restFrame_ordered | apply State.vcmSend_ordered

theorem State.applyOutputs_ordered {z : State} (a : Fin 4) (instant : Nat) (late : Bool) (s : State) (hk : Ordered z s) :
    Ordered z (State.applyOutputs a instant late s) := by
  unfold State.applyOutputs
  with_reducible repeat' first
    | assumption | intro _ _ _ | apply Ordered.foldS | apply State.applyPort_ordered
    | apply State.driveOutputs_ordered

theorem State.correlate_ordered {z : State} (a : Fin 4) (s : State) (hk : Ordered z s) :
    Ordered z (State.correlate a s) := by
  unfold State.correlate
  dsimp only
  with_reducible repeat' first | assumption | apply Ordered.ite | apply State.onSvc_ordered

theorem State.chalkRecord_ordered {z : State} (a : Fin 4) (s : State) (hk : Ordered z s) :
    Ordered z (State.chalkRecord a s) := by
  unfold State.chalkRecord
  dsimp only
  with_reducible repeat' first
    | assumption | apply Ordered.ite | apply State.onSvb_ordered | apply State.write_ordered

theorem State.seekEnd_ordered {z : State} (a : Fin 4) (s : State) (hk : Ordered z s) :
    Ordered z (State.seekEnd a s) := by
  unfold State.seekEnd
  dsimp only
  with_reducible repeat' first
    | assumption | apply Ordered.ite | apply State.actEvent_ordered | apply State.countA_ordered
    | apply State.onSvp_ordered

theorem State.periodDone_ordered {z : State} (a : Fin 4) (s : State) (hk : Ordered z s) :
    Ordered z (State.periodDone a s) := by
  unfold State.periodDone
  with_reducible repeat' first
    | assumption | apply State.chalkRecord_ordered | apply State.correlate_ordered | apply State.onSve_ordered
    | apply State.seekEnd_ordered

theorem State.profileStep_ordered {z : State} (a : Fin 4) (first : Bool) (s : State) (hk : Ordered z s) :
    Ordered z (State.profileStep a first s) := by
  unfold State.profileStep
  dsimp only
  with_reducible repeat' first
    | assumption | apply Ordered.ite | apply State.onSvp_ordered | apply State.takeFree_ordered

theorem State.seekBegin_ordered {z : State} (a : Fin 4) (s : State) (hk : Ordered z s) :
    Ordered z (State.seekBegin a s).1 := by
  unfold State.seekBegin
  dsimp only
  with_reducible repeat' first
    | assumption | apply Ordered.ite | apply State.chalkSeen_ordered | apply State.onSvd_ordered
    | apply State.onSvp_ordered | apply State.profileStep_ordered | split

theorem State.correlationEnd_ordered {z : State} (a : Fin 4) (s : State) (hk : Ordered z s) :
    Ordered z (State.correlationEnd a s) := by
  unfold State.correlationEnd
  dsimp only
  with_reducible repeat' first | assumption | apply State.actEvent_ordered | apply State.onSvc_ordered

theorem State.injectEnd_ordered {z : State} (a : Fin 4) (s : State) (hk : Ordered z s) :
    Ordered z (State.injectEnd a s) := by
  unfold State.injectEnd
  dsimp only
  with_reducible repeat' first
    | assumption | apply Ordered.ite | apply State.correlationEnd_ordered | apply State.engineRequest_ordered
    | apply State.onSvi_ordered

theorem State.injectPeriod_ordered {z : State} (a : Fin 4) (s : State) (hk : Ordered z s) :
    Ordered z (State.injectPeriod a s) := by
  unfold State.injectPeriod
  dsimp only
  with_reducible repeat' first
    | assumption | apply Ordered.ite | apply State.engineRequest_ordered | apply State.injectEnd_ordered
    | apply State.onSvi_ordered

theorem State.startPeriod_ordered {z : State} (a : Fin 4) (rcd : List Word) (spent : Nat) (s : State) (hk : Ordered z s) :
    Ordered z (State.startPeriod a rcd spent s) := by
  unfold State.startPeriod
  dsimp only
  with_reducible repeat' first
    | assumption | apply Ordered.ite | apply State.injectPeriod_ordered | apply State.onSve_ordered
    | apply State.profileStep_ordered | apply State.seekBegin_ordered | apply State.updatesNow_ordered
    | refine Ordered.of_fst (by assumption) ?_ | split

theorem State.lateEnd_ordered {z : State} (e : Fin 4) (s : State) (hk : Ordered z s) :
    Ordered z (State.lateEnd e s) := by
  unfold State.lateEnd
  dsimp only
  with_reducible repeat' first
    | assumption | apply Ordered.ite | apply State.actEvent_ordered | apply State.applyOutputs_ordered
    | apply State.chalkSeen_ordered | apply State.countA_ordered | apply State.onSve_ordered
    | apply State.periodDone_ordered | apply State.startPeriod_ordered | apply State.sveFlag_ordered

theorem State.wpTrack_ordered {z : State} (a : Fin 4) (pos : F32) (missing : Bool) (s : State) (hk : Ordered z s) :
    Ordered z (State.wpTrack a pos missing s) := by
  unfold State.wpTrack
  dsimp only
  with_reducible repeat' first
    | assumption | apply Ordered.ite | apply State.onWp_ordered | apply State.wpCause_ordered | split

theorem State.deliver_ordered {z : State} (a : Fin 4) (x : SampleInputs) (s : State) (hk : Ordered z s) :
    Ordered z (State.deliver a x s) := by
  unfold State.deliver
  dsimp only
  with_reducible repeat' first
    | assumption | apply Ordered.ite | apply State.chalkSeen_ordered | apply State.islandRequest_ordered
    | apply State.motionSample_ordered | apply State.onIsl_ordered | apply State.onMsn_ordered
    | apply State.onSvd_ordered | apply State.onSve_ordered | apply State.sawSupply_ordered
    | apply State.wpTrack_ordered

theorem State.seekCancel_ordered {z : State} (a : Fin 4) (s : State) (hk : Ordered z s) :
    Ordered z (State.seekCancel a s) := by
  unfold State.seekCancel
  with_reducible repeat' first | assumption | apply State.onSvp_ordered

theorem State.servoLost_ordered {z : State} (a : Fin 4) (kind : Nat) (report : Bool) (s : State) (hk : Ordered z s) :
    Ordered z (State.servoLost a kind report s) := by
  unfold State.servoLost
  dsimp only
  with_reducible repeat' first
    | assumption | apply Ordered.ite | apply State.actFault_ordered | apply State.chalkSeen_ordered
    | apply State.countA_ordered | apply State.injectEnd_ordered | apply State.islandRequest_ordered
    | apply State.ladderServoLost_ordered | apply State.onIsl_ordered | apply State.onMsn_ordered
    | apply State.onSve_ordered | apply State.seekCancel_ordered | apply State.sveFlag_ordered
    | apply State.velocityFrame_ordered

theorem State.engineStopped_ordered {z : State} (a : Fin 4) (s : State) (hk : Ordered z s) :
    Ordered z (State.engineStopped a s) := by
  unfold State.engineStopped
  with_reducible repeat' first | assumption | apply State.onSve_ordered | apply State.updatesNow_ordered

theorem State.nextPeriod_ordered {z : State} (a : Fin 4) (rcd : List Word) (s : State) (hk : Ordered z s) :
    Ordered z (State.nextPeriod a rcd s) := by
  unfold State.nextPeriod
  with_reducible repeat' first
    | assumption | apply Ordered.ite | apply State.engineStopped_ordered | apply State.onSve_ordered
    | apply State.startPeriod_ordered | apply State.sveFlag_ordered

theorem State.holdOutputs_ordered {z : State} (a : Fin 4) (instant : Nat) (s : State) (hk : Ordered z s) :
    Ordered z (State.holdOutputs a instant s) := by
  unfold State.holdOutputs
  dsimp only
  with_reducible repeat' first
    | assumption | intro _ _ _ | apply Ordered.foldS | apply Ordered.ite | apply State.driveOutputs_ordered
    | apply State.onSve_ordered | apply State.setApplied_ordered

theorem State.holdInstant_ordered {z : State} (a : Fin 4) (instant : Nat) (lost : Bool) (s : State) (hk : Ordered z s) :
    Ordered z (State.holdInstant a instant lost s) := by
  unfold State.holdInstant
  with_reducible repeat' first
    | assumption | apply Ordered.ite | apply State.holdOutputs_ordered | apply State.onSve_ordered
    | apply State.servoLost_ordered

theorem State.computationLost_ordered {z : State} (a : Fin 4) (s : State) (hk : Ordered z s) :
    Ordered z (State.computationLost a s) := by
  unfold State.computationLost
  dsimp only
  with_reducible repeat' first
    | assumption | apply Ordered.ite | apply State.actFault_ordered | apply State.chalkSeen_ordered
    | apply State.countA_ordered | apply State.engineRequest_ordered | apply State.onSvb_ordered
    | apply State.onSve_ordered | apply State.suspendXc_ordered | apply State.sveFlag_ordered

theorem State.engineInstant_ordered {z : State} (a : Fin 4) (instant : Nat) (lost : Bool) (s : State) (hk : Ordered z s) :
    Ordered z (State.engineInstant a instant lost s) := by
  unfold State.engineInstant
  dsimp only
  with_reducible repeat' first
    | assumption | apply Ordered.ite | apply State.applyOutputs_ordered | apply State.computationLost_ordered
    | apply State.engineStopped_ordered | apply State.feedForward_ordered | apply State.holdInstant_ordered
    | apply State.nextPeriod_ordered | apply State.onSve_ordered | apply State.periodDone_ordered
    | apply State.startPeriod_ordered

theorem State.sampleInstant_ordered {z : State} (a : Fin 4) (x : SampleInputs) (s : State) (hk : Ordered z s) :
    Ordered z (State.sampleInstant a x s) := by
  unfold State.sampleInstant
  dsimp only
  with_reducible repeat' first
    | assumption | apply Ordered.ite | apply State.deliver_ordered | apply State.engineInstant_ordered
    | apply State.servoLost_ordered | apply State.velocityFrame_ordered | split

theorem State.holdWrites_ordered {z : State} (s : State) (hk : Ordered z s) :
    Ordered z (State.holdWrites s) := by
  unfold State.holdWrites
  dsimp only
  with_reducible repeat' first
    | assumption | apply Ordered.ite | apply State.event_ordered | apply State.onSpn_ordered
    | apply State.sendNotice_ordered

theorem State.spnCatch_ordered {z : State} (s : State) (hk : Ordered z s) :
    Ordered z (State.spnCatch s) := by
  unfold State.spnCatch
  with_reducible repeat' first | assumption | apply State.holdWrites_ordered | apply State.spnEnter_ordered

theorem State.setElec_ordered {z : State} (angle : Nat) (s : State) (hk : Ordered z s) :
    Ordered z (State.setElec angle s) := by
  unfold State.setElec
  with_reducible repeat' first | assumption | apply State.onSpn_ordered

theorem State.observe_ordered {z : State} (x : PwmInputs) (s : State) (hk : Ordered z s) :
    Ordered z (State.observe x s) := by
  unfold State.observe
  dsimp only
  with_reducible repeat' first
    | assumption | intro _ _ _ | apply Ordered.foldl | apply Ordered.ite | apply State.onSpn_ordered

theorem State.pwmSenses_ordered {z : State} (ticks : Nat) (x : PwmInputs) (s : State) (hk : Ordered z s) :
    Ordered z (State.pwmSenses ticks x s) := by
  unfold State.pwmSenses
  dsimp only
  with_reducible repeat' first
    | assumption | intro _ _ _ | apply Ordered.foldS | apply Ordered.ite | apply State.fault_ordered
    | apply State.observe_ordered | apply State.onSpn_ordered | apply State.spnFlag_ordered

theorem State.turnElec_ordered {z : State} (speed ticks : Nat) (s : State) (hk : Ordered z s) :
    Ordered z (State.turnElec speed ticks s).1 := by
  unfold State.turnElec
  dsimp only
  with_reducible repeat' first | assumption | apply State.onSpn_ordered

theorem State.dtcStep_ordered {z : State} (x : PwmInputs) (s : State) (hk : Ordered z s) :
    Ordered z (State.dtcStep x s) := by
  unfold State.dtcStep
  dsimp only
  with_reducible repeat' first
    | assumption | apply Ordered.ite | apply State.driveGates_ordered | apply State.onSpn_ordered

theorem State.commutate_ordered {z : State} (x : PwmInputs) (angle : Nat) (s : State) (hk : Ordered z s) :
    Ordered z (State.commutate x angle s) := by
  unfold State.commutate
  dsimp only
  with_reducible repeat' first
    | assumption | apply Ordered.ite | apply State.driveGates_ordered | apply State.dtcStep_ordered
    | apply State.onSpn_ordered | apply State.takeFree_ordered

theorem State.startFailed_ordered {z : State} (s : State) (hk : Ordered z s) :
    Ordered z (State.startFailed s) := by
  unfold State.startFailed
  dsimp only
  with_reducible repeat' first
    | assumption | apply Ordered.ite | apply State.fault_ordered | apply State.onSpn_ordered
    | apply State.spnEnter_ordered | apply State.spnFlag_ordered

theorem State.rampPeriod_ordered {z : State} (ticks : Nat) (x : PwmInputs) (s : State) (hk : Ordered z s) :
    Ordered z (State.rampPeriod ticks x s) := by
  unfold State.rampPeriod
  dsimp only
  with_reducible repeat' first
    | assumption | apply Ordered.ite | apply State.commutate_ordered | apply State.onSpn_ordered
    | apply State.startFailed_ordered | apply State.turnElec_ordered | refine Ordered.of_fst (by assumption) ?_
    | split

theorem State.slewHold_ordered {z : State} (on : Bool) (s : State) (hk : Ordered z s) :
    Ordered z (State.slewHold on s) := by
  unfold State.slewHold
  dsimp only
  with_reducible repeat' first
    | assumption | apply Ordered.ite | apply State.event_ordered | apply State.onSpn_ordered

theorem State.rampEnd_ordered {z : State} (s : State) (hk : Ordered z s) :
    Ordered z (State.rampEnd s) := by
  unfold State.rampEnd
  dsimp only
  with_reducible repeat' first
    | assumption | apply Ordered.ite | apply State.event_ordered | apply State.onSpn_ordered
    | apply State.slewHold_ordered

theorem State.referenceStep_ordered {z : State} (ticks : Nat) (s : State) (hk : Ordered z s) :
    Ordered z (State.referenceStep ticks s) := by
  unfold State.referenceStep
  dsimp only
  with_reducible repeat' first
    | assumption | intro _ _ | apply Ordered.doIf | apply Ordered.ite | apply State.notice_ordered
    | apply State.onSpn_ordered | apply State.rampEnd_ordered | apply State.slewHold_ordered

theorem State.speedLoop_ordered {z : State} (ticks : Nat) (s : State) (hk : Ordered z s) :
    Ordered z (State.speedLoop ticks s) := by
  unfold State.speedLoop
  dsimp only
  with_reducible repeat' first | assumption | apply Ordered.ite | apply State.onSpn_ordered

theorem State.ratedReached_ordered {z : State} (s : State) (hk : Ordered z s) :
    Ordered z (State.ratedReached s) := by
  unfold State.ratedReached
  dsimp only
  with_reducible repeat' first
    | assumption | apply Ordered.ite | apply State.event_ordered | apply State.odSet_ordered
    | apply State.onSpn_ordered | apply State.onSys_ordered

theorem State.runPeriod_ordered {z : State} (ticks : Nat) (x : PwmInputs) (s : State) (hk : Ordered z s) :
    Ordered z (State.runPeriod ticks x s) := by
  unfold State.runPeriod
  dsimp only
  with_reducible repeat' first
    | assumption | intro _ _ | apply Ordered.doIf | apply Ordered.ite | apply State.commutate_ordered
    | apply State.onSpn_ordered | apply State.ratedReached_ordered | apply State.referenceStep_ordered
    | apply State.speedLoop_ordered | apply State.spnEnter_ordered

theorem State.flywheelPeriod_ordered {z : State} (ticks : Nat) (x : PwmInputs) (s : State) (hk : Ordered z s) :
    Ordered z (State.flywheelPeriod ticks x s) := by
  unfold State.flywheelPeriod
  dsimp only
  with_reducible repeat' first
    | assumption | apply Ordered.ite | apply State.commutate_ordered | apply State.onSpn_ordered
    | apply State.turnElec_ordered | refine Ordered.of_fst (by assumption) ?_ | split

theorem State.bemfPeriod_ordered {z : State} (ticks : Nat) (x : PwmInputs) (s : State) (hk : Ordered z s) :
    Ordered z (State.bemfPeriod ticks x s) := by
  unfold State.bemfPeriod
  dsimp only
  with_reducible repeat' first
    | assumption | apply Ordered.ite | apply State.commutate_ordered | apply State.onSpn_ordered
    | apply State.setElec_ordered | apply State.turnElec_ordered | refine Ordered.of_fst (by assumption) ?_ | split

theorem State.brakePeriod_ordered {z : State} (x : PwmInputs) (s : State) (hk : Ordered z s) :
    Ordered z (State.brakePeriod x s) := by
  unfold State.brakePeriod
  dsimp only
  with_reducible repeat' first
    | assumption | intro _ _ | apply Ordered.doIf | apply State.driveGates_ordered | apply State.onSpn_ordered

theorem State.pwmPeriod_ordered {z : State} (x : PwmInputs) (s : State) (hk : Ordered z s) :
    Ordered z (State.pwmPeriod x s) := by
  unfold State.pwmPeriod
  dsimp only
  with_reducible repeat' first
    | assumption | apply Ordered.ite | apply State.bemfPeriod_ordered | apply State.brakePeriod_ordered
    | apply State.driveGates_ordered | apply State.flywheelPeriod_ordered | apply State.pwmSenses_ordered
    | apply State.rampPeriod_ordered | apply State.runPeriod_ordered | apply State.spnCatch_ordered
    | apply State.takeFree_ordered | apply State.takeParams_ordered | split

theorem State.enterRun_ordered {z : State} (ref : Nat) (notify : Bool) (s : State) (hk : Ordered z s) :
    Ordered z (State.enterRun ref notify s) := by
  unfold State.enterRun
  dsimp only
  with_reducible repeat' first
    | assumption | apply State.onSpn_ordered | apply State.spnEnter_ordered | apply State.startRamp_ordered

theorem State.lockedRotor_ordered {z : State} (s : State) (hk : Ordered z s) :
    Ordered z (State.lockedRotor s) := by
  unfold State.lockedRotor
  dsimp only
  with_reducible repeat' first
    | assumption | apply Ordered.ite | apply State.fault_ordered | apply State.holdWrites_ordered
    | apply State.onSpn_ordered | apply State.retractAll_ordered | apply State.retryStart_ordered
    | apply State.spnEnter_ordered | apply State.spnFlag_ordered | apply State.startFailed_ordered

theorem State.chopperFault_ordered {z : State} (kind mv : Nat) (s : State) (hk : Ordered z s) :
    Ordered z (State.chopperFault kind mv s) := by
  unfold State.chopperFault
  dsimp only
  with_reducible repeat' first
    | assumption | apply Ordered.ite | apply State.count_ordered | apply State.event_ordered
    | apply State.fault_ordered | apply State.holdWrites_ordered | apply State.onSpn_ordered
    | apply State.spnEnter_ordered | apply State.spnFlag_ordered

theorem State.noticeStarts_ordered {z : State} (a : Fin 4) (s : State) (hk : Ordered z s) :
    Ordered z (State.noticeStarts a s) := by
  unfold State.noticeStarts
  dsimp only
  with_reducible repeat' first
    | assumption | apply Ordered.ite | apply State.notice_ordered | apply State.onIsl_ordered
    | apply State.setSlewHold_ordered

theorem State.noticeEnds_ordered {z : State} (a : Fin 4) (s : State) (hk : Ordered z s) :
    Ordered z (State.noticeEnds a s) := by
  unfold State.noticeEnds
  dsimp only
  with_reducible repeat' first
    | assumption | apply Ordered.ite | apply State.notice_ordered | apply State.onIsl_ordered
    | apply State.setSlewHold_ordered

theorem State.onCore_ordered {z : State} (src : Endpoint) (f : CorePort → CorePort) (s : State) (hk : Ordered z s) :
    Ordered z (State.onCore src f s) := by
  unfold State.onCore
  with_reducible repeat' first | assumption | exact fun k => k | apply State.onFab_ordered

theorem State.coreFault_ordered {z : State} (core : Endpoint) (source kind : Nat) (acc : Access) (byte : Nat) (s : State) (hk : Ordered z s) :
    Ordered z (State.coreFault core source kind acc byte s) := by
  unfold State.coreFault
  with_reducible repeat' first | assumption | apply State.faultAt_ordered

theorem State.newTxn_ordered {z : State} (src : Endpoint) (chan : Option (Fin 16)) (acc : Access) (s : State) (hk : Ordered z s) :
    Ordered z (State.newTxn src chan acc s).2 := by
  unfold State.newTxn
  with_reducible repeat' first | assumption | exact fun k => k | apply State.onFab_ordered

theorem State.giveResult_ordered {z : State} (t : Txn) (kind : Nat) (data : List Byte) (s : State) (hk : Ordered z s) :
    Ordered z (State.giveResult t kind data s) := by
  unfold State.giveResult
  dsimp only
  with_reducible repeat' first
    | assumption | exact fun k => k | apply Ordered.ite | apply State.onCore_ordered | apply State.onFab_ordered
    | split

theorem State.tcmAccess_ordered {z : State} (src : Endpoint) (acc : Access) (at' : Nat) (s : State) (hk : Ordered z s) :
    Ordered z (State.tcmAccess src acc at' s) := by
  unfold State.tcmAccess
  dsimp only
  with_reducible repeat' first
    | assumption | apply State.giveResult_ordered | apply State.newTxn_ordered | apply State.write_ordered
    | refine Ordered.of_snd (by assumption) ?_ | split

theorem State.tcmChecked_ordered {z : State} (core : Endpoint) (acc : Access) (at' : Nat) (ecc : CoreEcc) (s : State) (hk : Ordered z s) :
    Ordered z (State.tcmChecked core acc at' ecc s) := by
  unfold State.tcmChecked
  dsimp only
  with_reducible repeat' first
    | assumption | apply State.coreFault_ordered | apply State.giveResult_ordered | apply State.newTxn_ordered
    | apply State.tcmAccess_ordered | refine Ordered.of_snd (by assumption) ?_ | split

theorem State.fabricFault_ordered {z : State} (source : Nat) (src : Endpoint) (chan : Option (Fin 16)) (addr : Nat) (s : State) (hk : Ordered z s) :
    Ordered z (State.fabricFault source src chan addr s) := by
  unfold State.fabricFault
  dsimp only
  with_reducible repeat' first | assumption | apply Ordered.ite | apply State.faultAt_ordered | split

theorem State.refuse_ordered {z : State} (t : Txn) (k : Nat) (s : State) (hk : Ordered z s) :
    Ordered z (State.refuse t k s) := by
  unfold State.refuse
  with_reducible repeat' first | assumption | apply State.fabricFault_ordered | apply State.giveResult_ordered

theorem State.dramAccess_ordered {z : State} (t : Txn) (s : State) (hk : Ordered z s) :
    Ordered z (State.dramAccess t s).2.2 := by
  unfold State.dramAccess
  dsimp only
  with_reducible repeat' first
    | assumption | apply State.memTake_ordered | apply State.mergeEntry_ordered | apply State.takeAnswer_ordered
    | refine Ordered.of_snd (by assumption) ?_ | split

theorem State.readWordAt_ordered {z : State} (r : Rights) (p : BusWin) (addr : Nat) (s : State) (hk : Ordered z s) :
    Ordered z (State.readWordAt r p addr s).2 := by
  unfold State.readWordAt
  with_reducible repeat' first | assumption | apply State.takeFree_ordered | split

theorem State.readWords_ordered {z : State} (r : Rights) (p : BusWin) (addr n : Nat) (s : State) (hk : Ordered z s) :
    Ordered z (State.readWords r p addr n s).2 := by
  induction n generalizing addr s with
  | zero => exact hk
  | succ n ih => exact ih _ _ (State.readWordAt_ordered _ _ _ _ hk)

theorem State.busRead_ordered {z : State} (r : Rights) (p : BusWin) (addr n : Nat) (s : State) (hk : Ordered z s) :
    Ordered z (State.busRead r p addr n s).2 := by
  unfold State.busRead
  dsimp only
  with_reducible repeat' first
    | assumption | apply Ordered.ite | apply State.readWords_ordered | refine Ordered.of_snd (by assumption) ?_
    | split

theorem onBit_ordered {z : State} (v : BitVec 32) (n : Nat) (e : State → Eff) (s : State) (hk : Ordered z s) (hf : Answers s (e s)) :
    Ordered z (onBit v n e s) := by
  unfold onBit
  with_reducible repeat' first | assumption | apply hf | apply Ordered.ite | apply Ordered.runEff

theorem eachSource_ordered {z : State} (w : Nat) (v : BitVec 32) (f : Nat → State → State) (s : State) (hk : Ordered z s) (hf : ∀ n t, Ordered z t → Ordered z (f n t)) :
    Ordered z (eachSource w v f s) := by
  unfold eachSource
  with_reducible repeat' first | assumption | intro _ _ _ | apply hf | apply Ordered.foldS | apply Ordered.ite

theorem State.writeSrcStat_ordered {z : State} (n : Nat) (v : BitVec 32) (s : State) (hk : Ordered z s) :
    Ordered z (State.writeSrcStat n v s) := by
  unfold State.writeSrcStat
  dsimp only
  with_reducible repeat' first
    | assumption | apply Ordered.ite | apply State.clearLasting_ordered | apply State.onHmSrc_ordered

theorem State.writeEventView_ordered {z : State} (a : Fin 4) (off : Nat) (v : BitVec 32) (s : State) (hk : Ordered z s) :
    Ordered z (State.writeEventView a off v s) := by
  unfold State.writeEventView
  dsimp only
  with_reducible repeat' first | assumption | apply State.onEvc_ordered | split

theorem State.odSetA_ordered {z : State} (key : Nat) (a : Fin 4) (v : Nat) (s : State) (hk : Ordered z s) :
    Ordered z (State.odSetA key a v s) := by
  unfold State.odSetA
  with_reducible repeat' first | assumption | apply State.odSet_ordered

theorem State.writeSveCfg_ordered {z : State} (a : Fin 4) (v : BitVec 32) (s : State) (hk : Ordered z s) :
    Ordered z (State.writeSveCfg a v s) := by
  unfold State.writeSveCfg
  with_reducible repeat' first | assumption | apply State.odSetA_ordered

theorem State.writeDecay_ordered {z : State} (a : Fin 4) (v : BitVec 32) (s : State) (hk : Ordered z s) :
    Ordered z (State.writeDecay a v s) := by
  unfold State.writeDecay
  with_reducible repeat' first | assumption | apply Ordered.ite | apply State.odSetA_ordered

theorem State.writeUpd_ordered {z : State} (a : Fin 4) (k : Nat) (v : BitVec 32) (s : State) (hk : Ordered z s) :
    Ordered z (State.writeUpd a k v s) := by
  unfold State.writeUpd
  with_reducible repeat' first
    | assumption | apply Ordered.ite | apply State.onSve_ordered | apply State.sveFlag_ordered

theorem State.writeRchCtl_ordered {z : State} (a : Fin 4) (v : BitVec 32) (s : State) (hk : Ordered z s) :
    Ordered z (State.writeRchCtl a v s) := by
  unfold State.writeRchCtl
  dsimp only
  with_reducible repeat' first
    | assumption | apply Ordered.ite | apply State.odSetA_ordered | apply State.onRch_ordered
    | apply State.rchFlag_ordered

theorem State.writeRchBank_ordered {z : State} (a : Fin 4) (n : Nat) (v : BitVec 32) (s : State) (hk : Ordered z s) :
    Ordered z (State.writeRchBank a n v s) := by
  unfold State.writeRchBank
  with_reducible repeat' first | assumption | apply State.onRch_ordered

theorem State.wpConflict_ordered {z : State} (a : Fin 4) (s : State) (hk : Ordered z s) :
    Ordered z (State.wpConflict a s) := by
  unfold State.wpConflict
  with_reducible repeat' first | assumption | apply State.onWp_ordered

theorem State.writeWpResident_ordered {z : State} (a : Fin 4) (off : Nat) (v : BitVec 32) (s : State) (hk : Ordered z s) :
    Ordered z (State.writeWpResident a off v s) := by
  unfold State.writeWpResident
  dsimp only
  with_reducible repeat' first | assumption | apply State.odSetA_ordered | split

theorem State.writeMsn_ordered {z : State} (a : Fin 4) (off : Nat) (v : BitVec 32) (s : State) (hk : Ordered z s) :
    Ordered z (State.writeMsn a off v s) := by
  unfold State.writeMsn
  with_reducible repeat' first | assumption | apply State.odSetA_ordered | apply State.onMsn_ordered | split

theorem State.writeScrubRange_ordered {z : State} (off : Nat) (v : BitVec 32) (s : State) (hk : Ordered z s) :
    Ordered z (State.writeScrubRange off v s) := by
  unfold State.writeScrubRange
  with_reducible repeat' first | assumption | apply Ordered.ite | apply State.onScr_ordered | split

theorem State.sramAmo_ordered {z : State} (acc : Access) (s : State) (hk : Ordered z s) :
    Ordered z (State.sramAmo acc s).2 := by
  unfold State.sramAmo
  dsimp only
  with_reducible repeat' first | assumption | apply State.write_ordered

theorem State.issue_ordered {z : State} (src : Endpoint) (chan : Option (Fin 16)) (acc : Access) (s : State) (hk : Ordered z s) :
    Ordered z (State.issue src chan acc s) := by
  unfold State.issue
  dsimp only
  with_reducible repeat' first
    | assumption | exact fun k => k | apply Ordered.ite | apply State.newTxn_ordered | apply State.onFab_ordered
    | apply State.refuse_ordered | refine Ordered.of_snd (by assumption) ?_ | split

theorem State.dropTxn_ordered {z : State} (id : Nat) (s : State) (hk : Ordered z s) :
    Ordered z (State.dropTxn id s) := by
  unfold State.dropTxn
  with_reducible repeat' first | assumption | exact fun k => k | apply State.onFab_ordered

theorem State.replicaMeets_ordered {z : State} (i : Nat) (d : Int) (s : State) (hk : Ordered z s) :
    Ordered z (State.replicaMeets i d s) := by
  unfold State.replicaMeets
  with_reducible repeat' first
    | assumption | exact fun k => k | apply Ordered.ite | apply State.fault_ordered | apply State.onFab_ordered

theorem State.dmaGet_ordered {z : State} (n : Fin 16) (addr size : Nat) (s : State) (hk : Ordered z s) :
    Ordered z (State.dmaGet n addr size s).2 := by
  have hsnd : ∀ (x : Except Nat (List Byte)) (t : State), (x, t).2 = t := fun _ _ => rfl
  rw [State.dmaGet]
  generalize s.refusal epDma (some n) (dmaAcc .read addr size []) = k
  generalize s.winOf addr = w
  generalize granOf addr = g
  cases k with
  | some k =>
    dsimp -proj only
    rw [hsnd]
    exact State.fabricFault_ordered _ _ _ _ _ hk
  | none =>
    cases w with
    | none => exact hk
    | some p =>
      have hr := State.granRead_ordered epDma g none s hk
      cases p with
      | dram =>
        generalize State.granRead epDma g none s = r at hr ⊢
        obtain ⟨b, t⟩ := r
        cases b <;> exact hr
      | _ =>
        dsimp -proj only
        rw [hsnd]
        exact State.busRead_ordered _ _ _ _ _ hk


theorem State.dmaTail_ordered {z : State} (d : DmaDesc) (off : Nat) (s : State) (hk : Ordered z s) :
    Ordered z (State.dmaTail d off s) := by
  unfold State.dmaTail
  dsimp only
  with_reducible repeat' first
    | assumption | intro _ _ _ | apply Ordered.foldS | apply Ordered.ite | apply State.takeFree_ordered
    | apply State.write_ordered

theorem State.dmaIrq_ordered {z : State} (n : Fin 16) (control : Word) (s : State) (hk : Ordered z s) :
    Ordered z (State.dmaIrq n control s) := by
  unfold State.dmaIrq
  with_reducible repeat' first | assumption | apply Ordered.ite | apply State.event_ordered

theorem State.dmaRelease_ordered {z : State} (n : Fin 16) (s : State) (hk : Ordered z s) :
    Ordered z (State.dmaRelease n s) := by
  unfold State.dmaRelease
  with_reducible repeat' first | assumption | apply Ordered.ite | apply State.onDma_ordered

theorem State.dmaRest_ordered {z : State} (n : Fin 16) (st : DmaState) (s : State) (hk : Ordered z s) :
    Ordered z (State.dmaRest n st s) := by
  unfold State.dmaRest
  with_reducible repeat' first | assumption | apply State.dmaRelease_ordered | apply State.onDmaCh_ordered

theorem State.dmaStopped_ordered {z : State} (n : Fin 16) (reason : Nat) (s : State) (hk : Ordered z s) :
    Ordered z (State.dmaStopped n reason s) := by
  unfold State.dmaStopped
  with_reducible repeat' first | assumption | apply State.event_ordered

theorem State.dmaFails_ordered {z : State} (n : Fin 16) (s : State) (hk : Ordered z s) :
    Ordered z (State.dmaFails n s) := by
  unfold State.dmaFails
  with_reducible repeat' first
    | assumption | apply State.count_ordered | apply State.dmaRest_ordered | apply State.dmaStopped_ordered
    | apply State.onDmaCh_ordered

theorem State.dmaSettled_ordered {z : State} (s : State) (hk : Ordered z s) :
    Ordered z (State.dmaSettled s) := by
  unfold State.dmaSettled
  with_reducible repeat' first | assumption | apply State.dmaResetEnd_ordered | apply State.startOffs_ordered

theorem State.dmaOverlap_ordered {z : State} (d : DmaDesc) (s : State) (hk : Ordered z s) :
    Ordered z (State.dmaOverlap d s) := by
  unfold State.dmaOverlap
  with_reducible repeat' first
    | assumption | apply Ordered.ite | apply State.takeFree_ordered | apply State.write_ordered

theorem State.dmaNext_ordered {z : State} (n : Fin 16) (d : DmaDesc) (s : State) (hk : Ordered z s) :
    Ordered z (State.dmaNext n d s) := by
  unfold State.dmaNext
  dsimp only
  with_reducible repeat' first
    | assumption | apply Ordered.ite | apply State.dmaRelease_ordered | apply State.onDmaCh_ordered

theorem State.dmaAfter_ordered {z : State} (n : Fin 16) (d : DmaDesc) (aborting : Bool) (s : State) (hk : Ordered z s) :
    Ordered z (State.dmaAfter n d aborting s) := by
  unfold State.dmaAfter
  with_reducible repeat' first
    | assumption | apply Ordered.ite | apply State.dmaNext_ordered | apply State.dmaRest_ordered
    | apply State.dmaStopped_ordered

theorem State.dmaFetchFails_ordered {z : State} (n : Fin 16) (k : Nat) (s : State) (hk : Ordered z s) :
    Ordered z (State.dmaFetchFails n k s) := by
  unfold State.dmaFetchFails
  with_reducible repeat' first
    | assumption | apply State.dmaFails_ordered | apply State.fault_ordered | apply State.onDmaCh_ordered

theorem State.dmaPark_ordered {z : State} (n : Fin 16) (s : State) (hk : Ordered z s) :
    Ordered z (State.dmaPark n s) := by
  unfold State.dmaPark
  dsimp only
  with_reducible repeat' first
    | assumption | apply Ordered.ite | apply State.dmaRelease_ordered | apply State.dmaStopped_ordered
    | apply State.onDmaCh_ordered

theorem State.dmaArm_ordered {z : State} (n : Fin 16) (d : DmaDesc) (s : State) (hk : Ordered z s) :
    Ordered z (State.dmaArm n d s) := by
  unfold State.dmaArm
  dsimp only
  with_reducible repeat' first
    | assumption | apply Ordered.ite | apply State.dmaReady_ordered | apply State.dmaRelease_ordered
    | apply State.onDmaCh_ordered

theorem State.ciphReloaded_ordered {z : State} (s : State) (hk : Ordered z s) :
    Ordered z (State.ciphReloaded s) := by
  unfold State.ciphReloaded
  with_reducible repeat' first
    | assumption | apply Ordered.ite | apply State.event_ordered | apply State.onCiph_ordered

theorem State.idle_ordered {z : State} (s : State) (hk : Ordered z s) :
    Ordered z (State.idle s) := by
  unfold State.idle
  with_reducible repeat' first
    | assumption | apply State.ciphReloaded_ordered | apply State.pumpReplays_ordered | apply State.tick_ordered

end Sys2Proof.Machine

/-! SUPPORT. Each command completes, and keeps the queue, and memory and the numbers of commands in order. -/

namespace Sys2Proof.Machine

open Sys2Proof

set_option Elab.async false

theorem execWriteOperationAccept_ordered (a : Fin 4) (op : WriteOp) (s : State) :
    Answers s (execWriteOperationAccept a op s) := by
  unfold execWriteOperationAccept
  with_reducible repeat' first
    | assumption | exact Ordered.refl _ | apply Answers.next | apply Answers.ite | apply Ordered.ite
    | apply State.acceptWrite_ordered

theorem execNoBankTimeout_ordered (a : Fin 4) (s : State) :
    Answers s (execNoBankTimeout a s) := by
  unfold execNoBankTimeout
  dsimp only
  with_reducible repeat' first
    | assumption | exact Ordered.refl _ | apply Answers.next | apply Answers.ite | apply Ordered.ite
    | apply State.wpLateBank_ordered | apply State.wpNoBank_ordered | split

theorem execHeatLeadStart_ordered (a : Fin 4) (s : State) :
    Answers s (execHeatLeadStart a s) := by
  unfold execHeatLeadStart
  dsimp only
  with_reducible repeat' first
    | assumption | exact Ordered.refl _ | apply Answers.next | apply Answers.ite | apply Ordered.ite
    | apply State.onWp_ordered | apply State.pscSetting_ordered | apply State.wpLateBank_ordered | split

theorem execWriteGateOpen_ordered (a : Fin 4) (room : Nat) (staged cont : Bool) (s : State) :
    Answers s (execWriteGateOpen a room staged cont s) := by
  unfold execWriteGateOpen
  with_reducible repeat' first
    | assumption | exact Ordered.refl _ | apply Answers.next | apply Answers.ite | apply Ordered.ite
    | apply State.gateContinue_ordered | apply State.gateSector_ordered

theorem execWriteServoGate_ordered (a : Fin 4) (mid : Bool) (s : State) :
    Answers s (execWriteServoGate a mid s) := by
  unfold execWriteServoGate
  with_reducible repeat' first
    | assumption | exact Ordered.refl _ | apply Answers.next | apply Answers.ite | apply Ordered.ite
    | apply State.wpGateOff_ordered | apply State.wpSectorEnd_ordered

theorem execWriteOperationComplete_ordered (a : Fin 4) (s : State) :
    Answers s (execWriteOperationComplete a s) := by
  unfold execWriteOperationComplete
  dsimp only
  with_reducible repeat' first
    | assumption | exact Ordered.refl _ | apply Answers.next | apply Answers.ite | apply Ordered.ite
    | apply State.pscSetting_ordered | apply State.wpEnd_ordered | apply State.wpSectorEnd_ordered | split

theorem execWriteModeIdle_ordered (a : Fin 4) (s : State) :
    Answers s (execWriteModeIdle a s) := by
  unfold execWriteModeIdle
  with_reducible repeat' first
    | assumption | exact Ordered.refl _ | apply Answers.next | apply Answers.ite | apply Ordered.ite
    | apply State.pscSetting_ordered

theorem execWriteHold_ordered (a : Fin 4) (set : Bool) (s : State) :
    Answers s (execWriteHold a set s) := by
  unfold execWriteHold
  with_reducible repeat' first
    | assumption | exact Ordered.refl _ | apply Answers.next | apply Answers.ite | apply State.onWp_ordered
    | apply State.wpCause_ordered

theorem execSupplyWindowCross_ordered (a : Fin 4) (v12 v5 : Nat) (s : State) :
    Answers s (execSupplyWindowCross a v12 v5 s) := by
  unfold execSupplyWindowCross
  dsimp only
  with_reducible repeat' first
    | assumption | exact Ordered.refl _ | apply Answers.next | apply Answers.ite | apply Ordered.ite
    | apply State.actFault_ordered | apply State.onWp_ordered | apply State.sawSupply_ordered
    | apply State.wpCause_ordered

theorem execSupplyWindowRelease_ordered (a : Fin 4) (s : State) :
    Answers s (execSupplyWindowRelease a s) := by
  unfold execSupplyWindowRelease
  with_reducible repeat' first
    | assumption | exact Ordered.refl _ | apply Answers.next | apply Answers.ite | apply Ordered.ite
    | apply State.wpCause_ordered

theorem execResumePass_ordered (x : PassInputs) (s : State) :
    Answers s (execResumePass x s) := by
  unfold execResumePass
  dsimp only
  with_reducible repeat' first
    | assumption | exact Ordered.refl _ | apply Answers.next | apply Answers.ite | apply Ordered.ite
    | apply State.actFault_ordered | apply State.wpBegin_ordered | apply State.wpCause_ordered
    | apply State.wpEnd_ordered | apply State.wpMoved_ordered | split

theorem execResumeWindowExpiry_ordered (a : Fin 4) (s : State) :
    Answers s (execResumeWindowExpiry a s) := by
  unfold execResumeWindowExpiry
  with_reducible repeat' first
    | assumption | exact Ordered.refl _ | apply Answers.next | apply Answers.ite | apply Ordered.ite
    | apply State.wpEnd_ordered | split

theorem execPscNop_ordered (a : Fin 4) (s : State) :
    Answers s (execPscNop a s) := by
  unfold execPscNop
  with_reducible repeat' first
    | assumption | exact Ordered.refl _ | apply Answers.next | apply Answers.ite | apply State.pscSend_ordered

theorem execPscHeadSel_ordered (a : Fin 4) (head : BitVec 5) (s : State) :
    Answers s (execPscHeadSel a head s) := by
  unfold execPscHeadSel
  with_reducible repeat' first
    | assumption | exact Ordered.refl _ | apply Answers.next | apply Answers.ite | apply State.pscSend_ordered

theorem execPscMode_ordered (a : Fin 4) (mode : BitVec 2) (s : State) :
    Answers s (execPscMode a mode s) := by
  unfold execPscMode
  with_reducible repeat' first
    | assumption | exact Ordered.refl _ | apply Answers.next | apply Answers.ite | apply State.pscSend_ordered

theorem execPscWgate_ordered (a : Fin 4) (gate : Bool) (s : State) :
    Answers s (execPscWgate a gate s) := by
  unfold execPscWgate
  with_reducible repeat' first
    | assumption | exact Ordered.refl _ | apply Answers.next | apply Answers.ite | apply Ordered.ite
    | apply State.pscSend_ordered

theorem execPscReadBias_ordered (a : Fin 4) (rb ra : BitVec 8) (s : State) :
    Answers s (execPscReadBias a rb ra s) := by
  unfold execPscReadBias
  with_reducible repeat' first
    | assumption | exact Ordered.refl _ | apply Answers.next | apply Answers.ite | apply State.pscSend_ordered

theorem execPscWriteCur_ordered (a : Fin 4) (overshoot steady : BitVec 8) (s : State) :
    Answers s (execPscWriteCur a overshoot steady s) := by
  unfold execPscWriteCur
  with_reducible repeat' first
    | assumption | exact Ordered.refl _ | apply Answers.next | apply Answers.ite | apply State.pscSend_ordered

theorem execPscOsDur_ordered (a : Fin 4) (v : BitVec 8) (s : State) :
    Answers s (execPscOsDur a v s) := by
  unfold execPscOsDur
  with_reducible repeat' first
    | assumption | exact Ordered.refl _ | apply Answers.next | apply Answers.ite | apply State.pscSend_ordered

theorem execPscLaserBias_ordered (a : Fin 4) (v : BitVec 12) (s : State) :
    Answers s (execPscLaserBias a v s) := by
  unfold execPscLaserBias
  with_reducible repeat' first
    | assumption | exact Ordered.refl _ | apply Answers.next | apply Answers.ite | apply State.pscSend_ordered

theorem execPscLaserOp_ordered (a : Fin 4) (v : BitVec 12) (s : State) :
    Answers s (execPscLaserOp a v s) := by
  unfold execPscLaserOp
  with_reducible repeat' first
    | assumption | exact Ordered.refl _ | apply Answers.next | apply Answers.ite | apply State.pscSend_ordered

theorem execPscHeatRd_ordered (a : Fin 4) (v : BitVec 10) (s : State) :
    Answers s (execPscHeatRd a v s) := by
  unfold execPscHeatRd
  with_reducible repeat' first
    | assumption | exact Ordered.refl _ | apply Answers.next | apply Answers.ite | apply State.pscSend_ordered

theorem execPscHeatWr_ordered (a : Fin 4) (v : BitVec 10) (s : State) :
    Answers s (execPscHeatWr a v s) := by
  unfold execPscHeatWr
  with_reducible repeat' first
    | assumption | exact Ordered.refl _ | apply Answers.next | apply Answers.ite | apply State.pscSend_ordered

theorem execPscSenseReq_ordered (a : Fin 4) (sensor : BitVec 4) (s : State) :
    Answers s (execPscSenseReq a sensor s) := by
  unfold execPscSenseReq
  with_reducible repeat' first
    | assumption | exact Ordered.refl _ | apply Answers.next | apply Answers.ite | apply State.pscSend_ordered

theorem execPscFaultClr_ordered (a : Fin 4) (bits held : BitVec 16) (s : State) :
    Answers s (execPscFaultClr a bits held s) := by
  unfold execPscFaultClr
  with_reducible repeat' first
    | assumption | exact Ordered.refl _ | apply Answers.next | apply Answers.ite | apply State.pscSend_ordered

theorem execPscIdReq_ordered (a : Fin 4) (s : State) :
    Answers s (execPscIdReq a s) := by
  unfold execPscIdReq
  with_reducible repeat' first
    | assumption | exact Ordered.refl _ | apply Answers.next | apply Answers.ite | apply State.pscSend_ordered

theorem execPscSafe_ordered (a : Fin 4) (bits : BitVec 3) (s : State) :
    Answers s (execPscSafe a bits s) := by
  unfold execPscSafe
  with_reducible repeat' first
    | assumption | exact Ordered.refl _ | apply Answers.next | apply Answers.ite | apply State.pscSend_ordered

theorem execPscAckFrame_ordered (a : Fin 4) (w : BitVec 32) (s : State) :
    Answers s (execPscAckFrame a w s) := by
  unfold execPscAckFrame
  with_reducible repeat' first
    | assumption | intro _ _ _ _ | intro _ _ _ | intro _ _ | exact Ordered.refl _ | apply Answers.next
    | apply Answers.ite | apply Ordered.ite | apply State.pscAck_ordered | apply State.pscTake_ordered

theorem execPscSenseFrame_ordered (a : Fin 4) (w : BitVec 32) (s : State) :
    Answers s (execPscSenseFrame a w s) := by
  unfold execPscSenseFrame
  with_reducible repeat' first
    | assumption | intro _ _ _ _ | intro _ _ _ | intro _ _ | exact Ordered.refl _ | apply Answers.next
    | apply Answers.ite | apply Ordered.ite | apply State.onPsc_ordered | apply State.pscTake_ordered

theorem execPscFaultFrame_ordered (a : Fin 4) (w : BitVec 32) (s : State) :
    Answers s (execPscFaultFrame a w s) := by
  unfold execPscFaultFrame
  with_reducible repeat' first
    | assumption | intro _ _ _ _ | intro _ _ _ | intro _ _ | exact Ordered.refl _ | apply Answers.next
    | apply Answers.ite | apply Ordered.ite | apply State.pscFaultBits_ordered | apply State.pscTake_ordered

theorem execPscIdFrame_ordered (a : Fin 4) (w : BitVec 32) (s : State) :
    Answers s (execPscIdFrame a w s) := by
  unfold execPscIdFrame
  with_reducible repeat' first
    | assumption | intro _ _ _ _ | intro _ _ _ | intro _ _ | exact Ordered.refl _ | apply Answers.next
    | apply Answers.ite | apply Ordered.ite | apply State.pscId_ordered | apply State.pscTake_ordered

theorem execPscAckTimeout_ordered (a : Fin 4) (s : State) :
    Answers s (execPscAckTimeout a s) := by
  unfold execPscAckTimeout
  with_reducible repeat' first
    | assumption | exact Ordered.refl _ | apply Answers.next | apply Answers.ite | apply Ordered.ite
    | apply State.onPsc_ordered | apply State.preampTakes_ordered | apply State.pscDown_ordered | split

theorem execLinkDownProbe_ordered (a : Fin 4) (s : State) :
    Answers s (execLinkDownProbe a s) := by
  unfold execLinkDownProbe
  dsimp only
  with_reducible repeat' first
    | assumption | exact Ordered.refl _ | apply Answers.next | apply Answers.ite | apply Ordered.ite
    | apply State.onPsc_ordered | apply State.pscEmit_ordered

theorem execPreampLinkTimeout_ordered (a : Fin 4) (s : State) :
    Answers s (execPreampLinkTimeout a s) := by
  unfold execPreampLinkTimeout
  with_reducible repeat' first
    | assumption | exact Ordered.refl _ | apply Answers.next | apply Answers.ite | apply Ordered.ite
    | apply State.onPre_ordered

theorem execPflAssert_ordered (a : Fin 4) (bits : BitVec 16) (named : Bool) (s : State) :
    Answers s (execPflAssert a bits named s) := by
  unfold execPflAssert
  dsimp only
  with_reducible repeat' first
    | assumption | intro _ _ | exact Ordered.refl _ | apply Answers.next | apply Answers.ite | apply Ordered.doIf
    | apply Ordered.ite | apply State.onPre_ordered | apply State.pflSeen_ordered | apply State.pscFaultBits_ordered

theorem execPflRelease_ordered (a : Fin 4) (s : State) :
    Answers s (execPflRelease a s) := by
  unfold execPflRelease
  with_reducible repeat' first
    | assumption | exact Ordered.refl _ | apply Answers.next | apply Answers.ite | apply Ordered.ite
    | apply State.onPsc_ordered | apply State.wpCause_ordered

theorem execPflFrameTimeout_ordered (a : Fin 4) (s : State) :
    Answers s (execPflFrameTimeout a s) := by
  unfold execPflFrameTimeout
  dsimp only
  with_reducible repeat' first
    | assumption | exact Ordered.refl _ | apply Answers.next | apply Answers.ite | apply Ordered.ite
    | apply State.actFault_ordered | apply State.countA_ordered | apply State.wpCause_ordered

theorem execSenseTimeout_ordered (a : Fin 4) (s : State) :
    Answers s (execSenseTimeout a s) := by
  unfold execSenseTimeout
  with_reducible repeat' first
    | assumption | exact Ordered.refl _ | apply Answers.next | apply Answers.ite | apply Ordered.ite
    | apply State.onPsc_ordered

theorem execPscCtlIdReq_ordered (a : Fin 4) (s : State) :
    Answers s (execPscCtlIdReq a s) := by
  unfold execPscCtlIdReq
  with_reducible repeat' first
    | assumption | exact Ordered.refl _ | apply Answers.next | apply Answers.ite | apply State.onPsc_ordered
    | apply State.pscQueue_ordered

theorem execPscCtlFclr_ordered (a : Fin 4) (s : State) :
    Answers s (execPscCtlFclr a s) := by
  unfold execPscCtlFclr
  with_reducible repeat' first
    | assumption | exact Ordered.refl _ | apply Answers.next | apply Answers.ite | apply State.fault_ordered
    | apply State.onPsc_ordered | apply State.pscQueue_ordered

theorem execPscSenseRequest_ordered (a : Fin 4) (sensor : BitVec 4) (s : State) :
    Answers s (execPscSenseRequest a sensor s) := by
  unfold execPscSenseRequest
  with_reducible repeat' first
    | assumption | exact Ordered.refl _ | apply Answers.next | apply Answers.ite | apply Ordered.ite
    | apply State.onPsc_ordered | apply State.pscQueue_ordered

theorem execPscRawSend_ordered (a : Fin 4) (code : BitVec 6) (data : BitVec 16) (s : State) :
    Answers s (execPscRawSend a code data s) := by
  unfold execPscRawSend
  with_reducible repeat' first
    | assumption | exact Ordered.refl _ | apply Answers.next | apply Answers.ite | apply Ordered.ite
    | apply State.onPsc_ordered | apply State.onWp_ordered

theorem execDetentionExpiry_ordered (a : Fin 4) (head : BitVec 5) (track : BitVec 24) (sector : Nat) (s : State) :
    Answers s (execDetentionExpiry a head track sector s) := by
  unfold execDetentionExpiry
  with_reducible repeat' first
    | assumption | exact Ordered.refl _ | apply Answers.next | apply Answers.ite
    | apply State.detentionExpire_ordered | split

theorem execPinWaitTimeout_ordered (ladder : Nat) (s : State) :
    Answers s (execPinWaitTimeout ladder s) := by
  unfold execPinWaitTimeout
  with_reducible repeat' first
    | assumption | exact Ordered.refl _ | apply Answers.next | apply Answers.ite | apply Ordered.ite
    | apply State.count_ordered | apply State.ladderTry3_ordered | split

theorem execLadderTimeLimit_ordered (ladder : Nat) (s : State) :
    Answers s (execLadderTimeLimit ladder s) := by
  unfold execLadderTimeLimit
  dsimp only
  with_reducible repeat' first
    | assumption | exact Ordered.refl _ | apply Answers.next | apply Answers.ite | apply Ordered.ite
    | apply State.ladderTry4_ordered | apply State.onLadder_ordered | split

theorem execRowRebuildComplete_ordered (ladder : Nat) (x : RebuildInputs) (s : State) :
    Answers s (execRowRebuildComplete ladder x s) := by
  unfold execRowRebuildComplete
  dsimp only
  with_reducible repeat' first
    | assumption | exact Ordered.refl _ | apply Answers.next | apply Answers.ite | apply Ordered.ite
    | apply State.count_ordered | apply State.event_ordered | apply State.fault_ordered
    | apply State.ladderTry4_ordered | apply State.ladderWon_ordered | apply State.write_ordered | split

theorem execReplayRequest_ordered (a : Fin 4) (r : ReplayReq) (s : State) :
    Answers s (execReplayRequest a r s) := by
  unfold execReplayRequest
  with_reducible repeat' first
    | assumption | exact Ordered.refl _ | apply Answers.next | apply Answers.ite | apply State.pumpReplays_ordered
    | apply State.replayAsk_ordered

theorem execSlotPin_ordered (a : Fin 4) (slot : Fin 8) (resident : Bool) (s : State) :
    Answers s (execSlotPin a slot resident s) := by
  unfold execSlotPin
  with_reducible repeat' first
    | assumption | exact Ordered.refl _ | apply Answers.next | apply Answers.ite | apply State.pinSlot_ordered

theorem execSlotUnpin_ordered (a : Fin 4) (slot : Fin 8) (resident : Bool) (s : State) :
    Answers s (execSlotUnpin a slot resident s) := by
  unfold execSlotUnpin
  with_reducible repeat' first
    | assumption | exact Ordered.refl _ | apply Answers.next | apply Answers.ite | apply State.ladderPins_ordered
    | apply State.pumpReplays_ordered | apply State.unpinSlot_ordered

theorem execReadOperationPost_ordered (a : Fin 4) (op : ReadOp) (s : State) :
    Answers s (execReadOperationPost a op s) := by
  unfold execReadOperationPost
  with_reducible repeat' first
    | assumption | exact Ordered.refl _ | apply Answers.next | apply Answers.ite | apply Ordered.ite
    | apply State.postRead_ordered

theorem execReadGateOpen_ordered (a : Fin 4) (x : GateInputs) (s : State) :
    Answers s (execReadGateOpen a x s) := by
  unfold execReadGateOpen
  dsimp only
  with_reducible repeat' first
    | assumption | intro _ _ | exact Ordered.refl _ | apply Answers.next | apply Answers.ite | apply Ordered.doIf
    | apply Ordered.ite | apply State.actFault_ordered | apply State.captureStart_ordered
    | apply State.countA_ordered | apply State.freeSlot_ordered | apply State.ledOn_ordered
    | apply State.nextSector_ordered | apply State.pumpReplays_ordered | apply State.rchFlag_ordered
    | apply State.readEnd_ordered | split

theorem execTimingRecoveryLockLost_ordered (a : Fin 4) (s : State) :
    Answers s (execTimingRecoveryLockLost a s) := by
  unfold execTimingRecoveryLockLost
  dsimp only
  with_reducible repeat' first
    | assumption | exact Ordered.refl _ | apply Answers.next | apply Answers.ite | apply Ordered.ite
    | apply State.timingLost_ordered

theorem execDefectRegion_ordered (a : Fin 4) (x : Region) (s : State) :
    Answers s (execDefectRegion a x s) := by
  unfold execDefectRegion
  with_reducible repeat' first
    | assumption | exact Ordered.refl _ | apply Answers.next | apply Answers.ite | apply Ordered.ite
    | apply State.regionSeen_ordered | split

theorem execReadGateClose_ordered (a : Fin 4) (truncated : Bool) (s : State) :
    Answers s (execReadGateClose a truncated s) := by
  unfold execReadGateClose
  with_reducible repeat' first
    | assumption | exact Ordered.refl _ | apply Answers.next | apply Answers.ite | apply Ordered.ite
    | apply State.gateClose_ordered | split

theorem execRefillStart_ordered (a : Fin 4) (s : State) :
    Answers s (execRefillStart a s) := by
  unfold execRefillStart
  dsimp only
  with_reducible repeat' first
    | assumption | exact Ordered.refl _ | apply Answers.next | apply Answers.ite | apply Ordered.ite
    | apply State.count_ordered | apply State.onRch_ordered | apply State.pumpReplays_ordered

theorem execStagingComplete_ordered (a : Fin 4) (replay : Bool) (s : State) :
    Answers s (execStagingComplete a replay s) := by
  unfold execStagingComplete
  dsimp only
  with_reducible repeat' first
    | assumption | exact Ordered.refl _ | apply Answers.next | apply Answers.ite | apply Ordered.ite
    | apply State.actFault_ordered | apply State.onRch_ordered | apply State.pumpReplays_ordered
    | apply State.rchFlag_ordered | apply State.readEnd_ordered | split

theorem execDecoderGrant_ordered (s : State) :
    Answers s (execDecoderGrant s) := by
  unfold execDecoderGrant
  dsimp only
  with_reducible repeat' first
    | assumption | exact Ordered.refl _ | apply Answers.next | apply Answers.ite | apply Ordered.ite
    | apply State.grantReplay_ordered | apply State.grantTo_ordered | apply State.onRch_ordered | split

theorem execReplayReserveBypass_ordered (a : Fin 4) (s : State) :
    Answers s (execReplayReserveBypass a s) := by
  unfold execReplayReserveBypass
  dsimp only
  with_reducible repeat' first
    | assumption | exact Ordered.refl _ | apply Answers.next | apply Answers.ite | apply Ordered.ite
    | apply State.grantReplay_ordered | apply State.onRch_ordered | split

theorem execDecodeComplete_ordered (d : Fin 8) (memoryError : Bool) (s : State) :
    Answers s (execDecodeComplete d memoryError s) := by
  unfold execDecodeComplete
  dsimp only
  with_reducible repeat' first
    | assumption | exact Ordered.refl _ | apply Answers.next | apply Answers.ite | apply Ordered.ite
    | apply State.decodeEnd_ordered | split

theorem execDecoderStall_ordered (d : Fin 8) (s : State) :
    Answers s (execDecoderStall d s) := by
  unfold execDecoderStall
  with_reducible repeat' first
    | assumption | exact Ordered.refl _ | apply Answers.next | apply Answers.ite | apply Ordered.ite
    | apply State.decodeEnd_ordered | split

theorem execDestageChunk_ordered (c : ChunkInputs) (s : State) :
    Answers s (execDestageChunk c s) := by
  unfold execDestageChunk
  dsimp only
  with_reducible repeat' first
    | assumption | intro _ _ _ | exact Ordered.refl _ | apply Answers.next | apply Answers.ite | apply Ordered.foldl
    | apply Ordered.ite | apply State.cacheMarks_ordered | apply State.event_ordered | apply State.onBuf_ordered
    | apply State.onPlc_ordered | apply State.placePieces_ordered | split

theorem execGroupIdleClose_ordered (serial : Nat) (x : CloseInputs) (s : State) :
    Answers s (execGroupIdleClose serial x s) := by
  unfold execGroupIdleClose
  with_reducible repeat' first
    | assumption | exact Ordered.refl _ | apply Answers.next | apply Answers.ite | apply Ordered.ite
    | apply State.change_ordered | apply State.closeGroup_ordered | apply State.stripeOn_ordered | split

theorem execCommitStart_ordered (order : List (Fin 4)) (s : State) :
    Answers s (execCommitStart order s) := by
  unfold execCommitStart
  with_reducible repeat' first
    | assumption | exact Ordered.refl _ | apply Answers.next | apply Answers.ite | apply Ordered.ite
    | apply State.startCommit_ordered

theorem execCommitDeadlineMiss_ordered (s : State) :
    Answers s (execCommitDeadlineMiss s) := by
  unfold execCommitDeadlineMiss
  with_reducible repeat' first
    | assumption | exact Ordered.refl _ | apply Answers.next | apply Answers.ite | apply Ordered.ite
    | apply State.fault_ordered | apply State.onPlc_ordered | split

theorem execCopyCatchup_ordered (a : Fin 4) (s : State) :
    Answers s (execCopyCatchup a s) := by
  unfold execCopyCatchup
  with_reducible repeat' first
    | assumption | exact Ordered.refl _ | apply Answers.next | apply Answers.ite | apply Ordered.ite
    | apply State.catchUp_ordered

theorem execCheckpoint_ordered (s : State) :
    Answers s (execCheckpoint s) := by
  unfold execCheckpoint
  with_reducible repeat' first
    | assumption | exact Ordered.refl _ | apply Answers.next | apply Answers.ite | apply Ordered.ite
    | apply State.startCheckpoint_ordered

theorem execHomeworkJobStart_ordered (j : JobReq) (s : State) :
    Answers s (execHomeworkJobStart j s) := by
  unfold execHomeworkJobStart
  with_reducible repeat' first
    | assumption | exact Ordered.refl _ | apply Answers.next | apply Answers.ite | apply State.startJob_ordered

theorem execTempWindowRestart_ordered (s : State) :
    Answers s (execTempWindowRestart s) := by
  unfold execTempWindowRestart
  dsimp only
  with_reducible repeat' first
    | assumption | intro _ _ _ | intro _ _ | exact Ordered.refl _ | apply Answers.next | apply Answers.ite
    | apply Ordered.doIf | apply Ordered.foldS | apply Ordered.ite | apply State.change_ordered
    | apply State.journal_ordered | apply State.onPlc_ordered

theorem execServoWedge_ordered (a : Fin 4) (w : WedgeInputs) (s : State) :
    Answers s (execServoWedge a w s) := by
  unfold execServoWedge
  with_reducible repeat' first
    | assumption | exact Ordered.refl _ | apply Answers.next | apply Answers.ite | apply Ordered.ite
    | apply State.switchLost_ordered | apply State.wedgeFound_ordered | split

theorem execMissingWedge_ordered (a : Fin 4) (s : State) :
    Answers s (execMissingWedge a s) := by
  unfold execMissingWedge
  with_reducible repeat' first
    | assumption | exact Ordered.refl _ | apply Answers.next | apply Answers.ite | apply Ordered.ite
    | apply State.wedgeMissing_ordered

theorem execLockLost_ordered (a : Fin 4) (s : State) :
    Answers s (execLockLost a s) := by
  unfold execLockLost
  with_reducible repeat' first
    | assumption | exact Ordered.refl _ | apply Answers.next | apply Answers.ite | apply State.lockLost_ordered
    | split

theorem execHeadSwitch_ordered (a : Fin 4) (head : BitVec 5) (s : State) :
    Answers s (execHeadSwitch a head s) := by
  unfold execHeadSwitch
  dsimp only
  with_reducible repeat' first
    | assumption | exact Ordered.refl _ | apply Answers.next | apply Answers.ite | apply Ordered.ite
    | apply State.onSvd_ordered | apply State.wpMoved_ordered

theorem execForceAcquire_ordered (a : Fin 4) (s : State) :
    Answers s (execForceAcquire a s) := by
  unfold execForceAcquire
  dsimp only
  with_reducible repeat' first
    | assumption | exact Ordered.refl _ | apply Answers.next | apply Answers.ite | apply State.enterAcquire_ordered
    | apply State.markLocked_ordered | apply State.onSvd_ordered

theorem execSvdTargetWrite_ordered (a : Fin 4) (track : BitVec 24) (s : State) :
    Answers s (execSvdTargetWrite a track s) := by
  unfold execSvdTargetWrite
  dsimp only
  with_reducible repeat' first
    | assumption | exact Ordered.refl _ | apply Answers.next | apply Answers.ite | apply Ordered.ite
    | apply State.onSvd_ordered | apply State.wpMoved_ordered

theorem execShockCrossing_ordered (a : Fin 4) (peak : BitVec 12) (s : State) :
    Answers s (execShockCrossing a peak s) := by
  unfold execShockCrossing
  dsimp only
  with_reducible repeat' first
    | assumption | exact Ordered.refl _ | apply Answers.next | apply Answers.ite | apply Ordered.ite
    | apply State.actEvent_ordered | apply State.countA_ordered | apply State.onMsn_ordered
    | apply State.wpCause_ordered

theorem execShockHoldEnd_ordered (a : Fin 4) (s : State) :
    Answers s (execShockHoldEnd a s) := by
  unfold execShockHoldEnd
  dsimp only
  with_reducible repeat' first
    | assumption | exact Ordered.refl _ | apply Answers.next | apply Answers.ite | apply Ordered.ite
    | apply State.actEvent_ordered | apply State.onMsn_ordered | apply State.wpCause_ordered

theorem execHeadLoad_ordered (a : Fin 4) (s : State) :
    Answers s (execHeadLoad a s) := by
  unfold execHeadLoad
  with_reducible repeat' first
    | assumption | exact Ordered.refl _ | apply Answers.next | apply Answers.ite | apply State.startLoad_ordered

theorem execHeadUnload_ordered (a : Fin 4) (retract : Bool) (s : State) :
    Answers s (execHeadUnload a retract s) := by
  unfold execHeadUnload
  dsimp only
  with_reducible repeat' first
    | assumption | exact Ordered.refl _ | apply Answers.next | apply Answers.ite | apply Ordered.ite
    | apply State.onIsl_ordered | apply State.startUnload_ordered

theorem execVcmFrameRepeat_ordered (a : Fin 4) (s : State) :
    Answers s (execVcmFrameRepeat a s) := by
  unfold execVcmFrameRepeat
  with_reducible repeat' first
    | assumption | exact Ordered.refl _ | apply Answers.next | apply Answers.ite | apply State.onVcm_ordered

theorem execDriveOrSenseFault_ordered (a : Fin 4) (kind : Fin 4) (s : State) :
    Answers s (execDriveOrSenseFault a kind s) := by
  unfold execDriveOrSenseFault
  with_reducible repeat' first
    | assumption | exact Ordered.refl _ | apply Answers.next | apply Answers.ite | apply Ordered.ite
    | apply State.senseFault_ordered

theorem execFeedForwardReceive_ordered (src dst : Fin 4) (s : State) :
    Answers s (execFeedForwardReceive src dst s) := by
  unfold execFeedForwardReceive
  dsimp only
  with_reducible repeat' first
    | assumption | exact Ordered.refl _ | apply Answers.next | apply Answers.ite | apply Ordered.ite
    | apply State.faultAt_ordered | apply State.mailboxSet_ordered | apply State.onMbx_ordered
    | apply State.takeMsg_ordered | refine Ordered.of_snd (by assumption) ?_ | split

theorem execMailboxRelease_ordered (src dst : Fin 4) (s : State) :
    Answers s (execMailboxRelease src dst s) := by
  unfold execMailboxRelease
  dsimp only
  with_reducible repeat' first
    | assumption | exact Ordered.refl _ | apply Answers.next | apply Answers.ite | apply State.mailboxSet_ordered
    | apply State.onMbx_ordered | split

theorem execMailboxStale_ordered (src dst : Fin 4) (s : State) :
    Answers s (execMailboxStale src dst s) := by
  unfold execMailboxStale
  with_reducible repeat' first
    | assumption | exact Ordered.refl _ | apply Answers.next | apply Answers.ite | apply Ordered.ite
    | apply State.onMbx_ordered

theorem execWedgeTimingReceive_ordered (a : Fin 4) (s : State) :
    Answers s (execWedgeTimingReceive a s) := by
  unfold execWedgeTimingReceive
  dsimp only
  with_reducible repeat' first
    | assumption | exact Ordered.refl _ | apply Answers.next | apply Answers.ite | apply State.takeMsg_ordered
    | apply State.takeWedge_ordered | refine Ordered.of_snd (by assumption) ?_ | split

theorem execSlewNoticeReceive_ordered (a : Fin 4) (s : State) :
    Answers s (execSlewNoticeReceive a s) := by
  unfold execSlewNoticeReceive
  dsimp only
  with_reducible repeat' first
    | assumption | exact Ordered.refl _ | apply Answers.next | apply Answers.ite | apply Ordered.ite
    | apply State.takeMsg_ordered | apply State.takeNotice_ordered | refine Ordered.of_snd (by assumption) ?_
    | split

theorem execDramRequest_ordered (src : Endpoint) (acc : Access) (link : LinkEcc) (page : Option Nat) (s : State) :
    Answers s (execDramRequest src acc link page s) := by
  unfold execDramRequest
  dsimp only
  with_reducible repeat' first
    | assumption | exact fun k => k | intro _ _ _ | exact Ordered.refl _ | apply Answers.next | apply Answers.ite
    | apply Ordered.foldl | apply Ordered.ite | apply State.count_ordered | apply State.faultAt_ordered
    | apply State.memAnswer_ordered | apply State.memTake_ordered | apply State.memWait_ordered
    | apply State.onFab_ordered | apply State.setErrs_ordered

theorem execMergeReadReturn_ordered (granule : Nat) (s : State) :
    Answers s (execMergeReadReturn granule s) := by
  unfold execMergeReadReturn
  with_reducible repeat' first
    | assumption | exact Ordered.refl _ | apply Answers.next | apply Answers.ite | apply Ordered.ite
    | apply State.memRetry_ordered | apply State.mergeEntry_ordered | split

theorem execWriteQueueDrain_ordered (ch : Fin 4) (s : State) :
    Answers s (execWriteQueueDrain ch s) := by
  unfold execWriteQueueDrain
  with_reducible repeat' first
    | assumption | exact Ordered.refl _ | apply Answers.next | apply Answers.ite | apply Ordered.ite
    | apply State.drainChan_ordered | apply State.memRetry_ordered

theorem execRefreshDue_ordered (ch : Fin 4) (bank : Fin 16) (busy : Bool) (s : State) :
    Answers s (execRefreshDue ch bank busy s) := by
  unfold execRefreshDue
  with_reducible repeat' first
    | assumption | exact Ordered.refl _ | apply Answers.next | apply Answers.ite | apply Ordered.ite
    | apply State.closeBank_ordered | apply State.onChan_ordered

theorem execRefreshForced_ordered (ch : Fin 4) (bank : Fin 16) (s : State) :
    Answers s (execRefreshForced ch bank s) := by
  unfold execRefreshForced
  with_reducible repeat' first
    | assumption | exact Ordered.refl _ | apply Answers.next | apply Answers.ite | apply Ordered.ite
    | apply State.closeBank_ordered | apply State.fault_ordered | apply State.onChan_ordered

theorem execMr4Change_ordered (ch : Fin 4) (code : BitVec 3) (s : State) :
    Answers s (execMr4Change ch code s) := by
  unfold execMr4Change
  dsimp only
  with_reducible repeat' first
    | assumption | exact Ordered.refl _ | apply Answers.next | apply Answers.ite | apply Ordered.ite
    | apply State.event_ordered | apply State.fault_ordered | apply State.onChan_ordered

theorem execRetrainCheck_ordered (ch : Fin 4) (driftPs : Nat) (s : State) :
    Answers s (execRetrainCheck ch driftPs s) := by
  unfold execRetrainCheck
  dsimp only
  with_reducible repeat' first
    | assumption | exact Ordered.refl _ | apply Answers.next | apply Answers.ite | apply Ordered.ite
    | apply State.onChan_ordered

theorem execRetrainComplete_ordered (ch : Fin 4) (ok : Bool) (s : State) :
    Answers s (execRetrainComplete ch ok s) := by
  unfold execRetrainComplete
  with_reducible repeat' first
    | assumption | exact Ordered.refl _ | apply Answers.next | apply Answers.ite | apply Ordered.ite
    | apply State.count_ordered | apply State.event_ordered | apply State.fault_ordered
    | apply State.memRetry_ordered | apply State.onChan_ordered

theorem execScrubGo_ordered (v : BitVec 32) (s : State) :
    Answers s (execScrubGo v s) := by
  unfold execScrubGo
  with_reducible repeat' first
    | assumption | exact Ordered.refl _ | apply Answers.next | apply Answers.ite | apply Ordered.ite
    | apply State.onScr_ordered | apply State.scrubStart_ordered

theorem execScrubAbort_ordered (s : State) :
    Answers s (execScrubAbort s) := by
  unfold execScrubAbort
  with_reducible repeat' first
    | assumption | exact Ordered.refl _ | apply Answers.next | apply Answers.ite | apply Ordered.ite
    | apply State.onScr_ordered

theorem execScrubGranule_ordered (sig : List Byte) (page : Option Nat) (s : State) :
    Answers s (execScrubGranule sig page s) := by
  unfold execScrubGranule
  dsimp only
  with_reducible repeat' first
    | assumption | exact Ordered.refl _ | apply Answers.next | apply Answers.ite | apply Ordered.ite
    | apply State.faultAt_ordered | apply State.memLog_ordered | apply State.onChan_ordered
    | apply State.onScr_ordered | apply State.readGran_ordered | apply State.scrubEnd_ordered
    | refine Ordered.of_snd (by assumption) ?_ | split

theorem execScrubStarve_ordered (ch : Fin 4) (s : State) :
    Answers s (execScrubStarve ch s) := by
  unfold execScrubStarve
  with_reducible repeat' first
    | assumption | exact Ordered.refl _ | apply Answers.next | apply Answers.ite | apply Ordered.ite
    | apply State.onChan_ordered | apply State.onScr_ordered

theorem execScrubPassStart_ordered (s : State) :
    Answers s (execScrubPassStart s) := by
  unfold execScrubPassStart
  dsimp only
  with_reducible repeat' first
    | assumption | exact Ordered.refl _ | apply Answers.next | apply Answers.ite | apply Ordered.ite
    | apply State.onScr_ordered | apply State.scrubStart_ordered

theorem execYbMirrorWrite_ordered (a : Fin 4) (s : State) :
    Answers s (execYbMirrorWrite a s) := by
  unfold execYbMirrorWrite
  dsimp only
  with_reducible repeat' first
    | assumption | exact Ordered.refl _ | apply Answers.next | apply Answers.ite | apply Ordered.ite
    | apply State.event_ordered | apply State.onYb_ordered | split

theorem execYbAppend_ordered (bank : YbWho) (type : BitVec 16) (len : BitVec 6) (s : State) :
    Answers s (execYbAppend bank type len s) := by
  unfold execYbAppend
  dsimp only
  with_reducible repeat' first
    | assumption | exact Ordered.refl _ | apply Answers.next | apply Answers.ite | apply Ordered.ite
    | apply State.onBank_ordered | apply State.onYb_ordered | apply State.ybAppend_ordered
    | apply State.ybRefuse_ordered | split

theorem execYbCursorNext_ordered (bank : YbWho) (s : State) :
    Answers s (execYbCursorNext bank s) := by
  unfold execYbCursorNext
  with_reducible repeat' first
    | assumption | exact Ordered.refl _ | apply Answers.next | apply Answers.ite | apply State.moveCursor_ordered

theorem execYbCursorPrev_ordered (bank : YbWho) (s : State) :
    Answers s (execYbCursorPrev bank s) := by
  unfold execYbCursorPrev
  with_reducible repeat' first
    | assumption | exact Ordered.refl _ | apply Answers.next | apply Answers.ite | apply Ordered.ite
    | apply State.moveCursor_ordered

theorem execYbCursorToFirst_ordered (bank : YbWho) (s : State) :
    Answers s (execYbCursorToFirst bank s) := by
  unfold execYbCursorToFirst
  with_reducible repeat' first
    | assumption | exact Ordered.refl _ | apply Answers.next | apply Answers.ite | apply State.moveCursor_ordered

theorem execYbCursorToLast_ordered (bank : YbWho) (s : State) :
    Answers s (execYbCursorToLast bank s) := by
  unfold execYbCursorToLast
  with_reducible repeat' first
    | assumption | exact Ordered.refl _ | apply Answers.next | apply Answers.ite | apply State.moveCursor_ordered

theorem execYbProgram_ordered (out : FlashOutcome) (s : State) :
    Answers s (execYbProgram out s) := by
  unfold execYbProgram
  with_reducible repeat' first
    | assumption | exact Ordered.refl _ | apply Answers.next | apply Answers.ite | apply State.ybProgram_ordered

theorem execYbForceProgram_ordered (out : FlashOutcome) (s : State) :
    Answers s (execYbForceProgram out s) := by
  unfold execYbForceProgram
  with_reducible repeat' first
    | assumption | exact Ordered.refl _ | apply Answers.next | apply Answers.ite | apply Ordered.ite
    | apply State.ybProgram_ordered | split

theorem execPowerOnReset_ordered (straps : BitVec 6) (dualPortN : Bool) (v12 v5 : Nat) (nor : NorScan) (s : State) :
    Answers s (execPowerOnReset straps dualPortN v12 v5 nor s) := by
  unfold execPowerOnReset
  dsimp only
  with_reducible repeat' first
    | assumption | exact Ordered.refl _ | apply Answers.next | apply Answers.ite | apply State.bringUp_ordered
    | apply State.onEvc_ordered | apply State.onIdent_ordered | apply State.onSys_ordered
    | apply State.ringScan_ordered | apply State.storeDecay_ordered

theorem execSupplyRecheck_ordered (v12 v5 : Nat) (s : State) :
    Answers s (execSupplyRecheck v12 v5 s) := by
  unfold execSupplyRecheck
  dsimp only
  with_reducible repeat' first
    | assumption | exact Ordered.refl _ | apply Answers.next | apply Answers.ite | apply Ordered.ite
    | apply State.milestone_ordered | apply State.onSys_ordered | apply State.sawSupply_ordered
    | apply State.spnStart_ordered

theorem execSupplyCheckTimeout_ordered (s : State) :
    Answers s (execSupplyCheckTimeout s) := by
  unfold execSupplyCheckTimeout
  with_reducible repeat' first
    | assumption | exact Ordered.refl _ | apply Answers.next | apply Answers.ite | apply Ordered.ite
    | apply State.enterLimited_ordered | apply State.fault_ordered | apply State.onSys_ordered

theorem execDramTrainingDone_ordered (failMask : BitVec 4) (raw : Nat) (s : State) :
    Answers s (execDramTrainingDone failMask raw s) := by
  unfold execDramTrainingDone
  dsimp only
  with_reducible repeat' first
    | assumption | exact Ordered.refl _ | apply Answers.next | apply Answers.ite | apply Ordered.ite
    | apply State.enterLimited_ordered | apply State.event_ordered | apply State.fault_ordered
    | apply State.milestone_ordered | apply State.onDramc_ordered | apply State.onSys_ordered

theorem execDramFillComplete_ordered (ms : Nat) (s : State) :
    Answers s (execDramFillComplete ms s) := by
  unfold execDramFillComplete
  dsimp only
  with_reducible repeat' first
    | assumption | exact fun k => k | exact fun k => memClear_wf k _ _ | exact Ordered.refl _ | apply Answers.next
    | apply Answers.ite | apply Ordered.ite | apply State.event_ordered | apply State.onDramc_ordered
    | apply State.onFab_ordered | apply State.onSys_ordered

theorem execCoreRelease_ordered (s : State) :
    Answers s (execCoreRelease s) := by
  unfold execCoreRelease
  with_reducible repeat' first
    | assumption | exact Ordered.refl _ | apply Answers.next | apply Answers.ite | apply Ordered.ite
    | apply State.event_ordered | apply State.milestone_ordered | apply State.onSys_ordered
    | apply State.switchOn_ordered

theorem execBootImageVerify_ordered (good : BitVec 3) (s : State) :
    Answers s (execBootImageVerify good s) := by
  unfold execBootImageVerify
  dsimp only
  with_reducible repeat' first
    | assumption | intro _ _ _ | exact Ordered.refl _ | apply Answers.next | apply Answers.ite | apply Ordered.foldS
    | apply Ordered.ite | apply State.eoAssert_ordered | apply State.fault_ordered | apply State.onPorts_ordered
    | apply State.onSys_ordered | split

theorem execResidentFirmwareRunning_ordered (heads : List Nat) (areas : List (Fin 4 × Nat × Nat)) (s : State) :
    Answers s (execResidentFirmwareRunning heads areas s) := by
  unfold execResidentFirmwareRunning
  dsimp only
  with_reducible repeat' first
    | assumption | exact Ordered.refl _ | apply Answers.next | apply Answers.ite | apply Ordered.ite
    | apply State.applyDomains_ordered | apply State.bringToRated_ordered | apply State.enterMode_ordered
    | apply State.event_ordered | apply State.loadLayouts_ordered | apply State.milestone_ordered
    | apply State.onSys_ordered | apply State.requestShutdown_ordered | apply State.soleNamespace_ordered
    | apply State.startPlacement_ordered | apply State.updateWarnings_ordered | apply State.ybAppend_ordered | split

theorem execHostIslandConfigured_ordered (s : State) :
    Answers s (execHostIslandConfigured s) := by
  unfold execHostIslandConfigured
  with_reducible repeat' first
    | assumption | exact fun k => k | exact Ordered.refl _ | apply Answers.next | apply Answers.ite
    | apply Ordered.ite | apply State.onNvme_ordered | apply State.onSys_ordered | split

theorem execOrientationHeadLoad_ordered (s : State) :
    Answers s (execOrientationHeadLoad s) := by
  unfold execOrientationHeadLoad
  with_reducible repeat' first
    | assumption | exact Ordered.refl _ | apply Answers.next | apply Answers.ite | apply Ordered.ite
    | apply State.pumpMotion_ordered

theorem execMappingRestore_ordered (lost : List (Fin 4 × Bool × Nat)) (ms : Nat) (s : State) :
    Answers s (execMappingRestore lost ms s) := by
  unfold execMappingRestore
  dsimp only
  with_reducible repeat' first
    | assumption | exact Ordered.refl _ | apply Answers.next | apply Answers.ite | apply Ordered.ite
    | apply State.event_ordered | apply State.ioCheck_ordered | apply State.onSys_ordered
    | apply State.pumpMotion_ordered | apply State.restoreFails_ordered | apply State.restoreMap_ordered
    | apply State.ringCompare_ordered | apply State.serviceCheck_ordered | apply State.soleNamespace_ordered
    | refine Ordered.of_fst (by assumption) ?_ | split

theorem execCalDone_ordered (a : Fin 4) (temps : List Int) (s : State) :
    Answers s (execCalDone a temps s) := by
  unfold execCalDone
  dsimp only
  with_reducible repeat' first
    | assumption | exact Ordered.refl _ | apply Answers.next | apply Answers.ite | apply Ordered.ite
    | apply State.event_ordered | apply State.ioCheck_ordered | apply State.ladderCalibrated_ordered
    | apply State.onIsl_ordered | apply State.onSys_ordered | apply State.serviceCheck_ordered

theorem execCalFail_ordered (a : Fin 4) (s : State) :
    Answers s (execCalFail a s) := by
  unfold execCalFail
  dsimp only
  with_reducible repeat' first
    | assumption | exact Ordered.refl _ | apply Answers.next | apply Answers.ite | apply Ordered.ite
    | apply State.calFailed_ordered | apply State.onIsl_ordered

theorem execCalTimeout_ordered (a : Fin 4) (s : State) :
    Answers s (execCalTimeout a s) := by
  unfold execCalTimeout
  with_reducible repeat' first
    | assumption | exact Ordered.refl _ | apply Answers.next | apply Answers.ite | apply Ordered.ite
    | apply State.calFailed_ordered

theorem execLimitedActuatorLoad_ordered (a : Fin 4) (s : State) :
    Answers s (execLimitedActuatorLoad a s) := by
  unfold execLimitedActuatorLoad
  with_reducible repeat' first
    | assumption | exact Ordered.refl _ | apply Answers.next | apply Answers.ite | apply Ordered.ite
    | apply State.startLoad_ordered

theorem execPowerStateEntry_ordered (s : State) :
    Answers s (execPowerStateEntry s) := by
  unfold execPowerStateEntry
  with_reducible repeat' first
    | assumption | exact Ordered.refl _ | apply Answers.next | apply Answers.ite | apply Ordered.ite
    | apply State.startEntry_ordered

theorem execReturnIdleExpiry_ordered (s : State) :
    Answers s (execReturnIdleExpiry s) := by
  unfold execReturnIdleExpiry
  dsimp only
  with_reducible repeat' first
    | assumption | exact Ordered.refl _ | apply Answers.next | apply Answers.ite | apply Ordered.ite
    | apply State.onSys_ordered | apply State.startEntry_ordered

theorem execEntryDomainsOff_ordered (s : State) :
    Answers s (execEntryDomainsOff s) := by
  unfold execEntryDomainsOff
  dsimp only
  with_reducible repeat' first
    | assumption | exact Ordered.refl _ | apply Answers.next | apply Answers.ite | apply Ordered.ite
    | apply State.applyDomains_ordered | apply State.cutShort_ordered | apply State.dormantReached_ordered
    | apply State.enterMode_ordered | apply State.onSys_ordered | apply State.spnStop_ordered
    | apply State.writeTarget_ordered | split

theorem execRecessSlewEnd_ordered (s : State) :
    Answers s (execRecessSlewEnd s) := by
  unfold execRecessSlewEnd
  with_reducible repeat' first
    | assumption | exact Ordered.refl _ | apply Answers.next | apply Answers.ite | apply Ordered.ite
    | apply State.enterMode_ordered | split

theorem execPowerStateExit_ordered (temps : List (Fin 4 × List Int)) (s : State) :
    Answers s (execPowerStateExit temps s) := by
  unfold execPowerStateExit
  dsimp only
  with_reducible repeat' first
    | assumption | exact Ordered.refl _ | apply Answers.next | apply Answers.ite | apply Ordered.ite
    | apply State.applyDomains_ordered | apply State.bringToRated_ordered | apply State.enterMode_ordered
    | apply State.onSys_ordered | apply State.selfRefreshExit_ordered | apply State.writeTarget_ordered

theorem execExitHeadLoad_ordered (a : Fin 4) (s : State) :
    Answers s (execExitHeadLoad a s) := by
  unfold execExitHeadLoad
  with_reducible repeat' first
    | assumption | exact Ordered.refl _ | apply Answers.next | apply Answers.ite | apply Ordered.ite
    | apply State.exitCheck_ordered | apply State.startLoad_ordered

theorem execModeTransitionOverrun_ordered (s : State) :
    Answers s (execModeTransitionOverrun s) := by
  unfold execModeTransitionOverrun
  with_reducible repeat' first
    | assumption | exact Ordered.refl _ | apply Answers.next | apply Answers.ite | apply Ordered.ite
    | apply State.fault_ordered | split

theorem execShutdownNormal_ordered (viaDict : Bool) (ctrl : Fin 2) (s : State) :
    Answers s (execShutdownNormal viaDict ctrl s) := by
  unfold execShutdownNormal
  dsimp only
  with_reducible repeat' first
    | assumption | exact Ordered.refl _ | apply Answers.next | apply Answers.ite | apply Ordered.ite
    | apply State.event_ordered | apply State.requestShutdown_ordered

theorem execShutdownAbrupt_ordered (ctrl : Fin 2) (s : State) :
    Answers s (execShutdownAbrupt ctrl s) := by
  unfold execShutdownAbrupt
  with_reducible repeat' first
    | assumption | exact Ordered.refl _ | apply Answers.next | apply Answers.ite | apply State.event_ordered
    | apply State.requestShutdown_ordered

theorem execShutdownComplete_ordered (s : State) :
    Answers s (execShutdownComplete s) := by
  unfold execShutdownComplete
  dsimp only
  with_reducible repeat' first
    | assumption | exact Ordered.refl _ | apply Answers.next | apply Answers.ite | apply Ordered.ite
    | apply State.dormantReached_ordered | apply State.onSys_ordered | apply State.reportShutdown_ordered
    | apply State.shutStep_ordered | apply State.switchOffAll_ordered | split

theorem execChipReset_ordered (s : State) :
    Answers s (execChipReset s) := by
  unfold execChipReset
  with_reducible repeat' first
    | assumption | exact Ordered.refl _ | apply Answers.next | apply Answers.ite | apply Ordered.ite
    | apply State.bringUp_ordered | apply State.onIdent_ordered

theorem execPowerLossDeclared_ordered (cause : PlCause) (s : State) :
    Answers s (execPowerLossDeclared cause s) := by
  unfold execPowerLossDeclared
  dsimp only
  with_reducible repeat' first
    | assumption | exact fun k => k | exact fun _ => ⟨by simp, by simp⟩ | intro _ _ _ | exact Ordered.refl _
    | apply Answers.next | apply Answers.ite | apply Ordered.foldS | apply Ordered.foldl | apply Ordered.ite
    | apply State.count_ordered | apply State.cutDomain_ordered | apply State.fault_ordered
    | apply State.freezeDomain_ordered | apply State.makeSafe_ordered | apply State.odSet_ordered
    | apply State.onNvme_ordered | apply State.onSys_ordered | apply State.plSense_ordered
    | apply State.spnPowerLoss_ordered | apply State.stopFetch_ordered | apply State.wpPowerLoss_ordered
    | apply State.ybAppendNow_ordered

theorem execEmergencyRetractStart_ordered (a : Fin 4) (s : State) :
    Answers s (execEmergencyRetractStart a s) := by
  unfold execEmergencyRetractStart
  with_reducible repeat' first
    | assumption | exact Ordered.refl _ | apply Answers.next | apply Answers.ite | apply Ordered.ite
    | apply State.onSys_ordered | apply State.startUnload_ordered | split

theorem execLastHeadParked_ordered (ms : Nat) (s : State) :
    Answers s (execLastHeadParked ms s) := by
  unfold execLastHeadParked
  dsimp only
  with_reducible repeat' first
    | assumption | exact Ordered.refl _ | apply Answers.next | apply Answers.ite | apply Ordered.ite
    | apply State.odSet_ordered | apply State.onSys_ordered | apply State.spnEnter_ordered
    | apply State.ybAppendNow_ordered | split

theorem execRetractEnergyLow_ordered (norOk : Bool) (s : State) :
    Answers s (execRetractEnergyLow norOk s) := by
  unfold execRetractEnergyLow
  dsimp only
  with_reducible repeat' first
    | assumption | intro _ _ _ | exact Ordered.refl _ | apply Answers.next | apply Answers.ite | apply Ordered.foldS
    | apply Ordered.ite | apply State.fault_ordered | apply State.odSet_ordered | apply State.onSys_ordered | split

theorem execPowerLossEnd_ordered (s : State) :
    Answers s (execPowerLossEnd s) := by
  unfold execPowerLossEnd
  with_reducible repeat' first
    | assumption | exact Ordered.refl _ | apply Answers.next | apply Answers.ite | apply Ordered.ite
    | apply State.bringUp_ordered | apply State.onIdent_ordered | apply State.onPorts_ordered | split

theorem execBrakeStopped_ordered (s : State) :
    Answers s (execBrakeStopped s) := by
  unfold execBrakeStopped
  dsimp only
  with_reducible repeat' first
    | assumption | exact Ordered.refl _ | apply Answers.next | apply Answers.ite | apply Ordered.ite
    | apply State.dormantReached_ordered | apply State.event_ordered | apply State.shutStep_ordered
    | apply State.spnAlign_ordered | apply State.spnEnter_ordered | apply State.spnStart_ordered | split

theorem execLockAcquired_ordered (a : Fin 4) (s : State) :
    Answers s (execLockAcquired a s) := by
  unfold execLockAcquired
  dsimp only
  with_reducible repeat' first
    | assumption | exact Ordered.refl _ | apply Answers.next | apply Answers.ite | apply Ordered.ite
    | apply State.actEvent_ordered | apply State.countA_ordered | apply State.headsLoaded_ordered
    | apply State.islandRequest_ordered | apply State.ladderLoaded_ordered | apply State.markLocked_ordered
    | apply State.onIsl_ordered | apply State.onSvd_ordered

theorem execCoilMeasureEnd_ordered (a : Fin 4) (good : Bool) (s : State) :
    Answers s (execCoilMeasureEnd a good s) := by
  unfold execCoilMeasureEnd
  dsimp only
  with_reducible repeat' first
    | assumption | exact Ordered.refl _ | apply Answers.next | apply Answers.ite | apply Ordered.ite
    | apply State.beginLoading_ordered | apply State.loadGaveUp_ordered | apply State.odSet_ordered

theorem execLoadTimeout_ordered (a : Fin 4) (s : State) :
    Answers s (execLoadTimeout a s) := by
  unfold execLoadTimeout
  dsimp only
  with_reducible repeat' first
    | assumption | exact Ordered.refl _ | apply Answers.next | apply Answers.ite | apply Ordered.ite
    | apply State.actEvent_ordered | apply State.onIsl_ordered | apply State.startUnload_ordered

theorem execArmParked_ordered (a : Fin 4) (s : State) :
    Answers s (execArmParked a s) := by
  unfold execArmParked
  dsimp only
  with_reducible repeat' first
    | assumption | exact Ordered.refl _ | apply Answers.next | apply Answers.ite | apply Ordered.ite
    | apply State.actEvent_ordered | apply State.parkAfter_ordered

theorem execUnloadTimeout_ordered (a : Fin 4) (s : State) :
    Answers s (execUnloadTimeout a s) := by
  unfold execUnloadTimeout
  dsimp only
  with_reducible repeat' first
    | assumption | exact Ordered.refl _ | apply Answers.next | apply Answers.ite | apply Ordered.ite
    | apply State.actFault_ordered | apply State.parkAfter_ordered

theorem execCommitDurable_ordered (a : Fin 4) (ok : Bool) (s : State) :
    Answers s (execCommitDurable a ok s) := by
  unfold execCommitDurable
  with_reducible repeat' first
    | assumption | exact Ordered.refl _ | apply Answers.next | apply Answers.ite | apply State.copyWritten_ordered
    | apply State.modePump_ordered

theorem execCheckpointDurable_ordered (s : State) :
    Answers s (execCheckpointDurable s) := by
  unfold execCheckpointDurable
  with_reducible repeat' first
    | assumption | exact Ordered.refl _ | apply Answers.next | apply Answers.ite
    | apply State.checkpointDurable_ordered | apply State.modePump_ordered

theorem execHomeworkTrackStep_ordered (job : Nat) (bad : List Nat) (s : State) :
    Answers s (execHomeworkTrackStep job bad s) := by
  unfold execHomeworkTrackStep
  with_reducible repeat' first
    | assumption | exact Ordered.refl _ | apply Answers.next | apply Answers.ite | apply State.homeworkStep_ordered
    | apply State.updateWarnings_ordered

theorem execDmaKick_ordered (n : Fin 16) (s : State) :
    Answers s (execDmaKick n s) := by
  unfold execDmaKick
  with_reducible repeat' first
    | assumption | exact Ordered.refl _ | apply Answers.next | apply Answers.ite | apply Ordered.ite
    | apply State.onDmaCh_ordered | split

theorem execDmaAbort_ordered (n : Fin 16) (s : State) :
    Answers s (execDmaAbort n s) := by
  unfold execDmaAbort
  with_reducible repeat' first
    | assumption | exact Ordered.refl _ | apply Answers.next | apply Answers.ite | apply State.dmaAbort_ordered

theorem execDmaPtrWrite_ordered (n : Fin 16) (v : BitVec 32) (s : State) :
    Answers s (execDmaPtrWrite n v s) := by
  unfold execDmaPtrWrite
  with_reducible repeat' first
    | assumption | exact Ordered.refl _ | apply Answers.next | apply Answers.ite | apply Ordered.ite
    | apply State.onDmaCh_ordered | split

theorem execMoverGrant_ordered (s : State) :
    Answers s (execMoverGrant s) := by
  unfold execMoverGrant
  with_reducible repeat' first
    | assumption | exact Ordered.refl _ | apply Answers.next | apply Answers.ite | apply Ordered.ite
    | apply State.onDmaCh_ordered | apply State.onDma_ordered | split

theorem execTimRun_ordered (t : Fin 16) (v : BitVec 32) (s : State) :
    Answers s (execTimRun t v s) := by
  unfold execTimRun
  dsimp only
  with_reducible repeat' first
    | assumption | exact Ordered.refl _ | apply Answers.next | apply Answers.ite | apply Ordered.ite
    | apply State.onTimer_ordered

theorem execTimStop_ordered (t : Fin 16) (s : State) :
    Answers s (execTimStop t s) := by
  unfold execTimStop
  with_reducible repeat' first
    | assumption | exact Ordered.refl _ | apply Answers.next | apply Answers.ite | apply Ordered.ite
    | apply State.onTimer_ordered

theorem execTimerFire_ordered (t : Fin 16) (s : State) :
    Answers s (execTimerFire t s) := by
  unfold execTimerFire
  dsimp only
  with_reducible repeat' first
    | assumption | exact Ordered.refl _ | apply Answers.next | apply Answers.ite | apply Ordered.ite
    | apply State.dmaTrigger_ordered | apply State.event_ordered | apply State.onTimer_ordered

theorem execEventIntake_ordered (src : Endpoint) (s : State) :
    Answers s (execEventIntake src s) := by
  unfold execEventIntake
  dsimp only
  with_reducible repeat' first
    | assumption | exact Ordered.refl _ | apply Answers.next | apply Answers.ite | apply State.takeEvent_ordered
    | apply State.takeMsg_ordered | refine Ordered.of_snd (by assumption) ?_ | split

theorem execEvcPendClear_ordered (w : Fin 11) (bits : BitVec 32) (s : State) :
    Answers s (execEvcPendClear w bits s) := by
  unfold execEvcPendClear
  with_reducible repeat' first
    | assumption | exact Ordered.refl _ | apply Answers.next | apply Answers.ite | apply State.onEvc_ordered

theorem execGpioEdge_ordered (g : Fin 16) (level : Bool) (s : State) :
    Answers s (execGpioEdge g level s) := by
  unfold execGpioEdge
  dsimp only
  with_reducible repeat' first
    | assumption | exact Ordered.refl _ | apply Answers.next | apply Answers.ite | apply Ordered.ite
    | apply State.event_ordered | apply State.onEvc_ordered

theorem execUartPrompt_ordered (s : State) :
    Answers s (execUartPrompt s) := by
  unfold execUartPrompt
  with_reducible repeat' first
    | assumption | exact Ordered.refl _ | apply Answers.next | apply Answers.ite | apply Ordered.ite
    | apply State.onPorts_ordered | apply State.uartSend_ordered

theorem execUartBlock_ordered (seq : BitVec 8) (data : List (BitVec 8)) (crc : BitVec 32) (s : State) :
    Answers s (execUartBlock seq data crc s) := by
  unfold execUartBlock
  dsimp only
  with_reducible repeat' first
    | assumption | exact Ordered.refl _ | apply Answers.next | apply Answers.ite | apply Ordered.ite
    | apply State.onPorts_ordered | apply State.slotPartial_ordered | apply State.uartSend_ordered

theorem execUartEnd_ordered (length : Nat) (crc : BitVec 32) (verifies : Bool) (s : State) :
    Answers s (execUartEnd length crc verifies s) := by
  unfold execUartEnd
  dsimp only
  with_reducible repeat' first
    | assumption | exact fun k => k | exact Ordered.refl _ | apply Answers.next | apply Answers.ite
    | apply Ordered.ite | apply State.onNvme_ordered | apply State.requestChipReset_ordered
    | apply State.uartRestart_ordered | apply State.uartSend_ordered

theorem execUartIdleTimeout_ordered (s : State) :
    Answers s (execUartIdleTimeout s) := by
  unfold execUartIdleTimeout
  with_reducible repeat' first
    | assumption | exact Ordered.refl _ | apply Answers.next | apply Answers.ite | apply Ordered.ite
    | apply State.uartRestart_ordered

theorem execJtagInstruction_ordered (i : JtagIr) (s : State) :
    Answers s (execJtagInstruction i s) := by
  unfold execJtagInstruction
  with_reducible repeat' first
    | assumption | exact Ordered.refl _ | apply Answers.next | apply Answers.ite | apply Ordered.ite
    | apply State.onPorts_ordered | split

theorem execLedActTimeout_ordered (s : State) :
    Answers s (execLedActTimeout s) := by
  unfold execLedActTimeout
  with_reducible repeat' first
    | assumption | intro _ _ | exact Ordered.refl _ | apply Answers.next | apply Answers.ite | apply Ordered.doIf
    | apply State.onPorts_ordered

theorem execCipherJob_ordered (j : CipherJob) (s : State) :
    Answers s (execCipherJob j s) := by
  unfold execCipherJob
  dsimp only
  with_reducible repeat' first
    | assumption | exact Ordered.refl _ | apply Answers.next | apply Answers.ite | apply Ordered.ite
    | apply State.ciphRecord_ordered | apply State.event_ordered | apply State.fault_ordered
    | apply State.onCiph_ordered | split

theorem execCipherJobComplete_ordered (job : Nat) (page : Option Nat) (before : Nat) (s : State) :
    Answers s (execCipherJobComplete job page before s) := by
  unfold execCipherJobComplete
  dsimp only
  with_reducible repeat' first
    | assumption | exact Ordered.refl _ | apply Answers.next | apply Answers.ite | apply Ordered.ite
    | apply State.ciphGcm_ordered | apply State.ciphMedia_ordered | apply State.onCiph_ordered | split

theorem execSlotChangeDone_ordered (slot : Fin 128) (s : State) :
    Answers s (execSlotChangeDone slot s) := by
  unfold execSlotChangeDone
  with_reducible repeat' first
    | assumption | exact Ordered.refl _ | apply Answers.next | apply Answers.ite | apply Ordered.ite
    | apply State.slotSaves_ordered | apply State.slotTakes_ordered

theorem execDrbgReseed_ordered (entropy : Bool) (s : State) :
    Answers s (execDrbgReseed entropy s) := by
  unfold execDrbgReseed
  with_reducible repeat' first
    | assumption | exact Ordered.refl _ | apply Answers.next | apply Answers.ite | apply Ordered.ite
    | apply State.ciphHalt_ordered | apply State.event_ordered | apply State.fault_ordered
    | apply State.onCiph_ordered | apply State.slotsLost_ordered

theorem execEntropyHealthFail_ordered (s : State) :
    Answers s (execEntropyHealthFail s) := by
  unfold execEntropyHealthFail
  with_reducible repeat' first
    | assumption | exact Ordered.refl _ | apply Answers.next | apply Answers.ite | apply Ordered.ite
    | apply State.fault_ordered | apply State.onCiph_ordered

theorem execCryptoEraseRun_ordered (s : State) :
    Answers s (execCryptoEraseRun s) := by
  unfold execCryptoEraseRun
  with_reducible repeat' first
    | assumption | exact Ordered.refl _ | apply Answers.next | apply Answers.ite | apply Ordered.ite
    | apply State.eraseStep_ordered | apply State.setErase_ordered | split

theorem execFaultReportIntake_ordered (srcs : List Endpoint) (s : State) :
    Answers s (execFaultReportIntake srcs s) := by
  unfold execFaultReportIntake
  dsimp only
  with_reducible repeat' first
    | assumption | exact Ordered.refl _ | apply Answers.next | apply Answers.ite | apply State.intake_ordered
    | apply State.takeReports_ordered | refine Ordered.of_fst (by assumption) ?_

theorem execWindowBucketRoll_ordered (s' : Fin 160) (s : State) :
    Answers s (execWindowBucketRoll s' s) := by
  unfold execWindowBucketRoll
  dsimp only
  with_reducible repeat' first
    | assumption | exact Ordered.refl _ | apply Answers.next | apply Answers.ite | apply Ordered.ite
    | apply State.onHmSrc_ordered

theorem execFaultSummaryMinute_ordered (s : State) :
    Answers s (execFaultSummaryMinute s) := by
  unfold execFaultSummaryMinute
  dsimp only
  with_reducible repeat' first
    | assumption | intro _ _ _ | exact Ordered.refl _ | apply Answers.next | apply Answers.ite | apply Ordered.foldS
    | apply Ordered.ite | apply State.onHm_ordered | apply State.ybAppend_ordered

theorem execHmInject_ordered (src : Endpoint) (source kind : Nat) (s : State) :
    Answers s (execHmInject src source kind s) := by
  unfold execHmInject
  dsimp only
  with_reducible repeat' first
    | assumption | exact Ordered.refl _ | apply Answers.next | apply Answers.ite | apply Ordered.ite
    | apply State.intake_ordered | apply State.onHm_ordered

theorem execHistoryClear_ordered (s : State) :
    Answers s (execHistoryClear s) := by
  unfold execHistoryClear
  with_reducible repeat' first
    | assumption | exact Ordered.refl _ | apply Answers.next | apply Answers.ite | apply State.histClear_ordered

theorem execEoForce_ordered (s : State) :
    Answers s (execEoForce s) := by
  unfold execEoForce
  with_reducible repeat' first
    | assumption | exact Ordered.refl _ | apply Answers.next | apply Answers.ite | apply State.eoAssert_ordered

theorem execEoHoldClear_ordered (s : State) :
    Answers s (execEoHoldClear s) := by
  unfold execEoHoldClear
  with_reducible repeat' first
    | assumption | exact Ordered.refl _ | apply Answers.next | apply Answers.ite | apply State.eoClearHold_ordered

theorem execEoWidthExpiry_ordered (s : State) :
    Answers s (execEoWidthExpiry s) := by
  unfold execEoWidthExpiry
  dsimp only
  with_reducible repeat' first
    | assumption | exact Ordered.refl _ | apply Answers.next | apply Answers.ite | apply Ordered.ite
    | apply State.eoRelease_ordered | apply State.onHm_ordered

theorem execLastingClear_ordered (s' : Fin 160) (s : State) :
    Answers s (execLastingClear s' s) := by
  unfold execLastingClear
  with_reducible repeat' first
    | assumption | exact Ordered.refl _ | apply Answers.next | apply Answers.ite | apply State.clearLasting_ordered

theorem execSrcCfgWrite_ordered (s' : Fin 160) (v : BitVec 32) (s : State) :
    Answers s (execSrcCfgWrite s' v s) := by
  unfold execSrcCfgWrite
  dsimp only
  with_reducible repeat' first
    | assumption | exact Ordered.refl _ | apply Answers.next | apply Answers.ite | apply Ordered.ite
    | apply State.onHmSrc_ordered | apply State.onHm_ordered

theorem execSrcWinWrite_ordered (s' : Fin 160) (v : BitVec 32) (s : State) :
    Answers s (execSrcWinWrite s' v s) := by
  unfold execSrcWinWrite
  with_reducible repeat' first
    | assumption | exact Ordered.refl _ | apply Answers.next | apply Answers.ite | apply State.onHmSrc_ordered

theorem execPeriodBoundary_ordered (x : BoundaryInputs) (s : State) :
    Answers s (execPeriodBoundary x s) := by
  unfold execPeriodBoundary
  dsimp only
  with_reducible repeat' first
    | assumption | intro _ _ _ | exact Ordered.refl _ | apply Answers.next | apply Answers.ite | apply Ordered.foldS
    | apply Ordered.ite | apply State.admitAll_ordered | apply State.correct_ordered | apply State.cutShort_ordered
    | apply State.modePump_ordered | apply State.onTt_ordered | apply State.poolPolicy_ordered
    | apply State.recoveryCheck_ordered | apply State.setPeriod_ordered | apply State.ttBudget_ordered
    | apply State.updateHeat_ordered | refine Ordered.of_fst (by assumption) ?_ | split

theorem execActuatorFreeAdmission_ordered (a : Fin 4) (x : BoundaryInputs) (s : State) :
    Answers s (execActuatorFreeAdmission a x s) := by
  unfold execActuatorFreeAdmission
  dsimp only
  with_reducible repeat' first
    | assumption | intro _ _ _ | exact Ordered.refl _ | apply Answers.next | apply Answers.ite | apply Ordered.foldS
    | apply Ordered.ite | apply State.admitAll_ordered | apply State.cutShort_ordered
    | refine Ordered.of_fst (by assumption) ?_ | split

theorem execCommandDeadline_ordered (n : Nat) (s : State) :
    Answers s (execCommandDeadline n s) := by
  unfold execCommandDeadline
  with_reducible repeat' first
    | assumption | exact fun _ => rfl | exact Ordered.refl _ | apply Answers.next | apply Answers.ite
    | apply State.onCmd_ordered

theorem execObligatoryDeadlineMiss_ordered (job : Nat) (s : State) :
    Answers s (execObligatoryDeadlineMiss job s) := by
  unfold execObligatoryDeadlineMiss
  with_reducible repeat' first
    | assumption | exact Ordered.refl _ | apply Answers.next | apply Answers.ite | apply State.fault_ordered
    | apply State.onTt_ordered | split

theorem execHeadTempPoll_ordered (a : Fin 4) (head : BitVec 5) (t : Int) (s : State) :
    Answers s (execHeadTempPoll a head t s) := by
  unfold execHeadTempPoll
  dsimp only
  with_reducible repeat' first
    | assumption | exact Ordered.refl _ | apply Answers.next | apply Answers.ite | apply Ordered.ite
    | apply State.headProt_ordered | apply State.onTt_ordered | apply State.updateHeat_ordered

theorem execCruiseDecision_ordered (s : State) :
    Answers s (execCruiseDecision s) := by
  unfold execCruiseDecision
  dsimp only
  with_reducible repeat' first
    | assumption | exact Ordered.refl _ | apply Answers.next | apply Answers.ite | apply Ordered.ite
    | apply State.cruiseTo_ordered | apply State.onTt_ordered | split

theorem execPoolIdleTimeout_ordered (s : State) :
    Answers s (execPoolIdleTimeout s) := by
  unfold execPoolIdleTimeout
  with_reducible repeat' first
    | assumption | exact Ordered.refl _ | apply Answers.next | apply Answers.ite | apply Ordered.ite
    | apply State.switchOff_ordered

theorem execPoolReplayWait_ordered (s : State) :
    Answers s (execPoolReplayWait s) := by
  unfold execPoolReplayWait
  with_reducible repeat' first
    | assumption | exact Ordered.refl _ | apply Answers.next | apply Answers.ite | apply Ordered.ite
    | apply State.upperOn_ordered

theorem execCalRequest_ordered (a : Fin 4) (v : BitVec 32) (s : State) :
    Answers s (execCalRequest a v s) := by
  unfold execCalRequest
  dsimp only
  with_reducible repeat' first
    | assumption | exact Ordered.refl _ | apply Answers.next | apply Answers.ite | apply Ordered.ite
    | apply State.oblige_ordered | apply State.onCal_ordered

theorem execCalWithdraw_ordered (a : Fin 4) (s : State) :
    Answers s (execCalWithdraw a s) := by
  unfold execCalWithdraw
  with_reducible repeat' first
    | assumption | exact Ordered.refl _ | apply Answers.next | apply Answers.ite | apply Ordered.ite
    | apply State.obligDone_ordered | apply State.onCal_ordered

theorem execCalGrantStart_ordered (a : Fin 4) (s : State) :
    Answers s (execCalGrantStart a s) := by
  unfold execCalGrantStart
  dsimp only
  with_reducible repeat' first
    | assumption | intro _ _ | exact Ordered.refl _ | apply Answers.next | apply Answers.ite | apply Ordered.doIf
    | apply Ordered.ite | apply State.count_ordered | apply State.event_ordered | apply State.obligDone_ordered
    | apply State.onCal_ordered

theorem execCalGrantDone_ordered (a : Fin 4) (s : State) :
    Answers s (execCalGrantDone a s) := by
  unfold execCalGrantDone
  with_reducible repeat' first
    | assumption | exact Ordered.refl _ | apply Answers.next | apply Answers.ite | apply State.calEnd_ordered

theorem execCalGrantExpiry_ordered (a : Fin 4) (s : State) :
    Answers s (execCalGrantExpiry a s) := by
  unfold execCalGrantExpiry
  with_reducible repeat' first
    | assumption | exact Ordered.refl _ | apply Answers.next | apply Answers.ite | apply Ordered.ite
    | apply State.calEnd_ordered

theorem execCommandCompletion_ordered (n : Nat) (s : State) :
    Answers s (execCommandCompletion n s) := by
  unfold execCommandCompletion
  dsimp only
  with_reducible repeat' first
    | assumption | intro _ _ | exact Ordered.refl _ | apply Answers.next | apply Answers.ite | apply Ordered.doIf
    | apply Ordered.ite | apply State.activationPump_ordered | apply State.count_ordered | apply State.fault_ordered
    | apply State.formatEnds_ordered | apply State.lateComplete_ordered | apply State.modePump_ordered
    | apply State.postCqe_ordered | split

theorem execNvmeRead_ordered (h : NvmeHdr) (r : IoRange) (limitedRetry : Bool) (s : State) :
    Answers s (execNvmeRead h r limitedRetry s) := by
  unfold execNvmeRead
  with_reducible repeat' first
    | assumption | intro _ _ _ | intro _ _ | exact Ordered.refl _ | apply Answers.next | apply Answers.ite
    | apply State.io_ordered | apply State.readCmd_ordered

theorem execVerify_ordered (h : NvmeHdr) (r : IoRange) (limitedRetry : Bool) (s : State) :
    Answers s (execVerify h r limitedRetry s) := by
  unfold execVerify
  with_reducible repeat' first
    | assumption | intro _ _ _ | intro _ _ | exact Ordered.refl _ | apply Answers.next | apply Answers.ite
    | apply State.io_ordered | apply State.readCmd_ordered

theorem execNvmeWrite_ordered (h : NvmeHdr) (w : IoRange) (fua : Bool) (dtype : BitVec 4) (dspec : BitVec 16) (s : State) :
    Answers s (execNvmeWrite h w fua dtype dspec s) := by
  unfold execNvmeWrite
  dsimp only
  with_reducible repeat' first
    | assumption | intro _ _ _ | intro _ _ | exact Ordered.refl _ | apply Answers.next | apply Answers.ite
    | apply Ordered.ite | apply State.checked_ordered | apply State.io_ordered | apply State.writeUnits_ordered
    | split

theorem execNvmeFlush_ordered (h : NvmeHdr) (nsid : Nat) (s : State) :
    Answers s (execNvmeFlush h nsid s) := by
  unfold execNvmeFlush
  dsimp only
  with_reducible repeat' first
    | assumption | exact fun _ => rfl | intro _ _ _ | intro _ _ | exact Ordered.refl _ | apply Answers.next
    | apply Answers.ite | apply Ordered.ite | apply State.checked_ordered | apply State.io_ordered
    | apply State.mediaArrives_ordered | apply State.onCmd_ordered | apply State.waitPend_ordered

theorem execWriteZeroes_ordered (h : NvmeHdr) (r : IoRange) (_deac : Bool) (s : State) :
    Answers s (execWriteZeroes h r _deac s) := by
  unfold execWriteZeroes
  with_reducible repeat' first
    | assumption | intro _ _ _ | intro _ _ | exact Ordered.refl _ | apply Answers.next | apply Answers.ite
    | apply Ordered.ite | apply State.checked_ordered | apply State.io_ordered | apply State.zeroUnits_ordered
    | split

theorem execDatasetManagement_ordered (h : NvmeHdr) (nsid : Nat) (ranges : List (Nat × Nat)) (deallocate : Bool) (s : State) :
    Answers s (execDatasetManagement h nsid ranges deallocate s) := by
  unfold execDatasetManagement
  dsimp only
  with_reducible repeat' first
    | assumption | exact fun _ => rfl | rw [id_eq] | intro _ _ _ | intro _ _ | exact Ordered.refl _
    | apply Answers.next | apply Answers.ite | apply Ordered.ite | apply State.checked_ordered
    | apply State.deallocate_ordered | apply State.io_ordered | apply State.mediaArrives_ordered
    | apply State.onCmd_ordered | split

theorem execReservationRegister_ordered (h : NvmeHdr) (nsid action : Nat) (iekey : Bool) (crkey nrkey : BitVec 64) (cptpl : Nat) (s : State) :
    Answers s (execReservationRegister h nsid action iekey crkey nrkey cptpl s) := by
  unfold execReservationRegister
  dsimp only
  with_reducible repeat' first
    | assumption | intro _ _ _ | intro _ _ | exact Ordered.refl _ | apply Answers.next | apply Answers.ite
    | apply Ordered.ite | apply State.checked_ordered | apply State.io_ordered | apply State.resvDone_ordered
    | apply State.resvNotice_ordered

theorem execReservationAcquire_ordered (h : NvmeHdr) (nsid action rtype : Nat) (iekey : Bool) (crkey prkey : BitVec 64) (s : State) :
    Answers s (execReservationAcquire h nsid action rtype iekey crkey prkey s) := by
  unfold execReservationAcquire
  dsimp only
  with_reducible repeat' first
    | assumption | intro _ _ _ | intro _ _ | exact Ordered.refl _ | apply Answers.next | apply Answers.ite
    | apply Ordered.ite | apply State.checked_ordered | apply State.io_ordered | apply State.resvDone_ordered
    | apply State.resvNotice_ordered | split

theorem execReservationRelease_ordered (h : NvmeHdr) (nsid action rtype : Nat) (iekey : Bool) (crkey : BitVec 64) (s : State) :
    Answers s (execReservationRelease h nsid action rtype iekey crkey s) := by
  unfold execReservationRelease
  dsimp only
  with_reducible repeat' first
    | assumption | intro _ _ _ | intro _ _ | exact Ordered.refl _ | apply Answers.next | apply Answers.ite
    | apply Ordered.ite | apply State.checked_ordered | apply State.io_ordered | apply State.resvDone_ordered
    | apply State.resvNotice_ordered

theorem execReservationReport_ordered (h : NvmeHdr) (nsid : Nat) (s : State) :
    Answers s (execReservationReport h nsid s) := by
  unfold execReservationReport
  dsimp only
  with_reducible repeat' first
    | assumption | intro _ _ _ | intro _ _ | exact Ordered.refl _ | apply Answers.next | apply Answers.ite
    | apply State.checked_ordered | apply State.io_ordered | apply State.sendData_ordered

theorem execIoManagementReceive_ordered (h : NvmeHdr) (nsid mo : Nat) (s : State) :
    Answers s (execIoManagementReceive h nsid mo s) := by
  unfold execIoManagementReceive
  dsimp only
  with_reducible repeat' first
    | assumption | intro _ _ _ | intro _ _ | exact Ordered.refl _ | apply Answers.next | apply Answers.ite
    | apply Ordered.ite | apply State.checked_ordered | apply State.io_ordered | apply State.sendData_ordered

theorem execIoManagementSend_ordered (h : NvmeHdr) (nsid mo : Nat) (handles : List Nat) (s : State) :
    Answers s (execIoManagementSend h nsid mo handles s) := by
  unfold execIoManagementSend
  with_reducible repeat' first
    | assumption | rw [id_eq] | intro _ _ _ | intro _ _ | exact Ordered.refl _ | apply Answers.next
    | apply Answers.ite | apply State.checked_ordered | apply State.io_ordered

theorem execCreateIoSq_ordered (h : NvmeHdr) (qid size cqid prio : Nat) (contig : Bool) (s : State) :
    Answers s (execCreateIoSq h qid size cqid prio contig s) := by
  unfold execCreateIoSq
  with_reducible repeat' first
    | assumption | intro _ _ _ | intro _ _ | exact Ordered.refl _ | apply Answers.next | apply Answers.ite
    | apply State.admin_ordered | apply State.checked_ordered | apply State.onCtrl_ordered

theorem execDeleteIoSq_ordered (h : NvmeHdr) (qid : Nat) (s : State) :
    Answers s (execDeleteIoSq h qid s) := by
  unfold execDeleteIoSq
  with_reducible repeat' first
    | assumption | intro _ _ _ | intro _ _ | exact Ordered.refl _ | apply Answers.next | apply Answers.ite
    | apply State.admin_ordered | apply State.checked_ordered | apply State.onCtrl_ordered
    | apply State.withdraw_ordered

theorem execCreateIoCq_ordered (h : NvmeHdr) (qid size vector : Nat) (contig : Bool) (s : State) :
    Answers s (execCreateIoCq h qid size vector contig s) := by
  unfold execCreateIoCq
  with_reducible repeat' first
    | assumption | intro _ _ _ | intro _ _ | exact Ordered.refl _ | apply Answers.next | apply Answers.ite
    | apply State.admin_ordered | apply State.checked_ordered | apply State.onCtrl_ordered

theorem execDeleteIoCq_ordered (h : NvmeHdr) (qid : Nat) (s : State) :
    Answers s (execDeleteIoCq h qid s) := by
  unfold execDeleteIoCq
  with_reducible repeat' first
    | assumption | intro _ _ _ | intro _ _ | exact Ordered.refl _ | apply Answers.next | apply Answers.ite
    | apply State.admin_ordered | apply State.checked_ordered | apply State.onCtrl_ordered

theorem execNvmeIdentify_ordered (h : NvmeHdr) (cns : BitVec 8) (nsid : Nat) (s : State) :
    Answers s (execNvmeIdentify h cns nsid s) := by
  unfold execNvmeIdentify
  with_reducible repeat' first
    | assumption | intro _ _ _ | intro _ _ | exact Ordered.refl _ | apply Answers.next | apply Answers.ite
    | apply State.admin_ordered | apply State.cmdReady_ordered | apply State.sendData_ordered | split

theorem execGetLogPage_ordered (h : NvmeHdr) (lid : BitVec 8) (nsid offset length : Nat) (rae create : Bool) (s : State) :
    Answers s (execGetLogPage h lid nsid offset length rae create s) := by
  unfold execGetLogPage
  dsimp only
  with_reducible repeat' first
    | assumption | intro _ _ _ | intro _ _ | exact Ordered.refl _ | apply Answers.next | apply Answers.ite
    | apply Ordered.ite | apply State.admin_ordered | apply State.checked_ordered | apply State.logRead_ordered
    | apply State.sendData_ordered | apply State.ybSnapshot_ordered

theorem execAbort_ordered (h : NvmeHdr) (_sqid _cid : Nat) (s : State) :
    Answers s (execAbort h _sqid _cid s) := by
  unfold execAbort
  with_reducible repeat' first
    | assumption | intro _ _ _ | intro _ _ | exact Ordered.refl _ | apply Answers.next | apply Answers.ite
    | apply State.admin_ordered | apply State.checked_ordered | apply State.readyDw0_ordered

theorem execAsyncEventRequest_ordered (h : NvmeHdr) (s : State) :
    Answers s (execAsyncEventRequest h s) := by
  unfold execAsyncEventRequest
  with_reducible repeat' first
    | assumption | exact fun _ => rfl | exact fun k => k | intro _ _ _ | intro _ _ | exact Ordered.refl _
    | apply Answers.next | apply Answers.ite | apply State.admin_ordered | apply State.checked_ordered
    | apply State.onCmd_ordered | apply State.onNvme_ordered | apply State.readyDw0_ordered | split

theorem execUnsupportedCommand_ordered (h : NvmeHdr) (opcode : BitVec 8) (s : State) :
    Answers s (execUnsupportedCommand h opcode s) := by
  unfold execUnsupportedCommand
  with_reducible repeat' first
    | assumption | intro _ _ _ | intro _ _ | exact Ordered.refl _ | apply Answers.next | apply Answers.ite
    | apply Ordered.ite | apply State.admin_ordered | apply State.cmdReady_ordered | apply State.io_ordered

theorem execApstTransition_ordered (ctrl : Fin 2) (ps : BitVec 5) (s : State) :
    Answers s (execApstTransition ctrl ps s) := by
  unfold execApstTransition
  with_reducible repeat' first
    | assumption | exact Ordered.refl _ | apply Answers.next | apply Answers.ite | apply Ordered.ite
    | apply State.setPowerState_ordered

theorem execSetFeatures_ordered (h : NvmeHdr) (fid : BitVec 8) (sv : Bool) (nsid : Nat) (dw11 dw12 : BitVec 32) (data : List (BitVec 8)) (s : State) :
    Answers s (execSetFeatures h fid sv nsid dw11 dw12 data s) := by
  unfold execSetFeatures
  dsimp only
  with_reducible repeat' first
    | assumption | exact fun k => k | intro _ _ _ | intro _ _ | exact Ordered.refl _ | apply Answers.next
    | apply Answers.ite | apply Ordered.ite | apply State.admin_ordered | apply State.checked_ordered
    | apply State.cmdSave_ordered | apply State.featSet_ordered | apply State.onNvme_ordered
    | apply State.readyDw0_ordered

theorem execGetFeatures_ordered (h : NvmeHdr) (fid : BitVec 8) (nsid : Nat) (dw11 : BitVec 32) (s : State) :
    Answers s (execGetFeatures h fid nsid dw11 s) := by
  unfold execGetFeatures
  dsimp only
  with_reducible repeat' first
    | assumption | intro _ _ _ | intro _ _ | exact Ordered.refl _ | apply Answers.next | apply Answers.ite
    | apply Ordered.ite | apply State.admin_ordered | apply State.checked_ordered | apply State.readyDw0_ordered
    | apply State.sendData_ordered

theorem execFirmwareImageDownload_ordered (h : NvmeHdr) (offset length : Nat) (guests : Bool) (s : State) :
    Answers s (execFirmwareImageDownload h offset length guests s) := by
  unfold execFirmwareImageDownload
  with_reducible repeat' first
    | assumption | exact fun k => k | intro _ _ _ | intro _ _ | exact Ordered.refl _ | apply Answers.next
    | apply Answers.ite | apply Ordered.ite | apply State.admin_ordered | apply State.checked_ordered
    | apply State.onNvme_ordered | split

theorem execFirmwareCommit_ordered (h : NvmeHdr) (slot ca : Nat) (verifies : Bool) (s : State) :
    Answers s (execFirmwareCommit h slot ca verifies s) := by
  unfold execFirmwareCommit
  dsimp only
  with_reducible repeat' first
    | assumption | exact fun k => k | intro _ _ _ | intro _ _ | exact Ordered.refl _ | apply Answers.next
    | apply Answers.ite | apply Ordered.ite | apply State.activationStart_ordered | apply State.admin_ordered
    | apply State.checked_ordered | apply State.cmdReady_ordered | apply State.event_ordered
    | apply State.markSlot_ordered | apply State.onNvme_ordered | split

theorem execActivationSwitch_ordered (slot : Nat) (s : State) :
    Answers s (execActivationSwitch slot s) := by
  unfold execActivationSwitch
  dsimp only
  with_reducible repeat' first
    | assumption | exact fun k => k | exact Ordered.refl _ | apply Answers.next | apply Answers.ite
    | apply Ordered.ite | apply State.activationEnd_ordered | apply State.count_ordered | apply State.onNvme_ordered
    | apply State.onSys_ordered | split

theorem execActivationDrainTimeout_ordered (s : State) :
    Answers s (execActivationDrainTimeout s) := by
  unfold execActivationDrainTimeout
  with_reducible repeat' first
    | assumption | exact Ordered.refl _ | apply Answers.next | apply Answers.ite | apply Ordered.ite
    | apply State.activationEnd_ordered | split

theorem execActivationOverrun_ordered (s : State) :
    Answers s (execActivationOverrun s) := by
  unfold execActivationOverrun
  with_reducible repeat' first
    | assumption | exact Ordered.refl _ | apply Answers.next | apply Answers.ite | apply Ordered.ite
    | apply State.fault_ordered | split

theorem execNamespaceManagement_ordered (h : NvmeHdr) (create : Bool) (nsid nsze ncap lbaf : Nat) (shared : Bool) (s : State) :
    Answers s (execNamespaceManagement h create nsid nsze ncap lbaf shared s) := by
  unfold execNamespaceManagement
  dsimp only
  with_reducible repeat' first
    | assumption | rw [id_eq] | intro _ _ _ | intro _ _ | exact Ordered.refl _ | apply Answers.next
    | apply Answers.ite | apply Ordered.foldS | apply Ordered.ite | apply State.admin_ordered
    | apply State.checked_ordered | apply State.nsCreate_ordered | apply State.nsDelete_ordered
    | apply State.nsGroup_ordered | split

theorem execNamespaceAttachment_ordered (h : NvmeHdr) (attach : Bool) (nsid : Nat) (ctrls : BitVec 2) (s : State) :
    Answers s (execNamespaceAttachment h attach nsid ctrls s) := by
  unfold execNamespaceAttachment
  dsimp only
  with_reducible repeat' first
    | assumption | rw [id_eq] | intro _ _ _ | intro _ _ | exact Ordered.refl _ | apply Answers.next
    | apply Answers.ite | apply Ordered.ite | apply State.admin_ordered | apply State.change_ordered
    | apply State.checked_ordered | apply State.event_ordered | apply State.nsChanged_ordered
    | apply State.nsGroup_ordered | split

theorem execFormatNvm_ordered (h : NvmeHdr) (nsid lbaf ses : Nat) (s : State) :
    Answers s (execFormatNvm h nsid lbaf ses s) := by
  unfold execFormatNvm
  dsimp only
  with_reducible repeat' first
    | assumption | exact fun _ => rfl | exact fun k => k | intro _ _ _ | intro _ _ | exact Ordered.refl _
    | apply Answers.next | apply Answers.ite | apply Ordered.foldS | apply Ordered.ite | apply State.admin_ordered
    | apply State.askErase_ordered | apply State.change_ordered | apply State.checked_ordered
    | apply State.formatNs_ordered | apply State.mediaArrives_ordered | apply State.nsGroup_ordered
    | apply State.onCmd_ordered | apply State.onNvme_ordered

theorem execSanitize_ordered (h : NvmeHdr) (action : Nat) (s : State) :
    Answers s (execSanitize h action s) := by
  unfold execSanitize
  with_reducible repeat' first
    | assumption | exact fun _ => rfl | intro _ _ _ | intro _ _ | exact Ordered.refl _ | apply Answers.next
    | apply Answers.ite | apply Ordered.ite | apply State.admin_ordered | apply State.askErase_ordered
    | apply State.checked_ordered | apply State.mediaArrives_ordered | apply State.onCmd_ordered

theorem execSqDoorbell_ordered (ctrl : Fin 2) (qid tail : Nat) (s : State) :
    Answers s (execSqDoorbell ctrl qid tail s) := by
  unfold execSqDoorbell
  with_reducible repeat' first
    | assumption | exact Ordered.refl _ | apply Answers.next | apply Answers.ite | apply Ordered.ite
    | apply State.fault_ordered | apply State.onCtrl_ordered | split

theorem execCqDoorbell_ordered (ctrl : Fin 2) (qid head : Nat) (s : State) :
    Answers s (execCqDoorbell ctrl qid head s) := by
  unfold execCqDoorbell
  with_reducible repeat' first
    | assumption | exact Ordered.refl _ | apply Answers.next | apply Answers.ite | apply Ordered.ite
    | apply State.fault_ordered | apply State.onCtrl_ordered | split

theorem execCcEnable_ordered (ctrl : Fin 2) (x : EnableSetup) (s : State) :
    Answers s (execCcEnable ctrl x s) := by
  unfold execCcEnable
  with_reducible repeat' first
    | assumption | exact Ordered.refl _ | apply Answers.next | apply Answers.ite | apply Ordered.ite
    | apply State.event_ordered | apply State.onCtrl_ordered

theorem execControllerReset_ordered (ctrl : Fin 2) (s : State) :
    Answers s (execControllerReset ctrl s) := by
  unfold execControllerReset
  with_reducible repeat' first
    | assumption | exact Ordered.refl _ | apply Answers.next | apply Answers.ite | apply Ordered.ite
    | apply State.event_ordered | apply State.resetCtrl_ordered

theorem execFunctionLevelReset_ordered (ctrl : Fin 2) (s : State) :
    Answers s (execFunctionLevelReset ctrl s) := by
  unfold execFunctionLevelReset
  with_reducible repeat' first
    | assumption | exact Ordered.refl _ | apply Answers.next | apply Answers.ite | apply Ordered.ite
    | apply State.flr_ordered

theorem execNvmSubsystemReset_ordered (ctrl : Fin 2) (v : BitVec 32) (s : State) :
    Answers s (execNvmSubsystemReset ctrl v s) := by
  unfold execNvmSubsystemReset
  with_reducible repeat' first
    | assumption | exact Ordered.refl _ | apply Answers.next | apply Answers.ite | apply Ordered.ite
    | apply State.requestChipReset_ordered

theorem execPcieLinkDown_ordered (port : Fin 2) (s : State) :
    Answers s (execPcieLinkDown port s) := by
  unfold execPcieLinkDown
  dsimp only
  with_reducible repeat' first
    | assumption | intro _ _ | exact Ordered.refl _ | apply Answers.next | apply Answers.ite | apply Ordered.doIf
    | apply Ordered.ite | apply State.event_ordered | apply State.fault_ordered | apply State.portDown_ordered
    | apply State.resetCtrl_ordered

theorem execPcieLinkUp_ordered (port : Fin 2) (width gts : Nat) (s : State) :
    Answers s (execPcieLinkUp port width gts s) := by
  unfold execPcieLinkUp
  dsimp only
  with_reducible repeat' first
    | assumption | exact Ordered.refl _ | apply Answers.next | apply Answers.ite | apply Ordered.ite
    | apply State.event_ordered | apply State.onPort_ordered

theorem execAspmL12Transition_ordered (port : Fin 2) (enter : Bool) (s : State) :
    Answers s (execAspmL12Transition port enter s) := by
  unfold execAspmL12Transition
  dsimp only
  with_reducible repeat' first
    | assumption | exact Ordered.refl _ | apply Answers.next | apply Answers.ite | apply Ordered.ite
    | apply State.onPort_ordered | apply State.switchOff_ordered | apply State.switchOn_ordered

theorem execPerstAssert_ordered (s : State) :
    Answers s (execPerstAssert s) := by
  unfold execPerstAssert
  dsimp only
  with_reducible repeat' first
    | assumption | intro _ _ _ | exact Ordered.refl _ | apply Answers.next | apply Answers.ite | apply Ordered.foldS
    | apply Ordered.ite | apply State.event_ordered | apply State.onPorts_ordered | apply State.onSys_ordered
    | apply State.portDown_ordered | apply State.resetCtrl_ordered

theorem execPerstRelease_ordered (s : State) :
    Answers s (execPerstRelease s) := by
  unfold execPerstRelease
  with_reducible repeat' first
    | assumption | exact Ordered.refl _ | apply Answers.next | apply Answers.ite | apply State.onPorts_ordered

theorem execPcieError_ordered (port : Fin 2) (kind : PcieErr) (cid : Option Nat) (s : State) :
    Answers s (execPcieError port kind cid s) := by
  unfold execPcieError
  dsimp only
  with_reducible repeat' first
    | assumption | exact Ordered.refl _ | apply Answers.next | apply Answers.ite | apply Ordered.ite
    | apply State.fault_ordered | apply State.onPort_ordered | apply State.transferFails_ordered | split

theorem execDomainSwitchOn_ordered (d : Fin 32) (who : Requester) (s : State) :
    Answers s (execDomainSwitchOn d who s) := by
  unfold execDomainSwitchOn
  with_reducible repeat' first
    | assumption | exact Ordered.refl _ | apply Answers.next | apply Answers.ite | apply Ordered.ite
    | apply State.switchOn_ordered

theorem execDomainSwitchOff_ordered (d : Fin 32) (who : Requester) (s : State) :
    Answers s (execDomainSwitchOff d who s) := by
  unfold execDomainSwitchOff
  with_reducible repeat' first
    | assumption | exact Ordered.refl _ | apply Answers.next | apply Answers.ite | apply Ordered.ite
    | apply State.switchOff_ordered

theorem execPowerGoodTimeout_ordered (d : Fin 32) (s : State) :
    Answers s (execPowerGoodTimeout d s) := by
  unfold execPowerGoodTimeout
  dsimp only
  with_reducible repeat' first
    | assumption | exact Ordered.refl _ | apply Answers.next | apply Answers.ite | apply Ordered.ite
    | apply State.faultAt_ordered | apply State.onDom_ordered | apply State.startOffs_ordered
    | apply State.switchFails_ordered

theorem execDomainFillOverrun_ordered (d : Fin 32) (s : State) :
    Answers s (execDomainFillOverrun d s) := by
  unfold execDomainFillOverrun
  with_reducible repeat' first
    | assumption | exact Ordered.refl _ | apply Answers.next | apply Answers.ite | apply Ordered.ite
    | apply State.faultAt_ordered | apply State.onDom_ordered

theorem execDomainReady_ordered (d : Fin 32) (kat : Option (Fin 3)) (bad : List (Fin 128)) (s : State) :
    Answers s (execDomainReady d kat bad s) := by
  unfold execDomainReady
  dsimp only
  with_reducible repeat' first
    | assumption | exact Ordered.refl _ | apply Answers.next | apply Answers.ite | apply Ordered.ite
    | apply State.blockResetEnd_ordered | apply State.commitOff_ordered | apply State.onDom_ordered
    | apply State.pumpMotion_ordered | apply State.startWaiting_ordered | apply State.unitsStart_ordered

theorem execDomainDrained_ordered (d : Fin 32) (opened : Bool) (s : State) :
    Answers s (execDomainDrained d opened s) := by
  unfold execDomainDrained
  dsimp only
  with_reducible repeat' first
    | assumption | exact Ordered.refl _ | apply Answers.next | apply Answers.ite | apply Ordered.ite
    | apply State.afterOff_ordered | apply State.domLost_ordered | apply State.event_ordered
    | apply State.faultAt_ordered | apply State.modePump_ordered | apply State.onDom_ordered
    | apply State.pumpMotion_ordered | apply State.switchFails_ordered

theorem execSupplyRegulate_ordered (i : Fin 12) (slack : Int) (s : State) :
    Answers s (execSupplyRegulate i slack s) := by
  unfold execSupplyRegulate
  dsimp only
  with_reducible repeat' first
    | assumption | exact Ordered.refl _ | apply Answers.next | apply Answers.ite | apply Ordered.ite
    | apply State.headroomSample_ordered | apply State.onSupply_ordered | apply State.supplyMoved_ordered

theorem execDroopAlarm_ordered (i : Fin 12) (s : State) :
    Answers s (execDroopAlarm i s) := by
  unfold execDroopAlarm
  dsimp only
  with_reducible repeat' first
    | assumption | intro _ _ | exact Ordered.refl _ | apply Answers.next | apply Answers.ite | apply Ordered.doIf
    | apply Ordered.ite | apply State.count_ordered | apply State.event_ordered | apply State.fault_ordered
    | apply State.onSupply_ordered | apply State.supplyMoved_ordered | split

theorem execHeadroomExhausted_ordered (i : Fin 12) (s : State) :
    Answers s (execHeadroomExhausted i s) := by
  unfold execHeadroomExhausted
  dsimp only
  with_reducible repeat' first
    | assumption | exact Ordered.refl _ | apply Answers.next | apply Answers.ite | apply Ordered.ite
    | apply State.fault_ordered | apply State.onSupply_ordered | split

theorem execTempSample_ordered (s' : Fin 8) (t : Option Int) (s : State) :
    Answers s (execTempSample s' t s) := by
  unfold execTempSample
  dsimp only
  with_reducible repeat' first
    | assumption | intro _ _ | exact Ordered.refl _ | apply Answers.next | apply Answers.ite | apply Ordered.doIf
    | apply Ordered.ite | apply State.event_ordered | apply State.fault_ordered | apply State.hwWarning_ordered
    | apply State.onPwr_ordered | apply State.updateHeat_ordered | apply State.updateProt_ordered
    | apply State.updateWarnings_ordered

theorem execHeadMeasurement_ordered (a : Fin 4) (head : BitVec 5) (m : Measurement) (s : State) :
    Answers s (execHeadMeasurement a head m s) := by
  unfold execHeadMeasurement
  dsimp only
  with_reducible repeat' first
    | assumption | intro _ _ | exact Ordered.refl _ | apply Answers.next | apply Answers.ite | apply Ordered.doIf
    | apply Ordered.ite | apply State.event_ordered | apply State.onCard_ordered | apply State.replanTrigger_ordered
    | apply State.takeFree_ordered

theorem execSpindleCurrentMeasure_ordered (sum n : Nat) (s : State) :
    Answers s (execSpindleCurrentMeasure sum n s) := by
  unfold execSpindleCurrentMeasure
  dsimp only
  with_reducible repeat' first
    | assumption | intro _ _ | exact Ordered.refl _ | apply Answers.next | apply Answers.ite | apply Ordered.doIf
    | apply Ordered.ite | apply State.event_ordered | apply State.onRc_ordered | apply State.replanTrigger_ordered

theorem execReplan_ordered (rings : List (Nat × Nat)) (s : State) :
    Answers s (execReplan rings s) := by
  unfold execReplan
  dsimp only
  with_reducible repeat' first
    | assumption | intro _ _ _ | exact Ordered.refl _ | apply Answers.next | apply Answers.ite | apply Ordered.foldS
    | apply Ordered.ite | apply State.classStep_ordered | apply State.count_ordered | apply State.event_ordered
    | apply State.intervalStart_ordered | apply State.odSet_ordered | apply State.onCard_ordered
    | apply State.onPwr_ordered | apply State.onRc_ordered | apply State.pctStep_ordered
    | apply State.publishStep_ordered | apply State.ringStep_ordered | apply State.trimStep_ordered
    | apply State.ybAppend_ordered | split

theorem execDictRead_ordered (w : Wire) (here : Arrival) (s : State) :
    Answers s (execDictRead w here s) := by
  unfold execDictRead
  dsimp only
  with_reducible repeat' first
    | assumption | intro _ _ _ | intro _ _ | exact Ordered.refl _ | apply Answers.next | apply Answers.ite
    | apply State.answer_ordered | apply State.readItems_ordered | apply State.served_ordered
    | refine Ordered.of_fst (by assumption) ?_

theorem execDescribe_ordered (w : Wire) (here : Arrival) (s : State) :
    Answers s (execDescribe w here s) := by
  unfold execDescribe
  dsimp only
  with_reducible repeat' first
    | assumption | intro _ _ _ | intro _ _ | exact Ordered.refl _ | apply Answers.next | apply Answers.ite
    | apply State.reply_ordered | apply State.served_ordered

theorem execReadLong_ordered (link : Link) (bytes : List Byte) (queued : Nat) (guests : BitVec 4) (s : State) :
    Answers s (execReadLong link bytes queued guests s) := by
  unfold execReadLong
  dsimp only
  with_reducible repeat' first
    | assumption | intro _ _ _ | intro _ _ | exact Ordered.refl _ | apply Answers.next | apply Answers.ite
    | apply Ordered.ite | apply State.answer_ordered | apply State.reply_ordered | apply State.served_ordered
    | split

theorem execEnumerate_ordered (w : Wire) (queued : Nat) (guests : BitVec 4) (s : State) :
    Answers s (execEnumerate w queued guests s) := by
  unfold execEnumerate
  dsimp only
  with_reducible repeat' first
    | assumption | intro _ _ _ | intro _ _ | exact Ordered.refl _ | apply Answers.next | apply Answers.ite
    | apply Ordered.ite | apply State.reply_ordered | apply State.served_ordered

theorem execDictIdentify_ordered (f : Frame) (s : State) :
    Answers s (execDictIdentify f s) := by
  unfold execDictIdentify
  dsimp only
  with_reducible repeat' first
    | assumption | intro _ _ _ | intro _ _ | exact Ordered.refl _ | apply Answers.next | apply Answers.ite
    | apply Ordered.ite | apply State.onDict_ordered | apply State.reply_ordered | apply State.served_ordered

theorem execBroadcastReplyDelay_ordered (s : State) :
    Answers s (execBroadcastReplyDelay s) := by
  unfold execBroadcastReplyDelay
  with_reducible repeat' first
    | assumption | exact Ordered.refl _ | apply Answers.next | apply Answers.ite | apply Ordered.ite
    | apply State.onDict_ordered | apply State.reply_ordered | split

theorem execUnknownDictOp_ordered (w : Wire) (here : Arrival) (s : State) :
    Answers s (execUnknownDictOp w here s) := by
  unfold execUnknownDictOp
  dsimp only
  with_reducible repeat' first
    | assumption | intro _ _ _ | intro _ _ | exact Ordered.refl _ | apply Answers.next | apply Answers.ite
    | apply State.reply_ordered | apply State.served_ordered

theorem execDictWrite_ordered (w : Wire) (here : Arrival) (s : State) :
    Answers s (execDictWrite w here s) := by
  unfold execDictWrite
  dsimp only
  with_reducible repeat' first
    | assumption | intro _ _ _ | intro _ _ | exact Ordered.refl _ | apply Answers.next | apply Answers.ite
    | apply State.answer_ordered | apply State.served_ordered | apply State.writeItems_ordered
    | refine Ordered.of_fst (by assumption) ?_

theorem execStage_ordered (w : Wire) (here : Arrival) (s : State) :
    Answers s (execStage w here s) := by
  unfold execStage
  dsimp only
  with_reducible repeat' first
    | assumption | intro _ _ _ | intro _ _ | exact Ordered.refl _ | apply Answers.next | apply Answers.ite
    | apply State.reply_ordered | apply State.served_ordered | apply State.stageItems_ordered
    | refine Ordered.of_fst (by assumption) ?_

theorem execCommit_ordered (f : Frame) (forced : Option ObjKey) (s : State) :
    Answers s (execCommit f forced s) := by
  unfold execCommit
  dsimp only
  with_reducible repeat' first
    | assumption | intro _ _ _ | intro _ _ | exact Ordered.refl _ | apply Answers.next | apply Answers.ite
    | apply Ordered.ite | apply State.answer_ordered | apply State.commitAll_ordered | apply State.probe_ordered
    | apply State.reply_ordered | apply State.served_ordered | apply State.writeAll_ordered | split

theorem execDiscard_ordered (f : Frame) (s : State) :
    Answers s (execDiscard f s) := by
  unfold execDiscard
  with_reducible repeat' first
    | assumption | intro _ _ _ | intro _ _ | exact Ordered.refl _ | apply Answers.next | apply Answers.ite
    | apply State.reply_ordered | apply State.served_ordered | apply State.setStaged_ordered

theorem execStagedSetExpiry_ordered (x : SessionId) (s : State) :
    Answers s (execStagedSetExpiry x s) := by
  unfold execStagedSetExpiry
  with_reducible repeat' first
    | assumption | exact Ordered.refl _ | apply Answers.next | apply Answers.ite | apply Ordered.ite
    | apply State.setStaged_ordered | split

theorem execSave_ordered (w : Wire) (here : Arrival) (s : State) :
    Answers s (execSave w here s) := by
  unfold execSave
  dsimp only
  with_reducible repeat' first
    | assumption | intro _ _ _ | intro _ _ | exact Ordered.refl _ | apply Answers.next | apply Answers.ite
    | apply Ordered.ite | apply State.reply_ordered | apply State.served_ordered | apply State.startSave_ordered

theorem execSaveComplete_ordered (result : SaveResult) (s : State) :
    Answers s (execSaveComplete result s) := by
  unfold execSaveComplete
  with_reducible repeat' first
    | assumption | exact Ordered.refl _ | apply Answers.next | apply Answers.ite | apply State.saveDone_ordered
    | apply State.saveFailed_ordered | split

theorem execRestore_ordered (w : Wire) (queued : Nat) (guests : BitVec 4) (s : State) :
    Answers s (execRestore w queued guests s) := by
  unfold execRestore
  dsimp only
  with_reducible repeat' first
    | assumption | intro _ _ _ | intro _ _ | exact Ordered.refl _ | apply Answers.next | apply Answers.ite
    | apply Ordered.foldS | apply Ordered.ite | apply State.answer_ordered | apply State.event_ordered
    | apply State.probe_ordered | apply State.reply_ordered | apply State.restoreObj_ordered
    | apply State.served_ordered | split

theorem execGuestObjectTimeout_ordered (a : Fin 4) (s : State) :
    Answers s (execGuestObjectTimeout a s) := by
  unfold execGuestObjectTimeout
  dsimp only
  with_reducible repeat' first
    | assumption | exact Ordered.refl _ | apply Answers.next | apply Answers.ite | apply Ordered.ite
    | apply State.fault_ordered | apply State.onDict_ordered | apply State.releaseHeld_ordered | split

theorem execGuestObjectReport_ordered (a : Fin 4) (objs : List GuestObj) (s : State) :
    Answers s (execGuestObjectReport a objs s) := by
  unfold execGuestObjectReport
  dsimp only
  with_reducible repeat' first
    | assumption | exact Ordered.refl _ | apply Answers.next | apply Answers.ite | apply Ordered.ite
    | apply State.onDict_ordered

theorem execSilenceEnd_ordered (x : Sender) (s : State) :
    Answers s (execSilenceEnd x s) := by
  unfold execSilenceEnd
  with_reducible repeat' first
    | assumption | exact Ordered.refl _ | apply Answers.next | apply Answers.ite | apply Ordered.ite
    | apply State.event_ordered | apply State.onDict_ordered

theorem execKeyGraceEnd_ordered (s : State) :
    Answers s (execKeyGraceEnd s) := by
  unfold execKeyGraceEnd
  with_reducible repeat' first
    | assumption | exact Ordered.refl _ | apply Answers.next | apply Answers.ite | apply State.onDict_ordered

theorem execMctpReassemblyTimeout_ordered (s : State) :
    Answers s (execMctpReassemblyTimeout s) := by
  unfold execMctpReassemblyTimeout
  with_reducible repeat' first
    | assumption | exact Ordered.refl _ | apply Answers.next | apply Answers.ite | apply Ordered.ite
    | apply State.fault_ordered | apply State.frameDropped_ordered

theorem execBuythSend_ordered (h : NvmeHdr) (length : Nat) (frame : List Byte) (s : State) :
    Answers s (execBuythSend h length frame s) := by
  unfold execBuythSend
  with_reducible repeat' first
    | assumption | intro _ _ _ | intro _ _ | exact Ordered.refl _ | apply Answers.next | apply Answers.ite
    | apply Ordered.ite | apply State.admin_ordered | apply State.cmdReady_ordered | apply State.onDict_ordered

theorem execBuythReceive_ordered (h : NvmeHdr) (tagId : BitVec 32) (buflen : Nat) (s : State) :
    Answers s (execBuythReceive h tagId buflen s) := by
  unfold execBuythReceive
  dsimp only
  with_reducible repeat' first
    | assumption | exact fun _ => rfl | intro _ _ _ | intro _ _ | exact Ordered.refl _ | apply Answers.next
    | apply Answers.ite | apply State.admin_ordered | apply State.handOver_ordered | apply State.onCmd_ordered
    | apply State.onDict_ordered | split

theorem execBuythReceiveTimeout_ordered (ctrl : Fin 2) (tagId : BitVec 32) (s : State) :
    Answers s (execBuythReceiveTimeout ctrl tagId s) := by
  unfold execBuythReceiveTimeout
  with_reducible repeat' first
    | assumption | exact Ordered.refl _ | apply Answers.next | apply Answers.ite | apply Ordered.ite
    | apply State.cmdReady_ordered | split

theorem execT1sLinkStateChange_ordered (up beacon dup phyFault : Bool) (s : State) :
    Answers s (execT1sLinkStateChange up beacon dup phyFault s) := by
  unfold execT1sLinkStateChange
  dsimp only
  with_reducible repeat' first
    | assumption | intro _ _ | exact Ordered.refl _ | apply Answers.next | apply Answers.ite | apply Ordered.doIf
    | apply Ordered.ite | apply State.fault_ordered | apply State.setLink_ordered

theorem execEntdaa_ordered (x : DaaInputs) (s : State) :
    Answers s (execEntdaa x s) := by
  unfold execEntdaa
  with_reducible repeat' first
    | assumption | exact Ordered.refl _ | apply Answers.next | apply Answers.ite | apply Ordered.ite
    | apply State.fault_ordered | apply State.onDict_ordered | apply State.setLink_ordered

theorem execNop_ordered (e : Fin 4) (s : State) :
    Answers s (execNop e s) := by
  unfold execNop
  with_reducible repeat' first
    | assumption | intro _ _ _ | intro _ _ | exact Ordered.refl _ | apply Answers.next | apply Answers.ite
    | apply State.engineDo_ordered

theorem execAdd_ordered (e : Fin 4) (fd fa fb : BitVec 8) (s : State) :
    Answers s (execAdd e fd fa fb s) := by
  unfold execAdd
  with_reducible repeat' first
    | assumption | exact Ordered.refl _ | apply Answers.next | apply Answers.ite | apply State.engineReg_ordered

theorem execSub_ordered (e : Fin 4) (fd fa fb : BitVec 8) (s : State) :
    Answers s (execSub e fd fa fb s) := by
  unfold execSub
  with_reducible repeat' first
    | assumption | exact Ordered.refl _ | apply Answers.next | apply Answers.ite | apply State.engineReg_ordered

theorem execMul_ordered (e : Fin 4) (fd fa fb : BitVec 8) (s : State) :
    Answers s (execMul e fd fa fb s) := by
  unfold execMul
  with_reducible repeat' first
    | assumption | exact Ordered.refl _ | apply Answers.next | apply Answers.ite | apply State.engineReg_ordered

theorem execFma_ordered (e : Fin 4) (fd fa fb : BitVec 8) (s : State) :
    Answers s (execFma e fd fa fb s) := by
  unfold execFma
  with_reducible repeat' first
    | assumption | exact Ordered.refl _ | apply Answers.next | apply Answers.ite | apply State.engineReg_ordered

theorem execFms_ordered (e : Fin 4) (fd fa fb : BitVec 8) (s : State) :
    Answers s (execFms e fd fa fb s) := by
  unfold execFms
  with_reducible repeat' first
    | assumption | exact Ordered.refl _ | apply Answers.next | apply Answers.ite | apply State.engineReg_ordered

theorem execMin_ordered (e : Fin 4) (fd fa fb : BitVec 8) (s : State) :
    Answers s (execMin e fd fa fb s) := by
  unfold execMin
  with_reducible repeat' first
    | assumption | exact Ordered.refl _ | apply Answers.next | apply Answers.ite | apply State.engineReg_ordered

theorem execMax_ordered (e : Fin 4) (fd fa fb : BitVec 8) (s : State) :
    Answers s (execMax e fd fa fb s) := by
  unfold execMax
  with_reducible repeat' first
    | assumption | exact Ordered.refl _ | apply Answers.next | apply Answers.ite | apply State.engineReg_ordered

theorem execMov_ordered (e : Fin 4) (fd fa : BitVec 8) (s : State) :
    Answers s (execMov e fd fa s) := by
  unfold execMov
  with_reducible repeat' first
    | assumption | exact Ordered.refl _ | apply Answers.next | apply Answers.ite | apply State.engineReg_ordered

theorem execAbs_ordered (e : Fin 4) (fd fa : BitVec 8) (s : State) :
    Answers s (execAbs e fd fa s) := by
  unfold execAbs
  with_reducible repeat' first
    | assumption | exact Ordered.refl _ | apply Answers.next | apply Answers.ite | apply State.engineReg_ordered

theorem execNeg_ordered (e : Fin 4) (fd fa : BitVec 8) (s : State) :
    Answers s (execNeg e fd fa s) := by
  unfold execNeg
  with_reducible repeat' first
    | assumption | exact Ordered.refl _ | apply Answers.next | apply Answers.ite | apply State.engineReg_ordered

theorem execRcp_ordered (e : Fin 4) (fd fa : BitVec 8) (s : State) :
    Answers s (execRcp e fd fa s) := by
  unfold execRcp
  with_reducible repeat' first
    | assumption | exact Ordered.refl _ | apply Answers.next | apply Answers.ite | apply State.engineReg_ordered

theorem execFtoi_ordered (e : Fin 4) (fd fa : BitVec 8) (s : State) :
    Answers s (execFtoi e fd fa s) := by
  unfold execFtoi
  with_reducible repeat' first
    | assumption | exact Ordered.refl _ | apply Answers.next | apply Answers.ite | apply State.engineReg_ordered

theorem execItof_ordered (e : Fin 4) (fd fa : BitVec 8) (s : State) :
    Answers s (execItof e fd fa s) := by
  unfold execItof
  with_reducible repeat' first
    | assumption | exact Ordered.refl _ | apply Answers.next | apply Answers.ite | apply State.engineReg_ordered

theorem execClamp_ordered (e : Fin 4) (fd fa fb : BitVec 8) (s : State) :
    Answers s (execClamp e fd fa fb s) := by
  unfold execClamp
  with_reducible repeat' first
    | assumption | exact Ordered.refl _ | apply Answers.next | apply Answers.ite | apply State.engineReg_ordered

theorem execCmp_ordered (e : Fin 4) (cond : BitVec 4) (fa fb : BitVec 8) (s : State) :
    Answers s (execCmp e cond fa fb s) := by
  unfold execCmp
  with_reducible repeat' first
    | assumption | intro _ _ _ | intro _ _ | exact Ordered.refl _ | apply Answers.next | apply Answers.ite
    | apply State.engineDo_ordered | apply State.engineHalt_ordered | apply State.onSve_ordered | split

theorem execTst_ordered (e : Fin 4) (fd : BitVec 8) (imm : BitVec 16) (s : State) :
    Answers s (execTst e fd imm s) := by
  unfold execTst
  with_reducible repeat' first
    | assumption | intro _ _ _ | intro _ _ | exact Ordered.refl _ | apply Answers.next | apply Answers.ite
    | apply State.engineDo_ordered | apply State.onSve_ordered

theorem execSel_ordered (e : Fin 4) (fd fa fb : BitVec 8) (s : State) :
    Answers s (execSel e fd fa fb s) := by
  unfold execSel
  with_reducible repeat' first
    | assumption | exact Ordered.refl _ | apply Answers.next | apply Answers.ite | apply Ordered.ite
    | apply State.engineReg_ordered

theorem execLdi_ordered (e : Fin 4) (fd : BitVec 8) (imm : BitVec 16) (s : State) :
    Answers s (execLdi e fd imm s) := by
  unfold execLdi
  with_reducible repeat' first
    | assumption | exact Ordered.refl _ | apply Answers.next | apply Answers.ite | apply State.engineReg_ordered

theorem execLd_ordered (e : Fin 4) (fd : BitVec 8) (addr : BitVec 11) (s : State) :
    Answers s (execLd e fd addr s) := by
  unfold execLd
  with_reducible repeat' first
    | assumption | exact Ordered.refl _ | apply Answers.next | apply Answers.ite | apply State.engineReg_ordered

theorem execSt_ordered (e : Fin 4) (fd : BitVec 8) (addr : BitVec 11) (s : State) :
    Answers s (execSt e fd addr s) := by
  unfold execSt
  with_reducible repeat' first
    | assumption | intro _ _ _ | intro _ _ | exact Ordered.refl _ | apply Answers.next | apply Answers.ite
    | apply State.engineDo_ordered | apply State.setDataWord_ordered

theorem execLdx_ordered (e : Fin 4) (fd fa : BitVec 8) (s : State) :
    Answers s (execLdx e fd fa s) := by
  unfold execLdx
  with_reducible repeat' first
    | assumption | exact Ordered.refl _ | apply Answers.next | apply Answers.ite | apply State.engineReg_ordered

theorem execStx_ordered (e : Fin 4) (fd fa : BitVec 8) (s : State) :
    Answers s (execStx e fd fa s) := by
  unfold execStx
  with_reducible repeat' first
    | assumption | intro _ _ _ | intro _ _ | exact Ordered.refl _ | apply Answers.next | apply Answers.ite
    | apply State.engineDo_ordered | apply State.setDataWord_ordered

theorem execBiq_ordered (e : Fin 4) (fd fa fb : BitVec 8) (s : State) :
    Answers s (execBiq e fd fa fb s) := by
  unfold execBiq
  with_reducible repeat' first
    | assumption | intro _ _ _ | intro _ _ | exact Ordered.refl _ | apply Answers.next | apply Answers.ite
    | apply Ordered.ite | apply State.engineDo_ordered | apply State.engineHalt_ordered | apply State.onSve_ordered

theorem execIntp_ordered (e : Fin 4) (fd fa fb : BitVec 8) (s : State) :
    Answers s (execIntp e fd fa fb s) := by
  unfold execIntp
  with_reducible repeat' first
    | assumption | intro _ _ _ | intro _ _ | exact Ordered.refl _ | apply Answers.next | apply Answers.ite
    | apply Ordered.ite | apply State.engineDo_ordered | apply State.engineHalt_ordered | apply State.onSve_ordered
    | split

theorem execInPort_ordered (e : Fin 4) (fd port : BitVec 8) (s : State) :
    Answers s (execInPort e fd port s) := by
  unfold execInPort
  with_reducible repeat' first
    | assumption | exact Ordered.refl _ | apply Answers.next | apply Answers.ite | apply State.engineReg_ordered

theorem execOutPort_ordered (e : Fin 4) (fa port : BitVec 8) (s : State) :
    Answers s (execOutPort e fa port s) := by
  unfold execOutPort
  dsimp only
  with_reducible repeat' first
    | assumption | intro _ _ _ | intro _ _ | exact Ordered.refl _ | apply Answers.next | apply Answers.ite
    | apply Ordered.ite | apply State.engineDo_ordered | apply State.onSve_ordered | split

theorem execBr_ordered (e : Fin 4) (cond : BitVec 2) (target : BitVec 12) (s : State) :
    Answers s (execBr e cond target s) := by
  unfold execBr
  with_reducible repeat' first
    | assumption | intro _ _ _ | intro _ _ | exact Ordered.refl _ | apply Answers.next | apply Answers.ite
    | apply Ordered.ite | apply State.engineDo_ordered | apply State.engineHalt_ordered | apply State.onSve_ordered
    | split

theorem execSegEndM_ordered (e : Fin 4) (s : State) :
    Answers s (execSegEndM e s) := by
  unfold execSegEndM
  dsimp only
  with_reducible repeat' first
    | assumption | intro _ _ _ | intro _ _ | exact Ordered.refl _ | apply Answers.next | apply Answers.ite
    | apply Ordered.foldl | apply Ordered.ite | apply State.countSlack_ordered | apply State.engineDo_ordered
    | apply State.lateEnd_ordered | apply State.onSvb_ordered | apply State.onSve_ordered

theorem execSegXc_ordered (e : Fin 4) (seg : BitVec 4) (endAddr : BitVec 12) (s : State) :
    Answers s (execSegXc e seg endAddr s) := by
  unfold execSegXc
  dsimp only
  with_reducible repeat' first
    | assumption | intro _ _ _ | intro _ _ | exact Ordered.refl _ | apply Answers.next | apply Answers.ite
    | apply Ordered.ite | apply State.engineDo_ordered | apply State.onSve_ordered

theorem execSegEnd_ordered (e : Fin 4) (s : State) :
    Answers s (execSegEnd e s) := by
  unfold execSegEnd
  with_reducible repeat' first
    | assumption | intro _ _ _ | intro _ _ | exact Ordered.refl _ | apply Answers.next | apply Answers.ite
    | apply State.engineDo_ordered | apply State.onSve_ordered

theorem execSig_ordered (e : Fin 4) (imm : BitVec 16) (s : State) :
    Answers s (execSig e imm s) := by
  unfold execSig
  with_reducible repeat' first
    | assumption | intro _ _ _ | intro _ _ | exact Ordered.refl _ | apply Answers.next | apply Answers.ite
    | apply Ordered.ite | apply State.actEvent_ordered | apply State.chalkSeen_ordered
    | apply State.engineDo_ordered | apply State.onSve_ordered

theorem execIllegalInstruction_ordered (e : Fin 4) (addrErr : Bool) (s : State) :
    Answers s (execIllegalInstruction e addrErr s) := by
  unfold execIllegalInstruction
  dsimp only
  with_reducible repeat' first
    | assumption | exact Ordered.refl _ | apply Answers.next | apply Answers.ite | apply Ordered.ite
    | apply State.engineHalt_ordered | apply State.xcStop_ordered

theorem execXcBoundOverrun_ordered (e : Fin 4) (s : State) :
    Answers s (execXcBoundOverrun e s) := by
  unfold execXcBoundOverrun
  with_reducible repeat' first
    | assumption | exact Ordered.refl _ | apply Answers.next | apply Answers.ite | apply Ordered.ite
    | apply State.xcStop_ordered

theorem execSampleInstant_ordered (a : Fin 4) (x : SampleInputs) (s : State) :
    Answers s (execSampleInstant a x s) := by
  unfold execSampleInstant
  with_reducible repeat' first
    | assumption | exact Ordered.refl _ | apply Answers.next | apply Answers.ite | apply Ordered.ite
    | apply State.sampleInstant_ordered

theorem execDampEnd_ordered (a : Fin 4) (s : State) :
    Answers s (execDampEnd a s) := by
  unfold execDampEnd
  with_reducible repeat' first
    | assumption | exact Ordered.refl _ | apply Answers.next | apply Answers.ite | apply Ordered.ite
    | apply State.islandRequest_ordered | apply State.makeSafe_ordered | apply State.onSve_ordered
    | apply State.velocityFrame_ordered

theorem execEngineRun_ordered (a : Fin 4) (s : State) :
    Answers s (execEngineRun a s) := by
  unfold execEngineRun
  dsimp only
  with_reducible repeat' first
    | assumption | exact Ordered.refl _ | apply Answers.next | apply Answers.ite | apply Ordered.ite
    | apply State.onSve_ordered

theorem execEngineStop_ordered (a : Fin 4) (s : State) :
    Answers s (execEngineStop a s) := by
  unfold execEngineStop
  dsimp only
  with_reducible repeat' first
    | assumption | exact Ordered.refl _ | apply Answers.next | apply Answers.ite | apply Ordered.ite
    | apply State.onSve_ordered | apply State.sveFlag_ordered

theorem execSveEntryWrite_ordered (a : Fin 4) (entry : BitVec 12) (s : State) :
    Answers s (execSveEntryWrite a entry s) := by
  unfold execSveEntryWrite
  with_reducible repeat' first
    | assumption | exact Ordered.refl _ | apply Answers.next | apply Answers.ite | apply State.onSve_ordered

theorem execSveRegisterWrite_ordered (a : Fin 4) (n : BitVec 8) (v : BitVec 32) (s : State) :
    Answers s (execSveRegisterWrite a n v s) := by
  unfold execSveRegisterWrite
  dsimp only
  with_reducible repeat' first
    | assumption | exact Ordered.refl _ | apply Answers.next | apply Answers.ite | apply Ordered.ite
    | apply State.onSve_ordered | apply State.sveFlag_ordered

theorem execUpdateGo_ordered (a : Fin 4) (count : BitVec 6) (s : State) :
    Answers s (execUpdateGo a count s) := by
  unfold execUpdateGo
  dsimp only
  with_reducible repeat' first
    | assumption | exact Ordered.refl _ | apply Answers.next | apply Answers.ite | apply Ordered.ite
    | apply State.applyUpdates_ordered | apply State.onSve_ordered | apply State.sveFlag_ordered

theorem execSeekStart_ordered (a : Fin 4) (v : BitVec 32) (principal : Bool) (s : State) :
    Answers s (execSeekStart a v principal s) := by
  unfold execSeekStart
  dsimp only
  with_reducible repeat' first
    | assumption | exact Ordered.refl _ | apply Answers.next | apply Answers.ite | apply Ordered.ite
    | apply State.onSvp_ordered | apply State.wpMoved_ordered | split

theorem execInjectRun_ordered (a : Fin 4) (v : BitVec 32) (s : State) :
    Answers s (execInjectRun a v s) := by
  unfold execInjectRun
  dsimp only
  with_reducible repeat' first
    | assumption | exact Ordered.refl _ | apply Answers.next | apply Answers.ite | apply Ordered.ite
    | apply State.engineRequest_ordered | apply State.onSvi_ordered | apply State.sveFlag_ordered

theorem execInjectStop_ordered (a : Fin 4) (s : State) :
    Answers s (execInjectStop a s) := by
  unfold execInjectStop
  with_reducible repeat' first
    | assumption | exact Ordered.refl _ | apply Answers.next | apply Answers.ite | apply Ordered.ite
    | apply State.onSvi_ordered

theorem execInjectionEnd_ordered (a : Fin 4) (s : State) :
    Answers s (execInjectionEnd a s) := by
  unfold execInjectionEnd
  dsimp only
  with_reducible repeat' first
    | assumption | exact Ordered.refl _ | apply Answers.next | apply Answers.ite | apply Ordered.ite
    | apply State.injectEnd_ordered

theorem execCorrelationRun_ordered (a : Fin 4) (v : BitVec 32) (s : State) :
    Answers s (execCorrelationRun a v s) := by
  unfold execCorrelationRun
  dsimp only
  with_reducible repeat' first
    | assumption | exact Ordered.refl _ | apply Answers.next | apply Answers.ite | apply Ordered.ite
    | apply State.onSvc_ordered | apply State.sveFlag_ordered

theorem execCorrelationDone_ordered (a : Fin 4) (s : State) :
    Answers s (execCorrelationDone a s) := by
  unfold execCorrelationDone
  dsimp only
  with_reducible repeat' first
    | assumption | exact Ordered.refl _ | apply Answers.next | apply Answers.ite | apply Ordered.ite
    | apply State.correlationEnd_ordered | apply State.onSvc_ordered

theorem execChalkboardArm_ordered (a : Fin 4) (v : BitVec 32) (s : State) :
    Answers s (execChalkboardArm a v s) := by
  unfold execChalkboardArm
  dsimp only
  with_reducible repeat' first
    | assumption | exact Ordered.refl _ | apply Answers.next | apply Answers.ite | apply Ordered.ite
    | apply State.onSvb_ordered

theorem execChalkboardForce_ordered (a : Fin 4) (s : State) :
    Answers s (execChalkboardForce a s) := by
  unfold execChalkboardForce
  with_reducible repeat' first
    | assumption | exact Ordered.refl _ | apply Answers.next | apply Answers.ite | apply Ordered.ite
    | apply State.onSvb_ordered

theorem execChalkboardFull_ordered (a : Fin 4) (s : State) :
    Answers s (execChalkboardFull a s) := by
  unfold execChalkboardFull
  dsimp only
  with_reducible repeat' first
    | assumption | exact Ordered.refl _ | apply Answers.next | apply Answers.ite | apply Ordered.ite
    | apply State.actEvent_ordered | apply State.onSvb_ordered

theorem execSpnRun_ordered (s : State) :
    Answers s (execSpnRun s) := by
  unfold execSpnRun
  with_reducible repeat' first
    | assumption | exact Ordered.refl _ | apply Answers.next | apply Answers.ite | apply State.onSpn_ordered
    | apply State.spnStart_ordered | split

theorem execSpnStop_ordered (s : State) :
    Answers s (execSpnStop s) := by
  unfold execSpnStop
  with_reducible repeat' first
    | assumption | exact Ordered.refl _ | apply Answers.next | apply Answers.ite | apply State.spnStop_ordered

theorem execSpnTargetWrite_ordered (v : BitVec 32) (s : State) :
    Answers s (execSpnTargetWrite v s) := by
  unfold execSpnTargetWrite
  with_reducible repeat' first
    | assumption | exact Ordered.refl _ | apply Answers.next | apply Answers.ite | apply State.writeTarget_ordered

theorem execSpnDtcWrite_ordered (dtc : Bool) (s : State) :
    Answers s (execSpnDtcWrite dtc s) := by
  unfold execSpnDtcWrite
  with_reducible repeat' first
    | assumption | exact Ordered.refl _ | apply Answers.next | apply Answers.ite | apply Ordered.ite
    | apply State.onSpn_ordered | apply State.spnFlag_ordered

theorem execSpnParamWrite_ordered (sub : BitVec 8) (v : BitVec 32) (s : State) :
    Answers s (execSpnParamWrite sub v s) := by
  unfold execSpnParamWrite
  dsimp only
  with_reducible repeat' first
    | assumption | exact Ordered.refl _ | apply Answers.next | apply Answers.ite | apply Ordered.ite
    | apply State.onSpn_ordered | apply State.spnFlag_ordered | apply State.spnParamNow_ordered

theorem execRestCheckEnd_ordered (peakMv : Nat) (s : State) :
    Answers s (execRestCheckEnd peakMv s) := by
  unfold execRestCheckEnd
  with_reducible repeat' first
    | assumption | exact Ordered.refl _ | apply Answers.next | apply Answers.ite | apply Ordered.ite
    | apply State.spnAlign_ordered | apply State.spnCatch_ordered

theorem execAlignEnd_ordered (s : State) :
    Answers s (execAlignEnd s) := by
  unfold execAlignEnd
  with_reducible repeat' first
    | assumption | exact Ordered.refl _ | apply Answers.next | apply Answers.ite | apply Ordered.ite
    | apply State.onSpn_ordered | apply State.setElec_ordered | apply State.spnEnter_ordered

theorem execPwmPeriod_ordered (p : PwmInputs) (s : State) :
    Answers s (execPwmPeriod p s) := by
  unfold execPwmPeriod
  with_reducible repeat' first
    | assumption | exact Ordered.refl _ | apply Answers.next | apply Answers.ite | apply State.pwmPeriod_ordered

theorem execHandover_ordered (angle : BitVec 16) (s : State) :
    Answers s (execHandover angle s) := by
  unfold execHandover
  dsimp only
  with_reducible repeat' first
    | assumption | exact Ordered.refl _ | apply Answers.next | apply Answers.ite | apply Ordered.ite
    | apply State.enterRun_ordered | apply State.event_ordered | apply State.onSpn_ordered

theorem execLockedRotor_ordered (s : State) :
    Answers s (execLockedRotor s) := by
  unfold execLockedRotor
  with_reducible repeat' first
    | assumption | exact Ordered.refl _ | apply Answers.next | apply Answers.ite | apply Ordered.ite
    | apply State.lockedRotor_ordered | apply State.startFailed_ordered

theorem execStartRetry_ordered (s : State) :
    Answers s (execStartRetry s) := by
  unfold execStartRetry
  with_reducible repeat' first
    | assumption | exact Ordered.refl _ | apply Answers.next | apply Answers.ite | apply Ordered.ite
    | apply State.spnAlign_ordered

theorem execCatchEnd_ordered (rpm : Nat) (x : CatchFind) (s : State) :
    Answers s (execCatchEnd rpm x s) := by
  unfold execCatchEnd
  dsimp only
  with_reducible repeat' first
    | assumption | exact Ordered.refl _ | apply Answers.next | apply Answers.ite | apply Ordered.ite
    | apply State.event_ordered | apply State.holdWrites_ordered | apply State.onSpn_ordered
    | apply State.setElec_ordered | apply State.spnEnter_ordered

theorem execBemfLockHandover_ordered (s : State) :
    Answers s (execBemfLockHandover s) := by
  unfold execBemfLockHandover
  dsimp only
  with_reducible repeat' first
    | assumption | exact Ordered.refl _ | apply Answers.next | apply Answers.ite | apply Ordered.ite
    | apply State.enterRun_ordered | apply State.event_ordered | apply State.onSpn_ordered

theorem execObserverLoss_ordered (s : State) :
    Answers s (execObserverLoss s) := by
  unfold execObserverLoss
  dsimp only
  with_reducible repeat' first
    | assumption | exact Ordered.refl _ | apply Answers.next | apply Answers.ite | apply Ordered.ite
    | apply State.event_ordered | apply State.fault_ordered | apply State.holdWrites_ordered
    | apply State.onSpn_ordered | apply State.setElec_ordered | apply State.spnEnter_ordered
    | apply State.spnFlag_ordered

theorem execReacquired_ordered (s : State) :
    Answers s (execReacquired s) := by
  unfold execReacquired
  dsimp only
  with_reducible repeat' first
    | assumption | exact Ordered.refl _ | apply Answers.next | apply Answers.ite | apply Ordered.ite
    | apply State.enterRun_ordered | apply State.event_ordered

theorem execFlywheelExpiry_ordered (s : State) :
    Answers s (execFlywheelExpiry s) := by
  unfold execFlywheelExpiry
  with_reducible repeat' first
    | assumption | exact Ordered.refl _ | apply Answers.next | apply Answers.ite | apply Ordered.ite
    | apply State.fault_ordered | apply State.onSpn_ordered | apply State.spnEnter_ordered

theorem execOvWarnCross_ordered (up : Bool) (mv : Nat) (s : State) :
    Answers s (execOvWarnCross up mv s) := by
  unfold execOvWarnCross
  dsimp only
  with_reducible repeat' first
    | assumption | intro _ _ | exact Ordered.refl _ | apply Answers.next | apply Answers.ite | apply Ordered.doIf
    | apply Ordered.ite | apply State.fault_ordered | apply State.onRc_ordered | apply State.onSpn_ordered
    | apply State.spnCatch_ordered | apply State.spnFlag_ordered

theorem execChopOnCross_ordered (mv : Nat) (s : State) :
    Answers s (execChopOnCross mv s) := by
  unfold execChopOnCross
  with_reducible repeat' first
    | assumption | exact Ordered.refl _ | apply Answers.next | apply Answers.ite | apply Ordered.ite
    | apply State.event_ordered | apply State.onSpn_ordered | apply State.spnFlag_ordered

theorem execChopOffCross_ordered (s : State) :
    Answers s (execChopOffCross s) := by
  unfold execChopOffCross
  dsimp only
  with_reducible repeat' first
    | assumption | exact Ordered.refl _ | apply Answers.next | apply Answers.ite | apply Ordered.ite
    | apply State.event_ordered | apply State.fault_ordered | apply State.onSpn_ordered

theorem execChopSenseTimeout_ordered (mv : Nat) (s : State) :
    Answers s (execChopSenseTimeout mv s) := by
  unfold execChopSenseTimeout
  with_reducible repeat' first
    | assumption | exact Ordered.refl _ | apply Answers.next | apply Answers.ite | apply Ordered.ite
    | apply State.chopperFault_ordered

theorem execChopWinExpiry_ordered (mv : Nat) (s : State) :
    Answers s (execChopWinExpiry mv s) := by
  unfold execChopWinExpiry
  with_reducible repeat' first
    | assumption | exact Ordered.refl _ | apply Answers.next | apply Answers.ite | apply Ordered.ite
    | apply State.chopperFault_ordered

theorem execOvFatalCross_ordered (s : State) :
    Answers s (execOvFatalCross s) := by
  unfold execOvFatalCross
  dsimp only
  with_reducible repeat' first
    | assumption | exact Ordered.refl _ | apply Answers.next | apply Answers.ite | apply State.fault_ordered
    | apply State.onSpn_ordered | apply State.retractAll_ordered | apply State.spnEnter_ordered
    | apply State.spnFlag_ordered | apply State.spnGiveUp_ordered

theorem execRefMove_ordered (s : State) :
    Answers s (execRefMove s) := by
  unfold execRefMove
  dsimp only
  with_reducible repeat' first
    | assumption | exact Ordered.refl _ | apply Answers.next | apply Answers.ite | apply Ordered.ite
    | apply State.event_ordered | apply State.fault_ordered | apply State.onSpn_ordered
    | apply State.spnFlag_ordered

theorem execSpeedDeviation_ordered (s : State) :
    Answers s (execSpeedDeviation s) := by
  unfold execSpeedDeviation
  with_reducible repeat' first
    | assumption | exact Ordered.refl _ | apply Answers.next | apply Answers.ite | apply Ordered.ite
    | apply State.fault_ordered | apply State.onSpn_ordered

theorem execSlewRelease_ordered (s : State) :
    Answers s (execSlewRelease s) := by
  unfold execSlewRelease
  dsimp only
  with_reducible repeat' first
    | assumption | exact Ordered.refl _ | apply Answers.next | apply Answers.ite | apply Ordered.ite
    | apply State.event_ordered | apply State.onSpn_ordered | apply State.sendNotice_ordered

theorem execSlewStartInstant_ordered (a : Fin 4) (s : State) :
    Answers s (execSlewStartInstant a s) := by
  unfold execSlewStartInstant
  with_reducible repeat' first
    | assumption | exact Ordered.refl _ | apply Answers.next | apply Answers.ite | apply Ordered.ite
    | apply State.noticeStarts_ordered | apply State.notice_ordered

theorem execSlewRampEnd_ordered (a : Fin 4) (s : State) :
    Answers s (execSlewRampEnd a s) := by
  unfold execSlewRampEnd
  with_reducible repeat' first
    | assumption | exact Ordered.refl _ | apply Answers.next | apply Answers.ite | apply Ordered.ite
    | apply State.noticeEnds_ordered

theorem State.writeEo_ordered {z : State} (v : BitVec 32) (s : State) (hk : Ordered z s) :
    Ordered z (State.writeEo v s) := by
  unfold State.writeEo
  dsimp only
  with_reducible repeat' first
    | assumption | intro _ _ _ | intro _ _ | apply State.onHm_ordered | apply execEoForce_ordered
    | apply execEoHoldClear_ordered | apply onBit_ordered

theorem State.writeInject_ordered {z : State} (src : Endpoint) (v : BitVec 32) (s : State) (hk : Ordered z s) :
    Ordered z (State.writeInject src v s) := by
  unfold State.writeInject
  dsimp only
  with_reducible repeat' first
    | assumption | intro _ _ _ | intro _ _ | apply State.onHm_ordered | apply execHmInject_ordered
    | apply onBit_ordered

theorem State.writeSrc_ordered {z : State} (n : Fin 160) (view : Bool) (off : Nat) (v : BitVec 32) (s : State) (hk : Ordered z s) :
    Ordered z (State.writeSrc n view off v s) := by
  unfold State.writeSrc
  with_reducible repeat' first
    | assumption | apply Ordered.ite | apply Ordered.runEff | apply State.onHmSrc_ordered
    | apply State.writeSrcStat_ordered | apply execSrcCfgWrite_ordered | apply execSrcWinWrite_ordered | split

theorem State.writeHallView_ordered {z : State} (a : Fin 4) (off : Nat) (v : BitVec 32) (s : State) (hk : Ordered z s) :
    Ordered z (State.writeHallView a off v s) := by
  unfold State.writeHallView
  with_reducible repeat' first
    | assumption | apply Ordered.ite | apply State.onHm_ordered | apply State.writeSrc_ordered | split

theorem State.writeHall_ordered {z : State} (src : Endpoint) (off : Nat) (v : BitVec 32) (s : State) (hk : Ordered z s) :
    Ordered z (State.writeHall src off v s) := by
  unfold State.writeHall
  with_reducible repeat' first
    | assumption | intro _ _ _ | intro _ _ | apply Ordered.ite | apply State.clearLasting_ordered
    | apply State.onHmSrc_ordered | apply State.onHm_ordered | apply State.writeEo_ordered
    | apply State.writeHallView_ordered | apply State.writeInject_ordered | apply State.writeSrc_ordered
    | apply eachSource_ordered | apply execHistoryClear_ordered | apply onBit_ordered | split

theorem State.writeEvents_ordered {z : State} (off : Nat) (v : BitVec 32) (s : State) (hk : Ordered z s) :
    Ordered z (State.writeEvents off v s) := by
  unfold State.writeEvents
  dsimp only
  with_reducible repeat' first
    | assumption | apply Ordered.ite | apply Ordered.runEff | apply State.onEvc_ordered
    | apply State.writeEventView_ordered | apply execEvcPendClear_ordered | split

theorem State.writeYbCtl_ordered {z : State} (who : YbWho) (v : BitVec 32) (s : State) (hk : Ordered z s) :
    Ordered z (State.writeYbCtl who v s) := by
  unfold State.writeYbCtl
  with_reducible repeat' first
    | assumption | intro _ _ _ | intro _ _ | apply execYbCursorNext_ordered | apply execYbCursorPrev_ordered
    | apply execYbCursorToFirst_ordered | apply execYbCursorToLast_ordered | apply onBit_ordered

theorem State.writeYearbook_ordered {z : State} (who : YbWho) (off : Nat) (v : BitVec 32) (s : State) (hk : Ordered z s) :
    Ordered z (State.writeYearbook who off v s) := by
  unfold State.writeYearbook
  dsimp only
  with_reducible repeat' first
    | assumption | apply Ordered.ite | apply Ordered.runEff | apply State.onBank_ordered
    | apply State.writeYbCtl_ordered | apply execYbAppend_ordered | split

theorem State.writeChannel_ordered {z : State} (n : Fin 16) (off : Nat) (v : BitVec 32) (s : State) (hk : Ordered z s) :
    Ordered z (State.writeChannel n off v s) := by
  unfold State.writeChannel
  with_reducible repeat' first
    | assumption | intro _ _ _ | intro _ _ | apply Ordered.runEff | apply State.onDmaCh_ordered
    | apply execDmaAbort_ordered | apply execDmaKick_ordered | apply execDmaPtrWrite_ordered | apply onBit_ordered
    | split

theorem State.writeTimer_ordered {z : State} (t : Fin 16) (off : Nat) (v : BitVec 32) (s : State) (hk : Ordered z s) :
    Ordered z (State.writeTimer t off v s) := by
  unfold State.writeTimer
  dsimp only
  with_reducible repeat' first
    | assumption | intro _ _ _ | intro _ _ | apply Ordered.ite | apply Ordered.runEff | apply State.onTimer_ordered
    | apply execTimRun_ordered | apply execTimStop_ordered | apply onBit_ordered | split

theorem State.writeDma_ordered {z : State} (off : Nat) (v : BitVec 32) (s : State) (hk : Ordered z s) :
    Ordered z (State.writeDma off v s) := by
  unfold State.writeDma
  with_reducible repeat' first
    | assumption | apply Ordered.ite | apply State.writeChannel_ordered | apply State.writeTimer_ordered | split

theorem State.writeSpnCtl_ordered {z : State} (v : BitVec 32) (s : State) (hk : Ordered z s) :
    Ordered z (State.writeSpnCtl v s) := by
  unfold State.writeSpnCtl
  dsimp only
  with_reducible repeat' first
    | assumption | intro _ _ _ | intro _ _ | apply Ordered.runEff | apply State.onSpn_ordered
    | apply execSpnDtcWrite_ordered | apply execSpnRun_ordered | apply execSpnStop_ordered | apply onBit_ordered

theorem State.writeSpindle_ordered {z : State} (off : Nat) (v : BitVec 32) (s : State) (hk : Ordered z s) :
    Ordered z (State.writeSpindle off v s) := by
  unfold State.writeSpindle
  with_reducible repeat' first
    | assumption | apply Ordered.ite | apply Ordered.runEff | apply State.onSpn_ordered
    | apply State.writeSpnCtl_ordered | apply execSpnParamWrite_ordered | apply execSpnTargetWrite_ordered | split

theorem State.writeIslCtl_ordered {z : State} (a : Fin 4) (v : BitVec 32) (s : State) (hk : Ordered z s) :
    Ordered z (State.writeIslCtl a v s) := by
  unfold State.writeIslCtl
  dsimp only
  with_reducible repeat' first
    | assumption | intro _ _ _ | intro _ _ | apply Ordered.ite | apply Ordered.runEff | apply execCalDone_ordered
    | apply execCalFail_ordered | apply execHeadLoad_ordered | apply execHeadUnload_ordered | apply onBit_ordered

theorem State.writeCalReq_ordered {z : State} (a : Fin 4) (v : BitVec 32) (s : State) (hk : Ordered z s) :
    Ordered z (State.writeCalReq a v s) := by
  unfold State.writeCalReq
  dsimp only
  with_reducible repeat' first
    | assumption | intro _ _ _ | intro _ _ | apply Ordered.ite | apply Ordered.runEff | apply State.onCal_ordered
    | apply execCalRequest_ordered | apply execCalWithdraw_ordered | apply onBit_ordered

theorem State.writeIsl_ordered {z : State} (a : Fin 4) (off : Nat) (v : BitVec 32) (s : State) (hk : Ordered z s) :
    Ordered z (State.writeIsl a off v s) := by
  unfold State.writeIsl
  with_reducible repeat' first
    | assumption | intro _ _ _ | intro _ _ | apply State.onCal_ordered | apply State.writeCalReq_ordered
    | apply State.writeIslCtl_ordered | apply execCalGrantDone_ordered | apply onBit_ordered | split

theorem State.writeSvdCtl_ordered {z : State} (a : Fin 4) (v : BitVec 32) (s : State) (hk : Ordered z s) :
    Ordered z (State.writeSvdCtl a v s) := by
  unfold State.writeSvdCtl
  dsimp only
  with_reducible repeat' first
    | assumption | intro _ _ _ | intro _ _ | apply Ordered.ite | apply Ordered.runEff | apply State.odSetA_ordered
    | apply execForceAcquire_ordered | apply execHeadSwitch_ordered | apply onBit_ordered

theorem State.writeSvd_ordered {z : State} (a : Fin 4) (off : Nat) (v : BitVec 32) (s : State) (hk : Ordered z s) :
    Ordered z (State.writeSvd a off v s) := by
  unfold State.writeSvd
  with_reducible repeat' first
    | assumption | apply Ordered.runEff | apply State.odSetA_ordered | apply State.onSvd_ordered
    | apply State.writeSvdCtl_ordered | apply execSvdTargetWrite_ordered | split

theorem State.writeUpdCtl_ordered {z : State} (a : Fin 4) (v : BitVec 32) (s : State) (hk : Ordered z s) :
    Ordered z (State.writeUpdCtl a v s) := by
  unfold State.writeUpdCtl
  with_reducible repeat' first
    | assumption | apply Ordered.ite | apply Ordered.runEff | apply State.onSve_ordered
    | apply State.sveFlag_ordered | apply execUpdateGo_ordered

theorem State.writeSviCtl_ordered {z : State} (a : Fin 4) (v : BitVec 32) (s : State) (hk : Ordered z s) :
    Ordered z (State.writeSviCtl a v s) := by
  unfold State.writeSviCtl
  with_reducible repeat' first
    | assumption | intro _ _ _ | intro _ _ | apply Ordered.ite | apply Ordered.runEff
    | apply State.engineRequest_ordered | apply State.onSvi_ordered | apply execInjectRun_ordered
    | apply execInjectStop_ordered | apply onBit_ordered

theorem State.writeSvcCtl_ordered {z : State} (a : Fin 4) (v : BitVec 32) (s : State) (hk : Ordered z s) :
    Ordered z (State.writeSvcCtl a v s) := by
  unfold State.writeSvcCtl
  with_reducible repeat' first
    | assumption | apply Ordered.ite | apply Ordered.runEff | apply State.onSvc_ordered
    | apply execCorrelationRun_ordered

theorem State.writeSvbCtl_ordered {z : State} (a : Fin 4) (v : BitVec 32) (s : State) (hk : Ordered z s) :
    Ordered z (State.writeSvbCtl a v s) := by
  unfold State.writeSvbCtl
  dsimp only
  with_reducible repeat' first
    | assumption | intro _ _ _ | intro _ _ | apply Ordered.ite | apply Ordered.runEff | apply State.onSvb_ordered
    | apply execChalkboardArm_ordered | apply execChalkboardForce_ordered | apply onBit_ordered

theorem State.writeSveRange_ordered {z : State} (a : Fin 4) (off : Nat) (v : BitVec 32) (s : State) (hk : Ordered z s) :
    Ordered z (State.writeSveRange a off v s) := by
  unfold State.writeSveRange
  dsimp only
  with_reducible repeat' first
    | assumption | apply Ordered.ite | apply Ordered.runEff | apply State.odSetA_ordered | apply State.onSvb_ordered
    | apply State.onSve_ordered | apply State.onSvi_ordered | apply State.writeUpd_ordered
    | apply execSveRegisterWrite_ordered

theorem State.writeSve_ordered {z : State} (a : Fin 4) (principal : Bool) (off : Nat) (v : BitVec 32) (s : State) (hk : Ordered z s) :
    Ordered z (State.writeSve a principal off v s) := by
  unfold State.writeSve
  with_reducible repeat' first
    | assumption | intro _ _ _ | intro _ _ | apply Ordered.runEff | apply State.odSetA_ordered
    | apply State.onSvb_ordered | apply State.onSvc_ordered | apply State.onSve_ordered | apply State.onSvi_ordered
    | apply State.onSvp_ordered | apply State.writeDecay_ordered | apply State.writeSvbCtl_ordered
    | apply State.writeSvcCtl_ordered | apply State.writeSveCfg_ordered | apply State.writeSveRange_ordered
    | apply State.writeSviCtl_ordered | apply State.writeUpdCtl_ordered | apply execEngineRun_ordered
    | apply execEngineStop_ordered | apply execSeekStart_ordered | apply execSveEntryWrite_ordered
    | apply onBit_ordered | split

theorem State.writeRchPin_ordered {z : State} (a : Fin 4) (v : BitVec 32) (s : State) (hk : Ordered z s) :
    Ordered z (State.writeRchPin a v s) := by
  unfold State.writeRchPin
  dsimp only
  with_reducible repeat' first
    | assumption | intro _ _ _ | intro _ _ | apply Ordered.foldS | apply execSlotPin_ordered
    | apply execSlotUnpin_ordered | apply onBit_ordered

theorem State.writeRpl_ordered {z : State} (a : Fin 4) (v : BitVec 32) (s : State) (hk : Ordered z s) :
    Ordered z (State.writeRpl a v s) := by
  unfold State.writeRpl
  dsimp only
  with_reducible repeat' first
    | assumption | intro _ _ _ | intro _ _ | apply State.onRch_ordered | apply execReplayRequest_ordered
    | apply onBit_ordered

theorem State.writeRch_ordered {z : State} (a : Fin 4) (off : Nat) (v : BitVec 32) (s : State) (hk : Ordered z s) :
    Ordered z (State.writeRch a off v s) := by
  unfold State.writeRch
  with_reducible repeat' first
    | assumption | apply Ordered.ite | apply State.odSetA_ordered | apply State.onRch_ordered
    | apply State.writeRchBank_ordered | apply State.writeRchCtl_ordered | apply State.writeRchPin_ordered
    | apply State.writeRpl_ordered | split

theorem State.writeWpCtl_ordered {z : State} (a : Fin 4) (guest : Bool) (v : BitVec 32) (s : State) (hk : Ordered z s) :
    Ordered z (State.writeWpCtl a guest v s) := by
  unfold State.writeWpCtl
  dsimp only
  with_reducible repeat' first
    | assumption | apply Ordered.ite | apply Ordered.runEff | apply State.odSetA_ordered | apply State.onWp_ordered
    | apply State.wpConflict_ordered | apply execWriteHold_ordered

theorem State.writePsc_ordered {z : State} (a : Fin 4) (off : Nat) (v : BitVec 32) (s : State) (hk : Ordered z s) :
    Ordered z (State.writePsc a off v s) := by
  unfold State.writePsc
  with_reducible repeat' first
    | assumption | intro _ _ _ | intro _ _ | apply Ordered.ite | apply Ordered.runEff | apply State.onPsc_ordered
    | apply execPscCtlFclr_ordered | apply execPscCtlIdReq_ordered | apply execPscRawSend_ordered
    | apply execPscSenseRequest_ordered | apply onBit_ordered | split

theorem State.writeWp_ordered {z : State} (a : Fin 4) (guest : Bool) (off : Nat) (v : BitVec 32) (s : State) (hk : Ordered z s) :
    Ordered z (State.writeWp a guest off v s) := by
  unfold State.writeWp
  with_reducible repeat' first
    | assumption | apply Ordered.ite | apply State.onWp_ordered | apply State.wpConflict_ordered
    | apply State.writePsc_ordered | apply State.writeWpCtl_ordered | apply State.writeWpResident_ordered

theorem State.writeIsland_ordered {z : State} (a : Fin 4) (guest principal : Bool) (off : Nat) (v : BitVec 32) (s : State) (hk : Ordered z s) :
    Ordered z (State.writeIsland a guest principal off v s) := by
  unfold State.writeIsland
  with_reducible repeat' first
    | assumption | apply State.writeIsl_ordered | apply State.writeMsn_ordered | apply State.writeRch_ordered
    | apply State.writeSvd_ordered | apply State.writeSve_ordered | apply State.writeWp_ordered | split

theorem State.writeScrubber_ordered {z : State} (off : Nat) (v : BitVec 32) (s : State) (hk : Ordered z s) :
    Ordered z (State.writeScrubber off v s) := by
  unfold State.writeScrubber
  dsimp only
  with_reducible repeat' first
    | assumption | intro _ _ _ | intro _ _ | apply Ordered.ite | apply Ordered.runEff | apply State.onScr_ordered
    | apply State.writeScrubRange_ordered | apply execScrubAbort_ordered | apply execScrubGo_ordered
    | apply onBit_ordered | split

theorem State.regPut_ordered {z : State} (src : Endpoint) (r : Rights) (p : BusWin) (off : Nat) (v : BitVec 32) (s : State) (hk : Ordered z s) :
    Ordered z (State.regPut src r p off v s) := by
  unfold State.regPut
  dsimp only
  with_reducible repeat' first
    | assumption | apply Ordered.ite | apply State.writeDma_ordered | apply State.writeEvents_ordered
    | apply State.writeHall_ordered | apply State.writeIsland_ordered | apply State.writeScrubber_ordered
    | apply State.writeSpindle_ordered | apply State.writeYearbook_ordered | split

theorem State.writeWordAt_ordered {z : State} (src : Endpoint) (r : Rights) (p : BusWin) (addr : Nat) (data : List Byte) (s : State) (hk : Ordered z s) :
    Ordered z (State.writeWordAt src r p addr data s) := by
  unfold State.writeWordAt
  dsimp only
  with_reducible repeat' first | assumption | apply State.regPut_ordered | split

theorem State.writeWords_ordered {z : State} (src : Endpoint) (r : Rights) (p : BusWin) (n addr : Nat)
    (data : List Byte) (s : State) (hk : Ordered z s) : Ordered z (State.writeWords src r p n addr data s) := by
  induction n generalizing addr data s with
  | zero => exact hk
  | succ n ih =>
    unfold State.writeWords
    dsimp only
    split
    · exact hk
    · exact ih _ _ _ (State.writeWordAt_ordered _ _ _ _ _ _ hk)

theorem State.busWrite_ordered {z : State} (src : Endpoint) (r : Rights) (p : BusWin) (addr : Nat) (data : List Byte) (s : State) (hk : Ordered z s) :
    Ordered z (State.busWrite src r p addr data s) := by
  unfold State.busWrite
  with_reducible repeat' first
    | assumption | apply Ordered.ite | apply State.writeWords_ordered | apply State.write_ordered | split

theorem State.perform_ordered {z : State} (t : Txn) (s : State) (hk : Ordered z s) :
    Ordered z (State.perform t s).2.2 := by
  unfold State.perform
  dsimp only
  with_reducible repeat' first
    | assumption | apply State.busRead_ordered | apply State.busWrite_ordered | apply State.dramAccess_ordered
    | apply State.sramAmo_ordered | refine Ordered.of_snd (by assumption) ?_ | split

theorem State.localAccess_ordered {z : State} (src : Endpoint) (acc : Access) (s : State) (hk : Ordered z s) :
    Ordered z (State.localAccess src acc s) := by
  unfold State.localAccess
  dsimp only
  with_reducible repeat' first
    | assumption | apply Ordered.ite | apply State.giveResult_ordered | apply State.newTxn_ordered
    | apply State.perform_ordered | apply State.refuse_ordered | refine Ordered.of_snd (by assumption) ?_ | split

theorem State.coreIssue_ordered {z : State} (core : Endpoint) (acc : Access) (s : State) (hk : Ordered z s) :
    Ordered z (State.coreIssue core acc s) := by
  unfold State.coreIssue
  with_reducible repeat' first
    | assumption | apply Ordered.ite | apply State.issue_ordered | apply State.localAccess_ordered

theorem execCoreMemoryAccess_ordered (core : Endpoint) (acc : Access) (ecc : CoreEcc) (s : State) :
    Answers s (execCoreMemoryAccess core acc ecc s) := by
  unfold execCoreMemoryAccess
  dsimp only
  with_reducible repeat' first
    | assumption | exact Ordered.refl _ | apply Answers.next | apply Answers.ite | apply Ordered.ite
    | apply State.coreFault_ordered | apply State.coreIssue_ordered | apply State.giveResult_ordered
    | apply State.newTxn_ordered | apply State.onCore_ordered | apply State.tcmChecked_ordered
    | refine Ordered.of_snd (by assumption) ?_ | split

theorem execFabricTransaction_ordered (src : Endpoint) (chan : Option (Fin 16)) (acc : Access) (s : State) :
    Answers s (execFabricTransaction src chan acc s) := by
  unfold execFabricTransaction
  with_reducible repeat' first
    | assumption | exact Ordered.refl _ | apply Answers.next | apply Answers.ite | apply Ordered.ite
    | apply State.issue_ordered

theorem State.txnDone_ordered {z : State} (t : Txn) (s : State) (hk : Ordered z s) :
    Ordered z (State.txnDone t s) := by
  unfold State.txnDone
  dsimp only
  with_reducible repeat' first
    | assumption | apply Ordered.ite | apply State.dropTxn_ordered | apply State.giveResult_ordered
    | apply State.perform_ordered | refine Ordered.of_snd (by assumption) ?_ | split

theorem execTransactionComplete_ordered (txn : Nat) (resp : RespKind) (s : State) :
    Answers s (execTransactionComplete txn resp s) := by
  unfold execTransactionComplete
  with_reducible repeat' first
    | assumption | exact Ordered.refl _ | apply Answers.next | apply Answers.ite | apply Ordered.ite
    | apply State.dropTxn_ordered | apply State.fabricFault_ordered | apply State.faultAt_ordered
    | apply State.giveResult_ordered | apply State.txnDone_ordered | split

theorem execTransactionTimeout_ordered (txn : Nat) (s : State) :
    Answers s (execTransactionTimeout txn s) := by
  unfold execTransactionTimeout
  with_reducible repeat' first
    | assumption | exact Ordered.refl _ | apply Answers.next | apply Answers.ite | apply State.dropTxn_ordered
    | apply State.fabricFault_ordered | apply State.giveResult_ordered | split

theorem execKyomosFence_ordered (src : Endpoint) (s : State) :
    Answers s (execKyomosFence src s) := by
  unfold execKyomosFence
  with_reducible repeat' first
    | assumption | exact fun k => k | exact Ordered.refl _ | apply Answers.next | apply Answers.ite
    | apply Ordered.ite | apply State.onFab_ordered

theorem execFenceComplete_ordered (src : Endpoint) (s : State) :
    Answers s (execFenceComplete src s) := by
  unfold execFenceComplete
  with_reducible repeat' first
    | assumption | exact fun k => k | exact Ordered.refl _ | apply Answers.next | apply Answers.ite
    | apply State.onFab_ordered

theorem execChipTimeBroadcast_ordered (time : BitVec 64) (drift : List Int) (s : State) :
    Answers s (execChipTimeBroadcast time drift s) := by
  unfold execChipTimeBroadcast
  with_reducible repeat' first
    | assumption | intro _ _ _ | exact Ordered.refl _ | apply Answers.next | apply Answers.ite | apply Ordered.foldS
    | apply Ordered.ite | apply State.replicaMeets_ordered

theorem State.putRegister_ordered {z : State} (src : Endpoint) (acc : Access) (v : BitVec 32) (s : State) (hk : Ordered z s) :
    Ordered z (State.putRegister src acc v s) := by
  unfold State.putRegister
  with_reducible repeat' first
    | assumption | apply Ordered.ite | apply State.issue_ordered | apply State.regPut_ordered | split

theorem execRegisterWrite_ordered (src : Endpoint) (addr : BitVec 36) (v : BitVec 32) (s : State) :
    Answers s (execRegisterWrite src addr v s) := by
  unfold execRegisterWrite
  dsimp only
  with_reducible repeat' first
    | assumption | exact Ordered.refl _ | apply Answers.next | apply Answers.ite | apply Ordered.ite
    | apply State.newTxn_ordered | apply State.onCore_ordered | apply State.putRegister_ordered
    | apply State.refuse_ordered | refine Ordered.of_snd (by assumption) ?_ | split

theorem State.dmaPut_ordered {z : State} (n : Fin 16) (addr : Nat) (data : List Byte) (s : State) (hk : Ordered z s) :
    Ordered z (State.dmaPut n addr data s).2 := by
  unfold State.dmaPut
  dsimp only
  with_reducible repeat' first
    | assumption | apply State.busWrite_ordered | apply State.fabricFault_ordered | apply State.granWrite_ordered
    | split

theorem State.dmaBeat_ordered {z : State} (n : Fin 16) (d : DmaDesc) (b : Nat × Nat) (s : State) (hk : Ordered z s) :
    Ordered z (State.dmaBeat n d b s).2 := by
  unfold State.dmaBeat
  with_reducible repeat' first
    | assumption | apply State.dmaGet_ordered | apply State.dmaPut_ordered
    | refine Ordered.of_snd (by assumption) ?_ | split

theorem State.dmaMove_ordered {z : State} (n : Fin 16) (d : DmaDesc) (l : List (Nat × Nat)) (s : State)
    (hk : Ordered z s) : Ordered z (State.dmaMove n d l s).2 := by
  induction l generalizing s with
  | nil => exact hk
  | cons b r ih =>
    have hb := State.dmaBeat_ordered n d b s hk
    unfold State.dmaMove
    split
    · next heq => rwa [heq] at hb
    · next heq => exact ih _ (.of_snd heq hb)

theorem State.dmaBack_ordered {z : State} (n : Fin 16) (control : Word) (status : Nat) (wb : Option (Bool × BitVec 4)) (s : State) (hk : Ordered z s) :
    Ordered z (State.dmaBack n control status wb s).2 := by
  unfold State.dmaBack
  dsimp only
  with_reducible repeat' first
    | assumption | apply State.dmaPut_ordered | apply State.onDmaCh_ordered
    | refine Ordered.of_snd (by assumption) ?_ | split

theorem State.dmaError_ordered {z : State} (n : Fin 16) (control : Word) (status source : Nat) (wb : Option (Bool × BitVec 4)) (s : State) (hk : Ordered z s) :
    Ordered z (State.dmaError n control status source wb s) := by
  unfold State.dmaError
  dsimp only
  with_reducible repeat' first
    | assumption | apply Ordered.ite | apply State.dmaBack_ordered | apply State.dmaFails_ordered
    | apply State.dmaIrq_ordered | apply State.fault_ordered | refine Ordered.of_snd (by assumption) ?_ | split

theorem State.dmaBeatFails_ordered {z : State} (n : Fin 16) (d : DmaDesc) (f : BeatFail) (wb : Option (Bool × BitVec 4)) (s : State) (hk : Ordered z s) :
    Ordered z (State.dmaBeatFails n d f wb s) := by
  unfold State.dmaBeatFails
  with_reducible repeat' first
    | assumption | apply Ordered.ite | apply State.dmaError_ordered | apply State.dmaTail_ordered

theorem State.dmaDone_ordered {z : State} (n : Fin 16) (d : DmaDesc) (aborting : Bool) (wb : Option (Bool × BitVec 4)) (s : State) (hk : Ordered z s) :
    Ordered z (State.dmaDone n d aborting wb s) := by
  unfold State.dmaDone
  dsimp only
  with_reducible repeat' first
    | assumption | apply Ordered.ite | apply State.count_ordered | apply State.dmaAfter_ordered
    | apply State.dmaBack_ordered | apply State.dmaFails_ordered | apply State.dmaIrq_ordered
    | apply State.dmaSettled_ordered | apply State.dmaTrigger_ordered | apply State.fault_ordered
    | apply State.onDmaCh_ordered | refine Ordered.of_snd (by assumption) ?_ | split

theorem execDescriptorComplete_ordered (n : Fin 16) (wb : Option (Bool × BitVec 4)) (s : State) :
    Answers s (execDescriptorComplete n wb s) := by
  unfold execDescriptorComplete
  dsimp only
  with_reducible repeat' first
    | assumption | exact Ordered.refl _ | apply Answers.next | apply Answers.ite | apply Ordered.ite
    | apply State.dmaBeatFails_ordered | apply State.dmaDone_ordered | apply State.dmaMove_ordered
    | apply State.dmaOverlap_ordered | apply State.dmaSettled_ordered | refine Ordered.of_snd (by assumption) ?_
    | split

theorem execDmaBeatError_ordered (n : Fin 16) (onWrite : Bool) (kind : BitVec 4) (offset : Nat) (wb : Option (Bool × BitVec 4)) (s : State) :
    Answers s (execDmaBeatError n onWrite kind offset wb s) := by
  unfold execDmaBeatError
  dsimp only
  with_reducible repeat' first
    | assumption | exact Ordered.refl _ | apply Answers.next | apply Answers.ite | apply Ordered.ite
    | apply State.dmaBeatFails_ordered | apply State.dmaMove_ordered | apply State.dmaSettled_ordered
    | refine Ordered.of_snd (by assumption) ?_ | split

theorem execDmaAbortComplete_ordered (n : Fin 16) (moved : Nat) (wb : Option (Bool × BitVec 4)) (s : State) :
    Answers s (execDmaAbortComplete n moved wb s) := by
  unfold execDmaAbortComplete
  dsimp only
  with_reducible repeat' first
    | assumption | exact Ordered.refl _ | apply Answers.next | apply Answers.ite | apply Ordered.ite
    | apply State.dmaBack_ordered | apply State.dmaFails_ordered | apply State.dmaGet_ordered
    | apply State.dmaMove_ordered | apply State.dmaRest_ordered | apply State.dmaSettled_ordered
    | apply State.dmaStopped_ordered | apply State.fault_ordered | apply State.onDmaCh_ordered
    | refine Ordered.of_snd (by assumption) ?_ | split

theorem execDescriptorFetch_ordered (n : Fin 16) (fail : Option (BitVec 4)) (wb : Option (Bool × BitVec 4)) (s : State) :
    Answers s (execDescriptorFetch n fail wb s) := by
  unfold execDescriptorFetch
  dsimp only
  with_reducible repeat' first
    | assumption | exact Ordered.refl _ | apply Answers.next | apply Answers.ite | apply Ordered.ite
    | apply State.dmaArm_ordered | apply State.dmaError_ordered | apply State.dmaFetchFails_ordered
    | apply State.dmaGet_ordered | apply State.dmaPark_ordered | refine Ordered.of_snd (by assumption) ?_ | split

/-- Every command completes, and keeps memory and the numbers in order. -/
theorem exec_ordered (c : Instr) (s : State) : Answers s (exec c s) := by
  cases c with
  | powerOnReset => exact execPowerOnReset_ordered ..
  | supplyRecheck => exact execSupplyRecheck_ordered ..
  | supplyCheckTimeout => exact execSupplyCheckTimeout_ordered ..
  | dramTrainingDone => exact execDramTrainingDone_ordered ..
  | dramFillComplete => exact execDramFillComplete_ordered ..
  | coreRelease => exact execCoreRelease_ordered ..
  | bootImageVerify => exact execBootImageVerify_ordered ..
  | residentFirmwareRunning => exact execResidentFirmwareRunning_ordered ..
  | hostIslandConfigured => exact execHostIslandConfigured_ordered ..
  | orientationHeadLoad => exact execOrientationHeadLoad_ordered ..
  | mappingRestore => exact execMappingRestore_ordered ..
  | calDone => exact execCalDone_ordered ..
  | calFail => exact execCalFail_ordered ..
  | calTimeout => exact execCalTimeout_ordered ..
  | limitedActuatorLoad => exact execLimitedActuatorLoad_ordered ..
  | powerStateEntry => exact execPowerStateEntry_ordered ..
  | entryDomainsOff => exact execEntryDomainsOff_ordered ..
  | recessSlewEnd => exact execRecessSlewEnd_ordered ..
  | returnIdleExpiry => exact execReturnIdleExpiry_ordered ..
  | powerStateExit => exact execPowerStateExit_ordered ..
  | exitHeadLoad => exact execExitHeadLoad_ordered ..
  | modeTransitionOverrun => exact execModeTransitionOverrun_ordered ..
  | shutdownNormal => exact execShutdownNormal_ordered ..
  | shutdownAbrupt => exact execShutdownAbrupt_ordered ..
  | shutdownComplete => exact execShutdownComplete_ordered ..
  | chipReset => exact execChipReset_ordered ..
  | powerLossDeclared => exact execPowerLossDeclared_ordered ..
  | emergencyRetractStart => exact execEmergencyRetractStart_ordered ..
  | lastHeadParked => exact execLastHeadParked_ordered ..
  | retractEnergyLow => exact execRetractEnergyLow_ordered ..
  | powerLossEnd => exact execPowerLossEnd_ordered ..
  | perstAssert => exact execPerstAssert_ordered ..
  | perstRelease => exact execPerstRelease_ordered ..
  | coreMemoryAccess => exact execCoreMemoryAccess_ordered ..
  | fabricTransaction => exact execFabricTransaction_ordered ..
  | transactionComplete => exact execTransactionComplete_ordered ..
  | transactionTimeout => exact execTransactionTimeout_ordered ..
  | kyomosFence => exact execKyomosFence_ordered ..
  | fenceComplete => exact execFenceComplete_ordered ..
  | chipTimeBroadcast => exact execChipTimeBroadcast_ordered ..
  | feedForwardReceive => exact execFeedForwardReceive_ordered ..
  | mailboxRelease => exact execMailboxRelease_ordered ..
  | mailboxStale => exact execMailboxStale_ordered ..
  | wedgeTimingReceive => exact execWedgeTimingReceive_ordered ..
  | slewNoticeReceive => exact execSlewNoticeReceive_ordered ..
  | dictRead => exact execDictRead_ordered ..
  | dictWrite => exact execDictWrite_ordered ..
  | stage => exact execStage_ordered ..
  | commit => exact execCommit_ordered ..
  | discard => exact execDiscard_ordered ..
  | save => exact execSave_ordered ..
  | restore => exact execRestore_ordered ..
  | enumerate => exact execEnumerate_ordered ..
  | describe => exact execDescribe_ordered ..
  | dictIdentify => exact execDictIdentify_ordered ..
  | readLong => exact execReadLong_ordered ..
  | unknownDictOp => exact execUnknownDictOp_ordered ..
  | broadcastReplyDelay => exact execBroadcastReplyDelay_ordered ..
  | guestObjectTimeout => exact execGuestObjectTimeout_ordered ..
  | stagedSetExpiry => exact execStagedSetExpiry_ordered ..
  | saveComplete => exact execSaveComplete_ordered ..
  | silenceEnd => exact execSilenceEnd_ordered ..
  | keyGraceEnd => exact execKeyGraceEnd_ordered ..
  | mctpReassemblyTimeout => exact execMctpReassemblyTimeout_ordered ..
  | buythSend => exact execBuythSend_ordered ..
  | buythReceive => exact execBuythReceive_ordered ..
  | buythReceiveTimeout => exact execBuythReceiveTimeout_ordered ..
  | spnRun => exact execSpnRun_ordered ..
  | spnStop => exact execSpnStop_ordered ..
  | spnTargetWrite => exact execSpnTargetWrite_ordered ..
  | spnDtcWrite => exact execSpnDtcWrite_ordered ..
  | spnParamWrite => exact execSpnParamWrite_ordered ..
  | restCheckEnd => exact execRestCheckEnd_ordered ..
  | alignEnd => exact execAlignEnd_ordered ..
  | pwmPeriod => exact execPwmPeriod_ordered ..
  | handover => exact execHandover_ordered ..
  | lockedRotor => exact execLockedRotor_ordered ..
  | startRetry => exact execStartRetry_ordered ..
  | catchEnd => exact execCatchEnd_ordered ..
  | bemfLockHandover => exact execBemfLockHandover_ordered ..
  | brakeStopped => exact execBrakeStopped_ordered ..
  | observerLoss => exact execObserverLoss_ordered ..
  | reacquired => exact execReacquired_ordered ..
  | flywheelExpiry => exact execFlywheelExpiry_ordered ..
  | ovWarnCross => exact execOvWarnCross_ordered ..
  | chopOnCross => exact execChopOnCross_ordered ..
  | chopOffCross => exact execChopOffCross_ordered ..
  | chopSenseTimeout => exact execChopSenseTimeout_ordered ..
  | chopWinExpiry => exact execChopWinExpiry_ordered ..
  | ovFatalCross => exact execOvFatalCross_ordered ..
  | refMove => exact execRefMove_ordered ..
  | speedDeviation => exact execSpeedDeviation_ordered ..
  | slewRelease => exact execSlewRelease_ordered ..
  | slewStartInstant => exact execSlewStartInstant_ordered ..
  | slewRampEnd => exact execSlewRampEnd_ordered ..
  | sampleInstant => exact execSampleInstant_ordered ..
  | dampEnd => exact execDampEnd_ordered ..
  | vcmFrameRepeat => exact execVcmFrameRepeat_ordered ..
  | servoWedge => exact execServoWedge_ordered ..
  | missingWedge => exact execMissingWedge_ordered ..
  | lockAcquired => exact execLockAcquired_ordered ..
  | lockLost => exact execLockLost_ordered ..
  | headSwitch => exact execHeadSwitch_ordered ..
  | forceAcquire => exact execForceAcquire_ordered ..
  | svdTargetWrite => exact execSvdTargetWrite_ordered ..
  | shockCrossing => exact execShockCrossing_ordered ..
  | shockHoldEnd => exact execShockHoldEnd_ordered ..
  | headLoad => exact execHeadLoad_ordered ..
  | coilMeasureEnd => exact execCoilMeasureEnd_ordered ..
  | loadTimeout => exact execLoadTimeout_ordered ..
  | headUnload => exact execHeadUnload_ordered ..
  | armParked => exact execArmParked_ordered ..
  | unloadTimeout => exact execUnloadTimeout_ordered ..
  | nop => exact execNop_ordered ..
  | add => exact execAdd_ordered ..
  | sub => exact execSub_ordered ..
  | mul => exact execMul_ordered ..
  | fma => exact execFma_ordered ..
  | fms => exact execFms_ordered ..
  | min => exact execMin_ordered ..
  | max => exact execMax_ordered ..
  | mov => exact execMov_ordered ..
  | abs => exact execAbs_ordered ..
  | neg => exact execNeg_ordered ..
  | rcp => exact execRcp_ordered ..
  | ftoi => exact execFtoi_ordered ..
  | itof => exact execItof_ordered ..
  | clamp => exact execClamp_ordered ..
  | cmp => exact execCmp_ordered ..
  | tst => exact execTst_ordered ..
  | sel => exact execSel_ordered ..
  | ldi => exact execLdi_ordered ..
  | ld => exact execLd_ordered ..
  | st => exact execSt_ordered ..
  | ldx => exact execLdx_ordered ..
  | stx => exact execStx_ordered ..
  | biq => exact execBiq_ordered ..
  | intp => exact execIntp_ordered ..
  | inPort => exact execInPort_ordered ..
  | outPort => exact execOutPort_ordered ..
  | br => exact execBr_ordered ..
  | segEndM => exact execSegEndM_ordered ..
  | segXc => exact execSegXc_ordered ..
  | segEnd => exact execSegEnd_ordered ..
  | sig => exact execSig_ordered ..
  | illegalInstruction => exact execIllegalInstruction_ordered ..
  | xcBoundOverrun => exact execXcBoundOverrun_ordered ..
  | engineRun => exact execEngineRun_ordered ..
  | engineStop => exact execEngineStop_ordered ..
  | sveEntryWrite => exact execSveEntryWrite_ordered ..
  | sveRegisterWrite => exact execSveRegisterWrite_ordered ..
  | updateGo => exact execUpdateGo_ordered ..
  | seekStart => exact execSeekStart_ordered ..
  | injectRun => exact execInjectRun_ordered ..
  | injectStop => exact execInjectStop_ordered ..
  | injectionEnd => exact execInjectionEnd_ordered ..
  | correlationRun => exact execCorrelationRun_ordered ..
  | correlationDone => exact execCorrelationDone_ordered ..
  | chalkboardArm => exact execChalkboardArm_ordered ..
  | chalkboardForce => exact execChalkboardForce_ordered ..
  | chalkboardFull => exact execChalkboardFull_ordered ..
  | readOperationPost => exact execReadOperationPost_ordered ..
  | readGateOpen => exact execReadGateOpen_ordered ..
  | defectRegion => exact execDefectRegion_ordered ..
  | readGateClose => exact execReadGateClose_ordered ..
  | refillStart => exact execRefillStart_ordered ..
  | stagingComplete => exact execStagingComplete_ordered ..
  | decoderGrant => exact execDecoderGrant_ordered ..
  | replayReserveBypass => exact execReplayReserveBypass_ordered ..
  | decodeComplete => exact execDecodeComplete_ordered ..
  | decoderStall => exact execDecoderStall_ordered ..
  | replayRequest => exact execReplayRequest_ordered ..
  | slotPin => exact execSlotPin_ordered ..
  | slotUnpin => exact execSlotUnpin_ordered ..
  | pinWaitTimeout => exact execPinWaitTimeout_ordered ..
  | ladderTimeLimit => exact execLadderTimeLimit_ordered ..
  | rowRebuildComplete => exact execRowRebuildComplete_ordered ..
  | detentionExpiry => exact execDetentionExpiry_ordered ..
  | writeOperationAccept => exact execWriteOperationAccept_ordered ..
  | noBankTimeout => exact execNoBankTimeout_ordered ..
  | heatLeadStart => exact execHeatLeadStart_ordered ..
  | writeGateOpen => exact execWriteGateOpen_ordered ..
  | writeServoGate => exact execWriteServoGate_ordered ..
  | writeOperationComplete => exact execWriteOperationComplete_ordered ..
  | writeModeIdle => exact execWriteModeIdle_ordered ..
  | writeHold => exact execWriteHold_ordered ..
  | supplyWindowCross => exact execSupplyWindowCross_ordered ..
  | supplyWindowRelease => exact execSupplyWindowRelease_ordered ..
  | resumePass => exact execResumePass_ordered ..
  | resumeWindowExpiry => exact execResumeWindowExpiry_ordered ..
  | pscNop => exact execPscNop_ordered ..
  | pscHeadSel => exact execPscHeadSel_ordered ..
  | pscMode => exact execPscMode_ordered ..
  | pscWgate => exact execPscWgate_ordered ..
  | pscReadBias => exact execPscReadBias_ordered ..
  | pscWriteCur => exact execPscWriteCur_ordered ..
  | pscOsDur => exact execPscOsDur_ordered ..
  | pscLaserBias => exact execPscLaserBias_ordered ..
  | pscLaserOp => exact execPscLaserOp_ordered ..
  | pscHeatRd => exact execPscHeatRd_ordered ..
  | pscHeatWr => exact execPscHeatWr_ordered ..
  | pscSenseReq => exact execPscSenseReq_ordered ..
  | pscFaultClr => exact execPscFaultClr_ordered ..
  | pscIdReq => exact execPscIdReq_ordered ..
  | pscSafe => exact execPscSafe_ordered ..
  | pscAckFrame => exact execPscAckFrame_ordered ..
  | pscSenseFrame => exact execPscSenseFrame_ordered ..
  | pscFaultFrame => exact execPscFaultFrame_ordered ..
  | pscIdFrame => exact execPscIdFrame_ordered ..
  | pscAckTimeout => exact execPscAckTimeout_ordered ..
  | linkDownProbe => exact execLinkDownProbe_ordered ..
  | preampLinkTimeout => exact execPreampLinkTimeout_ordered ..
  | pflAssert => exact execPflAssert_ordered ..
  | pflRelease => exact execPflRelease_ordered ..
  | pflFrameTimeout => exact execPflFrameTimeout_ordered ..
  | senseTimeout => exact execSenseTimeout_ordered ..
  | pscCtlIdReq => exact execPscCtlIdReq_ordered ..
  | pscCtlFclr => exact execPscCtlFclr_ordered ..
  | pscSenseRequest => exact execPscSenseRequest_ordered ..
  | pscRawSend => exact execPscRawSend_ordered ..
  | destageChunk => exact execDestageChunk_ordered ..
  | groupIdleClose => exact execGroupIdleClose_ordered ..
  | commitStart => exact execCommitStart_ordered ..
  | commitDurable => exact execCommitDurable_ordered ..
  | commitDeadlineMiss => exact execCommitDeadlineMiss_ordered ..
  | copyCatchup => exact execCopyCatchup_ordered ..
  | checkpoint => exact execCheckpoint_ordered ..
  | checkpointDurable => exact execCheckpointDurable_ordered ..
  | homeworkJobStart => exact execHomeworkJobStart_ordered ..
  | homeworkTrackStep => exact execHomeworkTrackStep_ordered ..
  | tempWindowRestart => exact execTempWindowRestart_ordered ..
  | periodBoundary => exact execPeriodBoundary_ordered ..
  | actuatorFreeAdmission => exact execActuatorFreeAdmission_ordered ..
  | commandDeadline => exact execCommandDeadline_ordered ..
  | obligatoryDeadlineMiss => exact execObligatoryDeadlineMiss_ordered ..
  | headTempPoll => exact execHeadTempPoll_ordered ..
  | cruiseDecision => exact execCruiseDecision_ordered ..
  | poolIdleTimeout => exact execPoolIdleTimeout_ordered ..
  | poolReplayWait => exact execPoolReplayWait_ordered ..
  | calRequest => exact execCalRequest_ordered ..
  | calWithdraw => exact execCalWithdraw_ordered ..
  | calGrantStart => exact execCalGrantStart_ordered ..
  | calGrantDone => exact execCalGrantDone_ordered ..
  | calGrantExpiry => exact execCalGrantExpiry_ordered ..
  | deleteIoSq => exact execDeleteIoSq_ordered ..
  | createIoSq => exact execCreateIoSq_ordered ..
  | getLogPage => exact execGetLogPage_ordered ..
  | deleteIoCq => exact execDeleteIoCq_ordered ..
  | createIoCq => exact execCreateIoCq_ordered ..
  | nvmeIdentify => exact execNvmeIdentify_ordered ..
  | abort h sqid cid => exact execAbort_ordered h sqid cid s
  | setFeatures => exact execSetFeatures_ordered ..
  | getFeatures => exact execGetFeatures_ordered ..
  | asyncEventRequest => exact execAsyncEventRequest_ordered ..
  | namespaceManagement => exact execNamespaceManagement_ordered ..
  | firmwareCommit => exact execFirmwareCommit_ordered ..
  | firmwareImageDownload => exact execFirmwareImageDownload_ordered ..
  | namespaceAttachment => exact execNamespaceAttachment_ordered ..
  | formatNvm => exact execFormatNvm_ordered ..
  | sanitize => exact execSanitize_ordered ..
  | unsupportedCommand => exact execUnsupportedCommand_ordered ..
  | nvmeFlush => exact execNvmeFlush_ordered ..
  | nvmeWrite => exact execNvmeWrite_ordered ..
  | nvmeRead => exact execNvmeRead_ordered ..
  | writeZeroes h r deac => exact execWriteZeroes_ordered h r deac s
  | datasetManagement => exact execDatasetManagement_ordered ..
  | verify => exact execVerify_ordered ..
  | reservationRegister => exact execReservationRegister_ordered ..
  | reservationReport => exact execReservationReport_ordered ..
  | reservationAcquire => exact execReservationAcquire_ordered ..
  | reservationRelease => exact execReservationRelease_ordered ..
  | ioManagementReceive => exact execIoManagementReceive_ordered ..
  | ioManagementSend => exact execIoManagementSend_ordered ..
  | sqDoorbell => exact execSqDoorbell_ordered ..
  | cqDoorbell => exact execCqDoorbell_ordered ..
  | commandCompletion => exact execCommandCompletion_ordered ..
  | ccEnable => exact execCcEnable_ordered ..
  | controllerReset => exact execControllerReset_ordered ..
  | functionLevelReset => exact execFunctionLevelReset_ordered ..
  | pcieLinkDown => exact execPcieLinkDown_ordered ..
  | pcieLinkUp => exact execPcieLinkUp_ordered ..
  | nvmSubsystemReset => exact execNvmSubsystemReset_ordered ..
  | activationSwitch => exact execActivationSwitch_ordered ..
  | activationDrainTimeout => exact execActivationDrainTimeout_ordered ..
  | activationOverrun => exact execActivationOverrun_ordered ..
  | apstTransition => exact execApstTransition_ordered ..
  | dramRequest => exact execDramRequest_ordered ..
  | mergeReadReturn => exact execMergeReadReturn_ordered ..
  | writeQueueDrain => exact execWriteQueueDrain_ordered ..
  | refreshDue => exact execRefreshDue_ordered ..
  | refreshForced => exact execRefreshForced_ordered ..
  | mr4Change => exact execMr4Change_ordered ..
  | retrainCheck => exact execRetrainCheck_ordered ..
  | retrainComplete => exact execRetrainComplete_ordered ..
  | scrubGo => exact execScrubGo_ordered ..
  | scrubAbort => exact execScrubAbort_ordered ..
  | scrubGranule => exact execScrubGranule_ordered ..
  | scrubStarve => exact execScrubStarve_ordered ..
  | scrubPassStart => exact execScrubPassStart_ordered ..
  | cipherJob => exact execCipherJob_ordered ..
  | cipherJobComplete => exact execCipherJobComplete_ordered ..
  | slotChangeDone => exact execSlotChangeDone_ordered ..
  | drbgReseed => exact execDrbgReseed_ordered ..
  | entropyHealthFail => exact execEntropyHealthFail_ordered ..
  | cryptoEraseRun => exact execCryptoEraseRun_ordered ..
  | dmaKick => exact execDmaKick_ordered ..
  | dmaAbort => exact execDmaAbort_ordered ..
  | dmaPtrWrite => exact execDmaPtrWrite_ordered ..
  | descriptorFetch => exact execDescriptorFetch_ordered ..
  | moverGrant => exact execMoverGrant_ordered ..
  | descriptorComplete => exact execDescriptorComplete_ordered ..
  | dmaBeatError => exact execDmaBeatError_ordered ..
  | dmaAbortComplete => exact execDmaAbortComplete_ordered ..
  | faultReportIntake => exact execFaultReportIntake_ordered ..
  | windowBucketRoll => exact execWindowBucketRoll_ordered ..
  | faultSummaryMinute => exact execFaultSummaryMinute_ordered ..
  | hmInject => exact execHmInject_ordered ..
  | historyClear => exact execHistoryClear_ordered ..
  | eoForce => exact execEoForce_ordered ..
  | eoHoldClear => exact execEoHoldClear_ordered ..
  | eoWidthExpiry => exact execEoWidthExpiry_ordered ..
  | lastingClear => exact execLastingClear_ordered ..
  | srcCfgWrite => exact execSrcCfgWrite_ordered ..
  | srcWinWrite => exact execSrcWinWrite_ordered ..
  | ybAppend => exact execYbAppend_ordered ..
  | ybCursorNext => exact execYbCursorNext_ordered ..
  | ybCursorPrev => exact execYbCursorPrev_ordered ..
  | ybCursorToFirst => exact execYbCursorToFirst_ordered ..
  | ybCursorToLast => exact execYbCursorToLast_ordered ..
  | ybProgram => exact execYbProgram_ordered ..
  | ybForceProgram => exact execYbForceProgram_ordered ..
  | ybMirrorWrite => exact execYbMirrorWrite_ordered ..
  | domainSwitchOn => exact execDomainSwitchOn_ordered ..
  | powerGoodTimeout => exact execPowerGoodTimeout_ordered ..
  | domainReady => exact execDomainReady_ordered ..
  | domainFillOverrun => exact execDomainFillOverrun_ordered ..
  | domainSwitchOff => exact execDomainSwitchOff_ordered ..
  | domainDrained => exact execDomainDrained_ordered ..
  | supplyRegulate => exact execSupplyRegulate_ordered ..
  | droopAlarm => exact execDroopAlarm_ordered ..
  | headroomExhausted => exact execHeadroomExhausted_ordered ..
  | tempSample => exact execTempSample_ordered ..
  | headMeasurement => exact execHeadMeasurement_ordered ..
  | spindleCurrentMeasure => exact execSpindleCurrentMeasure_ordered ..
  | replan => exact execReplan_ordered ..
  | eventIntake => exact execEventIntake_ordered ..
  | evcPendClear => exact execEvcPendClear_ordered ..
  | timRun => exact execTimRun_ordered ..
  | timStop => exact execTimStop_ordered ..
  | timerFire => exact execTimerFire_ordered ..
  | gpioEdge => exact execGpioEdge_ordered ..
  | uartPrompt => exact execUartPrompt_ordered ..
  | uartBlock => exact execUartBlock_ordered ..
  | uartEnd => exact execUartEnd_ordered ..
  | uartIdleTimeout => exact execUartIdleTimeout_ordered ..
  | jtagInstruction => exact execJtagInstruction_ordered ..
  | registerWrite => exact execRegisterWrite_ordered ..
  | timingRecoveryLockLost => exact execTimingRecoveryLockLost_ordered ..
  | driveOrSenseFault => exact execDriveOrSenseFault_ordered ..
  | t1sLinkStateChange => exact execT1sLinkStateChange_ordered ..
  | entdaa => exact execEntdaa_ordered ..
  | pcieError => exact execPcieError_ordered ..
  | aspmL12Transition => exact execAspmL12Transition_ordered ..
  | guestObjectReport => exact execGuestObjectReport_ordered ..
  | ledActTimeout => exact execLedActTimeout_ordered ..

/-- Settles O58: a step carries out the command at the front, or lets a tick pass; each operation keeps the order. -/
theorem everyStepKeepsMemoryAndNumbersInOrder : Obligations.EveryStepKeepsMemoryAndNumbersInOrder := by
  intro s
  cases hq : s.pending with
  | nil =>
    have hi := State.idle_ordered s (.refl s)
    refine ⟨s.idle, by rw [step, hq], ?_, hi.numbers⟩
    rw [hi.pending, hq]
    rfl
  | cons c rest =>
    obtain ⟨t, ht, hp, hn⟩ := exec_ordered c { s with pending := rest }
    exact ⟨t, (by rw [step, hq]; exact ht), hp, hn⟩

end Sys2Proof.Machine

/-! SUPPORT. The Yearbook: appends through the windows, cursors, the write point and mirrors (17 R483 to R497). -/

namespace Sys2Proof.Machine

open Sys2Proof

set_option Elab.async false

/-! A window's bank updated, any number of times. -/

/-- The bank `n` is updated by `f`, and nothing else of the machine but the Yearbook's records may differ. -/
structure BankStep (n : Nat) (f : YbBank → YbBank) (s t : State) : Prop where
  same : t.ybBank n = f (s.ybBank n)
  other : ∀ b, b ≠ n → t.ybBank b = s.ybBank b
  fab : t.fab = s.fab
  acts : t.acts = s.acts

theorem State.onBank_banks_rising {s : State} (h : Tab.rising s.yb.banks = true) (n : Nat) (f : YbBank → YbBank) :
    Tab.rising (s.onBank n f).yb.banks = true := Tab.rising_put h _ _ _

theorem BankStep.onBank {s : State} (h : Tab.rising s.yb.banks = true) (n : Nat) (f : YbBank → YbBank) :
    BankStep n f s (s.onBank n f) where
  same := by rw [State.ybBank_onBank h, if_pos rfl]
  other b hb := by rw [State.ybBank_onBank h, if_neg hb]
  fab := rfl
  acts := rfl

theorem BankStep.trans {n : Nat} {f g : YbBank → YbBank} {s t u : State} (h : BankStep n f s t)
    (k : BankStep n g t u) : BankStep n (g ∘ f) s u where
  same := by rw [k.same, h.same]; rfl
  other b hb := (k.other b hb).trans (h.other b hb)
  fab := k.fab.trans h.fab
  acts := k.acts.trans h.acts

/-- Two updates of a bank. -/
theorem BankStep.twice {s : State} (h : Tab.rising s.yb.banks = true) (n : Nat) (f g : YbBank → YbBank) :
    BankStep n (g ∘ f) s ((s.onBank n f).onBank n g) :=
  (BankStep.onBank h n f).trans (.onBank (State.onBank_banks_rising h n f) n g)

/-- An append that is refused: the bank shows the flag and not OK (17 R484). -/
def YbBank.refused (ty : BitVec 16) (len : BitVec 6) (flag : Nat) (b : YbBank) : YbBank :=
  { b with ty := ty, len := len, flags := setBit b.flags flag true, ok := false }

/-- The refusal of an append changes the bank alone. -/
theorem State.ybRefuse_onBank {s : State} (h : Tab.rising s.yb.banks = true) (n flag : Nat) (ty : BitVec 16)
    (len : BitVec 6) : BankStep n (YbBank.refused ty len flag) s
      ((s.onBank n fun b => { b with ty := ty, len := len }).ybRefuse n flag) :=
  .twice h n (fun b => { b with ty := ty, len := len })
    fun b => { b with flags := setBit b.flags flag true, ok := false }

/-- An append that is taken: the bank shows OK and the record's number (17 R484). -/
def YbBank.taken (ty : BitVec 16) (len : BitVec 6) (seq : BitVec 48) (b : YbBank) : YbBank :=
  { b with ty := ty, len := len, ok := true, appSeq := seq }

/-- The payload that a bank holds for an append of a length (17 R495). -/
def YbBank.payload (len : BitVec 6) (b : YbBank) : List Byte :=
  ((List.range 8).flatMap fun (i : Nat) => leBytes 4 (Tab.getD b.app i 0).toNat).take len.toNat

/-- The control word of an append, as its bank takes it. -/
def State.ybShown (n : Nat) (ty : BitVec 16) (len : BitVec 6) (s : State) : State :=
  s.onBank n fun b => { b with ty := ty, len := len }

/-- What the bank shows of a record taken. -/
def State.ybOk (n : Nat) (seq : BitVec 48) (s : State) : State :=
  s.onBank n fun b => { b with ok := true, appSeq := seq }

theorem State.ybShown_payload {s : State} (h : Tab.rising s.yb.banks = true) (n : Nat) (ty : BitVec 16)
    (len : BitVec 6) : YbBank.payload len ((s.ybShown n ty len).ybBank n) = YbBank.payload len (s.ybBank n) := by
  rw [State.ybShown, State.ybBank_onBank h, if_pos rfl]
  rfl

/-- The bank of a record taken, when what lies between leaves the banks. -/
theorem State.ybOk_bank {s t : State} (h : Tab.rising s.yb.banks = true) (n : Nat) (ty : BitVec 16) (len : BitVec 6)
    (seq : BitVec 48) (k : BankStep n id (s.ybShown n ty len) t)
    (hb : t.yb.banks = (s.ybShown n ty len).yb.banks) :
    BankStep n (YbBank.taken ty len seq) s (t.ybOk n seq) := by
  have h1 : BankStep n _ s (s.ybShown n ty len) := .onBank h n _
  have h2 : BankStep n _ t (t.ybOk n seq) := .onBank (by rw [hb]; exact State.onBank_banks_rising h n _) n _
  exact (h1.trans k).trans h2

/-- The bank of a record dropped, when what lies between leaves the banks. -/
theorem State.ybRefuse_bank {s t : State} (h : Tab.rising s.yb.banks = true) (n flag : Nat) (ty : BitVec 16)
    (len : BitVec 6) (k : BankStep n id (s.ybShown n ty len) t) (hb : t.yb.banks = (s.ybShown n ty len).yb.banks) :
    BankStep n (YbBank.refused ty len flag) s (t.ybRefuse n flag) := by
  have h1 : BankStep n _ s (s.ybShown n ty len) := .onBank h n _
  have h2 : BankStep n _ t (t.ybRefuse n flag) := .onBank (by rw [hb]; exact State.onBank_banks_rising h n _) n _
  exact (h1.trans k).trans h2

/-- An append by resident firmware, case by case (17 R483 to R485). -/
theorem execYbAppend_resident {w : YbWho} (hw : ∀ a, w ≠ .actuator a) (ty : BitVec 16) (len : BitVec 6) (s : State) :
    execYbAppend w ty len s = (let n := bankOf w
      let t := s.ybShown n ty len
      let pay := YbBank.payload len (t.ybBank n)
      .next (if 32 < len.toNat then t.ybRefuse n 0
        else if !ybMay w ty.toNat then t.ybRefuse n 2
        else if 256 ≤ s.ybDepth then (t.ybAppend ty.toNat pay).ybRefuse n 1
        else (t.ybAppend ty.toNat pay).ybOk n s.yb.nextSeq)) := by
  cases w with
  | actuator a => exact absurd rfl (hw a)
  | principal c => rfl
  | housekeeping => rfl

/-- An append by an actuator's guest, case by case (17 R483 to R485). -/
theorem execYbAppend_guest (a : Fin 4) (ty : BitVec 16) (len : BitVec 6) (s : State) :
    execYbAppend (.actuator a) ty len s = (let n := 5 + a.val
      let t := s.ybShown n ty len
      let pay := YbBank.payload len (t.ybBank n)
      .next (if 32 < len.toNat then t.ybRefuse n 0
        else if !ybMay (.actuator a) ty.toNat then t.ybRefuse n 2
        else if s.odNat 0x61000C 64 ≤ s.guestCount a then t.ybRefuse n 3
        else if 256 ≤ s.ybDepth then t.ybRefuse n 1
        else ((t.onYb fun y => { y with
          guestRate := y.guestRate.set a (s.ticks / secTicks, s.guestCount a + 1) }).ybAppend ty.toNat pay).ybOk n
            s.yb.nextSeq)) := rfl

/-- A length above 32, or a type outside the rights, is refused with its flag (17 R484). -/
theorem execYbAppend_refused (w : YbWho) (ty : BitVec 16) (len : BitVec 6) (s : State) {flag : Nat}
    (h : 32 < len.toNat ∧ flag = 0 ∨ len.toNat ≤ 32 ∧ ybMay w ty.toNat = false ∧ flag = 2) :
    execYbAppend w ty len s = .next ((s.ybShown (bankOf w) ty len).ybRefuse (bankOf w) flag) := by
  show Host.Outcome.next (if 32 < len.toNat then _ else if !ybMay w ty.toNat then _ else _) = _
  rcases h with ⟨hl, rfl⟩ | ⟨hl, hm, rfl⟩
  · rw [if_pos hl]
    rfl
  · rw [if_neg (Nat.not_lt.2 hl), hm, if_pos (by simp)]
    rfl

/-- A record taken into the queue, when there is room. -/
theorem State.ybAppend_of_room {s : State} (h : s.ybDepth < 256) (ty : Nat) (pay : List Byte) :
    s.ybAppend ty pay = s.ybPut (s.ybMake ty pay false) := if_neg (Nat.not_le.2 h)

/-- A full queue drops the record and counts it (17 R484). -/
theorem State.ybAppend_of_full {s : State} (h : 256 ≤ s.ybDepth) (ty : Nat) (pay : List Byte) :
    s.ybAppend ty pay = (s.onYb fun y => { y with
      dropped := y.dropped + 1, firstLost := if y.dropped = 0 then y.nextSeq else y.firstLost }).count 0x610008 1 :=
  if_pos h

/-- The cursor's moves change the bank alone. -/
theorem State.moveCursor_spec {s : State} (h : Tab.rising s.yb.banks = true) (w : YbWho)
    (f : BitVec 48 → BitVec 48) : (s.moveCursor w f).ybBank (bankOf w)
        = { s.ybBank (bankOf w) with cur := f (s.ybBank (bankOf w)).cur }
      ∧ (∀ b, b ≠ bankOf w → (s.moveCursor w f).ybBank b = s.ybBank b)
      ∧ (s.moveCursor w f).yb.recs = s.yb.recs ∧ (s.moveCursor w f).fab = s.fab
      ∧ (s.moveCursor w f).acts = s.acts ∧ (s.moveCursor w f).dict = s.dict :=
  have hb := BankStep.onBank h (bankOf w) fun b => { b with cur := f b.cur }
  ⟨hb.same, hb.other, rfl, rfl, rfl, rfl⟩

/-- Inside a sector the write point moves to the next slot (17 R486). -/
theorem State.ybAdvance_inside {s : State} (hw : s.yb.wp % 1024 ≠ 0) (hs : s.yb.skip = []) (e : Bool) :
    s.ybAdvance e = s.onYb fun y => { y with wp := (s.yb.wp + 1) % 65536 } := by
  have hn : s.yb.nextSlot = (s.yb.wp + 1) % 65536 := by
    rw [Yb.nextSlot, hs]
    simp
  unfold State.ybAdvance
  dsimp only
  rw [if_neg hw]
  unfold State.onYb
  dsimp only
  rw [hn, hs]
  simp [hs]

/-- The one queued record, in a sector, is programmed at the write point (17 R483). -/
theorem State.ybProgram_one {s : State} {r : YbRec} (hr : s.yb.recs = [r]) (hq : r.slot = none)
    (hw : s.yb.wp % 1024 ≠ 0) (hs : s.yb.skip = []) (hd : s.yb.dropped = 0) (e : Bool) :
    s.ybProgram true e = s.onYb fun y => { y with
      recs := [{ r with slot := some s.yb.wp }], wp := (s.yb.wp + 1) % 65536 } := by
  have ho : s.ybOldest = some r := by simp [State.ybOldest, hr, hq]
  unfold State.ybProgram
  rw [ho]
  simp only [if_true]
  unfold State.ybProgramSeq
  dsimp only
  rw [State.ybAdvance_inside hw hs]
  unfold State.ybDropped
  rw [if_neg (by simp [hd])]
  unfold State.onYb
  dsimp only
  rw [hr]
  simp

/-- A guest's append of its type, within its rate and with room in the queue, is taken and counted (17 R485). -/
theorem completes_ybAppend_guest {a : Fin 4} {ty : BitVec 16} {len : BitVec 6} {s : State} (hl : len.toNat ≤ 32)
    (hlo : 0x8000 + 0x1000 * a.val ≤ ty.toNat) (hhi : ty.toNat ≤ 0x8FFF + 0x1000 * a.val)
    (hg : s.guestCount a < s.odNat 0x61000C 64) (hd : s.ybDepth < 256) (hb : Tab.rising s.yb.banks = true) :
    Completes (.ybAppend (.actuator a) ty len) s fun t => t.yb.recs.length = s.yb.recs.length + 1
      ∧ (t.yb.recs.getLast?.map fun r => (r.seq, r.ty)) = some (s.yb.nextSeq, ty)
      ∧ t.yb.nextSeq = s.yb.nextSeq + 1 ∧ t.guestCount a = s.guestCount a + 1 ∧ (t.ybBank (5 + a.val)).ok = true
      ∧ (t.ybBank (5 + a.val)).appSeq = s.yb.nextSeq ∧ (∀ b, b ≠ 5 + a.val → t.ybBank b = s.ybBank b)
      ∧ t.fab = s.fab ∧ t.acts = s.acts ∧ t.dict = s.dict := by
  have hm : ybMay (.actuator a) ty.toNat = true := by simp [ybMay, hlo, hhi]
  refine ⟨_, execYbAppend_guest a ty len s, ?_⟩
  dsimp only
  rw [if_neg (Nat.not_lt.2 hl), hm, if_neg (by simp), if_neg (Nat.not_le.2 hg), if_neg (Nat.not_le.2 hd)]
  generalize YbBank.payload len _ = pay
  generalize hu : State.onYb _ (s.ybShown (5 + a.val) ty len) = u
  have hur : u.yb.recs = s.yb.recs ∧ u.yb.nextSeq = s.yb.nextSeq ∧ u.ticks = s.ticks
      ∧ u.yb.guestRate.get a = (s.ticks / secTicks, s.guestCount a + 1)
      ∧ u.fab = s.fab ∧ u.acts = s.acts ∧ u.dict = s.dict := by
    rw [← hu]; exact ⟨rfl, rfl, rfl, Four.get_set_same _ _ _, rfl, rfl, rfl⟩
  have hub : BankStep (5 + a.val) id (s.ybShown (5 + a.val) ty len) u
      ∧ u.yb.banks = (s.ybShown (5 + a.val) ty len).yb.banks := by
    rw [← hu]; exact ⟨⟨rfl, fun _ _ => rfl, rfl, rfl⟩, rfl⟩
  have hdu : u.ybDepth < 256 := by rw [State.ybDepth, hur.1]; exact hd
  clear hu
  obtain ⟨hrecs, hseq, hticks, hrate, hfab, hacts, hdict⟩ := hur
  have hty : (u.ybMake ty.toNat pay false).ty = ty := by
    show BitVec.ofNat 16 ty.toNat = ty
    simp
  have hrs : (u.ybMake ty.toNat pay false).seq = s.yb.nextSeq := hseq
  rw [State.ybAppend_of_room hdu]
  generalize u.ybMake ty.toNat pay false = r at hty hrs
  have hput : BankStep (5 + a.val) id u (u.ybPut r) := ⟨rfl, fun _ _ => rfl, rfl, rfl⟩
  have k := State.ybOk_bank hb (5 + a.val) ty len s.yb.nextSeq (hub.1.trans hput) hub.2
  have hrec : ((u.ybPut r).ybOk (5 + a.val) s.yb.nextSeq).yb.recs = s.yb.recs ++ [r] := by rw [← hrecs]; rfl
  refine ⟨?_, ?_, ?_, ?_, ?_, ?_, k.other, hfab, hacts, hdict⟩
  · rw [hrec, List.length_append]; rfl
  · rw [hrec, List.getLast?_concat, Option.map_some, hty, hrs]
  · rw [← hseq]; rfl
  · show (if (u.yb.guestRate.get a).1 = u.ticks / secTicks then (u.yb.guestRate.get a).2 else 0) = _
    rw [hrate, hticks, if_pos rfl]
  · rw [k.same]; rfl
  · rw [k.same]; rfl

/-- Resident firmware's append into a full queue is dropped and counted (17 R484). -/
theorem completes_ybAppend_full {w : YbWho} (hw : ∀ a, w ≠ .actuator a) {ty : BitVec 16} {len : BitVec 6} {s : State}
    (hl : len.toNat ≤ 32) (hm : ybMay w ty.toNat = true) (hd : 256 ≤ s.ybDepth) (hb : Tab.rising s.yb.banks = true) :
    Completes (.ybAppend w ty len) s fun t => (t.ybBank (bankOf w)).ok = false
      ∧ (t.ybBank (bankOf w)).flags = setBit (s.ybBank (bankOf w)).flags 1 true ∧ t.yb.recs = s.yb.recs
      ∧ t.yb.dropped = s.yb.dropped + 1 ∧ t.odNat 0x610008 0 = s.odNat 0x610008 0 + 1 ∧ t.fab = s.fab
      ∧ t.acts = s.acts := by
  refine ⟨_, execYbAppend_resident hw ty len s, ?_⟩
  dsimp only
  rw [if_neg (Nat.not_lt.2 hl), hm, if_neg (by simp), if_pos hd,
    State.ybAppend_of_full (s := s.ybShown (bankOf w) ty len) hd]
  generalize hv : State.onYb _ (s.ybShown (bankOf w) ty len) = v
  have hvs : v.yb.recs = s.yb.recs ∧ v.yb.dropped = s.yb.dropped + 1 ∧ v.dict = s.dict := by
    rw [← hv]; exact ⟨rfl, rfl, rfl⟩
  have hvb : BankStep (bankOf w) id (s.ybShown (bankOf w) ty len) v
      ∧ v.yb.banks = (s.ybShown (bankOf w) ty len).yb.banks := by
    rw [← hv]; exact ⟨⟨rfl, fun _ _ => rfl, rfl, rfl⟩, rfl⟩
  clear hv
  obtain ⟨hrecs, hdrop, hdict⟩ := hvs
  have hcount : BankStep (bankOf w) id v (v.count 0x610008 1) := ⟨rfl, fun _ _ => rfl, rfl, rfl⟩
  have k := State.ybRefuse_bank hb (bankOf w) 1 ty len (hvb.1.trans hcount) hvb.2
  refine ⟨by rw [k.same]; rfl, by rw [k.same]; rfl, hrecs, hdrop, ?_, k.fab, k.acts⟩
  show (v.count 0x610008 1).odNat 0x610008 0 = _
  rw [State.odNat_count, State.odNat, hdict]
  rfl

/-- Settles O51: appends are taken or refused, cursors move, and the oldest record is programmed. -/
theorem yearbookAppendsMovesAndPrograms : Obligations.YearbookAppendsMovesAndPrograms := by
  refine ⟨?_, ?_, ?_, ?_, ?_, ?_, ?_, ?_, ?_, ?_, ?_, ?_, ?_, ?_, ?_, ?_, ?_, ?_⟩
  · rintro w ty len s ⟨hw, hl, hm, hd, hb⟩
    refine ⟨_, execYbAppend_resident hw ty len s, ?_⟩
    dsimp only
    rw [if_neg (Nat.not_lt.2 hl), hm, if_neg (by simp), if_neg (Nat.not_le.2 hd),
      State.ybAppend_of_room (s := s.ybShown (bankOf w) ty len) hd, State.ybShown_payload hb]
    have hmake : ∀ pay, (s.ybShown (bankOf w) ty len).ybMake ty.toNat pay false = s.ybMake ty.toNat pay false :=
      fun _ => rfl
    rw [hmake]
    change _ = s.yb.recs ++ [s.ybMake ty.toNat (YbBank.payload len (s.ybBank (bankOf w))) false] ∧ _
    generalize s.ybMake ty.toNat _ false = r
    have k := State.ybOk_bank hb (bankOf w) ty len s.yb.nextSeq
      (t := (s.ybShown (bankOf w) ty len).ybPut r) ⟨rfl, fun _ _ => rfl, rfl, rfl⟩ rfl
    exact ⟨rfl, rfl, k.same, k.other, rfl, k.fab, k.acts, rfl⟩
  · exact fun a ty len s ⟨hl, hlo, hhi, hg, hd, hb⟩ => completes_ybAppend_guest hl hlo hhi hg hd hb
  · rintro w ty len s ⟨hl, hb⟩
    have k := State.ybRefuse_onBank hb (bankOf w) 0 ty len
    exact ⟨_, execYbAppend_refused w ty len s (.inl ⟨hl, rfl⟩), by rw [State.ybShown, k.same]; rfl,
      by rw [State.ybShown, k.same]; rfl, k.other, rfl, rfl, k.fab, k.acts, rfl⟩
  · rintro w ty len s ⟨hl, hm, hb⟩
    have k := State.ybRefuse_onBank hb (bankOf w) 2 ty len
    exact ⟨_, execYbAppend_refused w ty len s (.inr ⟨hl, hm, rfl⟩), by rw [State.ybShown, k.same]; rfl,
      by rw [State.ybShown, k.same]; rfl, k.other, rfl, rfl, k.fab, k.acts, rfl⟩
  · rintro a ty len s ⟨hl, hm, hg, hb⟩
    have k := State.ybRefuse_onBank hb (5 + a.val) 3 ty len
    refine ⟨_, execYbAppend_guest a ty len s, ?_⟩
    dsimp only
    rw [if_neg (Nat.not_lt.2 hl), hm, if_neg (by simp), if_pos hg, State.ybShown]
    exact ⟨by rw [k.same]; rfl, by rw [k.same]; rfl, rfl, rfl, rfl, rfl, rfl, rfl⟩
  · rintro a ty len s ⟨hl, hm, hg, hd, hb⟩
    have k := State.ybRefuse_onBank hb (5 + a.val) 1 ty len
    refine ⟨_, execYbAppend_guest a ty len s, ?_⟩
    dsimp only
    rw [if_neg (Nat.not_lt.2 hl), hm, if_neg (by simp), if_neg (Nat.not_le.2 hg), if_pos hd, State.ybShown]
    exact ⟨by rw [k.same]; rfl, by rw [k.same]; rfl, rfl, rfl, rfl, rfl, rfl⟩
  · exact fun w ty len s ⟨hw, hl, hm, hd, hb⟩ => completes_ybAppend_full hw hl hm hd hb
  · exact fun w s hb => ⟨_, rfl, State.moveCursor_spec hb w (fun c => c + 1)⟩
  · exact fun w s hb => ⟨_, rfl, State.moveCursor_spec hb w (fun c => if c = 0 then 0 else c - 1)⟩
  · exact fun w s hb => ⟨_, rfl, State.moveCursor_spec hb w (fun _ => s.yb.firstSeq)⟩
  · exact fun w s hb => ⟨_, rfl, State.moveCursor_spec hb w (fun _ => s.yb.nextSeq - 1)⟩
  · rintro r e s ⟨hr, hq, hw, hs, hd⟩
    exact ⟨_, rfl, State.ybProgram_one hr hq hw hs hd e⟩
  · rintro r e s ⟨hr, hq, hw, hs⟩
    have ho : s.ybOldest = some r := by simp [State.ybOldest, hr, hq]
    refine ⟨_, rfl, ?_⟩
    rw [State.ybProgram, ho]
    dsimp only
    rw [if_neg (by simp), State.ybAdvance_inside hw hs]
    exact ⟨rfl, rfl, .of_mem rfl, rfl, rfl⟩
  · rintro ok e s ho
    exact ⟨_, rfl, by rw [State.ybProgram, ho]⟩
  · rintro r e s ⟨hr, hq, ht, hw, hs, hd⟩
    have ho : s.ybOldest = some r := by simp [State.ybOldest, hr, hq]
    refine ⟨_, rfl, ?_⟩
    simp only [ho, ht, if_true]
    exact State.ybProgram_one hr hq hw hs hd e
  · rintro r ok e s ⟨hr, ht⟩
    refine ⟨_, rfl, ?_⟩
    cases ho : s.ybOldest with
    | none => rfl
    | some x =>
      have hx : x = r := by
        have := List.mem_of_find?_eq_some ho
        rw [hr] at this
        exact List.mem_singleton.1 this
      simp only [hx, Nat.not_le.2 ht, if_false]
  · rintro a f s ⟨hu, hr, hm, hd, hn⟩
    refine ⟨_, rfl, ?_⟩
    simp only [hu, hr, hm, hd, hn, ne_eq, not_false_eq_true, decide_true, Bool.true_or, Bool.and_self, if_true]
    generalize hu : State.onYb _ s = u
    have hyb : u.yb = { s.yb with
        mirrored := s.yb.mirrored.set a (s.yb.mirrored.get a ++ [f]), mirrorAt := s.now } := by rw [← hu]; rfl
    have ho : Only [.yb, .msgs] s (if (u.mirrorNext a).isNone then u.event epResident 300 u.mirrorCurrent else u) := by
      simp [Only.ite, State.event_only, ← hu, State.onYb_only, Only.refl]
    have hy : (if (u.mirrorNext a).isNone then u.event epResident 300 u.mirrorCurrent else u).yb = u.yb := by
      split <;> rfl
    rw [hy, hyb]
    refine ⟨Four.get_set_same _ _ _, fun b hb => Four.get_set_ne _ _ hb, rfl, rfl, ho.memorySame (by simp),
      ho.allActs (by simp), ho.dict (by simp)⟩
  · rintro a s hn
    refine ⟨_, rfl, ?_⟩
    rw [hn]
    split <;> rfl

end Sys2Proof.Machine

/-! SUPPORT. A domain that drains with a transaction in flight to it goes on draining (01 R27, 18 R500). -/

namespace Sys2Proof.Machine

open Sys2Proof

set_option Elab.async false

/-- A machine whose domain of the first bank of shared SRAM drains, with a read of that bank in flight. -/
def drainingWithRead : State :=
  (State.reset.onDom 7 fun d => { d with state := .draining }).onFab fun f => { f with
    txns := [{ id := 0, src := 0, chan := none
               acc := { kind := .read, amo := .swap, addr := 0x10000000, size := 4, data := [] } }] }

/-- The switch does not open while the read is in flight. -/
theorem execDomainDrained_drainingWithRead :
    exec (.domainDrained 7 true) drainingWithRead = .next drainingWithRead := by
  have hflight : drainingWithRead.inFlightTo 7 = true := by decide
  show execDomainDrained 7 true drainingWithRead = _
  have hval : ((7 : Fin 32) : Nat) = 7 := rfl
  rw [execDomainDrained, hval, hflight, Bool.not_true, Bool.and_false, Bool.false_and, if_neg Bool.false_ne_true]

/-- Refutes O52: a draining domain goes off only when nothing is in flight to it, which the statement does not ask. -/
theorem not_domainsSuppliesAndTemperatures : ¬ Obligations.DomainsSuppliesAndTemperatures := by
  intro h
  obtain ⟨-, -, -, -, -, -, -, -, -, hdrained, -⟩ := h
  obtain ⟨t, ht, hoff, -⟩ := hdrained 7 drainingWithRead (by decide)
  rw [execDomainDrained_drainingWithRead] at ht
  obtain rfl := Host.Outcome.next.inj ht
  exact absurd hoff (by decide)

end Sys2Proof.Machine

/-! SUPPORT. An atomic operation that waits for its merge on the granule that a cipher job writes: the job's write
joins its entry, and the merge performs the operation on what the job wrote (13 R406). -/

namespace Sys2Proof.Machine

open Sys2Proof

set_option Elab.async false

/-- An AES-GCM tag has at most 16 bytes. -/
theorem length_gcmTag_le (key iv aad c : List Byte) : (gcmTag key iv aad c).length ≤ 16 := by
  unfold gcmTag
  dsimp only
  rw [length_aesXor, beBytes, List.length_reverse, length_leBytes]
  exact Nat.min_le_left _ _

/-- A job that decrypts one byte of shared SRAM to the first byte of DRAM, with a tag that cannot match. -/
def tagTooLong : CJob where
  job := { id := 0, gcm := true, encrypt := false, slot := 0, unit := 0, count := 0, length := 1, lba := 0
           src := 0x10000000, dst := dramBase, iv := [], aad := [], tag := List.replicate 17 0 }
  key := some []
  cut := false

/-- A machine with that job, and an atomic OR of 0xFF waiting for the merge of the first granule of DRAM. -/
def jobOverAtomic : State :=
  let s := State.reset.onCiph fun c => { c with jobs := [tagTooLong] }
  let s := s.onDramc fun d => { d with rawGiB := 1 }
  s.onChan 0 fun c => { c with
    queue := [{ gran := 0, bytes := [], amo := some (.or, 0, 1, [0xFF]), src := 0, id := 0, link := [] }] }

/-- The job's source is not in DRAM, and reads well (13 R400). -/
theorem engineGet_sram (len : Nat) (s : State) : s.engineGet epCipher 0x10000000 len none = (true, s) := by
  have h : s.inDram 0x10000000 1 = false := by
    rw [State.inDram, decide_eq_false (by decide), Bool.false_and]
  rw [State.engineGet, h]
  rfl

/-- What the job's end leaves at the first byte of DRAM: the zero it wrote, with the operation performed. -/
theorem jobOverAtomic_memory :
    memByte ((((jobOverAtomic.onCiph fun c => { c with jobs := [] }).count 0x517002 1).ciphDraws 1).enginePut
      epCipher dramBase [0]).fab.mem dramBase = 0xFF := by
  decide +kernel

/-- The job's end in its last case: the tag does not match, and a zero is written. -/
theorem jobOverAtomic_end {t : State} (h : exec (.cipherJobComplete 0 none 0) jobOverAtomic = .next t) :
    t.fab.mem = ((((jobOverAtomic.onCiph fun c => { c with jobs := [] }).count 0x517002 1).ciphDraws 1).enginePut
      epCipher dramBase [0]).fab.mem := by
  have htag : ∀ iv aad text, gcmTag [] iv aad text ≠ tagTooLong.job.tag := fun iv aad text he => by
    have := length_gcmTag_le [] iv aad text
    rw [he] at this
    exact absurd this (by decide)
  have hrun : exec (.cipherJobComplete 0 none 0) jobOverAtomic
      = .next ((jobOverAtomic.onCiph fun c => { c with jobs := [] }).ciphGcm tagTooLong) := rfl
  rw [hrun] at h
  obtain rfl := Host.Outcome.next.inj h
  have hkey : tagTooLong.key = some [] := rfl
  have hsrc : tagTooLong.job.src = 0x10000000 := rfl
  have henc : tagTooLong.job.encrypt = false := rfl
  have hlen : tagTooLong.job.length = 1 := rfl
  have hdst : tagTooLong.job.dst = dramBase := rfl
  unfold State.ciphGcm
  simp only [hkey, hsrc, henc, hlen, hdst, engineGet_sram, htag, Bool.not_true, Bool.false_eq_true, if_false,
    List.replicate]
  rfl

/-- Refutes O45: zeros written in place of a text do not stand where an atomic operation still waits on the granule. -/
theorem not_cipherJobsAreJudgedAndCarriedOut : ¬ Obligations.CipherJobsAreJudgedAndCarriedOut := by
  intro h
  obtain ⟨-, -, -, -, -, -, -, -, -, -, -, hzeros⟩ := h
  have htag : ∀ text, gcmTag [] [] [] text ≠ tagTooLong.job.tag := fun text he => by
    have := length_gcmTag_le [] [] [] text
    rw [he] at this
    exact absurd this (by decide)
  obtain ⟨t, ht, -, -, hbytes, -⟩ := hzeros tagTooLong [] 0 jobOverAtomic
    ⟨rfl, rfl, rfl, rfl, htag _, rfl, congrArg Prod.fst (engineGet_sram 1 jobOverAtomic)⟩
  have hb : memByte t.fab.mem (dramBase + 0) = 0 := hbytes 0 0 rfl
  rw [jobOverAtomic_end ht, Nat.add_zero, jobOverAtomic_memory] at hb
  exact absurd hb (by decide)

end Sys2Proof.Machine

/-! SUPPORT. The events of a list, the halt of the cipher, and a slot that is pending (14 R432 to R446). -/

namespace Sys2Proof.Machine

open Sys2Proof

set_option Elab.async false

/-- An event for each element of a list appends exactly those messages. -/
theorem foldS_event (src : Endpoint) (num : Nat) (l : List Nat) (s : State) :
    foldS (fun n t => t.event src num n) l s =
      s.onFab fun f => { f with msgs := f.msgs ++ l.map fun n => eventMsg src num n } := by
  induction l generalizing s with
  | nil => simp [foldS, State.onFab]
  | cons n l ih => rw [foldS, ih]; simp [State.event, State.send, State.onFab, eventMsg]

/-- The halt of the engine ends every job in progress with status 0x5, and touches nothing but the cipher's records. -/
theorem State.ciphHalt_eq (s : State) : s.ciphHalt = s.onCiph fun c => { c with
    jobs := []
    records := c.records ++ s.ciph.jobs.map fun x =>
      ({ id := x.job.id, status := 5, release := false, tag := [] } : CRecord) } := by
  have h (l : List CJob) : ∀ t : State, foldS (fun (x : CJob) (t : State) => t.ciphRecord x.job.id 5 []) l t =
      t.onCiph fun c => { c with records := c.records ++ l.map fun x =>
        ({ id := x.job.id, status := 5, release := false, tag := [] } : CRecord) } := by
    induction l with
    | nil => intro t; simp [foldS, State.onCiph]
    | cons x l ih => intro t; rw [foldS, ih]; simp [State.ciphRecord, State.onCiph]
  rw [State.ciphHalt, h]; rfl

/-- A slot without a change pending takes none. -/
theorem State.slotTakes_of_not_pending {n : Nat} {s : State} (h : (s.slot n).state ≠ .pending) :
    s.slotTakes n = s := by simp [State.slotTakes, h]

theorem State.slotSaves_of_none {s : State} (h : s.dict.slotAnswer = none) : s.slotSaves = s := by
  simp [State.slotSaves, h]

/-- Changes that wait are lost, when no answer waits for them. -/
theorem State.slotsLost_of_none {s : State} (h : s.dict.slotAnswer = none) : s.slotsLost = s.onCiph fun c => { c with
    slots := Tab.map (fun _ k => if k.state = .pending then
      { k with state := if k.key.isEmpty then .empty else .loaded, newKey := none } else k) c.slots } := by
  simp [State.slotsLost, State.onCiph, h]

/-- What becomes of a slot whose change is pending, in one equation. -/
def KeySlot.taken (k : KeySlot) : KeySlot :=
  match k.newKey with
  | some key => { state := .loaded, key := key, newKey := none }
  | none => KeySlot.reset

/-- A pending slot takes its change: the slot alone, two events, and the jobs of the slot are cut. -/
theorem State.slotTakes_spec {n : Nat} {s : State} (h : (s.slot n).state = .pending)
    (hr : Tab.rising s.ciph.slots = true) :
    (s.slotTakes n).slot n = (s.slot n).taken ∧ (∀ m, m ≠ n → (s.slotTakes n).slot m = s.slot m) ∧
      SentOnly [eventMsg epCipher 83 n, eventMsg epCipher (if (s.slot n).newKey.isSome then 80 else 81) n]
        s (s.slotTakes n) ∧
      Only [.ciph, .msgs] s (s.slotTakes n) ∧ (s.slotTakes n).ciph.erase = s.ciph.erase ∧
      (s.slotTakes n).ciph.drbgCount = s.ciph.drbgCount ∧ (s.slotTakes n).free = s.free := by
  obtain ⟨f, hf⟩ : ∃ f : CJob → CJob, f = fun x =>
      if !x.job.gcm && x.job.slot == n then { x with cut := true } else x := ⟨_, rfl⟩
  have hjobs (k : KeySlot) (m : Nat) :
      ((s.onCiph fun c => { c with jobs := c.jobs.map f }).onSlot n fun _ => k).slot m =
        if m = n then k else s.slot m := 
    State.slot_onSlot (s := s.onCiph fun c => { c with jobs := c.jobs.map f }) hr n (fun _ => k) m
  have hsame (t : State) (num m : Nat) : (t.event epCipher num n).slot m = t.slot m := rfl
  cases hk : (s.slot n).newKey with
  | some key =>
    have he : s.slotTakes n = (((s.onCiph fun c => { c with jobs := c.jobs.map f }).onSlot n fun _ =>
        { state := .loaded, key := key, newKey := none }).event epCipher 83 n).event epCipher 80 n := by
      simp [State.slotTakes, h, hk, hf]
    rw [he]
    refine ⟨by simp [hsame, hjobs, KeySlot.taken, hk], fun m hm => by simp [hsame, hjobs, hm], ?_, ?_, rfl, rfl, rfl⟩
    · simp [SentOnly, State.event, State.send, State.onFab, eventMsg, State.onSlot, State.onCiph]
    · simp [State.onSlot, State.onCiph_only, State.event_only, Only.refl]
  | none =>
    have he : s.slotTakes n = (((s.onCiph fun c => { c with jobs := c.jobs.map f }).onSlot n fun _ =>
        KeySlot.reset).event epCipher 83 n).event epCipher 81 n := by
      simp [State.slotTakes, h, hk, hf]
    rw [he]
    refine ⟨by simp [hsame, hjobs, KeySlot.taken, hk], fun m hm => by simp [hsame, hjobs, hm], ?_, ?_, rfl, rfl, rfl⟩
    · simp [SentOnly, State.event, State.send, State.onFab, eventMsg, State.onSlot, State.onCiph]
    · simp [State.onSlot, State.onCiph_only, State.event_only, Only.refl]

/-- Making a new key for an empty slot: it holds the next key of the random source. -/
theorem State.slotGenerate_takes_spec {n : Nat} {s : State} (h : (s.slot n).state = .empty)
    (hr : Tab.rising s.ciph.slots = true) (u : State) (hu : u = (s.slotGenerate n).slotTakes n) :
    u.slot n = { state := .loaded, key := drbgKey s.free, newKey := none } ∧ (∀ m, m ≠ n → u.slot m = s.slot m) ∧
      Only [.ciph, .msgs, .free] s u ∧ u.ciph.drbgCount = s.ciph.drbgCount + 1 ∧ u.free = s.free + 1 := by
  obtain ⟨w, hw⟩ : ∃ w, w = s.onSlot n fun k => { k with state := .pending, newKey := some (drbgKey s.free) } :=
    ⟨_, rfl⟩
  have hg : s.slotGenerate n = (w.event epCipher 82 n).drbgAsk.takeFree := by
    rw [hw, State.slotGenerate, State.slotChange, State.slotTakes_of_not_pending (by simp [h])]
  have hslot (m : Nat) : (s.slotGenerate n).slot m = if m = n
      then { s.slot n with state := .pending, newKey := some (drbgKey s.free) } else s.slot m := by
    rw [hg]; change w.slot m = _; rw [hw, State.slot_onSlot hr]
  have hrise : Tab.rising (s.slotGenerate n).ciph.slots = true := by
    rw [hg]; change Tab.rising w.ciph.slots = true; rw [hw]
    exact Tab.rising_put (d := KeySlot.reset) hr n { s.slot n with state := .pending, newKey := some (drbgKey s.free) }
  have honly : Only [.ciph, .msgs, .free] s (s.slotGenerate n) := by
    rw [hg, hw]
    simp [State.onSlot, State.drbgAsk, State.onCiph_only, State.event_only, State.takeFree_only, Only.refl]
  obtain ⟨hn, hm, -, ho, -, hc, hf⟩ := State.slotTakes_spec (s := s.slotGenerate n) (n := n) (by simp [hslot]) hrise
  rw [hu]
  refine ⟨by rw [hn, hslot, if_pos rfl]; rfl, fun m k => by rw [hm m k, hslot, if_neg k],
    honly.trans (ho.mono (by simp)), ?_, ?_⟩
  · rw [hc, hg, hw]; rfl
  · rw [hf, hg, hw]; rfl

/-- A command of another host reads media of a namespace that is to be erased. -/
def EraseRun.waitsFor (e : EraseRun) (k : Cmd) : Bool :=
  decide (some k.n ≠ e.cmd) && e.nsids.contains k.nsid && !k.admin &&
    (match k.need with
      | .media _ => true
      | .flush _ => true
      | .group => true
      | _ => false)

/-- The erase's first step tells the namespaces, once no command reads media of them. -/
theorem State.eraseStep_tell {e : EraseRun} (h : e.step = 1) (s : State) :
    s.eraseStep e = if s.nvme.cmds.any e.waitsFor then s
      else (foldS (fun n t => t.event epCipher 85 n) e.nsids s).setErase { e with step := 2 } := by
  obtain ⟨nsids, san, step, olds, news, grp, cmd⟩ := e
  dsimp only at h
  subst h
  rfl

/-- The erase's second step draws a key for each range of its namespaces. -/
theorem State.eraseStep_draw {e : EraseRun} (h : e.step = 2) (s : State) :
    s.eraseStep e = if (s.eraseRanges e).isEmpty then s.setErase { e with step := 3 }
      else if !s.ciph.entropyOk || decide (s.ciph.state ≠ .ready) then s
      else (s.eraseKeys (s.eraseRanges e) e).1.setErase { (s.eraseKeys (s.eraseRanges e) e).2 with step := 3 } := by
  obtain ⟨nsids, san, step, olds, news, grp, cmd⟩ := e
  dsimp only at h
  subst h
  rfl

/-- Past its sixth step the erase ends, once no save runs. -/
theorem State.eraseStep_end {e : EraseRun} (h : 7 ≤ e.step) {s : State} (hs : s.dict.saving = none) :
    s.eraseStep e = s.eraseEnd e := by
  rw [State.eraseStep]
  split
  case h_7 => simp [hs]
  all_goals omega

/-- The erase at its step, when one runs. -/
theorem State.exec_cryptoEraseRun {e : EraseRun} {s : State} (h : s.ciph.erase = some e) :
    exec .cryptoEraseRun s = .next (s.eraseStep e) := by
  change execCryptoEraseRun .. = _
  rw [execCryptoEraseRun, h]

theorem Only.range_eq {l : List Part} {s t : State} (h : Only l s t) (hd : .dict ∉ l) (r : Nat) :
    t.range r = s.range r := by
  simp only [State.range, State.odNat, h.dict hd]

/-- The draw of one key into the first empty slot. -/
theorem State.eraseStep_drawOne {e : EraseRun} {r n : Nat} {s : State} (he : s.ciph.erase = some e)
    (hs : e.step = 2) (hrg : s.eraseRanges e = [r]) (hok : s.ciph.entropyOk = true) (hst : s.ciph.state = .ready)
    (hf : (List.range 128).find? (fun n => decide ((s.slot n).state = .empty)) = some n)
    (hr : Tab.rising s.ciph.slots = true) :
    Completes (.cryptoEraseRun) s fun t =>
      t.slot n = { state := .loaded, key := drbgKey s.free, newKey := none } ∧ (∀ m, m ≠ n → t.slot m = s.slot m) ∧
      t.ciph.erase = some { e with step := 3, newSlots := e.newSlots ++ [(r, n)], oldSlots := e.oldSlots ++ [(s.range r).slot] } ∧
      t.free = s.free + 1 ∧ t.ciph.drbgCount = s.ciph.drbgCount + 1 ∧ MemorySame s t ∧ t.acts = s.acts ∧
        t.dict = s.dict := by
  have hn : (s.slot n).state = .empty := by simpa using List.find?_some hf
  obtain ⟨h1, h2, h3, h4, h5⟩ := State.slotGenerate_takes_spec hn hr _ rfl
  have hk : s.eraseKeys [r] e = ((s.slotGenerate n).slotTakes n,
      { e with newSlots := e.newSlots ++ [(r, n)], oldSlots := e.oldSlots ++ [(s.range r).slot] }) := by
    rw [State.eraseKeys, hf]; dsimp only
    rw [State.eraseKeys, h3.range_eq (by simp)]
  refine ⟨_, State.exec_cryptoEraseRun he, ?_⟩
  rw [State.eraseStep_draw hs, hrg, if_neg (by simp), if_neg (by simp [hok, hst]), hk]
  generalize (s.slotGenerate n).slotTakes n = u at *
  exact ⟨h1, h2, rfl, h5, h4, h3.memorySame (by simp), h3.allActs (by simp), h3.dict (by simp)⟩

/-- The end of an erase completes its command and counts it. -/
theorem State.eraseEnd_one {e : EraseRun} {k : Cmd} {s : State} (hne : e.nsids ≠ []) (hcmd : e.cmd = some k.n)
    (hc : s.nvme.cmds = [k]) (hq : s.ciph.eraseQueue = []) (hm : s.sys.mode = .service) (t : State)
    (ht : t = s.eraseEnd e) :
    t.ciph.erase = none ∧ t.ciph.eraseState = 2 ∧ t.nvme.cmds = [{ k with need := .nothing, status := nvOk }] ∧
      SentOnly (e.nsids.map fun n => eventMsg epCipher 86 n) s t ∧
      t.odNat 0x517004 0 = s.odNat 0x517004 0 + 1 ∧ t.ciph.slots = s.ciph.slots ∧ MemorySame s t ∧
        t.acts = s.acts := by
  have hmode (t : State) (ht : t.sys.mode = .service) : t.serviceCheck = t := by simp [State.serviceCheck, ht]
  rw [State.eraseEnd, foldS_event, hcmd, hmode] at ht
  · subst ht
    refine ⟨?_, ?_, ?_, rfl, State.odNat_count .., rfl, .of_mem rfl, rfl⟩
    · change s.ciph.eraseQueue.head? = none; rw [hq]; rfl
    · change (if s.ciph.eraseQueue.head?.isSome then 1 else if e.nsids.isEmpty then 3 else 2) = 2
      simp [hq, hne]
    · change s.nvme.cmds.map _ = _; rw [hc]; simp
  · exact hm

/-- Settles O46: a slot takes its change, the random source is reseeded or halts the engine, and the
crypto erase tells its namespaces, draws keys and completes its command, each by the equation of its step. -/
theorem keySlotsRandomSourceAndCryptoErase : Obligations.KeySlotsRandomSourceAndCryptoErase := by
  unfold Obligations.KeySlotsRandomSourceAndCryptoErase
  refine ⟨?_, ?_, ?_, ?_, ?_, ?_, ?_, ?_, ?_, ?_, ?_⟩
  · rintro n k s ⟨hs, hp, hk, ha, hr⟩
    obtain ⟨hn, hm, hmsg, ho, -, -, -⟩ := State.slotTakes_spec hp hr
    refine ⟨s.slotTakes n.val, ?_, ?_⟩
    · change execSlotChangeDone .. = _
      rw [execSlotChangeDone, if_pos hs, State.slotSaves_of_none (by rw [ho.dict (by simp), ha])]
    · exact ⟨by rw [hn, KeySlot.taken, hk], hm, by rw [hk] at hmsg; exact hmsg, ho.memorySame (by simp),
        ho.allActs (by simp), ho.dict (by simp)⟩
  · rintro n s ⟨hs, hp, hk, ha, hr⟩
    obtain ⟨hn, hm, hmsg, ho, -, -, -⟩ := State.slotTakes_spec hp hr
    refine ⟨s.slotTakes n.val, ?_, ?_⟩
    · change execSlotChangeDone .. = _
      rw [execSlotChangeDone, if_pos hs, State.slotSaves_of_none (by rw [ho.dict (by simp), ha])]
    · exact ⟨by rw [hn, KeySlot.taken, hk], hm, by rw [hk] at hmsg; exact hmsg, ho.memorySame (by simp),
        ho.allActs (by simp), ho.dict (by simp)⟩
  · rintro s ⟨ho, hc⟩
    refine ⟨_, rfl, ?_⟩
    rw [if_neg (by simpa [ho] using hc), if_pos rfl]
    exact ⟨rfl, rfl, .of_mem rfl, rfl, rfl⟩
  · rintro s ⟨ho, hc, ha⟩
    refine ⟨_, rfl, ?_⟩
    rw [if_neg (by simpa [ho] using hc), if_neg (by simp), State.ciphHalt_eq, State.slotsLost_of_none]
    · exact ⟨rfl, rfl, rfl, rfl, rfl, .of_mem rfl, rfl, rfl⟩
    · exact ha
  · rintro s ⟨ho, hc⟩
    exact ⟨_, rfl, by rw [if_pos (by simpa [ho] using hc)]⟩
  · rintro s ho
    refine ⟨_, rfl, ?_⟩
    rw [if_neg (by simp [ho])]
    exact ⟨rfl, rfl, .of_mem rfl, rfl, rfl⟩
  · rintro e s ⟨he, hs, hc⟩
    refine ⟨_, State.exec_cryptoEraseRun he, ?_⟩
    rw [State.eraseStep_tell hs, hc, List.any_nil, if_neg (by simp), foldS_event]
    exact ⟨rfl, rfl, .of_mem rfl, rfl, rfl⟩
  · rintro e k s ⟨he, hs, hc, hk, hn, ha, hm⟩
    refine ⟨_, State.exec_cryptoEraseRun he, ?_⟩
    rw [State.eraseStep_tell hs, hc]
    exact if_pos (by simp [EraseRun.waitsFor, hn, ha, hm, Ne.symm hk])
  · exact fun e r n s ⟨he, hs, hrg, hok, hst, hf, hr⟩ => State.eraseStep_drawOne he hs hrg hok hst hf hr
  · rintro e k s ⟨he, hs, hsv, hne, hcmd, hc, hq, hm⟩
    exact ⟨_, State.exec_cryptoEraseRun he, State.eraseEnd_one hne hcmd hc hq hm _ (State.eraseStep_end hs hsv)⟩
  · rintro s ⟨he, ho⟩
    refine ⟨s, ?_, rfl⟩
    change execCryptoEraseRun .. = _
    rw [execCryptoEraseRun, he, ho]
    rfl

end Sys2Proof.Machine

/-! SUPPORT. The frame that passes every check is taken up; a frame of role 0 under a key of its own, against the
READ of every such frame (03 R68, R72). -/

namespace Sys2Proof.Machine

open Sys2Proof

set_option Elab.async false

/-- The machine once a frame that passes every check has been taken up. -/
def State.taken (f : Frame) (s : State) : State := ((s.unqueue f).gcmRun true f.role.toNat).acceptFrame f

/-- What a frame's checks look at, the object of the hardware's count apart, is as it was. -/
structure SameChecks (s t : State) : Prop where
  keys : t.dict.keys = s.dict.keys
  provisioned : t.dict.provisioned = s.dict.provisioned
  boot : t.dict.bootCount = s.dict.bootCount
  floors : t.dict.floors = s.dict.floors
  counters : t.dict.counters = s.dict.counters
  open_ : t.odNat (odKey 0x0400 8) 0 = s.odNat (odKey 0x0400 8) 0
  node : t.p0300NodeId = s.p0300NodeId

theorem SameChecks.keyFor {s t : State} (h : SameChecks s t) (x : Sender) (role : Nat) :
    t.keyFor x role = s.keyFor x role := by
  simp only [State.keyFor, State.roleKey, h.keys, h.provisioned, h.open_]

theorem SameChecks.reqOf {s t : State} (h : SameChecks s t) (f : Frame) : t.reqOf f = s.reqOf f := by
  simp only [State.reqOf, h.keyFor]

theorem SameChecks.counterNew {s t : State} (h : SameChecks s t) (x : SessionId) (c : BitVec 64) :
    t.counterNew x c = s.counterNew x c := by
  simp only [State.counterNew, State.lastCounter, h.boot, h.floors, h.counters]

theorem SameChecks.frameForUs {s t : State} (h : SameChecks s t) (f : Frame) : t.frameForUs f = s.frameForUs f := by
  simp only [State.frameForUs, h.node]

theorem SameChecks.trans {s t u : State} (h : SameChecks s t) (k : SameChecks t u) : SameChecks s u :=
  ⟨k.keys.trans h.keys, k.provisioned.trans h.provisioned, k.boot.trans h.boot, k.floors.trans h.floors,
    k.counters.trans h.counters, k.open_.trans h.open_, k.node.trans h.node⟩

theorem SameChecks.unqueue (f : Frame) (s : State) : SameChecks s (s.unqueue f) := by
  unfold State.unqueue
  split <;> exact ⟨rfl, rfl, rfl, rfl, rfl, rfl, rfl⟩

theorem State.gcmRun_true (role : Nat) (s : State) :
    s.gcmRun true role = if s.gcmHw then s.count 0x517002 1 else s := by simp [State.gcmRun]

theorem SameChecks.gcmRun (role : Nat) (s : State) : SameChecks s (s.gcmRun true role) := by
  rw [State.gcmRun_true]
  split
  · have hk (k : Nat) (hne : k ≠ 0x517002) (d : Nat) : (s.count 0x517002 1).odNat k d = s.odNat k d := by
      simp only [State.odNat, State.count, State.odSet, State.onDict, Tab.get?_set_other _ _ hne]
    exact ⟨rfl, rfl, rfl, rfl, rfl, hk _ (by decide) _, hk _ (by decide) _⟩
  · exact ⟨rfl, rfl, rfl, rfl, rfl, rfl, rfl⟩

/-- A request opens under the key of its sender and role. -/
theorem State.tagGood_of_reqOf {s : State} {f : Frame} {r : Req} (h : s.reqOf f = some r) :
    s.tagGood f = true ∧ (s.keyFor f.sender f.role.toNat).isSome = true := by
  unfold State.reqOf at h
  cases hk : s.keyFor f.sender f.role.toNat with
  | none => simp [hk] at h
  | some k =>
    rw [hk] at h
    refine ⟨?_, rfl⟩
    by_cases ho : f.opens k = true
    · simp [State.tagGood, hk, ho]
    · simp [ho] at h

/-- A frame that passes every check is taken up and carried out. -/
theorem State.served_of_accepted {op : Nat} {own : Nat → Bool} {f : Frame} {r : Req} {s : State}
    (h : Accepted op f r s) (ho : own op = true) (body : Req → State → State) :
    s.served own f body = body r (s.taken f) := by
  obtain ⟨hreach, hsil, hus, hreq, hop, hcast, hnew, hq⟩ := h
  have hu := SameChecks.unqueue f s
  have hg := hu.trans (.gcmRun f.role.toNat _)
  have hreq' : (s.unqueue f).reqOf f = some r := (hu.reqOf f).trans hreq
  obtain ⟨hgood, hsome⟩ := State.tagGood_of_reqOf hreq'
  have hsil' : (s.unqueue f).isSilenced f.sender = false := by
    unfold State.unqueue; split <;> exact hsil
  have htake : s.takeFrame f = (s.taken f, some r) := by
    rw [State.takeFrame, if_neg (by simp [hreach])]
    dsimp only
    rw [if_neg (by simp [hsil']), if_neg (by simp [hu.frameForUs f, hus]), if_pos hsome, hgood, hreq']
    dsimp only
    rw [State.takeReq, if_neg (by rcases hcast with hc | hc <;> simp [hc, hop]),
      if_neg (by simp [hg.counterNew f.session f.counter, hnew]), if_neg (by omega)]
    rfl
  have hown : s.otherOp own f = false := by simp [State.otherOp, hreq, hop, ho]
  rw [State.served, if_neg (by simp [hown]), htake]

/-- A request's header: from node 2 to node 0x1000, counter 1. -/
def reqHeader (role : Byte) (len : Nat) : List Byte :=
  [1, role, 2, 0] ++ leBytes 2 0x1000 ++ leBytes 2 len ++ leBytes 8 1 ++ List.replicate 12 0

/-- A request of the field network, sealed under 32 zero bytes. -/
def reqFrame (role : Byte) (b : List Byte) : Frame where
  link := .t1s 1 0 0x88B5 false
  bytes := sealFrame (List.replicate 32 0) (reqHeader role b.length) b
  queued := 0
  guests := 0

/-- The request of a frame sealed under 32 zero bytes, where that is the key of its sender and role. -/
theorem reqOf_reqFrame {role : Byte} {b : List Byte} {s : State}
    (hl : leField (reqHeader role b.length) 6 2 = b.length ∧ 4 ≤ b.length ∧ b.length ≤ 1456)
    (hk : s.keyFor (reqFrame role b).sender (reqFrame role b).role.toNat = some (List.replicate 32 0)) :
    s.reqOf (reqFrame role b) = bodyReq b :=
  s.reqOf_sealFrame _ _ _ _ _ _ List.length_replicate (by simp [reqHeader, length_leBytes]) hl.1 hl.2.1 hl.2.2 _
    rfl hk

/-- A READ of subindex 1 of index 3 in a frame of role 0. -/
def roleZeroFrame : Frame := reqFrame 0 [1, 0, 1, 0, 3, 0, 1, 0, 0, 0]

/-- A machine whose core runs, on the field network, and whose keys hold one of role 0. -/
def roleZeroState : State :=
  ((State.reset.onSys fun y => { y with coreReleased := true }).onDom 30 fun x => { x with state := .on }).onDict
    fun d => { d with keys := [(0, List.replicate 32 0)] }

/-- The request the frame carries. -/
def roleZeroReq : Req where
  op := 1
  items := [{ key := { index := 3, sub := 1 }, ty := 0, bytes := [] }]

theorem roleZeroFrame_accepted : Accepted 1 roleZeroFrame roleZeroReq roleZeroState := by
  have hreq : roleZeroState.reqOf roleZeroFrame = some roleZeroReq :=
    (reqOf_reqFrame (by decide +kernel) (by decide +kernel)).trans (by decide +kernel)
  refine ⟨?_, rfl, ?_, hreq, rfl, .inl rfl, ?_, by decide +kernel⟩
  all_goals decide +kernel

/-- The server refuses the READ: role 0 is below the Visitor's. -/
theorem roleZeroState_refuses :
    ((roleZeroState.taken roleZeroFrame).readItems roleZeroFrame.session roleZeroFrame.guests roleZeroReq.keys [] []).2
      = ([itemResp { index := 3, sub := 1 } 3], []) := by
  decide +kernel

/-- A response sealed keeps its items. -/
theorem State.sealed_items (r : Resp) (s : State) : (s.sealed r).items = r.items := rfl

/-- A response to a sender of the field network is the last answer given. -/
theorem State.reply_answers {r : Resp} {mac : BitVec 48} {node : BitVec 16} (h : r.sender = .t1s mac node)
    (s : State) :
    (s.reply r).dict.answers.getLast?.map Resp.items = some r.items := by
  have hs (t : State) : (t.sealed r).sender = .t1s mac node := h
  simp only [State.reply, hs, State.onDict, List.getLast?_concat, Option.map_some, State.sealed_items]

/-- Refutes O9: a frame of role 0 that passes every check gets status 0x03 for its READ, not the value. -/
theorem not_buythFramesAreCheckedBeforeTheyAreServed : ¬ Obligations.BuythFramesAreCheckedBeforeTheyAreServed := by
  intro h
  obtain ⟨hread, -⟩ := h
  obtain ⟨t, ht, -, -, -, hans, -⟩ := hread roleZeroFrame roleZeroReq roleZeroState ⟨roleZeroFrame_accepted, rfl⟩
  have hrun := Host.Outcome.next.inj ((congrArg Host.Outcome.next
    (State.served_of_accepted (own := (· == 1)) roleZeroFrame_accepted rfl _)).symm.trans ht)
  have hitems := roleZeroState_refuses
  generalize roleZeroState.taken roleZeroFrame = u at hrun hitems
  change ((u.readItems roleZeroFrame.session roleZeroFrame.guests roleZeroReq.keys [] []).1.answer
    (u.readItems roleZeroFrame.session roleZeroFrame.guests roleZeroReq.keys [] []).2.2
    (u.resp roleZeroFrame 1 0
      (u.readItems roleZeroFrame.session roleZeroFrame.guests roleZeroReq.keys [] []).2.1 [])) = t at hrun
  rw [hitems] at hrun
  have hlast := State.reply_answers (r := u.resp roleZeroFrame 1 0 [itemResp { index := 3, sub := 1 } 3] []) rfl
    (u.readItems roleZeroFrame.session roleZeroFrame.guests roleZeroReq.keys [] []).1
  have hgot : t.dict.answers.getLast? = _ := hans
  have hnone (r : Resp) (v : State) : v.answer [] r = v.reply r := rfl
  dsimp only at hrun
  rw [← hrun, hnone] at hgot
  rw [hgot] at hlast
  have hstatus : (0 : AccStatus) = 3 := RespItem.mk.inj (List.cons.inj (Option.some.inj hlast)).1 |>.2.1
  exact absurd hstatus (by decide)

end Sys2Proof.Machine

/-! SUPPORT. A held response that goes through the cipher engine's management bank, which counts it (03 R71, R81). -/

namespace Sys2Proof.Machine

open Sys2Proof

set_option Elab.async false

/-- A response held since chip time 0 for the guest of actuator 0. -/
def heldResp : HeldResp where
  since := 0
  acts := [0]
  resp := { sender := .i3c 9, dst := 2, tagId := 7, op := 0x81, status := 0, items := [], extra := [], bytes := []
            counter := 0, keyRole := 1, key := [], epoch := 0, src := 0, frame := [] }

/-- A machine of tier A whose cipher engine is ready, one second after reset, that holds the response. -/
def heldState : State :=
  let s := (State.reset.onIdent fun x => { x with tier := .a }).onDom 18 fun x => { x with state := .on }
  let s := (s.onCiph fun c => { c with state := .ready }).onDict fun d => { d with held := some heldResp }
  s.onFab fun f => { f with chipTime := BitVec.ofNat 64 secTicks }

/-- The release counts its sealing in OD 0x5170.02. -/
theorem heldState_counts :
    (match exec (.guestObjectTimeout 0) heldState with
      | .next t => t.odNat 0x517002 0
      | _ => 0) = 1 := by
  decide +kernel

/-- Refutes O12: the response that a guest's timeout releases is sealed by the hardware path, which counts it in the
dictionary, so the objects are not as before. -/
theorem not_buythCarriageTimersAndGuests : ¬ Obligations.BuythCarriageTimersAndGuests := by
  intro h
  obtain ⟨-, -, -, -, -, -, -, -, htimeout, -⟩ := h
  obtain ⟨t, ht, -, -, -, hod, -⟩ := htimeout 0 heldResp.resp 0 heldState ⟨rfl, by decide +kernel⟩
  have hcount := heldState_counts
  rw [ht] at hcount
  have hzero : t.odNat 0x517002 0 = 0 := by rw [State.odNat, hod]; rfl
  exact absurd (hcount.symm.trans hzero) (by decide)

end Sys2Proof.Machine

/-! SUPPORT. A replay that waits behind a refill and cannot run: its ladder releases the slot, whose STATE word in
sample RAM shows the pin (07 R218, R228, 08 R253). -/

namespace Sys2Proof.Machine

open Sys2Proof

set_option Elab.async false

/-- A sector captured into slot 0, which waits to be refilled. -/
def refillSector : SectorJob :=
  { sectorJob { opId := 1, head := 0, zone := 0, track := 0, sectors := [], ladder := none } 0
      { sector := 0, tag := 0, dest := 0, nomA := 0, nomB := 0, conts := [], cmd := none, nsid := 1, lba := 0 }
      0 [] false false 0 with
    seq := 1, captured := true, refill := true }

/-- Its staging buffer. -/
def refillBuf : StageBuf where
  job := refillSector
  d1In := false
  d2In := true
  since := 0
  llrs := []
  granted := none

/-- A ladder with one replay out. -/
def refillLadder : Ladder where
  id := 1
  act := 0
  job := refillSector
  nsid := 1
  lba := 0
  limitedRetry := false
  start := 0
  step := 2
  wait := .replay
  todo := []
  out := 1
  offsets := []
  offset := 0
  best := none
  converged := 0
  wrongPlace := 0
  refilled := false
  late := false

/-- The ladder's replay. -/
def refillReplay : ReplayJob where
  resident := true
  req := ladderReplay refillLadder 0 0 0 1 none none
  job := refillSector

/-- A machine with the refill and the replay, and the pin shown in the STATE word of slot 0. -/
def refillState : State :=
  let s := State.reset.onRch 0 fun r => { r with
    stage := [refillBuf], replays := [refillReplay], resPin := 1, replayBuf := none }
  (s.onRecov fun r => { r with ladders := [refillLadder] }).setSlotWord 0 0 4 0x20000000

/-- The pin is shown before the step and not after it. -/
theorem refillState_unpins :
    memByte refillState.fab.mem (slotBase 0 0 + 7) = 0x20 ∧
      (match exec (.refillStart 0) refillState with
        | .next t => memByte t.fab.mem (slotBase 0 0 + 7)
        | _ => 0x20) = 0 := by
  decide +kernel

/-- Refutes O26: a refill frees the replay detector for a replay that waits; that one's slot was captured into again, so
it ends at once and its ladder takes the pin off the slot, which changes the slot's STATE word in memory. -/
theorem not_decodersTakeSectorsAndEndThem : ¬ Obligations.DecodersTakeSectorsAndEndThem := by
  intro h
  obtain ⟨-, -, hrefill, -⟩ := h
  obtain ⟨t, ht, -, -, hmem⟩ := hrefill 0 refillBuf refillState ⟨rfl, rfl, rfl, rfl⟩
  obtain ⟨hbefore, hafter⟩ := refillState_unpins
  rw [ht] at hafter
  have hsame := hmem (slotBase 0 0 + 7)
  dsimp only at hafter
  rw [hbefore, hafter] at hsame
  exact absurd hsame (by decide)

end Sys2Proof.Machine

/-! SUPPORT. A write operation offered in ORIENTATION to an actuator that has four media operations in flight
  (02 R48). -/

namespace Sys2Proof.Machine

open Sys2Proof

set_option Elab.async false

/-- A write operation of one sector. -/
def fifthWrite : WriteOp where
  opId := 1
  head := 0
  zone := 0
  track := 0
  first := 0
  sectors := [(0, 0)]

/-- The operation as it stands accepted, without a bank. -/
def acceptedWrite : WpOp where
  op := fifthWrite
  bank := none
  trim := 0
  written := 0
  tries := 0
  heatAt := none
  cut := none
  target := 0

/-- A machine in ORIENTATION whose actuator 0 is powered and has four write operations. -/
def fourWrites : State :=
  (((State.reset.onSys fun y => { y with mode := .orientation }).onDom 20 fun x => { x with state := .on }).onWp 0
    fun w => { w with ops := List.replicate 4 acceptedWrite })

theorem fourWrites_full : fourWrites.present 0 = true ∧ fourWrites.domOn (20 + (0 : Fin 4).val) = true ∧
    fourWrites.wpChoose 0 fifthWrite = none ∧ fourWrites.mediaRoom 0 = false := by
  decide +kernel

/-- Refutes O28: in ORIENTATION no fifth operation goes into flight, so the operation is not accepted and no bank is
asked for. -/
theorem not_writesAreAcceptedGatedAndCompleted : ¬ Obligations.WritesAreAcceptedGatedAndCompleted := by
  intro h
  obtain ⟨-, hnobank, -⟩ := h
  obtain ⟨hp, hd, hc, hm⟩ := fourWrites_full
  obtain ⟨t, ht, hops, -⟩ := hnobank 0 fifthWrite fourWrites ⟨hp, hd, hc⟩
  change execWriteOperationAccept .. = _ at ht
  rw [execWriteOperationAccept, hm, Bool.and_false, if_neg (by simp)] at ht
  obtain rfl := Host.Outcome.next.inj ht
  exact absurd (congrArg List.length hops) (by decide)

end Sys2Proof.Machine

/-! SUPPORT. A chunk to destage in ORIENTATION onto an actuator that has four media operations in flight (02 R48). -/

namespace Sys2Proof.Machine

open Sys2Proof

set_option Elab.async false

/-- A dirty page of unit 0. -/
def dirtyPage : Page where
  unit := 0
  state := .dirty
  gen := 1
  cids := []
  frees := none

/-- The chunk of that unit. -/
def oneUnit : ChunkInputs where
  cmd := 1
  gmu := 0
  len := 1
  seeks := []
  src := 0
  spare := 0

/-- A stripe of actuator 0. -/
def emptyStripe : Stripe where
  act := 0
  head := 0
  zone := 0
  first := 0
  spt := 100
  size := 1000
  write := 0
  tail := 0

/-- The group that is open in it. -/
def emptyGroup : RowGroup where
  serial := 1
  loc := { act := 0, head := 0, track := 0 }
  sector := 0
  zone := 0
  k := 32
  members := 0
  closed := false
  parity := true
  stripe := 0
  pos := 0
  qOp := none
  lastAt := 0

/-- The machine of four write operations, with the page, the stripe and its open group. -/
def fullActuator : State :=
  ((fourWrites.onIsl 0 fun i => { i with load := .loaded }).onBuf fun b => { b with pages := [dirtyPage] }).onPlc
    fun p => { p with
      stripes := [emptyStripe], groups := [emptyGroup], parity := [(1, ([], []))] }

/-- The stripe is picked, and its actuator takes no further operation. -/
theorem fullActuator_picks : fullActuator.pickStripe oneUnit none = some 0 ∧
    fullActuator.openGroup 0 = some emptyGroup ∧
    4096 ≤ fullActuator.p1420Chunk ∧ fullActuator.mediaRoom 0 = false := by
  decide +kernel

/-- The page stays dirty. -/
theorem fullActuator_waits :
    (match exec (.destageChunk oneUnit) fullActuator with
      | .next t => t.buf.pages.map Page.state
      | _ => []) = [.dirty] := by
  decide +kernel

/-- Refutes O32: in ORIENTATION no fifth operation goes into flight, so a chunk for which a stripe is picked is not
destaged onto an actuator with four. -/
theorem not_placementDestagesAndClosesGroups : ¬ Obligations.PlacementDestagesAndClosesGroups := by
  intro h
  obtain ⟨hdestage, -⟩ := h
  obtain ⟨hp, hg, hc, -⟩ := fullActuator_picks
  obtain ⟨t, ht, hpages, -⟩ := hdestage oneUnit dirtyPage 0 emptyStripe emptyGroup fullActuator
    ⟨rfl, rfl, rfl, rfl, hc, rfl, hp, rfl, hg, by decide, rfl, by decide, by decide⟩
  have hstay := fullActuator_waits
  rw [ht] at hstay
  dsimp only at hstay
  rw [hpages] at hstay
  exact absurd hstay (by decide)

end Sys2Proof.Machine

/-! SUPPORT. The second pool half asked to switch off while the first is to follow and heads are loaded (18 R498). -/

namespace Sys2Proof.Machine

open Sys2Proof

set_option Elab.async false

/-- A machine in SERVICE, a thousand seconds after reset, with the heads of actuator 0 loaded and both pool halves on, the
first of which waits to switch off. -/
def halfGoing : State :=
  let s := (State.reset.onSys fun y => { y with mode := .service }).onIsl 0 fun i => { i with load := .loaded }
  let s := (s.onDom 28 fun x => { x with state := .on, wantOff := true }).onDom 29 fun x => { x with state := .on }
  s.onFab fun f => { f with chipTime := BitVec.ofNat 64 (1000 * secTicks) }

theorem halfGoing_idle : halfGoing.ttRuns = true ∧ (halfGoing.dom 29).state = .on ∧ halfGoing.upperBusy = false ∧
    (halfGoing.dom 28).state = .on ∧ halfGoing.p1800PoolIdleMs ≤ halfGoing.msSince halfGoing.tt.grantAt := by
  decide +kernel

/-- The second half stays on: heads are loaded and the first is about to go. -/
theorem halfGoing_stays :
    (match exec .poolIdleTimeout halfGoing with
      | .next t => some (t.dom 29).state
      | _ => none) = some .on := by
  decide +kernel

/-- Refutes O36: with heads loaded the second pool half does not begin to switch off while the first waits to. -/
theorem not_timetableHeatCruisePoolAndCalibration : ¬ Obligations.TimetableHeatCruisePoolAndCalibration := by
  intro h
  obtain ⟨-, -, -, -, hidle, -⟩ := h
  obtain ⟨t, ht, hdom, -⟩ := hidle halfGoing halfGoing_idle
  have hstay := halfGoing_stays
  rw [ht] at hstay
  dsimp only at hstay
  rw [hdom] at hstay
  exact absurd hstay (by decide)

end Sys2Proof.Machine

/-! SUPPORT. A flush that waits for the number it is about to be given itself (12 R374). -/

namespace Sys2Proof.Machine

open Sys2Proof

set_option Elab.async false

/-- A flush of all namespaces, from the first I/O queue. -/
def ownFlush : NvmeHdr := { ctrl := 0, sqid := 1, cid := 0 }

/-- A machine in SERVICE that has fetched nothing, with one command in its first I/O queue and a dirty page of the
command number 1. -/
def ownNumber : State :=
  let s := (State.reset.onPorts fun p => { p with perst := false }).onSys fun y => { y with
    hostConfigured := true, mode := .service }
  let s := (s.onDom 12 fun x => { x with state := .on }).onPort 0 fun p => { p with up := true, l12 := false }
  let s := s.onCtrl 0 fun c => { c with
    en := true, rdy := true, fetchStopped := false
    sqs := [{ id := 1, size := 4, cqid := 1, prio := 0, tail := 1, head := 0 }] }
  s.onBuf fun b => { b with pages := [{ unit := 0, state := .dirty, gen := 1, cids := [1], frees := none }] }

theorem ownNumber_fetches : ownNumber.fetchOk ownFlush false = true ∧ ownNumber.nvme.cmds = [] ∧
    ownNumber.sys.mode = .service ∧ ownNumber.flushList = [1] := by
  decide +kernel

/-- The flush takes number 1 and waits for nothing. -/
theorem ownNumber_done :
    (match exec (.nvmeFlush ownFlush 0xFFFFFFFF) ownNumber with
      | .next t => some ((t.cmd? 1).map fun k => k.need)
      | _ => none) = some (some .nothing) := by
  decide +kernel

/-- Refutes O40: a page of a number not yet given out is waited for before the flush is fetched, and no longer once the
flush itself has that number. -/
theorem not_ioCommandsOnBlocks : ¬ Obligations.IoCommandsOnBlocks := by
  intro h
  obtain ⟨-, -, -, -, -, -, -, hflush, -⟩ := h
  obtain ⟨hf, hc, hm, hl⟩ := ownNumber_fetches
  obtain ⟨t, ht, hneed, -⟩ := hflush ownFlush 1 ownNumber ⟨⟨hf, by rw [FreshNumbers, hc]; simp⟩, hm, hl⟩
  have hdone := ownNumber_done
  rw [ht] at hdone
  dsimp only at hdone
  rw [show ownNumber.nvme.fetched + 1 = 1 by decide +kernel] at hneed
  rw [hneed] at hdone
  exact absurd hdone (by decide)

end Sys2Proof.Machine

/-! SUPPORT. A granule beyond correction read while the memory island's replica of chip time is off
  (01 R33, 13 R406). -/

namespace Sys2Proof.Machine

open Sys2Proof

set_option Elab.async false

/-- A read of 8 bytes of the second granule of DRAM. -/
def badRead : Access := { kind := .read, amo := .swap, addr := 0x800000040, size := 8, data := [] }

/-- A clean link. -/
def cleanLink : LinkEcc := { corrected := false, detected := false, retryFailed := false, errs := [], burst := [] }

/-- A machine with trained DRAM whose second granule has five byte errors, and whose replicas of chip time are one tick
ahead. -/
def replicasAhead : State :=
  let s := ((State.reset.onDramc fun d => { d with rawGiB := 8 }).onSys fun y => { y with dram := .trained }).onDom 14
    fun x => { x with state := .on }
  (s.setErrs 1 [(9, 1), (10, 1), (11, 1), (12, 1), (13, 1)]).onFab fun f => { f with replica := List.replicate 12 1 }

theorem replicasAhead_takes :
    MemoryTakes { id := replicasAhead.fab.nextTxn, src := 3, chan := none, acc := badRead } replicasAhead ∧
      badRead.kind = .read ∧
      (replicasAhead.lineRead (granOf badRead.addr)).decodeGran (granOf badRead.addr) [] = .data ∧
      replicasAhead.qEntry (granOf badRead.addr) = none ∧ replicasAhead.dramc.log.length < 16 := by
  decide +kernel

/-- Its fault report carries the replica's time, one tick ahead of chip time. -/
theorem replicasAhead_reports :
    (match exec (.dramRequest 3 badRead cleanLink none) replicasAhead with
      | .next t => some t.fab.msgs
      | _ => none) = some (replicasAhead.fab.msgs ++ [eventMsg epMemory 68 1, faultAtMsg epMemory 17 0 0x800000040 1,
        eventMsg epMemory 67 256]) := by
  decide +kernel

/-- Refutes O43: the fault report of an uncorrectable read carries the memory island's own time, which is not chip time
when its replica has drifted. -/
theorem not_dramServesReadsWritesAndAtomics : ¬ Obligations.DramServesReadsWritesAndAtomics := by
  intro h
  obtain ⟨-, hbad, -⟩ := h
  obtain ⟨t, ht, -, -, hmsgs, -⟩ := hbad 3 badRead replicasAhead replicasAhead_takes
  have hrep := replicasAhead_reports
  rw [cleanLink, ht] at hrep
  dsimp only at hrep
  rw [SentOnly] at hmsgs
  rw [hmsgs] at hrep
  exact absurd (List.append_cancel_left (Option.some.inj hrep)) (by decide +kernel)

end Sys2Proof.Machine

/-! SUPPORT. A descriptor that would end while a transaction of the DMA engine has no answer yet (01 R21). -/

namespace Sys2Proof.Machine

open Sys2Proof

set_option Elab.async false

/-- A descriptor of 64 bytes from one place of shared SRAM to another. -/
def heldDesc : DmaDesc := { control := 0x80000000, src := 0x10001000, dst := 0x10002000, len := 64, next := 0 }

/-- The channel that carries it out. -/
def heldChannel : DmaCh :=
  { DmaCh.reset with state := .active, ptr := 0x800180, desc := some heldDesc, left := 64 }

/-- A machine whose DMA channel 3 owns the mover, with a read of the engine in flight. -/
def readInFlight : State :=
  let s := (State.reset.onDom 19 fun x => { x with state := .on }).onDom 7 fun x => { x with state := .on }
  (s.onDma fun d => { d with owner := some 3, ch := [(3, heldChannel)] }).onFab fun f => { f with
    txns := [{ id := 0, src := epDma, chan := some 3, acc := dmaAcc .read 0x10001000 64 [] }] }

theorem readInFlight_moves :
    readInFlight.dmaLive 3 = true ∧ readInFlight.dma.owner = some 3 ∧
      readInFlight.dma.ch = [((3 : Fin 16).val, heldChannel)] ∧
      heldChannel.state = .active ∧ heldChannel.desc = some heldDesc ∧ heldDesc.len = 64 ∧ heldDesc.next = 0 ∧
      fld heldDesc.control.toNat 24 2 = 0 ∧ heldDesc.control.getLsbD 29 = false ∧
      (heldDesc.src = heldDesc.dst ∨ heldDesc.overlaps = false) ∧ 0x10000000 ≤ heldDesc.src.toNat ∧
      heldDesc.src.toNat + 64 ≤ 0x11800000 ∧ 0x10000000 ≤ heldDesc.dst.toNat ∧
      heldDesc.dst.toNat + 64 ≤ 0x11800000 ∧ heldDesc.src.toNat % 64 = 0 ∧ heldDesc.dst.toNat % 64 = 0 ∧
      0x10000000 ≤ heldChannel.addr ∧ heldChannel.addr + 32 ≤ 0x11800000 ∧
      (heldDesc.dst.toNat + 64 ≤ heldChannel.addr ∨ heldChannel.addr + 32 ≤ heldDesc.dst.toNat) ∧
      readInFlight.refusal epDma (some 3) (dmaAcc .read heldDesc.src.toNat 64 []) = none ∧
      readInFlight.refusal epDma (some 3) (dmaAcc .write heldDesc.dst.toNat 64 (List.replicate 64 0)) = none ∧
      readInFlight.refusal epDma (some 3) (dmaAcc .write heldChannel.addr 4 [0, 0, 0, 0]) = none ∧
      readInFlight.refusal epDma (some 3) (dmaAcc .write (heldChannel.addr + 0x1C) 4 [0, 0, 0, 0]) = none ∧
      readInFlight.hm.brst = [] ∧ readInFlight.pwr.doms.all (fun e => !e.2.wantOff) = true ∧
      Memory.wf readInFlight.fab.mem = true := by
  decide +kernel

theorem readInFlight_unanswered : readInFlight.unanswered epDma = true := by
  decide +kernel

/-- Refutes O48: a descriptor does not end while a transaction of the engine is unanswered. -/
theorem not_dmaDescriptorsMoveBytesAndEnd : ¬ Obligations.DmaDescriptorsMoveBytesAndEnd := by
  intro h
  obtain ⟨hends, -⟩ := h
  obtain ⟨t, ht, -, -, -, -, hown, -⟩ := hends 3 heldChannel heldDesc readInFlight readInFlight_moves
  obtain ⟨-, howner, -⟩ := readInFlight_moves
  have hdesc : (readInFlight.dmaCh 3).desc = some heldDesc := by decide +kernel
  replace ht := (show execDescriptorComplete 3 none readInFlight = _ from ht)
  rw [execDescriptorComplete] at ht
  simp only [hdesc, readInFlight_unanswered, Bool.or_true, if_true] at ht
  obtain rfl := Host.Outcome.next.inj ht
  rw [howner] at hown
  exact absurd hown (by decide)

end Sys2Proof.Machine

/-! SUPPORT. Commands under their numbers, and what the fetch of a command does (12 R370). -/

namespace Sys2Proof.Machine

open Sys2Proof

set_option Elab.async false

/-! Frames. -/

/-- The fabric is as before. -/
theorem Only.fab {l : List Part} {s t : State} (h : Only l s t)
    (n : .time ∉ l ∧ .msgs ∉ l ∧ .mem ∉ l ∧ .txns ∉ l) : t.fab = s.fab := by
  obtain ⟨htime, hmsgs, hmem, htxns⟩ := n
  obtain ⟨h1, h2⟩ := h.time htime
  obtain ⟨h3, h4, h5, h6, h7⟩ := h.txns htxns
  have h8 := h.msgs hmsgs
  have h9 := h.mem hmem
  cases hs : s.fab
  cases ht : t.fab
  simp_all

/-! Controllers. -/

theorem State.ctrl_onCtrl_same {c : Fin 2} {s : State} (h : c.val < s.nvme.ctrls.length) (f : Ctrl → Ctrl) :
    (s.onCtrl c f).ctrl c = f (s.ctrl c) :=
  nth_setNth_same h _ _

theorem State.ctrl_onCtrl_other {c d : Fin 2} (h : d ≠ c) (f : Ctrl → Ctrl) (s : State) :
    (s.onCtrl c f).ctrl d = s.ctrl d :=
  nth_setNth_other (fun e => h (Fin.ext e)) _ _

/-- A controller that is enabled exists. -/
theorem State.ctrl_exists {c : Fin 2} {s : State} (h : (s.ctrl c).en = true) : c.val < s.nvme.ctrls.length := by
  refine Decidable.byContradiction fun hn => ?_
  rw [State.ctrl, nth, List.getElem?_eq_none (by omega)] at h
  exact absurd h (by decide)

/-! Commands under their numbers. -/

/-- A command changed under its number is the one found there. -/
theorem State.cmd?_onCmd (n : Nat) {f : Cmd → Cmd} (hf : ∀ k, (f k).n = k.n) (s : State) :
    (s.onCmd n f).cmd? n = (s.cmd? n).map f := by
  have h : ∀ l : List Cmd, (l.map fun c => if c.n = n then f c else c).find? (fun c => c.n == n)
      = (l.find? fun c => c.n == n).map f := by
    intro l
    induction l with
    | nil => rfl
    | cons c r ih => by_cases hc : c.n = n <;> simp [hc, hf, ih]
  exact h s.nvme.cmds

/-- The other commands stay. -/
theorem State.mem_onCmd {n : Nat} {f : Cmd → Cmd} {s : State} {k : Cmd} (hk : k ∈ s.nvme.cmds) (hn : k.n ≠ n) :
    k ∈ (s.onCmd n f).nvme.cmds :=
  List.mem_map.2 ⟨k, hk, if_neg hn⟩

theorem Ready.of_cmdReady {n : Nat} {s : State} (h : (s.cmd? n).isSome = true) (st : NvStatus) :
    Ready n st (s.cmdReady n st) := by
  obtain ⟨k, hk⟩ := Option.isSome_iff_exists.1 h
  have hready := State.cmd?_onCmd n (f := fun c : Cmd => { c with need := .nothing, status := st }) (fun _ => rfl) s
  rw [Ready, State.cmdReady, hready, hk]
  rfl

/-! Checks. -/

/-- The first check that refuses, if any. -/
theorem State.checked_passed {l : List (Option NvStatus)} (h : NoneRefuse l) (n : Nat) (go : State → State)
    (s : State) : s.checked n l go = go s := by
  rw [State.checked, h]

theorem State.checked_refused {l : List (Option NvStatus)} {st : NvStatus} (h : l.findSome? id = some st) (n : Nat)
    (go : State → State) (s : State) : s.checked n l go = s.cmdReady n st := by
  rw [State.checked, h]

@[simp] theorem failIf_false (st : NvStatus) : failIf false st = none := rfl

@[simp] theorem failIf_true (st : NvStatus) : failIf true st = some st := rfl

/-! The fetch. -/

/-- A command as it enters the table. -/
def State.entered (h : NvmeHdr) (admin : Bool) (opcode : Nat) (r : IoRange) (s : State) : Cmd where
  n := s.nvme.fetched + 1
  ctrl := h.ctrl
  sqid := h.sqid
  cid := h.cid
  opcode := BitVec.ofNat 8 opcode
  admin := admin
  nsid := r.nsid
  lba := r.lba
  nlb := r.nlb
  limitedRetry := false
  places := []
  gen := 0
  fua := false
  handle := none
  due := s.takeNumber.inTicks (s.takeNumber.deadlineMs (s.takeNumber.sqClass h.ctrl h.sqid) * msTicks)
  need := .nothing
  status := nvOk
  dw0 := 0
  lateSeen := false

section
variable (h : NvmeHdr) (admin : Bool) (opcode : Nat) (r : IoRange) (s : State)

theorem State.fetch_cmds :
    (s.fetch h admin opcode r).nvme.cmds = s.nvme.cmds ++ [s.entered h admin opcode r] := rfl

theorem State.fetch_cmd? (hf : FreshNumbers s) :
    (s.fetch h admin opcode r).cmd? (s.nvme.fetched + 1) = some (s.entered h admin opcode r) := by
  have hold : s.nvme.cmds.find? (fun c => c.n == s.nvme.fetched + 1) = none := by
    rw [List.find?_eq_none]
    intro k hk
    have := hf k hk
    simp only [beq_iff_eq]
    omega
  rw [State.cmd?, State.fetch_cmds, List.find?_append, hold]
  simp [State.entered]

/-- The number of an older command is not the one given out. -/
theorem FreshNumbers.ne {s : State} (hf : FreshNumbers s) {k : Cmd} (hk : k ∈ s.nvme.cmds) :
    k.n ≠ s.nvme.fetched + 1 := by
  have := hf k hk
  omega

theorem State.fetch_ctrl_other {c : Fin 2} (hc : c ≠ h.ctrl) : (s.fetch h admin opcode r).ctrl c = s.ctrl c :=
  State.ctrl_onCtrl_other hc _ _

end

theorem State.cmdReady_only {l : List Part} (n : Nat) (st : NvStatus) (s : State) (hn : .nvme ∈ l) (z : State) :
    Only l z (s.cmdReady n st) ↔ Only l z s :=
  State.onCmd_only n _ s hn z

theorem State.readyDw0_only {l : List Part} (n dw0 : Nat) (s : State) (hn : .nvme ∈ l) (z : State) :
    Only l z (s.readyDw0 n dw0) ↔ Only l z s :=
  (State.onCmd_only n _ _ hn z).trans (State.cmdReady_only n _ s hn z)

/-- A fetch changes the NVMe state alone. -/
theorem State.fetch_only {l : List Part} (h : NvmeHdr) (admin : Bool) (opcode : Nat) (r : IoRange) (s : State)
    (hn : .nvme ∈ l) (z : State) : Only l z (s.fetch h admin opcode r) ↔ Only l z s := by
  unfold State.fetch State.onCtrl State.takeNumber
  simp only [State.onNvme_only, hn]

theorem State.fetch_frame (h : NvmeHdr) (admin : Bool) (opcode : Nat) (r : IoRange) (s : State) :
    Only [.nvme] s (s.fetch h admin opcode r) := (State.fetch_only h admin opcode r s (by simp) s).2 (.refl _ s)

/-- What a controller must be to fetch. -/
theorem State.fetchOk_enabled {h : NvmeHdr} {admin : Bool} {s : State} (hf : s.fetchOk h admin = true) :
    (s.ctrl h.ctrl).en = true := by
  simp only [State.fetchOk, Bool.and_eq_true] at hf
  exact hf.1.1.1.1.1.2

theorem State.fetchOk_queue {h : NvmeHdr} {admin : Bool} {s : State} (hf : s.fetchOk h admin = true) :
    admin = (h.sqid == 0) := by
  simp only [State.fetchOk, Bool.and_eq_true, beq_iff_eq] at hf
  exact hf.1.2

/-- The queues of the controller that fetches: the head of one submission queue moves on. -/
theorem State.fetch_ctrl_same {h : NvmeHdr} {admin : Bool} {s : State} (hf : s.fetchOk h admin = true) (opcode : Nat)
    (r : IoRange) :
    (s.fetch h admin opcode r).ctrl h.ctrl = { s.ctrl h.ctrl with
      sqs := (s.ctrl h.ctrl).sqs.map fun q => if q.id = h.sqid then { q with head := (q.head + 1) % max 1 q.size }
        else q } := by
  have hexists := State.ctrl_exists (State.fetchOk_enabled hf)
  rw [State.fetch]
  exact (State.ctrl_onCtrl_same (by exact hexists) _).trans rfl

theorem State.admin_fetches {h : NvmeHdr} {s : State} (hf : s.fetchOk h true = true) (opcode nsid : Nat)
    (body : Nat → State → State) :
    s.admin h opcode nsid body
      = body (s.nvme.fetched + 1) (s.fetch h true opcode { nsid := nsid, lba := 0, nlb := 0 }) := by
  rw [State.admin, if_pos hf]
  rfl

theorem State.io_fetches {h : NvmeHdr} {s : State} (hf : s.fetchOk h false = true) (opcode : Nat) (r : IoRange)
    (body : Nat → State → State) :
    s.io h opcode r body = body (s.nvme.fetched + 1) (s.fetch h false opcode r) := by
  rw [State.io, if_pos hf]
  rfl

section
variable {s t : State} (hf : FreshNumbers s) {h : NvmeHdr} {admin : Bool} {opcode : Nat} {r : IoRange}
  (ht : t.nvme.cmds = (s.fetch h admin opcode r).nvme.cmds)
include hf ht

/-- The fetched command is found under its number. -/
theorem FreshNumbers.fetched : t.cmd? (s.nvme.fetched + 1) = some (s.entered h admin opcode r) := by
  rw [State.cmd?, ht]
  exact State.fetch_cmd? h admin opcode r s hf

/-- A command that stands as it was fetched has completed. -/
theorem FreshNumbers.ready : Ready (s.nvme.fetched + 1) nvOk t := by
  rw [Ready, hf.fetched ht]
  rfl

/-- A fetched command that a check refuses completes with the status of the check. -/
theorem FreshNumbers.refused (st : NvStatus) :
    Ready (s.nvme.fetched + 1) st (t.cmdReady (s.nvme.fetched + 1) st) :=
  Ready.of_cmdReady (by rw [hf.fetched ht]; rfl) st

/-- A fetched command that completes with Dword 0. -/
theorem FreshNumbers.readyDw0 (dw0 : Nat) :
    Ready (s.nvme.fetched + 1) nvOk (t.readyDw0 (s.nvme.fetched + 1) dw0) ∧
      (((t.readyDw0 (s.nvme.fetched + 1) dw0).cmd? (s.nvme.fetched + 1)).map fun k => k.dw0)
        = some (BitVec.ofNat 32 dw0) := by
  have hready := State.cmd?_onCmd (s.nvme.fetched + 1)
    (f := fun c : Cmd => { c with need := .nothing, status := nvOk }) (fun _ => rfl) t
  have hdw0 := State.cmd?_onCmd (s.nvme.fetched + 1) (f := fun c : Cmd => { c with dw0 := BitVec.ofNat 32 dw0 })
    (fun _ => rfl) (t.cmdReady (s.nvme.fetched + 1) nvOk)
  rw [State.cmdReady, hready, hf.fetched ht] at hdw0
  rw [Ready, State.readyDw0, State.cmdReady, hdw0]
  exact ⟨rfl, rfl⟩

end

/-- Data sent for a command that stands: the data, and the command complete. -/
theorem State.sendData_eq {n : Nat} {s : State} {k : Cmd} (hk : s.cmd? n = some k) (lid : Nat) (b : List Byte) :
    s.sendData n lid b = (s.onNvme fun v => { v with
      data := v.data ++ [{ ctrl := k.ctrl, cid := k.cid, opcode := k.opcode, lid := BitVec.ofNat 8 lid, bytes := b }]
      }).cmdReady n nvOk := by
  rw [State.sendData, hk]

/-- The features of a controller stay. -/
theorem State.fetch_feats {h : NvmeHdr} {admin : Bool} {s : State} (hf : s.fetchOk h admin = true) (opcode : Nat)
    (r : IoRange) (c : Fin 2) : ((s.fetch h admin opcode r).ctrl c).feats = (s.ctrl c).feats := by
  by_cases hc : c = h.ctrl
  · rw [hc, State.fetch_ctrl_same hf]
  · rw [State.fetch_ctrl_other h admin opcode r s hc]

theorem State.fetch_hostId {h : NvmeHdr} {admin : Bool} {s : State} (hf : s.fetchOk h admin = true) (opcode : Nat)
    (r : IoRange) (c : Fin 2) : (s.fetch h admin opcode r).hostId c = s.hostId c := by
  rw [State.hostId, State.fetch_feats hf, State.hostId]

theorem State.fetch_hostOf {h : NvmeHdr} {admin : Bool} {s : State} (hf : s.fetchOk h admin = true) (opcode : Nat)
    (r : IoRange) (c : Fin 2) : (s.fetch h admin opcode r).hostOf c = s.hostOf c := by
  rw [State.hostOf, State.fetch_hostId hf, State.fetch_hostId hf, State.hostOf]

/-- An attached namespace passes its check. -/
theorem State.nsCheck_attached {s : State} {x : Ns} {c : Fin 2} {n : Nat} (hx : s.ns? n = some x)
    (ha : x.attached.getLsbD c.val = true) : s.nsCheck c n = none := by
  simp only [State.nsCheck, hx, ha]
  rfl

theorem State.ns?_only {s : State} {x : Ns} (h : s.plc.nss = [x]) : s.ns? x.nsid = some x := by
  simp [State.ns?, h]

end Sys2Proof.Machine

/-! PROOFS. Reservations of namespaces (12 R371, NVMe 2.0). -/

namespace Sys2Proof.Machine

open Sys2Proof

set_option Elab.async false

/-- The reservation of a namespace once its first registrant has come. -/
def firstReservation (nsid : Nat) (host : Fin 2) (key : BitVec 64) : Reservation where
  nsid := nsid
  registrants := [{ host := host, key := key }]
  holder := none
  rtype := 0
  ptpl := false
  generation := 1

/-- The reservation of a namespace that alone has one. -/
theorem State.resv_only {s : State} {r : Reservation} (h : s.nvme.reservations = [r]) : s.resv r.nsid = r := by
  simp [State.resv, h]

/-- The one registrant's key. -/
theorem Reservation.keyOf_only {r : Reservation} {me : Fin 2} {k : BitVec 64}
    (h : r.registrants = [{ host := me, key := k }]) : r.keyOf me = some k := by
  simp [Reservation.keyOf, h]

/-- A reservation that is not kept through power loss ends its command at once. -/
theorem State.resvDone_volatile {s : State} {r : Reservation} (hr : r.ptpl = false)
    (hwas : (s.resv r.nsid).ptpl = false)
    (n : Nat) : s.resvDone n r = s.setResv r := by
  simp [State.resvDone, hr, hwas]

/-- A notice is for other registrants alone. -/
theorem State.resvNotice_self (ty nsid : Nat) (me : Fin 2) (s : State) : s.resvNotice ty nsid me [me] = s := by
  refine foldS_same id _ (fun c t => ?_) _ s
  by_cases hc : t.hostOf c = me <;> simp [hc]

section
variable {h : NvmeHdr} {x : Ns} {s : State} (hfetch : FetchesIo h s) (hns : s.plc.nss = [x])
  (hatt : x.attached.getLsbD h.ctrl.val = true)
include hfetch hns hatt

/-- A command on the namespace alone, as it is fetched: its namespace and host checks see what stood. -/
theorem resvFetch_sees (opcode : Nat) :
    (s.fetch h false opcode { nsid := x.nsid, lba := 0, nlb := 0 }).nsCheck h.ctrl x.nsid = none ∧
      (s.fetch h false opcode { nsid := x.nsid, lba := 0, nlb := 0 }).hostOf h.ctrl = s.hostOf h.ctrl :=
  ⟨State.nsCheck_attached (State.ns?_only (s := s.fetch h false opcode _) hns) hatt,
    State.fetch_hostOf hfetch.1 _ _ _⟩

/-- The first registrant of a namespace. -/
theorem register_first {k : BitVec 64} (hres : s.nvme.reservations = []) :
    exec (.reservationRegister h x.nsid 0 false 0 k 0) s
      = .next ((s.fetch h false 0x0D { nsid := x.nsid, lba := 0, nlb := 0 }).setResv
          (firstReservation x.nsid (s.hostOf h.ctrl) k)) := by
  obtain ⟨hnone, hhost⟩ := resvFetch_sees hfetch hns hatt 0x0D
  change execReservationRegister .. = _
  rw [execReservationRegister, State.io_fetches hfetch.1]
  generalize hu : s.fetch h false 0x0D { nsid := x.nsid, lba := 0, nlb := 0 } = u at hnone hhost ⊢
  have hresv : u.resv x.nsid =
      { nsid := x.nsid, registrants := [], holder := none, rtype := 0, ptpl := false, generation := 0 } := by
    rw [State.resv, ← hu, show (s.fetch h false 0x0D _).nvme.reservations = [] from hres]
    rfl
  rw [State.checked_passed (by simp [hnone, hresv, Reservation.keyOf])]
  simp only [hresv, hhost]
  rw [if_neg (by decide)]
  exact congrArg _ ((State.resvDone_volatile rfl (by rw [hresv]) _).trans rfl)

/-- A report sends its data and completes. -/
theorem report_sends : ∃ d, exec (.reservationReport h x.nsid) s
    = .next (((s.fetch h false 0x0E { nsid := x.nsid, lba := 0, nlb := 0 }).onNvme fun v => { v with
        data := v.data ++ [d] }).cmdReady (s.nvme.fetched + 1) nvOk) := by
  have hnone := (resvFetch_sees hfetch hns hatt 0x0E).1
  have hcmd := State.fetch_cmd? h false 0x0E { nsid := x.nsid, lba := 0, nlb := 0 } s hfetch.2
  change ∃ d, execReservationReport .. = _
  rw [execReservationReport, State.io_fetches hfetch.1, State.checked_passed (by simp [hnone])]
  exact ⟨_, congrArg _ (State.sendData_eq hcmd _ _)⟩

/-- A report completes with one more data structure for the host, and changes nothing else. -/
theorem report_completes : Completes (.reservationReport h x.nsid) s fun t => Ready (s.nvme.fetched + 1) nvOk t ∧
    t.nvme.data.length = s.nvme.data.length + 1 ∧ t.nvme.reservations = s.nvme.reservations ∧ t.plc = s.plc ∧
    t.acts = s.acts ∧ t.fab = s.fab := by
  obtain ⟨d, hsent⟩ := report_sends hfetch hns hatt
  refine ⟨_, hsent, hfetch.2.refused rfl _, ?_⟩
  generalize hu : (s.fetch h false 0x0E { nsid := x.nsid, lba := 0, nlb := 0 }) = u
  have hframe : Only [.nvme] s u := by rw [← hu, State.fetch_only _ _ _ _ _ (by simp)]; exact .refl _ _
  have hnvme : (u.nvme.data, u.nvme.reservations) = (s.nvme.data, s.nvme.reservations) := by rw [← hu]; rfl
  obtain ⟨hdata, hres⟩ := Prod.mk.inj hnvme
  have hlen : (u.nvme.data ++ [d]).length = s.nvme.data.length + 1 := by rw [hdata]; simp
  exact ⟨hlen, hres, hframe.plc (by simp), hframe.allActs (by simp), hframe.fab (by simp)⟩

variable {r : Reservation} (hres : s.nvme.reservations = [r]) (hnsid : r.nsid = x.nsid) {k : BitVec 64}
  (hreg : r.registrants = [{ host := s.hostOf h.ctrl, key := k }])
include hres hnsid hreg

/-- The reservation that stands is seen by the command fetched. -/
theorem resvFetch_resv (opcode : Nat) :
    (s.fetch h false opcode { nsid := x.nsid, lba := 0, nlb := 0 }).resv x.nsid = r := by
  rw [← hnsid]
  exact State.resv_only (s := s.fetch h false opcode _) hres

/-- A registrant takes a free namespace. -/
theorem acquire_free {ty : Nat} (hfree : r.holder = none) (hvol : r.ptpl = false) (hty : 1 ≤ ty ∧ ty ≤ 6) :
    exec (.reservationAcquire h x.nsid 0 ty false k 0) s
      = .next ((s.fetch h false 0x11 { nsid := x.nsid, lba := 0, nlb := 0 }).setResv
          { r with holder := some (s.hostOf h.ctrl), rtype := ty }) := by
  obtain ⟨hnone, hhost⟩ := resvFetch_sees hfetch hns hatt 0x11
  have hresv := resvFetch_resv hfetch hns hatt hres hnsid hreg 0x11
  change execReservationAcquire .. = _
  rw [execReservationAcquire, State.io_fetches hfetch.1]
  generalize s.fetch h false 0x11 { nsid := x.nsid, lba := 0, nlb := 0 } = u at hnone hhost hresv ⊢
  have hrange : (decide (ty = 0) || decide (6 < ty)) = false := by simp; omega
  rw [State.checked_passed (by
    simp only [hnone, hresv, hhost, Reservation.keyOf_only hreg, hfree]
    simp [hrange])]
  have hdone := State.resvDone_volatile (s := u) (r := { r with holder := some (s.hostOf h.ctrl), rtype := ty }) hvol
    (by rw [hnsid, hresv, hvol]) (s.nvme.fetched + 1)
  simp only [hresv, hhost, hfree]
  rw [if_pos trivial, if_neg (by decide), ← hdone]

/-- A key that is not the registered one. -/
theorem acquire_otherKey {ty act : Nat} {j : BitVec 64} (hj : j ≠ k) (hty : 1 ≤ ty ∧ ty ≤ 6) (hact : act ≤ 2) :
    exec (.reservationAcquire h x.nsid act ty false j 0) s
      = .next ((s.fetch h false 0x11 { nsid := x.nsid, lba := 0, nlb := 0 }).cmdReady (s.nvme.fetched + 1)
          (nvDnr .reservationConflict)) := by
  obtain ⟨hnone, hhost⟩ := resvFetch_sees hfetch hns hatt 0x11
  have hresv := resvFetch_resv hfetch hns hatt hres hnsid hreg 0x11
  change execReservationAcquire .. = _
  rw [execReservationAcquire, State.io_fetches hfetch.1]
  generalize s.fetch h false 0x11 { nsid := x.nsid, lba := 0, nlb := 0 } = u at hnone hhost hresv ⊢
  have hrange : (false || decide (2 < act) || decide (ty = 0) || decide (6 < ty)) = false := by simp; omega
  have hkey : (some k ≠ some j) := by simpa using hj.symm
  rw [State.checked_refused (st := nvDnr .reservationConflict) (by
    simp only [hnone, hresv, hhost, Reservation.keyOf_only hreg, hrange, failIf_false, List.findSome?_cons, id,
      decide_eq_true hkey, failIf_true])]

/-- The holder gives the namespace free. -/
theorem release_held (hheld : r.holder = some (s.hostOf h.ctrl)) (hvol : r.ptpl = false) :
    exec (.reservationRelease h x.nsid 0 r.rtype false k) s
      = .next ((s.fetch h false 0x15 { nsid := x.nsid, lba := 0, nlb := 0 }).setResv
          { r with holder := none, rtype := 0 }) := by
  obtain ⟨hnone, hhost⟩ := resvFetch_sees hfetch hns hatt 0x15
  have hresv := resvFetch_resv hfetch hns hatt hres hnsid hreg 0x15
  have hholds : r.holds (s.hostOf h.ctrl) = true := by simp [Reservation.holds, hheld]
  change execReservationRelease .. = _
  rw [execReservationRelease, State.io_fetches hfetch.1]
  generalize s.fetch h false 0x15 { nsid := x.nsid, lba := 0, nlb := 0 } = u at hnone hhost hresv ⊢
  have hdone := State.resvDone_volatile (s := u) (r := { r with holder := none, rtype := 0 }) hvol
    (by rw [hnsid, hresv, hvol]) (s.nvme.fetched + 1)
  rw [State.checked_passed (by
    simp only [hnone, hresv, hhost, Reservation.keyOf_only hreg, hholds]
    simp)]
  have hosts : hostsOf r.registrants = [s.hostOf h.ctrl] := by rw [hreg]; rfl
  simp only [hresv, hhost, hholds, hdone, hosts, State.resvNotice_self, ite_self]
  rfl

end

/-- The reservation set is the only one where its namespace alone had one. -/
theorem State.setResv_only {s : State} {r q : Reservation} (h : s.nvme.reservations = [r]) (hq : q.nsid = r.nsid) :
    (s.setResv q).nvme.reservations = [q] := by
  show (s.nvme.reservations.filter fun y => y.nsid != q.nsid) ++ [q] = [q]
  rw [h]
  simp [hq]

theorem State.setResv_first {s : State} (h : s.nvme.reservations = []) (q : Reservation) :
    (s.setResv q).nvme.reservations = [q] := by
  show (s.nvme.reservations.filter fun y => y.nsid != q.nsid) ++ [q] = [q]
  rw [h]
  rfl

/-- Settles O41: each command is judged by the reservation that stands and sets the next one. -/
theorem reservationsOfNamespaces : Obligations.ReservationsOfNamespaces := by
  unfold Obligations.ReservationsOfNamespaces
  refine ⟨?_, ?_, ?_, ?_, ?_⟩
  · rintro h x k s ⟨hfetch, hns, hatt, hres⟩
    have hset := State.resv_only (State.setResv_first (s :=
      s.fetch h false 0x0D { nsid := x.nsid, lba := 0, nlb := 0 })
      hres (firstReservation x.nsid (s.hostOf h.ctrl) k))
    exact ⟨_, register_first hfetch hns hatt hres, hfetch.2.ready rfl, congrArg Reservation.registrants hset,
      congrArg Reservation.holder hset, rfl, rfl, rfl⟩
  · rintro h x r ty k s ⟨hfetch, hns, hatt, hres, hnsid, hreg, hfree, hvol, hty⟩
    exact ⟨_, acquire_free hfetch hns hatt hres hnsid hreg hfree hvol hty, hfetch.2.ready rfl,
      State.setResv_only (s := s.fetch h false 0x11 _) hres rfl, rfl, rfl, rfl⟩
  · rintro h x r ty act k j s ⟨hfetch, hns, hatt, hres, hnsid, hreg, hj, hty, hty', hact⟩
    exact ⟨_, acquire_otherKey hfetch hns hatt hres hnsid hreg hj ⟨hty, hty'⟩ hact, hfetch.2.refused rfl _, hres, rfl⟩
  · rintro h x r k s ⟨hfetch, hns, hatt, hres, hnsid, hreg, hheld, hvol⟩
    exact ⟨_, release_held hfetch hns hatt hres hnsid hreg hheld hvol, hfetch.2.ready rfl,
      State.setResv_only (s := s.fetch h false 0x15 _) hres rfl, rfl, rfl⟩
  · rintro h x s ⟨hfetch, hns, hatt⟩
    exact report_completes hfetch hns hatt

end Sys2Proof.Machine

/-! PROOFS. Refresh, retraining and the scrubber of the buffer memory (13 R402, R403, R409 to R411). -/

namespace Sys2Proof.Machine

open Sys2Proof

set_option Elab.async false

/-! Channels. -/

@[simp] theorem State.chan_onChan_same (c : Fin 4) (f : Chan → Chan) (s : State) :
  (s.onChan c f).chan c = f (s.chan c) :=
  Four.get_set_same _ _ _

theorem State.chan_onChan_other {c d : Fin 4} (h : d ≠ c) (f : Chan → Chan) (s : State) :
    (s.onChan c f).chan d = s.chan d :=
  Four.get_set_ne _ _ h

theorem State.errs_onChan (c : Fin 4) (f : Chan → Chan) (s : State) : (s.onChan c f).dramc.errs = s.dramc.errs := rfl

/-- A channel changed to what it is. -/
theorem State.onChan_self {c : Fin 4} {f : Chan → Chan} {s : State} (h : f (s.chan c) = s.chan c) :
    s.onChan c f = s := by
  have hset : s.dramc.ch.set c (f (s.dramc.ch.get c)) = s.dramc.ch := by
    rw [show f (s.dramc.ch.get c) = s.dramc.ch.get c from h, Four.set_get]
  rw [State.onChan, State.onDramc, hset]

/-- Two changes of a channel that agree on what it is. -/
theorem State.onChan_congr {c : Fin 4} {f g : Chan → Chan} {s : State} (h : f (s.chan c) = g (s.chan c)) :
    s.onChan c f = s.onChan c g := by
  have hset : f (s.dramc.ch.get c) = g (s.dramc.ch.get c) := h
  rw [State.onChan, State.onChan, State.onDramc, State.onDramc, hset]

theorem State.onChan_onChan (c : Fin 4) (f g : Chan → Chan) (s : State) :
    (s.onChan c f).onChan c g = s.onChan c fun x => g (f x) := by
  have hget : (s.onChan c f).dramc.ch.get c = f (s.dramc.ch.get c) := Four.get_set_same _ _ _
  rw [State.onChan, State.onDramc, hget]
  simp [State.onChan, State.onDramc]

/-! Rows and check lines of a channel that buffers none. -/

theorem State.closeRow_empty {c : Fin 4} {s : State} (h : (s.chan c).lines = []) (x : Nat) : s.closeRow c x = s := by
  have hmine : (s.chan c).lines.filter (fun l => l.slot == x && l.dirty) = [] := by rw [h]; rfl
  rw [State.closeRow, hmine]
  refine State.onChan_self (s := s) ?_
  rw [h, List.map_nil, ← h]

theorem State.openRow_empty {g : Nat} {s : State} (h : (s.chan (granChan g)).lines = []) :
    s.openRow g = s.onChan (granChan g) fun z => { z with
      opened := Tab.set z.opened (s.bankKey (rowSlot g)) (rowSlot g) } := by
  rw [State.openRow]
  split
  · split
    · rfl
    · rw [State.closeRow_empty h]
  · rfl

/-- A check line that holds all four granules of its place, without an error. -/
def goodLine (g : Nat) : CheckLine where
  slot := (lineOf g).1
  m := (lineOf g).2
  held := 0xF
  bad := []
  dirty := false

theorem State.errsOf_none {s : State} (h : s.dramc.errs = []) (g : Nat) : s.errsOf g = [] := by
  rw [State.errsOf, h]
  rfl

theorem State.lineFill_clean {s : State} (h : s.dramc.errs = []) (g : Nat) :
    s.lineFill { slot := (lineOf g).1, m := (lineOf g).2, held := 0, bad := [], dirty := false } = goodLine g := by
  simp only [State.lineFill, State.errsOf_none h]
  rfl

/-- A read in a channel without errors or lines opens its row and buffers a good line. -/
theorem State.lineRead_clean {g : Nat} {s : State} (he : s.dramc.errs = []) (hl : (s.chan (granChan g)).lines = []) :
    s.lineRead g = s.onChan (granChan g) fun z => { z with
      opened := Tab.set z.opened (s.bankKey (rowSlot g)) (rowSlot g), lines := [goodLine g] } := by
  have hlines : ((s.openRow g).chan (granChan g)).lines = [] := by
    rw [State.openRow_empty hl, State.chan_onChan_same, hl]
  have herrs : (s.openRow g).dramc.errs = [] := by rw [State.openRow_empty hl]; exact he
  have hcheck : (s.openRow g).checkLine g = none := by rw [State.checkLine, hlines]; rfl
  have hroom : (s.openRow g).lineRoom (granChan g) = s.openRow g := by rw [State.lineRoom, hlines]
  rw [State.lineRead]
  dsimp only
  rw [hcheck, hroom]
  dsimp only
  rw [State.lineFill_clean herrs, State.lineIn, State.openRow_empty hl, State.onChan_onChan]
  refine State.onChan_congr ?_
  simp [hl]

/-- A granule without errors, its line not buffered. -/
theorem State.decodeGran_clean {g : Nat} {s : State} (he : s.dramc.errs = [])
    (hl : (s.chan (granChan g)).lines = []) :
    s.decodeGran g [] = .clean := by
  have hcheck : s.checkLine g = none := by rw [State.checkLine, hl]; rfl
  rw [State.decodeGran, State.errsSeen, hcheck]
  simp [State.errsOf_none he]

theorem lineBit_lt (g : Nat) : lineBit g < 4 := Nat.mod_lt _ (by decide)

/-- A granule without errors, its good line buffered. -/
theorem State.decodeGran_good {g : Nat} {s : State} (he : s.dramc.errs = [])
    (hl : (s.chan (granChan g)).lines = [goodLine g]) : s.decodeGran g [] = .clean := by
  have hcheck : s.checkLine g = some (goodLine g) := by
    rw [State.checkLine, hl]
    simp [goodLine]
  have hheld : (goodLine g).held.getLsbD (lineBit g) = true := by
    show (0xF : BitVec 4).getLsbD (lineBit g) = true
    have hbits : ∀ j : Fin 4, (0xF : BitVec 4).getLsbD j = true := by decide
    exact hbits ⟨lineBit g, lineBit_lt g⟩
  rw [State.decodeGran, State.errsSeen, hcheck]
  simp only [hheld, State.errsOf_none he]
  rfl

/-- What a granule read without errors leaves. -/
theorem State.readGran_clean {g : Nat} {s : State} (he : s.dramc.errs = []) (hl : (s.chan (granChan g)).lines = [])
    (src : Endpoint) (fix : Bool) (page : Option Nat) : s.readGran g src fix [] page = (true, s.lineRead g) := by
  have hread := State.lineRead_clean he hl
  have hgood : (s.lineRead g).decodeGran g [] = .clean := by
    refine State.decodeGran_good (by rw [hread]; exact he) ?_
    rw [hread, State.chan_onChan_same]
  rw [State.readGran]
  dsimp only
  rw [hgood]

/-! Refreshes. -/

/-- An entry that is not there cannot leave. -/
theorem Tab.del_absent {α : Type} {t : Tab α} {k : Nat} (h : Tab.get? t k = none) : Tab.del t k = t := by
  induction t with
  | nil => rfl
  | cons e r ih =>
    obtain ⟨j, w⟩ := e
    by_cases hj : j = k
    · simp [Tab.get?, hj] at h
    · simp only [Tab.get?, if_neg hj] at h
      simp [Tab.del, hj, ih h]

/-- The row open under a key closes. -/
def State.closeKey (c : Fin 4) (k : Nat) (s : State) : State :=
  match Tab.get? (s.chan c).opened k with
  | none => s
  | some x => (s.closeRow c x).onChan c fun y => { y with opened := Tab.del y.opened k }

theorem State.closeBank_eq (c : Fin 4) (bank : Nat) (s : State) :
    s.closeBank c bank = (s.closeKey c bank).closeKey c (16 + bank) := rfl

theorem State.closeKey_empty {c : Fin 4} {s : State} (h : (s.chan c).lines = []) (k : Nat) :
    s.closeKey c k = s.onChan c fun y => { y with opened := Tab.del y.opened k } := by
  rw [State.closeKey]
  split
  next hk => exact (State.onChan_self (by rw [Tab.del_absent hk])).symm
  next x hk => rw [State.closeRow_empty h]

/-- A bank whose channel buffers no line closes its rows. -/
theorem State.closeBank_empty {c : Fin 4} {s : State} (h : (s.chan c).lines = []) (bank : Nat) :
    s.closeBank c bank = s.onChan c fun y => { y with opened := Tab.del (Tab.del y.opened bank) (16 + bank) } := by
  rw [State.closeBank_eq, State.closeKey_empty h,
    State.closeKey_empty (by rw [State.chan_onChan_same]; exact h), State.onChan_onChan]

/-- A refresh of a bank postponed once more, at most 8 times. -/
def postponedOnce (bank : Nat) (x : Chan) : Chan :=
  { x with postponed := Tab.put x.postponed bank (min 8 (Tab.getD x.postponed bank 0 + 1)) 0 }

/-- A postponed refresh is counted, to 8. -/
theorem refresh_postponed {c : Fin 4} {b : Fin 16} {s : State} (h : Tab.rising (s.chan c).postponed = true) :
    Completes (.refreshDue c b true) s fun t =>
      Tab.getD (t.chan c).postponed b.val 0 = min 8 (Tab.getD (s.chan c).postponed b.val 0 + 1) ∧
      (∀ d, d ≠ c → t.chan d = s.chan d) ∧ t.fab = s.fab ∧ t.acts = s.acts ∧ t.dict = s.dict := by
  refine ⟨s.onChan c (postponedOnce b.val), rfl, ?_, fun d hd => State.chan_onChan_other hd _ _, rfl, rfl, rfl⟩
  rw [State.chan_onChan_same, postponedOnce, Tab.getD_put h, if_pos rfl]

/-- A bank refreshed in a channel that buffers no line: its rows are closed and nothing is postponed. -/
def refreshed (bank : Nat) (x : Chan) : Chan :=
  { x with opened := Tab.del (Tab.del x.opened bank) (16 + bank), postponed := Tab.put x.postponed bank 0 0 }

theorem State.refresh_eq {c : Fin 4} {s : State} (hl : (s.chan c).lines = []) (bank : Nat) :
    ((s.closeBank c bank).onChan c fun x => { x with postponed := Tab.put x.postponed bank 0 0 })
      = s.onChan c (refreshed bank) := by
  rw [State.closeBank_empty hl, State.onChan_onChan]
  rfl

/-- Nothing is postponed after a refresh. -/
theorem refreshed_postponed {x : Chan} (h : Tab.rising x.postponed = true) (bank : Nat) :
    Tab.getD (refreshed bank x).postponed bank 0 = 0 := by
  rw [refreshed, Tab.getD_put h, if_pos rfl]

/-- No row of the bank is open after a refresh. -/
theorem refreshed_opened {x : Chan} (h : Tab.rising x.opened = true) (bank : Nat) :
    Tab.get? (refreshed bank x).opened bank = none := by
  rw [refreshed, Tab.get?_del (Tab.rising_del h _), Tab.get?_del h]
  simp

theorem refresh_taken {c : Fin 4} {b : Fin 16} {s : State} (h : Tab.rising (s.chan c).postponed = true)
    (ho : Tab.rising (s.chan c).opened = true) (hl : (s.chan c).lines = []) :
    Completes (.refreshDue c b false) s fun t => Tab.getD (t.chan c).postponed b.val 0 = 0 ∧
      Tab.get? (t.chan c).opened b.val = none ∧ (∀ d, d ≠ c → t.chan d = s.chan d) ∧ t.fab = s.fab ∧
      t.acts = s.acts ∧ t.dict = s.dict := by
  refine ⟨s.onChan c (refreshed b.val), ?_, ?_, ?_, fun d hd => State.chan_onChan_other hd _ _, rfl, rfl, rfl⟩
  · change execRefreshDue .. = _
    rw [execRefreshDue, if_neg Bool.false_ne_true, State.refresh_eq hl]
  · rw [State.chan_onChan_same, refreshed_postponed h]
  · rw [State.chan_onChan_same, refreshed_opened ho]

theorem refresh_forced {c : Fin 4} {b : Fin 16} {s : State} (h8 : Tab.getD (s.chan c).postponed b.val 0 = 8)
    (h : Tab.rising (s.chan c).postponed = true) (hl : (s.chan c).lines = []) :
    Completes (.refreshForced c b) s fun t => Tab.getD (t.chan c).postponed b.val 0 = 0 ∧
      SentOnly [faultMsg epMemory 23 c.val (s.localTime epMemory)] s t ∧ (∀ d, d ≠ c → t.chan d = s.chan d) ∧
      t.acts = s.acts ∧ t.dict = s.dict ∧ MemorySame s t := by
  refine ⟨(s.onChan c (refreshed b.val)).fault epMemory 23 c.val, ?_, ?_, rfl,
    fun d hd => State.chan_onChan_other (s := s) hd _, rfl, rfl, fun a => rfl⟩
  · change execRefreshForced .. = _
    rw [execRefreshForced, if_pos (by omega), State.refresh_eq hl]
  · show Tab.getD ((s.onChan c (refreshed b.val)).chan c).postponed b.val 0 = 0
    rw [State.chan_onChan_same, refreshed_postponed h]

/-! MR4 and retraining. -/

/-- A channel that has reported its code of MR4. -/
def coded (code : BitVec 3) (hot : Bool) (x : Chan) : Chan := { x with mr4 := code, hot := hot }

theorem mr4_hot {c : Fin 4} {code : BitVec 3} {s : State} (hwas : (s.chan c).hot = false)
    (hhot : mr4Nominal < code.toNat) :
    Completes (.mr4Change c code) s fun t => (t.chan c).mr4 = code ∧ (t.chan c).hot = true ∧
      SentOnly [eventMsg epMemory 70 (c.val + code.toNat * 256),
        faultMsg epMemory 26 c.val (s.localTime epMemory)] s t ∧
      (∀ d, d ≠ c → t.chan d = s.chan d) ∧ t.acts = s.acts ∧ t.dict = s.dict ∧ MemorySame s t := by
  have hchan := State.chan_onChan_same c (coded code true) s
  refine ⟨((s.onChan c (coded code true)).event epMemory 70 (c.val + code.toNat * 256)).fault epMemory 26 c.val, ?_,
    congrArg Chan.mr4 hchan, congrArg Chan.hot hchan, List.append_assoc _ _ _,
    fun d hd => State.chan_onChan_other (s := s) hd _, rfl, rfl, fun a => rfl⟩
  change execMr4Change .. = _
  rw [execMr4Change]
  simp only [hwas, decide_eq_true hhot]
  rfl

theorem mr4_nominal {c : Fin 4} {code : BitVec 3} {s : State} (hwas : (s.chan c).hot = false)
    (hcool : code.toNat ≤ mr4Nominal) :
    Completes (.mr4Change c code) s fun t => t = s.onChan c (fun x => { x with mr4 := code }) := by
  refine ⟨_, ?_, rfl⟩
  change execMr4Change .. = _
  rw [execMr4Change]
  simp only [hwas, decide_eq_false (Nat.not_lt.2 hcool)]
  exact congrArg _ (State.onChan_congr (f := coded code false) (by rw [coded, ← hwas]))

/-- A channel whose retraining has ended, with the code it was trained for. -/
def retrained (code : BitVec 3) (x : Chan) : Chan :=
  { x with retraining := false, retrainFails := 0, mr4Trained := code }

/-- A check that finds cause starts a retraining. -/
theorem retrain_starts {c : Fin 4} {ps : Nat} {s : State} (htrained : s.sys.dram = .trained)
    (hself : (s.chan c).selfRefresh = false) (hnever : (s.chan c).checkAt = none)
    (hcause : s.p5010RetrainDrift < ps ∨ (s.chan c).mr4 = 5 ∧ (s.chan c).mr4Trained = 3) :
    Completes (.retrainCheck c ps) s fun t =>
      t = s.onChan c (fun x => { x with retraining := true, checkAt := some s.now }) := by
  refine ⟨_, ?_, rfl⟩
  change execRetrainCheck .. = _
  rw [execRetrainCheck]
  rw [if_neg (by simp [htrained, hself, hnever])]
  refine congrArg _ (State.onChan_congr ?_)
  rcases hcause with hdrift | ⟨hm, ht⟩
  · simp [hdrift]
  · simp [hm, ht]

theorem retrain_early {c : Fin 4} {ps : Nat} {at' : BitVec 64} {s : State} (hat : (s.chan c).checkAt = some at')
    (hearly : s.since at' < s.p5010RetrainCheck * msTicks) : Completes (.retrainCheck c ps) s fun t => t = s := by
  refine ⟨s, ?_, rfl⟩
  change execRetrainCheck .. = _
  have hearly' : (s.chan c).checkAt.any (fun t => decide (s.since t < s.p5010RetrainCheck * msTicks)) = true := by
    rw [hat, Option.any_some]
    exact decide_eq_true hearly
  rw [execRetrainCheck, hearly', Bool.or_true, if_pos rfl]

/-- No request waits, so none is taken. -/
theorem State.memRetry_idle {s : State} (h : s.dramc.waiting = []) : s.memRetry = s := by
  have hset : s.onDramc (fun d => { d with waiting := [] }) = s := by
    rw [State.onDramc, ← h]
  rw [State.memRetry, hset, h]
  rfl

theorem retrain_done {c : Fin 4} {s : State} (hret : (s.chan c).retraining = true) (hw : s.dramc.waiting = []) :
    Completes (.retrainComplete c true) s fun t => (t.chan c).retraining = false ∧ (t.chan c).retrainFails = 0 ∧
      (t.chan c).mr4Trained = (s.chan c).mr4 ∧ (t.chan c).queue = (s.chan c).queue ∧
      t.odNat 0x501003 0 = s.odNat 0x501003 0 + 1 ∧ SentOnly [eventMsg epMemory 69 c.val] s t ∧
      (∀ d, d ≠ c → t.chan d = s.chan d) ∧ t.acts = s.acts ∧ MemorySame s t := by
  have hchan := State.chan_onChan_same c (fun x => retrained x.mr4 x) s
  refine ⟨((s.onChan c fun x => retrained x.mr4 x).count 0x501003 1).event epMemory 69 c.val, ?_,
    congrArg Chan.retraining hchan, congrArg Chan.retrainFails hchan,
    (congrArg Chan.mr4Trained hchan).trans rfl, (congrArg Chan.queue hchan).trans rfl, State.odNat_count _ _ _, rfl,
    fun d hd => State.chan_onChan_other (s := s) hd _, rfl, fun a => rfl⟩
  change execRetrainComplete .. = _
  rw [execRetrainComplete, if_neg (by simp [hret]), if_pos rfl, State.memRetry_idle]
  · rfl
  · exact hw

theorem retrain_fails {c : Fin 4} {s : State} (hret : (s.chan c).retraining = true)
    (hf : (s.chan c).retrainFails < 2) :
    Completes (.retrainComplete c false) s fun t =>
      t = s.onChan c (fun x => { x with retrainFails := x.retrainFails + 1 }) := by
  refine ⟨_, ?_, rfl⟩
  change execRetrainComplete .. = _
  rw [execRetrainComplete, if_neg (by simp [hret]), if_neg Bool.false_ne_true, if_pos hf]

theorem retrain_gives_up {c : Fin 4} {s : State} (hret : (s.chan c).retraining = true)
    (hf : (s.chan c).retrainFails = 2) (hw : s.dramc.waiting = []) :
    Completes (.retrainComplete c false) s fun t => (t.chan c).retraining = false ∧ (t.chan c).retrainFails = 0 ∧
      (t.chan c).mr4Trained = (s.chan c).mr4Trained ∧
      SentOnly [faultMsg epMemory 22 c.val (s.localTime epMemory)] s t ∧ (∀ d, d ≠ c → t.chan d = s.chan d) ∧
      t.acts = s.acts ∧ t.dict = s.dict ∧ MemorySame s t := by
  have hchan := State.chan_onChan_same c (fun x => retrained x.mr4Trained x) s
  refine ⟨(s.onChan c fun x => retrained x.mr4Trained x).fault epMemory 22 c.val, ?_,
    congrArg Chan.retraining hchan, congrArg Chan.retrainFails hchan, (congrArg Chan.mr4Trained hchan).trans rfl, rfl,
    fun d hd => State.chan_onChan_other (s := s) hd _, rfl, rfl, fun a => rfl⟩
  change execRetrainComplete .. = _
  rw [execRetrainComplete, if_neg (by simp [hret]), if_neg Bool.false_ne_true, if_neg (by omega),
    State.memRetry_idle]
  · rfl
  · exact hw

/-! The scrubber. -/

theorem State.onChan_only {l : List Part} (hd : .dramc ∈ l) (c : Fin 4) (f : Chan → Chan) (z s : State) :
    Only l z (s.onChan c f) ↔ Only l z s :=
  State.onDramc_only hd _ z s

/-- Every channel's slot for the scrubber counts from now. -/
def State.slotsStart (now : BitVec 64) (s : State) : State :=
  foldS (fun c t => t.onChan c fun y => { y with scrubAt := now }) allActs s

theorem State.slotsStart_only (now : BitVec 64) (s : State) : Only [.dramc] s (s.slotsStart now) :=
  (Only.foldS fun _ _ => (State.onChan_only (by simp) _ _ _ _).2 (.refl _ _)).2 (.refl _ _)

theorem State.slotsStart_errs (now : BitVec 64) (s : State) : (s.slotsStart now).dramc.errs = s.dramc.errs :=
  foldS_same (fun t : State => t.dramc.errs) (fun c t => t.onChan c fun y => { y with scrubAt := now })
    (fun _ _ => rfl) _ _

/-- The scrubber as it begins a range. -/
def scrubBegun (now : BitVec 64) (x : Scr) : Scr :=
  { x with
    state := .running, abort := false, next := x.start.toNat, startedAt := now, read := 0, corr := 0
    uncorr := 0, sigErr := 0, first := 0, last := 0, dur := 0, sumRead := 0, sumCorr := 0, sumUncorr := 0
    sumSig := 0 }

/-- A scrub of the range that SCR_START and SCR_END give begins. -/
def State.scrubStarted (s : State) : State :=
  ((s.onScr (scrubBegun s.now)).slotsStart s.now).event epBuffer 64
    ((s.scr.stop.toNat + 1 - s.scr.start.toNat) / 2 ^ 20)

theorem State.scrubStarted_only (s : State) : Only [.scr, .dramc, .msgs] s s.scrubStarted :=
  ((State.onScr_only (by simp) (scrubBegun s.now) s s).2 (.refl _ s)).trans
    (((State.slotsStart_only _ _).mono (by simp)).trans ((State.event_only _ _ _ _ (by simp) _).2 (.refl _ _)))

theorem State.scrubStarted_scr (s : State) : s.scrubStarted.scr = scrubBegun s.now s.scr :=
  (State.slotsStart_only s.now (s.onScr (scrubBegun s.now))).scr (by simp)

theorem State.scrubStarted_errs (s : State) : s.scrubStarted.dramc.errs = s.dramc.errs :=
  State.slotsStart_errs s.now (s.onScr (scrubBegun s.now))

theorem State.scrubStarted_sends (s : State) :
    SentOnly [eventMsg epBuffer 64 ((s.scr.stop.toNat + 1 - s.scr.start.toNat) / 2 ^ 20)] s s.scrubStarted := by
  have hquiet := (State.slotsStart_only s.now (s.onScr (scrubBegun s.now))).msgs (by simp)
  rw [SentOnly, State.scrubStarted, State.event_eq, hquiet]
  rfl

theorem State.scrubStart_starts {s : State} (hrest : s.scr.state ≠ .running)
    (horder : s.scr.start.toNat ≤ s.scr.stop.toNat)
    (hin : s.inDram s.scr.start.toNat (s.scr.stop.toNat + 1 - s.scr.start.toNat) = true) :
    s.scrubStart = s.scrubStarted := by
  rw [State.scrubStart]
  rw [if_neg (by simp [hrest, hin]; omega)]
  rfl

theorem State.scrubStart_refuses {s : State} (h : s.scr.state = .running ∨ s.scr.stop.toNat < s.scr.start.toNat) :
    s.scrubStart = s.onScr fun x => { x with flags := setBit x.flags 2 true } := by
  rw [State.scrubStart]
  rw [if_pos (by rcases h with h | h <;> simp [h])]

/-- The scrubber as SCR_CTL sets it. -/
def scrubSet (v : BitVec 32) (x : Scr) : Scr :=
  { x with fix := v.getLsbD 17, sig := v.getLsbD 16, rate := v.setWidth 16 }

theorem exec_scrubGo (v : BitVec 32) {s : State} (hon : s.domOn 16 = true) :
    exec (.scrubGo v) s = .next (s.onScr (scrubSet v)).scrubStart := by
  change execScrubGo .. = _
  rw [execScrubGo, if_neg (by simp [hon])]
  rfl

theorem scrub_starts {v : BitVec 32} {s : State} (hon : s.domOn 16 = true) (hrest : s.scr.state ≠ .running)
    (horder : s.scr.start.toNat ≤ s.scr.stop.toNat)
    (hin : s.inDram s.scr.start.toNat (s.scr.stop.toNat + 1 - s.scr.start.toNat) = true) :
    Completes (.scrubGo v) s fun t => t.scr.state = .running ∧ t.scr.next = s.scr.start.toNat ∧
      t.scr.fix = v.getLsbD 17 ∧ t.scr.sig = v.getLsbD 16 ∧ t.scr.rate = v.setWidth 16 ∧ t.scr.sumRead = 0 ∧
      t.scr.flags = s.scr.flags ∧
      SentOnly [eventMsg epBuffer 64 ((s.scr.stop.toNat + 1 - s.scr.start.toNat) / 2 ^ 20)] s t ∧
      t.dramc.errs = s.dramc.errs ∧ t.acts = s.acts ∧ t.dict = s.dict ∧ MemorySame s t := by
  have hstart := State.scrubStart_starts (s := s.onScr (scrubSet v)) hrest horder hin
  refine ⟨_, (exec_scrubGo v hon).trans (congrArg _ hstart), ?_⟩
  have hframe := (State.onScr_only (by simp) (scrubSet v) s s).2 (.refl [.scr, .dramc, .msgs] s)
  have hall := hframe.trans (State.scrubStarted_only _)
  have hscr := State.scrubStarted_scr (s.onScr (scrubSet v))
  exact ⟨congrArg Scr.state hscr, congrArg Scr.next hscr, congrArg Scr.fix hscr, congrArg Scr.sig hscr,
    congrArg Scr.rate hscr, congrArg Scr.sumRead hscr, (congrArg Scr.flags hscr).trans rfl,
      State.scrubStarted_sends _,
    State.scrubStarted_errs _, hall.allActs (by simp), hall.dict (by simp), hall.memorySame (by simp)⟩

theorem scrub_refused {v : BitVec 32} {s : State} (hon : s.domOn 16 = true)
    (h : s.scr.state = .running ∨ s.scr.stop.toNat < s.scr.start.toNat) :
    Completes (.scrubGo v) s fun t => t.scr.state = s.scr.state ∧ t.scr.next = s.scr.next ∧
      t.scr.flags = setBit s.scr.flags 2 true ∧ t.dramc = s.dramc ∧ t.fab = s.fab ∧ t.acts = s.acts ∧
      t.dict = s.dict := by
  have hrefuse := State.scrubStart_refuses (s := s.onScr (scrubSet v)) h
  exact ⟨_, (exec_scrubGo v hon).trans (congrArg _ hrefuse), rfl, rfl, rfl, rfl, rfl, rfl, rfl⟩

theorem scrub_aborted {s : State} (hrun : s.scr.state = .running) :
    Completes .scrubAbort s fun t => t = s.onScr (fun x => { x with abort := true }) := by
  refine ⟨_, ?_, rfl⟩
  change execScrubAbort .. = _
  rw [execScrubAbort, if_pos hrun]

/-- A scrub outside a pass that ends. -/
theorem State.scrubEnd_alone {s : State} (hpass : s.scr.passNext = none) (how : ScrState) :
    s.scrubEnd how = (s.onScr fun x => { x with
      state := how, abort := false, read := x.sumRead, corr := x.sumCorr, uncorr := x.sumUncorr, sigErr := x.sumSig
      dur := BitVec.ofNat 64 (s.since x.startedAt / usTicks) }).event epBuffer 65 s.scr.sumUncorr.toNat := by
  cases how <;> simp [State.scrubEnd, hpass, State.onScr]

theorem granule_abort {b : List Byte} {p : Option Nat} {s : State} (hrun : s.scr.state = .running)
    (hon : s.domOn 16 = true) (habort : s.scr.abort = true) (hpass : s.scr.passNext = none) :
    Completes (.scrubGranule b p) s fun t => t.scr.state = .aborted ∧ t.scr.abort = false ∧
      t.scr.read = s.scr.sumRead ∧ t.scr.uncorr = s.scr.sumUncorr ∧
      SentOnly [eventMsg epBuffer 65 s.scr.sumUncorr.toNat] s t ∧ t.dramc = s.dramc ∧ t.acts = s.acts ∧
      t.dict = s.dict ∧ MemorySame s t := by
  have hexec : exec (.scrubGranule b p) s = .next (s.scrubEnd .aborted) := by
    change execScrubGranule .. = _
    rw [execScrubGranule, if_neg (by simp [hrun, hon]), if_pos habort]
  rw [State.scrubEnd_alone hpass] at hexec
  exact ⟨_, hexec, rfl, rfl, rfl, rfl, rfl, rfl, rfl, rfl, fun a => rfl⟩

theorem granule_waits {b : List Byte} {p : Option Nat} {s : State} (habort : s.scr.abort = false)
    (hmay : s.scrubMay = false) : Completes (.scrubGranule b p) s fun t => t = s := by
  refine ⟨s, ?_, rfl⟩
  change execScrubGranule .. = _
  rw [execScrubGranule]
  split
  · rfl
  · rw [if_neg (by simp [habort]), if_pos (by simp [hmay])]

theorem starve_due {c : Fin 4} {s : State} (hrun : s.scr.state = .running)
    (hdue : max 1 s.scr.limit.toNat * usTicks ≤ s.since (s.chan c).scrubAt) :
    Completes (.scrubStarve c) s fun t => t = (s.onChan c fun x => { x with starve := true, scrubAt := s.now }).onScr
      (fun x => { x with flags := setBit x.flags 1 true }) := by
  refine ⟨_, ?_, rfl⟩
  change execScrubStarve .. = _
  rw [execScrubStarve, if_pos (by simp only [hrun, hdue]; rfl)]

theorem starve_early {c : Fin 4} {s : State} (h : s.since (s.chan c).scrubAt < max 1 s.scr.limit.toNat * usTicks) :
    Completes (.scrubStarve c) s fun t => t = s := by
  refine ⟨s, ?_, rfl⟩
  change execScrubStarve .. = _
  rw [execScrubStarve, if_neg]
  rw [Bool.and_eq_true, decide_eq_true_iff, decide_eq_true_iff]
  omega

/-- A granule without an error counted: it is read, and the next one follows. -/
def scrubCounted (x : Scr) : Scr := { x with sumRead := x.sumRead + 1, next := x.next + 64 }

theorem setBit_self : ∀ f : BitVec 3, setBit f 0 (f.getLsbD 0) = f := by decide

/-- The channel of the next granule gives its slot to the scrubber. -/
def slotGiven (now : BitVec 64) (x : Chan) : Chan := { x with starve := false, scrubAt := now }

theorem slotGiven_lines (now : BitVec 64) (x : Chan) : (slotGiven now x).lines = x.lines := rfl

theorem slotGiven_starve (now : BitVec 64) (x : Chan) : (slotGiven now x).starve = false := rfl

theorem slotGiven_scrubAt (now : BitVec 64) (x : Chan) : (slotGiven now x).scrubAt = now := rfl

/-- The granule is read, unless its whole entry waits in the write queue. -/
def State.scrubRead (g : Nat) (page : Option Nat) (s : State) : State :=
  if (s.qEntry g).any QEntry.whole then s else (s.readGran g epBuffer s.scr.fix [] page).2

/-- What a granule without an error leaves once it is read. -/
theorem State.scrubRead_clean {g : Nat} {s : State} (he : s.dramc.errs = []) (hl : (s.chan (granChan g)).lines = []) :
    Only [.dramc] s (s.scrubRead g none) ∧ (s.scrubRead g none).dramc.errs = s.dramc.errs ∧
      ((s.scrubRead g none).chan (granChan g)).starve = (s.chan (granChan g)).starve ∧
      ((s.scrubRead g none).chan (granChan g)).scrubAt = (s.chan (granChan g)).scrubAt := by
  rw [State.scrubRead]
  split
  · exact ⟨.refl _ _, rfl, rfl, rfl⟩
  · have hread : (s.readGran g epBuffer s.scr.fix [] none).2 = s.lineRead g :=
      congrArg Prod.snd (State.readGran_clean he hl epBuffer s.scr.fix none)
    rw [hread, State.lineRead_clean he hl]
    refine ⟨(State.onChan_only (by simp) _ _ _ _).2 (.refl _ _), rfl, ?_, ?_⟩
    · rw [State.chan_onChan_same]
    · rw [State.chan_onChan_same]

/-- The channel of the scrubber's next granule gives it its slot. -/
def State.slotTaken (s : State) : State := s.onChan (granChan (granOf s.scr.next)) (slotGiven s.now)

/-- A granule that decodes without an error is counted alone. -/
theorem exec_scrubGranule {b : List Byte} {s r : State} (hrun : s.scr.state = .running) (hon : s.domOn 16 = true)
    (habort : s.scr.abort = false) (hmay : s.scrubMay = true) (hsig : s.scr.sig = false)
    (hclean : s.slotTaken.decodeGran (granOf s.scr.next) [] = .clean)
    (hread : s.slotTaken.scrubRead (granOf s.scr.next) none = r) (hscr : r.scr = s.scr) :
    exec (.scrubGranule b none) s = .next (if s.scr.stop.toNat < s.scr.next + 64
        then (r.onScr scrubCounted).scrubEnd .done else r.onScr scrubCounted) := by
  have hslot : (s.onChan (granChan (granOf s.scr.next)) fun x => { x with starve := false, scrubAt := s.now })
      = s.slotTaken := rfl
  have hcount : (r.onScr fun x => { x with sumRead := x.sumRead + 1, next := s.scr.next + 64 })
      = r.onScr scrubCounted := by
    rw [State.onScr, State.onScr, scrubCounted, hscr]
  have hzero : BitVec.ofNat 32 (b2n false) = 0#32 := rfl
  have hquiet : (r.onScr scrubCounted).scr.sig = false := (congrArg Scr.sig hscr).trans hsig
  have hstop : (r.onScr scrubCounted).scr.stop = s.scr.stop := (congrArg Scr.stop hscr).trans rfl
  rw [State.scrubRead] at hread
  change execScrubGranule .. = _
  rw [execScrubGranule, if_neg (by simp [hrun, hon]), if_neg (by simp [habort]), if_neg (by simp [hmay])]
  simp only [hslot, hclean, hread, Bool.and_false, Bool.false_and, Bool.or_false, setBit_self, hzero, BitVec.add_zero,
    Bool.false_eq_true, if_false, hcount, hquiet, hstop]

/-- A granule without an error is read and counted. -/
theorem granule_read {b : List Byte} {s : State} (hrun : s.scr.state = .running) (hon : s.domOn 16 = true)
    (habort : s.scr.abort = false) (hmay : s.scrubMay = true) (he : s.dramc.errs = [])
    (hl : (s.chan (granChan (granOf s.scr.next))).lines = []) (hsig : s.scr.sig = false) :
    ∃ r, Only [.dramc] s r ∧ r.dramc.errs = s.dramc.errs ∧
      (r.chan (granChan (granOf s.scr.next))).starve = false ∧
      (r.chan (granChan (granOf s.scr.next))).scrubAt = s.now ∧
      exec (.scrubGranule b none) s = .next (if s.scr.stop.toNat < s.scr.next + 64
        then (r.onScr scrubCounted).scrubEnd .done else r.onScr scrubCounted) := by
  have hgiven : s.slotTaken.chan (granChan (granOf s.scr.next))
      = slotGiven s.now (s.chan (granChan (granOf s.scr.next))) := State.chan_onChan_same _ _ _
  have hframe : Only [.dramc] s s.slotTaken := (State.onChan_only (by simp) _ _ _ _).2 (.refl _ _)
  have herrs : s.slotTaken.dramc.errs = [] := (State.errs_onChan _ _ s).trans he
  have hlines : (s.slotTaken.chan (granChan (granOf s.scr.next))).lines = [] := by
    rw [hgiven, slotGiven_lines, hl]
  obtain ⟨hread, hkeep, hstarve, hat⟩ := State.scrubRead_clean herrs hlines
  exact ⟨_, hframe.trans hread, hkeep.trans (herrs.trans he.symm), by rw [hstarve, hgiven, slotGiven_starve],
    by rw [hat, hgiven, slotGiven_scrubAt], exec_scrubGranule hrun hon habort hmay hsig
      (State.decodeGran_clean herrs hlines) rfl ((hframe.trans hread).scr (by simp))⟩

theorem granule_next {b : List Byte} {s : State} (hrun : s.scr.state = .running) (hon : s.domOn 16 = true)
    (habort : s.scr.abort = false) (hmay : s.scrubMay = true) (he : s.dramc.errs = [])
    (hl : (s.chan (granChan (granOf s.scr.next))).lines = []) (hsig : s.scr.sig = false)
    (hmore : s.scr.next + 64 ≤ s.scr.stop.toNat) :
    Completes (.scrubGranule b none) s fun t =>
      t.scr = { s.scr with sumRead := s.scr.sumRead + 1, next := s.scr.next + 64 } ∧
      (t.chan (granChan (granOf s.scr.next))).starve = false ∧
      (t.chan (granChan (granOf s.scr.next))).scrubAt = s.now ∧ t.dramc.errs = s.dramc.errs ∧ t.fab = s.fab ∧
      t.acts = s.acts ∧ t.dict = s.dict := by
  obtain ⟨r, hframe, herrs, hstarve, hat, hexec⟩ := granule_read (b := b) hrun hon habort hmay he hl hsig
  rw [if_neg (by omega)] at hexec
  have hscr : scrubCounted r.scr = scrubCounted s.scr := by rw [hframe.scr (by simp)]
  exact ⟨_, hexec, hscr, hstarve, hat, herrs, hframe.fab (by simp), hframe.allActs (by simp), hframe.dict (by simp)⟩

theorem granule_last {b : List Byte} {s : State} (hrun : s.scr.state = .running) (hon : s.domOn 16 = true)
    (habort : s.scr.abort = false) (hmay : s.scrubMay = true) (he : s.dramc.errs = [])
    (hl : (s.chan (granChan (granOf s.scr.next))).lines = []) (hsig : s.scr.sig = false)
    (hlast : s.scr.stop.toNat < s.scr.next + 64) (hpass : s.scr.passNext = none) :
    Completes (.scrubGranule b none) s fun t => t.scr.state = .done ∧ t.scr.read = s.scr.sumRead + 1 ∧
      t.scr.uncorr = s.scr.sumUncorr ∧ SentOnly [eventMsg epBuffer 65 s.scr.sumUncorr.toNat] s t ∧
      t.dramc.errs = s.dramc.errs ∧ t.acts = s.acts ∧ t.dict = s.dict ∧ MemorySame s t := by
  obtain ⟨r, hframe, herrs, -, -, hexec⟩ := granule_read (b := b) hrun hon habort hmay he hl hsig
  have hscr := hframe.scr (by simp)
  rw [if_pos hlast, State.scrubEnd_alone (s := r.onScr scrubCounted) (by rw [← hpass, ← hscr]; rfl)] at hexec
  have hmsgs : r.fab.msgs ++ [eventMsg epBuffer 65 r.scr.sumUncorr.toNat]
      = s.fab.msgs ++ [eventMsg epBuffer 65 s.scr.sumUncorr.toNat] := by rw [hscr, hframe.msgs (by simp)]
  have hread : (scrubCounted r.scr).sumRead = s.scr.sumRead + 1 := by rw [hscr]; rfl
  have huncorr : (scrubCounted r.scr).sumUncorr = s.scr.sumUncorr := by rw [hscr]; rfl
  exact ⟨_, hexec, rfl, hread, huncorr, hmsgs, herrs, hframe.allActs (by simp), hframe.dict (by simp),
    hframe.memorySame (by simp)⟩

/-- The scrubber as it stands before the first range of a full pass of 7 GiB. -/
def passBegun (poh : Nat) (rate : BitVec 16) (x : Scr) : Scr :=
  { x with passNext := some 0x10000000, passAt := poh, start := 0x800000000, stop := 0x80FFFFFFF, rate := rate }

theorem pass_starts {s : State} (hp : s.p5030ScrubPassH ≠ 0) (hdue : s.scr.passAt + s.p5030ScrubPassH ≤ s.poh)
    (hrest : s.scr.state ≠ .running) (hon : s.domOn 16 = true) (hraw : s.dramc.rawGiB = 8)
    (hdie : s.tt.protDie = false) (hdiode : s.tt.protDiode = false) (hpass : s.scr.passNext = none) :
    Completes .scrubPassStart s fun t => t.scr.state = .running ∧ t.scr.start.toNat = 0x800000000 ∧
      t.scr.stop.toNat = 0x80FFFFFFF ∧ t.scr.passNext = some 0x10000000 ∧ SentOnly [eventMsg epBuffer 64 256] s t ∧
      t.dramc.errs = s.dramc.errs ∧ t.scr.passAt = s.poh ∧ t.acts = s.acts ∧ t.dict = s.dict ∧ MemorySame s t := by
  have hbytes : s.usableBytes = 7516192768 := congrArg (fun gib => gib * 2 ^ 30 / 8 * 7) hraw
  have hexec : exec .scrubPassStart s
      = .next (s.onScr (passBegun s.poh (BitVec.ofNat 16 s.p5030ScrubRate))).scrubStart := by
    have hset : (s.onScr fun x => { x with
        passNext := some 0x10000000, passAt := if x.passNext.isNone then s.poh else x.passAt, start := 0x800000000
        stop := 0x80FFFFFFF, rate := BitVec.ofNat 16 s.p5030ScrubRate })
        = s.onScr (passBegun s.poh (BitVec.ofNat 16 s.p5030ScrubRate)) := by
      rw [State.onScr, State.onScr, passBegun, hpass]
      rfl
    change execScrubPassStart .. = _
    rw [execScrubPassStart, if_neg (by simp [hp, hpass, hrest, hon, hraw, hdie, hdiode, hbytes]; omega), hpass,
      hbytes, ← hset]
    rfl
  generalize hu : s.onScr (passBegun s.poh (BitVec.ofNat 16 s.p5030ScrubRate)) = u at hexec
  have hscr : u.scr = passBegun s.poh (BitVec.ofNat 16 s.p5030ScrubRate) s.scr := by rw [← hu]; rfl
  have hframe : Only [.scr, .dramc, .msgs] s u := by
    rw [← hu, State.onScr_only (by simp)]
    exact .refl _ _
  have hlo : u.scr.start.toNat = 0x800000000 := by rw [hscr]; rfl
  have hhi : u.scr.stop.toNat = 0x80FFFFFFF := by rw [hscr]; rfl
  have hin : u.inDram 0x800000000 0x10000000 = true := by
    have hsame : u.usableBytes = 7516192768 := by rw [← hu]; exact hbytes
    rw [State.inDram, hsame]
    rfl
  have hstart := State.scrubStart_starts (s := u) (by rw [hscr]; exact hrest) (by rw [hlo, hhi]; omega)
    (by rw [hlo, hhi]; exact hin)
  have hsent : u.scrubStarted.fab.msgs = s.fab.msgs ++ [eventMsg epBuffer 64 256] := by
    rw [State.scrubStarted_sends u, hlo, hhi, ← hu]
    rfl
  have hdone := State.scrubStarted_scr u
  have hall := hframe.trans (State.scrubStarted_only _)
  rw [hscr] at hdone
  refine ⟨_, hexec.trans (congrArg _ hstart), congrArg Scr.state hdone, congrArg (fun x : Scr => x.start.toNat) hdone,
    congrArg (fun x : Scr => x.stop.toNat) hdone, congrArg Scr.passNext hdone, hsent, ?_, congrArg Scr.passAt hdone,
    hall.allActs (by simp), hall.dict (by simp), hall.memorySame (by simp)⟩
  rw [State.scrubStarted_errs, ← hu]
  rfl

/-- Settles O44: refreshes, codes and retrainings change their channel alone; the scrubber begins, reads, waits and ends
by its rules. -/
theorem dramRefreshesRetrainsAndScrubs : Obligations.DramRefreshesRetrainsAndScrubs := by
  unfold Obligations.DramRefreshesRetrainsAndScrubs
  refine ⟨?_, ?_, ?_, ?_, ?_, ?_, ?_, ?_, ?_, ?_, ?_, ?_, ?_, ?_, ?_, ?_, ?_, ?_, ?_, ?_, ?_⟩
  · exact fun c b s h => refresh_postponed h
  · rintro c b s ⟨h, ho, hl⟩
    exact refresh_taken h ho hl
  · rintro c b s ⟨h8, h, hl⟩
    exact refresh_forced h8 h hl
  · rintro c code s ⟨hwas, hhot⟩
    exact mr4_hot hwas hhot
  · rintro c code s ⟨hwas, hcool⟩
    exact mr4_nominal hwas hcool
  · rintro c ps s ⟨htrained, hself, hnever, hdrift⟩
    exact retrain_starts htrained hself hnever (.inl hdrift)
  · rintro c ps s ⟨htrained, hself, hnever, hcodes⟩
    exact retrain_starts htrained hself hnever (.inr hcodes)
  · rintro c ps at' s ⟨hat, hearly⟩
    exact retrain_early hat hearly
  · rintro c s ⟨hret, hw⟩
    exact retrain_done hret hw
  · rintro c s ⟨hret, hf⟩
    exact retrain_fails hret hf
  · rintro c s ⟨hret, hf, hw⟩
    exact retrain_gives_up hret hf hw
  · rintro v s ⟨hon, hrest, horder, hin⟩
    exact scrub_starts hon hrest horder hin
  · rintro v s ⟨hon, h⟩
    exact scrub_refused hon h
  · exact fun s hrun => scrub_aborted hrun
  · rintro b p s ⟨hrun, hon, habort, hpass⟩
    exact granule_abort hrun hon habort hpass
  · rintro b s ⟨hrun, hon, habort, hmay, he, hl, -, hsig, hmore⟩
    exact granule_next hrun hon habort hmay he hl hsig hmore
  · rintro b s ⟨hrun, hon, habort, hmay, he, hl, hsig, hlast, hpass⟩
    exact granule_last hrun hon habort hmay he hl hsig hlast hpass
  · rintro c s ⟨hrun, hdue⟩
    exact starve_due hrun hdue
  · exact fun c s h => starve_early h
  · rintro sig p s ⟨-, habort, hmay⟩
    exact granule_waits habort hmay
  · rintro s ⟨hp, hdue, hrest, hon, hraw, hdie, hdiode, hpass⟩
    exact pass_starts hp hdue hrest hon hraw hdie hdiode hpass

end Sys2Proof.Machine

/-! PROOFS. Features, power states and firmware (12 R378 to R380, R387). -/

namespace Sys2Proof.Machine

open Sys2Proof

set_option Elab.async false

/-! The admin commands at their checks. -/

section
variable {h : NvmeHdr} {s : State} (hfetch : FetchesAdmin h s)
include hfetch

/-- A Set Features that passes its checks and is not saved. -/
theorem setFeatures_passes {fid : BitVec 8} {nsid : Nat} {d11 d12 : BitVec 32}
    (hchecks : NoneRefuse ((s.fetch h true 0x09 { nsid := nsid, lba := 0, nlb := 0 }).featChecks h.ctrl fid.toNat false
      nsid d11 d12 [])) (h7 : fid.toNat ≠ 7) (h83 : fid.toNat ≠ 0x83) :
    exec (.setFeatures h fid false nsid d11 d12 []) s
      = .next ((s.fetch h true 0x09 { nsid := nsid, lba := 0, nlb := 0 }).featSet h.ctrl fid.toNat nsid d11 d12 []) := by
  change execSetFeatures .. = _
  rw [execSetFeatures, State.admin_fetches hfetch.1]
  dsimp only
  rw [State.checked_passed hchecks]
  simp [h7, h83]

/-- A Set Features that a check refuses. -/
theorem setFeatures_refused {fid : BitVec 8} {sv : Bool} {nsid : Nat} {d11 d12 : BitVec 32} {st : NvStatus}
    (hchecks : ((s.fetch h true 0x09 { nsid := nsid, lba := 0, nlb := 0 }).featChecks h.ctrl fid.toNat sv
      nsid d11 d12 []).findSome? id = some st) :
    exec (.setFeatures h fid sv nsid d11 d12 []) s
      = .next ((s.fetch h true 0x09 { nsid := nsid, lba := 0, nlb := 0 }).cmdReady (s.nvme.fetched + 1) st) := by
  change execSetFeatures .. = _
  rw [execSetFeatures, State.admin_fetches hfetch.1]
  dsimp only
  rw [State.checked_refused hchecks]

theorem writeCache_set {d12 : BitVec 32} {v : Bool} {nsid : Nat} :
    Completes (.setFeatures h 0x06 false nsid (if v then 1 else 0) d12 []) s fun t =>
      Ready (s.nvme.fetched + 1) nvOk t ∧ t.p1011WriteCache = v ∧
      (∀ k, k ≠ 0x101101 → Tab.get? t.dict.od k = Tab.get? s.dict.od k) ∧ t.acts = s.acts ∧ t.fab = s.fab := by
  refine ⟨_, setFeatures_passes hfetch (fid := 6) (by simp [State.featChecks, featIds, featSaves]) (by decide)
    (by decide), ?_⟩
  generalize hu : s.fetch h true 0x09 { nsid := nsid, lba := 0, nlb := 0 } = u
  have hframe : Only [.nvme] s u := hu ▸ State.fetch_frame _ _ _ _ s
  have hset : u.featSet h.ctrl (6 : BitVec 8).toNat nsid (if v then 1 else 0) d12 []
      = u.odSet 0x101101 (if v then 1 else 0) := by cases v <;> rfl
  have hod : u.dict = s.dict := hframe.dict (by simp)
  rw [hset]
  refine ⟨hfetch.2.ready (by rw [← hu]; rfl), ?_, fun k hk => ?_, hframe.allActs (by simp), hframe.fab (by simp)⟩
  · rw [State.p1011WriteCache, State.odNat_odSet]
    cases v <;> rfl
  · rw [← hod]
    exact Tab.get?_set_other _ _ hk

omit hfetch in
theorem featChecks_power {c : Fin 2} {nsid : Nat} {d11 d12 : BitVec 32} {u : State} (hd : fld d11.toNat 0 5 ≤ 3) :
    NoneRefuse (u.featChecks c (2 : BitVec 8).toNat false nsid d11 d12 []) := by
  have hstate : decide (3 < fld d11.toNat 0 5) = false := decide_eq_false (by omega)
  simp [State.featChecks, featIds, featSaves, hstate]

omit hfetch in
/-- A power state requested: the host's target, and event 46. -/
theorem setPowerState_requests (c : Fin 2) (ps : Fin 4) (apst : Bool) (s : State) :
    (s.setPowerState c (BitVec.ofNat 2 ps.val) apst).nvme.cmds = s.nvme.cmds ∧
      (s.setPowerState c (BitVec.ofNat 2 ps.val) apst).nvme.powerState.toNat = ps.val ∧
      (s.setPowerState c (BitVec.ofNat 2 ps.val) apst).sys.hostTarget
        = (if ps = 2 then .recess else if ps = 3 then .dormant else .service) ∧
      SentOnly [eventMsg (epHost c) 46 (ps.val + 2 ^ 31 * b2n apst)] s
        (s.setPowerState c (BitVec.ofNat 2 ps.val) apst) ∧
      (s.setPowerState c (BitVec.ofNat 2 ps.val) apst).acts = s.acts := by
  have hnat : (BitVec.ofNat 2 ps.val).toNat = ps.val := by revert ps; decide
  have hmode : (if BitVec.ofNat 2 ps.val = 2 then Mode.recess else if BitVec.ofNat 2 ps.val = 3 then .dormant
      else .service) = if ps = 2 then .recess else if ps = 3 then .dormant else .service := by revert ps; decide
  refine ⟨rfl, hnat, hmode, ?_, rfl⟩
  rw [SentOnly, State.setPowerState, State.event_eq, hnat]
  rfl

theorem powerState_set {d12 : BitVec 32} {ps : Fin 4} {nsid : Nat} :
    Completes (.setFeatures h 0x02 false nsid (BitVec.ofNat 32 ps.val) d12 []) s fun t =>
      Ready (s.nvme.fetched + 1) nvOk t ∧ t.nvme.powerState.toNat = ps.val ∧
      t.sys.hostTarget = (if ps = 2 then .recess else if ps = 3 then .dormant else .service) ∧
      SentOnly [eventMsg (epHost h.ctrl) 46 ps.val] s t ∧ t.acts = s.acts := by
  have hfld : fld (BitVec.ofNat 32 ps.val).toNat 0 5 = ps.val := by revert ps; decide
  refine ⟨_, setFeatures_passes hfetch (fid := 2) (featChecks_power (by rw [hfld]; omega)) (by decide)
    (by decide), ?_⟩
  generalize hu : s.fetch h true 0x09 { nsid := nsid, lba := 0, nlb := 0 } = u
  have hframe : Only [.nvme] s u := hu ▸ State.fetch_frame _ _ _ _ s
  have hset : u.featSet h.ctrl (2 : BitVec 8).toNat nsid (BitVec.ofNat 32 ps.val) d12 []
      = u.setPowerState h.ctrl (BitVec.ofNat 2 (fld (BitVec.ofNat 32 ps.val).toNat 0 5)) false := rfl
  rw [hset, hfld]
  obtain ⟨hcmds, hstate, hmode, hsent, hacts⟩ := setPowerState_requests h.ctrl ps false u
  rw [SentOnly, hframe.msgs (by simp)] at hsent
  exact ⟨hfetch.2.ready (by rw [hcmds, ← hu]), hstate, hmode, hsent, hacts.trans (hframe.allActs (by simp))⟩

theorem feature_unknown {f : BitVec 8} {d11 d12 : BitVec 32} {sv : Bool} {nsid : Nat}
    (hf : featIds.contains f.toNat = false) :
    Completes (.setFeatures h f sv nsid d11 d12 []) s fun t => Ready (s.nvme.fetched + 1) (nvDnr .invalidField) t ∧
      t.dict = s.dict ∧ t.acts = s.acts ∧ t.fab = s.fab := by
  refine ⟨_, setFeatures_refused hfetch (st := nvDnr .invalidField) (by
    simp only [State.featChecks, hf, Bool.not_false, failIf_true, List.findSome?_cons, id]),
    hfetch.2.refused rfl _, ?_⟩
  have hframe := (State.cmdReady_only (s.nvme.fetched + 1) (nvDnr .invalidField) _ (by simp) s).2
    (State.fetch_frame h true 0x09 { nsid := nsid, lba := 0, nlb := 0 } s)
  exact ⟨hframe.dict (by simp), hframe.allActs (by simp), hframe.fab (by simp)⟩

theorem feature_unsaveable {d11 d12 : BitVec 32} {nsid : Nat} :
    Completes (.setFeatures h 0x02 true nsid d11 d12 []) s fun t =>
      Ready (s.nvme.fetched + 1) (nvDnr .notSaveable) t ∧ t.nvme.powerState = s.nvme.powerState ∧ t.fab = s.fab := by
  refine ⟨_, setFeatures_refused hfetch (fid := 2) (st := nvDnr .notSaveable)
    (by simp [State.featChecks, featIds, featSaves]), hfetch.2.refused rfl _, rfl, ?_⟩
  have hframe := (State.cmdReady_only (s.nvme.fetched + 1) (nvDnr .notSaveable) _ (by simp) s).2
    (State.fetch_frame h true 0x09 { nsid := nsid, lba := 0, nlb := 0 } s)
  exact hframe.fab (by simp)

theorem powerState_read {d11 : BitVec 32} {nsid : Nat} :
    Completes (.getFeatures h 0x02 nsid d11) s fun t => Ready (s.nvme.fetched + 1) nvOk t ∧
      ((t.cmd? (s.nvme.fetched + 1)).map fun k => k.dw0.toNat) = some s.nvme.powerState.toNat ∧
      t.nvme.data = s.nvme.data ∧ t.acts = s.acts ∧ t.fab = s.fab := by
  have hcmd := State.fetch_cmd? h true 0x0A { nsid := nsid, lba := 0, nlb := 0 } s hfetch.2
  have hexec : exec (.getFeatures h 0x02 nsid d11) s
      = .next ((s.fetch h true 0x0A { nsid := nsid, lba := 0, nlb := 0 }).readyDw0 (s.nvme.fetched + 1)
          s.nvme.powerState.toNat) := by
    change execGetFeatures .. = _
    rw [execGetFeatures, State.admin_fetches hfetch.1]
    dsimp only
    rw [State.checked_passed (by simp [featIds])]
    rfl
  generalize hu : s.fetch h true 0x0A { nsid := nsid, lba := 0, nlb := 0 } = u at hexec
  have hframe : Only [.nvme] s u := hu ▸ State.fetch_frame _ _ _ _ s
  have hall := (State.readyDw0_only (s.nvme.fetched + 1) s.nvme.powerState.toNat u (by simp) s).2 hframe
  obtain ⟨hready, hdw0⟩ := hfetch.2.readyDw0 (t := u) (by rw [← hu]) s.nvme.powerState.toNat
  have hnat : (BitVec.ofNat 32 s.nvme.powerState.toNat).toNat = s.nvme.powerState.toNat := by
    simp
    omega
  refine ⟨_, hexec, hready, ?_, ?_, hall.allActs (by simp), hall.fab (by simp)⟩
  · have := congrArg (Option.map BitVec.toNat) hdw0
    rw [Option.map_map] at this
    rw [Option.map_some, hnat] at this
    exact this
  · show u.nvme.data = s.nvme.data
    rw [← hu]
    rfl

/-- The commit of another firmware image cannot be in flight while nothing is. -/
theorem committing_alone (hnone : s.nvme.cmds = []) (opcode : Nat) (r : IoRange) :
    (s.fetch h true opcode r).committing (s.nvme.fetched + 1) = false := by
  rw [State.committing, State.fetch_cmds, hnone]
  simp [State.entered]

theorem image_downloaded {off len : Nat} {g : Bool} (hact : s.nvme.activation = none) (hnone : s.nvme.cmds = [])
    (hload : s.nvme.download = none) (hoff : off % 4096 = 0) (hlen : len % 4096 = 0) (h1 : 1 ≤ len)
    (hmax : off + len ≤ 2 ^ 24) :
    Completes (.firmwareImageDownload h off len g) s fun t => Ready (s.nvme.fetched + 1) nvOk t ∧
      t.nvme.download = some (off + len, g) ∧ t.acts = s.acts ∧ t.fab = s.fab := by
  have hcommit := committing_alone hfetch hnone 0x11 { nsid := 0, lba := 0, nlb := 0 }
  have hactive : (s.fetch h true 0x11 { nsid := 0, lba := 0, nlb := 0 }).nvme.activation = none := hact
  have hloaded : (s.fetch h true 0x11 { nsid := 0, lba := 0, nlb := 0 }).nvme.download = none := hload
  have hframe := State.fetch_frame h true 0x11 { nsid := 0, lba := 0, nlb := 0 } s
  have hroom : ¬ 16777216 < off + len := Nat.not_lt.2 hmax
  have hready := fun (t : State) ht => hfetch.2.ready (t := t) (h := h) (admin := true) (opcode := 0x11)
    (r := { nsid := 0, lba := 0, nlb := 0 }) ht
  have hexec : exec (.firmwareImageDownload h off len g) s
      = .next ((s.fetch h true 0x11 { nsid := 0, lba := 0, nlb := 0 }).onNvme fun v => { v with
          download := some (off + len, g) }) := by
    change execFirmwareImageDownload .. = _
    rw [execFirmwareImageDownload, State.admin_fetches hfetch.1,
      State.checked_passed (by simp [hcommit, hactive, hoff, hlen, hroom, Nat.ne_of_gt h1])]
    simp only [State.onNvme, hloaded]
  generalize s.fetch h true 0x11 { nsid := 0, lba := 0, nlb := 0 } = u at *
  have hall := (State.onNvme_only (by simp) (fun v => { v with download := some (off + len, g) }) s u).2 hframe
  exact ⟨_, hexec, hready _ rfl, rfl, hall.allActs (by simp), hall.fab (by simp)⟩

omit hfetch in
/-- The NVMe state once an image has been stored in a slot. -/
def imageStored (slot : Nat) (guests : Bool) (v : Nvme) : Nvme :=
  { v with
    imageRev := v.imageRev + 1, download := none
    slots := Tab.set v.slots slot { guests := guests, verifies := true, rev := v.imageRev + 1 } }

theorem image_committed {slot : Nat} {d : Nat × Bool} (hact : s.nvme.activation = none) (hnone : s.nvme.cmds = [])
    (hload : s.nvme.download = some d) (hslot : slot = 2 ∨ slot = 3) :
    Completes (.firmwareCommit h slot 0 true) s fun t => Ready (s.nvme.fetched + 1) nvOk t ∧
      Tab.get? t.nvme.slots slot = some { guests := d.2, verifies := true, rev := s.nvme.imageRev + 1 } ∧
      t.nvme.download = none ∧ t.nvme.activeSlot = s.nvme.activeSlot ∧
      SentOnly [eventMsg (epHost h.ctrl) 39 d.1, eventMsg (epHost h.ctrl) 40 slot] s t ∧ t.acts = s.acts := by
  have hcommit := committing_alone hfetch hnone 0x10 { nsid := 0, lba := 0, nlb := 0 }
  have hactive : (s.fetch h true 0x10 { nsid := 0, lba := 0, nlb := 0 }).nvme.activation = none := hact
  have hloaded : (s.fetch h true 0x10 { nsid := 0, lba := 0, nlb := 0 }).nvme.download = some d := hload
  have hrev : (s.fetch h true 0x10 { nsid := 0, lba := 0, nlb := 0 }).nvme.imageRev = s.nvme.imageRev := rfl
  have hold : (s.fetch h true 0x10 { nsid := 0, lba := 0, nlb := 0 }).nvme.activeSlot = s.nvme.activeSlot := rfl
  have hframe := State.fetch_frame h true 0x10 { nsid := 0, lba := 0, nlb := 0 } s
  have hready := fun (t : State) ht => hfetch.2.ready (t := t) (h := h) (admin := true) (opcode := 0x10)
    (r := { nsid := 0, lba := 0, nlb := 0 }) ht
  have hchoose : (s.fetch h true 0x10 { nsid := 0, lba := 0, nlb := 0 }).commitSlot slot 0 = slot := by
    rw [State.commitSlot, if_neg (by rcases hslot with rfl | rfl <;> decide)]
  have hfits : (decide (3 < slot) || decide (slot = 0) || decide (slot = 1)) = false := by
    rcases hslot with rfl | rfl <;> rfl
  have hexec : exec (.firmwareCommit h slot 0 true) s
      = .next ((((s.fetch h true 0x10 { nsid := 0, lba := 0, nlb := 0 }).event (epHost h.ctrl) 39 d.1).onNvme
          (imageStored slot d.2)).event (epHost h.ctrl) 40 slot) := by
    change execFirmwareCommit .. = _
    rw [execFirmwareCommit, State.admin_fetches hfetch.1]
    dsimp only
    rw [hchoose, State.checked_passed (by simp [hcommit, hactive, hloaded, hfits])]
    simp only [hloaded]
    rfl
  generalize s.fetch h true 0x10 { nsid := 0, lba := 0, nlb := 0 } = u at *
  refine ⟨_, hexec, hready _ rfl, ?_, rfl, hold, ?_, hframe.allActs (by simp)⟩
  · rw [← hrev]
    exact Tab.get?_set_same _ _ _
  · rw [SentOnly, ← hframe.msgs (by simp)]
    exact List.append_assoc _ _ _

theorem image_rejected {slot : Nat} (hact : s.nvme.activation = none) (hnone : s.nvme.cmds = [])
    (hslot : slot = 2 ∨ slot = 3) :
    Completes (.firmwareCommit h slot 0 false) s fun t => Ready (s.nvme.fetched + 1) (nvDnr .invalidImage) t ∧
      t.nvme.slots = s.nvme.slots ∧ t.fab = s.fab := by
  have hcommit := committing_alone hfetch hnone 0x10 { nsid := 0, lba := 0, nlb := 0 }
  have hactive : (s.fetch h true 0x10 { nsid := 0, lba := 0, nlb := 0 }).nvme.activation = none := hact
  have hframe := State.fetch_frame h true 0x10 { nsid := 0, lba := 0, nlb := 0 } s
  have hchoose : (s.fetch h true 0x10 { nsid := 0, lba := 0, nlb := 0 }).commitSlot slot 0 = slot := by
    rw [State.commitSlot, if_neg (by rcases hslot with rfl | rfl <;> decide)]
  have hfits : (decide (3 < slot) || decide (slot = 0) || decide (slot = 1)) = false := by
    rcases hslot with rfl | rfl <;> rfl
  have hexec : exec (.firmwareCommit h slot 0 false) s
      = .next ((s.fetch h true 0x10 { nsid := 0, lba := 0, nlb := 0 }).cmdReady (s.nvme.fetched + 1)
          (nvDnr .invalidImage)) := by
    change execFirmwareCommit .. = _
    rw [execFirmwareCommit, State.admin_fetches hfetch.1]
    dsimp only
    rw [hchoose, State.checked_refused (st := nvDnr .invalidImage) (by simp [hcommit, hactive, hfits])]
  have hall := (State.cmdReady_only (s.nvme.fetched + 1) (nvDnr .invalidImage) _ (by simp) s).2 hframe
  exact ⟨_, hexec, hfetch.2.refused rfl _, rfl, hall.fab (by simp)⟩

end

/-! Activation. -/

/-- A record for the Yearbook counts at most the records dropped. -/
theorem KeepsObjects.ybAppend (ty : Nat) (pay : List Byte) (s : State) :
    KeepsObjects 0x610008 s (s.ybAppend ty pay) := by
  rcases Nat.lt_or_ge s.ybDepth 256 with hroom | hfull
  · rw [State.ybAppend_of_room hroom]
    exact .of_dict rfl
  · rw [State.ybAppend_of_full hfull]
    exact .trans (.of_dict rfl) (.count _ _ _)

theorem State.ybAppend_frame (ty : Nat) (pay : List Byte) (s : State) : Only [.dict, .yb] s (s.ybAppend ty pay) :=
  (State.ybAppend_only ty pay s (by simp) (by simp) s).2 (.refl _ s)

/-- Fetching that resumes leaves the commands and the slots. -/
theorem State.resumeFetch_nvme (s : State) :
    s.resumeFetch.nvme = { s.nvme with ctrls := s.resumeFetch.nvme.ctrls } := by
  refine foldS_keeps (fun t : State => t.nvme = { s.nvme with ctrls := t.nvme.ctrls })
    (fun c t => t.onCtrl c fun k => { k with fetchStopped := decide (k.shst ≠ 0) }) (fun c t ht => ?_) _ rfl
  exact congrArg (fun v : Nvme => { v with
    ctrls := (t.onCtrl c fun k => { k with fetchStopped := decide (k.shst ≠ 0) }).nvme.ctrls }) ht

theorem State.resumeFetch_frame (s : State) : Only [.nvme] s s.resumeFetch :=
  (Only.foldS fun _ _ => (State.onNvme_only (by simp) _ _ _).2 (.refl _ _)).2 (.refl _ _)

/-- What the end of an activation leaves. -/
theorem activation_ends {a : Activation} {event qual : Nat} {st : NvStatus} {s : State} {k : Cmd}
    (hk : k ∈ s.nvme.cmds)
    (hn : k.n = a.cmd) :
    (s.activationEnd a event qual st).nvme.activation = none ∧
      (s.activationEnd a event qual st).nvme.nextSlot = s.nvme.nextSlot ∧
      Ready a.cmd st (s.activationEnd a event qual st) ∧
      (s.activationEnd a event qual st).fab.msgs = s.fab.msgs ++ [eventMsg (epHost 0) event qual] ∧
      KeepsObjects 0x610008 s (s.activationEnd a event qual st) ∧
      Only [.nvme, .msgs, .dict, .yb] s (s.activationEnd a event qual st) := by
  generalize hu : (s.onNvme fun v => { v with activation := none }).resumeFetch = u
  have hnvme : u.nvme = { s.nvme with activation := none, ctrls := u.nvme.ctrls } := by
    rw [← hu]
    exact State.resumeFetch_nvme (s.onNvme fun v => { v with activation := none })
  have hframe : Only [.nvme] s u := by
    rw [← hu]
    exact ((State.onNvme_only (by simp) _ s s).2 (.refl _ s)).trans (State.resumeFetch_frame _)
  have hend : s.activationEnd a event qual st = ((u.cmdReady a.cmd st).event (epHost 0) event qual).ybAppend 0x000C
      (leBytes 1 a.slot ++ leBytes 2 event) := by rw [← hu]; rfl
  have hyb := State.ybAppend_frame 0x000C (leBytes 1 a.slot ++ leBytes 2 event)
    ((u.cmdReady a.cmd st).event (epHost 0) event qual)
  have hfound : (u.cmd? a.cmd).isSome = true := by
    rw [State.cmd?, hnvme, List.find?_isSome]
    exact ⟨k, hk, by simp [hn]⟩
  have hready := Ready.of_cmdReady hfound st
  have hall := ((State.cmdReady_only a.cmd st u (by simp) s).2
    (hframe.mono (m := [.nvme, .msgs, .dict, .yb]) (by simp)))
    |>.trans ((State.event_only (epHost 0) event qual _ (by simp) _).2 (.refl _ _)) |>.trans (hyb.mono (by simp))
  rw [hend]
  refine ⟨?_, ?_, ?_, ?_, ?_, hall⟩
  · rw [hyb.nvme (by simp)]
    exact congrArg Nvme.activation hnvme
  · rw [hyb.nvme (by simp)]
    exact (congrArg Nvme.nextSlot hnvme).trans rfl
  · rw [Ready, State.cmd?, hyb.nvme (by simp)]
    exact hready
  · rw [hyb.msgs (by simp), ← hframe.msgs (by simp)]
    rfl
  · exact .trans (.of_dict (hframe.dict (by simp))) (.trans (.of_dict rfl) (.ybAppend _ _ _))

theorem activation_switches {a : Activation} {k : Cmd} {s : State} (hact : s.nvme.activation = some a)
    (hdrained : a.drained.isSome = true) (hcmds : s.nvme.cmds = [k]) (hn : k.n = a.cmd) :
    Completes (.activationSwitch a.slot) s fun t => t.nvme.activation = none ∧ t.nvme.nextSlot = none ∧
      (t.sys.imageSlot.map fun x => x.val) = some (a.slot % 4) ∧ Ready a.cmd nvOk t ∧
      Sent (eventMsg (epHost 0) 42 (s.msSince a.since)) s t ∧ t.odNat 0x103003 0 = s.odNat 0x103003 0 + 1 ∧
      t.acts = s.acts ∧ MemorySame s t := by
  generalize hu : ((s.onNvme fun v => { v with nextSlot := none }).onSys fun y => { y with
    imageSlot := some ⟨a.slot % 4, Nat.mod_lt _ (by omega)⟩ }).count 0x103003 1 = u
  have hexec : exec (.activationSwitch a.slot) s = .next (u.activationEnd a 42 (s.msSince a.since) nvOk) := by
    change execActivationSwitch .. = _
    rw [execActivationSwitch, hact]
    dsimp only
    rw [if_neg (by simp; cases hd : a.drained <;> simp_all), ← hu]
    rfl
  have hframe : Only [.nvme, .sys, .dict] s u := by
    rw [← hu]
    unfold State.count State.odSet
    simp only [State.onDict_only, State.onSys_only, State.onNvme_only, Only.refl, List.mem_cons, true_or, or_true]
  have hnone : u.nvme.nextSlot = none := by rw [← hu]; rfl
  have hslot : u.sys.imageSlot = some ⟨a.slot % 4, Nat.mod_lt _ (by omega)⟩ := by rw [← hu]; rfl
  have hcount : u.odNat 0x103003 0 = s.odNat 0x103003 0 + 1 := by rw [← hu, State.odNat_count]; rfl
  have hmem : k ∈ u.nvme.cmds := by
    rw [← hu]
    show k ∈ s.nvme.cmds
    simp [hcmds]
  obtain ⟨hoff, hnext, hready, hmsgs, hod, hend⟩ := activation_ends (event := 42) (qual := s.msSince a.since)
    (st := nvOk) hmem hn
  have hall := (hframe.mono (m := [.nvme, .sys, .msgs, .dict, .yb]) (by simp)).trans (hend.mono (by simp))
  rw [hframe.msgs (by simp)] at hmsgs
  refine ⟨_, hexec, hoff, hnext.trans hnone, ?_, hready, SentOnly.sent hmsgs (by simp),
    (hod _ (by decide) _).trans hcount, hall.allActs (by simp), hall.memorySame (by simp)⟩
  rw [hend.sys (by simp), hslot]
  rfl

theorem activation_drainTimeout {a : Activation} {k j : Cmd} {s : State} (hact : s.nvme.activation = some a)
    (hdrained : a.drained = none) (hlate : 1000 * msTicks ≤ s.since a.since) (hcmds : s.nvme.cmds = [k, j])
    (hn : k.n = a.cmd) (hj : j.n ≠ a.cmd) (hopen : j.open = true) :
    Completes .activationDrainTimeout s fun t => t.nvme.activation = none ∧ t.nvme.nextSlot = s.nvme.nextSlot ∧
      t.sys.imageSlot = s.sys.imageSlot ∧ Ready a.cmd (nvRetry .maxTime) t ∧ Sent (eventMsg (epHost 0) 43 1) s t ∧
      t.acts = s.acts ∧ MemorySame s t := by
  have hflight : s.inFlight a = 1 := by simp [State.inFlight, hcmds, hn, hj, hopen]
  have hexec : exec .activationDrainTimeout s = .next (s.activationEnd a 43 1 (nvRetry .maxTime)) := by
    change execActivationDrainTimeout .. = _
    rw [execActivationDrainTimeout, hact]
    dsimp only
    rw [if_neg (by simp [hdrained]; omega), hflight]
  obtain ⟨hnone, hnext, hready, hmsgs, -, hframe⟩ := activation_ends (event := 43) (qual := 1)
    (st := nvRetry .maxTime)
    (k := k) (by rw [hcmds]; simp) hn
  exact ⟨_, hexec, hnone, hnext, by rw [hframe.sys (by simp)], hready, SentOnly.sent hmsgs (by simp),
    hframe.allActs (by simp), hframe.memorySame (by simp)⟩

theorem activation_overruns {b : BitVec 64} {s : State} (hdrained : (s.nvme.activation.bind fun a => a.drained) =
    some b)
    (hlate : 800 * msTicks < s.since b) :
    Completes .activationOverrun s fun t => SentOnly [faultMsg (epHost 0) 53 0 (s.localTime (epHost 0))] s t ∧
      t.nvme = s.nvme ∧ t.acts = s.acts := by
  refine ⟨s.fault (epHost 0) 53 0, ?_, rfl, rfl, rfl⟩
  change execActivationOverrun .. = _
  rw [execActivationOverrun, hdrained]
  dsimp only
  rw [if_pos hlate]

theorem apst_requests {c : Fin 2} {ps : Fin 4} {s : State} (hon : s.p1012ApstEnable = true)
    (hen : (s.ctrl c).en = true) :
    Completes (.apstTransition c (BitVec.ofNat 5 ps.val)) s fun t => t.nvme.powerState.toNat = ps.val ∧
      t.sys.hostTarget = (if ps = 2 then .recess else if ps = 3 then .dormant else .service) ∧
      SentOnly [eventMsg (epHost c) 46 (ps.val + 2 ^ 31)] s t ∧ t.acts = s.acts := by
  have hnat : (BitVec.ofNat 5 ps.val).toNat = ps.val := by revert ps; decide
  have hexec : exec (.apstTransition c (BitVec.ofNat 5 ps.val)) s
      = .next (s.setPowerState c (BitVec.ofNat 2 ps.val) true) := by
    change execApstTransition .. = _
    rw [execApstTransition, hnat, if_pos (by simp [hon, hen])]
  obtain ⟨-, hstate, hmode, hsent, hacts⟩ := setPowerState_requests c ps true s
  exact ⟨_, hexec, hstate, hmode, hsent, hacts⟩

/-- Settles O38: features, images and activations, each by the checks it passes and the state it leaves. -/
theorem featuresPowerStatesAndFirmware : Obligations.FeaturesPowerStatesAndFirmware := by
  unfold Obligations.FeaturesPowerStatesAndFirmware
  refine ⟨?_, ?_, ?_, ?_, ?_, ?_, ?_, ?_, ?_, ?_, ?_, ?_⟩
  · exact fun h d12 v nsid s hfetch => writeCache_set hfetch
  · exact fun h d12 ps nsid s hfetch => powerState_set hfetch
  · rintro h f d11 d12 sv nsid s ⟨hfetch, hf⟩
    exact feature_unknown hfetch hf
  · exact fun h d11 d12 nsid s hfetch => feature_unsaveable hfetch
  · exact fun h d11 nsid s hfetch => powerState_read hfetch
  · rintro c ps s ⟨hon, hen⟩
    exact apst_requests hon hen
  · rintro h off len g s ⟨hfetch, hact, hnone, hload, hoff, hlen, h1, hmax⟩
    exact image_downloaded hfetch hact hnone hload hoff hlen h1 hmax
  · rintro h slot d s ⟨hfetch, hact, hnone, hload, hslot⟩
    exact image_committed hfetch hact hnone hload hslot
  · rintro h slot s ⟨hfetch, hact, hnone, hslot⟩
    exact image_rejected hfetch hact hnone hslot
  · rintro a k s ⟨hact, hdrained, hcmds, hn⟩
    exact activation_switches hact hdrained hcmds hn
  · rintro a k j s ⟨hact, hdrained, hlate, hcmds, hn, hj, hopen⟩
    exact activation_drainTimeout hact hdrained hlate hcmds hn hj hopen
  · rintro b s ⟨hdrained, hlate⟩
    exact activation_overruns hdrained hlate

end Sys2Proof.Machine

/-! SUPPORT. Frames of the ends of write operations and of withdrawn commands. -/

namespace Sys2Proof.Machine

open Sys2Proof

set_option Elab.async false

theorem State.onCard_only {ps : List Part} (a : Fin 4) (h : Nat) (f : HeadCard → HeadCard) (s : State)
    (h_rc : .rc ∈ ps) (z : State) : Only ps z (State.onCard a h f s) ↔ Only ps z s := by
  unfold State.onCard
  simp only [Only.ite, Only.refl, ite_self, State.onRc_only, h_rc, or_true, implies_true]

theorem State.laserOff_only {ps : List Part} (a : Fin 4) (s : State)
    (h_rc : .rc ∈ ps) (z : State) : Only ps z (State.laserOff a s) ↔ Only ps z s := by
  unfold State.laserOff
  dsimp only
  (repeat' split) <;> simp only [Only.ite, Only.refl, ite_self, State.onCard_only, h_rc, or_true, implies_true]

theorem State.wpIdle_only {ps : List Part} (a : Fin 4) (s : State)
    (h_act_a : .act a ∈ ps ∨ .acts ∈ ps) (h_rc : .rc ∈ ps) (z : State) :
        Only ps z (State.wpIdle a s) ↔ Only ps z s := by
  unfold State.wpIdle
  simp only [Only.ite, Only.refl, ite_self, State.laserOff_only, State.onWp_only, h_act_a, h_rc, or_true,
    implies_true]

theorem State.pscQueue_only {ps : List Part} (a : Fin 4) (code data : Nat) (s : State)
    (h_act_a : .act a ∈ ps ∨ .acts ∈ ps) (z : State) : Only ps z (State.pscQueue a code data s) ↔ Only ps z s := by
  unfold State.pscQueue
  simp only [Only.ite, Only.refl, ite_self, State.onPsc_only, h_act_a, or_true, implies_true]

theorem State.pscRenew_only {ps : List Part} (a : Fin 4) (code data : Nat) (s : State)
    (h_act_a : .act a ∈ ps ∨ .acts ∈ ps) (z : State) : Only ps z (State.pscRenew a code data s) ↔ Only ps z s := by
  unfold State.pscRenew
  simp only [Only.ite, Only.refl, ite_self, State.onPsc_only, State.pscQueue_only, h_act_a, or_true, implies_true]

theorem State.countA_only {ps : List Part} (key : Nat) (a : Fin 4) (n : Nat) (s : State)
    (h_dict : .dict ∈ ps) (z : State) : Only ps z (State.countA key a n s) ↔ Only ps z s := by
  unfold State.countA
  simp only [Only.ite, Only.refl, ite_self, State.count_only, h_dict, or_true, implies_true]

theorem State.actEvent_only {ps : List Part} (a : Fin 4) (k off qual : Nat) (s : State)
    (h_msgs : .msgs ∈ ps) (z : State) : Only ps z (State.actEvent a k off qual s) ↔ Only ps z s := by
  unfold State.actEvent
  simp only [Only.ite, Only.refl, ite_self, State.event_only, h_msgs, or_true, implies_true]

theorem State.wpCut_only {ps : List Part} (a : Fin 4) (bit : Nat) (s : State)
    (h_act_a : .act a ∈ ps ∨ .acts ∈ ps) (h_dict : .dict ∈ ps) (h_msgs : .msgs ∈ ps) (h_rc : .rc ∈ ps)
        (z : State) : Only ps z (State.wpCut a bit s) ↔ Only ps z s := by
  unfold State.wpCut
  dsimp only
  (repeat' split) <;> simp only [Only.ite, Only.refl, ite_self, State.actEvent_only, State.countA_only,
      State.onWp_only, State.pscRenew_only, State.wpIdle_only, h_act_a, h_dict, h_msgs, h_rc, or_true, implies_true]

theorem State.parityEnd_only {ps : List Part} (opId : BitVec 32) (ok : Bool) (s : State)
    (h_plc : .plc ∈ ps) (h_recov : .recov ∈ ps) (h_tt : .tt ∈ ps) (z : State) :
        Only ps z (State.parityEnd opId ok s) ↔ Only ps z s := by
  unfold State.parityEnd
  (repeat' split) <;> simp only [Only.ite, Only.refl, ite_self, State.change_only, State.onPlc_only, h_plc,
      h_recov, h_tt, or_true, implies_true]

theorem State.dirtyCheck_only {ps : List Part} (s : State)
    (h_buf : .buf ∈ ps) (h_msgs : .msgs ∈ ps) (z : State) : Only ps z (State.dirtyCheck s) ↔ Only ps z s := by
  unfold State.dirtyCheck
  dsimp only
  simp only [Only.ite, Only.refl, ite_self, State.event_only, State.onBuf_only, h_buf, h_msgs, or_true, implies_true]

theorem State.setWord_only {ps : List Part} (a : Nat) (v : Word) (s : State)
    (h_mem : .mem ∈ ps) (z : State) : Only ps z (State.setWord a v s) ↔ Only ps z s := by
  unfold State.setWord
  simp only [Only.ite, Only.refl, ite_self, State.write_only, h_mem, or_true, implies_true]

theorem State.setSlotWord_only {ps : List Part} (a : Fin 4) (k off v : Nat) (s : State)
    (h_mem : .mem ∈ ps) (z : State) : Only ps z (State.setSlotWord a k off v s) ↔ Only ps z s := by
  unfold State.setSlotWord
  simp only [Only.ite, Only.refl, ite_self, State.setWord_only, h_mem, or_true, implies_true]

theorem State.showPins_only {ps : List Part} (a : Fin 4) (k : Nat) (s : State)
    (h_mem : .mem ∈ ps) (z : State) : Only ps z (State.showPins a k s) ↔ Only ps z s := by
  unfold State.showPins
  dsimp only
  simp only [Only.ite, Only.refl, ite_self, State.setSlotWord_only, h_mem, or_true, implies_true]

theorem State.unpinSlot_only {ps : List Part} (a : Fin 4) (k : Nat) (resident : Bool) (s : State)
    (h_act_a : .act a ∈ ps ∨ .acts ∈ ps) (h_mem : .mem ∈ ps) (z : State) :
        Only ps z (State.unpinSlot a k resident s) ↔ Only ps z s := by
  unfold State.unpinSlot
  simp only [Only.ite, Only.refl, ite_self, State.onRch_only, State.showPins_only, h_act_a, h_mem, or_true,
    implies_true]

theorem State.ladderDrop_only {ps : List Part} (l : Ladder) (s : State)
    (h_acts : .acts ∈ ps) (h_mem : .mem ∈ ps) (h_recov : .recov ∈ ps) (z : State) :
        Only ps z (State.ladderDrop l s) ↔ Only ps z s := by
  unfold State.ladderDrop
  dsimp only
  simp only [Only.ite, Only.refl, ite_self, State.onRch_only, State.onRecov_only, State.unpinSlot_only, h_acts,
    h_mem, h_recov, or_true, implies_true]

theorem State.dropReads_only {ps : List Part} (ns : List Nat) (s : State)
    (h_acts : .acts ∈ ps) (h_mem : .mem ∈ ps) (h_recov : .recov ∈ ps) (z : State) :
    Only ps z (State.dropReads ns s) ↔ Only ps z s := by
  unfold State.dropReads
  dsimp only
  refine (Only.foldS fun a t => ?_).trans (Only.foldS fun l t => ?_)
  · simp only [State.onRch_only, h_acts, or_true, Only.refl]
  · (repeat' split) <;>
      simp only [Only.refl, State.ladderDrop_only, h_acts, h_mem, h_recov]

theorem State.onCtrl_only {ps : List Part} (c : Fin 2) (f : Ctrl → Ctrl) (s : State)
    (h_nvme : .nvme ∈ ps) (z : State) : Only ps z (State.onCtrl c f s) ↔ Only ps z s := by
  unfold State.onCtrl
  simp only [Only.ite, Only.refl, ite_self, State.onNvme_only, h_nvme, or_true, implies_true]

theorem State.resumeFetch_only {ps : List Part} (s : State)
    (h_nvme : .nvme ∈ ps) (z : State) : Only ps z (State.resumeFetch s) ↔ Only ps z s := by
  unfold State.resumeFetch
  simp only [Only.ite, Only.refl, ite_self, Only.foldS, State.onCtrl_only, h_nvme, or_true, implies_true]

theorem State.activationLost_only {ps : List Part} (ns : List Nat) (s : State)
    (h_nvme : .nvme ∈ ps) (z : State) : Only ps z (State.activationLost ns s) ↔ Only ps z s := by
  unfold State.activationLost
  (repeat' split) <;> simp only [Only.ite, Only.refl, ite_self, State.onNvme_only, State.resumeFetch_only, h_nvme,
      or_true, implies_true]

theorem State.activationPump_only {ps : List Part} (s : State)
    (h_nvme : .nvme ∈ ps) (z : State) : Only ps z (State.activationPump s) ↔ Only ps z s := by
  unfold State.activationPump
  (repeat' split) <;> simp only [Only.ite, Only.refl, ite_self, State.onNvme_only, h_nvme, or_true, implies_true]

/-- A chunk whose write is undone changes the buffer and the placement alone. -/
theorem State.dataEnd_undone_only {ps : List Part} (opId : BitVec 32) (s : State) (h_buf : .buf ∈ ps)
    (h_plc : .plc ∈ ps) (z : State) : Only ps z (State.dataEnd opId false s) ↔ Only ps z s := by
  unfold State.dataEnd
  split
  · rfl
  · simp only [Bool.false_eq_true, if_false, State.onPlc_only, State.onBuf_only, h_buf, h_plc]

theorem State.chunkEnd_undone_only {ps : List Part} (opId : BitVec 32) (s : State) (h_buf : .buf ∈ ps)
    (h_msgs : .msgs ∈ ps) (h_plc : .plc ∈ ps) (h_recov : .recov ∈ ps) (h_tt : .tt ∈ ps) (z : State) :
    Only ps z (State.chunkEnd opId false s) ↔ Only ps z s := by
  unfold State.chunkEnd
  simp only [State.dataEnd_undone_only, State.dirtyCheck_only, State.parityEnd_only, h_buf, h_msgs, h_plc, h_recov,
    h_tt]

/-- A write operation that ends with a cause, its sectors unwritten. -/
theorem State.wpEnd_stopped_only {ps : List Part} (a : Fin 4) (cause : Nat) (s : State)
    (h_act_a : .act a ∈ ps ∨ .acts ∈ ps) (h_buf : .buf ∈ ps) (h_dict : .dict ∈ ps) (h_msgs : .msgs ∈ ps)
    (h_plc : .plc ∈ ps) (h_rc : .rc ∈ ps) (h_recov : .recov ∈ ps) (h_tt : .tt ∈ ps) (z : State) :
    Only ps z (State.wpEnd a (some cause) s) ↔ Only ps z s := by
  unfold State.wpEnd
  split
  · rfl
  · simp only [State.chunkEnd_undone_only, State.countA_only, State.onWp_only, State.wpIdle_only, h_act_a, h_buf,
      h_dict,
      h_msgs, h_plc, h_rc, h_recov, h_tt]

theorem State.dropWrite_only {ps : List Part} (opId : BitVec 32) (s : State)
    (h_acts : .acts ∈ ps) (h_buf : .buf ∈ ps) (h_dict : .dict ∈ ps) (h_msgs : .msgs ∈ ps) (h_plc : .plc ∈ ps)
    (h_rc : .rc ∈ ps) (h_recov : .recov ∈ ps) (h_tt : .tt ∈ ps) (z : State) :
    Only ps z (State.dropWrite opId s) ↔ Only ps z s := by
  unfold State.dropWrite
  refine Only.foldS fun a t => ?_
  (repeat' split) <;>
    simp only [Only.refl, State.chunkEnd_undone_only, State.onWp_only, State.wpCut_only, State.wpEnd_stopped_only,
      h_acts, h_buf, h_dict, h_msgs, h_plc, h_rc, h_recov, h_tt, or_true]

theorem State.dropWrites_only {ps : List Part} (ns : List Nat) (s : State)
    (h_acts : .acts ∈ ps) (h_buf : .buf ∈ ps) (h_dict : .dict ∈ ps) (h_msgs : .msgs ∈ ps) (h_plc : .plc ∈ ps)
    (h_rc : .rc ∈ ps) (h_recov : .recov ∈ ps) (h_tt : .tt ∈ ps) (z : State) :
    Only ps z (State.dropWrites ns s) ↔ Only ps z s := by
  unfold State.dropWrites
  simp only [Only.refl, Only.foldS, State.dirtyCheck_only, State.dropWrite_only, State.onBuf_only, State.onPlc_only,
    h_acts, h_buf, h_dict, h_msgs, h_plc, h_rc, h_recov, h_tt, implies_true]

theorem State.withdraw_only {ps : List Part} (c : Fin 2) (p : Cmd → Bool) (s : State)
    (h_acts : .acts ∈ ps) (h_buf : .buf ∈ ps) (h_dict : .dict ∈ ps) (h_mem : .mem ∈ ps) (h_msgs : .msgs ∈ ps)
        (h_nvme : .nvme ∈ ps) (h_plc : .plc ∈ ps) (h_rc : .rc ∈ ps) (h_recov : .recov ∈ ps) (h_tt : .tt ∈ ps)
        (z : State) : Only ps z (State.withdraw c p s) ↔ Only ps z s := by
  unfold State.withdraw
  dsimp only
  simp only [Only.ite, Only.refl, ite_self, State.activationLost_only, State.activationPump_only, State.count_only,
    State.dropReads_only, State.dropWrites_only, State.event_only, State.onNvme_only, h_acts, h_buf, h_dict, h_mem,
    h_msgs, h_nvme, h_plc, h_rc, h_recov, h_tt, or_true, implies_true]

theorem State.withdrawCtrl_only {ps : List Part} (c : Fin 2) (s : State)
    (h_acts : .acts ∈ ps) (h_buf : .buf ∈ ps) (h_dict : .dict ∈ ps) (h_mem : .mem ∈ ps) (h_msgs : .msgs ∈ ps)
        (h_nvme : .nvme ∈ ps) (h_plc : .plc ∈ ps) (h_rc : .rc ∈ ps) (h_recov : .recov ∈ ps) (h_tt : .tt ∈ ps)
        (z : State) : Only ps z (State.withdrawCtrl c s) ↔ Only ps z s := by
  unfold State.withdrawCtrl
  dsimp only
  simp only [Only.ite, Only.refl, ite_self, State.onNvme_only, State.withdraw_only, h_acts, h_buf, h_dict, h_mem,
    h_msgs, h_nvme, h_plc, h_rc, h_recov, h_tt, or_true, implies_true]

theorem State.activateNext_only {ps : List Part} (chip : Bool) (s : State)
    (h_nvme : .nvme ∈ ps) (h_sys : .sys ∈ ps) (z : State) : Only ps z (State.activateNext chip s) ↔ Only ps z s := by
  unfold State.activateNext
  (repeat' split) <;> simp only [Only.ite, Only.refl, ite_self, State.onNvme_only, State.onSys_only, h_nvme, h_sys,
      or_true, implies_true]

theorem State.resetCtrl_only {ps : List Part} (c : Fin 2) (s : State)
    (h_acts : .acts ∈ ps) (h_buf : .buf ∈ ps) (h_dict : .dict ∈ ps) (h_mem : .mem ∈ ps) (h_msgs : .msgs ∈ ps)
        (h_nvme : .nvme ∈ ps) (h_plc : .plc ∈ ps) (h_rc : .rc ∈ ps) (h_recov : .recov ∈ ps) (h_sys : .sys ∈ ps)
        (h_tt : .tt ∈ ps) (z : State) : Only ps z (State.resetCtrl c s) ↔ Only ps z s := by
  unfold State.resetCtrl
  dsimp only
  simp only [Only.ite, Only.refl, ite_self, State.activateNext_only, State.onCtrl_only, State.withdrawCtrl_only,
    h_acts, h_buf, h_dict, h_mem, h_msgs, h_nvme, h_plc, h_rc, h_recov, h_sys, h_tt, or_true, implies_true]

theorem State.onPort_only {ps : List Part} (p : Fin 2) (f : Port → Port) (s : State)
    (h_nvme : .nvme ∈ ps) (z : State) : Only ps z (State.onPort p f s) ↔ Only ps z s := by
  unfold State.onPort
  simp only [Only.ite, Only.refl, ite_self, State.onNvme_only, h_nvme, or_true, implies_true]

theorem State.portDown_only {ps : List Part} (p : Fin 2) (s : State)
    (h_dict : .dict ∈ ps) (h_msgs : .msgs ∈ ps) (h_nvme : .nvme ∈ ps) (h_pwr : .pwr ∈ ps) (z : State) :
        Only ps z (State.portDown p s) ↔ Only ps z s := by
  unfold State.portDown
  simp only [Only.ite, Only.refl, ite_self, Only.doIf, State.onPort_only, State.switchOn_only, h_dict, h_msgs,
    h_nvme, h_pwr, or_true, implies_true]

theorem State.dropReads_grows {z : State} (ns : List Nat) (s : State) (h : Grows z s) :
    Grows z (State.dropReads ns s) :=
  h.trans (.of_eq (((State.dropReads_only (ps := [.acts, .mem, .recov]) ns s (h_acts := by simp) (h_mem := by simp)
    (h_recov := by simp) s).2 (.refl _ _)).msgs (by simp)))

theorem State.wpIdle_grows {z : State} (a : Fin 4) (s : State) (h : Grows z s) : Grows z (State.wpIdle a s) :=
  h.trans (.of_eq (((State.wpIdle_only (ps := [.act a, .rc]) a s (h_act_a := by simp) (h_rc := by simp) s).2
    (.refl _ _)).msgs (by simp)))

theorem State.pscRenew_grows {z : State} (a : Fin 4) (code data : Nat) (s : State) (h : Grows z s) :
    Grows z (State.pscRenew a code data s) :=
  h.trans (.of_eq (((State.pscRenew_only (ps := [.act a]) a code data s (h_act_a := by simp) s).2 (.refl _ _)).msgs
    (by simp)))

theorem State.countA_grows {z : State} (key : Nat) (a : Fin 4) (n : Nat) (s : State) (h : Grows z s) :
    Grows z (State.countA key a n s) :=
  h.trans (.of_eq (((State.countA_only (ps := [.dict]) key a n s (h_dict := by simp) s).2 (.refl _ _)).msgs
    (by simp)))

theorem State.parityEnd_grows {z : State} (opId : BitVec 32) (ok : Bool) (s : State) (h : Grows z s) :
    Grows z (State.parityEnd opId ok s) :=
  h.trans (.of_eq (((State.parityEnd_only (ps := [.plc, .recov, .tt]) opId ok s (h_plc := by simp)
    (h_recov := by simp) (h_tt := by simp) s).2 (.refl _ _)).msgs (by simp)))

theorem State.onCtrl_grows {z : State} (c : Fin 2) (f : Ctrl → Ctrl) (s : State) (h : Grows z s) :
    Grows z (State.onCtrl c f s) :=
  h.trans (.of_eq (((State.onCtrl_only (ps := [.nvme]) c f s (h_nvme := by simp) s).2 (.refl _ _)).msgs (by simp)))

theorem State.activationLost_grows {z : State} (ns : List Nat) (s : State) (h : Grows z s) :
    Grows z (State.activationLost ns s) :=
  h.trans (.of_eq (((State.activationLost_only (ps := [.nvme]) ns s (h_nvme := by simp) s).2 (.refl _ _)).msgs
    (by simp)))

theorem State.activationPump_grows {z : State} (s : State) (h : Grows z s) : Grows z (State.activationPump s) :=
  h.trans (.of_eq (((State.activationPump_only (ps := [.nvme]) s (h_nvme := by simp) s).2 (.refl _ _)).msgs
    (by simp)))

theorem State.activateNext_grows {z : State} (chip : Bool) (s : State) (h : Grows z s) :
    Grows z (State.activateNext chip s) :=
  h.trans (.of_eq (((State.activateNext_only (ps := [.nvme, .sys]) chip s (h_nvme := by simp)
    (h_sys := by simp) s).2 (.refl _ _)).msgs (by simp)))

theorem State.actEvent_grows {z : State} (a : Fin 4) (k off qual : Nat) (s : State) (h : Grows z s) :
    Grows z (State.actEvent a k off qual s) := by
  unfold State.actEvent
  repeat' first
    | with_reducible exact h
    | intro _ _ h
    | with_reducible apply Grows.ite
    | with_reducible apply State.event_grows

theorem State.wpCut_grows {z : State} (a : Fin 4) (bit : Nat) (s : State) (h : Grows z s) :
    Grows z (State.wpCut a bit s) := by
  unfold State.wpCut
  dsimp only
  repeat' split
  all_goals repeat' first
    | with_reducible exact h
    | intro _ _ h
    | with_reducible apply State.actEvent_grows
    | with_reducible apply State.countA_grows
    | with_reducible apply State.onWp_grows
    | with_reducible apply State.pscRenew_grows
    | with_reducible apply State.wpIdle_grows

theorem State.dirtyCheck_grows {z : State} (s : State) (h : Grows z s) : Grows z (State.dirtyCheck s) := by
  unfold State.dirtyCheck
  dsimp only
  repeat' first
    | with_reducible exact h
    | intro _ _ h
    | with_reducible apply Grows.ite
    | with_reducible apply State.event_grows
    | with_reducible apply State.onBuf_grows

theorem State.chunkEnd_undone_grows {z : State} (opId : BitVec 32) (s : State) (h : Grows z s) :
    Grows z (State.chunkEnd opId false s) := by
  unfold State.chunkEnd
  refine State.dirtyCheck_grows _ (State.parityEnd_grows _ _ _ (h.trans (.of_eq ?_)))
  exact ((State.dataEnd_undone_only (ps := [.buf, .plc]) opId s (by simp) (by simp) s).2 (.refl _ _)).msgs (by simp)

theorem State.wpEnd_stopped_grows {z : State} (a : Fin 4) (cause : Nat) (s : State) (h : Grows z s) :
    Grows z (State.wpEnd a (some cause) s) := by
  unfold State.wpEnd
  split
  · exact h
  · exact State.chunkEnd_undone_grows _ _ (State.countA_grows _ _ _ _
      (State.onWp_grows _ _ _ (State.wpIdle_grows _ _ h)))

theorem State.dropWrite_grows {z : State} (opId : BitVec 32) (s : State) (h : Grows z s) :
    Grows z (State.dropWrite opId s) := by
  unfold State.dropWrite
  refine Grows.foldS h fun a t k => ?_
  split
  · exact k
  · split
    · exact State.wpEnd_stopped_grows _ _ _ (State.wpCut_grows _ _ _ k)
    · split
      · exact State.chunkEnd_undone_grows _ _ (State.onWp_grows _ _ _ k)
      · exact k

theorem State.dropWrites_grows {z : State} (ns : List Nat) (s : State) (h : Grows z s) :
    Grows z (State.dropWrites ns s) := by
  unfold State.dropWrites
  dsimp only
  repeat' first
    | with_reducible exact h
    | intro _ _ h
    | with_reducible apply Grows.foldS
    | with_reducible apply Grows.ite
    | with_reducible apply State.dirtyCheck_grows
    | with_reducible apply State.dropWrite_grows
    | with_reducible apply State.onBuf_grows
    | with_reducible apply State.onPlc_grows

theorem State.withdraw_grows {z : State} (c : Fin 2) (p : Cmd → Bool) (s : State) (h : Grows z s) :
    Grows z (State.withdraw c p s) := by
  unfold State.withdraw
  dsimp only
  repeat' first
    | with_reducible exact h
    | intro _ _ h
    | with_reducible apply State.activationLost_grows
    | with_reducible apply State.activationPump_grows
    | with_reducible apply State.count_grows
    | with_reducible apply State.dropReads_grows
    | with_reducible apply State.dropWrites_grows
    | with_reducible apply State.event_grows
    | with_reducible apply State.onNvme_grows

theorem State.withdrawCtrl_grows {z : State} (c : Fin 2) (s : State) (h : Grows z s) :
    Grows z (State.withdrawCtrl c s) := by
  unfold State.withdrawCtrl
  dsimp only
  repeat' first
    | with_reducible exact h
    | intro _ _ h
    | with_reducible apply State.onNvme_grows
    | with_reducible apply State.withdraw_grows

theorem State.resetCtrl_grows {z : State} (c : Fin 2) (s : State) (h : Grows z s) :
    Grows z (State.resetCtrl c s) := by
  unfold State.resetCtrl
  dsimp only
  repeat' first
    | with_reducible exact h
    | intro _ _ h
    | with_reducible apply State.activateNext_grows
    | with_reducible apply State.onCtrl_grows
    | with_reducible apply State.withdrawCtrl_grows

end Sys2Proof.Machine

/-! SUPPORT. What the withdrawal of commands leaves: the other commands, and the controllers but for their fetching
(12 R373, R378). -/

namespace Sys2Proof.Machine

open Sys2Proof

set_option Elab.async false

/-- The controllers are as before, but for whether they fetch. -/
structure KeepsCtrls (s t : State) : Prop where
  count : t.nvme.ctrls.length = s.nvme.ctrls.length
  ctrl : ∀ c, { t.ctrl c with fetchStopped := (s.ctrl c).fetchStopped } = s.ctrl c

theorem KeepsCtrls.of_ctrls {s t : State} (h : t.nvme.ctrls = s.nvme.ctrls) : KeepsCtrls s t :=
  ⟨congrArg _ h, fun c => by rw [show t.ctrl c = s.ctrl c from congrArg (fun l => nth l c.val _) h]⟩

theorem KeepsCtrls.trans {s t u : State} (h : KeepsCtrls s t) (k : KeepsCtrls t u) : KeepsCtrls s u :=
  ⟨k.count.trans h.count, fun c => by
    rw [← h.ctrl c, ← k.ctrl c]⟩

/-- What a controller says of itself, its fetching apart, stays. -/
theorem KeepsCtrls.field {α : Type} {s t : State} (h : KeepsCtrls s t) (f : Ctrl → α)
    (hf : ∀ k b, f { k with fetchStopped := b } = f k) (c : Fin 2) : f (t.ctrl c) = f (s.ctrl c) :=
  (hf (t.ctrl c) _).symm.trans (congrArg f (h.ctrl c))

theorem State.onCtrl_keepsCtrls (c : Fin 2) (g : Ctrl → Bool) (s : State) :
    KeepsCtrls s (s.onCtrl c fun k => { k with fetchStopped := g k }) := by
  refine ⟨setNth_length _ _ _, fun d => ?_⟩
  by_cases hd : d = c
  · subst hd
    by_cases hexists : d.val < s.nvme.ctrls.length
    · rw [State.ctrl_onCtrl_same hexists]
    · have hsame : (s.onCtrl d fun k => { k with fetchStopped := g k }).ctrl d = s.ctrl d := by
        simp [State.ctrl, State.onCtrl, State.onNvme, nth, getElem?_setNth, hexists]
      rw [hsame]
  · rw [State.ctrl_onCtrl_other hd]

theorem State.resumeFetch_keepsCtrls (s : State) : KeepsCtrls s s.resumeFetch :=
  foldS_keeps (KeepsCtrls s) _ (fun c _ ht => ht.trans (State.onCtrl_keepsCtrls c (fun k => decide (k.shst ≠ 0)) _)) _
    (.of_ctrls rfl)

theorem State.activationLost_keeps (ns : List Nat) (s : State) :
    (s.activationLost ns).nvme.cmds = s.nvme.cmds ∧ (s.activationLost ns).nvme.ports = s.nvme.ports ∧
      KeepsCtrls s (s.activationLost ns) := by
  rw [State.activationLost]
  split
  · split
    · have hnvme := State.resumeFetch_nvme (s.onNvme fun v => { v with activation := none })
      exact ⟨(congrArg Nvme.cmds hnvme).trans rfl, (congrArg Nvme.ports hnvme).trans rfl,
        KeepsCtrls.trans (t := s.onNvme fun v => { v with activation := none }) (.of_ctrls rfl)
          (State.resumeFetch_keepsCtrls _)⟩
    · exact ⟨rfl, rfl, .of_ctrls rfl⟩
  · exact ⟨rfl, rfl, .of_ctrls rfl⟩

theorem State.activationPump_keeps (s : State) :
    s.activationPump.nvme.cmds = s.nvme.cmds ∧ s.activationPump.nvme.ports = s.nvme.ports ∧
      s.activationPump.nvme.ctrls = s.nvme.ctrls := by
  rw [State.activationPump]
  (repeat' split) <;> exact ⟨rfl, rfl, rfl⟩

/-- The commands withdrawn are gone, and the others, the ports and the controllers stay. -/
theorem State.withdraw_keeps (c : Fin 2) (p : Cmd → Bool) (s : State) :
    (s.withdraw c p).nvme.cmds = s.nvme.cmds.filter (fun k => !p k) ∧
      (s.withdraw c p).nvme.ports = s.nvme.ports ∧ KeepsCtrls s (s.withdraw c p) := by
  generalize hns : ((s.nvme.cmds.filter p).map fun k => k.n) = ns
  generalize hu : s.onNvme (fun v => { v with cmds := v.cmds.filter fun k => !p k }) = u
  have hcmds : u.nvme.cmds = s.nvme.cmds.filter fun k => !p k := by rw [← hu]; rfl
  have hctrls : u.nvme.ctrls = s.nvme.ctrls := by rw [← hu]; rfl
  have hports : u.nvme.ports = s.nvme.ports := by rw [← hu]; rfl
  have hdropped : ((u.dropReads ns).dropWrites ns).nvme = u.nvme :=
    ((State.dropWrites_only (ps := [.acts, .buf, .dict, .mem, .msgs, .plc, .rc, .recov, .tt]) ns _ (by simp) (by simp)
      (by simp) (by simp) (by simp) (by simp) (by simp) (by simp) u).2 ((State.dropReads_only ns u (by simp) (by simp)
      (by simp) u).2 (.refl _ _))).nvme (by simp)
  have hw : s.withdraw c p = ((((((u.dropReads ns).dropWrites ns).activationLost ns).activationPump).count 0x103002
      ns.length).event (epHost c) 49 ns.length) := by rw [← hu, ← hns]; rfl
  rw [hw]
  generalize (u.dropReads ns).dropWrites ns = v at *
  obtain ⟨hlost, hlostPorts, hkeeps⟩ := State.activationLost_keeps ns v
  obtain ⟨hpump, hpumpPorts, hpumped⟩ := State.activationPump_keeps (v.activationLost ns)
  refine ⟨(hpump.trans hlost).trans ((congrArg Nvme.cmds hdropped).trans hcmds),
    (hpumpPorts.trans hlostPorts).trans ((congrArg Nvme.ports hdropped).trans hports), ?_⟩
  exact ((KeepsCtrls.of_ctrls ((congrArg Nvme.ctrls hdropped).trans hctrls)).trans hkeeps).trans (.of_ctrls hpumped)

/-- The withdrawal is told with event 49 and the number of commands. -/
theorem State.withdraw_sent (c : Fin 2) (p : Cmd → Bool) (s : State) :
    Sent (eventMsg (epHost c) 49 (s.nvme.cmds.countP p)) s (s.withdraw c p) := by
  generalize hns : ((s.nvme.cmds.filter p).map fun k => k.n) = ns
  have hlength : ns.length = s.nvme.cmds.countP p := by rw [← hns, List.length_map, List.countP_eq_length_filter]
  generalize hu : ((((s.onNvme (fun v => { v with cmds := v.cmds.filter fun k => !p k })).dropReads ns).dropWrites
    ns).activationLost ns).activationPump = u
  have hgrows : Grows s u := hu ▸ State.activationPump_grows _
    (State.activationLost_grows _ _ (State.dropWrites_grows _ _
    (State.dropReads_grows _ _ (.of_eq rfl))))
  have hw : s.withdraw c p = (u.count 0x103002 ns.length).send (eventMsg (epHost c) 49 ns.length) := by
    rw [State.withdraw, hns, hu]
    exact State.event_eq _ _ _ _
  rw [hw, ← hlength]
  exact Sent.after (hgrows.trans (.of_eq rfl)) (Sent.send _ _)

end Sys2Proof.Machine

/-! PROOFS. The admin queue's commands on queues, data structures, aborts and asynchronous events (12 R368 to R373,
R386). -/

namespace Sys2Proof.Machine

open Sys2Proof

set_option Elab.async false

/-! What a fetch leaves of the queues. -/

theorem State.sq?_isSome (c : Fin 2) (q : Nat) (u : State) :
    (u.sq? c q).isSome = (u.ctrl c).sqs.any fun x => x.id == q := List.isSome_find?

section
variable {h : NvmeHdr} {admin : Bool} {s : State} (hok : s.fetchOk h admin = true) (opcode : Nat) (r : IoRange)
include hok

theorem State.fetch_enabled : ((s.fetch h admin opcode r).ctrl h.ctrl).en = true := by
  rw [State.fetch_ctrl_same hok]
  exact State.fetchOk_enabled hok

theorem State.fetch_cqs (c : Fin 2) : ((s.fetch h admin opcode r).ctrl c).cqs = (s.ctrl c).cqs := by
  by_cases hc : c = h.ctrl
  · rw [hc, State.fetch_ctrl_same hok]
  · rw [State.fetch_ctrl_other h admin opcode r s hc]

theorem State.fetch_cq? (c : Fin 2) (q : Nat) : (s.fetch h admin opcode r).cq? c q = s.cq? c q := by
  rw [State.cq?, State.fetch_cqs hok, State.cq?]

/-- The submission queues keep their identifiers and their completion queues. -/
theorem State.fetch_sqs_any (c : Fin 2) (p : Nat → Nat → Bool) :
    ((s.fetch h admin opcode r).ctrl c).sqs.any (fun q => p q.id q.cqid) =
        (s.ctrl c).sqs.any fun q => p q.id q.cqid := by
  by_cases hc : c = h.ctrl
  · rw [hc, State.fetch_ctrl_same hok, List.any_map]
    congr 1
    funext q
    by_cases hq : q.id = h.sqid <;> simp [hq]
  · rw [State.fetch_ctrl_other h admin opcode r s hc]

theorem State.fetch_sq?_isSome (c : Fin 2) (q : Nat) :
    ((s.fetch h admin opcode r).sq? c q).isSome = (s.sq? c q).isSome := by
  rw [State.sq?_isSome, State.sq?_isSome, State.fetch_sqs_any hok opcode r c fun id _ => id == q]

theorem State.fetch_queuesGranted (c : Fin 2) (b : Bool) :
    (s.fetch h admin opcode r).queuesGranted c b = s.queuesGranted c b := by
  rw [State.queuesGranted, State.ctrlFeat, State.fetch_feats hok, State.queuesGranted, State.ctrlFeat]

end

/-- The fetched command's controller exists. -/
theorem State.fetch_exists {h : NvmeHdr} {admin : Bool} {s : State} (hok : s.fetchOk h admin = true) (opcode : Nat)
    (r : IoRange) : h.ctrl.val < (s.fetch h admin opcode r).nvme.ctrls.length :=
  State.ctrl_exists (State.fetch_enabled hok opcode r)

theorem State.isNone_sq? {u : State} {c : Fin 2} {q : Nat} (h : (u.sq? c q).isSome = false) : u.sq? c q = none := by
  simpa using h

/-- A queue added behind others of other identifiers is found under its own. -/
theorem find?_appended {α : Type} {l : List α} {p : α → Bool} {x : α} (hl : l.find? p = none) (hx : p x = true) :
    (l ++ [x]).find? p = some x := by
  simp [List.find?_append, hl, hx]

/-- Queues filtered by their identifier are not found under it. -/
theorem find?_filtered {α : Type} (l : List α) (id : α → Nat) (q : Nat) :
    (l.filter fun x => id x != q).find? (fun x => id x == q) = none := by
  rw [List.find?_eq_none]
  intro x hx
  have := (List.mem_filter.1 hx).2
  simp_all

section
variable {h : NvmeHdr} {s : State} (hfetch : FetchesAdmin h s)
include hfetch

/-! Queues. -/

theorem completionQueue_created {q z v : Nat} (h1 : 1 ≤ q) (hq : q ≤ s.queuesGranted h.ctrl true)
    (hnew : s.cq? h.ctrl q = none) (hz : 2 ≤ z) (hz' : z ≤ 4096) (hv : v ≤ 64) :
    Completes (.createIoCq h q z v true) s fun t => Ready (s.nvme.fetched + 1) nvOk t ∧
      (t.ctrl h.ctrl).cqs = (s.ctrl h.ctrl).cqs ++ [{ id := q, size := z, vector := v, tail := 0, head := 0 }] ∧
      (∀ c, c ≠ h.ctrl → t.ctrl c = s.ctrl c) ∧ t.acts = s.acts ∧ t.fab = s.fab := by
  have hframe := State.fetch_frame h true 0x05 { nsid := 0, lba := 0, nlb := 0 } s
  have hready := fun (t : State) ht => hfetch.2.ready (t := t) (h := h) (admin := true) (opcode := 0x05)
    (r := { nsid := 0, lba := 0, nlb := 0 }) ht
  have hcqs := State.fetch_cqs hfetch.1 0x05 { nsid := 0, lba := 0, nlb := 0 } h.ctrl
  have hother := fun c hc => State.fetch_ctrl_other (c := c) h true 0x05 { nsid := 0, lba := 0, nlb := 0 } s hc
  have hexists := State.fetch_exists hfetch.1 0x05 { nsid := 0, lba := 0, nlb := 0 }
  have hexec : exec (.createIoCq h q z v true) s
      = .next ((s.fetch h true 0x05 { nsid := 0, lba := 0, nlb := 0 }).onCtrl h.ctrl fun c => { c with
          cqs := c.cqs ++ [{ id := q, size := z, vector := v, tail := 0, head := 0 }] }) := by
    have hsize : sizeOk z = true := by simp [sizeOk, hz, hz']
    change execCreateIoCq .. = _
    rw [execCreateIoCq, State.admin_fetches hfetch.1, State.checked_passed]
    rw [State.fetch_queuesGranted hfetch.1, State.fetch_cq? hfetch.1, hnew, hsize]
    simp [Nat.not_lt.2 hq, Nat.not_lt.2 hv, Nat.ne_of_gt h1]
  generalize s.fetch h true 0x05 { nsid := 0, lba := 0, nlb := 0 } = u at *
  refine ⟨_, hexec, hready _ rfl, ?_, fun c hc => ?_, hframe.allActs (by simp), hframe.fab (by simp)⟩
  · rw [State.ctrl_onCtrl_same hexists, hcqs]
  · rw [State.ctrl_onCtrl_other hc, hother c hc]

theorem submissionQueue_created {q z c p : Nat} (h1 : 1 ≤ q) (hq : q ≤ s.queuesGranted h.ctrl false)
    (hnew : s.sq? h.ctrl q = none) (hz : 2 ≤ z) (hz' : z ≤ 4096) (hc : 1 ≤ c) (hcq : (s.cq? h.ctrl c).isSome = true) :
    Completes (.createIoSq h q z c p true) s fun t => Ready (s.nvme.fetched + 1) nvOk t ∧
      (t.sq? h.ctrl q) = some { id := q, size := z, cqid := c, prio := BitVec.ofNat 2 p, tail := 0, head := 0 } ∧
      (t.ctrl h.ctrl).cqs = (s.ctrl h.ctrl).cqs ∧ (∀ c, c ≠ h.ctrl → t.ctrl c = s.ctrl c) ∧ t.acts = s.acts ∧
      t.fab = s.fab := by
  have hframe := State.fetch_frame h true 0x01 { nsid := 0, lba := 0, nlb := 0 } s
  have hready := fun (t : State) ht => hfetch.2.ready (t := t) (h := h) (admin := true) (opcode := 0x01)
    (r := { nsid := 0, lba := 0, nlb := 0 }) ht
  have hcqs := State.fetch_cqs hfetch.1 0x01 { nsid := 0, lba := 0, nlb := 0 } h.ctrl
  have hother := fun c hc => State.fetch_ctrl_other (c := c) h true 0x01 { nsid := 0, lba := 0, nlb := 0 } s hc
  have hexists := State.fetch_exists hfetch.1 0x01 { nsid := 0, lba := 0, nlb := 0 }
  have hnone : (s.fetch h true 0x01 { nsid := 0, lba := 0, nlb := 0 }).sq? h.ctrl q = none :=
    State.isNone_sq? (by rw [State.fetch_sq?_isSome hfetch.1, hnew]; rfl)
  have hexec : exec (.createIoSq h q z c p true) s
      = .next ((s.fetch h true 0x01 { nsid := 0, lba := 0, nlb := 0 }).onCtrl h.ctrl fun k => { k with
          sqs := k.sqs ++ [{ id := q, size := z, cqid := c, prio := BitVec.ofNat 2 p, tail := 0, head := 0 }] }) := by
    have hsize : sizeOk z = true := by simp [sizeOk, hz, hz']
    have hsome : (s.cq? h.ctrl c).isNone = false := by simpa using hcq
    change execCreateIoSq .. = _
    rw [execCreateIoSq, State.admin_fetches hfetch.1, State.checked_passed]
    rw [State.fetch_queuesGranted hfetch.1, State.fetch_cq? hfetch.1, hnone, hsize, hsome]
    simp [Nat.not_lt.2 hq, Nat.ne_of_gt h1, Nat.ne_of_gt hc]
  generalize s.fetch h true 0x01 { nsid := 0, lba := 0, nlb := 0 } = u at *
  refine ⟨_, hexec, hready _ rfl, ?_, ?_, fun c hc => ?_, hframe.allActs (by simp), hframe.fab (by simp)⟩
  · rw [State.sq?, State.ctrl_onCtrl_same hexists]
    exact find?_appended hnone (by simp)
  · rw [State.ctrl_onCtrl_same hexists, hcqs]
  · rw [State.ctrl_onCtrl_other hc, hother c hc]

theorem queueSize_refused {q z c p : Nat} (h1 : 1 ≤ q) (hq : q ≤ s.queuesGranted h.ctrl false)
    (hnew : s.sq? h.ctrl q = none) (hz : z < 2 ∨ 4096 < z) :
    Completes (.createIoSq h q z c p true) s fun t => Ready (s.nvme.fetched + 1) (nvDnr .invalidQueueSize) t ∧
      t.sq? h.ctrl q = none := by
  have hnone : (s.fetch h true 0x01 { nsid := 0, lba := 0, nlb := 0 }).sq? h.ctrl q = none :=
    State.isNone_sq? (by rw [State.fetch_sq?_isSome hfetch.1, hnew]; rfl)
  have hexec : exec (.createIoSq h q z c p true) s
      = .next ((s.fetch h true 0x01 { nsid := 0, lba := 0, nlb := 0 }).cmdReady (s.nvme.fetched + 1)
          (nvDnr .invalidQueueSize)) := by
    have hsize : sizeOk z = false := by rcases hz with hz | hz <;> simp [sizeOk] <;> omega
    change execCreateIoSq .. = _
    rw [execCreateIoSq, State.admin_fetches hfetch.1, State.checked_refused (st := nvDnr .invalidQueueSize)]
    rw [State.fetch_queuesGranted hfetch.1, hnone, hsize]
    simp [Nat.not_lt.2 hq, Nat.ne_of_gt h1]
  exact ⟨_, hexec, hfetch.2.refused rfl _, hnone⟩

theorem completionQueue_deleted {q : Nat} (h1 : 1 ≤ q) (hthere : (s.cq? h.ctrl q).isSome = true)
    (hunused : (s.ctrl h.ctrl).sqs.all (fun x => x.cqid != q) = true) :
    Completes (.deleteIoCq h q) s fun t => Ready (s.nvme.fetched + 1) nvOk t ∧ t.cq? h.ctrl q = none ∧
      (∀ c, c ≠ h.ctrl → t.ctrl c = s.ctrl c) ∧ t.acts = s.acts ∧ t.fab = s.fab := by
  have hframe := State.fetch_frame h true 0x04 { nsid := 0, lba := 0, nlb := 0 } s
  have hready := fun (t : State) ht => hfetch.2.ready (t := t) (h := h) (admin := true) (opcode := 0x04)
    (r := { nsid := 0, lba := 0, nlb := 0 }) ht
  have hother := fun c hc => State.fetch_ctrl_other (c := c) h true 0x04 { nsid := 0, lba := 0, nlb := 0 } s hc
  have hexists := State.fetch_exists hfetch.1 0x04 { nsid := 0, lba := 0, nlb := 0 }
  have huse : ((s.ctrl h.ctrl).sqs.any fun x => x.cqid == q) = false := by
    rw [List.any_eq_false]
    intro x hx
    have := List.all_eq_true.1 hunused x hx
    simp_all
  have hexec : exec (.deleteIoCq h q) s
      = .next ((s.fetch h true 0x04 { nsid := 0, lba := 0, nlb := 0 }).onCtrl h.ctrl fun c => { c with
          cqs := c.cqs.filter fun x => x.id != q }) := by
    have hsome : (s.cq? h.ctrl q).isNone = false := by simpa using hthere
    change execDeleteIoCq .. = _
    rw [execDeleteIoCq, State.admin_fetches hfetch.1, State.checked_passed]
    rw [State.fetch_cq? hfetch.1, hsome, State.fetch_sqs_any hfetch.1 _ _ _ fun _ c => c == q, huse]
    simp [Nat.ne_of_gt h1]
  generalize s.fetch h true 0x04 { nsid := 0, lba := 0, nlb := 0 } = u at *
  refine ⟨_, hexec, hready _ rfl, ?_, fun c hc => ?_, hframe.allActs (by simp), hframe.fab (by simp)⟩
  · rw [State.cq?, State.ctrl_onCtrl_same hexists]
    exact find?_filtered _ _ _
  · rw [State.ctrl_onCtrl_other hc, hother c hc]

theorem completionQueue_inUse {q : Nat} (h1 : 1 ≤ q) (hthere : (s.cq? h.ctrl q).isSome = true)
    (hused : (s.ctrl h.ctrl).sqs.any (fun x => x.cqid == q) = true) :
    Completes (.deleteIoCq h q) s fun t => Ready (s.nvme.fetched + 1) (nvDnr .invalidQueueDeletion) t ∧
      (t.ctrl h.ctrl).cqs = (s.ctrl h.ctrl).cqs := by
  have hexec : exec (.deleteIoCq h q) s
      = .next ((s.fetch h true 0x04 { nsid := 0, lba := 0, nlb := 0 }).cmdReady (s.nvme.fetched + 1)
          (nvDnr .invalidQueueDeletion)) := by
    have hsome : (s.cq? h.ctrl q).isNone = false := by simpa using hthere
    change execDeleteIoCq .. = _
    rw [execDeleteIoCq, State.admin_fetches hfetch.1, State.checked_refused (st := nvDnr .invalidQueueDeletion)]
    rw [State.fetch_cq? hfetch.1, hsome, State.fetch_sqs_any hfetch.1 _ _ _ fun _ c => c == q, hused]
    simp [Nat.ne_of_gt h1]
  exact ⟨_, hexec, hfetch.2.refused rfl _, State.fetch_cqs hfetch.1 _ _ _⟩

theorem submissionQueue_deleted {q : Nat} (h1 : 1 ≤ q) (hthere : (s.sq? h.ctrl q).isSome = true) :
    Completes (.deleteIoSq h q) s fun t => t.sq? h.ctrl q = none ∧
      (∀ k ∈ t.nvme.cmds, ¬ (k.ctrl = h.ctrl ∧ k.sqid = q)) ∧
      Sent (eventMsg (epHost h.ctrl) 49 (s.nvme.cmds.countP fun k => decide
        (k.ctrl = h.ctrl) && k.sqid == q)) s t := by
  have hframe := State.fetch_frame h true 0x00 { nsid := 0, lba := 0, nlb := 0 } s
  have hexists := State.fetch_exists hfetch.1 0x00 { nsid := 0, lba := 0, nlb := 0 }
  have hcmds := State.fetch_cmds h true 0x00 { nsid := 0, lba := 0, nlb := 0 } s
  have hqueue : h.sqid = 0 := by simpa using (State.fetchOk_queue hfetch.1).symm
  have hexec : exec (.deleteIoSq h q) s
      = .next (((s.fetch h true 0x00 { nsid := 0, lba := 0, nlb := 0 }).withdraw h.ctrl fun k =>
          decide (k.ctrl = h.ctrl) && k.sqid == q).onCtrl h.ctrl fun c => { c with
            sqs := c.sqs.filter fun x => x.id != q }) := by
    have hsome : ((s.fetch h true 0x00 { nsid := 0, lba := 0, nlb := 0 }).sq? h.ctrl q).isNone = false := by
      simpa using (State.fetch_sq?_isSome hfetch.1 0x00 { nsid := 0, lba := 0, nlb := 0 } h.ctrl q).trans hthere
    change execDeleteIoSq .. = _
    rw [execDeleteIoSq, State.admin_fetches hfetch.1, State.checked_passed]
    rw [hsome]
    simp [Nat.ne_of_gt h1]
  have hcount : (s.nvme.cmds ++ [s.entered h true 0x00 { nsid := 0, lba := 0, nlb := 0 }]).countP
      (fun k => decide (k.ctrl = h.ctrl) && k.sqid == q)
      = s.nvme.cmds.countP fun k => decide (k.ctrl = h.ctrl) && k.sqid == q := by
    simp [State.entered, hqueue, Nat.ne_of_lt h1]
  generalize s.fetch h true 0x00 { nsid := 0, lba := 0, nlb := 0 } = u at *
  obtain ⟨hleft, -, hkeeps⟩ := State.withdraw_keeps h.ctrl (fun k => decide (k.ctrl = h.ctrl) && k.sqid == q) u
  have hsent := State.withdraw_sent h.ctrl (fun k => decide (k.ctrl = h.ctrl) && k.sqid == q) u
  rw [hcmds, hcount] at hsent
  generalize u.withdraw h.ctrl (fun k => decide (k.ctrl = h.ctrl) && k.sqid == q) = w at *
  refine ⟨_, hexec, ?_, fun k hk hboth => ?_, ?_⟩
  · rw [State.sq?, State.ctrl_onCtrl_same (by rw [hkeeps.count]; exact hexists)]
    exact find?_filtered _ _ _
  · have hin : k ∈ w.nvme.cmds := hk
    rw [hleft] at hin
    have := (List.mem_filter.1 hin).2
    simp [hboth] at this
  · exact (Sent.after (.of_eq (hframe.msgs (by simp))) hsent).grows (.of_eq rfl)

/-! Data structures. -/

theorem namespace_identified {x : Ns} (hx : s.ns? 1 = some x) (ha : x.attached.getLsbD h.ctrl.val = true) :
    Completes (.nvmeIdentify h 0 1) s fun t => Ready (s.nvme.fetched + 1) nvOk t ∧
      t.nvme.data = s.nvme.data ++ [{ ctrl := h.ctrl, cid := h.cid, opcode := 6, lid := 0, bytes := idNs x }] ∧
      t.acts = s.acts ∧ t.fab = s.fab := by
  have hframe := State.fetch_frame h true 0x06 { nsid := 1, lba := 0, nlb := 0 } s
  have hfound := hfetch.2.fetched (t := s.fetch h true 0x06 { nsid := 1, lba := 0, nlb := 0 }) rfl
  have hcmds := State.fetch_cmds h true 0x06 { nsid := 1, lba := 0, nlb := 0 } s
  have hbytes : (s.fetch h true 0x06 { nsid := 1, lba := 0, nlb := 0 }).identify h.ctrl (0 : BitVec 8).toNat 1
      = .ok (idNs x) := by
    have hns : (s.fetch h true 0x06 { nsid := 1, lba := 0, nlb := 0 }).ns? 1 = some x := hx
    generalize s.fetch h true 0x06 { nsid := 1, lba := 0, nlb := 0 } = u at hns
    have hrange : ∀ n : Nat, 1 ≤ n → (decide (n < 1) && decide (1 ≠ 0xFFFFFFFF)) = false := by
      intro n hn
      rw [decide_eq_false (by omega), Bool.false_and]
    show (if 1 = 0 || (decide ((if u.ident.tier = .a then 64 else 1) < 1) && decide (1 ≠ 0xFFFFFFFF)) then
      .error (nvDnr .invalidNs) else match u.ns? 1 with
        | some x => if x.attached.getLsbD h.ctrl.val then .ok (idNs x) else .ok (zeros 4096)
        | none => _ : Except NvStatus (List Byte)) = .ok (idNs x)
    rw [hrange _ (by split <;> omega), hns]
    exact if_pos ha
  have hexec : exec (.nvmeIdentify h 0 1) s
      = .next ((s.fetch h true 0x06 { nsid := 1, lba := 0, nlb := 0 }).sendData (s.nvme.fetched + 1) 0 (idNs x)) := by
    change execNvmeIdentify .. = _
    rw [execNvmeIdentify, State.admin_fetches hfetch.1, hbytes]
    rfl
  rw [State.sendData_eq hfound] at hexec
  refine ⟨_, hexec, hfetch.2.refused (t := State.onNvme _ _) rfl _, rfl, ?_⟩
  have hall := (State.cmdReady_only (l := [.nvme]) (s.nvme.fetched + 1) nvOk _ (by simp) s).2
    ((State.onNvme_only (by simp)
    (fun v : Nvme => { v with data := v.data ++ [{ ctrl := h.ctrl, cid := h.cid, opcode := 6, lid := 0, bytes := idNs x }]
      }) _ _).2 hframe)
  exact ⟨hall.allActs (by simp), hall.fab (by simp)⟩

theorem log_unsupported {nsid off len : Nat} {rae : Bool} :
    Completes (.getLogPage h 0x06 nsid off len rae false) s fun t =>
      Ready (s.nvme.fetched + 1) (nvDnr .invalidLog) t ∧ t.nvme.data = s.nvme.data ∧ t.acts = s.acts ∧
        t.fab = s.fab := by
  have hexec : exec (.getLogPage h 0x06 nsid off len rae false) s
      = .next ((s.fetch h true 0x02 { nsid := nsid, lba := 0, nlb := 0 }).cmdReady (s.nvme.fetched + 1)
          (nvDnr .invalidLog)) := by
    have hlist : (s.fetch h true 0x02 { nsid := nsid, lba := 0, nlb := 0 }).logIds.contains (6 : BitVec 8).toNat
        = false := by
      rw [State.logIds]
      (repeat' split) <;> rfl
    change execGetLogPage .. = _
    rw [execGetLogPage, State.admin_fetches hfetch.1]
    dsimp only
    rw [Bool.and_false, if_neg (by simp), State.checked_refused (st := nvDnr .invalidLog)]
    rw [hlist]
    rfl
  have hframe := (State.cmdReady_only (s.nvme.fetched + 1) (nvDnr .invalidLog) _ (by simp) s).2
    (State.fetch_frame h true 0x02 { nsid := nsid, lba := 0, nlb := 0 } s)
  exact ⟨_, hexec, hfetch.2.refused rfl _, rfl, hframe.allActs (by simp), hframe.fab (by simp)⟩

theorem firmwareLog_read {nsid len : Nat} {rae : Bool} :
    Completes (.getLogPage h 0x03 nsid 0 len rae false) s fun t => Ready (s.nvme.fetched + 1) nvOk t ∧
      (∃ d, t.nvme.data = s.nvme.data ++ [d] ∧ d.cid = h.cid ∧ d.lid = 3 ∧ d.bytes.length ≤ len) ∧ t.acts = s.acts ∧
      t.fab = s.fab := by
  have hframe := State.fetch_frame h true 0x02 { nsid := nsid, lba := 0, nlb := 0 } s
  have hfound := hfetch.2.fetched (t := s.fetch h true 0x02 { nsid := nsid, lba := 0, nlb := 0 }) rfl
  have hlist : (s.fetch h true 0x02 { nsid := nsid, lba := 0, nlb := 0 }).logIds.contains (3 : BitVec 8).toNat
      = true := by simp [State.logIds]
  have hexec : exec (.getLogPage h 0x03 nsid 0 len rae false) s
      = .next ((s.fetch h true 0x02 { nsid := nsid, lba := 0, nlb := 0 }).sendData (s.nvme.fetched + 1) 3
          (((s.fetch h true 0x02 { nsid := nsid, lba := 0, nlb := 0 }).logBytes h.ctrl 3).take len)) := by
    change execGetLogPage .. = _
    rw [execGetLogPage, State.admin_fetches hfetch.1]
    dsimp only
    rw [Bool.and_false, if_neg (by simp), State.checked_passed]
    · rfl
    · rw [hlist]
      simp
  rw [State.sendData_eq hfound] at hexec
  refine ⟨_, hexec, hfetch.2.refused (t := State.onNvme _ _) rfl _, ⟨_, rfl, rfl, rfl, List.length_take_le _ _⟩, ?_⟩
  have hall := (State.cmdReady_only (l := [.nvme]) (s.nvme.fetched + 1) nvOk _ (by simp) s).2
    ((State.onNvme_only (by simp)
    (fun v : Nvme => { v with data := v.data ++ [{ ctrl := h.ctrl, cid := h.cid, opcode := 2, lid := 3, bytes :=
      ((s.fetch h true 0x02 { nsid := nsid, lba := 0, nlb := 0 }).logBytes h.ctrl 3).take len }] }) _ _).2 hframe)
  exact ⟨hall.allActs (by simp), hall.fab (by simp)⟩

/-! Aborts and asynchronous events. -/

omit hfetch in
/-- The command just fetched is not among those outstanding beside it. -/
theorem State.fetch_outstanding (opcode : Nat) (r : IoRange) (c : Fin 2) (code : Nat) :
    (s.fetch h true opcode r).outstanding c code (s.nvme.fetched + 1) = s.outstanding c code
        (s.nvme.fetched + 1) := by
  rw [State.outstanding, State.fetch_cmds, State.outstanding]
  simp [State.entered]

theorem abort_answered {q i : Nat} (hfew : s.outstanding h.ctrl 8 (s.nvme.fetched + 1) < 4) :
    Completes (.abort h q i) s fun t => Ready (s.nvme.fetched + 1) nvOk t ∧
      ((t.cmd? (s.nvme.fetched + 1)).map fun k => k.dw0) = some 1 ∧ (∀ k ∈ s.nvme.cmds, k ∈ t.nvme.cmds) ∧
      t.acts = s.acts ∧ t.fab = s.fab := by
  have hexec : exec (.abort h q i) s
      = .next ((s.fetch h true 0x08 { nsid := 0, lba := 0, nlb := 0 }).readyDw0 (s.nvme.fetched + 1) 1) := by
    change execAbort h q i s = _
    rw [execAbort, State.admin_fetches hfetch.1, State.checked_passed]
    rw [State.fetch_outstanding, decide_eq_false (by omega)]
    rfl
  obtain ⟨hready, hdw0⟩ := hfetch.2.readyDw0 (t := s.fetch h true 0x08 { nsid := 0, lba := 0, nlb := 0 }) rfl 1
  have hall := (State.readyDw0_only (s.nvme.fetched + 1) 1 _ (by simp) s).2
    (State.fetch_frame h true 0x08 { nsid := 0, lba := 0, nlb := 0 } s)
  refine ⟨_, hexec, hready, hdw0, fun k hk => ?_, hall.allActs (by simp), hall.fab (by simp)⟩
  exact State.mem_onCmd (State.mem_onCmd (by rw [State.fetch_cmds]; simp [hk]) (hfetch.2.ne hk)) (hfetch.2.ne hk)

theorem abort_beyondLimit {q i : Nat} (hmany : 4 ≤ s.outstanding h.ctrl 8 (s.nvme.fetched + 1)) :
    Completes (.abort h q i) s fun t => Ready (s.nvme.fetched + 1) (nvDnr .abortLimit) t ∧
      ∀ k ∈ s.nvme.cmds, k ∈ t.nvme.cmds := by
  have hexec : exec (.abort h q i) s
      = .next ((s.fetch h true 0x08 { nsid := 0, lba := 0, nlb := 0 }).cmdReady (s.nvme.fetched + 1)
          (nvDnr .abortLimit)) := by
    change execAbort h q i s = _
    rw [execAbort, State.admin_fetches hfetch.1, State.checked_refused (st := nvDnr .abortLimit)]
    rw [State.fetch_outstanding, decide_eq_true hmany]
    rfl
  refine ⟨_, hexec, hfetch.2.refused rfl _, fun k hk => ?_⟩
  exact State.mem_onCmd (by rw [State.fetch_cmds]; simp [hk]) (hfetch.2.ne hk)

/-- What a request for an asynchronous event within the limit does. -/
theorem asyncEvent_requested (hfew : s.outstanding h.ctrl 12 (s.nvme.fetched + 1) < 4) :
    exec (.asyncEventRequest h) s
      = .next (match s.nvme.aens.find? fun e => decide (e.ctrl = h.ctrl) with
        | some e => ((s.fetch h true 0x0C { nsid := 0, lba := 0, nlb := 0 }).onNvme fun v => { v with
            aens := dropFirst (fun x => decide (x.ctrl = h.ctrl)) v.aens }).readyDw0 (s.nvme.fetched + 1)
              (aenDw e.type.toNat e.info.toNat)
        | none => (s.fetch h true 0x0C { nsid := 0, lba := 0, nlb := 0 }).onCmd (s.nvme.fetched + 1) fun k => { k with
            need := .aer }) := by
  change execAsyncEventRequest .. = _
  rw [execAsyncEventRequest, State.admin_fetches hfetch.1, State.checked_passed]
  · rfl
  · rw [State.fetch_outstanding, decide_eq_false (by omega)]
    rfl

theorem asyncEvent_waits (hfew : s.outstanding h.ctrl 12 (s.nvme.fetched + 1) < 4) (hnone : s.nvme.aens = []) :
    Completes (.asyncEventRequest h) s fun t =>
      ((t.cmd? (s.nvme.fetched + 1)).map fun k => k.need) = some .aer ∧ t.acts = s.acts ∧ t.fab = s.fab := by
  have hexec := asyncEvent_requested hfetch hfew
  rw [hnone, List.find?_nil] at hexec
  have hall := (State.onCmd_only (s.nvme.fetched + 1) (fun k => { k with need := .aer }) _ (by simp) s).2
    (State.fetch_frame h true 0x0C { nsid := 0, lba := 0, nlb := 0 } s)
  refine ⟨_, hexec, ?_, hall.allActs (by simp), hall.fab (by simp)⟩
  have haer := State.cmd?_onCmd (s.nvme.fetched + 1) (f := fun k : Cmd => { k with need := .aer }) (fun _ => rfl)
    (s.fetch h true 0x0C { nsid := 0, lba := 0, nlb := 0 })
  rw [hfetch.2.fetched rfl] at haer
  exact (congrArg _ haer).trans rfl

theorem asyncEvent_told {e : Aen} (hfew : s.outstanding h.ctrl 12 (s.nvme.fetched + 1) < 4)
    (hone : s.nvme.aens = [e]) (he : e.ctrl = h.ctrl) :
    Completes (.asyncEventRequest h) s fun t => Ready (s.nvme.fetched + 1) nvOk t ∧ t.nvme.aens = [] ∧
      t.acts = s.acts ∧ t.fab = s.fab := by
  have hexec := asyncEvent_requested hfetch hfew
  rw [hone, List.find?_cons_of_pos (by simpa using he)] at hexec
  have hall := (State.readyDw0_only (l := [.nvme]) (s.nvme.fetched + 1) (aenDw e.type.toNat e.info.toNat) _
    (by simp) s).2
    ((State.onNvme_only (by simp) (fun v : Nvme => { v with aens := dropFirst (fun x => decide (x.ctrl = h.ctrl)) v.aens })
      _ _).2 (State.fetch_frame h true 0x0C { nsid := 0, lba := 0, nlb := 0 } s))
  refine ⟨_, hexec, (hfetch.2.readyDw0 (t := State.onNvme _ _) rfl _).1, ?_, hall.allActs (by simp),
    hall.fab (by simp)⟩
  have haens : (s.fetch h true 0x0C { nsid := 0, lba := 0, nlb := 0 }).nvme.aens = [e] := hone
  show dropFirst (fun x : Aen => decide (x.ctrl = h.ctrl)) (s.fetch h true 0x0C { nsid := 0, lba := 0, nlb := 0 }).nvme.aens
    = []
  rw [haens]
  simp [dropFirst, he]

/-! Other opcodes. -/

theorem adminOpcode_unsupported {op : BitVec 8} :
    Completes (.unsupportedCommand h op) s fun t => Ready (s.nvme.fetched + 1) (nvDnr .invalidOpcode) t ∧
      t.acts = s.acts ∧ t.fab = s.fab := by
  have hqueue : h.sqid = 0 := by simpa using (State.fetchOk_queue hfetch.1).symm
  have hexec : exec (.unsupportedCommand h op) s
      = .next ((s.fetch h true op.toNat { nsid := 0, lba := 0, nlb := 0 }).cmdReady (s.nvme.fetched + 1)
          (nvDnr .invalidOpcode)) := by
    change execUnsupportedCommand .. = _
    rw [execUnsupportedCommand, if_pos hqueue, State.admin_fetches hfetch.1]
  have hall := (State.cmdReady_only (s.nvme.fetched + 1) (nvDnr .invalidOpcode) _ (by simp) s).2
    (State.fetch_frame h true op.toNat { nsid := 0, lba := 0, nlb := 0 } s)
  exact ⟨_, hexec, hfetch.2.refused rfl _, hall.allActs (by simp), hall.fab (by simp)⟩

end

theorem ioOpcode_unsupported {h : NvmeHdr} {s : State} (hfetch : FetchesIo h s) {op : BitVec 8} :
    Completes (.unsupportedCommand h op) s fun t => Ready (s.nvme.fetched + 1) (nvDnr .invalidOpcode) t ∧
      t.acts = s.acts ∧ t.fab = s.fab := by
  have hqueue : h.sqid ≠ 0 := by simpa using (State.fetchOk_queue hfetch.1).symm
  have hexec : exec (.unsupportedCommand h op) s
      = .next ((s.fetch h false op.toNat { nsid := 0, lba := 0, nlb := 0 }).cmdReady (s.nvme.fetched + 1)
          (nvDnr .invalidOpcode)) := by
    change execUnsupportedCommand .. = _
    rw [execUnsupportedCommand, if_neg hqueue, State.io_fetches hfetch.1]
  have hall := (State.cmdReady_only (s.nvme.fetched + 1) (nvDnr .invalidOpcode) _ (by simp) s).2
    (State.fetch_frame h false op.toNat { nsid := 0, lba := 0, nlb := 0 } s)
  exact ⟨_, hexec, hfetch.2.refused rfl _, hall.allActs (by simp), hall.fab (by simp)⟩

/-- Settles O37, clause by clause: each command at its checks, and what its body does to the fetched state. -/
theorem adminQueueAndDataCommands : Obligations.AdminQueueAndDataCommands := by
  unfold Obligations.AdminQueueAndDataCommands
  refine ⟨?_, ?_, ?_, ?_, ?_, ?_, ?_, ?_, ?_, ?_, ?_, ?_, ?_, ?_, ?_⟩
  · intro h q z v s ⟨hf, h1, hq, hnew, hz, hz', hv⟩
    exact completionQueue_created hf h1 hq hnew hz hz' hv
  · intro h q z c p s ⟨hf, h1, hq, hnew, hz, hz', hc, hcq⟩
    exact submissionQueue_created hf h1 hq hnew hz hz' hc hcq
  · intro h q z c p s ⟨hf, h1, hq, hnew, hz⟩
    exact queueSize_refused hf h1 hq hnew hz
  · intro h q s ⟨hf, h1, hthere⟩
    exact submissionQueue_deleted hf h1 hthere
  · intro h q s ⟨hf, h1, hthere, hunused⟩
    exact completionQueue_deleted hf h1 hthere hunused
  · intro h q s ⟨hf, h1, hthere, hused⟩
    exact completionQueue_inUse hf h1 hthere hused
  · intro h x s ⟨hf, hx, ha⟩
    exact namespace_identified hf hx ha
  · exact fun h nsid off len rae s hf => log_unsupported hf
  · exact fun h nsid len rae s hf => firmwareLog_read hf
  · intro h q i s ⟨hf, hfew⟩
    exact abort_answered hf hfew
  · intro h q i s ⟨hf, hmany⟩
    exact abort_beyondLimit hf hmany
  · intro h s ⟨hf, hfew, hnone⟩
    exact asyncEvent_waits hf hfew hnone
  · intro h e s ⟨hf, hfew, hone, he⟩
    exact asyncEvent_told hf hfew hone he
  · exact fun h op s hf => adminOpcode_unsupported hf
  · exact fun h op s hf => ioOpcode_unsupported hf

end Sys2Proof.Machine

/-! SUPPORT. Frames of the motion of heads, of checkpoints and of the completion of commands. -/

namespace Sys2Proof.Machine

open Sys2Proof

set_option Elab.async false

theorem State.wpCause_only {ps : List Part} (a : Fin 4) (bit : Nat) (on : Bool) (s : State)
    (h_act_a : .act a ∈ ps ∨ .acts ∈ ps) (h_dict : .dict ∈ ps) (h_msgs : .msgs ∈ ps) (h_rc : .rc ∈ ps)
        (z : State) : Only ps z (State.wpCause a bit on s) ↔ Only ps z s := by
  unfold State.wpCause
  dsimp only
  simp only [Only.ite, Only.refl, ite_self, State.actEvent_only, State.onWp_only, State.wpCut_only, h_act_a,
    h_dict, h_msgs, h_rc, or_true, implies_true]

theorem State.islandRequest_only {ps : List Part} (a : Fin 4) (s : State)
    (h_act_a : .act a ∈ ps ∨ .acts ∈ ps) (h_dict : .dict ∈ ps) (h_msgs : .msgs ∈ ps) (h_rc : .rc ∈ ps)
        (z : State) : Only ps z (State.islandRequest a s) ↔ Only ps z s := by
  unfold State.islandRequest
  simp only [Only.ite, Only.refl, ite_self, State.wpCause_only, h_act_a, h_dict, h_msgs, h_rc, or_true, implies_true]

theorem State.makeSafe_only {ps : List Part} (a : Fin 4) (s : State)
    (h_act_a : .act a ∈ ps ∨ .acts ∈ ps) (z : State) : Only ps z (State.makeSafe a s) ↔ Only ps z s := by
  unfold State.makeSafe
  simp only [Only.ite, Only.refl, ite_self, State.pscQueue_only, h_act_a, or_true, implies_true]

theorem State.startUnload_only {ps : List Part} (a : Fin 4) (retract : Bool) (s : State)
    (h_act_a : .act a ∈ ps ∨ .acts ∈ ps) (h_dict : .dict ∈ ps) (h_msgs : .msgs ∈ ps) (h_rc : .rc ∈ ps)
        (z : State) : Only ps z (State.startUnload a retract s) ↔ Only ps z s := by
  unfold State.startUnload
  dsimp only
  (repeat' split) <;> simp only [Only.ite, Only.refl, ite_self, State.islandRequest_only, State.makeSafe_only,
      State.onIsl_only, h_act_a, h_dict, h_msgs, h_rc, or_true, implies_true]

theorem State.notice_only {ps : List Part} (c : Fin 2) (info : Nat) (s : State)
    (h_msgs : .msgs ∈ ps) (h_nvme : .nvme ∈ ps) (z : State) : Only ps z (State.notice c info s) ↔ Only ps z s := by
  unfold State.notice
  simp only [Only.ite, Only.refl, ite_self, State.postAen_only, h_msgs, h_nvme, or_true, implies_true]

theorem State.vcmSend_only {ps : List Part} (a : Fin 4) (mode : BitVec 2) (value : BitVec 16) (s : State)
    (h_act_a : .act a ∈ ps ∨ .acts ∈ ps) (z : State) : Only ps z (State.vcmSend a mode value s) ↔ Only ps z s := by
  unfold State.vcmSend
  simp only [Only.ite, Only.refl, ite_self, State.onVcm_only, h_act_a, or_true, implies_true]

theorem State.startCoil_only {ps : List Part} (a : Fin 4) (s : State)
    (h_act_a : .act a ∈ ps ∨ .acts ∈ ps) (z : State) : Only ps z (State.startCoil a s) ↔ Only ps z s := by
  unfold State.startCoil
  dsimp only
  simp only [Only.ite, Only.refl, ite_self, State.onIsl_only, State.vcmSend_only, h_act_a, or_true, implies_true]

theorem State.startAttempt_only {ps : List Part} (a : Fin 4) (attempt : BitVec 4) (s : State)
    (h_act_a : .act a ∈ ps ∨ .acts ∈ ps) (h_msgs : .msgs ∈ ps) (h_nvme : .nvme ∈ ps) (z : State) :
        Only ps z (State.startAttempt a attempt s) ↔ Only ps z s := by
  unfold State.startAttempt
  dsimp only
  simp only [Only.ite, Only.refl, ite_self, State.notice_only, State.onIsl_only, State.startCoil_only,
    State.vcmSend_only, h_act_a, h_msgs, h_nvme, or_true, implies_true]

theorem State.startLoad_only {ps : List Part} (a : Fin 4) (s : State)
    (h_act_a : .act a ∈ ps ∨ .acts ∈ ps) (h_msgs : .msgs ∈ ps) (h_nvme : .nvme ∈ ps) (z : State) :
        Only ps z (State.startLoad a s) ↔ Only ps z s := by
  unfold State.startLoad
  simp only [Only.ite, Only.refl, ite_self, State.onIsl_only, State.startAttempt_only, h_act_a, h_msgs, h_nvme,
    or_true, implies_true]

theorem State.pumpMotion_only {ps : List Part} (s : State)
    (h_acts : .acts ∈ ps) (h_dict : .dict ∈ ps) (h_msgs : .msgs ∈ ps) (h_nvme : .nvme ∈ ps) (h_rc : .rc ∈ ps)
        (z : State) : Only ps z (State.pumpMotion s) ↔ Only ps z s := by
  unfold State.pumpMotion
  (repeat' split) <;> simp only [Only.ite, Only.refl, ite_self, State.startLoad_only, State.startUnload_only,
      h_acts, h_dict, h_msgs, h_nvme, h_rc, or_true, implies_true]

theorem State.startCheckpoint_only {ps : List Part} (s : State)
    (h_plc : .plc ∈ ps) (z : State) : Only ps z (State.startCheckpoint s) ↔ Only ps z s := by
  unfold State.startCheckpoint
  dsimp only
  simp only [Only.ite, Only.refl, ite_self, State.onPlc_only, h_plc, or_true, implies_true]

theorem State.stopFetch_only {ps : List Part} (s : State)
    (h_nvme : .nvme ∈ ps) (z : State) : Only ps z (State.stopFetch s) ↔ Only ps z s := by
  unfold State.stopFetch
  simp only [Only.ite, Only.refl, ite_self, Only.foldS, State.onCtrl_only, h_nvme, or_true, implies_true]

theorem State.setShst_only {ps : List Part} (v : BitVec 2) (s : State)
    (h_nvme : .nvme ∈ ps) (z : State) : Only ps z (State.setShst v s) ↔ Only ps z s := by
  unfold State.setShst
  simp only [Only.ite, Only.refl, ite_self, Only.foldS, State.onCtrl_only, h_nvme, or_true, implies_true]

theorem State.lateDecay_only {ps : List Part} (s : State)
    (h_tt : .tt ∈ ps) (z : State) : Only ps z (State.lateDecay s) ↔ Only ps z s := by
  unfold State.lateDecay
  dsimp only
  simp only [Only.ite, Only.refl, ite_self, State.onTt_only, h_tt, or_true, implies_true]

theorem State.lateComplete_only {ps : List Part} (due : BitVec 64) (s : State)
    (h_dict : .dict ∈ ps) (h_tt : .tt ∈ ps) (z : State) : Only ps z (State.lateComplete due s) ↔ Only ps z s := by
  unfold State.lateComplete
  dsimp only
  simp only [Only.ite, Only.refl, ite_self, State.count_only, State.lateDecay_only, State.onTt_only, h_dict, h_tt,
    or_true, implies_true]

theorem State.formatEnds_only {ps : List Part} (k : Cmd) (s : State)
    (h_nvme : .nvme ∈ ps) (z : State) : Only ps z (State.formatEnds k s) ↔ Only ps z s := by
  unfold State.formatEnds
  dsimp only
  (repeat' split) <;> simp only [Only.ite, Only.refl, ite_self, State.onNvme_only, h_nvme, or_true, implies_true]

theorem State.postCqe_only {ps : List Part} (k : Cmd) (s : State)
    (h_nvme : .nvme ∈ ps) (z : State) : Only ps z (State.postCqe k s) ↔ Only ps z s := by
  unfold State.postCqe
  dsimp only
  (repeat' split) <;> simp only [Only.ite, Only.refl, ite_self, State.onCtrl_only, State.onNvme_only, h_nvme,
      or_true, implies_true]

theorem State.onPort_grows {z : State} (p : Fin 2) (f : Port → Port) (s : State) (h : Grows z s) :
    Grows z (State.onPort p f s) :=
  h.trans (.of_eq (((State.onPort_only (ps := [.nvme]) p f s (h_nvme := by simp) s).2 (.refl _ _)).msgs (by simp)))

theorem State.portDown_grows {z : State} (p : Fin 2) (s : State) (h : Grows z s) : Grows z (State.portDown p s) := by
  unfold State.portDown
  repeat' first
    | with_reducible exact h
    | intro _ _ h
    | with_reducible apply Grows.doIf
    | with_reducible apply State.onPort_grows
    | with_reducible apply State.switchOn_grows

end Sys2Proof.Machine

/-! SUPPORT. The reset of a controller, a port that goes down,
  and a shutdown that begins (02 R53, 12 R373 to R376). -/

namespace Sys2Proof.Machine

open Sys2Proof

set_option Elab.async false

/-! Ports. -/

theorem State.port_onPort_same {p : Fin 2} {s : State} (h : p.val < s.nvme.ports.length) (f : Port → Port) :
    (s.onPort p f).port p = f (s.port p) :=
  nth_setNth_same h _ _

theorem State.port_onPort_other {p q : Fin 2} (h : q ≠ p) (f : Port → Port) (s : State) :
    (s.onPort p f).port q = s.port q :=
  nth_setNth_other (fun e => h (Fin.ext e)) _ _

/-- A port that is up exists. -/
theorem State.port_exists {p : Fin 2} {s : State} (h : (s.port p).up = true) : p.val < s.nvme.ports.length := by
  refine Decidable.byContradiction fun hn => ?_
  rw [State.port, nth, List.getElem?_eq_none (by omega)] at h
  exact absurd h (by decide)

/-- A port that goes down leaves the rest of the NVMe state. -/
theorem State.portDown_nvme (p : Fin 2) (s : State) :
    (s.portDown p).nvme = (s.onPort p fun x => { x with up := false, width := 0, gts := 0, l12 := false }).nvme := by
  have hon : (s.doIf (s.port p).l12 (State.switchOn (12 + p.val))).nvme = s.nvme :=
    ((Only.doIf ((State.switchOn_only (12 + p.val) s (by simp) (by simp) (by simp) s).2
      (.refl [.dict, .msgs, .pwr] s))).2 (.refl _ s)).nvme (by simp)
  exact congrArg (fun v : Nvme => { v with ports := setNth v.ports p.val ((fun x : Port => { x with
    up := false, width := 0, gts := 0, l12 := false }) (nth v.ports p.val Port.reset)) }) hon

theorem State.portDown_ctrl (p c : Fin 2) (s : State) : (s.portDown p).ctrl c = s.ctrl c :=
  (congrArg (fun v : Nvme => nth v.ctrls c.val Ctrl.reset) (State.portDown_nvme p s)).trans rfl

theorem State.portDown_port_same {p : Fin 2} {s : State} (h : p.val < s.nvme.ports.length) :
    (s.portDown p).port p = { s.port p with up := false, width := 0, gts := 0, l12 := false } :=
  (congrArg (fun v : Nvme => nth v.ports p.val Port.reset) (State.portDown_nvme p s)).trans
      (State.port_onPort_same h _)

theorem State.portDown_port_other {p q : Fin 2} (h : q ≠ p) (s : State) : (s.portDown p).port q = s.port q :=
  (congrArg (fun v : Nvme => nth v.ports q.val Port.reset) (State.portDown_nvme p s)).trans
    (State.port_onPort_other h _ s)

/-! The reset of a controller. -/

/-- What a staged image's start at a controller's reset leaves. -/
theorem State.activateNext_keeps (s : State) : (s.activateNext false).nvme.cmds = s.nvme.cmds ∧
    (s.activateNext false).nvme.ports = s.nvme.ports ∧ (s.activateNext false).nvme.ctrls = s.nvme.ctrls ∧
    (s.activateNext false).sys.mode = s.sys.mode := by
  rw [State.activateNext]
  cases s.nvme.nextSlot with
  | none => exact ⟨rfl, rfl, rfl, rfl⟩
  | some n =>
    dsimp only
    rw [if_neg (by simp)]
    split <;> exact ⟨rfl, rfl, rfl, rfl⟩

/-- A reset withdraws the commands of its controller, and leaves the other controllers, the ports and the mode. -/
structure ResetOf (c : Fin 2) (s t : State) : Prop where
  cmds : t.nvme.cmds = s.nvme.cmds.filter fun k => !decide (k.ctrl = c)
  ports : t.nvme.ports = s.nvme.ports
  mode : t.sys.mode = s.sys.mode
  perst : t.ports = s.ports
  same : c.val < s.nvme.ctrls.length → t.ctrl c = { Ctrl.reset with resets := (s.ctrl c).resets + 1 }
  disabled : (t.ctrl c).en = false
  others : ∀ d, d ≠ c → (t.ctrl d).en = (s.ctrl d).en
  grows : Grows s t

theorem State.withdrawCtrl_keeps (c : Fin 2) (s : State) :
    (s.withdrawCtrl c).nvme.cmds = s.nvme.cmds.filter (fun k => !decide (k.ctrl = c)) ∧
      (s.withdrawCtrl c).nvme.ports = s.nvme.ports ∧ KeepsCtrls s (s.withdrawCtrl c) := by
  obtain ⟨hcmds, hports, hkeeps⟩ := State.withdraw_keeps c (fun k => decide (k.ctrl = c)) s
  rw [State.withdrawCtrl]
  generalize s.withdraw c (fun k => decide (k.ctrl = c)) = w at *
  exact ⟨hcmds, hports, hkeeps.trans (.of_ctrls rfl)⟩

theorem State.resetCtrl_resets (c : Fin 2) (s : State) : ResetOf c s (s.resetCtrl c) := by
  have hgrows := State.resetCtrl_grows c s (.refl s)
  obtain ⟨hcmds, hports, hkeeps⟩ := State.withdrawCtrl_keeps c s
  have hframe := (State.withdrawCtrl_only (ps := [.acts, .buf, .dict, .mem, .msgs, .nvme, .plc, .rc, .recov, .tt]) c s
    (by simp) (by simp) (by simp) (by simp) (by simp) (by simp) (by simp) (by simp) (by simp) (by simp) s).2
        (.refl _ s)
  have hsys := hframe.sys (by simp)
  have hperst := hframe.ports (by simp)
  rw [State.resetCtrl] at hgrows ⊢
  generalize s.withdrawCtrl c = w at *
  have hnext := State.activateNext_keeps (w.onCtrl c fun k => { Ctrl.reset with resets := k.resets + 1 })
  have hnextPorts := ((State.activateNext_only (ps := [.nvme, .sys]) false (w.onCtrl c fun k => { Ctrl.reset with
    resets := k.resets + 1 }) (by simp) (by simp) _).2 (.refl _ _)).ports (by simp)
  have hother := fun d (hd : d ≠ c) => State.ctrl_onCtrl_other hd
    (fun k => { Ctrl.reset with resets := k.resets + 1 }) w
  have hsame : c.val < w.nvme.ctrls.length → (w.onCtrl c fun k => { Ctrl.reset with resets := k.resets + 1 }).ctrl c
      = { Ctrl.reset with resets := (w.ctrl c).resets + 1 } := fun h => State.ctrl_onCtrl_same h _
  have hdisabled : ((w.onCtrl c fun k => { Ctrl.reset with resets := k.resets + 1 }).ctrl c).en = false := by
    refine Decidable.byContradiction fun hon => ?_
    have hexists := State.ctrl_exists (Bool.of_not_eq_false hon)
    rw [State.onCtrl, State.onNvme_nvme, setNth_length] at hexists
    exact hon (congrArg Ctrl.en (hsame hexists))
  have hcmds' : (w.onCtrl c fun k => { Ctrl.reset with resets := k.resets + 1 }).nvme.cmds = w.nvme.cmds := rfl
  have hports' : (w.onCtrl c fun k => { Ctrl.reset with resets := k.resets + 1 }).nvme.ports = w.nvme.ports := rfl
  have hsys' : (w.onCtrl c fun k => { Ctrl.reset with resets := k.resets + 1 }).sys = w.sys := rfl
  have hperst' : (w.onCtrl c fun k => { Ctrl.reset with resets := k.resets + 1 }).ports = w.ports := rfl
  dsimp only at hgrows ⊢
  generalize w.onCtrl c (fun k => { Ctrl.reset with resets := k.resets + 1 }) = r at *
  obtain ⟨hnextCmds, hnextNvme, hnextCtrls, hnextMode⟩ := hnext
  have hctrl : ∀ d, (r.activateNext false).ctrl d = r.ctrl d := fun d =>
    congrArg (fun l => nth l d.val Ctrl.reset) hnextCtrls
  exact
    { cmds := hnextCmds.trans (hcmds'.trans hcmds)
      ports := hnextNvme.trans (hports'.trans hports)
      mode := hnextMode.trans (congrArg Sys.mode (hsys'.trans hsys))
      perst := hnextPorts.trans (hperst'.trans hperst)
      same := fun h => by
        rw [hctrl, hsame (by rw [hkeeps.count]; exact h), hkeeps.field Ctrl.resets (fun _ _ => rfl)]
      disabled := by rw [hctrl, hdisabled]
      others := fun d hd => by rw [hctrl, hother d hd, hkeeps.field Ctrl.en (fun _ _ => rfl)]
      grows := hgrows }

/-! A shutdown that begins (02 R53). -/

/-- A step of a shutdown that drains leaves one of its stages. -/
theorem State.shutStep_stays {k : ShutKind} {s : State} (hstage : s.sys.shutStage = some .draining)
    (hkind : s.sys.shutKind = some k) (hby : s.sys.chipResetBy = none) : s.shutStep.sys.shutStage.isSome = true := by
  have hrecord : (s.shutRecord k).sys.shutStage.isSome = true := by
    have hyb := (State.ybAppend_frame 0x0002 (leBytes 1 k.code) s).sys (by simp)
    rw [State.shutRecord]
    generalize s.ybAppend 0x0002 (leBytes 1 k.code) = u at *
    rw [hyb, hby, if_neg (by simp)]
    have hpump := ((State.pumpMotion_only (ps := [.acts, .dict, .msgs, .nvme, .rc]) (u.onSys fun y => { y with
      shutStage := some .unloading }) (by simp) (by simp) (by simp) (by simp) (by simp) _).2 (.refl _ _)).sys
        (by simp)
    rw [hpump]
    rfl
  have hstays : s.sys.shutStage.isSome = true := by rw [hstage]; rfl
  rw [State.shutStep, hstage, hkind]
  dsimp only
  split
  · exact hstays
  split
  · exact hrecord
  split
  · exact hstays
  split
  · rfl
  · exact hrecord

theorem State.requestShutdown_begins {k : ShutKind} {s : State} (hloss : s.sys.powerLoss = none)
    (hby : s.sys.chipResetBy = none) (hmode : s.sys.mode = .service) (hstage : s.sys.shutStage = none) :
    (s.requestShutdown k).sys.shutStage.isSome = true := by
  have hstop : ((s.stopFetch).setShst 1).sys = s.sys :=
    ((State.setShst_only (ps := [.nvme]) 1 s.stopFetch (by simp) s).2
      ((State.stopFetch_only s (by simp) s).2 (.refl _ s))).sys (by simp)
  rw [State.requestShutdown, if_neg (by simp [hloss, hby]), if_neg (by simp [hmode]), if_neg (by simp [hmode]),
    if_neg (by simp [hstage])]
  exact State.shutStep_stays (k := k) rfl rfl ((congrArg Sys.chipResetBy hstop).trans hby)

end Sys2Proof.Machine

/-! PROOFS. Doorbells, completions, resets of controllers, ports and links (12 R365 to R378, R390 to R393). -/

namespace Sys2Proof.Machine

open Sys2Proof

set_option Elab.async false

/-! An event leaves controllers and ports. -/

theorem State.ctrl_event (src : Endpoint) (num qual : Nat) (s : State) (c : Fin 2) :
    (s.event src num qual).ctrl c = s.ctrl c := rfl

theorem State.port_event (src : Endpoint) (num qual : Nat) (s : State) (p : Fin 2) :
    (s.event src num qual).port p = s.port p := rfl

/-! Doorbells. -/

section
variable {c : Fin 2} {s : State} (hreach : s.hostReach c = true) (hen : (s.ctrl c).en = true)
include hreach hen

theorem sqDoorbell_taken {q : Sq} {tail : Nat} (hone : (s.ctrl c).sqs = [q]) (ht : tail < q.size) :
    Completes (.sqDoorbell c q.id tail) s fun t => (t.ctrl c).sqs = [{ q with tail := tail }] ∧
      (∀ d, d ≠ c → t.ctrl d = s.ctrl d) ∧ t.fab = s.fab ∧ t.acts = s.acts := by
  have hfound : s.sq? c q.id = some q := by simp [State.sq?, hone]
  have hexec : exec (.sqDoorbell c q.id tail) s = .next (s.onCtrl c fun k => { k with
      sqs := k.sqs.map fun x => if x.id = q.id then { x with tail := tail } else x }) := by
    change execSqDoorbell .. = _
    rw [execSqDoorbell, if_neg (by simp [hreach, hen]), hfound]
    exact congrArg _ (if_pos ht)
  refine ⟨_, hexec, ?_, fun d hd => State.ctrl_onCtrl_other hd _ s, rfl, rfl⟩
  rw [State.ctrl_onCtrl_same (State.ctrl_exists hen), hone]
  simp

theorem sqDoorbell_unknown {q tail : Nat} (hnone : s.sq? c q = none) :
    Completes (.sqDoorbell c q tail) s fun t =>
      SentOnly [faultMsg (epHost c) 52 c.val (s.localTime (epHost c))] s t ∧ t.nvme = s.nvme ∧ t.acts = s.acts := by
  refine ⟨s.fault (epHost c) 52 c.val, ?_, rfl, rfl, rfl⟩
  change execSqDoorbell .. = _
  rw [execSqDoorbell, if_neg (by simp [hreach, hen]), hnone]

theorem cqDoorbell_taken {q : Cq} {head : Nat} (hone : (s.ctrl c).cqs = [q]) (hh : head < q.size) :
    Completes (.cqDoorbell c q.id head) s fun t => (t.ctrl c).cqs = [{ q with head := head }] ∧
      (∀ d, d ≠ c → t.ctrl d = s.ctrl d) ∧ t.fab = s.fab ∧ t.acts = s.acts := by
  have hfound : s.cq? c q.id = some q := by simp [State.cq?, hone]
  have hexec : exec (.cqDoorbell c q.id head) s = .next (s.onCtrl c fun k => { k with
      cqs := k.cqs.map fun x => if x.id = q.id then { x with head := head } else x }) := by
    change execCqDoorbell .. = _
    rw [execCqDoorbell, if_neg (by simp [hreach, hen]), hfound]
    exact congrArg _ (if_pos hh)
  refine ⟨_, hexec, ?_, fun d hd => State.ctrl_onCtrl_other hd _ s, rfl, rfl⟩
  rw [State.ctrl_onCtrl_same (State.ctrl_exists hen), hone]
  simp

theorem cqDoorbell_beyond {q : Cq} {head : Nat} (hone : (s.ctrl c).cqs = [q]) (hh : q.size ≤ head) :
    Completes (.cqDoorbell c q.id head) s fun t =>
      SentOnly [faultMsg (epHost c) 52 c.val (s.localTime (epHost c))] s t ∧ t.nvme = s.nvme ∧ t.acts = s.acts := by
  have hfound : s.cq? c q.id = some q := by simp [State.cq?, hone]
  refine ⟨s.fault (epHost c) 52 c.val, ?_, rfl, rfl, rfl⟩
  change execCqDoorbell .. = _
  rw [execCqDoorbell, if_neg (by simp [hreach, hen]), hfound]
  exact congrArg _ (if_neg (Nat.not_lt.2 hh))

theorem controller_reset :
    Completes (.controllerReset c) s fun t => t.ctrl c = { Ctrl.reset with resets := (s.ctrl c).resets + 1 } ∧
      (∀ k ∈ t.nvme.cmds, k.ctrl ≠ c) ∧ (∀ k ∈ s.nvme.cmds, k.ctrl ≠ c → k ∈ t.nvme.cmds) ∧
      Sent (eventMsg (epHost c) 33 c.val) s t := by
  have hexec : exec (.controllerReset c) s = .next ((s.event (epHost c) 33 c.val).resetCtrl c) := by
    change execControllerReset .. = _
    rw [execControllerReset, hreach, hen]
    rfl
  have hreset := State.resetCtrl_resets c (s.event (epHost c) 33 c.val)
  have hsent := (Sent.send (eventMsg (epHost c) 33 c.val) s).grows (u := (s.event (epHost c) 33 c.val).resetCtrl c)
    hreset.grows
  refine ⟨_, hexec, hreset.same (State.ctrl_exists (s := s) hen), fun k hk => ?_, fun k hk hc => ?_, hsent⟩
  · rw [hreset.cmds] at hk
    simpa using (List.mem_filter.1 hk).2
  · rw [hreset.cmds]
    exact List.mem_filter.2 ⟨hk, by simpa using hc⟩

end

/-! Completions. -/

/-- What the posting of a completion leaves. -/
theorem State.postCqe_posts (k : Cmd) (s : State) :
    (s.postCqe k).nvme.cmds = (s.nvme.cmds.filter fun x => x.n != k.n) ∧
      (s.postCqe k).nvme.activation = s.nvme.activation ∧
      ∃ e : Cqe, (s.postCqe k).nvme.posted = s.nvme.posted ++ [e] ∧
        (e.ctrl, e.cid, e.status) = (k.ctrl, k.cid, k.status) :=
  ⟨rfl, rfl, _, rfl, rfl⟩

theorem State.formatEnds_keeps (k : Cmd) (s : State) : (s.formatEnds k).nvme.cmds = s.nvme.cmds ∧
    (s.formatEnds k).nvme.posted = s.nvme.posted ∧ (s.formatEnds k).nvme.activation = s.nvme.activation := by
  rw [State.formatEnds]
  split <;> exact ⟨rfl, rfl, rfl⟩

theorem State.activationPump_none {s : State} (h : s.nvme.activation = none) : s.activationPump = s := by
  rw [State.activationPump, h]

/-- With no entry and no shutdown under way, nothing moves. -/
theorem State.modePump_idle {s : State} (hentry : s.sys.entry = none) (hstage : s.sys.shutStage = none) :
    s.modePump = s := by
  rw [State.modePump, State.entryPump, hentry]
  exact State.shutStep_none hstage

theorem State.lateComplete_odNat (due : BitVec 64) (s : State) {key : Nat} (hk : key ≠ 0x185006) :
    (s.lateComplete due).odNat key 0 = s.odNat key 0 := by
  rw [State.lateComplete]
  split
  · rfl
  · have hdecay := ((State.lateDecay_only s (by simp) s).2 (.refl [.tt] s)).dict (by simp)
    have hsame : s.lateDecay.odNat key 0 = s.odNat key 0 := by rw [State.odNat, hdecay, State.odNat]
    exact (KeepsObjects.count 0x185006 1 s.lateDecay key hk 0).trans hsame

/-- What the counts of a completion leave. -/
theorem State.completionCounts_keep (k : Cmd) (s : State) :
    Only [.dict, .tt] s ((s.doIf (decide (k.status.code = .nsNotReady)) fun t => t.count 0x103004 1).doIf k.timed
      (State.lateComplete k.due)) ∧
    ((s.doIf (decide (k.status.code = .nsNotReady)) fun t => t.count 0x103004 1).doIf k.timed
      (State.lateComplete k.due)).odNat 0x103001 0 = s.odNat 0x103001 0 := by
  have hfirst : Only [.dict, .tt] s (s.doIf (decide (k.status.code = .nsNotReady)) fun t => t.count 0x103004 1) :=
    (Only.doIf ((State.count_only 0x103004 1 s (by simp) s).2 (.refl _ s))).2 (.refl _ s)
  have hcount : (s.doIf (decide (k.status.code = .nsNotReady)) fun t => t.count 0x103004 1).odNat 0x103001 0
      = s.odNat 0x103001 0 := by
    rw [State.doIf]
    split
    · exact KeepsObjects.count 0x103004 1 s 0x103001 (by decide) 0
    · rfl
  generalize s.doIf (decide (k.status.code = .nsNotReady)) (fun t => t.count 0x103004 1) = u at *
  refine ⟨hfirst.trans ((Only.doIf ((State.lateComplete_only k.due u (by simp) (by simp) u).2 (.refl _ u))).2
    (.refl _ u)), ?_⟩
  rw [State.doIf, ← hcount]
  split
  · exact State.lateComplete_odNat k.due u (by decide)
  · rfl

theorem command_completes {k : Cmd} {c : Fin 2} {s : State} (hcmds : s.nvme.cmds = [k]) (hc : k.ctrl = c)
    (hneed : k.need = .nothing) (hreach : s.hostReach c = true) (hroom : s.cqFull k = false)
    (hact : s.nvme.activation = none) (hentry : s.sys.entry = none) (hstage : s.sys.shutStage = none) :
    Completes (.commandCompletion k.n) s fun t => t.nvme.cmds = [] ∧
      (t.nvme.posted.drop s.nvme.posted.length).map (fun e => (e.ctrl, e.cid, e.status)) = [(c, k.cid, k.status)] ∧
      t.odNat 0x103001 0 = s.odNat 0x103001 0 + 1 ∧ t.acts = s.acts ∧ MemorySame s t := by
  subst hc
  have hfound : s.cmd? k.n = some k := by simp [State.cmd?, hcmds]
  have hpost := State.postCqe_posts k s
  have hpostFrame := (State.postCqe_only k s (by simp) s).2 (.refl [.nvme] s)
  have hexec : exec (.commandCompletion k.n) s = .next (((((((s.postCqe k).count 0x103001 1).formatEnds
      k).activationPump).doIf (decide (k.status.code = .nsNotReady)) fun t => t.count 0x103004 1).doIf k.timed
        (State.lateComplete k.due)).modePump) := by
    change execCommandCompletion .. = _
    rw [execCommandCompletion, hfound]
    simp only [hneed, hreach, hroom, ne_eq, not_true_eq_false, Bool.not_true, decide_false, Bool.or_self,
      Bool.false_eq_true, if_false]
  obtain ⟨hleft, hnone, e, hposted, he⟩ := hpost
  generalize s.postCqe k = p at *
  have hformat := State.formatEnds_keeps k (p.count 0x103001 1)
  have hformatFrame := (State.formatEnds_only k (p.count 0x103001 1) (by simp) _).2 (.refl [.nvme] _)
  have hcount : (p.count 0x103001 1).odNat 0x103001 0 = p.odNat 0x103001 0 + 1 := by
    rw [State.odNat_count]
  have hcounted : Only [.dict] p (p.count 0x103001 1) := (State.count_only _ _ _ (by simp) _).2 (.refl _ _)
  have hkept : (p.count 0x103001 1).nvme = p.nvme := hcounted.nvme (by simp)
  generalize p.count 0x103001 1 = q at *
  generalize q.formatEnds k = f at *
  rw [State.activationPump_none (s := f) (by rw [hformat.2.2, hkept, hnone, hact])] at hexec
  obtain ⟨hlate, hobjects⟩ := State.completionCounts_keep k f
  generalize (f.doIf (decide (k.status.code = .nsNotReady)) fun t => t.count 0x103004 1).doIf k.timed
    (State.lateComplete k.due) = l at *
  have hall : Only [.nvme, .dict, .tt] s l := (hpostFrame.mono (by simp)).trans <| (hcounted.mono (by simp)).trans <|
    (hformatFrame.mono (by simp)).trans (hlate.mono (by simp))
  have hsys : l.sys = s.sys := hall.sys (by simp)
  rw [State.modePump_idle (by rw [hsys, hentry]) (by rw [hsys, hstage])] at hexec
  have hnvme : l.nvme = f.nvme := hlate.nvme (by simp)
  refine ⟨l, hexec, ?_, ?_, ?_, hall.allActs (by simp), hall.memorySame (by simp)⟩
  · rw [hnvme, hformat.1, hkept, hleft, hcmds]
    simp
  · rw [hnvme, hformat.2.1, hkept, hposted, List.drop_left]
    simp [he]
  · have hdict : q.odNat 0x103001 0 = f.odNat 0x103001 0 := by
      rw [State.odNat, State.odNat, hformatFrame.dict (by simp)]
    have hpdict : p.odNat 0x103001 0 = s.odNat 0x103001 0 := by
      rw [State.odNat, State.odNat, hpostFrame.dict (by simp)]
    rw [hobjects, ← hdict, hcount, hpdict]

theorem completion_full {k : Cmd} {c : Fin 2} {s : State} (hcmds : s.nvme.cmds = [k]) (hc : k.ctrl = c)
    (hneed : k.need = .nothing) (hreach : s.hostReach c = true) (hfull : s.cqFull k = true) :
    Completes (.commandCompletion k.n) s fun t => t.nvme = s.nvme ∧
      SentOnly [faultMsg (epHost c) 54 c.val (s.localTime (epHost c))] s t ∧ t.acts = s.acts := by
  subst hc
  have hfound : s.cmd? k.n = some k := by simp [State.cmd?, hcmds]
  refine ⟨s.fault (epHost k.ctrl) 54 k.ctrl.val, ?_, rfl, rfl, rfl⟩
  change execCommandCompletion .. = _
  rw [execCommandCompletion, hfound]
  simp only [hneed, hreach, hfull, ne_eq, not_true_eq_false, Bool.not_true, decide_false, Bool.or_self,
    Bool.false_eq_true, if_false, if_true]

/-! Controllers enabled and reset. -/

theorem controller_enabled {c : Fin 2} {x : EnableSetup} {s : State} (hreach : s.hostReach c = true)
    (hoff : (s.ctrl c).en = false) (hexists : c.val < s.nvme.ctrls.length) (hstage : s.sys.shutStage = none)
    (hact : s.nvme.activation = none) :
    Completes (.ccEnable c x) s fun t =>
      t.ctrl c = { s.ctrl c with en := true, rdy := true, ams := x.ams, fetchStopped := false, sqs := [{ id := 0, size := x.asqs.toNat + 1, cqid := 0, prio := 0, tail := 0, head := 0 }], cqs := [{ id := 0, size := x.acqs.toNat + 1, vector := 0, tail := 0, head := 0 }] } ∧
      (∀ d, d ≠ c → t.ctrl d = s.ctrl d) ∧ SentOnly [eventMsg (epHost c) 32 c.val] s t ∧ t.acts = s.acts := by
  have hexec : exec (.ccEnable c x) s = .next ((s.onCtrl c fun k => { k with
      en := true, rdy := true, ams := x.ams
      sqs := [{ id := 0, size := x.asqs.toNat + 1, cqid := 0, prio := 0, tail := 0, head := 0 }]
      cqs := [{ id := 0, size := x.acqs.toNat + 1, vector := 0, tail := 0, head := 0 }]
      fetchStopped := false }).event (epHost c) 32 c.val) := by
    change execCcEnable .. = _
    rw [execCcEnable, if_neg (by simp [hreach, hoff]), hstage, hact]
    rfl
  refine ⟨_, hexec, ?_, fun d hd => ?_, rfl, rfl⟩
  · rw [State.ctrl_event, State.ctrl_onCtrl_same hexists]
  · rw [State.ctrl_event, State.ctrl_onCtrl_other hd]

theorem function_reset {c : Fin 2} {s : State} (hreach : s.hostReach c = true)
    (hexists : c.val < s.nvme.ctrls.length) :
    Completes (.functionLevelReset c) s fun t => t.ctrl c = { Ctrl.reset with resets := (s.ctrl c).resets + 1 } ∧
      (∀ k ∈ t.nvme.cmds, k.ctrl ≠ c) ∧ Sent (eventMsg (epHost c) 35 c.val) s t := by
  have hexec : exec (.functionLevelReset c) s = .next ((s.event (epHost c) 35 c.val).resetCtrl c) := by
    change execFunctionLevelReset .. = _
    rw [execFunctionLevelReset, hreach]
    rfl
  have hreset := State.resetCtrl_resets c (s.event (epHost c) 35 c.val)
  have hsent := (Sent.send (eventMsg (epHost c) 35 c.val) s).grows (u := (s.event (epHost c) 35 c.val).resetCtrl c)
    hreset.grows
  refine ⟨_, hexec, hreset.same hexists, fun k hk => ?_, hsent⟩
  rw [hreset.cmds] at hk
  simpa using (List.mem_filter.1 hk).2

theorem subsystem_reset {c : Fin 2} {s : State} (hreach : s.hostReach c = true) (hby : s.sys.chipResetBy = none)
    (hmode : s.sys.mode = .service) (hstage : s.sys.shutStage = none) :
    Completes (.nvmSubsystemReset c 0x4E564D65) s fun t =>
      t.sys.chipResetBy = some 0 ∧ t.sys.shutStage.isSome = true := by
  have hloss : s.sys.powerLoss = none := by
    simp only [State.hostReach, Bool.and_eq_true, Option.isNone_iff_eq_none] at hreach
    exact hreach.1.2
  have hexec : exec (.nvmSubsystemReset c 0x4E564D65) s = .next ((s.requestShutdown .normal).onSys fun y => { y with
      chipResetBy := some 0, shutState := .none }) := by
    change execNvmSubsystemReset .. = _
    rw [execNvmSubsystemReset, hreach, decide_eq_true rfl, Bool.and_self, if_pos rfl, State.requestChipReset,
      if_neg (by simp [hloss]), hby]
    simp [hmode, hstage]
  exact ⟨_, hexec, rfl, State.requestShutdown_begins hloss hby hmode hstage⟩

theorem subsystemReset_other {c : Fin 2} {v : BitVec 32} {s : State} (hv : v ≠ 0x4E564D65) :
    Completes (.nvmSubsystemReset c v) s fun t => t = s := by
  refine ⟨s, ?_, rfl⟩
  change execNvmSubsystemReset .. = _
  rw [execNvmSubsystemReset, decide_eq_false hv, Bool.and_false]
  rfl

/-! Links and ports. -/

theorem link_lost {p : Fin 2} {s : State} (hup : (s.port p).up = true) (hl12 : (s.port p).l12 = false)
    (hen : (s.ctrl p).en = true) :
    Completes (.pcieLinkDown p) s fun t => (t.port p).up = false ∧ (t.port p).width = 0 ∧
      t.ctrl p = { Ctrl.reset with resets := (s.ctrl p).resets + 1 } ∧ (∀ k ∈ t.nvme.cmds, k.ctrl ≠ p) ∧
      Sent (eventMsg (epHost p) 37 p.val) s t ∧ Sent (faultMsg (epHost p) 51 p.val (s.localTime (epHost p))) s t := by
  have hdown : s.portDown p = s.onPort p fun x => { x with up := false, width := 0, gts := 0, l12 := false } := by
    rw [State.portDown, hl12]
    rfl
  have hexec : exec (.pcieLinkDown p) s = .next ((((s.onPort p fun x => { x with
      up := false, width := 0, gts := 0, l12 := false }).event (epHost p) 37 p.val).fault
        (epHost p) 51 p.val).resetCtrl
        p) := by
    change execPcieLinkDown .. = _
    rw [execPcieLinkDown, if_neg (by simp [hup]), hdown]
    have hen' : (((s.onPort p fun x => { x with up := false, width := 0, gts := 0, l12 := false }).event (epHost p) 37
      p.val).ctrl p).en = true := hen
    dsimp only
    rw [hen']
    rfl
  have hport := State.port_onPort_same (State.port_exists hup) fun x => { x with
    up := false, width := 0, gts := 0, l12 := false }
  generalize hu : ((s.onPort p fun x => { x with up := false, width := 0, gts := 0, l12 := false }).event
    (epHost p) 37
    p.val).fault (epHost p) 51 p.val = u at hexec
  have hreset := State.resetCtrl_resets p u
  have hexists : p.val < u.nvme.ctrls.length := by
    rw [← hu]
    exact State.ctrl_exists (s := s) hen
  have hctrl : u.ctrl p = s.ctrl p := by rw [← hu]; rfl
  have hports : u.port p = { s.port p with up := false, width := 0, gts := 0, l12 := false } := by
    rw [← hport, ← hu]
    rfl
  have hsent : SentOnly [eventMsg (epHost p) 37 p.val, faultMsg (epHost p) 51 p.val
    (s.localTime (epHost p))] s u := by
    rw [← hu]
    exact List.append_assoc _ _ _
  have hafter : (u.resetCtrl p).port p = u.port p := congrArg (fun l => nth l p.val Port.reset) hreset.ports
  refine ⟨_, hexec, ?_, ?_, ?_, fun k hk => ?_, (hsent.sent (by simp)).grows hreset.grows,
    (hsent.sent (by simp)).grows hreset.grows⟩
  · rw [hafter, hports]
  · rw [hafter, hports]
  · rw [hreset.same hexists, hctrl]
  · rw [hreset.cmds] at hk
    simpa using (List.mem_filter.1 hk).2

theorem link_trained {p : Fin 2} {w g : Nat} {s : State} (hpresent : s.presentCtrls.contains p = true)
    (hon : s.domOn (12 + p.val) = true) (hperst : s.ports.perst = false) (hloss : s.sys.powerLoss = none)
    (hexists : p.val < s.nvme.ports.length) (hdown : (s.port p).up = false) (h1 : 1 ≤ w) (hw : w ≤ s.lanes)
    (hg : g ≤ 32) :
    Completes (.pcieLinkUp p w g) s fun t =>
      t.port p = { s.port p with up := true, width := w, gts := g, l12 := false } ∧
      (∀ d, d ≠ p → t.port d = s.port d) ∧ SentOnly [eventMsg (epHost p) 37 (p.val + 2 ^ 31)] s t ∧
      t.acts = s.acts := by
  have hexec : exec (.pcieLinkUp p w g) s = .next ((s.onPort p fun x => { x with
      up := true, width := w, gts := g, l12 := false }).event (epHost p) 37 (p.val + 2 ^ 31)) := by
    change execPcieLinkUp .. = _
    rw [execPcieLinkUp, if_neg (by simp [List.contains_iff_mem.1 hpresent, hon, hperst, hloss, Nat.ne_of_gt h1, hw,
      hg]),
      if_pos (by simp [hdown])]
  refine ⟨_, hexec, ?_, fun d hd => ?_, rfl, rfl⟩
  · rw [State.port_event, State.port_onPort_same hexists]
  · rw [State.port_event, State.port_onPort_other hd]

/-- A controller that is disabled, on a port that is down. -/
def State.portOff (s : State) (c : Fin 2) : Prop := (s.ctrl c).en = false ∧ (s.port c).up = false

theorem State.portDown_down (p : Fin 2) (s : State) : ((s.portDown p).port p).up = false := by
  by_cases h : p.val < s.nvme.ports.length
  · rw [State.portDown_port_same h]
  · refine Decidable.byContradiction fun hup => ?_
    have hexists := State.port_exists (Bool.of_not_eq_false hup)
    rw [State.portDown_nvme, State.onPort, State.onNvme_nvme, setNth_length] at hexists
    exact h hexists

/-- PERST# resets one controller and brings its port down, and leaves those that are down already. -/
theorem State.resetCtrl_portDown (c : Fin 2) (s : State) : (State.portDown c (s.resetCtrl c)).portOff c ∧
    (∀ d, s.portOff d → (State.portDown c (s.resetCtrl c)).portOff d) ∧
    (State.portDown c (s.resetCtrl c)).ports = s.ports ∧ (State.portDown c (s.resetCtrl c)).sys.mode = s.sys.mode ∧
    (s.nvme.cmds = [] → (State.portDown c (s.resetCtrl c)).nvme.cmds = []) ∧
    Grows s (State.portDown c (s.resetCtrl c)) := by
  have hreset := State.resetCtrl_resets c s
  generalize s.resetCtrl c = r at *
  have hframe := (State.portDown_only (ps := [.dict, .msgs, .nvme, .pwr]) c r (by simp) (by simp) (by simp)
    (by simp) r).2
    (.refl _ r)
  have hoff : (State.portDown c r).portOff c :=
    ⟨by rw [State.portDown_ctrl, hreset.disabled], State.portDown_down c r⟩
  refine ⟨hoff, fun d hd => ?_, (hframe.ports (by simp)).trans hreset.perst,
    (congrArg Sys.mode (hframe.sys (by simp))).trans hreset.mode, fun hnone => ?_,
    State.portDown_grows c r hreset.grows⟩
  · by_cases hdc : d = c
    · rw [hdc]
      exact hoff
    · obtain ⟨hen, hup⟩ := hd
      have hport : r.port d = s.port d := congrArg (fun l => nth l d.val Port.reset) hreset.ports
      exact ⟨by rw [State.portDown_ctrl, hreset.others d hdc, hen],
        by rw [State.portDown_port_other hdc, hport, hup]⟩
  · rw [State.portDown_nvme]
    show r.nvme.cmds = []
    rw [hreset.cmds, hnone]
    rfl

/-- A fold that reaches each of its list, and loses none that it has reached. -/
theorem foldS_reaches {α : Type} {R : α → State → Prop} {f : α → State → State} (hself : ∀ x t, R x (f x t))
    (hkeep : ∀ x y t, R y t → R y (f x t)) (xs : List α) (s : State) : ∀ y ∈ xs, R y (foldS f xs s) := by
  induction xs generalizing s with
  | nil => simp
  | cons x r ih =>
    intro y hy
    rcases List.mem_cons.1 hy with rfl | hr
    · exact foldS_keeps (R y) f (fun x t => hkeep x y t) r (hself y s)
    · exact ih (f x s) y hr

theorem perst_asserted {s : State} (hoff : s.ports.perst = false) (hnone : s.nvme.cmds = []) :
    Completes .perstAssert s fun t => t.ports.perst = true ∧ t.sys.hostConfigured = false ∧
      t.sys.mode = s.sys.mode ∧ t.nvme.cmds = [] ∧
      (∀ c, s.presentCtrls.contains c = true → (t.ctrl c).en = false ∧ (t.port c).up = false) ∧
      Sent (eventMsg (epHost 0) 36 0) s t := by
  have hexec : exec .perstAssert s = .next ((foldS (fun c (t : State) => (t.resetCtrl c).portDown c) s.presentCtrls
      ((s.onPorts fun p => { p with perst := true }).event (epHost 0) 36 0)).onSys fun y => { y with
        hostConfigured := false }) := by
    change execPerstAssert .. = _
    rw [execPerstAssert, hoff]
    rfl
  generalize hu : (s.onPorts fun p => { p with perst := true }).event (epHost 0) 36 0 = u at hexec
  have hperst : u.ports.perst = true := by rw [← hu]; rfl
  have hmode : u.sys.mode = s.sys.mode := by rw [← hu]; rfl
  have hcmds : u.nvme.cmds = [] := by rw [← hu]; exact hnone
  have hsent : Sent (eventMsg (epHost 0) 36 0) s u := by
    rw [← hu]
    exact Sent.after (t := s.onPorts fun p => { p with perst := true }) (.of_eq rfl) (Sent.send _ _)
  have hdown := foldS_reaches (R := fun c t => t.portOff c) (f := fun c (t : State) => (t.resetCtrl c).portDown c)
    (fun c t => (State.resetCtrl_portDown c t).1) (fun c d t => (State.resetCtrl_portDown c t).2.1 d) s.presentCtrls u
  have hkept := foldS_keeps (fun t => t.ports = u.ports ∧ t.sys.mode = u.sys.mode ∧ t.nvme.cmds = [] ∧ Grows u t)
    (fun c (t : State) => (t.resetCtrl c).portDown c) (fun c t ⟨hp, hm, hc, hg⟩ => by
      obtain ⟨-, -, hports, hmodes, hnone, hgrows⟩ := State.resetCtrl_portDown c t
      exact ⟨hports.trans hp, hmodes.trans hm, hnone hc, hg.trans hgrows⟩) s.presentCtrls
    ⟨rfl, rfl, hcmds, .refl u⟩
  generalize foldS (fun c (t : State) => (t.resetCtrl c).portDown c) s.presentCtrls u = w at *
  obtain ⟨hports, hmodes, hnone', hgrows⟩ := hkept
  exact ⟨_, hexec, (congrArg Ports.perst hports).trans hperst, rfl, hmodes.trans hmode, hnone',
    fun c hc => hdown c (List.contains_iff_mem.1 hc), hsent.grows (hgrows.trans (.of_eq rfl))⟩

theorem pcieError_uncorrectable {p : Fin 2} {cid : Option Nat} {s : State} :
    Completes (.pcieError p .uncorrectable cid) s fun t =>
      SentOnly [faultMsg (epHost p) 49 p.val (s.localTime (epHost p))] s t ∧ t.nvme = s.nvme ∧ t.acts = s.acts :=
  ⟨s.fault (epHost p) 49 p.val, rfl, rfl, rfl, rfl⟩

theorem pcieError_ofRead {p : Fin 2} {k : Cmd} {s : State} (hcmds : s.nvme.cmds = [k]) (hop : k.opcode = 2)
    (hneed : k.need = .media 1) :
    Completes (.pcieError p .hostAccess (some k.n)) s fun t =>
      t.nvme.cmds = [{ k with status := nvRetry .dataTransfer }] ∧
      SentOnly [faultMsg (epHost p) 50 p.val (s.localTime (epHost p))] s t ∧ t.acts = s.acts := by
  have hfound : (s.fault (epHost p) 50 p.val).cmd? k.n = some k := by
    rw [State.cmd?, show (s.fault (epHost p) 50 p.val).nvme.cmds = [k] from hcmds]
    simp
  have hexec : exec (.pcieError p .hostAccess (some k.n)) s = .next
    ((s.fault (epHost p) 50 p.val).onCmd k.n fun k => {
      k with status := nvRetry .dataTransfer }) := by
    have hfails : (s.fault (epHost p) 50 p.val).transferFails k.n = (s.fault (epHost p) 50 p.val).onCmd k.n fun k => {
        k with status := nvRetry .dataTransfer } := by
      rw [State.transferFails, hfound]
      simp [hneed, hop]
    rw [← hfails]
    rfl
  refine ⟨_, hexec, ?_, rfl, rfl⟩
  show s.nvme.cmds.map _ = _
  rw [hcmds]
  simp

/-! L1.2. -/

theorem Tab.getD_put_other {α : Type} [DecidableEq α] (t : Tab α) {k e : Nat} {v d : α} (h : v ≠ d) (he : e ≠ k)
    (x : α) :
    Tab.getD (Tab.put t k v d) e x = Tab.getD t e x := by
  rw [Tab.put, if_neg h, Tab.getD, Tab.get?_set_other _ _ he, Tab.getD]

/-- Nothing depends on the domain of a port. -/
theorem domUsers_port (p : Fin 2) : domUsers (12 + p.val) = [] := by
  revert p
  decide

theorem l12_entered {p : Fin 2} {s : State} (hup : (s.port p).up = true) (hl12 : (s.port p).l12 = false)
    (hon : (s.dom (12 + p.val)).state = .on) :
    Completes (.aspmL12Transition p true) s fun t => (t.port p).l12 = true ∧ (t.dom (12 + p.val)).state = .draining ∧
      (∀ d, d ≠ 12 + p.val → t.dom d = s.dom d) ∧ t.acts = s.acts ∧ t.fab = s.fab := by
  have hexec : exec (.aspmL12Transition p true) s = .next ((s.onPort p fun x => { x with l12 := true }).onDom
      (12 + p.val) fun x => { x with state := .draining, wantOff := false }) := by
    have hstate : ((s.onPort p fun x => { x with l12 := true }).dom (12 + p.val)).state = .on := hon
    have hrefuse : (s.onPort p fun x => { x with l12 := true }).poolRefuses (12 + p.val) = false := by
      rw [State.poolRefuses, decide_eq_false (by omega), decide_eq_false (by omega)]
      rfl
    have hmay : (s.onPort p fun x => { x with l12 := true }).mayDrain (12 + p.val) = true := by
      rw [State.mayDrain, domUsers_port, decide_eq_true (by omega)]
      rfl
    change execAspmL12Transition .. = _
    rw [execAspmL12Transition, if_neg (by simp [hup, hl12]), if_pos rfl, State.switchOff, hrefuse, hstate]
    dsimp only
    rw [if_neg (by simp), if_neg (show ¬ 12 + p.val = 19 by omega), if_pos hmay]
    rfl
  have hput : ∀ x : Dom, ({ x with state := .draining, wantOff := false } : Dom) ≠ Dom.reset := fun x h =>
    absurd (congrArg Dom.state h) (by simp [Dom.reset])
  have hport := State.port_onPort_same (State.port_exists hup) fun x => { x with l12 := true }
  refine ⟨_, hexec, (congrArg Port.l12 hport).trans rfl, ?_, fun d hd => ?_, rfl, rfl⟩
  · exact (congrArg Dom.state (Tab.getD_put_of_ne _ _ (hput _) _)).trans rfl
  · exact Tab.getD_put_other _ (hput _) hd _

theorem l12_left {p : Fin 2} {s : State} (hup : (s.port p).up = true) (hl12 : (s.port p).l12 = true)
    (hdrain : (s.dom (12 + p.val)).state = .draining) (hgood : (s.dom (12 + p.val)).suspended = false)
    (hpresent : s.domPresent (12 + p.val) = true) :
    Completes (.aspmL12Transition p false) s fun t => (t.port p).l12 = false ∧ (t.dom (12 + p.val)).wantOn = true ∧
      t.acts = s.acts ∧ t.fab = s.fab := by
  have hexec : exec (.aspmL12Transition p false) s = .next ((s.onPort p fun x => { x with l12 := false }).onDom
      (12 + p.val) fun x => { x with wantOn := true }) := by
    have hstate : ((s.onPort p fun x => { x with l12 := false }).dom (12 + p.val)).state = .draining := hdrain
    have hgood' : ((s.onPort p fun x => { x with l12 := false }).dom (12 + p.val)).suspended = false := hgood
    have hpresent' : (s.onPort p fun x => { x with l12 := false }).domPresent (12 + p.val) = true := hpresent
    change execAspmL12Transition .. = _
    rw [execAspmL12Transition, if_neg (by simp [hup, hl12]), if_neg (by simp), State.switchOn, hpresent', hgood',
      hstate]
    rfl
  have hport := State.port_onPort_same (State.port_exists hup) fun x => { x with l12 := false }
  refine ⟨_, hexec, (congrArg Port.l12 hport).trans rfl, ?_, rfl, rfl⟩
  have hput : ({ s.dom (12 + p.val) with wantOn := true } : Dom) ≠ Dom.reset := fun h =>
    absurd (congrArg Dom.wantOn h) (by simp [Dom.reset])
  exact (congrArg Dom.wantOn (Tab.getD_put_of_ne _ _ hput _)).trans rfl

/-- Settles O42, clause by clause: resets by what the withdrawal of commands leaves, the other clauses directly. -/
theorem portsControllersAndDoorbells : Obligations.PortsControllersAndDoorbells := by
  unfold Obligations.PortsControllersAndDoorbells
  refine ⟨?_, ?_, ?_, ?_, ?_, ?_, ?_, ?_, ?_, ?_, ?_, ?_, ?_, ?_, ?_, ?_, ?_, ?_, ?_⟩
  · exact fun c q tail s ⟨hr, hen, hone, ht⟩ => sqDoorbell_taken hr hen hone ht
  · exact fun c q tail s ⟨hr, hen, hnone⟩ => sqDoorbell_unknown hr hen hnone
  · exact fun c q head s ⟨hr, hen, hone, hh⟩ => cqDoorbell_taken hr hen hone hh
  · exact fun c q head s ⟨hr, hen, hone, hh⟩ => cqDoorbell_beyond hr hen hone hh
  · exact fun k c s ⟨hcmds, hc, hneed, hr, hroom, hact, hentry, hstage⟩ =>
      command_completes hcmds hc hneed hr hroom hact hentry hstage
  · exact fun k c s ⟨hcmds, hc, hneed, hr, hfull⟩ => completion_full hcmds hc hneed hr hfull
  · exact fun c x s ⟨hr, hoff, hexists, hstage, hact⟩ => controller_enabled hr hoff hexists hstage hact
  · exact fun c s ⟨hr, hen, _⟩ => controller_reset hr hen
  · exact fun c s ⟨hr, hexists, _⟩ => function_reset hr hexists
  · exact fun p s ⟨hup, hl12, hen, _⟩ => link_lost hup hl12 hen
  · exact fun p w g s ⟨hpresent, hon, hperst, hloss, hexists, hdown, h1, hw, hg⟩ =>
      link_trained hpresent hon hperst hloss hexists hdown h1 hw hg
  · exact fun c s ⟨hr, hby, hmode, hstage⟩ => subsystem_reset hr hby hmode hstage
  · exact fun c v s hv => subsystemReset_other hv
  · exact fun s ⟨hoff, hnone, _⟩ => perst_asserted hoff hnone
  · exact fun s => ⟨_, rfl, rfl⟩
  · exact fun p cid s => pcieError_uncorrectable
  · exact fun p k s ⟨hcmds, hop, hneed⟩ => pcieError_ofRead hcmds hop hneed
  · exact fun p s ⟨hup, hl12, hon⟩ => l12_entered hup hl12 hon
  · exact fun p s ⟨hup, hl12, hdrain, hgood, hpresent⟩ => l12_left hup hl12 hdrain hgood hpresent

end Sys2Proof.Machine

/-! PROOFS. Causes that inhibit writing, the supply window, and the resumption of a cut operation (09 R276 to
R284). -/

namespace Sys2Proof.Machine

open Sys2Proof

set_option Elab.async false

/-! The write path of an actuator. -/

theorem State.wp_onWp (a : Fin 4) (f : Wp → Wp) (s : State) : ((s.onWp a f).act a).wp = f (s.act a).wp := by
  rw [State.onWp, State.act_onAct_same]

theorem ActuatorOnly.onWp (a : Fin 4) (f : Wp → Wp) (s : State) : ActuatorOnly a s (s.onWp a f) := .onAct a _ s

theorem ActuatorOnly.onPsc (a : Fin 4) (f : Psc → Psc) (s : State) : ActuatorOnly a s (s.onPsc a f) := .onAct a _ s

/-- A setting of the PSC link is queued; the write path stays. -/
theorem State.pscRenew_only' (a : Fin 4) (code data : Nat) (s : State) :
    ActuatorOnly a s (s.pscRenew a code data) ∧ ((s.pscRenew a code data).act a).wp = (s.act a).wp ∧
      (s.pscRenew a code data).fab = s.fab := by
  rw [State.pscRenew, State.pscQueue]
  refine ⟨(ActuatorOnly.onPsc a _ s).trans (.onPsc a _ _), ?_, rfl⟩
  rw [State.onPsc, State.act_onAct_same, State.onPsc, State.act_onAct_same]

theorem State.pscSetting_queues (a : Fin 4) (code data : Nat) (s : State) :
    ActuatorOnly a s (s.pscSetting a code data) ∧ ((s.pscSetting a code data).act a).wp = (s.act a).wp ∧
      (s.pscSetting a code data).fab = s.fab := by
  rw [State.pscSetting]
  split
  · refine ⟨.onPsc a _ s, ?_, rfl⟩
    rw [State.onPsc, State.act_onAct_same]
  · exact State.pscRenew_only' a code data s

/-- Writing that ends leaves the write path, but for what the channel gets. -/
theorem State.wpIdle_wp (a : Fin 4) (s : State) :
    ((s.wpIdle a).act a).wp = { (s.act a).wp with writing := false, wrd := [], shifts := [] } := by
  have hacts : (s.laserOff a).act a = s.act a :=
    ((State.laserOff_only a s (by simp) s).2 (.refl [.rc] s)).act a (by simp)
  rw [State.wpIdle, State.wp_onWp, hacts]

/-- A cut leaves the causes, and sets no flag but bit 5. -/
theorem State.wpCut_wp (a : Fin 4) (bit : Nat) (s : State) :
    ((s.wpCut a bit).act a).wp.cause = (s.act a).wp.cause ∧
      (∀ n, n ≠ 5 → ((s.wpCut a bit).act a).wp.flags.getLsbD n = (s.act a).wp.flags.getLsbD n) := by
  rw [State.wpCut]
  cases hops : (s.act a).wp.ops with
  | nil => exact ⟨rfl, fun _ _ => rfl⟩
  | cons o r =>
    dsimp only
    rw [State.act_actEvent, State.countA]
    have hcount : ∀ (t : State) (key n : Nat), (t.count key n).act a = t.act a := fun _ _ _ => rfl
    rw [hcount, (State.pscRenew_only' a 3 0 _).2.1, State.wp_onWp, State.wpIdle_wp]
    refine ⟨rfl, fun n hn => ?_⟩
    rw [getLsbD_setBit _ (by omega), if_neg hn]

/-! The causes that inhibit writing (09 R276, R299). -/

section
variable (a : Fin 4) (bit : Nat) (s : State)

theorem State.wpCause_same {on : Bool} (h : setBit (s.act a).wp.cause bit on = (s.act a).wp.cause) :
    s.wpCause a bit on = s := by
  rw [State.wpCause, if_pos h]

/-- A cause that is released. -/
theorem State.wpCause_released : ((s.wpCause a bit false).act a).wp.cause = setBit (s.act a).wp.cause bit false ∧
    ActuatorOnly a s (s.wpCause a bit false) := by
  by_cases h : setBit (s.act a).wp.cause bit false = (s.act a).wp.cause
  · rw [State.wpCause_same a bit s h]
    exact ⟨h.symm, .refl a s⟩
  · rw [State.wpCause]
    dsimp only
    rw [if_neg h, if_neg Bool.false_ne_true]
    split
    · rw [State.act_actEvent, State.wp_onWp, State.wp_onWp]
      exact ⟨rfl, ((ActuatorOnly.onWp a _ s).trans (.onWp a _ _)).trans (.actEvent a a 4 19 _ _)⟩
    · rw [State.wp_onWp]
      exact ⟨rfl, .onWp a _ s⟩

/-- The causes as they stand once one more is in force: from none, with the time and the event that tells them. -/
def State.withCauses (new : BitVec 13) : State :=
  if (s.act a).wp.cause = 0 then
    ((s.onWp a fun w => { w with cause := new }).onWp a fun w => { w with inhSince := s.now }).actEvent a 4 18 new.toNat
  else s.onWp a fun w => { w with cause := new }

theorem State.withCauses_wp (new : BitVec 13) : ((s.withCauses a new).act a).wp.cause = new ∧
    ((s.withCauses a new).act a).wp.flags = (s.act a).wp.flags := by
  rw [State.withCauses]
  split
  · rw [State.act_actEvent, State.wp_onWp, State.wp_onWp]
    exact ⟨rfl, rfl⟩
  · rw [State.wp_onWp]
    exact ⟨rfl, rfl⟩

theorem State.wpCause_new (h : setBit (s.act a).wp.cause bit true ≠ (s.act a).wp.cause) :
    s.wpCause a bit true = if (s.act a).wp.writing then
      (s.withCauses a (setBit (s.act a).wp.cause bit true)).wpCut a bit
    else s.withCauses a (setBit (s.act a).wp.cause bit true) := by
  rw [State.wpCause, State.withCauses]
  dsimp only
  rw [if_neg h, if_pos rfl]
  rfl

/-- A cause that comes into force. -/
theorem State.wpCause_raised : ((s.wpCause a bit true).act a).wp.cause = setBit (s.act a).wp.cause bit true ∧
    (∀ n, n ≠ 5 → ((s.wpCause a bit true).act a).wp.flags.getLsbD n = (s.act a).wp.flags.getLsbD n) := by
  by_cases h : setBit (s.act a).wp.cause bit true = (s.act a).wp.cause
  · rw [State.wpCause_same a bit s h]
    exact ⟨h.symm, fun _ _ => rfl⟩
  · obtain ⟨hcause, hflags⟩ := State.withCauses_wp a s (setBit (s.act a).wp.cause bit true)
    rw [State.wpCause_new a bit s h]
    split
    · obtain ⟨hcut, hcutFlags⟩ := State.wpCut_wp a bit (s.withCauses a (setBit (s.act a).wp.cause bit true))
      exact ⟨hcut.trans hcause, fun n hn => (hcutFlags n hn).trans (by rw [hflags])⟩
    · exact ⟨hcause, fun n _ => by rw [hflags]⟩

end

/-! Hold (09 R294). -/

section
variable {a : Fin 4} {s : State} (hpresent : s.present a = true)
include hpresent

theorem hold_set (hnone : (s.act a).wp.cause = 0) (hquiet : (s.act a).wp.writing = false) :
    Completes (.writeHold a true) s fun t => (t.act a).wp.hold = true ∧ (t.act a).wp.cause = 0x800 ∧
      SentOnly [eventMsg (epAct a 4) (144 + 24 * a.val + 18) 0x800] s t ∧ ActuatorOnly a s t := by
  have hwp := State.wp_onWp a (fun w => { w with hold := true }) s
  have hset : setBit (0 : BitVec 13) 11 true = 0x800 := by decide
  refine ⟨_, rfl, ?_⟩
  generalize hu : s.onWp a (fun w => { w with hold := true }) = u at *
  have hcause : (u.act a).wp.cause = 0 := by rw [hwp, hnone]
  have hframe : ActuatorOnly a s u := hu ▸ .onWp a _ s
  have hmsgs : u.fab.msgs = s.fab.msgs := by rw [← hu]; rfl
  rw [State.wpCause_new a 11 u (by rw [hcause]; decide), if_neg (by simp [hwp, hquiet]), State.withCauses, hcause,
    if_pos rfl, hset]
  have hsent : State.actEvent a 4 18 ((0x800 : BitVec 13).toNat) ((u.onWp a fun w => { w with cause := 0x800 }).onWp a
      fun w => { w with inhSince := u.now }) = State.event (epAct a 4) (144 + 24 * a.val + 18) 0x800
        ((u.onWp a fun w => { w with cause := 0x800 }).onWp a fun w => { w with inhSince := u.now }) :=
    State.actEvent_of_present (hu ▸ hpresent) 4 18 0x800
  refine ⟨?_, ?_, ?_, (hframe.trans ((ActuatorOnly.onWp a _ u).trans (.onWp a _ _))).trans (.actEvent a a 4 18 _ _)⟩
  · rw [State.act_actEvent, State.wp_onWp, State.wp_onWp, hwp]
  · rw [State.act_actEvent, State.wp_onWp, State.wp_onWp]
  · rw [hsent, SentOnly, ← hmsgs]
    rfl

theorem hold_released (hheld : (s.act a).wp.cause = 0x800) :
    Completes (.writeHold a false) s fun t => (t.act a).wp.hold = false ∧ (t.act a).wp.cause = 0 ∧
      SentOnly [eventMsg (epAct a 4) (144 + 24 * a.val + 19) (s.since (s.act a).wp.inhSince / usTicks)] s t ∧
      ActuatorOnly a s t := by
  have hwp := State.wp_onWp a (fun w => { w with hold := false }) s
  have hclear : setBit (0x800 : BitVec 13) 11 false = 0 := by decide
  refine ⟨_, rfl, ?_⟩
  generalize hu : s.onWp a (fun w => { w with hold := false }) = u at *
  have hcause : (u.act a).wp.cause = 0x800 := by rw [hwp, hheld]
  have hframe : ActuatorOnly a s u := hu ▸ .onWp a _ s
  have hmsgs : u.fab.msgs = s.fab.msgs := by rw [← hu]; rfl
  have hsince : ∀ t, u.since t = s.since t := fun t => by rw [← hu]; rfl
  have hexec : u.wpCause a 11 false = ((u.onWp a fun w => { w with cause := 0 }).onWp a fun w => { w with
      freeAt := u.now }).event (epAct a 4) (144 + 24 * a.val + 19) (u.since (u.act a).wp.inhSince / usTicks) := by
    rw [State.wpCause]
    dsimp only
    rw [hcause, hclear, if_neg (by decide), if_neg Bool.false_ne_true, if_pos rfl]
    exact State.actEvent_of_present (hu ▸ hpresent) 4 19 _
  rw [hexec]
  refine ⟨?_, ?_, ?_, (hframe.trans ((ActuatorOnly.onWp a _ u).trans (.onWp a _ _))).trans (.send a _ _)⟩
  · rw [State.act_event, State.wp_onWp, State.wp_onWp, hwp]
  · rw [State.act_event, State.wp_onWp, State.wp_onWp]
  · rw [SentOnly, ← hmsgs, hsince, hwp]
    rfl

end

/-! The supply window (09 R278). -/

theorem faultMsg_ne_eventMsg (src src' : Endpoint) (source kind num qual : Nat) (time : BitVec 64) :
    faultMsg src source kind time ≠ eventMsg src' num qual := fun h =>
  absurd (congrArg Msg.body h) (by simp [faultMsg, eventMsg])

/-- What a supply sense leaves: its values stand, and a re-plan may be asked for. -/
theorem State.sawSupply_sees (v12 v5 : Nat) (s : State) : (s.sawSupply v12 v5).sys.v12 = v12 ∧
    (s.sawSupply v12 v5).sys.v5 = v5 ∧ Only [.sys, .rc, .msgs] s (s.sawSupply v12 v5) ∧
    ((s.sawSupply v12 v5).fab.msgs = s.fab.msgs ∨
      (s.sawSupply v12 v5).fab.msgs = s.fab.msgs ++ [eventMsg epReport 306 4]) := by
  rw [State.sawSupply]
  generalize hu : (s.onSys fun y => { y with v12 := v12, v5 := v5 }).onRc (fun r => { r with
    min12 := min r.min12 v12, min5 := min r.min5 v5 }) = u
  have h12 : u.sys.v12 = v12 := by rw [← hu]; rfl
  have h5 : u.sys.v5 = v5 := by rw [← hu]; rfl
  have hmsgs : u.fab.msgs = s.fab.msgs := by rw [← hu]; rfl
  have hframe : Only [.sys, .rc, .msgs] s u := by
    rw [← hu]
    exact (State.onRc_only (by simp) _ _ _).2 ((State.onSys_only (by simp) _ _ _).2 (.refl _ s))
  rw [State.doIf]
  split
  · have htrigger := (State.replanTrigger_only 4 u (by simp) (by simp) u).2 (.refl [.rc, .msgs] u)
    have hsys : (u.replanTrigger 4).sys = u.sys := htrigger.sys (by simp)
    refine ⟨by rw [hsys, h12], by rw [hsys, h5], hframe.trans (htrigger.mono (by simp)), ?_⟩
    rw [State.replanTrigger]
    split
    · exact .inl hmsgs
    · exact .inr (congrArg (· ++ [eventMsg epReport 306 4]) hmsgs)
  · exact ⟨h12, h5, hframe, .inl hmsgs⟩

theorem State.wpCause_grows {z : State} (a : Fin 4) (bit : Nat) (on : Bool) (s : State) (h : Grows z s) :
    Grows z (s.wpCause a bit on) := by
  unfold State.wpCause
  dsimp only
  repeat' first
    | with_reducible exact h
    | with_reducible apply Grows.ite
    | with_reducible apply State.wpCut_grows
    | with_reducible apply State.actEvent_grows
    | with_reducible apply State.onWp_grows

section
variable {a : Fin 4} {v12 v5 : Nat} {s : State}

/-- What a supply sense leaves of the window and of the write path. -/
theorem State.sawSupply_same : (s.sawSupply v12 v5).supplyInWindow a v12 v5 = s.supplyInWindow a v12 v5 ∧
    ((s.sawSupply v12 v5).act a).wp = (s.act a).wp ∧ (s.sawSupply v12 v5).present a = s.present a ∧
    (s.sawSupply v12 v5).localTime (epAct a 4) = s.localTime (epAct a 4) := by
  obtain ⟨-, -, hframe, -⟩ := State.sawSupply_sees v12 v5 s
  have hdict := hframe.dict (by simp)
  have hact := hframe.act a (by simp)
  have hident := hframe.ident (by simp)
  obtain ⟨htime, hreplica⟩ := hframe.time (by simp)
  generalize s.sawSupply v12 v5 = u at *
  refine ⟨?_, by rw [hact], ?_, ?_⟩
  · simp only [State.supplyInWindow, State.p4800Sup12Lo, State.p4800Sup12Hi, State.p4800Sup5Lo, State.p4800Sup5Hi,
      State.odNat, hdict]
    rfl
  · rw [State.present, State.present, State.actCount, State.actCount, hident]
  · rw [State.localTime, State.localTime, htime, hreplica]

theorem supply_leaves (hpresent : s.present a = true) (hout : s.supplyInWindow a v12 v5 = false)
    (hfirst : (s.act a).wp.cause.getLsbD 6 = false) :
    Completes (.supplyWindowCross a v12 v5) s fun t => (t.act a).wp.cause = setBit (s.act a).wp.cause 6 true ∧
      (t.act a).wp.flags.getLsbD 2 = true ∧
      Sent (faultMsg (epAct a 4) (88 + 12 * a.val + 10) 3 (s.localTime (epAct a 4))) s t ∧ t.sys.v12 = v12 ∧
      t.sys.v5 = v5 ∧ (∀ c, c ≠ a → t.act c = s.act c) ∧ MemorySame s t := by
  obtain ⟨h12, h5, hframe, hmsgs⟩ := State.sawSupply_sees v12 v5 s
  obtain ⟨hwindow, hwp, hpresent', htime⟩ := State.sawSupply_same (a := a) (v12 := v12) (v5 := v5) (s := s)
  have hexec : exec (.supplyWindowCross a v12 v5) s = .next ((((s.sawSupply v12 v5).onWp a fun w => { w with
      flags := setBit w.flags 2 true, supplyOut := (s.sawSupply v12 v5).now }).fault (epAct a 4)
        (88 + 12 * a.val + 10)
        3).wpCause a 6 true) := by
    change execSupplyWindowCross .. = _
    rw [execSupplyWindowCross]
    dsimp only
    rw [hwindow, hout, if_neg Bool.false_ne_true, hwp, hfirst, Bool.not_false, if_pos rfl]
    exact congrArg (fun u : State => Host.Outcome.next (u.wpCause a 6 true))
      (State.actFault_of_present (s := State.onWp a _ _) (hpresent'.trans hpresent) 4 10 3)
  generalize s.sawSupply v12 v5 = u at *
  have hgrows : Grows s u := by
    rcases hmsgs with h | h
    · exact .of_eq h
    · exact ⟨_, h⟩
  generalize hx : (u.onWp a fun w => { w with flags := setBit w.flags 2 true, supplyOut := u.now }).fault (epAct a 4)
    (88 + 12 * a.val + 10) 3 = x at hexec
  have hxwp : (x.act a).wp = { (s.act a).wp with flags := setBit (s.act a).wp.flags 2 true, supplyOut := u.now } := by
    rw [← hx, State.act_fault, State.wp_onWp, hwp]
  have hsent : Sent (faultMsg (epAct a 4) (88 + 12 * a.val + 10) 3 (s.localTime (epAct a 4))) u x := by
    rw [← hx, ← htime]
    exact Sent.after (t := u.onWp a _) (.of_eq rfl) (Sent.send _ _)
  have hxframe : Only [.act a, .msgs] u x := by
    rw [← hx]
    exact (State.fault_only _ _ _ _ (by simp) _).2 ((State.onWp_only a (by simp) _ _ _).2 (.refl _ u))
  obtain ⟨hcause, hflags⟩ := State.wpCause_raised a 6 x
  have hcross := (State.wpCause_only a 6 true x (by simp) (by simp) (by simp) (by simp) x).2
    (.refl [.act a, .dict, .msgs, .rc] x)
  have hall : Only [.act a, .msgs, .dict, .sys, .rc] s (x.wpCause a 6 true) :=
    (hframe.mono (by simp)).trans ((hxframe.mono (by simp)).trans (hcross.mono (by simp)))
  have hsys : (x.wpCause a 6 true).sys = u.sys := (hcross.sys (by simp)).trans (hxframe.sys (by simp))
  refine ⟨_, hexec, ?_, ?_, (Sent.after hgrows hsent).grows (State.wpCause_grows a 6 true x (.refl x)),
    by rw [hsys, h12],
    by rw [hsys, h5], fun c hc => hall.act c (by simp [hc]), hall.memorySame (by simp)⟩
  · rw [hcause, hxwp]
  · rw [hflags 2 (by decide), hxwp, getLsbD_setBit _ (by decide), if_pos rfl]

theorem supply_stays_out (hout : s.supplyInWindow a v12 v5 = false) (hforce : (s.act a).wp.cause.getLsbD 6 = true) :
    Completes (.supplyWindowCross a v12 v5) s fun t => (t.act a).wp.cause = (s.act a).wp.cause ∧
      ¬ Sent (faultMsg (epAct a 4) (88 + 12 * a.val + 10) 3 (s.localTime (epAct a 4))) s t ∧ t.sys.v12 = v12 ∧
      t.sys.v5 = v5 ∧ ∀ c, c ≠ a → t.act c = s.act c := by
  obtain ⟨h12, h5, hframe, hmsgs⟩ := State.sawSupply_sees v12 v5 s
  obtain ⟨hwindow, hwp, -, -⟩ := State.sawSupply_same (a := a) (v12 := v12) (v5 := v5) (s := s)
  have hbit : setBit (s.act a).wp.cause 6 true = (s.act a).wp.cause := by
    refine BitVec.eq_of_getLsbD_eq fun i _ => ?_
    rw [getLsbD_setBit _ (by decide)]
    split
    · next h => rw [h, hforce]
    · rfl
  have hexec : exec (.supplyWindowCross a v12 v5) s = .next ((s.sawSupply v12 v5).onWp a fun w => { w with
      flags := setBit w.flags 2 true, supplyOut := (s.sawSupply v12 v5).now }) := by
    change execSupplyWindowCross .. = _
    rw [execSupplyWindowCross]
    dsimp only
    rw [hwindow, hout, if_neg Bool.false_ne_true, hwp, hforce, Bool.not_true, if_neg Bool.false_ne_true]
    exact congrArg Host.Outcome.next (State.wpCause_same a 6 _ (by rw [State.wp_onWp, hwp]; exact hbit))
  generalize s.sawSupply v12 v5 = u at *
  have hother : ∀ c, c ≠ a → (u.onWp a fun w => { w with flags := setBit w.flags 2 true, supplyOut := u.now }).act c
      = s.act c := fun c hc => ((ActuatorOnly.onWp a _ u).acts_ne hc).trans (hframe.act c (by simp))
  refine ⟨_, hexec, by rw [State.wp_onWp, hwp], fun hsent => ?_, h12, h5, hother⟩
  have hmem : faultMsg (epAct a 4) (88 + 12 * a.val + 10) 3 (s.localTime (epAct a 4))
      ∈ u.fab.msgs.drop s.fab.msgs.length := hsent
  rcases hmsgs with h | h
  · rw [h, List.drop_length] at hmem
    exact absurd hmem (by simp)
  · rw [h, List.drop_left, List.mem_singleton] at hmem
    exact faultMsg_ne_eventMsg _ _ _ _ _ _ _ hmem

theorem supply_inside (hin : s.supplyInWindow a v12 v5 = true) :
    Completes (.supplyWindowCross a v12 v5) s fun t => t.acts = s.acts ∧ MemorySame s t ∧ t.sys.v12 = v12 ∧
      t.sys.v5 = v5 := by
  obtain ⟨h12, h5, hframe, -⟩ := State.sawSupply_sees v12 v5 s
  obtain ⟨hwindow, -, -, -⟩ := State.sawSupply_same (a := a) (v12 := v12) (v5 := v5) (s := s)
  have hexec : exec (.supplyWindowCross a v12 v5) s = .next (s.sawSupply v12 v5) := by
    change execSupplyWindowCross .. = _
    rw [execSupplyWindowCross]
    dsimp only
    rw [hwindow, hin, if_pos rfl]
  exact ⟨_, hexec, hframe.allActs (by simp), hframe.memorySame (by simp), h12, h5⟩

theorem supply_released (hlong : 100 * usTicks ≤ s.since (s.act a).wp.supplyOut) :
    Completes (.supplyWindowRelease a) s fun t =>
      (t.act a).wp.cause = setBit (s.act a).wp.cause 6 false ∧ ActuatorOnly a s t := by
  refine ⟨_, ?_, State.wpCause_released a 6 s⟩
  change execSupplyWindowRelease .. = _
  rw [execSupplyWindowRelease, if_pos hlong]

end

/-! The resumption of a cut operation (09 R281 to R283). -/

/-- A piece sets out the bits, and leaves the operations and the payload. -/
theorem State.wpPiece_writes (a : Fin 4) (o : WpOp) (bits : List Bool) (e : Nat) (s : State) :
    ((s.wpPiece a o bits e).act a).wp.ops = (s.act a).wp.ops ∧ ((s.wpPiece a o bits e).act a).wp.writing = true ∧
      ((s.wpPiece a o bits e).act a).wp.inSector = true ∧
      ((s.wpPiece a o bits e).act a).wp.payload = (s.act a).wp.payload ∧ ActuatorOnly a s (s.wpPiece a o bits e) ∧
      (s.wpPiece a o bits e).fab = s.fab := by
  rw [State.wpPiece]
  generalize hu : s.onWp a (fun w => { w with
    laserAt := if w.writing then w.laserAt else s.now, wrd := bits
    shifts := pieceShifts (nth (o.bank.getD []) 6 0).toNat w.wrd bits, writing := true, inSector := true
    place := if padStart ≤ e then sectorSpan else e }) = u
  obtain ⟨honly, hwp, hfab⟩ := State.pscSetting_queues a 0x03 1 u
  have huwp := State.wp_onWp a (fun w => { w with
    laserAt := if w.writing then w.laserAt else s.now, wrd := bits
    shifts := pieceShifts (nth (o.bank.getD []) 6 0).toNat w.wrd bits, writing := true, inSector := true
    place := if padStart ≤ e then sectorSpan else e }) s
  rw [hu] at huwp
  have huonly : ActuatorOnly a s u := hu ▸ .onWp a _ s
  have hufab : u.fab = s.fab := by rw [← hu]; rfl
  rw [hwp, huwp]
  exact ⟨rfl, rfl, rfl, rfl, huonly.trans honly, hfab.trans hufab⟩

/-- The same of a piece of a payload that is formed just before. -/
theorem State.wpPiece_begins (a : Fin 4) (o : WpOp) (bits : List Bool) (e : Nat) (ops : List WpOp) (pay : List Byte)
    (s : State) : (((s.onWp a fun w => { w with ops := ops, payload := pay }).wpPiece a o bits e).act a).wp.ops =
        ops ∧
      (((s.onWp a fun w => { w with ops := ops, payload := pay }).wpPiece a o bits e).act a).wp.writing = true ∧
      (((s.onWp a fun w => { w with ops := ops, payload := pay }).wpPiece a o bits e).act a).wp.inSector = true ∧
      (((s.onWp a fun w => { w with ops := ops, payload := pay }).wpPiece a o bits e).act a).wp.payload = pay ∧
      ActuatorOnly a s ((s.onWp a fun w => { w with ops := ops, payload := pay }).wpPiece a o bits e) ∧
      ((s.onWp a fun w => { w with ops := ops, payload := pay }).wpPiece a o bits e).fab = s.fab := by
  have hwp := State.wp_onWp a (fun w => { w with ops := ops, payload := pay }) s
  have honly := ActuatorOnly.onWp a (fun w => { w with ops := ops, payload := pay }) s
  have hfab : (s.onWp a fun w => { w with ops := ops, payload := pay }).fab = s.fab := rfl
  generalize s.onWp a (fun w => { w with ops := ops, payload := pay }) = u at *
  obtain ⟨hops, hwriting, hsector, hpayload, hpiece, hpieceFab⟩ := State.wpPiece_writes a o bits e u
  exact ⟨hops.trans (by rw [hwp]), hwriting, hsector, hpayload.trans (by rw [hwp]), honly.trans hpiece,
    hpieceFab.trans hfab⟩

/-- The sector of an operation begins: its payload stands, and the operation goes on from it. -/
theorem State.wpBegin_writes (a : Fin 4) (o : WpOp) (r : List WpOp) (room : Nat) {s : State} (h1 : 1 ≤ o.written) :
    ((s.wpBegin a o r room).act a).wp.ops = { o with cut := none } :: r ∧
      ((s.wpBegin a o r room).act a).wp.writing = true ∧ ((s.wpBegin a o r room).act a).wp.inSector = true ∧
      ((s.wpBegin a o r room).act a).wp.payload = sectorPayload (s.read (nth o.op.sectors o.written (0, 0)).1 4096)
        (nth o.op.sectors o.written (0, 0)).2 ∧
      ActuatorOnly a s (s.wpBegin a o r room) ∧ (s.wpBegin a o r room).fab = s.fab := by
  have hled : s.doIf (decide (o.written = 0)) State.ledOn = s := by
    rw [decide_eq_false (by omega)]
    rfl
  rw [State.wpBegin]
  dsimp only
  rw [hled]
  exact State.wpPiece_begins a o _ _ _ _ s

/-- An operation that ends with a cause: its record, and what else changes. -/
theorem State.wpEnd_cause {a : Fin 4} {o : WpOp} {s : State} (cause : Nat) (hone : (s.act a).wp.ops = [o]) :
    ((s.wpEnd a (some cause)).act a).wp.ops = [] ∧
      ((s.wpEnd a (some cause)).act a).wp.done
        = (s.act a).wp.done ++ [{ act := a, opId := o.op.opId, written := o.written, cause := some cause }] ∧
      Only [.act a, .buf, .dict, .msgs, .plc, .rc, .recov, .tt] s (s.wpEnd a (some cause)) := by
  have hchunk : ∀ u : State, (u.chunkEnd o.op.opId false).act a = u.act a := fun u =>
    ((State.chunkEnd_undone_only o.op.opId u (by simp) (by simp) (by simp) (by simp) (by simp) u).2
      (.refl [.buf, .msgs, .plc, .recov, .tt] u)).act a (by simp)
  have hcount : ∀ u : State, (u.countA 0x480001 a o.written).act a = u.act a := fun _ => rfl
  refine ⟨?_, ?_, (State.wpEnd_stopped_only a cause s (by simp) (by simp) (by simp) (by simp) (by simp) (by simp)
    (by simp)
    (by simp) s).2 (.refl _ s)⟩
  · rw [State.wpEnd, hone]
    dsimp only
    rw [hchunk, hcount, State.wp_onWp]
  · rw [State.wpEnd, hone]
    dsimp only
    rw [hchunk, hcount, State.wp_onWp, State.wpIdle_wp]

section
variable {a : Fin 4} {o : WpOp} {c : Nat × BitVec 64} {s : State} (hone : (s.act a).wp.ops = [o])
  (hcut : o.cut = some c)
include hone hcut

/-- A pass within the window, with every cause released, on the head and the target of the operation. -/
theorem State.resumePass_freed {b : List Word} {room : Nat} (hnone : (s.act a).wp.cause = 0) (hbank : o.bank = some b)
    (hwindow : s.since c.2 ≤ s.p4800ResWin a * msTicks) (htarget : (s.act a).svd.target = o.target)
    (hhead : (s.act a).svd.head = o.op.head) :
    exec (.resumePass { act := a, room := room }) s = .next (
      if o.tries < s.p4800ResTries a then
        if room < 164 then s else s.wpBegin a { o with tries := o.tries + 1 } [] room
      else (s.actFault a 4 10 2).wpEnd a (some c.1)) := by
  have hsame : s.wpCause a 12 false = s := State.wpCause_same a 12 s (by rw [hnone]; decide)
  have hfreed : s.wpFreed a c.2 = true := by simp [State.wpFreed, hnone, hwindow]
  change execResumePass .. = _
  rw [execResumePass]
  dsimp only
  rw [hsame, hone]
  dsimp only
  rw [hcut, hbank]
  dsimp only
  rw [if_pos hfreed, if_neg (by simp [htarget, hhead])]
  rfl

theorem operation_resumed {b : List Word} {room : Nat} (hnone : (s.act a).wp.cause = 0) (hbank : o.bank = some b)
    (hwindow : s.since c.2 ≤ s.p4800ResWin a * msTicks) (htarget : (s.act a).svd.target = o.target)
    (hhead : (s.act a).svd.head = o.op.head) (htries : o.tries < s.p4800ResTries a) (h1 : 1 ≤ o.written)
    (hroom : 164 ≤ room) :
    Completes (.resumePass { act := a, room := room }) s fun t =>
      (t.act a).wp.ops = [{ o with tries := o.tries + 1, cut := none }] ∧ (t.act a).wp.writing = true ∧
      (t.act a).wp.inSector = true ∧
      (t.act a).wp.payload = sectorPayload (s.read (nth o.op.sectors o.written (0, 0)).1 4096)
        (nth o.op.sectors o.written (0, 0)).2 ∧ ActuatorOnly a s t ∧ t.fab = s.fab := by
  have hexec := State.resumePass_freed hone hcut (room := room) hnone hbank hwindow htarget hhead
  rw [if_pos htries, if_neg (by omega)] at hexec
  exact ⟨_, hexec, State.wpBegin_writes a { o with tries := o.tries + 1 } [] room h1⟩

theorem operation_exhausted {b : List Word} {room : Nat} (hpresent : s.present a = true)
    (hnone : (s.act a).wp.cause = 0) (hbank : o.bank = some b) (hwindow : s.since c.2 ≤ s.p4800ResWin a * msTicks)
    (htarget : (s.act a).svd.target = o.target) (hhead : (s.act a).svd.head = o.op.head)
    (htries : s.p4800ResTries a ≤ o.tries) :
    Completes (.resumePass { act := a, room := room }) s fun t => (t.act a).wp.ops = [] ∧
      (t.act a).wp.done = (s.act a).wp.done ++ [{ act := a, opId := o.op.opId, written := o.written, cause := some c.1 }] ∧
      Sent (faultMsg (epAct a 4) (88 + 12 * a.val + 10) 2 (s.localTime (epAct a 4))) s t ∧
      (∀ c, c ≠ a → t.act c = s.act c) ∧ MemorySame s t := by
  have hexec := State.resumePass_freed hone hcut (room := room) hnone hbank hwindow htarget hhead
  rw [if_neg (by omega), State.actFault_of_present hpresent] at hexec
  obtain ⟨hops, hdone, hframe⟩ := State.wpEnd_cause (s := s.fault (epAct a 4) (88 + 12 * a.val + 10) 2) c.1 hone
  have hgrows := State.wpEnd_stopped_grows a c.1 (s.fault (epAct a 4) (88 + 12 * a.val + 10) 2) (.refl _)
  have hsent : Sent (faultMsg (epAct a 4) (88 + 12 * a.val + 10) 2 (s.localTime (epAct a 4))) s
      (s.fault (epAct a 4) (88 + 12 * a.val + 10) 2) := Sent.send _ s
  exact ⟨_, hexec, hops, hdone, hsent.grows hgrows, fun c hc => hframe.act c (by simp [hc]),
    hframe.memorySame (by simp)⟩

theorem window_expires (hlate : s.p4800ResWin a * msTicks < s.since c.2) (hforce : (s.act a).wp.cause ≠ 0) :
    Completes (.resumeWindowExpiry a) s fun t => (t.act a).wp.ops = [] ∧
      (t.act a).wp.done = (s.act a).wp.done ++ [{ act := a, opId := o.op.opId, written := o.written, cause := some c.1 }] ∧
      (∀ c, c ≠ a → t.act c = s.act c) ∧ MemorySame s t := by
  have hfreed : s.wpFreed a c.2 = false := by
    rw [State.wpFreed, decide_eq_false hforce]
    rfl
  have hexec : exec (.resumeWindowExpiry a) s = .next (s.wpEnd a (some c.1)) := by
    change execResumeWindowExpiry .. = _
    rw [execResumeWindowExpiry, hone]
    dsimp only
    rw [hcut]
    dsimp only
    rw [hfreed, decide_eq_true hlate]
    rfl
  obtain ⟨hops, hdone, hframe⟩ := State.wpEnd_cause c.1 hone
  exact ⟨_, hexec, hops, hdone, fun c hc => hframe.act c (by simp [hc]), hframe.memorySame (by simp)⟩

end

/-- Settles O29, clause by clause: what a cause raised or released leaves, and what a cut operation does next. -/
theorem writeInhibitCausesCutSectors : Obligations.WriteInhibitCausesCutSectors := by
  unfold Obligations.WriteInhibitCausesCutSectors
  refine ⟨?_, ?_, ?_, ?_, ?_, ?_, ?_, ?_, ?_⟩
  · exact fun a s ⟨hpresent, hnone, hquiet⟩ => hold_set hpresent hnone hquiet
  · exact fun a s ⟨hpresent, hheld⟩ => hold_released hpresent hheld
  · exact fun a v12 v5 s ⟨hpresent, hout, hfirst⟩ => supply_leaves hpresent hout hfirst
  · exact fun a v12 v5 s ⟨hout, hforce⟩ => supply_stays_out hout hforce
  · exact fun a v12 v5 s hin => supply_inside hin
  · exact fun a s hlong => supply_released hlong
  · exact fun a o c b room s ⟨hone, hnone, hcut, hbank, hwindow, htarget, hhead, htries, h1, hroom⟩ =>
      operation_resumed hone hcut hnone hbank hwindow htarget hhead htries h1 hroom
  · exact fun a o c b room s ⟨hpresent, hone, hnone, hcut, hbank, hwindow, htarget, hhead, htries, _, _⟩ =>
      operation_exhausted hone hcut hpresent hnone hbank hwindow htarget hhead htries
  · exact fun a o c s ⟨hone, hcut, hlate, hforce, _, _⟩ => window_expires hone hcut hlate hforce

end Sys2Proof.Machine

/-! SUPPORT. Frames of the steps of a period boundary. -/

namespace Sys2Proof.Machine

open Sys2Proof

set_option Elab.async false

theorem State.setPeriod_only {ps : List Part} (s : State)
    (h_tt : .tt ∈ ps) (z : State) : Only ps z (State.setPeriod s) ↔ Only ps z s := by
  unfold State.setPeriod
  dsimp only
  simp only [Only.ite, Only.refl, ite_self, State.onTt_only, h_tt, or_true, implies_true]

theorem State.updateHeat_only {ps : List Part} (s : State)
    (h_msgs : .msgs ∈ ps) (h_tt : .tt ∈ ps) (z : State) : Only ps z (State.updateHeat s) ↔ Only ps z s := by
  unfold State.updateHeat
  dsimp only
  (repeat' split) <;> simp only [Only.ite, Only.refl, ite_self, State.event_only, State.onTt_only, h_msgs, h_tt,
      or_true, implies_true]

theorem State.ttBudget_only {ps : List Part} (s : State)
    (h_msgs : .msgs ∈ ps) (h_tt : .tt ∈ ps) (z : State) : Only ps z (State.ttBudget s) ↔ Only ps z s := by
  unfold State.ttBudget
  dsimp only
  simp only [Only.ite, Only.refl, ite_self, Only.doIf, State.fault_only, State.onTt_only, h_msgs, h_tt, or_true,
    implies_true]

theorem State.upperOn_only {ps : List Part} (s : State)
    (h_dict : .dict ∈ ps) (h_msgs : .msgs ∈ ps) (h_pwr : .pwr ∈ ps) (h_tt : .tt ∈ ps) (z : State) :
        Only ps z (State.upperOn s) ↔ Only ps z s := by
  unfold State.upperOn
  simp only [Only.ite, Only.refl, ite_self, State.onTt_only, State.switchOn_only, h_dict, h_msgs, h_pwr, h_tt,
    or_true, implies_true]

theorem State.poolPolicy_only {ps : List Part} (s : State)
    (h_dict : .dict ∈ ps) (h_dma : .dma ∈ ps) (h_msgs : .msgs ∈ ps) (h_pwr : .pwr ∈ ps) (h_tt : .tt ∈ ps)
        (z : State) : Only ps z (State.poolPolicy s) ↔ Only ps z s := by
  unfold State.poolPolicy
  dsimp only
  simp only [Only.ite, Only.refl, ite_self, Only.doIf, State.onTt_only, State.switchOff_only, State.upperOn_only,
    h_dict, h_dma, h_msgs, h_pwr, h_tt, or_true, implies_true]

theorem State.switchOff_grows {z : State} (d : Nat) (s : State) (h : Grows z s) : Grows z (State.switchOff d s) :=
  h.trans (.of_eq (((State.switchOff_only (ps := [.dma, .pwr]) d s (h_dma := by simp) (h_pwr := by simp) s).2
    (.refl _ _)).msgs (by simp)))

theorem State.updateHeat_grows {z : State} (s : State) (h : Grows z s) : Grows z (State.updateHeat s) := by
  unfold State.updateHeat
  dsimp only
  repeat' split
  all_goals repeat' first
    | with_reducible exact h
    | intro _ _ h
    | with_reducible apply Grows.ite
    | with_reducible apply State.event_grows
    | with_reducible apply State.onTt_grows

theorem State.ttBudget_grows {z : State} (s : State) (h : Grows z s) : Grows z (State.ttBudget s) := by
  unfold State.ttBudget
  dsimp only
  repeat' first
    | with_reducible exact h
    | intro _ _ h
    | with_reducible apply Grows.doIf
    | with_reducible apply State.fault_grows
    | with_reducible apply State.onTt_grows

theorem State.upperOn_grows {z : State} (s : State) (h : Grows z s) : Grows z (State.upperOn s) := by
  unfold State.upperOn
  repeat' first
    | with_reducible exact h
    | intro _ _ h
    | with_reducible apply Grows.ite
    | with_reducible apply State.onTt_grows
    | with_reducible apply State.switchOn_grows

theorem State.poolPolicy_grows {z : State} (s : State) (h : Grows z s) : Grows z (State.poolPolicy s) := by
  unfold State.poolPolicy
  dsimp only
  repeat' first
    | with_reducible exact h
    | intro _ _ h
    | with_reducible apply Grows.doIf
    | with_reducible apply Grows.ite
    | with_reducible apply State.onTt_grows
    | with_reducible apply State.switchOff_grows
    | with_reducible apply State.upperOn_grows

end Sys2Proof.Machine

/-! PROOFS. The timetable: period boundaries, the admission of a candidate, and deadlines (11 R338 to R352). -/

namespace Sys2Proof.Machine

open Sys2Proof

set_option Elab.async false

/-! What a period boundary leaves (11 R338 to R341). -/

/-- What the corrections, the heat, the charges and the pool of a boundary leave of the timetable. -/
def Tt.period (v : Tt) : List Admitted × Nat × BitVec 64 × Bool × Bool × Bool × BitVec 64 × (Nat × Nat) :=
  (v.admitted, v.periodUs, v.boundary, v.block12, v.block5, v.recovery, v.recoverySince, v.utilNow)

theorem State.overCharge_zero (who predicted : Nat) (s : State) : s.overCharge who 0 predicted = s := by
  rw [State.overCharge, if_neg (by omega)]

/-- A boundary at which nothing was measured corrects the spindle's history alone. -/
theorem State.correct_nothing (s : State) : ∃ hist fix,
    s.correct { cands := [], ended := [], spindle := 0, vcm := [] }
      = s.onTt fun t => { t with spinHist := hist, spinFix := fix } := by
  rw [State.correct]
  dsimp only
  rw [State.overCharge_zero]
  have hacts : ∀ (f : Fin 4 → Nat) (l : List (Fin 4)) (t : State),
      foldS (fun a t => t.overCharge a.val (nth [] a.val 0) (f a)) l t = t := by
    intro f l t
    induction l with
    | nil => rfl
    | cons a r ih =>
      have hnth : nth ([] : List Nat) a.val 0 = 0 := by simp [nth]
      rw [foldS, hnth, State.overCharge_zero, ih]
  rw [hacts]
  exact ⟨_, _, rfl⟩

theorem State.period_ite {t u s : State} {c : Prop} [Decidable c] (ht : t.tt.period = s.tt.period)
    (hu : u.tt.period = s.tt.period) : (if c then t else u).tt.period = s.tt.period := by
  split
  · exact ht
  · exact hu

theorem State.updateHeat_period (s : State) : s.updateHeat.tt.period = s.tt.period := by
  rw [State.updateHeat]
  exact State.period_ite rfl rfl

theorem State.ttBudget_period (s : State) : s.ttBudget.tt.period = s.tt.period := by
  rw [State.ttBudget]
  exact State.period_ite (t := State.fault _ _ _ s) rfl rfl

theorem State.poolPolicy_period (s : State) : s.poolPolicy.tt.period = s.tt.period := by
  have hoff : ∀ t : State, (t.switchOff 29).tt = t.tt := fun t =>
    ((State.switchOff_only 29 t (by simp) (by simp) t).2 (.refl [.dma, .pwr] t)).tt (by simp)
  have hon : ∀ t : State, (t.switchOn 29).tt = t.tt := fun t =>
    ((State.switchOn_only 29 t (by simp) (by simp) (by simp) t).2 (.refl [.dict, .msgs, .pwr] t)).tt (by simp)
  have hupper : ∀ t : State, t.upperOn.tt.period = t.tt.period := fun t => by
    rw [State.upperOn]
    exact State.period_ite ((congrArg Tt.period (hon _)).trans rfl) rfl
  rw [State.poolPolicy]
  refine State.period_ite (State.period_ite ((congrArg Tt.period (hoff _)).trans rfl) rfl)
    (State.period_ite ((hupper _).trans rfl) rfl)

/-- The boundary is the last multiple of the period. -/
theorem State.setPeriod_boundary (s : State) :
    s.setPeriod.tt.boundary.toNat % (s.setPeriod.tt.periodUs * usTicks) = 0 := by
  rw [State.setPeriod]
  generalize (if s.tt.recovery || s.passedBoundary s.periodWanted then s.periodWanted else s.tt.periodUs) = n
  show (BitVec.ofNat 64 (s.ticks - s.ticks % (n * usTicks))).toNat % (n * usTicks) = 0
  have hticks : s.ticks - s.ticks % (n * usTicks) < 2 ^ 64 := Nat.lt_of_le_of_lt (Nat.sub_le _ _) s.fab.chipTime.isLt
  rw [BitVec.toNat_ofNat, Nat.mod_eq_of_lt hticks]
  exact Nat.mod_eq_zero_of_dvd (Nat.dvd_sub_mod _)

/-- The decisions of a boundary on heat, charges and the pool. -/
def State.boundaryDecides (s : State) : State := s.updateHeat.ttBudget.poolPolicy

theorem State.boundaryDecides_keeps (s : State) : s.boundaryDecides.tt.period = s.tt.period ∧
    Only [.dict, .dma, .msgs, .pwr, .tt] s s.boundaryDecides ∧ Grows s s.boundaryDecides ∧
    KeepsObjects 0x630004 s s.boundaryDecides := by
  have hheat := (State.updateHeat_only s (by simp) (by simp) s).2 (.refl [.msgs, .tt] s)
  have hbudget := (State.ttBudget_only s.updateHeat (by simp) (by simp) _).2 (.refl [.msgs, .tt] _)
  have hpool := (State.poolPolicy_only s.updateHeat.ttBudget (by simp) (by simp) (by simp) (by simp) (by simp) _).2
    (.refl [.dict, .dma, .msgs, .pwr, .tt] _)
  have hobjects : ∀ t : State, KeepsObjects 0x630004 t t.poolPolicy := by
    intro t
    have hoff : ∀ u : State, (u.switchOff 29).dict = u.dict := fun u =>
      ((State.switchOff_only 29 u (by simp) (by simp) u).2 (.refl [.dma, .pwr] u)).dict (by simp)
    have hupper : ∀ u : State, KeepsObjects 0x630004 u u.upperOn := fun u => by
      rw [State.upperOn]
      exact .ite (.trans (t := u.onTt fun t => { t with grantAt := u.now }) (.of_dict rfl) (.switchOn 29 _))
        (.of_dict rfl)
    rw [State.poolPolicy]
    exact .ite (.ite (.of_dict ((hoff _).trans rfl)) (.of_dict rfl))
      (.ite (.trans (t := State.onTt _ t) (.of_dict rfl) (hupper _)) (.of_dict rfl))
  rw [State.boundaryDecides]
  refine ⟨?_, (hheat.mono (by simp)).trans ((hbudget.mono (by simp)).trans hpool), ?_, ?_⟩
  · rw [State.poolPolicy_period, State.ttBudget_period, State.updateHeat_period]
  · exact State.poolPolicy_grows _ (State.ttBudget_grows _ (State.updateHeat_grows _ (.refl s)))
  · exact .trans (.of_dict ((hbudget.dict (by simp)).trans (hheat.dict (by simp)))) (hobjects _)

/-- What a boundary does when nothing was measured and nothing is a candidate: the operations that have ended leave,
recovery is checked, the period is set, and the rest is decided. -/
def State.boundaryChecked (hist : List Nat) (fix : Nat) (s : State) : State :=
  (s.onTt fun t => { t with spinHist := hist, spinFix := fix, admitted := t.admitted.filter fun y => !y.ended
    }).recoveryCheck

/-- With no candidates, none waits. -/
theorem State.admitAll_none (s : State) : s.admitAll [] = (s.onTt fun t => { t with queue := [] }, false) := rfl

theorem exec_periodBoundary {s : State} (hruns : s.ttRuns = true) (hdue : s.boundaryDue = true) : ∃ hist fix,
    exec (.periodBoundary { cands := [], ended := [], spindle := 0, vcm := [] }) s
      = .next ((s.boundaryChecked hist fix).setPeriod.boundaryDecides.onTt fun t => { t with
          queue := [], utilNow := (t.utilNow.1, t.utilNow.2 + 1) }).modePump := by
  obtain ⟨hist, fix, hcorrect⟩ := State.correct_nothing s
  have hleave : (s.onTt fun t => { t with spinHist := hist, spinFix := fix }).onTt (fun t => { t with
      admitted := t.admitted.filter fun y => !y.ended }) = s.onTt fun t => { t with
        spinHist := hist, spinFix := fix, admitted := t.admitted.filter fun y => !y.ended } := rfl
  refine ⟨hist, fix, ?_⟩
  change execPeriodBoundary .. = _
  rw [execPeriodBoundary, if_neg (by simp [hruns]), if_neg (by simp [hdue])]
  dsimp only [foldS]
  rw [hcorrect, hleave, State.admitAll_none, State.boundaryChecked, State.boundaryDecides]
  generalize State.poolPolicy _ = u
  rfl

/-- The check of recovery: it leaves the operations that run, and enters recovery with those late. -/
theorem State.recoveryCheck_outside {s : State} (hout : s.tt.recovery = false) :
    s.recoveryCheck = if s.lateAdmitted = 0 then s.lateDecay else
      ((s.lateDecay.onTt fun t => { t with recovery := true, recoverySince := s.lateDecay.now }).event epTimetable 272
        s.lateAdmitted).count 0x185007 1 := by
  have hdecay : s.lateDecay.tt.recovery = false := hout
  rw [State.recoveryCheck, hdecay]
  rfl

/-- What is late among the operations is late among those that run. -/
theorem State.lateAdmitted_running (hist : List Nat) (fix : Nat) (s : State) :
    (s.onTt fun t => { t with spinHist := hist, spinFix := fix, admitted := t.admitted.filter fun y => !y.ended
      }).lateAdmitted = s.lateAdmitted := by
  rw [State.lateAdmitted, State.lateAdmitted]
  show ((s.tt.admitted.filter fun y => !y.ended).filter _).length = _
  rw [List.filter_filter]
  congr 1
  refine List.filter_congr fun x _ => ?_
  cases x.ended <;> simp <;> rfl

/-- The rest of a boundary, once recovery has been checked, where nothing is a candidate. -/
def State.boundaryRest (s : State) : State :=
  s.setPeriod.boundaryDecides.onTt fun t => { t with queue := [], utilNow := (t.utilNow.1, t.utilNow.2 + 1) }

/-- What the rest of a boundary leaves, and what it sets. -/
structure RestOfBoundary (s t : State) : Prop where
  admitted : t.tt.admitted = s.tt.admitted
  boundary : t.tt.boundary.toNat % (t.tt.periodUs * usTicks) = 0
  queue : t.tt.queue = []
  block12 : t.tt.block12 = false
  block5 : t.tt.block5 = false
  recovery : t.tt.recovery = s.tt.recovery
  since : t.tt.recoverySince = s.tt.recoverySince
  util : t.tt.utilNow = (s.tt.utilNow.1, s.tt.utilNow.2 + 1)
  frame : Only [.dict, .dma, .msgs, .pwr, .tt] s t
  grows : Grows s t
  objects : KeepsObjects 0x630004 s t

theorem State.boundaryRest_rests (s : State) : RestOfBoundary s s.boundaryRest := by
  obtain ⟨hperiod, hframe, hgrows, hobjects⟩ := State.boundaryDecides_keeps s.setPeriod
  have hboundary := State.setPeriod_boundary s
  have hset := (State.setPeriod_only s (by simp) s).2 (.refl [.tt] s)
  have hsetTt : s.setPeriod.tt.admitted = s.tt.admitted ∧ s.setPeriod.tt.block12 = false ∧
      s.setPeriod.tt.block5 = false ∧ s.setPeriod.tt.recovery = s.tt.recovery ∧
      s.setPeriod.tt.recoverySince = s.tt.recoverySince ∧ s.setPeriod.tt.utilNow = s.tt.utilNow :=
    ⟨rfl, rfl, rfl, rfl, rfl, rfl⟩
  rw [State.boundaryRest]
  generalize s.setPeriod = v at *
  generalize v.boundaryDecides = e at *
  obtain ⟨hadmitted, h12, h5, hrecovery, hsince, hutil⟩ := hsetTt
  simp only [Tt.period, Prod.mk.injEq] at hperiod
  obtain ⟨kadmitted, kperiodUs, kboundary, k12, k5, krecovery, ksince, kutil⟩ := hperiod
  have hqueue : Only [.tt] e (e.onTt fun t => { t with queue := [], utilNow := (t.utilNow.1, t.utilNow.2 + 1) }) :=
    (State.onTt_only (by simp) _ _ _).2 (.refl _ e)
  exact
    { admitted := kadmitted.trans hadmitted
      boundary := by
        show e.tt.boundary.toNat % (e.tt.periodUs * usTicks) = 0
        rw [kboundary, kperiodUs, hboundary]
      queue := rfl
      block12 := k12.trans h12
      block5 := k5.trans h5
      recovery := krecovery.trans hrecovery
      since := ksince.trans hsince
      util := by
        show (e.tt.utilNow.1, e.tt.utilNow.2 + 1) = _
        rw [kutil, hutil]
      frame := (hset.mono (by simp)).trans (hframe.trans (hqueue.mono (by simp)))
      grows := (Grows.of_eq (hset.msgs (by simp))).trans (hgrows.trans (.of_eq rfl))
      objects := .trans (.of_dict (hset.dict (by simp))) (.trans hobjects (.of_dict rfl)) }

section
variable {s : State} (hruns : s.ttRuns = true) (hdue : s.boundaryDue = true) (hentry : s.sys.entry = none)
  (hstage : s.sys.shutStage = none) (hout : s.tt.recovery = false)
include hruns hdue hentry hstage hout

theorem boundary_passes (hlate : s.lateAdmitted = 0) :
    Completes (.periodBoundary { cands := [], ended := [], spindle := 0, vcm := [] }) s fun t =>
      t.tt.admitted = s.tt.admitted.filter (fun x => !x.ended) ∧
      t.tt.boundary.toNat % (t.tt.periodUs * usTicks) = 0 ∧ t.tt.queue = [] ∧ t.tt.block12 = false ∧
      t.tt.block5 = false ∧ t.tt.recovery = false ∧ t.tt.utilNow = (s.tt.utilNow.1, s.tt.utilNow.2 + 1) ∧
      t.acts = s.acts ∧ MemorySame s t := by
  obtain ⟨hist, fix, hexec⟩ := exec_periodBoundary hruns hdue
  have hchecked : s.boundaryChecked hist fix = (s.onTt fun t => { t with spinHist := hist, spinFix := fix, admitted := t.admitted.filter fun y => !y.ended }).lateDecay := by
    rw [State.boundaryChecked, State.recoveryCheck_outside (by exact hout), State.lateAdmitted_running, if_pos hlate]
  have hframe : Only [.tt] s (s.boundaryChecked hist fix) := by
    rw [hchecked]
    exact (State.lateDecay_only _ (by simp) _).2 ((State.onTt_only (by simp) _ _ _).2 (.refl _ s))
  have hrest := State.boundaryRest_rests (s.boundaryChecked hist fix)
  have hsys : (s.boundaryChecked hist fix).boundaryRest.sys = s.sys :=
    (hrest.frame.sys (by simp)).trans (hframe.sys (by simp))
  have hsame := State.modePump_idle (s := (s.boundaryChecked hist fix).boundaryRest) (by rw [hsys, hentry])
    (by rw [hsys, hstage])
  have hexec' := hexec.trans (congrArg Host.Outcome.next hsame)
  have hall := (hframe.mono (m := [.dict, .dma, .msgs, .pwr, .tt]) (by simp)).trans hrest.frame
  refine ⟨_, hexec', hrest.admitted.trans ?_, hrest.boundary, hrest.queue, hrest.block12, hrest.block5,
    hrest.recovery.trans ?_, hrest.util.trans ?_, hall.allActs (by simp), hall.memorySame (by simp)⟩
  · rw [hchecked]
    rfl
  · rw [hchecked]
    exact hout
  · rw [hchecked]
    rfl

omit hruns hdue hentry hstage hout in
/-- One command late among the operations. -/
theorem State.lateAdmitted_one {x : Admitted} {k : Cmd} (hone : s.tt.admitted = [x]) (hx : x.ended = false)
    (hcmds : s.nvme.cmds = [k]) (hcmd : x.cmd = some k.n) (hlate : k.lateSeen = true) : s.lateAdmitted = 1 := by
  have hfound : s.cmd? k.n = some k := by simp [State.cmd?, hcmds]
  rw [State.lateAdmitted, hone]
  simp [hx, hcmd, hfound, hlate]

theorem boundary_recovers {x : Admitted} {k : Cmd} (hone : s.tt.admitted = [x]) (hx : x.ended = false)
    (hcmds : s.nvme.cmds = [k]) (hcmd : x.cmd = some k.n) (hlate : k.lateSeen = true) :
    Completes (.periodBoundary { cands := [], ended := [], spindle := 0, vcm := [] }) s fun t =>
      t.tt.recovery = true ∧ t.tt.recoverySince = s.now ∧ Sent (eventMsg epTimetable 272 1) s t ∧
      t.odNat 0x185007 0 = s.odNat 0x185007 0 + 1 ∧ t.acts = s.acts ∧ MemorySame s t := by
  obtain ⟨hist, fix, hexec⟩ := exec_periodBoundary hruns hdue
  have hcount := State.lateAdmitted_one hone hx hcmds hcmd hlate
  generalize hu : (s.onTt fun t => { t with spinHist := hist, spinFix := fix, admitted := t.admitted.filter fun y => !y.ended }).lateDecay = u
  have huframe : Only [.tt] s u := by
    rw [← hu]
    exact (State.lateDecay_only _ (by simp) _).2 ((State.onTt_only (by simp) _ _ _).2 (.refl _ s))
  have hchecked : s.boundaryChecked hist fix = ((u.onTt fun t => { t with recovery := true, recoverySince := u.now
      }).event epTimetable 272 1).count 0x185007 1 := by
    rw [State.boundaryChecked, State.recoveryCheck_outside (by exact hout), State.lateAdmitted_running, hcount,
      if_neg (by decide), hu]
  have hnow : u.now = s.now := (huframe.time (by simp)).1
  generalize hw : s.boundaryChecked hist fix = w at *
  have hframe : Only [.dict, .msgs, .tt] s w := by
    rw [hchecked]
    exact (State.count_only _ _ _ (by simp) _).2 ((State.event_only _ _ _ _ (by simp) _).2
      ((State.onTt_only (by simp) _ _ _).2 (huframe.mono (by simp))))
  have hsent : Sent (eventMsg epTimetable 272 1) s w := by
    rw [hchecked]
    refine Sent.after (t := u.onTt fun t => { t with recovery := true, recoverySince := u.now })
      (.of_eq (huframe.msgs (by simp))) ?_
    exact (Sent.send _ _).grows (.of_eq rfl)
  have hcounted : w.odNat 0x185007 0 = s.odNat 0x185007 0 + 1 := by
    rw [hchecked, State.odNat_count]
    have hdict : u.dict = s.dict := huframe.dict (by simp)
    show State.odNat u 0x185007 0 + 1 = _
    rw [State.odNat, hdict, State.odNat]
  have hrest := State.boundaryRest_rests w
  have hsys : w.boundaryRest.sys = s.sys := (hrest.frame.sys (by simp)).trans (hframe.sys (by simp))
  have hsame := State.modePump_idle (s := w.boundaryRest) (by rw [hsys, hentry]) (by rw [hsys, hstage])
  have hexec' := hexec.trans (congrArg Host.Outcome.next hsame)
  have hall := (hframe.mono (m := [.dict, .dma, .msgs, .pwr, .tt]) (by simp)).trans hrest.frame
  refine ⟨_, hexec', hrest.recovery.trans ?_, hrest.since.trans ?_, hsent.grows hrest.grows,
    (hrest.objects 0x185007 (by decide) 0).trans hcounted, hall.allActs (by simp), hall.memorySame (by simp)⟩
  · rw [hchecked]
    rfl
  · rw [← hnow, hchecked]
    rfl

end

/-! One candidate (11 R342 to R348). -/

section
variable {c : Cand} {p : Plan} {s : State} (hseek : c.seek = false) (hplans : c.plans = [p])
  (hkind : c.kind = .optional false)
include hseek hplans hkind

theorem State.plansOf_one : s.plansOf c = [p] := by
  simp [State.plansOf, hplans, hseek, hkind]

/-- Its one plan is picked if it passes. -/
theorem State.pickPlan_one (start share : Nat) :
    s.pickPlan c start share = if s.passes c.act start false p then some p else none := by
  rw [State.pickPlan, State.plansOf_one hseek hplans hkind, hkind]
  rfl

/-- A candidate whose plan does not pass, and that is not too big to run at all, leaves the machine. -/
theorem State.consider_refused {all : List Cand} {share : Nat}
    (hpass : s.passes c.act (slotOf s.ticks) false p = false) (hbig : s.tooBig c = false) :
    (State.consider all share c (s, false, [])).1 = s := by
  have hstep : s.candStep c = 5 := by rw [State.candStep, hkind]
  rw [State.consider]
  dsimp only
  rw [hstep]
  simp only [hseek, Bool.and_false, Bool.not_false, Bool.and_true, if_false, Bool.false_eq_true, Bool.false_and]
  split
  · rfl
  split
  · rfl
  split
  · rfl
  rw [State.pickPlan_one hseek hplans hkind, hpass, hbig]
  simp

/-- A candidate that may run on a free actuator, whose plan passes, is taken on with it. -/
theorem State.consider_taken {all : List Cand} {share : Nat} (hallowed : s.candAllowed c = true)
    (hnone : s.tt.admitted = []) (halone : s.tt.alone = none) (h12 : s.tt.block12 = false) (h5 : s.tt.block5 = false)
    (hpass : s.passes c.act (slotOf s.ticks) false p = true) :
    (State.consider all share c (s, false, [])).1 = s.takeOn c p s.ticks := by
  have hstep : s.candStep c = 5 := by rw [State.candStep, hkind]
  have hwin : s.obligWin c all = s := by rw [State.obligWin, hkind]
  have hbusy : s.actBusy c.act = false := by rw [State.actBusy, hnone]; rfl
  rw [State.consider]
  dsimp only
  rw [hstep]
  simp only [hseek, hallowed, hnone, halone, h12, h5, hbusy, Bool.and_false, Bool.not_false, Bool.and_true, if_false,
    Bool.false_eq_true, Bool.false_and, List.any_nil, Bool.not_true, Option.isSome_none, Bool.or_false,
    Bool.false_or, List.contains_nil, State.pickPlan_one hseek hplans hkind, hpass, if_true, hwin]

end

/-- One candidate is considered, and waits unless it has been taken on. -/
theorem State.admitAll_one (c : Cand) (s : State) :
    (s.admitAll [c]).1 = State.queueLeft [c] (State.consider [c] (s.headroom.1 / max 1 ([c].countP fun c =>
      s.candLate c && c.seek && s.candAllowed c)) c (s, false, [])).1 := rfl

/-- The admission of one candidate on its actuator. -/
theorem exec_freeAdmission {c : Cand} {s : State} (hruns : s.ttRuns = true) :
    exec (.actuatorFreeAdmission c.act { cands := [c], ended := [], spindle := 0, vcm := [] }) s
      = .next (s.admitAll [c]).1 := by
  change execActuatorFreeAdmission .. = _
  rw [execActuatorFreeAdmission, if_neg (by simp [hruns])]
  simp [foldS]

theorem candidate_admitted {c : Cand} {p : Plan} {s : State} (hruns : s.ttRuns = true) (hseek : c.seek = false)
    (hplans : c.plans = [p]) (hkind : c.kind = .optional false) (hallowed : s.candAllowed c = true)
    (hnone : s.tt.admitted = []) (halone : s.tt.alone = none) (h12 : s.tt.block12 = false) (h5 : s.tt.block5 = false)
    (hpass : s.passes c.act (slotOf s.ticks) false p = true) :
    Completes (.actuatorFreeAdmission c.act { cands := [c], ended := [], spindle := 0, vcm := [] }) s fun t =>
      t = s.onTt fun v => { v with queue := [], admitted := [{ id := c.id, act := c.act, cmd := none, kind := none, cls := p.cls, seek := false, start := slotOf s.ticks, mA12 := s.plan12 c.act p, mA5 := s.plan5 p, raw := s.seekCharge p, ended := false }] } := by
  refine ⟨_, exec_freeAdmission hruns, ?_⟩
  rw [State.admitAll_one, State.consider_taken hseek hplans hkind hallowed hnone halone h12 h5 hpass, State.takeOn,
    hkind]
  dsimp only
  rw [State.queueLeft, State.onTt, State.onTt, State.onTt]
  simp [hnone, hseek, candKind, hkind]

theorem candidate_refused {c : Cand} {p : Plan} {s : State} (hruns : s.ttRuns = true) (hseek : c.seek = false)
    (hplans : c.plans = [p]) (hkind : c.kind = .optional false)
    (hpass : s.passes c.act (slotOf s.ticks) false p = false) (hbig : s.tooBig c = false) :
    Completes (.actuatorFreeAdmission c.act { cands := [c], ended := [], spindle := 0, vcm := [] }) s fun t =>
      t.tt.admitted = s.tt.admitted ∧
      (s.tt.admitted.any (fun x => x.id == c.id && !x.ended) = false → t.tt.queue = [c]) ∧
      t.tt.seekAt = s.tt.seekAt ∧ t.fab = s.fab ∧ t.acts = s.acts := by
  refine ⟨_, exec_freeAdmission hruns, ?_⟩
  rw [State.admitAll_one, State.consider_refused hseek hplans hkind hpass hbig]
  refine ⟨rfl, fun hout => ?_, rfl, rfl, rfl⟩
  show [c].filter (fun c => !s.tt.admitted.any fun x => x.id == c.id && !x.ended) = [c]
  simp [hout]

/-! Deadlines (11 R350, R351). -/

theorem command_late {n : Nat} {k : Cmd} {s : State} (hone : s.nvme.cmds = [k]) (hn : k.n = n)
    (hdue : k.due.toNat ≤ s.ticks) :
    Completes (.commandDeadline n) s fun t => t.nvme.cmds = [{ k with lateSeen := true }] ∧ t.fab = s.fab ∧
      t.tt = s.tt ∧ t.acts = s.acts := by
  refine ⟨_, rfl, ?_, rfl, rfl, rfl⟩
  show s.nvme.cmds.map _ = _
  rw [hone]
  simp [hn, hdue]

theorem obligation_missed {o : Oblig} {s : State} (hone : s.tt.oblig = [o]) (hnew : o.missed = false)
    (hdue : o.due.toNat ≤ s.ticks) :
    Completes (.obligatoryDeadlineMiss o.job) s fun t => t.tt.oblig = [{ o with missed := true }] ∧
      SentOnly [faultMsg epTimetable 150 o.kind (s.localTime epTimetable)] s t ∧ t.acts = s.acts := by
  have hhit : (o.job == o.job && !o.missed && decide (o.due.toNat ≤ s.ticks)) = true := by simp [hnew, hdue]
  have hfound : s.tt.oblig.find? (fun y => y.job == o.job && !y.missed && decide (y.due.toNat ≤ s.ticks)) =
    some o := by
    rw [hone]
    exact List.find?_cons_of_pos hhit
  have hexec : exec (.obligatoryDeadlineMiss o.job) s = .next ((s.onTt fun t => { t with
      oblig := mapFirst (fun y => y.job == o.job && !y.missed && decide (y.due.toNat ≤ s.ticks))
        (fun y => { y with missed := true }) t.oblig }).fault epTimetable 150 o.kind) := by
    change execObligatoryDeadlineMiss .. = _
    rw [execObligatoryDeadlineMiss, hfound]
  refine ⟨_, hexec, ?_, rfl, rfl⟩
  show mapFirst _ _ s.tt.oblig = _
  rw [hone, mapFirst, if_pos hhit]

/-- Settles O35: a boundary by its steps, a candidate by its one plan, and the deadlines directly. -/
theorem timetablePeriodsAndAdmission : Obligations.TimetablePeriodsAndAdmission := by
  unfold Obligations.TimetablePeriodsAndAdmission
  refine ⟨?_, ?_, ?_, ?_, ?_, ?_⟩
  · exact fun s ⟨hruns, hdue, hentry, hstage, hout, hlate⟩ => boundary_passes hruns hdue hentry hstage hout hlate
  · exact fun x k s ⟨hruns, hdue, hentry, hstage, hout, hone, hx, hcmds, hcmd, hlate⟩ =>
      boundary_recovers hruns hdue hentry hstage hout hone hx hcmds hcmd hlate
  · rintro a c p s ⟨hruns, rfl, hseek, hplans, hkind, hallowed, hnone, halone, h12, h5, hpass⟩
    exact candidate_admitted hruns hseek hplans hkind hallowed hnone halone h12 h5 hpass
  · rintro a c p s ⟨hruns, rfl, hseek, hplans, hkind, hpass, hbig⟩
    exact candidate_refused hruns hseek hplans hkind hpass hbig
  · exact fun n k s ⟨hone, hn, hdue⟩ => command_late hone hn hdue
  · exact fun o s ⟨hone, hnew, hdue⟩ => obligation_missed hone hnew hdue

end Sys2Proof.Machine

/-! SUPPORT. Frames of the mode's steps, and of journal commits. -/

namespace Sys2Proof.Machine

open Sys2Proof

set_option Elab.async false

theorem State.entryPump_only {ps : List Part} (s : State)
    (h_acts : .acts ∈ ps) (h_dict : .dict ∈ ps) (h_msgs : .msgs ∈ ps) (h_nvme : .nvme ∈ ps) (h_rc : .rc ∈ ps)
        (h_sys : .sys ∈ ps) (z : State) : Only ps z (State.entryPump s) ↔ Only ps z s := by
  unfold State.entryPump
  (repeat' split) <;> simp only [Only.ite, Only.refl, ite_self, State.event_only, State.onSys_only,
      State.pumpMotion_only, h_acts, h_dict, h_msgs, h_nvme, h_rc, h_sys, or_true, implies_true]

theorem State.retractAll_only {ps : List Part} (s : State)
    (h_acts : .acts ∈ ps) (h_dict : .dict ∈ ps) (h_msgs : .msgs ∈ ps) (h_rc : .rc ∈ ps) (z : State) :
        Only ps z (State.retractAll s) ↔ Only ps z s := by
  unfold State.retractAll
  simp only [Only.ite, Only.refl, ite_self, Only.foldS, State.startUnload_only, h_acts, h_dict, h_msgs, h_rc,
    or_true, implies_true]

theorem State.resetRetract_only {ps : List Part} (s : State)
    (h_acts : .acts ∈ ps) (h_dict : .dict ∈ ps) (h_msgs : .msgs ∈ ps) (h_rc : .rc ∈ ps) (h_sys : .sys ∈ ps)
        (z : State) : Only ps z (State.resetRetract s) ↔ Only ps z s := by
  unfold State.resetRetract
  simp only [Only.ite, Only.refl, ite_self, State.onSys_only, State.retractAll_only, h_acts, h_dict, h_msgs, h_rc,
    h_sys, or_true, implies_true]

theorem State.shutRecord_only {ps : List Part} (k : ShutKind) (s : State)
    (h_acts : .acts ∈ ps) (h_dict : .dict ∈ ps) (h_msgs : .msgs ∈ ps) (h_nvme : .nvme ∈ ps) (h_rc : .rc ∈ ps)
        (h_sys : .sys ∈ ps) (h_yb : .yb ∈ ps) (z : State) : Only ps z (State.shutRecord k s) ↔ Only ps z s := by
  unfold State.shutRecord
  dsimp only
  simp only [Only.ite, Only.refl, ite_self, State.onSys_only, State.pumpMotion_only, State.resetRetract_only,
    State.ybAppend_only, h_acts, h_dict, h_msgs, h_nvme, h_rc, h_sys, h_yb, or_true, implies_true]

theorem State.spnStop_only {ps : List Part} (s : State)
    (h_dict : .dict ∈ ps) (h_free : .free ∈ ps) (h_msgs : .msgs ∈ ps) (h_spn : .spn ∈ ps) (z : State) :
        Only ps z (State.spnStop s) ↔ Only ps z s := by
  unfold State.spnStop
  dsimp only
  (repeat' split) <;> simp only [Only.ite, Only.refl, ite_self, Only.doIf, State.announce_only, State.event_only,
      State.onSpn_only, State.spnEnter_only, h_dict, h_free, h_msgs, h_spn, or_true, implies_true]

theorem State.shutStep_only {ps : List Part} (s : State)
    (h_acts : .acts ∈ ps) (h_dict : .dict ∈ ps) (h_free : .free ∈ ps) (h_msgs : .msgs ∈ ps) (h_nvme : .nvme ∈ ps)
        (h_plc : .plc ∈ ps) (h_rc : .rc ∈ ps) (h_spn : .spn ∈ ps) (h_sys : .sys ∈ ps) (h_yb : .yb ∈ ps)
        (z : State) : Only ps z (State.shutStep s) ↔ Only ps z s := by
  unfold State.shutStep
  dsimp only
  (repeat' split) <;> simp only [Only.ite, Only.refl, ite_self, State.onSys_only, State.pumpMotion_only,
      State.shutRecord_only, State.spnStop_only, State.startCheckpoint_only, h_acts, h_dict, h_free, h_msgs,
      h_nvme, h_plc, h_rc, h_spn, h_sys, h_yb, or_true, implies_true]

theorem State.modePump_only {ps : List Part} (s : State)
    (h_acts : .acts ∈ ps) (h_dict : .dict ∈ ps) (h_free : .free ∈ ps) (h_msgs : .msgs ∈ ps) (h_nvme : .nvme ∈ ps)
        (h_plc : .plc ∈ ps) (h_rc : .rc ∈ ps) (h_spn : .spn ∈ ps) (h_sys : .sys ∈ ps) (h_yb : .yb ∈ ps)
        (z : State) : Only ps z (State.modePump s) ↔ Only ps z s := by
  unfold State.modePump
  simp only [Only.ite, Only.refl, ite_self, State.entryPump_only, State.shutStep_only, h_acts, h_dict, h_free,
    h_msgs, h_nvme, h_plc, h_rc, h_spn, h_sys, h_yb, or_true, implies_true]

theorem State.obligDone_only {ps : List Part} (kind job : Nat) (s : State)
    (h_tt : .tt ∈ ps) (z : State) : Only ps z (State.obligDone kind job s) ↔ Only ps z s := by
  unfold State.obligDone
  simp only [Only.ite, Only.refl, ite_self, State.onTt_only, h_tt, or_true, implies_true]

theorem State.moveTails_only {ps : List Part} (s : State)
    (h_mem : .mem ∈ ps) (h_plc : .plc ∈ ps) (z : State) : Only ps z (State.moveTails s) ↔ Only ps z s := by
  unfold State.moveTails
  dsimp only
  simp only [Only.ite, Only.refl, ite_self, State.onPlc_only, State.write_only, h_mem, h_plc, or_true, implies_true]

theorem State.makeSafe_grows {z : State} (a : Fin 4) (s : State) (h : Grows z s) : Grows z (State.makeSafe a s) :=
  h.trans (.of_eq (((State.makeSafe_only (ps := [.act a]) a s (h_act_a := by simp) s).2 (.refl _ _)).msgs (by simp)))

theorem State.onCmd_grows {z : State} (n : Nat) (f : Cmd → Cmd) (s : State) (h : Grows z s) :
    Grows z (State.onCmd n f s) :=
  h.trans (.of_eq (((State.onCmd_only (ps := [.nvme]) n f s (h_nvme := by simp) s).2 (.refl _ _)).msgs (by simp)))

theorem State.vcmSend_grows {z : State} (a : Fin 4) (mode : BitVec 2) (value : BitVec 16) (s : State)
    (h : Grows z s) : Grows z (State.vcmSend a mode value s) :=
  h.trans (.of_eq (((State.vcmSend_only (ps := [.act a]) a mode value s (h_act_a := by simp) s).2 (.refl _ _)).msgs
    (by simp)))

theorem State.startCoil_grows {z : State} (a : Fin 4) (s : State) (h : Grows z s) : Grows z (State.startCoil a s) :=
  h.trans (.of_eq (((State.startCoil_only (ps := [.act a]) a s (h_act_a := by simp) s).2 (.refl _ _)).msgs (by simp)))

theorem State.startCheckpoint_grows {z : State} (s : State) (h : Grows z s) : Grows z (State.startCheckpoint s) :=
  h.trans (.of_eq (((State.startCheckpoint_only (ps := [.plc]) s (h_plc := by simp) s).2 (.refl _ _)).msgs (by simp)))

theorem State.driveGates_grows {z : State} (want : BitVec 6) (s : State) (h : Grows z s) :
    Grows z (State.driveGates want s) :=
  h.trans (.of_eq (((State.driveGates_only (ps := [.spn]) want s (h_spn := by simp) s).2 (.refl _ _)).msgs (by simp)))

theorem State.takeParams_grows {z : State} (s : State) (h : Grows z s) : Grows z (State.takeParams s) :=
  h.trans (.of_eq (((State.takeParams_only (ps := [.dict, .spn]) s (h_dict := by simp) (h_spn := by simp) s).2
    (.refl _ _)).msgs (by simp)))

theorem State.islandRequest_grows {z : State} (a : Fin 4) (s : State) (h : Grows z s) :
    Grows z (State.islandRequest a s) := by
  unfold State.islandRequest
  repeat' first
    | with_reducible exact h
    | intro _ _ h
    | with_reducible apply State.wpCause_grows

theorem State.startUnload_grows {z : State} (a : Fin 4) (retract : Bool) (s : State) (h : Grows z s) :
    Grows z (State.startUnload a retract s) := by
  unfold State.startUnload
  dsimp only
  repeat' split
  all_goals repeat' first
    | with_reducible exact h
    | intro _ _ h
    | with_reducible apply Grows.ite
    | with_reducible apply State.islandRequest_grows
    | with_reducible apply State.makeSafe_grows
    | with_reducible apply State.onIsl_grows

theorem State.postAen_grows {z : State} (c : Fin 2) (type info : Nat) (s : State) (h : Grows z s) :
    Grows z (State.postAen c type info s) := by
  unfold State.postAen
  dsimp only
  repeat' split
  all_goals repeat' first
    | with_reducible exact h
    | intro _ _ h
    | with_reducible apply Grows.ite
    | with_reducible apply State.event_grows
    | with_reducible apply State.onCmd_grows
    | with_reducible apply State.onNvme_grows

theorem State.notice_grows {z : State} (c : Fin 2) (info : Nat) (s : State) (h : Grows z s) :
    Grows z (State.notice c info s) := by
  unfold State.notice
  repeat' first
    | with_reducible exact h
    | intro _ _ h
    | with_reducible apply Grows.ite
    | with_reducible apply State.postAen_grows

theorem State.startAttempt_grows {z : State} (a : Fin 4) (attempt : BitVec 4) (s : State) (h : Grows z s) :
    Grows z (State.startAttempt a attempt s) := by
  unfold State.startAttempt
  dsimp only
  repeat' first
    | with_reducible exact h
    | intro _ _ h
    | with_reducible apply Grows.ite
    | with_reducible apply State.notice_grows
    | with_reducible apply State.onIsl_grows
    | with_reducible apply State.startCoil_grows
    | with_reducible apply State.vcmSend_grows

theorem State.startLoad_grows {z : State} (a : Fin 4) (s : State) (h : Grows z s) :
    Grows z (State.startLoad a s) := by
  unfold State.startLoad
  repeat' first
    | with_reducible exact h
    | intro _ _ h
    | with_reducible apply Grows.ite
    | with_reducible apply State.onIsl_grows
    | with_reducible apply State.startAttempt_grows

theorem State.pumpMotion_grows {z : State} (s : State) (h : Grows z s) : Grows z (State.pumpMotion s) := by
  unfold State.pumpMotion
  repeat' split
  all_goals repeat' first
    | with_reducible exact h
    | intro _ _ h
    | with_reducible apply Grows.ite
    | with_reducible apply State.startLoad_grows
    | with_reducible apply State.startUnload_grows

theorem State.entryPump_grows {z : State} (s : State) (h : Grows z s) : Grows z (State.entryPump s) := by
  unfold State.entryPump
  repeat' split
  all_goals repeat' first
    | with_reducible exact h
    | intro _ _ h
    | with_reducible apply Grows.ite
    | with_reducible apply State.event_grows
    | with_reducible apply State.onSys_grows
    | with_reducible apply State.pumpMotion_grows

theorem State.retractAll_grows {z : State} (s : State) (h : Grows z s) : Grows z (State.retractAll s) := by
  unfold State.retractAll
  repeat' first
    | with_reducible exact h
    | intro _ _ h
    | with_reducible apply Grows.foldS
    | with_reducible apply State.startUnload_grows

theorem State.resetRetract_grows {z : State} (s : State) (h : Grows z s) : Grows z (State.resetRetract s) := by
  unfold State.resetRetract
  repeat' first
    | with_reducible exact h
    | intro _ _ h
    | with_reducible apply State.onSys_grows
    | with_reducible apply State.retractAll_grows

theorem State.shutRecord_grows {z : State} (k : ShutKind) (s : State) (h : Grows z s) :
    Grows z (State.shutRecord k s) := by
  unfold State.shutRecord
  dsimp only
  repeat' first
    | with_reducible exact h
    | intro _ _ h
    | with_reducible apply Grows.ite
    | with_reducible apply State.onSys_grows
    | with_reducible apply State.pumpMotion_grows
    | with_reducible apply State.resetRetract_grows
    | with_reducible apply State.ybAppend_grows

theorem State.spnEnter_grows {z : State} (st : SpnState) (s : State) (h : Grows z s) :
    Grows z (State.spnEnter st s) := by
  unfold State.spnEnter
  dsimp only
  repeat' first
    | with_reducible exact h
    | intro _ _ h
    | with_reducible apply Grows.doIf
    | with_reducible apply Grows.ite
    | with_reducible apply State.driveGates_grows
    | with_reducible apply State.event_grows
    | with_reducible apply State.onSpn_grows
    | with_reducible apply State.takeFree_grows
    | with_reducible apply State.takeParams_grows

theorem State.sendNotice_grows {z : State} (n : NoticeForce) (s : State) (h : Grows z s) :
    Grows z (State.sendNotice n s) := by
  unfold State.sendNotice
  dsimp only
  repeat' first
    | with_reducible exact h
    | intro _ _ h
    | with_reducible apply Grows.foldS
    | with_reducible apply State.onSpn_grows
    | with_reducible apply State.send_grows

theorem State.announce_grows {z : State} (target : BitVec 17) (rate : Nat) (s : State) (h : Grows z s) :
    Grows z (State.announce target rate s) := by
  unfold State.announce
  repeat' first
    | with_reducible exact h
    | intro _ _ h
    | with_reducible apply Grows.ite
    | with_reducible apply State.sendNotice_grows

theorem State.spnStop_grows {z : State} (s : State) (h : Grows z s) : Grows z (State.spnStop s) := by
  unfold State.spnStop
  dsimp only
  repeat' split
  all_goals repeat' first
    | with_reducible exact h
    | intro _ _ h
    | with_reducible apply Grows.doIf
    | with_reducible apply State.announce_grows
    | with_reducible apply State.event_grows
    | with_reducible apply State.onSpn_grows
    | with_reducible apply State.spnEnter_grows

theorem State.shutStep_grows {z : State} (s : State) (h : Grows z s) : Grows z (State.shutStep s) := by
  unfold State.shutStep
  dsimp only
  repeat' split
  all_goals repeat' first
    | with_reducible exact h
    | intro _ _ h
    | with_reducible apply Grows.ite
    | with_reducible apply State.onSys_grows
    | with_reducible apply State.pumpMotion_grows
    | with_reducible apply State.shutRecord_grows
    | with_reducible apply State.spnStop_grows
    | with_reducible apply State.startCheckpoint_grows

theorem State.modePump_grows {z : State} (s : State) (h : Grows z s) : Grows z (State.modePump s) := by
  unfold State.modePump
  repeat' first
    | with_reducible exact h
    | intro _ _ h
    | with_reducible apply State.entryPump_grows
    | with_reducible apply State.shutStep_grows

end Sys2Proof.Machine

/-! PROOFS. Journal commits and checkpoints (10 R316 to R322). -/

namespace Sys2Proof.Machine

open Sys2Proof

set_option Elab.async false

/-! The mode's steps (02 R50, R53). -/

/-- What the mode's steps leave of the journal. -/
def Plc.written (p : Plc) : Nat × Four SysCopy × Nat := (p.durable, p.copies, p.ckptSeq)

theorem State.written_ite {t u s : State} {c : Prop} [Decidable c] (ht : t.plc.written = s.plc.written)
    (hu : u.plc.written = s.plc.written) : (if c then t else u).plc.written = s.plc.written := by
  split
  · exact ht
  · exact hu

theorem State.startCheckpoint_written (s : State) : s.startCheckpoint.plc.written = s.plc.written := by
  rw [State.startCheckpoint]
  split <;> rfl

theorem State.shutStep_written (s : State) : s.shutStep.plc.written = s.plc.written := by
  have hrecord : ∀ k, (s.shutRecord k).plc.written = s.plc.written := fun k => congrArg Plc.written
    (((State.shutRecord_only k s (by simp) (by simp) (by simp) (by simp) (by simp) (by simp) (by simp) s).2
      (.refl [.acts, .dict, .msgs, .nvme, .rc, .sys, .yb] s)).plc (by simp))
  have hpump : ∀ t : State, t.pumpMotion.plc.written = t.plc.written := fun t => congrArg Plc.written
    (((State.pumpMotion_only t (by simp) (by simp) (by simp) (by simp) (by simp) t).2
      (.refl [.acts, .dict, .msgs, .nvme, .rc] t)).plc (by simp))
  have hstop : s.spnStop.plc.written = s.plc.written := congrArg Plc.written
    (((State.spnStop_only s (by simp) (by simp) (by simp) (by simp) s).2 (.refl [.dict, .free, .msgs, .spn] s)).plc
      (by simp))
  have hckpt : ∀ f, (s.startCheckpoint.onSys f).plc.written = s.plc.written := fun _ => s.startCheckpoint_written
  have hbraking : ∀ f, (s.onSys f).pumpMotion.plc.written = s.plc.written := fun f => hpump (s.onSys f)
  rw [State.shutStep]
  split
  · exact State.written_ite rfl (State.written_ite (hrecord _)
      (State.written_ite rfl (State.written_ite (hckpt _) (hrecord _))))
  · exact State.written_ite rfl (hrecord _)
  · exact State.written_ite (hbraking _) (hpump s)
  · exact State.written_ite hstop (hpump s)
  · exact hpump s
  · rfl

theorem State.modePump_written (s : State) : s.modePump.plc.written = s.plc.written := by
  have hentry : s.entryPump.plc.written = s.plc.written := congrArg Plc.written
    (((State.entryPump_only s (by simp) (by simp) (by simp) (by simp) (by simp) (by simp) s).2
      (.refl [.acts, .dict, .msgs, .nvme, .rc, .sys] s)).plc (by simp))
  rw [State.modePump, State.shutStep_written, hentry]

theorem State.modePump_frame (s : State) :
    Only [.acts, .dict, .free, .msgs, .nvme, .plc, .rc, .spn, .sys, .yb] s s.modePump :=
  (State.modePump_only s (by simp) (by simp) (by simp) (by simp) (by simp) (by simp) (by simp) (by simp) (by simp)
    (by simp) s).2 (.refl _ s)

/-! Journal sectors (10 R317). -/

/-- The sectors hold the entries, in order. -/
theorem flatMap_entries_jSectors (n seq ck : Nat) (l : List JEntry) (h : l.length ≤ n) :
    (jSectors n seq ck l).flatMap (fun j => j.entries) = l := by
  induction n generalizing seq l with
  | zero => simp_all [jSectors]
  | succ n ih =>
    cases l with
    | nil => rfl
    | cons e r =>
      have hdrop : ((e :: r).drop 127).length ≤ n := by
        rw [List.length_drop]
        simp only [List.length_cons] at h ⊢
        omega
      rw [jSectors, if_neg (by simp), List.flatMap_cons, ih _ _ hdrop, List.take_append_drop]

/-- They are numbered on from the first. -/
theorem map_seq_jSectors (n seq ck : Nat) (l : List JEntry) :
    (jSectors n seq ck l).map (fun j => j.seq) = (List.range (jSectors n seq ck l).length).map fun i => seq + i := by
  induction n generalizing seq l with
  | zero => rfl
  | succ n ih =>
    rw [jSectors]
    split
    · rfl
    · rw [List.map_cons, ih, List.length_cons, List.range_succ_eq_map, List.map_cons, List.map_map, Nat.add_zero]
      congr 1
      refine List.map_congr_left fun i _ => ?_
      simp only [Function.comp_apply]
      omega

/-! Commits (10 R319). -/

theorem commit_starts {order : List (Fin 4)} {s : State} (hidle : s.plc.commit = none) (hpend : s.plc.pend ≠ [])
    (hquorum : s.p1410Quorum ≤ ((order.filter fun a => s.usable a).eraseDups).length) (h1 : 1 ≤ s.p1410Quorum)
    (hdue : s.commitDue = true) :
    Completes (.commitStart order) s fun t => t.plc.pend = [] ∧ t.plc.pendSince = none ∧
      (t.plc.commit.map fun c => c.sectors.flatMap fun j => j.entries) = some s.plc.pend ∧
      (t.plc.commit.map fun c => (c.used, c.done, c.missed)) = some (s.p1410Quorum, 0, s.plc.pendMissed) ∧
      (t.plc.commit.map fun c => c.sectors.map fun j => j.seq)
        = some ((List.range (t.plc.seq - s.plc.seq)).map fun i => s.plc.seq + 1 + i) ∧
      t.fab = s.fab ∧ t.acts = s.acts := by
  have hused : (((order.filter fun a => s.usable a).eraseDups).take s.p1410Quorum).length = s.p1410Quorum := by
    rw [List.length_take, Nat.min_eq_left hquorum]
  generalize hu : ((order.filter fun a => s.usable a).eraseDups).take s.p1410Quorum = use at hused
  have hnone : use.isEmpty = false := by
    cases use with
    | nil => simp at hused; omega
    | cons => rfl
  generalize hsecs : jSectors s.plc.pend.length (s.plc.seq + 1) s.plc.ckptSeq s.plc.pend = secs
  have hentries : secs.flatMap (fun j => j.entries) = s.plc.pend := by
    rw [← hsecs]
    exact flatMap_entries_jSectors _ _ _ _ (Nat.le_refl _)
  have hseqs : secs.map (fun j => j.seq) = (List.range secs.length).map fun i => s.plc.seq + 1 + i := by
    rw [← hsecs]
    exact map_seq_jSectors _ _ _ _
  have hexec : exec (.commitStart order) s = .next ((s.onPlc fun p => { p with
      pend := [], pendSince := none, pendAt := none, pendMissed := false
      commit := some { sectors := secs, acts := use.foldl (fun m a => actPut m a true) 0, done := 0, used := use.length, since := s.plc.pendSince, missed := s.plc.pendMissed }
      seq := p.seq + secs.length, sinceCkpt := p.sinceCkpt + secs.length }).obligDone 3 0) := by
    have hsome : (s.plc.commit.isSome || s.plc.pend.isEmpty) = false := by simp [hidle, hpend]
    change execCommitStart .. = _
    rw [execCommitStart, if_pos hdue, State.startCommit, hsome, if_neg Bool.false_ne_true]
    dsimp only
    rw [hu, hnone, if_neg Bool.false_ne_true, if_neg (by omega), hsecs]
  refine ⟨_, hexec, rfl, rfl, congrArg some hentries, ?_, ?_, rfl, rfl⟩
  · rw [← hused]
    rfl
  · have hcount : s.plc.seq + secs.length - s.plc.seq = secs.length := by omega
    show some (secs.map fun j => j.seq) = some ((List.range (s.plc.seq + secs.length - s.plc.seq)).map _)
    rw [hcount, hseqs]

theorem commit_waits {order : List (Fin 4)} {s : State}
    (h : s.plc.commit.isSome = true ∨ s.plc.pend = [] ∨ s.commitDue = false) :
    Completes (.commitStart order) s fun t => t = s := by
  refine ⟨s, ?_, rfl⟩
  change execCommitStart .. = _
  rw [execCommitStart]
  split
  · next hdue =>
    have hnot : (s.plc.commit.isSome || s.plc.pend.isEmpty) = true := by
      rcases h with h | h | h
      · rw [h, Bool.true_or]
      · simp [h]
      · simp [h] at hdue
    rw [State.startCommit, hnot, if_pos rfl]
  · rfl

theorem commit_misses {c : Commit} {s : State} (hruns : s.plc.commit = some c) (hnew : c.missed = false)
    (hpast : s.deadlinePast c.since = true) :
    Completes .commitDeadlineMiss s fun t => t.plc = { s.plc with commit := some { c with missed := true } } ∧
      SentOnly [faultMsg epPlacement 28 (actCountIn c.done) (s.localTime epPlacement)] s t ∧ t.acts = s.acts := by
  have hexec : exec .commitDeadlineMiss s = .next ((s.onPlc fun p => { p with commit := some { c with missed := true }
      }).fault epPlacement 28 (actCountIn c.done)) := by
    change execCommitDeadlineMiss .. = _
    rw [execCommitDeadlineMiss, hruns]
    dsimp only
    rw [if_neg (by simp [hnew, hpast])]
  exact ⟨_, hexec, rfl, rfl, rfl⟩

theorem commit_inTime {s : State} (hruns : ∀ c, s.plc.commit = some c → s.deadlinePast c.since = false)
    (hpend : s.deadlinePast s.plc.pendSince = false) : Completes .commitDeadlineMiss s fun t => t = s := by
  refine ⟨s, ?_, rfl⟩
  change execCommitDeadlineMiss .. = _
  rw [execCommitDeadlineMiss]
  cases hc : s.plc.commit with
  | none =>
    dsimp only
    rw [if_pos (by simp [hpend])]
  | some c =>
    dsimp only
    rw [if_pos (by simp [hruns c hc])]

/-! The copies of a commit (10 R319, R320). -/

/-- What the journal and the machine keep of an entry that has become durable. -/
def EntryKeeps (t u : State) : Prop := u.plc.written = t.plc.written ∧ Only [.buf, .nvme, .plc] t u

theorem EntryKeeps.refl (t : State) : EntryKeeps t t := ⟨rfl, .refl _ t⟩

theorem EntryKeeps.trans {s t u : State} (h : EntryKeeps s t) (k : EntryKeeps t u) : EntryKeeps s u :=
  ⟨k.1.trans h.1, h.2.trans k.2⟩

theorem EntryKeeps.groupDurable (n : Nat) (t : State) : EntryKeeps t (t.groupDurable n) :=
  ⟨rfl, (State.onBuf_only (by simp) _ _ _).2 ((State.onNvme_only (by simp) _ _ _).2 (.refl [.buf, .nvme, .plc] t))⟩

theorem EntryKeeps.freed (l : Loc) (t : State) : EntryKeeps t (t.applyEntry (.freed l)) := by
  rw [State.applyEntry]
  exact ⟨rfl, (State.onPlc_only (by simp) _ _ _).2 (.refl [.buf, .nvme, .plc] t)⟩

theorem State.moveTails_keeps (s : State) : s.moveTails.plc.written = s.plc.written ∧ Only [.plc] s s.moveTails := by
  rw [State.moveTails]
  split
  · exact ⟨rfl, (State.onPlc_only (by simp) _ _ _).2 (.refl [.plc] s)⟩
  · exact ⟨rfl, .refl _ s⟩

/-- The catching up that a commit asks of the actuators without it. -/
theorem State.lagging_frame (l : List (Fin 4)) (r : State) :
    Only [.tt] r (foldS (fun a t => (t.obligDone 6 a.val).oblige 6 a.val (some a) 1000) l r) :=
  foldS_keeps (Only [.tt] r) _ (fun a t ht =>
    (State.oblige_only 6 a.val (some a) 1000 _ (by simp) r).2 ((State.obligDone_only 6 a.val t (by simp) r).2 ht))
    l (.refl _ r)

/-- What a durable commit leaves. -/
theorem State.commitDurable_keeps (c : Commit) (s : State) :
    (s.commitDurable c).plc.durable = s.plc.durable + c.sectors.length ∧
      (s.commitDurable c).plc.copies = s.plc.copies ∧ (s.commitDurable c).recov.detentionSaved = s.recov.detention ∧
      Only [.buf, .dict, .msgs, .nvme, .plc, .recov, .tt] s (s.commitDurable c) := by
  rw [State.commitDurable]
  generalize hu : State.onRecov (fun r => { r with detentionSaved := r.detention }) (s.onPlc _) = u
  have huwritten : u.plc.written = (s.plc.durable + c.sectors.length, s.plc.copies,
    s.plc.ckptSeq) := by rw [← hu]; rfl
  have husaved : u.recov.detentionSaved = s.recov.detention := by rw [← hu]; rfl
  have huframe : Only [.plc, .recov] s u := by
    rw [← hu]
    exact (State.onRecov_only (by simp) _ _ _).2 ((State.onPlc_only (by simp) _ _ _).2 (.refl _ s))
  have hentries := foldS_keeps (EntryKeeps u) (fun e t => match e with
    | .groupEnd n => if n = 0 then t else t.groupDurable n
    | .freed _ => t.applyEntry e
    | _ => t) (fun e t ht => by
      cases e with
      | groupEnd n =>
        dsimp only
        split
        · exact ht
        · exact ht.trans (.groupDurable n t)
      | freed l => exact ht.trans (.freed l t)
      | _ => exact ht) (c.sectors.flatMap fun j => j.entries) (.refl u)
  generalize foldS _ (c.sectors.flatMap fun j => j.entries) u = v at hentries ⊢
  obtain ⟨hvwritten, hvframe⟩ := hentries
  generalize hr : State.onNvme _ v = r
  have hrplc : r.plc = v.plc := by rw [← hr]; rfl
  have hrframe : Only [.nvme] v r := by
    rw [← hr]
    exact (State.onNvme_only (by simp) _ _ _).2 (.refl _ v)
  generalize hw : foldS _ _ r = w
  have hwframe : Only [.tt] r w := hw ▸ State.lagging_frame _ r
  obtain ⟨htails, htailsframe⟩ := (w.count 0x141008 1).moveTails_keeps
  generalize (w.count 0x141008 1).moveTails = x at htails htailsframe ⊢
  have hcount : Only [.dict] w (w.count 0x141008 1) := (State.count_only _ _ w (by simp) w).2 (.refl _ w)
  have hcheck : Only [.buf, .msgs] x x.dirtyCheck := (State.dirtyCheck_only x (by simp) (by simp) x).2 (.refl _ x)
  have hwritten : x.dirtyCheck.plc.written = (s.plc.durable + c.sectors.length, s.plc.copies, s.plc.ckptSeq) := by
    rw [hcheck.plc (by simp), htails, hcount.plc (by simp), hwframe.plc (by simp), hrplc, hvwritten, huwritten]
  have hframe : Only [.buf, .dict, .msgs, .nvme, .plc, .tt] u x.dirtyCheck :=
    (hvframe.mono (by simp)).trans ((hrframe.mono (by simp)).trans ((hwframe.mono (by simp)).trans
      ((hcount.mono (by simp)).trans ((htailsframe.mono (by simp)).trans (hcheck.mono (by simp))))))
  refine ⟨congrArg Prod.fst hwritten, congrArg (fun k => k.2.1) hwritten, ?_,
    (huframe.mono (by simp)).trans (hframe.mono (by simp))⟩
  rw [hframe.recov (by simp), husaved]

/-- The last copy of a commit on one actuator is written. -/
theorem State.copyWritten_last {a : Fin 4} {c : Commit} {s : State} (hruns : s.plc.commit = some c)
    (hacts : c.acts = actPut 0 a true) (hdone : c.done = 0) :
    s.copyWritten a true = (s.onPlc fun p => { p with copies := p.copies.set a { s.plc.copies.get a with sectors := (s.plc.copies.get a).sectors ++ c.sectors } }).commitDurable { c with done := actPut 0 a true } := by
  have hin : ∀ b : Fin 4, actIn (actPut 0 b true) b = true ∧ actPut 0 b true ≠ 0 ∧ actIn 0 b = false := by decide
  obtain ⟨hthere, hsome, hout⟩ := hin a
  obtain ⟨sectors, acts, done, used, since, missed⟩ := c
  dsimp only at hacts hdone
  subst hacts hdone
  rw [State.copyWritten, hruns]
  dsimp only
  rw [hthere, hout, if_neg (by decide), if_pos rfl, if_pos rfl, if_neg hsome, if_pos rfl]

/-- Setting which copies are current. -/
theorem State.setCopyState_sets (m : BitVec 4) (used : Nat) (s : State) :
    (s.setCopyState m used).plc = { s.plc with copyState := m } ∧ (s.setCopyState m used).sys = s.sys ∧
      (s.setCopyState m used).fab.mem = s.fab.mem ∧ Grows s (s.setCopyState m used) := by
  rw [State.setCopyState]
  split
  · next h => exact ⟨by rw [h], rfl, rfl, .refl s⟩
  · exact ⟨rfl, rfl, rfl, .send _ _⟩

/-- A number above 0 and above each of a list's is above their maximum. -/
theorem foldl_max_lt {n m : Nat} {l : List JSector} (h : ∀ x ∈ l, x.seq < n) (hm : m < n) :
    l.foldl (fun (m : Nat) j => max m j.seq) m < n := by
  induction l generalizing m with
  | nil => exact hm
  | cons x r ih =>
    exact ih (fun y hy => h y (List.mem_cons_of_mem _ hy)) (Nat.max_lt.2 ⟨hm, h x List.mem_cons_self⟩)

/-- The only copy of a commit fails. -/
theorem State.copyWritten_fails {a : Fin 4} {c : Commit} {s : State} (hruns : s.plc.commit = some c)
    (hacts : c.acts = actPut 0 a true) (hdone : c.done = 0) :
    ∃ used at', s.copyWritten a false = (((s.onPlc fun p => { p with copies := p.copies.set a { s.plc.copies.get a with bad := true } }).fault epPlacement 29 a.val).setCopyState (actPut s.plc.copyState a false) used).onPlc fun p => { p with commit := none, seq := p.seq - c.sectors.length, pend := (c.sectors.flatMap fun j => j.entries) ++ p.pend, pendSince := c.since.orElse fun _ => p.pendSince, pendAt := at', pendMissed := c.missed } := by
  have hin : ∀ b : Fin 4, actIn (actPut 0 b true) b = true ∧ actPut (actPut 0 b true) b false = 0 ∧
    actIn 0 b = false := by
    decide
  obtain ⟨hthere, hnone, hout⟩ := hin a
  obtain ⟨sectors, acts, done, used, since, missed⟩ := c
  dsimp only at hacts hdone
  subst hacts hdone
  rw [State.copyWritten, hruns]
  dsimp only
  rw [hthere, hout, if_neg (by decide), if_neg Bool.false_ne_true, if_neg Bool.false_ne_true, if_pos hnone]
  exact ⟨_, _, rfl⟩

theorem commit_endsDurable {a : Fin 4} {c : Commit} {s : State} (hruns : s.plc.commit = some c)
    (hacts : c.acts = actPut 0 a true) (hdone : c.done = 0) :
    Completes (.commitDurable a true) s fun t => t.plc.durable = s.plc.durable + c.sectors.length ∧
      (t.plc.copies.get a).sectors = (s.plc.copies.get a).sectors ++ c.sectors ∧
      t.recov.detentionSaved = s.recov.detention ∧ MemorySame s t := by
  refine ⟨_, rfl, ?_⟩
  rw [State.copyWritten_last hruns hacts hdone]
  generalize hu : s.onPlc _ = u
  obtain ⟨hdurable, hcopies, hsaved, hframe⟩ := State.commitDurable_keeps { c with done := actPut 0 a true } u
  generalize State.commitDurable _ u = v at hdurable hcopies hsaved hframe ⊢
  have hwritten := v.modePump_written
  have hpump := v.modePump_frame
  refine ⟨?_, ?_, ?_, ?_⟩
  · rw [show v.modePump.plc.durable = v.plc.durable from congrArg Prod.fst hwritten, hdurable, ← hu]
    rfl
  · rw [show v.modePump.plc.copies = v.plc.copies from congrArg (fun k => k.2.1) hwritten, hcopies, ← hu]
    exact congrArg SysCopy.sectors (Four.get_set_same _ _ _)
  · rw [hpump.recov (by simp), hsaved, ← hu]
    rfl
  · refine .of_mem ?_
    rw [hpump.mem (by simp), hframe.mem (by simp), ← hu]
    rfl

theorem commit_fails {a : Fin 4} {c : Commit} {s : State} (hruns : s.plc.commit = some c)
    (hacts : c.acts = actPut 0 a true) (hdone : c.done = 0) (hentry : s.sys.entry = none)
    (hstage : s.sys.shutStage = none) :
    Completes (.commitDurable a false) s fun t => t.plc.commit = none ∧
      t.plc.pend = (c.sectors.flatMap fun j => j.entries) ++ s.plc.pend ∧ t.plc.durable = s.plc.durable ∧
      t.plc.copyState = actPut s.plc.copyState a false ∧ (t.plc.copies.get a).bad = true ∧
      Sent (faultMsg epPlacement 29 a.val (s.localTime epPlacement)) s t ∧ MemorySame s t := by
  obtain ⟨used, at', hfails⟩ := State.copyWritten_fails hruns hacts hdone
  refine ⟨_, rfl, ?_⟩
  rw [hfails]
  generalize hu : State.fault epPlacement 29 a.val _ = u
  obtain ⟨hplc, hsys, hmem, hsent⟩ : u.plc = { s.plc with copies := s.plc.copies.set a { s.plc.copies.get a with bad := true } }
      ∧ u.sys = s.sys ∧ u.fab.mem = s.fab.mem ∧ Sent (faultMsg epPlacement 29 a.val
        (s.localTime epPlacement)) s u := by
    rw [← hu]
    exact ⟨rfl, rfl, rfl, Sent.send _ _⟩
  obtain ⟨hv, hvsys, hvmem, hgrows⟩ := u.setCopyState_sets (actPut s.plc.copyState a false) used
  generalize State.setCopyState _ used u = v at hv hvsys hvmem hgrows ⊢
  rw [State.modePump_idle (hvsys ▸ hsys ▸ hentry) (hvsys ▸ hsys ▸ hstage)]
  have hpend : v.plc.pend = s.plc.pend := by rw [hv, hplc]
  refine ⟨rfl, congrArg _ hpend, ?_, ?_, ?_, hsent.grows hgrows, .of_mem (hvmem.trans hmem)⟩
  · show v.plc.durable = _
    rw [hv, hplc]
  · show v.plc.copyState = _
    rw [hv]
  · show (v.plc.copies.get a).bad = true
    rw [hv, hplc]
    exact congrArg SysCopy.bad (Four.get_set_same _ _ _)

/-! Catching up and checkpoints (10 R320 to R322). -/

theorem copy_catchesUp {a : Fin 4} {s : State} (husable : s.usable a = true) :
    Completes (.copyCatchup a) s fun t => t.plc.copyState = actPut s.plc.copyState a true ∧
      (t.plc.copies.get a).bad = false ∧ (∀ j ∈ (s.plc.copies.get a).sectors, j ∈ (t.plc.copies.get a).sectors) ∧
      (∀ j ∈ s.allSectors, (s.plc.copies.get a).sectors.all (fun x => decide (x.seq < j.seq)) = true ∧
        j.seq ≤ s.plc.durable ∧ 1 ≤ j.seq → j ∈ (t.plc.copies.get a).sectors) ∧ t.acts = s.acts ∧ MemorySame s t := by
  refine ⟨s.catchUp a, ?_, ?_⟩
  · change execCopyCatchup .. = _
    rw [execCopyCatchup, if_pos husable]
  rw [State.catchUp]
  generalize hheld : (s.plc.copies.get a).sectors.foldl (fun (m : Nat) j => max m j.seq) 0 = held
  generalize List.foldl (fun (x : List Ckpt) l => _) _ _ = best
  generalize hu : s.onPlc _ = u
  obtain ⟨hv, -, hvmem, -⟩ := u.setCopyState_sets (actPut s.plc.copyState a true) 0
  have hvacts : (u.setCopyState (actPut s.plc.copyState a true) 0).acts = s.acts := by
    rw [← hu, State.setCopyState]
    split <;> rfl
  generalize State.setCopyState _ 0 u = v at hv hvmem hvacts ⊢
  have hcopy : ((v.obligDone 6 a.val).plc.copies.get a) = { sectors := (s.plc.copies.get a).sectors ++ s.allSectors.filter fun j => decide (held < j.seq) && decide (j.seq ≤ s.plc.durable), ckpts := best, bad := false } := by
    show v.plc.copies.get a = _
    rw [hv, ← hu]
    exact Four.get_set_same _ _ _
  rw [hcopy]
  refine ⟨?_, rfl, fun j hj => List.mem_append_left _ hj, fun j hj h => ?_, hvacts, .of_mem (hvmem.trans ?_)⟩
  · show v.plc.copyState = _
    rw [hv]
  · obtain ⟨hall, hdurable, hfirst⟩ := h
    refine List.mem_append_right _ (List.mem_filter.2 ⟨hj, ?_⟩)
    have hbelow : held < j.seq := hheld ▸ foldl_max_lt (fun x hx => of_decide_eq_true
      (List.all_eq_true.1 hall x hx)) hfirst
    simp [hbelow, hdurable]
  · rw [← hu]
    rfl

theorem checkpoint_starts {s : State} (hdue : s.p1410CkptEvery ≤ s.plc.sinceCkpt) (hidle : s.plc.ckptRun = none) :
    Completes .checkpoint s fun t => t = s.onPlc fun p => { p with sinceCkpt := 0, ckptRun := some { seq := p.ckptSeq + 1, jseq := p.seq, bands := p.bands, extents := p.extents, gen := max p.gen p.genFloor, groups := p.groups, nss := p.nss, detention := s.recov.detention, held := p.held } } := by
  refine ⟨_, ?_, rfl⟩
  have hnone : s.plc.ckptRun.isSome = false := by rw [hidle]; rfl
  change execCheckpoint .. = _
  rw [execCheckpoint, if_pos (by simp [hdue]), State.startCheckpoint, hnone, if_neg Bool.false_ne_true]
  rfl

/-- A copy that takes a checkpoint in (10 R321). -/
def SysCopy.checkpointed (k : Ckpt) (cp : SysCopy) : SysCopy :=
  { cp with ckpts := lastN 2 (cp.ckpts ++ [k]), sectors := cp.sectors.filter fun j => decide ((lastN 2 (cp.ckpts ++ [k])).foldl (fun m x => min m x.jseq) k.jseq < j.seq) }

/-- A checkpoint put into one actuator's copy. -/
def State.putCheckpoint (k : Ckpt) (a : Fin 4) (t : State) : State :=
  t.onPlc fun p => { p with copies := p.copies.set a ((p.copies.get a).checkpointed k) }

theorem State.checkpointDurable_puts {k : Ckpt} {s : State} (hruns : s.plc.ckptRun = some k) :
    s.checkpointDurable = (((foldS (State.putCheckpoint k) (s.presentActs.filter fun a => s.usable a) s).onPlc
      fun p => { p with ckptRun := none, ckptSeq := k.seq }).event epPlacement 267 (k.seq % 2 ^ 32)) := by
  rw [State.checkpointDurable, hruns]
  rfl

theorem foldS_putCheckpoint_other {k : Ckpt} {a : Fin 4} {l : List (Fin 4)} (h : a ∉ l) (s : State) :
    (foldS (State.putCheckpoint k) l s).plc.copies.get a = s.plc.copies.get a := by
  induction l generalizing s with
  | nil => rfl
  | cons b r ih =>
    have hne : a ≠ b := List.ne_of_not_mem_cons h
    have hr : a ∉ r := List.not_mem_of_not_mem_cons h
    exact (ih hr _).trans (Four.get_set_ne _ _ hne)

theorem foldS_putCheckpoint_mem {k : Ckpt} {a : Fin 4} {l : List (Fin 4)} (hl : l.Nodup) (h : a ∈ l) (s : State) :
    (foldS (State.putCheckpoint k) l s).plc.copies.get a = (s.plc.copies.get a).checkpointed k := by
  induction l generalizing s with
  | nil => simp at h
  | cons b r ih =>
    obtain ⟨hb, hr⟩ := List.nodup_cons.1 hl
    by_cases hab : a = b
    · subst hab
      exact (foldS_putCheckpoint_other hb _).trans (Four.get_set_same _ _ _)
    · have hin : a ∈ r := (List.mem_cons.1 h).resolve_left hab
      refine (ih hr hin _).trans (congrArg _ (Four.get_set_ne _ _ hab))

theorem checkpoint_becomesDurable {k : Ckpt} {s : State} (hruns : s.plc.ckptRun = some k) :
    Completes .checkpointDurable s fun t => t.plc.ckptSeq = k.seq ∧
      (∀ a, s.usable a = true → (t.plc.copies.get a).ckpts = lastN 2 ((s.plc.copies.get a).ckpts ++ [k])) ∧
      Sent (eventMsg epPlacement 267 (k.seq % 2 ^ 32)) s t ∧ MemorySame s t := by
  refine ⟨_, rfl, ?_⟩
  rw [State.checkpointDurable_puts hruns]
  generalize hl : (s.presentActs.filter fun a => s.usable a) = l
  have hnodup : l.Nodup := hl ▸ (List.Pairwise.filter _ (List.Pairwise.filter _ (by decide)))
  have hframe : Only [.plc] s (foldS (State.putCheckpoint k) l s) := foldS_keeps (Only [.plc] s) _
    (fun a t ht => (State.onPlc_only (by simp) _ _ _).2 ht) l (.refl _ s)
  have hput : ∀ a, s.usable a = true →
      (foldS (State.putCheckpoint k) l s).plc.copies.get a = (s.plc.copies.get a).checkpointed k := fun a ha => by
    have hpresent : s.present a = true := by
      rw [State.usable] at ha
      simp only [Bool.and_eq_true] at ha
      exact ha.1.1
    have hall : ∀ b : Fin 4, b ∈ allActs := by decide
    exact foldS_putCheckpoint_mem hnodup (hl ▸ List.mem_filter.2 ⟨List.mem_filter.2 ⟨hall a, hpresent⟩, ha⟩) s
  generalize foldS (State.putCheckpoint k) l s = u at hframe hput
  generalize hv : State.event epPlacement 267 (k.seq % 2 ^ 32) _ = v
  have hvwritten : v.plc.written = (u.plc.durable, u.plc.copies, k.seq) := by rw [← hv]; rfl
  have hsent : Sent (eventMsg epPlacement 267 (k.seq % 2 ^ 32)) s v := by
    rw [← hv]
    exact Sent.after (.of_eq (hframe.msgs (by simp))) (Sent.send _ (u.onPlc _))
  have hwritten := v.modePump_written.trans hvwritten
  refine ⟨congrArg (fun w => w.2.2) hwritten, fun a ha => ?_, hsent.grows (State.modePump_grows v (.refl v)),
    .of_mem ?_⟩
  · rw [show v.modePump.plc.copies = u.plc.copies from congrArg (fun w => w.2.1) hwritten, hput a ha]
    rfl
  · rw [v.modePump_frame.mem (by simp), ← hv]
    exact hframe.mem (by simp)

/-- Settles O33: a commit takes the entries that wait, its sectors number on, and what becomes of it and of a
checkpoint follows from the copies written. -/
theorem journalCommitsAndCheckpoints : Obligations.JournalCommitsAndCheckpoints := by
  unfold Obligations.JournalCommitsAndCheckpoints
  refine ⟨?_, ?_, ?_, ?_, ?_, ?_, ?_, ?_, ?_⟩
  · rintro order s ⟨hidle, hpend, hquorum, h1, hdue⟩
    exact commit_starts hidle hpend hquorum h1 hdue
  · rintro order s h
    exact commit_waits h
  · rintro a c s ⟨hruns, hacts, hdone⟩
    exact commit_endsDurable hruns hacts hdone
  · rintro a c s ⟨hruns, hacts, hdone, -, hentry, -, hstage⟩
    exact commit_fails hruns hacts hdone hentry hstage
  · rintro c s ⟨hruns, hnew, hpast⟩
    exact commit_misses hruns hnew hpast
  · rintro s ⟨hruns, hpend⟩
    exact commit_inTime hruns hpend
  · rintro a s husable
    exact copy_catchesUp husable
  · rintro s ⟨hdue, hidle⟩
    exact checkpoint_starts hdue hidle
  · rintro k s hruns
    exact checkpoint_becomesDurable hruns

end Sys2Proof.Machine

/-! PROOFS. Writes, staged sets, commits, saves and restores of the dictionary (03 R71, R74, R75). -/

namespace Sys2Proof.Machine

open Sys2Proof

set_option Elab.async false

/-! What taking a frame up and answering it leave (03 R72, R82, R90). -/

/-- The parts of the dictionary that frames and their answers leave alone. -/
def Dict.kept (d : Dict) : Tab (List Byte) × BitVec 3 × BitVec 32 × Tab Nat × List GuestObjEntry × Option SaveRun × Bool ×
    StoreCopy × StoreCopy × List SaveWant :=
  (d.keys, d.provisioned, d.bootCount, d.epochs, d.guestObjs, d.saving, d.current, d.copy0, d.copy1, d.saveNext)

/-- What the taking up of a frame and its answer leave: the objects, but for the count of the hardware's tags, the
staged sets, and the machine outside the dictionary and the controllers' commands. -/
structure Serving (s t : State) : Prop where
  frame : Only [.dict, .msgs, .nvme] s t
  objects : ObjectsSame s t
  keeps : t.dict.kept = s.dict.kept
  staged : ∀ x, t.stagedOf x = s.stagedOf x

theorem Serving.refl (s : State) : Serving s s := ⟨.refl _ s, rfl, rfl, fun _ => rfl⟩

theorem Serving.trans {s t u : State} (h : Serving s t) (k : Serving t u) : Serving s u :=
  ⟨h.frame.trans k.frame, k.objects.trans h.objects, k.keeps.trans h.keeps, fun x => (k.staged x).trans (h.staged x)⟩

theorem Serving.memorySame {s t : State} (h : Serving s t) : MemorySame s t := h.frame.memorySame (by simp)

theorem Serving.acts {s t : State} (h : Serving s t) : t.acts = s.acts := h.frame.allActs (by simp)

/-- A dictionary whose objects, staged sets and kept parts are as they were. -/
theorem Serving.of_dict {s t : State} (h : Only [.dict, .msgs, .nvme] s t) (hod : t.dict.od = s.dict.od)
    (hkept : t.dict.kept = s.dict.kept) (hsessions : t.dict.sessions = s.dict.sessions) : Serving s t :=
  ⟨h, congrArg (List.filter _) hod, hkept, fun x => by rw [State.stagedOf, hsessions, State.stagedOf]⟩

/-- Setting an entry changes no entry of another key. -/
theorem Tab.filter_set {α : Type} (t : Tab α) (k : Nat) (v : α) :
    (Tab.set t k v).filter (fun e => decide (e.1 ≠ k)) = t.filter (fun e => decide (e.1 ≠ k)) := by
  induction t with
  | nil => simp [Tab.set]
  | cons x r ih =>
    obtain ⟨j, w⟩ := x
    rw [Tab.set]
    split
    · simp
    · split
      · next h => simp [h]
      · rw [List.filter_cons, List.filter_cons, ih]

theorem Serving.gcmRun (role : Nat) (s : State) : Serving s (s.gcmRun true role) := by
  rw [State.gcmRun_true]
  split
  · exact ⟨(State.count_only _ _ s (by simp) s).2 (.refl _ s), Tab.filter_set _ _ _, rfl, fun _ => rfl⟩
  · exact .refl s

/-- Counting the device's own frames and noting what was sent. -/
theorem Serving.handOver (k : Cmd) (n : Nat) (r : Resp) (s : State) : Serving s (s.handOver k n r) := by
  rw [State.handOver, State.onCmd]
  exact .of_dict ((State.onNvme_only (by simp) _ _ _).2 ((State.onDict_only (by simp) _ _ _).2
    (.refl [.dict, .msgs, .nvme] s))) rfl rfl rfl

/-- A dictionary to which only its frames and answers happened. -/
theorem Serving.onDict {f : Dict → Dict} (s : State) (hod : (f s.dict).od = s.dict.od)
    (hkept : (f s.dict).kept = s.dict.kept) (hsessions : (f s.dict).sessions = s.dict.sessions) :
    Serving s (s.onDict f) :=
  .of_dict ((State.onDict_only (by simp) _ _ _).2 (.refl _ s)) hod hkept hsessions

/-- What a response is sealed with. -/
theorem State.sealed_of_dict {s t : State} (r : Resp) (hboot : t.dict.bootCount = s.dict.bootCount)
    (hseq : t.dict.ownSeq = s.dict.ownSeq) (hnode : t.p0300NodeId = s.p0300NodeId) : t.sealed r = s.sealed r := by
  simp only [State.sealed, hboot, hseq, hnode]

theorem Cmd.ctrl_of_awaits {c : Fin 2} {tag : BitVec 32} {k : Cmd} (h : (k.awaits c tag).isSome = true) :
    k.ctrl = c := by
  rw [Cmd.awaits] at h
  split at h
  · split at h
    · next hc =>
      simp only [Bool.and_eq_true] at hc
      exact of_decide_eq_true hc.1
    · simp at h
  · simp at h

/-- A response leaves, and is given to its sender. -/
theorem State.reply_serves (r : Resp) (s : State) : Serving s (s.reply r) ∧ Answered r (s.reply r) := by
  rw [State.reply]
  have hrun := Serving.gcmRun r.keyRole.toNat s
  generalize s.gcmRun true r.keyRole.toNat = t at hrun
  have hcount := hrun.trans (.onDict (f := fun d => { d with ownSeq := d.ownSeq + 1 }) t rfl rfl rfl)
  generalize hu : (t.onDict fun d => { d with ownSeq := d.ownSeq + 1 }) = u at hcount ⊢
  have hsender : (u.sealed r).sender = r.sender := rfl
  have htag : (u.sealed r).tagId = r.tagId := rfl
  rw [hsender, htag, Answered]
  cases r.sender with
  | nvme c =>
    dsimp only
    cases hk : u.nvme.cmds.find? fun k => (k.awaits c r.tagId).isSome with
    | some k =>
      have hctrl : k.ctrl = c := Cmd.ctrl_of_awaits (tag := r.tagId)
        (List.find?_some (p := fun k : Cmd => (k.awaits c r.tagId).isSome) hk)
      refine ⟨hcount.trans (.handOver _ _ _ u), .inr ?_⟩
      have hlast : (u.handOver k ((k.awaits c r.tagId).getD 0) (u.sealed r)).dict.delivered.getLast?
          = some (k.ctrl, k.cid, u.sealed r, (k.awaits c r.tagId).getD 0) := List.getLast?_concat
      rw [State.sealed_of_dict (s := u) r rfl rfl rfl, hlast, ← hctrl]
      rfl
    | none =>
      refine ⟨hcount.trans (.onDict u rfl rfl rfl), .inl ?_⟩
      rw [State.sealed_of_dict (s := u) r rfl rfl rfl]
      exact List.getLast?_concat
  | _ =>
    refine ⟨hcount.trans (.onDict u rfl rfl rfl), ?_⟩
    rw [State.sealed_of_dict (s := u) r rfl rfl rfl]
    exact List.getLast?_concat

/-- Nothing is told beside the response. -/
theorem State.reply_frame (r : Resp) (s : State) : Only [.dict, .nvme] s (s.reply r) := by
  have hrun : Only [.dict, .nvme] s (s.gcmRun true r.keyRole.toNat) := by
    rw [State.gcmRun_true]
    split
    · exact (State.count_only _ _ s (by simp) s).2 (.refl _ s)
    · exact .refl _ s
  rw [State.reply]
  generalize hu : State.onDict _ (s.gcmRun true r.keyRole.toNat) = u
  have hu' : Only [.dict, .nvme] s u := hu ▸ (State.onDict_only (by simp) _ _ _).2 hrun
  split
  · split
    · rw [State.handOver, State.onCmd]
      exact (State.onNvme_only (by simp) _ _ _).2 ((State.onDict_only (by simp) _ _ _).2 hu')
    · exact (State.onDict_only (by simp) _ _ _).2 hu'
  · exact (State.onDict_only (by simp) _ _ _).2 hu'

/-- What is kept of the machine while the guests' timeouts are told. -/
theorem Serving.faults (l : List (Fin 4)) (s : State) :
    Serving s (foldS (fun (a : Fin 4) t => t.fault epResident 156 a.val) l s) :=
  foldS_keeps (Serving s) _ (fun a t h => h.trans (.of_dict
    ((State.fault_only _ _ _ t (by simp) t).2 (.refl _ t)) rfl rfl rfl))
    l (.refl s)

theorem Serving.releaseHeld (s : State) : Serving s s.releaseHeld := by
  rw [State.releaseHeld]
  split
  · exact .refl s
  · exact ((Serving.faults _ s).trans (.onDict _ rfl rfl rfl)).trans (State.reply_serves _ _).1

theorem Serving.unqueue (f : Frame) (s : State) : Serving s (s.unqueue f) := by
  rw [State.unqueue]
  split
  · exact .onDict s rfl rfl rfl
  · exact .refl s

/-- A session used keeps its staged set. -/
theorem State.stagedOf_used {s t : State} {y : SessionId} {now : BitVec 64} (x : SessionId)
    (h : t.dict.sessions = s.dict.sessions.map fun z => if z.sid = y then { z with lastUse := now } else z) :
    t.stagedOf x = s.stagedOf x := by
  have hsid : ((fun z : Session => decide (z.sid = x)) ∘ fun z => if z.sid = y then { z with lastUse := now } else z)
      = fun z => decide (z.sid = x) := by
    funext z
    simp only [Function.comp_apply]
    split <;> rfl
  rw [State.stagedOf, State.stagedOf, h, List.find?_map, hsid]
  cases s.dict.sessions.find? fun z => decide (z.sid = x) with
  | none => rfl
  | some z =>
    simp only [Option.map_some]
    split <;> rfl

theorem Serving.acceptFrame (f : Frame) (s : State) : Serving s (s.acceptFrame f) := by
  rw [State.acceptFrame]
  have hheld := Serving.releaseHeld s
  generalize s.releaseHeld = t at hheld
  have hcounter : Serving t (t.keepCounter f.session f.counter) := by
    rw [State.keepCounter]
    exact .onDict t rfl rfl rfl
  generalize t.keepCounter f.session f.counter = u at hcounter
  exact (hheld.trans hcounter).trans
    ⟨(State.onDict_only (by simp) _ _ _).2 (.refl _ u), rfl, rfl, fun x => State.stagedOf_used x rfl⟩

/-- Taking a frame up. -/
theorem State.taken_serves (f : Frame) (s : State) : Serving s (s.taken f) :=
  ((Serving.unqueue f s).trans (.gcmRun _ _)).trans (.acceptFrame f _)

theorem State.taken_grows (f : Frame) (s : State) : Grows s (s.taken f) := by
  have hunqueue : Grows s (s.unqueue f) := by
    rw [State.unqueue]
    split <;> exact .of_eq rfl
  have hrun : Grows (s.unqueue f) ((s.unqueue f).gcmRun true f.role.toNat) := by
    rw [State.gcmRun_true]
    split <;> exact .of_eq rfl
  have hheld : ∀ t : State, Grows t t.releaseHeld := fun t => by
    rw [State.releaseHeld]
    split
    · exact .refl t
    · next h _ =>
      have hfaults : Grows t (foldS (fun (a : Fin 4) u => u.fault epResident 156 a.val) h.acts t) :=
        Grows.foldS (.refl t) fun a u hu => State.fault_grows _ _ _ u hu
      exact hfaults.trans (.of_eq ((State.reply_frame h.resp _).msgs (by simp)))
  exact (hunqueue.trans hrun).trans ((hheld _).trans (.of_eq rfl))

/-- Entries of one key left out, the others are found as before. -/
theorem Tab.get?_filter {α : Type} (t : Tab α) {c k : Nat} (hk : k ≠ c) :
    Tab.get? (t.filter fun e => decide (e.1 ≠ c)) k = Tab.get? t k := by
  induction t with
  | nil => rfl
  | cons x r ih =>
    obtain ⟨j, w⟩ := x
    by_cases hj : j = c
    · rw [List.filter_cons_of_neg (by simp [hj]), ih, Tab.get?, if_neg (by omega)]
    · rw [List.filter_cons_of_pos (by simp [hj]), Tab.get?, Tab.get?, ih]

theorem Serving.get? {s t : State} (h : Serving s t) {k : Nat} (hk : k ≠ 0x517002) :
    Tab.get? t.dict.od k = Tab.get? s.dict.od k := by
  rw [← Tab.get?_filter t.dict.od hk, h.objects, Tab.get?_filter _ hk]

theorem Serving.odNat {s t : State} (h : Serving s t) {k : Nat} (hk : k ≠ 0x517002) (d : Nat) :
    t.odNat k d = s.odNat k d := by
  rw [State.odNat, State.odNat, h.get? hk]

/-- The response to a frame is the same once the frame has been taken up. -/
theorem Serving.resp {s t : State} (h : Serving s t) (f : Frame) (op : Nat) (st : AccStatus) (l : List RespItem)
    (x : List Nat) : t.resp f op st l x = s.resp f op st l x := by
  have hkept := h.keeps
  simp only [Dict.kept, Prod.mk.injEq] at hkept
  obtain ⟨hkeys, hprov, -, hepochs, -⟩ := hkept
  have hopen : t.odNat (odKey 0x0400 8) 0 = s.odNat (odKey 0x0400 8) 0 := h.odNat (by decide) 0
  have hkey : ∀ y n, t.keyFor y n = s.keyFor y n := fun y n => by
    simp only [State.keyFor, State.roleKey, hkeys, hprov, hopen]
  simp only [State.resp, hkey, hepochs]

/-- A request that is answered at once, with nothing else done. -/
theorem answersAlone {cmd : Instr} {op : Nat} {own : Nat → Bool} {f : Frame} {r : Req} {s : State}
    {body : Req → State → State} {st : AccStatus} {l : List RespItem} {x : List Nat} (hok : Accepted op f r s)
      (hown : own op = true)
    (hexec : exec cmd s = .next (s.served own f body))
    (hbody : ∀ t, Serving s t → body r t = t.reply (t.resp f op st l x)) :
    Completes cmd s fun t => Answered (s.resp f op st l x) t ∧ Serving s t := by
  have htaken := State.taken_serves f s
  refine ⟨_, hexec, ?_⟩
  rw [State.served_of_accepted hok hown, hbody _ htaken, htaken.resp]
  obtain ⟨hreply, hanswer⟩ := State.reply_serves (s.resp f op st l x) (s.taken f)
  exact ⟨hanswer, htaken.trans hreply⟩

/-! What an object's checks look at (03 R71). -/

theorem Serving.objInfo {s t : State} (h : Serving s t) (k : ObjKey) : t.objInfo k = s.objInfo k := by
  have hident := h.frame.ident (by simp)
  have hguests : t.dict.guestObjs = s.dict.guestObjs := congrArg (fun x => x.2.2.2.2.1) h.keeps
  have hcipher : t.hasCipher = s.hasCipher := by rw [State.hasCipher, State.hasCipher, hident]
  have hpresent : ∀ a, t.present a = s.present a := fun a => by
    rw [State.present, State.present, State.actCount, State.actCount, hident]
  have hisland : ∀ i, t.islandPresent i = s.islandPresent i := fun i => by
    rw [State.islandPresent, State.islandPresent, hident, hcipher]
  have habsent : ∀ i n, t.objAbsent i n = s.objAbsent i n := fun i n => by
    simp only [State.objAbsent, hcipher, hpresent, hisland]
  have hdefault : ∀ i n, t.textDefault i n = s.textDefault i n := fun i n => by
    unfold State.textDefault
    rw [hident]
  simp only [State.objInfo, State.indexKnown, State.highestSub, habsent, hdefault, hguests, hident]

/-- Machines whose objects, but for the count of the hardware's tags, and whose parts that the ranges of objects refer to
are the same. -/
structure SameRanges (s t : State) : Prop where
  get? : ∀ k, k ≠ 0x517002 → Tab.get? t.dict.od k = Tab.get? s.dict.od k
  ident : t.ident = s.ident
  plc : t.plc = s.plc
  recov : t.recov = s.recov
  dramc : t.dramc = s.dramc

theorem Serving.sameRanges {s t : State} (h : Serving s t) : SameRanges s t :=
  ⟨fun _ hk => h.get? hk, h.frame.ident (by simp), h.frame.plc (by simp), h.frame.recov (by simp),
    h.frame.dramc (by simp)⟩

theorem SameRanges.set {s t : State} (h : SameRanges s t) (k : Nat) (v : OdVal) :
    SameRanges (s.onDict fun d => { d with od := Tab.set d.od k v })
      (t.onDict fun d => { d with od := Tab.set d.od k v }) := by
  refine ⟨fun j hj => ?_, h.ident, h.plc, h.recov, h.dramc⟩
  show Tab.get? (Tab.set t.dict.od k v) j = Tab.get? (Tab.set s.dict.od k v) j
  by_cases hjk : j = k
  · rw [hjk, Tab.get?_set_same, Tab.get?_set_same]
  · rw [Tab.get?_set_other _ _ hjk, Tab.get?_set_other _ _ hjk, h.get? j hj]

theorem SameRanges.probe {s t : State} (h : SameRanges s t) (l : List WriteItem) :
    SameRanges (s.probe l) (t.probe l) := by
  unfold State.probe
  induction l generalizing s t with
  | nil => exact h
  | cons w r ih =>
    refine ih ?_
    dsimp only
    cases w.val with
    | num v => exact h.set _ _
    | oct b => exact h.set _ _

theorem SameRanges.odNat {s t : State} (h : SameRanges s t) {k : Nat} (hk : k ≠ 0x517002) (d : Nat) :
    t.odNat k d = s.odNat k d := by
  rw [State.odNat, State.odNat, h.get? k hk]

theorem SameRanges.rangeSpindle {s t : State} (h : SameRanges s t) (i n v : Nat) :
    rangeSpindle t i n v = rangeSpindle s i n v := by
  unfold Machine.rangeSpindle
  have hrated : t.p2010RatedRpm = s.p2010RatedRpm := h.odNat (by decide) _
  have hwarn : t.p2010OvWarn = s.p2010OvWarn := h.odNat (by decide) _
  have hchop : t.p2010OvChopOn = s.p2010OvChopOn := h.odNat (by decide) _
  rw [hrated, hwarn, hchop]

theorem SameRanges.bandEntry {s t : State} (h : SameRanges s t) (n : Nat) : t.bandEntry n = s.bandEntry n := by
  simp only [State.bandEntry, State.band, h.plc]

theorem SameRanges.rangeMedia {s t : State} (h : SameRanges s t) (i n v : Nat) :
    rangeMedia t i n v = rangeMedia s i n v := by
  have hlow : t.p1420CacheLow = s.p1420CacheLow := h.odNat (by decide) _
  have hhigh : t.p1420CacheHigh = s.p1420CacheHigh := h.odNat (by decide) _
  have hwarm : t.p1430WarmWrites = s.p1430WarmWrites := h.odNat (by decide) _
  unfold Machine.rangeMedia
  rw [hlow, hhigh, hwarm, h.bandEntry, h.recov]

theorem SameRanges.rangeTimetable {s t : State} (h : SameRanges s t) (i n v : Nat) :
    rangeTimetable t i n v = rangeTimetable s i n v := by
  have h12 : t.p1800I12Avg = s.p1800I12Avg := h.odNat (by decide) _
  have h5 : t.p1800I5Avg = s.p1800I5Avg := h.odNat (by decide) _
  have hurgent : t.p1810DlUrgent = s.p1810DlUrgent := h.odNat (by decide) _
  have hhigh : t.p1810DlHigh = s.p1810DlHigh := h.odNat (by decide) _
  have hmedium : t.p1810DlMedium = s.p1810DlMedium := h.odNat (by decide) _
  have hutil : t.p1830UtilDown = s.p1830UtilDown := h.odNat (by decide) _
  have hint : ∀ k, k ≠ 0x517002 → ∀ d, t.odNat k d = s.odNat k d := fun k hk d => h.odNat hk d
  unfold Machine.rangeTimetable
  rw [h12, h5, hurgent, hhigh, hmedium, hutil, State.p1840DieLimit, State.p1840DiodeLimit, State.p1840HeadLimit,
    State.p1840DieLimit, State.p1840DiodeLimit, State.p1840HeadLimit, hint _ (by decide), hint _ (by decide),
      hint _ (by decide)]

theorem SameRanges.range {s t : State} (h : SameRanges s t) {r : Nat} (hr : r < 64) : t.range r = s.range r := by
  have hkey : ∀ j, j < 6 → odKey (0x5120 + r) 0 + j ≠ 0x517002 := fun j hj => by rw [odKey]; omega
  rw [State.range, State.range, h.odNat (hkey 1 (by omega)), h.odNat (hkey 2 (by omega)), h.odNat (hkey 3 (by omega)),
    h.odNat (hkey 4 (by omega)), h.odNat (hkey 5 (by omega))]

theorem SameRanges.rangeCipher {s t : State} (h : SameRanges s t) (i n v : Nat) :
    rangeCipher t i n v = rangeCipher s i n v := by
  have hns : ∀ x, t.ns? x = s.ns? x := fun x => by rw [State.ns?, State.ns?, h.plc]
  have hdirty : t.p5040DirtyLimit = s.p5040DirtyLimit := h.odNat (by decide) _
  unfold Machine.rangeCipher
  split
  · next hi =>
    have hlow : i - 0x5120 < 64 := by
      simp only [Bool.and_eq_true, decide_eq_true_eq] at hi
      omega
    simp only [h.range hlow, hns]
  · rw [hdirty, h.dramc, hns]

theorem SameRanges.rangeWatch {s t : State} (h : SameRanges s t) (i n v : Nat) :
    rangeWatch t i n v = rangeWatch s i n v := by
  have hpresent : ∀ a, t.present a = s.present a := fun a => by
    rw [State.present, State.present, State.actCount, State.actCount, h.ident]
  have habsent : ∀ k, t.srcAbsent k = s.srcAbsent k := fun k => by
    simp only [State.srcAbsent, hpresent, State.hasCipher, h.ident]
  have hthr : ∀ m c, t.classThr m c = s.classThr m c := fun m c => by
    rw [State.classThr, State.classThr, h.odNat (by omega)]
  have hdie : t.p1840DieLimit = s.p1840DieLimit := by rw [State.p1840DieLimit, State.p1840DieLimit,
    h.odNat (by decide)]
  have hwarn : t.p6320HwWarn = s.p6320HwWarn := by rw [State.p6320HwWarn, State.p6320HwWarn, h.odNat (by decide)]
  unfold Machine.rangeWatch
  simp only [hpresent, habsent, hthr, hdie, hwarn]

theorem SameRanges.rangeStatus {s t : State} (h : SameRanges s t) (k : ObjKey) (x : ObjInfo) (v : OdVal) :
    t.rangeStatus k x v = s.rangeStatus k x v := by
  simp only [State.rangeStatus, h.rangeSpindle, h.rangeMedia, h.rangeTimetable, h.rangeCipher, h.rangeWatch]

/-- An item's checks come out the same once the frame has been taken up. -/
theorem Serving.itemStatus {s t : State} (h : Serving s t) (l : List WriteItem) (role : BitVec 2) (w : WriteItem) :
    t.itemStatus (t.probe l) role w = s.itemStatus (s.probe l) role w := by
  rw [State.itemStatus, State.itemStatus, h.objInfo]
  simp only [(h.sameRanges.probe l).rangeStatus]

theorem error_of_failure {α : Type} {x : Except AccStatus α} {e : AccStatus} (h : failure x = some e) :
    x = .error e := by
  cases x with
  | error y => exact congrArg Except.error (Option.some.inj h)
  | ok y => simp [failure] at h

theorem ok_of_toOption {α : Type} {x : Except AccStatus α} {y : α} (h : x.toOption = some y) : x = .ok y := by
  cases x with
  | error z => simp [Except.toOption] at h
  | ok z => exact congrArg Except.ok (Option.some.inj h)

/-! WRITE (03 R71). -/

/-- An item that fails its checks is answered with the status. -/
theorem State.writeItem_fails {w : WriteItem} {sid : SessionId} {answers : BitVec 4} {e : AccStatus} {t : State}
    (h : t.itemStatus (t.probe [w]) sid.role w = .error e) : t.writeItem sid answers w = (t, e, none) := by
  rw [State.writeItem, h]

theorem write_fails {f : Frame} {r : Req} {w : WriteItem} {e : BitVec 8} {s : State} (hok : Accepted 2 f r s)
    (hitems : r.items = [w]) (hfails : failure (s.itemStatus (s.probe [w]) f.role w) = some e) :
    Completes (.dictWrite f.wire f.here) s fun t =>
      Answered (s.resp f 2 0 [{ key := w.key, status := e, ty := 0, val := none }] []) t ∧ Serving s t := by
  refine answersAlone hok rfl rfl fun t ht => ?_
  have hstatus : t.itemStatus (t.probe [w]) f.session.role w = .error e :=
    (ht.itemStatus [w] f.role w).trans (error_of_failure hfails)
  have hwrites : t.writeItems f.session f.guests (r.items.take 64) [] [] = (t, [itemResp w.key e], []) := by
    rw [hitems]
    simp only [List.take_succ_cons, List.take_nil, State.writeItems, State.writeItem_fails hstatus, List.nil_append]
  show State.answer (t.writeItems f.session f.guests (r.items.take 64) [] []).2.2
    (t.resp f 2 0 (t.writeItems f.session f.guests (r.items.take 64) [] []).2.1 [])
    (t.writeItems f.session f.guests (r.items.take 64) [] []).1 = _
  rw [hwrites]
  rfl

/-- The row of RETURN_IDLE. -/
def returnIdleRow : OdRow := ⟨0x0200, 0x04, 1, .one, .u32, 4, .rw, 2, true, some 5000, some 100, some 3600000⟩

/-- RETURN_IDLE as an object. -/
def returnIdleInfo : ObjInfo where
  ty := 4
  acc := .rw
  role := 2
  saved := true
  dflt := some (.num 5000)
  row := some returnIdleRow
  guest := none

theorem State.objInfo_returnIdle (s : State) :
    s.objInfo { index := 0x0200, sub := 4 } = .ok returnIdleInfo := by
  have hrow : odRow? 0x200 4 = some returnIdleRow := by decide +kernel
  have hknown : s.indexKnown 0x200 = true := by
    have hrows : (odRows.any fun r => r.indexes.contains 0x200) = true := by decide +kernel
    rw [State.indexKnown, hrows, Bool.or_true, Bool.true_or]
  have habsent : s.objAbsent 0x200 4 = false := by simp [State.objAbsent]
  have hfuse : isFuse 0x200 = false := by decide
  have hindex : (0x0200 : BitVec 16).toNat = 0x200 := rfl
  have hsub : (4 : BitVec 8).toNat = 4 := rfl
  rw [State.objInfo]
  dsimp only
  rw [hindex, hsub, hknown, if_neg (by decide), if_neg (by decide), if_neg (by decide), hfuse,
    if_neg Bool.false_ne_true, hrow]
  dsimp only
  rw [habsent, if_neg Bool.false_ne_true]
  rfl

/-- A WRITE of RETURN_IDLE within its range passes its checks. -/
theorem State.itemStatus_returnIdle {w : WriteItem} {role : BitVec 2} {s p : State}
    (hkey : w.key = { index := 0x0200, sub := 4 })
    (hty : w.ty = 4) (hlen : w.bytes.length = 4) (hrole : 2 ≤ role.toNat) (hlow : 100 ≤ leNat w.bytes)
    (hhigh : leNat w.bytes ≤ 3600000) :
    s.itemStatus p role w = .ok returnIdleInfo := by
  have hval : w.val = .num (leNat w.bytes) := by rw [WriteItem.val, if_neg (by simp [hty])]
  have hfits : typeFits returnIdleInfo w = true := by
    simp [typeFits, hty, hlen, returnIdleInfo, numBytes, odSize]
  have hbounds : returnIdleRow.inBounds (leNat w.bytes) = true := by
    have hboth : (decide ((100 : Int) ≤ leNat w.bytes) && decide ((leNat w.bytes : Int) ≤ 3600000)) = true := by
      rw [decide_eq_true (by omega), decide_eq_true (by omega)]
      rfl
    exact hboth
  have hrange : p.rangeStatus w.key returnIdleInfo w.val = none := by
    have hrow : returnIdleInfo.row = some returnIdleRow := rfl
    have hfuse : isFuse 0x200 = false := by decide
    have hindex : (0x0200 : BitVec 16).toNat = 0x200 := rfl
    have hsub : (4 : BitVec 8).toNat = 4 := rfl
    rw [hval, hkey, State.rangeStatus]
    dsimp only
    rw [hindex, hsub, hfuse, if_neg Bool.false_ne_true, hrow]
    dsimp only
    rw [hbounds, if_neg (by simp [returnIdleRow])]
    rfl
  have hrights : (true && decide (role.toNat < returnIdleInfo.role)) = false := by
    exact decide_eq_false (Nat.not_lt.2 hrole)
  have haccess : (decide (returnIdleInfo.acc = .rw) || decide (returnIdleInfo.acc = .wo)) = true := rfl
  rw [State.itemStatus, hkey, State.objInfo_returnIdle, ← hkey]
  dsimp only
  rw [haccess, hrights, hfits, hrange, if_neg Bool.false_ne_true, if_neg (by decide), if_neg (by decide)]

/-- It is stored. -/
theorem State.writeItem_returnIdle {w : WriteItem} {sid : SessionId} {answers : BitVec 4} {t : State}
    (hkey : w.key = { index := 0x0200, sub := 4 })
    (hty : w.ty = 4) (hlen : w.bytes.length = 4) (hrole : 2 ≤ sid.role.toNat) (hlow : 100 ≤ leNat w.bytes)
    (hhigh : leNat w.bytes ≤ 3600000) :
    t.writeItem sid answers w = (t.odSet 0x020004 (leNat w.bytes), 0, none) := by
  have hval : w.val = .num (leNat w.bytes) := by rw [WriteItem.val, if_neg (by simp [hty])]
  have hindex : (0x0200 : BitVec 16).toNat = 0x200 := rfl
  have hsub : (4 : BitVec 8).toNat = 4 := rfl
  have hbad : ∀ p, (commitOnly w.key || t.stateBad p w) = false := fun p => by
    have hcommit : commitOnly { index := 0x0200, sub := 4 } = false := by decide
    have hguard : guardedObj { index := 0x0200, sub := 4 } = false := by decide
    rw [hkey, hcommit, Bool.false_or]
    simp only [State.stateBad, hkey]
    rw [hguard, if_neg (by simp), if_neg (by simp), if_neg (by simp), if_neg (by simp),
      if_neg (by simp), if_neg (by simp), if_neg (by simp), if_neg (by simp)]
  have hwrite : t.writeObj sid returnIdleInfo w = t.odSet 0x020004 (leNat w.bytes) := by
    have hown : returnIdleInfo.guest = none := rfl
    have hfuse : isFuse 0x200 = false := by decide
    rw [State.writeObj, hval, hown]
    dsimp only
    rw [hkey, hindex, hsub, State.writeNum.eq_def, hfuse, if_neg Bool.false_ne_true, if_neg (by simp),
      if_neg (by simp)]
    rfl
  rw [State.writeItem, State.itemStatus_returnIdle hkey hty hlen hrole hlow hhigh]
  dsimp only
  rw [hbad, hwrite]
  rfl

theorem write_stores {f : Frame} {r : Req} {w : WriteItem} {s : State} (hok : Accepted 2 f r s)
    (hitems : r.items = [w])
    (hkey : w.key = { index := 0x0200, sub := 4 }) (hty : w.ty = 4) (hlen : w.bytes.length = 4)
        (hrole : 2 ≤ f.role.toNat)
    (hlow : 100 ≤ leNat w.bytes) (hhigh : leNat w.bytes ≤ 3600000) :
    Completes (.dictWrite f.wire f.here) s fun t => t.odNat 0x020004 5000 = leNat w.bytes ∧
      (∀ k, k ≠ 0x020004 → k ≠ 0x517002 → Tab.get? t.dict.od k = Tab.get? s.dict.od k) ∧
      Answered (s.resp f 2 0 [{ key := { index := 0x0200, sub := 4 }, status := 0, ty := 0, val := none }] []) t ∧
      t.acts = s.acts ∧ t.sys = s.sys ∧ MemorySame s t := by
  have htaken := State.taken_serves f s
  have hexec : exec (.dictWrite f.wire f.here) s = .next (((s.taken f).odSet 0x020004 (leNat w.bytes)).reply
      ((s.taken f).resp f 2 0 [itemResp w.key 0] [])) := by
    refine (congrArg Host.Outcome.next (State.served_of_accepted (op := 2) (f := f) hok rfl _)).trans
      (congrArg Host.Outcome.next ?_)
    have hwrites : (s.taken f).writeItems f.session f.guests (r.items.take 64) [] []
        = ((s.taken f).odSet 0x020004 (leNat w.bytes), [itemResp w.key 0], []) := by
      rw [hitems]
      simp only [List.take_succ_cons, List.take_nil, State.writeItems,
        State.writeItem_returnIdle (sid := f.session) hkey hty hlen hrole hlow hhigh, List.nil_append]
    show State.answer ((s.taken f).writeItems f.session f.guests (r.items.take 64) [] []).2.2
      ((s.taken f).resp f 2 0 ((s.taken f).writeItems f.session f.guests (r.items.take 64) [] []).2.1 [])
      ((s.taken f).writeItems f.session f.guests (r.items.take 64) [] []).1 = _
    rw [hwrites]
    rfl
  refine ⟨_, hexec, ?_⟩
  rw [htaken.resp, hkey]
  generalize s.taken f = u at htaken
  obtain ⟨hreply, hanswer⟩ := State.reply_serves (s.resp f 2 0 [itemResp { index := 0x0200, sub := 4 } 0] [])
    (u.odSet 0x020004 (leNat w.bytes))
  have hset : Only [.dict] u (u.odSet 0x020004 (leNat w.bytes)) := (State.onDict_only (by simp) _ _ _).2 (.refl _ u)
  refine ⟨?_, fun k hk hk' => ?_, hanswer, ?_, ?_, ?_⟩
  · rw [hreply.odNat (by decide)]
    exact State.odNat_odSet 0x020004 _ 5000 u
  · rw [hreply.get? hk', ← htaken.get? hk']
    exact Tab.get?_set_other _ _ hk
  · exact hreply.acts.trans ((hset.allActs (by simp)).trans htaken.acts)
  · exact (hreply.frame.sys (by simp)).trans ((hset.sys (by simp)).trans (htaken.frame.sys (by simp)))
  · exact .of_mem ((hreply.frame.mem (by simp)).trans ((hset.mem (by simp)).trans (htaken.frame.mem (by simp))))

/-! Staged sets (03 R74). -/

theorem State.stagedOf_setStaged_self (sid : SessionId) (l : List WriteItem) (s : State) :
    (s.setStaged sid l).stagedOf sid = l := by
  have hnone : (s.dict.sessions.filter fun x => decide (x.sid ≠ sid)).find?
    (fun x => decide (x.sid = sid)) = none := by
    rw [List.find?_eq_none]
    intro x hx
    have hne := (List.mem_filter.1 hx).2
    simpa using hne
  rw [State.stagedOf, State.setStaged]
  dsimp only [State.onDict]
  by_cases hl : l.isEmpty
  · rw [if_pos hl, hnone, List.isEmpty_iff.1 hl]
  · rw [if_neg hl, List.find?_append, hnone]
    simp

theorem State.stagedOf_setStaged_other {sid y : SessionId} (hne : y ≠ sid) (l : List WriteItem) (s : State) :
    (s.setStaged sid l).stagedOf y = s.stagedOf y := by
  have hkeep : (s.dict.sessions.filter fun x => decide (x.sid ≠ sid)).find? (fun x => decide (x.sid = y))
      = s.dict.sessions.find? fun x => decide (x.sid = y) := by
    induction s.dict.sessions with
    | nil => rfl
    | cons z r ih =>
      by_cases hz : z.sid = sid
      · rw [List.filter_cons_of_neg (by simp [hz]), ih, List.find?_cons_of_neg (by simp [hz, hne.symm])]
      · rw [List.filter_cons_of_pos (by simp [hz]), List.find?_cons, List.find?_cons, ih]
  rw [State.stagedOf, State.setStaged, State.stagedOf]
  dsimp only [State.onDict]
  by_cases hl : l.isEmpty
  · rw [if_pos hl, hkeep]
  · rw [if_neg hl, List.find?_append, hkeep, List.find?_cons_of_neg (by simp [hne.symm]), List.find?_nil,
      Option.or_none]

/-- What replacing a staged set leaves. -/
theorem State.setStaged_keeps (sid : SessionId) (l : List WriteItem) (s : State) :
    Only [.dict] s (s.setStaged sid l) ∧ (s.setStaged sid l).dict.od = s.dict.od ∧
      (s.setStaged sid l).dict.kept = s.dict.kept := by
  rw [State.setStaged]
  exact ⟨(State.onDict_only (by simp) _ _ _).2 (.refl [.dict] s), rfl, rfl⟩

/-- A request that replaces its session's staged set and is answered. -/
theorem replacesStaged {cmd : Instr} {op : Nat} {own : Nat → Bool} {f : Frame} {r : Req} {s : State} {staged : List WriteItem}
    {body : Req → State → State} {l : List RespItem} (hok : Accepted op f r s) (hown : own op = true)
    (hexec : exec cmd s = .next (s.served own f body))
    (hbody : ∀ t, Serving s t → body r t = (t.setStaged f.session staged).reply (t.resp f op 0 l [])) :
    Completes cmd s fun t => t.stagedOf f.session = staged ∧ (∀ y, y ≠ f.session → t.stagedOf y = s.stagedOf y) ∧
      Answered (s.resp f op 0 l []) t ∧ ObjectsSame s t ∧ t.acts = s.acts := by
  have htaken := State.taken_serves f s
  refine ⟨_, hexec, ?_⟩
  rw [State.served_of_accepted hok hown, hbody _ htaken, htaken.resp]
  generalize s.taken f = u at htaken
  obtain ⟨hset, hod, -⟩ := u.setStaged_keeps f.session staged
  obtain ⟨hreply, hanswer⟩ := State.reply_serves (s.resp f op 0 l []) (u.setStaged f.session staged)
  refine ⟨?_, fun y hy => ?_, hanswer, ?_, ?_⟩
  · rw [hreply.staged, State.stagedOf_setStaged_self]
  · rw [hreply.staged, State.stagedOf_setStaged_other hy, htaken.staged]
  · exact hreply.objects.trans ((congrArg (List.filter _) hod).trans htaken.objects)
  · exact hreply.acts.trans ((hset.allActs (by simp)).trans htaken.acts)

theorem stage_adds {f : Frame} {r : Req} {w : WriteItem} {x : ObjInfo} {s : State} (hok : Accepted 3 f r s)
    (hitems : r.items = [w]) (hempty : s.stagedOf f.session = [])
    (hchecks : (s.itemStatus (s.probe [w]) f.role w).toOption = some x) (hlen : w.bytes.length ≤ 1024) :
    Completes (.stage f.wire f.here) s fun t => t.stagedOf f.session = [w] ∧
      (∀ y, y ≠ f.session → t.stagedOf y = s.stagedOf y) ∧
      Answered (s.resp f 3 0 [{ key := w.key, status := 0, ty := 0, val := none }] []) t ∧ ObjectsSame s t ∧
        t.acts = s.acts := by
  refine replacesStaged hok rfl rfl fun t ht => ?_
  have hput : stagePut w (t.stagedOf f.session) = [w] := by rw [ht.staged, hempty]; rfl
  have hstatus : t.itemStatus (t.probe [w]) f.session.role w = .ok x :=
    (ht.itemStatus [w] f.role w).trans (ok_of_toOption hchecks)
  have hstage : t.stageItem f.session w = (t.setStaged f.session [w], 0) := by
    have hbytes : stagedBytes [w] = w.bytes.length := by simp [stagedBytes]
    rw [State.stageItem, hput, hstatus, hbytes]
    dsimp only
    rw [if_neg (by simp; omega)]
  have hstages : t.stageItems f.session (r.items.take 64) [] = (t.setStaged f.session [w], [itemResp w.key 0]) := by
    rw [hitems]
    simp only [List.take_succ_cons, List.take_nil, State.stageItems, hstage, List.nil_append]
  show (t.stageItems f.session (r.items.take 64) []).1.reply
    (t.resp f 3 0 (t.stageItems f.session (r.items.take 64) []).2 []) = _
  rw [hstages]
  rfl

theorem discard_forgets {f : Frame} {r : Req} {s : State} (hok : Accepted 5 f r s) :
    Completes (.discard f) s fun t => t.stagedOf f.session = [] ∧ (∀ y, y ≠ f.session → t.stagedOf y = s.stagedOf y) ∧
      Answered (s.resp f 5 0 [] []) t ∧ ObjectsSame s t ∧ t.acts = s.acts :=
  replacesStaged hok rfl rfl fun _ _ => rfl

theorem stagedSet_expires {x : SessionId} {y : Session} {s : State}
    (hsession : (s.dict.sessions.find? fun z => decide (z.sid = x)) = some y)
        (hold : 30 * secTicks ≤ s.since y.lastUse) :
    Completes (.stagedSetExpiry x) s fun t => t.stagedOf x = [] ∧ (∀ y, y ≠ x → t.stagedOf y = s.stagedOf y) ∧
      t.dict.od = s.dict.od ∧ t.acts = s.acts ∧ t.fab = s.fab := by
  have hexec : exec (.stagedSetExpiry x) s = .next (s.setStaged x []) := by
    change execStagedSetExpiry .. = _
    rw [execStagedSetExpiry, hsession]
    dsimp only
    rw [if_neg (by omega)]
  exact ⟨_, hexec, State.stagedOf_setStaged_self _ _ s, fun y hy => State.stagedOf_setStaged_other hy _ s, rfl,
    rfl, rfl⟩

/-! COMMIT (03 R74). -/

theorem commit_ofNothing {f : Frame} {r : Req} {s : State} (hok : Accepted 4 f r s)
    (hempty : s.stagedOf f.session = []) :
    Completes (.commit f none) s fun t => Answered (s.resp f 4 0 [] []) t ∧ Serving s t := by
  refine answersAlone hok rfl rfl fun t ht => ?_
  dsimp only
  rw [ht.staged, hempty]
  rfl

theorem commit_ofFailing {f : Frame} {r : Req} {w : WriteItem} {e : BitVec 8} {s : State} (hok : Accepted 4 f r s)
    (hstaged : s.stagedOf f.session = [w]) (hfails : failure (s.itemStatus (s.probe [w]) f.role w) = some e)
        (hnz : e ≠ 0)
    (hown : ((s.objInfo w.key).toOption.any fun x => x.guest.isSome) = false) :
    Completes (.commit f none) s fun t => Answered (s.resp f 4 e [] [0, e.toNat]) t ∧ Serving s t := by
  refine answersAlone hok rfl rfl fun t ht => ?_
  have hstatus : t.commitStatus (t.probe [w]) f.session f.guests w = e := by
    rw [State.commitStatus, show t.itemStatus (t.probe [w]) f.session.role w = .error e from
      (ht.itemStatus [w] f.role w).trans (error_of_failure hfails)]
  have hfirst : t.firstFailing (t.probe [w]) f.session f.guests [w] 0 = some (0, e) := by
    rw [State.firstFailing, hstatus, if_neg hnz]
  have hsilent : t.silentIn f.guests [some w] = [] := by
    rw [← ht.objInfo] at hown
    rw [State.silentIn]
    cases hinfo : t.objInfo w.key with
    | error e => simp [hinfo]
    | ok x =>
      have hguest : x.guest = none := by simpa [hinfo, Except.toOption] using hown
      simp [hinfo, silentGuest, hguest]
  dsimp only
  rw [ht.staged, hstaged, hfirst]
  show t.answer (t.silentIn f.guests [some w]) _ = _
  rw [hsilent]
  rfl

/-! SAVE (03 R75). -/

/-- The current copy is the one its flag names. -/
theorem Serving.currentCopy {s t : State} (h : Serving s t) : t.currentCopy = s.currentCopy := by
  have hkept := h.keeps
  simp only [Dict.kept, Prod.mk.injEq] at hkept
  obtain ⟨-, -, -, -, -, -, hcurrent, hcopy0, hcopy1, -⟩ := hkept
  simp only [State.currentCopy, State.storeCopy, hcurrent, hcopy0, hcopy1]

theorem Serving.saving {s t : State} (h : Serving s t) : t.dict.saving = s.dict.saving :=
  congrArg (fun x => x.2.2.2.2.2.1) h.keeps

theorem Serving.current {s t : State} (h : Serving s t) : t.dict.current = s.dict.current :=
  congrArg (fun x => x.2.2.2.2.2.2.1) h.keeps

theorem save_refused {f : Frame} {r : Req} {s : State} (hok : Accepted 6 f r s)
    (hruns : s.dict.saving.isSome = true) :
    Completes (.save f.wire f.here) s fun t => Answered (s.resp f 6 9 [] []) t ∧ Serving s t := by
  refine answersAlone hok rfl rfl fun t ht => ?_
  rw [if_pos (by rw [ht.saving]; exact hruns)]
  rfl

theorem StoreCopy.valid_withSum (c : StoreCopy) : c.withSum.valid = true := by
  show (c.sum == c.sum) = true
  exact beq_self_eq_true c.sum

theorem save_starts {f : Frame} {r : Req} {s : State} (hok : Accepted 6 f r s) (hidle : s.dict.saving = none) :
    Completes (.save f.wire f.here) s fun t =>
      (t.dict.saving.map fun r => (r.copy.seq, r.copy.valid, r.copy.roleKeys)) = some
          (s.currentCopy.seq + 1, true, s.dict.keys) ∧
      t.dict.current = s.dict.current ∧ t.dict.copy0 = s.dict.copy0 ∧ t.dict.copy1 = s.dict.copy1 ∧ ObjectsSame s t
        ∧ t.acts = s.acts := by
  have htaken := State.taken_serves f s
  have hexec : exec (.save f.wire f.here) s = .next ((s.taken f).startSave f.guests { answer := some ((s.taken f).resp f 6 0 [] []), cmd := none, more := 0 }) := by
    refine (congrArg Host.Outcome.next (State.served_of_accepted (op := 6) (f := f) hok rfl _)).trans
      (congrArg Host.Outcome.next (if_neg ?_))
    rw [htaken.saving, hidle]
    exact Bool.false_ne_true
  refine ⟨_, hexec, ?_⟩
  generalize s.taken f = u at htaken
  rw [State.startSave]
  have hkept := htaken.keeps
  simp only [Dict.kept, Prod.mk.injEq] at hkept
  obtain ⟨hkeys, -, -, -, -, -, hcurrent, hcopy0, hcopy1, -⟩ := hkept
  generalize (u.presentActs.filter _) = silent
  generalize hv : u.onDict _ = v
  have hfaults := Serving.faults silent v
  have hdict : (foldS (fun (a : Fin 4) t => t.fault epResident 156 a.val) silent v).dict = v.dict :=
    foldS_same (fun t : State => t.dict) (fun (a : Fin 4) t => t.fault epResident 156 a.val) (fun _ _ => rfl) silent v
  rw [hdict]
  refine ⟨?_, ?_, ?_, ?_, ?_, ?_⟩
  · rw [← hv, ← htaken.currentCopy, ← hkeys]
    exact congrArg some (Prod.ext rfl (Prod.ext (StoreCopy.valid_withSum _) rfl))
  · rw [← hv]
    exact hcurrent
  · rw [← hv]
    exact hcopy0
  · rw [← hv]
    exact hcopy1
  · show List.filter _ (foldS _ silent v).dict.od = _
    rw [hdict, ← hv]
    exact htaken.objects
  · rw [hfaults.acts, ← hv]
    exact htaken.acts

/-- The current copy once the other has been written and has become the current one. -/
theorem State.currentCopy_of_turned {c : StoreCopy} {s t : State} (hcopies : (t.dict.copy0, t.dict.copy1)
    = if s.olderCopy then (s.dict.copy0, c) else (c, s.dict.copy1)) (hturn : t.dict.current = !s.dict.current) :
    t.currentCopy = c := by
  rw [State.olderCopy] at hcopies
  rw [State.currentCopy, State.storeCopy, hturn]
  cases hc : s.dict.current with
  | false =>
    rw [hc] at hcopies
    exact congrArg Prod.snd hcopies
  | true =>
    rw [hc] at hcopies
    exact congrArg Prod.fst hcopies

/-- The current copy while only the other has been written. -/
theorem State.currentCopy_of_kept {c : StoreCopy} {s t : State} (hcopies : (t.dict.copy0, t.dict.copy1)
    = if s.olderCopy then (s.dict.copy0, c) else (c, s.dict.copy1)) (hsame : t.dict.current = s.dict.current) :
    t.currentCopy = s.currentCopy := by
  rw [State.olderCopy] at hcopies
  rw [State.currentCopy, State.storeCopy, hsame, State.currentCopy, State.storeCopy]
  cases hc : s.dict.current with
  | false =>
    rw [hc] at hcopies
    exact congrArg Prod.fst hcopies
  | true =>
    rw [hc] at hcopies
    exact congrArg Prod.snd hcopies

/-- A copy written, or spoilt, in place of the older one. -/
theorem State.setCopy_older (c : StoreCopy) (s : State) : ((s.setCopy s.olderCopy c).dict.copy0,
    (s.setCopy s.olderCopy c).dict.copy1)
    = if s.olderCopy then (s.dict.copy0, c) else (c, s.dict.copy1) := by
  rw [State.setCopy]
  show ((if s.olderCopy then { s.dict with copy1 := c } else { s.dict with copy0 := c } : Dict).copy0,
    (if s.olderCopy then { s.dict with copy1 := c } else { s.dict with copy0 := c } : Dict).copy1) = _
  split <;> rfl

theorem State.setCopy_keeps (one : Bool) (c : StoreCopy) (s : State) :
    (s.setCopy one c).dict.current = s.dict.current ∧ (s.setCopy one c).dict.saveNext = s.dict.saveNext ∧
      (s.setCopy one c).dict.od = s.dict.od := by
  rw [State.setCopy]
  cases one <;> exact ⟨rfl, rfl, rfl⟩

theorem State.nextSave_none {s : State} (h : s.dict.saveNext = []) : s.nextSave = s := by rw [State.nextSave, h]

theorem save_completes {r : SaveRun} {s : State} (hruns : s.dict.saving = some r)
    (hwant : r.want = { answer := none, cmd := none, more := 0 }) (hnext : s.dict.saveNext = []) :
    Completes (.saveComplete .done) s fun t => t.currentCopy = r.copy ∧ t.dict.current = !s.dict.current ∧
      t.dict.saving = none ∧ SentOnly [eventMsg epSystem 315 r.copy.seq.toNat] s t ∧ t.acts = s.acts ∧
        MemorySame s t := by
  obtain ⟨hcurrent, hsaveNext, -⟩ := State.setCopy_keeps s.olderCopy r.copy s
  have hcopies := State.setCopy_older r.copy s
  have hsave : s.saveDone = ((((s.setCopy s.olderCopy r.copy).onDict fun d => { d with current := !d.current, saving := none, provStored := keyMask r.copy.roleKeys }).odSet (odKey 0x0210 3) (usOf s.now)).event epSystem 315 r.copy.seq.toNat) := by
    rw [State.saveDone, hruns]
    dsimp only
    rw [hwant, if_neg (by decide), State.saveAnswer]
    exact State.nextSave_none (hsaveNext.trans hnext)
  refine ⟨_, congrArg Host.Outcome.next hsave, State.currentCopy_of_turned hcopies (congrArg Bool.not hcurrent),
    congrArg Bool.not hcurrent,
    rfl, rfl, rfl, .of_mem rfl⟩

theorem save_programFails {r : SaveRun} {a : Resp} {s : State} (hruns : s.dict.saving = some r)
    (hwant : r.want = { answer := some a, cmd := none, more := 0 }) (hnext : s.dict.saveNext = []) :
    Completes (.saveComplete .programFailed) s fun t => t.currentCopy = s.currentCopy ∧
      t.dict.current = s.dict.current ∧ t.dict.saving = none ∧ Answered { a with status := 0x0D } t ∧
      SentOnly [faultMsg epSystem 155 0 (s.localTime epSystem)] s t ∧ t.acts = s.acts ∧ MemorySame s t := by
  obtain ⟨hcurrent, hsaveNext, -⟩ := State.setCopy_keeps s.olderCopy r.copy.spoilt s
  have hcopies := State.setCopy_older r.copy.spoilt s
  generalize hu : ((s.setCopy s.olderCopy r.copy.spoilt).onDict fun d => { d with saving := none }).fault epSystem 155 0 = u
  obtain ⟨hreply, hanswer⟩ := State.reply_serves { a with status := 0x0D } u
  have hsaveNext' : (u.reply { a with status := 0x0D }).dict.saveNext = [] := by
    have hkept := hreply.keeps
    simp only [Dict.kept, Prod.mk.injEq] at hkept
    obtain ⟨-, -, -, -, -, -, -, -, -, hwaits⟩ := hkept
    rw [hwaits, ← hu]
    exact hsaveNext.trans hnext
  have hsave : s.saveFailed 0 = u.reply { a with status := 0x0D } := by
    have hanswers : u.saveAnswer { answer := some a, cmd := none, more := 0 } 0x0D =
      u.reply { a with status := 0x0D } := by
      rw [State.saveAnswer]
      dsimp only
      rw [if_neg (by decide), if_neg (by simp)]
    rw [State.saveFailed, hruns]
    dsimp only
    rw [hwant, hu]
    dsimp only
    rw [hanswers, State.nextSave_none hsaveNext']
  refine ⟨_, congrArg Host.Outcome.next hsave, hreply.currentCopy.trans ?_, ?_, ?_, hanswer, ?_, ?_, ?_⟩
  · rw [← hu]
    exact State.currentCopy_of_kept hcopies hcurrent
  · rw [hreply.current, ← hu]
    exact hcurrent
  · rw [hreply.saving, ← hu]
    rfl
  · show (u.reply _).fab.msgs = _
    rw [(State.reply_frame _ u).msgs (by simp), ← hu]
    rfl
  · rw [hreply.acts, ← hu]
    rfl
  · refine .of_mem ((hreply.frame.mem (by simp)).trans ?_)
    rw [← hu]
    rfl

/-! RESTORE (03 R75). -/

theorem Frame.of_wire (f : Frame) : Frame.of f.wire { queued := f.queued, guests := f.guests } = f := rfl

theorem restore_refused {f : Frame} {r : Req} {a b : ObjKey} {s : State} (hok : Accepted 7 f r s)
    (hkeys : r.keys = [a, b])
    (hrole : f.role.toNat < 2) :
    Completes (.restore f.wire f.queued f.guests) s fun t => Answered (s.resp f 7 3 [] []) t ∧ Serving s t := by
  refine answersAlone hok rfl rfl fun t ht => ?_
  dsimp only
  rw [hkeys]
  exact if_pos hrole

/-- No row of the dictionary has an index of 1 to 13. -/
theorem odRows_above : odRows.all (fun r => r.indexes.all fun i => decide (13 < i)) = true := by decide +kernel

theorem State.rowDefaults_low {i role : Nat} {r : OdRow} (hr : r ∈ odRows) (hi : i ≤ 13) (s : State) :
    s.rowDefaults i i role r = [] := by
  have habove := List.all_eq_true.1 (List.all_eq_true.1 odRows_above r hr)
  have hnone : (r.indexes.filter fun j => decide (i ≤ j) && decide (j ≤ i) && !restoreSkips j) = [] := by
    rw [List.filter_eq_nil_iff]
    intro j hj
    have hlow := of_decide_eq_true (habove j hj)
    simp only [Bool.and_eq_true, decide_eq_true_eq, not_and]
    omega
  rw [State.rowDefaults, hnone]
  split <;> rfl

theorem restore_ofNothing {f : Frame} {r : Req} {i j : ObjKey} {s : State} (hok : Accepted 7 f r s)
    (hkeys : r.keys = [i, j])
    (hsame : j.index = i.index) (hrole : 2 ≤ f.role.toNat) (hguests : s.dict.guestObjs = [])
        (hi : i.index.toNat ≤ 13) :
    Completes (.restore f.wire f.queued f.guests) s fun t => Answered (s.resp f 7 0 [] [0]) t ∧
      Sent (eventMsg epField 316 0) s t ∧ ObjectsSame s t ∧ t.acts = s.acts ∧ MemorySame s t := by
  have htaken := State.taken_serves f s
  have hguests' : (s.taken f).dict.guestObjs = [] := (congrArg (fun x => x.2.2.2.2.1) htaken.keeps).trans hguests
  have hrows : odRows.flatMap ((s.taken f).rowDefaults i.index.toNat i.index.toNat f.session.role.toNat)
      ++ (s.taken f).guestDefaults i.index.toNat i.index.toNat f.session.role.toNat = [] := by
    rw [State.guestDefaults, hguests', List.filterMap_nil, List.append_nil, List.flatMap_eq_nil_iff]
    exact fun r hr => State.rowDefaults_low hr hi _
  have hexec : exec (.restore f.wire f.queued f.guests) s = .next
    (((s.taken f).event epField 316 0).reply ((s.taken f).resp f 7 0 [] [0])) := by
    refine (congrArg Host.Outcome.next (State.served_of_accepted (op := 7) (f := f) hok rfl _)).trans
      (congrArg Host.Outcome.next ?_)
    rw [hkeys, Frame.of_wire]
    dsimp only
    have hnot : ¬ f.session.role.toNat < 2 := Nat.not_lt.2 hrole
    rw [if_neg hnot, hsame, hrows]
    rfl
  refine ⟨_, hexec, ?_⟩
  rw [htaken.resp]
  have hgrowsTaken := State.taken_grows f s
  generalize s.taken f = u at htaken hgrowsTaken
  obtain ⟨hreply, hanswer⟩ := State.reply_serves (s.resp f 7 0 [] [0]) (u.event epField 316 0)
  have hgrows : Grows (u.event epField 316 0) ((u.event epField 316 0).reply (s.resp f 7 0 [] [0])) :=
    .of_eq ((State.reply_frame _ _).msgs (by simp))
  have hevent : Serving u (u.event epField 316 0) :=
    .of_dict ((State.event_only _ _ _ u (by simp) u).2 (.refl _ u)) rfl rfl rfl
  have hall := (htaken.trans hevent).trans hreply
  refine ⟨hanswer, ?_, hall.objects, hall.acts, hall.memorySame⟩
  exact (Sent.after hgrowsTaken (Sent.send _ u)).grows hgrows

/-- Settles O11: each request does what its row says, once the frame has been taken up. -/
theorem dictionaryWritesStagesAndSaves : Obligations.DictionaryWritesStagesAndSaves := by
  unfold Obligations.DictionaryWritesStagesAndSaves
  refine ⟨?_, ?_, ?_, ?_, ?_, ?_, ?_, ?_, ?_, ?_, ?_, ?_, ?_⟩
  · rintro f r w e s ⟨hok, hitems, hfails⟩
    obtain ⟨t, hexec, hanswer, hserves⟩ := write_fails hok hitems hfails
    exact ⟨t, hexec, hanswer, hserves.objects, hserves.acts, hserves.memorySame⟩
  · rintro f r w s ⟨hok, hitems, hkey, hty, hlen, hrole, hlow, hhigh⟩
    exact write_stores hok hitems hkey hty hlen hrole hlow hhigh
  · rintro f r w x s ⟨hok, hitems, hempty, hchecks, hlen⟩
    exact stage_adds hok hitems hempty hchecks hlen
  · rintro f r s hok
    exact discard_forgets hok
  · rintro x y s ⟨hsession, hold⟩
    exact stagedSet_expires hsession hold
  · rintro f r s ⟨hok, hempty⟩
    obtain ⟨t, hexec, hanswer, hserves⟩ := commit_ofNothing hok hempty
    exact ⟨t, hexec, hanswer, hserves.objects, hserves.acts, hserves.memorySame⟩
  · rintro f r w e s ⟨hok, hstaged, hfails, hnz, hown⟩
    obtain ⟨t, hexec, hanswer, hserves⟩ := commit_ofFailing hok hstaged hfails hnz hown
    exact ⟨t, hexec, hanswer, (hserves.staged _).trans hstaged, hserves.objects, hserves.acts, hserves.memorySame⟩
  · rintro f r s ⟨hok, hruns⟩
    obtain ⟨t, hexec, hanswer, hserves⟩ := save_refused hok hruns
    exact ⟨t, hexec, hanswer, hserves.saving, hserves.current, hserves.objects, hserves.acts⟩
  · rintro f r s ⟨hok, hidle⟩
    exact save_starts hok hidle
  · rintro r s ⟨hruns, hwant, hnext⟩
    exact save_completes hruns hwant hnext
  · rintro r a s ⟨hruns, hwant, hnext⟩
    exact save_programFails hruns hwant hnext
  · rintro f r a b s ⟨hok, hkeys, hrole⟩
    obtain ⟨t, hexec, hanswer, hserves⟩ := restore_refused hok hkeys hrole
    exact ⟨t, hexec, hanswer, hserves.objects, hserves.acts⟩
  · rintro f r i j s ⟨hok, hkeys, hsame, hrole, hguests, -, hi⟩
    exact restore_ofNothing hok hkeys hsame hrole hguests hi

end Sys2Proof.Machine

/-! SUPPORT. Frames of the recovery ladder's operations and of the read gate's. -/

namespace Sys2Proof.Machine

open Sys2Proof

set_option Elab.async false

theorem State.offsetWord_only {ps : List Part} (a : Fin 4) (ofs : Int) (s : State)
    (h_mem : .mem ∈ ps) (z : State) : Only ps z (State.offsetWord a ofs s) ↔ Only ps z s := by
  unfold State.offsetWord
  dsimp only
  simp only [Only.ite, Only.refl, ite_self, State.setWord_only, h_mem, or_true, implies_true]

theorem State.pageIn_only {ps : List Part} (p : Page) (s : State)
    (h_buf : .buf ∈ ps) (z : State) : Only ps z (State.pageIn p s) ↔ Only ps z s := by
  unfold State.pageIn
  simp only [Only.ite, Only.refl, ite_self, State.onBuf_only, h_buf, or_true, implies_true]

theorem State.keepRead_only {ps : List Part} (unit : Nat) (s : State)
    (h_buf : .buf ∈ ps) (z : State) : Only ps z (State.keepRead unit s) ↔ Only ps z s := by
  unfold State.keepRead
  simp only [Only.ite, Only.refl, ite_self, State.pageIn_only, h_buf, or_true, implies_true]

theorem State.cmdUnit_only {ps : List Part} (n : Option Nat) (st : NvStatus) (s : State)
    (h_nvme : .nvme ∈ ps) (z : State) : Only ps z (State.cmdUnit n st s) ↔ Only ps z s := by
  unfold State.cmdUnit
  (repeat' split) <;> simp only [Only.ite, Only.refl, ite_self, State.onCmd_only, h_nvme, or_true, implies_true]

theorem State.detentionExpire_only {ps : List Part} (d : Detention) (s : State)
    (h_dict : .dict ∈ ps) (h_msgs : .msgs ∈ ps) (h_plc : .plc ∈ ps) (h_recov : .recov ∈ ps) (h_tt : .tt ∈ ps)
        (z : State) : Only ps z (State.detentionExpire d s) ↔ Only ps z s := by
  unfold State.detentionExpire
  simp only [Only.ite, Only.refl, ite_self, State.count_only, State.event_only, State.journal_only,
    State.onRecov_only, h_dict, h_msgs, h_plc, h_recov, h_tt, or_true, implies_true]

theorem State.detain_only {ps : List Part} (l : Ladder) (step : Nat) (recovered : Bool) (s : State)
    (h_dict : .dict ∈ ps) (h_msgs : .msgs ∈ ps) (h_plc : .plc ∈ ps) (h_recov : .recov ∈ ps) (h_tt : .tt ∈ ps)
        (z : State) : Only ps z (State.detain l step recovered s) ↔ Only ps z s := by
  unfold State.detain
  dsimp only
  (repeat' split) <;> simp only [Only.ite, Only.refl, ite_self, State.count_only, State.detentionExpire_only,
      State.event_only, State.fault_only, State.journal_only, State.onDetention_only, State.onRecov_only,
      State.scheduleRelocation_only, h_dict, h_msgs, h_plc, h_recov, h_tt, or_true, implies_true]

theorem State.onLadder_only {ps : List Part} (id : Nat) (f : Ladder → Ladder) (s : State)
    (h_recov : .recov ∈ ps) (z : State) : Only ps z (State.onLadder id f s) ↔ Only ps z s := by
  unfold State.onLadder
  simp only [Only.ite, Only.refl, ite_self, State.onRecov_only, h_recov, or_true, implies_true]

theorem State.errEntry_only {ps : List Part} (nsid lba : Nat) (s : State)
    (h_nvme : .nvme ∈ ps) (z : State) : Only ps z (State.errEntry nsid lba s) ↔ Only ps z s := by
  unfold State.errEntry
  simp only [Only.ite, Only.refl, ite_self, State.onNvme_only, h_nvme, or_true, implies_true]

theorem State.nextOp_only {ps : List Part} (s : State)
    (h_plc : .plc ∈ ps) (z : State) : Only ps z (State.nextOp s) ↔ Only ps z s := by
  unfold State.nextOp
  simp only [Only.ite, Only.refl, ite_self, State.onPlc_only, h_plc, or_true, implies_true]

theorem State.replayEvent_only {ps : List Part} (a : Fin 4) (resident : Bool) (outcome slot : Nat) (s : State)
    (h_dict : .dict ∈ ps) (h_msgs : .msgs ∈ ps) (z : State) :
        Only ps z (State.replayEvent a resident outcome slot s) ↔ Only ps z s := by
  unfold State.replayEvent
  simp only [Only.ite, Only.refl, ite_self, State.actEvent_only, State.count_only, h_dict, h_msgs, or_true,
    implies_true]

theorem State.ledOn_only {ps : List Part} (s : State)
    (h_ports : .ports ∈ ps) (z : State) : Only ps z (State.ledOn s) ↔ Only ps z s := by
  unfold State.ledOn
  simp only [Only.ite, Only.refl, ite_self, State.onPorts_only, h_ports, or_true, implies_true]

theorem State.markEvents_only {ps : List Part} (a : Fin 4) (j : SectorJob) (found : List Bool) (s : State)
    (h_dict : .dict ∈ ps) (h_msgs : .msgs ∈ ps) (z : State) :
        Only ps z (State.markEvents a j found s) ↔ Only ps z s := by
  unfold State.markEvents
  dsimp only
  (repeat' split) <;> simp only [Only.ite, Only.refl, ite_self, Only.foldS, State.count_only, State.event_only,
      h_dict, h_msgs, or_true, implies_true]

theorem State.rchFlag_only {ps : List Part} (a : Fin 4) (n : Nat) (s : State)
    (h_act_a : .act a ∈ ps ∨ .acts ∈ ps) (z : State) : Only ps z (State.rchFlag a n s) ↔ Only ps z s := by
  unfold State.rchFlag
  simp only [Only.ite, Only.refl, ite_self, State.onRch_only, h_act_a, or_true, implies_true]

theorem State.regionSeen_only {ps : List Part} (a : Fin 4) (x : Region) (s : State)
    (h_act_a : .act a ∈ ps ∨ .acts ∈ ps) (h_dict : .dict ∈ ps) (h_msgs : .msgs ∈ ps) (z : State) :
        Only ps z (State.regionSeen a x s) ↔ Only ps z s := by
  unfold State.regionSeen
  dsimp only
  simp only [Only.ite, Only.refl, ite_self, State.actEvent_only, State.countA_only, State.onRch_only,
    State.rchFlag_only, h_act_a, h_dict, h_msgs, or_true, implies_true]

theorem State.actFault_only {ps : List Part} (a : Fin 4) (k off kind : Nat) (s : State)
    (h_msgs : .msgs ∈ ps) (z : State) : Only ps z (State.actFault a k off kind s) ↔ Only ps z s := by
  unfold State.actFault
  simp only [Only.ite, Only.refl, ite_self, State.fault_only, h_msgs, or_true, implies_true]

theorem State.timingLost_only {ps : List Part} (a : Fin 4) (s : State)
    (h_act_a : .act a ∈ ps ∨ .acts ∈ ps) (h_dict : .dict ∈ ps) (h_msgs : .msgs ∈ ps) (z : State) :
        Only ps z (State.timingLost a s) ↔ Only ps z s := by
  unfold State.timingLost
  simp only [Only.ite, Only.refl, ite_self, State.actFault_only, State.countA_only, State.onRch_only,
    State.rchFlag_only, h_act_a, h_dict, h_msgs, or_true, implies_true]

theorem State.tapWriteBack_only {ps : List Part} (a : Fin 4) (j : SectorJob) (s : State)
    (h_act_a : .act a ∈ ps ∨ .acts ∈ ps) (z : State) : Only ps z (State.tapWriteBack a j s) ↔ Only ps z s := by
  unfold State.tapWriteBack
  dsimp only
  simp only [Only.ite, Only.refl, ite_self, State.onRch_only, h_act_a, or_true, implies_true]

theorem State.offsetWord_grows {z : State} (a : Fin 4) (ofs : Int) (s : State) (h : Grows z s) :
    Grows z (State.offsetWord a ofs s) :=
  h.trans (.of_eq (((State.offsetWord_only (ps := [.mem]) a ofs s (h_mem := by simp) s).2 (.refl _ _)).msgs
    (by simp)))

theorem State.keepRead_grows {z : State} (unit : Nat) (s : State) (h : Grows z s) : Grows z (State.keepRead unit s) :=
  h.trans (.of_eq (((State.keepRead_only (ps := [.buf]) unit s (h_buf := by simp) s).2 (.refl _ _)).msgs (by simp)))

theorem State.cmdUnit_grows {z : State} (n : Option Nat) (st : NvStatus) (s : State) (h : Grows z s) :
    Grows z (State.cmdUnit n st s) :=
  h.trans (.of_eq (((State.cmdUnit_only (ps := [.nvme]) n st s (h_nvme := by simp) s).2 (.refl _ _)).msgs (by simp)))

theorem State.onLadder_grows {z : State} (id : Nat) (f : Ladder → Ladder) (s : State) (h : Grows z s) :
    Grows z (State.onLadder id f s) :=
  h.trans (.of_eq (((State.onLadder_only (ps := [.recov]) id f s (h_recov := by simp) s).2 (.refl _ _)).msgs
    (by simp)))

theorem State.errEntry_grows {z : State} (nsid lba : Nat) (s : State) (h : Grows z s) :
    Grows z (State.errEntry nsid lba s) :=
  h.trans (.of_eq (((State.errEntry_only (ps := [.nvme]) nsid lba s (h_nvme := by simp) s).2 (.refl _ _)).msgs
    (by simp)))

theorem State.nextOp_grows {z : State} (s : State) (h : Grows z s) : Grows z (State.nextOp s) :=
  h.trans (.of_eq (((State.nextOp_only (ps := [.plc]) s (h_plc := by simp) s).2 (.refl _ _)).msgs (by simp)))

theorem State.showPins_grows {z : State} (a : Fin 4) (k : Nat) (s : State) (h : Grows z s) :
    Grows z (State.showPins a k s) :=
  h.trans (.of_eq (((State.showPins_only (ps := [.mem]) a k s (h_mem := by simp) s).2 (.refl _ _)).msgs (by simp)))

theorem State.ledOn_grows {z : State} (s : State) (h : Grows z s) : Grows z (State.ledOn s) :=
  h.trans (.of_eq (((State.ledOn_only (ps := [.ports]) s (h_ports := by simp) s).2 (.refl _ _)).msgs (by simp)))

theorem State.detentionExpire_grows {z : State} (d : Detention) (s : State) (h : Grows z s) :
    Grows z (State.detentionExpire d s) := by
  unfold State.detentionExpire
  repeat' first
    | with_reducible exact h
    | intro _ _ h
    | with_reducible apply Grows.ite
    | with_reducible apply State.count_grows
    | with_reducible apply State.event_grows
    | with_reducible apply State.journal_grows
    | with_reducible apply State.onRecov_grows

theorem State.detain_grows {z : State} (l : Ladder) (step : Nat) (recovered : Bool) (s : State) (h : Grows z s) :
    Grows z (State.detain l step recovered s) := by
  unfold State.detain
  dsimp only
  repeat' split
  all_goals repeat' first
    | with_reducible exact h
    | intro _ _ h
    | with_reducible apply Grows.ite
    | with_reducible apply State.count_grows
    | with_reducible apply State.detentionExpire_grows
    | with_reducible apply State.event_grows
    | with_reducible apply State.fault_grows
    | with_reducible apply State.journal_grows
    | with_reducible apply State.onDetention_grows
    | with_reducible apply State.onRecov_grows
    | with_reducible apply State.scheduleRelocation_grows

theorem State.replayEvent_grows {z : State} (a : Fin 4) (resident : Bool) (outcome slot : Nat) (s : State)
    (h : Grows z s) : Grows z (State.replayEvent a resident outcome slot s) := by
  unfold State.replayEvent
  repeat' first
    | with_reducible exact h
    | intro _ _ h
    | with_reducible apply State.actEvent_grows
    | with_reducible apply State.count_grows

theorem State.actFault_grows {z : State} (a : Fin 4) (k off kind : Nat) (s : State) (h : Grows z s) :
    Grows z (State.actFault a k off kind s) := by
  unfold State.actFault
  repeat' first
    | with_reducible exact h
    | intro _ _ h
    | with_reducible apply Grows.ite
    | with_reducible apply State.fault_grows

theorem State.markEvents_grows {z : State} (a : Fin 4) (j : SectorJob) (found : List Bool) (s : State)
    (h : Grows z s) : Grows z (State.markEvents a j found s) := by
  unfold State.markEvents
  dsimp only
  repeat' split
  all_goals repeat' first
    | with_reducible exact h
    | intro _ _ h
    | with_reducible apply Grows.foldS
    | with_reducible apply Grows.ite
    | with_reducible apply State.count_grows
    | with_reducible apply State.event_grows

end Sys2Proof.Machine

/-! PROOFS. Read operations: posting, the read gate, regions and timing (07 R204 to R220). -/

namespace Sys2Proof.Machine

open Sys2Proof

set_option Elab.async false

/-! What sectors that end and replays leave of the read gates (07 R224 to R230, 08 R252 to R259). -/

/-- No gate opens, no flag is cleared, and sectors done stay told. -/
structure LeavesGate (s t : State) : Prop where
  now : ∀ a, (t.act a).rch.now = (s.act a).rch.now
  flags : ∀ a i, (s.act a).rch.flags.getLsbD i = true → (t.act a).rch.flags.getLsbD i = true
  done : s.pool.done <+: t.pool.done
  grows : Grows s t

theorem LeavesGate.refl (s : State) : LeavesGate s s := ⟨fun _ => rfl, fun _ _ h => h, List.prefix_refl _, .refl s⟩

theorem LeavesGate.trans {s t u : State} (h : LeavesGate s t) (k : LeavesGate t u) : LeavesGate s u :=
  ⟨fun a => (k.now a).trans (h.now a), fun a i hi => k.flags a i (h.flags a i hi), h.done.trans k.done,
    h.grows.trans k.grows⟩

/-- The parts that the ladder's operations change beside the actuators and the pool. -/
def ladderParts : List Part := [.buf, .dict, .mem, .msgs, .nvme, .plc, .recov, .tt]

theorem LeavesGate.of_only {z s t : State} (h : LeavesGate z s) (k : Only ladderParts s t) (g : Grows s t) :
    LeavesGate z t :=
  h.trans ⟨fun a => by rw [k.act a (by simp [ladderParts])],
    fun a i hi => by rw [k.act a (by simp [ladderParts])]; exact hi,
    by simp only [k.pool (by simp [ladderParts]), List.prefix_refl], g⟩

theorem LeavesGate.ite {z t u : State} {c : Prop} [Decidable c] (ht : LeavesGate z t) (hu : LeavesGate z u) :
    LeavesGate z (if c then t else u) := by
  split
  · exact ht
  · exact hu

/-- A read channel whose gate stays as it is and whose flags stay set. -/
theorem LeavesGate.onRch {z s : State} (a : Fin 4) (f : Rch → Rch) (h : LeavesGate z s)
    (hnow : (f (s.act a).rch).now = (s.act a).rch.now)
    (hflags : ∀ i, (s.act a).rch.flags.getLsbD i = true → (f (s.act a).rch).flags.getLsbD i = true) :
    LeavesGate z (s.onRch a f) := by
  refine h.trans ⟨fun b => ?_, fun b i hi => ?_, List.prefix_refl _, .of_eq rfl⟩
  · by_cases hb : b = a
    · subst hb
      rw [State.act_onRch_same]
      exact hnow
    · rw [show (s.onRch a f).act b = s.act b from State.act_onAct_ne _ _ hb]
  · by_cases hb : b = a
    · subst hb
      rw [State.act_onRch_same]
      exact hflags i hi
    · rw [show (s.onRch a f).act b = s.act b from State.act_onAct_ne _ _ hb]
      exact hi

theorem State.event_gate {z : State} (src : Endpoint) (num qual : Nat) (s : State) (h : LeavesGate z s) :
    LeavesGate z (s.event src num qual) :=
  h.of_only ((State.event_only src num qual s (by simp [ladderParts]) s).2 (.refl _ s))
    (State.event_grows src num qual s (.refl s))

theorem State.fault_gate {z : State} (src : Endpoint) (source kind : Nat) (s : State) (h : LeavesGate z s) :
    LeavesGate z (s.fault src source kind) :=
  h.of_only ((State.fault_only src source kind s (by simp [ladderParts]) s).2 (.refl _ s))
    (State.fault_grows src source kind s (.refl s))

theorem State.count_gate {z : State} (key n : Nat) (s : State) (h : LeavesGate z s) :
    LeavesGate z (s.count key n) :=
  h.of_only ((State.count_only key n s (by simp [ladderParts]) s).2 (.refl _ s)) (State.count_grows key n s (.refl s))

theorem State.actEvent_gate {z : State} (a : Fin 4) (k off qual : Nat) (s : State) (h : LeavesGate z s) :
    LeavesGate z (s.actEvent a k off qual) :=
  h.of_only ((State.actEvent_only a k off qual s (by simp [ladderParts]) s).2 (.refl _ s))
    (State.actEvent_grows a k off qual s (.refl s))

theorem State.showPins_gate {z : State} (a : Fin 4) (k : Nat) (s : State) (h : LeavesGate z s) :
    LeavesGate z (s.showPins a k) :=
  h.of_only ((State.showPins_only a k s (by simp [ladderParts]) s).2 (.refl _ s))
    (State.showPins_grows a k s (.refl s))

theorem State.offsetWord_gate {z : State} (a : Fin 4) (ofs : Int) (s : State) (h : LeavesGate z s) :
    LeavesGate z (s.offsetWord a ofs) :=
  h.of_only ((State.offsetWord_only a ofs s (by simp [ladderParts]) s).2 (.refl _ s))
    (State.offsetWord_grows a ofs s (.refl s))

theorem State.keepRead_gate {z : State} (unit : Nat) (s : State) (h : LeavesGate z s) :
    LeavesGate z (s.keepRead unit) :=
  h.of_only ((State.keepRead_only unit s (by simp [ladderParts]) s).2 (.refl _ s))
    (State.keepRead_grows unit s (.refl s))

theorem State.cmdUnit_gate {z : State} (n : Option Nat) (st : NvStatus) (s : State) (h : LeavesGate z s) :
    LeavesGate z (s.cmdUnit n st) :=
  h.of_only ((State.cmdUnit_only n st s (by simp [ladderParts]) s).2 (.refl _ s))
    (State.cmdUnit_grows n st s (.refl s))

theorem State.detain_gate {z : State} (l : Ladder) (step : Nat) (recovered : Bool) (s : State) (h : LeavesGate z s) :
    LeavesGate z (s.detain l step recovered) :=
  h.of_only ((State.detain_only l step recovered s (by simp [ladderParts]) (by simp [ladderParts])
    (by simp [ladderParts]) (by simp [ladderParts]) (by simp [ladderParts]) s).2 (.refl _ s))
    (State.detain_grows l step recovered s (.refl s))

theorem State.onLadder_gate {z : State} (id : Nat) (f : Ladder → Ladder) (s : State) (h : LeavesGate z s) :
    LeavesGate z (s.onLadder id f) :=
  h.of_only ((State.onLadder_only id f s (by simp [ladderParts]) s).2 (.refl _ s))
    (State.onLadder_grows id f s (.refl s))

theorem State.errEntry_gate {z : State} (nsid lba : Nat) (s : State) (h : LeavesGate z s) :
    LeavesGate z (s.errEntry nsid lba) :=
  h.of_only ((State.errEntry_only nsid lba s (by simp [ladderParts]) s).2 (.refl _ s))
    (State.errEntry_grows nsid lba s (.refl s))

theorem State.nextOp_gate {z : State}  (s : State) (h : LeavesGate z s) :
    LeavesGate z (s.nextOp) :=
  h.of_only ((State.nextOp_only  s (by simp [ladderParts]) s).2 (.refl _ s)) (State.nextOp_grows  s (.refl s))

theorem State.replayEvent_gate {z : State} (a : Fin 4) (resident : Bool) (outcome slot : Nat) (s : State)
    (h : LeavesGate z s) :
    LeavesGate z (s.replayEvent a resident outcome slot) :=
  h.of_only ((State.replayEvent_only a resident outcome slot s (by simp [ladderParts]) (by simp [ladderParts]) s).2
    (.refl _ s)) (State.replayEvent_grows a resident outcome slot s (.refl s))

theorem State.onRecov_gate {z : State} (f : Rec → Rec) (s : State) (h : LeavesGate z s) :
    LeavesGate z (s.onRecov f) :=
  h.of_only ((State.onRecov_only (by simp [ladderParts]) f s s).2 (.refl _ s)) (State.onRecov_grows f s (.refl s))

theorem LeavesGate.doIf {z s : State} {f : State → State} (c : Bool) (h : LeavesGate z s)
    (hf : ∀ t, LeavesGate z t → LeavesGate z (f t)) : LeavesGate z (s.doIf c f) := by
  rw [State.doIf]
  split
  · exact hf s h
  · exact h

/-- Setting a flag leaves the flags that are set. -/
theorem getLsbD_setBit_of_set {v : BitVec 9} {n i : Nat} (hn : n < 9) (hi : v.getLsbD i = true) :
    (setBit v n true).getLsbD i = true := by
  rw [getLsbD_setBit v hn]
  split
  · rfl
  · exact hi

theorem State.rchFlag_gate {z : State} (a : Fin 4) {n : Nat} (hn : n < 9) (s : State) (h : LeavesGate z s) :
    LeavesGate z (s.rchFlag a n) :=
  h.onRch a _ rfl fun _ hi => getLsbD_setBit_of_set hn hi

theorem State.unpinSlot_gate {z : State} (a : Fin 4) (k : Nat) (resident : Bool) (s : State) (h : LeavesGate z s) :
    LeavesGate z (s.unpinSlot a k resident) := by
  rw [State.unpinSlot]
  cases resident <;> exact State.showPins_gate a k _ (h.onRch a _ rfl fun _ hi => hi)

theorem State.pinSlot_gate {z : State} (a : Fin 4) (k : Nat) (resident : Bool) (s : State) (h : LeavesGate z s) :
    LeavesGate z (s.pinSlot a k resident) := by
  rw [State.pinSlot]
  refine .ite (State.rchFlag_gate a (by decide) s h) (.ite ?_ ?_)
  · cases resident <;> exact h.onRch a _ rfl fun _ hi => hi
  · cases resident <;> exact State.showPins_gate a k _ (h.onRch a _ rfl fun _ hi => hi)

theorem State.ladderDrop_gate {z : State} (l : Ladder) (s : State) (h : LeavesGate z s) :
    LeavesGate z (s.ladderDrop l) := by
  rw [State.ladderDrop]
  have hdrop := State.onRecov_gate (fun r => { r with ladders := r.ladders.filter fun x => x.id != l.id }) _
    (h.onRch l.act (fun r => { r with replays := r.replays.filter fun j => j.req.ladder != some l.id }) rfl fun _ hi => hi)
  exact .ite (State.unpinSlot_gate _ _ _ _ hdrop) hdrop

theorem State.ladderWon_gate {z : State} (l : Ladder) (step : Nat) (s : State) (h : LeavesGate z s) :
    LeavesGate z (s.ladderWon l step) := by
  rw [State.ladderWon]
  have hword := LeavesGate.ite (c := (decide (l.step = 4) || decide (l.step = 5)) = true)
    (State.offsetWord_gate l.act 0 s h) h
  have htold := State.event_gate epResident 249 (l.act.val * 2 ^ 24 + step) _ (State.ladderDrop_gate l _ hword)
  have hread := LeavesGate.doIf l.job.req.cmd.isSome (State.count_gate (0x441006 + step) 1 _ htold)
    fun t => State.keepRead_gate (fld l.job.req.tag.toNat 0 48) t
  have hunit := State.cmdUnit_gate l.job.req.cmd nvOk _ hread
  exact .ite (State.detain_gate _ _ _ _ hunit) hunit

theorem State.ladderLost_gate {z : State} (l : Ladder) (s : State) (h : LeavesGate z s) :
    LeavesGate z (s.ladderLost l) := by
  rw [State.ladderLost]
  have hword := LeavesGate.ite (c := (decide (l.step = 4) || decide (l.step = 5)) = true)
    (State.offsetWord_gate l.act 0 s h) h
  have htold := State.event_gate epResident 250 (l.act.val * 2 ^ 24 + l.job.track.toNat) _
    (State.ladderDrop_gate l _ hword)
  have hunit := State.cmdUnit_gate l.job.req.cmd (nvRetry .unrecoveredRead) _ (State.count_gate 0x44100C 1 _ htold)
  have hlogged := State.errEntry_gate l.nsid l.lba _ hunit
  exact .ite hlogged (.ite (State.fault_gate _ _ _ _ hlogged)
    (State.detain_gate _ _ _ _ (State.fault_gate _ _ _ _ hlogged)))

theorem State.ladderPump_gate {z : State} (id : Nat) (s : State) (h : LeavesGate z s) :
    LeavesGate z (s.ladderPump id) := by
  rw [State.ladderPump]
  split
  · exact h
  · exact State.onLadder_gate _ _ _ (h.onRch _ _ rfl fun _ hi => hi)

theorem State.postRead_gate {z : State} (a : Fin 4) (op : ReadOp) (s : State) (h : LeavesGate z s) :
    LeavesGate z (s.postRead a op) := by
  rw [State.postRead]
  have hpost := h.onRch a (fun r => { r with ops := r.ops ++ [op] }) rfl fun _ hi => hi
  exact .ite (State.actEvent_gate _ _ _ _ _ hpost) hpost

theorem State.reread_gate {z : State} (id : Nat) (ofs : Int) (s : State) (h : LeavesGate z s) :
    LeavesGate z (s.reread id ofs) := by
  rw [State.reread]
  split
  · exact h
  · exact State.postRead_gate _ _ _ (State.onLadder_gate _ _ _ (State.nextOp_gate _ (State.offsetWord_gate _ _ _ h)))

theorem State.ladderTry5_gate {z : State} (id : Nat) (s : State) (h : LeavesGate z s) :
    LeavesGate z (s.ladderTry5 id) := by
  rw [State.ladderTry5]
  split
  · exact h
  · exact .ite (State.reread_gate _ _ _ (State.onLadder_gate _ _ _ h)) (State.ladderLost_gate _ _ h)

theorem State.ladderTry4_gate {z : State} (id : Nat) (s : State) (h : LeavesGate z s) :
    LeavesGate z (s.ladderTry4 id) := by
  rw [State.ladderTry4]
  split
  · exact h
  · refine .ite (State.onLadder_gate _ _ _ h) (.ite (State.ladderLost_gate _ _ h)
      (.ite ?_ (State.ladderTry5_gate _ _ h)))
    split
    · exact State.ladderTry5_gate _ _ h
    · exact State.reread_gate _ _ _ (State.onLadder_gate _ _ _ h)

theorem State.ladderNext4_gate {z : State} (id : Nat) (s : State) (h : LeavesGate z s) :
    LeavesGate z (s.ladderNext4 id) := by
  rw [State.ladderNext4]
  split
  · exact h
  · split
    · exact State.ladderTry5_gate _ _ h
    · exact .ite (State.ladderLost_gate _ _ h) (State.reread_gate _ _ _ (State.onLadder_gate _ _ _ h))

theorem State.ladderTry3_gate {z : State} (id : Nat) (s : State) (h : LeavesGate z s) :
    LeavesGate z (s.ladderTry3 id) := by
  rw [State.ladderTry3]
  split
  · exact h
  · exact .ite (State.ladderTry4_gate _ _ h) (.ite (State.onLadder_gate _ _ _ h) (State.ladderTry4_gate _ _ h))

theorem State.ladderReplays2_gate {z : State} (id : Nat) (s : State) (h : LeavesGate z s) :
    LeavesGate z (s.ladderReplays2 id) := by
  rw [State.ladderReplays2]
  split
  · exact h
  · exact State.ladderPump_gate _ _ (State.onLadder_gate _ _ _ h)

theorem State.ladderTry2_gate {z : State} (id : Nat) (s : State) (h : LeavesGate z s) :
    LeavesGate z (s.ladderTry2 id) := by
  rw [State.ladderTry2]
  split
  · exact h
  · exact .ite (State.ladderTry3_gate _ _ h) (.ite (State.ladderTry3_gate _ _ (State.count_gate _ _ _ h))
      (.ite (State.ladderReplays2_gate _ _ (State.pinSlot_gate _ _ _ _ h)) (State.onLadder_gate _ _ _ h)))

theorem State.ladderStart_gate {z : State} (a : Fin 4) (j : SectorJob) (outcome : Nat) (s : State)
    (h : LeavesGate z s) :
    LeavesGate z (s.ladderStart a j outcome) :=
  State.ladderTry2_gate _ _ (State.event_gate _ _ _ _ (State.onRecov_gate _ _ h))

theorem State.ladderReplayEnd_gate {z : State} (id outcome unsat : Nat) (s : State) (h : LeavesGate z s) :
    LeavesGate z (s.ladderReplayEnd id outcome unsat) := by
  rw [State.ladderReplayEnd]
  split
  · exact h
  · refine .ite (State.ladderWon_gate _ _ _ h) (.ite ?_ (State.ladderPump_gate _ _ (State.onLadder_gate _ _ _ h)))
    have hout := fun f => State.onLadder_gate id f s h
    refine .ite (State.ladderTry3_gate _ _ (State.unpinSlot_gate _ _ _ _ (hout _)))
      (.ite (State.ladderNext4_gate _ _ (State.unpinSlot_gate _ _ _ _ (hout _))) ?_)
    split
    · exact State.ladderLost_gate _ _ (State.unpinSlot_gate _ _ _ _ (hout _))
    · exact State.unpinSlot_gate _ _ _ _ (hout _)

theorem State.readDone_gate {z : State} (d : ReadDone) (s : State) (h : LeavesGate z s) :
    LeavesGate z (s.readDone d) :=
  h.trans ⟨fun _ => rfl, fun _ _ hi => hi, List.prefix_append _ _, .of_eq rfl⟩

theorem State.replayEnd_gate {z : State} (a : Fin 4) (r : ReplayJob) (outcome iters corrected unsat erased : Nat)
    (s : State)
    (h : LeavesGate z s) : LeavesGate z (s.replayEnd a r outcome iters corrected unsat erased) := by
  rw [State.replayEnd]
  have htold := State.replayEvent_gate a r.resident outcome r.req.slot.toNat s h
  refine .ite ?_ (htold.onRch a _ rfl fun _ hi => hi)
  split
  · exact State.ladderReplayEnd_gate _ _ _ _ (State.readDone_gate _ _ htold)
  · exact State.readDone_gate _ _ htold

theorem State.replayPump_gate {z : State} (n : Nat) (a : Fin 4) (s : State) (h : LeavesGate z s) :
    LeavesGate z (s.replayPump n a) := by
  induction n generalizing s with
  | zero => exact h
  | succ n ih =>
    rw [State.replayPump]
    refine .ite h ?_
    split
    · exact h
    · have htaken := fun f hnow hflags => h.onRch a f hnow hflags
      dsimp only
      split
      · exact ih _ (State.replayEnd_gate _ _ _ _ _ _ _ _ (htaken _ rfl fun _ hi => hi))
      · exact (htaken _ rfl fun _ hi => hi).onRch a _ rfl fun _ hi => hi

theorem State.pumpReplays_gate {z : State} (s : State) (h : LeavesGate z s) : LeavesGate z s.pumpReplays :=
  foldS_keeps (LeavesGate z) _ (fun a t ht => State.replayPump_gate 64 a t ht) _ h

theorem State.countA_gate {z : State} (key : Nat) (a : Fin 4) (n : Nat) (s : State) (h : LeavesGate z s) :
    LeavesGate z (s.countA key a n) := State.count_gate _ _ _ h

/-- A sector told stays told. -/
theorem LeavesGate.told {s t : State} (h : LeavesGate s t) {l : List ReadDone} {d : ReadDone}
    (hd : s.pool.done = l ++ [d]) :
    t.pool.done[l.length]? = some d := by
  obtain ⟨r, hr⟩ := h.done
  rw [← hr, hd, List.append_assoc, List.getElem?_append_right (Nat.le_refl _), Nat.sub_self]
  rfl

/-- What a sector that found no slot tells (07 R219). -/
def unslotted (a : Fin 4) (j : SectorJob) : ReadDone where
  act := a
  opId := j.opId
  index := j.index
  outcome := 4
  iters := 0
  unsat := 0
  erasures := j.erasures
  corrected := 0

/-- A sector that found no slot, outside a ladder, ends (07 R216, R219). -/
theorem State.readEnd_unslotted {a : Fin 4} {j : SectorJob} (s : State) (hladder : j.ladder = none)
    (hcaptured : j.captured = false) :
    (s.readEnd a j 4 0 0 0 0 false).pool.done[s.pool.done.length]? = some (unslotted a j) ∧
      LeavesGate s (s.readEnd a j 4 0 0 0 0 false) := by
  have hevent := State.actEvent_gate a 3 15 (4 * 16 + j.slot.toNat) s (.refl s)
  have hdone : ((s.actEvent a 3 15 (4 * 16 + j.slot.toNat)).readDone (unslotted a j)).pool.done =
    s.pool.done ++ [unslotted a j] := by
    have hpool : (s.actEvent a 3 15 (4 * 16 + j.slot.toNat)).pool = s.pool :=
      ((State.actEvent_only a 3 15 _ s (by simp) s).2 (.refl [.msgs] s)).pool (by simp)
    show (s.actEvent a 3 15 (4 * 16 + j.slot.toNat)).pool.done ++ _ = _
    rw [hpool]
  have hread := State.readDone_gate (unslotted a j) _ hevent
  rw [State.readEnd, hcaptured, Bool.false_and, if_neg Bool.false_ne_true, if_neg (by decide)]
  change (State.readNext a j 4 (State.doIf false _ (State.doIf (decide (4 = 4)) _ (State.doIf (decide (4 ≠ 0)) _
    (State.onRch a _ ((s.actEvent a 3 15 (4 * 16 + j.slot.toNat)).readDone
        (unslotted a j))))))).pool.done[s.pool.done.length]?
      = some (unslotted a j) ∧ LeavesGate s (State.readNext a j 4 (State.doIf false _ (State.doIf (decide (4 = 4)) _
        (State.doIf (decide (4 ≠ 0)) _ (State.onRch a _ ((s.actEvent a 3 15 (4 * 16 + j.slot.toNat)).readDone
            (unslotted a j)))))))
  generalize (s.actEvent a 3 15 (4 * 16 + j.slot.toNat)).readDone (unslotted a j) = u at hdone hread ⊢
  suffices hends : LeavesGate u _ from ⟨hends.told hdone, hread.trans hends⟩
  rw [State.readNext, hladder]
  dsimp only
  rw [if_neg (by decide)]
  refine State.ladderStart_gate _ _ _ _ (.doIf _ (.doIf _ (.doIf _
    ((LeavesGate.refl u).onRch a _ rfl fun _ hi => hi) ?_) ?_) ?_)
  · exact fun t ht => State.countA_gate _ _ _ t ht
  · exact fun t ht => State.countA_gate _ _ _ t ht
  · exact fun t ht => State.countA_gate _ _ _ _ (State.countA_gate _ _ _ t ht)

/-! Posting (07 R211). -/

theorem State.rch_onRch (a : Fin 4) (f : Rch → Rch) (s : State) : ((s.onRch a f).act a).rch = f (s.act a).rch := by
  rw [State.act_onRch_same]

theorem State.act_onRch_ne {a b : Fin 4} (h : b ≠ a) (f : Rch → Rch) (s : State) : (s.onRch a f).act b = s.act b :=
  State.act_onAct_ne _ _ h

theorem ActuatorOnly.onRch (a : Fin 4) (f : Rch → Rch) (s : State) : ActuatorOnly a s (s.onRch a f) := .onAct a _ s

theorem post_joins {a : Fin 4} {op : ReadOp} {b : Nat} {s : State} (hpresent : s.present a = true)
    (hroom : s.mediaRoom a = true)
    (hbank : bankByRule (s.act a).rch.banks 8 64 s.multMax op.head.toNat op.zone.toNat 1 = some b) :
    Completes (.readOperationPost a op) s fun t =>
      (t.act a).rch.ops = (s.act a).rch.ops ++ [op] ∧ ActuatorOnly a s t ∧ t.fab = s.fab := by
  have hexec : exec (.readOperationPost a op) s = .next (s.onRch a fun r => { r with ops := r.ops ++ [op] }) := by
    change execReadOperationPost .. = _
    rw [execReadOperationPost, if_pos (by simp [hpresent, hroom]), State.postRead, hbank]
    rfl
  exact ⟨_, hexec, congrArg Rch.ops (State.rch_onRch a _ s), .onRch a _ s, rfl⟩

theorem post_withoutBank {a : Fin 4} {op : ReadOp} {s : State} (hpresent : s.present a = true)
    (hroom : s.mediaRoom a = true)
    (hbank : bankByRule (s.act a).rch.banks 8 64 s.multMax op.head.toNat op.zone.toNat 1 = none) :
    Completes (.readOperationPost a op) s fun t => (t.act a).rch.ops = (s.act a).rch.ops ++ [op] ∧
      SentOnly [eventMsg (epAct a 3) (144 + 24 * a.val + 16) (op.head.toNat * 256 + op.zone.toNat)] s t ∧
        ActuatorOnly a s t := by
  have hexec : exec (.readOperationPost a op) s = .next ((s.onRch a fun r => { r with ops := r.ops ++ [op] }).event
      (epAct a 3) (144 + 24 * a.val + 16) (op.head.toNat * 256 + op.zone.toNat)) := by
    change execReadOperationPost .. = _
    rw [execReadOperationPost, if_pos (by simp [hpresent, hroom]), State.postRead, hbank, if_pos Option.isNone_none,
      State.actEvent_of_present (by exact hpresent)]
  refine ⟨_, hexec, ?_, rfl, (ActuatorOnly.onRch a _ s).trans (.send a _ _)⟩
  rw [State.act_event]
  exact congrArg Rch.ops (State.rch_onRch a _ s)

/-! Regions and timing (07 R208, R215). -/

theorem State.countA_other {key n : Nat} {a : Fin 4} (s : State) (b : Fin 4) :
    (s.countA key a n).act b = s.act b := rfl

theorem region_isSeen {a : Fin 4} {x : Region} {j : SectorJob} {c : Capture} {s : State}
    (hpresent : s.present a = true)
    (hnow : (s.act a).rch.now = some j) (hcapture : (s.act a).rch.capture = some c)
        (hfound : c.regions.contains x = true)
    (hnew : j.regions.contains x = false) :
    Completes (.defectRegion a x) s fun t => (t.act a).rch.now = some { j with regions := j.regions ++ [x] } ∧
      (t.act a).rch.flags.getLsbD 0 = true ∧
      SentOnly [eventMsg (epAct a 3) (144 + 24 * a.val + 14)
        (b2n x.b * 2 ^ 31 + b2n x.a * 2 ^ 30 + (if x.dropout then 2 else 1) * 2 ^ 28 + x.length.toNat * 2 ^ 16 + x.start.toNat)] s t ∧
      (∀ c, c ≠ a → t.act c = s.act c) ∧ MemorySame s t := by
  have hexec : exec (.defectRegion a x) s = .next (s.regionSeen a x) := by
    change execDefectRegion .. = _
    rw [execDefectRegion, hnow, hcapture]
    dsimp only
    rw [if_pos (by rw [hfound, hnew]; rfl)]
  refine ⟨_, hexec, ?_⟩
  rw [State.regionSeen, State.rchFlag]
  generalize hu : State.onRch a _ s = u
  have hunow : (u.act a).rch.now = some { j with regions := j.regions ++ [x] } := by
    rw [← hu, State.rch_onRch, hnow]
    rfl
  have hu' : ActuatorOnly a s u := hu ▸ .onRch a _ s
  have hupresent : (u.onRch a fun r => { r with flags := setBit r.flags 0 true }).present a = true := by
    rw [← hu]
    exact hpresent
  have hufab : u.fab = s.fab := by
    rw [← hu]
    rfl
  rw [State.actEvent_of_present hupresent]
  refine ⟨?_, ?_, ?_, fun b hb => ?_, .of_mem ?_⟩
  · rw [State.countA_other, State.act_event, State.rch_onRch]
    exact hunow
  · rw [State.countA_other, State.act_event, State.rch_onRch]
    exact (getLsbD_setBit _ (by decide) true 0).trans rfl
  · show u.fab.msgs ++ _ = _
    rw [hufab]
    rfl
  · rw [State.countA_other, State.act_event, State.act_onRch_ne hb]
    exact hu'.2 b hb
  · show u.fab.mem = _
    rw [hufab]

theorem timing_isLost {a : Fin 4} {c : Capture} {s : State} (hpresent : s.present a = true)
    (hreading : (s.act a).rch.reading = true)
    (hlock : (s.act a).rch.trLock = true) (hcapture : (s.act a).rch.capture = some c) (hlost : c.lost = true) :
    Completes (.timingRecoveryLockLost a) s fun t => (t.act a).rch.trLock = false ∧
      (t.act a).rch.flags.getLsbD 3 = true ∧
      SentOnly [faultMsg (epAct a 3) (88 + 12 * a.val + 8) 2 (s.localTime (epAct a 3))] s t ∧
      t.odNat (0x40000C + 0x10000 * a.val) 0 = s.odNat (0x40000C + 0x10000 * a.val) 0 + 1 ∧
      (∀ c, c ≠ a → t.act c = s.act c) ∧ MemorySame s t := by
  have hexec : exec (.timingRecoveryLockLost a) s = .next (s.timingLost a) := by
    change execTimingRecoveryLockLost .. = _
    rw [execTimingRecoveryLockLost, if_pos (by simp [hreading, hlock, hcapture, hlost])]
  refine ⟨_, hexec, ?_⟩
  rw [State.timingLost, State.rchFlag, State.actFault_of_present (by exact hpresent)]
  refine ⟨?_, ?_, rfl, State.odNat_count _ _ _, fun b hb => ?_, .of_mem rfl⟩
  · rw [State.countA_other, State.act_fault, State.rch_onRch, State.rch_onRch]
  · rw [State.countA_other, State.act_fault, State.rch_onRch]
    exact (getLsbD_setBit _ (by decide) true 3).trans rfl
  · rw [State.countA_other, State.act_fault, State.act_onRch_ne hb, State.act_onRch_ne hb]

/-! The read gate opens (07 R211, R212, R219). -/

theorem State.onRch_congr {a : Fin 4} {f g : Rch → Rch} {s : State} (h : f (s.act a).rch = g (s.act a).rch) :
    s.onRch a f = s.onRch a g := by
  show ({ s with acts := s.acts.set a { s.acts.get a with rch := f (s.act a).rch } } : State) = _
  rw [h]
  rfl

/-- An operation of one sector leaves the queue. -/
theorem State.nextSector_last {a : Fin 4} {op : ReadOp} {rest : List ReadOp} {req : SectorReq} {s : State}
    (hops : (s.act a).rch.ops = op :: rest) (hone : op.sectors = [req]) (hfirst : (s.act a).rch.opIndex = 0) :
    s.nextSector a = s.onRch a fun r => { r with ops := rest, opIndex := 0 } := by
  rw [State.nextSector]
  refine State.onRch_congr ?_
  rw [hops]
  dsimp only
  rw [hone, hfirst, if_pos (by simp)]

/-- The sector that a gate opens on, by a bank of its head and zone (07 R206, R212). -/
def State.gateJob (s : State) (a : Fin 4) (op : ReadOp) (req : SectorReq) (b : Nat) : SectorJob :=
  sectorJob op 0 req b (bankWords (s.act a).rch.banks 64 b) false
    (s.wrongSpeed a op.head.toNat op.zone.toNat (bankField (bankWords (s.act a).rch.banks 64 b) 1 0 18)) s.now

theorem gateOpen_exec {a : Fin 4} {x : GateInputs} {op : ReadOp} {rest : List ReadOp} {req : SectorReq} {b : Nat} {s : State}
    (hops : (s.act a).rch.ops = op :: rest) (hone : op.sectors = [req])
    (hfirst : (s.act a).rch.opIndex = 0) (hnow : (s.act a).rch.now = none)
    (hservo : s.domOn (20 + a.val) = true) (hmedia : s.domOn (24 + a.val) = true)
    (hbank : chooseBank (s.act a).rch.banks 8 64 s.multMax op.head.toNat op.zone.toNat = some (b, 1)) :
    exec (.readGateOpen a x) s = .next (match (s.act a).rch.freeSlot with
      | none => ((((s.nextSector a).rchFlag a 4).actFault a 3 9 0).readEnd a
        (s.gateJob a op req b) 4 0 0 0 0 false).pumpReplays
      | some k => (s.nextSector a).ledOn.captureStart a (s.gateJob a op req b) k x) := by
  change execReadGateOpen .. = _
  rw [execReadGateOpen]
  dsimp only
  rw [hops, hnow]
  dsimp only
  rw [hfirst, hone]
  dsimp only [List.getElem?_cons_zero]
  rw [hservo, hmedia, if_neg (by decide), hbank]
  dsimp only
  rfl

theorem gate_withoutSlot {a : Fin 4} {x : GateInputs} {op : ReadOp} {rest : List ReadOp} {req : SectorReq} {b : Nat} {s : State}
    (hpresent : s.present a = true) (hops : (s.act a).rch.ops = op :: rest) (hone : op.sectors = [req])
        (hladder : op.ladder = none)
    (hfirst : (s.act a).rch.opIndex = 0) (hnow : (s.act a).rch.now = none)
    (hservo : s.domOn (20 + a.val) = true) (hmedia : s.domOn (24 + a.val) = true)
    (hbank : chooseBank (s.act a).rch.banks 8 64 s.multMax op.head.toNat op.zone.toNat = some (b, 1))
    (hslot : (s.act a).rch.freeSlot = none) :
    Completes (.readGateOpen a x) s fun t => (t.act a).rch.now = none ∧ (t.act a).rch.flags.getLsbD 4 = true ∧
      Sent (faultMsg (epAct a 3) (88 + 12 * a.val + 9) 0 (s.localTime (epAct a 3))) s t ∧
      t.pool.done[s.pool.done.length]? = some { act := a, opId := op.opId, index := 0, outcome := 4, iters := 0, unsat := 0, erasures := 0, corrected := 0 } := by
  have hexec := gateOpen_exec (x := x) hops hone hfirst hnow hservo hmedia hbank
  rw [hslot, State.nextSector_last hops hone hfirst] at hexec
  refine ⟨_, hexec, ?_⟩
  generalize hu : (s.onRch a fun r => { r with ops := rest, opIndex := 0 }).rchFlag a 4 = u
  have hupresent : u.present a = true := by
    rw [← hu]
    exact hpresent
  have hrch : (u.act a).rch.now = none ∧ (u.act a).rch.flags.getLsbD 4 = true := by
    rw [← hu, State.rchFlag, State.rch_onRch, State.rch_onRch]
    exact ⟨hnow, (getLsbD_setBit _ (by decide) true 4).trans rfl⟩
  have hupool : (u.fault (epAct a 3) (88 + 12 * a.val + 9) 0).pool.done = s.pool.done := by rw [← hu]; rfl
  have hsent : Sent (faultMsg (epAct a 3) (88 + 12 * a.val + 9) 0 (s.localTime (epAct a 3))) s
      (u.fault (epAct a 3) (88 + 12 * a.val + 9) 0) := by
    rw [← hu]
    exact Sent.after (.of_eq rfl) (Sent.send _ _)
  rw [State.actFault_of_present hupresent]
  obtain ⟨htold, hgate⟩ := (u.fault (epAct a 3) (88 + 12 * a.val + 9) 0).readEnd_unslotted (a := a)
    (j := s.gateJob a op req b)
    hladder rfl
  have hpump := State.pumpReplays_gate _ (.refl ((u.fault (epAct a 3) (88 + 12 * a.val + 9) 0).readEnd a
    (s.gateJob a op req b) 4 0 0 0 0 false))
  have hall := hgate.trans hpump
  refine ⟨(hall.now a).trans hrch.1, hall.flags a 4 hrch.2, hsent.grows hall.grows, ?_⟩
  rw [hupool] at htold
  obtain ⟨r, hr⟩ := hpump.done
  rw [← hr, List.getElem?_append_left (List.getElem?_eq_some_iff.1 htold).1]
  exact htold

@[simp] theorem State.act_ledOn (s : State) (a : Fin 4) : s.ledOn.act a = s.act a := rfl

/-- The sequence number of the next capture. -/
def Rch.nextSeq (r : Rch) : BitVec 32 := if r.capSeq + 1 = 0 then 1 else r.capSeq + 1

/-- A capture that starts marks its slot, and the read channel takes the sector up. -/
theorem State.captureStart_starts (a : Fin 4) (j : SectorJob) (k : Nat) (x : GateInputs) (u : State) :
    ∃ (f : Rch → Rch) (j' : SectorJob) (found : List Bool),
      u.captureStart a j k x = ((u.setSlotWord a k 4 0x40000000).onRch a f).markEvents a j' found ∧
      (j'.req = j.req ∧ j'.slot = BitVec.ofNat 3 k ∧ j'.seq = (u.act a).rch.nextSeq ∧ j'.bank = j.bank ∧
          j'.miss = j.miss ∧
        j'.gateAt = j.gateAt ∧ j'.syncA = u.findA j.req ((u.captureOf a j x).llrs.map hardBit)) ∧
      ∀ r, (f r).ops = r.ops ∧ (f r).reading = true ∧ (f r).capSeq = (u.act a).rch.nextSeq ∧
        (f r).next = BitVec.ofNat 3 (k + 1) ∧
        (f r).now = some j' ∧ (f r).capture = some (u.captureOf a j x) :=
  ⟨_, _, _, rfl, ⟨rfl, rfl, rfl, rfl, rfl, rfl, rfl⟩, fun _ => ⟨rfl, rfl, rfl, rfl, rfl, rfl⟩⟩

theorem gate_captures {a : Fin 4} {x : GateInputs} {op : ReadOp} {rest : List ReadOp} {req : SectorReq} {b k : Nat} {s : State}
    (hops : (s.act a).rch.ops = op :: rest) (hone : op.sectors = [req])
    (hfirst : (s.act a).rch.opIndex = 0) (hnow : (s.act a).rch.now = none)
    (hservo : s.domOn (20 + a.val) = true) (hmedia : s.domOn (24 + a.val) = true)
    (hbank : chooseBank (s.act a).rch.banks 8 64 s.multMax op.head.toNat op.zone.toNat = some (b, 1))
    (hslot : (s.act a).rch.freeSlot = some k) (hwf : Memory.wf s.fab.mem = true) :
    Completes (.readGateOpen a x) s fun t => (t.act a).rch.ops = rest ∧ (t.act a).rch.reading = true ∧
      (t.act a).rch.capSeq = (if (s.act a).rch.capSeq + 1 = 0 then 1 else (s.act a).rch.capSeq + 1) ∧
      (t.act a).rch.next = BitVec.ofNat 3 (k + 1) ∧
      ((t.act a).rch.now.map fun j => (j.req, j.slot, j.seq)) = some (req, BitVec.ofNat 3 k, (t.act a).rch.capSeq) ∧
      ((t.act a).rch.now.map fun j => (j.bank, j.miss, j.gateAt)) = some (BitVec.ofNat 3 b, false, s.now) ∧
      (t.act a).rch.capture.isSome = true ∧
      ((t.act a).rch.now.map fun j => j.syncA) = ((t.act a).rch.capture.map fun c => s.findA req
          (c.llrs.map hardBit)) ∧
      t.word (slotBase a k + 4) = 0x40000000 ∧ MemoryOutside (slotBase a k + 4) 4 s t ∧
        (∀ c, c ≠ a → t.act c = s.act c) := by
  have hexec : exec (.readGateOpen a x) s = .next
      ((s.onRch a fun r => { r with ops := rest, opIndex := 0 }).ledOn.captureStart a
          (s.gateJob a op req b) k x) := by
    rw [gateOpen_exec hops hone hfirst hnow hservo hmedia hbank, hslot, State.nextSector_last hops hone hfirst]
  refine ⟨_, hexec, ?_⟩
  generalize hu : (s.onRch a fun r => { r with ops := rest, opIndex := 0 }).ledOn = u
  have hurch : (u.act a).rch = { (s.act a).rch with ops := rest, opIndex := 0 } := by
    rw [← hu, State.act_ledOn]
    exact State.rch_onRch a _ s
  have hudict : u.dict = s.dict := by rw [← hu]; rfl
  have humem : u.fab.mem = s.fab.mem := by rw [← hu]; rfl
  have huact : ∀ c, c ≠ a → u.act c = s.act c := fun c hc => by
    rw [← hu, State.act_ledOn]
    exact State.act_onRch_ne hc _ s
  have hfind : ∀ bits, u.findA req bits = s.findA req bits := fun bits => by
    simp only [State.findA, State.p4400MarkErr, State.p4400MarkWin, State.odNat, hudict]
  obtain ⟨f, j, found, hstart, ⟨hreq, hslot', hseq, hbank', hmiss, hgate, hsync⟩, hf⟩ :=
    u.captureStart_starts a (s.gateJob a op req b) k x
  rw [hstart]
  obtain ⟨hops', hreading, hcapSeq, hnext, hnow', hcapture⟩ := hf ((u.setSlotWord a k 4 0x40000000).act a).rch
  generalize hv : (u.setSlotWord a k 4 0x40000000).onRch a f = v
  have hvrch : (v.act a).rch = f ((u.setSlotWord a k 4 0x40000000).act a).rch := by
    rw [← hv]
    exact State.rch_onRch a f _
  have hmarks : Only [.dict, .msgs] v (v.markEvents a j found) :=
    (State.markEvents_only a j found v (by simp) (by simp) v).2 (.refl _ v)
  have hact : ∀ c, (v.markEvents a j found).act c = v.act c := fun c => hmarks.act c (by simp)
  have huops : ((u.setSlotWord a k 4 0x40000000).act a).rch.ops = rest := by
    show (u.act a).rch.ops = rest
    rw [hurch]
  have huseq : (u.act a).rch.nextSeq = if (s.act a).rch.capSeq + 1 = 0 then 1 else (s.act a).rch.capSeq + 1 := by
    rw [hurch]
    rfl
  have hmem : (v.markEvents a j found).fab.mem = (s.setWord (slotBase a k + 4) 0x40000000).fab.mem := by
    rw [hmarks.mem (by simp), ← hv]
    show memWrite u.fab.mem _ _ = memWrite s.fab.mem _ _
    rw [humem]
    rfl
  rw [hact, hvrch]
  refine ⟨hops'.trans huops, hreading, hcapSeq.trans huseq, hnext, ?_, ?_, ?_, ?_, ?_, ?_, fun c hc => ?_⟩
  · rw [hnow', hcapSeq]
    exact congrArg some (Prod.ext hreq (Prod.ext hslot' hseq))
  · rw [hnow']
    exact congrArg some (Prod.ext hbank' (Prod.ext hmiss hgate))
  · rw [hcapture]
    rfl
  · rw [hnow', hcapture]
    exact congrArg some (hsync.trans (hfind _))
  · have hword : ∀ t t' : State, t.fab.mem = t'.fab.mem → t.word (slotBase a k + 4) = t'.word (slotBase a k + 4) :=
      fun t t' h => by
      simp only [State.word, State.read, h]
    rw [hword _ _ hmem]
    exact State.word_setWord hwf _ _
  · intro n hn
    rw [hmem]
    exact State.setWord_outside hwf _ _ n hn
  · rw [hact, ← hv, State.act_onRch_ne hc]
    exact huact c hc

/-! Memory within a slot (07 R217, R218). -/

/-- Memory keeps its form, and changes within so many bytes from an address alone. -/
def WritesWithin (lo n : Nat) (s t : State) : Prop :=
  Memory.wf s.fab.mem = true → Memory.wf t.fab.mem = true ∧ MemoryOutside lo n s t

theorem WritesWithin.of_mem {lo n : Nat} {s t : State} (h : t.fab.mem = s.fab.mem) : WritesWithin lo n s t :=
  fun hwf => ⟨h ▸ hwf, fun _ _ => by rw [h]⟩

theorem WritesWithin.trans {lo n : Nat} {s t u : State} (h : WritesWithin lo n s t) (k : WritesWithin lo n t u) :
    WritesWithin lo n s u := fun hwf =>
  ⟨(k (h hwf).1).1, fun x hx => ((k (h hwf).1).2 x hx).trans ((h hwf).2 x hx)⟩

theorem WritesWithin.write {lo n a : Nat} {b : List Byte} (s : State) (hlo : lo ≤ a) (hhi : a + b.length ≤ lo + n) :
    WritesWithin lo n s (s.write a b) := fun hwf =>
  ⟨State.write_wf hwf a b, fun x hx => State.write_outside hwf a b x (by omega)⟩

theorem WritesWithin.clear {lo n a b : Nat} (s : State) (hlo : lo ≤ a) (hhi : b ≤ lo + n) :
    WritesWithin lo n s (s.onFab fun f => { f with mem := memClear f.mem a b }) := fun hwf =>
  ⟨memClear_wf hwf a b, fun x hx => by
    show memByte (memClear s.fab.mem a b) x = _
    rw [memByte_memClear, if_neg (by omega)]⟩

/-- A word of a slot written. -/
theorem WritesWithin.setSlotWord {a : Fin 4} {k off v : Nat} (s : State) (hoff : off + 4 ≤ 0x10000) :
    WritesWithin (slotBase a k) 0x10000 s (s.setSlotWord a k off v) :=
  .write s (Nat.le_add_right _ _) (by rw [leBytes_length]; omega)

/-- A word outside what is written reads as before. -/
theorem State.word_outside {lo n w : Nat} {s t : State} (h : MemoryOutside lo n s t) (hw : w + 4 ≤ lo ∨ lo + n ≤ w) :
    t.word w = s.word w := by
  have hread : ∀ m c, c + m ≤ lo ∨ lo + n ≤ c → memRead t.fab.mem c m = memRead s.fab.mem c m := by
    intro m
    induction m with
    | zero => exact fun _ _ => rfl
    | succ m ih => exact fun c hc => by rw [memRead, memRead, h c (by omega), ih (c + 1) (by omega)]
  rw [State.word, State.word, State.read, State.read, hread 4 w hw]

/-- The offsets of a header. -/
theorem SectorJob.header_offsets (j : SectorJob) (x : Capture) : ∀ w ∈ j.header x, w.1 + 4 ≤ 0x10000 := by
  intro w hw
  simp only [SectorJob.header, List.mem_append, List.mem_cons, List.not_mem_nil, or_false, List.mem_map,
    List.mem_range] at hw
  rcases hw with hw | ⟨i, hi, rfl⟩
  · rcases hw with rfl | rfl | rfl | rfl | rfl | rfl | rfl | rfl | rfl | rfl | rfl | rfl | rfl | rfl <;> simp
  · dsimp only
    omega

/-- What every step of a fold over a list keeps, the fold keeps. -/
theorem foldS_keeps_mem {α σ : Type} {P : σ → Prop} {f : α → σ → σ} {l : List α}
    (h : ∀ x s, P s → x ∈ l → P (f x s)) {s : σ} (hs : P s) :
    P (foldS f l s) := by
  induction l generalizing s with
  | nil => exact hs
  | cons x r ih => exact ih (fun y t ht hy => h y t ht (List.mem_cons_of_mem _ hy)) (h x s hs List.mem_cons_self)

theorem length_sampleBytes (l : List (BitVec 7)) : (sampleBytes l).length = (7 * l.length + 7) / 8 :=
    leBytes_length _ _

/-- The pins of a slot shown. -/
theorem State.showPins_writes (a : Fin 4) (k : Nat) (s : State) : ∃ v, s.showPins a k = s.setSlotWord a k 4 v ∧
    v = withBit (withBit (s.slotWord a k 4) 29 ((s.act a).rch.resPin.getLsbD k)) 28
      ((s.act a).rch.guestPin.getLsbD k) :=
  ⟨_, rfl, rfl⟩

/-- A capture stored: the samples and the header first, then its number, VALID last. -/
theorem State.captureStore_ends (a : Fin 4) (j : SectorJob) (x : Capture) (s : State) (hA : x.samplesA.length ≤ 37296)
    (hB : x.samplesB.length ≤ 37296) : ∃ (u : State) (f : Rch → Rch),
      s.captureStore a j x = ((((u.setSlotWord a j.slot.toNat 0 j.seq.toNat).onRch a f).setSlotWord a j.slot.toNat 4 0x80000000).showPins a j.slot.toNat) ∧
      WritesWithin (slotBase a j.slot.toNat) 0x10000 s u ∧ Only [.mem] s u ∧
      ∀ r, (f r).now = r.now ∧ (f r).capture = r.capture ∧ (f r).reading = r.reading := by
  refine ⟨_, _, rfl, ?_, ?_, fun _ => ⟨rfl, rfl, rfl⟩⟩
  · have hclear := WritesWithin.clear (lo := slotBase a j.slot.toNat) (n := 0x10000)
      (a := slotBase a j.slot.toNat + 0x100)
      (b := slotBase a j.slot.toNat + 0x10000) s (by omega) (by omega)
    have hsamplesA := fun t : State => WritesWithin.write (lo := slotBase a j.slot.toNat) (n := 0x10000)
      (a := slotBase a j.slot.toNat + 0x100) (b := sampleBytes x.samplesA) t (by omega)
          (by rw [length_sampleBytes]; omega)
    have hsamplesB := fun t : State => WritesWithin.write (lo := slotBase a j.slot.toNat) (n := 0x10000)
      (a := slotBase a j.slot.toNat + 0x8080) (b := sampleBytes x.samplesB) t (by omega)
          (by rw [length_sampleBytes]; omega)
    refine foldS_keeps_mem (fun w t ht hw => ht.trans (.setSlotWord t (j.header_offsets x w hw)))
      ((hclear.trans (hsamplesA _)).trans (hsamplesB _))
  · refine (Only.foldS fun w t => (State.setSlotWord_only _ _ _ _ t (by simp) t).2 (.refl [.mem] t)).2 ?_
    exact (State.write_only (by simp) _ _ _ _).2 ((State.write_only (by simp) _ _ _ _).2
      { Only.refl [.mem] s with mem := fun n => absurd (by simp) n })

/-! The read gate closes (07 R207, R216, R219). -/

/-- No sector is read. -/
def Rch.shut (r : Rch) : Prop := r.now = none ∧ r.capture = none ∧ r.reading = false

/-- What a capture stored leaves in its slot and in its read channel. -/
theorem State.captureStore_stores {a : Fin 4} {j : SectorJob} {x : Capture} {s : State}
    (hA : x.samplesA.length ≤ 37296)
    (hB : x.samplesB.length ≤ 37296) (hwf : Memory.wf s.fab.mem = true) (hshut : (s.act a).rch.shut) :
    (s.captureStore a j x).slotWord a j.slot.toNat 0 = j.seq.toNat ∧
        (s.captureStore a j x).slotValid a j.slot.toNat = true ∧
      (s.captureStore a j x).slotCapturing a j.slot.toNat = false ∧
      MemoryOutside (slotBase a j.slot.toNat) 0x10000 s (s.captureStore a j x) ∧
      Only [.act a, .mem] s (s.captureStore a j x) ∧ ((s.captureStore a j x).act a).rch.shut := by
  obtain ⟨u, f, hstore, hwithin, hframe, hf⟩ := State.captureStore_ends a j x s hA hB
  rw [hstore]
  obtain ⟨huwf, -⟩ := hwithin hwf
  generalize hv : (u.setSlotWord a j.slot.toNat 0 j.seq.toNat).onRch a f = v
  have hvmem : v.fab.mem = (u.setSlotWord a j.slot.toNat 0 j.seq.toNat).fab.mem := by rw [← hv]; rfl
  have hvwf : Memory.wf v.fab.mem = true := hvmem ▸ State.write_wf huwf _ _
  have hvseq : v.word (slotBase a j.slot.toNat + 0) = j.seq := by
    rw [State.word, State.read, hvmem]
    exact (State.word_setWord huwf _ _).trans (BitVec.ofNat_toNat 32 j.seq ▸ rfl)
  have hvframe : Only [.act a, .mem] s v := by
    rw [← hv]
    exact (State.onRch_only a (.inl (by simp)) _ _ _).2 ((State.setSlotWord_only _ _ _ _ u (by simp) s).2
      (hframe.mono (by simp)))
  have hvshut : (v.act a).rch.shut := by
    obtain ⟨hnow, hcapture, hreading⟩ := hf ((u.setSlotWord a j.slot.toNat 0 j.seq.toNat).act a).rch
    have hsame : (u.setSlotWord a j.slot.toNat 0 j.seq.toNat).act a = s.act a := hframe.act a (by simp)
    rw [hsame] at hnow hcapture hreading
    rw [← hv, State.rch_onRch, hsame]
    exact ⟨hnow.trans hshut.1, hcapture.trans hshut.2.1, hreading.trans hshut.2.2⟩
  obtain ⟨w, hpins, hw⟩ := State.showPins_writes a j.slot.toNat (v.setSlotWord a j.slot.toNat 4 0x80000000)
  rw [hpins]
  have hw4 : (v.setSlotWord a j.slot.toNat 4 0x80000000).slotWord a j.slot.toNat 4 = 0x80000000 := by
    rw [State.slotWord, State.setSlotWord, State.word_setWord hvwf]
    rfl
  rw [hw4] at hw
  have hbits : ∀ p q : Bool, withBit (withBit 0x80000000 29 p) 28 q < 2 ^ 32 ∧
      bitOf (withBit (withBit 0x80000000 29 p) 28 q) 31 = true ∧
        bitOf (withBit (withBit 0x80000000 29 p) 28 q) 30 = false := by
    decide
  obtain ⟨hlt, hvalid, hcapturing⟩ := hbits (((v.setSlotWord a j.slot.toNat 4 0x80000000).act a).rch.resPin.getLsbD j.slot.toNat)
    (((v.setSlotWord a j.slot.toNat 4 0x80000000).act a).rch.guestPin.getLsbD j.slot.toNat)
  rw [← hw] at hlt hvalid hcapturing
  have hmid : Memory.wf (v.setSlotWord a j.slot.toNat 4 0x80000000).fab.mem = true := State.write_wf hvwf _ _
  have hlast : ((v.setSlotWord a j.slot.toNat 4 0x80000000).setSlotWord a j.slot.toNat 4 w).slotWord a j.slot.toNat 4 = w := by
    rw [State.slotWord, State.setSlotWord, State.word_setWord hmid, BitVec.toNat_ofNat, Nat.mod_eq_of_lt hlt]
  have hkeep : ∀ (t : State) (n : Nat), Memory.wf t.fab.mem = true →
      (t.setSlotWord a j.slot.toNat 4 n).word (slotBase a j.slot.toNat + 0) = t.word (slotBase a j.slot.toNat + 0) :=
    fun t n h => State.word_outside (State.setWord_outside h _ _) (.inl (by omega))
  refine ⟨?_, ?_, ?_, ?_, ?_, ?_⟩
  · rw [State.slotWord, hkeep _ _ hmid, hkeep _ _ hvwf, hvseq]
  · rw [State.slotValid, hlast]
    exact hvalid
  · rw [State.slotCapturing, hlast]
    exact hcapturing
  · have hv' : WritesWithin (slotBase a j.slot.toNat) 0x10000 s v := by
      have hseq := hwithin.trans (.setSlotWord (a := a) (k := j.slot.toNat) (off := 0) (v := j.seq.toNat) u
        (by omega))
      rw [← hv]
      exact hseq.trans (.of_mem rfl)
    exact (((hv'.trans (.setSlotWord v (by omega))).trans (.setSlotWord _ (by omega))) hwf).2
  · exact (State.setSlotWord_only _ _ _ _ _ (by simp) s).2 ((State.setSlotWord_only _ _ _ _ v (by simp) s).2 hvframe)
  · exact hvshut

/-- What regions and a lost lock leave when they are told: memory, the other actuators, and which readers are on. -/
structure Told (a : Fin 4) (s t : State) : Prop where
  frame : Only [.act a, .dict, .msgs] s t
  readers : t.p4000ReaderEnable a = s.p4000ReaderEnable a

theorem Told.refl (a : Fin 4) (s : State) : Told a s s := ⟨.refl _ s, rfl⟩

theorem Told.trans {a : Fin 4} {s t u : State} (h : Told a s t) (k : Told a t u) : Told a s u :=
  ⟨h.frame.trans k.frame, k.readers.trans h.readers⟩

/-- A count of another object leaves which readers are on. -/
theorem State.readers_countA {a : Fin 4} {key n : Nat} (s : State) (h : key ≠ 0x40000B) :
    (s.countA key a n).p4000ReaderEnable a = s.p4000ReaderEnable a := by
  have hkey : 0x40000B + 0x10000 * a.val ≠ key + 0x10000 * a.val := by omega
  exact KeepsObjects.count (key + 0x10000 * a.val) n s _ hkey 3

theorem Told.regionSeen (a : Fin 4) (x : Region) (s : State) : Told a s (s.regionSeen a x) := by
  refine ⟨(State.regionSeen_only a x s (.inl (by simp)) (by simp) (by simp) s).2 (.refl _ s), ?_⟩
  rw [State.regionSeen, State.readers_countA _ (by split <;> decide)]
  have hevent : ∀ t : State, (t.actEvent a 3 14 (regionWord x)).dict = t.dict := fun t =>
    ((State.actEvent_only a 3 14 _ t (by simp) t).2 (.refl [.msgs] t)).dict (by simp)
  rw [State.p4000ReaderEnable, State.odNat, hevent]
  rfl

theorem Told.timingLost (a : Fin 4) (s : State) : Told a s (s.timingLost a) := by
  refine ⟨(State.timingLost_only a s (.inl (by simp)) (by simp) (by simp) s).2 (.refl _ s), ?_⟩
  rw [State.timingLost, State.readers_countA _ (by decide)]
  have hfault : ∀ t : State, (t.actFault a 3 8 2).dict = t.dict := fun t =>
    ((State.actFault_only a 3 8 2 t (by simp) t).2 (.refl [.msgs] t)).dict (by simp)
  rw [State.p4000ReaderEnable, State.odNat, hfault]
  rfl

/-- The erasures of a sector are the same for the same readers. -/
theorem Told.erasures {a : Fin 4} {s t : State} (h : Told a s t) (j : SectorJob) :
    t.erasuresOf a j = s.erasuresOf a j := by
  simp only [State.erasuresOf, State.readerOff, h.readers]

/-- A flag raised with a fault leaves the read channel shut. -/
structure Flagged (a : Fin 4) (s t : State) : Prop where
  frame : Only [.act a, .msgs] s t
  shut : (s.act a).rch.shut → (t.act a).rch.shut

theorem Flagged.refl (a : Fin 4) (s : State) : Flagged a s s := ⟨.refl _ s, id⟩

theorem Flagged.trans {a : Fin 4} {s t u : State} (h : Flagged a s t) (k : Flagged a t u) : Flagged a s u :=
  ⟨h.frame.trans k.frame, k.shut ∘ h.shut⟩

theorem Flagged.doIf {a : Fin 4} {s t : State} {f : State → State} (c : Bool) (h : Flagged a s t)
    (k : Flagged a t (f t)) :
    Flagged a s (t.doIf c f) := by
  rw [State.doIf]
  split
  · exact h.trans k
  · exact h

theorem Flagged.actFault (a : Fin 4) (k off kind : Nat) (s : State) : Flagged a s (s.actFault a k off kind) := by
  have hframe : Only [.msgs] s (s.actFault a k off kind) :=
    (State.actFault_only a k off kind s (by simp) s).2 (.refl _ s)
  exact ⟨hframe.mono (by simp), fun h => by rw [hframe.act a (by simp)]; exact h⟩

theorem Flagged.rchFlag (a : Fin 4) (n : Nat) (s : State) : Flagged a s (s.rchFlag a n) := by
  refine ⟨(State.onRch_only a (.inl (by simp)) _ _ _).2 (.refl _ s), fun h => ?_⟩
  rw [State.rchFlag, State.rch_onRch]
  exact h

theorem Flagged.tapWriteBack (a : Fin 4) (j : SectorJob) (s : State) : Flagged a s (s.tapWriteBack a j) := by
  refine ⟨(State.tapWriteBack_only a j s (.inl (by simp)) s).2 (.refl _ s), fun h => ?_⟩
  rw [State.tapWriteBack, State.rch_onRch]
  split <;> exact h

/-- What a capture's samples tell when its gate closes. -/
theorem Flagged.samples (a : Fin 4) (j : SectorJob) (x : Capture) (s : State) :
    Flagged a s ((((s.tapWriteBack a j).doIf (adcSaturated x.samplesA || adcSaturated x.samplesB) fun t =>
      (t.rchFlag a 1).actFault a 3 8 0).doIf x.atLimit fun t => (t.rchFlag a 2).actFault a 3 8 1).doIf
        (stillPath x.samplesA || stillPath x.samplesB) fun t => t.actFault a 3 8 3) :=
  (((Flagged.tapWriteBack a j s).doIf _ ((Flagged.rchFlag a 1 _).trans (.actFault a 3 8 0 _))).doIf _
    ((Flagged.rchFlag a 2 _).trans (.actFault a 3 8 1 _))).doIf _ (.actFault a 3 8 3 _)

theorem gate_closes {a : Fin 4} {x : Capture} {j : SectorJob} {s : State} (hnow : (s.act a).rch.now = some j)
    (hcapture : (s.act a).rch.capture = some x) (hstaged : j.staged = true) (hmarks : j.marks ≠ .neither)
    (hwhole : x.truncated = false)
    (herased : s.erasuresOf a { j with regions := x.regions, truncated := false } ≤ bankField j.words 33 0 16)
    (hpast : s.bitsPast a j.words (max x.samplesA.length x.samplesB.length) j.gateAt = true)
    (hA : x.samplesA.length ≤ 37296) (hB : x.samplesB.length ≤ 37296) (hwf : Memory.wf s.fab.mem = true) :
    Completes (.readGateClose a false) s fun t => (t.act a).rch.now = none ∧ (t.act a).rch.capture = none ∧
      (t.act a).rch.reading = false ∧ t.slotWord a j.slot.toNat 0 = j.seq.toNat ∧ t.slotValid a j.slot.toNat = true ∧
      t.slotCapturing a j.slot.toNat = false ∧ MemoryOutside (slotBase a j.slot.toNat) 0x10000 s t ∧ t.pool = s.pool ∧
      (∀ c, c ≠ a → t.act c = s.act c) := by
  have hexec : exec (.readGateClose a false) s = .next (s.gateClose a j x) := by
    change execReadGateClose .. = _
    rw [execReadGateClose, hnow, hcapture]
    dsimp only
    rw [if_pos (by simp [hwhole, hpast])]
  refine ⟨_, hexec, ?_⟩
  rw [State.gateClose]
  have hregions : Told a s (foldS (fun r t => t.regionSeen a r)
    (x.regions.filter fun r => !j.regions.contains r) s) :=
    foldS_keeps (Told a s) _ (fun r t ht => ht.trans (.regionSeen a r t)) _ (.refl a s)
  generalize foldS (fun r t => t.regionSeen a r) (x.regions.filter fun r => !j.regions.contains r) s = t at hregions ⊢
  have hlost : Told a s (t.doIf (x.lost && (t.act a).rch.trLock) (State.timingLost a)) := by
    rw [State.doIf]
    split
    · exact hregions.trans (.timingLost a t)
    · exact hregions
  dsimp only
  generalize t.doIf (x.lost && (t.act a).rch.trLock) (State.timingLost a) = u at hlost ⊢
  rw [hwhole, if_neg Bool.false_ne_true, if_neg hmarks, hlost.erasures, if_neg (Nat.not_lt.2 herased), if_pos hstaged]
  generalize hv : State.onRch a _ u = v
  have hvframe : Only [.act a] u v := by
    rw [← hv]
    exact (State.onRch_only a (.inl (by simp)) _ _ _).2 (.refl _ u)
  have hvshut : (v.act a).rch.shut := by
    rw [← hv, State.rch_onRch]
    exact ⟨rfl, rfl, rfl⟩
  generalize hj : ({ j with regions := x.regions, truncated := false, erasures := s.erasuresOf a { j with regions := x.regions, truncated := false } } : SectorJob) = j'
  have hslot : j'.slot = j.slot := by rw [← hj]
  have hseq : j'.seq = j.seq := by rw [← hj]
  have hvmem : v.fab.mem = s.fab.mem := (hvframe.mem (by simp)).trans (hlost.frame.mem (by simp))
  obtain ⟨hnumber, hvalid, hcapturing, houtside, hstore, hshut⟩ :=
    State.captureStore_stores (j := j') (x := x) hA hB (hvmem ▸ hwf) hvshut
  rw [hslot] at hnumber hvalid hcapturing houtside
  rw [hseq] at hnumber
  generalize v.captureStore a j' x = w at hnumber hvalid hcapturing houtside hstore hshut ⊢
  generalize ht : State.doIf (stillPath x.samplesA || stillPath x.samplesB) _ _ = t
  have hends : Flagged a w t := ht ▸ Flagged.samples a j' x w
  obtain ⟨hnow', hcapture', hreading'⟩ := hends.shut hshut
  have hmem := hends.frame.mem (by simp)
  have hall := ((hlost.frame.mono (m := [.act a, .dict, .mem, .msgs]) (by simp)).trans (hvframe.mono (by simp))).trans
    ((hstore.mono (by simp)).trans (hends.frame.mono (by simp)))
  refine ⟨hnow', hcapture', hreading', ?_, ?_, ?_, fun n hn => ?_, hall.pool (by simp),
    fun c hc => hall.act c (by simp [hc])⟩
  · simpa only [State.slotWord, State.word, State.read, hmem] using hnumber
  · simpa only [State.slotValid, State.slotWord, State.word, State.read, hmem] using hvalid
  · simpa only [State.slotCapturing, State.slotWord, State.word, State.read, hmem] using hcapturing
  · rw [hmem, houtside n hn, hvmem]

/-- Settles O25: a read waits with its operations, a gate opens by the banks and slots there are, and what its samples hold
is told, and stored when it closes. -/
theorem readOperationsChooseBanksAndCapture : Obligations.ReadOperationsChooseBanksAndCapture := by
  unfold Obligations.ReadOperationsChooseBanksAndCapture
  refine ⟨?_, ?_, ?_, ?_, ?_, ?_, ?_⟩
  · rintro a op b s ⟨hpresent, hroom, hbank⟩
    exact post_joins hpresent hroom hbank
  · rintro a op s ⟨hpresent, hroom, hbank⟩
    exact post_withoutBank hpresent hroom hbank
  · rintro a x op rest req b k s ⟨hops, hone, hfirst, hnow, hservo, hmedia, hbank, hslot, hwf⟩
    exact gate_captures hops hone hfirst hnow hservo hmedia hbank hslot hwf
  · rintro a x op rest req b s ⟨hpresent, hops, hone, hladder, -, hfirst, hnow, hservo, hmedia, hbank, hslot⟩
    exact gate_withoutSlot hpresent hops hone hladder hfirst hnow hservo hmedia hbank hslot
  · rintro a x j c s ⟨hpresent, hnow, hcapture, hfound, hnew⟩
    exact region_isSeen hpresent hnow hcapture hfound hnew
  · rintro a c s ⟨hpresent, hreading, hlock, hcapture, hlost⟩
    exact timing_isLost hpresent hreading hlock hcapture hlost
  · rintro a x j s ⟨hnow, hcapture, hstaged, hmarks, hwhole, herased, hpast, hA, hB, hwf⟩
    exact gate_closes hnow hcapture hstaged hmarks hwhole herased hpast hA hB hwf

end Sys2Proof.Machine
